-- ==== Sys2Proof/Word.lean ====
section
/-! DEFINITION. The plain word types of the DV8 module: bytes, 64-bit register words. -/

namespace Sys2Proof

/-- A byte of memory, of a frame's payload or of a mailbox payload. -/
abbrev Byte := BitVec 8

/-- A 64-bit register word (R14). -/
abbrev Word := BitVec 64

end Sys2Proof
end

