-- ==== Sys2Proof/Syntax.lean ====
section
/-! DEFINITION. The commands of the block: one constructor of `Instr` per row of spec/opcode_table.json, and the
frame and fault-message forms the commands carry. A command's operands are what only the outside of the block (or the
physical world) settles: a frame that arrives, a value written, a temperature measured, a lane that fails. -/

namespace Sys2Proof

/-- A fabric frame: the header fields of R80 by their names, and the payload. LENGTH is the payload's length. -/
structure Frame where
  kind : Nat
  vc : Nat
  dl : Nat
  dim : Nat
  closing : Bool
  epoch : Nat
  destKind : Nat
  spray : Nat
  detour : Bool
  colour : Nat
  party : Nat
  srcRank : Nat
  dstRank : Nat
  dstCoord : Nat
  dstPort : Nat
  srcCoord : Nat
  srcPort : Nat
  stream : Nat
  seq : Nat
  streamValid : Bool
  address : Nat
  tag : Nat
  payload : List Byte
  /-- Pairs of the payload that were read as poison (R342): the piece of a page carries them in their places (log entry 173). -/
  poison : List Nat := []
  deriving DecidableEq, Repr, Inhabited

/-- Where an uncorrectable error of the buffer, link or descriptor RAM lies (R124). -/
inductive BufferUe where
  /-- In the bytes of the frame with this descriptor number. -/
  | frameBytes (desc : Nat)
  /-- In a pointer of this vacancy bank. -/
  | vacancy (bank : Nat)
  /-- In the link or a descriptor of this egress queue. -/
  | queue (port vc sub : Nat)
  deriving DecidableEq, Repr

/-- What a bring-up stage of a port found (R369, R370, R372). Masks are by this end's lane index. -/
structure StageFinding where
  openMask : Nat
  shortMask : Nat
  failedMask : Nat
  /-- Stage 2: the identity word that each lane has accepted, by lane index, as it was received; another value where the lane has none. -/
  words : List Nat
  /-- Stage 8: the far end's identity frame is the one expected (R68). -/
  identityOk : Bool
  /-- Auto-negotiation: the row of R359 settled. -/
  ethRow : Nat
  deriving DecidableEq, Repr, Inhabited

/-- How the third run of a duplicated product compares (R263): which tile lost, or none agree. -/
inductive DupOutcome where
  /-- The original's tile is one of two that agree. -/
  | originalAgrees
  /-- The duplicate's tile is one of two that agree, the original's differs. -/
  | duplicateAgrees
  /-- No two tiles agree. -/
  | noMajority
  deriving DecidableEq, Repr

/-- The commands of the block, one constructor per row of the table. -/
inductive Instr where
  /-- R12: the reset signal, or the reset after a mailbox RESET. -/
  | warmReset
  /-- R455: the auxiliary supply is removed. -/
  | powerCycle
  /-- R459: the main input is lost. -/
  | powerOff
  /-- R459 event 4. -/
  | railsDischarged
  /-- R452: the input has lain in its range for 100 ms. -/
  | inputSwitchClose
  /-- R453: input at 52.0 to 54.0 V; volts in units of 10 mV. -/
  | inputLow (vin : Nat)
  /-- R453: input above 54.0 V for 100 ms. -/
  | inputRecovered (vin : Nat)
  /-- R453: input below 52.0 V for 20 µs. -/
  | undervoltage (vin : Nat)
  /-- R453: input at 66.0 to 80.0 V for at most 100 ms. -/
  | surge (vin : Nat)
  /-- R453: input above 80 V, or above 66 V for more than 100 ms. -/
  | overvoltage (vin : Nat)
  /-- R453: reversed input, VIN as the 16-bit two's complement register value. -/
  | reverse (vin : Nat)
  /-- R453: current held at 55 A for 2 ms. -/
  | overcurrent
  /-- R454: PH_INPUT_CTRL.RETRY written 1. -/
  | retry
  /-- R456: a power stage fails. -/
  | powerStageFail (stage : Nat)
  /-- R458: all main islands report stable rails. -/
  | railsStable
  /-- R117: the vacancy banks are threaded. -/
  | vacancyThreadDone
  /-- R344: a stack's power-on fill completes. -/
  | stackFillDone (stack : Nat)
  /-- R344: 60 ms passed in a stack's fill. -/
  | fillLate (stack : Nat)
  /-- R50 events 2 and 3. -/
  | musterMark
  /-- R50 events 4 and 5: the islands with a failing crossing, and the trunk ports whose crossing fails. -/
  | musterCheck (failing : List Nat) (crossings : List Nat := [])
  /-- R51. -/
  | islandOutOfMuster (island : Nat)
  /-- R51. -/
  | remusterDone (island : Nat)
  /-- R369: 200 ms after PHASE 0x4 began. -/
  | bringupDeadline
  /-- R65, R66: request bytes 2:1, 3, 4 and 5. -/
  | setCoord (coord sizeX1 sizeY1 sizeZ1 : Nat)
  /-- R38, R66: request bytes 2:1, 3 and 4. -/
  | setRoot (coord ptpPort source : Nat)
  /-- R66: BAR0 offset. -/
  | readReg (offset : Nat)
  /-- R444: slot of the failed component, number of the 4 KiB piece, its bytes. -/
  | recoverWrite (slotB : Bool) (piece : Nat) (data : List Byte)
  /-- R66: an unlisted command code. -/
  | mctpUnknownCommand (code : Nat)
  /-- R11, R14: a write of `size` (4 or 8) bytes at a BAR0 offset. -/
  | registerWrite (offset size value : Nat)
  /-- R39, R42: an exchange interval; t_A of the SYNC sent, in 1/65,536 tick. -/
  | syncInterval (tA : Nat)
  /-- R41: a SYNC arrives from direction `dir` (bundle numbers of R363); t_B and the reply's t_C in 1/65,536 tick. -/
  | sync (dir : Nat) (f : Frame) (tB tC : Nat)
  /-- R42: a SYNC_REPLY arrives; t_D in 1/65,536 tick. -/
  | syncReply (dir : Nat) (f : Frame) (tD : Nat)
  /-- R41. -/
  | rootAnnounceSend
  /-- R45: a ROOT_ANNOUNCE arrives; its arrival stamp t_R in 1/65,536 tick. -/
  | rootAnnounce (dir : Nat) (f : Frame) (tR : Nat)
  /-- R45: 64 exchange intervals after BRINGUP_DONE. -/
  | rootWaitEnd
  /-- R42: HOLD_LIMIT elapsed. -/
  | holdLimitExpiry
  /-- R46: BT_CTRL.FORCE_STEP written 1. -/
  | forceStep
  /-- R55, R58: BT_RUN_START (false) or BT_RUN_END (true) written. -/
  | choiceWindowWrite (isEnd : Bool) (tick : Nat)
  /-- R58: the BT_RUN_START tick is reached. -/
  | choiceWindowOpen
  /-- R48, R49: an IEEE 1588 message of this type at an Ethernet port, the PTP time in ns its exchange yields, its Ethernet bytes. -/
  | ptpMessage (port msgType taiNs : Nat) (eth : List Byte)
  /-- R68: the identity frame of the far end of a trunk port. -/
  | trunkIdent (port : Nat) (f : Frame)
  /-- R108: a frame's header becomes usable at a port. -/
  | frameIngress (port : Nat) (f : Frame)
  /-- R113, R474: the tail of the frame the port is receiving arrives. -/
  | frameTailReceived (port : Nat) (sealOk : Bool)
  /-- R132: a frame boundary at an egress port. -/
  | egressSelect (port : Nat)
  /-- R112, R368: a SPOIL block arrives. -/
  | spoil (port : Nat)
  /-- R140 to R143: an Ethernet frame, destination address through FCS, from an Ethernet port or out of a carry frame of an endpoint port. -/
  | bridgeFrame (port : Nat) (eth : List Byte) (fcsOk : Bool)
  /-- R475. -/
  | read (f : Frame)
  /-- R475. -/
  | write (f : Frame)
  /-- R475. -/
  | writePosted (f : Frame)
  /-- R91: entry of the stream ordering table. -/
  | streamCloseRelease (stream : Nat)
  /-- R93. -/
  | streamHoldExpiry (stream : Nat)
  /-- R99. -/
  | sinkLimitExpiry (port vc : Nat)
  /-- R126. -/
  | mcastHoldExpiry (port : Nat)
  /-- R120: the owners of one port. -/
  | creditTopup (port : Nat)
  /-- R139. -/
  | sacrificeStageUpdate
  /-- R124, R395: where the error lies, and the index of its word within the store. -/
  | bufferSramUe (place : BufferUe) (word : Nat := 0)
  /-- R124. -/
  | bankRebuildDone (bank : Nat)
  /-- R76: SW_RANKn. -/
  | rankEntryWrite (n value : Nat)
  /-- R76: SW_PARTYp. -/
  | partyEntryWrite (p value : Nat)
  /-- R93: SW_STREAMn. -/
  | streamEntryWrite (n value : Nat)
  /-- R123, R473: SW_OWNERn. -/
  | ownerMinWrite (n value : Nat)
  /-- R139: SW_SACRIFICE. -/
  | sacrificeThresholdWrite (value : Nat)
  /-- R130: BAR0 offset of word 1 of a policer or VLAN entry. -/
  | twoWordEntryWrite (offset value : Nat)
  /-- R144, R476: SW_TBL_CTRL with WRITE 0. -/
  | swTableRead (value : Nat)
  /-- R144, R476: SW_TBL_CTRL with WRITE 1. -/
  | swTableWrite (value : Nat)
  /-- R196, R476: TL_TBL_CTRL. -/
  | tlTableRead (value : Nat)
  /-- R234, R476: ST_TBL_CTRL. -/
  | stTableRead (value : Nat)
  /-- R476: 0 the switch's window, 1 the tally's, 2 the stays'. -/
  | tableAccessDone (window : Nat)
  /-- R136: SWITCH_TICK of a port. -/
  | curfewSwitchArm (port tick : Nat)
  /-- R137. -/
  | curfewCancel (port : Nat)
  /-- R136. -/
  | curfewSwitchover (port : Nat)
  /-- R134. -/
  | curfewEntryAdvance (port : Nat)
  /-- R191: the context that sees the fence. -/
  | fenceSeen (ctx : Nat)
  /-- R160 to R163. -/
  | claim (f : Frame)
  /-- R165. -/
  | release (f : Frame)
  /-- R157. -/
  | tallyUnlistedKind (f : Frame)
  /-- R167: an OPERAND frame. -/
  | operand (f : Frame)
  /-- R182, R183: the context and the chunk's number g = round × CHUNKS + chunk. -/
  | tallyStep (ctx g : Nat)
  /-- R183, R190: a RESULT reaches a child tally. -/
  | result (f : Frame) (sealOk headerOk : Bool)
  /-- R184. -/
  | ack (f : Frame)
  /-- R166. -/
  | credit (f : Frame)
  /-- R168. -/
  | resend (f : Frame)
  /-- R193. -/
  | fail (f : Frame)
  /-- R187, R188. -/
  | dispatch (f : Frame)
  /-- R190. -/
  | resultAckTimeout (ctx g slot : Nat)
  /-- R191. -/
  | contribResendTimeout (ctx g slot : Nat)
  /-- R192: reason 1 residue, 2 frame ECC, 3 flag store ECC; the chunk's number; the reduction unit of a residue (R154, R393). -/
  | tallyCorruption (ctx reason g : Nat) (unit : Nat := 0)
  /-- R156: TL_POOLp. -/
  | tallyPoolMinWrite (p value : Nat)
  /-- R214, R215. -/
  | open (f : Frame)
  /-- R216 to R218. -/
  | append (f : Frame)
  /-- R217: the stay whose oldest waiting APPEND or truncation proceeds. -/
  | appendResume (index : Nat)
  /-- R219. -/
  | attend (f : Frame)
  /-- R219: the key of the query. -/
  | assembleWaitExpiry (srcCoord srcPort tag : Nat)
  /-- R247, R248: the waiting ATTEND's place in the queue. -/
  | attendPlace (pos : Nat)
  /-- R222. -/
  | fork (f : Frame)
  /-- R213. -/
  | park (f : Frame)
  /-- R225. -/
  | parkToHost (index : Nat)
  /-- R226. -/
  | parkToPeer (index : Nat)
  /-- R225, R227. -/
  | unpark (f : Frame)
  /-- R223. -/
  | close (f : Frame)
  /-- R223. -/
  | closeComplete (index : Nat)
  /-- R211. -/
  | roomUnlistedKind (f : Frame)
  /-- R230. -/
  | mirrorOpen (f : Frame)
  /-- R230. -/
  | mirrorAppend (f : Frame)
  /-- R230. -/
  | mirrorFork (f : Frame)
  /-- R230. -/
  | mirrorClose (f : Frame)
  /-- R230. -/
  | mirrorRoomcopy (f : Frame)
  /-- R231. -/
  | mirrorAck (f : Frame)
  /-- R231. -/
  | mirrorWaitExpiry (index : Nat)
  /-- R226. -/
  | lodgeBook (f : Frame)
  /-- R226. -/
  | lodgeBooked (f : Frame)
  /-- R226. -/
  | lodge (f : Frame)
  /-- R226. -/
  | lodgeAck (f : Frame)
  /-- R227. -/
  | recallReturn (f : Frame)
  /-- R227. -/
  | recallDiscard (f : Frame)
  /-- R227. -/
  | recallPage (f : Frame)
  /-- R227. -/
  | recalled (f : Frame)
  /-- R228. -/
  | eviction
  /-- R232: ST_TAKEOVER with GO. -/
  | takeoverGo (value : Nat)
  /-- R232. -/
  | takeoverDone
  /-- R231: ST_REMIRROR with GO. -/
  | remirror (value : Nat)
  /-- R234: ST_EVICT. -/
  | evictThresholdWrite (value : Nat)
  /-- R224: ST_STABLE (false) or ST_INBOUND (true). -/
  | areaWrite (inbound : Bool) (value : Nat)
  /-- R253: word 1 of CL_BINDn of a cluster. -/
  | bindWrite (cluster n value : Nat)
  /-- R254. -/
  | inbox (f : Frame)
  /-- R264, R265: CL_CTRL of a cluster. -/
  | coreEnableWrite (cluster value : Nat)
  /-- R408: CL_QUAR of a cluster. -/
  | quarantineClear (cluster value : Nat)
  /-- R263: the core whose product differs from its duplicate. -/
  | dupMismatch (core : Nat)
  /-- R263, R405. -/
  | dupThirdRunDone (core : Nat) (outcome : DupOutcome)
  /-- R404: the core, and whether the re-run on its partner passes its own check. -/
  | residueFail (core : Nat) (rerunOk : Bool)
  /-- R293. -/
  | launchFiring (core : Nat)
  /-- R293. -/
  | contFiring (core : Nat)
  /-- R294. -/
  | wakeFiring (core : Nat)
  /-- R293. -/
  | finalRelease (core : Nat)
  /-- R275. -/
  | dispatchResume (core : Nat)
  /-- R276: unit numbers of R274. -/
  | instructionComplete (core unit : Nat)
  /-- R281. -/
  | endBundle (core : Nat)
  /-- R281. -/
  | setx (core : Nat)
  /-- R281. -/
  | madx (core : Nat)
  /-- R282. -/
  | bell (core : Nat)
  /-- R282. -/
  | bellTickReached (core : Nat)
  /-- R281. -/
  | fence (core : Nat)
  /-- R281. -/
  | fenceDrained (core : Nat)
  /-- R283. -/
  | roomld (core : Nat)
  /-- R281. -/
  | lcopy (core : Nat)
  /-- R284, R311. -/
  | mma (core : Nat)
  /-- R286. -/
  | vadd (core : Nat)
  /-- R286. -/
  | vmul (core : Nat)
  /-- R286. -/
  | vfma (core : Nat)
  /-- R286. -/
  | vmax (core : Nat)
  /-- R286. -/
  | vmin (core : Nat)
  /-- R286. -/
  | vsel (core : Nat)
  /-- R286. -/
  | vexp (core : Nat)
  /-- R286. -/
  | vrcp (core : Nat)
  /-- R286, R317. -/
  | vcvt (core : Nat)
  /-- R286. -/
  | vred (core : Nat)
  /-- R286. -/
  | vmask (core : Nat)
  /-- R321. -/
  | histout (core : Nat)
  /-- R287. -/
  | xpose (core : Nat)
  /-- R288. -/
  | handoff (core : Nat)
  /-- R288. -/
  | outbox (core : Nat)
  /-- R288. -/
  | operandInstruction (core : Nat)
  /-- R288. -/
  | recv (core : Nat)
  /-- R295: a core's fault and its code. -/
  | programFault (core code : Nat)
  /-- R301: DV_ITIN_CTRL.VERIFY written 1. -/
  | verify
  /-- R301. -/
  | verifyDone
  /-- R302: DV_ITIN_ACT_TICK written. -/
  | activationArm (tick : Nat)
  /-- R302: DV_ITIN_CTRL.CANCEL written 1. -/
  | activationCancel
  /-- R303. -/
  | imageActivation
  /-- R340: pair address (pool byte address / 64), and the symbols in error with the bits that are flipped. -/
  | pairRead (pair : Nat) (errs : List (Nat × Nat))
  /-- R343: pair address and its 64 bytes. -/
  | pairWrite (pair : Nat) (data : List Byte)
  /-- R335: the symbols that the entry's read finds in error. -/
  | mergeHoldExpiry (pair : Nat) (errs : List (Nat × Nat) := [])
  /-- R327. -/
  | interfaceCrcFail (stack : Nat)
  /-- R337: temperature × 4, 16-bit two's complement. -/
  | thermalReport (stack temp : Nat)
  /-- R356: MEM_THERM. -/
  | thermThresholdWrite (value : Nat)
  /-- R347: MEM_SCRUB_CTRL with GO. -/
  | scrubGo (value : Nat)
  /-- R347: MEM_SCRUB_CTRL with STOP. -/
  | scrubStop
  /-- R348: pairs found with one symbol in error (pair, symbol), pairs found uncorrectable, and the rows each stack had read (of a sweep that ended early). -/
  | scrubDone (corrected : List (Nat × Nat)) (uncorrectable : List Nat) (rows : List Nat := [])
  /-- R350: MEM_REPAIR_CTRL with GO and OP 0. -/
  | repairRow (value : Nat)
  /-- R352: OP 1. -/
  | retireRoom (value : Nat)
  /-- R352: OP 2. -/
  | retireBank (value : Nat)
  /-- R352: OP 3. -/
  | releaseRoom (value : Nat)
  /-- R349, R350: what a row repair's reads find, as SCRUB_DONE has it. -/
  | repairDone (corrected : List (Nat × Nat) := []) (uncorrectable : List Nat := [])
  /-- R354. -/
  | stackDown (stack : Nat)
  /-- R369: the stage the port is in passes, with what it found. -/
  | portStageDone (port : Nat) (found : StageFinding)
  /-- R369: the stage's time runs out, with the lanes that did not pass. -/
  | portStageTimeout (port : Nat) (found : StageFinding)
  /-- R371: what stage 1 senses. -/
  | detectRetry (port : Nat) (partnerFound : Bool)
  /-- R368: the twelve cumulative credit counts, the detour credits and ACK_SEQ. -/
  | status (port : Nat) (credits : List Nat) (detour ackSeq : Nat)
  /-- R374: the number of the uncorrectable codeword; `numbered` false for an unnumbered one. -/
  | codewordUncorrectable (port : Nat) (numbered : Bool)
  /-- R375. -/
  | replayReq (port resumeSeq resumeSlot : Nat)
  /-- R374. -/
  | replayStart (port seq : Nat)
  /-- R374. -/
  | replayReqRepeat (port : Nat)
  /-- R375. -/
  | ackWaitExpiry (port : Nat)
  /-- R376: corrected symbols of each lane index in the window. -/
  | serWindowEnd (port : Nat) (corrected : List Nat)
  /-- R376. -/
  | laneSignalLoss (port lane : Nat)
  /-- R368, R369 stage 6: the partner's usable mask, by this end's lane index. -/
  | laneForm (port mask : Nat)
  /-- R377. -/
  | laneNarrow (port mask : Nat)
  /-- R377. -/
  | narrowDone (port : Nat)
  /-- R379. -/
  | tileFail (tile : Nat)
  /-- R368, R380: power state 1 quiet, 2 sleep, 0 active, and the wake tick of the notice. -/
  | lanePower (port state tick : Nat)
  /-- R382. -/
  | laneWake (port : Nat)
  /-- R384. -/
  | laneDown (port : Nat)
  /-- R381: TX_REQ written 1. -/
  | quietRequest (port : Nat)
  /-- R381: TX_REQ written 2. -/
  | sleepRequest (port : Nat)
  /-- R382: TX_REQ written 0. -/
  | activeRequest (port : Nat)
  /-- R381. -/
  | powerStateEntry (port : Nat)
  /-- R382: queued traffic or owed credit. -/
  | wakeTrigger (port : Nat)
  /-- R383. -/
  | wakeTickWrite (port tick : Nat)
  /-- R383. -/
  | wakeTickReached (port : Nat)
  /-- R380: the transmit (false) or receive (true) direction becomes ACTIVE. -/
  | wakeDone (port : Nat) (receive : Bool)
  /-- R384: ENABLE written 0. -/
  | shutDown (port : Nat)
  /-- R384. -/
  | shutdownDone (port : Nat)
  /-- R385: ENABLE written 1. -/
  | enable (port : Nat)
  /-- R385. -/
  | retrain (port : Nat)
  /-- R391, R392: SOURCE, KIND, ADDRESS of a message that a detecting block sends. -/
  | faultMessage (source kind address : Nat)
  /-- R402. -/
  | ringEntry
  /-- R402: WATCH_INJECT with GO. -/
  | inject (value : Nat)
  /-- R408: PH_PROOF_CTRL with GO. -/
  | proofGo (value : Nat)
  /-- R408. -/
  | proofAutoStart (core : Nat)
  /-- R408: the first failing kernel, if any. -/
  | proofSuiteDone (core : Nat) (failing : Option Nat)
  /-- R409: island slowdowns in ppm, largest loss of EYE_H in %, power-stage wear (thermal cycles, seconds) per stage. -/
  | healthEval (ages : List Nat) (eyeLoss : Nat) (wear : List (Nat × Nat))
  /-- R410. -/
  | riskHistoryAppend
  /-- R411: PH_STOP_CTRL.GO. -/
  | stopoverGo
  /-- R411: PH_STOP_TICK. -/
  | stopTickArm (tick : Nat)
  /-- R419: PH_STOP_CTRL.CANCEL. -/
  | stopoverCancel
  /-- R411. -/
  | stopTickReached
  /-- R412 events 2 and 3: the units that are still busy, by core and unit. -/
  | quiesceDone (busy : List (Nat × Nat) := [])
  /-- R412 event 4. -/
  | captureDone
  /-- R418. -/
  | stopoverTimeout
  /-- R415. -/
  | snapPut (f : Frame)
  /-- R415. -/
  | snapDone (f : Frame)
  /-- R415. -/
  | snapConfirm (f : Frame)
  /-- R415. -/
  | snapGet (f : Frame)
  /-- R420. -/
  | snapData (f : Frame)
  /-- R417. -/
  | snapAck (f : Frame)
  /-- R420: PH_RESTORE_CTRL with GO. -/
  | restoreGo (value : Nat)
  /-- R421. -/
  | restoreDone
  /-- R428: RATE and WIDTH of MB_LINK_STATUS. -/
  | cxlLinkUp (rate width : Nat)
  /-- R434. -/
  | cxlLinkDown
  /-- R430: window offset. -/
  | memrd (offset : Nat)
  /-- R430. -/
  | memwr (offset : Nat) (data : List Byte) (poison : Bool)
  /-- R430: window offset of the first byte. -/
  | memwrptl (offset : Nat) (data : List Byte)
  /-- R429: MB_WINDOWi. -/
  | windowWrite (window value : Nat)
  /-- R433: MB_QCFGq. -/
  | queueConfigWrite (q value : Nat)
  /-- R435. -/
  | msixHoldoffExpiry (q : Nat)
  /-- R438. -/
  | functionLevelReset
  /-- R436. -/
  | getEventRecords (payload : List Byte)
  /-- R436. -/
  | clearEventRecords (payload : List Byte)
  /-- R436. -/
  | getSupportedLogs (payload : List Byte)
  /-- R436. -/
  | getLog (payload : List Byte)
  /-- R436. -/
  | identifyMemoryDevice (payload : List Byte)
  /-- R436. -/
  | getPoisonList (payload : List Byte)
  /-- R437: the opcode. -/
  | mailboxUnsupported (opcode : Nat)
  /-- R437: 0xC000. -/
  | reset (payload : List Byte)
  /-- R437: 0xC010. -/
  | stageItinerary (payload : List Byte)
  /-- R449: 0xC011. -/
  | stageComponent (payload : List Byte)
  /-- R449: 0xC012. -/
  | updateComponent (payload : List Byte)
  /-- R449: 0xC013. -/
  | commit (payload : List Byte)
  /-- R448: 0xC020. -/
  | getLogEntries (payload : List Byte)
  /-- R437: 0xC030. -/
  | stopover (payload : List Byte)
  /-- R437: 0xC031. -/
  | readSnapshot (payload : List Byte)
  /-- R446: 0xC040. -/
  | getNonce (payload : List Byte)
  /-- R446: 0xC041. -/
  | ownerSet (payload : List Byte)
  /-- R448: 0xC042, operation 0x01. -/
  | serviceClearLedger (payload : List Byte)
  /-- R448: 0xC042, operation 0x02. -/
  | serviceClearOwner (payload : List Byte)
  /-- R436. -/
  | backgroundCommandDone
  /-- R450. -/
  | flashWriteDone
  /-- R442: the boot stage in progress ends. -/
  | bootStageDone
  /-- R447. -/
  | getVersion
  /-- R447. -/
  | getCapabilities
  /-- R447: which of the two extended algorithms are offered. -/
  | negotiateAlgorithms (mldsa : Bool) (shake256 : Bool := mldsa)
  /-- R447. -/
  | getDigests
  /-- R447: slot, offset and length asked for. -/
  | getCertificate (slot offset length : Nat)
  /-- R447: slot and the requester's nonce. -/
  | challenge (slot : Nat) (nonce : List Byte)
  /-- R448: block index (0xFF all) and the requester's nonce. -/
  | getMeasurements (block : Nat) (nonce : List Byte)
  /-- R447: the request code. -/
  | spdmUnsupportedRequest (code : Nat)
  /-- R425: the index asked for. -/
  | doeDiscovery (index : Nat)
  /-- R431. -/
  | cdatTableAccess
  /-- R461: PH_CAP. -/
  | capModeWrite (value : Nat)
  /-- R462, R471: a block's average power in 0.1 W, and the input's power, current and voltage as measured with it. -/
  | powerMeasure (block power pin iin vin : Nat)
  /-- R463: PH_CLOCK. -/
  | clockWrite (value : Nat)
  /-- R463. -/
  | clockChange
  /-- R465: inlet, outlet and hottest-island temperature × 4, and that island. -/
  | hubThermalReport (inlet outlet hubMax island : Nat)
  /-- R458. -/
  | auxSupplyApplied
  /-- R29: a tile is powered and calibrated. -/
  | tileCalibrationDone (tile : Nat)
  /-- R417: an ERROR reply reaches one of the module's agents. -/
  | error (f : Frame)
  deriving DecidableEq, Repr

end Sys2Proof
end

