-- ==== Sys2Proof/Config.lean ====
section
/-! DEFINITION. What the spec leaves open: constants with no body, which no proof can see into. -/

namespace Sys2Proof

/-- A free 64-bit value, named by the counter `State.freeCtr` (log entry 2). -/
opaque Config.freeWord : Nat → BitVec 64

/-- The bits of exp beyond its fixed special cases (R241): one function of the FP32 argument, followed where it keeps to the bound. -/
opaque Config.expBits : BitVec 32 → BitVec 32

/-- The bits of the reciprocal beyond its fixed special cases (R315), followed where they keep to the bound. -/
opaque Config.rcpBits : BitVec 32 → BitVec 32

/-- FP32 bits that a vector operand in INT32 widens to where the integer has no exact FP32 value: R315 states exact
widening alone. -/
opaque Config.intWiden : BitVec 32 → BitVec 32

/-- The order in which the fixed pairwise tree of R241 takes the `n` values of a row: the spec gives no shape for the tree. -/
opaque Config.treeOrder : Nat → List Nat

/-- SCORE_SCALE of a program (R248): the spec names it and gives it no place in the image. -/
opaque Config.scoreScale : Nat → BitVec 32

/-- First byte and length of the shared-area space that an image assigns to a bound slot's inbox, by core and slot (R254): no section of
the image holds it. -/
opaque Config.inboxShare : Nat → Nat → Nat × Nat

/-- First byte and length of the shared-area space that an image assigns to a core's duplicates as operand space (R242): no section of the image
holds it. -/
opaque Config.dupSpace : Nat → Nat × Nat

/-- Where byte `j` of the keys and values of a prefill launch's new positions, in the order of an APPEND's data, lies in its slot's inbox space, by
program, COUNT and `j`: a program's image chooses the layout (R257, R271). -/
opaque Config.blockByte : Nat → Nat → Nat → Nat

/-- SHAKE256 (FIPS 202): the output byte `i` over a message; the spec uses the function by name and gives no algorithm. -/
opaque Config.shake256 : List Byte → Nat → BitVec 8

/-- ML-DSA verification (FIPS 204) by key identifier, message and signature; the spec gives no algorithm. -/
opaque Config.mldsaVerify : List Byte → List Byte → List Byte → Bool

/-- Byte `i` of the ML-DSA-65 signature over a message by the key pair generated from ξ (FIPS 204); the spec gives no algorithm. -/
opaque Config.mldsaSign : List Byte → List Byte → Nat → BitVec 8

/-- Byte `i` of the ML-DSA-65 public key generated from ξ (FIPS 204). -/
opaque Config.mldsaPublic : List Byte → Nat → BitVec 8

/-- Byte `i` of the key of the replay-protected area, derived from the seed in a way that the spec does not give (R439, R445). -/
opaque Config.areaKey : List Byte → Nat → BitVec 8

/-- The certificates in flash, from the Llynyth root to the DeviceID certificate (R445). -/
opaque Config.flashChain : List Byte

/-- What the alias certificate says of an alias public key, and the certificate of those bytes and their signature (R445): the form is not
given. -/
opaque Config.aliasBody : List Byte → List Byte

/-- See `Config.aliasBody`. -/
opaque Config.aliasCertificate : List Byte → List Byte → List Byte

/-- What a configuration image says of a port (LN_PORTp word 0), of HASH_SEED, and of the interface minor level: the layout of its body is
not given (R440). -/
opaque Config.confPort : List Byte → Nat → BitVec 64

/-- See `Config.confPort`. -/
opaque Config.confSeed : List Byte → BitVec 32

/-- See `Config.confPort`. -/
opaque Config.confMajor : List Byte → BitVec 8

/-- See `Config.confPort`. -/
opaque Config.confMinor : List Byte → BitVec 8

/-- WINDOW − 1 and CHUNKS of a tally of another module to which this one contributes, by party, tally and coordinate (R166): its claim, which
names them, goes to that module alone. -/
opaque Config.sendWindow : Nat → Nat → Nat → Nat

/-- See `Config.sendWindow`. -/
opaque Config.sendChunks : Nat → Nat → Nat → Nat

/-- One step of an egress port's LFSR (R131): the polynomial is not given. -/
opaque Config.lfsrStep : BitVec 32 → BitVec 32

/-- The 16 bits a RED check takes from an LFSR (R131). -/
opaque Config.lfsrRand : BitVec 32 → BitVec 16

/-- Bytes of parts the spec names without giving them: (what, index, byte). -/
opaque Config.partByte : Nat → Nat → Nat → BitVec 8

/-- Byte `n` of a section of a snapshot that holds a given content (R413): the layouts of sections 4, 5 and 7 are not given (log entry 91). -/
opaque Config.sectionByte : Nat → List Nat → Nat → BitVec 8

/-- The image that a component's slot holds in flash before anything has been written to it: component, slot B. -/
opaque Config.flashImage : Nat → Bool → List Byte

end Sys2Proof
end

