-- ==== Sys2Proof/Machine/Bits.lean ====
section
/-! DEFINITION. Bit fields, two's complement and little-endian bytes over natural numbers (R6, R7). -/

namespace Sys2Proof.Machine

/-- Bits hi:lo of `v` (R6). -/
def bitsOf (v hi lo : Nat) : Nat := v / 2 ^ lo % 2 ^ (hi + 1 - lo)

/-- `v` with bit `i` set to 1. -/
def setBitOf (v i : Nat) : Nat := if v.testBit i then v else v + 2 ^ i

/-- `v` with bit `i` set to 0. -/
def clearBitOf (v i : Nat) : Nat := if v.testBit i then v - 2 ^ i else v

/-- `v` with bit `i` set to `b`. -/
def putBitOf (v i : Nat) (b : Bool) : Nat := if b then setBitOf v i else clearBitOf v i

/-- `v` with every bit of `m` below `n` cleared. -/
def clearMask (v m n : Nat) : Nat := (List.range n).foldl (fun a i => if m.testBit i then clearBitOf a i else a) v

/-- The positions below `n` of the 1 bits of `v`, rising. -/
def onesOf (v n : Nat) : List Nat := (List.range n).filter (fun i => v.testBit i)

/-- The number of 1 bits of `v` below bit `n`. -/
def popCount (v n : Nat) : Nat := (onesOf v n).length

/-- The integer that `w` bits of two's complement stand for. -/
def toSigned (w v : Nat) : Int := if 2 * (v % 2 ^ w) < 2 ^ w then ((v % 2 ^ w : Nat) : Int) else ((v % 2 ^ w : Nat) : Int) - 2 ^ w

/-- An integer as `w` bits of two's complement. -/
def ofSigned (w : Nat) (i : Int) : Nat := (i % (2 ^ w : Nat)).toNat

/-- `n` saturated at the all-ones value of `w` bits. -/
def satBits (w n : Nat) : Nat := min n (2 ^ w - 1)

/-- The quotient rounded up. -/
def ceilDiv (a b : Nat) : Nat := (a + b - 1) / b

/-- The number that little-endian bytes stand for (R7). -/
def leNat : List Byte → Nat
  | [] => 0
  | b :: bs => b.toNat + 256 * leNat bs

/-- The `n` low bytes of `v`, little-endian (R7). -/
def natLE : Nat → Nat → List Byte
  | 0, _ => []
  | n + 1, v => BitVec.ofNat 8 v :: natLE n (v / 256)

/-- The little-endian number in `n` bytes of `bs` from byte `off`. -/
def leAt (bs : List Byte) (off n : Nat) : Nat := leNat ((bs.drop off).take n)

/-- Byte `i` of a list, 0 beyond its end. -/
def byteAt (bs : List Byte) (i : Nat) : Nat := (bs.getD i 0).toNat

/-- `bs` cut or zero-padded to `n` bytes. -/
def padTo (n : Nat) (bs : List Byte) : List Byte := bs.take n ++ List.replicate (n - bs.length) 0

/-- Zero bytes. -/
def zeroBytes (n : Nat) : List Byte := List.replicate n 0

/-- `bs` with the bytes from `off` on replaced by `new`, the length kept. -/
def spliceBytes (bs : List Byte) (off : Nat) (new : List Byte) : List Byte :=
  bs.take off ++ new.take (bs.length - off) ++ bs.drop (off + new.length)

/-- The first element of a list that `p` accepts taken out of it. -/
def takeFirst {α : Type} (p : α → Bool) : List α → Option (α × List α)
  | [] => none
  | a :: as => if p a then some (a, as) else (takeFirst p as).map (fun r => (r.1, a :: r.2))

/-- A list with its element `i` replaced by a function of it. -/
def modifyAt {α : Type} (f : α → α) : Nat → List α → List α
  | _, [] => []
  | 0, a :: as => f a :: as
  | i + 1, a :: as => a :: modifyAt f i as

/-- Applies `f` for every element of `l`, first to last. -/
def foldOver {α σ : Type} (l : List α) (f : α → σ → σ) (s : σ) : σ := l.foldl (fun s a => f a s) s

end Sys2Proof.Machine
end

