-- ==== Sys2Proof/Machine/Float.lean ====
section
/-! DEFINITION. The number formats of R307 over exact values: every operation forms an exact dyadic number and rounds
once, to nearest with ties to even, into the destination format. -/

namespace Sys2Proof.Machine

/-- A value of a floating-point format: NaN, an infinity, or (−1)^neg × m × 2^e. -/
inductive FVal where
  | nan
  | inf (neg : Bool)
  | fin (neg : Bool) (m : Nat) (e : Int)
  deriving DecidableEq, Repr, Inhabited

/-- A floating-point format (R307): exponent and fraction bits, bias, and its special encodings:
0 IEEE, 1 NaN at all ones only, 2 none. -/
structure FpFmt where
  eb : Nat
  mb : Nat
  bias : Int
  special : Nat
  deriving DecidableEq, Repr

/-- FP32. -/
def fp32 : FpFmt := ⟨8, 23, 127, 0⟩

/-- BF16. -/
def bf16 : FpFmt := ⟨8, 7, 127, 0⟩

/-- FP16. -/
def fp16 : FpFmt := ⟨5, 10, 15, 0⟩

/-- Floating-point formats by FMT (R307); the integer formats stand for none. -/
def fpOfFmt : Nat → Option FpFmt
  | 0 => some fp32
  | 1 => some bf16
  | 2 => some fp16
  | 3 => some ⟨4, 3, 7, 1⟩
  | 4 => some ⟨5, 2, 15, 0⟩
  | 6 => some ⟨3, 2, 3, 2⟩
  | 7 => some ⟨2, 3, 1, 2⟩
  | 8 => some ⟨2, 1, 1, 2⟩
  | _ => none

/-- The value that bits of a format stand for (R307). -/
def fpDecode (t : FpFmt) (b : Nat) : FVal :=
  let m := b % 2 ^ t.mb
  let e := b / 2 ^ t.mb % 2 ^ t.eb
  let neg := b.testBit (t.eb + t.mb)
  if t.special = 0 ∧ e = 2 ^ t.eb - 1 then (if m = 0 then .inf neg else .nan)
  else if t.special = 1 ∧ e = 2 ^ t.eb - 1 ∧ m = 2 ^ t.mb - 1 then .nan
  else if e = 0 then .fin neg m (1 - t.bias - t.mb)
  else .fin neg (m + 2 ^ t.mb) (e - t.bias - t.mb)

/-- `m / 2^k` rounded to nearest, ties to even. -/
def shiftRne (m k : Nat) : Nat :=
  let q := m / 2 ^ k
  let r := m % 2 ^ k
  if 2 * r < 2 ^ k then q else if 2 ^ k < 2 * r then q + 1 else q + q % 2

/-- `m × 2^e` rounded to a multiple of `2^u`, as that multiple. -/
def scaleRne (m : Nat) (e u : Int) : Nat :=
  if u ≤ e then m * 2 ^ (e - u).toNat else shiftRne m (u - e).toNat

/-- The canonical NaN of a format (R308). -/
def fpNan (t : FpFmt) : Nat :=
  if t.special = 1 then 2 ^ (t.eb + t.mb) - 1 else (2 ^ t.eb - 1) * 2 ^ t.mb + 2 ^ (t.mb - 1)

/-- The bits of a finite magnitude rounded into a format, and the first code above the largest finite one when it
rounds beyond it. -/
def fpMagnitude (t : FpFmt) (m : Nat) (e : Int) : Nat :=
  if m = 0 then 0 else
  let top := (Nat.log2 m : Int) + e
  let u := max top (1 - t.bias) - t.mb
  let q := scaleRne m e u
  (u + t.mb + t.bias - 1).toNat * 2 ^ t.mb + q

/-- The smallest code that is no finite magnitude of an IEEE format. -/
def fpInf (t : FpFmt) : Nat := (2 ^ t.eb - 1) * 2 ^ t.mb

/-- A value rounded into an IEEE format (R316), and whether a finite value became ∞. -/
def fpRound (t : FpFmt) (v : FVal) : Nat × Bool :=
  let s := fun (n : Bool) => if n then 2 ^ (t.eb + t.mb) else 0
  match v with
  | .nan => (fpNan t, false)
  | .inf n => (s n + fpInf t, false)
  | .fin n m e =>
    let q := fpMagnitude t m e
    if fpInf t ≤ q then (s n + fpInf t, true) else (s n + q, false)

/-- FP32 bits of a value, rounded once. -/
def round32 (v : FVal) : Nat := (fpRound fp32 v).1

/-- The value of FP32 bits. -/
def val32 (b : Nat) : FVal := fpDecode fp32 b

/-- The exact value of an integer times 2^e. -/
def ofInt (i : Int) (e : Int) : FVal := .fin (decide (i < 0)) i.natAbs e

/-- The integer of a finite value over a smaller exponent. -/
def intAt (neg : Bool) (m : Nat) (e u : Int) : Int :=
  (if neg then -1 else 1) * ((m * 2 ^ (e - u).toNat : Nat) : Int)

/-- Negation. -/
def fneg : FVal → FVal
  | .nan => .nan
  | .inf n => .inf (!n)
  | .fin n m e => .fin (!n) m e

/-- The exact sum (IEEE 754 signs of zero). -/
def fadd (a b : FVal) : FVal :=
  match a, b with
  | .nan, _ => .nan
  | _, .nan => .nan
  | .inf x, .inf y => if x = y then .inf x else .nan
  | .inf x, _ => .inf x
  | _, .inf y => .inf y
  | .fin n m e, .fin n' m' e' =>
    let u := min e e'
    let t := intAt n m e u + intAt n' m' e' u
    if t = 0 then .fin (n && n') 0 0 else ofInt t u

/-- The exact product. -/
def fmul (a b : FVal) : FVal :=
  match a, b with
  | .nan, _ => .nan
  | _, .nan => .nan
  | .inf x, .inf y => .inf (x != y)
  | .inf x, .fin n m _ => if m = 0 then .nan else .inf (x != n)
  | .fin n m _, .inf y => if m = 0 then .nan else .inf (n != y)
  | .fin n m e, .fin n' m' e' => .fin (n != n') (m * m') (e + e')

/-- The quotient to far more bits than any format holds, its last bit sticky, so that one rounding of it is correct. -/
def fdiv (a b : FVal) : FVal :=
  match a, b with
  | .nan, _ => .nan
  | _, .nan => .nan
  | .inf _, .inf _ => .nan
  | .inf x, .fin n _ _ => .inf (x != n)
  | .fin n _ _, .inf y => .fin (n != y) 0 0
  | .fin n m e, .fin n' m' e' =>
    if m' = 0 then (if m = 0 then .nan else .inf (n != n'))
    else
      let k := Nat.log2 m' + 64
      let q := m * 2 ^ k / m'
      let r := m * 2 ^ k % m'
      .fin (n != n') (2 * q + (if r = 0 then 0 else 1)) (e - e' - k - 1)

/-- An order on values that are not NaN: −0 below +0. -/
def flt (a b : FVal) : Bool :=
  match a, b with
  | .inf x, .inf y => x && !y
  | .inf x, .fin .. => x
  | .fin .., .inf y => !y
  | .fin n m e, .fin n' m' e' =>
    let u := min e e'
    let x := intAt n m e u
    let y := intAt n' m' e' u
    decide (x < y) || (x == y && m == 0 && n && !n')
  | _, _ => false

/-- Maximum with +0 larger than −0 and any NaN giving NaN (R169, R315). -/
def fmaxVal (a b : FVal) : FVal :=
  match a, b with
  | .nan, _ => .nan
  | _, .nan => .nan
  | a, b => if flt a b then b else a

/-- Minimum with −0 smaller than +0 and any NaN giving NaN. -/
def fminVal (a b : FVal) : FVal :=
  match a, b with
  | .nan, _ => .nan
  | _, .nan => .nan
  | a, b => if flt b a then b else a

/-- FP32 addition. -/
def add32 (a b : Nat) : Nat := round32 (fadd (val32 a) (val32 b))

/-- FP32 multiplication. -/
def mul32 (a b : Nat) : Nat := round32 (fmul (val32 a) (val32 b))

/-- FP32 fused multiply-add: one rounding. -/
def fma32 (a b c : Nat) : Nat := round32 (fadd (fmul (val32 a) (val32 b)) (val32 c))

/-- FP32 subtraction. -/
def sub32 (a b : Nat) : Nat := round32 (fadd (val32 a) (fneg (val32 b)))

/-- FP32 division, correctly rounded. -/
def div32 (a b : Nat) : Nat := round32 (fdiv (val32 a) (val32 b))

/-- ⌊2^256 × ln 2⌋. -/
def ln2Fixed : Nat := 80260960185991308862233904206310070533990667611589946606122867505419956976171

/-- Σ r^j ÷ j! for 64 terms, with 256 fraction bits, of an `r` below 1. -/
def expSeries (r : Nat) : Nat :=
  ((List.range 64).foldl (fun (acc : Nat × Nat) j => (acc.1 + acc.2, acc.2 * r / 2 ^ 256 / (j + 1))) (0, 2 ^ 256)).1

/-- A lower and an upper bound of exp of a finite FP32 value ±m × 2^e, in units of 2^−656, at most 2^−190 apart in proportion; below −256 the
value lies between 0 and 2^−300. -/
def expBounds (n : Bool) (m : Nat) (e : Int) : Nat × Nat :=
  let x := m <<< (256 + e).toNat
  if n ∧ 1 <<< 264 ≤ x then (0, 1 <<< 356)
  else
    let y : Int := if n then -(x : Int) else x
    let k := y / (ln2Fixed : Int)
    let v := expSeries (y - k * ln2Fixed).toNat
    ((v - 2 ^ 64) <<< (k + 400).toNat, (v + 2 ^ 64) <<< (k + 400).toNat)

/-- FP32 bits lie within the bound of R241 of a value between two bounds: 2^−22 in proportion, and 2^−149 more where the value lies below the normal
range, where the result is subnormal or +0. -/
def expWithin (lo hi b : Nat) : Bool :=
  match val32 b with
  | .fin n m e =>
    let c := m <<< (656 + e).toNat
    let low := decide (hi < 1 <<< 530)
    let slack := if low then 1 <<< 507 else 0
    !n && decide (hi * (2 ^ 22 - 1) ≤ (c + slack) * 2 ^ 22) && decide (c * 2 ^ 22 ≤ lo * (2 ^ 22 + 1) + slack * 2 ^ 22) && (!low || decide (c < 1 <<< 530))
  | _ => false

/-- exp of FP32 bits (R241): the fixed special cases; elsewhere the open bits, which hold the bound, or, where they do not, the value rounded. Codes
above 0x42B17217 are the positive arguments whose exponential exceeds the largest finite value. -/
def exp32 (b : Nat) : Nat :=
  match val32 b with
  | .nan => fpNan fp32
  | .inf true => 0
  | .inf false => fpInf fp32
  | .fin n m e =>
    if m = 0 then 0x3F800000
    else if !n && decide (0x42B17217 < b) then fpInf fp32
    else
      let x := expBounds n m e
      let open_ := (Config.expBits (BitVec.ofNat 32 b)).toNat
      if expWithin x.1 x.2 open_ then open_ else round32 (.fin false x.1 (-656))

/-- FP32 bits lie within 2^−23 in proportion of 1 ÷ (±m × 2^e) (R315). -/
def rcpWithin (n : Bool) (m : Nat) (e : Int) (b : Nat) : Bool :=
  match val32 b with
  | .fin n' m' e' =>
    let u := e + e'
    let p := m * m' * (1 <<< u.toNat) * 2 ^ 23
    let unit := 1 <<< (-u).toNat
    let one := unit * 2 ^ 23
    n == n' && decide (p ≤ one + unit) && decide (one ≤ p + unit)
  | _ => false

/-- 1 ÷ FP32 bits (R315): the fixed special cases; elsewhere the open bits, which hold the bound, or, where they do not, the quotient rounded. Where
not even that holds it (no FP32 value lies near enough), the bits are open (log entry 118). -/
def rcp32 (b : Nat) : Nat :=
  match val32 b with
  | .nan => fpNan fp32
  | .inf n => if n then 0x80000000 else 0
  | .fin n m e =>
    if m = 0 then (if n then 0xFF800000 else 0x7F800000)
    else
      let open_ := (Config.rcpBits (BitVec.ofNat 32 b)).toNat
      let near := round32 (.fin n ((1 <<< 600) / m) (-600 - e))
      if !rcpWithin n m e open_ && rcpWithin n m e near then near else open_

/-- A value rounded to an integer, to nearest with ties to even. -/
def toIntRne : FVal → Int
  | .fin n m e => (if n then -1 else 1) * ((scaleRne m e 0 : Nat) : Int)
  | _ => 0

/-- An integer kept within `w`-bit two's complement limits, and whether it was cut. -/
def clampInt (w : Nat) (i : Int) : Int × Bool :=
  let hi : Int := 2 ^ (w - 1) - 1
  let lo : Int := -(2 ^ (w - 1))
  if hi < i then (hi, true) else if i < lo then (lo, true) else (i, false)

/-! ### MX elements (R307, R310, R317) -/

/-- EMAX of an MX element format (R218, R317). -/
def mxEmax : Nat → Int
  | 3 => 8
  | 4 => 15
  | 6 => 4
  | 7 => 2
  | 8 => 2
  | _ => 0

/-- The value of an MX element's code (R307). -/
def mxElement (fmt c : Nat) : FVal :=
  match fpOfFmt fmt with
  | some t => fpDecode t c
  | none => if fmt = 5 then ofInt (toSigned 8 c) (-6) else ofInt (toSigned 4 c) (-2)

/-- The largest finite code of an MX element format (R317). -/
def mxMaxCode : Nat → Nat
  | 3 => 0x7E
  | 4 => 0x7B
  | 5 => 127
  | 6 => 0x1F
  | 7 => 0x1F
  | 8 => 7
  | _ => 7

/-- Bits of an MX element. -/
def mxBits : Nat → Nat
  | 6 => 6
  | 7 => 6
  | 8 => 4
  | 9 => 4
  | _ => 8

/-- An MX element's code with its sign put on: a sign bit, or the negative in two's complement. -/
def mxSigned (fmt : Nat) (neg : Bool) (q : Nat) : Nat :=
  if fmt = 5 ∨ fmt = 9 then (if neg then (2 ^ mxBits fmt - q) % 2 ^ mxBits fmt else q)
  else if neg then q + 2 ^ (mxBits fmt - 1) else q

/-- One element encoded under scale exponent `x` (R218): the code, whether it saturated, whether it was NaN or ∞. -/
def mxEncode (fmt : Nat) (x : Int) (v : FVal) : Nat × Bool × Bool :=
  match v with
  | .nan => (0, false, true)
  | .inf n => (mxSigned fmt n (mxMaxCode fmt), false, true)
  | .fin n m e =>
    let q := match fpOfFmt fmt with
      | some t => fpMagnitude t m (e - x)
      | none => scaleRne m (e - x) (if fmt = 5 then -6 else -2)
    if mxMaxCode fmt < q then (mxSigned fmt n (mxMaxCode fmt), true, false) else (mxSigned fmt n q, false, false)

/-- ⌊log₂⌋ of the largest finite magnitude of a block; none when every finite element is zero. -/
def blockTop (vs : List FVal) : Option Int :=
  vs.foldl (fun a v => match v with
    | .fin _ m e => if m = 0 then a else
        let t := (Nat.log2 m : Int) + e
        some (match a with
          | none => t
          | some x => max x t)
    | _ => a) none

/-- The scale exponent of a block (R218): clamped to −127 … 127, and −127 for a block of zeros. -/
def blockScale (fmt : Nat) (vs : List FVal) : Int :=
  match blockTop vs with
  | none => -127
  | some t => max (-127) (min 127 (t - mxEmax fmt))

/-- A block encoded (R218): the E8M0 scale byte and the elements. -/
def mxBlock (fmt : Nat) (vs : List FVal) : Nat × List (Nat × Bool × Bool) :=
  let x := blockScale fmt vs
  ((x + 127).toNat, vs.map (mxEncode fmt x))

/-- An element's value with its block's scale (R310): NaN under scale 0xFF. -/
def mxValue (fmt c scale : Nat) : FVal :=
  if scale = 0xFF then .nan
  else match mxElement fmt c with
    | .fin n m e => .fin n m (e + scale - 127)
    | v => v

end Sys2Proof.Machine
end

