-- ==== Sys2Proof/Machine/Codes.lean ====
section
/-! DEFINITION. The codes the spec spells out or names: seeded CRC-32C (R472), and the FCS of IEEE 802.3 (R111, R140). -/

namespace Sys2Proof.Machine

/-- One bit of the reflected CRC-32C register; 0x82F63B78 is the polynomial of R472 reflected. -/
def crcBit (c : Nat) : Nat := if c % 2 = 1 then (c / 2) ^^^ 0x82F63B78 else c / 2

/-- One byte taken into the CRC register. -/
def crcByte (c b : Nat) : Nat := (List.range 8).foldl (fun c _ => crcBit c) (c ^^^ b)

/-- CRC-32C of a byte string from a seed (R472). -/
def crc32c (seed : Nat) (bs : List Byte) : Nat := (bs.foldl (fun c b => crcByte c b.toNat) seed) ^^^ 0xFFFFFFFF

/-- The FCS of an Ethernet frame over its other bytes (IEEE 802.3, which R140 names): the reflected CRC-32 register with polynomial 0xEDB88320. -/
def ethFcs (bs : List Byte) : Nat :=
  (bs.foldl (fun c b => (List.range 8).foldl (fun c _ => if c % 2 = 1 then (c / 2) ^^^ 0xEDB88320 else c / 2) (c ^^^ b.toNat)) 0xFFFFFFFF) ^^^ 0xFFFFFFFF

/-- The route key of R472. -/
def routeKey (party srcRank dst stream seq : Nat) : List Byte :=
  natLE 2 (party % 4096) ++ natLE 3 (srcRank % 131072) ++ natLE 3 (dst % 131072) ++ natLE 2 stream ++ natLE 2 seq

/-- The bridge key of R472: the VLAN and the destination address in wire order. -/
def bridgeKey (vlan : Nat) (mac : List Byte) : List Byte := natLE 2 (vlan % 4096) ++ padTo 6 mac

end Sys2Proof.Machine
end

