-- ==== Sys2Proof/Machine/Sparse.lean ====
section
/-! DEFINITION. Sparse maps from numbers, in one canonical form: keys strictly rising, no entry equal to what an
unlisted key reads as. The register space, the pool, the local memories and the tables of the state are held so. -/

namespace Sys2Proof.Machine

variable {α : Type}

/-- What key `k` reads as; `d` for an unlisted key. -/
def sparseGet (d : α) : List (Nat × α) → Nat → α
  | [], _ => d
  | e :: m, k => if e.1 = k then e.2 else sparseGet d m k

/-- The map without key `k`. -/
def sparseErase (m : List (Nat × α)) (k : Nat) : List (Nat × α) := m.filter (fun e => e.1 != k)

/-- The map with an entry put in its place by rising key. -/
def sparseInsert (k : Nat) (v : α) : List (Nat × α) → List (Nat × α)
  | [] => [(k, v)]
  | e :: m => if k < e.1 then (k, v) :: e :: m else e :: sparseInsert k v m

/-- The map with `v` at key `k`, where an unlisted `k` reads `d`: writing `d` removes the entry. -/
def sparseSet [DecidableEq α] (d : α) (m : List (Nat × α)) (k : Nat) (v : α) : List (Nat × α) :=
  if v = d then sparseErase m k else sparseInsert k v (sparseErase m k)

/-- Keys strictly rising. -/
def keysRise : List (Nat × α) → Bool
  | [] => true
  | [_] => true
  | a :: b :: m => decide (a.1 < b.1) && keysRise (b :: m)

/-- The canonical form, for a map whose unlisted key `k` reads `d k`. -/
def sparseWf [DecidableEq α] (d : Nat → α) (m : List (Nat × α)) : Bool :=
  keysRise m && m.all (fun e => e.2 ≠ d e.1)

/-- The bytes at keys `a`, `a + 1`, … `a + n - 1`. -/
def sparseRead (d : α) (m : List (Nat × α)) (a n : Nat) : List α := (List.range n).map (fun i => sparseGet d m (a + i))

/-- The map with a list of values written at keys from `a` on. -/
def sparseWrite [DecidableEq α] (d : α) : List (Nat × α) → Nat → List α → List (Nat × α)
  | m, _, [] => m
  | m, a, v :: vs => sparseWrite d (sparseSet d m a v) (a + 1) vs

end Sys2Proof.Machine
end

