-- ==== Sys2Proof/Machine/State.lean ====
section
/-! DEFINITION. The state of the block as plain data, its faults and refusals, and the state right after reset. A
register lives in `State.regs` under its BAR0 offset; the other fields hold what the spec gives the machine beside its
registers (buffers, queues, tables, stores, timers) and, marked MODEL, what the model keeps to say it. -/

namespace Sys2Proof.Machine

/-- Why a command may stop the machine. No meaning of this model raises one: every command of the table has an effect
the spec gives, or none when its condition does not hold. -/
inductive Fault where
  /-- Kept so that the type has a value; raised by no command, so it is neither safe nor unsafe. -/
  | unreachable
  deriving DecidableEq, Repr

/-- Why a command may be refused. -/
inductive Refusal where
  /-- A command with no meaning yet; raised by an arm of exec alone. Safe: the machine does not go on. -/
  | notModelled (mnemonic : String)
  deriving DecidableEq, Repr

/-- How software reaches a field (R11). -/
inductive Access where
  /-- Read only. -/
  | ro
  /-- Read and write. -/
  | rw
  /-- Write 1 to clear. -/
  | w1c
  /-- Write only: reads 0. -/
  | wo
  /-- Sticky write 1 to clear: cleared by a power cycle, not by a reset. -/
  | rs
  deriving DecidableEq, Repr

/-- A field of a register: the register's BAR0 offset and the field's bits. -/
structure Fld where
  off : Nat
  hi : Nat
  lo : Nat
  deriving DecidableEq, Repr

/-- A field as a row of a register table (R11): its bits, access, reset value and, where some encodings are reserved
(R15), the ranges of valid ones. -/
structure FieldRow where
  hi : Nat
  lo : Nat
  acc : Access
  reset : Nat
  valid : List (Nat × Nat)
  deriving DecidableEq, Repr

/-- A register, or an array of them: `count` of them `stride` bytes apart, each of `words` consecutive words. -/
structure RegRow where
  base : Nat
  stride : Nat
  count : Nat
  words : Nat
  fields : List FieldRow
  deriving DecidableEq, Repr

/-! ### Power (R452 to R465) -/

/-- The state of the power input and of start-up beside the PH_ registers. -/
structure Power where
  /-- The 3.3 V auxiliary supply is present (R458). -/
  auxOn : Bool
  /-- The input switch is closed (R452). -/
  switchClosed : Bool
  /-- An overcurrent has latched the switch open (R454). -/
  ocLatch : Bool
  /-- The low-input raise of the power-cap mode is in force (R453). -/
  lowInput : Bool
  /-- The rails are discharging after a loss of the main input (R459). -/
  discharging : Bool
  /-- Tick of the free count at which the present PHASE began. MODEL. -/
  phaseAt : Nat
  /-- Muster runs made of each island in this start, by island number (R50). -/
  musterRuns : List (Nat × Nat)
  /-- Tick at which this muster run began, and that of its mark once issued (R50). -/
  musterAt : Nat
  markAt : Option Nat
  /-- The crossings that passed (R50): every island but those to re-run. -/
  musterTodo : List Nat
  /-- Since when each block's average has stayed below 90 % of its limit (R462). -/
  lowSince : List (Nat × Nat)
  /-- Power level of each stack (R462). -/
  stackSteps : List (Nat × Nat)
  /-- A clock rate is held and will take effect (R463). -/
  clockHeld : Option Nat
  /-- The hub's over-temperature has been reported in this rise (R465). -/
  hubHot : Bool
  /-- The free-count tick by which the input will have lain within 54.0 to 66.0 V for 100 ms; none while it lies outside (R452). -/
  inputReady : Option Nat
  /-- The free-count tick by which an input that has been removed will have been so for 1 s (R454). -/
  latchEnds : Option Nat
  /-- A warm reset is owed once the flash writes that run have ended (R450). -/
  resetOwed : Bool
  /-- Free-count tick of the warm reset that follows a RESET of the mailbox (R437). -/
  resetDue : Option Nat
  /-- The cores have been released: PHASE has moved from 0x2 to 0x3 since the last reset (R30). -/
  released : Bool
  deriving DecidableEq, Repr, Inhabited

/-! ### Bell time (R35 to R62) -/

/-- An announce kept (R45): T_A, the arrival stamp t_R in 1/65,536 tick, the sender's lock state and TAI_AT_EPOCH. -/
structure Announce where
  tA : Nat
  tR : Int
  lock : Nat
  tai : Nat
  deriving DecidableEq, Repr, Inhabited

/-- What the bell-time unit holds of the neighbour in one direction. -/
structure DirInfo where
  /-- Free-count tick of the last SYNC heard from it (R39). -/
  childAt : Option Nat
  /-- HOPS of its latest ROOT_ANNOUNCE, 0 before one (R39 step 2). -/
  hops : Nat
  /-- HOPS of its latest valid message, none before one (R39). -/
  seen : Option Nat
  /-- Lock state it last reported (R41). -/
  lock : Nat
  /-- Link delay d in 1/65,536 tick, offset u and the free-count tick of the latest valid exchange (R42). -/
  delay : Int
  offset : Int
  exchAt : Option Nat
  /-- The announce kept from it (R45). -/
  kept : Option Announce
  deriving DecidableEq, Repr, Inhabited

/-- The bell-time unit beside the BT_ registers. -/
structure BellUnit where
  /-- Free-running tick count, 0 at reset (R41). -/
  free : Nat
  /-- Bell time (R35); 0 until set. -/
  now : Nat
  /-- The parent's direction (R39). -/
  parent : Option Nat
  /-- The six neighbours, by bundle number. -/
  dirs : List DirInfo
  /-- Number of the last exchange, its t_A in 1/65,536 tick and its direction while it is open (R41). -/
  seq : Nat
  openExch : Option (Nat × Nat)
  /-- The exchange of this interval was answered (R42). -/
  answered : Bool
  /-- Runs of exchanges within and out of bound, and of intervals without a valid reply (R42). -/
  good : Nat
  bad : Nat
  missed : Nat
  /-- Free-count tick at which HOLDOVER was entered (R42). -/
  holdAt : Nat
  /-- Free-count tick at which BRINGUP_DONE was found set (R45). -/
  rootWaitAt : Option Nat
  /-- The sender whose next exchange lets the root set its time (R45). -/
  rootFrom : Option Nat
  /-- TAI_AT_EPOCH has been recorded (R49). -/
  ptpAcquired : Bool
  /-- Bell time before and after the last forced step (R46). -/
  skipped : Option (Nat × Nat)
  deriving DecidableEq, Repr, Inhabited

/-! ### The watch (R391 to R402) -/

/-- The watch's input queue (R392). -/
structure WatchQ where
  /-- Messages with the bell time of the switch-cycle edge of their acceptance (R391), oldest first, at most 512. -/
  queue : List (Word × Nat)
  /-- The switch-cycle edge of the latest acceptance, in ticks of the free-running count. -/
  edge : Nat
  /-- Messages accepted on that edge, at most four. -/
  taken : Nat
  deriving DecidableEq, Repr, Inhabited

/-! ### The switch (R108 to R143) -/

/-- The free buffers of a pool, in 64 banks by buffer number mod 64 (R117): of each bank the buffers given back, the next to yield first, and how
many of its buffers it has yielded for the first time; and the bank whose turn it is. -/
structure Vacancy where
  freed : List (List Nat)
  fresh : List Nat
  next : Nat
  deriving DecidableEq, Repr, Inhabited

/-- A frame in the packet buffer (R115): its descriptor. Owners 0 to 4,095 are the port owners, 4,096 + m the owners of R119. -/
structure Desc where
  id : Nat
  frame : Frame
  /-- Ingress logical port, or 256 + a for agent a. -/
  inPort : Nat
  owner : Nat
  cells : Nat
  /-- The numbers of its cells in the order of the link RAM (R115). -/
  chain : List Nat
  /-- The tail is stored and the seal has passed. -/
  whole : Bool
  /-- Bytes of an Ethernet frame carried as they are (R141); none for a fabric frame. -/
  eth : Option (List Byte)
  deriving DecidableEq, Repr, Inhabited

/-- One place a copy of a frame goes to: the egress port (256 + a: agent a; 300: the detour store; 511: nowhere) and what its header carries. -/
structure Dest where
  out : Nat
  sub : Nat
  dl : Nat
  dim : Nat
  detour : Bool
  dstPort : Nat
  /-- SLOT and rank of the receiver, where a tally's result is replicated (R159, R183). -/
  slot : Option (Nat × Nat) := none
  deriving DecidableEq, Repr, Inhabited

/-- One copy of a frame in an egress queue (R125); queues keep the order of this list. -/
structure Copy where
  desc : Nat
  /-- Egress logical port, 256 + a for agent a, 300 for the detour store. -/
  out : Nat
  vc : Nat
  sub : Nat
  /-- Header fields as this copy leaves. -/
  dl : Nat
  dim : Nat
  detour : Bool
  dstPort : Nat
  /-- Free-count tick of its enqueueing. -/
  at_ : Nat
  /-- Its queue was empty when it was enqueued, so that it may start before its tail has arrived (R110). -/
  cut : Bool
  /-- Being sent by cut-through. -/
  started : Bool
  /-- One of several copies (R126). -/
  mcast : Bool
  /-- A closing-flag packet held at its egress module (R91). -/
  held : Bool
  /-- SLOT and rank of its receiver in a replicated result (R159, R183). -/
  slot : Option (Nat × Nat)
  deriving DecidableEq, Repr, Inhabited

/-- A policer's buckets in 1/640 byte and the tick of their last fill (R127). -/
structure Buckets where
  tc : Nat
  tp : Nat
  at_ : Nat
  deriving DecidableEq, Repr, Inhabited

/-- Deficit round robin of one egress port (R132). -/
structure Drr where
  ptr : Nat
  /-- The class under the pointer has had its quantum of this visit. -/
  visiting : Bool
  deficits : List Nat
  /-- The sub-class to serve next, by class. -/
  turns : List Nat
  deriving DecidableEq, Repr, Inhabited

/-- A shaper: its signed credit in 1/640 byte and the tick up to which it has been brought (R133). -/
structure Shaper where
  credit : Int
  at_ : Nat
  deriving DecidableEq, Repr, Inhabited

/-- A table access in progress (R476): the window, and the control word written. -/
structure TableAccess where
  window : Nat
  ctrl : Nat
  deriving DecidableEq, Repr, Inhabited

/-- A frame handed to an agent's queue (R474), with its descriptor's number, its ingress port and its cells. -/
structure AgentItem where
  agent : Nat
  frame : Frame
  id : Nat
  inPort : Nat
  owner : Nat
  cells : Nat
  chain : List Nat
  deriving DecidableEq, Repr, Inhabited

/-- The switch core beside the SW_ registers. -/
structure Switch where
  /-- The vacancy banks are threaded (R117). -/
  threaded : Bool
  /-- The signed shared-free count (R473). -/
  sharedFree : Int
  /-- Cells claimed by all owners together. MODEL, a sum kept. -/
  claimed : Nat
  /-- Sum of all MIN values (R144). MODEL, a sum kept. -/
  resvSum : Nat
  /-- Vacancy banks that have stopped yielding (R124). -/
  banksDown : List Nat
  /-- The vacancy lists of the packet buffer (R117), the cells held for credit by owner (R120), and the cells of the claim in hand, which the
  next frame enqueued is chained in (R115). -/
  vac : Vacancy
  heldCells : List (Nat × List Nat)
  hand : List Nat
  /-- Cells of discarded frames that come back to their bank's list when it has been rebuilt: (owner, cell) (R124). -/
  lost : List (Nat × Nat)
  /-- The next descriptor's number. MODEL. -/
  nextId : Nat
  /-- The frames in the packet buffer, and their copies in egress queues (R115, R125). -/
  descs : List Desc
  copies : List Copy
  /-- The frame each port is receiving: (port, descriptor). -/
  rx : List (Nat × Nat)
  /-- Ports that receive and discard the rest of a frame refused or dropped at ingress (R108). -/
  rxGone : List Nat
  /-- Frames waiting in the agents' queues (R474), oldest first. -/
  agentQ : List AgentItem
  /-- Frames an agent could not yet place for want of cells, oldest first, with the places of one that is replicated: (agent, frame, places). -/
  agentWait : List (Nat × Frame × List Dest)
  /-- Credit held against the receivers, by 16 port + 2 class + sub-class, and their last cumulative counts (R368). -/
  txCredit : List (Nat × Nat)
  txCum : List (Nat × Nat)
  /-- Cumulative credit advertised, by owner (R368). -/
  rxCum : List (Nat × Nat)
  /-- Detour credits held per bundle, their last cumulative count, and the cumulative count advertised (R87). -/
  detourCredit : List (Nat × Nat)
  detourCum : List (Nat × Nat)
  detourOut : List (Nat × Nat)
  policers : List (Nat × Buckets)
  /-- Average queue lengths with 8 fractional bits, by queue (R131). -/
  redAvg : List (Nat × Nat)
  /-- HASH_SEED at the module's start, and the egress ports' LFSRs; unlisted: seeded with it (R131). -/
  seed : Nat
  lfsr : List (Nat × Nat)
  drr : List (Nat × Drr)
  shapers : List (Nat × Shaper)
  /-- Since when an endpoint port withholds credit on a class, by 8 port + class (R99). -/
  sinkSince : List (Nat × Nat)
  /-- The closing-flag packets held: stream, descriptor, and the tick since when (R91, R93). -/
  closers : List (Nat × Nat × Nat)
  /-- The adaptive mode's rotating pointer (R84). -/
  rotor : Nat
  /-- Bundles held down for a wrong far end (R68). -/
  miscabled : List Nat
  /-- Curfew banks: entry `i` of bank `b` of port `p` at 2,048 (2 p + b) + i (R134). -/
  curfew : List (Nat × Word)
  /-- Tick at which each port's list in force started (R134). -/
  curfewStart : List (Nat × Nat)
  /-- MAC table words: word `w` of entry `i` at 2 i + w (R152). -/
  mac : List (Nat × Word)
  /-- Word 0 of two-word entries, held until word 1 is written, by the offset of word 0 (R130). -/
  held0 : List (Nat × Word)
  /-- Table accesses that run (R476). -/
  access : List TableAccess
  /-- The latest switch cycle in which party or rank entries were written, and what those held before, by offset (R78). MODEL. -/
  oldEntries : Nat × List (Nat × Word)
  deriving DecidableEq, Repr, Inhabited

/-! ### Lanes and ports (R359 to R390) -/

/-- A port beside its LN_ registers. -/
structure PortCtl where
  /-- Number of the numbered codeword sent last or next, the slot in it at which the next frame may begin, 0 for a codeword not begun, and the
  free-count tick at which it ends (R366, R367; log entry 6). -/
  txSeq : Nat
  txSlot : Nat
  txStop : Nat
  /-- Replay store: first codeword number, codewords taken, frame, and whether it was ended spoiled (R111); oldest first (R373). -/
  store : List (Nat × Nat × Frame × Bool)
  /-- Free-count tick at which ACK_SEQ last advanced or the store was first filled (R375). -/
  ackAt : Nat
  /-- The replay in progress: its first codeword number and the free-count tick at which it has been sent (R375). -/
  replaying : Option (Nat × Nat)
  /-- As `txSeq`, `txSlot` and `txStop`, of the codewords received; the next frame begins just there when a replay asked for from there has
  started (R374). -/
  rxSeq : Nat
  rxSlot : Nat
  rxStop : Nat
  rxHere : Bool
  /-- ACK_SEQ of the last STATUS block sent, and its credit counts by class and sub-class (R368, R382). -/
  ackSent : Nat
  credSent : List Nat := []
  /-- The replay asked for: RESUME_SEQ, RESUME_SLOT, tick of the last request, and how often in a row it named that point (R374, R376). -/
  asked : Option (Nat × Nat × Nat × Nat)
  /-- Numbered codewords are discarded until the replay asked for arrives (R374). -/
  waiting : Bool
  /-- First codeword number and slot of the frame being received. -/
  rxStart : Nat
  rxStartSlot : Nat
  /-- Usable lanes at this end and, once told, at the partner (R364, R368). -/
  usable : Nat
  partner : Option Nat
  /-- Tick at which the stage began, and how often the stage sequence has been tried (R369). -/
  stageAt : Nat
  tries : Nat
  /-- How often stage 6 has run again after stage 7, and whether a codeword of this stage 7 was uncorrectable (R369). -/
  checks : Nat
  checkBad : Bool
  /-- The row of R359 that auto-negotiation has settled (R360); none for that of ETH_TYPE. -/
  ethRow : Option Nat
  /-- Corrected symbols by lane index in the last window (R376). -/
  symbols : List Nat
  /-- A change of active lanes in progress: the new usable mask (R377). -/
  narrowing : Option Nat
  /-- A change of active lanes that waits for both directions to wake (R386): true at the receiving end, which begins it. -/
  narrowDue : Option Bool
  /-- A REPLAY_REQ that came during a narrowing (R386). -/
  heldReq : Option Nat
  /-- Tick at which the shut-down of a port that was up began (R384); none for another port. -/
  shutAt : Option Nat
  /-- Tick of the last return to ACTIVE of the transmit direction (R382). -/
  wokeAt : Option Nat
  /-- Tick at which the transmit direction started waking, while it wakes (R382, R383). -/
  txWaking : Option Nat
  /-- Wake tick of the partner's last LANE POWER notice; 0 none (R368, R383). -/
  rxTick : Nat
  /-- Free-count tick at which the muster of its receive crossing began (R50); none before a bring-up, and off a trunk. -/
  musterAt : Option Nat
  /-- How often that muster has failed in this bring-up (R50). -/
  musterFails : Nat
  deriving DecidableEq, Repr, Inhabited

/-! ### Tallies (R153 to R198) -/

/-- A slot of a tally (R161). -/
structure TSlot where
  port : Nat
  coord : Nat
  isModule : Bool
  contrib : Bool
  receives : Bool
  rank : Nat
  child : Bool
  first : Nat
  last : Nat
  deriving DecidableEq, Repr, Inhabited

/-- A receiving slot of a chunk's result (R183, R190). -/
structure TRecv where
  slot : Nat
  /-- Resends made, and the tick of the last send. -/
  resends : Nat
  sentAt : Nat
  /-- Acknowledged good, or shown missed. -/
  done : Bool
  deriving DecidableEq, Repr, Inhabited

/-- A chunk in the window of a tally: what its tally frames and flag stores hold (R153, R166). -/
structure TChunk where
  /-- Number of the chunk: round × CHUNKS + chunk. -/
  g : Nat
  /-- Lanes: the window sums of R170, or the values of the other operators; empty before the first contribution. -/
  lanes : List Int
  /-- Flag bytes of the lanes (R153). -/
  flags : List Nat
  /-- Records or single contributions, by slot (R178). -/
  recs : List (Nat × List Byte)
  /-- Arrival map: (slot, part) taken (R167). -/
  taken : List (Nat × Nat)
  /-- Tick since which the window position is open for it, and the tick and bell time of its completion (R182, R191). -/
  openAt : Nat
  doneAt : Option (Nat × Nat)
  /-- RESENDs sent: (slot, count, tick of the last) (R191). -/
  resends : List (Nat × Nat × Nat)
  /-- The step has fired (R183). -/
  stepped : Bool
  /-- The result held, with the OR of its flags. -/
  result : Option (List Byte × Nat)
  recvs : List TRecv
  deriving DecidableEq, Repr, Inhabited

/-- Dispatch bookkeeping of one destination (R187, R188). -/
structure TDest where
  member : Nat
  sent : Nat
  dropped : Nat
  lastSeen : Bool
  deriving DecidableEq, Repr, Inhabited

/-- What a COMPLETE record says of a round (R189): OR of result flags, steps late, resends, slots missed. -/
structure TStat where
  flags : Nat
  late : Nat
  resent : Nat
  missed : List Nat
  deriving DecidableEq, Repr, Inhabited

/-- A tally context (R160 to R163). -/
structure TCtx where
  idx : Nat
  party : Nat
  id : Nat
  op : Nat
  coll : Nat
  inFmt : Nat
  outFmt : Nat
  exact : Bool
  normalise : Bool
  timed : Bool
  window : Nat
  floor : Int
  headDim : Nat
  rounds : Nat
  chunks : Nat
  parent : Nat
  parentSlot : Nat
  root : Bool
  startTick : Nat
  stepTicks : Nat
  cap : Nat
  members : Nat
  rootMember : Nat
  rankBase : Nat
  slots : List TSlot
  frames : Nat
  round : Nat
  /-- Chunk number of the oldest chunk not yet freed (R196). -/
  oldest : Nat
  /-- Chunks of the window not yet freed. -/
  win : List TChunk
  /-- Chunks before this number may be sent to the parent (R166). -/
  parentLimit : Nat
  /-- The limit of the last CREDIT to each slot (R166). -/
  credited : List (Nat × Nat)
  /-- Ticks at which chunks were completed, and at which each round's first contribution was taken (R191). -/
  doneTicks : List (Nat × Nat)
  firsts : List (Nat × Nat)
  /-- What the records of the rounds under way will say, by round (R189). -/
  stats : List (Nat × TStat)
  dests : List TDest
  /-- Rounds that failed (R193). -/
  failedRounds : List Nat
  /-- The numbers of the tally frames it holds (R153, R155). -/
  store : List Nat
  /-- A CREDIT of a round's end has fallen due in PHASE 0x6 (R182). -/
  creditDue : Bool
  /-- A DISPATCH tally's RESENDs since its sender was last heard, and the tick of the last of either (R191). -/
  asks : Nat
  heardAt : Option Nat
  deriving DecidableEq, Repr, Inhabited

/-- A contribution this module keeps as a contributing agent until a CREDIT shows it taken (R168, R220). -/
structure Kept where
  party : Nat
  id : Nat
  slot : Nat
  coord : Nat
  round : Nat
  chunk : Nat
  part : Nat
  payload : List Byte
  /-- It has been sent. -/
  sent : Bool
  /-- The attention work it belongs to: stay index and requester's TAG; none for an OPERAND instruction's. -/
  work : Option (Nat × Nat)
  /-- The core whose OPERAND instruction holds it, and the bell time of its launch's firing. -/
  core : Option Nat
  launch : Nat
  deriving DecidableEq, Repr, Inhabited

/-- The limit of the latest CREDIT that a tally, at a coordinate, has sent to this module as the contributing agent of a slot (R166). -/
structure SendLimit where
  party : Nat
  id : Nat
  coord : Nat
  slot : Nat
  round : Nat
  chunk : Nat
  deriving DecidableEq, Repr, Inhabited

/-- The tally block beside the TL_ registers. -/
structure Tally where
  /-- The vacancy banks are threaded (R155). -/
  threaded : Bool
  /-- The signed shared-free count (R473), and the frames claimed. -/
  sharedFree : Int
  claimed : Nat
  /-- The vacancy lists of the tally frames (R155). -/
  vac : Vacancy
  /-- The contexts (R159). -/
  ctxs : List TCtx
  /-- Contributions that this module's agents keep until they are credited (R168, R288). -/
  kept : List Kept
  /-- Send limits a contributing agent has been told (R166). -/
  limits : List SendLimit
  /-- Contexts that ended in PHASE 0x6, whose last CREDITs are owed until it ends (R166, R182). -/
  owed : List TCtx
  deriving DecidableEq, Repr, Inhabited

/-! ### Memory (R326 to R354) -/

/-- An entry of a base die's write-merge buffer (R335): pair address (pool byte address / 64), byte mask and bytes, and the
free-count tick at which it was made. -/
structure MergeEntry where
  pair : Nat
  mask : Nat
  data : List Byte
  at_ : Nat
  deriving DecidableEq, Repr, Inhabited

/-- A row repair in force (R350): the spare row it stands on and how often the row has been remapped. -/
structure Remap where
  stack : Nat
  pc : Nat
  bank : Nat
  row : Nat
  spare : Nat
  times : Nat
  deriving DecidableEq, Repr, Inhabited

/-- The stacks and base dies beside the MEM_ registers. -/
structure MemUnit where
  /-- Bytes of the pool by address; an unlisted byte is 0, as the fill leaves it (R344). -/
  bytes : List (Nat × Byte)
  /-- Poisoned pairs (R341); an unlisted pair is clean. -/
  poison : List (Nat × Bool)
  /-- The write-merge entries, oldest first (R335). -/
  merge : List MergeEntry
  remaps : List Remap
  /-- A repair or retirement in progress: its control word (R349). -/
  repair : Option Nat
  /-- Failed replays in a row of each stack's interface (R327). -/
  crcRuns : List (Nat × Nat)
  /-- Stacks whose full table has been reported (R346). -/
  fullTold : List Nat
  /-- The sweep under way (R347): first and last room as they stood at GO, and the stacks that were up then. -/
  sweep : Option (Nat × Nat × List Nat)
  deriving DecidableEq, Repr, Inhabited

/-! ### Stays (R199 to R233) -/

/-- A stay entry (R200). -/
structure Stay where
  state : Nat
  party : Nat
  gen : Nat
  depth : Nat
  root : Nat
  /-- LOC, in PARKED_PEER: peer coordinate × 2^18 + guest index. -/
  loc : Nat
  tokens : Nat
  rooms : Nat
  booked : Nat
  twinCoord : Nat
  twinValid : Bool
  twinIndex : Nat
  lastUse : Nat
  ownerRank : Nat
  inflight : Nat
  priority : Nat
  /-- The module whose mirror this stay was before its takeover (R232); no part of the entry's words. -/
  oldHome : Option Nat
  deriving DecidableEq, Repr, Inhabited

/-- A query being assembled (R219). -/
structure Query where
  srcCoord : Nat
  srcPort : Nat
  tag : Nat
  partsM1 : Nat
  /-- A frame of it, for the reply. -/
  frame : Frame
  parts : List (Nat × List Byte)
  at_ : Nat
  /-- A frame of it disagreed with the others or had a reserved value. -/
  bad : Bool
  deriving DecidableEq, Repr, Inhabited

/-- An ATTEND taken (R219): the stay, the positions, the room set in its order (R248), the query, and the class and shape of its
program. -/
structure Attend where
  index : Nat
  handle : Nat
  party : Nat
  layer : Nat
  first : Nat
  last : Nat
  rooms : List Nat
  /-- Blocks per head, and positions per room. -/
  bph : Nat
  tpr : Nat
  kvHeads : Nat
  qHeads : Nat
  dim : Nat
  query : List Byte
  program : Nat
  cls : Nat
  /-- The frame that asked, for the replies. -/
  frame : Frame
  /-- The stay's card as it was read when the ATTEND was taken (R202); it holds for the stay's whole life. -/
  card : List Byte
  /-- It has met an uncorrectable room once (R264). -/
  rerun : Bool
  /-- ATTENDs taken before it: its place in the order of arrival (R247). -/
  seq : Nat
  deriving DecidableEq, Repr, Inhabited

/-- Who waits for the end of an operation: nobody, a requester, or a bound launch's party rank (R257). -/
inductive Asker where
  | nobody
  | request (f : Frame)
  | bound (party rank base : Nat)
  deriving DecidableEq, Repr

/-- A request that waits at its stay (R217, R233). -/
structure Waiting where
  index : Nat
  asker : Asker
  /-- Docket and data of an APPEND or, with ATTEND's ADDRESS, its query. -/
  frame : Frame
  /-- The page whose mend it waits for. -/
  mend : Option Nat
  /-- An ATTEND that met a poisoned room in its launch and is placed again once the room is mended (R264). -/
  attend : Option Attend
  /-- A CLOSE taken while the stay's rooms lay at this guest of a peer (LOC), which is discarded with it (R223). -/
  guest : Option Nat
  /-- A CLOSE that is being performed: it is answered when the stay's rooms are released (R223). -/
  closing : Bool
  deriving DecidableEq, Repr

/-- A mirrored operation that awaits its MIRROR_ACK (R229 to R231), known by its TAG. -/
structure Mirroring where
  tag : Nat
  index : Nat
  op : Nat
  asker : Asker
  /-- KIND and docket of the reply that is owed, none where nothing is owed. -/
  reply : Option (Nat × List Byte)
  /-- An operation whose refusal frees the entry (R215). -/
  must : Bool
  /-- An operation of REMIRROR (R231), or an OPEN to be followed by ROOMCOPY (R230): pages below this have been copied. -/
  copy : Option Nat
  twin : Nat
  at_ : Nat
  deriving DecidableEq, Repr

/-- A long operation that moves rooms (R225 to R227). -/
structure Move where
  index : Nat
  asker : Asker
  /-- 1 park to host, 2 park to peer, 3 return from a peer (at the home), 4 pages being sent back (at the peer), 5 a restored
  stay's pages recalled from its twin (R421). -/
  kind : Nat
  /-- An eviction's park (R228), and whether the host is tried after the peer. -/
  evict : Bool
  thenHost : Bool
  peer : Nat
  /-- INDEX of the receiving entry at the peer. -/
  far : Nat
  /-- Waiting for INFLIGHT 0 (0), booked at the peer (1), pages under way (2). -/
  stage : Nat
  /-- The page whose acknowledgement, or whose arrival, comes next. -/
  page : Nat
  /-- TAG of its frames, and the rooms held when it began. -/
  tag : Nat
  rooms : Nat
  /-- The pages to be moved, by the card read when they began to move (R205). -/
  pages : Nat
  deriving DecidableEq, Repr

/-- A page that arrives in pieces (R226, R233): stay, page, the room it is written to, and whether it mends a room. -/
structure Arriving where
  index : Nat
  page : Nat
  room : Nat
  mend : Bool
  deriving DecidableEq, Repr

/-- The stays block beside the ST_ registers. -/
structure StayUnit where
  /-- The stay table; an unlisted entry is FREE with GEN 0 (R202). -/
  table : List (Nat × Stay)
  /-- The free rooms have been counted since reset (log entry 40). -/
  counted : Bool
  /-- First free room of each stack's vacancy list, 0 none, and fresh mark of each stack (R208). -/
  vac : List Nat
  /-- The fresh mark of each stack: the lowest room never given out (R208). -/
  fresh : List Nat
  /-- Rooms on a vacancy list at or above their stack's fresh mark, put there by a release (R352; log entry 44). -/
  early : List Nat
  /-- Chart nodes freed, and the lowest never allocated (log entry 41). -/
  nodeFree : List Nat
  nodeMark : Nat
  /-- Queries being assembled (R219). -/
  queries : List Query
  /-- ATTENDs that wait for a slot, in arrival order (R247). -/
  placing : List Attend
  /-- Requests that wait for their stay, in arrival order (R213). -/
  waiting : List Waiting
  /-- Mirrored operations under way, and the next sequence number of one (R230). -/
  mirrors : List Mirroring
  mirrorSeq : Nat
  /-- Parks, recalls and closes under way (R225 to R227). -/
  moves : List Move
  /-- Pages of a guest that arrive (R226). -/
  arriving : List Arriving
  /-- Entries changed by the takeover in progress (R232). -/
  taken : Nat
  /-- Eviction has started and not reached HIGH (R228). -/
  evicting : Bool
  /-- Park notices not yet written to queue 1 (R434). -/
  notices : List (List Byte)
  deriving DecidableEq, Repr

/-! ### Clusters and cores (R236 to R325) -/

/-- A store bank of a core (R269, R298): PERIOD, itinerary entries (two words each), bundle words, descriptors (two words
each), send targets. -/
structure StoreBank where
  period : Nat
  entries : List (Nat × Nat)
  words : List Nat
  descs : List (Nat × Nat)
  targets : List Nat
  deriving DecidableEq, Repr, Inhabited

/-- An instruction in a unit's queue: its words, the X registers taken at dispatch (R275), the number of an array product
(R262), and the store bank it runs from (R303). -/
structure Queued where
  word : Nat
  ext : Nat
  xs : List Nat
  product : Nat
  bank : Nat
  deriving DecidableEq, Repr, Inhabited

/-- What holds a core's dispatch (R275, R281, R282). -/
inductive Hold where
  | none
  | queueFull
  | untilTick (t : Nat)
  | drain
  deriving DecidableEq, Repr

/-- A histogram accumulator (R320, R321). -/
structure Hist where
  base : Int
  bins : List Nat
  zero : Nat
  sub : Nat
  sat : Nat
  nonfin : Nat
  total : Nat
  deriving DecidableEq, Repr

/-- A binding of a bound slot (R253): party, output rank, mask, base. -/
structure Binding where
  party : Nat
  rank : Nat
  mask : Nat
  base : Nat
  deriving DecidableEq, Repr, Inhabited

/-- The work latched for a core's launch (R293). -/
structure Launch where
  slot : Nat
  empty : Bool
  /-- The ATTEND of a dynamic launch. -/
  attend : Option Attend
  /-- Docket of a bound launch: handle, LAYER, START, COUNT, MODE (R255). -/
  handle : Nat
  layer : Nat
  start : Nat
  count : Nat
  mode : Nat
  /-- The room set of the launch and the lowest entry no completed ROOMLD has named, with later ones that were (R273). -/
  rooms : List Nat
  lo : Nat
  named : List Nat
  /-- It was latched for a bound slot; inbox bytes accepted since the latch (R288); bell time of its firing. -/
  bound : Bool
  inbox : Nat
  tick : Nat
  first : Nat
  last : Nat
  bph : Nat
  tpr : Nat
  kvHeads : Nat
  /-- The binding in force at the latch (R253). -/
  binding : Option Binding
  abandoned : Bool
  deriving DecidableEq, Repr, Inhabited

/-- A sequence slot of a core. -/
structure Slot where
  /-- From the slots section (R299). -/
  used : Bool
  bound : Bool
  program : Nat
  cls : Nat
  /-- 0 free, 1 placed, 2 running, 3 sending (R267). -/
  phase : Nat
  work : Option Attend
  binding : Option Binding
  /-- Bindings written and not yet in effect, oldest first: valid, binding, bell time of the write (R253). -/
  bindNext : List (Bool × Binding × Nat)
  deriving DecidableEq, Repr, Inhabited

/-- A core. -/
structure Core where
  /-- Operand buffer by byte address; an unlisted byte is 0 (log entry 45). -/
  buf : List (Nat × Byte)
  /-- Its bank of the transposing buffer, 512 KiB, by byte (R242); an unlisted byte is 0. -/
  turn : List (Nat × Byte)
  /-- Store banks, the number of the one in force, and the one a firing still runs from (R269, R303). -/
  banks : List StoreBank
  front : Nat
  runBank : Nat
  slots : List Slot
  /-- X0 to X15 (R277). -/
  xs : List Nat
  /-- Chits 1 to 31 at their numbers (R276). -/
  chits : List Nat
  /-- Queues and running instructions of units 1 to 5, at units − 1. -/
  queues : List (List Queued)
  running : List (Option Queued)
  /-- Next bundle word of the firing being dispatched, and what holds dispatch. -/
  pc : Option Nat
  hold : Hold
  /-- Bell time of the firing being dispatched, its entry's second word, and products dispatched in it. -/
  fired : Nat
  flags : Nat
  products : Nat
  /-- Next firing: entry, firing within it, pass, firings since activation (R291). -/
  entry : Nat
  rep : Nat
  pass : Nat
  lnum : Nat
  launch : Option Launch
  /-- Power-gated until the next WAKE (R294). -/
  gated : Bool
  hists : List Hist
  /-- Engine groups flushed and saturated since a HISTOUT, and those of the running MMA (R322). -/
  engUfl : Nat
  engOfl : Nat
  mmaUfl : Nat
  mmaOfl : Nat
  /-- Flags and operand bytes of the running MMA, which a run of it on another core takes (R262, R263, R404). -/
  mmaFlags : Nat
  mmaBytes : List Byte
  /-- The entry being fired has counted as late (R54). -/
  lateOn : Bool
  /-- Free-count tick of the last residue failure (R404). -/
  residueAt : Option Nat
  /-- The running product's tiles differ, or its residue failed, and it is held (R263): its number. -/
  dupHold : Option Nat
  /-- Failures of checks met in a stopover, handled after it (R419): of the residues, with whether the second run passed; of duplicates. -/
  checks : List (Option Bool)
  /-- A proof suite runs on it (R408); one has run since its quarantine; a CL_QUAR clear is held for its end. -/
  proof : Bool
  proofed : Bool
  quarHeld : Bool
  /-- Launches due in a stopover not yet fired are late (R54): the core runs work of the image before the one in force. -/
  oldWork : Bool
  deriving DecidableEq, Repr

/-- A program of the image in force (R299). -/
structure Program where
  number : Nat
  kvFmts : Nat
  headDim : Nat
  kvHeadsM1 : Nat
  qHeadsM1 : Nat
  maxRooms : List Nat
  deriving DecidableEq, Repr, Inhabited

/-- The parts of an image that no core store holds: programs, slot entries, curfew lists, and the numbers of its header. -/
structure Image where
  /-- ACTIVE_ID, DUP_FRACTION, the programs and the slots of an image (R296 to R299). -/
  id : Nat
  dup : Nat
  programs : List Program
  slots : List Nat
  /-- Curfew lists: port, switch offset, 1,025 bank words (R299). -/
  curfews : List (Nat × Nat × List Nat)
  /-- The image's digest (R301). -/
  digest : List Byte
  deriving DecidableEq, Repr, Inhabited

/-- The clusters beside the CL_ registers (R236). -/
structure Clusters where
  cores : List Core
  /-- Shared area of each cluster by byte address within it; an unlisted byte is 0. -/
  shared : List (List (Nat × Byte))
  /-- Activation tick B (R291), the image in force and the one staged and verified. -/
  base : Nat
  active : Option Image
  staged : Option Image
  /-- The activation tick that is armed (R302). -/
  armed : Option Nat
  deriving DecidableEq, Repr

/-! ### Health, stopover, restore (R407 to R421) -/

/-- The stopover agent, the restore, the health monitor and the proof kernels beside the PH_ registers. -/
structure Health where
  /-- Corrections by stack at the evaluations of the last hour: (free-count tick, total of each stack) (R409). -/
  corrected : List (Nat × List Nat)
  /-- A risk crossing has been reported and RISK has not fallen below STOP_RISK − HYST (R410). -/
  crossed : Bool
  /-- Free-count tick of the trigger of the stopover in progress, and what started it asks an answer (mailbox). -/
  stopAt : Nat
  stopMailbox : Bool
  /-- A tick armed in PH_STOP_TICK (R411). -/
  stopArmed : Bool
  /-- Owner states and cumulative link credits as they stood when quiesce ended, the bell time then, and the units busy then, by core and unit
  (R412 events 2 and 3). -/
  latched : List Nat
  latchedAt : Nat
  busyUnits : List (Nat × Nat)
  /-- Digest of the snapshot written (R416). -/
  snapDigest : List Byte
  /-- The guest's transfer in progress: SEQ, segments received with their bytes in the guest bank, and the digest made of
  them with their length (R415, R416). -/
  guestSeq : Nat
  guestSegs : List (Nat × List Byte)
  guestDigest : Option (Nat × List Byte)
  /-- The confirmed guest copy: bank, SEQ, length, digest, bell time of capture (R415). -/
  guest : Option (Nat × Nat × Nat × List Byte × Nat)
  /-- Restore (R420): the record asked for, the segments received. -/
  record : Option (Nat × Nat × List Byte × Nat)
  segs : List (Nat × List Byte)
  /-- The copy has been accepted and its stays reinstated, and those still to be read (R420). -/
  restored : Bool
  restoring : List Nat
  deriving DecidableEq, Repr, Inhabited

/-! ### Host attach, boot, flash, identity (R425 to R450) -/

/-- Module flash (R439): images by component and slot, counters, records. It survives every reset. -/
structure Flash where
  /-- (component, slot B, bytes). -/
  images : List (Nat × Bool × List Byte)
  /-- Minimum SVN, active slot (B) and trial mark, by component (R449). -/
  minSvn : List (Nat × Nat)
  activeB : List Nat
  trial : List Nat
  /-- The owner key, none while the owner record is empty (R446). -/
  owner : Option (List Byte)
  /-- The repair ledger, 8-byte entries in order (R351). -/
  ledger : List Nat
  /-- Daily values of RISK, oldest first (R410). -/
  history : List Nat
  /-- The stopover record: SEQ, digest, bank, partner (R417). -/
  stop : Option (Nat × List Byte × Bool × Nat)
  /-- Wear of the power stages: cycles and seconds, by stage (R457). -/
  wear : List (Nat × Nat × Nat)
  deriving DecidableEq, Repr, Inhabited

/-- A flash write in progress, which is never aborted (R450). -/
inductive FlashWrite where
  /-- UPDATE_COMPONENT: component, slot, bytes. -/
  | component (c : Nat) (slotB : Bool) (data : List Byte)
  | owner (key : Option (List Byte))
  /-- The stopover record (R417): SEQ, digest, bank, partner. -/
  | stopRecord (seq : Nat) (digest : List Byte) (bank : Bool) (partner : Nat)
  | ledger (entries : List Nat)
  | recover (c : Nat) (slotB : Bool) (piece : Nat) (data : List Byte)
  deriving DecidableEq, Repr

/-- A background command of the mailbox (R436): its opcode and what it will answer. -/
structure Background where
  opcode : Nat
  /-- The command's payload. -/
  arg : List Byte
  code : Nat
  payload : List Byte
  /-- It ends by itself when this is set; a stopover ends with its result. -/
  ready : Bool
  /-- Its end is reported (R438). -/
  report : Bool
  deriving DecidableEq, Repr, Inhabited

/-- An entry of the measurement log (R448). -/
structure LogEntry where
  block : Nat
  tick : Nat
  digest : List Byte
  imageId : Nat
  deriving DecidableEq, Repr, Inhabited

/-- The outcome of a verification of the staged image (R301), taken in when it ends: a failure, with the banks of the core sections that had passed
their checks, or the image and its banks. -/
inductive Verdict where
  | fails (code : Nat) (banks : List StoreBank)
  | passes (image : Image) (banks : List StoreBank)
  deriving DecidableEq, Repr

/-- What the function shows in its configuration space (R425, R427). -/
structure ConfigSpace where
  /-- The class code, and BAR0: its size, that it is 64-bit, that it is prefetchable, and the address that a host has given it. -/
  classCode : Nat
  barBytes : Nat
  bar64 : Bool
  barPrefetch : Bool
  barAddress : Nat
  /-- Where the Register Locator DVSEC places the memory-device registers in BAR0. -/
  locator : Nat
  /-- The HDM decoder: its ways, that it is host-only coherent, and the range that a host has committed it to: (base, size). -/
  hdmWays : Nat
  hdmHostOnly : Bool
  hdmRange : Option (Nat × Nat)
  deriving DecidableEq, Repr, Inhabited

/-- Boot, host attach and identity beside the MB_ registers. -/
structure HostUnit where
  /-- Configuration space (R427, R428). -/
  config : ConfigSpace
  /-- Module flash, and the writes of it that run, oldest first (R450). -/
  flash : Flash
  writing : List FlashWrite
  /-- The boot stage that runs (R442). -/
  stage : Option Nat
  /-- The last boot stage that stands, and bit k − 1 for each component k that runs from slot B, and from a trial slot: what a cold reset leaves
  standing while MB_BOOT_STATUS returns to its reset value (R11, R443). -/
  passed : Nat
  bootB : Nat
  bootTrial : Nat
  /-- The component whose two slots failed (R444). -/
  failed : Option Nat
  /-- The measurement log (R448). -/
  log : List LogEntry
  /-- Digests of components and blocks by block number (R448). -/
  measured : List (Nat × List Byte)
  /-- SVN of each component's image as boot verified it (R449). -/
  svns : List (Nat × Nat)
  /-- The background command that runs (R436), and the nonce given out (R446). -/
  background : Option Background
  /-- The last background command that ended, and its return code (R436): what the background command status shows. -/
  bgDone : Option (Nat × Nat)
  nonce : Option (List Byte)
  /-- Staged lengths: itinerary and component, and whether the staged bytes are good (R437). -/
  stagedLen : Option Nat
  componentLen : Option (Nat × Bool)
  /-- Phase tag of each doorbell queue's pass (R432), and since when a queue's vector is held off (R435). -/
  tags : List Bool
  holdoff : List (Option Nat)
  owedVector : List Bool
  /-- SPDM: an algorithm selection was made (R447): none before NEGOTIATE_ALGORITHMS. -/
  selected : Option Bool
  /-- Itinerary verification in progress: its outcome (R301). -/
  verifying : Option Verdict
  /-- A Function Level Reset that waits for the end of a flash write (R450). -/
  flrOwed : Bool
  /-- Firmware components in the pool loaded again after a poisoned read (R443). -/
  reloaded : List Nat
  deriving DecidableEq, Repr

/-! ### What the block has sent -/

/-- A control block sent on a fabric port (R368). -/
inductive CtrlBlock where
  | status (credits : List Nat) (detour ackSeq : Nat)
  | replayReq (seq slot : Nat)
  | replayStart (seq : Nat)
  | lane (op mask power tick : Nat)
  /-- The complemented seal. -/
  | spoil (crc : Nat)
  deriving DecidableEq, Repr

/-- Everything the block has sent, oldest first: frames and control blocks per port, Ethernet frames, MCTP messages,
writes to host memory, MSI-X vectors, mailbox, CXL.mem, DOE and SPDM responses. MODEL: the environment's record. -/
structure Output where
  /-- (port, frame, ended spoiled). -/
  frames : List (Nat × Frame × Bool)
  /-- Ethernet frames (R140): (port, bytes, ended spoiled). -/
  eth : List (Nat × List Byte × Bool)
  /-- Control blocks by port, 64 bytes each (R368). -/
  ctrl : List (Nat × List Byte)
  /-- Identity words sent in stage 2, by port and lane index (R370). -/
  idents : List (Nat × Nat × Nat)
  /-- Answers to the steward (R66). -/
  mctp : List (List Byte)
  /-- Writes of host memory (R432): (address, bytes). -/
  hostMem : List (Nat × List Byte)
  /-- MSI-X vectors sent (R435), and those masked ones that the pending-bit array shows. -/
  msix : List Nat
  pba : List Nat
  /-- (opcode, return code, payload). -/
  mailbox : List (Nat × Nat × List Byte)
  /-- Return code in the mailbox status register (R436). -/
  mbCode : Nat
  /-- (window offset, bytes, poison). -/
  memData : List (Nat × List Byte × Bool)
  /-- Responses of DOE exchanges (R425), and SPDM messages (R447). -/
  doe : List (List Byte)
  spdm : List (List Byte)
  deriving DecidableEq, Repr, Inhabited

/-! ### The whole -/

/-- The state of the block. -/
structure State where
  /-- Registers of BAR0 by offset; an unlisted offset reads its reset value (R11, R27). -/
  regs : List (Nat × Word)
  /-- The latest switch cycle in which hardware set W1C bits, and those bits by the offset of their register (R13). MODEL. -/
  rose : Nat × List (Nat × Word)
  /-- A choice window opens at BT_RUN_START (R58); false for the window that runs from reset. -/
  windowArmed : Bool
  /-- The power input and start-up (R452 to R465). -/
  power : Power
  /-- Bell time (R35 to R62). -/
  bell : BellUnit
  /-- The queue of fault messages on their way to the ring (R391, R392). -/
  watch : WatchQ
  /-- The packet buffer, its queues and the switch core's timers (R115 to R154). -/
  sw : Switch
  /-- Ports by number; an unlisted port is in its default state (R357 to R390). -/
  lanes : List (Nat × PortCtl)
  /-- The tally engine (R155 to R198). -/
  tally : Tally
  /-- The pool (R325 to R356). -/
  mem : MemUnit
  /-- The stays and rooms service (R199 to R235). -/
  stays : StayUnit
  /-- The attention clusters and their images (R236 to R306). -/
  clusters : Clusters
  /-- The health monitor and the stopover agents (R409 to R421). -/
  health : Health
  /-- Boot, module flash and the host attach (R425 to R451). -/
  host : HostUnit
  /-- What the module has sent, oldest first. MODEL. -/
  out : Output
  /-- Commands waiting, first in, first out. MODEL. -/
  pending : List Instr
  /-- Counter of free values taken. MODEL (log entry 2). -/
  freeCtr : Nat
  deriving DecidableEq, Repr

/-! ### Reset -/

/-- The bell-time unit after reset: the free count at 0, bell time not set, nothing heard (R41, R45). -/
def bellReset : BellUnit :=
  { free := 0, now := 0, parent := none, dirs := List.replicate 6 ⟨none, 0, none, 3, 0, 0, none, none⟩, seq := 0, openExch := none,
    answered := true, good := 0, bad := 0, missed := 0, holdAt := 0, rootWaitAt := none, rootFrom := none,
    ptpAcquired := false, skipped := none }

/-- Every bank's list as threading leaves it: its buffers in rising order (R117, R155). -/
def vacancyReset : Vacancy := { freed := List.replicate 64 [], fresh := List.replicate 64 0, next := 0 }

/-- The switch after reset: every cell but the agents' and the detour store's reservations is shared (R117 to R123); the banks
are not threaded. -/
def switchReset : Switch :=
  { threaded := false, sharedFree := 517352, claimed := 0, resvSum := 6936, banksDown := [], vac := vacancyReset,
    heldCells := [], hand := [], lost := [], nextId := 0, descs := [], copies := [], rx := [], rxGone := [], agentQ := [], agentWait := [], txCredit := [], txCum := [], rxCum := [], detourCredit := [],
    detourCum := [], detourOut := [], policers := [], redAvg := [], seed := 0, lfsr := [], drr := [], shapers := [], sinkSince := [],
    closers := [], rotor := 0, miscabled := [], curfew := [], curfewStart := [], mac := [], held0 := [], access := [], oldEntries := (0, []) }

/-- The tally after reset (R155). -/
def tallyReset : Tally := { threaded := false, sharedFree := 6144, claimed := 0, vac := vacancyReset, ctxs := [], kept := [], limits := [], owed := [] }

/-- The stacks after reset: nothing poisoned, no write held (R344). -/
def memReset : MemUnit :=
  { bytes := [], poison := [], merge := [], remaps := [], repair := none, crcRuns := [], fullTold := [], sweep := none }

/-- The stays block after reset: every entry FREE, fresh marks at the first room of each stack that serves stays (R202, R208). -/
def staysReset : StayUnit :=
  { table := [], counted := false, vac := List.replicate 8 0,
    fresh := [32768, 2097152, 4194304, 6291456, 8388608, 10485760, 12582912, 14680064],
    early := [], nodeFree := [], nodeMark := 1, queries := [], placing := [], waiting := [], mirrors := [], mirrorSeq := 0, moves := [],
    arriving := [], taken := 0, evicting := false, notices := [] }

/-- A histogram accumulator after reset (R323). -/
def histReset : Hist := { base := -32, bins := List.replicate 64 0, zero := 0, sub := 0, sat := 0, nonfin := 0, total := 0 }

/-- A slot that no image has marked. -/
def slotReset : Slot :=
  { used := false, bound := false, program := 0, cls := 0, phase := 0, work := none, binding := none, bindNext := [] }

/-- An empty store bank. -/
def bankReset : StoreBank := { period := 0, entries := [], words := [], descs := [], targets := [] }

/-- A core after reset: no image in force, nothing dispatched (R303). -/
def coreReset : Core :=
  { buf := [], turn := [], banks := [bankReset, bankReset], front := 0, runBank := 0, slots := List.replicate 16 slotReset,
    xs := List.replicate 16 0, chits := List.replicate 32 0, queues := List.replicate 5 [], running := List.replicate 5 none,
    pc := none, hold := .none, fired := 0, flags := 0, products := 0, entry := 0, rep := 0, pass := 0, lnum := 0,
    launch := none, gated := false, hists := List.replicate 4 histReset, engUfl := 0, engOfl := 0, mmaUfl := 0, mmaOfl := 0, mmaFlags := 0, mmaBytes := [], lateOn := false, residueAt := none,
    dupHold := none, checks := [], proof := false, proofed := false, quarHeld := false, oldWork := false }

/-- The clusters after reset. -/
def clustersReset : Clusters :=
  { cores := List.replicate 24 coreReset, shared := List.replicate 6 [], base := 0, active := none, staged := none, armed := none }

/-- The health and stopover block after reset. -/
def healthReset : Health :=
  { corrected := [], crossed := false, stopAt := 0, stopMailbox := false, stopArmed := false, latched := [], latchedAt := 0, busyUnits := [], snapDigest := [],
    guestSeq := 0, guestSegs := [], guestDigest := none, guest := none, record := none, segs := [], restored := false, restoring := [] }

/-- Module flash as the model finds it: no owner key, no repair, no history; the images are those of Config.flashImage (log
entry 47). -/
def flashReset : Flash :=
  { images := [], minSvn := [], activeB := [], trial := [], owner := none, ledger := [], history := [], stop := none, wear := [] }

/-- Configuration space after reset (R425, R427, R428): BAR0 is given no address and the HDM decoder is not committed. -/
def configReset : ConfigSpace :=
  { classCode := 0x050210, barBytes := 2 ^ 26, bar64 := true, barPrefetch := false, barAddress := 0, locator := 0x01A00000, hdmWays := 1,
    hdmHostOnly := true, hdmRange := none }

/-- Boot and host attach after reset. -/
def hostReset : HostUnit :=
  { config := configReset, flash := flashReset, writing := [], stage := none, passed := 0, bootB := 0, bootTrial := 0, failed := none, log := [], measured := [], svns := [],
    background := none, bgDone := none, nonce := none,
    stagedLen := none, componentLen := none, tags := [true, true], holdoff := [none, none], owedVector := [false, false],
    selected := none, verifying := none, flrOwed := false, reloaded := [] }

/-- The power input after reset: no supply, the switch open. -/
def powerReset : Power :=
  { auxOn := false, switchClosed := false, ocLatch := false, lowInput := false, discharging := false, phaseAt := 0, musterRuns := [],
    musterAt := 0, markAt := none, musterTodo := [], lowSince := [], stackSteps := [], clockHeld := none, hubHot := false, inputReady := some 0, latchEnds := none,
    resetOwed := false, resetDue := none, released := false }

/-- Nothing sent. -/
def outReset : Output :=
  { frames := [], eth := [], ctrl := [], idents := [], mctp := [], hostMem := [], msix := [], pba := [], mailbox := [], mbCode := 0, memData := [], doe := [], spdm := [] }

/-- The block after a power cycle: every register at its reset value, PHASE 0x0, nothing waiting (R11, R12, R30). -/
def State.reset : State :=
  { regs := [], rose := (0, []), windowArmed := false, power := powerReset, bell := bellReset, watch := { queue := [], edge := 0, taken := 0 }, sw := switchReset, lanes := [],
    tally := tallyReset, mem := memReset, stays := staysReset, clusters := clustersReset, health := healthReset,
    host := hostReset, out := outReset, pending := [], freeCtr := 0 }

end Sys2Proof.Machine
end

