-- ==== Sys2Proof/Machine/RegMap.lean ====
section
/-! DEFINITION. The register space of BAR0 (R27): the place of every register and field, and one table of every field's
access, reset value and valid encodings (R11, R15), from the register tables of the chapters. -/

namespace Sys2Proof.Machine

/-- R17. -/
def DV_IDENT : Nat := 0x00000000
/-- R17. -/
def DV_IDENT_VENDOR : Fld := ⟨DV_IDENT, 63, 48⟩
/-- R17. -/
def DV_IDENT_PART : Fld := ⟨DV_IDENT, 47, 32⟩
/-- R17. -/
def DV_IDENT_STEPPING : Fld := ⟨DV_IDENT, 31, 24⟩
/-- R17. -/
def DV_IDENT_IFACE_MAJOR : Fld := ⟨DV_IDENT, 23, 16⟩
/-- R17. -/
def DV_IDENT_IFACE_MINOR : Fld := ⟨DV_IDENT, 15, 8⟩
/-- R17. -/
def DV_IDENT_IMAGE_VALID : Fld := ⟨DV_IDENT, 0, 0⟩
/-- R29. -/
def DV_STATE : Nat := 0x00000008
/-- R29. -/
def DV_STATE_STACKS_FILLED : Fld := ⟨DV_STATE, 39, 32⟩
/-- R29. -/
def DV_STATE_TILES_READY : Fld := ⟨DV_STATE, 27, 24⟩
/-- R29. -/
def DV_STATE_PHASE : Fld := ⟨DV_STATE, 3, 0⟩
/-- R102. -/
def DV_COORD : Nat := 0x00000010
/-- R102. -/
def DV_COORD_VALID : Fld := ⟨DV_COORD, 31, 31⟩
/-- R102. -/
def DV_COORD_OPEN_MODE : Fld := ⟨DV_COORD, 30, 30⟩
/-- R102. -/
def DV_COORD_SIZE_Z_M1 : Fld := ⟨DV_COORD, 21, 19⟩
/-- R102. -/
def DV_COORD_SIZE_Y_M1 : Fld := ⟨DV_COORD, 18, 15⟩
/-- R102. -/
def DV_COORD_SIZE_X_M1 : Fld := ⟨DV_COORD, 14, 11⟩
/-- R102. -/
def DV_COORD_COORD : Fld := ⟨DV_COORD, 10, 0⟩
/-- R305. -/
def DV_ITIN_CTRL : Nat := 0x00001000
/-- R305. -/
def DV_ITIN_CTRL_CANCEL : Fld := ⟨DV_ITIN_CTRL, 1, 1⟩
/-- R305. -/
def DV_ITIN_CTRL_VERIFY : Fld := ⟨DV_ITIN_CTRL, 0, 0⟩
/-- R305. -/
def DV_ITIN_STATUS : Nat := 0x00001008
/-- R305. -/
def DV_ITIN_STATUS_LAST_ERR : Fld := ⟨DV_ITIN_STATUS, 63, 56⟩
/-- R305. -/
def DV_ITIN_STATUS_ACTIVE : Fld := ⟨DV_ITIN_STATUS, 3, 3⟩
/-- R305. -/
def DV_ITIN_STATUS_PENDING : Fld := ⟨DV_ITIN_STATUS, 2, 2⟩
/-- R305. -/
def DV_ITIN_STATUS_STAGED_OK : Fld := ⟨DV_ITIN_STATUS, 1, 1⟩
/-- R305. -/
def DV_ITIN_STATUS_BUSY : Fld := ⟨DV_ITIN_STATUS, 0, 0⟩
/-- R305. -/
def DV_ITIN_ACT_TICK : Nat := 0x00001010
/-- R305. -/
def DV_ITIN_ACT_TICK_TICK : Fld := ⟨DV_ITIN_ACT_TICK, 63, 0⟩
/-- R305. -/
def DV_ITIN_ACTIVE_ID : Nat := 0x00001018
/-- R305. -/
def DV_ITIN_ACTIVE_ID_ID : Fld := ⟨DV_ITIN_ACTIVE_ID, 63, 0⟩
/-- R305. -/
def DV_ITIN_STAGED_ID : Nat := 0x00001020
/-- R305. -/
def DV_ITIN_STAGED_ID_ID : Fld := ⟨DV_ITIN_STAGED_ID, 63, 0⟩
/-- R305. -/
def DV_ITIN_ERR : Nat := 0x00001028
/-- R305. -/
def DV_ITIN_ERR_VERIFY_FAIL : Fld := ⟨DV_ITIN_ERR, 2, 2⟩
/-- R305. -/
def DV_ITIN_ERR_BUSY : Fld := ⟨DV_ITIN_ERR, 1, 1⟩
/-- R305. -/
def DV_ITIN_ERR_REFUSED : Fld := ⟨DV_ITIN_ERR, 0, 0⟩
/-- R423. -/
def WATCH_CTRL : Nat := 0x00100000
/-- R423. -/
def WATCH_CTRL_NOTIFY_MIN : Fld := ⟨WATCH_CTRL, 2, 0⟩
/-- R423. -/
def WATCH_STATUS : Nat := 0x00100008
/-- R423. -/
def WATCH_STATUS_TOTAL : Fld := ⟨WATCH_STATUS, 63, 16⟩
/-- R423. -/
def WATCH_STATUS_WORST : Fld := ⟨WATCH_STATUS, 14, 12⟩
/-- R423. -/
def WATCH_STATUS_HEAD : Fld := ⟨WATCH_STATUS, 11, 0⟩
/-- R423. -/
def WATCH_LOST : Nat := 0x00100010
/-- R423. -/
def WATCH_LOST_COUNT : Fld := ⟨WATCH_LOST, 63, 0⟩
/-- R423. -/
def WATCH_INJECT : Nat := 0x00100018
/-- R423. -/
def WATCH_INJECT_GO : Fld := ⟨WATCH_INJECT, 63, 63⟩
/-- R423. -/
def WATCH_INJECT_KIND : Fld := ⟨WATCH_INJECT, 53, 48⟩
/-- R423. -/
def WATCH_INJECT_ADDRESS : Fld := ⟨WATCH_INJECT, 39, 0⟩
/-- R423. -/
def WATCH_ERR : Nat := 0x00100020
/-- R423. -/
def WATCH_ERR_RING_LOST : Fld := ⟨WATCH_ERR, 2, 2⟩
/-- R423. -/
def WATCH_ERR_NOTICE_LOST : Fld := ⟨WATCH_ERR, 1, 1⟩
/-- R423. -/
def WATCH_ERR_INJECT_REFUSED : Fld := ⟨WATCH_ERR, 0, 0⟩
/-- R423. -/
def WATCH_FIRST (n : Nat) : Nat := 0x00100100 + 8 * n
/-- R423. -/
def WATCH_FIRST_FIRST (n : Nat) : Fld := ⟨WATCH_FIRST n, 63, 0⟩
/-- R423. -/
def WATCH_SEV (n : Nat) : Nat := 0x00101000 + 8 * n
/-- R423. -/
def WATCH_SEV_OVERRIDE (n : Nat) : Fld := ⟨WATCH_SEV n, 3, 3⟩
/-- R423. -/
def WATCH_SEV_SEV (n : Nat) : Fld := ⟨WATCH_SEV n, 2, 0⟩
/-- R423. -/
def WATCH_RING_MSG (n : Nat) : Nat := 0x00108000 + 16 * n
/-- R423. -/
def WATCH_RING_MSG_MESSAGE (n : Nat) : Fld := ⟨WATCH_RING_MSG n, 63, 0⟩
/-- R423. -/
def WATCH_RING_TICK (n : Nat) : Nat := 0x00108008 + 16 * n
/-- R423. -/
def WATCH_RING_TICK_TICK (n : Nat) : Fld := ⟨WATCH_RING_TICK n, 63, 0⟩
/-- R144. -/
def SW_POOL_STATUS : Nat := 0x00200000
/-- R144. -/
def SW_POOL_STATUS_STAGE : Fld := ⟨SW_POOL_STATUS, 42, 40⟩
/-- R144. -/
def SW_POOL_STATUS_RESV_SUM : Fld := ⟨SW_POOL_STATUS, 39, 20⟩
/-- R144. -/
def SW_POOL_STATUS_SHARED_FREE : Fld := ⟨SW_POOL_STATUS, 19, 0⟩
/-- R144. -/
def SW_SACRIFICE : Nat := 0x00200008
/-- R144. -/
def SW_SACRIFICE_SHRINK : Fld := ⟨SW_SACRIFICE, 58, 56⟩
/-- R144. -/
def SW_SACRIFICE_T4 : Fld := ⟨SW_SACRIFICE, 55, 42⟩
/-- R144. -/
def SW_SACRIFICE_T3 : Fld := ⟨SW_SACRIFICE, 41, 28⟩
/-- R144. -/
def SW_SACRIFICE_T2 : Fld := ⟨SW_SACRIFICE, 27, 14⟩
/-- R144. -/
def SW_SACRIFICE_T1 : Fld := ⟨SW_SACRIFICE, 13, 0⟩
/-- R144. -/
def SW_CTRL : Nat := 0x00200010
/-- R144. -/
def SW_CTRL_MCAST_HOLD : Fld := ⟨SW_CTRL, 15, 0⟩
/-- R144. -/
def SW_POOL_ERR : Nat := 0x00200018
/-- R144. -/
def SW_POOL_ERR_BANK_REBUILT : Fld := ⟨SW_POOL_ERR, 2, 2⟩
/-- R144. -/
def SW_POOL_ERR_ORDER : Fld := ⟨SW_POOL_ERR, 1, 1⟩
/-- R144. -/
def SW_POOL_ERR_MIN_SUM : Fld := ⟨SW_POOL_ERR, 0, 0⟩
/-- R144. -/
def SW_CURFEW_ERR : Nat := 0x00200020
/-- R144. -/
def SW_CURFEW_ERR_PORT : Fld := ⟨SW_CURFEW_ERR, 15, 8⟩
/-- R144. -/
def SW_CURFEW_ERR_INVALID : Fld := ⟨SW_CURFEW_ERR, 2, 2⟩
/-- R144. -/
def SW_CURFEW_ERR_REFUSED : Fld := ⟨SW_CURFEW_ERR, 1, 1⟩
/-- R144. -/
def SW_CURFEW_ERR_BUSY : Fld := ⟨SW_CURFEW_ERR, 0, 0⟩
/-- R144. -/
def SW_TBL_CTRL : Nat := 0x00200028
/-- R144. -/
def SW_TBL_CTRL_TABLE : Fld := ⟨SW_TBL_CTRL, 63, 60⟩
/-- R144. -/
def SW_TBL_CTRL_WRITE : Fld := ⟨SW_TBL_CTRL, 59, 59⟩
/-- R144. -/
def SW_TBL_CTRL_PORT : Fld := ⟨SW_TBL_CTRL, 47, 40⟩
/-- R144. -/
def SW_TBL_CTRL_BANK : Fld := ⟨SW_TBL_CTRL, 36, 36⟩
/-- R144. -/
def SW_TBL_CTRL_INDEX : Fld := ⟨SW_TBL_CTRL, 13, 0⟩
/-- R144. -/
def SW_TBL_STATUS : Nat := 0x00200030
/-- R144. -/
def SW_TBL_STATUS_DONE : Fld := ⟨SW_TBL_STATUS, 0, 0⟩
/-- R144. -/
def SW_TBL_DATA (n : Nat) : Nat := 0x00200038 + 8 * n
/-- R144. -/
def SW_TBL_DATA_DATA (n : Nat) : Fld := ⟨SW_TBL_DATA n, 63, 0⟩
/-- R145. -/
def SW_DROP (n : Nat) : Nat := 0x00200100 + 8 * n
/-- R145. -/
def SW_DROP_COUNT (n : Nat) : Fld := ⟨SW_DROP n, 63, 0⟩
/-- R146. -/
def SW_RED_G (n : Nat) : Nat := 0x00201000 + 16 * n
/-- R146. -/
def SW_RED_G_W (n : Nat) : Fld := ⟨SW_RED_G n, 51, 48⟩
/-- R146. -/
def SW_RED_G_MAX_P (n : Nat) : Fld := ⟨SW_RED_G n, 47, 40⟩
/-- R146. -/
def SW_RED_G_MAX_TH (n : Nat) : Fld := ⟨SW_RED_G n, 39, 20⟩
/-- R146. -/
def SW_RED_G_MIN_TH (n : Nat) : Fld := ⟨SW_RED_G n, 19, 0⟩
/-- R146. -/
def SW_RED_Y (n : Nat) : Nat := 0x00201008 + 16 * n
/-- R146. -/
def SW_RED_Y_W (n : Nat) : Fld := ⟨SW_RED_Y n, 51, 48⟩
/-- R146. -/
def SW_RED_Y_MAX_P (n : Nat) : Fld := ⟨SW_RED_Y n, 47, 40⟩
/-- R146. -/
def SW_RED_Y_MAX_TH (n : Nat) : Fld := ⟨SW_RED_Y n, 39, 20⟩
/-- R146. -/
def SW_RED_Y_MIN_TH (n : Nat) : Fld := ⟨SW_RED_Y n, 19, 0⟩
/-- R147. -/
def SW_POL_W0 (n : Nat) : Nat := 0x00202000 + 16 * n
/-- R147. -/
def SW_POL_W0_ENABLE (n : Nat) : Fld := ⟨SW_POL_W0 n, 63, 63⟩
/-- R147. -/
def SW_POL_W0_AWARE (n : Nat) : Fld := ⟨SW_POL_W0 n, 62, 62⟩
/-- R147. -/
def SW_POL_W0_CBS (n : Nat) : Fld := ⟨SW_POL_W0 n, 35, 16⟩
/-- R147. -/
def SW_POL_W0_CIR (n : Nat) : Fld := ⟨SW_POL_W0 n, 15, 0⟩
/-- R147. -/
def SW_POL_W1 (n : Nat) : Nat := 0x00202008 + 16 * n
/-- R147. -/
def SW_POL_W1_PBS (n : Nat) : Fld := ⟨SW_POL_W1 n, 35, 16⟩
/-- R147. -/
def SW_POL_W1_PIR (n : Nat) : Fld := ⟨SW_POL_W1 n, 15, 0⟩
/-- R148. -/
def SW_CURFEW_CTL (n : Nat) : Nat := 0x00204000 + 32 * n
/-- R148. -/
def SW_CURFEW_CTL_CANCEL (n : Nat) : Fld := ⟨SW_CURFEW_CTL n, 3, 3⟩
/-- R148. -/
def SW_CURFEW_CTL_IN_FORCE (n : Nat) : Fld := ⟨SW_CURFEW_CTL n, 2, 2⟩
/-- R148. -/
def SW_CURFEW_CTL_ACTIVE_BANK (n : Nat) : Fld := ⟨SW_CURFEW_CTL n, 1, 1⟩
/-- R148. -/
def SW_CURFEW_CTL_PENDING (n : Nat) : Fld := ⟨SW_CURFEW_CTL n, 0, 0⟩
/-- R148. -/
def SW_CURFEW_TICK (n : Nat) : Nat := 0x00204008 + 32 * n
/-- R148. -/
def SW_CURFEW_TICK_SWITCH_TICK (n : Nat) : Fld := ⟨SW_CURFEW_TICK n, 63, 0⟩
/-- R148. -/
def SW_CURFEW_RUN (n : Nat) : Nat := 0x00204018 + 32 * n
/-- R148. -/
def SW_CURFEW_RUN_CYCLES (n : Nat) : Fld := ⟨SW_CURFEW_RUN n, 63, 32⟩
/-- R148. -/
def SW_CURFEW_RUN_ENTRY (n : Nat) : Fld := ⟨SW_CURFEW_RUN n, 9, 0⟩
/-- R149. -/
def SW_PORT_CFG (n : Nat) : Nat := 0x00206000 + 8 * n
/-- R149. -/
def SW_PORT_CFG_PVID (n : Nat) : Fld := ⟨SW_PORT_CFG n, 27, 16⟩
/-- R149. -/
def SW_PORT_CFG_ETH_INDEX (n : Nat) : Fld := ⟨SW_PORT_CFG n, 11, 8⟩
/-- R149. -/
def SW_PORT_CFG_CT_DIS (n : Nat) : Fld := ⟨SW_PORT_CFG n, 0, 0⟩
/-- R150. -/
def SW_OWNER (n : Nat) : Nat := 0x00208000 + 8 * n
/-- R150. -/
def SW_OWNER_ALPHA (n : Nat) : Fld := ⟨SW_OWNER n, 42, 40⟩
/-- R150. -/
def SW_OWNER_MAX (n : Nat) : Fld := ⟨SW_OWNER n, 39, 20⟩
/-- R150. -/
def SW_OWNER_MIN (n : Nat) : Fld := ⟨SW_OWNER n, 19, 0⟩
/-- R150. -/
def SW_OWNER_STAT (n : Nat) : Nat := 0x00210000 + 8 * n
/-- R150. -/
def SW_OWNER_STAT_HELD (n : Nat) : Fld := ⟨SW_OWNER_STAT n, 39, 20⟩
/-- R150. -/
def SW_OWNER_STAT_USED (n : Nat) : Fld := ⟨SW_OWNER_STAT n, 19, 0⟩
/-- R151. -/
def SW_QLEN (n : Nat) : Nat := 0x00218000 + 8 * n
/-- R151. -/
def SW_QLEN_CELLS (n : Nat) : Fld := ⟨SW_QLEN n, 19, 0⟩
/-- R151. -/
def SW_EGRESS (n : Nat) : Nat := 0x00220000 + 8 * n
/-- R151. -/
def SW_EGRESS_QMAX (n : Nat) : Fld := ⟨SW_EGRESS n, 51, 32⟩
/-- R151. -/
def SW_EGRESS_IDLE_SLOPE (n : Nat) : Fld := ⟨SW_EGRESS n, 31, 16⟩
/-- R151. -/
def SW_EGRESS_RED_PROFILE (n : Nat) : Fld := ⟨SW_EGRESS n, 13, 10⟩
/-- R151. -/
def SW_EGRESS_RED_EN (n : Nat) : Fld := ⟨SW_EGRESS n, 9, 9⟩
/-- R151. -/
def SW_EGRESS_SHAPE_EN (n : Nat) : Fld := ⟨SW_EGRESS n, 8, 8⟩
/-- R151. -/
def SW_EGRESS_WEIGHT (n : Nat) : Fld := ⟨SW_EGRESS n, 7, 0⟩
/-- R152. -/
def SW_VLAN_W0 (n : Nat) : Nat := 0x00230000 + 16 * n
/-- R152. -/
def SW_VLAN_W0_EP_MEMBERS (n : Nat) : Fld := ⟨SW_VLAN_W0 n, 63, 0⟩
/-- R152. -/
def SW_VLAN_W1 (n : Nat) : Nat := 0x00230008 + 16 * n
/-- R152. -/
def SW_VLAN_W1_VALID (n : Nat) : Fld := ⟨SW_VLAN_W1 n, 63, 63⟩
/-- R152. -/
def SW_VLAN_W1_FLOOD (n : Nat) : Fld := ⟨SW_VLAN_W1 n, 16, 16⟩
/-- R152. -/
def SW_VLAN_W1_ETH_MEMBERS (n : Nat) : Fld := ⟨SW_VLAN_W1 n, 15, 0⟩
/-- R119. -/
def SW_AGENT_OWNER (n : Nat) : Nat := 0x00240000 + 8 * n
/-- R119. -/
def SW_AGENT_OWNER_ALPHA (n : Nat) : Fld := ⟨SW_AGENT_OWNER n, 42, 40⟩
/-- R119. -/
def SW_AGENT_OWNER_MAX (n : Nat) : Fld := ⟨SW_AGENT_OWNER n, 39, 20⟩
/-- R119. -/
def SW_AGENT_OWNER_MIN (n : Nat) : Fld := ⟨SW_AGENT_OWNER n, 19, 0⟩
/-- R123. -/
def SW_DETOUR_OWNER : Nat := 0x00240340
/-- R123. -/
def SW_DETOUR_OWNER_ALPHA : Fld := ⟨SW_DETOUR_OWNER, 42, 40⟩
/-- R123. -/
def SW_DETOUR_OWNER_MAX : Fld := ⟨SW_DETOUR_OWNER, 39, 20⟩
/-- R123. -/
def SW_DETOUR_OWNER_MIN : Fld := ⟨SW_DETOUR_OWNER, 19, 0⟩
/-- R119. -/
def SW_AGENT_STAT (n : Nat) : Nat := 0x00240400 + 8 * n
/-- R119. -/
def SW_AGENT_STAT_HELD (n : Nat) : Fld := ⟨SW_AGENT_STAT n, 39, 20⟩
/-- R119. -/
def SW_AGENT_STAT_USED (n : Nat) : Fld := ⟨SW_AGENT_STAT n, 19, 0⟩
/-- R103. -/
def SW_RANK (n : Nat) : Nat := 0x00300000 + 8 * n
/-- R103. -/
def SW_RANK_VALID (n : Nat) : Fld := ⟨SW_RANK n, 63, 63⟩
/-- R103. -/
def SW_RANK_FENCED (n : Nat) : Fld := ⟨SW_RANK n, 62, 62⟩
/-- R103. -/
def SW_RANK_COORD (n : Nat) : Fld := ⟨SW_RANK n, 18, 8⟩
/-- R103. -/
def SW_RANK_FIRST_PORT (n : Nat) : Fld := ⟨SW_RANK n, 7, 0⟩
/-- R104. -/
def SW_PARTY (n : Nat) : Nat := 0x00340000 + 8 * n
/-- R104. -/
def SW_PARTY_VALID (n : Nat) : Fld := ⟨SW_PARTY n, 63, 63⟩
/-- R104. -/
def SW_PARTY_SPRAY (n : Nat) : Fld := ⟨SW_PARTY n, 62, 61⟩
/-- R104. -/
def SW_PARTY_GROUP_SHIFT (n : Nat) : Fld := ⟨SW_PARTY n, 60, 58⟩
/-- R104. -/
def SW_PARTY_GROUPS (n : Nat) : Fld := ⟨SW_PARTY n, 57, 42⟩
/-- R104. -/
def SW_PARTY_BASE (n : Nat) : Fld := ⟨SW_PARTY n, 41, 27⟩
/-- R105. -/
def SW_COACH_W0 (n : Nat) : Nat := 0x00350000 + 16 * n
/-- R105. -/
def SW_COACH_W0_VALID (n : Nat) : Fld := ⟨SW_COACH_W0 n, 63, 63⟩
/-- R105. -/
def SW_COACH_W0_AXIS (n : Nat) : Fld := ⟨SW_COACH_W0 n, 62, 61⟩
/-- R105. -/
def SW_COACH_W0_PARTY (n : Nat) : Fld := ⟨SW_COACH_W0 n, 60, 49⟩
/-- R105. -/
def SW_COACH_W0_MEMBERS (n : Nat) : Fld := ⟨SW_COACH_W0 n, 48, 33⟩
/-- R105. -/
def SW_COACH_W1 (n : Nat) : Nat := 0x00350008 + 16 * n
/-- R105. -/
def SW_COACH_W1_PORTS (n : Nat) : Fld := ⟨SW_COACH_W1 n, 63, 0⟩
/-- R107. -/
def SW_DEAD (n : Nat) : Nat := 0x00360000 + 8 * n
/-- R107. -/
def SW_DEAD_DEAD (n : Nat) : Fld := ⟨SW_DEAD n, 63, 0⟩
/-- R107. -/
def SW_FENCE : Nat := 0x00360100
/-- R107. -/
def SW_FENCE_FENCE : Fld := ⟨SW_FENCE, 63, 0⟩
/-- R107. -/
def SW_ROUTE_CTRL : Nat := 0x00360108
/-- R107. -/
def SW_ROUTE_CTRL_SINK_LIMIT : Fld := ⟨SW_ROUTE_CTRL, 63, 56⟩
/-- R107. -/
def SW_ROUTE_CTRL_STREAM_HOLD : Fld := ⟨SW_ROUTE_CTRL, 47, 32⟩
/-- R107. -/
def SW_ROUTE_CTRL_HASH_SEED : Fld := ⟨SW_ROUTE_CTRL, 31, 0⟩
/-- R107. -/
def SW_TABLE_ERR : Nat := 0x00360110
/-- R107. -/
def SW_TABLE_ERR_STREAM_BUSY : Fld := ⟨SW_TABLE_ERR, 1, 1⟩
/-- R107. -/
def SW_TABLE_ERR_RANK_RANGE : Fld := ⟨SW_TABLE_ERR, 0, 0⟩
/-- R107. -/
def SW_DROP_RANK : Nat := 0x00360118
/-- R107. -/
def SW_DROP_RANK_COUNT : Fld := ⟨SW_DROP_RANK, 63, 0⟩
/-- R107. -/
def SW_DROP_SPOOF : Nat := 0x00360120
/-- R107. -/
def SW_DROP_SPOOF_COUNT : Fld := ⟨SW_DROP_SPOOF, 63, 0⟩
/-- R107. -/
def SW_DROP_FENCED : Nat := 0x00360128
/-- R107. -/
def SW_DROP_FENCED_COUNT : Fld := ⟨SW_DROP_FENCED, 63, 0⟩
/-- R107. -/
def SW_DROP_UNREACH : Nat := 0x00360130
/-- R107. -/
def SW_DROP_UNREACH_COUNT : Fld := ⟨SW_DROP_UNREACH, 63, 0⟩
/-- R107. -/
def SW_DROP_STREAM : Nat := 0x00360138
/-- R107. -/
def SW_DROP_STREAM_COUNT : Fld := ⟨SW_DROP_STREAM, 63, 0⟩
/-- R107. -/
def SW_DROP_RACK : Nat := 0x00360140
/-- R107. -/
def SW_DROP_RACK_COUNT : Fld := ⟨SW_DROP_RACK, 63, 0⟩
/-- R107. -/
def SW_EP_PERM (n : Nat) : Nat := 0x00360200 + 8 * n
/-- R107. -/
def SW_EP_PERM_POOL_READ (n : Nat) : Fld := ⟨SW_EP_PERM n, 63, 63⟩
/-- R107. -/
def SW_EP_PERM_POOL_WRITE (n : Nat) : Fld := ⟨SW_EP_PERM n, 62, 62⟩
/-- R107. -/
def SW_EP_PERM_REG_READ (n : Nat) : Fld := ⟨SW_EP_PERM n, 61, 61⟩
/-- R107. -/
def SW_EP_PERM_REG_WRITE (n : Nat) : Fld := ⟨SW_EP_PERM n, 60, 60⟩
/-- R107. -/
def SW_EP_PERM_WINDOW_SIZE (n : Nat) : Fld := ⟨SW_EP_PERM n, 30, 0⟩
/-- R106. -/
def SW_STREAM (n : Nat) : Nat := 0x00380000 + 8 * n
/-- R106. -/
def SW_STREAM_VALID (n : Nat) : Fld := ⟨SW_STREAM n, 63, 63⟩
/-- R106. -/
def SW_STREAM_BROKEN (n : Nat) : Fld := ⟨SW_STREAM n, 62, 62⟩
/-- R106. -/
def SW_STREAM_HELD (n : Nat) : Fld := ⟨SW_STREAM n, 61, 61⟩
/-- R106. -/
def SW_STREAM_PARTY (n : Nat) : Fld := ⟨SW_STREAM n, 60, 49⟩
/-- R106. -/
def SW_STREAM_SRC_RANK (n : Nat) : Fld := ⟨SW_STREAM n, 48, 32⟩
/-- R106. -/
def SW_STREAM_COUNT1 (n : Nat) : Fld := ⟨SW_STREAM n, 31, 16⟩
/-- R106. -/
def SW_STREAM_COUNT0 (n : Nat) : Fld := ⟨SW_STREAM n, 15, 0⟩
/-- R196. -/
def TL_STATUS : Nat := 0x00400000
/-- R196. -/
def TL_STATUS_CTX_USED : Fld := ⟨TL_STATUS, 44, 32⟩
/-- R196. -/
def TL_STATUS_RESV_SUM : Fld := ⟨TL_STATUS, 28, 16⟩
/-- R196. -/
def TL_STATUS_SHARED_FREE : Fld := ⟨TL_STATUS, 12, 0⟩
/-- R196. -/
def TL_CTRL : Nat := 0x00400008
/-- R196. -/
def TL_CTRL_CREDIT_BATCH : Fld := ⟨TL_CTRL, 31, 24⟩
/-- R196. -/
def TL_CTRL_RESEND_MAX : Fld := ⟨TL_CTRL, 19, 16⟩
/-- R196. -/
def TL_CTRL_ACK_WAIT : Fld := ⟨TL_CTRL, 15, 8⟩
/-- R196. -/
def TL_CTRL_RESEND_WAIT : Fld := ⟨TL_CTRL, 7, 0⟩
/-- R196. -/
def TL_ERR : Nat := 0x00400010
/-- R196. -/
def TL_ERR_MIN_SUM : Fld := ⟨TL_ERR, 0, 0⟩
/-- R196. -/
def TL_TBL_CTRL : Nat := 0x00400018
/-- R196. -/
def TL_TBL_CTRL_INDEX : Fld := ⟨TL_TBL_CTRL, 12, 0⟩
/-- R196. -/
def TL_TBL_STATUS : Nat := 0x00400020
/-- R196. -/
def TL_TBL_STATUS_DONE : Fld := ⟨TL_TBL_STATUS, 0, 0⟩
/-- R196. -/
def TL_TBL_DATA0 : Nat := 0x00400028
/-- R196. -/
def TL_TBL_DATA0_VALID : Fld := ⟨TL_TBL_DATA0, 63, 63⟩
/-- R196. -/
def TL_TBL_DATA0_PARTY : Fld := ⟨TL_TBL_DATA0, 62, 51⟩
/-- R196. -/
def TL_TBL_DATA0_TALLY_ID : Fld := ⟨TL_TBL_DATA0, 50, 39⟩
/-- R196. -/
def TL_TBL_DATA0_OP : Fld := ⟨TL_TBL_DATA0, 38, 35⟩
/-- R196. -/
def TL_TBL_DATA0_COLL : Fld := ⟨TL_TBL_DATA0, 34, 32⟩
/-- R196. -/
def TL_TBL_DATA0_ROUND : Fld := ⟨TL_TBL_DATA0, 31, 16⟩
/-- R196. -/
def TL_TBL_DATA1 : Nat := 0x00400030
/-- R196. -/
def TL_TBL_DATA1_FRAMES : Fld := ⟨TL_TBL_DATA1, 63, 53⟩
/-- R196. -/
def TL_TBL_DATA1_LIMIT : Fld := ⟨TL_TBL_DATA1, 41, 21⟩
/-- R196. -/
def TL_TBL_DATA1_OLDEST : Fld := ⟨TL_TBL_DATA1, 20, 0⟩
/-- R197. -/
def TL_CNT (n : Nat) : Nat := 0x00400100 + 8 * n
/-- R197. -/
def TL_CNT_COUNT (n : Nat) : Fld := ⟨TL_CNT n, 63, 0⟩
/-- R198. -/
def TL_POOL (n : Nat) : Nat := 0x00401000 + 8 * n
/-- R198. -/
def TL_POOL_ALPHA (n : Nat) : Fld := ⟨TL_POOL n, 42, 40⟩
/-- R198. -/
def TL_POOL_MAX (n : Nat) : Fld := ⟨TL_POOL n, 39, 20⟩
/-- R198. -/
def TL_POOL_MIN (n : Nat) : Fld := ⟨TL_POOL n, 19, 0⟩
/-- R198. -/
def TL_POOL_STAT (n : Nat) : Nat := 0x00409000 + 8 * n
/-- R198. -/
def TL_POOL_STAT_CONTEXTS (n : Nat) : Fld := ⟨TL_POOL_STAT n, 28, 16⟩
/-- R198. -/
def TL_POOL_STAT_CLAIMED (n : Nat) : Fld := ⟨TL_POOL_STAT n, 12, 0⟩
/-- R234. -/
def ST_STATUS : Nat := 0x00600000
/-- R234. -/
def ST_STATUS_FREE_ROOMS : Fld := ⟨ST_STATUS, 63, 40⟩
/-- R234. -/
def ST_STATUS_BOOKED_TOTAL : Fld := ⟨ST_STATUS, 39, 16⟩
/-- R234. -/
def ST_USE : Nat := 0x00600008
/-- R234. -/
def ST_USE_STAYS_USED : Fld := ⟨ST_USE, 50, 32⟩
/-- R234. -/
def ST_USE_NODES_FREE : Fld := ⟨ST_USE, 22, 0⟩
/-- R234. -/
def ST_CTRL : Nat := 0x00600010
/-- R234. -/
def ST_CTRL_MIRROR_WAIT : Fld := ⟨ST_CTRL, 63, 48⟩
/-- R234. -/
def ST_CTRL_ASSEMBLE_WAIT : Fld := ⟨ST_CTRL, 47, 32⟩
/-- R234. -/
def ST_CTRL_ENABLE : Fld := ⟨ST_CTRL, 0, 0⟩
/-- R234. -/
def ST_ADMIT : Nat := 0x00600018
/-- R234. -/
def ST_ADMIT_GUEST_FLOOR : Fld := ⟨ST_ADMIT, 63, 48⟩
/-- R234. -/
def ST_ADMIT_FLOOR0 : Fld := ⟨ST_ADMIT, 47, 32⟩
/-- R234. -/
def ST_ADMIT_FLOOR1 : Fld := ⟨ST_ADMIT, 31, 16⟩
/-- R234. -/
def ST_ADMIT_FLOOR2 : Fld := ⟨ST_ADMIT, 15, 0⟩
/-- R234. -/
def ST_EVICT : Nat := 0x00600020
/-- R234. -/
def ST_EVICT_ENABLE : Fld := ⟨ST_EVICT, 63, 63⟩
/-- R234. -/
def ST_EVICT_HIGH : Fld := ⟨ST_EVICT, 31, 16⟩
/-- R234. -/
def ST_EVICT_LOW : Fld := ⟨ST_EVICT, 15, 0⟩
/-- R234. -/
def ST_STABLE : Nat := 0x00600028
/-- R234. -/
def ST_STABLE_ROOMS : Fld := ⟨ST_STABLE, 47, 24⟩
/-- R234. -/
def ST_STABLE_BASE : Fld := ⟨ST_STABLE, 23, 0⟩
/-- R234. -/
def ST_INBOUND : Nat := 0x00600030
/-- R234. -/
def ST_INBOUND_ROOMS : Fld := ⟨ST_INBOUND, 47, 24⟩
/-- R234. -/
def ST_INBOUND_BASE : Fld := ⟨ST_INBOUND, 23, 0⟩
/-- R234. -/
def ST_STABLE_HEAD : Nat := 0x00600038
/-- R234. -/
def ST_STABLE_HEAD_HEAD : Fld := ⟨ST_STABLE_HEAD, 23, 0⟩
/-- R234. -/
def ST_STABLE_TAIL : Nat := 0x00600040
/-- R234. -/
def ST_STABLE_TAIL_TAIL : Fld := ⟨ST_STABLE_TAIL, 23, 0⟩
/-- R234. -/
def ST_TAKEOVER : Nat := 0x00600048
/-- R234. -/
def ST_TAKEOVER_GO : Fld := ⟨ST_TAKEOVER, 63, 63⟩
/-- R234. -/
def ST_TAKEOVER_ONE : Fld := ⟨ST_TAKEOVER, 62, 62⟩
/-- R234. -/
def ST_TAKEOVER_DISCARD : Fld := ⟨ST_TAKEOVER, 61, 61⟩
/-- R234. -/
def ST_TAKEOVER_HOME : Fld := ⟨ST_TAKEOVER, 28, 18⟩
/-- R234. -/
def ST_TAKEOVER_INDEX : Fld := ⟨ST_TAKEOVER, 17, 0⟩
/-- R234. -/
def ST_TAKEOVER_STATUS : Nat := 0x00600050
/-- R234. -/
def ST_TAKEOVER_STATUS_BUSY : Fld := ⟨ST_TAKEOVER_STATUS, 63, 63⟩
/-- R234. -/
def ST_TAKEOVER_STATUS_DONE : Fld := ⟨ST_TAKEOVER_STATUS, 18, 0⟩
/-- R234. -/
def ST_REMIRROR : Nat := 0x00600058
/-- R234. -/
def ST_REMIRROR_GO : Fld := ⟨ST_REMIRROR, 63, 63⟩
/-- R234. -/
def ST_REMIRROR_TWIN : Fld := ⟨ST_REMIRROR, 28, 18⟩
/-- R234. -/
def ST_REMIRROR_INDEX : Fld := ⟨ST_REMIRROR, 17, 0⟩
/-- R234. -/
def ST_ERR : Nat := 0x00600060
/-- R234. -/
def ST_ERR_REMIRROR_FAIL : Fld := ⟨ST_ERR, 2, 2⟩
/-- R234. -/
def ST_ERR_AREA_BUSY : Fld := ⟨ST_ERR, 1, 1⟩
/-- R234. -/
def ST_ERR_EVICT_ORDER : Fld := ⟨ST_ERR, 0, 0⟩
/-- R234. -/
def ST_TBL_CTRL : Nat := 0x00600068
/-- R234. -/
def ST_TBL_CTRL_INDEX : Fld := ⟨ST_TBL_CTRL, 17, 0⟩
/-- R234. -/
def ST_TBL_STATUS : Nat := 0x00600070
/-- R234. -/
def ST_TBL_STATUS_DONE : Fld := ⟨ST_TBL_STATUS, 0, 0⟩
/-- R234. -/
def ST_TBL_DATA (n : Nat) : Nat := 0x00600078 + 8 * n
/-- R234. -/
def ST_TBL_DATA_WORD (n : Nat) : Fld := ⟨ST_TBL_DATA n, 63, 0⟩
/-- R235. -/
def ST_CNT (n : Nat) : Nat := 0x00600100 + 8 * n
/-- R235. -/
def ST_CNT_COUNT (n : Nat) : Fld := ⟨ST_CNT n, 63, 0⟩
/-- R235. -/
def ST_REFUSED (n : Nat) : Nat := 0x00600208 + 8 * n
/-- R235. -/
def ST_REFUSED_COUNT (n : Nat) : Fld := ⟨ST_REFUSED n, 63, 0⟩
/-- R266. -/
def CL_STATUS (k : Nat) : Nat := 0x00800000 + 0x80000 * k
/-- R266. -/
def CL_STATUS_SLOTS_BUSY (k : Nat) : Fld := ⟨CL_STATUS k, 39, 32⟩
/-- R266. -/
def CL_STATUS_EN_PEND (k : Nat) : Fld := ⟨CL_STATUS k, 15, 12⟩
/-- R266. -/
def CL_STATUS_QUAR (k : Nat) : Fld := ⟨CL_STATUS k, 11, 8⟩
/-- R266. -/
def CL_STATUS_RUNNING (k : Nat) : Fld := ⟨CL_STATUS k, 7, 4⟩
/-- R266. -/
def CL_STATUS_READY (k : Nat) : Fld := ⟨CL_STATUS k, 3, 0⟩
/-- R266. -/
def CL_CTRL (k : Nat) : Nat := 0x00800008 + 0x80000 * k
/-- R266. -/
def CL_CTRL_PLACE_LEAD (k : Nat) : Fld := ⟨CL_CTRL k, 47, 32⟩
/-- R266. -/
def CL_CTRL_CORE_EN (k : Nat) : Fld := ⟨CL_CTRL k, 3, 0⟩
/-- R266. -/
def CL_QUAR (k : Nat) : Nat := 0x00800010 + 0x80000 * k
/-- R266. -/
def CL_QUAR_QUAR (k : Nat) : Fld := ⟨CL_QUAR k, 3, 0⟩
/-- R266. -/
def CL_DUP (k : Nat) : Nat := 0x00800018 + 0x80000 * k
/-- R266. -/
def CL_DUP_FRACTION (k : Nat) : Fld := ⟨CL_DUP k, 2, 0⟩
/-- R266. -/
def CL_ERR (k : Nat) : Nat := 0x00800020 + 0x80000 * k
/-- R266. -/
def CL_ERR_BIND_REFUSED (k : Nat) : Fld := ⟨CL_ERR k, 0, 0⟩
/-- R267. -/
def CL_SLOT (k n : Nat) : Nat := 0x00800100 + 0x80000 * k + 8 * n
/-- R267. -/
def CL_SLOT_STATE (k n : Nat) : Fld := ⟨CL_SLOT k n, 63, 60⟩
/-- R267. -/
def CL_SLOT_BOUND (k n : Nat) : Fld := ⟨CL_SLOT k n, 59, 59⟩
/-- R267. -/
def CL_SLOT_CLASS (k n : Nat) : Fld := ⟨CL_SLOT k n, 58, 56⟩
/-- R267. -/
def CL_SLOT_PROGRAM (k n : Nat) : Fld := ⟨CL_SLOT k n, 55, 40⟩
/-- R267. -/
def CL_SLOT_HANDLE (k n : Nat) : Fld := ⟨CL_SLOT k n, 31, 0⟩
/-- R267. -/
def CL_BIND_W0 (k n : Nat) : Nat := 0x00800400 + 0x80000 * k + 16 * n
/-- R267. -/
def CL_BIND_W0_VALID (k n : Nat) : Fld := ⟨CL_BIND_W0 k n, 63, 63⟩
/-- R267. -/
def CL_BIND_W0_PARTY (k n : Nat) : Fld := ⟨CL_BIND_W0 k n, 62, 51⟩
/-- R267. -/
def CL_BIND_W0_OUT_RANK (k n : Nat) : Fld := ⟨CL_BIND_W0 k n, 50, 34⟩
/-- R267. -/
def CL_BIND_W1 (k n : Nat) : Nat := 0x00800408 + 0x80000 * k + 16 * n
/-- R267. -/
def CL_BIND_W1_OUT_MASK (k n : Nat) : Fld := ⟨CL_BIND_W1 k n, 63, 56⟩
/-- R267. -/
def CL_BIND_W1_OUT_BASE (k n : Nat) : Fld := ⟨CL_BIND_W1 k n, 49, 0⟩
/-- R268. -/
def CL_CNT (k n : Nat) : Nat := 0x00800800 + 0x80000 * k + 8 * n
/-- R268. -/
def CL_CNT_COUNT (k n : Nat) : Fld := ⟨CL_CNT k n, 63, 0⟩
/-- R306. -/
def CL_CORE_W0 (k n : Nat) : Nat := 0x00801000 + 0x80000 * k + 32 * n
/-- R306. -/
def CL_CORE_W0_PASS (k n : Nat) : Fld := ⟨CL_CORE_W0 k n, 63, 32⟩
/-- R306. -/
def CL_CORE_W0_REP (k n : Nat) : Fld := ⟨CL_CORE_W0 k n, 31, 16⟩
/-- R306. -/
def CL_CORE_W0_SLOT (k n : Nat) : Fld := ⟨CL_CORE_W0 k n, 15, 12⟩
/-- R306. -/
def CL_CORE_W0_ENTRY (k n : Nat) : Fld := ⟨CL_CORE_W0 k n, 11, 0⟩
/-- R306. -/
def CL_CORE_W1 (k n : Nat) : Nat := 0x00801008 + 0x80000 * k + 32 * n
/-- R306. -/
def CL_CORE_W1_LNUM (k n : Nat) : Fld := ⟨CL_CORE_W1 k n, 63, 0⟩
/-- R306. -/
def CL_CORE_W2 (k n : Nat) : Nat := 0x00801010 + 0x80000 * k + 32 * n
/-- R306. -/
def CL_CORE_W2_FAULTS (k n : Nat) : Fld := ⟨CL_CORE_W2 k n, 63, 0⟩
/-- R306. -/
def CL_CORE_W3 (k n : Nat) : Nat := 0x00801018 + 0x80000 * k + 32 * n
/-- R306. -/
def CL_CORE_W3_LAST_FAULT (k n : Nat) : Fld := ⟨CL_CORE_W3 k n, 7, 0⟩
/-- R325. -/
def CL_NUMFLAGS (k n : Nat) : Nat := 0x00801100 + 0x80000 * k + 8 * n
/-- R325. -/
def CL_NUMFLAGS_HIST_SAT (k n : Nat) : Fld := ⟨CL_NUMFLAGS k n, 6, 6⟩
/-- R325. -/
def CL_NUMFLAGS_CONV_NONFIN (k n : Nat) : Fld := ⟨CL_NUMFLAGS k n, 5, 5⟩
/-- R325. -/
def CL_NUMFLAGS_CONV_SAT (k n : Nat) : Fld := ⟨CL_NUMFLAGS k n, 4, 4⟩
/-- R325. -/
def CL_NUMFLAGS_ACC_OVF (k n : Nat) : Fld := ⟨CL_NUMFLAGS k n, 3, 3⟩
/-- R325. -/
def CL_NUMFLAGS_SCALE_NAN (k n : Nat) : Fld := ⟨CL_NUMFLAGS k n, 2, 2⟩
/-- R325. -/
def CL_NUMFLAGS_SCALE_OFL (k n : Nat) : Fld := ⟨CL_NUMFLAGS k n, 1, 1⟩
/-- R325. -/
def CL_NUMFLAGS_SCALE_UFL (k n : Nat) : Fld := ⟨CL_NUMFLAGS k n, 0, 0⟩
/-- R325. -/
def CL_SCALE_EVENTS (k n : Nat) : Nat := 0x00801120 + 0x80000 * k + 8 * n
/-- R325. -/
def CL_SCALE_EVENTS_OFL (k n : Nat) : Fld := ⟨CL_SCALE_EVENTS k n, 63, 32⟩
/-- R325. -/
def CL_SCALE_EVENTS_UFL (k n : Nat) : Fld := ⟨CL_SCALE_EVENTS k n, 31, 0⟩
/-- R356. -/
def MEM_STATUS : Nat := 0x00C00000
/-- R356. -/
def MEM_STATUS_HELD_ROOMS : Fld := ⟨MEM_STATUS, 63, 40⟩
/-- R356. -/
def MEM_STATUS_FILL_LATE : Fld := ⟨MEM_STATUS, 23, 16⟩
/-- R356. -/
def MEM_STATUS_STACK_DOWN : Fld := ⟨MEM_STATUS, 15, 8⟩
/-- R356. -/
def MEM_THERM : Nat := 0x00C00008
/-- R356. -/
def MEM_THERM_HYST : Fld := ⟨MEM_THERM, 39, 32⟩
/-- R356. -/
def MEM_THERM_T3 : Fld := ⟨MEM_THERM, 31, 24⟩
/-- R356. -/
def MEM_THERM_T2 : Fld := ⟨MEM_THERM, 23, 16⟩
/-- R356. -/
def MEM_THERM_T1 : Fld := ⟨MEM_THERM, 15, 8⟩
/-- R356. -/
def MEM_THERM_E2 : Fld := ⟨MEM_THERM, 7, 4⟩
/-- R356. -/
def MEM_THERM_E1 : Fld := ⟨MEM_THERM, 3, 0⟩
/-- R356. -/
def MEM_CE_CTRL : Nat := 0x00C00010
/-- R356. -/
def MEM_CE_CTRL_WRITEBACK : Fld := ⟨MEM_CE_CTRL, 16, 16⟩
/-- R356. -/
def MEM_CE_CTRL_ROW_LIMIT : Fld := ⟨MEM_CE_CTRL, 15, 0⟩
/-- R356. -/
def MEM_MERGE_CTRL : Nat := 0x00C00018
/-- R356. -/
def MEM_MERGE_CTRL_HOLD : Fld := ⟨MEM_MERGE_CTRL, 15, 0⟩
/-- R356. -/
def MEM_SCRUB_CTRL : Nat := 0x00C00020
/-- R356. -/
def MEM_SCRUB_CTRL_GO : Fld := ⟨MEM_SCRUB_CTRL, 63, 63⟩
/-- R356. -/
def MEM_SCRUB_CTRL_STOP : Fld := ⟨MEM_SCRUB_CTRL, 62, 62⟩
/-- R356. -/
def MEM_SCRUB_CTRL_RATE : Fld := ⟨MEM_SCRUB_CTRL, 54, 48⟩
/-- R356. -/
def MEM_SCRUB_CTRL_LAST_ROOM : Fld := ⟨MEM_SCRUB_CTRL, 47, 24⟩
/-- R356. -/
def MEM_SCRUB_CTRL_FIRST_ROOM : Fld := ⟨MEM_SCRUB_CTRL, 23, 0⟩
/-- R356. -/
def MEM_SCRUB_STATUS : Nat := 0x00C00028
/-- R356. -/
def MEM_SCRUB_STATUS_BUSY : Fld := ⟨MEM_SCRUB_STATUS, 63, 63⟩
/-- R356. -/
def MEM_SCRUB_STATUS_STOPPED : Fld := ⟨MEM_SCRUB_STATUS, 62, 62⟩
/-- R356. -/
def MEM_SCRUB_STATUS_SKIPPED : Fld := ⟨MEM_SCRUB_STATUS, 61, 61⟩
/-- R356. -/
def MEM_SCRUB_STATUS_NEXT_ROOM : Fld := ⟨MEM_SCRUB_STATUS, 23, 0⟩
/-- R356. -/
def MEM_SCRUB_SUM (n : Nat) : Nat := 0x00C00030 + 8 * n
/-- R356. -/
def MEM_SCRUB_SUM_VALUE (n : Nat) : Fld := ⟨MEM_SCRUB_SUM n, 63, 0⟩
/-- R356. -/
def MEM_REPAIR_CTRL : Nat := 0x00C00060
/-- R356. -/
def MEM_REPAIR_CTRL_GO : Fld := ⟨MEM_REPAIR_CTRL, 63, 63⟩
/-- R356. -/
def MEM_REPAIR_CTRL_OP : Fld := ⟨MEM_REPAIR_CTRL, 62, 60⟩
/-- R356. -/
def MEM_REPAIR_CTRL_STACK : Fld := ⟨MEM_REPAIR_CTRL, 59, 57⟩
/-- R356. -/
def MEM_REPAIR_CTRL_PC : Fld := ⟨MEM_REPAIR_CTRL, 56, 51⟩
/-- R356. -/
def MEM_REPAIR_CTRL_BANK : Fld := ⟨MEM_REPAIR_CTRL, 50, 45⟩
/-- R356. -/
def MEM_REPAIR_CTRL_ROW : Fld := ⟨MEM_REPAIR_CTRL, 44, 31⟩
/-- R356. -/
def MEM_REPAIR_CTRL_ROOM : Fld := ⟨MEM_REPAIR_CTRL, 23, 0⟩
/-- R356. -/
def MEM_REPAIR_STATUS : Nat := 0x00C00068
/-- R356. -/
def MEM_REPAIR_STATUS_BUSY : Fld := ⟨MEM_REPAIR_STATUS, 63, 63⟩
/-- R356. -/
def MEM_REPAIR_STATUS_LEDGER_USED : Fld := ⟨MEM_REPAIR_STATUS, 47, 32⟩
/-- R356. -/
def MEM_REPAIR_STATUS_RESULT : Fld := ⟨MEM_REPAIR_STATUS, 7, 0⟩
/-- R356. -/
def MEM_ERR : Nat := 0x00C00070
/-- R356. -/
def MEM_ERR_REPAIR_BUSY : Fld := ⟨MEM_ERR, 2, 2⟩
/-- R356. -/
def MEM_ERR_SCRUB_BUSY : Fld := ⟨MEM_ERR, 1, 1⟩
/-- R356. -/
def MEM_ERR_THERM_ORDER : Fld := ⟨MEM_ERR, 0, 0⟩
/-- R357. -/
def MEM_STACK (n : Nat) : Nat := 0x00C10000 + 256 * n
/-- R357. -/
def MEM_STACK_TEMP (n : Nat) : Fld := ⟨MEM_STACK n, 63, 48⟩
/-- R357. -/
def MEM_STACK_LEVEL (n : Nat) : Fld := ⟨MEM_STACK n, 39, 38⟩
/-- R357. -/
def MEM_STACK_THERM_LEVEL (n : Nat) : Fld := ⟨MEM_STACK n, 37, 36⟩
/-- R357. -/
def MEM_STACK_DOWN (n : Nat) : Fld := ⟨MEM_STACK n, 35, 35⟩
/-- R357. -/
def MEM_STACK_FILLED (n : Nat) : Fld := ⟨MEM_STACK n, 34, 34⟩
/-- R357. -/
def MEM_STACK_CNT (n i : Nat) : Nat := 0x00C10008 + 0x100 * n + 8 * i
/-- R357. -/
def MEM_STACK_CNT_COUNT (n i : Nat) : Fld := ⟨MEM_STACK_CNT n i, 63, 0⟩
/-- R358. -/
def MEM_CE (n : Nat) : Nat := 0x00C20000 + 8 * n
/-- R358. -/
def MEM_CE_VALID (n : Nat) : Fld := ⟨MEM_CE n, 63, 63⟩
/-- R358. -/
def MEM_CE_REPAIRS (n : Nat) : Fld := ⟨MEM_CE n, 62, 61⟩
/-- R358. -/
def MEM_CE_HOT (n : Nat) : Fld := ⟨MEM_CE n, 60, 60⟩
/-- R358. -/
def MEM_CE_PC (n : Nat) : Fld := ⟨MEM_CE n, 59, 54⟩
/-- R358. -/
def MEM_CE_BANK (n : Nat) : Fld := ⟨MEM_CE n, 53, 48⟩
/-- R358. -/
def MEM_CE_ROW (n : Nat) : Fld := ⟨MEM_CE n, 47, 34⟩
/-- R358. -/
def MEM_CE_PAIR (n : Nat) : Fld := ⟨MEM_CE n, 33, 29⟩
/-- R358. -/
def MEM_CE_SYMBOL (n : Nat) : Fld := ⟨MEM_CE n, 28, 23⟩
/-- R358. -/
def MEM_CE_COUNT (n : Nat) : Fld := ⟨MEM_CE n, 15, 0⟩
/-- R388. -/
def LN_STATUS : Nat := 0x01000000
/-- R388. -/
def LN_STATUS_PORTS_UP : Fld := ⟨LN_STATUS, 63, 55⟩
/-- R388. -/
def LN_STATUS_BRINGUP_DONE : Fld := ⟨LN_STATUS, 4, 4⟩
/-- R388. -/
def LN_STATUS_TILE_FAIL : Fld := ⟨LN_STATUS, 3, 0⟩
/-- R388. -/
def LN_CTRL : Nat := 0x01000008
/-- R388. -/
def LN_CTRL_AUTO_RESTART : Fld := ⟨LN_CTRL, 32, 32⟩
/-- R388. -/
def LN_CTRL_SER_LIMIT : Fld := ⟨LN_CTRL, 31, 16⟩
/-- R388. -/
def LN_CTRL_ACK_WAIT : Fld := ⟨LN_CTRL, 15, 8⟩
/-- R388. -/
def LN_CTRL_RETRY_MAX : Fld := ⟨LN_CTRL, 3, 0⟩
/-- R388. -/
def LN_ERR : Nat := 0x01000010
/-- R388. -/
def LN_ERR_PORT : Fld := ⟨LN_ERR, 15, 8⟩
/-- R388. -/
def LN_ERR_WAKE_REFUSED : Fld := ⟨LN_ERR, 2, 2⟩
/-- R388. -/
def LN_ERR_REQ_REFUSED : Fld := ⟨LN_ERR, 1, 1⟩
/-- R388. -/
def LN_ERR_SLEEP_REFUSED : Fld := ⟨LN_ERR, 0, 0⟩
/-- R389. -/
def LN_PORT_W0 (n : Nat) : Nat := 0x01010000 + 64 * n
/-- R389. -/
def LN_PORT_W0_KIND (n : Nat) : Fld := ⟨LN_PORT_W0 n, 55, 52⟩
/-- R389. -/
def LN_PORT_W0_PROTO (n : Nat) : Fld := ⟨LN_PORT_W0 n, 51, 50⟩
/-- R389. -/
def LN_PORT_W0_ETH_TYPE (n : Nat) : Fld := ⟨LN_PORT_W0 n, 49, 46⟩
/-- R389. -/
def LN_PORT_W0_ETH_AN (n : Nat) : Fld := ⟨LN_PORT_W0 n, 45, 45⟩
/-- R389. -/
def LN_PORT_W0_WIDTH_CFG (n : Nat) : Fld := ⟨LN_PORT_W0 n, 44, 42⟩
/-- R389. -/
def LN_PORT_W0_MIN_WIDTH (n : Nat) : Fld := ⟨LN_PORT_W0 n, 41, 39⟩
/-- R389. -/
def LN_PORT_W0_FIRST_LANE (n : Nat) : Fld := ⟨LN_PORT_W0 n, 38, 30⟩
/-- R389. -/
def LN_PORT_W1 (n : Nat) : Nat := 0x01010008 + 64 * n
/-- R389. -/
def LN_PORT_W1_RETRAIN (n : Nat) : Fld := ⟨LN_PORT_W1 n, 63, 63⟩
/-- R389. -/
def LN_PORT_W1_TX_REQ (n : Nat) : Fld := ⟨LN_PORT_W1 n, 3, 2⟩
/-- R389. -/
def LN_PORT_W1_ENABLE (n : Nat) : Fld := ⟨LN_PORT_W1 n, 0, 0⟩
/-- R389. -/
def LN_PORT_W2 (n : Nat) : Nat := 0x01010010 + 64 * n
/-- R389. -/
def LN_PORT_W2_STATE (n : Nat) : Fld := ⟨LN_PORT_W2 n, 63, 60⟩
/-- R389. -/
def LN_PORT_W2_STAGE (n : Nat) : Fld := ⟨LN_PORT_W2 n, 59, 56⟩
/-- R389. -/
def LN_PORT_W2_CAUSE (n : Nat) : Fld := ⟨LN_PORT_W2 n, 55, 52⟩
/-- R389. -/
def LN_PORT_W2_WIDTH (n : Nat) : Fld := ⟨LN_PORT_W2 n, 51, 49⟩
/-- R389. -/
def LN_PORT_W2_REVERSED (n : Nat) : Fld := ⟨LN_PORT_W2 n, 48, 48⟩
/-- R389. -/
def LN_PORT_W2_V1 (n : Nat) : Fld := ⟨LN_PORT_W2 n, 47, 47⟩
/-- R389. -/
def LN_PORT_W2_EN_PEND (n : Nat) : Fld := ⟨LN_PORT_W2 n, 46, 46⟩
/-- R389. -/
def LN_PORT_W2_TX_STATE (n : Nat) : Fld := ⟨LN_PORT_W2 n, 45, 44⟩
/-- R389. -/
def LN_PORT_W2_RX_STATE (n : Nat) : Fld := ⟨LN_PORT_W2 n, 43, 42⟩
/-- R389. -/
def LN_PORT_W2_ACTIVE (n : Nat) : Fld := ⟨LN_PORT_W2 n, 15, 0⟩
/-- R389. -/
def LN_PORT_W3 (n : Nat) : Nat := 0x01010018 + 64 * n
/-- R389. -/
def LN_PORT_W3_WAKE_TICK (n : Nat) : Fld := ⟨LN_PORT_W3 n, 63, 0⟩
/-- R389. -/
def LN_PORT_W4 (n : Nat) : Nat := 0x01010020 + 64 * n
/-- R389. -/
def LN_PORT_W4_REPLAYS (n : Nat) : Fld := ⟨LN_PORT_W4 n, 63, 0⟩
/-- R389. -/
def LN_PORT_W5 (n : Nat) : Nat := 0x01010028 + 64 * n
/-- R389. -/
def LN_PORT_W5_REPLAY_REQS (n : Nat) : Fld := ⟨LN_PORT_W5 n, 63, 0⟩
/-- R389. -/
def LN_PORT_W6 (n : Nat) : Nat := 0x01010030 + 64 * n
/-- R389. -/
def LN_PORT_W6_CW_UNCORR (n : Nat) : Fld := ⟨LN_PORT_W6 n, 63, 0⟩
/-- R389. -/
def LN_PORT_W7 (n : Nat) : Nat := 0x01010038 + 64 * n
/-- R389. -/
def LN_PORT_W7_NARROWINGS (n : Nat) : Fld := ⟨LN_PORT_W7 n, 63, 32⟩
/-- R389. -/
def LN_PORT_W7_WAKES (n : Nat) : Fld := ⟨LN_PORT_W7 n, 31, 0⟩
/-- R390. -/
def LN_LANE_W0 (n : Nat) : Nat := 0x01020000 + 64 * n
/-- R390. -/
def LN_LANE_W0_STATE (n : Nat) : Fld := ⟨LN_LANE_W0 n, 63, 60⟩
/-- R390. -/
def LN_LANE_W0_CAUSE (n : Nat) : Fld := ⟨LN_LANE_W0 n, 59, 56⟩
/-- R390. -/
def LN_LANE_W0_RX_INV (n : Nat) : Fld := ⟨LN_LANE_W0 n, 55, 55⟩
/-- R390. -/
def LN_LANE_W0_PORT (n : Nat) : Fld := ⟨LN_LANE_W0 n, 54, 47⟩
/-- R390. -/
def LN_LANE_W0_INDEX (n : Nat) : Fld := ⟨LN_LANE_W0 n, 46, 43⟩
/-- R390. -/
def LN_LANE_W0_EYE_H (n : Nat) : Fld := ⟨LN_LANE_W0 n, 31, 24⟩
/-- R390. -/
def LN_LANE_W0_EYE_W (n : Nat) : Fld := ⟨LN_LANE_W0 n, 23, 16⟩
/-- R390. -/
def LN_LANE_W1 (n : Nat) : Nat := 0x01020008 + 64 * n
/-- R390. -/
def LN_LANE_W1_FFE_LO (n : Nat) : Fld := ⟨LN_LANE_W1 n, 63, 0⟩
/-- R390. -/
def LN_LANE_W2 (n : Nat) : Nat := 0x01020010 + 64 * n
/-- R390. -/
def LN_LANE_W2_DFE (n : Nat) : Fld := ⟨LN_LANE_W2 n, 47, 40⟩
/-- R390. -/
def LN_LANE_W2_CTLE_PEAK (n : Nat) : Fld := ⟨LN_LANE_W2 n, 36, 32⟩
/-- R390. -/
def LN_LANE_W2_FFE_HI (n : Nat) : Fld := ⟨LN_LANE_W2 n, 31, 0⟩
/-- R390. -/
def LN_LANE_W3 (n : Nat) : Nat := 0x01020018 + 64 * n
/-- R390. -/
def LN_LANE_W3_C_P1 (n : Nat) : Fld := ⟨LN_LANE_W3 n, 37, 32⟩
/-- R390. -/
def LN_LANE_W3_C_0 (n : Nat) : Fld := ⟨LN_LANE_W3 n, 29, 24⟩
/-- R390. -/
def LN_LANE_W3_C_M1 (n : Nat) : Fld := ⟨LN_LANE_W3 n, 21, 16⟩
/-- R390. -/
def LN_LANE_W3_C_M2 (n : Nat) : Fld := ⟨LN_LANE_W3 n, 13, 8⟩
/-- R390. -/
def LN_LANE_W3_C_M3 (n : Nat) : Fld := ⟨LN_LANE_W3 n, 5, 0⟩
/-- R390. -/
def LN_LANE_W4 (n : Nat) : Nat := 0x01020020 + 64 * n
/-- R390. -/
def LN_LANE_W4_SYM_ERR (n : Nat) : Fld := ⟨LN_LANE_W4 n, 63, 0⟩
/-- R62. -/
def BT_NOW : Nat := 0x01800000
/-- R62. -/
def BT_NOW_NOW : Fld := ⟨BT_NOW, 63, 0⟩
/-- R62. -/
def BT_STATUS : Nat := 0x01800008
/-- R62. -/
def BT_STATUS_OFFSET_EST : Fld := ⟨BT_STATUS, 63, 32⟩
/-- R62. -/
def BT_STATUS_HOPS : Fld := ⟨BT_STATUS, 31, 24⟩
/-- R62. -/
def BT_STATUS_ISLANDS_OUT : Fld := ⟨BT_STATUS, 23, 16⟩
/-- R62. -/
def BT_STATUS_PTP_LOCKED : Fld := ⟨BT_STATUS, 5, 5⟩
/-- R62. -/
def BT_STATUS_ROOT : Fld := ⟨BT_STATUS, 4, 4⟩
/-- R62. -/
def BT_STATUS_SET : Fld := ⟨BT_STATUS, 3, 3⟩
/-- R62. -/
def BT_STATUS_LOCK : Fld := ⟨BT_STATUS, 1, 0⟩
/-- R62. -/
def BT_CTRL : Nat := 0x01800010
/-- R62. -/
def BT_CTRL_SYNC_EXP : Fld := ⟨BT_CTRL, 15, 12⟩
/-- R62. -/
def BT_CTRL_HOLD_LIMIT : Fld := ⟨BT_CTRL, 11, 4⟩
/-- R62. -/
def BT_CTRL_FORCE_STEP : Fld := ⟨BT_CTRL, 0, 0⟩
/-- R62. -/
def BT_ROOT : Nat := 0x01800018
/-- R62. -/
def BT_ROOT_PTP_SOURCE : Fld := ⟨BT_ROOT, 24, 24⟩
/-- R62. -/
def BT_ROOT_PTP_PORT : Fld := ⟨BT_ROOT, 23, 16⟩
/-- R62. -/
def BT_ROOT_ROOT_Z : Fld := ⟨BT_ROOT, 10, 8⟩
/-- R62. -/
def BT_ROOT_ROOT_Y : Fld := ⟨BT_ROOT, 7, 4⟩
/-- R62. -/
def BT_ROOT_ROOT_X : Fld := ⟨BT_ROOT, 3, 0⟩
/-- R62. -/
def BT_TAI_EPOCH : Nat := 0x01800020
/-- R62. -/
def BT_TAI_EPOCH_TAI_AT_EPOCH : Fld := ⟨BT_TAI_EPOCH, 63, 0⟩
/-- R62. -/
def BT_RUN_START : Nat := 0x01800028
/-- R62. -/
def BT_RUN_START_TICK : Fld := ⟨BT_RUN_START, 63, 0⟩
/-- R62. -/
def BT_RUN_END : Nat := 0x01800030
/-- R62. -/
def BT_RUN_END_TICK : Fld := ⟨BT_RUN_END, 63, 0⟩
/-- R62. -/
def BT_CHOICE : Nat := 0x01800038
/-- R62. -/
def BT_CHOICE_ANY : Fld := ⟨BT_CHOICE, 63, 63⟩
/-- R62. -/
def BT_CHOICE_FIRST_KIND : Fld := ⟨BT_CHOICE, 62, 60⟩
/-- R62. -/
def BT_CHOICE_TOTAL : Fld := ⟨BT_CHOICE, 47, 0⟩
/-- R62. -/
def BT_CHOICE_FIRST : Nat := 0x01800040
/-- R62. -/
def BT_CHOICE_FIRST_FIRST_TICK : Fld := ⟨BT_CHOICE_FIRST, 63, 0⟩
/-- R62. -/
def BT_CHOICE_KIND (n : Nat) : Nat := 0x01800048 + 8 * n
/-- R62. -/
def BT_CHOICE_KIND_COUNT (n : Nat) : Fld := ⟨BT_CHOICE_KIND n, 63, 0⟩
/-- R62. -/
def BT_MUSTER_OUT : Nat := 0x01800088
/-- R62. -/
def BT_MUSTER_OUT_OUT_MAP : Fld := ⟨BT_MUSTER_OUT, 63, 0⟩
/-- R62. -/
def BT_MUSTER_LOST : Nat := 0x01800090
/-- R62. -/
def BT_MUSTER_LOST_LOST_MAP : Fld := ⟨BT_MUSTER_LOST, 63, 0⟩
/-- R62. -/
def BT_TIMED_ERR : Nat := 0x01800098
/-- R62. -/
def BT_TIMED_ERR_STEP_REFUSED : Fld := ⟨BT_TIMED_ERR, 1, 1⟩
/-- R62. -/
def BT_TIMED_ERR_WINDOW_REFUSED : Fld := ⟨BT_TIMED_ERR, 0, 0⟩
/-- R62. -/
def BT_SYNC_DROPS : Nat := 0x018000A0
/-- R62. -/
def BT_SYNC_DROPS_DROPS : Fld := ⟨BT_SYNC_DROPS, 63, 0⟩
/-- R451. -/
def MB_WINDOW (n : Nat) : Nat := 0x01A10000 + 8 * n
/-- R451. -/
def MB_WINDOW_EN (n : Nat) : Fld := ⟨MB_WINDOW n, 63, 63⟩
/-- R451. -/
def MB_WINDOW_BASE (n : Nat) : Fld := ⟨MB_WINDOW n, 23, 0⟩
/-- R451. -/
def MB_QBASE (n : Nat) : Nat := 0x01A10100 + 32 * n
/-- R451. -/
def MB_QBASE_ADDR (n : Nat) : Fld := ⟨MB_QBASE n, 63, 12⟩
/-- R451. -/
def MB_QCFG (n : Nat) : Nat := 0x01A10108 + 32 * n
/-- R451. -/
def MB_QCFG_ENABLE (n : Nat) : Fld := ⟨MB_QCFG n, 63, 63⟩
/-- R451. -/
def MB_QCFG_LOG2_ENTRIES (n : Nat) : Fld := ⟨MB_QCFG n, 3, 0⟩
/-- R451. -/
def MB_QHEAD (n : Nat) : Nat := 0x01A10110 + 32 * n
/-- R451. -/
def MB_QHEAD_HEAD (n : Nat) : Fld := ⟨MB_QHEAD n, 15, 0⟩
/-- R451. -/
def MB_QTAIL (n : Nat) : Nat := 0x01A10118 + 32 * n
/-- R451. -/
def MB_QTAIL_TAIL (n : Nat) : Fld := ⟨MB_QTAIL n, 15, 0⟩
/-- R451. -/
def MB_BOOT_STATUS : Nat := 0x01A10200
/-- R451. -/
def MB_BOOT_STATUS_OWNER_SET : Fld := ⟨MB_BOOT_STATUS, 63, 63⟩
/-- R451. -/
def MB_BOOT_STATUS_TRIAL : Fld := ⟨MB_BOOT_STATUS, 29, 24⟩
/-- R451. -/
def MB_BOOT_STATUS_SLOT_B : Fld := ⟨MB_BOOT_STATUS, 21, 16⟩
/-- R451. -/
def MB_BOOT_STATUS_FAIL_STAGE : Fld := ⟨MB_BOOT_STATUS, 7, 4⟩
/-- R451. -/
def MB_BOOT_STATUS_STAGE : Fld := ⟨MB_BOOT_STATUS, 3, 0⟩
/-- R451. -/
def MB_LINK_STATUS : Nat := 0x01A10208
/-- R451. -/
def MB_LINK_STATUS_WIDTH : Fld := ⟨MB_LINK_STATUS, 11, 8⟩
/-- R451. -/
def MB_LINK_STATUS_RATE : Fld := ⟨MB_LINK_STATUS, 3, 0⟩
/-- R451. -/
def MB_ERR : Nat := 0x01A10210
/-- R451. -/
def MB_ERR_QUEUE_REFUSED : Fld := ⟨MB_ERR, 1, 1⟩
/-- R451. -/
def MB_ERR_WINDOW_REFUSED : Fld := ⟨MB_ERR, 0, 0⟩
/-- R451. -/
def MB_POISON_RD : Nat := 0x01A10218
/-- R451. -/
def MB_POISON_RD_COUNT : Fld := ⟨MB_POISON_RD, 63, 0⟩
/-- R451. -/
def MB_UNMAPPED : Nat := 0x01A10220
/-- R451. -/
def MB_UNMAPPED_COUNT : Fld := ⟨MB_UNMAPPED, 63, 0⟩
/-- The mailbox status register (R436; log entry 116). -/
def CXL_MB_STATUS : Nat := 0x01A00110
/-- The background command status register (R436; log entry 116). -/
def CXL_BG_STATUS : Nat := 0x01A00118
/-- The words of vector `n` in the MSI-X table (R435; log entry 116): its address. -/
def MSIX_ADDR (n : Nat) : Nat := 0x01A20000 + 16 * n
/-- Its data and its mask bit. -/
def MSIX_CTL (n : Nat) : Nat := 0x01A20008 + 16 * n
/-- See `MSIX_CTL`. -/
def MSIX_CTL_MASK (n : Nat) : Fld := ⟨MSIX_CTL n, 32, 32⟩
/-- The pending-bit array (R435). -/
def MSIX_PBA : Nat := 0x01A21000
/-- R471. -/
def PH_INPUT : Nat := 0x01C00000
/-- R471. -/
def PH_INPUT_PIN : Fld := ⟨PH_INPUT, 63, 48⟩
/-- R471. -/
def PH_INPUT_IIN : Fld := ⟨PH_INPUT, 47, 32⟩
/-- R471. -/
def PH_INPUT_VIN : Fld := ⟨PH_INPUT, 31, 16⟩
/-- R471. -/
def PH_INPUT_EVENT : Nat := 0x01C00008
/-- R471. -/
def PH_INPUT_EVENT_HUB_HOT_OFF : Fld := ⟨PH_INPUT_EVENT, 5, 5⟩
/-- R471. -/
def PH_INPUT_EVENT_REVERSE : Fld := ⟨PH_INPUT_EVENT, 4, 4⟩
/-- R471. -/
def PH_INPUT_EVENT_OC : Fld := ⟨PH_INPUT_EVENT, 3, 3⟩
/-- R471. -/
def PH_INPUT_EVENT_SURGE : Fld := ⟨PH_INPUT_EVENT, 2, 2⟩
/-- R471. -/
def PH_INPUT_EVENT_OV : Fld := ⟨PH_INPUT_EVENT, 1, 1⟩
/-- R471. -/
def PH_INPUT_EVENT_UV : Fld := ⟨PH_INPUT_EVENT, 0, 0⟩
/-- R471. -/
def PH_INPUT_CTRL : Nat := 0x01C00010
/-- R471. -/
def PH_INPUT_CTRL_RETRY : Fld := ⟨PH_INPUT_CTRL, 0, 0⟩
/-- R471. -/
def PH_CAP : Nat := 0x01C00018
/-- R471. -/
def PH_CAP_MODE_IN_FORCE : Fld := ⟨PH_CAP, 17, 16⟩
/-- R471. -/
def PH_CAP_MODE : Fld := ⟨PH_CAP, 1, 0⟩
/-- R471. -/
def PH_CLOCK : Nat := 0x01C00020
/-- R471. -/
def PH_CLOCK_AC_ACTIVE : Fld := ⟨PH_CLOCK, 18, 16⟩
/-- R471. -/
def PH_CLOCK_PEND : Fld := ⟨PH_CLOCK, 8, 8⟩
/-- R471. -/
def PH_CLOCK_AC_CYCLES : Fld := ⟨PH_CLOCK, 2, 0⟩
/-- R471. -/
def PH_THERMAL : Nat := 0x01C00028
/-- R471. -/
def PH_THERMAL_INLET : Fld := ⟨PH_THERMAL, 63, 48⟩
/-- R471. -/
def PH_THERMAL_OUTLET : Fld := ⟨PH_THERMAL, 47, 32⟩
/-- R471. -/
def PH_THERMAL_HUB_MAX : Fld := ⟨PH_THERMAL, 31, 16⟩
/-- R471. -/
def PH_STEPS : Nat := 0x01C00030
/-- R471. -/
def PH_STEPS_COUNT : Fld := ⟨PH_STEPS, 63, 0⟩
/-- R471. -/
def PH_BLOCK (n : Nat) : Nat := 0x01C00100 + 8 * n
/-- R471. -/
def PH_BLOCK_LIMIT (n : Nat) : Fld := ⟨PH_BLOCK n, 63, 48⟩
/-- R471. -/
def PH_BLOCK_STEP (n : Nat) : Fld := ⟨PH_BLOCK n, 42, 40⟩
/-- R471. -/
def PH_BLOCK_POWER (n : Nat) : Fld := ⟨PH_BLOCK n, 15, 0⟩
/-- R471. -/
def PH_STAGE (n : Nat) : Nat := 0x01C00200 + 8 * n
/-- R471. -/
def PH_STAGE_CYCLES (n : Nat) : Fld := ⟨PH_STAGE n, 63, 32⟩
/-- R471. -/
def PH_STAGE_OVER_S (n : Nat) : Fld := ⟨PH_STAGE n, 31, 0⟩
/-- R424. -/
def PH_HEALTH : Nat := 0x01C80000
/-- R424. -/
def PH_HEALTH_EOL_DAYS : Fld := ⟨PH_HEALTH, 63, 48⟩
/-- R424. -/
def PH_HEALTH_S_PWR : Fld := ⟨PH_HEALTH, 39, 32⟩
/-- R424. -/
def PH_HEALTH_S_CE : Fld := ⟨PH_HEALTH, 31, 24⟩
/-- R424. -/
def PH_HEALTH_S_SERDES : Fld := ⟨PH_HEALTH, 23, 16⟩
/-- R424. -/
def PH_HEALTH_S_RO : Fld := ⟨PH_HEALTH, 15, 8⟩
/-- R424. -/
def PH_HEALTH_RISK : Fld := ⟨PH_HEALTH, 7, 0⟩
/-- R424. -/
def PH_HEALTH_CTRL : Nat := 0x01C80008
/-- R424. -/
def PH_HEALTH_CTRL_RO_LIMIT : Fld := ⟨PH_HEALTH_CTRL, 63, 48⟩
/-- R424. -/
def PH_HEALTH_CTRL_EYE_LOSS : Fld := ⟨PH_HEALTH_CTRL, 47, 40⟩
/-- R424. -/
def PH_HEALTH_CTRL_CE_LIMIT : Fld := ⟨PH_HEALTH_CTRL, 39, 24⟩
/-- R424. -/
def PH_HEALTH_CTRL_AUTO_STOP : Fld := ⟨PH_HEALTH_CTRL, 16, 16⟩
/-- R424. -/
def PH_HEALTH_CTRL_HYST : Fld := ⟨PH_HEALTH_CTRL, 15, 8⟩
/-- R424. -/
def PH_HEALTH_CTRL_STOP_RISK : Fld := ⟨PH_HEALTH_CTRL, 7, 0⟩
/-- R424. -/
def PH_ISLAND_AGE (n : Nat) : Nat := 0x01C80100 + 8 * n
/-- R424. -/
def PH_ISLAND_AGE_DELTA (n : Nat) : Fld := ⟨PH_ISLAND_AGE n, 19, 0⟩
/-- R424. -/
def PH_RESIDUE (n : Nat) : Nat := 0x01C80300 + 8 * n
/-- R424. -/
def PH_RESIDUE_COUNT (n : Nat) : Fld := ⟨PH_RESIDUE n, 63, 0⟩
/-- R424. -/
def PH_STOP_CTRL : Nat := 0x01C80400
/-- R424. -/
def PH_STOP_CTRL_GO : Fld := ⟨PH_STOP_CTRL, 63, 63⟩
/-- R424. -/
def PH_STOP_CTRL_CANCEL : Fld := ⟨PH_STOP_CTRL, 62, 62⟩
/-- R424. -/
def PH_STOP_TICK : Nat := 0x01C80408
/-- R424. -/
def PH_STOP_TICK_TICK : Fld := ⟨PH_STOP_TICK, 63, 0⟩
/-- R424. -/
def PH_STOP_CFG : Nat := 0x01C80410
/-- R424. -/
def PH_STOP_CFG_GUEST_VALID : Fld := ⟨PH_STOP_CFG, 27, 27⟩
/-- R424. -/
def PH_STOP_CFG_GUEST : Fld := ⟨PH_STOP_CFG, 26, 16⟩
/-- R424. -/
def PH_STOP_CFG_PARTNER_VALID : Fld := ⟨PH_STOP_CFG, 11, 11⟩
/-- R424. -/
def PH_STOP_CFG_PARTNER : Fld := ⟨PH_STOP_CFG, 10, 0⟩
/-- R424. -/
def PH_STOP_STATUS : Nat := 0x01C80418
/-- R424. -/
def PH_STOP_STATUS_SEQ : Fld := ⟨PH_STOP_STATUS, 63, 32⟩
/-- R424. -/
def PH_STOP_STATUS_STATE : Fld := ⟨PH_STOP_STATUS, 31, 28⟩
/-- R424. -/
def PH_STOP_STATUS_RESULT : Fld := ⟨PH_STOP_STATUS, 23, 20⟩
/-- R424. -/
def PH_STOP_STATUS_CONFIRMED : Fld := ⟨PH_STOP_STATUS, 19, 19⟩
/-- R424. -/
def PH_STOP_STATUS_BANK : Fld := ⟨PH_STOP_STATUS, 18, 18⟩
/-- R424. -/
def PH_STOP_STATUS_GUEST_HELD : Fld := ⟨PH_STOP_STATUS, 17, 17⟩
/-- R424. -/
def PH_STOP_START : Nat := 0x01C80420
/-- R424. -/
def PH_STOP_START_TICK : Fld := ⟨PH_STOP_START, 63, 0⟩
/-- R424. -/
def PH_STOP_END : Nat := 0x01C80428
/-- R424. -/
def PH_STOP_END_TICK : Fld := ⟨PH_STOP_END, 63, 0⟩
/-- R424. -/
def PH_STOP_DIGEST (n : Nat) : Nat := 0x01C80430 + 8 * n
/-- R424. -/
def PH_STOP_DIGEST_DIGEST (n : Nat) : Fld := ⟨PH_STOP_DIGEST n, 63, 0⟩
/-- R424. -/
def PH_RESTORE_CTRL : Nat := 0x01C80480
/-- R424. -/
def PH_RESTORE_CTRL_GO : Fld := ⟨PH_RESTORE_CTRL, 63, 63⟩
/-- R424. -/
def PH_RESTORE_CTRL_FROM : Fld := ⟨PH_RESTORE_CTRL, 10, 0⟩
/-- R424. -/
def PH_RESTORE_STATUS : Nat := 0x01C80488
/-- R424. -/
def PH_RESTORE_STATUS_BUSY : Fld := ⟨PH_RESTORE_STATUS, 63, 63⟩
/-- R424. -/
def PH_RESTORE_STATUS_RESULT : Fld := ⟨PH_RESTORE_STATUS, 55, 48⟩
/-- R424. -/
def PH_RESTORE_STATUS_STAYS : Fld := ⟨PH_RESTORE_STATUS, 18, 0⟩
/-- R424. -/
def PH_PROOF_CTRL : Nat := 0x01C80490
/-- R424. -/
def PH_PROOF_CTRL_GO : Fld := ⟨PH_PROOF_CTRL, 63, 63⟩
/-- R424. -/
def PH_PROOF_CTRL_AUTO_RUN : Fld := ⟨PH_PROOF_CTRL, 25, 25⟩
/-- R424. -/
def PH_PROOF_CTRL_AUTO_RETURN : Fld := ⟨PH_PROOF_CTRL, 24, 24⟩
/-- R424. -/
def PH_PROOF_CTRL_CORES : Fld := ⟨PH_PROOF_CTRL, 23, 0⟩
/-- R424. -/
def PH_PROOF_STATUS : Nat := 0x01C80498
/-- R424. -/
def PH_PROOF_STATUS_BUSY : Fld := ⟨PH_PROOF_STATUS, 63, 63⟩
/-- R424. -/
def PH_PROOF_STATUS_FAIL : Fld := ⟨PH_PROOF_STATUS, 47, 24⟩
/-- R424. -/
def PH_PROOF_STATUS_PASS : Fld := ⟨PH_PROOF_STATUS, 23, 0⟩
/-- R424. -/
def PH_ERR : Nat := 0x01C804A8
/-- R424. -/
def PH_ERR_CFG_BUSY : Fld := ⟨PH_ERR, 3, 3⟩
/-- R424. -/
def PH_ERR_PROOF_REFUSED : Fld := ⟨PH_ERR, 2, 2⟩
/-- R424. -/
def PH_ERR_RESTORE_BUSY : Fld := ⟨PH_ERR, 1, 1⟩
/-- R424. -/
def PH_ERR_STOP_REFUSED : Fld := ⟨PH_ERR, 0, 0⟩

/-- The register rows of block DV_. -/
def regRowsDV0 : List RegRow := [
  ⟨0x00000000, 8, 1, 1, [⟨63, 48, .ro, 0x4C59, []⟩, ⟨47, 32, .ro, 0x0D08, []⟩, ⟨31, 24, .ro, 0xA1, []⟩, ⟨23, 16, .ro, 0, []⟩, ⟨15, 8, .ro, 0, []⟩, ⟨0, 0, .ro, 0, []⟩]⟩,
  ⟨0x00000008, 8, 1, 1, [⟨39, 32, .ro, 0, []⟩, ⟨27, 24, .ro, 0, []⟩, ⟨3, 0, .ro, 0, []⟩]⟩,
  ⟨0x00000010, 8, 1, 1, [⟨31, 31, .ro, 0, []⟩, ⟨30, 30, .ro, 0, []⟩, ⟨21, 19, .ro, 0, []⟩, ⟨18, 15, .ro, 0, []⟩, ⟨14, 11, .ro, 0, []⟩, ⟨10, 0, .ro, 0, []⟩]⟩,
  ⟨0x00001000, 8, 1, 1, [⟨1, 1, .wo, 0, []⟩, ⟨0, 0, .wo, 0, []⟩]⟩,
  ⟨0x00001008, 8, 1, 1, [⟨63, 56, .ro, 0, []⟩, ⟨3, 3, .ro, 0, []⟩, ⟨2, 2, .ro, 0, []⟩, ⟨1, 1, .ro, 0, []⟩, ⟨0, 0, .ro, 0, []⟩]⟩,
  ⟨0x00001010, 8, 1, 1, [⟨63, 0, .rw, 0, []⟩]⟩,
  ⟨0x00001018, 8, 1, 1, [⟨63, 0, .ro, 0, []⟩]⟩,
  ⟨0x00001020, 8, 1, 1, [⟨63, 0, .ro, 0, []⟩]⟩,
  ⟨0x00001028, 8, 1, 1, [⟨2, 2, .w1c, 0, []⟩, ⟨1, 1, .w1c, 0, []⟩, ⟨0, 0, .w1c, 0, []⟩]⟩]

/-- The register rows of block WATCH_. -/
def regRowsWATCH0 : List RegRow := [
  ⟨0x00100000, 8, 1, 1, [⟨2, 0, .rw, 2, [(0, 5)]⟩]⟩,
  ⟨0x00100008, 8, 1, 1, [⟨63, 16, .ro, 0, []⟩, ⟨14, 12, .ro, 0, []⟩, ⟨11, 0, .ro, 0, []⟩]⟩,
  ⟨0x00100010, 8, 1, 1, [⟨63, 0, .ro, 0, []⟩]⟩,
  ⟨0x00100018, 8, 1, 1, [⟨63, 63, .wo, 0, []⟩, ⟨53, 48, .rw, 0x3E, []⟩, ⟨39, 0, .rw, 0, []⟩]⟩,
  ⟨0x00100020, 8, 1, 1, [⟨2, 2, .w1c, 0, []⟩, ⟨1, 1, .w1c, 0, []⟩, ⟨0, 0, .w1c, 0, []⟩]⟩,
  ⟨0x00100100, 8, 16, 1, [⟨63, 0, .rs, 0, []⟩]⟩,
  ⟨0x00101000, 8, 1024, 1, [⟨3, 3, .rw, 0, []⟩, ⟨2, 0, .rw, 0, [(0, 5)]⟩]⟩,
  ⟨0x00108000, 16, 4096, 1, [⟨63, 0, .ro, 0, []⟩]⟩,
  ⟨0x00108008, 16, 4096, 1, [⟨63, 0, .ro, 0, []⟩]⟩]

/-- The register rows of block SW_. -/
def regRowsSW0 : List RegRow := [
  ⟨0x00200000, 8, 1, 1, [⟨42, 40, .ro, 0, []⟩, ⟨39, 20, .ro, 0, []⟩, ⟨19, 0, .ro, 0, []⟩]⟩,
  ⟨0x00200008, 8, 1, 1, [⟨58, 56, .rw, 2, []⟩, ⟨55, 42, .rw, 0x40, []⟩, ⟨41, 28, .rw, 0x80, []⟩, ⟨27, 14, .rw, 0x100, []⟩, ⟨13, 0, .rw, 0x200, []⟩]⟩,
  ⟨0x00200010, 8, 1, 1, [⟨15, 0, .rw, 0x64, [(1, 65535)]⟩]⟩,
  ⟨0x00200018, 8, 1, 1, [⟨2, 2, .w1c, 0, []⟩, ⟨1, 1, .w1c, 0, []⟩, ⟨0, 0, .w1c, 0, []⟩]⟩,
  ⟨0x00200020, 8, 1, 1, [⟨15, 8, .ro, 0, []⟩, ⟨2, 2, .w1c, 0, []⟩, ⟨1, 1, .w1c, 0, []⟩, ⟨0, 0, .w1c, 0, []⟩]⟩,
  ⟨0x00200028, 8, 1, 1, [⟨63, 60, .rw, 0, []⟩, ⟨59, 59, .rw, 0, []⟩, ⟨47, 40, .rw, 0, []⟩, ⟨36, 36, .rw, 0, []⟩, ⟨13, 0, .rw, 0, []⟩]⟩,
  ⟨0x00200030, 8, 1, 1, [⟨0, 0, .ro, 1, []⟩]⟩,
  ⟨0x00200038, 8, 2, 1, [⟨63, 0, .rw, 0, []⟩]⟩,
  ⟨0x00200100, 8, 13, 1, [⟨63, 0, .ro, 0, []⟩]⟩,
  ⟨0x00201000, 16, 16, 1, [⟨51, 48, .rw, 0, []⟩, ⟨47, 40, .rw, 0, []⟩, ⟨39, 20, .rw, 0, []⟩, ⟨19, 0, .rw, 0, []⟩]⟩,
  ⟨0x00201008, 16, 16, 1, [⟨51, 48, .rw, 0, []⟩, ⟨47, 40, .rw, 0, []⟩, ⟨39, 20, .rw, 0, []⟩, ⟨19, 0, .rw, 0, []⟩]⟩,
  ⟨0x00202000, 16, 512, 1, [⟨63, 63, .rw, 0, []⟩, ⟨62, 62, .rw, 0, []⟩, ⟨35, 16, .rw, 0, [(4132, 1048575)]⟩, ⟨15, 0, .rw, 0, []⟩]⟩]

/-- The register rows of block SW_. -/
def regRowsSW1 : List RegRow := [
  ⟨0x00202008, 16, 512, 1, [⟨35, 16, .rw, 0, [(4132, 1048575)]⟩, ⟨15, 0, .rw, 0, []⟩]⟩,
  ⟨0x00204000, 32, 256, 1, [⟨3, 3, .wo, 0, []⟩, ⟨2, 2, .ro, 0, []⟩, ⟨1, 1, .ro, 0, []⟩, ⟨0, 0, .ro, 0, []⟩]⟩,
  ⟨0x00204008, 32, 256, 1, [⟨63, 0, .rw, 0, []⟩]⟩,
  ⟨0x00204018, 32, 256, 1, [⟨63, 32, .ro, 0, []⟩, ⟨9, 0, .ro, 0, []⟩]⟩,
  ⟨0x00206000, 8, 256, 1, [⟨27, 16, .rw, 1, []⟩, ⟨11, 8, .rw, 0, []⟩, ⟨0, 0, .rw, 0, []⟩]⟩,
  ⟨0x00208000, 128, 256, 12, [⟨42, 40, .rw, 4, []⟩, ⟨39, 20, .rw, 0, []⟩, ⟨19, 0, .rw, 0, [(0, 0), (17, 524287)]⟩]⟩,
  ⟨0x00210000, 128, 256, 12, [⟨39, 20, .ro, 0, []⟩, ⟨19, 0, .ro, 0, []⟩]⟩,
  ⟨0x00218000, 128, 256, 12, [⟨19, 0, .ro, 0, []⟩]⟩,
  ⟨0x00220000, 64, 256, 6, [⟨51, 32, .rw, 0, []⟩, ⟨31, 16, .rw, 0, []⟩, ⟨13, 10, .rw, 0, []⟩, ⟨9, 9, .rw, 0, []⟩, ⟨8, 8, .rw, 0, []⟩, ⟨7, 0, .rw, 0x10, [(1, 255)]⟩]⟩,
  ⟨0x00230000, 16, 4096, 1, [⟨63, 0, .rw, 0, []⟩]⟩,
  ⟨0x00230008, 16, 4096, 1, [⟨63, 63, .rw, 0, []⟩, ⟨16, 16, .rw, 0, []⟩, ⟨15, 0, .rw, 0, []⟩]⟩,
  ⟨0x00240000, 64, 13, 6, [⟨42, 40, .ro, 4, []⟩, ⟨39, 20, .ro, 4096, []⟩, ⟨19, 0, .ro, 68, []⟩]⟩]

/-- The register rows of block SW_. -/
def regRowsSW2 : List RegRow := [
  ⟨0x00240340, 8, 1, 1, [⟨42, 40, .ro, 4, []⟩, ⟨39, 20, .ro, 1632, []⟩, ⟨19, 0, .ro, 1632, []⟩]⟩,
  ⟨0x00240400, 64, 13, 6, [⟨39, 20, .ro, 0, []⟩, ⟨19, 0, .ro, 0, []⟩]⟩,
  ⟨0x00240740, 8, 1, 1, [⟨39, 20, .ro, 0, []⟩, ⟨19, 0, .ro, 0, []⟩]⟩,
  ⟨0x00300000, 8, 32768, 1, [⟨63, 63, .rw, 0, []⟩, ⟨62, 62, .rw, 0, []⟩, ⟨18, 8, .rw, 0, []⟩, ⟨7, 0, .rw, 0, []⟩]⟩,
  ⟨0x00340000, 8, 4096, 1, [⟨63, 63, .rw, 0, []⟩, ⟨62, 61, .rw, 0, [(0, 1)]⟩, ⟨60, 58, .rw, 0, [(0, 6)]⟩, ⟨57, 42, .rw, 0, [(1, 32768)]⟩, ⟨41, 27, .rw, 0, []⟩]⟩,
  ⟨0x00350000, 16, 4096, 1, [⟨63, 63, .rw, 0, []⟩, ⟨62, 61, .rw, 0, [(0, 2)]⟩, ⟨60, 49, .rw, 0, []⟩, ⟨48, 33, .rw, 0, []⟩]⟩,
  ⟨0x00350008, 16, 4096, 1, [⟨63, 0, .rw, 0, []⟩]⟩,
  ⟨0x00360000, 8, 32, 1, [⟨63, 0, .rw, 0, []⟩]⟩,
  ⟨0x00360100, 8, 1, 1, [⟨63, 0, .rw, 0, []⟩]⟩,
  ⟨0x00360108, 8, 1, 1, [⟨63, 56, .rw, 0x0A, []⟩, ⟨47, 32, .rw, 0x64, [(1, 65535)]⟩, ⟨31, 0, .rw, 0, []⟩]⟩,
  ⟨0x00360110, 8, 1, 1, [⟨1, 1, .w1c, 0, []⟩, ⟨0, 0, .w1c, 0, []⟩]⟩,
  ⟨0x00360118, 8, 1, 1, [⟨63, 0, .ro, 0, []⟩]⟩,
  ⟨0x00360120, 8, 1, 1, [⟨63, 0, .ro, 0, []⟩]⟩]

/-- The register rows of block SW_. -/
def regRowsSW3 : List RegRow := [
  ⟨0x00360128, 8, 1, 1, [⟨63, 0, .ro, 0, []⟩]⟩,
  ⟨0x00360130, 8, 1, 1, [⟨63, 0, .ro, 0, []⟩]⟩,
  ⟨0x00360138, 8, 1, 1, [⟨63, 0, .ro, 0, []⟩]⟩,
  ⟨0x00360140, 8, 1, 1, [⟨63, 0, .ro, 0, []⟩]⟩,
  ⟨0x00360200, 8, 64, 1, [⟨63, 63, .rw, 0, []⟩, ⟨62, 62, .rw, 0, []⟩, ⟨61, 61, .rw, 0, []⟩, ⟨60, 60, .rw, 0, []⟩, ⟨30, 0, .rw, 0, []⟩]⟩,
  ⟨0x00380000, 8, 65536, 1, [⟨63, 63, .rw, 0, []⟩, ⟨62, 62, .ro, 0, []⟩, ⟨61, 61, .ro, 0, []⟩, ⟨60, 49, .rw, 0, []⟩, ⟨48, 32, .rw, 0, []⟩, ⟨31, 16, .ro, 0, []⟩, ⟨15, 0, .ro, 0, []⟩]⟩]

/-- The register rows of block TL_. -/
def regRowsTL0 : List RegRow := [
  ⟨0x00400000, 8, 1, 1, [⟨44, 32, .ro, 0, []⟩, ⟨28, 16, .ro, 0, []⟩, ⟨12, 0, .ro, 0, []⟩]⟩,
  ⟨0x00400008, 8, 1, 1, [⟨31, 24, .rw, 4, [(1, 255)]⟩, ⟨19, 16, .rw, 3, [(1, 15)]⟩, ⟨15, 8, .rw, 0x32, [(1, 255)]⟩, ⟨7, 0, .rw, 0x14, [(1, 255)]⟩]⟩,
  ⟨0x00400010, 8, 1, 1, [⟨0, 0, .w1c, 0, []⟩]⟩,
  ⟨0x00400018, 8, 1, 1, [⟨12, 0, .rw, 0, []⟩]⟩,
  ⟨0x00400020, 8, 1, 1, [⟨0, 0, .ro, 1, []⟩]⟩,
  ⟨0x00400028, 8, 1, 1, [⟨63, 63, .ro, 0, []⟩, ⟨62, 51, .ro, 0, []⟩, ⟨50, 39, .ro, 0, []⟩, ⟨38, 35, .ro, 0, []⟩, ⟨34, 32, .ro, 0, []⟩, ⟨31, 16, .ro, 0, []⟩]⟩,
  ⟨0x00400030, 8, 1, 1, [⟨63, 53, .ro, 0, []⟩, ⟨41, 21, .ro, 0, []⟩, ⟨20, 0, .ro, 0, []⟩]⟩,
  ⟨0x00400100, 8, 13, 1, [⟨63, 0, .ro, 0, []⟩]⟩,
  ⟨0x00401000, 8, 4096, 1, [⟨42, 40, .rw, 4, []⟩, ⟨39, 20, .rw, 0, []⟩, ⟨19, 0, .rw, 0, []⟩]⟩,
  ⟨0x00409000, 8, 4096, 1, [⟨28, 16, .ro, 0, []⟩, ⟨12, 0, .ro, 0, []⟩]⟩]

/-- The register rows of block ST_. -/
def regRowsST0 : List RegRow := [
  ⟨0x00600000, 8, 1, 1, [⟨63, 40, .ro, 0, []⟩, ⟨39, 16, .ro, 0, []⟩]⟩,
  ⟨0x00600008, 8, 1, 1, [⟨50, 32, .ro, 0, []⟩, ⟨22, 0, .ro, 0, []⟩]⟩,
  ⟨0x00600010, 8, 1, 1, [⟨63, 48, .rw, 0x32, [(1, 65535)]⟩, ⟨47, 32, .rw, 0x64, [(1, 65535)]⟩, ⟨0, 0, .rw, 0, []⟩]⟩,
  ⟨0x00600018, 8, 1, 1, [⟨63, 48, .rw, 0x10, []⟩, ⟨47, 32, .rw, 0x40, []⟩, ⟨31, 16, .rw, 0x20, []⟩, ⟨15, 0, .rw, 8, []⟩]⟩,
  ⟨0x00600020, 8, 1, 1, [⟨63, 63, .rw, 0, []⟩, ⟨31, 16, .rw, 0x100, []⟩, ⟨15, 0, .rw, 0x80, []⟩]⟩,
  ⟨0x00600028, 8, 1, 1, [⟨47, 24, .rw, 0, []⟩, ⟨23, 0, .rw, 0, []⟩]⟩,
  ⟨0x00600030, 8, 1, 1, [⟨47, 24, .rw, 0, []⟩, ⟨23, 0, .rw, 0, []⟩]⟩,
  ⟨0x00600038, 8, 1, 1, [⟨23, 0, .ro, 0, []⟩]⟩,
  ⟨0x00600040, 8, 1, 1, [⟨23, 0, .rw, 0, []⟩]⟩,
  ⟨0x00600048, 8, 1, 1, [⟨63, 63, .wo, 0, []⟩, ⟨62, 62, .rw, 0, []⟩, ⟨61, 61, .rw, 0, []⟩, ⟨28, 18, .rw, 0, []⟩, ⟨17, 0, .rw, 0, []⟩]⟩,
  ⟨0x00600050, 8, 1, 1, [⟨63, 63, .ro, 0, []⟩, ⟨18, 0, .ro, 0, []⟩]⟩,
  ⟨0x00600058, 8, 1, 1, [⟨63, 63, .wo, 0, []⟩, ⟨28, 18, .rw, 0, []⟩, ⟨17, 0, .rw, 0, []⟩]⟩]

/-- The register rows of block ST_. -/
def regRowsST1 : List RegRow := [
  ⟨0x00600060, 8, 1, 1, [⟨2, 2, .w1c, 0, []⟩, ⟨1, 1, .w1c, 0, []⟩, ⟨0, 0, .w1c, 0, []⟩]⟩,
  ⟨0x00600068, 8, 1, 1, [⟨17, 0, .rw, 0, []⟩]⟩,
  ⟨0x00600070, 8, 1, 1, [⟨0, 0, .ro, 1, []⟩]⟩,
  ⟨0x00600078, 8, 4, 1, [⟨63, 0, .ro, 0, []⟩]⟩,
  ⟨0x00600100, 8, 12, 1, [⟨63, 0, .ro, 0, []⟩]⟩,
  ⟨0x00600208, 8, 13, 1, [⟨63, 0, .ro, 0, []⟩]⟩]

/-- The register rows of block CL_. -/
def regRowsCL0 : List RegRow := [
  ⟨0x00800000, 8, 1, 1, [⟨39, 32, .ro, 0, []⟩, ⟨15, 12, .ro, 0, []⟩, ⟨11, 8, .ro, 0, []⟩, ⟨7, 4, .ro, 0, []⟩, ⟨3, 0, .ro, 0, []⟩]⟩,
  ⟨0x00800008, 8, 1, 1, [⟨47, 32, .rw, 0x320, [(1, 65535)]⟩, ⟨3, 0, .rw, 0xF, []⟩]⟩,
  ⟨0x00800010, 8, 1, 1, [⟨3, 0, .w1c, 0, []⟩]⟩,
  ⟨0x00800018, 8, 1, 1, [⟨2, 0, .ro, 0, []⟩]⟩,
  ⟨0x00800020, 8, 1, 1, [⟨0, 0, .w1c, 0, []⟩]⟩,
  ⟨0x00800100, 8, 64, 1, [⟨63, 60, .ro, 0, []⟩, ⟨59, 59, .ro, 0, []⟩, ⟨58, 56, .ro, 0, []⟩, ⟨55, 40, .ro, 0, []⟩, ⟨31, 0, .ro, 0, []⟩]⟩,
  ⟨0x00800400, 16, 64, 1, [⟨63, 63, .rw, 0, []⟩, ⟨62, 51, .rw, 0, []⟩, ⟨50, 34, .rw, 0, []⟩]⟩,
  ⟨0x00800408, 16, 64, 1, [⟨63, 56, .rw, 0xFF, []⟩, ⟨49, 0, .rw, 0, []⟩]⟩,
  ⟨0x00800800, 8, 11, 1, [⟨63, 0, .ro, 0, []⟩]⟩,
  ⟨0x00801000, 32, 4, 1, [⟨63, 32, .ro, 0, []⟩, ⟨31, 16, .ro, 0, []⟩, ⟨15, 12, .ro, 0, []⟩, ⟨11, 0, .ro, 0, []⟩]⟩,
  ⟨0x00801008, 32, 4, 1, [⟨63, 0, .ro, 0, []⟩]⟩,
  ⟨0x00801010, 32, 4, 1, [⟨63, 0, .ro, 0, []⟩]⟩]

/-- The register rows of block CL_. -/
def regRowsCL1 : List RegRow := [
  ⟨0x00801018, 32, 4, 1, [⟨7, 0, .ro, 0, []⟩]⟩,
  ⟨0x00801100, 8, 4, 1, [⟨6, 6, .w1c, 0, []⟩, ⟨5, 5, .w1c, 0, []⟩, ⟨4, 4, .w1c, 0, []⟩, ⟨3, 3, .w1c, 0, []⟩, ⟨2, 2, .w1c, 0, []⟩, ⟨1, 1, .w1c, 0, []⟩, ⟨0, 0, .w1c, 0, []⟩]⟩,
  ⟨0x00801120, 8, 4, 1, [⟨63, 32, .ro, 0, []⟩, ⟨31, 0, .ro, 0, []⟩]⟩]

/-- The register rows of block MEM_. -/
def regRowsMEM0 : List RegRow := [
  ⟨0x00C00000, 8, 1, 1, [⟨63, 40, .ro, 0, []⟩, ⟨23, 16, .ro, 0, []⟩, ⟨15, 8, .ro, 0, []⟩]⟩,
  ⟨0x00C00008, 8, 1, 1, [⟨39, 32, .rw, 3, []⟩, ⟨31, 24, .rw, 0x69, []⟩, ⟨23, 16, .rw, 0x64, []⟩, ⟨15, 8, .rw, 0x5F, []⟩, ⟨7, 4, .rw, 2, [(0, 4)]⟩, ⟨3, 0, .rw, 3, [(0, 4)]⟩]⟩,
  ⟨0x00C00010, 8, 1, 1, [⟨16, 16, .rw, 1, []⟩, ⟨15, 0, .rw, 0x10, [(1, 65535)]⟩]⟩,
  ⟨0x00C00018, 8, 1, 1, [⟨15, 0, .rw, 0x40, [(1, 65535)]⟩]⟩,
  ⟨0x00C00020, 8, 1, 1, [⟨63, 63, .wo, 0, []⟩, ⟨62, 62, .wo, 0, []⟩, ⟨54, 48, .rw, 1, [(1, 113)]⟩, ⟨47, 24, .rw, 0xFFFFFF, []⟩, ⟨23, 0, .rw, 0, []⟩]⟩,
  ⟨0x00C00028, 8, 1, 1, [⟨63, 63, .ro, 0, []⟩, ⟨62, 62, .ro, 0, []⟩, ⟨61, 61, .ro, 0, []⟩, ⟨23, 0, .ro, 0, []⟩]⟩,
  ⟨0x00C00030, 8, 6, 1, [⟨63, 0, .ro, 0, []⟩]⟩,
  ⟨0x00C00060, 8, 1, 1, [⟨63, 63, .wo, 0, []⟩, ⟨62, 60, .rw, 0, [(0, 3)]⟩, ⟨59, 57, .rw, 0, []⟩, ⟨56, 51, .rw, 0, []⟩, ⟨50, 45, .rw, 0, []⟩, ⟨44, 31, .rw, 0, []⟩, ⟨23, 0, .rw, 0, []⟩]⟩,
  ⟨0x00C00068, 8, 1, 1, [⟨63, 63, .ro, 0, []⟩, ⟨47, 32, .ro, 0, []⟩, ⟨7, 0, .ro, 0, []⟩]⟩,
  ⟨0x00C00070, 8, 1, 1, [⟨2, 2, .w1c, 0, []⟩, ⟨1, 1, .w1c, 0, []⟩, ⟨0, 0, .w1c, 0, []⟩]⟩,
  ⟨0x00C10000, 256, 8, 1, [⟨63, 48, .ro, 0, []⟩, ⟨39, 38, .ro, 0, []⟩, ⟨37, 36, .ro, 0, []⟩, ⟨35, 35, .ro, 0, []⟩, ⟨34, 34, .ro, 0, []⟩]⟩,
  ⟨0x00C10008, 256, 8, 9, [⟨63, 0, .ro, 0, []⟩]⟩]

/-- The register rows of block MEM_. -/
def regRowsMEM1 : List RegRow := [
  ⟨0x00C20000, 8, 512, 1, [⟨63, 63, .w1c, 0, []⟩, ⟨62, 61, .ro, 0, []⟩, ⟨60, 60, .ro, 0, []⟩, ⟨59, 54, .ro, 0, []⟩, ⟨53, 48, .ro, 0, []⟩, ⟨47, 34, .ro, 0, []⟩, ⟨33, 29, .ro, 0, []⟩, ⟨28, 23, .ro, 0, []⟩, ⟨15, 0, .ro, 0, []⟩]⟩]

/-- The register rows of block LN_. -/
def regRowsLN0 : List RegRow := [
  ⟨0x01000000, 8, 1, 1, [⟨63, 55, .ro, 0, []⟩, ⟨4, 4, .ro, 0, []⟩, ⟨3, 0, .ro, 0, []⟩]⟩,
  ⟨0x01000008, 8, 1, 1, [⟨32, 32, .rw, 1, []⟩, ⟨31, 16, .rw, 0x4000, [(1, 65535)]⟩, ⟨15, 8, .rw, 0x14, [(1, 255)]⟩, ⟨3, 0, .rw, 8, [(1, 15)]⟩]⟩,
  ⟨0x01000010, 8, 1, 1, [⟨15, 8, .ro, 0, []⟩, ⟨2, 2, .w1c, 0, []⟩, ⟨1, 1, .w1c, 0, []⟩, ⟨0, 0, .w1c, 0, []⟩]⟩,
  ⟨0x01010000, 64, 256, 1, [⟨55, 52, .ro, 0, []⟩, ⟨51, 50, .ro, 0, []⟩, ⟨49, 46, .ro, 0, []⟩, ⟨45, 45, .ro, 0, []⟩, ⟨44, 42, .ro, 0, []⟩, ⟨41, 39, .ro, 0, []⟩, ⟨38, 30, .ro, 0, []⟩]⟩,
  ⟨0x01010008, 64, 256, 1, [⟨63, 63, .wo, 0, []⟩, ⟨3, 2, .rw, 0, [(0, 2)]⟩, ⟨0, 0, .rw, 0, []⟩]⟩,
  ⟨0x01010010, 64, 256, 1, [⟨63, 60, .ro, 0, []⟩, ⟨59, 56, .ro, 0, []⟩, ⟨55, 52, .ro, 0, []⟩, ⟨51, 49, .ro, 0, []⟩, ⟨48, 48, .ro, 0, []⟩, ⟨47, 47, .ro, 0, []⟩, ⟨46, 46, .ro, 0, []⟩, ⟨45, 44, .ro, 0, []⟩, ⟨43, 42, .ro, 0, []⟩, ⟨15, 0, .ro, 0, []⟩]⟩,
  ⟨0x01010018, 64, 256, 1, [⟨63, 0, .rw, 0, []⟩]⟩,
  ⟨0x01010020, 64, 256, 1, [⟨63, 0, .ro, 0, []⟩]⟩,
  ⟨0x01010028, 64, 256, 1, [⟨63, 0, .ro, 0, []⟩]⟩,
  ⟨0x01010030, 64, 256, 1, [⟨63, 0, .ro, 0, []⟩]⟩,
  ⟨0x01010038, 64, 256, 1, [⟨63, 32, .ro, 0, []⟩, ⟨31, 0, .ro, 0, []⟩]⟩,
  ⟨0x01020000, 64, 512, 1, [⟨63, 60, .ro, 0, []⟩, ⟨59, 56, .ro, 0, []⟩, ⟨55, 55, .ro, 0, []⟩, ⟨54, 47, .ro, 0, []⟩, ⟨46, 43, .ro, 0, []⟩, ⟨31, 24, .ro, 0, []⟩, ⟨23, 16, .ro, 0, []⟩]⟩]

/-- The register rows of block LN_. -/
def regRowsLN1 : List RegRow := [
  ⟨0x01020008, 64, 512, 1, [⟨63, 0, .ro, 0, []⟩]⟩,
  ⟨0x01020010, 64, 512, 1, [⟨47, 40, .ro, 0, []⟩, ⟨36, 32, .ro, 0, []⟩, ⟨31, 0, .ro, 0, []⟩]⟩,
  ⟨0x01020018, 64, 512, 1, [⟨37, 32, .ro, 0, []⟩, ⟨29, 24, .ro, 0, []⟩, ⟨21, 16, .ro, 0, []⟩, ⟨13, 8, .ro, 0, []⟩, ⟨5, 0, .ro, 0, []⟩]⟩,
  ⟨0x01020020, 64, 512, 1, [⟨63, 0, .ro, 0, []⟩]⟩]

/-- The register rows of block BT_. -/
def regRowsBT0 : List RegRow := [
  ⟨0x01800000, 8, 1, 1, [⟨63, 0, .ro, 0, []⟩]⟩,
  ⟨0x01800008, 8, 1, 1, [⟨63, 32, .ro, 0, []⟩, ⟨31, 24, .ro, 0, []⟩, ⟨23, 16, .ro, 0, []⟩, ⟨5, 5, .ro, 0, []⟩, ⟨4, 4, .ro, 0, []⟩, ⟨3, 3, .ro, 0, []⟩, ⟨1, 0, .ro, 0, []⟩]⟩,
  ⟨0x01800010, 8, 1, 1, [⟨15, 12, .rw, 5, [(0, 7)]⟩, ⟨11, 4, .rw, 0x0A, [(1, 10)]⟩, ⟨0, 0, .wo, 0, []⟩]⟩,
  ⟨0x01800018, 8, 1, 1, [⟨24, 24, .rw, 0, []⟩, ⟨23, 16, .rw, 0, []⟩, ⟨10, 8, .rw, 0, []⟩, ⟨7, 4, .rw, 0, []⟩, ⟨3, 0, .rw, 0, []⟩]⟩,
  ⟨0x01800020, 8, 1, 1, [⟨63, 0, .ro, 0, []⟩]⟩,
  ⟨0x01800028, 8, 1, 1, [⟨63, 0, .rw, 0, []⟩]⟩,
  ⟨0x01800030, 8, 1, 1, [⟨63, 0, .rw, 0xFFFFFFFFFFFFFFFF, []⟩]⟩,
  ⟨0x01800038, 8, 1, 1, [⟨63, 63, .ro, 0, []⟩, ⟨62, 60, .ro, 0, []⟩, ⟨47, 0, .ro, 0, []⟩]⟩,
  ⟨0x01800040, 8, 1, 1, [⟨63, 0, .ro, 0, []⟩]⟩,
  ⟨0x01800048, 8, 8, 1, [⟨63, 0, .ro, 0, []⟩]⟩,
  ⟨0x01800088, 8, 1, 1, [⟨63, 0, .ro, 0, []⟩]⟩,
  ⟨0x01800090, 8, 1, 1, [⟨63, 0, .w1c, 0, []⟩]⟩]

/-- The register rows of block BT_. -/
def regRowsBT1 : List RegRow := [
  ⟨0x01800098, 8, 1, 1, [⟨1, 1, .w1c, 0, []⟩, ⟨0, 0, .w1c, 0, []⟩]⟩,
  ⟨0x018000A0, 8, 1, 1, [⟨63, 0, .ro, 0, []⟩]⟩]

/-- The register rows of block MB_. -/
def regRowsMB0 : List RegRow := [
  ⟨0x01A10000, 8, 16, 1, [⟨63, 63, .rw, 0, []⟩, ⟨23, 0, .rw, 0, []⟩]⟩,
  ⟨0x01A10100, 32, 2, 1, [⟨63, 12, .rw, 0, []⟩]⟩,
  ⟨0x01A10108, 32, 2, 1, [⟨63, 63, .rw, 0, []⟩, ⟨3, 0, .rw, 4, [(4, 15)]⟩]⟩,
  ⟨0x01A10110, 32, 2, 1, [⟨15, 0, .rw, 0, []⟩]⟩,
  ⟨0x01A10118, 32, 2, 1, [⟨15, 0, .ro, 0, []⟩]⟩,
  ⟨0x01A10200, 8, 1, 1, [⟨63, 63, .ro, 0, []⟩, ⟨29, 24, .ro, 0, []⟩, ⟨21, 16, .ro, 0, []⟩, ⟨7, 4, .ro, 0xF, []⟩, ⟨3, 0, .ro, 0, []⟩]⟩,
  ⟨0x01A10208, 8, 1, 1, [⟨11, 8, .ro, 0, []⟩, ⟨3, 0, .ro, 0, []⟩]⟩,
  ⟨0x01A10210, 8, 1, 1, [⟨1, 1, .w1c, 0, []⟩, ⟨0, 0, .w1c, 0, []⟩]⟩,
  ⟨0x01A10218, 8, 1, 1, [⟨63, 0, .ro, 0, []⟩]⟩,
  ⟨0x01A10220, 8, 1, 1, [⟨63, 0, .ro, 0, []⟩]⟩]

/-- The rows of the CXL memory-device registers and the MSI-X structures (R427, R435, R436). PRESUMED: the layouts are those of CXL 3.1 and PCI
Express (log entry 116). -/
def regRowsMB1 : List RegRow := [
  ⟨0x01A00000, 8, 1, 1, [⟨47, 32, .ro, 3, []⟩, ⟨27, 24, .ro, 1, []⟩, ⟨23, 16, .ro, 1, []⟩]⟩,
  ⟨0x01A00010, 8, 1, 1, [⟨63, 32, .ro, 0x80, []⟩, ⟨23, 16, .ro, 2, []⟩, ⟨15, 0, .ro, 1, []⟩]⟩,
  ⟨0x01A00018, 8, 1, 1, [⟨31, 0, .ro, 8, []⟩]⟩,
  ⟨0x01A00020, 8, 1, 1, [⟨63, 32, .ro, 0x100, []⟩, ⟨23, 16, .ro, 1, []⟩, ⟨15, 0, .ro, 2, []⟩]⟩,
  ⟨0x01A00028, 8, 1, 1, [⟨31, 0, .ro, 0x4020, []⟩]⟩,
  ⟨0x01A00030, 8, 1, 1, [⟨63, 32, .ro, 0x88, []⟩, ⟨23, 16, .ro, 1, []⟩, ⟨15, 0, .ro, 0x4000, []⟩]⟩,
  ⟨0x01A00038, 8, 1, 1, [⟨31, 0, .ro, 8, []⟩]⟩,
  ⟨0x01A00088, 8, 1, 1, [⟨4, 4, .ro, 1, []⟩, ⟨3, 2, .ro, 1, []⟩]⟩,
  ⟨0x01A00100, 8, 1, 1, [⟨32, 32, .ro, 0, []⟩, ⟨6, 6, .ro, 1, []⟩, ⟨5, 5, .ro, 1, []⟩, ⟨4, 0, .ro, 14, []⟩]⟩,
  ⟨0x01A00110, 8, 1, 1, [⟨47, 32, .ro, 0, []⟩, ⟨0, 0, .ro, 0, []⟩]⟩,
  ⟨0x01A00118, 8, 1, 1, [⟨47, 32, .ro, 0, []⟩, ⟨22, 16, .ro, 0, []⟩, ⟨15, 0, .ro, 0, []⟩]⟩,
  ⟨0x01A20000, 16, 4, 1, [⟨63, 2, .rw, 0, []⟩]⟩,
  ⟨0x01A20008, 16, 4, 1, [⟨32, 32, .rw, 1, []⟩, ⟨31, 0, .rw, 0, []⟩]⟩,
  ⟨0x01A21000, 8, 1, 1, [⟨3, 0, .ro, 0, []⟩]⟩]

/-- The register rows of block PH_. -/
def regRowsPH0 : List RegRow := [
  ⟨0x01C00000, 8, 1, 1, [⟨63, 48, .ro, 0, []⟩, ⟨47, 32, .ro, 0, []⟩, ⟨31, 16, .ro, 0, []⟩]⟩,
  ⟨0x01C00008, 8, 1, 1, [⟨5, 5, .rs, 0, []⟩, ⟨4, 4, .rs, 0, []⟩, ⟨3, 3, .rs, 0, []⟩, ⟨2, 2, .rs, 0, []⟩, ⟨1, 1, .rs, 0, []⟩, ⟨0, 0, .rs, 0, []⟩]⟩,
  ⟨0x01C00010, 8, 1, 1, [⟨0, 0, .wo, 0, []⟩]⟩,
  ⟨0x01C00018, 8, 1, 1, [⟨17, 16, .ro, 0, []⟩, ⟨1, 0, .rw, 0, []⟩]⟩,
  ⟨0x01C00020, 8, 1, 1, [⟨18, 16, .ro, 7, []⟩, ⟨8, 8, .ro, 0, []⟩, ⟨2, 0, .rw, 7, [(4, 7)]⟩]⟩,
  ⟨0x01C00028, 8, 1, 1, [⟨63, 48, .ro, 0, []⟩, ⟨47, 32, .ro, 0, []⟩, ⟨31, 16, .ro, 0, []⟩]⟩,
  ⟨0x01C00030, 8, 1, 1, [⟨63, 0, .ro, 0, []⟩]⟩,
  ⟨0x01C00100, 8, 22, 1, [⟨63, 48, .ro, 0, []⟩, ⟨42, 40, .ro, 0, []⟩, ⟨15, 0, .ro, 0, []⟩]⟩,
  ⟨0x01C00200, 8, 12, 1, [⟨63, 32, .ro, 0, []⟩, ⟨31, 0, .ro, 0, []⟩]⟩,
  ⟨0x01C80000, 8, 1, 1, [⟨63, 48, .ro, 0xFFFF, []⟩, ⟨39, 32, .ro, 0, []⟩, ⟨31, 24, .ro, 0, []⟩, ⟨23, 16, .ro, 0, []⟩, ⟨15, 8, .ro, 0, []⟩, ⟨7, 0, .ro, 0, []⟩]⟩,
  ⟨0x01C80008, 8, 1, 1, [⟨63, 48, .rw, 0x12C, [(1, 65535)]⟩, ⟨47, 40, .rw, 0x32, [(1, 255)]⟩, ⟨39, 24, .rw, 0x400, [(1, 65535)]⟩, ⟨16, 16, .rw, 1, []⟩, ⟨15, 8, .rw, 0x10, []⟩, ⟨7, 0, .rw, 0xC0, []⟩]⟩,
  ⟨0x01C80100, 8, 64, 1, [⟨19, 0, .ro, 0, []⟩]⟩]

/-- The register rows of block PH_. -/
def regRowsPH1 : List RegRow := [
  ⟨0x01C80300, 8, 24, 1, [⟨63, 0, .ro, 0, []⟩]⟩,
  ⟨0x01C80400, 8, 1, 1, [⟨63, 63, .wo, 0, []⟩, ⟨62, 62, .wo, 0, []⟩]⟩,
  ⟨0x01C80408, 8, 1, 1, [⟨63, 0, .rw, 0, []⟩]⟩,
  ⟨0x01C80410, 8, 1, 1, [⟨27, 27, .rw, 0, []⟩, ⟨26, 16, .rw, 0, []⟩, ⟨11, 11, .rw, 0, []⟩, ⟨10, 0, .rw, 0, []⟩]⟩,
  ⟨0x01C80418, 8, 1, 1, [⟨63, 32, .ro, 0, []⟩, ⟨31, 28, .ro, 0, []⟩, ⟨23, 20, .ro, 0, []⟩, ⟨19, 19, .ro, 0, []⟩, ⟨18, 18, .ro, 0, []⟩, ⟨17, 17, .ro, 0, []⟩]⟩,
  ⟨0x01C80420, 8, 1, 1, [⟨63, 0, .ro, 0, []⟩]⟩,
  ⟨0x01C80428, 8, 1, 1, [⟨63, 0, .ro, 0, []⟩]⟩,
  ⟨0x01C80430, 8, 8, 1, [⟨63, 0, .ro, 0, []⟩]⟩,
  ⟨0x01C80480, 8, 1, 1, [⟨63, 63, .wo, 0, []⟩, ⟨10, 0, .rw, 0, []⟩]⟩,
  ⟨0x01C80488, 8, 1, 1, [⟨63, 63, .ro, 0, []⟩, ⟨55, 48, .ro, 0, []⟩, ⟨18, 0, .ro, 0, []⟩]⟩,
  ⟨0x01C80490, 8, 1, 1, [⟨63, 63, .wo, 0, []⟩, ⟨25, 25, .rw, 1, []⟩, ⟨24, 24, .rw, 0, []⟩, ⟨23, 0, .rw, 0, []⟩]⟩,
  ⟨0x01C80498, 8, 1, 1, [⟨63, 63, .ro, 0, []⟩, ⟨47, 24, .ro, 0, []⟩, ⟨23, 0, .ro, 0, []⟩]⟩]

/-- The register rows of block PH_. -/
def regRowsPH2 : List RegRow := [
  ⟨0x01C804A8, 8, 1, 1, [⟨3, 3, .w1c, 0, []⟩, ⟨2, 2, .w1c, 0, []⟩, ⟨1, 1, .w1c, 0, []⟩, ⟨0, 0, .w1c, 0, []⟩]⟩]

/-- Every register row of BAR0; a cluster's rows stand once, at cluster 0. -/
def regRows : List RegRow := regRowsDV0 ++ regRowsWATCH0 ++ regRowsSW0 ++ regRowsSW1 ++ regRowsSW2 ++ regRowsSW3 ++ regRowsTL0 ++ regRowsST0 ++ regRowsST1 ++ regRowsCL0 ++ regRowsCL1 ++ regRowsMEM0 ++ regRowsMEM1 ++ regRowsLN0 ++ regRowsLN1 ++ regRowsBT0 ++ regRowsBT1 ++ regRowsMB0 ++ regRowsMB1 ++ regRowsPH0 ++ regRowsPH1 ++ regRowsPH2

/-- An offset of cluster 1 to 5 taken to the same register of cluster 0 (R27). -/
def regHome (off : Nat) : Nat :=
  if 0x00880000 ≤ off ∧ off < 0x00B00000 then 0x00800000 + (off - 0x00800000) % 0x80000 else off

/-- Whether an offset is a word of a row. -/
def RegRow.has (r : RegRow) (off : Nat) : Bool :=
  decide (r.base ≤ off) && decide ((off - r.base) / r.stride < r.count) &&
  decide ((off - r.base) % r.stride < 8 * r.words) && decide ((off - r.base) % r.stride % 8 = 0)

/-- The row of the register at an offset; none at a reserved or unassigned offset (R28). -/
def regRow? (off : Nat) : Option RegRow := regRows.find? (fun r => r.has (regHome off))

/-- A field's value in its place in a word. -/
def placed (v hi lo : Nat) : Word := BitVec.ofNat 64 (v % 2 ^ (hi + 1 - lo) * 2 ^ lo)

/-- LN_PORTp word 0 under the reference lane map (R24, R363); see log entry 7. -/
def refPortWord (p : Nat) : Word :=
  if p < 64 then placed 1 55 52 ||| placed 2 44 42 ||| placed (128 * (p / 16) + 4 * (p % 16)) 38 30
  else if p < 88 then
    let b := (p - 64) / 4
    let j := (p - 64) % 4
    let tile := b / 3 + (if j < 2 then 0 else 2)
    let lane := 128 * tile + 64 + 20 * (b % 3) + (if j % 2 = 0 then 0 else 16)
    placed 2 55 52 ||| placed (if j % 2 = 0 then 4 else 2) 44 42 ||| placed lane 38 30
  else if p < 92 then
    placed 3 55 52 ||| placed 2 44 42 ||| placed 2 41 39 ||| placed (128 * (p - 88) + 124) 38 30
  else 0

/-- The limit of mode `m` for a block, in W (R461). -/
def capLimit (m b : Nat) : Nat :=
  if b < 6 then [160, 130, 100, 70].getD m 160 else if b < 14 then [60, 55, 50, 40].getD m 60 else 0xFFFF

/-- What the register at an offset reads after reset (R11); log entries 7, 8 and 9 name the values the spec does not state. -/
def regReset (off : Nat) : Word :=
  match regRow? off with
  | none => 0
  | some r =>
    if r.base = 0x01010000 then refPortWord ((off - r.base) / r.stride)
    else if r.base = 0x01010008 then (if refPortWord ((off - r.base) / r.stride) = 0 then 0 else 1)
    else if r.base = 0x01C00100 then placed (capLimit 0 ((off - r.base) / r.stride)) 63 48
    else r.fields.foldl (fun a f => a ||| placed f.reset f.hi f.lo) 0

/-- The bits of the register at an offset that software clears by writing 1 (R11). -/
def clearBits (off : Nat) : Word :=
  match regRow? off with
  | none => 0
  | some r => r.fields.foldl (fun a f => if f.acc = .w1c ∨ f.acc = .rs then a ||| placed (2 ^ (f.hi + 1 - f.lo) - 1) f.hi f.lo else a) 0

end Sys2Proof.Machine
end

