-- ==== Sys2Proof/Machine/Ops.lean ====
section
/-! DEFINITION. The operations every meaning stands on: reading and writing registers and fields, counters, phases,
time, the choice counter (R57, R58) and the record of what the block sends. -/

namespace Sys2Proof.Machine

/-- The register at an offset of BAR0. -/
def State.reg (s : State) (off : Nat) : Word := sparseGet (regReset off) s.regs off

/-- Number of the switch cycle that a tick of the free-running count lies in: 32 ticks hold five (R8, R36; log entry 124). -/
def switchCycle (tick : Nat) : Nat := tick * 5 / 32

/-- The tick by which the first edge of the switch clock at or after a tick has come (R53). -/
def scEdge (t : Nat) : Nat := t / 32 * 32 + ceilDiv (32 * ceilDiv (5 * (t % 32)) 32) 5

/-- A tick that the last forced step skipped (R46). -/
def State.skippedTick (s : State) (t : Nat) : Bool := match s.bell.skipped with
  | some (a, b) => decide (a < t ∧ t < b)
  | none => false

/-- The W1C bits of a register that hardware has set in the present switch cycle (R13). -/
def State.roseAt (s : State) (off : Nat) : Word :=
  if s.rose.1 = switchCycle s.bell.free then sparseGet 0 s.rose.2 off else 0

/-- The record of R13 with bits of a register that are set now. -/
def State.noteRise (s : State) (off : Nat) (bits : Word) : Nat × List (Nat × Word) :=
  if bits = 0 then s.rose
  else if bits &&& clearBits off = 0 then s.rose
  else
    let kept := if s.rose.1 = switchCycle s.bell.free then s.rose.2 else []
    (switchCycle s.bell.free, sparseSet 0 kept off (sparseGet 0 kept off ||| (bits &&& clearBits off)))

/-- W1C bits of a register that hardware sets now are noted (R13). -/
def State.noteSet (s : State) (off : Nat) (bits : Word) : State := { s with rose := s.noteRise off bits }

/-- The state with the register at an offset set; the W1C bits that rise are noted (R13). -/
def State.setReg (s : State) (off : Nat) (v : Word) : State :=
  { s with regs := sparseSet (regReset off) s.regs off v, rose := s.noteRise off (v &&& ~~~(s.reg off)) }

/-- A word with bits hi:lo replaced. -/
def putFld (w : Word) (hi lo v : Nat) : Word :=
  (w &&& ~~~(placed (2 ^ (hi + 1 - lo) - 1) hi lo)) ||| placed v hi lo

/-- A field's value. -/
def State.fld (s : State) (f : Fld) : Nat := bitsOf (s.reg f.off).toNat f.hi f.lo

/-- A one-bit field. -/
def State.flag (s : State) (f : Fld) : Bool := s.fld f != 0

/-- The state with a field set. -/
def State.setFld (s : State) (f : Fld) (v : Nat) : State := s.setReg f.off (putFld (s.reg f.off) f.hi f.lo v)

/-- A one-bit field set to 1; a W1C bit that is 1 already is set again (R13). -/
def State.raise (s : State) (f : Fld) : State := (s.setFld f 1).noteSet f.off (placed 1 f.hi f.lo)

/-- A 64-bit counter raised by 1. -/
def State.count (s : State) (off : Nat) : State := s.setReg off (s.reg off + 1)

/-- A 64-bit counter raised by `n`. -/
def State.countBy (s : State) (off n : Nat) : State := s.setReg off (s.reg off + BitVec.ofNat 64 n)

/-- Bit `i` of a register as a flag. -/
def State.regBit (s : State) (off i : Nat) : Bool := (s.reg off).toNat.testBit i

/-- Bit `i` of a register set to `b`; a W1C bit that is 1 already is set again (R13). -/
def State.setRegBit (s : State) (off i : Nat) (b : Bool) : State :=
  (s.setReg off (BitVec.ofNat 64 (putBitOf (s.reg off).toNat i b))).noteSet off (if b then BitVec.ofNat 64 (2 ^ i) else 0)

/-- The service phase (R29). -/
def State.phase (s : State) : Nat := s.fld DV_STATE_PHASE

/-- The module has stopped serving: a fault of class FATAL_RESET, or of the gravest class, which includes its effects (R396, R398). -/
def State.halted (s : State) : Bool := s.phase == 7 || s.phase == 8

/-- Ticks of the free-running count (R41), on which the model's timers run. -/
def State.free (s : State) : Nat := s.bell.free

/-- Bell time (R37). -/
def State.now (s : State) : Nat := s.bell.now

/-- Whether bell time has been set (R45). -/
def State.bellSet (s : State) : Bool := s.flag BT_STATUS_SET

/-- Whether a tick may be armed: bell time is set and the tick lies at least 8,000 ticks ahead (R47, R55). -/
def State.tickAhead (s : State) (tick : Nat) : Bool := s.bellSet && decide (s.now + 8000 ≤ tick)

/-- The state with the record of what is sent changed. -/
def State.modOut (s : State) (f : Output → Output) : State := { s with out := f s.out }

/-- The state with the power input changed. -/
def State.modPower (s : State) (f : Power → Power) : State := { s with power := f s.power }

/-- The state with the bell-time unit changed. -/
def State.modBell (s : State) (f : BellUnit → BellUnit) : State := { s with bell := f s.bell }

/-- The state with the watch's queue changed. -/
def State.modWatch (s : State) (f : WatchQ → WatchQ) : State := { s with watch := f s.watch }

/-- The state with the switch changed. -/
def State.modSw (s : State) (f : Switch → Switch) : State := { s with sw := f s.sw }

/-- The state with the tally block changed. -/
def State.modTally (s : State) (f : Tally → Tally) : State := { s with tally := f s.tally }

/-- The state with the memory unit changed. -/
def State.modMem (s : State) (f : MemUnit → MemUnit) : State := { s with mem := f s.mem }

/-- The state with the stays unit changed. -/
def State.modStays (s : State) (f : StayUnit → StayUnit) : State := { s with stays := f s.stays }

/-- The state with the clusters changed. -/
def State.modClusters (s : State) (f : Clusters → Clusters) : State := { s with clusters := f s.clusters }

/-- The state with the health and stopover block changed. -/
def State.modHealth (s : State) (f : Health → Health) : State := { s with health := f s.health }

/-- The state with the host unit changed. -/
def State.modHost (s : State) (f : HostUnit → HostUnit) : State := { s with host := f s.host }

/-- The state with the free-value counter advanced by `n`; the free values taken are named by its old value and those after it (log
entry 2). -/
def State.skipFree (s : State) (n : Nat) : State := { s with freeCtr := s.freeCtr + n }

/-- An MSI-X message of a vector (R435), sent while the CXL link is up; a vector that the table masks sets its pending bit instead (log
entry 116). -/
def State.msix (s : State) (v : Nat) : State :=
  if s.flag MB_LINK_STATUS_RATE then
    s.modOut (fun o => if s.flag (MSIX_CTL_MASK v) then { o with pba := o.pba.filter (· != v) ++ [v] } else { o with msix := o.msix ++ [v] })
  else s

/-- The record of what was sent as a reset leaves it: no vector pends and the mailbox is idle (R428). -/
def Output.idle (o : Output) : Output := { o with pba := [], mbCode := 0 }

/-- PHASE moves to a new value (R29, R30) and vector 3 is signalled (R435). -/
def State.setPhase (s : State) (p : Nat) : State :=
  if s.phase = p then s else
    ((s.setFld DV_STATE_PHASE p).modPower (fun w => { w with phaseAt := s.free })).msix 3

/-- The module's own coordinate (R102). -/
def State.coord (s : State) : Nat := s.fld DV_COORD_COORD

/-- Ticks in a microsecond (R8). -/
def ticksPerUs : Nat := 8000

/-- One count of the choice counter (R57) while its tick lies in the window (R58); every count saturates. -/
def State.countChoice (s : State) (kind : Nat) : State :=
  if (s.reg BT_RUN_START).toNat ≤ s.now ∧ s.now < (s.reg BT_RUN_END).toNat then
    let s1 := if s.flag BT_CHOICE_ANY then s
      else ((s.raise BT_CHOICE_ANY).setFld BT_CHOICE_FIRST_KIND kind).setReg BT_CHOICE_FIRST (BitVec.ofNat 64 s.now)
    let s2 := s1.setFld BT_CHOICE_TOTAL (satBits 48 (s1.fld BT_CHOICE_TOTAL + 1))
    s2.setReg (BT_CHOICE_KIND kind) (BitVec.ofNat 64 (satBits 64 ((s2.reg (BT_CHOICE_KIND kind)).toNat + 1)))
  else s

/-- The window armed in BT_RUN_START is due (R58). -/
def State.windowDue (s : State) : Bool := s.windowArmed && s.bellSet && decide ((s.reg BT_RUN_START).toNat ≤ s.now)

/-- The window opens (R58): the counts are cleared, and kind 6 counts when the state is not LOCKED. -/
def State.openWindow (s : State) : State :=
  let s1 := (s.setReg BT_CHOICE 0).setReg BT_CHOICE_FIRST 0
  let s2 := (List.range 8).foldl (fun s k => s.setReg (BT_CHOICE_KIND k) 0) s1
  let s3 : State := { s2 with windowArmed := false }
  if s3.fld BT_STATUS_LOCK = 1 then s3 else s3.countChoice 6

/-- One event of the choice counter (R57). A window that is due opens first, so that an event of its opening tick counts in it (R56). -/
def State.choice (s : State) (kind : Nat) : State := (if s.windowDue then s.openWindow else s).countChoice kind

/-- A frame recorded as sent on a port. -/
def State.sentFrame (s : State) (port : Nat) (f : Frame) (spoiled : Bool) : State :=
  s.modOut (fun o => { o with frames := o.frames ++ [(port, f, spoiled)] })

/-- An Ethernet frame recorded as sent on a port. -/
def State.sentEth (s : State) (port : Nat) (b : List Byte) (spoiled : Bool) : State :=
  s.modOut (fun o => { o with eth := o.eth ++ [(port, b, spoiled)] })

/-- The 64 bytes of a control block (R368). -/
def CtrlBlock.bytes : CtrlBlock → List Byte
  | .status credits detour ackSeq => padTo 64 ([1, 0] ++ credits.flatMap (natLE 2) ++ natLE 2 detour ++ natLE 2 ackSeq)
  | .replayReq seq slot => padTo 64 ([2] ++ natLE 2 seq ++ natLE 1 slot)
  | .replayStart seq => padTo 64 ([3] ++ natLE 2 seq)
  | .spoil crc => padTo 64 ([4] ++ natLE 4 crc)
  | .lane op mask power tick => padTo 64 ([5] ++ natLE 1 op ++ natLE 2 mask ++ natLE 1 power ++ natLE 8 tick)

/-- A control block recorded as sent on a port. -/
def State.sentCtrl (s : State) (port : Nat) (c : CtrlBlock) : State :=
  s.modOut (fun o => { o with ctrl := o.ctrl ++ [(port, c.bytes)] })

/-- An MCTP message recorded as sent to the steward. -/
def State.sentMctp (s : State) (b : List Byte) : State := s.modOut (fun o => { o with mctp := o.mctp ++ [b] })

/-- A vendor MCTP response: the command code, the completion code, the rest (R66). -/
def State.mctpReply (s : State) (cmd code : Nat) (rest : List Byte) : State :=
  s.sentMctp (BitVec.ofNat 8 cmd :: BitVec.ofNat 8 code :: rest)

/-- The state with the free-value counter advanced by one. -/
def State.nextFree (s : State) : State := s.skipFree 1

/-- A port's control state. -/
def State.port (s : State) (p : Nat) : PortCtl := sparseGet default s.lanes p

/-- The state with a port's control state changed. -/
def State.modPort (s : State) (p : Nat) (f : PortCtl → PortCtl) : State :=
  { s with lanes := sparseSet default s.lanes p (f (s.port p)) }

/-- The kind of a port (R362): 0 unused, 1 endpoint, 2 trunk, 3 uplink, 4 open trunk. -/
def State.portKind (s : State) (p : Nat) : Nat := if p < 256 then s.fld (LN_PORT_W0_KIND p) else 0

/-- A port is up (R389). -/
def State.portUp (s : State) (p : Nat) : Bool := decide (p < 256) && s.fld (LN_PORT_W2_STATE p) == 2

/-- The tile on which a port's lanes lie (R360). -/
def State.tileOf (s : State) (p : Nat) : Nat := s.fld (LN_PORT_W0_FIRST_LANE p) / 128

/-- Island `i` is out of muster (R51, R394). -/
def State.islandOut (s : State) (i : Nat) : Bool := s.regBit BT_MUSTER_OUT i

/-- Lanes of a port's formed width (R364). -/
def State.portLanes (s : State) (p : Nat) : Nat := 2 ^ s.fld (LN_PORT_W2_WIDTH p)

/-- Data rate of a lane of a port, in bits per 1,000 ticks: 200 Gb/s, 100 Gb/s under version 1 (R133, R361), and the
nominal rate of its row of R359 on an Ethernet port, as configured or negotiated (R360). -/
def State.laneRate (s : State) (p : Nat) : Nat :=
  if s.portKind p = 3 then [25000, 12500, 6250, 3125, 1250].getD ((s.port p).ethRow.getD (s.fld (LN_PORT_W0_ETH_TYPE p))) 25000
  else if s.flag (LN_PORT_W2_V1 p) then 12500 else 25000

/-- Bits per 1,000 ticks of a port. -/
def State.portRate (s : State) (p : Nat) : Nat := s.portLanes p * s.laneRate p

/-- Header, payload and seal bytes of a frame (R80). -/
def frameBytes (f : Frame) : Nat := f.payload.length + 36

/-- Buffer cells a frame occupies (R115). -/
def frameCells (f : Frame) : Nat := ceilDiv (frameBytes f) 256

/-- Ticks that `b` bytes take on a port (R135). -/
def State.serialTicks (s : State) (p b : Nat) : Nat := ceilDiv (b * 8 * 1000) (s.portRate p)

/-- Whether a number is a listed KIND of R74. -/
def kindListed (k : Nat) : Bool :=
  [0x01, 0x02, 0x03, 0x08, 0x09, 0x0F, 0x10, 0x18, 0x19, 0x60, 0x70, 0x71, 0x72].contains k ||
  (decide (0x1A ≤ k) && decide (k ≤ 0x5F))

/-- R145. -/
def SW_DROP_POLICE : Nat := SW_DROP 0

/-- R145. -/
def SW_DROP_RED_G : Nat := SW_DROP 1

/-- R145. -/
def SW_DROP_RED_Y : Nat := SW_DROP 2

/-- R145. -/
def SW_DROP_QMAX : Nat := SW_DROP 3

/-- R145. -/
def SW_DROP_SAC_Y : Nat := SW_DROP 4

/-- R145. -/
def SW_DROP_SAC_G : Nat := SW_DROP 5

/-- R145. -/
def SW_DROP_NOBUF : Nat := SW_DROP 6

/-- R145. -/
def SW_DROP_SEAL : Nat := SW_DROP 7

/-- R145. -/
def SW_DROP_BUF_UE : Nat := SW_DROP 8

/-- R145. -/
def SW_SPOIL_TX : Nat := SW_DROP 9

/-- R145. -/
def SW_SPOIL_RX : Nat := SW_DROP 10

/-- R145. -/
def SW_DROP_MCAST : Nat := SW_DROP 11

/-- R145. -/
def SW_DROP_ETH : Nat := SW_DROP 12

end Sys2Proof.Machine
end

