-- ==== Sys2Proof/Machine/Pool.lean ====
section
/-! DEFINITION. The buffer pool manager of the packet buffer (R117 to R124, R473). Owners 0 to 4,095 are the port
owners 16 p + 2 c + s, owner 4,096 + m is owner m of R119. -/

namespace Sys2Proof.Machine

/-- Owner of an agent's class (R119). -/
def agentOwner (a c : Nat) : Nat := 4096 + 8 * a + c

/-- The detour store's owner (R119). -/
def detourOwner : Nat := 4096 + 104

/-- Owner of a port's class and sub-class (R118), by the 3 and 1 bits of the two. -/
def portOwner (p c sub : Nat) : Nat := 16 * p + 2 * (c % 8) + sub % 2

/-- The settings register of an owner. -/
def ownerReg (o : Nat) : Nat :=
  if o < 4096 then SW_OWNER o else if o = detourOwner then SW_DETOUR_OWNER else SW_AGENT_OWNER (o - 4096)

/-- The state register of an owner, the detour store's being the last. -/
def ownerStat (o : Nat) : Nat := if o < 4096 then SW_OWNER_STAT o else SW_AGENT_STAT (min (o - 4096) 104)

/-- MIN of an owner (R118). -/
def State.ownerMin (s : State) (o : Nat) : Nat := s.fld ⟨ownerReg o, 19, 0⟩

/-- MAX of an owner. -/
def State.ownerMax (s : State) (o : Nat) : Nat := s.fld ⟨ownerReg o, 39, 20⟩

/-- ALPHA of an owner. -/
def State.ownerAlpha (s : State) (o : Nat) : Nat := s.fld ⟨ownerReg o, 42, 40⟩

/-- USED of an owner. -/
def State.ownerUsed (s : State) (o : Nat) : Nat := s.fld ⟨ownerStat o, 19, 0⟩

/-- HELD of an owner (R120). -/
def State.ownerHeld (s : State) (o : Nat) : Nat := s.fld ⟨ownerStat o, 39, 20⟩

/-- CLAIMED = USED + HELD (R120). -/
def State.ownerClaimed (s : State) (o : Nat) : Nat := s.ownerUsed o + s.ownerHeld o

/-- Class of an owner. -/
def ownerClass (o : Nat) : Nat := if o < 4096 then o / 2 % 8 else if o = detourOwner then 2 else (o - 4096) % 8

/-- A bank of a pool of `size` buffers can yield one (R117, R124): it has not stopped yielding, and its list is not empty. -/
def Vacancy.yields (v : Vacancy) (size : Nat) (down : List Nat) (b : Nat) : Bool :=
  !down.contains b && (!(v.freed.getD b []).isEmpty || decide (64 * v.fresh.getD b 0 + b < size))

/-- The head of a bank's list, taken off it (R117). -/
def Vacancy.yield (v : Vacancy) (b : Nat) : Nat × Vacancy :=
  match v.freed.getD b [] with
  | x :: _ => (x, { v with freed := modifyAt List.tail b v.freed, next := (b + 1) % 64 })
  | [] => (64 * v.fresh.getD b 0 + b, { v with fresh := modifyAt (· + 1) b v.fresh, next := (b + 1) % 64 })

/-- Buffers taken from the banks in rotating order, passing over those that cannot yield (R117): their numbers, and what is left. -/
def Vacancy.take (size : Nat) (down : List Nat) : Nat → Vacancy → List Nat × Vacancy
  | 0, v => ([], v)
  | n + 1, v => match ((List.range 64).map (fun i => (v.next + i) % 64)).find? (v.yields size down) with
    | none => ([], v)
    | some b =>
      let x := v.yield b
      let r := Vacancy.take size down n x.2
      (x.1 :: r.1, r.2)

/-- Buffers given back, each to its own bank (R117). DESIGN CHOICE: at the head of its bank's list (log entry 162). -/
def Vacancy.giveBack (v : Vacancy) (xs : List Nat) : Vacancy :=
  xs.foldl (fun v x => { v with freed := modifyAt (fun l => x :: l) (x % 64) v.freed }) v

/-- Free buffers of the banks that yield. -/
def Vacancy.available (v : Vacancy) (size : Nat) (down : List Nat) : Nat :=
  ((List.range 64).filter (fun b => !down.contains b)).foldl (fun n b =>
    n + (v.freed.getD b []).length + ((size + 63 - b) / 64 - v.fresh.getD b 0)) 0

/-- SW_POOL_STATUS follows the signed count: below zero it reads 0 (R473). -/
def State.showPool (s : State) : State := s.setFld SW_POOL_STATUS_SHARED_FREE s.sw.sharedFree.toNat

/-- The pool's counts after an owner's CLAIMED goes from `c` to `c'`: only what lies above MIN is shared (R118). -/
def State.moveShared (s : State) (o c c' : Nat) : State :=
  let m := s.ownerMin o
  (s.modSw (fun w => { w with sharedFree := w.sharedFree + (max m c : Nat) - (max m c' : Nat),
                              claimed := w.claimed + c' - c })).showPool

/-- Ceiling on an owner's shared cells (R118): stage 4 takes it from VC0 owners. -/
def State.shareLimit (s : State) (o : Nat) : Nat :=
  if ownerClass o = 0 ∧ s.fld SW_POOL_STATUS_STAGE = 4 then 0
  else min (s.ownerMax o - s.ownerMin o) (s.sw.sharedFree.toNat * 2 ^ s.ownerAlpha o / 16)

/-- Whether a claim of `k` cells for owner `o` is granted (R118, R473); a bank that has stopped yielding gives none (R124). -/
def State.claimOk (s : State) (o k : Nat) : Bool :=
  let need := k - min k (s.ownerMin o - s.ownerClaimed o)
  let sharedHeld := s.ownerClaimed o - s.ownerMin o
  (decide (need = 0) || (decide (sharedHeld + need ≤ s.shareLimit o) && decide ((need : Int) ≤ s.sw.sharedFree))) &&
  decide (s.sw.claimed + k ≤ 524288) && s.sw.threaded &&
  (s.sw.banksDown.isEmpty || decide (k ≤ s.sw.vac.available 524288 s.sw.banksDown))

/-- `k` cells taken off the vacancy lists, in hand (R117). -/
def State.yieldCells (s : State) (k : Nat) : State :=
  s.modSw (fun w => { w with
    hand := (Vacancy.take 524288 w.banksDown k w.vac).1, vac := (Vacancy.take 524288 w.banksDown k w.vac).2 })

/-- USED raised by `k` new cells of an owner, which are in hand for the frame that fills them. -/
def State.takeCells (s : State) (o k : Nat) : State :=
  let c := s.ownerClaimed o
  ((s.setFld ⟨ownerStat o, 19, 0⟩ (s.ownerUsed o + k)).moveShared o c (c + k)).yieldCells k

/-- HELD raised by `k` cells claimed for credit (R120). -/
def State.holdCells (s : State) (o k : Nat) : State :=
  let c := s.ownerClaimed o
  (((s.setFld ⟨ownerStat o, 39, 20⟩ (s.ownerHeld o + k)).moveShared o c (c + k)).yieldCells k).modSw (fun w => { w with
    heldCells := sparseSet [] w.heldCells o (sparseGet [] w.heldCells o ++ w.hand), hand := [] })

/-- `k` cells of HELD filled by a frame that arrives with credit (R120). -/
def State.fillCells (s : State) (o k : Nat) : State :=
  ((s.setFld ⟨ownerStat o, 39, 20⟩ (s.ownerHeld o - k)).setFld ⟨ownerStat o, 19, 0⟩ (s.ownerUsed o + k)).modSw (fun w => { w with
    hand := (sparseGet [] w.heldCells o).take k, heldCells := sparseSet [] w.heldCells o ((sparseGet [] w.heldCells o).drop k) })

/-- `k` used cells of an owner freed: to its reservation while CLAIMED is below MIN, else shared (R118); `chain` goes back to its banks' lists
(R117). -/
def State.freeCells (s : State) (o k : Nat) (chain : List Nat) : State :=
  let c := s.ownerClaimed o
  ((s.setFld ⟨ownerStat o, 19, 0⟩ (s.ownerUsed o - k)).moveShared o c (c - k)).modSw (fun w => { w with vac := w.vac.giveBack chain })

/-- An owner's HELD returned to the pool (R121). -/
def State.dropHeld (s : State) (o : Nat) : State :=
  let c := s.ownerClaimed o
  let h := s.ownerHeld o
  ((s.setFld ⟨ownerStat o, 39, 20⟩ 0).moveShared o c (c - h)).modSw (fun w => { w with
    vac := w.vac.giveBack (sparseGet [] w.heldCells o), heldCells := sparseErase w.heldCells o })

/-- Credit for a frame refused at ingress (R108): its cells stay HELD and the credits are advertised again at once. -/
def State.returnCredit (s : State) (o k : Nat) : State :=
  s.modSw (fun w => { w with rxCum := sparseSet 0 w.rxCum o ((sparseGet 0 w.rxCum o + k) % 65536) })

end Sys2Proof.Machine
end

