-- ==== Sys2Proof/Machine/Gates.lean ====
section
/-! DEFINITION. Curfew lists and the start check (R100, R134, R135), shapers (R133). -/

namespace Sys2Proof.Machine

/-- Entry `i` of a bank of a port; index 1,024 is the parameter word (R134). -/
def State.curfewWord (s : State) (p bank i : Nat) : Nat := (sparseGet 0 s.sw.curfew (2048 * (2 * p + bank) + i)).toNat

/-- CYCLE of a bank. -/
def State.curfewCycle (s : State) (p bank : Nat) : Nat := bitsOf (s.curfewWord p bank 1024) 63 32

/-- GUARD of a bank. -/
def State.curfewGuard (s : State) (p bank : Nat) : Nat := bitsOf (s.curfewWord p bank 1024) 21 12

/-- LENGTH of a bank. -/
def State.curfewLength (s : State) (p bank : Nat) : Nat := bitsOf (s.curfewWord p bank 1024) 10 0

/-- The entry that runs at an offset of the cycle: entries in order; the last one holds to the cycle's end (R134). -/
def entryAt : List Nat → Nat → Nat → Nat
  | [], i, _ => i
  | [_], i, _ => i
  | e :: es, i, off => if off < bitsOf e 39 8 then i else entryAt es (i + 1) (off - bitsOf e 39 8)

/-- The entries of a bank in use. -/
def State.curfewEntries (s : State) (p bank : Nat) : List Nat :=
  (List.range (s.curfewLength p bank)).map (fun i => s.curfewWord p bank i)

/-- The entry of a bank that runs at a tick, for a list that started at `start`. -/
def State.entryIndex (s : State) (p bank start tick : Nat) : Nat :=
  entryAt (s.curfewEntries p bank) 0 ((tick - start) % s.curfewCycle p bank)

/-- Whether class `c` is open at a tick under a bank that started at `start` (R134). -/
def State.bankOpen (s : State) (p bank start tick c : Nat) : Bool :=
  (s.curfewWord p bank (s.entryIndex p bank start tick)).testBit c

/-- A list is in force on a port (R148). -/
def State.inForce (s : State) (p : Nat) : Bool := s.flag (SW_CURFEW_CTL_IN_FORCE p) && s.bellSet

/-- A port's switchover is pending (R136). -/
def State.curfewPending (s : State) (p : Nat) : Bool := s.flag (SW_CURFEW_CTL_PENDING p)

/-- Whether class `c` is open at a tick under the list in force; no list: open (R134). -/
def State.openNow (s : State) (p tick c : Nat) : Bool :=
  !s.inForce p || s.bankOpen p (s.fld (SW_CURFEW_CTL_ACTIVE_BANK p)) (sparseGet 0 s.sw.curfewStart p) tick c

/-- The check of R135 for a frame of `b` bytes of class `c` that would start at the present tick. -/
def State.gateCheck (s : State) (p c b : Nat) : Bool :=
  let t := s.now
  let dur := s.serialTicks p b
  let active := s.fld (SW_CURFEW_CTL_ACTIVE_BANK p)
  let g0 := if s.inForce p then s.curfewGuard p active else 0
  if s.curfewPending p && s.bellSet then
    let sw := s.fld (SW_CURFEW_TICK_SWITCH_TICK p)
    if t + dur + g0 ≤ sw then (List.range (dur + g0)).all (fun i => s.openNow p (t + i) c)
    else
      let g := max g0 (s.curfewGuard p (1 - active))
      (List.range (dur + g)).all (fun i =>
        if t + i < sw then s.openNow p (t + i) c else s.bankOpen p (1 - active) sw (t + i) c)
  else (List.range (dur + g0)).all (fun i => s.openNow p (t + i) c)

/-- SHAPE_EN of a port's class. -/
def State.shaped (s : State) (p c : Nat) : Bool := s.flag (SW_EGRESS_SHAPE_EN (8 * p + c))

/-- Whether a class of a port has a frame queued; a closing-flag packet that is held stands in no queue (R91). -/
def State.queued (s : State) (p c : Nat) : Bool := s.sw.copies.any (fun x => x.out == p && x.vc == c && !x.held)

/-- A class's shaper brought to the present tick (R133), its gate having been open or not since the last time: it rises at
IDLE_SLOPE (1/640 byte a tick and unit) while the gate is open and a frame waits, and from below zero also while none waits. -/
def State.shaperWith (s : State) (open_ : Bool) (p c : Nat) : Int :=
  let sh := sparseGet ⟨0, 0⟩ s.sw.shapers (8 * p + c)
  let rise : Int := (s.fld (SW_EGRESS_IDLE_SLOPE (8 * p + c)) * (s.free - sh.at_) : Nat)
  if !open_ then sh.credit
  else if s.queued p c then sh.credit + rise
  else if sh.credit < 0 then min 0 (sh.credit + rise) else 0

/-- See `State.shaperWith`. -/
def State.shaperNow (s : State) (p c : Nat) : Int := s.shaperWith (s.openNow p s.now c) p c

/-- Every shaper of a port brought to the present tick, given its gates since the last time. -/
def State.touchShapersWith (s : State) (p : Nat) (open_ : Nat → Bool) : State :=
  [0, 1, 2, 3, 4, 5].foldl (fun s c =>
    if s.shaped p c then
      let v := s.shaperWith (open_ c) p c
      s.modSw (fun w => { w with shapers := sparseInsert (8 * p + c) ⟨v, max s.free ((sparseGet ⟨0, 0⟩ w.shapers (8 * p + c)).at_)⟩ (sparseErase w.shapers (8 * p + c)) })
    else s) s

/-- Every shaper of a port brought to the present tick. -/
def State.touchShapers (s : State) (p : Nat) : State := s.touchShapersWith p (fun c => s.openNow p s.now c)

/-- The credit a frame of `b` bytes takes from its class's shaper, less than nothing where IDLE_SLOPE exceeds R, and the tick its sending ends
(R133). DESIGN CHOICE: `b` takes in the 36 bytes of header and seal on an Ethernet port too (log entry 171). -/
def State.shaperSend (s : State) (p c b : Nat) : State :=
  if s.shaped p c then
    let slope := s.fld (SW_EGRESS_IDLE_SLOPE (8 * p + c))
    -- R in units of 100 Mb/s: 12.5 bits per 1,000 ticks each
    let cost : Int := ((640 * b : Nat) : Int) - (640 * b * slope * 25 / (2 * s.portRate p) : Nat)
    let v := s.shaperNow p c - cost
    s.modSw (fun w => { w with shapers := sparseInsert (8 * p + c) ⟨v, s.free + s.serialTicks p b⟩ (sparseErase w.shapers (8 * p + c)) })
  else s

end Sys2Proof.Machine
end

