-- ==== Sys2Proof/Machine/Route.lean ====
section
/-! DEFINITION. Routes (R64, R69 to R88, R94, R95): where a frame goes from this module, and the enqueueing of frames,
those of the module's own agents among them (R79, R119). -/

namespace Sys2Proof.Machine

/-- Coordinate of a module on axis `a`: 0 x, 1 y, 2 z (R80). -/
def coordAxis (c a : Nat) : Nat := if a = 0 then c % 16 else if a = 1 then c / 16 % 16 else c / 256 % 8

/-- A module coordinate with axis `a` replaced. -/
def withAxis (c a v : Nat) : Nat :=
  if a = 0 then c - coordAxis c 0 + v else if a = 1 then c - 16 * coordAxis c 1 + 16 * v
  else c - 256 * coordAxis c 2 + 256 * v

/-- Modules on axis `a` (R64). -/
def State.axisSize (s : State) (a : Nat) : Nat :=
  (if a = 0 then s.fld DV_COORD_SIZE_X_M1 else if a = 1 then s.fld DV_COORD_SIZE_Y_M1 else s.fld DV_COORD_SIZE_Z_M1) + 1

/-- The neighbour of `c` on axis `a` in the plus or minus direction (R64). -/
def State.neighbour (s : State) (c a : Nat) (plus : Bool) : Nat :=
  let n := s.axisSize a
  withAxis c a ((coordAxis c a + (if plus then 1 else n - 1)) % n)

/-- Whether the dead map marks a module (R86). -/
def State.dead (s : State) (c : Nat) : Bool := s.regBit (SW_DEAD (c / 64)) (c % 64)

/-- The trunk bundle of a port: 0 x+, 1 x−, 2 y+, 3 y−, 4 z+, 5 z− (R363). DESIGN CHOICE: LN_PORTp names no bundle, so a trunk port of any
configuration image belongs to the bundle that its number has under the reference lane map (log entry 128). -/
def State.bundleOf (s : State) (p : Nat) : Option Nat :=
  if 64 ≤ p ∧ p < 88 ∧ s.portKind p = 2 then some ((p - 64) / 4) else none

/-- The ports of a bundle that are up (R69), by rising number. -/
def State.bundlePorts (s : State) (b : Nat) : List Nat :=
  ((List.range 4).map (fun j => 64 + 4 * b + j)).filter (fun p => s.portKind p == 2 && s.portUp p)

/-- A bundle is up (R69) and not held down (R68). -/
def State.bundleUp (s : State) (b : Nat) : Bool := !(s.bundlePorts b).isEmpty && !s.sw.miscabled.contains b

/-- The bundle of an axis and a direction. -/
def bundleNo (a : Nat) (plus : Bool) : Nat := 2 * a + (if plus then 0 else 1)

/-- The modules strictly between `c` and the module `d` hops on (R86). -/
def State.between (s : State) (c a : Nat) (plus : Bool) (d : Nat) : List Nat :=
  let n := s.axisSize a
  (List.range (d - 1)).map (fun i => withAxis c a ((coordAxis c a + (if plus then i + 1 else n - (i + 1) % n)) % n))

/-- A segment passes a dead module (R86 rule 2). -/
def State.segDead (s : State) (c a : Nat) (plus : Bool) (d : Nat) : Bool := (s.between c a plus d).any s.dead

/-- Hops in the plus and minus directions (R81). -/
def State.hops (s : State) (c dst a : Nat) : Nat × Nat :=
  let n := s.axisSize a
  let d := (coordAxis dst a + 16 * n - coordAxis c a) % n
  (d, n - d)

/-- A module coordinate with the position on an axis that `dst` has there (R81). -/
def State.alongAxis (s : State) (c dst a : Nat) : Nat := withAxis c a ((coordAxis c a + (s.hops c dst a).1) % s.axisSize a)

/-- The axes that a route from `c` to `dst` travels: those with d+ other than 0 (R81). -/
def State.axesTo (s : State) (c dst : Nat) : List Nat := [0, 1, 2].filter (fun a => (s.hops c dst a).1 != 0)

/-- The module that a route from `c` to `dst` ends at. -/
def State.landing (s : State) (c dst : Nat) : Nat := (s.axesTo c dst).foldl (fun m a => s.alongAxis m dst a) c

/-- The directions open on an axis from module `c` (R81, R86): the shorter one, else the other, both on a tie. `own`
says that the bundles of this module are judged too. -/
def State.openDirs (s : State) (c dst a : Nat) (own : Bool) : List Bool :=
  let (dp, dm) := s.hops c dst a
  let free := fun (plus : Bool) (d : Nat) => !s.segDead c a plus d && (!own || s.bundleUp (bundleNo a plus))
  let okP := free true dp
  let okM := free false dm
  if dp < dm then (if okP then [true] else if okM then [false] else [])
  else if dm < dp then (if okM then [false] else if okP then [true] else [])
  else (if okP then [true] else []) ++ (if okM then [false] else [])

/-- Dateline crossed by the hop that leaves `c` (R83). -/
def State.crosses (s : State) (c a : Nat) (plus : Bool) : Bool :=
  if plus then coordAxis c a + 1 == s.axisSize a else coordAxis c a == 0

/-- The hash of a frame's header (R84, R472). -/
def State.routeHash (s : State) (f : Frame) : Nat :=
  crc32c (s.fld SW_ROUTE_CTRL_HASH_SEED) (routeKey f.party f.srcRank f.dstRank f.stream f.seq)

/-- The port whose lane range holds `x`, ports taken in order of number (R84). -/
def portByLane : List (Nat × Nat) → Nat → Nat
  | [], _ => 0
  | (p, _) :: [], _ => p
  | (p, w) :: ps, x => if x < w then p else portByLane ps (x - w)

/-- Credit held for a class and sub-class of a port. -/
def State.creditOf (s : State) (p c sub : Nat) : Nat := sparseGet 0 s.sw.txCredit (portOwner p c sub)

/-- The direction and trunk port a frame takes out of the open directions (R84, R85), with the choice it counts. -/
def State.pickPort (s : State) (f : Frame) (a : Nat) (dirs : List Bool) (dlOf : Bool → Nat) : Option (Bool × Nat) × State :=
  if dirs.isEmpty then (none, s)
  else if f.spray = 2 then
    let cands := dirs.flatMap (fun d => (s.bundlePorts (bundleNo a d)).map (fun p => (d, p)))
    let credit := fun (x : Bool × Nat) => s.creditOf x.2 f.vc (dlOf x.1)
    let best := cands.foldl (fun m x => max m (credit x)) 0
    let top := cands.filter (fun x => credit x == best)
    let s1 := if 2 ≤ cands.length then s.choice 0 else s
    let s2 := if 2 ≤ top.length then s1.modSw (fun w => { w with rotor := w.rotor + 1 }) else s1
    (top[s.sw.rotor % top.length]?, s2)
  else
    let h := s.routeHash f
    let d := match dirs with
      | [d] => d
      | _ => if f.spray = 1 then h < 2 ^ 31 else true
    let ports := s.bundlePorts (bundleNo a d)
    let ws := ports.map (fun p => (p, s.portLanes p))
    let total := ws.foldl (fun t x => t + x.2) 0
    let p := if f.spray = 1 then portByLane ws (h % 2 ^ 24 % total) else ports.headD 0
    (if ports.isEmpty then none else some (d, p), s)

/-- What the lookup and route stages decide (R108): places to go to; refused with an ERROR status; discarded with a counter. -/
inductive Fate where
  | go (dests : List Dest)
  | refuse (status : Nat)
  | drop (counter : Nat)
  | discard
  deriving DecidableEq, Repr

/-- The agent of a logical port (R119). -/
def agentOfPort (p : Nat) : Option Nat :=
  if 0xE0 ≤ p ∧ p ≤ 0xE5 then some (p - 0xE0 + 3) else if 0xF0 ≤ p ∧ p ≤ 0xF2 then some (p - 0xF0)
  else if p = 0xFF then some 12 else none

/-- The logical port of an agent, 0xFE for one that has none (R80). -/
def portOfAgent (a : Nat) : Nat :=
  if a < 3 then 0xF0 + a else if a < 9 then 0xE0 + (a - 3) else 0xFE

/-- Delivery at this module (R71, R96, R119): an endpoint port that is up and not fenced, an agent, or unreachable; the bridge takes carry frames
alone (log entry 129). -/
def State.localFate (s : State) (f : Frame) (p : Nat) : Fate :=
  if f.kind = 0x60 ∨ f.kind = 0x72 then .go [⟨256 + 11, 0, 0, 3, false, p, none⟩]
  else if p = 0xFF ∧ f.kind ≠ 0x10 then .refuse 2
  else if p < 64 then
    if s.regBit SW_FENCE p then .refuse 3
    else if s.portKind p = 1 ∧ s.portUp p then .go [⟨p, 0, 0, 3, false, p, none⟩] else .refuse 2
  else match agentOfPort p with
    | some a => .go [⟨256 + a, 0, 0, 3, false, p, none⟩]
    | none => .refuse 2

/-- The first axis that a route travels (R81). -/
def State.firstAxis (s : State) (c dst : Nat) : Option Nat := (s.axesTo c dst).head?

/-- The turning modules of a route, with the axis turned onto (R86 rule 3). -/
def State.turnsOf (s : State) (c dst : Nat) : List (Nat × Nat) :=
  let axes := s.axesTo c dst
  (List.range (axes.length - 1)).map (fun i => ((axes.take (i + 1)).foldl (fun m a => s.alongAxis m dst a) c, axes.getD (i + 1) 0))

/-- From each turning module the axis turned onto has a direction free of dead modules (R86 rule 2). -/
def State.turnsOpen (s : State) (c dst : Nat) : Bool := (s.turnsOf c dst).all (fun t => !(s.openDirs t.1 dst t.2 false).isEmpty)

/-- From `c`, every later axis has a direction free of dead modules, and no turning module is dead. -/
def State.restOpen (s : State) (c dst : Nat) : Bool := (s.turnsOf c dst).all (fun t => !s.dead t.1) && s.turnsOpen c dst

/-- A hop onto axis `a`, turned onto or started here: the place and its header (R81, R83, R84). -/
def State.startAxis (s : State) (f : Frame) (dst a : Nat) : Fate × State :=
  let c := s.coord
  let dlOf := fun d => if s.crosses c a d then 1 else 0
  match s.pickPort f a (s.openDirs c dst a true) dlOf with
  | (some (d, p), s') => (.go [⟨p, dlOf d, dlOf d, a, false, f.dstPort, none⟩], s')
  | (none, s') => (.refuse 2, s')

/-- The first leg of a detour (R86 rule 3, R87): one hop to a waystation on axis `b`, in the direction that the segment of that axis would take,
where the second leg is free of dead modules. -/
def State.waystation (s : State) (f : Frame) (dst b : Nat) : Fate × State :=
  let c := s.coord
  match s.pickPort f b (s.openDirs c dst b true) (fun d => if s.crosses c b d then 1 else 0) with
  | (none, s') => (.refuse 2, s')
  | (some (d, p), s') =>
    let w := s.neighbour c b d
    let dl := if s.crosses c b d then 1 else 0
    let second := match s.firstAxis w dst with
      | none => true
      | some a2 => !(s.openDirs w dst a2 false).isEmpty && s.restOpen w dst
    if s.dead w || !second then (.refuse 2, s') else (.go [⟨p, dl, dl, b, true, f.dstPort, none⟩], s')

/-- Where an open trunk takes a frame (R70): one hop, on VC0, VC1 or VC5, addressed by module coordinate. DESIGN CHOICE: the spec gives no way to
tell which open trunk leads to a module, so the lowest-numbered one that is up is taken (log entry 130). -/
def State.openSend (s : State) (f : Frame) : Fate :=
  if f.destKind = 3 ∧ (f.vc = 0 ∨ f.vc = 1 ∨ f.vc = 5) then
    match (List.range 256).find? (fun p => s.portKind p == 4 && s.portUp p) with
    | some p => .go [⟨p, 0, 0, 3, false, f.dstPort, none⟩]
    | none => .refuse 2
  else .refuse 2

/-- The route of a frame that starts at this module toward module `dst` (R81, R86); `again`: on the second leg of a detour, which meets no further
dead module (R86 rule 3). -/
def State.routeStart (s : State) (f : Frame) (dst : Nat) (again : Bool := false) : Fate × State :=
  let c := s.coord
  if s.flag DV_COORD_OPEN_MODE then (if dst = c then s.localFate f f.dstPort else s.openSend f, s)
  else match s.firstAxis c dst with
  | none => (s.localFate f f.dstPort, s)
  | some a =>
    if s.dead (s.landing c dst) ∨ (s.openDirs c dst a true).isEmpty ∨ !s.turnsOpen c dst then (.refuse 2, s)
    else match (s.turnsOf c dst).find? (fun t => s.dead t.1) with
      | none => s.startAxis f dst a
      | some (_, b) => if again then (.refuse 2, s) else s.waystation f dst b

/-- The route of a frame in transit that arrived on a bundle (R81, R88). At a turn, a segment that ends at a dead module is blocked both ways. -/
def State.routeTransit (s : State) (f : Frame) (bundle : Nat) : Fate × State :=
  let c := s.coord
  let a := bundle / 2
  let plus := bundle % 2 == 1
  let out := bundleNo a plus
  if (s.hops c f.dstCoord a).1 ≠ 0 then
    let dl := if s.crosses c a plus then 1 else f.dl
    if !s.bundleUp out || s.dead (s.neighbour c a plus) then (.refuse 2, s)
    else match s.pickPort f a [plus] (fun _ => dl) with
      | (some (_, p), s') => (.go [⟨p, dl, dl, a, false, f.dstPort, none⟩], s')
      | (none, s') => (.refuse 2, s')
  else match s.firstAxis c f.dstCoord with
    | none => (s.localFate f f.dstPort, s)
    | some b => if s.dead (s.alongAxis c f.dstCoord b) then (.refuse 2, s) else s.startAxis f f.dstCoord b

/-- Whether a coach's member lies at an offset `lo` … `hi` from position `p` in a direction (R95). -/
def State.coachFar (s : State) (a members p : Nat) (plus : Bool) (lo hi : Nat) : Bool :=
  let n := s.axisSize a
  (List.range (hi + 1)).any (fun o => decide (lo ≤ o) && members.testBit ((p + (if plus then o else n - o % n)) % n))

/-- The copies of a coach frame at this module (R94, R95). `from_` is the ingress port, `bundle` the bundle it came on. A hop onto a bundle that is
down or held down, or to a dead module, cannot complete (R88, R126): its place is 511. -/
def State.coachFate (s : State) (f : Frame) (from_ : Nat) (bundle : Option Nat) : Fate :=
  let n := f.dstRank % 4096
  if !s.flag (SW_COACH_W0_VALID n) || (bundle.isNone && s.fld (SW_COACH_W0_PARTY n) != f.party) then .drop SW_DROP_RANK
  else
    let a := s.fld (SW_COACH_W0_AXIS n)
    let members := s.fld (SW_COACH_W0_MEMBERS n)
    let c := s.coord
    let size := s.axisSize a
    let locals := (onesOf (s.reg (SW_COACH_W1 n)).toNat 64).filter (fun p => decide (bundle.isSome ∨ p ≠ from_))
    let localDests := locals.map (fun p => Dest.mk p 0 0 3 false p none)
    let hop := fun (plus : Bool) (old : Nat) =>
      let dl := if s.crosses c a plus then 1 else old
      let open_ := s.bundleUp (bundleNo a plus) && !s.dead (s.neighbour c a plus)
      Dest.mk (if open_ then (s.bundlePorts (bundleNo a plus)).headD 511 else 511) dl dl a false f.dstPort none
    match bundle with
    | none =>
      let me := coordAxis c a
      .go (localDests ++ (if s.coachFar a members me true 1 (size / 2) then [hop true 0] else []) ++
        (if s.coachFar a members me false 1 (size - 1 - size / 2) then [hop false 0] else []))
    | some b =>
      let plus := b % 2 == 1
      let src := coordAxis f.srcCoord a
      let me := coordAxis c a
      let off := if plus then (me + size - src) % size else (src + size - me) % size
      let last := if plus then size / 2 else size - 1 - size / 2
      .go ((if members.testBit me then localDests else []) ++
        (if s.coachFar a members src plus (off + 1) last then [hop plus f.dl] else []))

/-- A party or rank entry as a lookup now sees it: one written in this switch cycle as it was before (R78). -/
def State.entryWord (s : State) (off : Nat) : Word :=
  if s.sw.oldEntries.1 = switchCycle s.bell.free then sparseGet (s.reg off) s.sw.oldEntries.2 off else s.reg off

/-- A field of a party or rank entry as a lookup now sees it (R78). -/
def State.entryFld (s : State) (f : Fld) : Nat := bitsOf (s.entryWord f.off).toNat f.hi f.lo

/-- A party or rank entry is about to be written: lookups of this switch cycle see what it holds now (R78). -/
def State.keepEntry (s : State) (off : Nat) : State :=
  let kept := if s.sw.oldEntries.1 = switchCycle s.bell.free then s.sw.oldEntries.2 else []
  s.modSw (fun w => { w with oldEntries := (switchCycle s.bell.free,
    if kept.any (fun e => e.1 == off) then kept else sparseInsert off (s.reg off) kept) })

/-- Translation of a party rank (R75, R76): the module and endpoint port, or the refusal. -/
def State.translate (s : State) (party rank : Nat) : Except Nat (Nat × Nat) :=
  if s.entryFld (SW_PARTY_VALID party) = 0 then .error 4
  else
    let sh := s.entryFld (SW_PARTY_GROUP_SHIFT party)
    let g := rank / 2 ^ sh
    if s.entryFld (SW_PARTY_GROUPS party) ≤ g then .error 4
    else
      let n := s.entryFld (SW_PARTY_BASE party) + g
      if s.entryFld (SW_RANK_VALID n) = 0 then .error 4
      else if s.entryFld (SW_RANK_FENCED n) ≠ 0 then .error 3
      else
        let p := s.entryFld (SW_RANK_FIRST_PORT n) + rank % 2 ^ sh
        if 63 < p then .error 4 else .ok (s.entryFld (SW_RANK_COORD n), p)

/-- The SPRAY the ingress module writes (R85). -/
def State.sprayOf (s : State) (f : Frame) : Nat :=
  if f.destKind = 2 then 0 else if f.vc = 3 then 1
  else if f.vc = 4 ∨ f.vc = 5 ∨ f.destKind = 3 then 0
  else s.entryFld (SW_PARTY_SPRAY f.party) + 1

/-- The counter of a refusal (R79, R72). -/
def refusalCounter (status : Nat) : Nat :=
  if status = 1 then SW_DROP_RACK else if status = 2 then SW_DROP_UNREACH
  else if status = 3 then SW_DROP_FENCED else SW_DROP_RANK

/-- Cells of one queue added to or taken from SW_QLEN (R151); agents' queues have none. -/
def State.qlenAdd (s : State) (out vc sub k : Nat) : State :=
  if out < 256 then s.setFld (SW_QLEN_CELLS (portOwner out vc sub)) (s.fld (SW_QLEN_CELLS (portOwner out vc sub)) + k) else s

/-- See `State.qlenAdd`. -/
def State.qlenSub (s : State) (out vc sub k : Nat) : State :=
  if out < 256 then s.setFld (SW_QLEN_CELLS (portOwner out vc sub)) (s.fld (SW_QLEN_CELLS (portOwner out vc sub)) - k) else s

/-- A copy that cannot be queued is discarded and counted (R126): the counter. `many`: it is one of several and takes a copy entry (R125). -/
def State.copyBar (s : State) (many : Bool) (d : Dest) : Option Nat :=
  if 511 ≤ d.out then some SW_DROP_UNREACH
  else if d.out < 64 ∧ s.regBit SW_FENCE d.out then some SW_DROP_FENCED
  else if d.out < 256 ∧ !s.portUp d.out then some SW_DROP_UNREACH
  else if many ∧ 65536 ≤ (s.sw.copies.filter (fun c => c.mcast)).length then some SW_DROP_MCAST
  else none

/-- The port's credit for a class is less than the head frame of its queue needs (R99); a frame being sent has had its credit. -/
def State.sinkLacks (s : State) (p c : Nat) : Bool :=
  match s.sw.copies.find? (fun x => x.out == p && x.vc == c && x.sub == 0 && !x.held) with
  | none => false
  | some x => match s.sw.descs.find? (fun d => d.id == x.desc) with
    | none => false
    | some d => !x.started && decide (s.creditOf p c 0 < frameCells d.frame)

/-- Since when an endpoint port lacks credit for the head frame of a class (R99): brought up to date. -/
def State.touchSinks (s : State) (p : Nat) : State :=
  if s.portKind p ≠ 1 then s else
  [1, 3, 4, 5].foldl (fun s c =>
    let key := 8 * p + c
    let had := s.sw.sinkSince.any (fun e => e.1 == key)
    if s.sinkLacks p c then (if had then s else s.modSw (fun w => { w with sinkSince := w.sinkSince ++ [(key, s.free)] }))
    else s.modSw (fun w => { w with sinkSince := sparseErase w.sinkSince key })) s

/-- An egress queue holds no frame, and none of it is being sent (R110). -/
def State.queueClear (s : State) (out vc sub : Nat) : Bool :=
  !s.sw.copies.any (fun c => c.out == out && c.vc == vc && c.sub == sub && !c.held)

/-- One copy joins the tail of its queue (R125). -/
def State.addCopy (s : State) (id : Nat) (vc cells : Nat) (mcast held : Bool) (d : Dest) : State :=
  (s.modSw (fun w => { w with copies := w.copies ++
    [⟨id, d.out, vc, d.sub, d.dl, d.dim, d.detour, d.dstPort, s.free, s.queueClear d.out vc d.sub, false, mcast, held, d.slot⟩] })).qlenAdd d.out vc d.sub cells

/-- The descriptor with a number. -/
def State.desc? (s : State) (id : Nat) : Option Desc := s.sw.descs.find? (fun d => d.id == id)

/-- The detour credit of a port's bundle goes back to the far end (R87). -/
def State.detourBack (s : State) (inPort : Nat) : State :=
  match s.bundleOf inPort with
  | some n => s.modSw (fun w => { w with detourOut := sparseSet 0 w.detourOut n ((sparseGet 0 w.detourOut n + 1) % 65536) })
  | none => s

/-- A frame's cells are freed (R117, R118); a frame that leaves the detour store gives its bundle's credit back (R87). -/
def State.releaseCells (s : State) (owner inPort cells : Nat) (chain : List Nat) : State :=
  let s1 := s.freeCells owner cells chain
  if owner = detourOwner then s1.detourBack inPort else s1

/-- The frame's cells are freed once no copy is left and it is not being received (R125). -/
def State.reap (s : State) (id : Nat) : State :=
  if s.sw.copies.any (fun c => c.desc == id) || s.sw.rx.any (fun r => r.2 == id) then s
  else match s.desc? id with
    | none => s
    | some d => (s.releaseCells d.owner d.inPort d.cells d.chain).modSw (fun w => { w with descs := w.descs.filter (fun x => x.id != id) })

/-- The frame is stored under a new descriptor, in the cells of the claim in hand, and its copies are queued (R115, R125). A copy that cannot be
queued is counted (R126): one of several, and every copy of a coach. -/
def State.enqueue (s : State) (f : Frame) (inPort owner cells : Nat) (whole : Bool) (eth : Option (List Byte))
    (dests : List Dest) (held : Bool) : State :=
  let id := s.sw.nextId
  let s0 := dests.foldl (fun s d => if d.out < 256 then s.touchShapers d.out else s) s
  let s1 := s0.modSw (fun w => { w with
    nextId := id + 1, hand := [],
    descs := w.descs ++ [⟨id, f, inPort, owner, cells, w.hand, whole, eth⟩] })
  let many := decide (2 ≤ dests.length)
  let s2 := dests.foldl (fun s d => match (if many || f.destKind == 2 then s.copyBar many d else none) with
    | some ctr => s.count ctr
    | none => s.addCopy id f.vc cells many (held && decide (d.out < 64)) d) s1
  let s3 := dests.foldl (fun s d => if d.out < 256 then s.touchSinks d.out else s) s2
  if whole then s3.reap id else s3

/-- SW_STREAM.HELD shows whether a packet of the stream is held (R106). -/
def State.showHeld (s : State) (stream : Nat) : State :=
  s.setFld (SW_STREAM_HELD stream) (if s.sw.closers.any (fun c => c.1 == stream) then 1 else 0)

/-- The pointer goes on to the next class (R132). -/
def Drr.onward (d : Drr) : Drr := { d with ptr := (d.ptr % 4 + 1) % 4, visiting := false }

/-- A class whose queues at a port have become empty loses its deficit, and the pointer leaves it (R132). -/
def State.emptied (s : State) (p c : Nat) : State :=
  if s.queued p c then s
  else s.modSw (fun w => { w with drr := w.drr.map (fun e => if e.1 = p then
    (e.1, { (if e.2.visiting && e.2.ptr % 4 == c then e.2.onward else e.2) with deficits := e.2.deficits.set c 0 }) else e) })

/-- A copy leaves its queue; one that was held is held no longer. -/
def State.dropCopy (s : State) (c : Copy) : State :=
  let d := s.desc? c.desc
  let cells := (d.map (·.cells)).getD 0
  let s0 := ((s.modSw (fun w => { w with copies := w.copies.erase c })).qlenSub c.out c.vc c.sub cells).emptied c.out c.vc
  let s1 := if c.out < 256 then s0.touchSinks c.out else s0
  match d with
  | some d => if s1.sw.closers.any (fun r => r.2.1 == c.desc) then
      (s1.modSw (fun w => { w with closers := w.closers.filter (fun r => r.2.1 != c.desc) })).showHeld d.frame.stream else s1
  | none => s1

/-- A whole frame bound for an agent is handed to the agent's queue (R474); its cells stay with its owner. -/
def State.handOver (s : State) (c : Copy) : State :=
  match s.desc? c.desc with
  | none => s
  | some d =>
    s.modSw (fun w => { w with
      copies := w.copies.erase c,
      descs := w.descs.filter (fun x => x.id != d.id),
      agentQ := w.agentQ ++ [⟨c.out - 256, { d.frame with dstPort := c.dstPort }, d.id, d.inPort, d.owner, d.cells, d.chain⟩] })

/-- An agent takes a frame: where it waits in the agent's queue its cells are freed (R113, R474; log entry 3). -/
def State.takeAgent (s : State) (f : Frame) : State :=
  match takeFirst (fun (i : AgentItem) => i.frame == f) s.sw.agentQ with
  | none => s
  | some (i, rest) => (s.modSw (fun w => { w with agentQ := rest })).releaseCells i.owner i.inPort i.cells i.chain

/-- The islands that frames for an agent enter (R394). -/
def agentIslands (a : Nat) : List Nat :=
  if a = 0 then [12] else if a = 1 then [10, 11] else if 3 ≤ a ∧ a ≤ 8 then [37 + (a - 3)]
  else if a = 9 then (List.range 8).map (47 + ·) else if a = 10 ∨ a = 11 then [1] else []

/-- Traffic into an island out of muster is held (R51): a port's tile, or an agent's island. -/
def State.outHeld (s : State) (out : Nat) : Bool :=
  if out < 256 then s.islandOut (43 + s.tileOf out) else if out < 300 then (agentIslands (out - 256)).any s.islandOut else false

/-- Traffic at a port is held while the switch core's islands or the port's tile are out of muster (R51). -/
def State.inHeld (s : State) (p : Nat) : Bool :=
  (List.range 8).any (fun i => s.islandOut (2 + i)) || s.islandOut (43 + s.tileOf p)

/-- A port's receive crossing has been mustered (R50): the mark comes 16 alignment periods after the start, the check 64 after it, and from the
tick after the check on the crossing carries (log entry 139). -/
def State.crossingUp (s : State) (p : Nat) : Bool :=
  match (s.port p).musterAt with
  | none => true
  | some t => decide (t + 80 * 32 < s.free)

/-- Reply space of an agent (R97): no reply of it waits for cells, and its VC1 owner can claim a frame for each request already in its queue and one
more (log entry 131). -/
def State.replySpace (s : State) (a : Nat) : Bool :=
  !s.sw.agentWait.any (fun x => x.1 == a) &&
  s.claimOk (agentOwner a 1) (17 * ((s.sw.agentQ.filter (fun i => i.agent == a && i.frame.vc == 0)).length + 1))

/-- A copy bound for an agent may be handed over: its frame is whole, the agent's island is in muster (R51), and reply space stands ready for a
request (R97). -/
def State.agentTakes (s : State) (c : Copy) : Bool :=
  (match s.desc? c.desc with
    | some d => d.whole
    | none => false) && !s.outHeld c.out && (c.vc != 0 || s.replySpace (c.out - 256))

/-- Copies bound for agents are handed over where the agents take them, class by class in the order of R132. -/
def State.handOverAll (s : State) : State :=
  ([5, 4, 0, 1, 2, 3].flatMap (fun v => s.sw.copies.filter (fun c => decide (256 ≤ c.out ∧ c.out < 300) && c.vc == v))).foldl (fun s c =>
    if s.agentTakes c then s.handOver c else s) s

/-- The fate of a frame that one of the module's own agents sends (R79). -/
def State.agentFate (s : State) (f : Frame) : Fate × State :=
  if f.destKind = 1 then
    match s.translate f.party f.dstRank with
    | .error e => (.refuse e, s)
    | .ok (c, p) => s.routeStart { f with dstPort := p } c
  else if f.destKind = 2 then (s.coachFate f 0xFE none, s)
  else s.routeStart f f.dstCoord

/-- The destination coordinate and port as the ingress module writes them (R75, R80). -/
def State.addressed (s : State) (f : Frame) : Frame :=
  if f.destKind = 1 then
    match s.translate f.party f.dstRank with
    | .error _ => f
    | .ok (c, p) => { f with dstCoord := c, dstPort := p }
  else f

/-- An agent's frame enters the switch if its owner's cells can be claimed (R118, R119); otherwise it waits at the
agent (log entry 4). `places`: where its copies go, none for the route its header asks for. -/
def State.agentPlace (s : State) (a : Nat) (f : Frame) (places : List Dest) : State :=
  match (if places.isEmpty then s.agentFate f else (.go places, s)) with
  | (.go dests, s') =>
    let o := agentOwner a f.vc
    let k := frameCells f
    if dests.isEmpty then s'
    else if s'.claimOk o k then ((s'.takeCells o k).enqueue (s'.addressed f) (256 + a) o k true none dests false).handOverAll
    else s'.modSw (fun w => { w with agentWait := w.agentWait ++ [(a, f, places)] })
  | (.refuse st, s') => s'.count (refusalCounter st)
  | (.drop ctr, s') => s'.count ctr
  | (.discard, s') => s'

/-- A frame of one of the module's agents to given places, or to where its header says (R80, R85). -/
def State.agentCast (s : State) (a : Nat) (f : Frame) (places : List Dest) : State :=
  let g := { f with srcCoord := s.coord, srcPort := portOfAgent a, dl := 0, dim := 3, detour := false, colour := 0 }
  s.agentPlace a { g with spray := s.sprayOf g } places

/-- One of the module's agents sends a frame (R79, R80, R85). -/
def State.agentSend (s : State) (a : Nat) (f : Frame) : State := s.agentCast a f []

/-- Frames that wait at their agents are tried again, each once; then agents take what they may. -/
def State.retryAgents (s : State) : State :=
  let waiting := s.sw.agentWait
  (waiting.foldl (fun s x => s.agentPlace x.1 x.2.1 x.2.2) (s.modSw (fun w => { w with agentWait := [] }))).handOverAll

/-- A frame with every field at rest; replies and agents fill in what they say. -/
def blankFrame : Frame :=
  { kind := 0, vc := 1, dl := 0, dim := 3, closing := false, epoch := 0, destKind := 3, spray := 0, detour := false,
    colour := 0, party := 0, srcRank := 0, dstRank := 0, dstCoord := 0, dstPort := 0, srcCoord := 0, srcPort := 0,
    stream := 0, seq := 0, streamValid := false, address := 0, tag := 0, payload := [] }

/-- A reply to the sender of a frame (R80): by module coordinate on VC1, with the request's party, ADDRESS and TAG. -/
def replyTo (f : Frame) (kind : Nat) (payload : List Byte) : Frame :=
  { blankFrame with kind := kind, vc := 1, destKind := 3, party := f.party, dstRank := f.srcRank, srcRank := f.dstRank,
                    dstCoord := f.srcCoord, dstPort := f.srcPort, address := f.address, tag := f.tag, payload := payload }

/-- An ERROR reply (R74), sent by the pool-access agent for the ingress stages (log entry 5). -/
def State.errorReply (s : State) (f : Frame) (status : Nat) : State :=
  s.agentSend 9 (replyTo f 0x0F [BitVec.ofNat 8 status])

end Sys2Proof.Machine
end

