-- ==== Sys2Proof/Machine/TallyOps.lean ====
section
/-! DEFINITION. The tally block's own operations (R153 to R193): the pool of tally frames, lanes and operators, the
frames a tally sends, freeing, credit, completion and the failure of a round. -/

namespace Sys2Proof.Machine

/-! ### The pool (R155, R156) -/

/-- MIN of a party (R198). -/
def State.tpMin (s : State) (p : Nat) : Nat := s.fld (TL_POOL_MIN p)

/-- CLAIMED of a party. -/
def State.tpClaimed (s : State) (p : Nat) : Nat := s.fld (TL_POOL_STAT_CLAIMED p)

/-- Ceiling on a party's shared frames (R155). -/
def State.tpLimit (s : State) (p : Nat) : Nat :=
  min (s.fld (TL_POOL_MAX p) - s.tpMin p) (s.tally.sharedFree.toNat * 2 ^ s.fld (TL_POOL_ALPHA p) / 16)

/-- Whether a claim of `k` tally frames is granted (R118, R163, R473). -/
def State.tpOk (s : State) (p k : Nat) : Bool :=
  let need := k - min k (s.tpMin p - s.tpClaimed p)
  (decide (need = 0) || (decide (s.tpClaimed p - s.tpMin p + need ≤ s.tpLimit p) && decide ((need : Int) ≤ s.tally.sharedFree))) &&
  decide (s.tally.claimed + k ≤ 6144) && s.tally.threaded

/-- CLAIMED of a party set, the shared count following (R118, R473). -/
def State.tpMove (s : State) (p c' : Nat) : State :=
  let c := s.tpClaimed p
  let m := s.tpMin p
  let t := { s.tally with sharedFree := s.tally.sharedFree + (max m c : Nat) - (max m c' : Nat),
                          claimed := s.tally.claimed + c' - c }
  ((s.modTally (fun _ => t)).setFld (TL_POOL_STAT_CLAIMED p) c').setFld TL_STATUS_SHARED_FREE t.sharedFree.toNat

/-- `k` tally frames taken off the vacancy lists in rotating order (R117, R155): their numbers, and what is left. -/
def State.tpTake (s : State) (k : Nat) : List Nat × State :=
  let r := Vacancy.take 6144 [] k s.tally.vac
  (r.1, s.modTally (fun t => { t with vac := r.2 }))

/-! ### Contexts -/

/-- The context of a party and tally number. -/
def State.ctx? (s : State) (party id : Nat) : Option TCtx :=
  s.tally.ctxs.find? (fun c => c.party == party && c.id == id)

/-- The context at an index. -/
def State.ctxAt? (s : State) (i : Nat) : Option TCtx := s.tally.ctxs.find? (fun c => c.idx == i)

/-- A context written back. -/
def State.putCtx (s : State) (c : TCtx) : State :=
  s.modTally (fun t => { t with ctxs := t.ctxs.map (fun x => if x.idx = c.idx then c else x) })

/-- The limit of a context: chunks before it lie in the window (R166). -/
def TCtx.limit (c : TCtx) : Nat := min (c.oldest + c.window) (c.rounds * c.chunks)

/-- The chunk with a number, where it is in the window and not freed. -/
def TCtx.chunk? (c : TCtx) (g : Nat) : Option TChunk := c.win.find? (fun x => x.g == g)

/-- A chunk written back. -/
def TCtx.putChunk (c : TCtx) (k : TChunk) : TCtx := { c with win := c.win.map (fun x => if x.g = k.g then k else x) }

/-- A slot by number. -/
def TCtx.slot? (c : TCtx) (i : Nat) : Option TSlot := c.slots[i]?

/-- Members per chunk group (R185). -/
def TCtx.memberOf (c : TCtx) (g : Nat) : Nat := g % c.chunks / (c.chunks / c.members)

/-- Whether a slot contributes to a chunk under its collective (R185). -/
def TCtx.expects (c : TCtx) (t : TSlot) (g : Nat) : Bool :=
  t.contrib &&
  (if c.coll = 2 then decide (t.first ≤ c.memberOf g ∧ c.memberOf g ≤ t.last)
   else if c.coll = 3 then decide (t.first ≤ c.rootMember ∧ c.rootMember ≤ t.last)
   else true)

/-- Whether a slot receives a chunk's result (R185). -/
def TCtx.reaches (c : TCtx) (t : TSlot) (g : Nat) : Bool :=
  t.receives && (if c.coll = 1 then decide (t.first ≤ c.memberOf g ∧ c.memberOf g ≤ t.last) else true)

/-- The parts a slot's contribution has, with their lengths (R169, R176, R178). -/
def TCtx.parts (c : TCtx) (t : TSlot) : List (Nat × Nat) :=
  if c.op = 0 ∧ t.child then
    (if c.exact then [(0, 4096), (1, 4096), (2, 512)] else [(0, 2048), (2, 512)])
  else if c.op = 8 then [(0, 512 / c.headDim * (8 + 4 * c.headDim))]
  else [(0, [2048, 1024, 1024, 528, 528, 2048, 4096].getD c.inFmt 512)]

/-- A slot's contribution to a chunk has been taken whole (R176). -/
def TCtx.tookAll (c : TCtx) (k : TChunk) (i : Nat) (t : TSlot) : Bool :=
  (c.parts t).all (fun p => k.taken.contains (i, p.1))

/-- Slots with their numbers. -/
def TCtx.slotsNo (c : TCtx) : List (Nat × TSlot) := c.slots.zipIdx.map (fun x => (x.2, x.1))

/-- Every contribution that the collective expects for a chunk has been taken (R182). -/
def TCtx.complete (c : TCtx) (k : TChunk) : Bool :=
  c.slotsNo.all (fun x => !c.expects x.2 k.g || c.tookAll k x.1 x.2) && c.slotsNo.any (fun x => c.expects x.2 k.g)

/-- A blank chunk whose window position opens at a tick. -/
def blankChunk (g at_ : Nat) : TChunk :=
  { g := g, lanes := [], flags := [], recs := [], taken := [], openAt := at_, doneAt := none, resends := [],
    stepped := false, result := none, recvs := [] }

/-! ### Lanes and operators (R169 to R173) -/

/-- Flag bits of a lane (R153). -/
def flPinf : Nat := 1
/-- NINF. -/
def flNinf : Nat := 2
/-- NAN. -/
def flNan : Nat := 4
/-- SAT. -/
def flSat : Nat := 8
/-- OVF. -/
def flOvf : Nat := 16
/-- TRUNC. -/
def flTrunc : Nat := 32

/-- OR of two flag bytes. -/
def orFlag (a b : Nat) : Nat := a ||| b

/-- A added under R171: the nearer limit and OVF when the sum leaves 128 bits. -/
def winAdd (a b : Int) : Int × Nat :=
  let (r, cut) := clampInt 128 (a + b)
  (r, if cut then flOvf else 0)

/-- A contribution converted into the window (R170) and added (R171, R172): the new A and flags. -/
def winTake (floor : Int) (a : Int) (fl : Nat) (v : FVal) : Int × Nat :=
  match v with
  | .nan => (a, orFlag fl flNan)
  | .inf n => (a, orFlag fl (if n then flNinf else flPinf))
  | .fin n m e =>
    let k0 := if floor ≤ e then m * 2 ^ (e - floor).toNat else m / 2 ^ (floor - e).toNat
    let trunc := decide (e < floor) && decide (m % 2 ^ (floor - e).toNat ≠ 0)
    let sat := decide (2 ^ 119 ≤ k0)
    let k := if sat then 2 ^ 119 - 1 else k0
    let (r, o) := winAdd a (if n then -(k : Int) else (k : Int))
    (r, orFlag (orFlag fl o) ((if sat then flSat else 0) + (if trunc then flTrunc else 0)))

/-- Elements of an operand payload as values (R169): by IN_FMT 0x00 to 0x06. -/
def operandVals (fmt : Nat) (p : List Byte) : List FVal :=
  (List.range 512).map (fun i =>
    if fmt = 0 then fpDecode fp32 (leAt p (4 * i) 4)
    else if fmt = 1 then fpDecode bf16 (leAt p (2 * i) 2)
    else if fmt = 2 then fpDecode fp16 (leAt p (2 * i) 2)
    else if fmt = 3 ∨ fmt = 4 then mxValue fmt (byteAt p (16 + i)) (byteAt p (i / 32))
    else if fmt = 5 then ofInt (toSigned 32 (leAt p (4 * i) 4)) 0
    else ofInt (toSigned 64 (leAt p (8 * i) 8)) 0)

/-- Elements of an operand payload as bits. -/
def operandBits (fmt : Nat) (p : List Byte) : List Nat :=
  let w := if fmt = 1 ∨ fmt = 2 then 2 else if fmt = 6 then 8 else 4
  (List.range 512).map (fun i => leAt p (w * i) w)

/-- The floating-point format of an IN_FMT or OUT_FMT. -/
def tallyFp (fmt : Nat) : FpFmt := if fmt = 1 then bf16 else if fmt = 2 then fp16 else fp32

/-- Bits of an integer format. -/
def tallyIntBits (fmt : Nat) : Nat := if fmt = 6 then 64 else 32

/-- Two lane values under MAX to BXOR (R169). -/
def laneOp (op fmt a b : Nat) : Nat :=
  if fmt < 5 then
    let t := tallyFp fmt
    let x := fpDecode t a
    let y := fpDecode t b
    if x = .nan ∨ y = .nan then fpNan t
    else if op = 1 then (if flt x y then b else a) else (if flt y x then b else a)
  else
    let w := tallyIntBits fmt
    let x := toSigned w a
    let y := toSigned w b
    if op = 1 then (if x < y then b else a)
    else if op = 2 then (if y < x then b else a)
    else if op = 3 then (if a ≠ 0 ∧ b ≠ 0 then 1 else 0)
    else if op = 4 then (if a ≠ 0 ∨ b ≠ 0 then 1 else 0)
    else if op = 5 then a &&& b
    else if op = 6 then a ||| b
    else a ^^^ b

/-- The first value of a lane under MAX to BXOR: a NaN made canonical, a logical value made 0 or 1. -/
def laneFirst (op fmt a : Nat) : Nat :=
  if fmt < 5 then (if fpDecode (tallyFp fmt) a = .nan then fpNan (tallyFp fmt) else a)
  else if op = 3 ∨ op = 4 then (if a = 0 then 0 else 1) else a

/-- A lane's sum rounded into OUT_FMT (R172, R173): the bits, and the flags it adds. -/
def laneRound (fmt : Nat) (floor a : Int) (fl : Nat) : Nat × Nat :=
  let nan := fl.testBit 2 || (fl.testBit 0 && fl.testBit 1)
  if fmt < 5 then
    let t := tallyFp fmt
    if nan then (fpNan t, 0)
    else if fl.testBit 0 then ((fpRound t (.inf false)).1, 0)
    else if fl.testBit 1 then ((fpRound t (.inf true)).1, 0)
    else
      let r := fpRound t (ofInt a floor)
      (r.1, if r.2 then flOvf else 0)
  else
    let w := tallyIntBits fmt
    if nan then (0, 0)
    else if fl.testBit 0 then (2 ^ (w - 1) - 1, 0)
    else if fl.testBit 1 then (2 ^ (w - 1), 0)
    else
      let (i, cut) := clampInt w (toIntRne (ofInt a floor))
      (ofSigned w i, if cut then flSat else 0)

/-- Bytes of an element of OUT_FMT. -/
def tallyWidth (fmt : Nat) : Nat := if fmt = 1 ∨ fmt = 2 then 2 else if fmt = 6 then 8 else 4

/-- The result of a SUM, its elements rounded once, with the OR of the lanes' flags (R173). -/
def sumResult (c : TCtx) (k : TChunk) (fmt : Nat) : List Byte × List Nat :=
  let rs := (List.range 512).map (fun i => laneRound fmt c.floor (k.lanes.getD i 0) (k.flags.getD i 0))
  (rs.flatMap (fun r => natLE (tallyWidth fmt) r.1), (List.range 512).map (fun i => orFlag (k.flags.getD i 0) ((rs.getD i (0, 0)).2)))

/-- One head's records folded (R179): m, l, o as FP32 bits. DESIGN CHOICE: the procedure writes no new acc.m after a fold; it is taken to be mx, whose
weights l and o then carry (log entry 164). -/
def mergeHead (acc rec : Nat × Nat × List Nat) : Nat × Nat × List Nat :=
  if rec.1 = 0xFF800000 then acc
  else if acc.1 = 0xFF800000 then rec
  else
    let mx := round32 (fmaxVal (val32 acc.1) (val32 rec.1))
    let a := exp32 (sub32 acc.1 mx)
    let b := exp32 (sub32 rec.1 mx)
    (mx, add32 (mul32 acc.2.1 a) (mul32 rec.2.1 b),
     (acc.2.2.zip rec.2.2).map (fun x => add32 (mul32 x.1 a) (mul32 x.2 b)))

/-- The heads of an SMERGE payload (R178). -/
def mergeHeads (d : Nat) (p : List Byte) : List (Nat × Nat × List Nat) :=
  (List.range (512 / d)).map (fun h =>
    let o := h * (8 + 4 * d)
    (leAt p o 4, leAt p (o + 4) 4, (List.range d).map (fun i => leAt p (o + 8 + 4 * i) 4)))

/-- The records of a chunk folded in slot order (R179). -/
def mergeFold (d : Nat) : List (List Byte) → List (Nat × Nat × List Nat)
  | [] => []
  | p :: ps => ps.foldl (fun acc q => (acc.zip (mergeHeads d q)).map (fun x => mergeHead x.1 x.2)) (mergeHeads d p)

/-- NORMALISE at the root (R179): o ÷ l, and whether some l was 0. -/
def mergeNormalise (h : Nat × Nat × List Nat) : (Nat × Nat × List Nat) × Bool :=
  match val32 h.2.1 with
  | .fin _ 0 _ => ((h.1, h.2.1, h.2.2.map (fun _ => 0)), true)
  | _ => ((h.1, h.2.1, h.2.2.map (fun o => div32 o h.2.1)), false)

/-- The SMERGE payload of heads. -/
def mergeBytes (hs : List (Nat × Nat × List Nat)) : List Byte :=
  hs.flatMap (fun h => natLE 4 h.1 ++ natLE 4 h.2.1 ++ h.2.2.flatMap (natLE 4))

/-- Insertion of a record by slot number. -/
def putRec (i : Nat) (p : List Byte) (l : List (Nat × List Byte)) : List (Nat × List Byte) :=
  sparseInsert i p (sparseErase l i)

/-- The result of a chunk at the root and the OR of its flags (R173, R179, R183). -/
def TCtx.rootResult (c : TCtx) (k : TChunk) : List Byte × Nat :=
  if c.op = 0 then
    let (b, fl) := sumResult c k c.outFmt
    (b, fl.foldl orFlag 0)
  else if c.op = 8 then
    let hs := mergeFold c.headDim (k.recs.map (·.2))
    if c.normalise then
      let ns := hs.map mergeNormalise
      (mergeBytes (ns.map (·.1)), if ns.any (·.2) then flSat else 0)
    else (mergeBytes hs, 0)
  else if c.op = 9 then ((k.recs.headD (0, [])).2, 0)
  else (k.lanes.flatMap (fun l => natLE (tallyWidth c.inFmt) l.toNat), k.flags.foldl orFlag 0)

/-- The parts a non-root tally sends to its parent (R176, R179): (PART, payload). -/
def TCtx.partial_ (c : TCtx) (k : TChunk) : List (Nat × List Byte) :=
  if c.op = 0 then
    if c.exact then
      let half := fun (lo : Nat) => (List.range 256).flatMap (fun i => natLE 16 (ofSigned 128 (k.lanes.getD (lo + i) 0)))
      [(0, half 0), (1, half 256), (2, (List.range 512).map (fun i => BitVec.ofNat 8 (k.flags.getD i 0)))]
    else
      let (b, fl) := sumResult c k 0
      [(0, b), (2, fl.map (BitVec.ofNat 8))]
  else if c.op = 8 then [(0, mergeBytes (mergeFold c.headDim (k.recs.map (·.2))))]
  else [(0, (c.rootResult k).1)]

/-- A contribution's part applied to a chunk's lanes (R167, R170, R176). -/
def TCtx.apply (c : TCtx) (k : TChunk) (i : Nat) (t : TSlot) (part : Nat) (p : List Byte) : TChunk :=
  let lanes := if k.lanes.isEmpty then List.replicate 512 0 else k.lanes
  let flags := if k.flags.isEmpty then List.replicate 512 0 else k.flags
  let k1 :=
    if c.op = 0 then
      if part = 2 then { k with flags := (flags.zip p).map (fun x => orFlag x.1 x.2.toNat), lanes := lanes }
      else if t.child && c.exact then
        let base := 256 * part
        let adds := (List.range 256).map (fun j => winAdd (lanes.getD (base + j) 0) (toSigned 128 (leAt p (16 * j) 16)))
        { k with
          lanes := spliceList lanes base (adds.map (·.1)),
          flags := spliceList flags base ((List.range 256).map (fun j => orFlag (flags.getD (base + j) 0) ((adds.getD j (0, 0)).2))) }
      else
        let vs := operandVals (if t.child then 0 else c.inFmt) p
        let rs := ((lanes.zip flags).zip vs).map (fun x => winTake c.floor x.1.1 x.1.2 x.2)
        { k with lanes := rs.map (·.1), flags := rs.map (·.2) }
    else if c.op = 8 ∨ c.op = 9 then { k with recs := putRec i p k.recs }
    else
      let bs := operandBits c.inFmt p
      { k with lanes := if k.lanes.isEmpty then bs.map (fun b => (laneFirst c.op c.inFmt b : Int))
                        else (k.lanes.zip bs).map (fun x => (laneOp c.op c.inFmt x.1.toNat x.2 : Int)) }
  { k1 with taken := k1.taken ++ [(i, part)] }
where
  /-- A list with the elements from `off` on replaced. -/
  spliceList {α : Type} (l : List α) (off : Nat) (new : List α) : List α :=
    l.take off ++ new ++ l.drop (off + new.length)

/-! ### Tally frames (R153) -/

/-- Tally frames of a window position: three records to a frame under SMERGE (R178), else one. -/
def TCtx.perPosition (c : TCtx) : Nat := if c.op = 8 then ceilDiv (c.slots.filter (·.contrib)).length 3 else 1

/-- The number of the tally frame that holds part `j` of a chunk: the frames of window position g mod WINDOW (R153, R166). DESIGN CHOICE: positions
take the context's frames in the order in which the claim took them (log entry 167). -/
def TCtx.frameOf (c : TCtx) (g j : Nat) : Option Nat := c.store[g % c.window * c.perPosition + j]?

/-- Bytes of a tally frame of a chunk and of its flag store (R153): lane i at bytes 16 i to 16 i + 15. DESIGN CHOICE: a record that is stored whole
(R178), and a PASS contribution, lie from byte 0 on, records 2,112 bytes apart in slot order (log entry 167). -/
def TCtx.chunkFrame (c : TCtx) (k : TChunk) (j : Nat) : List Byte × List Byte :=
  let body := if c.op = 8 then
      (((c.slotsNo.filter (fun x => x.2.contrib)).drop (3 * j)).take 3).flatMap (fun x => padTo 2112 (sparseGet [] k.recs x.1))
    else if c.op = 9 then (k.recs.headD (0, [])).2
    else k.lanes.flatMap (fun a => natLE 16 (ofSigned 128 a))
  (padTo 8192 body, padTo 512 (k.flags.map (BitVec.ofNat 8)))

/-- Bytes of the tally frame at place `n` of a context's frames, with its flag store (R153, R162): that of a chunk in the window, the counts of a
DISPATCH tally, or an open position's blank frame. -/
def TCtx.frameBytes (c : TCtx) (n : Nat) : List Byte × List Byte :=
  if c.op = 10 then
    (padTo 8192 ((List.range 1024).flatMap (fun i => match c.dests.find? (fun d => d.member == 1024 * n + i) with
      | some d => natLE 4 d.sent ++ natLE 4 d.dropped
      | none => zeroBytes 8)), zeroBytes 512)
  else match c.win.find? (fun k => k.g % c.window == n / c.perPosition) with
    | some k => c.chunkFrame k (n % c.perPosition)
    | none => (zeroBytes 8192, zeroBytes 512)

/-! ### Frames a tally sends -/

/-- The ADDRESS of a tally frame (R159). -/
def tallyAddr (id chunk part slot round : Nat) : Nat :=
  id + chunk * 2 ^ 12 + part * 2 ^ 33 + slot * 2 ^ 35 + round % 256 * 2 ^ 42

/-- A frame to a module's tally agent (R158). -/
def tallyFrame (party kind coord port addr tag : Nat) (payload : List Byte) : Frame :=
  { blankFrame with kind := kind, vc := 3, destKind := 3, party := party, dstCoord := coord, dstPort := port,
                    address := addr, tag := tag, payload := payload }

/-- Where a slot is reached: an endpoint port of this module, or a module's tally agent (R161). -/
def State.slotPlace (s : State) (t : TSlot) : Nat × Nat :=
  if t.isModule then (t.coord, 0xF1) else (s.coord, t.port)

/-- A frame of a context to one of its slots. -/
def State.toSlot (s : State) (c : TCtx) (kind i : Nat) (t : TSlot) (g part tag : Nat) (payload : List Byte) : State :=
  let pl := s.slotPlace t
  s.agentSend 1 { tallyFrame c.party kind pl.1 pl.2 (tallyAddr c.id (g % c.chunks) part i (g / c.chunks)) tag payload with
                  dstRank := t.rank }

/-- A frame of a context to its parent. -/
def State.toParent (s : State) (c : TCtx) (kind g part : Nat) (payload : List Byte) : State :=
  s.agentSend 1 (tallyFrame c.party kind c.parent 0xF1 (tallyAddr c.id (g % c.chunks) part c.parentSlot (g / c.chunks)) 0 payload)

/-- The result of a chunk sent to a receiving slot (R183). -/
def State.sendResult (s : State) (c : TCtx) (k : TChunk) (i : Nat) (t : TSlot) : State :=
  match k.result with
  | none => s
  | some (b, fl) => s.toSlot c 0x51 i t k.g 0 (fl % 64) b

/-- What the record of a round will say. -/
def TCtx.stat (c : TCtx) (r : Nat) : TStat := sparseGet default c.stats r

/-- The record of a round changed. -/
def TCtx.modStat (c : TCtx) (r : Nat) (f : TStat → TStat) : TCtx :=
  { c with stats := sparseInsert r (f (c.stat r)) (sparseErase c.stats r) }

/-- The COMPLETE record's first payload (R189). -/
def TCtx.record (c : TCtx) (r status : Nat) : List Byte :=
  let t := c.stat r
  natLE 2 c.id ++ natLE 1 status ++
  natLE 1 (t.flags % 64 + (if t.late = 0 then 0 else 64) + (if t.resent = 0 then 0 else 128)) ++
  natLE 2 r ++ natLE 2 t.missed.length ++ natLE 4 t.resent ++ natLE 4 t.late ++
  natLE 16 (t.missed.foldl setBitOf 0) ++ zeroBytes 32

/-- The frames of a DISPATCH record (R189): 512 entries each. DESIGN CHOICE: a last frame that has fewer destinations left carries no more entries than
those (log entry 165). -/
def TCtx.dispatchEntries (c : TCtx) : List (List Byte) :=
  (List.range (ceilDiv c.members 512)).map (fun j =>
    ((List.range 512).filter (fun i => decide (512 * j + i < c.members))).flatMap (fun i =>
      match c.dests.find? (fun d => d.member == 512 * j + i) with
      | some d => natLE 4 d.sent ++ natLE 4 d.dropped
      | none => zeroBytes 8))

/-- The COMPLETE record of a round sent to every endpoint slot (R189). -/
def State.sendComplete (s : State) (c : TCtx) (r status : Nat) : State :=
  c.slotsNo.foldl (fun s x =>
    if x.2.isModule then s
    else
      let s1 := s.toSlot c 0x56 x.1 x.2 (r * c.chunks) 0 0 (c.record r status)
      if c.op = 0x0A then c.dispatchEntries.foldl (fun s p => s.toSlot c 0x56 x.1 x.2 (r * c.chunks) 0 0 p) s1 else s1) s

/-- A context ends: its frames return to the pool (R165), and what this module's own agents were told of its limits ends with it (R166). -/
def State.endCtx (s : State) (c : TCtx) : State :=
  let s1 := s.modTally (fun t => { t with
    ctxs := t.ctxs.filter (fun x => x.idx != c.idx), vac := t.vac.giveBack c.store,
    limits := t.limits.filter (fun l => !(l.party == c.party && l.id == c.id && l.coord == s.coord)) })
  let s2 := s1.tpMove c.party (s1.tpClaimed c.party - c.frames)
  (s2.setFld TL_STATUS_CTX_USED (s2.fld TL_STATUS_CTX_USED - 1)).setFld (TL_POOL_STAT_CONTEXTS c.party)
    (s2.fld (TL_POOL_STAT_CONTEXTS c.party) - 1)

/-- The point before which every contribution of a slot has been taken (R166). -/
def TCtx.takenPoint (c : TCtx) (i : Nat) (t : TSlot) : Nat :=
  match (c.win.filter (fun k => c.expects t k.g && !c.tookAll k i t)).head? with
  | some k => k.g
  | none => c.limit

/-- The CREDIT payload (R166). -/
def creditPayload (chunks taken limit : Nat) : List Byte :=
  natLE 2 (taken / chunks) ++ natLE 4 (taken % chunks) ++ natLE 2 (limit / chunks) ++ natLE 4 (limit % chunks)

/-- The CREDIT of a context to a contributing slot (R166). -/
def State.creditTo (s : State) (c : TCtx) (x : Nat × TSlot) : State :=
  s.toSlot c 0x53 x.1 x.2 c.oldest 0 0 (creditPayload c.chunks (c.takenPoint x.1 x.2) c.limit)

/-- CREDITs owed are sent: to each contributing slot once the limit has advanced by CREDIT_BATCH, and at a round's end
(R166); none in PHASE 0x6, whose end sends those of a round's end (R182). -/
def State.sendCredits (s : State) (c : TCtx) (roundEnd : Bool) : State :=
  if c.op = 0x0A then s
  else if s.phase = 6 then (if roundEnd then s.putCtx { c with creditDue := true } else s)
  else
  let due := c.slotsNo.filter (fun x => x.2.contrib &&
    (roundEnd || decide (sparseGet c.window c.credited x.1 + s.fld TL_CTRL_CREDIT_BATCH ≤ c.limit)))
  let s1 := due.foldl (fun s x => s.creditTo c x) s
  due.foldl (fun s x => match s.ctxAt? c.idx with
    | some c' => s.putCtx { c' with credited := sparseInsert x.1 c.limit (sparseErase c'.credited x.1) }
    | none => s) s1

/-- The CREDITs that fell due in PHASE 0x6 go out when it has ended, those of contexts that ended in it too (R166, R182). -/
def State.resumeCredits (s : State) : State :=
  let s1 := s.tally.owed.foldl (fun s c => (c.slotsNo.filter (fun x => x.2.contrib)).foldl (fun s x => s.creditTo c x) s)
    (s.modTally (fun t => { t with owed := [] }))
  s1.tally.ctxs.foldl (fun s c => (s.putCtx { c with creditDue := false }).sendCredits { c with creditDue := false } c.creditDue) s1

/-- The window brought to a new oldest chunk: positions that open are blank and open now (R166, R191); a failed round has none. -/
def TCtx.openTo (c : TCtx) (oldest at_ : Nat) : TCtx :=
  let lim := min (oldest + c.window) (c.rounds * c.chunks)
  let next := max oldest c.limit
  let new := ((List.range (lim - next)).map (fun i => blankChunk (next + i) at_)).filter (fun k => !c.failedRounds.contains (k.g / c.chunks))
  { c with oldest := oldest, win := c.win.filter (fun k => decide (oldest ≤ k.g)) ++ new }

/-- The window slides to the oldest chunk not yet freed, past the chunks of failed rounds. -/
def TCtx.slide : Nat → TCtx → Nat → TCtx
  | 0, c, _ => c
  | n + 1, c, at_ =>
    let o := (c.win.head?.map (·.g)).getD c.limit
    let o1 := if c.failedRounds.contains (o / c.chunks) then (o / c.chunks + 1) * c.chunks else o
    let c1 := c.openTo o1 at_
    if c1.win.isEmpty && decide (o1 < c.rounds * c.chunks) then TCtx.slide n c1 at_ else c1

/-- The window at its place; a dispatch tally has none, and its place is a round's start. -/
def TCtx.settle (c : TCtx) (at_ : Nat) : TCtx :=
  if c.op = 0x0A then { c with oldest := max c.oldest ((c.round + (if c.failedRounds.contains c.round then 1 else 0)) * c.chunks) }
  else TCtx.slide (c.failedRounds.length + 2) c at_

/-- The context moves on from the rounds that have ended: COMPLETE goes out for a round whose last chunk has been freed (R189),
a failed round has sent its own; after the last round the context ends (R165). DESIGN CHOICE: where a later round's last chunk is freed before an earlier
round has ended, its record waits, and the records go out in the order of the rounds (log entry 166). -/
def State.closeRounds : Nat → State → Nat → State
  | 0, s, _ => s
  | n + 1, s, idx => match s.ctxAt? idx with
    | none => s
    | some c =>
      if c.oldest < (c.round + 1) * c.chunks then s
      else
        let s1 := if c.failedRounds.contains c.round then s else s.sendComplete c c.round 0
        if c.rounds ≤ c.round + 1 then (if s1.phase = 6 ∧ c.creditDue then s1.modTally (fun t => { t with owed := t.owed ++ [c] }) else s1).endCtx c
        else
          let c1 := { c with round := c.round + 1, dests := [], asks := 0, heardAt := none, stats := sparseErase c.stats c.round, firsts := sparseErase c.firsts c.round }
          State.closeRounds n (s1.putCtx c1) idx

/-- After chunks have been freed: the window, the credit, the rounds. `forced`: CREDIT goes to every slot. -/
def State.advance (s : State) (c : TCtx) (forced : Bool) : State :=
  let c1 := c.settle s.free
  let c2 := { c1 with doneTicks := c1.doneTicks.filter (fun x => decide (c1.oldest ≤ x.1 + 1)) }
  let ends := (List.range (c2.oldest / c2.chunks - c2.round)).any (fun i => !c2.failedRounds.contains (c2.round + i))
  State.closeRounds (c2.oldest / c2.chunks - c2.round + 1) ((s.putCtx c2).sendCredits c2 (forced || ends)) c.idx

/-- A chunk's tally frames are freed (R184): the window advances, credit is sent, and a finished round is recorded. -/
def State.freeChunk (s : State) (c : TCtx) (g : Nat) : State :=
  s.advance { c with win := c.win.filter (fun k => k.g != g) } false

/-- A chunk is freed when its result is held and every receiving slot is done (R184). -/
def State.freeIfDone (s : State) (idx g : Nat) : State :=
  match s.ctxAt? idx with
  | none => s
  | some c => match c.chunk? g with
    | none => s
    | some k => if k.result.isSome && k.recvs.all (·.done) then s.freeChunk c g else s

/-- The result of a chunk sent to several endpoint slots: one stored frame with a copy for each (R125, R183). -/
def State.castResult (s : State) (c : TCtx) (k : TChunk) (rs : List (Nat × TSlot)) : State :=
  match k.result with
  | none => s
  | some (b, fl) => s.agentCast 1 (tallyFrame c.party 0x51 s.coord 0 (tallyAddr c.id (k.g % c.chunks) 0 0 (k.g / c.chunks)) (fl % 64) b)
      (rs.map (fun x => ⟨x.2.port, 0, 0, 3, false, x.2.port, some (x.1, x.2.rank)⟩))

/-- A held result goes to every slot the chunk reaches (R183); a fenced endpoint slot counts as missed (R195). -/
def State.distribute (s : State) (idx g : Nat) : State :=
  match s.ctxAt? idx with
  | none => s
  | some c => match c.chunk? g with
    | none => s
    | some k =>
      let rs := c.slotsNo.filter (fun x => c.reaches x.2 g)
      let fenced := fun (t : TSlot) => !t.isModule && s.regBit SW_FENCE t.port
      let k1 := { k with recvs := rs.map (fun x => ⟨x.1, 0, s.free, fenced x.2⟩) }
      let missed := (rs.filter (fun x => fenced x.2)).map (·.1)
      let fl := (k.result.map (·.2)).getD 0
      let c1 := (c.putChunk k1).modStat (g / c.chunks) (fun t => { t with
        flags := orFlag t.flags fl, missed := t.missed ++ missed.filter (fun i => !t.missed.contains i) })
      let here := rs.filter (fun x => !x.2.isModule)
      let single := if 2 ≤ here.length then rs.filter (fun x => x.2.isModule) else rs
      let s1 := single.foldl (fun s x => s.sendResult c1 k1 x.1 x.2) (s.putCtx c1)
      (if 2 ≤ here.length then s1.castResult c1 k1 here else s1).freeIfDone idx g

/-- A receiving slot is done with a chunk, missed or not (R184, R190). -/
def State.recvDone (s : State) (c : TCtx) (k : TChunk) (slot : Nat) (missed : Bool) : State :=
  let k1 := { k with recvs := k.recvs.map (fun r => if r.slot = slot then { r with done := true } else r) }
  let c1 := (c.putChunk k1).modStat (k.g / c.chunks) (fun t => { t with
    missed := if missed && !t.missed.contains slot then t.missed ++ [slot] else t.missed })
  (s.putCtx c1).freeIfDone c.idx k.g

/-! ### Fields of a tally frame's ADDRESS (R159) -/

/-- TALLY_ID. -/
def tId (f : Frame) : Nat := bitsOf f.address 11 0
/-- CHUNK. -/
def tChunk (f : Frame) : Nat := bitsOf f.address 32 12
/-- PART. -/
def tPart (f : Frame) : Nat := bitsOf f.address 34 33
/-- SLOT. -/
def tSlot (f : Frame) : Nat := bitsOf f.address 41 35
/-- ROUND, mod 256. -/
def tRound (f : Frame) : Nat := bitsOf f.address 49 42

/-- The round a number mod 256 stands for: the nearest to the one in progress (log entry 53). -/
def TCtx.roundOf (c : TCtx) (r : Nat) : Nat :=
  let d := (r + 256 - c.round % 256) % 256
  if d < 128 ∨ c.round + d < 256 then c.round + d else c.round + d - 256

/-- The chunk number a frame names. -/
def TCtx.gOf (c : TCtx) (f : Frame) : Nat := c.roundOf (tRound f) * c.chunks + tChunk f

/-- The context a frame names. -/
def State.ctxOf (s : State) (f : Frame) : Option TCtx := s.ctx? f.party (tId f)

/-- A RESULT copy that was discarded at a fenced port: its slot is shown missed (R195). -/
def State.resultMissed (s : State) (f : Frame) : State :=
  if f.kind = 0x51 ∧ f.srcCoord = s.coord ∧ f.srcPort = 0xF1 then
    match s.ctxOf f with
    | none => s
    | some c => match c.chunk? (c.gOf f) with
      | none => s
      | some k => if k.recvs.any (fun r => r.slot == tSlot f && !r.done) then s.recvDone c k (tSlot f) true else s
  else s

/-- STATUS of a COMPLETE record for a failure's reason (R189, R192). -/
def failStatus (reason : Nat) : Nat := if reason ≤ 3 then 1 else if reason = 4 then 2 else 4

/-- The FAIL payload (R192). -/
def failPayload (reason round chunk : Nat) : List Byte :=
  natLE 1 reason ++ zeroBytes 1 ++ natLE 2 round ++ natLE 4 (chunk % 2 ^ 21)

/-- A tally fails a round (R192, R193): FAIL goes to every slot and the parent but the one it came from, the round's frames
are freed, COMPLETE goes out and the window moves past the round (log entry 52). -/
def State.failRound (s : State) (c : TCtx) (r reason chunk : Nat) (fromSlot : Option Nat) (fromParent : Bool) : State :=
  if r < c.round ∨ c.rounds ≤ r ∨ c.failedRounds.contains r then s
  else
    let g := r * c.chunks + chunk % c.chunks
    let pay := failPayload reason r chunk
    let s1 := c.slotsNo.foldl (fun s x => if fromSlot = some x.1 then s else s.toSlot c 0x55 x.1 x.2 g 0 0 pay) s
    let s2 := if c.root || fromParent then s1 else s1.toParent c 0x55 g 0 pay
    let c1 := { c with win := c.win.filter (fun k => k.g / c.chunks != r), failedRounds := c.failedRounds ++ [r] }
    ((s2.putCtx c1).sendComplete c1 r (failStatus reason)).advance c1 true

/-- The rounds of a tally in progress: its oldest, and those with a chunk in the window. -/
def TCtx.openRounds (c : TCtx) : List Nat := (c.round :: c.win.map (fun k => k.g / c.chunks)).eraseDups

/-- Every tally fails each of its rounds in progress with a reason (R398). -/
def State.failAll (s : State) (reason : Nat) : State :=
  s.tally.ctxs.foldl (fun s c => c.openRounds.foldl (fun s r => match s.ctxAt? c.idx with
    | some x => s.failRound x r reason 0 none false
    | none => s) s) s

end Sys2Proof.Machine
end

