-- ==== Sys2Proof/Machine/PortOps.lean ====
section
/-! DEFINITION. What the switch does at a port: sending a frame whole or spoiled (R111), the replay store (R373), credit,
and a port that leaves the up state (R88, R121, R126). -/

namespace Sys2Proof.Machine

/-! ### Slots and codewords (R366, R367; log entry 6) -/

/-- Slots of a frame (R366). -/
def frameSlots (f : Frame) : Nat := ceilDiv (frameBytes f) 64

/-- Where a frame's slots lie: its first codeword and slot, the codewords it takes, and what follows it, as in `PortCtl.txSeq`. -/
structure SlotRun where
  first : Nat
  firstSlot : Nat
  words : Nat
  seq : Nat
  slot : Nat
  stop : Nat
  deriving DecidableEq, Repr

/-- `n` slots from a tick on: behind the frame before while its last codeword lasts (`here`: wherever that is), else in a fresh codeword. `cw`: the
ticks of a codeword. -/
def placeSlots (seq slot stop : Nat) (here : Bool) (now cw n : Nat) : SlotRun :=
  let packed := slot ≠ 0 ∧ (here ∨ now < stop)
  let q := if slot = 0 ∨ packed then seq else seq + 1
  let l := if packed then slot else 0
  let base := if packed then max stop now else max stop now + cw
  { first := q % 4096, firstSlot := l, words := ceilDiv (l + n) 10, seq := (q + (l + n) / 10) % 4096, slot := (l + n) % 10,
    stop := base + (ceilDiv (l + n) 10 - 1) * cw }

/-- Ticks of a codeword of a port (R365): 640 bytes of frame data. -/
def State.codewordTicks (s : State) (p : Nat) : Nat := s.serialTicks p 640

/-- Codewords that a port's replay store holds at most (R373). -/
def State.storeCap (s : State) (p : Nat) : Nat := 25 * 2 ^ s.fld (LN_PORT_W0_WIDTH_CFG p)

/-- Number of the oldest codeword not acknowledged. -/
def PortCtl.oldest (c : PortCtl) : Nat := (c.store.head?.map (·.1)).getD c.txSeq

/-- Codewords that the frames in a port's replay store take; what exceeds the store is sent when room comes (R373). -/
def PortCtl.stored (c : PortCtl) : Nat :=
  if c.store.isEmpty then 0 else (c.txSeq + (if c.txSlot = 0 then 0 else 1) + 4096 - c.oldest) % 4096

/-! ### Seals (R80, R111) -/

/-- A frame's header (R80). -/
def headerBytes (f : Frame) : List Byte :=
  natLE 4 (f.kind + f.vc * 2 ^ 8 + f.dl * 2 ^ 11 + f.dim * 2 ^ 12 + f.closing.toNat * 2 ^ 14 + f.epoch * 2 ^ 15 + f.destKind * 2 ^ 16 +
    f.spray * 2 ^ 18 + f.detour.toNat * 2 ^ 20 + f.colour * 2 ^ 21) ++ natLE 4 (f.party + f.srcRank * 2 ^ 12) ++ natLE 4 f.dstRank ++
  natLE 4 (f.dstCoord + f.dstPort * 2 ^ 11 + f.srcCoord * 2 ^ 19) ++ natLE 2 f.stream ++ natLE 2 f.seq ++
  natLE 4 (f.payload.length + f.srcPort * 2 ^ 13 + f.streamValid.toNat * 2 ^ 21) ++ natLE 8 (f.address + f.tag * 2 ^ 50)

/-- The seal of a frame: the CRC-32C over header and payload (R80, R111). -/
def frameSeal (f : Frame) : Nat := crc32c 0xFFFFFFFF (headerBytes f ++ f.payload)

/-- A frame's header as a copy of it leaves (R81, R83, R87), with the receiver's SLOT and rank in a replicated result (R159, R183). -/
def outHeader (d : Desc) (c : Copy) : Frame :=
  let f := { d.frame with dl := c.dl, dim := c.dim, detour := c.detour, dstPort := c.dstPort }
  match c.slot with
  | none => f
  | some (i, r) => { f with dstRank := r, address := f.address - bitsOf f.address 41 35 * 2 ^ 35 + i * 2 ^ 35 }

/-- The codewords of a frame sent on a fabric port enter the replay store, with its end: whole or spoiled (R111, R373). -/
def State.storeFrame (s : State) (p : Nat) (f : Frame) (spoiled : Bool) : State :=
  s.modPort p (fun c =>
    let r := placeSlots c.txSeq c.txSlot c.txStop false s.free (s.codewordTicks p) (frameSlots f)
    { c with
      txSeq := r.seq, txSlot := r.slot, txStop := r.stop,
      ackAt := if c.store.isEmpty then s.free else c.ackAt,
      store := c.store ++ [(r.first, r.words, f, spoiled)] })

/-- Credit of a class and sub-class taken by a frame on a port (R120). -/
def State.useCredit (s : State) (o k : Nat) : State :=
  s.modSw (fun w => { w with txCredit := sparseSet 0 w.txCredit o (sparseGet 0 w.txCredit o - k) })

/-- An Ethernet frame ended spoiled: its FCS is the complement of the correct one (R111). -/
def spoiledEth (b : List Byte) : List Byte := b.take (b.length - 4) ++ natLE 4 (0xFFFFFFFF - ethFcs (b.take (b.length - 4)))

/-- A copy leaves on its port, whole or spoiled (R111): fabric frames enter the replay store, Ethernet frames go as they are. A
spoiled fabric frame is followed by the SPOIL block, which carries the complement of its seal (R368). -/
def State.emit (s : State) (d : Desc) (c : Copy) (spoiled : Bool) : State :=
  if s.portKind c.out = 3 then
    s.sentEth c.out (if spoiled then spoiledEth (d.eth.getD d.frame.payload) else d.eth.getD d.frame.payload) spoiled
  else
    let f := outHeader d c
    let s1 := (s.sentFrame c.out f spoiled).storeFrame c.out f spoiled
    if spoiled then s1.sentCtrl c.out (.spoil (0xFFFFFFFF - frameSeal f)) else s1

/-- A frame that cannot be finished: copies being sent end spoiled (R111), the others are discarded; the number of
copies that were being sent decides the counter. -/
def State.killFrame (s : State) (id : Nat) (stored : Nat) : State :=
  match s.desc? id with
  | none => s
  | some d =>
    let mine := s.sw.copies.filter (fun c => c.desc == id)
    let started := mine.filter (fun c => c.started)
    let s1 := started.foldl (fun s c => s.emit d c true) s
    let s2 := mine.foldl (fun s c => s.dropCopy c) s1
    let s3 := if started.isEmpty then (if stored = 0 then s2 else s2.count stored) else s2.count SW_SPOIL_TX
    (s3.modSw (fun w => { w with rx := w.rx.filter (fun r => r.2 != id) })).reap id

/-- A frame on the first leg of a detour that is lost before it has entered the store gives its bundle's credit back (R87); one that the far end
sends again keeps it. -/
def State.detourLost (s : State) (id : Nat) : State :=
  match s.desc? id with
  | some d => if d.frame.detour && d.owner != detourOwner then s.detourBack d.inPort else s
  | none => s

/-- The frame a port is receiving, if any. -/
def State.rxOf (s : State) (p : Nat) : Option Nat := (s.sw.rx.find? (fun r => r.1 == p)).map (·.2)

/-- A replay is asked for from a codeword and slot (R374): REPLAY_REQ goes out and is counted. -/
def State.askReplay (s : State) (p seq slot : Nat) : State :=
  ((s.modPort p (fun c => { c with
      rxSeq := seq,
      rxSlot := 0,
      waiting := true,
      asked := some (seq, slot, s.free, match c.asked with
        | some (q, l, _, n) => if q = seq ∧ l = slot then n + 1 else 1
        | none => 1) })).count (LN_PORT_W5 p)).sentCtrl p (.replayReq seq slot)

/-- Where the next frame received begins: its codeword and slot (R366, R367). -/
def State.rxPoint (s : State) (p : Nat) : Nat × Nat :=
  let c := s.port p
  if c.rxSlot = 0 ∨ c.rxHere ∨ s.free < c.rxStop then (c.rxSeq, c.rxSlot) else ((c.rxSeq + 1) % 4096, 0)

/-- ACK_SEQ (R368, R373): the codeword in which the frame being received began, or the next one to come. -/
def State.ackSeq (s : State) (p : Nat) : Nat := if (s.rxOf p).isSome then (s.port p).rxStart else (s.rxPoint p).1

/-- The point to ask a replay from: where the incomplete frame began, or the codeword after the last one received (R374). -/
def State.resumePoint (s : State) (p : Nat) : Nat × Nat :=
  if (s.rxOf p).isSome then ((s.port p).rxStart, (s.port p).rxStartSlot)
  else if (s.rxPoint p).2 = 0 then s.rxPoint p else (((s.rxPoint p).1 + 1) % 4096, 0)

/-- Cut-through is allowed for a copy whose frame is still arriving (R110). -/
def State.cutOk (s : State) (d : Desc) (c : Copy) : Bool :=
  c.cut && !c.held && decide (c.out < 256) && decide (s.portRate c.out ≤ s.portRate d.inPort) && !s.flag (SW_PORT_CFG_CT_DIS c.out) &&
  !s.flag (SW_PORT_CFG_CT_DIS d.inPort)

/-- The frame a port is receiving is discarded (R121, R374). One that met the conditions of R110 and has not begun is counted as a stored frame is
whose seal fails (R111, R113). -/
def State.abortRx (s : State) (p : Nat) : State :=
  match s.rxOf p with
  | none => s.modSw (fun w => { w with rxGone := w.rxGone.filter (· != p) })
  | some id => match s.desc? id with
    | none => s
    | some d => s.killFrame id (if s.sw.copies.any (fun c => c.desc == id && s.cutOk d c) then SW_DROP_SEAL else 0)

/-- A copy whose port or bundle has gone is discarded and counted; a VC0 frame gets an ERROR reply (R88, R126, R384). -/
def State.dropStranded (s : State) (c : Copy) : State :=
  let f? := (s.desc? c.desc).map (·.frame)
  let s1 := ((s.dropCopy c).count SW_DROP_UNREACH).reap c.desc
  match f? with
  | some f => if f.vc = 0 ∧ !c.mcast then s1.errorReply f 2 else s1
  | none => s1

/-- Frames queued for a port that is no longer up are discarded and counted (R88, R126, R384). -/
def State.dropQueued (s : State) (p : Nat) (alsoStarted : Bool) : State :=
  (s.sw.copies.filter (fun c => c.out == p && (alsoStarted || !c.started))).foldl (fun s c => s.dropStranded c) s

/-- Frames queued for a bundle are discarded and counted, but those of the kinds named (R68, R88). -/
def State.dropBundle (s : State) (b : Nat) (keep : List Nat) : State :=
  (s.sw.copies.filter (fun c => s.bundleOf c.out == some b && !c.started &&
    !(s.desc? c.desc).any (fun d => keep.contains d.frame.kind))).foldl (fun s c => s.dropStranded c) s

/-- A bundle whose far end is wrong is held down (R68): what is queued for it is discarded, its identity frames apart. -/
def State.holdDown (s : State) (b : Nat) : State :=
  (s.modSw (fun w => { w with miscabled := if w.miscabled.contains b then w.miscabled else w.miscabled ++ [b] })).dropBundle b [0x72]

/-- The bundles whose next module the dead map marks (R86, R88). -/
def State.deadAhead (s : State) : List Nat :=
  (List.range 6).filter (fun b => !s.flag DV_COORD_OPEN_MODE && s.dead (s.neighbour s.coord (b / 2) (b % 2 == 0)))

/-- Lanes of a port's configured run (R362). -/
def State.runLanes (s : State) (p : Nat) : Nat := 2 ^ s.fld (LN_PORT_W0_WIDTH_CFG p)

/-- Module lane of a port's lane index. -/
def State.laneNo (s : State) (p k : Nat) : Nat := s.fld (LN_PORT_W0_FIRST_LANE p) + k

/-- The lanes of a port that is not up and in no stage (R390): left out where they have a cause, else unused. -/
def State.restLanes (s : State) (p : Nat) : State :=
  (List.range (s.runLanes p)).foldl (fun s k =>
    s.setFld (LN_LANE_W0_STATE (s.laneNo p k)) (if s.fld (LN_LANE_W0_CAUSE (s.laneNo p k)) = 0 then 0 else 10)) s

/-- The owners of a port (R118). -/
def portOwners (p : Nat) : List Nat := (List.range 12).map (fun i => 16 * p + i)

/-- The time root no longer follows a 1588 port that is down (R48, R62). -/
def State.dropPtp (s : State) (p : Nat) : State :=
  if s.flag BT_STATUS_PTP_LOCKED && s.fld BT_ROOT_PTP_PORT == p then s.setFld BT_STATUS_PTP_LOCKED 0 else s

/-- What leaving the up state does in the switch (R121): frames being received are discarded, HELD returns to the pool,
credits are void. -/
def State.leaveSwitch (s : State) (p : Nat) : State :=
  let s1 := (s.dropPtp p).abortRx p
  let s2 := (portOwners p).foldl (fun s o => s.dropHeld o) s1
  s2.modSw (fun w => { w with
    txCredit := w.txCredit.filter (fun e => e.1 / 16 != p),
    txCum := w.txCum.filter (fun e => e.1 / 16 != p),
    rxCum := w.rxCum.filter (fun e => e.1 / 16 != p),
    sinkSince := w.sinkSince.filter (fun e => e.1 / 8 != p) })

/-- What leaving the up state does to the link: codeword numbers, stores and requests start anew (R121, R373). -/
def State.leaveLink (s : State) (p : Nat) : State :=
  s.modPort p (fun c => { c with
    txSeq := 0, txSlot := 0, txStop := 0, rxSeq := 0, rxSlot := 0, rxStop := 0, rxHere := false, ackSent := 0, credSent := [], rxStart := 0, rxStartSlot := 0,
    store := [], asked := none, waiting := false, replaying := none, narrowing := none, narrowDue := none, heldReq := none, partner := none, txWaking := none, wokeAt := none, rxTick := 0, musterAt := none, musterFails := 0 })

/-- The port leaves the up state: R121. -/
def State.leaveUp (s : State) (p : Nat) : State := (s.leaveSwitch p).leaveLink p

/-- Class and sub-class of the owners with their place. -/
def classSubs : List (Nat × Nat) := [0, 1, 2, 3, 4, 5].flatMap (fun c => [(c, 0), (c, 1)])

/-- The cumulative credit counts of a port's owners (R121, R368). -/
def State.creditSums (s : State) (p : Nat) : List Nat := classSubs.map (fun x => sparseGet 0 s.sw.rxCum (portOwner p x.1 x.2))

end Sys2Proof.Machine
end

