-- ==== Sys2Proof/Machine/WatchOps.lean ====
section
/-! DEFINITION. The watch's acceptance of fault messages (R391 to R400): severity, first-error bits, the queue, and the
actions of the two fatal classes (R398, R399). -/

namespace Sys2Proof.Machine

/-- Default severity of a KIND (R395): 0 for one that is not listed (R402). -/
def kindSeverity (k : Nat) : Nat :=
  if [0x02, 0x03, 0x04].contains k then 5
  else if [0x3B, 0x3C].contains k then 4
  else if [0x09, 0x0A, 0x13, 0x18, 0x25, 0x26, 0x27, 0x35, 0x37, 0x39].contains k then 3
  else if [0x06, 0x07, 0x0C, 0x12, 0x14, 0x22, 0x23].contains k then 2
  else if [0x01, 0x05, 0x08].contains k then 1
  else 0

/-- The severity the watch applies (R397). -/
def State.severity (s : State) (source kind : Nat) : Nat :=
  let d := kindSeverity kind
  if d = 5 then 5 else if s.flag (WATCH_SEV_OVERRIDE source) then s.fld (WATCH_SEV_SEV source) else d

/-- A fault message's word (R391). -/
def faultWord (source kind sev address : Nat) : Word :=
  placed source 63 54 ||| placed kind 53 48 ||| placed sev 47 45 ||| placed address 39 0

/-- The first switch-cycle edge not before a tick of the free-running count, on that count: edges lie at fixed places of bell time (R53). -/
def State.edgeFrom (s : State) (t : Nat) : Nat := t + scEdge (s.now + (t - s.free)) - (s.now + (t - s.free))

/-- The edge on which the watch accepts a message that reaches it now, and how many it has taken on that edge (R392): the coming edge, and while
four have been taken on it, the next. -/
def State.acceptEdge (s : State) : Nat × Nat :=
  let e := s.edgeFrom s.free
  if s.watch.edge < e then (e, 0)
  else if s.watch.taken < 4 then (s.watch.edge, s.watch.taken)
  else (s.edgeFrom (s.watch.edge + 1), 0)

/-- Bell time of the edge on which the watch accepts a message that reaches it now (R391). -/
def State.acceptTick (s : State) : Nat := s.now + (s.acceptEdge.1 - s.free)

/-- A message enters the queue (R392): among those taken on the same edge it stands in ascending order of SOURCE. -/
def State.enterWatch (s : State) (m : Word) : State :=
  let (e, n) := s.acceptEdge
  let same := min n s.watch.queue.length
  let (before, group) := s.watch.queue.splitAt (s.watch.queue.length - same)
  let (low, high) := group.span (fun x => decide (bitsOf x.1.toNat 63 54 ≤ bitsOf m.toNat 63 54))
  s.modWatch (fun _ => { queue := before ++ low ++ [(m, s.acceptTick)] ++ high, edge := e, taken := n + 1 })

/-- A message taken by the watch (R392, R400): the first-error bit of its source for CONTAINED or graver, WORST, and the
queue, or WATCH_LOST and RING_LOST when the queue is full. -/
def State.accept (s : State) (source kind sev address : Nat) : State :=
  let s1 := if 2 ≤ sev then s.setRegBit (WATCH_FIRST (source / 64 % 16)) (source % 64) true else s
  let s2 := s1.setFld WATCH_STATUS_WORST (max sev (s1.fld WATCH_STATUS_WORST))
  if s2.watch.queue.length < 512 then
    s2.enterWatch (faultWord source kind sev address)
  else (s2.count WATCH_LOST).raise WATCH_ERR_RING_LOST

/-- A mailbox STOPOVER learns its result (R437). -/
def State.stopAnswer (s : State) (result : Nat) : State :=
  if !s.health.stopMailbox then s
  else (s.modHealth (fun h => { h with stopMailbox := false })).modHost
    (fun h => { h with background := h.background.map (fun b => { b with payload := [BitVec.ofNat 8 result], ready := true }) })

/-- A stopover has ended with a result (R417): shown, and answered to the mailbox. -/
def State.stopResult (s : State) (result : Nat) : State :=
  ((s.setFld PH_STOP_STATUS_STATE (if s.health.stopArmed then 1 else 0)).setFld PH_STOP_STATUS_RESULT result).stopAnswer result

/-- A stopover in progress is abandoned with result 0x05 (R398, R419), reported as STOPOVER_UNCONFIRMED (R417). -/
def State.abandonStop (s : State) : State :=
  if s.fld PH_STOP_STATUS_STATE < 2 then s
  else ((s.stopResult 5).setReg PH_STOP_END (BitVec.ofNat 64 s.now)).accept 0x302 0x39 (s.severity 0x302 0x39) 5

/-- The module stops serving (R396, R398): a stopover in progress is abandoned and every tally sends FAIL with reason 0x04. -/
def State.stopServing (s : State) : State := s.abandonStop.failAll 4

/-- FATAL_POWER_CYCLE (R396, R399): PHASE 0x7, with the effects of FATAL_RESET; every port's transmitter is off, the ports go down silently with CAUSE kept. -/
def State.freeze (s : State) : State :=
  if s.phase = 0 ∨ s.phase = 7 then s else
    let s0 := s.setPhase 7
    let s1 := if s.phase = 8 then s0 else s0.stopServing
    ((List.range 256).foldl (fun s p =>
      if s.fld (LN_PORT_W2_STATE p) = 0 then s
      else
        let s2 := if s.portUp p then ((s.leaveUp p).setFld (LN_PORT_W2_STATE p) 6).dropQueued p true
                  else s.setFld (LN_PORT_W2_STATE p) 6
        (s2.setFld (LN_PORT_W2_STAGE p) 0).restLanes p) s1).setFld LN_STATUS_PORTS_UP 0

/-- FATAL_RESET (R398): PHASE 0x8 from any phase from 0x1 on but 0x7 (R30); every tally sends FAIL with reason 0x04. -/
def State.halt (s : State) : State :=
  if s.phase = 0 ∨ s.phase = 7 then s
  else if s.phase = 8 then s
  else (s.setPhase 8).stopServing

/-- A fault message reaches the watch (R391 to R399). -/
def State.fault (s : State) (source kind address : Nat) : State :=
  let sev := s.severity source kind
  let s1 := s.accept source kind sev address
  if sev = 5 then s1.freeze else if sev = 4 then s1.halt else s1

end Sys2Proof.Machine
end

