-- ==== Sys2Proof/Machine/LaneOps.lean ====
section
/-! DEFINITION. What happens to a port's lanes (R364, R369 to R379): widths, lanes left out, bring-up started, ports that
go down, changes of active lanes, replays asked for. -/

namespace Sys2Proof.Machine

/-- Mask of a port's whole run. -/
def State.fullMask (s : State) (p : Nat) : Nat := 2 ^ s.runLanes p - 1

/-- Lane indices usable at both ends (R364). -/
def State.bothUsable (s : State) (p : Nat) : Nat := (s.port p).usable &&& ((s.port p).partner.getD (s.fullMask p))

/-- A usable mask of the partner by this end's lane index (R368, R370): the partner's index W − 1 − k is this end's k where the order is reversed. -/
def State.partnerMask (s : State) (p mask : Nat) : Nat :=
  if s.flag (LN_PORT_W2_REVERSED p) then
    (List.range (s.runLanes p)).foldl (fun m k => if mask.testBit (s.runLanes p - 1 - k) then setBitOf m k else m) 0
  else mask % 2 ^ 16

/-- A lane message of the lanes block: port in [7:0], module lane in [16:8] (R387; log entry 26). -/
def State.laneFault (s : State) (p k kind : Nat) : State := s.fault (0x200 + p) kind (p + 256 * s.laneNo p k)

/-- A port message: lane index 0 of the port (R387; log entry 26). -/
def State.portFault (s : State) (p kind : Nat) : State := s.laneFault p 0 kind

/-- LN_STATUS.PORTS_UP and BRINGUP_DONE follow the ports (R388): every enabled fabric port has ended its bring-up once
none of them is bringing up or shutting down. BRINGUP_DONE ends PHASE 0x4 (R29) and starts the root's wait (R45). -/
def State.linksDone (s : State) : State :=
  if s.flag LN_STATUS_BRINGUP_DONE then s
  else
    let s1 := s.raise LN_STATUS_BRINGUP_DONE
    let s2 := s1.modBell (fun b => { b with rootWaitAt := some s1.free })
    if s2.phase = 4 then s2.setPhase 5 else s2

/-- See `State.linksDone`. -/
def State.showPorts (s : State) : State :=
  let ps := List.range 256
  let s1 := s.setFld LN_STATUS_PORTS_UP (ps.filter (fun p => s.portUp p)).length
  let busy := ps.any (fun p => [1, 2, 4].contains (s.portKind p) &&
    (s.fld (LN_PORT_W2_STATE p) == 1 || s.fld (LN_PORT_W2_STATE p) == 3))
  if s1.phase = 4 ∧ !busy then s1.linksDone else s1

/-- The lane registers of a run show a state for each lane index. -/
def State.showLanes (s : State) (p : Nat) (st : Nat → Nat) : State :=
  (List.range (s.runLanes p)).foldl (fun s k =>
    ((s.setFld (LN_LANE_W0_STATE (s.laneNo p k)) (st k)).setFld (LN_LANE_W0_PORT (s.laneNo p k)) p).setFld
      (LN_LANE_W0_INDEX (s.laneNo p k)) k) s

/-- Active lanes of a usable mask: as many as the formed width, lowest indices (R364). -/
def activeOf (u : Nat) : List Nat := (onesOf u 16).take (2 ^ (onesOf u 16).length.log2)

/-- A width can be formed from a usable mask without falling below MIN_WIDTH (R364). -/
def State.widthOk (s : State) (p u : Nat) : Bool :=
  decide (0 < (onesOf u 16).length) && decide (s.fld (LN_PORT_W0_MIN_WIDTH p) ≤ (onesOf u 16).length.log2)

/-- The port deals its symbols over the lanes that a usable mask makes active (R364, R377). -/
def State.setWidth (s : State) (p u : Nat) : State :=
  let act := activeOf u
  let s1 := (s.setFld (LN_PORT_W2_WIDTH p) (onesOf u 16).length.log2).setFld (LN_PORT_W2_ACTIVE p) (act.foldl setBitOf 0)
  s1.showLanes p (fun k => if act.contains k then 8 else if u.testBit k then 9 else 10)

/-- A lane is left out with a cause (R369, R376), and reported. -/
def State.leaveLane (s : State) (p k cause kind : Nat) : State :=
  let n := s.laneNo p k
  let s1 := (s.modPort p (fun c => { c with usable := clearBitOf c.usable k })).setFld (LN_LANE_W0_STATE n) 10
  (s1.setFld (LN_LANE_W0_CAUSE n) cause).laneFault p k kind

/-- A port is at rest in a STATE with a CAUSE: no stage, no width, no lane active or in a stage. -/
def State.restPort (s : State) (p state cause : Nat) : State :=
  let s1 := ((s.setFld (LN_PORT_W2_STATE p) state).setFld (LN_PORT_W2_STAGE p) 0).setFld (LN_PORT_W2_CAUSE p) cause
  let s2 := ((s1.setFld (LN_PORT_W2_WIDTH p) 0).setFld (LN_PORT_W2_ACTIVE p) 0).setFld (LN_PORT_W2_TX_STATE p) 0
  ((s2.setFld (LN_PORT_W2_RX_STATE p) 0).restLanes p).modPort p (fun c => { c with stageAt := s.free })

/-- In torus service a trunk port of an axis of size 1 stays down (R64), and so does an open trunk (R70, R362). -/
def State.axisShut (s : State) (p : Nat) : Bool :=
  if s.portKind p = 4 then !s.flag DV_COORD_OPEN_MODE
  else match s.bundleOf p with
  | some b => !s.flag DV_COORD_OPEN_MODE && s.axisSize (b / 2) == 1
  | none => false

/-- Bring-up starts from stage 1 (R369). Lanes left out for another cause than open or short stay out (R371, R385); a
port of a failed tile does not start (R379). -/
def State.startBringup (s : State) (p : Nat) : State :=
  if s.regBit LN_STATUS (s.tileOf p) then s.restPort p 6 6
  else if s.axisShut p then s.restPort p 6 0
  else
    let ok := (List.range (s.runLanes p)).filter (fun k => decide (s.fld (LN_LANE_W0_CAUSE (s.laneNo p k)) ≤ 2))
    let s1 := ((s.leaveLink p).restPort p 1 0).setFld (LN_PORT_W2_STAGE p) 1
    let s2 := (s1.setFld (LN_PORT_W2_REVERSED p) 0).setFld (LN_PORT_W2_V1 p) 0
    (s2.modPort p (fun c => { c with usable := ok.foldl setBitOf 0, tries := 0, checks := 0, checkBad := false, ethRow := none, symbols := [], shutAt := none
      })).showLanes p (fun k => if ok.contains k then 1 else 10)

/-- A port goes down (R378): reported, treated as R88 and R126 say, and brought up once more under AUTO_RESTART. -/
def State.portDown (s : State) (p cause : Nat) (restart : Bool) : State :=
  let was := s.portUp p
  let s1 := if was then s.leaveUp p else s.leaveLink p
  let s2 := s1.restPort p 6 cause
  let s3 := (if was then s2.dropQueued p true else s2).portFault p 0x35
  let again := restart && s3.flag LN_CTRL_AUTO_RESTART && s3.flag (LN_PORT_W1_ENABLE p) && s3.phase != 7
  (if again then s3.startBringup p else s3).showPorts

/-- A port is left out (R369), which is reported; stage 1 repeats once a second (R371). -/
def State.leaveOut (s : State) (p cause : Nat) : State :=
  (((s.leaveLink p).restPort p 4 cause).portFault p 0x36).showPorts

/-- Both directions of a port are made to wake (R386). -/
def State.wakeBoth (s : State) (p : Nat) : State :=
  let s1 := if s.fld (LN_PORT_W2_TX_STATE p) = 0 then s
    else s.modPort p (fun c => { c with txWaking := some (c.txWaking.getD s.free) })
  if s1.fld (LN_PORT_W2_RX_STATE p) = 0 then s1 else s1.sentCtrl p (.lane 3 (s1.port p).usable 0 0)

/-- A direction of a port is quiet, asleep or waking (R380). -/
def State.atRest (s : State) (p : Nat) : Bool := s.fld (LN_PORT_W2_TX_STATE p) != 0 || s.fld (LN_PORT_W2_RX_STATE p) != 0

/-- The receiving end of a version 2 port changes its active lanes (R377): NARROW goes out with the new usable mask, the
frame being received is discarded, and a replay is asked for. -/
def State.narrowNow (s : State) (p : Nat) : State :=
  let s1 := s.sentCtrl p (.lane 1 (s.port p).usable 0 0)
  let s2 := (s1.setWidth p (s.bothUsable p)).modPort p (fun c => { c with narrowing := some s.free, narrowDue := none, asked := none })
  (s2.abortRx p).askReplay p (s2.resumePoint p).1 (s2.resumePoint p).2

/-- See `State.narrowNow`: both directions wake first (R386). -/
def State.narrow (s : State) (p : Nat) : State :=
  if !s.widthOk p (s.bothUsable p) then s.portDown p 4 true
  else if s.atRest p then (s.wakeBoth p).modPort p (fun c => { c with narrowDue := some true })
  else s.narrowNow p

/-- The end that a NARROW has reached deals its symbols over the new active lanes (R377). -/
def State.dealAgain (s : State) (p : Nat) : State :=
  (s.setWidth p (s.bothUsable p)).modPort p (fun c => { c with narrowDue := none, narrowing := some (c.narrowing.getD s.free) })

/-- A change of active lanes that waited for both directions to wake runs (R386). -/
def State.narrowAwake (s : State) (p : Nat) : State :=
  match (s.port p).narrowDue with
  | none => s
  | some own => if s.atRest p then s else if !s.widthOk p (s.bothUsable p) then s.portDown p 4 true
    else if own then s.narrowNow p else s.dealAgain p

/-- Lanes of a port that is up are lost at this end (R361, R372, R376): an Ethernet port is left out, a version 1 port goes
down, a version 2 port narrows or takes in a spare. -/
def State.loseLanes (s : State) (p : Nat) (ks : List Nat) (cause : Nat) : State :=
  let s1 := ks.foldl (fun s k => s.leaveLane p k cause 0x33) s
  if ks.isEmpty then s1
  else if s.portKind p = 3 then ((s1.leaveUp p).dropQueued p true).leaveOut p 4
  else if s.flag (LN_PORT_W2_V1 p) then s1.portDown p 0 true
  else s1.narrow p

/-- Active lane indices of a port. -/
def State.activeLanes (s : State) (p : Nat) : List Nat := onesOf (s.fld (LN_PORT_W2_ACTIVE p)) 16

/-- The lane to blame after RETRY_MAX requests for one point (R376): the active one with the most corrected symbols in the
last window, the lowest index first; none when every active lane shows none. -/
def State.worstLane (s : State) (p : Nat) : Option Nat :=
  let n := fun (k : Nat) => (s.port p).symbols.getD k 0
  (s.activeLanes p).foldl (fun best k => match best with
    | none => if n k = 0 then none else some k
    | some b => if n b < n k then some k else best) none

/-- A replay is asked for (R374); at RETRY_MAX requests in a row for one point a lane is left out, or the port goes down
(R376). -/
def State.requestReplay (s : State) (p seq slot : Nat) : State :=
  let s1 := s.askReplay p seq slot
  let n := ((s1.port p).asked.map (·.2.2.2)).getD 0
  if n < s1.fld LN_CTRL_RETRY_MAX then s1
  else match s1.worstLane p with
    | some k => s1.loseLanes p [k] 5
    | none => s1.portDown p 0 true

end Sys2Proof.Machine
end

