-- ==== Sys2Proof/Machine/RegWrite.lean ====
section
/-! DEFINITION. A plain write of a register, field by field (R11, R14, R15). -/

namespace Sys2Proof.Machine

/-- Whether a value is a valid encoding of a field (R15). -/
def FieldRow.ok (f : FieldRow) (v : Nat) : Bool := f.valid.isEmpty || f.valid.any (fun r => decide (r.1 ≤ v ∧ v ≤ r.2))

/-- A word after a write of `new`, field by field (R11): RW fields take a valid value, W1C bits clear but for those in `fresh`, which hardware
has set in the same switch cycle (R13), the rest stays. -/
def writeFields (fs : List FieldRow) (old new fresh : Word) : Word :=
  fs.foldl (fun w f =>
    let v := bitsOf new.toNat f.hi f.lo
    match f.acc with
    | .ro => w
    | .wo => w
    | .rw => if f.ok v then putFld w f.hi f.lo v else w
    | .w1c => putFld w f.hi f.lo (clearMask (bitsOf old.toNat f.hi f.lo) (bitsOf (new &&& ~~~fresh).toNat f.hi f.lo) (f.hi + 1 - f.lo))
    | .rs => putFld w f.hi f.lo (clearMask (bitsOf old.toNat f.hi f.lo) (bitsOf (new &&& ~~~fresh).toNat f.hi f.lo) (f.hi + 1 - f.lo))) old

/-- The word a register would hold after a plain write. -/
def State.written (s : State) (off value : Nat) : Word :=
  match regRow? off with
  | none => s.reg off
  | some r => writeFields r.fields (s.reg off) (BitVec.ofNat 64 value) (s.roseAt off)

/-- A plain register write; an unassigned offset discards it (R28). -/
def State.writePlain (s : State) (off value : Nat) : State := s.setReg off (s.written off value)

/-- The 64-bit value that a write of `size` bytes at an offset stands for (R14): the other half of its register keeps
its RW fields and writes 0 elsewhere. -/
def State.wholeValue (s : State) (off size value : Nat) : Nat :=
  if size = 8 then value % 2 ^ 64
  else
    let home := off - off % 8
    let keep := match regRow? home with
      | none => 0
      | some r => (r.fields.foldl (fun (w : Word) f =>
          if f.acc = .rw then putFld w f.hi f.lo (bitsOf (s.reg home).toNat f.hi f.lo) else w) 0).toNat
    if off % 8 = 0 then keep / 2 ^ 32 * 2 ^ 32 + value % 2 ^ 32 else keep % 2 ^ 32 + value % 2 ^ 32 * 2 ^ 32

end Sys2Proof.Machine
end

