-- ==== Sys2Proof/Machine/Ingress.lean ====
section
/-! DEFINITION. The ingress stages of R108 as operations: rack addresses (R71, R72, R475), the lookup, policers (R127,
R128), admission of VC2 (R131, R138) and streams (R89). -/

namespace Sys2Proof.Machine

/-- Bytes an operation touches (R72): the requested length of a READ, else the payload. -/
def opLength (f : Frame) : Nat := if f.kind = 0x01 then leAt f.payload 0 2 else f.payload.length

/-- The region of R71 that a rack address lies in: 0 the pool, 1 the registers, 2 + e endpoint e's window; none reserved. -/
def rackRegion (a : Nat) : Option Nat :=
  if a < 2 ^ 40 then some 0
  else if a < 2 ^ 40 + 2 ^ 26 then some 1
  else if 2 ^ 48 ≤ a ∧ a < 2 ^ 49 then some (2 + (a - 2 ^ 48) / 2 ^ 42)
  else none

/-- Base of endpoint `e`'s window (R71). -/
def windowBase (e : Nat) : Nat := 2 ^ 48 + e * 2 ^ 42

/-- The first byte of the pool that serves stays: the rooms below are reserved (R202). -/
def reservedBytes : Nat := 32768 * 65536

/-- Whether a memory operation from endpoint port `p` is permitted, in every case of R72: the region it reaches. DESIGN CHOICE: a frame with
DEST_KIND 0 whose KIND is no memory operation reaches none, and is refused as one that is not permitted (log entry 132). -/
def State.rackCheck (s : State) (p : Nat) (f : Frame) : Option Nat :=
  let n := opLength f
  let isRead := f.kind == 0x01
  let last := f.address + n - 1
  if f.kind ≠ 0x01 ∧ f.kind ≠ 0x02 ∧ f.kind ≠ 0x03 then none
  else if isRead && f.payload.length != 8 then none
  else if n = 0 ∨ 4096 < n then none
  else match rackRegion f.address with
    | none => none
    | some r =>
      if rackRegion last ≠ some r then none
      else if r = 0 then
        (if (if isRead then s.flag (SW_EP_PERM_POOL_READ p) else s.flag (SW_EP_PERM_POOL_WRITE p)) && decide (reservedBytes ≤ f.address)
         then some 0 else none)
      else if r = 1 then
        (if (if isRead then s.flag (SW_EP_PERM_REG_READ p) else s.flag (SW_EP_PERM_REG_WRITE p)) &&
            (decide (n = 4 ∧ f.address % 4 = 0) || decide (n % 8 = 0 ∧ f.address % 8 = 0)) then some 1 else none)
      else if last - windowBase (r - 2) < 4096 * s.fld (SW_EP_PERM_WINDOW_SIZE (r - 2)) then some r else none

/-- The fate of a frame addressed by rack address (R71, R72), and its ADDRESS at the target. -/
def State.rackFate (s : State) (p : Nat) (f : Frame) : Fate × Frame :=
  match s.rackCheck p f with
  | none => (.refuse 1, f)
  | some 0 => (.go [⟨256 + 9, 0, 0, 3, false, 0xFE, none⟩], f)
  | some 1 => (.go [⟨256 + 10, 0, 0, 3, false, 0xFE, none⟩], f)
  | some r => (s.localFate f (r - 2), { f with address := f.address - windowBase (r - 2) })

/-- A port may speak for a frame's party rank: it translates to this module and that port (R77, R158). -/
def State.speaks (s : State) (f : Frame) (p : Nat) : Bool :=
  match s.translate f.party f.srcRank with
  | .ok (c, q) => c == s.coord && q == p
  | .error _ => false

/-- The fate of a frame from an endpoint port (R74 to R80, R94), with the header the ingress module writes. -/
def State.endpointFate (s : State) (p : Nat) (f0 : Frame) : Fate × Frame × State :=
  let f := { f0 with srcCoord := s.coord, srcPort := p, dl := 0, detour := false, spray := s.sprayOf f0 }
  if f.destKind = 0 then
    let (r, g) := s.rackFate p f
    (r, g, s)
  else if f.destKind = 1 then
    if !s.speaks f p then
      (.drop SW_DROP_SPOOF, f, s.fault 0x040 0x10 p)
    else match s.translate f.party f.dstRank with
      | .error e => (.refuse e, f, s)
      | .ok (c, q) =>
        let g := { f with dstCoord := c, dstPort := q }
        let (r, s') := s.routeStart g c
        (r, g, s')
  else if f.destKind = 2 then (s.coachFate f p none, f, s)
  else
    let (r, s') := s.routeStart f f.dstCoord
    (r, f, s')

/-- The fate of a frame from a trunk port in torus service (R73, R81, R87, R88, R95). A bundle that is held down carries its identity frames
alone (R68); DESIGN CHOICE: what else arrives on it is discarded and counted as unreachable (log entry 133). -/
def State.trunkFate (s : State) (p : Nat) (f : Frame) : Fate × Frame × State :=
  match s.bundleOf p with
  | none => (.discard, f, s)
  | some b =>
    if f.destKind = 0 then (.drop SW_DROP_RACK, f, s)
    else if s.sw.miscabled.contains b ∧ f.kind ≠ 0x72 then (.drop SW_DROP_UNREACH, f, s)
    else if f.kind = 0x60 ∨ f.kind = 0x72 then (.go [⟨256 + 11, 0, 0, 3, false, f.dstPort, none⟩], f, s)
    else if f.destKind = 2 then (s.coachFate f p (some b), f, s)
    else if f.detour then (.go [⟨300, 0, 0, 3, false, f.dstPort, none⟩], f, s)
    else
      let (r, s') := s.routeTransit f b
      (r, f, s')

/-- The fate of a frame from an open trunk (R70, R73). DESIGN CHOICE: one of another class, or not addressed by module coordinate, is counted as
one of another coordinate is (log entry 130). -/
def State.openFate (s : State) (f : Frame) : Fate × Frame × State :=
  if f.destKind = 0 then (.drop SW_DROP_RACK, f, s)
  else if (f.vc ≠ 0 ∧ f.vc ≠ 1 ∧ f.vc ≠ 5) ∨ f.destKind ≠ 3 ∨ f.dstCoord ≠ s.coord then (.drop SW_DROP_UNREACH, f, s)
  else (s.localFate f f.dstPort, f, s)

/-- A carry frame on its way to the bridge (R141): from an endpoint, on VC2, to this module's coordinate and logical port 0xFF. -/
def State.carryOk (s : State) (p : Nat) (f : Frame) : Bool :=
  s.portKind p == 1 && f.vc == 2 && f.destKind == 3 && f.dstCoord == s.coord && f.dstPort == 0xFF

/-- Lookup and route of a frame at a port (R108 stages 1 to 3). -/
def State.lookup (s : State) (p : Nat) (f : Frame) : Fate × Frame × State :=
  if 6 ≤ f.vc ∨ 4 ≤ f.destKind ∨ (s.portKind p = 1 ∧ !kindListed f.kind) then (.drop SW_DROP_RANK, f, s)
  else if f.closing ∧ (3 ≤ f.vc ∨ f.destKind = 2) then (.drop SW_DROP_STREAM, f, s)
  else if f.kind = 0x10 ∧ !s.carryOk p f then (.drop SW_DROP_ETH, f, s)
  else if f.destKind = 2 ∧ (f.vc ≤ 1 ∨ f.vc = 5) then (.discard, f, s)
  else if s.portKind p = 1 then s.endpointFate p f
  else if s.flag DV_COORD_OPEN_MODE then s.openFate f
  else s.trunkFate p f

/-- A policer's buckets filled up to the present tick (R127): units of 1/640 byte, CIR and PIR units a tick. -/
def State.buckets (s : State) (m : Nat) : Buckets :=
  let cbs := 640 * s.fld (SW_POL_W0_CBS m)
  let pbs := 640 * s.fld (SW_POL_W1_PBS m)
  let b := sparseGet ⟨cbs, pbs, s.free⟩ s.sw.policers m
  let dt := s.free - b.at_
  ⟨min cbs (b.tc + dt * s.fld (SW_POL_W0_CIR m)), min pbs (b.tp + dt * s.fld (SW_POL_W1_PIR m)), s.free⟩

/-- The decision of a policer for `n` bytes (R127): 0 green, 1 yellow, 2 red. -/
def State.police (s : State) (m n colourIn : Nat) : Nat × State :=
  let b := s.buckets m
  let put := fun (x : Buckets) => s.modSw (fun w => { w with policers := sparseInsert m x (sparseErase w.policers m) })
  if b.tp < 640 * n then (2, put b)
  else if b.tc < 640 * n ∨ (s.flag (SW_POL_W0_AWARE m) ∧ colourIn = 1) then (1, put { b with tp := b.tp - 640 * n })
  else (0, put { b with tp := b.tp - 640 * n, tc := b.tc - 640 * n })

/-- The colour a frame carries on (R128), or none for a red VC2 frame. -/
def State.colour (s : State) (p : Nat) (f : Frame) : Option Frame × State :=
  let n := frameBytes f
  if f.vc = 2 then
    let cin := if f.colour = 0 then 0 else 1
    if s.flag (SW_POL_W0_ENABLE (2 * p + 1)) then
      let (c, s') := s.police (2 * p + 1) n cin
      (if c = 2 then none else some { f with colour := c }, s')
    else (some { f with colour := cin }, s)
  else if f.vc = 0 then
    if s.flag (SW_POL_W0_ENABLE (2 * p)) then (some f, (s.police (2 * p) n 0).2) else (some f, s)
  else (some { f with colour := 0 }, s)

/-- Random early drop of a VC2 frame at a queue (R131): the counter it is dropped under, if any. -/
def State.red (s : State) (p sub : Nat) (colour : Nat) : Option Nat × State :=
  let e := 8 * p + 2
  if !s.flag (SW_EGRESS_RED_EN e) then (none, s)
  else
    let k := s.fld (SW_EGRESS_RED_PROFILE e)
    let off := if colour = 0 then SW_RED_G k else SW_RED_Y k
    let w := s.fld ⟨off, 51, 48⟩
    let maxP := s.fld ⟨off, 47, 40⟩
    let maxTh := s.fld ⟨off, 39, 20⟩
    let minTh := s.fld ⟨off, 19, 0⟩
    let queue := portOwner p 2 sub
    let q := s.fld (SW_QLEN_CELLS queue)
    let old := sparseGet 0 s.sw.redAvg queue
    let avg := ((old : Int) + ((256 * q : Nat) - (old : Int)) / (2 ^ w : Nat)).toNat
    let l := Config.lfsrStep (BitVec.ofNat 32 (sparseGet (s.sw.seed ^^^ p) s.sw.lfsr p))
    let r := (Config.lfsrRand l).toNat
    let hit := if avg < 256 * minTh then false
      else if avg < 256 * maxTh then decide (r * (256 * (256 * (maxTh - minTh))) < 65536 * (maxP * (avg - 256 * minTh)))
      else true
    let s' := s.modSw (fun x => { x with
      redAvg := sparseSet 0 x.redAvg queue avg,
      lfsr := sparseInsert p l.toNat (sparseErase x.lfsr p) })
    (if hit then some (if colour = 0 then SW_DROP_RED_G else SW_DROP_RED_Y) else none, s')

/-- Admission of a VC2 frame at one place (R108 stage 5): the stage of sacrifice, random early drop, the queue limit. DESIGN CHOICE: a frame
that the stage drops is not offered to the queue, whose average stays (log entry 134). -/
def State.tryAdmit (s : State) (f : Frame) (d : Dest) : Option Nat × State :=
  if f.vc ≠ 2 then (none, s)
  else
    let stage := s.fld SW_POOL_STATUS_STAGE
    if 2 ≤ stage ∧ f.colour = 1 then (some SW_DROP_SAC_Y, s)
    else if 3 ≤ stage then (some SW_DROP_SAC_G, s)
    else if 256 ≤ d.out then (none, s)
    else match s.red d.out d.sub f.colour with
      | (some c, s') => (some c, s')
      | (none, s') =>
        let qmax := s.fld (SW_EGRESS_QMAX (8 * d.out + 2))
        if qmax ≠ 0 ∧ qmax ≤ s.fld (SW_QLEN_CELLS (portOwner d.out 2 d.sub)) then (some SW_DROP_QMAX, s') else (none, s')

/-- The places a frame is admitted to, the refused ones counted. -/
def State.admitAll (s : State) (f : Frame) (ds : List Dest) : List Dest × State :=
  ds.foldl (fun (acc : List Dest × State) d =>
    match acc.2.tryAdmit f d with
    | (none, s') => (acc.1 ++ [d], s')
    | (some ctr, s') => (acc.1, s'.count ctr)) ([], s)

/-- A stream's entry serves a frame (R89, R93). -/
def State.streamOk (s : State) (f : Frame) : Bool :=
  s.flag (SW_STREAM_VALID f.stream) && !s.flag (SW_STREAM_BROKEN f.stream) &&
  decide (s.fld (SW_STREAM_PARTY f.stream) = f.party ∧ s.fld (SW_STREAM_SRC_RANK f.stream) = f.srcRank)

/-- A frame bound for an endpoint of this module under a stream (R89). -/
def streamed (f : Frame) (ds : List Dest) : Bool :=
  f.streamValid && f.destKind != 2 && ds.any (fun d => decide (d.out < 64))

/-- A place in this module: an endpoint port or an agent. -/
def Dest.here (d : Dest) : Bool := decide (d.out < 64) || (decide (256 ≤ d.out) && decide (d.out < 300))

/-- A packet of a stream whose entry does not serve it goes to no place in this module (R89): the places left, and whether one was lost. -/
def State.streamCheck (s : State) (f : Frame) (ds : List Dest) : List Dest × Bool :=
  if f.streamValid && ds.any Dest.here && !s.streamOk f then (ds.filter (fun d => !d.here), true) else (ds, false)

/-- Whether a refused frame gets an ERROR reply (R72, R79). DESIGN CHOICE: under R72 a memory operation's KIND decides, whatever its class: a
posted write gets none, a READ and a WRITE get one (log entry 132). -/
def refusalAnswered (f : Frame) (status : Nat) : Bool :=
  if status = 1 ∧ (f.kind = 0x01 ∨ f.kind = 0x02 ∨ f.kind = 0x03) then f.kind != 0x03 else f.vc == 0

/-- A refused frame (R72, R79): counted, and answered where an answer is due. -/
def State.refused (s : State) (f : Frame) (status : Nat) : State :=
  let s1 := s.count (refusalCounter status)
  if refusalAnswered f status then s1.errorReply f status else s1

/-- A frame that the ingress stages refuse or drop: its credit is returned, and the rest of it is received and discarded (R108). -/
def State.turnAway (s : State) (p o k : Nat) : State :=
  (s.returnCredit o k).modSw (fun w => { w with rxGone := p :: w.rxGone.filter (· != p) })

/-- A frame whose header is usable passes the ingress stages (R108): it is enqueued, its cells filled out of the
credit it came with, or refused or dropped and its credit returned, the detour credit of one on a first leg with it (R87). -/
def State.ingress (s : State) (p : Nat) (f : Frame) : State :=
  let o := portOwner p f.vc (if s.portKind p = 1 then 0 else f.dl)
  let k := frameCells f
  let gone := fun (s : State) => (if f.detour then s.detourBack p else s).turnAway p o k
  match s.lookup p f with
  | (.drop ctr, _, s1) => gone (s1.count ctr)
  | (.discard, _, s1) => gone s1
  | (.refuse st, g, s1) => gone (s1.refused g st)
  | (.go ds0, g, s0) =>
    let (ds, lost) := s0.streamCheck g ds0
    let s1 := if lost then s0.count SW_DROP_STREAM else s0
    if ds.isEmpty then gone s1
    else match s1.colour p g with
      | (none, s2) => gone (s2.count SW_DROP_POLICE)
      | (some h, s2) =>
        let (ds', s3) := s2.admitAll h ds
        if ds'.isEmpty then gone s3
        else
          let held := h.closing && streamed h ds'
          let id := s3.sw.nextId
          ((s3.fillCells o k).enqueue h p o k false none ds' held).modSw (fun w => { w with
            rx := w.rx ++ [(p, id)], rxGone := w.rxGone.filter (· != p) })

/-- A frame that arrives takes its slots of the codewords received at a port (R366, R367; log entry 6). -/
def State.countRx (s : State) (p : Nat) (f : Frame) : State :=
  s.modPort p (fun c =>
    let r := placeSlots c.rxSeq c.rxSlot c.rxStop c.rxHere s.free (s.codewordTicks p) (frameSlots f)
    { c with rxStart := r.first, rxStartSlot := r.firstSlot, rxSeq := r.seq, rxSlot := r.slot, rxStop := r.stop, rxHere := false })

end Sys2Proof.Machine
end

