-- ==== Sys2Proof/Machine/Switch.lean ====
section
/-! DEFINITION. The meanings of the switch's commands (R68, R70 to R143): a frame's path, streams, credit, the order of
sacrifice, errors of the buffer, the bridge. -/

namespace Sys2Proof.Machine

open Sys2Proof

/-- A credit-bearing frame is taken at a port: the port is a fabric port that is up, receives no frame, and the frame
came with credit (R108, R120; log entry 10); traffic is held while an island on its way is out of muster (R51). -/
def State.canReceive (s : State) (p : Nat) (f : Frame) : Bool :=
  s.portUp p && [1, 2, 4].contains (s.portKind p) && (s.rxOf p).isNone && !(s.port p).waiting && decide (f.payload.length ≤ 4096) &&
  !s.inHeld p && s.crossingUp p &&
  (decide (6 ≤ f.vc) || decide (frameCells f ≤ s.ownerHeld (portOwner p f.vc (if s.portKind p = 1 then 0 else f.dl))))

/-- The STATUS block of a port (R368): cumulative credits, detour credits of its bundle where it is the lowest-numbered port up, and ACK_SEQ. -/
def State.statusBlock (s : State) (p : Nat) : CtrlBlock :=
  .status (s.creditSums p)
    (match s.bundleOf p with
      | some b => if (s.bundlePorts b).head? = some p then sparseGet 0 s.sw.detourOut b else 0
      | none => 0)
    (s.ackSeq p)

/-- A STATUS block goes out on a fabric port whose transmit direction is active (R368, R380). -/
def State.sendStatus (s : State) (p : Nat) : State :=
  if [1, 2, 4].contains (s.portKind p) && [2, 3].contains (s.fld (LN_PORT_W2_STATE p)) && s.fld (LN_PORT_W2_TX_STATE p) == 0 then
    (s.sentCtrl p (s.statusBlock p)).modPort p (fun c => { c with ackSent := s.ackSeq p, credSent := s.creditSums p })
  else s

/-- FRAME_INGRESS (R108). -/
def execFrameIngress (port : Nat) (f : Frame) (s : State) : Host.Outcome State Fault Refusal :=
  if s.canReceive port f then .next ((s.countRx port f).ingress port f) else .next s

/-- A packet of a stream is counted when it has left whole (R91); the closing-flag packet itself is not (log entry 11). -/
def State.streamCount (s : State) (d : Desc) (c : Copy) : State :=
  let f := d.frame
  if c.out < 64 ∧ f.streamValid ∧ f.destKind ≠ 2 ∧ !f.closing ∧ s.streamOk f then
    let fl := if f.epoch = 0 then SW_STREAM_COUNT0 f.stream else SW_STREAM_COUNT1 f.stream
    s.setFld fl (s.fld fl + 1)
  else s

/-- A copy's last byte has left whole: it is recorded, counted, and its queue moves on. -/
def State.finishCopy (s : State) (d : Desc) (c : Copy) : State :=
  let s1 := ((s.emit d c false).streamCount d c).dropCopy c
  let s2 := s1.modSw (fun w => { w with sinkSince := sparseErase w.sinkSince (8 * c.out + c.vc) })
  ((s2.reap c.desc).touchShapers c.out).touchSinks c.out

/-- A frame on the first leg of a detour, taken whole (R87): it moves into cells of the detour store, DETOUR is cleared, and it goes on as new
ingress traffic, past admission (R138). Its credit goes back when it has left the store, or at once where it does not enter it. DESIGN CHOICE: a
frame for which the store has no cells is discarded and counted as unreachable (log entry 135). -/
def State.relay (s : State) (d : Desc) (c : Copy) : State :=
  let s1 := s.modSw (fun w => { w with copies := w.copies.erase c, descs := w.descs.filter (fun x => x.id != d.id) })
  let gone := fun (s : State) => (s.freeCells d.owner d.cells d.chain).detourBack d.inPort
  let g := { d.frame with detour := false, dl := 0 }
  match s1.routeStart g g.dstCoord true with
  | (.go ds, s2) =>
    let (ds', s3) := s2.admitAll g ds
    if ds'.isEmpty then gone s3
    else
      let s4 := s3.freeCells d.owner d.cells d.chain
      if s4.claimOk detourOwner d.cells then
        ((s4.takeCells detourOwner d.cells).enqueue g d.inPort detourOwner d.cells true none ds' false).handOverAll
      else (s4.count SW_DROP_UNREACH).detourBack d.inPort
  | (.refuse st, s2) => gone (s2.refused g st)
  | (.drop ctr, s2) => gone (s2.count ctr)
  | (.discard, s2) => gone s2

/-- The tail of a good frame has arrived: it is stored; what was cut through is complete; agents and the detour store
take theirs; a closing-flag packet is held (R91, R113, R474). -/
def State.tailGood (s : State) (p id : Nat) : State :=
  let s1 := s.modSw (fun w => { w with
    rx := w.rx.filter (fun r => r.1 != p),
    descs := w.descs.map (fun d => if d.id = id then { d with whole := true } else d) })
  match s1.desc? id with
  | none => s1
  | some d =>
    let mine := s1.sw.copies.filter (fun c => c.desc == id)
    let s2 := mine.foldl (fun s c =>
      if c.started then s.finishCopy d c
      else if c.out = 300 then s.relay d c
      else if c.held then
        (s.modSw (fun w => { w with closers := w.closers ++ [(d.frame.stream, id, s.free)] })).showHeld d.frame.stream
      else s) s1
    (s2.reap id).handOverAll

/-- A port's frame that was refused or dropped at ingress has ended (R108). -/
def State.rxEnd (s : State) (p : Nat) : State := s.modSw (fun w => { w with rxGone := w.rxGone.filter (· != p) })

/-- A frame whose seal fails at the tail (R111, R113, R374): discarded or spoiled, and sent for again; a timing message is counted as the
bell-time unit counts one (R41). -/
def State.tailBad (s : State) (p id : Nat) : State :=
  let timing := (s.desc? id).any (fun d => d.frame.kind == 0x60)
  let s1 := (s.killFrame id SW_DROP_SEAL).requestReplay p (s.port p).rxStart (s.port p).rxStartSlot
  if timing then s1.count BT_SYNC_DROPS else s1

/-- FRAME_TAIL_RECEIVED (R111, R113, R368, R374): a good frame is acknowledged; a bad seal discards or spoils the frame and asks for a replay. -/
def execFrameTailReceived (port : Nat) (sealOk : Bool) (s : State) : Host.Outcome State Fault Refusal :=
  match s.rxOf port with
  | none => .next ((s.rxEnd port).sendStatus port)
  | some id => .next (if sealOk then (s.tailGood port id).sendStatus port else s.tailBad port id).retryAgents

/-- SPOIL (R112): the frame a port is receiving is discarded, counted, and its copy being cut through ends spoiled; one refused or dropped at
ingress is counted too. -/
def execSpoil (port : Nat) (s : State) : Host.Outcome State Fault Refusal :=
  match s.rxOf port with
  | none => .next (if s.sw.rxGone.contains port then ((s.rxEnd port).count SW_SPOIL_RX).sendStatus port else s)
  | some id => .next (((((s.detourLost id).killFrame id 0).count SW_SPOIL_RX).sendStatus port).retryAgents)

/-! ### Scheduling (R110, R132) -/

/-- Bytes a copy takes on its port: the Ethernet frame on an Ethernet port, else header, payload and seal. -/
def State.copyBytes (s : State) (d : Desc) (c : Copy) : Nat :=
  if s.portKind c.out = 3 then (d.eth.getD d.frame.payload).length else frameBytes d.frame

/-- The head of a queue may be sent now (R132): arrived or cut through, gate open, shaper not negative, its tile in muster (R51), its bundle
not held down (R68), credit and, on a first leg, detour credit and room in the replay store. -/
def State.copyReady (s : State) (c : Copy) : Bool :=
  match s.desc? c.desc with
  | none => false
  | some d =>
    let p := c.out
    let fabric := s.portKind p != 3
    (d.whole || s.cutOk d c) && !c.held && !s.inHeld p && ((s.bundleOf p).all (fun b => !s.sw.miscabled.contains b) || d.frame.kind == 0x72) && s.gateCheck p c.vc (s.copyBytes d c) &&
    (!s.shaped p c.vc || decide (0 ≤ s.shaperNow p c.vc)) &&
    (!fabric || (decide (frameCells d.frame ≤ s.creditOf p c.vc c.sub) &&
      decide ((s.port p).stored < s.storeCap p) &&
      (!c.detour || decide (0 < sparseGet 0 s.sw.detourCredit ((s.bundleOf p).getD 6)))))

/-- The head of a queue; a closing-flag packet that is held stands in none (R91). -/
def State.headOf (s : State) (p vc sub : Nat) : Option Copy :=
  s.sw.copies.find? (fun c => c.out == p && c.vc == vc && c.sub == sub && !c.held)

/-- The copy a class would send: the sub-classes take turns, one with no eligible frame is skipped (R132). -/
def State.classHead (s : State) (p vc turn : Nat) : Option Copy :=
  let cand := fun (b : Nat) => match s.headOf p vc b with
    | some c => if s.copyReady c then some c else none
    | none => none
  match cand turn with
  | some c => some c
  | none => cand (1 - turn)

/-- Bytes of a copy for the scheduler. -/
def State.bytesOf (s : State) (c : Copy) : Nat :=
  match s.desc? c.desc with
  | some d => frameBytes d.frame
  | none => 0

/-- The quantum of a class (R132, R138). -/
def State.quantum (s : State) (p c : Nat) : Nat :=
  let w := s.fld (SW_EGRESS_WEIGHT (8 * p + c))
  if c = 2 ∧ 1 ≤ s.fld SW_POOL_STATUS_STAGE then w * s.fld SW_SACRIFICE_SHRINK / 8 * 256 else w * 256

/-- Deficit round robin over VC0 to VC3 (R132): the class to send, the round robin's state after the choice. `heads`
holds the eligible copies. The fuel bounds the visits; a quantum is at least 256 B, so a frame is covered within it. -/
def State.drrPick (s : State) (p : Nat) (heads : List (Option Copy)) : Nat → Drr → Option (Nat × Drr)
  | 0, _ => none
  | n + 1, d =>
    let c := d.ptr % 4
    let skip := { d with ptr := (c + 1) % 4, visiting := false }
    match heads.getD c none with
    | none => s.drrPick p heads n skip
    | some x =>
      let q := s.quantum p c
      if q = 0 then s.drrPick p heads n skip
      else
        let have_ := d.deficits.getD c 0 + (if d.visiting then 0 else q)
        let d1 := { d with ptr := c, visiting := true, deficits := d.deficits.set c have_ }
        if s.bytesOf x ≤ have_ then some (c, { d1 with deficits := d1.deficits.set c (have_ - s.bytesOf x) })
        else s.drrPick p heads n { d1 with ptr := (c + 1) % 4, visiting := false }

/-- The round robin of a port. -/
def State.drrOf (s : State) (p : Nat) : Drr := sparseGet ⟨0, false, [0, 0, 0, 0], [0, 0, 0, 0, 0, 0]⟩ s.sw.drr p

/-- The class an egress port sends from, with the round robin's state after (R132): the pointer leaves a class that has stopped being eligible,
whichever class is sent. -/
def State.pickClass (s : State) (p : Nat) : Option Copy × Drr :=
  let d0 := s.drrOf p
  let head := fun (c : Nat) => s.classHead p c (d0.turns.getD c 0)
  let heads := [head 0, head 1, head 2, head 3]
  let d := if d0.visiting && (heads.getD (d0.ptr % 4) none).isNone then d0.onward else d0
  match head 5 with
  | some x => (some x, d)
  | none => match head 4 with
    | some x => (some x, d)
    | none => match s.drrPick p heads 100 d with
      | some (c, d') => (heads.getD c none, d')
      | none => (if s.quantum p 2 = 0 then heads.getD 2 none else none, d)

/-- A copy starts on its port: credit, detour credit and shaper are charged; a frame stored whole leaves at once, one
still arriving is being cut through. -/
def State.startCopy (s : State) (c : Copy) : State :=
  match s.desc? c.desc with
  | none => s
  | some d =>
    let p := c.out
    let s0 := s.shaperSend p c.vc (frameBytes d.frame)
    let s1 := if s.portKind p = 3 then s0 else s0.useCredit (portOwner p c.vc c.sub) (frameCells d.frame)
    let s2 := if c.detour then
        (match s.bundleOf p with
         | some b => s1.modSw (fun w => { w with detourCredit := sparseSet 0 w.detourCredit b (sparseGet 0 w.detourCredit b - 1) })
         | none => s1)
      else s1
    if d.whole then s2.finishCopy d c
    else s2.modSw (fun w => { w with copies := w.copies.map (fun x => if x = c then { x with started := true } else x) })

/-- A copy for a fenced endpoint port is discarded at egress (R96); the tally that sent it as a result waits for no ACK (R195). -/
def State.fenceCopy (s : State) (c : Copy) : State :=
  let s1 := ((s.dropCopy c).count SW_DROP_FENCED).reap c.desc
  match s.desc? c.desc with
  | some d => s1.resultMissed (outHeader d c)
  | none => s1

/-- Copies for a fenced endpoint port are discarded at egress (R96). -/
def State.dropFenced (s : State) (p : Nat) : State :=
  (s.sw.copies.filter (fun c => c.out == p && !c.started)).foldl State.fenceCopy s

/-- A port stands at a frame boundary: it is up and active, and sends nothing. -/
def State.boundary (s : State) (p : Nat) : Bool :=
  s.portUp p && s.fld (LN_PORT_W2_TX_STATE p) == 0 && !s.sw.copies.any (fun c => c.out == p && c.started)

/-- The round robin of a port as a choice leaves it. -/
def State.setDrr (s : State) (p : Nat) (d : Drr) : State := s.modSw (fun w => { w with drr := sparseInsert p d (sparseErase w.drr p) })

/-- At a frame boundary of a port, the next frame starts (R132). -/
def State.egressSelect (s : State) (p : Nat) : State :=
  if s.boundary p then
    let s1 := (if decide (p < 64) && s.regBit SW_FENCE p then s.dropFenced p else s).touchShapers p
    match s1.pickClass p with
    | (none, d) => s1.setDrr p d
    | (some c, d) => (s1.setDrr p { d with turns := d.turns.set c.vc (1 - c.sub) }).startCopy c
  else s

/-- EGRESS_SELECT (R132). -/
def execEgressSelect (port : Nat) (s : State) : Host.Outcome State Fault Refusal :=
  if s.boundary port then .next ((s.egressSelect port).retryAgents) else .next s

/-! ### Streams (R91, R93) -/

/-- CLOSED or BROKEN to a stream's source rank (R91, R93); its ADDRESS and EPOCH name the stream (log entry 12). -/
def State.streamNotice (s : State) (kind : Nat) (f : Frame) (payload : List Byte) : State :=
  s.agentSend 9 { blankFrame with kind := kind, vc := 1, destKind := 1, party := f.party, dstRank := f.srcRank,
                                  epoch := f.epoch, stream := f.stream, address := f.stream, payload := payload }

/-- The count of an epoch of a stream. -/
def streamCountFld (f : Frame) : Fld := if f.epoch = 0 then SW_STREAM_COUNT0 f.stream else SW_STREAM_COUNT1 f.stream

/-- A packet that a stream holds and that meets a condition: its descriptor. -/
def State.closer (s : State) (stream : Nat) (p : Desc → Nat → Bool) : Option Desc :=
  s.sw.closers.findSome? (fun c => if c.1 = stream then (s.desc? c.2.1).filter (fun d => p d c.2.2) else none)

/-- STREAM_CLOSE_RELEASE (R91): the held packet whose epoch's count has reached its SEQ goes to its queue. -/
def execStreamCloseRelease (stream : Nat) (s : State) : Host.Outcome State Fault Refusal :=
  match s.closer stream (fun d _ => decide (d.frame.seq ≤ s.fld (streamCountFld d.frame))) with
  | none => .next s
  | some d =>
    let s1 := s.modSw (fun w => { w with
      closers := w.closers.filter (fun c => c.2.1 != d.id),
      copies := w.copies.map (fun c => if c.desc = d.id then { c with held := false } else c) })
    let s2 := (s1.sw.copies.filter (fun c => c.desc == d.id && decide (c.out < 256))).foldl (fun s c => s.touchSinks c.out) s1
    .next (((s2.setFld (streamCountFld d.frame) 0).showHeld stream).streamNotice 0x70 d.frame [])

/-- STREAM_HOLD_EXPIRY (R93): the packet held longer than STREAM_HOLD is discarded and the stream is broken. -/
def execStreamHoldExpiry (stream : Nat) (s : State) : Host.Outcome State Fault Refusal :=
  match s.closer stream (fun _ at_ => decide (at_ + ticksPerUs * s.fld SW_ROUTE_CTRL_STREAM_HOLD ≤ s.free)) with
  | none => .next s
  | some d =>
    let n := s.fld (streamCountFld d.frame)
    let s1 := (s.killFrame d.id SW_DROP_STREAM).raise (SW_STREAM_BROKEN stream)
    .next ((s1.streamNotice 0x71 d.frame (natLE 2 n)).fault 0x040 0x11 stream)

/-! ### Ports and the pool -/

/-- Results of this module's tallies that wait at the tally agent for cells while their port is fenced are discarded and counted (R126, R195): the
tally shows the slot as missed. -/
def State.dropFencedResults (s : State) : State :=
  let barred := fun (p : Nat) => decide (p < 64) && s.regBit SW_FENCE p
  s.sw.agentWait.foldl (fun t x =>
    let f := x.2.1
    if f.kind ≠ 0x51 ∨ f.srcPort ≠ 0xF1 then t
    else if x.2.2.isEmpty then
      (if f.destKind = 3 ∧ f.dstCoord = s.coord ∧ barred f.dstPort then
        (((t.modSw (fun w => { w with agentWait := w.agentWait.erase x })).count SW_DROP_FENCED).resultMissed f) else t)
    else
      let lost := x.2.2.filter (fun d => barred d.out)
      let left := x.2.2.filter (fun d => !barred d.out)
      let t1 := if lost.isEmpty then t else t.modSw (fun w => { w with
        agentWait := w.agentWait.flatMap (fun y => if y = x then (if left.isEmpty then [] else [(x.1, f, left)]) else [y]) })
      lost.foldl (fun t d => (t.count SW_DROP_FENCED).resultMissed
        { f with address := f.address - bitsOf f.address 41 35 * 2 ^ 35 + ((d.slot.map (·.1)).getD 0) * 2 ^ 35 }) t1) s

/-- SINK_LIMIT_EXPIRY (R99): a port that has withheld credit on VC1, VC3, VC4 or VC5 for longer than SINK_LIMIT is fenced. -/
def execSinkLimitExpiry (port vc : Nat) (s : State) : Host.Outcome State Fault Refusal :=
  let s0 := s.touchSinks port
  match s0.sw.sinkSince.find? (fun e => e.1 == 8 * port + vc) with
  | none => .next s0
  | some (_, since) =>
    if s0.free < since + 100 * ticksPerUs * s0.fld SW_ROUTE_CTRL_SINK_LIMIT then .next s0
    else if s0.regBit SW_FENCE port then .next s0
    else .next (((s0.setRegBit SW_FENCE port true).dropFencedResults).fault 0x042 0x12 port)

/-- MCAST_HOLD_EXPIRY (R126): a VC2 copy still queued at the port after MCAST_HOLD is discarded. -/
def execMcastHoldExpiry (port : Nat) (s : State) : Host.Outcome State Fault Refusal :=
  match s.sw.copies.find? (fun c => c.out == port && c.vc == 2 && c.mcast && !c.started) with
  | none => .next s
  | some c =>
    if s.free < c.at_ + ticksPerUs * s.fld SW_CTRL_MCAST_HOLD then .next s
    else .next ((((s.dropCopy c).count SW_DROP_MCAST).reap c.desc).retryAgents)

/-- A VC0 owner is paced while its port's VC0 policer holds less than 4,132 B (R128). -/
def State.paced (s : State) (p c : Nat) : Bool :=
  c == 0 && s.flag (SW_POL_W0_ENABLE (2 * p)) && decide ((s.buckets (2 * p)).tp < 640 * 4132)

/-- The top-up of one owner (R120). -/
def State.topUp (s : State) (p c sub : Nat) : State :=
  let o := portOwner p c sub
  let amount := min 17 (s.ownerMin o + s.shareLimit o - s.ownerClaimed o)
  if s.ownerMin o = 0 ∨ amount = 0 ∨ s.paced p c ∨ !s.claimOk o amount then s
  else
    (s.holdCells o amount).modSw (fun w => { w with
      rxCum := sparseSet 0 w.rxCum o ((sparseGet 0 w.rxCum o + amount) % 65536) })

/-- CREDIT_TOPUP (R120): every owner of an up fabric port claims what it may and the credits are sent. -/
def execCreditTopup (port : Nat) (s : State) : Host.Outcome State Fault Refusal :=
  if s.portUp port && [1, 2, 4].contains (s.portKind port) then
    let s1 := classSubs.foldl (fun s x => if s.portKind port = 1 ∧ x.2 = 1 then s else s.topUp port x.1 x.2) s
    .next (s1.sendStatus port)
  else .next s

/-- Threshold of a stage of sacrifice, in cells (R139). -/
def State.sacrificeT (s : State) (k : Nat) : Nat :=
  64 * (if k = 1 then s.fld SW_SACRIFICE_T1 else if k = 2 then s.fld SW_SACRIFICE_T2
        else if k = 3 then s.fld SW_SACRIFICE_T3 else s.fld SW_SACRIFICE_T4)

/-- The stage that follows from SHARED_FREE and the present stage (R139). -/
def State.nextStage (s : State) : Nat :=
  let sf := s.sw.sharedFree.toNat
  let cur := s.fld SW_POOL_STATUS_STAGE
  let up := ([4, 3, 2, 1].find? (fun k => decide (sf < s.sacrificeT k))).getD 0
  if cur < up then up
  else ([4, 3, 2, 1].find? (fun k => decide (k ≤ cur ∧ sf < s.sacrificeT k + 256))).getD 0

/-- SACRIFICE_STAGE_UPDATE (R139). DESIGN CHOICE: the stage is not evaluated before the banks are threaded, while no count of free cells stands (log
entry 161). -/
def execSacrificeStageUpdate (s : State) : Host.Outcome State Fault Refusal :=
  if s.sw.threaded then .next (s.setFld SW_POOL_STATUS_STAGE s.nextStage) else .next s

/-- VACANCY_THREAD_DONE (R117, R155): in PHASE 0x1 both pools are threaded. -/
def execVacancyThreadDone (s : State) : Host.Outcome State Fault Refusal :=
  if s.phase = 1 ∧ !s.sw.threaded then
    let s1 := s.modSw (fun w => { w with threaded := true })
    let s2 := s1.modTally (fun t => { t with threaded := true })
    .next ((s2.showPool.setFld SW_POOL_STATUS_RESV_SUM s2.sw.resvSum).setFld TL_STATUS_SHARED_FREE s2.tally.sharedFree.toNat)
  else .next s

/-- Vacancy banks stop yielding (R124). -/
def State.stopBanks (s : State) (bs : List Nat) : State :=
  s.modSw (fun w => { w with banksDown := bs.foldl (fun l b => if l.contains b then l else l ++ [b]) w.banksDown })

/-- Cells of a discarded frame that come back to their lists by a rebuild of their banks (R124). -/
def State.loseCells (s : State) (owner : Nat) (chain : List Nat) : State :=
  (s.modSw (fun w => { w with lost := w.lost ++ chain.map (fun x => (owner, x)) })).stopBanks (chain.map (· % 64))

/-- A copy of a queue whose links cannot be read is discarded (R124), one being sent ending spoiled (R111). The frame's cells, once no copy is left,
await the rebuild; what is still to come of one that arrives is received and discarded. -/
def State.loseCopy (s : State) (c : Copy) : State :=
  let s0 := match s.desc? c.desc with
    | some d => if c.started then (s.emit d c true).count SW_SPOIL_TX else s
    | none => s
  let s1 := (s0.dropCopy c).count SW_DROP_BUF_UE
  if s1.sw.copies.any (fun x => x.desc == c.desc) then s1
  else match s1.desc? c.desc with
    | none => s1
    | some d =>
      let ports := (s1.sw.rx.filter (fun r => r.2 == d.id)).map (·.1)
      let s2 := (s1.modSw (fun w => { w with
        descs := w.descs.filter (fun x => x.id != d.id), rx := w.rx.filter (fun r => r.2 != d.id),
        rxGone := ports ++ w.rxGone.filter (fun p => !ports.contains p) })).loseCells d.owner d.chain
      if d.owner = detourOwner ∨ d.frame.detour then s2.detourBack d.inPort else s2

/-- A frame in an agent's queue is discarded (R113, R124). -/
def State.loseItem (s : State) (i : AgentItem) (rebuild : Bool) : State :=
  let s1 := (s.modSw (fun w => { w with agentQ := w.agentQ.erase i })).count SW_DROP_BUF_UE
  if rebuild then s1.loseCells i.owner i.chain else s1.releaseCells i.owner i.inPort i.cells i.chain

/-- BUFFER_SRAM_UE (R124, R395): the frames hit are discarded or spoiled, a vacancy bank stops, and the watch is told the word's index within the
store. -/
def execBufferSramUe (place : BufferUe) (s : State) (word : Nat := 0) : Host.Outcome State Fault Refusal :=
  match place with
  | .frameBytes id =>
    match s.sw.agentQ.find? (fun i => i.id == id) with
    | some i => .next (((s.loseItem i false).fault 0x041 0x06 word).retryAgents)
    | none =>
      if (s.desc? id).isNone then .next s
      else .next ((((s.detourLost id).killFrame id SW_DROP_BUF_UE).fault 0x041 0x06 word).retryAgents)
  | .vacancy b =>
    if 64 ≤ b ∨ s.sw.banksDown.contains b then .next s
    else .next ((s.stopBanks [b]).fault 0x041 0x06 word)
  | .queue p c sub =>
    let mine := s.sw.copies.filter (fun x => x.out == p && x.vc == c && x.sub == sub && !x.held)
    let s1 := mine.foldl State.loseCopy s
    let waiting := s1.sw.agentQ.filter (fun i => i.agent + 256 == p && i.frame.vc == c)
    let s2 := waiting.foldl (fun s i => s.loseItem i true) s1
    .next ((s2.fault 0x041 0x06 word).retryAgents)

/-- BANK_REBUILD_DONE (R124): the bank yields again, with the cells of discarded frames back on its list; BANK_REBUILT is set and reported. -/
def execBankRebuildDone (bank : Nat) (s : State) : Host.Outcome State Fault Refusal :=
  if s.sw.banksDown.contains bank then
    let back := s.sw.lost.filter (fun x => x.2 % 64 == bank)
    let s1 := s.modSw (fun w => { w with
      banksDown := w.banksDown.filter (· != bank), lost := w.lost.filter (fun x => x.2 % 64 != bank) })
    let s2 := back.foldl (fun s x => s.freeCells x.1 1 [x.2]) s1
    .next (((s2.raise SW_POOL_ERR_BANK_REBUILT).fault 0x041 0x14 bank).retryAgents)
  else .next s

/-! ### Trunk identity (R68), the dead map (R88) -/

/-- A write of the dead map: frames queued for a module that becomes dead are discarded and counted (R88), those between neighbours' bell-time units
apart. -/
def State.writeDead (s : State) (off value : Nat) : State :=
  let s1 := s.writePlain off value
  (s1.deadAhead.filter (fun b => !s.deadAhead.contains b)).foldl (fun s b => s.dropBundle b [0x60, 0x72]) s1

/-- The payload of a trunk identity frame: coordinate, the three sizes − 1, axis, direction (log entry 13). -/
def State.identPayload (s : State) (bundle : Nat) : List Byte :=
  natLE 2 s.coord ++ natLE 1 (s.axisSize 0 - 1) ++ natLE 1 (s.axisSize 1 - 1) ++ natLE 1 (s.axisSize 2 - 1) ++
  natLE 1 (bundle / 2) ++ natLE 1 (bundle % 2)

/-- The identity the far end of a bundle must show: the neighbour, the same sizes and axis, the opposite direction. -/
def State.identExpected (s : State) (bundle : Nat) : List Byte :=
  natLE 2 (s.neighbour s.coord (bundle / 2) (bundle % 2 == 0)) ++ natLE 1 (s.axisSize 0 - 1) ++
  natLE 1 (s.axisSize 1 - 1) ++ natLE 1 (s.axisSize 2 - 1) ++ natLE 1 (bundle / 2) ++ natLE 1 (1 - bundle % 2)

/-- TRUNK_IDENT (R68): a wrong far end holds the bundle down and is reported. -/
def execTrunkIdent (port : Nat) (f : Frame) (s : State) : Host.Outcome State Fault Refusal :=
  let s0 := s.takeAgent f
  match s0.bundleOf port with
  | none => .next s0
  | some b =>
    if s0.flag DV_COORD_OPEN_MODE then .next s0
    else if f.payload = s0.identExpected b then
      .next (s0.modSw (fun w => { w with miscabled := w.miscabled.filter (· != b) }))
    else .next ((s0.holdDown b).fault (0x200 + port) 0x13 port)

/-! ### The bridge (R140 to R143) -/

/-- A number in wire order: the first byte most significant. -/
def beNat (bs : List Byte) : Nat := bs.foldl (fun a b => 256 * a + b.toNat) 0

/-- The VLAN of an Ethernet frame: its tag's, or the port's (R142). -/
def State.vlanOf (s : State) (p : Nat) (eth : List Byte) : Nat :=
  if beNat ((eth.drop 12).take 2) = 0x8100 then beNat ((eth.drop 14).take 2) % 4096 else s.fld (SW_PORT_CFG_PVID p)

/-- The EtherType of an Ethernet frame, behind its tag where it has one. -/
def etherType (eth : List Byte) : Nat :=
  if beNat ((eth.drop 12).take 2) = 0x8100 then beNat ((eth.drop 16).take 2) else beNat ((eth.drop 12).take 2)

/-- A port is a member of a VLAN (R142, R152). -/
def State.vlanMember (s : State) (v p : Nat) : Bool :=
  s.flag (SW_VLAN_W1_VALID v) &&
  (if s.portKind p = 3 then s.regBit (SW_VLAN_W1 v) (s.fld (SW_PORT_CFG_ETH_INDEX p)) else decide (p < 64) && s.regBit (SW_VLAN_W0 v) p)

/-- The target of a MAC table hit (R142). -/
def State.macLookup (s : State) (v : Nat) (mac : List Byte) : Option (Bool × Nat) :=
  let h := crc32c (s.fld SW_ROUTE_CTRL_HASH_SEED) (bridgeKey v mac)
  let bucket := h % 4096
  let key := beNat mac
  ([0, 1, 2, 3].map (fun w => 4 * bucket + w)).findSome? (fun i =>
    let d0 := (sparseGet 0 s.sw.mac (2 * i)).toNat
    let d1 := (sparseGet 0 s.sw.mac (2 * i + 1)).toNat
    if d0.testBit 63 ∧ bitsOf d0 59 48 = v ∧ bitsOf d0 47 0 = key then some (d1.testBit 63, bitsOf d1 7 0) else none)

/-- Where the bridge sends an Ethernet frame (R142): the ports, or none when it is dropped. DESIGN CHOICE: so is one whose MAC entry's TO_EP does
not agree with the kind of its target port (log entry 160). -/
def State.bridgeTargets (s : State) (p : Nat) (eth : List Byte) : Option (List Nat) :=
  let v := s.vlanOf p eth
  let mac := eth.take 6
  let ethIn := s.portKind p == 3
  let members := (List.range 256).filter (fun q => decide (q ≠ p) && (s.portKind q == 1 || (s.portKind q == 3 && !ethIn)) && s.vlanMember v q)
  if !s.vlanMember v p then none
  else if (byteAt mac 0) % 2 = 1 then some members
  else match s.macLookup v mac with
    | some (toEp, t) =>
      if t = p ∨ !s.vlanMember v t ∨ (ethIn && !toEp) ∨ (s.portKind t == 3) = toEp then none else some [t]
    | none => if s.flag (SW_VLAN_W1_FLOOD v) then some members else none

/-- The carry frame of an Ethernet frame (R141), and the places it is bridged to that are up and admit it (R108 stage 5, R126). -/
def State.carryTo (s : State) (p colour : Nat) (eth : List Byte) (ts : List Nat) : Frame × List Dest × State :=
  let carry := { blankFrame with kind := 0x10, vc := 2, destKind := 3, dstCoord := s.coord, srcCoord := s.coord,
                                 srcPort := p, colour := colour, payload := eth }
  let ds := ts.map (fun t => Dest.mk t 0 0 3 false t none)
  let s1 := (ds.filter (fun d => !s.portUp d.out)).foldl (fun s _ => s.count SW_DROP_UNREACH) s
  let r := s1.admitAll carry (ds.filter (fun d => s.portUp d.out))
  (carry, r.1, r.2)

/-- A frame's length is one that the bridge accepts (R140). -/
def bridgeLength (eth : List Byte) : Bool := decide (64 ≤ eth.length) && decide (eth.length ≤ 4096)

/-- An Ethernet frame's colour from its port's policer (R127, R143), none where it is red. DESIGN CHOICE: it is charged its own bytes, from destination
address through FCS (log entry 136). -/
def State.ethColour (s : State) (p : Nat) (eth : List Byte) : Option Nat × State :=
  if s.flag (SW_POL_W0_ENABLE (2 * p + 1)) then
    let (c, s') := s.police (2 * p + 1) eth.length 0
    (if c = 2 then none else some c, s')
  else (some 0, s)

/-- A frame that still arrives is cut through on the ports that stand at a boundary and would send it next (R110), and then proves bad (R111). -/
def State.spoilCut (s : State) (ds : List Dest) (id : Nat) : State :=
  (ds.foldl (fun s d => if s.boundary d.out && (s.pickClass d.out).1.any (fun c => c.desc == id) then s.egressSelect d.out else s) s).killFrame id 0

/-- A frame from an Ethernet port (R122, R140 to R143) in the order of R108: the claim of 16 cells at its start, the lookup, the policer, admission; its
length and FCS are judged at the tail, where the cells it did not fill are free again: a bad frame that is being cut through by then ends spoiled
(R111; log entry 137). DESIGN CHOICE: at a port whose VC2 owner has MIN 0, which carries none (R123), a frame counts in SW_DROP_NOBUF (log entry 159). -/
def State.bridgeIn (s : State) (p : Nat) (eth : List Byte) (fcsOk : Bool) : State :=
  let o := portOwner p 2 0
  if s.ownerMin o = 0 ∨ !s.claimOk o 16 then s.count SW_DROP_NOBUF
  else match (if etherType eth = 0x8808 then none else s.bridgeTargets p eth) with
    | none => s.count SW_DROP_ETH
    | some ts => match s.ethColour p eth with
      | (none, s1) => s1.count SW_DROP_POLICE
      | (some c, s1) =>
        let bad := !bridgeLength eth || !fcsOk
        let (carry, ds, s2) := s1.carryTo p c eth ts
        let k := min 16 (ceilDiv eth.length 256)
        if ds.isEmpty then (if bad && ts.all (fun t => !s.portUp t) then s2.count SW_DROP_ETH else s2)
        else if bad then (((s2.takeCells o k).enqueue carry p o k false (some (eth.take 4096)) ds false).spoilCut ds s2.sw.nextId).count SW_DROP_ETH
        else (s2.takeCells o k).enqueue carry p o k true (some eth) ds false

/-- A carry frame that the bridge takes from an endpoint (R141, R142): it goes on in the cells it holds. -/
def State.bridgeOut (s : State) (p : Nat) (eth : List Byte) (colour owner inPort cells : Nat) (chain : List Nat) : State :=
  let gone := fun (s : State) => s.releaseCells owner inPort cells chain
  if !bridgeLength eth ∨ etherType eth = 0x8808 then gone (s.count SW_DROP_ETH)
  else match s.bridgeTargets p eth with
    | none => gone (s.count SW_DROP_ETH)
    | some ts =>
      let (carry, ds, s1) := s.carryTo p colour eth ts
      if ds.isEmpty then gone s1
      else (s1.modSw (fun w => { w with hand := chain })).enqueue carry inPort owner cells true (some eth) ds false

/-- A frame from an endpoint port at the bridge: the carry frame that waits there for it; where none waits, the bridge's own cells take it (log entry
3). -/
def State.bridgeCarried (s : State) (p : Nat) (eth : List Byte) : State :=
  match s.sw.agentQ.find? (fun i => i.agent == 12 && i.frame.srcPort == p && i.frame.payload == eth) with
  | some i => (s.modSw (fun w => { w with agentQ := w.agentQ.erase i })).bridgeOut p eth i.frame.colour i.owner i.inPort i.cells i.chain
  | none =>
    let o := agentOwner 12 2
    let k := ceilDiv eth.length 256
    if s.claimOk o k then
      let s1 := s.takeCells o k
      (s1.modSw (fun w => { w with hand := [] })).bridgeOut p eth 0 o (256 + 12) k s1.sw.hand
    else s.count SW_DROP_NOBUF

/-- BRIDGE_FRAME (R140 to R143), held while an island on its way is out of muster (R51). -/
def execBridgeFrame (port : Nat) (eth : List Byte) (fcsOk : Bool) (s : State) : Host.Outcome State Fault Refusal :=
  if !s.portUp port || s.inHeld port then .next s
  else if s.portKind port = 3 then .next (s.bridgeIn port eth fcsOk)
  else if s.portKind port = 1 then .next ((s.bridgeCarried port eth).retryAgents)
  else .next s

end Sys2Proof.Machine
end

