-- ==== Sys2Proof/Machine/Bell.lean ====
section
/-! DEFINITION. The bell-time unit (R35 to R62): the timing tree, exchanges, lock, setting and the choice window, IEEE
1588, islands out of muster. Directions are the bundle numbers of R363; stamps are in 1/65,536 tick (R40). -/

namespace Sys2Proof.Machine

open Sys2Proof

/-- The module is the time root (R38). -/
def State.isRoot (s : State) : Bool := s.flag BT_STATUS_ROOT

/-- The root coordinate held in BT_ROOT. -/
def State.rootCoord (s : State) : Nat := s.fld BT_ROOT_ROOT_X + 16 * s.fld BT_ROOT_ROOT_Y + 256 * s.fld BT_ROOT_ROOT_Z

/-- BT_STATUS.ROOT follows the module's coordinate and BT_ROOT (R38). -/
def State.refreshRoot (s : State) : State :=
  s.setFld BT_STATUS_ROOT (if s.flag DV_COORD_VALID && s.coord == s.rootCoord then 1 else 0)

/-- Ticks of an exchange interval. -/
def State.interval (s : State) : Nat := 2 ^ (s.fld BT_CTRL_SYNC_EXP + 12)

/-- What the unit holds of a direction. -/
def State.dir (s : State) (d : Nat) : DirInfo := s.bell.dirs.getD d default

/-- The state with what is held of a direction changed. -/
def State.modDir (s : State) (d : Nat) (f : DirInfo → DirInfo) : State :=
  s.modBell (fun b => { b with dirs := modifyAt f d b.dirs })

/-- A tick of the free count lies within the last four exchange intervals (R39, R45, R46). -/
def State.recent (s : State) : Option Nat → Bool
  | none => false
  | some t => decide (s.free ≤ t + 4 * s.interval)

/-- The candidates for the parent, in order (R39 step 1): axes z, y, x; the shorter way first, minus on a tie. -/
def State.candidates (s : State) : List Nat :=
  let r := s.rootCoord
  [2, 1, 0].flatMap (fun a =>
    if coordAxis s.coord a = coordAxis r a then []
    else
      let (dp, dm) := s.hops s.coord r a
      if dp < dm then [bundleNo a true, bundleNo a false] else [bundleNo a false, bundleNo a true])

/-- A candidate is passed over (R39 step 2). -/
def State.passedOver (s : State) (d : Nat) : Bool :=
  !s.bundleUp d || s.recent (s.dir d).childAt || decide (31 ≤ (s.dir d).hops)

/-- Rank of a lock state for the root's choice (R45): LOCKED, ACQUIRE, HOLDOVER, UNLOCKED. -/
def lockRank (l : Nat) : Nat := if l = 1 then 0 else if l = 0 then 1 else l

/-- The neighbour in a direction. -/
def State.dirCoord (s : State) (d : Nat) : Nat := s.neighbour s.coord (d / 2) (d % 2 == 0)

/-- The neighbour a restarting root would take its time from (R45): best lock state, then lowest linear index. -/
def State.bestNeighbour (s : State) : Option Nat :=
  (List.range 6).foldl (fun best d =>
    match (s.dir d).kept with
    | none => best
    | some a =>
      match best with
      | none => some d
      | some e =>
        let b := ((s.dir e).kept.map (·.lock)).getD 3
        if lockRank a.lock < lockRank b ∨ (lockRank a.lock = lockRank b ∧ s.dirCoord d < s.dirCoord e) then some d else best) none

/-- The direction the module exchanges with, evaluated anew (R39 step 3, R45): a root that has chosen its sender stays with it. -/
def State.evalParent (s : State) : Option Nat :=
  if s.isRoot then (if s.bellSet then none else s.bell.rootFrom.or s.bestNeighbour)
  else s.candidates.find? (fun d => !s.passedOver d)

/-- A timing message's payload (R41). -/
def State.timing (s : State) (kind seq a b c : Nat) : List Byte :=
  natLE 1 kind ++ natLE 1 (s.fld BT_STATUS_HOPS) ++ natLE 2 (s.rootCoord + 2 ^ 11 * s.fld BT_STATUS_LOCK) ++
  natLE 4 seq ++ natLE 8 a ++ natLE 8 b ++ natLE 8 c

/-- A frame of the bell-time unit sent to the neighbour in a direction, on VC5 (R41, log entry 14). DESIGN CHOICE: where no cells are free for
it, it is not sent, and none is kept to be tried again (log entry 126). -/
def State.sendDir (s : State) (d : Nat) (kind : Nat) (payload : List Byte) : State :=
  match (if kind = 0x72 ∨ s.bundleUp d then s.bundlePorts d else []) with
  | [] => s
  | p :: _ =>
    let a := d / 2
    let dl := if s.crosses s.coord a (d % 2 == 0) then 1 else 0
    let f := { blankFrame with kind := kind, vc := 5, destKind := 3, dstCoord := s.dirCoord d, dstPort := 0xFE,
                               srcCoord := s.coord, srcPort := 0xFE, payload := payload }
    if s.claimOk (agentOwner 11 5) (frameCells f) then
      (s.takeCells (agentOwner 11 5) (frameCells f)).enqueue f (256 + 11) (agentOwner 11 5) (frameCells f) true none [⟨p, dl, dl, a, false, 0xFE, none⟩] false
    else s

/-- A timing message is well formed: 32 bytes, the expected KIND, and this fabric's root (R41). -/
def State.timingOk (s : State) (f : Frame) (kind : Nat) : Bool :=
  f.payload.length == 32 && byteAt f.payload 0 == kind && leAt f.payload 2 2 % 2048 == s.rootCoord

/-- A malformed timing message is discarded and counted once (R41). -/
def State.timingDrop (s : State) : State := s.count BT_SYNC_DROPS

/-- LOCK moves; a move out of LOCKED counts under kind 6 and is reported (R42, R57, R395). -/
def State.setLock (s : State) (l : Nat) : State :=
  let old := s.fld BT_STATUS_LOCK
  let s1 := (s.setFld BT_STATUS_LOCK l).modBell (fun b => { b with
    good := 0, bad := 0, holdAt := if l = 2 then s.free else b.holdAt })
  if old = 1 ∧ l ≠ 1 then (s1.choice 6).fault 0x300 0x0D l else s1

/-- Bell time is set by step (R45): on the alignment-period boundary b that follows, to T_A + d + (b − t_R), rounded
down to a multiple of 32. The command lasts until b (log entry 15). -/
def State.setBell (s : State) (a : Announce) (d : Int) : State :=
  let b := (s.free / 32 + 1) * 32
  let v := ((a.tA * 65536 : Nat) + d + (b * 65536 : Nat) - a.tR) / 65536
  let t := (v / 32 * 32).toNat
  let s1 := (s.modBell (fun x => { x with now := t % 2 ^ 64, free := b, missed := 0, good := 0, bad := 0 })).raise BT_STATUS_SET
  (s1.setFld BT_STATUS_LOCK (if s.isRoot then 1 else 0)).setReg BT_TAI_EPOCH (BitVec.ofNat 64 a.tai)

/-- Bell time is set from a direction where its announce and a fresh link delay are held (R45 step 2). -/
def State.trySet (s : State) (d : Nat) : State :=
  if s.bellSet ∨ s.phase < 4 then s
  else match (s.dir d).kept with
    | none => s
    | some a => if s.recent (s.dir d).exchAt then s.setBell a (s.dir d).delay else s

/-- HOPS is the parent's plus 1 (R39); without a parent, or before it has reported, the last one stays. -/
def State.showHops (s : State) : State :=
  match s.bell.parent.bind (fun d => (s.dir d).seen) with
  | some h => if s.isRoot then s else s.setFld BT_STATUS_HOPS (min 255 (h + 1))
  | none => s

/-- What a neighbour reports of itself in a valid message (R39, R41). -/
def State.takeHops (s : State) (d h l : Nat) : State :=
  (s.modDir d (fun x => { x with seen := some h, lock := l })).showHops

/-- SYNC_INTERVAL (R39, R42): an interval without a valid reply is counted, SYNC goes to the parent, and the parent is
evaluated for the next interval. -/
def execSyncInterval (tA : Nat) (s : State) : Host.Outcome State Fault Refusal :=
  if s.phase < 4 ∨ !s.flag DV_COORD_VALID ∨ (s.isRoot ∧ s.bellSet) then .next s
  else
    let miss := if s.bell.answered then 0 else s.bell.missed + 1
    let s1 := s.modBell (fun b => { b with missed := miss, answered := false, openExch := none })
    let s2 := if s1.bellSet && s1.fld BT_STATUS_LOCK == 1 && decide (4 ≤ miss) then s1.setLock 2 else s1
    let s3 := match s2.bell.parent with
      | none => s2
      | some d =>
        let q := (s2.bell.seq + 1) % 2 ^ 32
        (s2.modBell (fun b => { b with seq := q, openExch := some (tA, d) })).sendDir d 0x60 (s2.timing 1 q (tA % 2 ^ 64) 0 0)
    .next (s3.modBell (fun b => { b with parent := s3.evalParent })).showHops

/-- SYNC (R41): the sender is a child, and SYNC_REPLY goes back with t_A, t_B and t_C. -/
def execSync (dir : Nat) (f : Frame) (tB tC : Nat) (s : State) : Host.Outcome State Fault Refusal :=
  let s0 := s.takeAgent f
  if 6 ≤ dir then .next s0
  else if !s0.timingOk f 1 then .next s0.timingDrop
  else
    let s1 := s0.modDir dir (fun x => { x with childAt := some s0.free })
    .next (s1.sendDir dir 0x60 (s1.timing 2 (leAt f.payload 4 4) (leAt f.payload 8 8) (tB % 2 ^ 64) (tC % 2 ^ 64)))

/-- The difference of two stamps of 64 bits, in 1/65,536 tick: their upper bits are restored as those that make it
least in magnitude (R41). -/
def stampDiff (a b : Nat) : Int := toSigned 64 (a % 2 ^ 64 + 2 ^ 64 - b % 2 ^ 64)

/-- The lock state after a valid exchange with the parent (R42). -/
def State.lockStep (s : State) (u : Int) (parentLock : Nat) : State :=
  let inBound := decide (u.natAbs * 5 ≤ 65536)
  let s1 := s.modBell (fun b => { b with good := if inBound then b.good + 1 else 0, bad := if inBound then 0 else b.bad + 1 })
  let l := s1.fld BT_STATUS_LOCK
  if l = 0 then (if 8 ≤ s1.bell.good ∧ parentLock = 1 then s1.setLock 1 else s1)
  else if l = 1 then (if parentLock ≠ 1 then s1.setLock 2 else if 2 ≤ s1.bell.bad then s1.setLock 0 else s1)
  else if parentLock = 1 then s1.setLock 0 else s1

/-- SYNC_REPLY (R42): the exchange yields the link delay d and the offset u; bell time may be set, and the lock state moves. The exchange is
with the parent of its interval, which the next interval may have changed (R39). -/
def execSyncReply (dir : Nat) (f : Frame) (tD : Nat) (s : State) : Host.Outcome State Fault Refusal :=
  let s0 := s.takeAgent f
  if 6 ≤ dir then .next s0
  else if !s0.timingOk f 2 then .next s0.timingDrop
  else match s0.bell.openExch with
    | none => .next s0
    | some (tA, d) =>
      if d ≠ dir ∨ leAt f.payload 4 4 ≠ s0.bell.seq ∨ leAt f.payload 8 8 ≠ tA % 2 ^ 64 then .next s0
      else
        let ab := stampDiff (leAt f.payload 16 8) tA
        let cd := stampDiff tD (leAt f.payload 24 8)
        let delay := (ab + cd) / 2
        let u := (ab - cd) / 2
        let lock := leAt f.payload 2 2 / 2048 % 4
        let s1 := (s0.takeHops dir (byteAt f.payload 1) lock).modDir dir (fun x => { x with
          delay := delay, offset := u, exchAt := some s0.free })
        let s2 := s1.modBell (fun b => { b with answered := true, missed := 0, openExch := none })
        let s3 := if s2.isRoot then s2 else s2.setFld BT_STATUS_OFFSET_EST (ofSigned 32 (u / 256))
        if s3.isRoot then .next (if s3.bell.rootFrom = some dir then s3.trySet dir else s3)
        else if s3.bellSet then .next (s3.lockStep u lock)
        else .next (if s3.bell.parent = some dir then s3.trySet dir else s3)

/-- ROOT_ANNOUNCE_SEND (R41): a module whose bell time is set announces it to every neighbour whose bundle is up. DESIGN CHOICE: SEQ, the
number of an exchange, is 0 in an announce (log entry 127). -/
def execRootAnnounceSend (s : State) : Host.Outcome State Fault Refusal :=
  if !s.bellSet then .next s
  else .next ((List.range 6).foldl (fun s d =>
    if s.bundleUp d then s.sendDir d 0x60 (s.timing 3 0 s.now (s.reg BT_TAI_EPOCH).toNat 0) else s) s)

/-- ROOT_ANNOUNCE (R39, R42, R45, R49): HOPS and lock of the sender; a parent that is not LOCKED ends LOCKED; the announce may be kept and bell
time set from it. -/
def execRootAnnounce (dir : Nat) (f : Frame) (tR : Nat) (s : State) : Host.Outcome State Fault Refusal :=
  let s0 := s.takeAgent f
  if 6 ≤ dir then .next s0
  else if !s0.timingOk f 3 then .next s0.timingDrop
  else
    let lock := leAt f.payload 2 2 / 2048 % 4
    let a : Announce := ⟨leAt f.payload 8 8, tR, lock, leAt f.payload 16 8⟩
    let s1 := (s0.takeHops dir (byteAt f.payload 1) lock).modDir dir (fun x => { x with hops := byteAt f.payload 1 })
    let mine := decide (s1.bell.parent = some dir) && !s1.isRoot
    let s2 := if mine && s1.bellSet then
        (let s3 := s1.setReg BT_TAI_EPOCH (BitVec.ofNat 64 a.tai)
         if s3.fld BT_STATUS_LOCK = 1 ∧ lock ≠ 1 then s3.setLock 2 else s3)
      else s1
    if s2.bellSet ∨ s2.phase < 4 then .next s2
    else if s2.isRoot then
      .next (if s2.bell.rootWaitAt.isSome then
        (let s3 := s2.modDir dir (fun x => { x with kept := some a })
         if s3.bell.rootFrom = some dir then s3.trySet dir else s3) else s2)
    else if mine ∧ lock = 1 then .next ((s2.modDir dir (fun x => { x with kept := some a })).trySet dir)
    else .next s2

/-- ROOT_WAIT_END (R45): 64 intervals after BRINGUP_DONE the root takes its time from the best neighbour, or starts at 0. -/
def execRootWaitEnd (s : State) : Host.Outcome State Fault Refusal :=
  match s.bell.rootWaitAt with
  | none => .next s
  | some t =>
    if !s.isRoot ∨ s.bellSet ∨ s.free < t + 64 * s.interval ∨ s.bell.rootFrom.isSome then .next s
    else match s.bestNeighbour with
      | some d => .next ((s.modBell (fun b => { b with rootFrom := some d })).trySet d)
      | none => .next (((s.modBell (fun b => { b with now := 0 })).raise BT_STATUS_SET).setFld BT_STATUS_LOCK 1)

/-- HOLD_LIMIT_EXPIRY (R42): HOLDOVER becomes UNLOCKED after HOLD_LIMIT × 0.5 ms. -/
def execHoldLimitExpiry (s : State) : Host.Outcome State Fault Refusal :=
  if s.bellSet && s.fld BT_STATUS_LOCK == 2 && decide (s.bell.holdAt + 4000000 * s.fld BT_CTRL_HOLD_LIMIT ≤ s.free)
  then .next (s.setLock 3) else .next s

/-- CHOICE_WINDOW_WRITE (R47, R55, R58): a bound is taken, or refused with WINDOW_REFUSED. -/
def execChoiceWindowWrite (isEnd : Bool) (tick : Nat) (s : State) : Host.Outcome State Fault Refusal :=
  if !s.tickAhead tick then .next (s.raise BT_TIMED_ERR_WINDOW_REFUSED)
  else if isEnd then .next (s.setReg BT_RUN_END (BitVec.ofNat 64 tick))
  else .next { s.setReg BT_RUN_START (BitVec.ofNat 64 tick) with windowArmed := true }

/-- CHOICE_WINDOW_OPEN (R58). -/
def execChoiceWindowOpen (s : State) : Host.Outcome State Fault Refusal := .next (if s.windowDue then s.openWindow else s)

/-- Offset of a PTP message's header in its Ethernet frame, by the transports of R48: behind a VLAN tag, and behind the IPv4 or IPv6 and UDP headers (log
entry 16). -/
def ptpAt (eth : List Byte) : Nat :=
  (if beNat ((eth.drop 12).take 2) = 0x8100 then 18 else 14) + (if etherType eth = 0x0800 then 28 else if etherType eth = 0x86DD then 48 else 0)

/-- Bytes of a frame replaced. -/
def putBytes (bs : List Byte) (i : Nat) (new : List Byte) : List Byte := bs.take i ++ new ++ bs.drop (i + new.length)

/-- A frame with its last four bytes made the FCS of the rest (R140). -/
def withFcs (bs : List Byte) : List Byte := bs.take (bs.length - 4) ++ natLE 4 (ethFcs (bs.take (bs.length - 4)))

/-- The PTP time that a transmitting port presents (R49), in ns: TAI_AT_EPOCH + bell time ÷ 8. -/
def State.ptpTime (s : State) : Nat := ((s.reg BT_TAI_EPOCH).toNat + s.now / 8) % 2 ^ 64

/-- The answer of a port's transmitting clock to a request (R48, R49): PTP time stands in its receive timestamp, 6 bytes of seconds and 4 of nanoseconds;
the other bytes are IEEE 1588's (log entry 16). -/
def State.ptpAnswer (s : State) (eth : List Byte) : List Byte :=
  let at_ := ptpAt eth
  withFcs (putBytes ((List.range (at_ + 58)).map (fun i => Config.partByte 1 s.freeCtr i)) (at_ + 34)
    ((natLE 6 (s.ptpTime / 1000000000)).reverse ++ (natLE 4 (s.ptpTime % 1000000000)).reverse))

/-- The two-byte numbers in wire order that bytes hold. -/
def wireWords : List Byte → List Nat
  | a :: b :: bs => (256 * a.toNat + b.toNat) :: wireWords bs
  | _ => []

/-- A sum brought to 16 bits by carrying round the end, for a sum below 2^32. -/
def carryRound (n : Nat) : Nat := (n % 65536 + n / 65536) % 65536 + (n % 65536 + n / 65536) / 65536

/-- A UDP checksum after bytes under it have changed (log entry 16): 0, which says that there is none, stays. -/
def udpUpdate (sum : Nat) (old new : List Byte) : Nat :=
  let t := 65535 - carryRound (65535 - sum + ((wireWords old).map (65535 - ·)).sum + (wireWords new).sum)
  if sum = 0 then 0 else if t = 0 then 65535 else t

/-- An event message that passes through in the transparent role (R48): the residence time, a free value, is added to its correctionField, and the
checksum of a UDP transport follows (log entry 16). -/
def State.ptpThrough (s : State) (msgType : Nat) (eth : List Byte) : List Byte :=
  if msgType = 0x0 ∨ msgType = 0x3 then
    let at_ := ptpAt eth
    let old := (eth.drop (at_ + 8)).take 8
    let new := (natLE 8 (beNat old + (Config.freeWord s.freeCtr).toNat)).reverse
    let e1 := putBytes eth (at_ + 8) new
    withFcs (if at_ ≤ 18 then e1 else putBytes e1 (at_ - 2) (natLE 2 (udpUpdate (beNat ((eth.drop (at_ - 2)).take 2)) old new)).reverse)
  else eth

/-- The time receiver's port of the time root (R48). -/
def State.ptpReceiver (s : State) (port : Nat) : Bool := s.isRoot && s.flag BT_ROOT_PTP_SOURCE && s.fld BT_ROOT_PTP_PORT == port

/-- PTP_MESSAGE (R48, R49, R143): a Delay_Req or Pdelay_Req is answered by the port's transmitting clock; the time receiver's port takes the time of its
transmitter and records TAI_AT_EPOCH once; every other message, and signalling and management everywhere, is bridged. -/
def execPtpMessage (port msgType taiNs : Nat) (eth : List Byte) (s : State) : Host.Outcome State Fault Refusal :=
  if s.portKind port ≠ 3 ∨ !s.portUp port ∨ s.inHeld port then .next s
  else if msgType = 0x1 ∨ msgType = 0x2 then .next ((s.sentEth port (s.ptpAnswer eth) false).nextFree)
  else if s.ptpReceiver port && msgType != 0xC && msgType != 0xD then
    let s1 := s.raise BT_STATUS_PTP_LOCKED
    if s1.bell.ptpAcquired || !s1.bellSet then .next s1
    else .next ((s1.setReg BT_TAI_EPOCH (BitVec.ofInt 64 ((taiNs : Int) - (s1.now / 8 : Nat)))).modBell
      (fun b => { b with ptpAcquired := true }))
  else .next (s.nextFree.bridgeIn port (s.ptpThrough msgType eth) true)

/-- ISLAND_OUT_OF_MUSTER (R51): the maps and the count show it, it counts under kind 4 and is reported. -/
def execIslandOutOfMuster (island : Nat) (s : State) : Host.Outcome State Fault Refusal :=
  if 56 ≤ island ∨ s.regBit BT_MUSTER_OUT island then .next s
  else
    let s1 := (s.setRegBit BT_MUSTER_OUT island true).setRegBit BT_MUSTER_LOST island true
    .next (((s1.setFld BT_STATUS_ISLANDS_OUT (s1.fld BT_STATUS_ISLANDS_OUT + 1)).choice 4).fault island 0x01 0)

/-- REMUSTER_DONE (R51): the island takes work again. -/
def execRemusterDone (island : Nat) (s : State) : Host.Outcome State Fault Refusal :=
  if s.regBit BT_MUSTER_OUT island then
    .next (((s.setRegBit BT_MUSTER_OUT island false).setFld BT_STATUS_ISLANDS_OUT (s.fld BT_STATUS_ISLANDS_OUT - 1)).retryAgents)
  else .next s

end Sys2Proof.Machine
end

