-- ==== Sys2Proof/Machine/Lanes.lean ====
section
/-! DEFINITION. The meanings of the lanes' and ports' commands (R359 to R390): bring-up, link-level retry, narrowing, quiet
and sleep, shut-down and enable. -/

namespace Sys2Proof.Machine

open Sys2Proof

/-! ### Bring-up (R369 to R372) -/

/-- Ticks after which a stage times out (R369). -/
def stageTicks (stage : Nat) : Nat :=
  ticksPerUs * (if stage = 1 then 100 else if stage = 2 then 2000 else if stage = 3 then 100 else if stage = 4 then 50000 else 1000)

/-- The highest version that a port supports (R362, R370). -/
def State.ourVersion (s : State) (p : Nat) : Nat := if s.fld (LN_PORT_W0_PROTO p) = 2 then 1 else 2

/-- The identity word of a lane of a port (R370). -/
def State.identWord (s : State) (p k : Nat) : Nat :=
  0xA5C3 * 2 ^ 48 + k * 2 ^ 44 + s.fld (LN_PORT_W0_WIDTH_CFG p) * 2 ^ 41 + s.ourVersion p * 2 ^ 39 + s.portKind p % 4 * 2 ^ 37

/-- The port moves to a stage; in stage 2 it sends its identity words (R369, R370). -/
def State.toStage (s : State) (p stage : Nat) : State :=
  let u := (s.port p).usable
  let s1 := if stage = 2 ∧ s.portKind p ≠ 3 then s.modOut (fun o => { o with
      idents := o.idents ++ (onesOf u 16).map (fun k => (p, k, s.identWord p k)) }) else s
  ((s1.setFld (LN_PORT_W2_STAGE p) stage).modPort p (fun c => { c with stageAt := s.free })).showLanes p
    (fun k => if u.testBit k then min stage 7 else 10)

/-! ### Identity words (R370) -/

/-- A lane has received the pattern inverted. -/
def laneInverted (found : StageFinding) (k : Nat) : Bool := bitsOf (found.words.getD k 0) 63 48 == 0x5A3C

/-- A lane's identity word as its receiver reads it, inverted where the pattern was; none where it is no such word. -/
def laneWord (found : StageFinding) (k : Nat) : Option Nat :=
  let w := found.words.getD k 0
  if laneInverted found k then some (2 ^ 64 - 1 - w % 2 ^ 64) else if bitsOf w 63 48 = 0xA5C3 then some w else none

/-- The index that a lane has received. -/
def laneIndex (found : StageFinding) (k : Nat) : Option Nat := (laneWord found k).map (fun w => bitsOf w 47 44)

/-- The lanes of a run whose index fits a mapping. -/
def lanesFitting (found : StageFinding) (n : Nat) (map : Nat → Nat) : List Nat := (List.range n).filter (fun k => laneIndex found k == some (map k))

/-- The lane order is reversed: fewer lanes receive their own index than the index from the other end. -/
def orderReversed (found : StageFinding) (n : Nat) : Bool :=
  decide ((lanesFitting found n id).length < (lanesFitting found n (fun k => n - 1 - k)).length)

/-- Lanes without an identity word. -/
def lanesUnlocked (found : StageFinding) (n : Nat) : Nat := ((List.range n).filter (fun k => (laneWord found k).isNone)).foldl setBitOf 0

/-- Lanes whose index fits neither mapping. -/
def lanesMiswired (found : StageFinding) (n : Nat) : Nat :=
  ((List.range n).filter (fun k => (laneWord found k).isSome && laneIndex found k != some k && laneIndex found k != some (n - 1 - k))).foldl setBitOf 0

/-- The partner's highest version, as the lane of the lowest index has received it. -/
def partnerVersion (found : StageFinding) (n : Nat) : Nat :=
  (((List.range n).findSome? (laneWord found)).map (fun w => bitsOf w 40 39)).getD 0

/-- Lanes of a mask lost in a stage, with the cause and kind of the stage. -/
def State.loseInStage (s : State) (p mask cause kind : Nat) : State :=
  ((onesOf mask 16).filter (fun k => (s.port p).usable.testBit k)).foldl (fun s k => s.leaveLane p k cause kind) s

/-- The adaptation results of a lane's receiver after TRAIN are what the receiver found: free values, but for h(0), the unit of
the taps (R390). -/
def State.showTaps (s : State) (n : Nat) : State :=
  let v := fun (i : Nat) => Config.freeWord (s.freeCtr + i)
  ((((s.setReg (LN_LANE_W1 n) (putFld (v 0) 31 24 0x40)).setReg (LN_LANE_W2 n) (v 1 &&& 0xFF1FFFFFFFFF)).setReg (LN_LANE_W3 n)
    (v 2 &&& 0x3F3F3F3F3F)).nextFree.nextFree).nextFree

/-- Frames of a bundle that stand in the detour store (R87): in queues, or with an agent. -/
def State.detoured (s : State) (b : Nat) : Nat :=
  (s.sw.descs.filter (fun d => d.owner == detourOwner && s.bundleOf d.inPort == some b)).length +
  (s.sw.agentQ.filter (fun i => i.owner == detourOwner && s.bundleOf i.inPort == some b)).length

/-- The port has passed its last stage and is up (R369): PORTS_UP counts it, its trunk receive crossing is mustered (R50), and a trunk in torus
service sends its identity frame (R68). The bundle's detour credits start anew (R87, R121; log entry 20). -/
def State.joinPort (s : State) (p : Nat) : State :=
  let s1 := ((s.setFld (LN_PORT_W2_STATE p) 2).setFld (LN_PORT_W2_STAGE p) 0).modPort p (fun c => { c with
    musterAt := if s.portKind p = 2 ∨ s.portKind p = 4 then some s.free else none, musterFails := 0 })
  let s2 := match s1.bundleOf p with
    | none => s1
    | some b =>
      if s1.flag DV_COORD_OPEN_MODE then s1
      else
        let s1' := s1.modSw (fun w => { w with
            detourCredit := sparseErase w.detourCredit b,
            detourCum := sparseErase w.detourCum b,
            detourOut := sparseSet 0 w.detourOut b (16 - s1.detoured b) })
        s1'.sendDir b 0x72 (s1'.identPayload b)
  s2.showPorts

/-- What a passed or timed-out stage leaves of a fabric port's lanes, and where the port goes (R369, R370). -/
def State.endStage (s : State) (p : Nat) (found : StageFinding) (late : Bool) : State :=
  let stage := s.fld (LN_PORT_W2_STAGE p)
  let u := (s.port p).usable
  if stage = 1 then
    if found.openMask &&& s.fullMask p = s.fullMask p then
      ((List.range (s.runLanes p)).foldl (fun s k => s.setFld (LN_LANE_W0_CAUSE (s.laneNo p k)) 1) s |>.restPort p 5 1).showPorts
    else
      let clean := (List.range (s.runLanes p)).foldl (fun s k =>
        if s.fld (LN_LANE_W0_CAUSE (s.laneNo p k)) ≤ 2 then s.setFld (LN_LANE_W0_CAUSE (s.laneNo p k)) 0 else s) s
      let s1 := (clean.loseInStage p found.openMask 1 0x30).loseInStage p found.shortMask 2 0x31
      if (s1.port p).usable = 0 then s1.leaveOut p 4 else s1.toStage p 2
  else if stage ≤ 5 then
    let n := s.runLanes p
    let mis := if stage = 2 then lanesMiswired found n else 0
    let failed := found.failedMask ||| (if stage = 2 then lanesUnlocked found n else 0)
    if u &&& (failed ||| mis) = u then
      if 2 ≤ (s.port p).tries then s.leaveOut p 2
      else (s.modPort p (fun c => { c with tries := c.tries + 1 })).toStage p 2
    else
      let s1 := (s.loseInStage p mis 3 0x32).loseInStage p failed (if stage = 4 then 6 else 4) 0x33
      if stage = 2 then
        let v1 := decide (min (partnerVersion found n) (s.ourVersion p) = 1)
        if v1 ∧ (s.portKind p ≠ 1 ∨ s.fld (LN_PORT_W0_PROTO p) = 0) then s1.leaveOut p 3
        else
          let s2 := (s1.setFld (LN_PORT_W2_V1 p) (if v1 then 1 else 0)).setFld (LN_PORT_W2_REVERSED p) (if orderReversed found n then 1 else 0)
          ((List.range (s.runLanes p)).foldl (fun s k =>
            s.setFld (LN_LANE_W0_RX_INV (s.laneNo p k)) (if laneInverted found k then 1 else 0)) s2).toStage p 3
      else if stage = 4 then ((onesOf (s1.port p).usable 16).foldl (fun s k => s.showTaps (s.laneNo p k)) s1).toStage p 5
      else s1.toStage p (stage + 1)
  else if stage = 6 then
    if late ∨ (s.port p).partner.isNone ∨ !s.widthOk p (s.bothUsable p) then s.leaveOut p 4
    else (s.setWidth p (s.bothUsable p)).setFld (LN_PORT_W2_STAGE p) 7 |>.modPort p (fun c => { c with stageAt := s.free, checkBad := false })
  else if stage = 7 then
    let bad := found.failedMask &&& s.fld (LN_PORT_W2_ACTIVE p)
    if bad = 0 ∧ !(s.port p).checkBad then
      (if (s.bundleOf p).isSome && !s.flag DV_COORD_OPEN_MODE then (s.setFld (LN_PORT_W2_STAGE p) 8).modPort p (fun c => { c with stageAt := s.free })
       else s.joinPort p)
    else
      let s1 := s.loseInStage p bad 5 0x33
      if 2 ≤ (s.port p).checks then s1.leaveOut p 2
      else ((s1.modPort p (fun c => { c with checks := c.checks + 1, partner := none })).sentCtrl p
        (.lane 0 (s1.port p).usable 0 0)).toStage p 6
  else
    match s.bundleOf p with
    | some b =>
      -- a far end that is not what R68 asks for: the port is held down and reported
      if late || !found.identityOk then ((((s.leaveLink p).restPort p 6 0).fault (0x200 + p) 0x13 p).holdDown b).showPorts
      else s.joinPort p
    | none => s.joinPort p

/-- The port widths, coded as WIDTH_CFG, that a row of R359 allows on Ethernet. -/
def ethWidthOk (row width : Nat) : Bool := if row ≤ 2 then decide (width ≤ 3) else decide (row ≤ 4) && (width == 0 || width == 2)

/-- An Ethernet port's stages (R360, R372; log entry 28): 1 detection, 2 auto-negotiation where ETH_AN is 1, which settles the rate, 4 training, 5
marker and FEC lock. A lane that fails leaves the whole port out, and so does a rate that R359 does not give at the port's width. -/
def State.endEth (s : State) (p : Nat) (found : StageFinding) (late : Bool) : State :=
  let stage := s.fld (LN_PORT_W2_STAGE p)
  let full := s.fullMask p
  let bad := (found.openMask ||| found.shortMask ||| found.failedMask) &&& full
  if stage = 1 ∧ found.openMask &&& full = full then (s.restPort p 5 1).showPorts
  else if late then s.leaveOut p 2
  else if bad ≠ 0 then
    (((s.loseInStage p found.openMask 1 0x30).loseInStage p found.shortMask 2 0x31).loseInStage p found.failedMask
      (if stage = 4 then 6 else 4) 0x33).leaveOut p 4
  else if stage = 1 ∧ s.flag (LN_PORT_W0_ETH_AN p) then s.toStage p 2
  else if stage < 4 then
    let row := if stage = 1 then s.fld (LN_PORT_W0_ETH_TYPE p) else found.ethRow
    if ethWidthOk row (s.fld (LN_PORT_W0_WIDTH_CFG p)) then (s.modPort p (fun c => { c with ethRow := some row })).toStage p 4 else s.leaveOut p 2
  else if stage = 4 then s.toStage p 5
  else (s.setWidth p full).joinPort p

/-- PORT_STAGE_DONE (R369): the stage the port is in ends with what it found. -/
def execPortStageDone (port : Nat) (found : StageFinding) (s : State) : Host.Outcome State Fault Refusal :=
  if s.portKind port = 0 ∨ s.fld (LN_PORT_W2_STATE port) ≠ 1 then .next s
  else if s.portKind port = 3 then .next (s.endEth port found false)
  else
    let s1 := s.endStage port found false
    -- entering FORM, this end sends its FORM block
    .next (if s1.fld (LN_PORT_W2_STAGE port) = 6 ∧ s.fld (LN_PORT_W2_STAGE port) = 5
      then s1.sentCtrl port (.lane 0 (s1.port port).usable 0 0) else s1)

/-- PORT_STAGE_TIMEOUT (R369): the stage's time has run out. -/
def execPortStageTimeout (port : Nat) (found : StageFinding) (s : State) : Host.Outcome State Fault Refusal :=
  if s.portKind port = 0 ∨ s.fld (LN_PORT_W2_STATE port) ≠ 1 ∨
      s.free < (s.port port).stageAt + stageTicks (s.fld (LN_PORT_W2_STAGE port)) then .next s
  else if s.portKind port = 3 then .next (s.endEth port found true)
  else .next (s.endStage port found true)

/-- Service of a port is possible: from PHASE 0x4 on, but not frozen (R369, R399). -/
def State.linksOn (s : State) : Bool := decide (4 ≤ s.phase) && s.phase != 7

/-- DETECT_RETRY (R371): once a second stage 1 is repeated; a partner starts the whole bring-up. -/
def execDetectRetry (port : Nat) (partnerFound : Bool) (s : State) : Host.Outcome State Fault Refusal :=
  let st := s.fld (LN_PORT_W2_STATE port)
  if (st = 4 ∨ st = 5) ∧ s.flag (LN_PORT_W1_ENABLE port) ∧ s.linksOn ∧
      (s.port port).stageAt + 1000000 * ticksPerUs ≤ s.free then
    if partnerFound then .next (s.startBringup port)
    else .next (s.modPort port (fun c => { c with stageAt := s.free }))
  else .next s

/-- LANE_FORM (R368, R369): the partner's usable lanes. -/
def execLaneForm (port mask : Nat) (s : State) : Host.Outcome State Fault Refusal :=
  if s.fld (LN_PORT_W2_STATE port) = 1 ∧ s.fld (LN_PORT_W2_STAGE port) = 6
  then .next (s.modPort port (fun c => { c with partner := some (s.partnerMask port mask) })) else .next s

/-- PHASE 0x4 is entered (R67, R369): torus service or open-trunk mode, and all enabled ports start. -/
def State.enterLinks (s : State) : State :=
  let s1 := (s.setPhase 4).setFld DV_COORD_OPEN_MODE (if s.flag DV_COORD_VALID then 0 else 1)
  ((List.range 256).foldl (fun s p =>
    if s.portKind p ≠ 0 ∧ s.flag (LN_PORT_W1_ENABLE p) then s.startBringup p else s) s1).showPorts

/-- BRINGUP_DEADLINE (R369, R371): 200 ms after PHASE 0x4 began, ports still in bring-up count as left out. -/
def execBringupDeadline (s : State) : Host.Outcome State Fault Refusal :=
  if s.phase = 4 ∧ s.power.phaseAt + 200000 * ticksPerUs ≤ s.free then .next s.linksDone else .next s

/-! ### Credit and retry (R368, R373 to R375) -/

/-- Cumulative count taken where it is not behind (R368): the credit it adds. -/
def cumAdds (new held : Nat) : Nat :=
  let d := (new % 65536 + 65536 - held) % 65536
  if d < 32768 then d else 0

/-- One owner's cumulative credit (R368). -/
def State.takeCredit (s : State) (o new : Nat) : State :=
  let d := cumAdds new (sparseGet 0 s.sw.txCum o)
  s.modSw (fun w => { w with
    txCredit := sparseSet 0 w.txCredit o (sparseGet 0 w.txCredit o + d),
    txCum := sparseSet 0 w.txCum o ((sparseGet 0 w.txCum o + d) % 65536) })

/-- Cumulative detour credit, which comes on the bundle's lowest-numbered port that is up (R368). -/
def State.takeDetour (s : State) (p new : Nat) : State :=
  match s.bundleOf p with
  | none => s
  | some b =>
    if (s.bundlePorts b).head? ≠ some p then s
    else
      let d := cumAdds new (sparseGet 0 s.sw.detourCum b)
      s.modSw (fun w => { w with
        detourCredit := sparseSet 0 w.detourCredit b (sparseGet 0 w.detourCredit b + d),
        detourCum := sparseSet 0 w.detourCum b ((sparseGet 0 w.detourCum b + d) % 65536) })

/-- ACK_SEQ (R368): taken within the window of 2,048 and not past the next codeword; stored codewords it passes go. -/
def State.takeAck (s : State) (p ack : Nat) : State :=
  let c := s.port p
  let d := (ack % 4096 + 4096 - c.oldest) % 4096
  let lead := min c.stored (s.storeCap p)
  if d = 0 ∨ 2048 ≤ d ∨ lead < d then s
  else
    let keep := c.store.filter (fun e => decide (d < (e.1 + 4096 - c.oldest) % 4096 + e.2.1))
    s.modPort p (fun c => { c with store := keep, ackAt := s.free })

/-- STATUS (R368). -/
def execStatus (port : Nat) (credits : List Nat) (detour ackSeq : Nat) (s : State) : Host.Outcome State Fault Refusal :=
  let st := s.fld (LN_PORT_W2_STATE port)
  if s.portKind port = 3 ∨ (st ≠ 2 ∧ st ≠ 3) then .next s
  else
    let s1 := if st = 2 then (classSubs.zip credits).foldl (fun s x => s.takeCredit (portOwner port x.1.1 x.1.2) x.2) s else s
    .next ((s1.takeDetour port detour).takeAck port ackSeq)

/-- CODEWORD_UNCORRECTABLE (R369, R374): counted; in stage 7 it fails the check; a numbered one discards the incomplete frame and asks for a replay,
unless one is awaited already. -/
def execCodewordUncorrectable (port : Nat) (numbered : Bool) (s : State) : Host.Outcome State Fault Refusal :=
  let st := s.fld (LN_PORT_W2_STATE port)
  if !([1, 2, 4].contains (s.portKind port)) then .next s
  else if st = 3 then .next (s.count (LN_PORT_W6 port))
  else if st = 1 ∧ s.fld (LN_PORT_W2_STAGE port) = 7 then
    .next ((s.count (LN_PORT_W6 port)).modPort port (fun c => { c with checkBad := true }))
  else if !s.portUp port then .next s
  else
    let s1 := s.count (LN_PORT_W6 port)
    if !numbered ∨ (s1.port port).waiting then .next s1
    else .next (((s1.abortRx port).requestReplay port (s1.resumePoint port).1 (s1.resumePoint port).2).retryAgents)

/-- The sender replays from a codeword of its store (R375): REPLAY_START, one kind-2 event, and every stored frame that
ends behind that point again. -/
def State.replayFrom (s : State) (p seq : Nat) : State :=
  let c := s.port p
  let again := c.store.filter (fun e => decide ((seq + 4096 - c.oldest) % 4096 < (e.1 + 4096 - c.oldest) % 4096 + e.2.1))
  let words := min c.stored (s.storeCap p) - (seq + 4096 - c.oldest) % 4096
  let s1 := ((s.count (LN_PORT_W4 p)).choice 2).sentCtrl p (.replayStart seq)
  let s2 := again.foldl (fun s e => s.sentFrame p e.2.2.1 e.2.2.2) s1
  let stop := s.free + s.serialTicks p (640 * words)
  s2.modPort p (fun c => { c with replaying := some (seq, stop), txStop := stop, ackAt := s.free })

/-- A codeword number lies in a port's replay store. -/
def PortCtl.holds (c : PortCtl) (seq : Nat) : Bool :=
  c.store.any (fun e => decide ((seq % 4096 + 4096 - e.1) % 4096 < e.2.1))

/-- The replay in progress starts at a codeword (R375). -/
def State.replayingAt (s : State) (p seq : Nat) : Bool :=
  match (s.port p).replaying with
  | some (q, t) => q == seq && decide (s.free < t)
  | none => false

/-- REPLAY_REQ (R375, R378, R386): a codeword outside the store is a protocol error, in a shut-down too. -/
def execReplayReq (port resumeSeq resumeSlot : Nat) (s : State) : Host.Outcome State Fault Refusal :=
  let st := s.fld (LN_PORT_W2_STATE port)
  if s.portKind port = 3 ∨ (st ≠ 2 ∧ st ≠ 3) ∨ 10 ≤ resumeSlot then .next s
  else if s.replayingAt port (resumeSeq % 4096) then .next s
  else if (s.port port).narrowing.isSome then .next (s.modPort port (fun c => { c with heldReq := some (resumeSeq % 4096) }))
  else if (s.port port).holds resumeSeq then .next (s.replayFrom port (resumeSeq % 4096))
  else .next ((s.portDown port 5 true).setFld (LN_PORT_W2_EN_PEND port) 0)

/-- REPLAY_START (R374): the awaited replay begins; numbered codewords are taken again, from RESUME_SLOT on. -/
def execReplayStart (port seq : Nat) (s : State) : Host.Outcome State Fault Refusal :=
  let c := s.port port
  match c.asked with
  | none => .next s
  | some (q, l, _) =>
    if c.waiting ∧ q = seq % 4096 then .next (s.modPort port (fun c => { c with waiting := false, rxSeq := q, rxSlot := l, rxHere := true }))
    else .next s

/-- REPLAY_REQ_REPEAT (R374): no replay within ACK_WAIT. -/
def execReplayReqRepeat (port : Nat) (s : State) : Host.Outcome State Fault Refusal :=
  match (s.port port).asked with
  | none => .next s
  | some (q, l, t, _) =>
    if s.portUp port ∧ (s.port port).waiting ∧ t + 800 * s.fld LN_CTRL_ACK_WAIT ≤ s.free
    then .next (s.requestReplay port q l) else .next s

/-- ACK_WAIT_EXPIRY (R375), in a shut-down too (R384). -/
def execAckWaitExpiry (port : Nat) (s : State) : Host.Outcome State Fault Refusal :=
  let c := s.port port
  if (s.portUp port ∨ s.fld (LN_PORT_W2_STATE port) = 3) ∧ !c.store.isEmpty ∧ c.ackAt + 800 * s.fld LN_CTRL_ACK_WAIT ≤ s.free
  then .next (s.replayFrom port c.oldest) else .next s

/-! ### Narrowing and loss (R376 to R379) -/

/-- SER_WINDOW_END (R376, R390): the window's corrected symbols are counted, and active lanes beyond SER_LIMIT are left
out. The eyes measured are free values. The window ends while codewords are received: up, in stage 7 or in a shut-down. -/
def execSerWindowEnd (port : Nat) (corrected : List Nat) (s : State) : Host.Outcome State Fault Refusal :=
  let st := s.fld (LN_PORT_W2_STATE port)
  if s.portKind port = 0 ∨ (st ≠ 2 ∧ st ≠ 3 ∧ (st ≠ 1 ∨ s.fld (LN_PORT_W2_STAGE port) ≠ 7)) then .next s
  else
    let s1 := (s.activeLanes port).foldl (fun s k =>
      let n := s.laneNo port k
      (((s.countBy (LN_LANE_W4 n) (corrected.getD k 0)).setFld (LN_LANE_W0_EYE_H n) (Config.freeWord s.freeCtr).toNat).setFld
        (LN_LANE_W0_EYE_W n) (Config.freeWord (s.freeCtr + 1)).toNat).nextFree.nextFree) s
    let s2 := s1.modPort port (fun c => { c with symbols := corrected })
    if s.portKind port = 3 ∨ st ≠ 2 then .next s2
    else .next ((s2.loseLanes port ((s2.activeLanes port).filter (fun k =>
      decide (16 * s2.fld LN_CTRL_SER_LIMIT < corrected.getD k 0))) 5).retryAgents)

/-- LANE_SIGNAL_LOSS (R376, R380): an active lane of a receiver that is not quiet or asleep loses signal or CDR lock. -/
def execLaneSignalLoss (port lane : Nat) (s : State) : Host.Outcome State Fault Refusal :=
  if s.portUp port ∧ s.fld (LN_PORT_W2_RX_STATE port) = 0 ∧ (s.activeLanes port).contains lane
  then .next ((s.loseLanes port [lane] 4).retryAgents) else .next s

/-- LANE_NARROW (R377, R386): the partner's new usable mask; symbols are dealt over the new active lanes once both directions are awake. -/
def execLaneNarrow (port mask : Nat) (s : State) : Host.Outcome State Fault Refusal :=
  if !s.portUp port ∨ s.portKind port = 3 ∨ s.flag (LN_PORT_W2_V1 port) then .next s
  else
    let s1 := s.modPort port (fun c => { c with partner := some (c.partner.getD (s.fullMask port) &&& s.partnerMask port mask) })
    if !s1.widthOk port (s1.bothUsable port) then .next (s1.portDown port 4 true)
    else if s1.atRest port then .next ((s1.wakeBoth port).modPort port (fun c => { c with narrowDue := some (c.narrowDue.getD false) }))
    else .next (s1.dealAgain port)

/-- NARROW_DONE (R377, R386): counted and reported; a REPLAY_REQ that came meanwhile is served now. -/
def execNarrowDone (port : Nat) (s : State) : Host.Outcome State Fault Refusal :=
  let c := s.port port
  if c.narrowing.isNone then .next s
  else
    let s1 := s.modPort port (fun c => { c with narrowing := none, heldReq := none })
    let s2 := (s1.setFld (LN_PORT_W7_NARROWINGS port) (s1.fld (LN_PORT_W7_NARROWINGS port) + 1)).portFault port 0x34
    match c.heldReq with
    | none => .next s2
    | some q => if (s2.port port).holds q then .next (s2.replayFrom port q)
      else if s2.portUp port then .next (s2.portDown port 5 true) else .next s2

/-- A tile fails (R379): every port of it goes down, and stays so until a reset. -/
def State.failTile (s : State) (tile : Nat) : State :=
  if 4 ≤ tile then s
  else
    let s1 := ((s.setRegBit LN_STATUS tile true).setRegBit DV_STATE (24 + tile) false).fault (0x180 + tile) 0x37 (256 * (128 * tile))
    ((List.range 256).foldl (fun s p =>
      if s.portKind p ≠ 0 ∧ s.tileOf p = tile ∧ s.fld (LN_PORT_W2_STATE p) ≠ 0 then s.portDown p 6 false else s) s1).retryAgents

/-- TILE_FAIL (R379). -/
def execTileFail (tile : Nat) (s : State) : Host.Outcome State Fault Refusal := .next (s.failTile tile)

/-- TILE_CALIBRATION_DONE (R29). -/
def execTileCalibrationDone (tile : Nat) (s : State) : Host.Outcome State Fault Refusal :=
  if 4 ≤ tile ∨ s.phase = 0 ∨ s.phase = 7 ∨ s.regBit LN_STATUS tile then .next s
  else .next (s.setRegBit DV_STATE (24 + tile) true)

/-! ### Quiet and sleep (R380 to R383): for a port with no definition the fields of words 1 and 3 are written and nothing more (R389) -/

/-- Wake time of a power state in ticks (R380). -/
def wakeTicks (state : Nat) : Nat := if state = 1 then 4000 else if state = 2 then 200000 else 0

/-- A refusal of the lanes block: its bit, and the port of the last error (R388). -/
def State.laneRefuse (s : State) (f : Fld) (p : Nat) : State := (s.raise f).setFld LN_ERR_PORT p

/-- Quiet and sleep exist on version 2 endpoint and trunk ports alone (R361, R381). -/
def State.canRest (s : State) (p : Nat) : Bool :=
  [1, 2].contains (s.portKind p) && !s.flag (LN_PORT_W2_V1 p)

/-- A trunk port carries the timing exchange with the parent or a child (R39, R381): the lowest port up of its bundle. -/
def State.carriesTiming (s : State) (p : Nat) : Bool :=
  match s.bundleOf p with
  | none => false
  | some b => (s.bundlePorts b).head? == some p && (s.bell.parent == some b || s.recent (s.dir b).childAt)

/-- QUIET_REQUEST (R381). -/
def execQuietRequest (port : Nat) (s : State) : Host.Outcome State Fault Refusal :=
  if 256 ≤ port then .next s
  else if s.portKind port = 0 ∨ s.canRest port then .next (s.setFld (LN_PORT_W1_TX_REQ port) 1)
  else .next (s.laneRefuse LN_ERR_REQ_REFUSED port)

/-- SLEEP_REQUEST (R381). -/
def execSleepRequest (port : Nat) (s : State) : Host.Outcome State Fault Refusal :=
  if 256 ≤ port then .next s
  else if s.portKind port = 0 then .next (s.setFld (LN_PORT_W1_TX_REQ port) 2)
  else if !s.canRest port then .next (s.laneRefuse LN_ERR_REQ_REFUSED port)
  else if s.carriesTiming port then .next (s.laneRefuse LN_ERR_SLEEP_REFUSED port)
  else .next (s.setFld (LN_PORT_W1_TX_REQ port) 2)

/-- The transmit direction of a port starts waking (R382, R383). -/
def State.startWake (s : State) (p : Nat) : State :=
  if s.fld (LN_PORT_W2_TX_STATE p) = 0 then s
  else s.modPort p (fun c => { c with txWaking := some (c.txWaking.getD s.free) })

/-- ACTIVE_REQUEST (R382): TX_REQ 0 cancels an entry that waits, and wakes the direction. -/
def execActiveRequest (port : Nat) (s : State) : Host.Outcome State Fault Refusal :=
  if 256 ≤ port then .next s else .next ((s.setFld (LN_PORT_W1_TX_REQ port) 0).startWake port)

/-- POWER_STATE_ENTRY (R381, R382, R383): queues empty, nothing being sent, everything acknowledged, 8,000 ticks since
waking, and no stopover. The notice carries a WAKE_TICK that is still to come. -/
def execPowerStateEntry (port : Nat) (s : State) : Host.Outcome State Fault Refusal :=
  let r := s.fld (LN_PORT_W1_TX_REQ port)
  let c := s.port port
  let rested := match c.wokeAt with
    | some t => decide (t + 8000 ≤ s.free)
    | none => true
  if s.portUp port && s.canRest port && (r == 1 || r == 2) && s.fld (LN_PORT_W2_TX_STATE port) == 0 && s.phase != 6 &&
      c.store.isEmpty && c.narrowing.isNone && c.narrowDue.isNone && rested && !s.sw.copies.any (fun x => x.out == port) then
    let t := (s.reg (LN_PORT_W3 port)).toNat
    .next (((s.sendStatus port).sentCtrl port (.lane 2 c.usable r (if s.bellSet ∧ s.now < t then t else 0))).setFld (LN_PORT_W2_TX_STATE port) r)
  else .next s

/-- A frame is queued for a port, or the credit or the acknowledgement owed to its partner has reached half of what the partner can hold outstanding:
half of an owner's reserved minimum, or half of its replay store, taken to be as large as this end's (R382; log entry 176). -/
def State.wakeWanted (s : State) (p : Nat) : Bool :=
  s.sw.copies.any (fun x => x.out == p) ||
  (List.range classSubs.length).any (fun i =>
    let x := classSubs.getD i (0, 0)
    let min := s.ownerMin (portOwner p x.1 x.2)
    decide (min ≠ 0 ∧ min ≤ 2 * (((s.creditSums p).getD i 0 + 65536 - (s.port p).credSent.getD i 0) % 65536))) ||
  decide (s.storeCap p ≤ 2 * ((s.ackSeq p + 4096 - (s.port p).ackSent) % 4096))

/-- WAKE_TRIGGER (R382): traffic or owed credit wakes the transmit direction, and asks the far end to wake its own. -/
def execWakeTrigger (port : Nat) (s : State) : Host.Outcome State Fault Refusal :=
  if !s.portUp port ∨ !s.wakeWanted port then .next s
  else if s.fld (LN_PORT_W2_TX_STATE port) ≠ 0 then .next (s.startWake port)
  else if s.fld (LN_PORT_W2_RX_STATE port) ≠ 0 then .next (s.sentCtrl port (.lane 3 (s.port port).usable 0 0))
  else .next s

/-- LANE_POWER (R380): the receiver of a version 2 fabric port follows the notice; a wake tick that has passed schedules nothing (R383). -/
def execLanePower (port state tick : Nat) (s : State) : Host.Outcome State Fault Refusal :=
  if s.portUp port ∧ [1, 2, 4].contains (s.portKind port) ∧ !s.flag (LN_PORT_W2_V1 port) ∧ state ≤ 2 then
    .next ((s.setFld (LN_PORT_W2_RX_STATE port) state).modPort port (fun c => { c with rxTick := if s.bellSet ∧ s.now < tick then tick else 0 }))
  else .next s

/-- LANE_WAKE (R382): the far end asks this end's transmit direction back. -/
def execLaneWake (port : Nat) (s : State) : Host.Outcome State Fault Refusal :=
  if s.portUp port then .next (s.startWake port) else .next s

/-- LANE_DOWN (R384): the partner has shut its port down; the port is left out and looks for a partner (log entry 27). -/
def execLaneDown (port : Nat) (s : State) : Host.Outcome State Fault Refusal :=
  if s.portUp port ∧ s.portKind port ≠ 3
  then .next ((((s.leaveUp port).restPort port 4 1).dropQueued port true).showPorts.retryAgents) else .next s

/-- WAKE_TICK_WRITE (R383, R55): refused where it leaves less than 8,000 ticks beyond the wake time. -/
def execWakeTickWrite (port tick : Nat) (s : State) : Host.Outcome State Fault Refusal :=
  if 256 ≤ port then .next s
  else if s.portKind port = 0 then .next (s.setReg (LN_PORT_W3 port) (BitVec.ofNat 64 tick))
  else
    let w := wakeTicks (max (s.fld (LN_PORT_W2_TX_STATE port)) (s.fld (LN_PORT_W1_TX_REQ port)))
    if tick = 0 ∨ (s.bellSet ∧ s.now + w + 8000 ≤ tick) then .next (s.setReg (LN_PORT_W3 port) (BitVec.ofNat 64 tick))
    else .next (s.laneRefuse LN_ERR_WAKE_REFUSED port)

/-- A scheduled wake that is due (R383): at its tick less its wake time; one whose tick a forced step skipped starts at once, a late launch (R46). -/
def State.wakeDue (s : State) (port : Nat) : State :=
  let t := (s.reg (LN_PORT_W3 port)).toNat
  let st := s.fld (LN_PORT_W2_TX_STATE port)
  if s.portUp port ∧ t ≠ 0 ∧ st ≠ 0 ∧ s.bellSet ∧ s.skippedTick t ∧ (s.port port).txWaking.isNone then (s.choice 5).startWake port
  else if s.portUp port ∧ t ≠ 0 ∧ st ≠ 0 ∧ s.bellSet ∧ t ≤ s.now + wakeTicks st ∧ s.now ≤ t then s.startWake port
  else s

/-- WAKE_TICK_REACHED (R383): WAKE_TICK minus the wake time is reached. -/
def execWakeTickReached (port : Nat) (s : State) : Host.Outcome State Fault Refusal := .next (s.wakeDue port)

/-- WAKE_DONE (R380, R382, R383): a direction is ACTIVE again; on a trunk a wake from SLEEP has re-mustered the
receive crossing within its wake time, which counts under kind 4 unless the wake was scheduled. -/
def execWakeDone (port : Nat) (receive : Bool) (s : State) : Host.Outcome State Fault Refusal :=
  if !s.portUp port ∧ s.fld (LN_PORT_W2_STATE port) ≠ 3 then .next s
  else if receive then
    let st := s.fld (LN_PORT_W2_RX_STATE port)
    if st = 0 then .next s
    else
      let c := s.port port
      let scheduled := c.rxTick ≠ 0 ∧ c.rxTick ≤ s.now
      let s1 := (s.setFld (LN_PORT_W2_RX_STATE port) 0).modPort port (fun c => { c with rxTick := 0 })
      .next ((if st = 2 ∧ s.portKind port = 2 ∧ ¬scheduled then s1.choice 4 else s1).narrowAwake port)
  else match (s.port port).txWaking with
    | none => .next s
    | some w =>
      if s.free < w + wakeTicks (s.fld (LN_PORT_W2_TX_STATE port)) then .next s
      else
        let s1 := (s.setFld (LN_PORT_W2_TX_STATE port) 0).modPort port (fun c => { c with txWaking := none, wokeAt := some s.free })
        let s2 := s1.setFld (LN_PORT_W7_WAKES port) (s1.fld (LN_PORT_W7_WAKES port) + 1)
        .next ((if s2.fld (LN_PORT_W2_RX_STATE port) = 0 then s2 else s2.sentCtrl port (.lane 3 (s2.port port).usable 0 0)).narrowAwake port)

/-! ### Shut-down and enable (R384, R385) -/

/-- A shut-down begins (R384): for the switch the port is down from now on. -/
def State.shutPort (s : State) (p : Nat) : State :=
  let st := s.fld (LN_PORT_W2_STATE p)
  if st = 3 then s
  else if st = 2 then
    let s1 := (s.leaveSwitch p).startWake p
    let s2 := (s1.setFld (LN_PORT_W2_STATE p) 3).modPort p (fun c => { c with shutAt := some s.free })
    (s2.dropQueued p false).showPorts
  else ((s.setFld (LN_PORT_W2_STATE p) 3).setFld (LN_PORT_W2_STAGE p) 0).modPort p (fun c => { c with shutAt := none })

/-- SHUT_DOWN (R384, R385): ENABLE 0 written. -/
def execShutDown (port : Nat) (s : State) : Host.Outcome State Fault Refusal :=
  if 256 ≤ port then .next s
  else if s.portKind port = 0 then .next (s.setFld (LN_PORT_W1_ENABLE port) 0)
  else
    let s1 := (s.setFld (LN_PORT_W1_ENABLE port) 0).setFld (LN_PORT_W2_EN_PEND port) 0
    .next (if s.linksOn then (s1.shutPort port).retryAgents else s1)

/-- The shut-down of a port may end (R384, R386). -/
def State.shutReady (s : State) (p : Nat) : Bool :=
  let c := s.port p
  match c.shutAt with
  | none => true
  | some t =>
    !s.sw.copies.any (fun x => x.out == p && x.started) && c.narrowing.isNone && c.narrowDue.isNone && s.fld (LN_PORT_W2_TX_STATE p) == 0 &&
    (match c.replaying with
     | some (_, e) => decide (e ≤ s.free)
     | none => true) &&
    (c.store.isEmpty || decide (t + 100 * ticksPerUs ≤ s.free))

/-- SHUTDOWN_DONE (R384, R385): LANE DOWN goes out, the lanes are off, causes of left-out lanes but open and short are
cleared, and a held enable starts bring-up. -/
def execShutdownDone (port : Nat) (s : State) : Host.Outcome State Fault Refusal :=
  if s.portKind port = 0 ∨ s.fld (LN_PORT_W2_STATE port) ≠ 3 ∨ !s.shutReady port then .next s
  else
    let s1 := if (s.port port).shutAt.isSome ∧ s.portKind port ≠ 3 then s.sentCtrl port (.lane 4 0 0 0) else s
    let s2 := ((s1.leaveLink port).restPort port 0 0).modPort port (fun c => { c with shutAt := none })
    let s3 := (List.range (s2.runLanes port)).foldl (fun s k =>
      if 2 < s.fld (LN_LANE_W0_CAUSE (s.laneNo port k)) then s.setFld (LN_LANE_W0_CAUSE (s.laneNo port k)) 0 else s)
      (s2.showLanes port (fun _ => 0))
    if s3.flag (LN_PORT_W2_EN_PEND port) then .next (((s3.setFld (LN_PORT_W2_EN_PEND port) 0).startBringup port).showPorts)
    else .next s3.showPorts

/-- ENABLE (R385): ENABLE 1 written. A port not disabled is unaffected; one that is shutting down is enabled after it. -/
def execEnable (port : Nat) (s : State) : Host.Outcome State Fault Refusal :=
  if 256 ≤ port then .next s
  else
    let s1 := s.setFld (LN_PORT_W1_ENABLE port) 1
    if s.portKind port = 0 ∨ !s.linksOn then .next s1
    else if s.fld (LN_PORT_W2_STATE port) = 3 then
      .next (if s.flag (LN_PORT_W1_ENABLE port) then s1 else s1.setFld (LN_PORT_W2_EN_PEND port) 1)
    else if s.fld (LN_PORT_W2_STATE port) = 0 then .next ((s1.startBringup port).showPorts)
    else .next s1

/-- RETRAIN (R385, R386): a shut-down followed by an enable; discarded while EN_PEND is 1. -/
def execRetrain (port : Nat) (s : State) : Host.Outcome State Fault Refusal :=
  if s.portKind port = 0 ∨ s.flag (LN_PORT_W2_EN_PEND port) ∨ !s.linksOn then .next s
  else .next (((((s.setFld (LN_PORT_W1_ENABLE port) 1).shutPort port).setFld (LN_PORT_W2_EN_PEND port) 1)).retryAgents)

end Sys2Proof.Machine
end

