-- ==== Sys2Proof/Machine/MemOps.lean ====
section
/-! DEFINITION. The operations over the pool (R326 to R354): where a byte lies, reads and writes of pairs through the write-merge
buffer, poison, the room ledger, the correctable-error table, levels, losing a stack. -/

namespace Sys2Proof.Machine

open Sys2Proof

/-! ### Where a room lies (R328) -/

/-- Stack of a room. -/
def roomStack (r : Nat) : Nat := r / 2 ^ 21 % 8

/-- Stack of a pair (pool byte address / 64). -/
def pairStack (p : Nat) : Nat := p / 2 ^ 31 % 8

/-- Room of a pair. -/
def pairRoom (p : Nat) : Nat := p / 1024

/-- Pseudo-channel, bank and row of a pair, and its number within the row (R328). -/
def pairPlace (p : Nat) : Nat × Nat × Nat × Nat :=
  let l := pairRoom p % 2 ^ 21
  (2 * (p / 32 % 32) + l % 2, l / 2 % 64, l / 128, p % 32)

/-- The pairs of a row in a bank and pseudo-channel of a stack. -/
def rowPairs (stack pc bank row : Nat) : List Nat :=
  let room := stack * 2 ^ 21 + row * 128 + bank * 2 + pc % 2
  (List.range 32).map (fun i => room * 1024 + pc / 2 * 32 + i)

/-- A stack is down (R354). -/
def State.stackLost (s : State) (st : Nat) : Bool := s.regBit MEM_STATUS (8 + st)

/-- A pair is poisoned (R341). -/
def State.poisoned (s : State) (p : Nat) : Bool := sparseGet false s.mem.poison p

/-- A stack's counter raised (R357). -/
def State.memCount (s : State) (st i : Nat) : State := s.count (MEM_STACK_CNT st i)

/-- A transfer of a stack's interface succeeds: the run of failed replays ends (R327). -/
def State.transferred (s : State) (st : Nat) : State := s.modMem (fun m => { m with crcRuns := sparseErase m.crcRuns st })

/-! ### Pairs -/

/-- The stored bytes of a pair. -/
def State.pairBytes (s : State) (p : Nat) : List Byte := sparseRead 0 s.mem.bytes (64 * p) 64

/-- A whole-pair write (R343): the pair is clean afterwards. An entry of the merge buffer for it is complete then, and leaves
with no read (R335). -/
def State.putPair (s : State) (p : Nat) (data : List Byte) : State :=
  if s.stackLost (pairStack p) then s
  else s.modMem (fun m => { m with
    bytes := sparseWrite 0 m.bytes (64 * p) (padTo 64 data),
    poison := sparseErase m.poison p,
    merge := m.merge.filter (fun e => e.pair != p) })

/-- Bytes of a pair with the masked ones replaced. -/
def mergeData (old new : List Byte) (mask : Nat) : List Byte :=
  (List.range 64).map (fun i => if mask.testBit i then new.getD i 0 else old.getD i 0)

/-- A merge entry leaves the buffer for its read-modify-write, which is counted (R335); a pair that reads as poison counts as such a read
(R340). -/
def State.openEntry (s : State) (e : MergeEntry) : State :=
  let s1 := (s.modMem (fun m => { m with merge := m.merge.filter (fun x => x.pair != e.pair) })).memCount (pairStack e.pair) 3
  if s1.stackLost (pairStack e.pair) || s1.poisoned e.pair then s1.memCount (pairStack e.pair) 8 else s1

/-- The merged bytes are written; a poisoned pair takes nothing (R343). -/
def State.mergeIn (s : State) (e : MergeEntry) : State :=
  if s.stackLost (pairStack e.pair) || s.poisoned e.pair then s
  else s.modMem (fun m => { m with bytes := sparseWrite 0 m.bytes (64 * e.pair) (mergeData (s.pairBytes e.pair) e.data e.mask) })

/-- A merge entry leaves by read-modify-write (R335). -/
def State.flushEntry (s : State) (e : MergeEntry) : State := (s.openEntry e).mergeIn e

/-- The merge entry of a pair, if any, is written before an access touches the pair (R335, R336). -/
def State.settle (s : State) (p : Nat) : State :=
  match s.mem.merge.find? (fun e => e.pair == p) with
  | some e => s.flushEntry e
  | none => s

/-- A write of less than a pair (R335): merged into the pair's entry, or a new entry, the oldest making room. -/
def State.mergeWrite (s : State) (p off : Nat) (data : List Byte) : State :=
  if s.stackLost (pairStack p) then s
  else
    let mask := (List.range data.length).foldl (fun m i => setBitOf m (off + i)) 0
    let line := spliceBytes (zeroBytes 64) off data
    match s.mem.merge.find? (fun e => e.pair == p) with
    | some e =>
      let m' := mask ||| e.mask
      let d' := mergeData e.data line mask
      if m' = 2 ^ 64 - 1 then s.putPair p d'
      else s.modMem (fun m => { m with merge := m.merge.map (fun x => if x.pair = p then { x with mask := m', data := d' } else x) })
    | none =>
      let mine := s.mem.merge.filter (fun e => pairStack e.pair == pairStack p)
      let s1 := if mine.length < 64 then s else (match mine.head? with
        | some old => s.flushEntry old
        | none => s)
      s1.modMem (fun m => { m with merge := m.merge ++ [⟨p, mask, line, s1.free⟩] })

/-- Bytes written from a pool address on: whole pairs straight, the rest through the merge buffer. The fuel is the number of
bytes. -/
def State.poolWriteFuel : Nat → State → Nat → List Byte → State
  | 0, s, _, _ => s
  | n + 1, s, a, bs =>
    if bs.isEmpty then s
    else
      let off := a % 64
      let part := bs.take (64 - off)
      let s1 := if part.length = 64 then s.putPair (a / 64) part else s.mergeWrite (a / 64) off part
      State.poolWriteFuel n s1 (a + part.length) (bs.drop part.length)

/-- Bytes written from a pool address on. -/
def State.poolWrite (s : State) (a : Nat) (bs : List Byte) : State := State.poolWriteFuel bs.length (s.transferred (a / 2 ^ 37 % 8)) a bs

/-- The pairs that `n` bytes from an address touch. -/
def pairsOf (a n : Nat) : List Nat := if n = 0 then [] else (List.range ((a + n - 1) / 64 - a / 64 + 1)).map (fun i => a / 64 + i)

/-- A read of a pair: its merge entry is written first; poison is counted (R335, R340, R354). -/
def State.touchPair (s : State) (p : Nat) : State :=
  let s1 := (s.transferred (pairStack p)).settle p
  if s1.stackLost (pairStack p) || s1.poisoned p then s1.memCount (pairStack p) 8 else s1

/-- A read of `n` bytes: the bytes, none where a pair of them is poisoned or its stack is down (R342). -/
def State.poolRead (s : State) (a n : Nat) : Option (List Byte) × State :=
  let ps := pairsOf a n
  let s1 := ps.foldl State.touchPair s
  if ps.any (fun p => s1.stackLost (pairStack p) || s1.poisoned p) then (none, s1)
  else (some (sparseRead 0 s1.mem.bytes a n), s1)

/-- Bytes as an access that counts nothing finds them: stored bytes with the merge entries on top. -/
def State.peek (s : State) (a n : Nat) : List Byte :=
  (List.range n).map (fun i =>
    let b := a + i
    match s.mem.merge.find? (fun e => e.pair == b / 64 && e.mask.testBit (b % 64)) with
    | some e => e.data.getD (b % 64) 0
    | none => sparseGet 0 s.mem.bytes b)

/-! ### The porter path (R334) -/

/-- A porter read of `n` bytes, in 32 B accesses; none where it meets poison. -/
def State.porterRead (s : State) (a n : Nat) : Option (List Byte) × State :=
  let k := (a + n - 1) / 32 - a / 32 + 1
  (s.countBy (MEM_STACK_CNT (a / 2 ^ 37 % 8) 5) k).poolRead a n

/-- A porter write, in 32 B accesses. -/
def State.porterWrite (s : State) (a : Nat) (bs : List Byte) : State :=
  let k := (a + bs.length - 1) / 32 - a / 32 + 1
  (s.countBy (MEM_STACK_CNT (a / 2 ^ 37 % 8) 6) k).poolWrite a bs

/-! ### The room ledger (R207, R352) -/

/-- Address of a room's ledger entry. -/
def ledgerAt (r : Nat) : Nat := 24576 * 65536 + 4 * r

/-- The ledger entries of rooms read through the porter path, each 32 B sector once (R334). -/
def State.readLedgers (s : State) (rs : List Nat) : State :=
  (((rs.filter (· != 0)).map (fun r => ledgerAt r / 32)).eraseDups).foldl (fun s a => (s.porterRead (32 * a) 32).2) s

/-- REFS and POISON of a room; an entry whose own pair is poisoned, or a room of a stack that is down, counts as poisoned (R342,
R354). -/
def State.ledgerOf (s : State) (r : Nat) : Nat × Bool :=
  let v := leNat (s.peek (ledgerAt r) 4)
  (v % 65536, v.testBit 16 || s.poisoned (ledgerAt r / 64) || s.stackLost (roomStack r) || s.stackLost 0)

/-- See `State.ledgerOf`: read through the porter path (R202, R334). -/
def State.readLedger (s : State) (r : Nat) : (Nat × Bool) × State := (s.ledgerOf r, (s.porterRead (ledgerAt r) 4).2)

/-- A room's ledger entry read and written through the porter path. -/
def State.setLedger (s : State) (r refs : Nat) (poison : Bool) : State :=
  (s.porterRead (ledgerAt r) 4).2.porterWrite (ledgerAt r) (natLE 4 (refs + (if poison then 65536 else 0)))

/-- A room lies in the outbound stable or the inbound area (R224). -/
def State.inArea (s : State) (r : Nat) : Bool :=
  (decide (s.fld ST_STABLE_BASE ≤ r) && decide (r < s.fld ST_STABLE_BASE + s.fld ST_STABLE_ROOMS)) ||
  (decide (s.fld ST_INBOUND_BASE ≤ r) && decide (r < s.fld ST_INBOUND_BASE + s.fld ST_INBOUND_ROOMS))

/-- FREE_ROOMS changed by a number of rooms, once they have been counted (R209). -/
def State.freeRoomsBy (s : State) (d : Int) : State :=
  if s.stays.counted then s.setFld ST_STATUS_FREE_ROOMS ((s.fld ST_STATUS_FREE_ROOMS : Int) + d).toNat else s

/-- A room's ledger entry cannot be read: its pair is poisoned, or stack 0 is down (R342, R354). -/
def State.ledgerDark (s : State) (r : Nat) : Bool := s.poisoned (ledgerAt r / 64) || s.stackLost 0

/-- A room's ledger POISON is set (R233, R352): a room with no references is held from then on. An entry that cannot be read stays as it is, and
counts as poisoned (R342). -/
def State.poisonRoom (s : State) (r : Nat) : State :=
  let v := leNat (s.peek (ledgerAt r) 4)
  if s.ledgerDark r then (s.porterRead (ledgerAt r) 4).2
  else if v.testBit 16 then s
  else
    let s1 := s.setLedger r (v % 65536) true
    if v % 65536 = 0 then
      let s2 := s1.setFld MEM_STATUS_HELD_ROOMS (s1.fld MEM_STATUS_HELD_ROOMS + 1)
      if r < 32768 || s.inArea r || s.stackLost (roomStack r) then s2 else s2.freeRoomsBy (-1)
    else s1

/-! ### Poison and corrections (R340 to R346, R353) -/

/-- Times a row has been remapped. -/
def State.remapped (s : State) (stack pc bank row : Nat) : Nat :=
  ((s.mem.remaps.find? (fun r => r.stack == stack && r.pc == pc && r.bank == bank && r.row == row)).map (·.times)).getD 0

/-- An uncorrectable pair (R341, R353): rewritten as poison, counted, reported, its room's ledger POISON set. -/
def State.poisonPair (s : State) (p : Nat) : State :=
  let st := pairStack p
  let (pc, bank, row, _) := pairPlace p
  let s1 := s.modMem (fun m => { m with
    bytes := sparseWrite 0 m.bytes (64 * p) (zeroBytes 64),
    poison := sparseSet false m.poison p true,
    merge := m.merge.filter (fun e => e.pair != p) })
  let s2 := (s1.memCount st 1).fault (0x100 + st) 0x22 (64 * p)
  let s3 := if 0 < s.remapped st pc bank row then s2.fault (0x100 + st) 0x23 (64 * p) else s2
  s3.poisonRoom (pairRoom p)

/-- The correctable-error table's entry numbers of a stack. -/
def ceEntries (st : Nat) : List Nat := (List.range 64).map (fun e => 64 * st + e)

/-- A correction is recorded (R345, R346): in the row's entry, a new entry, or in fall-back. The answer tells whether an entry was
created. -/
def State.recordCe (s : State) (p symbol : Nat) : Bool × State :=
  let st := pairStack p
  let (pc, bank, row, pr) := pairPlace p
  let same := fun (n : Nat) => s.flag (MEM_CE_VALID n) && s.fld (MEM_CE_PC n) == pc && s.fld (MEM_CE_BANK n) == bank && s.fld (MEM_CE_ROW n) == row
  let bump := fun (s : State) (n c : Nat) =>
    let s1 := ((s.setFld (MEM_CE_COUNT n) (min c 65535)).setFld (MEM_CE_PAIR n) pr).setFld (MEM_CE_SYMBOL n) symbol
    if s1.fld MEM_CE_CTRL_ROW_LIMIT ≤ c ∧ !s1.flag (MEM_CE_HOT n) then (s1.raise (MEM_CE_HOT n)).fault (0x100 + st) 0x20 (64 * p) else s1
  match (ceEntries st).find? same with
  | some n => (false, bump s n (s.fld (MEM_CE_COUNT n) + 1))
  | none => match (ceEntries st).find? (fun n => !s.flag (MEM_CE_VALID n)) with
    | some n =>
      let s1 := s.modMem (fun m => { m with fullTold := m.fullTold.filter (· != st) })
      let s2 := (s1.setReg (MEM_CE n) 0).raise (MEM_CE_VALID n)
      let s3 := ((s2.setFld (MEM_CE_PC n) pc).setFld (MEM_CE_BANK n) bank).setFld (MEM_CE_ROW n) row
      (true, bump (s3.setFld (MEM_CE_REPAIRS n) (s.remapped st pc bank row)) n 1)
    | none =>
      let s1 := s.memCount st 2
      (false, if s1.mem.fullTold.contains st then s1
        else (s1.modMem (fun m => { m with fullTold := m.fullTold ++ [st] })).fault (0x100 + st) 0x21 (64 * p))

/-- One symbol of a pair is corrected (R340): counted and recorded; writing back leaves the bytes as they were stored. -/
def State.correctPair (s : State) (p symbol : Nat) : Bool × State := (s.memCount (pairStack p) 0).recordCe p symbol

/-! ### Levels and stacks (R338, R354) -/

/-- The applied level of a stack follows its thermal and power levels; a change counts and is reported (R338). -/
def State.applyLevel (s : State) (st : Nat) : State :=
  let l := max (s.fld (MEM_STACK_THERM_LEVEL st)) (sparseGet 0 s.power.stackSteps st)
  if s.fld (MEM_STACK_LEVEL st) = l then s
  else ((((s.setFld (MEM_STACK_LEVEL st) l).memCount st 4).choice 3).fault (0x100 + st) 0x24 0)

/-- How many of the numbers from `lo` up to `hi` lie in the `n` numbers from `a` on. -/
def spanIn (lo hi a n : Nat) : Nat := min hi (a + n) - max lo a

/-- Rooms whose ledger entries may differ from zero. -/
def State.ledgerRooms (s : State) : List Nat :=
  let keys := s.mem.bytes.map (·.1) ++ s.mem.merge.flatMap (fun e => (List.range 16).map (fun k => 64 * e.pair + 4 * k))
  ((keys.filter (fun a => decide (ledgerAt 0 ≤ a ∧ a < ledgerAt 16777216))).map (fun a => (a - ledgerAt 0) / 4)).eraseDups

/-- Rooms of a stack that are free: no reference, not poisoned, outside the stables (R209). -/
def State.freeInStack (s : State) (st : Nat) : Nat :=
  let lo := max 32768 (st * 2 ^ 21)
  let hi := (st + 1) * 2 ^ 21
  let (a, n, b, m) := (s.fld ST_STABLE_BASE, s.fld ST_STABLE_ROOMS, s.fld ST_INBOUND_BASE, s.fld ST_INBOUND_ROOMS)
  let both := max a b
  let areas := spanIn lo hi a n + spanIn lo hi b m - spanIn lo hi both (min (a + n) (b + m) - both)
  let taken := s.ledgerRooms.filter (fun r => decide (lo ≤ r ∧ r < hi) && !s.inArea r && leNat (s.peek (ledgerAt r) 4) != 0)
  hi - lo - areas - taken.length

/-- A stack is lost (R354): shown, reported; the innkeeper allocates nothing from it. -/
def State.loseStack (s : State) (st : Nat) : State :=
  if 8 ≤ st ∨ s.stackLost st then s
  else
    let s1 := if s.stays.counted then s.freeRoomsBy (-(s.freeInStack st : Int)) else s
    ((s1.setRegBit MEM_STATUS (8 + st) true).raise (MEM_STACK_DOWN st)).fault (0x100 + st) 0x27 0

end Sys2Proof.Machine
end

