-- ==== Sys2Proof/Machine/FlashOps.lean ====
section
/-! DEFINITION. Component images in module flash and what boot makes of them (R439, R440, R443, R448, R449). -/

namespace Sys2Proof.Machine

open Sys2Proof

/-- SHAKE256 of a message, `n` bytes. -/
def shake (n : Nat) (m : List Byte) : List Byte := (List.range n).map (Config.shake256 m)

/-- Largest image of a component (R440). -/
def componentMax (c : Nat) : Nat :=
  if c = 1 then 2 ^ 19 else if c = 2 ∨ c = 3 then 2 ^ 24 else if c = 4 then 2 ^ 25 else if c = 5 ∨ c = 6 then 2 ^ 20 else 0

/-- Bytes of an ML-DSA-65 public key and of a signature (FIPS 204; R300 gives the second). -/
def keyBytes : Nat := 1952

/-- See `keyBytes`. -/
def sigBytes : Nat := 3309

/-- The Llynyth firmware public key as flash holds it, and the digest of it in the boot ROM (R440). -/
def firmwareKey : List Byte := (List.range keyBytes).map (Config.partByte 2 0)

/-- See `firmwareKey`. -/
def romDigest : List Byte := (List.range 64).map (Config.partByte 3 0)

/-! ### Identity (R445) -/

/-- The 32-byte seed of the physically unclonable function (R445). -/
def pufSeed : List Byte := (List.range 32).map (Config.partByte 4 0)

/-- Key of the replay-protected area (R439, R445): flash is written by the module alone, so no command shows it. -/
def areaKey : List Byte := (List.range 32).map (Config.areaKey pufSeed)

/-- ξ of the DeviceID key: SHAKE256(seed, "DEVICEID"). -/
def deviceXi : List Byte := shake 32 (pufSeed ++ [0x44, 0x45, 0x56, 0x49, 0x43, 0x45, 0x49, 0x44])

/-- The public key generated from ξ, and the signature of a message by its private key (FIPS 204). -/
def publicKey (xi : List Byte) : List Byte := (List.range keyBytes).map (Config.mldsaPublic xi)

/-- See `publicKey`. -/
def signedBy (xi m : List Byte) : List Byte := (List.range sigBytes).map (Config.mldsaSign xi m)

/-- Digest of the DeviceID public key (R445, R448). -/
def deviceDigest : List Byte := shake 64 (publicKey deviceXi)

/-! ### Images -/

/-- LENGTH and SVN of an image (R440). -/
def imageLen (b : List Byte) : Nat := leAt b 8 4

/-- See `imageLen`. -/
def imageSvn (b : List Byte) : Nat := leAt b 6 2

/-- The form of a component image (R440): header, length, reserved bytes. -/
def imageWell (b : List Byte) : Bool :=
  let n := imageLen b
  leAt b 0 4 == 0x4D43594C && decide (1 ≤ byteAt b 4 ∧ byteAt b 4 ≤ 6) && byteAt b 5 == 0 && leAt b 14 242 == 0 && decide (3584 ≤ n) &&
  decide (n ≤ componentMax (byteAt b 4)) && decide (n ≤ b.length)

/-- SHAKE256 of every byte before the trailer. -/
def imageDigest (b : List Byte) : List Byte := shake 64 (b.take (imageLen b - 3328))

/-- The trailer's signature under a key (R300, R440). -/
def imageSigned (b : List Byte) (key : Option (List Byte)) : Bool :=
  let t := (b.take (imageLen b)).drop (imageLen b - 3328)
  match key with
  | none => false
  | some k => Config.mldsaVerify k (imageDigest b) (t.take sigBytes) && (t.drop sigBytes).all (· == 0)

/-- The key that signs a component (R440). -/
def Flash.signer (f : Flash) (c : Nat) : Option (List Byte) := if c = 6 then f.owner else some firmwareKey

/-- The bytes in a component's slot. -/
def Flash.image (f : Flash) (c : Nat) (slotB : Bool) : List Byte :=
  ((f.images.find? (fun i => i.1 == c && i.2.1 == slotB)).map (·.2.2)).getD (Config.flashImage c slotB)

/-- The bytes put into a component's slot. -/
def Flash.putImage (f : Flash) (c : Nat) (slotB : Bool) (data : List Byte) : Flash :=
  { f with images := f.images.filter (fun i => i.1 != c || i.2.1 != slotB) ++ [(c, slotB, data)] }

/-- LN_PORTp word 0 as a configuration image defines a port (R362, R389): the reserved bits stay 0. -/
def confWord (b : List Byte) (p : Nat) : Nat := (Config.confPort b p).toNat % 2 ^ 56 / 2 ^ 30 * 2 ^ 30

/-- The lanes of the configured runs that a configuration image gives its ports (R362). -/
def confLanes (b : List Byte) : List Nat :=
  (List.range 256).flatMap (fun p =>
    let w := confWord b p
    if bitsOf w 55 52 = 0 then [] else (List.range (2 ^ bitsOf w 44 42)).map (fun k => bitsOf w 38 30 + k))

/-- A port's definition keeps within the limits of its kind (R70, R359, R360, R362): its number, protocol and width, and a run that lies within one
connector. -/
def confPortOk (b : List Byte) (p : Nat) : Bool :=
  let w := confWord b p
  let (kind, proto, row, width) := (bitsOf w 55 52, bitsOf w 51 50, bitsOf w 49 46, bitsOf w 44 42)
  kind == 0 || (decide (kind ≤ 4) && ((kind == 1) == decide (p < 64)) && decide (width ≤ 4) && decide (bitsOf w 41 39 ≤ width) &&
    decide (bitsOf w 38 30 % 64 + 2 ^ width ≤ 64) && (if kind = 1 then decide (proto ≤ 2) else proto == 0) && (kind != 3 || ethWidthOk row width))

/-- A configuration image's port definitions (R70, R362): no two runs overlap, every port keeps within its limits, and at most 16 ports are open
trunks. -/
def confWell (b : List Byte) : Bool :=
  decide (confLanes b).Nodup && (List.range 256).all (confPortOk b) &&
  decide (((List.range 256).filter (fun p => bitsOf (confWord b p) 55 52 == 4)).length ≤ 16)

/-- The image in a slot, as long as its header says. -/
def Flash.held (f : Flash) (c : Nat) (slotB : Bool) : List Byte := (f.image c slotB).take (imageLen (f.image c slotB))

/-- A slot holds a well-formed image of its component, signed and with an SVN that is allowed (R440, R449). -/
def Flash.slotSigned (f : Flash) (c : Nat) (slotB : Bool) : Bool :=
  let b := f.image c slotB
  imageWell b && byteAt b 4 == c && imageSigned b (f.signer c) && decide (sparseGet 0 f.minSvn c ≤ imageSvn b)

/-- A slot passes verification (R362, R442, R449). -/
def Flash.slotOk (f : Flash) (c : Nat) (slotB : Bool) : Bool := f.slotSigned c slotB && (c != 6 || confWell (f.held 6 slotB))

/-- Whether a signed CONF_O fails verification for its port definitions and no other slot passes: the module then starts no port (R362; log
entry 110). -/
def Flash.noPorts (f : Flash) : Bool :=
  [false, true].any (f.slotSigned 6) && !([false, true].any (f.slotOk 6))

/-- The slots of a component in the order boot tries them (R442, R449). -/
def Flash.slotOrder (f : Flash) (c : Nat) : List Bool :=
  let a := f.activeB.contains c
  if f.trial.contains c then [!a, a] else [a, !a]

/-- An entry of the measurement log (R448): when it is full, an entry of block 7 takes the place of the oldest of its kind, and another is
not made. -/
def State.measure (s : State) (block : Nat) (digest : List Byte) (id : Nat) : State :=
  let e : LogEntry := ⟨block, s.now, padTo 64 digest, id⟩
  let log := s.host.log
  let log1 := if log.length < 2048 then log ++ [e] else if block = 7 then (match takeFirst (fun (x : LogEntry) => x.block == 7) log with
    | some (_, rest) => rest ++ [e]
    | none => log) else log
  s.modHost (fun h => { h with log := log1 })

/-- Boot takes a component from its first slot that passes (R442, R449): the slot's bytes, none where both fail. A trial slot that fails loses
its mark. -/
def State.bootComponent (s : State) (c : Nat) : Option (List Byte) × State :=
  let f := s.host.flash
  let trialBad := f.trial.contains c && !f.slotOk c (!f.activeB.contains c)
  let s1 := if trialBad then s.modHost (fun h => { h with flash := { f with trial := f.trial.filter (· != c) } }) else s
  match (f.slotOrder c).find? (f.slotOk c) with
  | none => (none, s1)
  | some b =>
    let im := (f.image c b).take (imageLen (f.image c b))
    let s2 := s1.setFld MB_BOOT_STATUS_SLOT_B (putBitOf (s1.fld MB_BOOT_STATUS_SLOT_B) (c - 1) b)
    let s3 := s2.setFld MB_BOOT_STATUS_TRIAL (putBitOf (s2.fld MB_BOOT_STATUS_TRIAL) (c - 1) (f.trial.contains c && !trialBad))
    let s4 := s3.modHost (fun h => { h with
      bootB := putBitOf h.bootB (c - 1) b, bootTrial := putBitOf h.bootTrial (c - 1) (f.trial.contains c && !trialBad), measured := h.measured.filter (fun (m : Nat × List Byte) => m.1 != c) ++ [(c, imageDigest im)],
      svns := h.svns.filter (fun (m : Nat × Nat) => m.1 != c) ++ [(c, imageSvn im)] })
    (some im, s4.measure c (imageDigest im) 0)

/-- First room that a firmware component is loaded to at boot stage 3 (R441). -/
def firmwareRoom (c : Nat) : Nat := if c = 3 then 27776 else 28288

/-- A firmware component written into its rooms (R442). -/
def State.loadFirmware (s : State) (c : Nat) (im : List Byte) : State := s.porterWrite (firmwareRoom c * 65536) im

/-- A poisoned read in the rooms of a firmware component (R443): it is loaded from flash again once; a second time is reported. -/
def State.firmwareRead (s : State) (pair : Nat) : State :=
  let r := pairRoom pair
  if r < 27776 ∨ 28800 ≤ r ∨ !s.poisoned pair ∨ s.fld MB_BOOT_STATUS_STAGE ≠ 3 then s
  else
    let c := if r < 28288 then 3 else 4
    if s.host.reloaded.contains c then s.fault 0x303 0x3B 3
    else
      let im := s.host.flash.image c (s.host.bootB.testBit (c - 1))
      (s.modHost (fun h => { h with reloaded := h.reloaded ++ [c] })).loadFirmware c (im.take (imageLen im))

end Sys2Proof.Machine
end

