-- ==== Sys2Proof/Machine/Rooms.lean ====
section
/-! DEFINITION. Rooms and charts (R199 to R209): stay entries, references, vacancy lists and fresh marks, copies, chart
nodes. -/

namespace Sys2Proof.Machine

open Sys2Proof

/-! ### Stay entries (R199 to R201) -/

/-- A FREE entry of generation 0. -/
def freeStay : Stay :=
  { state := 0, party := 0, gen := 0, depth := 0, root := 0, loc := 0, tokens := 0, rooms := 0, booked := 0, twinCoord := 0,
    twinValid := false, twinIndex := 0, lastUse := 0, ownerRank := 0, inflight := 0, priority := 0, oldHome := none }

/-- A stay's entry. -/
def State.stay (s : State) (i : Nat) : Stay := sparseGet freeStay s.stays.table i

/-- A stay's entry set; STAYS_USED and BOOKED_TOTAL follow (R234). -/
def State.setStay (s : State) (i : Nat) (e : Stay) : State :=
  let old := s.stay i
  let s1 := s.modStays (fun u => { u with table := sparseSet freeStay u.table i e })
  let s2 := s1.setFld ST_STATUS_BOOKED_TOTAL (s1.fld ST_STATUS_BOOKED_TOTAL + e.booked - old.booked)
  let used := s2.fld ST_USE_STAYS_USED
  s2.setFld ST_USE_STAYS_USED (if old.state = 0 ∧ e.state ≠ 0 then used + 1 else if old.state ≠ 0 ∧ e.state = 0 then used - 1 else used)

/-- A stay's entry changed. -/
def State.modStay (s : State) (i : Nat) (f : Stay → Stay) : State := s.setStay i (f (s.stay i))

/-- The entry returns to FREE with the next generation (R199). -/
def State.freeEntry (s : State) (i : Nat) : State := s.setStay i { freeStay with gen := ((s.stay i).gen + 1) % 16384 }

/-- A stay's handle (R199). -/
def State.handleOf (s : State) (i : Nat) : Nat := i + (s.stay i).gen * 2 ^ 18

/-! ### Rooms -/

/-- Every pair of a room is written with zeros (R208, R343). -/
def State.zeroRoom (s : State) (r : Nat) : State :=
  if s.stackLost (roomStack r) then s
  else s.modMem (fun m => { m with
    bytes := m.bytes.filter (fun e => e.1 / 65536 != r),
    poison := m.poison.filter (fun e => e.1 / 1024 != r),
    merge := m.merge.filter (fun e => e.pair / 1024 != r) })

/-- The merge entries of a room are written (R335, R336). -/
def State.settleRoom (s : State) (r : Nat) : State :=
  (s.mem.merge.filter (fun e => e.pair / 1024 == r)).foldl State.flushEntry s

/-- The poisoned pairs of a room as a read of it finds them. -/
def State.roomPoison (s : State) (r : Nat) : List Nat :=
  if s.stackLost (roomStack r) then (List.range 1024).map (fun i => r * 1024 + i)
  else (s.mem.poison.map (·.1)).filter (fun p => p / 1024 == r)

/-- A room is copied whole (R217, R342): poisoned pairs arrive poisoned, and the source counts as poisoned then. -/
def State.copyRoom (s : State) (src dst : Nat) : State :=
  let s1 := ((s.transferred (roomStack src)).transferred (roomStack dst)).settleRoom src
  let bad := s1.roomPoison src
  let s2 := s1.countBy (MEM_STACK_CNT (roomStack src) 8) bad.length
  let moved := (s2.mem.bytes.filter (fun e => e.1 / 65536 == src && !bad.contains (e.1 / 64))).map
    (fun e => (dst * 65536 + e.1 % 65536, e.2))
  let s3 := s2.zeroRoom dst
  let s4 := if s3.stackLost (roomStack dst) then s3 else s3.modMem (fun m => { m with
    bytes := moved.foldl (fun b e => sparseSet 0 b e.1 e.2) m.bytes,
    poison := bad.foldl (fun b p => sparseSet false b (dst * 1024 + p % 1024) true) m.poison })
  if bad.isEmpty || s4.stackLost (roomStack src) then s4 else s4.poisonRoom src

/-- 4,096 bytes of a room as a sender of pages reads them (R342): its poisoned pairs, by their places, read as zeros. -/
def State.readPiece (s : State) (a : Nat) : List Byte × List Nat × State :=
  let s1 := (pairsOf a 4096).foldl State.touchPair s
  let bad := (List.range 64).filter (fun k => s1.stackLost (pairStack (a / 64 + k)) || s1.poisoned (a / 64 + k))
  ((List.range 64).flatMap (fun k => if bad.contains k then zeroBytes 64 else s1.pairBytes (a / 64 + k)), bad, s1)

/-- 4,096 bytes written into a room, some pairs of them as poison (R342). -/
def State.writePiece (s : State) (a : Nat) (data : List Byte) (bad : List Nat) : State :=
  let s1 := s.poolWrite a data
  (bad.filter (fun k => decide (k < 64) && !s1.stackLost (pairStack (a / 64 + k)))).foldl (fun s k => s.modMem (fun m => { m with
    bytes := sparseWrite 0 m.bytes (a + 64 * k) (zeroBytes 64), poison := sparseSet false m.poison (a / 64 + k) true })) s1

/-- The rooms on a stack's vacancy list, first to last (R208). -/
def State.vacWalk : Nat → State → Nat → List Nat
  | 0, _, _ => []
  | n + 1, s, r => if r = 0 then [] else r :: State.vacWalk n s (leNat (s.peek (r * 65536) 4))

/-- See `State.vacWalk`. -/
def State.vacancy (s : State) (st : Nat) : List Nat :=
  State.vacWalk (s.stays.fresh.getD st 0 + s.stays.early.length) s (s.stays.vac.getD st 0)

/-- A room joins the head of its stack's vacancy list (R208). -/
def State.pushVacant (s : State) (r : Nat) : State :=
  let st := roomStack r
  ((s.poolWrite (r * 65536) (natLE 4 (s.stays.vac.getD st 0))).modStays (fun u => { u with vac := modifyAt (fun _ => r) st u.vac })).freeRoomsBy 1

/-- A room whose REFS has fallen to 0 (R207, R352): it returns to its stack's vacancy list, or is held when poisoned. -/
def State.vacate (s : State) (r : Nat) : State :=
  let v := leNat (s.peek (ledgerAt r) 4)
  if v.testBit 16 then s.setFld MEM_STATUS_HELD_ROOMS (s.fld MEM_STATUS_HELD_ROOMS + 1)
  else if (s.ledgerOf r).2 then s
  else s.pushVacant r

/-- One reference fewer (R207). -/
def State.dropRef (s : State) (r : Nat) : State :=
  let v := leNat (s.peek (ledgerAt r) 4)
  let refs := v % 65536
  if refs = 0 then s
  else
    let s1 := s.setLedger r (refs - 1) (v.testBit 16)
    if refs = 1 then s1.vacate r else s1

/-- One reference more. -/
def State.addRef (s : State) (r : Nat) : State :=
  let v := leNat (s.peek (ledgerAt r) 4)
  s.setLedger r (v % 65536 + 1) (v.testBit 16)

/-- A room off a stack's vacancy list, held ones passed over. The fuel is the fresh mark, below which every listed room lies but those released
early. -/
def State.takeVacant : Nat → State → Nat → Option Nat × State
  | 0, s, _ => (none, s)
  | n + 1, s, st =>
    let r := s.stays.vac.getD st 0
    if r = 0 then (none, s)
    else
      let (b, s1) := s.poolRead (r * 65536) 4
      let s2 := s1.modStays (fun u => { u with vac := modifyAt (fun _ => leNat (b.getD [])) st u.vac })
      let (l, s3) := s2.readLedger r
      let s4 := s3.modStays (fun u => { u with early := u.early.filter (· != r) })
      if l.2 then State.takeVacant n s4 st else (some r, s4)

/-- More rooms than `State.takeFresh` can pass over: those of the two areas, and those whose ledger entry is marked or poisoned, which
is listed in the pool's bytes or its poison. -/
def State.passable (s : State) : Nat :=
  1 + s.fld ST_STABLE_ROOMS + s.fld ST_INBOUND_ROOMS + 16 * s.mem.poison.length + s.mem.bytes.length + 2 * s.stays.early.length

/-- A room at a stack's fresh mark, held rooms, the areas and rooms released to the vacancy list passed over (R208, R224, R352). The fuel is
`State.passable`. -/
def State.takeFresh : Nat → State → Nat → Option Nat × State
  | 0, s, _ => (none, s)
  | n + 1, s, st =>
    let r := s.stays.fresh.getD st 0
    if (st + 1) * 2 ^ 21 ≤ r then (none, s)
    else
      let s1 := s.modStays (fun u => { u with fresh := modifyAt (fun _ => r + 1) st u.fresh })
      let (l, s2) := s1.readLedger r
      if s2.inArea r || l.2 || s2.stays.early.contains r || decide (l.1 ≠ 0) then State.takeFresh n s2 st else (some r, s2)

/-- A room taken into use: REFS 1, one free room fewer (R207, R208). -/
def State.ownRoom (s : State) (r : Nat) : State := (s.setLedger r 1 false).freeRoomsBy (-1)

/-- A room out of one stack, zeroed, with REFS 1. -/
def State.takeFrom (s : State) (st : Nat) : Option Nat × State :=
  if s.stackLost st then (none, s)
  else
    match State.takeVacant (s.stays.fresh.getD st 0 + s.stays.early.length) s st with
    | (some r, s1) => (some r, (s1.zeroRoom r).ownRoom r)
    | (none, s1) => match State.takeFresh s1.passable s1 st with
      | (some r, s2) => (some r, s2.ownRoom r)
      | (none, s2) => (none, s2)

/-- A room for a stay, from a stack or the next ones that have one (R208). -/
def State.takeRoom (s : State) (stack : Nat) : Option Nat × State :=
  (List.range 8).foldl (fun (acc : Option Nat × State) i => match acc with
    | (some r, x) => (some r, x)
    | (none, x) => x.takeFrom ((stack + i) % 8)) (none, s)

/-! ### Admission (R209) -/

/-- The floor for a stay's priority in rooms; GUEST entries have their own (R209). -/
def State.floor (s : State) (e : Stay) : Nat :=
  256 * (if e.state = 8 then s.fld ST_ADMIT_GUEST_FLOOR else match e.priority with
    | 0 => s.fld ST_ADMIT_FLOOR0
    | 1 => s.fld ST_ADMIT_FLOOR1
    | 2 => s.fld ST_ADMIT_FLOOR2
    | _ => 0)

/-- Whether `k` more rooms may be booked or allocated unbooked for an entry (R209). -/
def State.admits (s : State) (e : Stay) (k : Nat) : Bool :=
  decide (s.floor e + k + s.fld ST_STATUS_BOOKED_TOTAL ≤ s.fld ST_STATUS_FREE_ROOMS)

/-! ### Charts (R206) -/

/-- A chart node, zeroed: the last one freed, else the lowest never allocated (log entry 41). -/
def State.takeNode (s : State) : Option (Nat × State) :=
  match s.stays.nodeFree with
  | n :: rest => some (n, ((s.modStays (fun u => { u with nodeFree := rest })).porterWrite (n * 256) (zeroBytes 256)).setFld
      ST_USE_NODES_FREE (s.fld ST_USE_NODES_FREE - 1))
  | [] => if s.stays.nodeMark < 4194304 then
      some (s.stays.nodeMark, (s.modStays (fun u => { u with nodeMark := u.nodeMark + 1 })).setFld
        ST_USE_NODES_FREE (s.fld ST_USE_NODES_FREE - 1))
    else none

/-- An entry of a chart node: none where the read meets poison, 0 where it is absent. -/
def State.nodeEntry (s : State) (node i : Nat) : Option Nat × State :=
  match s.porterRead (node * 256 + 4 * i) 4 with
  | (none, s1) => (none, s1)
  | (some b, s1) => (some (leNat b % 2 ^ 24), s1)

/-- A chart walked down `k` levels from a node: the room of a page, 0 where it is absent, none where a node is poisoned. -/
def State.chartWalk : Nat → State → Nat → Nat → Option Nat × State
  | 0, s, _, _ => (some 0, s)
  | k + 1, s, node, page => match s.nodeEntry node (page / 64 ^ k % 64) with
    | (none, s1) => (none, s1)
    | (some e, s1) => if k = 0 ∨ e = 0 then (some e, s1) else State.chartWalk k s1 e page

/-- The room of a stay's page (R206). -/
def State.pageRoom (s : State) (i page : Nat) : Option Nat × State :=
  let e := s.stay i
  if e.root = 0 ∨ 64 ^ (e.depth + 1) ≤ page then (some 0, s) else State.chartWalk (e.depth + 1) s e.root page

/-- An entry of a chart node among many: a 32 B sector that the operation has read already is not read again (R334). -/
def State.sectorEntry (s : State) (seen : List Nat) (node i : Nat) : Option Nat × List Nat × State :=
  let a := node * 256 + 4 * i
  if seen.contains (a / 32) then (some (leNat (s.peek a 4) % 2 ^ 24), seen, s)
  else match s.porterRead (a / 32 * 32) 32 with
    | (none, s1) => (none, seen, s1)
    | (some b, s1) => (some (leAt b (a % 32) 4 % 2 ^ 24), a / 32 :: seen, s1)

/-- As `State.chartWalk`, among many pages. -/
def State.chartRead : Nat → State → List Nat → Nat → Nat → Option Nat × List Nat × State
  | 0, s, seen, _, _ => (some 0, seen, s)
  | k + 1, s, seen, node, page => match s.sectorEntry seen node (page / 64 ^ k % 64) with
    | (none, seen1, s1) => (none, seen1, s1)
    | (some e, seen1, s1) => if k = 0 ∨ e = 0 then (some e, seen1, s1) else State.chartRead k s1 seen1 e page

/-- Rooms of pages, in order, after the sectors read already; none where a chart node is poisoned. -/
def State.roomsFrom : List Nat → State → List Nat → Nat → Option (List Nat) × State
  | [], s, _, _ => (some [], s)
  | p :: ps, s, seen, i =>
    let e := s.stay i
    match (if e.root = 0 ∨ 64 ^ (e.depth + 1) ≤ p then (some 0, seen, s) else State.chartRead (e.depth + 1) s seen e.root p) with
    | (none, _, s1) => (none, s1)
    | (some r, seen1, s1) => match State.roomsFrom ps s1 seen1 i with
      | (none, s2) => (none, s2)
      | (some rs, s2) => (some (r :: rs), s2)

/-- Rooms of a stay's pages, in order; each sector of its chart is read once (R206, R334). -/
def State.roomsOf (ps : List Nat) (s : State) (i : Nat) : Option (List Nat) × State := State.roomsFrom ps s [] i

/-- A page's entry written `k` levels below a node, nodes allocated on the way. The answer is none where no node is left or
one is poisoned; true where the entry was absent. -/
def State.chartPut : Nat → State → Nat → Nat → Nat → Option (Bool × State)
  | 0, _, _, _, _ => none
  | k + 1, s, node, page, room =>
    let i := page / 64 ^ k % 64
    match s.nodeEntry node i with
    | (none, _) => none
    | (some e, s1) =>
      if k = 0 then some (e == 0, s1.porterWrite (node * 256 + 4 * i) (natLE 4 room))
      else if e = 0 then match s1.takeNode with
        | none => none
        | some (n, s2) => State.chartPut k (s2.porterWrite (node * 256 + 4 * i) (natLE 4 n)) n page room
      else State.chartPut k s1 e page room

/-- The chart gets a root that reaches a page (R206): each new root's entry 0 names the old one. -/
def State.growChart : Nat → State → Nat → Nat → Option State
  | 0, s, _, _ => some s
  | n + 1, s, i, page =>
    let e := s.stay i
    if page < 64 ^ (e.depth + 1) then some s
    else if e.root = 0 then State.growChart n (s.setStay i { e with depth := e.depth + 1 }) i page
    else match s.takeNode with
      | none => none
      | some (r, s1) => State.growChart n
          ((s1.porterWrite (r * 256) (natLE 4 e.root)).setStay i { e with root := r, depth := e.depth + 1 }) i page

/-- A page of a stay names a room; none where a chart node is missing or poisoned. -/
def State.setPage (s : State) (i page room : Nat) : Option State :=
  match State.growChart 4 s i page with
  | none => none
  | some s1 =>
    let e := s1.stay i
    let rooted : Option State := if e.root ≠ 0 then some s1 else match s1.takeNode with
      | none => none
      | some (r, s2) => some (s2.setStay i { e with root := r })
    match rooted with
    | none => none
    | some s2 => match State.chartPut ((s2.stay i).depth + 1) s2 (s2.stay i).root page room with
      | none => none
      | some (isNew, s3) => some (if isNew then s3.modStay i (fun e => { e with rooms := e.rooms + 1 }) else s3)

/-- A page of a stay becomes absent, its room losing a reference. -/
def State.dropPage (s : State) (i page : Nat) : State :=
  match s.pageRoom i page with
  | (some r, s1) =>
    if r = 0 then s1
    else match State.chartPut ((s1.stay i).depth + 1) s1 (s1.stay i).root page 0 with
      | none => s1
      | some (_, s2) => (s2.modStay i (fun e => { e with rooms := e.rooms - 1 })).dropRef r
  | (none, s1) => s1

/-- What a walk through a chart has found: the nodes, the rooms, whether every read was clean. -/
structure ChartFound where
  nodes : List Nat
  rooms : List Nat
  clean : Bool
  deriving DecidableEq, Repr

/-- A chart node's entries that are present, read through the porter path, 16 of them to a pair; those of a poisoned pair are not known
(R334, R342). -/
def State.nodeEntries (s : State) (node : Nat) : List Nat × Bool × State :=
  (List.range 4).foldl (fun acc q => match acc.2.2.porterRead (node * 256 + 64 * q) 64 with
    | (some b, s1) => (acc.1 ++ ((List.range 16).map (fun i => leAt b (4 * i) 4 % 2 ^ 24)).filter (· != 0), acc.2.1, s1)
    | (none, s1) => (acc.1, false, s1)) ([], true, s)

/-- A chart's nodes and the entries of its last level, `k` levels deep from a node. -/
def State.chartNodes : Nat → State → Nat → ChartFound × State
  | 0, s, _ => (⟨[], [], true⟩, s)
  | k + 1, s, node =>
    let (es, good, s1) := s.nodeEntries node
    if k = 0 then (⟨[node], es, good⟩, s1)
    else es.foldl (fun (acc : ChartFound × State) c =>
      let (f, s2) := State.chartNodes k acc.2 c
      (⟨acc.1.nodes ++ f.nodes, acc.1.rooms ++ f.rooms, acc.1.clean && f.clean⟩, s2)) (⟨[node], [], good⟩, s1)

/-- A stay's chart, read whole. -/
def State.readChart (s : State) (i : Nat) : ChartFound × State :=
  let e := s.stay i
  if e.root = 0 then (⟨[], [], true⟩, s) else State.chartNodes (e.depth + 1) s e.root

/-- The rooms that a chart has been found to hold lose a reference and its nodes are freed (R223). -/
def State.freeChart (s : State) (i : Nat) (f : ChartFound) : State :=
  let s1 := f.rooms.foldl State.dropRef s
  let s2 := s1.modStays (fun u => { u with nodeFree := f.nodes ++ u.nodeFree })
  let s3 := s2.setFld ST_USE_NODES_FREE (s2.fld ST_USE_NODES_FREE + f.nodes.length)
  s3.modStay i (fun e => { e with root := 0, depth := 0, rooms := 0 })

/-- Every room of a chart loses a reference and every node is freed (R223), as far as the chart can be read. The answer counts the rooms. -/
def State.dropChart (s : State) (i : Nat) : Nat × State :=
  let (f, s1) := s.readChart i
  (f.rooms.length, s1.freeChart i f)

/-- As `State.dropChart`, for a request: none where a node is read as poison, which refuses it (R342); with stack 0 down a CLOSE frees what it
can (R354). -/
def State.closeChart (s : State) (i : Nat) : Option Nat × State :=
  let (f, s1) := s.readChart i
  if f.clean || s1.stackLost 0 then (some f.rooms.length, s1.freeChart i f) else (none, s1)

/-! ### Counting what is free (R209; log entry 40) -/

/-- FREE_ROOMS and NODES_FREE are set when the service is first enabled after a reset. -/
def State.countFree (s : State) : State :=
  if s.stays.counted then s
  else
    let n := ((List.range 8).map (fun st => if s.stackLost st then 0 else s.freeInStack st)).foldl (· + ·) 0
    ((s.modStays (fun u => { u with counted := true })).setFld ST_STATUS_FREE_ROOMS n).setFld ST_USE_NODES_FREE 4194303

end Sys2Proof.Machine
end

