-- ==== Sys2Proof/Machine/Symbols.lean ====
section
/-! DEFINITION. The symbol code of a 64 B pair (R339, R340): its codeword of 36 symbols over GF(2^16), and what its decoder makes of a
word read. -/

namespace Sys2Proof.Machine

open Sys2Proof

/-- A field element times α; the field polynomial is x^16 + x^12 + x^3 + x + 1 (R339). -/
def gfDouble (v : Nat) : Nat := if v < 2 ^ 15 then 2 * v else (2 * v) ^^^ 0x1100B

/-- A field element times α^k. -/
def gfShift : Nat → Nat → Nat
  | 0, v => v
  | k + 1, v => gfShift k (gfDouble v)

/-- A field element divided by α. -/
def gfHalve (v : Nat) : Nat := if v % 2 = 0 then v / 2 else (v ^^^ 0x1100B) / 2

/-- A field element divided by α^k. -/
def gfUnshift : Nat → Nat → Nat
  | 0, v => v
  | k + 1, v => gfUnshift k (gfHalve v)

/-- The check symbols of 33 symbols: d(x) mod g(x), g(x) = (x + α)(x + α²)(x + α³)
= x³ + (α + α² + α³) x² + (α³ + α⁴ + α⁵) x + α⁶ (R339). -/
def checkSymbols (data : List Nat) : List Nat :=
  let (a, b, c) := data.foldl (fun (r : Nat × Nat × Nat) s =>
    let f := r.1 ^^^ s
    (r.2.1 ^^^ gfShift 1 f ^^^ gfShift 2 f ^^^ gfShift 3 f, r.2.2 ^^^ gfShift 3 f ^^^ gfShift 4 f ^^^ gfShift 5 f, gfShift 6 f)) (0, 0, 0)
  [a, b, c]

/-- The codeword of a pair's bytes with the POISON byte: 32 data symbols, the metadata symbol, three check symbols (R339). -/
def codeword (data : List Byte) (poison : Nat) : List Nat :=
  let d := (List.range 32).map (fun i => leAt data (2 * i) 2) ++ [poison]
  d ++ checkSymbols d

/-- A word read with flipped bits in the symbols given. -/
def flipSymbols (w : List Nat) (errs : List (Nat × Nat)) : List Nat :=
  (List.range 36).map (fun i => errs.foldl (fun v e => if e.1 = i then v ^^^ e.2 else v) (w.getD i 0))

/-- Value of a word's polynomial at α^j: the symbol i is the coefficient of x^(35 − i). -/
def syndrome (j : Nat) (w : List Nat) : Nat := w.foldl (fun acc v => gfShift j acc ^^^ v) 0

/-- What the decoder makes of a word (R340): none where it is uncorrectable; else the symbol it corrects, if any, and the word
then. -/
def decodeWord (w : List Nat) : Option (Option Nat × List Nat) :=
  let (a, b, c) := (syndrome 1 w, syndrome 2 w, syndrome 3 w)
  if a = 0 ∧ b = 0 ∧ c = 0 then some (none, w)
  else if a = 0 then none
  else ((List.range 36).find? (fun i => gfShift (35 - i) a == b && gfShift (35 - i) b == c)).map
    (fun i => (some i, flipSymbols w [(i, gfUnshift (35 - i) a)]))

/-- The 64 bytes of a word's data symbols. -/
def wordBytes (w : List Nat) : List Byte := (w.take 32).flatMap (natLE 2)

end Sys2Proof.Machine
end

