-- ==== Sys2Proof/Machine/Memory.lean ====
section
/-! DEFINITION. The meanings of the memory's commands (R326 to R358): reads and writes of pairs, merge entries, interface
replays, temperatures, scrub sweeps, repair and retirement, a stack that goes down. -/

namespace Sys2Proof.Machine

open Sys2Proof

/-! ### Pairs -/

/-- The codeword of a pair as it is stored (R339). -/
def State.codeword (s : State) (p : Nat) : List Nat := Sys2Proof.Machine.codeword (s.pairBytes p) (if s.poisoned p then 0xDB else 0)

/-- An uncorrectable read of a pair (R340, R341); it returns poison. -/
def State.readFails (s : State) (p : Nat) : State := (if s.poisoned p then s else s.memCount (pairStack p) 8).poisonPair p

/-- A correction is written back whatever WRITEBACK says (R346). -/
def State.untracked (s : State) (p : Nat) : Bool :=
  let (pc, bank, row, _) := pairPlace p
  (ceEntries (pairStack p)).all (fun n => s.flag (MEM_CE_VALID n) &&
    !(s.fld (MEM_CE_PC n) == pc && s.fld (MEM_CE_BANK n) == bank && s.fld (MEM_CE_ROW n) == row))

/-- A read of three or more symbols in error, as the code of R339 finds it: uncorrectable, or taken for another codeword, which a
correction may write back (R340). -/
def State.readWrong (s : State) (p : Nat) (errs : List (Nat × Nat)) : State :=
  match decodeWord (flipSymbols (s.codeword p) errs) with
  | none => s.readFails p
  | some (fix, w) =>
    let s1 := match fix with
      | some i => (s.correctPair p i).2
      | none => s
    let bad := w.getD 32 0 % 256 != 0
    let s2 := if bad && !s.poisoned p then s1.memCount (pairStack p) 8 else s1
    if fix.isSome && (s.flag MEM_CE_CTRL_WRITEBACK || s.untracked p) then
      let s3 := s2.putPair p (wordBytes w)
      if bad then s3.modMem (fun m => { m with poison := sparseSet false m.poison p true }) else s3
    else s2

/-- What the decoder makes of a pair read with these symbols in error (R340, R341): one is corrected and two are always detected. -/
def State.decoded (s : State) (p : Nat) (errs : List (Nat × Nat)) : State :=
  match errs with
  | [] => s
  | [e] => (s.correctPair p e.1).2
  | [_, _] => s.readFails p
  | _ => s.readWrong p errs

/-- The read-modify-write of a merge entry whose read finds these symbols in error (R335, R340, R341): a pair that it finds uncorrectable is
poisoned and takes nothing. -/
def State.flushWith (s : State) (e : MergeEntry) (errs : List (Nat × Nat)) : State :=
  let s1 := s.openEntry e
  (if s1.stackLost (pairStack e.pair) then s1 else s1.decoded e.pair errs).mergeIn e

/-- PAIR_READ (R340, R341): a read of a pair that finds these symbols in error. Where a merge entry of the pair is written first, it is that
read-modify-write that finds them (R335; log entry 174). -/
def execPairRead (pair : Nat) (errs : List (Nat × Nat)) (s : State) : Host.Outcome State Fault Refusal :=
  if 2 ^ 34 ≤ pair then .next s
  else
    let s0 := s.transferred (pairStack pair)
    match s0.mem.merge.find? (fun e => e.pair == pair) with
    | some e => .next (((s0.flushWith e errs).touchPair pair).firmwareRead pair)
    | none =>
      let s1 := s0.touchPair pair
      .next ((if s1.stackLost (pairStack pair) then s1 else s1.decoded pair errs).firmwareRead pair)

/-- PAIR_WRITE (R343): a whole pair is written, which clears its poison. -/
def execPairWrite (pair : Nat) (data : List Byte) (s : State) : Host.Outcome State Fault Refusal :=
  if 2 ^ 34 ≤ pair then .next s else .next ((s.transferred (pairStack pair)).putPair pair data)

/-- MERGE_HOLD_EXPIRY (R335): an entry held for HOLD × 16 ns is written; its read finds these symbols in error. -/
def execMergeHoldExpiry (pair : Nat) (s : State) (errs : List (Nat × Nat) := []) : Host.Outcome State Fault Refusal :=
  match s.mem.merge.find? (fun e => e.pair == pair) with
  | some e => if e.at_ + 128 * s.fld MEM_MERGE_CTRL_HOLD ≤ s.free then .next (s.flushWith e errs) else .next s
  | none => .next s

/-- INTERFACE_CRC_FAIL (R327): a failed transfer is replayed; eight failed replays in a row take the stack down. -/
def execInterfaceCrcFail (stack : Nat) (s : State) : Host.Outcome State Fault Refusal :=
  if 8 ≤ stack ∨ s.stackLost stack then .next s
  else
    let n := sparseGet 0 s.mem.crcRuns stack
    if n < 8 then .next ((s.memCount stack 7).modMem (fun m => { m with crcRuns := sparseSet 0 m.crcRuns stack (n + 1) }))
    else .next (((s.transferred stack).fault (0x100 + stack) 0x26 0).loseStack stack)

/-- STACK_DOWN (R354): the base die reports an internal controller fault. -/
def execStackDown (stack : Nat) (s : State) : Host.Outcome State Fault Refusal := .next (s.loseStack stack)

/-! ### Temperature (R337, R338, R356) -/

/-- The thermal level for a temperature in quarters of a degree, from the present level (R337). -/
def State.thermalLevel (s : State) (old : Nat) (temp : Int) : Nat :=
  let at_ := fun (t : Nat) (i : Nat) => decide ((4 * t : Nat) ≤ temp) ||
    (decide (i ≤ old) && decide (((4 * t : Nat) : Int) - (4 * s.fld MEM_THERM_HYST : Nat) ≤ temp))
  if at_ (s.fld MEM_THERM_T3) 3 then 3 else if at_ (s.fld MEM_THERM_T2) 2 then 2 else if at_ (s.fld MEM_THERM_T1) 1 then 1 else 0

/-- THERMAL_REPORT (R337, R338). -/
def execThermalReport (stack temp : Nat) (s : State) : Host.Outcome State Fault Refusal :=
  if 8 ≤ stack ∨ s.phase = 0 then .next s
  else
    let l := s.thermalLevel (s.fld (MEM_STACK_THERM_LEVEL stack)) (toSigned 16 temp)
    .next (((s.setFld (MEM_STACK_TEMP stack) temp).setFld (MEM_STACK_THERM_LEVEL stack) l).applyLevel stack)

/-- THERM_THRESHOLD_WRITE (R356): a write that breaks T1 < T2 < T3 is discarded. -/
def execThermThresholdWrite (value : Nat) (s : State) : Host.Outcome State Fault Refusal :=
  let w := (s.written MEM_THERM value).toNat
  if bitsOf w 15 8 < bitsOf w 23 16 ∧ bitsOf w 23 16 < bitsOf w 31 24 then .next (s.writePlain MEM_THERM value)
  else .next (s.raise MEM_ERR_THERM_ORDER)

/-! ### Scrub sweeps (R347, R348) -/

/-- SCRUB_GO (R347, R348): the whole write is discarded while a sweep runs. -/
def execScrubGo (value : Nat) (s : State) : Host.Outcome State Fault Refusal :=
  if s.flag MEM_SCRUB_STATUS_BUSY then .next (s.raise MEM_ERR_SCRUB_BUSY)
  else
    let s1 := s.writePlain MEM_SCRUB_CTRL value
    let s2 := (((s1.setReg MEM_SCRUB_STATUS 0).raise MEM_SCRUB_STATUS_BUSY).setFld MEM_SCRUB_STATUS_NEXT_ROOM (s1.fld MEM_SCRUB_CTRL_FIRST_ROOM))
    let s3 := ((List.range 6).foldl (fun s i => s.setReg (MEM_SCRUB_SUM i) 0) s2).modMem (fun m => { m with
      sweep := some (s1.fld MEM_SCRUB_CTRL_FIRST_ROOM, s1.fld MEM_SCRUB_CTRL_LAST_ROOM, (List.range 8).filter (fun st => !s.stackLost st)) })
    .next (s3.setReg (MEM_SCRUB_SUM 4) (BitVec.ofNat 64 s3.now))

/-- SCRUB_STOP (R347): the sweep ends at the next row boundary. -/
def execScrubStop (s : State) : Host.Outcome State Fault Refusal :=
  if s.flag MEM_SCRUB_STATUS_BUSY then .next (s.raise MEM_SCRUB_STATUS_STOPPED) else .next s

/-- Rooms of a range that a stack holds: the first, and how many (R328). -/
def rangeIn (first last st : Nat) : Nat × Nat := (max first (st * 2 ^ 21), min (last + 1) ((st + 1) * 2 ^ 21) - max first (st * 2 ^ 21))

/-- Rows that a stack has read in its part of a sweep: all of them, those it is said to have read where the sweep was stopped or the stack has gone
down, none where it was down from the start (R347). -/
def State.rowsSwept (s : State) (first last : Nat) (up rows : List Nat) (st : Nat) : Nat :=
  let all := 32 * (rangeIn first last st).2
  if !up.contains st then 0 else if s.flag MEM_SCRUB_STATUS_STOPPED || s.stackLost st then min (rows.getD st 0) all else all

/-- Findings of the reads of a sweep or a repair: corrections, counted and recorded, then pairs found uncorrectable, poisoned. The answer counts
the table entries created. -/
def State.findings (s : State) (corrected : List (Nat × Nat)) (uncorrectable : List Nat) : Nat × State :=
  let (made, s1) := corrected.foldl (fun (acc : Nat × State) c =>
    let r := acc.2.correctPair c.1 c.2
    (acc.1 + (if r.1 then 1 else 0), r.2)) (0, s)
  (made, uncorrectable.foldl State.readFails s1)

/-- SCRUB_DONE (R347, R348): each stack has read the rows of its part of the range, in ascending room order, and found these pairs with one symbol in
error and these uncorrectable. `rows` says how many rows each stack had read where the sweep was stopped or the stack went down (log entry 36). -/
def execScrubDone (corrected : List (Nat × Nat)) (uncorrectable : List Nat) (s : State) (rows : List Nat := []) : Host.Outcome State Fault Refusal :=
  match s.mem.sweep with
  | none => .next s
  | some (first, last, up) =>
    let parts := (List.range 8).filter (fun st => decide (0 < (rangeIn first last st).2))
    let done := s.rowsSwept first last up rows
    let read := fun (p : Nat) => decide ((pairRoom p - (rangeIn first last (pairStack p)).1) * 32 + p % 1024 / 32 < done (pairStack p)) &&
      decide (first ≤ pairRoom p) && !s.stackLost (pairStack p)
    let s1 := (s.mem.merge.filter (fun e => read e.pair)).foldl State.flushEntry s
    let s2 := (s1.mem.poison.filter (fun e => read e.1)).foldl (fun s e => s.memCount (pairStack e.1) 8) s1
    let fix := corrected.filter (fun c => read c.1)
    let bad := uncorrectable.filter read
    let (made, s3) := s2.findings fix bad
    let left := parts.filter (fun st => decide (done st < 32 * (rangeIn first last st).2))
    let next := left.map (fun st => (rangeIn first last st).1 + done st / 32)
    let s4 := (s3.setReg (MEM_SCRUB_SUM 0) (BitVec.ofNat 64 (32 * (parts.map done).foldl (· + ·) 0))).setReg (MEM_SCRUB_SUM 1)
      (BitVec.ofNat 64 fix.length)
    let s5 := (s4.setReg (MEM_SCRUB_SUM 2) (BitVec.ofNat 64 (bad.filter (fun p => !s2.poisoned p)).length)).setReg (MEM_SCRUB_SUM 3)
      (BitVec.ofNat 64 made)
    let s6 := ((s5.setReg (MEM_SCRUB_SUM 5) (BitVec.ofNat 64 s5.now)).setFld MEM_SCRUB_STATUS_BUSY 0).modMem (fun m => { m with sweep := none })
    let s7 := s6.setFld MEM_SCRUB_STATUS_SKIPPED (if parts.any (fun st => !up.contains st || s.stackLost st) then 1 else 0)
    .next (match next.min? with
      | some r => s7.setFld MEM_SCRUB_STATUS_NEXT_ROOM r
      | none => (s7.setFld MEM_SCRUB_STATUS_NEXT_ROOM (Config.freeWord s3.freeCtr).toNat).nextFree)

/-! ### Repair and retirement (R349 to R352) -/

/-- TYPE of a repair ledger entry (R351). -/
def ledgerType (e : Nat) : Nat := bitsOf e 63 60

/-- A ledger entry retires a room (R351, R352). -/
def retires (e r : Nat) : Bool :=
  (ledgerType e == 2 && bitsOf e 23 0 == r) ||
  (ledgerType e == 3 && bitsOf e 59 57 == roomStack r && bitsOf e 56 51 % 2 == r % 2 && bitsOf e 50 45 == r / 2 % 64)

/-- Non-reserved rooms with a piece in a bank (R328, R352). -/
def bankRooms (stack pc bank : Nat) : List Nat :=
  ((List.range 16384).map (fun row => stack * 2 ^ 21 + row * 128 + bank * 2 + pc % 2)).filter (fun r => decide (32768 ≤ r))

/-- Spare rows of a bank already taken. -/
def State.sparesUsed (s : State) (stack pc bank : Nat) : List Nat :=
  ((s.mem.remaps.filter (fun r => r.stack == stack && r.pc == pc && r.bank == bank)).map (·.spare)) ++
  ((s.host.flash.ledger.filter (fun e => ledgerType e == 1 && bitsOf e 59 57 == stack && bitsOf e 56 51 == pc &&
    bitsOf e 50 45 == bank)).map (fun e => bitsOf e 30 28))

/-- The free spare row of a bank with the lowest number (log entry 37). -/
def State.spare? (s : State) (stack pc bank : Nat) : Option Nat :=
  (List.range 8).find? (fun k => !(s.sparesUsed stack pc bank).contains k)

/-- A row is remapped to a spare: the newest remap of a row governs. -/
def State.remapRow (s : State) (stack pc bank row spare : Nat) : State :=
  let n := s.remapped stack pc bank row + 1
  let s1 := s.modMem (fun m => { m with remaps := ⟨stack, pc, bank, row, spare, n⟩ :: m.remaps })
  ((ceEntries stack).filter (fun e => s1.flag (MEM_CE_VALID e) && s1.fld (MEM_CE_PC e) == pc && s1.fld (MEM_CE_BANK e) == bank &&
    s1.fld (MEM_CE_ROW e) == row)).foldl (fun s e => s.setFld (MEM_CE_REPAIRS e) n) s1

/-- The repair ledger is read (R351): row repairs are loaded, the later of two for one row governing; an entry of a reserved
type is skipped and reported. -/
def State.loadLedger (s : State) : State :=
  let s1 := s.host.flash.ledger.foldl (fun s e =>
    if ledgerType e = 1 then s.remapRow (bitsOf e 59 57) (bitsOf e 56 51) (bitsOf e 50 45) (bitsOf e 44 31) (bitsOf e 30 28)
    else if [0, 2, 3, 15].contains (ledgerType e) then s
    else s.fault (0x100 + bitsOf e 59 57) 0x28 0) s
  s1.setFld MEM_REPAIR_STATUS_LEDGER_USED (s1.host.flash.ledger.filter (fun e => ledgerType e != 0 && ledgerType e != 15)).length

/-- Retirements of the ledger are applied before PHASE reaches 0x5 (R351). -/
def State.applyRetirements (s : State) : State :=
  s.host.flash.ledger.foldl (fun s e =>
    if ledgerType e = 2 then (if 32768 ≤ bitsOf e 23 0 then s.poisonRoom (bitsOf e 23 0) else s)
    else if ledgerType e = 3 then (bankRooms (bitsOf e 59 57) (bitsOf e 56 51) (bitsOf e 50 45)).foldl State.poisonRoom s
    else s) s

/-- A record joins the repair ledger in flash. -/
def State.recordLedger (s : State) (e : Nat) : State :=
  let s1 := s.modHost (fun h => { h with flash := { h.flash with ledger := h.flash.ledger ++ [e] } })
  s1.setFld MEM_REPAIR_STATUS_LEDGER_USED (s1.fld MEM_REPAIR_STATUS_LEDGER_USED + 1)

/-- The repair ledger has no entry left. -/
def State.ledgerFull (s : State) : Bool := decide (4096 ≤ s.host.flash.ledger.length)

/-- A write of MEM_REPAIR_CTRL with GO starts an operation, or is discarded while one runs (R349). -/
def State.repairGo (s : State) (value op : Nat) : State :=
  if s.flag MEM_REPAIR_STATUS_BUSY then s.raise MEM_ERR_REPAIR_BUSY
  else
    let s1 := (s.writePlain MEM_REPAIR_CTRL value).raise MEM_REPAIR_STATUS_BUSY
    s1.modMem (fun m => { m with repair := some ((s1.setFld MEM_REPAIR_CTRL_OP op).reg MEM_REPAIR_CTRL).toNat })

/-- REPAIR_ROW (R349, R350). -/
def execRepairRow (value : Nat) (s : State) : Host.Outcome State Fault Refusal := .next (s.repairGo value 0)

/-- RETIRE_ROOM (R349, R352). -/
def execRetireRoom (value : Nat) (s : State) : Host.Outcome State Fault Refusal := .next (s.repairGo value 1)

/-- RETIRE_BANK (R349, R352). -/
def execRetireBank (value : Nat) (s : State) : Host.Outcome State Fault Refusal := .next (s.repairGo value 2)

/-- RELEASE_ROOM (R349, R352). -/
def execReleaseRoom (value : Nat) (s : State) : Host.Outcome State Fault Refusal := .next (s.repairGo value 3)

/-- Operation 0 (R349, R350), refused in the order of R349's table: the row's merge entries are flushed and its pairs are read into the spare, with these findings of its own. -/
def State.doRepairRow (s : State) (w : Nat) (corrected : List (Nat × Nat)) (uncorrectable : List Nat) : Nat × State :=
  let (st, pc, bank, row) := (bitsOf w 59 57, bitsOf w 56 51, bitsOf w 50 45, bitsOf w 44 31)
  if 2 ≤ s.remapped st pc bank row then (1, s)
  else match s.spare? st pc bank with
    | none => (2, s)
    | some k =>
      if s.ledgerFull then (3, s)
      else if s.stackLost st then (4, s)
      else
        let mine := rowPairs st pc bank row
        let s1 := ((mine.foldl State.touchPair s).findings (corrected.filter (fun c => mine.contains c.1)) (uncorrectable.filter mine.contains)).2
        (0, (s1.remapRow st pc bank row k).recordLedger
          (2 ^ 60 + st * 2 ^ 57 + pc * 2 ^ 51 + bank * 2 ^ 45 + row * 2 ^ 31 + k * 2 ^ 28))

/-- Operation 3 (R349, R352): a held room that is not retired is zeroed, its POISON is cleared and it returns to its stack's vacancy list, or stays
where it stands in that list. A reserved room and one of the two areas are given to no stay and join no list (R202, R224; log entry 44). -/
def State.doRelease (s : State) (r : Nat) : Nat × State :=
  let v := leNat (s.peek (ledgerAt r) 4)
  if s.ledgerDark r ∨ !v.testBit 16 ∨ v % 65536 ≠ 0 ∨ s.host.flash.ledger.any (fun e => retires e r) then (5, s)
  else
    let st := roomStack r
    let listed := (s.vacancy st).contains r
    let next := s.peek (r * 65536) 4
    let s1 := ((s.zeroRoom r).setLedger r 0 false).setFld MEM_STATUS_HELD_ROOMS (s.fld MEM_STATUS_HELD_ROOMS - 1)
    if r < 32768 ∨ s1.inArea r then (0, s1)
    else if s1.stackLost st then (0, s1)
    else if listed then (0, (s1.poolWrite (r * 65536) next).freeRoomsBy 1)
    else
      let s2 := if s1.stays.fresh.getD st 0 ≤ r then s1.modStays (fun u => { u with early := u.early ++ [r] }) else s1
      (0, s2.pushVacant r)

/-- REPAIR_DONE (R349, R350): the operation's outcome, with what a row repair's reads have found, its record in the ledger, and BUSY cleared. -/
def execRepairDone (s : State) (corrected : List (Nat × Nat) := []) (uncorrectable : List Nat := []) : Host.Outcome State Fault Refusal :=
  match s.mem.repair with
  | none => .next s
  | some w =>
    let op := bitsOf w 62 60
    let (res, s1) :=
      if op = 0 then s.doRepairRow w corrected uncorrectable
      else if op = 1 then
        if bitsOf w 23 0 < 32768 then (5, s) else if s.ledgerFull then (3, s)
        else (0, (s.poisonRoom (bitsOf w 23 0)).recordLedger (2 * 2 ^ 60 + bitsOf w 23 0))
      else if op = 2 then
        if s.ledgerFull then (3, s) else if s.stackLost (bitsOf w 59 57) then (4, s)
        else (0, ((bankRooms (bitsOf w 59 57) (bitsOf w 56 51) (bitsOf w 50 45)).foldl State.poisonRoom s).recordLedger
          (3 * 2 ^ 60 + bitsOf w 59 45 * 2 ^ 45))
      else if op = 3 then s.doRelease (bitsOf w 23 0)
      else (6, s)
    .next (((s1.modMem (fun m => { m with repair := none })).setFld MEM_REPAIR_STATUS_BUSY 0).setFld MEM_REPAIR_STATUS_RESULT res)

end Sys2Proof.Machine
end

