-- ==== Sys2Proof/Machine/Power.lean ====
section
/-! DEFINITION. Resets, start-up and power (R12, R29, R30, R50, R65, R344, R452 to R465): what a reset keeps, the input switch,
the phases up to LINKS, limits and steps, the arithmetic clock, the steward's SET_COORD and SET_ROOT. -/

namespace Sys2Proof.Machine

open Sys2Proof

/-! ### What a reset keeps (R11, R12, R443, R450) -/

/-- The registers after a warm or cold reset: only RS fields keep their values (R11). -/
def State.stickyRegs (s : State) : List (Nat × Word) :=
  s.regs.filterMap (fun e => match regRow? e.1 with
    | none => none
    | some r =>
      let w := r.fields.foldl (fun w f => if f.acc = .rs then putFld w f.hi f.lo (bitsOf e.2.toNat f.hi f.lo) else w) (regReset e.1)
      if w = regReset e.1 then none else some (e.1, w))

/-- Days until the least-squares line through the daily values reaches 255 (R410). -/
def eolDays (h : List Nat) : Nat :=
  let n : Int := h.length
  let sx : Int := (h.zipIdx.map (fun x => (x.2 : Int))).sum
  let sy : Int := (h.map (fun (y : Nat) => (y : Int))).sum
  let sxx : Int := (h.zipIdx.map (fun x => (x.2 : Int) * x.2)).sum
  let sxy : Int := (h.zipIdx.map (fun x => (x.2 : Int) * x.1)).sum
  let a := n * sxy - sx * sy
  let b := n * sxx - sx * sx
  if h.length < 7 ∨ a ≤ 0 then 0xFFFF
  else min 0xFFFE ((2 * (255 * n - sy) * b - (n - 1) * n * a) / (2 * n * a)).toNat

/-- What registers show of flash after a reset: the owner key (R451), the stages' wear (R471) and the days that the kept history gives (R410). -/
def State.showFlash (s : State) : State :=
  let s1 := (s.setFld MB_BOOT_STATUS_OWNER_SET (if s.host.flash.owner.isSome then 1 else 0)).setFld PH_HEALTH_EOL_DAYS (eolDays s.host.flash.history)
  s1.host.flash.wear.foldl (fun s w => (s.setFld (PH_STAGE_CYCLES w.1) w.2.1).setFld (PH_STAGE_OVER_S w.1) w.2.2) s1

/-- The mode in force and the limits of clusters and stacks follow MODE and a low input (R453, R461). -/
def State.showCap (s : State) : State :=
  let m := if s.power.lowInput then max 2 (s.fld PH_CAP_MODE) else s.fld PH_CAP_MODE
  (List.range 14).foldl (fun s b => s.setFld (PH_BLOCK_LIMIT b) (capLimit m b)) (s.setFld PH_CAP_MODE_IN_FORCE m)

/-- The module after a warm or cold reset that leaves PHASE at `p`, with what survives it: RS fields, the power input and its timers, a warm
reset that is owed (R450), flash and the writes to it that run, and the model's own fields. -/
def State.resetTo (s : State) (p : Nat) (host : HostUnit) : State :=
  let t : State := { State.reset with
    regs := s.stickyRegs,
    power := { powerReset with
      auxOn := s.power.auxOn, switchClosed := s.power.switchClosed, ocLatch := s.power.ocLatch, lowInput := s.power.lowInput,
      discharging := s.power.discharging, inputReady := s.power.inputReady.map (· - s.free), latchEnds := s.power.latchEnds.map (· - s.free),
      resetOwed := s.power.resetOwed, resetDue := s.power.resetDue.map (· - s.free) },
    host := { host with flash := s.host.flash, writing := s.host.writing },
    out := s.out.idle, pending := s.pending, freeCtr := s.freeCtr }
  (t.setFld DV_STATE_PHASE p).showFlash

/-- Warm reset (R12, R30, R443): every boot stage runs again. -/
def State.warm (s : State) : State :=
  let p := if s.phase = 7 then 7 else if s.power.switchClosed then 1 else 0
  let s1 := s.setPhase p
  ((s1.resetTo p { hostReset with stage := some 0 }).modPower (fun w => { w with resetOwed := false, resetDue := none })).showCap

/-- Cold reset (R12, R30, R443, R459): the switch is open, the rails discharge; boot stages 0 and 1 stand and the measurement
log is kept, while the registers return to their reset values (log entry 125). -/
def State.cold (s : State) : State :=
  let p := if s.phase = 7 then 7 else 0
  let s1 := s.setPhase p
  let early := match s.host.stage with
    | some k => if k < 2 then some k else none
    | none => none
  let s2 := s1.resetTo p { hostReset with
    stage := early, passed := min 1 s1.host.passed, bootB := s1.host.bootB, bootTrial := s1.host.bootTrial,
    failed := if s1.fld MB_BOOT_STATUS_FAIL_STAGE < 2 then s1.host.failed else none, log := s1.host.log, measured := s1.host.measured,
    svns := s1.host.svns }
  (s2.modPower (fun w => { w with switchClosed := false, discharging := true })).showCap

/-- Removal of the auxiliary supply (R12, R450, R455): only flash is left, and a component slot being written fails its
verification from then on. -/
def State.cycle (s : State) : State :=
  let flash := s.host.writing.foldl (fun (f : Flash) w => match w with
    | .component c b _ => { f with images := f.images.filter (fun i => i.1 != c || i.2.1 != b) ++ [(c, b, [])] }
    | .recover c b _ _ => { f with images := f.images.filter (fun i => i.1 != c || i.2.1 != b) ++ [(c, b, [])] }
    | _ => f) s.host.flash
  { State.reset with
    power := { powerReset with inputReady := s.power.inputReady.map (· - s.free) },
    host := { hostReset with flash := flash }, out := s.out.idle, pending := s.pending, freeCtr := s.freeCtr }

/-- WARM_RESET (R12): held while a flash write runs (R450). -/
def execWarmReset (s : State) : Host.Outcome State Fault Refusal :=
  if !s.power.auxOn then .next s
  else if s.host.writing.isEmpty then .next s.warm
  else .next (s.modPower (fun w => { w with resetOwed := true }))

/-- POWER_CYCLE (R12, R455). -/
def execPowerCycle (s : State) : Host.Outcome State Fault Refusal := .next s.cycle

/-- A loss of the main input: a cold reset where the switch was closed (R453, R459). -/
def State.inputLost (s : State) : State := if s.power.switchClosed then s.cold else s

/-- The input is removed (R454, R459): a latch that holds the switch open is freed where it stays away for 1 s (log entry 46). -/
def State.inputRemoved (s : State) : State :=
  (s.modPower (fun w => { w with inputReady := none, latchEnds := some (w.latchEnds.getD (s.free + 1000000 * ticksPerUs)) })).inputLost

/-- POWER_OFF (R459). -/
def execPowerOff (s : State) : Host.Outcome State Fault Refusal := if s.power.auxOn then .next s.inputRemoved else .next s

/-- RAILS_DISCHARGED (R459). -/
def execRailsDischarged (s : State) : Host.Outcome State Fault Refusal :=
  .next (s.modPower (fun w => { w with discharging := false }))

/-- The input has lain within its limits for 100 ms (R452). -/
def State.inputGood (s : State) : Bool := s.power.inputReady.any (fun t => decide (t ≤ s.free))

/-- The input switch may close: R452, with the rails discharged (R459) and no latch (R454). -/
def State.mayClose (s : State) : Bool :=
  s.power.auxOn && !s.power.switchClosed && !s.power.discharging && !s.power.ocLatch && s.inputGood && s.phase == 0 && decide (1 ≤ s.host.passed) &&
    s.host.stage.isNone

/-- INPUT_SWITCH_CLOSE (R452, R454, R458): PHASE 0x0 becomes 0x1 and boot stage 2 resumes. -/
def execInputSwitchClose (s : State) : Host.Outcome State Fault Refusal :=
  if s.mayClose then
    let s1 := (s.modPower (fun w => { w with switchClosed := true, latchEnds := none, lowInput := false })).modHost (fun h => { h with stage := some 2 })
    .next (s1.showCap.setPhase 1)
  else .next s

/-! ### The input's conditions (R453, R454) -/

/-- Ticks of the 100 ms of R452 and R453. -/
def inputHold : Nat := 100000 * ticksPerUs

/-- A voltage that the input has had for the last `ago` ticks: it is measured (R471), the 100 ms of R452 run while it lies within 54.0 to 66.0 V,
and an input back at the undervoltage limit or above frees a latch where it was removed for 1 s (R454; log entry 46). -/
def State.seeInput (s : State) (vin ago : Nat) : State :=
  let v := toSigned 16 vin
  (s.setFld PH_INPUT_VIN vin).modPower (fun w => { w with
    inputReady := if 5400 ≤ v ∧ v ≤ 6600 then some (min (w.inputReady.getD (s.free + inputHold - ago)) (s.free + inputHold - ago)) else none,
    ocLatch := w.ocLatch && !(decide (5200 ≤ v) && w.latchEnds.any (fun t => decide (t + ago ≤ s.free))),
    latchEnds := if 5200 ≤ v then none else w.latchEnds })

/-- An input condition sets its bit and the measured voltage, while the auxiliary supply is present (R453). -/
def State.inputEvent (s : State) (f : Fld) (vin : Nat) : State := (s.raise f).seeInput vin 0

/-- INPUT_LOW (R453): before the switch closes it is no such condition, and the input lies outside the limits of R452. -/
def execInputLow (vin : Nat) (s : State) : Host.Outcome State Fault Refusal :=
  if !s.power.auxOn ∨ toSigned 16 vin < 5200 ∨ 5400 < toSigned 16 vin then .next s
  else if !s.power.switchClosed then .next (s.seeInput vin 0)
  else .next ((s.inputEvent PH_INPUT_EVENT_UV vin).modPower (fun w => { w with lowInput := true })).showCap

/-- INPUT_RECOVERED (R453). -/
def execInputRecovered (vin : Nat) (s : State) : Host.Outcome State Fault Refusal :=
  if !s.power.auxOn ∨ toSigned 16 vin ≤ 5400 then .next s
  else .next ((s.seeInput vin inputHold).modPower (fun w => { w with lowInput := false })).showCap

/-- UNDERVOLTAGE (R453). -/
def execUndervoltage (vin : Nat) (s : State) : Host.Outcome State Fault Refusal :=
  if !s.power.auxOn ∨ 5200 ≤ toSigned 16 vin then .next s else .next (s.inputLost.inputEvent PH_INPUT_EVENT_UV vin)

/-- SURGE (R453). -/
def execSurge (vin : Nat) (s : State) : Host.Outcome State Fault Refusal :=
  if !s.power.auxOn ∨ toSigned 16 vin < 6600 ∨ 8000 < toSigned 16 vin then .next s
  else .next (s.inputEvent PH_INPUT_EVENT_SURGE vin)

/-- OVERVOLTAGE (R453). -/
def execOvervoltage (vin : Nat) (s : State) : Host.Outcome State Fault Refusal :=
  if !s.power.auxOn ∨ toSigned 16 vin ≤ 6600 then .next s
  else .next ((if s.power.switchClosed then s.cold else s).inputEvent PH_INPUT_EVENT_OV vin)

/-- REVERSE (R453): the switch stays open. -/
def execReverse (vin : Nat) (s : State) : Host.Outcome State Fault Refusal :=
  if !s.power.auxOn ∨ s.power.switchClosed ∨ 0 ≤ toSigned 16 vin then .next s
  else .next (s.inputEvent PH_INPUT_EVENT_REVERSE vin)

/-- OVERCURRENT (R453): the switch opens and latches open. -/
def execOvercurrent (s : State) : Host.Outcome State Fault Refusal :=
  if !s.power.auxOn ∨ !s.power.switchClosed then .next s
  else
    let s1 := s.cold.raise PH_INPUT_EVENT_OC
    .next (s1.modPower (fun w => { w with ocLatch := true, latchEnds := none }))

/-- RETRY (R454): discarded when no latch is set. -/
def execRetry (s : State) : Host.Outcome State Fault Refusal :=
  .next (s.modPower (fun w => { w with ocLatch := false, latchEnds := if w.ocLatch then none else w.latchEnds }))

/-- POWER_STAGE_FAIL (R456). Stage 4 feeds the islands that R394 gives the stores of its row: 2 to 42 (log entry 155). -/
def execPowerStageFail (stage : Nat) (s : State) : Host.Outcome State Fault Refusal :=
  if !s.power.auxOn then .next s
  else if stage = 10 then .next s.cycle
  else if !s.power.switchClosed then .next s
  else if stage = 4 then .next ((List.range 41).foldl (fun s i => s.fault (i + 2) 0x04 0) s)
  else if stage ≤ 3 then .next ((List.range 46).foldl (fun s i => s.fault (i + 1) 0x04 0) s)
  else if stage = 5 then .next ((List.range 9).foldl (fun s i => s.fault (i + 47) 0x04 0) s)
  else if stage ≤ 7 then .next ((List.range 4).foldl (fun s i => s.loseStack (4 * (stage - 6) + i)) s)
  else if stage ≤ 9 then .next ((List.range 2).foldl (fun s i => s.failTile (2 * (stage - 8) + i)) s)
  else if stage = 11 then .next s.cold
  else .next s

/-! ### Start-up (R29, R30, R50, R344, R458) -/

/-- RAILS_STABLE (R29, R344, R458): once stage 2 has applied its settings, PHASE becomes 0x2 and the fill starts. -/
def execRailsStable (s : State) : Host.Outcome State Fault Refusal :=
  if s.phase = 1 ∧ 2 ≤ s.fld MB_BOOT_STATUS_STAGE ∧ s.host.stage = none then .next (s.setPhase 2) else .next s

/-- Bits of CL_STATUS.READY (R266): released, enabled and not quarantined. -/
def State.showReady (s : State) : State :=
  if s.fld DV_STATE_STACKS_FILLED = 255 then
    (List.range 6).foldl (fun s k =>
      s.setFld (CL_STATUS_READY k) ((onesOf (s.fld (CL_CTRL_CORE_EN k)) 4).foldl (fun w c =>
        if (s.fld (CL_QUAR_QUAR k)).testBit c then w else setBitOf w c) 0)) s
  else s

/-- STACK_FILL_DONE (R29, R30, R344): a filled stack holds zeros; with the last one PHASE becomes 0x3, the cores are released,
the muster begins and so does boot stage 3. -/
def execStackFillDone (stack : Nat) (s : State) : Host.Outcome State Fault Refusal :=
  if s.phase ≠ 2 ∨ 8 ≤ stack ∨ s.stackLost stack ∨ s.regBit DV_STATE (32 + stack) then .next s
  else
    let s1 := s.modMem (fun m => { m with
      bytes := m.bytes.filter (fun e => e.1 / 2 ^ 37 != stack),
      poison := m.poison.filter (fun e => e.1 / 2 ^ 31 != stack),
      merge := m.merge.filter (fun e => pairStack e.pair != stack) })
    let s2 := (ceEntries stack).foldl (fun s e => s.setReg (MEM_CE e) 0) s1
    let s3 := (s2.setRegBit DV_STATE (32 + stack) true).raise (MEM_STACK_FILLED stack)
    if s3.fld DV_STATE_STACKS_FILLED = 255 then
      let s4 := (s3.modPower (fun w => { w with
        musterRuns := [], musterAt := s3.free, markAt := none, musterTodo := List.range 56, released := true })).modHost (fun h => { h with stage := some 3 })
      .next ((s4.setPhase 3).showReady)
    else .next s3

/-- FILL_LATE (R344): 60 ms into PHASE 0x2 the stack's fill is not complete; it continues. -/
def execFillLate (stack : Nat) (s : State) : Host.Outcome State Fault Refusal :=
  if s.phase ≠ 2 ∨ 8 ≤ stack ∨ s.regBit DV_STATE (32 + stack) ∨ s.regBit MEM_STATUS (16 + stack) ∨ s.free < s.power.phaseAt + 60000 * ticksPerUs
  then .next s
  else .next ((s.setRegBit MEM_STATUS (16 + stack) true).fault (0x100 + stack) 0x25 0)

/-- MUSTER_MARK (R50): 16 alignment periods into the run. -/
def execMusterMark (s : State) : Host.Outcome State Fault Refusal :=
  if s.phase = 3 ∧ s.power.markAt = none ∧ s.power.musterAt + 512 ≤ s.free
  then .next (s.modPower (fun w => { w with markAt := some s.free })) else .next s

/-- At its check the receive crossing of a trunk fails: its muster runs again from event 1, up to three times; a fourth failure is reported (R50; log
entry 139). -/
def State.crossingFails (s : State) (p : Nat) : State :=
  if !(s.port p).musterAt.any (fun t => decide (t + 80 * 32 = s.free)) then s
  else
    let s1 := s.modPort p (fun c => { c with musterAt := some s.free, musterFails := c.musterFails + 1 })
    if 4 ≤ (s1.port p).musterFails then s1.fault (43 + s.tileOf p) 0x02 0 else s1

/-- MUSTER_CHECK (R50): 64 alignment periods after the mark; islands that fail are run again, up to three times. When all have
passed, the retirements of the ledger are applied (R351) and PHASE becomes 0x4. -/
def execMusterCheck (failing : List Nat) (s : State) (crossings : List Nat := []) : Host.Outcome State Fault Refusal :=
  match s.power.markAt with
  | none => .next (crossings.foldl State.crossingFails s)
  | some t =>
    if s.phase ≠ 3 ∨ s.free < t + 2048 then .next (crossings.foldl State.crossingFails s)
    else
      let bad := s.power.musterTodo.filter (fun i => failing.contains i)
      if bad.isEmpty then .next (s.modPower (fun w => { w with markAt := none, musterTodo := [] })).applyRetirements.enterLinks
      else
        let runs := bad.foldl (fun m i => sparseSet 0 m i (sparseGet 0 m i + 1)) s.power.musterRuns
        let s1 := s.modPower (fun w => { w with musterRuns := runs, markAt := none, musterAt := s.free, musterTodo := bad })
        .next ((bad.filter (fun i => decide (4 ≤ sparseGet 0 runs i))).foldl (fun s i => s.fault i 0x02 0) s1)

/-- The module answers the steward (R22, R66, R442): with the auxiliary supply, once stage 1 of the boot has passed, or once the boot has stopped
at a failure (R444; log entry 157). -/
def State.mctpOn (s : State) : Bool := s.power.auxOn && (decide (1 ≤ s.host.passed) || s.host.stage.isNone)

/-- SET_COORD (R65, R66): in PHASE 0x0 to 0x3, with a coordinate below the axis sizes and reserved bits 0. Without the auxiliary supply the
management cores answer the steward nothing (R22, R34). -/
def execSetCoord (coord sizeX1 sizeY1 sizeZ1 : Nat) (s : State) : Host.Outcome State Fault Refusal :=
  if !s.mctpOn then .next s
  else if 3 < s.phase then .next (s.mctpReply 0x21 3 [])
  else if 2048 ≤ coord ∨ 16 ≤ sizeX1 ∨ 16 ≤ sizeY1 ∨ 8 ≤ sizeZ1 ∨ sizeX1 < coordAxis coord 0 ∨ sizeY1 < coordAxis coord 1 ∨
      sizeZ1 < coordAxis coord 2 then .next (s.mctpReply 0x21 2 [])
  else
    let s1 := (((s.raise DV_COORD_VALID).setFld DV_COORD_COORD coord).setFld DV_COORD_SIZE_X_M1 sizeX1).setFld DV_COORD_SIZE_Y_M1 sizeY1
    .next ((s1.setFld DV_COORD_SIZE_Z_M1 sizeZ1).refreshRoot.mctpReply 0x21 0 [])

/-- SET_ROOT (R38, R66): in PHASE 0x0 to 0x3. -/
def execSetRoot (coord ptpPort source : Nat) (s : State) : Host.Outcome State Fault Refusal :=
  if !s.mctpOn then .next s
  else if 3 < s.phase then .next (s.mctpReply 0x24 3 [])
  else if 2048 ≤ coord ∨ 256 ≤ ptpPort ∨ 2 ≤ source then .next (s.mctpReply 0x24 2 [])
  else
    let s1 := ((s.setFld BT_ROOT_ROOT_X (coordAxis coord 0)).setFld BT_ROOT_ROOT_Y (coordAxis coord 1)).setFld BT_ROOT_ROOT_Z (coordAxis coord 2)
    .next (((s1.setFld BT_ROOT_PTP_PORT ptpPort).setFld BT_ROOT_PTP_SOURCE source).refreshRoot.mctpReply 0x24 0 [])

/-- MCTP_UNKNOWN_COMMAND (R66). -/
def execMctpUnknownCommand (code : Nat) (s : State) : Host.Outcome State Fault Refusal :=
  .next (if s.mctpOn then s.mctpReply code 1 [] else s)

/-- AUX_SUPPLY_APPLIED (R442, R458): boot stage 0 starts. -/
def execAuxSupplyApplied (s : State) : Host.Outcome State Fault Refusal :=
  if s.power.auxOn then .next s
  else .next ((s.modPower (fun w => { w with auxOn := true })).modHost (fun h => { h with stage := some 0 })).showFlash

/-! ### Limits, clock, temperature (R461 to R465) -/

/-- CAP_MODE_WRITE (R461). -/
def execCapModeWrite (value : Nat) (s : State) : Host.Outcome State Fault Refusal := .next (s.writePlain PH_CAP value).showCap

/-- A limited block takes a step up or down (R462); log entry 38. -/
def State.powerStep (s : State) (b old new : Nat) : State :=
  if old = new then s
  else
    let s1 := (s.setFld (PH_BLOCK_STEP b) new).count PH_STEPS
    if b < 6 then s1.choice 3
    else (s1.modPower (fun w => { w with stackSteps := sparseSet 0 w.stackSteps (b - 6) new })).applyLevel (b - 6)

/-- POWER_MEASURE (R462, R471): the measurements, on the auxiliary island, and the block's average power against its limit. -/
def execPowerMeasure (block power pin iin vin : Nat) (s : State) : Host.Outcome State Fault Refusal :=
  if 22 ≤ block ∨ !s.power.auxOn then .next s
  else
    let s1 := (((s.setFld (PH_BLOCK_POWER block) power).setFld PH_INPUT_PIN pin).setFld PH_INPUT_IIN iin).seeInput vin 0
    if 14 ≤ block ∨ !s.power.switchClosed then .next s1
    else
      let limit := 10 * s1.fld (PH_BLOCK_LIMIT block)
      let k := s1.fld (PH_BLOCK_STEP block)
      let since := fun (x : State) (l : List (Nat × Nat)) => x.modPower (fun w => { w with lowSince := l })
      if limit < power then
        .next ((since s1 (sparseErase s1.power.lowSince block)).powerStep block k (min (k + 1) (if block < 6 then 4 else 2)))
      else if 10 * power < 9 * limit then
        match s1.power.lowSince.find? (fun e => e.1 == block) with
        | none => .next (since s1 (sparseInsert block s1.free s1.power.lowSince))
        | some (_, t) =>
          if t + 1000 * ticksPerUs ≤ s1.free then
            .next ((since s1 (sparseInsert block s1.free (sparseErase s1.power.lowSince block))).powerStep block k (k - 1))
          else .next s1
      else .next (since s1 (sparseErase s1.power.lowSince block))

/-- CLOCK_WRITE (R463): the rate is held; a reserved one is discarded (R15). -/
def execClockWrite (value : Nat) (s : State) : Host.Outcome State Fault Refusal :=
  let v := bitsOf value 2 0
  if v < 4 then .next s
  else .next (((s.setFld PH_CLOCK_AC_CYCLES v).raise PH_CLOCK_PEND).modPower (fun w => { w with clockHeld := some v }))

/-- A tick lies on an alignment-period boundary (R35). -/
def State.onBoundary (s : State) : Bool := (if s.bellSet then s.now else s.free) % 32 == 0

/-- CLOCK_CHANGE (R463): at a boundary with no launch running; thirty islands are re-mustered. -/
def execClockChange (s : State) : Host.Outcome State Fault Refusal :=
  match s.power.clockHeld with
  | none => .next s
  | some v =>
    if !s.onBoundary ∨ s.clusters.cores.any (fun c => c.launch.isSome) then .next s
    else
      let s1 := (s.setFld PH_CLOCK_AC_ACTIVE v).setFld PH_CLOCK_PEND 0
      .next ((List.range 30).foldl (fun s _ => s.choice 4) (s1.modPower (fun w => { w with clockHeld := none })))

/-- HUB_THERMAL_REPORT (R465): HUB_OVERTEMP at 110 °C, once in a rise (log entry 39); at 120 °C the switch opens. While it is open the
temperatures alone are reported: the islands have no supply (log entry 156). -/
def execHubThermalReport (inlet outlet hubMax island : Nat) (s : State) : Host.Outcome State Fault Refusal :=
  let t := toSigned 16 hubMax
  let s1 := ((s.setFld PH_THERMAL_INLET inlet).setFld PH_THERMAL_OUTLET outlet).setFld PH_THERMAL_HUB_MAX hubMax
  if !s.power.auxOn then .next s
  else if !s.power.switchClosed then .next s1
  else
    let s2 := if 440 ≤ t ∧ !s1.power.hubHot then s1.fault 0x301 0x3C island else s1
    let s3 := s2.modPower (fun w => { w with hubHot := decide (440 ≤ t) })
    .next (if 480 ≤ t then s3.cold.raise PH_INPUT_EVENT_HUB_HOT_OFF else s3)

end Sys2Proof.Machine
end

