-- ==== Sys2Proof/Machine/Tables.lean ====
section
/-! DEFINITION. The meanings of the table writes (R76, R93, R123, R134 to R139, R144, R156, R196, R234, R476): checked entries,
table windows, curfew lists. -/

namespace Sys2Proof.Machine

open Sys2Proof

/-! ### Checked entries (R76, R93, R123, R139, R156) -/

/-- RANK_ENTRY_WRITE (R76): every valid party that covers the entry must reach no port above 63 through it. -/
def execRankEntryWrite (n value : Nat) (s : State) : Host.Outcome State Fault Refusal :=
  if 32768 ≤ n then .next s
  else
    let port := bitsOf (s.written (SW_RANK n) value).toNat 7 0
    let bad := (List.range 4096).any (fun p =>
      s.flag (SW_PARTY_VALID p) && decide (s.fld (SW_PARTY_BASE p) ≤ n) &&
      decide (n < s.fld (SW_PARTY_BASE p) + s.fld (SW_PARTY_GROUPS p)) &&
      decide (64 < port + 2 ^ s.fld (SW_PARTY_GROUP_SHIFT p)))
    if bad then .next (s.raise SW_TABLE_ERR_RANK_RANGE) else .next ((s.keepEntry (SW_RANK n)).writePlain (SW_RANK n) value)

/-- PARTY_ENTRY_WRITE (R76, R78): discarded when BASE + GROUPS exceeds 32,768. -/
def execPartyEntryWrite (p value : Nat) (s : State) : Host.Outcome State Fault Refusal :=
  if 4096 ≤ p then .next s
  else
    let w := (s.written (SW_PARTY p) value).toNat
    if 32768 < bitsOf w 41 27 + bitsOf w 57 42 then .next s else .next ((s.keepEntry (SW_PARTY p)).writePlain (SW_PARTY p) value)

/-- STREAM_ENTRY_WRITE (R93): the counts, HELD and BROKEN are cleared; refused while HELD is 1. -/
def execStreamEntryWrite (n value : Nat) (s : State) : Host.Outcome State Fault Refusal :=
  if 65536 ≤ n then .next s
  else if s.flag (SW_STREAM_HELD n) then .next (s.raise SW_TABLE_ERR_STREAM_BUSY)
  else
    let s1 := (s.writePlain (SW_STREAM n) value).setFld (SW_STREAM_BROKEN n) 0
    .next ((s1.setFld (SW_STREAM_COUNT1 n) 0).setFld (SW_STREAM_COUNT0 n) 0)

/-- OWNER_MIN_WRITE (R123, R473): the whole increase is reserved at once. A number that stands for no class has no register (R28, R150). -/
def execOwnerMinWrite (n value : Nat) (s : State) : Host.Outcome State Fault Refusal :=
  if 4096 ≤ n ∨ 12 ≤ n % 16 then .next s
  else
    let old := s.ownerMin n
    let new := bitsOf (s.written (SW_OWNER n) value).toNat 19 0
    let sum := s.sw.resvSum - old + new
    if 524288 < sum then .next (s.raise SW_POOL_ERR_MIN_SUM)
    else
      let c := s.ownerClaimed n
      let s1 := (s.writePlain (SW_OWNER n) value).modSw (fun w => { w with
        resvSum := sum, sharedFree := w.sharedFree + (max old c : Nat) - (max new c : Nat) })
      .next (((s1.setFld SW_POOL_STATUS_RESV_SUM sum).showPool).retryAgents)

/-- SACRIFICE_THRESHOLD_WRITE (R139): a write that breaks T1 > T2 > T3 > T4 is discarded. -/
def execSacrificeThresholdWrite (value : Nat) (s : State) : Host.Outcome State Fault Refusal :=
  let w := (s.written SW_SACRIFICE value).toNat
  if bitsOf w 55 42 < bitsOf w 41 28 ∧ bitsOf w 41 28 < bitsOf w 27 14 ∧ bitsOf w 27 14 < bitsOf w 13 0
  then .next (s.writePlain SW_SACRIFICE value) else .next (s.raise SW_POOL_ERR_ORDER)

/-- TALLY_POOL_MIN_WRITE (R156, R473). -/
def execTallyPoolMinWrite (p value : Nat) (s : State) : Host.Outcome State Fault Refusal :=
  if 4096 ≤ p then .next s
  else
    let old := s.tpMin p
    let new := bitsOf (s.written (TL_POOL p) value).toNat 19 0
    let sum := s.fld TL_STATUS_RESV_SUM - old + new
    if 6144 < sum then .next (s.raise TL_ERR_MIN_SUM)
    else
      let c := s.tpClaimed p
      let s1 := s.writePlain (TL_POOL p) value
      let free := s1.tally.sharedFree + (max old c : Nat) - (max new c : Nat)
      .next (((s1.modTally (fun t => { t with sharedFree := free })).setFld TL_STATUS_RESV_SUM sum).setFld TL_STATUS_SHARED_FREE free.toNat)

/-! ### Table windows (R144, R196, R234, R476) -/

/-- An access starts: the control word is held and DONE reads 0 until it ends. -/
def State.startAccess (s : State) (window ctrl done : Nat) (off value : Nat) : State :=
  ((s.writePlain off value).setReg done 0).modSw (fun w => { w with access := w.access ++ [⟨window, ctrl⟩] })

/-- A write of SW_TBL_CTRL (R144, R476): discarded while an access runs; a reserved TABLE or an INDEX out of range starts none
and changes nothing. -/
def State.swTable (s : State) (value : Nat) (write : Bool) : State :=
  let table := bitsOf value 63 60
  let v := putBitOf value 59 write
  if !s.flag SW_TBL_STATUS_DONE ∨ 2 ≤ table ∨ (table = 0 ∧ 1024 < bitsOf value 13 0) then s
  else s.startAccess 0 v SW_TBL_STATUS SW_TBL_CTRL v

/-- SW_TABLE_READ (R476). -/
def execSwTableRead (value : Nat) (s : State) : Host.Outcome State Fault Refusal := .next (s.swTable value false)

/-- SW_TABLE_WRITE (R476). -/
def execSwTableWrite (value : Nat) (s : State) : Host.Outcome State Fault Refusal := .next (s.swTable value true)

/-- TL_TABLE_READ (R196, R476): an INDEX above 6,143 starts no access. -/
def execTlTableRead (value : Nat) (s : State) : Host.Outcome State Fault Refusal :=
  if !s.flag TL_TBL_STATUS_DONE ∨ 6143 < bitsOf value 12 0 then .next s
  else .next (s.startAccess 1 value TL_TBL_STATUS TL_TBL_CTRL value)

/-- ST_TABLE_READ (R234, R476). -/
def execStTableRead (value : Nat) (s : State) : Host.Outcome State Fault Refusal :=
  if !s.flag ST_TBL_STATUS_DONE then .next s
  else .next (s.startAccess 2 value ST_TBL_STATUS ST_TBL_CTRL value)

/-- Place of a curfew bank's word (R134). -/
def curfewKey (p bank i : Nat) : Nat := 2048 * (2 * p + bank) + i

/-- A curfew error: its bit, and the port (R144). -/
def State.curfewErr (s : State) (f : Fld) (p : Nat) : State := (s.raise f).setFld SW_CURFEW_ERR_PORT p

/-- Fields of a curfew bank's word (R134): the rest is reserved. -/
def curfewMask (i : Nat) : Nat := if i = 1024 then (2 ^ 32 - 1) * 2 ^ 32 + 1023 * 2 ^ 12 + 2047 else (2 ^ 32 - 1) * 2 ^ 8 + 63

/-- A curfew bank's word after a write through the window: fields that are written with a reserved value keep theirs (R134). DESIGN CHOICE: R15's
rule for the fields of a register is taken to hold for INTERVAL, CYCLE and LENGTH (log entry 138). -/
def curfewStore (i : Nat) (old new : Word) : Word :=
  let keep := fun (w : Word) (hi lo : Nat) (ok : Bool) => if ok then w else putFld w hi lo (bitsOf old.toNat hi lo)
  let v := new &&& BitVec.ofNat 64 (curfewMask i)
  if i = 1024 then
    keep (keep v 63 32 (bitsOf v.toNat 63 32 != 0)) 10 0 (decide (1 ≤ bitsOf v.toNat 10 0) && decide (bitsOf v.toNat 10 0 ≤ 1024))
  else keep v 39 8 (bitsOf v.toNat 39 8 != 0)

/-- A switch table access ends (R134, R137, R144, R152). -/
def State.endSwAccess (s : State) (ctrl : Nat) : State :=
  let (write, p, bank, i) := (ctrl.testBit 59, bitsOf ctrl 47 40, bitsOf ctrl 36 36, bitsOf ctrl 13 0)
  let d0 := s.reg (SW_TBL_DATA 0)
  let d1 := s.reg (SW_TBL_DATA 1)
  if bitsOf ctrl 63 60 = 0 then
    if write then
      let shadow := bank != s.fld (SW_CURFEW_CTL_ACTIVE_BANK p)
      if (if shadow then s.curfewPending p else s.flag (SW_CURFEW_CTL_IN_FORCE p)) then s.curfewErr SW_CURFEW_ERR_BUSY p
      else s.modSw (fun w => { w with
        curfew := sparseSet 0 w.curfew (curfewKey p bank i) (curfewStore i (sparseGet 0 w.curfew (curfewKey p bank i)) d0) })
    else s.setReg (SW_TBL_DATA 0) (sparseGet 0 s.sw.curfew (curfewKey p bank i))
  else if write then
    s.modSw (fun w => { w with mac := sparseSet 0 (sparseSet 0 w.mac (2 * i) (d0 &&& 0x8FFFFFFFFFFFFFFF)) (2 * i + 1) (d1 &&& 0x80000000000000FF) })
  else (s.setReg (SW_TBL_DATA 0) (sparseGet 0 s.sw.mac (2 * i))).setReg (SW_TBL_DATA 1) (sparseGet 0 s.sw.mac (2 * i + 1))

/-- A tally context read into the data words (R196): LIMIT and OLDEST count from the round's first chunk. -/
def State.endTlAccess (s : State) (i : Nat) : State :=
  match s.ctxAt? i with
  | none => (s.setReg TL_TBL_DATA0 0).setReg TL_TBL_DATA1 0
  | some c =>
    let base := c.round * c.chunks
    (s.setReg TL_TBL_DATA0 (placed 1 63 63 ||| placed c.party 62 51 ||| placed c.id 50 39 ||| placed c.op 38 35 |||
      placed c.coll 34 32 ||| placed c.round 31 16)).setReg TL_TBL_DATA1
      (placed c.frames 63 53 ||| placed (min c.chunks (c.limit - base)) 41 21 ||| placed (c.oldest - base) 20 0)

/-- The words of a stay entry (R200). -/
def stayWords (e : Stay) : List Word :=
  [placed e.state 63 60 ||| placed e.party 59 48 ||| placed e.gen 47 34 |||
     (if e.state = 4 then placed e.loc 28 0 else placed e.depth 33 32 ||| placed e.root 31 10),
   placed e.tokens 63 40 ||| placed e.rooms 39 16,
   placed e.booked 63 40 ||| placed e.twinCoord 39 29 ||| placed (if e.twinValid then 1 else 0) 28 28 ||| placed e.twinIndex 27 10,
   placed e.lastUse 63 48 ||| placed e.ownerRank 47 31 ||| placed e.inflight 30 25 ||| placed e.priority 24 23]

/-- A stay entry read into the data words (R234). -/
def State.endStAccess (s : State) (i : Nat) : State :=
  (stayWords (s.stay i)).zipIdx.foldl (fun s w => s.setReg (ST_TBL_DATA w.2) w.1) s

/-- TABLE_ACCESS_DONE (R476): the access of a window ends and DONE returns to 1; the access takes effect then (log entry 22). -/
def execTableAccessDone (window : Nat) (s : State) : Host.Outcome State Fault Refusal :=
  match takeFirst (fun (a : TableAccess) => a.window == window) s.sw.access with
  | none => .next s
  | some (a, rest) =>
    let s1 := s.modSw (fun w => { w with access := rest })
    if window = 0 then .next ((s1.endSwAccess a.ctrl).setReg SW_TBL_STATUS 1)
    else if window = 1 then .next ((s1.endTlAccess (bitsOf a.ctrl 12 0)).setReg TL_TBL_STATUS 1)
    else .next ((s1.endStAccess (bitsOf a.ctrl 17 0)).setReg ST_TBL_STATUS 1)

/-! ### Curfew switchovers (R134 to R137) -/

/-- The shadow bank's parameter word holds a reserved LENGTH or CYCLE (R136). -/
def State.shadowBad (s : State) (p : Nat) : Bool :=
  let b := 1 - s.fld (SW_CURFEW_CTL_ACTIVE_BANK p)
  s.curfewLength p b == 0 || decide (1024 < s.curfewLength p b) || s.curfewCycle p b == 0

/-- A switchover is armed, or refused (R136, R137). DESIGN CHOICE: a refused write leaves SWITCH_TICK as it was (log entry 172). -/
def State.armCurfew (s : State) (port tick : Nat) : State :=
  if 256 ≤ port then s
  else if s.curfewPending port then s.curfewErr SW_CURFEW_ERR_BUSY port
  else if s.tickAhead tick ∧ !s.shadowBad port then
    (s.setReg (SW_CURFEW_TICK port) (BitVec.ofNat 64 tick)).raise (SW_CURFEW_CTL_PENDING port)
  else
    let s1 := if s.tickAhead tick then s else s.curfewErr SW_CURFEW_ERR_REFUSED port
    if s.shadowBad port then s1.curfewErr SW_CURFEW_ERR_INVALID port else s1

/-- CURFEW_SWITCH_ARM (R136, R137). -/
def execCurfewSwitchArm (port tick : Nat) (s : State) : Host.Outcome State Fault Refusal := .next (s.armCurfew port tick)

/-- A pending switchover is cancelled, or the cancel refused (R137). -/
def State.cancelCurfew (s : State) (port : Nat) : State :=
  if 256 ≤ port ∨ !s.curfewPending port then s
  else if s.tickAhead (s.fld (SW_CURFEW_TICK_SWITCH_TICK port)) then s.setFld (SW_CURFEW_CTL_PENDING port) 0
  else s.curfewErr SW_CURFEW_ERR_REFUSED port

/-- CURFEW_CANCEL (R137). -/
def execCurfewCancel (port : Nat) (s : State) : Host.Outcome State Fault Refusal := .next (s.cancelCurfew port)

/-- The gates of the entry that CURFEW_RUN shows, for what shapers gathered before an entry ends. -/
def State.gatesShown (s : State) (p c : Nat) : Bool :=
  !s.inForce p || (s.curfewWord p (s.fld (SW_CURFEW_CTL_ACTIVE_BANK p)) (s.fld (SW_CURFEW_RUN_ENTRY p))).testBit c

/-- The shadow bank comes into force at its tick with entry 0 (R136). -/
def State.switchover (s : State) (p : Nat) : State :=
  let tick := s.fld (SW_CURFEW_TICK_SWITCH_TICK p)
  let s1 := s.touchShapersWith p (s.gatesShown p)
  let s2 := ((s1.setFld (SW_CURFEW_CTL_ACTIVE_BANK p) (1 - s1.fld (SW_CURFEW_CTL_ACTIVE_BANK p))).raise (SW_CURFEW_CTL_IN_FORCE p)).setFld
    (SW_CURFEW_CTL_PENDING p) 0
  (s2.setReg (SW_CURFEW_RUN p) 0).modSw (fun w => { w with curfewStart := sparseSet 0 w.curfewStart p tick })

/-- A switchover that is due (R53, R136): at the first edge of the switch clock at or after its tick; one that a forced step skipped is a late
launch (R46). -/
def State.switchDue (s : State) (port : Nat) : State :=
  let t := s.fld (SW_CURFEW_TICK_SWITCH_TICK port)
  if port < 256 ∧ s.curfewPending port ∧ s.bellSet ∧ (scEdge t ≤ s.now ∨ s.skippedTick t) then
    (if s.skippedTick t then s.choice 5 else s).switchover port
  else s

/-- CURFEW_SWITCHOVER. -/
def execCurfewSwitchover (port : Nat) (s : State) : Host.Outcome State Fault Refusal := .next (s.switchDue port)

/-- CURFEW_ENTRY_ADVANCE (R134, R148): the entry of the present tick runs, and CYCLES counts the cycles completed. -/
def execCurfewEntryAdvance (port : Nat) (s : State) : Host.Outcome State Fault Refusal :=
  if 256 ≤ port ∨ !s.inForce port then .next s
  else
    let bank := s.fld (SW_CURFEW_CTL_ACTIVE_BANK port)
    let start := sparseGet 0 s.sw.curfewStart port
    let s1 := s.touchShapersWith port (s.gatesShown port)
    .next ((s1.setFld (SW_CURFEW_RUN_ENTRY port) (s.entryIndex port bank start s.now)).setFld (SW_CURFEW_RUN_CYCLES port)
      ((s.now - start) / s.curfewCycle port bank))

end Sys2Proof.Machine
end

