-- ==== Sys2Proof/Machine/Agents.lean ====
section
/-! DEFINITION. What every agent of the module does with a frame handed to it: taking it out of its queue, the source check of
R158, and letting frames that waited for cells go on. -/

namespace Sys2Proof.Machine

open Sys2Proof

/-- The port that a frame came in on (R158): the one its descriptor names while it waits in an agent's queue; for one that waits in none, the port that
the ingress module wrote into its header (log entry 3). -/
def State.arrival (s : State) (f : Frame) : Option Nat :=
  match s.sw.agentQ.find? (fun i => i.frame == f) with
  | some i => some i.inPort
  | none => if f.srcCoord = s.coord then some f.srcPort else none

/-- The source check of R158: a frame from an endpoint port must translate to this module and that port; one from a trunk is accepted as sent. -/
def State.trusted (s : State) (f : Frame) : Bool :=
  match s.arrival f with
  | some p => decide (64 ≤ p) || s.speaks f p
  | none => true

/-- A frame handed to an agent is taken; one that fails the source check is discarded, counted and reported (R77, R158). -/
def State.serve (s : State) (f : Frame) (act : State → State) : Host.Outcome State Fault Refusal :=
  let s1 := s.takeAgent f
  .next ((if s.trusted f then act s1 else (s1.count SW_DROP_SPOOF).fault 0x040 0x10 f.srcPort).retryAgents)

/-- A frame of a kind that carries no party's authority (SYNC to SNAP kinds) is taken without the check. -/
def State.serveAny (s : State) (f : Frame) (act : State → State) : Host.Outcome State Fault Refusal :=
  .next ((act (s.takeAgent f)).retryAgents)

/-- A µs count of a register as ticks. -/
def State.usOf (s : State) (f : Fld) : Nat := s.fld f * ticksPerUs

end Sys2Proof.Machine
end

