-- ==== Sys2Proof/Machine/Tally.lean ====
section
/-! DEFINITION. The meanings of the tally's commands (R153 to R195): claims and releases, contributions, steps, results, credit,
resends, failures, dispatch. -/

namespace Sys2Proof.Machine

open Sys2Proof

/-- The sender of a frame is the one a slot names (R161). -/
def State.fromSlot (s : State) (t : TSlot) (f : Frame) : Bool :=
  if t.isModule then f.srcCoord == t.coord && decide (64 ≤ f.srcPort) else f.srcCoord == s.coord && f.srcPort == t.port

/-- A frame comes from a context's parent. -/
def TCtx.fromParent (c : TCtx) (f : Frame) : Bool := !c.root && f.srcCoord == c.parent && tSlot f == c.parentSlot && f.srcPort == 0xF1

/-- A frame for no context (R164). -/
def State.noTally (s : State) : State := s.count (TL_CNT 3)

/-- A frame that matches no slot (R157, R167). -/
def State.dropSlot (s : State) : State := s.count (TL_CNT 4)

/-- A frame handed to the tally agent, which takes none while PHASE is 0x6 (R412). -/
def State.tallyServe (s : State) (f : Frame) (act : State → State) : Host.Outcome State Fault Refusal :=
  if s.phase = 6 then .next s else s.serve f act

/-- This module contributes, or has contributed, to the tally a frame names as a contributing agent (R168). -/
def State.contributes (s : State) (f : Frame) : Bool :=
  s.tally.kept.any (fun k => k.party == f.party && k.id == tId f) ||
  s.tally.limits.any (fun l => l.party == f.party && l.id == tId f)

/-! ### Claims (R160 to R163) -/

/-- A slot entry (R161). -/
def slotEntry (p : List Byte) (i : Nat) : TSlot :=
  let a := leAt p (64 + 16 * i) 8
  let b := leAt p (72 + 16 * i) 8
  { port := bitsOf a 7 0, coord := bitsOf a 18 8, isModule := a.testBit 19, contrib := a.testBit 20, receives := a.testBit 21,
    rank := bitsOf a 38 22, child := a.testBit 39, first := bitsOf b 11 0, last := bitsOf b 23 12 }

/-- The descriptor of a claim (R160). -/
def claimCtx (party : Nat) (p : List Byte) : TCtx :=
  let form := byteAt p 6
  let parent := leAt p 20 4
  { idx := 0, party := party, id := bitsOf (leAt p 0 2) 11 0, op := byteAt p 2, coll := byteAt p 3, inFmt := byteAt p 4,
    outFmt := byteAt p 5, exact := form.testBit 0, normalise := form.testBit 1, timed := form.testBit 2,
    window := byteAt p 7 % 128 + 1, floor := toSigned 10 (leAt p 8 2), headDim := 64 * 2 ^ byteAt p 12, rounds := leAt p 14 2,
    chunks := bitsOf (leAt p 16 4) 20 0, parent := bitsOf parent 10 0, parentSlot := bitsOf parent 17 11,
    root := parent.testBit 18, startTick := leAt p 24 8, stepTicks := leAt p 32 4, cap := bitsOf (leAt p 36 4) 20 0,
    members := leAt p 40 2, rootMember := leAt p 42 2, rankBase := bitsOf (leAt p 44 4) 16 0,
    slots := (List.range (leAt p 10 2)).map (slotEntry p), frames := 0, round := 0, oldest := 0, win := [],
    parentLimit := byteAt p 7 % 128 + 1, credited := [], doneTicks := [], firsts := [], stats := [], dests := [],
    failedRounds := [], store := [], creditDue := false, asks := 0, heardAt := none }

/-- Whether an operator is permitted for its formats (R160, R169). -/
def opFormats (op inF outF : Nat) : Bool :=
  let same := inF == outF
  match op with
  | 0 => decide (inF ≤ 6) && [0, 1, 2, 5, 6].contains outF
  | 1 => same && [0, 1, 2, 5, 6].contains inF
  | 2 => same && [0, 1, 2, 5, 6].contains inF
  | 8 => inF == 0 && outF == 0
  | 9 => same && decide (inF ≤ 6)
  | 10 => same && [0, 1, 2, 5, 6, 7].contains inF
  | n => same && decide (3 ≤ n ∧ n ≤ 7) && [5, 6].contains inF

/-- Whether an operator is permitted for its collective (R185). -/
def opColl (op coll : Nat) : Bool :=
  match coll with
  | 0 => decide (op ≤ 8)
  | 1 => decide (op ≤ 7)
  | 2 => op == 9
  | 3 => op == 9
  | 4 => op == 10
  | _ => false

/-- Two member ranges overlap. -/
def rangesMeet (a b : TSlot) : Bool := decide (a.first ≤ b.last ∧ b.first ≤ a.last)

/-- Two of the CONTRIB slots serve one member. -/
def anyMeet : List TSlot → Bool
  | [] => false
  | t :: ts => ts.any (rangesMeet t) || anyMeet ts

/-- Reserved bits and values of a descriptor and its slots are at rest (R160, R161). DESIGN CHOICE: byte 13, which the table gives no row, is taken as
reserved (log entry 168). -/
def claimReserved (p : List Byte) (slots : Nat) : Bool :=
  bitsOf (leAt p 0 2) 15 12 == 0 && bitsOf (byteAt p 6) 7 3 == 0 && bitsOf (byteAt p 7) 7 7 == 0 && bitsOf (leAt p 8 2) 15 10 == 0 &&
  decide (1 ≤ slots ∧ slots ≤ 128) && decide (byteAt p 12 ≤ 2) && byteAt p 13 == 0 && leAt p 14 2 != 0 &&
  bitsOf (leAt p 16 4) 31 21 == 0 && bitsOf (leAt p 16 4) 20 0 != 0 && bitsOf (leAt p 20 4) 31 19 == 0 &&
  bitsOf (leAt p 36 4) 31 21 == 0 && decide (1 ≤ leAt p 40 2 ∧ leAt p 40 2 ≤ 4096) && bitsOf (leAt p 44 4) 31 17 == 0 &&
  leAt p 48 16 == 0 &&
  (List.range slots).all (fun i => bitsOf (leAt p (64 + 16 * i) 8) 63 40 == 0 && bitsOf (leAt p (72 + 16 * i) 8) 63 24 == 0)

/-- FRAMES of a claim (R162). -/
def TCtx.claimFrames (c : TCtx) : Nat :=
  if c.op = 8 then c.window * ceilDiv (c.slots.filter (·.contrib)).length 3
  else if c.op = 10 then ceilDiv c.members 1024 else c.window

/-- A claim passes R162. -/
def State.claimValid (s : State) (c : TCtx) (p : List Byte) : Bool :=
  decide (64 ≤ p.length) && p.length == 64 + 16 * leAt p 10 2 && claimReserved p (leAt p 10 2) &&
  opFormats c.op c.inFmt c.outFmt && opColl c.op c.coll && !(c.timed && (c.stepTicks == 0 || !s.bellSet)) &&
  (s.ctx? c.party c.id).isNone && decide (c.claimFrames ≤ 1024) && c.slots.any (·.contrib) &&
  !((c.coll == 1 || c.coll == 2) && c.chunks % c.members != 0) && c.slots.all (fun t => !t.child || t.isModule) &&
  !((c.coll == 2 || c.coll == 3) && anyMeet (c.slots.filter (·.contrib)))

/-- A reply of the tally agent. -/
def State.tallyReply (s : State) (f : Frame) (kind : Nat) (p : List Byte) : State := s.agentSend 1 (replyTo f kind p)

/-- CLAIM (R160 to R163). DESIGN CHOICE: a granted claim gets the lowest free context index (log entry 169). -/
def execClaim (f : Frame) (s : State) : Host.Outcome State Fault Refusal :=
  s.tallyServe f (fun s =>
    let c := claimCtx f.party f.payload
    if s.halted ∨ !s.claimValid c f.payload then (s.count (TL_CNT 2)).tallyReply f 0x0F [1]
    else
      let k := c.claimFrames
      if s.tpOk c.party k then
        let idx := ((List.range 6144).find? (fun i => (s.ctxAt? i).isNone)).getD 0
        let (store, s) := s.tpTake k
        let c0 := { c with idx := idx, frames := k, store := store }
        let c1 := if c.op = 10 then c0 else
          { c0 with win := (List.range c0.limit).map (fun g => blankChunk g s.free) }
        let s1 := s.modTally (fun t => { t with ctxs := t.ctxs ++ [c1] })
        let s2 := (s1.tpMove c.party (s1.tpClaimed c.party + k)).setFld TL_STATUS_CTX_USED (s1.fld TL_STATUS_CTX_USED + 1)
        let s3 := (s2.setFld (TL_POOL_STAT_CONTEXTS c.party) (s2.fld (TL_POOL_STAT_CONTEXTS c.party) + 1)).count (TL_CNT 0)
        s3.tallyReply f 0x48 (natLE 2 c.id ++ natLE 2 k ++ natLE 2 idx)
      else
        (s.count (TL_CNT 1)).tallyReply f 0x49 (natLE 2 c.id ++ natLE 2 k ++ natLE 2 (s.tpClaimed c.party) ++
          natLE 2 s.tally.sharedFree.toNat ++ natLE 2 (s.tpLimit c.party)))

/-- RELEASE (R165). -/
def execRelease (f : Frame) (s : State) : Host.Outcome State Fault Refusal :=
  s.tallyServe f (fun s =>
    match s.ctx? f.party (bitsOf (leAt f.payload 0 2) 11 0) with
    | none => s.tallyReply f 0x0F [1]
    | some c =>
      if f.payload.length ≠ 8 ∨ bitsOf (leAt f.payload 0 2) 15 12 ≠ 0 ∨ leAt f.payload 2 6 ≠ 0 then s.tallyReply f 0x0F [1]
      else ((s.sendComplete c c.round 3).endCtx c).tallyReply f 0x4A (natLE 2 c.id ++ natLE 2 c.frames ++ zeroBytes 4))

/-- TALLY_UNLISTED_KIND (R157): kinds 0x40 to 0x5F that the tally agent does not consume. -/
def execTallyUnlistedKind (f : Frame) (s : State) : Host.Outcome State Fault Refusal :=
  s.tallyServe f (fun s =>
    if decide (0x40 ≤ f.kind ∧ f.kind ≤ 0x5F) && !([0x40, 0x41, 0x50, 0x51, 0x52, 0x53, 0x54, 0x55, 0x57].contains f.kind)
    then s.dropSlot else s)

/-! ### Contributions (R166 to R176) -/

/-- A contribution's part is taken: the arrival map, the first of its round, and the chunk's completion (R167, R182, R191). -/
def State.takePart (s : State) (c : TCtx) (k : TChunk) (i : Nat) (t : TSlot) (part : Nat) (p : List Byte) : State :=
  let k1 := c.apply k i t part p
  let r := k.g / c.chunks
  let c1 := if c.firsts.any (fun x => x.1 == r) then c else { c with firsts := sparseInsert r s.free c.firsts }
  if c1.complete k1 then
    s.putCtx { c1.putChunk { k1 with doneAt := some (s.free, s.now) } with doneTicks := c1.doneTicks ++ [(k.g, s.free)] }
  else s.putCtx (c1.putChunk k1)

/-- OPERAND (R167, R176). -/
def execOperand (f : Frame) (s : State) : Host.Outcome State Fault Refusal :=
  s.tallyServe f (fun s =>
    match s.ctxOf f with
    | none => s.noTally
    | some c => match c.slot? (tSlot f) with
      | none => s.dropSlot
      | some t =>
        let g := c.gOf f
        if c.op = 10 ∨ c.chunks ≤ tChunk f ∨ !c.expects t g ∨ !s.fromSlot t f ∨ !(c.parts t).contains (tPart f, f.payload.length)
        then s.dropSlot
        else if min (sparseGet c.window c.credited (tSlot f)) (c.rounds * c.chunks) ≤ g ∨ c.failedRounds.contains (g / c.chunks)
        then s.count (TL_CNT 5)
        else match c.chunk? g with
          | none => s.count (TL_CNT 6)
          | some k =>
            if k.taken.contains (tSlot f, tPart f) then s.count (TL_CNT 6)
            else s.takePart c k (tSlot f) t (tPart f) f.payload)

/-! ### Steps and results (R182 to R184) -/

/-- The partial of a chunk sent to the parent (R176, R183). -/
def State.sendPartial (s : State) (c : TCtx) (k : TChunk) : State :=
  (c.partial_ k).foldl (fun s x => s.toParent c 0x50 k.g x.1 x.2) s

/-- The step tick of a chunk (R182). -/
def TCtx.stepTick (c : TCtx) (g : Nat) : Nat := c.startTick + g * c.stepTicks

/-- Whether a TIMED step is late (R46, R54, R182): its contributions were complete after its tick, a stopover covered the tick, or a forced step
skipped it. -/
def State.stepLate (s : State) (c : TCtx) (k : TChunk) : Bool :=
  let t := c.stepTick k.g
  c.timed && (s.skippedTick t || decide (t < (k.doneAt.getD (0, 0)).2) ||
    (decide ((s.reg PH_STOP_START).toNat ≤ t) && decide (t < (s.reg PH_STOP_END).toNat)))

/-- A complete chunk's step fires, late or not (R182, R183). -/
def State.fireStep (s : State) (c : TCtx) (k : TChunk) (late : Bool) : State :=
  let c0 := if late then c.modStat (k.g / c.chunks) (fun t => { t with late := t.late + 1 }) else c
  let s0 := if late then (s.choice 5).count (TL_CNT 11) else s
  if c.root then
    let k1 := { k with stepped := true, result := some (c.rootResult k) }
    ((s0.putCtx (c0.putChunk k1)).distribute c.idx k.g).retryAgents
  else
    let s1 := s0.putCtx (c0.putChunk { k with stepped := true })
    if k.g < c.parentLimit then (s1.sendPartial c0 k).retryAgents else s1

/-- A chunk's step may fire (R53, R182): it is complete, and where it is TIMED the first edge of the switch clock at or after its tick has come, or
a forced step has skipped the tick; none fires in PHASE 0x6. -/
def State.stepDue (s : State) (c : TCtx) (k : TChunk) : Bool :=
  c.complete k && !k.stepped && s.phase != 6 &&
    (!c.timed || (s.bellSet && (decide (scEdge (c.stepTick k.g) ≤ s.now) || s.skippedTick (c.stepTick k.g))))

/-- The step of a context's chunk, if it may fire (R182, R183). -/
def State.tallyStep (s : State) (ctx g : Nat) : State :=
  match s.ctxAt? ctx with
  | none => s
  | some c => match c.chunk? g with
    | none => s
    | some k => if s.stepDue c k then s.fireStep c k (s.stepLate c k) else s

/-- TALLY_STEP. -/
def execTallyStep (ctx g : Nat) (s : State) : Host.Outcome State Fault Refusal := .next (s.tallyStep ctx g)

/-- Bytes of a result (R169, R178, R183). -/
def TCtx.resultLength (c : TCtx) : Nat :=
  if c.op = 8 then 512 / c.headDim * (8 + 4 * c.headDim)
  else [2048, 1024, 1024, 528, 528, 2048, 4096].getD c.outFmt 0

/-- The ACK of a result (R184, R190). -/
def State.ackResult (s : State) (c : TCtx) (g : Nat) (bad : Bool) : State := s.toParent c 0x52 g 0 [if bad then 1 else 0]

/-- RESULT at a child tally (R183, R190). -/
def execResult (f : Frame) (sealOk headerOk : Bool) (s : State) : Host.Outcome State Fault Refusal :=
  s.tallyServe f (fun s =>
    match s.ctxOf f with
    | none => s.noTally
    | some c =>
      let g := c.gOf f
      if !c.fromParent f ∨ c.chunks ≤ tChunk f ∨ c.failedRounds.contains (g / c.chunks) then s
      else if !sealOk then (if headerOk then s.ackResult c g true else s)
      else if f.payload.length ≠ c.resultLength then s
      else match c.chunk? g with
        | none => if g < c.oldest then s.ackResult c g false
            else if g < c.limit then s.ackResult c g false else s
        | some k =>
          let s1 := s.ackResult c g false
          if k.result.isSome then s1
          else (s1.putCtx (c.putChunk { k with result := some (f.payload, f.tag % 64) })).distribute c.idx g)

/-- A result is sent again to a slot, or the slot is shown missed (R190, R195). -/
def State.resendResult (s : State) (c : TCtx) (k : TChunk) (r : TRecv) (t : TSlot) : State :=
  if s.fld TL_CTRL_RESEND_MAX ≤ r.resends ∨ (!t.isModule ∧ s.regBit SW_FENCE t.port) then s.recvDone c k r.slot true
  else
    let k1 := { k with recvs := k.recvs.map (fun x => if x.slot = r.slot then { x with resends := x.resends + 1, sentAt := s.free } else x) }
    let c1 := (c.putChunk k1).modStat (k.g / c.chunks) (fun x => { x with resent := x.resent + 1 })
    ((s.putCtx c1).count (TL_CNT 8)).sendResult c1 k1 r.slot t

/-- ACK (R184, R190). -/
def execAck (f : Frame) (s : State) : Host.Outcome State Fault Refusal :=
  s.tallyServe f (fun s =>
    match s.ctxOf f with
    | none => s.noTally
    | some c => match c.slot? (tSlot f), c.chunk? (c.gOf f) with
      | some t, some k => match k.recvs.find? (fun r => r.slot == tSlot f && !r.done) with
        | none => s
        | some r =>
          if !s.fromSlot t f ∨ f.payload.isEmpty ∨ c.chunks ≤ tChunk f then s
          else if byteAt f.payload 0 = 0 then s.recvDone c k r.slot false
          else s.resendResult c k r t
      | _, _ => s)

/-- RESULT_ACK_TIMEOUT (R190): ACK_WAIT after a send with no ACK. -/
def execResultAckTimeout (ctx g slot : Nat) (s : State) : Host.Outcome State Fault Refusal :=
  match s.ctxAt? ctx with
  | none => .next s
  | some c => match c.slot? slot, c.chunk? g with
    | some t, some k => match k.recvs.find? (fun r => r.slot == slot && !r.done) with
      | none => .next s
      | some r => if r.sentAt + s.usOf TL_CTRL_ACK_WAIT ≤ s.free then .next ((s.resendResult c k r t).retryAgents) else .next s
    | _, _ => .next s

/-! ### Credit and resends (R166, R168, R191) -/

/-- A contribution of a contributing agent lies before a point (R166): rounds are known mod 256. -/
def beforePoint (round chunk pRound pChunk : Nat) : Bool :=
  let d := (pRound % 256 + 256 - round % 256) % 256
  (decide (0 < d) && decide (d < 128)) || (d == 0 && decide (chunk < pChunk))

/-- A limit is for the tally and slot of a kept contribution. -/
def SendLimit.serves (l : SendLimit) (k : Kept) : Bool :=
  l.party == k.party && l.id == k.id && l.coord == k.coord && l.slot == k.slot

/-- WINDOW and CHUNKS of the tally that a kept contribution goes to: those of its context where it stands in this module, else open values (log entry
54). -/
def State.sendShape (s : State) (k : Kept) : Nat × Nat :=
  match (if k.coord = s.coord then s.ctx? k.party k.id else none) with
  | some c => (c.window, c.chunks)
  | none => (Config.sendWindow k.party k.id k.coord % 128 + 1, Config.sendChunks k.party k.id k.coord)

/-- A kept contribution may be sent (R166): one to the first WINDOW chunks without a CREDIT, then one before the limit of the latest. -/
def State.maySend (s : State) (k : Kept) : Bool :=
  match s.tally.limits.find? (fun l => l.serves k) with
  | none => decide (k.round % 256 * (s.sendShape k).2 + k.chunk < (s.sendShape k).1)
  | some l => beforePoint k.round k.chunk l.round l.chunk

/-- A kept contribution sent to its tally (R220, R288): by the innkeeper, or by the cluster of the core that holds it. -/
def State.sendKept (s : State) (k : Kept) : State :=
  s.agentSend (match k.core with
      | some c => 3 + c / 4
      | none => 0)
    (tallyFrame k.party 0x50 k.coord 0xF1 (tallyAddr k.id k.chunk k.part k.slot k.round) 0 k.payload)

/-- Attention work whose last contribution has been taken ends: INFLIGHT falls (R219). -/
def State.endWork (s : State) (w : Nat × Nat) : State :=
  if s.tally.kept.any (fun k => k.work == some w) then s else s.modStay w.1 (fun e => { e with inflight := e.inflight - 1 })

/-- A CREDIT reaches this module as a contributing agent: contributions taken are released, and those now before the limit go
out (R166, R168). A tally of this module that has ended leaves no limit. -/
def State.creditKept (s : State) (f : Frame) (tr tc lr lc : Nat) : State :=
  let mine := fun (k : Kept) => k.party == f.party && k.id == tId f && k.slot == tSlot f && k.coord == f.srcCoord
  let gone := s.tally.kept.filter (fun k => mine k && k.sent && beforePoint k.round k.chunk tr tc)
  let rest := s.tally.kept.filter (fun k => !(mine k && k.sent && beforePoint k.round k.chunk tr tc))
  let ended := f.srcCoord == s.coord && (s.ctxOf f).isNone
  let limits := (s.tally.limits.filter (fun l =>
    !(l.party == f.party && l.id == tId f && l.coord == f.srcCoord && l.slot == tSlot f))) ++
    (if ended then [] else [⟨f.party, tId f, f.srcCoord, tSlot f, lr, lc⟩])
  let s1 := s.modTally (fun t => { t with kept := rest, limits := limits })
  let s2 := ((gone.filterMap (·.work)).eraseDups).foldl State.endWork s1
  let due := rest.filter (fun k => mine k && !k.sent && s2.maySend k)
  let s3 := s2.modTally (fun t => { t with kept := t.kept.map (fun k => if mine k && s2.maySend k then { k with sent := true } else k) })
  due.foldl State.sendKept s3

/-- CREDIT (R166, R184). -/
def execCredit (f : Frame) (s : State) : Host.Outcome State Fault Refusal :=
  s.tallyServe f (fun s =>
    if f.payload.length ≠ 12 ∨ f.srcPort ≠ 0xF1 then s
    else
      let (tr, tc, lr, lc) := (leAt f.payload 0 2, leAt f.payload 2 4, leAt f.payload 6 2, leAt f.payload 8 4)
      match s.ctxOf f with
      | some c =>
        if c.fromParent f then
          let taken := tr * c.chunks + tc
          let lim := lr * c.chunks + lc
          let c1 := { c with parentLimit := max c.parentLimit lim }
          let out := c.win.filter (fun k => k.stepped && decide (c.parentLimit ≤ k.g ∧ k.g < c1.parentLimit))
          let s1 := out.foldl (fun s k => s.sendPartial c1 k) (s.putCtx c1)
          let freed := fun (k : TChunk) => decide (k.g < taken) && (k.stepped || !c.slots.any (fun t => c.expects t k.g)) &&
            !c.slots.any (fun t => c.reaches t k.g)
          if c.win.any freed then s1.advance { c1 with win := c1.win.filter (fun k => !freed k) } false else s1
        else s.creditKept f tr tc lr lc
      | none => if s.contributes f then s.creditKept f tr tc lr lc else s.noTally)

/-- RESEND (R168): a contribution not yet formed is sent when it is formed. -/
def execResend (f : Frame) (s : State) : Host.Outcome State Fault Refusal :=
  s.tallyServe f (fun s =>
    if f.srcPort ≠ 0xF1 then s
    else
      let again := fun (s : State) =>
        let mine := fun (k : Kept) => k.party == f.party && k.id == tId f && k.slot == tSlot f && k.coord == f.srcCoord &&
          k.round % 256 == tRound f && k.chunk == tChunk f
        let due := s.tally.kept.filter mine
        due.foldl State.sendKept (s.modTally (fun t => { t with kept := t.kept.map (fun k => if mine k then { k with sent := true } else k) }))
      match s.ctxOf f with
      | some c =>
        if c.fromParent f then
          match c.chunk? (c.gOf f) with
          | some k => if k.stepped ∧ k.g < c.parentLimit ∧ tChunk f < c.chunks then s.sendPartial c k else s
          | none => s
        else again s
      | none => if s.contributes f then again s else s.noTally)

/-- The tick at which a chunk's timer started, once a contribution of its round has been taken (R191). -/
def TCtx.timerStart (c : TCtx) (k : TChunk) : Option Nat :=
  (c.firsts.find? (fun x => x.1 == k.g / c.chunks)).bind (fun x =>
    let before : Option Nat :=
      if k.g = 0 ∨ c.failedRounds.contains ((k.g - 1) / c.chunks) ∨ !c.slots.any (fun t => c.expects t (k.g - 1)) then some 0
      else (c.doneTicks.find? (fun y => y.1 == k.g - 1)).map (·.2)
    before.map (fun b => max (max x.2 b) k.openAt))

/-- The round of a DISPATCH tally owes contributions: it has not failed, and some destination has not had its LAST (R187). -/
def TCtx.dispatching (c : TCtx) : Bool := c.op == 10 && !c.failedRounds.contains c.round

/-- A DISPATCH tally's sender has been silent for RESEND_WAIT (R191; log entry 66): it is asked again, or the round has stalled. -/
def State.dispatchSilent (s : State) (c : TCtx) (slot : Nat) (t : TSlot) : State :=
  match c.heardAt with
  | none => s
  | some last =>
    if !t.contrib ∨ !c.dispatching ∨ s.free < last + s.usOf TL_CTRL_RESEND_WAIT then s
    else if s.fld TL_CTRL_RESEND_MAX ≤ c.asks then s.failRound c c.round 4 0 none false
    else
      let c1 := { c with asks := c.asks + 1, heardAt := some s.free }.modStat c.round (fun x => { x with resent := x.resent + 1 })
      ((s.putCtx c1).count (TL_CNT 7)).toSlot c1 0x54 slot t (c.round * c.chunks) 0 0 []

/-- CONTRIB_RESEND_TIMEOUT (R191). -/
def execContribResendTimeout (ctx g slot : Nat) (s : State) : Host.Outcome State Fault Refusal :=
  match s.ctxAt? ctx with
  | none => .next s
  | some c => if c.op = 10 then .next ((match c.slot? slot with
      | some t => s.dispatchSilent c slot t
      | none => s).retryAgents)
    else match c.slot? slot, c.chunk? g with
    | some t, some k => match c.timerStart k with
      | none => .next s
      | some start =>
        let (n, last) := ((k.resends.find? (fun x => x.1 == slot)).map (·.2)).getD (0, start)
        if !c.expects t g ∨ c.tookAll k slot t ∨ s.free < last + s.usOf TL_CTRL_RESEND_WAIT then .next s
        else if s.fld TL_CTRL_RESEND_MAX ≤ n then .next ((s.failRound c (g / c.chunks) 4 (g % c.chunks) none false).retryAgents)
        else
          let k1 := { k with resends := sparseInsert slot (n + 1, s.free) (sparseErase k.resends slot) }
          let c1 := (c.putChunk k1).modStat (g / c.chunks) (fun x => { x with resent := x.resent + 1 })
          .next ((((s.putCtx c1).count (TL_CNT 7)).toSlot c1 0x54 slot t g 0 0 []).retryAgents)
    | _, _ => .next s

/-! ### Failures (R191 to R193) -/

/-- FENCE_SEEN (R191): a CONTRIB endpoint slot owed a contribution is fenced. -/
def execFenceSeen (ctx : Nat) (s : State) : Host.Outcome State Fault Refusal :=
  match s.ctxAt? ctx with
  | none => .next s
  | some c =>
    let owed := fun (k : TChunk) => c.slotsNo.any (fun x =>
      !x.2.isModule && s.regBit SW_FENCE x.2.port && c.expects x.2 k.g && !c.tookAll k x.1 x.2)
    if c.dispatching && c.slots.any (fun t => t.contrib && !t.isModule && s.regBit SW_FENCE t.port) then
      .next ((s.failRound c c.round 5 0 none false).retryAgents)
    else match c.win.find? owed with
    | none => .next s
    | some k => .next ((s.failRound c (k.g / c.chunks) 5 (k.g % c.chunks) none false).retryAgents)

/-- A FAIL that fails no round (R193). -/
def failBad (f : Frame) : Bool := decide (f.payload.length < 8) || decide (byteAt f.payload 0 < 1) || decide (5 < byteAt f.payload 0)

/-- The copies that OPERAND instructions hold of a failed round of the tally at the frame's source are discarded (R288). -/
def State.dropHold (s : State) (f : Frame) : State :=
  s.modTally (fun t => { t with kept := t.kept.filter (fun k =>
    !(k.core.isSome && k.party == f.party && k.id == tId f && k.coord == f.srcCoord && k.round % 256 == leAt f.payload 2 2 % 256)) })

/-- FAIL (R164, R193, R288): from the parent or a child slot it fails the round; from a tally that this module contributes to it empties the send hold. DESIGN CHOICE: a malformed one that names no context counts as one for no
context (log entry 170). -/
def execFail (f : Frame) (s : State) : Host.Outcome State Fault Refusal :=
  s.tallyServe f (fun s =>
    match s.ctxOf f with
    | none => if !s.contributes f then s.noTally else if failBad f then s.dropSlot else s.dropHold f
    | some c =>
      if failBad f then s.dropSlot
      else
        let s1 := s.dropHold f
        let r := leAt f.payload 2 2
        let chunk := bitsOf (leAt f.payload 4 4) 20 0
        if c.fromParent f then s1.failRound c r (byteAt f.payload 0) chunk none true
        else match c.slot? (tSlot f) with
          | some t => if t.isModule && t.child && s.fromSlot t f then s1.failRound c r (byteAt f.payload 0) chunk (some (tSlot f)) false else s1
          | none => s1)

/-- TALLY_CORRUPTION (R154, R192, R395): reasons 1 residue, 2 frame ECC, 3 flag store ECC. A reduction unit reports its residue mismatch, and the
tally agent the taint (log entry 163). -/
def execTallyCorruption (ctx reason g : Nat) (s : State) (unit : Nat := 0) : Host.Outcome State Fault Refusal :=
  match s.ctxAt? ctx with
  | none => .next s
  | some c =>
    if reason < 1 ∨ 3 < reason ∨ c.failedRounds.contains (g / c.chunks) ∨ g < c.round * c.chunks ∨ c.limit ≤ g then .next s
    else
      let place := c.id + c.party * 2 ^ 12
      let s0 := if reason = 1 then (s.count (TL_CNT 9)).fault (0x061 + unit % 24) 0x07 place else s.count (TL_CNT 9)
      let s1 := s0.fault 0x060 0x0C place
      match s1.ctxAt? ctx with
      | some c1 => .next ((s1.failRound c1 (g / c.chunks) reason (g % c.chunks) none false).retryAgents)
      | none => .next s1

/-! ### All-to-all (R187, R188) -/

/-- Bytes cut into frames of at most `n`. -/
def framesOf : Nat → Nat → List Byte → List (List Byte)
  | 0, _, _ => []
  | k + 1, n, bs => if bs.isEmpty then [] else bs.take n :: framesOf k n (bs.drop n)

/-- A DISPATCH frame on its way out (R187, R188). -/
def State.dispatchOut (s : State) (c : TCtx) (first d off : Nat) (last : Bool) (p : List Byte) : State :=
  s.agentSend 1 { blankFrame with
    kind := 0x57, vc := 3, destKind := 1, party := c.party, dstRank := c.rankBase + d,
    address := c.id + first * 2 ^ 12 + off * 2 ^ 24 + (if last then 2 ^ 45 else 0), payload := p }

/-- DISPATCH (R187, R188): elements below CAP are forwarded, the rest counted; LAST pads to CAP with zeros. -/
def execDispatch (f : Frame) (s : State) : Host.Outcome State Fault Refusal :=
  s.tallyServe f (fun s =>
    match s.ctxOf f with
    | none => s.noTally
    | some c =>
      let d := bitsOf f.address 23 12
      let off := bitsOf f.address 44 24
      let last := f.address.testBit 45
      let w := [4, 2, 2, 1, 1, 4, 8].getD c.inFmt 1
      match c.slots.find? (fun t => t.contrib && s.fromSlot t f) with
      | none => s.dropSlot
      | some t =>
        if c.op ≠ 10 ∨ c.members ≤ d ∨ f.payload.length % w ≠ 0 ∨ bitsOf f.address 49 46 ≠ 0 then s.dropSlot
        else
          let e := (c.dests.find? (fun x => x.member == d)).getD ⟨d, 0, 0, false⟩
          if e.lastSeen then s.count (TL_CNT 6)
          else
            let n := f.payload.length / w
            let keep := min n (c.cap - off)
            let e1 : TDest := ⟨d, e.sent + keep, e.dropped + (n - keep), last⟩
            let c1 := { c with dests := c.dests.filter (fun x => x.member != d) ++ [e1], asks := 0, heardAt := some s.free }
            let s1 := (s.countBy (TL_CNT 12) (n - keep)).putCtx c1
            let data := f.payload.take (keep * w)
            let pad := if last then zeroBytes ((c.cap - e1.sent) * w) else []
            let parts := (if data.isEmpty then [] else [(off, data)]) ++
              (framesOf (pad.length / 4096 + 1) 4096 pad).zipIdx.map (fun x => (e1.sent + x.2 * (4096 / w), x.1))
            let all := if last ∧ parts.isEmpty then [(c.cap, [])] else parts
            let s2 := all.zipIdx.foldl (fun s x =>
              if last ∧ x.2 + 1 = all.length then s.dispatchOut c1 t.first d e1.sent true x.1.2
              else s.dispatchOut c1 t.first d x.1.1 false x.1.2) s1
            if c1.members ≤ (c1.dests.filter (·.lastSeen)).length then
              s2.advance { c1 with oldest := (c1.round + 1) * c1.chunks } false
            else s2)

end Sys2Proof.Machine
end

