-- ==== Sys2Proof/Machine/HostOps.lean ====
section
/-! DEFINITION. The doorbell queues in host memory (R432 to R435): entries, phase tags, vectors, held park notices. -/

namespace Sys2Proof.Machine

open Sys2Proof

/-- The CXL link is up (R428). -/
def State.linkUp (s : State) : Bool := s.fld MB_LINK_STATUS_RATE != 0

/-- Entries of a queue (R432). -/
def State.qSize (s : State) (q : Nat) : Nat := 2 ^ s.fld (MB_QCFG_LOG2_ENTRIES q)

/-- Entries written and not yet consumed. -/
def State.qUsed (s : State) (q : Nat) : Nat :=
  (s.fld (MB_QTAIL_TAIL q) + s.qSize q - s.fld (MB_QHEAD_HEAD q) % s.qSize q) % s.qSize q

/-- A queue can take an entry: enabled, not full, the link up (R432, R434). -/
def State.qReady (s : State) (q : Nat) : Bool :=
  s.flag (MB_QCFG_ENABLE q) && s.linkUp && decide (s.qUsed q + 1 < s.qSize q)

/-- The vector of a queue (R435): at most once per µs; otherwise the next message covers the entry. -/
def State.qVector (s : State) (q : Nat) : State :=
  match s.host.holdoff.getD q none with
  | none => (s.msix (1 + q)).modHost (fun h => { h with holdoff := modifyAt (fun _ => some s.free) q h.holdoff })
  | some t =>
    if t + ticksPerUs ≤ s.free then (s.msix (1 + q)).modHost (fun h => { h with holdoff := modifyAt (fun _ => some s.free) q h.holdoff })
    else s.modHost (fun h => { h with owedVector := modifyAt (fun _ => true) q h.owedVector })

/-- An entry written at TAIL with its phase tag (R432): 31 bytes and the tag. -/
def State.qWrite (s : State) (q : Nat) (entry : List Byte) : State :=
  let tail := s.fld (MB_QTAIL_TAIL q)
  let tag : Byte := if s.host.tags.getD q true then 1 else 0
  let at_ := s.fld (MB_QBASE_ADDR q) * 4096 + 32 * tail
  let s1 := s.modOut (fun o => { o with hostMem := o.hostMem ++ [(at_, padTo 31 entry ++ [tag])] })
  let next := (tail + 1) % s.qSize q
  let s2 := s1.setFld (MB_QTAIL_TAIL q) next
  (if next = 0 then s2.modHost (fun h => { h with tags := modifyAt (fun b => !b) q h.tags }) else s2).qVector q

/-- Park notices that were held are written in order while queue 1 takes them (R434). -/
def State.flushNotices (s : State) : State :=
  s.stays.notices.foldl (fun s n => if s.stays.notices.head? = some n ∧ s.qReady 1 then
      (s.qWrite 1 n).modStays (fun u => { u with notices := u.notices.tail })
    else s) s

/-- A park may reserve an entry of queue 1, notices not yet written counted (R434). -/
def State.canNotify (s : State) : Bool :=
  s.flag (MB_QCFG_ENABLE 1) && decide (s.qUsed 1 + s.stays.notices.length + 1 < s.qSize 1)

/-- A park notice (R225): its 18 bytes in the entry of R432. -/
def State.notify (s : State) (notice : List Byte) : State :=
  (s.modStays (fun u => { u with notices := u.notices ++ [padTo 18 notice] })).flushNotices

end Sys2Proof.Machine
end

