-- ==== Sys2Proof/Machine/StayOps.lean ====
section
/-! DEFINITION. What the innkeeper does (R199 to R223): cards and layouts, booking, replies, mirror frames, mends, and the room requests
themselves. An operation that is refused leaves the state it found. -/

namespace Sys2Proof.Machine

open Sys2Proof

/-! ### Cards and layouts (R202 to R205, R214) -/

/-- A stay's card, read (R214). -/
structure Card where
  kv : Nat
  d : Nat
  kvHeads : Nat
  layers : Nat
  qHeads : Nat
  priority : Nat
  unmirrored : Bool
  evictTo : Nat
  program : Nat
  reserve : Nat
  twin : Option Nat
  peer : Option Nat
  window : Nat
  /-- TALLY_ID, TALLY_COORD, TALLY_SLOT. -/
  tally : Option (Nat × Nat × Nat)
  deriving DecidableEq, Repr

/-- A coordinate with a valid bit (R214). -/
def validCoord (v : Nat) : Option Nat := if v.testBit 15 then some (bitsOf v 10 0) else none

/-- The card in 32 bytes. -/
def cardOf (b : List Byte) : Card :=
  { kv := byteAt b 0, d := 64 * 2 ^ byteAt b 1, kvHeads := byteAt b 2 + 1, layers := byteAt b 3 + 1, qHeads := byteAt b 4 + 1,
    priority := bitsOf (byteAt b 5) 1 0, unmirrored := (byteAt b 5).testBit 2, evictTo := bitsOf (byteAt b 5) 4 3,
    program := leAt b 6 2, reserve := leAt b 8 3, twin := validCoord (leAt b 12 2), peer := validCoord (leAt b 14 2),
    window := leAt b 16 3,
    tally := if (leAt b 20 2).testBit 15 then some (bitsOf (leAt b 20 2) 11 0, bitsOf (leAt b 22 2) 10 0, bitsOf (byteAt b 24) 6 0)
      else none }

/-- Pages of a block (R205). -/
def Card.lk (c : Card) : Nat := c.layers * c.kvHeads

/-- Bytes of one vector's elements and of its scales (R203, R204). -/
def Card.elem (c : Card) : Nat := if c.kv = 0 then 2 * c.d else if c.kv = 3 then c.d / 2 else c.d

/-- See `Card.elem`. -/
def Card.scale (c : Card) : Nat := if c.kv = 0 then 0 else c.d / 32

/-- Token positions of a room (R203). -/
def Card.tpr (c : Card) : Nat := 65536 / (2 * (c.elem + c.scale)) / 8 * 8

/-- Pages that a number of positions spans (R205). -/
def Card.pages (c : Card) (tokens : Nat) : Nat := ceilDiv tokens c.tpr * c.lk

/-- Reserved bytes and values of a card (R214); `own`: a coordinate that TWIN and PEER may not name. -/
def cardValid (b : List Byte) (own : Option Nat) : Bool :=
  let c := cardOf b
  b.length == 32 && decide (byteAt b 0 ≤ 3) && decide (byteAt b 1 ≤ 2) && decide (byteAt b 2 ≤ 127) &&
  c.qHeads % c.kvHeads == 0 && decide (c.qHeads * c.d ≤ 32768) && bitsOf (byteAt b 5) 7 5 == 0 && byteAt b 11 == 0 &&
  bitsOf (leAt b 12 2) 14 11 == 0 && bitsOf (leAt b 14 2) 14 11 == 0 && byteAt b 19 == 0 && bitsOf (leAt b 20 2) 14 12 == 0 &&
  bitsOf (leAt b 22 2) 15 11 == 0 && !(byteAt b 24).testBit 7 && leAt b 25 7 == 0 && decide (c.pages c.reserve ≤ 2 ^ 24) &&
  (own.isNone || (c.twin != own && c.peer != own))

/-- Address of a stay's card. -/
def cardAt (i : Nat) : Nat := 25600 * 65536 + 32 * i

/-- A stay's card read through the porter path; none where the read meets poison (R342). -/
def State.readCard (s : State) (i : Nat) : Option Card × State :=
  let (b, s1) := s.porterRead (cardAt i) 32
  (b.map cardOf, s1)

/-! ### Replies (R210 to R212) -/

/-- A reply of the innkeeper: a docket to a requester, an outbox frame to the rank of a bound launch (R257), or nothing. -/
def State.answer (s : State) (a : Asker) (kind : Nat) (docket : List Byte) : State :=
  match a with
  | .nobody => s
  | .request f => s.agentSend 0 (replyTo f kind (padTo 32 docket))
  | .bound party rank base =>
    s.agentSend 0 { blankFrame with kind := 0x19, vc := 4, destKind := 1, party := party, dstRank := rank, address := base,
                                    payload := padTo 32 docket }

/-- A refusal (R212), counted. A mirrored operation is answered with MIRROR_ACK instead (R230). -/
def State.refuse (s : State) (a : Asker) (kind status : Nat) : State :=
  if kind = 0x30 then s.answer a 0x31 [BitVec.ofNat 8 status]
  else (s.count (ST_REFUSED (status - 1))).answer a 0x2F [BitVec.ofNat 8 status, BitVec.ofNat 8 kind]

/-- LAST_USE of a stay (R200). -/
def State.stamp (s : State) (i : Nat) : State := s.modStay i (fun e => { e with lastUse := bitsOf s.now 43 28 })

/-! ### Booking and allocation (R208, R209) -/

/-- The lowest-numbered FREE entry (R213). -/
def State.freeIndex (s : State) : Option Nat :=
  (List.range (min 262144 (s.stays.table.length + 1))).find? (fun i => (s.stay i).state == 0)

/-- Rooms booked for an entry, if admitted. -/
def State.book (s : State) (i k : Nat) : Option State :=
  if s.admits (s.stay i) k then some (s.modStay i (fun e => { e with booked := e.booked + k })) else none

/-- A room for a page of a stay (R208): out of its booking, or unbooked and admitted. -/
def State.alloc (s : State) (i page lk : Nat) : Option (Nat × State) :=
  let e := s.stay i
  if e.booked = 0 ∧ !s.admits e 1 then none
  else match s.takeRoom ((i + page / lk + page % lk) % 8) with
    | (none, _) => none
    | (some r, s1) => some (r, s1.modStay i (fun e => { e with booked := e.booked - 1 }))

/-- A room counts as poisoned (R233, R354); an absent page does not. -/
def State.roomBad (s : State) (r : Nat) : Bool := r != 0 && (s.ledgerOf r).2

/-! ### Frames between innkeepers (R226 to R231) -/

/-- A frame to the innkeeper of another module. -/
def State.toInn (s : State) (coord kind party srcRank addr tag : Nat) (payload : List Byte) : State :=
  s.agentSend 0 { blankFrame with kind := kind, vc := 0, destKind := 3, party := party, srcRank := srcRank, dstCoord := coord,
                                  dstPort := 0xF0, address := addr, tag := tag, payload := payload }

/-- A fresh TAG. -/
def State.freshTag (s : State) : Nat × State :=
  (s.stays.mirrorSeq % 16384, s.modStays (fun u => { u with mirrorSeq := u.mirrorSeq + 1 }))

/-- A mirrored operation sent to the twin, its end remembered (R229 to R231). -/
def State.mirror (s : State) (i twin twinIndex op : Nat) (payload : List Byte) (a : Asker) (reply : Option (Nat × List Byte))
    (must : Bool) (copy : Option Nat) : State :=
  let (tag, s1) := s.freshTag
  let e := s.stay i
  let s2 := s1.modStays (fun u => { u with mirrors := u.mirrors ++ [⟨tag, i, op, a, reply, must, copy, twin, s.free⟩] })
  s2.toInn twin 0x30 e.party e.ownerRank (twinIndex + op * 2 ^ 18) tag payload

/-- MIRROR CLOSE, whose acknowledgement nothing waits for (R223, R231). -/
def State.mirrorClose (s : State) (i : Nat) : State :=
  let (tag, s1) := s.freshTag
  let e := s.stay i
  s1.toInn e.twinCoord 0x30 e.party e.ownerRank (e.twinIndex + 3 * 2 ^ 18) tag []

/-- A piece of a page as it is sent (R226, R227, R342): zeros for a page without a room, all poison for one whose chart node cannot be read, else
its bytes, with its poisoned pairs marked. A room that holds one counts as poisoned from then on. -/
def State.pieceOf (s : State) (room : Option Nat) (k : Nat) : List Byte × List Nat × State :=
  match room with
  | none => (zeroBytes 4096, List.range 64, s)
  | some 0 => (zeroBytes 4096, [], s)
  | some r =>
    let (b, bad, s1) := s.readPiece (r * 65536 + 4096 * k)
    (b, bad, if bad.isEmpty || s1.stackLost (roomStack r) then s1 else s1.poisonRoom r)

/-- The sixteen pieces of a page sent as LODGE frames (R226). -/
def State.sendPage (s : State) (coord far page : Nat) (room : Option Nat) (tag party : Nat) : State :=
  (List.range 16).foldl (fun s k =>
    let (b, bad, s1) := s.pieceOf room k
    s1.agentSend 0 { blankFrame with kind := 0x34, vc := 0, destKind := 3, party := party, dstCoord := coord, dstPort := 0xF0,
                                     address := far + page * 2 ^ 18 + k * 2 ^ 42, tag := tag, payload := b, poison := bad }) s

/-- A page of a stay that moves is sent: its room is looked up, and its pieces go out (R226, R227). -/
def State.sendPageOf (s : State) (i coord far page tag party : Nat) : State :=
  let (room, s1) := s.pageRoom i page
  s1.sendPage coord far page room tag party

/-- A page asked of the twin (R227, R233): RECALL OP 2. -/
def State.recallPage (s : State) (i page : Nat) : State :=
  let (tag, s1) := s.freshTag
  let e := s.stay i
  s1.toInn e.twinCoord 0x36 e.party e.ownerRank (e.twinIndex + 2 * 2 ^ 18 + page * 2 ^ 21) tag []

/-! ### What a request may do -/

/-- How a request ends: done, refused with a status, or waiting, perhaps for a page's mend. The state that a refusal comes with is as the request
found it, but for what its reads of the pool have counted, written and reported (R334, R335, R340). -/
inductive Served where
  | done (s : State)
  | refused (s : State) (status : Nat)
  | waits (s : State) (mend : Option Nat)

/-- A REMIRROR of a stay is under way (R231): its MIRROR OPEN or its ROOMCOPYs. -/
def State.remirroring (s : State) (i : Nat) : Bool := s.stays.mirrors.any (fun m => m.index == i && m.reply.isNone)

/-- A stay's pages are being copied to its twin, which does not hold them all yet (R230, R231). -/
def State.copying (s : State) (i : Nat) : Bool := s.stays.mirrors.any (fun m => m.index == i && m.op == 4)

/-- A poisoned page is mended from the twin, or the request is refused 0x07 (R233); a twin that is still being filled has none to give. -/
def State.mendOr (s : State) (i page : Nat) : Served :=
  if (s.stay i).twinValid && !s.copying i then
    (if s.stays.waiting.any (fun w => w.index == i && w.mend == some page) then .waits s (some page)
     else .waits (s.recallPage i page) (some page))
  else .refused s 7

/-- ATTENDs of a stay that have not handed over their partials (R217, R264): those that wait, and those in slots. -/
def State.attendsOf (s : State) (i : Nat) : List Attend :=
  (s.stays.placing ++ s.stays.waiting.filterMap (·.attend) ++
    s.clusters.cores.flatMap (fun c => c.slots.filterMap (fun sl => if sl.phase = 3 then none else sl.work))).filter (fun a => a.index == i)

/-! ### APPEND (R216 to R218) -/

/-- The docket of an APPEND (R216). -/
structure AppendDocket where
  start : Nat
  count : Nat
  layer : Nat
  first : Nat
  heads : Nat
  fmt : Nat
  deriving DecidableEq, Repr

/-- See `AppendDocket`. -/
def appendDocket (p : List Byte) : AppendDocket := ⟨leAt p 0 3, leAt p 3 2, byteAt p 5, byteAt p 6, byteAt p 7, byteAt p 8⟩

/-- Bytes that an APPEND carries per head (R216). -/
def Card.perHead (c : Card) (fmt : Nat) : Nat := if fmt = 0x10 then 2 * (c.elem + c.scale) else 4 * c.d

/-- A scale byte of 0xFF in stored-format data (R218). -/
def Card.badScale (c : Card) (data : List Byte) : Bool :=
  c.kv != 0 && (List.range (data.length / c.perHead 0x10)).any (fun j =>
    let h := (data.drop (j * c.perHead 0x10)).take (c.perHead 0x10)
    ((h.drop c.elem).take c.scale ++ h.drop (2 * c.elem + c.scale)).contains 0xFF)

/-- Whether an APPEND's docket and length match the stay (R216, R217 step 1, R218). `replay`: at a twin, whose TOKENS the home has
checked. -/
def Card.appendOk (c : Card) (p : List Byte) (tokens : Nat) (replay : Bool) : Bool :=
  let a := appendDocket p
  decide (32 ≤ p.length) && leNat ((p.take 32).drop 9) == 0 && [1, 2, 0x10].contains a.fmt && decide (a.layer < c.layers) &&
  decide (a.first < c.kvHeads) && decide (1 ≤ a.heads ∧ a.heads ≤ c.kvHeads - a.first) &&
  p.length == 32 + a.count * a.heads * c.perHead a.fmt && (replay || decide (a.start ≤ tokens)) &&
  decide (a.start + a.count ≤ 16777215) && decide (c.pages (a.start + a.count) ≤ 2 ^ 24) &&
  !(a.fmt == 0x10 && c.badScale (p.drop 32))

/-- The MX element format of a KV_FMT (R203, R307). -/
def kvMx (kv : Nat) : Nat := if kv = 1 then 3 else if kv = 2 then 5 else 8

/-- One vector of D elements converted to the stored format (R218): elements, scales, saturated, NaN or ∞ met. -/
def Card.convert (c : Card) (fmt : Nat) (v : List Byte) : List Byte × List Byte × Bool × Bool :=
  if c.kv = 0 then
    (if fmt = 1 then (v, [], false, false)
     else ((List.range c.d).flatMap (fun i => natLE 2 (fpRound bf16 (fpDecode fp16 (leAt v (2 * i) 2))).1), [], false, false))
  else
    let src := if fmt = 1 then bf16 else fp16
    let vals := (List.range c.d).map (fun i => fpDecode src (leAt v (2 * i) 2))
    let blocks := (List.range (c.d / 32)).map (fun b => mxBlock (kvMx c.kv) ((vals.drop (32 * b)).take 32))
    let codes := blocks.flatMap (·.2)
    let bytes := if c.kv = 3 then
        (List.range (c.d / 2)).map (fun j => BitVec.ofNat 8 ((codes.getD (2 * j) (0, false, false)).1 + 16 * (codes.getD (2 * j + 1) (0, false, false)).1))
      else codes.map (fun x => BitVec.ofNat 8 x.1)
    (bytes, blocks.map (fun b => BitVec.ofNat 8 b.1), codes.any (·.2.1), codes.any (·.2.2))

/-- One position's keys and values of one head written into a room (R204): saturated, NaN or ∞ met, and the state. -/
def State.writeHead (s : State) (c : Card) (room t fmt : Nat) (data : List Byte) : Bool × Bool × State :=
  let base := room * 65536
  let put := fun (s : State) (half : Nat) (el sc : List Byte) =>
    let s1 := s.poolWrite (base + half * c.tpr * c.elem + t * c.elem) el
    if c.scale = 0 then s1 else s1.poolWrite (base + 2 * c.tpr * c.elem + half * c.tpr * c.scale + t * c.scale) sc
  if fmt = 0x10 then
    let k := data.take c.elem
    let ks := (data.drop c.elem).take c.scale
    let v := (data.drop (c.elem + c.scale)).take c.elem
    let vs := data.drop (2 * c.elem + c.scale)
    (false, false, put (put s 0 k ks) 1 v vs)
  else
    let (k, ks, a, b) := c.convert fmt (data.take (2 * c.d))
    let (v, vs, a', b') := c.convert fmt (data.drop (2 * c.d))
    (a || a', b || b', put (put s 0 k ks) 1 v vs)

/-- Rooms for the pages that need one (R217 steps 4 and 5): (page, old room). None where a room or a node is missing. -/
def State.appendRooms : List (Nat × Nat) → State → Nat → Nat → Option State
  | [], s, _, _ => some s
  | (p, old) :: ps, s, i, lk => match s.alloc i p lk with
    | none => none
    | some (r, s1) =>
      let s2 := if old = 0 then s1 else ((s1.copyRoom old r).dropRef old).count (ST_CNT 3)
      match s2.setPage i p r with
      | none => none
      | some s3 => State.appendRooms ps s3 i lk

/-- The pages of a truncation become absent: the blocks from ⌈START ÷ TPR⌉ on (R217 step 2). -/
def State.dropFrom (s : State) (i lo hi : Nat) : State :=
  (List.range (hi - lo)).foldl (fun s k => s.dropPage i (lo + k)) s

/-- What an APPEND does at a stay (R217), its flags in bits 3:1 of the APPENDED byte; mirroring and replies apart. -/
def State.appendCore (s : State) (i : Nat) (c : Card) (p : List Byte) (replay : Bool) : Except Served (Nat × State) :=
  let a := appendDocket p
  let e := s.stay i
  if !c.appendOk p e.tokens replay then .error (.refused s 6)
  else if a.count = 0 then
    (if e.tokens ≤ a.start then .ok (0, s)
     else if e.inflight ≠ 0 then .error (.waits s none)
     else match State.roomsOf ((List.range (c.pages e.tokens - c.pages a.start)).map (c.pages a.start + ·)) s i with
       | (none, s1) => .error (.refused s1 7)
       | (some _, _) => .ok (0, (s.dropFrom i (c.pages a.start) (c.pages e.tokens)).modStay i (fun e => { e with tokens := a.start })))
  else
    let b0 := a.start / c.tpr
    let b1 := (a.start + a.count - 1) / c.tpr
    let pages := (List.range (b1 + 1 - b0)).flatMap (fun k => (List.range a.heads).map (fun h =>
      (b0 + k) * c.lk + a.layer * c.kvHeads + a.first + h))
    match State.roomsOf pages s i with
    | (none, s1) => .error (.refused s1 7)
    | (some rooms, s0) =>
      let s1 := s0.readLedgers rooms
      let pairs := pages.zip rooms
      if (s1.attendsOf i).any (fun x => x.layer == a.layer && rooms.any (fun r => r != 0 && x.rooms.contains r)) then .error (.waits s1 none)
      else match pairs.find? (fun x => s1.roomBad x.2) with
        | some x => .error (s1.mendOr i x.1)
        | none =>
          let todo := pairs.filter (fun x => x.2 == 0 || decide (1 < (s1.ledgerOf x.2).1))
          match State.appendRooms todo s1 i c.lk with
          | none => .error (.refused s1 4)
          | some s2 =>
            let place := fun (s : State) (pg : Nat) => ((s.pageRoom i pg).1).getD 0
            let at_ := pages.map (fun pg => (pg, place s2 pg))
            let cells := (List.range a.count).flatMap (fun t => (List.range a.heads).map (fun h => (a.start + t, h)))
            let (sat, nf, s3) := cells.zipIdx.foldl (fun (acc : Bool × Bool × State) x =>
              let pg := x.1.1 / c.tpr * c.lk + a.layer * c.kvHeads + a.first + x.1.2
              let room := ((at_.find? (fun y => y.1 == pg)).map (·.2)).getD 0
              let data := ((p.drop 32).drop (x.2 * c.perHead a.fmt)).take (c.perHead a.fmt)
              let (u, v, s') := acc.2.2.writeHead c room (x.1.1 % c.tpr) a.fmt data
              (acc.1 || u, acc.2.1 || v, s')) (false, false, s2)
            let s4 := if a.fmt = 0x10 then s3 else s3.countBy (CL_CNT (i % 6) 3) (2 * a.count * a.heads * c.d)
            let copied := todo.any (fun x => x.2 != 0)
            .ok ((if copied then 2 else 0) + (if sat then 4 else 0) + (if nf then 8 else 0),
              s4.modStay i (fun e => { e with tokens := max e.tokens (a.start + a.count) }))

/-- An APPEND of a stay this module is home of (R217 step 7). -/
def State.append (s : State) (i : Nat) (c : Card) (a : Asker) (p : List Byte) : Served :=
  match s.appendCore i c p false with
  | .error x => x
  | .ok (fl, s1) =>
    let s2 := s1.count (ST_CNT 1)
    let e := s2.stay i
    let docket := natLE 3 e.tokens ++ natLE 1 fl
    if e.twinValid then .done (s2.mirror i e.twinCoord e.twinIndex 1 p a (some (0x29, docket)) false none)
    else .done (s2.answer a 0x29 docket)

/-! ### OPEN and FORK (R214, R215, R222) -/

/-- The docket of OPENED and FORKED (R211). -/
def openedDocket (handle twinHandle : Nat) (mirrored : Bool) : List Byte :=
  natLE 4 handle ++ natLE 4 twinHandle ++ natLE 1 (if mirrored then 1 else 0)

/-- A FREE entry taken with a card and its booking; the status of a refusal otherwise. -/
def State.takeEntry (s : State) (state party ownerRank : Nat) (card : List Byte) (rooms : Nat) : Except Nat (Nat × State) :=
  match s.freeIndex with
  | none => .error 0x0D
  | some i =>
    let e0 := s.stay i
    let s1 := s.setStay i { freeStay with state := state, party := party, gen := e0.gen, ownerRank := ownerRank,
                                          lastUse := bitsOf s.now 43 28, priority := (cardOf card).priority }
    match s1.book i rooms with
    | none => .error 4
    | some s2 => .ok (i, s2.porterWrite (cardAt i) card)

/-- An OPEN or FORK is granted: counted and answered (R211, R235). -/
def State.granted (s : State) (i : Nat) (a : Asker) (kind twinHandle : Nat) (mirrored : Bool) : State :=
  (s.count (ST_CNT 0)).answer a kind (openedDocket (s.handleOf i) twinHandle mirrored)

/-- An OPEN or FORK is granted, or once the twin has answered (R215). -/
def State.openDone (s : State) (i : Nat) (c : Card) (a : Asker) (kind : Nat) (copy : Option Nat) (op : Nat) (payload : List Byte) : State :=
  match c.twin with
  | some t => s.mirror i t 0 op (payload ++ natLE 4 (s.handleOf i)) a (some (kind, [])) (!c.unmirrored) copy
  | none => s.granted i a kind 0 false

/-- OPEN (R214, R215). -/
def State.openStay (s : State) (f : Frame) : Served :=
  if f.address ≠ 0 ∨ !cardValid f.payload (some s.coord) then .refused s 6
  else
    let c := cardOf f.payload
    match s.takeEntry 1 f.party f.srcRank f.payload (c.pages c.reserve) with
    | .error n => .refused s n
    | .ok (i, s1) => .done (s1.openDone i c (.request f) 0x28 none 0 f.payload)

/-- The card of a FORK (R222): the source's with FLAGS, RESERVE, TWIN and PEER replaced. -/
def forkCard (src docket : List Byte) : List Byte :=
  spliceBytes (spliceBytes (spliceBytes src 5 [docket.getD 5 0]) 8 ((docket.drop 8).take 3)) 12 ((docket.drop 12).take 4)

/-- Reserved bytes of a FORK docket. -/
def forkReserved (p : List Byte) : Bool :=
  p.length == 32 && leAt p 3 2 == 0 && leAt p 6 2 == 0 && byteAt p 11 == 0 && leAt p 16 16 == 0

/-- Pages shared one by one (R222 step 2), as far as they can be: the status of the refusal, if any. -/
def State.sharePages : List Nat → State → Nat → Nat → Option Nat × State
  | [], s, _, _ => (none, s)
  | p :: ps, s, src, i => match s.pageRoom src p with
    | (none, s1) => (some 7, s1)
    | (some r, s1) =>
      if r = 0 then State.sharePages ps s1 src i
      else if 65535 ≤ (s1.ledgerOf r).1 then (some 9, s1)
      else match s1.setPage i p r with
        | none => (some 4, s1)
        | some s2 => State.sharePages ps (s2.addRef r) src i

/-- A new stay in a state that shares the source's first COUNT positions (R222); refused with a status otherwise. Where its pages cannot all be
shared, the increments are undone and the entry taken for it is freed (R222 step 4). -/
def State.forkCore (s : State) (src state party ownerRank : Nat) (p : List Byte) (own : Option Nat) : Except (Nat × State) (Nat × Card × State) :=
  let count := leAt p 0 3
  let card := forkCard (s.peek (cardAt src) 32) p
  let c := cardOf card
  if !forkReserved p ∨ (s.stay src).tokens < count ∨ !cardValid card own then .error (6, s)
  else match s.takeEntry state party ownerRank card (c.pages c.reserve) with
    | .error n => .error (n, s)
    | .ok (i, s1) => match State.sharePages (List.range (c.pages count)) s1 src i with
      | (some n, s2) => .error (n, ((s2.dropChart i).2).freeEntry i)
      | (none, s2) => .ok (i, c, s2.modStay i (fun e => { e with tokens := count }))

/-- FORK (R222, R230): to the source's twin as a FORK, to another as an OPEN and copies. -/
def State.fork (s : State) (src : Nat) (f : Frame) : Served :=
  match s.forkCore src 1 f.party f.srcRank f.payload (some s.coord) with
  | .error (n, s1) => .done (s1.refuse (.request f) 0x23 n)
  | .ok (i, c, s1) =>
    let e := s1.stay src
    if e.twinValid ∧ c.twin = some e.twinCoord then
      .done (s1.openDone i c (.request f) 0x2B none 2 (f.payload ++ natLE 4 e.twinIndex))
    else .done (s1.openDone i c (.request f) 0x2B (some 0) 0 (s1.peek (cardAt i) 32))

/-! ### ATTEND (R219, R304) -/

/-- The program of the image in force that accepts a stay (R304). -/
def State.programOf (s : State) (c : Card) : Option Program :=
  s.clusters.active.bind (fun im => im.programs.find? (fun p => p.number == c.program && p.kvFmts.testBit c.kv &&
    64 * 2 ^ p.headDim == c.d && p.kvHeadsM1 + 1 == c.kvHeads && p.qHeadsM1 + 1 == c.qHeads))

/-- The smallest class of a program whose MAX_ROOMS holds a room set (R247). -/
def classFor (p : Program) (rooms : Nat) : Option Nat :=
  (List.range p.maxRooms.length).find? (fun k => decide (rooms ≤ p.maxRooms.getD k 0) &&
    p.maxRooms.all (fun m => decide (m < rooms) || decide (p.maxRooms.getD k 0 ≤ m)))

/-- The pages of an ATTEND's room set, in room-set order (R219, R248). -/
def Card.roomSet (c : Card) (layer first last : Nat) : List Nat :=
  let b0 := first / c.tpr
  (List.range c.kvHeads).flatMap (fun h => (List.range (ceilDiv last c.tpr - b0)).map (fun k => (b0 + k) * c.lk + layer * c.kvHeads + h))

/-- An ATTEND whose query is whole (R219); `f` carries the query. -/
def State.attend (s : State) (i : Nat) (c : Card) (f : Frame) : Served :=
  let e := s.stay i
  let layer := bitsOf f.address 39 32
  let first := if c.window = 0 then 0 else e.tokens - c.window
  let pages := c.roomSet layer first e.tokens
  match s.programOf c with
  | none => .refused s 6
  | some prog => match classFor prog pages.length with
    | none => .refused s 6
    | some cls =>
      if c.layers ≤ layer ∨ f.payload.length ≠ 2 * c.qHeads * c.d then .refused s 6
      else if 63 ≤ e.inflight ∨ 4096 ≤ s.stays.placing.length then .refused s 5
      else match State.roomsOf pages s i with
        | (none, s1) => .refused s1 7
        | (some rooms, s0) =>
          let s1 := s0.readLedgers rooms
          match (pages.zip rooms).find? (fun x => s1.roomBad x.2) with
          | some x => s1.mendOr i x.1
          | none =>
            let a : Attend := { index := i, handle := s1.handleOf i, party := e.party, layer := layer, first := first, last := e.tokens,
                                rooms := rooms, bph := pages.length / c.kvHeads, tpr := c.tpr, kvHeads := c.kvHeads, qHeads := c.qHeads,
                                dim := c.d, query := f.payload, program := c.program, cls := cls, frame := { f with payload := [] },
                                card := s1.peek (cardAt i) 32,
                                rerun := false, seq := (s1.reg (ST_CNT 2)).toNat }
            .done (((s1.count (ST_CNT 2)).modStay i (fun e => { e with inflight := e.inflight + 1 })).modStays (fun u => { u with
              placing := u.placing ++ [a] }))

/-! ### PARK, UNPARK and CLOSE (R223, R225, R227) -/

/-- A long operation of a stay is under way, or waits for INFLIGHT 0. -/
def State.moving (s : State) (i : Nat) : Bool := s.stays.moves.any (fun m => m.index == i)

/-- PARK (R213): the long operation is taken up. -/
def State.park (s : State) (i : Nat) (c : Card) (a : Asker) (p : List Byte) : Served :=
  let named := validCoord (leAt p 12 2)
  let peer := named.orElse (fun _ => c.peer)
  if s.moving i then .refused s 5
  else if byteAt p 0 = 1 then
    .done (s.modStays (fun u => { u with moves := u.moves ++ [⟨i, a, 1, false, false, 0, 0, 0, 0, 0, 0, 0⟩] }))
  else if named = some s.coord then .refused s 6
  else match peer with
    | none => .refused s 0x0C
    | some t => .done (s.modStays (fun u => { u with moves := u.moves ++ [⟨i, a, 2, false, false, t, 0, 0, 0, 0, 0, 0⟩] }))

/-- A room that holds only clean zeros (R225). -/
def State.zeroRoomAt (s : State) (r : Nat) : Bool :=
  (s.settleRoom r).mem.bytes.all (fun e => e.1 / 65536 != r) && (s.roomPoison r).isEmpty

/-- The pages of a host image copied into fresh rooms, zero pages skipped (R225): the rooms allocated. -/
def State.unparkPages : List Nat → State → Nat → Nat → Nat → Option (Nat × State)
  | [], s, _, _, _ => some (0, s)
  | p :: ps, s, i, lk, src =>
    if s.zeroRoomAt (src + p) then State.unparkPages ps s i lk src
    else match s.alloc i p lk with
      | none => none
      | some (r, s1) => match (s1.copyRoom (src + p) r).setPage i p r with
        | none => none
        | some s2 => (State.unparkPages ps s2 i lk src).map (fun x => (x.1 + 1, x.2))

/-- UNPARK of a stay parked at the host (R225). -/
def State.unparkHost (s : State) (i : Nat) (c : Card) (a : Asker) (p : List Byte) : Served :=
  let e := s.stay i
  let n := c.pages e.tokens
  let off := leAt p 0 3
  let room := s.fld ST_INBOUND_BASE + off
  if s.fld ST_INBOUND_ROOMS < off + n + 1 then .refused s 6
  else match s.poolRead (room * 65536) 64 with
    | (none, s1) => .refused s1 7
    | (some h, s1) =>
      if h.take 32 ≠ s.peek (cardAt i) 32 ∨ leAt h 32 4 ≠ e.tokens ∨ leAt h 40 4 ≠ s.handleOf i then .refused s1 6
      else match s1.book i n with
        | none => .refused s1 4
        | some s2 => match State.unparkPages (List.range n) s2 i c.lk (room + 1) with
          | none => .refused s1 4
          | some (k, s3) => .done (((s3.modStay i (fun e => { e with state := 1 })).count (ST_CNT 6)).answer a 0x2D (natLE 3 e.tokens ++ natLE 3 k))

/-- UNPARK of a stay parked at a peer (R227): rooms are booked and the guest is recalled. -/
def State.unparkPeer (s : State) (i : Nat) (c : Card) (a : Asker) : Served :=
  let e := s.stay i
  match s.book i (c.pages e.tokens) with
  | none => .refused s 4
  | some s1 =>
    let (tag, s2) := s1.freshTag
    let s3 := s2.modStays (fun u => { u with moves := u.moves ++ [⟨i, a, 3, false, false, e.loc / 2 ^ 18, e.loc % 2 ^ 18, 1, 0, tag, 0, c.pages e.tokens⟩] })
    .done ((s3.modStay i (fun e => { e with state := 5 })).toInn (e.loc / 2 ^ 18) 0x36 e.party e.ownerRank (e.loc % 2 ^ 18) tag [])

/-- CLOSE (R213, R223): an EVICTED entry is freed at once; otherwise the stay is CLOSING, and who asked waits. -/
def State.closeStay (s : State) (i : Nat) (a : Asker) (f : Frame) : State :=
  let e := s.stay i
  if e.state = 9 then (((if e.twinValid then s.mirrorClose i else s).freeEntry i)).answer a 0x2E [0, 0, 0]
  else (s.modStay i (fun e => { e with state := 6 })).modStays (fun u => { u with
    waiting := u.waiting ++ [⟨i, a, f, none, none, if e.state = 4 then some e.loc else none, true⟩] })

/-! ### Order of service (R213) -/

/-- What R213's table says for a stay's state and a request. -/
inductive Rule where
  | perform
  | refuse (status : Nat)
  | atOnce
  | later
  deriving DecidableEq, Repr

/-- The table of R213. -/
def stateRule (state kind : Nat) : Rule :=
  match state with
  | 1 => if kind = 0x25 then .atOnce else .perform
  | 2 => if kind = 0x26 then .later else if kind = 0x24 ∨ kind = 0x25 then .refuse 5 else .refuse 3
  | 3 => if kind = 0x24 then .atOnce else if kind = 0x25 ∨ kind = 0x26 then .perform else .refuse 3
  | 4 => if kind = 0x24 then .atOnce else if kind = 0x25 ∨ kind = 0x26 then .perform else .refuse 3
  | 5 => if kind = 0x26 then .later else .refuse 5
  | 7 => .refuse 0x0B
  | 9 => if kind = 0x26 then .perform else .refuse 0x0A
  | _ => .refuse 1

/-- LENGTH and docket of a request match its kind (R211); APPEND and FORK are looked at against the card. -/
def docketOk (f : Frame) : Bool :=
  let p := f.payload
  if f.kind = 0x22 then true
  else bitsOf f.address 49 32 == 0 && decide (32 ≤ p.length) &&
    (if f.kind = 0x24 then p.length == 32 && (byteAt p 0 == 1 || byteAt p 0 == 2) && leAt p 1 11 == 0 && bitsOf (leAt p 12 2) 14 11 == 0 && leAt p 14 18 == 0
     else if f.kind = 0x25 then p.length == 32 && leAt p 3 29 == 0
     else if f.kind = 0x26 then p.length == 32 && leAt p 0 32 == 0
     else true)

/-- Refusals that every request meets first (R212, R234, R354, R398). -/
def State.closedTo (s : State) (kind : Nat) : Option Nat :=
  if !s.flag ST_CTRL_ENABLE ∨ s.halted then some 5 else if kind ≠ 0x26 ∧ s.stackLost 0 then some 7 else none

/-- A request on a stay, in its turn (R213). What would be mirrored, and a PARK, wait until a
REMIRROR has copied the stay (R231; log entry 143). -/
def State.request (s : State) (a : Asker) (f : Frame) : Served :=
  let i := f.address % 2 ^ 18
  let e := s.stay i
  match s.closedTo f.kind with
  | some n => .refused s n
  | none =>
    if !docketOk f then .refused s 6
    else if bitsOf f.address 31 18 ≠ e.gen ∨ stateRule e.state f.kind = .refuse 1 then .refused s 1
    else if e.party ≠ f.party then .refused s 2
    else match stateRule e.state f.kind with
      | .refuse n => .refused s n
      | .later => .waits s none
      | .atOnce =>
        if s.moving i then .refused s 5
        else if f.kind = 0x25 then .done (s.answer a 0x2D (natLE 3 e.tokens ++ natLE 3 0))
        else .done (s.answer a 0x2C (natLE 1 (if e.state = 3 then 1 else 2) ++ natLE 3 0))
      | .perform => match s.readCard i with
        | (none, s1) => if f.kind = 0x26 then .done (s1.closeStay i a f) else .refused s1 7
        | (some c, s1) =>
          if f.kind ≠ 0x22 ∧ f.kind ≠ 0x25 ∧ s1.remirroring i then .waits s1 none
          else if f.kind = 0x21 then s1.append i c a f.payload
          else if f.kind = 0x22 then s1.attend i c f
          else if f.kind = 0x23 then s1.fork i f
          else if f.kind = 0x24 then s1.park i c a f.payload
          else if f.kind = 0x25 then (if e.state = 3 then s1.unparkHost i c a f.payload else s1.unparkPeer i c a)
          else if s1.moving i then .waits s1 none
          else .done (s1.closeStay i a f)

/-- An earlier request of a stay waits, so later ones wait behind it (R213). -/
def State.blocked (s : State) (i : Nat) : Bool :=
  s.stays.waiting.any (fun w => w.index == i && w.frame.kind != 0x26 && w.attend.isNone)

/-- A request joins those that wait at its stay. -/
def State.wait (s : State) (i : Nat) (a : Asker) (f : Frame) (mend : Option Nat) : State :=
  s.modStays (fun u => { u with waiting := u.waiting ++ [⟨i, a, f, mend, none, none, false⟩] })

/-- A request names a stay of its own party by the entry's handle (R199, R210). -/
def State.names (s : State) (f : Frame) : Bool :=
  let e := s.stay (f.address % 2 ^ 18)
  bitsOf f.address 31 18 == e.gen && stateRule e.state f.kind != .refuse 1 && e.party == f.party

/-- A request on a stay is taken by its engine (R213); LAST_USE shows when (R200). -/
def State.takeRequest (s : State) (a : Asker) (f : Frame) : State :=
  let i := f.address % 2 ^ 18
  let s0 := if s.names f then s.stamp i else s
  if s0.blocked i then s0.wait i a f none
  else match s0.request a f with
    | .done s1 => s1
    | .refused s1 n => s1.refuse a f.kind n
    | .waits s1 m => s1.wait i a f m

/-! ### Twins at the twin (R229, R230, R232) -/

/-- The entry that a MIRROR frame names: for a FORK the source's mirror, in the payload (R230). -/
def mirrorIndex (f : Frame) : Nat := if bitsOf f.address 20 18 = 2 then leAt f.payload 32 4 % 2 ^ 18 else f.address % 2 ^ 18

/-- The MIRROR entry that a frame names, or the refusal (R230); after a takeover frames of the old home are refused 0x0B (R232). -/
def State.mirrorEntry (s : State) (f : Frame) : Except Nat Nat :=
  let i := mirrorIndex f
  let e := s.stay i
  match s.closedTo (if bitsOf f.address 20 18 = 3 then 0x26 else 0x30) with
  | some n => .error n
  | none =>
    if e.state = 7 ∧ e.twinCoord = f.srcCoord then (if e.party = f.party then .ok i else .error 2)
    else if e.state = 1 ∨ e.oldHome = some f.srcCoord then .error 0x0B
    else .error 1

/-- An acknowledgement by the twin. -/
def State.mirrorAnswer (s : State) (f : Frame) (n : Nat) : State := s.answer (.request f) 0x31 [BitVec.ofNat 8 n]

/-- The home of a new MIRROR entry. -/
def State.homeOf (s : State) (i : Nat) (f : Frame) (handle : Nat) : State :=
  s.modStay i (fun e => { e with twinValid := true, twinCoord := f.srcCoord, twinIndex := handle % 2 ^ 18 })

/-- A mirrored APPEND at the twin (R229, R230); a poisoned page is mended from the home. -/
def State.replay (s : State) (i : Nat) (f : Frame) : Served :=
  match s.readCard i with
  | (none, s1) => .refused s1 7
  | (some c, s1) => match s1.appendCore i c f.payload true with
    | .error x => x
    | .ok (_, s2) => .done ((s2.count (ST_CNT 1)).mirrorAnswer f 0)

/-- A mirrored FORK at the twin (R230). -/
def State.replayFork (s : State) (src : Nat) (f : Frame) : Served :=
  match s.readCard src with
  | (none, s1) => .refused s1 7
  | (some _, s0) => match s0.forkCore src 7 f.party f.srcRank (f.payload.take 32) none with
    | .error (n, s1) => .refused s1 n
    | .ok (i, _, s1) =>
      let s2 := s1.homeOf i f (leAt f.payload 36 4)
      .done (s2.answer (.request f) 0x31 ([0, 0, 0, 0] ++ natLE 4 (s2.handleOf i)))

/-- The room that a copied page of the twin is written to: its own where it stands alone, else a fresh one (R230). -/
def State.copyTarget (s : State) (c : Card) (i page : Nat) : Option Nat × State :=
  match s.pageRoom i page with
  | (none, s1) => (none, s1)
  | (some r, s0) =>
    let s1 := s0.readLedgers [r]
    if r ≠ 0 ∧ (s1.ledgerOf r).1 ≤ 1 then (some r, s1)
    else match State.appendRooms [(page, r)] s1 i c.lk with
      | none => (none, s1)
      | some s2 => s2.pageRoom i page

/-- A page of the twin written piece by piece (R230), acknowledged after piece 15; what TOKENS becomes is open within the page's block (log
entry 59). -/
def State.replayCopy (s : State) (i : Nat) (f : Frame) : Served :=
  let page := bitsOf f.address 44 21
  let k := bitsOf f.address 48 45
  let no := fun (s : State) (n : Nat) => if k = 15 then Served.refused s n else .done s
  if f.payload.length ≠ 4096 then no s 6
  else match s.readCard i with
    | (none, s1) => no s1 7
    | (some c, s0) => match s0.copyTarget c i page with
      | (none, s1) => no s1 4
      | (some r, s1) =>
        let s2 := s1.writePiece (r * 65536 + 4096 * k) f.payload f.poison
        if k ≠ 15 then .done s2
        else
          let t := page / c.lk * c.tpr + 1 + (Config.freeWord s2.freeCtr).toNat % c.tpr
          .done ((s2.nextFree.modStay i (fun e => { e with tokens := max e.tokens t })).mirrorAnswer f 0)

/-- An operation of the home replayed on its MIRROR entry (R229, R230); a CLOSE frees it as by CLOSE. -/
def State.mirrored (s : State) (f : Frame) : Served :=
  let op := bitsOf f.address 20 18
  if op = 2 ∧ f.payload.length ≠ 40 then .refused s 6
  else match s.mirrorEntry f with
    | .error n => if op = 4 ∧ bitsOf f.address 48 45 ≠ 15 then .done s else .refused s n
    | .ok i =>
      if op = 1 then s.replay i f
      else if op = 2 then s.replayFork i f
      else if op = 3 then (match s.closeChart i with
        | (none, s1) => .refused s1 7
        | (some _, s1) => .done ((s1.freeEntry i).mirrorAnswer f 0))
      else s.replayCopy i f

/-- A MIRROR frame of an operation is taken: in the home's order, behind what waits at its entry (R229). -/
def State.takeMirror (s : State) (op : Nat) (f0 : Frame) : State :=
  let f := { f0 with address := f0.address % 2 ^ 18 + op * 2 ^ 18 + f0.address / 2 ^ 21 * 2 ^ 21 }
  let i := mirrorIndex f
  if s.blocked i ∧ (s.mirrorEntry f).isOk then s.wait i (.request f) f none
  else match s.mirrored f with
    | .done s1 => s1
    | .refused s1 n => s1.mirrorAnswer f n
    | .waits s1 m => s1.wait i (.request f) f m

/-- A waiting request tried again. -/
def State.again (s : State) (w : Waiting) : Served :=
  match w.attend with
  | some a => match (a.rooms.find? (s.readLedgers a.rooms).roomBad) with
    | some r =>
      let page := ((((cardOf a.card).roomSet a.layer a.first a.last).zip a.rooms).find? (fun x => x.2 == r)).map (·.1)
      (s.readLedgers a.rooms).mendOr a.index (page.getD 0)
    | none => .done ((s.readLedgers a.rooms).modStays (fun u => { u with placing := u.placing ++ [a] }))
  | none => if w.frame.kind = 0x30 then s.mirrored w.frame else s.request w.asker w.frame

/-- The end of a waiting request that is refused: an ATTEND placed again also gives back its INFLIGHT (R219). -/
def State.dropWaiting (s : State) (w : Waiting) (status : Nat) : State :=
  match w.attend with
  | some a => (s.modStay a.index (fun e => { e with inflight := e.inflight - 1 })).refuse (.request a.frame) 0x22 status
  | none => s.refuse w.asker w.frame.kind status

/-- Requests waiting at a stay proceed in order until one must go on waiting (R213, R217). The fuel is their number. -/
def State.drain : Nat → State → Nat → State
  | 0, s, _ => s
  | n + 1, s, i => match takeFirst (fun (w : Waiting) => w.index == i && !w.closing) s.stays.waiting with
    | none => s
    | some (w, rest) =>
      if w.mend.isSome then s
      else
        let s0 := s.modStays (fun u => { u with waiting := rest })
        match s0.again w with
        | .done s1 => State.drain n s1 i
        | .refused s1 k => State.drain n (s1.dropWaiting w k) i
        | .waits s1 m =>
          let w1 : Waiting := { w with mend := m }
          s1.modStays (fun u => { u with waiting := u.waiting.takeWhile (fun x => x.index != i) ++ w1 :: u.waiting.dropWhile (fun x => x.index != i) })

/-- See `State.drain`. -/
def State.drainStay (s : State) (i : Nat) : State := State.drain (s.stays.waiting.length + 1) s i

end Sys2Proof.Machine
end

