-- ==== Sys2Proof/Machine/Stays.lean ====
section
/-! DEFINITION. The meanings of the room requests and of the stays registers (R210 to R224, R234). -/

namespace Sys2Proof.Machine

open Sys2Proof

/-- A frame handed to the innkeeper, which takes none while PHASE is 0x6 (R213). -/
def State.innServe (s : State) (f : Frame) (act : State → State) : Host.Outcome State Fault Refusal :=
  if s.phase = 6 then .next s else s.serve f act

/-- The queue of an engine, which serves the stays of its number mod 16, is full (R213). -/
def State.engineFull (s : State) (e : Nat) : Bool := decide (256 ≤ (s.stays.waiting.filter (fun w => w.index % 16 == e % 16)).length)

/-- A request on a stay (R213): left in the agent's queue while its engine holds 256. -/
def State.roomRequest (s : State) (f : Frame) : Host.Outcome State Fault Refusal :=
  if s.engineFull f.address then .next s else s.innServe f (fun s => s.takeRequest (.request f) f)

/-- OPEN (R213 to R215), by engine SRC_PORT mod 16. -/
def execOpen (f : Frame) (s : State) : Host.Outcome State Fault Refusal :=
  if s.engineFull f.srcPort then .next s
  else s.innServe f (fun s => match s.closedTo 0x20 with
    | some n => s.refuse (.request f) 0x20 n
    | none => match s.openStay f with
      | .done s1 => s1
      | .refused s1 n => s1.refuse (.request f) 0x20 n
      | .waits s1 _ => s1)

/-- APPEND (R216 to R218). -/
def execAppend (f : Frame) (s : State) : Host.Outcome State Fault Refusal := s.roomRequest f

/-- APPEND_RESUME (R217): what waits at a stay proceeds where it can. -/
def execAppendResume (index : Nat) (s : State) : Host.Outcome State Fault Refusal :=
  if s.phase = 6 then .next s else .next ((s.drainStay index).retryAgents)

/-- A query's frames agree (R219). -/
def queryBad (q : Query) (f : Frame) : Bool :=
  bitsOf f.address 47 44 != q.partsM1 || bitsOf f.address 39 0 != bitsOf q.frame.address 39 0 || bitsOf f.address 49 48 != 0 ||
  decide (q.partsM1 < bitsOf f.address 43 40)

/-- A query without a part. -/
def newQuery (f : Frame) (at_ : Nat) : Query :=
  { srcCoord := f.srcCoord, srcPort := f.srcPort, tag := f.tag, partsM1 := bitsOf f.address 47 44, frame := f, parts := [], at_ := at_,
    bad := false }

/-- A whole query is taken as an ATTEND (R219). -/
def State.queryDone (s : State) (q : Query) : State :=
  let ps := q.parts.map (·.2)
  let last := ps.getLastD []
  if q.bad || ps.dropLast.any (fun p => p.length != 4096) || last.isEmpty || decide (4096 < last.length) then
    s.refuse (.request q.frame) 0x22 6
  else
    let f := { q.frame with payload := ps.flatten }
    s.takeRequest (.request f) f

/-- ATTEND (R219): a frame of a query is assembled; at most 1,024 queries at once. The frame that completes one stays in the agent's queue while the
stay's engine holds 256 requests (R213). -/
def execAttend (f : Frame) (s : State) : Host.Outcome State Fault Refusal :=
  let mine := fun (q : Query) => q.srcCoord == f.srcCoord && q.srcPort == f.srcPort && q.tag == f.tag
  let held := ((s.stays.queries.find? mine).getD (newQuery f s.free))
  let last := (sparseErase held.parts (bitsOf f.address 43 40)).length == held.partsM1 && decide (bitsOf f.address 43 40 ≤ held.partsM1)
  if (1024 ≤ s.stays.queries.length ∧ !s.stays.queries.any mine) ∨ (last ∧ s.engineFull f.address) then .next s
  else s.innServe f (fun s =>
    let q0 := (s.stays.queries.find? mine).getD (newQuery f s.free)
    let q1 := { q0 with
      bad := q0.bad || queryBad q0 f,
      parts := if bitsOf f.address 43 40 ≤ q0.partsM1 then sparseInsert (bitsOf f.address 43 40) f.payload (sparseErase q0.parts (bitsOf f.address 43 40))
        else q0.parts }
    let rest := s.stays.queries.filter (fun q => !mine q)
    if q1.parts.length = q1.partsM1 + 1 then (s.modStays (fun u => { u with queries := rest })).queryDone q1
    else s.modStays (fun u => { u with queries := rest ++ [q1] }))

/-- ASSEMBLE_WAIT_EXPIRY (R219). -/
def execAssembleWaitExpiry (srcCoord srcPort tag : Nat) (s : State) : Host.Outcome State Fault Refusal :=
  match takeFirst (fun (q : Query) => q.srcCoord == srcCoord && q.srcPort == srcPort && q.tag == tag) s.stays.queries with
  | none => .next s
  | some (q, rest) =>
    if s.free < q.at_ + s.usOf ST_CTRL_ASSEMBLE_WAIT then .next s
    else .next (((s.modStays (fun u => { u with queries := rest })).refuse (.request q.frame) 0x22 6).retryAgents)

/-- FORK (R222). -/
def execFork (f : Frame) (s : State) : Host.Outcome State Fault Refusal := s.roomRequest f

/-- PARK (R213). -/
def execPark (f : Frame) (s : State) : Host.Outcome State Fault Refusal := s.roomRequest f

/-- UNPARK (R225, R227). -/
def execUnpark (f : Frame) (s : State) : Host.Outcome State Fault Refusal := s.roomRequest f

/-- CLOSE (R223). -/
def execClose (f : Frame) (s : State) : Host.Outcome State Fault Refusal := s.roomRequest f

/-- CLOSE_COMPLETE (R223): rooms and nodes are released, the twin or the guest is closed, the entry is freed, and the CLOSE that is being performed is
answered. Where a node of the chart is read as poison that CLOSE is refused 0x07 (R342) and the stay is OPEN again (log entry 175). -/
def execCloseComplete (index : Nat) (s : State) : Host.Outcome State Fault Refusal :=
  let e := s.stay index
  if e.state ≠ 6 ∨ e.inflight ≠ 0 ∨ s.phase = 6 then .next s
  else
    let mine := fun (w : Waiting) => w.index == index && w.closing
    let who := s.stays.waiting.find? mine
    let asker := (who.map (·.asker)).getD .nobody
    let s1 := s.modStays (fun u => { u with waiting := u.waiting.filter (fun w => !mine w) })
    match s1.closeChart index with
    | (none, s2) => .next ((((s2.modStay index (fun e => { e with state := 1 })).refuse asker 0x26 7).drainStay index).retryAgents)
    | (some n, s2) =>
      let s3 := if e.twinValid then s2.mirrorClose index else s2
      let s4 := match who.bind (·.guest) with
        | some loc =>
          let (tag, s') := s3.freshTag
          s'.toInn (loc / 2 ^ 18) 0x36 e.party e.ownerRank (loc % 2 ^ 18 + 2 ^ 18) tag []
        | none => s3
      let s5 := s4.freeEntry index
      .next (((s5.answer asker 0x2E (natLE 3 n)).drainStay index).retryAgents)

/-- ROOM_UNLISTED_KIND (R211). -/
def execRoomUnlistedKind (f : Frame) (s : State) : Host.Outcome State Fault Refusal :=
  s.innServe f (fun s =>
    if decide (0x20 ≤ f.kind ∧ f.kind ≤ 0x3F) && ([0x27, 0x38, 0x39, 0x3A, 0x3B, 0x3C, 0x3D, 0x3E, 0x3F].contains f.kind)
    then s.count (ST_CNT 11) else s)

/-- EVICT_THRESHOLD_WRITE (R234). -/
def execEvictThresholdWrite (value : Nat) (s : State) : Host.Outcome State Fault Refusal :=
  let w := (s.written ST_EVICT value).toNat
  if bitsOf w 31 16 ≤ bitsOf w 15 0 then .next (s.raise ST_ERR_EVICT_ORDER) else .next (s.writePlain ST_EVICT value)

/-- FREE_ROOMS counted anew (R209): the rooms of an area are not free. -/
def State.recount (s : State) : State :=
  if s.stays.counted then
    s.setFld ST_STATUS_FREE_ROOMS (((List.range 8).map (fun st => if s.stackLost st then 0 else s.freeInStack st)).foldl (· + ·) 0)
  else s

/-- AREA_WRITE (R224): discarded while ENABLE is 1. -/
def execAreaWrite (inbound : Bool) (value : Nat) (s : State) : Host.Outcome State Fault Refusal :=
  if s.flag ST_CTRL_ENABLE then .next (s.raise ST_ERR_AREA_BUSY)
  else .next ((s.writePlain (if inbound then ST_INBOUND else ST_STABLE) value).recount)

end Sys2Proof.Machine
end

