-- ==== Sys2Proof/Machine/Twins.lean ====
section
/-! DEFINITION. The meanings of parks, evictions, twins, lodging and recalls (R224 to R233). -/

namespace Sys2Proof.Machine

open Sys2Proof

/-! ### Long operations (R225, R226, R228) -/

/-- The move of a stay, if any. -/
def State.move? (s : State) (i : Nat) : Option Move := s.stays.moves.find? (fun m => m.index == i)

/-- A stay's move replaced or ended. -/
def State.setMove (s : State) (i : Nat) (m : Option Move) : State :=
  s.modStays (fun u => { u with moves := match m with
    | some m => u.moves.map (fun x => if x.index = i then m else x)
    | none => u.moves.filter (fun x => x.index != i) })

/-- An evicted stay with no place to go loses its rooms (R228); its booking is returned. -/
def State.evictDrop (s : State) (i : Nat) : State :=
  let s1 := (s.dropChart i).2
  ((s1.modStay i (fun e => { e with state := 9, booked := 0 })).count (ST_CNT 8)).setMove i none

/-- A park fails (R225, R226): the stay stays OPEN and the requester is refused 0x0C; an eviction tries the next target or drops. -/
def State.parkFails (s : State) (m : Move) (status : Nat) : State :=
  if m.evict then
    (if m.kind = 2 ∧ m.thenHost then s.setMove m.index (some { m with kind := 1, stage := 0 }) else s.evictDrop m.index)
  else (((s.setMove m.index none).modStay m.index (fun e => { e with state := 1 })).refuse m.asker 0x24 status).drainStay m.index

/-- Where a park to the host lies in the ring (R225), and the new HEAD; none where the ring lacks space. One room is left free, so that
HEAD = TAIL says empty (log entry 57). -/
def State.ringPlace (s : State) (n : Nat) : Option (Nat × Nat) :=
  let size := s.fld ST_STABLE_ROOMS
  let head := s.fld ST_STABLE_HEAD_HEAD
  let used := (head + size - s.fld ST_STABLE_TAIL_TAIL % size) % size
  let skip := if head + n ≤ size then 0 else size - head
  if size = 0 ∨ size ≤ used + skip + n then none
  else
    let off := if skip = 0 then head else 0
    some (off, (off + n) % size)

/-- The image header of a parked stay (R225). -/
def State.imageHeader (s : State) (i pages : Nat) : List Byte :=
  s.peek (cardAt i) 32 ++ natLE 4 (s.stay i).tokens ++ natLE 4 pages ++ natLE 4 (s.handleOf i) ++ natLE 2 s.coord ++ zeroBytes 2 ++ natLE 8 s.now

/-- PARK_TO_HOST (R225). -/
def execParkToHost (index : Nat) (s : State) : Host.Outcome State Fault Refusal :=
  match s.move? index with
  | none => .next s
  | some m =>
    let e := s.stay index
    if m.kind ≠ 1 ∨ e.inflight ≠ 0 ∨ s.phase = 6 then .next s
    else
      match s.readCard index with
      | (none, s0) => .next ((s0.parkFails m 7).retryAgents)
      | (some c, s0) =>
      let n := c.pages e.tokens
      match s.ringPlace (n + 1) with
      | none => .next ((s0.parkFails m 0x0C).retryAgents)
      | some (off, head) =>
        if !s.canNotify then .next ((s0.parkFails m 0x0C).retryAgents)
        else match State.roomsOf (List.range n) s0 index with
          | (none, s1) => .next ((s1.parkFails m 7).retryAgents)
          | (some rooms, s1) =>
            let base := s.fld ST_STABLE_BASE + off
            let s2 := (s1.zeroRoom base).poolWrite (base * 65536) (s.imageHeader index n)
            let s3 := rooms.zipIdx.foldl (fun s x => if x.1 = 0 then s.zeroRoom (base + 1 + x.2) else s.copyRoom x.1 (base + 1 + x.2)) s2
            let (k, s4) := s3.dropChart index
            let s5 := (s4.modStay index (fun e => { e with state := 3 })).setFld ST_STABLE_HEAD_HEAD head
            let s6 := (s5.notify (natLE 4 (s.handleOf index) ++ natLE 2 e.party ++ natLE 3 e.ownerRank ++ natLE 3 off ++ natLE 3 (n + 1) ++
              natLE 3 e.tokens)).count (ST_CNT 4)
            let s7 := if m.evict then s6.count (ST_CNT 7) else s6
            .next ((((s7.setMove index none).answer m.asker 0x2C (natLE 1 1 ++ natLE 3 k)).drainStay index).retryAgents)

/-- A peer park's end (R226): the state becomes PARKED_PEER with LOC. -/
def State.peerParked (s : State) (m : Move) : State :=
  let s1 := (s.dropChart m.index).2
  let s2 := (s1.modStay m.index (fun e => { e with state := 4, loc := m.peer * 2 ^ 18 + m.far })).count (ST_CNT 5)
  let s3 := if m.evict then s2.count (ST_CNT 7) else s2
  ((s3.setMove m.index none).answer m.asker 0x2C (natLE 1 2 ++ natLE 3 m.rooms)).drainStay m.index

/-- PARK_TO_PEER (R226): LODGE_BOOK goes to the peer. A card or a chart node that reads as poison refuses the park (R342). -/
def execParkToPeer (index : Nat) (s : State) : Host.Outcome State Fault Refusal :=
  match s.move? index with
  | none => .next s
  | some m =>
    let e := s.stay index
    if m.kind ≠ 2 ∨ m.stage ≠ 0 ∨ e.inflight ≠ 0 ∨ s.phase = 6 then .next s
    else
      match s.readCard index with
      | (none, s0) => .next ((s0.parkFails m 7).retryAgents)
      | (some c, s0) =>
        let n := c.pages e.tokens
        match State.roomsOf (List.range n) s0 index with
        | (none, s1) => .next ((s1.parkFails m 7).retryAgents)
        | (some _, s1) =>
          let (tag, s2) := s1.freshTag
          let s3 := (s2.setMove index (some { m with stage := 1, tag := tag, rooms := e.rooms, pages := n })).modStay index (fun e => { e with state := 2 })
          .next ((s3.toInn m.peer 0x32 e.party e.ownerRank 0 tag (s.peek (cardAt index) 32 ++ natLE 4 e.tokens ++ natLE 4 n ++
            natLE 4 (s.handleOf index))).retryAgents)

/-- LODGE_BOOK (R226). -/
def execLodgeBook (f : Frame) (s : State) : Host.Outcome State Fault Refusal :=
  s.innServe f (fun s =>
    let no := fun (n : Nat) => s.answer (.request f) 0x33 [BitVec.ofNat 8 n]
    let p := f.payload
    match s.closedTo 0x32 with
    | some n => no n
    | none =>
      if p.length ≠ 44 ∨ !cardValid (p.take 32) none ∨ leAt p 36 4 ≠ (cardOf (p.take 32)).pages (leAt p 32 4) then no 6
      else match s.freeIndex with
        | none => no 0x0D
        | some i =>
          let e0 := s.stay i
          let e1 : Stay := { freeStay with
            state := 8, party := f.party, gen := e0.gen, tokens := leAt p 32 4, ownerRank := f.srcRank,
            twinCoord := f.srcCoord, twinIndex := leAt p 40 4 % 2 ^ 18, lastUse := bitsOf s.now 43 28,
            priority := (cardOf (p.take 32)).priority }
          match (s.setStay i e1).book i (leAt p 36 4) with
          | none => no 4
          | some s1 => (s1.porterWrite (cardAt i) (p.take 32)).answer (.request f) 0x33 ([0, 0, 0, 0] ++ natLE 4 (s1.handleOf i)))

/-- LODGE_BOOKED (R226). -/
def execLodgeBooked (f : Frame) (s : State) : Host.Outcome State Fault Refusal :=
  s.innServe f (fun s =>
    match s.stays.moves.find? (fun m => m.kind == 2 && m.stage == 1 && m.peer == f.srcCoord && m.tag == f.tag) with
    | none => s
    | some m =>
      if byteAt f.payload 0 ≠ 0 then s.parkFails m 0x0C
      else
        let far := leAt f.payload 4 4 % 2 ^ 18
        let e := s.stay m.index
        let m1 := { m with far := far, stage := 2, page := 0 }
        let s1 := s.setMove m.index (some m1)
        if m.pages = 0 then s1.peerParked m1 else s1.sendPageOf m.index m.peer far 0 m.tag e.party)

/-- What a receiver of a page is to a frame's sender: the stay may take pages from it (R226, R227, R233, R421). -/
def State.takesPages (s : State) (c : Card) (i coord page : Nat) : Bool :=
  let e := s.stay i
  (e.state == 8 && e.twinCoord == coord && decide (page < c.pages e.tokens)) ||
  (match s.move? i with
    | some m => (m.kind == 3 || m.kind == 5) && m.peer == coord && m.page == page
    | none => false) ||
  (e.twinValid && e.twinCoord == coord && s.stays.waiting.any (fun w => w.index == i && w.mend == some page))

/-- Requests that wait for a page's mend are refused (R233). -/
def State.mendFails (s : State) (i page status : Nat) : State :=
  let hit := fun (w : Waiting) => w.index == i && w.mend == some page
  let s1 := s.modStays (fun u => { u with waiting := u.waiting.filter (fun w => !hit w) })
  ((s.stays.waiting.filter hit).foldl (fun s w => s.dropWaiting w status) s1).drainStay i

/-- The rooms of a stay's pages that were arriving are given back. -/
def State.dropArriving (s : State) (i : Nat) : State :=
  let mine := s.stays.arriving.filter (fun a => a.index == i)
  mine.foldl (fun s a => s.dropRef a.room) (s.modStays (fun u => { u with arriving := u.arriving.filter (fun a => a.index != i) }))

/-- A page has arrived whole (R226, R227, R233, R421). A mend that is poisoned itself, or that the chart cannot take, fails. -/
def State.pageArrived (s : State) (a : Arriving) : State :=
  let i := a.index
  let s1 := s.modStays (fun u => { u with arriving := u.arriving.filter (fun x => x != a) })
  if a.mend then
    if !(s1.roomPoison a.room).isEmpty then (s1.dropRef a.room).mendFails i a.page 7
    else match s1.pageRoom i a.page with
    | (none, s2) => (s2.dropRef a.room).mendFails i a.page 7
    | (some old, s2) => match s2.setPage i a.page a.room with
      | none => (s2.dropRef a.room).mendFails i a.page 4
      | some s3 =>
        let swap := fun (r : Nat) => if r = old then a.room else r
        let s4 := (if old = 0 then s3 else s3.dropRef old).count (ST_CNT 10)
        (s4.modStays (fun u => { u with waiting := u.waiting.map (fun w =>
          if w.index = i ∧ w.mend = some a.page then { w with
            mend := none, attend := w.attend.map (fun x => { x with rooms := x.rooms.map swap }) } else w) })).drainStay i
  else
    let restored := (s1.move? i).any (fun m => m.kind == 5)
    if restored && s1.zeroRoomAt a.room then s1.dropRef a.room
    else (s1.setPage i a.page a.room).getD s1

/-- A stay's pages have all come back (R227, R421): it serves requests again. -/
def State.returned (s : State) (m : Move) : State :=
  let e := s.stay m.index
  let s1 := (s.setMove m.index none).modStay m.index (fun e => { e with state := 1, loc := 0 })
  if m.kind = 5 then (s1.modHealth (fun h => { h with restoring := h.restoring.filter (· != m.index) })).drainStay m.index
  else ((s1.count (ST_CNT 6)).answer m.asker 0x2D (natLE 3 e.tokens ++ natLE 3 e.rooms)).drainStay m.index

/-- The next page of a return or a restore is expected, or the operation ends. -/
def State.nextPage (s : State) (i : Nat) : State :=
  match s.move? i with
  | none => s
  | some m =>
    if m.kind ≠ 3 ∧ m.kind ≠ 5 then s
    else if m.pages ≤ m.page + 1 then s.returned m
    else
      let s1 := s.setMove i (some { m with page := m.page + 1 })
      if m.kind = 5 then s1.recallPage i (m.page + 1) else s1

/-- LODGE (R226): a piece of a page; LODGE_ACK after piece 15. A mend for which no fresh room can be had ends, its request refused 0x04 (R233; log
entry 144). -/
def execLodge (f : Frame) (s : State) : Host.Outcome State Fault Refusal :=
  s.innServe f (fun s =>
    let i := f.address % 2 ^ 18
    let page := bitsOf f.address 41 18
    let k := bitsOf f.address 45 42
    let ack := fun (s : State) (n : Nat) => s.answer (.request f) 0x35 [BitVec.ofNat 8 n]
    match s.readCard i with
    | (none, s) => if k = 15 then ack s 7 else s
    | (some c, s) =>
    if !s.takesPages c i f.srcCoord page then (if k = 15 then ack s 1 else s)
    else if f.payload.length ≠ 4096 then (if k = 15 then ack s 6 else s)
    else
      let mend := s.stays.waiting.any (fun w => w.index == i && w.mend == some page) && (s.stay i).state != 8 &&
        !(s.move? i).any (fun m => m.kind == 3 || m.kind == 5)
      let start : Option (Arriving × State) :=
        match s.stays.arriving.find? (fun a => a.index == i && a.page == page) with
        | some a => some (a, s)
        | none => if k ≠ 0 then none else match s.alloc i page c.lk with
          | none => none
          | some (r, s1) =>
            let a : Arriving := ⟨i, page, r, mend⟩
            some (a, s1.modStays (fun u => { u with arriving := u.arriving ++ [a] }))
      match start with
      | none =>
        let s1 := if mend ∧ k = 0 then s.mendFails i page 4 else s
        if k = 15 then ack s1 4 else s1
      | some (a, s1) =>
        let s2 := s1.writePiece (a.room * 65536 + 4096 * k) f.payload f.poison
        if k ≠ 15 then s2
        else
          let s3 := ack (s2.pageArrived a) 0
          if a.mend then s3 else s3.nextPage i)

/-- The next page of a move is sent, or the move ends, once a page has been acknowledged. -/
def State.pageAcked (s : State) (m : Move) : State :=
  let e := s.stay m.index
  let s1 := s.dropPage m.index m.page
  if m.page + 1 < m.pages then (s1.setMove m.index (some { m with page := m.page + 1 })).sendPageOf m.index m.peer m.far (m.page + 1) m.tag e.party
  else if m.kind = 2 then s1.peerParked m
  else (((s1.setMove m.index none).dropChart m.index).2).freeEntry m.index

/-- LODGE_ACK (R226, R227): a status other than 0x00 acknowledges nothing (log entry 58). -/
def execLodgeAck (f : Frame) (s : State) : Host.Outcome State Fault Refusal :=
  s.innServe f (fun s =>
    match s.stays.moves.find? (fun m => (m.kind == 2 || m.kind == 4) && m.stage == 2 && m.peer == f.srcCoord && m.tag == f.tag &&
        m.far == f.address % 2 ^ 18 && m.page == bitsOf f.address 41 18) with
    | some m => if byteAt f.payload 0 = 0 then s.pageAcked m else s
    | none => s)

/-! ### Recalls (R227) -/

/-- A RECALLED reply. -/
def State.recalled (s : State) (f : Frame) (status : Nat) : State := s.answer (.request f) 0x37 [BitVec.ofNat 8 status]

/-- The guest that a RECALL names, held for its sender. -/
def State.guestOf (s : State) (f : Frame) : Option Nat :=
  let i := f.address % 2 ^ 18
  let e := s.stay i
  if e.state = 8 ∧ e.twinCoord = f.srcCoord ∧ e.party = f.party then some i else none

/-- RECALL_RETURN (R227): RECALLED, then every page as LODGE frames. -/
def execRecallReturn (f : Frame) (s : State) : Host.Outcome State Fault Refusal :=
  s.innServe f (fun s => match s.closedTo 0x36, s.guestOf f with
    | some n, _ => s.recalled f n
    | none, none => s.recalled f 1
    | none, some i =>
      if s.moving i then s.recalled f 5
      else
        let e := s.stay i
        match s.readCard i with
        | (none, s0) => s0.recalled f 7
        | (some c, s0) =>
          let n := c.pages e.tokens
          match State.roomsOf (List.range n) s0 i with
          | (none, s1) => s1.recalled f 7
          | (some _, s0) =>
            let s1 := s0.recalled f 0
            if n = 0 then s1.freeEntry i
            else
              let m : Move := ⟨i, .nobody, 4, false, false, f.srcCoord, e.twinIndex, 2, 0, f.tag, e.rooms, n⟩
              (s1.modStays (fun u => { u with moves := u.moves ++ [m] })).sendPageOf i f.srcCoord e.twinIndex 0 f.tag e.party)

/-- RECALL_DISCARD (R227). -/
def execRecallDiscard (f : Frame) (s : State) : Host.Outcome State Fault Refusal :=
  s.innServe f (fun s => match s.closedTo 0x26, s.guestOf f with
    | some n, _ => s.recalled f n
    | none, none => s.recalled f 1
    | none, some i => match s.closeChart i with
      | (none, s1) => s1.recalled f 7
      | (some _, s1) => (((s1.setMove i none).dropArriving i).freeEntry i).recalled f 0)

/-- A stay whose pages its partner may ask for (R227): a mirror, a guest, or a home with its twin; not where it holds no chart (log entry 142). -/
def Stay.lends (e : Stay) : Bool := e.state == 7 || e.state == 8 || ([1, 2, 5, 6].contains e.state && e.twinValid)

/-- RECALL_PAGE (R227, R233): one page of the partner's stay; a poisoned one is refused 0x07. -/
def execRecallPage (f : Frame) (s : State) : Host.Outcome State Fault Refusal :=
  s.innServe f (fun s =>
    let i := f.address % 2 ^ 18
    let e := s.stay i
    let page := bitsOf f.address 44 21
    match s.closedTo 0x36 with
    | some n => s.recalled f n
    | none =>
      if e.twinCoord ≠ f.srcCoord ∨ e.party ≠ f.party ∨ !e.lends then s.recalled f 1
      else match s.pageRoom i page with
        | (none, s1) => s1.recalled f 7
        | (some r, s0) =>
          let s1 := s0.readLedgers [r]
          if s1.roomBad r then s1.recalled f 7
          else (s1.recalled f 0).sendPage f.srcCoord e.twinIndex page (some r) f.tag e.party)

/-- A stay whose rooms cannot be brought back (R227, R421): EVICTED. -/
def State.lostAway (s : State) (m : Move) (status : Nat) : State :=
  let s1 := (((s.setMove m.index none).dropChart m.index).2).modStay m.index (fun e => { e with state := 9, booked := 0, loc := 0 })
  let s2 := s1.dropArriving m.index
  let s3 := s2.modHealth (fun h => { h with restoring := h.restoring.filter (· != m.index) })
  (if m.kind = 3 then s3.refuse m.asker 0x25 status else s3).drainStay m.index

/-- RECALLED (R227, R233, R421). RECALL's ADDRESS comes back in it. -/
def execRecalled (f : Frame) (s : State) : Host.Outcome State Fault Refusal :=
  s.innServe f (fun s =>
    let status := byteAt f.payload 0
    let op := bitsOf f.address 20 18
    if op = 0 then
      match s.stays.moves.find? (fun m => m.kind == 3 && m.stage == 1 && m.peer == f.srcCoord && m.tag == f.tag) with
      | none => s
      | some m =>
        if status ≠ 0 then s.lostAway m 0x0A
        else
          let m1 := { m with stage := 2 }
          let s1 := s.setMove m.index (some m1)
          if m.pages = 0 then s1.returned m1 else s1
    else if op = 2 ∧ status ≠ 0 then
      let page := bitsOf f.address 44 21
      let away := fun (i : Nat) => (s.stay i).twinCoord == f.srcCoord && (s.stay i).twinIndex == f.address % 2 ^ 18
      match s.stays.moves.find? (fun m => m.kind == 5 && m.page == page && m.peer == f.srcCoord && away m.index) with
      | some m => s.lostAway m 0x0A
      | none => match s.stays.waiting.find? (fun w => w.mend == some page && away w.index) with
        | some w => s.mendFails w.index page 7
        | none => s
    else s)

/-! ### Eviction (R228) -/

/-- Rooms free beyond the bookings. -/
def State.margin (s : State) : Nat := s.fld ST_STATUS_FREE_ROOMS - s.fld ST_STATUS_BOOKED_TOTAL

/-- Whether a stay may be chosen (R228). -/
def State.evictable (s : State) (i : Nat) : Bool :=
  let e := s.stay i
  e.state == 1 && decide (e.priority < 3) && e.inflight == 0 && !s.moving i && !s.stays.waiting.any (fun w => w.index == i) &&
    !s.stays.mirrors.any (fun m => m.index == i)

/-- The stay to go (R228): lowest PRIORITY, then oldest LAST_USE, then lowest INDEX. -/
def State.evictChoice (s : State) : Option Nat :=
  ((s.stays.table.map (·.1)).filter s.evictable).foldl (fun b i => match b with
    | none => some i
    | some j =>
      let (x, y) := (s.stay i, s.stay j)
      some (if x.priority < y.priority ∨ (x.priority = y.priority ∧ x.lastUse < y.lastUse) then i else j)) none

/-- EVICTION (R228): from below LOW until HIGH is reached, one stay at a time: none is chosen while another's park runs. -/
def execEviction (s : State) : Host.Outcome State Fault Refusal :=
  let low := 256 * s.fld ST_EVICT_LOW
  let high := 256 * s.fld ST_EVICT_HIGH
  if !s.flag ST_EVICT_ENABLE ∨ !s.stays.counted ∨ s.phase = 6 ∨ high ≤ s.margin ∨ (low ≤ s.margin ∧ !s.stays.evicting) then
    .next (s.modStays (fun u => { u with evicting := u.evicting && s.flag ST_EVICT_ENABLE && decide (s.margin < high) }))
  else
    let s0 := s.modStays (fun u => { u with evicting := true })
    match (if s.stays.moves.any (·.evict) then none else s0.evictChoice) with
    | none => .next s0
    | some i =>
      match s0.readCard i with
      | (none, s0) => .next (s0.evictDrop i)
      | (some c, s0) =>
      let park := fun (kind peer : Nat) (thenHost : Bool) => (s0.modStay i (fun e => { e with state := 2 })).modStays (fun u => { u with
        moves := u.moves ++ [⟨i, .nobody, kind, true, thenHost, peer, 0, 0, 0, 0, 0, 0⟩] })
      if c.evictTo = 0 then .next (s0.evictDrop i)
      else if c.evictTo = 1 then .next (park 1 0 false)
      else match c.peer with
        | some p => .next (park 2 p (c.evictTo == 3))
        | none => .next (if c.evictTo = 3 then park 1 0 false else s0.evictDrop i)

/-! ### Twins at the home (R215, R231) -/

/-- The twin of a stay is treated as lost (R231): counted and reported; MIRROR CLOSE where its INDEX is known. -/
def State.twinLost (s : State) (i : Nat) : State :=
  let s1 := if (s.stay i).twinValid then (s.mirrorClose i).modStay i (fun e => { e with twinValid := false }) else s
  (s1.count (ST_CNT 9)).fault 0x080 0x18 i

/-- The first page of a stay from `p` on that holds a room, `n` pages looked at; none where a chart node cannot be read. -/
def State.copyFrom : Nat → State → Nat → Nat → Option (Option (Nat × Nat)) × State
  | 0, s, _, _ => (some none, s)
  | n + 1, s, i, p => match s.pageRoom i p with
    | (none, s1) => (none, s1)
    | (some r, s1) => if r = 0 then State.copyFrom n s1 i (p + 1) else (some (some (p, r)), s1)

/-- ROOMCOPY of a page (R230): sixteen pieces, acknowledged once. -/
def State.sendCopy (s : State) (m : Mirroring) (page room : Nat) : State :=
  let e := s.stay m.index
  let (tag, s1) := s.freshTag
  let s2 := s1.modStays (fun u => { u with mirrors := u.mirrors ++ [{ m with tag := tag, op := 4, copy := some (page + 1), at_ := s.free }] })
  (List.range 16).foldl (fun s k =>
    let (b, bad, s3) := s.pieceOf (some room) k
    s3.agentSend 0 { blankFrame with kind := 0x30, vc := 0, destKind := 3, party := e.party, srcRank := e.ownerRank, dstCoord := e.twinCoord,
                                     dstPort := 0xF0, address := e.twinIndex + 4 * 2 ^ 18 + page * 2 ^ 21 + k * 2 ^ 45, tag := tag,
                                     payload := b, poison := bad }) s2

/-- An operation's reply, its stay mirrored or not (R215, R231). -/
def State.mirrorReply (s : State) (m : Mirroring) (good : Bool) : State :=
  let e := s.stay m.index
  match m.reply with
  | none => s
  | some (kind, docket) =>
    if kind = 0x29 then s.answer m.asker kind (if good then docket else spliceBytes docket 3 [BitVec.ofNat 8 (byteAt docket 3 + 1)])
    else s.granted m.index m.asker kind (if good then leAt docket 0 4 else 0) (good && e.twinValid)

/-- An OPEN or FORK whose twin refuses or keeps silent (R215); a REMIRROR's shows REMIRROR_FAIL, and what waited for it proceeds. -/
def State.mirrorOpenFails (s : State) (m : Mirroring) : State :=
  let s1 := s.twinLost m.index
  if m.reply.isNone then (s1.raise ST_ERR_REMIRROR_FAIL).drainStay m.index
  else if m.must then
    let s2 := ((s1.dropChart m.index).2).freeEntry m.index
    s2.refuse m.asker (if m.reply.any (fun r => r.1 == 0x28) then 0x20 else 0x23) 8
  else s1.mirrorReply m false

/-- The next page is copied, or the copying ends (R230, R231): an OPEN or FORK is granted; what waited for a REMIRROR proceeds. -/
def State.copyNext (s : State) (m : Mirroring) (p : Nat) : State :=
  match s.readCard m.index with
  | (none, s0) => s0.mirrorOpenFails m
  | (some c, s0) => match State.copyFrom (c.pages (s0.stay m.index).tokens - p) s0 m.index p with
    | (none, s1) => s1.mirrorOpenFails m
    | (some none, s1) => if m.reply.isNone then s1.drainStay m.index else s1.mirrorReply m true
    | (some (some (page, room)), s1) =>
      let s2 := s1.readLedgers [room]
      if s2.roomBad room then s2.mirrorOpenFails m else s2.sendCopy m page room

/-- A mirrored operation ends (R230, R231). -/
def State.mirrorEnds (s : State) (m : Mirroring) (status handle : Nat) : State :=
  let s1 := s.modStays (fun u => { u with mirrors := u.mirrors.filter (fun x => x != m) })
  if m.op = 1 then
    (if status = 0 then s1.mirrorReply m true
     else (if (s1.stay m.index).twinValid ∧ (s1.stay m.index).twinCoord = m.twin then s1.twinLost m.index else s1).mirrorReply m false)
  else if status ≠ 0 then s1.mirrorOpenFails m
  else if m.op = 4 then s1.copyNext m (m.copy.getD 0)
  else
    let s2 := s1.modStay m.index (fun e => { e with twinValid := true, twinCoord := m.twin, twinIndex := handle % 2 ^ 18 })
    let m1 := { m with reply := m.reply.map (fun r => (r.1, natLE 4 handle)) }
    match m.copy with
    | some p => s2.copyNext m1 p
    | none => s2.mirrorReply m1 true

/-- MIRROR_ACK (R230, R231). -/
def execMirrorAck (f : Frame) (s : State) : Host.Outcome State Fault Refusal :=
  s.innServe f (fun s =>
    match s.stays.mirrors.find? (fun m => m.tag == f.tag && m.twin == f.srcCoord) with
    | none => s
    | some m => s.mirrorEnds m (byteAt f.payload 0) (leAt f.payload 4 4))

/-- MIRROR_WAIT_EXPIRY (R215, R231): the oldest operation of a stay without an answer; not in PHASE 0x6 (R213). -/
def execMirrorWaitExpiry (index : Nat) (s : State) : Host.Outcome State Fault Refusal :=
  match s.stays.mirrors.find? (fun m => m.index == index) with
  | none => .next s
  | some m => if m.at_ + s.usOf ST_CTRL_MIRROR_WAIT ≤ s.free ∧ s.phase ≠ 6 then .next ((s.mirrorEnds m 8 0).retryAgents) else .next s

/-- REMIRROR (R231): MIRROR OPEN to the new twin, then ROOMCOPY of every page. -/
def execRemirror (value : Nat) (s : State) : Host.Outcome State Fault Refusal :=
  let s1 := s.writePlain ST_REMIRROR value
  let i := s1.fld ST_REMIRROR_INDEX
  let t := s1.fld ST_REMIRROR_TWIN
  if (s1.stay i).state ≠ 1 ∨ (s1.stay i).twinValid ∨ t = s1.coord then .next s1
  else match s1.readCard i with
    | (none, s2) => .next ((s2.raise ST_ERR_REMIRROR_FAIL).retryAgents)
    | (some _, s2) => .next ((s2.mirror i t 0 0 (s2.peek (cardAt i) 32 ++ natLE 4 (s2.handleOf i)) .nobody none false (some 0)).retryAgents)

/-! ### Twins at the twin (R229, R230) -/

/-- MIRROR_OPEN (R230). -/
def execMirrorOpen (f : Frame) (s : State) : Host.Outcome State Fault Refusal :=
  s.innServe f (fun s => match s.closedTo 0x30 with
    | some n => s.mirrorAnswer f n
    | none =>
      let p := f.payload
      if p.length ≠ 36 ∨ !cardValid (p.take 32) none then s.mirrorAnswer f 6
      else
        let c := cardOf (p.take 32)
        match s.takeEntry 7 f.party f.srcRank (p.take 32) (c.pages c.reserve) with
        | .error n => s.mirrorAnswer f n
        | .ok (i, s1) =>
          let s2 := s1.homeOf i f (leAt p 32 4)
          s2.answer (.request f) 0x31 ([0, 0, 0, 0] ++ natLE 4 (s2.handleOf i)))

/-- MIRROR_APPEND (R229, R230). -/
def execMirrorAppend (f : Frame) (s : State) : Host.Outcome State Fault Refusal := s.innServe f (fun s => s.takeMirror 1 f)

/-- MIRROR_FORK (R230). -/
def execMirrorFork (f : Frame) (s : State) : Host.Outcome State Fault Refusal := s.innServe f (fun s => s.takeMirror 2 f)

/-- MIRROR_CLOSE (R230). -/
def execMirrorClose (f : Frame) (s : State) : Host.Outcome State Fault Refusal := s.innServe f (fun s => s.takeMirror 3 f)

/-- MIRROR_ROOMCOPY (R230). -/
def execMirrorRoomcopy (f : Frame) (s : State) : Host.Outcome State Fault Refusal := s.innServe f (fun s => s.takeMirror 4 f)

/-! ### Takeover (R232) -/

/-- A MIRROR entry is taken over (R232): OPEN without a twin, or freed as by CLOSE; what the old home has sent and waits there is refused. -/
def State.takeOver (s : State) (i : Nat) : State :=
  let mine := fun (w : Waiting) => w.index == i && w.frame.kind == 0x30
  let s1 := ((s.stays.waiting.filter mine).foldl (fun s w => s.mirrorAnswer w.frame 0x0B)
    (s.modStays (fun u => { u with waiting := u.waiting.filter (fun w => !mine w) }))).dropArriving i
  if s1.flag ST_TAKEOVER_DISCARD then ((s1.dropChart i).2).freeEntry i
  else s1.modStay i (fun e => { e with state := 1, twinValid := false, oldHome := some e.twinCoord })

/-- TAKEOVER_GO (R232): a GO written while a takeover runs is discarded. -/
def execTakeoverGo (value : Nat) (s : State) : Host.Outcome State Fault Refusal :=
  if s.flag ST_TAKEOVER_STATUS_BUSY then .next s
  else
    let s1 := s.writePlain ST_TAKEOVER value
    let hits := (s1.stays.table.map (·.1)).filter (fun i =>
      (s1.stay i).state == 7 && (if s1.flag ST_TAKEOVER_ONE then i == s1.fld ST_TAKEOVER_INDEX else (s1.stay i).twinCoord == s1.fld ST_TAKEOVER_HOME))
    let s2 := hits.foldl State.takeOver s1
    .next (((s2.raise ST_TAKEOVER_STATUS_BUSY).modStays (fun u => { u with taken := hits.length })).retryAgents)

/-- TAKEOVER_DONE (R232). -/
def execTakeoverDone (s : State) : Host.Outcome State Fault Refusal :=
  if s.flag ST_TAKEOVER_STATUS_BUSY then .next ((s.setFld ST_TAKEOVER_STATUS_BUSY 0).setFld ST_TAKEOVER_STATUS_DONE s.stays.taken) else .next s

end Sys2Proof.Machine
end

