-- ==== Sys2Proof/Machine/Local.lean ====
section
/-! DEFINITION. A core's local address space and the extents that descriptors name (R269 to R280, R307, R309, R310). -/

namespace Sys2Proof.Machine

open Sys2Proof

/-- A core's state. -/
def State.core (s : State) (c : Nat) : Core := s.clusters.cores.getD c coreReset

/-- A core changed. -/
def State.modCore (s : State) (c : Nat) (f : Core → Core) : State :=
  s.modClusters (fun u => { u with cores := modifyAt f c u.cores })

/-- A slot of a core changed. -/
def State.modSlot (s : State) (c n : Nat) (f : Slot → Slot) : State := s.modCore c (fun k => { k with slots := modifyAt f n k.slots })

/-! ### Local bytes (R270) -/

/-- Bytes of the operand buffer, and of the whole local space. -/
def bufferBytes : Nat := 4194304

/-- See `bufferBytes`. -/
def localBytes : Nat := 10485760

/-- Bytes of a core's local space: its operand buffer, then the shared area of its cluster. -/
def State.localRead (s : State) (c a n : Nat) : List Byte :=
  if a < bufferBytes then sparseRead 0 (s.core c).buf a n
  else sparseRead 0 (s.clusters.shared.getD (c / 4) []) (a - bufferBytes) n

/-- Bytes written to a core's local space. -/
def State.localWrite (s : State) (c a : Nat) (bs : List Byte) : State :=
  if a < bufferBytes then s.modCore c (fun k => { k with buf := sparseWrite 0 k.buf a bs })
  else s.modClusters (fun u => { u with shared := modifyAt (fun m => sparseWrite 0 m (a - bufferBytes) bs) (c / 4) u.shared })

/-- Bytes that no rule gives: one free value each (log entry 2). -/
def freeList (ctr n : Nat) : List Byte := (List.range n).map (fun i => (Config.freeWord (ctr + i)).setWidth 8)

/-- `n` bytes that no rule gives. -/
def State.takeFree (s : State) (n : Nat) : List Byte × State := (freeList s.freeCtr n, s.skipFree n)

/-! ### Extents (R278) -/

/-- An extent of local space: byte address, element format, rows, elements per row, bytes from row to row, and the descriptor of
its scales. -/
structure Extent where
  base : Int
  fmt : Nat
  rows : Nat
  cols : Nat
  pitch : Nat
  scales : Nat
  deriving DecidableEq, Repr

/-- Bits of an element (R307). -/
def fmtBits (f : Nat) : Nat :=
  if f = 0 ∨ f = 10 then 32 else if f = 1 ∨ f = 2 then 16 else if f = 6 ∨ f = 7 then 6 else if f = 8 ∨ f = 9 then 4 else 8

/-- A format whose elements carry block scales. -/
def isMx (f : Nat) : Bool := decide (3 ≤ f ∧ f ≤ 9)

/-- Bytes of a row of elements (R309). -/
def rowBytes (f cols : Nat) : Nat := ceilDiv (cols * fmtBits f) 8

/-- The extent that a descriptor names under the X registers of an instruction (R278). -/
def extentOf (b : StoreBank) (xs : List Nat) (d : Nat) : Extent :=
  let (u, v) := b.descs.getD d (0, 0)
  let x := xs.getD (bitsOf u 23 20) 0
  let i := if bitsOf u 28 25 = 0 then x else x % 2 ^ bitsOf u 28 25
  let la : Int := bitsOf u 18 0 + (if u.testBit 19 then 6400 * xs.getD 0 0 else 0) +
    (if u.testBit 24 then (i : Int) * toSigned 19 (bitsOf u 47 29) else 0)
  let fmt := bitsOf u 51 48
  let cols := bitsOf v 31 16 + 1
  { base := 32 * la, fmt := fmt, rows := bitsOf v 15 0 + 1, cols := cols,
    pitch := if bitsOf v 47 32 = 0 then rowBytes fmt cols else bitsOf v 47 32, scales := bitsOf v 57 48 }

/-- Byte address of a row. -/
def Extent.row (e : Extent) (r : Nat) : Nat := (e.base + r * e.pitch).toNat

/-- Bytes of a row of the extent. -/
def Extent.len (e : Extent) : Nat := rowBytes e.fmt e.cols

/-- The whole extent lies within one region of R270. -/
def Extent.inRegion (e : Extent) : Bool :=
  let last := e.base + (e.rows - 1) * e.pitch + e.len
  (decide (0 ≤ e.base) && decide (last ≤ bufferBytes)) || (decide ((bufferBytes : Int) ≤ e.base) && decide (last ≤ localBytes))

/-- The rows of the extent: byte address and length. -/
def Extent.spans (e : Extent) : List (Nat × Nat) := (List.range e.rows).map (fun r => (e.row r, e.len))

/-- Elements of a packed row (R309). -/
def unpack (f n : Nat) (bs : List Byte) : List Nat :=
  let w := leNat bs
  (List.range n).map (fun j => w / 2 ^ (fmtBits f * j) % 2 ^ fmtBits f)

/-- A row of elements packed (R309). -/
def pack (f : Nat) (codes : List Nat) : List Byte :=
  natLE (rowBytes f codes.length) (codes.foldr (fun c w => c % 2 ^ fmtBits f + 2 ^ fmtBits f * w) 0)

/-- The element codes of an extent, row by row. -/
def State.readCodes (s : State) (c : Nat) (e : Extent) : List (List Nat) :=
  (List.range e.rows).map (fun r => unpack e.fmt e.cols (s.localRead c (e.row r) e.len))

/-- The bytes of an extent, row after row. -/
def State.readBytes (s : State) (c : Nat) (e : Extent) : List Byte :=
  (List.range e.rows).flatMap (fun r => s.localRead c (e.row r) e.len)

/-- Rows of element codes written to an extent. -/
def State.writeCodes (s : State) (c : Nat) (e : Extent) (rows : List (List Nat)) : State :=
  rows.zipIdx.foldl (fun s r => s.localWrite c (e.row r.2) (pack e.fmt r.1)) s

/-- Bytes written to an extent, row after row. -/
def State.writeBytes (s : State) (c : Nat) (e : Extent) (bs : List Byte) : State :=
  (List.range e.rows).foldl (fun s r => s.localWrite c (e.row r) ((bs.drop (r * e.len)).take e.len)) s

/-- The scale bytes of an MX extent of `e`'s shape (R310): one row of ⌈columns ÷ 32⌉ for each element row. -/
def Extent.scaleShape (e se : Extent) : Extent := { se with fmt := 0xB, rows := e.rows, cols := ceilDiv e.cols 32 }

/-- Element codes and scale rows of an operand. -/
def State.readOperand (s : State) (c : Nat) (b : StoreBank) (xs : List Nat) (d : Nat) : Extent × List (List Nat) × List (List Nat) :=
  let e := extentOf b xs d
  (e, s.readCodes c e, if isMx e.fmt then s.readCodes c (e.scaleShape (extentOf b xs e.scales)) else [])

/-- An element of a matrix of codes. -/
def cell (m : List (List Nat)) (r j : Nat) : Nat := (m.getD r []).getD j 0

end Sys2Proof.Machine
end

