-- ==== Sys2Proof/Machine/Engine.lean ====
section
/-! DEFINITION. The arithmetic of the engine, the vector unit and the transposer (R236 to R241, R307 to R323) on element codes. -/

namespace Sys2Proof.Machine

open Sys2Proof

/-! ### Flags of CL_NUMFLAGSc (R325), as bit numbers -/

/-- A set of flags as the bits of a number. -/
def flagIf (b : Bool) (i : Nat) : Nat := if b then 2 ^ i else 0

/-! ### The engine (R311 to R313) -/

/-- Depth elements per cycle (R238): set by the wider operand. -/
def depthStep (fa fb : Nat) : Nat :=
  let w := max (fmtBits fa) (fmtBits fb)
  if w = 16 then 32 else if w = 4 then 128 else 64

/-- An operand element without its scale. -/
def elemVal (f code : Nat) : FVal :=
  if isMx f then mxElement f code
  else match fpOfFmt f with
    | some t => fpDecode t code
    | none => ofInt (toSigned 32 code) 0

/-- The exact sum of values, from +0. -/
def sumVals (vs : List FVal) : FVal := vs.foldl fadd (.fin false 0 0)

/-- What a group of depth elements brings into the step sum (R312): the value, its flags, groups flushed, groups saturated. A NaN
or ∞ among the elements goes in as R313 says, whatever the scales. -/
def groupVal (fa fb : Nat) (as bs : List Nat) (sa sb : Option Nat) : FVal × Nat × Nat × Nat :=
  if sa = some 0xFF ∨ sb = some 0xFF then (.nan, 4, 0, 0)
  else
    let x : Int := (match sa with
      | some v => (v : Int) - 127
      | none => 0) + (match sb with
      | some v => (v : Int) - 127
      | none => 0)
    match sumVals ((as.zip bs).map (fun p => fmul (elemVal fa p.1) (elemVal fb p.2))) with
    | .fin n m e =>
      if m = 0 then (.fin false 0 0, 0, 0, 0)
      else if x < -126 then (.fin n 0 0, 1, 1, 0)
      else if 127 < x then (.fin n (2 ^ 24 - 1) 104, 2, 0, 1)
      else (.fin n m (e + x), 0, 0, 0)
    | v => (v, 0, 0, 0)

/-- An FP32 sum with a zero made +0 (R311), and whether finite values overflowed. -/
def accumulate (acc : Nat) (v : FVal) : Nat × Bool :=
  let (b, o) := fpRound fp32 (fadd (val32 acc) v)
  (if b = 0x80000000 then 0 else b, o)

/-- The groups of 32 of a row of codes. -/
def groups {α : Type} (n : Nat) (row : List α) : List (List α) := (List.range (ceilDiv row.length n)).map (fun g => (row.drop (g * n)).take n)

/-- One element of an array product (R311): the FP32 bits, the flags, groups flushed and saturated. -/
def productCell (fa fb start : Nat) (a b sa sb : List Nat) : Nat × Nat × Nat × Nat :=
  let gs := ((groups 32 a).zip (groups 32 b)).zipIdx.map (fun g =>
    groupVal fa fb g.1.1 g.1.2 (if isMx fa then some (sa.getD g.2 0) else none) (if isMx fb then some (sb.getD g.2 0) else none))
  let steps := groups (depthStep fa fb / 32) gs
  steps.foldl (fun acc st =>
    let (v, o) := accumulate acc.1 (sumVals (st.map (·.1)))
    (v, st.foldl (fun f g => f ||| g.2.1) (acc.2.1 ||| flagIf o 3), acc.2.2.1 + (st.map (·.2.2.1)).sum, acc.2.2.2 + (st.map (·.2.2.2)).sum))
    (start, 0, 0, 0)

/-- An array product (R284, R311): the rows of D, flags, groups flushed and saturated. -/
def product (fa fb : Nat) (a b sa sb : List (List Nat)) (start : List (List Nat)) : List (List Nat) × Nat × Nat × Nat :=
  let cells := a.zipIdx.map (fun ra => b.zipIdx.map (fun rb =>
    productCell fa fb (cell start ra.2 rb.2) ra.1 rb.1 (sa.getD ra.2 []) (sb.getD rb.2 [])))
  let flat := cells.flatMap id
  (cells.map (fun r => r.map (·.1)), flat.foldl (fun f c => f ||| c.2.1) 0, (flat.map (·.2.2.1)).sum, (flat.map (·.2.2.2)).sum)

/-! ### Operands of the vector unit (R315) -/

/-- An element widened to FP32: its bits and flags. -/
def widen32 (f code scale : Nat) : Nat × Nat :=
  if f = 0 then (code, 0)
  else if isMx f then
    if scale = 0xFF then (fpNan fp32, 4)
    else match mxValue f code scale with
      | .fin n m e =>
        let (b, o) := fpRound fp32 (.fin n m e)
        if o then ((if n then 2 ^ 31 else 0) + (fpInf fp32 - 1), 2) else (b, 0)
      | v => (round32 v, 0)
  else if f = 10 then
    let i := toSigned 32 code
    let b := round32 (ofInt i 0)
    (if toIntRne (val32 b) = i then b else (Config.intWiden (BitVec.ofNat 32 code)).toNat, 0)
  else if f = 11 then (if code = 0xFF then (fpNan fp32, 4) else (round32 (.fin false 1 ((code : Int) - 127)), 0))
  else match fpOfFmt f with
    | some t => (round32 (fpDecode t code), 0)
    | none => (code, 0)

/-- A matrix of codes widened to FP32, and the flags met. -/
def widenAll (f : Nat) (codes scales : List (List Nat)) : List (List Nat) × Nat :=
  let m := codes.zipIdx.map (fun r => r.1.zipIdx.map (fun x => widen32 f x.1 (cell scales r.2 (x.2 / 32))))
  (m.map (fun r => r.map (·.1)), (m.flatMap id).foldl (fun g x => g ||| x.2) 0)

/-! ### Results of the vector unit (R315 to R317, R320) -/

/-- Where the histogram counts an element (R320). -/
inductive Place where
  | nonfin
  | sat
  | zero
  | sub
  | bin (e : Int)
  deriving DecidableEq, Repr

/-- Place of a written value that neither saturated nor came from a NaN or ∞. -/
def placeOf (subnormal : Bool) (v : FVal) : Place :=
  match v with
  | .fin _ m e => if m = 0 then .zero else if subnormal then .sub else .bin ((Nat.log2 m : Int) + e)
  | _ => .nonfin

/-- Whether a code of a floating-point format is subnormal. -/
def isSubnormal (f code : Nat) : Bool :=
  match fpOfFmt f with
  | some t => code / 2 ^ t.mb % 2 ^ t.eb == 0 && code % 2 ^ t.mb != 0
  | none => false

/-- An FP32 result converted to a format without block scales (R316): the code, the flags, its place. -/
def convert32 (f b : Nat) : Nat × Nat × Place :=
  let v := val32 b
  let nf := match v with
    | .fin .. => false
    | _ => true
  if f = 10 then
    match v with
    | .nan => (0, 32, .nonfin)
    | .inf n => (if n then 2 ^ 31 else 2 ^ 31 - 1, 32, .nonfin)
    | .fin n m e =>
      let (i, cut) := clampInt 32 (toIntRne (.fin n m e))
      (ofSigned 32 i, flagIf cut 4, if cut then .sat else placeOf false (ofInt i 0))
  else match fpOfFmt f with
    | some t =>
      let (q, cut) := fpRound t v
      let q := if f = 0 ∧ !nf then b else q
      (q, flagIf cut 4, if nf then .nonfin else if cut then .sat else placeOf (isSubnormal f q) (fpDecode t q))
    | none => (b, 0, .nonfin)

/-- A row of FP32 results encoded in an MX format (R317): codes, scales, flags, places. -/
def encodeRow (f : Nat) (row : List Nat) : List Nat × List Nat × Nat × List Place :=
  (groups 32 row).foldl (fun acc g =>
    let (x, es) := mxBlock f (g.map val32)
    let fl := es.foldl (fun a e => a ||| flagIf e.2.1 4 ||| flagIf e.2.2 5) acc.2.2.1
    let ps := es.map (fun e => if e.2.2 then .nonfin else if e.2.1 then .sat else placeOf (isSubnormal f e.1) (mxValue f e.1 x))
    (acc.1 ++ es.map (·.1), acc.2.1 ++ [x], fl, acc.2.2.2 ++ ps)) ([], [], 0, [])

/-! ### Histograms (R320 to R323) -/

/-- A histogram count raised, held at its top; the flag HIST_SAT where it reaches it (R321). -/
def bump (n k : Nat) : Nat × Nat := (min (n + k) 0xFFFFFFFF, flagIf (decide (0 < k ∧ 0xFFFFFFFF ≤ n + k)) 6)

/-- An element counted in an accumulator (R320), with the flags. -/
def Hist.add (h : Hist) (p : Place) : Hist × Nat :=
  let (t, f0) := bump h.total 1
  let h1 := { h with total := t }
  match p with
  | .nonfin => let (n, f) := bump h.nonfin 1; ({ h1 with nonfin := n }, f0 ||| f)
  | .sat => let (n, f) := bump h.sat 1; ({ h1 with sat := n }, f0 ||| f)
  | .zero => let (n, f) := bump h.zero 1; ({ h1 with zero := n }, f0 ||| f)
  | .sub => let (n, f) := bump h.sub 1; ({ h1 with sub := n }, f0 ||| f)
  | .bin e =>
    let i := min 63 (e - h.base).toNat
    let (n, f) := bump (h.bins.getD i 0) 1
    ({ h1 with bins := modifyAt (fun _ => n) i h1.bins }, f0 ||| f)

/-- The 72 words that HISTOUT writes (R321), with the flags. -/
def Hist.words (h : Hist) (ufl ofl : Nat) : List Nat × Nat :=
  let (b0, f0) := bump (h.bins.getD 0 0) ufl
  let (b63, f1) := bump (h.bins.getD 63 0) ofl
  (b0 :: ((h.bins.drop 1).take 62 ++ [b63, h.zero, h.sub, h.sat, h.nonfin, h.total, ofSigned 32 h.base, ufl, ofl]), f0 ||| f1)

/-! ### Operations of the vector unit (R286, R315) -/

/-- Pairs of neighbours combined, an odd last one kept. -/
def pairUp (f : Nat → Nat → Nat) : List Nat → List Nat
  | [] => []
  | [a] => [a]
  | a :: b :: l => f a b :: pairUp f l

/-- A pairwise tree over values in order; the fuel is their number. -/
def treeFold (f : Nat → Nat → Nat) : Nat → List Nat → Nat
  | 0, l => l.getD 0 0
  | n + 1, l => if l.length ≤ 1 then l.getD 0 0 else treeFold f n (pairUp f l)

/-- The sum of a row by the fixed pairwise tree of R241, whose shape is left open (log entry 70). -/
def treeSum (row : List Nat) : Nat :=
  let o := Config.treeOrder row.length
  let l := if o.length = row.length ∧ (List.range row.length).all o.contains then o.map (fun i => row.getD i 0) else row
  treeFold add32 row.length l

/-- Maximum, or minimum, of two FP32 values (R315). -/
def max32 (a b : Nat) : Nat := round32 (fmaxVal (val32 a) (val32 b))

/-- See `max32`. -/
def min32 (a b : Nat) : Nat := round32 (fminVal (val32 a) (val32 b))

/-- VSEL's condition on A (R285). -/
def selects (sub a : Nat) : Bool :=
  match val32 a with
  | .nan => sub == 2 || sub == 3
  | .inf n => (sub == 0 && n) || (sub == 1 && n) || sub == 3
  | .fin n m _ => (sub == 1 && n && m != 0) || (sub == 3 && m != 0)

/-- An element of a vector result (R286): opcode, SUB, whether the position is masked, A, B, C. -/
def vectorElem (op sub : Nat) (masked : Bool) (a b c : Nat) : Nat :=
  if op = 0x30 then add32 a b
  else if op = 0x31 then mul32 a b
  else if op = 0x32 then fma32 a b c
  else if op = 0x33 then max32 a b
  else if op = 0x34 then min32 a b
  else if op = 0x35 then (if selects sub a then b else c)
  else if op = 0x36 then (if a = 0xFF800000 then 0 else exp32 (sub32 a b))
  else if op = 0x37 then rcp32 a
  else if op = 0x38 then a
  else if masked then 0xFF800000 else mul32 a b

/-- A row reduced by SUB (R286): sum, max or min. -/
def reduceRow (sub : Nat) (row : List Nat) : Nat :=
  if sub = 0 then treeSum row else treeFold (if sub = 1 then max32 else min32) row.length row

/-- An operand element under its mode (R285): as D, one a row, one, or IMM. -/
def modeElem (mode imm : Nat) (m : List (List Nat)) (r j : Nat) : Nat :=
  if mode = 0 then cell m r j else if mode = 1 then cell m r 0 else if mode = 2 then cell m 0 0 else imm

/-! ### The transposer (R252, R287) -/

/-- A matrix turned over. -/
def transpose (cols : Nat) (m : List (List Nat)) : List (List Nat) := (List.range cols).map (fun j => m.map (fun r => r.getD j 0))

/-- An MX element widened to BF16 (R252): exact where BF16 holds the value, saturated above its range and flushed to signed zero
below it, with the flags of R312. -/
def widenBf16 (f code scale : Nat) : Nat × Nat :=
  if scale = 0xFF then (fpNan bf16, 4)
  else match mxValue f code scale with
    | .fin n m e =>
      let s := if n then 2 ^ 15 else 0
      let (q, o) := fpRound bf16 (.fin false m e)
      if o then (s + (fpInf bf16 - 1), 2)
      else match fadd (fpDecode bf16 q) (.fin true m e) with
        | .fin _ d _ => if d = 0 then (s + q, 0) else (s, 1)
        | _ => (s, 1)
    | v => ((fpRound bf16 v).1, 0)

end Sys2Proof.Machine
end

