-- ==== Sys2Proof/Machine/CoreOps.lean ====
section
/-! DEFINITION. What the sequencers and clusters share (R244 to R296): fields of instructions and entries, chits, faults, dispatch,
races, quarantine, the end of a work. -/

namespace Sys2Proof.Machine

open Sys2Proof

/-! ### Registers of a core's cluster -/

/-- A counter of a core's cluster raised (R268). -/
def State.clCount (s : State) (c i : Nat) : State := s.count (CL_CNT (c / 4) i)

/-- Flags of CL_NUMFLAGSc set (R325); one that is 1 already is set again (R13). -/
def State.numFlags (s : State) (c fl : Nat) : State :=
  (s.setReg (CL_NUMFLAGS (c / 4) (c % 4)) (s.reg (CL_NUMFLAGS (c / 4) (c % 4)) ||| BitVec.ofNat 64 fl)).noteSet (CL_NUMFLAGS (c / 4) (c % 4))
    (BitVec.ofNat 64 fl)

/-- A core is quarantined (R263). -/
def State.quarantined (s : State) (c : Nat) : Bool := s.regBit (CL_QUAR (c / 4)) (c % 4)

/-- A core takes work (R266). -/
def State.coreOn (s : State) (c : Nat) : Bool := s.regBit (CL_CTRL (c / 4)) (c % 4)

/-! ### Fields of an instruction word (R274, R281, R285) -/

/-- OPCODE. -/
def opcode (w : Nat) : Nat := bitsOf w 63 56

/-- First, second and third descriptor fields of a word. -/
def opD (w : Nat) : Nat := bitsOf w 30 21

/-- See `opD`. -/
def opA (w : Nat) : Nat := bitsOf w 20 11

/-- See `opD`. -/
def opB (w : Nat) : Nat := bitsOf w 10 1

/-- Vector operations that take B, and those that take C. -/
def takesB (op : Nat) : Bool := [0x30, 0x31, 0x32, 0x33, 0x34, 0x35, 0x36, 0x3A].contains op

/-- See `takesB`. -/
def takesC (op : Nat) : Bool := op == 0x32 || op == 0x35

/-- A vector opcode. -/
def isVector (op : Nat) : Bool := decide (0x30 ≤ op ∧ op ≤ 0x3B)

/-- Descriptors that an instruction reads. -/
def readsOf (w x : Nat) : List Nat :=
  let op := opcode w
  if op = 0x11 ∨ op = 0x40 then [opA w]
  else if op = 0x20 then opA w :: opB w :: (if w.testBit 0 then [opD w] else [])
  else if op = 0x3B then []
  else if isVector op then
    opA w :: ((if takesB op ∧ bitsOf x 11 10 ≠ 3 then [opB w] else []) ++ (if takesC op ∧ bitsOf x 13 12 ≠ 3 then [bitsOf x 31 22] else []))
  else if op = 0x50 then [opD w, opA w, opB w]
  else if op = 0x51 ∨ op = 0x52 then [opD w]
  else []

/-- Descriptors that an instruction writes. -/
def writesOf (w : Nat) : List Nat :=
  let op := opcode w
  if op = 0x10 ∨ op = 0x11 ∨ op = 0x20 ∨ op = 0x40 ∨ isVector op then [opD w] else []

/-- Whether an instruction uses the block scales of its MX operands. -/
def usesScales (w : Nat) : Bool := opcode w == 0x20 || isVector (opcode w) || (opcode w == 0x40 && w.testBit 0)

/-- The bank an instruction runs from. -/
def Core.bank (k : Core) (q : Queued) : StoreBank := k.banks.getD q.bank bankReset

/-- The extents that a descriptor brings in, its scales with it. -/
def extentsFor (b : StoreBank) (q : Queued) (d : Nat) : List Extent :=
  let e := extentOf b q.xs d
  if isMx e.fmt && usesScales q.word then [e, e.scaleShape (extentOf b q.xs e.scales)] else [e]

/-- An extent of an instruction leaves its region (R295 code 0x01). -/
def badExtents (b : StoreBank) (q : Queued) : Bool :=
  (readsOf q.word q.ext ++ writesOf q.word).any (fun d => (extentsFor b q d).any (fun e => !e.inRegion))

/-- The ring entry a ROOMLD names (R283). -/
def ringEntry (q : Queued) : Nat := q.xs.getD (bitsOf q.word 20 17) 0 + bitsOf q.word 16 11

/-! ### Launches -/

/-- ROOMS of a launch: BPH × KV_HEADS; 0 in an empty one (R277). -/
def Launch.roomCount (l : Launch) : Nat := if l.empty then 0 else l.bph * l.kvHeads

/-- No work: an empty launch. -/
def emptyLaunch (slot : Nat) : Launch := { (default : Launch) with slot := slot, empty := true }

/-- The launch a core works on. -/
def Core.work (k : Core) : Launch := k.launch.getD (emptyLaunch (k.xs.getD 0 0))

/-- Nothing more is read, written or sent for the launch. -/
def Core.silent (k : Core) : Bool := k.work.empty || k.work.abandoned

/-- A launch changed. -/
def State.modLaunch (s : State) (c : Nat) (f : Launch → Launch) : State := s.modCore c (fun k => { k with launch := k.launch.map f })

/-- Byte address of a slot area, and of its docket (R271). -/
def slotAt (n : Nat) : Nat := 32 * 6400 * n

/-- See `slotAt`. -/
def docketAt (n : Nat) : Nat := slotAt n + 32 * 6272

/-- VALID of a bound slot's docket (R255). -/
def State.docketValid (s : State) (c n : Nat) : Bool := byteAt (s.localRead c (docketAt n) 1) 0 == 1

/-- Every unit of a core is idle with an empty queue. -/
def Core.idle (k : Core) : Bool := k.queues.all (·.isEmpty) && k.running.all (·.isNone) && k.dupHold.isNone && k.checks.isEmpty

/-- A firing's dispatch has finished. -/
def Core.dispatched (k : Core) : Bool := k.pc.isNone && k.hold == .none

/-- An outbox frame of a cluster (R256). -/
def State.outbox (s : State) (c : Nat) (b : Binding) (addr : Nat) (payload : List Byte) : State :=
  s.agentSend (3 + c / 4) { blankFrame with kind := 0x19, vc := 4, destKind := 1, party := b.party, dstRank := b.rank,
                                            address := addr % 2 ^ 50, payload := payload }

/-- A status reported to OUT_RANK of a bound launch (R255, R264, R295). -/
def State.boundStatus (s : State) (c : Nat) (b : Option Binding) (status : Nat) : State :=
  match b with
  | none => s
  | some b => s.outbox c b b.base (padTo 32 [BitVec.ofNat 8 status])

/-- An ATTEND is refused and no longer in flight (R219). -/
def State.refuseAttend (s : State) (a : Attend) (status : Nat) : State :=
  (s.modStay a.index (fun e => { e with inflight := e.inflight - 1 })).refuse (.request a.frame) 0x22 status

/-- The ATTEND of a launch is taken out of its core. -/
def State.dropAttend (s : State) (c : Nat) : State :=
  let n := (s.core c).work.slot
  (s.modLaunch c (fun l => { l with attend := none, abandoned := true })).modSlot c n (fun x => { x with work := none })

/-- Nothing further is sent of a core's work (R295): contributions of its OPERANDs that wait for credit are dropped. -/
def State.dropUnsent (s : State) (c : Nat) : State :=
  let l := (s.core c).work
  s.modTally (fun t => { t with kept := t.kept.filter (fun k => k.sent || k.core != some c || k.launch != l.tick) })

/-- A program fault (R295): the work is abandoned, refused or reported, and the watch is told. -/
def State.progFault (s0 : State) (c code : Nat) : State :=
  let s := s0.dropUnsent c
  let l := (s.core c).work
  let s1 := if l.abandoned then s
    else match l.attend with
      | some a => (s.dropAttend c).refuseAttend a 6
      | none => ((s.modLaunch c (fun l => { l with abandoned := true })).boundStatus c (if l.empty then none else l.binding) 6)
  ((s1.count (CL_CORE_W2 (c / 4) (c % 4))).setFld (CL_CORE_W3_LAST_FAULT (c / 4) (c % 4)) code).fault (0xA0 + c) 0x0B code

/-! ### Dispatch (R275) -/

/-- The fault that an instruction shows at its dispatch (R295): code 0x01, an extent that leaves its region, or 0x02, a ROOMLD that names an entry
below the ring's lo, its registers being taken at dispatch (log entry 146). -/
def Core.dispatchFault (k : Core) (b : StoreBank) (q : Queued) : Option Nat :=
  if k.work.abandoned then none
  else if badExtents b q then some 1
  else if !k.silent ∧ opcode q.word = 0x10 ∧ ringEntry q < k.work.lo then some 2
  else none

/-- A unit word is dispatched into its unit's queue. -/
def Core.push (k : Core) (q : Queued) (unit words : Nat) : Core :=
  { k with pc := k.pc.map (· + words), queues := modifyAt (fun l => l ++ [q]) (unit - 1) k.queues,
           products := if opcode q.word = 0x20 then k.products + 1 else k.products }

/-- Words are dispatched in order up to the next word of the sequencer, a full queue, or a hold (R275); none in PHASE 0x6 (R264).
The fuel is a bundle's longest length. -/
def State.dispatchWords : Nat → State → Nat → State
  | 0, s, _ => s
  | n + 1, s, c =>
    let k := s.core c
    match k.pc with
    | none => s
    | some p =>
      let b := k.banks.getD k.runBank bankReset
      let w := b.words.getD p 0
      let u := bitsOf w 55 52
      if k.hold ≠ .none ∨ s.phase = 6 ∨ u = 0 ∨ 5 < u then s
      else if 256 ≤ (k.queues.getD (u - 1) []).length then s.modCore c (fun k => { k with hold := .queueFull })
      else
        let q : Queued := { word := w, ext := if u = 3 then b.words.getD (p + 1) 0 else 0, xs := k.xs, product := k.products, bank := k.runBank }
        let s1 := s.modCore c (fun k => k.push q u (if u = 3 then 2 else 1))
        State.dispatchWords n (match k.dispatchFault b q with
          | some code => s1.progFault c code
          | none => s1) c

/-- See `State.dispatchWords`. -/
def State.dispatch (s : State) (c : Nat) : State := State.dispatchWords 1024 s c

/-- The word at a core's dispatch point, while dispatch may go on. -/
def State.atWord (s : State) (c : Nat) : Option Nat :=
  let k := s.core c
  if k.hold ≠ .none ∨ s.phase = 6 then none else k.pc.map (fun p => (k.banks.getD k.runBank bankReset).words.getD p 0)

/-- A sequencer word takes effect and posts its chit at dispatch (R275, R276). -/
def Core.post (k : Core) (w : Nat) : Core :=
  let p := bitsOf w 35 31
  if p = 0 then k else { k with chits := modifyAt (fun n => (n + 1) % 2 ^ 32) p k.chits }

/-- A word of the sequencer is run if it is the one dispatch has reached; dispatch then goes on. -/
def State.sequence (s : State) (c op : Nat) (act : Nat → State → State) : State :=
  match s.atWord c with
  | none => s
  | some w =>
    if opcode w ≠ op then s
    else (act w (s.modCore c (fun k => ({ k with pc := k.pc.map (· + 1) } : Core).post w))).dispatch c

/-! ### Issue and races (R276, R280) -/

/-- A wait on a chit holds (R276). -/
def Core.waitHolds (k : Core) (q : Queued) (w off : Nat) : Bool :=
  w == 0 || decide ((q.xs.getD 1 0 : Int) + toSigned 3 off ≤ (k.chits.getD w 0 : Nat))

/-- Both waits of an instruction hold. -/
def Core.waitsHold (k : Core) (q : Queued) : Bool :=
  k.waitHolds q (bitsOf q.word 51 47) (bitsOf q.word 46 44) && k.waitHolds q (bitsOf q.word 43 39) (bitsOf q.word 38 36)

/-- A local address of a core in one space of all: each core's operand buffer, each cluster's shared area. -/
def globalAt (c a : Nat) : Nat := (if a < bufferBytes then c else 64 + c / 4) * 2 ^ 24 + a

/-- Rows of extents as spans of that space. -/
def globalSpans (c : Nat) (es : List Extent) : List (Nat × Nat) := (es.flatMap Extent.spans).map (fun x => (globalAt c x.1, x.2))

/-- What two lists of spans share. -/
def spansShared (a b : List (Nat × Nat)) : List (Nat × Nat) :=
  (a.flatMap (fun x => b.map (fun y => (max x.1 y.1, min (x.1 + x.2) (y.1 + y.2) - max x.1 y.1)))).filter (fun x => x.2 != 0)

/-- Extents that an instruction reads, and those it writes. -/
def Core.readExtents (k : Core) (q : Queued) : List Extent := (readsOf q.word q.ext).flatMap (extentsFor (k.bank q) q)

/-- See `Core.readExtents`. -/
def Core.writeExtents (k : Core) (q : Queued) : List Extent := (writesOf q.word).flatMap (extentsFor (k.bank q) q)

/-- Spans of the one space filled, as a core sees them, with bytes that no rule gives. -/
def State.freeSpans (s : State) (c : Nat) (xs : List (Nat × Nat)) : State :=
  xs.foldl (fun s x =>
    let (bs, s1) := s.takeFree x.2
    s1.localWrite c (x.1 % 2 ^ 24) bs) s

/-- Instructions that run in a core's cluster beside unit `u` of the core, beside none for 0: (core, instruction). -/
def State.others (s : State) (c u : Nat) : List (Nat × Queued) :=
  (List.range 4).flatMap (fun m =>
    let d := c / 4 * 4 + m
    if (s.core d).work.abandoned then [] else
    ((s.core d).running.zipIdx.filter (fun r => !(d == c && r.2 + 1 == u))).filterMap (fun r => r.1.map (fun q => (d, q))))

/-- `n` local bytes of a core meet some spans. -/
def meets (c : Nat) (xs : List (Nat × Nat)) (a n : Nat) : Bool := !(spansShared [(globalAt c a, n)] xs).isEmpty

/-- Bytes that element `j` of row `r` of an extent lies in. -/
def Extent.place (e : Extent) (r j : Nat) : Nat × Nat :=
  (e.row r + j * fmtBits e.fmt / 8, ceilDiv ((j + 1) * fmtBits e.fmt) 8 - j * fmtBits e.fmt / 8)

/-- Element `j` of row `r` of an operand, or the scale that stands over it, lies in some spans. -/
def Core.touched (k : Core) (c : Nat) (q : Queued) (xs : List (Nat × Nat)) (d r j : Nat) : Bool :=
  let e := extentOf (k.bank q) q.xs d
  meets c xs (e.place r j).1 (e.place r j).2 ||
    (isMx e.fmt && usesScales q.word && meets c xs ((e.scaleShape (extentOf (k.bank q) q.xs e.scales)).row r + j / 32) 1)

/-- Element `j` of row `r` of an instruction's result is made of operand bytes in some spans (R284 to R287). -/
def Core.derived (k : Core) (c : Nat) (q : Queued) (xs : List (Nat × Nat)) (r j : Nat) : Bool :=
  let op := opcode q.word
  let hit := k.touched c q xs
  let whole := fun (d r : Nat) => (List.range (extentOf (k.bank q) q.xs d).cols).any (hit d r)
  let under := fun (mode d : Nat) => mode != 3 && hit d (if mode = 2 then 0 else r) (if mode = 0 then j else 0)
  if op = 0x20 then whole (opA q.word) r || whole (opB q.word) j || (q.word.testBit 0 && hit (opD q.word) r j)
  else if op = 0x40 then hit (opA q.word) j r
  else if op = 0x39 then whole (opA q.word) r
  else hit (opA q.word) r j || (takesB op && under (bitsOf q.ext 11 10) (opB q.word)) ||
    (takesC op && under (bitsOf q.ext 13 12) (bitsOf q.ext 31 22))

/-- The bytes of an instruction's result that are made of operand bytes in some spans; the elements of a block of an MX format share its scale. -/
def Core.derivedSpans (k : Core) (c : Nat) (q : Queued) (xs : List (Nat × Nat)) : List (Nat × Nat) :=
  let d := extentOf (k.bank q) q.xs (opD q.word)
  let a := extentOf (k.bank q) q.xs (opA q.word)
  if (writesOf q.word).isEmpty then []
  else if opcode q.word = 0x11 then
    ((List.range (d.rows * d.len)).filter (fun i => meets c xs (a.row (i / a.len) + i % a.len) 1)).map (fun i => (globalAt c (d.row (i / d.len) + i % d.len), 1))
  else (List.range d.rows).flatMap (fun r =>
    let made := (List.range d.cols).map (k.derived c q xs r)
    let block := fun (j : Nat) => (made.drop (32 * (j / 32))).take 32
    ((List.range d.cols).filter (fun j => if isMx d.fmt then (block j).any id else made.getD j false)).flatMap (fun j =>
      (globalAt c (d.place r j).1, (d.place r j).2) ::
        (if isMx d.fmt && usesScales q.word && j % 32 == 0 then [(globalAt c ((d.scaleShape (extentOf (k.bank q) q.xs d.scales)).row r + j / 32), 1)] else [])))

/-- A number below 2^`w` that no rule gives. -/
def State.freeNumber (s : State) (w : Nat) : Nat × State := ((Config.freeWord s.freeCtr).toNat % 2 ^ w, s.nextFree)

/-- What a running instruction has gathered beside its result of operand bytes that no rule gives: flags may be set, the groups an MMA has flushed or
saturated and the places in a histogram are free (R320 to R322, R325). -/
def State.unsureCounts (s : State) (c : Nat) (q : Queued) : State :=
  let op := opcode q.word
  let (fl, s1) := s.freeNumber 7
  let s2 := if op = 0x20 ∨ isVector op ∨ op = 0x40 then s1.numFlags c fl else s1
  if op = 0x20 then
    let (u, s3) := s2.freeNumber 32
    let (o, s4) := s3.freeNumber 32
    let again := fun (s : State) (f : Fld) (was now : Nat) => s.setFld f (satBits 32 (s.fld f - was + now))
    (again (again (s4.modCore c (fun k => { k with mmaUfl := u, mmaOfl := o })) (CL_SCALE_EVENTS_UFL (c / 4) (c % 4)) (s.core c).mmaUfl u)
      (CL_SCALE_EVENTS_OFL (c / 4) (c % 4)) (s.core c).mmaOfl o)
  else if isVector op && q.ext.testBit 9 && !(s.core c).work.empty then
    let w := fun (i : Nat) => (Config.freeWord (s2.freeCtr + i)).toNat % 2 ^ 32
    (s2.skipFree 68).modCore c (fun k => { k with hists := modifyAt (fun h => { h with
      bins := (List.range 64).map w, zero := w 64, sub := w 65, sat := w 66, nonfin := w 67 }) (bitsOf q.ext 8 7) k.hists })
  else s2

/-- The records of an ATTEND's query heads (R220): m, l and o in FP32. -/
def State.records (s : State) (c : Nat) (q : Queued) : List (List Byte) :=
  let b := (s.core c).bank q
  let wide := fun (d : Nat) =>
    let (e, codes, scales) := s.readOperand c b q.xs d
    (widenAll e.fmt codes scales).1
  let m := wide (opD q.word)
  let l := wide (opA q.word)
  (wide (opB q.word)).zipIdx.map (fun r => natLE 4 (cell m r.2 0) ++ natLE 4 (cell l r.2 0) ++ r.1.flatMap (natLE 4))

/-- The bytes that an instruction of the send unit sends (R288). -/
def State.sentData (s : State) (c : Nat) (q : Queued) : List Byte :=
  if opcode q.word = 0x50 then (s.records c q).flatMap id else s.readBytes c (extentOf ((s.core c).bank q) q.xs (opD q.word))

/-- Where those bytes have gone: the frames and the kept contributions of each piece, and the first of its bytes. -/
def State.sentPieces (s : State) (c : Nat) (q : Queued) : List ((Frame → Bool) × (Kept → Bool) × Nat) :=
  let l := (s.core c).work
  let op := opcode q.word
  if op = 0x50 then
    match (((s.core c).slots.getD l.slot slotReset)).work with
    | none => []
    | some a =>
      let n := a.qHeads * (8 + 4 * a.dim)
      match (cardOf a.card).tally with
      | none => (List.range (ceilDiv n 4096)).map (fun p => (fun g => g.kind == 0x2A && g.tag == a.frame.tag && g.dstCoord == a.frame.srcCoord &&
          g.dstPort == a.frame.srcPort && g.address % 64 == p, fun _ => false, 4096 * p))
      | some (id, _, slot) =>
        let w := 512 / a.dim * (8 + 4 * a.dim)
        (List.range (ceilDiv n w)).map (fun i => (fun g => g.kind == 0x50 && g.party == a.party && g.address == tallyAddr id i 0 slot (a.frame.tag % 256),
          fun k => k.work == some (a.index, a.frame.tag) && k.chunk == i, w * i))
  else match l.binding with
    | none => []
    | some b =>
      let n := (s.sentData c q).length
      if op = 0x51 then (List.range (ceilDiv n 4096)).map (fun p => (fun g => g.kind == 0x19 && g.party == b.party && g.dstRank == b.rank &&
        g.address == (b.base + 32 * bitsOf q.word 17 0 + 4096 * p) % 2 ^ 50, fun _ => false, 4096 * p))
      else
        let mine := s.tally.kept.filter (fun k => k.core == some c && k.launch == l.tick &&
          k.chunk == (q.xs.getD (bitsOf q.word 10 7) 0 + bitsOf q.word 2 0) % 2 ^ 21 && k.part == bitsOf q.word 12 11)
        mine.map (fun x => (fun g => g.kind == 0x50 && g.party == x.party && g.address == tallyAddr x.id x.chunk x.part x.slot x.round, fun k => k == x, 0))

/-- Operand bytes of a running send become bytes that no rule gives: the frames and contributions that carry them hold free bytes there. -/
def State.unsureSend (s : State) (c : Nat) (q : Queued) (xs : List (Nat × Nat)) : State :=
  let t := s.freeSpans c xs
  let was := s.sentData c q
  let now := t.sentData c q
  let fix := fun (at_ : Nat) (bs : List Byte) => bs.zipIdx.map (fun b => if was.getD (at_ + b.2) 0 = now.getD (at_ + b.2) 0 then b.1 else now.getD (at_ + b.2) 0)
  let mend := fun (p : (Frame → Bool) × (Kept → Bool) × Nat) (g : Frame) => if p.1 g then { g with payload := fix p.2.2 g.payload } else g
  (s.sentPieces c q).foldl (fun u p => (u.modSw (fun w => { w with
      descs := w.descs.map (fun d => { d with frame := mend p d.frame }),
      agentWait := w.agentWait.map (fun x => (x.1, mend p x.2.1, x.2.2)),
      agentQ := w.agentQ.map (fun x => { x with frame := mend p x.frame }) })).modTally (fun t => { t with
      kept := t.kept.map (fun k => if p.2.1 k then { k with payload := fix p.2.2 k.payload } else k) })) (s.skipFree (t.freeCtr - s.freeCtr))

/-- Operand bytes of a running instruction become bytes that no rule gives: so does what it has made of them (R280; log entry 73). -/
def State.unsure (s : State) (o : Nat × Queued) (xs : List (Nat × Nat)) : State :=
  if xs.isEmpty then s
  else if 0x50 ≤ opcode o.2.word then s.unsureSend o.1 o.2 xs
  else (s.freeSpans o.1 ((s.core o.1).derivedSpans o.1 o.2 xs)).unsureCounts o.1 o.2

/-- Accesses that no chit orders (R280; log entry 73), of spans that core `c` reads and writes, against the instructions that run beside unit `u`: what
it reads that they write, and what both write. Where they read what it writes, their results are of bytes no rule gives. -/
def State.clashes (s : State) (c u : Nat) (r w : List (Nat × Nat)) : List (Nat × Nat) × List (Nat × Nat) × State :=
  (s.others c u).foldl (fun acc o =>
    let ko := s.core o.1
    (acc.1 ++ spansShared r (globalSpans o.1 (ko.writeExtents o.2)), acc.2.1 ++ spansShared w (globalSpans o.1 (ko.writeExtents o.2)),
      acc.2.2.unsure o (spansShared w (globalSpans o.1 (ko.readExtents o.2))))) ([], [], s)

/-- An action of a core that reads bytes no rule gives at some spans: it acts on free bytes there, and the bytes themselves, where it does not write
them, stay. -/
def State.onFree (s : State) (c : Nat) (rd w : List (Nat × Nat)) (act : State → State) : State :=
  if rd.isEmpty then act s
  else
    let s1 := act (s.freeSpans c rd)
    rd.foldl (fun t x => (List.range x.2).foldl (fun t i =>
      if (spansShared [(x.1 + i, 1)] w).isEmpty then t.localWrite c ((x.1 + i) % 2 ^ 24) (s.localRead c ((x.1 + i) % 2 ^ 24) 1) else t) t) s1

/-- The head of a unit's queue. -/
def Core.head (k : Core) (u : Nat) : Option Queued := (k.queues.getD (u - 1) []).head?

/-- An instruction may issue: its unit is free, its waits hold, and the module is not in stopover (R264, R275). -/
def State.mayIssue (s : State) (c u op : Nat) (ready : Queued → Bool) : Option Queued :=
  let k := s.core c
  match k.head u with
  | none => none
  | some q => if opcode q.word ≠ op ∨ (k.running.getD (u - 1) none).isSome ∨ s.phase = 6 ∨ (!k.work.abandoned && !(k.waitsHold q && ready q)) then none
    else some q

/-- CL_STALL_AC after an instruction that could wait (R244): a count of time, free. -/
def State.stalled (s : State) (c : Nat) : State := (s.setReg (CL_CNT (c / 4) 10) (Config.freeWord s.freeCtr)).nextFree

/-- An instruction issues from the head of its unit's queue (R275, R289, R295). -/
def State.issue (s : State) (c u op : Nat) (ready : Queued → Bool) (act : Queued → State → State) : State :=
  match s.mayIssue c u op ready with
  | none => s
  | some q =>
    let s1 := (s.modCore c (fun k => { k with queues := modifyAt List.tail (u - 1) k.queues, running := modifyAt (fun _ => some q) (u - 1) k.running })).stalled c
    if (s.core c).work.abandoned then s1
    else
      let k := s.core c
      let w := globalSpans c (k.writeExtents q)
      let (rd, both, s2) := s1.clashes c u (globalSpans c (k.readExtents q)) w
      (s2.onFree c rd w (act q)).freeSpans c both

/-! ### The end of a work (R248, R293, R265) -/

/-- ATTENDs put into arrival order. -/
def inArrival : List Attend → List Attend
  | [] => []
  | a :: as => (inArrival as).takeWhile (fun x => decide (x.seq < a.seq)) ++ a :: (inArrival as).dropWhile (fun x => decide (x.seq < a.seq))

/-- ATTENDs return to the head of the innkeeper's queue, in arrival order (R263, R303). -/
def State.requeue (s : State) (as : List Attend) : State := s.modStays (fun u => { u with placing := inArrival as ++ u.placing })

/-- A held enable takes effect when the launch ends (R265). -/
def State.applyEnable (s : State) (c : Nat) : State :=
  let k := c / 4
  let m := c % 4
  if s.regBit (CL_STATUS k) (12 + m) then (s.setRegBit (CL_CTRL k) m true).setRegBit (CL_STATUS k) (12 + m) false else s

/-- VALID of a bound slot's docket is cleared (R255). -/
def State.clearDocket (s : State) (c n : Nat) : State := s.localWrite c (docketAt n) [0]

/-- Where bytes of a slot's inbox space lie in local space (R254): slot area, then its share of the shared area; none beyond them. -/
def inboxPlace (c n off len : Nat) : Option (List (Nat × Nat × Nat)) :=
  let (base, size) := Config.inboxShare c n
  let share := min size (localBytes - bufferBytes - base)
  if 204800 + share < off + len then none
  else
    let inArea := min len (204800 - off)
    some ([(slotAt n + off, 0, inArea), (bufferBytes + base + (off + inArea - 204800), inArea, len - inArea)].filter (fun x => x.2.2 != 0))

/-- A byte of a slot's inbox space; 0 beyond it. -/
def State.inboxByte (s : State) (c n off : Nat) : Byte :=
  match inboxPlace c n off 1 with
  | some (p :: _) => (s.localRead c p.1 1).getD 0 0
  | _ => 0

/-- The internal APPEND of a prefill launch (R257): its positions' keys and values in BF16, from the slot's inbox space, where the program's image
lays them out (log entry 76). -/
def State.prefillAppend (s : State) (c : Nat) (l : Launch) : State :=
  match l.binding with
  | none => s
  | some b =>
    let (c0, s) := s.readCard (l.handle % 2 ^ 18)
    let d := c0.getD (cardOf [])
    let prog := ((s.core c).slots.getD l.slot slotReset).program
    let data := (List.range (l.count * l.kvHeads * 4 * d.d)).map (fun j => s.inboxByte c l.slot (Config.blockByte prog l.count j))
    let head := natLE 3 l.start ++ natLE 2 l.count ++ [BitVec.ofNat 8 l.layer, 0, BitVec.ofNat 8 l.kvHeads, 1]
    s.takeRequest (.bound b.party b.rank b.base)
      { blankFrame with kind := 0x21, party := b.party, address := l.handle, payload := padTo 32 head ++ data }

/-- The last firing of a FINAL entry has completed (R293). -/
def Core.finalDue (k : Core) : Bool := k.flags.testBit 34 && k.dispatched && k.idle

/-- The slot of a core's work is released, and the core power-gated after a GATE entry (R293, R294). -/
def State.release (s : State) (c : Nat) : State :=
  let k := s.core c
  if !k.finalDue then s
  else
    let l := k.work
    let n := k.xs.getD 0 0
    let sl := k.slots.getD n slotReset
    let s1 := if l.bound then
        (if !l.empty && !l.abandoned && l.mode == 0 then s.prefillAppend c l else s).clearDocket c n
      else s
    let s2 := if 2 ≤ sl.phase then s1.modSlot c n (fun x => { x with phase := 0, work := none }) else s1
    (s2.modCore c (fun k => { k with launch := none, flags := 0, oldWork := false, gated := k.flags.testBit 36 })).applyEnable c

/-- Work of the former image whose last firing has completed without its FINAL (R303): an ATTEND not yet answered is placed again
(log entry 75). -/
def State.settleOld (s : State) (c : Nat) : State :=
  let k := s.core c
  if !k.oldWork || k.flags.testBit 34 || !k.dispatched || !k.idle then s
  else
    let s1 := s.modCore c (fun k => { k with
      launch := none, oldWork := false, slots := k.slots.map (fun x => if 2 ≤ x.phase then { x with phase := 0, work := none } else x) })
    (match k.work.attend with
      | some a => s1.requeue [a]
      | none => s1).applyEnable c

/-- A core is quarantined (R263, R404): its dynamic work returns to the innkeeper, it dispatches nothing more. -/
def State.quarantine (s : State) (c : Nat) : State :=
  if s.quarantined c then s
  else
    let k := s.core c
    let out := (k.slots.filter (fun x => x.phase == 1 || x.phase == 2)).filterMap (·.work)
    let bound := (List.range 16).filter (fun n => (k.slots.getD n slotReset).bound && (k.slots.getD n slotReset).phase != 0)
    let s1 := bound.foldl (fun s n => s.clearDocket c n) ((s.setRegBit (CL_QUAR (c / 4)) (c % 4) true).requeue out)
    (s1.modCore c (fun k => { k with
      queues := List.replicate 5 [], running := List.replicate 5 none, pc := none, hold := .none, launch := none, flags := 0, dupHold := none, checks := [],
      oldWork := false, mmaUfl := 0, mmaOfl := 0, mmaFlags := 0, mmaBytes := [], proofed := false,
      slots := k.slots.map (fun x => { x with phase := 0, work := none }) })).applyEnable c

end Sys2Proof.Machine
end

