-- ==== Sys2Proof/Machine/Firing.lean ====
section
/-! DEFINITION. Firings of the itineraries and the sequencer's own words (R275 to R277, R281, R282, R290 to R294), enables, quarantine
and the checks of products (R263 to R265, R404 to R406, R408). -/

namespace Sys2Proof.Machine

open Sys2Proof

/-! ### Entries (R290, R291) -/

/-- BUNDLE, REPEAT, STRIDE and SLOT of an entry's two words. -/
def entBundle (e : Nat × Nat) : Nat := bitsOf e.1 46 32

/-- See `entBundle`. -/
def entRepeat (e : Nat × Nat) : Nat := bitsOf e.1 63 48

/-- See `entBundle`. -/
def entStride (e : Nat × Nat) : Nat := bitsOf e.2 23 0

/-- See `entBundle`. -/
def entSlot (e : Nat × Nat) : Nat := bitsOf e.2 27 24

/-- Store bank in force of a core. -/
def Core.inForce (k : Core) : StoreBank := k.banks.getD k.front bankReset

/-- Tick of firing `j` of an entry in a pass (R291). -/
def firingTick (base period pass j : Nat) (e : Nat × Nat) : Nat := base + pass * period + bitsOf e.1 31 0 + j * entStride e

/-- The tick by which the first edge of the arithmetic clock at or after a tick has passed (R53). -/
def State.edgeAfter (s : State) (t : Nat) : Nat :=
  let n := s.fld PH_CLOCK_AC_ACTIVE
  t / 32 * 32 + ceilDiv (32 * ceilDiv (n * (t % 32)) 32) n

/-- The next firing of a core, if it is of a kind (bit of the entry's second word) and may fire, at the first edge of its clock or once a forced step
has skipped its tick (R46, R53, R291, R293, R303, R412). From an activation tick on the old itinerary fires no more, but for the ticks before it that a
forced step has skipped with it. An island out of muster takes no new work (R51). -/
def State.nextFiring (s : State) (c kind : Nat) : Option ((Nat × Nat) × Nat) :=
  let k := s.core c
  match k.inForce.entries[k.entry]? with
  | none => none
  | some e =>
    let t := firingTick s.clusters.base k.inForce.period k.pass k.rep e
    let retimed := match s.clusters.armed with
      | some a => decide (a ≤ s.now) && !(decide (t < a) && s.skippedTick t)
      | none => false
    if e.2.testBit kind ∧ s.clusters.active.isSome ∧ s.bellSet ∧ (s.edgeAfter t ≤ s.now ∨ s.skippedTick t) ∧ s.phase ≠ 6 ∧ !retimed ∧ k.dispatched ∧
        !s.islandOut (13 + c) then some (e, t) else none

/-- The sequencer goes on to its next firing (R291). -/
def Core.advance (k : Core) (e : Nat × Nat) : Core :=
  if k.rep < entRepeat e then { k with rep := k.rep + 1, lnum := k.lnum + 1 }
  else if e.2.testBit 37 then { k with entry := 0, rep := 0, pass := k.pass + 1, lnum := k.lnum + 1, lateOn := false }
  else { k with entry := k.entry + 1, rep := 0, lnum := k.lnum + 1, lateOn := false }

/-- CL_COREc shows the firing (R306). -/
def State.showFiring (s : State) (c : Nat) (e : Nat × Nat) : State :=
  let k := s.core c
  (s.setReg (CL_CORE_W0 (c / 4) (c % 4)) (BitVec.ofNat 64 (k.entry + entSlot e * 2 ^ 12 + k.rep * 2 ^ 16 + k.pass % 2 ^ 32 * 2 ^ 32))).setReg
    (CL_CORE_W1 (c / 4) (c % 4)) (BitVec.ofNat 64 k.lnum)

/-- X0 to X9 of a firing (R277), X4 to X9 being 0 in an empty launch; X10 to X15 stand. -/
def Core.xsFor (k : Core) (e : Nat × Nat) (l0 : Launch) : List Nat :=
  let l := if l0.empty then emptyLaunch l0.slot else l0
  let rooms := l.roomCount
  let j := k.rep
  let inRooms := decide (j < rooms)
  [entSlot e, j, k.lnum % 2 ^ 32, k.pass % 2 ^ 32, rooms, l.first, l.last, l.bph,
    if inRooms && l.bph != 0 then j / l.bph else 0,
    if inRooms && l.bph != 0 then (l.first / l.tpr + j % l.bph) * l.tpr % 2 ^ 32 else l.last] ++ k.xs.drop 10

/-- A firing after its tick counts once for its entry (R54); each that a forced step has skipped counts (R46). -/
def State.countLate (s : State) (c t : Nat) : State :=
  if s.skippedTick t ∨ (s.edgeAfter t < s.now ∧ !(s.core c).lateOn) then (s.choice 5).modCore c (fun k => { k with lateOn := true }) else s

/-- A gated core that no WAKE entry has woken wakes for its firing, which re-musters its island and counts (R52, R294; log entry 141). -/
def State.wakeGated (s : State) (c : Nat) : State :=
  if (s.core c).gated then (s.choice 4).modCore c (fun k => { k with gated := false }) else s

/-- Bindings written for a slot take effect at a launch whose tick is far enough after them (R253). -/
def State.takeBinding (s : State) (c n t : Nat) : State :=
  s.modSlot c n (fun x =>
    let due := x.bindNext.filter (fun y => decide (y.2.2 + s.fld (CL_CTRL_PLACE_LEAD (c / 4)) ≤ t))
    { x with
      binding := (match due.getLast? with
        | some y => if y.1 then some y.2.1 else none
        | none => x.binding),
      bindNext := x.bindNext.drop due.length })

/-- A firing of a quarantined core dispatches nothing and counts as empty (R406): a bound slot's empty launch (R263) takes its binding, and its end
clears the docket (R253, R255). -/
def State.skipFiring (s : State) (c : Nat) (e : Nat × Nat) (t : Nat) : State :=
  let k := s.core c
  let n := entSlot e
  let bound := (k.slots.getD n slotReset).bound
  let s1 := (s.showFiring c e).clCount c 1
  let s2 := if e.2.testBit 32 ∧ k.rep = 0 then (if bound then s1.takeBinding c n t else s1).clCount c 0 else s1
  (if bound ∧ e.2.testBit 34 ∧ k.rep = entRepeat e then s2.clearDocket c n else s2).modCore c (fun k => k.advance e)

/-- The bundle of an entry is dispatched (R275); FINAL and GATE stand only on an entry's last firing. -/
def State.startBundle (s : State) (c : Nat) (e : Nat × Nat) (t : Nat) : State :=
  let s1 := (s.wakeGated c).showFiring c e
  let last := (s.core c).rep == entRepeat e
  (s1.modCore c (fun k => { (k.advance e) with
    xs := k.xsFor e k.work, fired := t, flags := if last then e.2 else clearBitOf (clearBitOf e.2 34) 36, products := 0, runBank := k.front,
    pc := some (entBundle e) })).dispatch c

/-! ### Latching (R255, R272, R273, R293) -/

/-- Ring entries `lo` to `hi − 1` of a room set written into a slot's docket (R273). -/
def State.writeRing (s : State) (c n : Nat) (rooms : List Nat) (lo hi : Nat) : State :=
  (List.range (min hi rooms.length - lo)).foldl (fun s i =>
    s.localWrite c (docketAt n + 64 + 4 * ((lo + i) % 1008)) (natLE 4 (rooms.getD (lo + i) 0))) s

/-- Why a bound launch's stay is refused (R255), none where it may run; a reserved MODE, and a COUNT outside its range, are malformed (log
entry 147). -/
def State.boundRefusal (s : State) (b : Binding) (d : List Byte) : Option Nat :=
  let handle := leAt d 1 4
  let e := s.stay (handle % 2 ^ 18)
  if handle / 2 ^ 18 ≠ e.gen ∨ e.state = 0 then some 1
  else if e.party ≠ b.party then some 2
  else if e.state ≠ 1 then (match stateRule e.state 0x22 with
    | .refuse k => some k
    | _ => some 5)
  else if 1 < byteAt d 11 ∨ 4096 < leAt d 9 2 then some 6
  else none

/-- The launch of a bound slot (R253, R255): its docket and the stay's chart entries are taken; refused, it runs empty. -/
def State.latchBound (s1 : State) (c n : Nat) : Launch × State :=
  let d := s1.localRead c (docketAt n) 64
  match ((s1.core c).slots.getD n slotReset).binding with
  | none => (emptyLaunch n, s1)
  | some b =>
    if byteAt d 0 ≠ 1 then (emptyLaunch n, s1)
    else
      let i := leAt d 1 4 % 2 ^ 18
      let refuse := fun (s : State) (k : Nat) => (emptyLaunch n, s.boundStatus c (some b) k)
      match s1.boundRefusal b d with
      | some k => refuse s1 k
      | none => match s1.readCard i with
        | (none, s2) => refuse s2 7
        | (some card, s2) =>
          if card.layers ≤ byteAt d 5 then refuse s2 6 else
          let tokens := (s2.stay i).tokens
          match State.roomsOf (card.roomSet (byteAt d 5) 0 tokens) s2 i with
          | (none, s3) => refuse s3 7
          | (some rooms, s3) =>
            ({ (default : Launch) with
              slot := n, handle := leAt d 1 4, layer := byteAt d 5, start := leAt d 6 3, count := leAt d 9 2, mode := byteAt d 11, rooms := rooms,
              last := tokens, bph := ceilDiv tokens card.tpr, tpr := card.tpr, kvHeads := card.kvHeads, binding := some b },
              (s3.writeRing c n rooms 0 1008).modSlot c n (fun x => { x with phase := 2 }))

/-- The launch of a dynamic slot: the work placed in it, as its docket describes it, if VALID is 0x01 (R272, R293). -/
def State.latchDynamic (s : State) (c n : Nat) : Launch × State :=
  let sl := (s.core c).slots.getD n slotReset
  let d := s.localRead c (docketAt n) 64
  match sl.work with
  | none => (emptyLaunch n, s)
  | some a =>
    if sl.phase ≠ 1 ∨ byteAt d 0 ≠ 1 then (emptyLaunch n, s)
    else
      let first := leAt d 6 3
      let last := leAt d 9 3
      let tpr := leAt d 12 2
      ({ (default : Launch) with
        slot := n, attend := some a, handle := leAt d 1 4, layer := byteAt d 5, rooms := a.rooms, first := first, last := last,
        bph := ceilDiv last tpr - first / tpr, tpr := tpr, kvHeads := byteAt d 14 + 1 }, s.modSlot c n (fun x => { x with phase := 2 }))

/-- The work of a LAUNCH entry's slot is latched (R293): empty where the core takes no work or the module is halted (R264, R398). -/
def State.latch (s : State) (c n t : Nat) : State :=
  let bound := ((s.core c).slots.getD n slotReset).bound
  let s0 := if bound then s.takeBinding c n t else s
  let (l, s1) := if !s0.coreOn c ∨ s0.halted then (emptyLaunch n, s0)
    else if bound then s0.latchBound c n
    else s0.latchDynamic c n
  let s2 := s1.clCount c 0
  (if l.empty then s2.clCount c 1 else s2).modCore c (fun k => { k with
    launch := some { l with bound := bound, tick := t }, chits := List.replicate 32 0, xs := k.xs.take 10 ++ List.replicate 6 0 })

/-! ### The firings -/

/-- What the work before a firing still owes: the release of its slot, and the end of work of a former image. -/
def State.settleCore (s : State) (c : Nat) : State := (s.release c).settleOld c

/-- In a halted module a firing is one of an empty launch (R396, R398). -/
def State.emptyHalted (s : State) (c : Nat) : State := if s.halted then s.modLaunch c (fun l => { l with empty := true }) else s

/-- The firing of a LAUNCH entry (R293): every unit is idle; the entry's first firing latches the slot's work; later ones are on it, empty in a halted
module. -/
def State.launchFiring (s : State) (core : Nat) : State :=
  let s0 := s.settleCore core
  match s0.nextFiring core 32 with
  | none => s
  | some (e, t) =>
    if s0.quarantined core then s0.skipFiring core e t
    else if !(s0.core core).idle then s
    else
      let s1 := s0.countLate core t
      let s2 := if (s1.core core).rep = 0 then s1.latch core (entSlot e) t else s1.emptyHalted core
      (s2.startBundle core e t).retryAgents

/-- The firing of a CONT entry (R293): on the latched work; empty in a halted module (R398). -/
def State.contFiring (s : State) (core : Nat) : State :=
  match s.nextFiring core 33 with
  | none => s
  | some (e, t) =>
    if s.quarantined core then s.skipFiring core e t
    else
      (((s.countLate core t).emptyHalted core).startBundle core e t).retryAgents

/-- The firing of a WAKE entry (R294, R52): the island wakes at its tick; its re-muster is scheduled and counts nothing. -/
def State.wakeFiring (s : State) (core : Nat) : State :=
  let s0 := s.settleCore core
  match s0.nextFiring core 35 with
  | none => s
  | some (e, t) =>
    if s0.quarantined core then s0.skipFiring core e t
    else ((s0.countLate core t).showFiring core e).modCore core (fun k => { (k.advance e) with gated := false })

/-- LAUNCH_FIRING. -/
def execLaunchFiring (core : Nat) (s : State) : Host.Outcome State Fault Refusal := .next (s.launchFiring core)

/-- CONT_FIRING. -/
def execContFiring (core : Nat) (s : State) : Host.Outcome State Fault Refusal := .next (s.contFiring core)

/-- WAKE_FIRING. -/
def execWakeFiring (core : Nat) (s : State) : Host.Outcome State Fault Refusal := .next (s.wakeFiring core)

/-- FINAL_RELEASE (R293). -/
def execFinalRelease (core : Nat) (s : State) : Host.Outcome State Fault Refusal := .next ((s.release core).retryAgents)

/-! ### The sequencer's words (R281, R282) -/

/-- END. -/
def execEndBundle (core : Nat) (s : State) : Host.Outcome State Fault Refusal :=
  .next ((s.sequence core 0x01 (fun _ s => s.modCore core (fun k => { k with pc := none }))).settleOld core)

/-- SETX. -/
def execSetx (core : Nat) (s : State) : Host.Outcome State Fault Refusal :=
  .next (s.sequence core 0x02 (fun w s => s.modCore core (fun k => { k with xs := modifyAt (fun _ => bitsOf w 26 0) (bitsOf w 30 27) k.xs })))

/-- MADX. -/
def execMadx (core : Nat) (s : State) : Host.Outcome State Fault Refusal :=
  .next (s.sequence core 0x03 (fun w s => s.modCore core (fun k => { k with
    xs := modifyAt (fun _ => (k.xs.getD (bitsOf w 26 23) 0 * bitsOf w 15 0 + k.xs.getD (bitsOf w 22 19) 0) % 2 ^ 32) (bitsOf w 30 27) k.xs })))

/-- BELL (R282): dispatch holds until the firing's tick + n; a tick that has passed counts as a late launch. -/
def execBell (core : Nat) (s : State) : Host.Outcome State Fault Refusal :=
  .next (s.sequence core 0x04 (fun w s =>
    let t := (s.core core).fired + bitsOf w 26 0
    if s.now < t then s.modCore core (fun k => { k with hold := .untilTick t })
    else if t < s.now then s.choice 5 else s))

/-- BELL_TICK_REACHED (R282). -/
def execBellTickReached (core : Nat) (s : State) : Host.Outcome State Fault Refusal :=
  match (s.core core).hold with
  | .untilTick t => if t ≤ s.now ∧ s.phase ≠ 6 then .next ((s.modCore core (fun k => { k with hold := .none })).dispatch core) else .next s
  | _ => .next s

/-- FENCE. -/
def execFence (core : Nat) (s : State) : Host.Outcome State Fault Refusal :=
  .next (s.sequence core 0x05 (fun _ s => if (s.core core).idle then s else s.modCore core (fun k => { k with hold := .drain })))

/-- FENCE_DRAINED. -/
def execFenceDrained (core : Nat) (s : State) : Host.Outcome State Fault Refusal :=
  if (s.core core).hold = .drain ∧ (s.core core).idle ∧ s.phase ≠ 6 then
    .next ((s.modCore core (fun k => { k with hold := .none })).dispatch core)
  else .next s

/-- DISPATCH_RESUME (R275): the full queue has room. -/
def execDispatchResume (core : Nat) (s : State) : Host.Outcome State Fault Refusal :=
  if (s.core core).hold = .queueFull ∧ s.phase ≠ 6 then .next ((s.modCore core (fun k => { k with hold := .none })).dispatch core) else .next s

/-! ### Enables and quarantine (R265, R408) -/

/-- A core has a launch running, empty or not (R245, R265, R266). -/
def Core.runs (k : Core) : Bool := k.launch.isSome

/-- CORE_ENABLE_WRITE (R264, R265): CL_CTRL; an enable for a core still finishing its launch is held. -/
def execCoreEnableWrite (cluster value : Nat) (s : State) : Host.Outcome State Fault Refusal :=
  if 6 ≤ cluster then .next s
  else
    let old := s.reg (CL_CTRL cluster)
    let s1 := s.writePlain (CL_CTRL cluster) value
    .next ((List.range 4).foldl (fun s m =>
      let c := 4 * cluster + m
      if !value.testBit m then s.setRegBit (CL_STATUS cluster) (12 + m) false
      else if !old.toNat.testBit m ∧ (s.core c).runs then (s.setRegBit (CL_CTRL cluster) m false).setRegBit (CL_STATUS cluster) (12 + m) true
      else s) s1)

/-- QUARANTINE_CLEAR (R408): the core returns to service, or once its suite has ended; a bit that hardware has set in this switch cycle stays (R13). -/
def execQuarantineClear (cluster value : Nat) (s : State) : Host.Outcome State Fault Refusal :=
  if 6 ≤ cluster then .next s
  else .next ((List.range 4).foldl (fun s m =>
    let c := 4 * cluster + m
    if !value.testBit m ∨ !s.quarantined c ∨ (s.roseAt (CL_QUAR cluster)).toNat.testBit m then s
    else if (s.core c).proof then s.modCore c (fun k => { k with quarHeld := true })
    else s.setRegBit (CL_QUAR cluster) m false) s)

/-! ### Checks of products (R262, R263, R404, R405) -/

/-- The core beside another. -/
def partnerOf (c x : Nat) : Nat := c ^^^ x

/-- The array product that a core's engine runs. -/
def Core.runningMma (k : Core) : Option Queued := (k.running.getD 1 none).bind (fun q => if opcode q.word = 0x20 then some q else none)

/-- Whether a product is run twice (R262, R405). -/
def State.duplicated (s : State) (c : Nat) (q : Queued) : Bool :=
  let f := s.fld (CL_DUP_FRACTION (c / 4))
  let m := if f = 1 then 64 else if f = 2 then 16 else if f = 3 then 4 else 1
  f != 0 && (q.product + q.xs.getD 2 0) % m == 0 && !s.quarantined (partnerOf c 1)

/-- The operands of a product that another core runs, copied through the shared area (R242, R262; log entry 145). -/
def State.copyOperands (s : State) (c : Nat) (bs : List Byte) : State :=
  let (base, size) := Config.dupSpace c
  if localBytes - bufferBytes ≤ base then s else s.localWrite c (bufferBytes + base) (bs.take (min size (localBytes - bufferBytes - base)))

/-- The running product of core `c` is run on core `d` by the path of R262: its operands pass through the shared area, and its flags are set there
(R263, R325, R404). -/
def State.runOn (s : State) (c d : Nat) : State := (s.copyOperands c (s.core c).mmaBytes).numFlags d (s.core c).mmaFlags

/-- No two tiles agree (R263, R405): both cores are quarantined. -/
def State.noMajority (s : State) (c p : Nat) : State :=
  let d := partnerOf c 1
  ((((s.clCount c 7).fault (0xA0 + c) 0x09 p).fault (0xA0 + d) 0x09 p).quarantine c).quarantine d

/-- The tiles of a product differ (R263): its consumers are held for a third run; with no core to run it there is no majority (R405). -/
def State.tilesDiffer (s : State) (c : Nat) : State :=
  let k := s.core c
  match k.runningMma with
  | none => s
  | some q =>
    if !s.duplicated c q ∨ k.dupHold.isSome ∨ k.work.abandoned then s
    else
      let s1 := s.clCount c 5
      if s.quarantined (partnerOf c 2) ∧ s.quarantined (partnerOf c 3) then s1.noMajority c q.product
      else (s1.runOn c (if s.quarantined (partnerOf c 2) then partnerOf c 3 else partnerOf c 2)).modCore c (fun k => { k with dupHold := some q.product })

/-- An engine's residue check fails (R404): the partner runs the product and its tile is used; the core may be quarantined. -/
def State.residueFails (s : State) (c : Nat) (rerunOk : Bool) : State :=
  let k := s.core c
  match k.runningMma with
  | none => s
  | some q =>
    let again := match k.residueAt with
      | some t => decide (s.free < t + 1000000 * ticksPerUs)
      | none => false
    let s1 := ((s.count (PH_RESIDUE c)).modCore c (fun k => { k with residueAt := some s.free })).fault (0xA0 + c) 0x07 q.product
    let s2 := if s.quarantined (partnerOf c 1) then s1 else s1.runOn c (partnerOf c 1)
    if s.quarantined (partnerOf c 1) || !rerunOk || again then s2.quarantine c else s2

/-- A failed check of a running product (R263, R404): of its residues, with whether the second run passed, or of its duplicate. -/
def State.failedCheck (s : State) (c : Nat) (x : Option Bool) : State :=
  match x with
  | some ok => s.residueFails c ok
  | none => s.tilesDiffer c

/-- A failed check is handled, in a stopover after it (R419). -/
def State.meetCheck (s : State) (c : Nat) (x : Option Bool) : State :=
  if s.phase ≠ 6 then s.failedCheck c x
  else if (s.core c).runningMma.isSome then s.modCore c (fun k => { k with checks := k.checks ++ [x] })
  else s

/-- The failures that a stopover held are handled (R419). -/
def State.heldChecks (s : State) : State :=
  (List.range 24).foldl (fun s c =>
    (s.core c).checks.foldl (fun s x => s.failedCheck c x) (s.modCore c (fun k => { k with checks := [] }))) s

/-- DUP_MISMATCH (R263). -/
def execDupMismatch (core : Nat) (s : State) : Host.Outcome State Fault Refusal := .next (s.meetCheck core none)

/-- DUP_THIRD_RUN_DONE (R263, R405). -/
def execDupThirdRunDone (core : Nat) (outcome : DupOutcome) (s : State) : Host.Outcome State Fault Refusal :=
  match (s.core core).dupHold with
  | none => .next s
  | some p =>
    let s1 := s.modCore core (fun k => { k with dupHold := none })
    match outcome with
    | .originalAgrees => .next ((s1.clCount core 6).fault (0xA0 + partnerOf core 1) 0x08 p)
    | .duplicateAgrees => .next ((s1.clCount core 6).fault (0xA0 + core) 0x08 p)
    | .noMajority => .next (s1.noMajority core p)

/-- RESIDUE_FAIL (R404). -/
def execResidueFail (core : Nat) (rerunOk : Bool) (s : State) : Host.Outcome State Fault Refusal := .next (s.meetCheck core (some rerunOk))

end Sys2Proof.Machine
end

