-- ==== Sys2Proof/Machine/Units.lean ====
section
/-! DEFINITION. The instructions of the units (R281, R283 to R289, R311 to R323): stream, engine, vector, transposer and send; their
completion and program faults. -/

namespace Sys2Proof.Machine

open Sys2Proof

/-! ### Program faults that an instruction shows when it issues (R295) -/

/-- HANDOFF's operands match the ATTEND's Q_HEADS and D (R288). -/
def handoffOk (b : StoreBank) (q : Queued) (a : Attend) : Bool :=
  let m := extentOf b q.xs (opD q.word)
  let l := extentOf b q.xs (opA q.word)
  let o := extentOf b q.xs (opB q.word)
  m.rows == a.qHeads && l.rows == a.qHeads && o.rows == a.qHeads && o.cols == a.dim

/-- The fault that an instruction raises in its launch when it issues, codes 0x04 and 0x05 (R295). -/
def Core.faultOf (k : Core) (q : Queued) : Option Nat :=
  let l := k.work
  let op := opcode q.word
  if k.silent then none
  else if (op = 0x50 ∧ l.bound) ∨ ((op = 0x51 ∨ op = 0x52) ∧ !l.bound) then some 4
  else if op = 0x50 then (match l.attend with
    | some a => if handoffOk (k.bank q) q a then none else some 5
    | none => none)
  else none

/-- An instruction that faults abandons the work; another takes effect. -/
def State.faultOr (s : State) (c : Nat) (q : Queued) (act : State → State) : State :=
  match (s.core c).faultOf q with
  | some code => s.progFault c code
  | none => act s

/-! ### Stream (R283, R264) -/

/-- A launch meets an uncorrectable room, which is poisoned (R264), or one of a stack that is down, which the ledger does not show (R354): a dynamic ATTEND goes back to be mended and placed again, once; a bound launch
reports 0x07. -/
def State.roomTrouble (s : State) (c room : Nat) : State :=
  let s0 := s.clCount c 8
  let s1 := if s0.stackLost (roomStack room) then s0 else s0.poisonRoom room
  let l := (s1.core c).work
  match l.attend with
  | none => ((s1.dropUnsent c).modLaunch c (fun l => { l with abandoned := true })).boundStatus c l.binding 7
  | some a =>
    let s3 := s1.dropAttend c
    if a.rerun then s3.refuseAttend a 7
    else
      let page := ((((cardOf a.card).roomSet a.layer a.first a.last).zip a.rooms).find? (fun x => x.2 == room)).map (·.1)
      let again : Attend := { a with rerun := true }
      match s3.mendOr a.index (page.getD 0) with
      | .done s4 => s4
      | .refused s4 n => s4.refuseAttend a n
      | .waits s4 m => s4.modStays (fun u => { u with waiting := u.waiting ++ [⟨a.index, .request a.frame, a.frame, m, some again, none, false⟩] })

/-- ROOMLD's data (R283): zeros beyond the room set, for an absent page and in an empty launch; else a piece of the room. Bytes past the
room's end are free. An entry that another ROOMLD has named meanwhile is no longer in the ring, and its room is that of the room set. -/
def State.loadRoom (s : State) (c : Nat) (q : Queued) : State :=
  let k := s.core c
  let l := k.work
  let d := extentOf (k.bank q) q.xs (opD q.word)
  let n := d.rows * d.len
  let e := ringEntry q
  let room := if e < l.lo then l.rooms.getD e 0 else leAt (s.localRead c (docketAt l.slot + 64 + 4 * (e % 1008)) 3) 0 3
  if l.roomCount ≤ e ∨ room = 0 then s.writeBytes c d (zeroBytes n)
  else
    let off := 32 * bitsOf q.word 10 0
    let m := min n (65536 - off)
    match s.poolRead (room * 65536 + off) m with
    | (none, s1) => s1.roomTrouble c room
    | (some bs, s1) =>
      if s1.roomBad room then s1.roomTrouble c room
      else
        let (rest, s2) := s1.takeFree (n - m)
        s2.writeBytes c d (bs ++ rest)

/-- ROOMLD (R283): it waits while its entry lies beyond the ring (R273). -/
def execRoomld (core : Nat) (s : State) : Host.Outcome State Fault Refusal :=
  let l := (s.core core).work
  let ready := fun q => decide (l.roomCount ≤ ringEntry q) || decide (ringEntry q ≤ l.lo + 1007)
  .next ((s.issue core 1 0x10 ready (fun q s => s.faultOr core q (fun s => s.loadRoom core q))).retryAgents)

/-- Every instruction without a wait of its own. -/
def alwaysReady (_ : Queued) : Bool := true

/-- LCOPY (R281). -/
def execLcopy (core : Nat) (s : State) : Host.Outcome State Fault Refusal :=
  .next (s.issue core 1 0x11 alwaysReady (fun q s =>
    let b := (s.core core).bank q
    s.writeBytes core (extentOf b q.xs (opD q.word)) (s.readBytes core (extentOf b q.xs (opA q.word)))))

/-! ### Engine (R284, R311) -/

/-- A count of CL_SCALE_EVENTSc raised, held at its top (R325). -/
def State.scaleEvents (s : State) (f : Fld) (n : Nat) : State := s.setFld f (satBits 32 (s.fld f + n))

/-- MMA's product written to D, with its flags and counts; a duplicated product is counted, its operands are copied, and its second run's flags are
set at the partner (R262, R325). -/
def State.multiply (s : State) (c : Nat) (q : Queued) : State :=
  let b := (s.core c).bank q
  let d := extentOf b q.xs (opD q.word)
  let (ea, a, sa) := s.readOperand c b q.xs (opA q.word)
  let (eb, bt, sb) := s.readOperand c b q.xs (opB q.word)
  let start := if q.word.testBit 0 then s.readCodes c d else []
  let (rows, fl, ufl, ofl) := product ea.fmt eb.fmt a bt sa sb start
  let bytes := ((s.core c).readExtents q).flatMap (s.readBytes c)
  let s0 := if s.duplicated c q then s.copyOperands c bytes else s
  let s1 := ((s0.writeCodes c d rows).numFlags c fl).modCore c (fun k => { k with mmaUfl := ufl, mmaOfl := ofl, mmaFlags := fl, mmaBytes := bytes })
  let s2 := (s1.scaleEvents (CL_SCALE_EVENTS_UFL (c / 4) (c % 4)) ufl).scaleEvents (CL_SCALE_EVENTS_OFL (c / 4) (c % 4)) ofl
  if s2.duplicated c q then (s2.clCount c 4).numFlags (partnerOf c 1) fl else s2

/-- MMA (R311). -/
def execMma (core : Nat) (s : State) : Host.Outcome State Fault Refusal :=
  .next (s.issue core 2 0x20 alwaysReady (fun q s => s.multiply core q))

/-! ### Vector unit (R285, R286, R315 to R323) -/

/-- Places counted in a histogram accumulator (R320). -/
def State.countPlaces (s : State) (c acc : Nat) (ps : List Place) : State :=
  let (h, fl) := ps.foldl (fun (a : Hist × Nat) p =>
    let (h, f) := a.1.add p
    (h, a.2 ||| f)) ((s.core c).hists.getD acc histReset, 0)
  (s.modCore c (fun k => { k with hists := modifyAt (fun _ => h) acc k.hists })).numFlags c fl

/-- FP32 results converted and written to D (R316, R317), and gathered in a histogram where HIST_EN is 1 (R320, R289). -/
def State.writeResults (s : State) (c : Nat) (q : Queued) (rows : List (List Nat)) : State :=
  let k := s.core c
  let b := k.bank q
  let d := extentOf b q.xs (opD q.word)
  let (s1, fl, ps) := if isMx d.fmt then
      let enc := rows.map (encodeRow d.fmt)
      let se := d.scaleShape (extentOf b q.xs d.scales)
      ((s.writeCodes c d (enc.map (·.1))).writeCodes c se (enc.map (·.2.1)), enc.foldl (fun f e => f ||| e.2.2.1) 0, enc.flatMap (·.2.2.2))
    else
      let cv := rows.map (fun r => r.map (convert32 d.fmt))
      let flat := cv.flatMap id
      (s.writeCodes c d (cv.map (fun r => r.map (·.1))), flat.foldl (fun f x => f ||| x.2.1) 0, flat.map (·.2.2))
  let s2 := s1.numFlags c fl
  if q.ext.testBit 9 && !k.work.empty then s2.countPlaces c (bitsOf q.ext 8 7) ps else s2

/-- An operand of the vector unit in FP32, with the flags of its widening (R315); none is read where its mode takes IMM. -/
def State.vectorOperand (s : State) (c : Nat) (b : StoreBank) (q : Queued) (d : Nat) : List (List Nat) × Nat :=
  let (e, codes, scales) := s.readOperand c b q.xs d
  widenAll e.fmt codes scales

/-- A vector instruction's results (R286). -/
def State.vectorEffect (s : State) (c : Nat) (q : Queued) : State :=
  let b := (s.core c).bank q
  let op := opcode q.word
  let d := extentOf b q.xs (opD q.word)
  let imm := bitsOf q.ext 63 32
  let bm := bitsOf q.ext 11 10
  let cm := bitsOf q.ext 13 12
  let (av, fa) := s.vectorOperand c b q (opA q.word)
  let (bv, fb) := if takesB op ∧ bm ≠ 3 then s.vectorOperand c b q (opB q.word) else ([], 0)
  let (cv, fc) := if takesC op ∧ cm ≠ 3 then s.vectorOperand c b q (bitsOf q.ext 31 22) else ([], 0)
  let pos := q.xs.getD (bitsOf q.ext 21 18) 0
  let sub := bitsOf q.ext 17 14
  let rows := if op = 0x39 then av.map (fun r => [reduceRow sub r])
    else (List.range d.rows).map (fun r => (List.range d.cols).map (fun j =>
      vectorElem op sub (!decide (q.xs.getD 5 0 ≤ pos + j ∧ pos + j < q.xs.getD 6 0)) (cell av r j) (modeElem bm imm bv r j) (modeElem cm imm cv r j)))
  (s.numFlags c (fa ||| fb ||| fc)).writeResults c q rows

/-- A vector instruction issues. -/
def State.vector (s : State) (c op : Nat) : State := s.issue c 3 op alwaysReady (fun q s => s.vectorEffect c q)

/-- VADD. -/
def execVadd (core : Nat) (s : State) : Host.Outcome State Fault Refusal := .next (s.vector core 0x30)

/-- VMUL. -/
def execVmul (core : Nat) (s : State) : Host.Outcome State Fault Refusal := .next (s.vector core 0x31)

/-- VFMA. -/
def execVfma (core : Nat) (s : State) : Host.Outcome State Fault Refusal := .next (s.vector core 0x32)

/-- VMAX. -/
def execVmax (core : Nat) (s : State) : Host.Outcome State Fault Refusal := .next (s.vector core 0x33)

/-- VMIN. -/
def execVmin (core : Nat) (s : State) : Host.Outcome State Fault Refusal := .next (s.vector core 0x34)

/-- VSEL. -/
def execVsel (core : Nat) (s : State) : Host.Outcome State Fault Refusal := .next (s.vector core 0x35)

/-- VEXP. -/
def execVexp (core : Nat) (s : State) : Host.Outcome State Fault Refusal := .next (s.vector core 0x36)

/-- VRCP. -/
def execVrcp (core : Nat) (s : State) : Host.Outcome State Fault Refusal := .next (s.vector core 0x37)

/-- VCVT. -/
def execVcvt (core : Nat) (s : State) : Host.Outcome State Fault Refusal := .next (s.vector core 0x38)

/-- VRED. -/
def execVred (core : Nat) (s : State) : Host.Outcome State Fault Refusal := .next (s.vector core 0x39)

/-- VMASK. -/
def execVmask (core : Nat) (s : State) : Host.Outcome State Fault Refusal := .next (s.vector core 0x3A)

/-- The accumulator and the engine's counts written out and cleared (R321 to R323). -/
def State.histogramOut (s : State) (c : Nat) (q : Queued) : State :=
  let k := s.core c
  let acc := bitsOf q.ext 8 7
  let (ws, fl) := (k.hists.getD acc histReset).words k.engUfl k.engOfl
  let s1 := (s.writeBytes c (extentOf (k.bank q) q.xs (opD q.word)) (ws.flatMap (natLE 4))).numFlags c fl
  s1.modCore c (fun k => { k with
    engUfl := 0, engOfl := 0, hists := modifyAt (fun _ => { histReset with base := toSigned 8 (bitsOf q.ext 39 32) }) acc k.hists })

/-- HISTOUT (R321). -/
def execHistout (core : Nat) (s : State) : Host.Outcome State Fault Refusal :=
  .next (s.issue core 3 0x3B alwaysReady (fun q s => s.histogramOut core q))

/-! ### Transposer (R252, R287) -/

/-- What passes through the transposing buffer stays in the core's bank, 512 KiB at most, in an order no rule gives (R242, R270). -/
def State.turnBank (s : State) (c n : Nat) : State :=
  let (bs, s1) := s.takeFree (min n 524288)
  s1.modCore c (fun k => { k with turn := sparseWrite 0 k.turn 0 bs })

/-- XPOSE (R287). -/
def execXpose (core : Nat) (s0 : State) : Host.Outcome State Fault Refusal :=
  .next (s0.issue core 4 0x40 alwaysReady (fun q s1 =>
    let s := s1.turnBank core (((s1.core core).writeExtents q).foldl (fun n e => n + e.rows * e.len) 0)
    let b := (s.core core).bank q
    let d := extentOf b q.xs (opD q.word)
    let (e, a, sc) := s.readOperand core b q.xs (opA q.word)
    if q.word.testBit 0 && isMx e.fmt then
      let w := a.zipIdx.map (fun r => r.1.zipIdx.map (fun x => widenBf16 e.fmt x.1 (cell sc r.2 (x.2 / 32))))
      (s.writeCodes core d (transpose e.cols (w.map (fun r => r.map (·.1))))).numFlags core ((w.flatMap id).foldl (fun f x => f ||| x.2) 0)
    else s.writeCodes core d (transpose e.cols a)))

/-! ### Send unit (R288) -/

/-- Records sent to the requester as ATTENDED frames (R220); INFLIGHT falls (R219). -/
def State.sendRecords (s : State) (a : Attend) (data : List Byte) : State :=
  let n := ceilDiv data.length 4096
  let s1 := (List.range n).foldl (fun s p =>
    s.agentSend 0 { (replyTo a.frame 0x2A ((data.drop (4096 * p)).take 4096)) with address := p + (n - 1) * 64 }) s
  s1.modStay a.index (fun e => { e with inflight := e.inflight - 1 })

/-- Records contributed to the tally of the card (R220), a chunk of 512 ÷ D heads each. -/
def State.contribute (s : State) (a : Attend) (tally coord slot : Nat) (recs : List (List Byte)) : State :=
  let g := 512 / a.dim
  let mk := fun (i : Nat) =>
    let k : Kept := { party := a.party, id := tally, slot := slot, coord := coord, round := a.frame.tag % 256, chunk := i, part := 0,
                      payload := ((recs.drop (g * i)).take g).flatMap id, sent := false, work := some (a.index, a.frame.tag), core := none, launch := 0 }
    { k with sent := s.maySend k }
  let ks := (List.range (ceilDiv recs.length g)).map mk
  (ks.filter (·.sent)).foldl State.sendKept (s.modTally (fun t => { t with kept := t.kept ++ ks }))

/-- HANDOFF (R220, R288): the partials go to the innkeeper, which sends them. -/
def State.handoff (s : State) (c : Nat) (q : Queued) : State :=
  match (s.core c).work.attend with
  | none => s
  | some a =>
    let recs := s.records c q
    let n := (s.core c).work.slot
    let s1 := ((s.clCount c 2).modLaunch c (fun l => { l with attend := none })).modSlot c n (fun x => { x with phase := 3 })
    match (cardOf a.card).tally with
    | some (id, coord, slot) => s1.contribute a id coord slot recs
    | none => s1.sendRecords a (recs.flatMap id)

/-- HANDOFF. -/
def execHandoff (core : Nat) (s : State) : Host.Outcome State Fault Refusal :=
  .next ((s.issue core 5 0x50 alwaysReady (fun q s => s.faultOr core q (fun s => if (s.core core).work.empty then s else s.handoff core q))).retryAgents)

/-- OUTBOX (R256, R288): frames of up to 4,096 B to OUT_RANK, while the stream's bit of OUT_MASK is 1. -/
def State.sendStream (s : State) (c : Nat) (q : Queued) : State :=
  match (s.core c).work.binding with
  | none => s
  | some b =>
    if !b.mask.testBit (bitsOf q.word 20 18) then s
    else
      let data := s.readBytes c (extentOf ((s.core c).bank q) q.xs (opD q.word))
      (List.range (ceilDiv data.length 4096)).foldl (fun s p =>
        s.outbox c b (b.base + 32 * bitsOf q.word 17 0 + 4096 * p) ((data.drop (4096 * p)).take 4096)) s

/-- OUTBOX. -/
def execOutbox (core : Nat) (s : State) : Host.Outcome State Fault Refusal :=
  .next ((s.issue core 5 0x51 alwaysReady (fun q s => s.faultOr core q (fun s => if (s.core core).work.empty then s else s.sendStream core q))).retryAgents)

/-- Bytes a core's send hold keeps (R269). -/
def State.heldBytes (s : State) (c : Nat) : Nat := (s.tally.kept.filter (fun k => k.core == some c)).foldl (fun n k => n + k.payload.length) 0

/-- OPERAND's contribution (R288): kept in the send hold and sent when its tally's limit allows (R166). -/
def State.sendOperand (s : State) (c : Nat) (q : Queued) : State :=
  let k := s.core c
  match k.work.binding with
  | none => s
  | some b =>
    let t := (k.bank q).targets.getD (bitsOf q.word 20 13) 0
    let k0 : Kept := { party := b.party, id := bitsOf t 22 11, slot := bitsOf t 29 23, coord := bitsOf t 10 0,
                       round := q.xs.getD (bitsOf q.word 6 3) 0 % 256, chunk := (q.xs.getD (bitsOf q.word 10 7) 0 + bitsOf q.word 2 0) % 2 ^ 21,
                       part := bitsOf q.word 12 11, payload := s.readBytes c (extentOf (k.bank q) q.xs (opD q.word)), sent := false,
                       work := none, core := some c, launch := k.work.tick }
    let k1 := { k0 with sent := s.maySend k0 }
    let s1 := s.modTally (fun t => { t with kept := t.kept ++ [k1] })
    if k1.sent then s1.sendKept k1 else s1

/-- OPERAND (R288): it waits while the hold lacks space. -/
def execOperandInstruction (core : Nat) (s : State) : Host.Outcome State Fault Refusal :=
  let k := s.core core
  let ready := fun q =>
    let e := extentOf (k.bank q) q.xs (opD q.word)
    k.work.empty || (k.faultOf q).isSome || decide (s.heldBytes core + e.rows * e.len ≤ 131072)
  .next ((s.issue core 5 0x52 ready (fun q s => s.faultOr core q (fun s => if (s.core core).work.empty then s else s.sendOperand core q))).retryAgents)

/-- RECV (R288): it issues; INSTRUCTION_COMPLETE ends it once the bytes have come. -/
def execRecv (core : Nat) (s : State) : Host.Outcome State Fault Refusal := .next (s.issue core 5 0x53 alwaysReady (fun _ s => s))

/-! ### Completion (R273, R276, R322) -/

/-- The lowest ring entry not yet named (R273); the fuel bounds the search. -/
def nextLo (named : List Nat) : Nat → Nat → Nat
  | 0, lo => lo
  | n + 1, lo => if named.contains lo then nextLo named n (lo + 1) else lo

/-- A completed ROOMLD has named its entry, and the innkeeper writes the ring on (R273). -/
def State.nameEntry (s : State) (c : Nat) (q : Queued) : State :=
  let l := (s.core c).work
  let e := ringEntry q
  if l.abandoned || decide (l.roomCount ≤ e) || decide (e < l.lo) then s
  else
    let named := e :: l.named
    let lo := nextLo named (named.length + 1) l.lo
    (s.modLaunch c (fun l => { l with lo := lo, named := named.filter (fun x => decide (lo ≤ x)) })).writeRing c l.slot l.rooms (l.lo + 1008) (lo + 1008)

/-- A running instruction may end: a held product waits for its third run (R263), a RECV for its bytes (R288). -/
def Core.mayEnd (k : Core) (u : Nat) (q : Queued) : Bool :=
  !(u == 2 && (k.dupHold.isSome || !k.checks.isEmpty)) &&
    (opcode q.word != 0x53 || k.silent || !k.work.bound || decide (bitsOf q.word 23 0 ≤ k.work.inbox))

/-- INSTRUCTION_COMPLETE (R276): the chit is posted, the unit is free; an MMA's groups join the engine's counts, which stop at their top (R321, R322). -/
def execInstructionComplete (core unit : Nat) (s : State) : Host.Outcome State Fault Refusal :=
  let k := s.core core
  match k.running.getD (unit - 1) none with
  | none => .next s
  | some q =>
    if unit = 0 ∨ !k.mayEnd unit q then .next s
    else
      let s1 := if opcode q.word = 0x10 then s.nameEntry core q else s
      let s2 := s1.modCore core (fun k =>
        let k1 := k.post q.word
        { k1 with running := modifyAt (fun _ => none) (unit - 1) k.running, engUfl := (bump k.engUfl (if unit = 2 then k.mmaUfl else 0)).1,
                  engOfl := (bump k.engOfl (if unit = 2 then k.mmaOfl else 0)).1, mmaUfl := if unit = 2 then 0 else k.mmaUfl,
                  mmaOfl := if unit = 2 then 0 else k.mmaOfl, mmaFlags := if unit = 2 then 0 else k.mmaFlags,
                  mmaBytes := if unit = 2 then [] else k.mmaBytes })
      let sat := if unit = 2 then (bump k.engUfl k.mmaUfl).2 ||| (bump k.engOfl k.mmaOfl).2 else 0
      .next ((s2.numFlags core sat).settleOld core)

/-! ### Program faults (R295) -/

/-- Code 0x03: every queued instruction waits on a chit and no unit is running, once dispatch has ended or is held. -/
def Core.stuck (k : Core) : Bool :=
  k.running.all (·.isNone) && k.queues.any (fun l => !l.isEmpty) && (k.pc.isNone || k.hold != .none) &&
  k.queues.all (fun l => match l.head? with
    | some q => !k.waitsHold q
    | none => true)

/-- PROGRAM_FAULT (R295): the core's condition for the code holds; codes 0x01 and 0x02 show at dispatch. -/
def execProgramFault (core code : Nat) (s : State) : Host.Outcome State Fault Refusal :=
  let k := s.core core
  let heads := k.queues.filterMap List.head?
  let due := if code = 3 then k.stuck && !k.work.abandoned
    else code != 1 && code != 2 && heads.any (fun q => k.waitsHold q && k.faultOf q == some code)
  .next (if due then (s.progFault core code).retryAgents else s)

end Sys2Proof.Machine
end

