-- ==== Sys2Proof/Machine/Place.lean ====
section
/-! DEFINITION. Placing ATTENDs in dynamic slots (R246 to R248, R271 to R273), binding bound slots and their inbox (R253, R254). -/

namespace Sys2Proof.Machine

open Sys2Proof

/-! ### Placement (R247, R248) -/

/-- Tick of a slot's next launch on a core (R247, R291). -/
def State.nextLaunch (s : State) (c n : Nat) : Option Nat :=
  let k := s.core c
  let b := k.inForce
  (b.entries.zipIdx.filter (fun e => e.1.2.testBit 32 && entSlot e.1 == n)).foldl (fun best e =>
    let pass := if k.entry < e.2 ∨ (k.entry = e.2 ∧ k.rep = 0) then k.pass else k.pass + 1
    let t := firingTick s.clusters.base b.period pass 0 e.1
    some (match best with
      | none => t
      | some x => min x t)) none

/-- Free dynamic slots of a program and class that may take work, their core's island in muster (R51), in the order of cluster, core, slot: (launch tick, core, slot). -/
def State.freeSlots (s : State) (program cls : Nat) : List (Nat × Nat × Nat) :=
  (List.range 24).flatMap (fun c =>
    if !s.coreOn c || s.quarantined c || s.islandOut (13 + c) then []
    else ((s.core c).slots.zipIdx.filter (fun x => x.1.used && !x.1.bound && x.1.phase == 0 && x.1.program == program && x.1.cls == cls)).filterMap
      (fun x => match s.nextLaunch c x.2 with
        | some t => if s.now + s.fld (CL_CTRL_PLACE_LEAD (c / 4)) ≤ t then some (t, c, x.2) else none
        | none => none))

/-- The candidate whose launch comes first; on a tie the first in order. -/
def earliest : List (Nat × Nat × Nat) → Option (Nat × Nat × Nat)
  | [] => none
  | x :: xs => match earliest xs with
    | none => some x
    | some y => if y.1 < x.1 then some y else some x

/-- The docket's header of a dynamic slot (R272). -/
def docketHeader (a : Attend) : List Byte :=
  let b : List Byte := BitVec.ofNat 8 1 :: (natLE 4 a.handle ++ natLE 1 a.layer ++ natLE 3 a.first ++ natLE 3 a.last ++ natLE 2 a.tpr ++ natLE 1 (a.kvHeads - 1))
  padTo 64 (padTo 32 b ++ natLE 4 (Config.scoreScale a.program).toNat)

/-- A slot takes an ATTEND (R248, R271): its query, m = −∞, l = 0, o = 0, the docket and the ring. -/
def State.placeIn (s : State) (a : Attend) (c n : Nat) : State :=
  let at_ := slotAt n
  let s1 := s.localWrite c at_ a.query
  let s2 := s1.localWrite c (at_ + 32 * 2048) ((List.range a.qHeads).flatMap (fun _ => natLE 4 0xFF800000))
  let s3 := s2.localWrite c (at_ + 32 * 2112) (zeroBytes (4 * a.qHeads))
  let s4 := s3.localWrite c (at_ + 32 * 2176) (zeroBytes (4 * a.qHeads * a.dim))
  let s5 := (s4.localWrite c (docketAt n) (docketHeader a)).writeRing c n a.rooms 0 1008
  s5.modSlot c n (fun x => { x with phase := 1, work := some a })

/-- ATTEND_PLACE (R247): the ATTEND at a place of the queue, where none before it waits for the same class. -/
def execAttendPlace (pos : Nat) (s : State) : Host.Outcome State Fault Refusal :=
  match s.stays.placing[pos]? with
  | none => .next s
  | some a =>
    let drop := fun (s : State) => s.modStays (fun u => { u with placing := u.placing.eraseIdx pos })
    if s.phase = 6 ∨ s.halted ∨ !s.bellSet then .next s
    else match s.programOf (cardOf a.card) with
      | none => .next (((drop s).refuseAttend a 6).retryAgents)
      | some p => match classFor p a.rooms.length with
        | none => .next (((drop s).refuseAttend a 6).retryAgents)
        | some k =>
          let same := fun (b : Attend) => match s.programOf (cardOf b.card) with
            | some q => q.number == p.number && classFor q b.rooms.length == some k
            | none => false
          if (s.stays.placing.take pos).any same then .next s
          else match earliest (s.freeSlots p.number k) with
            | none => .next s
            | some (_, c, n) => .next ((drop s).placeIn a c n)

/-! ### Binding and inbox (R253, R254) -/

/-- BIND_WRITE (R253): word 1 of CL_BINDn, with the word 0 held before it (R130, R267). -/
def execBindWrite (cluster n value : Nat) (s : State) : Host.Outcome State Fault Refusal :=
  if 6 ≤ cluster ∨ 64 ≤ n then .next s
  else
    let w0 := (sparseGet (s.reg (CL_BIND_W0 cluster n)) s.sw.held0 (CL_BIND_W0 cluster n)).toNat
    let c := 4 * cluster + n / 16
    let s1 := s.modSw (fun w => { w with held0 := sparseErase w.held0 (CL_BIND_W0 cluster n) })
    if !((s.core c).slots.getD (n % 16) slotReset).bound ∨ bitsOf w0 33 0 ≠ 0 ∨ bitsOf value 55 50 ≠ 0 then .next (s1.raise (CL_ERR_BIND_REFUSED cluster))
    else
      let b : Binding := { party := bitsOf w0 62 51, rank := bitsOf w0 50 34, mask := bitsOf value 63 56, base := bitsOf value 49 0 }
      .next (((s1.setReg (CL_BIND_W0 cluster n) (BitVec.ofNat 64 w0)).setReg (CL_BIND_W1 cluster n) (BitVec.ofNat 64 value)).modSlot c (n % 16)
        (fun x => { x with bindNext := x.bindNext ++ [(w0.testBit 63, b, s.now)] }))

/-- Whether a slot takes inputs of a party: its binding in force, or one written for a later launch (log entry 89). -/
def Slot.takesParty (x : Slot) (party : Nat) : Bool :=
  (match x.binding with
    | some b => b.party == party
    | none => false) ||
  x.bindNext.any (fun y => y.1 && y.2.1.party == party)

/-- Bytes written by the inbox: those that a running instruction writes as well are free, and so is what an instruction makes of those that it reads
(R280). -/
def State.inboxWrite (s : State) (c at_ : Nat) (bs : List Byte) : State :=
  let w := [((if at_ < bufferBytes then c else 64 + c / 4) * 2 ^ 24 + at_, bs.length)]
  let (_, both, s1) := s.clashes c 0 [] w
  (s1.localWrite c at_ bs).freeSpans c both

/-- INBOX (R254). -/
def execInbox (f : Frame) (s : State) : Host.Outcome State Fault Refusal :=
  s.serve f (fun s =>
    let cl := f.dstPort - 0xE0
    let c := 4 * cl + bitsOf f.address 1 0
    let n := bitsOf f.address 5 2
    let x := (s.core c).slots.getD n slotReset
    if f.kind ≠ 0x18 ∨ f.dstPort < 0xE0 ∨ 0xE5 < f.dstPort then s
    else if !x.bound ∨ !x.takesParty f.party ∨ bitsOf f.address 49 28 ≠ 0 then s.count (CL_CNT cl 9)
    else match inboxPlace c n (bitsOf f.address 27 6) f.payload.length with
      | none => s.count (CL_CNT cl 9)
      | some ps =>
        let s1 := ps.foldl (fun s p => s.inboxWrite c p.1 ((f.payload.drop p.2.1).take p.2.2)) s
        s1.modCore c (fun k => { k with launch := k.launch.map (fun l =>
          if l.slot = n ∧ l.bound ∧ !k.oldWork then { l with inbox := l.inbox + f.payload.length } else l) }))

end Sys2Proof.Machine
end

