-- ==== Sys2Proof/Machine/Image.lean ====
section
/-! DEFINITION. Itinerary images (R290 to R303): their layout, verification, activation; the measurement log (R448). -/

namespace Sys2Proof.Machine

open Sys2Proof

/-! ### Layout (R296 to R300) -/

/-- Address of the itinerary staging rooms (R441). -/
def itinStaging : Nat := 25728 * 65536

/-- A section of an image (R296). -/
structure Section where
  type_ : Nat
  index : Nat
  off : Nat
  len : Nat
  deriving DecidableEq, Repr

/-- The section table. -/
def sectionsOf (b : List Byte) : List Section :=
  (List.range (byteAt b 21)).map (fun i => ⟨leAt b (64 + 16 * i) 2, leAt b (66 + 16 * i) 2, leAt b (72 + 16 * i) 4, leAt b (76 + 16 * i) 4⟩)

/-- Bytes of the section of a type and index. -/
def sectionBytes (b : List Byte) (type_ index : Nat) : Option (List Byte) :=
  ((sectionsOf b).find? (fun x => x.type_ == type_ && (type_ != 1 || x.index == index))).map (fun x => (b.drop x.off).take x.len)

/-- Words of `n` bytes from a place. -/
def wordsAt (b : List Byte) (off n count : Nat) : List Nat := (List.range count).map (fun i => leAt b (off + n * i) n)

/-- Counts of a core section (R298): entries, words, descriptors, targets. -/
def coreCounts (b : List Byte) : Nat × Nat × Nat × Nat := (leAt b 4 2, leAt b 8 4, leAt b 12 2, leAt b 14 2)

/-- `n` rounded up to a multiple of 16. -/
def up16 (n : Nat) : Nat := ceilDiv n 16 * 16

/-- Bytes a core section needs for its arrays. -/
def coreLength (b : List Byte) : Nat :=
  let (e, w, d, t) := coreCounts b
  64 + 16 * e + up16 (8 * w) + 16 * d + 8 * t

/-- The store bank of a core section (R298). -/
def coreBank (b : List Byte) : StoreBank :=
  let (e, w, d, t) := coreCounts b
  let pairs := fun (off n : Nat) => (List.range n).map (fun i => (leAt b (off + 16 * i) 8, leAt b (off + 16 * i + 8) 8))
  let wo := 64 + 16 * e
  let do_ := wo + up16 (8 * w)
  { period := leAt b 0 4, entries := pairs 64 e, words := wordsAt b wo 8 w, descs := pairs do_ d, targets := wordsAt b (do_ + 16 * d) 8 t }

/-- A program of the programs section (R299). -/
def programAt (b : List Byte) (i : Nat) : Program :=
  let o := 64 * i
  { number := leAt b o 2, kvFmts := byteAt b (o + 2), headDim := byteAt b (o + 3), kvHeadsM1 := byteAt b (o + 4), qHeadsM1 := leAt b (o + 5) 2,
    maxRooms := wordsAt b (o + 8) 4 (byteAt b (o + 7)) }

/-- Bytes of a curfew list (R299): PORT and SWITCH_OFFSET as 8 bytes each, then the bank words (log entry 90). -/
def curfewListLen : Nat := 16 + 8 * 1025

/-- A list of the curfew section. -/
def curfewAt (b : List Byte) (i : Nat) : Nat × Nat × List Nat :=
  let o := curfewListLen * i
  (leAt b o 8, leAt b (o + 8) 8, wordsAt b (o + 16) 8 1025)

/-! ### Bundles (R274, R281, R301 codes 0x06 and 0x07) -/

/-- Unit of an opcode (R281). -/
def unitOf (op : Nat) : Option Nat :=
  if 1 ≤ op ∧ op ≤ 5 then some 0
  else if op = 0x10 ∨ op = 0x11 then some 1
  else if op = 0x20 then some 2
  else if isVector op then some 3
  else if op = 0x40 then some 4
  else if 0x50 ≤ op ∧ op ≤ 0x53 then some 5
  else none

/-- Operand bits of a word that its opcode does not name, and values reserved in its fields. -/
def operandsOk (w x : Nat) : Bool :=
  let op := opcode w
  if op = 1 ∨ op = 5 then bitsOf w 30 0 == 0
  else if op = 2 then decide (10 ≤ bitsOf w 30 27)
  else if op = 3 then decide (10 ≤ bitsOf w 30 27) && bitsOf w 18 16 == 0
  else if op = 4 then bitsOf w 30 27 == 0
  else if op = 0x11 then bitsOf w 10 0 == 0
  else if op = 0x40 then bitsOf w 10 1 == 0
  else if op = 0x50 then !w.testBit 0
  else if op = 0x53 then bitsOf w 30 24 == 0
  else if isVector op then
    !w.testBit 0 && bitsOf x 6 0 == 0 && (op != 0x35 || decide (bitsOf x 17 14 ≤ 3)) && (op != 0x39 || decide (bitsOf x 17 14 ≤ 2)) &&
    (op != 0x3B || bitsOf x 63 40 == 0)
  else true

/-- A word has a listed opcode, its unit, and no reserved value (R301 code 0x06, R276, R323). -/
def wordOk (w x : Nat) : Bool :=
  unitOf (opcode w) == some (bitsOf w 55 52) && (bitsOf w 51 47 == 0 || bitsOf w 51 47 != bitsOf w 43 39) && operandsOk w x

/-- The instructions of a bundle from word `p` on, and whether it ends with END (R275). The fuel is the words it may hold. -/
def bundleFrom (words : List Nat) : Nat → Nat → List (Nat × Nat) × Bool
  | 0, _ => ([], false)
  | n + 1, p => match words[p]? with
    | none => ([], false)
    | some w =>
      if opcode w = 1 then ([(w, 0)], true)
      else if isVector (opcode w) then
        (match n, words[p + 1]? with
          | m + 1, some x =>
            let (l, ok) := bundleFrom words m (p + 2)
            ((w, x) :: l, ok)
          | _, _ => ([], false))
      else
        let (l, ok) := bundleFrom words n (p + 1)
        ((w, 0) :: l, ok)

/-- The bundles that a core's entries name. -/
def bundlesOf (b : StoreBank) : List (List (Nat × Nat) × Bool) :=
  (((b.entries.filter (fun e => !e.2.testBit 35)).map entBundle).eraseDups).map (bundleFrom b.words 1024)

/-! ### Descriptors and shapes (R284 to R288, R310, R321; code 0x08) -/

/-- An extent with every index at 0. -/
def extent0 (b : StoreBank) (d : Nat) : Extent := extentOf b (List.replicate 16 0) d

/-- A descriptor that an instruction names is in the table, with a listed FMT, within one region, and, for MX, in whole blocks with
scales of its shape. -/
def descOk (b : StoreBank) (scaled : Bool) (d : Nat) : Bool :=
  let e := extent0 b d
  let s := extent0 b e.scales
  decide (d < b.descs.length) && decide (e.fmt ≤ 11) && e.inRegion && (!isMx e.fmt || (e.cols % 32 == 0 && (!scaled ||
    (decide (e.scales < b.descs.length) && s.fmt == 11 && s.inRegion && s.rows == e.rows && s.cols == e.cols / 32))))

/-- Shape of an operand under its mode (R285). -/
def modeOk (mode : Nat) (d e : Extent) : Bool :=
  if mode = 0 then e.rows == d.rows && e.cols == d.cols else if mode = 1 then e.rows == d.rows && e.cols == 1 else e.rows == 1 && e.cols == 1

/-- Shapes and formats of an instruction (R284 to R288, R321). -/
def shapeOk (b : StoreBank) (w x : Nat) : Bool :=
  let op := opcode w
  let d := extent0 b (opD w)
  let a := extent0 b (opA w)
  let e := extent0 b (opB w)
  let c := extent0 b (bitsOf x 31 22)
  if op = 0x11 then d.rows * d.len == a.rows * a.len
  else if op = 0x20 then
    d.fmt == 0 && a.rows == d.rows && e.rows == d.cols && a.cols == e.cols && decide (1 ≤ a.fmt ∧ a.fmt ≤ 9) && decide (1 ≤ e.fmt ∧ e.fmt ≤ 9)
  else if op = 0x3B then d.fmt == 10 && d.rows * d.cols == 72
  else if op = 0x39 then d.fmt != 11 && d.rows == a.rows && d.cols == 1
  else if isVector op then
    d.fmt != 11 && a.rows == d.rows && a.cols == d.cols && (!takesB op || bitsOf x 11 10 == 3 || modeOk (bitsOf x 11 10) d e) &&
    (!takesC op || bitsOf x 13 12 == 3 || modeOk (bitsOf x 13 12) d c)
  else if op = 0x40 then
    d.rows == a.cols && d.cols == a.rows && d.fmt == (if w.testBit 0 && isMx a.fmt then 1 else a.fmt)
  else if op = 0x52 then decide (bitsOf w 20 13 < b.targets.length)
  else true

/-- Every descriptor of a core's table has a listed FMT, an extent within one region, and, for MX, whole blocks (R301 code 0x08, R310). -/
def descsOk (b : StoreBank) : Bool := (List.range b.descs.length).all (descOk b false)

/-- An instruction's descriptors and shapes (R301 code 0x08). -/
def instrOk (b : StoreBank) (w x : Nat) : Bool := (readsOf w x ++ writesOf w).all (descOk b (usesScales w)) && shapeOk b w x

/-! ### Itineraries (R292; code 0x09) -/

/-- Offset of an entry's last firing. -/
def lastFiring (e : Nat × Nat) : Nat := bitsOf e.1 31 0 + entRepeat e * entStride e

/-- Works of an itinerary: the slot of the work under way, through to the end with none open (R292). -/
def worksOk : Option Nat → List (Nat × Nat) → Bool
  | o, [] => o.isNone
  | o, e :: es =>
    let after := if e.2.testBit 34 then none else if e.2.testBit 32 then some (entSlot e) else o
    (match o with
      | none => true
      | some n => entSlot e == n && !e.2.testBit 32) && worksOk after es

/-- An entry by itself (R290, R292). -/
def entryOk (used : Nat → Bool) (e : Nat × Nat) : Bool :=
  ((if e.2.testBit 32 then 1 else 0) + (if e.2.testBit 33 then 1 else 0) + (if e.2.testBit 35 then 1 else 0) == 1) &&
  (!e.2.testBit 36 || e.2.testBit 34) && (entStride e != 0 || entRepeat e == 0) && !e.1.testBit 47 && bitsOf e.2 31 28 == 0 && bitsOf e.2 63 38 == 0 &&
  (!e.2.testBit 32 || used (entSlot e))

/-- An entry and the one after it, `later` ticks being added to the second's offset in the next pass (R292). -/
def followOk (e f : Nat × Nat) (later : Nat) : Bool :=
  decide (lastFiring e ≤ bitsOf f.1 31 0 + later) && (e.2.testBit 36 == f.2.testBit 35) &&
  (!e.2.testBit 35 || decide (lastFiring e + 16000 ≤ bitsOf f.1 31 0 + later))

/-- A core's itinerary (R292). -/
def itineraryOk (b : StoreBank) (used : Nat → Bool) : Bool :=
  let es := b.entries
  decide (b.period ≠ 0) && b.period % 32 == 0 && decide (es ≠ []) && es.all (entryOk used) &&
  es.zipIdx.all (fun e => e.1.2.testBit 37 == (e.2 + 1 == es.length)) && (es.zip (es.drop 1)).all (fun p => followOk p.1 p.2 0) &&
  (match es.getLast?, es.head? with
    | some l, some h => decide (lastFiring l < b.period) && followOk l h b.period
    | _, _ => false) && worksOk none es

/-! ### Verification (R301) -/

/-- Slot entries (R299). -/
def slotEntry? (slots : List Nat) (c n : Nat) : Nat := slots.getD (16 * c + n) 0

/-- The programs and slots sections agree (code 0x0B). -/
def programsOk (ps : List Program) (classes : List Nat) (slots : List Nat) : Bool :=
  decide ((ps.map (·.number)).Nodup) && classes.all (fun k => decide (1 ≤ k ∧ k ≤ 8)) &&
  ps.all (fun p => p.maxRooms.all (fun m => decide (1 ≤ m ∧ m ≤ 65536)) && decide (p.kvFmts ≤ 15) && decide (p.headDim ≤ 2)) &&
  slots.length == 384 && slots.all (fun x => bitsOf x 31 21 == 0 && (!x.testBit 20 || ps.any (fun p => p.number == bitsOf x 15 0 && decide (bitsOf x 18 16 < p.maxRooms.length))))

/-- A curfew list holds no reserved value (R134; code 0x0C). -/
def curfewListOk (l : Nat × Nat × List Nat) : Bool :=
  let p := l.2.2.getD 1024 0
  let n := bitsOf p 10 0
  decide (l.1 < 256) && decide (1 ≤ n ∧ n ≤ 1024) && bitsOf p 63 32 != 0 && p % 2 ^ 64 &&& curfewMask 1024 == p &&
  ((l.2.2.take n).all (fun w => bitsOf w 39 8 != 0 && w &&& curfewMask 0 == w))

/-- The section table (code 0x05). -/
def tableOk (b : List Byte) : Bool :=
  let ss := sectionsOf b
  let n := byteAt b 21
  let count := fun (t : Nat) => (ss.filter (fun x => x.type_ == t)).length
  decide (1 ≤ n ∧ n ≤ 60) && ss.all (fun x => decide (1 ≤ x.type_ ∧ x.type_ ≤ 5) && x.off % 256 == 0 && decide (1024 ≤ x.off) && decide (x.off + x.len + 3328 ≤ b.length)) &&
  ss.zipIdx.all (fun x => ss.zipIdx.all (fun y => x.2 == y.2 || decide (x.1.off + x.1.len ≤ y.1.off ∨ y.1.off + y.1.len ≤ x.1.off))) &&
  (List.range 24).all (fun c => (ss.filter (fun x => x.type_ == 1 && x.index == c)).length == 1) && count 1 == 24 && count 2 == 1 && count 3 == 1 &&
  decide (count 4 ≤ 1) && decide (count 5 ≤ 1) &&
  (List.range 24).all (fun c => match sectionBytes b 1 c with
    | some x => decide (64 ≤ x.length) && decide (coreLength x ≤ x.length)
    | none => false) &&
  (match sectionBytes b 2 0, sectionBytes b 3 0 with
    | some p, some s => p.length % 64 == 0 && s.length == 1536
    | _, _ => false) &&
  (match sectionBytes b 4 0 with
    | some c => c.length % curfewListLen == 0
    | none => true)

/-- The outcome of a verification (R301): the first failure in the order of its table, or the image. The core sections have passed their checks, and
are copied, once none has failed up to code 0x0A. -/
def State.verdict (s : State) : Verdict :=
  match s.host.stagedLen with
  | none => .fails 1 []
  | some n => match s.poolRead itinStaging n with
    | (none, _) => .fails 4 []
    | (some b, _) =>
      if 64 * 2 ^ 20 < leAt b 8 4 ∨ leAt b 8 4 < 4352 ∨ leAt b 8 4 ≠ n then .fails 1 []
      else if leAt b 0 4 ≠ 0x494B4D41 ∨ leAt b 6 2 ≠ 1 then .fails 2 []
      else if byteAt b 5 ≠ s.fld DV_IDENT_IFACE_MAJOR ∨ s.fld DV_IDENT_IFACE_MINOR < byteAt b 4 then .fails 3 []
      else
        let digest := shake 64 (b.take (n - 3328))
        let trailer := b.drop (n - 3328)
        match s.host.flash.owner with
        | none => .fails 4 []
        | some key =>
          if !Config.mldsaVerify key digest (trailer.take 3309) ∨ (trailer.drop 3309).any (· != 0) then .fails 4 []
          else if !tableOk b then .fails 5 []
          else
            let secs := (List.range 24).map (fun c => (sectionBytes b 1 c).getD [])
            let banks := secs.map coreBank
            let bundles := banks.map bundlesOf
            let ps := (sectionBytes b 2 0).getD []
            let programs := (List.range (ps.length / 64)).map (programAt ps)
            let slots := wordsAt ((sectionBytes b 3 0).getD []) 0 4 384
            let cs := (sectionBytes b 4 0).getD []
            let curfews := (List.range (cs.length / curfewListLen)).map (curfewAt cs)
            if bundles.any (fun bs => bs.any (fun x => x.1.any (fun i => !wordOk i.1 i.2))) then .fails 6 []
            else if bundles.any (fun bs => bs.any (fun x => !x.2)) then .fails 7 []
            else if !banks.all descsOk ∨ (banks.zip bundles).any (fun p => p.2.any (fun x => x.1.any (fun i => !instrOk p.1 i.1 i.2))) then .fails 8 []
            else if banks.zipIdx.any (fun x => !itineraryOk x.1 (fun n => (slotEntry? slots x.2 n).testBit 20)) then .fails 9 []
            else if secs.any (fun x => match coreCounts x with
              | (e, w, d, t) => e == 0 || decide (4096 < e) || w == 0 || decide (32768 < w) || decide (1024 < d) || decide (256 < t)) then .fails 0xA []
            else if !programsOk programs ((List.range (ps.length / 64)).map (fun i => byteAt ps (64 * i + 7))) slots ∨ 4 < byteAt b 20 then .fails 0xB banks
            else if !curfews.all curfewListOk then .fails 0xC banks
            else .passes { id := leAt b 12 8, dup := byteAt b 20, programs := programs, slots := slots, curfews := curfews, digest := digest } banks

/-- VERIFY (R301). -/
def execVerify (s : State) : Host.Outcome State Fault Refusal :=
  if s.flag DV_ITIN_STATUS_BUSY ∨ s.flag DV_ITIN_STATUS_PENDING ∨ s.clusters.cores.any (·.oldWork) then .next (s.raise DV_ITIN_ERR_BUSY)
  else .next ((((s.raise DV_ITIN_STATUS_BUSY).setFld DV_ITIN_STATUS_STAGED_OK 0).modClusters (fun u => { u with staged := none })).modHost
    (fun h => { h with verifying := some s.verdict }))

/-- A core's shadow bank takes its section's arrays (R301). -/
def Core.loadShadow (k : Core) (b : StoreBank) : Core := { k with banks := modifyAt (fun _ => b) (1 - k.front) k.banks }

/-- The banks of core sections that have passed are copied into the shadow banks (R301). -/
def State.loadShadows (s : State) (banks : List StoreBank) : State :=
  s.modClusters (fun u => { u with cores := u.cores.zipIdx.map (fun x => match banks[x.2]? with
    | some b => x.1.loadShadow b
    | none => x.1) })

/-- VERIFY_DONE (R301). -/
def execVerifyDone (s : State) : Host.Outcome State Fault Refusal :=
  match s.host.verifying with
  | none => .next s
  | some v =>
    let s1 := (s.setFld DV_ITIN_STATUS_BUSY 0).modHost (fun h => { h with verifying := none })
    match v with
    | .fails code banks => .next (((s1.loadShadows banks).setFld DV_ITIN_STATUS_LAST_ERR code).raise DV_ITIN_ERR_VERIFY_FAIL)
    | .passes im banks =>
      let s2 := (s1.loadShadows banks).modClusters (fun u => { u with staged := some im })
      .next (((s2.raise DV_ITIN_STATUS_STAGED_OK).setReg DV_ITIN_STAGED_ID (BitVec.ofNat 64 im.id)).measure 7 im.digest im.id)

/-! ### Activation (R302, R303) -/

/-- Activation or a cancel is refused (R302). -/
def State.itinRefuse (s : State) : State := s.raise DV_ITIN_ERR_REFUSED

/-- Why an activation tick is refused (R301 codes 0x10 to 0x13). -/
def State.armCode (s : State) (tick : Nat) : Nat :=
  if !s.tickAhead tick then 0x10
  else if tick % 32 ≠ 0 then 0x11
  else if !s.flag DV_ITIN_STATUS_STAGED_OK then 0x12
  else match s.clusters.staged with
    | none => 0x12
    | some im => if im.curfews.any (fun l => s.curfewPending l.1) then 0x13 else 0

/-- A curfew list written to its port's shadow bank and armed (R136, R302). -/
def State.armList (s : State) (tick : Nat) (l : Nat × Nat × List Nat) : State :=
  let b := 1 - s.fld (SW_CURFEW_CTL_ACTIVE_BANK l.1)
  (s.modSw (fun w => { w with curfew := l.2.2.zipIdx.foldl (fun m x => sparseSet 0 m (curfewKey l.1 b x.2) (BitVec.ofNat 64 x.1)) w.curfew })).armCurfew
    l.1 (tick + l.2.1)

/-- ACTIVATION_ARM (R302). -/
def execActivationArm (tick : Nat) (s : State) : Host.Outcome State Fault Refusal :=
  let code := s.armCode tick
  if code ≠ 0 then .next ((s.setFld DV_ITIN_STATUS_LAST_ERR code).itinRefuse)
  else
    let s1 := ((s.setReg DV_ITIN_ACT_TICK (BitVec.ofNat 64 tick)).raise DV_ITIN_STATUS_PENDING).modClusters (fun u => { u with armed := some tick })
    .next (((s.clusters.staged.map (·.curfews)).getD []).foldl (fun s l => s.armList tick l) s1)

/-- ACTIVATION_CANCEL (R302). -/
def execActivationCancel (s : State) : Host.Outcome State Fault Refusal :=
  match s.clusters.armed with
  | none => .next s
  | some t =>
    if !s.tickAhead t then .next s.itinRefuse
    else
      let s1 := (s.setFld DV_ITIN_STATUS_PENDING 0).modClusters (fun u => { u with armed := none })
      .next (((s.clusters.staged.map (·.curfews)).getD []).foldl (fun s l => s.cancelCurfew l.1) s1)

/-- A slot under a new image (R299, R303): only a work whose firing still runs stays in it. -/
def Slot.renew (x : Slot) (entry : Nat) (keep : Bool) : Slot :=
  { slotReset with
    used := entry.testBit 20, bound := entry.testBit 19, program := bitsOf entry 15 0, cls := bitsOf entry 18 16,
    phase := if keep ∧ 2 ≤ x.phase then x.phase else 0, work := if keep ∧ 2 ≤ x.phase then x.work else none }

/-- A core under a new image (R303, R323). -/
def Core.renew (k : Core) (c : Nat) (slots : List Nat) : Core :=
  let busy := !k.dispatched || !k.idle
  { k with
    front := 1 - k.front, entry := 0, rep := 0, pass := 0, lnum := 0, lateOn := false, hists := List.replicate 4 histReset, engUfl := 0, engOfl := 0,
    oldWork := busy, launch := if busy then k.launch else none, flags := if busy then k.flags else 0,
    slots := k.slots.zipIdx.map (fun x => x.1.renew (slotEntry? slots c x.2) busy) }

/-- ATTENDs that go back to the queue when a new image comes into force (R303): those placed and not latched, and, where no firing of the
core runs, those latched and not handed over (log entry 75). -/
def Core.returned (k : Core) : List Attend :=
  (k.slots.filter (fun x => x.phase == 1)).filterMap (·.work) ++
  (if k.dispatched && k.idle then (match k.launch with
    | some l => l.attend.toList
    | none => []) else [])

/-- The staged image comes into force (R303); CL_COREc shows every core at its first entry, X2 and X3 at 0 (R306). -/
def State.activate (s : State) : State :=
  match s.clusters.armed, s.clusters.staged with
  | some t, some im =>
    if !s.bellSet ∨ s.now < t then s
    else
      let s0 := (List.range 24).foldl (fun s c => s.settleCore c) s
      let s1 := s0.requeue (s0.clusters.cores.flatMap Core.returned)
      let old := s1.clusters.cores
      let s2 := s1.modClusters (fun u => { u with
        base := t, active := some im, staged := none, armed := none, cores := u.cores.zipIdx.map (fun x => x.1.renew x.2 im.slots) })
      let s3 := (List.range 384).foldl (fun s i =>
        let c := i / 16
        let n := i % 16
        let was := ((old.getD c coreReset).slots.getD n slotReset).bound
        let s' := s.setFld (CL_BIND_W0_VALID (c / 4) (i % 64)) 0
        if was || (slotEntry? im.slots c n).testBit 19 then s'.clearDocket c n else s') s2
      let s4 := (List.range 6).foldl (fun s k => s.setFld (CL_DUP_FRACTION k) im.dup) s3
      let s5 := (((s4.setFld DV_ITIN_STATUS_PENDING 0).setFld DV_ITIN_STATUS_STAGED_OK 0).raise DV_ITIN_STATUS_ACTIVE).setReg DV_ITIN_ACTIVE_ID
        (BitVec.ofNat 64 im.id)
      let shown := (List.range 24).foldl (fun s c => s.showFiring c (((s.core c).inForce.entries[0]?).getD (0, 0))) s5
      let s6 := shown.measure 7 im.digest im.id
      (s6.modHost (fun h => { h with measured := h.measured.filter (fun m => m.1 != 7) ++ [(7, im.digest)] })).retryAgents
  | _, _ => s

/-- IMAGE_ACTIVATION (R303). -/
def execImageActivation (s : State) : Host.Outcome State Fault Refusal := .next s.activate

end Sys2Proof.Machine
end

