-- ==== Sys2Proof/Machine/Watch.lean ====
section
/-! DEFINITION. The watch's ring, notices and injection, proof suites and the health monitor (R391 to R410). -/

namespace Sys2Proof.Machine

open Sys2Proof

/-! ### Messages and the ring (R391 to R402) -/

/-- A SOURCE of R393. -/
def sourceListed (n : Nat) : Bool :=
  decide (n ≤ 0x37) || decide (0x40 ≤ n ∧ n ≤ 0x43) || decide (0x60 ≤ n ∧ n ≤ 0x78) || n == 0x80 || decide (0xA0 ≤ n ∧ n ≤ 0xB7) ||
  decide (0xC0 ≤ n ∧ n ≤ 0xC5) || decide (0x100 ≤ n ∧ n ≤ 0x107) || decide (0x180 ≤ n ∧ n ≤ 0x183) || decide (0x200 ≤ n ∧ n ≤ 0x2FF) ||
  decide (0x300 ≤ n ∧ n ≤ 0x305) || n == 0x3FE

/-- A KIND of R395. -/
def faultKindListed (k : Nat) : Bool :=
  decide (1 ≤ k ∧ k ≤ 0xD) || decide (0x10 ≤ k ∧ k ≤ 0x14) || k == 0x18 || decide (0x20 ≤ k ∧ k ≤ 0x28) || decide (0x30 ≤ k ∧ k ≤ 0x3C) || k == 0x3E

/-- FAULT_MESSAGE (R392): a block's message; a reserved SOURCE or KIND is never sent. -/
def execFaultMessage (source kind address : Nat) (s : State) : Host.Outcome State Fault Refusal :=
  let s1 := if source = 0x060 ∧ kind = 0x05 then s.count (TL_CNT 10) else s
  .next (if sourceListed source && faultKindListed kind then (s1.fault source kind (address % 2 ^ 40)).retryAgents else s)

/-- The 16-byte ring entry (R391). -/
def ringBytes (m : Word × Nat) : List Byte := natLE 8 m.1.toNat ++ natLE 8 m.2

/-- The notice to the host (R401, R434): an entry of queue 0 while the link is up. -/
def State.noticeHost (s : State) (m : Word × Nat) (number : Nat) : State :=
  if !s.linkUp then s
  else if s.qReady 0 then s.qWrite 0 (ringBytes m ++ natLE 8 number)
  else if s.flag (MB_QCFG_ENABLE 0) then s.raise WATCH_ERR_NOTICE_LOST
  else s

/-- RING_ENTRY (R402): the oldest queued message is entered at HEAD, and notices go out for a class of NOTIFY_MIN or graver. -/
def execRingEntry (s : State) : Host.Outcome State Fault Refusal :=
  match s.watch.queue with
  | [] => .next s
  | m :: rest =>
    let i := s.fld WATCH_STATUS_HEAD
    let n := s.fld WATCH_STATUS_TOTAL
    let s1 := s.modWatch (fun q => { q with queue := rest })
    let s2 := (s1.setReg (WATCH_RING_MSG i) m.1).setReg (WATCH_RING_TICK i) (BitVec.ofNat 64 m.2)
    let s3 := (s2.setFld WATCH_STATUS_HEAD ((i + 1) % 4096)).setFld WATCH_STATUS_TOTAL ((n + 1) % 2 ^ 48)
    if bitsOf m.1.toNat 47 45 < s3.fld WATCH_CTRL_NOTIFY_MIN then .next s3
    else .next ((s3.noticeHost m n).sentMctp (0x22 :: ringBytes m))

/-- INJECT (R402): refused where the severity would be fatal. -/
def execInject (value : Nat) (s : State) : Host.Outcome State Fault Refusal :=
  let kind := bitsOf value 53 48
  if !value.testBit 63 then .next (s.writePlain WATCH_INJECT value)
  else if 4 ≤ s.severity 0x3FE kind then .next (s.raise WATCH_ERR_INJECT_REFUSED)
  else .next ((s.writePlain WATCH_INJECT value).fault 0x3FE kind (bitsOf value 39 0))

/-! ### Proof kernels (R407, R408) -/

/-- The proof kernels may run (R30, R407, R443): the cores are released, and stage 3 has loaded them (log entry 158). -/
def State.proofReady (s : State) : Bool := s.power.released && decide (3 ≤ s.fld MB_BOOT_STATUS_STAGE)

/-- A suite may run on a core that a GO marks. -/
def State.proofable (s : State) (c : Nat) : Bool :=
  let k := s.core c
  s.proofReady && !k.proof && (s.quarantined c || (!s.coreOn c && !k.runs && k.idle && k.dispatched))

/-- A suite starts on a core. -/
def State.startProof (s : State) (c : Nat) : State := (s.modCore c (fun k => { k with proof := true })).raise PH_PROOF_STATUS_BUSY

/-- PROOF_GO (R408). -/
def execProofGo (value : Nat) (s : State) : Host.Outcome State Fault Refusal :=
  let s1 := s.writePlain PH_PROOF_CTRL value
  let cores := onesOf (bitsOf value 23 0) 24
  if !value.testBit 63 then .next s1
  else if cores.all s.proofable then .next (cores.foldl State.startProof s1)
  else .next (s1.raise PH_ERR_PROOF_REFUSED)

/-- PROOF_AUTO_START (R408, R443): once after each quarantine, when the core is idle and boot stage 3 has passed. -/
def execProofAutoStart (core : Nat) (s : State) : Host.Outcome State Fault Refusal :=
  let k := s.core core
  if core < 24 ∧ s.flag PH_PROOF_CTRL_AUTO_RUN ∧ s.quarantined core ∧ k.idle ∧ !k.proof ∧ !k.proofed ∧ s.proofReady = true then
    .next (s.startProof core)
  else .next s

/-- PROOF_SUITE_DONE (R408): the first failing kernel, if any. -/
def execProofSuiteDone (core : Nat) (failing : Option Nat) (s : State) : Host.Outcome State Fault Refusal :=
  let k := s.core core
  if !k.proof then .next s
  else
    let s1 := s.modCore core (fun k => { k with proof := false, proofed := true, quarHeld := false })
    let pass := failing.isNone
    let s2 := (s1.setFld PH_PROOF_STATUS_PASS (putBitOf (s1.fld PH_PROOF_STATUS_PASS) core pass)).setFld PH_PROOF_STATUS_FAIL
      (putBitOf (s1.fld PH_PROOF_STATUS_FAIL) core (!pass))
    let s3 := s2.setFld PH_PROOF_STATUS_BUSY (if s2.clusters.cores.any (·.proof) then 1 else 0)
    let s4 := match failing with
      | some f => s3.fault (0xA0 + core) 0x0A f
      | none => s3
    .next (if k.quarHeld || (pass && s4.flag PH_PROOF_CTRL_AUTO_RETURN) then s4.setRegBit (CL_QUAR (core / 4)) (core % 4) false else s4)

/-! ### Stopover's start (R411) -/

/-- A start that is refused (R411, R417, R419); a mailbox command answers for the stopover that runs, not for this one. -/
def State.stopRefused (s : State) : State :=
  let s1 := (s.setFld PH_STOP_STATUS_RESULT 6).raise PH_ERR_STOP_REFUSED
  (if s.fld PH_STOP_STATUS_STATE < 2 then s1.stopAnswer 6 else s1).fault 0x302 0x39 6

/-- A stopover starts (R411, R412 event 1), or is refused. -/
def State.startStop (s : State) : State :=
  if s.phase ≠ 5 ∨ s.stackLost 0 then s.stopRefused
  else
    let s1 := (s.setPhase 6).setFld PH_STOP_STATUS_SEQ ((s.fld PH_STOP_STATUS_SEQ + 1) % 2 ^ 32)
    let s2 := (s1.setFld PH_STOP_STATUS_STATE 2).setReg PH_STOP_START (BitVec.ofNat 64 s.now)
    s2.modHealth (fun h => { h with stopAt := s.free })

/-! ### The health monitor (R409, R410) -/

/-- A score (R409): min(255, ⌊255 × measure ÷ limit⌋), the measure a fraction. -/
def score (num den limit : Nat) : Nat := min 255 (255 * num / (den * limit))

/-- The largest of some numbers. -/
def largest (l : List Nat) : Nat := l.foldl max 0

/-- Ticks of an hour. -/
def hourTicks : Nat := 3600 * 1000000 * ticksPerUs

/-- Corrections so far, by stack. -/
def State.correctedNow (s : State) : List Nat := (List.range 8).map (fun st => (s.reg (MEM_STACK_CNT st 0)).toNat)

/-- The totals an hour ago: the latest evaluation at least an hour old, zeros where there is none. -/
def State.correctedThen (s : State) : List Nat :=
  (((s.health.corrected.filter (fun x => decide (x.1 + hourTicks ≤ s.free))).getLast?).map (·.2)).getD (List.replicate 8 0)

/-- Evaluations still needed: the last hour's, and the latest before it. -/
def State.keptCounts (s : State) : List (Nat × List Nat) :=
  (s.health.corrected.filter (fun x => decide (x.1 + hourTicks ≤ s.free))).getLast?.toList ++
  s.health.corrected.filter (fun x => decide (s.free < x.1 + hourTicks))

/-- RISK is judged against STOP_RISK (R410). -/
def State.judgeRisk (s : State) (risk : Nat) : State :=
  let limit := s.fld PH_HEALTH_CTRL_STOP_RISK
  if limit ≤ risk then
    if s.health.crossed then s
    else
      let s1 := (s.modHealth (fun h => { h with crossed := true })).fault 0x301 0x38 risk
      if s1.flag PH_HEALTH_CTRL_AUTO_STOP ∧ s1.fld PH_STOP_STATUS_STATE < 2 then s1.startStop else s1
  else if risk + s.fld PH_HEALTH_CTRL_HYST < limit then s.modHealth (fun h => { h with crossed := false })
  else s

/-- HEALTH_EVAL (R409): slowdowns of the islands in ppm, the largest loss of EYE_H in %, and each power stage's thermal cycles and
seconds above its rated current (R457). -/
def execHealthEval (ages : List Nat) (eyeLoss : Nat) (wear : List (Nat × Nat)) (s : State) : Host.Outcome State Fault Refusal :=
  let s1 := ages.zipIdx.foldl (fun s a => if a.2 < 56 then s.setFld (PH_ISLAND_AGE_DELTA a.2) a.1 else s) s
  let stages := (wear.take 12).zipIdx
  let s2 := (stages.foldl (fun s w => (s.setFld (PH_STAGE_CYCLES w.2) w.1.1).setFld (PH_STAGE_OVER_S w.2) w.1.2) s1).modHost
    (fun h => { h with flash := { h.flash with wear := stages.map (fun w => (w.2, w.1.1, w.1.2)) } })
  let rate := largest ((s2.correctedNow.zip s2.correctedThen).map (fun p => p.1 - p.2))
  let ro := score (largest (ages.take 56)) 1 (100 * s2.fld PH_HEALTH_CTRL_RO_LIMIT)
  let eye := score eyeLoss 1 (s2.fld PH_HEALTH_CTRL_EYE_LOSS)
  let ce := score rate 1 (1024 * s2.fld PH_HEALTH_CTRL_CE_LIMIT)
  let pwr := score (largest ((wear.take 12).map (fun w => 72 * w.1 + w.2))) 3600000 1
  let risk := max (max ro eye) (max ce pwr)
  let s3 := ((((s2.setFld PH_HEALTH_S_RO ro).setFld PH_HEALTH_S_SERDES eye).setFld PH_HEALTH_S_CE ce).setFld PH_HEALTH_S_PWR pwr).setFld PH_HEALTH_RISK risk
  let s4 := s3.modHealth (fun h => { h with corrected := s3.keptCounts ++ [(s3.free, s3.correctedNow)] })
  .next (s4.judgeRisk risk)

/-- RISK_HISTORY_APPEND (R410). -/
def execRiskHistoryAppend (s : State) : Host.Outcome State Fault Refusal :=
  let h := s.host.flash.history ++ [s.fld PH_HEALTH_RISK]
  let h1 := h.drop (h.length - 30)
  .next ((s.modHost (fun u => { u with flash := { u.flash with history := h1 } })).setFld PH_HEALTH_EOL_DAYS (eolDays h1))

end Sys2Proof.Machine
end

