-- ==== Sys2Proof/Machine/Stopover.lean ====
section
/-! DEFINITION. Stopover, the partner's side of it, and restore (R411 to R421). -/

namespace Sys2Proof.Machine

open Sys2Proof

/-! ### The snapshot (R413, R414) -/

/-- First room of a bank: own banks 0 and 1, guest banks 2 and 3 (R414). -/
def bankRoom (b : Nat) : Nat := 16384 + 2048 * b

/-- Pool address of a segment of a bank. -/
def segmentAt (b seg : Nat) : Nat := bankRoom b * 65536 + 4096 * seg

/-- Number of segments of a snapshot (R415). -/
def segments (len : Nat) : Nat := ceilDiv len 4096

/-- A stopover is in progress. -/
def State.stopping (s : State) : Bool := decide (2 ≤ s.fld PH_STOP_STATUS_STATE)

/-- The own bank that a stopover writes (R414): the one without the last confirmed snapshot. -/
def State.writeBank (s : State) : Nat := if s.flag PH_STOP_STATUS_CONFIRMED then 1 - s.fld PH_STOP_STATUS_BANK else 0

/-- The own bank that READ_SNAPSHOT reads: the confirmed snapshot's, or the one written when none is confirmed. -/
def State.readBank (s : State) : Nat := if s.flag PH_STOP_STATUS_CONFIRMED then s.fld PH_STOP_STATUS_BANK else 0

/-- Lengths of the sections (R413). -/
def State.sectionLens (s : State) : List Nat :=
  [4096, 8388608, 8388608, 524288, 65536, 393216, 8704 * s.tally.claimed, 98304]

/-- The header (R413; log entry 91): MAGIC, FORMAT, SEQ, DV_IDENT, DV_COORD, DV_ITIN_ACTIVE_ID, bell time of event 3, and the section table
from byte 64 on: offset and length of each section, 8 bytes each. -/
def State.snapHeader (s : State) : List Byte :=
  let lens := s.sectionLens
  let table := (List.range 8).flatMap (fun i => natLE 8 ((lens.take i).sum) ++ natLE 8 (lens.getD i 0))
  padTo 4096 (padTo 64 (natLE 4 0x50534E53 ++ natLE 2 1 ++ natLE 2 0 ++ natLE 4 (s.fld PH_STOP_STATUS_SEQ) ++ natLE 8 (s.reg DV_IDENT).toNat ++
    natLE 4 (s.coord) ++ natLE 8 (s.reg DV_ITIN_ACTIVE_ID).toNat ++ natLE 8 s.health.latchedAt) ++ table)

/-- The stay table as the copy holds it (R200). -/
def State.stayBytes (s : State) : List Byte :=
  (List.range 262144).flatMap (fun i => (stayWords (s.stay i)).flatMap (fun w => natLE 8 w.toNat))

/-- The stream ordering table (R106). -/
def State.streamBytes (s : State) : List Byte := (List.range 65536).flatMap (fun n => natLE 8 (s.reg (SW_STREAM n)).toNat)

/-- A list with its length in front. -/
def counted (l : List Nat) : List Nat := l.length :: l

/-- A list of pairs, flat. -/
def pairList (l : List (Nat × Nat)) : List Nat := counted (l.flatMap (fun x => [x.1, x.2]))

/-- Owner states and cumulative link credits (R412 event 3, R413 section 4). -/
def State.linkContent (s : State) : List Nat :=
  pairList ((s.regs.filter (fun e => decide (SW_OWNER 0 ≤ e.1 ∧ e.1 < SW_OWNER 4096))).map (fun e => (e.1, e.2.toNat))) ++
  pairList s.sw.txCum ++ pairList s.sw.rxCum ++ pairList s.sw.detourCum ++ pairList s.sw.detourOut

/-- What section 5 holds of a tally context (R413). -/
def TCtx.content (c : TCtx) : List Nat :=
  [c.idx, c.party, c.id, c.op, c.coll, c.inFmt, c.outFmt, c.exact.toNat, c.normalise.toNat, c.timed.toNat, c.window, (c.floor + 2 ^ 32).toNat,
   c.headDim, c.rounds, c.chunks, c.parent, c.parentSlot, c.root.toNat, c.startTick, c.stepTicks, c.cap, c.members, c.rootMember, c.rankBase,
   c.round, c.oldest + c.window, c.oldest] ++ counted c.store

/-- What section 7 holds of a core (R413). -/
def State.coreContent (s : State) (c : Nat) : List Nat :=
  let k := s.core c
  [k.entry, k.rep, k.pass, k.lnum] ++ counted k.xs ++ counted k.chits ++ counted (k.queues.map (·.length)) ++
  (List.range 5).map (fun u => (s.health.busyUnits.contains (c, u + 1)).toNat) ++ counted (k.slots.map (·.phase))

/-- A section whose layout is not given, of a length. -/
def openSection (n : Nat) (content : List Nat) (len : Nat) : List Byte := (List.range len).map (Config.sectionByte n content)

/-- The tally frames in use with their flag stores, in frame order (R153, R413 section 6). -/
def State.framesInUse (s : State) : List (Nat × List Byte) :=
  s.tally.ctxs.foldl (fun l c => c.store.zipIdx.foldl (fun l x => sparseInsert x.1 ((c.frameBytes x.2).1 ++ (c.frameBytes x.2).2) l) l) []

/-- The snapshot's bytes (R413). -/
def State.snapshot (s : State) : List Byte :=
  let len := fun i => s.sectionLens.getD i 0
  s.snapHeader ++ s.stayBytes ++ s.peek (cardAt 0) 8388608 ++ s.streamBytes ++ openSection 4 s.health.latched (len 4) ++
  openSection 5 (s.tally.ctxs.flatMap (·.content)) (len 5) ++ padTo (len 6) (s.framesInUse.flatMap (·.2)) ++
  openSection 7 ((List.range 24).flatMap s.coreContent) (len 7)

/-! ### Frames between stopover agents (R415) -/

/-- A frame of a stopover agent to another's. -/
def State.toStop (s : State) (coord kind seg seq : Nat) (payload : List Byte) : State :=
  s.agentSend 2 { blankFrame with kind := kind, vc := 0, destKind := 3, dstCoord := coord, dstPort := 0xF2, address := seg + seq * 2 ^ 15,
                                  payload := payload }

/-- A module's stopover agent cannot be reached at this module's own routing (R79, R88). -/
def State.unreachable (s : State) (coord : Nat) : Bool :=
  match (s.agentFate { blankFrame with kind := 0x1D, vc := 0, destKind := 3, dstCoord := coord, dstPort := 0xF2, srcCoord := s.coord, srcPort := 0xF2 }).1 with
  | .go _ => false
  | _ => true

/-- Segment number of a frame. -/
def frameSeg (f : Frame) : Nat := bitsOf f.address 14 0

/-- SEQ of a frame. -/
def frameSeq (f : Frame) : Nat := bitsOf f.address 46 15

/-- SNAP_ACK with a status and perhaps a digest. -/
def State.snapAck (s : State) (f : Frame) (status : Nat) (digest : List Byte) : State :=
  s.agentSend 2 (replyTo f 0x1F (if digest.isEmpty then [BitVec.ofNat 8 status] else padTo 8 [BitVec.ofNat 8 status] ++ digest))

/-- Segments of a length gathered in order, cut to it; none while one is missing. -/
def gather (segs : List (Nat × List Byte)) (len : Nat) : Option (List Byte) :=
  ((List.range (segments len)).mapM (fun i => (segs.find? (fun x => x.1 == i)).map (·.2))).map (fun l => l.flatten.take len)

/-! ### The start and the end (R411, R412, R417 to R419) -/

/-- A stopover ends (R412 event 6, R417). -/
def State.stopEnds (s : State) (result : Nat) : State :=
  let bank := s.writeBank
  let s1 := ((s.stopResult result).setPhase 5).resumeCredits.heldChecks.setReg PH_STOP_END (BitVec.ofNat 64 s.now)
  if result ≠ 0 then s1.fault 0x302 0x39 result
  else
    let s2 := (s1.raise PH_STOP_STATUS_CONFIRMED).setFld PH_STOP_STATUS_BANK bank
    let s3 := (List.range 8).foldl (fun s w => s.setReg (PH_STOP_DIGEST w) (BitVec.ofNat 64 (leAt s.health.snapDigest (8 * w) 8))) s2
    s3.modHost (fun h => { h with writing := h.writing ++
      [.stopRecord (s3.fld PH_STOP_STATUS_SEQ) s3.health.snapDigest (bank == 1) (s3.fld PH_STOP_CFG_PARTNER)] })

/-- STOPOVER_GO (R411, R419). -/
def execStopoverGo (s : State) : Host.Outcome State Fault Refusal := .next (if s.stopping then s.stopRefused else s.startStop)

/-- STOP_TICK_ARM (R411): a tick less than 8,000 ticks ahead is refused (R55). -/
def execStopTickArm (tick : Nat) (s : State) : Host.Outcome State Fault Refusal :=
  if !s.tickAhead tick then .next (s.raise PH_ERR_STOP_REFUSED)
  else
    let s1 := (s.setReg PH_STOP_TICK (BitVec.ofNat 64 tick)).modHealth (fun h => { h with stopArmed := true })
    .next (if s1.fld PH_STOP_STATUS_STATE = 0 then s1.setFld PH_STOP_STATUS_STATE 1 else s1)

/-- STOPOVER_CANCEL (R419). -/
def execStopoverCancel (s : State) : Host.Outcome State Fault Refusal :=
  if !s.health.stopArmed then .next s
  else if !s.tickAhead (s.reg PH_STOP_TICK).toNat then .next (s.raise PH_ERR_STOP_REFUSED)
  else
    let s1 := s.modHealth (fun h => { h with stopArmed := false })
    .next (if s1.fld PH_STOP_STATUS_STATE = 1 then s1.setFld PH_STOP_STATUS_STATE 0 else s1)

/-- STOP_TICK_REACHED (R411, R419). -/
def execStopTickReached (s : State) : Host.Outcome State Fault Refusal :=
  if !s.health.stopArmed ∨ !s.bellSet ∨ s.now < (s.reg PH_STOP_TICK).toNat then .next s
  else
    let s1 := s.modHealth (fun h => { h with stopArmed := false })
    if s1.stopping then .next s1.stopRefused
    else .next ((if s1.fld PH_STOP_STATUS_STATE = 1 then s1.setFld PH_STOP_STATUS_STATE 0 else s1).startStop)

/-- QUIESCE_DONE (R412 events 2 and 3): the units that are still busy are marked, and owner states and link credits are latched. -/
def execQuiesceDone (s : State) (busy : List (Nat × Nat) := []) : Host.Outcome State Fault Refusal :=
  if s.fld PH_STOP_STATUS_STATE = 2 then .next ((s.setFld PH_STOP_STATUS_STATE 3).modHealth (fun h => { h with
    latched := s.linkContent, latchedAt := s.now, busyUnits := busy }))
  else .next s

/-- A snapshot sent to the partner, segment by segment, and SNAP_DONE (R412, R415). The last segment is filled up with zeros. -/
def State.sendSnapshot (s : State) (partner seq : Nat) (bytes : List Byte) : State :=
  let s1 := (List.range (segments bytes.length)).foldl (fun s i =>
    s.toStop partner 0x1A i seq (padTo 4096 ((bytes.drop (4096 * i)).take 4096))) s
  s1.toStop partner 0x1B 0 seq (natLE 8 bytes.length)

/-- CAPTURE_DONE (R412 event 4, R416, R417 results 0x02 and 0x04). -/
def execCaptureDone (s : State) : Host.Outcome State Fault Refusal :=
  if s.fld PH_STOP_STATUS_STATE ≠ 3 then .next s
  else
    let bytes := s.snapshot
    let s2 := (s.poolWrite (segmentAt s.writeBank 0) bytes).modHealth (fun h => { h with snapDigest := shake 64 bytes })
    if s2.flag PH_STOP_CFG_PARTNER_VALID then
      if s2.unreachable (s2.fld PH_STOP_CFG_PARTNER) then .next ((s2.stopEnds 2).retryAgents) else
      .next ((s2.setFld PH_STOP_STATUS_STATE 4).sendSnapshot (s2.fld PH_STOP_CFG_PARTNER) (s2.fld PH_STOP_STATUS_SEQ) bytes)
    else .next ((s2.stopEnds 4).retryAgents)

/-- STOPOVER_TIMEOUT (R418): 1.5 ms after the trigger. -/
def execStopoverTimeout (s : State) : Host.Outcome State Fault Refusal :=
  if s.stopping && decide (s.health.stopAt + 1500 * ticksPerUs ≤ s.free) then .next ((s.stopEnds 3).retryAgents) else .next s

/-! ### The partner's side (R414, R415) -/

/-- A frame comes from the module's guest. -/
def State.fromGuest (s : State) (f : Frame) : Bool := s.flag PH_STOP_CFG_GUEST_VALID && f.srcCoord == s.fld PH_STOP_CFG_GUEST

/-- The guest bank that the next copy is written to. -/
def State.guestBank (s : State) : Nat := match s.health.guest with
  | some (b, _) => 1 - b
  | none => 0

/-- A guest transfer runs (R419): it began with a segment and has not been confirmed or refused. -/
def State.guestBusy (s : State) : Bool := !s.health.guestSegs.isEmpty || s.health.guestDigest.isSome

/-- SNAP_PUT (R414, R415). -/
def execSnapPut (f : Frame) (s : State) : Host.Outcome State Fault Refusal :=
  s.serveAny f (fun s =>
    if !s.fromGuest f then s.snapAck f 1 []
    else if f.payload.length ≠ 4096 ∨ frameSeg f = 0x7FFF then s.snapAck f 3 []
    else
      let fresh := s.health.guestSeq != frameSeq f || s.health.guestDigest.isSome
      let segs := if fresh then [] else s.health.guestSegs.filter (fun x => x.1 != frameSeg f)
      let s1 := s.modHealth (fun h => { h with
        guestSeq := frameSeq f, guestSegs := segs ++ [(frameSeg f, f.payload)], guestDigest := none })
      (s1.poolWrite (segmentAt (2 + s1.guestBank) (frameSeg f)) f.payload).snapAck f 0 [])

/-- SNAP_DONE (R415, R416). -/
def execSnapDone (f : Frame) (s : State) : Host.Outcome State Fault Refusal :=
  s.serveAny f (fun s =>
    if !s.fromGuest f then s.snapAck f 1 []
    else if f.payload.length ≠ 8 ∨ s.health.guestSeq ≠ frameSeq f then s.snapAck f 3 []
    else match gather s.health.guestSegs (leNat f.payload) with
      | none => s.snapAck f 3 []
      | some bytes =>
        let d := shake 64 bytes
        (s.modHealth (fun h => { h with guestDigest := some (bytes.length, d) })).snapAck f 0 d)

/-- Bell time of capture in a snapshot's header (log entry 91). -/
def captureTime (bytes : List Byte) : Nat := leAt bytes 32 8

/-- SNAP_CONFIRM (R415). -/
def execSnapConfirm (f : Frame) (s : State) : Host.Outcome State Fault Refusal :=
  s.serveAny f (fun s =>
    if !s.fromGuest f then s.snapAck f 1 []
    else match s.health.guestDigest with
      | none => s.snapAck f 3 []
      | some (len, d) =>
        if f.payload.length ≠ 64 ∨ s.health.guestSeq ≠ frameSeq f then s.snapAck f 3 []
        else
          let at_ := captureTime (((s.health.guestSegs.find? (fun x => x.1 == 0)).map (·.2)).getD [])
          let done := s.modHealth (fun h => { h with guestSegs := [], guestDigest := none })
          if f.payload = d then
            ((done.modHealth (fun h => { h with guest := some (s.guestBank, frameSeq f, len, d, at_) })).raise PH_STOP_STATUS_GUEST_HELD).snapAck f 0 []
          else done.snapAck f 2 [])

/-- SNAP_DATA in answer to a request. -/
def State.snapData (s : State) (f : Frame) (p : List Byte) : State := s.agentSend 2 (replyTo f 0x1E p)

/-- SNAP_GET (R415): the last confirmed copy's record or one of its segments. -/
def execSnapGet (f : Frame) (s : State) : Host.Outcome State Fault Refusal :=
  s.serveAny f (fun s =>
    if !s.fromGuest f then s.snapAck f 1 []
    else if !f.payload.isEmpty then s.snapAck f 3 []
    else match s.health.guest with
      | none => s.snapAck f 2 []
      | some (bank, seq, len, d, at_) =>
        if frameSeg f = 0x7FFF then s.snapData f (natLE 4 seq ++ natLE 8 len ++ d ++ natLE 8 at_)
        else if segments len ≤ frameSeg f then s.snapAck f 3 []
        else match s.poolRead (segmentAt (2 + bank) (frameSeg f)) 4096 with
          | (none, s1) => s1.snapAck f 2 []
          | (some b, s1) => s1.snapData f b)

/-! ### Restore (R420, R421) -/

/-- A restore ends with a result (R420). -/
def State.restoreEnds (s : State) (result : Nat) : State :=
  let s1 := ((s.setFld PH_RESTORE_STATUS_BUSY 0).setFld PH_RESTORE_STATUS_RESULT result).modHealth (fun h => { h with
    record := none, segs := [], restored := false, restoring := [] })
  if result = 0 then s1 else s1.fault 0x302 0x3A result

/-- RESTORE_GO (R420). -/
def execRestoreGo (value : Nat) (s : State) : Host.Outcome State Fault Refusal :=
  let go := value.testBit 63
  if !go then .next (s.writePlain PH_RESTORE_CTRL value)
  else if s.flag PH_RESTORE_STATUS_BUSY then .next (s.raise PH_ERR_RESTORE_BUSY)
  else
    let s1 := s.writePlain PH_RESTORE_CTRL value
    if s1.phase ≠ 5 ∨ s1.flag ST_CTRL_ENABLE ∨ s1.fld ST_USE_STAYS_USED ≠ 0 ∨ s1.stackLost 0 then .next (s1.restoreEnds 3)
    else
      let s2 := ((s1.raise PH_RESTORE_STATUS_BUSY).setFld PH_RESTORE_STATUS_STAYS 0).modHealth (fun h => { h with
        record := none, segs := [], restored := false, restoring := [] })
      .next (if s2.unreachable (s2.fld PH_RESTORE_CTRL_FROM) then s2.restoreEnds 2 else s2.toStop (s2.fld PH_RESTORE_CTRL_FROM) 0x1D 0x7FFF 0 [])

/-- A stay entry read from its 32 bytes (R200, R421): what the copy keeps of it at the original module. Its chart, rooms, bookings and ATTENDs are
gone. -/
def stayOf (b : List Byte) : Stay :=
  let (w0, w1, w2, w3) := (leAt b 0 8, leAt b 8 8, leAt b 16 8, leAt b 24 8)
  let state := bitsOf w0 63 60
  { freeStay with
    state := state, party := bitsOf w0 59 48, gen := bitsOf w0 47 34, loc := if state = 4 then bitsOf w0 28 0 else 0, tokens := bitsOf w1 63 40,
    twinCoord := bitsOf w2 39 29, twinValid := w2.testBit 28, twinIndex := bitsOf w2 27 10, lastUse := bitsOf w3 63 48,
    ownerRank := bitsOf w3 47 31, priority := bitsOf w3 24 23 }

/-- A stay of the copy reinstated (R421). -/
def State.reinstate (s : State) (i : Nat) (e : Stay) : State :=
  if [3, 4, 9].contains e.state then s.setStay i e
  else if [1, 2, 5].contains e.state then
    (if !e.twinValid then s.setStay i { e with state := 9 }
     else
       let s1 := s.setStay i { e with state := 5 }
       let (c, s1) := s1.readCard i
       let n := (c.getD (cardOf [])).pages e.tokens
       match (if c.isSome then s1.book i n else none) with
       | none => s1.setStay i { e with state := 9 }
       | some s2 =>
         if n = 0 then s2.modStay i (fun x => { x with state := 1 })
         else
           let s3 := s2.modStays (fun u => { u with moves := u.moves ++ [⟨i, .nobody, 5, false, false, e.twinCoord, e.twinIndex, 2, 0, 0, 0, n⟩] })
           (s3.modHealth (fun h => { h with restoring := h.restoring ++ [i] })).recallPage i 0)
  else if e.state = 0 then s.setStay i { freeStay with gen := e.gen }
  else s.setStay i { freeStay with gen := (e.gen + 1) % 16384 }

/-- A stream of the copy reinstated (R421): VALID, PARTY and SRC_RANK. -/
def streamOf (w : Nat) : Word := placed 1 63 63 ||| placed (bitsOf w 60 49) 60 49 ||| placed (bitsOf w 48 32) 48 32

/-- The copy is accepted (R421): cards, stays and streams. -/
def State.acceptCopy (s : State) (b : List Byte) : State :=
  let s1 := s.countFree.porterWrite (cardAt 0) ((b.drop (4096 + 8388608)).take 8388608)
  let s2 := (List.range 262144).foldl (fun s i =>
    let e := stayOf ((b.drop (4096 + 32 * i)).take 32)
    let s' := s.reinstate i e
    if (s'.stay i).state = 0 then s' else s'.setFld PH_RESTORE_STATUS_STAYS (s'.fld PH_RESTORE_STATUS_STAYS + 1)) s1
  let s3 := (List.range 65536).foldl (fun s n =>
    let w := leAt b (4096 + 16777216 + 8 * n) 8
    if w.testBit 63 then s.setReg (SW_STREAM n) (streamOf w) else s) s2
  s3.modHealth (fun h => { h with restored := true, segs := [] })

/-- Every segment is in (R420 step 3): the digest, the coordinate, then the stays. -/
def State.judgeCopy (s : State) (seq : Nat) (digest : List Byte) (bytes : List Byte) : State :=
  let own := match s.host.flash.stop with
    | some (q, d, _) => q != seq || d == digest
    | none => true
  if shake 64 bytes ≠ digest ∨ !own then s.restoreEnds 1
  else if leAt bytes 20 4 ≠ s.coord then s.restoreEnds 5
  else s.acceptCopy bytes

/-- The copy's record arrives (R420 step 1): a SEQ below that of flash refuses it. -/
def State.takeRecord (s : State) (p : List Byte) : State :=
  let (seq, len, digest) := (leAt p 0 4, leAt p 4 8, (p.drop 12).take 64)
  let behind := match s.host.flash.stop with
    | some (q, _) => decide (seq < q)
    | none => false
  if behind then s.restoreEnds 4
  else if s.unreachable (s.fld PH_RESTORE_CTRL_FROM) then s.restoreEnds 2
  else
    let s1 := s.modHealth (fun h => { h with record := some (seq, len, digest, leAt p 76 8) })
    (List.range (segments len)).foldl (fun s i => s.toStop (s.fld PH_RESTORE_CTRL_FROM) 0x1D i seq []) s1

/-- READ_SNAPSHOT waits for a segment of the partner's copy (R437). -/
def State.awaitsSegment (s : State) (f : Frame) : Bool := match s.host.background with
  | some b => b.opcode == 0xC031 && !b.ready && f.srcCoord == s.fld PH_STOP_CFG_PARTNER
  | none => false

/-- A background command's answer is ready. -/
def State.answerReady (s : State) (code : Nat) (payload : List Byte) : State :=
  s.modHost (fun h => { h with background := h.background.map (fun b => { b with code := code, payload := payload, ready := true }) })

/-- SNAP_DATA (R420, R437). -/
def execSnapData (f : Frame) (s : State) : Host.Outcome State Fault Refusal :=
  s.serveAny f (fun s =>
    if s.awaitsSegment f then (if f.payload.length = 4096 then s.answerReady 0 f.payload else s.answerReady 4 [])
    else if !s.flag PH_RESTORE_STATUS_BUSY ∨ s.health.restored ∨ f.srcCoord ≠ s.fld PH_RESTORE_CTRL_FROM then s
    else match s.health.record with
      | none => if frameSeg f = 0x7FFF ∧ f.payload.length = 84 then s.takeRecord f.payload else s
      | some (seq, len, digest, _) =>
        if frameSeq f ≠ seq ∨ segments len ≤ frameSeg f ∨ f.payload.length ≠ 4096 then s
        else
          let s1 := s.modHealth (fun h => { h with segs := h.segs.filter (fun x => x.1 != frameSeg f) ++ [(frameSeg f, f.payload)] })
          match (if s1.health.segs.length < segments len then none else gather s1.health.segs len) with
          | none => s1
          | some bytes => s1.judgeCopy seq digest bytes)

/-- The partner refuses, or cannot be reached (R417, R420). -/
def State.partnerFails (s : State) (f : Frame) : State :=
  if s.awaitsSegment f then s.answerReady 4 []
  else if s.flag PH_RESTORE_STATUS_BUSY ∧ !s.health.restored then s.restoreEnds 2
  else if s.fld PH_STOP_STATUS_STATE = 4 then s.stopEnds 2
  else s

/-- SNAP_ACK (R412 events 5 and 6, R417). -/
def execSnapAck (f : Frame) (s : State) : Host.Outcome State Fault Refusal :=
  s.serveAny f (fun s =>
    if s.awaitsSegment f then s.answerReady 4 []
    else if s.flag PH_RESTORE_STATUS_BUSY && !s.health.restored && f.srcCoord == s.fld PH_RESTORE_CTRL_FROM && byteAt f.payload 0 != 0 then s.restoreEnds 2
    else if s.fld PH_STOP_STATUS_STATE ≠ 4 ∨ f.srcCoord ≠ s.fld PH_STOP_CFG_PARTNER ∨ frameSeq f ≠ s.fld PH_STOP_STATUS_SEQ then s
    else if byteAt f.payload 0 ≠ 0 then s.stopEnds 2
    else if f.payload.length < 72 then s
    else
      let s1 := s.toStop (s.fld PH_STOP_CFG_PARTNER) 0x1C 0 (s.fld PH_STOP_STATUS_SEQ) s.health.snapDigest
      s1.stopEnds (if (f.payload.drop 8).take 64 = s1.health.snapDigest then 0 else 1))

/-- RESTORE_DONE (R421): every recall has ended. -/
def execRestoreDone (s : State) : Host.Outcome State Fault Refusal :=
  if s.flag PH_RESTORE_STATUS_BUSY ∧ s.health.restored ∧ s.health.restoring = [] then .next (s.restoreEnds 0) else .next s

/-- ERROR (R79, R88, R417): the stopover agent takes its partner as unreachable; every other agent learns of a loss by its own rules
alone. -/
def execError (f : Frame) (s : State) : Host.Outcome State Fault Refusal :=
  s.serveAny f (fun s => if f.dstPort = 0xF2 then s.partnerFails f else s)

end Sys2Proof.Machine
end

