-- ==== Sys2Proof/Machine/Attach.lean ====
section
/-! DEFINITION. The CXL link, the window onto the pool, the doorbell queues' configuration (R425 to R435), and Function Level Reset
(R438). -/

namespace Sys2Proof.Machine

open Sys2Proof

/-! ### The link (R425, R428, R434) -/

/-- CXL_LINK_UP (R425, R428): a rate and width of R451; held park notices are written (R434). -/
def execCxlLinkUp (rate width : Nat) (s : State) : Host.Outcome State Fault Refusal :=
  if !s.power.switchClosed ∨ !decide (1 ≤ rate ∧ rate ≤ 4) ∨ !([1, 2, 4, 8].contains width) then .next s
  else .next ((s.setFld MB_LINK_STATUS_RATE rate).setFld MB_LINK_STATUS_WIDTH width).flushNotices

/-- CXL_LINK_DOWN (R434). -/
def execCxlLinkDown (s : State) : Host.Outcome State Fault Refusal :=
  .next ((s.setFld MB_LINK_STATUS_RATE 0).setFld MB_LINK_STATUS_WIDTH 0)

/-! ### The window (R429, R430) -/

/-- Pool address of a window offset; none where no enabled aperture holds it. -/
def State.windowAt (s : State) (w : Nat) : Option Nat :=
  let i := w / 2 ^ 32
  if i < 16 ∧ s.flag (MB_WINDOW_EN i) then some ((s.fld (MB_WINDOW_BASE i) + bitsOf w 31 16) * 65536 + w % 65536) else none

/-- The window serves (R430). -/
def State.windowOpen (s : State) : Bool := decide (3 ≤ s.phase) && s.phase != 7

/-- The pool address that a request goes to, none where it is unmapped (R430). -/
def State.target (s : State) (w : Nat) : Option Nat := if s.windowOpen then s.windowAt w else none

/-- A request that finds no aperture (R430). -/
def State.unmapped (s : State) : State := s.count MB_UNMAPPED

/-- Data given to the host. -/
def State.memData (s : State) (w : Nat) (data : List Byte) (poison : Bool) : State :=
  s.modOut (fun o => { o with memData := o.memData ++ [(w, data, poison)] })

/-- A request of the window is held while an island on its way is out of muster (R51, R394): the CXL controller, or the interface of the stack that it
goes to. -/
def State.windowHeld (s : State) (w : Nat) : Bool :=
  s.islandOut 55 || (s.target w).any (fun a => s.islandOut (47 + pairStack (a / 64)))

/-- MEMRD (R430): the bytes that go with poison are free values. -/
def execMemrd (offset : Nat) (s : State) : Host.Outcome State Fault Refusal :=
  if !s.linkUp || s.windowHeld offset then .next s
  else
    let w := offset / 64 * 64
    let bad := fun (s : State) =>
      let (b, s1) := s.takeFree 64
      s1.memData w b true
    match s.target w with
    | none => .next (bad s.unmapped)
    | some a => match s.poolRead a 64 with
      | (none, s1) => .next (bad (s1.count MB_POISON_RD))
      | (some b, s1) => .next (s1.memData w b false)

/-- A pair written as 64 zero bytes with POISON (R430). -/
def State.putPoison (s : State) (p : Nat) : State :=
  if s.stackLost (pairStack p) then s
  else s.modMem (fun m => { m with
    bytes := sparseWrite 0 m.bytes (64 * p) (zeroBytes 64), poison := sparseSet false m.poison p true, merge := m.merge.filter (fun e => e.pair != p) })

/-- MEMWR (R430). -/
def execMemwr (offset : Nat) (data : List Byte) (poison : Bool) (s : State) : Host.Outcome State Fault Refusal :=
  if !s.linkUp || s.windowHeld offset then .next s
  else match s.target (offset / 64 * 64) with
    | none => .next s.unmapped
    | some a =>
      let s1 := s.transferred (pairStack (a / 64))
      .next (if poison then s1.putPoison (a / 64) else s1.putPair (a / 64) (padTo 64 data))

/-- MEMWRPTL (R430): bytes within one pair enter the write-merge buffer. -/
def execMemwrptl (offset : Nat) (data : List Byte) (s : State) : Host.Outcome State Fault Refusal :=
  if !s.linkUp ∨ s.windowHeld offset ∨ data.isEmpty then .next s
  else match s.target offset with
    | none => .next s.unmapped
    | some a => .next (s.poolWrite a (data.take (64 - offset % 64)))

/-- WINDOW_WRITE (R429): an enabled aperture's rooms lie within the pool behind the reserved ones; none changes while the stays service is
enabled. -/
def execWindowWrite (i value : Nat) (s : State) : Host.Outcome State Fault Refusal :=
  if 16 ≤ i then .next s
  else
    let base := bitsOf value 23 0
    if s.flag ST_CTRL_ENABLE ∨ (value.testBit 63 ∧ (base < 32768 ∨ 16777216 < base + 65536)) then .next (s.raise MB_ERR_WINDOW_REFUSED)
    else .next (s.writePlain (MB_WINDOW i) value)

/-! ### Queues (R432 to R435) -/

/-- QUEUE_CONFIG_WRITE (R433). -/
def execQueueConfigWrite (q value : Nat) (s : State) : Host.Outcome State Fault Refusal :=
  if 2 ≤ q then .next s
  else
    let new := (s.written (MB_QCFG q) value).toNat
    if s.flag (MB_QCFG_ENABLE q) ∧ bitsOf new 3 0 ≠ s.fld (MB_QCFG_LOG2_ENTRIES q) then .next (s.raise MB_ERR_QUEUE_REFUSED)
    else
      let s1 := s.writePlain (MB_QCFG q) value
      if !value.testBit 63 then .next s1
      else
        let s2 := ((s1.setFld (MB_QTAIL_TAIL q) 0).setFld (MB_QHEAD_HEAD q) 0).modHost (fun h => { h with tags := modifyAt (fun _ => true) q h.tags })
        .next s2.flushNotices

/-- MSIX_HOLDOFF_EXPIRY (R435): one µs after the last message of a queue; entries written meanwhile are covered by the next. -/
def execMsixHoldoffExpiry (q : Nat) (s : State) : Host.Outcome State Fault Refusal :=
  match s.host.holdoff.getD q none with
  | none => .next s
  | some t =>
    if s.free < t + ticksPerUs then .next s
    else
      let owed := s.host.owedVector.getD q false
      let s1 := s.modHost (fun h => { h with
        holdoff := modifyAt (fun _ => if owed then some s.free else none) q h.holdoff, owedVector := modifyAt (fun _ => false) q h.owedVector })
      .next (if owed then s1.msix (1 + q) else s1)

/-- A write of a vector's data and mask (R435): the message that pends goes out as the vector is unmasked (log entry 116). -/
def State.writeVector (s : State) (v value : Nat) : State :=
  let s1 := s.writePlain (MSIX_CTL v) value
  if s1.flag (MSIX_CTL_MASK v) ∨ !s1.out.pba.contains v then s1 else (s1.modOut (fun o => { o with pba := o.pba.filter (· != v) })).msix v

/-! ### Function Level Reset (R438, R450) -/

/-- What a Function Level Reset does (R438): queue and window settings are cleared, a background command ends without report. -/
def State.flr (s : State) : State :=
  let s1 := (List.range 2).foldl (fun s q => s.setReg (MB_QCFG q) (regReset (MB_QCFG q))) s
  let s2 := (List.range 16).foldl (fun s i => s.setReg (MB_WINDOW i) (regReset (MB_WINDOW i))) s1
  (s2.modHost (fun h => { h with background := h.background.map (fun b => { b with report := false }), bgDone := none, flrOwed := false })).modOut
    (fun o => { o with mbCode := 0 })

/-- FUNCTION_LEVEL_RESET (R438): held while a flash write runs (R450). -/
def execFunctionLevelReset (s : State) : Host.Outcome State Fault Refusal :=
  if !s.linkUp then .next s
  else if s.host.writing.isEmpty then .next s.flr
  else .next (s.modHost (fun h => { h with flrOwed := true }))

end Sys2Proof.Machine
end

