-- ==== Sys2Proof/Machine/Mailbox.lean ====
section
/-! DEFINITION. The mailbox: CXL commands and the Llynyth commands (R436, R437, R446, R448 to R450). Return codes and the layouts of CXL's own
commands are those of CXL 3.1 (log entry 92). -/

namespace Sys2Proof.Machine

open Sys2Proof

/-! ### Answers (R435, R436) -/

/-- Return codes. -/
def rcSuccess : Nat := 0

/-- See `rcSuccess`. -/
def rcBackground : Nat := 1

/-- See `rcSuccess`. -/
def rcInvalid : Nat := 2

/-- See `rcSuccess`. -/
def rcUnsupported : Nat := 3

/-- See `rcSuccess`. -/
def rcInternal : Nat := 4

/-- See `rcSuccess`. -/
def rcBusy : Nat := 6

/-- A mailbox completion (R435): vector 0. -/
def State.reply (s : State) (opcode code : Nat) (payload : List Byte) : State :=
  (s.modOut (fun o => { o with mailbox := o.mailbox ++ [(opcode, code, payload)], mbCode := code })).msix 0

/-- A command reaches the mailbox over the link; while a background command runs it gets Busy (R436). -/
def State.command (s : State) (opcode : Nat) (act : State → State) : Host.Outcome State Fault Refusal :=
  if !s.linkUp then .next s
  else if s.host.background.isSome then .next (s.reply opcode rcBusy [])
  else .next (act s)

/-- The end of a background command, which its status register and vector 0 report (R436). -/
def State.replyDone (s : State) (opcode code : Nat) (payload : List Byte) : State :=
  ((s.modOut (fun o => { o with mailbox := o.mailbox ++ [(opcode, code, payload)] })).modHost (fun h => { h with bgDone := some (opcode, code) })).msix 0

/-- A background command starts (R436). -/
def State.background (s : State) (opcode : Nat) (arg : List Byte) (code : Nat) (payload : List Byte) (ready : Bool) : State :=
  (s.reply opcode rcBackground []).modHost (fun h => { h with
    background := some { opcode := opcode, arg := arg, code := code, payload := payload, ready := ready, report := true } })

/-- An update runs (R437): a component is being written to flash. -/
def State.updating (s : State) : Bool := s.host.writing.any (fun w => match w with
  | .component _ _ _ => true
  | _ => false)

/-! ### CXL-defined commands (R436) -/

/-- GET_EVENT_RECORDS (R436): no entries. -/
def execGetEventRecords (payload : List Byte) (s : State) : Host.Outcome State Fault Refusal :=
  s.command 0x0100 (fun s => if payload.length ≠ 1 then s.reply 0x0100 rcInvalid [] else s.reply 0x0100 rcSuccess (zeroBytes 32))

/-- CLEAR_EVENT_RECORDS (R436): there are none to clear. -/
def execClearEventRecords (payload : List Byte) (s : State) : Host.Outcome State Fault Refusal :=
  s.command 0x0101 (fun s => if payload.length ≠ 6 + 2 * byteAt payload 2 then s.reply 0x0101 rcInvalid [] else s.reply 0x0101 rcSuccess [])

/-- Opcodes that the Command Effects Log lists (R436, R437). -/
def opcodes : List Nat :=
  [0x0100, 0x0101, 0x0400, 0x0401, 0x4000, 0x4300, 0xC000, 0xC010, 0xC011, 0xC012, 0xC013, 0xC020, 0xC030, 0xC031, 0xC040, 0xC041, 0xC042]

/-- Identifier of the Command Effects Log (CXL 3.1). -/
def celId : List Byte := [0x0D, 0xA9, 0xC0, 0xB5, 0xBF, 0x41, 0x4B, 0x78, 0x8F, 0x79, 0x96, 0xB1, 0x62, 0x3B, 0x3F, 0x17]

/-- The Command Effects Log: an opcode and its effects, which the spec does not give. -/
def effectsLog : List Byte := opcodes.flatMap (fun o => natLE 2 o ++ [Config.partByte 5 o 0, Config.partByte 5 o 1])

/-- GET_SUPPORTED_LOGS (R436): the Command Effects Log only. -/
def execGetSupportedLogs (payload : List Byte) (s : State) : Host.Outcome State Fault Refusal :=
  s.command 0x0400 (fun s => if !payload.isEmpty then s.reply 0x0400 rcInvalid []
    else s.reply 0x0400 rcSuccess (natLE 2 1 ++ zeroBytes 6 ++ celId ++ natLE 4 effectsLog.length))

/-- GET_LOG (R436). -/
def execGetLog (payload : List Byte) (s : State) : Host.Outcome State Fault Refusal :=
  s.command 0x0401 (fun s =>
    if payload.length ≠ 24 ∨ payload.take 16 ≠ celId ∨ effectsLog.length < leAt payload 16 4 + leAt payload 20 4 then s.reply 0x0401 rcInvalid []
    else s.reply 0x0401 rcSuccess ((effectsLog.drop (leAt payload 16 4)).take (leAt payload 20 4)))

/-- IDENTIFY_MEMORY_DEVICE (R436): the spec gives none of its bytes. -/
def execIdentifyMemoryDevice (payload : List Byte) (s : State) : Host.Outcome State Fault Refusal :=
  s.command 0x4000 (fun s => if !payload.isEmpty then s.reply 0x4000 rcInvalid [] else s.reply 0x4000 rcSuccess ((List.range 69).map (Config.partByte 6 0)))

/-- Window offset of a pool address, through the lowest-numbered enabled aperture that holds it. -/
def State.windowOf (s : State) (a : Nat) : Option Nat :=
  ((List.range 16).find? (fun i => s.flag (MB_WINDOW_EN i) && decide (s.fld (MB_WINDOW_BASE i) ≤ a / 65536) &&
    decide (a / 65536 < s.fld (MB_WINDOW_BASE i) + 65536))).map (fun i => i * 2 ^ 32 + (a - s.fld (MB_WINDOW_BASE i) * 65536))

/-- Window offsets of the UE entries in the watch's ring (R436), in ring order. -/
def State.poisonList (s : State) : List Nat :=
  (List.range 4096).filterMap (fun i =>
    let m := (s.reg (WATCH_RING_MSG i)).toNat
    if bitsOf m 53 48 = 0x22 then s.windowOf (bitsOf m 39 0) else none)

/-- GET_POISON_LIST (R436): the entries within the range asked for, as many as the payload of 16 KiB takes; bit 0 of byte 0 says that there are
more (log entry 92). -/
def execGetPoisonList (payload : List Byte) (s : State) : Host.Outcome State Fault Refusal :=
  s.command 0x4300 (fun s =>
    if payload.length ≠ 16 then s.reply 0x4300 rcInvalid []
    else
      let lo := leAt payload 0 8
      let hits := s.poisonList.filter (fun w => decide (lo ≤ w ∧ w < lo + 64 * leAt payload 8 8))
      let shown := hits.take 1022
      s.reply 0x4300 rcSuccess (natLE 10 (if shown.length < hits.length then 1 else 0) ++ natLE 2 shown.length ++ zeroBytes 20 ++
        shown.flatMap (fun w => natLE 8 (w / 64 * 64) ++ natLE 4 1 ++ zeroBytes 4)))

/-- MAILBOX_UNSUPPORTED (R436, R437): an opcode that is not implemented. -/
def execMailboxUnsupported (opcode : Nat) (s : State) : Host.Outcome State Fault Refusal :=
  if opcodes.contains opcode then .next s else s.command opcode (fun s => s.reply opcode rcUnsupported [])

/-! ### RESET and the logs (R437, R448) -/

/-- RESET (R437): the warm reset follows; a background command is abandoned but for a flash write, whose end is waited for (R450). -/
def execReset (payload : List Byte) (s : State) : Host.Outcome State Fault Refusal :=
  if !s.linkUp then .next s
  else if !payload.isEmpty then .next (s.reply 0xC000 rcInvalid [])
  else
    let s1 := (s.reply 0xC000 rcSuccess []).modHost (fun h => { h with background := none })
    let s2 := s1.modHealth (fun h => { h with stopMailbox := false })
    .next (s2.modPower (fun w => { w with resetDue := some (s.free + 1000 * ticksPerUs) }))

/-- An entry of the measurement log (R448). -/
def logBytes (e : LogEntry) : List Byte :=
  padTo 96 (natLE 1 e.block ++ zeroBytes 7 ++ natLE 8 e.tick ++ padTo 64 e.digest ++ natLE 8 e.imageId)

/-- GET_LOG_ENTRIES (R437, R448): it runs while a background command runs; a payload holds at most 170 entries. -/
def execGetLogEntries (payload : List Byte) (s : State) : Host.Outcome State Fault Refusal :=
  if !s.linkUp then .next s
  else if payload.length ≠ 6 ∨ 170 < leAt payload 4 2 then .next (s.reply 0xC020 rcInvalid [])
  else .next (s.reply 0xC020 rcSuccess (((s.host.log.drop (leAt payload 0 4)).take (leAt payload 4 2)).flatMap logBytes))

/-! ### Staging (R437, R449) -/

/-- Bytes of the window, aperture by aperture; none where one is not enabled or a pair is poisoned. The fuel is the rooms touched. -/
def State.windowRead : Nat → State → Nat → Nat → Option (List Byte) × State
  | 0, s, _, n => (if n = 0 then some [] else none, s)
  | k + 1, s, w, n =>
    if n = 0 then (some [], s)
    else
      let m := min n (65536 - w % 65536)
      match s.windowAt w with
      | none => (none, s)
      | some a => match s.poolRead a m with
        | (none, s1) => (none, s1)
        | (some b, s1) => match State.windowRead k s1 (w + m) (n - m) with
          | (none, s2) => (none, s2)
          | (some bs, s2) => (some (b ++ bs), s2)

/-- The source of a staging command lies in enabled apertures and is no longer than 64 MiB (R437). -/
def State.sourceOk (s : State) (payload : List Byte) : Bool :=
  let (w, n) := (leAt payload 0 8, leAt payload 8 4)
  payload.length == 12 && decide (1 ≤ n ∧ n ≤ 2 ^ 26) && (List.range ((w + n - 1) / 65536 + 1 - w / 65536)).all (fun i => (s.windowAt ((w / 65536 + i) * 65536)).isSome)

/-- STAGE_ITINERARY (R437). -/
def execStageItinerary (payload : List Byte) (s : State) : Host.Outcome State Fault Refusal :=
  s.command 0xC010 (fun s =>
    if s.flag DV_ITIN_STATUS_BUSY ∨ s.flag DV_ITIN_STATUS_PENDING then s.reply 0xC010 rcBusy []
    else if !s.sourceOk payload then s.reply 0xC010 rcInvalid []
    else s.background 0xC010 payload rcSuccess [] true)

/-- STAGE_COMPONENT (R437, R449). -/
def execStageComponent (payload : List Byte) (s : State) : Host.Outcome State Fault Refusal :=
  s.command 0xC011 (fun s =>
    if s.updating then s.reply 0xC011 rcBusy []
    else if !s.sourceOk payload then s.reply 0xC011 rcInvalid []
    else s.background 0xC011 payload rcSuccess [] true)

/-- Address of the component staging rooms (R441). -/
def componentStaging : Nat := 26752 * 65536

/-- The copy of a staging command (R437), made as it ends: the bytes, or Invalid Input where it meets poison. -/
def State.stage (s : State) (b : Background) : State :=
  let n := leAt b.arg 8 4
  let isItin := b.opcode == 0xC010
  let note := fun (s : State) (l : Option Nat) =>
    s.modHost (fun h => if isItin then { h with stagedLen := l } else { h with componentLen := l.map (fun x => (x, true)) })
  match State.windowRead (n / 65536 + 2) s (leAt b.arg 0 8) n with
  | (none, s1) => (note s1 none).replyDone b.opcode rcInvalid []
  | (some bytes, s1) => (note (s1.poolWrite (if isItin then itinStaging else componentStaging) bytes) (some n)).replyDone b.opcode rcSuccess []

/-! ### Updates (R449) -/

/-- A background command that writes flash: its result byte is known, its end comes with the write's. -/
def State.writing (s : State) (opcode : Nat) (payload : List Byte) (w : FlashWrite) : State :=
  (s.background opcode payload rcSuccess [0] false).modHost (fun h => { h with writing := h.writing ++ [w] })

/-- A background command that ends with a result byte and writes nothing. -/
def State.failing (s : State) (opcode : Nat) (payload : List Byte) (result : Nat) : State :=
  s.background opcode payload rcSuccess [BitVec.ofNat 8 result] true

/-- UPDATE_COMPONENT (R449). -/
def execUpdateComponent (payload : List Byte) (s : State) : Host.Outcome State Fault Refusal :=
  s.command 0xC012 (fun s =>
    if s.updating then s.reply 0xC012 rcBusy []
    else if !payload.isEmpty then s.reply 0xC012 rcInvalid []
    else match s.host.componentLen with
      | none => s.failing 0xC012 payload 3
      | some (n, _) => match s.poolRead componentStaging n with
        | (none, s1) => s1.failing 0xC012 payload 4
        | (some b, s1) =>
          let c := byteAt b 4
          let f := s1.host.flash
          if !imageWell b ∨ imageLen b ≠ n then s1.failing 0xC012 payload 3
          else if !imageSigned b (f.signer c) then s1.failing 0xC012 payload 1
          else if imageSvn b < sparseGet 0 f.minSvn c then s1.failing 0xC012 payload 2
          else s1.writing 0xC012 payload (.component c (!f.activeB.contains c) b))

/-- A component's booted trial slot becomes active, which is done once, and its minimum SVN rises to the running image's (R449). -/
def State.commitOne (s : State) (c : Nat) : State :=
  let f := s.host.flash
  let slotB := s.host.bootB.testBit (c - 1)
  let booted := s.host.bootTrial.testBit (c - 1)
  let active := f.activeB.filter (· != c)
  let f1 := if booted then { f with activeB := if slotB then active ++ [c] else active, trial := f.trial.filter (· != c) } else f
  let f2 := match s.host.svns.find? (fun m => m.1 == c) with
    | some (_, v) => { f1 with minSvn := sparseSet 0 f1.minSvn c (max (sparseGet 0 f1.minSvn c) v) }
    | none => f1
  s.modHost (fun h => { h with flash := f2, bootTrial := h.bootTrial &&& (2 ^ 6 - 1 - 2 ^ (c - 1)) })

/-- COMMIT (R437, R449): the minimum SVN held of each component is returned. -/
def execCommit (payload : List Byte) (s : State) : Host.Outcome State Fault Refusal :=
  s.command 0xC013 (fun s =>
    if s.updating then s.reply 0xC013 rcBusy []
    else if !payload.isEmpty then s.reply 0xC013 rcInvalid []
    else
      let s1 := if s.host.bootTrial = 0 then s else [1, 2, 3, 4, 5, 6].foldl State.commitOne s
      s1.reply 0xC013 rcSuccess ([1, 2, 3, 4, 5, 6].flatMap (fun c => natLE 2 (sparseGet 0 s1.host.flash.minSvn c))))

/-! ### Stopover and snapshots (R437) -/

/-- STOPOVER (R411, R437): the result of R417 is answered when it ends. -/
def execStopover (payload : List Byte) (s : State) : Host.Outcome State Fault Refusal :=
  s.command 0xC030 (fun s =>
    if s.stopping then s.reply 0xC030 rcBusy []
    else if !payload.isEmpty then s.reply 0xC030 rcInvalid []
    else ((s.background 0xC030 payload rcSuccess [] false).modHealth (fun h => { h with stopMailbox := true })).startStop)

/-- READ_SNAPSHOT (R437): the own bank's segment is read; the partner's copy is asked for. -/
def execReadSnapshot (payload : List Byte) (s : State) : Host.Outcome State Fault Refusal :=
  s.command 0xC031 (fun s =>
    let seg := leAt payload 1 3
    if s.stopping ∨ s.flag PH_RESTORE_STATUS_BUSY then s.reply 0xC031 rcBusy []
    else if payload.length ≠ 4 ∨ 2 ≤ byteAt payload 0 ∨ 32767 ≤ seg then s.reply 0xC031 rcInvalid []
    else if byteAt payload 0 = 0 then
      (match s.poolRead (segmentAt s.readBank seg) 4096 with
        | (none, s1) => s1.background 0xC031 payload rcInternal [] true
        | (some b, s1) => s1.background 0xC031 payload rcSuccess b true)
    else if !s.flag PH_STOP_CFG_PARTNER_VALID then s.background 0xC031 payload rcInternal [] true
    else if s.unreachable (s.fld PH_STOP_CFG_PARTNER) then s.background 0xC031 payload rcInternal [] true
    else (s.background 0xC031 payload rcInternal [] false).toStop (s.fld PH_STOP_CFG_PARTNER) 0x1D seg (s.fld PH_STOP_STATUS_SEQ) [])

/-! ### Owner and service (R446, R448) -/

/-- GET_NONCE (R446): 32 free bytes. -/
def execGetNonce (payload : List Byte) (s : State) : Host.Outcome State Fault Refusal :=
  s.command 0xC040 (fun s => if !payload.isEmpty then s.reply 0xC040 rcInvalid []
    else
      let (n, s1) := s.takeFree 32
      (s1.modHost (fun h => { h with nonce := some n })).reply 0xC040 rcSuccess n)

/-- OWNER_SET (R446): a record is the new key and a signature; the nonce serves this command alone. -/
def execOwnerSet (payload : List Byte) (s : State) : Host.Outcome State Fault Refusal :=
  s.command 0xC041 (fun s =>
    if s.updating then s.reply 0xC041 rcBusy []
    else if payload.length ≠ keyBytes + sigBytes then s.reply 0xC041 rcInvalid []
    else
      let key := payload.take keyBytes
      let sig := payload.drop keyBytes
      let s1 := s.modHost (fun h => { h with nonce := none })
      match s.host.nonce with
      | none => s1.failing 0xC041 payload 2
      | some n =>
        let ok := match s.host.flash.owner with
          | none => Config.mldsaVerify key n sig
          | some held => Config.mldsaVerify held (key ++ n) sig
        if ok then s1.writing 0xC041 payload (.owner (some key)) else s1.failing 0xC041 payload 1)

/-- SERVICE (R448) with an operation and what it writes. -/
def State.service (s : State) (payload : List Byte) (op : Nat) (w : FlashWrite) : Host.Outcome State Fault Refusal :=
  s.command 0xC042 (fun s =>
    if s.updating then s.reply 0xC042 rcBusy []
    else if payload.length ≠ 97 + sigBytes ∨ byteAt payload 0 ≠ op then s.reply 0xC042 rcInvalid []
    else
      let s1 := s.modHost (fun h => { h with nonce := none })
      if s.host.nonce ≠ some ((payload.drop 1).take 32) then s1.failing 0xC042 payload 2
      else if (payload.drop 33).take 64 = deviceDigest ∧
          Config.mldsaVerify (s.host.flash.owner.getD firmwareKey) (payload.take 97) (payload.drop 97) then s1.writing 0xC042 payload w
      else s1.failing 0xC042 payload 1)

/-- SERVICE_CLEAR_LEDGER (R448). -/
def execServiceClearLedger (payload : List Byte) (s : State) : Host.Outcome State Fault Refusal := s.service payload 1 (.ledger [])

/-- SERVICE_CLEAR_OWNER (R448). -/
def execServiceClearOwner (payload : List Byte) (s : State) : Host.Outcome State Fault Refusal := s.service payload 2 (.owner none)

/-! ### Ends (R436, R450) -/

/-- BACKGROUND_COMMAND_DONE (R436, R438): its end is reported through the background command status and vector 0, unless a Function Level
Reset came between. -/
def execBackgroundCommandDone (s : State) : Host.Outcome State Fault Refusal :=
  match s.host.background with
  | none => .next s
  | some b =>
    if !b.ready then .next s
    else
      let s1 := s.modHost (fun h => { h with background := none })
      let s2 := if b.opcode = 0xC010 ∨ b.opcode = 0xC011 then s1.stage b else s1.replyDone b.opcode b.code b.payload
      .next (if b.report then s2 else (s2.modHost (fun h => { h with bgDone := s.host.bgDone })).modOut (fun _ => s.out))

/-- What a flash write leaves in flash (R439). -/
def State.written? (s : State) (w : FlashWrite) : State :=
  let f := s.host.flash
  let put := fun (f : Flash) => s.modHost (fun h => { h with flash := f })
  match w with
  | .component c b data => put { (f.putImage c b data) with trial := f.trial.filter (· != c) ++ [c] }
  | .owner key =>
    let s1 := (put { f with owner := key }).setFld MB_BOOT_STATUS_OWNER_SET (if key.isSome then 1 else 0)
    (match key with
      | some k => s1.measure 8 (shake 64 k) 0
      | none => s1)
  | .stopRecord seq digest bank partner => put { f with stop := some (seq, digest, bank, partner) }
  | .ledger entries => (put { f with ledger := entries }).setFld MEM_REPAIR_STATUS_LEDGER_USED entries.length
  | .recover c b piece data =>
    let old := f.image c b
    put (f.putImage c b (spliceBytes (padTo (max old.length (4096 * piece + data.length)) old) (4096 * piece) data))

/-- FLASH_WRITE_DONE (R450): the write stands; a reset or Function Level Reset that waited for it follows. -/
def execFlashWriteDone (s : State) : Host.Outcome State Fault Refusal :=
  match s.host.writing with
  | [] => .next s
  | w :: rest =>
    let s1 := (s.modHost (fun h => { h with writing := rest })).written? w
    let s2 := s1.modHost (fun h => { h with background := h.background.map (fun b =>
      if [0xC012, 0xC041, 0xC042].contains b.opcode then { b with ready := true } else b) })
    if !rest.isEmpty then .next s2
    else if s2.power.resetOwed then .next (s2.modPower (fun w => { w with resetOwed := false })).warm
    else .next (if s2.host.flrOwed then s2.flr else s2)

end Sys2Proof.Machine
end

