-- ==== Sys2Proof/Machine/Boot.lean ====
section
/-! DEFINITION. Boot stages, recovery, attestation and the other DOE exchanges (R425, R431, R442 to R448). -/

namespace Sys2Proof.Machine

open Sys2Proof

/-! ### Boot (R442 to R444) -/

/-- A stage ends well: STAGE shows it. -/
def State.stagePassed (s : State) (k : Nat) (next : Option Nat) : State :=
  (s.setFld MB_BOOT_STATUS_STAGE k).modHost (fun h => { h with stage := next, passed := k })

/-- Both slots of a component fail: the boot stops (R442). -/
def State.stageFailed (s : State) (k : Nat) (component : Option Nat) : State :=
  ((s.setFld MB_BOOT_STATUS_FAIL_STAGE k).modHost (fun h => { h with stage := none, failed := component })).fault 0x303 0x3B k

/-- Components booted one after the other; the first that fails is named. -/
def bootAll : List Nat → State → Option Nat × List (List Byte) × State
  | [], s => (none, [], s)
  | c :: cs, s => match s.bootComponent c with
    | (none, s1) => (some c, [], s1)
    | (some im, s1) =>
      let (x, ims, s2) := bootAll cs s1
      (x, im :: ims, s2)

/-- A port's definition is put in force: ENABLE is 1 where the port has a kind (R389). -/
def State.definePort (s : State) (p word : Nat) : State :=
  (s.setReg (LN_PORT_W0 p) (BitVec.ofNat 64 word)).setFld (LN_PORT_W1_ENABLE p) (if bitsOf word 55 52 = 0 then 0 else 1)

/-- Stage 2 applies the configuration (R17, R440, R443): a verified CONF_O gives port definitions and HASH_SEED; without it, or without an owner
key, the default owner section leaves the reference lane map; where the port definitions are what fails verification, no port has one (R362; log
entry 110). -/
def State.applyConfig (s : State) : State :=
  let bytes := fun (c : Nat) => s.host.flash.held c (s.host.bootB.testBit (c - 1))
  let s1 := if s.host.flash.owner.isSome && s.host.measured.any (fun m => m.1 == 6) then
      ((List.range 256).foldl (fun s p => s.definePort p (confWord (bytes 6) p)) s).setFld SW_ROUTE_CTRL_HASH_SEED (Config.confSeed (bytes 6)).toNat
    else if s.host.flash.noPorts then (List.range 256).foldl (fun s p => s.definePort p 0) s
    else s
  let s2 := s1.modSw (fun w => { w with seed := s1.fld SW_ROUTE_CTRL_HASH_SEED })
  ((s2.setFld DV_IDENT_IFACE_MAJOR (Config.confMajor (bytes 5)).toNat).setFld DV_IDENT_IFACE_MINOR (Config.confMinor (bytes 5)).toNat).raise
    DV_IDENT_IMAGE_VALID

/-- BOOT_STAGE_DONE (R442, R443). -/
def execBootStageDone (s : State) : Host.Outcome State Fault Refusal :=
  match s.host.stage with
  | none => .next s
  | some 0 =>
    if shake 64 firmwareKey ≠ romDigest then .next (s.stageFailed 0 none)
    else match bootAll [1] s with
      | (some c, _, s1) => .next (s1.stageFailed 0 (some c))
      | (none, _, s1) => .next (s1.stagePassed 0 (some 1))
  | some 1 => match bootAll [2, 5] s with
    | (some c, _, s1) => .next (s1.stageFailed 1 (some c))
    | (none, _, s1) =>
      let s2 := (s1.bootComponent 6).2
      .next ((s2.measure 8 (shake 64 (s2.host.flash.owner.getD [])) 0).stagePassed 1 (if s2.phase = 1 then some 2 else none))
  | some 2 => if s.phase ≠ 1 then .next s else .next (s.applyConfig.loadLedger.stagePassed 2 none)
  | some _ => match bootAll [3, 4] s with
    | (some c, _, s1) => .next (s1.stageFailed 3 (some c))
    | (none, ims, s1) => .next (((s1.loadFirmware 3 (ims.getD 0 [])).loadFirmware 4 (ims.getD 1 [])).stagePassed 3 none)

/-- RECOVER_WRITE (R66, R444): a piece of an image into a slot of the failed component. -/
def execRecoverWrite (slotB : Bool) (piece : Nat) (data : List Byte) (s : State) : Host.Outcome State Fault Refusal :=
  if !s.mctpOn then .next s else
  match s.host.failed with
  | none => .next (s.mctpReply 0x23 3 [])
  | some c =>
    if data.length ≠ 4096 ∨ componentMax c < 4096 * (piece + 1) then .next (s.mctpReply 0x23 2 [])
    else .next ((s.modHost (fun h => { h with writing := h.writing ++ [.recover c slotB piece data] })).mctpReply 0x23 0 [])

/-! ### SPDM (R445, R447, R448; log entry 93) -/

/-- An SPDM response as the model records it: version 1.3, code, two parameters, and its content. -/
def State.spdm (s : State) (code p1 p2 : Nat) (body : List Byte) : State :=
  s.modOut (fun o => { o with spdm := o.spdm ++ [[0x13, BitVec.ofNat 8 code, BitVec.ofNat 8 p1, BitVec.ofNat 8 p2] ++ body] })

/-- ERROR with a code. -/
def State.spdmError (s : State) (code : Nat) : State := s.spdm 0x7F code 0 []

/-- A request that reaches the responder. -/
def State.spdmAsk (s : State) (act : State → State) : Host.Outcome State Fault Refusal := if s.linkUp then .next (act s) else .next s

/-- A request before the selection; after one that selected nothing it is unexpected (R447). -/
def State.spdmEarly (s : State) (act : State → State) : Host.Outcome State Fault Refusal :=
  s.spdmAsk (fun s => if s.host.selected = some false then s.spdmError 4 else act s)

/-- A request that needs a connection with a selection (R447): UnexpectedRequest without one. -/
def State.spdmChosen (s : State) (act : State → State) : Host.Outcome State Fault Refusal :=
  s.spdmAsk (fun s => if s.host.selected = some true then act s else s.spdmError 4)

/-- The digest that a measurement block holds (R448): 1 to 6 as boot verified them, 7 the image in force, 8 the owner record. One that boot has
not measured is a free value of the part, the same at each reading (log entry 93). -/
def State.blockDigest (s : State) (b : Nat) : List Byte :=
  if b = 7 then (match s.clusters.active with
    | some im => padTo 64 im.digest
    | none => zeroBytes 64)
  else if b = 8 then shake 64 (s.host.flash.owner.getD [])
  else ((s.host.measured.find? (fun m => m.1 == b)).map (·.2)).getD ((List.range 64).map (Config.partByte 7 b))

/-- What the alias key is derived from (R445): the measurements of FS1, MGMT, CONF_L and CONF_O. -/
def State.aliasInputs (s : State) : List Byte := [1, 2, 5, 6].flatMap s.blockDigest

/-- ξ of the alias key (R445): SHAKE256(seed, "ALIAS", measurements). -/
def State.aliasXi (s : State) : List Byte := shake 32 (pufSeed ++ [0x41, 0x4C, 0x49, 0x41, 0x53] ++ s.aliasInputs)

/-- A signature by the alias key (R445, R447). -/
def State.aliasSign (s : State) (m : List Byte) : List Byte := signedBy s.aliasXi m

/-- The alias certificate (R445): it names the alias public key and is signed with the DeviceID key. -/
def State.aliasCert (s : State) : List Byte :=
  let body := Config.aliasBody (publicKey s.aliasXi)
  Config.aliasCertificate body (signedBy deviceXi body)

/-- The certificate chain of slot 0 (R445): the certificates in flash, and the alias certificate. -/
def State.chain (s : State) : List Byte := Config.flashChain ++ s.aliasCert

/-- GET_VERSION (R447): version 1.3 only; a new connection begins. -/
def execGetVersion (s : State) : Host.Outcome State Fault Refusal :=
  s.spdmAsk (fun s => (s.modHost (fun h => { h with selected := none })).spdm 0x04 0 0 (natLE 2 0x1300))

/-- GET_CAPABILITIES (R447): CERT_CAP, CHAL_CAP, MEAS_CAP with signature, MEAS_FRESH_CAP, and the two sizes. -/
def execGetCapabilities (s : State) : Host.Outcome State Fault Refusal :=
  s.spdmEarly (fun s => s.spdm 0x61 0 0 (natLE 4 0x36 ++ natLE 4 65536 ++ natLE 4 65536))

/-- NEGOTIATE_ALGORITHMS (R447): each of the extended algorithms that is offered is selected, by its ID; a requester that offers neither gets no
selection (log entry 93). -/
def execNegotiateAlgorithms (mldsa : Bool) (s : State) (shake256 : Bool := mldsa) : Host.Outcome State Fault Refusal :=
  s.spdmEarly (fun s => (s.modHost (fun h => { h with selected := some (mldsa || shake256) })).spdm 0x63 0 0
    ((if mldsa then natLE 2 1 else []) ++ (if shake256 then natLE 2 2 else [])))

/-- GET_DIGESTS (R447): slot 0. -/
def execGetDigests (s : State) : Host.Outcome State Fault Refusal := s.spdmChosen (fun s => s.spdm 0x01 0 1 (shake 64 s.chain))

/-- GET_CERTIFICATE (R445, R447): slots 1 to 7 are empty. -/
def execGetCertificate (slot offset length : Nat) (s : State) : Host.Outcome State Fault Refusal :=
  s.spdmChosen (fun s =>
    if slot ≠ 0 ∨ s.chain.length < offset then s.spdmError 1
    else
      let part := (s.chain.drop offset).take length
      s.spdm 0x02 0 0 (natLE 4 part.length ++ natLE 4 (s.chain.length - offset - part.length) ++ part))

/-- CHALLENGE (R447): signed by the alias key over the chain's digest and the nonce. -/
def execChallenge (slot : Nat) (nonce : List Byte) (s : State) : Host.Outcome State Fault Refusal :=
  s.spdmChosen (fun s =>
    if slot ≠ 0 then s.spdmError 1
    else
      let body := shake 64 s.chain ++ padTo 32 nonce
      s.spdm 0x03 0 1 (body ++ s.aliasSign body))

/-- GET_MEASUREMENTS (R447, R448): blocks 1 to 8 in digest form, signed by the alias key. -/
def execGetMeasurements (block : Nat) (nonce : List Byte) (s : State) : Host.Outcome State Fault Refusal :=
  s.spdmChosen (fun s =>
    if block = 0 ∨ (8 < block ∧ block ≠ 0xFF) then s.spdmError 1
    else
      let blocks := if block = 0xFF then [1, 2, 3, 4, 5, 6, 7, 8] else [block]
      let body := blocks.flatMap (fun b => natLE 1 b ++ s.blockDigest b) ++ padTo 32 nonce
      s.spdm 0x60 0 0 (body ++ s.aliasSign body))

/-- SPDM_UNSUPPORTED_REQUEST (R447). -/
def execSpdmUnsupportedRequest (code : Nat) (s : State) : Host.Outcome State Fault Refusal :=
  s.spdmEarly (fun s => s.spdm 0x7F 7 code [])

/-! ### Other DOE exchanges (R425, R431; log entry 93) -/

/-- A DOE response. -/
def State.doe (s : State) (b : List Byte) : State := s.modOut (fun o => { o with doe := o.doe ++ [b] })

/-- DOE_DISCOVERY (R425): vendor, object type and the next index of the three protocols; zeros beyond them. -/
def execDoeDiscovery (index : Nat) (s : State) : Host.Outcome State Fault Refusal :=
  s.spdmAsk (fun s => s.doe (match index with
    | 0 => [0x01, 0x00, 0x00, 0x01]
    | 1 => [0x01, 0x00, 0x01, 0x02]
    | 2 => [0x98, 0x1E, 0x02, 0x00]
    | _ => zeroBytes 4))

/-- CDAT_TABLE_ACCESS (R431): one DSMAS for the 64 GiB range, read and write latency 300 ns, read and write bandwidth 56 GB/s. -/
def execCdatTableAccess (s : State) : Host.Outcome State Fault Refusal :=
  s.spdmAsk (fun s => s.doe (natLE 8 0 ++ natLE 8 (2 ^ 36) ++ natLE 4 300 ++ natLE 4 300 ++ natLE 4 56 ++ natLE 4 56))

end Sys2Proof.Machine
end

