-- ==== Sys2Proof/Machine/Access.lean ====
section
/-! DEFINITION. Access to registers and memory (R11, R14, R15, R27, R28, R46, R66, R71, R72, R130, R475): what a read returns, what a
write at an offset does, and the memory operations of the pool and register access agents. -/

namespace Sys2Proof.Machine

open Sys2Proof

/-! ### Reads (R11, R27, R28, R66) -/

/-- CL_STATUS (R266). -/
def State.clStatus (s : State) (k : Nat) : Word :=
  let mask := fun (p : Nat → Bool) => (List.range 4).foldl (fun w c => if p (4 * k + c) then setBitOf w c else w) 0
  let busy := ((List.range 4).flatMap (fun c => (s.core (4 * k + c)).slots)).filter (fun x => x.phase != 0)
  placed busy.length 39 32 ||| placed (s.fld (CL_STATUS_EN_PEND k)) 15 12 ||| placed (mask s.quarantined) 11 8 |||
    placed (mask (fun c => (s.core c).runs)) 7 4 ||| placed (mask (fun c => s.power.released && s.coreOn c && !s.quarantined c)) 3 0

/-- CL_SLOTn (R267). -/
def State.clSlot (s : State) (k n : Nat) : Word :=
  let c := 4 * k + n / 16
  let x := (s.core c).slots.getD (n % 16) slotReset
  let docket := x.bound && s.docketValid c (n % 16)
  let state := if s.quarantined c then 6 else if x.phase ≠ 0 then x.phase else if x.bound then (if docket then 5 else 4) else 0
  let handle := match x.work with
    | some a => a.handle
    | none => if docket then leNat (s.localRead c (docketAt (n % 16) + 1) 4) else 0
  placed state 63 60 ||| placed (if x.bound then 1 else 0) 59 59 ||| placed x.cls 58 56 ||| placed x.program 55 40 ||| placed handle 31 0

/-- Number of the register of an array that lies at an offset. -/
def arrayIndex (base stride count off : Nat) : Option Nat :=
  if base ≤ off ∧ (off - base) % stride = 0 ∧ (off - base) / stride < count then some ((off - base) / stride) else none

/-- The fields of the register at an offset: reserved bits and WO fields read as 0, and so does an offset with no register (R11, R15, R28). -/
def State.shown (s : State) (off : Nat) : Word :=
  match regRow? off with
  | none => 0
  | some r => r.fields.foldl (fun w f => if f.acc = .wo then w else w ||| placed (bitsOf (s.reg off).toNat f.hi f.lo) f.hi f.lo) 0

/-- MEM_SCRUB_STATUS (R356): how far a running sweep has come at this moment is a free room of its range (log entry 36). -/
def State.scrubStatus (s : State) : Word :=
  let w := s.shown MEM_SCRUB_STATUS
  match s.mem.sweep with
  | none => w
  | some (first, last, _) => BitVec.ofNat 64 (w.toNat - bitsOf w.toNat 23 0 + (first + (Config.freeWord s.freeCtr).toNat % (last + 1 - first)) % 2 ^ 24)

/-- The mailbox's and the background command's status registers and the pending-bit array (R435, R436; log entry 116): how far a command that runs
has come is a free value. -/
def State.hostStatus (s : State) (off : Nat) : Word :=
  if off = CXL_MB_STATUS then placed s.out.mbCode 47 32 ||| placed (if s.host.background.isSome then 1 else 0) 0 0
  else if off = CXL_BG_STATUS then (match s.host.background, s.host.bgDone with
    | some b, _ => placed ((Config.freeWord s.freeCtr).toNat % 100) 22 16 ||| placed b.opcode 15 0
    | none, some (op, code) => placed code 47 32 ||| placed 100 22 16 ||| placed op 15 0
    | none, none => 0)
  else BitVec.ofNat 64 (s.out.pba.foldl (fun w v => w ||| 2 ^ v) 0)

/-- The register word at an offset as a read returns it. -/
def State.readWord (s : State) (off : Nat) : Word :=
  if off = BT_NOW then BitVec.ofNat 64 s.now
  else if off = CXL_MB_STATUS ∨ off = CXL_BG_STATUS ∨ off = MSIX_PBA then s.hostStatus off
  else if off = MEM_SCRUB_STATUS then s.scrubStatus
  else if (CL_STATUS 0) ≤ off ∧ off < (CL_STATUS 6) then
    let k := (off - CL_STATUS 0) / 0x80000
    if off = CL_STATUS k then s.clStatus k
    else match arrayIndex (CL_SLOT k 0) 8 64 off with
      | some n => s.clSlot k n
      | none => s.shown off
  else s.shown off

/-- A register of the auxiliary island (R66). -/
def auxRegister (off : Nat) : Bool :=
  [DV_IDENT, DV_STATE, DV_COORD, BT_ROOT, MB_BOOT_STATUS].contains off || decide (0x00100000 ≤ off ∧ off < 0x00200000) ||
  decide (0x01C00000 ≤ off ∧ off < 0x02000000)

/-- READ_REG (R66): a register of the main island reads 0 while the input switch is open. -/
def execReadReg (offset : Nat) (s : State) : Host.Outcome State Fault Refusal :=
  if !s.mctpOn then .next s
  else if offset % 8 ≠ 0 ∨ 2 ^ 26 ≤ offset then .next (s.mctpReply 0x25 2 [])
  else .next (s.mctpReply 0x25 0 (natLE 8 (if (s.phase == 0 || !s.power.switchClosed) && !auxRegister offset then 0 else (s.readWord offset).toNat)))

/-! ### The forced step (R46) -/

/-- A timed action (R52, R302): the activation of the staged image, the next firing of a core, a step of a tally's chunk, a port's curfew switchover or scheduled wake. -/
inductive TimedAct where
  | activate
  | fire (core : Nat)
  | tally (ctx g : Nat)
  | curfew (port : Nat)
  | wake (port : Nat)
  deriving DecidableEq, Repr

/-- It fires. -/
def State.runTimed (s : State) : TimedAct → State
  | .activate => s.activate
  | .fire c => if (s.nextFiring c 33).isSome then s.contFiring c
      else if ((s.settleCore c).nextFiring c 35).isSome then s.wakeFiring c else s.launchFiring c
  | .tally i g => s.tallyStep i g
  | .curfew p => s.switchDue p
  | .wake p => s.wakeDue p

/-- The next firing of a core that may fire now, with its tick (R293). -/
def State.firingNow (s : State) (c : Nat) : Option Nat :=
  let s0 := s.settleCore c
  match s.nextFiring c 33, s0.nextFiring c 35, s0.nextFiring c 32 with
  | some x, _, _ => some x.2
  | none, some x, _ => some x.2
  | none, none, some x => if s0.quarantined c || (s0.core c).idle then some x.2 else none
  | none, none, none => none

/-- The timed launches that may fire now and whose ticks a forced step has skipped (R46); an image activation comes before what is stated for its
tick (R303). -/
def State.skippedActs (s : State) : List (Nat × TimedAct) :=
  let fires := (List.range 24).filterMap (fun c => (s.firingNow c).map (fun t => (t, TimedAct.fire c)))
  let steps := s.tally.ctxs.flatMap (fun x => (x.win.filter (fun k => x.timed && s.stepDue x k)).map (fun k => (x.stepTick k.g, TimedAct.tally x.idx k.g)))
  let lists := ((List.range 256).filter (fun p => s.curfewPending p)).map (fun p => (s.fld (SW_CURFEW_TICK_SWITCH_TICK p), TimedAct.curfew p))
  let wakes := ((List.range 256).filter (fun p => s.portUp p && s.fld (LN_PORT_W2_TX_STATE p) != 0 && (s.port p).txWaking.isNone)).map
    (fun p => ((s.reg (LN_PORT_W3 p)).toNat, TimedAct.wake p))
  let image := match s.clusters.armed, s.clusters.staged with
    | some a, some _ => [(a, TimedAct.activate)]
    | _, _ => []
  (image ++ fires ++ steps ++ lists ++ wakes).filter (fun x => s.skippedTick x.1)

/-- The first of a list of timed launches, in the order of their ticks. -/
def firstTimed : List (Nat × TimedAct) → Option (Nat × TimedAct)
  | [] => none
  | x :: xs => match firstTimed xs with
    | none => some x
    | some y => if y.1 < x.1 then some y else some x

/-- The skipped launches fire at once, in the order of their ticks (R46); one that waits for its core fires late after it. -/
def State.fireSkipped : Nat → State → State
  | 0, s => s
  | n + 1, s => match firstTimed s.skippedActs with
    | none => s
    | some x => State.fireSkipped n (s.runTimed x.2)

/-- FORCE_STEP (R46, R57): bell time moves forward to the parent's time by a multiple of 32 ticks, and the timed launches whose ticks were
skipped fire; or STEP_REFUSED. -/
def execForceStep (s : State) : Host.Outcome State Fault Refusal :=
  let refused := Host.Outcome.next (s.raise BT_TIMED_ERR_STEP_REFUSED)
  match s.bell.parent with
  | none => refused
  | some d =>
    let shift := (s.dir d).offset / 65536 / 32 * 32
    if !s.bellSet ∨ s.isRoot ∨ !s.recent (s.dir d).exchAt ∨ shift < 0 then refused
    else .next (State.fireSkipped (2 ^ 64)
      ((s.modBell (fun b => { b with now := (b.now + shift.toNat) % 2 ^ 64, skipped := some (s.now, s.now + shift.toNat) })).choice 7))

/-! ### Two-word entries (R130) -/

/-- Both words of an entry written. -/
def State.writePair (s : State) (off0 off1 value : Nat) : State :=
  let w0 := (sparseGet (s.reg off0) s.sw.held0 off0).toNat
  ((s.modSw (fun w => { w with held0 := sparseErase w.held0 off0 })).writePlain off0 w0).writePlain off1 value

/-- A policer's entry (R127, R130): its buckets are full from the write that enables it; those of one that was enabled have filled at the old rates
until now. -/
def State.writePolicer (s : State) (m value : Nat) : State :=
  let was := s.flag (SW_POL_W0_ENABLE m)
  let s0 := if was then s.modSw (fun w => { w with policers := sparseInsert m (s.buckets m) (sparseErase w.policers m) }) else s
  let s1 := s0.writePair (SW_POL_W0 m) (SW_POL_W1 m) value
  if !was && s1.flag (SW_POL_W0_ENABLE m) then s1.modSw (fun w => { w with
    policers := sparseInsert m ⟨640 * s1.fld (SW_POL_W0_CBS m), 640 * s1.fld (SW_POL_W1_PBS m), s1.free⟩ (sparseErase w.policers m) }) else s1

/-- A class's scheduling entry (R133, R151): its shaper's credit up to now is of the old slope; a shaper starts at 0. -/
def State.writeEgress (s : State) (m value : Nat) : State :=
  let was := s.flag (SW_EGRESS_SHAPE_EN m)
  let s1 := (s.touchShapers (m / 8)).writePlain (SW_EGRESS m) value
  if !was && s1.flag (SW_EGRESS_SHAPE_EN m) then s1.modSw (fun w => { w with
    shapers := sparseInsert m ⟨0, s1.free⟩ (sparseErase w.shapers m) }) else s1

/-- The cluster and the number of a register of a cluster's array at an offset. -/
def clusterIndex (base0 stride count off : Nat) : Option (Nat × Nat) :=
  let k := (off - 0x00800000) / 0x80000
  if 0x00800000 ≤ off ∧ k < 6 then (arrayIndex (base0 + 0x80000 * k) stride count off).map (fun n => (k, n)) else none

/-- TWO_WORD_ENTRY_WRITE (R130, R267): word 1 of a policer, VLAN or binding entry. -/
def execTwoWordEntryWrite (offset value : Nat) (s : State) : Host.Outcome State Fault Refusal :=
  match arrayIndex (SW_POL_W1 0) 16 512 offset with
  | some m => .next (s.writePolicer m value)
  | none => match arrayIndex (SW_VLAN_W1 0) 16 4096 offset with
    | some v => .next (s.writePair (SW_VLAN_W0 v) (SW_VLAN_W1 v) value)
    | none => match clusterIndex (CL_BIND_W1 0 0) 16 64 offset with
      | some (k, n) => execBindWrite k n value s
      | none => .next s

/-- A word 0 of a two-word entry. DESIGN CHOICE: R130 names policer and VLAN entries, and R267 the bindings; a coach's word 0 is taken not to be held
(log entry 140). -/
def isWord0 (off : Nat) : Bool :=
  (arrayIndex (SW_POL_W0 0) 16 512 off).isSome || (arrayIndex (SW_VLAN_W0 0) 16 4096 off).isSome || (clusterIndex (CL_BIND_W0 0 0) 16 64 off).isSome

/-- A word 0 is held until word 1 is written (R130). -/
def State.holdWord0 (s : State) (off value : Nat) : State :=
  s.modSw (fun w => { w with held0 := sparseInsert off (BitVec.ofNat 64 value) (sparseErase w.held0 off) })

/-! ### Writes (R11, R14, R15) -/

/-- One meaning after another. -/
def thenDo (o : Host.Outcome State Fault Refusal) (f : State → Host.Outcome State Fault Refusal) : Host.Outcome State Fault Refusal :=
  match o with
  | .next s => f s
  | .fault r => .fault r
  | .refused r => .refused r

/-- A write of LN_PORTp word 1 (R381, R382, R384, R385): ENABLE, then TX_REQ, then RETRAIN. -/
def State.writePort (s : State) (p value : Nat) : Host.Outcome State Fault Refusal :=
  let req := bitsOf value 3 2
  thenDo (if value.testBit 0 then execEnable p s else if s.flag (LN_PORT_W1_ENABLE p) then execShutDown p s else .next s) (fun s =>
    thenDo (if req = s.fld (LN_PORT_W1_TX_REQ p) then .next s else if req = 1 then execQuietRequest p s else if req = 2 then execSleepRequest p s
      else if req = 0 then execActiveRequest p s else .next s) (fun s =>
        if value.testBit 63 then execRetrain p s else .next s))

/-- A write of ST_CTRL (R234): the free rooms are known once the service has been enabled (log entry 40). -/
def State.writeStCtrl (s : State) (value : Nat) : State :=
  let s1 := s.writePlain ST_CTRL value
  if s1.flag ST_CTRL_ENABLE then s1.countFree else s1

/-- A write of the repair control (R349): an OP above 3 is answered as such. -/
def State.writeRepair (s : State) (value : Nat) : Host.Outcome State Fault Refusal :=
  let op := bitsOf value 62 60
  if !value.testBit 63 then .next (s.writePlain MEM_REPAIR_CTRL value)
  else if op = 0 then execRepairRow value s
  else if op = 1 then execRetireRoom value s
  else if op = 2 then execRetireBank value s
  else if op = 3 then execReleaseRoom value s
  else .next (s.repairGo value op)

/-- Registers alone at their offsets whose write does more than R11 says. -/
def State.writeSingle (s : State) (off value : Nat) : Option (Host.Outcome State Fault Refusal) :=
  if off = SW_FENCE then some (.next (s.writePlain off value).dropFencedResults)
  else if off = DV_ITIN_CTRL then
    some (thenDo (if value.testBit 1 then execActivationCancel s else .next s) (fun s => if value.testBit 0 then execVerify s else .next s))
  else if off = DV_ITIN_ACT_TICK then some (execActivationArm value s)
  else if off = WATCH_INJECT then some (execInject value s)
  else if off = SW_SACRIFICE then some (execSacrificeThresholdWrite value s)
  else if off = SW_TBL_CTRL then some (if value.testBit 59 then execSwTableWrite value s else execSwTableRead value s)
  else if off = SW_TBL_DATA 0 ∨ off = SW_TBL_DATA 1 then some (.next (if s.flag SW_TBL_STATUS_DONE then s.writePlain off value else s))
  else if off = TL_TBL_CTRL then some (execTlTableRead value s)
  else if off = ST_CTRL then some (.next (s.writeStCtrl value))
  else if off = ST_EVICT then some (execEvictThresholdWrite value s)
  else if off = ST_STABLE then some (execAreaWrite false value s)
  else if off = ST_INBOUND then some (execAreaWrite true value s)
  else if off = ST_TAKEOVER then some (execTakeoverGo value s)
  else if off = ST_REMIRROR then some (execRemirror value s)
  else if off = ST_TBL_CTRL then some (execStTableRead value s)
  else if off = MEM_THERM then some (execThermThresholdWrite value s)
  else if off = MEM_SCRUB_CTRL then
    some (if value.testBit 63 then execScrubGo value s else thenDo (if value.testBit 62 then execScrubStop s else .next s) (fun s => .next (s.writePlain off value)))
  else if off = MEM_REPAIR_CTRL then some (s.writeRepair value)
  else if off = BT_CTRL then some (let s1 := s.writePlain off value
    if value.testBit 0 then execForceStep s1 else .next s1)
  else if off = BT_ROOT then some (.next (if 4 ≤ s.phase then s else (s.writePlain off value).refreshRoot))
  else if off = BT_RUN_START then some (execChoiceWindowWrite false value s)
  else if off = BT_RUN_END then some (execChoiceWindowWrite true value s)
  else if off = PH_INPUT_CTRL then some (if value.testBit 0 then execRetry s else .next s)
  else if off = PH_CAP then some (execCapModeWrite value s)
  else if off = PH_CLOCK then some (execClockWrite value s)
  else if off = PH_STOP_CTRL then
    some (thenDo (if value.testBit 62 then execStopoverCancel s else .next s) (fun s => if value.testBit 63 then execStopoverGo s else .next s))
  else if off = PH_STOP_TICK then some (execStopTickArm value s)
  else if off = PH_STOP_CFG then some (.next (if s.stopping || s.guestBusy then s.raise PH_ERR_CFG_BUSY else s.writePlain off value))
  else if off = PH_RESTORE_CTRL then some (execRestoreGo value s)
  else if off = PH_PROOF_CTRL then some (execProofGo value s)
  else none

/-- The switch's registers of arrays whose write does more than R11 says. -/
def State.writeSwitchArray (s : State) (off value : Nat) : Option (Host.Outcome State Fault Refusal) :=
  let pick := fun (base stride count : Nat) (f : Nat → Host.Outcome State Fault Refusal) => (arrayIndex base stride count off).map f
  (pick (SW_CURFEW_CTL 0) 32 256 (fun p => if value.testBit 3 then execCurfewCancel p s else .next s)).or <|
  (pick (SW_CURFEW_TICK 0) 32 256 (fun p => execCurfewSwitchArm p value s)).or <|
  (pick (SW_OWNER 0) 8 4096 (fun n => execOwnerMinWrite n value s)).or <|
  (pick (SW_EGRESS 0) 8 2048 (fun m => .next (if m % 8 < 6 then s.writeEgress m value else s))).or <|
  (pick (SW_DEAD 0) 8 32 (fun _ => .next (s.writeDead off value))).or <|
  (pick (SW_RANK 0) 8 32768 (fun n => execRankEntryWrite n value s)).or <|
  (pick (SW_PARTY 0) 8 4096 (fun p => execPartyEntryWrite p value s)).or <|
  (pick (SW_STREAM 0) 8 65536 (fun n => execStreamEntryWrite n value s))

/-- Registers of arrays whose write does more than R11 says. -/
def State.writeArray (s : State) (off value : Nat) : Option (Host.Outcome State Fault Refusal) :=
  let pick := fun (base stride count : Nat) (f : Nat → Host.Outcome State Fault Refusal) => (arrayIndex base stride count off).map f
  (s.writeSwitchArray off value).or <|
  (pick (TL_POOL 0) 8 4096 (fun p => execTallyPoolMinWrite p value s)).or <|
  (pick (CL_CTRL 0) 0x80000 6 (fun k => execCoreEnableWrite k value s)).or <|
  (pick (CL_QUAR 0) 0x80000 6 (fun k => execQuarantineClear k value s)).or <|
  (pick (LN_PORT_W1 0) 0x40 256 (fun p => s.writePort p value)).or <|
  (pick (LN_PORT_W3 0) 0x40 256 (fun p => execWakeTickWrite p value s)).or <|
  (pick (MB_WINDOW 0) 8 16 (fun i => execWindowWrite i value s)).or <|
  (pick (MB_QCFG 0) 0x20 2 (fun q => execQueueConfigWrite q value s)).or
  ((pick (MB_QHEAD 0) 0x20 2 (fun _ => .next (s.writePlain off value).flushNotices)).or
  (pick (MSIX_CTL 0) 16 4 (fun v => .next (s.writeVector v value))))

/-- A 64-bit write at an offset (R11, R14): a register with an effect of its own has it, any other sets its fields. -/
def State.store (s : State) (off value : Nat) : Host.Outcome State Fault Refusal :=
  match s.writeSingle off value with
  | some o => o
  | none => match s.writeArray off value with
    | some o => o
    | none =>
      if isWord0 off then .next (s.holdWord0 off value)
      else if (arrayIndex (SW_POL_W1 0) 16 512 off).isSome || (arrayIndex (SW_VLAN_W1 0) 16 4096 off).isSome ||
          (clusterIndex (CL_BIND_W1 0 0) 16 64 off).isSome then execTwoWordEntryWrite off value s
      else .next (s.writePlain off value)

/-- The value that a write of `size` bytes stands for, a held word 0 being what its other half keeps (R14, R130). -/
def State.valueOf (s : State) (off size value : Nat) : Nat :=
  let home := off - off % 8
  (if isWord0 home then s.setReg home (sparseGet (s.reg home) s.sw.held0 home) else s).wholeValue off size value

/-- A write of bits 63:32 alone, where the register's effect belongs to its low half, which is not reached (R14). -/
def State.storeHigh (s : State) (home value : Nat) : Option (Host.Outcome State Fault Refusal) :=
  if home = PH_CLOCK ∨ home = TL_TBL_CTRL ∨ home = ST_TBL_CTRL then some (.next s)
  else ((arrayIndex (CL_CTRL 0) 0x80000 6 home).map (fun _ => .next (s.writePlain home value))).or
    ((arrayIndex (LN_PORT_W1 0) 0x40 256 home).map (fun p => if value.testBit 63 then execRetrain p s else .next s))

/-- A write of bits 31:0 alone, where the register's effect belongs to its high half (R14): LOG2_ENTRIES of a queue, refused while the queue
is enabled (R433); the counts of a stream, which a write does not set (R106). -/
def State.storeLow (s : State) (home value : Nat) : Option (Host.Outcome State Fault Refusal) :=
  ((arrayIndex (MB_QCFG 0) 0x20 2 home).map (fun q =>
    if s.flag (MB_QCFG_ENABLE q) && s.written home value != s.reg home then .next (s.raise MB_ERR_QUEUE_REFUSED)
    else .next (s.writePlain home value))).or
    ((arrayIndex (SW_STREAM 0) 8 65536 home).map (fun _ => .next s))

/-- A write of 4 or 8 bytes at an offset of BAR0 (R14, R28). -/
def State.storeAt (s : State) (off size value : Nat) : Host.Outcome State Fault Refusal :=
  if (size ≠ 4 ∧ size ≠ 8) ∨ off % size ≠ 0 ∨ 2 ^ 26 ≤ off then .next s
  else
    let home := off - off % 8
    let v := s.valueOf off size value
    ((if size = 8 then none else if off % 8 = 4 then s.storeHigh home v else s.storeLow home v).getD (s.store home v))

/-- A register write of the host or of the management cores reaches its register (R22, R34, R399): not while PHASE is 0x7, and without the main
input only RETRY of the auxiliary island (R454; log entry 114). -/
def State.writable (s : State) (offset : Nat) : Bool :=
  s.phase != 7 && (s.power.switchClosed || (s.power.auxOn && offset / 8 == PH_INPUT_CTRL / 8))

/-- REGISTER_WRITE (R11, R14, R15, R28, R399). -/
def execRegisterWrite (offset size value : Nat) (s : State) : Host.Outcome State Fault Refusal :=
  if s.writable offset then s.storeAt offset size value else .next s

/-! ### Memory operations by rack address (R71, R72, R475) -/

/-- A refused operation is counted, and answered unless it is posted (R72). -/
def State.rackRefuse (s : State) (f : Frame) : State :=
  let s1 := s.count SW_DROP_RACK
  if f.kind = 0x03 then s1 else s1.errorReply f 1

/-- The bytes that a READ of the register space returns, register by register (R475). -/
def State.readRegs (s : State) (off n : Nat) : List Byte :=
  if n = 4 then natLE 4 (bitsOf (s.readWord (off - off % 8)).toNat (8 * (off % 8) + 31) (8 * (off % 8)))
  else (List.range (n / 8)).flatMap (fun i => natLE 8 (s.readWord (off + 8 * i)).toNat)

/-- A WRITE of the register space, each register one atomic access in ascending order (R475). -/
def State.writeRegs : List Nat → State → Nat → List Byte → Host.Outcome State Fault Refusal
  | [], s, _, _ => .next s
  | i :: is, s, off, p => thenDo (s.storeAt (off + 8 * i) 8 (leAt p (8 * i) 8)) (fun s => State.writeRegs is s off p)

/-- READ (R72, R342, R475), served by the pool or the register access agent. -/
def execRead (f : Frame) (s : State) : Host.Outcome State Fault Refusal :=
  s.serveAny f (fun s =>
    let n := opLength f
    let send := fun (s : State) (a : Nat) (b : List Byte) => s.agentSend a (replyTo f 0x08 b)
    match s.rackCheck f.srcPort f with
    | some 0 => (match s.poolRead f.address n with
      | (none, s1) => s1.agentSend 9 (replyTo f 0x0F [5])
      | (some b, s1) => send s1 9 b)
    | some 1 => send s 10 (s.readRegs (f.address - 2 ^ 40) n)
    | _ => s.rackRefuse f)

/-- What a WRITE or WRITE_POSTED does at its target; `ack`: the end of a WRITE. -/
def State.rackWrite (s : State) (f : Frame) (ack : Nat → State → State) : Host.Outcome State Fault Refusal :=
  let n := f.payload.length
  match s.rackCheck f.srcPort f with
  | some 0 => .next (ack 9 (s.poolWrite f.address f.payload))
  | some 1 =>
    let off := f.address - 2 ^ 40
    thenDo (if n = 4 then s.storeAt off 4 (leNat f.payload) else State.writeRegs (List.range (n / 8)) s off f.payload) (fun s => .next (ack 10 s))
  | _ => .next (s.rackRefuse f)

/-- WRITE (R475). -/
def execWrite (f : Frame) (s : State) : Host.Outcome State Fault Refusal :=
  thenDo ((s.takeAgent f).rackWrite f (fun a s => s.agentSend a (replyTo f 0x09 []))) (fun s => .next s.retryAgents)

/-- WRITE_POSTED (R475). -/
def execWritePosted (f : Frame) (s : State) : Host.Outcome State Fault Refusal :=
  thenDo ((s.takeAgent f).rackWrite f (fun _ s => s)) (fun s => .next s.retryAgents)

end Sys2Proof.Machine
end

