-- ==== Sys2Proof/Machine/Dispatch.lean ====
section
/-! DEFINITION. The dispatch: one arm per command, each one call of its meaning. -/

namespace Sys2Proof.Machine

/-- The effect of a command on everything but the queue. -/
def exec (i : Instr) (s : State) : Host.Outcome State Fault Refusal :=
  match i with
  | .warmReset => Sys2Proof.Machine.execWarmReset s
  | .powerCycle => Sys2Proof.Machine.execPowerCycle s
  | .powerOff => Sys2Proof.Machine.execPowerOff s
  | .railsDischarged => Sys2Proof.Machine.execRailsDischarged s
  | .inputSwitchClose => Sys2Proof.Machine.execInputSwitchClose s
  | .inputLow vin => Sys2Proof.Machine.execInputLow vin s
  | .inputRecovered vin => Sys2Proof.Machine.execInputRecovered vin s
  | .undervoltage vin => Sys2Proof.Machine.execUndervoltage vin s
  | .surge vin => Sys2Proof.Machine.execSurge vin s
  | .overvoltage vin => Sys2Proof.Machine.execOvervoltage vin s
  | .reverse vin => Sys2Proof.Machine.execReverse vin s
  | .overcurrent => Sys2Proof.Machine.execOvercurrent s
  | .retry => Sys2Proof.Machine.execRetry s
  | .powerStageFail stage => Sys2Proof.Machine.execPowerStageFail stage s
  | .railsStable => Sys2Proof.Machine.execRailsStable s
  | .vacancyThreadDone => Sys2Proof.Machine.execVacancyThreadDone s
  | .stackFillDone stack => Sys2Proof.Machine.execStackFillDone stack s
  | .fillLate stack => Sys2Proof.Machine.execFillLate stack s
  | .musterMark => Sys2Proof.Machine.execMusterMark s
  | .musterCheck failing crossings => Sys2Proof.Machine.execMusterCheck failing s crossings
  | .islandOutOfMuster island => Sys2Proof.Machine.execIslandOutOfMuster island s
  | .remusterDone island => Sys2Proof.Machine.execRemusterDone island s
  | .bringupDeadline => Sys2Proof.Machine.execBringupDeadline s
  | .setCoord coord sizeX1 sizeY1 sizeZ1 => Sys2Proof.Machine.execSetCoord coord sizeX1 sizeY1 sizeZ1 s
  | .setRoot coord ptpPort source => Sys2Proof.Machine.execSetRoot coord ptpPort source s
  | .readReg offset => Sys2Proof.Machine.execReadReg offset s
  | .recoverWrite slotB piece data => Sys2Proof.Machine.execRecoverWrite slotB piece data s
  | .mctpUnknownCommand code => Sys2Proof.Machine.execMctpUnknownCommand code s
  | .registerWrite offset size value => Sys2Proof.Machine.execRegisterWrite offset size value s
  | .syncInterval tA => Sys2Proof.Machine.execSyncInterval tA s
  | .sync dir f tB tC => Sys2Proof.Machine.execSync dir f tB tC s
  | .syncReply dir f tD => Sys2Proof.Machine.execSyncReply dir f tD s
  | .rootAnnounceSend => Sys2Proof.Machine.execRootAnnounceSend s
  | .rootAnnounce dir f tR => Sys2Proof.Machine.execRootAnnounce dir f tR s
  | .rootWaitEnd => Sys2Proof.Machine.execRootWaitEnd s
  | .holdLimitExpiry => Sys2Proof.Machine.execHoldLimitExpiry s
  | .forceStep => Sys2Proof.Machine.execForceStep s
  | .choiceWindowWrite isEnd tick => Sys2Proof.Machine.execChoiceWindowWrite isEnd tick s
  | .choiceWindowOpen => Sys2Proof.Machine.execChoiceWindowOpen s
  | .ptpMessage port msgType taiNs eth => Sys2Proof.Machine.execPtpMessage port msgType taiNs eth s
  | .trunkIdent port f => Sys2Proof.Machine.execTrunkIdent port f s
  | .frameIngress port f => Sys2Proof.Machine.execFrameIngress port f s
  | .frameTailReceived port sealOk => Sys2Proof.Machine.execFrameTailReceived port sealOk s
  | .egressSelect port => Sys2Proof.Machine.execEgressSelect port s
  | .spoil port => Sys2Proof.Machine.execSpoil port s
  | .bridgeFrame port eth fcsOk => Sys2Proof.Machine.execBridgeFrame port eth fcsOk s
  | .read f => Sys2Proof.Machine.execRead f s
  | .write f => Sys2Proof.Machine.execWrite f s
  | .writePosted f => Sys2Proof.Machine.execWritePosted f s
  | .streamCloseRelease stream => Sys2Proof.Machine.execStreamCloseRelease stream s
  | .streamHoldExpiry stream => Sys2Proof.Machine.execStreamHoldExpiry stream s
  | .sinkLimitExpiry port vc => Sys2Proof.Machine.execSinkLimitExpiry port vc s
  | .mcastHoldExpiry port => Sys2Proof.Machine.execMcastHoldExpiry port s
  | .creditTopup port => Sys2Proof.Machine.execCreditTopup port s
  | .sacrificeStageUpdate => Sys2Proof.Machine.execSacrificeStageUpdate s
  | .bufferSramUe place word => Sys2Proof.Machine.execBufferSramUe place s word
  | .bankRebuildDone bank => Sys2Proof.Machine.execBankRebuildDone bank s
  | .rankEntryWrite n value => Sys2Proof.Machine.execRankEntryWrite n value s
  | .partyEntryWrite p value => Sys2Proof.Machine.execPartyEntryWrite p value s
  | .streamEntryWrite n value => Sys2Proof.Machine.execStreamEntryWrite n value s
  | .ownerMinWrite n value => Sys2Proof.Machine.execOwnerMinWrite n value s
  | .sacrificeThresholdWrite value => Sys2Proof.Machine.execSacrificeThresholdWrite value s
  | .twoWordEntryWrite offset value => Sys2Proof.Machine.execTwoWordEntryWrite offset value s
  | .swTableRead value => Sys2Proof.Machine.execSwTableRead value s
  | .swTableWrite value => Sys2Proof.Machine.execSwTableWrite value s
  | .tlTableRead value => Sys2Proof.Machine.execTlTableRead value s
  | .stTableRead value => Sys2Proof.Machine.execStTableRead value s
  | .tableAccessDone window => Sys2Proof.Machine.execTableAccessDone window s
  | .curfewSwitchArm port tick => Sys2Proof.Machine.execCurfewSwitchArm port tick s
  | .curfewCancel port => Sys2Proof.Machine.execCurfewCancel port s
  | .curfewSwitchover port => Sys2Proof.Machine.execCurfewSwitchover port s
  | .curfewEntryAdvance port => Sys2Proof.Machine.execCurfewEntryAdvance port s
  | .fenceSeen ctx => Sys2Proof.Machine.execFenceSeen ctx s
  | .claim f => Sys2Proof.Machine.execClaim f s
  | .release f => Sys2Proof.Machine.execRelease f s
  | .tallyUnlistedKind f => Sys2Proof.Machine.execTallyUnlistedKind f s
  | .operand f => Sys2Proof.Machine.execOperand f s
  | .tallyStep ctx g => Sys2Proof.Machine.execTallyStep ctx g s
  | .result f sealOk headerOk => Sys2Proof.Machine.execResult f sealOk headerOk s
  | .ack f => Sys2Proof.Machine.execAck f s
  | .credit f => Sys2Proof.Machine.execCredit f s
  | .resend f => Sys2Proof.Machine.execResend f s
  | .fail f => Sys2Proof.Machine.execFail f s
  | .dispatch f => Sys2Proof.Machine.execDispatch f s
  | .resultAckTimeout ctx g slot => Sys2Proof.Machine.execResultAckTimeout ctx g slot s
  | .contribResendTimeout ctx g slot => Sys2Proof.Machine.execContribResendTimeout ctx g slot s
  | .tallyCorruption ctx reason g unit => Sys2Proof.Machine.execTallyCorruption ctx reason g s unit
  | .tallyPoolMinWrite p value => Sys2Proof.Machine.execTallyPoolMinWrite p value s
  | .open f => Sys2Proof.Machine.execOpen f s
  | .append f => Sys2Proof.Machine.execAppend f s
  | .appendResume index => Sys2Proof.Machine.execAppendResume index s
  | .attend f => Sys2Proof.Machine.execAttend f s
  | .assembleWaitExpiry srcCoord srcPort tag => Sys2Proof.Machine.execAssembleWaitExpiry srcCoord srcPort tag s
  | .attendPlace pos => Sys2Proof.Machine.execAttendPlace pos s
  | .fork f => Sys2Proof.Machine.execFork f s
  | .park f => Sys2Proof.Machine.execPark f s
  | .parkToHost index => Sys2Proof.Machine.execParkToHost index s
  | .parkToPeer index => Sys2Proof.Machine.execParkToPeer index s
  | .unpark f => Sys2Proof.Machine.execUnpark f s
  | .close f => Sys2Proof.Machine.execClose f s
  | .closeComplete index => Sys2Proof.Machine.execCloseComplete index s
  | .roomUnlistedKind f => Sys2Proof.Machine.execRoomUnlistedKind f s
  | .mirrorOpen f => Sys2Proof.Machine.execMirrorOpen f s
  | .mirrorAppend f => Sys2Proof.Machine.execMirrorAppend f s
  | .mirrorFork f => Sys2Proof.Machine.execMirrorFork f s
  | .mirrorClose f => Sys2Proof.Machine.execMirrorClose f s
  | .mirrorRoomcopy f => Sys2Proof.Machine.execMirrorRoomcopy f s
  | .mirrorAck f => Sys2Proof.Machine.execMirrorAck f s
  | .mirrorWaitExpiry index => Sys2Proof.Machine.execMirrorWaitExpiry index s
  | .lodgeBook f => Sys2Proof.Machine.execLodgeBook f s
  | .lodgeBooked f => Sys2Proof.Machine.execLodgeBooked f s
  | .lodge f => Sys2Proof.Machine.execLodge f s
  | .lodgeAck f => Sys2Proof.Machine.execLodgeAck f s
  | .recallReturn f => Sys2Proof.Machine.execRecallReturn f s
  | .recallDiscard f => Sys2Proof.Machine.execRecallDiscard f s
  | .recallPage f => Sys2Proof.Machine.execRecallPage f s
  | .recalled f => Sys2Proof.Machine.execRecalled f s
  | .eviction => Sys2Proof.Machine.execEviction s
  | .takeoverGo value => Sys2Proof.Machine.execTakeoverGo value s
  | .takeoverDone => Sys2Proof.Machine.execTakeoverDone s
  | .remirror value => Sys2Proof.Machine.execRemirror value s
  | .evictThresholdWrite value => Sys2Proof.Machine.execEvictThresholdWrite value s
  | .areaWrite inbound value => Sys2Proof.Machine.execAreaWrite inbound value s
  | .bindWrite cluster n value => Sys2Proof.Machine.execBindWrite cluster n value s
  | .inbox f => Sys2Proof.Machine.execInbox f s
  | .coreEnableWrite cluster value => Sys2Proof.Machine.execCoreEnableWrite cluster value s
  | .quarantineClear cluster value => Sys2Proof.Machine.execQuarantineClear cluster value s
  | .dupMismatch core => Sys2Proof.Machine.execDupMismatch core s
  | .dupThirdRunDone core outcome => Sys2Proof.Machine.execDupThirdRunDone core outcome s
  | .residueFail core rerunOk => Sys2Proof.Machine.execResidueFail core rerunOk s
  | .launchFiring core => Sys2Proof.Machine.execLaunchFiring core s
  | .contFiring core => Sys2Proof.Machine.execContFiring core s
  | .wakeFiring core => Sys2Proof.Machine.execWakeFiring core s
  | .finalRelease core => Sys2Proof.Machine.execFinalRelease core s
  | .dispatchResume core => Sys2Proof.Machine.execDispatchResume core s
  | .instructionComplete core unit => Sys2Proof.Machine.execInstructionComplete core unit s
  | .endBundle core => Sys2Proof.Machine.execEndBundle core s
  | .setx core => Sys2Proof.Machine.execSetx core s
  | .madx core => Sys2Proof.Machine.execMadx core s
  | .bell core => Sys2Proof.Machine.execBell core s
  | .bellTickReached core => Sys2Proof.Machine.execBellTickReached core s
  | .fence core => Sys2Proof.Machine.execFence core s
  | .fenceDrained core => Sys2Proof.Machine.execFenceDrained core s
  | .roomld core => Sys2Proof.Machine.execRoomld core s
  | .lcopy core => Sys2Proof.Machine.execLcopy core s
  | .mma core => Sys2Proof.Machine.execMma core s
  | .vadd core => Sys2Proof.Machine.execVadd core s
  | .vmul core => Sys2Proof.Machine.execVmul core s
  | .vfma core => Sys2Proof.Machine.execVfma core s
  | .vmax core => Sys2Proof.Machine.execVmax core s
  | .vmin core => Sys2Proof.Machine.execVmin core s
  | .vsel core => Sys2Proof.Machine.execVsel core s
  | .vexp core => Sys2Proof.Machine.execVexp core s
  | .vrcp core => Sys2Proof.Machine.execVrcp core s
  | .vcvt core => Sys2Proof.Machine.execVcvt core s
  | .vred core => Sys2Proof.Machine.execVred core s
  | .vmask core => Sys2Proof.Machine.execVmask core s
  | .histout core => Sys2Proof.Machine.execHistout core s
  | .xpose core => Sys2Proof.Machine.execXpose core s
  | .handoff core => Sys2Proof.Machine.execHandoff core s
  | .outbox core => Sys2Proof.Machine.execOutbox core s
  | .operandInstruction core => Sys2Proof.Machine.execOperandInstruction core s
  | .recv core => Sys2Proof.Machine.execRecv core s
  | .programFault core code => Sys2Proof.Machine.execProgramFault core code s
  | .verify => Sys2Proof.Machine.execVerify s
  | .verifyDone => Sys2Proof.Machine.execVerifyDone s
  | .activationArm tick => Sys2Proof.Machine.execActivationArm tick s
  | .activationCancel => Sys2Proof.Machine.execActivationCancel s
  | .imageActivation => Sys2Proof.Machine.execImageActivation s
  | .pairRead pair errs => Sys2Proof.Machine.execPairRead pair errs s
  | .pairWrite pair data => Sys2Proof.Machine.execPairWrite pair data s
  | .mergeHoldExpiry pair errs => Sys2Proof.Machine.execMergeHoldExpiry pair s errs
  | .interfaceCrcFail stack => Sys2Proof.Machine.execInterfaceCrcFail stack s
  | .thermalReport stack temp => Sys2Proof.Machine.execThermalReport stack temp s
  | .thermThresholdWrite value => Sys2Proof.Machine.execThermThresholdWrite value s
  | .scrubGo value => Sys2Proof.Machine.execScrubGo value s
  | .scrubStop => Sys2Proof.Machine.execScrubStop s
  | .scrubDone corrected uncorrectable rows => Sys2Proof.Machine.execScrubDone corrected uncorrectable s rows
  | .repairRow value => Sys2Proof.Machine.execRepairRow value s
  | .retireRoom value => Sys2Proof.Machine.execRetireRoom value s
  | .retireBank value => Sys2Proof.Machine.execRetireBank value s
  | .releaseRoom value => Sys2Proof.Machine.execReleaseRoom value s
  | .repairDone corrected uncorrectable => Sys2Proof.Machine.execRepairDone s corrected uncorrectable
  | .stackDown stack => Sys2Proof.Machine.execStackDown stack s
  | .portStageDone port found => Sys2Proof.Machine.execPortStageDone port found s
  | .portStageTimeout port found => Sys2Proof.Machine.execPortStageTimeout port found s
  | .detectRetry port partnerFound => Sys2Proof.Machine.execDetectRetry port partnerFound s
  | .status port credits detour ackSeq => Sys2Proof.Machine.execStatus port credits detour ackSeq s
  | .codewordUncorrectable port numbered => Sys2Proof.Machine.execCodewordUncorrectable port numbered s
  | .replayReq port resumeSeq resumeSlot => Sys2Proof.Machine.execReplayReq port resumeSeq resumeSlot s
  | .replayStart port seq => Sys2Proof.Machine.execReplayStart port seq s
  | .replayReqRepeat port => Sys2Proof.Machine.execReplayReqRepeat port s
  | .ackWaitExpiry port => Sys2Proof.Machine.execAckWaitExpiry port s
  | .serWindowEnd port corrected => Sys2Proof.Machine.execSerWindowEnd port corrected s
  | .laneSignalLoss port lane => Sys2Proof.Machine.execLaneSignalLoss port lane s
  | .laneForm port mask => Sys2Proof.Machine.execLaneForm port mask s
  | .laneNarrow port mask => Sys2Proof.Machine.execLaneNarrow port mask s
  | .narrowDone port => Sys2Proof.Machine.execNarrowDone port s
  | .tileFail tile => Sys2Proof.Machine.execTileFail tile s
  | .lanePower port state tick => Sys2Proof.Machine.execLanePower port state tick s
  | .laneWake port => Sys2Proof.Machine.execLaneWake port s
  | .laneDown port => Sys2Proof.Machine.execLaneDown port s
  | .quietRequest port => Sys2Proof.Machine.execQuietRequest port s
  | .sleepRequest port => Sys2Proof.Machine.execSleepRequest port s
  | .activeRequest port => Sys2Proof.Machine.execActiveRequest port s
  | .powerStateEntry port => Sys2Proof.Machine.execPowerStateEntry port s
  | .wakeTrigger port => Sys2Proof.Machine.execWakeTrigger port s
  | .wakeTickWrite port tick => Sys2Proof.Machine.execWakeTickWrite port tick s
  | .wakeTickReached port => Sys2Proof.Machine.execWakeTickReached port s
  | .wakeDone port receive => Sys2Proof.Machine.execWakeDone port receive s
  | .shutDown port => Sys2Proof.Machine.execShutDown port s
  | .shutdownDone port => Sys2Proof.Machine.execShutdownDone port s
  | .enable port => Sys2Proof.Machine.execEnable port s
  | .retrain port => Sys2Proof.Machine.execRetrain port s
  | .faultMessage source kind address => Sys2Proof.Machine.execFaultMessage source kind address s
  | .ringEntry => Sys2Proof.Machine.execRingEntry s
  | .inject value => Sys2Proof.Machine.execInject value s
  | .proofGo value => Sys2Proof.Machine.execProofGo value s
  | .proofAutoStart core => Sys2Proof.Machine.execProofAutoStart core s
  | .proofSuiteDone core failing => Sys2Proof.Machine.execProofSuiteDone core failing s
  | .healthEval ages eyeLoss wear => Sys2Proof.Machine.execHealthEval ages eyeLoss wear s
  | .riskHistoryAppend => Sys2Proof.Machine.execRiskHistoryAppend s
  | .stopoverGo => Sys2Proof.Machine.execStopoverGo s
  | .stopTickArm tick => Sys2Proof.Machine.execStopTickArm tick s
  | .stopoverCancel => Sys2Proof.Machine.execStopoverCancel s
  | .stopTickReached => Sys2Proof.Machine.execStopTickReached s
  | .quiesceDone busy => Sys2Proof.Machine.execQuiesceDone s busy
  | .captureDone => Sys2Proof.Machine.execCaptureDone s
  | .stopoverTimeout => Sys2Proof.Machine.execStopoverTimeout s
  | .snapPut f => Sys2Proof.Machine.execSnapPut f s
  | .snapDone f => Sys2Proof.Machine.execSnapDone f s
  | .snapConfirm f => Sys2Proof.Machine.execSnapConfirm f s
  | .snapGet f => Sys2Proof.Machine.execSnapGet f s
  | .snapData f => Sys2Proof.Machine.execSnapData f s
  | .snapAck f => Sys2Proof.Machine.execSnapAck f s
  | .restoreGo value => Sys2Proof.Machine.execRestoreGo value s
  | .restoreDone => Sys2Proof.Machine.execRestoreDone s
  | .cxlLinkUp rate width => Sys2Proof.Machine.execCxlLinkUp rate width s
  | .cxlLinkDown => Sys2Proof.Machine.execCxlLinkDown s
  | .memrd offset => Sys2Proof.Machine.execMemrd offset s
  | .memwr offset data poison => Sys2Proof.Machine.execMemwr offset data poison s
  | .memwrptl offset data => Sys2Proof.Machine.execMemwrptl offset data s
  | .windowWrite window value => Sys2Proof.Machine.execWindowWrite window value s
  | .queueConfigWrite q value => Sys2Proof.Machine.execQueueConfigWrite q value s
  | .msixHoldoffExpiry q => Sys2Proof.Machine.execMsixHoldoffExpiry q s
  | .functionLevelReset => Sys2Proof.Machine.execFunctionLevelReset s
  | .getEventRecords payload => Sys2Proof.Machine.execGetEventRecords payload s
  | .clearEventRecords payload => Sys2Proof.Machine.execClearEventRecords payload s
  | .getSupportedLogs payload => Sys2Proof.Machine.execGetSupportedLogs payload s
  | .getLog payload => Sys2Proof.Machine.execGetLog payload s
  | .identifyMemoryDevice payload => Sys2Proof.Machine.execIdentifyMemoryDevice payload s
  | .getPoisonList payload => Sys2Proof.Machine.execGetPoisonList payload s
  | .mailboxUnsupported opcode => Sys2Proof.Machine.execMailboxUnsupported opcode s
  | .reset payload => Sys2Proof.Machine.execReset payload s
  | .stageItinerary payload => Sys2Proof.Machine.execStageItinerary payload s
  | .stageComponent payload => Sys2Proof.Machine.execStageComponent payload s
  | .updateComponent payload => Sys2Proof.Machine.execUpdateComponent payload s
  | .commit payload => Sys2Proof.Machine.execCommit payload s
  | .getLogEntries payload => Sys2Proof.Machine.execGetLogEntries payload s
  | .stopover payload => Sys2Proof.Machine.execStopover payload s
  | .readSnapshot payload => Sys2Proof.Machine.execReadSnapshot payload s
  | .getNonce payload => Sys2Proof.Machine.execGetNonce payload s
  | .ownerSet payload => Sys2Proof.Machine.execOwnerSet payload s
  | .serviceClearLedger payload => Sys2Proof.Machine.execServiceClearLedger payload s
  | .serviceClearOwner payload => Sys2Proof.Machine.execServiceClearOwner payload s
  | .backgroundCommandDone => Sys2Proof.Machine.execBackgroundCommandDone s
  | .flashWriteDone => Sys2Proof.Machine.execFlashWriteDone s
  | .bootStageDone => Sys2Proof.Machine.execBootStageDone s
  | .getVersion => Sys2Proof.Machine.execGetVersion s
  | .getCapabilities => Sys2Proof.Machine.execGetCapabilities s
  | .negotiateAlgorithms mldsa shake256 => Sys2Proof.Machine.execNegotiateAlgorithms mldsa s shake256
  | .getDigests => Sys2Proof.Machine.execGetDigests s
  | .getCertificate slot offset length => Sys2Proof.Machine.execGetCertificate slot offset length s
  | .challenge slot nonce => Sys2Proof.Machine.execChallenge slot nonce s
  | .getMeasurements block nonce => Sys2Proof.Machine.execGetMeasurements block nonce s
  | .spdmUnsupportedRequest code => Sys2Proof.Machine.execSpdmUnsupportedRequest code s
  | .doeDiscovery index => Sys2Proof.Machine.execDoeDiscovery index s
  | .cdatTableAccess => Sys2Proof.Machine.execCdatTableAccess s
  | .capModeWrite value => Sys2Proof.Machine.execCapModeWrite value s
  | .powerMeasure block power pin iin vin => Sys2Proof.Machine.execPowerMeasure block power pin iin vin s
  | .clockWrite value => Sys2Proof.Machine.execClockWrite value s
  | .clockChange => Sys2Proof.Machine.execClockChange s
  | .hubThermalReport inlet outlet hubMax island => Sys2Proof.Machine.execHubThermalReport inlet outlet hubMax island s
  | .auxSupplyApplied => Sys2Proof.Machine.execAuxSupplyApplied s
  | .tileCalibrationDone tile => Sys2Proof.Machine.execTileCalibrationDone tile s
  | .error f => Sys2Proof.Machine.execError f s

end Sys2Proof.Machine
end

