-- ==== Sys2Proof/Machine/Tick.lean ====
section
/-! DEFINITION. What passes with time alone: a bell tick, and the warm reset that a RESET of the mailbox ordered (log entries 1
and 109). -/

namespace Sys2Proof.Machine

open Sys2Proof

/-- The free-running count rises, and bell time with it once it is set (R8, R35, R41). -/
def State.countTick (s : State) : State :=
  s.modBell (fun b => { b with free := b.free + 1, now := if s.bellSet then (b.now + 1) % 2 ^ 64 else b.now })

/-- The warm reset that follows a RESET by 1 ms (R12, R437): held while a flash write runs (R450). -/
def State.dueReset (s : State) : State :=
  match s.power.resetDue with
  | none => s
  | some t =>
    if s.free < t then s
    else if s.host.writing.isEmpty then s.warm
    else s.modPower (fun w => { w with resetDue := none, resetOwed := true })

/-- One bell tick. -/
def State.tick (s : State) : State := s.countTick.dueReset

end Sys2Proof.Machine
end

