-- ==== Sys2Proof/Safety.lean ====
section
/-! DEFINITION. The terms in which claims about the block are made: a command that completes, the canonical form of a state, and
which parts of the state a command may change. -/

namespace Sys2Proof.Machine

open Sys2Proof

/-- The command `c` completes from `s` with a next state that satisfies `P`. -/
def Completes (c : Instr) (s : State) (P : State → Prop) : Prop := ∃ t, exec c s = .next t ∧ P t

/-- The watch holds a block's message in `t`, with the time of an edge not before now, unless its queue was full in `s` (R391, R392, R400). -/
abbrev Told (s t : State) (source kind address : Nat) : Prop :=
  s.watch.queue.length < 512 → ∃ m ∈ t.watch.queue, m.1 = faultWord source kind (s.severity source kind) address ∧ s.now ≤ m.2

/-- A frame that satisfies `P` stands in the switch in `t`, or waits at an agent of the module for cells (R115, R118). -/
abbrev Sent (t : State) (P : Frame → Bool) : Prop := ∃ f ∈ t.sw.descs.map (·.frame) ++ t.sw.agentWait.map (·.2.1), P f = true

/-- A tally's result on its way to the endpoint slot `x`: a copy of a frame in the switch whose header as it leaves names the slot's port and rank,
or a frame that waits at the tally agent for cells (R125, R159, R183). -/
abbrev ResultTo (t : State) (x : Nat × TSlot) (p : List Byte) : Prop :=
  (∃ d ∈ t.sw.descs, ∃ c ∈ t.sw.copies, c.desc = d.id ∧ c.out = x.2.port ∧ (outHeader d c).kind = 0x51 ∧ (outHeader d c).dstPort = x.2.port ∧
    (outHeader d c).dstRank = x.2.rank ∧ (outHeader d c).payload = p) ∨
  (∃ w ∈ t.sw.agentWait, w.2.1.kind = 0x51 ∧ w.2.1.payload = p ∧ ((w.2.2 = [] ∧ w.2.1.dstPort = x.2.port ∧ w.2.1.dstRank = x.2.rank) ∨
    ∃ pl ∈ w.2.2, pl.out = x.2.port ∧ pl.slot = some (x.1, x.2.rank)))

/-- The sender of `f` is an endpoint of this module that is up and not fenced, and passes the source check: an agent can answer it (R77, R96,
R158). -/
abbrev Answerable (s : State) (f : Frame) : Prop :=
  f.srcCoord = s.coord ∧ f.srcPort < 64 ∧ s.portKind f.srcPort = 1 ∧ s.portUp f.srcPort = true ∧ s.regBit SW_FENCE f.srcPort = false ∧
  s.trusted f = true

/-- Port `p` is an endpoint port of this module that is up and not fenced: an agent's frame reaches it (R77, R96). -/
abbrev Reachable (s : State) (p : Nat) : Prop := p < 64 ∧ s.portKind p = 1 ∧ s.portUp p = true ∧ s.regBit SW_FENCE p = false

/-- No frame waits at an agent, and none in the switch is bound for one. -/
abbrev Calm (s : State) : Prop := s.sw.agentWait = [] ∧ ∀ c ∈ s.sw.copies, c.out < 256

/-- A reply of a kind and payload to the sender of `f` stands in the switch, or waits at its agent (R80, R115). -/
abbrev Replied (t : State) (f : Frame) (kind : Nat) (payload : List Byte) : Prop :=
  Sent t (fun g => g.kind == kind && g.tag == f.tag && g.dstCoord == f.srcCoord && g.dstPort == f.srcPort && g.payload == payload)

/-- A stay's card as the pool holds it (R214). -/
def State.card (s : State) (i : Nat) : Card := cardOf (s.peek (cardAt i) 32)

/-- A stay's card can be read: its stack is up, its pair clean, and nothing waits in the write-merge buffer (R335, R342). -/
abbrev CardClean (s : State) (i : Nat) : Prop :=
  s.mem.merge = [] ∧ s.stackLost (pairStack (cardAt i / 64)) = false ∧ s.poisoned (cardAt i / 64) = false

/-- The room service is open, nothing in its way, and the innkeeper can answer `f` (R212, R213). -/
abbrev InnOpen (s : State) (f : Frame) : Prop :=
  Calm s ∧ Answerable s f ∧ s.phase ≠ 6 ∧ s.halted = false ∧ s.flag ST_CTRL_ENABLE = true ∧ s.stackLost 0 = false ∧ s.mem.merge = []

/-- In torus service another module lies on one axis from this one, is alive, and a direction to it is open with its bundle up: an agent's frame to
it leaves (R81, R86). -/
abbrev RouteTo (s : State) (c : Nat) : Prop :=
  s.flag DV_COORD_OPEN_MODE = false ∧ s.dead (s.landing s.coord c) = false ∧ s.turnsOf s.coord c = [] ∧
  ∃ a, s.firstAxis s.coord c = some a ∧ s.openDirs s.coord c a true ≠ []

/-- The room service is open, nothing in its way, and the innkeeper can answer the module that `f` comes from (R226 to R231). -/
abbrev InnPeer (s : State) (f : Frame) : Prop :=
  Calm s ∧ RouteTo s f.srcCoord ∧ s.trusted f = true ∧ s.phase ≠ 6 ∧ s.halted = false ∧ s.flag ST_CTRL_ENABLE = true ∧ s.stackLost 0 = false ∧ s.mem.merge = []

/-- The sixteen pieces of a page to entry `far` of module `c` stand in the switch or wait at the innkeeper (R226). -/
abbrev PageSent (t : State) (c far page : Nat) (bytes : Nat → List Byte) : Prop :=
  ∀ k < 16, Sent t (fun g => g.kind == 0x34 && g.dstCoord == c && g.dstPort == 0xF0 && g.address == far + page * 2 ^ 18 + k * 2 ^ 42 &&
    g.payload == bytes k)

/-- A request on stay `i` that is taken at once and meets none of the refusals every request meets first (R212, R213). -/
abbrev InTurn (s : State) (f : Frame) (i : Nat) : Prop :=
  InnOpen s f ∧ f.address % 2 ^ 18 = i ∧ s.engineFull f.address = false ∧ s.blocked i = false ∧
  s.remirroring i = false ∧
  docketOk f = true ∧ bitsOf f.address 31 18 = (s.stay i).gen ∧ (s.stay i).party = f.party ∧ s.poisoned (cardAt i / 64) = false

/-- Core `c` is one of the 24, and its arrays have the sizes the spec gives them (R236, R269, R275). -/
abbrev CoreThere (s : State) (c : Nat) : Prop :=
  c < 24 ∧ s.clusters.cores.length = 24 ∧ s.clusters.shared.length = 6 ∧ (s.core c).queues.length = 5 ∧ (s.core c).running.length = 5

/-- The word `p` of a core's store is one of the sequencer, so dispatch stops at it (R275). -/
abbrev StopsAt (k : Core) (bank p : Nat) : Prop := bitsOf ((k.banks.getD bank bankReset).words.getD p 0) 55 52 = 0

/-- A word of the sequencer stands at a core's dispatch point, the word behind it is the sequencer's too, and the core's last firing owes nothing. -/
abbrev AtWord (s : State) (c op w : Nat) : Prop :=
  CoreThere s c ∧ s.atWord c = some w ∧ opcode w = op ∧ (s.core c).oldWork = false ∧ ∀ p ∈ (s.core c).pc, StopsAt (s.core c) (s.core c).runBank (p + 1)

/-- An instruction stands at the head of its unit's queue and may issue, and nothing else runs in its cluster (R275, R276, R280). -/
abbrev Issues (s : State) (c u op : Nat) (q : Queued) : Prop :=
  CoreThere s c ∧ (s.core c).head u = some q ∧ opcode q.word = op ∧ (s.core c).running.getD (u - 1) none = none ∧ s.phase ≠ 6 ∧
  (s.core c).work.abandoned = false ∧ (s.core c).waitsHold q = true ∧ s.others c u = []

/-- An issued instruction has left its queue and runs. -/
abbrev Runs (s t : State) (c u : Nat) (q : Queued) : Prop :=
  (t.core c).running.getD (u - 1) none = some q ∧ (t.core c).queues.getD (u - 1) [] = ((s.core c).queues.getD (u - 1) []).tail

/-- The extent that a descriptor field of an instruction names (R278). -/
def State.ext (s : State) (c : Nat) (q : Queued) (d : Nat) : Extent := extentOf ((s.core c).bank q) q.xs d

/-- The FP32 elements of an operand of a vector instruction (R315). -/
def State.operandOf (s : State) (c : Nat) (q : Queued) (d : Nat) : List (List Nat) := (s.vectorOperand c ((s.core c).bank q) q d).1

/-- Element `j` of the first row of B, or of C, of a vector instruction, under its mode (R285). -/
def State.elemB (s : State) (c : Nat) (q : Queued) (j : Nat) : Nat :=
  modeElem (bitsOf q.ext 11 10) (bitsOf q.ext 63 32) (if bitsOf q.ext 11 10 = 3 then [] else s.operandOf c q (opB q.word)) 0 j

/-- See `State.elemB`. -/
def State.elemC (s : State) (c : Nat) (q : Queued) (j : Nat) : Nat :=
  modeElem (bitsOf q.ext 13 12) (bitsOf q.ext 63 32) (if bitsOf q.ext 13 12 = 3 then [] else s.operandOf c q (bitsOf q.ext 31 22)) 0 j

/-- D of an instruction is one row of FP32 that lies in its region, and nothing is gathered in a histogram. -/
abbrev RowOut (s : State) (c : Nat) (q : Queued) : Prop :=
  (s.ext c q (opD q.word)).fmt = 0 ∧ (s.ext c q (opD q.word)).rows = 1 ∧ (s.ext c q (opD q.word)).inRegion = true ∧ q.ext.testBit 9 = false

/-- D holds the FP32 elements that `g` gives, a NaN made canonical (R316). -/
abbrev Wrote (s t : State) (c : Nat) (q : Queued) (g : Nat → Nat) : Prop :=
  t.localRead c ((s.ext c q (opD q.word)).row 0) (s.ext c q (opD q.word)).len =
    pack 0 ((List.range (s.ext c q (opD q.word)).cols).map (fun j => (convert32 0 (g j)).1))

/-- The mailbox takes a command: the link is up and no background command runs (R436). -/
abbrev MailboxFree (s : State) : Prop := s.linkUp = true ∧ s.host.background = none

/-- Vector `v` is signalled: sent, or pending where the host has masked it (R435). -/
abbrev Signalled (s t : State) (v : Nat) : Prop :=
  (s.flag (MSIX_CTL_MASK v) = false → t.out.msix = s.out.msix ++ [v]) ∧ (s.flag (MSIX_CTL_MASK v) = true → v ∈ t.out.pba ∧ t.out.msix = s.out.msix)

/-- The mailbox gives a return code and a payload, and signals vector 0 (R435, R436). -/
abbrev Answered (s t : State) (opcode code : Nat) (payload : List Byte) : Prop :=
  t.out.mailbox = s.out.mailbox ++ [(opcode, code, payload)] ∧ Signalled s t 0

/-- The register space takes a write: the main input is on, and PHASE is not 0x7 (R22, R399). -/
abbrev Writable (s : State) : Prop := s.power.switchClosed = true ∧ s.phase ≠ 7

/-- No stack of the pool is down, no pair is poisoned and nothing waits in the write-merge buffer. -/
abbrev PoolClean (s : State) : Prop := (∀ n < 8, s.stackLost n = false) ∧ s.mem.poison = [] ∧ s.mem.merge = []

/-- The responder adds an SPDM response: version 1.3, code, two parameters, content (R447). -/
abbrev Responds (s t : State) (code p1 p2 : Nat) (body : List Byte) : Prop :=
  t.out.spdm = s.out.spdm ++ [[0x13, BitVec.ofNat 8 code, BitVec.ofNat 8 p1, BitVec.ofNat 8 p2] ++ body]

/-- A command's outcome, where it is a next state, changes no register but those at the offsets listed. -/
def OnlyRegs (offs : List Nat) (s : State) (o : Host.Outcome State Fault Refusal) : Prop :=
  ∀ t, o = .next t → ∀ a, a ∉ offs → t.reg a = s.reg a

/-- A next state's registers are those of the state before it but for the registers of the blocks and at the offsets named. -/
def OnlyBlocks (blocks : List (Nat × Nat)) (offs : List Nat) (s : State) (o : Host.Outcome State Fault Refusal) : Prop :=
  ∀ t, o = .next t → ∀ a, (∀ b ∈ blocks, a < b.1 ∨ b.2 ≤ a) → a ∉ offs → t.reg a = s.reg a

/-- The packet buffer's account (R118, R119): the free buffers outside every reservation, and for each owner what it has reserved or
claimed, whichever is more. -/
def State.poolAccount (s : State) : Int :=
  s.sw.sharedFree + ((List.range (detourOwner + 1)).map (fun o => ((max (s.ownerMin o) (s.ownerClaimed o) : Nat) : Int))).sum

/-- The pool's canonical form: addresses rise, and no entry equals what an unlisted address reads as. -/
def Memory.wf (m : MemUnit) : Bool := sparseWf (fun _ => 0) m.bytes && sparseWf (fun _ => false) m.poison

/-- Every sparse map of the state is in its canonical form, so that equal contents are equal data. -/
structure Canon (s : State) : Prop where
  regs : sparseWf regReset s.regs = true
  lanes : sparseWf (fun _ => default) s.lanes = true
  mem : Memory.wf s.mem = true
  table : sparseWf (fun _ => freeStay) s.stays.table = true
  buf : ∀ k ∈ s.clusters.cores, sparseWf (fun _ => 0) k.buf = true
  turn : ∀ k ∈ s.clusters.cores, sparseWf (fun _ => 0) k.turn = true
  shared : ∀ m ∈ s.clusters.shared, sparseWf (fun _ => 0) m = true

/-- The parts of the state beside the queue; with the registers go the record of R13 and the choice window's arming (R58). -/
inductive Part where
  | regs
  | power
  | bell
  | watch
  | sw
  | lanes
  | tally
  | mem
  | stays
  | clusters
  | health
  | host
  | out
  | free
  deriving DecidableEq, Repr

/-- A part is the same in two states. -/
def Part.same (s t : State) : Part → Prop
  | .regs => t.regs = s.regs ∧ t.rose = s.rose ∧ t.windowArmed = s.windowArmed
  | .power => t.power = s.power
  | .bell => t.bell = s.bell
  | .watch => t.watch = s.watch
  | .sw => t.sw = s.sw
  | .lanes => t.lanes = s.lanes
  | .tally => t.tally = s.tally
  | .mem => t.mem = s.mem
  | .stays => t.stays = s.stays
  | .clusters => t.clusters = s.clusters
  | .health => t.health = s.health
  | .host => t.host = s.host
  | .out => t.out = s.out
  | .free => t.freeCtr = s.freeCtr

/-- From `s` to `t` only the parts listed may have changed: not the queue, and the canonical form is kept. -/
structure Within (ps : List Part) (s t : State) : Prop where
  same : ∀ p, p ∉ ps → p.same s t
  pending : t.pending = s.pending
  canon : Canon s → Canon t

/-- A command's outcome, where it is a next state, lies within the parts. -/
def Ends (ps : List Part) (s : State) (o : Host.Outcome State Fault Refusal) : Prop := ∀ t, o = .next t → Within ps s t

end Sys2Proof.Machine
end

