-- ==== Sys2Proof/Certificates/Slice0/Obligations.lean ====
section
/-! DEFINITION. The statements for the provers, by chapter of the spec: what a step is, what every command completes with, which parts,
registers and bytes it leaves alone, and what single rules say. `Completes c s P` says that `c` answers a next state with `P`; `Ends ps s o` that
every part of the state but `ps` is left alone where `o` is a next state. -/

open Sys2Proof Sys2Proof.Machine

/-- With a command at the front of the queue a step runs it, on the state whose queue is the rest (the model's own queue: log entry 1). -/
def Obligations.StepRunsTheFront : Prop :=
  ∀ (c : Instr) (rest : List Instr) (s : State), s.pending = c :: rest → step s = exec c { s with pending := rest }

/-- On an empty queue one bell tick passes: the free-running count rises, bell time with it once it is set, and nothing else changes (the model's choice:
log entry 1); the warm reset that a RESET of the mailbox ordered follows at its tick, or is owed while a flash write runs (the model's choice: log
entry 109). That this reset leaves PHASE 0 while the input switch is open, and PHASE 7 where it stood, is the model's choice (log entry 49). -/
def Obligations.EmptyQueueTicks : Prop :=
  (∀ s : State, s.pending = [] → (∀ t ∈ s.power.resetDue, s.free + 1 < t) → step s = .next { s with bell := { s.bell with
    free := s.bell.free + 1, now := if s.bellSet then (s.bell.now + 1) % 2 ^ 64 else s.bell.now } }) ∧
  (∀ (s : State) (t : Nat), s.pending = [] → s.power.resetDue = some t → t ≤ s.free + 1 → s.host.writing = [] → ∃ u, step s = .next u ∧
    u.phase = (if s.phase = 7 then 7 else if s.power.switchClosed then 1 else 0) ∧ u.host.stage = some 0 ∧ u.power.resetDue = none ∧
    u.bell = bellReset ∧ u.sw = switchReset ∧ u.lanes = [] ∧ u.mem = memReset ∧ u.clusters = clustersReset ∧ u.host.flash = s.host.flash) ∧
  (∀ (s : State) (t : Nat), s.pending = [] → s.power.resetDue = some t → t ≤ s.free + 1 → s.host.writing ≠ [] → ∃ u, step s = .next u ∧
    u.power = { s.power with resetDue := none, resetOwed := true } ∧ u.regs = s.regs ∧ u.host = s.host)

/-- The state right after reset is in its canonical form, and no command waits. -/
def Obligations.ResetIsCanonical : Prop :=
  Canon State.reset ∧
  State.reset.pending = []

/-- R11 and the registers' Reset columns: what the fields named read right after reset, in every block. -/
def Obligations.ResetValues : Prop :=
  (∀ f ∈ [(DV_IDENT_VENDOR, 0x4C59), (DV_IDENT_PART, 0x0D08), (DV_IDENT_STEPPING, 0xA1), (DV_STATE_PHASE, 0), (DV_COORD_VALID, 0),
      (WATCH_CTRL_NOTIFY_MIN, 2), (WATCH_STATUS_HEAD, 0), (WATCH_STATUS_WORST, 0)], State.reset.fld f.1 = f.2) ∧
  (∀ f ∈ [(SW_ROUTE_CTRL_STREAM_HOLD, 100), (SW_ROUTE_CTRL_SINK_LIMIT, 10), (SW_CTRL_MCAST_HOLD, 100), (SW_SACRIFICE_T1, 512), (SW_SACRIFICE_T2, 256),
      (SW_SACRIFICE_T3, 128), (SW_SACRIFICE_T4, 64), (SW_PORT_CFG_PVID 0, 1), (SW_PORT_CFG_PVID 255, 1)], State.reset.fld f.1 = f.2) ∧
  (∀ f ∈ [(TL_CTRL_RESEND_WAIT, 20), (TL_CTRL_ACK_WAIT, 50), (TL_CTRL_RESEND_MAX, 3), (TL_CTRL_CREDIT_BATCH, 4), (ST_CTRL_ENABLE, 0),
      (ST_CTRL_ASSEMBLE_WAIT, 100), (ST_CTRL_MIRROR_WAIT, 50), (ST_EVICT_HIGH, 256), (ST_EVICT_LOW, 128)], State.reset.fld f.1 = f.2) ∧
  (∀ f ∈ [(CL_CTRL_CORE_EN 0, 15), (CL_CTRL_CORE_EN 5, 15), (MEM_THERM_T1, 95), (MEM_THERM_T2, 100), (MEM_THERM_T3, 105), (MEM_MERGE_CTRL_HOLD, 64),
      (MEM_SCRUB_CTRL_LAST_ROOM, 0xFFFFFF), (LN_CTRL_ACK_WAIT, 20), (LN_CTRL_RETRY_MAX, 8)], State.reset.fld f.1 = f.2) ∧
  (∀ f ∈ [(BT_STATUS_SET, 0), (BT_CTRL_HOLD_LIMIT, 10), (BT_CTRL_SYNC_EXP, 5), (MB_LINK_STATUS_RATE, 0), (MB_QCFG_LOG2_ENTRIES 1, 4), (MB_BOOT_STATUS_FAIL_STAGE, 15),
      (PH_CLOCK_AC_CYCLES, 7), (PH_CLOCK_AC_ACTIVE, 7), (PH_HEALTH_CTRL_STOP_RISK, 192), (PH_STOP_STATUS_STATE, 0)], State.reset.fld f.1 = f.2) ∧
  State.reset.reg BT_RUN_END = 0xFFFFFFFFFFFFFFFF

/-- Every command answers a next state from every state: the spec gives each an effect, so none faults or is refused. Where an event's own condition does
not hold, that the command leaves the state as it is is the model's choice (log entry 24), and so is that a write or a command that no supply can
carry has no effect (105, 114, 157). -/
def Obligations.EveryCommandAnswers : Prop :=
  ∀ (c : Instr) (s : State), ∃ t, exec c s = .next t

/-- From every state in its canonical form a step leads to one in its canonical form: equal contents stay equal data. -/
def Obligations.StepKeepsCanonicalForm : Prop :=
  ∀ s t : State, Canon s → step s = .next t → Canon t

/-- A step takes exactly the front command off the queue: no command is lost, added or reordered (the model's own queue: log entry 1). -/
def Obligations.StepTakesOneCommand : Prop :=
  ∀ (s t : State), step s = .next t → t.pending = s.pending.tail

/-- R12, R29, R30, R443, R452 to R456, R459: resets and the input's conditions complete with their effect, while the auxiliary supply is present. A power
cycle leaves flash, and how long the input has been good. The VIN operand is in units of 10 mV. That a warm reset leaves PHASE 7 or, with the switch
open, PHASE 0 is the model's choice (log entry 49), and so are what frees a latch (46) and the islands of power stage 4 (155). So are the effect of a
command whose condition does not hold, which is none (24), and which stages of the boot stand through a cold reset (125). -/
def Obligations.PowerInputCompletes : Prop :=
  (∀ s : State, s.power.auxOn = true → s.host.writing = [] → Completes .warmReset s (fun t =>
    t.phase = (if s.phase = 7 then 7 else if s.power.switchClosed then 1 else 0) ∧ t.host.stage = some 0 ∧ t.sw = switchReset ∧
    t.bell = bellReset ∧ t.lanes = [] ∧ t.tally = tallyReset ∧ t.mem = memReset ∧ t.stays = staysReset ∧ t.clusters = clustersReset ∧
    t.health = healthReset ∧ t.host.flash = s.host.flash ∧ t.power.switchClosed = s.power.switchClosed)) ∧
  (∀ (s : State) (c : Instr), (c = .powerCycle ∨ (c = .powerStageFail 10 ∧ s.power.auxOn = true)) → Completes c s (fun t =>
    t.regs = [] ∧ t.phase = 0 ∧ t.power = { powerReset with inputReady := s.power.inputReady.map (· - s.free) } ∧ t.bell = bellReset ∧
    t.sw = switchReset ∧ t.lanes = [] ∧ t.tally = tallyReset ∧
    t.mem = memReset ∧ t.stays = staysReset ∧ t.clusters = clustersReset ∧ t.host.flash.owner = s.host.flash.owner ∧
    t.host.flash.ledger = s.host.flash.ledger ∧ t.host.writing = [])) ∧
  (∀ s : State, s.power.auxOn = true → s.power.switchClosed = true → Completes .powerOff s (fun t =>
    t.phase = (if s.phase = 7 then 7 else 0) ∧ t.power.switchClosed = false ∧ t.power.discharging = true ∧ t.power.inputReady = none ∧
    t.power.latchEnds.isSome ∧ t.mem = memReset ∧ t.clusters = clustersReset ∧ t.host.flash = s.host.flash)) ∧
  (∀ s : State, Completes .railsDischarged s (fun t => t.power = { s.power with discharging := false } ∧ t.regs = s.regs)) ∧
  (∀ s : State, s.power.auxOn = true → s.power.switchClosed = false → s.power.discharging = false → s.power.ocLatch = false →
    s.inputGood = true → s.phase = 0 → 1 ≤ s.host.passed → s.host.stage = none → Completes .inputSwitchClose s (fun t =>
    t.phase = 1 ∧ t.power.switchClosed = true ∧ t.host.stage = some 2 ∧ t.power.phaseAt = s.free ∧ t.power.lowInput = false ∧
    t.fld PH_CAP_MODE_IN_FORCE = s.fld PH_CAP_MODE)) ∧
  (∀ (s : State) (vin : Nat), s.power.auxOn = true → s.power.switchClosed = true → 5200 ≤ toSigned 16 vin → toSigned 16 vin ≤ 5400 →
    Completes (.inputLow vin) s (fun t => t.fld PH_INPUT_EVENT_UV = 1 ∧ t.fld PH_INPUT_VIN = vin % 2 ^ 16 ∧
      t.fld PH_CAP_MODE_IN_FORCE = max 2 (s.fld PH_CAP_MODE) ∧ t.power.lowInput = true ∧ t.power.switchClosed = true)) ∧
  (∀ (s : State) (vin : Nat), s.power.auxOn = true → 5400 < toSigned 16 vin → Completes (.inputRecovered vin) s (fun t =>
    t.fld PH_INPUT_VIN = vin % 2 ^ 16 ∧ t.fld PH_CAP_MODE_IN_FORCE = s.fld PH_CAP_MODE ∧ t.power.lowInput = false ∧
    t.power.switchClosed = s.power.switchClosed ∧ t.inputGood = decide (toSigned 16 vin ≤ 6600))) ∧
  (∀ (s : State) (vin : Nat), s.power.auxOn = true → s.power.switchClosed = true → toSigned 16 vin < 5200 →
    Completes (.undervoltage vin) s (fun t => t.fld PH_INPUT_EVENT_UV = 1 ∧ t.fld PH_INPUT_VIN = vin % 2 ^ 16 ∧
      t.phase = (if s.phase = 7 then 7 else 0) ∧ t.power.switchClosed = false ∧ t.power.discharging = true ∧ t.mem = memReset ∧
      t.inputGood = false)) ∧
  (∀ (s : State) (vin : Nat), s.power.auxOn = true → 6600 ≤ toSigned 16 vin → toSigned 16 vin ≤ 8000 → Completes (.surge vin) s (fun t =>
    t.fld PH_INPUT_EVENT_SURGE = 1 ∧ t.fld PH_INPUT_VIN = vin % 2 ^ 16 ∧ t.phase = s.phase ∧ t.power.switchClosed = s.power.switchClosed ∧
    (6600 < toSigned 16 vin → t.inputGood = false))) ∧
  (∀ (s : State) (vin : Nat), s.power.auxOn = true → s.power.switchClosed = true → 6600 < toSigned 16 vin →
    Completes (.overvoltage vin) s (fun t => t.fld PH_INPUT_EVENT_OV = 1 ∧ t.fld PH_INPUT_VIN = vin % 2 ^ 16 ∧
      t.phase = (if s.phase = 7 then 7 else 0) ∧ t.power.switchClosed = false ∧ t.power.discharging = true ∧ t.mem = memReset)) ∧
  (∀ (s : State) (vin : Nat), s.power.auxOn = true → s.power.switchClosed = false → toSigned 16 vin < 0 → Completes (.reverse vin) s (fun t =>
    t.fld PH_INPUT_EVENT_REVERSE = 1 ∧ t.fld PH_INPUT_VIN = vin % 2 ^ 16 ∧ t.power.switchClosed = false ∧ t.inputGood = false)) ∧
  (∀ s : State, s.power.auxOn = true → s.power.switchClosed = true → Completes .overcurrent s (fun t =>
    t.fld PH_INPUT_EVENT_OC = 1 ∧ t.power.ocLatch = true ∧ t.power.switchClosed = false ∧ t.power.discharging = true ∧
    t.phase = (if s.phase = 7 then 7 else 0) ∧ t.mem = memReset)) ∧
  (∀ s : State, s.power.ocLatch = true → Completes .retry s (fun t =>
    t.power = { s.power with ocLatch := false, latchEnds := none } ∧ t.regs = s.regs)) ∧
  (∀ s : State, s.power.auxOn = true → s.power.switchClosed = true → Completes (.powerStageFail 11) s (fun t =>
    t.phase = (if s.phase = 7 then 7 else 0) ∧ t.power.switchClosed = false ∧ t.mem = memReset)) ∧
  (∀ (s : State) (stage i : Nat), s.power.auxOn = true → s.power.switchClosed = true →
    (stage ≤ 3 ∧ 1 ≤ i ∧ i ≤ 46) ∨ (stage = 4 ∧ 2 ≤ i ∧ i ≤ 42) ∨ (stage = 5 ∧ 47 ≤ i ∧ i ≤ 55) → s.watch.queue = [] →
    Completes (.powerStageFail stage) s (fun t => ∃ m ∈ t.watch.queue, m.1 = faultWord i 0x04 (s.severity i 0x04) 0)) ∧
  (∀ (s : State) (stage i : Nat), s.power.auxOn = true → s.power.switchClosed = true → i < 4 → stage = 6 ∨ stage = 7 →
    Completes (.powerStageFail stage) s (fun t => t.stackLost (4 * (stage - 6) + i) = true)) ∧
  (∀ (s : State) (stage i : Nat), s.power.auxOn = true → s.power.switchClosed = true → i < 2 → stage = 8 ∨ stage = 9 →
    Completes (.powerStageFail stage) s (fun t => t.regBit LN_STATUS (2 * (stage - 8) + i) = true ∧
      t.regBit DV_STATE (24 + 2 * (stage - 8) + i) = false))

/-- R29, R50, R51, R117, R155, R344, R351, R369, R442, R443, R458: every command of start-up completes with its effect: the supply starts boot stage 0,
threading, rails and fills move PHASE on, the muster's mark and its check, an island that falls out and comes back, the deadline of bring-up, a tile's
calibration, and the boot stage that applies the configuration. That a trunk's receive crossing which fails its check musters again from event 1 is
the model's choice (log entry 139), and so is what the pool reads as before its fill (117). So are that the base dies' firmware runs before PHASE 0x2
(51), what follows a fault that is not what an event waits for (24) and that the ledger takes the lowest spare row (37). -/
def Obligations.StartUpCompletes : Prop :=
  (∀ s : State, s.power.auxOn = false → Completes .auxSupplyApplied s (fun t =>
    t.power = { s.power with auxOn := true } ∧ t.host = { s.host with stage := some 0 } ∧ t.phase = s.phase)) ∧
  (∀ s : State, s.phase = 1 → s.sw.threaded = false → Completes .vacancyThreadDone s (fun t =>
    t.sw = { s.sw with threaded := true } ∧ t.tally = { s.tally with threaded := true } ∧
    t.fld SW_POOL_STATUS_SHARED_FREE = s.sw.sharedFree.toNat % 2 ^ 20 ∧ t.fld SW_POOL_STATUS_RESV_SUM = s.sw.resvSum % 2 ^ 20 ∧
    t.fld TL_STATUS_SHARED_FREE = s.tally.sharedFree.toNat % 2 ^ 13)) ∧
  (∀ s : State, s.phase = 1 → 2 ≤ s.fld MB_BOOT_STATUS_STAGE → s.host.stage = none → Completes .railsStable s (fun t =>
    t.phase = 2 ∧ t.power = { s.power with phaseAt := s.free })) ∧
  (∀ (s : State) (stack : Nat), s.phase = 2 → stack < 8 → s.stackLost stack = false → s.regBit DV_STATE (32 + stack) = false →
    Completes (.stackFillDone stack) s (fun t => t.regBit DV_STATE (32 + stack) = true ∧ t.fld (MEM_STACK_FILLED stack) = 1 ∧
      (∀ e ∈ t.mem.bytes, e.1 / 2 ^ 37 ≠ stack) ∧ (∀ e ∈ t.mem.poison, e.1 / 2 ^ 31 ≠ stack) ∧
      t.phase = (if s.fld DV_STATE_STACKS_FILLED ||| 2 ^ stack = 255 then 3 else 2))) ∧
  (∀ (s : State) (stack : Nat), s.phase = 2 → stack < 8 → s.regBit DV_STATE (32 + stack) = false → s.regBit MEM_STATUS (16 + stack) = false →
    s.power.phaseAt + 60000 * ticksPerUs ≤ s.free → Completes (.fillLate stack) s (fun t =>
      t.regBit MEM_STATUS (16 + stack) = true ∧ Told s t (0x100 + stack) 0x25 0)) ∧
  (∀ s : State, s.phase = 3 → s.power.markAt = none → s.power.musterAt + 512 ≤ s.free → Completes .musterMark s (fun t =>
    t.power = { s.power with markAt := some s.free } ∧ t.regs = s.regs)) ∧
  (∀ (s : State) (failing crossings : List Nat) (m : Nat), s.power.markAt = some m → s.phase = 3 → m + 2048 ≤ s.free →
    (∀ i ∈ s.power.musterTodo, i ∉ failing) → Completes (.musterCheck failing crossings) s (fun t =>
      t.power.markAt = none ∧ t.power.musterTodo = [] ∧ 4 ≤ t.phase ∧ t.phase ≤ 5 ∧
      t.fld DV_COORD_OPEN_MODE = 1 - s.fld DV_COORD_VALID)) ∧
  (∀ (s : State) (failing crossings : List Nat) (m : Nat), s.power.markAt = some m → s.phase = 3 → m + 2048 ≤ s.free →
    (∃ i ∈ s.power.musterTodo, i ∈ failing) → Completes (.musterCheck failing crossings) s (fun t =>
      t.power.markAt = none ∧ t.power.musterTodo = s.power.musterTodo.filter (fun i => failing.contains i) ∧ t.power.musterAt = s.free)) ∧
  (∀ (s : State) (island : Nat), island < 56 → s.regBit BT_MUSTER_OUT island = false → Completes (.islandOutOfMuster island) s (fun t =>
    t.regBit BT_MUSTER_OUT island = true ∧ t.regBit BT_MUSTER_LOST island = true ∧
    t.fld BT_STATUS_ISLANDS_OUT = (s.fld BT_STATUS_ISLANDS_OUT + 1) % 256 ∧ Told s t island 0x01 0)) ∧
  (∀ (s : State) (island : Nat), island < 56 → s.regBit BT_MUSTER_OUT island = true → Completes (.remusterDone island) s (fun t =>
    t.regBit BT_MUSTER_OUT island = false ∧ t.reg BT_MUSTER_LOST = s.reg BT_MUSTER_LOST ∧
    t.fld BT_STATUS_ISLANDS_OUT = s.fld BT_STATUS_ISLANDS_OUT - 1)) ∧
  (∀ s : State, s.phase = 4 → s.power.phaseAt + 200000 * ticksPerUs ≤ s.free → s.flag LN_STATUS_BRINGUP_DONE = false →
    Completes .bringupDeadline s (fun t => t.fld LN_STATUS_BRINGUP_DONE = 1 ∧ t.phase = 5 ∧ t.bell = { s.bell with rootWaitAt := some s.free })) ∧
  (∀ (s : State) (tile : Nat), tile < 4 → s.phase ≠ 0 → s.phase ≠ 7 → s.regBit LN_STATUS tile = false →
    Completes (.tileCalibrationDone tile) s (fun t => t.regBit DV_STATE (24 + tile) = true ∧ t.phase = s.phase ∧ t.lanes = s.lanes)) ∧
  (∀ s : State, s.host.stage = some 2 → s.phase = 1 → Completes .bootStageDone s (fun t =>
    t.fld MB_BOOT_STATUS_STAGE = 2 ∧ t.host.stage = none ∧ t.fld DV_IDENT_IMAGE_VALID = 1)) ∧
  (∀ (s : State) (failing : List Nat) (p m : Nat), s.power.markAt = none → (s.port p).musterAt = some m → s.free = m + 2560 →
    Completes (.musterCheck failing [p]) s (fun t =>
      ((s.port p).musterFails < 3 → t = s.modPort p (fun c => { c with musterAt := some s.free, musterFails := c.musterFails + 1 })) ∧
      (3 ≤ (s.port p).musterFails → Told s t (43 + s.tileOf p) 0x02 0)))

/-- R38, R65, R66, R444, R461 to R463, R465: the steward's commands complete with their answer and their effect, and so do the module's power cap, power
measurements, clock and temperature reports. Without the auxiliary supply the steward gets no answer (R22, R34). These are the model's choices: from
when the steward is answered (log entry 157), how power steps count and when a block steps up again (38), once HUB_OVERTEMP for each rise (39), and
what a report does while the switch is open (156). -/
def Obligations.StewardAndLimitsComplete : Prop :=
  (∀ (s : State) (coord x y z : Nat), s.power.auxOn = true → s.phase ≤ 3 → coord < 2048 → x < 16 → y < 16 → z < 8 → coordAxis coord 0 ≤ x → coordAxis coord 1 ≤ y →
    coordAxis coord 2 ≤ z → Completes (.setCoord coord x y z) s (fun t =>
      t.fld DV_COORD_VALID = 1 ∧ t.fld DV_COORD_COORD = coord ∧ t.fld DV_COORD_SIZE_X_M1 = x ∧ t.fld DV_COORD_SIZE_Y_M1 = y ∧
      t.fld DV_COORD_SIZE_Z_M1 = z ∧ t.fld BT_STATUS_ROOT = (if coord = s.rootCoord then 1 else 0) ∧
      t.out = { s.out with mctp := s.out.mctp ++ [[0x21, 0]] })) ∧
  (∀ (s : State) (coord port source : Nat), s.power.auxOn = true → s.phase ≤ 3 → coord < 2048 → port < 256 → source < 2 → Completes (.setRoot coord port source) s (fun t =>
    t.rootCoord = coord ∧ t.fld BT_ROOT_PTP_PORT = port ∧ t.fld BT_ROOT_PTP_SOURCE = source ∧
    t.fld BT_STATUS_ROOT = (if s.flag DV_COORD_VALID ∧ s.coord = coord then 1 else 0) ∧
    t.out = { s.out with mctp := s.out.mctp ++ [[0x24, 0]] })) ∧
  (∀ (s : State) (offset : Nat), s.power.auxOn = true → offset % 8 = 0 → offset < 2 ^ 26 →
    (s.phase ≠ 0 ∧ s.power.switchClosed = true) ∨ auxRegister offset = true → Completes (.readReg offset) s (fun t =>
    t.out = { s.out with mctp := s.out.mctp ++ [0x25 :: 0 :: natLE 8 (s.readWord offset).toNat] } ∧ t.regs = s.regs)) ∧
  (∀ (s : State) (code : Nat), s.power.auxOn = true → Completes (.mctpUnknownCommand code) s (fun t =>
    t.out = { s.out with mctp := s.out.mctp ++ [[BitVec.ofNat 8 code, 1]] } ∧ t.regs = s.regs)) ∧
  (∀ (s : State) (slotB : Bool) (piece c : Nat) (data : List Byte), s.power.auxOn = true → s.host.failed = some c → data.length = 4096 → 4096 * (piece + 1) ≤ componentMax c →
    Completes (.recoverWrite slotB piece data) s (fun t =>
      t.host = { s.host with writing := s.host.writing ++ [.recover c slotB piece data] } ∧
      t.out = { s.out with mctp := s.out.mctp ++ [[0x23, 0]] })) ∧
  (∀ (s : State) (value : Nat), Completes (.capModeWrite value) s (fun t => t.fld PH_CAP_MODE = value % 4 ∧
    t.fld PH_CAP_MODE_IN_FORCE = (if s.power.lowInput then max 2 (value % 4) else value % 4) ∧
    ∀ b < 14, t.fld (PH_BLOCK_LIMIT b) = capLimit (if s.power.lowInput then max 2 (value % 4) else value % 4) b)) ∧
  (∀ (s : State) (block power pin iin vin : Nat), block < 22 → s.power.switchClosed = true → Completes (.powerMeasure block power pin iin vin) s
    (fun t => t.fld (PH_BLOCK_POWER block) = power % 2 ^ 16 ∧ t.fld PH_INPUT_PIN = pin % 2 ^ 16 ∧ t.fld PH_INPUT_IIN = iin % 2 ^ 16 ∧
      t.fld PH_INPUT_VIN = vin % 2 ^ 16)) ∧
  (∀ (s : State) (block power pin iin vin : Nat), block < 6 → s.power.switchClosed = true → 10 * s.fld (PH_BLOCK_LIMIT block) < power →
    s.fld (PH_BLOCK_STEP block) < 4 → Completes (.powerMeasure block power pin iin vin) s
    (fun t => t.fld (PH_BLOCK_STEP block) = s.fld (PH_BLOCK_STEP block) + 1 ∧ t.reg PH_STEPS = s.reg PH_STEPS + 1)) ∧
  (∀ (s : State) (block power pin iin vin : Nat), 6 ≤ block → block < 14 → s.power.switchClosed = true →
    10 * s.fld (PH_BLOCK_LIMIT block) < power → s.fld (PH_BLOCK_STEP block) < 2 → Completes (.powerMeasure block power pin iin vin) s
    (fun t => t.fld (PH_BLOCK_STEP block) = s.fld (PH_BLOCK_STEP block) + 1 ∧ t.reg PH_STEPS = s.reg PH_STEPS + 1 ∧
      t.fld (MEM_STACK_LEVEL (block - 6)) = max (s.fld (MEM_STACK_THERM_LEVEL (block - 6))) (s.fld (PH_BLOCK_STEP block) + 1))) ∧
  (∀ (s : State) (value : Nat), 4 ≤ value % 8 → Completes (.clockWrite value) s (fun t =>
    t.fld PH_CLOCK_AC_CYCLES = value % 8 ∧ t.fld PH_CLOCK_PEND = 1 ∧ t.fld PH_CLOCK_AC_ACTIVE = s.fld PH_CLOCK_AC_ACTIVE ∧
    t.power = { s.power with clockHeld := some (value % 8) })) ∧
  (∀ (s : State) (v : Nat), s.power.clockHeld = some v → v < 8 → s.onBoundary = true → (∀ c ∈ s.clusters.cores, c.launch = none) →
    Completes .clockChange s (fun t => t.fld PH_CLOCK_AC_ACTIVE = v ∧ t.fld PH_CLOCK_PEND = 0 ∧
      t.power = { s.power with clockHeld := none })) ∧
  (∀ (s : State) (inlet outlet hubMax island : Nat), s.power.auxOn = true → s.power.switchClosed = true → toSigned 16 hubMax < 480 →
    Completes (.hubThermalReport inlet outlet hubMax island) s (fun t =>
      t.fld PH_THERMAL_INLET = inlet % 2 ^ 16 ∧ t.fld PH_THERMAL_OUTLET = outlet % 2 ^ 16 ∧ t.fld PH_THERMAL_HUB_MAX = hubMax % 2 ^ 16 ∧
      (440 ≤ toSigned 16 hubMax → s.power.hubHot = false → Told s t 0x301 0x3C island))) ∧
  (∀ (s : State) (inlet outlet hubMax island : Nat), s.power.auxOn = true → s.power.switchClosed = true → 480 ≤ toSigned 16 hubMax →
    Completes (.hubThermalReport inlet outlet hubMax island) s (fun t =>
      t.fld PH_INPUT_EVENT_HUB_HOT_OFF = 1 ∧ t.power.switchClosed = false ∧ t.power.discharging = true ∧ t.mem = memReset)) ∧
  (∀ (s : State) (coord x y z port source offset code piece : Nat) (slotB : Bool) (data : List Byte) (c : Instr), s.power.auxOn = false →
    c ∈ [.setCoord coord x y z, .setRoot coord port source, .readReg offset, .mctpUnknownCommand code, .recoverWrite slotB piece data] →
    Completes c s (fun t => t = s))

/-- R327, R335, R337, R338, R340, R341, R343, R353, R354, R356: reads and writes of pairs, the hold of a merge entry, interface replays, the loss of a
stack and temperatures complete with their effect. That an interface's ninth failure in a row takes the stack down is the model's reading (log entry
42), and so is that the read-modify-write of a merge entry is a reader like any other (174). So are the counting of reads that return poison (43), the
decoding of three and more wrong symbols (150), that a merge entry's own read brings its findings (174) and what runs at once in a stopover or a
throttle (149). -/
def Obligations.MemoryCompletes : Prop :=
  (∀ (s : State) (pair : Nat), pair < 2 ^ 34 → s.stackLost (pairStack pair) = false → s.poisoned pair = false →
    s.mem.merge.find? (fun e => e.pair == pair) = none → Completes (.pairRead pair []) s (fun t =>
      t.mem = { s.mem with crcRuns := sparseErase s.mem.crcRuns (pairStack pair) } ∧ t.regs = s.regs)) ∧
  (∀ (s : State) (pair symbol flips : Nat), pair < 2 ^ 34 → s.stackLost (pairStack pair) = false → s.poisoned pair = false →
    Completes (.pairRead pair [(symbol, flips)]) s (fun t => t.poisoned pair = false ∧
      t.reg (MEM_STACK_CNT (pairStack pair) 0) = s.reg (MEM_STACK_CNT (pairStack pair) 0) + 1)) ∧
  (∀ (s : State) (pair : Nat) (a b : Nat × Nat), pair < 2 ^ 34 → s.stackLost (pairStack pair) = false → s.poisoned pair = false →
    pairRoom pair < 27776 ∨ 28800 ≤ pairRoom pair → Completes (.pairRead pair [a, b]) s (fun t =>
      t.poisoned pair = true ∧ t.pairBytes pair = zeroBytes 64 ∧
      t.reg (MEM_STACK_CNT (pairStack pair) 1) = s.reg (MEM_STACK_CNT (pairStack pair) 1) + 1 ∧
      Told s t (0x100 + pairStack pair) 0x22 (64 * pair))) ∧
  (∀ (s : State) (pair : Nat) (data : List Byte), pair < 2 ^ 34 → s.stackLost (pairStack pair) = false → data.length = 64 →
    Completes (.pairWrite pair data) s (fun t => t.pairBytes pair = data ∧ t.poisoned pair = false ∧ (∀ e ∈ t.mem.merge, e.pair ≠ pair) ∧
      t.regs = s.regs)) ∧
  (∀ (s : State) (pair : Nat) (e : MergeEntry), s.mem.merge.find? (fun e => e.pair == pair) = some e →
    e.at_ + 128 * s.fld MEM_MERGE_CTRL_HOLD ≤ s.free → s.stackLost (pairStack pair) = false → s.poisoned pair = false →
    Completes (.mergeHoldExpiry pair []) s (fun t => t.pairBytes pair = mergeData (s.pairBytes pair) e.data e.mask ∧
      (∀ x ∈ t.mem.merge, x.pair ≠ pair) ∧ t.reg (MEM_STACK_CNT (pairStack pair) 3) = s.reg (MEM_STACK_CNT (pairStack pair) 3) + 1)) ∧
  (∀ (s : State) (stack : Nat), stack < 8 → s.stackLost stack = false → sparseGet 0 s.mem.crcRuns stack < 8 →
    Completes (.interfaceCrcFail stack) s (fun t => t.reg (MEM_STACK_CNT stack 7) = s.reg (MEM_STACK_CNT stack 7) + 1 ∧
      sparseGet 0 t.mem.crcRuns stack = sparseGet 0 s.mem.crcRuns stack + 1 ∧ t.stackLost stack = false)) ∧
  (∀ (s : State) (stack : Nat), stack < 8 → s.stackLost stack = false → 8 ≤ sparseGet 0 s.mem.crcRuns stack →
    Completes (.interfaceCrcFail stack) s (fun t => t.stackLost stack = true ∧ t.fld (MEM_STACK_DOWN stack) = 1 ∧
      Told s t (0x100 + stack) 0x26 0)) ∧
  (∀ (s : State) (stack : Nat), stack < 8 → s.stackLost stack = false → Completes (.stackDown stack) s (fun t =>
    t.stackLost stack = true ∧ t.fld (MEM_STACK_DOWN stack) = 1 ∧ Told s t (0x100 + stack) 0x27 0)) ∧
  (∀ (s : State) (stack temp : Nat), stack < 8 → s.phase ≠ 0 → Completes (.thermalReport stack temp) s (fun t =>
    t.fld (MEM_STACK_TEMP stack) = temp % 2 ^ 16 ∧
    t.fld (MEM_STACK_THERM_LEVEL stack) = s.thermalLevel (s.fld (MEM_STACK_THERM_LEVEL stack)) (toSigned 16 temp) ∧
    t.fld (MEM_STACK_LEVEL stack) =
      max (s.thermalLevel (s.fld (MEM_STACK_THERM_LEVEL stack)) (toSigned 16 temp)) (sparseGet 0 s.power.stackSteps stack) % 4)) ∧
  (∀ (s : State) (value : Nat), bitsOf value 15 8 < bitsOf value 23 16 → bitsOf value 23 16 < bitsOf value 31 24 →
    Completes (.thermThresholdWrite value) s (fun t => t.fld MEM_THERM_T1 = bitsOf value 15 8 ∧ t.fld MEM_THERM_T2 = bitsOf value 23 16 ∧
      t.fld MEM_THERM_T3 = bitsOf value 31 24 ∧ t.fld MEM_THERM_HYST = bitsOf value 39 32)) ∧
  (∀ (s : State) (value : Nat), ¬(bitsOf value 15 8 < bitsOf value 23 16 ∧ bitsOf value 23 16 < bitsOf value 31 24) →
    Completes (.thermThresholdWrite value) s (fun t => t.reg MEM_THERM = s.reg MEM_THERM ∧ t.fld MEM_ERR_THERM_ORDER = 1)) ∧
  (∀ (s : State) (pair : Nat) (e : MergeEntry) (a b : Nat × Nat), s.mem.merge.find? (fun e => e.pair == pair) = some e →
    e.at_ + 128 * s.fld MEM_MERGE_CTRL_HOLD ≤ s.free → s.stackLost (pairStack pair) = false → s.poisoned pair = false →
    Completes (.mergeHoldExpiry pair [a, b]) s (fun t => t.poisoned pair = true ∧ t.pairBytes pair = zeroBytes 64 ∧
      (∀ x ∈ t.mem.merge, x.pair ≠ pair) ∧ Told s t (0x100 + pairStack pair) 0x22 (64 * pair))) ∧
  (∀ (s : State) (pair : Nat) (e : MergeEntry) (a : Nat × Nat), s.mem.merge.find? (fun e => e.pair == pair) = some e →
    e.at_ + 128 * s.fld MEM_MERGE_CTRL_HOLD ≤ s.free → s.stackLost (pairStack pair) = false → s.poisoned pair = false →
    Completes (.mergeHoldExpiry pair [a]) s (fun t => t.pairBytes pair = mergeData (s.pairBytes pair) e.data e.mask ∧
      (∀ x ∈ t.mem.merge, x.pair ≠ pair) ∧ t.reg (MEM_STACK_CNT (pairStack pair) 0) = s.reg (MEM_STACK_CNT (pairStack pair) 0) + 1))

/-- R347 to R352: sweeps and repairs complete: a sweep starts, is stopped, ends with its counts; a repair or retirement starts with its control word, and
its end is recorded in the ledger. These are the model's choices: that a GO while one runs is discarded whole (log entry 50), what a stopped or
interrupted sweep has read (36), the spare row that a repair takes (37), where a released room goes (44), and that a command whose condition does not
hold has no effect (24). -/
def Obligations.MaintenanceCompletes : Prop :=
  (∀ (s : State) (value : Nat), s.flag MEM_SCRUB_STATUS_BUSY = false → Completes (.scrubGo value) s (fun t =>
    t.fld MEM_SCRUB_STATUS_BUSY = 1 ∧ t.fld MEM_SCRUB_STATUS_STOPPED = 0 ∧ t.fld MEM_SCRUB_CTRL_FIRST_ROOM = value % 2 ^ 24 ∧
    t.fld MEM_SCRUB_CTRL_LAST_ROOM = bitsOf value 47 24 ∧ t.fld MEM_SCRUB_STATUS_NEXT_ROOM = value % 2 ^ 24 ∧
    t.reg (MEM_SCRUB_SUM 4) = BitVec.ofNat 64 s.now ∧
    t.mem = { s.mem with sweep := some (value % 2 ^ 24, bitsOf value 47 24, (List.range 8).filter (fun st => !s.stackLost st)) })) ∧
  (∀ (s : State) (value : Nat), s.flag MEM_SCRUB_STATUS_BUSY = true → Completes (.scrubGo value) s (fun t =>
    t.fld MEM_ERR_SCRUB_BUSY = 1 ∧ t.reg MEM_SCRUB_CTRL = s.reg MEM_SCRUB_CTRL ∧ t.mem = s.mem)) ∧
  (∀ s : State, s.flag MEM_SCRUB_STATUS_BUSY = true → Completes .scrubStop s (fun t =>
    t.fld MEM_SCRUB_STATUS_STOPPED = 1 ∧ t.fld MEM_SCRUB_STATUS_BUSY = 1 ∧ t.mem = s.mem)) ∧
  (∀ (s : State) (corrected : List (Nat × Nat)) (uncorrectable rows : List Nat) (first last : Nat) (up : List Nat),
    s.mem.sweep = some (first, last, up) → Completes (.scrubDone corrected uncorrectable rows) s (fun t =>
      t.fld MEM_SCRUB_STATUS_BUSY = 0 ∧ t.mem.sweep = none ∧ t.reg (MEM_SCRUB_SUM 5) = BitVec.ofNat 64 s.now ∧
      t.reg (MEM_SCRUB_SUM 0) = BitVec.ofNat 64 (32 * (((List.range 8).filter (fun st => decide (0 < (rangeIn first last st).2))).map
        (s.rowsSwept first last up rows)).sum))) ∧
  (∀ (s : State) (pair symbol : Nat) (rows : List Nat) (first last : Nat), s.mem.sweep = some (first, last, List.range 8) →
    s.flag MEM_SCRUB_STATUS_STOPPED = false → (∀ st < 8, s.stackLost st = false) → first ≤ pairRoom pair → pairRoom pair ≤ last →
    pairRoom pair < 2 ^ 24 → Completes (.scrubDone [(pair, symbol)] [] rows) s (fun t => t.reg (MEM_SCRUB_SUM 1) = 1 ∧
      t.reg (MEM_SCRUB_SUM 2) = 0 ∧ t.fld MEM_SCRUB_STATUS_SKIPPED = 0 ∧ t.fld MEM_SCRUB_STATUS_BUSY = 0)) ∧
  (∀ (s : State) (value : Nat), s.flag MEM_REPAIR_STATUS_BUSY = false → Completes (.repairRow value) s (fun t =>
    t.fld MEM_REPAIR_STATUS_BUSY = 1 ∧ t.mem.repair.map (fun w => (bitsOf w 62 60, bitsOf w 59 57, bitsOf w 56 51, bitsOf w 50 45, bitsOf w 44 31)) =
      some (0, bitsOf value 59 57, bitsOf value 56 51, bitsOf value 50 45, bitsOf value 44 31))) ∧
  (∀ (s : State) (value : Nat), s.flag MEM_REPAIR_STATUS_BUSY = false → Completes (.retireRoom value) s (fun t =>
    t.fld MEM_REPAIR_STATUS_BUSY = 1 ∧ t.mem.repair.map (fun w => (bitsOf w 62 60, bitsOf w 23 0)) = some (1, value % 2 ^ 24))) ∧
  (∀ (s : State) (value : Nat), s.flag MEM_REPAIR_STATUS_BUSY = false → Completes (.retireBank value) s (fun t =>
    t.fld MEM_REPAIR_STATUS_BUSY = 1 ∧ t.mem.repair.map (fun w => (bitsOf w 62 60, bitsOf w 59 45)) = some (2, bitsOf value 59 45))) ∧
  (∀ (s : State) (value : Nat), s.flag MEM_REPAIR_STATUS_BUSY = false → Completes (.releaseRoom value) s (fun t =>
    t.fld MEM_REPAIR_STATUS_BUSY = 1 ∧ t.mem.repair.map (fun w => (bitsOf w 62 60, bitsOf w 23 0)) = some (3, value % 2 ^ 24))) ∧
  (∀ (s : State) (value : Nat), s.flag MEM_REPAIR_STATUS_BUSY = true → Completes (.repairRow value) s (fun t =>
    t.fld MEM_ERR_REPAIR_BUSY = 1 ∧ t.mem = s.mem)) ∧
  (∀ (s : State) (corrected : List (Nat × Nat)) (uncorrectable : List Nat) (room : Nat), s.mem.repair = some (2 ^ 60 + room) → 32768 ≤ room →
    room < 2 ^ 24 → s.host.flash.ledger.length < 4096 → Completes (.repairDone corrected uncorrectable) s (fun t => t.fld MEM_REPAIR_STATUS_RESULT = 0 ∧ t.fld MEM_REPAIR_STATUS_BUSY = 0 ∧ t.mem.repair = none ∧
      t.host.flash.ledger = s.host.flash.ledger ++ [2 * 2 ^ 60 + room])) ∧
  (∀ (s : State) (st pc bank row : Nat), s.mem.repair = some (st * 2 ^ 57 + pc * 2 ^ 51 + bank * 2 ^ 45 + row * 2 ^ 31) → st < 8 → pc < 64 → bank < 64 →
    row < 2 ^ 14 → s.stackLost st = false → s.remapped st pc bank row < 2 → s.sparesUsed st pc bank = [] → s.host.flash.ledger.length < 4096 →
    Completes (.repairDone [] []) s (fun t => t.fld MEM_REPAIR_STATUS_RESULT = 0 ∧ t.fld MEM_REPAIR_STATUS_BUSY = 0 ∧ t.mem.repair = none ∧
      t.remapped st pc bank row = s.remapped st pc bank row + 1 ∧
      t.host.flash.ledger = s.host.flash.ledger ++ [2 ^ 60 + st * 2 ^ 57 + pc * 2 ^ 51 + bank * 2 ^ 45 + row * 2 ^ 31])) ∧
  (∀ (s : State) (corrected : List (Nat × Nat)) (uncorrectable : List Nat) (w : Nat), s.mem.repair = some w →
    Completes (.repairDone corrected uncorrectable) s (fun t => t.mem.repair = none ∧ t.fld MEM_REPAIR_STATUS_BUSY = 0 ∧
      t.fld MEM_REPAIR_STATUS_RESULT ≤ 6))

/-- R39, R41, R42, R45, R46, R48, R49: the commands of bell time complete with their effect: exchanges and announces, sent and received, the root's start,
the holdover limit, the forced step, and messages of IEEE 1588. Stamps are in 1/65,536 tick. These are the model's choices: the destination fields of
timing frames (log entry 14), the boundary of 32 ticks at which bell time is set (15), the places of fields in messages of IEEE 1588 (16), what a
forced step does within its command (112), that a timing frame without cells is not sent (126), the SEQ of an announce (127), and that an event whose
condition does not hold has no effect (24). -/
def Obligations.BellTimeCompletes : Prop :=
  (∀ (s : State) (tA d : Nat), 4 ≤ s.phase → s.fld DV_COORD_VALID = 1 → s.isRoot = false → s.bell.parent = some d → Completes (.syncInterval tA) s
    (fun t => t.bell.seq = (s.bell.seq + 1) % 2 ^ 32 ∧ t.bell.openExch = some (tA, d) ∧ t.bell.answered = false ∧
      t.bell.missed = (if s.bell.answered then 0 else s.bell.missed + 1) ∧
      t.fld BT_STATUS_LOCK = (if s.bellSet ∧ s.fld BT_STATUS_LOCK = 1 ∧ s.bell.answered = false ∧ 3 ≤ s.bell.missed then 2
        else s.fld BT_STATUS_LOCK))) ∧
  (∀ (s : State) (dir tB tC : Nat) (f : Frame), dir < 6 → dir < s.bell.dirs.length → s.timingOk f 1 = true → s.bundlePorts dir ≠ [] →
    (s.takeAgent f).claimOk (agentOwner 11 5) 1 = true → Completes (.sync dir f tB tC) s (fun t => (t.dir dir).childAt = some s.free ∧
      Sent t (fun g => g.kind == 0x60 && g.dstCoord == s.dirCoord dir &&
        g.payload == s.timing 2 (leAt f.payload 4 4) (leAt f.payload 8 8) (tB % 2 ^ 64) (tC % 2 ^ 64)))) ∧
  (∀ (s : State) (dir tB tC : Nat) (f : Frame), dir < 6 → s.timingOk f 1 = false → Completes (.sync dir f tB tC) s (fun t =>
    t.reg BT_SYNC_DROPS = s.reg BT_SYNC_DROPS + 1 ∧ t.bell = s.bell)) ∧
  (∀ (s : State) (dir tA tD : Nat) (f : Frame), dir < 6 → dir < s.bell.dirs.length → s.timingOk f 2 = true → s.bell.openExch = some (tA, dir) →
    leAt f.payload 4 4 = s.bell.seq → leAt f.payload 8 8 = tA % 2 ^ 64 → s.isRoot = false → s.bell.parent = some dir →
    Completes (.syncReply dir f tD) s (fun t =>
      (t.dir dir).delay = (stampDiff (leAt f.payload 16 8) tA + stampDiff tD (leAt f.payload 24 8)) / 2 ∧
      (t.dir dir).offset = (stampDiff (leAt f.payload 16 8) tA - stampDiff tD (leAt f.payload 24 8)) / 2 ∧
      t.fld BT_STATUS_OFFSET_EST = ofSigned 32 ((stampDiff (leAt f.payload 16 8) tA - stampDiff tD (leAt f.payload 24 8)) / 2 / 256) ∧
      t.fld BT_STATUS_HOPS = min 255 (byteAt f.payload 1 + 1) ∧ t.bell.answered = true ∧ t.bell.openExch = none)) ∧
  (∀ (s : State) (d : Nat), s.bellSet = true → d < 6 → s.bundleUp d = true → (∀ e < d, s.bundleUp e = false) →
    s.claimOk (agentOwner 11 5) 1 = true → Completes .rootAnnounceSend s (fun t =>
      Sent t (fun g => g.kind == 0x60 && g.dstCoord == s.dirCoord d && g.payload == s.timing 3 0 s.now (s.reg BT_TAI_EPOCH).toNat 0))) ∧
  (∀ (s : State) (dir tR : Nat) (f : Frame), dir < 6 → dir < s.bell.dirs.length → s.timingOk f 3 = true → s.bellSet = true →
    s.bell.parent = some dir → s.isRoot = false → Completes (.rootAnnounce dir f tR) s (fun t =>
      (t.dir dir).hops = byteAt f.payload 1 ∧ (t.dir dir).lock = leAt f.payload 2 2 / 2048 % 4 ∧
      t.fld BT_STATUS_HOPS = min 255 (byteAt f.payload 1 + 1) ∧ t.reg BT_TAI_EPOCH = BitVec.ofNat 64 (leAt f.payload 16 8))) ∧
  (∀ (s : State) (dir tR : Nat) (f : Frame), dir < 6 → dir < s.bell.dirs.length → s.timingOk f 3 = true → s.bellSet = false → 4 ≤ s.phase →
    s.bell.parent = some dir → s.isRoot = false → leAt f.payload 2 2 / 2048 % 4 = 1 → Completes (.rootAnnounce dir f tR) s (fun t =>
      (t.dir dir).kept = some ⟨leAt f.payload 8 8, tR, 1, leAt f.payload 16 8⟩)) ∧
  (∀ (s : State) (w : Nat), s.bell.rootWaitAt = some w → s.isRoot = true → s.bellSet = false → w + 64 * s.interval ≤ s.free →
    s.bell.rootFrom = none → s.bestNeighbour = none → Completes .rootWaitEnd s (fun t =>
      t.now = 0 ∧ t.bellSet = true ∧ t.fld BT_STATUS_LOCK = 1)) ∧
  (∀ s : State, s.bellSet = true → s.fld BT_STATUS_LOCK = 2 → s.bell.holdAt + 4000000 * s.fld BT_CTRL_HOLD_LIMIT ≤ s.free →
    Completes .holdLimitExpiry s (fun t => t.fld BT_STATUS_LOCK = 3 ∧ t.now = s.now)) ∧
  (∀ (s : State) (d : Nat), s.bell.parent = some d → s.bellSet = true → s.isRoot = false → s.recent (s.dir d).exchAt = true →
    0 ≤ (s.dir d).offset → Completes .forceStep s (fun t =>
      t.now = (s.now + ((s.dir d).offset / 65536 / 32 * 32).toNat) % 2 ^ 64 ∧ t.free = s.free)) ∧
  (∀ s : State, s.bellSet = false ∨ s.bell.parent = none → Completes .forceStep s (fun t =>
    t.fld BT_TIMED_ERR_STEP_REFUSED = 1 ∧ t.bell = s.bell)) ∧
  (∀ (s : State) (port msgType taiNs : Nat) (eth : List Byte), s.portKind port = 3 → s.portUp port = true → s.inHeld port = false → s.isRoot = true →
    s.fld BT_ROOT_PTP_SOURCE = 1 → s.fld BT_ROOT_PTP_PORT = port → msgType ≠ 1 → msgType ≠ 2 → msgType ≠ 0xC → msgType ≠ 0xD → s.bell.ptpAcquired = false → s.bellSet = true →
    Completes (.ptpMessage port msgType taiNs eth) s (fun t => t.fld BT_STATUS_PTP_LOCKED = 1 ∧ t.bell.ptpAcquired = true ∧
      t.reg BT_TAI_EPOCH = BitVec.ofInt 64 ((taiNs : Int) - (s.now / 8 : Nat)))) ∧
  (∀ (s : State) (port msgType taiNs : Nat) (eth : List Byte), s.portKind port = 3 → s.portUp port = true → s.inHeld port = false → msgType = 1 ∨ msgType = 2 →
    Completes (.ptpMessage port msgType taiNs eth) s (fun t => t.out = { s.out with eth := s.out.eth ++ [(port, s.ptpAnswer eth, false)] } ∧
      (s.ptpAnswer eth).length = ptpAt eth + 58 ∧ ((s.ptpAnswer eth).drop (ptpAt eth + 34)).take 10 =
        (natLE 6 (s.ptpTime / 1000000000)).reverse ++ (natLE 4 (s.ptpTime % 1000000000)).reverse ∧
      t.freeCtr = s.freeCtr + 1 ∧ t.regs = s.regs))

/-- R47, R55, R57, R58: the choice window's bounds are taken when they lie 8,000 ticks ahead, and refused otherwise; the counts are cleared when it opens.
That an event whose condition does not hold has no effect is the model's choice (log entry 24). -/
def Obligations.ChoiceWindowCompletes : Prop :=
  (∀ (s : State) (tick : Nat), s.bellSet = true → s.now + 8000 ≤ tick → Completes (.choiceWindowWrite false tick) s (fun t =>
    t.reg BT_RUN_START = BitVec.ofNat 64 tick ∧ t.windowArmed = true ∧ t.bell = s.bell ∧ t.reg BT_RUN_END = s.reg BT_RUN_END)) ∧
  (∀ (s : State) (tick : Nat), s.bellSet = true → s.now + 8000 ≤ tick → Completes (.choiceWindowWrite true tick) s (fun t =>
    t.reg BT_RUN_END = BitVec.ofNat 64 tick ∧ t.bell = s.bell ∧ t.reg BT_RUN_START = s.reg BT_RUN_START)) ∧
  (∀ (s : State) (isEnd : Bool) (tick : Nat), s.bellSet = false ∨ tick < s.now + 8000 → Completes (.choiceWindowWrite isEnd tick) s (fun t =>
    t.fld BT_TIMED_ERR_WINDOW_REFUSED = 1 ∧ t.reg BT_RUN_START = s.reg BT_RUN_START ∧ t.reg BT_RUN_END = s.reg BT_RUN_END)) ∧
  (∀ s : State, s.windowArmed = true → s.bellSet = true → (s.reg BT_RUN_START).toNat ≤ s.now → s.fld BT_STATUS_LOCK = 1 →
    Completes .choiceWindowOpen s (fun t => t.reg BT_CHOICE = 0 ∧ t.reg BT_CHOICE_FIRST = 0 ∧ (∀ k < 8, t.reg (BT_CHOICE_KIND k) = 0) ∧
      t.windowArmed = false ∧ t.bell = s.bell)) ∧
  (∀ s : State, s.windowArmed = true → s.bellSet = true → (s.reg BT_RUN_START).toNat ≤ s.now → s.now < (s.reg BT_RUN_END).toNat →
    s.fld BT_STATUS_LOCK ≠ 1 → Completes .choiceWindowOpen s (fun t => t.fld BT_CHOICE_TOTAL = 1 ∧ t.fld BT_CHOICE_FIRST_KIND = 6 ∧
      t.reg BT_CHOICE_FIRST = BitVec.ofNat 64 s.now ∧ t.reg (BT_CHOICE_KIND 6) = 1))

/-- R68, R364, R369 to R372, R379, R384, R385, R388, R390: a port's stages, its enabling, retraining and shut-down complete with their effect. These are
the model's choices: an Ethernet port's stages (log entry 28), the causes shown where the spec names none (29, 34), what AUTO_RESTART keeps out (35),
the sources of port messages (26), the free eyes and taps (30), the muster of a trunk's crossing (139), what a failed CHECK and an identity word's
port kind lead to (178), and that a finding of no stage in progress has no effect (24). -/
def Obligations.BringUpCompletes : Prop :=
  (∀ (s : State) (p : Nat) (found : StageFinding), p < 256 → s.portKind p ≠ 0 → s.portKind p ≠ 3 → s.fld (LN_PORT_W2_STATE p) = 1 →
    s.fld (LN_PORT_W2_STAGE p) = 1 → found.openMask = 0 → found.shortMask = 0 → (s.port p).usable ≠ 0 → Completes (.portStageDone p found) s (fun t =>
      t.fld (LN_PORT_W2_STATE p) = 1 ∧ t.fld (LN_PORT_W2_STAGE p) = 2 ∧ (t.port p).usable = (s.port p).usable ∧ (t.port p).stageAt = s.free)) ∧
  (∀ (s : State) (p : Nat) (found : StageFinding), p < 256 → s.portKind p ≠ 0 → s.portKind p ≠ 3 → s.fld (LN_PORT_W2_STATE p) = 1 →
    s.fld (LN_PORT_W2_STAGE p) = 4 → found.failedMask = 0 → (s.port p).usable ≠ 0 → Completes (.portStageDone p found) s (fun t =>
      t.fld (LN_PORT_W2_STAGE p) = 5 ∧ t.freeCtr = s.freeCtr + 3 * (onesOf (s.port p).usable 16).length)) ∧
  (∀ (s : State) (p : Nat) (found : StageFinding), p < 256 → s.portKind p ≠ 0 → s.portKind p ≠ 3 → s.fld (LN_PORT_W2_STATE p) = 1 →
    s.fld (LN_PORT_W2_STAGE p) = 5 → found.failedMask = 0 → (s.port p).usable ≠ 0 → Completes (.portStageDone p found) s (fun t =>
      t.fld (LN_PORT_W2_STAGE p) = 6 ∧ t.out = { s.out with ctrl := s.out.ctrl ++ [(p, (CtrlBlock.lane 0 (s.port p).usable 0 0).bytes)] })) ∧
  (∀ (s : State) (p m : Nat) (found : StageFinding), p < 256 → s.portKind p ≠ 0 → s.portKind p ≠ 3 → s.fld (LN_PORT_W2_STATE p) = 1 →
    s.fld (LN_PORT_W2_STAGE p) = 6 → (s.port p).partner = some m → s.widthOk p ((s.port p).usable &&& m) = true → Completes (.portStageDone p found) s
    (fun t => t.fld (LN_PORT_W2_STAGE p) = 7 ∧ t.fld (LN_PORT_W2_WIDTH p) = (onesOf ((s.port p).usable &&& m) 16).length.log2 ∧
      t.activeLanes p = activeOf ((s.port p).usable &&& m))) ∧
  (∀ (s : State) (p : Nat) (found : StageFinding), p < 256 → s.portKind p = 1 → s.fld (LN_PORT_W2_STATE p) = 1 → s.fld (LN_PORT_W2_STAGE p) = 7 →
    found.failedMask = 0 → (s.port p).checkBad = false → Completes (.portStageDone p found) s (fun t =>
      t.portUp p = true ∧ t.fld (LN_PORT_W2_STAGE p) = 0 ∧ t.port p = { s.port p with musterAt := none, musterFails := 0 })) ∧
  (∀ (s : State) (p b : Nat) (found : StageFinding), s.bundleOf p = some b → s.flag DV_COORD_OPEN_MODE = false → s.fld (LN_PORT_W2_STATE p) = 1 →
    s.fld (LN_PORT_W2_STAGE p) = 7 → found.failedMask = 0 → (s.port p).checkBad = false → Completes (.portStageDone p found) s (fun t =>
      t.fld (LN_PORT_W2_STATE p) = 1 ∧ t.fld (LN_PORT_W2_STAGE p) = 8 ∧ t.port p = { s.port p with stageAt := s.free })) ∧
  (∀ (s : State) (p b : Nat) (found : StageFinding), s.bundleOf p = some b → s.flag DV_COORD_OPEN_MODE = false → s.fld (LN_PORT_W2_STATE p) = 1 →
    s.fld (LN_PORT_W2_STAGE p) = 8 → found.identityOk = true → Completes (.portStageDone p found) s (fun t =>
      t.portUp p = true ∧ t.fld (LN_PORT_W2_STAGE p) = 0 ∧ (t.port p).musterAt = some s.free)) ∧
  (∀ (s : State) (p b : Nat) (found : StageFinding), s.bundleOf p = some b → s.fld (LN_PORT_W2_STATE p) = 1 → s.fld (LN_PORT_W2_STAGE p) = 8 →
    found.identityOk = false → s.severity (0x200 + p) 0x13 < 4 → Completes (.portStageDone p found) s (fun t =>
      t.fld (LN_PORT_W2_STATE p) = 6 ∧ b ∈ t.sw.miscabled ∧ Told s t (0x200 + p) 0x13 p)) ∧
  (∀ (s : State) (p : Nat) (found : StageFinding), p < 256 → s.portKind p = 3 → s.fld (LN_PORT_W2_STATE p) = 1 → s.fld (LN_PORT_W2_STAGE p) = 5 →
    found.openMask = 0 → found.shortMask = 0 → found.failedMask = 0 → Completes (.portStageDone p found) s (fun t =>
      t.portUp p = true ∧ t.fld (LN_PORT_W2_STAGE p) = 0)) ∧
  (∀ (s : State) (p : Nat) (found : StageFinding), p < 256 → s.portKind p ≠ 0 → s.portKind p ≠ 3 → s.fld (LN_PORT_W2_STATE p) = 1 →
    s.fld (LN_PORT_W2_STAGE p) = 6 → (s.port p).stageAt + 8000000 ≤ s.free → s.severity (0x200 + p) 0x36 < 4 →
    Completes (.portStageTimeout p found) s (fun t => t.fld (LN_PORT_W2_STATE p) = 4 ∧ t.fld (LN_PORT_W2_CAUSE p) = 4 ∧
      t.fld (LN_PORT_W2_STAGE p) = 0 ∧ Told s t (0x200 + p) 0x36 (p + 256 * s.laneNo p 0))) ∧
  (∀ (s : State) (p : Nat), p < 256 → s.fld (LN_PORT_W2_STATE p) = 4 → s.fld (LN_PORT_W1_ENABLE p) = 1 → s.linksOn = true →
    (s.port p).stageAt + 8000000000 ≤ s.free → s.regBit LN_STATUS (s.tileOf p) = false → s.axisShut p = false →
    Completes (.detectRetry p true) s (fun t => t.fld (LN_PORT_W2_STATE p) = 1 ∧ t.fld (LN_PORT_W2_STAGE p) = 1 ∧ (t.port p).tries = 0)) ∧
  (∀ (s : State) (p mask : Nat), p < 256 → s.fld (LN_PORT_W2_STATE p) = 1 → s.fld (LN_PORT_W2_STAGE p) = 6 → Completes (.laneForm p mask) s (fun t =>
    t.port p = { s.port p with partner := some (s.partnerMask p mask) } ∧ t.regs = s.regs)) ∧
  (∀ (s : State) (tile : Nat), tile < 4 → Completes (.tileFail tile) s (fun t => t.regBit LN_STATUS tile = true ∧
    t.regBit DV_STATE (24 + tile) = false ∧ (∀ p < 256, s.portKind p ≠ 0 → s.tileOf p = tile → t.portUp p = false) ∧
    Told s t (0x180 + tile) 0x37 (256 * (128 * tile)))) ∧
  (∀ (s : State) (p : Nat), p < 256 → s.portUp p = true → s.portKind p ≠ 0 → s.linksOn = true → Completes (.shutDown p) s (fun t =>
    t.fld (LN_PORT_W1_ENABLE p) = 0 ∧ t.fld (LN_PORT_W2_STATE p) = 3 ∧ t.fld (LN_PORT_W2_EN_PEND p) = 0 ∧ (t.port p).shutAt = some s.free)) ∧
  (∀ (s : State) (p : Nat), p < 256 → s.portKind p ≠ 0 → s.portKind p ≠ 3 → s.fld (LN_PORT_W2_STATE p) = 3 → s.fld (LN_PORT_W2_EN_PEND p) = 0 →
    (s.port p).shutAt.isSome = true → s.shutReady p = true → Completes (.shutdownDone p) s (fun t => t.fld (LN_PORT_W2_STATE p) = 0 ∧
      (t.port p).shutAt = none ∧ (t.port p).store = [] ∧ (p, (CtrlBlock.lane 4 0 0 0).bytes) ∈ t.out.ctrl)) ∧
  (∀ (s : State) (p : Nat), p < 256 → s.portKind p ≠ 0 → s.fld (LN_PORT_W2_STATE p) = 0 → s.linksOn = true →
    s.regBit LN_STATUS (s.tileOf p) = false → s.axisShut p = false → Completes (.enable p) s (fun t =>
      t.fld (LN_PORT_W1_ENABLE p) = 1 ∧ t.fld (LN_PORT_W2_STATE p) = 1 ∧ t.fld (LN_PORT_W2_STAGE p) = 1)) ∧
  (∀ (s : State) (p : Nat), p < 256 → s.portUp p = true → s.portKind p ≠ 0 → s.fld (LN_PORT_W2_EN_PEND p) = 0 → s.linksOn = true →
    Completes (.retrain p) s (fun t => t.fld (LN_PORT_W1_ENABLE p) = 1 ∧ t.fld (LN_PORT_W2_STATE p) = 3 ∧ t.fld (LN_PORT_W2_EN_PEND p) = 1))

/-- R368, R373 to R378, R384, R386: credits and acknowledgements, uncorrectable codewords, replays, the error windows of lanes, narrowing and a partner's
shut-down complete with their effect. How frames lie in numbered codewords is the model's choice (log entry 6), and so is that a partner's LANE DOWN
leaves the port out with CAUSE 1 and no message (27). So are the time and the second sending of a replay (33), the sources of its messages (26) and
that an event whose condition does not hold has no effect (24). -/
def Obligations.LinkCompletes : Prop :=
  (∀ (s : State) (p detour ack : Nat) (credits : List Nat), p < 256 → s.portKind p ≠ 3 → s.portUp p = true → credits.length = 12 →
    Completes (.status p credits detour ack) s (fun t => ∀ i < 12, sparseGet 0 t.sw.txCredit (16 * p + i) =
      sparseGet 0 s.sw.txCredit (16 * p + i) + cumAdds (credits.getD i 0) (sparseGet 0 s.sw.txCum (16 * p + i)))) ∧
  (∀ (s : State) (p detour ack : Nat) (credits : List Nat), p < 256 → s.portKind p ≠ 3 → s.portUp p = true →
    0 < (ack % 4096 + 4096 - (s.port p).oldest) % 4096 → (ack % 4096 + 4096 - (s.port p).oldest) % 4096 < 2048 →
    (ack % 4096 + 4096 - (s.port p).oldest) % 4096 ≤ min (s.port p).stored (s.storeCap p) →
    Completes (.status p credits detour ack) s (fun t => (t.port p).ackAt = s.free ∧ (t.port p).store = (s.port p).store.filter (fun e =>
      decide ((ack % 4096 + 4096 - (s.port p).oldest) % 4096 < (e.1 + 4096 - (s.port p).oldest) % 4096 + e.2.1)))) ∧
  (∀ (s : State) (p : Nat), p < 256 → s.portUp p = true → s.portKind p ∈ [1, 2, 4] → Completes (.codewordUncorrectable p false) s (fun t =>
    t.reg (LN_PORT_W6 p) = s.reg (LN_PORT_W6 p) + 1 ∧ t.lanes = s.lanes ∧ t.sw = s.sw)) ∧
  (∀ (s : State) (p : Nat), p < 256 → s.portUp p = true → s.portKind p ∈ [1, 2, 4] → (s.port p).waiting = false → (s.port p).asked = none →
    1 < s.fld LN_CTRL_RETRY_MAX → Completes (.codewordUncorrectable p true) s (fun t => t.reg (LN_PORT_W6 p) = s.reg (LN_PORT_W6 p) + 1 ∧
      t.reg (LN_PORT_W5 p) = s.reg (LN_PORT_W5 p) + 1 ∧ (t.port p).waiting = true ∧ (t.port p).rxSeq = (s.resumePoint p).1 ∧
      (t.port p).asked = some ((s.resumePoint p).1, (s.resumePoint p).2, s.free, 1) ∧
      (p, (CtrlBlock.replayReq (s.resumePoint p).1 (s.resumePoint p).2).bytes) ∈ t.out.ctrl)) ∧
  (∀ (s : State) (p seq slot : Nat), p < 256 → s.portUp p = true → s.portKind p ≠ 3 → slot < 10 → s.replayingAt p (seq % 4096) = false →
    (s.port p).narrowing = none → (s.port p).holds seq = true → Completes (.replayReq p seq slot) s (fun t =>
      t.reg (LN_PORT_W4 p) = s.reg (LN_PORT_W4 p) + 1 ∧ (p, (CtrlBlock.replayStart (seq % 4096)).bytes) ∈ t.out.ctrl ∧
      (t.port p).replaying.map (·.1) = some (seq % 4096) ∧ (t.port p).store = (s.port p).store)) ∧
  (∀ (s : State) (p seq slot : Nat), p < 256 → s.portUp p = true → s.portKind p ≠ 3 → slot < 10 → s.replayingAt p (seq % 4096) = false →
    (s.port p).narrowing.isSome = true → Completes (.replayReq p seq slot) s (fun t =>
      t.port p = { s.port p with heldReq := some (seq % 4096) } ∧ t.out = s.out)) ∧
  (∀ (s : State) (p seq l at_ n : Nat), p < 256 → (s.port p).waiting = true → (s.port p).asked = some (seq % 4096, l, at_, n) →
    Completes (.replayStart p seq) s (fun t => t.regs = s.regs ∧
      t.port p = { s.port p with waiting := false, rxSeq := seq % 4096, rxSlot := l, rxHere := true })) ∧
  (∀ (s : State) (p q l at_ n : Nat), p < 256 → s.portUp p = true → (s.port p).waiting = true → (s.port p).asked = some (q, l, at_, n) →
    at_ + 800 * s.fld LN_CTRL_ACK_WAIT ≤ s.free → n + 1 < s.fld LN_CTRL_RETRY_MAX → Completes (.replayReqRepeat p) s (fun t =>
      (t.port p).asked = some (q, l, s.free, n + 1) ∧ t.reg (LN_PORT_W5 p) = s.reg (LN_PORT_W5 p) + 1 ∧
      t.out = { s.out with ctrl := s.out.ctrl ++ [(p, (CtrlBlock.replayReq q l).bytes)] })) ∧
  (∀ (s : State) (p : Nat), p < 256 → s.portUp p = true ∨ s.fld (LN_PORT_W2_STATE p) = 3 → (s.port p).store ≠ [] → (s.port p).ackAt + 800 * s.fld LN_CTRL_ACK_WAIT ≤ s.free →
    Completes (.ackWaitExpiry p) s (fun t => t.reg (LN_PORT_W4 p) = s.reg (LN_PORT_W4 p) + 1 ∧ (p, (CtrlBlock.replayStart (s.port p).oldest).bytes) ∈ t.out.ctrl ∧
      (t.port p).ackAt = s.free)) ∧
  (∀ (s : State) (p : Nat) (corrected : List Nat), p < 256 → s.portUp p = true → s.portKind p ≠ 0 →
    (∀ k ∈ s.activeLanes p, corrected.getD k 0 ≤ 16 * s.fld LN_CTRL_SER_LIMIT) → Completes (.serWindowEnd p corrected) s (fun t =>
      (t.port p).symbols = corrected ∧ t.freeCtr = s.freeCtr + 2 * (s.activeLanes p).length ∧
      ∀ k ∈ s.activeLanes p, t.reg (LN_LANE_W4 (s.laneNo p k)) = s.reg (LN_LANE_W4 (s.laneNo p k)) + BitVec.ofNat 64 (corrected.getD k 0))) ∧
  (∀ (s : State) (p k : Nat), p < 256 → s.portUp p = true → s.fld (LN_PORT_W2_RX_STATE p) = 0 → k ∈ s.activeLanes p →
    Completes (.laneSignalLoss p k) s (fun t => (t.port p).usable.testBit k = false ∧ Told s t (0x200 + p) 0x33 (p + 256 * s.laneNo p k))) ∧
  (∀ (s : State) (p mask : Nat), p < 256 → s.portUp p = true → s.portKind p ≠ 3 → s.flag (LN_PORT_W2_V1 p) = false → (s.port p).narrowing = none → s.atRest p = false →
    s.widthOk p ((s.port p).usable &&& ((s.port p).partner.getD (s.fullMask p) &&& s.partnerMask p mask)) = true → Completes (.laneNarrow p mask) s (fun t =>
      (t.port p).partner = some ((s.port p).partner.getD (s.fullMask p) &&& s.partnerMask p mask) ∧ (t.port p).narrowing = some s.free ∧
      t.activeLanes p = activeOf ((s.port p).usable &&& ((s.port p).partner.getD (s.fullMask p) &&& s.partnerMask p mask)) ∧ t.out = s.out)) ∧
  (∀ (s : State) (p : Nat), p < 256 → (s.port p).narrowing.isSome = true → (s.port p).heldReq = none → Completes (.narrowDone p) s (fun t =>
    (t.port p).narrowing = none ∧ t.fld (LN_PORT_W7_NARROWINGS p) = (s.fld (LN_PORT_W7_NARROWINGS p) + 1) % 2 ^ 32 ∧
    Told s t (0x200 + p) 0x34 (p + 256 * s.laneNo p 0))) ∧
  (∀ (s : State) (p : Nat), p < 256 → s.portUp p = true → s.portKind p ≠ 3 → Completes (.laneDown p) s (fun t =>
    t.fld (LN_PORT_W2_STATE p) = 4 ∧ t.fld (LN_PORT_W2_CAUSE p) = 1 ∧ t.fld (LN_PORT_W2_ACTIVE p) = 0 ∧ (t.port p).store = []))

/-- R380 to R383: quiet and sleep: requests, entries, wakes and the wake tick complete with their effect, on version 2 endpoint and trunk ports; on others
a request is refused with its bit. What wakes a direction of its own is judged with the partner's replay store taken to be as large as this end's,
which is the model's choice (log entry 176); so is the wake time of a WAKE_TICK (32). So are the tick of a LANE POWER notice, kept beside the port
(31), and that an event whose condition does not hold has no effect (24). -/
def Obligations.PowerStatesComplete : Prop :=
  (∀ (s : State) (p : Nat), p < 256 → s.canRest p = true → Completes (.quietRequest p) s (fun t => t.fld (LN_PORT_W1_TX_REQ p) = 1 ∧ t.lanes = s.lanes)) ∧
  (∀ (s : State) (p : Nat), p < 256 → s.canRest p = true → s.carriesTiming p = false → Completes (.sleepRequest p) s (fun t =>
    t.fld (LN_PORT_W1_TX_REQ p) = 2 ∧ t.lanes = s.lanes)) ∧
  (∀ (s : State) (p : Nat), p < 256 → s.canRest p = true → s.carriesTiming p = true → Completes (.sleepRequest p) s (fun t =>
    t.fld LN_ERR_SLEEP_REFUSED = 1 ∧ t.fld LN_ERR_PORT = p ∧ t.reg (LN_PORT_W1 p) = s.reg (LN_PORT_W1 p))) ∧
  (∀ (s : State) (p : Nat), p < 256 → s.portKind p ≠ 0 → s.canRest p = false → Completes (.quietRequest p) s (fun t =>
    t.fld LN_ERR_REQ_REFUSED = 1 ∧ t.fld LN_ERR_PORT = p ∧ t.reg (LN_PORT_W1 p) = s.reg (LN_PORT_W1 p))) ∧
  (∀ (s : State) (p : Nat), p < 256 → s.portKind p ≠ 0 → s.fld (LN_PORT_W2_TX_STATE p) ≠ 0 → (s.port p).txWaking = none →
    Completes (.activeRequest p) s (fun t => t.fld (LN_PORT_W1_TX_REQ p) = 0 ∧ (t.port p).txWaking = some s.free)) ∧
  (∀ (s : State) (p : Nat), p < 256 → s.portUp p = true → s.canRest p = true → s.fld (LN_PORT_W1_TX_REQ p) = 1 ∨ s.fld (LN_PORT_W1_TX_REQ p) = 2 →
    s.fld (LN_PORT_W2_TX_STATE p) = 0 → s.phase ≠ 6 → (s.port p).store = [] → (s.port p).narrowing = none → (s.port p).narrowDue = none → (s.port p).wokeAt = none →
    (∀ x ∈ s.sw.copies, x.out ≠ p) → Completes (.powerStateEntry p) s (fun t =>
      t.fld (LN_PORT_W2_TX_STATE p) = s.fld (LN_PORT_W1_TX_REQ p) ∧ t.out = { s.out with ctrl := s.out.ctrl ++ [(p, (s.statusBlock p).bytes),
        (p, (CtrlBlock.lane 2 (s.port p).usable (s.fld (LN_PORT_W1_TX_REQ p))
          (if s.bellSet = true ∧ s.now < (s.reg (LN_PORT_W3 p)).toNat then (s.reg (LN_PORT_W3 p)).toNat else 0)).bytes)] })) ∧
  (∀ (s : State) (p : Nat), p < 256 → s.portUp p = true → s.wakeWanted p = true → s.fld (LN_PORT_W2_TX_STATE p) ≠ 0 → (s.port p).txWaking = none →
    Completes (.wakeTrigger p) s (fun t => (t.port p).txWaking = some s.free ∧ t.regs = s.regs)) ∧
  (∀ (s : State) (p : Nat), p < 256 → s.portUp p = true → s.wakeWanted p = true → s.fld (LN_PORT_W2_TX_STATE p) = 0 → s.fld (LN_PORT_W2_RX_STATE p) ≠ 0 →
    Completes (.wakeTrigger p) s (fun t => t.out = { s.out with ctrl := s.out.ctrl ++ [(p, (CtrlBlock.lane 3 (s.port p).usable 0 0).bytes)] })) ∧
  (∀ (s : State) (p state tick : Nat), p < 256 → s.portUp p = true → s.portKind p ∈ [1, 2, 4] → s.flag (LN_PORT_W2_V1 p) = false →
    state ≤ 2 → Completes (.lanePower p state tick) s (fun t => t.fld (LN_PORT_W2_RX_STATE p) = state ∧
      t.port p = { s.port p with rxTick := if s.bellSet = true ∧ s.now < tick then tick else 0 })) ∧
  (∀ (s : State) (p : Nat), p < 256 → s.portUp p = true → s.fld (LN_PORT_W2_TX_STATE p) ≠ 0 → (s.port p).txWaking = none →
    Completes (.laneWake p) s (fun t => (t.port p).txWaking = some s.free ∧ t.regs = s.regs)) ∧
  (∀ (s : State) (p tick : Nat), p < 256 → s.portKind p ≠ 0 → s.bellSet = true → tick < 2 ^ 64 →
    s.now + wakeTicks (max (s.fld (LN_PORT_W2_TX_STATE p)) (s.fld (LN_PORT_W1_TX_REQ p))) + 8000 ≤ tick →
    Completes (.wakeTickWrite p tick) s (fun t => (t.reg (LN_PORT_W3 p)).toNat = tick ∧ t.lanes = s.lanes)) ∧
  (∀ (s : State) (p tick : Nat), p < 256 → s.portKind p ≠ 0 → tick ≠ 0 →
    s.bellSet = false ∨ tick < s.now + wakeTicks (max (s.fld (LN_PORT_W2_TX_STATE p)) (s.fld (LN_PORT_W1_TX_REQ p))) + 8000 →
    Completes (.wakeTickWrite p tick) s (fun t => t.reg (LN_PORT_W3 p) = s.reg (LN_PORT_W3 p) ∧ t.fld LN_ERR_WAKE_REFUSED = 1 ∧
      t.fld LN_ERR_PORT = p)) ∧
  (∀ (s : State) (p : Nat), p < 256 → s.portUp p = true → (s.reg (LN_PORT_W3 p)).toNat ≠ 0 → s.fld (LN_PORT_W2_TX_STATE p) ≠ 0 → s.bellSet = true →
    (s.reg (LN_PORT_W3 p)).toNat ≤ s.now + wakeTicks (s.fld (LN_PORT_W2_TX_STATE p)) → s.now ≤ (s.reg (LN_PORT_W3 p)).toNat →
    s.skippedTick (s.reg (LN_PORT_W3 p)).toNat = false → (s.port p).txWaking = none → Completes (.wakeTickReached p) s (fun t => (t.port p).txWaking = some s.free ∧ t.regs = s.regs)) ∧
  (∀ (s : State) (p : Nat) (w : Nat), p < 256 → s.portUp p = true → (s.port p).narrowDue = none → (s.port p).txWaking = some w →
    w + wakeTicks (s.fld (LN_PORT_W2_TX_STATE p)) ≤ s.free → Completes (.wakeDone p false) s (fun t => t.fld (LN_PORT_W2_TX_STATE p) = 0 ∧
      (t.port p).txWaking = none ∧ (t.port p).wokeAt = some s.free ∧ t.fld (LN_PORT_W7_WAKES p) = (s.fld (LN_PORT_W7_WAKES p) + 1) % 2 ^ 32)) ∧
  (∀ (s : State) (p : Nat), p < 256 → s.portUp p = true → (s.port p).narrowDue = none → s.fld (LN_PORT_W2_RX_STATE p) ≠ 0 → Completes (.wakeDone p true) s (fun t =>
    t.fld (LN_PORT_W2_RX_STATE p) = 0 ∧ (t.port p).rxTick = 0 ∧
    t.port p = { s.port p with rxTick := 0 }))

/-- R76, R93, R123, R127, R130, R139, R156, R473: writes of the checked entries of the tables complete: the entry takes the value with the effect the spec
gives its write, and a write that breaks a rule is discarded with its bit. That the stage of sacrifice is evaluated once the banks are threaded is the
model's choice (log entry 161). -/
def Obligations.EntryWritesComplete : Prop :=
  (∀ (s : State) (n value : Nat), n < 32768 → (∀ p < 4096, s.flag (SW_PARTY_VALID p) = false ∨ n < s.fld (SW_PARTY_BASE p) ∨
      s.fld (SW_PARTY_BASE p) + s.fld (SW_PARTY_GROUPS p) ≤ n ∨ bitsOf value 7 0 + 2 ^ s.fld (SW_PARTY_GROUP_SHIFT p) ≤ 64) →
    Completes (.rankEntryWrite n value) s (fun t => t.fld (SW_RANK_VALID n) = bitsOf value 63 63 ∧ t.fld (SW_RANK_FENCED n) = bitsOf value 62 62 ∧
      t.fld (SW_RANK_COORD n) = bitsOf value 18 8 ∧ t.fld (SW_RANK_FIRST_PORT n) = bitsOf value 7 0)) ∧
  (∀ (s : State) (n value p : Nat), n < 32768 → p < 4096 → s.flag (SW_PARTY_VALID p) = true → s.fld (SW_PARTY_BASE p) ≤ n →
    n < s.fld (SW_PARTY_BASE p) + s.fld (SW_PARTY_GROUPS p) → 64 < bitsOf value 7 0 + 2 ^ s.fld (SW_PARTY_GROUP_SHIFT p) →
    Completes (.rankEntryWrite n value) s (fun t => t.fld SW_TABLE_ERR_RANK_RANGE = 1 ∧ t.reg (SW_RANK n) = s.reg (SW_RANK n))) ∧
  (∀ (s : State) (p value : Nat), p < 4096 → bitsOf value 41 27 + bitsOf value 57 42 ≤ 32768 → bitsOf value 62 61 ≤ 1 → bitsOf value 60 58 ≤ 6 →
    1 ≤ bitsOf value 57 42 → Completes (.partyEntryWrite p value) s (fun t => t.fld (SW_PARTY_VALID p) = bitsOf value 63 63 ∧
      t.fld (SW_PARTY_BASE p) = bitsOf value 41 27 ∧ t.fld (SW_PARTY_GROUPS p) = bitsOf value 57 42 ∧
      t.fld (SW_PARTY_GROUP_SHIFT p) = bitsOf value 60 58 ∧ t.fld (SW_PARTY_SPRAY p) = bitsOf value 62 61)) ∧
  (∀ (s : State) (n value : Nat), n < 65536 → s.flag (SW_STREAM_HELD n) = false → Completes (.streamEntryWrite n value) s (fun t =>
    t.fld (SW_STREAM_VALID n) = bitsOf value 63 63 ∧ t.fld (SW_STREAM_PARTY n) = bitsOf value 60 49 ∧
    t.fld (SW_STREAM_SRC_RANK n) = bitsOf value 48 32 ∧ t.fld (SW_STREAM_BROKEN n) = 0 ∧ t.fld (SW_STREAM_HELD n) = 0 ∧
    t.fld (SW_STREAM_COUNT0 n) = 0 ∧ t.fld (SW_STREAM_COUNT1 n) = 0)) ∧
  (∀ (s : State) (n value : Nat), n < 65536 → s.flag (SW_STREAM_HELD n) = true → Completes (.streamEntryWrite n value) s (fun t =>
    t.fld SW_TABLE_ERR_STREAM_BUSY = 1 ∧ t.reg (SW_STREAM n) = s.reg (SW_STREAM n))) ∧
  (∀ (s : State) (n value : Nat), n < 4096 → n % 16 < 12 → value % 2 ^ 20 = 0 ∨ 17 ≤ value % 2 ^ 20 → value % 2 ^ 20 < 524288 →
    s.sw.resvSum - s.ownerMin n + value % 2 ^ 20 ≤ 524288 → s.sw.agentWait = [] → (∀ c ∈ s.sw.copies, c.out < 256) →
    Completes (.ownerMinWrite n value) s (fun t => t.ownerMin n = value % 2 ^ 20 ∧
      t.sw = { s.sw with resvSum := s.sw.resvSum - s.ownerMin n + value % 2 ^ 20, sharedFree := s.sw.sharedFree +
        (max (s.ownerMin n) (s.ownerClaimed n) : Nat) - (max (value % 2 ^ 20) (s.ownerClaimed n) : Nat) } ∧
      t.fld SW_POOL_STATUS_RESV_SUM = s.sw.resvSum - s.ownerMin n + value % 2 ^ 20 ∧
      t.fld SW_POOL_STATUS_SHARED_FREE = t.sw.sharedFree.toNat % 2 ^ 20)) ∧
  (∀ (s : State) (n value : Nat), n < 4096 → n % 16 < 12 → 17 ≤ value % 2 ^ 20 → value % 2 ^ 20 < 524288 →
    524288 < s.sw.resvSum - s.ownerMin n + value % 2 ^ 20 → Completes (.ownerMinWrite n value) s (fun t =>
    t.fld SW_POOL_ERR_MIN_SUM = 1 ∧ t.reg (SW_OWNER n) = s.reg (SW_OWNER n) ∧ t.sw = s.sw)) ∧
  (∀ (s : State) (value : Nat), bitsOf value 55 42 < bitsOf value 41 28 → bitsOf value 41 28 < bitsOf value 27 14 →
    bitsOf value 27 14 < bitsOf value 13 0 → Completes (.sacrificeThresholdWrite value) s (fun t => t.fld SW_SACRIFICE_T1 = bitsOf value 13 0 ∧
      t.fld SW_SACRIFICE_T2 = bitsOf value 27 14 ∧ t.fld SW_SACRIFICE_T3 = bitsOf value 41 28 ∧ t.fld SW_SACRIFICE_T4 = bitsOf value 55 42)) ∧
  (∀ (s : State) (value : Nat), ¬(bitsOf value 55 42 < bitsOf value 41 28 ∧ bitsOf value 41 28 < bitsOf value 27 14 ∧
    bitsOf value 27 14 < bitsOf value 13 0) → Completes (.sacrificeThresholdWrite value) s (fun t =>
      t.fld SW_POOL_ERR_ORDER = 1 ∧ t.reg SW_SACRIFICE = s.reg SW_SACRIFICE)) ∧
  (∀ (s : State) (p value : Nat), p < 4096 → s.fld TL_STATUS_RESV_SUM - s.tpMin p + value % 2 ^ 20 ≤ 6144 → Completes (.tallyPoolMinWrite p value) s
    (fun t => t.tpMin p = value % 2 ^ 20 ∧ t.fld TL_STATUS_RESV_SUM = s.fld TL_STATUS_RESV_SUM - s.tpMin p + value % 2 ^ 20 ∧
      t.tally = { s.tally with sharedFree := s.tally.sharedFree + (max (s.tpMin p) (s.tpClaimed p) : Nat) -
        (max (value % 2 ^ 20) (s.tpClaimed p) : Nat) })) ∧
  (∀ (s : State) (p value : Nat), p < 4096 → value % 2 ^ 20 ≤ 6144 → 6144 < s.fld TL_STATUS_RESV_SUM - s.tpMin p + value % 2 ^ 20 → Completes (.tallyPoolMinWrite p value) s
    (fun t => t.fld TL_ERR_MIN_SUM = 1 ∧ t.reg (TL_POOL p) = s.reg (TL_POOL p) ∧ t.tally = s.tally)) ∧
  (∀ (s : State) (v value : Nat) (w0 : Word), v < 4096 → sparseGet (s.reg (SW_VLAN_W0 v)) s.sw.held0 (SW_VLAN_W0 v) = w0 →
    Completes (.twoWordEntryWrite (SW_VLAN_W1 v) value) s (fun t => t.reg (SW_VLAN_W0 v) = w0 ∧ t.fld (SW_VLAN_W1_VALID v) = bitsOf value 63 63 ∧
      t.fld (SW_VLAN_W1_FLOOD v) = bitsOf value 16 16 ∧ t.fld (SW_VLAN_W1_ETH_MEMBERS v) = bitsOf value 15 0 ∧
      t.sw = { s.sw with held0 := sparseErase s.sw.held0 (SW_VLAN_W0 v) })) ∧
  (∀ (s : State) (m value : Nat) (w0 : Word), m < 512 → sparseGet (s.reg (SW_POL_W0 m)) s.sw.held0 (SW_POL_W0 m) = w0 →
    s.flag (SW_POL_W0_ENABLE m) = false → w0.toNat.testBit 63 = true → 4132 ≤ bitsOf w0.toNat 35 16 →
    4132 ≤ bitsOf value 35 16 → Completes (.twoWordEntryWrite (SW_POL_W1 m) value) s (fun t =>
      t.fld (SW_POL_W0_ENABLE m) = 1 ∧ t.fld (SW_POL_W0_CIR m) = bitsOf w0.toNat 15 0 ∧ t.fld (SW_POL_W1_PIR m) = bitsOf value 15 0 ∧
      sparseGet default t.sw.policers m = ⟨640 * bitsOf w0.toNat 35 16, 640 * bitsOf value 35 16, s.free⟩))

/-- R134 to R137, R144, R148, R152, R196, R234, R476: accesses to the tables start and end, and curfew lists are armed, cancelled, brought into force and
advanced. These are the model's choices: that an access acts when it ends (log entry 22), that one started while another runs is discarded whole (50),
how LIMIT of a tally is shown (123), which fields of a curfew word hold a reserved value back (138), what SWITCH_TICK reads after a refused arming
(172), when a switchover is late (71), and that an event whose condition does not hold has no effect (24). -/
def Obligations.WindowsAndCurfewsComplete : Prop :=
  (∀ (s : State) (value : Nat), s.flag SW_TBL_STATUS_DONE = true → bitsOf value 63 60 = 0 → bitsOf value 13 0 ≤ 1024 → value < 2 ^ 64 →
    Completes (.swTableRead value) s (fun t => t.fld SW_TBL_STATUS_DONE = 0 ∧ t.fld SW_TBL_CTRL_WRITE = 0 ∧
      t.sw = { s.sw with access := s.sw.access ++ [⟨0, putBitOf value 59 false⟩] })) ∧
  (∀ (s : State) (value : Nat), s.flag SW_TBL_STATUS_DONE = true → bitsOf value 63 60 = 1 → value < 2 ^ 64 → Completes (.swTableWrite value) s (fun t =>
    t.fld SW_TBL_STATUS_DONE = 0 ∧ t.fld SW_TBL_CTRL_WRITE = 1 ∧ t.fld SW_TBL_CTRL_INDEX = bitsOf value 13 0 ∧
    t.sw = { s.sw with access := s.sw.access ++ [⟨0, putBitOf value 59 true⟩] })) ∧
  (∀ (s : State) (value : Nat), s.flag TL_TBL_STATUS_DONE = true → bitsOf value 12 0 ≤ 6143 → Completes (.tlTableRead value) s (fun t =>
    t.fld TL_TBL_STATUS_DONE = 0 ∧ t.fld TL_TBL_CTRL_INDEX = bitsOf value 12 0 ∧ t.sw = { s.sw with access := s.sw.access ++ [⟨1, value⟩] })) ∧
  (∀ (s : State) (value : Nat), s.flag ST_TBL_STATUS_DONE = true → Completes (.stTableRead value) s (fun t =>
    t.fld ST_TBL_STATUS_DONE = 0 ∧ t.fld ST_TBL_CTRL_INDEX = bitsOf value 17 0 ∧ t.sw = { s.sw with access := s.sw.access ++ [⟨2, value⟩] })) ∧
  (∀ (s : State) (ctrl : Nat) (rest : List TableAccess), s.sw.access = ⟨0, ctrl⟩ :: rest → bitsOf ctrl 63 60 = 0 → ctrl.testBit 59 = false →
    Completes (.tableAccessDone 0) s (fun t => t.fld SW_TBL_STATUS_DONE = 1 ∧ t.sw = { s.sw with access := rest } ∧
      t.reg (SW_TBL_DATA 0) = sparseGet 0 s.sw.curfew (curfewKey (bitsOf ctrl 47 40) (bitsOf ctrl 36 36) (bitsOf ctrl 13 0)))) ∧
  (∀ (s : State) (ctrl : Nat) (rest : List TableAccess), s.sw.access = ⟨0, ctrl⟩ :: rest → bitsOf ctrl 63 60 = 0 → ctrl.testBit 59 = true →
    bitsOf ctrl 36 36 = s.fld (SW_CURFEW_CTL_ACTIVE_BANK (bitsOf ctrl 47 40)) → s.flag (SW_CURFEW_CTL_IN_FORCE (bitsOf ctrl 47 40)) = true →
    Completes (.tableAccessDone 0) s (fun t => t.fld SW_TBL_STATUS_DONE = 1 ∧ t.fld SW_CURFEW_ERR_BUSY = 1 ∧
      t.fld SW_CURFEW_ERR_PORT = bitsOf ctrl 47 40 ∧ t.sw.curfew = s.sw.curfew)) ∧
  (∀ (s : State) (ctrl : Nat) (rest : List TableAccess), s.sw.access = ⟨0, ctrl⟩ :: rest → bitsOf ctrl 63 60 = 1 → ctrl.testBit 59 = true →
    Completes (.tableAccessDone 0) s (fun t => t.fld SW_TBL_STATUS_DONE = 1 ∧
      sparseGet 0 t.sw.mac (2 * bitsOf ctrl 13 0) = s.reg (SW_TBL_DATA 0) &&& 0x8FFFFFFFFFFFFFFF ∧
      sparseGet 0 t.sw.mac (2 * bitsOf ctrl 13 0 + 1) = s.reg (SW_TBL_DATA 1) &&& 0x80000000000000FF)) ∧
  (∀ (s : State) (ctrl : Nat) (rest : List TableAccess), s.sw.access = ⟨1, ctrl⟩ :: rest → s.ctxAt? (bitsOf ctrl 12 0) = none →
    Completes (.tableAccessDone 1) s (fun t => t.fld TL_TBL_STATUS_DONE = 1 ∧ t.reg TL_TBL_DATA0 = 0 ∧ t.reg TL_TBL_DATA1 = 0)) ∧
  (∀ (s : State) (ctrl : Nat) (rest : List TableAccess), s.sw.access = ⟨2, ctrl⟩ :: rest → Completes (.tableAccessDone 2) s (fun t =>
    t.fld ST_TBL_STATUS_DONE = 1 ∧ (List.range 4).map (fun i => t.reg (ST_TBL_DATA i)) = stayWords (s.stay (bitsOf ctrl 17 0)))) ∧
  (∀ (s : State) (port tick : Nat), port < 256 → s.curfewPending port = false → s.bellSet = true → s.now + 8000 ≤ tick → s.shadowBad port = false →
    tick < 2 ^ 64 → Completes (.curfewSwitchArm port tick) s (fun t => t.fld (SW_CURFEW_CTL_PENDING port) = 1 ∧
      t.fld (SW_CURFEW_TICK_SWITCH_TICK port) = tick ∧ t.sw = s.sw)) ∧
  (∀ (s : State) (port tick : Nat), port < 256 → s.curfewPending port = true → Completes (.curfewSwitchArm port tick) s (fun t =>
    t.fld SW_CURFEW_ERR_BUSY = 1 ∧ t.fld SW_CURFEW_ERR_PORT = port ∧ t.reg (SW_CURFEW_TICK port) = s.reg (SW_CURFEW_TICK port))) ∧
  (∀ (s : State) (port : Nat), port < 256 → s.curfewPending port = true → s.bellSet = true →
    s.now + 8000 ≤ s.fld (SW_CURFEW_TICK_SWITCH_TICK port) → Completes (.curfewCancel port) s (fun t => t.fld (SW_CURFEW_CTL_PENDING port) = 0 ∧
      t.fld (SW_CURFEW_CTL_ACTIVE_BANK port) = s.fld (SW_CURFEW_CTL_ACTIVE_BANK port) ∧ t.sw = s.sw)) ∧
  (∀ (s : State) (port : Nat), port < 256 → s.curfewPending port = true → s.bellSet = true →
    scEdge (s.fld (SW_CURFEW_TICK_SWITCH_TICK port)) ≤ s.now →
    Completes (.curfewSwitchover port) s (fun t => t.fld (SW_CURFEW_CTL_ACTIVE_BANK port) = 1 - s.fld (SW_CURFEW_CTL_ACTIVE_BANK port) ∧
      t.fld (SW_CURFEW_CTL_IN_FORCE port) = 1 ∧ t.fld (SW_CURFEW_CTL_PENDING port) = 0 ∧ t.reg (SW_CURFEW_RUN port) = 0 ∧
      sparseGet 0 t.sw.curfewStart port = s.fld (SW_CURFEW_TICK_SWITCH_TICK port))) ∧
  (∀ (s : State) (port : Nat), port < 256 → s.inForce port = true → Completes (.curfewEntryAdvance port) s (fun t =>
    t.fld (SW_CURFEW_RUN_ENTRY port) = s.entryIndex port (s.fld (SW_CURFEW_CTL_ACTIVE_BANK port)) (sparseGet 0 s.sw.curfewStart port) s.now % 2 ^ 10 ∧
    t.fld (SW_CURFEW_RUN_CYCLES port) =
      (s.now - sparseGet 0 s.sw.curfewStart port) / s.curfewCycle port (s.fld (SW_CURFEW_CTL_ACTIVE_BANK port)) % 2 ^ 32)) ∧
  (∀ (s : State) (ctrl : Nat) (rest : List TableAccess), s.sw.access = ⟨0, ctrl⟩ :: rest → bitsOf ctrl 63 60 = 0 → ctrl.testBit 59 = true →
    (if bitsOf ctrl 36 36 = s.fld (SW_CURFEW_CTL_ACTIVE_BANK (bitsOf ctrl 47 40)) then s.flag (SW_CURFEW_CTL_IN_FORCE (bitsOf ctrl 47 40)) = false
      else s.curfewPending (bitsOf ctrl 47 40) = false) →
    (bitsOf ctrl 13 0 < 1024 ∧ bitsOf (s.reg (SW_TBL_DATA 0)).toNat 39 8 ≠ 0) ∨ (bitsOf ctrl 13 0 = 1024 ∧ bitsOf (s.reg (SW_TBL_DATA 0)).toNat 63 32 ≠ 0 ∧
      1 ≤ bitsOf (s.reg (SW_TBL_DATA 0)).toNat 10 0 ∧ bitsOf (s.reg (SW_TBL_DATA 0)).toNat 10 0 ≤ 1024) →
    Completes (.tableAccessDone 0) s (fun t => t.fld SW_TBL_STATUS_DONE = 1 ∧ t.sw = { s.sw with access := rest, curfew := t.sw.curfew } ∧
      sparseGet 0 t.sw.curfew (curfewKey (bitsOf ctrl 47 40) (bitsOf ctrl 36 36) (bitsOf ctrl 13 0)) =
        s.reg (SW_TBL_DATA 0) &&& BitVec.ofNat 64 (curfewMask (bitsOf ctrl 13 0)))) ∧
  (∀ (s : State) (ctrl : Nat) (rest : List TableAccess), s.sw.access = ⟨0, ctrl⟩ :: rest → bitsOf ctrl 63 60 = 0 → ctrl.testBit 59 = true →
    bitsOf ctrl 36 36 ≠ s.fld (SW_CURFEW_CTL_ACTIVE_BANK (bitsOf ctrl 47 40)) → s.curfewPending (bitsOf ctrl 47 40) = true →
    Completes (.tableAccessDone 0) s (fun t => t.fld SW_TBL_STATUS_DONE = 1 ∧ t.fld SW_CURFEW_ERR_BUSY = 1 ∧
      t.fld SW_CURFEW_ERR_PORT = bitsOf ctrl 47 40 ∧ t.sw.curfew = s.sw.curfew))

/-- R91, R108, R110 to R113, R119, R120, R125, R132, R373, R374: a frame's way through the switch: it comes in with credit, its tail arrives, it is
spoiled, it leaves at a frame boundary into the replay store, a closing packet is released or given up. How frames lie in codewords is the model's
choice (log entry 6). So are where a frame for an agent waits (3), what a frame finds at a port that cannot take it (10), and the layout of the
notices of streams (12). -/
def Obligations.FramesComplete : Prop :=
  (∀ (s : State) (p q : Nat) (f : Frame), s.canReceive p f = true → s.portKind p = 1 → f.vc = 1 → f.destKind = 3 → f.kind = 0x01 → f.closing = false →
    f.streamValid = false → f.dstCoord = s.coord → f.dstPort = q → q < 64 → s.portKind q = 1 → s.portUp q = true → s.regBit SW_FENCE q = false →
    Completes (.frameIngress p f) s (fun t => t.rxOf p = some s.sw.nextId ∧ t.sw.nextId = s.sw.nextId + 1 ∧
      (∃ d ∈ t.sw.descs, d.id = s.sw.nextId ∧ d.inPort = p ∧ d.whole = false ∧ d.frame.srcCoord = s.coord ∧ d.frame.srcPort = p ∧
        d.frame.payload = f.payload) ∧
      (∃ c ∈ t.sw.copies, c.desc = s.sw.nextId ∧ c.out = q ∧ c.vc = 1 ∧ c.started = false ∧ c.held = false) ∧
      t.ownerHeld (portOwner p 1 0) = s.ownerHeld (portOwner p 1 0) - frameCells f ∧
      t.ownerUsed (portOwner p 1 0) = (s.ownerUsed (portOwner p 1 0) + frameCells f) % 2 ^ 20)) ∧
  (∀ (s : State) (p id : Nat) (d : Desc), s.rxOf p = some id → s.desc? id = some d → (∃ c ∈ s.sw.copies, c.desc = id) →
    (∀ c ∈ s.sw.copies, c.out < 256 ∧ (c.desc = id → c.started = false ∧ c.held = false)) → s.sw.agentWait = [] →
    Completes (.frameTailReceived p true) s (fun t => t.rxOf p = none ∧ t.desc? id = some { d with whole := true } ∧ t.sw.copies = s.sw.copies)) ∧
  (∀ (s : State) (p id : Nat), s.rxOf p = some id → id < s.sw.nextId → Completes (.frameTailReceived p false) s (fun t =>
    t.desc? id = none ∧ (p, (CtrlBlock.replayReq (s.port p).rxStart (s.port p).rxStartSlot).bytes) ∈ t.out.ctrl)) ∧
  (∀ (s : State) (p id : Nat), s.rxOf p = some id → id < s.sw.nextId → Completes (.spoil p) s (fun t =>
    t.desc? id = none ∧ t.reg SW_SPOIL_RX = s.reg SW_SPOIL_RX + 1)) ∧
  (∀ (s : State) (p : Nat), s.rxOf p = none → p ∈ s.sw.rxGone → Completes (.spoil p) s (fun t =>
    t.reg SW_SPOIL_RX = s.reg SW_SPOIL_RX + 1 ∧ p ∉ t.sw.rxGone ∧ t.sw.copies = s.sw.copies)) ∧
  (∀ (s : State) (p : Nat) (c : Copy) (r : Drr) (d : Desc), s.portUp p = true → s.portKind p ≠ 3 → s.fld (LN_PORT_W2_TX_STATE p) = 0 →
    (∀ x ∈ s.sw.copies, ¬(x.out = p ∧ x.started = true)) → 64 ≤ p ∨ s.regBit SW_FENCE p = false → (s.touchShapers p).pickClass p = (some c, r) →
    s.desc? c.desc = some d → d.whole = true → s.sw.agentWait = [] → (∀ x ∈ s.sw.copies, x.out < 256) → Completes (.egressSelect p) s (fun t =>
      t.out = { s.out with frames := s.out.frames ++ [(p, outHeader d c, false)] } ∧ t.sw.copies = s.sw.copies.erase c ∧
      (∃ r ∈ [placeSlots (s.port p).txSeq (s.port p).txSlot (s.port p).txStop false s.free (s.codewordTicks p) (frameSlots (outHeader d c))],
        (t.port p).store = (s.port p).store ++ [(r.first, r.words, outHeader d c, false)] ∧ (t.port p).txSeq = r.seq) ∧
      t.creditOf p c.vc c.sub = s.creditOf p c.vc c.sub - frameCells d.frame)) ∧
  (∀ (s : State) (stream : Nat) (d : Desc), stream < 65536 → d.frame.stream = stream →
    s.closer stream (fun d _ => decide (d.frame.seq ≤ s.fld (streamCountFld d.frame))) = some d → Completes (.streamCloseRelease stream) s (fun t =>
      t.fld (streamCountFld d.frame) = 0 ∧ (∀ c ∈ t.sw.copies, c.desc = d.id → c.held = false) ∧ (∀ c ∈ t.sw.closers, c.2.1 ≠ d.id) ∧
      t.fld (SW_STREAM_HELD stream) = (if s.sw.closers.any (fun c => c.1 == stream && c.2.1 != d.id) then 1 else 0))) ∧
  (∀ (s : State) (stream : Nat) (d : Desc), stream < 65536 → d.frame.stream = stream →
    s.closer stream (fun _ at_ => decide (at_ + ticksPerUs * s.fld SW_ROUTE_CTRL_STREAM_HOLD ≤ s.free)) = some d → d.id < s.sw.nextId →
    (∃ c ∈ s.sw.copies, c.desc = d.id) → (∀ c ∈ s.sw.copies, c.desc = d.id → c.started = false) → Completes (.streamHoldExpiry stream) s (fun t =>
      t.fld (SW_STREAM_BROKEN stream) = 1 ∧ t.desc? d.id = none ∧ t.reg SW_DROP_STREAM = s.reg SW_DROP_STREAM + 1 ∧
      t.fld (SW_STREAM_HELD stream) = (if s.sw.closers.any (fun c => c.1 == stream && c.2.1 != d.id) then 1 else 0) ∧
      Told s t 0x040 0x11 stream))

/-- R68, R99, R117, R118, R120, R124, R126, R139 to R143: credit, the stages of sacrifice, fences, lost banks and frames, the far end's identity and the
bridge complete with their effect. SRAM_UE names the word's index within its store, an operand (log entry 23). That an Ethernet frame counts in
SW_DROP_NOBUF where its port's VC2 owner has MIN 0 is the model's choice (log entry 159), and so are that the stage of sacrifice is evaluated once the
banks are threaded (161) and that a frame comes to the bridge whole with the verdict on its FCS (137). So is that a fenced port's frames go at its
next turn (25). -/
def Obligations.SwitchCareCompletes : Prop :=
  (∀ (s : State) (p vc since : Nat), p < 64 → (s.touchSinks p).sw.sinkSince.find? (fun e => e.1 == 8 * p + vc) = some (8 * p + vc, since) →
    since + 100 * ticksPerUs * s.fld SW_ROUTE_CTRL_SINK_LIMIT ≤ s.free → s.regBit SW_FENCE p = false →
    s.sw.agentWait = [] → Completes (.sinkLimitExpiry p vc) s (fun t =>
      t.regBit SW_FENCE p = true ∧ Told s t 0x042 0x12 p)) ∧
  (∀ (s : State) (p : Nat) (c : Copy), s.sw.copies.find? (fun c => c.out == p && c.vc == 2 && c.mcast && !c.started) = some c →
    c.at_ + ticksPerUs * s.fld SW_CTRL_MCAST_HOLD ≤ s.free → s.sw.agentWait = [] → (∀ x ∈ s.sw.copies, x.out < 256) → Completes (.mcastHoldExpiry p) s (fun t =>
      t.reg SW_DROP_MCAST = s.reg SW_DROP_MCAST + 1 ∧ t.sw.copies = s.sw.copies.erase c)) ∧
  (∀ (s : State) (p : Nat), s.portUp p = true → s.portKind p = 1 ∨ s.portKind p = 2 ∨ s.portKind p = 4 →
    s.fld (LN_PORT_W2_TX_STATE p) = 0 → Completes (.creditTopup p) s (fun t =>
    t.out = { s.out with ctrl := s.out.ctrl ++ [(p, (t.statusBlock p).bytes)] })) ∧
  (∀ (s : State) (p k : Nat), s.portUp p = true → s.portKind p = 1 → s.ownerMin (portOwner p 0 0) ≠ 0 → s.paced p 0 = false →
    k = min 17 (s.ownerMin (portOwner p 0 0) + s.shareLimit (portOwner p 0 0) - s.ownerClaimed (portOwner p 0 0)) → 0 < k →
    s.claimOk (portOwner p 0 0) k = true → Completes (.creditTopup p) s (fun t =>
      t.ownerHeld (portOwner p 0 0) = (s.ownerHeld (portOwner p 0 0) + k) % 2 ^ 20 ∧
      sparseGet 0 t.sw.rxCum (portOwner p 0 0) = (sparseGet 0 s.sw.rxCum (portOwner p 0 0) + k) % 65536)) ∧
  (∀ s : State, s.sw.threaded = true → Completes .sacrificeStageUpdate s (fun t => t.fld SW_POOL_STATUS_STAGE = s.nextStage ∧ t.sw = s.sw)) ∧
  (∀ (s : State) (id word : Nat), (s.desc? id).isSome = true → id < s.sw.nextId → (∀ i ∈ s.sw.agentQ, i.id ≠ id) → Completes (.bufferSramUe (.frameBytes id) word) s (fun t =>
    t.desc? id = none ∧ Told s t 0x041 0x06 word)) ∧
  (∀ (s : State) (i : AgentItem) (word : Nat), s.sw.agentQ.find? (fun x => x.id == i.id) = some i → s.sw.agentWait = [] → (∀ x ∈ s.sw.copies, x.out < 256) →
    Completes (.bufferSramUe (.frameBytes i.id) word) s (fun t => t.sw.agentQ = s.sw.agentQ.erase i ∧
      t.reg SW_DROP_BUF_UE = s.reg SW_DROP_BUF_UE + 1 ∧ Told s t 0x041 0x06 word)) ∧
  (∀ (s : State) (b word : Nat), b < 64 → b ∉ s.sw.banksDown → Completes (.bufferSramUe (.vacancy b) word) s (fun t =>
    b ∈ t.sw.banksDown ∧ Told s t 0x041 0x06 word)) ∧
  (∀ (s : State) (p c sub word : Nat), s.sw.agentWait = [] → s.severity 0x041 0x06 < 4 → Completes (.bufferSramUe (.queue p c sub) word) s (fun t =>
    (∀ x ∈ t.sw.copies, ¬(x.out = p ∧ x.vc = c ∧ x.sub = sub ∧ x.held = false)) ∧ Told s t 0x041 0x06 word)) ∧
  (∀ (s : State) (b : Nat), b ∈ s.sw.banksDown → Completes (.bankRebuildDone b) s (fun t =>
    b ∉ t.sw.banksDown ∧ t.fld SW_POOL_ERR_BANK_REBUILT = 1 ∧ Told s t 0x041 0x14 b)) ∧
  (∀ (s : State) (p b : Nat) (f : Frame), s.bundleOf p = some b → s.flag DV_COORD_OPEN_MODE = false → f.payload = s.identExpected b →
    Completes (.trunkIdent p f) s (fun t => b ∉ t.sw.miscabled ∧ t.sw.copies = s.sw.copies)) ∧
  (∀ (s : State) (p b : Nat) (f : Frame), s.bundleOf p = some b → s.flag DV_COORD_OPEN_MODE = false → f.payload ≠ s.identExpected b →
    Completes (.trunkIdent p f) s (fun t => b ∈ t.sw.miscabled ∧ Told s t (0x200 + p) 0x13 p)) ∧
  (∀ (s : State) (p q : Nat) (eth : List Byte) (fcsOk : Bool), s.portKind p = 3 → s.portUp p = true → s.inHeld p = false → s.ownerMin (portOwner p 2 0) ≠ 0 →
    s.claimOk (portOwner p 2 0) 16 = true → etherType eth ≠ 0x8808 → s.bridgeTargets p eth = some [q] → s.portUp q = true →
    s.flag (SW_POL_W0_ENABLE (2 * p + 1)) = false → s.fld SW_POOL_STATUS_STAGE < 3 → s.flag (SW_EGRESS_RED_EN (8 * q + 2)) = false →
    s.fld (SW_EGRESS_QMAX (8 * q + 2)) = 0 → Completes (.bridgeFrame p eth fcsOk) s (fun t =>
      (64 ≤ eth.length → eth.length ≤ 4096 → fcsOk = true →
        (∃ d ∈ t.sw.descs, d.id = s.sw.nextId ∧ d.eth = some eth ∧ d.inPort = p ∧ d.whole = true ∧ d.frame.vc = 2) ∧
        (∃ c ∈ t.sw.copies, c.desc = s.sw.nextId ∧ c.out = q ∧ c.vc = 2)) ∧
      (eth.length < 64 ∨ 4096 < eth.length ∨ fcsOk = false → t.reg SW_DROP_ETH = s.reg SW_DROP_ETH + 1 ∧ ∀ c ∈ t.sw.copies, c.desc ≠ s.sw.nextId))) ∧
  (∀ (s : State) (p : Nat) (eth : List Byte) (fcsOk : Bool), s.portKind p = 3 → s.portUp p = true → s.inHeld p = false → s.ownerMin (portOwner p 2 0) ≠ 0 →
    s.claimOk (portOwner p 2 0) 16 = true → etherType eth = 0x8808 ∨ s.bridgeTargets p eth = none → Completes (.bridgeFrame p eth fcsOk) s (fun t =>
      t.reg SW_DROP_ETH = s.reg SW_DROP_ETH + 1 ∧ t.sw = s.sw)) ∧
  (∀ (s : State) (p : Nat) (eth : List Byte) (fcsOk : Bool), s.portKind p = 3 → s.portUp p = true → s.inHeld p = false →
    s.ownerMin (portOwner p 2 0) = 0 ∨ s.claimOk (portOwner p 2 0) 16 = false → Completes (.bridgeFrame p eth fcsOk) s (fun t =>
      t.reg SW_DROP_NOBUF = s.reg SW_DROP_NOBUF + 1 ∧ t.sw = s.sw))

/-- R11, R13, R14, R15, R28, R66, R71, R72, R342, R343, R475: writes of registers by offset, and the memory operations of the fabric, complete: fields
change by their access, a bit that hardware set in the same switch cycle stays set, a half keeps the other half's RW fields, reads and writes are
answered to their sender, and an operation that is not permitted is counted and changes nothing else. With the main input absent a register write
takes effect at the auxiliary island alone, for RETRY, which is the model's choice (log entry 114). So are the agent that sends an ERROR (5), the
order of several action bits of one write (114), the length of a switch cycle in ticks (124), and that the pool agent judges an operation's permission
again (113). -/
def Obligations.AccessCompletes : Prop :=
  (∀ (s : State) (value : Nat), Writable s → 1 ≤ bitsOf value 47 32 → Completes (.registerWrite SW_ROUTE_CTRL 8 value) s (fun t =>
    t.fld SW_ROUTE_CTRL_HASH_SEED = bitsOf value 31 0 ∧ t.fld SW_ROUTE_CTRL_STREAM_HOLD = bitsOf value 47 32 ∧
    t.fld SW_ROUTE_CTRL_SINK_LIMIT = bitsOf value 63 56 ∧ t.sw = s.sw)) ∧
  (∀ (s : State) (value : Nat), Writable s → 1 ≤ bitsOf value 15 0 → Completes (.registerWrite (SW_ROUTE_CTRL + 4) 4 value) s (fun t =>
    t.fld SW_ROUTE_CTRL_HASH_SEED = s.fld SW_ROUTE_CTRL_HASH_SEED ∧ t.fld SW_ROUTE_CTRL_STREAM_HOLD = bitsOf value 15 0 ∧
    t.fld SW_ROUTE_CTRL_SINK_LIMIT = bitsOf value 31 24)) ∧
  (∀ (s : State) (value : Nat), Writable s → value.testBit 0 = true → value.testBit 1 = false → Completes (.registerWrite PH_INPUT_EVENT 8 value) s (fun t =>
    t.fld PH_INPUT_EVENT_UV = (if (s.roseAt PH_INPUT_EVENT).getLsbD 0 then s.fld PH_INPUT_EVENT_UV else 0) ∧ t.fld PH_INPUT_EVENT_OV = s.fld PH_INPUT_EVENT_OV)) ∧
  (∀ (s : State) (value : Nat), Completes (.registerWrite DV_STATE 8 value) s (fun t => t.reg DV_STATE = s.reg DV_STATE)) ∧
  (∀ (s : State) (off size value : Nat), (size ≠ 4 ∧ size ≠ 8) ∨ off % size ≠ 0 ∨ 2 ^ 26 ≤ off ∨ s.phase = 7 ∨ s.power.switchClosed = false ∧ s.power.auxOn = false → Completes (.registerWrite off size value) s (fun t => t = s)) ∧
  (∀ (s : State) (f : Frame), Calm s → f.srcCoord = s.coord → f.srcPort < 64 → s.portKind f.srcPort = 1 → s.portUp f.srcPort = true →
    s.regBit SW_FENCE f.srcPort = false → f.kind = 0x01 → s.rackCheck f.srcPort f = some 0 → s.mem.merge = [] →
    (∀ q ∈ pairsOf f.address (leAt f.payload 0 2), s.poisoned q = false ∧ s.stackLost (pairStack q) = false) → Completes (.read f) s (fun t =>
      Sent t (fun g => g.kind == 0x08 && g.tag == f.tag && g.dstPort == f.srcPort &&
        g.payload == sparseRead 0 s.mem.bytes f.address (leAt f.payload 0 2)) ∧ t.mem = { s.mem with crcRuns := t.mem.crcRuns })) ∧
  (∀ (s : State) (f : Frame), Calm s → f.srcCoord = s.coord → f.srcPort < 64 → s.portKind f.srcPort = 1 → s.portUp f.srcPort = true →
    s.regBit SW_FENCE f.srcPort = false → f.kind = 0x01 → s.rackCheck f.srcPort f = some 0 →
    (∃ q ∈ pairsOf f.address (leAt f.payload 0 2), s.poisoned q = true) → Completes (.read f) s (fun t =>
      Sent t (fun g => g.kind == 0x0F && g.tag == f.tag && g.dstPort == f.srcPort && g.payload == [5]))) ∧
  (∀ (s : State) (f : Frame), Calm s → f.srcCoord = s.coord → f.srcPort < 64 → s.portKind f.srcPort = 1 → s.portUp f.srcPort = true →
    s.regBit SW_FENCE f.srcPort = false → f.kind = 0x01 → s.rackCheck f.srcPort f = some 1 → leAt f.payload 0 2 = 8 →
    f.address < 2 ^ 40 + 0x00200000 → Completes (.read f) s (fun t =>
      Sent t (fun g => g.kind == 0x08 && g.tag == f.tag && g.dstPort == f.srcPort && g.payload == natLE 8 (s.readWord (f.address - 2 ^ 40)).toNat) ∧
      t.mem = s.mem)) ∧
  (∀ (s : State) (f : Frame), Calm s → f.srcCoord = s.coord → f.srcPort < 64 → s.portKind f.srcPort = 1 → s.portUp f.srcPort = true →
    s.regBit SW_FENCE f.srcPort = false → f.kind = 0x02 → s.rackCheck f.srcPort f = some 0 → f.address % 64 = 0 → f.payload.length = 64 →
    s.stackLost (pairStack (f.address / 64)) = false → Completes (.write f) s (fun t => t.pairBytes (f.address / 64) = f.payload ∧
      t.poisoned (f.address / 64) = false ∧ Sent t (fun g => g.kind == 0x09 && g.tag == f.tag && g.dstPort == f.srcPort))) ∧
  (∀ (s : State) (f : Frame), f.kind = 0x03 → s.rackCheck f.srcPort f = some 0 → f.address % 64 = 0 → f.payload.length = 64 →
    s.stackLost (pairStack (f.address / 64)) = false → Completes (.writePosted f) s (fun t => t.pairBytes (f.address / 64) = f.payload ∧
      t.poisoned (f.address / 64) = false)) ∧
  (∀ (s : State) (f : Frame), f.kind = 0x03 → s.rackCheck f.srcPort f = none → s.sw.agentWait = [] → Completes (.writePosted f) s (fun t =>
    t.reg SW_DROP_RACK = s.reg SW_DROP_RACK + 1 ∧ t.mem = s.mem ∧ t.out = s.out))

/-- R155 to R168, R176, R182, R183: claims are granted, refused or found invalid; releases end a context; contributions are taken into their chunk once; a
complete chunk's step fires and its result goes to the slots. How a chunk's ROUND is read from its low bits is the model's choice (log entry 53), and
so are the context index of a claim (169) and the treatment of descriptor byte 13 (168). So are the permission of OUT_FMT 7 (65) and that a malformed
FAIL of no context counts in TL_DROP_NOTALLY (170). -/
def Obligations.TallyCompletes : Prop :=
  (∀ (s : State) (f : Frame), Calm s → Answerable s f → s.phase ≠ 6 → s.halted = false → f.party < 4096 → s.claimValid (claimCtx f.party f.payload) f.payload = true →
    s.tpOk f.party (claimCtx f.party f.payload).claimFrames = true → Completes (.claim f) s (fun t =>
      (∃ c ∈ t.tally.ctxs, c.party = f.party ∧ c.id = leAt f.payload 0 2 % 4096 ∧ c.frames = c.claimFrames ∧ c.round = 0 ∧ c.oldest = 0) ∧
      t.tpClaimed f.party = (s.tpClaimed f.party + (claimCtx f.party f.payload).claimFrames) % 2 ^ 13 ∧
      t.reg (TL_CNT 0) = s.reg (TL_CNT 0) + 1 ∧ Sent t (fun g => g.kind == 0x48 && g.tag == f.tag && g.dstPort == f.srcPort))) ∧
  (∀ (s : State) (f : Frame), Calm s → Answerable s f → s.phase ≠ 6 → s.halted = false → f.party < 4096 → s.claimValid (claimCtx f.party f.payload) f.payload = true →
    s.tpOk f.party (claimCtx f.party f.payload).claimFrames = false → Completes (.claim f) s (fun t =>
      t.tally = s.tally ∧ t.reg (TL_CNT 1) = s.reg (TL_CNT 1) + 1 ∧ Sent t (fun g => g.kind == 0x49 && g.tag == f.tag && g.dstPort == f.srcPort))) ∧
  (∀ (s : State) (f : Frame), Calm s → Answerable s f → s.phase ≠ 6 → s.claimValid (claimCtx f.party f.payload) f.payload = false →
    Completes (.claim f) s (fun t => t.tally = s.tally ∧ t.reg (TL_CNT 2) = s.reg (TL_CNT 2) + 1 ∧
      Sent t (fun g => g.kind == 0x0F && g.tag == f.tag && g.dstPort == f.srcPort && g.payload == [1]))) ∧
  (∀ (s : State) (f : Frame) (c : TCtx), Calm s → Answerable s f → s.phase ≠ 6 → f.party < 4096 → f.payload.length = 8 → leAt f.payload 2 6 = 0 →
    leAt f.payload 0 2 < 4096 → s.ctx? f.party (leAt f.payload 0 2) = some c → Completes (.release f) s (fun t =>
      (∀ x ∈ t.tally.ctxs, x.idx ≠ c.idx) ∧ t.fld TL_STATUS_CTX_USED = s.fld TL_STATUS_CTX_USED - 1 ∧
      t.tpClaimed f.party = s.tpClaimed f.party - c.frames ∧
      Sent t (fun g => g.kind == 0x4A && g.tag == f.tag && g.dstPort == f.srcPort && g.payload == natLE 2 c.id ++ natLE 2 c.frames ++ zeroBytes 4))) ∧
  (∀ (s : State) (f : Frame), Calm s → Answerable s f → s.phase ≠ 6 → s.ctx? f.party (leAt f.payload 0 2 % 4096) = none →
    Completes (.release f) s (fun t => t.tally = s.tally ∧
      Sent t (fun g => g.kind == 0x0F && g.tag == f.tag && g.dstPort == f.srcPort && g.payload == [1]))) ∧
  (∀ (s : State) (f : Frame), s.phase ≠ 6 → s.trusted f = true → s.sw.agentWait = [] → 0x40 ≤ f.kind → f.kind ≤ 0x5F →
    f.kind ∉ [0x40, 0x41, 0x50, 0x51, 0x52, 0x53, 0x54, 0x55, 0x57] → Completes (.tallyUnlistedKind f) s (fun t =>
    t.reg (TL_CNT 4) = s.reg (TL_CNT 4) + 1 ∧ t.tally = s.tally)) ∧
  (∀ (s : State) (f : Frame) (c : TCtx) (x : TSlot) (k : TChunk), s.phase ≠ 6 → s.trusted f = true → s.sw.agentWait = [] → s.ctxOf f = some c → c.slot? (tSlot f) = some x →
    c.op ≠ 10 → tChunk f < c.chunks → c.expects x (c.gOf f) = true → s.fromSlot x f = true → (tPart f, f.payload.length) ∈ c.parts x →
    c.gOf f < sparseGet c.window c.credited (tSlot f) → c.gOf f < c.rounds * c.chunks → c.gOf f / c.chunks ∉ c.failedRounds →
    c.chunk? (c.gOf f) = some k → (tSlot f, tPart f) ∉ k.taken → Completes (.operand f) s (fun t =>
      (t.ctxAt? c.idx).bind (·.chunk? (c.gOf f)) = some { c.apply k (tSlot f) x (tPart f) f.payload with
        doneAt := if c.complete (c.apply k (tSlot f) x (tPart f) f.payload) then some (s.free, s.now) else k.doneAt })) ∧
  (∀ (s : State) (f : Frame) (c : TCtx) (x : TSlot) (k : TChunk), s.phase ≠ 6 → s.trusted f = true → s.sw.agentWait = [] → s.ctxOf f = some c → c.slot? (tSlot f) = some x →
    c.op ≠ 10 → tChunk f < c.chunks → c.expects x (c.gOf f) = true → s.fromSlot x f = true → (tPart f, f.payload.length) ∈ c.parts x →
    c.gOf f < sparseGet c.window c.credited (tSlot f) → c.gOf f < c.rounds * c.chunks → c.gOf f / c.chunks ∉ c.failedRounds →
    c.chunk? (c.gOf f) = some k → (tSlot f, tPart f) ∈ k.taken → Completes (.operand f) s (fun t =>
      t.tally = s.tally ∧ t.reg (TL_CNT 6) = s.reg (TL_CNT 6) + 1)) ∧
  (∀ (s : State) (f : Frame), s.phase ≠ 6 → s.trusted f = true → s.sw.agentWait = [] → s.ctxOf f = none → Completes (.operand f) s (fun t =>
    t.tally = s.tally ∧ t.reg (TL_CNT 3) = s.reg (TL_CNT 3) + 1)) ∧
  (∀ (s : State) (ctx g : Nat) (c : TCtx) (k : TChunk) (x : Nat × TSlot), Calm s → s.ctxAt? ctx = some c → c.chunk? g = some k → c.complete k = true →
    k.stepped = false → s.phase ≠ 6 → c.timed = false → c.root = true → x ∈ c.slotsNo → c.reaches x.2 g = true → x.2.isModule = false →
    Reachable s x.2.port → (s.sw.copies.filter (fun y => y.mcast)).length + c.slots.length ≤ 65536 → Completes (.tallyStep ctx g) s (fun t =>
      ((t.ctxAt? ctx).bind (·.chunk? g)).map (fun k => (k.stepped, k.result)) = some (true, some (c.rootResult k)) ∧
      ResultTo t x (c.rootResult k).1)) ∧
  (∀ (s : State) (ctx g : Nat) (c : TCtx) (k : TChunk), s.sw.agentWait = [] → s.ctxAt? ctx = some c → c.chunk? g = some k → c.complete k = true →
    k.stepped = false → s.phase ≠ 6 → c.timed = false → c.root = false → Completes (.tallyStep ctx g) s (fun t =>
      (t.ctxAt? ctx).bind (·.chunk? g) = some { k with stepped := true })) ∧
  (∀ (s : State) (ctx g : Nat) (c : TCtx) (k : TChunk), s.sw.agentWait = [] → s.ctxAt? ctx = some c → c.chunk? g = some k → c.complete k = true →
    k.stepped = false → s.phase ≠ 6 → c.timed = true → s.bellSet = true → scEdge (c.stepTick g) ≤ s.now → c.root = false →
    c.stepTick g < (k.doneAt.getD (0, 0)).2 → Completes (.tallyStep ctx g) s (fun t =>
      (t.ctxAt? ctx).bind (·.chunk? g) = some { k with stepped := true } ∧ t.reg (TL_CNT 11) = s.reg (TL_CNT 11) + 1)) ∧
  (∀ (s : State) (ctx g : Nat) (c : TCtx) (k : TChunk), s.ctxAt? ctx = some c → c.chunk? g = some k → c.complete k = false →
    Completes (.tallyStep ctx g) s (fun t => t = s))

/-- R166, R168, R183, R184, R187, R188, R190 to R193, R288: results, acknowledgements, credit, resends, failures and dispatch complete with their effect
on the tally. What a failed round does to the window is the model's choice (log entry 52), and so are the limit of a contributing agent (54), the
length of a DISPATCH record (165), the order of the records (166) and the reduction unit that a residue mismatch names (163). So are how one result
leaves for several slots (17), a COMPLETE's ADDRESS (18), what a CREDIT frees elsewhere (67), where kept contributions are found (68), when a sender
of DISPATCH is silent (66) and that an event whose condition does not hold has no effect (24). -/
def Obligations.TallyCareCompletes : Prop :=
  (∀ (s : State) (f : Frame) (headerOk : Bool) (c : TCtx) (k : TChunk) (x : Nat × TSlot), s.phase ≠ 6 → s.trusted f = true → s.sw.agentWait = [] → s.ctxOf f = some c →
    c.fromParent f = true → tChunk f < c.chunks → c.gOf f / c.chunks ∉ c.failedRounds → f.payload.length = c.resultLength → c.chunk? (c.gOf f) = some k →
    k.result = none → x ∈ c.slotsNo → c.reaches x.2 (c.gOf f) = true → x.2.isModule = false → s.regBit SW_FENCE x.2.port = false →
    Completes (.result f true headerOk) s (fun t =>
      ((t.ctxAt? c.idx).bind (·.chunk? (c.gOf f))).map (·.result) = some (some (f.payload, f.tag % 64)))) ∧
  (∀ (s : State) (f : Frame) (c : TCtx) (headerOk : Bool), s.phase ≠ 6 → s.trusted f = true → s.sw.agentWait = [] → s.ctxOf f = some c → Completes (.result f false headerOk) s (fun t =>
    t.tally = s.tally)) ∧
  (∀ (s : State) (f : Frame) (c : TCtx) (x : TSlot) (k : TChunk) (r : TRecv), s.phase ≠ 6 → s.trusted f = true → s.sw.agentWait = [] → s.ctxOf f = some c →
    c.slot? (tSlot f) = some x → c.chunk? (c.gOf f) = some k → k.recvs.find? (fun r => r.slot == tSlot f && !r.done) = some r → s.fromSlot x f = true →
    tChunk f < c.chunks → f.payload.length = 1 → byteAt f.payload 0 = 0 → (∃ y ∈ k.recvs, y.slot ≠ tSlot f ∧ y.done = false) →
    Completes (.ack f) s (fun t => (t.ctxAt? c.idx).bind (·.chunk? (c.gOf f)) =
      some { k with recvs := k.recvs.map (fun y => if y.slot = tSlot f then { y with done := true } else y) })) ∧
  (∀ (s : State) (f : Frame) (c : TCtx) (x : TSlot) (k : TChunk) (r : TRecv), s.phase ≠ 6 → s.trusted f = true → s.sw.agentWait = [] → s.ctxOf f = some c →
    c.slot? (tSlot f) = some x → c.chunk? (c.gOf f) = some k → k.recvs.find? (fun r => r.slot == tSlot f && !r.done) = some r → s.fromSlot x f = true →
    tChunk f < c.chunks → f.payload.length = 1 → byteAt f.payload 0 = 0 → k.result.isSome = true → (∀ y ∈ k.recvs, y.slot = tSlot f ∨ y.done = true) →
    c.failedRounds = [] → c.gOf f < c.limit → Completes (.ack f) s (fun t => (t.ctxAt? c.idx).bind (·.chunk? (c.gOf f)) = none)) ∧
  (∀ (s : State) (f : Frame) (c : TCtx) (x : TSlot) (k : TChunk) (r : TRecv) (b : List Byte) (fl : Nat), Calm s → s.phase ≠ 6 → s.trusted f = true → s.ctxOf f = some c →
    c.slot? (tSlot f) = some x → c.chunk? (c.gOf f) = some k → k.recvs.find? (fun r => r.slot == tSlot f && !r.done) = some r → s.fromSlot x f = true →
    tChunk f < c.chunks → f.payload.length = 1 → byteAt f.payload 0 ≠ 0 → r.resends < s.fld TL_CTRL_RESEND_MAX → x.isModule = false → Reachable s x.port →
    k.result = some (b, fl) → Completes (.ack f) s (fun t => t.reg (TL_CNT 8) = s.reg (TL_CNT 8) + 1 ∧
      Sent t (fun h => h.kind == 0x51 && h.dstPort == x.port && h.payload == b))) ∧
  (∀ (s : State) (ctx g slot : Nat) (c : TCtx) (x : TSlot) (k : TChunk) (r : TRecv) (b : List Byte) (fl : Nat), Calm s → s.ctxAt? ctx = some c →
    c.slot? slot = some x → c.chunk? g = some k → k.recvs.find? (fun r => r.slot == slot && !r.done) = some r → r.sentAt + s.usOf TL_CTRL_ACK_WAIT ≤ s.free →
    r.resends < s.fld TL_CTRL_RESEND_MAX → x.isModule = false → Reachable s x.port → k.result = some (b, fl) → Completes (.resultAckTimeout ctx g slot) s (fun t =>
      t.reg (TL_CNT 8) = s.reg (TL_CNT 8) + 1 ∧ Sent t (fun h => h.kind == 0x51 && h.dstPort == x.port && h.payload == b))) ∧
  (∀ (s : State) (f : Frame) (c : TCtx), s.phase ≠ 6 → s.trusted f = true → s.sw.agentWait = [] → s.ctxOf f = some c → c.fromParent f = true → f.payload.length = 12 →
    leAt f.payload 0 6 = 0 → Completes (.credit f) s (fun t =>
      (t.ctxAt? c.idx).map (·.parentLimit) = some (max c.parentLimit (leAt f.payload 6 2 * c.chunks + leAt f.payload 8 4)))) ∧
  (∀ (s : State) (f : Frame), s.phase ≠ 6 → s.trusted f = true → s.sw.agentWait = [] → s.ctxOf f = none → s.contributes f = true → f.payload.length = 12 → f.srcPort = 0xF1 →
    f.srcCoord ≠ s.coord → Completes (.credit f) s (fun t => t.tally.limits.filter (fun l => l.party == f.party && l.id == tId f &&
        l.coord == f.srcCoord && l.slot == tSlot f) = [⟨f.party, tId f, f.srcCoord, tSlot f, leAt f.payload 6 2, leAt f.payload 8 4⟩] ∧
      t.tally.kept.map (fun k => { k with sent := false }) = (s.tally.kept.filter (fun k => !(k.party == f.party && k.id == tId f &&
        k.slot == tSlot f && k.coord == f.srcCoord && k.sent && beforePoint k.round k.chunk (leAt f.payload 0 2) (leAt f.payload 2 4)))).map
          (fun k => { k with sent := false }))) ∧
  (∀ (s : State) (f : Frame) (k : Kept), Calm s → RouteTo s f.srcCoord → s.phase ≠ 6 → s.trusted f = true → s.ctxOf f = none → f.srcPort = 0xF1 →
    k ∈ s.tally.kept → k.party = f.party → k.id = tId f → k.slot = tSlot f → k.coord = f.srcCoord → k.round % 256 = tRound f → k.chunk = tChunk f →
    Completes (.resend f) s (fun t => { k with sent := true } ∈ t.tally.kept ∧
      Sent t (fun g => g.kind == 0x50 && g.dstCoord == f.srcCoord && g.dstPort == 0xF1 && g.party == f.party && g.payload == k.payload))) ∧
  (∀ (s : State) (f : Frame) (c : TCtx) (k : TChunk) (x : Nat × List Byte), Calm s → RouteTo s c.parent → s.phase ≠ 6 → s.trusted f = true →
    s.ctxOf f = some c → c.fromParent f = true → c.chunk? (c.gOf f) = some k → k.stepped = true → k.g < c.parentLimit → tChunk f < c.chunks →
    x ∈ c.partial_ k → Completes (.resend f) s (fun t => t.tally = s.tally ∧
      Sent t (fun g => g.kind == 0x50 && g.dstCoord == c.parent && g.dstPort == 0xF1 && g.party == c.party && g.payload == x.2))) ∧
  (∀ (s : State) (f : Frame), s.phase ≠ 6 → s.trusted f = true → s.sw.agentWait = [] → s.ctxOf f = none → s.contributes f = false → f.srcPort = 0xF1 → Completes (.resend f) s (fun t =>
    t.tally = s.tally ∧ t.reg (TL_CNT 3) = s.reg (TL_CNT 3) + 1)) ∧
  (∀ (s : State) (f : Frame) (c : TCtx) (x : Nat × TSlot), Calm s → s.phase ≠ 6 → s.trusted f = true → s.ctxOf f = some c → c.fromParent f = true →
    f.payload.length = 8 → 1 ≤ byteAt f.payload 0 → byteAt f.payload 0 ≤ 5 → c.round ≤ leAt f.payload 2 2 → leAt f.payload 2 2 < c.rounds →
    leAt f.payload 2 2 ∉ c.failedRounds → x ∈ c.slotsNo → x.2.isModule = false → Reachable s x.2.port → Completes (.fail f) s (fun t =>
      (∀ d ∈ t.ctxAt? c.idx, leAt f.payload 2 2 ∈ d.failedRounds ∧ ∀ k ∈ d.win, k.g / c.chunks ≠ leAt f.payload 2 2) ∧
      Sent t (fun h => h.kind == 0x56 && h.dstPort == x.2.port && h.payload == c.record (leAt f.payload 2 2) (failStatus (byteAt f.payload 0))))) ∧
  (∀ (s : State) (f : Frame), s.phase ≠ 6 → s.trusted f = true → s.sw.agentWait = [] → s.ctxOf f = none → s.contributes f = true → f.payload.length = 8 →
    1 ≤ byteAt f.payload 0 → byteAt f.payload 0 ≤ 5 → Completes (.fail f) s (fun t =>
      (∀ k ∈ t.tally.kept, ¬(k.core.isSome = true ∧ k.party = f.party ∧ k.id = tId f ∧ k.coord = f.srcCoord ∧ k.round % 256 = leAt f.payload 2 2 % 256)) ∧
      ∀ k ∈ s.tally.kept, k.core = none → k ∈ t.tally.kept)) ∧
  (∀ (s : State) (ctx : Nat) (c : TCtx) (k : TChunk) (x y : Nat × TSlot), Calm s → s.ctxAt? ctx = some c → c.op ≠ 10 → c.win = [k] → x ∈ c.slotsNo → x.2.isModule = false →
    s.regBit SW_FENCE x.2.port = true → c.expects x.2 k.g = true → c.tookAll k x.1 x.2 = false → c.round ≤ k.g / c.chunks → k.g / c.chunks < c.rounds →
    k.g / c.chunks ∉ c.failedRounds → y ∈ c.slotsNo → y.2.isModule = false → Reachable s y.2.port → Completes (.fenceSeen ctx) s (fun t =>
      (∀ d ∈ t.ctxAt? ctx, k.g / c.chunks ∈ d.failedRounds ∧ k ∉ d.win) ∧
      Sent t (fun h => h.kind == 0x56 && h.dstPort == y.2.port && h.payload == c.record (k.g / c.chunks) 4))) ∧
  (∀ (s : State) (ctx : Nat) (c : TCtx) (x : TSlot), s.ctxAt? ctx = some c → c.op = 10 → c.round ∉ c.failedRounds → c.round < c.rounds → x ∈ c.slots →
    x.contrib = true → x.isModule = false → s.regBit SW_FENCE x.port = true → Completes (.fenceSeen ctx) s (fun t =>
      ∀ d ∈ t.ctxAt? ctx, c.round ∈ d.failedRounds)) ∧
  (∀ (s : State) (ctx reason g unit : Nat) (c : TCtx), s.ctxAt? ctx = some c → 1 ≤ reason → reason ≤ 3 → c.round * c.chunks ≤ g → g < c.limit →
    g / c.chunks ∉ c.failedRounds → s.severity 0x060 0x0C < 4 → s.severity (0x061 + unit % 24) 0x07 < 4 →
    Completes (.tallyCorruption ctx reason g unit) s (fun t =>
      (∀ d ∈ t.ctxAt? ctx, g / c.chunks ∈ d.failedRounds) ∧ t.reg (TL_CNT 9) = s.reg (TL_CNT 9) + 1 ∧
      (reason = 1 → Told s t (0x061 + unit % 24) 0x07 (c.id + c.party * 2 ^ 12)) ∧
      (reason ≠ 1 → Told s t 0x060 0x0C (c.id + c.party * 2 ^ 12)))) ∧
  (∀ (s : State) (ctx g slot : Nat) (c : TCtx) (x : TSlot) (k : TChunk) (st : Nat), Calm s → s.ctxAt? ctx = some c → c.op ≠ 10 → c.slot? slot = some x →
    c.chunk? g = some k → c.timerStart k = some st → k.resends = [] → c.expects x g = true → c.tookAll k slot x = false → st + s.usOf TL_CTRL_RESEND_WAIT ≤ s.free →
    0 < s.fld TL_CTRL_RESEND_MAX → x.isModule = false → Reachable s x.port → Completes (.contribResendTimeout ctx g slot) s (fun t =>
      t.reg (TL_CNT 7) = s.reg (TL_CNT 7) + 1 ∧ ((t.ctxAt? ctx).bind (·.chunk? g)).map (·.resends) = some [(slot, 1, s.free)] ∧
      Sent t (fun h => h.kind == 0x54 && h.dstPort == x.port))) ∧
  (∀ (s : State) (ctx g slot last : Nat) (c : TCtx) (x : TSlot), Calm s → s.ctxAt? ctx = some c → c.op = 10 → c.slot? slot = some x → x.contrib = true →
    c.round ∉ c.failedRounds → c.heardAt = some last → last + s.usOf TL_CTRL_RESEND_WAIT ≤ s.free → c.asks < s.fld TL_CTRL_RESEND_MAX →
    x.isModule = false → Reachable s x.port → Completes (.contribResendTimeout ctx g slot) s (fun t => t.reg (TL_CNT 7) = s.reg (TL_CNT 7) + 1 ∧
      Sent t (fun h => h.kind == 0x54 && h.dstPort == x.port))) ∧
  (∀ (s : State) (f : Frame) (c : TCtx) (x : TSlot), s.phase ≠ 6 → s.trusted f = true → s.sw.agentWait = [] → s.ctxOf f = some c → c.op = 10 → c.inFmt = 0 →
    c.slots.find? (fun y => y.contrib && s.fromSlot y f) = some x → f.address / 2 ^ 12 % 4096 < c.members → f.address / 2 ^ 45 = 0 → f.payload.length % 4 = 0 →
    c.dests.find? (fun y => y.member == f.address / 2 ^ 12 % 4096) = none → (c.dests.filter (·.lastSeen)).length < c.members → Completes (.dispatch f) s (fun t =>
      ((t.ctxAt? c.idx).bind (fun d => d.dests.find? (fun y => y.member == f.address / 2 ^ 12 % 4096))) =
        some ⟨f.address / 2 ^ 12 % 4096, min (f.payload.length / 4) (c.cap - f.address / 2 ^ 24 % 2 ^ 21),
          f.payload.length / 4 - min (f.payload.length / 4) (c.cap - f.address / 2 ^ 24 % 2 ^ 21), false⟩ ∧
      t.reg (TL_CNT 12) = s.reg (TL_CNT 12) + BitVec.ofNat 64 (f.payload.length / 4 - min (f.payload.length / 4) (c.cap - f.address / 2 ^ 24 % 2 ^ 21))))

/-- R199 to R219, R233: stays open, take vectors and queries; requests that are not permitted are refused by number, those that must wait for a mend or a
twin wait, and a full engine takes none. These are the model's choices: the order of several refusals (log entry 55), that an ATTEND which waits is
judged again in its turn (69), which accesses the porter's counters count (48), and that a command whose condition does not hold has no effect (24). -/
def Obligations.StaysComplete : Prop :=
  (∀ (s : State) (f : Frame) (i : Nat), InnOpen s f → f.address = 0 → cardValid f.payload (some s.coord) = true → (cardOf f.payload).twin = none →
    s.freeIndex = some i → (s.stay i).booked = 0 → s.poisoned (cardAt i / 64) = false →
    s.admits { freeStay with state := 1, priority := (cardOf f.payload).priority } ((cardOf f.payload).pages (cardOf f.payload).reserve) = true →
    Completes (.open f) s (fun t =>
      t.stay i = { freeStay with state := 1, party := f.party, gen := (s.stay i).gen, ownerRank := f.srcRank, lastUse := bitsOf s.now 43 28,
                                 priority := (cardOf f.payload).priority, booked := (cardOf f.payload).pages (cardOf f.payload).reserve } ∧
      t.peek (cardAt i) 32 = f.payload ∧ t.reg (ST_CNT 0) = s.reg (ST_CNT 0) + 1 ∧
      Replied t f 0x28 (padTo 32 (openedDocket (i + (s.stay i).gen * 2 ^ 18) 0 false)))) ∧
  (∀ (s : State) (f : Frame), Calm s → Answerable s f → s.phase ≠ 6 → s.flag ST_CTRL_ENABLE = false → Completes (.open f) s (fun t =>
    t.stays = s.stays ∧ t.reg (ST_REFUSED 4) = s.reg (ST_REFUSED 4) + 1 ∧ Replied t f 0x2F (padTo 32 [5, 0x20]))) ∧
  (∀ (s : State) (f : Frame), InnOpen s f → cardValid f.payload (some s.coord) = false → Completes (.open f) s (fun t =>
    t.stays = s.stays ∧ t.reg (ST_REFUSED 5) = s.reg (ST_REFUSED 5) + 1 ∧ Replied t f 0x2F (padTo 32 [6, 0x20]))) ∧
  (∀ (s : State) (f : Frame) (i : Nat), InTurn s f i → f.kind = 0x21 → (s.stay i).state = 1 → (s.card i).appendOk f.payload (s.stay i).tokens false = true →
    (appendDocket f.payload).count = 0 → (s.stay i).tokens ≤ (appendDocket f.payload).start → (s.stay i).twinValid = false → Completes (.append f) s (fun t =>
      t.stay i = { s.stay i with lastUse := bitsOf s.now 43 28 } ∧ t.reg (ST_CNT 1) = s.reg (ST_CNT 1) + 1 ∧
      Replied t f 0x29 (padTo 32 (natLE 3 (s.stay i).tokens ++ [0])))) ∧
  (∀ (s : State) (f : Frame) (i room : Nat), InTurn s f i → f.kind = 0x21 → (s.stay i).state = 1 → (s.card i).appendOk f.payload (s.stay i).tokens false = true →
    (appendDocket f.payload).count = 1 → (appendDocket f.payload).heads = 1 → (appendDocket f.payload).fmt = 1 → (s.card i).kv = 0 → (s.card i).d ≤ 256 →
    s.attendsOf i = [] → (s.stay i).twinValid = false → room ≠ 0 → s.ledgerOf room = (1, false) →
    (s.pageRoom i ((appendDocket f.payload).start / (s.card i).tpr * (s.card i).lk + (appendDocket f.payload).layer * (s.card i).kvHeads +
      (appendDocket f.payload).first)).1 = some room → Completes (.append f) s (fun t =>
      t.peek (room * 65536 + (appendDocket f.payload).start % (s.card i).tpr * (s.card i).elem) (s.card i).elem = (f.payload.drop 32).take (s.card i).elem ∧
      t.peek (room * 65536 + (s.card i).tpr * (s.card i).elem + (appendDocket f.payload).start % (s.card i).tpr * (s.card i).elem) (s.card i).elem =
        f.payload.drop (32 + (s.card i).elem) ∧
      (t.stay i).tokens = max (s.stay i).tokens ((appendDocket f.payload).start + 1) ∧
      Replied t f 0x29 (padTo 32 (natLE 3 (max (s.stay i).tokens ((appendDocket f.payload).start + 1)) ++ [0])))) ∧
  (∀ (s : State) (f : Frame) (i : Nat), InTurn s f i → f.kind = 0x21 → (s.stay i).state = 1 → (s.card i).appendOk f.payload (s.stay i).tokens false = false →
    Completes (.append f) s (fun t => t.stays = (s.stamp i).stays ∧ t.reg (ST_REFUSED 5) = s.reg (ST_REFUSED 5) + 1 ∧ Replied t f 0x2F (padTo 32 [6, 0x21]))) ∧
  (∀ (s : State) (f : Frame), s.engineFull f.address = true → Completes (.append f) s (fun t => t = s)) ∧
  (∀ (s : State) (f : Frame) (i : Nat), s.phase ≠ 6 → s.trusted f = true → f.address % 2 ^ 18 = i → s.engineFull f.address = false → s.blocked i = true →
    Completes (.append f) s (fun t => t.stays.waiting = s.stays.waiting ++ [⟨i, .request f, f, none, none, none, false⟩] ∧ t.mem = s.mem)) ∧
  (∀ (s : State) (f : Frame) (i : Nat), InnOpen s f → f.address % 2 ^ 18 = i → s.engineFull f.address = false → s.remirroring i = true → s.blocked i = false →
    docketOk f = true → bitsOf f.address 31 18 = (s.stay i).gen → (s.stay i).party = f.party → (s.stay i).state = 1 → f.kind = 0x21 →
    s.poisoned (cardAt i / 64) = false → Completes (.append f) s (fun t => t.stays.waiting = s.stays.waiting ++ [⟨i, .request f, f, none, none, none, false⟩])) ∧
  (∀ (s : State) (index : Nat), s.phase = 6 ∨ (Calm s ∧ ∀ w ∈ s.stays.waiting, w.index ≠ index) → Completes (.appendResume index) s (fun t => t = s)) ∧
  (∀ (s : State) (f : Frame) (i : Nat), InnOpen s f → f.address % 2 ^ 18 = i → f.kind = 0x21 → docketOk f = true → bitsOf f.address 31 18 = (s.stay i).gen →
    (s.stay i).party = f.party → s.poisoned (cardAt i / 64) = false → s.remirroring i = false →
    s.stays.waiting = [⟨i, .request f, f, none, none, none, false⟩] → (s.stay i).state = 1 →
    (s.card i).appendOk f.payload (s.stay i).tokens false = true → (appendDocket f.payload).count = 0 → (s.stay i).tokens ≤ (appendDocket f.payload).start →
    (s.stay i).twinValid = false → Completes (.appendResume i) s (fun t => t.stays.waiting = [] ∧ t.reg (ST_CNT 1) = s.reg (ST_CNT 1) + 1 ∧
      Replied t f 0x29 (padTo 32 (natLE 3 (s.stay i).tokens ++ [0])))) ∧
  (∀ (s : State) (f : Frame) (i cls : Nat) (prog : Program) (rooms : List Nat), InTurn s f i → f.kind = 0x22 → (s.stay i).state = 1 → s.stays.queries = [] →
    bitsOf f.address 49 40 = 0 → f.payload.length ≤ 4096 → f.payload.length = 2 * (s.card i).qHeads * (s.card i).d → bitsOf f.address 39 32 < (s.card i).layers →
    s.programOf (s.card i) = some prog → (s.stay i).inflight < 63 → s.stays.placing = [] → (s.card i).window = 0 →
    classFor prog ((s.card i).roomSet (bitsOf f.address 39 32) 0 (s.stay i).tokens).length = some cls →
    (State.roomsOf ((s.card i).roomSet (bitsOf f.address 39 32) 0 (s.stay i).tokens) s i).1 = some rooms → (∀ r ∈ rooms, s.roomBad r = false) →
    0 < f.payload.length → Completes (.attend f) s (fun t =>
      t.stays.placing.map (fun a => (a.index, a.handle, a.layer)) = [(i, s.handleOf i, bitsOf f.address 39 32)] ∧
      t.stays.placing.map (fun a => (a.rooms, a.query, a.cls)) = [(rooms, f.payload, cls)] ∧
      (t.stay i).inflight = (s.stay i).inflight + 1 ∧ t.reg (ST_CNT 2) = s.reg (ST_CNT 2) + 1)) ∧
  (∀ (s : State) (f : Frame), s.phase ≠ 6 → s.trusted f = true → s.stays.queries = [] → 1 ≤ bitsOf f.address 47 44 → bitsOf f.address 43 40 = 0 →
    bitsOf f.address 49 48 = 0 → Completes (.attend f) s (fun t => t.stays.queries = [{ newQuery f s.free with parts := [(0, f.payload)] }])) ∧
  (∀ (s : State) (q : Query), s.stays.queries = [q] → q.at_ + s.usOf ST_CTRL_ASSEMBLE_WAIT ≤ s.free → Calm s → Answerable s q.frame →
    Completes (.assembleWaitExpiry q.srcCoord q.srcPort q.tag) s (fun t => t.stays.queries = [] ∧ t.reg (ST_REFUSED 5) = s.reg (ST_REFUSED 5) + 1 ∧
      Replied t q.frame 0x2F (padTo 32 [6, 0x22]))) ∧
  (∀ (s : State) (q : Query), s.stays.queries = [q] → s.free < q.at_ + s.usOf ST_CTRL_ASSEMBLE_WAIT →
    Completes (.assembleWaitExpiry q.srcCoord q.srcPort q.tag) s (fun t => t = s))

/-- R211, R224, R234: unlisted kinds of request are counted, and the eviction thresholds and the two areas of rooms are written or refused. That the areas
are counted from the first ENABLE on is the model's choice (log entry 40). -/
def Obligations.StayControlsComplete : Prop :=
  (∀ (s : State) (f : Frame), s.phase ≠ 6 → s.trusted f = true → f.kind ∈ [0x27, 0x38, 0x39, 0x3A, 0x3B, 0x3C, 0x3D, 0x3E, 0x3F] → Completes (.roomUnlistedKind f) s (fun t =>
    t.reg (ST_CNT 11) = s.reg (ST_CNT 11) + 1 ∧ t.stays = s.stays)) ∧
  (∀ (s : State) (value : Nat), bitsOf value 15 0 < bitsOf value 31 16 → Completes (.evictThresholdWrite value) s (fun t =>
    t.fld ST_EVICT_HIGH = bitsOf value 31 16 ∧ t.fld ST_EVICT_LOW = bitsOf value 15 0 ∧ t.fld ST_EVICT_ENABLE = bitsOf value 63 63 ∧
    t.reg ST_ERR = s.reg ST_ERR)) ∧
  (∀ (s : State) (value : Nat), bitsOf value 31 16 ≤ bitsOf value 15 0 → Completes (.evictThresholdWrite value) s (fun t =>
    t.reg ST_EVICT = s.reg ST_EVICT ∧ t.fld ST_ERR_EVICT_ORDER = 1)) ∧
  (∀ (s : State) (inbound : Bool) (value : Nat), s.flag ST_CTRL_ENABLE = true → Completes (.areaWrite inbound value) s (fun t =>
    t.reg ST_STABLE = s.reg ST_STABLE ∧ t.reg ST_INBOUND = s.reg ST_INBOUND ∧ t.fld ST_ERR_AREA_BUSY = 1)) ∧
  (∀ (s : State) (value : Nat), s.flag ST_CTRL_ENABLE = false → Completes (.areaWrite true value) s (fun t =>
    t.fld ST_INBOUND_BASE = bitsOf value 23 0 ∧ t.fld ST_INBOUND_ROOMS = bitsOf value 47 24 ∧ t.reg ST_STABLE = s.reg ST_STABLE)) ∧
  (∀ (s : State) (value : Nat), s.flag ST_CTRL_ENABLE = false → Completes (.areaWrite false value) s (fun t =>
    t.fld ST_STABLE_BASE = bitsOf value 23 0 ∧ t.fld ST_STABLE_ROOMS = bitsOf value 47 24 ∧ t.reg ST_INBOUND = s.reg ST_INBOUND))

/-- R213, R222 to R227: stays are forked, parked, brought back and closed. These are the model's choices: the order of several refusals (log entry 55),
what a PARK without a fit target gets (56), the chart node that is taken (41), and what a close or a park does over a node that reads as poison (175). -/
def Obligations.StayEndsComplete : Prop :=
  (∀ (s : State) (f : Frame) (i j : Nat), InTurn s f i → f.kind = 0x23 → (s.stay i).state = 1 → forkReserved f.payload = true → leAt f.payload 0 3 = 0 →
    cardValid (forkCard (s.peek (cardAt i) 32) f.payload) (some s.coord) = true → (cardOf (forkCard (s.peek (cardAt i) 32) f.payload)).twin = none →
    s.freeIndex = some j → (s.stay j).booked = 0 → s.poisoned (cardAt j / 64) = false →
    s.admits { freeStay with state := 1, priority := (cardOf (forkCard (s.peek (cardAt i) 32) f.payload)).priority }
      ((cardOf (forkCard (s.peek (cardAt i) 32) f.payload)).pages (cardOf (forkCard (s.peek (cardAt i) 32) f.payload)).reserve) = true →
    Completes (.fork f) s (fun t => (t.stay j).state = 1 ∧ (t.stay j).party = f.party ∧ (t.stay j).tokens = 0 ∧ (t.stay j).root = 0 ∧
      t.peek (cardAt j) 32 = forkCard (s.peek (cardAt i) 32) f.payload ∧ t.reg (ST_CNT 0) = s.reg (ST_CNT 0) + 1 ∧
      Replied t f 0x2B (padTo 32 (openedDocket (j + (s.stay j).gen * 2 ^ 18) 0 false)))) ∧
  (∀ (s : State) (f : Frame) (i j r : Nat), InTurn s f i → f.kind = 0x23 → (s.stay i).state = 1 → forkReserved f.payload = true →
    leAt f.payload 0 3 ≤ (s.stay i).tokens → (cardOf (forkCard (s.peek (cardAt i) 32) f.payload)).pages (leAt f.payload 0 3) = 1 →
    cardValid (forkCard (s.peek (cardAt i) 32) f.payload) (some s.coord) = true → (cardOf (forkCard (s.peek (cardAt i) 32) f.payload)).twin = none →
    s.freeIndex = some j → (s.stay j).booked = 0 → s.poisoned (cardAt j / 64) = false →
    s.admits { freeStay with state := 1, priority := (cardOf (forkCard (s.peek (cardAt i) 32) f.payload)).priority }
      ((cardOf (forkCard (s.peek (cardAt i) 32) f.payload)).pages (cardOf (forkCard (s.peek (cardAt i) 32) f.payload)).reserve) = true →
    (s.stay i).depth = 0 → (s.stay i).root < s.stays.nodeMark → (s.pageRoom i 0).1 = some r → r ≠ 0 → (s.ledgerOf r).1 < 65535 → (s.ledgerOf r).2 = false → s.stays.nodeFree = [] → 0 < s.stays.nodeMark →
    s.stays.nodeMark < 4194304 → s.poisoned (s.stays.nodeMark * 256 / 64) = false →
    leNat (s.peek (s.stays.nodeMark * 256) 4) = 0 → Completes (.fork f) s (fun t =>
      (t.stay j).tokens = leAt f.payload 0 3 ∧ (t.stay j).rooms = 1 ∧ (t.pageRoom j 0).1 = some r ∧ (t.ledgerOf r).1 = (s.ledgerOf r).1 + 1 ∧
      Replied t f 0x2B (padTo 32 (openedDocket (j + (s.stay j).gen * 2 ^ 18) 0 false)))) ∧
  (∀ (s : State) (f : Frame) (i : Nat), InTurn s f i → f.kind = 0x24 → (s.stay i).state = 1 → s.moving i = false → byteAt f.payload 0 = 1 →
    Completes (.park f) s (fun t => t.stays.moves = s.stays.moves ++ [⟨i, .request f, 1, false, false, 0, 0, 0, 0, 0, 0, 0⟩] ∧
      (t.stay i).state = 1 ∧ t.mem.bytes = s.mem.bytes ∧ t.mem.poison = s.mem.poison)) ∧
  (∀ (s : State) (f : Frame) (i : Nat), InTurn s f i → f.kind = 0x24 → (s.stay i).state = 1 → s.moving i = false → byteAt f.payload 0 = 2 →
    leAt f.payload 12 2 = 0 → (s.card i).peer = none → Completes (.park f) s (fun t => t.stays = (s.stamp i).stays ∧ Replied t f 0x2F (padTo 32 [0x0C, 0x24]))) ∧
  (∀ (s : State) (f : Frame) (i : Nat), InTurn s f i → f.kind = 0x25 → (s.stay i).state = 1 → s.moving i = false → Completes (.unpark f) s (fun t =>
    t.stays = (s.stamp i).stays ∧ Replied t f 0x2D (padTo 32 (natLE 3 (s.stay i).tokens ++ natLE 3 0)))) ∧
  (∀ (s : State) (f : Frame) (i : Nat), InTurn s f i → f.kind = 0x25 → (s.stay i).state = 3 → s.moving i = false → (s.stay i).tokens = 0 →
    leAt f.payload 0 3 < s.fld ST_INBOUND_ROOMS → s.stackLost (pairStack ((s.fld ST_INBOUND_BASE + leAt f.payload 0 3) * 1024)) = false →
    s.poisoned ((s.fld ST_INBOUND_BASE + leAt f.payload 0 3) * 1024) = false →
    s.peek ((s.fld ST_INBOUND_BASE + leAt f.payload 0 3) * 65536) 44 = s.peek (cardAt i) 32 ++ natLE 4 0 ++ natLE 4 0 ++ natLE 4 (s.handleOf i) →
    s.admits (s.stay i) 0 = true → s.handleOf i < 2 ^ 32 → Completes (.unpark f) s (fun t => (t.stay i).state = 1 ∧ t.reg (ST_CNT 6) = s.reg (ST_CNT 6) + 1 ∧
      Replied t f 0x2D (padTo 32 (natLE 3 0 ++ natLE 3 0)))) ∧
  (∀ (s : State) (f : Frame) (i : Nat), InTurn s f i → f.kind = 0x25 → (s.stay i).state = 4 → s.moving i = false →
    s.admits (s.stay i) ((s.card i).pages (s.stay i).tokens) = true → Completes (.unpark f) s (fun t => (t.stay i).state = 5 ∧
      (t.stay i).booked = (s.stay i).booked + (s.card i).pages (s.stay i).tokens ∧
      t.stays.moves = s.stays.moves ++ [⟨i, .request f, 3, false, false, (s.stay i).loc / 2 ^ 18, (s.stay i).loc % 2 ^ 18, 1, 0, s.stays.mirrorSeq % 16384, 0, (s.card i).pages (s.stay i).tokens⟩])) ∧
  (∀ (s : State) (f : Frame) (i : Nat), InTurn s f i → f.kind = 0x26 → (s.stay i).state = 1 → s.moving i = false → Completes (.close f) s (fun t =>
    (t.stay i).state = 6 ∧ t.stays.waiting = s.stays.waiting ++ [⟨i, .request f, f, none, none, none, true⟩])) ∧
  (∀ (s : State) (f : Frame) (i : Nat), InTurn s f i → f.kind = 0x26 → (s.stay i).state = 9 → (s.stay i).twinValid = false → s.moving i = false →
    Completes (.close f) s (fun t => t.stay i = { freeStay with gen := ((s.stay i).gen + 1) % 16384 } ∧ Replied t f 0x2E (padTo 32 [0, 0, 0]))) ∧
  (∀ (s : State) (f : Frame) (i : Nat), Calm s → Answerable s f → (s.stay i).state = 6 → (s.stay i).inflight = 0 → s.phase ≠ 6 → (s.stay i).twinValid = false →
    f.kind = 0x26 → s.stays.waiting = [⟨i, .request f, f, none, none, none, true⟩] → (s.readChart i).1.clean = true → Completes (.closeComplete i) s (fun t =>
      t.stay i = { freeStay with gen := ((s.stay i).gen + 1) % 16384 } ∧ t.stays.waiting = [] ∧
      Replied t f 0x2E (padTo 32 (natLE 3 (s.readChart i).1.rooms.length)))) ∧
  (∀ (s : State) (i r : Nat) (ns : List Nat), (s.stay i).state = 6 → (s.stay i).inflight = 0 → s.phase ≠ 6 → s.stays.waiting = [] → s.mem.merge = [] → (s.readChart i).1 = ⟨ns, [r], true⟩ →
    s.ledgerOf r = (1, false) → s.stays.vac.length = 8 → Completes (.closeComplete i) s (fun t => (t.ledgerOf r).1 = 0 ∧ t.stays.vac.getD (roomStack r) 0 = r)) ∧
  (∀ (s : State) (i : Nat), (s.stay i).state ≠ 6 → Completes (.closeComplete i) s (fun t => t = s))

/-- R224 to R226, R434: parks to the host and to a peer, and the guests that arrive. These are the model's choices: that one room of the ring stays free
(log entry 57), what a LODGE_ACK with a status and a LODGE of an unknown entry do (58), where a GUEST entry keeps its home (60), what an eviction's
park sets (64), and how a poisoned pair travels (173). -/
def Obligations.ParksComplete : Prop :=
  (∀ (s : State) (m : Move) (f : Frame) (i off head : Nat), Calm s → Answerable s f → s.move? i = some m → m.kind = 1 → m.evict = false → m.asker = .request f →
    (s.stay i).inflight = 0 → (s.stay i).tokens = 0 → (s.stay i).root = 0 → s.phase ≠ 6 → s.ringPlace 1 = some (off, head) → s.canNotify = true → CardClean s i →
    s.stays.waiting = [] → s.stackLost (roomStack (s.fld ST_STABLE_BASE + off)) = false → Completes (.parkToHost i) s (fun t =>
      (t.stay i).state = 3 ∧ t.fld ST_STABLE_HEAD_HEAD = head % 2 ^ 24 ∧ t.peek ((s.fld ST_STABLE_BASE + off) * 65536) 56 = s.imageHeader i 0 ∧
      t.move? i = none ∧ t.reg (ST_CNT 4) = s.reg (ST_CNT 4) + 1 ∧ Replied t f 0x2C (padTo 32 (natLE 1 1 ++ natLE 3 0)))) ∧
  (∀ (s : State) (m : Move) (f : Frame) (i : Nat), Calm s → Answerable s f → s.move? i = some m → m.kind = 1 → m.evict = false → m.asker = .request f →
    (s.stay i).inflight = 0 → s.phase ≠ 6 → s.fld ST_STABLE_ROOMS = 0 → s.stays.waiting = [] → CardClean s i → Completes (.parkToHost i) s (fun t =>
      (t.stay i).state = 1 ∧ t.move? i = none ∧ t.mem.bytes = s.mem.bytes ∧ t.mem.poison = s.mem.poison ∧ Replied t f 0x2F (padTo 32 [0x0C, 0x24]))) ∧
  (∀ (s : State) (m : Move) (i : Nat) (rooms : List Nat), Calm s → RouteTo s m.peer → s.move? i = some m → m.kind = 2 → m.stage = 0 → (s.stay i).inflight = 0 → s.phase ≠ 6 →
    CardClean s i → (State.roomsOf (List.range ((s.card i).pages (s.stay i).tokens)) s i).1 = some rooms → Completes (.parkToPeer i) s (fun t => (t.stay i).state = 2 ∧
      t.move? i = some { m with stage := 1, tag := s.stays.mirrorSeq % 16384, rooms := (s.stay i).rooms,
                                   pages := (s.card i).pages (s.stay i).tokens } ∧
      Sent t (fun g => g.kind == 0x32 && g.dstCoord == m.peer && g.dstPort == 0xF0 && g.party == (s.stay i).party &&
        g.payload == s.peek (cardAt i) 32 ++ natLE 4 (s.stay i).tokens ++ natLE 4 ((s.card i).pages (s.stay i).tokens) ++ natLE 4 (s.handleOf i)))) ∧
  (∀ (s : State) (f : Frame) (i : Nat), InnPeer s f → f.payload.length = 44 → cardValid (f.payload.take 32) none = true →
    leAt f.payload 36 4 = (cardOf (f.payload.take 32)).pages (leAt f.payload 32 4) → s.freeIndex = some i → (s.stay i).booked = 0 →
    s.admits { freeStay with state := 8 } (leAt f.payload 36 4) = true → Completes (.lodgeBook f) s (fun t =>
      t.stay i = { freeStay with
        state := 8, party := f.party, gen := (s.stay i).gen, tokens := leAt f.payload 32 4, ownerRank := f.srcRank, twinCoord := f.srcCoord,
        twinIndex := leAt f.payload 40 4 % 2 ^ 18, lastUse := bitsOf s.now 43 28, priority := (cardOf (f.payload.take 32)).priority,
        booked := leAt f.payload 36 4 } ∧
      Replied t f 0x33 (padTo 32 ([0, 0, 0, 0] ++ natLE 4 (i + (s.stay i).gen * 2 ^ 18))))) ∧
  (∀ (s : State) (f : Frame), InnPeer s f → f.payload.length ≠ 44 → Completes (.lodgeBook f) s (fun t =>
    t.stays = s.stays ∧ Replied t f 0x33 (padTo 32 [6]))) ∧
  (∀ (s : State) (f : Frame) (m : Move) (room : Nat), Calm s → RouteTo s f.srcCoord → s.trusted f = true → s.phase ≠ 6 →
    s.stays.moves.find? (fun m => m.kind == 2 && m.stage == 1 && m.peer == f.srcCoord && m.tag == f.tag) = some m → byteAt f.payload 0 = 0 →
    0 < m.pages → s.mem.merge = [] → (s.pageRoom m.index 0).1 = some room → room ≠ 0 →
    s.stackLost (roomStack room) = false → (∀ e ∈ s.mem.poison, e.1 / 1024 ≠ room) → Completes (.lodgeBooked f) s (fun t =>
      t.move? m.index = some { m with far := leAt f.payload 4 4 % 2 ^ 18, stage := 2, page := 0 } ∧
      PageSent t f.srcCoord (leAt f.payload 4 4 % 2 ^ 18) 0 (fun k => s.peek (room * 65536 + 4096 * k) 4096))) ∧
  (∀ (s : State) (f g : Frame) (m : Move), Calm s → Answerable s g → s.trusted f = true → s.phase ≠ 6 →
    s.stays.moves.find? (fun m => m.kind == 2 && m.stage == 1 && m.peer == f.srcCoord && m.tag == f.tag) = some m → byteAt f.payload 0 ≠ 0 →
    m.evict = false → m.asker = .request g → s.stays.waiting = [] → Completes (.lodgeBooked f) s (fun t =>
      (t.stay m.index).state = 1 ∧ t.move? m.index = none ∧ Replied t g 0x2F (padTo 32 [0x0C, 0x24]))) ∧
  (∀ (s : State) (f : Frame) (i : Nat) (a : Arriving), s.phase ≠ 6 → s.trusted f = true → f.address % 2 ^ 18 = i → CardClean s i → f.poison = [] → s.takesPages (s.card i) i f.srcCoord (bitsOf f.address 41 18) = true →
    f.payload.length = 4096 → bitsOf f.address 45 42 < 15 →
    s.stays.arriving.find? (fun a => a.index == i && a.page == bitsOf f.address 41 18) = some a →
    s.stackLost (roomStack a.room) = false → Completes (.lodge f) s (fun t =>
      t.peek (a.room * 65536 + 4096 * bitsOf f.address 45 42) 4096 = f.payload ∧ t.stays = s.stays)) ∧
  (∀ (s : State) (f : Frame) (i : Nat) (a : Arriving), InnPeer s f → f.address % 2 ^ 18 = i → (s.stay i).state = 8 → (s.stay i).twinCoord = f.srcCoord →
    bitsOf f.address 41 18 < (s.card i).pages (s.stay i).tokens → f.payload.length = 4096 → bitsOf f.address 45 42 = 15 →
    s.poisoned (cardAt i / 64) = false → f.poison = [] →
    s.stays.arriving.find? (fun a => a.index == i && a.page == bitsOf f.address 41 18) = some a → a.mend = false → a.index = i → a.page = bitsOf f.address 41 18 →
    a.room < 2 ^ 24 → s.stays.moves = [] → (s.stay i).depth = 0 → 0 < (s.stay i).root → (s.stay i).root < 4194304 → bitsOf f.address 41 18 < 64 →
    (∀ e ∈ s.mem.poison, e.1 / 4 ≠ (s.stay i).root) → Completes (.lodge f) s (fun t =>
      (t.pageRoom i (bitsOf f.address 41 18)).1 = some a.room ∧ a ∉ t.stays.arriving ∧ Replied t f 0x35 (padTo 32 [0]))) ∧
  (∀ (s : State) (f : Frame) (m : Move), s.trusted f = true → s.phase ≠ 6 → s.stays.moves.find? (fun m => (m.kind == 2 || m.kind == 4) && m.stage == 2 && m.peer == f.srcCoord &&
      m.tag == f.tag && m.far == f.address % 2 ^ 18 && m.page == bitsOf f.address 41 18) = some m → byteAt f.payload 0 = 0 →
    m.page + 1 < m.pages → (s.pageRoom m.index m.page).1 = some 0 → Completes (.lodgeAck f) s (fun t =>
      t.move? m.index = some { m with page := m.page + 1 })) ∧
  (∀ (s : State) (f g : Frame) (m : Move), Calm s → Answerable s g → s.trusted f = true → s.phase ≠ 6 → s.stays.moves.find? (fun m => (m.kind == 2 || m.kind == 4) && m.stage == 2 &&
      m.peer == f.srcCoord && m.tag == f.tag && m.far == f.address % 2 ^ 18 && m.page == bitsOf f.address 41 18) = some m → m.kind = 2 → m.evict = false →
    m.asker = .request g → byteAt f.payload 0 = 0 → m.pages ≤ m.page + 1 → (s.stay m.index).root = 0 → s.stays.waiting = [] →
    Completes (.lodgeAck f) s (fun t => (t.stay m.index).state = 4 ∧ (t.stay m.index).loc = m.peer * 2 ^ 18 + m.far ∧ t.move? m.index = none ∧
      t.reg (ST_CNT 5) = s.reg (ST_CNT 5) + 1 ∧ Replied t g 0x2C (padTo 32 (natLE 1 2 ++ natLE 3 m.rooms))))

/-- R225, R227, R228: recalls of parked stays, from the host and from a peer, and evictions, one stay at a time. These are the model's choices: that
RECALLED answers every operation and what a failed mend leads to (log entry 63), that a recall of a page from a stay without a chart is refused (142),
the state that an eviction's park sets (64), and that an event whose condition does not hold has no effect (24). -/
def Obligations.RecallsComplete : Prop :=
  (∀ (s : State) (f : Frame) (i : Nat), InnPeer s f → s.guestOf f = some i → s.moving i = false → 0 < (s.card i).pages (s.stay i).tokens →
    s.poisoned (cardAt i / 64) = false → (s.stay i).root = 0 → Completes (.recallReturn f) s (fun t =>
      t.stays.moves = s.stays.moves ++ [⟨i, .nobody, 4, false, false, f.srcCoord, (s.stay i).twinIndex, 2, 0, f.tag, (s.stay i).rooms,
        (s.card i).pages (s.stay i).tokens⟩] ∧
      Replied t f 0x37 (padTo 32 [0]) ∧ PageSent t f.srcCoord (s.stay i).twinIndex 0 (fun _ => zeroBytes 4096))) ∧
  (∀ (s : State) (f : Frame), InnPeer s f → s.guestOf f = none → Completes (.recallReturn f) s (fun t => t.stays = s.stays ∧ Replied t f 0x37 (padTo 32 [1]))) ∧
  (∀ (s : State) (f : Frame) (i : Nat), InnPeer s f → s.guestOf f = some i → (s.readChart i).1.clean = true → Completes (.recallDiscard f) s (fun t =>
    t.stay i = { freeStay with gen := ((s.stay i).gen + 1) % 16384 } ∧ t.move? i = none ∧ Replied t f 0x37 (padTo 32 [0]))) ∧
  (∀ (s : State) (f : Frame) (r : Nat), InnPeer s f → (s.stay (f.address % 2 ^ 18)).twinCoord = f.srcCoord → (s.stay (f.address % 2 ^ 18)).party = f.party →
    (s.stay (f.address % 2 ^ 18)).lends = true → (s.pageRoom (f.address % 2 ^ 18) (bitsOf f.address 44 21)).1 = some r → r ≠ 0 → s.roomBad r = false →
    (∀ e ∈ s.mem.poison, e.1 / 1024 ≠ r) → Completes (.recallPage f) s (fun t => t.stays = s.stays ∧ Replied t f 0x37 (padTo 32 [0]) ∧
      PageSent t f.srcCoord (s.stay (f.address % 2 ^ 18)).twinIndex (bitsOf f.address 44 21) (fun k => s.peek (r * 65536 + 4096 * k) 4096))) ∧
  (∀ (s : State) (f : Frame) (m : Move), s.trusted f = true → s.phase ≠ 6 → byteAt f.payload 0 = 0 → bitsOf f.address 20 18 = 0 →
    s.stays.moves.find? (fun m => m.kind == 3 && m.stage == 1 && m.peer == f.srcCoord && m.tag == f.tag) = some m →
    0 < m.pages → Completes (.recalled f) s (fun t => t.move? m.index = some { m with stage := 2 })) ∧
  (∀ (s : State) (f g : Frame) (m : Move), Calm s → Answerable s g → s.trusted f = true → s.phase ≠ 6 → byteAt f.payload 0 ≠ 0 → bitsOf f.address 20 18 = 0 →
    s.stays.moves.find? (fun m => m.kind == 3 && m.stage == 1 && m.peer == f.srcCoord && m.tag == f.tag) = some m → m.asker = .request g → s.stays.waiting = [] →
    Completes (.recalled f) s (fun t => (t.stay m.index).state = 9 ∧ t.move? m.index = none ∧ Replied t g 0x2F (padTo 32 [0x0A, 0x25]))) ∧
  (∀ s : State, s.flag ST_EVICT_ENABLE = false → Completes .eviction s (fun t => t.stays = { s.stays with evicting := false } ∧ t.mem = s.mem)) ∧
  (∀ (s : State) (i : Nat), s.flag ST_EVICT_ENABLE = true → s.stays.counted = true → s.phase ≠ 6 → s.margin < 256 * s.fld ST_EVICT_LOW →
    (∀ m ∈ s.stays.moves, m.evict = false) →
    256 * s.fld ST_EVICT_LOW ≤ 256 * s.fld ST_EVICT_HIGH → s.evictChoice = some i → CardClean s i → (s.card i).evictTo = 0 → (s.stay i).root = 0 → Completes .eviction s (fun t =>
      (t.stay i).state = 9 ∧ (t.stay i).booked = 0 ∧ t.reg (ST_CNT 8) = s.reg (ST_CNT 8) + 1)) ∧
  (∀ (s : State) (i : Nat), s.flag ST_EVICT_ENABLE = true → s.stays.counted = true → s.phase ≠ 6 → s.margin < 256 * s.fld ST_EVICT_LOW →
    (∀ m ∈ s.stays.moves, m.evict = false) →
    256 * s.fld ST_EVICT_LOW ≤ 256 * s.fld ST_EVICT_HIGH → s.evictChoice = some i → CardClean s i → (s.card i).evictTo = 1 → Completes .eviction s (fun t =>
      (t.stay i).state = 2 ∧ t.stays.moves = s.stays.moves ++ [⟨i, .nobody, 1, true, false, 0, 0, 0, 0, 0, 0, 0⟩])) ∧
  (∀ s : State, s.flag ST_EVICT_ENABLE = true → s.stays.counted = true → s.phase ≠ 6 → s.margin < 256 * s.fld ST_EVICT_LOW →
    256 * s.fld ST_EVICT_LOW ≤ 256 * s.fld ST_EVICT_HIGH → (∃ m ∈ s.stays.moves, m.evict = true) → Completes .eviction s (fun t =>
      t.stays = { s.stays with evicting := true } ∧ t.mem = s.mem))

/-- R215, R229 to R233: twins are opened, follow their homes, are acknowledged or given up, and take over. These are the model's choices: a twin's TOKENS
after a copied page (log entry 59), the fields of MIRROR frames and GUEST entries (60), what a failed MIRROR OPEN counts and books (61), what waits
during a REMIRROR (143), and that an event whose condition does not hold has no effect (24). -/
def Obligations.TwinsComplete : Prop :=
  (∀ (s : State) (f : Frame) (i : Nat), InnPeer s f → f.payload.length = 36 → cardValid (f.payload.take 32) none = true → s.freeIndex = some i →
    (s.stay i).booked = 0 → s.poisoned (cardAt i / 64) = false →
    s.admits { freeStay with state := 7, priority := (cardOf (f.payload.take 32)).priority }
      ((cardOf (f.payload.take 32)).pages (cardOf (f.payload.take 32)).reserve) = true → Completes (.mirrorOpen f) s (fun t =>
      (t.stay i).state = 7 ∧ (t.stay i).party = f.party ∧ (t.stay i).twinCoord = f.srcCoord ∧ (t.stay i).twinIndex = leAt f.payload 32 4 % 2 ^ 18 ∧
      t.peek (cardAt i) 32 = f.payload.take 32 ∧ Replied t f 0x31 (padTo 32 ([0, 0, 0, 0] ++ natLE 4 (i + (s.stay i).gen * 2 ^ 18))))) ∧
  (∀ (s : State) (f : Frame), InnPeer s f → f.payload.length ≠ 36 → Completes (.mirrorOpen f) s (fun t => t.stays = s.stays ∧ Replied t f 0x31 (padTo 32 [6]))) ∧
  (∀ (s : State) (f : Frame) (i : Nat), InnPeer s f → f.address % 2 ^ 18 = i → bitsOf f.address 20 18 = 1 → (s.stay i).state = 7 → (s.stay i).twinCoord = f.srcCoord →
    (s.stay i).party = f.party → s.blocked i = false → s.poisoned (cardAt i / 64) = false → (s.card i).appendOk f.payload (s.stay i).tokens true = true →
    (appendDocket f.payload).count = 0 → (s.stay i).tokens ≤ (appendDocket f.payload).start → Completes (.mirrorAppend f) s (fun t =>
      t.stay i = s.stay i ∧ t.reg (ST_CNT 1) = s.reg (ST_CNT 1) + 1 ∧ Replied t f 0x31 (padTo 32 [0]))) ∧
  (∀ (s : State) (f : Frame) (i j : Nat), InnPeer s f → f.payload.length = 40 → leAt f.payload 32 4 % 2 ^ 18 = i → bitsOf f.address 20 18 = 2 → (s.stay i).state = 7 →
    (s.stay i).twinCoord = f.srcCoord → (s.stay i).party = f.party → s.blocked i = false → s.poisoned (cardAt i / 64) = false → forkReserved (f.payload.take 32) = true → leAt f.payload 0 3 = 0 →
    cardValid (forkCard (s.peek (cardAt i) 32) (f.payload.take 32)) none = true → s.freeIndex = some j → (s.stay j).booked = 0 →
    s.admits { freeStay with state := 7, priority := (cardOf (forkCard (s.peek (cardAt i) 32) (f.payload.take 32))).priority }
      ((cardOf (forkCard (s.peek (cardAt i) 32) (f.payload.take 32))).pages (cardOf (forkCard (s.peek (cardAt i) 32) (f.payload.take 32))).reserve) = true →
    Completes (.mirrorFork f) s (fun t => (t.stay j).state = 7 ∧ (t.stay j).twinCoord = f.srcCoord ∧ (t.stay j).twinIndex = leAt f.payload 36 4 % 2 ^ 18 ∧
      Replied t f 0x31 (padTo 32 ([0, 0, 0, 0] ++ natLE 4 (j + (s.stay j).gen * 2 ^ 18))))) ∧
  (∀ (s : State) (f : Frame) (i : Nat), InnPeer s f → f.address % 2 ^ 18 = i → bitsOf f.address 20 18 = 3 → (s.stay i).state = 7 → (s.stay i).twinCoord = f.srcCoord →
    (s.stay i).party = f.party → s.blocked i = false → (s.readChart i).1.clean = true → Completes (.mirrorClose f) s (fun t => t.stay i = { freeStay with gen := ((s.stay i).gen + 1) % 16384 } ∧
      Replied t f 0x31 (padTo 32 [0]))) ∧
  (∀ (s : State) (f : Frame) (i : Nat), InnPeer s f → f.address % 2 ^ 18 = i → bitsOf f.address 20 18 = 3 → (s.stay i).state = 7 → (s.stay i).twinCoord = f.srcCoord →
    (s.stay i).party = f.party → s.blocked i = true → Completes (.mirrorClose f) s (fun t => t.stay i = s.stay i ∧
      t.stays.waiting = s.stays.waiting ++ [⟨i, .request f, f, none, none, none, false⟩])) ∧
  (∀ (s : State) (f : Frame) (i r : Nat), InnPeer s f → f.address % 2 ^ 18 = i → bitsOf f.address 20 18 = 4 → (s.stay i).state = 7 → (s.stay i).twinCoord = f.srcCoord →
    (s.stay i).party = f.party → s.blocked i = false → s.poisoned (cardAt i / 64) = false → f.poison = [] → f.payload.length = 4096 → bitsOf f.address 48 45 < 15 → (s.pageRoom i (bitsOf f.address 44 21)).1 = some r → r ≠ 0 →
    s.ledgerOf r = (1, false) → Completes (.mirrorRoomcopy f) s (fun t => t.peek (r * 65536 + 4096 * bitsOf f.address 48 45) 4096 = f.payload ∧
      t.stays = s.stays)) ∧
  (∀ (s : State) (f : Frame) (i r : Nat), InnPeer s f → f.address % 2 ^ 18 = i → bitsOf f.address 20 18 = 4 → (s.stay i).state = 7 → (s.stay i).twinCoord = f.srcCoord →
    (s.stay i).party = f.party → s.blocked i = false → s.poisoned (cardAt i / 64) = false → f.poison = [] → f.payload.length = 4096 → bitsOf f.address 48 45 = 15 → (s.pageRoom i (bitsOf f.address 44 21)).1 = some r → r ≠ 0 →
    s.ledgerOf r = (1, false) → Completes (.mirrorRoomcopy f) s (fun t => t.peek (r * 65536 + 4096 * 15) 4096 = f.payload ∧
      (s.stay i).tokens ≤ (t.stay i).tokens ∧ Replied t f 0x31 (padTo 32 [0]))) ∧
  (∀ (s : State) (f g : Frame) (m : Mirroring) (docket : List Byte), Calm s → Answerable s g → s.trusted f = true → s.phase ≠ 6 →
    s.stays.mirrors.find? (fun m => m.tag == f.tag && m.twin == f.srcCoord) = some m → byteAt f.payload 0 = 0 → m.op = 1 → m.asker = .request g →
    m.reply = some (0x29, docket) → Completes (.mirrorAck f) s (fun t => m ∉ t.stays.mirrors ∧ t.stays.table = s.stays.table ∧
      Replied t g 0x29 (padTo 32 docket))) ∧
  (∀ (s : State) (f g : Frame) (m : Mirroring), Calm s → Answerable s g → s.trusted f = true → s.phase ≠ 6 →
    s.stays.mirrors.find? (fun m => m.tag == f.tag && m.twin == f.srcCoord) = some m → byteAt f.payload 0 = 0 → m.op = 0 → m.asker = .request g →
    m.reply = some (0x28, []) → m.copy = none → Completes (.mirrorAck f) s (fun t =>
      (t.stay m.index).twinValid = true ∧ (t.stay m.index).twinCoord = f.srcCoord ∧ (t.stay m.index).twinIndex = leAt f.payload 4 4 % 2 ^ 18 ∧
      t.reg (ST_CNT 0) = s.reg (ST_CNT 0) + 1 ∧ m ∉ t.stays.mirrors ∧ Replied t g 0x28 (padTo 32 (openedDocket (s.handleOf m.index) (leAt f.payload 4 4) true)))) ∧
  (∀ (s : State) (f g : Frame) (m : Mirroring) (docket : List Byte), Calm s → Answerable s g → s.trusted f = true → s.phase ≠ 6 →
    s.stays.mirrors.find? (fun m => m.tag == f.tag && m.twin == f.srcCoord) = some m → byteAt f.payload 0 ≠ 0 → m.op = 1 → m.asker = .request g →
    m.reply = some (0x29, docket) → (s.stay m.index).twinValid = true → (s.stay m.index).twinCoord = m.twin → s.severity 0x080 0x18 < 4 →
    Completes (.mirrorAck f) s (fun t => (t.stay m.index).twinValid = false ∧ t.reg (ST_CNT 9) = s.reg (ST_CNT 9) + 1 ∧ Told s t 0x080 0x18 m.index ∧
      Replied t g 0x29 (padTo 32 (spliceBytes docket 3 [BitVec.ofNat 8 (byteAt docket 3 + 1)])))) ∧
  (∀ (s : State) (g : Frame) (i : Nat) (m : Mirroring) (docket : List Byte), Calm s → Answerable s g → s.stays.mirrors.find? (fun m => m.index == i) = some m →
    m.at_ + s.usOf ST_CTRL_MIRROR_WAIT ≤ s.free → s.phase ≠ 6 → m.op = 1 → m.asker = .request g → m.reply = some (0x29, docket) → (s.stay i).twinValid = true →
    (s.stay i).twinCoord = m.twin → s.severity 0x080 0x18 < 4 → Completes (.mirrorWaitExpiry i) s (fun t =>
      m ∉ t.stays.mirrors ∧ (t.stay i).twinValid = false ∧ t.reg (ST_CNT 9) = s.reg (ST_CNT 9) + 1 ∧
      Replied t g 0x29 (padTo 32 (spliceBytes docket 3 [BitVec.ofNat 8 (byteAt docket 3 + 1)])))) ∧
  (∀ (s : State) (i : Nat) (m : Mirroring), s.stays.mirrors.find? (fun m => m.index == i) = some m → s.free < m.at_ + s.usOf ST_CTRL_MIRROR_WAIT ∨ s.phase = 6 →
    Completes (.mirrorWaitExpiry i) s (fun t => t = s)) ∧
  (∀ (s : State) (value i : Nat), s.flag ST_TAKEOVER_STATUS_BUSY = false → value.testBit 61 = false → value.testBit 62 = false → (s.stay i).state = 7 →
    (s.stay i).twinCoord = bitsOf value 28 18 → Completes (.takeoverGo value) s (fun t => t.stay i = { s.stay i with state := 1, twinValid := false, oldHome := some (s.stay i).twinCoord } ∧
      t.flag ST_TAKEOVER_STATUS_BUSY = true)) ∧
  (∀ (s : State) (value i : Nat), s.flag ST_TAKEOVER_STATUS_BUSY = false → value.testBit 61 = false → value.testBit 62 = false →
    (s.stay i).state ≠ 7 ∨ (s.stay i).twinCoord ≠ bitsOf value 28 18 → Completes (.takeoverGo value) s (fun t => t.stay i = s.stay i ∧
      t.flag ST_TAKEOVER_STATUS_BUSY = true)) ∧
  (∀ (s : State) (value : Nat), s.flag ST_TAKEOVER_STATUS_BUSY = true → Completes (.takeoverGo value) s (fun t => t = s)) ∧
  (∀ s : State, s.flag ST_TAKEOVER_STATUS_BUSY = true → Completes .takeoverDone s (fun t => t.flag ST_TAKEOVER_STATUS_BUSY = false ∧
    t.fld ST_TAKEOVER_STATUS_DONE = s.stays.taken % 2 ^ 19)) ∧
  (∀ (s : State) (value : Nat), Calm s → (s.stay (bitsOf value 17 0)).state = 1 → (s.stay (bitsOf value 17 0)).twinValid = false →
    RouteTo s (bitsOf value 28 18) → CardClean s (bitsOf value 17 0) → Completes (.remirror value) s (fun t =>
      t.stays.mirrors = s.stays.mirrors ++ [⟨s.stays.mirrorSeq % 16384, bitsOf value 17 0, 0, .nobody, none, false, some 0, bitsOf value 28 18, s.free⟩] ∧
      Sent t (fun g => g.kind == 0x30 && g.dstCoord == bitsOf value 28 18 && g.dstPort == 0xF0 &&
        g.payload == s.peek (cardAt (bitsOf value 17 0)) 32 ++ natLE 4 (s.handleOf (bitsOf value 17 0)))))

/-- R246 to R248, R253 to R255, R262 to R265, R404 to R406, R408: work is placed, slots are bound and take inputs, cores are enabled, checked and
quarantined. These are the model's choices: which party an inbox takes frames of and which binding a launch takes (log entry 89), what quarantine
stops (86), the refusal of a binding with reserved bits (97), where a duplicate's operands are copied and what it counts (145, 82), when a check that
fails in a stopover is handled (149), and that an event whose condition does not hold has no effect (24). -/
def Obligations.CoreCareCompletes : Prop :=
  (∀ (s : State) (a : Attend) (p : Program) (k tick c n : Nat), s.stays.placing[0]? = some a → s.phase ≠ 6 → s.halted = false → s.bellSet = true →
    s.programOf (cardOf a.card) = some p → classFor p a.rooms.length = some k → earliest (s.freeSlots p.number k) = some (tick, c, n) → n < 16 →
    CoreThere s c → a.query.length ≤ 65536 → Completes (.attendPlace 0) s (fun t =>
      t.stays.placing = s.stays.placing.eraseIdx 0 ∧ ((t.core c).slots.getD n slotReset).phase = 1 ∧ ((t.core c).slots.getD n slotReset).work = some a ∧
      t.localRead c (slotAt n) a.query.length = a.query)) ∧
  (∀ (s : State) (pos : Nat), s.stays.placing[pos]? = none → Completes (.attendPlace pos) s (fun t => t = s)) ∧
  (∀ (s : State) (cl n value w0 : Nat), cl < 6 → n < 64 → (sparseGet (s.reg (CL_BIND_W0 cl n)) s.sw.held0 (CL_BIND_W0 cl n)).toNat = w0 → bitsOf w0 33 0 = 0 →
    bitsOf value 55 50 = 0 → ((s.core (4 * cl + n / 16)).slots.getD (n % 16) slotReset).bound = true → s.clusters.cores.length = 24 →
    Completes (.bindWrite cl n value) s (fun t =>
      ((t.core (4 * cl + n / 16)).slots.getD (n % 16) slotReset).bindNext = ((s.core (4 * cl + n / 16)).slots.getD (n % 16) slotReset).bindNext ++
        [(w0.testBit 63, { party := bitsOf w0 62 51, rank := bitsOf w0 50 34, mask := bitsOf value 63 56, base := bitsOf value 49 0 }, s.now)] ∧
      t.reg (CL_BIND_W0 cl n) = BitVec.ofNat 64 w0 ∧ t.reg (CL_BIND_W1 cl n) = BitVec.ofNat 64 value)) ∧
  (∀ (s : State) (cl n value : Nat), cl < 6 → n < 64 → ((s.core (4 * cl + n / 16)).slots.getD (n % 16) slotReset).bound = false →
    Completes (.bindWrite cl n value) s (fun t => t.clusters = s.clusters ∧ t.fld (CL_ERR_BIND_REFUSED cl) = 1)) ∧
  (∀ (s : State) (f : Frame) (c n off : Nat), s.trusted f = true → f.kind = 0x18 → 0xE0 ≤ f.dstPort → f.dstPort ≤ 0xE5 → c = 4 * (f.dstPort - 0xE0) + bitsOf f.address 1 0 →
    n = bitsOf f.address 5 2 → off = bitsOf f.address 27 6 → CoreThere s c → ((s.core c).slots.getD n slotReset).bound = true →
    ((s.core c).slots.getD n slotReset).takesParty f.party = true → bitsOf f.address 49 28 = 0 → off + f.payload.length ≤ 204800 → s.others c 0 = [] →
    Completes (.inbox f) s (fun t => t.localRead c (slotAt n + off) f.payload.length = f.payload ∧
      (t.core c).launch = (s.core c).launch.map (fun l =>
        if l.slot = n ∧ l.bound = true ∧ (s.core c).oldWork = false then { l with inbox := l.inbox + f.payload.length } else l))) ∧
  (∀ (s : State) (f : Frame), s.trusted f = true → f.kind = 0x18 → 0xE0 ≤ f.dstPort → f.dstPort ≤ 0xE5 →
    ((s.core (4 * (f.dstPort - 0xE0) + bitsOf f.address 1 0)).slots.getD (bitsOf f.address 5 2) slotReset).bound = false →
    Completes (.inbox f) s (fun t => t.reg (CL_CNT (f.dstPort - 0xE0) 9) = s.reg (CL_CNT (f.dstPort - 0xE0) 9) + 1 ∧ t.clusters = s.clusters)) ∧
  (∀ (s : State) (cl m value : Nat), cl < 6 → m < 4 → value.testBit m = true → (s.core (4 * cl + m)).runs = false →
    Completes (.coreEnableWrite cl value) s (fun t => t.coreOn (4 * cl + m) = true)) ∧
  (∀ (s : State) (cl m value : Nat), cl < 6 → m < 4 → value.testBit m = true → s.coreOn (4 * cl + m) = false → (s.core (4 * cl + m)).runs = true →
    Completes (.coreEnableWrite cl value) s (fun t => t.coreOn (4 * cl + m) = false ∧ t.regBit (CL_STATUS cl) (12 + m) = true)) ∧
  (∀ (s : State) (cl m value : Nat), cl < 6 → m < 4 → value.testBit m = false →
    Completes (.coreEnableWrite cl value) s (fun t => t.coreOn (4 * cl + m) = false ∧ t.regBit (CL_STATUS cl) (12 + m) = false)) ∧
  (∀ (s : State) (cl m value : Nat), cl < 6 → m < 4 → value.testBit m = true → (s.core (4 * cl + m)).proof = false →
    (s.roseAt (CL_QUAR cl)).toNat.testBit m = false → Completes (.quarantineClear cl value) s (fun t => t.quarantined (4 * cl + m) = false)) ∧
  (∀ (s : State) (c : Nat) (q : Queued), CoreThere s c → (s.core c).runningMma = some q → s.duplicated c q = true → (s.core c).dupHold = none →
    (s.core c).work.abandoned = false → s.phase ≠ 6 → s.quarantined (partnerOf c 2) = false ∨ s.quarantined (partnerOf c 3) = false →
    Completes (.dupMismatch c) s (fun t => (t.core c).dupHold = some q.product ∧ t.reg (CL_CNT (c / 4) 5) = s.reg (CL_CNT (c / 4) 5) + 1)) ∧
  (∀ (s : State) (c : Nat) (q : Queued), CoreThere s c → (s.core c).runningMma = some q → s.duplicated c q = true → (s.core c).dupHold = none →
    (s.core c).work.abandoned = false → s.phase ≠ 6 → s.quarantined (partnerOf c 2) = true → s.quarantined (partnerOf c 3) = true →
    s.severity (0xA0 + c) 0x09 < 4 → s.severity (0xA0 + partnerOf c 1) 0x09 < 4 → Completes (.dupMismatch c) s (fun t =>
      t.quarantined c = true ∧ t.quarantined (partnerOf c 1) = true ∧ t.reg (CL_CNT (c / 4) 5) = s.reg (CL_CNT (c / 4) 5) + 1 ∧
      t.reg (CL_CNT (c / 4) 7) = s.reg (CL_CNT (c / 4) 7) + 1 ∧ Told s t (0xA0 + c) 0x09 q.product)) ∧
  (∀ (s : State) (c : Nat) (q : Queued), CoreThere s c → (s.core c).runningMma = some q → s.phase = 6 → Completes (.dupMismatch c) s (fun t =>
    (t.core c).checks = (s.core c).checks ++ [none] ∧ t.regs = s.regs)) ∧
  (∀ (s : State) (c p : Nat), CoreThere s c → (s.core c).dupHold = some p → s.severity (0xA0 + partnerOf c 1) 0x08 < 4 →
    Completes (.dupThirdRunDone c .originalAgrees) s (fun t => (t.core c).dupHold = none ∧ t.reg (CL_CNT (c / 4) 6) = s.reg (CL_CNT (c / 4) 6) + 1 ∧
      Told s t (0xA0 + partnerOf c 1) 0x08 p)) ∧
  (∀ (s : State) (c p : Nat), CoreThere s c → (s.core c).dupHold = some p → s.severity (0xA0 + c) 0x08 < 4 →
    Completes (.dupThirdRunDone c .duplicateAgrees) s (fun t => (t.core c).dupHold = none ∧ t.reg (CL_CNT (c / 4) 6) = s.reg (CL_CNT (c / 4) 6) + 1 ∧
      Told s t (0xA0 + c) 0x08 p)) ∧
  (∀ (s : State) (c p : Nat), CoreThere s c → (s.core c).dupHold = some p → s.severity (0xA0 + c) 0x09 < 4 → s.severity (0xA0 + partnerOf c 1) 0x09 < 4 →
    Completes (.dupThirdRunDone c .noMajority) s (fun t => t.quarantined c = true ∧ t.quarantined (partnerOf c 1) = true ∧
      t.reg (CL_CNT (c / 4) 7) = s.reg (CL_CNT (c / 4) 7) + 1 ∧ Told s t (0xA0 + c) 0x09 p)) ∧
  (∀ (s : State) (c : Nat) (q : Queued), CoreThere s c → (s.core c).runningMma = some q → s.severity (0xA0 + c) 0x07 < 4 → s.phase ≠ 6 →
    Completes (.residueFail c false) s (fun t => t.quarantined c = true ∧ t.reg (PH_RESIDUE c) = s.reg (PH_RESIDUE c) + 1 ∧ Told s t (0xA0 + c) 0x07 q.product)) ∧
  (∀ (s : State) (c : Nat) (q : Queued), CoreThere s c → (s.core c).runningMma = some q → s.severity (0xA0 + c) 0x07 < 4 → s.phase ≠ 6 → s.quarantined c = false →
    s.quarantined (partnerOf c 1) = false → (s.core c).residueAt = none → Completes (.residueFail c true) s (fun t =>
      t.quarantined c = false ∧ (t.core c).residueAt = some s.free ∧ t.reg (PH_RESIDUE c) = s.reg (PH_RESIDUE c) + 1)) ∧
  (∀ (s : State) (c : Nat) (ok : Bool) (q : Queued), CoreThere s c → (s.core c).runningMma = some q → s.phase = 6 →
    Completes (.residueFail c ok) s (fun t => (t.core c).checks = (s.core c).checks ++ [some ok] ∧ t.regs = s.regs)) ∧
  (∀ (s : State) (cl m value : Nat), cl < 6 → m < 4 → value.testBit m = true → s.quarantined (4 * cl + m) = true →
    (s.roseAt (CL_QUAR cl)).toNat.testBit m = true → Completes (.quarantineClear cl value) s (fun t => t.quarantined (4 * cl + m) = true))

/-- R275 to R277, R281, R282, R290 to R294: firings latch work and start bundles; the sequencer's words act; holds end. These are the model's choices:
when a firing is late (log entry 71), what a leaving image's work does (75), what REPEAT and CL_COREc show (78), the judgement of a stuck program
(85), when effects on data happen (88), an ATTEND without HANDOFF (84), the test of a bound docket (147), the wake of a gated core (141), and that an
event whose condition does not hold has no effect (24). -/
def Obligations.SequencersComplete : Prop :=
  (∀ (s : State) (c tick : Nat) (e : Nat × Nat) (a : Attend), CoreThere s c → (s.core c).finalDue = false → (s.core c).oldWork = false → s.nextFiring c 32 = some (e, tick) →
    s.quarantined c = false → (s.core c).idle = true → s.coreOn c = true → s.halted = false → (s.core c).rep = 0 →
    ((s.core c).slots.getD (entSlot e) slotReset).bound = false → ((s.core c).slots.getD (entSlot e) slotReset).phase = 1 →
    ((s.core c).slots.getD (entSlot e) slotReset).work = some a → s.docketValid c (entSlot e) = true → StopsAt (s.core c) (s.core c).front (entBundle e) → Completes (.launchFiring c) s (fun t =>
      (t.core c).pc = some (entBundle e) ∧ (t.core c).fired = tick ∧ (t.core c).lnum = (s.core c).lnum + 1 ∧
      (t.core c).launch.map (·.attend) = some (some a) ∧ (t.core c).launch.map (·.rooms) = some a.rooms ∧
      ((t.core c).slots.getD (entSlot e) slotReset).phase = 2 ∧ t.reg (CL_CNT (c / 4) 0) = s.reg (CL_CNT (c / 4) 0) + 1)) ∧
  (∀ (s : State) (c tick : Nat) (e : Nat × Nat), CoreThere s c → (s.core c).finalDue = false → (s.core c).oldWork = false → s.nextFiring c 32 = some (e, tick) →
    s.quarantined c = true → (s.core c).rep = 0 → Completes (.launchFiring c) s (fun t =>
      (t.core c).launch = (s.core c).launch ∧ (t.core c).lnum = (s.core c).lnum + 1 ∧ t.reg (CL_CNT (c / 4) 0) = s.reg (CL_CNT (c / 4) 0) + 1 ∧
      t.reg (CL_CNT (c / 4) 1) = s.reg (CL_CNT (c / 4) 1) + 1)) ∧
  (∀ (s : State) (c tick : Nat) (e : Nat × Nat), CoreThere s c → s.nextFiring c 33 = some (e, tick) → s.quarantined c = false → s.halted = false →
    StopsAt (s.core c) (s.core c).front (entBundle e) → Completes (.contFiring c) s (fun t =>
      (t.core c).pc = some (entBundle e) ∧ (t.core c).fired = tick ∧ (t.core c).launch = (s.core c).launch ∧ (t.core c).lnum = (s.core c).lnum + 1)) ∧
  (∀ (s : State) (c tick : Nat) (e : Nat × Nat), CoreThere s c → s.nextFiring c 33 = some (e, tick) → s.quarantined c = false → s.phase = 8 →
    StopsAt (s.core c) (s.core c).front (entBundle e) → Completes (.contFiring c) s (fun t => (t.core c).pc = some (entBundle e) ∧
      (t.core c).launch = (s.core c).launch.map (fun l => { l with empty := true }) ∧ (t.core c).lnum = (s.core c).lnum + 1)) ∧
  (∀ (s : State) (c tick : Nat) (e : Nat × Nat), CoreThere s c → (s.core c).finalDue = false → (s.core c).oldWork = false → s.nextFiring c 35 = some (e, tick) →
    s.quarantined c = false → Completes (.wakeFiring c) s (fun t => (t.core c).gated = false ∧ (t.core c).lnum = (s.core c).lnum + 1 ∧
      (t.core c).pc = (s.core c).pc)) ∧
  (∀ (s : State) (c : Nat), CoreThere s c → (s.core c).finalDue = true → ((s.core c).slots.getD ((s.core c).xs.getD 0 0) slotReset).bound = false →
    Completes (.finalRelease c) s (fun t => (t.core c).launch = none ∧ (t.core c).gated = (s.core c).flags.testBit 36 ∧
      ((t.core c).slots.getD ((s.core c).xs.getD 0 0) slotReset).phase < 2)) ∧
  (∀ (s : State) (c : Nat), Calm s → (s.core c).finalDue = false → Completes (.finalRelease c) s (fun t => t = s)) ∧
  (∀ (s : State) (c w : Nat), AtWord s c 0x01 w → Completes (.endBundle c) s (fun t => (t.core c).pc = none ∧ (t.core c).chits = ((s.core c).post w).chits)) ∧
  (∀ (s : State) (c w : Nat), AtWord s c 0x02 w → bitsOf w 30 27 < (s.core c).xs.length → Completes (.setx c) s (fun t =>
    (t.core c).xs = (s.core c).xs.set (bitsOf w 30 27) (bitsOf w 26 0) ∧ (t.core c).pc = (s.core c).pc.map (· + 1) ∧
    (t.core c).chits = ((s.core c).post w).chits)) ∧
  (∀ (s : State) (c w : Nat), AtWord s c 0x03 w → bitsOf w 30 27 < (s.core c).xs.length → Completes (.madx c) s (fun t =>
    (t.core c).xs = (s.core c).xs.set (bitsOf w 30 27)
      (((s.core c).xs.getD (bitsOf w 26 23) 0 * bitsOf w 15 0 + (s.core c).xs.getD (bitsOf w 22 19) 0) % 2 ^ 32) ∧
    (t.core c).pc = (s.core c).pc.map (· + 1))) ∧
  (∀ (s : State) (c w : Nat), AtWord s c 0x04 w → s.now < (s.core c).fired + bitsOf w 26 0 → Completes (.bell c) s (fun t =>
    (t.core c).hold = .untilTick ((s.core c).fired + bitsOf w 26 0) ∧ (t.core c).pc = (s.core c).pc.map (· + 1))) ∧
  (∀ (s : State) (c w : Nat), AtWord s c 0x04 w → (s.core c).fired + bitsOf w 26 0 ≤ s.now → Completes (.bell c) s (fun t =>
    (t.core c).hold = .none ∧ (t.core c).pc = (s.core c).pc.map (· + 1))) ∧
  (∀ (s : State) (c tick : Nat), CoreThere s c → (s.core c).hold = .untilTick tick → tick ≤ s.now → s.phase ≠ 6 → (s.core c).pc = none →
    Completes (.bellTickReached c) s (fun t => (t.core c).hold = .none ∧ t.regs = s.regs)) ∧
  (∀ (s : State) (c w : Nat), AtWord s c 0x05 w → (s.core c).idle = true → Completes (.fence c) s (fun t =>
    (t.core c).hold = .none ∧ (t.core c).pc = (s.core c).pc.map (· + 1))) ∧
  (∀ (s : State) (c w : Nat), AtWord s c 0x05 w → (s.core c).idle = false → Completes (.fence c) s (fun t =>
    (t.core c).hold = .drain ∧ (t.core c).pc = (s.core c).pc.map (· + 1))) ∧
  (∀ (s : State) (c : Nat), CoreThere s c → (s.core c).hold = .drain → (s.core c).idle = true → s.phase ≠ 6 → (s.core c).pc = none →
    Completes (.fenceDrained c) s (fun t => (t.core c).hold = .none ∧ t.regs = s.regs)) ∧
  (∀ (s : State) (c p u w : Nat), CoreThere s c → (s.core c).hold = .queueFull → s.phase ≠ 6 → (s.core c).pc = some p →
    ((s.core c).banks.getD (s.core c).runBank bankReset).words.getD p 0 = w → bitsOf w 55 52 = u → 1 ≤ u → u ≤ 5 → u ≠ 3 →
    ((s.core c).queues.getD (u - 1) []).length < 256 → StopsAt (s.core c) (s.core c).runBank (p + 1) →
    (s.core c).dispatchFault ((s.core c).banks.getD (s.core c).runBank bankReset) ⟨w, 0, (s.core c).xs, (s.core c).products, (s.core c).runBank⟩ = none →
    Completes (.dispatchResume c) s (fun t => (t.core c).hold = .none ∧ (t.core c).pc = some (p + 1) ∧
      (t.core c).queues.getD (u - 1) [] = (s.core c).queues.getD (u - 1) [] ++ [⟨w, 0, (s.core c).xs, (s.core c).products, (s.core c).runBank⟩]))

/-- R276, R283 to R289, R311, R321, R323: the stream, engine, transposer and send instructions issue with their effect on local space and beyond, and end;
a stuck program is abandoned. These are the model's choices: that an instruction's effect on data comes as it issues (log entry 88), the free value of
CL_STALL_AC (72), bytes that two instructions race for (73), what a ROOMLD reads past its room (77), XPOSE with WIDEN (81), the bank it passes (148),
the status of a bound launch (83, 62), the judgement of program faults (85, 146), where a duplicate's operands go (145) and what bytes never written
read as (45). -/
def Obligations.UnitsComplete : Prop :=
  (∀ (s : State) (c u : Nat) (q : Queued), CoreThere s c → 1 ≤ u → u ≤ 5 → (s.core c).running.getD (u - 1) none = some q → (s.core c).mayEnd u q = true →
    opcode q.word ≠ 0x10 → (s.core c).oldWork = false → Completes (.instructionComplete c u) s (fun t =>
      (t.core c).running.getD (u - 1) none = none ∧ (t.core c).chits = ((s.core c).post q.word).chits ∧
      (t.core c).engUfl = (bump (s.core c).engUfl (if u = 2 then (s.core c).mmaUfl else 0)).1 ∧
      (t.core c).engOfl = (bump (s.core c).engOfl (if u = 2 then (s.core c).mmaOfl else 0)).1 ∧
      ∀ a, a ≠ CL_NUMFLAGS (c / 4) (c % 4) → t.reg a = s.reg a)) ∧
  (∀ (s : State) (c : Nat) (q : Queued), Issues s c 1 0x10 q → (s.core c).work.empty = true → (s.ext c q (opD q.word)).rows = 1 →
    (s.ext c q (opD q.word)).inRegion = true → Completes (.roomld c) s (fun t => Runs s t c 1 q ∧
      t.localRead c ((s.ext c q (opD q.word)).row 0) (s.ext c q (opD q.word)).len = zeroBytes (s.ext c q (opD q.word)).len)) ∧
  (∀ (s : State) (c room : Nat) (q : Queued), Issues s c 1 0x10 q → (s.core c).work.empty = false → ringEntry q ≤ (s.core c).work.lo + 1007 →
    ringEntry q < (s.core c).work.roomCount → (if ringEntry q < (s.core c).work.lo then (s.core c).work.rooms.getD (ringEntry q) 0
      else leAt (s.localRead c (docketAt (s.core c).work.slot + 64 + 4 * (ringEntry q % 1008)) 3) 0 3) = room → room ≠ 0 → s.roomBad room = false → s.mem.merge = [] →
    (∀ x ∈ s.mem.poison, x.1 / 1024 ≠ room) → (s.ext c q (opD q.word)).rows = 1 → (s.ext c q (opD q.word)).inRegion = true →
    32 * bitsOf q.word 10 0 + (s.ext c q (opD q.word)).len ≤ 65536 → Completes (.roomld c) s (fun t => Runs s t c 1 q ∧
      t.localRead c ((s.ext c q (opD q.word)).row 0) (s.ext c q (opD q.word)).len =
        s.peek (room * 65536 + 32 * bitsOf q.word 10 0) (s.ext c q (opD q.word)).len)) ∧
  (∀ (s : State) (c : Nat) (q : Queued), Issues s c 1 0x11 q → (s.ext c q (opD q.word)).rows = 1 → (s.ext c q (opD q.word)).inRegion = true →
    (s.readBytes c (s.ext c q (opA q.word))).length = (s.ext c q (opD q.word)).len → Completes (.lcopy c) s (fun t => Runs s t c 1 q ∧
      t.localRead c ((s.ext c q (opD q.word)).row 0) (s.ext c q (opD q.word)).len = s.readBytes c (s.ext c q (opA q.word)))) ∧
  (∀ (s : State) (c : Nat) (q : Queued) (ea eb : Extent) (a b sa sb : List (List Nat)), Issues s c 2 0x20 q → (s.ext c q (opD q.word)).rows = 1 →
    (s.ext c q (opD q.word)).inRegion = true → s.readOperand c ((s.core c).bank q) q.xs (opA q.word) = (ea, a, sa) →
    s.readOperand c ((s.core c).bank q) q.xs (opB q.word) = (eb, b, sb) → ea.rows = 1 → eb.rows = (s.ext c q (opD q.word)).cols → q.word.testBit 0 = false →
    Completes (.mma c) s (fun t => Runs s t c 2 q ∧
      t.localRead c ((s.ext c q (opD q.word)).row 0) (s.ext c q (opD q.word)).len =
        pack (s.ext c q (opD q.word)).fmt ((product ea.fmt eb.fmt a b sa sb []).1.getD 0 []) ∧
      t.reg (CL_NUMFLAGS (c / 4) (c % 4)) = s.reg (CL_NUMFLAGS (c / 4) (c % 4)) ||| BitVec.ofNat 64 (product ea.fmt eb.fmt a b sa sb []).2.1)) ∧
  (∀ (s : State) (c : Nat) (q : Queued), Issues s c 3 0x3B q → (s.ext c q (opD q.word)).rows = 1 → (s.ext c q (opD q.word)).inRegion = true →
    (s.ext c q (opD q.word)).len = 288 → (s.core c).hists.length = 4 → ((s.core c).hists.getD (bitsOf q.ext 8 7) histReset).bins.length = 64 →
    Completes (.histout c) s (fun t => Runs s t c 3 q ∧
      t.localRead c ((s.ext c q (opD q.word)).row 0) 288 =
        (((s.core c).hists.getD (bitsOf q.ext 8 7) histReset).words (s.core c).engUfl (s.core c).engOfl).1.flatMap (natLE 4) ∧
      (t.core c).hists.getD (bitsOf q.ext 8 7) histReset = { histReset with base := toSigned 8 (bitsOf q.ext 39 32) } ∧
      (t.core c).engUfl = 0 ∧ (t.core c).engOfl = 0)) ∧
  (∀ (s : State) (c : Nat) (q : Queued), Issues s c 4 0x40 q → (s.ext c q (opD q.word)).rows = 1 → (s.ext c q (opD q.word)).inRegion = true → q.word.testBit 0 = false →
    (s.ext c q (opA q.word)).cols = 1 → (s.ext c q (opA q.word)).rows = (s.ext c q (opD q.word)).cols → Completes (.xpose c) s (fun t => Runs s t c 4 q ∧
      t.localRead c ((s.ext c q (opD q.word)).row 0) (s.ext c q (opD q.word)).len =
        pack (s.ext c q (opD q.word)).fmt ((s.readCodes c (s.ext c q (opA q.word))).map (fun r => r.getD 0 0)))) ∧
  (∀ (s : State) (c : Nat) (q : Queued) (a : Attend), Issues s c 5 0x50 q → Calm s → (s.core c).work.empty = false → (s.core c).work.attend = some a →
    (s.core c).work.slot < (s.core c).slots.length → (s.core c).work.bound = false → handoffOk ((s.core c).bank q) q a = true →
    (cardOf a.card).tally = none → 0 < ((s.records c q).flatMap id).length → ((s.records c q).flatMap id).length ≤ 4096 → a.frame.srcCoord = s.coord →
    Reachable s a.frame.srcPort → Completes (.handoff c) s (fun t => Runs s t c 5 q ∧ (t.core c).launch.map (·.attend) = some none ∧
      ((t.core c).slots.getD (s.core c).work.slot slotReset).phase = 3 ∧ (t.stay a.index).inflight = (s.stay a.index).inflight - 1 ∧
      t.reg (CL_CNT (c / 4) 2) = s.reg (CL_CNT (c / 4) 2) + 1 ∧ Replied t a.frame 0x2A ((s.records c q).flatMap id))) ∧
  (∀ (s : State) (c p : Nat) (q : Queued) (b : Binding), Issues s c 5 0x51 q → Calm s → (s.core c).work.empty = false → (s.core c).work.binding = some b →
    (s.core c).work.bound = true → b.mask.testBit (bitsOf q.word 20 18) = true →
    0 < (s.readBytes c (s.ext c q (opD q.word))).length → (s.readBytes c (s.ext c q (opD q.word))).length ≤ 4096 →
    s.translate b.party b.rank = .ok (s.coord, p) → Reachable s p → Completes (.outbox c) s (fun t => Runs s t c 5 q ∧
      Sent t (fun g => g.kind == 0x19 && g.vc == 4 && g.party == b.party && g.dstRank == b.rank && g.dstPort == p &&
        g.address == (b.base + 32 * bitsOf q.word 17 0) % 2 ^ 50 && g.payload == s.readBytes c (s.ext c q (opD q.word))))) ∧
  (∀ (s : State) (c : Nat) (q : Queued) (b : Binding), Issues s c 5 0x52 q → (s.core c).work.empty = false → (s.core c).work.binding = some b →
    (s.core c).work.bound = true →
    s.heldBytes c + (s.ext c q (opD q.word)).rows * (s.ext c q (opD q.word)).len ≤ 131072 → Completes (.operandInstruction c) s (fun t => Runs s t c 5 q ∧
      t.tally.kept.dropLast = s.tally.kept ∧
      t.tally.kept.getLast?.map (fun k => (k.party, k.id, k.slot, k.coord)) = some (b.party,
        bitsOf (((s.core c).bank q).targets.getD (bitsOf q.word 20 13) 0) 22 11, bitsOf (((s.core c).bank q).targets.getD (bitsOf q.word 20 13) 0) 29 23,
        bitsOf (((s.core c).bank q).targets.getD (bitsOf q.word 20 13) 0) 10 0) ∧
      t.tally.kept.getLast?.map (fun k => (k.round, k.chunk, k.part, k.core)) = some (q.xs.getD (bitsOf q.word 6 3) 0 % 256,
        (q.xs.getD (bitsOf q.word 10 7) 0 + bitsOf q.word 2 0) % 2 ^ 21, bitsOf q.word 12 11, some c) ∧
      t.tally.kept.getLast?.map (fun k => k.payload) = some (s.readBytes c (s.ext c q (opD q.word))))) ∧
  (∀ (s : State) (c : Nat) (q : Queued), Issues s c 5 0x53 q → Completes (.recv c) s (fun t => Runs s t c 5 q ∧ t.clusters.shared = s.clusters.shared ∧
    (t.core c).buf = (s.core c).buf)) ∧
  (∀ (s : State) (c : Nat) (l : Launch), CoreThere s c → (s.core c).stuck = true → (s.core c).launch = some l → l.abandoned = false → l.attend = none → l.binding = none →
    s.severity (0xA0 + c) 0x0B < 4 → Completes (.programFault c 3) s (fun t => (t.core c).work.abandoned = true ∧
      t.reg (CL_CORE_W2 (c / 4) (c % 4)) = s.reg (CL_CORE_W2 (c / 4) (c % 4)) + 1 ∧ t.fld (CL_CORE_W3_LAST_FAULT (c / 4) (c % 4)) = 3 ∧
      Told s t (0xA0 + c) 0x0B 3)) ∧
  (∀ (s : State) (c : Nat), (s.core c).stuck = false → Completes (.programFault c 3) s (fun t => t = s))

/-- R285, R286, R315, R316: each vector instruction issues and writes the FP32 element its rule gives. These are the model's choices: the shape of a tree
of sums (log entry 70), the widening of a wide integer (80), the exponential and the reciprocal within their bounds (118), that the effect on data
comes as the instruction issues (88), and what bytes never written read as (45). -/
def Obligations.VectorsComplete : Prop :=
  (∀ (s : State) (c : Nat) (q : Queued), Issues s c 3 0x30 q → RowOut s c q → Completes (.vadd c) s (fun t => Runs s t c 3 q ∧
    Wrote s t c q (fun j => add32 (cell (s.operandOf c q (opA q.word)) 0 j) (s.elemB c q j)))) ∧
  (∀ (s : State) (c : Nat) (q : Queued), Issues s c 3 0x31 q → RowOut s c q → Completes (.vmul c) s (fun t => Runs s t c 3 q ∧
    Wrote s t c q (fun j => mul32 (cell (s.operandOf c q (opA q.word)) 0 j) (s.elemB c q j)))) ∧
  (∀ (s : State) (c : Nat) (q : Queued), Issues s c 3 0x32 q → RowOut s c q → Completes (.vfma c) s (fun t => Runs s t c 3 q ∧
    Wrote s t c q (fun j => fma32 (cell (s.operandOf c q (opA q.word)) 0 j) (s.elemB c q j) (s.elemC c q j)))) ∧
  (∀ (s : State) (c : Nat) (q : Queued), Issues s c 3 0x33 q → RowOut s c q → Completes (.vmax c) s (fun t => Runs s t c 3 q ∧
    Wrote s t c q (fun j => max32 (cell (s.operandOf c q (opA q.word)) 0 j) (s.elemB c q j)))) ∧
  (∀ (s : State) (c : Nat) (q : Queued), Issues s c 3 0x34 q → RowOut s c q → Completes (.vmin c) s (fun t => Runs s t c 3 q ∧
    Wrote s t c q (fun j => min32 (cell (s.operandOf c q (opA q.word)) 0 j) (s.elemB c q j)))) ∧
  (∀ (s : State) (c : Nat) (q : Queued), Issues s c 3 0x35 q → RowOut s c q → Completes (.vsel c) s (fun t => Runs s t c 3 q ∧
    Wrote s t c q (fun j => if selects (bitsOf q.ext 17 14) (cell (s.operandOf c q (opA q.word)) 0 j) then s.elemB c q j else s.elemC c q j))) ∧
  (∀ (s : State) (c : Nat) (q : Queued), Issues s c 3 0x36 q → RowOut s c q → Completes (.vexp c) s (fun t => Runs s t c 3 q ∧
    Wrote s t c q (fun j => if cell (s.operandOf c q (opA q.word)) 0 j = 0xFF800000 then 0
      else exp32 (sub32 (cell (s.operandOf c q (opA q.word)) 0 j) (s.elemB c q j))))) ∧
  (∀ (s : State) (c : Nat) (q : Queued), Issues s c 3 0x37 q → RowOut s c q → Completes (.vrcp c) s (fun t => Runs s t c 3 q ∧
    Wrote s t c q (fun j => rcp32 (cell (s.operandOf c q (opA q.word)) 0 j)))) ∧
  (∀ (s : State) (c : Nat) (q : Queued), Issues s c 3 0x38 q → RowOut s c q → Completes (.vcvt c) s (fun t => Runs s t c 3 q ∧
    Wrote s t c q (fun j => cell (s.operandOf c q (opA q.word)) 0 j))) ∧
  (∀ (s : State) (c : Nat) (q : Queued), Issues s c 3 0x39 q → RowOut s c q → (s.ext c q (opD q.word)).cols = 1 → (s.ext c q (opA q.word)).rows = 1 →
    Completes (.vred c) s (fun t => Runs s t c 3 q ∧
      Wrote s t c q (fun _ => reduceRow (bitsOf q.ext 17 14) ((s.operandOf c q (opA q.word)).getD 0 [])))) ∧
  (∀ (s : State) (c : Nat) (q : Queued), Issues s c 3 0x3A q → RowOut s c q → Completes (.vmask c) s (fun t => Runs s t c 3 q ∧
    Wrote s t c q (fun j =>
      if q.xs.getD 5 0 ≤ q.xs.getD (bitsOf q.ext 21 18) 0 + j ∧ q.xs.getD (bitsOf q.ext 21 18) 0 + j < q.xs.getD 6 0
      then mul32 (cell (s.operandOf c q (opA q.word)) 0 j) (s.elemB c q j) else 0xFF800000)))

/-- R301 to R303: an itinerary image is verified, armed, cancelled and comes into force. These are the model's choices: the codes of several failures of a
check (log entry 94), what arming again does and when STAGED_OK clears (95), that a CONT outside a work is not rejected (96), the layout of a curfew
section (90), what a second VERIFY does (50), and that an event whose condition does not hold has no effect (24). -/
def Obligations.ImagesComplete : Prop :=
  (∀ s : State, s.flag DV_ITIN_STATUS_BUSY = false → s.flag DV_ITIN_STATUS_PENDING = false → s.clusters.cores.any (·.oldWork) = false →
    Completes .verify s (fun t => t.fld DV_ITIN_STATUS_BUSY = 1 ∧ t.fld DV_ITIN_STATUS_STAGED_OK = 0 ∧ t.clusters.staged = none ∧
      t.host.verifying = some s.verdict ∧ t.clusters.cores = s.clusters.cores ∧ t.clusters.active = s.clusters.active)) ∧
  (∀ s : State, s.flag DV_ITIN_STATUS_BUSY = true ∨ s.flag DV_ITIN_STATUS_PENDING = true → Completes .verify s (fun t =>
    t.fld DV_ITIN_ERR_BUSY = 1 ∧ t.host = s.host ∧ t.clusters = s.clusters)) ∧
  (∀ (s : State) (code : Nat), s.host.verifying = some (.fails code []) → code < 256 → Completes .verifyDone s (fun t =>
    t.fld DV_ITIN_STATUS_BUSY = 0 ∧ t.fld DV_ITIN_STATUS_LAST_ERR = code ∧ t.fld DV_ITIN_ERR_VERIFY_FAIL = 1 ∧ t.host.verifying = none ∧
    t.clusters = s.clusters)) ∧
  (∀ (s : State) (code : Nat) (banks : List StoreBank), s.host.verifying = some (.fails code banks) → code < 256 → banks.length = s.clusters.cores.length →
    (∀ k ∈ s.clusters.cores, k.banks.length = 2 ∧ k.front < 2) → Completes .verifyDone s (fun t =>
      t.fld DV_ITIN_STATUS_LAST_ERR = code ∧ t.fld DV_ITIN_ERR_VERIFY_FAIL = 1 ∧ t.clusters.staged = s.clusters.staged ∧ t.clusters.active = s.clusters.active ∧
      ∀ c < s.clusters.cores.length, (t.core c).banks.getD (1 - (s.core c).front) bankReset = banks.getD c bankReset ∧
        (t.core c).banks.getD (s.core c).front bankReset = (s.core c).banks.getD (s.core c).front bankReset)) ∧
  (∀ (s : State) (im : Image) (banks : List StoreBank), s.host.verifying = some (.passes im banks) → banks.length = s.clusters.cores.length →
    (∀ k ∈ s.clusters.cores, k.banks.length = 2 ∧ k.front < 2) → Completes .verifyDone s (fun t =>
      t.fld DV_ITIN_STATUS_BUSY = 0 ∧ t.fld DV_ITIN_STATUS_STAGED_OK = 1 ∧ t.reg DV_ITIN_STAGED_ID = BitVec.ofNat 64 im.id ∧
      t.clusters.staged = some im ∧ t.clusters.active = s.clusters.active ∧
      ∀ c < s.clusters.cores.length, (t.core c).banks.getD (1 - (s.core c).front) bankReset = banks.getD c bankReset ∧
        (t.core c).banks.getD (s.core c).front bankReset = (s.core c).banks.getD (s.core c).front bankReset)) ∧
  (∀ (s : State) (im : Image) (tick : Nat), s.armCode tick = 0 → s.clusters.staged = some im → im.curfews = [] → tick < 2 ^ 64 →
    Completes (.activationArm tick) s (fun t => t.fld DV_ITIN_STATUS_PENDING = 1 ∧ t.fld DV_ITIN_ACT_TICK_TICK = tick ∧
      t.clusters.armed = some tick ∧ t.clusters.staged = some im ∧ t.sw = s.sw)) ∧
  (∀ (s : State) (tick : Nat), s.armCode tick ≠ 0 → Completes (.activationArm tick) s (fun t =>
    t.fld DV_ITIN_STATUS_LAST_ERR = s.armCode tick ∧ t.fld DV_ITIN_ERR_REFUSED = 1 ∧ t.clusters = s.clusters ∧
    t.reg DV_ITIN_ACT_TICK = s.reg DV_ITIN_ACT_TICK)) ∧
  (∀ (s : State) (tick : Nat), s.bellSet = false ∨ tick < s.now + 8000 → s.armCode tick = 0x10) ∧
  (∀ (s : State) (tick : Nat), s.tickAhead tick = true → tick % 32 ≠ 0 → s.armCode tick = 0x11) ∧
  (∀ (s : State) (tick : Nat), s.tickAhead tick = true → tick % 32 = 0 → s.flag DV_ITIN_STATUS_STAGED_OK = false → s.armCode tick = 0x12) ∧
  (∀ (s : State) (im : Image) (tick : Nat), s.clusters.armed = some tick → s.tickAhead tick = true → s.clusters.staged = some im → im.curfews = [] →
    Completes .activationCancel s (fun t => t.fld DV_ITIN_STATUS_PENDING = 0 ∧ t.clusters.armed = none ∧ t.clusters.staged = some im)) ∧
  (∀ (s : State) (tick : Nat), s.clusters.armed = some tick → s.tickAhead tick = false → Completes .activationCancel s (fun t =>
    t.fld DV_ITIN_ERR_REFUSED = 1 ∧ t.clusters = s.clusters)) ∧
  (∀ (s : State) (im : Image) (tick : Nat), s.clusters.armed = some tick → s.clusters.staged = some im → s.bellSet = true → tick ≤ s.now →
    s.clusters.cores.length = 24 → s.sw.agentWait = [] → (∀ k ∈ s.clusters.cores, k.oldWork = false ∧ k.launch = none ∧ k.dispatched = true ∧ k.idle = true) →
    Completes .imageActivation s (fun t => t.clusters.active = some im ∧ t.clusters.base = tick ∧ t.clusters.staged = none ∧ t.clusters.armed = none ∧
      t.fld DV_ITIN_STATUS_PENDING = 0 ∧ t.fld DV_ITIN_STATUS_STAGED_OK = 0 ∧ t.fld DV_ITIN_STATUS_ACTIVE = 1 ∧
      t.reg DV_ITIN_ACTIVE_ID = BitVec.ofNat 64 im.id ∧
      ∀ c < 24, (t.core c).front = 1 - (s.core c).front ∧ (t.core c).entry = 0 ∧ (t.core c).rep = 0 ∧ (t.core c).pass = 0 ∧ (t.core c).lnum = 0)) ∧
  (∀ (s : State) (tick : Nat), s.clusters.armed = some tick → s.now < tick → Completes .imageActivation s (fun t => t = s))

/-- R391 to R402, R407 to R410: messages reach the watch and its ring, proof suites run and the risk is judged. These are the model's choices: the edge at
which the watch accepts a message (log entry 154), the rounding of EOL_DAYS and a score's baseline (98), the proof suites' outcome and their start
(99, 158), and that an event whose condition does not hold has no effect (24). -/
def Obligations.WatchCompletes : Prop :=
  (∀ (s : State) (source kind address : Nat), sourceListed source = true → faultKindListed kind = true → address < 2 ^ 40 → s.severity source kind < 4 →
    s.sw.agentWait = [] → Completes (.faultMessage source kind address) s (fun t => Told s t source kind address ∧
      s.severity source kind ≤ t.fld WATCH_STATUS_WORST ∧ s.fld WATCH_STATUS_WORST ≤ t.fld WATCH_STATUS_WORST ∧
      (2 ≤ s.severity source kind → t.regBit (WATCH_FIRST (source / 64)) (source % 64) = true) ∧
      (512 ≤ s.watch.queue.length → t.watch = s.watch ∧ t.reg WATCH_LOST = s.reg WATCH_LOST + 1 ∧ t.fld WATCH_ERR_RING_LOST = 1))) ∧
  (∀ (s : State) (source kind address : Nat), sourceListed source = true → faultKindListed kind = true → address < 2 ^ 40 → s.severity source kind = 4 →
    s.phase ≠ 0 → s.phase ≠ 7 → s.phase ≠ 8 → s.fld PH_STOP_STATUS_STATE < 2 → s.tally.ctxs = [] → s.sw.agentWait = [] →
    Completes (.faultMessage source kind address) s (fun t => Told s t source kind address ∧ t.phase = 8)) ∧
  (∀ (s : State) (source kind address : Nat), sourceListed source = true → faultKindListed kind = true → address < 2 ^ 40 → s.severity source kind = 5 →
    s.phase ≠ 0 → s.phase ≠ 7 → s.fld PH_STOP_STATUS_STATE < 2 → (∀ p < 256, s.fld (LN_PORT_W2_STATE p) = 0) → s.tally.ctxs = [] → s.sw.agentWait = [] →
    Completes (.faultMessage source kind address) s (fun t => Told s t source kind address ∧ t.phase = 7)) ∧
  (∀ (s : State) (source kind address : Nat), sourceListed source = false ∨ faultKindListed kind = false →
    Completes (.faultMessage source kind address) s (fun t => t = s)) ∧
  (∀ (s : State) (address : Nat), s.severity 0x060 0x05 < 4 → Completes (.faultMessage 0x060 0x05 address) s (fun t =>
    t.reg (TL_CNT 10) = s.reg (TL_CNT 10) + 1 ∧ Told s t 0x060 0x05 (address % 2 ^ 40))) ∧
  (∀ (s : State) (m : Word × Nat) (rest : List (Word × Nat)), s.watch.queue = m :: rest → bitsOf m.1.toNat 47 45 < s.fld WATCH_CTRL_NOTIFY_MIN →
    Completes .ringEntry s (fun t => t.watch.queue = rest ∧ t.reg (WATCH_RING_MSG (s.fld WATCH_STATUS_HEAD)) = m.1 ∧
      t.reg (WATCH_RING_TICK (s.fld WATCH_STATUS_HEAD)) = BitVec.ofNat 64 m.2 ∧ t.fld WATCH_STATUS_HEAD = (s.fld WATCH_STATUS_HEAD + 1) % 4096 ∧
      t.fld WATCH_STATUS_TOTAL = (s.fld WATCH_STATUS_TOTAL + 1) % 2 ^ 48 ∧ t.out = s.out)) ∧
  (∀ (s : State) (m : Word × Nat) (rest : List (Word × Nat)), s.watch.queue = m :: rest → s.fld WATCH_CTRL_NOTIFY_MIN ≤ bitsOf m.1.toNat 47 45 →
    s.linkUp = false → Completes .ringEntry s (fun t => t.watch.queue = rest ∧ t.reg (WATCH_RING_MSG (s.fld WATCH_STATUS_HEAD)) = m.1 ∧
      t.out.mctp = s.out.mctp ++ [0x22 :: ringBytes m] ∧ t.out.hostMem = s.out.hostMem)) ∧
  (∀ (s : State) (m : Word × Nat) (rest : List (Word × Nat)), s.watch.queue = m :: rest → s.fld WATCH_CTRL_NOTIFY_MIN ≤ bitsOf m.1.toNat 47 45 →
    s.qReady 0 = true → Completes .ringEntry s (fun t => t.watch.queue = rest ∧ t.out.mctp = s.out.mctp ++ [0x22 :: ringBytes m] ∧
      t.out.hostMem.map (·.1) = s.out.hostMem.map (·.1) ++ [s.fld (MB_QBASE_ADDR 0) * 4096 + 32 * s.fld (MB_QTAIL_TAIL 0)] ∧
      t.out.hostMem.map (·.2.take 24) = s.out.hostMem.map (·.2.take 24) ++ [ringBytes m ++ natLE 8 (s.fld WATCH_STATUS_TOTAL)])) ∧
  (∀ (s : State) (value : Nat), value.testBit 63 = true → s.severity 0x3FE (bitsOf value 53 48) < 4 → Completes (.inject value) s (fun t =>
    Told s t 0x3FE (bitsOf value 53 48) (bitsOf value 39 0))) ∧
  (∀ (s : State) (value : Nat), value.testBit 63 = true → 4 ≤ s.severity 0x3FE (bitsOf value 53 48) → Completes (.inject value) s (fun t =>
    t.fld WATCH_ERR_INJECT_REFUSED = 1 ∧ t.watch = s.watch ∧ t.phase = s.phase)) ∧
  (∀ (s : State) (value : Nat), s.clusters.cores.length = 24 → value.testBit 63 = true → bitsOf value 23 0 ≠ 0 →
    (∀ c < 24, value.testBit c = true → s.proofable c = true) → Completes (.proofGo value) s (fun t => t.fld PH_PROOF_STATUS_BUSY = 1 ∧
      ∀ c < 24, (t.core c).proof = ((s.core c).proof || value.testBit c))) ∧
  (∀ (s : State) (value c : Nat), value.testBit 63 = true → c < 24 → value.testBit c = true → s.proofable c = false → Completes (.proofGo value) s (fun t =>
    t.fld PH_ERR_PROOF_REFUSED = 1 ∧ t.clusters = s.clusters)) ∧
  (∀ (s : State) (c : Nat), c < 24 → s.clusters.cores.length = 24 → s.flag PH_PROOF_CTRL_AUTO_RUN = true → s.quarantined c = true → (s.core c).idle = true →
    (s.core c).proof = false → (s.core c).proofed = false → s.proofReady = true → Completes (.proofAutoStart c) s (fun t =>
      (t.core c).proof = true ∧ t.fld PH_PROOF_STATUS_BUSY = 1)) ∧
  (∀ (s : State) (c : Nat), s.flag PH_PROOF_CTRL_AUTO_RUN = false ∨ s.quarantined c = false ∨ (s.core c).proofed = true →
    Completes (.proofAutoStart c) s (fun t => t = s)) ∧
  (∀ (s : State) (c : Nat), c < 24 → s.clusters.cores.length = 24 → (s.core c).proof = true → Completes (.proofSuiteDone c none) s (fun t =>
    (t.core c).proof = false ∧ (t.core c).proofed = true ∧ (t.fld PH_PROOF_STATUS_PASS).testBit c = true ∧ (t.fld PH_PROOF_STATUS_FAIL).testBit c = false ∧
    (s.flag PH_PROOF_CTRL_AUTO_RETURN = true → t.regBit (CL_QUAR (c / 4)) (c % 4) = false))) ∧
  (∀ (s : State) (c failing : Nat), c < 24 → s.clusters.cores.length = 24 → (s.core c).proof = true → s.severity (0xA0 + c) 0x0A < 4 →
    Completes (.proofSuiteDone c (some failing)) s (fun t => (t.core c).proof = false ∧ (t.fld PH_PROOF_STATUS_PASS).testBit c = false ∧
      (t.fld PH_PROOF_STATUS_FAIL).testBit c = true ∧ Told s t (0xA0 + c) 0x0A failing)) ∧
  (∀ (s : State) (ages : List Nat) (eyeLoss : Nat), ages.length ≤ 56 → (∀ a ∈ ages, a < 2 ^ 20) → 0 < s.fld PH_HEALTH_CTRL_RO_LIMIT →
    0 < s.fld PH_HEALTH_CTRL_EYE_LOSS → s.flag PH_HEALTH_CTRL_AUTO_STOP = false → s.severity 0x301 0x38 < 4 →
    Completes (.healthEval ages eyeLoss []) s (fun t =>
      t.fld PH_HEALTH_S_RO = min 255 (255 * ages.foldl max 0 / (100 * s.fld PH_HEALTH_CTRL_RO_LIMIT)) ∧
      t.fld PH_HEALTH_S_SERDES = min 255 (255 * eyeLoss / s.fld PH_HEALTH_CTRL_EYE_LOSS) ∧ t.fld PH_HEALTH_S_PWR = 0 ∧
      t.fld PH_HEALTH_RISK = max (max (t.fld PH_HEALTH_S_RO) (t.fld PH_HEALTH_S_SERDES)) (max (t.fld PH_HEALTH_S_CE) (t.fld PH_HEALTH_S_PWR)) ∧
      (s.fld PH_HEALTH_CTRL_STOP_RISK ≤ t.fld PH_HEALTH_RISK → s.health.crossed = false →
        t.health.crossed = true ∧ Told s t 0x301 0x38 (t.fld PH_HEALTH_RISK)) ∧
      (t.fld PH_HEALTH_RISK + s.fld PH_HEALTH_CTRL_HYST < s.fld PH_HEALTH_CTRL_STOP_RISK → t.health.crossed = false) ∧
      ∀ i < ages.length, t.fld (PH_ISLAND_AGE_DELTA i) = ages.getD i 0)) ∧
  (∀ (s : State) (eyeLoss : Nat), 0 < s.fld PH_HEALTH_CTRL_EYE_LOSS → s.fld PH_HEALTH_CTRL_EYE_LOSS ≤ eyeLoss → s.flag PH_HEALTH_CTRL_AUTO_STOP = true →
    s.severity 0x301 0x38 < 4 → s.health.crossed = false → s.phase = 5 → s.stackLost 0 = false → s.fld PH_STOP_STATUS_STATE < 2 →
    Completes (.healthEval [] eyeLoss []) s (fun t => t.fld PH_HEALTH_RISK = 255 ∧ t.phase = 6 ∧ t.fld PH_STOP_STATUS_STATE = 2 ∧
      t.fld PH_STOP_STATUS_SEQ = (s.fld PH_STOP_STATUS_SEQ + 1) % 2 ^ 32)) ∧
  (∀ s : State, s.host.flash.history.length < 6 → Completes .riskHistoryAppend s (fun t =>
    t.host.flash.history = s.host.flash.history ++ [s.fld PH_HEALTH_RISK] ∧ t.fld PH_HEALTH_EOL_DAYS = 0xFFFF)) ∧
  (∀ s : State, s.host.flash.history.length = 30 → Completes .riskHistoryAppend s (fun t =>
    t.host.flash.history = s.host.flash.history.tail ++ [s.fld PH_HEALTH_RISK] ∧ t.fld PH_HEALTH_RISK = s.fld PH_HEALTH_RISK)) ∧
  (∀ (s : State) (m : Word × Nat) (source kind address : Nat), sourceListed source = true → faultKindListed kind = true → address < 2 ^ 40 →
    s.severity source kind < 4 → s.sw.agentWait = [] → s.watch = { queue := [m], edge := s.edgeFrom s.free, taken := 1 } →
    Completes (.faultMessage source kind address) s (fun t =>
      t.watch.queue = (if bitsOf m.1.toNat 63 54 ≤ source then [m, (faultWord source kind (s.severity source kind) address, s.acceptTick)]
        else [(faultWord source kind (s.severity source kind) address, s.acceptTick), m]) ∧ t.watch.taken = 2)) ∧
  (∀ s : State, s.watch.edge = s.edgeFrom s.free → s.watch.taken = 4 → s.acceptEdge.2 = 0 ∧ s.watch.edge < s.acceptEdge.1 ∧
    s.acceptEdge.1 ≤ s.watch.edge + 7)

/-- R411, R412, R417 to R421: a stopover starts, is armed, cancelled and ends; a restore starts and ends. These are the model's choices: the layout of a
snapshot's header (log entry 91), what a refused stopover reports (100), what becomes of a restored entry that was in no lasting state (102), when
failed checks are handled (149), and that an event whose condition does not hold has no effect (24). -/
def Obligations.StopoverCompletes : Prop :=
  (∀ s : State, s.fld PH_STOP_STATUS_STATE < 2 → s.phase = 5 → s.stackLost 0 = false → Completes .stopoverGo s (fun t =>
    t.phase = 6 ∧ t.fld PH_STOP_STATUS_STATE = 2 ∧ t.fld PH_STOP_STATUS_SEQ = (s.fld PH_STOP_STATUS_SEQ + 1) % 2 ^ 32 ∧
    t.reg PH_STOP_START = BitVec.ofNat 64 s.now ∧ t.fld PH_STOP_STATUS_RESULT = s.fld PH_STOP_STATUS_RESULT)) ∧
  (∀ s : State, 2 ≤ s.fld PH_STOP_STATUS_STATE ∨ s.phase ≠ 5 → s.severity 0x302 0x39 < 4 → Completes .stopoverGo s (fun t =>
    t.fld PH_ERR_STOP_REFUSED = 1 ∧ t.fld PH_STOP_STATUS_RESULT = 6 ∧ t.fld PH_STOP_STATUS_STATE = s.fld PH_STOP_STATUS_STATE ∧ t.phase = s.phase ∧
    Told s t 0x302 0x39 6)) ∧
  (∀ (s : State) (tick : Nat), s.tickAhead tick = true → tick < 2 ^ 64 → Completes (.stopTickArm tick) s (fun t =>
    t.fld PH_STOP_TICK_TICK = tick ∧ t.health.stopArmed = true ∧ t.fld PH_STOP_STATUS_STATE = max 1 (s.fld PH_STOP_STATUS_STATE) ∧ t.phase = s.phase)) ∧
  (∀ (s : State) (tick : Nat), s.tickAhead tick = false → Completes (.stopTickArm tick) s (fun t =>
    t.fld PH_ERR_STOP_REFUSED = 1 ∧ t.health = s.health ∧ t.reg PH_STOP_TICK = s.reg PH_STOP_TICK)) ∧
  (∀ s : State, s.health.stopArmed = true → s.tickAhead (s.fld PH_STOP_TICK_TICK) = true → Completes .stopoverCancel s (fun t =>
    t.health.stopArmed = false ∧ t.fld PH_STOP_STATUS_STATE = if s.fld PH_STOP_STATUS_STATE = 1 then 0 else s.fld PH_STOP_STATUS_STATE)) ∧
  (∀ s : State, s.health.stopArmed = true → s.tickAhead (s.fld PH_STOP_TICK_TICK) = false → Completes .stopoverCancel s (fun t =>
    t.fld PH_ERR_STOP_REFUSED = 1 ∧ t.health = s.health)) ∧
  (∀ s : State, s.health.stopArmed = true → s.bellSet = true → s.fld PH_STOP_TICK_TICK ≤ s.now → s.fld PH_STOP_STATUS_STATE < 2 → s.phase = 5 →
    s.stackLost 0 = false → Completes .stopTickReached s (fun t => t.health.stopArmed = false ∧ t.phase = 6 ∧ t.fld PH_STOP_STATUS_STATE = 2 ∧
      t.reg PH_STOP_START = BitVec.ofNat 64 s.now)) ∧
  (∀ s : State, s.bellSet = true → s.now < s.fld PH_STOP_TICK_TICK → Completes .stopTickReached s (fun t => t = s)) ∧
  (∀ (s : State) (busy : List (Nat × Nat)), s.fld PH_STOP_STATUS_STATE = 2 → Completes (.quiesceDone busy) s (fun t =>
    t.fld PH_STOP_STATUS_STATE = 3 ∧ t.phase = s.phase ∧ t.stays = s.stays ∧
    t.health = { s.health with latched := s.linkContent, latchedAt := s.now, busyUnits := busy })) ∧
  (∀ s : State, s.fld PH_STOP_STATUS_STATE = 3 → s.flag PH_STOP_CFG_PARTNER_VALID = false → s.health.stopArmed = false → s.severity 0x302 0x39 < 4 →
    s.sw.agentWait = [] → (∀ k ∈ s.clusters.cores, k.checks = []) → Completes .captureDone s (fun t => t.health.snapDigest = shake 64 s.snapshot ∧ t.phase = 5 ∧ t.fld PH_STOP_STATUS_STATE = 0 ∧
      t.fld PH_STOP_STATUS_RESULT = 4 ∧ Told s t 0x302 0x39 4)) ∧
  (∀ s : State, s.fld PH_STOP_STATUS_STATE ≠ 3 → Completes .captureDone s (fun t => t = s)) ∧
  (∀ s : State, 2 ≤ s.fld PH_STOP_STATUS_STATE → s.health.stopAt + 1500 * ticksPerUs ≤ s.free → s.health.stopArmed = false → s.severity 0x302 0x39 < 4 →
    s.sw.agentWait = [] → (∀ k ∈ s.clusters.cores, k.checks = []) → Completes .stopoverTimeout s (fun t => t.phase = 5 ∧ t.fld PH_STOP_STATUS_STATE = 0 ∧ t.fld PH_STOP_STATUS_RESULT = 3 ∧
      t.reg PH_STOP_END = BitVec.ofNat 64 s.now ∧ Told s t 0x302 0x39 3)) ∧
  (∀ s : State, s.free < s.health.stopAt + 1500 * ticksPerUs → Completes .stopoverTimeout s (fun t => t = s)) ∧
  (∀ (s : State) (value : Nat), value.testBit 63 = true → s.flag PH_RESTORE_STATUS_BUSY = false → s.phase = 5 → s.flag ST_CTRL_ENABLE = false →
    s.fld ST_USE_STAYS_USED = 0 → s.stackLost 0 = false → s.sw.agentWait = [] → RouteTo s (bitsOf value 10 0) →
    Completes (.restoreGo value) s (fun t => t.fld PH_RESTORE_STATUS_BUSY = 1 ∧ t.fld PH_RESTORE_STATUS_STAYS = 0 ∧
      t.fld PH_RESTORE_CTRL_FROM = bitsOf value 10 0 ∧ t.health.record = none ∧
      Sent t (fun g => g.kind == 0x1D && g.dstCoord == bitsOf value 10 0 && g.dstPort == 0xF2 && g.address == 0x7FFF))) ∧
  (∀ (s : State) (value : Nat), value.testBit 63 = true → s.flag PH_RESTORE_STATUS_BUSY = true → Completes (.restoreGo value) s (fun t =>
    t.fld PH_ERR_RESTORE_BUSY = 1 ∧ t.health = s.health ∧ t.reg PH_RESTORE_CTRL = s.reg PH_RESTORE_CTRL)) ∧
  (∀ (s : State) (value : Nat), value.testBit 63 = true → s.flag PH_RESTORE_STATUS_BUSY = false → s.phase ≠ 5 ∨ s.flag ST_CTRL_ENABLE = true →
    s.severity 0x302 0x3A < 4 → Completes (.restoreGo value) s (fun t => t.fld PH_RESTORE_STATUS_BUSY = 0 ∧ t.fld PH_RESTORE_STATUS_RESULT = 3 ∧
      Told s t 0x302 0x3A 3)) ∧
  (∀ s : State, s.flag PH_RESTORE_STATUS_BUSY = true → s.health.restored = true → s.health.restoring = [] → Completes .restoreDone s (fun t =>
    t.fld PH_RESTORE_STATUS_BUSY = 0 ∧ t.fld PH_RESTORE_STATUS_RESULT = 0 ∧ t.health.restored = false ∧ t.stays = s.stays)) ∧
  (∀ s : State, s.health.restored = false ∨ s.health.restoring ≠ [] → Completes .restoreDone s (fun t => t = s))

/-- R414, R415, R417, R420: the frames of the stopover agents. These are the model's choices: when SNAP_CONFIRM is sent and what SNAP_GET and SNAP_CONFIRM
are answered with (log entry 101), how READ_SNAPSHOT asks the partner (103), that an ERROR acts at the stopover agent alone (104), and where a frame
for an agent waits (3). -/
def Obligations.SnapshotFramesComplete : Prop :=
  (∀ (s : State) (f : Frame), Calm s → RouteTo s f.srcCoord → s.flag PH_STOP_CFG_GUEST_VALID = true → f.srcCoord = s.fld PH_STOP_CFG_GUEST →
    f.payload.length = 4096 → frameSeg f < 0x7FFF → s.health.guestSeq = frameSeq f → s.health.guestDigest = none → s.mem.merge = [] →
    (∀ n < 8, s.stackLost n = false) → Completes (.snapPut f) s (fun t =>
      t.peek (segmentAt (2 + s.guestBank) (frameSeg f)) 4096 = f.payload ∧
      t.health.guestSegs = s.health.guestSegs.filter (fun x => x.1 != frameSeg f) ++ [(frameSeg f, f.payload)] ∧ Replied t f 0x1F [0])) ∧
  (∀ (s : State) (f : Frame), Calm s → RouteTo s f.srcCoord → s.fromGuest f = false → Completes (.snapPut f) s (fun t =>
    t.health = s.health ∧ t.mem = s.mem ∧ Replied t f 0x1F [1])) ∧
  (∀ (s : State) (f : Frame), Calm s → RouteTo s f.srcCoord → s.fromGuest f = true → f.payload.length ≠ 4096 → Completes (.snapPut f) s (fun t =>
    t.health = s.health ∧ t.mem = s.mem ∧ Replied t f 0x1F [3])) ∧
  (∀ (s : State) (f : Frame) (bytes : List Byte), Calm s → RouteTo s f.srcCoord → s.fromGuest f = true → f.payload.length = 8 → s.health.guestSeq = frameSeq f →
    gather s.health.guestSegs (leNat f.payload) = some bytes → Completes (.snapDone f) s (fun t =>
      t.health.guestDigest = some (bytes.length, shake 64 bytes) ∧ t.health.guestSegs = s.health.guestSegs ∧
      Replied t f 0x1F (padTo 8 [0] ++ shake 64 bytes))) ∧
  (∀ (s : State) (f : Frame), Calm s → RouteTo s f.srcCoord → s.fromGuest f = true → f.payload.length = 8 →
    gather s.health.guestSegs (leNat f.payload) = none → Completes (.snapDone f) s (fun t => t.health = s.health ∧ Replied t f 0x1F [3])) ∧
  (∀ (s : State) (f : Frame) (len : Nat), Calm s → RouteTo s f.srcCoord → s.fromGuest f = true → f.payload.length = 64 → s.health.guestSeq = frameSeq f →
    s.health.guestDigest = some (len, f.payload) → Completes (.snapConfirm f) s (fun t =>
      t.health.guest.map (fun g => (g.1, g.2.1, g.2.2.1, g.2.2.2.1)) = some (s.guestBank, frameSeq f, len, f.payload) ∧ t.health.guestDigest = none ∧
      t.fld PH_STOP_STATUS_GUEST_HELD = 1 ∧ Replied t f 0x1F [0])) ∧
  (∀ (s : State) (f : Frame) (len : Nat) (d : List Byte), Calm s → RouteTo s f.srcCoord → s.fromGuest f = true → f.payload.length = 64 →
    s.health.guestSeq = frameSeq f → s.health.guestDigest = some (len, d) → f.payload ≠ d → Completes (.snapConfirm f) s (fun t =>
      t.health.guest = s.health.guest ∧ t.health.guestDigest = none ∧ Replied t f 0x1F [2])) ∧
  (∀ (s : State) (f : Frame) (bank seq len at_ : Nat) (d : List Byte), Calm s → RouteTo s f.srcCoord → s.fromGuest f = true → f.payload = [] →
    s.health.guest = some (bank, seq, len, d, at_) → frameSeg f = 0x7FFF → Completes (.snapGet f) s (fun t =>
      Replied t f 0x1E (natLE 4 seq ++ natLE 8 len ++ d ++ natLE 8 at_) ∧ t.health = s.health)) ∧
  (∀ (s : State) (f : Frame) (bank seq len at_ : Nat) (d : List Byte), Calm s → RouteTo s f.srcCoord → s.fromGuest f = true → f.payload = [] →
    s.health.guest = some (bank, seq, len, d, at_) → frameSeg f < segments len → frameSeg f ≠ 0x7FFF → s.mem.merge = [] → s.mem.poison = [] →
    (∀ n < 8, s.stackLost n = false) → Completes (.snapGet f) s (fun t =>
      Replied t f 0x1E (s.peek (segmentAt (2 + bank) (frameSeg f)) 4096) ∧ t.health = s.health)) ∧
  (∀ (s : State) (f : Frame), Calm s → RouteTo s f.srcCoord → s.fromGuest f = true → f.payload = [] → s.health.guest = none → Completes (.snapGet f) s (fun t =>
    Replied t f 0x1F [2] ∧ t.health = s.health)) ∧
  (∀ (s : State) (f : Frame), Calm s → RouteTo s f.srcCoord → s.awaitsSegment f = false → s.flag PH_RESTORE_STATUS_BUSY = true → s.health.restored = false →
    f.srcCoord = s.fld PH_RESTORE_CTRL_FROM → s.health.record = none → frameSeg f = 0x7FFF → f.payload.length = 84 → s.host.flash.stop = none →
    Completes (.snapData f) s (fun t => t.health.record = some (leAt f.payload 0 4, leAt f.payload 4 8, (f.payload.drop 12).take 64, leAt f.payload 76 8) ∧
      ∀ i < segments (leAt f.payload 4 8), Sent t (fun g => g.kind == 0x1D && g.dstCoord == f.srcCoord && g.dstPort == 0xF2 &&
        g.address == i + leAt f.payload 0 4 * 2 ^ 15))) ∧
  (∀ (s : State) (f : Frame) (len at_ : Nat) (d : List Byte), Calm s → s.awaitsSegment f = false → s.flag PH_RESTORE_STATUS_BUSY = true →
    s.health.restored = false → f.srcCoord = s.fld PH_RESTORE_CTRL_FROM → s.health.record = some (frameSeq f, len, d, at_) → frameSeg f < segments len →
    f.payload.length = 4096 → s.health.segs.length + 1 < segments len → Completes (.snapData f) s (fun t =>
      t.health.segs = s.health.segs.filter (fun x => x.1 != frameSeg f) ++ [(frameSeg f, f.payload)] ∧ t.fld PH_RESTORE_STATUS_BUSY = 1)) ∧
  (∀ (s : State) (f : Frame) (b : Background), Calm s → s.host.background = some b → b.opcode = 0xC031 → b.ready = false →
    f.srcCoord = s.fld PH_STOP_CFG_PARTNER → f.payload.length = 4096 → Completes (.snapData f) s (fun t =>
      t.host.background = some { b with code := 0, payload := f.payload, ready := true } ∧ t.health = s.health)) ∧
  (∀ (s : State) (f : Frame), Calm s → RouteTo s f.srcCoord → s.awaitsSegment f = false → s.flag PH_RESTORE_STATUS_BUSY = false →
    s.fld PH_STOP_STATUS_STATE = 4 → f.srcCoord = s.fld PH_STOP_CFG_PARTNER → frameSeq f = s.fld PH_STOP_STATUS_SEQ → byteAt f.payload 0 = 0 →
    72 ≤ f.payload.length → (f.payload.drop 8).take 64 = s.health.snapDigest → s.health.stopArmed = false → s.health.stopMailbox = false → (∀ k ∈ s.clusters.cores, k.checks = []) →
    Completes (.snapAck f) s (fun t => t.phase = 5 ∧ t.fld PH_STOP_STATUS_STATE = 0 ∧ t.fld PH_STOP_STATUS_RESULT = 0 ∧ t.fld PH_STOP_STATUS_CONFIRMED = 1 ∧
      t.fld PH_STOP_STATUS_BANK = s.writeBank ∧ t.reg PH_STOP_END = BitVec.ofNat 64 s.now ∧ (∀ w < 8, t.fld (PH_STOP_DIGEST_DIGEST w) = leAt s.health.snapDigest (8 * w) 8) ∧
      t.host.writing = s.host.writing ++ [.stopRecord (s.fld PH_STOP_STATUS_SEQ) s.health.snapDigest (s.writeBank == 1) f.srcCoord] ∧
      Sent t (fun g => g.kind == 0x1C && g.dstCoord == f.srcCoord && g.dstPort == 0xF2 && g.payload == s.health.snapDigest))) ∧
  (∀ (s : State) (f : Frame), Calm s → s.awaitsSegment f = false → s.flag PH_RESTORE_STATUS_BUSY = false → s.fld PH_STOP_STATUS_STATE = 4 →
    f.srcCoord = s.fld PH_STOP_CFG_PARTNER → frameSeq f = s.fld PH_STOP_STATUS_SEQ → byteAt f.payload 0 ≠ 0 → s.health.stopArmed = false → (∀ k ∈ s.clusters.cores, k.checks = []) →
    s.severity 0x302 0x39 < 4 → Completes (.snapAck f) s (fun t => t.phase = 5 ∧ t.fld PH_STOP_STATUS_STATE = 0 ∧ t.fld PH_STOP_STATUS_RESULT = 2 ∧
      Told s t 0x302 0x39 2)) ∧
  (∀ (s : State) (f : Frame), Calm s → f.dstPort = 0xF2 → s.awaitsSegment f = false → s.flag PH_RESTORE_STATUS_BUSY = false → s.fld PH_STOP_STATUS_STATE = 4 →
    s.health.stopArmed = false → (∀ k ∈ s.clusters.cores, k.checks = []) → s.severity 0x302 0x39 < 4 → Completes (.error f) s (fun t => t.phase = 5 ∧ t.fld PH_STOP_STATUS_STATE = 0 ∧
      t.fld PH_STOP_STATUS_RESULT = 2 ∧ Told s t 0x302 0x39 2)) ∧
  (∀ (s : State) (f : Frame), Calm s → f.dstPort = 0xF2 → s.awaitsSegment f = false → s.flag PH_RESTORE_STATUS_BUSY = true → s.health.restored = false →
    s.severity 0x302 0x3A < 4 → Completes (.error f) s (fun t => t.fld PH_RESTORE_STATUS_BUSY = 0 ∧ t.fld PH_RESTORE_STATUS_RESULT = 2 ∧
      Told s t 0x302 0x3A 2)) ∧
  (∀ (s : State) (f : Frame), Calm s → f.dstPort ≠ 0xF2 → Completes (.error f) s (fun t => t.stays = s.stays ∧ t.health = s.health ∧ t.host = s.host))

/-- R425, R428 to R435, R438: the CXL link, the window onto the pool, the queues' configuration and Function Level Reset. These are the model's choices:
that a command over CXL has no effect while the link is down, when an aperture's range is checked and what a poisoned MEMRD returns (log entry 105),
and the registers that CXL and PCI Express lay out (116). -/
def Obligations.AttachCompletes : Prop :=
  (∀ (s : State) (rate width : Nat), s.power.switchClosed = true → 1 ≤ rate → rate ≤ 4 → [1, 2, 4, 8].contains width = true → s.stays.notices = [] →
    Completes (.cxlLinkUp rate width) s (fun t => t.fld MB_LINK_STATUS_RATE = rate ∧ t.fld MB_LINK_STATUS_WIDTH = width ∧ t.linkUp = true ∧
      t.out = s.out ∧ t.stays = s.stays)) ∧
  (∀ (s : State) (rate width : Nat) (n : List Byte), s.power.switchClosed = true → 1 ≤ rate → rate ≤ 4 → [1, 2, 4, 8].contains width = true →
    s.stays.notices = [n] → s.flag (MB_QCFG_ENABLE 1) = true → s.qUsed 1 + 1 < s.qSize 1 → Completes (.cxlLinkUp rate width) s (fun t =>
      t.stays.notices = [] ∧ t.fld (MB_QTAIL_TAIL 1) = (s.fld (MB_QTAIL_TAIL 1) + 1) % s.qSize 1 ∧
      t.out.hostMem = s.out.hostMem ++ [(s.fld (MB_QBASE_ADDR 1) * 4096 + 32 * s.fld (MB_QTAIL_TAIL 1),
        padTo 31 n ++ [if s.host.tags.getD 1 true then 1 else 0])])) ∧
  (∀ s : State, Completes .cxlLinkDown s (fun t => t.linkUp = false ∧ t.fld MB_LINK_STATUS_WIDTH = 0 ∧ t.stays = s.stays ∧ t.mem = s.mem)) ∧
  (∀ (s : State) (w a : Nat), s.linkUp = true → s.windowHeld w = false → s.target (w / 64 * 64) = some a → s.mem.merge = [] → s.stackLost (pairStack (a / 64)) = false →
    s.poisoned (a / 64) = false → Completes (.memrd w) s (fun t =>
      t.out.memData = s.out.memData ++ [(w / 64 * 64, s.peek a 64, false)] ∧ t.mem.bytes = s.mem.bytes ∧ t.mem.poison = s.mem.poison ∧ t.mem.merge = [] ∧ t.regs = s.regs)) ∧
  (∀ (s : State) (w a : Nat), s.linkUp = true → s.windowHeld w = false → s.target (w / 64 * 64) = some a → s.mem.merge = [] →
    s.stackLost (pairStack (a / 64)) = true ∨ s.poisoned (a / 64) = true → Completes (.memrd w) s (fun t =>
      t.out.memData.map (fun m => (m.1, m.2.2)) = s.out.memData.map (fun m => (m.1, m.2.2)) ++ [(w / 64 * 64, true)] ∧
      t.reg MB_POISON_RD = s.reg MB_POISON_RD + 1 ∧ t.mem.bytes = s.mem.bytes ∧ t.mem.poison = s.mem.poison ∧ t.mem.merge = [])) ∧
  (∀ (s : State) (w : Nat), s.linkUp = true → s.windowHeld w = false → s.target (w / 64 * 64) = none → Completes (.memrd w) s (fun t =>
    t.out.memData.map (fun m => (m.1, m.2.2)) = s.out.memData.map (fun m => (m.1, m.2.2)) ++ [(w / 64 * 64, true)] ∧
    t.reg MB_UNMAPPED = s.reg MB_UNMAPPED + 1 ∧ t.mem = s.mem)) ∧
  (∀ (s : State) (w a : Nat) (data : List Byte), s.linkUp = true → s.windowHeld w = false → s.target (w / 64 * 64) = some a → data.length = 64 →
    s.stackLost (pairStack (a / 64)) = false → Completes (.memwr w data false) s (fun t =>
      t.peek a 64 = data ∧ t.poisoned (a / 64) = false ∧ t.regs = s.regs ∧
      ∀ b, b / 64 ≠ a / 64 → t.peek b 1 = s.peek b 1)) ∧
  (∀ (s : State) (w a : Nat) (data : List Byte), s.linkUp = true → s.windowHeld w = false → s.target (w / 64 * 64) = some a → s.stackLost (pairStack (a / 64)) = false →
    Completes (.memwr w data true) s (fun t => t.peek a 64 = zeroBytes 64 ∧ t.poisoned (a / 64) = true ∧ t.regs = s.regs ∧
      ∀ b, b / 64 ≠ a / 64 → t.peek b 1 = s.peek b 1)) ∧
  (∀ (s : State) (w : Nat) (data : List Byte) (poison : Bool), s.linkUp = true → s.windowHeld w = false → s.target (w / 64 * 64) = none → Completes (.memwr w data poison) s (fun t =>
    t.reg MB_UNMAPPED = s.reg MB_UNMAPPED + 1 ∧ t.mem = s.mem)) ∧
  (∀ (s : State) (w a : Nat) (data : List Byte), s.linkUp = true → s.windowHeld w = false → s.target w = some a → data ≠ [] → data.length ≤ 64 - w % 64 → s.mem.merge = [] →
    s.stackLost (pairStack (a / 64)) = false → Completes (.memwrptl w data) s (fun t =>
      t.peek a data.length = data ∧ t.regs = s.regs ∧ (∀ b, b < a ∨ a + data.length ≤ b → t.peek b 1 = s.peek b 1) ∧ t.out = s.out)) ∧
  (∀ (s : State) (w : Nat) (data : List Byte), s.linkUp = true → s.windowHeld w = false → s.target w = none → data ≠ [] → Completes (.memwrptl w data) s (fun t =>
    t.reg MB_UNMAPPED = s.reg MB_UNMAPPED + 1 ∧ t.mem = s.mem)) ∧
  (∀ (s : State) (i value : Nat), i < 16 → s.flag ST_CTRL_ENABLE = false →
    value.testBit 63 = false ∨ (32768 ≤ bitsOf value 23 0 ∧ bitsOf value 23 0 + 65536 ≤ 16777216) → Completes (.windowWrite i value) s (fun t =>
      t.fld (MB_WINDOW_EN i) = bitsOf value 63 63 ∧ t.fld (MB_WINDOW_BASE i) = bitsOf value 23 0 ∧ t.reg MB_ERR = s.reg MB_ERR ∧
      ∀ j < 16, j ≠ i → t.reg (MB_WINDOW j) = s.reg (MB_WINDOW j))) ∧
  (∀ (s : State) (i value : Nat), i < 16 → s.flag ST_CTRL_ENABLE = true ∨
    (value.testBit 63 = true ∧ (bitsOf value 23 0 < 32768 ∨ 16777216 < bitsOf value 23 0 + 65536)) → Completes (.windowWrite i value) s (fun t =>
      t.fld MB_ERR_WINDOW_REFUSED = 1 ∧ ∀ j < 16, t.reg (MB_WINDOW j) = s.reg (MB_WINDOW j))) ∧
  (∀ (s : State) (q value : Nat), q < 2 → s.flag (MB_QCFG_ENABLE q) = false → 4 ≤ bitsOf value 3 0 → s.stays.notices = [] → value.testBit 63 = true →
    Completes (.queueConfigWrite q value) s (fun t => t.fld (MB_QCFG_ENABLE q) = 1 ∧ t.fld (MB_QCFG_LOG2_ENTRIES q) = bitsOf value 3 0 ∧
      t.fld (MB_QTAIL_TAIL q) = 0 ∧ t.fld (MB_QHEAD_HEAD q) = 0 ∧ (∀ p < 2, p ≠ q → t.reg (MB_QCFG p) = s.reg (MB_QCFG p)))) ∧
  (∀ (s : State) (q value : Nat), q < 2 → value.testBit 63 = false → bitsOf value 3 0 = s.fld (MB_QCFG_LOG2_ENTRIES q) → Completes (.queueConfigWrite q value) s (fun t =>
    t.fld (MB_QCFG_ENABLE q) = 0 ∧ t.reg (MB_QTAIL q) = s.reg (MB_QTAIL q) ∧ t.reg (MB_QHEAD q) = s.reg (MB_QHEAD q) ∧ t.reg MB_ERR = s.reg MB_ERR)) ∧
  (∀ (s : State) (q value : Nat), q < 2 → s.flag (MB_QCFG_ENABLE q) = true → 4 ≤ bitsOf value 3 0 → bitsOf value 3 0 ≠ s.fld (MB_QCFG_LOG2_ENTRIES q) →
    Completes (.queueConfigWrite q value) s (fun t => t.fld MB_ERR_QUEUE_REFUSED = 1 ∧ t.reg (MB_QCFG q) = s.reg (MB_QCFG q) ∧
      t.reg (MB_QTAIL q) = s.reg (MB_QTAIL q))) ∧
  (∀ (s : State) (q at_ : Nat), q < 2 → s.host.holdoff.length = 2 → s.host.owedVector.length = 2 → s.host.holdoff.getD q none = some at_ →
    at_ + ticksPerUs ≤ s.free → s.host.owedVector.getD q false = true → s.linkUp = true → Completes (.msixHoldoffExpiry q) s (fun t =>
      Signalled s t (1 + q) ∧ t.host.owedVector.getD q false = false ∧ t.host.holdoff.getD q none = some s.free)) ∧
  (∀ (s : State) (q at_ : Nat), q < 2 → s.host.holdoff.length = 2 → s.host.holdoff.getD q none = some at_ →
    at_ + ticksPerUs ≤ s.free → s.host.owedVector.getD q false = false → Completes (.msixHoldoffExpiry q) s (fun t =>
      t.out = s.out ∧ t.host.holdoff.getD q none = none)) ∧
  (∀ s : State, s.linkUp = true → s.host.writing = [] → Completes .functionLevelReset s (fun t =>
    (∀ q < 2, t.flag (MB_QCFG_ENABLE q) = false) ∧ (∀ i < 16, t.flag (MB_WINDOW_EN i) = false) ∧
    t.host.background = s.host.background.map (fun b => { b with report := false }) ∧ t.mem = s.mem ∧ t.stays = s.stays ∧ t.clusters = s.clusters)) ∧
  (∀ s : State, s.linkUp = true → s.host.writing ≠ [] → Completes .functionLevelReset s (fun t =>
    t.host.flrOwed = true ∧ t.host.background = s.host.background ∧ t.regs = s.regs))

/-- R436, R437: the mailbox's standard commands, its logs and staging. These are the model's choices: the return codes and layouts of CXL's own commands
(log entry 92), when a staging copy is made (106), the poison list's apertures and what a command does while the link is down (105). -/
def Obligations.MailboxCompletes : Prop :=
  (∀ (s : State) (p : List Byte) (b : Background) (c : Instr × Nat), s.linkUp = true → s.host.background = some b →
    c ∈ [(.getEventRecords p, 0x0100), (.clearEventRecords p, 0x0101), (.getSupportedLogs p, 0x0400), (.getLog p, 0x0401),
      (.identifyMemoryDevice p, 0x4000), (.getPoisonList p, 0x4300), (.mailboxUnsupported 0x0200, 0x0200), (.stageItinerary p, 0xC010),
      (.stageComponent p, 0xC011), (.updateComponent p, 0xC012), (.commit p, 0xC013), (.stopover p, 0xC030), (.readSnapshot p, 0xC031),
      (.getNonce p, 0xC040), (.ownerSet p, 0xC041), (.serviceClearLedger p, 0xC042), (.serviceClearOwner p, 0xC042)] →
    Completes c.1 s (fun t => Answered s t c.2 6 [] ∧ t.host = s.host ∧ t.regs = s.regs)) ∧
  (∀ (s : State) (p : List Byte) (c : Instr), s.linkUp = false →
    c ∈ [.getEventRecords p, .clearEventRecords p, .getSupportedLogs p, .getLog p, .identifyMemoryDevice p, .getPoisonList p,
      .mailboxUnsupported 0x0200, .stageItinerary p, .stageComponent p, .updateComponent p, .commit p, .stopover p, .readSnapshot p, .getNonce p,
      .ownerSet p, .serviceClearLedger p, .serviceClearOwner p, .reset p, .getLogEntries p] → Completes c s (fun t => t = s)) ∧
  (∀ (s : State) (p : List Byte), MailboxFree s → p.length = 1 → Completes (.getEventRecords p) s (fun t =>
    Answered s t 0x0100 0 (zeroBytes 32) ∧ t.regs = s.regs)) ∧
  (∀ (s : State) (p : List Byte), MailboxFree s → p.length = 6 + 2 * byteAt p 2 → Completes (.clearEventRecords p) s (fun t =>
    Answered s t 0x0101 0 [] ∧ t.regs = s.regs)) ∧
  (∀ s : State, MailboxFree s → Completes (.getSupportedLogs []) s (fun t =>
    Answered s t 0x0400 0 (natLE 2 1 ++ zeroBytes 6 ++ celId ++ natLE 4 68))) ∧
  (∀ (s : State) (off n : Nat), MailboxFree s → off + n ≤ 68 → Completes (.getLog (celId ++ natLE 4 off ++ natLE 4 n)) s (fun t =>
    Answered s t 0x0401 0 ((effectsLog.drop off).take n))) ∧
  (∀ (s : State) (p : List Byte), MailboxFree s → p.length ≠ 24 ∨ p.take 16 ≠ celId → Completes (.getLog p) s (fun t => Answered s t 0x0401 2 [])) ∧
  (∀ s : State, MailboxFree s → Completes (.identifyMemoryDevice []) s (fun t =>
    Answered s t 0x4000 0 ((List.range 69).map (Config.partByte 6 0)) ∧ t.host = s.host)) ∧
  (∀ (s : State) (p : List Byte), MailboxFree s → p.length = 16 → Completes (.getPoisonList p) s (fun t =>
    ∃ hits ∈ [s.poisonList.filter (fun w => decide (leAt p 0 8 ≤ w ∧ w < leAt p 0 8 + 64 * leAt p 8 8))],
      Answered s t 0x4300 0 (natLE 10 (if 1022 < hits.length then 1 else 0) ++ natLE 2 (min 1022 hits.length) ++ zeroBytes 20 ++
        (hits.take 1022).flatMap (fun w => natLE 8 (w / 64 * 64) ++ natLE 4 1 ++ zeroBytes 4)))) ∧
  (∀ (s : State) (i w : Nat), i < 4096 → bitsOf (s.reg (WATCH_RING_MSG i)).toNat 53 48 = 0x22 →
    s.windowOf (bitsOf (s.reg (WATCH_RING_MSG i)).toNat 39 0) = some w → w ∈ s.poisonList) ∧
  (∀ (s : State) (opcode : Nat), MailboxFree s → opcodes.contains opcode = false → Completes (.mailboxUnsupported opcode) s (fun t =>
    Answered s t opcode 3 [] ∧ t.host = s.host)) ∧
  (∀ s : State, s.linkUp = true → Completes (.reset []) s (fun t => Answered s t 0xC000 0 [] ∧ t.host.background = none ∧
    t.host.writing = s.host.writing ∧ t.power.resetDue = some (s.free + 1000 * ticksPerUs) ∧ t.regs = s.regs)) ∧
  (∀ (s : State) (start n : Nat), s.linkUp = true → n ≤ 170 → start < 2 ^ 32 → Completes (.getLogEntries (natLE 4 start ++ natLE 2 n)) s (fun t =>
    Answered s t 0xC020 0 (((s.host.log.drop start).take n).flatMap logBytes) ∧ t.host = s.host)) ∧
  (∀ (s : State) (p : List Byte), MailboxFree s → s.flag DV_ITIN_STATUS_BUSY = false → s.flag DV_ITIN_STATUS_PENDING = false → s.sourceOk p = true →
    Completes (.stageItinerary p) s (fun t => Answered s t 0xC010 1 [] ∧ t.host.background = some ⟨0xC010, p, 0, [], true, true⟩ ∧ t.mem = s.mem)) ∧
  (∀ (s : State) (p : List Byte), MailboxFree s → s.flag DV_ITIN_STATUS_BUSY = false → s.flag DV_ITIN_STATUS_PENDING = false → s.sourceOk p = false →
    Completes (.stageItinerary p) s (fun t => Answered s t 0xC010 2 [] ∧ t.host = s.host)) ∧
  (∀ (s : State) (p : List Byte), MailboxFree s → s.updating = false → s.sourceOk p = true → Completes (.stageComponent p) s (fun t =>
    Answered s t 0xC011 1 [] ∧ t.host.background = some ⟨0xC011, p, 0, [], true, true⟩ ∧ t.mem = s.mem)) ∧
  (∀ (s : State) (b : Background) (w n a : Nat), s.linkUp = true → s.host.background = some b → b.ready = true → b.report = true → b.opcode = 0xC010 →
    b.arg = natLE 8 w ++ natLE 4 n → w < 2 ^ 36 → 1 ≤ n → w % 65536 + n ≤ 65536 → s.windowAt w = some a → PoolClean s →
    Completes .backgroundCommandDone s (fun t => Answered s t 0xC010 0 [] ∧ t.host.background = none ∧ t.host.stagedLen = some n ∧
      t.peek itinStaging n = s.peek a n))

/-- R411, R435 to R439, R446 to R450: updates, stopover, owner and service commands of the mailbox. These are the model's choices: the owner record's
layout (log entry 107), the order of an update's failures and when COMMIT acts (108), what RESET drops and how long it waits (109), how READ_SNAPSHOT
ends (103), and the return codes (92). -/
def Obligations.MailboxUpdatesComplete : Prop :=
  (∀ (s : State) (n : Nat) (ok : Bool), MailboxFree s → s.updating = false → s.host.componentLen = some (n, ok) → PoolClean s →
    Completes (.updateComponent []) s (fun t => Answered s t 0xC012 1 [] ∧ t.mem = s.mem ∧
      t.host.background.map (·.payload) = some [
        if !imageWell (s.peek componentStaging n) ∨ imageLen (s.peek componentStaging n) ≠ n then 3
        else if !imageSigned (s.peek componentStaging n) (s.host.flash.signer (byteAt (s.peek componentStaging n) 4)) then 1
        else if imageSvn (s.peek componentStaging n) < sparseGet 0 s.host.flash.minSvn (byteAt (s.peek componentStaging n) 4) then 2 else 0] ∧
      t.host.writing = s.host.writing ++
        (if t.host.background.map (·.payload) = some [0] then [.component (byteAt (s.peek componentStaging n) 4)
          (!s.host.flash.activeB.contains (byteAt (s.peek componentStaging n) 4)) (s.peek componentStaging n)] else []))) ∧
  (∀ s : State, MailboxFree s → s.updating = false → s.host.componentLen = none → Completes (.updateComponent []) s (fun t =>
    Answered s t 0xC012 1 [] ∧ t.host.background = some ⟨0xC012, [], 0, [3], true, true⟩ ∧ t.host.writing = s.host.writing)) ∧
  (∀ s : State, MailboxFree s → s.updating = true → Completes (.updateComponent []) s (fun t => Answered s t 0xC012 6 [] ∧ t.host = s.host)) ∧
  (∀ s : State, MailboxFree s → s.updating = false → s.host.bootTrial = 0 → Completes (.commit []) s (fun t =>
    Answered s t 0xC013 0 ([1, 2, 3, 4, 5, 6].flatMap (fun c => natLE 2 (sparseGet 0 s.host.flash.minSvn c))) ∧ t.host = s.host)) ∧
  (∀ s : State, MailboxFree s → s.updating = false → s.host.bootTrial ≠ 0 → Completes (.commit []) s (fun t =>
    ∀ c ∈ [1, 2, 3, 4, 5, 6], s.host.bootTrial.testBit (c - 1) = true →
      t.host.flash.activeB.contains c = s.host.bootB.testBit (c - 1) ∧ t.host.flash.trial.contains c = false)) ∧
  (∀ s : State, MailboxFree s → s.fld PH_STOP_STATUS_STATE < 2 → s.phase = 5 → s.stackLost 0 = false → Completes (.stopover []) s (fun t =>
    t.out.mailbox = s.out.mailbox ++ [(0xC030, 1, [])] ∧ t.host.background = some ⟨0xC030, [], 0, [], false, true⟩ ∧ t.health.stopMailbox = true ∧
    t.phase = 6 ∧ t.fld PH_STOP_STATUS_STATE = 2)) ∧
  (∀ s : State, MailboxFree s → s.fld PH_STOP_STATUS_STATE < 2 → s.phase ≠ 5 → s.severity 0x302 0x39 < 4 → Completes (.stopover []) s (fun t =>
    t.host.background = some ⟨0xC030, [], 0, [6], true, true⟩ ∧ t.fld PH_ERR_STOP_REFUSED = 1 ∧ Told s t 0x302 0x39 6)) ∧
  (∀ (s : State) (seg : Nat), MailboxFree s → s.fld PH_STOP_STATUS_STATE < 2 → s.flag PH_RESTORE_STATUS_BUSY = false → seg < 32767 → PoolClean s →
    Completes (.readSnapshot (0 :: natLE 3 seg)) s (fun t => Answered s t 0xC031 1 [] ∧
      t.host.background = some ⟨0xC031, 0 :: natLE 3 seg, 0, s.peek (segmentAt s.readBank seg) 4096, true, true⟩)) ∧
  (∀ (s : State) (seg : Nat), MailboxFree s → s.fld PH_STOP_STATUS_STATE < 2 → s.flag PH_RESTORE_STATUS_BUSY = false → seg < 32767 →
    s.flag PH_STOP_CFG_PARTNER_VALID = true → s.sw.agentWait = [] → RouteTo s (s.fld PH_STOP_CFG_PARTNER) → Completes (.readSnapshot (1 :: natLE 3 seg)) s (fun t =>
      Answered s t 0xC031 1 [] ∧ t.host.background.map (·.ready) = some false ∧ Sent t (fun g => g.kind == 0x1D && g.dstCoord == s.fld PH_STOP_CFG_PARTNER &&
        g.dstPort == 0xF2 && g.address == seg + s.fld PH_STOP_STATUS_SEQ * 2 ^ 15))) ∧
  (∀ s : State, MailboxFree s → Completes (.getNonce []) s (fun t => t.host.nonce.isSome = true ∧ (t.host.nonce.getD []).length = 32 ∧
    Answered s t 0xC040 0 (t.host.nonce.getD []))) ∧
  (∀ (s : State) (p n : List Byte), MailboxFree s → s.updating = false → p.length = 1952 + 3309 → s.host.nonce = some n → s.host.flash.owner = none →
    Completes (.ownerSet p) s (fun t => Answered s t 0xC041 1 [] ∧ t.host.nonce = none ∧ t.host.flash = s.host.flash ∧
      t.host.background.map (·.payload) = some [if Config.mldsaVerify (p.take 1952) n (p.drop 1952) then 0 else 1] ∧
      t.host.writing = s.host.writing ++ (if Config.mldsaVerify (p.take 1952) n (p.drop 1952) then [.owner (some (p.take 1952))] else []))) ∧
  (∀ (s : State) (p n key : List Byte), MailboxFree s → s.updating = false → p.length = 1952 + 3309 → s.host.nonce = some n → s.host.flash.owner = some key →
    Completes (.ownerSet p) s (fun t => Answered s t 0xC041 1 [] ∧ t.host.nonce = none ∧
      t.host.background.map (·.payload) = some [if Config.mldsaVerify key (p.take 1952 ++ n) (p.drop 1952) then 0 else 1] ∧
      t.host.writing = s.host.writing ++ (if Config.mldsaVerify key (p.take 1952 ++ n) (p.drop 1952) then [.owner (some (p.take 1952))] else []))) ∧
  (∀ (s : State) (p : List Byte), MailboxFree s → s.updating = false → p.length = 1952 + 3309 → s.host.nonce = none → Completes (.ownerSet p) s (fun t =>
    Answered s t 0xC041 1 [] ∧ t.host.background = some ⟨0xC041, p, 0, [2], true, true⟩ ∧ t.host.writing = s.host.writing)) ∧
  (∀ (s : State) (p : List Byte) (op : Nat), MailboxFree s → s.updating = false → p.length = 97 + 3309 → op ∈ [1, 2] → byteAt p 0 = op →
    s.host.nonce = some ((p.drop 1).take 32) → Completes (if op = 1 then .serviceClearLedger p else .serviceClearOwner p) s (fun t =>
      Answered s t 0xC042 1 [] ∧ t.host.nonce = none ∧
      t.host.background.map (·.payload) = some [if (p.drop 33).take 64 = deviceDigest ∧
        Config.mldsaVerify (s.host.flash.owner.getD firmwareKey) (p.take 97) (p.drop 97) then 0 else 1] ∧
      t.host.writing = s.host.writing ++ (if (p.drop 33).take 64 = deviceDigest ∧
        Config.mldsaVerify (s.host.flash.owner.getD firmwareKey) (p.take 97) (p.drop 97) then [if op = 1 then .ledger [] else .owner none] else []))) ∧
  (∀ (s : State) (c m v : Nat), MailboxFree s → s.updating = false → s.host.bootTrial ≠ 0 → 1 ≤ c → c ≤ 6 → s.host.svns = [(c, v)] →
    s.host.flash.minSvn = [(c, m)] → Completes (.commit []) s (fun t =>
      sparseGet 0 t.host.flash.minSvn c = max m v ∧ t.host.bootTrial = 0))

/-- R436, R439, R446 to R450: the end of background commands and of flash writes. These are the model's choices: when a staging copy is made (log entry
106), what COMMIT acts on (108), what a write of a slot leaves when its supply is lost (47), and that an end of nothing that runs has no effect (24). -/
def Obligations.BackgroundEndsComplete : Prop :=
  (∀ (s : State) (b : Background), s.linkUp = true → s.host.background = some b → b.ready = true → b.report = true → b.opcode ≠ 0xC010 → b.opcode ≠ 0xC011 →
    Completes .backgroundCommandDone s (fun t => Answered s t b.opcode b.code b.payload ∧ t.host.background = none ∧
      t.host.bgDone = some (b.opcode, b.code) ∧ t.regs = s.regs)) ∧
  (∀ (s : State) (b : Background), s.host.background = some b → b.ready = false → Completes .backgroundCommandDone s (fun t => t = s)) ∧
  (∀ (s : State) (c : Nat) (slotB : Bool) (data : List Byte) (rest : List FlashWrite), s.host.writing = .component c slotB data :: rest →
    s.power.resetOwed = false → s.host.flrOwed = false → Completes .flashWriteDone s (fun t => t.host.writing = rest ∧ t.host.flash.image c slotB = data ∧
      t.host.flash.trial.contains c = true ∧ t.host.flash.activeB = s.host.flash.activeB ∧
      (∀ b ∈ s.host.background, b.opcode = 0xC012 → t.host.background = some { b with ready := true }))) ∧
  (∀ (s : State) (key : List Byte) (rest : List FlashWrite), s.host.writing = .owner (some key) :: rest → s.power.resetOwed = false → s.host.flrOwed = false →
    Completes .flashWriteDone s (fun t => t.host.writing = rest ∧ t.host.flash.owner = some key ∧ t.fld MB_BOOT_STATUS_OWNER_SET = 1)) ∧
  (∀ (s : State) (rest : List FlashWrite), s.host.writing = .owner none :: rest → s.power.resetOwed = false → s.host.flrOwed = false →
    Completes .flashWriteDone s (fun t => t.host.writing = rest ∧ t.host.flash.owner = none ∧ t.fld MB_BOOT_STATUS_OWNER_SET = 0)) ∧
  (∀ (s : State) (seq partner : Nat) (d : List Byte) (bank : Bool) (rest : List FlashWrite), s.host.writing = .stopRecord seq d bank partner :: rest →
    s.power.resetOwed = false → s.host.flrOwed = false → Completes .flashWriteDone s (fun t => t.host.writing = rest ∧
      t.host.flash.stop = some (seq, d, bank, partner) ∧ t.regs = s.regs)) ∧
  (∀ (s : State) (entries : List Nat) (rest : List FlashWrite), s.host.writing = .ledger entries :: rest → entries.length < 4096 → s.power.resetOwed = false →
    s.host.flrOwed = false → Completes .flashWriteDone s (fun t => t.host.writing = rest ∧ t.host.flash.ledger = entries ∧
      t.fld MEM_REPAIR_STATUS_LEDGER_USED = entries.length))

/-- R425, R431, R445, R447, R448: SPDM requests, DOE discovery and the CDAT. These are the model's choices: how SPDM and DOE responses are recorded and
what a request out of order is answered with (log entry 93), that SHAKE256 and ML-DSA are free functions (119), and so the certificates and the keys'
derivation below them (120). -/
def Obligations.AttestationCompletes : Prop :=
  (∀ s : State, s.linkUp = true → Completes .getVersion s (fun t => Responds s t 0x04 0 0 (natLE 2 0x1300) ∧ t.host.selected = none)) ∧
  (∀ s : State, s.linkUp = true → s.host.selected ≠ some false → Completes .getCapabilities s (fun t =>
    Responds s t 0x61 0 0 (natLE 4 0x36 ++ natLE 4 65536 ++ natLE 4 65536) ∧ t.host = s.host)) ∧
  (∀ (s : State) (m x : Bool), s.linkUp = true → s.host.selected ≠ some false → Completes (.negotiateAlgorithms m x) s (fun t =>
    Responds s t 0x63 0 0 ((if m then natLE 2 1 else []) ++ (if x then natLE 2 2 else [])) ∧ t.host.selected = some (m || x))) ∧
  (∀ s : State, s.linkUp = true → s.host.selected ≠ some false → Completes (.negotiateAlgorithms false false) s (fun t =>
    Responds s t 0x63 0 0 [] ∧ t.host.selected = some false)) ∧
  (∀ (s : State) (b slot off n : Nat) (nonce : List Byte) (c : Instr), s.linkUp = true → s.host.selected ≠ some true →
    c ∈ [.getDigests, .getCertificate slot off n, .challenge slot nonce, .getMeasurements b nonce] → Completes c s (fun t =>
      Responds s t 0x7F 4 0 [] ∧ t.host = s.host ∧ t.regs = s.regs)) ∧
  (∀ (s : State) (m x : Bool) (code : Nat) (c : Instr), s.linkUp = true → s.host.selected = some false →
    c ∈ [.getCapabilities, .negotiateAlgorithms m x, .spdmUnsupportedRequest code] → Completes c s (fun t =>
      Responds s t 0x7F 4 0 [] ∧ t.host = s.host ∧ t.regs = s.regs)) ∧
  (∀ s : State, s.linkUp = true → s.host.selected = some true → Completes .getDigests s (fun t =>
    Responds s t 0x01 0 1 (shake 64 s.chain) ∧ t.host = s.host)) ∧
  (∀ (s : State) (off n : Nat), s.linkUp = true → s.host.selected = some true → Completes (.getCertificate 0 off n) s (fun t =>
    if s.chain.length < off then Responds s t 0x7F 1 0 []
    else Responds s t 0x02 0 0 (natLE 4 (min n (s.chain.length - off)) ++ natLE 4 (s.chain.length - off - min n (s.chain.length - off)) ++
      (s.chain.drop off).take n))) ∧
  (∀ (s : State) (slot off n : Nat), s.linkUp = true → s.host.selected = some true → slot ≠ 0 → Completes (.getCertificate slot off n) s (fun t =>
    Responds s t 0x7F 1 0 [])) ∧
  (∀ (s : State) (nonce : List Byte), s.linkUp = true → s.host.selected = some true → nonce.length = 32 → Completes (.challenge 0 nonce) s (fun t =>
    Responds s t 0x03 0 1 (shake 64 s.chain ++ nonce ++ s.aliasSign (shake 64 s.chain ++ nonce)))) ∧
  (∀ (s : State) (slot : Nat) (nonce : List Byte), s.linkUp = true → s.host.selected = some true → slot ≠ 0 → Completes (.challenge slot nonce) s (fun t =>
    Responds s t 0x7F 1 0 [])) ∧
  (∀ (s : State) (b : Nat) (nonce : List Byte), s.linkUp = true → s.host.selected = some true → 1 ≤ b → b ≤ 8 → nonce.length = 32 →
    Completes (.getMeasurements b nonce) s (fun t => Responds s t 0x60 0 0 (natLE 1 b ++ s.blockDigest b ++ nonce ++
      s.aliasSign (natLE 1 b ++ s.blockDigest b ++ nonce)))) ∧
  (∀ (s : State) (nonce : List Byte), s.linkUp = true → s.host.selected = some true → nonce.length = 32 → Completes (.getMeasurements 0xFF nonce) s (fun t =>
    Responds s t 0x60 0 0 ([1, 2, 3, 4, 5, 6, 7, 8].flatMap (fun b => natLE 1 b ++ s.blockDigest b) ++ nonce ++
      s.aliasSign ([1, 2, 3, 4, 5, 6, 7, 8].flatMap (fun b => natLE 1 b ++ s.blockDigest b) ++ nonce)))) ∧
  (∀ (s : State) (b : Nat) (nonce : List Byte), s.linkUp = true → s.host.selected = some true → b = 0 ∨ (8 < b ∧ b ≠ 0xFF) →
    Completes (.getMeasurements b nonce) s (fun t => Responds s t 0x7F 1 0 [])) ∧
  (∀ (s : State) (im : Image), s.clusters.active = some im → s.blockDigest 7 = padTo 64 im.digest) ∧
  (∀ (s : State) (c : Nat) (d : List Byte), c < 7 → s.host.measured = [(c, d)] → s.blockDigest c = d) ∧
  (∀ (s : State) (code : Nat), s.linkUp = true → s.host.selected ≠ some false → Completes (.spdmUnsupportedRequest code) s (fun t =>
    Responds s t 0x7F 7 code [] ∧ t.host = s.host)) ∧
  (∀ s : State, s.linkUp = true → Completes (.doeDiscovery 0) s (fun t => t.out.doe = s.out.doe ++ [[0x01, 0x00, 0x00, 0x01]])) ∧
  (∀ s : State, s.linkUp = true → Completes (.doeDiscovery 1) s (fun t => t.out.doe = s.out.doe ++ [[0x01, 0x00, 0x01, 0x02]])) ∧
  (∀ s : State, s.linkUp = true → Completes (.doeDiscovery 2) s (fun t => t.out.doe = s.out.doe ++ [[0x98, 0x1E, 0x02, 0x00]])) ∧
  (∀ s : State, s.linkUp = true → Completes .cdatTableAccess s (fun t =>
    t.out.doe = s.out.doe ++ [natLE 8 0 ++ natLE 8 (2 ^ 36) ++ natLE 4 300 ++ natLE 4 300 ++ natLE 4 56 ++ natLE 4 56])) ∧
  (∀ (s : State) (i n : Nat) (nonce : List Byte) (c : Instr), s.linkUp = false →
    c ∈ [.getVersion, .getCapabilities, .negotiateAlgorithms true true, .getDigests, .getCertificate i n n, .challenge i nonce, .getMeasurements i nonce,
      .spdmUnsupportedRequest n, .doeDiscovery i, .cdatTableAccess] → Completes c s (fun t => t = s))

/-- Which parts of the state the commands of the power input, start-up, register access, bell time and the switch may change: every other part, the queue
included, is left alone, and the canonical form is kept. -/
def Obligations.PowerTimeAndSwitchParts : Prop :=
  (∀ (s : State), Ends [.regs, .power, .bell, .watch, .sw, .lanes, .tally, .mem, .stays, .clusters, .health, .host, .out] s (exec (.warmReset) s)) ∧
  (∀ (s : State), Ends [.regs, .power, .bell, .watch, .sw, .lanes, .tally, .mem, .stays, .clusters, .health, .host, .out] s (exec (.powerCycle) s)) ∧
  (∀ (s : State), Ends [.regs, .power, .bell, .watch, .sw, .lanes, .tally, .mem, .stays, .clusters, .health, .host, .out] s (exec (.powerOff) s)) ∧
  (∀ (s : State), Ends [.power] s (exec (.railsDischarged) s)) ∧
  (∀ (s : State), Ends [.regs, .power, .host, .out] s (exec (.inputSwitchClose) s)) ∧
  (∀ (s : State) (vin : Nat), Ends [.regs, .power] s (exec (.inputLow vin) s)) ∧
  (∀ (s : State) (vin : Nat), Ends [.regs, .power] s (exec (.inputRecovered vin) s)) ∧
  (∀ (s : State) (vin : Nat), Ends [.regs, .power, .bell, .watch, .sw, .lanes, .tally, .mem, .stays, .clusters, .health, .host, .out] s (exec (.undervoltage vin) s)) ∧
  (∀ (s : State) (vin : Nat), Ends [.regs, .power] s (exec (.surge vin) s)) ∧
  (∀ (s : State) (vin : Nat), Ends [.regs, .power, .bell, .watch, .sw, .lanes, .tally, .mem, .stays, .clusters, .health, .host, .out] s (exec (.overvoltage vin) s)) ∧
  (∀ (s : State) (vin : Nat), Ends [.regs, .power] s (exec (.reverse vin) s)) ∧
  (∀ (s : State), Ends [.regs, .power, .bell, .watch, .sw, .lanes, .tally, .mem, .stays, .clusters, .health, .host, .out] s (exec (.overcurrent) s)) ∧
  (∀ (s : State), Ends [.power] s (exec (.retry) s)) ∧
  (∀ (s : State) (stage : Nat), Ends [.regs, .power, .bell, .watch, .sw, .lanes, .tally, .mem, .stays, .clusters, .health, .host, .out] s (exec (.powerStageFail stage) s)) ∧
  (∀ (s : State), Ends [.regs, .power, .out] s (exec (.railsStable) s)) ∧
  (∀ (s : State), Ends [.regs, .sw, .tally] s (exec (.vacancyThreadDone) s)) ∧
  (∀ (s : State) (stack : Nat), Ends [.regs, .power, .mem, .host, .out] s (exec (.stackFillDone stack) s)) ∧
  (∀ (s : State) (stack : Nat), Ends [.regs, .power, .watch, .sw, .lanes, .tally, .health, .host, .out] s (exec (.fillLate stack) s)) ∧
  (∀ (s : State), Ends [.power] s (exec (.musterMark) s)) ∧
  (∀ (s : State) (failing crossings : List Nat), Ends [.regs, .power, .bell, .watch, .sw, .lanes, .tally, .mem, .health, .host, .out] s (exec (.musterCheck failing crossings) s)) ∧
  (∀ (s : State) (island : Nat), Ends [.regs, .power, .watch, .sw, .lanes, .tally, .health, .host, .out] s (exec (.islandOutOfMuster island) s)) ∧
  (∀ (s : State) (island : Nat), Ends [.regs, .sw] s (exec (.remusterDone island) s)) ∧
  (∀ (s : State), Ends [.regs, .power, .bell, .out] s (exec (.bringupDeadline) s)) ∧
  (∀ (s : State) (coord sizeX1 sizeY1 sizeZ1 : Nat), Ends [.regs, .out] s (exec (.setCoord coord sizeX1 sizeY1 sizeZ1) s)) ∧
  (∀ (s : State) (coord ptpPort source : Nat), Ends [.regs, .out] s (exec (.setRoot coord ptpPort source) s)) ∧
  (∀ (s : State) (offset : Nat), Ends [.out] s (exec (.readReg offset) s)) ∧
  (∀ (s : State) (slotB : Bool) (piece : Nat) (data : List Byte), Ends [.host, .out] s (exec (.recoverWrite slotB piece data) s)) ∧
  (∀ (s : State) (code : Nat), Ends [.out] s (exec (.mctpUnknownCommand code) s)) ∧
  (∀ (s : State) (offset size value : Nat), Ends [.regs, .power, .bell, .watch, .sw, .lanes, .tally, .mem, .stays, .clusters, .health, .host, .out, .free] s (exec (.registerWrite offset size value) s)) ∧
  (∀ (s : State) (tA : Nat), Ends [.regs, .power, .bell, .watch, .sw, .lanes, .tally, .health, .host, .out] s (exec (.syncInterval tA) s)) ∧
  (∀ (s : State) (dir : Nat) (f : Frame) (tB tC : Nat), Ends [.regs, .bell, .sw] s (exec (.sync dir f tB tC) s)) ∧
  (∀ (s : State) (dir : Nat) (f : Frame) (tD : Nat), Ends [.regs, .power, .bell, .watch, .sw, .lanes, .tally, .health, .host, .out] s (exec (.syncReply dir f tD) s)) ∧
  (∀ (s : State), Ends [.regs, .sw] s (exec (.rootAnnounceSend) s)) ∧
  (∀ (s : State) (dir : Nat) (f : Frame) (tR : Nat), Ends [.regs, .power, .bell, .watch, .sw, .lanes, .tally, .health, .host, .out] s (exec (.rootAnnounce dir f tR) s)) ∧
  (∀ (s : State), Ends [.regs, .bell] s (exec (.rootWaitEnd) s)) ∧
  (∀ (s : State), Ends [.regs, .power, .bell, .watch, .sw, .lanes, .tally, .health, .host, .out] s (exec (.holdLimitExpiry) s)) ∧
  (∀ (s : State), Ends [.regs, .power, .bell, .watch, .sw, .lanes, .tally, .mem, .stays, .clusters, .health, .host, .out, .free] s (exec (.forceStep) s)) ∧
  (∀ (s : State) (isEnd : Bool) (tick : Nat), Ends [.regs] s (exec (.choiceWindowWrite isEnd tick) s)) ∧
  (∀ (s : State), Ends [.regs] s (exec (.choiceWindowOpen) s)) ∧
  (∀ (s : State) (port msgType taiNs : Nat) (eth : List Byte), Ends [.regs, .bell, .sw, .lanes, .tally, .out, .free] s (exec (.ptpMessage port msgType taiNs eth) s)) ∧
  (∀ (s : State) (value : Nat), Ends [.regs] s (exec (.capModeWrite value) s)) ∧
  (∀ (s : State) (block power pin iin vin : Nat), Ends [.regs, .power, .watch, .sw, .lanes, .tally, .health, .host, .out] s (exec (.powerMeasure block power pin iin vin) s)) ∧
  (∀ (s : State) (value : Nat), Ends [.regs, .power] s (exec (.clockWrite value) s)) ∧
  (∀ (s : State), Ends [.regs, .power] s (exec (.clockChange) s)) ∧
  (∀ (s : State) (inlet outlet hubMax island : Nat), Ends [.regs, .power, .bell, .watch, .sw, .lanes, .tally, .mem, .stays, .clusters, .health, .host, .out] s (exec (.hubThermalReport inlet outlet hubMax island) s)) ∧
  (∀ (s : State), Ends [.regs, .power, .host] s (exec (.auxSupplyApplied) s)) ∧
  (∀ (s : State) (tile : Nat), Ends [.regs] s (exec (.tileCalibrationDone tile) s)) ∧
  (∀ (s : State) (port : Nat) (f : Frame), Ends [.regs, .power, .watch, .sw, .lanes, .tally, .health, .host, .out] s (exec (.trunkIdent port f) s)) ∧
  (∀ (s : State) (port : Nat) (f : Frame), Ends [.regs, .power, .watch, .sw, .lanes, .tally, .health, .host, .out] s (exec (.frameIngress port f) s)) ∧
  (∀ (s : State) (port : Nat) (sealOk : Bool), Ends [.regs, .power, .bell, .watch, .sw, .lanes, .tally, .health, .host, .out] s (exec (.frameTailReceived port sealOk) s)) ∧
  (∀ (s : State) (port : Nat), Ends [.regs, .sw, .lanes, .tally, .out] s (exec (.egressSelect port) s)) ∧
  (∀ (s : State) (port : Nat), Ends [.regs, .sw, .lanes, .out] s (exec (.spoil port) s)) ∧
  (∀ (s : State) (port : Nat) (eth : List Byte) (fcsOk : Bool), Ends [.regs, .sw, .lanes, .tally, .out] s (exec (.bridgeFrame port eth fcsOk) s)) ∧
  (∀ (s : State) (f : Frame), Ends [.regs, .sw, .mem] s (exec (.read f) s)) ∧
  (∀ (s : State) (f : Frame), Ends [.regs, .power, .bell, .watch, .sw, .lanes, .tally, .mem, .stays, .clusters, .health, .host, .out, .free] s (exec (.write f) s)) ∧
  (∀ (s : State) (f : Frame), Ends [.regs, .power, .bell, .watch, .sw, .lanes, .tally, .mem, .stays, .clusters, .health, .host, .out, .free] s (exec (.writePosted f) s)) ∧
  (∀ (s : State) (stream : Nat), Ends [.regs, .sw] s (exec (.streamCloseRelease stream) s)) ∧
  (∀ (s : State) (stream : Nat), Ends [.regs, .power, .watch, .sw, .lanes, .tally, .health, .host, .out] s (exec (.streamHoldExpiry stream) s)) ∧
  (∀ (s : State) (port vc : Nat), Ends [.regs, .power, .watch, .sw, .lanes, .tally, .health, .host, .out] s (exec (.sinkLimitExpiry port vc) s)) ∧
  (∀ (s : State) (port : Nat), Ends [.regs, .sw] s (exec (.mcastHoldExpiry port) s)) ∧
  (∀ (s : State) (port : Nat), Ends [.regs, .sw, .lanes, .out] s (exec (.creditTopup port) s)) ∧
  (∀ (s : State), Ends [.regs] s (exec (.sacrificeStageUpdate) s)) ∧
  (∀ (s : State) (place : BufferUe) (word : Nat), Ends [.regs, .power, .watch, .sw, .lanes, .tally, .health, .host, .out] s (exec (.bufferSramUe place word) s)) ∧
  (∀ (s : State) (bank : Nat), Ends [.regs, .power, .watch, .sw, .lanes, .tally, .health, .host, .out] s (exec (.bankRebuildDone bank) s)) ∧
  (∀ (s : State) (n value : Nat), Ends [.regs, .sw] s (exec (.rankEntryWrite n value) s)) ∧
  (∀ (s : State) (p value : Nat), Ends [.regs, .sw] s (exec (.partyEntryWrite p value) s)) ∧
  (∀ (s : State) (n value : Nat), Ends [.regs] s (exec (.streamEntryWrite n value) s)) ∧
  (∀ (s : State) (n value : Nat), Ends [.regs, .sw] s (exec (.ownerMinWrite n value) s)) ∧
  (∀ (s : State) (value : Nat), Ends [.regs] s (exec (.sacrificeThresholdWrite value) s)) ∧
  (∀ (s : State) (offset value : Nat), Ends [.regs, .sw, .clusters] s (exec (.twoWordEntryWrite offset value) s)) ∧
  (∀ (s : State) (value : Nat), Ends [.regs, .sw] s (exec (.swTableRead value) s)) ∧
  (∀ (s : State) (value : Nat), Ends [.regs, .sw] s (exec (.swTableWrite value) s)) ∧
  (∀ (s : State) (value : Nat), Ends [.regs, .sw] s (exec (.tlTableRead value) s)) ∧
  (∀ (s : State) (value : Nat), Ends [.regs, .sw] s (exec (.stTableRead value) s)) ∧
  (∀ (s : State) (window : Nat), Ends [.regs, .sw] s (exec (.tableAccessDone window) s)) ∧
  (∀ (s : State) (port tick : Nat), Ends [.regs] s (exec (.curfewSwitchArm port tick) s)) ∧
  (∀ (s : State) (port : Nat), Ends [.regs] s (exec (.curfewCancel port) s)) ∧
  (∀ (s : State) (port : Nat), Ends [.regs, .sw] s (exec (.curfewSwitchover port) s)) ∧
  (∀ (s : State) (port : Nat), Ends [.regs, .sw] s (exec (.curfewEntryAdvance port) s))

/-- Which parts of the state the commands of the tally engine, the stays service, the clusters and the itineraries may change: every other part, the queue
included, is left alone, and the canonical form is kept. -/
def Obligations.TallyStayAndCoreParts : Prop :=
  (∀ (s : State) (ctx : Nat), Ends [.regs, .sw, .tally] s (exec (.fenceSeen ctx) s)) ∧
  (∀ (s : State) (f : Frame), Ends [.regs, .power, .watch, .sw, .lanes, .tally, .health, .host, .out] s (exec (.claim f) s)) ∧
  (∀ (s : State) (f : Frame), Ends [.regs, .power, .watch, .sw, .lanes, .tally, .health, .host, .out] s (exec (.release f) s)) ∧
  (∀ (s : State) (f : Frame), Ends [.regs, .power, .watch, .sw, .lanes, .tally, .health, .host, .out] s (exec (.tallyUnlistedKind f) s)) ∧
  (∀ (s : State) (f : Frame), Ends [.regs, .power, .watch, .sw, .lanes, .tally, .health, .host, .out] s (exec (.operand f) s)) ∧
  (∀ (s : State) (ctx g : Nat), Ends [.regs, .sw, .tally] s (exec (.tallyStep ctx g) s)) ∧
  (∀ (s : State) (f : Frame) (sealOk headerOk : Bool), Ends [.regs, .power, .watch, .sw, .lanes, .tally, .health, .host, .out] s (exec (.result f sealOk headerOk) s)) ∧
  (∀ (s : State) (f : Frame), Ends [.regs, .power, .watch, .sw, .lanes, .tally, .health, .host, .out] s (exec (.ack f) s)) ∧
  (∀ (s : State) (f : Frame), Ends [.regs, .power, .watch, .sw, .lanes, .tally, .stays, .health, .host, .out] s (exec (.credit f) s)) ∧
  (∀ (s : State) (f : Frame), Ends [.regs, .power, .watch, .sw, .lanes, .tally, .health, .host, .out] s (exec (.resend f) s)) ∧
  (∀ (s : State) (f : Frame), Ends [.regs, .power, .watch, .sw, .lanes, .tally, .health, .host, .out] s (exec (.fail f) s)) ∧
  (∀ (s : State) (f : Frame), Ends [.regs, .power, .watch, .sw, .lanes, .tally, .health, .host, .out] s (exec (.dispatch f) s)) ∧
  (∀ (s : State) (ctx g slot : Nat), Ends [.regs, .sw, .tally] s (exec (.resultAckTimeout ctx g slot) s)) ∧
  (∀ (s : State) (ctx g slot : Nat), Ends [.regs, .sw, .tally] s (exec (.contribResendTimeout ctx g slot) s)) ∧
  (∀ (s : State) (ctx reason g unit : Nat), Ends [.regs, .power, .watch, .sw, .lanes, .tally, .health, .host, .out] s (exec (.tallyCorruption ctx reason g unit) s)) ∧
  (∀ (s : State) (p value : Nat), Ends [.regs, .tally] s (exec (.tallyPoolMinWrite p value) s)) ∧
  (∀ (s : State) (f : Frame), Ends [.regs, .power, .watch, .sw, .lanes, .tally, .mem, .stays, .health, .host, .out] s (exec (.open f) s)) ∧
  (∀ (s : State) (f : Frame), Ends [.regs, .power, .watch, .sw, .lanes, .tally, .mem, .stays, .health, .host, .out] s (exec (.append f) s)) ∧
  (∀ (s : State) (index : Nat), Ends [.regs, .sw, .mem, .stays, .free] s (exec (.appendResume index) s)) ∧
  (∀ (s : State) (f : Frame), Ends [.regs, .power, .watch, .sw, .lanes, .tally, .mem, .stays, .health, .host, .out] s (exec (.attend f) s)) ∧
  (∀ (s : State) (srcCoord srcPort tag : Nat), Ends [.regs, .sw, .mem, .stays] s (exec (.assembleWaitExpiry srcCoord srcPort tag) s)) ∧
  (∀ (s : State) (pos : Nat), Ends [.regs, .sw, .mem, .stays, .clusters] s (exec (.attendPlace pos) s)) ∧
  (∀ (s : State) (f : Frame), Ends [.regs, .power, .watch, .sw, .lanes, .tally, .mem, .stays, .health, .host, .out] s (exec (.fork f) s)) ∧
  (∀ (s : State) (f : Frame), Ends [.regs, .power, .watch, .sw, .lanes, .tally, .mem, .stays, .health, .host, .out] s (exec (.park f) s)) ∧
  (∀ (s : State) (index : Nat), Ends [.regs, .sw, .mem, .stays, .host, .out, .free] s (exec (.parkToHost index) s)) ∧
  (∀ (s : State) (index : Nat), Ends [.regs, .sw, .mem, .stays, .free] s (exec (.parkToPeer index) s)) ∧
  (∀ (s : State) (f : Frame), Ends [.regs, .power, .watch, .sw, .lanes, .tally, .mem, .stays, .health, .host, .out] s (exec (.unpark f) s)) ∧
  (∀ (s : State) (f : Frame), Ends [.regs, .power, .watch, .sw, .lanes, .tally, .mem, .stays, .health, .host, .out] s (exec (.close f) s)) ∧
  (∀ (s : State) (index : Nat), Ends [.regs, .sw, .mem, .stays, .free] s (exec (.closeComplete index) s)) ∧
  (∀ (s : State) (f : Frame), Ends [.regs, .power, .watch, .sw, .lanes, .tally, .health, .host, .out] s (exec (.roomUnlistedKind f) s)) ∧
  (∀ (s : State) (f : Frame), Ends [.regs, .power, .watch, .sw, .lanes, .tally, .mem, .stays, .health, .host, .out] s (exec (.mirrorOpen f) s)) ∧
  (∀ (s : State) (f : Frame), Ends [.regs, .power, .watch, .sw, .lanes, .tally, .mem, .stays, .health, .host, .out, .free] s (exec (.mirrorAppend f) s)) ∧
  (∀ (s : State) (f : Frame), Ends [.regs, .power, .watch, .sw, .lanes, .tally, .mem, .stays, .health, .host, .out, .free] s (exec (.mirrorFork f) s)) ∧
  (∀ (s : State) (f : Frame), Ends [.regs, .power, .watch, .sw, .lanes, .tally, .mem, .stays, .health, .host, .out, .free] s (exec (.mirrorClose f) s)) ∧
  (∀ (s : State) (f : Frame), Ends [.regs, .power, .watch, .sw, .lanes, .tally, .mem, .stays, .health, .host, .out, .free] s (exec (.mirrorRoomcopy f) s)) ∧
  (∀ (s : State) (f : Frame), Ends [.regs, .power, .watch, .sw, .lanes, .tally, .mem, .stays, .health, .host, .out, .free] s (exec (.mirrorAck f) s)) ∧
  (∀ (s : State) (index : Nat), Ends [.regs, .power, .watch, .sw, .lanes, .tally, .mem, .stays, .health, .host, .out, .free] s (exec (.mirrorWaitExpiry index) s)) ∧
  (∀ (s : State) (f : Frame), Ends [.regs, .power, .watch, .sw, .lanes, .tally, .mem, .stays, .health, .host, .out] s (exec (.lodgeBook f) s)) ∧
  (∀ (s : State) (f : Frame), Ends [.regs, .power, .watch, .sw, .lanes, .tally, .mem, .stays, .health, .host, .out, .free] s (exec (.lodgeBooked f) s)) ∧
  (∀ (s : State) (f : Frame), Ends [.regs, .power, .watch, .sw, .lanes, .tally, .mem, .stays, .health, .host, .out, .free] s (exec (.lodge f) s)) ∧
  (∀ (s : State) (f : Frame), Ends [.regs, .power, .watch, .sw, .lanes, .tally, .mem, .stays, .health, .host, .out, .free] s (exec (.lodgeAck f) s)) ∧
  (∀ (s : State) (f : Frame), Ends [.regs, .power, .watch, .sw, .lanes, .tally, .mem, .stays, .health, .host, .out] s (exec (.recallReturn f) s)) ∧
  (∀ (s : State) (f : Frame), Ends [.regs, .power, .watch, .sw, .lanes, .tally, .mem, .stays, .health, .host, .out] s (exec (.recallDiscard f) s)) ∧
  (∀ (s : State) (f : Frame), Ends [.regs, .power, .watch, .sw, .lanes, .tally, .mem, .stays, .health, .host, .out] s (exec (.recallPage f) s)) ∧
  (∀ (s : State) (f : Frame), Ends [.regs, .power, .watch, .sw, .lanes, .tally, .mem, .stays, .health, .host, .out, .free] s (exec (.recalled f) s)) ∧
  (∀ (s : State), Ends [.regs, .mem, .stays] s (exec (.eviction) s)) ∧
  (∀ (s : State) (value : Nat), Ends [.regs, .sw, .mem, .stays] s (exec (.takeoverGo value) s)) ∧
  (∀ (s : State), Ends [.regs] s (exec (.takeoverDone) s)) ∧
  (∀ (s : State) (value : Nat), Ends [.regs, .sw, .mem, .stays] s (exec (.remirror value) s)) ∧
  (∀ (s : State) (value : Nat), Ends [.regs] s (exec (.evictThresholdWrite value) s)) ∧
  (∀ (s : State) (inbound : Bool) (value : Nat), Ends [.regs] s (exec (.areaWrite inbound value) s)) ∧
  (∀ (s : State) (cluster n value : Nat), Ends [.regs, .sw, .clusters] s (exec (.bindWrite cluster n value) s)) ∧
  (∀ (s : State) (f : Frame), Ends [.regs, .power, .watch, .sw, .lanes, .tally, .clusters, .health, .host, .out, .free] s (exec (.inbox f) s)) ∧
  (∀ (s : State) (cluster value : Nat), Ends [.regs] s (exec (.coreEnableWrite cluster value) s)) ∧
  (∀ (s : State) (cluster value : Nat), Ends [.regs, .clusters] s (exec (.quarantineClear cluster value) s)) ∧
  (∀ (s : State) (core : Nat), Ends [.regs, .power, .watch, .sw, .lanes, .tally, .stays, .clusters, .health, .host, .out] s (exec (.dupMismatch core) s)) ∧
  (∀ (s : State) (core : Nat) (outcome : DupOutcome), Ends [.regs, .power, .watch, .sw, .lanes, .tally, .stays, .clusters, .health, .host, .out] s (exec (.dupThirdRunDone core outcome) s)) ∧
  (∀ (s : State) (core : Nat) (rerunOk : Bool), Ends [.regs, .power, .watch, .sw, .lanes, .tally, .stays, .clusters, .health, .host, .out] s (exec (.residueFail core rerunOk) s)) ∧
  (∀ (s : State) (core : Nat), Ends [.regs, .power, .watch, .sw, .lanes, .tally, .mem, .stays, .clusters, .health, .host, .out] s (exec (.launchFiring core) s)) ∧
  (∀ (s : State) (core : Nat), Ends [.regs, .power, .watch, .sw, .lanes, .tally, .mem, .stays, .clusters, .health, .host, .out] s (exec (.contFiring core) s)) ∧
  (∀ (s : State) (core : Nat), Ends [.regs, .sw, .tally, .mem, .stays, .clusters] s (exec (.wakeFiring core) s)) ∧
  (∀ (s : State) (core : Nat), Ends [.regs, .sw, .mem, .stays, .clusters] s (exec (.finalRelease core) s)) ∧
  (∀ (s : State) (core : Nat), Ends [.regs, .power, .watch, .sw, .lanes, .tally, .mem, .stays, .clusters, .health, .host, .out] s (exec (.dispatchResume core) s)) ∧
  (∀ (s : State) (core unit : Nat), Ends [.regs, .sw, .mem, .stays, .clusters] s (exec (.instructionComplete core unit) s)) ∧
  (∀ (s : State) (core : Nat), Ends [.regs, .power, .watch, .sw, .lanes, .tally, .mem, .stays, .clusters, .health, .host, .out] s (exec (.endBundle core) s)) ∧
  (∀ (s : State) (core : Nat), Ends [.regs, .power, .watch, .sw, .lanes, .tally, .mem, .stays, .clusters, .health, .host, .out] s (exec (.setx core) s)) ∧
  (∀ (s : State) (core : Nat), Ends [.regs, .power, .watch, .sw, .lanes, .tally, .mem, .stays, .clusters, .health, .host, .out] s (exec (.madx core) s)) ∧
  (∀ (s : State) (core : Nat), Ends [.regs, .power, .watch, .sw, .lanes, .tally, .mem, .stays, .clusters, .health, .host, .out] s (exec (.bell core) s)) ∧
  (∀ (s : State) (core : Nat), Ends [.regs, .power, .watch, .sw, .lanes, .tally, .mem, .stays, .clusters, .health, .host, .out] s (exec (.bellTickReached core) s)) ∧
  (∀ (s : State) (core : Nat), Ends [.regs, .power, .watch, .sw, .lanes, .tally, .mem, .stays, .clusters, .health, .host, .out, .free] s (exec (.fence core) s)) ∧
  (∀ (s : State) (core : Nat), Ends [.regs, .power, .watch, .sw, .lanes, .tally, .mem, .stays, .clusters, .health, .host, .out, .free] s (exec (.fenceDrained core) s)) ∧
  (∀ (s : State) (core : Nat), Ends [.regs, .power, .watch, .sw, .lanes, .tally, .mem, .stays, .clusters, .health, .host, .out, .free] s (exec (.roomld core) s)) ∧
  (∀ (s : State) (core : Nat), Ends [.regs, .sw, .tally, .clusters, .free] s (exec (.lcopy core) s)) ∧
  (∀ (s : State) (core : Nat), Ends [.regs, .sw, .tally, .clusters, .free] s (exec (.mma core) s)) ∧
  (∀ (s : State) (core : Nat), Ends [.regs, .sw, .tally, .clusters, .free] s (exec (.vadd core) s)) ∧
  (∀ (s : State) (core : Nat), Ends [.regs, .sw, .tally, .clusters, .free] s (exec (.vmul core) s)) ∧
  (∀ (s : State) (core : Nat), Ends [.regs, .sw, .tally, .clusters, .free] s (exec (.vfma core) s)) ∧
  (∀ (s : State) (core : Nat), Ends [.regs, .sw, .tally, .clusters, .free] s (exec (.vmax core) s)) ∧
  (∀ (s : State) (core : Nat), Ends [.regs, .sw, .tally, .clusters, .free] s (exec (.vmin core) s)) ∧
  (∀ (s : State) (core : Nat), Ends [.regs, .sw, .tally, .clusters, .free] s (exec (.vsel core) s)) ∧
  (∀ (s : State) (core : Nat), Ends [.regs, .sw, .tally, .clusters, .free] s (exec (.vexp core) s)) ∧
  (∀ (s : State) (core : Nat), Ends [.regs, .sw, .tally, .clusters, .free] s (exec (.vrcp core) s)) ∧
  (∀ (s : State) (core : Nat), Ends [.regs, .sw, .tally, .clusters, .free] s (exec (.vcvt core) s)) ∧
  (∀ (s : State) (core : Nat), Ends [.regs, .sw, .tally, .clusters, .free] s (exec (.vred core) s)) ∧
  (∀ (s : State) (core : Nat), Ends [.regs, .sw, .tally, .clusters, .free] s (exec (.vmask core) s)) ∧
  (∀ (s : State) (core : Nat), Ends [.regs, .sw, .tally, .clusters, .free] s (exec (.histout core) s)) ∧
  (∀ (s : State) (core : Nat), Ends [.regs, .sw, .tally, .clusters, .free] s (exec (.xpose core) s)) ∧
  (∀ (s : State) (core : Nat), Ends [.regs, .power, .watch, .sw, .lanes, .tally, .mem, .stays, .clusters, .health, .host, .out, .free] s (exec (.handoff core) s)) ∧
  (∀ (s : State) (core : Nat), Ends [.regs, .power, .watch, .sw, .lanes, .tally, .mem, .stays, .clusters, .health, .host, .out, .free] s (exec (.outbox core) s)) ∧
  (∀ (s : State) (core : Nat), Ends [.regs, .power, .watch, .sw, .lanes, .tally, .mem, .stays, .clusters, .health, .host, .out, .free] s (exec (.operandInstruction core) s)) ∧
  (∀ (s : State) (core : Nat), Ends [.regs, .sw, .tally, .clusters, .free] s (exec (.recv core) s)) ∧
  (∀ (s : State) (core code : Nat), Ends [.regs, .power, .watch, .sw, .lanes, .tally, .mem, .stays, .clusters, .health, .host, .out] s (exec (.programFault core code) s)) ∧
  (∀ (s : State), Ends [.regs, .clusters, .host] s (exec (.verify) s)) ∧
  (∀ (s : State), Ends [.regs, .clusters, .host] s (exec (.verifyDone) s)) ∧
  (∀ (s : State) (tick : Nat), Ends [.regs, .sw, .clusters] s (exec (.activationArm tick) s)) ∧
  (∀ (s : State), Ends [.regs, .clusters] s (exec (.activationCancel) s)) ∧
  (∀ (s : State), Ends [.regs, .sw, .mem, .stays, .clusters, .health, .host, .free] s (exec (.imageActivation) s))

/-- Which parts of the state the commands of the stacks of the pool, the ports, the watch, health, stopover, the host attach, boot and identity may
change: every other part, the queue included, is left alone, and the canonical form is kept. -/
def Obligations.PoolPortAndHostParts : Prop :=
  (∀ (s : State) (pair : Nat) (errs : List (Nat × Nat)), Ends [.regs, .power, .watch, .sw, .lanes, .tally, .mem, .health, .host, .out] s (exec (.pairRead pair errs) s)) ∧
  (∀ (s : State) (pair : Nat) (data : List Byte), Ends [.mem] s (exec (.pairWrite pair data) s)) ∧
  (∀ (s : State) (pair : Nat) (errs : List (Nat × Nat)), Ends [.regs, .power, .watch, .sw, .lanes, .tally, .mem, .health, .host, .out] s (exec (.mergeHoldExpiry pair errs) s)) ∧
  (∀ (s : State) (stack : Nat), Ends [.regs, .power, .watch, .sw, .lanes, .tally, .mem, .health, .host, .out] s (exec (.interfaceCrcFail stack) s)) ∧
  (∀ (s : State) (stack temp : Nat), Ends [.regs, .power, .watch, .sw, .lanes, .tally, .health, .host, .out] s (exec (.thermalReport stack temp) s)) ∧
  (∀ (s : State) (value : Nat), Ends [.regs] s (exec (.thermThresholdWrite value) s)) ∧
  (∀ (s : State) (value : Nat), Ends [.regs, .mem] s (exec (.scrubGo value) s)) ∧
  (∀ (s : State), Ends [.regs] s (exec (.scrubStop) s)) ∧
  (∀ (s : State) (corrected : List (Nat × Nat)) (uncorrectable rows : List Nat), Ends [.regs, .power, .watch, .sw, .lanes, .tally, .mem, .health, .host, .out, .free] s (exec (.scrubDone corrected uncorrectable rows) s)) ∧
  (∀ (s : State) (value : Nat), Ends [.regs, .mem] s (exec (.repairRow value) s)) ∧
  (∀ (s : State) (value : Nat), Ends [.regs, .mem] s (exec (.retireRoom value) s)) ∧
  (∀ (s : State) (value : Nat), Ends [.regs, .mem] s (exec (.retireBank value) s)) ∧
  (∀ (s : State) (value : Nat), Ends [.regs, .mem] s (exec (.releaseRoom value) s)) ∧
  (∀ (s : State) (corrected : List (Nat × Nat)) (uncorrectable : List Nat), Ends [.regs, .power, .watch, .sw, .lanes, .tally, .mem, .stays, .health, .host, .out] s (exec (.repairDone corrected uncorrectable) s)) ∧
  (∀ (s : State) (stack : Nat), Ends [.regs, .power, .watch, .sw, .lanes, .tally, .health, .host, .out] s (exec (.stackDown stack) s)) ∧
  (∀ (s : State) (port : Nat) (found : StageFinding), Ends [.regs, .power, .bell, .watch, .sw, .lanes, .tally, .health, .host, .out, .free] s (exec (.portStageDone port found) s)) ∧
  (∀ (s : State) (port : Nat) (found : StageFinding), Ends [.regs, .power, .bell, .watch, .sw, .lanes, .tally, .health, .host, .out, .free] s (exec (.portStageTimeout port found) s)) ∧
  (∀ (s : State) (port : Nat) (partnerFound : Bool), Ends [.regs, .lanes] s (exec (.detectRetry port partnerFound) s)) ∧
  (∀ (s : State) (port : Nat) (credits : List Nat) (detour ackSeq : Nat), Ends [.sw, .lanes] s (exec (.status port credits detour ackSeq) s)) ∧
  (∀ (s : State) (port : Nat) (numbered : Bool), Ends [.regs, .power, .bell, .watch, .sw, .lanes, .tally, .health, .host, .out] s (exec (.codewordUncorrectable port numbered) s)) ∧
  (∀ (s : State) (port resumeSeq resumeSlot : Nat), Ends [.regs, .power, .bell, .watch, .sw, .lanes, .tally, .health, .host, .out] s (exec (.replayReq port resumeSeq resumeSlot) s)) ∧
  (∀ (s : State) (port seq : Nat), Ends [.lanes] s (exec (.replayStart port seq) s)) ∧
  (∀ (s : State) (port : Nat), Ends [.regs, .power, .bell, .watch, .sw, .lanes, .tally, .health, .host, .out] s (exec (.replayReqRepeat port) s)) ∧
  (∀ (s : State) (port : Nat), Ends [.regs, .lanes, .out] s (exec (.ackWaitExpiry port) s)) ∧
  (∀ (s : State) (port : Nat) (corrected : List Nat), Ends [.regs, .power, .bell, .watch, .sw, .lanes, .tally, .health, .host, .out, .free] s (exec (.serWindowEnd port corrected) s)) ∧
  (∀ (s : State) (port lane : Nat), Ends [.regs, .power, .bell, .watch, .sw, .lanes, .tally, .health, .host, .out] s (exec (.laneSignalLoss port lane) s)) ∧
  (∀ (s : State) (port mask : Nat), Ends [.lanes] s (exec (.laneForm port mask) s)) ∧
  (∀ (s : State) (port mask : Nat), Ends [.regs, .power, .bell, .watch, .sw, .lanes, .tally, .health, .host, .out] s (exec (.laneNarrow port mask) s)) ∧
  (∀ (s : State) (port : Nat), Ends [.regs, .power, .bell, .watch, .sw, .lanes, .tally, .health, .host, .out] s (exec (.narrowDone port) s)) ∧
  (∀ (s : State) (tile : Nat), Ends [.regs, .power, .bell, .watch, .sw, .lanes, .tally, .health, .host, .out] s (exec (.tileFail tile) s)) ∧
  (∀ (s : State) (port state tick : Nat), Ends [.regs, .lanes] s (exec (.lanePower port state tick) s)) ∧
  (∀ (s : State) (port : Nat), Ends [.lanes] s (exec (.laneWake port) s)) ∧
  (∀ (s : State) (port : Nat), Ends [.regs, .power, .bell, .sw, .lanes, .out] s (exec (.laneDown port) s)) ∧
  (∀ (s : State) (port : Nat), Ends [.regs] s (exec (.quietRequest port) s)) ∧
  (∀ (s : State) (port : Nat), Ends [.regs] s (exec (.sleepRequest port) s)) ∧
  (∀ (s : State) (port : Nat), Ends [.regs, .lanes] s (exec (.activeRequest port) s)) ∧
  (∀ (s : State) (port : Nat), Ends [.regs, .lanes, .out] s (exec (.powerStateEntry port) s)) ∧
  (∀ (s : State) (port : Nat), Ends [.lanes, .out] s (exec (.wakeTrigger port) s)) ∧
  (∀ (s : State) (port tick : Nat), Ends [.regs] s (exec (.wakeTickWrite port tick) s)) ∧
  (∀ (s : State) (port : Nat), Ends [.regs, .lanes] s (exec (.wakeTickReached port) s)) ∧
  (∀ (s : State) (port : Nat) (receive : Bool), Ends [.regs, .power, .bell, .watch, .sw, .lanes, .tally, .health, .host, .out] s (exec (.wakeDone port receive) s)) ∧
  (∀ (s : State) (port : Nat), Ends [.regs, .power, .bell, .sw, .lanes, .out] s (exec (.shutDown port) s)) ∧
  (∀ (s : State) (port : Nat), Ends [.regs, .power, .bell, .lanes, .out] s (exec (.shutdownDone port) s)) ∧
  (∀ (s : State) (port : Nat), Ends [.regs, .power, .bell, .lanes, .out] s (exec (.enable port) s)) ∧
  (∀ (s : State) (port : Nat), Ends [.regs, .power, .bell, .sw, .lanes, .out] s (exec (.retrain port) s)) ∧
  (∀ (s : State) (source kind address : Nat), Ends [.regs, .power, .watch, .sw, .lanes, .tally, .health, .host, .out] s (exec (.faultMessage source kind address) s)) ∧
  (∀ (s : State), Ends [.regs, .watch, .host, .out] s (exec (.ringEntry) s)) ∧
  (∀ (s : State) (value : Nat), Ends [.regs, .power, .watch, .sw, .lanes, .tally, .health, .host, .out] s (exec (.inject value) s)) ∧
  (∀ (s : State) (value : Nat), Ends [.regs, .clusters] s (exec (.proofGo value) s)) ∧
  (∀ (s : State) (core : Nat), Ends [.regs, .clusters] s (exec (.proofAutoStart core) s)) ∧
  (∀ (s : State) (core : Nat) (failing : Option Nat), Ends [.regs, .power, .watch, .sw, .lanes, .tally, .clusters, .health, .host, .out] s (exec (.proofSuiteDone core failing) s)) ∧
  (∀ (s : State) (ages : List Nat) (eyeLoss : Nat) (wear : List (Nat × Nat)), Ends [.regs, .power, .watch, .sw, .lanes, .tally, .health, .host, .out] s (exec (.healthEval ages eyeLoss wear) s)) ∧
  (∀ (s : State), Ends [.regs, .host] s (exec (.riskHistoryAppend) s)) ∧
  (∀ (s : State), Ends [.regs, .power, .watch, .sw, .lanes, .tally, .health, .host, .out] s (exec (.stopoverGo) s)) ∧
  (∀ (s : State) (tick : Nat), Ends [.regs, .health] s (exec (.stopTickArm tick) s)) ∧
  (∀ (s : State), Ends [.regs, .health] s (exec (.stopoverCancel) s)) ∧
  (∀ (s : State), Ends [.regs, .power, .watch, .sw, .lanes, .tally, .health, .host, .out] s (exec (.stopTickReached) s)) ∧
  (∀ (s : State) (busy : List (Nat × Nat)), Ends [.regs, .health] s (exec (.quiesceDone busy) s)) ∧
  (∀ (s : State), Ends [.regs, .power, .watch, .sw, .lanes, .tally, .mem, .stays, .clusters, .health, .host, .out] s (exec (.captureDone) s)) ∧
  (∀ (s : State), Ends [.regs, .power, .watch, .sw, .lanes, .tally, .stays, .clusters, .health, .host, .out] s (exec (.stopoverTimeout) s)) ∧
  (∀ (s : State) (f : Frame), Ends [.regs, .sw, .mem, .health] s (exec (.snapPut f) s)) ∧
  (∀ (s : State) (f : Frame), Ends [.regs, .sw, .health] s (exec (.snapDone f) s)) ∧
  (∀ (s : State) (f : Frame), Ends [.regs, .sw, .health] s (exec (.snapConfirm f) s)) ∧
  (∀ (s : State) (f : Frame), Ends [.regs, .sw, .mem] s (exec (.snapGet f) s)) ∧
  (∀ (s : State) (f : Frame), Ends [.regs, .power, .watch, .sw, .lanes, .tally, .mem, .stays, .health, .host, .out] s (exec (.snapData f) s)) ∧
  (∀ (s : State) (f : Frame), Ends [.regs, .power, .watch, .sw, .lanes, .tally, .stays, .clusters, .health, .host, .out] s (exec (.snapAck f) s)) ∧
  (∀ (s : State) (value : Nat), Ends [.regs, .power, .watch, .sw, .lanes, .tally, .health, .host, .out] s (exec (.restoreGo value) s)) ∧
  (∀ (s : State), Ends [.regs, .power, .watch, .sw, .lanes, .tally, .health, .host, .out] s (exec (.restoreDone) s)) ∧
  (∀ (s : State) (rate width : Nat), Ends [.regs, .stays, .host, .out] s (exec (.cxlLinkUp rate width) s)) ∧
  (∀ (s : State), Ends [.regs] s (exec (.cxlLinkDown) s)) ∧
  (∀ (s : State) (offset : Nat), Ends [.regs, .mem, .out, .free] s (exec (.memrd offset) s)) ∧
  (∀ (s : State) (offset : Nat) (data : List Byte) (poison : Bool), Ends [.regs, .mem] s (exec (.memwr offset data poison) s)) ∧
  (∀ (s : State) (offset : Nat) (data : List Byte), Ends [.regs, .mem] s (exec (.memwrptl offset data) s)) ∧
  (∀ (s : State) (window value : Nat), Ends [.regs] s (exec (.windowWrite window value) s)) ∧
  (∀ (s : State) (q value : Nat), Ends [.regs, .stays, .host, .out] s (exec (.queueConfigWrite q value) s)) ∧
  (∀ (s : State) (q : Nat), Ends [.host, .out] s (exec (.msixHoldoffExpiry q) s)) ∧
  (∀ (s : State), Ends [.regs, .host, .out] s (exec (.functionLevelReset) s)) ∧
  (∀ (s : State) (payload : List Byte), Ends [.out] s (exec (.getEventRecords payload) s)) ∧
  (∀ (s : State) (payload : List Byte), Ends [.out] s (exec (.clearEventRecords payload) s)) ∧
  (∀ (s : State) (payload : List Byte), Ends [.out] s (exec (.getSupportedLogs payload) s)) ∧
  (∀ (s : State) (payload : List Byte), Ends [.out] s (exec (.getLog payload) s)) ∧
  (∀ (s : State) (payload : List Byte), Ends [.out] s (exec (.identifyMemoryDevice payload) s)) ∧
  (∀ (s : State) (payload : List Byte), Ends [.out] s (exec (.getPoisonList payload) s)) ∧
  (∀ (s : State) (opcode : Nat), Ends [.out] s (exec (.mailboxUnsupported opcode) s)) ∧
  (∀ (s : State) (payload : List Byte), Ends [.power, .health, .host, .out] s (exec (.reset payload) s)) ∧
  (∀ (s : State) (payload : List Byte), Ends [.host, .out] s (exec (.stageItinerary payload) s)) ∧
  (∀ (s : State) (payload : List Byte), Ends [.host, .out] s (exec (.stageComponent payload) s)) ∧
  (∀ (s : State) (payload : List Byte), Ends [.regs, .mem, .host, .out] s (exec (.updateComponent payload) s)) ∧
  (∀ (s : State) (payload : List Byte), Ends [.host, .out] s (exec (.commit payload) s)) ∧
  (∀ (s : State) (payload : List Byte), Ends [.out] s (exec (.getLogEntries payload) s)) ∧
  (∀ (s : State) (payload : List Byte), Ends [.regs, .power, .watch, .sw, .lanes, .tally, .health, .host, .out] s (exec (.stopover payload) s)) ∧
  (∀ (s : State) (payload : List Byte), Ends [.regs, .sw, .mem, .host, .out] s (exec (.readSnapshot payload) s)) ∧
  (∀ (s : State) (payload : List Byte), Ends [.host, .out, .free] s (exec (.getNonce payload) s)) ∧
  (∀ (s : State) (payload : List Byte), Ends [.host, .out] s (exec (.ownerSet payload) s)) ∧
  (∀ (s : State) (payload : List Byte), Ends [.host, .out] s (exec (.serviceClearLedger payload) s)) ∧
  (∀ (s : State) (payload : List Byte), Ends [.host, .out] s (exec (.serviceClearOwner payload) s)) ∧
  (∀ (s : State), Ends [.regs, .mem, .host, .out] s (exec (.backgroundCommandDone) s)) ∧
  (∀ (s : State), Ends [.regs, .power, .bell, .watch, .sw, .lanes, .tally, .mem, .stays, .clusters, .health, .host, .out] s (exec (.flashWriteDone) s)) ∧
  (∀ (s : State), Ends [.regs, .power, .watch, .sw, .lanes, .tally, .mem, .health, .host, .out] s (exec (.bootStageDone) s)) ∧
  (∀ (s : State), Ends [.host, .out] s (exec (.getVersion) s)) ∧
  (∀ (s : State), Ends [.out] s (exec (.getCapabilities) s)) ∧
  (∀ (s : State) (mldsa shake256 : Bool), Ends [.host, .out] s (exec (.negotiateAlgorithms mldsa shake256) s)) ∧
  (∀ (s : State), Ends [.out] s (exec (.getDigests) s)) ∧
  (∀ (s : State) (slot offset length : Nat), Ends [.out] s (exec (.getCertificate slot offset length) s)) ∧
  (∀ (s : State) (slot : Nat) (nonce : List Byte), Ends [.out] s (exec (.challenge slot nonce) s)) ∧
  (∀ (s : State) (block : Nat) (nonce : List Byte), Ends [.out] s (exec (.getMeasurements block nonce) s)) ∧
  (∀ (s : State) (code : Nat), Ends [.out] s (exec (.spdmUnsupportedRequest code) s)) ∧
  (∀ (s : State) (index : Nat), Ends [.out] s (exec (.doeDiscovery index) s)) ∧
  (∀ (s : State), Ends [.out] s (exec (.cdatTableAccess) s)) ∧
  (∀ (s : State) (f : Frame), Ends [.regs, .power, .watch, .sw, .lanes, .tally, .stays, .clusters, .health, .host, .out] s (exec (.error f) s))

/-- Commands of power, bell time, stopover, health and itineraries change only the registers named, on every path. -/
def Obligations.ControlKeepsRegisters : Prop :=
  (∀ (s : State), OnlyRegs ([DV_STATE, PH_CAP] ++ (List.range 14).map PH_BLOCK) s (exec (.inputSwitchClose) s)) ∧
  (∀ (s : State) (vin : Nat), OnlyRegs ([PH_INPUT, PH_INPUT_EVENT, PH_CAP] ++ (List.range 14).map PH_BLOCK) s (exec (.inputLow vin) s)) ∧
  (∀ (s : State) (vin : Nat), OnlyRegs ([PH_INPUT, PH_CAP] ++ (List.range 14).map PH_BLOCK) s (exec (.inputRecovered vin) s)) ∧
  (∀ (s : State) (vin : Nat), OnlyRegs [PH_INPUT, PH_INPUT_EVENT] s (exec (.surge vin) s)) ∧
  (∀ (s : State) (vin : Nat), OnlyRegs [PH_INPUT, PH_INPUT_EVENT] s (exec (.reverse vin) s)) ∧
  (∀ (s : State), OnlyRegs [DV_STATE] s (exec (.railsStable) s)) ∧
  (∀ (s : State) (tile : Nat), OnlyRegs [DV_STATE] s (exec (.tileCalibrationDone tile) s)) ∧
  (∀ (s : State), OnlyRegs [SW_POOL_STATUS, TL_STATUS] s (exec (.vacancyThreadDone) s)) ∧
  (∀ (s : State) (i : Nat), Calm s → OnlyRegs [BT_MUSTER_OUT, BT_STATUS] s (exec (.remusterDone i) s)) ∧
  (∀ (s : State) (i : Nat), OnlyBlocks [(0x00200000, 0x00400000)] ([BT_MUSTER_OUT, BT_STATUS, BT_CHOICE, BT_CHOICE_FIRST] ++ (List.range 8).map BT_CHOICE_KIND) s
    (exec (.remusterDone i) s)) ∧
  (∀ (s : State) (c x y z : Nat), OnlyRegs [DV_COORD, BT_STATUS] s (exec (.setCoord c x y z) s)) ∧
  (∀ (s : State) (c p src : Nat), OnlyRegs [BT_ROOT, BT_STATUS] s (exec (.setRoot c p src) s)) ∧
  (∀ (s : State), s.bell.parent = none ∨ s.isRoot = true ∨ s.bellSet = false → OnlyRegs [BT_TIMED_ERR] s (exec (.forceStep) s)) ∧
  (∀ (s : State), s.clusters.active = none → s.clusters.armed = none → s.tally.ctxs = [] →
    OnlyRegs ([BT_TIMED_ERR, BT_CHOICE, BT_CHOICE_FIRST] ++ (List.range 8).map BT_CHOICE_KIND ++ (List.range 256).flatMap (fun p => [SW_CURFEW_CTL p, SW_CURFEW_RUN p]))
      s (exec (.forceStep) s)) ∧
  (∀ (s : State) (tick : Nat), OnlyRegs [BT_RUN_START, BT_TIMED_ERR] s (exec (.choiceWindowWrite false tick) s)) ∧
  (∀ (s : State) (tick : Nat), OnlyRegs [BT_RUN_END, BT_TIMED_ERR] s (exec (.choiceWindowWrite true tick) s)) ∧
  (∀ (s : State), OnlyRegs ([BT_CHOICE, BT_CHOICE_FIRST] ++ (List.range 8).map BT_CHOICE_KIND) s (exec (.choiceWindowOpen) s)) ∧
  (∀ (s : State) (value : Nat), OnlyRegs ([PH_CAP] ++ (List.range 14).map PH_BLOCK) s (exec (.capModeWrite value) s)) ∧
  (∀ (s : State) (value : Nat), OnlyRegs [PH_CLOCK] s (exec (.clockWrite value) s)) ∧
  (∀ (s : State), OnlyRegs ([PH_CLOCK, BT_CHOICE, BT_CHOICE_FIRST] ++ (List.range 8).map BT_CHOICE_KIND) s (exec (.clockChange) s)) ∧
  (∀ (s : State) (busy : List (Nat × Nat)), OnlyRegs [PH_STOP_STATUS] s (exec (.quiesceDone busy) s)) ∧
  (∀ (s : State) (tick : Nat), OnlyRegs [PH_ERR, PH_STOP_STATUS, PH_STOP_TICK] s (exec (.stopTickArm tick) s)) ∧
  (∀ (s : State), OnlyRegs [PH_ERR, PH_STOP_STATUS] s (exec (.stopoverCancel) s)) ∧
  (∀ (s : State) (value : Nat), OnlyRegs [PH_ERR, PH_PROOF_CTRL, PH_PROOF_STATUS] s (exec (.proofGo value) s)) ∧
  (∀ (s : State) (core : Nat), OnlyRegs [PH_PROOF_STATUS] s (exec (.proofAutoStart core) s)) ∧
  (∀ (s : State), OnlyRegs [PH_HEALTH] s (exec (.riskHistoryAppend) s)) ∧
  (∀ (s : State), OnlyRegs [DV_ITIN_ERR, DV_ITIN_STATUS] s (exec (.verify) s)) ∧
  (∀ (s : State), OnlyRegs [DV_ITIN_ERR, DV_ITIN_STATUS, DV_ITIN_STAGED_ID] s (exec (.verifyDone) s))

/-- Writes of table entries, windows, curfews, maintenance, ports and the host attach change only the registers named, on every path. -/
def Obligations.WritesKeepRegisters : Prop :=
  (∀ (s : State) (n value : Nat), OnlyRegs [SW_RANK n, SW_TABLE_ERR] s (exec (.rankEntryWrite n value) s)) ∧
  (∀ (s : State) (p value : Nat), OnlyRegs [SW_PARTY p] s (exec (.partyEntryWrite p value) s)) ∧
  (∀ (s : State) (n value : Nat), OnlyRegs [SW_STREAM n, SW_TABLE_ERR] s (exec (.streamEntryWrite n value) s)) ∧
  (∀ (s : State) (value : Nat), OnlyRegs [SW_SACRIFICE, SW_POOL_ERR] s (exec (.sacrificeThresholdWrite value) s)) ∧
  (∀ (s : State), OnlyRegs [SW_POOL_STATUS] s (exec (.sacrificeStageUpdate) s)) ∧
  (∀ (s : State) (p value : Nat), OnlyRegs [TL_POOL p, TL_ERR, TL_STATUS] s (exec (.tallyPoolMinWrite p value) s)) ∧
  (∀ (s : State) (value : Nat), OnlyRegs [SW_TBL_CTRL, SW_TBL_STATUS] s (exec (.swTableRead value) s)) ∧
  (∀ (s : State) (value : Nat), OnlyRegs [SW_TBL_CTRL, SW_TBL_STATUS] s (exec (.swTableWrite value) s)) ∧
  (∀ (s : State) (value : Nat), OnlyRegs [TL_TBL_CTRL, TL_TBL_STATUS] s (exec (.tlTableRead value) s)) ∧
  (∀ (s : State) (value : Nat), OnlyRegs [ST_TBL_CTRL, ST_TBL_STATUS] s (exec (.stTableRead value) s)) ∧
  (∀ (s : State) (port tick : Nat), OnlyRegs [SW_CURFEW_CTL port, SW_CURFEW_TICK port, SW_CURFEW_ERR] s (exec (.curfewSwitchArm port tick) s)) ∧
  (∀ (s : State) (port : Nat), OnlyRegs [SW_CURFEW_CTL port, SW_CURFEW_ERR] s (exec (.curfewCancel port) s)) ∧
  (∀ (s : State) (port : Nat), OnlyRegs ([SW_CURFEW_CTL port, SW_CURFEW_RUN port, BT_CHOICE, BT_CHOICE_FIRST] ++ (List.range 8).map BT_CHOICE_KIND) s (exec (.curfewSwitchover port) s)) ∧
  (∀ (s : State) (port : Nat), OnlyRegs [SW_CURFEW_RUN port] s (exec (.curfewEntryAdvance port) s)) ∧
  (∀ (s : State) (value : Nat), OnlyRegs [ST_EVICT, ST_ERR] s (exec (.evictThresholdWrite value) s)) ∧
  (∀ (s : State) (value : Nat), OnlyRegs [ST_INBOUND, ST_STATUS, ST_ERR] s (exec (.areaWrite true value) s)) ∧
  (∀ (s : State) (value : Nat), OnlyRegs [ST_STABLE, ST_STATUS, ST_ERR] s (exec (.areaWrite false value) s)) ∧
  (∀ (s : State), OnlyRegs [ST_TAKEOVER_STATUS] s (exec (.takeoverDone) s)) ∧
  (∀ (s : State) (k n value : Nat), OnlyRegs [CL_BIND_W0 k n, CL_BIND_W1 k n, CL_ERR k] s (exec (.bindWrite k n value) s)) ∧
  (∀ (s : State) (k value : Nat), OnlyRegs [CL_CTRL k, CL_STATUS k] s (exec (.coreEnableWrite k value) s)) ∧
  (∀ (s : State) (k value : Nat), OnlyRegs [CL_QUAR k] s (exec (.quarantineClear k value) s)) ∧
  (∀ (s : State) (value : Nat), OnlyRegs [MEM_THERM, MEM_ERR] s (exec (.thermThresholdWrite value) s)) ∧
  (∀ (s : State) (value : Nat), OnlyRegs ([MEM_SCRUB_CTRL, MEM_SCRUB_STATUS, MEM_ERR] ++ (List.range 6).map MEM_SCRUB_SUM) s (exec (.scrubGo value) s)) ∧
  (∀ (s : State), OnlyRegs [MEM_SCRUB_STATUS] s (exec (.scrubStop) s)) ∧
  (∀ (s : State) (value : Nat), OnlyRegs [MEM_REPAIR_CTRL, MEM_REPAIR_STATUS, MEM_ERR] s (exec (.repairRow value) s)) ∧
  (∀ (s : State) (value : Nat), OnlyRegs [MEM_REPAIR_CTRL, MEM_REPAIR_STATUS, MEM_ERR] s (exec (.retireRoom value) s)) ∧
  (∀ (s : State) (value : Nat), OnlyRegs [MEM_REPAIR_CTRL, MEM_REPAIR_STATUS, MEM_ERR] s (exec (.retireBank value) s)) ∧
  (∀ (s : State) (value : Nat), OnlyRegs [MEM_REPAIR_CTRL, MEM_REPAIR_STATUS, MEM_ERR] s (exec (.releaseRoom value) s)) ∧
  (∀ (s : State) (pair : Nat), OnlyRegs [MEM_STACK_CNT (pairStack pair) 3, MEM_STACK_CNT (pairStack pair) 8] s (exec (.mergeHoldExpiry pair []) s)) ∧
  (∀ (s : State) (port : Nat), OnlyRegs [LN_PORT_W1 port, LN_ERR] s (exec (.quietRequest port) s)) ∧
  (∀ (s : State) (port : Nat), OnlyRegs [LN_PORT_W1 port, LN_ERR] s (exec (.sleepRequest port) s)) ∧
  (∀ (s : State) (port : Nat), OnlyRegs [LN_PORT_W1 port] s (exec (.activeRequest port) s)) ∧
  (∀ (s : State) (port tick : Nat), OnlyRegs [LN_PORT_W3 port, LN_ERR] s (exec (.wakeTickWrite port tick) s)) ∧
  (∀ (s : State) (port : Nat), OnlyRegs [LN_PORT_W2 port] s (exec (.powerStateEntry port) s)) ∧
  (∀ (s : State) (port st tick : Nat), OnlyRegs [LN_PORT_W2 port] s (exec (.lanePower port st tick) s)) ∧
  (∀ (s : State) (port : Nat), (s.port port).narrowDue = none → OnlyRegs ([LN_PORT_W2 port, BT_CHOICE, BT_CHOICE_FIRST] ++ (List.range 8).map BT_CHOICE_KIND) s (exec (.wakeDone port true) s)) ∧
  (∀ (s : State) (port : Nat), (s.port port).narrowDue = none → OnlyRegs [LN_PORT_W2 port, LN_PORT_W7 port] s (exec (.wakeDone port false) s)) ∧
  (∀ (s : State) (port : Nat), OnlyRegs ([LN_PORT_W4 port, BT_CHOICE, BT_CHOICE_FIRST] ++ (List.range 8).map BT_CHOICE_KIND) s (exec (.ackWaitExpiry port) s)) ∧
  (∀ (s : State) (i value : Nat), OnlyRegs [MB_WINDOW i, MB_ERR] s (exec (.windowWrite i value) s)) ∧
  (∀ (s : State) (q value : Nat), OnlyRegs [MB_QCFG q, MB_QHEAD q, MB_QTAIL q, MB_QTAIL 1, MB_ERR] s (exec (.queueConfigWrite q value) s)) ∧
  (∀ (s : State), OnlyRegs ((List.range 2).map MB_QCFG ++ (List.range 16).map MB_WINDOW) s (exec (.functionLevelReset) s)) ∧
  (∀ (s : State) (rate width : Nat), OnlyRegs [MB_LINK_STATUS, MB_QTAIL 1] s (exec (.cxlLinkUp rate width) s)) ∧
  (∀ (s : State), OnlyRegs [MB_LINK_STATUS] s (exec (.cxlLinkDown) s)) ∧
  (∀ (s : State) (w : Nat), OnlyRegs ([MB_UNMAPPED, MB_POISON_RD] ++ (List.range 8).flatMap (fun st => [MEM_STACK_CNT st 3, MEM_STACK_CNT st 8])) s (exec (.memrd w) s))

/-- R267, R275: an instruction of the vector pipes, the multiply engine, the transposer, the local stream and the receiving stream changes no register
outside its own cluster's block, on every path. -/
def Obligations.UnitsKeepOtherBlocks : Prop :=
  ∀ (s t : State) (core a : Nat) (c : Instr), core < 24 →
    c ∈ [.vadd core, .vmul core, .vfma core, .vmax core, .vmin core, .vsel core, .vexp core, .vrcp core, .vcvt core, .vred core, .vmask core, .mma core,
      .histout core, .xpose core, .lcopy core, .recv core] →
    exec c s = .next t → a / 0x80000 ≠ 16 + core / 4 → t.reg a = s.reg a

/-- R204, R217, R225, R226, R230, R335, R343, R413, R415, R430, R437, R475: a command that stores to the pool leaves every byte alone outside those it
stores to, at the address its form gives, and one that reads the pool leaves every byte alone. -/
def Obligations.StoresKeepOtherBytes : Prop :=
  (∀ (s : State) (pair : Nat) (data : List Byte), Completes (.pairWrite pair data) s (fun t => ∀ b, b / 64 ≠ pair → t.peek b 1 = s.peek b 1)) ∧
  (∀ (s : State) (w : Nat) (data : List Byte) (poison : Bool), Completes (.memwr w data poison) s (fun t =>
    ∀ b, (∀ a, s.target (w / 64 * 64) = some a → b / 64 ≠ a / 64) → t.peek b 1 = s.peek b 1)) ∧
  (∀ (s : State) (w : Nat) (data : List Byte), PoolClean s → Completes (.memwrptl w data) s (fun t =>
    ∀ b, (∀ a, s.target w = some a → b < a ∨ a + min data.length (64 - w % 64) ≤ b) → t.peek b 1 = s.peek b 1)) ∧
  (∀ (s : State) (w : Nat), PoolClean s → Completes (.memrd w) s (fun t => ∀ b, t.peek b 1 = s.peek b 1)) ∧
  (∀ (s : State) (f : Frame), PoolClean s → s.rackCheck f.srcPort f = some 0 → Calm s → Completes (.writePosted f) s (fun t =>
    ∀ b, b < f.address ∨ f.address + f.payload.length ≤ b → t.peek b 1 = s.peek b 1)) ∧
  (∀ (s : State) (f : Frame), PoolClean s → s.rackCheck f.srcPort f = some 0 → Calm s → Completes (.write f) s (fun t =>
    ∀ b, b < f.address ∨ f.address + f.payload.length ≤ b → t.peek b 1 = s.peek b 1)) ∧
  (∀ (s : State) (f : Frame), PoolClean s → s.rackCheck f.srcPort f = some 0 → Calm s → Completes (.read f) s (fun t =>
    ∀ b, t.peek b 1 = s.peek b 1)) ∧
  (∀ (s : State) (f : Frame), PoolClean s → Calm s → Completes (.snapPut f) s (fun t =>
    ∀ b, b < segmentAt (2 + s.guestBank) (frameSeg f) ∨ segmentAt (2 + s.guestBank) (frameSeg f) + 4096 ≤ b → t.peek b 1 = s.peek b 1)) ∧
  (∀ (s : State) (pair : Nat) (e : MergeEntry), s.mem.merge = [e] → e.pair = pair → s.poisoned pair = false → s.stackLost (pairStack pair) = false →
    Completes (.mergeHoldExpiry pair []) s (fun t => ∀ b, t.peek b 1 = s.peek b 1)) ∧
  (∀ (s : State), PoolClean s → Completes .captureDone s (fun t =>
    ∀ b, b < segmentAt s.writeBank 0 ∨ segmentAt s.writeBank 0 + s.snapshot.length ≤ b → t.peek b 1 = s.peek b 1)) ∧
  (∀ (s : State) (g : Background), s.host.background = some g → PoolClean s → Completes .backgroundCommandDone s (fun t =>
    ∀ b, (g.opcode = 0xC010 → b < itinStaging ∨ itinStaging + leAt g.arg 8 4 ≤ b) → (g.opcode = 0xC011 → b < componentStaging ∨ componentStaging + leAt g.arg 8 4 ≤ b) →
      t.peek b 1 = s.peek b 1)) ∧
  (∀ (s : State) (f : Frame) (i room : Nat), InTurn s f i → PoolClean s → f.kind = 0x21 → (s.stay i).state = 1 →
    (s.card i).appendOk f.payload (s.stay i).tokens false = true → (appendDocket f.payload).count = 1 → (appendDocket f.payload).heads = 1 →
    (appendDocket f.payload).fmt = 1 → (s.card i).kv = 0 → (s.card i).d ≤ 256 → s.attendsOf i = [] → (s.stay i).twinValid = false → room ≠ 0 →
    s.ledgerOf room = (1, false) → (s.pageRoom i ((appendDocket f.payload).start / (s.card i).tpr * (s.card i).lk +
      (appendDocket f.payload).layer * (s.card i).kvHeads + (appendDocket f.payload).first)).1 = some room → Completes (.append f) s (fun t =>
    ∀ b, (∀ half < 2, ∃ at_ ∈ [room * 65536 + half * (s.card i).tpr * (s.card i).elem + (appendDocket f.payload).start % (s.card i).tpr * (s.card i).elem],
      b < at_ ∨ at_ + (s.card i).elem ≤ b) → t.peek b 1 = s.peek b 1)) ∧
  (∀ (s : State) (f : Frame) (i : Nat) (a : Arriving), s.phase ≠ 6 → s.trusted f = true → f.address % 2 ^ 18 = i → PoolClean s → f.poison = [] →
    s.takesPages (s.card i) i f.srcCoord (bitsOf f.address 41 18) = true → f.payload.length = 4096 → bitsOf f.address 45 42 < 15 →
    s.stays.arriving.find? (fun a => a.index == i && a.page == bitsOf f.address 41 18) = some a → Completes (.lodge f) s (fun t =>
    ∀ b, b < a.room * 65536 + 4096 * bitsOf f.address 45 42 ∨ a.room * 65536 + 4096 * bitsOf f.address 45 42 + 4096 ≤ b → t.peek b 1 = s.peek b 1)) ∧
  (∀ (s : State) (f : Frame) (i : Nat), InnPeer s f → PoolClean s → f.payload.length = 36 → cardValid (f.payload.take 32) none = true → s.freeIndex = some i →
    Completes (.mirrorOpen f) s (fun t => ∀ b, b < cardAt i ∨ cardAt i + 32 ≤ b → t.peek b 1 = s.peek b 1)) ∧
  (∀ (s : State) (f : Frame) (i : Nat), InnPeer s f → PoolClean s → f.address % 2 ^ 18 = i → bitsOf f.address 20 18 = 1 → (s.stay i).state = 7 →
    (s.stay i).twinCoord = f.srcCoord → (s.stay i).party = f.party → s.blocked i = false → (s.card i).appendOk f.payload (s.stay i).tokens true = true →
    (appendDocket f.payload).count = 0 → (s.stay i).tokens ≤ (appendDocket f.payload).start → Completes (.mirrorAppend f) s (fun t =>
    ∀ b, t.peek b 1 = s.peek b 1)) ∧
  (∀ (s : State) (f : Frame) (i r : Nat), InnPeer s f → PoolClean s → f.address % 2 ^ 18 = i → bitsOf f.address 20 18 = 4 → (s.stay i).state = 7 →
    (s.stay i).twinCoord = f.srcCoord → (s.stay i).party = f.party → s.blocked i = false → f.poison = [] → f.payload.length = 4096 → bitsOf f.address 48 45 < 15 →
    (s.pageRoom i (bitsOf f.address 44 21)).1 = some r → r ≠ 0 → s.ledgerOf r = (1, false) → Completes (.mirrorRoomcopy f) s (fun t =>
    ∀ b, b < r * 65536 + 4096 * bitsOf f.address 48 45 ∨ r * 65536 + 4096 * bitsOf f.address 48 45 + 4096 ≤ b → t.peek b 1 = s.peek b 1)) ∧
  (∀ (s : State) (f : Frame) (i : Nat), InnPeer s f → PoolClean s → f.address % 2 ^ 18 = i → bitsOf f.address 20 18 = 3 → (s.stay i).state = 7 →
    (s.stay i).twinCoord = f.srcCoord → (s.stay i).party = f.party → s.blocked i = false → Completes (.mirrorClose f) s (fun t =>
    ∀ b, 2 ^ 31 ≤ b → 4 ≤ b % 65536 → t.peek b 1 = s.peek b 1)) ∧
  (∀ (s : State) (i off head : Nat), PoolClean s → s.stays.waiting = [] → s.ringPlace ((s.card i).pages (s.stay i).tokens + 1) = some (off, head) →
    Completes (.parkToHost i) s (fun t => ∀ b, 2 ^ 31 ≤ b → 4 ≤ b % 65536 →
      b / 65536 < s.fld ST_STABLE_BASE + off ∨ s.fld ST_STABLE_BASE + off + (s.card i).pages (s.stay i).tokens < b / 65536 → t.peek b 1 = s.peek b 1))

/-- R11, R13, R14, R15: a write of a register that no rule gives a further effect sets each of its RW fields to the value written where that value is not
reserved, clears the W1C and RS bits that are written 1, but for those that hardware sets in the same cycle, and leaves every other register alone.
The length of that cycle in ticks, and which supply a register write needs, are the model's choices (log entries 124 and 114). -/
def Obligations.PlainWritesFollowTheirFields : Prop :=
  (∀ (s : State) (off value : Nat) (r : RegRow) (f : FieldRow), Writable s → off % 8 = 0 → off < 2 ^ 26 → value < 2 ^ 64 → s.writeSingle off value = none →
    s.writeArray off value = none → isWord0 off = false → (arrayIndex (SW_POL_W1 0) 16 512 off).isNone = true →
    (arrayIndex (SW_VLAN_W1 0) 16 4096 off).isNone = true → (clusterIndex (CL_BIND_W1 0 0) 16 64 off).isNone = true →
    regRow? off = some r → f ∈ r.fields → Completes (.registerWrite off 8 value) s (fun t =>
      (f.acc = .rw → f.ok (bitsOf value f.hi f.lo) = true → bitsOf (t.reg off).toNat f.hi f.lo = bitsOf value f.hi f.lo) ∧
      (f.acc = .rw → f.ok (bitsOf value f.hi f.lo) = false → bitsOf (t.reg off).toNat f.hi f.lo = bitsOf (s.reg off).toNat f.hi f.lo) ∧
      (f.acc = .ro → bitsOf (t.reg off).toNat f.hi f.lo = bitsOf (s.reg off).toNat f.hi f.lo) ∧
      (f.acc = .w1c ∨ f.acc = .rs → ∀ i, f.lo ≤ i → i ≤ f.hi → (t.reg off).toNat.testBit i =
        ((s.reg off).toNat.testBit i && !(value.testBit i && !(s.roseAt off).toNat.testBit i))))) ∧
  (∀ (s : State) (off value : Nat), off % 8 = 0 → off < 2 ^ 26 → s.writeSingle off value = none → s.writeArray off value = none → isWord0 off = false →
    (arrayIndex (SW_POL_W1 0) 16 512 off).isNone = true → (arrayIndex (SW_VLAN_W1 0) 16 4096 off).isNone = true →
    (clusterIndex (CL_BIND_W1 0 0) 16 64 off).isNone = true → value < 2 ^ 64 → OnlyRegs [off] s (exec (.registerWrite off 8 value) s)) ∧
  (∀ (s : State) (off i : Nat) (r : RegRow), regRow? off = some r → i < 64 → (∀ f ∈ r.fields, f.acc = .wo ∨ i < f.lo ∨ f.hi < i) →
    (s.readWord off).toNat.testBit i = false)

/-- R28: a read of an offset with no register returns 0, a write there is discarded, and neither sends a fault message. The two places of BAR0 that CXL
and PCIe own are left out: the spec gives their offsets without their registers. -/
def Obligations.UnassignedOffsets : Prop :=
  (∀ (s : State) (off : Nat), regRow? off = none → off % 8 = 0 → off < 2 ^ 26 → off / 65536 ≠ 0x1A0 → off / 65536 ≠ 0x1A2 → s.readWord off = 0) ∧
  (∀ (s : State) (off : Nat), regRow? off = none → off % 8 = 0 → off < 2 ^ 26 → off / 65536 ≠ 0x1A0 → off / 65536 ≠ 0x1A2 → s.mctpOn = true →
    Completes (.readReg off) s (fun t => t = s.mctpReply 0x25 0 (zeroBytes 8))) ∧
  (∀ (s : State) (off value : Nat), regRow? off = none → off % 8 = 0 → off < 2 ^ 26 → off / 65536 ≠ 0x1A0 → off / 65536 ≠ 0x1A2 →
    Completes (.registerWrite off 8 value) s (fun t => t = { s with regs := t.regs })) ∧
  (∀ (s : State) (off value : Nat), regRow? off = none → off % 8 = 0 → off < 2 ^ 26 → off / 65536 ≠ 0x1A0 → off / 65536 ≠ 0x1A2 →
    OnlyRegs [] s (exec (.registerWrite off 8 value) s)) ∧
  (∀ (s : State) (off half value : Nat), regRow? off = none → off % 8 = 0 → off < 2 ^ 26 → off / 65536 ≠ 0x1A0 → off / 65536 ≠ 0x1A2 → half ∈ [0, 4] →
    Completes (.registerWrite (off + half) 4 value) s (fun t => t = { s with regs := t.regs }) ∧ OnlyRegs [] s (exec (.registerWrite (off + half) 4 value) s))

/-- R171: a sum outside the 128-bit range is set to the nearer limit with OVF; 256 contributions or fewer never set OVF. -/
def Obligations.AccumulatorSaturates : Prop :=
  (∀ a b : Int, -(2 : Int) ^ 127 ≤ a + b → a + b ≤ (2 : Int) ^ 127 - 1 → winAdd a b = (a + b, 0)) ∧
  (∀ a b : Int, (2 : Int) ^ 127 - 1 < a + b → winAdd a b = ((2 : Int) ^ 127 - 1, flOvf)) ∧
  (∀ a b : Int, a + b < -(2 : Int) ^ 127 → winAdd a b = (-(2 : Int) ^ 127, flOvf)) ∧
  (∀ (floor : Int) (vs : List FVal), vs.length ≤ 256 →
    (vs.foldl (fun p v => winTake floor p.1 p.2 v) ((0 : Int), 0)).2.testBit 4 = false)

/-- R343: a whole-pair write clears a pair's poison, zeroing a room clears every pair of it, and a partial write to a poisoned pair leaves the pair
poisoned and is discarded when its entry leaves the write-merge buffer. -/
def Obligations.PoisonAndWrites : Prop :=
  (∀ (s : State) (pair : Nat) (data : List Byte), pair < 2 ^ 34 → s.stackLost (pairStack pair) = false → data.length = 64 →
    Completes (.pairWrite pair data) s (fun t => t.poisoned pair = false ∧ t.peek (64 * pair) 64 = data)) ∧
  (∀ (s : State) (room pair : Nat), s.stackLost (roomStack room) = false → pair / 1024 = room → (s.zeroRoom room).poisoned pair = false) ∧
  (∀ (s : State) (w a : Nat) (data : List Byte), s.linkUp = true → s.target w = some a → s.poisoned (a / 64) = true → data.length < 64 - w % 64 →
    s.mem.merge = [] → Completes (.memwrptl w data) s (fun t => t.poisoned (a / 64) = true)) ∧
  (∀ (s : State) (pair : Nat) (e : MergeEntry), s.mem.merge = [e] → e.pair = pair → s.poisoned pair = true →
    e.at_ + 128 * s.fld MEM_MERGE_CTRL_HOLD ≤ s.free → Completes (.mergeHoldExpiry pair []) s (fun t =>
      t.poisoned pair = true ∧ t.mem.bytes = s.mem.bytes ∧ t.mem.merge = []))

/-- R397: the severity that the watch gives a message, and that a write of WATCH_SEVs changes it for the messages after it. -/
def Obligations.MessageSeverity : Prop :=
  (∀ (s : State) (source kind address : Nat), sourceListed source = true → faultKindListed kind = true → address < 2 ^ 40 → s.watch.queue.length < 512 →
    Completes (.faultMessage source kind address) s (fun t => ∃ m ∈ t.watch.queue, m.1 =
      faultWord source kind (if kindSeverity kind = 5 then 5 else if s.flag (WATCH_SEV_OVERRIDE source) then s.fld (WATCH_SEV_SEV source) else kindSeverity kind)
        address)) ∧
  (∀ (s : State) (source kind value : Nat), Writable s → source < 1024 → bitsOf value 2 0 ≤ 5 → Completes (.registerWrite (WATCH_SEV source) 8 value) s (fun t =>
    t.severity source kind = (if kindSeverity kind = 5 then 5 else if value.testBit 3 then bitsOf value 2 0 else kindSeverity kind) ∧
    t.watch = s.watch)) ∧
  (∀ (source kind sev address : Nat), sev < 8 → bitsOf (faultWord source kind sev address).toNat 47 45 = sev)

/-- R400: the first-error bits: set by a message of class CONTAINED or graver, sticky, kept through warm and cold resets, cleared by a written 1 but for a
bit that hardware sets in the same cycle (R13). The length of that cycle in ticks is the model's choice (log entry 124). -/
def Obligations.FirstErrorBits : Prop :=
  (∀ (s : State) (source kind address : Nat), sourceListed source = true → faultKindListed kind = true → 2 ≤ s.severity source kind →
    s.severity source kind < 4 → s.sw.agentWait = [] → Completes (.faultMessage source kind address) s (fun t =>
      t.regBit (WATCH_FIRST (source / 64)) (source % 64) = true ∧
      ∀ n < 1024, n ≠ source → t.regBit (WATCH_FIRST (n / 64)) (n % 64) = s.regBit (WATCH_FIRST (n / 64)) (n % 64))) ∧
  (∀ (s : State) (source kind address : Nat), s.severity source kind < 2 → s.sw.agentWait = [] →
    Completes (.faultMessage source kind address) s (fun t => ∀ k < 16, t.reg (WATCH_FIRST k) = s.reg (WATCH_FIRST k))) ∧
  (∀ (s : State) (k : Nat), Canon s → k < 16 → s.power.auxOn = true → s.host.writing = [] → Completes .warmReset s (fun t =>
    t.reg (WATCH_FIRST k) = s.reg (WATCH_FIRST k))) ∧
  (∀ (s : State) (k : Nat), Canon s → k < 16 → s.power.auxOn = true → Completes .powerOff s (fun t => t.reg (WATCH_FIRST k) = s.reg (WATCH_FIRST k))) ∧
  (∀ (s : State) (k value : Nat), Writable s → k < 16 → Completes (.registerWrite (WATCH_FIRST k) 8 value) s (fun t =>
    ∀ i < 64, t.regBit (WATCH_FIRST k) i = (s.regBit (WATCH_FIRST k) i && !(value.testBit i && !(s.roseAt (WATCH_FIRST k)).toNat.testBit i)))) ∧
  (∀ (s : State) (source kind address : Nat), sourceListed source = true → faultKindListed kind = true → s.severity source kind = 4 → s.tally.ctxs = [] →
    Completes (.faultMessage source kind address) s (fun t => t.regBit (WATCH_FIRST (source / 64)) (source % 64) = true)) ∧
  (∀ (s : State) (source kind address : Nat), sourceListed source = true → faultKindListed kind = true → s.severity source kind = 5 → s.tally.ctxs = [] →
    (∀ p < 256, s.portUp p = false) →
    Completes (.faultMessage source kind address) s (fun t => t.regBit (WATCH_FIRST (source / 64)) (source % 64) = true))

/-- R433: what a write of MB_QCFGq does. -/
def Obligations.QueueConfiguration : Prop :=
  (∀ (s : State) (q value : Nat), q < 2 → q = 0 ∨ s.stays.notices = [] → value.testBit 63 = true →
    s.flag (MB_QCFG_ENABLE q) = false ∨ bitsOf value 3 0 = s.fld (MB_QCFG_LOG2_ENTRIES q) → Completes (.queueConfigWrite q value) s (fun t =>
      t.fld (MB_QCFG_ENABLE q) = 1 ∧ t.fld (MB_QTAIL_TAIL q) = 0 ∧ t.fld (MB_QHEAD_HEAD q) = 0)) ∧
  (∀ (s : State) (q value : Nat), q < 2 → s.flag (MB_QCFG_ENABLE q) = true → 4 ≤ bitsOf value 3 0 → bitsOf value 3 0 ≠ s.fld (MB_QCFG_LOG2_ENTRIES q) →
    Completes (.queueConfigWrite q value) s (fun t => t.fld MB_ERR_QUEUE_REFUSED = 1 ∧ t.reg (MB_QCFG q) = s.reg (MB_QCFG q) ∧ t.host = s.host ∧
      t.out = s.out)) ∧
  (∀ (s : State) (q value : Nat), q < 2 → value.testBit 63 = false → bitsOf value 3 0 = s.fld (MB_QCFG_LOG2_ENTRIES q) → Completes (.queueConfigWrite q value) s
    (fun t => t.fld (MB_QCFG_ENABLE q) = 0 ∧ t.qReady q = false ∧ t.out = s.out))

/-- R30: only a power cycle leaves PHASE 0x7. A step from PHASE 0x7, with no stopover in progress, as entering the phase leaves it (R398), ends in PHASE
0x7 with none in progress, whatever command it takes, but for POWER_CYCLE and for the failure of the auxiliary supply's stage, which takes that supply
away. -/
def Obligations.OnlyPowerCycleLeavesFatalPhase : Prop :=
  ∀ s t : State, s.phase = 7 → s.fld PH_STOP_STATUS_STATE < 2 → step s = .next t → (t.phase = 7 ∧ t.fld PH_STOP_STATUS_STATE < 2) ∨
    ∃ rest, s.pending = .powerCycle :: rest ∨ s.pending = .powerStageFail 10 :: rest

/-- R46: once set, bell time never decreases. A step from a state whose bell time is set ends in one whose bell time is not set, after a reset, or whose
bell time is not below it. The premises keep the count from passing the end of its 64 bits, by a tick or by a forced step. -/
def Obligations.BellTimeNeverDecreases : Prop :=
  ∀ s t : State, s.bellSet = true → s.now + 1 < 2 ^ 64 → (∀ d ∈ s.bell.parent, (s.now : Int) + (s.dir d).offset / 65536 < 2 ^ 64) → step s = .next t →
    t.bellSet = false ∨ s.now ≤ t.now

/-- R118, R120, R121, R123, R473: the account of the packet buffer. Claiming, holding, filling, freeing and giving up cells and a new MIN move cells
between the shared part and the owners, and lose and make none. The counts of an owner fit their fields. -/
def Obligations.PoolAccountIsKept : Prop :=
  (∀ (s : State) (o k : Nat), o ≤ detourOwner → s.ownerUsed o + k < 2 ^ 20 → (s.takeCells o k).poolAccount = s.poolAccount ∧
    (s.takeCells o k).ownerUsed o = s.ownerUsed o + k ∧ (s.takeCells o k).fld SW_POOL_STATUS_SHARED_FREE = (s.takeCells o k).sw.sharedFree.toNat % 2 ^ 20) ∧
  (∀ (s : State) (o k : Nat), o ≤ detourOwner → s.ownerHeld o + k < 2 ^ 20 → (s.holdCells o k).poolAccount = s.poolAccount ∧
    (s.holdCells o k).ownerHeld o = s.ownerHeld o + k) ∧
  (∀ (s : State) (o k : Nat), o ≤ detourOwner → k ≤ s.ownerHeld o → s.ownerUsed o + k < 2 ^ 20 → (s.fillCells o k).poolAccount = s.poolAccount ∧
    (s.fillCells o k).ownerUsed o = s.ownerUsed o + k ∧ (s.fillCells o k).ownerHeld o = s.ownerHeld o - k) ∧
  (∀ (s : State) (o k : Nat) (chain : List Nat), o ≤ detourOwner → k ≤ s.ownerUsed o → (s.freeCells o k chain).poolAccount = s.poolAccount ∧
    (s.freeCells o k chain).ownerUsed o = s.ownerUsed o - k) ∧
  (∀ (s : State) (o : Nat), o ≤ detourOwner → (s.dropHeld o).poolAccount = s.poolAccount ∧ (s.dropHeld o).ownerHeld o = 0) ∧
  (∀ (s : State) (n value : Nat), Calm s → Completes (.ownerMinWrite n value) s (fun t => t.poolAccount = s.poolAccount)) ∧
  State.reset.poolAccount = 524288
end

