-- ==== Sys2Proof/Laws/Sparse.lean ====
section
/-! SUPPORT. Sparse maps: a read after a write, and the canonical form that every operation keeps. -/

-- One proof at a time: in the package as one text, proofs run side by side would only wait for one another.
set_option Elab.async false

namespace Sys2Proof.Machine

variable {α : Type} {d v : α} {m : List (Nat × α)} {k j : Nat}

/-- Every key of `m` lies above `k`. -/
def keysAbove (k : Nat) (m : List (Nat × α)) : Prop := ∀ e ∈ m, k < e.1

theorem keysRise_iff_pairwise : keysRise m = true ↔ m.Pairwise (fun a b => a.1 < b.1) := by
  induction m with
  | nil => simp [keysRise]
  | cons a m ih =>
    cases m with
    | nil => simp [keysRise]
    | cons b m =>
      simp only [keysRise, Bool.and_eq_true, decide_eq_true_eq, ih]
      rw [List.pairwise_cons (a := a)]
      constructor
      · rintro ⟨h, p⟩
        refine ⟨fun e he => ?_, p⟩
        rcases List.mem_cons.1 he with rfl | he
        · exact h
        · exact lt_trans h ((List.pairwise_cons.1 p).1 e he)
      · exact fun ⟨h, p⟩ => ⟨h b (by simp), p⟩

theorem sparseGet_of_not_mem (h : ∀ e ∈ m, e.1 ≠ k) : sparseGet d m k = d := by
  induction m with
  | nil => rfl
  | cons e m ih =>
    rw [sparseGet, if_neg (h e (by simp))]
    exact ih (fun x hx => h x (by simp [hx]))

@[simp] theorem sparseGet_nil : sparseGet d ([] : List (Nat × α)) k = d := rfl

theorem sparseGet_erase_same : sparseGet d (sparseErase m k) k = d :=
  sparseGet_of_not_mem (fun e he => by simpa [sparseErase] using (List.mem_filter.1 he).2)

theorem sparseGet_filter {p : Nat × α → Bool} (h : ∀ w, p (k, w) = true) : sparseGet d (m.filter p) k = sparseGet d m k := by
  induction m with
  | nil => rfl
  | cons e m ih =>
    rw [List.filter_cons]
    by_cases hk : e.1 = k
    · obtain ⟨a, w⟩ := e
      have : a = k := hk
      subst this
      simp [h, sparseGet]
    · by_cases hp : p e = true <;> simp [hp, sparseGet, hk, ih]

theorem sparseGet_erase_other (h : j ≠ k) : sparseGet d (sparseErase m k) j = sparseGet d m j :=
  sparseGet_filter (by simp [h])

theorem sparseGet_insert_other (h : j ≠ k) : sparseGet d (sparseInsert k v m) j = sparseGet d m j := by
  induction m with
  | nil => simp [sparseInsert, sparseGet, Ne.symm h]
  | cons e m ih =>
    rw [sparseInsert]
    split
    · simp [sparseGet, Ne.symm h]
    · simp [sparseGet, ih]

theorem sparseGet_insert_same (h : ∀ e ∈ m, e.1 ≠ k) : sparseGet d (sparseInsert k v m) k = v := by
  induction m with
  | nil => simp [sparseInsert, sparseGet]
  | cons e m ih =>
    rw [sparseInsert]
    split
    · simp [sparseGet]
    · rw [sparseGet, if_neg (h e (by simp))]
      exact ih (fun x hx => h x (by simp [hx]))

theorem keysRise_filter {p : Nat × α → Bool} (h : keysRise m = true) : keysRise (m.filter p) = true :=
  keysRise_iff_pairwise.2 ((keysRise_iff_pairwise.1 h).filter _)

theorem mem_sparseInsert {e : Nat × α} : e ∈ sparseInsert k v m ↔ e = (k, v) ∨ e ∈ m := by
  induction m with
  | nil => simp [sparseInsert]
  | cons a m ih =>
    rw [sparseInsert]
    split
    · simp
    · simp only [List.mem_cons, ih]; tauto

theorem keysRise_insert (h : keysRise m = true) (hk : ∀ e ∈ m, e.1 ≠ k) : keysRise (sparseInsert k v m) = true := by
  rw [keysRise_iff_pairwise] at *
  induction m with
  | nil => simp [sparseInsert]
  | cons a m ih =>
    obtain ⟨ha, hm⟩ := List.pairwise_cons.1 h
    have hak := hk a (by simp)
    rw [sparseInsert]
    split
    · next hlt =>
      refine List.pairwise_cons.2 ⟨fun e he => ?_, h⟩
      rcases List.mem_cons.1 he with rfl | he
      · exact hlt
      · exact lt_trans hlt (ha e he)
    · next hlt =>
      refine List.pairwise_cons.2 ⟨fun e he => ?_, ih hm (fun x hx => hk x (by simp [hx]))⟩
      rcases mem_sparseInsert.1 he with rfl | he
      · simp only; omega
      · exact ha e he

variable [DecidableEq α]

@[simp] theorem sparseGet_set_same : sparseGet d (sparseSet d m k v) k = v := by
  unfold sparseSet
  split
  · next h => rw [sparseGet_erase_same, h]
  · exact sparseGet_insert_same (fun e he => by simpa [sparseErase] using (List.mem_filter.1 he).2)

theorem sparseGet_set_other (h : j ≠ k) : sparseGet d (sparseSet d m k v) j = sparseGet d m j := by
  unfold sparseSet
  split
  · exact sparseGet_erase_other h
  · rw [sparseGet_insert_other h, sparseGet_erase_other h]

/-- A read at any key whose unlisted value may differ from that of the key written. -/
theorem sparseGet_set_other' {d' : α} (h : j ≠ k) : sparseGet d' (sparseSet d m k v) j = sparseGet d' m j := by
  unfold sparseSet
  split
  · exact sparseGet_erase_other h
  · rw [sparseGet_insert_other h, sparseGet_erase_other h]

theorem sparseGet_set : sparseGet d (sparseSet d m k v) j = if j = k then v else sparseGet d m j := by
  by_cases h : j = k
  · simp [h]
  · simp [h, sparseGet_set_other h]

variable {dk : Nat → α}

theorem sparseWf_iff : sparseWf dk m = true ↔ keysRise m = true ∧ ∀ e ∈ m, e.2 ≠ dk e.1 := by
  simp [sparseWf]

@[simp] theorem sparseWf_nil : sparseWf dk ([] : List (Nat × α)) = true := by simp [sparseWf, keysRise]

theorem sparseWf_filter {p : Nat × α → Bool} (h : sparseWf dk m = true) : sparseWf dk (m.filter p) = true := by
  rw [sparseWf_iff] at *
  exact ⟨keysRise_filter h.1, fun e he => h.2 e (List.mem_filter.1 he).1⟩

theorem sparseWf_erase (h : sparseWf dk m = true) : sparseWf dk (sparseErase m k) = true := sparseWf_filter h

theorem sparseWf_set' (h : sparseWf dk m = true) : sparseWf dk (sparseSet (dk k) m k v) = true := by
  unfold sparseSet
  split
  · exact sparseWf_erase h
  · next hv =>
    have he := sparseWf_iff.1 (sparseWf_erase (k := k) h)
    have hne : ∀ e ∈ sparseErase m k, e.1 ≠ k := fun e he => by simpa [sparseErase] using (List.mem_filter.1 he).2
    refine sparseWf_iff.2 ⟨keysRise_insert he.1 hne, fun e hm => ?_⟩
    rcases mem_sparseInsert.1 hm with rfl | hm
    · exact hv
    · exact he.2 e hm

/-- Setting one key keeps the canonical form of a map whose unlisted keys all read `d`. -/
theorem sparseWf_set (h : sparseWf (fun _ => d) m = true) : sparseWf (fun _ => d) (sparseSet d m k v) = true :=
  sparseWf_set' (dk := fun _ => d) h

theorem sparseWf_write {vs : List α} (h : sparseWf (fun _ => d) m = true) : sparseWf (fun _ => d) (sparseWrite d m k vs) = true := by
  induction vs generalizing m k with
  | nil => exact h
  | cons v vs ih => exact ih (sparseWf_set h)

theorem sparseGet_write_other {vs : List α} (h : j < k ∨ k + vs.length ≤ j) :
    sparseGet d (sparseWrite d m k vs) j = sparseGet d m j := by
  induction vs generalizing m k with
  | nil => rfl
  | cons v vs ih =>
    rw [sparseWrite, ih (by simp at h ⊢; omega), sparseGet_set_other (by simp at h; omega)]

theorem sparseGet_write_inside {vs : List α} {i : Nat} (hi : i < vs.length) :
    sparseGet d (sparseWrite d m k vs) (k + i) = vs[i] := by
  induction vs generalizing m k i with
  | nil => simp at hi
  | cons v vs ih =>
    rw [sparseWrite]
    cases i with
    | zero => rw [sparseGet_write_other (by omega)]; simp
    | succ i =>
      have := ih (m := sparseSet d m k v) (k := k + 1) (i := i) (by simpa using hi)
      simpa [Nat.add_assoc, Nat.add_comm 1 i] using this

theorem sparseRead_write_same {vs : List α} : sparseRead d (sparseWrite d m k vs) k vs.length = vs := by
  apply List.ext_getElem
  · simp [sparseRead]
  · intro i h1 h2
    simp [sparseRead, sparseGet_write_inside (d := d) (m := m) (k := k) h2]

end Sys2Proof.Machine
end

