-- ==== Sys2Proof/Laws/State.lean ====
section
/-! SUPPORT. What each plain update of the state leaves as it was, field by field, and what a register or a field reads after a
write. -/

-- One proof at a time: in the package as one text, proofs run side by side would only wait for one another.
set_option Elab.async false

namespace Sys2Proof.Machine

open Sys2Proof

variable (s : State)

@[simp] theorem State.setReg_power (o : Nat) (v : Word) : (s.setReg o v).power = s.power := rfl
@[simp] theorem State.setReg_rose (o : Nat) (v : Word) : (s.setReg o v).rose = s.noteRise o (v &&& ~~~(s.reg o)) := rfl
@[simp] theorem State.setReg_windowArmed (o : Nat) (v : Word) : (s.setReg o v).windowArmed = s.windowArmed := rfl
@[simp] theorem State.setReg_bell (o : Nat) (v : Word) : (s.setReg o v).bell = s.bell := rfl
@[simp] theorem State.setReg_watch (o : Nat) (v : Word) : (s.setReg o v).watch = s.watch := rfl
@[simp] theorem State.setReg_sw (o : Nat) (v : Word) : (s.setReg o v).sw = s.sw := rfl
@[simp] theorem State.setReg_lanes (o : Nat) (v : Word) : (s.setReg o v).lanes = s.lanes := rfl
@[simp] theorem State.setReg_tally (o : Nat) (v : Word) : (s.setReg o v).tally = s.tally := rfl
@[simp] theorem State.setReg_mem (o : Nat) (v : Word) : (s.setReg o v).mem = s.mem := rfl
@[simp] theorem State.setReg_stays (o : Nat) (v : Word) : (s.setReg o v).stays = s.stays := rfl
@[simp] theorem State.setReg_clusters (o : Nat) (v : Word) : (s.setReg o v).clusters = s.clusters := rfl
@[simp] theorem State.setReg_health (o : Nat) (v : Word) : (s.setReg o v).health = s.health := rfl
@[simp] theorem State.setReg_host (o : Nat) (v : Word) : (s.setReg o v).host = s.host := rfl
@[simp] theorem State.setReg_out (o : Nat) (v : Word) : (s.setReg o v).out = s.out := rfl
@[simp] theorem State.setReg_pending (o : Nat) (v : Word) : (s.setReg o v).pending = s.pending := rfl
@[simp] theorem State.setReg_freeCtr (o : Nat) (v : Word) : (s.setReg o v).freeCtr = s.freeCtr := rfl

@[simp] theorem State.setFld_power (f : Fld) (v : Nat) : (s.setFld f v).power = s.power := rfl
@[simp] theorem State.setFld_windowArmed (f : Fld) (v : Nat) : (s.setFld f v).windowArmed = s.windowArmed := rfl
@[simp] theorem State.setFld_bell (f : Fld) (v : Nat) : (s.setFld f v).bell = s.bell := rfl
@[simp] theorem State.setFld_watch (f : Fld) (v : Nat) : (s.setFld f v).watch = s.watch := rfl
@[simp] theorem State.setFld_sw (f : Fld) (v : Nat) : (s.setFld f v).sw = s.sw := rfl
@[simp] theorem State.setFld_lanes (f : Fld) (v : Nat) : (s.setFld f v).lanes = s.lanes := rfl
@[simp] theorem State.setFld_tally (f : Fld) (v : Nat) : (s.setFld f v).tally = s.tally := rfl
@[simp] theorem State.setFld_mem (f : Fld) (v : Nat) : (s.setFld f v).mem = s.mem := rfl
@[simp] theorem State.setFld_stays (f : Fld) (v : Nat) : (s.setFld f v).stays = s.stays := rfl
@[simp] theorem State.setFld_clusters (f : Fld) (v : Nat) : (s.setFld f v).clusters = s.clusters := rfl
@[simp] theorem State.setFld_health (f : Fld) (v : Nat) : (s.setFld f v).health = s.health := rfl
@[simp] theorem State.setFld_host (f : Fld) (v : Nat) : (s.setFld f v).host = s.host := rfl
@[simp] theorem State.setFld_out (f : Fld) (v : Nat) : (s.setFld f v).out = s.out := rfl
@[simp] theorem State.setFld_pending (f : Fld) (v : Nat) : (s.setFld f v).pending = s.pending := rfl
@[simp] theorem State.setFld_freeCtr (f : Fld) (v : Nat) : (s.setFld f v).freeCtr = s.freeCtr := rfl

@[simp] theorem State.raise_power (f : Fld) : (s.raise f).power = s.power := rfl
@[simp] theorem State.raise_windowArmed (f : Fld) : (s.raise f).windowArmed = s.windowArmed := rfl
@[simp] theorem State.raise_bell (f : Fld) : (s.raise f).bell = s.bell := rfl
@[simp] theorem State.raise_watch (f : Fld) : (s.raise f).watch = s.watch := rfl
@[simp] theorem State.raise_sw (f : Fld) : (s.raise f).sw = s.sw := rfl
@[simp] theorem State.raise_lanes (f : Fld) : (s.raise f).lanes = s.lanes := rfl
@[simp] theorem State.raise_tally (f : Fld) : (s.raise f).tally = s.tally := rfl
@[simp] theorem State.raise_mem (f : Fld) : (s.raise f).mem = s.mem := rfl
@[simp] theorem State.raise_stays (f : Fld) : (s.raise f).stays = s.stays := rfl
@[simp] theorem State.raise_clusters (f : Fld) : (s.raise f).clusters = s.clusters := rfl
@[simp] theorem State.raise_health (f : Fld) : (s.raise f).health = s.health := rfl
@[simp] theorem State.raise_host (f : Fld) : (s.raise f).host = s.host := rfl
@[simp] theorem State.raise_out (f : Fld) : (s.raise f).out = s.out := rfl
@[simp] theorem State.raise_pending (f : Fld) : (s.raise f).pending = s.pending := rfl
@[simp] theorem State.raise_freeCtr (f : Fld) : (s.raise f).freeCtr = s.freeCtr := rfl

@[simp] theorem State.count_power (o : Nat) : (s.count o).power = s.power := rfl
@[simp] theorem State.count_windowArmed (o : Nat) : (s.count o).windowArmed = s.windowArmed := rfl
@[simp] theorem State.count_bell (o : Nat) : (s.count o).bell = s.bell := rfl
@[simp] theorem State.count_watch (o : Nat) : (s.count o).watch = s.watch := rfl
@[simp] theorem State.count_sw (o : Nat) : (s.count o).sw = s.sw := rfl
@[simp] theorem State.count_lanes (o : Nat) : (s.count o).lanes = s.lanes := rfl
@[simp] theorem State.count_tally (o : Nat) : (s.count o).tally = s.tally := rfl
@[simp] theorem State.count_mem (o : Nat) : (s.count o).mem = s.mem := rfl
@[simp] theorem State.count_stays (o : Nat) : (s.count o).stays = s.stays := rfl
@[simp] theorem State.count_clusters (o : Nat) : (s.count o).clusters = s.clusters := rfl
@[simp] theorem State.count_health (o : Nat) : (s.count o).health = s.health := rfl
@[simp] theorem State.count_host (o : Nat) : (s.count o).host = s.host := rfl
@[simp] theorem State.count_out (o : Nat) : (s.count o).out = s.out := rfl
@[simp] theorem State.count_pending (o : Nat) : (s.count o).pending = s.pending := rfl
@[simp] theorem State.count_freeCtr (o : Nat) : (s.count o).freeCtr = s.freeCtr := rfl

@[simp] theorem State.countBy_power (o n : Nat) : (s.countBy o n).power = s.power := rfl
@[simp] theorem State.countBy_windowArmed (o n : Nat) : (s.countBy o n).windowArmed = s.windowArmed := rfl
@[simp] theorem State.countBy_bell (o n : Nat) : (s.countBy o n).bell = s.bell := rfl
@[simp] theorem State.countBy_watch (o n : Nat) : (s.countBy o n).watch = s.watch := rfl
@[simp] theorem State.countBy_sw (o n : Nat) : (s.countBy o n).sw = s.sw := rfl
@[simp] theorem State.countBy_lanes (o n : Nat) : (s.countBy o n).lanes = s.lanes := rfl
@[simp] theorem State.countBy_tally (o n : Nat) : (s.countBy o n).tally = s.tally := rfl
@[simp] theorem State.countBy_mem (o n : Nat) : (s.countBy o n).mem = s.mem := rfl
@[simp] theorem State.countBy_stays (o n : Nat) : (s.countBy o n).stays = s.stays := rfl
@[simp] theorem State.countBy_clusters (o n : Nat) : (s.countBy o n).clusters = s.clusters := rfl
@[simp] theorem State.countBy_health (o n : Nat) : (s.countBy o n).health = s.health := rfl
@[simp] theorem State.countBy_host (o n : Nat) : (s.countBy o n).host = s.host := rfl
@[simp] theorem State.countBy_out (o n : Nat) : (s.countBy o n).out = s.out := rfl
@[simp] theorem State.countBy_pending (o n : Nat) : (s.countBy o n).pending = s.pending := rfl
@[simp] theorem State.countBy_freeCtr (o n : Nat) : (s.countBy o n).freeCtr = s.freeCtr := rfl

@[simp] theorem State.setRegBit_power (o i : Nat) (b : Bool) : (s.setRegBit o i b).power = s.power := rfl
@[simp] theorem State.setRegBit_windowArmed (o i : Nat) (b : Bool) : (s.setRegBit o i b).windowArmed = s.windowArmed := rfl
@[simp] theorem State.setRegBit_bell (o i : Nat) (b : Bool) : (s.setRegBit o i b).bell = s.bell := rfl
@[simp] theorem State.setRegBit_watch (o i : Nat) (b : Bool) : (s.setRegBit o i b).watch = s.watch := rfl
@[simp] theorem State.setRegBit_sw (o i : Nat) (b : Bool) : (s.setRegBit o i b).sw = s.sw := rfl
@[simp] theorem State.setRegBit_lanes (o i : Nat) (b : Bool) : (s.setRegBit o i b).lanes = s.lanes := rfl
@[simp] theorem State.setRegBit_tally (o i : Nat) (b : Bool) : (s.setRegBit o i b).tally = s.tally := rfl
@[simp] theorem State.setRegBit_mem (o i : Nat) (b : Bool) : (s.setRegBit o i b).mem = s.mem := rfl
@[simp] theorem State.setRegBit_stays (o i : Nat) (b : Bool) : (s.setRegBit o i b).stays = s.stays := rfl
@[simp] theorem State.setRegBit_clusters (o i : Nat) (b : Bool) : (s.setRegBit o i b).clusters = s.clusters := rfl
@[simp] theorem State.setRegBit_health (o i : Nat) (b : Bool) : (s.setRegBit o i b).health = s.health := rfl
@[simp] theorem State.setRegBit_host (o i : Nat) (b : Bool) : (s.setRegBit o i b).host = s.host := rfl
@[simp] theorem State.setRegBit_out (o i : Nat) (b : Bool) : (s.setRegBit o i b).out = s.out := rfl
@[simp] theorem State.setRegBit_pending (o i : Nat) (b : Bool) : (s.setRegBit o i b).pending = s.pending := rfl
@[simp] theorem State.setRegBit_freeCtr (o i : Nat) (b : Bool) : (s.setRegBit o i b).freeCtr = s.freeCtr := rfl

@[simp] theorem State.sentFrame_regs (p : Nat) (f : Frame) (b : Bool) : (s.sentFrame p f b).regs = s.regs := rfl
@[simp] theorem State.sentFrame_power (p : Nat) (f : Frame) (b : Bool) : (s.sentFrame p f b).power = s.power := rfl
@[simp] theorem State.sentFrame_rose (p : Nat) (f : Frame) (b : Bool) : (s.sentFrame p f b).rose = s.rose := rfl
@[simp] theorem State.sentFrame_windowArmed (p : Nat) (f : Frame) (b : Bool) : (s.sentFrame p f b).windowArmed = s.windowArmed := rfl
@[simp] theorem State.sentFrame_bell (p : Nat) (f : Frame) (b : Bool) : (s.sentFrame p f b).bell = s.bell := rfl
@[simp] theorem State.sentFrame_watch (p : Nat) (f : Frame) (b : Bool) : (s.sentFrame p f b).watch = s.watch := rfl
@[simp] theorem State.sentFrame_sw (p : Nat) (f : Frame) (b : Bool) : (s.sentFrame p f b).sw = s.sw := rfl
@[simp] theorem State.sentFrame_lanes (p : Nat) (f : Frame) (b : Bool) : (s.sentFrame p f b).lanes = s.lanes := rfl
@[simp] theorem State.sentFrame_tally (p : Nat) (f : Frame) (b : Bool) : (s.sentFrame p f b).tally = s.tally := rfl
@[simp] theorem State.sentFrame_mem (p : Nat) (f : Frame) (b : Bool) : (s.sentFrame p f b).mem = s.mem := rfl
@[simp] theorem State.sentFrame_stays (p : Nat) (f : Frame) (b : Bool) : (s.sentFrame p f b).stays = s.stays := rfl
@[simp] theorem State.sentFrame_clusters (p : Nat) (f : Frame) (b : Bool) : (s.sentFrame p f b).clusters = s.clusters := rfl
@[simp] theorem State.sentFrame_health (p : Nat) (f : Frame) (b : Bool) : (s.sentFrame p f b).health = s.health := rfl
@[simp] theorem State.sentFrame_host (p : Nat) (f : Frame) (b : Bool) : (s.sentFrame p f b).host = s.host := rfl
@[simp] theorem State.sentFrame_pending (p : Nat) (f : Frame) (b : Bool) : (s.sentFrame p f b).pending = s.pending := rfl
@[simp] theorem State.sentFrame_freeCtr (p : Nat) (f : Frame) (b : Bool) : (s.sentFrame p f b).freeCtr = s.freeCtr := rfl

@[simp] theorem State.sentEth_regs (p : Nat) (l : List Byte) (b : Bool) : (s.sentEth p l b).regs = s.regs := rfl
@[simp] theorem State.sentEth_power (p : Nat) (l : List Byte) (b : Bool) : (s.sentEth p l b).power = s.power := rfl
@[simp] theorem State.sentEth_rose (p : Nat) (l : List Byte) (b : Bool) : (s.sentEth p l b).rose = s.rose := rfl
@[simp] theorem State.sentEth_windowArmed (p : Nat) (l : List Byte) (b : Bool) : (s.sentEth p l b).windowArmed = s.windowArmed := rfl
@[simp] theorem State.sentEth_bell (p : Nat) (l : List Byte) (b : Bool) : (s.sentEth p l b).bell = s.bell := rfl
@[simp] theorem State.sentEth_watch (p : Nat) (l : List Byte) (b : Bool) : (s.sentEth p l b).watch = s.watch := rfl
@[simp] theorem State.sentEth_sw (p : Nat) (l : List Byte) (b : Bool) : (s.sentEth p l b).sw = s.sw := rfl
@[simp] theorem State.sentEth_lanes (p : Nat) (l : List Byte) (b : Bool) : (s.sentEth p l b).lanes = s.lanes := rfl
@[simp] theorem State.sentEth_tally (p : Nat) (l : List Byte) (b : Bool) : (s.sentEth p l b).tally = s.tally := rfl
@[simp] theorem State.sentEth_mem (p : Nat) (l : List Byte) (b : Bool) : (s.sentEth p l b).mem = s.mem := rfl
@[simp] theorem State.sentEth_stays (p : Nat) (l : List Byte) (b : Bool) : (s.sentEth p l b).stays = s.stays := rfl
@[simp] theorem State.sentEth_clusters (p : Nat) (l : List Byte) (b : Bool) : (s.sentEth p l b).clusters = s.clusters := rfl
@[simp] theorem State.sentEth_health (p : Nat) (l : List Byte) (b : Bool) : (s.sentEth p l b).health = s.health := rfl
@[simp] theorem State.sentEth_host (p : Nat) (l : List Byte) (b : Bool) : (s.sentEth p l b).host = s.host := rfl
@[simp] theorem State.sentEth_pending (p : Nat) (l : List Byte) (b : Bool) : (s.sentEth p l b).pending = s.pending := rfl
@[simp] theorem State.sentEth_freeCtr (p : Nat) (l : List Byte) (b : Bool) : (s.sentEth p l b).freeCtr = s.freeCtr := rfl

@[simp] theorem State.sentCtrl_regs (p : Nat) (b : CtrlBlock) : (s.sentCtrl p b).regs = s.regs := rfl
@[simp] theorem State.sentCtrl_power (p : Nat) (b : CtrlBlock) : (s.sentCtrl p b).power = s.power := rfl
@[simp] theorem State.sentCtrl_rose (p : Nat) (b : CtrlBlock) : (s.sentCtrl p b).rose = s.rose := rfl
@[simp] theorem State.sentCtrl_windowArmed (p : Nat) (b : CtrlBlock) : (s.sentCtrl p b).windowArmed = s.windowArmed := rfl
@[simp] theorem State.sentCtrl_bell (p : Nat) (b : CtrlBlock) : (s.sentCtrl p b).bell = s.bell := rfl
@[simp] theorem State.sentCtrl_watch (p : Nat) (b : CtrlBlock) : (s.sentCtrl p b).watch = s.watch := rfl
@[simp] theorem State.sentCtrl_sw (p : Nat) (b : CtrlBlock) : (s.sentCtrl p b).sw = s.sw := rfl
@[simp] theorem State.sentCtrl_lanes (p : Nat) (b : CtrlBlock) : (s.sentCtrl p b).lanes = s.lanes := rfl
@[simp] theorem State.sentCtrl_tally (p : Nat) (b : CtrlBlock) : (s.sentCtrl p b).tally = s.tally := rfl
@[simp] theorem State.sentCtrl_mem (p : Nat) (b : CtrlBlock) : (s.sentCtrl p b).mem = s.mem := rfl
@[simp] theorem State.sentCtrl_stays (p : Nat) (b : CtrlBlock) : (s.sentCtrl p b).stays = s.stays := rfl
@[simp] theorem State.sentCtrl_clusters (p : Nat) (b : CtrlBlock) : (s.sentCtrl p b).clusters = s.clusters := rfl
@[simp] theorem State.sentCtrl_health (p : Nat) (b : CtrlBlock) : (s.sentCtrl p b).health = s.health := rfl
@[simp] theorem State.sentCtrl_host (p : Nat) (b : CtrlBlock) : (s.sentCtrl p b).host = s.host := rfl
@[simp] theorem State.sentCtrl_pending (p : Nat) (b : CtrlBlock) : (s.sentCtrl p b).pending = s.pending := rfl
@[simp] theorem State.sentCtrl_freeCtr (p : Nat) (b : CtrlBlock) : (s.sentCtrl p b).freeCtr = s.freeCtr := rfl

@[simp] theorem State.sentMctp_regs (l : List Byte) : (s.sentMctp l).regs = s.regs := rfl
@[simp] theorem State.sentMctp_power (l : List Byte) : (s.sentMctp l).power = s.power := rfl
@[simp] theorem State.sentMctp_rose (l : List Byte) : (s.sentMctp l).rose = s.rose := rfl
@[simp] theorem State.sentMctp_windowArmed (l : List Byte) : (s.sentMctp l).windowArmed = s.windowArmed := rfl
@[simp] theorem State.sentMctp_bell (l : List Byte) : (s.sentMctp l).bell = s.bell := rfl
@[simp] theorem State.sentMctp_watch (l : List Byte) : (s.sentMctp l).watch = s.watch := rfl
@[simp] theorem State.sentMctp_sw (l : List Byte) : (s.sentMctp l).sw = s.sw := rfl
@[simp] theorem State.sentMctp_lanes (l : List Byte) : (s.sentMctp l).lanes = s.lanes := rfl
@[simp] theorem State.sentMctp_tally (l : List Byte) : (s.sentMctp l).tally = s.tally := rfl
@[simp] theorem State.sentMctp_mem (l : List Byte) : (s.sentMctp l).mem = s.mem := rfl
@[simp] theorem State.sentMctp_stays (l : List Byte) : (s.sentMctp l).stays = s.stays := rfl
@[simp] theorem State.sentMctp_clusters (l : List Byte) : (s.sentMctp l).clusters = s.clusters := rfl
@[simp] theorem State.sentMctp_health (l : List Byte) : (s.sentMctp l).health = s.health := rfl
@[simp] theorem State.sentMctp_host (l : List Byte) : (s.sentMctp l).host = s.host := rfl
@[simp] theorem State.sentMctp_pending (l : List Byte) : (s.sentMctp l).pending = s.pending := rfl
@[simp] theorem State.sentMctp_freeCtr (l : List Byte) : (s.sentMctp l).freeCtr = s.freeCtr := rfl

@[simp] theorem State.mctpReply_regs (a b : Nat) (l : List Byte) : (s.mctpReply a b l).regs = s.regs := rfl
@[simp] theorem State.mctpReply_power (a b : Nat) (l : List Byte) : (s.mctpReply a b l).power = s.power := rfl
@[simp] theorem State.mctpReply_rose (a b : Nat) (l : List Byte) : (s.mctpReply a b l).rose = s.rose := rfl
@[simp] theorem State.mctpReply_windowArmed (a b : Nat) (l : List Byte) : (s.mctpReply a b l).windowArmed = s.windowArmed := rfl
@[simp] theorem State.mctpReply_bell (a b : Nat) (l : List Byte) : (s.mctpReply a b l).bell = s.bell := rfl
@[simp] theorem State.mctpReply_watch (a b : Nat) (l : List Byte) : (s.mctpReply a b l).watch = s.watch := rfl
@[simp] theorem State.mctpReply_sw (a b : Nat) (l : List Byte) : (s.mctpReply a b l).sw = s.sw := rfl
@[simp] theorem State.mctpReply_lanes (a b : Nat) (l : List Byte) : (s.mctpReply a b l).lanes = s.lanes := rfl
@[simp] theorem State.mctpReply_tally (a b : Nat) (l : List Byte) : (s.mctpReply a b l).tally = s.tally := rfl
@[simp] theorem State.mctpReply_mem (a b : Nat) (l : List Byte) : (s.mctpReply a b l).mem = s.mem := rfl
@[simp] theorem State.mctpReply_stays (a b : Nat) (l : List Byte) : (s.mctpReply a b l).stays = s.stays := rfl
@[simp] theorem State.mctpReply_clusters (a b : Nat) (l : List Byte) : (s.mctpReply a b l).clusters = s.clusters := rfl
@[simp] theorem State.mctpReply_health (a b : Nat) (l : List Byte) : (s.mctpReply a b l).health = s.health := rfl
@[simp] theorem State.mctpReply_host (a b : Nat) (l : List Byte) : (s.mctpReply a b l).host = s.host := rfl
@[simp] theorem State.mctpReply_pending (a b : Nat) (l : List Byte) : (s.mctpReply a b l).pending = s.pending := rfl
@[simp] theorem State.mctpReply_freeCtr (a b : Nat) (l : List Byte) : (s.mctpReply a b l).freeCtr = s.freeCtr := rfl

@[simp] theorem State.nextFree_regs : (s.nextFree ).regs = s.regs := rfl
@[simp] theorem State.nextFree_power : (s.nextFree ).power = s.power := rfl
@[simp] theorem State.nextFree_rose  : (s.nextFree ).rose = s.rose := rfl
@[simp] theorem State.nextFree_windowArmed  : (s.nextFree ).windowArmed = s.windowArmed := rfl
@[simp] theorem State.nextFree_bell : (s.nextFree ).bell = s.bell := rfl
@[simp] theorem State.nextFree_watch : (s.nextFree ).watch = s.watch := rfl
@[simp] theorem State.nextFree_sw : (s.nextFree ).sw = s.sw := rfl
@[simp] theorem State.nextFree_lanes : (s.nextFree ).lanes = s.lanes := rfl
@[simp] theorem State.nextFree_tally : (s.nextFree ).tally = s.tally := rfl
@[simp] theorem State.nextFree_mem : (s.nextFree ).mem = s.mem := rfl
@[simp] theorem State.nextFree_stays : (s.nextFree ).stays = s.stays := rfl
@[simp] theorem State.nextFree_clusters : (s.nextFree ).clusters = s.clusters := rfl
@[simp] theorem State.nextFree_health : (s.nextFree ).health = s.health := rfl
@[simp] theorem State.nextFree_host : (s.nextFree ).host = s.host := rfl
@[simp] theorem State.nextFree_out : (s.nextFree ).out = s.out := rfl
@[simp] theorem State.nextFree_pending : (s.nextFree ).pending = s.pending := rfl

@[simp] theorem State.skipFree_regs (n : Nat) : (s.skipFree n).regs = s.regs := rfl
@[simp] theorem State.skipFree_power (n : Nat) : (s.skipFree n).power = s.power := rfl
@[simp] theorem State.skipFree_rose (n : Nat) : (s.skipFree n).rose = s.rose := rfl
@[simp] theorem State.skipFree_windowArmed (n : Nat) : (s.skipFree n).windowArmed = s.windowArmed := rfl
@[simp] theorem State.skipFree_bell (n : Nat) : (s.skipFree n).bell = s.bell := rfl
@[simp] theorem State.skipFree_watch (n : Nat) : (s.skipFree n).watch = s.watch := rfl
@[simp] theorem State.skipFree_sw (n : Nat) : (s.skipFree n).sw = s.sw := rfl
@[simp] theorem State.skipFree_lanes (n : Nat) : (s.skipFree n).lanes = s.lanes := rfl
@[simp] theorem State.skipFree_tally (n : Nat) : (s.skipFree n).tally = s.tally := rfl
@[simp] theorem State.skipFree_mem (n : Nat) : (s.skipFree n).mem = s.mem := rfl
@[simp] theorem State.skipFree_stays (n : Nat) : (s.skipFree n).stays = s.stays := rfl
@[simp] theorem State.skipFree_clusters (n : Nat) : (s.skipFree n).clusters = s.clusters := rfl
@[simp] theorem State.skipFree_health (n : Nat) : (s.skipFree n).health = s.health := rfl
@[simp] theorem State.skipFree_host (n : Nat) : (s.skipFree n).host = s.host := rfl
@[simp] theorem State.skipFree_out (n : Nat) : (s.skipFree n).out = s.out := rfl
@[simp] theorem State.skipFree_pending (n : Nat) : (s.skipFree n).pending = s.pending := rfl

@[simp] theorem State.modOut_regs (g : Output → Output) : (s.modOut g).regs = s.regs := rfl
@[simp] theorem State.modOut_power (g : Output → Output) : (s.modOut g).power = s.power := rfl
@[simp] theorem State.modOut_rose (g : Output → Output) : (s.modOut g).rose = s.rose := rfl
@[simp] theorem State.modOut_windowArmed (g : Output → Output) : (s.modOut g).windowArmed = s.windowArmed := rfl
@[simp] theorem State.modOut_bell (g : Output → Output) : (s.modOut g).bell = s.bell := rfl
@[simp] theorem State.modOut_watch (g : Output → Output) : (s.modOut g).watch = s.watch := rfl
@[simp] theorem State.modOut_sw (g : Output → Output) : (s.modOut g).sw = s.sw := rfl
@[simp] theorem State.modOut_lanes (g : Output → Output) : (s.modOut g).lanes = s.lanes := rfl
@[simp] theorem State.modOut_tally (g : Output → Output) : (s.modOut g).tally = s.tally := rfl
@[simp] theorem State.modOut_mem (g : Output → Output) : (s.modOut g).mem = s.mem := rfl
@[simp] theorem State.modOut_stays (g : Output → Output) : (s.modOut g).stays = s.stays := rfl
@[simp] theorem State.modOut_clusters (g : Output → Output) : (s.modOut g).clusters = s.clusters := rfl
@[simp] theorem State.modOut_health (g : Output → Output) : (s.modOut g).health = s.health := rfl
@[simp] theorem State.modOut_host (g : Output → Output) : (s.modOut g).host = s.host := rfl
@[simp] theorem State.modOut_pending (g : Output → Output) : (s.modOut g).pending = s.pending := rfl
@[simp] theorem State.modOut_freeCtr (g : Output → Output) : (s.modOut g).freeCtr = s.freeCtr := rfl

@[simp] theorem State.modPower_regs (g : Power → Power) : (s.modPower g).regs = s.regs := rfl
@[simp] theorem State.modPower_bell (g : Power → Power) : (s.modPower g).bell = s.bell := rfl
@[simp] theorem State.modPower_rose (g : Power → Power) : (s.modPower g).rose = s.rose := rfl
@[simp] theorem State.modPower_windowArmed (g : Power → Power) : (s.modPower g).windowArmed = s.windowArmed := rfl
@[simp] theorem State.modPower_watch (g : Power → Power) : (s.modPower g).watch = s.watch := rfl
@[simp] theorem State.modPower_sw (g : Power → Power) : (s.modPower g).sw = s.sw := rfl
@[simp] theorem State.modPower_lanes (g : Power → Power) : (s.modPower g).lanes = s.lanes := rfl
@[simp] theorem State.modPower_tally (g : Power → Power) : (s.modPower g).tally = s.tally := rfl
@[simp] theorem State.modPower_mem (g : Power → Power) : (s.modPower g).mem = s.mem := rfl
@[simp] theorem State.modPower_stays (g : Power → Power) : (s.modPower g).stays = s.stays := rfl
@[simp] theorem State.modPower_clusters (g : Power → Power) : (s.modPower g).clusters = s.clusters := rfl
@[simp] theorem State.modPower_health (g : Power → Power) : (s.modPower g).health = s.health := rfl
@[simp] theorem State.modPower_host (g : Power → Power) : (s.modPower g).host = s.host := rfl
@[simp] theorem State.modPower_out (g : Power → Power) : (s.modPower g).out = s.out := rfl
@[simp] theorem State.modPower_pending (g : Power → Power) : (s.modPower g).pending = s.pending := rfl
@[simp] theorem State.modPower_freeCtr (g : Power → Power) : (s.modPower g).freeCtr = s.freeCtr := rfl

@[simp] theorem State.modWatch_regs (g : WatchQ → WatchQ) : (s.modWatch g).regs = s.regs := rfl
@[simp] theorem State.modWatch_power (g : WatchQ → WatchQ) : (s.modWatch g).power = s.power := rfl
@[simp] theorem State.modWatch_rose (g : WatchQ → WatchQ) : (s.modWatch g).rose = s.rose := rfl
@[simp] theorem State.modWatch_windowArmed (g : WatchQ → WatchQ) : (s.modWatch g).windowArmed = s.windowArmed := rfl
@[simp] theorem State.modWatch_bell (g : WatchQ → WatchQ) : (s.modWatch g).bell = s.bell := rfl
@[simp] theorem State.modWatch_sw (g : WatchQ → WatchQ) : (s.modWatch g).sw = s.sw := rfl
@[simp] theorem State.modWatch_lanes (g : WatchQ → WatchQ) : (s.modWatch g).lanes = s.lanes := rfl
@[simp] theorem State.modWatch_tally (g : WatchQ → WatchQ) : (s.modWatch g).tally = s.tally := rfl
@[simp] theorem State.modWatch_mem (g : WatchQ → WatchQ) : (s.modWatch g).mem = s.mem := rfl
@[simp] theorem State.modWatch_stays (g : WatchQ → WatchQ) : (s.modWatch g).stays = s.stays := rfl
@[simp] theorem State.modWatch_clusters (g : WatchQ → WatchQ) : (s.modWatch g).clusters = s.clusters := rfl
@[simp] theorem State.modWatch_health (g : WatchQ → WatchQ) : (s.modWatch g).health = s.health := rfl
@[simp] theorem State.modWatch_host (g : WatchQ → WatchQ) : (s.modWatch g).host = s.host := rfl
@[simp] theorem State.modWatch_out (g : WatchQ → WatchQ) : (s.modWatch g).out = s.out := rfl
@[simp] theorem State.modWatch_pending (g : WatchQ → WatchQ) : (s.modWatch g).pending = s.pending := rfl
@[simp] theorem State.modWatch_freeCtr (g : WatchQ → WatchQ) : (s.modWatch g).freeCtr = s.freeCtr := rfl

@[simp] theorem State.modTally_regs (g : Tally → Tally) : (s.modTally g).regs = s.regs := rfl
@[simp] theorem State.modTally_power (g : Tally → Tally) : (s.modTally g).power = s.power := rfl
@[simp] theorem State.modTally_rose (g : Tally → Tally) : (s.modTally g).rose = s.rose := rfl
@[simp] theorem State.modTally_windowArmed (g : Tally → Tally) : (s.modTally g).windowArmed = s.windowArmed := rfl
@[simp] theorem State.modTally_bell (g : Tally → Tally) : (s.modTally g).bell = s.bell := rfl
@[simp] theorem State.modTally_watch (g : Tally → Tally) : (s.modTally g).watch = s.watch := rfl
@[simp] theorem State.modTally_sw (g : Tally → Tally) : (s.modTally g).sw = s.sw := rfl
@[simp] theorem State.modTally_lanes (g : Tally → Tally) : (s.modTally g).lanes = s.lanes := rfl
@[simp] theorem State.modTally_mem (g : Tally → Tally) : (s.modTally g).mem = s.mem := rfl
@[simp] theorem State.modTally_stays (g : Tally → Tally) : (s.modTally g).stays = s.stays := rfl
@[simp] theorem State.modTally_clusters (g : Tally → Tally) : (s.modTally g).clusters = s.clusters := rfl
@[simp] theorem State.modTally_health (g : Tally → Tally) : (s.modTally g).health = s.health := rfl
@[simp] theorem State.modTally_host (g : Tally → Tally) : (s.modTally g).host = s.host := rfl
@[simp] theorem State.modTally_out (g : Tally → Tally) : (s.modTally g).out = s.out := rfl
@[simp] theorem State.modTally_pending (g : Tally → Tally) : (s.modTally g).pending = s.pending := rfl
@[simp] theorem State.modTally_freeCtr (g : Tally → Tally) : (s.modTally g).freeCtr = s.freeCtr := rfl

@[simp] theorem State.modPort_regs (p : Nat) (g : PortCtl → PortCtl) : (s.modPort p g).regs = s.regs := rfl
@[simp] theorem State.modPort_power (p : Nat) (g : PortCtl → PortCtl) : (s.modPort p g).power = s.power := rfl
@[simp] theorem State.modPort_rose (p : Nat) (g : PortCtl → PortCtl) : (s.modPort p g).rose = s.rose := rfl
@[simp] theorem State.modPort_windowArmed (p : Nat) (g : PortCtl → PortCtl) : (s.modPort p g).windowArmed = s.windowArmed := rfl
@[simp] theorem State.modPort_bell (p : Nat) (g : PortCtl → PortCtl) : (s.modPort p g).bell = s.bell := rfl
@[simp] theorem State.modPort_watch (p : Nat) (g : PortCtl → PortCtl) : (s.modPort p g).watch = s.watch := rfl
@[simp] theorem State.modPort_sw (p : Nat) (g : PortCtl → PortCtl) : (s.modPort p g).sw = s.sw := rfl
@[simp] theorem State.modPort_tally (p : Nat) (g : PortCtl → PortCtl) : (s.modPort p g).tally = s.tally := rfl
@[simp] theorem State.modPort_mem (p : Nat) (g : PortCtl → PortCtl) : (s.modPort p g).mem = s.mem := rfl
@[simp] theorem State.modPort_stays (p : Nat) (g : PortCtl → PortCtl) : (s.modPort p g).stays = s.stays := rfl
@[simp] theorem State.modPort_clusters (p : Nat) (g : PortCtl → PortCtl) : (s.modPort p g).clusters = s.clusters := rfl
@[simp] theorem State.modPort_health (p : Nat) (g : PortCtl → PortCtl) : (s.modPort p g).health = s.health := rfl
@[simp] theorem State.modPort_host (p : Nat) (g : PortCtl → PortCtl) : (s.modPort p g).host = s.host := rfl
@[simp] theorem State.modPort_out (p : Nat) (g : PortCtl → PortCtl) : (s.modPort p g).out = s.out := rfl
@[simp] theorem State.modPort_pending (p : Nat) (g : PortCtl → PortCtl) : (s.modPort p g).pending = s.pending := rfl
@[simp] theorem State.modPort_freeCtr (p : Nat) (g : PortCtl → PortCtl) : (s.modPort p g).freeCtr = s.freeCtr := rfl

@[simp] theorem State.modSw_regs (g : Switch → Switch) : (s.modSw g).regs = s.regs := rfl
@[simp] theorem State.modSw_power (g : Switch → Switch) : (s.modSw g).power = s.power := rfl
@[simp] theorem State.modSw_rose (g : Switch → Switch) : (s.modSw g).rose = s.rose := rfl
@[simp] theorem State.modSw_windowArmed (g : Switch → Switch) : (s.modSw g).windowArmed = s.windowArmed := rfl
@[simp] theorem State.modSw_bell (g : Switch → Switch) : (s.modSw g).bell = s.bell := rfl
@[simp] theorem State.modSw_watch (g : Switch → Switch) : (s.modSw g).watch = s.watch := rfl
@[simp] theorem State.modSw_lanes (g : Switch → Switch) : (s.modSw g).lanes = s.lanes := rfl
@[simp] theorem State.modSw_tally (g : Switch → Switch) : (s.modSw g).tally = s.tally := rfl
@[simp] theorem State.modSw_mem (g : Switch → Switch) : (s.modSw g).mem = s.mem := rfl
@[simp] theorem State.modSw_stays (g : Switch → Switch) : (s.modSw g).stays = s.stays := rfl
@[simp] theorem State.modSw_clusters (g : Switch → Switch) : (s.modSw g).clusters = s.clusters := rfl
@[simp] theorem State.modSw_health (g : Switch → Switch) : (s.modSw g).health = s.health := rfl
@[simp] theorem State.modSw_host (g : Switch → Switch) : (s.modSw g).host = s.host := rfl
@[simp] theorem State.modSw_out (g : Switch → Switch) : (s.modSw g).out = s.out := rfl
@[simp] theorem State.modSw_pending (g : Switch → Switch) : (s.modSw g).pending = s.pending := rfl
@[simp] theorem State.modSw_freeCtr (g : Switch → Switch) : (s.modSw g).freeCtr = s.freeCtr := rfl

@[simp] theorem State.modBell_regs (g : BellUnit → BellUnit) : (s.modBell g).regs = s.regs := rfl
@[simp] theorem State.modBell_power (g : BellUnit → BellUnit) : (s.modBell g).power = s.power := rfl
@[simp] theorem State.modBell_rose (g : BellUnit → BellUnit) : (s.modBell g).rose = s.rose := rfl
@[simp] theorem State.modBell_windowArmed (g : BellUnit → BellUnit) : (s.modBell g).windowArmed = s.windowArmed := rfl
@[simp] theorem State.modBell_watch (g : BellUnit → BellUnit) : (s.modBell g).watch = s.watch := rfl
@[simp] theorem State.modBell_sw (g : BellUnit → BellUnit) : (s.modBell g).sw = s.sw := rfl
@[simp] theorem State.modBell_lanes (g : BellUnit → BellUnit) : (s.modBell g).lanes = s.lanes := rfl
@[simp] theorem State.modBell_tally (g : BellUnit → BellUnit) : (s.modBell g).tally = s.tally := rfl
@[simp] theorem State.modBell_mem (g : BellUnit → BellUnit) : (s.modBell g).mem = s.mem := rfl
@[simp] theorem State.modBell_stays (g : BellUnit → BellUnit) : (s.modBell g).stays = s.stays := rfl
@[simp] theorem State.modBell_clusters (g : BellUnit → BellUnit) : (s.modBell g).clusters = s.clusters := rfl
@[simp] theorem State.modBell_health (g : BellUnit → BellUnit) : (s.modBell g).health = s.health := rfl
@[simp] theorem State.modBell_host (g : BellUnit → BellUnit) : (s.modBell g).host = s.host := rfl
@[simp] theorem State.modBell_out (g : BellUnit → BellUnit) : (s.modBell g).out = s.out := rfl
@[simp] theorem State.modBell_pending (g : BellUnit → BellUnit) : (s.modBell g).pending = s.pending := rfl
@[simp] theorem State.modBell_freeCtr (g : BellUnit → BellUnit) : (s.modBell g).freeCtr = s.freeCtr := rfl

@[simp] theorem State.modDir_regs (d : Nat) (g : DirInfo → DirInfo) : (s.modDir d g).regs = s.regs := rfl
@[simp] theorem State.modDir_power (d : Nat) (g : DirInfo → DirInfo) : (s.modDir d g).power = s.power := rfl
@[simp] theorem State.modDir_rose (d : Nat) (g : DirInfo → DirInfo) : (s.modDir d g).rose = s.rose := rfl
@[simp] theorem State.modDir_windowArmed (d : Nat) (g : DirInfo → DirInfo) : (s.modDir d g).windowArmed = s.windowArmed := rfl
@[simp] theorem State.modDir_watch (d : Nat) (g : DirInfo → DirInfo) : (s.modDir d g).watch = s.watch := rfl
@[simp] theorem State.modDir_sw (d : Nat) (g : DirInfo → DirInfo) : (s.modDir d g).sw = s.sw := rfl
@[simp] theorem State.modDir_lanes (d : Nat) (g : DirInfo → DirInfo) : (s.modDir d g).lanes = s.lanes := rfl
@[simp] theorem State.modDir_tally (d : Nat) (g : DirInfo → DirInfo) : (s.modDir d g).tally = s.tally := rfl
@[simp] theorem State.modDir_mem (d : Nat) (g : DirInfo → DirInfo) : (s.modDir d g).mem = s.mem := rfl
@[simp] theorem State.modDir_stays (d : Nat) (g : DirInfo → DirInfo) : (s.modDir d g).stays = s.stays := rfl
@[simp] theorem State.modDir_clusters (d : Nat) (g : DirInfo → DirInfo) : (s.modDir d g).clusters = s.clusters := rfl
@[simp] theorem State.modDir_health (d : Nat) (g : DirInfo → DirInfo) : (s.modDir d g).health = s.health := rfl
@[simp] theorem State.modDir_host (d : Nat) (g : DirInfo → DirInfo) : (s.modDir d g).host = s.host := rfl
@[simp] theorem State.modDir_out (d : Nat) (g : DirInfo → DirInfo) : (s.modDir d g).out = s.out := rfl
@[simp] theorem State.modDir_pending (d : Nat) (g : DirInfo → DirInfo) : (s.modDir d g).pending = s.pending := rfl
@[simp] theorem State.modDir_freeCtr (d : Nat) (g : DirInfo → DirInfo) : (s.modDir d g).freeCtr = s.freeCtr := rfl

@[simp] theorem State.modMem_regs (g : MemUnit → MemUnit) : (s.modMem g).regs = s.regs := rfl
@[simp] theorem State.modMem_power (g : MemUnit → MemUnit) : (s.modMem g).power = s.power := rfl
@[simp] theorem State.modMem_rose (g : MemUnit → MemUnit) : (s.modMem g).rose = s.rose := rfl
@[simp] theorem State.modMem_windowArmed (g : MemUnit → MemUnit) : (s.modMem g).windowArmed = s.windowArmed := rfl
@[simp] theorem State.modMem_bell (g : MemUnit → MemUnit) : (s.modMem g).bell = s.bell := rfl
@[simp] theorem State.modMem_watch (g : MemUnit → MemUnit) : (s.modMem g).watch = s.watch := rfl
@[simp] theorem State.modMem_sw (g : MemUnit → MemUnit) : (s.modMem g).sw = s.sw := rfl
@[simp] theorem State.modMem_lanes (g : MemUnit → MemUnit) : (s.modMem g).lanes = s.lanes := rfl
@[simp] theorem State.modMem_tally (g : MemUnit → MemUnit) : (s.modMem g).tally = s.tally := rfl
@[simp] theorem State.modMem_stays (g : MemUnit → MemUnit) : (s.modMem g).stays = s.stays := rfl
@[simp] theorem State.modMem_clusters (g : MemUnit → MemUnit) : (s.modMem g).clusters = s.clusters := rfl
@[simp] theorem State.modMem_health (g : MemUnit → MemUnit) : (s.modMem g).health = s.health := rfl
@[simp] theorem State.modMem_host (g : MemUnit → MemUnit) : (s.modMem g).host = s.host := rfl
@[simp] theorem State.modMem_out (g : MemUnit → MemUnit) : (s.modMem g).out = s.out := rfl
@[simp] theorem State.modMem_pending (g : MemUnit → MemUnit) : (s.modMem g).pending = s.pending := rfl
@[simp] theorem State.modMem_freeCtr (g : MemUnit → MemUnit) : (s.modMem g).freeCtr = s.freeCtr := rfl

@[simp] theorem State.modStays_regs (g : StayUnit → StayUnit) : (s.modStays g).regs = s.regs := rfl
@[simp] theorem State.modStays_power (g : StayUnit → StayUnit) : (s.modStays g).power = s.power := rfl
@[simp] theorem State.modStays_rose (g : StayUnit → StayUnit) : (s.modStays g).rose = s.rose := rfl
@[simp] theorem State.modStays_windowArmed (g : StayUnit → StayUnit) : (s.modStays g).windowArmed = s.windowArmed := rfl
@[simp] theorem State.modStays_bell (g : StayUnit → StayUnit) : (s.modStays g).bell = s.bell := rfl
@[simp] theorem State.modStays_watch (g : StayUnit → StayUnit) : (s.modStays g).watch = s.watch := rfl
@[simp] theorem State.modStays_sw (g : StayUnit → StayUnit) : (s.modStays g).sw = s.sw := rfl
@[simp] theorem State.modStays_lanes (g : StayUnit → StayUnit) : (s.modStays g).lanes = s.lanes := rfl
@[simp] theorem State.modStays_tally (g : StayUnit → StayUnit) : (s.modStays g).tally = s.tally := rfl
@[simp] theorem State.modStays_mem (g : StayUnit → StayUnit) : (s.modStays g).mem = s.mem := rfl
@[simp] theorem State.modStays_clusters (g : StayUnit → StayUnit) : (s.modStays g).clusters = s.clusters := rfl
@[simp] theorem State.modStays_health (g : StayUnit → StayUnit) : (s.modStays g).health = s.health := rfl
@[simp] theorem State.modStays_host (g : StayUnit → StayUnit) : (s.modStays g).host = s.host := rfl
@[simp] theorem State.modStays_out (g : StayUnit → StayUnit) : (s.modStays g).out = s.out := rfl
@[simp] theorem State.modStays_pending (g : StayUnit → StayUnit) : (s.modStays g).pending = s.pending := rfl
@[simp] theorem State.modStays_freeCtr (g : StayUnit → StayUnit) : (s.modStays g).freeCtr = s.freeCtr := rfl

@[simp] theorem State.modHost_regs (g : HostUnit → HostUnit) : (s.modHost g).regs = s.regs := rfl
@[simp] theorem State.modHost_power (g : HostUnit → HostUnit) : (s.modHost g).power = s.power := rfl
@[simp] theorem State.modHost_rose (g : HostUnit → HostUnit) : (s.modHost g).rose = s.rose := rfl
@[simp] theorem State.modHost_windowArmed (g : HostUnit → HostUnit) : (s.modHost g).windowArmed = s.windowArmed := rfl
@[simp] theorem State.modHost_bell (g : HostUnit → HostUnit) : (s.modHost g).bell = s.bell := rfl
@[simp] theorem State.modHost_watch (g : HostUnit → HostUnit) : (s.modHost g).watch = s.watch := rfl
@[simp] theorem State.modHost_sw (g : HostUnit → HostUnit) : (s.modHost g).sw = s.sw := rfl
@[simp] theorem State.modHost_lanes (g : HostUnit → HostUnit) : (s.modHost g).lanes = s.lanes := rfl
@[simp] theorem State.modHost_tally (g : HostUnit → HostUnit) : (s.modHost g).tally = s.tally := rfl
@[simp] theorem State.modHost_mem (g : HostUnit → HostUnit) : (s.modHost g).mem = s.mem := rfl
@[simp] theorem State.modHost_stays (g : HostUnit → HostUnit) : (s.modHost g).stays = s.stays := rfl
@[simp] theorem State.modHost_clusters (g : HostUnit → HostUnit) : (s.modHost g).clusters = s.clusters := rfl
@[simp] theorem State.modHost_health (g : HostUnit → HostUnit) : (s.modHost g).health = s.health := rfl
@[simp] theorem State.modHost_out (g : HostUnit → HostUnit) : (s.modHost g).out = s.out := rfl
@[simp] theorem State.modHost_pending (g : HostUnit → HostUnit) : (s.modHost g).pending = s.pending := rfl
@[simp] theorem State.modHost_freeCtr (g : HostUnit → HostUnit) : (s.modHost g).freeCtr = s.freeCtr := rfl

@[simp] theorem State.modClusters_regs (g : Clusters → Clusters) : (s.modClusters g).regs = s.regs := rfl
@[simp] theorem State.modClusters_power (g : Clusters → Clusters) : (s.modClusters g).power = s.power := rfl
@[simp] theorem State.modClusters_rose (g : Clusters → Clusters) : (s.modClusters g).rose = s.rose := rfl
@[simp] theorem State.modClusters_windowArmed (g : Clusters → Clusters) : (s.modClusters g).windowArmed = s.windowArmed := rfl
@[simp] theorem State.modClusters_bell (g : Clusters → Clusters) : (s.modClusters g).bell = s.bell := rfl
@[simp] theorem State.modClusters_watch (g : Clusters → Clusters) : (s.modClusters g).watch = s.watch := rfl
@[simp] theorem State.modClusters_sw (g : Clusters → Clusters) : (s.modClusters g).sw = s.sw := rfl
@[simp] theorem State.modClusters_lanes (g : Clusters → Clusters) : (s.modClusters g).lanes = s.lanes := rfl
@[simp] theorem State.modClusters_tally (g : Clusters → Clusters) : (s.modClusters g).tally = s.tally := rfl
@[simp] theorem State.modClusters_mem (g : Clusters → Clusters) : (s.modClusters g).mem = s.mem := rfl
@[simp] theorem State.modClusters_stays (g : Clusters → Clusters) : (s.modClusters g).stays = s.stays := rfl
@[simp] theorem State.modClusters_health (g : Clusters → Clusters) : (s.modClusters g).health = s.health := rfl
@[simp] theorem State.modClusters_host (g : Clusters → Clusters) : (s.modClusters g).host = s.host := rfl
@[simp] theorem State.modClusters_out (g : Clusters → Clusters) : (s.modClusters g).out = s.out := rfl
@[simp] theorem State.modClusters_pending (g : Clusters → Clusters) : (s.modClusters g).pending = s.pending := rfl
@[simp] theorem State.modClusters_freeCtr (g : Clusters → Clusters) : (s.modClusters g).freeCtr = s.freeCtr := rfl

@[simp] theorem State.modCore_regs (c : Nat) (g : Core → Core) : (s.modCore c g).regs = s.regs := rfl
@[simp] theorem State.modCore_power (c : Nat) (g : Core → Core) : (s.modCore c g).power = s.power := rfl
@[simp] theorem State.modCore_rose (c : Nat) (g : Core → Core) : (s.modCore c g).rose = s.rose := rfl
@[simp] theorem State.modCore_windowArmed (c : Nat) (g : Core → Core) : (s.modCore c g).windowArmed = s.windowArmed := rfl
@[simp] theorem State.modCore_bell (c : Nat) (g : Core → Core) : (s.modCore c g).bell = s.bell := rfl
@[simp] theorem State.modCore_watch (c : Nat) (g : Core → Core) : (s.modCore c g).watch = s.watch := rfl
@[simp] theorem State.modCore_sw (c : Nat) (g : Core → Core) : (s.modCore c g).sw = s.sw := rfl
@[simp] theorem State.modCore_lanes (c : Nat) (g : Core → Core) : (s.modCore c g).lanes = s.lanes := rfl
@[simp] theorem State.modCore_tally (c : Nat) (g : Core → Core) : (s.modCore c g).tally = s.tally := rfl
@[simp] theorem State.modCore_mem (c : Nat) (g : Core → Core) : (s.modCore c g).mem = s.mem := rfl
@[simp] theorem State.modCore_stays (c : Nat) (g : Core → Core) : (s.modCore c g).stays = s.stays := rfl
@[simp] theorem State.modCore_health (c : Nat) (g : Core → Core) : (s.modCore c g).health = s.health := rfl
@[simp] theorem State.modCore_host (c : Nat) (g : Core → Core) : (s.modCore c g).host = s.host := rfl
@[simp] theorem State.modCore_out (c : Nat) (g : Core → Core) : (s.modCore c g).out = s.out := rfl
@[simp] theorem State.modCore_pending (c : Nat) (g : Core → Core) : (s.modCore c g).pending = s.pending := rfl
@[simp] theorem State.modCore_freeCtr (c : Nat) (g : Core → Core) : (s.modCore c g).freeCtr = s.freeCtr := rfl

@[simp] theorem State.modSlot_regs (c n : Nat) (g : Slot → Slot) : (s.modSlot c n g).regs = s.regs := rfl
@[simp] theorem State.modSlot_power (c n : Nat) (g : Slot → Slot) : (s.modSlot c n g).power = s.power := rfl
@[simp] theorem State.modSlot_rose (c n : Nat) (g : Slot → Slot) : (s.modSlot c n g).rose = s.rose := rfl
@[simp] theorem State.modSlot_windowArmed (c n : Nat) (g : Slot → Slot) : (s.modSlot c n g).windowArmed = s.windowArmed := rfl
@[simp] theorem State.modSlot_bell (c n : Nat) (g : Slot → Slot) : (s.modSlot c n g).bell = s.bell := rfl
@[simp] theorem State.modSlot_watch (c n : Nat) (g : Slot → Slot) : (s.modSlot c n g).watch = s.watch := rfl
@[simp] theorem State.modSlot_sw (c n : Nat) (g : Slot → Slot) : (s.modSlot c n g).sw = s.sw := rfl
@[simp] theorem State.modSlot_lanes (c n : Nat) (g : Slot → Slot) : (s.modSlot c n g).lanes = s.lanes := rfl
@[simp] theorem State.modSlot_tally (c n : Nat) (g : Slot → Slot) : (s.modSlot c n g).tally = s.tally := rfl
@[simp] theorem State.modSlot_mem (c n : Nat) (g : Slot → Slot) : (s.modSlot c n g).mem = s.mem := rfl
@[simp] theorem State.modSlot_stays (c n : Nat) (g : Slot → Slot) : (s.modSlot c n g).stays = s.stays := rfl
@[simp] theorem State.modSlot_health (c n : Nat) (g : Slot → Slot) : (s.modSlot c n g).health = s.health := rfl
@[simp] theorem State.modSlot_host (c n : Nat) (g : Slot → Slot) : (s.modSlot c n g).host = s.host := rfl
@[simp] theorem State.modSlot_out (c n : Nat) (g : Slot → Slot) : (s.modSlot c n g).out = s.out := rfl
@[simp] theorem State.modSlot_pending (c n : Nat) (g : Slot → Slot) : (s.modSlot c n g).pending = s.pending := rfl
@[simp] theorem State.modSlot_freeCtr (c n : Nat) (g : Slot → Slot) : (s.modSlot c n g).freeCtr = s.freeCtr := rfl

@[simp] theorem State.modLaunch_regs (c : Nat) (g : Launch → Launch) : (s.modLaunch c g).regs = s.regs := rfl
@[simp] theorem State.modLaunch_power (c : Nat) (g : Launch → Launch) : (s.modLaunch c g).power = s.power := rfl
@[simp] theorem State.modLaunch_rose (c : Nat) (g : Launch → Launch) : (s.modLaunch c g).rose = s.rose := rfl
@[simp] theorem State.modLaunch_windowArmed (c : Nat) (g : Launch → Launch) : (s.modLaunch c g).windowArmed = s.windowArmed := rfl
@[simp] theorem State.modLaunch_bell (c : Nat) (g : Launch → Launch) : (s.modLaunch c g).bell = s.bell := rfl
@[simp] theorem State.modLaunch_watch (c : Nat) (g : Launch → Launch) : (s.modLaunch c g).watch = s.watch := rfl
@[simp] theorem State.modLaunch_sw (c : Nat) (g : Launch → Launch) : (s.modLaunch c g).sw = s.sw := rfl
@[simp] theorem State.modLaunch_lanes (c : Nat) (g : Launch → Launch) : (s.modLaunch c g).lanes = s.lanes := rfl
@[simp] theorem State.modLaunch_tally (c : Nat) (g : Launch → Launch) : (s.modLaunch c g).tally = s.tally := rfl
@[simp] theorem State.modLaunch_mem (c : Nat) (g : Launch → Launch) : (s.modLaunch c g).mem = s.mem := rfl
@[simp] theorem State.modLaunch_stays (c : Nat) (g : Launch → Launch) : (s.modLaunch c g).stays = s.stays := rfl
@[simp] theorem State.modLaunch_health (c : Nat) (g : Launch → Launch) : (s.modLaunch c g).health = s.health := rfl
@[simp] theorem State.modLaunch_host (c : Nat) (g : Launch → Launch) : (s.modLaunch c g).host = s.host := rfl
@[simp] theorem State.modLaunch_out (c : Nat) (g : Launch → Launch) : (s.modLaunch c g).out = s.out := rfl
@[simp] theorem State.modLaunch_pending (c : Nat) (g : Launch → Launch) : (s.modLaunch c g).pending = s.pending := rfl
@[simp] theorem State.modLaunch_freeCtr (c : Nat) (g : Launch → Launch) : (s.modLaunch c g).freeCtr = s.freeCtr := rfl

@[simp] theorem State.modHealth_regs (g : Health → Health) : (s.modHealth g).regs = s.regs := rfl
@[simp] theorem State.modHealth_power (g : Health → Health) : (s.modHealth g).power = s.power := rfl
@[simp] theorem State.modHealth_rose (g : Health → Health) : (s.modHealth g).rose = s.rose := rfl
@[simp] theorem State.modHealth_windowArmed (g : Health → Health) : (s.modHealth g).windowArmed = s.windowArmed := rfl
@[simp] theorem State.modHealth_bell (g : Health → Health) : (s.modHealth g).bell = s.bell := rfl
@[simp] theorem State.modHealth_watch (g : Health → Health) : (s.modHealth g).watch = s.watch := rfl
@[simp] theorem State.modHealth_sw (g : Health → Health) : (s.modHealth g).sw = s.sw := rfl
@[simp] theorem State.modHealth_lanes (g : Health → Health) : (s.modHealth g).lanes = s.lanes := rfl
@[simp] theorem State.modHealth_tally (g : Health → Health) : (s.modHealth g).tally = s.tally := rfl
@[simp] theorem State.modHealth_mem (g : Health → Health) : (s.modHealth g).mem = s.mem := rfl
@[simp] theorem State.modHealth_stays (g : Health → Health) : (s.modHealth g).stays = s.stays := rfl
@[simp] theorem State.modHealth_clusters (g : Health → Health) : (s.modHealth g).clusters = s.clusters := rfl
@[simp] theorem State.modHealth_host (g : Health → Health) : (s.modHealth g).host = s.host := rfl
@[simp] theorem State.modHealth_out (g : Health → Health) : (s.modHealth g).out = s.out := rfl
@[simp] theorem State.modHealth_pending (g : Health → Health) : (s.modHealth g).pending = s.pending := rfl
@[simp] theorem State.modHealth_freeCtr (g : Health → Health) : (s.modHealth g).freeCtr = s.freeCtr := rfl

@[simp] theorem State.msix_regs (v : Nat) : (s.msix v).regs = s.regs := by unfold State.msix; split <;> rfl
@[simp] theorem State.msix_power (v : Nat) : (s.msix v).power = s.power := by unfold State.msix; split <;> rfl
@[simp] theorem State.msix_rose (v : Nat) : (s.msix v).rose = s.rose := by unfold State.msix; split <;> rfl
@[simp] theorem State.msix_windowArmed (v : Nat) : (s.msix v).windowArmed = s.windowArmed := by unfold State.msix; split <;> rfl
@[simp] theorem State.msix_bell (v : Nat) : (s.msix v).bell = s.bell := by unfold State.msix; split <;> rfl
@[simp] theorem State.msix_watch (v : Nat) : (s.msix v).watch = s.watch := by unfold State.msix; split <;> rfl
@[simp] theorem State.msix_sw (v : Nat) : (s.msix v).sw = s.sw := by unfold State.msix; split <;> rfl
@[simp] theorem State.msix_lanes (v : Nat) : (s.msix v).lanes = s.lanes := by unfold State.msix; split <;> rfl
@[simp] theorem State.msix_tally (v : Nat) : (s.msix v).tally = s.tally := by unfold State.msix; split <;> rfl
@[simp] theorem State.msix_mem (v : Nat) : (s.msix v).mem = s.mem := by unfold State.msix; split <;> rfl
@[simp] theorem State.msix_stays (v : Nat) : (s.msix v).stays = s.stays := by unfold State.msix; split <;> rfl
@[simp] theorem State.msix_clusters (v : Nat) : (s.msix v).clusters = s.clusters := by unfold State.msix; split <;> rfl
@[simp] theorem State.msix_health (v : Nat) : (s.msix v).health = s.health := by unfold State.msix; split <;> rfl
@[simp] theorem State.msix_host (v : Nat) : (s.msix v).host = s.host := by unfold State.msix; split <;> rfl
@[simp] theorem State.msix_pending (v : Nat) : (s.msix v).pending = s.pending := by unfold State.msix; split <;> rfl
@[simp] theorem State.msix_freeCtr (v : Nat) : (s.msix v).freeCtr = s.freeCtr := by unfold State.msix; split <;> rfl


@[simp] theorem State.countChoice_power (k : Nat) : (s.countChoice k).power = s.power := by unfold State.countChoice; dsimp only; (repeat' split) <;> rfl
@[simp] theorem State.countChoice_bell (k : Nat) : (s.countChoice k).bell = s.bell := by unfold State.countChoice; dsimp only; (repeat' split) <;> rfl
@[simp] theorem State.countChoice_watch (k : Nat) : (s.countChoice k).watch = s.watch := by unfold State.countChoice; dsimp only; (repeat' split) <;> rfl
@[simp] theorem State.countChoice_sw (k : Nat) : (s.countChoice k).sw = s.sw := by unfold State.countChoice; dsimp only; (repeat' split) <;> rfl
@[simp] theorem State.countChoice_lanes (k : Nat) : (s.countChoice k).lanes = s.lanes := by unfold State.countChoice; dsimp only; (repeat' split) <;> rfl
@[simp] theorem State.countChoice_tally (k : Nat) : (s.countChoice k).tally = s.tally := by unfold State.countChoice; dsimp only; (repeat' split) <;> rfl
@[simp] theorem State.countChoice_mem (k : Nat) : (s.countChoice k).mem = s.mem := by unfold State.countChoice; dsimp only; (repeat' split) <;> rfl
@[simp] theorem State.countChoice_stays (k : Nat) : (s.countChoice k).stays = s.stays := by unfold State.countChoice; dsimp only; (repeat' split) <;> rfl
@[simp] theorem State.countChoice_clusters (k : Nat) : (s.countChoice k).clusters = s.clusters := by unfold State.countChoice; dsimp only; (repeat' split) <;> rfl
@[simp] theorem State.countChoice_health (k : Nat) : (s.countChoice k).health = s.health := by unfold State.countChoice; dsimp only; (repeat' split) <;> rfl
@[simp] theorem State.countChoice_host (k : Nat) : (s.countChoice k).host = s.host := by unfold State.countChoice; dsimp only; (repeat' split) <;> rfl
@[simp] theorem State.countChoice_out (k : Nat) : (s.countChoice k).out = s.out := by unfold State.countChoice; dsimp only; (repeat' split) <;> rfl
@[simp] theorem State.countChoice_pending (k : Nat) : (s.countChoice k).pending = s.pending := by unfold State.countChoice; dsimp only; (repeat' split) <;> rfl
@[simp] theorem State.countChoice_freeCtr (k : Nat) : (s.countChoice k).freeCtr = s.freeCtr := by unfold State.countChoice; dsimp only; (repeat' split) <;> rfl
@[simp] theorem State.countChoice_windowArmed (k : Nat) : (s.countChoice k).windowArmed = s.windowArmed := by
  unfold State.countChoice; dsimp only; (repeat' split) <;> rfl

@[simp] theorem State.openWindow_power : s.openWindow.power = s.power := by unfold State.openWindow; dsimp only; split <;> simp [List.range, List.range.loop]
@[simp] theorem State.openWindow_bell : s.openWindow.bell = s.bell := by unfold State.openWindow; dsimp only; split <;> simp [List.range, List.range.loop]
@[simp] theorem State.openWindow_watch : s.openWindow.watch = s.watch := by unfold State.openWindow; dsimp only; split <;> simp [List.range, List.range.loop]
@[simp] theorem State.openWindow_sw : s.openWindow.sw = s.sw := by unfold State.openWindow; dsimp only; split <;> simp [List.range, List.range.loop]
@[simp] theorem State.openWindow_lanes : s.openWindow.lanes = s.lanes := by unfold State.openWindow; dsimp only; split <;> simp [List.range, List.range.loop]
@[simp] theorem State.openWindow_tally : s.openWindow.tally = s.tally := by unfold State.openWindow; dsimp only; split <;> simp [List.range, List.range.loop]
@[simp] theorem State.openWindow_mem : s.openWindow.mem = s.mem := by unfold State.openWindow; dsimp only; split <;> simp [List.range, List.range.loop]
@[simp] theorem State.openWindow_stays : s.openWindow.stays = s.stays := by unfold State.openWindow; dsimp only; split <;> simp [List.range, List.range.loop]
@[simp] theorem State.openWindow_clusters : s.openWindow.clusters = s.clusters := by unfold State.openWindow; dsimp only; split <;> simp [List.range, List.range.loop]
@[simp] theorem State.openWindow_health : s.openWindow.health = s.health := by unfold State.openWindow; dsimp only; split <;> simp [List.range, List.range.loop]
@[simp] theorem State.openWindow_host : s.openWindow.host = s.host := by unfold State.openWindow; dsimp only; split <;> simp [List.range, List.range.loop]
@[simp] theorem State.openWindow_out : s.openWindow.out = s.out := by unfold State.openWindow; dsimp only; split <;> simp [List.range, List.range.loop]
@[simp] theorem State.openWindow_pending : s.openWindow.pending = s.pending := by unfold State.openWindow; dsimp only; split <;> simp [List.range, List.range.loop]
@[simp] theorem State.openWindow_freeCtr : s.openWindow.freeCtr = s.freeCtr := by unfold State.openWindow; dsimp only; split <;> simp [List.range, List.range.loop]

@[simp] theorem State.choice_power (k : Nat) : (s.choice k).power = s.power := by unfold State.choice; split <;> simp
@[simp] theorem State.choice_bell (k : Nat) : (s.choice k).bell = s.bell := by unfold State.choice; split <;> simp
@[simp] theorem State.choice_watch (k : Nat) : (s.choice k).watch = s.watch := by unfold State.choice; split <;> simp
@[simp] theorem State.choice_sw (k : Nat) : (s.choice k).sw = s.sw := by unfold State.choice; split <;> simp
@[simp] theorem State.choice_lanes (k : Nat) : (s.choice k).lanes = s.lanes := by unfold State.choice; split <;> simp
@[simp] theorem State.choice_tally (k : Nat) : (s.choice k).tally = s.tally := by unfold State.choice; split <;> simp
@[simp] theorem State.choice_mem (k : Nat) : (s.choice k).mem = s.mem := by unfold State.choice; split <;> simp
@[simp] theorem State.choice_stays (k : Nat) : (s.choice k).stays = s.stays := by unfold State.choice; split <;> simp
@[simp] theorem State.choice_clusters (k : Nat) : (s.choice k).clusters = s.clusters := by unfold State.choice; split <;> simp
@[simp] theorem State.choice_health (k : Nat) : (s.choice k).health = s.health := by unfold State.choice; split <;> simp
@[simp] theorem State.choice_host (k : Nat) : (s.choice k).host = s.host := by unfold State.choice; split <;> simp
@[simp] theorem State.choice_out (k : Nat) : (s.choice k).out = s.out := by unfold State.choice; split <;> simp
@[simp] theorem State.choice_pending (k : Nat) : (s.choice k).pending = s.pending := by unfold State.choice; split <;> simp
@[simp] theorem State.choice_freeCtr (k : Nat) : (s.choice k).freeCtr = s.freeCtr := by unfold State.choice; split <;> simp

@[simp] theorem State.setPhase_windowArmed (p : Nat) : (s.setPhase p).windowArmed = s.windowArmed := by unfold State.setPhase; split <;> simp
@[simp] theorem State.setPhase_bell (p : Nat) : (s.setPhase p).bell = s.bell := by unfold State.setPhase; split <;> simp
@[simp] theorem State.setPhase_watch (p : Nat) : (s.setPhase p).watch = s.watch := by unfold State.setPhase; split <;> simp
@[simp] theorem State.setPhase_sw (p : Nat) : (s.setPhase p).sw = s.sw := by unfold State.setPhase; split <;> simp
@[simp] theorem State.setPhase_lanes (p : Nat) : (s.setPhase p).lanes = s.lanes := by unfold State.setPhase; split <;> simp
@[simp] theorem State.setPhase_tally (p : Nat) : (s.setPhase p).tally = s.tally := by unfold State.setPhase; split <;> simp
@[simp] theorem State.setPhase_mem (p : Nat) : (s.setPhase p).mem = s.mem := by unfold State.setPhase; split <;> simp
@[simp] theorem State.setPhase_stays (p : Nat) : (s.setPhase p).stays = s.stays := by unfold State.setPhase; split <;> simp
@[simp] theorem State.setPhase_clusters (p : Nat) : (s.setPhase p).clusters = s.clusters := by unfold State.setPhase; split <;> simp
@[simp] theorem State.setPhase_health (p : Nat) : (s.setPhase p).health = s.health := by unfold State.setPhase; split <;> simp
@[simp] theorem State.setPhase_host (p : Nat) : (s.setPhase p).host = s.host := by unfold State.setPhase; split <;> simp
@[simp] theorem State.setPhase_pending (p : Nat) : (s.setPhase p).pending = s.pending := by unfold State.setPhase; split <;> simp
@[simp] theorem State.setPhase_freeCtr (p : Nat) : (s.setPhase p).freeCtr = s.freeCtr := by unfold State.setPhase; split <;> simp

/-! ### Registers through updates of other fields -/

@[simp] theorem State.sentFrame_reg (p : Nat) (f : Frame) (b : Bool) (o : Nat) : (s.sentFrame p f b).reg o = s.reg o := rfl
@[simp] theorem State.sentFrame_fld (p : Nat) (f : Frame) (b : Bool) (h : Fld) : (s.sentFrame p f b).fld h = s.fld h := rfl
@[simp] theorem State.sentFrame_flag (p : Nat) (f : Frame) (b : Bool) (h : Fld) : (s.sentFrame p f b).flag h = s.flag h := rfl

@[simp] theorem State.sentEth_reg (p : Nat) (l : List Byte) (b : Bool) (o : Nat) : (s.sentEth p l b).reg o = s.reg o := rfl
@[simp] theorem State.sentEth_fld (p : Nat) (l : List Byte) (b : Bool) (h : Fld) : (s.sentEth p l b).fld h = s.fld h := rfl
@[simp] theorem State.sentEth_flag (p : Nat) (l : List Byte) (b : Bool) (h : Fld) : (s.sentEth p l b).flag h = s.flag h := rfl

@[simp] theorem State.sentCtrl_reg (p : Nat) (b : CtrlBlock) (o : Nat) : (s.sentCtrl p b).reg o = s.reg o := rfl
@[simp] theorem State.sentCtrl_fld (p : Nat) (b : CtrlBlock) (h : Fld) : (s.sentCtrl p b).fld h = s.fld h := rfl
@[simp] theorem State.sentCtrl_flag (p : Nat) (b : CtrlBlock) (h : Fld) : (s.sentCtrl p b).flag h = s.flag h := rfl

@[simp] theorem State.sentMctp_reg (l : List Byte) (o : Nat) : (s.sentMctp l).reg o = s.reg o := rfl
@[simp] theorem State.sentMctp_fld (l : List Byte) (h : Fld) : (s.sentMctp l).fld h = s.fld h := rfl
@[simp] theorem State.sentMctp_flag (l : List Byte) (h : Fld) : (s.sentMctp l).flag h = s.flag h := rfl

@[simp] theorem State.mctpReply_reg (a b : Nat) (l : List Byte) (o : Nat) : (s.mctpReply a b l).reg o = s.reg o := rfl
@[simp] theorem State.mctpReply_fld (a b : Nat) (l : List Byte) (h : Fld) : (s.mctpReply a b l).fld h = s.fld h := rfl
@[simp] theorem State.mctpReply_flag (a b : Nat) (l : List Byte) (h : Fld) : (s.mctpReply a b l).flag h = s.flag h := rfl

@[simp] theorem State.nextFree_reg (o : Nat) : (s.nextFree ).reg o = s.reg o := rfl
@[simp] theorem State.nextFree_fld (h : Fld) : (s.nextFree ).fld h = s.fld h := rfl
@[simp] theorem State.nextFree_flag (h : Fld) : (s.nextFree ).flag h = s.flag h := rfl

@[simp] theorem State.skipFree_reg (n : Nat) (o : Nat) : (s.skipFree n).reg o = s.reg o := rfl
@[simp] theorem State.skipFree_fld (n : Nat) (h : Fld) : (s.skipFree n).fld h = s.fld h := rfl
@[simp] theorem State.skipFree_flag (n : Nat) (h : Fld) : (s.skipFree n).flag h = s.flag h := rfl

@[simp] theorem State.modOut_reg (g : Output → Output) (o : Nat) : (s.modOut g).reg o = s.reg o := rfl
@[simp] theorem State.modOut_fld (g : Output → Output) (h : Fld) : (s.modOut g).fld h = s.fld h := rfl
@[simp] theorem State.modOut_flag (g : Output → Output) (h : Fld) : (s.modOut g).flag h = s.flag h := rfl

@[simp] theorem State.modPower_reg (g : Power → Power) (o : Nat) : (s.modPower g).reg o = s.reg o := rfl
@[simp] theorem State.modPower_fld (g : Power → Power) (h : Fld) : (s.modPower g).fld h = s.fld h := rfl
@[simp] theorem State.modPower_flag (g : Power → Power) (h : Fld) : (s.modPower g).flag h = s.flag h := rfl

@[simp] theorem State.modWatch_reg (g : WatchQ → WatchQ) (o : Nat) : (s.modWatch g).reg o = s.reg o := rfl
@[simp] theorem State.modWatch_fld (g : WatchQ → WatchQ) (h : Fld) : (s.modWatch g).fld h = s.fld h := rfl
@[simp] theorem State.modWatch_flag (g : WatchQ → WatchQ) (h : Fld) : (s.modWatch g).flag h = s.flag h := rfl

@[simp] theorem State.modTally_reg (g : Tally → Tally) (o : Nat) : (s.modTally g).reg o = s.reg o := rfl
@[simp] theorem State.modTally_fld (g : Tally → Tally) (h : Fld) : (s.modTally g).fld h = s.fld h := rfl
@[simp] theorem State.modTally_flag (g : Tally → Tally) (h : Fld) : (s.modTally g).flag h = s.flag h := rfl

@[simp] theorem State.modPort_reg (p : Nat) (g : PortCtl → PortCtl) (o : Nat) : (s.modPort p g).reg o = s.reg o := rfl
@[simp] theorem State.modPort_fld (p : Nat) (g : PortCtl → PortCtl) (h : Fld) : (s.modPort p g).fld h = s.fld h := rfl
@[simp] theorem State.modPort_flag (p : Nat) (g : PortCtl → PortCtl) (h : Fld) : (s.modPort p g).flag h = s.flag h := rfl

@[simp] theorem State.modSw_reg (g : Switch → Switch) (o : Nat) : (s.modSw g).reg o = s.reg o := rfl
@[simp] theorem State.modSw_fld (g : Switch → Switch) (h : Fld) : (s.modSw g).fld h = s.fld h := rfl
@[simp] theorem State.modSw_flag (g : Switch → Switch) (h : Fld) : (s.modSw g).flag h = s.flag h := rfl

@[simp] theorem State.modBell_reg (g : BellUnit → BellUnit) (o : Nat) : (s.modBell g).reg o = s.reg o := rfl
@[simp] theorem State.modBell_fld (g : BellUnit → BellUnit) (h : Fld) : (s.modBell g).fld h = s.fld h := rfl
@[simp] theorem State.modBell_flag (g : BellUnit → BellUnit) (h : Fld) : (s.modBell g).flag h = s.flag h := rfl

@[simp] theorem State.modDir_reg (d : Nat) (g : DirInfo → DirInfo) (o : Nat) : (s.modDir d g).reg o = s.reg o := rfl
@[simp] theorem State.modDir_fld (d : Nat) (g : DirInfo → DirInfo) (h : Fld) : (s.modDir d g).fld h = s.fld h := rfl
@[simp] theorem State.modDir_flag (d : Nat) (g : DirInfo → DirInfo) (h : Fld) : (s.modDir d g).flag h = s.flag h := rfl

@[simp] theorem State.modMem_reg (g : MemUnit → MemUnit) (o : Nat) : (s.modMem g).reg o = s.reg o := rfl
@[simp] theorem State.modMem_fld (g : MemUnit → MemUnit) (h : Fld) : (s.modMem g).fld h = s.fld h := rfl
@[simp] theorem State.modMem_flag (g : MemUnit → MemUnit) (h : Fld) : (s.modMem g).flag h = s.flag h := rfl

@[simp] theorem State.modStays_reg (g : StayUnit → StayUnit) (o : Nat) : (s.modStays g).reg o = s.reg o := rfl
@[simp] theorem State.modStays_fld (g : StayUnit → StayUnit) (h : Fld) : (s.modStays g).fld h = s.fld h := rfl
@[simp] theorem State.modStays_flag (g : StayUnit → StayUnit) (h : Fld) : (s.modStays g).flag h = s.flag h := rfl

@[simp] theorem State.modHost_reg (g : HostUnit → HostUnit) (o : Nat) : (s.modHost g).reg o = s.reg o := rfl
@[simp] theorem State.modHost_fld (g : HostUnit → HostUnit) (h : Fld) : (s.modHost g).fld h = s.fld h := rfl
@[simp] theorem State.modHost_flag (g : HostUnit → HostUnit) (h : Fld) : (s.modHost g).flag h = s.flag h := rfl

@[simp] theorem State.modClusters_reg (g : Clusters → Clusters) (o : Nat) : (s.modClusters g).reg o = s.reg o := rfl
@[simp] theorem State.modClusters_fld (g : Clusters → Clusters) (h : Fld) : (s.modClusters g).fld h = s.fld h := rfl
@[simp] theorem State.modClusters_flag (g : Clusters → Clusters) (h : Fld) : (s.modClusters g).flag h = s.flag h := rfl

@[simp] theorem State.modCore_reg (c : Nat) (g : Core → Core) (o : Nat) : (s.modCore c g).reg o = s.reg o := rfl
@[simp] theorem State.modCore_fld (c : Nat) (g : Core → Core) (h : Fld) : (s.modCore c g).fld h = s.fld h := rfl
@[simp] theorem State.modCore_flag (c : Nat) (g : Core → Core) (h : Fld) : (s.modCore c g).flag h = s.flag h := rfl

@[simp] theorem State.modSlot_reg (c n : Nat) (g : Slot → Slot) (o : Nat) : (s.modSlot c n g).reg o = s.reg o := rfl
@[simp] theorem State.modSlot_fld (c n : Nat) (g : Slot → Slot) (h : Fld) : (s.modSlot c n g).fld h = s.fld h := rfl
@[simp] theorem State.modSlot_flag (c n : Nat) (g : Slot → Slot) (h : Fld) : (s.modSlot c n g).flag h = s.flag h := rfl

@[simp] theorem State.modLaunch_reg (c : Nat) (g : Launch → Launch) (o : Nat) : (s.modLaunch c g).reg o = s.reg o := rfl
@[simp] theorem State.modLaunch_fld (c : Nat) (g : Launch → Launch) (h : Fld) : (s.modLaunch c g).fld h = s.fld h := rfl
@[simp] theorem State.modLaunch_flag (c : Nat) (g : Launch → Launch) (h : Fld) : (s.modLaunch c g).flag h = s.flag h := rfl

@[simp] theorem State.modHealth_reg (g : Health → Health) (o : Nat) : (s.modHealth g).reg o = s.reg o := rfl
@[simp] theorem State.modHealth_fld (g : Health → Health) (h : Fld) : (s.modHealth g).fld h = s.fld h := rfl
@[simp] theorem State.modHealth_flag (g : Health → Health) (h : Fld) : (s.modHealth g).flag h = s.flag h := rfl

@[simp] theorem State.msix_reg (v o : Nat) : (s.msix v).reg o = s.reg o := by unfold State.msix; split <;> rfl
@[simp] theorem State.msix_fld (v : Nat) (h : Fld) : (s.msix v).fld h = s.fld h := by unfold State.msix; split <;> rfl
@[simp] theorem State.msix_flag (v : Nat) (h : Fld) : (s.msix v).flag h = s.flag h := by unfold State.msix; split <;> rfl

/-! ### Registers and fields after a write -/

@[simp] theorem State.reg_setReg_same (o : Nat) (v : Word) : (s.setReg o v).reg o = v := by
  simp [State.reg, State.setReg]

theorem State.reg_setReg_other {o p : Nat} (v : Word) (h : p ≠ o) : (s.setReg o v).reg p = s.reg p :=
  sparseGet_set_other' h

theorem State.reg_setReg (o p : Nat) (v : Word) : (s.setReg o v).reg p = if p = o then v else s.reg p := by
  by_cases h : p = o
  · simp [h]
  · simp [h, State.reg_setReg_other s v h]

theorem State.reg_setFld_other (f : Fld) (v : Nat) {p : Nat} (h : p ≠ f.off) : (s.setFld f v).reg p = s.reg p :=
  s.reg_setReg_other _ h

theorem State.reg_raise_other (f : Fld) {p : Nat} (h : p ≠ f.off) : (s.raise f).reg p = s.reg p :=
  s.reg_setReg_other _ h

theorem State.reg_count_other {o p : Nat} (h : p ≠ o) : (s.count o).reg p = s.reg p := s.reg_setReg_other _ h

@[simp] theorem State.reg_count_same (o : Nat) : (s.count o).reg o = s.reg o + 1 := s.reg_setReg_same _ _

theorem State.reg_countBy_other {o p : Nat} (n : Nat) (h : p ≠ o) : (s.countBy o n).reg p = s.reg p := s.reg_setReg_other _ h

@[simp] theorem State.reg_countBy_same (o n : Nat) : (s.countBy o n).reg o = s.reg o + BitVec.ofNat 64 n := s.reg_setReg_same _ _

theorem State.reg_setRegBit_other {o p : Nat} (i : Nat) (b : Bool) (h : p ≠ o) : (s.setRegBit o i b).reg p = s.reg p :=
  s.reg_setReg_other _ h

theorem bitsOf_testBit (v hi lo i : Nat) : (bitsOf v hi lo).testBit i = (decide (i < hi + 1 - lo) && v.testBit (lo + i)) := by
  unfold bitsOf
  rw [Nat.testBit_mod_two_pow, Nat.testBit_div_two_pow, Nat.add_comm lo]

theorem placed_getLsbD (v hi lo i : Nat) :
    (placed v hi lo).getLsbD i = (decide (i < 64) && decide (lo ≤ i) && decide (i - lo < hi + 1 - lo) && v.testBit (i - lo)) := by
  unfold placed
  rw [BitVec.getLsbD_ofNat, Nat.mul_comm, Nat.testBit_two_pow_mul, Nat.testBit_mod_two_pow]
  by_cases h : lo ≤ i <;> simp [h, Bool.and_assoc]

theorem testBit_ones (n j : Nat) : (2 ^ n - 1).testBit j = decide (j < n) := by simp

theorem putFld_getLsbD (w : Word) (hi lo v i : Nat) (h : i < 64) :
    (putFld w hi lo v).getLsbD i = if lo ≤ i ∧ i < hi + 1 then v.testBit (i - lo) else w.getLsbD i := by
  unfold putFld
  simp only [BitVec.getLsbD_or, BitVec.getLsbD_and, BitVec.getLsbD_not, placed_getLsbD, testBit_ones, h, decide_true, Bool.true_and]
  by_cases h1 : lo ≤ i
  · by_cases h2 : i < hi + 1
    · have : i - lo < hi + 1 - lo := by omega
      simp [h1, h2, this]
    · have : ¬ i - lo < hi + 1 - lo := by omega
      simp [h1, h2, this]
  · simp [h1]

/-- A field of a word read back after it was put. -/
theorem bitsOf_putFld_same (w : Word) (hi lo v : Nat) (h : hi < 64) :
    bitsOf (putFld w hi lo v).toNat hi lo = v % 2 ^ (hi + 1 - lo) := by
  apply Nat.eq_of_testBit_eq
  intro i
  rw [bitsOf_testBit, Nat.testBit_mod_two_pow]
  by_cases hi' : i < hi + 1 - lo
  · have := putFld_getLsbD w hi lo v (lo + i) (by omega)
    rw [BitVec.getLsbD, if_pos (by omega)] at this
    simp [hi', this]
  · simp [hi']

/-- Putting a field leaves every field beside it as it was. -/
theorem bitsOf_putFld_other (w : Word) (hi lo v hi' lo' : Nat) (h : hi' < lo ∨ hi < lo') (h64 : hi' < 64) :
    bitsOf (putFld w hi lo v).toNat hi' lo' = bitsOf w.toNat hi' lo' := by
  apply Nat.eq_of_testBit_eq
  intro i
  rw [bitsOf_testBit, bitsOf_testBit]
  by_cases hi' : i < hi' + 1 - lo'
  · have := putFld_getLsbD w hi lo v (lo' + i) (by omega)
    rw [BitVec.getLsbD, if_neg (by omega), BitVec.getLsbD] at this
    simp [hi', this]
  · simp [hi']

theorem State.fld_setFld_same (f : Fld) (v : Nat) (h : f.hi < 64) : (s.setFld f v).fld f = v % 2 ^ (f.hi + 1 - f.lo) := by
  simp [State.fld, State.setFld, bitsOf_putFld_same _ _ _ _ h]

theorem State.fld_setFld_off (f g : Fld) (v : Nat) (h : g.off ≠ f.off) : (s.setFld f v).fld g = s.fld g := by
  rw [State.fld, s.reg_setFld_other f v h]; rfl

theorem State.fld_setFld_bits (f g : Fld) (v : Nat) (h : g.hi < f.lo ∨ f.hi < g.lo) (h64 : g.hi < 64) :
    (s.setFld f v).fld g = s.fld g := by
  by_cases ho : g.off = f.off
  · simp [State.fld, State.setFld, ho, bitsOf_putFld_other _ _ _ _ _ _ h h64]
  · exact s.fld_setFld_off f g v ho

/-- Two fields that share no bit of a register. -/
abbrev Fld.apart (f g : Fld) : Prop := g.off ≠ f.off ∨ (g.hi < 64 ∧ (g.hi < f.lo ∨ f.hi < g.lo))

theorem State.fld_setFld_apart (f g : Fld) (v : Nat) (h : f.apart g) : (s.setFld f v).fld g = s.fld g := by
  rcases h with h | h
  · exact s.fld_setFld_off f g v h
  · exact s.fld_setFld_bits f g v h.2 h.1

theorem State.fld_raise_same (f : Fld) (h : f.hi < 64) : (s.raise f).fld f = 1 % 2 ^ (f.hi + 1 - f.lo) := s.fld_setFld_same f 1 h

theorem State.fld_raise_apart (f g : Fld) (h : f.apart g) : (s.raise f).fld g = s.fld g := s.fld_setFld_apart f g 1 h

theorem State.fld_setReg_off (o : Nat) (v : Word) (g : Fld) (h : g.off ≠ o) : (s.setReg o v).fld g = s.fld g := by
  rw [State.fld, s.reg_setReg_other v h]; rfl

theorem State.fld_setReg_same (v : Word) (g : Fld) : (s.setReg g.off v).fld g = bitsOf v.toNat g.hi g.lo := by
  simp [State.fld]

theorem State.fld_count_off (o : Nat) (g : Fld) (h : g.off ≠ o) : (s.count o).fld g = s.fld g := s.fld_setReg_off _ _ g h

theorem State.fld_countBy_off (o n : Nat) (g : Fld) (h : g.off ≠ o) : (s.countBy o n).fld g = s.fld g := s.fld_setReg_off _ _ g h

theorem State.fld_setRegBit_off (o i : Nat) (b : Bool) (g : Fld) (h : g.off ≠ o) : (s.setRegBit o i b).fld g = s.fld g :=
  s.fld_setReg_off _ _ g h

end Sys2Proof.Machine
end

