-- ==== Sys2Proof/Laws/Within.lean ====
section
/-! SUPPORT. `Within`: how it composes, and that every plain update of the state satisfies it. -/

-- One proof at a time: in the package as one text, proofs run side by side would only wait for one another.
set_option Elab.async false

namespace Sys2Proof.Machine

open Sys2Proof

variable {ps qs : List Part} {s t u : State}

theorem Within.refl (ps : List Part) (s : State) : Within ps s s :=
  ⟨fun p _ => by cases p <;> simp [Part.same], rfl, id⟩

theorem Part.same_trans {p : Part} (h : p.same s t) (k : p.same t u) : p.same s u := by
  cases p <;> first
    | exact Eq.trans k h
    | exact ⟨k.1.trans h.1, k.2.1.trans h.2.1, k.2.2.trans h.2.2⟩

/-- One more operation after what is already within the parts. -/
theorem Within.step (hq : ∀ p ∈ qs, p ∈ ps) (h : Within qs t u) (k : Within ps s t) : Within ps s u :=
  ⟨fun p hp => Part.same_trans (k.same p hp) (h.same p (fun hm => hp (hq p hm))), h.pending.trans k.pending, fun c => h.canon (k.canon c)⟩

/-- The same with the operation first: `Within.andThen within_f` peels the last operation `f` off a composition. -/
theorem Within.andThen (h : Within qs t u) (hq : ∀ p ∈ qs, p ∈ ps) (k : Within ps s t) : Within ps s u := Within.step hq h k

theorem Within.mono (hq : ∀ p ∈ qs, p ∈ ps) (h : Within qs s t) : Within ps s t := h.step hq (Within.refl ps s)

theorem Within.foldl {α : Type} {g : State → α → State} (h : ∀ x a, Within ps x (g x a)) (l : List α) (k : Within ps s t) :
    Within ps s (l.foldl g t) := by
  induction l generalizing t with
  | nil => exact k
  | cons a l ih => exact ih ((h t a).step (fun _ hp => hp) k)

theorem Within.foldl_snd {α β : Type} {g : β × State → α → β × State} (h : ∀ x a, Within ps x.2 (g x a).2) (l : List α) {b : β × State}
    (k : Within ps s b.2) : Within ps s (l.foldl g b).2 := by
  induction l generalizing b with
  | nil => exact k
  | cons a l ih => exact ih ((h b a).step (fun _ hp => hp) k)

theorem Within.foldl_fst {α β : Type} {g : State × β → α → State × β} (h : ∀ x a, Within ps x.1 (g x a).1) (l : List α) {b : State × β}
    (k : Within ps s b.1) : Within ps s (l.foldl g b).1 := by
  induction l generalizing b with
  | nil => exact k
  | cons a l ih => exact ih ((h b a).step (fun _ hp => hp) k)

theorem Within.foldl_thd {α β γ : Type} {g : β × γ × State → α → β × γ × State} (h : ∀ x a, Within ps x.2.2 (g x a).2.2) (l : List α)
    {b : β × γ × State} (k : Within ps s b.2.2) : Within ps s (l.foldl g b).2.2 := by
  induction l generalizing b with
  | nil => exact k
  | cons a l ih => exact ih ((h b a).step (fun _ hp => hp) k)

theorem Within.getD {o : Option State} (h : ∀ u, o = some u → Within ps s u) (k : Within ps s t) : Within ps s (o.getD t) := by
  cases o with
  | none => exact k
  | some u => exact h u rfl

theorem Within.of_fst {α : Type} {p : State × α} {a : α} (h : p = (u, a)) (k : Within ps s p.1) : Within ps s u := by
  subst h; exact k

theorem Within.of_snd {α : Type} {p : α × State} {a : α} (h : p = (a, u)) (k : Within ps s p.2) : Within ps s u := by
  subst h; exact k

theorem Within.of_thd {α β : Type} {p : α × β × State} {a : α} {b : β} (h : p = (a, b, u)) (k : Within ps s p.2.2) : Within ps s u := by
  subst h; exact k

theorem Ends.of_next (h : Within ps s t) : Ends ps s (.next t) := by
  intro u hu; cases hu; exact h

theorem Ends.andThen {o : Host.Outcome State Fault Refusal} (h : Ends qs t o) (hq : ∀ p ∈ qs, p ∈ ps) (k : Within ps s t) : Ends ps s o :=
  fun u hu => (h u hu).andThen hq k

/-! ### The state after reset -/

theorem canon_reset : Canon State.reset where
  regs := rfl
  lanes := rfl
  mem := rfl
  table := rfl
  buf := by intro k hk; simp [State.reset, clustersReset] at hk; subst hk; rfl
  turn := by intro k hk; simp [State.reset, clustersReset] at hk; subst hk; rfl
  shared := by intro m hm; simp [State.reset, clustersReset] at hm; subst hm; rfl

/-! ### Plain updates -/

theorem Canon.setReg (c : Canon s) (o : Nat) (v : Word) : Canon (s.setReg o v) := { c with regs := sparseWf_set' c.regs }

theorem within_setReg {o : Nat} {v : Word} : Within [.regs] s (s.setReg o v) :=
  ⟨fun p hp => by cases p <;> first | rfl | exact ⟨rfl, rfl, rfl⟩ | simp at hp, rfl, fun c => c.setReg o v⟩

theorem within_noteSet {o : Nat} {b : Word} : Within [.regs] s (s.noteSet o b) :=
  ⟨fun p hp => by cases p <;> first | rfl | simp at hp, rfl, fun c => { c with }⟩

theorem within_windowArmed {b : Bool} : Within [.regs] s { s with windowArmed := b } :=
  ⟨fun p hp => by cases p <;> first | rfl | simp at hp, rfl, fun c => { c with }⟩

theorem within_setFld {f : Fld} {v : Nat} : Within [.regs] s (s.setFld f v) := within_setReg
theorem within_raise {f : Fld} : Within [.regs] s (s.raise f) := within_noteSet.andThen (fun _ h => h) within_setFld
theorem within_count {o : Nat} : Within [.regs] s (s.count o) := within_setReg
theorem within_countBy {o n : Nat} : Within [.regs] s (s.countBy o n) := within_setReg
theorem within_setRegBit {o i : Nat} {b : Bool} : Within [.regs] s (s.setRegBit o i b) := within_noteSet.andThen (fun _ h => h) within_setReg

theorem within_out {o : Output} : Within [.out] s { s with out := o } :=
  ⟨fun p hp => by cases p <;> first | rfl | exact ⟨rfl, rfl, rfl⟩ | simp at hp, rfl, fun c => { c with }⟩

theorem within_power {o : Power} : Within [.power] s { s with power := o } :=
  ⟨fun p hp => by cases p <;> first | rfl | exact ⟨rfl, rfl, rfl⟩ | simp at hp, rfl, fun c => { c with }⟩

theorem within_bell {o : BellUnit} : Within [.bell] s { s with bell := o } :=
  ⟨fun p hp => by cases p <;> first | rfl | exact ⟨rfl, rfl, rfl⟩ | simp at hp, rfl, fun c => { c with }⟩

theorem within_watch {o : WatchQ} : Within [.watch] s { s with watch := o } :=
  ⟨fun p hp => by cases p <;> first | rfl | exact ⟨rfl, rfl, rfl⟩ | simp at hp, rfl, fun c => { c with }⟩

theorem within_sw {o : Switch} : Within [.sw] s { s with sw := o } :=
  ⟨fun p hp => by cases p <;> first | rfl | exact ⟨rfl, rfl, rfl⟩ | simp at hp, rfl, fun c => { c with }⟩

theorem within_tally {o : Tally} : Within [.tally] s { s with tally := o } :=
  ⟨fun p hp => by cases p <;> first | rfl | exact ⟨rfl, rfl, rfl⟩ | simp at hp, rfl, fun c => { c with }⟩

theorem within_health {o : Health} : Within [.health] s { s with health := o } :=
  ⟨fun p hp => by cases p <;> first | rfl | exact ⟨rfl, rfl, rfl⟩ | simp at hp, rfl, fun c => { c with }⟩

theorem within_host {o : HostUnit} : Within [.host] s { s with host := o } :=
  ⟨fun p hp => by cases p <;> first | rfl | exact ⟨rfl, rfl, rfl⟩ | simp at hp, rfl, fun c => { c with }⟩

theorem within_free {n : Nat} : Within [.free] s { s with freeCtr := n } :=
  ⟨fun p hp => by cases p <;> first | rfl | exact ⟨rfl, rfl, rfl⟩ | simp at hp, rfl, fun c => { c with }⟩

theorem within_mem {o : MemUnit} (h : Memory.wf s.mem = true → Memory.wf o = true) : Within [.mem] s { s with mem := o } :=
  ⟨fun p hp => by cases p <;> first | rfl | exact ⟨rfl, rfl, rfl⟩ | simp at hp, rfl, fun c => { c with mem := h c.mem }⟩

theorem within_stays {o : StayUnit}
    (h : sparseWf (fun _ => freeStay) s.stays.table = true → sparseWf (fun _ => freeStay) o.table = true) :
    Within [.stays] s { s with stays := o } :=
  ⟨fun p hp => by cases p <;> first | rfl | exact ⟨rfl, rfl, rfl⟩ | simp at hp, rfl, fun c => { c with table := h c.table }⟩

theorem within_clusters {o : Clusters} (hb : (∀ k ∈ s.clusters.cores, sparseWf (fun _ => 0) k.buf = true) → ∀ k ∈ o.cores, sparseWf (fun _ => 0) k.buf = true)
    (ht : (∀ k ∈ s.clusters.cores, sparseWf (fun _ => 0) k.turn = true) → ∀ k ∈ o.cores, sparseWf (fun _ => 0) k.turn = true)
    (hs : (∀ m ∈ s.clusters.shared, sparseWf (fun _ => 0) m = true) → ∀ m ∈ o.shared, sparseWf (fun _ => (0 : Byte)) m = true) :
    Within [.clusters] s { s with clusters := o } :=
  ⟨fun p hp => by cases p <;> first | rfl | exact ⟨rfl, rfl, rfl⟩ | simp at hp, rfl, fun c => { c with buf := hb c.buf, turn := ht c.turn, shared := hs c.shared }⟩

theorem within_skipFree {n : Nat} : Within [.free] s (s.skipFree n) := within_free
theorem within_nextFree : Within [.free] s s.nextFree := within_free
theorem within_modOut {g : Output → Output} : Within [.out] s (s.modOut g) := within_out
theorem within_modPower {g : Power → Power} : Within [.power] s (s.modPower g) := within_power
theorem within_modWatch {g : WatchQ → WatchQ} : Within [.watch] s (s.modWatch g) := within_watch
theorem within_modTally {g : Tally → Tally} : Within [.tally] s (s.modTally g) := within_tally
theorem within_sentFrame {p : Nat} {f : Frame} {b : Bool} : Within [.out] s (s.sentFrame p f b) := within_out
theorem within_sentEth {p : Nat} {l : List Byte} {b : Bool} : Within [.out] s (s.sentEth p l b) := within_out
theorem within_sentCtrl {p : Nat} {b : CtrlBlock} : Within [.out] s (s.sentCtrl p b) := within_out
theorem within_sentMctp {l : List Byte} : Within [.out] s (s.sentMctp l) := within_out
theorem within_mctpReply {a b : Nat} {l : List Byte} : Within [.out] s (s.mctpReply a b l) := within_out
theorem within_modSw {g : Switch → Switch} : Within [.sw] s (s.modSw g) := within_sw
theorem within_modBell {g : BellUnit → BellUnit} : Within [.bell] s (s.modBell g) := within_bell
theorem within_modDir {d : Nat} {g : DirInfo → DirInfo} : Within [.bell] s (s.modDir d g) := within_bell
theorem within_modHost {g : HostUnit → HostUnit} : Within [.host] s (s.modHost g) := within_host
theorem within_modHealth {g : Health → Health} : Within [.health] s (s.modHealth g) := within_health

theorem within_modPort {p : Nat} {g : PortCtl → PortCtl} : Within [.lanes] s (s.modPort p g) :=
  ⟨fun p hp => by cases p <;> first | rfl | exact ⟨rfl, rfl, rfl⟩ | simp at hp, rfl, fun c => { c with lanes := sparseWf_set c.lanes }⟩

theorem within_modMem {g : MemUnit → MemUnit} (h : Memory.wf s.mem = true → Memory.wf (g s.mem) = true) : Within [.mem] s (s.modMem g) :=
  within_mem h

/-- A change of the memory unit beside its bytes and its poison. -/
theorem within_modMem' {g : MemUnit → MemUnit} (h : ∀ m, (g m).bytes = m.bytes ∧ (g m).poison = m.poison) : Within [.mem] s (s.modMem g) :=
  within_mem (fun w => by simpa [Memory.wf, h] using w)

/-- A change of the stays unit beside its table. -/
theorem within_modStays {g : StayUnit → StayUnit} (h : ∀ u, (g u).table = u.table) : Within [.stays] s (s.modStays g) :=
  within_stays (fun w => by simpa [h] using w)

theorem mem_modifyAt {α : Type} {f : α → α} {i : Nat} {l : List α} {x : α} (h : x ∈ modifyAt f i l) : x ∈ l ∨ ∃ y ∈ l, x = f y := by
  induction l generalizing i with
  | nil => simp [modifyAt] at h
  | cons a l ih =>
    cases i with
    | zero =>
      rcases List.mem_cons.1 h with rfl | h
      · exact .inr ⟨a, by simp, rfl⟩
      · exact .inl (by simp [h])
    | succ i =>
      rcases List.mem_cons.1 h with rfl | h
      · exact .inl (by simp)
      · rcases ih h with h | ⟨y, hy, rfl⟩
        · exact .inl (by simp [h])
        · exact .inr ⟨y, by simp [hy], rfl⟩

/-- A change of the clusters beside the local memories. -/
theorem within_modClusters {g : Clusters → Clusters} (h : ∀ u, (g u).cores = u.cores ∧ (g u).shared = u.shared) :
    Within [.clusters] s (s.modClusters g) :=
  within_clusters (fun w => by simpa [h] using w) (fun w => by simpa [h] using w) (fun w => by simpa [h] using w)

/-- A change of a core that keeps its memories canonical. -/
theorem within_modCore' {c : Nat} {g : Core → Core} (hb : ∀ k, sparseWf (fun _ => 0) k.buf = true → sparseWf (fun _ => 0) (g k).buf = true)
    (ht : ∀ k, sparseWf (fun _ => 0) k.turn = true → sparseWf (fun _ => 0) (g k).turn = true) : Within [.clusters] s (s.modCore c g) := by
  refine within_clusters (fun w k hk => ?_) (fun w k hk => ?_) (fun w => w) <;> rcases mem_modifyAt hk with hk | ⟨y, hy, rfl⟩
  · exact w k hk
  · exact hb y (w y hy)
  · exact w k hk
  · exact ht y (w y hy)

/-- A change of a core beside its buffer and its bank of the transposing buffer. -/
theorem within_modCore {c : Nat} {g : Core → Core} (h : ∀ k, (g k).buf = k.buf ∧ (g k).turn = k.turn) : Within [.clusters] s (s.modCore c g) :=
  within_modCore' (fun k w => (h k).1 ▸ w) (fun k w => (h k).2 ▸ w)

theorem within_modSlot {c n : Nat} {g : Slot → Slot} : Within [.clusters] s (s.modSlot c n g) := within_modCore (fun _ => ⟨rfl, rfl⟩)
theorem within_modLaunch {c : Nat} {g : Launch → Launch} : Within [.clusters] s (s.modLaunch c g) := within_modCore (fun _ => ⟨rfl, rfl⟩)

end Sys2Proof.Machine
end

