-- ==== Sys2Proof/Laws/WithinOps.lean ====
section
/-! SUPPORT. Which parts of the state the operations of Machine/Ops.lean may change; the queue is not theirs, and the canonical form is
kept. -/

-- One proof at a time: in the package as one text, proofs run side by side would only wait for one another.
set_option Elab.async false

namespace Sys2Proof.Machine

open Sys2Proof

theorem within_msix {s : State} {v : Nat} : Within [.out] s (State.msix s v) := by
  unfold State.msix
  repeat' first
    | with_reducible exact Within.refl _ _
    | (with_reducible apply Within.andThen within_modOut; · decide)
    | split

theorem within_setPhase {s : State} {p : Nat} : Within [.regs, .power, .out] s (State.setPhase s p) := by
  unfold State.setPhase
  repeat' first
    | with_reducible exact Within.refl _ _
    | (with_reducible apply Within.andThen within_modPower; · decide)
    | (with_reducible apply Within.andThen within_setFld; · decide)
    | (with_reducible apply Within.andThen within_msix; · decide)
    | split

theorem within_countChoice {s : State} {kind : Nat} : Within [.regs] s (State.countChoice s kind) := by
  unfold State.countChoice
  dsimp only
  repeat' first
    | with_reducible exact Within.refl _ _
    | (with_reducible apply Within.andThen within_setReg; · decide)
    | (with_reducible apply Within.andThen within_setFld; · decide)
    | (with_reducible apply Within.andThen within_raise; · decide)
    | split

theorem within_openWindow {s : State} : Within [.regs] s s.openWindow := by
  unfold State.openWindow
  dsimp only
  have h : Within [.regs] s ((List.range 8).foldl (fun s k => s.setReg (BT_CHOICE_KIND k) 0) ((s.setReg BT_CHOICE 0).setReg BT_CHOICE_FIRST 0)) :=
    Within.foldl (fun _ _ => within_setReg) _ (within_setReg.andThen (fun _ h => h) within_setReg)
  split
  · exact within_windowArmed.andThen (fun _ h => h) h
  · exact within_countChoice.andThen (by decide) (within_windowArmed.andThen (fun _ h => h) h)

theorem within_choice {s : State} {kind : Nat} : Within [.regs] s (State.choice s kind) := by
  unfold State.choice
  repeat' first
    | with_reducible exact Within.refl _ _
    | (with_reducible apply Within.andThen within_count; · decide)
    | (with_reducible apply Within.andThen within_countChoice; · decide)
    | (with_reducible apply Within.andThen within_openWindow; · decide)
    | split

end Sys2Proof.Machine
end

