-- ==== Sys2Proof/Laws/WithinPool.lean ====
section
/-! SUPPORT. Which parts of the state the operations of Machine/Pool.lean may change; the queue is not theirs, and the canonical form is
kept. -/

-- One proof at a time: in the package as one text, proofs run side by side would only wait for one another.
set_option Elab.async false

namespace Sys2Proof.Machine

open Sys2Proof

theorem within_showPool {s : State} : Within [.regs] s (State.showPool s) := by
  unfold State.showPool
  repeat' first
    | with_reducible exact Within.refl _ _
    | (with_reducible apply Within.andThen within_setFld; · decide)

theorem within_moveShared {s : State} {o c c' : Nat} : Within [.regs, .sw] s (State.moveShared s o c c') := by
  unfold State.moveShared
  dsimp only
  repeat' first
    | with_reducible exact Within.refl _ _
    | (with_reducible apply Within.andThen within_modSw; · decide)
    | (with_reducible apply Within.andThen within_showPool; · decide)

theorem within_yieldCells {s : State} {k : Nat} : Within [.sw] s (State.yieldCells s k) := by
  unfold State.yieldCells
  repeat' first
    | with_reducible exact Within.refl _ _
    | (with_reducible apply Within.andThen within_modSw; · decide)

theorem within_takeCells {s : State} {o k : Nat} : Within [.regs, .sw] s (State.takeCells s o k) := by
  unfold State.takeCells
  dsimp only
  repeat' first
    | with_reducible exact Within.refl _ _
    | (with_reducible apply Within.andThen within_setFld; · decide)
    | (with_reducible apply Within.andThen within_moveShared; · decide)
    | (with_reducible apply Within.andThen within_yieldCells; · decide)

theorem within_holdCells {s : State} {o k : Nat} : Within [.regs, .sw] s (State.holdCells s o k) := by
  unfold State.holdCells
  dsimp only
  repeat' first
    | with_reducible exact Within.refl _ _
    | (with_reducible apply Within.andThen within_setFld; · decide)
    | (with_reducible apply Within.andThen within_modSw; · decide)
    | (with_reducible apply Within.andThen within_moveShared; · decide)
    | (with_reducible apply Within.andThen within_yieldCells; · decide)

theorem within_fillCells {s : State} {o k : Nat} : Within [.regs, .sw] s (State.fillCells s o k) := by
  unfold State.fillCells
  repeat' first
    | with_reducible exact Within.refl _ _
    | (with_reducible apply Within.andThen within_setFld; · decide)
    | (with_reducible apply Within.andThen within_modSw; · decide)

theorem within_freeCells {s : State} {o k : Nat} {chain : List Nat} : Within [.regs, .sw] s (State.freeCells s o k chain) := by
  unfold State.freeCells
  dsimp only
  repeat' first
    | with_reducible exact Within.refl _ _
    | (with_reducible apply Within.andThen within_setFld; · decide)
    | (with_reducible apply Within.andThen within_modSw; · decide)
    | (with_reducible apply Within.andThen within_moveShared; · decide)

theorem within_dropHeld {s : State} {o : Nat} : Within [.regs, .sw] s (State.dropHeld s o) := by
  unfold State.dropHeld
  dsimp only
  repeat' first
    | with_reducible exact Within.refl _ _
    | (with_reducible apply Within.andThen within_setFld; · decide)
    | (with_reducible apply Within.andThen within_modSw; · decide)
    | (with_reducible apply Within.andThen within_moveShared; · decide)

theorem within_returnCredit {s : State} {o k : Nat} : Within [.sw] s (State.returnCredit s o k) := by
  unfold State.returnCredit
  repeat' first
    | with_reducible exact Within.refl _ _
    | (with_reducible apply Within.andThen within_modSw; · decide)

end Sys2Proof.Machine
end

