-- ==== Sys2Proof/Laws/WithinGates.lean ====
section
/-! SUPPORT. Which parts of the state the operations of Machine/Gates.lean may change; the queue is not theirs, and the canonical form is
kept. -/

-- One proof at a time: in the package as one text, proofs run side by side would only wait for one another.
set_option Elab.async false

namespace Sys2Proof.Machine

open Sys2Proof

theorem within_touchShapersWith {s : State} {p : Nat} {open_ : Nat → Bool} : Within [.sw] s (State.touchShapersWith s p open_) := by
  unfold State.touchShapersWith
  dsimp only
  repeat' first
    | with_reducible exact Within.refl _ _
    | (with_reducible apply Within.andThen within_modSw; · decide)
    | (with_reducible refine Within.foldl (fun _ _ => ?_) _ ?_)
    | (with_reducible refine Within.foldl_snd (fun _ _ => ?_) _ ?_)
    | (with_reducible refine Within.foldl_fst (fun _ _ => ?_) _ ?_)
    | (with_reducible refine Within.foldl_thd (fun _ _ => ?_) _ ?_)
    | split
    | dsimp only

theorem within_touchShapers {s : State} {p : Nat} : Within [.sw] s (State.touchShapers s p) := by
  unfold State.touchShapers
  repeat' first
    | with_reducible exact Within.refl _ _
    | (with_reducible apply Within.andThen within_touchShapersWith; · decide)

theorem within_shaperSend {s : State} {p c b : Nat} : Within [.sw] s (State.shaperSend s p c b) := by
  unfold State.shaperSend
  dsimp only
  repeat' first
    | with_reducible exact Within.refl _ _
    | (with_reducible apply Within.andThen within_modSw; · decide)
    | split

end Sys2Proof.Machine
end

