-- ==== Sys2Proof/Laws/WithinRoute.lean ====
section
/-! SUPPORT. Which parts of the state the operations of Machine/Route.lean may change; the queue is not theirs, and the canonical form is
kept. -/

-- One proof at a time: in the package as one text, proofs run side by side would only wait for one another.
set_option Elab.async false

namespace Sys2Proof.Machine

open Sys2Proof

theorem within_pickPort {s : State} {f : Frame} {a : Nat} {dirs : List Bool} {dlOf : Bool → Nat} : Within [.regs, .sw] s (State.pickPort s f a dirs dlOf).2 := by
  unfold State.pickPort
  dsimp only
  repeat' first
    | with_reducible exact Within.refl _ _
    | (with_reducible apply Within.andThen within_modSw; · decide)
    | (with_reducible apply Within.andThen within_choice; · decide)
    | (with_reducible refine Within.foldl (fun _ _ => ?_) _ ?_)
    | (with_reducible refine Within.foldl_snd (fun _ _ => ?_) _ ?_)
    | (with_reducible refine Within.foldl_fst (fun _ _ => ?_) _ ?_)
    | (with_reducible refine Within.foldl_thd (fun _ _ => ?_) _ ?_)
    | split
    | dsimp only

theorem within_startAxis {s : State} {f : Frame} {dst a : Nat} : Within [.regs, .sw] s (State.startAxis s f dst a).2 := by
  unfold State.startAxis
  dsimp only
  repeat' first
    | with_reducible exact Within.refl _ _
    | (with_reducible apply Within.andThen within_pickPort; · decide)
    | (with_reducible refine Within.of_snd (by assumption) ?_)
    | split
    | dsimp only

theorem within_waystation {s : State} {f : Frame} {dst b : Nat} : Within [.regs, .sw] s (State.waystation s f dst b).2 := by
  unfold State.waystation
  dsimp only
  repeat' first
    | with_reducible exact Within.refl _ _
    | (with_reducible apply Within.andThen within_pickPort; · decide)
    | (with_reducible refine Within.of_snd (by assumption) ?_)
    | split
    | dsimp only

theorem within_routeStart {s : State} {f : Frame} {dst : Nat} {again : Bool} : Within [.regs, .sw] s (State.routeStart s f dst again).2 := by
  unfold State.routeStart
  dsimp only
  repeat' first
    | with_reducible exact Within.refl _ _
    | (with_reducible apply Within.andThen within_startAxis; · decide)
    | (with_reducible apply Within.andThen within_waystation; · decide)
    | (with_reducible refine Within.of_snd (by assumption) ?_)
    | split
    | dsimp only

theorem within_routeTransit {s : State} {f : Frame} {bundle : Nat} : Within [.regs, .sw] s (State.routeTransit s f bundle).2 := by
  unfold State.routeTransit
  dsimp only
  repeat' first
    | with_reducible exact Within.refl _ _
    | (with_reducible apply Within.andThen within_pickPort; · decide)
    | (with_reducible apply Within.andThen within_startAxis; · decide)
    | (with_reducible refine Within.of_snd (by assumption) ?_)
    | split
    | dsimp only

theorem within_keepEntry {s : State} {off : Nat} : Within [.sw] s (State.keepEntry s off) := by
  unfold State.keepEntry
  dsimp only
  repeat' first
    | with_reducible exact Within.refl _ _
    | (with_reducible apply Within.andThen within_modSw; · decide)
    | split

theorem within_qlenAdd {s : State} {out vc sub k : Nat} : Within [.regs] s (State.qlenAdd s out vc sub k) := by
  unfold State.qlenAdd
  repeat' first
    | with_reducible exact Within.refl _ _
    | (with_reducible apply Within.andThen within_setFld; · decide)
    | split

theorem within_qlenSub {s : State} {out vc sub k : Nat} : Within [.regs] s (State.qlenSub s out vc sub k) := by
  unfold State.qlenSub
  repeat' first
    | with_reducible exact Within.refl _ _
    | (with_reducible apply Within.andThen within_setFld; · decide)
    | split

theorem within_touchSinks {s : State} {p : Nat} : Within [.sw] s (State.touchSinks s p) := by
  unfold State.touchSinks
  dsimp only
  repeat' first
    | with_reducible exact Within.refl _ _
    | (with_reducible apply Within.andThen within_modSw; · decide)
    | (with_reducible refine Within.foldl (fun _ _ => ?_) _ ?_)
    | (with_reducible refine Within.foldl_snd (fun _ _ => ?_) _ ?_)
    | (with_reducible refine Within.foldl_fst (fun _ _ => ?_) _ ?_)
    | (with_reducible refine Within.foldl_thd (fun _ _ => ?_) _ ?_)
    | split
    | dsimp only

theorem within_addCopy {s : State} {id : Nat} {vc cells : Nat} {mcast held : Bool} {d : Dest} : Within [.regs, .sw] s (State.addCopy s id vc cells mcast held d) := by
  unfold State.addCopy
  repeat' first
    | with_reducible exact Within.refl _ _
    | (with_reducible apply Within.andThen within_modSw; · decide)
    | (with_reducible apply Within.andThen within_qlenAdd; · decide)

theorem within_detourBack {s : State} {inPort : Nat} : Within [.sw] s (State.detourBack s inPort) := by
  unfold State.detourBack
  repeat' first
    | with_reducible exact Within.refl _ _
    | (with_reducible apply Within.andThen within_modSw; · decide)
    | split
    | dsimp only

theorem within_releaseCells {s : State} {owner inPort cells : Nat} {chain : List Nat} : Within [.regs, .sw] s (State.releaseCells s owner inPort cells chain) := by
  unfold State.releaseCells
  dsimp only
  repeat' first
    | with_reducible exact Within.refl _ _
    | (with_reducible apply Within.andThen within_detourBack; · decide)
    | (with_reducible apply Within.andThen within_freeCells; · decide)
    | split

theorem within_reap {s : State} {id : Nat} : Within [.regs, .sw] s (State.reap s id) := by
  unfold State.reap
  repeat' first
    | with_reducible exact Within.refl _ _
    | (with_reducible apply Within.andThen within_modSw; · decide)
    | (with_reducible apply Within.andThen within_releaseCells; · decide)
    | split
    | dsimp only

theorem within_enqueue {s : State} {f : Frame} {inPort owner cells : Nat} {whole : Bool} {eth : Option (List Byte)} {dests : List Dest} {held : Bool} : Within [.regs, .sw] s (State.enqueue s f inPort owner cells whole eth dests held) := by
  unfold State.enqueue
  dsimp only
  repeat' first
    | with_reducible exact Within.refl _ _
    | (with_reducible apply Within.andThen within_count; · decide)
    | (with_reducible apply Within.andThen within_modSw; · decide)
    | (with_reducible apply Within.andThen within_addCopy; · decide)
    | (with_reducible apply Within.andThen within_reap; · decide)
    | (with_reducible apply Within.andThen within_touchShapers; · decide)
    | (with_reducible apply Within.andThen within_touchSinks; · decide)
    | (with_reducible refine Within.foldl (fun _ _ => ?_) _ ?_)
    | (with_reducible refine Within.foldl_snd (fun _ _ => ?_) _ ?_)
    | (with_reducible refine Within.foldl_fst (fun _ _ => ?_) _ ?_)
    | (with_reducible refine Within.foldl_thd (fun _ _ => ?_) _ ?_)
    | split
    | dsimp only

theorem within_showHeld {s : State} {stream : Nat} : Within [.regs] s (State.showHeld s stream) := by
  unfold State.showHeld
  repeat' first
    | with_reducible exact Within.refl _ _
    | (with_reducible apply Within.andThen within_setFld; · decide)
    | split

theorem within_emptied {s : State} {p c : Nat} : Within [.sw] s (State.emptied s p c) := by
  unfold State.emptied
  repeat' first
    | with_reducible exact Within.refl _ _
    | (with_reducible apply Within.andThen within_modSw; · decide)
    | split

theorem within_dropCopy {s : State} {c : Copy} : Within [.regs, .sw] s (State.dropCopy s c) := by
  unfold State.dropCopy
  dsimp only
  repeat' first
    | with_reducible exact Within.refl _ _
    | (with_reducible apply Within.andThen within_modSw; · decide)
    | (with_reducible apply Within.andThen within_emptied; · decide)
    | (with_reducible apply Within.andThen within_qlenSub; · decide)
    | (with_reducible apply Within.andThen within_showHeld; · decide)
    | (with_reducible apply Within.andThen within_touchSinks; · decide)
    | split
    | dsimp only

theorem within_handOver {s : State} {c : Copy} : Within [.sw] s (State.handOver s c) := by
  unfold State.handOver
  repeat' first
    | with_reducible exact Within.refl _ _
    | (with_reducible apply Within.andThen within_modSw; · decide)
    | split
    | dsimp only

theorem within_takeAgent {s : State} {f : Frame} : Within [.regs, .sw] s (State.takeAgent s f) := by
  unfold State.takeAgent
  repeat' first
    | with_reducible exact Within.refl _ _
    | (with_reducible apply Within.andThen within_modSw; · decide)
    | (with_reducible apply Within.andThen within_releaseCells; · decide)
    | split
    | dsimp only

theorem within_handOverAll {s : State} : Within [.sw] s (State.handOverAll s) := by
  unfold State.handOverAll
  repeat' first
    | with_reducible exact Within.refl _ _
    | (with_reducible apply Within.andThen within_handOver; · decide)
    | (with_reducible refine Within.foldl (fun _ _ => ?_) _ ?_)
    | (with_reducible refine Within.foldl_snd (fun _ _ => ?_) _ ?_)
    | (with_reducible refine Within.foldl_fst (fun _ _ => ?_) _ ?_)
    | (with_reducible refine Within.foldl_thd (fun _ _ => ?_) _ ?_)
    | split
    | dsimp only

theorem within_agentFate {s : State} {f : Frame} : Within [.regs, .sw] s (State.agentFate s f).2 := by
  unfold State.agentFate
  repeat' first
    | with_reducible exact Within.refl _ _
    | (with_reducible apply Within.andThen within_routeStart; · decide)
    | (with_reducible refine Within.of_snd (by assumption) ?_)
    | split
    | dsimp only

theorem within_agentPlace {s : State} {a : Nat} {f : Frame} {places : List Dest} : Within [.regs, .sw] s (State.agentPlace s a f places) := by
  unfold State.agentPlace
  dsimp only
  repeat' first
    | with_reducible exact Within.refl _ _
    | (with_reducible apply Within.andThen within_count; · decide)
    | (with_reducible apply Within.andThen within_modSw; · decide)
    | (with_reducible apply Within.andThen within_agentFate; · decide)
    | (with_reducible apply Within.andThen within_enqueue; · decide)
    | (with_reducible apply Within.andThen within_handOverAll; · decide)
    | (with_reducible apply Within.andThen within_takeCells; · decide)
    | (with_reducible refine Within.of_snd (by assumption) ?_)
    | split
    | dsimp only

theorem within_agentCast {s : State} {a : Nat} {f : Frame} {places : List Dest} : Within [.regs, .sw] s (State.agentCast s a f places) := by
  unfold State.agentCast
  dsimp only
  repeat' first
    | with_reducible exact Within.refl _ _
    | (with_reducible apply Within.andThen within_agentPlace; · decide)

theorem within_agentSend {s : State} {a : Nat} {f : Frame} : Within [.regs, .sw] s (State.agentSend s a f) := by
  unfold State.agentSend
  repeat' first
    | with_reducible exact Within.refl _ _
    | (with_reducible apply Within.andThen within_agentCast; · decide)

theorem within_retryAgents {s : State} : Within [.regs, .sw] s (State.retryAgents s) := by
  unfold State.retryAgents
  dsimp only
  repeat' first
    | with_reducible exact Within.refl _ _
    | (with_reducible apply Within.andThen within_modSw; · decide)
    | (with_reducible apply Within.andThen within_agentPlace; · decide)
    | (with_reducible apply Within.andThen within_handOverAll; · decide)
    | (with_reducible refine Within.foldl (fun _ _ => ?_) _ ?_)
    | (with_reducible refine Within.foldl_snd (fun _ _ => ?_) _ ?_)
    | (with_reducible refine Within.foldl_fst (fun _ _ => ?_) _ ?_)
    | (with_reducible refine Within.foldl_thd (fun _ _ => ?_) _ ?_)
    | dsimp only

theorem within_errorReply {s : State} {f : Frame} {status : Nat} : Within [.regs, .sw] s (State.errorReply s f status) := by
  unfold State.errorReply
  repeat' first
    | with_reducible exact Within.refl _ _
    | (with_reducible apply Within.andThen within_agentSend; · decide)

end Sys2Proof.Machine
end

