-- ==== Sys2Proof/Laws/WithinTallyOps.lean ====
section
/-! SUPPORT. Which parts of the state the operations of Machine/TallyOps.lean may change; the queue is not theirs, and the canonical form is
kept. -/

-- One proof at a time: in the package as one text, proofs run side by side would only wait for one another.
set_option Elab.async false

namespace Sys2Proof.Machine

open Sys2Proof

theorem within_tpMove {s : State} {p c' : Nat} : Within [.regs, .tally] s (State.tpMove s p c') := by
  unfold State.tpMove
  dsimp only
  repeat' first
    | with_reducible exact Within.refl _ _
    | (with_reducible apply Within.andThen within_modTally; · decide)
    | (with_reducible apply Within.andThen within_setFld; · decide)

theorem within_tpTake {s : State} {k : Nat} : Within [.tally] s (State.tpTake s k).2 := by
  unfold State.tpTake
  dsimp only
  repeat' first
    | with_reducible exact Within.refl _ _
    | (with_reducible apply Within.andThen within_modTally; · decide)
    | split
    | dsimp only

theorem within_putCtx {s : State} {c : TCtx} : Within [.tally] s (State.putCtx s c) := by
  unfold State.putCtx
  repeat' first
    | with_reducible exact Within.refl _ _
    | (with_reducible apply Within.andThen within_modTally; · decide)
    | split

theorem within_toSlot {s : State} {c : TCtx} {kind i : Nat} {t : TSlot} {g part tag : Nat} {payload : List Byte} : Within [.regs, .sw] s (State.toSlot s c kind i t g part tag payload) := by
  unfold State.toSlot
  dsimp only
  repeat' first
    | with_reducible exact Within.refl _ _
    | (with_reducible apply Within.andThen within_agentSend; · decide)

theorem within_toParent {s : State} {c : TCtx} {kind g part : Nat} {payload : List Byte} : Within [.regs, .sw] s (State.toParent s c kind g part payload) := by
  unfold State.toParent
  repeat' first
    | with_reducible exact Within.refl _ _
    | (with_reducible apply Within.andThen within_agentSend; · decide)

theorem within_sendResult {s : State} {c : TCtx} {k : TChunk} {i : Nat} {t : TSlot} : Within [.regs, .sw] s (State.sendResult s c k i t) := by
  unfold State.sendResult
  repeat' first
    | with_reducible exact Within.refl _ _
    | (with_reducible apply Within.andThen within_toSlot; · decide)
    | split
    | dsimp only

theorem within_sendComplete {s : State} {c : TCtx} {r status : Nat} : Within [.regs, .sw] s (State.sendComplete s c r status) := by
  unfold State.sendComplete
  dsimp only
  repeat' first
    | with_reducible exact Within.refl _ _
    | (with_reducible apply Within.andThen within_toSlot; · decide)
    | (with_reducible refine Within.foldl (fun _ _ => ?_) _ ?_)
    | (with_reducible refine Within.foldl_snd (fun _ _ => ?_) _ ?_)
    | (with_reducible refine Within.foldl_fst (fun _ _ => ?_) _ ?_)
    | (with_reducible refine Within.foldl_thd (fun _ _ => ?_) _ ?_)
    | split
    | dsimp only

theorem within_endCtx {s : State} {c : TCtx} : Within [.regs, .tally] s (State.endCtx s c) := by
  unfold State.endCtx
  dsimp only
  repeat' first
    | with_reducible exact Within.refl _ _
    | (with_reducible apply Within.andThen within_modTally; · decide)
    | (with_reducible apply Within.andThen within_setFld; · decide)
    | (with_reducible apply Within.andThen within_tpMove; · decide)

theorem within_creditTo {s : State} {c : TCtx} {x : Nat × TSlot} : Within [.regs, .sw] s (State.creditTo s c x) := by
  unfold State.creditTo
  repeat' first
    | with_reducible exact Within.refl _ _
    | (with_reducible apply Within.andThen within_toSlot; · decide)

theorem within_sendCredits {s : State} {c : TCtx} {roundEnd : Bool} : Within [.regs, .sw, .tally] s (State.sendCredits s c roundEnd) := by
  unfold State.sendCredits
  dsimp only
  repeat' first
    | with_reducible exact Within.refl _ _
    | (with_reducible apply Within.andThen within_creditTo; · decide)
    | (with_reducible apply Within.andThen within_putCtx; · decide)
    | (with_reducible refine Within.foldl (fun _ _ => ?_) _ ?_)
    | (with_reducible refine Within.foldl_snd (fun _ _ => ?_) _ ?_)
    | (with_reducible refine Within.foldl_fst (fun _ _ => ?_) _ ?_)
    | (with_reducible refine Within.foldl_thd (fun _ _ => ?_) _ ?_)
    | split
    | dsimp only

theorem within_resumeCredits {s : State} : Within [.regs, .sw, .tally] s (State.resumeCredits s) := by
  unfold State.resumeCredits
  dsimp only
  repeat' first
    | with_reducible exact Within.refl _ _
    | (with_reducible apply Within.andThen within_modTally; · decide)
    | (with_reducible apply Within.andThen within_creditTo; · decide)
    | (with_reducible apply Within.andThen within_putCtx; · decide)
    | (with_reducible apply Within.andThen within_sendCredits; · decide)
    | (with_reducible refine Within.foldl (fun _ _ => ?_) _ ?_)
    | (with_reducible refine Within.foldl_snd (fun _ _ => ?_) _ ?_)
    | (with_reducible refine Within.foldl_fst (fun _ _ => ?_) _ ?_)
    | (with_reducible refine Within.foldl_thd (fun _ _ => ?_) _ ?_)
    | dsimp only

theorem within_closeRounds {n : Nat} {s : State} {i : Nat} : Within [.regs, .sw, .tally] s (State.closeRounds n s i) := by
  induction n generalizing s i with
  | zero => exact Within.refl _ _
  | succ n ih =>
    unfold State.closeRounds
    dsimp only
    repeat' first
      | with_reducible exact Within.refl _ _
      | (with_reducible apply Within.andThen ih; · decide)
      | (with_reducible apply Within.andThen within_endCtx; · decide)
      | (with_reducible apply Within.andThen within_putCtx; · decide)
      | (with_reducible apply Within.andThen within_sendComplete; · decide)
      | (with_reducible apply Within.andThen within_modTally; · decide)
      | split

theorem within_advance {s : State} {c : TCtx} {forced : Bool} : Within [.regs, .sw, .tally] s (State.advance s c forced) := by
  unfold State.advance
  dsimp only
  repeat' first
    | with_reducible exact Within.refl _ _
    | (with_reducible apply Within.andThen within_closeRounds; · decide)
    | (with_reducible apply Within.andThen within_putCtx; · decide)
    | (with_reducible apply Within.andThen within_sendCredits; · decide)

theorem within_freeChunk {s : State} {c : TCtx} {g : Nat} : Within [.regs, .sw, .tally] s (State.freeChunk s c g) := by
  unfold State.freeChunk
  repeat' first
    | with_reducible exact Within.refl _ _
    | (with_reducible apply Within.andThen within_advance; · decide)

theorem within_freeIfDone {s : State} {idx g : Nat} : Within [.regs, .sw, .tally] s (State.freeIfDone s idx g) := by
  unfold State.freeIfDone
  repeat' first
    | with_reducible exact Within.refl _ _
    | (with_reducible apply Within.andThen within_freeChunk; · decide)
    | split
    | dsimp only

theorem within_castResult {s : State} {c : TCtx} {k : TChunk} {rs : List (Nat × TSlot)} : Within [.regs, .sw] s (State.castResult s c k rs) := by
  unfold State.castResult
  repeat' first
    | with_reducible exact Within.refl _ _
    | (with_reducible apply Within.andThen within_agentCast; · decide)
    | split
    | dsimp only

theorem within_distribute {s : State} {idx g : Nat} : Within [.regs, .sw, .tally] s (State.distribute s idx g) := by
  unfold State.distribute
  dsimp only
  repeat' first
    | with_reducible exact Within.refl _ _
    | (with_reducible apply Within.andThen within_castResult; · decide)
    | (with_reducible apply Within.andThen within_freeIfDone; · decide)
    | (with_reducible apply Within.andThen within_putCtx; · decide)
    | (with_reducible apply Within.andThen within_sendResult; · decide)
    | (with_reducible refine Within.foldl (fun _ _ => ?_) _ ?_)
    | (with_reducible refine Within.foldl_snd (fun _ _ => ?_) _ ?_)
    | (with_reducible refine Within.foldl_fst (fun _ _ => ?_) _ ?_)
    | (with_reducible refine Within.foldl_thd (fun _ _ => ?_) _ ?_)
    | split
    | dsimp only

theorem within_recvDone {s : State} {c : TCtx} {k : TChunk} {slot : Nat} {missed : Bool} : Within [.regs, .sw, .tally] s (State.recvDone s c k slot missed) := by
  unfold State.recvDone
  dsimp only
  repeat' first
    | with_reducible exact Within.refl _ _
    | (with_reducible apply Within.andThen within_freeIfDone; · decide)
    | (with_reducible apply Within.andThen within_putCtx; · decide)
    | split

theorem within_resultMissed {s : State} {f : Frame} : Within [.regs, .sw, .tally] s (State.resultMissed s f) := by
  unfold State.resultMissed
  repeat' first
    | with_reducible exact Within.refl _ _
    | (with_reducible apply Within.andThen within_recvDone; · decide)
    | split
    | dsimp only

theorem within_failRound {s : State} {c : TCtx} {r reason chunk : Nat} {fromSlot : Option Nat} {fromParent : Bool} : Within [.regs, .sw, .tally] s (State.failRound s c r reason chunk fromSlot fromParent) := by
  unfold State.failRound
  dsimp only
  repeat' first
    | with_reducible exact Within.refl _ _
    | (with_reducible apply Within.andThen within_advance; · decide)
    | (with_reducible apply Within.andThen within_putCtx; · decide)
    | (with_reducible apply Within.andThen within_sendComplete; · decide)
    | (with_reducible apply Within.andThen within_toParent; · decide)
    | (with_reducible apply Within.andThen within_toSlot; · decide)
    | (with_reducible refine Within.foldl (fun _ _ => ?_) _ ?_)
    | (with_reducible refine Within.foldl_snd (fun _ _ => ?_) _ ?_)
    | (with_reducible refine Within.foldl_fst (fun _ _ => ?_) _ ?_)
    | (with_reducible refine Within.foldl_thd (fun _ _ => ?_) _ ?_)
    | split
    | dsimp only

theorem within_failAll {s : State} {reason : Nat} : Within [.regs, .sw, .tally] s (State.failAll s reason) := by
  unfold State.failAll
  repeat' first
    | with_reducible exact Within.refl _ _
    | (with_reducible apply Within.andThen within_failRound; · decide)
    | (with_reducible refine Within.foldl (fun _ _ => ?_) _ ?_)
    | (with_reducible refine Within.foldl_snd (fun _ _ => ?_) _ ?_)
    | (with_reducible refine Within.foldl_fst (fun _ _ => ?_) _ ?_)
    | (with_reducible refine Within.foldl_thd (fun _ _ => ?_) _ ?_)
    | split
    | dsimp only

end Sys2Proof.Machine
end

