-- ==== Sys2Proof/Laws/WithinPortOps.lean ====
section
/-! SUPPORT. Which parts of the state the operations of Machine/PortOps.lean may change; the queue is not theirs, and the canonical form is
kept. -/

-- One proof at a time: in the package as one text, proofs run side by side would only wait for one another.
set_option Elab.async false

namespace Sys2Proof.Machine

open Sys2Proof

theorem within_storeFrame {s : State} {p : Nat} {f : Frame} {spoiled : Bool} : Within [.lanes] s (State.storeFrame s p f spoiled) := by
  unfold State.storeFrame
  dsimp only
  repeat' first
    | with_reducible exact Within.refl _ _
    | (with_reducible apply Within.andThen within_modPort; · decide)
    | split

theorem within_useCredit {s : State} {o k : Nat} : Within [.sw] s (State.useCredit s o k) := by
  unfold State.useCredit
  repeat' first
    | with_reducible exact Within.refl _ _
    | (with_reducible apply Within.andThen within_modSw; · decide)

theorem within_emit {s : State} {d : Desc} {c : Copy} {spoiled : Bool} : Within [.lanes, .out] s (State.emit s d c spoiled) := by
  unfold State.emit
  dsimp only
  repeat' first
    | with_reducible exact Within.refl _ _
    | (with_reducible apply Within.andThen within_sentFrame; · decide)
    | (with_reducible apply Within.andThen within_sentEth; · decide)
    | (with_reducible apply Within.andThen within_sentCtrl; · decide)
    | (with_reducible apply Within.andThen within_storeFrame; · decide)
    | split

theorem within_killFrame {s : State} {id : Nat} {stored : Nat} : Within [.regs, .sw, .lanes, .out] s (State.killFrame s id stored) := by
  unfold State.killFrame
  dsimp only
  repeat' first
    | with_reducible exact Within.refl _ _
    | (with_reducible apply Within.andThen within_count; · decide)
    | (with_reducible apply Within.andThen within_modSw; · decide)
    | (with_reducible apply Within.andThen within_dropCopy; · decide)
    | (with_reducible apply Within.andThen within_emit; · decide)
    | (with_reducible apply Within.andThen within_reap; · decide)
    | (with_reducible refine Within.foldl (fun _ _ => ?_) _ ?_)
    | (with_reducible refine Within.foldl_snd (fun _ _ => ?_) _ ?_)
    | (with_reducible refine Within.foldl_fst (fun _ _ => ?_) _ ?_)
    | (with_reducible refine Within.foldl_thd (fun _ _ => ?_) _ ?_)
    | split
    | dsimp only

theorem within_detourLost {s : State} {id : Nat} : Within [.sw] s (State.detourLost s id) := by
  unfold State.detourLost
  repeat' first
    | with_reducible exact Within.refl _ _
    | (with_reducible apply Within.andThen within_detourBack; · decide)
    | split
    | dsimp only

theorem within_askReplay {s : State} {p seq slot : Nat} : Within [.regs, .lanes, .out] s (State.askReplay s p seq slot) := by
  unfold State.askReplay
  repeat' first
    | with_reducible exact Within.refl _ _
    | (with_reducible apply Within.andThen within_count; · decide)
    | (with_reducible apply Within.andThen within_sentCtrl; · decide)
    | (with_reducible apply Within.andThen within_modPort; · decide)
    | split
    | dsimp only

theorem within_abortRx {s : State} {p : Nat} : Within [.regs, .sw, .lanes, .out] s (State.abortRx s p) := by
  unfold State.abortRx
  repeat' first
    | with_reducible exact Within.refl _ _
    | (with_reducible apply Within.andThen within_modSw; · decide)
    | (with_reducible apply Within.andThen within_killFrame; · decide)
    | split
    | dsimp only

theorem within_dropStranded {s : State} {c : Copy} : Within [.regs, .sw] s (State.dropStranded s c) := by
  unfold State.dropStranded
  dsimp only
  repeat' first
    | with_reducible exact Within.refl _ _
    | (with_reducible apply Within.andThen within_count; · decide)
    | (with_reducible apply Within.andThen within_dropCopy; · decide)
    | (with_reducible apply Within.andThen within_errorReply; · decide)
    | (with_reducible apply Within.andThen within_reap; · decide)
    | split
    | dsimp only

theorem within_dropQueued {s : State} {p : Nat} {alsoStarted : Bool} : Within [.regs, .sw] s (State.dropQueued s p alsoStarted) := by
  unfold State.dropQueued
  repeat' first
    | with_reducible exact Within.refl _ _
    | (with_reducible apply Within.andThen within_dropStranded; · decide)
    | (with_reducible refine Within.foldl (fun _ _ => ?_) _ ?_)
    | (with_reducible refine Within.foldl_snd (fun _ _ => ?_) _ ?_)
    | (with_reducible refine Within.foldl_fst (fun _ _ => ?_) _ ?_)
    | (with_reducible refine Within.foldl_thd (fun _ _ => ?_) _ ?_)
    | dsimp only

theorem within_dropBundle {s : State} {b : Nat} {keep : List Nat} : Within [.regs, .sw] s (State.dropBundle s b keep) := by
  unfold State.dropBundle
  repeat' first
    | with_reducible exact Within.refl _ _
    | (with_reducible apply Within.andThen within_dropStranded; · decide)
    | (with_reducible refine Within.foldl (fun _ _ => ?_) _ ?_)
    | (with_reducible refine Within.foldl_snd (fun _ _ => ?_) _ ?_)
    | (with_reducible refine Within.foldl_fst (fun _ _ => ?_) _ ?_)
    | (with_reducible refine Within.foldl_thd (fun _ _ => ?_) _ ?_)
    | dsimp only

theorem within_holdDown {s : State} {b : Nat} : Within [.regs, .sw] s (State.holdDown s b) := by
  unfold State.holdDown
  repeat' first
    | with_reducible exact Within.refl _ _
    | (with_reducible apply Within.andThen within_modSw; · decide)
    | (with_reducible apply Within.andThen within_dropBundle; · decide)
    | split

theorem within_restLanes {s : State} {p : Nat} : Within [.regs] s (State.restLanes s p) := by
  unfold State.restLanes
  repeat' first
    | with_reducible exact Within.refl _ _
    | (with_reducible apply Within.andThen within_setFld; · decide)
    | (with_reducible refine Within.foldl (fun _ _ => ?_) _ ?_)
    | (with_reducible refine Within.foldl_snd (fun _ _ => ?_) _ ?_)
    | (with_reducible refine Within.foldl_fst (fun _ _ => ?_) _ ?_)
    | (with_reducible refine Within.foldl_thd (fun _ _ => ?_) _ ?_)
    | split
    | dsimp only

theorem within_dropPtp {s : State} {p : Nat} : Within [.regs] s (State.dropPtp s p) := by
  unfold State.dropPtp
  repeat' first
    | with_reducible exact Within.refl _ _
    | (with_reducible apply Within.andThen within_setFld; · decide)
    | split

theorem within_leaveSwitch {s : State} {p : Nat} : Within [.regs, .sw, .lanes, .out] s (State.leaveSwitch s p) := by
  unfold State.leaveSwitch
  dsimp only
  repeat' first
    | with_reducible exact Within.refl _ _
    | (with_reducible apply Within.andThen within_modSw; · decide)
    | (with_reducible apply Within.andThen within_abortRx; · decide)
    | (with_reducible apply Within.andThen within_dropHeld; · decide)
    | (with_reducible apply Within.andThen within_dropPtp; · decide)
    | (with_reducible refine Within.foldl (fun _ _ => ?_) _ ?_)
    | (with_reducible refine Within.foldl_snd (fun _ _ => ?_) _ ?_)
    | (with_reducible refine Within.foldl_fst (fun _ _ => ?_) _ ?_)
    | (with_reducible refine Within.foldl_thd (fun _ _ => ?_) _ ?_)
    | dsimp only

theorem within_leaveLink {s : State} {p : Nat} : Within [.lanes] s (State.leaveLink s p) := by
  unfold State.leaveLink
  repeat' first
    | with_reducible exact Within.refl _ _
    | (with_reducible apply Within.andThen within_modPort; · decide)

theorem within_leaveUp {s : State} {p : Nat} : Within [.regs, .sw, .lanes, .out] s (State.leaveUp s p) := by
  unfold State.leaveUp
  repeat' first
    | with_reducible exact Within.refl _ _
    | (with_reducible apply Within.andThen within_leaveLink; · decide)
    | (with_reducible apply Within.andThen within_leaveSwitch; · decide)

end Sys2Proof.Machine
end

