-- ==== Sys2Proof/Laws/WithinWatchOps.lean ====
section
/-! SUPPORT. Which parts of the state the operations of Machine/WatchOps.lean may change; the queue is not theirs, and the canonical form is
kept. -/

-- One proof at a time: in the package as one text, proofs run side by side would only wait for one another.
set_option Elab.async false

namespace Sys2Proof.Machine

open Sys2Proof

theorem within_enterWatch {s : State} {m : Word} : Within [.watch] s (State.enterWatch s m) := by
  unfold State.enterWatch
  dsimp only
  repeat' first
    | with_reducible exact Within.refl _ _
    | (with_reducible apply Within.andThen within_modWatch; · decide)
    | split
    | dsimp only

theorem within_accept {s : State} {source kind sev address : Nat} : Within [.regs, .watch] s (State.accept s source kind sev address) := by
  unfold State.accept
  dsimp only
  repeat' first
    | with_reducible exact Within.refl _ _
    | (with_reducible apply Within.andThen within_setReg; · decide)
    | (with_reducible apply Within.andThen within_setFld; · decide)
    | (with_reducible apply Within.andThen within_raise; · decide)
    | (with_reducible apply Within.andThen within_count; · decide)
    | (with_reducible apply Within.andThen within_setRegBit; · decide)
    | (with_reducible apply Within.andThen within_enterWatch; · decide)
    | split

theorem within_stopAnswer {s : State} {result : Nat} : Within [.health, .host] s (State.stopAnswer s result) := by
  unfold State.stopAnswer
  repeat' first
    | with_reducible exact Within.refl _ _
    | (with_reducible apply Within.andThen within_modHost; · decide)
    | (with_reducible apply Within.andThen within_modHealth; · decide)
    | split

theorem within_stopResult {s : State} {result : Nat} : Within [.regs, .health, .host] s (State.stopResult s result) := by
  unfold State.stopResult
  repeat' first
    | with_reducible exact Within.refl _ _
    | (with_reducible apply Within.andThen within_setFld; · decide)
    | (with_reducible apply Within.andThen within_stopAnswer; · decide)
    | split

theorem within_abandonStop {s : State} : Within [.regs, .watch, .health, .host] s (State.abandonStop s) := by
  unfold State.abandonStop
  repeat' first
    | with_reducible exact Within.refl _ _
    | (with_reducible apply Within.andThen within_setReg; · decide)
    | (with_reducible apply Within.andThen within_accept; · decide)
    | (with_reducible apply Within.andThen within_stopResult; · decide)
    | split

theorem within_stopServing {s : State} : Within [.regs, .watch, .sw, .tally, .health, .host] s (State.stopServing s) := by
  unfold State.stopServing
  repeat' first
    | with_reducible exact Within.refl _ _
    | (with_reducible apply Within.andThen within_abandonStop; · decide)
    | (with_reducible apply Within.andThen within_failAll; · decide)

theorem within_freeze {s : State} : Within [.regs, .power, .watch, .sw, .lanes, .tally, .health, .host, .out] s (State.freeze s) := by
  unfold State.freeze
  dsimp only
  repeat' first
    | with_reducible exact Within.refl _ _
    | (with_reducible apply Within.andThen within_setFld; · decide)
    | (with_reducible apply Within.andThen within_dropQueued; · decide)
    | (with_reducible apply Within.andThen within_leaveUp; · decide)
    | (with_reducible apply Within.andThen within_restLanes; · decide)
    | (with_reducible apply Within.andThen within_setPhase; · decide)
    | (with_reducible apply Within.andThen within_stopServing; · decide)
    | (with_reducible refine Within.foldl (fun _ _ => ?_) _ ?_)
    | (with_reducible refine Within.foldl_snd (fun _ _ => ?_) _ ?_)
    | (with_reducible refine Within.foldl_fst (fun _ _ => ?_) _ ?_)
    | (with_reducible refine Within.foldl_thd (fun _ _ => ?_) _ ?_)
    | split
    | dsimp only

theorem within_halt {s : State} : Within [.regs, .power, .watch, .sw, .tally, .health, .host, .out] s (State.halt s) := by
  unfold State.halt
  repeat' first
    | with_reducible exact Within.refl _ _
    | (with_reducible apply Within.andThen within_setPhase; · decide)
    | (with_reducible apply Within.andThen within_stopServing; · decide)
    | split

theorem within_fault {s : State} {source kind address : Nat} : Within [.regs, .power, .watch, .sw, .lanes, .tally, .health, .host, .out] s (State.fault s source kind address) := by
  unfold State.fault
  dsimp only
  repeat' first
    | with_reducible exact Within.refl _ _
    | (with_reducible apply Within.andThen within_accept; · decide)
    | (with_reducible apply Within.andThen within_freeze; · decide)
    | (with_reducible apply Within.andThen within_halt; · decide)
    | split

end Sys2Proof.Machine
end

