-- ==== Sys2Proof/Laws/WithinLaneOps.lean ====
section
/-! SUPPORT. Which parts of the state the operations of Machine/LaneOps.lean may change; the queue is not theirs, and the canonical form is
kept. -/

-- One proof at a time: in the package as one text, proofs run side by side would only wait for one another.
set_option Elab.async false

namespace Sys2Proof.Machine

open Sys2Proof

theorem within_laneFault {s : State} {p k kind : Nat} : Within [.regs, .power, .watch, .sw, .lanes, .tally, .health, .host, .out] s (State.laneFault s p k kind) := by
  unfold State.laneFault
  repeat' first
    | with_reducible exact Within.refl _ _
    | (with_reducible apply Within.andThen within_fault; · decide)

theorem within_portFault {s : State} {p kind : Nat} : Within [.regs, .power, .watch, .sw, .lanes, .tally, .health, .host, .out] s (State.portFault s p kind) := by
  unfold State.portFault
  repeat' first
    | with_reducible exact Within.refl _ _
    | (with_reducible apply Within.andThen within_laneFault; · decide)

theorem within_linksDone {s : State} : Within [.regs, .power, .bell, .out] s (State.linksDone s) := by
  unfold State.linksDone
  dsimp only
  repeat' first
    | with_reducible exact Within.refl _ _
    | (with_reducible apply Within.andThen within_raise; · decide)
    | (with_reducible apply Within.andThen within_modBell; · decide)
    | (with_reducible apply Within.andThen within_setPhase; · decide)
    | split

theorem within_showPorts {s : State} : Within [.regs, .power, .bell, .out] s (State.showPorts s) := by
  unfold State.showPorts
  dsimp only
  repeat' first
    | with_reducible exact Within.refl _ _
    | (with_reducible apply Within.andThen within_setFld; · decide)
    | (with_reducible apply Within.andThen within_linksDone; · decide)
    | split

theorem within_showLanes {s : State} {p : Nat} {st : Nat → Nat} : Within [.regs] s (State.showLanes s p st) := by
  unfold State.showLanes
  repeat' first
    | with_reducible exact Within.refl _ _
    | (with_reducible apply Within.andThen within_setFld; · decide)
    | (with_reducible refine Within.foldl (fun _ _ => ?_) _ ?_)
    | (with_reducible refine Within.foldl_snd (fun _ _ => ?_) _ ?_)
    | (with_reducible refine Within.foldl_fst (fun _ _ => ?_) _ ?_)
    | (with_reducible refine Within.foldl_thd (fun _ _ => ?_) _ ?_)
    | dsimp only

theorem within_setWidth {s : State} {p u : Nat} : Within [.regs] s (State.setWidth s p u) := by
  unfold State.setWidth
  dsimp only
  repeat' first
    | with_reducible exact Within.refl _ _
    | (with_reducible apply Within.andThen within_setFld; · decide)
    | (with_reducible apply Within.andThen within_showLanes; · decide)
    | (with_reducible refine Within.foldl (fun _ _ => ?_) _ ?_)
    | (with_reducible refine Within.foldl_snd (fun _ _ => ?_) _ ?_)
    | (with_reducible refine Within.foldl_fst (fun _ _ => ?_) _ ?_)
    | (with_reducible refine Within.foldl_thd (fun _ _ => ?_) _ ?_)
    | split
    | dsimp only

theorem within_leaveLane {s : State} {p k cause kind : Nat} : Within [.regs, .power, .watch, .sw, .lanes, .tally, .health, .host, .out] s (State.leaveLane s p k cause kind) := by
  unfold State.leaveLane
  dsimp only
  repeat' first
    | with_reducible exact Within.refl _ _
    | (with_reducible apply Within.andThen within_setFld; · decide)
    | (with_reducible apply Within.andThen within_modPort; · decide)
    | (with_reducible apply Within.andThen within_laneFault; · decide)

theorem within_restPort {s : State} {p state cause : Nat} : Within [.regs, .lanes] s (State.restPort s p state cause) := by
  unfold State.restPort
  dsimp only
  repeat' first
    | with_reducible exact Within.refl _ _
    | (with_reducible apply Within.andThen within_setFld; · decide)
    | (with_reducible apply Within.andThen within_modPort; · decide)
    | (with_reducible apply Within.andThen within_restLanes; · decide)

theorem within_startBringup {s : State} {p : Nat} : Within [.regs, .lanes] s (State.startBringup s p) := by
  unfold State.startBringup
  dsimp only
  repeat' first
    | with_reducible exact Within.refl _ _
    | (with_reducible apply Within.andThen within_setFld; · decide)
    | (with_reducible apply Within.andThen within_modPort; · decide)
    | (with_reducible apply Within.andThen within_leaveLink; · decide)
    | (with_reducible apply Within.andThen within_restPort; · decide)
    | (with_reducible apply Within.andThen within_showLanes; · decide)
    | (with_reducible refine Within.foldl (fun _ _ => ?_) _ ?_)
    | (with_reducible refine Within.foldl_snd (fun _ _ => ?_) _ ?_)
    | (with_reducible refine Within.foldl_fst (fun _ _ => ?_) _ ?_)
    | (with_reducible refine Within.foldl_thd (fun _ _ => ?_) _ ?_)
    | split
    | dsimp only

theorem within_portDown {s : State} {p cause : Nat} {restart : Bool} : Within [.regs, .power, .bell, .watch, .sw, .lanes, .tally, .health, .host, .out] s (State.portDown s p cause restart) := by
  unfold State.portDown
  dsimp only
  repeat' first
    | with_reducible exact Within.refl _ _
    | (with_reducible apply Within.andThen within_dropQueued; · decide)
    | (with_reducible apply Within.andThen within_leaveLink; · decide)
    | (with_reducible apply Within.andThen within_leaveUp; · decide)
    | (with_reducible apply Within.andThen within_portFault; · decide)
    | (with_reducible apply Within.andThen within_restPort; · decide)
    | (with_reducible apply Within.andThen within_showPorts; · decide)
    | (with_reducible apply Within.andThen within_startBringup; · decide)
    | split

theorem within_leaveOut {s : State} {p cause : Nat} : Within [.regs, .power, .bell, .watch, .sw, .lanes, .tally, .health, .host, .out] s (State.leaveOut s p cause) := by
  unfold State.leaveOut
  repeat' first
    | with_reducible exact Within.refl _ _
    | (with_reducible apply Within.andThen within_leaveLink; · decide)
    | (with_reducible apply Within.andThen within_portFault; · decide)
    | (with_reducible apply Within.andThen within_restPort; · decide)
    | (with_reducible apply Within.andThen within_showPorts; · decide)

theorem within_wakeBoth {s : State} {p : Nat} : Within [.lanes, .out] s (State.wakeBoth s p) := by
  unfold State.wakeBoth
  dsimp only
  repeat' first
    | with_reducible exact Within.refl _ _
    | (with_reducible apply Within.andThen within_sentCtrl; · decide)
    | (with_reducible apply Within.andThen within_modPort; · decide)
    | split

theorem within_narrowNow {s : State} {p : Nat} : Within [.regs, .sw, .lanes, .out] s (State.narrowNow s p) := by
  unfold State.narrowNow
  dsimp only
  repeat' first
    | with_reducible exact Within.refl _ _
    | (with_reducible apply Within.andThen within_sentCtrl; · decide)
    | (with_reducible apply Within.andThen within_modPort; · decide)
    | (with_reducible apply Within.andThen within_abortRx; · decide)
    | (with_reducible apply Within.andThen within_askReplay; · decide)
    | (with_reducible apply Within.andThen within_setWidth; · decide)

theorem within_narrow {s : State} {p : Nat} : Within [.regs, .power, .bell, .watch, .sw, .lanes, .tally, .health, .host, .out] s (State.narrow s p) := by
  unfold State.narrow
  repeat' first
    | with_reducible exact Within.refl _ _
    | (with_reducible apply Within.andThen within_modPort; · decide)
    | (with_reducible apply Within.andThen within_narrowNow; · decide)
    | (with_reducible apply Within.andThen within_portDown; · decide)
    | (with_reducible apply Within.andThen within_wakeBoth; · decide)
    | split

theorem within_dealAgain {s : State} {p : Nat} : Within [.regs, .lanes] s (State.dealAgain s p) := by
  unfold State.dealAgain
  repeat' first
    | with_reducible exact Within.refl _ _
    | (with_reducible apply Within.andThen within_modPort; · decide)
    | (with_reducible apply Within.andThen within_setWidth; · decide)

theorem within_narrowAwake {s : State} {p : Nat} : Within [.regs, .power, .bell, .watch, .sw, .lanes, .tally, .health, .host, .out] s (State.narrowAwake s p) := by
  unfold State.narrowAwake
  repeat' first
    | with_reducible exact Within.refl _ _
    | (with_reducible apply Within.andThen within_dealAgain; · decide)
    | (with_reducible apply Within.andThen within_narrowNow; · decide)
    | (with_reducible apply Within.andThen within_portDown; · decide)
    | split
    | dsimp only

theorem within_loseLanes {s : State} {p : Nat} {ks : List Nat} {cause : Nat} : Within [.regs, .power, .bell, .watch, .sw, .lanes, .tally, .health, .host, .out] s (State.loseLanes s p ks cause) := by
  unfold State.loseLanes
  dsimp only
  repeat' first
    | with_reducible exact Within.refl _ _
    | (with_reducible apply Within.andThen within_dropQueued; · decide)
    | (with_reducible apply Within.andThen within_leaveLane; · decide)
    | (with_reducible apply Within.andThen within_leaveOut; · decide)
    | (with_reducible apply Within.andThen within_leaveUp; · decide)
    | (with_reducible apply Within.andThen within_narrow; · decide)
    | (with_reducible apply Within.andThen within_portDown; · decide)
    | (with_reducible refine Within.foldl (fun _ _ => ?_) _ ?_)
    | (with_reducible refine Within.foldl_snd (fun _ _ => ?_) _ ?_)
    | (with_reducible refine Within.foldl_fst (fun _ _ => ?_) _ ?_)
    | (with_reducible refine Within.foldl_thd (fun _ _ => ?_) _ ?_)
    | split
    | dsimp only

theorem within_requestReplay {s : State} {p seq slot : Nat} : Within [.regs, .power, .bell, .watch, .sw, .lanes, .tally, .health, .host, .out] s (State.requestReplay s p seq slot) := by
  unfold State.requestReplay
  dsimp only
  repeat' first
    | with_reducible exact Within.refl _ _
    | (with_reducible apply Within.andThen within_askReplay; · decide)
    | (with_reducible apply Within.andThen within_loseLanes; · decide)
    | (with_reducible apply Within.andThen within_portDown; · decide)
    | split
    | dsimp only

end Sys2Proof.Machine
end

