-- ==== Sys2Proof/Laws/WithinRegWrite.lean ====
section
/-! SUPPORT. Which parts of the state the operations of Machine/RegWrite.lean may change; the queue is not theirs, and the canonical form is
kept. -/

-- One proof at a time: in the package as one text, proofs run side by side would only wait for one another.
set_option Elab.async false

namespace Sys2Proof.Machine

open Sys2Proof

theorem within_writePlain {s : State} {off value : Nat} : Within [.regs] s (State.writePlain s off value) := by
  unfold State.writePlain
  repeat' first
    | with_reducible exact Within.refl _ _
    | (with_reducible apply Within.andThen within_setReg; · decide)

end Sys2Proof.Machine
end

