-- ==== Sys2Proof/Laws/WithinIngress.lean ====
section
/-! SUPPORT. Which parts of the state the operations of Machine/Ingress.lean may change; the queue is not theirs, and the canonical form is
kept. -/

-- One proof at a time: in the package as one text, proofs run side by side would only wait for one another.
set_option Elab.async false

namespace Sys2Proof.Machine

open Sys2Proof

theorem within_endpointFate {s : State} {p : Nat} {f0 : Frame} : Within [.regs, .power, .watch, .sw, .lanes, .tally, .health, .host, .out] s (State.endpointFate s p f0).2.2 := by
  unfold State.endpointFate
  dsimp only
  repeat' first
    | with_reducible exact Within.refl _ _
    | (with_reducible apply Within.andThen within_fault; · decide)
    | (with_reducible apply Within.andThen within_routeStart; · decide)
    | (with_reducible refine Within.of_snd (by assumption) ?_)
    | split
    | dsimp only

theorem within_trunkFate {s : State} {p : Nat} {f : Frame} : Within [.regs, .sw] s (State.trunkFate s p f).2.2 := by
  unfold State.trunkFate
  dsimp only
  repeat' first
    | with_reducible exact Within.refl _ _
    | (with_reducible apply Within.andThen within_routeTransit; · decide)
    | (with_reducible refine Within.of_snd (by assumption) ?_)
    | split
    | dsimp only

theorem within_openFate {s : State} {f : Frame} : Within [] s (State.openFate s f).2.2 := by
  unfold State.openFate
  repeat' first
    | with_reducible exact Within.refl _ _
    | split
    | dsimp only

theorem within_lookup {s : State} {p : Nat} {f : Frame} : Within [.regs, .power, .watch, .sw, .lanes, .tally, .health, .host, .out] s (State.lookup s p f).2.2 := by
  unfold State.lookup
  repeat' first
    | with_reducible exact Within.refl _ _
    | (with_reducible apply Within.andThen within_endpointFate; · decide)
    | (with_reducible apply Within.andThen within_openFate; · decide)
    | (with_reducible apply Within.andThen within_trunkFate; · decide)
    | (with_reducible refine Within.of_thd (by assumption) ?_)
    | split
    | dsimp only

theorem within_police {s : State} {m n colourIn : Nat} : Within [.sw] s (State.police s m n colourIn).2 := by
  unfold State.police
  dsimp only
  repeat' first
    | with_reducible exact Within.refl _ _
    | (with_reducible apply Within.andThen within_modSw; · decide)
    | split
    | dsimp only

theorem within_colour {s : State} {p : Nat} {f : Frame} : Within [.sw] s (State.colour s p f).2 := by
  unfold State.colour
  dsimp only
  repeat' first
    | with_reducible exact Within.refl _ _
    | (with_reducible apply Within.andThen within_police; · decide)
    | (with_reducible refine Within.of_snd (by assumption) ?_)
    | split
    | dsimp only

theorem within_red {s : State} {p sub : Nat} {colour : Nat} : Within [.sw] s (State.red s p sub colour).2 := by
  unfold State.red
  dsimp only
  repeat' first
    | with_reducible exact Within.refl _ _
    | (with_reducible apply Within.andThen within_modSw; · decide)
    | split
    | dsimp only

theorem within_tryAdmit {s : State} {f : Frame} {d : Dest} : Within [.sw] s (State.tryAdmit s f d).2 := by
  unfold State.tryAdmit
  dsimp only
  repeat' first
    | with_reducible exact Within.refl _ _
    | (with_reducible apply Within.andThen within_colour; · decide)
    | (with_reducible apply Within.andThen within_red; · decide)
    | (with_reducible refine Within.of_snd (by assumption) ?_)
    | split
    | dsimp only

theorem within_admitAll {s : State} {f : Frame} {ds : List Dest} : Within [.regs, .sw] s (State.admitAll s f ds).2 := by
  unfold State.admitAll
  repeat' first
    | with_reducible exact Within.refl _ _
    | (with_reducible apply Within.andThen within_count; · decide)
    | (with_reducible apply Within.andThen within_tryAdmit; · decide)
    | (with_reducible refine Within.foldl (fun _ _ => ?_) _ ?_)
    | (with_reducible refine Within.foldl_snd (fun _ _ => ?_) _ ?_)
    | (with_reducible refine Within.foldl_fst (fun _ _ => ?_) _ ?_)
    | (with_reducible refine Within.foldl_thd (fun _ _ => ?_) _ ?_)
    | (with_reducible refine Within.of_snd (by assumption) ?_)
    | split
    | dsimp only

theorem within_refused {s : State} {f : Frame} {status : Nat} : Within [.regs, .sw] s (State.refused s f status) := by
  unfold State.refused
  dsimp only
  repeat' first
    | with_reducible exact Within.refl _ _
    | (with_reducible apply Within.andThen within_count; · decide)
    | (with_reducible apply Within.andThen within_errorReply; · decide)
    | split

theorem within_turnAway {s : State} {p o k : Nat} : Within [.sw] s (State.turnAway s p o k) := by
  unfold State.turnAway
  repeat' first
    | with_reducible exact Within.refl _ _
    | (with_reducible apply Within.andThen within_modSw; · decide)
    | (with_reducible apply Within.andThen within_returnCredit; · decide)

theorem within_ingress {s : State} {p : Nat} {f : Frame} : Within [.regs, .power, .watch, .sw, .lanes, .tally, .health, .host, .out] s (State.ingress s p f) := by
  unfold State.ingress
  dsimp only
  repeat' first
    | with_reducible exact Within.refl _ _
    | (with_reducible apply Within.andThen within_count; · decide)
    | (with_reducible apply Within.andThen within_modSw; · decide)
    | (with_reducible apply Within.andThen within_admitAll; · decide)
    | (with_reducible apply Within.andThen within_colour; · decide)
    | (with_reducible apply Within.andThen within_detourBack; · decide)
    | (with_reducible apply Within.andThen within_enqueue; · decide)
    | (with_reducible apply Within.andThen within_fillCells; · decide)
    | (with_reducible apply Within.andThen within_lookup; · decide)
    | (with_reducible apply Within.andThen within_refused; · decide)
    | (with_reducible apply Within.andThen within_turnAway; · decide)
    | (with_reducible refine Within.of_snd (by assumption) ?_)
    | (with_reducible refine Within.of_thd (by assumption) ?_)
    | split
    | dsimp only

theorem within_countRx {s : State} {p : Nat} {f : Frame} : Within [.lanes] s (State.countRx s p f) := by
  unfold State.countRx
  dsimp only
  repeat' first
    | with_reducible exact Within.refl _ _
    | (with_reducible apply Within.andThen within_modPort; · decide)

end Sys2Proof.Machine
end

