-- ==== Sys2Proof/Laws/WithinSwitch.lean ====
section
/-! SUPPORT. Which parts of the state the operations of Machine/Switch.lean may change; the queue is not theirs, and the canonical form is
kept. -/

-- One proof at a time: in the package as one text, proofs run side by side would only wait for one another.
set_option Elab.async false

namespace Sys2Proof.Machine

open Sys2Proof

theorem within_sendStatus {s : State} {p : Nat} : Within [.lanes, .out] s (State.sendStatus s p) := by
  unfold State.sendStatus
  repeat' first
    | with_reducible exact Within.refl _ _
    | (with_reducible apply Within.andThen within_sentCtrl; · decide)
    | (with_reducible apply Within.andThen within_modPort; · decide)
    | split

theorem within_streamCount {s : State} {d : Desc} {c : Copy} : Within [.regs] s (State.streamCount s d c) := by
  unfold State.streamCount
  dsimp only
  repeat' first
    | with_reducible exact Within.refl _ _
    | (with_reducible apply Within.andThen within_setFld; · decide)
    | split

theorem within_finishCopy {s : State} {d : Desc} {c : Copy} : Within [.regs, .sw, .lanes, .out] s (State.finishCopy s d c) := by
  unfold State.finishCopy
  dsimp only
  repeat' first
    | with_reducible exact Within.refl _ _
    | (with_reducible apply Within.andThen within_modSw; · decide)
    | (with_reducible apply Within.andThen within_dropCopy; · decide)
    | (with_reducible apply Within.andThen within_emit; · decide)
    | (with_reducible apply Within.andThen within_reap; · decide)
    | (with_reducible apply Within.andThen within_streamCount; · decide)
    | (with_reducible apply Within.andThen within_touchShapers; · decide)
    | (with_reducible apply Within.andThen within_touchSinks; · decide)

theorem within_relay {s : State} {d : Desc} {c : Copy} : Within [.regs, .sw] s (State.relay s d c) := by
  unfold State.relay
  dsimp only
  repeat' first
    | with_reducible exact Within.refl _ _
    | (with_reducible apply Within.andThen within_count; · decide)
    | (with_reducible apply Within.andThen within_modSw; · decide)
    | (with_reducible apply Within.andThen within_admitAll; · decide)
    | (with_reducible apply Within.andThen within_detourBack; · decide)
    | (with_reducible apply Within.andThen within_enqueue; · decide)
    | (with_reducible apply Within.andThen within_freeCells; · decide)
    | (with_reducible apply Within.andThen within_handOverAll; · decide)
    | (with_reducible apply Within.andThen within_refused; · decide)
    | (with_reducible apply Within.andThen within_routeStart; · decide)
    | (with_reducible apply Within.andThen within_takeCells; · decide)
    | (with_reducible refine Within.of_snd (by assumption) ?_)
    | split
    | dsimp only

theorem within_tailGood {s : State} {p id : Nat} : Within [.regs, .sw, .lanes, .out] s (State.tailGood s p id) := by
  unfold State.tailGood
  dsimp only
  repeat' first
    | with_reducible exact Within.refl _ _
    | (with_reducible apply Within.andThen within_modSw; · decide)
    | (with_reducible apply Within.andThen within_finishCopy; · decide)
    | (with_reducible apply Within.andThen within_handOverAll; · decide)
    | (with_reducible apply Within.andThen within_reap; · decide)
    | (with_reducible apply Within.andThen within_relay; · decide)
    | (with_reducible apply Within.andThen within_showHeld; · decide)
    | (with_reducible refine Within.foldl (fun _ _ => ?_) _ ?_)
    | (with_reducible refine Within.foldl_snd (fun _ _ => ?_) _ ?_)
    | (with_reducible refine Within.foldl_fst (fun _ _ => ?_) _ ?_)
    | (with_reducible refine Within.foldl_thd (fun _ _ => ?_) _ ?_)
    | split
    | dsimp only

theorem within_rxEnd {s : State} {p : Nat} : Within [.sw] s (State.rxEnd s p) := by
  unfold State.rxEnd
  repeat' first
    | with_reducible exact Within.refl _ _
    | (with_reducible apply Within.andThen within_modSw; · decide)

theorem within_tailBad {s : State} {p id : Nat} : Within [.regs, .power, .bell, .watch, .sw, .lanes, .tally, .health, .host, .out] s (State.tailBad s p id) := by
  unfold State.tailBad
  dsimp only
  repeat' first
    | with_reducible exact Within.refl _ _
    | (with_reducible apply Within.andThen within_count; · decide)
    | (with_reducible apply Within.andThen within_killFrame; · decide)
    | (with_reducible apply Within.andThen within_requestReplay; · decide)
    | split

theorem within_startCopy {s : State} {c : Copy} : Within [.regs, .sw, .lanes, .out] s (State.startCopy s c) := by
  unfold State.startCopy
  dsimp only
  repeat' first
    | with_reducible exact Within.refl _ _
    | (with_reducible apply Within.andThen within_modSw; · decide)
    | (with_reducible apply Within.andThen within_finishCopy; · decide)
    | (with_reducible apply Within.andThen within_shaperSend; · decide)
    | (with_reducible apply Within.andThen within_useCredit; · decide)
    | split
    | dsimp only

theorem within_fenceCopy {s : State} {c : Copy} : Within [.regs, .sw, .tally] s (State.fenceCopy s c) := by
  unfold State.fenceCopy
  dsimp only
  repeat' first
    | with_reducible exact Within.refl _ _
    | (with_reducible apply Within.andThen within_count; · decide)
    | (with_reducible apply Within.andThen within_dropCopy; · decide)
    | (with_reducible apply Within.andThen within_reap; · decide)
    | (with_reducible apply Within.andThen within_resultMissed; · decide)
    | split
    | dsimp only

theorem within_dropFenced {s : State} {p : Nat} : Within [.regs, .sw, .tally] s (State.dropFenced s p) := by
  unfold State.dropFenced
  repeat' first
    | with_reducible exact Within.refl _ _
    | (with_reducible apply Within.andThen within_fenceCopy; · decide)
    | (with_reducible refine Within.foldl (fun _ _ => ?_) _ ?_)
    | (with_reducible refine Within.foldl_snd (fun _ _ => ?_) _ ?_)
    | (with_reducible refine Within.foldl_fst (fun _ _ => ?_) _ ?_)
    | (with_reducible refine Within.foldl_thd (fun _ _ => ?_) _ ?_)
    | dsimp only

theorem within_setDrr {s : State} {p : Nat} {d : Drr} : Within [.sw] s (State.setDrr s p d) := by
  unfold State.setDrr
  repeat' first
    | with_reducible exact Within.refl _ _
    | (with_reducible apply Within.andThen within_modSw; · decide)

theorem within_egressSelect {s : State} {p : Nat} : Within [.regs, .sw, .lanes, .tally, .out] s (State.egressSelect s p) := by
  unfold State.egressSelect
  dsimp only
  repeat' first
    | with_reducible exact Within.refl _ _
    | (with_reducible apply Within.andThen within_dropFenced; · decide)
    | (with_reducible apply Within.andThen within_setDrr; · decide)
    | (with_reducible apply Within.andThen within_startCopy; · decide)
    | (with_reducible apply Within.andThen within_touchShapers; · decide)
    | split
    | dsimp only

theorem within_streamNotice {s : State} {kind : Nat} {f : Frame} {payload : List Byte} : Within [.regs, .sw] s (State.streamNotice s kind f payload) := by
  unfold State.streamNotice
  repeat' first
    | with_reducible exact Within.refl _ _
    | (with_reducible apply Within.andThen within_agentSend; · decide)

theorem within_dropFencedResults {s : State} : Within [.regs, .sw, .tally] s (State.dropFencedResults s) := by
  unfold State.dropFencedResults
  dsimp only
  repeat' first
    | with_reducible exact Within.refl _ _
    | (with_reducible apply Within.andThen within_count; · decide)
    | (with_reducible apply Within.andThen within_modSw; · decide)
    | (with_reducible apply Within.andThen within_resultMissed; · decide)
    | (with_reducible refine Within.foldl (fun _ _ => ?_) _ ?_)
    | (with_reducible refine Within.foldl_snd (fun _ _ => ?_) _ ?_)
    | (with_reducible refine Within.foldl_fst (fun _ _ => ?_) _ ?_)
    | (with_reducible refine Within.foldl_thd (fun _ _ => ?_) _ ?_)
    | split
    | dsimp only

theorem within_topUp {s : State} {p c sub : Nat} : Within [.regs, .sw] s (State.topUp s p c sub) := by
  unfold State.topUp
  dsimp only
  repeat' first
    | with_reducible exact Within.refl _ _
    | (with_reducible apply Within.andThen within_modSw; · decide)
    | (with_reducible apply Within.andThen within_holdCells; · decide)
    | split

theorem within_stopBanks {s : State} {bs : List Nat} : Within [.sw] s (State.stopBanks s bs) := by
  unfold State.stopBanks
  repeat' first
    | with_reducible exact Within.refl _ _
    | (with_reducible apply Within.andThen within_modSw; · decide)
    | (with_reducible refine Within.foldl (fun _ _ => ?_) _ ?_)
    | (with_reducible refine Within.foldl_snd (fun _ _ => ?_) _ ?_)
    | (with_reducible refine Within.foldl_fst (fun _ _ => ?_) _ ?_)
    | (with_reducible refine Within.foldl_thd (fun _ _ => ?_) _ ?_)
    | split
    | dsimp only

theorem within_loseCells {s : State} {owner : Nat} {chain : List Nat} : Within [.sw] s (State.loseCells s owner chain) := by
  unfold State.loseCells
  repeat' first
    | with_reducible exact Within.refl _ _
    | (with_reducible apply Within.andThen within_modSw; · decide)
    | (with_reducible apply Within.andThen within_stopBanks; · decide)

theorem within_loseCopy {s : State} {c : Copy} : Within [.regs, .sw, .lanes, .out] s (State.loseCopy s c) := by
  unfold State.loseCopy
  dsimp only
  repeat' first
    | with_reducible exact Within.refl _ _
    | (with_reducible apply Within.andThen within_count; · decide)
    | (with_reducible apply Within.andThen within_modSw; · decide)
    | (with_reducible apply Within.andThen within_detourBack; · decide)
    | (with_reducible apply Within.andThen within_dropCopy; · decide)
    | (with_reducible apply Within.andThen within_emit; · decide)
    | (with_reducible apply Within.andThen within_loseCells; · decide)
    | split
    | dsimp only

theorem within_loseItem {s : State} {i : AgentItem} {rebuild : Bool} : Within [.regs, .sw] s (State.loseItem s i rebuild) := by
  unfold State.loseItem
  dsimp only
  repeat' first
    | with_reducible exact Within.refl _ _
    | (with_reducible apply Within.andThen within_count; · decide)
    | (with_reducible apply Within.andThen within_modSw; · decide)
    | (with_reducible apply Within.andThen within_loseCells; · decide)
    | (with_reducible apply Within.andThen within_releaseCells; · decide)
    | split

theorem within_writeDead {s : State} {off value : Nat} : Within [.regs, .sw] s (State.writeDead s off value) := by
  unfold State.writeDead
  dsimp only
  repeat' first
    | with_reducible exact Within.refl _ _
    | (with_reducible apply Within.andThen within_dropBundle; · decide)
    | (with_reducible apply Within.andThen within_writePlain; · decide)
    | (with_reducible refine Within.foldl (fun _ _ => ?_) _ ?_)
    | (with_reducible refine Within.foldl_snd (fun _ _ => ?_) _ ?_)
    | (with_reducible refine Within.foldl_fst (fun _ _ => ?_) _ ?_)
    | (with_reducible refine Within.foldl_thd (fun _ _ => ?_) _ ?_)
    | dsimp only

theorem within_carryTo {s : State} {p colour : Nat} {eth : List Byte} {ts : List Nat} : Within [.regs, .sw] s (State.carryTo s p colour eth ts).2.2 := by
  unfold State.carryTo
  dsimp only
  repeat' first
    | with_reducible exact Within.refl _ _
    | (with_reducible apply Within.andThen within_count; · decide)
    | (with_reducible apply Within.andThen within_admitAll; · decide)
    | (with_reducible refine Within.foldl (fun _ _ => ?_) _ ?_)
    | (with_reducible refine Within.foldl_snd (fun _ _ => ?_) _ ?_)
    | (with_reducible refine Within.foldl_fst (fun _ _ => ?_) _ ?_)
    | (with_reducible refine Within.foldl_thd (fun _ _ => ?_) _ ?_)
    | (with_reducible refine Within.of_snd (by assumption) ?_)
    | split
    | dsimp only

theorem within_ethColour {s : State} {p : Nat} {eth : List Byte} : Within [.sw] s (State.ethColour s p eth).2 := by
  unfold State.ethColour
  dsimp only
  repeat' first
    | with_reducible exact Within.refl _ _
    | (with_reducible apply Within.andThen within_police; · decide)
    | (with_reducible refine Within.of_snd (by assumption) ?_)
    | split
    | dsimp only

theorem within_spoilCut {s : State} {ds : List Dest} {id : Nat} : Within [.regs, .sw, .lanes, .tally, .out] s (State.spoilCut s ds id) := by
  unfold State.spoilCut
  repeat' first
    | with_reducible exact Within.refl _ _
    | (with_reducible apply Within.andThen within_egressSelect; · decide)
    | (with_reducible apply Within.andThen within_killFrame; · decide)
    | (with_reducible refine Within.foldl (fun _ _ => ?_) _ ?_)
    | (with_reducible refine Within.foldl_snd (fun _ _ => ?_) _ ?_)
    | (with_reducible refine Within.foldl_fst (fun _ _ => ?_) _ ?_)
    | (with_reducible refine Within.foldl_thd (fun _ _ => ?_) _ ?_)
    | split
    | dsimp only

theorem within_bridgeIn {s : State} {p : Nat} {eth : List Byte} {fcsOk : Bool} : Within [.regs, .sw, .lanes, .tally, .out] s (State.bridgeIn s p eth fcsOk) := by
  unfold State.bridgeIn
  dsimp only
  repeat' first
    | with_reducible exact Within.refl _ _
    | (with_reducible apply Within.andThen within_count; · decide)
    | (with_reducible apply Within.andThen within_carryTo; · decide)
    | (with_reducible apply Within.andThen within_enqueue; · decide)
    | (with_reducible apply Within.andThen within_ethColour; · decide)
    | (with_reducible apply Within.andThen within_spoilCut; · decide)
    | (with_reducible apply Within.andThen within_takeCells; · decide)
    | (with_reducible refine Within.of_snd (by assumption) ?_)
    | (with_reducible refine Within.of_thd (by assumption) ?_)
    | split
    | dsimp only

theorem within_bridgeOut {s : State} {p : Nat} {eth : List Byte} {colour owner inPort cells : Nat} {chain : List Nat} : Within [.regs, .sw] s (State.bridgeOut s p eth colour owner inPort cells chain) := by
  unfold State.bridgeOut
  dsimp only
  repeat' first
    | with_reducible exact Within.refl _ _
    | (with_reducible apply Within.andThen within_count; · decide)
    | (with_reducible apply Within.andThen within_modSw; · decide)
    | (with_reducible apply Within.andThen within_carryTo; · decide)
    | (with_reducible apply Within.andThen within_enqueue; · decide)
    | (with_reducible apply Within.andThen within_releaseCells; · decide)
    | (with_reducible refine Within.of_thd (by assumption) ?_)
    | split
    | dsimp only

theorem within_bridgeCarried {s : State} {p : Nat} {eth : List Byte} : Within [.regs, .sw] s (State.bridgeCarried s p eth) := by
  unfold State.bridgeCarried
  dsimp only
  repeat' first
    | with_reducible exact Within.refl _ _
    | (with_reducible apply Within.andThen within_count; · decide)
    | (with_reducible apply Within.andThen within_modSw; · decide)
    | (with_reducible apply Within.andThen within_bridgeOut; · decide)
    | (with_reducible apply Within.andThen within_colour; · decide)
    | (with_reducible apply Within.andThen within_takeCells; · decide)
    | (with_reducible refine Within.of_snd (by assumption) ?_)
    | split
    | dsimp only

end Sys2Proof.Machine
end

