-- ==== Sys2Proof/Laws/WithinBell.lean ====
section
/-! SUPPORT. Which parts of the state the operations of Machine/Bell.lean may change; the queue is not theirs, and the canonical form is
kept. -/

-- One proof at a time: in the package as one text, proofs run side by side would only wait for one another.
set_option Elab.async false

namespace Sys2Proof.Machine

open Sys2Proof

theorem within_refreshRoot {s : State} : Within [.regs] s (State.refreshRoot s) := by
  unfold State.refreshRoot
  repeat' first
    | with_reducible exact Within.refl _ _
    | (with_reducible apply Within.andThen within_setFld; · decide)
    | split

theorem within_sendDir {s : State} {d : Nat} {kind : Nat} {payload : List Byte} : Within [.regs, .sw] s (State.sendDir s d kind payload) := by
  unfold State.sendDir
  dsimp only
  repeat' first
    | with_reducible exact Within.refl _ _
    | (with_reducible apply Within.andThen within_enqueue; · decide)
    | (with_reducible apply Within.andThen within_takeCells; · decide)
    | split
    | dsimp only

theorem within_timingDrop {s : State} : Within [.regs] s (State.timingDrop s) := by
  unfold State.timingDrop
  repeat' first
    | with_reducible exact Within.refl _ _
    | (with_reducible apply Within.andThen within_count; · decide)

theorem within_setLock {s : State} {l : Nat} : Within [.regs, .power, .bell, .watch, .sw, .lanes, .tally, .health, .host, .out] s (State.setLock s l) := by
  unfold State.setLock
  dsimp only
  repeat' first
    | with_reducible exact Within.refl _ _
    | (with_reducible apply Within.andThen within_setFld; · decide)
    | (with_reducible apply Within.andThen within_modBell; · decide)
    | (with_reducible apply Within.andThen within_choice; · decide)
    | (with_reducible apply Within.andThen within_fault; · decide)
    | split

theorem within_setBell {s : State} {a : Announce} {d : Int} : Within [.regs, .bell] s (State.setBell s a d) := by
  unfold State.setBell
  dsimp only
  repeat' first
    | with_reducible exact Within.refl _ _
    | (with_reducible apply Within.andThen within_setReg; · decide)
    | (with_reducible apply Within.andThen within_setFld; · decide)
    | (with_reducible apply Within.andThen within_raise; · decide)
    | (with_reducible apply Within.andThen within_modBell; · decide)
    | split

theorem within_trySet {s : State} {d : Nat} : Within [.regs, .bell] s (State.trySet s d) := by
  unfold State.trySet
  repeat' first
    | with_reducible exact Within.refl _ _
    | (with_reducible apply Within.andThen within_setBell; · decide)
    | split
    | dsimp only

theorem within_showHops {s : State} : Within [.regs] s (State.showHops s) := by
  unfold State.showHops
  repeat' first
    | with_reducible exact Within.refl _ _
    | (with_reducible apply Within.andThen within_setFld; · decide)
    | split
    | dsimp only

theorem within_takeHops {s : State} {d h l : Nat} : Within [.regs, .bell] s (State.takeHops s d h l) := by
  unfold State.takeHops
  repeat' first
    | with_reducible exact Within.refl _ _
    | (with_reducible apply Within.andThen within_modDir; · decide)
    | (with_reducible apply Within.andThen within_showHops; · decide)

theorem within_lockStep {s : State} {u : Int} {parentLock : Nat} : Within [.regs, .power, .bell, .watch, .sw, .lanes, .tally, .health, .host, .out] s (State.lockStep s u parentLock) := by
  unfold State.lockStep
  dsimp only
  repeat' first
    | with_reducible exact Within.refl _ _
    | (with_reducible apply Within.andThen within_modBell; · decide)
    | (with_reducible apply Within.andThen within_setLock; · decide)
    | split

end Sys2Proof.Machine
end

