-- ==== Sys2Proof/Laws/WithinLanes.lean ====
section
/-! SUPPORT. Which parts of the state the operations of Machine/Lanes.lean may change; the queue is not theirs, and the canonical form is
kept. -/

-- One proof at a time: in the package as one text, proofs run side by side would only wait for one another.
set_option Elab.async false

namespace Sys2Proof.Machine

open Sys2Proof

theorem within_toStage {s : State} {p stage : Nat} : Within [.regs, .lanes, .out] s (State.toStage s p stage) := by
  unfold State.toStage
  dsimp only
  repeat' first
    | with_reducible exact Within.refl _ _
    | (with_reducible apply Within.andThen within_modOut; · decide)
    | (with_reducible apply Within.andThen within_setFld; · decide)
    | (with_reducible apply Within.andThen within_modPort; · decide)
    | (with_reducible apply Within.andThen within_showLanes; · decide)
    | split

theorem within_loseInStage {s : State} {p mask cause kind : Nat} : Within [.regs, .power, .watch, .sw, .lanes, .tally, .health, .host, .out] s (State.loseInStage s p mask cause kind) := by
  unfold State.loseInStage
  repeat' first
    | with_reducible exact Within.refl _ _
    | (with_reducible apply Within.andThen within_leaveLane; · decide)
    | (with_reducible refine Within.foldl (fun _ _ => ?_) _ ?_)
    | (with_reducible refine Within.foldl_snd (fun _ _ => ?_) _ ?_)
    | (with_reducible refine Within.foldl_fst (fun _ _ => ?_) _ ?_)
    | (with_reducible refine Within.foldl_thd (fun _ _ => ?_) _ ?_)
    | dsimp only

theorem within_showTaps {s : State} {n : Nat} : Within [.regs, .free] s (State.showTaps s n) := by
  unfold State.showTaps
  dsimp only
  repeat' first
    | with_reducible exact Within.refl _ _
    | (with_reducible apply Within.andThen within_setReg; · decide)
    | (with_reducible apply Within.andThen within_nextFree; · decide)

theorem within_joinPort {s : State} {p : Nat} : Within [.regs, .power, .bell, .sw, .lanes, .out] s (State.joinPort s p) := by
  unfold State.joinPort
  dsimp only
  repeat' first
    | with_reducible exact Within.refl _ _
    | (with_reducible apply Within.andThen within_setFld; · decide)
    | (with_reducible apply Within.andThen within_modPort; · decide)
    | (with_reducible apply Within.andThen within_modSw; · decide)
    | (with_reducible apply Within.andThen within_sendDir; · decide)
    | (with_reducible apply Within.andThen within_showPorts; · decide)
    | split
    | dsimp only

theorem within_endStage {s : State} {p : Nat} {found : StageFinding} {late : Bool} : Within [.regs, .power, .bell, .watch, .sw, .lanes, .tally, .health, .host, .out, .free] s (State.endStage s p found late) := by
  unfold State.endStage
  dsimp only
  repeat' first
    | with_reducible exact Within.refl _ _
    | (with_reducible apply Within.andThen within_setFld; · decide)
    | (with_reducible apply Within.andThen within_sentCtrl; · decide)
    | (with_reducible apply Within.andThen within_modPort; · decide)
    | (with_reducible apply Within.andThen within_fault; · decide)
    | (with_reducible apply Within.andThen within_holdDown; · decide)
    | (with_reducible apply Within.andThen within_joinPort; · decide)
    | (with_reducible apply Within.andThen within_leaveLink; · decide)
    | (with_reducible apply Within.andThen within_leaveOut; · decide)
    | (with_reducible apply Within.andThen within_loseInStage; · decide)
    | (with_reducible apply Within.andThen within_restPort; · decide)
    | (with_reducible apply Within.andThen within_setWidth; · decide)
    | (with_reducible apply Within.andThen within_showPorts; · decide)
    | (with_reducible apply Within.andThen within_showTaps; · decide)
    | (with_reducible apply Within.andThen within_toStage; · decide)
    | (with_reducible refine Within.foldl (fun _ _ => ?_) _ ?_)
    | (with_reducible refine Within.foldl_snd (fun _ _ => ?_) _ ?_)
    | (with_reducible refine Within.foldl_fst (fun _ _ => ?_) _ ?_)
    | (with_reducible refine Within.foldl_thd (fun _ _ => ?_) _ ?_)
    | split
    | dsimp only

theorem within_endEth {s : State} {p : Nat} {found : StageFinding} {late : Bool} : Within [.regs, .power, .bell, .watch, .sw, .lanes, .tally, .health, .host, .out] s (State.endEth s p found late) := by
  unfold State.endEth
  dsimp only
  repeat' first
    | with_reducible exact Within.refl _ _
    | (with_reducible apply Within.andThen within_modPort; · decide)
    | (with_reducible apply Within.andThen within_joinPort; · decide)
    | (with_reducible apply Within.andThen within_leaveOut; · decide)
    | (with_reducible apply Within.andThen within_loseInStage; · decide)
    | (with_reducible apply Within.andThen within_restPort; · decide)
    | (with_reducible apply Within.andThen within_setWidth; · decide)
    | (with_reducible apply Within.andThen within_showPorts; · decide)
    | (with_reducible apply Within.andThen within_toStage; · decide)
    | split

theorem within_enterLinks {s : State} : Within [.regs, .power, .bell, .lanes, .out] s (State.enterLinks s) := by
  unfold State.enterLinks
  dsimp only
  repeat' first
    | with_reducible exact Within.refl _ _
    | (with_reducible apply Within.andThen within_setFld; · decide)
    | (with_reducible apply Within.andThen within_setPhase; · decide)
    | (with_reducible apply Within.andThen within_showPorts; · decide)
    | (with_reducible apply Within.andThen within_startBringup; · decide)
    | (with_reducible refine Within.foldl (fun _ _ => ?_) _ ?_)
    | (with_reducible refine Within.foldl_snd (fun _ _ => ?_) _ ?_)
    | (with_reducible refine Within.foldl_fst (fun _ _ => ?_) _ ?_)
    | (with_reducible refine Within.foldl_thd (fun _ _ => ?_) _ ?_)
    | split
    | dsimp only

theorem within_takeCredit {s : State} {o new : Nat} : Within [.sw] s (State.takeCredit s o new) := by
  unfold State.takeCredit
  dsimp only
  repeat' first
    | with_reducible exact Within.refl _ _
    | (with_reducible apply Within.andThen within_modSw; · decide)

theorem within_takeDetour {s : State} {p new : Nat} : Within [.sw] s (State.takeDetour s p new) := by
  unfold State.takeDetour
  dsimp only
  repeat' first
    | with_reducible exact Within.refl _ _
    | (with_reducible apply Within.andThen within_modSw; · decide)
    | split
    | dsimp only

theorem within_takeAck {s : State} {p ack : Nat} : Within [.lanes] s (State.takeAck s p ack) := by
  unfold State.takeAck
  dsimp only
  repeat' first
    | with_reducible exact Within.refl _ _
    | (with_reducible apply Within.andThen within_modPort; · decide)
    | split

theorem within_replayFrom {s : State} {p seq : Nat} : Within [.regs, .lanes, .out] s (State.replayFrom s p seq) := by
  unfold State.replayFrom
  dsimp only
  repeat' first
    | with_reducible exact Within.refl _ _
    | (with_reducible apply Within.andThen within_count; · decide)
    | (with_reducible apply Within.andThen within_sentFrame; · decide)
    | (with_reducible apply Within.andThen within_sentCtrl; · decide)
    | (with_reducible apply Within.andThen within_modPort; · decide)
    | (with_reducible apply Within.andThen within_choice; · decide)
    | (with_reducible refine Within.foldl (fun _ _ => ?_) _ ?_)
    | (with_reducible refine Within.foldl_snd (fun _ _ => ?_) _ ?_)
    | (with_reducible refine Within.foldl_fst (fun _ _ => ?_) _ ?_)
    | (with_reducible refine Within.foldl_thd (fun _ _ => ?_) _ ?_)
    | dsimp only

theorem within_failTile {s : State} {tile : Nat} : Within [.regs, .power, .bell, .watch, .sw, .lanes, .tally, .health, .host, .out] s (State.failTile s tile) := by
  unfold State.failTile
  dsimp only
  repeat' first
    | with_reducible exact Within.refl _ _
    | (with_reducible apply Within.andThen within_setReg; · decide)
    | (with_reducible apply Within.andThen within_setRegBit; · decide)
    | (with_reducible apply Within.andThen within_fault; · decide)
    | (with_reducible apply Within.andThen within_portDown; · decide)
    | (with_reducible apply Within.andThen within_retryAgents; · decide)
    | (with_reducible refine Within.foldl (fun _ _ => ?_) _ ?_)
    | (with_reducible refine Within.foldl_snd (fun _ _ => ?_) _ ?_)
    | (with_reducible refine Within.foldl_fst (fun _ _ => ?_) _ ?_)
    | (with_reducible refine Within.foldl_thd (fun _ _ => ?_) _ ?_)
    | split
    | dsimp only

theorem within_laneRefuse {s : State} {f : Fld} {p : Nat} : Within [.regs] s (State.laneRefuse s f p) := by
  unfold State.laneRefuse
  repeat' first
    | with_reducible exact Within.refl _ _
    | (with_reducible apply Within.andThen within_setFld; · decide)
    | (with_reducible apply Within.andThen within_raise; · decide)

theorem within_startWake {s : State} {p : Nat} : Within [.lanes] s (State.startWake s p) := by
  unfold State.startWake
  repeat' first
    | with_reducible exact Within.refl _ _
    | (with_reducible apply Within.andThen within_modPort; · decide)
    | split

theorem within_wakeDue {s : State} {port : Nat} : Within [.regs, .lanes] s (State.wakeDue s port) := by
  unfold State.wakeDue
  dsimp only
  repeat' first
    | with_reducible exact Within.refl _ _
    | (with_reducible apply Within.andThen within_choice; · decide)
    | (with_reducible apply Within.andThen within_startWake; · decide)
    | split

theorem within_shutPort {s : State} {p : Nat} : Within [.regs, .power, .bell, .sw, .lanes, .out] s (State.shutPort s p) := by
  unfold State.shutPort
  dsimp only
  repeat' first
    | with_reducible exact Within.refl _ _
    | (with_reducible apply Within.andThen within_setFld; · decide)
    | (with_reducible apply Within.andThen within_modPort; · decide)
    | (with_reducible apply Within.andThen within_dropQueued; · decide)
    | (with_reducible apply Within.andThen within_leaveSwitch; · decide)
    | (with_reducible apply Within.andThen within_showPorts; · decide)
    | (with_reducible apply Within.andThen within_startWake; · decide)
    | split

end Sys2Proof.Machine
end

