-- ==== Sys2Proof/Laws/WithinMemOps.lean ====
section
/-! SUPPORT. Which parts of the state the operations of Machine/MemOps.lean may change; the queue is not theirs, and the canonical form is
kept. -/

-- One proof at a time: in the package as one text, proofs run side by side would only wait for one another.
set_option Elab.async false

namespace Sys2Proof.Machine

open Sys2Proof

theorem within_memCount {s : State} {st i : Nat} : Within [.regs] s (State.memCount s st i) := by
  unfold State.memCount
  repeat' first
    | with_reducible exact Within.refl _ _
    | (with_reducible apply Within.andThen within_count; · decide)

theorem within_transferred {s : State} {st : Nat} : Within [.mem] s (State.transferred s st) := by
  unfold State.transferred
  repeat' first
    | with_reducible exact Within.refl _ _
    | (with_reducible apply Within.andThen (within_modMem' ?_); any_goals first | decide | exact fun _ => rfl | exact fun _ => ⟨rfl, rfl⟩ | (intro k; simp; done))
    | (with_reducible apply Within.andThen within_modMem; · decide)

theorem within_putPair {s : State} {p : Nat} {data : List Byte} : Within [.mem] s (State.putPair s p data) := by
  unfold State.putPair
  split
  · exact Within.refl _ _
  · refine within_modMem (fun w => ?_)
    simp only [Memory.wf, Bool.and_eq_true] at w ⊢
    exact ⟨sparseWf_write w.1, sparseWf_erase w.2⟩

theorem within_openEntry {s : State} {e : MergeEntry} : Within [.regs, .mem] s (State.openEntry s e) := by
  unfold State.openEntry
  dsimp only
  repeat' first
    | with_reducible exact Within.refl _ _
    | (with_reducible apply Within.andThen (within_modMem' ?_); any_goals first | decide | exact fun _ => rfl | exact fun _ => ⟨rfl, rfl⟩ | (intro k; simp; done))
    | (with_reducible apply Within.andThen within_memCount; · decide)
    | (with_reducible apply Within.andThen within_modMem; · decide)
    | split

theorem within_mergeIn {s : State} {e : MergeEntry} : Within [.mem] s (State.mergeIn s e) := by
  unfold State.mergeIn
  split
  · exact Within.refl _ _
  · refine within_modMem (fun w => ?_)
    simp only [Memory.wf, Bool.and_eq_true] at w ⊢
    exact ⟨sparseWf_write w.1, w.2⟩


theorem within_flushEntry {s : State} {e : MergeEntry} : Within [.regs, .mem] s (State.flushEntry s e) := by
  unfold State.flushEntry
  repeat' first
    | with_reducible exact Within.refl _ _
    | (with_reducible apply Within.andThen within_mergeIn; · decide)
    | (with_reducible apply Within.andThen within_openEntry; · decide)

theorem within_settle {s : State} {p : Nat} : Within [.regs, .mem] s (State.settle s p) := by
  unfold State.settle
  repeat' first
    | with_reducible exact Within.refl _ _
    | (with_reducible apply Within.andThen within_flushEntry; · decide)
    | split
    | dsimp only

theorem within_mergeWrite {s : State} {p off : Nat} {data : List Byte} : Within [.regs, .mem] s (State.mergeWrite s p off data) := by
  unfold State.mergeWrite
  dsimp only
  repeat' first
    | with_reducible exact Within.refl _ _
    | (with_reducible apply Within.andThen (within_modMem' ?_); any_goals first | decide | exact fun _ => rfl | exact fun _ => ⟨rfl, rfl⟩ | (intro k; simp; done))
    | (with_reducible apply Within.andThen within_flushEntry; · decide)
    | (with_reducible apply Within.andThen within_modMem; · decide)
    | (with_reducible apply Within.andThen within_putPair; · decide)
    | (with_reducible refine Within.foldl (fun _ _ => ?_) _ ?_)
    | (with_reducible refine Within.foldl_snd (fun _ _ => ?_) _ ?_)
    | (with_reducible refine Within.foldl_fst (fun _ _ => ?_) _ ?_)
    | (with_reducible refine Within.foldl_thd (fun _ _ => ?_) _ ?_)
    | split
    | dsimp only

theorem within_poolWriteFuel {n : Nat} {s : State} {a : Nat} {bs : List Byte} : Within [.regs, .mem] s (State.poolWriteFuel n s a bs) := by
  induction n generalizing s a bs with
  | zero => exact Within.refl _ _
  | succ n ih =>
    unfold State.poolWriteFuel
    dsimp only
    repeat' first
      | with_reducible exact Within.refl _ _
      | (with_reducible apply Within.andThen ih; · decide)
      | (with_reducible apply Within.andThen within_putPair; · decide)
      | (with_reducible apply Within.andThen within_mergeWrite; · decide)
      | split

theorem within_poolWrite {s : State} {a : Nat} {bs : List Byte} : Within [.regs, .mem] s (State.poolWrite s a bs) := by
  unfold State.poolWrite
  repeat' first
    | with_reducible exact Within.refl _ _
    | (with_reducible apply Within.andThen within_poolWriteFuel; · decide)
    | (with_reducible apply Within.andThen within_transferred; · decide)

theorem within_touchPair {s : State} {p : Nat} : Within [.regs, .mem] s (State.touchPair s p) := by
  unfold State.touchPair
  dsimp only
  repeat' first
    | with_reducible exact Within.refl _ _
    | (with_reducible apply Within.andThen within_memCount; · decide)
    | (with_reducible apply Within.andThen within_settle; · decide)
    | (with_reducible apply Within.andThen within_transferred; · decide)
    | split

theorem within_poolRead {s : State} {a n : Nat} : Within [.regs, .mem] s (State.poolRead s a n).2 := by
  unfold State.poolRead
  dsimp only
  repeat' first
    | with_reducible exact Within.refl _ _
    | (with_reducible apply Within.andThen within_touchPair; · decide)
    | (with_reducible refine Within.foldl (fun _ _ => ?_) _ ?_)
    | (with_reducible refine Within.foldl_snd (fun _ _ => ?_) _ ?_)
    | (with_reducible refine Within.foldl_fst (fun _ _ => ?_) _ ?_)
    | (with_reducible refine Within.foldl_thd (fun _ _ => ?_) _ ?_)
    | split
    | dsimp only

theorem within_porterRead {s : State} {a n : Nat} : Within [.regs, .mem] s (State.porterRead s a n).2 := by
  unfold State.porterRead
  dsimp only
  repeat' first
    | with_reducible exact Within.refl _ _
    | (with_reducible apply Within.andThen within_count; · decide)
    | (with_reducible apply Within.andThen within_countBy; · decide)
    | (with_reducible apply Within.andThen within_poolRead; · decide)
    | (with_reducible refine Within.of_snd (by assumption) ?_)
    | split
    | dsimp only

theorem within_porterWrite {s : State} {a : Nat} {bs : List Byte} : Within [.regs, .mem] s (State.porterWrite s a bs) := by
  unfold State.porterWrite
  dsimp only
  repeat' first
    | with_reducible exact Within.refl _ _
    | (with_reducible apply Within.andThen within_count; · decide)
    | (with_reducible apply Within.andThen within_countBy; · decide)
    | (with_reducible apply Within.andThen within_poolWrite; · decide)

theorem within_readLedgers {s : State} {rs : List Nat} : Within [.regs, .mem] s (State.readLedgers s rs) := by
  unfold State.readLedgers
  repeat' first
    | with_reducible exact Within.refl _ _
    | (with_reducible apply Within.andThen within_porterRead; · decide)
    | (with_reducible refine Within.foldl (fun _ _ => ?_) _ ?_)
    | (with_reducible refine Within.foldl_snd (fun _ _ => ?_) _ ?_)
    | (with_reducible refine Within.foldl_fst (fun _ _ => ?_) _ ?_)
    | (with_reducible refine Within.foldl_thd (fun _ _ => ?_) _ ?_)
    | (with_reducible refine Within.of_snd (by assumption) ?_)
    | dsimp only

theorem within_readLedger {s : State} {r : Nat} : Within [.regs, .mem] s (State.readLedger s r).2 := by
  unfold State.readLedger
  repeat' first
    | with_reducible exact Within.refl _ _
    | (with_reducible apply Within.andThen within_porterRead; · decide)
    | (with_reducible refine Within.of_snd (by assumption) ?_)
    | split
    | dsimp only

theorem within_setLedger {s : State} {r refs : Nat} {poison : Bool} : Within [.regs, .mem] s (State.setLedger s r refs poison) := by
  unfold State.setLedger
  repeat' first
    | with_reducible exact Within.refl _ _
    | (with_reducible apply Within.andThen within_porterRead; · decide)
    | (with_reducible apply Within.andThen within_porterWrite; · decide)
    | (with_reducible refine Within.of_snd (by assumption) ?_)
    | split

theorem within_freeRoomsBy {s : State} {d : Int} : Within [.regs] s (State.freeRoomsBy s d) := by
  unfold State.freeRoomsBy
  repeat' first
    | with_reducible exact Within.refl _ _
    | (with_reducible apply Within.andThen within_setFld; · decide)
    | (with_reducible apply Within.andThen within_count; · decide)
    | split

theorem within_poisonRoom {s : State} {r : Nat} : Within [.regs, .mem] s (State.poisonRoom s r) := by
  unfold State.poisonRoom
  dsimp only
  repeat' first
    | with_reducible exact Within.refl _ _
    | (with_reducible apply Within.andThen within_setFld; · decide)
    | (with_reducible apply Within.andThen within_freeRoomsBy; · decide)
    | (with_reducible apply Within.andThen within_porterRead; · decide)
    | (with_reducible apply Within.andThen within_setLedger; · decide)
    | (with_reducible refine Within.of_snd (by assumption) ?_)
    | split

theorem within_poisonPair {s : State} {p : Nat} : Within [.regs, .power, .watch, .sw, .lanes, .tally, .mem, .health, .host, .out] s (State.poisonPair s p) := by
  have h : Within [.regs, .power, .watch, .sw, .lanes, .tally, .mem, .health, .host, .out] s (s.modMem (fun m => { m with
      bytes := sparseWrite 0 m.bytes (64 * p) (zeroBytes 64), poison := sparseSet false m.poison p true,
      merge := m.merge.filter (fun e => e.pair != p) })) := by
    refine (within_modMem (fun w => ?_)).mono (by decide)
    simp only [Memory.wf, Bool.and_eq_true] at w ⊢
    exact ⟨sparseWf_write w.1, sparseWf_set w.2⟩
  unfold State.poisonPair
  dsimp only
  repeat' first
    | exact h
    | (with_reducible apply Within.andThen within_memCount; · decide)
    | (with_reducible apply Within.andThen within_fault; · decide)
    | (with_reducible apply Within.andThen within_poisonRoom; · decide)
    | split

theorem within_recordCe {s : State} {p symbol : Nat} : Within [.regs, .power, .watch, .sw, .lanes, .tally, .mem, .health, .host, .out] s (State.recordCe s p symbol).2 := by
  unfold State.recordCe
  dsimp only
  repeat' first
    | with_reducible exact Within.refl _ _
    | (with_reducible apply Within.andThen (within_modMem' ?_); any_goals first | decide | exact fun _ => rfl | exact fun _ => ⟨rfl, rfl⟩ | (intro k; simp; done))
    | (with_reducible apply Within.andThen within_setReg; · decide)
    | (with_reducible apply Within.andThen within_setFld; · decide)
    | (with_reducible apply Within.andThen within_raise; · decide)
    | (with_reducible apply Within.andThen within_fault; · decide)
    | (with_reducible apply Within.andThen within_memCount; · decide)
    | (with_reducible apply Within.andThen within_modMem; · decide)
    | split
    | dsimp only

theorem within_correctPair {s : State} {p symbol : Nat} : Within [.regs, .power, .watch, .sw, .lanes, .tally, .mem, .health, .host, .out] s (State.correctPair s p symbol).2 := by
  unfold State.correctPair
  repeat' first
    | with_reducible exact Within.refl _ _
    | (with_reducible apply Within.andThen within_memCount; · decide)
    | (with_reducible apply Within.andThen within_recordCe; · decide)
    | (with_reducible refine Within.of_snd (by assumption) ?_)
    | split
    | dsimp only

theorem within_applyLevel {s : State} {st : Nat} : Within [.regs, .power, .watch, .sw, .lanes, .tally, .health, .host, .out] s (State.applyLevel s st) := by
  unfold State.applyLevel
  dsimp only
  repeat' first
    | with_reducible exact Within.refl _ _
    | (with_reducible apply Within.andThen within_setFld; · decide)
    | (with_reducible apply Within.andThen within_choice; · decide)
    | (with_reducible apply Within.andThen within_fault; · decide)
    | (with_reducible apply Within.andThen within_memCount; · decide)
    | split

theorem within_loseStack {s : State} {st : Nat} : Within [.regs, .power, .watch, .sw, .lanes, .tally, .health, .host, .out] s (State.loseStack s st) := by
  unfold State.loseStack
  dsimp only
  repeat' first
    | with_reducible exact Within.refl _ _
    | (with_reducible apply Within.andThen within_setReg; · decide)
    | (with_reducible apply Within.andThen within_raise; · decide)
    | (with_reducible apply Within.andThen within_count; · decide)
    | (with_reducible apply Within.andThen within_setRegBit; · decide)
    | (with_reducible apply Within.andThen within_fault; · decide)
    | (with_reducible apply Within.andThen within_freeRoomsBy; · decide)
    | split

end Sys2Proof.Machine
end

