-- ==== Sys2Proof/Laws/WithinFlashOps.lean ====
section
/-! SUPPORT. Which parts of the state the operations of Machine/FlashOps.lean may change; the queue is not theirs, and the canonical form is
kept. -/

-- One proof at a time: in the package as one text, proofs run side by side would only wait for one another.
set_option Elab.async false

namespace Sys2Proof.Machine

open Sys2Proof

theorem within_measure {s : State} {block : Nat} {digest : List Byte} {id : Nat} : Within [.host] s (State.measure s block digest id) := by
  unfold State.measure
  dsimp only
  repeat' first
    | with_reducible exact Within.refl _ _
    | (with_reducible apply Within.andThen within_modHost; · decide)
    | split
    | dsimp only

theorem within_bootComponent {s : State} {c : Nat} : Within [.regs, .host] s (State.bootComponent s c).2 := by
  unfold State.bootComponent
  dsimp only
  repeat' first
    | with_reducible exact Within.refl _ _
    | (with_reducible apply Within.andThen within_setFld; · decide)
    | (with_reducible apply Within.andThen within_modHost; · decide)
    | (with_reducible apply Within.andThen within_measure; · decide)
    | split
    | dsimp only

theorem within_loadFirmware {s : State} {c : Nat} {im : List Byte} : Within [.regs, .mem] s (State.loadFirmware s c im) := by
  unfold State.loadFirmware
  repeat' first
    | with_reducible exact Within.refl _ _
    | (with_reducible apply Within.andThen within_porterWrite; · decide)

theorem within_firmwareRead {s : State} {pair : Nat} : Within [.regs, .power, .watch, .sw, .lanes, .tally, .mem, .health, .host, .out] s (State.firmwareRead s pair) := by
  unfold State.firmwareRead
  dsimp only
  repeat' first
    | with_reducible exact Within.refl _ _
    | (with_reducible apply Within.andThen within_modHost; · decide)
    | (with_reducible apply Within.andThen within_fault; · decide)
    | (with_reducible apply Within.andThen within_loadFirmware; · decide)
    | split

end Sys2Proof.Machine
end

