-- ==== Sys2Proof/Laws/WithinRooms.lean ====
section
/-! SUPPORT. Which parts of the state the operations of Machine/Rooms.lean may change; the queue is not theirs, and the canonical form is
kept. -/

-- One proof at a time: in the package as one text, proofs run side by side would only wait for one another.
set_option Elab.async false

namespace Sys2Proof.Machine

open Sys2Proof

theorem within_setStay {s : State} {i : Nat} {e : Stay} : Within [.regs, .stays] s (State.setStay s i e) := by
  unfold State.setStay
  dsimp only
  refine within_setFld.andThen (by decide) (within_setFld.andThen (by decide) ?_)
  exact (within_stays (fun w => sparseWf_set w)).mono (by decide)

theorem within_modStay {s : State} {i : Nat} {f : Stay → Stay} : Within [.regs, .stays] s (State.modStay s i f) := by
  unfold State.modStay
  repeat' first
    | with_reducible exact Within.refl _ _
    | (with_reducible apply Within.andThen within_setStay; · decide)

theorem within_freeEntry {s : State} {i : Nat} : Within [.regs, .stays] s (State.freeEntry s i) := by
  unfold State.freeEntry
  repeat' first
    | with_reducible exact Within.refl _ _
    | (with_reducible apply Within.andThen within_setStay; · decide)

theorem within_zeroRoom {s : State} {r : Nat} : Within [.mem] s (State.zeroRoom s r) := by
  unfold State.zeroRoom
  split
  · exact Within.refl _ _
  · refine within_modMem (fun w => ?_)
    simp only [Memory.wf, Bool.and_eq_true] at w ⊢
    exact ⟨sparseWf_filter w.1, sparseWf_filter w.2⟩

theorem within_settleRoom {s : State} {r : Nat} : Within [.regs, .mem] s (State.settleRoom s r) := by
  unfold State.settleRoom
  repeat' first
    | with_reducible exact Within.refl _ _
    | (with_reducible apply Within.andThen within_flushEntry; · decide)
    | (with_reducible refine Within.foldl (fun _ _ => ?_) _ ?_)
    | (with_reducible refine Within.foldl_snd (fun _ _ => ?_) _ ?_)
    | (with_reducible refine Within.foldl_fst (fun _ _ => ?_) _ ?_)
    | (with_reducible refine Within.foldl_thd (fun _ _ => ?_) _ ?_)
    | dsimp only

theorem sparseWf_foldl_set {α β : Type} [DecidableEq α] {d : α} {k : β → Nat} {v : β → α} {l : List β} {m : List (Nat × α)}
    (h : sparseWf (fun _ => d) m = true) : sparseWf (fun _ => d) (l.foldl (fun b e => sparseSet d b (k e) (v e)) m) = true := by
  induction l generalizing m with
  | nil => exact h
  | cons a l ih => exact ih (sparseWf_set h)

theorem within_copyRoom {s : State} {src dst : Nat} :
    Within [.regs, .mem] s (State.copyRoom s src dst) := by
  unfold State.copyRoom
  dsimp only
  repeat' first
    | with_reducible exact Within.refl _ _
    | (with_reducible apply Within.andThen within_countBy; · decide)
    | (with_reducible apply Within.andThen within_settleRoom; · decide)
    | (with_reducible apply Within.andThen within_zeroRoom; · decide)
    | (with_reducible apply Within.andThen within_poisonRoom; · decide)
    | (with_reducible apply Within.andThen within_transferred; · decide)
    | split
  all_goals
    refine Within.andThen (within_modMem (fun w => ?_)) (by decide) ?_
    · simp only [Memory.wf, Bool.and_eq_true] at w ⊢
      exact ⟨sparseWf_foldl_set w.1, sparseWf_foldl_set w.2⟩
    repeat' first
      | with_reducible exact Within.refl _ _
      | (with_reducible apply Within.andThen within_countBy; · decide)
      | (with_reducible apply Within.andThen within_settleRoom; · decide)
      | (with_reducible apply Within.andThen within_zeroRoom; · decide)
      | (with_reducible apply Within.andThen within_transferred; · decide)

theorem within_readPiece {s : State} {a : Nat} : Within [.regs, .mem] s (State.readPiece s a).2.2 := by
  unfold State.readPiece
  dsimp only
  repeat' first
    | with_reducible exact Within.refl _ _
    | (with_reducible apply Within.andThen within_touchPair; · decide)
    | (with_reducible refine Within.foldl (fun _ _ => ?_) _ ?_)
    | (with_reducible refine Within.foldl_snd (fun _ _ => ?_) _ ?_)
    | (with_reducible refine Within.foldl_fst (fun _ _ => ?_) _ ?_)
    | (with_reducible refine Within.foldl_thd (fun _ _ => ?_) _ ?_)
    | split
    | dsimp only

theorem within_writePiece {s : State} {a : Nat} {data : List Byte} {bad : List Nat} : Within [.regs, .mem] s (State.writePiece s a data bad) := by
  unfold State.writePiece
  dsimp only
  refine Within.foldl (fun t k => ?_) _ (within_poolWrite.mono (by decide))
  refine (within_modMem (fun w => ?_)).mono (by decide)
  simp only [Memory.wf, Bool.and_eq_true] at w ⊢
  exact ⟨sparseWf_write w.1, sparseWf_set w.2⟩

theorem within_pushVacant {s : State} {r : Nat} : Within [.regs, .mem, .stays] s (State.pushVacant s r) := by
  unfold State.pushVacant
  dsimp only
  repeat' first
    | with_reducible exact Within.refl _ _
    | (with_reducible apply Within.andThen (within_modStays ?_); any_goals first | decide | exact fun _ => rfl | exact fun _ => ⟨rfl, rfl⟩ | (intro k; simp; done))
    | (with_reducible apply Within.andThen within_freeRoomsBy; · decide)
    | (with_reducible apply Within.andThen within_modStays; · decide)
    | (with_reducible apply Within.andThen within_poolWrite; · decide)

theorem within_vacate {s : State} {r : Nat} : Within [.regs, .mem, .stays] s (State.vacate s r) := by
  unfold State.vacate
  dsimp only
  repeat' first
    | with_reducible exact Within.refl _ _
    | (with_reducible apply Within.andThen within_setFld; · decide)
    | (with_reducible apply Within.andThen within_pushVacant; · decide)
    | split

theorem within_dropRef {s : State} {r : Nat} : Within [.regs, .mem, .stays] s (State.dropRef s r) := by
  unfold State.dropRef
  dsimp only
  repeat' first
    | with_reducible exact Within.refl _ _
    | (with_reducible apply Within.andThen within_setLedger; · decide)
    | (with_reducible apply Within.andThen within_vacate; · decide)
    | split

theorem within_addRef {s : State} {r : Nat} : Within [.regs, .mem] s (State.addRef s r) := by
  unfold State.addRef
  dsimp only
  repeat' first
    | with_reducible exact Within.refl _ _
    | (with_reducible apply Within.andThen within_setLedger; · decide)

theorem within_takeVacant {n : Nat} {s : State} {st : Nat} :
    Within [.regs, .mem, .stays] s (State.takeVacant n s st).2 := by
  induction n generalizing s st with
  | zero => exact Within.refl _ _
  | succ n ih =>
    unfold State.takeVacant
    dsimp only
    repeat' first
      | with_reducible exact Within.refl _ _
      | (with_reducible apply Within.andThen ih; · decide)
      | (with_reducible apply Within.andThen (within_modStays ?_); any_goals first | decide | exact fun _ => rfl)
      | (with_reducible apply Within.andThen within_poolRead; · decide)
      | (with_reducible apply Within.andThen within_readLedger; · decide)
      | split
      | dsimp only

theorem within_takeFresh {n : Nat} {s : State} {st : Nat} : Within [.regs, .mem, .stays] s (State.takeFresh n s st).2 := by
  induction n generalizing s st with
  | zero => exact Within.refl _ _
  | succ n ih =>
    rw [State.takeFresh]
    dsimp only
    repeat' first
      | with_reducible exact Within.refl _ _
      | (with_reducible apply Within.andThen ih; · decide)
      | (with_reducible apply Within.andThen (within_modStays ?_); any_goals first | decide | exact fun _ => rfl)
      | (with_reducible apply Within.andThen within_readLedger; · decide)
      | split
      | dsimp only

theorem within_ownRoom {s : State} {r : Nat} : Within [.regs, .mem] s (State.ownRoom s r) := by
  unfold State.ownRoom
  repeat' first
    | with_reducible exact Within.refl _ _
    | (with_reducible apply Within.andThen within_freeRoomsBy; · decide)
    | (with_reducible apply Within.andThen within_setLedger; · decide)

theorem within_takeFrom {s : State} {st : Nat} : Within [.regs, .mem, .stays] s (State.takeFrom s st).2 := by
  rw [State.takeFrom]
  split
  · exact Within.refl _ _
  · split
    · next h => exact within_ownRoom.andThen (by decide) (within_zeroRoom.andThen (by decide) ((Within.of_snd h within_takeVacant).mono (by decide)))
    · next h =>
      have h1 := Within.of_snd h within_takeVacant
      split
      · next k => exact within_ownRoom.andThen (by decide) ((Within.of_snd k within_takeFresh).andThen (by decide) h1)
      · next k => exact (Within.of_snd k within_takeFresh).andThen (by decide) h1

theorem within_takeRoom {s : State} {stack : Nat} : Within [.regs, .mem, .stays] s (State.takeRoom s stack).2 := by
  unfold State.takeRoom
  repeat' first
    | with_reducible exact Within.refl _ _
    | (with_reducible apply Within.andThen within_takeFrom; · decide)
    | (with_reducible refine Within.foldl (fun _ _ => ?_) _ ?_)
    | (with_reducible refine Within.foldl_snd (fun _ _ => ?_) _ ?_)
    | (with_reducible refine Within.foldl_fst (fun _ _ => ?_) _ ?_)
    | (with_reducible refine Within.foldl_thd (fun _ _ => ?_) _ ?_)
    | (with_reducible refine Within.of_snd (by assumption) ?_)
    | split
    | dsimp only

theorem within_takeNode {s t : State} {n : Nat} (h : s.takeNode = some (n, t)) : Within [.regs, .mem, .stays] s t := by
  unfold State.takeNode at h
  split at h
  · cases h
    exact within_setFld.andThen (by decide) (within_porterWrite.andThen (by decide)
      (Within.mono (qs := [.stays]) (by decide) (within_modStays (fun _ => rfl))))
  · split at h
    · cases h
      exact within_setFld.andThen (by decide) (Within.mono (qs := [.stays]) (by decide) (within_modStays (fun _ => rfl)))
    · cases h

theorem within_nodeEntry {s : State} {node i : Nat} : Within [.regs, .mem] s (State.nodeEntry s node i).2 := by
  unfold State.nodeEntry
  repeat' first
    | with_reducible exact Within.refl _ _
    | (with_reducible apply Within.andThen within_porterRead; · decide)
    | (with_reducible refine Within.of_snd (by assumption) ?_)
    | split
    | dsimp only

theorem within_chartWalk {k : Nat} {s : State} {node page : Nat} :
    Within [.regs, .mem] s (State.chartWalk k s node page).2 := by
  induction k generalizing s node page with
  | zero => exact Within.refl _ _
  | succ k ih =>
    unfold State.chartWalk
    split
    · next heq => dsimp only; exact Within.of_snd heq within_nodeEntry
    · next heq =>
      split
      · dsimp only; exact Within.of_snd heq within_nodeEntry
      · exact ih.andThen (by decide) (Within.of_snd heq within_nodeEntry)

theorem within_pageRoom {s : State} {i page : Nat} : Within [.regs, .mem] s (State.pageRoom s i page).2 := by
  unfold State.pageRoom
  dsimp only
  repeat' first
    | with_reducible exact Within.refl _ _
    | (with_reducible apply Within.andThen within_chartWalk; · decide)
    | (with_reducible refine Within.of_snd (by assumption) ?_)
    | split
    | dsimp only

theorem within_sectorEntry {s : State} {seen : List Nat} {node i : Nat} : Within [.regs, .mem] s (State.sectorEntry s seen node i).2.2 := by
  unfold State.sectorEntry
  dsimp only
  repeat' first
    | with_reducible exact Within.refl _ _
    | (with_reducible apply Within.andThen within_porterRead; · decide)
    | (with_reducible refine Within.of_snd (by assumption) ?_)
    | split
    | dsimp only

theorem within_chartRead {k : Nat} {s : State} {seen : List Nat} {node page : Nat} :
    Within [.regs, .mem] s (State.chartRead k s seen node page).2.2 := by
  induction k generalizing s seen node page with
  | zero => exact Within.refl _ _
  | succ k ih =>
    unfold State.chartRead
    split
    · next heq => exact Within.of_thd heq within_sectorEntry
    · next heq =>
      split
      · exact Within.of_thd heq within_sectorEntry
      · exact ih.andThen (by decide) (Within.of_thd heq within_sectorEntry)

theorem within_roomsFrom {ps seen : List Nat} {s : State} {i : Nat} : Within [.regs, .mem] s (State.roomsFrom ps s seen i).2 := by
  induction ps generalizing s seen with
  | nil => exact Within.refl _ _
  | cons p ps ih =>
    have hc : Within [.regs, .mem] s (if (s.stay i).root = 0 ∨ 64 ^ ((s.stay i).depth + 1) ≤ p then (some 0, seen, s)
        else State.chartRead ((s.stay i).depth + 1) s seen (s.stay i).root p).2.2 := by
      split
      · exact Within.refl _ _
      · exact within_chartRead
    unfold State.roomsFrom
    dsimp only
    split
    · next h => exact Within.of_thd h hc
    · next h =>
      have h1 := Within.of_thd h hc
      split
      · next k => exact (Within.of_snd k ih).andThen (by decide) h1
      · next k => exact (Within.of_snd k ih).andThen (by decide) h1

theorem within_roomsOf {ps : List Nat} {s : State} {i : Nat} : Within [.regs, .mem] s (State.roomsOf ps s i).2 := within_roomsFrom

theorem within_chartPut {k : Nat} {s t : State} {node page room : Nat} {b : Bool} (h : State.chartPut k s node page room = some (b, t)) :
    Within [.regs, .mem, .stays] s t := by
  induction k generalizing s node page room with
  | zero => simp [State.chartPut] at h
  | succ k ih =>
    unfold State.chartPut at h
    dsimp only at h
    split at h
    · cases h
    · next heq =>
      have h1 := Within.of_snd heq within_nodeEntry
      split at h
      · cases h
        exact within_porterWrite.andThen (by decide) (h1.mono (by decide))
      · split at h
        · split at h
          · cases h
          · next hn =>
            exact (ih h).andThen (by decide) (within_porterWrite.andThen (by decide) ((within_takeNode hn).andThen (by decide) (h1.mono (by decide))))
        · exact (ih h).andThen (by decide) (h1.mono (by decide))

theorem within_growChart {n : Nat} {s t : State} {i page : Nat} (h : State.growChart n s i page = some t) :
    Within [.regs, .mem, .stays] s t := by
  induction n generalizing s with
  | zero => cases h; exact Within.refl _ _
  | succ n ih =>
    unfold State.growChart at h
    dsimp only at h
    split at h
    · cases h; exact Within.refl _ _
    · split at h
      · exact (ih h).andThen (by decide) (Within.mono (qs := [.regs, .stays]) (by decide) within_setStay)
      · split at h
        · cases h
        · next hn =>
          exact (ih h).andThen (by decide) (within_setStay.andThen (by decide) (within_porterWrite.andThen (by decide) (within_takeNode hn)))

theorem within_setPage {s t : State} {i page room : Nat} (h : s.setPage i page room = some t) :
    Within [.regs, .mem, .stays] s t := by
  unfold State.setPage at h
  dsimp only at h
  split at h
  · cases h
  · next s1 hg =>
    have h1 := within_growChart hg
    split at h
    · cases h
    · next s2 h2 =>
      have h3 : Within [.regs, .mem, .stays] s1 s2 := by
        split at h2
        · cases h2; exact Within.refl _ _
        · split at h2
          · cases h2
          · next hn => cases h2; exact within_setStay.andThen (by decide) ((within_takeNode hn).mono (by decide))
      split at h
      · cases h
      · next hp =>
        have h4 := (within_chartPut hp).andThen (by decide) (h3.andThen (ps := [.regs, .mem, .stays]) (by decide) h1)
        cases h
        split
        · exact within_modStay.andThen (by decide) h4
        · exact h4

theorem within_dropPage {s : State} {i page : Nat} : Within [.regs, .mem, .stays] s (State.dropPage s i page) := by
  unfold State.dropPage
  repeat' first
    | with_reducible exact Within.refl _ _
    | (with_reducible refine Within.andThen (within_chartPut (by assumption)) (by decide) ?_)
    | (with_reducible apply Within.andThen within_dropRef; · decide)
    | (with_reducible apply Within.andThen within_modStay; · decide)
    | (with_reducible apply Within.andThen within_pageRoom; · decide)
    | (with_reducible refine Within.of_snd (by assumption) ?_)
    | split
    | dsimp only

theorem within_nodeEntries {s : State} {node : Nat} : Within [.regs, .mem] s (State.nodeEntries s node).2.2 := by
  unfold State.nodeEntries
  repeat' first
    | with_reducible exact Within.refl _ _
    | (with_reducible apply Within.andThen within_porterRead; · decide)
    | (with_reducible refine Within.foldl (fun _ _ => ?_) _ ?_)
    | (with_reducible refine Within.foldl_snd (fun _ _ => ?_) _ ?_)
    | (with_reducible refine Within.foldl_fst (fun _ _ => ?_) _ ?_)
    | (with_reducible refine Within.foldl_thd (fun _ _ => ?_) _ ?_)
    | (with_reducible refine Within.of_snd (by assumption) ?_)
    | split
    | dsimp only

theorem within_chartNodes {k : Nat} {s : State} {node : Nat} : Within [.regs, .mem] s (State.chartNodes k s node).2 := by
  induction k generalizing s node with
  | zero => exact Within.refl _ _
  | succ k ih =>
    unfold State.chartNodes
    dsimp only
    split
    · exact within_nodeEntries
    · refine Within.foldl_snd (fun _ _ => ?_) _ ?_
      · exact ih
      · exact within_nodeEntries

theorem within_readChart {s : State} {i : Nat} : Within [.regs, .mem] s (State.readChart s i).2 := by
  unfold State.readChart
  dsimp only
  split
  · exact Within.refl _ _
  · exact within_chartNodes

theorem within_freeChart {s : State} {i : Nat} {f : ChartFound} : Within [.regs, .mem, .stays] s (State.freeChart s i f) := by
  unfold State.freeChart
  dsimp only
  repeat' first
    | with_reducible exact Within.refl _ _
    | (with_reducible apply Within.andThen (within_modStays ?_); any_goals first | decide | exact fun _ => rfl | exact fun _ => ⟨rfl, rfl⟩ | (intro k; simp; done))
    | (with_reducible apply Within.andThen within_setFld; · decide)
    | (with_reducible apply Within.andThen within_dropRef; · decide)
    | (with_reducible apply Within.andThen within_modStay; · decide)
    | (with_reducible apply Within.andThen within_modStays; · decide)
    | (with_reducible refine Within.foldl (fun _ _ => ?_) _ ?_)
    | (with_reducible refine Within.foldl_snd (fun _ _ => ?_) _ ?_)
    | (with_reducible refine Within.foldl_fst (fun _ _ => ?_) _ ?_)
    | (with_reducible refine Within.foldl_thd (fun _ _ => ?_) _ ?_)
    | dsimp only

theorem within_dropChart {s : State} {i : Nat} : Within [.regs, .mem, .stays] s (State.dropChart s i).2 := by
  unfold State.dropChart
  dsimp only
  repeat' first
    | with_reducible exact Within.refl _ _
    | (with_reducible apply Within.andThen within_freeChart; · decide)
    | (with_reducible apply Within.andThen within_readChart; · decide)
    | (with_reducible refine Within.of_snd (by assumption) ?_)
    | split
    | dsimp only

theorem within_closeChart {s : State} {i : Nat} : Within [.regs, .mem, .stays] s (State.closeChart s i).2 := by
  unfold State.closeChart
  dsimp only
  repeat' first
    | with_reducible exact Within.refl _ _
    | (with_reducible apply Within.andThen within_freeChart; · decide)
    | (with_reducible apply Within.andThen within_readChart; · decide)
    | (with_reducible refine Within.of_snd (by assumption) ?_)
    | split
    | dsimp only

theorem within_countFree {s : State} : Within [.regs, .stays] s (State.countFree s) := by
  unfold State.countFree
  dsimp only
  repeat' first
    | with_reducible exact Within.refl _ _
    | (with_reducible apply Within.andThen (within_modStays ?_); any_goals first | decide | exact fun _ => rfl | exact fun _ => ⟨rfl, rfl⟩ | (intro k; simp; done))
    | (with_reducible apply Within.andThen within_setFld; · decide)
    | (with_reducible apply Within.andThen within_count; · decide)
    | (with_reducible apply Within.andThen within_modStays; · decide)
    | (with_reducible refine Within.foldl (fun _ _ => ?_) _ ?_)
    | (with_reducible refine Within.foldl_snd (fun _ _ => ?_) _ ?_)
    | (with_reducible refine Within.foldl_fst (fun _ _ => ?_) _ ?_)
    | (with_reducible refine Within.foldl_thd (fun _ _ => ?_) _ ?_)
    | split
    | dsimp only

end Sys2Proof.Machine
end

