-- ==== Sys2Proof/Laws/WithinMemory.lean ====
section
/-! SUPPORT. Which parts of the state the operations of Machine/Memory.lean may change; the queue is not theirs, and the canonical form is
kept. -/

-- One proof at a time: in the package as one text, proofs run side by side would only wait for one another.
set_option Elab.async false

namespace Sys2Proof.Machine

open Sys2Proof

theorem within_readFails {s : State} {p : Nat} : Within [.regs, .power, .watch, .sw, .lanes, .tally, .mem, .health, .host, .out] s (State.readFails s p) := by
  unfold State.readFails
  repeat' first
    | with_reducible exact Within.refl _ _
    | (with_reducible apply Within.andThen within_memCount; · decide)
    | (with_reducible apply Within.andThen within_poisonPair; · decide)
    | split

theorem within_readWrong {s : State} {p : Nat} {errs : List (Nat × Nat)} :
    Within [.regs, .power, .watch, .sw, .lanes, .tally, .mem, .health, .host, .out] s (State.readWrong s p errs) := by
  unfold State.readWrong
  dsimp only
  repeat' first
    | with_reducible exact Within.refl _ _
    | (with_reducible apply Within.andThen within_correctPair; · decide)
    | (with_reducible apply Within.andThen within_memCount; · decide)
    | (with_reducible apply Within.andThen within_putPair; · decide)
    | (with_reducible apply Within.andThen within_readFails; · decide)
    | (with_reducible refine Within.of_snd (by assumption) ?_)
    | split
    | (refine Within.andThen (within_modMem (fun w => ?_)) (by decide) ?_
       · simp only [Memory.wf, Bool.and_eq_true] at w ⊢
         exact ⟨w.1, sparseWf_set w.2⟩)

theorem within_decoded {s : State} {p : Nat} {errs : List (Nat × Nat)} : Within [.regs, .power, .watch, .sw, .lanes, .tally, .mem, .health, .host, .out] s (State.decoded s p errs) := by
  unfold State.decoded
  repeat' first
    | with_reducible exact Within.refl _ _
    | (with_reducible apply Within.andThen within_correctPair; · decide)
    | (with_reducible apply Within.andThen within_readFails; · decide)
    | (with_reducible apply Within.andThen within_readWrong; · decide)
    | (with_reducible refine Within.of_snd (by assumption) ?_)
    | split
    | dsimp only

theorem within_flushWith {s : State} {e : MergeEntry} {errs : List (Nat × Nat)} : Within [.regs, .power, .watch, .sw, .lanes, .tally, .mem, .health, .host, .out] s (State.flushWith s e errs) := by
  unfold State.flushWith
  dsimp only
  repeat' first
    | with_reducible exact Within.refl _ _
    | (with_reducible apply Within.andThen within_decoded; · decide)
    | (with_reducible apply Within.andThen within_mergeIn; · decide)
    | (with_reducible apply Within.andThen within_openEntry; · decide)
    | split

theorem within_findings {s : State} {corrected : List (Nat × Nat)} {uncorrectable : List Nat} : Within [.regs, .power, .watch, .sw, .lanes, .tally, .mem, .health, .host, .out] s (State.findings s corrected uncorrectable).2 := by
  unfold State.findings
  dsimp only
  repeat' first
    | with_reducible exact Within.refl _ _
    | (with_reducible apply Within.andThen within_correctPair; · decide)
    | (with_reducible apply Within.andThen within_readFails; · decide)
    | (with_reducible refine Within.foldl (fun _ _ => ?_) _ ?_)
    | (with_reducible refine Within.foldl_snd (fun _ _ => ?_) _ ?_)
    | (with_reducible refine Within.foldl_fst (fun _ _ => ?_) _ ?_)
    | (with_reducible refine Within.foldl_thd (fun _ _ => ?_) _ ?_)
    | (with_reducible refine Within.of_snd (by assumption) ?_)
    | split
    | dsimp only

theorem within_remapRow {s : State} {stack pc bank row spare : Nat} : Within [.regs, .mem] s (State.remapRow s stack pc bank row spare) := by
  unfold State.remapRow
  dsimp only
  repeat' first
    | with_reducible exact Within.refl _ _
    | (with_reducible apply Within.andThen (within_modMem' ?_); any_goals first | decide | exact fun _ => rfl | exact fun _ => ⟨rfl, rfl⟩ | (intro k; simp; done))
    | (with_reducible apply Within.andThen within_setFld; · decide)
    | (with_reducible apply Within.andThen within_modMem; · decide)
    | (with_reducible refine Within.foldl (fun _ _ => ?_) _ ?_)
    | (with_reducible refine Within.foldl_snd (fun _ _ => ?_) _ ?_)
    | (with_reducible refine Within.foldl_fst (fun _ _ => ?_) _ ?_)
    | (with_reducible refine Within.foldl_thd (fun _ _ => ?_) _ ?_)
    | dsimp only

theorem within_loadLedger {s : State} : Within [.regs, .power, .watch, .sw, .lanes, .tally, .mem, .health, .host, .out] s (State.loadLedger s) := by
  unfold State.loadLedger
  dsimp only
  repeat' first
    | with_reducible exact Within.refl _ _
    | (with_reducible apply Within.andThen within_setFld; · decide)
    | (with_reducible apply Within.andThen within_fault; · decide)
    | (with_reducible apply Within.andThen within_remapRow; · decide)
    | (with_reducible refine Within.foldl (fun _ _ => ?_) _ ?_)
    | (with_reducible refine Within.foldl_snd (fun _ _ => ?_) _ ?_)
    | (with_reducible refine Within.foldl_fst (fun _ _ => ?_) _ ?_)
    | (with_reducible refine Within.foldl_thd (fun _ _ => ?_) _ ?_)
    | split
    | dsimp only

theorem within_applyRetirements {s : State} : Within [.regs, .mem] s (State.applyRetirements s) := by
  unfold State.applyRetirements
  repeat' first
    | with_reducible exact Within.refl _ _
    | (with_reducible apply Within.andThen within_poisonRoom; · decide)
    | (with_reducible refine Within.foldl (fun _ _ => ?_) _ ?_)
    | (with_reducible refine Within.foldl_snd (fun _ _ => ?_) _ ?_)
    | (with_reducible refine Within.foldl_fst (fun _ _ => ?_) _ ?_)
    | (with_reducible refine Within.foldl_thd (fun _ _ => ?_) _ ?_)
    | split
    | dsimp only

theorem within_recordLedger {s : State} {e : Nat} : Within [.regs, .host] s (State.recordLedger s e) := by
  unfold State.recordLedger
  dsimp only
  repeat' first
    | with_reducible exact Within.refl _ _
    | (with_reducible apply Within.andThen within_setFld; · decide)
    | (with_reducible apply Within.andThen within_modHost; · decide)

theorem within_repairGo {s : State} {value op : Nat} : Within [.regs, .mem] s (State.repairGo s value op) := by
  unfold State.repairGo
  dsimp only
  repeat' first
    | with_reducible exact Within.refl _ _
    | (with_reducible apply Within.andThen (within_modMem' ?_); any_goals first | decide | exact fun _ => rfl | exact fun _ => ⟨rfl, rfl⟩ | (intro k; simp; done))
    | (with_reducible apply Within.andThen within_setFld; · decide)
    | (with_reducible apply Within.andThen within_raise; · decide)
    | (with_reducible apply Within.andThen within_modMem; · decide)
    | (with_reducible apply Within.andThen within_writePlain; · decide)
    | split

theorem within_doRepairRow {s : State} {w : Nat} {corrected : List (Nat × Nat)} {uncorrectable : List Nat} : Within [.regs, .power, .watch, .sw, .lanes, .tally, .mem, .health, .host, .out] s (State.doRepairRow s w corrected uncorrectable).2 := by
  unfold State.doRepairRow
  dsimp only
  repeat' first
    | with_reducible exact Within.refl _ _
    | (with_reducible apply Within.andThen within_findings; · decide)
    | (with_reducible apply Within.andThen within_recordLedger; · decide)
    | (with_reducible apply Within.andThen within_remapRow; · decide)
    | (with_reducible apply Within.andThen within_touchPair; · decide)
    | (with_reducible refine Within.foldl (fun _ _ => ?_) _ ?_)
    | (with_reducible refine Within.foldl_snd (fun _ _ => ?_) _ ?_)
    | (with_reducible refine Within.foldl_fst (fun _ _ => ?_) _ ?_)
    | (with_reducible refine Within.foldl_thd (fun _ _ => ?_) _ ?_)
    | (with_reducible refine Within.of_snd (by assumption) ?_)
    | split
    | dsimp only

theorem within_doRelease {s : State} {r : Nat} : Within [.regs, .mem, .stays] s (State.doRelease s r).2 := by
  unfold State.doRelease
  dsimp only
  repeat' first
    | with_reducible exact Within.refl _ _
    | (with_reducible apply Within.andThen (within_modStays ?_); any_goals first | decide | exact fun _ => rfl | exact fun _ => ⟨rfl, rfl⟩ | (intro k; simp; done))
    | (with_reducible apply Within.andThen within_setFld; · decide)
    | (with_reducible apply Within.andThen within_freeRoomsBy; · decide)
    | (with_reducible apply Within.andThen within_modStays; · decide)
    | (with_reducible apply Within.andThen within_poolWrite; · decide)
    | (with_reducible apply Within.andThen within_pushVacant; · decide)
    | (with_reducible apply Within.andThen within_setLedger; · decide)
    | (with_reducible apply Within.andThen within_zeroRoom; · decide)
    | split
    | dsimp only

end Sys2Proof.Machine
end

