-- ==== Sys2Proof/Laws/WithinPower.lean ====
section
/-! SUPPORT. Which parts of the state the operations of Machine/Power.lean may change; the queue is not theirs, and the canonical form is
kept. -/

-- One proof at a time: in the package as one text, proofs run side by side would only wait for one another.
set_option Elab.async false

namespace Sys2Proof.Machine

open Sys2Proof

theorem within_showFlash {s : State} : Within [.regs] s (State.showFlash s) := by
  unfold State.showFlash
  dsimp only
  repeat' first
    | with_reducible exact Within.refl _ _
    | (with_reducible apply Within.andThen within_setFld; · decide)
    | (with_reducible refine Within.foldl (fun _ _ => ?_) _ ?_)
    | (with_reducible refine Within.foldl_snd (fun _ _ => ?_) _ ?_)
    | (with_reducible refine Within.foldl_fst (fun _ _ => ?_) _ ?_)
    | (with_reducible refine Within.foldl_thd (fun _ _ => ?_) _ ?_)
    | split
    | dsimp only

theorem within_showCap {s : State} : Within [.regs] s (State.showCap s) := by
  unfold State.showCap
  dsimp only
  repeat' first
    | with_reducible exact Within.refl _ _
    | (with_reducible apply Within.andThen within_setFld; · decide)
    | (with_reducible refine Within.foldl (fun _ _ => ?_) _ ?_)
    | (with_reducible refine Within.foldl_snd (fun _ _ => ?_) _ ?_)
    | (with_reducible refine Within.foldl_fst (fun _ _ => ?_) _ ?_)
    | (with_reducible refine Within.foldl_thd (fun _ _ => ?_) _ ?_)
    | split
    | dsimp only

theorem sparseWf_filterMap {α : Type} [DecidableEq α] {d : Nat → α} {m : List (Nat × α)} {g : Nat × α → Option (Nat × α)}
    (hk : ∀ e e', g e = some e' → e'.1 = e.1) (hd : ∀ e e', g e = some e' → e'.2 ≠ d e'.1) (h : keysRise m = true) :
    sparseWf d (m.filterMap g) = true := by
  rw [sparseWf_iff]
  constructor
  · rw [keysRise_iff_pairwise] at *
    refine List.Pairwise.filterMap g (fun a b hab a' ha b' hb => ?_) h
    rw [hk a a' ha, hk b b' hb]
    exact hab
  · intro e he
    obtain ⟨x, _, hx⟩ := List.mem_filterMap.1 he
    exact hd x e hx

theorem canon_stickyRegs {s : State} (c : Canon s) : sparseWf regReset s.stickyRegs = true := by
  unfold State.stickyRegs
  refine sparseWf_filterMap (fun e e' h => ?_) (fun e e' h => ?_) (sparseWf_iff.1 c.regs).1
  · split at h
    · cases h
    · dsimp only at h
      split at h
      · cases h
      · cases h; rfl
  · split at h
    · cases h
    · dsimp only at h
      split at h
      · cases h
      · next hw => cases h; exact hw

theorem within_resetTo {s : State} {p : Nat} {host : HostUnit} :
    Within [.regs, .power, .bell, .watch, .sw, .lanes, .tally, .mem, .stays, .clusters, .health, .host, .out] s (State.resetTo s p host) := by
  unfold State.resetTo
  dsimp only
  refine within_showFlash.andThen (by decide) (within_setFld.andThen (by decide) ?_)
  exact ⟨fun p hp => by cases p <;> first | rfl | simp at hp, rfl, fun c =>
    { canon_reset with regs := canon_stickyRegs c }⟩

theorem within_warm {s : State} : Within [.regs, .power, .bell, .watch, .sw, .lanes, .tally, .mem, .stays, .clusters, .health, .host, .out] s (State.warm s) := by
  unfold State.warm
  dsimp only
  repeat' first
    | with_reducible exact Within.refl _ _
    | (with_reducible apply Within.andThen within_modPower; · decide)
    | (with_reducible apply Within.andThen within_resetTo; · decide)
    | (with_reducible apply Within.andThen within_setPhase; · decide)
    | (with_reducible apply Within.andThen within_showCap; · decide)
    | split

theorem within_cold {s : State} : Within [.regs, .power, .bell, .watch, .sw, .lanes, .tally, .mem, .stays, .clusters, .health, .host, .out] s (State.cold s) := by
  unfold State.cold
  dsimp only
  repeat' first
    | with_reducible exact Within.refl _ _
    | (with_reducible apply Within.andThen within_modPower; · decide)
    | (with_reducible apply Within.andThen within_resetTo; · decide)
    | (with_reducible apply Within.andThen within_setPhase; · decide)
    | (with_reducible apply Within.andThen within_showCap; · decide)
    | split
    | dsimp only

theorem within_cycle {s : State} :
    Within [.regs, .power, .bell, .watch, .sw, .lanes, .tally, .mem, .stays, .clusters, .health, .host, .out] s (State.cycle s) := by
  unfold State.cycle
  exact ⟨fun p hp => by cases p <;> first | rfl | simp at hp, rfl, fun _ => { canon_reset with }⟩

theorem within_inputLost {s : State} : Within [.regs, .power, .bell, .watch, .sw, .lanes, .tally, .mem, .stays, .clusters, .health, .host, .out] s (State.inputLost s) := by
  unfold State.inputLost
  repeat' first
    | with_reducible exact Within.refl _ _
    | (with_reducible apply Within.andThen within_cold; · decide)
    | split

theorem within_inputRemoved {s : State} : Within [.regs, .power, .bell, .watch, .sw, .lanes, .tally, .mem, .stays, .clusters, .health, .host, .out] s (State.inputRemoved s) := by
  unfold State.inputRemoved
  repeat' first
    | with_reducible exact Within.refl _ _
    | (with_reducible apply Within.andThen within_modPower; · decide)
    | (with_reducible apply Within.andThen within_inputLost; · decide)

theorem within_seeInput {s : State} {vin ago : Nat} : Within [.regs, .power] s (State.seeInput s vin ago) := by
  unfold State.seeInput
  dsimp only
  repeat' first
    | with_reducible exact Within.refl _ _
    | (with_reducible apply Within.andThen within_modPower; · decide)
    | (with_reducible apply Within.andThen within_setFld; · decide)
    | split

theorem within_inputEvent {s : State} {f : Fld} {vin : Nat} : Within [.regs, .power] s (State.inputEvent s f vin) := by
  unfold State.inputEvent
  repeat' first
    | with_reducible exact Within.refl _ _
    | (with_reducible apply Within.andThen within_raise; · decide)
    | (with_reducible apply Within.andThen within_seeInput; · decide)

theorem within_showReady {s : State} : Within [.regs] s (State.showReady s) := by
  unfold State.showReady
  repeat' first
    | with_reducible exact Within.refl _ _
    | (with_reducible apply Within.andThen within_setFld; · decide)
    | (with_reducible refine Within.foldl (fun _ _ => ?_) _ ?_)
    | (with_reducible refine Within.foldl_snd (fun _ _ => ?_) _ ?_)
    | (with_reducible refine Within.foldl_fst (fun _ _ => ?_) _ ?_)
    | (with_reducible refine Within.foldl_thd (fun _ _ => ?_) _ ?_)
    | split
    | dsimp only

theorem within_crossingFails {s : State} {p : Nat} : Within [.regs, .power, .watch, .sw, .lanes, .tally, .health, .host, .out] s (State.crossingFails s p) := by
  unfold State.crossingFails
  dsimp only
  repeat' first
    | with_reducible exact Within.refl _ _
    | (with_reducible apply Within.andThen within_modPort; · decide)
    | (with_reducible apply Within.andThen within_fault; · decide)
    | split

theorem within_powerStep {s : State} {b old new : Nat} : Within [.regs, .power, .watch, .sw, .lanes, .tally, .health, .host, .out] s (State.powerStep s b old new) := by
  unfold State.powerStep
  dsimp only
  repeat' first
    | with_reducible exact Within.refl _ _
    | (with_reducible apply Within.andThen within_modPower; · decide)
    | (with_reducible apply Within.andThen within_setFld; · decide)
    | (with_reducible apply Within.andThen within_count; · decide)
    | (with_reducible apply Within.andThen within_applyLevel; · decide)
    | (with_reducible apply Within.andThen within_choice; · decide)
    | split

end Sys2Proof.Machine
end

