-- ==== Sys2Proof/Laws/WithinTables.lean ====
section
/-! SUPPORT. Which parts of the state the operations of Machine/Tables.lean may change; the queue is not theirs, and the canonical form is
kept. -/

-- One proof at a time: in the package as one text, proofs run side by side would only wait for one another.
set_option Elab.async false

namespace Sys2Proof.Machine

open Sys2Proof

theorem within_startAccess {s : State} {window ctrl done : Nat} {off value : Nat} : Within [.regs, .sw] s (State.startAccess s window ctrl done off value) := by
  unfold State.startAccess
  repeat' first
    | with_reducible exact Within.refl _ _
    | (with_reducible apply Within.andThen within_setReg; · decide)
    | (with_reducible apply Within.andThen within_modSw; · decide)
    | (with_reducible apply Within.andThen within_writePlain; · decide)

theorem within_swTable {s : State} {value : Nat} {write : Bool} : Within [.regs, .sw] s (State.swTable s value write) := by
  unfold State.swTable
  dsimp only
  repeat' first
    | with_reducible exact Within.refl _ _
    | (with_reducible apply Within.andThen within_startAccess; · decide)
    | split

theorem within_curfewErr {s : State} {f : Fld} {p : Nat} : Within [.regs] s (State.curfewErr s f p) := by
  unfold State.curfewErr
  repeat' first
    | with_reducible exact Within.refl _ _
    | (with_reducible apply Within.andThen within_setFld; · decide)
    | (with_reducible apply Within.andThen within_raise; · decide)

theorem within_endSwAccess {s : State} {ctrl : Nat} : Within [.regs, .sw] s (State.endSwAccess s ctrl) := by
  unfold State.endSwAccess
  dsimp only
  repeat' first
    | with_reducible exact Within.refl _ _
    | (with_reducible apply Within.andThen within_setReg; · decide)
    | (with_reducible apply Within.andThen within_modSw; · decide)
    | (with_reducible apply Within.andThen within_curfewErr; · decide)
    | split
    | dsimp only

theorem within_endTlAccess {s : State} {i : Nat} : Within [.regs] s (State.endTlAccess s i) := by
  unfold State.endTlAccess
  dsimp only
  repeat' first
    | with_reducible exact Within.refl _ _
    | (with_reducible apply Within.andThen within_setReg; · decide)
    | split
    | dsimp only

theorem within_endStAccess {s : State} {i : Nat} : Within [.regs] s (State.endStAccess s i) := by
  unfold State.endStAccess
  repeat' first
    | with_reducible exact Within.refl _ _
    | (with_reducible apply Within.andThen within_setReg; · decide)
    | (with_reducible refine Within.foldl (fun _ _ => ?_) _ ?_)
    | (with_reducible refine Within.foldl_snd (fun _ _ => ?_) _ ?_)
    | (with_reducible refine Within.foldl_fst (fun _ _ => ?_) _ ?_)
    | (with_reducible refine Within.foldl_thd (fun _ _ => ?_) _ ?_)
    | dsimp only

theorem within_armCurfew {s : State} {port tick : Nat} : Within [.regs] s (State.armCurfew s port tick) := by
  unfold State.armCurfew
  dsimp only
  repeat' first
    | with_reducible exact Within.refl _ _
    | (with_reducible apply Within.andThen within_setReg; · decide)
    | (with_reducible apply Within.andThen within_raise; · decide)
    | (with_reducible apply Within.andThen within_curfewErr; · decide)
    | split

theorem within_cancelCurfew {s : State} {port : Nat} : Within [.regs] s (State.cancelCurfew s port) := by
  unfold State.cancelCurfew
  repeat' first
    | with_reducible exact Within.refl _ _
    | (with_reducible apply Within.andThen within_setFld; · decide)
    | (with_reducible apply Within.andThen within_curfewErr; · decide)
    | split

theorem within_switchover {s : State} {p : Nat} : Within [.regs, .sw] s (State.switchover s p) := by
  unfold State.switchover
  dsimp only
  repeat' first
    | with_reducible exact Within.refl _ _
    | (with_reducible apply Within.andThen within_setReg; · decide)
    | (with_reducible apply Within.andThen within_setFld; · decide)
    | (with_reducible apply Within.andThen within_raise; · decide)
    | (with_reducible apply Within.andThen within_modSw; · decide)
    | (with_reducible apply Within.andThen within_touchShapersWith; · decide)

theorem within_switchDue {s : State} {port : Nat} : Within [.regs, .sw] s (State.switchDue s port) := by
  unfold State.switchDue
  dsimp only
  repeat' first
    | with_reducible exact Within.refl _ _
    | (with_reducible apply Within.andThen within_choice; · decide)
    | (with_reducible apply Within.andThen within_switchover; · decide)
    | split

end Sys2Proof.Machine
end

