-- ==== Sys2Proof/Laws/WithinAgents.lean ====
section
/-! SUPPORT. Which parts of the state the operations of Machine/Agents.lean may change; the queue is not theirs, and the canonical form is
kept. -/

-- One proof at a time: in the package as one text, proofs run side by side would only wait for one another.
set_option Elab.async false

namespace Sys2Proof.Machine

open Sys2Proof

theorem within_serve {ps : List Part} {s : State} {f : Frame} {act : State → State}
    (hp : ∀ p ∈ [Part.regs, .power, .watch, .sw, .lanes, .tally, .health, .host, .out], p ∈ ps) (ha : ∀ x, Within ps x (act x)) :
    Ends ps s (s.serve f act) := by
  unfold State.serve
  refine Ends.of_next ((Within.mono hp (Within.mono (by decide) within_retryAgents)).andThen (fun _ h => h) ?_)
  have h1 : Within ps s (s.takeAgent f) := Within.mono hp (Within.mono (by decide) within_takeAgent)
  split
  · exact (ha _).andThen (fun _ h => h) h1
  · exact (Within.mono hp (Within.andThen within_fault (by decide) (Within.mono (by decide) within_count))).andThen (fun _ h => h) h1

theorem within_serveAny {ps : List Part} {s : State} {f : Frame} {act : State → State}
    (hp : ∀ p ∈ [Part.regs, .sw], p ∈ ps) (ha : ∀ x, Within ps x (act x)) :
    Ends ps s (s.serveAny f act) := by
  unfold State.serveAny
  refine Ends.of_next ((Within.mono hp (Within.mono (by decide) within_retryAgents)).andThen (fun _ h => h) ?_)
  exact (ha _).andThen (fun _ h => h) (Within.mono hp (Within.mono (by decide) within_takeAgent))

end Sys2Proof.Machine
end

