-- ==== Sys2Proof/Laws/WithinTally.lean ====
section
/-! SUPPORT. Which parts of the state the operations of Machine/Tally.lean may change; the queue is not theirs, and the canonical form is
kept. -/

-- One proof at a time: in the package as one text, proofs run side by side would only wait for one another.
set_option Elab.async false

namespace Sys2Proof.Machine

open Sys2Proof

theorem within_noTally {s : State} : Within [.regs] s (State.noTally s) := by
  unfold State.noTally
  repeat' first
    | with_reducible exact Within.refl _ _
    | (with_reducible apply Within.andThen within_count; · decide)

theorem within_dropSlot {s : State} : Within [.regs] s (State.dropSlot s) := by
  unfold State.dropSlot
  repeat' first
    | with_reducible exact Within.refl _ _
    | (with_reducible apply Within.andThen within_count; · decide)

theorem within_tallyServe {ps : List Part} {s : State} {f : Frame} {act : State → State}
    (hp : ∀ p ∈ [Part.regs, .power, .watch, .sw, .lanes, .tally, .health, .host, .out], p ∈ ps) (ha : ∀ x, Within ps x (act x)) :
    Ends ps s (s.tallyServe f act) := by
  unfold State.tallyServe
  split
  · exact Ends.of_next (Within.refl _ _)
  · exact within_serve hp ha

theorem within_tallyReply {s : State} {f : Frame} {kind : Nat} {p : List Byte} : Within [.regs, .sw] s (State.tallyReply s f kind p) := by
  unfold State.tallyReply
  repeat' first
    | with_reducible exact Within.refl _ _
    | (with_reducible apply Within.andThen within_agentSend; · decide)

theorem within_takePart {s : State} {c : TCtx} {k : TChunk} {i : Nat} {t : TSlot} {part : Nat} {p : List Byte} : Within [.tally] s (State.takePart s c k i t part p) := by
  unfold State.takePart
  dsimp only
  repeat' first
    | with_reducible exact Within.refl _ _
    | (with_reducible apply Within.andThen within_putCtx; · decide)
    | split

theorem within_sendPartial {s : State} {c : TCtx} {k : TChunk} : Within [.regs, .sw] s (State.sendPartial s c k) := by
  unfold State.sendPartial
  repeat' first
    | with_reducible exact Within.refl _ _
    | (with_reducible apply Within.andThen within_toParent; · decide)
    | (with_reducible refine Within.foldl (fun _ _ => ?_) _ ?_)
    | (with_reducible refine Within.foldl_snd (fun _ _ => ?_) _ ?_)
    | (with_reducible refine Within.foldl_fst (fun _ _ => ?_) _ ?_)
    | (with_reducible refine Within.foldl_thd (fun _ _ => ?_) _ ?_)
    | dsimp only

theorem within_fireStep {s : State} {c : TCtx} {k : TChunk} {late : Bool} : Within [.regs, .sw, .tally] s (State.fireStep s c k late) := by
  unfold State.fireStep
  dsimp only
  repeat' first
    | with_reducible exact Within.refl _ _
    | (with_reducible apply Within.andThen within_count; · decide)
    | (with_reducible apply Within.andThen within_choice; · decide)
    | (with_reducible apply Within.andThen within_distribute; · decide)
    | (with_reducible apply Within.andThen within_putCtx; · decide)
    | (with_reducible apply Within.andThen within_retryAgents; · decide)
    | (with_reducible apply Within.andThen within_sendPartial; · decide)
    | split

theorem within_tallyStep {s : State} {ctx g : Nat} : Within [.regs, .sw, .tally] s (State.tallyStep s ctx g) := by
  unfold State.tallyStep
  repeat' first
    | with_reducible exact Within.refl _ _
    | (with_reducible apply Within.andThen within_fireStep; · decide)
    | split
    | dsimp only

theorem within_ackResult {s : State} {c : TCtx} {g : Nat} {bad : Bool} : Within [.regs, .sw] s (State.ackResult s c g bad) := by
  unfold State.ackResult
  repeat' first
    | with_reducible exact Within.refl _ _
    | (with_reducible apply Within.andThen within_toParent; · decide)
    | split

theorem within_resendResult {s : State} {c : TCtx} {k : TChunk} {r : TRecv} {t : TSlot} : Within [.regs, .sw, .tally] s (State.resendResult s c k r t) := by
  unfold State.resendResult
  dsimp only
  repeat' first
    | with_reducible exact Within.refl _ _
    | (with_reducible apply Within.andThen within_count; · decide)
    | (with_reducible apply Within.andThen within_putCtx; · decide)
    | (with_reducible apply Within.andThen within_recvDone; · decide)
    | (with_reducible apply Within.andThen within_sendResult; · decide)
    | split

theorem within_sendKept {s : State} {k : Kept} : Within [.regs, .sw] s (State.sendKept s k) := by
  unfold State.sendKept
  repeat' first
    | with_reducible exact Within.refl _ _
    | (with_reducible apply Within.andThen within_agentSend; · decide)
    | split
    | dsimp only

theorem within_endWork {s : State} {w : Nat × Nat} : Within [.regs, .stays] s (State.endWork s w) := by
  unfold State.endWork
  repeat' first
    | with_reducible exact Within.refl _ _
    | (with_reducible apply Within.andThen within_modStay; · decide)
    | split

theorem within_creditKept {s : State} {f : Frame} {tr tc lr lc : Nat} : Within [.regs, .sw, .tally, .stays] s (State.creditKept s f tr tc lr lc) := by
  unfold State.creditKept
  dsimp only
  repeat' first
    | with_reducible exact Within.refl _ _
    | (with_reducible apply Within.andThen within_modTally; · decide)
    | (with_reducible apply Within.andThen within_endWork; · decide)
    | (with_reducible apply Within.andThen within_sendKept; · decide)
    | (with_reducible refine Within.foldl (fun _ _ => ?_) _ ?_)
    | (with_reducible refine Within.foldl_snd (fun _ _ => ?_) _ ?_)
    | (with_reducible refine Within.foldl_fst (fun _ _ => ?_) _ ?_)
    | (with_reducible refine Within.foldl_thd (fun _ _ => ?_) _ ?_)
    | split
    | dsimp only

theorem within_dispatchSilent {s : State} {c : TCtx} {slot : Nat} {t : TSlot} : Within [.regs, .sw, .tally] s (State.dispatchSilent s c slot t) := by
  unfold State.dispatchSilent
  dsimp only
  repeat' first
    | with_reducible exact Within.refl _ _
    | (with_reducible apply Within.andThen within_count; · decide)
    | (with_reducible apply Within.andThen within_failRound; · decide)
    | (with_reducible apply Within.andThen within_putCtx; · decide)
    | (with_reducible apply Within.andThen within_toSlot; · decide)
    | split
    | dsimp only

theorem within_dropHold {s : State} {f : Frame} : Within [.tally] s (State.dropHold s f) := by
  unfold State.dropHold
  repeat' first
    | with_reducible exact Within.refl _ _
    | (with_reducible apply Within.andThen within_modTally; · decide)

theorem within_dispatchOut {s : State} {c : TCtx} {first d off : Nat} {last : Bool} {p : List Byte} : Within [.regs, .sw] s (State.dispatchOut s c first d off last p) := by
  unfold State.dispatchOut
  repeat' first
    | with_reducible exact Within.refl _ _
    | (with_reducible apply Within.andThen within_agentSend; · decide)
    | split

end Sys2Proof.Machine
end

