-- ==== Sys2Proof/Laws/WithinHostOps.lean ====
section
/-! SUPPORT. Which parts of the state the operations of Machine/HostOps.lean may change; the queue is not theirs, and the canonical form is
kept. -/

-- One proof at a time: in the package as one text, proofs run side by side would only wait for one another.
set_option Elab.async false

namespace Sys2Proof.Machine

open Sys2Proof

theorem within_qVector {s : State} {q : Nat} : Within [.host, .out] s (State.qVector s q) := by
  unfold State.qVector
  repeat' first
    | with_reducible exact Within.refl _ _
    | (with_reducible apply Within.andThen within_modHost; · decide)
    | (with_reducible apply Within.andThen within_msix; · decide)
    | split
    | dsimp only

theorem within_qWrite {s : State} {q : Nat} {entry : List Byte} : Within [.regs, .host, .out] s (State.qWrite s q entry) := by
  unfold State.qWrite
  dsimp only
  repeat' first
    | with_reducible exact Within.refl _ _
    | (with_reducible apply Within.andThen within_modOut; · decide)
    | (with_reducible apply Within.andThen within_setFld; · decide)
    | (with_reducible apply Within.andThen within_modHost; · decide)
    | (with_reducible apply Within.andThen within_qVector; · decide)
    | split

theorem within_flushNotices {s : State} : Within [.regs, .stays, .host, .out] s (State.flushNotices s) := by
  unfold State.flushNotices
  repeat' first
    | with_reducible exact Within.refl _ _
    | (with_reducible apply Within.andThen (within_modStays ?_); any_goals first | decide | exact fun _ => rfl | exact fun _ => ⟨rfl, rfl⟩ | (intro k; simp; done))
    | (with_reducible apply Within.andThen within_modStays; · decide)
    | (with_reducible apply Within.andThen within_qWrite; · decide)
    | (with_reducible refine Within.foldl (fun _ _ => ?_) _ ?_)
    | (with_reducible refine Within.foldl_snd (fun _ _ => ?_) _ ?_)
    | (with_reducible refine Within.foldl_fst (fun _ _ => ?_) _ ?_)
    | (with_reducible refine Within.foldl_thd (fun _ _ => ?_) _ ?_)
    | split
    | dsimp only

theorem within_notify {s : State} {notice : List Byte} : Within [.regs, .stays, .host, .out] s (State.notify s notice) := by
  unfold State.notify
  repeat' first
    | with_reducible exact Within.refl _ _
    | (with_reducible apply Within.andThen (within_modStays ?_); any_goals first | decide | exact fun _ => rfl | exact fun _ => ⟨rfl, rfl⟩ | (intro k; simp; done))
    | (with_reducible apply Within.andThen within_flushNotices; · decide)
    | (with_reducible apply Within.andThen within_modStays; · decide)

end Sys2Proof.Machine
end

