-- ==== Sys2Proof/Laws/WithinStayOps.lean ====
section
/-! SUPPORT. Which parts of the state the operations of Machine/StayOps.lean may change; the queue is not theirs, and the canonical form is
kept. -/

-- One proof at a time: in the package as one text, proofs run side by side would only wait for one another.
set_option Elab.async false

namespace Sys2Proof.Machine

open Sys2Proof

/-- Every state that the end of a request may leave lies within the parts. -/
def Served.within (ps : List Part) (s : State) : Served → Prop
  | .done t => Within ps s t
  | .refused t _ => Within ps s t
  | .waits t _ => Within ps s t

theorem Served.of_refused {ps : List Part} {s t : State} {n : Nat} (h : Within ps s t) : Served.within ps s (.refused t n) := h

theorem Served.of_done {ps : List Part} {s t : State} (h : Within ps s t) : Served.within ps s (.done t) := h

theorem Served.of_waits {ps : List Part} {s t : State} {m : Option Nat} (h : Within ps s t) : Served.within ps s (.waits t m) := h

theorem Served.andThen {ps qs : List Part} {s t : State} {v : Served} (h : Served.within qs t v) (hq : ∀ p ∈ qs, p ∈ ps) (k : Within ps s t) :
    Served.within ps s v := by
  cases v with
  | done u => exact Within.andThen h hq k
  | refused u n => exact Within.andThen h hq k
  | waits u m => exact Within.andThen h hq k

theorem Served.done_of {ps : List Part} {s t : State} {v : Served} (h : v = .done t) (k : Served.within ps s v) : Within ps s t := by
  subst h; exact k

theorem Served.refused_of {ps : List Part} {s t : State} {v : Served} {n : Nat} (h : v = .refused t n) (k : Served.within ps s v) :
    Within ps s t := by
  subst h; exact k

theorem Served.waits_of {ps : List Part} {s t : State} {v : Served} {m : Option Nat} (h : v = .waits t m) (k : Served.within ps s v) :
    Within ps s t := by
  subst h; exact k

theorem within_readCard {s : State} {i : Nat} : Within [.regs, .mem] s (State.readCard s i).2 := by
  unfold State.readCard
  dsimp only
  repeat' first
    | with_reducible exact Within.refl _ _
    | (with_reducible apply Within.andThen within_porterRead; · decide)
    | (with_reducible refine Within.of_snd (by assumption) ?_)
    | split
    | dsimp only

theorem within_answer {s : State} {a : Asker} {kind : Nat} {docket : List Byte} : Within [.regs, .sw] s (State.answer s a kind docket) := by
  unfold State.answer
  repeat' first
    | with_reducible exact Within.refl _ _
    | (with_reducible apply Within.andThen within_agentSend; · decide)
    | split
    | dsimp only

theorem within_refuse {s : State} {a : Asker} {kind status : Nat} : Within [.regs, .sw] s (State.refuse s a kind status) := by
  unfold State.refuse
  repeat' first
    | with_reducible exact Within.refl _ _
    | (with_reducible apply Within.andThen within_count; · decide)
    | (with_reducible apply Within.andThen within_answer; · decide)
    | split

theorem within_stamp {s : State} {i : Nat} : Within [.regs, .stays] s (State.stamp s i) := by
  unfold State.stamp
  repeat' first
    | with_reducible exact Within.refl _ _
    | (with_reducible apply Within.andThen within_modStay; · decide)

theorem within_book {s t : State} {i k : Nat} (h : s.book i k = some t) : Within [.regs, .stays] s t := by
  unfold State.book at h
  split at h
  · cases h; exact within_modStay
  · cases h

theorem within_alloc {s t : State} {i page lk r : Nat} (h : s.alloc i page lk = some (r, t)) : Within [.regs, .mem, .stays] s t := by
  unfold State.alloc at h
  dsimp only at h
  split at h
  · cases h
  · split at h
    · cases h
    · next hr => cases h; exact within_modStay.andThen (by decide) (Within.of_snd hr within_takeRoom)

theorem within_toInn {s : State} {coord kind party srcRank addr tag : Nat} {payload : List Byte} : Within [.regs, .sw] s (State.toInn s coord kind party srcRank addr tag payload) := by
  unfold State.toInn
  repeat' first
    | with_reducible exact Within.refl _ _
    | (with_reducible apply Within.andThen within_agentSend; · decide)

theorem within_freshTag {s : State} : Within [.stays] s (State.freshTag s).2 := by
  unfold State.freshTag
  repeat' first
    | with_reducible exact Within.refl _ _
    | (with_reducible apply Within.andThen (within_modStays ?_); any_goals first | decide | exact fun _ => rfl | exact fun _ => ⟨rfl, rfl⟩ | (intro k; simp; done))
    | (with_reducible apply Within.andThen within_modStays; · decide)
    | split
    | dsimp only

theorem within_mirror {s : State} {i twin twinIndex op : Nat} {payload : List Byte} {a : Asker} {reply : Option (Nat × List Byte)} {must : Bool} {copy : Option Nat} : Within [.regs, .sw, .stays] s (State.mirror s i twin twinIndex op payload a reply must copy) := by
  unfold State.mirror
  dsimp only
  repeat' first
    | with_reducible exact Within.refl _ _
    | (with_reducible apply Within.andThen (within_modStays ?_); any_goals first | decide | exact fun _ => rfl | exact fun _ => ⟨rfl, rfl⟩ | (intro k; simp; done))
    | (with_reducible apply Within.andThen within_freshTag; · decide)
    | (with_reducible apply Within.andThen within_modStays; · decide)
    | (with_reducible apply Within.andThen within_toInn; · decide)
    | (with_reducible refine Within.of_snd (by assumption) ?_)
    | split
    | dsimp only

theorem within_mirrorClose {s : State} {i : Nat} : Within [.regs, .sw, .stays] s (State.mirrorClose s i) := by
  unfold State.mirrorClose
  dsimp only
  repeat' first
    | with_reducible exact Within.refl _ _
    | (with_reducible apply Within.andThen within_freshTag; · decide)
    | (with_reducible apply Within.andThen within_toInn; · decide)
    | (with_reducible refine Within.of_snd (by assumption) ?_)
    | split
    | dsimp only

theorem within_pieceOf {s : State} {room : Option Nat} {k : Nat} : Within [.regs, .mem] s (State.pieceOf s room k).2.2 := by
  unfold State.pieceOf
  dsimp only
  repeat' first
    | with_reducible exact Within.refl _ _
    | (with_reducible apply Within.andThen within_poisonRoom; · decide)
    | (with_reducible apply Within.andThen within_readPiece; · decide)
    | (with_reducible refine Within.of_thd (by assumption) ?_)
    | split
    | dsimp only

theorem within_sendPage {s : State} {coord far page : Nat} {room : Option Nat} {tag party : Nat} : Within [.regs, .sw, .mem] s (State.sendPage s coord far page room tag party) := by
  unfold State.sendPage
  dsimp only
  repeat' first
    | with_reducible exact Within.refl _ _
    | (with_reducible apply Within.andThen within_agentSend; · decide)
    | (with_reducible apply Within.andThen within_pieceOf; · decide)
    | (with_reducible refine Within.foldl (fun _ _ => ?_) _ ?_)
    | (with_reducible refine Within.foldl_snd (fun _ _ => ?_) _ ?_)
    | (with_reducible refine Within.foldl_fst (fun _ _ => ?_) _ ?_)
    | (with_reducible refine Within.foldl_thd (fun _ _ => ?_) _ ?_)
    | (with_reducible refine Within.of_thd (by assumption) ?_)
    | split
    | dsimp only

theorem within_sendPageOf {s : State} {i coord far page tag party : Nat} : Within [.regs, .sw, .mem] s (State.sendPageOf s i coord far page tag party) := by
  unfold State.sendPageOf
  dsimp only
  repeat' first
    | with_reducible exact Within.refl _ _
    | (with_reducible apply Within.andThen within_pageRoom; · decide)
    | (with_reducible apply Within.andThen within_sendPage; · decide)
    | (with_reducible refine Within.of_snd (by assumption) ?_)
    | split
    | dsimp only

theorem within_recallPage {s : State} {i page : Nat} : Within [.regs, .sw, .stays] s (State.recallPage s i page) := by
  unfold State.recallPage
  dsimp only
  repeat' first
    | with_reducible exact Within.refl _ _
    | (with_reducible apply Within.andThen within_freshTag; · decide)
    | (with_reducible apply Within.andThen within_toInn; · decide)
    | (with_reducible refine Within.of_snd (by assumption) ?_)
    | split
    | dsimp only

theorem within_mendOr {s : State} {i page : Nat} : Served.within [.regs, .sw, .stays] s (State.mendOr s i page) := by
  unfold State.mendOr
  repeat' first
    | with_reducible exact Within.refl _ _
    | (with_reducible apply Within.andThen within_recallPage; · decide)
    | (with_reducible apply Within.andThen within_refused; · decide)
    | (with_reducible refine Served.of_refused ?_)
    | (with_reducible refine Served.of_done ?_)
    | (with_reducible refine Served.of_waits ?_)
    | split
    | dsimp only

theorem within_writeHead {s : State} {c : Card} {room t fmt : Nat} {data : List Byte} : Within [.regs, .mem] s (State.writeHead s c room t fmt data).2.2 := by
  unfold State.writeHead
  dsimp only
  repeat' first
    | with_reducible exact Within.refl _ _
    | (with_reducible apply Within.andThen within_poolWrite; · decide)
    | split
    | dsimp only

theorem within_appendRooms {ps : List (Nat × Nat)} {s t : State} {i lk : Nat} (h : State.appendRooms ps s i lk = some t) :
    Within [.regs, .mem, .stays] s t := by
  induction ps generalizing s with
  | nil => cases h; exact Within.refl _ _
  | cons x ps ih =>
    obtain ⟨p, old⟩ := x
    unfold State.appendRooms at h
    split at h
    · cases h
    · next ha =>
      have h1 := within_alloc ha
      dsimp only at h
      split at h
      · cases h
      · next hp =>
        refine (ih h).andThen (by decide) ((within_setPage hp).andThen (by decide) ?_)
        split
        · exact h1
        · exact within_count.andThen (by decide) (within_dropRef.andThen (by decide) (within_copyRoom.andThen (by decide) h1))

theorem within_dropFrom {s : State} {i lo hi : Nat} : Within [.regs, .mem, .stays] s (State.dropFrom s i lo hi) := by
  unfold State.dropFrom
  repeat' first
    | with_reducible exact Within.refl _ _
    | (with_reducible apply Within.andThen within_dropPage; · decide)
    | (with_reducible refine Within.foldl (fun _ _ => ?_) _ ?_)
    | (with_reducible refine Within.foldl_snd (fun _ _ => ?_) _ ?_)
    | (with_reducible refine Within.foldl_fst (fun _ _ => ?_) _ ?_)
    | (with_reducible refine Within.foldl_thd (fun _ _ => ?_) _ ?_)
    | dsimp only

theorem within_appendCore {s t : State} {i n : Nat} {c : Card} {p : List Byte} {replay : Bool} (h : s.appendCore i c p replay = .ok (n, t)) :
    Within [.regs, .mem, .stays] s t := by
  unfold State.appendCore at h
  dsimp only at h
  split at h
  · cases h
  · split at h
    · split at h
      · cases h; exact Within.refl _ _
      · split at h
        · cases h
        split at h
        · cases h
        · cases h; exact within_modStay.andThen (by decide) (within_dropFrom.mono (by decide))
    · split at h
      · cases h
      · next rooms s0 hr =>
        have h0 : Within [.regs, .mem, .stays] s _ := (Within.of_snd hr within_roomsOf).mono (by decide)
        have h1 := (within_readLedgers (s := s0) (rs := rooms)).andThen (by decide) h0
        split at h
        · cases h
        · split at h
          · cases h
          · split at h
            · cases h
            · next ha =>
              cases h
              refine within_modStay.andThen (by decide) ?_
              have h2 := (within_appendRooms ha).andThen (by decide) h1
              split
              · refine Within.foldl_thd (fun x a => ?_) _ h2
                exact within_writeHead.mono (by decide)
              · refine within_countBy.andThen (by decide) (Within.foldl_thd (fun x a => ?_) _ h2)
                exact within_writeHead.mono (by decide)

theorem within_appendCore_error {s : State} {i : Nat} {c : Card} {p : List Byte} {replay : Bool} {v : Served}
    (h : s.appendCore i c p replay = .error v) : Served.within [.regs, .sw, .mem, .stays] s v := by
  unfold State.appendCore at h
  dsimp only at h
  split at h
  · cases h; exact Served.of_refused (Within.refl _ _)
  · split at h
    · split at h
      · cases h
      · split at h
        · cases h; exact Served.of_waits (Within.refl _ _)
        split at h
        · next hr => cases h; exact Served.of_refused ((Within.of_snd hr within_roomsOf).mono (by decide))
        · cases h
    · split at h
      · next hr => cases h; exact Served.of_refused ((Within.of_snd hr within_roomsOf).mono (by decide))
      · next rooms s0 hr =>
        have h0 : Within [.regs, .sw, .mem, .stays] s _ := (Within.of_snd hr within_roomsOf).mono (by decide)
        have h1 := (within_readLedgers (s := s0) (rs := rooms)).andThen (by decide) h0
        split at h
        · cases h; exact h1
        · split at h
          · cases h; exact Served.andThen within_mendOr (by decide) h1
          · split at h
            · cases h; exact Served.of_refused h1
            · cases h

theorem within_append {s : State} {i : Nat} {c : Card} {a : Asker} {p : List Byte} : Served.within [.regs, .sw, .mem, .stays] s (State.append s i c a p) := by
  unfold State.append
  dsimp only
  repeat' first
    | with_reducible exact Within.refl _ _
    | (with_reducible apply Within.andThen within_count; · decide)
    | (with_reducible apply Within.andThen within_answer; · decide)
    | (with_reducible refine Within.andThen (within_appendCore (by assumption)) (by decide) ?_)
    | (with_reducible apply Within.andThen within_mirror; · decide)
    | (with_reducible refine Served.of_refused ?_)
    | (with_reducible refine Served.of_done ?_)
    | (with_reducible refine Served.of_waits ?_)
    | (with_reducible apply Served.andThen (within_appendCore_error (by assumption)); · decide)
    | split
    | dsimp only

theorem within_takeEntry {s t : State} {state party ownerRank rooms i : Nat} {card : List Byte}
    (h : s.takeEntry state party ownerRank card rooms = .ok (i, t)) : Within [.regs, .mem, .stays] s t := by
  unfold State.takeEntry at h
  dsimp only at h
  split at h
  · cases h
  · split at h
    · cases h
    · next hb => cases h; exact within_porterWrite.andThen (by decide) ((within_book hb).andThen (by decide) (within_setStay.mono (by decide)))

theorem within_granted {s : State} {i : Nat} {a : Asker} {kind twinHandle : Nat} {mirrored : Bool} : Within [.regs, .sw] s (State.granted s i a kind twinHandle mirrored) := by
  unfold State.granted
  repeat' first
    | with_reducible exact Within.refl _ _
    | (with_reducible apply Within.andThen within_count; · decide)
    | (with_reducible apply Within.andThen within_answer; · decide)

theorem within_openDone {s : State} {i : Nat} {c : Card} {a : Asker} {kind : Nat} {copy : Option Nat} {op : Nat} {payload : List Byte} : Within [.regs, .sw, .stays] s (State.openDone s i c a kind copy op payload) := by
  unfold State.openDone
  repeat' first
    | with_reducible exact Within.refl _ _
    | (with_reducible apply Within.andThen within_granted; · decide)
    | (with_reducible apply Within.andThen within_mirror; · decide)
    | split
    | dsimp only

theorem within_openStay {s : State} {f : Frame} : Served.within [.regs, .sw, .mem, .stays] s (State.openStay s f) := by
  unfold State.openStay
  dsimp only
  repeat' first
    | with_reducible exact Within.refl _ _
    | (with_reducible apply Within.andThen within_openDone; · decide)
    | (with_reducible apply Within.andThen within_refused; · decide)
    | (with_reducible refine Within.andThen (within_takeEntry (by assumption)) (by decide) ?_)
    | (with_reducible refine Served.of_refused ?_)
    | (with_reducible refine Served.of_done ?_)
    | (with_reducible refine Served.of_waits ?_)
    | split
    | dsimp only

theorem within_sharePages {ps : List Nat} {s : State} {src i : Nat} : Within [.regs, .mem, .stays] s (State.sharePages ps s src i).2 := by
  induction ps generalizing s with
  | nil => exact Within.refl _ _
  | cons p ps ih =>
    unfold State.sharePages
    split
    · next hr => exact (Within.of_snd hr within_pageRoom).mono (by decide)
    · next hr =>
      have h1 : Within [.regs, .mem, .stays] s _ := (Within.of_snd hr within_pageRoom).mono (by decide)
      split
      · exact ih.andThen (by decide) h1
      · split
        · exact h1
        · split
          · exact h1
          · next hp => exact ih.andThen (by decide) (within_addRef.andThen (by decide) ((within_setPage hp).andThen (by decide) h1))

theorem within_forkCore {s t : State} {src state party ownerRank i : Nat} {p : List Byte} {own : Option Nat} {c : Card}
    (h : s.forkCore src state party ownerRank p own = .ok (i, c, t)) : Within [.regs, .mem, .stays] s t := by
  unfold State.forkCore at h
  dsimp only at h
  split at h
  · cases h
  · split at h
    · cases h
    · next he =>
      split at h
      · cases h
      · next hs =>
        cases h
        exact within_modStay.andThen (by decide) ((Within.of_snd hs within_sharePages).andThen (by decide) (within_takeEntry he))

theorem within_forkCore_error {s t : State} {src state party ownerRank n : Nat} {p : List Byte} {own : Option Nat}
    (h : s.forkCore src state party ownerRank p own = .error (n, t)) : Within [.regs, .mem, .stays] s t := by
  unfold State.forkCore at h
  dsimp only at h
  split at h
  · cases h; exact Within.refl _ _
  · split at h
    · cases h; exact Within.refl _ _
    · next he =>
      split at h
      · next hs =>
        cases h
        exact within_freeEntry.andThen (by decide) (within_dropChart.andThen (by decide)
          ((Within.of_snd hs within_sharePages).andThen (by decide) (within_takeEntry he)))
      · cases h

theorem within_fork {s : State} {src : Nat} {f : Frame} : Served.within [.regs, .sw, .mem, .stays] s (State.fork s src f) := by
  unfold State.fork
  dsimp only
  repeat' first
    | with_reducible exact Within.refl _ _
    | (with_reducible refine Within.andThen (within_forkCore_error (by assumption)) (by decide) ?_)
    | (with_reducible refine Within.andThen (within_forkCore (by assumption)) (by decide) ?_)
    | (with_reducible apply Within.andThen within_openDone; · decide)
    | (with_reducible apply Within.andThen within_refuse; · decide)
    | (with_reducible refine Served.of_refused ?_)
    | (with_reducible refine Served.of_done ?_)
    | (with_reducible refine Served.of_waits ?_)
    | split
    | dsimp only

theorem within_attend {s : State} {i : Nat} {c : Card} {f : Frame} : Served.within [.regs, .sw, .mem, .stays] s (State.attend s i c f) := by
  unfold State.attend
  dsimp only
  repeat' first
    | with_reducible exact Within.refl _ _
    | (with_reducible apply Within.andThen (within_modStays ?_); any_goals first | decide | exact fun _ => rfl | exact fun _ => ⟨rfl, rfl⟩ | (intro k; simp; done))
    | (with_reducible apply Within.andThen within_count; · decide)
    | (with_reducible apply Served.andThen within_mendOr; · decide)
    | (with_reducible apply Within.andThen within_modStay; · decide)
    | (with_reducible apply Within.andThen within_modStays; · decide)
    | (with_reducible apply Within.andThen within_readLedgers; · decide)
    | (with_reducible apply Within.andThen within_refused; · decide)
    | (with_reducible apply Within.andThen within_roomsOf; · decide)
    | (with_reducible refine Within.of_snd (by assumption) ?_)
    | (with_reducible refine Served.of_refused ?_)
    | (with_reducible refine Served.of_done ?_)
    | (with_reducible refine Served.of_waits ?_)
    | (with_reducible refine Served.done_of (by assumption) ?_)
    | (with_reducible refine Served.refused_of (by assumption) ?_)
    | (with_reducible refine Served.waits_of (by assumption) ?_)
    | split
    | dsimp only

theorem within_park {s : State} {i : Nat} {c : Card} {a : Asker} {p : List Byte} : Served.within [.regs, .sw, .stays] s (State.park s i c a p) := by
  unfold State.park
  dsimp only
  repeat' first
    | with_reducible exact Within.refl _ _
    | (with_reducible apply Within.andThen (within_modStays ?_); any_goals first | decide | exact fun _ => rfl | exact fun _ => ⟨rfl, rfl⟩ | (intro k; simp; done))
    | (with_reducible apply Within.andThen within_modStays; · decide)
    | (with_reducible apply Within.andThen within_refused; · decide)
    | (with_reducible refine Served.of_refused ?_)
    | (with_reducible refine Served.of_done ?_)
    | (with_reducible refine Served.of_waits ?_)
    | split
    | dsimp only

theorem within_unparkPages {ps : List Nat} {s t : State} {i lk src n : Nat} (h : State.unparkPages ps s i lk src = some (n, t)) :
    Within [.regs, .mem, .stays] s t := by
  induction ps generalizing s n with
  | nil => cases h; exact Within.refl _ _
  | cons p ps ih =>
    unfold State.unparkPages at h
    split at h
    · exact ih h
    · split at h
      · cases h
      · next ha =>
        split at h
        · cases h
        · next hp =>
          simp only [Option.map_eq_some_iff, Prod.mk.injEq] at h
          obtain ⟨⟨m, u⟩, hu, rfl, rfl⟩ := h
          exact (ih hu).andThen (by decide) ((within_setPage hp).andThen (by decide) (within_copyRoom.andThen (by decide) (within_alloc ha)))

theorem within_unparkHost {s : State} {i : Nat} {c : Card} {a : Asker} {p : List Byte} : Served.within [.regs, .sw, .mem, .stays] s (State.unparkHost s i c a p) := by
  unfold State.unparkHost
  dsimp only
  repeat' first
    | with_reducible exact Within.refl _ _
    | (with_reducible apply Within.andThen within_count; · decide)
    | (with_reducible apply Within.andThen within_answer; · decide)
    | (with_reducible refine Within.andThen (within_book (by assumption)) (by decide) ?_)
    | (with_reducible apply Within.andThen within_modStay; · decide)
    | (with_reducible apply Within.andThen within_poolRead; · decide)
    | (with_reducible apply Within.andThen within_refused; · decide)
    | (with_reducible refine Within.andThen (within_unparkPages (by assumption)) (by decide) ?_)
    | (with_reducible refine Within.of_snd (by assumption) ?_)
    | (with_reducible refine Served.of_refused ?_)
    | (with_reducible refine Served.of_done ?_)
    | (with_reducible refine Served.of_waits ?_)
    | split
    | dsimp only

theorem within_unparkPeer {s : State} {i : Nat} {c : Card} {a : Asker} : Served.within [.regs, .sw, .stays] s (State.unparkPeer s i c a) := by
  unfold State.unparkPeer
  dsimp only
  repeat' first
    | with_reducible exact Within.refl _ _
    | (with_reducible apply Within.andThen (within_modStays ?_); any_goals first | decide | exact fun _ => rfl | exact fun _ => ⟨rfl, rfl⟩ | (intro k; simp; done))
    | (with_reducible refine Within.andThen (within_book (by assumption)) (by decide) ?_)
    | (with_reducible apply Within.andThen within_freshTag; · decide)
    | (with_reducible apply Within.andThen within_modStay; · decide)
    | (with_reducible apply Within.andThen within_modStays; · decide)
    | (with_reducible apply Within.andThen within_refused; · decide)
    | (with_reducible apply Within.andThen within_toInn; · decide)
    | (with_reducible refine Within.of_snd (by assumption) ?_)
    | (with_reducible refine Served.of_refused ?_)
    | (with_reducible refine Served.of_done ?_)
    | (with_reducible refine Served.of_waits ?_)
    | split
    | dsimp only

theorem within_closeStay {s : State} {i : Nat} {a : Asker} {f : Frame} : Within [.regs, .sw, .stays] s (State.closeStay s i a f) := by
  unfold State.closeStay
  dsimp only
  repeat' first
    | with_reducible exact Within.refl _ _
    | (with_reducible apply Within.andThen (within_modStays ?_); any_goals first | decide | exact fun _ => rfl | exact fun _ => ⟨rfl, rfl⟩ | (intro k; simp; done))
    | (with_reducible apply Within.andThen within_answer; · decide)
    | (with_reducible apply Within.andThen within_freeEntry; · decide)
    | (with_reducible apply Within.andThen within_mirrorClose; · decide)
    | (with_reducible apply Within.andThen within_modStay; · decide)
    | (with_reducible apply Within.andThen within_modStays; · decide)
    | split

theorem within_request {s : State} {a : Asker} {f : Frame} : Served.within [.regs, .sw, .mem, .stays] s (State.request s a f) := by
  unfold State.request
  dsimp only
  repeat' first
    | with_reducible exact Within.refl _ _
    | (with_reducible apply Within.andThen within_answer; · decide)
    | (with_reducible apply Served.andThen within_append; · decide)
    | (with_reducible apply Served.andThen within_attend; · decide)
    | (with_reducible apply Within.andThen within_closeStay; · decide)
    | (with_reducible apply Served.andThen within_fork; · decide)
    | (with_reducible apply Served.andThen within_park; · decide)
    | (with_reducible apply Within.andThen within_readCard; · decide)
    | (with_reducible apply Within.andThen within_refuse; · decide)
    | (with_reducible apply Within.andThen within_refused; · decide)
    | (with_reducible apply Served.andThen within_unparkHost; · decide)
    | (with_reducible apply Served.andThen within_unparkPeer; · decide)
    | (with_reducible refine Within.of_snd (by assumption) ?_)
    | (with_reducible refine Served.of_refused ?_)
    | (with_reducible refine Served.of_done ?_)
    | (with_reducible refine Served.of_waits ?_)
    | (with_reducible refine Served.done_of (by assumption) ?_)
    | (with_reducible refine Served.refused_of (by assumption) ?_)
    | (with_reducible refine Served.waits_of (by assumption) ?_)
    | split
    | dsimp only

theorem within_wait {s : State} {i : Nat} {a : Asker} {f : Frame} {mend : Option Nat} : Within [.stays] s (State.wait s i a f mend) := by
  unfold State.wait
  repeat' first
    | with_reducible exact Within.refl _ _
    | (with_reducible apply Within.andThen (within_modStays ?_); any_goals first | decide | exact fun _ => rfl | exact fun _ => ⟨rfl, rfl⟩ | (intro k; simp; done))
    | (with_reducible apply Within.andThen within_modStays; · decide)

theorem within_takeRequest {s : State} {a : Asker} {f : Frame} : Within [.regs, .sw, .mem, .stays] s (State.takeRequest s a f) := by
  unfold State.takeRequest
  dsimp only
  repeat' first
    | with_reducible exact Within.refl _ _
    | (with_reducible apply Within.andThen within_refuse; · decide)
    | (with_reducible apply Within.andThen within_refused; · decide)
    | (with_reducible apply Served.andThen within_request; · decide)
    | (with_reducible apply Within.andThen within_stamp; · decide)
    | (with_reducible apply Within.andThen within_wait; · decide)
    | (with_reducible refine Served.done_of (by assumption) ?_)
    | (with_reducible refine Served.refused_of (by assumption) ?_)
    | (with_reducible refine Served.waits_of (by assumption) ?_)
    | split
    | dsimp only

theorem within_mirrorAnswer {s : State} {f : Frame} {n : Nat} : Within [.regs, .sw, .mem, .stays] s (State.mirrorAnswer s f n) := by
  unfold State.mirrorAnswer
  repeat' first
    | with_reducible exact Within.refl _ _
    | (with_reducible apply Within.andThen within_answer; · decide)
    | (with_reducible apply Served.andThen within_request; · decide)
    | (with_reducible refine Served.done_of (by assumption) ?_)
    | (with_reducible refine Served.refused_of (by assumption) ?_)
    | (with_reducible refine Served.waits_of (by assumption) ?_)

theorem within_homeOf {s : State} {i : Nat} {f : Frame} {handle : Nat} : Within [.regs, .stays] s (State.homeOf s i f handle) := by
  unfold State.homeOf
  repeat' first
    | with_reducible exact Within.refl _ _
    | (with_reducible apply Within.andThen within_modStay; · decide)

theorem within_replay {s : State} {i : Nat} {f : Frame} : Served.within [.regs, .sw, .mem, .stays] s (State.replay s i f) := by
  unfold State.replay
  repeat' first
    | with_reducible exact Within.refl _ _
    | (with_reducible apply Within.andThen within_count; · decide)
    | (with_reducible refine Within.andThen (within_appendCore (by assumption)) (by decide) ?_)
    | (with_reducible apply Within.andThen within_mirrorAnswer; · decide)
    | (with_reducible apply Within.andThen within_readCard; · decide)
    | (with_reducible apply Within.andThen within_refused; · decide)
    | (with_reducible refine Within.of_snd (by assumption) ?_)
    | (with_reducible refine Served.of_refused ?_)
    | (with_reducible refine Served.of_done ?_)
    | (with_reducible refine Served.of_waits ?_)
    | (with_reducible apply Served.andThen (within_appendCore_error (by assumption)); · decide)
    | split
    | dsimp only

theorem within_replayFork {s : State} {src : Nat} {f : Frame} : Served.within [.regs, .sw, .mem, .stays] s (State.replayFork s src f) := by
  unfold State.replayFork
  dsimp only
  repeat' first
    | with_reducible exact Within.refl _ _
    | (with_reducible apply Within.andThen within_answer; · decide)
    | (with_reducible refine Within.andThen (within_forkCore_error (by assumption)) (by decide) ?_)
    | (with_reducible refine Within.andThen (within_forkCore (by assumption)) (by decide) ?_)
    | (with_reducible apply Within.andThen within_homeOf; · decide)
    | (with_reducible apply Within.andThen within_readCard; · decide)
    | (with_reducible apply Within.andThen within_refused; · decide)
    | (with_reducible apply Served.andThen within_request; · decide)
    | (with_reducible refine Within.of_snd (by assumption) ?_)
    | (with_reducible refine Served.of_refused ?_)
    | (with_reducible refine Served.of_done ?_)
    | (with_reducible refine Served.of_waits ?_)
    | (with_reducible refine Served.done_of (by assumption) ?_)
    | (with_reducible refine Served.refused_of (by assumption) ?_)
    | (with_reducible refine Served.waits_of (by assumption) ?_)
    | split
    | dsimp only

theorem within_copyTarget {s : State} {c : Card} {i page : Nat} : Within [.regs, .mem, .stays] s (State.copyTarget s c i page).2 := by
  unfold State.copyTarget
  split
  · next hr => exact (Within.of_snd hr within_pageRoom).mono (by decide)
  · next r s0 hr =>
    have h1 := (within_readLedgers (s := s0) (rs := [r])).andThen (qs := [.regs, .mem]) (by decide)
      ((Within.of_snd hr within_pageRoom).mono (by decide) : Within [.regs, .mem, .stays] s s0)
    dsimp only
    split
    · exact h1
    · split
      · exact h1
      · next hu => exact within_pageRoom.andThen (by decide) ((within_appendRooms hu).andThen (by decide) h1)

theorem within_replayCopy {s : State} {i : Nat} {f : Frame} : Served.within [.regs, .sw, .mem, .stays, .free] s (State.replayCopy s i f) := by
  unfold State.replayCopy
  dsimp only
  repeat' first
    | with_reducible exact Within.refl _ _
    | (with_reducible apply Within.andThen within_nextFree; · decide)
    | (with_reducible apply Within.andThen within_copyTarget; · decide)
    | (with_reducible apply Within.andThen within_mirrorAnswer; · decide)
    | (with_reducible apply Within.andThen within_modStay; · decide)
    | (with_reducible apply Within.andThen within_readCard; · decide)
    | (with_reducible apply Within.andThen within_refused; · decide)
    | (with_reducible apply Within.andThen within_writePiece; · decide)
    | (with_reducible refine Within.of_snd (by assumption) ?_)
    | (with_reducible refine Served.of_refused ?_)
    | (with_reducible refine Served.of_done ?_)
    | (with_reducible refine Served.of_waits ?_)
    | split
    | dsimp only

theorem within_mirrored {s : State} {f : Frame} : Served.within [.regs, .sw, .mem, .stays, .free] s (State.mirrored s f) := by
  unfold State.mirrored
  dsimp only
  repeat' first
    | with_reducible exact Within.refl _ _
    | (with_reducible apply Within.andThen within_closeChart; · decide)
    | (with_reducible apply Within.andThen within_freeEntry; · decide)
    | (with_reducible apply Within.andThen within_mirrorAnswer; · decide)
    | (with_reducible apply Within.andThen within_refused; · decide)
    | (with_reducible apply Served.andThen within_replay; · decide)
    | (with_reducible apply Served.andThen within_replayCopy; · decide)
    | (with_reducible apply Served.andThen within_replayFork; · decide)
    | (with_reducible refine Within.of_snd (by assumption) ?_)
    | (with_reducible refine Served.of_refused ?_)
    | (with_reducible refine Served.of_done ?_)
    | (with_reducible refine Served.of_waits ?_)
    | (with_reducible refine Served.done_of (by assumption) ?_)
    | (with_reducible refine Served.refused_of (by assumption) ?_)
    | (with_reducible refine Served.waits_of (by assumption) ?_)
    | split
    | dsimp only

theorem within_takeMirror {s : State} {op : Nat} {f0 : Frame} : Within [.regs, .sw, .mem, .stays, .free] s (State.takeMirror s op f0) := by
  unfold State.takeMirror
  dsimp only
  repeat' first
    | with_reducible exact Within.refl _ _
    | (with_reducible apply Within.andThen within_mirrorAnswer; · decide)
    | (with_reducible apply Served.andThen within_mirrored; · decide)
    | (with_reducible apply Within.andThen within_refused; · decide)
    | (with_reducible apply Served.andThen within_request; · decide)
    | (with_reducible apply Within.andThen within_wait; · decide)
    | (with_reducible refine Served.done_of (by assumption) ?_)
    | (with_reducible refine Served.refused_of (by assumption) ?_)
    | (with_reducible refine Served.waits_of (by assumption) ?_)
    | split
    | dsimp only

theorem within_again {s : State} {w : Waiting} : Served.within [.regs, .sw, .mem, .stays, .free] s (State.again s w) := by
  unfold State.again
  dsimp only
  repeat' first
    | with_reducible exact Within.refl _ _
    | (with_reducible apply Within.andThen (within_modStays ?_); any_goals first | decide | exact fun _ => rfl | exact fun _ => ⟨rfl, rfl⟩ | (intro k; simp; done))
    | (with_reducible apply Served.andThen within_attend; · decide)
    | (with_reducible apply Served.andThen within_mendOr; · decide)
    | (with_reducible apply Served.andThen within_mirrored; · decide)
    | (with_reducible apply Within.andThen within_modStays; · decide)
    | (with_reducible apply Within.andThen within_readLedgers; · decide)
    | (with_reducible apply Served.andThen within_request; · decide)
    | (with_reducible refine Served.of_refused ?_)
    | (with_reducible refine Served.of_done ?_)
    | (with_reducible refine Served.of_waits ?_)
    | (with_reducible refine Served.done_of (by assumption) ?_)
    | (with_reducible refine Served.refused_of (by assumption) ?_)
    | (with_reducible refine Served.waits_of (by assumption) ?_)
    | split
    | dsimp only

theorem within_dropWaiting {s : State} {w : Waiting} {status : Nat} : Within [.regs, .sw, .mem, .stays] s (State.dropWaiting s w status) := by
  unfold State.dropWaiting
  repeat' first
    | with_reducible exact Within.refl _ _
    | (with_reducible apply Served.andThen within_attend; · decide)
    | (with_reducible apply Within.andThen within_modStay; · decide)
    | (with_reducible apply Within.andThen within_refuse; · decide)
    | (with_reducible apply Served.andThen within_request; · decide)
    | (with_reducible refine Served.done_of (by assumption) ?_)
    | (with_reducible refine Served.refused_of (by assumption) ?_)
    | (with_reducible refine Served.waits_of (by assumption) ?_)
    | split
    | dsimp only

theorem within_drain {n : Nat} {s : State} {i : Nat} : Within [.regs, .sw, .mem, .stays, .free] s (State.drain n s i) := by
  induction n generalizing s with
  | zero => exact Within.refl _ _
  | succ n ih =>
    unfold State.drain
    dsimp only
    repeat' first
      | with_reducible exact Within.refl _ _
      | (with_reducible apply Within.andThen ih; · decide)
      | (with_reducible apply Within.andThen (within_modStays ?_); any_goals first | decide | exact fun _ => rfl | exact fun _ => ⟨rfl, rfl⟩ | (intro k; simp; done))
      | (with_reducible apply Within.andThen within_dropWaiting; · decide)
      | (with_reducible refine Served.done_of (by assumption) ?_)
      | (with_reducible refine Served.refused_of (by assumption) ?_)
      | (with_reducible refine Served.waits_of (by assumption) ?_)
      | (with_reducible apply Served.andThen within_again; · decide)
      | split

theorem within_drainStay {s : State} {i : Nat} : Within [.regs, .sw, .mem, .stays, .free] s (State.drainStay s i) := by
  unfold State.drainStay
  repeat' first
    | with_reducible exact Within.refl _ _
    | (with_reducible apply Within.andThen within_drain; · decide)

end Sys2Proof.Machine
end

