-- ==== Sys2Proof/Laws/WithinStays.lean ====
section
/-! SUPPORT. Which parts of the state the operations of Machine/Stays.lean may change; the queue is not theirs, and the canonical form is
kept. -/

-- One proof at a time: in the package as one text, proofs run side by side would only wait for one another.
set_option Elab.async false

namespace Sys2Proof.Machine

open Sys2Proof

theorem within_innServe {ps : List Part} {s : State} {f : Frame} {act : State → State}
    (hp : ∀ p ∈ [Part.regs, .power, .watch, .sw, .lanes, .tally, .health, .host, .out], p ∈ ps) (ha : ∀ x, Within ps x (act x)) :
    Ends ps s (s.innServe f act) := by
  unfold State.innServe
  split
  · exact Ends.of_next (Within.refl _ _)
  · exact within_serve hp ha

theorem within_queryDone {s : State} {q : Query} : Within [.regs, .sw, .mem, .stays] s (State.queryDone s q) := by
  unfold State.queryDone
  dsimp only
  repeat' first
    | with_reducible exact Within.refl _ _
    | (with_reducible apply Within.andThen within_refuse; · decide)
    | (with_reducible apply Served.andThen within_request; · decide)
    | (with_reducible apply Within.andThen within_takeRequest; · decide)
    | (with_reducible refine Served.done_of (by assumption) ?_)
    | (with_reducible refine Served.refused_of (by assumption) ?_)
    | (with_reducible refine Served.waits_of (by assumption) ?_)
    | split

theorem within_recount {s : State} : Within [.regs] s (State.recount s) := by
  unfold State.recount
  repeat' first
    | with_reducible exact Within.refl _ _
    | (with_reducible apply Within.andThen within_setFld; · decide)
    | (with_reducible apply Within.andThen within_count; · decide)
    | (with_reducible refine Within.foldl (fun _ _ => ?_) _ ?_)
    | (with_reducible refine Within.foldl_snd (fun _ _ => ?_) _ ?_)
    | (with_reducible refine Within.foldl_fst (fun _ _ => ?_) _ ?_)
    | (with_reducible refine Within.foldl_thd (fun _ _ => ?_) _ ?_)
    | split
    | dsimp only

end Sys2Proof.Machine
end

