-- ==== Sys2Proof/Laws/WithinTwins.lean ====
section
/-! SUPPORT. Which parts of the state the operations of Machine/Twins.lean may change; the queue is not theirs, and the canonical form is
kept. -/

-- One proof at a time: in the package as one text, proofs run side by side would only wait for one another.
set_option Elab.async false

namespace Sys2Proof.Machine

open Sys2Proof

theorem within_setMove {s : State} {i : Nat} {m : Option Move} : Within [.stays] s (State.setMove s i m) := by
  unfold State.setMove
  repeat' first
    | with_reducible exact Within.refl _ _
    | (with_reducible apply Within.andThen (within_modStays ?_); any_goals first | decide | exact fun _ => rfl | exact fun _ => ⟨rfl, rfl⟩ | (intro k; simp; done))
    | (with_reducible apply Within.andThen within_modStays; · decide)
    | split
    | dsimp only

theorem within_evictDrop {s : State} {i : Nat} : Within [.regs, .mem, .stays] s (State.evictDrop s i) := by
  unfold State.evictDrop
  dsimp only
  repeat' first
    | with_reducible exact Within.refl _ _
    | (with_reducible apply Within.andThen within_count; · decide)
    | (with_reducible apply Within.andThen within_dropChart; · decide)
    | (with_reducible apply Within.andThen within_modStay; · decide)
    | (with_reducible apply Within.andThen within_setMove; · decide)
    | (with_reducible refine Within.of_snd (by assumption) ?_)

theorem within_parkFails {s : State} {m : Move} {status : Nat} : Within [.regs, .sw, .mem, .stays, .free] s (State.parkFails s m status) := by
  unfold State.parkFails
  repeat' first
    | with_reducible exact Within.refl _ _
    | (with_reducible apply Within.andThen within_drainStay; · decide)
    | (with_reducible apply Within.andThen within_evictDrop; · decide)
    | (with_reducible apply Within.andThen within_modStay; · decide)
    | (with_reducible apply Within.andThen within_refuse; · decide)
    | (with_reducible apply Within.andThen within_setMove; · decide)
    | split

theorem within_peerParked {s : State} {m : Move} : Within [.regs, .sw, .mem, .stays, .free] s (State.peerParked s m) := by
  unfold State.peerParked
  dsimp only
  repeat' first
    | with_reducible exact Within.refl _ _
    | (with_reducible apply Within.andThen within_count; · decide)
    | (with_reducible apply Within.andThen within_answer; · decide)
    | (with_reducible apply Within.andThen within_drainStay; · decide)
    | (with_reducible apply Within.andThen within_dropChart; · decide)
    | (with_reducible apply Within.andThen within_modStay; · decide)
    | (with_reducible apply Within.andThen within_setMove; · decide)
    | (with_reducible refine Within.of_snd (by assumption) ?_)
    | split

theorem within_mendFails {s : State} {i page status : Nat} : Within [.regs, .sw, .mem, .stays, .free] s (State.mendFails s i page status) := by
  unfold State.mendFails
  dsimp only
  repeat' first
    | with_reducible exact Within.refl _ _
    | (with_reducible apply Within.andThen (within_modStays ?_); any_goals first | decide | exact fun _ => rfl | exact fun _ => ⟨rfl, rfl⟩ | (intro k; simp; done))
    | (with_reducible apply Within.andThen within_drainStay; · decide)
    | (with_reducible apply Within.andThen within_dropWaiting; · decide)
    | (with_reducible apply Within.andThen within_modStays; · decide)
    | (with_reducible refine Within.foldl (fun _ _ => ?_) _ ?_)
    | (with_reducible refine Within.foldl_snd (fun _ _ => ?_) _ ?_)
    | (with_reducible refine Within.foldl_fst (fun _ _ => ?_) _ ?_)
    | (with_reducible refine Within.foldl_thd (fun _ _ => ?_) _ ?_)
    | dsimp only

theorem within_dropArriving {s : State} {i : Nat} : Within [.regs, .mem, .stays] s (State.dropArriving s i) := by
  unfold State.dropArriving
  dsimp only
  repeat' first
    | with_reducible exact Within.refl _ _
    | (with_reducible apply Within.andThen (within_modStays ?_); any_goals first | decide | exact fun _ => rfl | exact fun _ => ⟨rfl, rfl⟩ | (intro k; simp; done))
    | (with_reducible apply Within.andThen within_dropRef; · decide)
    | (with_reducible apply Within.andThen within_modStays; · decide)
    | (with_reducible refine Within.foldl (fun _ _ => ?_) _ ?_)
    | (with_reducible refine Within.foldl_snd (fun _ _ => ?_) _ ?_)
    | (with_reducible refine Within.foldl_fst (fun _ _ => ?_) _ ?_)
    | (with_reducible refine Within.foldl_thd (fun _ _ => ?_) _ ?_)
    | dsimp only

theorem within_pageArrived {s : State} {a : Arriving} : Within [.regs, .sw, .mem, .stays, .free] s (State.pageArrived s a) := by
  unfold State.pageArrived
  dsimp only
  repeat' first
    | with_reducible exact Within.refl _ _
    | (with_reducible apply Within.andThen (within_modStays ?_); any_goals first | decide | exact fun _ => rfl | exact fun _ => ⟨rfl, rfl⟩ | (intro k; simp; done))
    | (with_reducible apply Within.andThen within_count; · decide)
    | (with_reducible apply Served.andThen within_attend; · decide)
    | (with_reducible apply Within.andThen within_drainStay; · decide)
    | (with_reducible apply Within.andThen within_dropRef; · decide)
    | (with_reducible apply Within.andThen within_mendFails; · decide)
    | (with_reducible apply Within.andThen within_modStays; · decide)
    | (with_reducible apply Within.andThen within_pageRoom; · decide)
    | (with_reducible refine Within.andThen (within_setPage (by assumption)) (by decide) ?_)
    | (with_reducible refine Within.of_snd (by assumption) ?_)
    | (with_reducible refine Served.done_of (by assumption) ?_)
    | (with_reducible refine Served.refused_of (by assumption) ?_)
    | (with_reducible refine Served.waits_of (by assumption) ?_)
    | (with_reducible refine Within.getD (fun _ _ => ?_) ?_)
    | split
    | dsimp only

theorem within_returned {s : State} {m : Move} : Within [.regs, .sw, .mem, .stays, .health, .free] s (State.returned s m) := by
  unfold State.returned
  dsimp only
  repeat' first
    | with_reducible exact Within.refl _ _
    | (with_reducible apply Within.andThen within_count; · decide)
    | (with_reducible apply Within.andThen within_modHealth; · decide)
    | (with_reducible apply Within.andThen within_answer; · decide)
    | (with_reducible apply Within.andThen within_drainStay; · decide)
    | (with_reducible apply Within.andThen within_modStay; · decide)
    | (with_reducible apply Within.andThen within_setMove; · decide)
    | split

theorem within_nextPage {s : State} {i : Nat} : Within [.regs, .sw, .mem, .stays, .health, .free] s (State.nextPage s i) := by
  unfold State.nextPage
  dsimp only
  repeat' first
    | with_reducible exact Within.refl _ _
    | (with_reducible apply Within.andThen within_recallPage; · decide)
    | (with_reducible apply Within.andThen within_returned; · decide)
    | (with_reducible apply Within.andThen within_setMove; · decide)
    | split
    | dsimp only

theorem within_pageAcked {s : State} {m : Move} : Within [.regs, .sw, .mem, .stays, .free] s (State.pageAcked s m) := by
  unfold State.pageAcked
  dsimp only
  repeat' first
    | with_reducible exact Within.refl _ _
    | (with_reducible apply Within.andThen within_dropChart; · decide)
    | (with_reducible apply Within.andThen within_dropPage; · decide)
    | (with_reducible apply Within.andThen within_freeEntry; · decide)
    | (with_reducible apply Within.andThen within_peerParked; · decide)
    | (with_reducible apply Within.andThen within_sendPageOf; · decide)
    | (with_reducible apply Within.andThen within_setMove; · decide)
    | (with_reducible refine Within.of_snd (by assumption) ?_)
    | split

theorem within_recalled {s : State} {f : Frame} {status : Nat} : Within [.regs, .sw, .mem, .stays] s (State.recalled s f status) := by
  unfold State.recalled
  repeat' first
    | with_reducible exact Within.refl _ _
    | (with_reducible apply Within.andThen within_answer; · decide)
    | (with_reducible apply Served.andThen within_request; · decide)
    | (with_reducible refine Served.done_of (by assumption) ?_)
    | (with_reducible refine Served.refused_of (by assumption) ?_)
    | (with_reducible refine Served.waits_of (by assumption) ?_)

theorem within_lostAway {s : State} {m : Move} {status : Nat} : Within [.regs, .sw, .mem, .stays, .health, .free] s (State.lostAway s m status) := by
  unfold State.lostAway
  dsimp only
  repeat' first
    | with_reducible exact Within.refl _ _
    | (with_reducible apply Within.andThen within_modHealth; · decide)
    | (with_reducible apply Within.andThen within_drainStay; · decide)
    | (with_reducible apply Within.andThen within_dropArriving; · decide)
    | (with_reducible apply Within.andThen within_dropChart; · decide)
    | (with_reducible apply Within.andThen within_modStay; · decide)
    | (with_reducible apply Within.andThen within_refuse; · decide)
    | (with_reducible apply Within.andThen within_setMove; · decide)
    | (with_reducible refine Within.of_snd (by assumption) ?_)
    | split

theorem within_twinLost {s : State} {i : Nat} : Within [.regs, .power, .watch, .sw, .lanes, .tally, .stays, .health, .host, .out] s (State.twinLost s i) := by
  unfold State.twinLost
  dsimp only
  repeat' first
    | with_reducible exact Within.refl _ _
    | (with_reducible apply Within.andThen within_count; · decide)
    | (with_reducible apply Within.andThen within_fault; · decide)
    | (with_reducible apply Within.andThen within_mirrorClose; · decide)
    | (with_reducible apply Within.andThen within_modStay; · decide)
    | split

theorem within_copyFrom {n : Nat} {s : State} {i p : Nat} : Within [.regs, .mem] s (State.copyFrom n s i p).2 := by
  induction n generalizing s p with
  | zero => exact Within.refl _ _
  | succ n ih =>
    unfold State.copyFrom
    split
    · next hr => exact Within.of_snd hr within_pageRoom
    · next hr =>
      have h1 := Within.of_snd hr (within_pageRoom (s := s))
      split
      · exact ih.andThen (by decide) h1
      · exact h1

theorem within_sendCopy {s : State} {m : Mirroring} {page room : Nat} : Within [.regs, .sw, .mem, .stays] s (State.sendCopy s m page room) := by
  unfold State.sendCopy
  dsimp only
  repeat' first
    | with_reducible exact Within.refl _ _
    | (with_reducible apply Within.andThen (within_modStays ?_); any_goals first | decide | exact fun _ => rfl | exact fun _ => ⟨rfl, rfl⟩ | (intro k; simp; done))
    | (with_reducible apply Within.andThen within_agentSend; · decide)
    | (with_reducible apply Within.andThen within_freshTag; · decide)
    | (with_reducible apply Within.andThen within_modStays; · decide)
    | (with_reducible apply Within.andThen within_pieceOf; · decide)
    | (with_reducible refine Within.foldl (fun _ _ => ?_) _ ?_)
    | (with_reducible refine Within.foldl_snd (fun _ _ => ?_) _ ?_)
    | (with_reducible refine Within.foldl_fst (fun _ _ => ?_) _ ?_)
    | (with_reducible refine Within.foldl_thd (fun _ _ => ?_) _ ?_)
    | (with_reducible refine Within.of_snd (by assumption) ?_)
    | (with_reducible refine Within.of_thd (by assumption) ?_)
    | split
    | dsimp only

theorem within_mirrorReply {s : State} {m : Mirroring} {good : Bool} : Within [.regs, .sw] s (State.mirrorReply s m good) := by
  unfold State.mirrorReply
  dsimp only
  repeat' first
    | with_reducible exact Within.refl _ _
    | (with_reducible apply Within.andThen within_answer; · decide)
    | (with_reducible apply Within.andThen within_granted; · decide)
    | split
    | dsimp only

theorem within_mirrorOpenFails {s : State} {m : Mirroring} : Within [.regs, .power, .watch, .sw, .lanes, .tally, .mem, .stays, .health, .host, .out, .free] s (State.mirrorOpenFails s m) := by
  unfold State.mirrorOpenFails
  dsimp only
  repeat' first
    | with_reducible exact Within.refl _ _
    | (with_reducible apply Within.andThen within_raise; · decide)
    | (with_reducible apply Within.andThen within_drainStay; · decide)
    | (with_reducible apply Within.andThen within_dropChart; · decide)
    | (with_reducible apply Within.andThen within_freeEntry; · decide)
    | (with_reducible apply Within.andThen within_mirrorReply; · decide)
    | (with_reducible apply Within.andThen within_refuse; · decide)
    | (with_reducible apply Within.andThen within_twinLost; · decide)
    | (with_reducible refine Within.of_snd (by assumption) ?_)
    | split

theorem within_copyNext {s : State} {m : Mirroring} {p : Nat} : Within [.regs, .power, .watch, .sw, .lanes, .tally, .mem, .stays, .health, .host, .out, .free] s (State.copyNext s m p) := by
  unfold State.copyNext
  dsimp only
  repeat' first
    | with_reducible exact Within.refl _ _
    | (with_reducible apply Within.andThen within_copyFrom; · decide)
    | (with_reducible apply Within.andThen within_drainStay; · decide)
    | (with_reducible apply Within.andThen within_mirrorOpenFails; · decide)
    | (with_reducible apply Within.andThen within_mirrorReply; · decide)
    | (with_reducible apply Within.andThen within_readCard; · decide)
    | (with_reducible apply Within.andThen within_readLedgers; · decide)
    | (with_reducible apply Within.andThen within_sendCopy; · decide)
    | (with_reducible refine Within.of_snd (by assumption) ?_)
    | split
    | dsimp only

theorem within_mirrorEnds {s : State} {m : Mirroring} {status handle : Nat} : Within [.regs, .power, .watch, .sw, .lanes, .tally, .mem, .stays, .health, .host, .out, .free] s (State.mirrorEnds s m status handle) := by
  unfold State.mirrorEnds
  dsimp only
  repeat' first
    | with_reducible exact Within.refl _ _
    | (with_reducible apply Within.andThen (within_modStays ?_); any_goals first | decide | exact fun _ => rfl | exact fun _ => ⟨rfl, rfl⟩ | (intro k; simp; done))
    | (with_reducible apply Within.andThen within_copyNext; · decide)
    | (with_reducible apply Within.andThen within_mirrorOpenFails; · decide)
    | (with_reducible apply Within.andThen within_mirrorReply; · decide)
    | (with_reducible apply Within.andThen within_modStay; · decide)
    | (with_reducible apply Within.andThen within_modStays; · decide)
    | (with_reducible apply Within.andThen within_twinLost; · decide)
    | split
    | dsimp only

theorem within_takeOver {s : State} {i : Nat} : Within [.regs, .sw, .mem, .stays] s (State.takeOver s i) := by
  unfold State.takeOver
  dsimp only
  repeat' first
    | with_reducible exact Within.refl _ _
    | (with_reducible apply Within.andThen (within_modStays ?_); any_goals first | decide | exact fun _ => rfl | exact fun _ => ⟨rfl, rfl⟩ | (intro k; simp; done))
    | (with_reducible apply Within.andThen within_dropArriving; · decide)
    | (with_reducible apply Within.andThen within_dropChart; · decide)
    | (with_reducible apply Within.andThen within_freeEntry; · decide)
    | (with_reducible apply Within.andThen within_mirrorAnswer; · decide)
    | (with_reducible apply Within.andThen within_modStay; · decide)
    | (with_reducible apply Within.andThen within_modStays; · decide)
    | (with_reducible refine Within.foldl (fun _ _ => ?_) _ ?_)
    | (with_reducible refine Within.foldl_snd (fun _ _ => ?_) _ ?_)
    | (with_reducible refine Within.foldl_fst (fun _ _ => ?_) _ ?_)
    | (with_reducible refine Within.foldl_thd (fun _ _ => ?_) _ ?_)
    | (with_reducible refine Within.of_snd (by assumption) ?_)
    | split
    | dsimp only

end Sys2Proof.Machine
end

