-- ==== Sys2Proof/Laws/WithinLocal.lean ====
section
/-! SUPPORT. Which parts of the state the operations of Machine/Local.lean may change; the queue is not theirs, and the canonical form is
kept. -/

-- One proof at a time: in the package as one text, proofs run side by side would only wait for one another.
set_option Elab.async false

namespace Sys2Proof.Machine

open Sys2Proof

theorem within_localWrite {s : State} {c a : Nat} {bs : List Byte} : Within [.clusters] s (State.localWrite s c a bs) := by
  unfold State.localWrite
  split
  · exact within_modCore' (fun _ w => sparseWf_write w) (fun _ w => w)
  · refine within_clusters (fun w => w) (fun w => w) (fun w m hm => ?_)
    rcases mem_modifyAt hm with hm | ⟨y, hy, rfl⟩
    · exact w m hm
    · exact sparseWf_write (w y hy)

theorem within_takeFree {s : State} {n : Nat} : Within [.free] s (State.takeFree s n).2 := by
  unfold State.takeFree
  repeat' first
    | with_reducible exact Within.refl _ _
    | (with_reducible apply Within.andThen within_skipFree; · decide)
    | split
    | dsimp only

theorem within_writeCodes {s : State} {c : Nat} {e : Extent} {rows : List (List Nat)} : Within [.clusters] s (State.writeCodes s c e rows) := by
  unfold State.writeCodes
  repeat' first
    | with_reducible exact Within.refl _ _
    | (with_reducible apply Within.andThen within_localWrite; · decide)
    | (with_reducible refine Within.foldl (fun _ _ => ?_) _ ?_)
    | (with_reducible refine Within.foldl_snd (fun _ _ => ?_) _ ?_)
    | (with_reducible refine Within.foldl_fst (fun _ _ => ?_) _ ?_)
    | (with_reducible refine Within.foldl_thd (fun _ _ => ?_) _ ?_)
    | dsimp only

theorem within_writeBytes {s : State} {c : Nat} {e : Extent} {bs : List Byte} : Within [.clusters] s (State.writeBytes s c e bs) := by
  unfold State.writeBytes
  repeat' first
    | with_reducible exact Within.refl _ _
    | (with_reducible apply Within.andThen within_localWrite; · decide)
    | (with_reducible refine Within.foldl (fun _ _ => ?_) _ ?_)
    | (with_reducible refine Within.foldl_snd (fun _ _ => ?_) _ ?_)
    | (with_reducible refine Within.foldl_fst (fun _ _ => ?_) _ ?_)
    | (with_reducible refine Within.foldl_thd (fun _ _ => ?_) _ ?_)
    | dsimp only

end Sys2Proof.Machine
end

