-- ==== Sys2Proof/Laws/WithinCoreOps.lean ====
section
/-! SUPPORT. Which parts of the state the operations of Machine/CoreOps.lean may change; the queue is not theirs, and the canonical form is
kept. -/

-- One proof at a time: in the package as one text, proofs run side by side would only wait for one another.
set_option Elab.async false

namespace Sys2Proof.Machine

open Sys2Proof

@[simp] theorem Core.push_buf (k : Core) (q : Queued) (u n : Nat) : (k.push q u n).buf = k.buf := rfl

@[simp] theorem Core.push_turn (k : Core) (q : Queued) (u n : Nat) : (k.push q u n).turn = k.turn := rfl

@[simp] theorem Core.post_buf (k : Core) (w : Nat) : (k.post w).buf = k.buf := by unfold Core.post; dsimp only; split <;> rfl

@[simp] theorem Core.post_turn (k : Core) (w : Nat) : (k.post w).turn = k.turn := by unfold Core.post; dsimp only; split <;> rfl

theorem within_clCount {s : State} {c i : Nat} : Within [.regs] s (State.clCount s c i) := by
  unfold State.clCount
  repeat' first
    | with_reducible exact Within.refl _ _
    | (with_reducible apply Within.andThen within_count; · decide)

theorem within_numFlags {s : State} {c fl : Nat} : Within [.regs] s (State.numFlags s c fl) := by
  unfold State.numFlags
  repeat' first
    | with_reducible exact Within.refl _ _
    | (with_reducible apply Within.andThen within_setReg; · decide)
    | (with_reducible apply Within.andThen within_noteSet; · decide)

theorem within_outbox {s : State} {c : Nat} {b : Binding} {addr : Nat} {payload : List Byte} : Within [.regs, .sw] s (State.outbox s c b addr payload) := by
  unfold State.outbox
  repeat' first
    | with_reducible exact Within.refl _ _
    | (with_reducible apply Within.andThen within_agentSend; · decide)

theorem within_boundStatus {s : State} {c : Nat} {b : Option Binding} {status : Nat} : Within [.regs, .sw] s (State.boundStatus s c b status) := by
  unfold State.boundStatus
  repeat' first
    | with_reducible exact Within.refl _ _
    | (with_reducible apply Within.andThen within_outbox; · decide)
    | split
    | dsimp only

theorem within_refuseAttend {s : State} {a : Attend} {status : Nat} : Within [.regs, .sw, .mem, .stays] s (State.refuseAttend s a status) := by
  unfold State.refuseAttend
  repeat' first
    | with_reducible exact Within.refl _ _
    | (with_reducible apply Within.andThen within_modStay; · decide)
    | (with_reducible apply Within.andThen within_refuse; · decide)
    | (with_reducible apply Served.andThen within_request; · decide)
    | (with_reducible refine Served.done_of (by assumption) ?_)
    | (with_reducible refine Served.refused_of (by assumption) ?_)
    | (with_reducible refine Served.waits_of (by assumption) ?_)

theorem within_dropAttend {s : State} {c : Nat} : Within [.clusters] s (State.dropAttend s c) := by
  unfold State.dropAttend
  dsimp only
  repeat' first
    | with_reducible exact Within.refl _ _
    | (with_reducible apply Within.andThen within_modSlot; · decide)
    | (with_reducible apply Within.andThen within_modLaunch; · decide)

theorem within_dropUnsent {s : State} {c : Nat} : Within [.tally] s (State.dropUnsent s c) := by
  unfold State.dropUnsent
  dsimp only
  repeat' first
    | with_reducible exact Within.refl _ _
    | (with_reducible apply Within.andThen within_modTally; · decide)

theorem within_progFault {s0 : State} {c code : Nat} : Within [.regs, .power, .watch, .sw, .lanes, .tally, .mem, .stays, .clusters, .health, .host, .out] s0 (State.progFault s0 c code) := by
  unfold State.progFault
  dsimp only
  repeat' first
    | with_reducible exact Within.refl _ _
    | (with_reducible apply Within.andThen within_setFld; · decide)
    | (with_reducible apply Within.andThen within_count; · decide)
    | (with_reducible apply Within.andThen within_modLaunch; · decide)
    | (with_reducible apply Served.andThen within_attend; · decide)
    | (with_reducible apply Within.andThen within_boundStatus; · decide)
    | (with_reducible apply Within.andThen within_dropAttend; · decide)
    | (with_reducible apply Within.andThen within_dropUnsent; · decide)
    | (with_reducible apply Within.andThen within_fault; · decide)
    | (with_reducible apply Within.andThen within_refuseAttend; · decide)
    | (with_reducible refine Served.done_of (by assumption) ?_)
    | (with_reducible refine Served.refused_of (by assumption) ?_)
    | (with_reducible refine Served.waits_of (by assumption) ?_)
    | split
    | dsimp only

theorem within_dispatchWords {n : Nat} {s : State} {c : Nat} :
    Within [.regs, .power, .watch, .sw, .lanes, .tally, .mem, .stays, .clusters, .health, .host, .out] s (State.dispatchWords n s c) := by
  induction n generalizing s with
  | zero => exact Within.refl _ _
  | succ n ih =>
    unfold State.dispatchWords
    dsimp only
    repeat' first
      | with_reducible exact Within.refl _ _
      | (with_reducible apply Within.andThen ih; · decide)
      | (with_reducible apply Within.andThen (within_modCore ?_); any_goals first | decide | exact fun _ => rfl | exact fun _ => ⟨rfl, rfl⟩ | (intro k; simp; done))
      | (with_reducible apply Within.andThen within_progFault; · decide)
      | split

theorem within_dispatch {s : State} {c : Nat} : Within [.regs, .power, .watch, .sw, .lanes, .tally, .mem, .stays, .clusters, .health, .host, .out] s (State.dispatch s c) := by
  unfold State.dispatch
  repeat' first
    | with_reducible exact Within.refl _ _
    | (with_reducible apply Within.andThen within_dispatchWords; · decide)

theorem within_sequence {ps : List Part} {s : State} {c op : Nat} {act : Nat → State → State}
    (hp : ∀ p ∈ [Part.regs, .power, .watch, .sw, .lanes, .tally, .mem, .stays, .clusters, .health, .host, .out], p ∈ ps)
    (ha : ∀ w x, Within ps x (act w x)) : Within ps s (State.sequence s c op act) := by
  unfold State.sequence
  split
  · exact Within.refl _ _
  · split
    · exact Within.refl _ _
    · refine within_dispatch.andThen hp ((ha _ _).andThen (fun _ h => h) (Within.mono (qs := [.clusters]) (fun p h => hp p (by simp at h; simp [h])) ?_))
      exact within_modCore (fun k => by simp)

theorem within_freeSpans {s : State} {c : Nat} {xs : List (Nat × Nat)} : Within [.clusters, .free] s (State.freeSpans s c xs) := by
  unfold State.freeSpans
  dsimp only
  repeat' first
    | with_reducible exact Within.refl _ _
    | (with_reducible apply Within.andThen within_localWrite; · decide)
    | (with_reducible apply Within.andThen within_takeFree; · decide)
    | (with_reducible refine Within.foldl (fun _ _ => ?_) _ ?_)
    | (with_reducible refine Within.foldl_snd (fun _ _ => ?_) _ ?_)
    | (with_reducible refine Within.foldl_fst (fun _ _ => ?_) _ ?_)
    | (with_reducible refine Within.foldl_thd (fun _ _ => ?_) _ ?_)
    | (with_reducible refine Within.of_snd (by assumption) ?_)
    | split
    | dsimp only

theorem within_freeNumber {s : State} {w : Nat} : Within [.free] s (State.freeNumber s w).2 := by
  unfold State.freeNumber
  repeat' first
    | with_reducible exact Within.refl _ _
    | (with_reducible apply Within.andThen within_nextFree; · decide)
    | split
    | dsimp only

theorem within_unsureCounts {s : State} {c : Nat} {q : Queued} : Within [.regs, .clusters, .free] s (State.unsureCounts s c q) := by
  unfold State.unsureCounts
  dsimp only
  repeat' first
    | with_reducible exact Within.refl _ _
    | (with_reducible apply Within.andThen (within_modCore ?_); any_goals first | decide | exact fun _ => rfl | exact fun _ => ⟨rfl, rfl⟩ | (intro k; simp; done))
    | (with_reducible apply Within.andThen within_skipFree; · decide)
    | (with_reducible apply Within.andThen within_setFld; · decide)
    | (with_reducible apply Within.andThen within_freeNumber; · decide)
    | (with_reducible apply Within.andThen within_modCore; · decide)
    | (with_reducible apply Within.andThen within_numFlags; · decide)
    | (with_reducible refine Within.of_snd (by assumption) ?_)
    | split
    | dsimp only

theorem within_unsureSend {s : State} {c : Nat} {q : Queued} {xs : List (Nat × Nat)} : Within [.sw, .tally, .clusters, .free] s (State.unsureSend s c q xs) := by
  unfold State.unsureSend
  dsimp only
  repeat' first
    | with_reducible exact Within.refl _ _
    | (with_reducible apply Within.andThen within_skipFree; · decide)
    | (with_reducible apply Within.andThen within_modTally; · decide)
    | (with_reducible apply Within.andThen within_modSw; · decide)
    | (with_reducible apply Within.andThen within_freeSpans; · decide)
    | (with_reducible refine Within.foldl (fun _ _ => ?_) _ ?_)
    | (with_reducible refine Within.foldl_snd (fun _ _ => ?_) _ ?_)
    | (with_reducible refine Within.foldl_fst (fun _ _ => ?_) _ ?_)
    | (with_reducible refine Within.foldl_thd (fun _ _ => ?_) _ ?_)
    | split
    | dsimp only

theorem within_unsure {s : State} {o : Nat × Queued} {xs : List (Nat × Nat)} : Within [.regs, .sw, .tally, .clusters, .free] s (State.unsure s o xs) := by
  unfold State.unsure
  repeat' first
    | with_reducible exact Within.refl _ _
    | (with_reducible apply Within.andThen within_freeSpans; · decide)
    | (with_reducible apply Within.andThen within_unsureCounts; · decide)
    | (with_reducible apply Within.andThen within_unsureSend; · decide)
    | split

theorem within_clashes {s : State} {c u : Nat} {r w : List (Nat × Nat)} : Within [.regs, .sw, .tally, .clusters, .free] s (State.clashes s c u r w).2.2 := by
  unfold State.clashes
  dsimp only
  repeat' first
    | with_reducible exact Within.refl _ _
    | (with_reducible apply Within.andThen within_unsure; · decide)
    | (with_reducible refine Within.foldl (fun _ _ => ?_) _ ?_)
    | (with_reducible refine Within.foldl_snd (fun _ _ => ?_) _ ?_)
    | (with_reducible refine Within.foldl_fst (fun _ _ => ?_) _ ?_)
    | (with_reducible refine Within.foldl_thd (fun _ _ => ?_) _ ?_)
    | split
    | dsimp only

theorem within_onFree {ps : List Part} {s : State} {c : Nat} {rd w : List (Nat × Nat)} {act : State → State}
    (hp : ∀ p ∈ [Part.clusters, .free], p ∈ ps) (ha : ∀ x, Within ps x (act x)) : Within ps s (State.onFree s c rd w act) := by
  unfold State.onFree
  dsimp only
  split
  · exact ha _
  · refine Within.foldl (fun _ _ => Within.foldl (fun _ _ => ?_) _ (Within.refl _ _)) _ ?_
    · split
      · exact (within_localWrite.mono (by decide)).mono hp
      · exact Within.refl _ _
    · exact (ha _).andThen (fun _ h => h) (within_freeSpans.mono hp)

theorem within_stalled {s : State} {c : Nat} : Within [.regs, .free] s (State.stalled s c) := by
  unfold State.stalled
  repeat' first
    | with_reducible exact Within.refl _ _
    | (with_reducible apply Within.andThen within_setReg; · decide)
    | (with_reducible apply Within.andThen within_nextFree; · decide)

theorem within_issue {ps : List Part} {s : State} {c u op : Nat} {ready : Queued → Bool} {act : Queued → State → State}
    (hp : ∀ p ∈ [Part.regs, .sw, .tally, .clusters, .free], p ∈ ps) (ha : ∀ w x, Within ps x (act w x)) :
    Within ps s (State.issue s c u op ready act) := by
  have hm : ∀ {x y : State}, Within [.regs, .sw, .tally, .clusters, .free] x y → Within ps x y := fun h => h.mono hp
  have hc : ∀ p ∈ [Part.clusters, .free], p ∈ ps := fun p h => hp p (by simp at h; simp [h])
  unfold State.issue
  dsimp only
  split
  · exact Within.refl _ _
  · next q _ =>
    have h1 : Within ps s ((s.modCore c (fun k => { k with
        queues := modifyAt List.tail (u - 1) k.queues, running := modifyAt (fun _ => some q) (u - 1) k.running })).stalled c) :=
      hm (within_stalled.andThen (by decide) (Within.mono (qs := [.clusters]) (by decide) (within_modCore (fun _ => ⟨rfl, rfl⟩))))
    split
    · exact h1
    · exact (within_freeSpans.mono hc).andThen (fun _ h => h)
        ((within_onFree hc (ha q)).andThen (fun _ h => h) ((within_clashes.mono hp).andThen (fun _ h => h) h1))

theorem within_requeue {s : State} {as : List Attend} : Within [.stays] s (State.requeue s as) := by
  unfold State.requeue
  repeat' first
    | with_reducible exact Within.refl _ _
    | (with_reducible apply Within.andThen (within_modStays ?_); any_goals first | decide | exact fun _ => rfl | exact fun _ => ⟨rfl, rfl⟩ | (intro k; simp; done))
    | (with_reducible apply Within.andThen within_modStays; · decide)

theorem within_applyEnable {s : State} {c : Nat} : Within [.regs] s (State.applyEnable s c) := by
  unfold State.applyEnable
  dsimp only
  repeat' first
    | with_reducible exact Within.refl _ _
    | (with_reducible apply Within.andThen within_setReg; · decide)
    | (with_reducible apply Within.andThen within_setRegBit; · decide)
    | split

theorem within_clearDocket {s : State} {c n : Nat} : Within [.clusters] s (State.clearDocket s c n) := by
  unfold State.clearDocket
  repeat' first
    | with_reducible exact Within.refl _ _
    | (with_reducible apply Within.andThen within_localWrite; · decide)

theorem within_prefillAppend {s : State} {c : Nat} {l : Launch} : Within [.regs, .sw, .mem, .stays] s (State.prefillAppend s c l) := by
  unfold State.prefillAppend
  dsimp only
  repeat' first
    | with_reducible exact Within.refl _ _
    | (with_reducible apply Within.andThen within_count; · decide)
    | (with_reducible apply Within.andThen within_readCard; · decide)
    | (with_reducible apply Within.andThen within_takeRequest; · decide)
    | (with_reducible refine Within.of_snd (by assumption) ?_)
    | split
    | dsimp only

theorem within_release {s : State} {c : Nat} : Within [.regs, .sw, .mem, .stays, .clusters] s (State.release s c) := by
  unfold State.release
  dsimp only
  repeat' first
    | with_reducible exact Within.refl _ _
    | (with_reducible apply Within.andThen (within_modCore ?_); any_goals first | decide | exact fun _ => rfl | exact fun _ => ⟨rfl, rfl⟩ | (intro k; simp; done))
    | (with_reducible apply Within.andThen within_modSlot; · decide)
    | (with_reducible apply Within.andThen within_applyEnable; · decide)
    | (with_reducible apply Within.andThen within_clearDocket; · decide)
    | (with_reducible apply Within.andThen within_modCore; · decide)
    | (with_reducible apply Within.andThen within_prefillAppend; · decide)
    | split

theorem within_settleOld {s : State} {c : Nat} : Within [.regs, .sw, .mem, .stays, .clusters] s (State.settleOld s c) := by
  unfold State.settleOld
  dsimp only
  repeat' first
    | with_reducible exact Within.refl _ _
    | (with_reducible apply Within.andThen (within_modCore ?_); any_goals first | decide | exact fun _ => rfl | exact fun _ => ⟨rfl, rfl⟩ | (intro k; simp; done))
    | (with_reducible apply Within.andThen within_applyEnable; · decide)
    | (with_reducible apply Served.andThen within_attend; · decide)
    | (with_reducible apply Within.andThen within_modCore; · decide)
    | (with_reducible apply Within.andThen within_requeue; · decide)
    | (with_reducible refine Served.done_of (by assumption) ?_)
    | (with_reducible refine Served.refused_of (by assumption) ?_)
    | (with_reducible refine Served.waits_of (by assumption) ?_)
    | split
    | dsimp only

theorem within_quarantine {s : State} {c : Nat} : Within [.regs, .stays, .clusters] s (State.quarantine s c) := by
  unfold State.quarantine
  dsimp only
  repeat' first
    | with_reducible exact Within.refl _ _
    | (with_reducible apply Within.andThen (within_modCore ?_); any_goals first | decide | exact fun _ => rfl | exact fun _ => ⟨rfl, rfl⟩ | (intro k; simp; done))
    | (with_reducible apply Within.andThen within_setReg; · decide)
    | (with_reducible apply Within.andThen within_setRegBit; · decide)
    | (with_reducible apply Within.andThen within_applyEnable; · decide)
    | (with_reducible apply Within.andThen within_clearDocket; · decide)
    | (with_reducible apply Within.andThen within_modCore; · decide)
    | (with_reducible apply Within.andThen within_requeue; · decide)
    | (with_reducible refine Within.foldl (fun _ _ => ?_) _ ?_)
    | (with_reducible refine Within.foldl_snd (fun _ _ => ?_) _ ?_)
    | (with_reducible refine Within.foldl_fst (fun _ _ => ?_) _ ?_)
    | (with_reducible refine Within.foldl_thd (fun _ _ => ?_) _ ?_)
    | split
    | dsimp only

end Sys2Proof.Machine
end

