-- ==== Sys2Proof/Laws/WithinFiring.lean ====
section
/-! SUPPORT. Which parts of the state the operations of Machine/Firing.lean may change; the queue is not theirs, and the canonical form is
kept. -/

-- One proof at a time: in the package as one text, proofs run side by side would only wait for one another.
set_option Elab.async false

namespace Sys2Proof.Machine

open Sys2Proof

@[simp] theorem Core.advance_buf (k : Core) (e : Nat × Nat) : (k.advance e).buf = k.buf := by
  unfold Core.advance
  (repeat' split) <;> rfl

@[simp] theorem Core.advance_turn (k : Core) (e : Nat × Nat) : (k.advance e).turn = k.turn := by
  unfold Core.advance
  (repeat' split) <;> rfl

theorem within_showFiring {s : State} {c : Nat} {e : Nat × Nat} : Within [.regs] s (State.showFiring s c e) := by
  unfold State.showFiring
  dsimp only
  repeat' first
    | with_reducible exact Within.refl _ _
    | (with_reducible apply Within.andThen within_setReg; · decide)

theorem within_countLate {s : State} {c t : Nat} : Within [.regs, .clusters] s (State.countLate s c t) := by
  unfold State.countLate
  repeat' first
    | with_reducible exact Within.refl _ _
    | (with_reducible apply Within.andThen (within_modCore ?_); any_goals first | decide | exact fun _ => rfl | exact fun _ => ⟨rfl, rfl⟩ | (intro k; simp; done))
    | (with_reducible apply Within.andThen within_choice; · decide)
    | (with_reducible apply Within.andThen within_modCore; · decide)
    | split

theorem within_wakeGated {s : State} {c : Nat} : Within [.regs, .clusters] s (State.wakeGated s c) := by
  unfold State.wakeGated
  repeat' first
    | with_reducible exact Within.refl _ _
    | (with_reducible apply Within.andThen (within_modCore ?_); any_goals first | decide | exact fun _ => rfl | exact fun _ => ⟨rfl, rfl⟩ | (intro k; simp; done))
    | (with_reducible apply Within.andThen within_choice; · decide)
    | (with_reducible apply Within.andThen within_modCore; · decide)
    | split

theorem within_takeBinding {s : State} {c n t : Nat} : Within [.clusters] s (State.takeBinding s c n t) := by
  unfold State.takeBinding
  dsimp only
  repeat' first
    | with_reducible exact Within.refl _ _
    | (with_reducible apply Within.andThen within_modSlot; · decide)
    | split
    | dsimp only

theorem within_skipFiring {s : State} {c : Nat} {e : Nat × Nat} {t : Nat} : Within [.regs, .sw, .tally, .clusters] s (State.skipFiring s c e t) := by
  unfold State.skipFiring
  dsimp only
  repeat' first
    | with_reducible exact Within.refl _ _
    | (with_reducible apply Within.andThen (within_modCore ?_); any_goals first | decide | exact fun _ => rfl | exact fun _ => ⟨rfl, rfl⟩ | (intro k; simp; done))
    | (with_reducible apply Within.andThen within_advance; · decide)
    | (with_reducible apply Within.andThen within_clCount; · decide)
    | (with_reducible apply Within.andThen within_clearDocket; · decide)
    | (with_reducible apply Within.andThen within_modCore; · decide)
    | (with_reducible apply Within.andThen within_showFiring; · decide)
    | (with_reducible apply Within.andThen within_takeBinding; · decide)
    | split

theorem within_startBundle {s : State} {c : Nat} {e : Nat × Nat} {t : Nat} : Within [.regs, .power, .watch, .sw, .lanes, .tally, .mem, .stays, .clusters, .health, .host, .out] s (State.startBundle s c e t) := by
  unfold State.startBundle
  dsimp only
  repeat' first
    | with_reducible exact Within.refl _ _
    | (with_reducible apply Within.andThen (within_modCore ?_); any_goals first | decide | exact fun _ => rfl | exact fun _ => ⟨rfl, rfl⟩ | (intro k; simp; done))
    | (with_reducible apply Within.andThen within_advance; · decide)
    | (with_reducible apply Within.andThen within_dispatch; · decide)
    | (with_reducible apply Within.andThen within_modCore; · decide)
    | (with_reducible apply Within.andThen within_showFiring; · decide)
    | (with_reducible apply Within.andThen within_wakeGated; · decide)
    | split

theorem within_writeRing {s : State} {c n : Nat} {rooms : List Nat} {lo hi : Nat} : Within [.clusters] s (State.writeRing s c n rooms lo hi) := by
  unfold State.writeRing
  repeat' first
    | with_reducible exact Within.refl _ _
    | (with_reducible apply Within.andThen within_localWrite; · decide)
    | (with_reducible refine Within.foldl (fun _ _ => ?_) _ ?_)
    | (with_reducible refine Within.foldl_snd (fun _ _ => ?_) _ ?_)
    | (with_reducible refine Within.foldl_fst (fun _ _ => ?_) _ ?_)
    | (with_reducible refine Within.foldl_thd (fun _ _ => ?_) _ ?_)
    | dsimp only

theorem within_latchBound {s1 : State} {c n : Nat} : Within [.regs, .sw, .mem, .clusters] s1 (State.latchBound s1 c n).2 := by
  unfold State.latchBound
  dsimp only
  repeat' first
    | with_reducible exact Within.refl _ _
    | (with_reducible apply Within.andThen within_modSlot; · decide)
    | (with_reducible apply Within.andThen within_boundStatus; · decide)
    | (with_reducible apply Within.andThen within_readCard; · decide)
    | (with_reducible apply Within.andThen within_roomsOf; · decide)
    | (with_reducible apply Within.andThen within_writeRing; · decide)
    | (with_reducible refine Within.of_snd (by assumption) ?_)
    | split
    | dsimp only

theorem within_latchDynamic {s : State} {c n : Nat} : Within [.clusters] s (State.latchDynamic s c n).2 := by
  unfold State.latchDynamic
  dsimp only
  repeat' first
    | with_reducible exact Within.refl _ _
    | (with_reducible apply Within.andThen within_modSlot; · decide)
    | split
    | dsimp only

theorem within_latch {s : State} {c n t : Nat} : Within [.regs, .sw, .mem, .clusters] s (State.latch s c n t) := by
  unfold State.latch
  dsimp only
  repeat' first
    | with_reducible exact Within.refl _ _
    | (with_reducible apply Within.andThen (within_modCore ?_); any_goals first | decide | exact fun _ => rfl | exact fun _ => ⟨rfl, rfl⟩ | (intro k; simp; done))
    | (with_reducible apply Within.andThen within_clCount; · decide)
    | (with_reducible apply Within.andThen within_latchBound; · decide)
    | (with_reducible apply Within.andThen within_latchDynamic; · decide)
    | (with_reducible apply Within.andThen within_modCore; · decide)
    | (with_reducible apply Within.andThen within_takeBinding; · decide)
    | (with_reducible refine Within.of_snd (by assumption) ?_)
    | split
    | dsimp only

theorem within_settleCore {s : State} {c : Nat} : Within [.regs, .sw, .mem, .stays, .clusters] s (State.settleCore s c) := by
  unfold State.settleCore
  repeat' first
    | with_reducible exact Within.refl _ _
    | (with_reducible apply Within.andThen within_release; · decide)
    | (with_reducible apply Within.andThen within_settleOld; · decide)

theorem within_emptyHalted {s : State} {c : Nat} : Within [.clusters] s (State.emptyHalted s c) := by
  unfold State.emptyHalted
  repeat' first
    | with_reducible exact Within.refl _ _
    | (with_reducible apply Within.andThen within_modLaunch; · decide)
    | split

theorem within_launchFiring {s : State} {core : Nat} : Within [.regs, .power, .watch, .sw, .lanes, .tally, .mem, .stays, .clusters, .health, .host, .out] s (State.launchFiring s core) := by
  unfold State.launchFiring
  dsimp only
  repeat' first
    | with_reducible exact Within.refl _ _
    | (with_reducible apply Within.andThen within_count; · decide)
    | (with_reducible apply Within.andThen within_countLate; · decide)
    | (with_reducible apply Within.andThen within_emptyHalted; · decide)
    | (with_reducible apply Within.andThen within_latch; · decide)
    | (with_reducible apply Within.andThen within_retryAgents; · decide)
    | (with_reducible apply Within.andThen within_settleCore; · decide)
    | (with_reducible apply Within.andThen within_skipFiring; · decide)
    | (with_reducible apply Within.andThen within_startBundle; · decide)
    | split
    | dsimp only

theorem within_contFiring {s : State} {core : Nat} : Within [.regs, .power, .watch, .sw, .lanes, .tally, .mem, .stays, .clusters, .health, .host, .out] s (State.contFiring s core) := by
  unfold State.contFiring
  repeat' first
    | with_reducible exact Within.refl _ _
    | (with_reducible apply Within.andThen within_count; · decide)
    | (with_reducible apply Within.andThen within_countLate; · decide)
    | (with_reducible apply Within.andThen within_emptyHalted; · decide)
    | (with_reducible apply Within.andThen within_retryAgents; · decide)
    | (with_reducible apply Within.andThen within_skipFiring; · decide)
    | (with_reducible apply Within.andThen within_startBundle; · decide)
    | split
    | dsimp only

theorem within_wakeFiring {s : State} {core : Nat} : Within [.regs, .sw, .tally, .mem, .stays, .clusters] s (State.wakeFiring s core) := by
  unfold State.wakeFiring
  dsimp only
  repeat' first
    | with_reducible exact Within.refl _ _
    | (with_reducible apply Within.andThen (within_modCore ?_); any_goals first | decide | exact fun _ => rfl | exact fun _ => ⟨rfl, rfl⟩ | (intro k; simp; done))
    | (with_reducible apply Within.andThen within_count; · decide)
    | (with_reducible apply Within.andThen within_advance; · decide)
    | (with_reducible apply Within.andThen within_countLate; · decide)
    | (with_reducible apply Within.andThen within_modCore; · decide)
    | (with_reducible apply Within.andThen within_settleCore; · decide)
    | (with_reducible apply Within.andThen within_showFiring; · decide)
    | (with_reducible apply Within.andThen within_skipFiring; · decide)
    | split
    | dsimp only

theorem within_copyOperands {s : State} {c : Nat} {bs : List Byte} : Within [.clusters] s (State.copyOperands s c bs) := by
  unfold State.copyOperands
  dsimp only
  repeat' first
    | with_reducible exact Within.refl _ _
    | (with_reducible apply Within.andThen within_localWrite; · decide)
    | split
    | dsimp only

theorem within_runOn {s : State} {c d : Nat} : Within [.regs, .clusters] s (State.runOn s c d) := by
  unfold State.runOn
  repeat' first
    | with_reducible exact Within.refl _ _
    | (with_reducible apply Within.andThen within_copyOperands; · decide)
    | (with_reducible apply Within.andThen within_numFlags; · decide)

theorem within_noMajority {s : State} {c p : Nat} : Within [.regs, .power, .watch, .sw, .lanes, .tally, .stays, .clusters, .health, .host, .out] s (State.noMajority s c p) := by
  unfold State.noMajority
  dsimp only
  repeat' first
    | with_reducible exact Within.refl _ _
    | (with_reducible apply Within.andThen within_clCount; · decide)
    | (with_reducible apply Within.andThen within_fault; · decide)
    | (with_reducible apply Within.andThen within_quarantine; · decide)

theorem within_tilesDiffer {s : State} {c : Nat} : Within [.regs, .power, .watch, .sw, .lanes, .tally, .stays, .clusters, .health, .host, .out] s (State.tilesDiffer s c) := by
  unfold State.tilesDiffer
  dsimp only
  repeat' first
    | with_reducible exact Within.refl _ _
    | (with_reducible apply Within.andThen (within_modCore ?_); any_goals first | decide | exact fun _ => rfl | exact fun _ => ⟨rfl, rfl⟩ | (intro k; simp; done))
    | (with_reducible apply Within.andThen within_clCount; · decide)
    | (with_reducible apply Within.andThen within_modCore; · decide)
    | (with_reducible apply Within.andThen within_noMajority; · decide)
    | (with_reducible apply Within.andThen within_runOn; · decide)
    | split
    | dsimp only

theorem within_residueFails {s : State} {c : Nat} {rerunOk : Bool} : Within [.regs, .power, .watch, .sw, .lanes, .tally, .stays, .clusters, .health, .host, .out] s (State.residueFails s c rerunOk) := by
  unfold State.residueFails
  dsimp only
  repeat' first
    | with_reducible exact Within.refl _ _
    | (with_reducible apply Within.andThen (within_modCore ?_); any_goals first | decide | exact fun _ => rfl | exact fun _ => ⟨rfl, rfl⟩ | (intro k; simp; done))
    | (with_reducible apply Within.andThen within_count; · decide)
    | (with_reducible apply Within.andThen within_fault; · decide)
    | (with_reducible apply Within.andThen within_modCore; · decide)
    | (with_reducible apply Within.andThen within_quarantine; · decide)
    | (with_reducible apply Within.andThen within_runOn; · decide)
    | split
    | dsimp only

theorem within_failedCheck {s : State} {c : Nat} {x : Option Bool} : Within [.regs, .power, .watch, .sw, .lanes, .tally, .stays, .clusters, .health, .host, .out] s (State.failedCheck s c x) := by
  unfold State.failedCheck
  repeat' first
    | with_reducible exact Within.refl _ _
    | (with_reducible apply Within.andThen within_residueFails; · decide)
    | (with_reducible apply Within.andThen within_tilesDiffer; · decide)
    | split
    | dsimp only

theorem within_meetCheck {s : State} {c : Nat} {x : Option Bool} : Within [.regs, .power, .watch, .sw, .lanes, .tally, .stays, .clusters, .health, .host, .out] s (State.meetCheck s c x) := by
  unfold State.meetCheck
  repeat' first
    | with_reducible exact Within.refl _ _
    | (with_reducible apply Within.andThen (within_modCore ?_); any_goals first | decide | exact fun _ => rfl | exact fun _ => ⟨rfl, rfl⟩ | (intro k; simp; done))
    | (with_reducible apply Within.andThen within_failedCheck; · decide)
    | (with_reducible apply Within.andThen within_modCore; · decide)
    | split

theorem within_heldChecks {s : State} : Within [.regs, .power, .watch, .sw, .lanes, .tally, .stays, .clusters, .health, .host, .out] s (State.heldChecks s) := by
  unfold State.heldChecks
  repeat' first
    | with_reducible exact Within.refl _ _
    | (with_reducible apply Within.andThen (within_modCore ?_); any_goals first | decide | exact fun _ => rfl | exact fun _ => ⟨rfl, rfl⟩ | (intro k; simp; done))
    | (with_reducible apply Within.andThen within_failedCheck; · decide)
    | (with_reducible apply Within.andThen within_modCore; · decide)
    | (with_reducible refine Within.foldl (fun _ _ => ?_) _ ?_)
    | (with_reducible refine Within.foldl_snd (fun _ _ => ?_) _ ?_)
    | (with_reducible refine Within.foldl_fst (fun _ _ => ?_) _ ?_)
    | (with_reducible refine Within.foldl_thd (fun _ _ => ?_) _ ?_)
    | dsimp only

end Sys2Proof.Machine
end

