-- ==== Sys2Proof/Laws/WithinUnits.lean ====
section
/-! SUPPORT. Which parts of the state the operations of Machine/Units.lean may change; the queue is not theirs, and the canonical form is
kept. -/

-- One proof at a time: in the package as one text, proofs run side by side would only wait for one another.
set_option Elab.async false

namespace Sys2Proof.Machine

open Sys2Proof

theorem within_faultOr {ps : List Part} {s : State} {c : Nat} {q : Queued} {act : State → State}
    (hp : ∀ p ∈ [Part.regs, .power, .watch, .sw, .lanes, .tally, .mem, .stays, .clusters, .health, .host, .out], p ∈ ps)
    (ha : ∀ x, Within ps x (act x)) : Within ps s (State.faultOr s c q act) := by
  unfold State.faultOr
  split
  · exact within_progFault.mono hp
  · exact ha s

theorem within_roomTrouble {s : State} {c room : Nat} : Within [.regs, .sw, .tally, .mem, .stays, .clusters] s (State.roomTrouble s c room) := by
  unfold State.roomTrouble
  dsimp only
  repeat' first
    | with_reducible exact Within.refl _ _
    | (with_reducible apply Within.andThen (within_modStays ?_); any_goals first | decide | exact fun _ => rfl | exact fun _ => ⟨rfl, rfl⟩ | (intro k; simp; done))
    | (with_reducible apply Within.andThen within_modLaunch; · decide)
    | (with_reducible apply Served.andThen within_attend; · decide)
    | (with_reducible apply Within.andThen within_boundStatus; · decide)
    | (with_reducible apply Within.andThen within_clCount; · decide)
    | (with_reducible apply Within.andThen within_dropAttend; · decide)
    | (with_reducible apply Within.andThen within_dropUnsent; · decide)
    | (with_reducible apply Served.andThen within_mendOr; · decide)
    | (with_reducible apply Within.andThen within_modStays; · decide)
    | (with_reducible apply Within.andThen within_poisonRoom; · decide)
    | (with_reducible apply Within.andThen within_refuseAttend; · decide)
    | (with_reducible apply Within.andThen within_refused; · decide)
    | (with_reducible apply Served.andThen within_request; · decide)
    | (with_reducible refine Served.done_of (by assumption) ?_)
    | (with_reducible refine Served.refused_of (by assumption) ?_)
    | (with_reducible refine Served.waits_of (by assumption) ?_)
    | split
    | dsimp only

theorem within_loadRoom {s : State} {c : Nat} {q : Queued} : Within [.regs, .sw, .tally, .mem, .stays, .clusters, .free] s (State.loadRoom s c q) := by
  unfold State.loadRoom
  dsimp only
  repeat' first
    | with_reducible exact Within.refl _ _
    | (with_reducible apply Within.andThen within_poolRead; · decide)
    | (with_reducible apply Within.andThen within_roomTrouble; · decide)
    | (with_reducible apply Within.andThen within_takeFree; · decide)
    | (with_reducible apply Within.andThen within_writeBytes; · decide)
    | (with_reducible refine Within.of_snd (by assumption) ?_)
    | split
    | dsimp only

theorem within_scaleEvents {s : State} {f : Fld} {n : Nat} : Within [.regs] s (State.scaleEvents s f n) := by
  unfold State.scaleEvents
  repeat' first
    | with_reducible exact Within.refl _ _
    | (with_reducible apply Within.andThen within_setFld; · decide)

theorem within_multiply {s : State} {c : Nat} {q : Queued} : Within [.regs, .clusters] s (State.multiply s c q) := by
  unfold State.multiply
  dsimp only
  repeat' first
    | with_reducible exact Within.refl _ _
    | (with_reducible apply Within.andThen (within_modCore ?_); any_goals first | decide | exact fun _ => rfl | exact fun _ => ⟨rfl, rfl⟩ | (intro k; simp; done))
    | (with_reducible apply Within.andThen within_clCount; · decide)
    | (with_reducible apply Within.andThen within_copyOperands; · decide)
    | (with_reducible apply Within.andThen within_modCore; · decide)
    | (with_reducible apply Within.andThen within_numFlags; · decide)
    | (with_reducible apply Within.andThen within_scaleEvents; · decide)
    | (with_reducible apply Within.andThen within_writeCodes; · decide)
    | split
    | dsimp only

theorem within_countPlaces {s : State} {c acc : Nat} {ps : List Place} : Within [.regs, .clusters] s (State.countPlaces s c acc ps) := by
  unfold State.countPlaces
  dsimp only
  repeat' first
    | with_reducible exact Within.refl _ _
    | (with_reducible apply Within.andThen (within_modCore ?_); any_goals first | decide | exact fun _ => rfl | exact fun _ => ⟨rfl, rfl⟩ | (intro k; simp; done))
    | (with_reducible apply Within.andThen within_modCore; · decide)
    | (with_reducible apply Within.andThen within_numFlags; · decide)
    | (with_reducible refine Within.foldl (fun _ _ => ?_) _ ?_)
    | (with_reducible refine Within.foldl_snd (fun _ _ => ?_) _ ?_)
    | (with_reducible refine Within.foldl_fst (fun _ _ => ?_) _ ?_)
    | (with_reducible refine Within.foldl_thd (fun _ _ => ?_) _ ?_)
    | split
    | dsimp only

theorem within_writeResults {s : State} {c : Nat} {q : Queued} {rows : List (List Nat)} : Within [.regs, .clusters] s (State.writeResults s c q rows) := by
  unfold State.writeResults
  dsimp only
  repeat' first
    | with_reducible exact Within.refl _ _
    | (with_reducible apply Within.andThen within_count; · decide)
    | (with_reducible apply Within.andThen within_countPlaces; · decide)
    | (with_reducible apply Within.andThen within_numFlags; · decide)
    | (with_reducible apply Within.andThen within_writeCodes; · decide)
    | (with_reducible refine Within.foldl (fun _ _ => ?_) _ ?_)
    | (with_reducible refine Within.foldl_snd (fun _ _ => ?_) _ ?_)
    | (with_reducible refine Within.foldl_fst (fun _ _ => ?_) _ ?_)
    | (with_reducible refine Within.foldl_thd (fun _ _ => ?_) _ ?_)
    | split
    | dsimp only

theorem within_vectorEffect {s : State} {c : Nat} {q : Queued} : Within [.regs, .clusters] s (State.vectorEffect s c q) := by
  unfold State.vectorEffect
  dsimp only
  repeat' first
    | with_reducible exact Within.refl _ _
    | (with_reducible apply Within.andThen within_numFlags; · decide)
    | (with_reducible apply Within.andThen within_writeResults; · decide)
    | split
    | dsimp only

theorem within_vector {s : State} {c op : Nat} : Within [.regs, .sw, .tally, .clusters, .free] s (State.vector s c op) := by
  unfold State.vector
  repeat' first
    | with_reducible exact Within.refl _ _
    | (with_reducible refine within_issue (by decide) (fun _ _ => ?_))
    | (with_reducible apply Within.andThen within_vectorEffect; · decide)

theorem within_histogramOut {s : State} {c : Nat} {q : Queued} : Within [.regs, .clusters] s (State.histogramOut s c q) := by
  unfold State.histogramOut
  dsimp only
  repeat' first
    | with_reducible exact Within.refl _ _
    | (with_reducible apply Within.andThen (within_modCore ?_); any_goals first | decide | exact fun _ => rfl | exact fun _ => ⟨rfl, rfl⟩ | (intro k; simp; done))
    | (with_reducible apply Within.andThen within_modCore; · decide)
    | (with_reducible apply Within.andThen within_numFlags; · decide)
    | (with_reducible apply Within.andThen within_writeBytes; · decide)
    | split
    | dsimp only

theorem within_turnBank {s : State} {c n : Nat} : Within [.clusters, .free] s (State.turnBank s c n) := by
  unfold State.turnBank
  exact Within.andThen (within_modCore' (fun _ w => w) (fun _ w => sparseWf_write w)) (by decide) (within_takeFree.mono (by decide))

theorem within_sendRecords {s : State} {a : Attend} {data : List Byte} : Within [.regs, .sw, .stays] s (State.sendRecords s a data) := by
  unfold State.sendRecords
  dsimp only
  repeat' first
    | with_reducible exact Within.refl _ _
    | (with_reducible apply Within.andThen within_agentSend; · decide)
    | (with_reducible apply Within.andThen within_modStay; · decide)
    | (with_reducible refine Within.foldl (fun _ _ => ?_) _ ?_)
    | (with_reducible refine Within.foldl_snd (fun _ _ => ?_) _ ?_)
    | (with_reducible refine Within.foldl_fst (fun _ _ => ?_) _ ?_)
    | (with_reducible refine Within.foldl_thd (fun _ _ => ?_) _ ?_)
    | dsimp only

theorem within_contribute {s : State} {a : Attend} {tally coord slot : Nat} {recs : List (List Byte)} : Within [.regs, .sw, .tally] s (State.contribute s a tally coord slot recs) := by
  unfold State.contribute
  dsimp only
  repeat' first
    | with_reducible exact Within.refl _ _
    | (with_reducible apply Within.andThen within_modTally; · decide)
    | (with_reducible apply Within.andThen within_sendKept; · decide)
    | (with_reducible refine Within.foldl (fun _ _ => ?_) _ ?_)
    | (with_reducible refine Within.foldl_snd (fun _ _ => ?_) _ ?_)
    | (with_reducible refine Within.foldl_fst (fun _ _ => ?_) _ ?_)
    | (with_reducible refine Within.foldl_thd (fun _ _ => ?_) _ ?_)
    | dsimp only

theorem within_handoff {s : State} {c : Nat} {q : Queued} : Within [.regs, .sw, .tally, .mem, .stays, .clusters] s (State.handoff s c q) := by
  unfold State.handoff
  dsimp only
  repeat' first
    | with_reducible exact Within.refl _ _
    | (with_reducible apply Within.andThen within_modSlot; · decide)
    | (with_reducible apply Within.andThen within_modLaunch; · decide)
    | (with_reducible apply Served.andThen within_attend; · decide)
    | (with_reducible apply Within.andThen within_clCount; · decide)
    | (with_reducible apply Within.andThen within_contribute; · decide)
    | (with_reducible apply Within.andThen within_sendRecords; · decide)
    | (with_reducible refine Served.done_of (by assumption) ?_)
    | (with_reducible refine Served.refused_of (by assumption) ?_)
    | (with_reducible refine Served.waits_of (by assumption) ?_)
    | split
    | dsimp only

theorem within_sendStream {s : State} {c : Nat} {q : Queued} : Within [.regs, .sw] s (State.sendStream s c q) := by
  unfold State.sendStream
  dsimp only
  repeat' first
    | with_reducible exact Within.refl _ _
    | (with_reducible apply Within.andThen within_outbox; · decide)
    | (with_reducible refine Within.foldl (fun _ _ => ?_) _ ?_)
    | (with_reducible refine Within.foldl_snd (fun _ _ => ?_) _ ?_)
    | (with_reducible refine Within.foldl_fst (fun _ _ => ?_) _ ?_)
    | (with_reducible refine Within.foldl_thd (fun _ _ => ?_) _ ?_)
    | split
    | dsimp only

theorem within_sendOperand {s : State} {c : Nat} {q : Queued} : Within [.regs, .sw, .tally] s (State.sendOperand s c q) := by
  unfold State.sendOperand
  dsimp only
  repeat' first
    | with_reducible exact Within.refl _ _
    | (with_reducible apply Within.andThen within_modTally; · decide)
    | (with_reducible apply Within.andThen within_sendKept; · decide)
    | split
    | dsimp only

theorem within_nameEntry {s : State} {c : Nat} {q : Queued} : Within [.clusters] s (State.nameEntry s c q) := by
  unfold State.nameEntry
  dsimp only
  repeat' first
    | with_reducible exact Within.refl _ _
    | (with_reducible apply Within.andThen within_modLaunch; · decide)
    | (with_reducible apply Within.andThen within_writeRing; · decide)
    | split

end Sys2Proof.Machine
end

