-- ==== Sys2Proof/Laws/WithinPlace.lean ====
section
/-! SUPPORT. Which parts of the state the operations of Machine/Place.lean may change; the queue is not theirs, and the canonical form is
kept. -/

-- One proof at a time: in the package as one text, proofs run side by side would only wait for one another.
set_option Elab.async false

namespace Sys2Proof.Machine

open Sys2Proof

theorem within_placeIn {s : State} {a : Attend} {c n : Nat} : Within [.clusters] s (State.placeIn s a c n) := by
  unfold State.placeIn
  dsimp only
  repeat' first
    | with_reducible exact Within.refl _ _
    | (with_reducible apply Within.andThen within_modSlot; · decide)
    | (with_reducible apply Within.andThen within_localWrite; · decide)
    | (with_reducible apply Within.andThen within_writeRing; · decide)

theorem within_inboxWrite {s : State} {c at_ : Nat} {bs : List Byte} : Within [.regs, .sw, .tally, .clusters, .free] s (State.inboxWrite s c at_ bs) := by
  unfold State.inboxWrite
  dsimp only
  repeat' first
    | with_reducible exact Within.refl _ _
    | (with_reducible apply Within.andThen within_clashes; · decide)
    | (with_reducible apply Within.andThen within_freeSpans; · decide)
    | (with_reducible apply Within.andThen within_localWrite; · decide)
    | (with_reducible refine Within.of_thd (by assumption) ?_)
    | split
    | dsimp only

end Sys2Proof.Machine
end

