-- ==== Sys2Proof/Laws/WithinImage.lean ====
section
/-! SUPPORT. Which parts of the state the operations of Machine/Image.lean may change; the queue is not theirs, and the canonical form is
kept. -/

-- One proof at a time: in the package as one text, proofs run side by side would only wait for one another.
set_option Elab.async false

namespace Sys2Proof.Machine

open Sys2Proof

@[simp] theorem Core.loadShadow_buf (k : Core) (b : StoreBank) : (k.loadShadow b).buf = k.buf := rfl

@[simp] theorem Core.loadShadow_turn (k : Core) (b : StoreBank) : (k.loadShadow b).turn = k.turn := rfl

@[simp] theorem Core.renew_buf (k : Core) (c : Nat) (l : List Nat) : (k.renew c l).buf = k.buf := rfl

@[simp] theorem Core.renew_turn (k : Core) (c : Nat) (l : List Nat) : (k.renew c l).turn = k.turn := rfl

theorem within_loadShadows {s : State} {banks : List StoreBank} : Within [.clusters] s (State.loadShadows s banks) := by
  refine within_clusters (fun w k hk => ?_) (fun w k hk => ?_) (fun w => w) <;>
    obtain ⟨⟨y, n⟩, hy, rfl⟩ := List.mem_map.1 hk <;> have hm := w y (List.mem_zipIdx hy |>.2.2 ▸ List.getElem_mem _) <;>
    dsimp only <;> split <;> exact hm

theorem within_itinRefuse {s : State} : Within [.regs] s (State.itinRefuse s) := by
  unfold State.itinRefuse
  repeat' first
    | with_reducible exact Within.refl _ _
    | (with_reducible apply Within.andThen within_raise; · decide)

theorem within_armList {s : State} {tick : Nat} {l : Nat × Nat × List Nat} : Within [.regs, .sw] s (State.armList s tick l) := by
  unfold State.armList
  dsimp only
  repeat' first
    | with_reducible exact Within.refl _ _
    | (with_reducible apply Within.andThen within_modSw; · decide)
    | (with_reducible apply Within.andThen within_armCurfew; · decide)
    | (with_reducible refine Within.foldl (fun _ _ => ?_) _ ?_)
    | (with_reducible refine Within.foldl_snd (fun _ _ => ?_) _ ?_)
    | (with_reducible refine Within.foldl_fst (fun _ _ => ?_) _ ?_)
    | (with_reducible refine Within.foldl_thd (fun _ _ => ?_) _ ?_)
    | dsimp only

theorem within_renewAll {s : State} {t : Nat} {im : Image} :
    Within [.clusters] s (s.modClusters (fun u => { u with
      base := t, active := some im, staged := none, armed := none, cores := u.cores.zipIdx.map (fun x => x.1.renew x.2 im.slots) })) := by
  refine within_clusters (fun w k hk => ?_) (fun w k hk => ?_) (fun w => w) <;>
    obtain ⟨x, hx, rfl⟩ := List.mem_map.1 hk
  · simpa using w x.1 (List.fst_mem_of_mem_zipIdx hx)
  · simpa using w x.1 (List.fst_mem_of_mem_zipIdx hx)

theorem within_activate {s : State} : Within [.regs, .sw, .mem, .stays, .clusters, .health, .host, .free] s (State.activate s) := by
  unfold State.activate
  dsimp only
  repeat' first
    | with_reducible exact Within.refl _ _
    | (with_reducible apply Within.andThen within_renewAll; · decide)
    | (with_reducible apply Within.andThen within_setReg; · decide)
    | (with_reducible apply Within.andThen within_setFld; · decide)
    | (with_reducible apply Within.andThen within_raise; · decide)
    | (with_reducible apply Within.andThen within_modHost; · decide)
    | (with_reducible apply Within.andThen within_clearDocket; · decide)
    | (with_reducible apply Within.andThen within_measure; · decide)
    | (with_reducible apply Within.andThen within_requeue; · decide)
    | (with_reducible apply Within.andThen within_retryAgents; · decide)
    | (with_reducible apply Within.andThen within_returned; · decide)
    | (with_reducible apply Within.andThen within_settleCore; · decide)
    | (with_reducible apply Within.andThen within_showFiring; · decide)
    | (with_reducible refine Within.foldl (fun _ _ => ?_) _ ?_)
    | (with_reducible refine Within.foldl_snd (fun _ _ => ?_) _ ?_)
    | (with_reducible refine Within.foldl_fst (fun _ _ => ?_) _ ?_)
    | (with_reducible refine Within.foldl_thd (fun _ _ => ?_) _ ?_)
    | split
    | dsimp only

end Sys2Proof.Machine
end

