-- ==== Sys2Proof/Laws/WithinWatch.lean ====
section
/-! SUPPORT. Which parts of the state the operations of Machine/Watch.lean may change; the queue is not theirs, and the canonical form is
kept. -/

-- One proof at a time: in the package as one text, proofs run side by side would only wait for one another.
set_option Elab.async false

namespace Sys2Proof.Machine

open Sys2Proof

theorem within_noticeHost {s : State} {m : Word × Nat} {number : Nat} : Within [.regs, .host, .out] s (State.noticeHost s m number) := by
  unfold State.noticeHost
  repeat' first
    | with_reducible exact Within.refl _ _
    | (with_reducible apply Within.andThen within_raise; · decide)
    | (with_reducible apply Within.andThen within_qWrite; · decide)
    | split

theorem within_startProof {s : State} {c : Nat} : Within [.regs, .clusters] s (State.startProof s c) := by
  unfold State.startProof
  repeat' first
    | with_reducible exact Within.refl _ _
    | (with_reducible apply Within.andThen (within_modCore ?_); any_goals first | decide | exact fun _ => rfl | exact fun _ => ⟨rfl, rfl⟩ | (intro k; simp; done))
    | (with_reducible apply Within.andThen within_raise; · decide)
    | (with_reducible apply Within.andThen within_modCore; · decide)

theorem within_stopRefused {s : State} : Within [.regs, .power, .watch, .sw, .lanes, .tally, .health, .host, .out] s (State.stopRefused s) := by
  unfold State.stopRefused
  dsimp only
  repeat' first
    | with_reducible exact Within.refl _ _
    | (with_reducible apply Within.andThen within_setFld; · decide)
    | (with_reducible apply Within.andThen within_raise; · decide)
    | (with_reducible apply Within.andThen within_fault; · decide)
    | (with_reducible apply Within.andThen within_stopAnswer; · decide)
    | split

theorem within_startStop {s : State} : Within [.regs, .power, .watch, .sw, .lanes, .tally, .health, .host, .out] s (State.startStop s) := by
  unfold State.startStop
  dsimp only
  repeat' first
    | with_reducible exact Within.refl _ _
    | (with_reducible apply Within.andThen within_setReg; · decide)
    | (with_reducible apply Within.andThen within_setFld; · decide)
    | (with_reducible apply Within.andThen within_modHealth; · decide)
    | (with_reducible apply Within.andThen within_setPhase; · decide)
    | (with_reducible apply Within.andThen within_stopRefused; · decide)
    | split

theorem within_judgeRisk {s : State} {risk : Nat} : Within [.regs, .power, .watch, .sw, .lanes, .tally, .health, .host, .out] s (State.judgeRisk s risk) := by
  unfold State.judgeRisk
  dsimp only
  repeat' first
    | with_reducible exact Within.refl _ _
    | (with_reducible apply Within.andThen within_modHealth; · decide)
    | (with_reducible apply Within.andThen within_fault; · decide)
    | (with_reducible apply Within.andThen within_startStop; · decide)
    | split

end Sys2Proof.Machine
end

