-- ==== Sys2Proof/Laws/WithinStopover.lean ====
section
/-! SUPPORT. Which parts of the state the operations of Machine/Stopover.lean may change; the queue is not theirs, and the canonical form is
kept. -/

-- One proof at a time: in the package as one text, proofs run side by side would only wait for one another.
set_option Elab.async false

namespace Sys2Proof.Machine

open Sys2Proof

theorem within_toStop {s : State} {coord kind seg seq : Nat} {payload : List Byte} : Within [.regs, .sw] s (State.toStop s coord kind seg seq payload) := by
  unfold State.toStop
  repeat' first
    | with_reducible exact Within.refl _ _
    | (with_reducible apply Within.andThen within_agentSend; · decide)

theorem within_snapAck {s : State} {f : Frame} {status : Nat} {digest : List Byte} : Within [.regs, .sw] s (State.snapAck s f status digest) := by
  unfold State.snapAck
  repeat' first
    | with_reducible exact Within.refl _ _
    | (with_reducible apply Within.andThen within_agentSend; · decide)
    | split

theorem within_stopEnds {s : State} {result : Nat} : Within [.regs, .power, .watch, .sw, .lanes, .tally, .stays, .clusters, .health, .host, .out] s (State.stopEnds s result) := by
  unfold State.stopEnds
  dsimp only
  repeat' first
    | with_reducible exact Within.refl _ _
    | (with_reducible apply Within.andThen within_setReg; · decide)
    | (with_reducible apply Within.andThen within_setFld; · decide)
    | (with_reducible apply Within.andThen within_raise; · decide)
    | (with_reducible apply Within.andThen within_modHost; · decide)
    | (with_reducible apply Within.andThen within_fault; · decide)
    | (with_reducible apply Within.andThen within_heldChecks; · decide)
    | (with_reducible apply Within.andThen within_resumeCredits; · decide)
    | (with_reducible apply Within.andThen within_setPhase; · decide)
    | (with_reducible apply Within.andThen within_stopResult; · decide)
    | (with_reducible refine Within.foldl (fun _ _ => ?_) _ ?_)
    | (with_reducible refine Within.foldl_snd (fun _ _ => ?_) _ ?_)
    | (with_reducible refine Within.foldl_fst (fun _ _ => ?_) _ ?_)
    | (with_reducible refine Within.foldl_thd (fun _ _ => ?_) _ ?_)
    | split
    | dsimp only

theorem within_sendSnapshot {s : State} {partner seq : Nat} {bytes : List Byte} : Within [.regs, .sw] s (State.sendSnapshot s partner seq bytes) := by
  unfold State.sendSnapshot
  dsimp only
  repeat' first
    | with_reducible exact Within.refl _ _
    | (with_reducible apply Within.andThen within_toStop; · decide)
    | (with_reducible refine Within.foldl (fun _ _ => ?_) _ ?_)
    | (with_reducible refine Within.foldl_snd (fun _ _ => ?_) _ ?_)
    | (with_reducible refine Within.foldl_fst (fun _ _ => ?_) _ ?_)
    | (with_reducible refine Within.foldl_thd (fun _ _ => ?_) _ ?_)
    | dsimp only

theorem within_snapData {s : State} {f : Frame} {p : List Byte} : Within [.regs, .sw] s (State.snapData s f p) := by
  unfold State.snapData
  repeat' first
    | with_reducible exact Within.refl _ _
    | (with_reducible apply Within.andThen within_agentSend; · decide)

theorem within_restoreEnds {s : State} {result : Nat} : Within [.regs, .power, .watch, .sw, .lanes, .tally, .health, .host, .out] s (State.restoreEnds s result) := by
  unfold State.restoreEnds
  dsimp only
  repeat' first
    | with_reducible exact Within.refl _ _
    | (with_reducible apply Within.andThen within_setFld; · decide)
    | (with_reducible apply Within.andThen within_modHealth; · decide)
    | (with_reducible apply Within.andThen within_fault; · decide)
    | split

theorem within_bookIf {s t : State} {i k : Nat} {b : Prop} [Decidable b] (h : (if b then s.book i k else none) = some t) :
    Within [.regs, .stays] s t := by
  split at h
  · exact within_book h
  · cases h

theorem within_reinstate {s : State} {i : Nat} {e : Stay} : Within [.regs, .sw, .mem, .stays, .health] s (State.reinstate s i e) := by
  unfold State.reinstate
  dsimp only
  repeat' first
    | with_reducible exact Within.refl _ _
    | (with_reducible apply Within.andThen (within_modStays ?_); any_goals first | decide | exact fun _ => rfl | exact fun _ => ⟨rfl, rfl⟩ | (intro k; simp; done))
    | (with_reducible apply Within.andThen within_modHealth; · decide)
    | (with_reducible refine Within.andThen (within_bookIf (by assumption)) (by decide) ?_)
    | (with_reducible apply Within.andThen within_modStay; · decide)
    | (with_reducible apply Within.andThen within_modStays; · decide)
    | (with_reducible apply Within.andThen within_readCard; · decide)
    | (with_reducible apply Within.andThen within_recallPage; · decide)
    | (with_reducible apply Within.andThen within_setStay; · decide)
    | (with_reducible refine Within.of_snd (by assumption) ?_)
    | split
    | dsimp only

theorem within_acceptCopy {s : State} {b : List Byte} : Within [.regs, .sw, .mem, .stays, .health] s (State.acceptCopy s b) := by
  unfold State.acceptCopy
  dsimp only
  repeat' first
    | with_reducible exact Within.refl _ _
    | (with_reducible apply Within.andThen within_setReg; · decide)
    | (with_reducible apply Within.andThen within_setFld; · decide)
    | (with_reducible apply Within.andThen within_count; · decide)
    | (with_reducible apply Within.andThen within_modHealth; · decide)
    | (with_reducible apply Within.andThen within_countFree; · decide)
    | (with_reducible apply Within.andThen within_porterWrite; · decide)
    | (with_reducible apply Within.andThen within_reinstate; · decide)
    | (with_reducible refine Within.foldl (fun _ _ => ?_) _ ?_)
    | (with_reducible refine Within.foldl_snd (fun _ _ => ?_) _ ?_)
    | (with_reducible refine Within.foldl_fst (fun _ _ => ?_) _ ?_)
    | (with_reducible refine Within.foldl_thd (fun _ _ => ?_) _ ?_)
    | split
    | dsimp only

theorem within_judgeCopy {s : State} {seq : Nat} {digest : List Byte} {bytes : List Byte} : Within [.regs, .power, .watch, .sw, .lanes, .tally, .mem, .stays, .health, .host, .out] s (State.judgeCopy s seq digest bytes) := by
  unfold State.judgeCopy
  dsimp only
  repeat' first
    | with_reducible exact Within.refl _ _
    | (with_reducible apply Within.andThen within_acceptCopy; · decide)
    | (with_reducible apply Within.andThen within_restoreEnds; · decide)
    | split
    | dsimp only

theorem within_takeRecord {s : State} {p : List Byte} : Within [.regs, .power, .watch, .sw, .lanes, .tally, .health, .host, .out] s (State.takeRecord s p) := by
  unfold State.takeRecord
  dsimp only
  repeat' first
    | with_reducible exact Within.refl _ _
    | (with_reducible apply Within.andThen within_modHealth; · decide)
    | (with_reducible apply Within.andThen within_restoreEnds; · decide)
    | (with_reducible apply Within.andThen within_toStop; · decide)
    | (with_reducible refine Within.foldl (fun _ _ => ?_) _ ?_)
    | (with_reducible refine Within.foldl_snd (fun _ _ => ?_) _ ?_)
    | (with_reducible refine Within.foldl_fst (fun _ _ => ?_) _ ?_)
    | (with_reducible refine Within.foldl_thd (fun _ _ => ?_) _ ?_)
    | split
    | dsimp only

theorem within_answerReady {s : State} {code : Nat} {payload : List Byte} : Within [.host] s (State.answerReady s code payload) := by
  unfold State.answerReady
  repeat' first
    | with_reducible exact Within.refl _ _
    | (with_reducible apply Within.andThen within_modHost; · decide)

theorem within_partnerFails {s : State} {f : Frame} : Within [.regs, .power, .watch, .sw, .lanes, .tally, .stays, .clusters, .health, .host, .out] s (State.partnerFails s f) := by
  unfold State.partnerFails
  repeat' first
    | with_reducible exact Within.refl _ _
    | (with_reducible apply Within.andThen within_answerReady; · decide)
    | (with_reducible apply Within.andThen within_restoreEnds; · decide)
    | (with_reducible apply Within.andThen within_stopEnds; · decide)
    | split

end Sys2Proof.Machine
end

