-- ==== Sys2Proof/Laws/WithinAttach.lean ====
section
/-! SUPPORT. Which parts of the state the operations of Machine/Attach.lean may change; the queue is not theirs, and the canonical form is
kept. -/

-- One proof at a time: in the package as one text, proofs run side by side would only wait for one another.
set_option Elab.async false

namespace Sys2Proof.Machine

open Sys2Proof

theorem within_unmapped {s : State} : Within [.regs] s (State.unmapped s) := by
  unfold State.unmapped
  repeat' first
    | with_reducible exact Within.refl _ _
    | (with_reducible apply Within.andThen within_count; · decide)

theorem within_memData {s : State} {w : Nat} {data : List Byte} {poison : Bool} : Within [.out] s (State.memData s w data poison) := by
  unfold State.memData
  repeat' first
    | with_reducible exact Within.refl _ _
    | (with_reducible apply Within.andThen within_modOut; · decide)

theorem within_putPoison {s : State} {p : Nat} : Within [.mem] s (State.putPoison s p) := by
  unfold State.putPoison
  split
  · exact Within.refl _ _
  · refine within_modMem (fun w => ?_)
    simp only [Memory.wf, Bool.and_eq_true] at w ⊢
    exact ⟨sparseWf_write w.1, sparseWf_set w.2⟩

theorem within_writeVector {s : State} {v value : Nat} : Within [.regs, .out] s (State.writeVector s v value) := by
  unfold State.writeVector
  dsimp only
  repeat' first
    | with_reducible exact Within.refl _ _
    | (with_reducible apply Within.andThen within_modOut; · decide)
    | (with_reducible apply Within.andThen within_msix; · decide)
    | (with_reducible apply Within.andThen within_writePlain; · decide)
    | split

theorem within_flr {s : State} : Within [.regs, .host, .out] s (State.flr s) := by
  unfold State.flr
  dsimp only
  repeat' first
    | with_reducible exact Within.refl _ _
    | (with_reducible apply Within.andThen within_modOut; · decide)
    | (with_reducible apply Within.andThen within_setReg; · decide)
    | (with_reducible apply Within.andThen within_modHost; · decide)
    | (with_reducible refine Within.foldl (fun _ _ => ?_) _ ?_)
    | (with_reducible refine Within.foldl_snd (fun _ _ => ?_) _ ?_)
    | (with_reducible refine Within.foldl_fst (fun _ _ => ?_) _ ?_)
    | (with_reducible refine Within.foldl_thd (fun _ _ => ?_) _ ?_)
    | dsimp only

end Sys2Proof.Machine
end

