-- ==== Sys2Proof/Laws/WithinMailbox.lean ====
section
/-! SUPPORT. Which parts of the state the operations of Machine/Mailbox.lean may change; the queue is not theirs, and the canonical form is
kept. -/

-- One proof at a time: in the package as one text, proofs run side by side would only wait for one another.
set_option Elab.async false

namespace Sys2Proof.Machine

open Sys2Proof

theorem within_reply {s : State} {opcode code : Nat} {payload : List Byte} : Within [.out] s (State.reply s opcode code payload) := by
  unfold State.reply
  repeat' first
    | with_reducible exact Within.refl _ _
    | (with_reducible apply Within.andThen within_modOut; · decide)
    | (with_reducible apply Within.andThen within_msix; · decide)

theorem within_command {ps : List Part} {s : State} {opcode : Nat} {act : State → State}
    (hp : Part.out ∈ ps) (ha : ∀ x, Within ps x (act x)) : Ends ps s (s.command opcode act) := by
  unfold State.command
  split
  · exact Ends.of_next (Within.refl _ _)
  · split
    · exact Ends.of_next (Within.mono (by simpa using hp) within_reply)
    · exact Ends.of_next (ha s)

theorem within_replyDone {s : State} {opcode code : Nat} {payload : List Byte} : Within [.host, .out] s (State.replyDone s opcode code payload) := by
  unfold State.replyDone
  repeat' first
    | with_reducible exact Within.refl _ _
    | (with_reducible apply Within.andThen within_modOut; · decide)
    | (with_reducible apply Within.andThen within_modHost; · decide)
    | (with_reducible apply Within.andThen within_msix; · decide)

theorem within_background {s : State} {opcode : Nat} {arg : List Byte} {code : Nat} {payload : List Byte} {ready : Bool} : Within [.host, .out] s (State.background s opcode arg code payload ready) := by
  unfold State.background
  repeat' first
    | with_reducible exact Within.refl _ _
    | (with_reducible apply Within.andThen within_modHost; · decide)
    | (with_reducible apply Within.andThen within_reply; · decide)

theorem within_windowRead {k : Nat} {s : State} {w n : Nat} : Within [.regs, .mem] s (State.windowRead k s w n).2 := by
  induction k generalizing s w n with
  | zero => exact Within.refl _ _
  | succ k ih =>
    unfold State.windowRead
    split
    · exact Within.refl _ _
    · dsimp only
      split
      · exact Within.refl _ _
      · split
        · next h => exact Within.of_snd h within_poolRead
        · next h =>
          have h1 := Within.of_snd h within_poolRead
          split
          · next k => exact (Within.of_snd k ih).andThen (by decide) h1
          · next k => exact (Within.of_snd k ih).andThen (by decide) h1

theorem within_stage {s : State} {b : Background} : Within [.regs, .mem, .host, .out] s (State.stage s b) := by
  unfold State.stage
  dsimp only
  repeat' first
    | with_reducible exact Within.refl _ _
    | (with_reducible apply Within.andThen within_modHost; · decide)
    | (with_reducible apply Within.andThen within_poolWrite; · decide)
    | (with_reducible apply Within.andThen within_replyDone; · decide)
    | (with_reducible apply Within.andThen within_windowRead; · decide)
    | (with_reducible refine Within.of_snd (by assumption) ?_)
    | split
    | dsimp only

theorem within_writing {s : State} {opcode : Nat} {payload : List Byte} {w : FlashWrite} : Within [.host, .out] s (State.writing s opcode payload w) := by
  unfold State.writing
  repeat' first
    | with_reducible exact Within.refl _ _
    | (with_reducible apply Within.andThen within_modHost; · decide)
    | (with_reducible apply Within.andThen within_background; · decide)

theorem within_failing {s : State} {opcode : Nat} {payload : List Byte} {result : Nat} : Within [.host, .out] s (State.failing s opcode payload result) := by
  unfold State.failing
  repeat' first
    | with_reducible exact Within.refl _ _
    | (with_reducible apply Within.andThen within_background; · decide)

theorem within_commitOne {s : State} {c : Nat} : Within [.host] s (State.commitOne s c) := by
  unfold State.commitOne
  dsimp only
  repeat' first
    | with_reducible exact Within.refl _ _
    | (with_reducible apply Within.andThen within_modHost; · decide)
    | split
    | dsimp only

theorem within_written? {s : State} {w : FlashWrite} : Within [.regs, .host] s (State.written? s w) := by
  unfold State.written?
  dsimp only
  repeat' first
    | with_reducible exact Within.refl _ _
    | (with_reducible apply Within.andThen within_setFld; · decide)
    | (with_reducible apply Within.andThen within_modHost; · decide)
    | (with_reducible apply Within.andThen within_measure; · decide)
    | split
    | dsimp only

end Sys2Proof.Machine
end

