-- ==== Sys2Proof/Laws/WithinBoot.lean ====
section
/-! SUPPORT. Which parts of the state the operations of Machine/Boot.lean may change; the queue is not theirs, and the canonical form is
kept. -/

-- One proof at a time: in the package as one text, proofs run side by side would only wait for one another.
set_option Elab.async false

namespace Sys2Proof.Machine

open Sys2Proof

theorem within_stagePassed {s : State} {k : Nat} {next : Option Nat} : Within [.regs, .host] s (State.stagePassed s k next) := by
  unfold State.stagePassed
  repeat' first
    | with_reducible exact Within.refl _ _
    | (with_reducible apply Within.andThen within_setFld; · decide)
    | (with_reducible apply Within.andThen within_modHost; · decide)

theorem within_stageFailed {s : State} {k : Nat} {component : Option Nat} : Within [.regs, .power, .watch, .sw, .lanes, .tally, .health, .host, .out] s (State.stageFailed s k component) := by
  unfold State.stageFailed
  repeat' first
    | with_reducible exact Within.refl _ _
    | (with_reducible apply Within.andThen within_setFld; · decide)
    | (with_reducible apply Within.andThen within_modHost; · decide)
    | (with_reducible apply Within.andThen within_fault; · decide)

theorem within_bootAll {cs : List Nat} {s : State} : Within [.regs, .host] s (bootAll cs s).2.2 := by
  induction cs generalizing s with
  | nil => exact Within.refl _ _
  | cons c cs ih =>
    unfold bootAll
    split
    · next h => exact Within.of_snd h within_bootComponent
    · next h => exact ih.andThen (by decide) (Within.of_snd h within_bootComponent)

theorem within_definePort {s : State} {p word : Nat} : Within [.regs] s (State.definePort s p word) := by
  unfold State.definePort
  repeat' first
    | with_reducible exact Within.refl _ _
    | (with_reducible apply Within.andThen within_setReg; · decide)
    | (with_reducible apply Within.andThen within_setFld; · decide)
    | split

theorem within_applyConfig {s : State} : Within [.regs, .sw] s (State.applyConfig s) := by
  unfold State.applyConfig
  dsimp only
  repeat' first
    | with_reducible exact Within.refl _ _
    | (with_reducible apply Within.andThen within_setFld; · decide)
    | (with_reducible apply Within.andThen within_raise; · decide)
    | (with_reducible apply Within.andThen within_modSw; · decide)
    | (with_reducible apply Within.andThen within_definePort; · decide)
    | (with_reducible refine Within.foldl (fun _ _ => ?_) _ ?_)
    | (with_reducible refine Within.foldl_snd (fun _ _ => ?_) _ ?_)
    | (with_reducible refine Within.foldl_fst (fun _ _ => ?_) _ ?_)
    | (with_reducible refine Within.foldl_thd (fun _ _ => ?_) _ ?_)
    | split
    | dsimp only

theorem within_spdm {s : State} {code p1 p2 : Nat} {body : List Byte} : Within [.out] s (State.spdm s code p1 p2 body) := by
  unfold State.spdm
  repeat' first
    | with_reducible exact Within.refl _ _
    | (with_reducible apply Within.andThen within_modOut; · decide)

theorem within_spdmError {s : State} {code : Nat} : Within [.out] s (State.spdmError s code) := by
  unfold State.spdmError
  repeat' first
    | with_reducible exact Within.refl _ _
    | (with_reducible apply Within.andThen within_spdm; · decide)

theorem within_spdmAsk {ps : List Part} {s : State} {act : State → State} (ha : ∀ x, Within ps x (act x)) : Ends ps s (s.spdmAsk act) := by
  unfold State.spdmAsk
  split
  · exact Ends.of_next (ha s)
  · exact Ends.of_next (Within.refl _ _)

theorem within_spdmEarly {ps : List Part} {s : State} {act : State → State} (hp : Part.out ∈ ps) (ha : ∀ x, Within ps x (act x)) :
    Ends ps s (s.spdmEarly act) := by
  refine within_spdmAsk (fun x => ?_)
  split
  · exact Within.mono (by simpa using hp) within_spdmError
  · exact ha x

theorem within_spdmChosen {ps : List Part} {s : State} {act : State → State} (hp : Part.out ∈ ps) (ha : ∀ x, Within ps x (act x)) :
    Ends ps s (s.spdmChosen act) := by
  refine within_spdmAsk (fun x => ?_)
  split
  · exact ha x
  · exact Within.mono (by simpa using hp) within_spdmError

theorem within_doe {s : State} {b : List Byte} : Within [.out] s (State.doe s b) := by
  unfold State.doe
  repeat' first
    | with_reducible exact Within.refl _ _
    | (with_reducible apply Within.andThen within_modOut; · decide)

end Sys2Proof.Machine
end

