-- ==== Sys2Proof/Laws/WithinAccess.lean ====
section
/-! SUPPORT. Which parts of the state the operations of Machine/Access.lean may change; the queue is not theirs, and the canonical form is
kept. -/

-- One proof at a time: in the package as one text, proofs run side by side would only wait for one another.
set_option Elab.async false

namespace Sys2Proof.Machine

open Sys2Proof

theorem within_writePair {s : State} {off0 off1 value : Nat} : Within [.regs, .sw] s (State.writePair s off0 off1 value) := by
  unfold State.writePair
  dsimp only
  repeat' first
    | with_reducible exact Within.refl _ _
    | (with_reducible apply Within.andThen within_modSw; · decide)
    | (with_reducible apply Within.andThen within_writePlain; · decide)

theorem within_writePolicer {s : State} {m value : Nat} : Within [.regs, .sw] s (State.writePolicer s m value) := by
  unfold State.writePolicer
  dsimp only
  repeat' first
    | with_reducible exact Within.refl _ _
    | (with_reducible apply Within.andThen within_modSw; · decide)
    | (with_reducible apply Within.andThen within_writePair; · decide)
    | split

theorem within_writeEgress {s : State} {m value : Nat} : Within [.regs, .sw] s (State.writeEgress s m value) := by
  unfold State.writeEgress
  dsimp only
  repeat' first
    | with_reducible exact Within.refl _ _
    | (with_reducible apply Within.andThen within_modSw; · decide)
    | (with_reducible apply Within.andThen within_touchShapers; · decide)
    | (with_reducible apply Within.andThen within_writePlain; · decide)
    | split

theorem within_holdWord0 {s : State} {off value : Nat} : Within [.sw] s (State.holdWord0 s off value) := by
  unfold State.holdWord0
  repeat' first
    | with_reducible exact Within.refl _ _
    | (with_reducible apply Within.andThen within_modSw; · decide)

theorem within_thenDo {ps : List Part} {s : State} {o : Host.Outcome State Fault Refusal} {f : State → Host.Outcome State Fault Refusal}
    (ho : Ends ps s o) (hf : ∀ x, Ends ps x (f x)) : Ends ps s (thenDo o f) := by
  unfold thenDo
  split
  · exact (hf _).andThen (fun _ h => h) (ho _ rfl)
  · intro t h; cases h
  · intro t h; cases h

theorem within_writeStCtrl {s : State} {value : Nat} : Within [.regs, .stays] s (State.writeStCtrl s value) := by
  unfold State.writeStCtrl
  dsimp only
  repeat' first
    | with_reducible exact Within.refl _ _
    | (with_reducible apply Within.andThen within_count; · decide)
    | (with_reducible apply Within.andThen within_countFree; · decide)
    | (with_reducible apply Within.andThen within_writePlain; · decide)
    | split

theorem within_rackRefuse {s : State} {f : Frame} : Within [.regs, .sw] s (State.rackRefuse s f) := by
  unfold State.rackRefuse
  dsimp only
  repeat' first
    | with_reducible exact Within.refl _ _
    | (with_reducible apply Within.andThen within_count; · decide)
    | (with_reducible apply Within.andThen within_errorReply; · decide)
    | split

end Sys2Proof.Machine
end

