-- ==== Sys2Proof/Laws/Fields.lean ====
section
/-! SUPPORT. What single registers and fields read after the shared operations. -/

-- One proof at a time: in the package as one text, proofs run side by side would only wait for one another.
set_option Elab.async false

namespace Sys2Proof.Machine

open Sys2Proof

variable (s : State)

@[simp] theorem State.phase_def : s.fld DV_STATE_PHASE = s.phase := rfl

theorem State.reg_congr {s t : State} (h : t.regs = s.regs) (o : Nat) : t.reg o = s.reg o := by simp [State.reg, h]

theorem State.fld_congr {s t : State} (h : t.regs = s.regs) (f : Fld) : t.fld f = s.fld f := by simp [State.fld, State.reg_congr h]

theorem State.reg_foldl {α : Type} {g : State → α → State} {l : List α} {o : Nat} (h : ∀ x, ∀ a ∈ l, (g x a).reg o = x.reg o) (s : State) :
    (l.foldl g s).reg o = s.reg o := by
  induction l generalizing s with
  | nil => rfl
  | cons a l ih =>
    rw [List.foldl_cons, ih (fun x b hb => h x b (by simp [hb])), h s a (by simp)]

theorem State.fld_foldl {α : Type} {g : State → α → State} {l : List α} {f : Fld} (h : ∀ x, ∀ a ∈ l, (g x a).fld f = x.fld f) (s : State) :
    (l.foldl g s).fld f = s.fld f := by
  induction l generalizing s with
  | nil => rfl
  | cons a l ih =>
    rw [List.foldl_cons, ih (fun x b hb => h x b (by simp [hb])), h s a (by simp)]

theorem bitsOf_lt (v hi lo : Nat) : bitsOf v hi lo < 2 ^ (hi + 1 - lo) := Nat.mod_lt _ (Nat.two_pow_pos _)

theorem State.fld_lt (f : Fld) : s.fld f < 2 ^ (f.hi + 1 - f.lo) := bitsOf_lt _ _ _

theorem State.phase_lt : s.phase < 16 := s.fld_lt DV_STATE_PHASE

theorem State.phase_setPhase (p : Nat) (h : p < 16) : (s.setPhase p).phase = p := by
  unfold State.setPhase
  split
  · assumption
  · show ((s.setFld DV_STATE_PHASE p).modPower _ |>.msix 3).fld DV_STATE_PHASE = p
    rw [State.msix_fld, State.modPower_fld, State.fld_setFld_same _ _ _ (by decide)]
    exact Nat.mod_eq_of_lt h

theorem State.fld_setPhase_apart (p : Nat) (f : Fld) (h : DV_STATE_PHASE.apart f) : (s.setPhase p).fld f = s.fld f := by
  unfold State.setPhase
  split
  · rfl
  · rw [State.msix_fld, State.modPower_fld, State.fld_setFld_apart _ _ _ _ h]

theorem State.reg_setPhase_other (p o : Nat) (h : o ≠ DV_STATE) : (s.setPhase p).reg o = s.reg o := by
  unfold State.setPhase
  split
  · rfl
  · rw [State.msix_reg, State.modPower_reg, State.reg_setFld_other _ _ _ h]

theorem State.setPhase_power (p : Nat) : (s.setPhase p).power = if s.phase = p then s.power else { s.power with phaseAt := s.free } := by
  unfold State.setPhase
  split <;> simp [State.modPower]

@[simp] theorem State.phase_modHost (g : HostUnit → HostUnit) : (s.modHost g).phase = s.phase := rfl
@[simp] theorem State.phase_modPower (g : Power → Power) : (s.modPower g).phase = s.phase := rfl
@[simp] theorem State.phase_modSw (g : Switch → Switch) : (s.modSw g).phase = s.phase := rfl
@[simp] theorem State.phase_modHealth (g : Health → Health) : (s.modHealth g).phase = s.phase := rfl
@[simp] theorem State.phase_modMem (g : MemUnit → MemUnit) : (s.modMem g).phase = s.phase := rfl
@[simp] theorem State.phase_msix (v : Nat) : (s.msix v).phase = s.phase := s.msix_fld v _

theorem State.phase_setFld (f : Fld) (v : Nat) (h : f.apart DV_STATE_PHASE) : (s.setFld f v).phase = s.phase := s.fld_setFld_apart f _ v h
theorem State.phase_raise (f : Fld) (h : f.apart DV_STATE_PHASE) : (s.raise f).phase = s.phase := s.fld_raise_apart f _ h
theorem State.phase_count (o : Nat) (h : o ≠ DV_STATE) : (s.count o).phase = s.phase := s.fld_count_off o _ (Ne.symm h)
theorem State.phase_setReg (o : Nat) (v : Word) (h : o ≠ DV_STATE) : (s.setReg o v).phase = s.phase := s.fld_setReg_off o v _ (Ne.symm h)

/-! ### Resets (R11, R12) -/

@[simp] theorem State.showFlash_power : s.showFlash.power = s.power := within_showFlash.same .power (by decide)
@[simp] theorem State.showFlash_bell : s.showFlash.bell = s.bell := within_showFlash.same .bell (by decide)
@[simp] theorem State.showFlash_watch : s.showFlash.watch = s.watch := within_showFlash.same .watch (by decide)
@[simp] theorem State.showFlash_sw : s.showFlash.sw = s.sw := within_showFlash.same .sw (by decide)
@[simp] theorem State.showFlash_lanes : s.showFlash.lanes = s.lanes := within_showFlash.same .lanes (by decide)
@[simp] theorem State.showFlash_tally : s.showFlash.tally = s.tally := within_showFlash.same .tally (by decide)
@[simp] theorem State.showFlash_mem : s.showFlash.mem = s.mem := within_showFlash.same .mem (by decide)
@[simp] theorem State.showFlash_stays : s.showFlash.stays = s.stays := within_showFlash.same .stays (by decide)
@[simp] theorem State.showFlash_clusters : s.showFlash.clusters = s.clusters := within_showFlash.same .clusters (by decide)
@[simp] theorem State.showFlash_health : s.showFlash.health = s.health := within_showFlash.same .health (by decide)
@[simp] theorem State.showFlash_host : s.showFlash.host = s.host := within_showFlash.same .host (by decide)
@[simp] theorem State.showFlash_out : s.showFlash.out = s.out := within_showFlash.same .out (by decide)
@[simp] theorem State.showFlash_freeCtr : s.showFlash.freeCtr = s.freeCtr := within_showFlash.same .free (by decide)
@[simp] theorem State.showCap_power : s.showCap.power = s.power := within_showCap.same .power (by decide)
@[simp] theorem State.showCap_bell : s.showCap.bell = s.bell := within_showCap.same .bell (by decide)
@[simp] theorem State.showCap_watch : s.showCap.watch = s.watch := within_showCap.same .watch (by decide)
@[simp] theorem State.showCap_sw : s.showCap.sw = s.sw := within_showCap.same .sw (by decide)
@[simp] theorem State.showCap_lanes : s.showCap.lanes = s.lanes := within_showCap.same .lanes (by decide)
@[simp] theorem State.showCap_tally : s.showCap.tally = s.tally := within_showCap.same .tally (by decide)
@[simp] theorem State.showCap_mem : s.showCap.mem = s.mem := within_showCap.same .mem (by decide)
@[simp] theorem State.showCap_stays : s.showCap.stays = s.stays := within_showCap.same .stays (by decide)
@[simp] theorem State.showCap_clusters : s.showCap.clusters = s.clusters := within_showCap.same .clusters (by decide)
@[simp] theorem State.showCap_health : s.showCap.health = s.health := within_showCap.same .health (by decide)
@[simp] theorem State.showCap_host : s.showCap.host = s.host := within_showCap.same .host (by decide)
@[simp] theorem State.showCap_out : s.showCap.out = s.out := within_showCap.same .out (by decide)
@[simp] theorem State.showCap_freeCtr : s.showCap.freeCtr = s.freeCtr := within_showCap.same .free (by decide)
@[simp] theorem State.resetTo_sw (p : Nat) (h : HostUnit) : (s.resetTo p h).sw = switchReset := (within_showFlash.same .sw (by decide)).trans rfl
@[simp] theorem State.resetTo_bell (p : Nat) (h : HostUnit) : (s.resetTo p h).bell = bellReset := (within_showFlash.same .bell (by decide)).trans rfl
@[simp] theorem State.resetTo_lanes (p : Nat) (h : HostUnit) : (s.resetTo p h).lanes = [] := (within_showFlash.same .lanes (by decide)).trans rfl
@[simp] theorem State.resetTo_tally (p : Nat) (h : HostUnit) : (s.resetTo p h).tally = tallyReset := (within_showFlash.same .tally (by decide)).trans rfl
@[simp] theorem State.resetTo_mem (p : Nat) (h : HostUnit) : (s.resetTo p h).mem = memReset := (within_showFlash.same .mem (by decide)).trans rfl
@[simp] theorem State.resetTo_stays (p : Nat) (h : HostUnit) : (s.resetTo p h).stays = staysReset := (within_showFlash.same .stays (by decide)).trans rfl
@[simp] theorem State.resetTo_clusters (p : Nat) (h : HostUnit) : (s.resetTo p h).clusters = clustersReset := (within_showFlash.same .clusters (by decide)).trans rfl
@[simp] theorem State.resetTo_health (p : Nat) (h : HostUnit) : (s.resetTo p h).health = healthReset := (within_showFlash.same .health (by decide)).trans rfl
@[simp] theorem State.resetTo_watch (p : Nat) (h : HostUnit) : (s.resetTo p h).watch = { queue := [], edge := 0, taken := 0 } := (within_showFlash.same .watch (by decide)).trans rfl
@[simp] theorem State.resetTo_out (p : Nat) (h : HostUnit) : (s.resetTo p h).out = s.out.idle := (within_showFlash.same .out (by decide)).trans rfl
@[simp] theorem State.resetTo_pending (p : Nat) (h : HostUnit) : (s.resetTo p h).pending = s.pending := within_showFlash.pending.trans rfl
@[simp] theorem State.resetTo_freeCtr (p : Nat) (h : HostUnit) : (s.resetTo p h).freeCtr = s.freeCtr := (within_showFlash.same .free (by decide)).trans rfl
@[simp] theorem State.resetTo_host (p : Nat) (h : HostUnit) : (s.resetTo p h).host = { h with flash := s.host.flash, writing := s.host.writing } := (within_showFlash.same .host (by decide)).trans rfl

@[simp] theorem State.resetTo_switchClosed (p : Nat) (h : HostUnit) : (s.resetTo p h).power.switchClosed = s.power.switchClosed :=
  (congrArg Power.switchClosed (within_showFlash.same .power (by decide))).trans rfl

@[simp] theorem State.resetTo_auxOn (p : Nat) (h : HostUnit) : (s.resetTo p h).power.auxOn = s.power.auxOn :=
  (congrArg Power.auxOn (within_showFlash.same .power (by decide))).trans rfl

theorem fld_showFlash (F : Fld) (h : MB_BOOT_STATUS_OWNER_SET.apart F) (h0 : PH_HEALTH_EOL_DAYS.apart F) (h1 : ∀ k, F.off ≠ 0x01C00200 + 8 * k) :
    s.showFlash.fld F = s.fld F := by
  unfold State.showFlash
  dsimp only
  rw [State.fld_foldl, State.fld_setFld_apart _ _ _ _ h0, State.fld_setFld_apart _ _ _ _ h]
  intro x a _
  rw [State.fld_setFld_off, State.fld_setFld_off]
  · exact h1 a.1
  · exact h1 a.1

theorem fld_showCap (F : Fld) (h : PH_CAP_MODE_IN_FORCE.apart F) (h1 : ∀ k, F.off ≠ 0x01C00100 + 8 * k) : s.showCap.fld F = s.fld F := by
  unfold State.showCap
  dsimp only
  rw [State.fld_foldl, State.fld_setFld_apart _ _ _ _ h]
  intro x a _
  rw [State.fld_setFld_off]
  exact h1 a

theorem phase_resetTo (p : Nat) (h : HostUnit) (hp : p < 16) : (s.resetTo p h).phase = p := by
  unfold State.resetTo
  dsimp only
  show State.fld _ DV_STATE_PHASE = p
  rw [fld_showFlash _ _ (by decide) (by decide) (by intro k; show 0x8 ≠ _; omega), State.fld_setFld_same _ _ _ (by decide)]
  exact Nat.mod_eq_of_lt hp

@[simp] theorem State.setPhase_switchClosed (p : Nat) : (s.setPhase p).power.switchClosed = s.power.switchClosed := by
  rw [State.setPhase_power]; split <;> rfl

@[simp] theorem State.setPhase_auxOn (p : Nat) : (s.setPhase p).power.auxOn = s.power.auxOn := by
  rw [State.setPhase_power]; split <;> rfl

/-- PHASE after a warm reset (R30). -/
theorem phase_warm : s.warm.phase = (if s.phase = 7 then 7 else if s.power.switchClosed then 1 else 0) := by
  unfold State.warm
  dsimp only
  show State.fld _ DV_STATE_PHASE = _
  rw [fld_showCap _ _ (by decide) (by intro k; show 0x8 ≠ _; omega), State.modPower_fld]
  refine phase_resetTo _ _ _ ?_
  split <;> [decide; (split <;> decide)]

/-- PHASE after a cold reset (R30). -/
theorem phase_cold : s.cold.phase = (if s.phase = 7 then 7 else 0) := by
  unfold State.cold
  dsimp only
  show State.fld _ DV_STATE_PHASE = _
  rw [fld_showCap _ _ (by decide) (by intro k; show 0x8 ≠ _; omega), State.modPower_fld]
  refine phase_resetTo _ _ _ ?_
  split <;> decide

end Sys2Proof.Machine
end

