-- ==== Sys2Proof/Laws/Rows.lean ====
section
/-! SUPPORT. Finding the row of a register whose number is a variable: the rows that end below an offset are passed over. -/

-- One proof at a time: in the package as one text, proofs run side by side would only wait for one another.
set_option Elab.async false

namespace Sys2Proof.Machine

open Sys2Proof

/-- A row that ends at or below an offset does not hold it. -/
theorem RegRow.has_of_end (r : RegRow) (off : Nat) (hs : 0 < r.stride) (h : r.base + r.count * r.stride ≤ off) : r.has off = false := by
  have : ¬ (off - r.base) / r.stride < r.count := by
    rw [Nat.div_lt_iff_lt_mul hs]; omega
  simp [RegRow.has, this]

/-- The search for an offset passes over rows that all end at or below it. -/
theorem find_row_skip (l l' : List RegRow) (off lo : Nat) (hl : ∀ r ∈ l, 0 < r.stride ∧ r.base + r.count * r.stride ≤ lo) (h : lo ≤ off) :
    (l ++ l').find? (fun r => r.has off) = l'.find? (fun r => r.has off) := by
  rw [List.find?_append, List.find?_eq_none.2]
  · rfl
  · intro r hr
    simp [RegRow.has_of_end r off (hl r hr).1 ((hl r hr).2.trans h)]

end Sys2Proof.Machine
end

