-- ==== Sys2Proof/Laws/WithinTick.lean ====
section
/-! SUPPORT. Which parts of the state the operations of Machine/Tick.lean may change; the queue is not theirs, and the canonical form is
kept. -/

-- One proof at a time: in the package as one text, proofs run side by side would only wait for one another.
set_option Elab.async false

namespace Sys2Proof.Machine

open Sys2Proof

theorem within_countTick {s : State} : Within [.bell] s (State.countTick s) := by
  unfold State.countTick
  repeat' first
    | with_reducible exact Within.refl _ _
    | (with_reducible apply Within.andThen within_modBell; · decide)
    | split

theorem within_dueReset {s : State} : Within [.regs, .power, .bell, .watch, .sw, .lanes, .tally, .mem, .stays, .clusters, .health, .host, .out] s (State.dueReset s) := by
  unfold State.dueReset
  repeat' first
    | with_reducible exact Within.refl _ _
    | (with_reducible apply Within.andThen within_modPower; · decide)
    | (with_reducible apply Within.andThen within_warm; · decide)
    | (with_reducible apply Within.andThen within_writing; · decide)
    | split
    | dsimp only

theorem within_tick {s : State} : Within [.regs, .power, .bell, .watch, .sw, .lanes, .tally, .mem, .stays, .clusters, .health, .host, .out] s (State.tick s) := by
  unfold State.tick
  repeat' first
    | with_reducible exact Within.refl _ _
    | (with_reducible apply Within.andThen within_count; · decide)
    | (with_reducible apply Within.andThen within_countTick; · decide)
    | (with_reducible apply Within.andThen within_dueReset; · decide)

end Sys2Proof.Machine
end

