-- ==== Sys2Proof/WellFormed.lean ====
section
/-! DEFINITION. The operands a command may carry: each within the width the spec gives it. A command outside these bounds still has a
meaning (its surplus bits are ignored or it names nothing); the bounds say which commands the environment can issue. -/

namespace Sys2Proof

/-- Every header field within its width, and the payload within 4,096 bytes, its poisoned pairs among them (R80, R342). -/
def Frame.wf (f : Frame) : Bool :=
  decide (f.kind < 256) && decide (f.vc < 8) && decide (f.dl < 2) && decide (f.dim < 4) && decide (f.epoch < 2) && decide (f.destKind < 4) &&
  decide (f.spray < 4) && decide (f.colour < 4) && decide (f.party < 4096) && decide (f.srcRank < 2 ^ 17) && decide (f.dstRank < 2 ^ 17) &&
  decide (f.dstCoord < 2 ^ 11) && decide (f.dstPort < 256) && decide (f.srcCoord < 2 ^ 11) && decide (f.srcPort < 256) &&
  decide (f.stream < 2 ^ 16) && decide (f.seq < 2 ^ 16) && decide (f.address < 2 ^ 50) && decide (f.tag < 2 ^ 14) &&
  decide (f.payload.length ≤ 4096) && f.poison.all (fun p => decide (p < 64))

/-- The place names a part of the packet buffer (R115, R117). -/
def BufferUe.wf : BufferUe → Bool
  | .frameBytes _ => true
  | .vacancy bank => decide (bank < 64)
  | .queue port vc sub => decide (port < 512) && decide (vc < 6) && decide (sub < 2)

/-- Every mask is of at most sixteen lanes, every identity word of 64 bits, the settled row one that fits STATUS (R359, R370). -/
def StageFinding.wf (g : StageFinding) : Bool :=
  decide (g.openMask < 2 ^ 16) && decide (g.shortMask < 2 ^ 16) && decide (g.failedMask < 2 ^ 16) &&
  decide (g.words.length ≤ 16) && g.words.all (fun w => decide (w < 2 ^ 64)) && decide (g.ethRow < 8)

/-- Every operand of a command lies within its width. -/
def Instr.wf : Instr → Bool
  | .warmReset => true
  | .powerCycle => true
  | .powerOff => true
  | .railsDischarged => true
  | .inputSwitchClose => true
  | .inputLow vin => decide (vin < 2 ^ 16)
  | .inputRecovered vin => decide (vin < 2 ^ 16)
  | .undervoltage vin => decide (vin < 2 ^ 16)
  | .surge vin => decide (vin < 2 ^ 16)
  | .overvoltage vin => decide (vin < 2 ^ 16)
  | .reverse vin => decide (vin < 2 ^ 16)
  | .overcurrent => true
  | .retry => true
  | .powerStageFail stage => decide (stage < 12)
  | .railsStable => true
  | .vacancyThreadDone => true
  | .stackFillDone stack => decide (stack < 8)
  | .fillLate stack => decide (stack < 8)
  | .musterMark => true
  | .musterCheck failing crossings => failing.all (fun x => decide (x < 56)) && crossings.all (fun p => decide (p < 256))
  | .islandOutOfMuster island => decide (island < 56)
  | .remusterDone island => decide (island < 56)
  | .bringupDeadline => true
  | .setCoord coord sizeX1 sizeY1 sizeZ1 => decide (coord < 2 ^ 11) && decide (sizeX1 < 256) && decide (sizeY1 < 256) && decide (sizeZ1 < 256)
  | .setRoot coord ptpPort source => decide (coord < 2 ^ 11) && decide (ptpPort < 256) && decide (source < 256)
  | .readReg offset => decide (offset < 2 ^ 26)
  | .recoverWrite _ piece data => decide (piece < 2 ^ 16) && decide (data.length < 4097)
  | .mctpUnknownCommand code => decide (code < 256)
  | .registerWrite offset size value => decide (offset < 2 ^ 26) && (size = 4 || size = 8) && decide (value < 2 ^ 64)
  | .syncInterval tA => decide (tA < 2 ^ 64)
  | .sync dir f tB tC => decide (dir < 6) && f.wf && decide (tB < 2 ^ 64) && decide (tC < 2 ^ 64)
  | .syncReply dir f tD => decide (dir < 6) && f.wf && decide (tD < 2 ^ 64)
  | .rootAnnounceSend => true
  | .rootAnnounce dir f tR => decide (dir < 6) && f.wf && decide (tR < 2 ^ 64)
  | .rootWaitEnd => true
  | .holdLimitExpiry => true
  | .forceStep => true
  | .choiceWindowWrite _ tick => decide (tick < 2 ^ 64)
  | .choiceWindowOpen => true
  | .ptpMessage port msgType taiNs eth => decide (port < 256) && decide (msgType < 16) && decide (taiNs < 2 ^ 64) && decide (eth.length < 65536)
  | .trunkIdent port f => decide (port < 256) && f.wf
  | .frameIngress port f => decide (port < 256) && f.wf
  | .frameTailReceived port _ => decide (port < 256)
  | .egressSelect port => decide (port < 256)
  | .spoil port => decide (port < 256)
  | .bridgeFrame port eth _ => decide (port < 256) && decide (eth.length < 65536)
  | .read f => f.wf
  | .write f => f.wf
  | .writePosted f => f.wf
  | .streamCloseRelease stream => decide (stream < 65536)
  | .streamHoldExpiry stream => decide (stream < 65536)
  | .sinkLimitExpiry port vc => decide (port < 256) && decide (vc < 8)
  | .mcastHoldExpiry port => decide (port < 256)
  | .creditTopup port => decide (port < 256)
  | .sacrificeStageUpdate => true
  | .bufferSramUe place word => place.wf && decide (word < 2 ^ 40)
  | .bankRebuildDone bank => decide (bank < 64)
  | .rankEntryWrite n value => decide (n < 32768) && decide (value < 2 ^ 64)
  | .partyEntryWrite p value => decide (p < 4096) && decide (value < 2 ^ 64)
  | .streamEntryWrite n value => decide (n < 65536) && decide (value < 2 ^ 64)
  | .ownerMinWrite n value => decide (n < 4096) && decide (value < 2 ^ 64)
  | .sacrificeThresholdWrite value => decide (value < 2 ^ 64)
  | .twoWordEntryWrite offset value => decide (offset < 2 ^ 26) && decide (value < 2 ^ 64)
  | .swTableRead value => decide (value < 2 ^ 64)
  | .swTableWrite value => decide (value < 2 ^ 64)
  | .tlTableRead value => decide (value < 2 ^ 64)
  | .stTableRead value => decide (value < 2 ^ 64)
  | .tableAccessDone window => decide (window < 3)
  | .curfewSwitchArm port tick => decide (port < 256) && decide (tick < 2 ^ 64)
  | .curfewCancel port => decide (port < 256)
  | .curfewSwitchover port => decide (port < 256)
  | .curfewEntryAdvance port => decide (port < 256)
  | .fenceSeen ctx => decide (ctx < 6144)
  | .claim f => f.wf
  | .release f => f.wf
  | .tallyUnlistedKind f => f.wf
  | .operand f => f.wf
  | .tallyStep ctx g => decide (ctx < 6144) && decide (g < 2 ^ 32)
  | .result f _ _ => f.wf
  | .ack f => f.wf
  | .credit f => f.wf
  | .resend f => f.wf
  | .fail f => f.wf
  | .dispatch f => f.wf
  | .resultAckTimeout ctx g slot => decide (ctx < 6144) && decide (g < 2 ^ 32) && decide (slot < 72)
  | .contribResendTimeout ctx g slot => decide (ctx < 6144) && decide (g < 2 ^ 32) && decide (slot < 72)
  | .tallyCorruption ctx reason g unit => decide (ctx < 6144) && decide (reason < 4) && decide (g < 2 ^ 32) && decide (unit < 24)
  | .tallyPoolMinWrite p value => decide (p < 4096) && decide (value < 2 ^ 64)
  | .open f => f.wf
  | .append f => f.wf
  | .appendResume index => decide (index < 2 ^ 18)
  | .attend f => f.wf
  | .assembleWaitExpiry srcCoord srcPort tag => decide (srcCoord < 2 ^ 11) && decide (srcPort < 256) && decide (tag < 2 ^ 14)
  | .attendPlace pos => decide (pos < 2 ^ 20)
  | .fork f => f.wf
  | .park f => f.wf
  | .parkToHost index => decide (index < 2 ^ 18)
  | .parkToPeer index => decide (index < 2 ^ 18)
  | .unpark f => f.wf
  | .close f => f.wf
  | .closeComplete index => decide (index < 2 ^ 18)
  | .roomUnlistedKind f => f.wf
  | .mirrorOpen f => f.wf
  | .mirrorAppend f => f.wf
  | .mirrorFork f => f.wf
  | .mirrorClose f => f.wf
  | .mirrorRoomcopy f => f.wf
  | .mirrorAck f => f.wf
  | .mirrorWaitExpiry index => decide (index < 2 ^ 18)
  | .lodgeBook f => f.wf
  | .lodgeBooked f => f.wf
  | .lodge f => f.wf
  | .lodgeAck f => f.wf
  | .recallReturn f => f.wf
  | .recallDiscard f => f.wf
  | .recallPage f => f.wf
  | .recalled f => f.wf
  | .eviction => true
  | .takeoverGo value => decide (value < 2 ^ 64)
  | .takeoverDone => true
  | .remirror value => decide (value < 2 ^ 64)
  | .evictThresholdWrite value => decide (value < 2 ^ 64)
  | .areaWrite _ value => decide (value < 2 ^ 64)
  | .bindWrite cluster n value => decide (cluster < 6) && decide (n < 64) && decide (value < 2 ^ 64)
  | .inbox f => f.wf
  | .coreEnableWrite cluster value => decide (cluster < 6) && decide (value < 2 ^ 64)
  | .quarantineClear cluster value => decide (cluster < 6) && decide (value < 2 ^ 64)
  | .dupMismatch core => decide (core < 24)
  | .dupThirdRunDone core _ => decide (core < 24)
  | .residueFail core _ => decide (core < 24)
  | .launchFiring core => decide (core < 24)
  | .contFiring core => decide (core < 24)
  | .wakeFiring core => decide (core < 24)
  | .finalRelease core => decide (core < 24)
  | .dispatchResume core => decide (core < 24)
  | .instructionComplete core unit => decide (core < 24) && decide (unit < 6)
  | .endBundle core => decide (core < 24)
  | .setx core => decide (core < 24)
  | .madx core => decide (core < 24)
  | .bell core => decide (core < 24)
  | .bellTickReached core => decide (core < 24)
  | .fence core => decide (core < 24)
  | .fenceDrained core => decide (core < 24)
  | .roomld core => decide (core < 24)
  | .lcopy core => decide (core < 24)
  | .mma core => decide (core < 24)
  | .vadd core => decide (core < 24)
  | .vmul core => decide (core < 24)
  | .vfma core => decide (core < 24)
  | .vmax core => decide (core < 24)
  | .vmin core => decide (core < 24)
  | .vsel core => decide (core < 24)
  | .vexp core => decide (core < 24)
  | .vrcp core => decide (core < 24)
  | .vcvt core => decide (core < 24)
  | .vred core => decide (core < 24)
  | .vmask core => decide (core < 24)
  | .histout core => decide (core < 24)
  | .xpose core => decide (core < 24)
  | .handoff core => decide (core < 24)
  | .outbox core => decide (core < 24)
  | .operandInstruction core => decide (core < 24)
  | .recv core => decide (core < 24)
  | .programFault core code => decide (core < 24) && decide (code < 256)
  | .verify => true
  | .verifyDone => true
  | .activationArm tick => decide (tick < 2 ^ 64)
  | .activationCancel => true
  | .imageActivation => true
  | .pairRead pair errs => decide (pair < 2 ^ 34) && errs.all (fun x => decide (x.1 < 36) && decide (0 < x.2) && decide (x.2 < 2 ^ 16)) && (errs.map (·.1)).Nodup
  | .pairWrite pair data => decide (pair < 2 ^ 34) && decide (data.length = 64)
  | .mergeHoldExpiry pair errs => decide (pair < 2 ^ 34) && errs.all (fun x => decide (x.1 < 36) && decide (x.2 < 2 ^ 16))
  | .interfaceCrcFail stack => decide (stack < 8)
  | .thermalReport stack temp => decide (stack < 8) && decide (temp < 2 ^ 16)
  | .thermThresholdWrite value => decide (value < 2 ^ 64)
  | .scrubGo value => decide (value < 2 ^ 64)
  | .scrubStop => true
  | .scrubDone corrected uncorrectable rows => rows.all (fun x => decide (x < 2 ^ 34)) && corrected.all (fun x => decide (x.1 < 2 ^ 34) && decide (x.2 < 36)) && uncorrectable.all (fun x => decide (x < 2 ^ 34))
  | .repairRow value => decide (value < 2 ^ 64)
  | .retireRoom value => decide (value < 2 ^ 64)
  | .retireBank value => decide (value < 2 ^ 64)
  | .releaseRoom value => decide (value < 2 ^ 64)
  | .repairDone corrected uncorrectable => corrected.all (fun x => decide (x.1 < 2 ^ 34) && decide (x.2 < 36)) && uncorrectable.all (fun x => decide (x < 2 ^ 34))
  | .stackDown stack => decide (stack < 8)
  | .portStageDone port found => decide (port < 256) && found.wf
  | .portStageTimeout port found => decide (port < 256) && found.wf
  | .detectRetry port _ => decide (port < 256)
  | .status port credits detour ackSeq => decide (port < 256) && credits.all (fun x => decide (x < 2 ^ 16)) && decide (detour < 2 ^ 16) && decide (ackSeq < 4096)
  | .codewordUncorrectable port _ => decide (port < 256)
  | .replayReq port resumeSeq resumeSlot => decide (port < 256) && decide (resumeSeq < 4096) && decide (resumeSlot < 16)
  | .replayStart port seq => decide (port < 256) && decide (seq < 4096)
  | .replayReqRepeat port => decide (port < 256)
  | .ackWaitExpiry port => decide (port < 256)
  | .serWindowEnd port corrected => decide (port < 256) && corrected.all (fun x => decide (x < 2 ^ 32))
  | .laneSignalLoss port lane => decide (port < 256) && decide (lane < 16)
  | .laneForm port mask => decide (port < 256) && decide (mask < 2 ^ 16)
  | .laneNarrow port mask => decide (port < 256) && decide (mask < 2 ^ 16)
  | .narrowDone port => decide (port < 256)
  | .tileFail tile => decide (tile < 4)
  | .lanePower port state tick => decide (port < 256) && decide (state < 3) && decide (tick < 2 ^ 64)
  | .laneWake port => decide (port < 256)
  | .laneDown port => decide (port < 256)
  | .quietRequest port => decide (port < 256)
  | .sleepRequest port => decide (port < 256)
  | .activeRequest port => decide (port < 256)
  | .powerStateEntry port => decide (port < 256)
  | .wakeTrigger port => decide (port < 256)
  | .wakeTickWrite port tick => decide (port < 256) && decide (tick < 2 ^ 64)
  | .wakeTickReached port => decide (port < 256)
  | .wakeDone port _ => decide (port < 256)
  | .shutDown port => decide (port < 256)
  | .shutdownDone port => decide (port < 256)
  | .enable port => decide (port < 256)
  | .retrain port => decide (port < 256)
  | .faultMessage source kind address => decide (source < 1024) && decide (kind < 256) && decide (address < 2 ^ 40)
  | .ringEntry => true
  | .inject value => decide (value < 2 ^ 64)
  | .proofGo value => decide (value < 2 ^ 64)
  | .proofAutoStart core => decide (core < 24)
  | .proofSuiteDone core failing => decide (core < 24) && failing.all (fun k => decide (k < 64))
  | .healthEval ages eyeLoss wear => ages.all (fun x => decide (x < 2 ^ 32)) && decide (eyeLoss < 101) && wear.all (fun x => decide (x.1 < 2 ^ 32) && decide (x.2 < 2 ^ 32))
  | .riskHistoryAppend => true
  | .stopoverGo => true
  | .stopTickArm tick => decide (tick < 2 ^ 64)
  | .stopoverCancel => true
  | .stopTickReached => true
  | .quiesceDone busy => busy.all (fun x => decide (x.1 < 24) && decide (1 ≤ x.2 ∧ x.2 ≤ 5))
  | .captureDone => true
  | .stopoverTimeout => true
  | .snapPut f => f.wf
  | .snapDone f => f.wf
  | .snapConfirm f => f.wf
  | .snapGet f => f.wf
  | .snapData f => f.wf
  | .snapAck f => f.wf
  | .restoreGo value => decide (value < 2 ^ 64)
  | .restoreDone => true
  | .cxlLinkUp rate width => decide (rate < 16) && decide (width < 32)
  | .cxlLinkDown => true
  | .memrd offset => decide (offset < 2 ^ 40)
  | .memwr offset data _ => decide (offset < 2 ^ 40) && decide (data.length = 64)
  | .memwrptl offset data => decide (offset < 2 ^ 40) && decide (data.length < 4097)
  | .windowWrite window value => decide (window < 16) && decide (value < 2 ^ 64)
  | .queueConfigWrite q value => decide (q < 2) && decide (value < 2 ^ 64)
  | .msixHoldoffExpiry q => decide (q < 2)
  | .functionLevelReset => true
  | .getEventRecords payload => decide (payload.length < 2 ^ 20)
  | .clearEventRecords payload => decide (payload.length < 2 ^ 20)
  | .getSupportedLogs payload => decide (payload.length < 2 ^ 20)
  | .getLog payload => decide (payload.length < 2 ^ 20)
  | .identifyMemoryDevice payload => decide (payload.length < 2 ^ 20)
  | .getPoisonList payload => decide (payload.length < 2 ^ 20)
  | .mailboxUnsupported opcode => decide (opcode < 2 ^ 16)
  | .reset payload => decide (payload.length < 2 ^ 20)
  | .stageItinerary payload => decide (payload.length < 2 ^ 20)
  | .stageComponent payload => decide (payload.length < 2 ^ 20)
  | .updateComponent payload => decide (payload.length < 2 ^ 20)
  | .commit payload => decide (payload.length < 2 ^ 20)
  | .getLogEntries payload => decide (payload.length < 2 ^ 20)
  | .stopover payload => decide (payload.length < 2 ^ 20)
  | .readSnapshot payload => decide (payload.length < 2 ^ 20)
  | .getNonce payload => decide (payload.length < 2 ^ 20)
  | .ownerSet payload => decide (payload.length < 2 ^ 20)
  | .serviceClearLedger payload => decide (payload.length < 2 ^ 20)
  | .serviceClearOwner payload => decide (payload.length < 2 ^ 20)
  | .backgroundCommandDone => true
  | .flashWriteDone => true
  | .bootStageDone => true
  | .getVersion => true
  | .getCapabilities => true
  | .negotiateAlgorithms _ _ => true
  | .getDigests => true
  | .getCertificate slot offset length => decide (slot < 256) && decide (offset < 2 ^ 16) && decide (length < 2 ^ 16)
  | .challenge slot nonce => decide (slot < 256) && decide (nonce.length < 33)
  | .getMeasurements block nonce => decide (block < 256) && decide (nonce.length < 33)
  | .spdmUnsupportedRequest code => decide (code < 256)
  | .doeDiscovery index => decide (index < 256)
  | .cdatTableAccess => true
  | .capModeWrite value => decide (value < 2 ^ 64)
  | .powerMeasure block power pin iin vin => decide (block < 256) && decide (power < 2 ^ 16) && decide (pin < 2 ^ 16) && decide (iin < 2 ^ 16) && decide (vin < 2 ^ 16)
  | .clockWrite value => decide (value < 2 ^ 64)
  | .clockChange => true
  | .hubThermalReport inlet outlet hubMax island => decide (inlet < 2 ^ 16) && decide (outlet < 2 ^ 16) && decide (hubMax < 2 ^ 16) && decide (island < 56)
  | .auxSupplyApplied => true
  | .tileCalibrationDone tile => decide (tile < 4)
  | .error f => f.wf

end Sys2Proof
end

