-- ==== Sys2Proof/Tests/Slice0.lean ====
section
/-! SUPPORT. Tests with values from the spec's worked examples and tables, the smoke test of WellFormed, and witnesses for the statements
about steps and frames. -/

-- One proof at a time: in the package as one text, proofs run side by side would only wait for one another.
set_option Elab.async false

namespace Sys2Proof.Tests

open Sys2Proof Sys2Proof.Machine

/-! ### Worked examples of the spec -/

/-- The state of the example of chapter 3: party 0x2A3 and its rank entry 0x046A, the fabric 16 × 16 × 8. -/
def rankExample : State :=
  ((State.reset.setReg DV_COORD (placed 15 14 11 ||| placed 15 18 15 ||| placed 7 21 19)).setReg (SW_PARTY 0x2A3)
    (placed 1 63 63 ||| placed 6 60 58 ||| placed 2048 57 42 ||| placed 0x400 41 27)).setReg (SW_RANK 0x46A)
    (placed 1 63 63 ||| placed (13 + 16 * 4 + 256 * 2) 18 8)

/-- Chapter 3: rank 6,789 of party 0x2A3 is endpoint port 5 of module (13, 4, 2). -/
theorem test_rank_translated : (rankExample.translate 0x2A3 6789).toOption = some (13 + 16 * 4 + 256 * 2, 5) := by decide +kernel

/-- A rank beyond the party's groups is refused with code 4 (R75). -/
theorem test_rank_beyond : (match rankExample.translate 0x2A3 (2048 * 64) with
    | .error e => e
    | .ok _ => 0) = 4 := by decide +kernel

/-- Chapter 3: from (2, 9, 6) to (13, 4, 2) the distances are 11 and 5, 11 and 5, 4 and 4. -/
theorem test_distances : [0, 1, 2].map (rankExample.hops (2 + 16 * 9 + 256 * 6) (13 + 16 * 4 + 256 * 2)) = [(11, 5), (11, 5), (4, 4)] := by decide +kernel

/-- Chapter 3: x and y go minus, z is a tie. -/
theorem test_directions : [0, 1, 2].map (fun a => rankExample.openDirs (2 + 16 * 9 + 256 * 6) (13 + 16 * 4 + 256 * 2) a false) =
    [[false], [false], [true, false]] := by decide +kernel

/-- Chapter 3: the dateline is crossed on 0 → 15 in x, and in z on 7 → 0. -/
theorem test_dateline : rankExample.crosses 0 0 false = true ∧ rankExample.crosses 2 0 false = false ∧ rankExample.crosses (256 * 7) 2 true = true := by decide +kernel

/-- Chapter 13: aperture 3 with BASE 0x60_0000 takes window offset 0x3_0024_1040 to room 0x60_0024, byte 0x1040. -/
theorem test_window : (State.reset.setReg (MB_WINDOW 3) (placed 1 63 63 ||| placed 0x600000 23 0)).windowAt 0x300241040 =
    some (0x600024 * 65536 + 0x1040) := by decide +kernel

/-- Chapter 13: that byte lies in stack 3, pseudo-channel 4, bank 18, row 0, pair 1. -/
theorem test_window_place : pairStack ((0x600024 * 65536 + 0x1040) / 64) = 3 ∧ pairPlace ((0x600024 * 65536 + 0x1040) / 64) = (4, 18, 0, 1) := by decide

/-- Chapter 9: the E4M3 block with 3.9, −0.01 and 0.0003: scale byte 0x78, codes 0x7E (saturated), 0xBA and 0x12. -/
theorem test_e4m3_block : mxBlock 3 [.fin false 4089446 (-20), .fin true 5497558 (-29), .fin false 5277656 (-34)] =
    (0x78, [(0x7E, true, false), (0xBA, false, false), (0x12, false, false)]) := by decide +kernel

/-- Chapter 5, F = −113: 2², 2⁻²³ and −2² leave 2⁹⁰ in any order, and no flag. -/
theorem test_accumulator : [FVal.fin false (2 ^ 23) (-21), .fin false (2 ^ 23) (-46), .fin true (2 ^ 23) (-21)].foldl
    (fun p v => winTake (-113) p.1 p.2 v) ((0 : Int), 0) = (2 ^ 90, 0) := by decide +kernel

/-- Chapter 5: 3 × 2⁻¹²¹ adds 0 and sets TRUNC; 2²⁴ is clamped to 2¹¹⁹ − 1 and sets SAT. -/
theorem test_accumulator_ends : winTake (-113) 0 0 (.fin false 3 (-121)) = (0, flTrunc) ∧ winTake (-113) 0 0 (.fin false 1 24) = (2 ^ 119 - 1, flSat) := by decide +kernel

/-- The card of the planning example of chapter 6: 64 layers of 8 key/value heads of 128, 64 query heads. -/
def planned (kv : Nat) : Card := ⟨kv, 128, 8, 64, 64, 0, false, 0, 0, 0, none, none, 0, none⟩

/-- Chapters 1 and 6: TPR is 128 in BF16, and 248 with LK 512 in MXFP8. -/
theorem test_tokens_per_room : (planned 0).tpr = 128 ∧ (planned 1).tpr = 248 ∧ (planned 1).lk = 512 := by decide +kernel

/-! ### Register tables and single steps -/

/-- DV_IDENT of chapter 1, bit by bit from its table. -/
theorem test_ident : State.reset.readWord DV_IDENT = 0x4C590D08A1000000 := by decide +kernel

/-- The reset severity of kinds of R395: UE contained, FILL_LATE degraded, HUB_OVERTEMP a reset, LEVEL a note. -/
theorem test_severities : [0x22, 0x25, 0x3C, 0x24].map kindSeverity = [2, 3, 4, 0] := by decide

/-- An offset with no register reads 0 (R28). -/
theorem test_unassigned : State.reset.readWord 0x00100028 = 0 := by decide +kernel

/-- The state that answers, the reset state where there is none. -/
def after (c : Instr) (s : State) : State :=
  match exec c s with
  | .next t => t
  | _ => State.reset

/-- A reserved value leaves its field (R15): NOTIFY_MIN takes 0 to 5. -/
theorem test_reserved_value : (after (.registerWrite WATCH_CTRL 8 7) State.reset).fld WATCH_CTRL_NOTIFY_MIN = 2 := by decide +kernel

/-- An empty queue: one tick of the free-running count (R8). -/
theorem test_tick : (match step State.reset with
    | .next t => t.bell.free
    | _ => 0) = State.reset.bell.free + 1 := by decide +kernel

/-- A pair written is read back, its neighbour is not touched (R335). -/
theorem test_pair_write : (after (.pairWrite 5 (List.replicate 64 7)) (State.reset.setReg MEM_STATUS 0)).peek 320 64 = List.replicate 64 7 ∧
    (after (.pairWrite 5 (List.replicate 64 7)) (State.reset.setReg MEM_STATUS 0)).peek 384 1 = [0] := by decide +kernel

/-! ### States for the statements about steps and frames -/

/-- A state with commands waiting. -/
def waiting : State := { State.reset with pending := [.retry, .ringEntry] }

theorem witness_StepRunsTheFront : ∃ (c : Instr) (rest : List Instr) (s : State), s.pending = c :: rest := ⟨.retry, [.ringEntry], waiting, rfl⟩

/-- The reset state with a warm reset due, and with a flash write running beside it. -/
def dueReset (writing : List FlashWrite) : State :=
  (State.reset.modPower fun p => { p with resetDue := some 1 }).modHost fun h => { h with writing := writing }

theorem witness_EmptyQueueTicks : (∃ s : State, s.pending = [] ∧ (∀ t ∈ s.power.resetDue, s.free + 1 < t)) ∧
    (∃ (s : State) (t : Nat), s.pending = [] ∧ s.power.resetDue = some t ∧ t ≤ s.free + 1 ∧ s.host.writing = []) ∧
    (∃ (s : State) (t : Nat), s.pending = [] ∧ s.power.resetDue = some t ∧ t ≤ s.free + 1 ∧ s.host.writing ≠ []) :=
  ⟨⟨State.reset, rfl, by decide⟩, ⟨dueReset [], 1, rfl, rfl, by decide, rfl⟩, ⟨dueReset [.owner none], 1, rfl, rfl, by decide, by decide⟩⟩

theorem canon_of_reset_data (s : State) (h : s.regs = [] ∧ s.lanes = [] ∧ s.mem = State.reset.mem ∧ s.stays = State.reset.stays ∧
    s.clusters = State.reset.clusters) : Canon s := by
  obtain ⟨h1, h2, h3, h4, h5⟩ := h
  exact ⟨by rw [h1]; decide +kernel, by rw [h2]; decide +kernel, by rw [h3]; decide +kernel, by rw [h4]; decide +kernel,
    by rw [h5]; decide +kernel, by rw [h5]; decide +kernel, by rw [h5]; decide +kernel⟩

theorem witness_StepKeepsCanonicalForm : ∃ s t : State, Canon s ∧ step s = .next t :=
  ⟨waiting, _, canon_of_reset_data _ (by decide +kernel), rfl⟩

theorem witness_StepTakesOneCommand : ∃ s t : State, step s = .next t := ⟨waiting, _, rfl⟩

theorem witness_UnitsKeepOtherBlocks : ∃ (s t : State) (core a : Nat) (c : Instr), core < 24 ∧
    c ∈ [Instr.vadd core, .vmul core, .vfma core, .vmax core, .vmin core, .vsel core, .vexp core, .vrcp core, .vcvt core, .vred core,
      .vmask core, .mma core, .histout core, .xpose core, .lcopy core, .recv core] ∧ exec c s = .next t ∧ a / 0x80000 ≠ 16 + core / 4 :=
  ⟨State.reset, State.reset.vector 5 0x30, 5, DV_STATE, .vadd 5, by decide, by simp, rfl, by decide⟩

/-- The reset state with its auxiliary supply on. -/
def powered : State := State.reset.modPower (fun p => { p with auxOn := true })

theorem witness_FirstErrorBits_kept : ∃ (s : State) (k : Nat), Canon s ∧ k < 16 ∧ s.power.auxOn = true ∧ s.host.writing = [] :=
  ⟨powered, 15, canon_of_reset_data _ (by decide +kernel), by decide, rfl, rfl⟩

/-! ### WellFormed: one ill-formed term for each check -/

/-- A frame with a field out of its range. -/
def badFrame : Frame := { blankFrame with kind := 256 }

theorem test_well_formed : blankFrame.wf = true ∧ ([.warmReset, .registerWrite 8 8 5, .write blankFrame, .memwr 0 (List.replicate 64 0) false,
    .faultMessage 0x3FF 255 0] : List Instr).all Instr.wf = true := by decide +kernel


/-- One term for each bound of a frame's fields. -/
theorem test_ill_formed_frames : ∀ f ∈ ([
    { blankFrame with kind := 256 }, { blankFrame with vc := 8 }, { blankFrame with dl := 2 }, { blankFrame with dim := 4 },
    { blankFrame with epoch := 2 }, { blankFrame with destKind := 4 }, { blankFrame with spray := 4 }, { blankFrame with colour := 4 },
    { blankFrame with party := 4096 }, { blankFrame with srcRank := 2 ^ 17 }, { blankFrame with dstRank := 2 ^ 17 },
    { blankFrame with dstCoord := 2 ^ 11 }, { blankFrame with dstPort := 256 }, { blankFrame with srcCoord := 2 ^ 11 },
    { blankFrame with srcPort := 256 }, { blankFrame with stream := 2 ^ 16 }, { blankFrame with seq := 2 ^ 16 }, { blankFrame with address := 2 ^ 50 },
    { blankFrame with tag := 2 ^ 14 }, { blankFrame with poison := [64] }] : List Frame), f.wf = false := by decide +kernel

theorem test_ill_formed_1 : ∀ c ∈ ([
    .inputLow (2 ^ 16), .inputRecovered (2 ^ 16), .undervoltage (2 ^ 16), .surge (2 ^ 16), .overvoltage (2 ^ 16), .reverse (2 ^ 16),
    .powerStageFail 12, .stackFillDone 8, .fillLate 8, .musterCheck [56] [], .musterCheck [] [256], .islandOutOfMuster 56, .remusterDone 56,
    .setCoord (2 ^ 11) 0 0 0, .setCoord 0 256 0 0, .setCoord 0 0 256 0, .setCoord 0 0 0 256, .setRoot (2 ^ 11) 0 0, .setRoot 0 256 0, .setRoot 0 0 256,
    .readReg (2 ^ 26), .recoverWrite false (2 ^ 16) [], .mctpUnknownCommand 256, .registerWrite (2 ^ 26) 8 0, .registerWrite 0 5 0,
    .registerWrite 0 8 (2 ^ 64), .syncInterval (2 ^ 64), .sync 6 blankFrame 0 0, .sync 0 badFrame 0 0, .sync 0 blankFrame (2 ^ 64) 0,
    .sync 0 blankFrame 0 (2 ^ 64), .syncReply 6 blankFrame 0, .syncReply 0 badFrame 0, .syncReply 0 blankFrame (2 ^ 64), .rootAnnounce 6 blankFrame 0,
    .rootAnnounce 0 badFrame 0, .rootAnnounce 0 blankFrame (2 ^ 64), .choiceWindowWrite false (2 ^ 64), .ptpMessage 256 0 0 [], .ptpMessage 0 16 0 [],
    .ptpMessage 0 0 (2 ^ 64) [], .trunkIdent 256 blankFrame, .trunkIdent 0 badFrame, .frameIngress 256 blankFrame, .frameIngress 0 badFrame,
    .frameTailReceived 256 false, .egressSelect 256, .spoil 256] : List Instr), c.wf = false := by decide +kernel

theorem test_ill_formed_2 : ∀ c ∈ ([
    .bridgeFrame 256 [] false, .read badFrame, .write badFrame, .writePosted badFrame, .streamCloseRelease 65536, .streamHoldExpiry 65536,
    .sinkLimitExpiry 256 0, .sinkLimitExpiry 0 8, .mcastHoldExpiry 256, .creditTopup 256, .bufferSramUe (.vacancy 64) 0,
    .bufferSramUe (.vacancy 0) (2 ^ 40), .bankRebuildDone 64, .rankEntryWrite 32768 0, .rankEntryWrite 0 (2 ^ 64), .partyEntryWrite 4096 0,
    .partyEntryWrite 0 (2 ^ 64), .streamEntryWrite 65536 0, .streamEntryWrite 0 (2 ^ 64), .ownerMinWrite 4096 0, .ownerMinWrite 0 (2 ^ 64),
    .sacrificeThresholdWrite (2 ^ 64), .twoWordEntryWrite (2 ^ 26) 0, .twoWordEntryWrite 0 (2 ^ 64), .swTableRead (2 ^ 64), .swTableWrite (2 ^ 64),
    .tlTableRead (2 ^ 64), .stTableRead (2 ^ 64), .tableAccessDone 3, .curfewSwitchArm 256 0, .curfewSwitchArm 0 (2 ^ 64), .curfewCancel 256,
    .curfewSwitchover 256, .curfewEntryAdvance 256, .fenceSeen 6144, .claim badFrame, .release badFrame, .tallyUnlistedKind badFrame,
    .operand badFrame, .tallyStep 6144 0, .tallyStep 0 (2 ^ 32), .result badFrame false false, .ack badFrame, .credit badFrame, .resend badFrame,
    .fail badFrame, .dispatch badFrame, .resultAckTimeout 6144 0 0] : List Instr), c.wf = false := by decide +kernel

theorem test_ill_formed_3 : ∀ c ∈ ([
    .resultAckTimeout 0 (2 ^ 32) 0, .resultAckTimeout 0 0 72, .contribResendTimeout 6144 0 0, .contribResendTimeout 0 (2 ^ 32) 0,
    .contribResendTimeout 0 0 72, .tallyCorruption 6144 0 0 0, .tallyCorruption 0 4 0 0, .tallyCorruption 0 0 (2 ^ 32) 0, .tallyCorruption 0 0 0 24,
    .tallyPoolMinWrite 4096 0, .tallyPoolMinWrite 0 (2 ^ 64), .open badFrame, .append badFrame, .appendResume (2 ^ 18), .attend badFrame,
    .assembleWaitExpiry (2 ^ 11) 0 0, .assembleWaitExpiry 0 256 0, .assembleWaitExpiry 0 0 (2 ^ 14), .attendPlace (2 ^ 20), .fork badFrame,
    .park badFrame, .parkToHost (2 ^ 18), .parkToPeer (2 ^ 18), .unpark badFrame, .close badFrame, .closeComplete (2 ^ 18), .roomUnlistedKind badFrame,
    .mirrorOpen badFrame, .mirrorAppend badFrame, .mirrorFork badFrame, .mirrorClose badFrame, .mirrorRoomcopy badFrame, .mirrorAck badFrame,
    .mirrorWaitExpiry (2 ^ 18), .lodgeBook badFrame, .lodgeBooked badFrame, .lodge badFrame, .lodgeAck badFrame, .recallReturn badFrame,
    .recallDiscard badFrame, .recallPage badFrame, .recalled badFrame, .takeoverGo (2 ^ 64), .remirror (2 ^ 64), .evictThresholdWrite (2 ^ 64),
    .areaWrite false (2 ^ 64), .bindWrite 6 0 0, .bindWrite 0 64 0] : List Instr), c.wf = false := by decide +kernel

theorem test_ill_formed_4 : ∀ c ∈ ([
    .bindWrite 0 0 (2 ^ 64), .inbox badFrame, .coreEnableWrite 6 0, .coreEnableWrite 0 (2 ^ 64), .quarantineClear 6 0, .quarantineClear 0 (2 ^ 64),
    .dupMismatch 24, .dupThirdRunDone 24 .noMajority, .residueFail 24 false, .launchFiring 24, .contFiring 24, .wakeFiring 24, .finalRelease 24,
    .dispatchResume 24, .instructionComplete 24 0, .instructionComplete 0 6, .endBundle 24, .setx 24, .madx 24, .bell 24, .bellTickReached 24,
    .fence 24, .fenceDrained 24, .roomld 24, .lcopy 24, .mma 24, .vadd 24, .vmul 24, .vfma 24, .vmax 24, .vmin 24, .vsel 24, .vexp 24, .vrcp 24,
    .vcvt 24, .vred 24, .vmask 24, .histout 24, .xpose 24, .handoff 24, .outbox 24, .operandInstruction 24, .recv 24, .programFault 24 0,
    .programFault 0 256, .activationArm (2 ^ 64), .pairWrite (2 ^ 34) (List.replicate 64 0), .pairWrite 0 [0]] : List Instr), c.wf = false := by decide +kernel

theorem test_ill_formed_5 : ∀ c ∈ ([
    .mergeHoldExpiry (2 ^ 34) [], .interfaceCrcFail 8, .thermalReport 8 0, .thermalReport 0 (2 ^ 16), .thermThresholdWrite (2 ^ 64), .scrubGo (2 ^ 64),
    .repairRow (2 ^ 64), .retireRoom (2 ^ 64), .retireBank (2 ^ 64), .releaseRoom (2 ^ 64), .repairDone [] [2 ^ 34], .stackDown 8,
    .portStageDone 256 ⟨0, 0, 0, [], true, 0⟩, .portStageDone 0 ⟨65536, 0, 0, [], true, 0⟩, .portStageTimeout 256 ⟨0, 0, 0, [], true, 0⟩,
    .portStageTimeout 0 ⟨65536, 0, 0, [], true, 0⟩, .detectRetry 256 false, .status 256 [] 0 0, .status 0 [2 ^ 16] 0 0, .status 0 [] (2 ^ 16) 0,
    .status 0 [] 0 4096, .codewordUncorrectable 256 false, .replayReq 256 0 0, .replayReq 0 4096 0, .replayReq 0 0 16, .replayStart 256 0,
    .replayStart 0 4096, .replayReqRepeat 256, .ackWaitExpiry 256, .serWindowEnd 256 [], .serWindowEnd 0 [2 ^ 32], .laneSignalLoss 256 0,
    .laneSignalLoss 0 16, .laneForm 256 0, .laneForm 0 (2 ^ 16), .laneNarrow 256 0, .laneNarrow 0 (2 ^ 16), .narrowDone 256, .tileFail 4,
    .lanePower 256 0 0, .lanePower 0 3 0, .lanePower 0 0 (2 ^ 64), .laneWake 256, .laneDown 256, .quietRequest 256, .sleepRequest 256,
    .activeRequest 256, .powerStateEntry 256] : List Instr), c.wf = false := by decide +kernel

theorem test_ill_formed_6 : ∀ c ∈ ([
    .wakeTrigger 256, .wakeTickWrite 256 0, .wakeTickWrite 0 (2 ^ 64), .wakeTickReached 256, .wakeDone 256 false, .shutDown 256, .shutdownDone 256,
    .enable 256, .retrain 256, .faultMessage 1024 0 0, .faultMessage 0 256 0, .faultMessage 0 0 (2 ^ 40), .inject (2 ^ 64), .proofGo (2 ^ 64),
    .proofAutoStart 24, .proofSuiteDone 24 none, .proofSuiteDone 0 (some 64), .healthEval [2 ^ 32] 0 [], .healthEval [] 101 [], .stopTickArm (2 ^ 64),
    .snapPut badFrame, .snapDone badFrame, .snapConfirm badFrame, .snapGet badFrame, .snapData badFrame, .snapAck badFrame, .restoreGo (2 ^ 64),
    .cxlLinkUp 16 0, .cxlLinkUp 0 32, .memrd (2 ^ 40), .memwr (2 ^ 40) (List.replicate 64 0) false, .memwr 0 [0] false, .memwrptl (2 ^ 40) [],
    .windowWrite 16 0, .windowWrite 0 (2 ^ 64), .queueConfigWrite 2 0, .queueConfigWrite 0 (2 ^ 64), .msixHoldoffExpiry 2,
    .mailboxUnsupported (2 ^ 16), .getCertificate 256 0 0, .getCertificate 0 (2 ^ 16) 0, .getCertificate 0 0 (2 ^ 16), .challenge 256 [],
    .getMeasurements 256 [], .spdmUnsupportedRequest 256, .doeDiscovery 256, .capModeWrite (2 ^ 64), .powerMeasure 256 0 0 0 0] : List Instr), c.wf = false := by decide +kernel

theorem test_ill_formed_7 : ∀ c ∈ ([
    .powerMeasure 0 (2 ^ 16) 0 0 0, .powerMeasure 0 0 (2 ^ 16) 0 0, .powerMeasure 0 0 0 (2 ^ 16) 0, .powerMeasure 0 0 0 0 (2 ^ 16),
    .clockWrite (2 ^ 64), .hubThermalReport (2 ^ 16) 0 0 0, .hubThermalReport 0 (2 ^ 16) 0 0, .hubThermalReport 0 0 (2 ^ 16) 0,
    .hubThermalReport 0 0 0 56, .tileCalibrationDone 4, .error badFrame, .pairRead (2 ^ 34) [], .pairRead 0 [(36, 1)], .pairRead 0 [(0, 0)],
    .pairRead 0 [(0, 65536)], .pairRead 0 [(3, 1), (3, 2)], .scrubDone [(2 ^ 34, 0)] [] [], .scrubDone [(0, 36)] [] [], .scrubDone [] [2 ^ 34] [],
    .scrubDone [] [] [2 ^ 34]] : List Instr), c.wf = false := by decide +kernel

theorem test_ill_formed_lengths (p : List Byte) (h : 2 ^ 20 ≤ p.length) : ∀ c ∈ ([
    .recoverWrite false 0 p, .ptpMessage 0 0 0 p, .bridgeFrame 0 p false, .memwrptl 0 p, .getEventRecords p, .clearEventRecords p, .getSupportedLogs p,
    .getLog p, .identifyMemoryDevice p, .getPoisonList p, .reset p, .stageItinerary p, .stageComponent p, .updateComponent p, .commit p,
    .getLogEntries p, .stopover p, .readSnapshot p, .getNonce p, .ownerSet p, .serviceClearLedger p, .serviceClearOwner p, .challenge 0 p,
    .getMeasurements 0 p,
    .read { blankFrame with payload := p }] : List Instr), c.wf = false := by
  have h1 : decide (p.length < 2 ^ 20) = false := decide_eq_false (by omega)
  have h2 : decide (p.length < 65536) = false := decide_eq_false (by omega)
  have h3 : decide (p.length < 4097) = false := decide_eq_false (by omega)
  have h4 : decide (p.length < 33) = false := decide_eq_false (by omega)
  have h5 : decide (p.length ≤ 4096) = false := decide_eq_false (by omega)
  simp only [List.forall_mem_cons]
  exact ⟨h3, h2, h2, h3, h1, h1, h1, h1, h1, h1, h1, h1, h1, h1, h1, h1, h1, h1, h1, h1, h1, h1, h4, h4, congrArg (· && true) h5, fun _ h => nomatch h⟩

end Sys2Proof.Tests
end

