-- ==== Sys2Proof/Tests/WitnessAccess.lean ====
section
/-! SUPPORT. For each statement of the group Access: a state and operands that meet the hypotheses of every clause. -/

-- One proof at a time: in the package as one text, proofs run side by side would only wait for one another.
set_option Elab.async false

namespace Sys2Proof.Tests.Access

open Sys2Proof Sys2Proof.Machine

/-- The state the witnesses start from. -/
def base : State := State.reset

def prt (p : Nat) (b : State) : State := ((((b.setReg (LN_PORT_W0 p) (refPortWord p)).setFld (LN_PORT_W2_STATE p) 2).setFld (LN_PORT_W2_V1 p) 0).setFld (LN_PORT_W2_TX_STATE p) 0).setFld SW_FENCE_FENCE 0 |>.setReg (SW_EP_PERM p) 0xF000000000000000
def wr (b : State) : State := (b.modPower fun w => { w with switchClosed := true }).setFld DV_STATE_PHASE 5
def fr (k a : Nat) (pl : List Byte) (b : State) : Frame := { blankFrame with kind := k, vc := 1, tag := 7, srcCoord := b.coord, srcPort := 5, address := a, payload := pl }
def alive (b : State) : State := b.setFld MEM_STATUS_STACK_DOWN 0

/-- States and operands that meet the hypotheses of `Obligations.AccessCompletes`, clause by clause. -/
theorem witness_AccessCompletes :
  (∃ (s : State) (value : Nat), Writable s ∧ 1 ≤ bitsOf value 47 32) ∧
  (∃ (s : State) (value : Nat), Writable s ∧ 1 ≤ bitsOf value 15 0) ∧
  (∃ (s : State) (value : Nat), Writable s ∧ value.testBit 0 = true ∧ value.testBit 1 = false) ∧
  (∃ (s : State) (off size value : Nat), ((size ≠ 4 ∧ size ≠ 8) ∨ off % size ≠ 0 ∨ 2 ^ 26 ≤ off ∨ s.phase = 7 ∨ s.power.switchClosed = false ∧
    s.power.auxOn = false)) ∧
  (∃ (s : State) (f : Frame), Calm s ∧ f.srcCoord = s.coord ∧ f.srcPort < 64 ∧ s.portKind f.srcPort = 1 ∧ s.portUp f.srcPort = true ∧ s.regBit
    SW_FENCE f.srcPort = false ∧ f.kind = 0x01 ∧ s.rackCheck f.srcPort f = some 0 ∧ s.mem.merge = [] ∧ (∀ q ∈ pairsOf f.address (leAt f.payload 0 2),
    s.poisoned q = false ∧ s.stackLost (pairStack q) = false)) ∧
  (∃ (s : State) (f : Frame), Calm s ∧ f.srcCoord = s.coord ∧ f.srcPort < 64 ∧ s.portKind f.srcPort = 1 ∧ s.portUp f.srcPort = true ∧ s.regBit
    SW_FENCE f.srcPort = false ∧ f.kind = 0x01 ∧ s.rackCheck f.srcPort f = some 0 ∧ (∃ q ∈ pairsOf f.address (leAt f.payload 0 2), s.poisoned q = true)) ∧
  (∃ (s : State) (f : Frame), Calm s ∧ f.srcCoord = s.coord ∧ f.srcPort < 64 ∧ s.portKind f.srcPort = 1 ∧ s.portUp f.srcPort = true ∧ s.regBit
    SW_FENCE f.srcPort = false ∧ f.kind = 0x01 ∧ s.rackCheck f.srcPort f = some 1 ∧ leAt f.payload 0 2 = 8 ∧ f.address < 2 ^ 40 + 0x00200000) ∧
  (∃ (s : State) (f : Frame), Calm s ∧ f.srcCoord = s.coord ∧ f.srcPort < 64 ∧ s.portKind f.srcPort = 1 ∧ s.portUp f.srcPort = true ∧ s.regBit
    SW_FENCE f.srcPort = false ∧ f.kind = 0x02 ∧ s.rackCheck f.srcPort f = some 0 ∧ f.address % 64 = 0 ∧ f.payload.length = 64 ∧ s.stackLost (pairStack
    (f.address / 64)) = false) ∧
  (∃ (s : State) (f : Frame), f.kind = 0x03 ∧ s.rackCheck f.srcPort f = some 0 ∧ f.address % 64 = 0 ∧ f.payload.length = 64 ∧ s.stackLost (pairStack
    (f.address / 64)) = false) ∧
  (∃ (s : State) (f : Frame), f.kind = 0x03 ∧ s.rackCheck f.srcPort f = none ∧ s.sw.agentWait = []) :=
  ⟨⟨(wr base), 0xFEDCBA9876543210, by decide +kernel⟩,
   ⟨(wr base), 0xFEDCBA98, by decide +kernel⟩,
   ⟨(wr base), 0xFEDCBA9876543211, by decide +kernel⟩,
   ⟨base, 4, 8, 5, by decide +kernel⟩,
   ⟨(alive (prt 5 base)), (fr 1 (2^31 + 5) (natLE 8 100) base), by decide +kernel⟩,
   ⟨((alive (prt 5 base)).modMem fun m => { m with poison := [(2^25 + 1, true)] }), (fr 1 (2^31 + 5) (natLE 8 100) base), by decide +kernel⟩,
   ⟨(prt 5 base), (fr 1 (2^40 + 8) (natLE 8 8) base), by decide +kernel⟩,
   ⟨(alive (prt 5 base)), (fr 2 (2^31 + 64) (List.replicate 64 9) base), by decide +kernel⟩,
   ⟨(alive (prt 5 base)), (fr 3 (2^31 + 64) (List.replicate 64 9) base), by decide +kernel⟩,
   ⟨(alive (prt 5 base)), (fr 3 5 (List.replicate 64 9) base), by decide +kernel⟩⟩

end Sys2Proof.Tests.Access
end

