-- ==== Sys2Proof/Tests/WitnessAttach.lean ====
section
/-! SUPPORT. For each statement of the group Attach: a state and operands that meet the hypotheses of every clause. -/

-- One proof at a time: in the package as one text, proofs run side by side would only wait for one another.
set_option Elab.async false

namespace Sys2Proof.Tests.Attach

open Sys2Proof Sys2Proof.Machine

/-- The state the witnesses start from. -/
def base : State := State.reset

def pw (b : State) : State := b.modPower fun w => { w with switchClosed := true }
def nt : List Byte := List.replicate 18 7
def nn (l : List (List Byte)) (b : State) : State := (pw b).modStays fun u => { u with notices := l }
def lk (b : State) : State := (((((b.setReg BT_MUSTER_OUT 0).setReg DV_STATE (placed 5 3 0)).setReg MB_LINK_STATUS (placed 3 3 0)).setReg (MB_WINDOW 2) (placed 1 63 63 ||| placed 40000 23 0)).setReg (MB_WINDOW 1) 0).setReg MEM_STATUS 0 |>.modMem fun m => { m with bytes := sparseWrite 0 m.bytes (40003 * 65536 + 640) (List.replicate 70 9), merge := [], poison := [] }
def wo : Nat := 2 * 2 ^ 32 + 3 * 65536 + 645
def wa : Nat := 40003 * 65536 + 640
def da : List Byte := (List.range 64).map (BitVec.ofNat 8)
def ho (o : Bool) (b : State) : State := ((lk b).modHost fun h => { h with holdoff := [none, some 100], owedVector := [false, o] }).modBell fun u => { u with free := 8100 }

/-- States and operands that meet the hypotheses of `Obligations.AttachCompletes`, clause by clause. -/
theorem witness_AttachCompletes :
  (∃ (s : State) (rate width : Nat), s.power.switchClosed = true ∧ 1 ≤ rate ∧ rate ≤ 4 ∧ [1, 2, 4, 8].contains width = true ∧ s.stays.notices = []) ∧
  (∃ (s : State) (rate width : Nat) (n : List Byte), s.power.switchClosed = true ∧ 1 ≤ rate ∧ rate ≤ 4 ∧ [1, 2, 4, 8].contains width = true ∧
    s.stays.notices = [n] ∧ s.flag (MB_QCFG_ENABLE 1) = true ∧ s.qUsed 1 + 1 < s.qSize 1) ∧
  (∃ (s : State) (w a : Nat), s.linkUp = true ∧ s.windowHeld w = false ∧ s.target (w / 64 * 64) = some a ∧ s.mem.merge = [] ∧ s.stackLost (pairStack
    (a / 64)) = false ∧ s.poisoned (a / 64) = false) ∧
  (∃ (s : State) (w a : Nat), s.linkUp = true ∧ s.windowHeld w = false ∧ s.target (w / 64 * 64) = some a ∧ s.mem.merge = [] ∧ (s.stackLost (pairStack
    (a / 64)) = true ∨ s.poisoned (a / 64) = true)) ∧
  (∃ (s : State) (w : Nat), s.linkUp = true ∧ s.windowHeld w = false ∧ s.target (w / 64 * 64) = none) ∧
  (∃ (s : State) (w a : Nat) (data : List Byte), s.linkUp = true ∧ s.windowHeld w = false ∧ s.target (w / 64 * 64) = some a ∧ data.length = 64 ∧
    s.stackLost (pairStack (a / 64)) = false) ∧
  (∃ (s : State) (w a : Nat) (data : List Byte), s.linkUp = true ∧ s.windowHeld w = false ∧ s.target (w / 64 * 64) = some a ∧ s.stackLost (pairStack
    (a / 64)) = false) ∧
  (∃ (s : State) (w : Nat) (data : List Byte) (poison : Bool), s.linkUp = true ∧ s.windowHeld w = false ∧ s.target (w / 64 * 64) = none) ∧
  (∃ (s : State) (w a : Nat) (data : List Byte), s.linkUp = true ∧ s.windowHeld w = false ∧ s.target w = some a ∧ data ≠ [] ∧ data.length ≤ 64 - w %
    64 ∧ s.mem.merge = [] ∧ s.stackLost (pairStack (a / 64)) = false) ∧
  (∃ (s : State) (w : Nat) (data : List Byte), s.linkUp = true ∧ s.windowHeld w = false ∧ s.target w = none ∧ data ≠ []) ∧
  (∃ (s : State) (i value : Nat), i < 16 ∧ s.flag ST_CTRL_ENABLE = false ∧ (value.testBit 63 = false ∨ (32768 ≤ bitsOf value 23 0 ∧ bitsOf value 23 0
    + 65536 ≤ 16777216))) ∧
  (∃ (s : State) (i value : Nat), i < 16 ∧ (s.flag ST_CTRL_ENABLE = true ∨ (value.testBit 63 = true ∧ (bitsOf value 23 0 < 32768 ∨ 16777216 < bitsOf
    value 23 0 + 65536)))) ∧
  (∃ (s : State) (q value : Nat), q < 2 ∧ s.flag (MB_QCFG_ENABLE q) = false ∧ 4 ≤ bitsOf value 3 0 ∧ s.stays.notices = [] ∧ value.testBit 63 = true) ∧
  (∃ (s : State) (q value : Nat), q < 2 ∧ value.testBit 63 = false ∧ bitsOf value 3 0 = s.fld (MB_QCFG_LOG2_ENTRIES q)) ∧
  (∃ (s : State) (q value : Nat), q < 2 ∧ s.flag (MB_QCFG_ENABLE q) = true ∧ 4 ≤ bitsOf value 3 0 ∧ bitsOf value 3 0 ≠ s.fld (MB_QCFG_LOG2_ENTRIES q)) ∧
  (∃ (s : State) (q at_ : Nat), q < 2 ∧ s.host.holdoff.length = 2 ∧ s.host.owedVector.length = 2 ∧ s.host.holdoff.getD q none = some at_ ∧ at_ +
    ticksPerUs ≤ s.free ∧ s.host.owedVector.getD q false = true ∧ s.linkUp = true) ∧
  (∃ (s : State) (q at_ : Nat), q < 2 ∧ s.host.holdoff.length = 2 ∧ s.host.holdoff.getD q none = some at_ ∧ at_ + ticksPerUs ≤ s.free ∧
    s.host.owedVector.getD q false = false) ∧
  (∃ (s : State), s.linkUp = true ∧ s.host.writing = []) ∧
  (∃ (s : State), s.linkUp = true ∧ s.host.writing ≠ []) :=
  ⟨⟨(nn [] base), 3, 8, by decide +kernel⟩,
   ⟨((nn [nt] base).setReg (MB_QCFG 1) (placed 1 63 63 ||| placed 4 3 0) |>.setReg (MB_QTAIL 1) 15 |>.setReg (MB_QHEAD 1) 1), 3, 8, nt, by decide +kernel⟩,
   ⟨(lk base), wo, wa, by decide +kernel⟩,
   ⟨((lk base).modMem fun m => { m with poison := [(wa / 64, true)] }), wo, wa, by decide +kernel⟩,
   ⟨(lk base), (wo - 2 ^ 32), by decide +kernel⟩,
   ⟨(lk base), wo, wa, da, by decide +kernel⟩,
   ⟨(lk base), wo, wa, da, by decide +kernel⟩,
   ⟨(lk base), (wo - 2 ^ 32), da, true, by decide +kernel⟩,
   ⟨(lk base), wo, (wa + 5), [1, 2], by decide +kernel⟩,
   ⟨(lk base), (wo - 2 ^ 32), da, by decide +kernel⟩,
   ⟨(base.setReg ST_CTRL 0), 3, (2 ^ 63 + 16711680), by decide +kernel⟩,
   ⟨(base.setReg ST_CTRL 0), 3, (2 ^ 63 + 16711681), by decide +kernel⟩,
   ⟨(base.setReg (MB_QCFG 1) 9), 1, (2 ^ 63 + 8), by decide +kernel⟩,
   ⟨(base.setReg (MB_QCFG 1) 9), 1, 9, by decide +kernel⟩,
   ⟨(base.setReg (MB_QCFG 1) (placed 1 63 63 ||| 9)), 1, 8, by decide +kernel⟩,
   ⟨((ho true base).setReg (MSIX_CTL 2) 0), 1, 100, by decide +kernel⟩,
   ⟨(ho false base), 1, 100, by decide +kernel⟩,
   ⟨(lk base), by decide +kernel⟩,
   ⟨((lk base).modHost fun h => { h with writing := [.owner none] }), by decide +kernel⟩⟩

end Sys2Proof.Tests.Attach
end

