-- ==== Sys2Proof/Tests/WitnessAttest.lean ====
section
/-! SUPPORT. For each statement of the group Attest: a state and operands that meet the hypotheses of every clause. -/

-- One proof at a time: in the package as one text, proofs run side by side would only wait for one another.
set_option Elab.async false

namespace Sys2Proof.Tests.Attest

open Sys2Proof Sys2Proof.Machine

/-- The state the witnesses start from. -/
def base : State := State.reset

def lk (o : Option Bool) (b : State) : State := (b.setReg MB_LINK_STATUS (placed 3 3 0)).modHost fun h => { h with selected := o }

/-- States and operands that meet the hypotheses of `Obligations.AttestationCompletes`, clause by clause. -/
theorem witness_AttestationCompletes :
  (∃ (s : State), s.linkUp = true) ∧
  (∃ (s : State), s.linkUp = true ∧ s.host.selected ≠ some false) ∧
  (∃ (s : State) (m x : Bool), s.linkUp = true ∧ s.host.selected ≠ some false) ∧
  (∃ (s : State), s.linkUp = true ∧ s.host.selected ≠ some false) ∧
  (∃ (s : State) (b slot off n : Nat) (nonce : List Byte) (c : Instr), s.linkUp = true ∧ s.host.selected ≠ some true ∧ c ∈ [.getDigests,
    .getCertificate slot off n, .challenge slot nonce, .getMeasurements b nonce]) ∧
  (∃ (s : State) (m x : Bool) (code : Nat) (c : Instr), s.linkUp = true ∧ s.host.selected = some false ∧ c ∈ [.getCapabilities, .negotiateAlgorithms m
    x, .spdmUnsupportedRequest code]) ∧
  (∃ (s : State), s.linkUp = true ∧ s.host.selected = some true) ∧
  (∃ (s : State) (off n : Nat), s.linkUp = true ∧ s.host.selected = some true) ∧
  (∃ (s : State) (slot off n : Nat), s.linkUp = true ∧ s.host.selected = some true ∧ slot ≠ 0) ∧
  (∃ (s : State) (nonce : List Byte), s.linkUp = true ∧ s.host.selected = some true ∧ nonce.length = 32) ∧
  (∃ (s : State) (slot : Nat) (nonce : List Byte), s.linkUp = true ∧ s.host.selected = some true ∧ slot ≠ 0) ∧
  (∃ (s : State) (b : Nat) (nonce : List Byte), s.linkUp = true ∧ s.host.selected = some true ∧ 1 ≤ b ∧ b ≤ 8 ∧ nonce.length = 32) ∧
  (∃ (s : State) (nonce : List Byte), s.linkUp = true ∧ s.host.selected = some true ∧ nonce.length = 32) ∧
  (∃ (s : State) (b : Nat) (nonce : List Byte), s.linkUp = true ∧ s.host.selected = some true ∧ (b = 0 ∨ (8 < b ∧ b ≠ 0xFF))) ∧
  (∃ (s : State) (im : Image), s.clusters.active = some im) ∧
  (∃ (s : State) (c : Nat) (d : List Byte), c < 7 ∧ s.host.measured = [(c, d)]) ∧
  (∃ (s : State) (code : Nat), s.linkUp = true ∧ s.host.selected ≠ some false) ∧
  (∃ (s : State), s.linkUp = true) ∧
  (∃ (s : State), s.linkUp = true) ∧
  (∃ (s : State), s.linkUp = true) ∧
  (∃ (s : State), s.linkUp = true) ∧
  (∃ (s : State) (i n : Nat) (nonce : List Byte) (c : Instr), s.linkUp = false ∧ c ∈ [.getVersion, .getCapabilities, .negotiateAlgorithms true true,
    .getDigests, .getCertificate i n n, .challenge i nonce, .getMeasurements i nonce, .spdmUnsupportedRequest n, .doeDiscovery i, .cdatTableAccess]) :=
  ⟨⟨(lk (some true) base), by decide +kernel⟩,
   ⟨(lk none base), by decide +kernel⟩,
   ⟨(lk none base), true, true, by decide +kernel⟩,
   ⟨(lk none base), by decide +kernel⟩,
   ⟨(lk none base), 1, 2, 3, 4, [], .getDigests, by decide +kernel⟩,
   ⟨(lk (some false) base), true, false, 4, .getCapabilities, by decide +kernel⟩,
   ⟨(lk (some true) base), by decide +kernel⟩,
   ⟨(lk (some true) base), 0, 5, by decide +kernel⟩,
   ⟨(lk (some true) base), 10, 5, 6, by decide +kernel⟩,
   ⟨(lk (some true) base), (List.replicate 32 4), by decide +kernel⟩,
   ⟨(lk (some true) base), 3, (List.replicate 32 4), by decide +kernel⟩,
   ⟨(lk (some true) base), 3, (List.replicate 32 4), by decide +kernel⟩,
   ⟨(lk (some true) base), (List.replicate 32 4), by decide +kernel⟩,
   ⟨(lk (some true) base), 9, (List.replicate 32 4), by decide +kernel⟩,
   ⟨(base.modClusters fun u => { u with active := some ⟨77, 2, [], [], [], [9]⟩ }), ⟨77, 2, [], [], [], [9]⟩, by decide +kernel⟩,
   ⟨(base.modHost fun h => { h with measured := [(5, [3])] }), 5, [3], by decide +kernel⟩,
   ⟨(lk none base), 0x55, by decide +kernel⟩,
   ⟨(lk none base), by decide +kernel⟩,
   ⟨(lk none base), by decide +kernel⟩,
   ⟨(lk none base), by decide +kernel⟩,
   ⟨(lk none base), by decide +kernel⟩,
   ⟨(base.setReg MB_LINK_STATUS 0), 1, 2, [], .getDigests, by decide +kernel⟩⟩

end Sys2Proof.Tests.Attest
end

