-- ==== Sys2Proof/Tests/WitnessBell.lean ====
section
/-! SUPPORT. For each statement of the group Bell: a state and operands that meet the hypotheses of every clause. -/

-- One proof at a time: in the package as one text, proofs run side by side would only wait for one another.
set_option Elab.async false

namespace Sys2Proof.Tests.Bell

open Sys2Proof Sys2Proof.Machine

/-- The state the witnesses start from. -/
def base : State := State.reset

def bellOn (b : State) : State := b.setFld BT_STATUS_SET 1
def upTrunk (p : Nat) (b : State) : State := (b.setReg (LN_PORT_W0 p) (refPortWord p)).setFld (LN_PORT_W2_STATE p) 2
def tmsg (k : Nat) (b : State) : Frame := { blankFrame with kind := 0x60, vc := 5, payload := natLE 1 k ++ natLE 1 3 ++ natLE 2 (b.rootCoord + 2048) ++ natLE 4 b.bell.seq ++ natLE 8 1000 ++ natLE 8 2000 ++ natLE 8 3000 }
def thr (b : State) : State := (b.modSw fun w => {w with threaded := true}).setReg (ownerStat (agentOwner 11 5)) 0 |>.setReg (ownerReg (agentOwner 11 5)) (regReset (ownerReg (agentOwner 11 5)))

/-- States and operands that meet the hypotheses of `Obligations.BellTimeCompletes`, clause by clause. -/
theorem witness_BellTimeCompletes :
  (∃ (s : State) (tA d : Nat), 4 ≤ s.phase ∧ s.fld DV_COORD_VALID = 1 ∧ s.isRoot = false ∧ s.bell.parent = some d) ∧
  (∃ (s : State) (dir tB tC : Nat) (f : Frame), dir < 6 ∧ dir < s.bell.dirs.length ∧ s.timingOk f 1 = true ∧ s.bundlePorts dir ≠ [] ∧ (s.takeAgent
    f).claimOk (agentOwner 11 5) 1 = true) ∧
  (∃ (s : State) (dir tB tC : Nat) (f : Frame), dir < 6 ∧ s.timingOk f 1 = false) ∧
  (∃ (s : State) (dir tA tD : Nat) (f : Frame), dir < 6 ∧ dir < s.bell.dirs.length ∧ s.timingOk f 2 = true ∧ s.bell.openExch = some (tA, dir) ∧ leAt
    f.payload 4 4 = s.bell.seq ∧ leAt f.payload 8 8 = tA % 2 ^ 64 ∧ s.isRoot = false ∧ s.bell.parent = some dir) ∧
  (∃ (s : State) (d : Nat), s.bellSet = true ∧ d < 6 ∧ s.bundleUp d = true ∧ (∀ e < d, s.bundleUp e = false) ∧ s.claimOk (agentOwner 11 5) 1 = true) ∧
  (∃ (s : State) (dir tR : Nat) (f : Frame), dir < 6 ∧ dir < s.bell.dirs.length ∧ s.timingOk f 3 = true ∧ s.bellSet = true ∧ s.bell.parent = some dir
    ∧ s.isRoot = false) ∧
  (∃ (s : State) (dir tR : Nat) (f : Frame), dir < 6 ∧ dir < s.bell.dirs.length ∧ s.timingOk f 3 = true ∧ s.bellSet = false ∧ 4 ≤ s.phase ∧
    s.bell.parent = some dir ∧ s.isRoot = false ∧ leAt f.payload 2 2 / 2048 % 4 = 1) ∧
  (∃ (s : State) (w : Nat), s.bell.rootWaitAt = some w ∧ s.isRoot = true ∧ s.bellSet = false ∧ w + 64 * s.interval ≤ s.free ∧ s.bell.rootFrom = none ∧
    s.bestNeighbour = none) ∧
  (∃ (s : State), s.bellSet = true ∧ s.fld BT_STATUS_LOCK = 2 ∧ s.bell.holdAt + 4000000 * s.fld BT_CTRL_HOLD_LIMIT ≤ s.free) ∧
  (∃ (s : State) (d : Nat), s.bell.parent = some d ∧ s.bellSet = true ∧ s.isRoot = false ∧ s.recent (s.dir d).exchAt = true ∧ 0 ≤ (s.dir d).offset) ∧
  (∃ (s : State), (s.bellSet = false ∨ s.bell.parent = none)) ∧
  (∃ (s : State) (port msgType taiNs : Nat) (eth : List Byte), s.portKind port = 3 ∧ s.portUp port = true ∧ s.inHeld port = false ∧ s.isRoot = true ∧
    s.fld BT_ROOT_PTP_SOURCE = 1 ∧ s.fld BT_ROOT_PTP_PORT = port ∧ msgType ≠ 1 ∧ msgType ≠ 2 ∧ msgType ≠ 0xC ∧ msgType ≠ 0xD ∧ s.bell.ptpAcquired =
    false ∧ s.bellSet = true) ∧
  (∃ (s : State) (port msgType taiNs : Nat) (eth : List Byte), s.portKind port = 3 ∧ s.portUp port = true ∧ s.inHeld port = false ∧ (msgType = 1 ∨
    msgType = 2)) :=
  ⟨⟨(((base.setFld DV_STATE_PHASE 5).setFld DV_COORD_VALID 1).setFld BT_STATUS_ROOT 0).modBell (fun u => { u with parent := some 2, answered := false, missed := 3 }), 77, 2, by decide +kernel⟩,
   ⟨(thr (upTrunk 76 base)), 3, 5, 6, (tmsg 1 base), by decide +kernel⟩,
   ⟨base, 3, 5, 6, blankFrame, by decide +kernel⟩,
   ⟨((base.setFld BT_STATUS_ROOT 0).modBell (fun u => { u with parent := some 2, openExch := some (1000, 2) })), 2, 1000, 3900, (tmsg 2 base), by decide +kernel⟩,
   ⟨(thr (bellOn (upTrunk 64 base))), 0, by decide +kernel⟩,
   ⟨((bellOn base).setFld BT_STATUS_ROOT 0).modBell (fun u => { u with parent := some 2 }), 2, 1000, (tmsg 3 base), by decide +kernel⟩,
   ⟨(((base.setFld BT_STATUS_SET 0).setFld BT_STATUS_ROOT 0).setFld DV_STATE_PHASE 5).modBell (fun u => { u with parent := some 2 }), 2, 1000, (tmsg 3 base), by decide +kernel⟩,
   ⟨((base.setFld BT_STATUS_SET 0).setFld BT_STATUS_ROOT 1).modBell (fun u => { u with rootWaitAt := some 0, free := 64 * 2^28 }), 0, by decide +kernel⟩,
   ⟨((bellOn base).setFld BT_STATUS_LOCK 2).modBell (fun u => { u with free := 4000000 * 2^32 }), by decide +kernel⟩,
   ⟨((bellOn base).setFld BT_STATUS_ROOT 0).modBell (fun u => { u with parent := some 2, dirs := u.dirs.set 2 { (default : DirInfo) with lock := 1, offset := 2^22 * 33, exchAt := some u.free } }), 2, by decide +kernel⟩,
   ⟨base, by decide +kernel⟩,
   ⟨((((((bellOn base).setReg (LN_PORT_W0 88) (refPortWord 88)).setFld (LN_PORT_W2_STATE 88) 2).setFld BT_STATUS_ROOT 1).setFld BT_ROOT_PTP_SOURCE 1).setFld BT_ROOT_PTP_PORT 88).setReg BT_MUSTER_OUT 0, 88, 0, 5000, [], by decide +kernel⟩,
   ⟨(((base.setReg (LN_PORT_W0 88) (refPortWord 88)).setFld (LN_PORT_W2_STATE 88) 2).setReg BT_MUSTER_OUT 0), 88, 2, 5000, [], by decide +kernel⟩⟩

/-- States and operands that meet the hypotheses of `Obligations.ChoiceWindowCompletes`, clause by clause. -/
theorem witness_ChoiceWindowCompletes :
  (∃ (s : State) (tick : Nat), s.bellSet = true ∧ s.now + 8000 ≤ tick) ∧
  (∃ (s : State) (tick : Nat), s.bellSet = true ∧ s.now + 8000 ≤ tick) ∧
  (∃ (s : State) (isEnd : Bool) (tick : Nat), (s.bellSet = false ∨ tick < s.now + 8000)) ∧
  (∃ (s : State), s.windowArmed = true ∧ s.bellSet = true ∧ (s.reg BT_RUN_START).toNat ≤ s.now ∧ s.fld BT_STATUS_LOCK = 1) ∧
  (∃ (s : State), s.windowArmed = true ∧ s.bellSet = true ∧ (s.reg BT_RUN_START).toNat ≤ s.now ∧ s.now < (s.reg BT_RUN_END).toNat ∧ s.fld
    BT_STATUS_LOCK ≠ 1) :=
  ⟨⟨(bellOn base), (base.now + 8000), by decide +kernel⟩,
   ⟨(bellOn base), (base.now + 8000), by decide +kernel⟩,
   ⟨(bellOn base), true, (base.now + 7999), by decide +kernel⟩,
   ⟨(((bellOn base).setFld BT_STATUS_LOCK 1).setReg BT_RUN_START 0) |> fun x => { x with windowArmed := true }, by decide +kernel⟩,
   ⟨((((bellOn base).setFld BT_STATUS_LOCK 2).setReg BT_RUN_START 0).setReg BT_RUN_END (-1)) |> fun x => { x with windowArmed := true }, by decide +kernel⟩⟩

end Sys2Proof.Tests.Bell
end

