-- ==== Sys2Proof/Tests/WitnessBringUp.lean ====
section
/-! SUPPORT. For each statement of the group BringUp: a state and operands that meet the hypotheses of every clause. -/

-- One proof at a time: in the package as one text, proofs run side by side would only wait for one another.
set_option Elab.async false

namespace Sys2Proof.Tests.BringUp

open Sys2Proof Sys2Proof.Machine

/-- The state the witnesses start from. -/
def base : State := State.reset

def prt (p : Nat) (st sg : Nat) (b : State) : State := (((b.setReg (LN_PORT_W0 p) (refPortWord p)).setFld (LN_PORT_W2_STATE p) st).setFld (LN_PORT_W2_STAGE p) sg).modPort p (fun c => { c with usable := 15 })
def ok0 : StageFinding := ⟨0,0,0,[0xA5C3004000000000 + 2^40, 0xA5C3104000000000 + 2^40, 0xA5C3204000000000 + 2^40, 0xA5C3304000000000 + 2^40],true,0⟩

/-- States and operands that meet the hypotheses of `Obligations.BringUpCompletes`, clause by clause. -/
theorem witness_BringUpCompletes :
  (∃ (s : State) (p : Nat) (found : StageFinding), p < 256 ∧ s.portKind p ≠ 0 ∧ s.portKind p ≠ 3 ∧ s.fld (LN_PORT_W2_STATE p) = 1 ∧ s.fld
    (LN_PORT_W2_STAGE p) = 1 ∧ found.openMask = 0 ∧ found.shortMask = 0 ∧ (s.port p).usable ≠ 0) ∧
  (∃ (s : State) (p : Nat) (found : StageFinding), p < 256 ∧ s.portKind p ≠ 0 ∧ s.portKind p ≠ 3 ∧ s.fld (LN_PORT_W2_STATE p) = 1 ∧ s.fld
    (LN_PORT_W2_STAGE p) = 4 ∧ found.failedMask = 0 ∧ (s.port p).usable ≠ 0) ∧
  (∃ (s : State) (p : Nat) (found : StageFinding), p < 256 ∧ s.portKind p ≠ 0 ∧ s.portKind p ≠ 3 ∧ s.fld (LN_PORT_W2_STATE p) = 1 ∧ s.fld
    (LN_PORT_W2_STAGE p) = 5 ∧ found.failedMask = 0 ∧ (s.port p).usable ≠ 0) ∧
  (∃ (s : State) (p m : Nat) (found : StageFinding), p < 256 ∧ s.portKind p ≠ 0 ∧ s.portKind p ≠ 3 ∧ s.fld (LN_PORT_W2_STATE p) = 1 ∧ s.fld
    (LN_PORT_W2_STAGE p) = 6 ∧ (s.port p).partner = some m ∧ s.widthOk p ((s.port p).usable &&& m) = true) ∧
  (∃ (s : State) (p : Nat) (found : StageFinding), p < 256 ∧ s.portKind p = 1 ∧ s.fld (LN_PORT_W2_STATE p) = 1 ∧ s.fld (LN_PORT_W2_STAGE p) = 7 ∧
    found.failedMask = 0 ∧ (s.port p).checkBad = false) ∧
  (∃ (s : State) (p b : Nat) (found : StageFinding), s.bundleOf p = some b ∧ s.flag DV_COORD_OPEN_MODE = false ∧ s.fld (LN_PORT_W2_STATE p) = 1 ∧
    s.fld (LN_PORT_W2_STAGE p) = 7 ∧ found.failedMask = 0 ∧ (s.port p).checkBad = false) ∧
  (∃ (s : State) (p b : Nat) (found : StageFinding), s.bundleOf p = some b ∧ s.flag DV_COORD_OPEN_MODE = false ∧ s.fld (LN_PORT_W2_STATE p) = 1 ∧
    s.fld (LN_PORT_W2_STAGE p) = 8 ∧ found.identityOk = true) ∧
  (∃ (s : State) (p b : Nat) (found : StageFinding), s.bundleOf p = some b ∧ s.fld (LN_PORT_W2_STATE p) = 1 ∧ s.fld (LN_PORT_W2_STAGE p) = 8 ∧
    found.identityOk = false ∧ s.severity (0x200 + p) 0x13 < 4) ∧
  (∃ (s : State) (p : Nat) (found : StageFinding), p < 256 ∧ s.portKind p = 3 ∧ s.fld (LN_PORT_W2_STATE p) = 1 ∧ s.fld (LN_PORT_W2_STAGE p) = 5 ∧
    found.openMask = 0 ∧ found.shortMask = 0 ∧ found.failedMask = 0) ∧
  (∃ (s : State) (p : Nat) (found : StageFinding), p < 256 ∧ s.portKind p ≠ 0 ∧ s.portKind p ≠ 3 ∧ s.fld (LN_PORT_W2_STATE p) = 1 ∧ s.fld
    (LN_PORT_W2_STAGE p) = 6 ∧ (s.port p).stageAt + 8000000 ≤ s.free ∧ s.severity (0x200 + p) 0x36 < 4) ∧
  (∃ (s : State) (p : Nat), p < 256 ∧ s.fld (LN_PORT_W2_STATE p) = 4 ∧ s.fld (LN_PORT_W1_ENABLE p) = 1 ∧ s.linksOn = true ∧ (s.port p).stageAt +
    8000000000 ≤ s.free ∧ s.regBit LN_STATUS (s.tileOf p) = false ∧ s.axisShut p = false) ∧
  (∃ (s : State) (p mask : Nat), p < 256 ∧ s.fld (LN_PORT_W2_STATE p) = 1 ∧ s.fld (LN_PORT_W2_STAGE p) = 6) ∧
  (∃ (s : State) (tile : Nat), tile < 4) ∧
  (∃ (s : State) (p : Nat), p < 256 ∧ s.portUp p = true ∧ s.portKind p ≠ 0 ∧ s.linksOn = true) ∧
  (∃ (s : State) (p : Nat), p < 256 ∧ s.portKind p ≠ 0 ∧ s.portKind p ≠ 3 ∧ s.fld (LN_PORT_W2_STATE p) = 3 ∧ s.fld (LN_PORT_W2_EN_PEND p) = 0 ∧
    (s.port p).shutAt.isSome = true ∧ s.shutReady p = true) ∧
  (∃ (s : State) (p : Nat), p < 256 ∧ s.portKind p ≠ 0 ∧ s.fld (LN_PORT_W2_STATE p) = 0 ∧ s.linksOn = true ∧ s.regBit LN_STATUS (s.tileOf p) = false ∧
    s.axisShut p = false) ∧
  (∃ (s : State) (p : Nat), p < 256 ∧ s.portUp p = true ∧ s.portKind p ≠ 0 ∧ s.fld (LN_PORT_W2_EN_PEND p) = 0 ∧ s.linksOn = true) :=
  ⟨⟨(prt 5 1 1 base), 5, ok0, by decide +kernel⟩,
   ⟨(prt 63 1 4 base), 63, ok0, by decide +kernel⟩,
   ⟨(prt 64 1 5 base), 64, ok0, by decide +kernel⟩,
   ⟨((prt 64 1 6 base).modPort 64 (fun c => { c with partner := some 7 })), 64, 7, ok0, by decide +kernel⟩,
   ⟨(prt 5 1 7 base), 5, ok0, by decide +kernel⟩,
   ⟨((prt 64 1 7 base).setFld DV_COORD_OPEN_MODE 0), 64, 0, ok0, by decide +kernel⟩,
   ⟨((prt 64 1 8 base).setFld DV_COORD_OPEN_MODE 0), 64, 0, ok0, by decide +kernel⟩,
   ⟨((prt 87 1 8 base).setReg (WATCH_SEV (0x200 + 87)) 0), 87, 5, { ok0 with identityOk := false }, by decide +kernel⟩,
   ⟨(prt 91 1 5 base), 91, ok0, by decide +kernel⟩,
   ⟨(((prt 64 1 6 base).modBell fun u => {u with free := 8000000}).setReg (WATCH_SEV (0x200 + 64)) 0), 64, ok0, by decide +kernel⟩,
   ⟨((((((prt 5 4 0 base).setFld (LN_PORT_W1_ENABLE 5) 1).modBell fun u => {u with free := 8000000000}).setFld DV_STATE_PHASE 5).setReg LN_STATUS 0)), 5, by decide +kernel⟩,
   ⟨(prt 5 1 6 base), 5, 0xFFFF3, by decide +kernel⟩,
   ⟨base, 2, by decide +kernel⟩,
   ⟨((prt 64 2 0 (prt 5 2 0 base)).setFld DV_STATE_PHASE 8), 64, by decide +kernel⟩,
   ⟨((((prt 64 3 0 base).modPort 64 (fun c => { c with shutAt := some 0 })).setFld (LN_PORT_W2_EN_PEND 64) 0).setFld (LN_PORT_W2_TX_STATE 64) 0), 64, by decide +kernel⟩,
   ⟨(((prt 5 0 0 base).setFld DV_STATE_PHASE 5).setReg LN_STATUS 0), 5, by decide +kernel⟩,
   ⟨(((prt 5 2 0 base).setFld DV_STATE_PHASE 5).setFld (LN_PORT_W2_EN_PEND 5) 0), 5, by decide +kernel⟩⟩

end Sys2Proof.Tests.BringUp
end

