-- ==== Sys2Proof/Tests/WitnessCores.lean ====
section
/-! SUPPORT. For each statement of the group Cores: a state and operands that meet the hypotheses of every clause. -/

-- One proof at a time: in the package as one text, proofs run side by side would only wait for one another.
set_option Elab.async false

namespace Sys2Proof.Tests.Cores

open Sys2Proof Sys2Proof.Machine

/-- The state the witnesses start from. -/
def base : State := State.reset

def seti (c : Nat) (f : Core → Core) (b : State) : State := b.modCore c f
def crd : List Byte := [0, 0, 0, 0, 0, 0] ++ natLE 2 3 ++ natLE 3 2 ++ [0] ++ zeroBytes 20
def at1 : Attend := { (default : Attend) with index := 2, handle := 9, party := 5, rooms := [70000], qHeads := 1, dim := 64, kvHeads := 1, tpr := 256, query := List.replicate 128 7, bph := 1, card := crd }
def pg : Program := ⟨3, 1, 0, 0, 0, [8, 16, 32, 64, 128, 256, 512, 1024]⟩
def ent (bits slot bun : Nat) : Nat × Nat := (bun * 2 ^ 32 + 100, bits + slot * 2 ^ 24)
def bank (ws : List Nat) (es : List (Nat × Nat)) : StoreBank := { bankReset with entries := es, words := ws, period := 5000, descs := [] }
def sl (b : Bool) (ph : Nat) (w : Option Attend) : Slot := { slotReset with used := true, bound := b, program := 3, cls := 0, phase := ph, work := w }
def ld (es : List (Nat × Nat)) (ws : List Nat) (b : State) : State :=
  (((((((((b.setReg BT_MUSTER_OUT 0).setReg DV_STATE (placed 4 3 0)).setReg (CL_CTRL 1) (placed 800 47 32 ||| 0xF)).setReg (CL_QUAR 1) 0).setFld BT_STATUS_SET 1).modBell fun u => { u with now := 4000 }).modClusters fun u => { u with active := some ⟨1, 0, [pg], [], [], []⟩ }).modCore 5 fun k => { k with banks := [bank ws es, bank ws es] }).setReg PH_CLOCK (b.reg PH_CLOCK ||| placed 1 7 0)).modMem fun m => { m with bytes := sparseWrite 0 m.bytes (cardAt 2) crd }
def pl (b : State) : State := ((ld [ent (2 ^ 32 + 2 ^ 37) 3 0] [0] b).modCore 5 fun k => { k with slots := k.slots.set 3 (sl false 0 none) }).modStays fun u => { u with placing := [at1] }
def bd (b : State) : State := b.modCore 5 fun k => { k with slots := k.slots.set 3 { sl true 0 none with binding := some ⟨5, 7, 1, 0⟩ } }
def ib (b : State) : Frame := { blankFrame with kind := 0x18, party := 5, srcCoord := 99 + b.coord, srcPort := 70, dstPort := 0xE1, address := 1 + 4 * 3 + 64 * 100, payload := [1, 2, 3] }
def qm : Queued := ⟨0x20 * 2 ^ 56, 0, List.replicate 16 0, 5, 0⟩
def rm (b : State) : State := ((b.setReg (CL_QUAR 1) 0).setReg (CL_DUP 1) 4).modCore 5 fun k => { k with running := [none, some qm, none, none, none], launch := some (default : Launch) }
def hd (b : State) : State := ((rm b).modCore 5 fun k => { k with dupHold := some 5 }).setReg (WATCH_SEV 0xA5) 0 |>.setReg (WATCH_SEV 0xA4) 0
def r4 (b : State) : State := b.setReg DV_STATE (placed 4 3 0)
def r8 (b : State) : State := (b.setReg DV_STATE (placed 8 3 0)).modCore 5 fun k => { k with launch := some (default : Launch) }
def r6 (b : State) : State := b.setReg DV_STATE (placed 6 3 0)
def fi (kind : Nat) (b : State) : State := ((ld [ent (2 ^ kind) 3 0] [0] b).localWrite 5 (docketAt 3) [1]).modCore 5 fun k => { k with slots := k.slots.set 3 (sl false 1 (some at1)) }
def sqw (w : Nat) (b : State) : State := (ld [] [w, 0] b).modCore 5 fun k => { k with pc := some 0, fired := 3000, xs := [1, 2, 3, 4, 5, 6, 7, 8, 9, 10, 11, 12, 13, 14, 15, 16] }
def wd (op r : Nat) : Nat := op * 2 ^ 56 + 7 * 2 ^ 31 + r
def xw : Nat := 0x40 * 2 ^ 56 + 4 * 2 ^ 52

/-- States and operands that meet the hypotheses of `Obligations.CoreCareCompletes`, clause by clause. -/
theorem witness_CoreCareCompletes :
  (∃ (s : State) (a : Attend) (p : Program) (k tick c n : Nat), s.stays.placing[0]? = some a ∧ s.phase ≠ 6 ∧ s.halted = false ∧ s.bellSet = true ∧
    s.programOf (cardOf a.card) = some p ∧ classFor p a.rooms.length = some k ∧ earliest (s.freeSlots p.number k) = some (tick, c, n) ∧ n < 16 ∧
    CoreThere s c ∧ a.query.length ≤ 65536) ∧
  (∃ (s : State) (pos : Nat), s.stays.placing[pos]? = none) ∧
  (∃ (s : State) (cl n value w0 : Nat), cl < 6 ∧ n < 64 ∧ (sparseGet (s.reg (CL_BIND_W0 cl n)) s.sw.held0 (CL_BIND_W0 cl n)).toNat = w0 ∧ bitsOf w0 33
    0 = 0 ∧ bitsOf value 55 50 = 0 ∧ ((s.core (4 * cl + n / 16)).slots.getD (n % 16) slotReset).bound = true ∧ s.clusters.cores.length = 24) ∧
  (∃ (s : State) (cl n value : Nat), cl < 6 ∧ n < 64 ∧ ((s.core (4 * cl + n / 16)).slots.getD (n % 16) slotReset).bound = false) ∧
  (∃ (s : State) (f : Frame) (c n off : Nat), s.trusted f = true ∧ f.kind = 0x18 ∧ 0xE0 ≤ f.dstPort ∧ f.dstPort ≤ 0xE5 ∧ c = 4 * (f.dstPort - 0xE0) +
    bitsOf f.address 1 0 ∧ n = bitsOf f.address 5 2 ∧ off = bitsOf f.address 27 6 ∧ CoreThere s c ∧ ((s.core c).slots.getD n slotReset).bound = true ∧
    ((s.core c).slots.getD n slotReset).takesParty f.party = true ∧ bitsOf f.address 49 28 = 0 ∧ off + f.payload.length ≤ 204800 ∧ s.others c 0 = []) ∧
  (∃ (s : State) (f : Frame), s.trusted f = true ∧ f.kind = 0x18 ∧ 0xE0 ≤ f.dstPort ∧ f.dstPort ≤ 0xE5 ∧ ((s.core (4 * (f.dstPort - 0xE0) + bitsOf
    f.address 1 0)).slots.getD (bitsOf f.address 5 2) slotReset).bound = false) ∧
  (∃ (s : State) (cl m value : Nat), cl < 6 ∧ m < 4 ∧ value.testBit m = true ∧ (s.core (4 * cl + m)).runs = false) ∧
  (∃ (s : State) (cl m value : Nat), cl < 6 ∧ m < 4 ∧ value.testBit m = true ∧ s.coreOn (4 * cl + m) = false ∧ (s.core (4 * cl + m)).runs = true) ∧
  (∃ (s : State) (cl m value : Nat), cl < 6 ∧ m < 4 ∧ value.testBit m = false) ∧
  (∃ (s : State) (cl m value : Nat), cl < 6 ∧ m < 4 ∧ value.testBit m = true ∧ (s.core (4 * cl + m)).proof = false ∧ (s.roseAt (CL_QUAR
    cl)).toNat.testBit m = false) ∧
  (∃ (s : State) (c : Nat) (q : Queued), CoreThere s c ∧ (s.core c).runningMma = some q ∧ s.duplicated c q = true ∧ (s.core c).dupHold = none ∧
    (s.core c).work.abandoned = false ∧ s.phase ≠ 6 ∧ (s.quarantined (partnerOf c 2) = false ∨ s.quarantined (partnerOf c 3) = false)) ∧
  (∃ (s : State) (c : Nat) (q : Queued), CoreThere s c ∧ (s.core c).runningMma = some q ∧ s.duplicated c q = true ∧ (s.core c).dupHold = none ∧
    (s.core c).work.abandoned = false ∧ s.phase ≠ 6 ∧ s.quarantined (partnerOf c 2) = true ∧ s.quarantined (partnerOf c 3) = true ∧ s.severity (0xA0 +
    c) 0x09 < 4 ∧ s.severity (0xA0 + partnerOf c 1) 0x09 < 4) ∧
  (∃ (s : State) (c : Nat) (q : Queued), CoreThere s c ∧ (s.core c).runningMma = some q ∧ s.phase = 6) ∧
  (∃ (s : State) (c p : Nat), CoreThere s c ∧ (s.core c).dupHold = some p ∧ s.severity (0xA0 + partnerOf c 1) 0x08 < 4) ∧
  (∃ (s : State) (c p : Nat), CoreThere s c ∧ (s.core c).dupHold = some p ∧ s.severity (0xA0 + c) 0x08 < 4) ∧
  (∃ (s : State) (c p : Nat), CoreThere s c ∧ (s.core c).dupHold = some p ∧ s.severity (0xA0 + c) 0x09 < 4 ∧ s.severity (0xA0 + partnerOf c 1) 0x09 <
    4) ∧
  (∃ (s : State) (c : Nat) (q : Queued), CoreThere s c ∧ (s.core c).runningMma = some q ∧ s.severity (0xA0 + c) 0x07 < 4 ∧ s.phase ≠ 6) ∧
  (∃ (s : State) (c : Nat) (q : Queued), CoreThere s c ∧ (s.core c).runningMma = some q ∧ s.severity (0xA0 + c) 0x07 < 4 ∧ s.phase ≠ 6 ∧ s.quarantined
    c = false ∧ s.quarantined (partnerOf c 1) = false ∧ (s.core c).residueAt = none) ∧
  (∃ (s : State) (c : Nat) (ok : Bool) (q : Queued), CoreThere s c ∧ (s.core c).runningMma = some q ∧ s.phase = 6) ∧
  (∃ (s : State) (cl m value : Nat), cl < 6 ∧ m < 4 ∧ value.testBit m = true ∧ s.quarantined (4 * cl + m) = true ∧ (s.roseAt (CL_QUAR
    cl)).toNat.testBit m = true) :=
  ⟨⟨((pl base).modClusters fun u => { u with base := 9000 }), at1, pg, 0, 9100, 5, 3, by decide +kernel⟩,
   ⟨base, 3, by decide +kernel⟩,
   ⟨((bd base).setReg (CL_BIND_W0 1 19) 0x8028000400000000), 1, 19, 0xFF00000000000123, 0x8028000400000000, by decide +kernel⟩,
   ⟨base, 1, 19, 5, by decide +kernel⟩,
   ⟨(bd base), (ib base), 5, 3, 100, by decide +kernel⟩,
   ⟨base, (ib base), by decide +kernel⟩,
   ⟨base, 1, 2, 0x0000000500000004, by decide +kernel⟩,
   ⟨((base.setReg (CL_CTRL 1) 0).modCore 6 fun k => { k with launch := some (default : Launch) }), 1, 2, 0x4, by decide +kernel⟩,
   ⟨base, 1, 2, 0x3, by decide +kernel⟩,
   ⟨{ (base.setReg (CL_QUAR 1) 0xF) with rose := (0, []) }, 1, 2, 0x4, by decide +kernel⟩,
   ⟨((rm base).setReg DV_STATE (placed 4 3 0)), 5, qm, by decide +kernel⟩,
   ⟨(r4 ((((rm base).setReg (CL_QUAR 1) 0xC).setReg (WATCH_SEV 0xA5) 0).setReg (WATCH_SEV 0xA4) 0)), 5, qm, by decide +kernel⟩,
   ⟨(r6 (rm base)), 5, qm, by decide +kernel⟩,
   ⟨(hd base), 5, 5, by decide +kernel⟩,
   ⟨(hd base), 5, 5, by decide +kernel⟩,
   ⟨(hd base), 5, 5, by decide +kernel⟩,
   ⟨(r4 (hd base)), 5, qm, by decide +kernel⟩,
   ⟨(r4 (hd base)), 5, qm, by decide +kernel⟩,
   ⟨(r6 (rm base)), 5, true, qm, by decide +kernel⟩,
   ⟨({ (base.setReg (CL_QUAR 1) 0) with rose := (0, []) }.setReg (CL_QUAR 1) 0xF), 1, 2, 0x4, by decide +kernel⟩⟩

/-- States and operands that meet the hypotheses of `Obligations.SequencersComplete`, clause by clause. -/
theorem witness_SequencersComplete :
  (∃ (s : State) (c tick : Nat) (e : Nat × Nat) (a : Attend), CoreThere s c ∧ (s.core c).finalDue = false ∧ (s.core c).oldWork = false ∧ s.nextFiring
    c 32 = some (e, tick) ∧ s.quarantined c = false ∧ (s.core c).idle = true ∧ s.coreOn c = true ∧ s.halted = false ∧ (s.core c).rep = 0 ∧ ((s.core
    c).slots.getD (entSlot e) slotReset).bound = false ∧ ((s.core c).slots.getD (entSlot e) slotReset).phase = 1 ∧ ((s.core c).slots.getD (entSlot e)
    slotReset).work = some a ∧ s.docketValid c (entSlot e) = true ∧ StopsAt (s.core c) (s.core c).front (entBundle e)) ∧
  (∃ (s : State) (c tick : Nat) (e : Nat × Nat), CoreThere s c ∧ (s.core c).finalDue = false ∧ (s.core c).oldWork = false ∧ s.nextFiring c 32 = some
    (e, tick) ∧ s.quarantined c = true ∧ (s.core c).rep = 0) ∧
  (∃ (s : State) (c tick : Nat) (e : Nat × Nat), CoreThere s c ∧ s.nextFiring c 33 = some (e, tick) ∧ s.quarantined c = false ∧ s.halted = false ∧
    StopsAt (s.core c) (s.core c).front (entBundle e)) ∧
  (∃ (s : State) (c tick : Nat) (e : Nat × Nat), CoreThere s c ∧ s.nextFiring c 33 = some (e, tick) ∧ s.quarantined c = false ∧ s.phase = 8 ∧ StopsAt
    (s.core c) (s.core c).front (entBundle e)) ∧
  (∃ (s : State) (c tick : Nat) (e : Nat × Nat), CoreThere s c ∧ (s.core c).finalDue = false ∧ (s.core c).oldWork = false ∧ s.nextFiring c 35 = some
    (e, tick) ∧ s.quarantined c = false) ∧
  (∃ (s : State) (c : Nat), CoreThere s c ∧ (s.core c).finalDue = true ∧ ((s.core c).slots.getD ((s.core c).xs.getD 0 0) slotReset).bound = false) ∧
  (∃ (s : State) (c : Nat), Calm s ∧ (s.core c).finalDue = false) ∧
  (∃ (s : State) (c w : Nat), AtWord s c 0x01 w) ∧
  (∃ (s : State) (c w : Nat), AtWord s c 0x02 w ∧ bitsOf w 30 27 < (s.core c).xs.length) ∧
  (∃ (s : State) (c w : Nat), AtWord s c 0x03 w ∧ bitsOf w 30 27 < (s.core c).xs.length) ∧
  (∃ (s : State) (c w : Nat), AtWord s c 0x04 w ∧ s.now < (s.core c).fired + bitsOf w 26 0) ∧
  (∃ (s : State) (c w : Nat), AtWord s c 0x04 w ∧ (s.core c).fired + bitsOf w 26 0 ≤ s.now) ∧
  (∃ (s : State) (c tick : Nat), CoreThere s c ∧ (s.core c).hold = .untilTick tick ∧ tick ≤ s.now ∧ s.phase ≠ 6 ∧ (s.core c).pc = none) ∧
  (∃ (s : State) (c w : Nat), AtWord s c 0x05 w ∧ (s.core c).idle = true) ∧
  (∃ (s : State) (c w : Nat), AtWord s c 0x05 w ∧ (s.core c).idle = false) ∧
  (∃ (s : State) (c : Nat), CoreThere s c ∧ (s.core c).hold = .drain ∧ (s.core c).idle = true ∧ s.phase ≠ 6 ∧ (s.core c).pc = none) ∧
  (∃ (s : State) (c p u w : Nat), CoreThere s c ∧ (s.core c).hold = .queueFull ∧ s.phase ≠ 6 ∧ (s.core c).pc = some p ∧ ((s.core c).banks.getD (s.core
    c).runBank bankReset).words.getD p 0 = w ∧ bitsOf w 55 52 = u ∧ 1 ≤ u ∧ u ≤ 5 ∧ u ≠ 3 ∧ ((s.core c).queues.getD (u - 1) []).length < 256 ∧ StopsAt
    (s.core c) (s.core c).runBank (p + 1) ∧ (s.core c).dispatchFault ((s.core c).banks.getD (s.core c).runBank bankReset) ⟨w, 0, (s.core c).xs, (s.core
    c).products, (s.core c).runBank⟩ = none) :=
  ⟨⟨(fi 32 base), 5, 100, (ent (2 ^ 32) 3 0), at1, by decide +kernel⟩,
   ⟨((fi 32 base).setReg (CL_QUAR 1) 2), 5, 100, (ent (2 ^ 32) 3 0), by decide +kernel⟩,
   ⟨(fi 33 base), 5, 100, (ent (2 ^ 33) 3 0), by decide +kernel⟩,
   ⟨(r8 (fi 33 base)), 5, 100, (ent (2 ^ 33) 3 0), by decide +kernel⟩,
   ⟨(fi 35 base), 5, 100, (ent (2 ^ 35) 3 0), by decide +kernel⟩,
   ⟨((fi 35 base).modCore 5 fun k => { k with flags := 2 ^ 34 + 2 ^ 36, xs := k.xs.set 0 3, slots := k.slots.set 3 (sl false 2 (some at1)) }), 5, by decide +kernel⟩,
   ⟨base, 5, by decide +kernel⟩,
   ⟨(sqw (wd 1 0) base), 5, (wd 1 0), by decide +kernel⟩,
   ⟨(sqw (wd 2 (12 * 2 ^ 27 + 77)) base), 5, (wd 2 (12 * 2 ^ 27 + 77)), by decide +kernel⟩,
   ⟨(sqw (wd 3 (12 * 2 ^ 27 + 3 * 2 ^ 23 + 4 * 2 ^ 19 + 77)) base), 5, (wd 3 (12 * 2 ^ 27 + 3 * 2 ^ 23 + 4 * 2 ^ 19 + 77)), by decide +kernel⟩,
   ⟨(sqw (wd 4 2000) base), 5, (wd 4 2000), by decide +kernel⟩,
   ⟨(sqw (wd 4 20) base), 5, (wd 4 20), by decide +kernel⟩,
   ⟨((sqw 0 base).modCore 5 fun k => { k with hold := .untilTick 4000, pc := none }), 5, 4000, by decide +kernel⟩,
   ⟨(sqw (wd 5 0) base), 5, (wd 5 0), by decide +kernel⟩,
   ⟨((sqw (wd 5 0) base).modCore 5 fun k => { k with running := [some qm, none, none, none, none] }), 5, (wd 5 0), by decide +kernel⟩,
   ⟨((sqw 0 base).modCore 5 fun k => { k with hold := .drain, pc := none }), 5, by decide +kernel⟩,
   ⟨((sqw xw base).modCore 5 fun k => { k with hold := .queueFull }), 5, 0, 4, xw, by decide +kernel⟩⟩

end Sys2Proof.Tests.Cores
end

