-- ==== Sys2Proof/Tests/WitnessImages.lean ====
section
/-! SUPPORT. For each statement of the group Images: a state and operands that meet the hypotheses of every clause. -/

-- One proof at a time: in the package as one text, proofs run side by side would only wait for one another.
set_option Elab.async false

namespace Sys2Proof.Tests.Images

open Sys2Proof Sys2Proof.Machine

/-- The state the witnesses start from. -/
def base : State := State.reset

def im0 : Image := ⟨77, 2, [], [], [], [9]⟩
def co (b : State) (f : Core → Core) : State := b.modClusters fun u => { u with cores := u.cores.map f }
def cl (b : State) (f : Clusters → Clusters) : State := b.modClusters f
def tk (n : Nat) (b : State) : State := (b.setReg BT_STATUS (placed 1 3 3)).modBell fun u => { u with now := n }
def hx (v : Verdict) (b : State) : State := b.modHost fun h => { h with verifying := some v }
def wq (n : Nat) (b : State) : State := { b with watch := ⟨List.replicate n (0xFFFF, 3), 0, 0⟩ }
def sv (b : State) : State := b.setReg (WATCH_SEV 0x3FE) 0 |>.setReg (WATCH_SEV 3) 0 |>.setReg (WATCH_SEV 4) 12 |>.setReg (WATCH_SEV 0x301) 0 |>.setReg (WATCH_SEV 0xA3) 0
def ph (n : Nat) (b : State) : State := (sv b).setReg DV_STATE (placed n 3 0) |>.setReg PH_STOP_STATUS 0
def pz (b : State) : State := (List.range 256).foldl (fun s p => s.setFld (LN_PORT_W2_STATE p) 0) b
def m3 : Word × Nat := (faultWord 3 4 5 6, 99)
def rg (b : State) : State := { b with watch := ⟨[m3, m3], 0, 0⟩ }
def rh (b : State) : State := { b with watch := ⟨[(faultWord 3 1 1 6, 99)], 0, 0⟩ }
def qz (b : State) : State := co ((b.setReg (CL_QUAR 0) 15).setFld MB_BOOT_STATUS_STAGE 3 |>.modPower fun u => { u with released := true }) fun k => { k with proof := false }
def hc (b : State) : State := sv ((b.setReg PH_HEALTH_CTRL (placed 5 63 48 ||| placed 10 47 40 ||| placed 3 39 24 ||| placed 10 15 8 ||| placed 100 7 0)).modHealth fun h => { h with crossed := false })
def we (n : Nat) (b : State) : State := { (sv b) with watch := ⟨[m3], 7, n⟩, bell := { b.bell with free := 5, now := 5 } }

/-- States and operands that meet the hypotheses of `Obligations.ImagesComplete`, clause by clause. -/
theorem witness_ImagesComplete :
  (∃ (s : State), s.flag DV_ITIN_STATUS_BUSY = false ∧ s.flag DV_ITIN_STATUS_PENDING = false ∧ s.clusters.cores.any (·.oldWork) = false) ∧
  (∃ (s : State), (s.flag DV_ITIN_STATUS_BUSY = true ∨ s.flag DV_ITIN_STATUS_PENDING = true)) ∧
  (∃ (s : State) (code : Nat), s.host.verifying = some (.fails code []) ∧ code < 256) ∧
  (∃ (s : State) (code : Nat) (banks : List StoreBank), s.host.verifying = some (.fails code banks) ∧ code < 256 ∧ banks.length =
    s.clusters.cores.length ∧ (∀ k ∈ s.clusters.cores, k.banks.length = 2 ∧ k.front < 2)) ∧
  (∃ (s : State) (im : Image) (banks : List StoreBank), s.host.verifying = some (.passes im banks) ∧ banks.length = s.clusters.cores.length ∧ (∀ k ∈
    s.clusters.cores, k.banks.length = 2 ∧ k.front < 2)) ∧
  (∃ (s : State) (im : Image) (tick : Nat), s.armCode tick = 0 ∧ s.clusters.staged = some im ∧ im.curfews = [] ∧ tick < 2 ^ 64) ∧
  (∃ (s : State) (tick : Nat), s.armCode tick ≠ 0) ∧
  (∃ (s : State) (tick : Nat), (s.bellSet = false ∨ tick < s.now + 8000)) ∧
  (∃ (s : State) (tick : Nat), s.tickAhead tick = true ∧ tick % 32 ≠ 0) ∧
  (∃ (s : State) (tick : Nat), s.tickAhead tick = true ∧ tick % 32 = 0 ∧ s.flag DV_ITIN_STATUS_STAGED_OK = false) ∧
  (∃ (s : State) (im : Image) (tick : Nat), s.clusters.armed = some tick ∧ s.tickAhead tick = true ∧ s.clusters.staged = some im ∧ im.curfews = []) ∧
  (∃ (s : State) (tick : Nat), s.clusters.armed = some tick ∧ s.tickAhead tick = false) ∧
  (∃ (s : State) (im : Image) (tick : Nat), s.clusters.armed = some tick ∧ s.clusters.staged = some im ∧ s.bellSet = true ∧ tick ≤ s.now ∧
    s.clusters.cores.length = 24 ∧ s.sw.agentWait = [] ∧ (∀ k ∈ s.clusters.cores, k.oldWork = false ∧ k.launch = none ∧ k.dispatched = true ∧ k.idle =
    true)) ∧
  (∃ (s : State) (tick : Nat), s.clusters.armed = some tick ∧ s.now < tick) :=
  ⟨⟨(base.setReg DV_ITIN_STATUS 0), by decide +kernel⟩,
   ⟨(base.setReg DV_ITIN_STATUS 1), by decide +kernel⟩,
   ⟨(hx (.fails 7 []) base), 7, by decide +kernel⟩,
   ⟨(hx (.fails 12 (List.replicate 24 { bankReset with period := 32 })) base), 12, (List.replicate 24 { bankReset with period := 32 }), by decide +kernel⟩,
   ⟨(hx (.passes im0 (List.replicate 24 { bankReset with period := 32 })) base), im0, (List.replicate 24 { bankReset with period := 32 }), by decide +kernel⟩,
   ⟨(cl ((tk 100 base).setReg DV_ITIN_STATUS 2) fun u => { u with staged := some im0 }), im0, 16000, by decide +kernel⟩,
   ⟨(cl ((tk 100 base).setReg DV_ITIN_STATUS 2) fun u => { u with staged := some im0 }), 16001, by decide +kernel⟩,
   ⟨(tk 100 base), 8099, by decide +kernel⟩,
   ⟨(tk 100 base), 8101, by decide +kernel⟩,
   ⟨((tk 100 base).setReg DV_ITIN_STATUS 0), 8128, by decide +kernel⟩,
   ⟨(cl (tk 100 base) fun u => { u with staged := some im0, armed := some 9000 }), im0, 9000, by decide +kernel⟩,
   ⟨(cl (tk 100 base) fun u => { u with staged := some im0, armed := some 90 }), 90, by decide +kernel⟩,
   ⟨(cl (tk 100 base) fun u => { u with staged := some im0, armed := some 90 }), im0, 90, by decide +kernel⟩,
   ⟨(cl (tk 100 base) fun u => { u with staged := some im0, armed := some 9000 }), 9000, by decide +kernel⟩⟩

/-- States and operands that meet the hypotheses of `Obligations.WatchCompletes`, clause by clause. -/
theorem witness_WatchCompletes :
  (∃ (s : State) (source kind address : Nat), sourceListed source = true ∧ faultKindListed kind = true ∧ address < 2 ^ 40 ∧ s.severity source kind < 4
    ∧ s.sw.agentWait = []) ∧
  (∃ (s : State) (source kind address : Nat), sourceListed source = true ∧ faultKindListed kind = true ∧ address < 2 ^ 40 ∧ s.severity source kind = 4
    ∧ s.phase ≠ 0 ∧ s.phase ≠ 7 ∧ s.phase ≠ 8 ∧ s.fld PH_STOP_STATUS_STATE < 2 ∧ s.tally.ctxs = [] ∧ s.sw.agentWait = []) ∧
  (∃ (s : State) (source kind address : Nat), sourceListed source = true ∧ faultKindListed kind = true ∧ address < 2 ^ 40 ∧ s.severity source kind = 5
    ∧ s.phase ≠ 0 ∧ s.phase ≠ 7 ∧ s.fld PH_STOP_STATUS_STATE < 2 ∧ (∀ p < 256, s.fld (LN_PORT_W2_STATE p) = 0) ∧ s.tally.ctxs = [] ∧ s.sw.agentWait =
    []) ∧
  (∃ (s : State) (source kind address : Nat), (sourceListed source = false ∨ faultKindListed kind = false)) ∧
  (∃ (s : State) (address : Nat), s.severity 0x060 0x05 < 4) ∧
  (∃ (s : State) (m : Word × Nat) (rest : List (Word × Nat)), s.watch.queue = m :: rest ∧ bitsOf m.1.toNat 47 45 < s.fld WATCH_CTRL_NOTIFY_MIN) ∧
  (∃ (s : State) (m : Word × Nat) (rest : List (Word × Nat)), s.watch.queue = m :: rest ∧ s.fld WATCH_CTRL_NOTIFY_MIN ≤ bitsOf m.1.toNat 47 45 ∧
    s.linkUp = false) ∧
  (∃ (s : State) (m : Word × Nat) (rest : List (Word × Nat)), s.watch.queue = m :: rest ∧ s.fld WATCH_CTRL_NOTIFY_MIN ≤ bitsOf m.1.toNat 47 45 ∧
    s.qReady 0 = true) ∧
  (∃ (s : State) (value : Nat), value.testBit 63 = true ∧ s.severity 0x3FE (bitsOf value 53 48) < 4) ∧
  (∃ (s : State) (value : Nat), value.testBit 63 = true ∧ 4 ≤ s.severity 0x3FE (bitsOf value 53 48)) ∧
  (∃ (s : State) (value : Nat), s.clusters.cores.length = 24 ∧ value.testBit 63 = true ∧ bitsOf value 23 0 ≠ 0 ∧ (∀ c < 24, value.testBit c = true →
    s.proofable c = true)) ∧
  (∃ (s : State) (value c : Nat), value.testBit 63 = true ∧ c < 24 ∧ value.testBit c = true ∧ s.proofable c = false) ∧
  (∃ (s : State) (c : Nat), c < 24 ∧ s.clusters.cores.length = 24 ∧ s.flag PH_PROOF_CTRL_AUTO_RUN = true ∧ s.quarantined c = true ∧ (s.core c).idle =
    true ∧ (s.core c).proof = false ∧ (s.core c).proofed = false ∧ s.proofReady = true) ∧
  (∃ (s : State) (c : Nat), (s.flag PH_PROOF_CTRL_AUTO_RUN = false ∨ s.quarantined c = false ∨ (s.core c).proofed = true)) ∧
  (∃ (s : State) (c : Nat), c < 24 ∧ s.clusters.cores.length = 24 ∧ (s.core c).proof = true) ∧
  (∃ (s : State) (c failing : Nat), c < 24 ∧ s.clusters.cores.length = 24 ∧ (s.core c).proof = true ∧ s.severity (0xA0 + c) 0x0A < 4) ∧
  (∃ (s : State) (ages : List Nat) (eyeLoss : Nat), ages.length ≤ 56 ∧ (∀ a ∈ ages, a < 2 ^ 20) ∧ 0 < s.fld PH_HEALTH_CTRL_RO_LIMIT ∧ 0 < s.fld
    PH_HEALTH_CTRL_EYE_LOSS ∧ s.flag PH_HEALTH_CTRL_AUTO_STOP = false ∧ s.severity 0x301 0x38 < 4) ∧
  (∃ (s : State) (eyeLoss : Nat), 0 < s.fld PH_HEALTH_CTRL_EYE_LOSS ∧ s.fld PH_HEALTH_CTRL_EYE_LOSS ≤ eyeLoss ∧ s.flag PH_HEALTH_CTRL_AUTO_STOP = true
    ∧ s.severity 0x301 0x38 < 4 ∧ s.health.crossed = false ∧ s.phase = 5 ∧ s.stackLost 0 = false ∧ s.fld PH_STOP_STATUS_STATE < 2) ∧
  (∃ (s : State), s.host.flash.history.length < 6) ∧
  (∃ (s : State), s.host.flash.history.length = 30) ∧
  (∃ (s : State) (m : Word × Nat) (source kind address : Nat), sourceListed source = true ∧ faultKindListed kind = true ∧ address < 2 ^ 40 ∧
    s.severity source kind < 4 ∧ s.sw.agentWait = [] ∧ s.watch = { queue := [m], edge := s.edgeFrom s.free, taken := 1 }) ∧
  (∃ (s : State), s.watch.edge = s.edgeFrom s.free ∧ s.watch.taken = 4) :=
  ⟨⟨(sv base), 3, 0x0A, 0x1234, by decide +kernel⟩,
   ⟨(ph 4 base), 4, 0x0A, 0x1234, by decide +kernel⟩,
   ⟨((pz (ph 4 base)).modTally fun u => { u with ctxs := [] }), 3, 0x02, 0x1234, by decide +kernel⟩,
   ⟨base, 0x38, 2, 0x1234, by decide +kernel⟩,
   ⟨(base.setReg (WATCH_SEV 0x60) 0), 0x1234, by decide +kernel⟩,
   ⟨((rh base).setReg WATCH_CTRL 4), (faultWord 3 1 1 6, 99), [], by decide +kernel⟩,
   ⟨((rg base).setReg WATCH_CTRL 4 |>.setReg MB_LINK_STATUS 0), m3, [m3], by decide +kernel⟩,
   ⟨((rg base).setReg WATCH_CTRL 4 |>.setFld MB_LINK_STATUS_RATE 3 |>.setFld (MB_QCFG_ENABLE 0) 1 |>.setFld (MB_QCFG_LOG2_ENTRIES 0) 8 |>.setReg (MB_QTAIL 0) 255 |>.setReg (MB_QHEAD 0) 3), m3, [m3], by decide +kernel⟩,
   ⟨(sv base), (2 ^ 63 + 0x0A * 2 ^ 48 + 9), by decide +kernel⟩,
   ⟨(sv base), (2 ^ 63 + 0x03 * 2 ^ 48 + 9), by decide +kernel⟩,
   ⟨(qz base), (2 ^ 63 + 5), by decide +kernel⟩,
   ⟨(co base fun k => { k with proof := true }), (2 ^ 63 + 5), 2, by decide +kernel⟩,
   ⟨((qz base).setFld PH_PROOF_CTRL_AUTO_RUN 1 |>.setFld MB_BOOT_STATUS_STAGE 3), 3, by decide +kernel⟩,
   ⟨((qz base).setFld PH_PROOF_CTRL_AUTO_RUN 0), 3, by decide +kernel⟩,
   ⟨((co base fun k => { k with proof := true }).setFld PH_PROOF_CTRL_AUTO_RETURN 1), 3, by decide +kernel⟩,
   ⟨(sv (co base fun k => { k with proof := true })), 3, 9, by decide +kernel⟩,
   ⟨(hc base), [7, 300, 0x87], 5, by decide +kernel⟩,
   ⟨(((ph 5 (hc base)).setFld PH_HEALTH_CTRL_AUTO_STOP 1).setReg MEM_STATUS 0), 11, by decide +kernel⟩,
   ⟨(base.modHost fun h => { h with flash := { h.flash with history := [1, 2] } }), by decide +kernel⟩,
   ⟨(base.modHost fun h => { h with flash := { h.flash with history := List.replicate 30 4 } }), by decide +kernel⟩,
   ⟨(we 1 base), m3, 2, 0x0A, 0x1234, by decide +kernel⟩,
   ⟨(we 4 base), by decide +kernel⟩⟩

end Sys2Proof.Tests.Images
end

