-- ==== Sys2Proof/Tests/WitnessLink.lean ====
section
/-! SUPPORT. For each statement of the group Link: a state and operands that meet the hypotheses of every clause. -/

-- One proof at a time: in the package as one text, proofs run side by side would only wait for one another.
set_option Elab.async false

namespace Sys2Proof.Tests.Link

open Sys2Proof Sys2Proof.Machine

/-- The state the witnesses start from. -/
def base : State := State.reset

def prt (p : Nat) (b : State) : State := ((((b.setReg (LN_PORT_W0 p) (refPortWord p)).setFld (LN_PORT_W2_STATE p) 2).setFld (LN_PORT_W2_V1 p) 0).setFld (LN_PORT_W2_ACTIVE p) 15).modPort p (fun c => { c with usable := 15 })

/-- States and operands that meet the hypotheses of `Obligations.LinkCompletes`, clause by clause. -/
theorem witness_LinkCompletes :
  (∃ (s : State) (p detour ack : Nat) (credits : List Nat), p < 256 ∧ s.portKind p ≠ 3 ∧ s.portUp p = true ∧ credits.length = 12) ∧
  (∃ (s : State) (p detour ack : Nat) (credits : List Nat), p < 256 ∧ s.portKind p ≠ 3 ∧ s.portUp p = true ∧ 0 < (ack % 4096 + 4096 - (s.port
    p).oldest) % 4096 ∧ (ack % 4096 + 4096 - (s.port p).oldest) % 4096 < 2048 ∧ (ack % 4096 + 4096 - (s.port p).oldest) % 4096 ≤ min (s.port p).stored
    (s.storeCap p)) ∧
  (∃ (s : State) (p : Nat), p < 256 ∧ s.portUp p = true ∧ s.portKind p ∈ [1, 2, 4]) ∧
  (∃ (s : State) (p : Nat), p < 256 ∧ s.portUp p = true ∧ s.portKind p ∈ [1, 2, 4] ∧ (s.port p).waiting = false ∧ (s.port p).asked = none ∧ 1 < s.fld
    LN_CTRL_RETRY_MAX) ∧
  (∃ (s : State) (p seq slot : Nat), p < 256 ∧ s.portUp p = true ∧ s.portKind p ≠ 3 ∧ slot < 10 ∧ s.replayingAt p (seq % 4096) = false ∧ (s.port
    p).narrowing = none ∧ (s.port p).holds seq = true) ∧
  (∃ (s : State) (p seq slot : Nat), p < 256 ∧ s.portUp p = true ∧ s.portKind p ≠ 3 ∧ slot < 10 ∧ s.replayingAt p (seq % 4096) = false ∧ (s.port
    p).narrowing.isSome = true) ∧
  (∃ (s : State) (p seq l at_ n : Nat), p < 256 ∧ (s.port p).waiting = true ∧ (s.port p).asked = some (seq % 4096, l, at_, n)) ∧
  (∃ (s : State) (p q l at_ n : Nat), p < 256 ∧ s.portUp p = true ∧ (s.port p).waiting = true ∧ (s.port p).asked = some (q, l, at_, n) ∧ at_ + 800 *
    s.fld LN_CTRL_ACK_WAIT ≤ s.free ∧ n + 1 < s.fld LN_CTRL_RETRY_MAX) ∧
  (∃ (s : State) (p : Nat), p < 256 ∧ (s.portUp p = true ∨ s.fld (LN_PORT_W2_STATE p) = 3) ∧ (s.port p).store ≠ [] ∧ (s.port p).ackAt + 800 * s.fld
    LN_CTRL_ACK_WAIT ≤ s.free) ∧
  (∃ (s : State) (p : Nat) (corrected : List Nat), p < 256 ∧ s.portUp p = true ∧ s.portKind p ≠ 0 ∧ (∀ k ∈ s.activeLanes p, corrected.getD k 0 ≤ 16 *
    s.fld LN_CTRL_SER_LIMIT)) ∧
  (∃ (s : State) (p k : Nat), p < 256 ∧ s.portUp p = true ∧ s.fld (LN_PORT_W2_RX_STATE p) = 0 ∧ k ∈ s.activeLanes p) ∧
  (∃ (s : State) (p mask : Nat), p < 256 ∧ s.portUp p = true ∧ s.portKind p ≠ 3 ∧ s.flag (LN_PORT_W2_V1 p) = false ∧ (s.port p).narrowing = none ∧
    s.atRest p = false ∧ s.widthOk p ((s.port p).usable &&& ((s.port p).partner.getD (s.fullMask p) &&& s.partnerMask p mask)) = true) ∧
  (∃ (s : State) (p : Nat), p < 256 ∧ (s.port p).narrowing.isSome = true ∧ (s.port p).heldReq = none) ∧
  (∃ (s : State) (p : Nat), p < 256 ∧ s.portUp p = true ∧ s.portKind p ≠ 3) :=
  ⟨⟨((prt 5 base).modSw fun w => { w with txCum := [(80, 65000)], txCredit := [(80, 7)] }), 5, 3, 4, [100,2,3,4,5,6,7,8,9,10,11,12], by decide +kernel⟩,
   ⟨((prt 5 base).modPort 5 (fun c => { c with store := [(4095, 3, blankFrame, false), (2, 1, blankFrame, false)], txSeq := 3 })), 5, 3, 2, [], by decide +kernel⟩,
   ⟨(prt 64 base), 64, by decide +kernel⟩,
   ⟨((prt 64 base).setFld LN_CTRL_RETRY_MAX 2), 64, by decide +kernel⟩,
   ⟨((prt 5 base).modPort 5 (fun c => { c with store := [(4095, 3, blankFrame, false), (2, 1, blankFrame, false)], txSeq := 3 })), 5, 0, 0, by decide +kernel⟩,
   ⟨((prt 5 base).modPort 5 (fun c => { c with narrowing := some 3 })), 5, 0, 9, by decide +kernel⟩,
   ⟨((prt 5 base).modPort 5 (fun c => { c with waiting := true, asked := some (7, 1, 2, 3) })), 5, (7 + 4096), 1, 2, 3, by decide +kernel⟩,
   ⟨((((prt 5 base).modPort 5 (fun c => { c with waiting := true, asked := some (7, 1, 2, 3) })).modBell fun u => { u with free := 204000 }).setFld LN_CTRL_RETRY_MAX 5), 5, 7, 1, 2, 3, by decide +kernel⟩,
   ⟨(((prt 5 base).modPort 5 (fun c => { c with store := [(4095, 3, blankFrame, false), (2, 1, blankFrame, false)], txSeq := 3 })).modBell fun u => { u with free := 204000 }), 5, by decide +kernel⟩,
   ⟨((prt 5 base).setFld LN_CTRL_SER_LIMIT 1), 5, [1, 16, 3, 0], by decide +kernel⟩,
   ⟨((prt 5 base).setFld (LN_PORT_W2_RX_STATE 5) 0), 5, 2, by decide +kernel⟩,
   ⟨(((prt 5 base).setFld (LN_PORT_W2_TX_STATE 5) 0).setFld (LN_PORT_W2_RX_STATE 5) 0), 5, 6, by decide +kernel⟩,
   ⟨((prt 5 base).modPort 5 (fun c => { c with narrowing := some 3 })), 5, by decide +kernel⟩,
   ⟨(prt 5 base), 5, by decide +kernel⟩⟩

end Sys2Proof.Tests.Link
end

