-- ==== Sys2Proof/Tests/WitnessMailbox.lean ====
section
/-! SUPPORT. For each statement of the group Mailbox: a state and operands that meet the hypotheses of every clause. -/

-- One proof at a time: in the package as one text, proofs run side by side would only wait for one another.
set_option Elab.async false

namespace Sys2Proof.Tests.Mailbox

open Sys2Proof Sys2Proof.Machine

/-- The state the witnesses start from. -/
def base : State := State.reset

def lk (b : State) : State := (b.setReg MB_LINK_STATUS (placed 3 3 0)).modHost fun h => { h with background := none, componentLen := none }
def bgk (x : Background) (b : State) : State := (lk b).modHost fun h => { h with background := some x }
def bg : Background := ⟨0xC012, [], 5, [7], true, true⟩
def wnd (b : State) : State := ((lk b).setReg (MB_WINDOW 2) (placed 1 63 63 ||| placed 40000 23 0)).setReg (MB_WINDOW 0) 0 |>.setReg (MB_WINDOW 1) 0
def ue (b : State) : State := (wnd b).setReg (WATCH_RING_MSG 7) (faultWord 0x40 0x22 2 (40001 * 65536 + 77))
def e1 : LogEntry := ⟨7, 99, [1, 2], 5⟩
def sr : List Byte := natLE 8 (2 * 2 ^ 32 + 100) ++ natLE 4 65600
def mm (b : State) : State := ((wnd b).setReg MEM_STATUS 0).modMem fun m => { m with bytes := sparseWrite 0 m.bytes (40001 * 65536) (List.replicate 70 9), merge := [], poison := [] }
def bs : Background := ⟨0xC010, natLE 8 (2 * 2 ^ 32 + 65536 + 3) ++ natLE 4 100, 0, [], true, true⟩
def im : List Byte := padTo 3584 (natLE 4 0x4D43594C ++ [2, 0] ++ natLE 2 5 ++ natLE 4 3584)
def cp (b : State) : State := ((mm b).modMem fun m => { m with bytes := sparseWrite 0 m.bytes componentStaging im }).modHost fun h => { h with componentLen := some (3584, true) }
def st (b : State) : State := (lk b).setReg DV_STATE (placed 5 3 0) |>.setReg PH_STOP_STATUS 0 |>.setReg MEM_STATUS 0 |>.setReg (WATCH_SEV 0x302) 0
def prt (p : Nat) (b : State) : State := ((((((b.setReg (LN_PORT_W0 p) (refPortWord p)).setFld (LN_PORT_W2_STATE p) 2).setFld (LN_PORT_W2_V1 p) 0).setFld (LN_PORT_W2_TX_STATE p) 0).setReg (LN_PORT_W3 p) 0).setReg SW_FENCE 0)
def ow (n k : Option (List Byte)) (b : State) : State := (lk b).modHost fun h => { h with nonce := n, flash := { h.flash with owner := k } }
def wr (w : FlashWrite) (b : State) : State := (bgk { bg with ready := false } b).modHost fun h => { h with writing := [w, .owner none] }

/-- States and operands that meet the hypotheses of `Obligations.MailboxCompletes`, clause by clause. -/
theorem witness_MailboxCompletes :
  (∃ (s : State) (p : List Byte) (b : Background) (c : Instr × Nat), s.linkUp = true ∧ s.host.background = some b ∧ c ∈ [(.getEventRecords p, 0x0100),
    (.clearEventRecords p, 0x0101), (.getSupportedLogs p, 0x0400), (.getLog p, 0x0401), (.identifyMemoryDevice p, 0x4000), (.getPoisonList p, 0x4300),
    (.mailboxUnsupported 0x0200, 0x0200), (.stageItinerary p, 0xC010), (.stageComponent p, 0xC011), (.updateComponent p, 0xC012), (.commit p, 0xC013),
    (.stopover p, 0xC030), (.readSnapshot p, 0xC031), (.getNonce p, 0xC040), (.ownerSet p, 0xC041), (.serviceClearLedger p, 0xC042), (.serviceClearOwner
    p, 0xC042)]) ∧
  (∃ (s : State) (p : List Byte) (c : Instr), s.linkUp = false ∧ c ∈ [.getEventRecords p, .clearEventRecords p, .getSupportedLogs p, .getLog p,
    .identifyMemoryDevice p, .getPoisonList p, .mailboxUnsupported 0x0200, .stageItinerary p, .stageComponent p, .updateComponent p, .commit p,
    .stopover p, .readSnapshot p, .getNonce p, .ownerSet p, .serviceClearLedger p, .serviceClearOwner p, .reset p, .getLogEntries p]) ∧
  (∃ (s : State) (p : List Byte), MailboxFree s ∧ p.length = 1) ∧
  (∃ (s : State) (p : List Byte), MailboxFree s ∧ p.length = 6 + 2 * byteAt p 2) ∧
  (∃ (s : State), MailboxFree s) ∧
  (∃ (s : State) (off n : Nat), MailboxFree s ∧ off + n ≤ 68) ∧
  (∃ (s : State) (p : List Byte), MailboxFree s ∧ (p.length ≠ 24 ∨ p.take 16 ≠ celId)) ∧
  (∃ (s : State), MailboxFree s) ∧
  (∃ (s : State) (p : List Byte), MailboxFree s ∧ p.length = 16) ∧
  (∃ (s : State) (i w : Nat), i < 4096 ∧ bitsOf (s.reg (WATCH_RING_MSG i)).toNat 53 48 = 0x22 ∧ s.windowOf (bitsOf (s.reg (WATCH_RING_MSG i)).toNat 39
    0) = some w) ∧
  (∃ (s : State) (opcode : Nat), MailboxFree s ∧ opcodes.contains opcode = false) ∧
  (∃ (s : State), s.linkUp = true) ∧
  (∃ (s : State) (start n : Nat), s.linkUp = true ∧ n ≤ 170 ∧ start < 2 ^ 32) ∧
  (∃ (s : State) (p : List Byte), MailboxFree s ∧ s.flag DV_ITIN_STATUS_BUSY = false ∧ s.flag DV_ITIN_STATUS_PENDING = false ∧ s.sourceOk p = true) ∧
  (∃ (s : State) (p : List Byte), MailboxFree s ∧ s.flag DV_ITIN_STATUS_BUSY = false ∧ s.flag DV_ITIN_STATUS_PENDING = false ∧ s.sourceOk p = false) ∧
  (∃ (s : State) (p : List Byte), MailboxFree s ∧ s.updating = false ∧ s.sourceOk p = true) ∧
  (∃ (s : State) (b : Background) (w n a : Nat), s.linkUp = true ∧ s.host.background = some b ∧ b.ready = true ∧ b.report = true ∧ b.opcode = 0xC010 ∧
    b.arg = natLE 8 w ++ natLE 4 n ∧ w < 2 ^ 36 ∧ 1 ≤ n ∧ w % 65536 + n ≤ 65536 ∧ s.windowAt w = some a ∧ PoolClean s) :=
  ⟨⟨(bgk bg base), [], bg, (.commit [], 0xC013), by decide +kernel⟩,
   ⟨(base.setReg MB_LINK_STATUS 0), [], (.reset []), by decide +kernel⟩,
   ⟨(lk base), [1], by decide +kernel⟩,
   ⟨(lk base), (zeroBytes 6), by decide +kernel⟩,
   ⟨(lk base), by decide +kernel⟩,
   ⟨(lk base), 8, 60, by decide +kernel⟩,
   ⟨(lk base), (zeroBytes 24), by decide +kernel⟩,
   ⟨(lk base), by decide +kernel⟩,
   ⟨(ue base), (natLE 8 (2 * 2 ^ 32) ++ natLE 8 2000), by decide +kernel⟩,
   ⟨(ue base), 7, (2 * 2 ^ 32 + 65536 + 77), by decide +kernel⟩,
   ⟨(lk base), 0x0200, by decide +kernel⟩,
   ⟨(lk base), by decide +kernel⟩,
   ⟨((lk base).modHost fun h => { h with log := [e1, e1, e1] }), 1, 170, by decide +kernel⟩,
   ⟨((wnd base).setReg DV_ITIN_STATUS 0), sr, by decide +kernel⟩,
   ⟨((wnd base).setReg DV_ITIN_STATUS 0 |>.setReg (MB_WINDOW 3) 0), (natLE 8 (3 * 2 ^ 32 + 100) ++ natLE 4 65600), by decide +kernel⟩,
   ⟨(wnd base), sr, by decide +kernel⟩,
   ⟨((mm base).modHost fun h => { h with background := some bs }), bs, (2 * 2 ^ 32 + 65536 + 3), 100, (40001 * 65536 + 3), by decide +kernel⟩⟩

/-- States and operands that meet the hypotheses of `Obligations.MailboxUpdatesComplete`, clause by clause. -/
theorem witness_MailboxUpdatesComplete :
  (∃ (s : State) (n : Nat) (ok : Bool), MailboxFree s ∧ s.updating = false ∧ s.host.componentLen = some (n, ok) ∧ PoolClean s) ∧
  (∃ (s : State), MailboxFree s ∧ s.updating = false ∧ s.host.componentLen = none) ∧
  (∃ (s : State), MailboxFree s ∧ s.updating = true) ∧
  (∃ (s : State), MailboxFree s ∧ s.updating = false ∧ s.host.bootTrial = 0) ∧
  (∃ (s : State), MailboxFree s ∧ s.updating = false ∧ s.host.bootTrial ≠ 0) ∧
  (∃ (s : State), MailboxFree s ∧ s.fld PH_STOP_STATUS_STATE < 2 ∧ s.phase = 5 ∧ s.stackLost 0 = false) ∧
  (∃ (s : State), MailboxFree s ∧ s.fld PH_STOP_STATUS_STATE < 2 ∧ s.phase ≠ 5 ∧ s.severity 0x302 0x39 < 4) ∧
  (∃ (s : State) (seg : Nat), MailboxFree s ∧ s.fld PH_STOP_STATUS_STATE < 2 ∧ s.flag PH_RESTORE_STATUS_BUSY = false ∧ seg < 32767 ∧ PoolClean s) ∧
  (∃ (s : State) (seg : Nat), MailboxFree s ∧ s.fld PH_STOP_STATUS_STATE < 2 ∧ s.flag PH_RESTORE_STATUS_BUSY = false ∧ seg < 32767 ∧ s.flag
    PH_STOP_CFG_PARTNER_VALID = true ∧ s.sw.agentWait = [] ∧ RouteTo s (s.fld PH_STOP_CFG_PARTNER)) ∧
  (∃ (s : State), MailboxFree s) ∧
  (∃ (s : State) (p n : List Byte), MailboxFree s ∧ s.updating = false ∧ p.length = 1952 + 3309 ∧ s.host.nonce = some n ∧ s.host.flash.owner = none) ∧
  (∃ (s : State) (p n key : List Byte), MailboxFree s ∧ s.updating = false ∧ p.length = 1952 + 3309 ∧ s.host.nonce = some n ∧ s.host.flash.owner =
    some key) ∧
  (∃ (s : State) (p : List Byte), MailboxFree s ∧ s.updating = false ∧ p.length = 1952 + 3309 ∧ s.host.nonce = none) ∧
  (∃ (s : State) (p : List Byte) (op : Nat), MailboxFree s ∧ s.updating = false ∧ p.length = 97 + 3309 ∧ op ∈ [1, 2] ∧ byteAt p 0 = op ∧ s.host.nonce
    = some ((p.drop 1).take 32)) ∧
  (∃ (s : State) (c m v : Nat), MailboxFree s ∧ s.updating = false ∧ s.host.bootTrial ≠ 0 ∧ 1 ≤ c ∧ c ≤ 6 ∧ s.host.svns = [(c, v)] ∧
    s.host.flash.minSvn = [(c, m)]) :=
  ⟨⟨(cp base), 3584, true, by decide +kernel⟩,
   ⟨(lk base), by decide +kernel⟩,
   ⟨((lk base).modHost fun h => { h with writing := [.component 2 true []] }), by decide +kernel⟩,
   ⟨((lk base).modHost fun h => { h with bootTrial := 0 }), by decide +kernel⟩,
   ⟨((lk base).modHost fun h => { h with bootTrial := 0x2B, bootB := 9, flash := { h.flash with activeB := [2, 3, 4], trial := [1, 2, 4, 6] } }), by decide +kernel⟩,
   ⟨(st base), by decide +kernel⟩,
   ⟨((st base).setReg DV_STATE 4), by decide +kernel⟩,
   ⟨((mm base).setReg PH_STOP_STATUS 0 |>.setReg PH_RESTORE_STATUS 0), 77, by decide +kernel⟩,
   ⟨((((prt 64 (prt 7 (((lk base).setReg DV_COORD (placed 3 14 11)).setReg (SW_DEAD 0) 0))).setReg PH_STOP_STATUS 5).setReg PH_RESTORE_STATUS 0).setReg PH_STOP_CFG (placed 1 11 11 ||| placed 1 10 0)), 77, by decide +kernel⟩,
   ⟨(lk base), by decide +kernel⟩,
   ⟨(ow (some [3]) none base), (List.replicate 5261 2), [3], by decide +kernel⟩,
   ⟨(ow (some [3]) (some [4]) base), (List.replicate 5261 2), [3], [4], by decide +kernel⟩,
   ⟨(ow none none base), (List.replicate 5261 2), by decide +kernel⟩,
   ⟨(ow (some (List.replicate 32 3)) none base), (1 :: List.replicate 3405 3), 1, by decide +kernel⟩,
   ⟨((lk base).modHost fun h => { h with bootTrial := 6, bootB := 2, svns := [(2, 9)], flash := { h.flash with minSvn := [(2, 5)] } }), 2, 5, 9, by decide +kernel⟩⟩

/-- States and operands that meet the hypotheses of `Obligations.BackgroundEndsComplete`, clause by clause. -/
theorem witness_BackgroundEndsComplete :
  (∃ (s : State) (b : Background), s.linkUp = true ∧ s.host.background = some b ∧ b.ready = true ∧ b.report = true ∧ b.opcode ≠ 0xC010 ∧ b.opcode ≠
    0xC011) ∧
  (∃ (s : State) (b : Background), s.host.background = some b ∧ b.ready = false) ∧
  (∃ (s : State) (c : Nat) (slotB : Bool) (data : List Byte) (rest : List FlashWrite), s.host.writing = .component c slotB data :: rest ∧
    s.power.resetOwed = false ∧ s.host.flrOwed = false) ∧
  (∃ (s : State) (key : List Byte) (rest : List FlashWrite), s.host.writing = .owner (some key) :: rest ∧ s.power.resetOwed = false ∧ s.host.flrOwed =
    false) ∧
  (∃ (s : State) (rest : List FlashWrite), s.host.writing = .owner none :: rest ∧ s.power.resetOwed = false ∧ s.host.flrOwed = false) ∧
  (∃ (s : State) (seq partner : Nat) (d : List Byte) (bank : Bool) (rest : List FlashWrite), s.host.writing = .stopRecord seq d bank partner :: rest ∧
    s.power.resetOwed = false ∧ s.host.flrOwed = false) ∧
  (∃ (s : State) (entries : List Nat) (rest : List FlashWrite), s.host.writing = .ledger entries :: rest ∧ entries.length < 4096 ∧ s.power.resetOwed =
    false ∧ s.host.flrOwed = false) :=
  ⟨⟨(bgk bg base), bg, by decide +kernel⟩,
   ⟨(bgk { bg with ready := false } base), { bg with ready := false }, by decide +kernel⟩,
   ⟨(wr (.component 2 true [9]) base), 2, true, [9], [.owner none], by decide +kernel⟩,
   ⟨(wr (.owner (some [9])) base), [9], [.owner none], by decide +kernel⟩,
   ⟨(wr (.owner none) base), [.owner none], by decide +kernel⟩,
   ⟨(wr (.stopRecord 5 [9] true 7) base), 5, 7, [9], true, [.owner none], by decide +kernel⟩,
   ⟨(wr (.ledger [5, 6]) base), [5, 6], [.owner none], by decide +kernel⟩⟩

end Sys2Proof.Tests.Mailbox
end

