-- ==== Sys2Proof/Tests/WitnessMaintenance.lean ====
section
/-! SUPPORT. For each statement of the group Maintenance: a state and operands that meet the hypotheses of every clause. -/

-- One proof at a time: in the package as one text, proofs run side by side would only wait for one another.
set_option Elab.async false

namespace Sys2Proof.Tests.Maintenance

open Sys2Proof Sys2Proof.Machine

/-- The state the witnesses start from. -/
def base : State := State.reset



/-- States and operands that meet the hypotheses of `Obligations.MaintenanceCompletes`, clause by clause. -/
theorem witness_MaintenanceCompletes :
  (∃ (s : State) (value : Nat), s.flag MEM_SCRUB_STATUS_BUSY = false) ∧
  (∃ (s : State) (value : Nat), s.flag MEM_SCRUB_STATUS_BUSY = true) ∧
  (∃ (s : State), s.flag MEM_SCRUB_STATUS_BUSY = true) ∧
  (∃ (s : State) (corrected : List (Nat × Nat)) (uncorrectable rows : List Nat) (first last : Nat) (up : List Nat), s.mem.sweep = some (first, last,
    up)) ∧
  (∃ (s : State) (pair symbol : Nat) (rows : List Nat) (first last : Nat), s.mem.sweep = some (first, last, List.range 8) ∧ s.flag
    MEM_SCRUB_STATUS_STOPPED = false ∧ (∀ st < 8, s.stackLost st = false) ∧ first ≤ pairRoom pair ∧ pairRoom pair ≤ last ∧ pairRoom pair < 2 ^ 24) ∧
  (∃ (s : State) (value : Nat), s.flag MEM_REPAIR_STATUS_BUSY = false) ∧
  (∃ (s : State) (value : Nat), s.flag MEM_REPAIR_STATUS_BUSY = false) ∧
  (∃ (s : State) (value : Nat), s.flag MEM_REPAIR_STATUS_BUSY = false) ∧
  (∃ (s : State) (value : Nat), s.flag MEM_REPAIR_STATUS_BUSY = false) ∧
  (∃ (s : State) (value : Nat), s.flag MEM_REPAIR_STATUS_BUSY = true) ∧
  (∃ (s : State) (corrected : List (Nat × Nat)) (uncorrectable : List Nat) (room : Nat), s.mem.repair = some (2 ^ 60 + room) ∧ 32768 ≤ room ∧ room < 2
    ^ 24 ∧ s.host.flash.ledger.length < 4096) ∧
  (∃ (s : State) (st pc bank row : Nat), s.mem.repair = some (st * 2 ^ 57 + pc * 2 ^ 51 + bank * 2 ^ 45 + row * 2 ^ 31) ∧ st < 8 ∧ pc < 64 ∧ bank < 64
    ∧ row < 2 ^ 14 ∧ s.stackLost st = false ∧ s.remapped st pc bank row < 2 ∧ s.sparesUsed st pc bank = [] ∧ s.host.flash.ledger.length < 4096) ∧
  (∃ (s : State) (corrected : List (Nat × Nat)) (uncorrectable : List Nat) (w : Nat), s.mem.repair = some w) :=
  ⟨⟨(base.setFld MEM_SCRUB_STATUS_BUSY 0), 0x8001000000070005, by decide +kernel⟩,
   ⟨(base.setFld MEM_SCRUB_STATUS_BUSY 1), 0x8001000000070005, by decide +kernel⟩,
   ⟨(base.setFld MEM_SCRUB_STATUS_BUSY 1), by decide +kernel⟩,
   ⟨(base.modMem (fun m => { m with sweep := some (0, 2^21, [0, 1, 2]) })), [(5, 3), (2^31, 4)], [6], [7, 32], 0, (2^21), [0, 1, 2], by decide +kernel⟩,
   ⟨(((base.modMem (fun m => { m with sweep := some (0, 2^21, List.range 8) })).setFld MEM_SCRUB_STATUS_STOPPED 0).setFld MEM_STATUS_STACK_DOWN 0), 5, 3, [], 0, (2^21), by decide +kernel⟩,
   ⟨(base.setFld MEM_REPAIR_STATUS_BUSY 0), 0xFEDCBA9876543210, by decide +kernel⟩,
   ⟨(base.setFld MEM_REPAIR_STATUS_BUSY 0), 0x8001000000070005, by decide +kernel⟩,
   ⟨(base.setFld MEM_REPAIR_STATUS_BUSY 0), 0xFEDCBA9876543210, by decide +kernel⟩,
   ⟨(base.setFld MEM_REPAIR_STATUS_BUSY 0), 0x8001000000070005, by decide +kernel⟩,
   ⟨(base.setFld MEM_REPAIR_STATUS_BUSY 1), 0x8001000000070005, by decide +kernel⟩,
   ⟨(base.modMem fun m => {m with repair := some (2^60 + 32768)}), [(5, 3)], [6], 32768, by decide +kernel⟩,
   ⟨((base.setFld MEM_STATUS_STACK_DOWN 0).modMem fun m => {m with repair := some (7 * 2^57 + 63 * 2^51 + 5 * 2^45 + 3 * 2^31), merge := [⟨5,7,List.replicate 64 9,0⟩]}), 7, 63, 5, 3, by decide +kernel⟩,
   ⟨((base.setFld MEM_STATUS_STACK_DOWN 0).modMem fun m => {m with repair := some (7 * 2^57 + 63 * 2^51 + 5 * 2^45 + 3 * 2^31), merge := [⟨5,7,List.replicate 64 9,0⟩]}), [((7 * 2^31 + 5), 3)], [(7 * 2^31 + 5)], (7 * 2^57 + 63 * 2^51 + 5 * 2^45 + 3 * 2^31), by decide +kernel⟩⟩

end Sys2Proof.Tests.Maintenance
end

