-- ==== Sys2Proof/Tests/WitnessMemory.lean ====
section
/-! SUPPORT. For each statement of the group Memory: a state and operands that meet the hypotheses of every clause. -/

-- One proof at a time: in the package as one text, proofs run side by side would only wait for one another.
set_option Elab.async false

namespace Sys2Proof.Tests.Memory

open Sys2Proof Sys2Proof.Machine

/-- The state the witnesses start from. -/
def base : State := State.reset

def up (k : Nat) (b : State) : State := b.setRegBit MEM_STATUS (8 + k) false

/-- States and operands that meet the hypotheses of `Obligations.MemoryCompletes`, clause by clause. -/
theorem witness_MemoryCompletes :
  (∃ (s : State) (pair : Nat), pair < 2 ^ 34 ∧ s.stackLost (pairStack pair) = false ∧ s.poisoned pair = false ∧ s.mem.merge.find? (fun e => e.pair ==
    pair) = none) ∧
  (∃ (s : State) (pair symbol flips : Nat), pair < 2 ^ 34 ∧ s.stackLost (pairStack pair) = false ∧ s.poisoned pair = false) ∧
  (∃ (s : State) (pair : Nat) (a b : Nat × Nat), pair < 2 ^ 34 ∧ s.stackLost (pairStack pair) = false ∧ s.poisoned pair = false ∧ (pairRoom pair <
    27776 ∨ 28800 ≤ pairRoom pair)) ∧
  (∃ (s : State) (pair : Nat) (data : List Byte), pair < 2 ^ 34 ∧ s.stackLost (pairStack pair) = false ∧ data.length = 64) ∧
  (∃ (s : State) (pair : Nat) (e : MergeEntry), s.mem.merge.find? (fun e => e.pair == pair) = some e ∧ e.at_ + 128 * s.fld MEM_MERGE_CTRL_HOLD ≤
    s.free ∧ s.stackLost (pairStack pair) = false ∧ s.poisoned pair = false) ∧
  (∃ (s : State) (stack : Nat), stack < 8 ∧ s.stackLost stack = false ∧ sparseGet 0 s.mem.crcRuns stack < 8) ∧
  (∃ (s : State) (stack : Nat), stack < 8 ∧ s.stackLost stack = false ∧ 8 ≤ sparseGet 0 s.mem.crcRuns stack) ∧
  (∃ (s : State) (stack : Nat), stack < 8 ∧ s.stackLost stack = false) ∧
  (∃ (s : State) (stack temp : Nat), stack < 8 ∧ s.phase ≠ 0) ∧
  (∃ (s : State) (value : Nat), bitsOf value 15 8 < bitsOf value 23 16 ∧ bitsOf value 23 16 < bitsOf value 31 24) ∧
  (∃ (s : State) (value : Nat), ¬(bitsOf value 15 8 < bitsOf value 23 16 ∧ bitsOf value 23 16 < bitsOf value 31 24)) ∧
  (∃ (s : State) (pair : Nat) (e : MergeEntry) (a b : Nat × Nat), s.mem.merge.find? (fun e => e.pair == pair) = some e ∧ e.at_ + 128 * s.fld
    MEM_MERGE_CTRL_HOLD ≤ s.free ∧ s.stackLost (pairStack pair) = false ∧ s.poisoned pair = false) ∧
  (∃ (s : State) (pair : Nat) (e : MergeEntry) (a : Nat × Nat), s.mem.merge.find? (fun e => e.pair == pair) = some e ∧ e.at_ + 128 * s.fld
    MEM_MERGE_CTRL_HOLD ≤ s.free ∧ s.stackLost (pairStack pair) = false ∧ s.poisoned pair = false) :=
  ⟨⟨(up 0 base), 5, by decide +kernel⟩,
   ⟨(up 0 base), 5, 3, 1, by decide +kernel⟩,
   ⟨(up 7 base), (7 * 2^31 + 5), (3, 1), (4, 1), by decide +kernel⟩,
   ⟨(up 0 (base.modMem fun m => {m with poison := [(5,true)], merge := [⟨5,7,List.replicate 64 9,0⟩]})), 5, (List.replicate 64 7), by decide +kernel⟩,
   ⟨(up 0 ((base.modMem fun m => {m with merge := [⟨5,7,List.replicate 64 9,0⟩]}).modBell fun u => {u with free := 8388608})), 5, (⟨5,7,List.replicate 64 9,0⟩), by decide +kernel⟩,
   ⟨(up 3 base), 3, by decide +kernel⟩,
   ⟨(up 3 (base.modMem fun m => {m with crcRuns := [(3,8)]})), 3, by decide +kernel⟩,
   ⟨(up 3 base), 3, by decide +kernel⟩,
   ⟨(base.setFld DV_STATE_PHASE 5), 3, 400, by decide +kernel⟩,
   ⟨base, (5 * 2^8 + 6 * 2^16 + 7 * 2^24 + 2^32), by decide +kernel⟩,
   ⟨base, (6 * 2^8 + 6 * 2^16 + 7 * 2^24 + 2^32), by decide +kernel⟩,
   ⟨(up 0 ((base.modMem fun m => {m with merge := [⟨5,7,List.replicate 64 9,0⟩]}).modBell fun u => {u with free := 8388608})), 5, (⟨5,7,List.replicate 64 9,0⟩), (3, 1), (4, 1), by decide +kernel⟩,
   ⟨(up 0 ((base.modMem fun m => {m with merge := [⟨5,7,List.replicate 64 9,0⟩]}).modBell fun u => {u with free := 8388608})), 5, (⟨5,7,List.replicate 64 9,0⟩), (3, 1), by decide +kernel⟩⟩

end Sys2Proof.Tests.Memory
end

