-- ==== Sys2Proof/Tests/WitnessPowerInput.lean ====
section
/-! SUPPORT. For each statement of the group PowerInput: a state and operands that meet the hypotheses of every clause. -/

-- One proof at a time: in the package as one text, proofs run side by side would only wait for one another.
set_option Elab.async false

namespace Sys2Proof.Tests.PowerInput

open Sys2Proof Sys2Proof.Machine

/-- The state the witnesses start from. -/
def base : State := State.reset

def aux (b : State) : State := b.modPower (fun w => { w with auxOn := true })
def on (b : State) : State := b.modPower (fun w => { w with auxOn := true, switchClosed := true })

/-- States and operands that meet the hypotheses of `Obligations.PowerInputCompletes`, clause by clause. -/
theorem witness_PowerInputCompletes :
  (∃ (s : State), s.power.auxOn = true ∧ s.host.writing = []) ∧
  (∃ (s : State) (c : Instr), (c = .powerCycle ∨ (c = .powerStageFail 10 ∧ s.power.auxOn = true))) ∧
  (∃ (s : State), s.power.auxOn = true ∧ s.power.switchClosed = true) ∧
  (∃ (s : State), s.power.auxOn = true ∧ s.power.switchClosed = false ∧ s.power.discharging = false ∧ s.power.ocLatch = false ∧ s.inputGood = true ∧
    s.phase = 0 ∧ 1 ≤ s.host.passed ∧ s.host.stage = none) ∧
  (∃ (s : State) (vin : Nat), s.power.auxOn = true ∧ s.power.switchClosed = true ∧ 5200 ≤ toSigned 16 vin ∧ toSigned 16 vin ≤ 5400) ∧
  (∃ (s : State) (vin : Nat), s.power.auxOn = true ∧ 5400 < toSigned 16 vin) ∧
  (∃ (s : State) (vin : Nat), s.power.auxOn = true ∧ s.power.switchClosed = true ∧ toSigned 16 vin < 5200) ∧
  (∃ (s : State) (vin : Nat), s.power.auxOn = true ∧ 6600 ≤ toSigned 16 vin ∧ toSigned 16 vin ≤ 8000) ∧
  (∃ (s : State) (vin : Nat), s.power.auxOn = true ∧ s.power.switchClosed = true ∧ 6600 < toSigned 16 vin) ∧
  (∃ (s : State) (vin : Nat), s.power.auxOn = true ∧ s.power.switchClosed = false ∧ toSigned 16 vin < 0) ∧
  (∃ (s : State), s.power.auxOn = true ∧ s.power.switchClosed = true) ∧
  (∃ (s : State), s.power.ocLatch = true) ∧
  (∃ (s : State), s.power.auxOn = true ∧ s.power.switchClosed = true) ∧
  (∃ (s : State) (stage i : Nat), s.power.auxOn = true ∧ s.power.switchClosed = true ∧ ((stage ≤ 3 ∧ 1 ≤ i ∧ i ≤ 46) ∨ (stage = 4 ∧ 2 ≤ i ∧ i ≤ 42) ∨
    (stage = 5 ∧ 47 ≤ i ∧ i ≤ 55)) ∧ s.watch.queue = []) ∧
  (∃ (s : State) (stage i : Nat), s.power.auxOn = true ∧ s.power.switchClosed = true ∧ i < 4 ∧ (stage = 6 ∨ stage = 7)) ∧
  (∃ (s : State) (stage i : Nat), s.power.auxOn = true ∧ s.power.switchClosed = true ∧ i < 2 ∧ (stage = 8 ∨ stage = 9)) :=
  ⟨⟨(aux base), by decide +kernel⟩,
   ⟨base, .powerCycle, by decide +kernel⟩,
   ⟨(on base), by decide +kernel⟩,
   ⟨((((aux base).setFld DV_STATE_PHASE 0).modHost (fun h => { h with passed := 1 })).modPower (fun w => { w with inputReady := some 0 })), by decide +kernel⟩,
   ⟨(on base), 5300, by decide +kernel⟩,
   ⟨(on base), 5401, by decide +kernel⟩,
   ⟨(on base), 5199, by decide +kernel⟩,
   ⟨(on base), 6600, by decide +kernel⟩,
   ⟨(on base), 6601, by decide +kernel⟩,
   ⟨(aux base), 65535, by decide +kernel⟩,
   ⟨(on base), by decide +kernel⟩,
   ⟨(base.modPower (fun w => { w with ocLatch := true })), by decide +kernel⟩,
   ⟨(on base), by decide +kernel⟩,
   ⟨(on base), 4, 2, by decide +kernel⟩,
   ⟨(on base), 7, 3, by decide +kernel⟩,
   ⟨(on base), 9, 1, by decide +kernel⟩⟩

end Sys2Proof.Tests.PowerInput
end

