-- ==== Sys2Proof/Tests/WitnessRegisters.lean ====
section
/-! SUPPORT. For each statement of the group Registers: a state and operands that meet the hypotheses of every clause. -/

-- One proof at a time: in the package as one text, proofs run side by side would only wait for one another.
set_option Elab.async false

namespace Sys2Proof.Tests.Registers

open Sys2Proof Sys2Proof.Machine

/-- The state the witnesses start from. -/
def base : State := State.reset

/-- The command answers a next state from reset, so that the frame says what that state keeps. -/
def runs (c : Instr) : Bool := match exec c base with
  | .next _ => true
  | _ => false

/-- Every command that `Obligations.ControlKeepsRegisters` names answers a next state. -/
theorem runs_ControlKeepsRegisters :
    [.inputSwitchClose, .inputLow 51, .inputRecovered 51, .surge 51, .reverse 51, .railsStable, .tileCalibrationDone 2, .vacancyThreadDone,
      .remusterDone 0, .setCoord 1 0 0 0, .setRoot 1 5 7, .forceStep, .choiceWindowWrite false 9000, .choiceWindowWrite true 9000,
      .choiceWindowOpen, .capModeWrite 5, .clockWrite 5, .clockChange, .quiesceDone [], .stopTickArm 9000,
      .stopoverCancel, .proofGo 5, .proofAutoStart 3, .riskHistoryAppend, .verify, .verifyDone].all runs = true := by decide +kernel

/-- As `runs_ControlKeepsRegisters`, for the first commands of `Obligations.WritesKeepRegisters`. -/
theorem runs_WritesKeepRegisters_1 :
    [.partyEntryWrite 5 5, .streamEntryWrite 3 5, .sacrificeThresholdWrite 5, .sacrificeStageUpdate, .tallyPoolMinWrite 5
      5, .swTableRead 5, .swTableWrite 5, .tlTableRead 5, .stTableRead 5, .curfewSwitchArm 5 9000, .curfewCancel 5, .curfewSwitchover 5,
      .curfewEntryAdvance 5, .evictThresholdWrite 5, .areaWrite true 5, .areaWrite false 5, .takeoverDone, .bindWrite 1 3 5, .coreEnableWrite 1
      5].all runs = true := by decide +kernel

/-- As `runs_ControlKeepsRegisters`, for the next commands of `Obligations.WritesKeepRegisters`. -/
theorem runs_WritesKeepRegisters_2 :
    [.quarantineClear 1 5, .thermThresholdWrite 5, .scrubGo 5, .scrubStop, .repairRow 5, .retireRoom 5, .retireBank 5, .releaseRoom 5,
      .mergeHoldExpiry 99 [], .quietRequest 5].all runs = true := by decide +kernel

/-- As `runs_ControlKeepsRegisters`, for the last commands of `Obligations.WritesKeepRegisters`. -/
theorem runs_WritesKeepRegisters_3 :
    [.sleepRequest 5, .activeRequest 5, .wakeTickWrite 5 9000, .powerStateEntry 5, .lanePower 5 1 9000, .wakeDone 5 true, .wakeDone 5 false,
      .ackWaitExpiry 5, .windowWrite 0 5, .queueConfigWrite 1 5, .functionLevelReset, .cxlLinkUp 4 8, .cxlLinkDown, .memrd 640].all runs =
      true := by decide +kernel

/-- Every command that `Obligations.UnitsKeepOtherBlocks` names answers a next state. -/
theorem runs_UnitsKeepOtherBlocks :
    [.vadd 5, .vmul 5, .vfma 5, .vmax 5, .vmin 5, .vsel 5, .vexp 5, .vrcp 5, .vcvt 5, .vred 5, .vmask 5, .mma 5, .histout 5, .xpose 5, .lcopy 5,
      .recv 5].all runs = true := by decide +kernel



/-- States and operands that meet the hypotheses of `Obligations.ControlKeepsRegisters`, clause by clause. -/
theorem witness_ControlKeepsRegisters :
  (∃ (s : State) (i : Nat), Calm s) ∧
  (∃ (s : State), (s.bell.parent = none ∨ s.isRoot = true ∨ s.bellSet = false)) ∧
  (∃ (s : State), s.clusters.active = none ∧ s.clusters.armed = none ∧ s.tally.ctxs = []) :=
  ⟨⟨base, 0, by decide +kernel⟩,
   ⟨base, by decide +kernel⟩,
   ⟨base, by decide +kernel⟩⟩

/-- States and operands that meet the hypotheses of `Obligations.WritesKeepRegisters`, clause by clause. -/
theorem witness_WritesKeepRegisters :
  (∃ (s : State) (port : Nat), (s.port port).narrowDue = none) ∧
  (∃ (s : State) (port : Nat), (s.port port).narrowDue = none) :=
  ⟨⟨base, 5, by decide +kernel⟩,
   ⟨base, 5, by decide +kernel⟩⟩

end Sys2Proof.Tests.Registers
end

