-- ==== Sys2Proof/Tests/WitnessRest.lean ====
section
/-! SUPPORT. For each statement of the group Rest: a state and operands that meet the hypotheses of every clause. -/

-- One proof at a time: in the package as one text, proofs run side by side would only wait for one another.
set_option Elab.async false

namespace Sys2Proof.Tests.Rest

open Sys2Proof Sys2Proof.Machine

/-- The state the witnesses start from. -/
def base : State := State.reset

def prt (p : Nat) (b : State) : State := ((((b.setReg (LN_PORT_W0 p) (refPortWord p)).setFld (LN_PORT_W2_STATE p) 2).setFld (LN_PORT_W2_V1 p) 0).setFld (LN_PORT_W2_ACTIVE p) 15).modPort p (fun c => { c with usable := 15 })
def tx (p n : Nat) (b : State) : State := b.setFld (LN_PORT_W2_TX_STATE p) n

/-- States and operands that meet the hypotheses of `Obligations.PowerStatesComplete`, clause by clause. -/
theorem witness_PowerStatesComplete :
  (∃ (s : State) (p : Nat), p < 256 ∧ s.canRest p = true) ∧
  (∃ (s : State) (p : Nat), p < 256 ∧ s.canRest p = true ∧ s.carriesTiming p = false) ∧
  (∃ (s : State) (p : Nat), p < 256 ∧ s.canRest p = true ∧ s.carriesTiming p = true) ∧
  (∃ (s : State) (p : Nat), p < 256 ∧ s.portKind p ≠ 0 ∧ s.canRest p = false) ∧
  (∃ (s : State) (p : Nat), p < 256 ∧ s.portKind p ≠ 0 ∧ s.fld (LN_PORT_W2_TX_STATE p) ≠ 0 ∧ (s.port p).txWaking = none) ∧
  (∃ (s : State) (p : Nat), p < 256 ∧ s.portUp p = true ∧ s.canRest p = true ∧ (s.fld (LN_PORT_W1_TX_REQ p) = 1 ∨ s.fld (LN_PORT_W1_TX_REQ p) = 2) ∧
    s.fld (LN_PORT_W2_TX_STATE p) = 0 ∧ s.phase ≠ 6 ∧ (s.port p).store = [] ∧ (s.port p).narrowing = none ∧ (s.port p).narrowDue = none ∧ (s.port
    p).wokeAt = none ∧ (∀ x ∈ s.sw.copies, x.out ≠ p)) ∧
  (∃ (s : State) (p : Nat), p < 256 ∧ s.portUp p = true ∧ s.wakeWanted p = true ∧ s.fld (LN_PORT_W2_TX_STATE p) ≠ 0 ∧ (s.port p).txWaking = none) ∧
  (∃ (s : State) (p : Nat), p < 256 ∧ s.portUp p = true ∧ s.wakeWanted p = true ∧ s.fld (LN_PORT_W2_TX_STATE p) = 0 ∧ s.fld (LN_PORT_W2_RX_STATE p) ≠
    0) ∧
  (∃ (s : State) (p state tick : Nat), p < 256 ∧ s.portUp p = true ∧ s.portKind p ∈ [1, 2, 4] ∧ s.flag (LN_PORT_W2_V1 p) = false ∧ state ≤ 2) ∧
  (∃ (s : State) (p : Nat), p < 256 ∧ s.portUp p = true ∧ s.fld (LN_PORT_W2_TX_STATE p) ≠ 0 ∧ (s.port p).txWaking = none) ∧
  (∃ (s : State) (p tick : Nat), p < 256 ∧ s.portKind p ≠ 0 ∧ s.bellSet = true ∧ tick < 2 ^ 64 ∧ s.now + wakeTicks (max (s.fld (LN_PORT_W2_TX_STATE
    p)) (s.fld (LN_PORT_W1_TX_REQ p))) + 8000 ≤ tick) ∧
  (∃ (s : State) (p tick : Nat), p < 256 ∧ s.portKind p ≠ 0 ∧ tick ≠ 0 ∧ (s.bellSet = false ∨ tick < s.now + wakeTicks (max (s.fld
    (LN_PORT_W2_TX_STATE p)) (s.fld (LN_PORT_W1_TX_REQ p))) + 8000)) ∧
  (∃ (s : State) (p : Nat), p < 256 ∧ s.portUp p = true ∧ (s.reg (LN_PORT_W3 p)).toNat ≠ 0 ∧ s.fld (LN_PORT_W2_TX_STATE p) ≠ 0 ∧ s.bellSet = true ∧
    (s.reg (LN_PORT_W3 p)).toNat ≤ s.now + wakeTicks (s.fld (LN_PORT_W2_TX_STATE p)) ∧ s.now ≤ (s.reg (LN_PORT_W3 p)).toNat ∧ s.skippedTick (s.reg
    (LN_PORT_W3 p)).toNat = false ∧ (s.port p).txWaking = none) ∧
  (∃ (s : State) (p : Nat) (w : Nat), p < 256 ∧ s.portUp p = true ∧ (s.port p).narrowDue = none ∧ (s.port p).txWaking = some w ∧ w + wakeTicks (s.fld
    (LN_PORT_W2_TX_STATE p)) ≤ s.free) ∧
  (∃ (s : State) (p : Nat), p < 256 ∧ s.portUp p = true ∧ (s.port p).narrowDue = none ∧ s.fld (LN_PORT_W2_RX_STATE p) ≠ 0) :=
  ⟨⟨(prt 5 base), 5, by decide +kernel⟩,
   ⟨(prt 5 base), 5, by decide +kernel⟩,
   ⟨((prt 64 base).modBell fun u => { u with parent := some 0 }), 64, by decide +kernel⟩,
   ⟨(prt 88 base), 88, by decide +kernel⟩,
   ⟨(tx 5 1 (prt 5 base)), 5, by decide +kernel⟩,
   ⟨(((tx 5 0 (prt 5 base)).setFld (LN_PORT_W1_TX_REQ 5) 2).setFld DV_STATE_PHASE 5), 5, by decide +kernel⟩,
   ⟨((tx 5 1 (prt 5 base)).modSw fun w => { w with copies := [{ (default : Copy) with out := 5 }] }), 5, by decide +kernel⟩,
   ⟨(((tx 5 0 (prt 5 base)).setFld (LN_PORT_W2_RX_STATE 5) 2).modSw fun w => { w with copies := [{ (default : Copy) with out := 5 }] }), 5, by decide +kernel⟩,
   ⟨(prt 5 base), 5, 2, 100, by decide +kernel⟩,
   ⟨(tx 5 1 (prt 5 base)), 5, by decide +kernel⟩,
   ⟨((prt 5 base).setFld BT_STATUS_SET 1), 5, (base.now + 208000), by decide +kernel⟩,
   ⟨(((tx 5 0 (prt 5 base)).setFld (LN_PORT_W1_TX_REQ 5) 2).setFld BT_STATUS_SET 1), 5, (base.now + 207999), by decide +kernel⟩,
   ⟨((tx 5 1 (prt 5 base)).setFld BT_STATUS_SET 1 |>.setReg (LN_PORT_W3 5) (BitVec.ofNat 64 (base.now + 4000))), 5, by decide +kernel⟩,
   ⟨((tx 5 1 (prt 5 base)).modPort 5 fun c => { c with txWaking := some 0 }) |>.modBell (fun u => { u with free := 4000 }), 5, 0, by decide +kernel⟩,
   ⟨((tx 5 0 (prt 5 base)).setFld (LN_PORT_W2_RX_STATE 5) 2), 5, by decide +kernel⟩⟩

end Sys2Proof.Tests.Rest
end

