-- ==== Sys2Proof/Tests/WitnessStartUp.lean ====
section
/-! SUPPORT. For each statement of the group StartUp: a state and operands that meet the hypotheses of every clause. -/

-- One proof at a time: in the package as one text, proofs run side by side would only wait for one another.
set_option Elab.async false

namespace Sys2Proof.Tests.StartUp

open Sys2Proof Sys2Proof.Machine

/-- The state the witnesses start from. -/
def base : State := State.reset

def ph (n : Nat) (b : State) : State := b.setFld DV_STATE_PHASE n

/-- States and operands that meet the hypotheses of `Obligations.StartUpCompletes`, clause by clause. -/
theorem witness_StartUpCompletes :
  (∃ (s : State), s.power.auxOn = false) ∧
  (∃ (s : State), s.phase = 1 ∧ s.sw.threaded = false) ∧
  (∃ (s : State), s.phase = 1 ∧ 2 ≤ s.fld MB_BOOT_STATUS_STAGE ∧ s.host.stage = none) ∧
  (∃ (s : State) (stack : Nat), s.phase = 2 ∧ stack < 8 ∧ s.stackLost stack = false ∧ s.regBit DV_STATE (32 + stack) = false) ∧
  (∃ (s : State) (stack : Nat), s.phase = 2 ∧ stack < 8 ∧ s.regBit DV_STATE (32 + stack) = false ∧ s.regBit MEM_STATUS (16 + stack) = false ∧
    s.power.phaseAt + 60000 * ticksPerUs ≤ s.free) ∧
  (∃ (s : State), s.phase = 3 ∧ s.power.markAt = none ∧ s.power.musterAt + 512 ≤ s.free) ∧
  (∃ (s : State) (failing crossings : List Nat) (m : Nat), s.power.markAt = some m ∧ s.phase = 3 ∧ m + 2048 ≤ s.free ∧ (∀ i ∈ s.power.musterTodo, i ∉
    failing)) ∧
  (∃ (s : State) (failing crossings : List Nat) (m : Nat), s.power.markAt = some m ∧ s.phase = 3 ∧ m + 2048 ≤ s.free ∧ (∃ i ∈ s.power.musterTodo, i ∈
    failing)) ∧
  (∃ (s : State) (island : Nat), island < 56 ∧ s.regBit BT_MUSTER_OUT island = false) ∧
  (∃ (s : State) (island : Nat), island < 56 ∧ s.regBit BT_MUSTER_OUT island = true) ∧
  (∃ (s : State), s.phase = 4 ∧ s.power.phaseAt + 200000 * ticksPerUs ≤ s.free ∧ s.flag LN_STATUS_BRINGUP_DONE = false) ∧
  (∃ (s : State) (tile : Nat), tile < 4 ∧ s.phase ≠ 0 ∧ s.phase ≠ 7 ∧ s.regBit LN_STATUS tile = false) ∧
  (∃ (s : State), s.host.stage = some 2 ∧ s.phase = 1) ∧
  (∃ (s : State) (failing : List Nat) (p m : Nat), s.power.markAt = none ∧ (s.port p).musterAt = some m ∧ s.free = m + 2560) :=
  ⟨⟨(base.modPower (fun w => { w with auxOn := false })), by decide +kernel⟩,
   ⟨(ph 1 base), by decide +kernel⟩,
   ⟨((ph 1 base).setFld MB_BOOT_STATUS_STAGE 2), by decide +kernel⟩,
   ⟨(((ph 2 base).setRegBit DV_STATE 37 false).setRegBit MEM_STATUS 13 false), 5, by decide +kernel⟩,
   ⟨((((ph 2 base).setRegBit DV_STATE 39 false).setRegBit MEM_STATUS 23 false).modBell (fun u => { u with free := 480000000 })), 7, by decide +kernel⟩,
   ⟨((ph 3 base).modBell (fun u => { u with free := 512 })), by decide +kernel⟩,
   ⟨(((ph 3 base).modBell (fun u => { u with free := 2049 })).modPower (fun w => { w with markAt := some 1, musterTodo := [3, 4] })), [5], [], 1, by decide +kernel⟩,
   ⟨(((ph 3 base).modBell (fun u => { u with free := 2049 })).modPower (fun w => { w with markAt := some 1, musterTodo := [3, 4] })), [4], [9], 1, by decide +kernel⟩,
   ⟨(base.setRegBit BT_MUSTER_OUT 55 false), 55, by decide +kernel⟩,
   ⟨(base.setRegBit BT_MUSTER_OUT 0 true), 0, by decide +kernel⟩,
   ⟨(((ph 4 base).modBell (fun u => { u with free := 1600000000 })).setFld LN_STATUS_BRINGUP_DONE 0), by decide +kernel⟩,
   ⟨((ph 1 base).setRegBit LN_STATUS 3 false), 3, by decide +kernel⟩,
   ⟨((ph 1 base).modHost (fun h => { h with stage := some 2 })), by decide +kernel⟩,
   ⟨(((base.modBell (fun u => { u with free := 2567 })).modPower (fun w => { w with markAt := none })).modPort 9 (fun c => { c with musterAt := some 7 })), [], 9, 7, by decide +kernel⟩⟩

end Sys2Proof.Tests.StartUp
end

