-- ==== Sys2Proof/Tests/WitnessStated.lean ====
section
/-! SUPPORT. For each statement of the group Stated: a state and operands that meet the hypotheses of every clause. -/

-- One proof at a time: in the package as one text, proofs run side by side would only wait for one another.
set_option Elab.async false

namespace Sys2Proof.Tests.Stated

open Sys2Proof Sys2Proof.Machine

/-- The state the witnesses start from. -/
def base : State := State.reset

def on (b : State) : State := (b.setFld DV_STATE_PHASE 5).modPower fun p => { p with switchClosed := true }
def lk (b : State) : State := ((((b.setReg DV_STATE (placed 5 3 0)).setReg MB_LINK_STATUS (placed 3 3 0)).setReg (MB_WINDOW 2) (placed 1 63 63 ||| placed 40000 23 0)).setReg (MB_WINDOW 1) 0).setReg MEM_STATUS 0 |>.modMem fun m => { m with bytes := sparseWrite 0 m.bytes (40003 * 65536 + 640) (List.replicate 70 9), merge := [], poison := [] }
def wo : Nat := 2 * 2 ^ 32 + 3 * 65536 + 645
def wa : Nat := 40003 * 65536 + 645
def ps (b : State) : State := (lk b).modMem fun m => { m with poison := [(wa / 64, true)] }
def me : MergeEntry := ⟨wa / 64, 0xFF, zeroBytes 64, 0⟩
def sv (b : State) : State := b.setReg (WATCH_SEV 3) 0
def pw (b : State) : State := (b.setReg (WATCH_FIRST 3) 0xF0F0).modPower fun p => { p with auxOn := true, switchClosed := true }
def en (b : State) : State := b.setReg (MB_QCFG 1) (placed 1 63 63 ||| 9) |>.setReg (MB_QTAIL 1) 5 |>.setReg (MB_QHEAD 1) 3

/-- States and operands that meet the hypotheses of `Obligations.PlainWritesFollowTheirFields`, clause by clause. -/
theorem witness_PlainWritesFollowTheirFields :
  (∃ (s : State) (off value : Nat) (r : RegRow) (f : FieldRow), Writable s ∧ off % 8 = 0 ∧ off < 2 ^ 26 ∧ value < 2 ^ 64 ∧ s.writeSingle off value =
    none ∧ s.writeArray off value = none ∧ isWord0 off = false ∧ (arrayIndex (SW_POL_W1 0) 16 512 off).isNone = true ∧ (arrayIndex (SW_VLAN_W1 0) 16
    4096 off).isNone = true ∧ (clusterIndex (CL_BIND_W1 0 0) 16 64 off).isNone = true ∧ regRow? off = some r ∧ f ∈ r.fields) ∧
  (∃ (s : State) (off value : Nat), off % 8 = 0 ∧ off < 2 ^ 26 ∧ s.writeSingle off value = none ∧ s.writeArray off value = none ∧ isWord0 off = false
    ∧ (arrayIndex (SW_POL_W1 0) 16 512 off).isNone = true ∧ (arrayIndex (SW_VLAN_W1 0) 16 4096 off).isNone = true ∧ (clusterIndex (CL_BIND_W1 0 0) 16 64
    off).isNone = true ∧ value < 2 ^ 64) ∧
  (∃ (s : State) (off i : Nat) (r : RegRow), regRow? off = some r ∧ i < 64 ∧ (∀ f ∈ r.fields, f.acc = .wo ∨ i < f.lo ∨ f.hi < i)) :=
  ⟨⟨(on base), WATCH_CTRL, 0xFFFFFFFFFFFFFFFF, ⟨WATCH_CTRL, 8, 1, 1, [⟨2, 0, .rw, 2, [(0, 5)]⟩]⟩, ⟨2, 0, .rw, 2, [(0, 5)]⟩, by decide +kernel⟩,
   ⟨base, WATCH_CTRL, 0xFFFFFFFFFFFFFFFF, by decide +kernel⟩,
   ⟨base, WATCH_CTRL, 5, ⟨WATCH_CTRL, 8, 1, 1, [⟨2, 0, .rw, 2, [(0, 5)]⟩]⟩, by decide +kernel⟩⟩

/-- States and operands that meet the hypotheses of `Obligations.UnassignedOffsets`, clause by clause. -/
theorem witness_UnassignedOffsets :
  (∃ (s : State) (off : Nat), regRow? off = none ∧ off % 8 = 0 ∧ off < 2 ^ 26 ∧ off / 65536 ≠ 0x1A0 ∧ off / 65536 ≠ 0x1A2) ∧
  (∃ (s : State) (off : Nat), regRow? off = none ∧ off % 8 = 0 ∧ off < 2 ^ 26 ∧ off / 65536 ≠ 0x1A0 ∧ off / 65536 ≠ 0x1A2 ∧ s.mctpOn = true) ∧
  (∃ (s : State) (off value : Nat), regRow? off = none ∧ off % 8 = 0 ∧ off < 2 ^ 26 ∧ off / 65536 ≠ 0x1A0 ∧ off / 65536 ≠ 0x1A2) ∧
  (∃ (s : State) (off value : Nat), regRow? off = none ∧ off % 8 = 0 ∧ off < 2 ^ 26 ∧ off / 65536 ≠ 0x1A0 ∧ off / 65536 ≠ 0x1A2) ∧
  (∃ (s : State) (off half value : Nat), regRow? off = none ∧ off % 8 = 0 ∧ off < 2 ^ 26 ∧ off / 65536 ≠ 0x1A0 ∧ off / 65536 ≠ 0x1A2 ∧ half ∈ [0, 4]) :=
  ⟨⟨base, 0x00100028, by decide +kernel⟩,
   ⟨((base.modPower fun p => { p with auxOn := true }).modHost fun h => { h with stage := none }), 0x00100028, by decide +kernel⟩,
   ⟨base, 0x00100028, 5, by decide +kernel⟩,
   ⟨base, 0x00100028, 5, by decide +kernel⟩,
   ⟨base, 0x00100028, 4, 5, by decide +kernel⟩⟩

/-- States and operands that meet the hypotheses of `Obligations.AccumulatorSaturates`, clause by clause. -/
theorem witness_AccumulatorSaturates :
  (∃ (a b : Int), -(2 : Int) ^ 127 ≤ a + b ∧ a + b ≤ (2 : Int) ^ 127 - 1) ∧
  (∃ (a b : Int), (2 : Int) ^ 127 - 1 < a + b) ∧
  (∃ (a b : Int), a + b < -(2 : Int) ^ 127) ∧
  (∃ (floor : Int) (vs : List FVal), vs.length ≤ 256) :=
  ⟨⟨5, (-7), by decide +kernel⟩,
   ⟨(2 ^ 127 - 1), 1, by decide +kernel⟩,
   ⟨(- 2 ^ 127), (-1), by decide +kernel⟩,
   ⟨(-10), (List.replicate 256 (FVal.fin false 1 300)), by decide +kernel⟩⟩

/-- States and operands that meet the hypotheses of `Obligations.PoisonAndWrites`, clause by clause. -/
theorem witness_PoisonAndWrites :
  (∃ (s : State) (pair : Nat) (data : List Byte), pair < 2 ^ 34 ∧ s.stackLost (pairStack pair) = false ∧ data.length = 64) ∧
  (∃ (s : State) (room pair : Nat), s.stackLost (roomStack room) = false ∧ pair / 1024 = room) ∧
  (∃ (s : State) (w a : Nat) (data : List Byte), s.linkUp = true ∧ s.target w = some a ∧ s.poisoned (a / 64) = true ∧ data.length < 64 - w % 64 ∧
    s.mem.merge = []) ∧
  (∃ (s : State) (pair : Nat) (e : MergeEntry), s.mem.merge = [e] ∧ e.pair = pair ∧ s.poisoned pair = true ∧ e.at_ + 128 * s.fld MEM_MERGE_CTRL_HOLD ≤
    s.free) :=
  ⟨⟨(ps base), (wa / 64), (List.replicate 64 5), by decide +kernel⟩,
   ⟨(ps base), 40003, (wa / 64), by decide +kernel⟩,
   ⟨(ps base), wo, wa, [1, 2], by decide +kernel⟩,
   ⟨((ps base).modMem fun m => { m with merge := [me] }).modBell fun u => { u with free := 1000000000 }, (wa / 64), me, by decide +kernel⟩⟩

/-- States and operands that meet the hypotheses of `Obligations.MessageSeverity`, clause by clause. -/
theorem witness_MessageSeverity :
  (∃ (s : State) (source kind address : Nat), sourceListed source = true ∧ faultKindListed kind = true ∧ address < 2 ^ 40 ∧ s.watch.queue.length <
    512) ∧
  (∃ (s : State) (source kind value : Nat), Writable s ∧ source < 1024 ∧ bitsOf value 2 0 ≤ 5) ∧
  (∃ (source kind sev address : Nat), sev < 8) :=
  ⟨⟨base, 3, 0x0A, 0x1234, by decide +kernel⟩,
   ⟨(on base), 3, 0x0A, 13, by decide +kernel⟩,
   ⟨3, 0x0A, 5, 0xFFFFFFFFFFFF, by decide +kernel⟩⟩

/-- States and operands that meet the hypotheses of `Obligations.FirstErrorBits`, clause by clause. -/
theorem witness_FirstErrorBits :
  (∃ (s : State) (source kind address : Nat), sourceListed source = true ∧ faultKindListed kind = true ∧ 2 ≤ s.severity source kind ∧ s.severity
    source kind < 4 ∧ s.sw.agentWait = []) ∧
  (∃ (s : State) (source kind address : Nat), s.severity source kind < 2 ∧ s.sw.agentWait = []) ∧
  (∃ (s : State) (k : Nat), Canon s ∧ k < 16 ∧ s.power.auxOn = true ∧ s.host.writing = []) ∧
  (∃ (s : State) (k : Nat), Canon s ∧ k < 16 ∧ s.power.auxOn = true) ∧
  (∃ (s : State) (k value : Nat), Writable s ∧ k < 16) ∧
  (∃ (s : State) (source kind address : Nat), sourceListed source = true ∧ faultKindListed kind = true ∧ s.severity source kind = 4 ∧ s.tally.ctxs =
    []) ∧
  (∃ (s : State) (source kind address : Nat), sourceListed source = true ∧ faultKindListed kind = true ∧ s.severity source kind = 5 ∧ s.tally.ctxs =
    [] ∧ (∀ p < 256, s.portUp p = false)) :=
  ⟨⟨(sv base), 3, 0x0A, 0x1234, by decide +kernel⟩,
   ⟨(sv base), 3, 0x10, 0x1234, by decide +kernel⟩,
   ⟨pw base, 3, { canon_reset.setReg (WATCH_FIRST 3) 0xF0F0 with }, by decide +kernel⟩,
   ⟨pw base, 3, { canon_reset.setReg (WATCH_FIRST 3) 0xF0F0 with }, by decide +kernel⟩,
   ⟨(on (sv base)), 3, 0xF0F0, by decide +kernel⟩,
   ⟨(base.setReg (WATCH_SEV 3) 12), 3, 0x0A, 0x1234, by decide +kernel⟩,
   ⟨((on (base.setReg (WATCH_SEV 3) 13)).setReg (WATCH_SEV 0x302) 0), 3, 0x0A, 0x1234, by decide +kernel⟩⟩

/-- States and operands that meet the hypotheses of `Obligations.QueueConfiguration`, clause by clause. -/
theorem witness_QueueConfiguration :
  (∃ (s : State) (q value : Nat), q < 2 ∧ (q = 0 ∨ s.stays.notices = []) ∧ value.testBit 63 = true ∧ (s.flag (MB_QCFG_ENABLE q) = false ∨ bitsOf value
    3 0 = s.fld (MB_QCFG_LOG2_ENTRIES q))) ∧
  (∃ (s : State) (q value : Nat), q < 2 ∧ s.flag (MB_QCFG_ENABLE q) = true ∧ 4 ≤ bitsOf value 3 0 ∧ bitsOf value 3 0 ≠ s.fld (MB_QCFG_LOG2_ENTRIES q)) ∧
  (∃ (s : State) (q value : Nat), q < 2 ∧ value.testBit 63 = false ∧ bitsOf value 3 0 = s.fld (MB_QCFG_LOG2_ENTRIES q)) :=
  ⟨⟨(en base), 1, (2 ^ 63 + 9), by decide +kernel⟩,
   ⟨(en base), 1, (2 ^ 63 + 7), by decide +kernel⟩,
   ⟨(en base), 1, 9, by decide +kernel⟩⟩

end Sys2Proof.Tests.Stated
end

