-- ==== Sys2Proof/Tests/WitnessStays.lean ====
section
/-! SUPPORT. For each statement of the group Stays: a state and operands that meet the hypotheses of every clause. -/

-- One proof at a time: in the package as one text, proofs run side by side would only wait for one another.
set_option Elab.async false

namespace Sys2Proof.Tests.Stays

open Sys2Proof Sys2Proof.Machine

/-- The state the witnesses start from. -/
def base : State := State.reset

def prt (p : Nat) (b : State) : State := ((((((b.setReg (LN_PORT_W0 p) (refPortWord p)).setFld (LN_PORT_W2_STATE p) 2).setFld (LN_PORT_W2_V1 p) 0).setFld (LN_PORT_W2_TX_STATE p) 0).setReg (LN_PORT_W3 p) 0).setReg SW_FENCE 0)
def rk (b : State) : State := (b.setReg (SW_PARTY 5) (placed 1 63 63 ||| placed 1 57 42 ||| placed 6 60 58)).setReg (SW_RANK 0) (placed 1 63 63 ||| placed b.coord 18 8)
def crd : List Byte := [0, 0, 0, 0, 0, 0] ++ natLE 2 3 ++ natLE 3 2 ++ [0] ++ zeroBytes 20
def sy (n : Nat) : Stay := { freeStay with state := n, party := 5, gen := 3, tokens := 9, ownerRank := 7 }
def inn (b : State) : State := ((((((prt 7 (rk (b.setReg DV_STATE (placed 4 3 0)))).setReg MEM_STATUS 0).setReg ST_CTRL 1).setReg ST_ADMIT 0).setReg ST_STATUS (placed 90000 63 40)).modSw fun w => { w with threaded := true }).modStays fun u => { u with counted := true, nodeMark := 7 }
def st (i : Nat) (e : Stay) (c : List Byte) (b : State) : State := ((inn b).modStays fun u => { u with table := [(i, e)] }).modMem fun m => { m with bytes := sparseWrite 0 m.bytes (cardAt i) c }
def fr (kind addr : Nat) (p : List Byte) (b : State) : Frame := { blankFrame with kind := kind, vc := 0, party := 5, srcCoord := b.coord, srcPort := 7, address := addr, payload := p, srcRank := 7, tag := 33 }
def mb (a : Nat) (bs : List Byte) (b : State) : State := b.modMem fun m => { m with bytes := sparseWrite 0 m.bytes a bs }
def h2 : Nat := 2 + 3 * 2 ^ 18
def ap (start count fmt : Nat) (d : List Byte) : List Byte := padTo 32 (natLE 3 start ++ natLE 2 count ++ [0, 0, 1] ++ natLE 1 fmt) ++ d
def wq (n : Nat) (b : State) : State := b.modStays fun u => { u with waiting := (List.range n).map fun k => ⟨2 + 16 * k, .request (fr 0x21 h2 (ap 9 0 1 []) b), fr 0x21 h2 (ap 9 0 1 []) b, none, none, none, false⟩ }
def pg : Program := ⟨3, 1, 0, 0, 0, [8, 16, 32, 64, 128, 256, 512, 1024]⟩
def qst (b : State) : State := (mb (ledgerAt 70000) [1] (mb (9 * 256) (natLE 4 70000) (st 2 { sy 1 with root := 9 } crd b))).modClusters fun u => { u with active := some ⟨1, 0, [pg], [], [], []⟩ }
def fk (n : Nat) : List Byte := natLE 3 n ++ [0, 0] ++ [1] ++ [0, 0] ++ natLE 3 1 ++ [0] ++ zeroBytes 20

/-- States and operands that meet the hypotheses of `Obligations.StaysComplete`, clause by clause. -/
theorem witness_StaysComplete :
  (∃ (s : State) (f : Frame) (i : Nat), InnOpen s f ∧ f.address = 0 ∧ cardValid f.payload (some s.coord) = true ∧ (cardOf f.payload).twin = none ∧
    s.freeIndex = some i ∧ (s.stay i).booked = 0 ∧ s.poisoned (cardAt i / 64) = false ∧ s.admits { freeStay with state := 1, priority := (cardOf
    f.payload).priority } ((cardOf f.payload).pages (cardOf f.payload).reserve) = true) ∧
  (∃ (s : State) (f : Frame), Calm s ∧ Answerable s f ∧ s.phase ≠ 6 ∧ s.flag ST_CTRL_ENABLE = false) ∧
  (∃ (s : State) (f : Frame), InnOpen s f ∧ cardValid f.payload (some s.coord) = false) ∧
  (∃ (s : State) (f : Frame) (i : Nat), InTurn s f i ∧ f.kind = 0x21 ∧ (s.stay i).state = 1 ∧ (s.card i).appendOk f.payload (s.stay i).tokens false =
    true ∧ (appendDocket f.payload).count = 0 ∧ (s.stay i).tokens ≤ (appendDocket f.payload).start ∧ (s.stay i).twinValid = false) ∧
  (∃ (s : State) (f : Frame) (i room : Nat), InTurn s f i ∧ f.kind = 0x21 ∧ (s.stay i).state = 1 ∧ (s.card i).appendOk f.payload (s.stay i).tokens
    false = true ∧ (appendDocket f.payload).count = 1 ∧ (appendDocket f.payload).heads = 1 ∧ (appendDocket f.payload).fmt = 1 ∧ (s.card i).kv = 0 ∧
    (s.card i).d ≤ 256 ∧ s.attendsOf i = [] ∧ (s.stay i).twinValid = false ∧ room ≠ 0 ∧ s.ledgerOf room = (1, false) ∧ (s.pageRoom i ((appendDocket
    f.payload).start / (s.card i).tpr * (s.card i).lk + (appendDocket f.payload).layer * (s.card i).kvHeads + (appendDocket f.payload).first)).1 = some
    room) ∧
  (∃ (s : State) (f : Frame) (i : Nat), InTurn s f i ∧ f.kind = 0x21 ∧ (s.stay i).state = 1 ∧ (s.card i).appendOk f.payload (s.stay i).tokens false =
    false) ∧
  (∃ (s : State) (f : Frame), s.engineFull f.address = true) ∧
  (∃ (s : State) (f : Frame) (i : Nat), s.phase ≠ 6 ∧ s.trusted f = true ∧ f.address % 2 ^ 18 = i ∧ s.engineFull f.address = false ∧ s.blocked i =
    true) ∧
  (∃ (s : State) (f : Frame) (i : Nat), InnOpen s f ∧ f.address % 2 ^ 18 = i ∧ s.engineFull f.address = false ∧ s.remirroring i = true ∧ s.blocked i =
    false ∧ docketOk f = true ∧ bitsOf f.address 31 18 = (s.stay i).gen ∧ (s.stay i).party = f.party ∧ (s.stay i).state = 1 ∧ f.kind = 0x21 ∧ s.poisoned
    (cardAt i / 64) = false) ∧
  (∃ (s : State) (index : Nat), (s.phase = 6 ∨ (Calm s ∧ ∀ w ∈ s.stays.waiting, w.index ≠ index))) ∧
  (∃ (s : State) (f : Frame) (i : Nat), InnOpen s f ∧ f.address % 2 ^ 18 = i ∧ f.kind = 0x21 ∧ docketOk f = true ∧ bitsOf f.address 31 18 = (s.stay
    i).gen ∧ (s.stay i).party = f.party ∧ s.poisoned (cardAt i / 64) = false ∧ s.remirroring i = false ∧ s.stays.waiting = [⟨i, .request f, f, none,
    none, none, false⟩] ∧ (s.stay i).state = 1 ∧ (s.card i).appendOk f.payload (s.stay i).tokens false = true ∧ (appendDocket f.payload).count = 0 ∧
    (s.stay i).tokens ≤ (appendDocket f.payload).start ∧ (s.stay i).twinValid = false) ∧
  (∃ (s : State) (f : Frame) (i cls : Nat) (prog : Program) (rooms : List Nat), InTurn s f i ∧ f.kind = 0x22 ∧ (s.stay i).state = 1 ∧ s.stays.queries
    = [] ∧ bitsOf f.address 49 40 = 0 ∧ f.payload.length ≤ 4096 ∧ f.payload.length = 2 * (s.card i).qHeads * (s.card i).d ∧ bitsOf f.address 39 32 <
    (s.card i).layers ∧ s.programOf (s.card i) = some prog ∧ (s.stay i).inflight < 63 ∧ s.stays.placing = [] ∧ (s.card i).window = 0 ∧ classFor prog
    ((s.card i).roomSet (bitsOf f.address 39 32) 0 (s.stay i).tokens).length = some cls ∧ (State.roomsOf ((s.card i).roomSet (bitsOf f.address 39 32) 0
    (s.stay i).tokens) s i).1 = some rooms ∧ (∀ r ∈ rooms, s.roomBad r = false) ∧ 0 < f.payload.length) ∧
  (∃ (s : State) (f : Frame), s.phase ≠ 6 ∧ s.trusted f = true ∧ s.stays.queries = [] ∧ 1 ≤ bitsOf f.address 47 44 ∧ bitsOf f.address 43 40 = 0 ∧
    bitsOf f.address 49 48 = 0) ∧
  (∃ (s : State) (q : Query), s.stays.queries = [q] ∧ q.at_ + s.usOf ST_CTRL_ASSEMBLE_WAIT ≤ s.free ∧ Calm s ∧ Answerable s q.frame) ∧
  (∃ (s : State) (q : Query), s.stays.queries = [q] ∧ s.free < q.at_ + s.usOf ST_CTRL_ASSEMBLE_WAIT) :=
  ⟨⟨(inn base), (fr 0x20 0 crd base), 0, by decide +kernel⟩,
   ⟨((inn base).setReg ST_CTRL 0), (fr 0x20 0 crd base), by decide +kernel⟩,
   ⟨(inn base), (fr 0x20 0 (crd.set 11 1) base), by decide +kernel⟩,
   ⟨(st 2 (sy 1) crd base), (fr 0x21 h2 (ap 9 0 1 []) base), 2, by decide +kernel⟩,
   ⟨(mb (ledgerAt 70000) [1] (mb (9 * 256) (natLE 4 70000) (st 2 { sy 1 with root := 9 } crd base))), (fr 0x21 h2 (ap 9 1 1 (List.range 256 |>.map (BitVec.ofNat 8))) base), 2, 70000, by decide +kernel⟩,
   ⟨(st 2 (sy 1) crd base), (fr 0x21 h2 (ap 9 1 1 []) base), 2, by decide +kernel⟩,
   ⟨(wq 256 (st 2 (sy 1) crd base)), (fr 0x21 h2 (ap 9 0 1 []) base), by decide +kernel⟩,
   ⟨(wq 255 (st 2 (sy 1) crd base)), (fr 0x21 h2 (ap 9 0 1 []) base), 2, by decide +kernel⟩,
   ⟨((st 2 (sy 1) crd base).modStays fun u => { u with mirrors := [⟨33, 2, 4, .nobody, none, false, some 1, 1, 0⟩] }), (fr 0x21 h2 (ap 9 0 1 []) base), 2, by decide +kernel⟩,
   ⟨(base.setReg DV_STATE (placed 6 3 0)), 5, by decide +kernel⟩,
   ⟨((st 2 (sy 1) crd base).modStays fun u => { u with waiting := [⟨2, .request (fr 0x21 h2 (ap 9 0 1 []) base), (fr 0x21 h2 (ap 9 0 1 []) base), none, none, none, false⟩]}), (fr 0x21 h2 (ap 9 0 1 []) base), 2, by decide +kernel⟩,
   ⟨(qst base), (fr 0x22 h2 (List.replicate 128 5) base), 2, 0, pg, [70000], by decide +kernel⟩,
   ⟨(qst base), (fr 0x22 (h2 + 2 ^ 44) (List.replicate 128 5) base), by decide +kernel⟩,
   ⟨(((inn base).modStays fun u => { u with queries := [newQuery (fr 0x22 (h2 + 2 ^ 44) [] base) 0] }).modBell fun u => { u with free := 8000 * 65536 }), (newQuery (fr 0x22 (h2 + 2 ^ 44) [] base) 0), by decide +kernel⟩,
   ⟨((inn base).setReg ST_CTRL (placed 65535 47 32)).modStays fun u => { u with queries := [newQuery (fr 0x22 (h2 + 2 ^ 44) [] base) 0] }, (newQuery (fr 0x22 (h2 + 2 ^ 44) [] base) 0), by decide +kernel⟩⟩

/-- States and operands that meet the hypotheses of `Obligations.StayControlsComplete`, clause by clause. -/
theorem witness_StayControlsComplete :
  (∃ (s : State) (f : Frame), s.phase ≠ 6 ∧ s.trusted f = true ∧ f.kind ∈ [0x27, 0x38, 0x39, 0x3A, 0x3B, 0x3C, 0x3D, 0x3E, 0x3F]) ∧
  (∃ (s : State) (value : Nat), bitsOf value 15 0 < bitsOf value 31 16) ∧
  (∃ (s : State) (value : Nat), bitsOf value 31 16 ≤ bitsOf value 15 0) ∧
  (∃ (s : State) (inbound : Bool) (value : Nat), s.flag ST_CTRL_ENABLE = true) ∧
  (∃ (s : State) (value : Nat), s.flag ST_CTRL_ENABLE = false) ∧
  (∃ (s : State) (value : Nat), s.flag ST_CTRL_ENABLE = false) :=
  ⟨⟨(inn base), (fr 0x27 0 [] base), by decide +kernel⟩,
   ⟨base, 0x8000000000020001, by decide +kernel⟩,
   ⟨base, 0x8000000000020002, by decide +kernel⟩,
   ⟨(base.setReg ST_CTRL 1), true, 0x8000000000020002, by decide +kernel⟩,
   ⟨(base.setReg ST_CTRL 0), 0x8000800000020002, by decide +kernel⟩,
   ⟨(base.setReg ST_CTRL 0), 0x8000800000020002, by decide +kernel⟩⟩

/-- States and operands that meet the hypotheses of `Obligations.StayEndsComplete`, clause by clause. -/
theorem witness_StayEndsComplete :
  (∃ (s : State) (f : Frame) (i j : Nat), InTurn s f i ∧ f.kind = 0x23 ∧ (s.stay i).state = 1 ∧ forkReserved f.payload = true ∧ leAt f.payload 0 3 = 0
    ∧ cardValid (forkCard (s.peek (cardAt i) 32) f.payload) (some s.coord) = true ∧ (cardOf (forkCard (s.peek (cardAt i) 32) f.payload)).twin = none ∧
    s.freeIndex = some j ∧ (s.stay j).booked = 0 ∧ s.poisoned (cardAt j / 64) = false ∧ s.admits { freeStay with state := 1, priority := (cardOf
    (forkCard (s.peek (cardAt i) 32) f.payload)).priority } ((cardOf (forkCard (s.peek (cardAt i) 32) f.payload)).pages (cardOf (forkCard (s.peek
    (cardAt i) 32) f.payload)).reserve) = true) ∧
  (∃ (s : State) (f : Frame) (i j r : Nat), InTurn s f i ∧ f.kind = 0x23 ∧ (s.stay i).state = 1 ∧ forkReserved f.payload = true ∧ leAt f.payload 0 3 ≤
    (s.stay i).tokens ∧ (cardOf (forkCard (s.peek (cardAt i) 32) f.payload)).pages (leAt f.payload 0 3) = 1 ∧ cardValid (forkCard (s.peek (cardAt i) 32)
    f.payload) (some s.coord) = true ∧ (cardOf (forkCard (s.peek (cardAt i) 32) f.payload)).twin = none ∧ s.freeIndex = some j ∧ (s.stay j).booked = 0 ∧
    s.poisoned (cardAt j / 64) = false ∧ s.admits { freeStay with state := 1, priority := (cardOf (forkCard (s.peek (cardAt i) 32) f.payload)).priority
    } ((cardOf (forkCard (s.peek (cardAt i) 32) f.payload)).pages (cardOf (forkCard (s.peek (cardAt i) 32) f.payload)).reserve) = true ∧ (s.stay
    i).depth = 0 ∧ (s.stay i).root < s.stays.nodeMark ∧ (s.pageRoom i 0).1 = some r ∧ r ≠ 0 ∧ (s.ledgerOf r).1 < 65535 ∧ (s.ledgerOf r).2 = false ∧
    s.stays.nodeFree = [] ∧ 0 < s.stays.nodeMark ∧ s.stays.nodeMark < 4194304 ∧ s.poisoned (s.stays.nodeMark * 256 / 64) = false ∧ leNat (s.peek
    (s.stays.nodeMark * 256) 4) = 0) ∧
  (∃ (s : State) (f : Frame) (i : Nat), InTurn s f i ∧ f.kind = 0x24 ∧ (s.stay i).state = 1 ∧ s.moving i = false ∧ byteAt f.payload 0 = 1) ∧
  (∃ (s : State) (f : Frame) (i : Nat), InTurn s f i ∧ f.kind = 0x24 ∧ (s.stay i).state = 1 ∧ s.moving i = false ∧ byteAt f.payload 0 = 2 ∧ leAt
    f.payload 12 2 = 0 ∧ (s.card i).peer = none) ∧
  (∃ (s : State) (f : Frame) (i : Nat), InTurn s f i ∧ f.kind = 0x25 ∧ (s.stay i).state = 1 ∧ s.moving i = false) ∧
  (∃ (s : State) (f : Frame) (i : Nat), InTurn s f i ∧ f.kind = 0x25 ∧ (s.stay i).state = 3 ∧ s.moving i = false ∧ (s.stay i).tokens = 0 ∧ leAt
    f.payload 0 3 < s.fld ST_INBOUND_ROOMS ∧ s.stackLost (pairStack ((s.fld ST_INBOUND_BASE + leAt f.payload 0 3) * 1024)) = false ∧ s.poisoned ((s.fld
    ST_INBOUND_BASE + leAt f.payload 0 3) * 1024) = false ∧ s.peek ((s.fld ST_INBOUND_BASE + leAt f.payload 0 3) * 65536) 44 = s.peek (cardAt i) 32 ++
    natLE 4 0 ++ natLE 4 0 ++ natLE 4 (s.handleOf i) ∧ s.admits (s.stay i) 0 = true ∧ s.handleOf i < 2 ^ 32) ∧
  (∃ (s : State) (f : Frame) (i : Nat), InTurn s f i ∧ f.kind = 0x25 ∧ (s.stay i).state = 4 ∧ s.moving i = false ∧ s.admits (s.stay i) ((s.card
    i).pages (s.stay i).tokens) = true) ∧
  (∃ (s : State) (f : Frame) (i : Nat), InTurn s f i ∧ f.kind = 0x26 ∧ (s.stay i).state = 1 ∧ s.moving i = false) ∧
  (∃ (s : State) (f : Frame) (i : Nat), InTurn s f i ∧ f.kind = 0x26 ∧ (s.stay i).state = 9 ∧ (s.stay i).twinValid = false ∧ s.moving i = false) ∧
  (∃ (s : State) (f : Frame) (i : Nat), Calm s ∧ Answerable s f ∧ (s.stay i).state = 6 ∧ (s.stay i).inflight = 0 ∧ s.phase ≠ 6 ∧ (s.stay i).twinValid
    = false ∧ f.kind = 0x26 ∧ s.stays.waiting = [⟨i, .request f, f, none, none, none, true⟩] ∧ (s.readChart i).1.clean = true) ∧
  (∃ (s : State) (i r : Nat) (ns : List Nat), (s.stay i).state = 6 ∧ (s.stay i).inflight = 0 ∧ s.phase ≠ 6 ∧ s.stays.waiting = [] ∧ s.mem.merge = [] ∧
    (s.readChart i).1 = ⟨ns, [r], true⟩ ∧ s.ledgerOf r = (1, false) ∧ s.stays.vac.length = 8) ∧
  (∃ (s : State) (i : Nat), (s.stay i).state ≠ 6) :=
  ⟨⟨(st 2 (sy 1) crd base), (fr 0x23 h2 (fk 0) base), 2, 0, by decide +kernel⟩,
   ⟨((mb (ledgerAt 70000) [1] (mb (9 * 256) (natLE 4 70000) (st 2 { sy 1 with root := 9 } crd base))).modStays fun u => { u with nodeMark := 10 }), (fr 0x23 h2 (fk 9) base), 2, 0, 70000, by decide +kernel⟩,
   ⟨(st 2 (sy 1) crd base), (fr 0x24 h2 ([1] ++ zeroBytes 31) base), 2, by decide +kernel⟩,
   ⟨(st 2 (sy 1) crd base), (fr 0x24 h2 ([2] ++ zeroBytes 31) base), 2, by decide +kernel⟩,
   ⟨(st 2 (sy 1) crd base), (fr 0x25 h2 (zeroBytes 32) base), 2, by decide +kernel⟩,
   ⟨(mb (40004 * 65536) (crd ++ natLE 8 0 ++ natLE 4 h2) ((st 2 { sy 3 with tokens := 0 } crd base).setReg ST_INBOUND (placed 10 47 24 ||| 40000))), (fr 0x25 h2 (natLE 3 4 ++ zeroBytes 29) base), 2, by decide +kernel⟩,
   ⟨(st 2 { sy 4 with loc := 5 * 2 ^ 18 + 77 } crd base), (fr 0x25 h2 (zeroBytes 32) base), 2, by decide +kernel⟩,
   ⟨(st 2 (sy 1) crd base), (fr 0x26 h2 (zeroBytes 32) base), 2, by decide +kernel⟩,
   ⟨(st 2 (sy 9) crd base), (fr 0x26 h2 (zeroBytes 32) base), 2, by decide +kernel⟩,
   ⟨(mb (ledgerAt 70000) [1] (mb (9 * 256) (natLE 4 70000) (st 2 { sy 6 with root := 9 } crd base))).modStays fun u => { u with waiting := [⟨2, .request (fr 0x26 h2 (zeroBytes 32) base), (fr 0x26 h2 (zeroBytes 32) base), none, none, none, true⟩] }, (fr 0x26 h2 (zeroBytes 32) base), 2, by decide +kernel⟩,
   ⟨(mb (ledgerAt 70000) [1] (mb (9 * 256) (natLE 4 70000) (st 2 { sy 6 with root := 9 } crd base))), 2, 70000, [9], by decide +kernel⟩,
   ⟨base, 2, by decide +kernel⟩⟩

end Sys2Proof.Tests.Stays
end

