-- ==== Sys2Proof/Tests/WitnessSteward.lean ====
section
/-! SUPPORT. For each statement of the group Steward: a state and operands that meet the hypotheses of every clause. -/

-- One proof at a time: in the package as one text, proofs run side by side would only wait for one another.
set_option Elab.async false

namespace Sys2Proof.Tests.Steward

open Sys2Proof Sys2Proof.Machine

/-- The state the witnesses start from. -/
def base : State := State.reset

def aux (b : State) : State := b.modPower (fun w => { w with auxOn := true })
def on (b : State) : State := b.modPower (fun w => { w with auxOn := true, switchClosed := true })
def ph (n : Nat) (b : State) : State := b.setFld DV_STATE_PHASE n

/-- States and operands that meet the hypotheses of `Obligations.StewardAndLimitsComplete`, clause by clause. -/
theorem witness_StewardAndLimitsComplete :
  (∃ (s : State) (coord x y z : Nat), s.power.auxOn = true ∧ s.phase ≤ 3 ∧ coord < 2048 ∧ x < 16 ∧ y < 16 ∧ z < 8 ∧ coordAxis coord 0 ≤ x ∧ coordAxis
    coord 1 ≤ y ∧ coordAxis coord 2 ≤ z) ∧
  (∃ (s : State) (coord port source : Nat), s.power.auxOn = true ∧ s.phase ≤ 3 ∧ coord < 2048 ∧ port < 256 ∧ source < 2) ∧
  (∃ (s : State) (offset : Nat), s.power.auxOn = true ∧ offset % 8 = 0 ∧ offset < 2 ^ 26 ∧ ((s.phase ≠ 0 ∧ s.power.switchClosed = true) ∨ auxRegister
    offset = true)) ∧
  (∃ (s : State) (code : Nat), s.power.auxOn = true) ∧
  (∃ (s : State) (slotB : Bool) (piece c : Nat) (data : List Byte), s.power.auxOn = true ∧ s.host.failed = some c ∧ data.length = 4096 ∧ 4096 * (piece
    + 1) ≤ componentMax c) ∧
  (∃ (s : State) (block power pin iin vin : Nat), block < 22 ∧ s.power.switchClosed = true) ∧
  (∃ (s : State) (block power pin iin vin : Nat), block < 6 ∧ s.power.switchClosed = true ∧ 10 * s.fld (PH_BLOCK_LIMIT block) < power ∧ s.fld
    (PH_BLOCK_STEP block) < 4) ∧
  (∃ (s : State) (block power pin iin vin : Nat), 6 ≤ block ∧ block < 14 ∧ s.power.switchClosed = true ∧ 10 * s.fld (PH_BLOCK_LIMIT block) < power ∧
    s.fld (PH_BLOCK_STEP block) < 2) ∧
  (∃ (s : State) (value : Nat), 4 ≤ value % 8) ∧
  (∃ (s : State) (v : Nat), s.power.clockHeld = some v ∧ v < 8 ∧ s.onBoundary = true ∧ (∀ c ∈ s.clusters.cores, c.launch = none)) ∧
  (∃ (s : State) (inlet outlet hubMax island : Nat), s.power.auxOn = true ∧ s.power.switchClosed = true ∧ toSigned 16 hubMax < 480) ∧
  (∃ (s : State) (inlet outlet hubMax island : Nat), s.power.auxOn = true ∧ s.power.switchClosed = true ∧ 480 ≤ toSigned 16 hubMax) ∧
  (∃ (s : State) (coord x y z port source offset code piece : Nat) (slotB : Bool) (data : List Byte) (c : Instr), s.power.auxOn = false ∧ c ∈
    [.setCoord coord x y z, .setRoot coord port source, .readReg offset, .mctpUnknownCommand code, .recoverWrite slotB piece data]) :=
  ⟨⟨(ph 3 (aux base)), 2047, 15, 15, 7, by decide +kernel⟩,
   ⟨(ph 3 (aux base)), 2047, 255, 1, by decide +kernel⟩,
   ⟨(ph 3 (on base)), 0, by decide +kernel⟩,
   ⟨(aux base), 255, by decide +kernel⟩,
   ⟨((aux base).modHost (fun h => { h with failed := some 5 })), true, 255, 5, (List.replicate 4096 1), by decide +kernel⟩,
   ⟨(on base), 21, 65535, 1, 2, 3, by decide +kernel⟩,
   ⟨(((on base).setFld (PH_BLOCK_LIMIT 5) 100).setFld (PH_BLOCK_STEP 5) 3), 5, 1001, 1, 2, 3, by decide +kernel⟩,
   ⟨(((on base).setFld (PH_BLOCK_LIMIT 13) 100).setFld (PH_BLOCK_STEP 13) 1), 13, 1001, 1, 2, 3, by decide +kernel⟩,
   ⟨base, 4, by decide +kernel⟩,
   ⟨((base.setFld BT_STATUS_SET 0).modBell (fun u => { u with free := 32 })).modPower (fun w => { w with clockHeld := some 7 }), 7, by decide +kernel⟩,
   ⟨(on base), 1, 2, 440, 4, by decide +kernel⟩,
   ⟨(on base), 1, 2, 480, 4, by decide +kernel⟩,
   ⟨(base.modPower (fun w => { w with auxOn := false })), 1, 1, 1, 1, 1, 1, 8, 9, 0, true, [], (.readReg 8), by decide +kernel⟩⟩

end Sys2Proof.Tests.Steward
end

