-- ==== Sys2Proof/Tests/WitnessStopover.lean ====
section
/-! SUPPORT. For each statement of the group Stopover: a state and operands that meet the hypotheses of every clause. -/

-- One proof at a time: in the package as one text, proofs run side by side would only wait for one another.
set_option Elab.async false

namespace Sys2Proof.Tests.Stopover

open Sys2Proof Sys2Proof.Machine

/-- The state the witnesses start from. -/
def base : State := State.reset

def prt (p : Nat) (b : State) : State := ((((((b.setReg (LN_PORT_W0 p) (refPortWord p)).setFld (LN_PORT_W2_STATE p) 2).setFld (LN_PORT_W2_V1 p) 0).setFld (LN_PORT_W2_TX_STATE p) 0).setReg (LN_PORT_W3 p) 0).setReg SW_FENCE 0)
def tk (n : Nat) (b : State) : State := (b.setReg BT_STATUS (placed 1 3 3)).modBell fun u => { u with now := n, free := 1500 * 65536 * 30 }
def md (b : State) : State := ((((((tk 100 (prt 64 (prt 7 (((b.setReg DV_STATE (placed 5 3 0)).setReg DV_COORD (placed 3 14 11)).setReg (SW_DEAD 0) 0)))).setReg MEM_STATUS 0).setReg PH_STOP_STATUS 0).setReg (WATCH_SEV 0x302) 0).setReg PH_RESTORE_STATUS 0).setReg ST_CTRL 0).setReg ST_USE 0 |>.modHealth fun h => { h with stopArmed := false }
def arm (b : State) : State := b.modHealth fun h => { h with stopArmed := true }
def ss (n : Nat) (b : State) : State := b.setFld PH_STOP_STATUS_STATE n
def gu (b : State) : State := (md b).setReg PH_STOP_CFG (placed 1 27 27 ||| placed 1 26 16 ||| placed 1 11 11 ||| placed 1 10 0)
def ff (kind seg seq : Nat) (p : List Byte) : Frame := { blankFrame with kind := kind, vc := 0, party := 5, srcCoord := 1, srcPort := 0xF2, dstPort := 0xF2, address := seg + seq * 2 ^ 15, payload := p, srcRank := 7, tag := 33 }
def gh (b : State) (f : Health → Health) : State := (gu b).modHealth f
def rs (b : State) (f : Health → Health) : State := (((gu b).setFld PH_RESTORE_STATUS_BUSY 1).setFld PH_RESTORE_CTRL_FROM 1).modHealth f
def bg : Background := ⟨0xC031, [], 0, [], false, true⟩

/-- States and operands that meet the hypotheses of `Obligations.StopoverCompletes`, clause by clause. -/
theorem witness_StopoverCompletes :
  (∃ (s : State), s.fld PH_STOP_STATUS_STATE < 2 ∧ s.phase = 5 ∧ s.stackLost 0 = false) ∧
  (∃ (s : State), (2 ≤ s.fld PH_STOP_STATUS_STATE ∨ s.phase ≠ 5) ∧ s.severity 0x302 0x39 < 4) ∧
  (∃ (s : State) (tick : Nat), s.tickAhead tick = true ∧ tick < 2 ^ 64) ∧
  (∃ (s : State) (tick : Nat), s.tickAhead tick = false) ∧
  (∃ (s : State), s.health.stopArmed = true ∧ s.tickAhead (s.fld PH_STOP_TICK_TICK) = true) ∧
  (∃ (s : State), s.health.stopArmed = true ∧ s.tickAhead (s.fld PH_STOP_TICK_TICK) = false) ∧
  (∃ (s : State), s.health.stopArmed = true ∧ s.bellSet = true ∧ s.fld PH_STOP_TICK_TICK ≤ s.now ∧ s.fld PH_STOP_STATUS_STATE < 2 ∧ s.phase = 5 ∧
    s.stackLost 0 = false) ∧
  (∃ (s : State), s.bellSet = true ∧ s.now < s.fld PH_STOP_TICK_TICK) ∧
  (∃ (s : State) (busy : List (Nat × Nat)), s.fld PH_STOP_STATUS_STATE = 2) ∧
  (∃ (s : State), s.fld PH_STOP_STATUS_STATE = 3 ∧ s.flag PH_STOP_CFG_PARTNER_VALID = false ∧ s.health.stopArmed = false ∧ s.severity 0x302 0x39 < 4 ∧
    s.sw.agentWait = [] ∧ (∀ k ∈ s.clusters.cores, k.checks = [])) ∧
  (∃ (s : State), s.fld PH_STOP_STATUS_STATE ≠ 3) ∧
  (∃ (s : State), 2 ≤ s.fld PH_STOP_STATUS_STATE ∧ s.health.stopAt + 1500 * ticksPerUs ≤ s.free ∧ s.health.stopArmed = false ∧ s.severity 0x302 0x39 <
    4 ∧ s.sw.agentWait = [] ∧ (∀ k ∈ s.clusters.cores, k.checks = [])) ∧
  (∃ (s : State), s.free < s.health.stopAt + 1500 * ticksPerUs) ∧
  (∃ (s : State) (value : Nat), value.testBit 63 = true ∧ s.flag PH_RESTORE_STATUS_BUSY = false ∧ s.phase = 5 ∧ s.flag ST_CTRL_ENABLE = false ∧ s.fld
    ST_USE_STAYS_USED = 0 ∧ s.stackLost 0 = false ∧ s.sw.agentWait = [] ∧ RouteTo s (bitsOf value 10 0)) ∧
  (∃ (s : State) (value : Nat), value.testBit 63 = true ∧ s.flag PH_RESTORE_STATUS_BUSY = true) ∧
  (∃ (s : State) (value : Nat), value.testBit 63 = true ∧ s.flag PH_RESTORE_STATUS_BUSY = false ∧ (s.phase ≠ 5 ∨ s.flag ST_CTRL_ENABLE = true) ∧
    s.severity 0x302 0x3A < 4) ∧
  (∃ (s : State), s.flag PH_RESTORE_STATUS_BUSY = true ∧ s.health.restored = true ∧ s.health.restoring = []) ∧
  (∃ (s : State), (s.health.restored = false ∨ s.health.restoring ≠ [])) :=
  ⟨⟨(md base), by decide +kernel⟩,
   ⟨(ss 3 (md base)), by decide +kernel⟩,
   ⟨(ss 0 (md base)), 8100, by decide +kernel⟩,
   ⟨(ss 3 (md base)), 8099, by decide +kernel⟩,
   ⟨(arm (ss 1 (md base))).setReg PH_STOP_TICK 8100, by decide +kernel⟩,
   ⟨(arm (ss 1 (md base))).setReg PH_STOP_TICK 8099, by decide +kernel⟩,
   ⟨(arm (ss 1 (md base))).setReg PH_STOP_TICK 99, by decide +kernel⟩,
   ⟨(arm (ss 1 (md base))).setReg PH_STOP_TICK 101, by decide +kernel⟩,
   ⟨(ss 2 (md base)), [(3, 1), (23, 5)], by decide +kernel⟩,
   ⟨((ss 3 (md base)).setReg PH_STOP_CFG 0), by decide +kernel⟩,
   ⟨(ss 2 (md base)), by decide +kernel⟩,
   ⟨(ss 4 (md base)), by decide +kernel⟩,
   ⟨((ss 4 (md base)).modHealth fun h => { h with stopAt := 30 * 65536 * 1500 }), by decide +kernel⟩,
   ⟨(md base), (2 ^ 63 + 1), by decide +kernel⟩,
   ⟨((md base).setFld PH_RESTORE_STATUS_BUSY 1), (2 ^ 63 + 1), by decide +kernel⟩,
   ⟨((md base).setReg ST_CTRL 1), (2 ^ 63 + 1), by decide +kernel⟩,
   ⟨(((md base).setFld PH_RESTORE_STATUS_BUSY 1).modHealth fun h => { h with restored := true }), by decide +kernel⟩,
   ⟨(md base), by decide +kernel⟩⟩

/-- States and operands that meet the hypotheses of `Obligations.SnapshotFramesComplete`, clause by clause. -/
theorem witness_SnapshotFramesComplete :
  (∃ (s : State) (f : Frame), Calm s ∧ RouteTo s f.srcCoord ∧ s.flag PH_STOP_CFG_GUEST_VALID = true ∧ f.srcCoord = s.fld PH_STOP_CFG_GUEST ∧
    f.payload.length = 4096 ∧ frameSeg f < 0x7FFF ∧ s.health.guestSeq = frameSeq f ∧ s.health.guestDigest = none ∧ s.mem.merge = [] ∧ (∀ n < 8,
    s.stackLost n = false)) ∧
  (∃ (s : State) (f : Frame), Calm s ∧ RouteTo s f.srcCoord ∧ s.fromGuest f = false) ∧
  (∃ (s : State) (f : Frame), Calm s ∧ RouteTo s f.srcCoord ∧ s.fromGuest f = true ∧ f.payload.length ≠ 4096) ∧
  (∃ (s : State) (f : Frame) (bytes : List Byte), Calm s ∧ RouteTo s f.srcCoord ∧ s.fromGuest f = true ∧ f.payload.length = 8 ∧ s.health.guestSeq =
    frameSeq f ∧ gather s.health.guestSegs (leNat f.payload) = some bytes) ∧
  (∃ (s : State) (f : Frame), Calm s ∧ RouteTo s f.srcCoord ∧ s.fromGuest f = true ∧ f.payload.length = 8 ∧ gather s.health.guestSegs (leNat
    f.payload) = none) ∧
  (∃ (s : State) (f : Frame) (len : Nat), Calm s ∧ RouteTo s f.srcCoord ∧ s.fromGuest f = true ∧ f.payload.length = 64 ∧ s.health.guestSeq = frameSeq
    f ∧ s.health.guestDigest = some (len, f.payload)) ∧
  (∃ (s : State) (f : Frame) (len : Nat) (d : List Byte), Calm s ∧ RouteTo s f.srcCoord ∧ s.fromGuest f = true ∧ f.payload.length = 64 ∧
    s.health.guestSeq = frameSeq f ∧ s.health.guestDigest = some (len, d) ∧ f.payload ≠ d) ∧
  (∃ (s : State) (f : Frame) (bank seq len at_ : Nat) (d : List Byte), Calm s ∧ RouteTo s f.srcCoord ∧ s.fromGuest f = true ∧ f.payload = [] ∧
    s.health.guest = some (bank, seq, len, d, at_) ∧ frameSeg f = 0x7FFF) ∧
  (∃ (s : State) (f : Frame) (bank seq len at_ : Nat) (d : List Byte), Calm s ∧ RouteTo s f.srcCoord ∧ s.fromGuest f = true ∧ f.payload = [] ∧
    s.health.guest = some (bank, seq, len, d, at_) ∧ frameSeg f < segments len ∧ frameSeg f ≠ 0x7FFF ∧ s.mem.merge = [] ∧ s.mem.poison = [] ∧ (∀ n < 8,
    s.stackLost n = false)) ∧
  (∃ (s : State) (f : Frame), Calm s ∧ RouteTo s f.srcCoord ∧ s.fromGuest f = true ∧ f.payload = [] ∧ s.health.guest = none) ∧
  (∃ (s : State) (f : Frame), Calm s ∧ RouteTo s f.srcCoord ∧ s.awaitsSegment f = false ∧ s.flag PH_RESTORE_STATUS_BUSY = true ∧ s.health.restored =
    false ∧ f.srcCoord = s.fld PH_RESTORE_CTRL_FROM ∧ s.health.record = none ∧ frameSeg f = 0x7FFF ∧ f.payload.length = 84 ∧ s.host.flash.stop = none) ∧
  (∃ (s : State) (f : Frame) (len at_ : Nat) (d : List Byte), Calm s ∧ s.awaitsSegment f = false ∧ s.flag PH_RESTORE_STATUS_BUSY = true ∧
    s.health.restored = false ∧ f.srcCoord = s.fld PH_RESTORE_CTRL_FROM ∧ s.health.record = some (frameSeq f, len, d, at_) ∧ frameSeg f < segments len ∧
    f.payload.length = 4096 ∧ s.health.segs.length + 1 < segments len) ∧
  (∃ (s : State) (f : Frame) (b : Background), Calm s ∧ s.host.background = some b ∧ b.opcode = 0xC031 ∧ b.ready = false ∧ f.srcCoord = s.fld
    PH_STOP_CFG_PARTNER ∧ f.payload.length = 4096) ∧
  (∃ (s : State) (f : Frame), Calm s ∧ RouteTo s f.srcCoord ∧ s.awaitsSegment f = false ∧ s.flag PH_RESTORE_STATUS_BUSY = false ∧ s.fld
    PH_STOP_STATUS_STATE = 4 ∧ f.srcCoord = s.fld PH_STOP_CFG_PARTNER ∧ frameSeq f = s.fld PH_STOP_STATUS_SEQ ∧ byteAt f.payload 0 = 0 ∧ 72 ≤
    f.payload.length ∧ (f.payload.drop 8).take 64 = s.health.snapDigest ∧ s.health.stopArmed = false ∧ s.health.stopMailbox = false ∧ (∀ k ∈
    s.clusters.cores, k.checks = [])) ∧
  (∃ (s : State) (f : Frame), Calm s ∧ s.awaitsSegment f = false ∧ s.flag PH_RESTORE_STATUS_BUSY = false ∧ s.fld PH_STOP_STATUS_STATE = 4 ∧ f.srcCoord
    = s.fld PH_STOP_CFG_PARTNER ∧ frameSeq f = s.fld PH_STOP_STATUS_SEQ ∧ byteAt f.payload 0 ≠ 0 ∧ s.health.stopArmed = false ∧ (∀ k ∈ s.clusters.cores,
    k.checks = []) ∧ s.severity 0x302 0x39 < 4) ∧
  (∃ (s : State) (f : Frame), Calm s ∧ f.dstPort = 0xF2 ∧ s.awaitsSegment f = false ∧ s.flag PH_RESTORE_STATUS_BUSY = false ∧ s.fld
    PH_STOP_STATUS_STATE = 4 ∧ s.health.stopArmed = false ∧ (∀ k ∈ s.clusters.cores, k.checks = []) ∧ s.severity 0x302 0x39 < 4) ∧
  (∃ (s : State) (f : Frame), Calm s ∧ f.dstPort = 0xF2 ∧ s.awaitsSegment f = false ∧ s.flag PH_RESTORE_STATUS_BUSY = true ∧ s.health.restored = false
    ∧ s.severity 0x302 0x3A < 4) ∧
  (∃ (s : State) (f : Frame), Calm s ∧ f.dstPort ≠ 0xF2) :=
  ⟨⟨(gh base fun h => { h with guestSeq := 9, guestSegs := [(3, [1]), (2, [2])] }), (ff 0x1A 3 9 (List.replicate 4096 5)), by decide +kernel⟩,
   ⟨((gu base).setReg PH_STOP_CFG 0), (ff 0x1A 3 9 (List.replicate 4096 5)), by decide +kernel⟩,
   ⟨(gu base), (ff 0x1A 3 9 (List.replicate 4095 5)), by decide +kernel⟩,
   ⟨(gh base fun h => { h with guestSeq := 9, guestSegs := [(0, List.replicate 4096 7)] }), (ff 0x1B 0 9 (natLE 8 100)), (List.replicate 100 7), by decide +kernel⟩,
   ⟨(gh base fun h => { h with guestSeq := 9, guestSegs := [(0, List.replicate 4096 7)] }), (ff 0x1B 0 9 (natLE 8 5000)), by decide +kernel⟩,
   ⟨(gh base fun h => { h with guestSeq := 9, guestDigest := some (77, List.replicate 64 3) }), (ff 0x1C 0 9 (List.replicate 64 3)), 77, by decide +kernel⟩,
   ⟨(gh base fun h => { h with guestSeq := 9, guestDigest := some (77, List.replicate 64 4) }), (ff 0x1C 0 9 (List.replicate 64 3)), 77, (List.replicate 64 4), by decide +kernel⟩,
   ⟨(gh base fun h => { h with guest := some (1, 9, 5000, List.replicate 64 4, 999) }), (ff 0x1D 0x7FFF 0 []), 1, 9, 5000, 999, (List.replicate 64 4), by decide +kernel⟩,
   ⟨((gh base fun h => { h with guest := some (1, 9, 5000, List.replicate 64 4, 999) }).modMem fun m => { m with bytes := sparseWrite 0 m.bytes (segmentAt 3 1 + 50) [1, 2, 3] }), (ff 0x1D 1 9 []), 1, 9, 5000, 999, (List.replicate 64 4), by decide +kernel⟩,
   ⟨(gh base fun h => { h with guest := none }), (ff 0x1D 1 9 []), by decide +kernel⟩,
   ⟨(rs base id), (ff 0x1E 0x7FFF 0 (natLE 4 9 ++ natLE 8 9000 ++ List.replicate 64 4 ++ natLE 8 3)), by decide +kernel⟩,
   ⟨(rs base fun h => { h with record := some (9, 9000, [], 5), segs := [(1, [3])] }), (ff 0x1E 1 9 (List.replicate 4096 4)), 9000, 5, [], by decide +kernel⟩,
   ⟨((gu base).modHost fun h => { h with background := some bg }), (ff 0x1E 1 9 (List.replicate 4096 4)), bg, by decide +kernel⟩,
   ⟨(((gh base fun h => { h with snapDigest := (List.range 64).map (BitVec.ofNat 8) }).setFld PH_STOP_STATUS_STATE 4).setFld PH_STOP_STATUS_SEQ 9), (ff 0x1F 0 9 (zeroBytes 8 ++ (List.range 64).map (BitVec.ofNat 8))), by decide +kernel⟩,
   ⟨(((gu base).setFld PH_STOP_STATUS_STATE 4).setFld PH_STOP_STATUS_SEQ 9), (ff 0x1F 0 9 [3]), by decide +kernel⟩,
   ⟨((gu base).setFld PH_STOP_STATUS_STATE 4), (ff 0x1F 0 9 [3]), by decide +kernel⟩,
   ⟨(rs base id), (ff 0x1F 0 9 [3]), by decide +kernel⟩,
   ⟨(gu base), { ff 0x1F 0 9 [3] with dstPort := 0xF0 }, by decide +kernel⟩⟩

end Sys2Proof.Tests.Stopover
end

