-- ==== Sys2Proof/Tests/WitnessStores.lean ====
section
/-! SUPPORT. For each statement of the group Stores: a state and operands that meet the hypotheses of every clause. -/

-- One proof at a time: in the package as one text, proofs run side by side would only wait for one another.
set_option Elab.async false

namespace Sys2Proof.Tests.Stores

open Sys2Proof Sys2Proof.Machine

/-- The state the witnesses start from. -/
def base : State := State.reset

def up (b : State) : State := b.setReg MEM_STATUS 0
def prt (p : Nat) (b : State) : State := ((((b.setReg (LN_PORT_W0 p) (refPortWord p)).setFld (LN_PORT_W2_STATE p) 2).setFld (LN_PORT_W2_TX_STATE p) 0).setReg SW_FENCE 0).setReg (SW_EP_PERM p) 0xF000000000000000
def fr (k a : Nat) (pl : List Byte) (b : State) : Frame := { blankFrame with kind := k, vc := 1, tag := 7, srcCoord := b.coord, srcPort := 5, address := a, payload := pl }
def me : MergeEntry := ⟨77, 0xFF, List.replicate 64 1, 0⟩
def sprt (p : Nat) (b : State) : State := ((((((b.setReg (LN_PORT_W0 p) (refPortWord p)).setFld (LN_PORT_W2_STATE p) 2).setFld (LN_PORT_W2_V1 p) 0).setFld (LN_PORT_W2_TX_STATE p) 0).setReg (LN_PORT_W3 p) 0).setReg SW_FENCE 0)
def srk (b : State) : State := (b.setReg (SW_PARTY 5) (placed 1 63 63 ||| placed 1 57 42 ||| placed 6 60 58)).setReg (SW_RANK 0) (placed 1 63 63 ||| placed b.coord 18 8)
def crd : List Byte := [0, 0, 0, 0, 0, 0] ++ natLE 2 3 ++ natLE 3 2 ++ [0] ++ zeroBytes 20
def sy (n : Nat) : Stay := { freeStay with state := n, party := 5, gen := 3, tokens := 9, ownerRank := 7, twinCoord := 1 }
def sinn (b : State) : State := ((((((sprt 64 (sprt 7 (srk (((b.setReg DV_STATE (placed 4 3 0)).setReg DV_COORD (placed 3 14 11)).setReg (SW_DEAD 0) 0)))).setReg MEM_STATUS 0).setReg ST_CTRL 1).setReg ST_ADMIT 0).setReg ST_STATUS (placed 90000 63 40)).modSw fun w => { w with threaded := true }).modStays fun u => { u with counted := true, nodeMark := 7 }
def st (i : Nat) (e : Stay) (c : List Byte) (b : State) : State := ((sinn b).modStays fun u => { u with table := [(i, e)] }).modMem fun m => { m with bytes := sparseWrite 0 m.bytes (cardAt i) c }
def sfr (kind addr : Nat) (p : List Byte) (b : State) : Frame := { blankFrame with kind := kind, vc := 0, party := 5, srcCoord := b.coord, srcPort := 7, address := addr, payload := p, srcRank := 7, tag := 33 }
def ff (kind addr : Nat) (p : List Byte) : Frame := { blankFrame with kind := kind, vc := 0, party := 5, srcCoord := 1, srcPort := 0xF0, address := addr, payload := p, srcRank := 7, tag := 33 }
def mb (a : Nat) (bs : List Byte) (b : State) : State := b.modMem fun m => { m with bytes := sparseWrite 0 m.bytes a bs }
def h2 : Nat := 2 + 3 * 2 ^ 18
def ap (start count fmt : Nat) (d : List Byte) : List Byte := padTo 32 (natLE 3 start ++ natLE 2 count ++ [0, 0, 1] ++ natLE 1 fmt) ++ d
def pgd (b : State) : State := mb (ledgerAt 70000) [1] (mb (9 * 256) (natLE 4 70000) b)
def mv (b : State) : Move := ⟨2, .request (sfr 0x24 h2 [] b), 1, false, false, 1, 77, 0, 0, 33, 4, 2⟩
def q1 (b : State) : State := (b.setReg (MB_QCFG 1) 0xFFFFFFFFFFFFFFFF).setReg (MB_QTAIL 1) 0 |>.setReg (MB_QHEAD 1) 0
def bg : Background := ⟨0xC010, natLE 8 (2 * 2 ^ 32 + 65536 + 3) ++ natLE 4 100, 0, [], true, true⟩
def ar : Arriving := ⟨2, 0, 80000, false⟩

/-- States and operands that meet the hypotheses of `Obligations.StoresKeepOtherBytes`, clause by clause. -/
theorem witness_StoresKeepOtherBytes :
  (∃ (s : State) (w : Nat) (data : List Byte), PoolClean s) ∧
  (∃ (s : State) (w : Nat), PoolClean s) ∧
  (∃ (s : State) (f : Frame), PoolClean s ∧ s.rackCheck f.srcPort f = some 0 ∧ Calm s) ∧
  (∃ (s : State) (f : Frame), PoolClean s ∧ s.rackCheck f.srcPort f = some 0 ∧ Calm s) ∧
  (∃ (s : State) (f : Frame), PoolClean s ∧ s.rackCheck f.srcPort f = some 0 ∧ Calm s) ∧
  (∃ (s : State) (f : Frame), PoolClean s ∧ Calm s) ∧
  (∃ (s : State) (pair : Nat) (e : MergeEntry), s.mem.merge = [e] ∧ e.pair = pair ∧ s.poisoned pair = false ∧ s.stackLost (pairStack pair) = false) ∧
  (∃ (s : State), PoolClean s) ∧
  (∃ (s : State) (g : Background), s.host.background = some g ∧ PoolClean s) ∧
  (∃ (s : State) (f : Frame) (i room : Nat), InTurn s f i ∧ PoolClean s ∧ f.kind = 0x21 ∧ (s.stay i).state = 1 ∧ (s.card i).appendOk f.payload (s.stay
    i).tokens false = true ∧ (appendDocket f.payload).count = 1 ∧ (appendDocket f.payload).heads = 1 ∧ (appendDocket f.payload).fmt = 1 ∧ (s.card i).kv
    = 0 ∧ (s.card i).d ≤ 256 ∧ s.attendsOf i = [] ∧ (s.stay i).twinValid = false ∧ room ≠ 0 ∧ s.ledgerOf room = (1, false) ∧ (s.pageRoom i
    ((appendDocket f.payload).start / (s.card i).tpr * (s.card i).lk + (appendDocket f.payload).layer * (s.card i).kvHeads + (appendDocket
    f.payload).first)).1 = some room) ∧
  (∃ (s : State) (f : Frame) (i : Nat) (a : Arriving), s.phase ≠ 6 ∧ s.trusted f = true ∧ f.address % 2 ^ 18 = i ∧ PoolClean s ∧ f.poison = [] ∧
    s.takesPages (s.card i) i f.srcCoord (bitsOf f.address 41 18) = true ∧ f.payload.length = 4096 ∧ bitsOf f.address 45 42 < 15 ∧
    s.stays.arriving.find? (fun a => a.index == i && a.page == bitsOf f.address 41 18) = some a) ∧
  (∃ (s : State) (f : Frame) (i : Nat), InnPeer s f ∧ PoolClean s ∧ f.payload.length = 36 ∧ cardValid (f.payload.take 32) none = true ∧ s.freeIndex =
    some i) ∧
  (∃ (s : State) (f : Frame) (i : Nat), InnPeer s f ∧ PoolClean s ∧ f.address % 2 ^ 18 = i ∧ bitsOf f.address 20 18 = 1 ∧ (s.stay i).state = 7 ∧
    (s.stay i).twinCoord = f.srcCoord ∧ (s.stay i).party = f.party ∧ s.blocked i = false ∧ (s.card i).appendOk f.payload (s.stay i).tokens true = true ∧
    (appendDocket f.payload).count = 0 ∧ (s.stay i).tokens ≤ (appendDocket f.payload).start) ∧
  (∃ (s : State) (f : Frame) (i r : Nat), InnPeer s f ∧ PoolClean s ∧ f.address % 2 ^ 18 = i ∧ bitsOf f.address 20 18 = 4 ∧ (s.stay i).state = 7 ∧
    (s.stay i).twinCoord = f.srcCoord ∧ (s.stay i).party = f.party ∧ s.blocked i = false ∧ f.poison = [] ∧ f.payload.length = 4096 ∧ bitsOf f.address 48
    45 < 15 ∧ (s.pageRoom i (bitsOf f.address 44 21)).1 = some r ∧ r ≠ 0 ∧ s.ledgerOf r = (1, false)) ∧
  (∃ (s : State) (f : Frame) (i : Nat), InnPeer s f ∧ PoolClean s ∧ f.address % 2 ^ 18 = i ∧ bitsOf f.address 20 18 = 3 ∧ (s.stay i).state = 7 ∧
    (s.stay i).twinCoord = f.srcCoord ∧ (s.stay i).party = f.party ∧ s.blocked i = false) ∧
  (∃ (s : State) (i off head : Nat), PoolClean s ∧ s.stays.waiting = [] ∧ s.ringPlace ((s.card i).pages (s.stay i).tokens + 1) = some (off, head)) :=
  ⟨⟨(up base), 645, [1, 2], by decide +kernel⟩,
   ⟨(up base), 645, by decide +kernel⟩,
   ⟨(up (prt 5 base)), (fr 3 (2^31 + 64) (List.replicate 64 9) base), by decide +kernel⟩,
   ⟨(up (prt 5 base)), (fr 2 (2^31 + 64) (List.replicate 64 9) base), by decide +kernel⟩,
   ⟨(up (prt 5 base)), (fr 1 (2^31 + 5) (natLE 8 100) base), by decide +kernel⟩,
   ⟨(up base), (fr 0x1C 0 (List.replicate 64 9) base), by decide +kernel⟩,
   ⟨((up base).modMem fun m => { m with merge := [me] }), 77, me, by decide +kernel⟩,
   ⟨((up base).setReg PH_STOP_STATUS (placed 3 3 0)), by decide +kernel⟩,
   ⟨(((((up (mb (40001 * 65536 + 3) (List.replicate 100 9) base)).setReg (MB_WINDOW 2) (placed 1 63 63 ||| placed 40000 23 0)).setReg (MB_WINDOW 1) 0).setReg MB_LINK_STATUS (placed 3 3 0)).modHost fun h => { h with background := some bg }), bg, by decide +kernel⟩,
   ⟨(pgd (st 2 { sy 1 with root := 9 } crd base)), (sfr 0x21 h2 (ap 9 1 1 (List.range 256 |>.map (BitVec.ofNat 8))) base), 2, 70000, by decide +kernel⟩,
   ⟨((st 2 (sy 8) crd base).modStays fun u => { u with arriving := [ar] }), (ff 0x34 (2 + 3 * 2 ^ 42) (List.range 4096 |>.map (BitVec.ofNat 8))), 2, ar, by decide +kernel⟩,
   ⟨(sinn base), (ff 0x30 0 (crd ++ natLE 4 h2)), 0, by decide +kernel⟩,
   ⟨(st 2 (sy 7) crd base), (ff 0x30 (2 + 2 ^ 18) (ap 9 0 1 [])), 2, by decide +kernel⟩,
   ⟨(pgd (st 2 { sy 7 with root := 9 } crd base)), (ff 0x30 (2 + 4 * 2 ^ 18 + 3 * 2 ^ 45) (List.range 4096 |>.map (BitVec.ofNat 8))), 2, 70000, by decide +kernel⟩,
   ⟨(pgd (st 2 { sy 7 with root := 9 } crd base)), (ff 0x30 (2 + 3 * 2 ^ 18) []), 2, by decide +kernel⟩,
   ⟨(((q1 ((pgd (st 2 { sy 1 with root := 9 } crd base)).modStays fun u => { u with moves := [mv base] })).setReg ST_STABLE (placed 10 47 24 ||| 40000)).setReg ST_STABLE_HEAD 3 |>.setReg ST_STABLE_TAIL 3), 2, 3, 5, by decide +kernel⟩⟩

end Sys2Proof.Tests.Stores
end

