-- ==== Sys2Proof/Tests/WitnessSwitch.lean ====
section
/-! SUPPORT. For each statement of the group Switch: a state and operands that meet the hypotheses of every clause. -/

-- One proof at a time: in the package as one text, proofs run side by side would only wait for one another.
set_option Elab.async false

namespace Sys2Proof.Tests.Switch

open Sys2Proof Sys2Proof.Machine

/-- The state the witnesses start from. -/
def base : State := State.reset

def prt (p : Nat) (b : State) : State := ((((b.setReg (LN_PORT_W0 p) (refPortWord p)).setFld (LN_PORT_W2_STATE p) 2).setFld (LN_PORT_W2_V1 p) 0).setFld (LN_PORT_W2_TX_STATE p) 0).setReg (LN_PORT_W3 p) 0
def clr (b : State) : State := b.setReg BT_MUSTER_OUT 0
def fr : Frame := { blankFrame with kind := 1, vc := 1, payload := List.replicate 300 7 }
def cpy (id out vc : Nat) : Copy := ⟨id, out, vc, 0, 0, 3, false, 7, 0, true, false, false, false, none⟩
def dsc (id p : Nat) (w : Bool) (f : Frame) : Desc := ⟨id, f, p, portOwner p 1 0, 2, [5, 70], w, none⟩
def with1 (p : Nat) (b : State) : State := b.modSw fun w => { w with nextId := 9, descs := [dsc 8 p false fr, dsc 7 3 true fr], copies := [cpy 8 7 1, cpy 7 6 0], rx := [(p, 8)], threaded := true }
def thr (b : State) : State := b.modSw fun w => {w with threaded := true}
def eb (b : State) : State := (((((((((prt 88 (prt 7 (thr (clr b)))).setFld (SW_POL_W0_ENABLE 177) 0).setFld (SW_EGRESS_RED_EN 58) 0).setFld (SW_EGRESS_QMAX 58) 0).setFld SW_POOL_STATUS_STAGE 0).setReg (SW_OWNER (88*16+4)) (placed 100 39 20 ||| placed 17 19 0)).setReg (SW_OWNER_STAT (88*16+4)) 0).setFld (SW_PORT_CFG_PVID 88) 1).setReg (SW_VLAN_W0 1) 128 |>.setReg (SW_VLAN_W1 1) 0x800000000001FFFF)

/-- States and operands that meet the hypotheses of `Obligations.FramesComplete`, clause by clause. -/
theorem witness_FramesComplete :
  (∃ (s : State) (p q : Nat) (f : Frame), s.canReceive p f = true ∧ s.portKind p = 1 ∧ f.vc = 1 ∧ f.destKind = 3 ∧ f.kind = 0x01 ∧ f.closing = false ∧
    f.streamValid = false ∧ f.dstCoord = s.coord ∧ f.dstPort = q ∧ q < 64 ∧ s.portKind q = 1 ∧ s.portUp q = true ∧ s.regBit SW_FENCE q = false) ∧
  (∃ (s : State) (p id : Nat) (d : Desc), s.rxOf p = some id ∧ s.desc? id = some d ∧ (∃ c ∈ s.sw.copies, c.desc = id) ∧ (∀ c ∈ s.sw.copies, c.out <
    256 ∧ (c.desc = id → c.started = false ∧ c.held = false)) ∧ s.sw.agentWait = []) ∧
  (∃ (s : State) (p id : Nat), s.rxOf p = some id ∧ id < s.sw.nextId) ∧
  (∃ (s : State) (p id : Nat), s.rxOf p = some id ∧ id < s.sw.nextId) ∧
  (∃ (s : State) (p : Nat), s.rxOf p = none ∧ p ∈ s.sw.rxGone) ∧
  (∃ (s : State) (p : Nat) (c : Copy) (r : Drr) (d : Desc), s.portUp p = true ∧ s.portKind p ≠ 3 ∧ s.fld (LN_PORT_W2_TX_STATE p) = 0 ∧ (∀ x ∈
    s.sw.copies, ¬(x.out = p ∧ x.started = true)) ∧ (64 ≤ p ∨ s.regBit SW_FENCE p = false) ∧ (s.touchShapers p).pickClass p = (some c, r) ∧ s.desc?
    c.desc = some d ∧ d.whole = true ∧ s.sw.agentWait = [] ∧ (∀ x ∈ s.sw.copies, x.out < 256)) ∧
  (∃ (s : State) (stream : Nat) (d : Desc), stream < 65536 ∧ d.frame.stream = stream ∧ s.closer stream (fun d _ => decide (d.frame.seq ≤ s.fld
    (streamCountFld d.frame))) = some d) ∧
  (∃ (s : State) (stream : Nat) (d : Desc), stream < 65536 ∧ d.frame.stream = stream ∧ s.closer stream (fun _ at_ => decide (at_ + ticksPerUs * s.fld
    SW_ROUTE_CTRL_STREAM_HOLD ≤ s.free)) = some d ∧ d.id < s.sw.nextId ∧ (∃ c ∈ s.sw.copies, c.desc = d.id) ∧ (∀ c ∈ s.sw.copies, c.desc = d.id →
    c.started = false)) :=
  ⟨⟨(((prt 5 (prt 7 (thr (clr base)))).setReg (SW_OWNER_STAT (portOwner 5 1 0)) (placed 17 39 20 ||| placed 3 19 0)).setFld SW_FENCE_FENCE 0), 5, 7, { fr with dstCoord := base.coord, dstPort := 7 }, by decide +kernel⟩,
   ⟨(with1 5 base), 5, 8, (dsc 8 5 false fr), by decide +kernel⟩,
   ⟨(with1 5 base), 5, 8, by decide +kernel⟩,
   ⟨(with1 5 base), 5, 8, by decide +kernel⟩,
   ⟨(base.modSw fun w => { w with rx := [], rxGone := [4, 5] }), 5, by decide +kernel⟩,
   ⟨(((((prt 6 (with1 5 (clr base))).setReg (SW_CURFEW_CTL 6) 0).setFld SW_FENCE_FENCE 0).setFld (SW_EGRESS_SHAPE_EN 48) 0).modSw fun w => { w with txCredit := [(portOwner 6 0 0, 20)] }), 6, (cpy 7 6 0), (((((prt 6 (with1 5 (clr base))).setReg (SW_CURFEW_CTL 6) 0).setFld SW_FENCE_FENCE 0).setFld (SW_EGRESS_SHAPE_EN 48) 0).modSw fun w => { w with txCredit := [(portOwner 6 0 0, 20)] }).touchShapers 6 |>.pickClass 6 |>.2, (dsc 7 3 true fr), by decide +kernel⟩,
   ⟨(((with1 5 base).modSw fun w => { w with closers := [(3, 8, 0)], copies := [{cpy 8 7 1 with held := true}], descs := [dsc 8 5 true {fr with stream := 3, seq := 2}] }).setFld (SW_STREAM_COUNT0 3) 2), 3, (dsc 8 5 true {fr with stream := 3, seq := 2}), by decide +kernel⟩,
   ⟨(((with1 5 base).modSw fun w => { w with closers := [(3, 8, 0)], copies := [{cpy 8 7 1 with held := true}], descs := [dsc 8 5 true {fr with stream := 3, seq := 2}] }).modBell fun u => { u with free := 8000 * 65536 }), 3, (dsc 8 5 true {fr with stream := 3, seq := 2}), by decide +kernel⟩⟩

/-- States and operands that meet the hypotheses of `Obligations.SwitchCareCompletes`, clause by clause. -/
theorem witness_SwitchCareCompletes :
  (∃ (s : State) (p vc since : Nat), p < 64 ∧ (s.touchSinks p).sw.sinkSince.find? (fun e => e.1 == 8 * p + vc) = some (8 * p + vc, since) ∧ since +
    100 * ticksPerUs * s.fld SW_ROUTE_CTRL_SINK_LIMIT ≤ s.free ∧ s.regBit SW_FENCE p = false ∧ s.sw.agentWait = []) ∧
  (∃ (s : State) (p : Nat) (c : Copy), s.sw.copies.find? (fun c => c.out == p && c.vc == 2 && c.mcast && !c.started) = some c ∧ c.at_ + ticksPerUs *
    s.fld SW_CTRL_MCAST_HOLD ≤ s.free ∧ s.sw.agentWait = [] ∧ (∀ x ∈ s.sw.copies, x.out < 256)) ∧
  (∃ (s : State) (p : Nat), s.portUp p = true ∧ (s.portKind p = 1 ∨ s.portKind p = 2 ∨ s.portKind p = 4) ∧ s.fld (LN_PORT_W2_TX_STATE p) = 0) ∧
  (∃ (s : State) (p k : Nat), s.portUp p = true ∧ s.portKind p = 1 ∧ s.ownerMin (portOwner p 0 0) ≠ 0 ∧ s.paced p 0 = false ∧ k = min 17 (s.ownerMin
    (portOwner p 0 0) + s.shareLimit (portOwner p 0 0) - s.ownerClaimed (portOwner p 0 0)) ∧ 0 < k ∧ s.claimOk (portOwner p 0 0) k = true) ∧
  (∃ (s : State), s.sw.threaded = true) ∧
  (∃ (s : State) (id word : Nat), (s.desc? id).isSome = true ∧ id < s.sw.nextId ∧ (∀ i ∈ s.sw.agentQ, i.id ≠ id)) ∧
  (∃ (s : State) (i : AgentItem) (word : Nat), s.sw.agentQ.find? (fun x => x.id == i.id) = some i ∧ s.sw.agentWait = [] ∧ (∀ x ∈ s.sw.copies, x.out <
    256)) ∧
  (∃ (s : State) (b word : Nat), b < 64 ∧ b ∉ s.sw.banksDown) ∧
  (∃ (s : State) (p c sub word : Nat), s.sw.agentWait = [] ∧ s.severity 0x041 0x06 < 4) ∧
  (∃ (s : State) (b : Nat), b ∈ s.sw.banksDown) ∧
  (∃ (s : State) (p b : Nat) (f : Frame), s.bundleOf p = some b ∧ s.flag DV_COORD_OPEN_MODE = false ∧ f.payload = s.identExpected b) ∧
  (∃ (s : State) (p b : Nat) (f : Frame), s.bundleOf p = some b ∧ s.flag DV_COORD_OPEN_MODE = false ∧ f.payload ≠ s.identExpected b) ∧
  (∃ (s : State) (p q : Nat) (eth : List Byte) (fcsOk : Bool), s.portKind p = 3 ∧ s.portUp p = true ∧ s.inHeld p = false ∧ s.ownerMin (portOwner p 2
    0) ≠ 0 ∧ s.claimOk (portOwner p 2 0) 16 = true ∧ etherType eth ≠ 0x8808 ∧ s.bridgeTargets p eth = some [q] ∧ s.portUp q = true ∧ s.flag
    (SW_POL_W0_ENABLE (2 * p + 1)) = false ∧ s.fld SW_POOL_STATUS_STAGE < 3 ∧ s.flag (SW_EGRESS_RED_EN (8 * q + 2)) = false ∧ s.fld (SW_EGRESS_QMAX (8 *
    q + 2)) = 0) ∧
  (∃ (s : State) (p : Nat) (eth : List Byte) (fcsOk : Bool), s.portKind p = 3 ∧ s.portUp p = true ∧ s.inHeld p = false ∧ s.ownerMin (portOwner p 2 0)
    ≠ 0 ∧ s.claimOk (portOwner p 2 0) 16 = true ∧ (etherType eth = 0x8808 ∨ s.bridgeTargets p eth = none)) ∧
  (∃ (s : State) (p : Nat) (eth : List Byte) (fcsOk : Bool), s.portKind p = 3 ∧ s.portUp p = true ∧ s.inHeld p = false ∧ (s.ownerMin (portOwner p 2 0)
    = 0 ∨ s.claimOk (portOwner p 2 0) 16 = false)) :=
  ⟨⟨((((prt 6 base).setFld SW_FENCE_FENCE 0).modSw fun w => { w with descs := [dsc 8 5 true fr], copies := [cpy 8 6 1], sinkSince := [(49, 0)] }).modBell fun u => {u with free := 800000 * 256}), 6, 1, 0, by decide +kernel⟩,
   ⟨(((with1 5 base).modSw fun w => { w with copies := [{cpy 8 7 2 with mcast := true}] }).modBell fun u => {u with free := 8000 * 65536}), 7, {cpy 8 7 2 with mcast := true}, by decide +kernel⟩,
   ⟨(prt 64 (thr base)), 64, by decide +kernel⟩,
   ⟨((((((prt 6 (thr base)).setReg (SW_OWNER 96) (placed 17 19 0 ||| placed 100 39 20)).setReg (SW_OWNER_STAT 96) 0).setFld (SW_POL_W0_ENABLE 12) 0))), 6, 17, by decide +kernel⟩,
   ⟨(thr base), by decide +kernel⟩,
   ⟨(with1 5 base), 8, 77, by decide +kernel⟩,
   ⟨(base.modSw fun w => { w with agentQ := [⟨9, fr, 4, 5, 80, 2, [5, 70]⟩] }), ⟨9, fr, 4, 5, 80, 2, [5, 70]⟩, 78, by decide +kernel⟩,
   ⟨(with1 5 base), 63, 79, by decide +kernel⟩,
   ⟨(((with1 5 base).modSw fun w => { w with copies := [cpy 8 7 1, {cpy 8 7 1 with started := true}, cpy 7 6 0] }).setReg (WATCH_SEV 0x41) 0), 7, 1, 0, 80, by decide +kernel⟩,
   ⟨(base.modSw fun w => { w with banksDown := [3, 4] }), 4, by decide +kernel⟩,
   ⟨(((prt 64 base).setFld DV_COORD_OPEN_MODE 0).modSw fun w => { w with miscabled := [0] }), 64, 0, { fr with payload := base.identExpected 0 }, by decide +kernel⟩,
   ⟨((prt 64 base).setFld DV_COORD_OPEN_MODE 0), 64, 0, fr, by decide +kernel⟩,
   ⟨(eb base), 88, 7, (List.replicate 64 0xFF), true, by decide +kernel⟩,
   ⟨(eb base), 88, (List.replicate 12 0xFF ++ [0x88, 0x08]), true, by decide +kernel⟩,
   ⟨((eb base).modSw fun w => { w with threaded := false }), 88, [], true, by decide +kernel⟩⟩

end Sys2Proof.Tests.Switch
end

