-- ==== Sys2Proof/Tests/WitnessTables.lean ====
section
/-! SUPPORT. For each statement of the group Tables: a state and operands that meet the hypotheses of every clause. -/

-- One proof at a time: in the package as one text, proofs run side by side would only wait for one another.
set_option Elab.async false

namespace Sys2Proof.Tests.Tables

open Sys2Proof Sys2Proof.Machine

/-- The state the witnesses start from. -/
def base : State := State.reset

/-- The register rows before SW_PARTYn. -/
def before : List RegRow := regRowsDV0 ++ regRowsWATCH0 ++ regRowsSW0 ++ regRowsSW1 ++ regRowsSW2.take 4

/-- The row of SW_PARTYn. -/
def party : RegRow := regRowsSW2.getD 4 ⟨0, 1, 0, 0, []⟩

theorem regRow_party (p : Nat) (hp : p < 4096) : regRow? (SW_PARTY p) = some party := by
  have h1 : regHome (SW_PARTY p) = 0x340000 + 8 * p := by
    rw [regHome, if_neg]
    · rfl
    · intro h; have : SW_PARTY p = 0x340000 + 8 * p := rfl; omega
  have h2 : regRows = before ++ ([party] ++ regRows.drop (before.length + 1)) := by decide +kernel
  rw [regRow?, h1, h2, find_row_skip before _ _ 0x340000 (by decide +kernel) (by omega), List.cons_append, List.find?_cons]
  have : party.has (0x340000 + 8 * p) = true := by
    simp [RegRow.has, party, regRowsSW2]; omega
  rw [this]

theorem party_flag (p : Nat) (hp : p < 4096) : base.flag (SW_PARTY_VALID p) = false := by
  have h : base.reg (SW_PARTY p) = 0 := by
    show regReset (SW_PARTY p) = 0
    rw [regReset, regRow_party p hp]
    generalize SW_PARTY p = a
    simp [party, regRowsSW2, placed]
  simp [State.flag, SW_PARTY_VALID, State.fld, h]
  decide



/-- States and operands that meet the hypotheses of `Obligations.EntryWritesComplete`, clause by clause. -/
theorem witness_EntryWritesComplete :
  (∃ (s : State) (n value : Nat), n < 32768 ∧ (∀ p < 4096, s.flag (SW_PARTY_VALID p) = false ∨ n < s.fld (SW_PARTY_BASE p) ∨ s.fld (SW_PARTY_BASE p) +
    s.fld (SW_PARTY_GROUPS p) ≤ n ∨ bitsOf value 7 0 + 2 ^ s.fld (SW_PARTY_GROUP_SHIFT p) ≤ 64)) ∧
  (∃ (s : State) (n value p : Nat), n < 32768 ∧ p < 4096 ∧ s.flag (SW_PARTY_VALID p) = true ∧ s.fld (SW_PARTY_BASE p) ≤ n ∧ n < s.fld (SW_PARTY_BASE
    p) + s.fld (SW_PARTY_GROUPS p) ∧ 64 < bitsOf value 7 0 + 2 ^ s.fld (SW_PARTY_GROUP_SHIFT p)) ∧
  (∃ (s : State) (p value : Nat), p < 4096 ∧ bitsOf value 41 27 + bitsOf value 57 42 ≤ 32768 ∧ bitsOf value 62 61 ≤ 1 ∧ bitsOf value 60 58 ≤ 6 ∧ 1 ≤
    bitsOf value 57 42) ∧
  (∃ (s : State) (n value : Nat), n < 65536 ∧ s.flag (SW_STREAM_HELD n) = false) ∧
  (∃ (s : State) (n value : Nat), n < 65536 ∧ s.flag (SW_STREAM_HELD n) = true) ∧
  (∃ (s : State) (n value : Nat), n < 4096 ∧ n % 16 < 12 ∧ (value % 2 ^ 20 = 0 ∨ 17 ≤ value % 2 ^ 20) ∧ value % 2 ^ 20 < 524288 ∧ s.sw.resvSum -
    s.ownerMin n + value % 2 ^ 20 ≤ 524288 ∧ s.sw.agentWait = [] ∧ (∀ c ∈ s.sw.copies, c.out < 256)) ∧
  (∃ (s : State) (n value : Nat), n < 4096 ∧ n % 16 < 12 ∧ 17 ≤ value % 2 ^ 20 ∧ value % 2 ^ 20 < 524288 ∧ 524288 < s.sw.resvSum - s.ownerMin n +
    value % 2 ^ 20) ∧
  (∃ (s : State) (value : Nat), bitsOf value 55 42 < bitsOf value 41 28 ∧ bitsOf value 41 28 < bitsOf value 27 14 ∧ bitsOf value 27 14 < bitsOf value
    13 0) ∧
  (∃ (s : State) (value : Nat), ¬(bitsOf value 55 42 < bitsOf value 41 28 ∧ bitsOf value 41 28 < bitsOf value 27 14 ∧ bitsOf value 27 14 < bitsOf
    value 13 0)) ∧
  (∃ (s : State) (p value : Nat), p < 4096 ∧ s.fld TL_STATUS_RESV_SUM - s.tpMin p + value % 2 ^ 20 ≤ 6144) ∧
  (∃ (s : State) (p value : Nat), p < 4096 ∧ value % 2 ^ 20 ≤ 6144 ∧ 6144 < s.fld TL_STATUS_RESV_SUM - s.tpMin p + value % 2 ^ 20) ∧
  (∃ (s : State) (v value : Nat) (w0 : Word), v < 4096 ∧ sparseGet (s.reg (SW_VLAN_W0 v)) s.sw.held0 (SW_VLAN_W0 v) = w0) ∧
  (∃ (s : State) (m value : Nat) (w0 : Word), m < 512 ∧ sparseGet (s.reg (SW_POL_W0 m)) s.sw.held0 (SW_POL_W0 m) = w0 ∧ s.flag (SW_POL_W0_ENABLE m) =
    false ∧ w0.toNat.testBit 63 = true ∧ 4132 ≤ bitsOf w0.toNat 35 16 ∧ 4132 ≤ bitsOf value 35 16) :=
  ⟨⟨base, 32767, 0xC00000000007FF40, by decide, fun p hp => Or.inl (party_flag p hp)⟩,
   ⟨(base.setReg (SW_PARTY 5) (placed 1 63 63 ||| placed 2 57 42 ||| placed 3 60 58)), 1, 57, 5, by decide +kernel⟩,
   ⟨base, 4095, (2^63 + 6 * 2^58 + 1 * 2^61 + 32767 * 2^27 + 2^42), by decide +kernel⟩,
   ⟨(base.setFld (SW_STREAM_HELD 1) 0), 1, 0xFFFFFFFFFFFFFFFF, by decide +kernel⟩,
   ⟨(base.setFld (SW_STREAM_HELD 65535) 1), 65535, 0xFFFFFFFFFFFFFFFF, by decide +kernel⟩,
   ⟨(base.setFld (SW_OWNER_MIN 4091) 5), 4091, (17 + 2^20), by decide +kernel⟩,
   ⟨(base.setFld (SW_OWNER_MIN 4091) 5), 4091, 524287, by decide +kernel⟩,
   ⟨base, (3 * 2^42 + 4 * 2^28 + 5 * 2^14 + 6 + 2^56), by decide +kernel⟩,
   ⟨base, (3 * 2^42 + 4 * 2^28 + 4 * 2^14 + 6 + 2^56), by decide +kernel⟩,
   ⟨((base.setFld TL_STATUS_RESV_SUM 100).setFld (TL_POOL_MIN 7) 50), 7, 6094, by decide +kernel⟩,
   ⟨((base.setFld TL_STATUS_RESV_SUM 100).setFld (TL_POOL_MIN 7) 50), 7, 6095, by decide +kernel⟩,
   ⟨(base.modSw fun w => { w with held0 := [(SW_VLAN_W0 4095, 77)] }), 4095, 0x8000000000010005, 77, by decide +kernel⟩,
   ⟨((base.setFld (SW_POL_W0_ENABLE 1) 0).modSw fun w => { w with held0 := [(SW_POL_W0 1, (2^63 + 4132 * 2^16 + 7))] }), 1, (5000 * 2^16 + 6), (2^63 + 4132 * 2^16 + 7), by decide +kernel⟩⟩

end Sys2Proof.Tests.Tables
end

