-- ==== Sys2Proof/Tests/WitnessTally.lean ====
section
/-! SUPPORT. For each statement of the group Tally: a state and operands that meet the hypotheses of every clause. -/

-- One proof at a time: in the package as one text, proofs run side by side would only wait for one another.
set_option Elab.async false

namespace Sys2Proof.Tests.Tally

open Sys2Proof Sys2Proof.Machine

/-- The state the witnesses start from. -/
def base : State := State.reset

def prt (p : Nat) (b : State) : State := ((((((b.setReg (LN_PORT_W0 p) (refPortWord p)).setFld (LN_PORT_W2_STATE p) 2).setFld (LN_PORT_W2_V1 p) 0).setFld (LN_PORT_W2_TX_STATE p) 0).setReg (LN_PORT_W3 p) 0).setReg SW_FENCE 0)
def rk (b : State) : State := (b.setReg (SW_PARTY 5) (placed 1 63 63 ||| placed 1 57 42 ||| placed 6 60 58)).setReg (SW_RANK 0) (placed 1 63 63 ||| placed b.coord 18 8)
def slotE (p : Nat) : TSlot := ⟨p, 0, false, true, true, 7, false, 0, 0⟩
def par : Nat := 77
def cx : TCtx := { (default : TCtx) with idx := 3, party := 5, id := 0x123, op := 0, inFmt := 0, outFmt := 0, window := 2, rounds := 3, chunks := 2, members := 1, slots := [slotE 7, slotE 9], root := true, frames := 2, win := [blankChunk 0 0, blankChunk 1 0], parent := par, parentSlot := 4 }
def cn : TCtx := { cx with root := false }
def dn : TChunk := { blankChunk 0 0 with taken := [(0, 0), (1, 0)], doneAt := some (5, 5), lanes := List.replicate 512 3, flags := List.replicate 512 0 }
def tl (cs : List TCtx) (b : State) : State := (((prt 7 (prt 9 (rk (b.setReg DV_STATE (placed 4 3 0))))).modTally fun t => { t with ctxs := cs, threaded := true, sharedFree := 4000 }).modSw fun w => { w with threaded := true })
def fr (kind addr : Nat) (p : List Byte) (b : State) : Frame := { blankFrame with kind := kind, vc := 3, party := 5, srcCoord := b.coord, srcPort := 7, address := addr, payload := p, srcRank := 7, tag := 33 }
def ff (kind addr : Nat) (p : List Byte) (b : State) : Frame := { blankFrame with kind := kind, vc := 3, party := 5, srcCoord := par, srcPort := 0xF1, address := addr, payload := p, tag := 33 }
def nb (b : State) : State := (b.setReg DV_COORD 10)
def clm : List Byte := natLE 2 0x123 ++ [0, 0, 0, 0, 0, 3] ++ natLE 2 0 ++ natLE 2 2 ++ [0, 0] ++ natLE 2 3 ++ natLE 4 2 ++ natLE 4 0x40000 ++ natLE 8 0 ++ natLE 4 0 ++ natLE 4 0 ++ natLE 2 1 ++ natLE 2 0 ++ natLE 4 0 ++ natLE 16 0 ++ natLE 8 (7 + 0x300000) ++ natLE 8 0 ++ natLE 8 (9 + 0x300000) ++ natLE 8 0
def po (c : List TCtx) (b : State) : State := ((tl c b).setReg (TL_POOL 5) (placed 5000 39 20 ||| placed 4 42 40 ||| placed 2 19 0)).setReg (TL_POOL_STAT 5) (placed 1 12 0)
def msg (b : State) : State := (b.setReg (WATCH_SEV 0x60) 0)
def kr : TChunk := { dn with stepped := true, result := some ([1, 2], 4), recvs := [⟨0, 0, 0, false⟩, ⟨1, 0, 0, false⟩] }
def kd : TChunk := { kr with recvs := [⟨0, 0, 0, false⟩, ⟨1, 0, 0, true⟩] }
def cw (c : TCtx) (k : TChunk) : TCtx := { c with win := [k, blankChunk 1 0] }
def pay : List Byte := List.replicate 2048 9
def kp : Kept := ⟨5, 0x123, 4, par, 0, 0, 0, [1], true, none, some 3, 0⟩
def wk (ks : List Kept) (b : State) : State := (po [] (nb b)).modTally fun t => { t with kept := ks, limits := [⟨5, 0x123, par, 4, 0, 1⟩] }
def tr (b : State) : State := ((((prt 64 b).setReg DV_COORD (placed 7 21 19 ||| placed 15 18 15 ||| placed 15 14 11 ||| placed 76 10 0)).setFld DV_COORD_OPEN_MODE 0).setReg (SW_DEAD 1) 0).modSw fun w => { w with miscabled := [] }
def c78 (b : State) : State := tr (po [] b)
def kx : TChunk := { blankChunk 0 0 with taken := [(1, 0)] }
def cf : TCtx := { cx with win := [kx], slots := [slotE 8, slotE 9] }
def cd : TCtx := { cx with op := 10, coll := 4, inFmt := 0, members := 4, cap := 3, win := [] }

/-- States and operands that meet the hypotheses of `Obligations.TallyCompletes`, clause by clause. -/
theorem witness_TallyCompletes :
  (∃ (s : State) (f : Frame), Calm s ∧ Answerable s f ∧ s.phase ≠ 6 ∧ s.halted = false ∧ f.party < 4096 ∧ s.claimValid (claimCtx f.party f.payload)
    f.payload = true ∧ s.tpOk f.party (claimCtx f.party f.payload).claimFrames = true) ∧
  (∃ (s : State) (f : Frame), Calm s ∧ Answerable s f ∧ s.phase ≠ 6 ∧ s.halted = false ∧ f.party < 4096 ∧ s.claimValid (claimCtx f.party f.payload)
    f.payload = true ∧ s.tpOk f.party (claimCtx f.party f.payload).claimFrames = false) ∧
  (∃ (s : State) (f : Frame), Calm s ∧ Answerable s f ∧ s.phase ≠ 6 ∧ s.claimValid (claimCtx f.party f.payload) f.payload = false) ∧
  (∃ (s : State) (f : Frame) (c : TCtx), Calm s ∧ Answerable s f ∧ s.phase ≠ 6 ∧ f.party < 4096 ∧ f.payload.length = 8 ∧ leAt f.payload 2 6 = 0 ∧ leAt
    f.payload 0 2 < 4096 ∧ s.ctx? f.party (leAt f.payload 0 2) = some c) ∧
  (∃ (s : State) (f : Frame), Calm s ∧ Answerable s f ∧ s.phase ≠ 6 ∧ s.ctx? f.party (leAt f.payload 0 2 % 4096) = none) ∧
  (∃ (s : State) (f : Frame), s.phase ≠ 6 ∧ s.trusted f = true ∧ s.sw.agentWait = [] ∧ 0x40 ≤ f.kind ∧ f.kind ≤ 0x5F ∧ f.kind ∉ [0x40, 0x41, 0x50,
    0x51, 0x52, 0x53, 0x54, 0x55, 0x57]) ∧
  (∃ (s : State) (f : Frame) (c : TCtx) (x : TSlot) (k : TChunk), s.phase ≠ 6 ∧ s.trusted f = true ∧ s.sw.agentWait = [] ∧ s.ctxOf f = some c ∧
    c.slot? (tSlot f) = some x ∧ c.op ≠ 10 ∧ tChunk f < c.chunks ∧ c.expects x (c.gOf f) = true ∧ s.fromSlot x f = true ∧ (tPart f, f.payload.length) ∈
    c.parts x ∧ c.gOf f < sparseGet c.window c.credited (tSlot f) ∧ c.gOf f < c.rounds * c.chunks ∧ c.gOf f / c.chunks ∉ c.failedRounds ∧ c.chunk?
    (c.gOf f) = some k ∧ (tSlot f, tPart f) ∉ k.taken) ∧
  (∃ (s : State) (f : Frame) (c : TCtx) (x : TSlot) (k : TChunk), s.phase ≠ 6 ∧ s.trusted f = true ∧ s.sw.agentWait = [] ∧ s.ctxOf f = some c ∧
    c.slot? (tSlot f) = some x ∧ c.op ≠ 10 ∧ tChunk f < c.chunks ∧ c.expects x (c.gOf f) = true ∧ s.fromSlot x f = true ∧ (tPart f, f.payload.length) ∈
    c.parts x ∧ c.gOf f < sparseGet c.window c.credited (tSlot f) ∧ c.gOf f < c.rounds * c.chunks ∧ c.gOf f / c.chunks ∉ c.failedRounds ∧ c.chunk?
    (c.gOf f) = some k ∧ (tSlot f, tPart f) ∈ k.taken) ∧
  (∃ (s : State) (f : Frame), s.phase ≠ 6 ∧ s.trusted f = true ∧ s.sw.agentWait = [] ∧ s.ctxOf f = none) ∧
  (∃ (s : State) (ctx g : Nat) (c : TCtx) (k : TChunk) (x : Nat × TSlot), Calm s ∧ s.ctxAt? ctx = some c ∧ c.chunk? g = some k ∧ c.complete k = true ∧
    k.stepped = false ∧ s.phase ≠ 6 ∧ c.timed = false ∧ c.root = true ∧ x ∈ c.slotsNo ∧ c.reaches x.2 g = true ∧ x.2.isModule = false ∧ Reachable s
    x.2.port ∧ (s.sw.copies.filter (fun y => y.mcast)).length + c.slots.length ≤ 65536) ∧
  (∃ (s : State) (ctx g : Nat) (c : TCtx) (k : TChunk), s.sw.agentWait = [] ∧ s.ctxAt? ctx = some c ∧ c.chunk? g = some k ∧ c.complete k = true ∧
    k.stepped = false ∧ s.phase ≠ 6 ∧ c.timed = false ∧ c.root = false) ∧
  (∃ (s : State) (ctx g : Nat) (c : TCtx) (k : TChunk), s.sw.agentWait = [] ∧ s.ctxAt? ctx = some c ∧ c.chunk? g = some k ∧ c.complete k = true ∧
    k.stepped = false ∧ s.phase ≠ 6 ∧ c.timed = true ∧ s.bellSet = true ∧ scEdge (c.stepTick g) ≤ s.now ∧ c.root = false ∧ c.stepTick g < (k.doneAt.getD
    (0, 0)).2) ∧
  (∃ (s : State) (ctx g : Nat) (c : TCtx) (k : TChunk), s.ctxAt? ctx = some c ∧ c.chunk? g = some k ∧ c.complete k = false) :=
  ⟨⟨(po [] base), (fr 0x40 0 clm base), by decide +kernel⟩,
   ⟨((po [] base).modTally fun t => { t with sharedFree := 0 }), (fr 0x40 0 clm base), by decide +kernel⟩,
   ⟨(po [] base), (fr 0x40 0 (clm.set 13 1) base), by decide +kernel⟩,
   ⟨(po [cx] base), (fr 0x41 0 (natLE 2 0x123 ++ zeroBytes 6) base), cx, by decide +kernel⟩,
   ⟨(po [cx] base), (fr 0x41 0 (natLE 2 0x124 ++ zeroBytes 6) base), by decide +kernel⟩,
   ⟨(po [cx] base), (fr 0x45 0 [] base), by decide +kernel⟩,
   ⟨(po [cx] base), (fr 0x50 0x123 (List.replicate 2048 1) base), cx, (slotE 7), (blankChunk 0 0), by decide +kernel⟩,
   ⟨(po [{ cx with win := [dn, blankChunk 1 0] }] base), (fr 0x50 0x123 (List.replicate 2048 1) base), { cx with win := [dn, blankChunk 1 0] }, (slotE 7), dn, by decide +kernel⟩,
   ⟨(po [cx] base), (fr 0x50 0x124 (List.replicate 2048 1) base), by decide +kernel⟩,
   ⟨(po [{ cx with win := [dn, blankChunk 1 0] }] base), 3, 0, { cx with win := [dn, blankChunk 1 0] }, dn, (0, slotE 7), by decide +kernel⟩,
   ⟨(po [{ cn with win := [dn, blankChunk 1 0] }] base), 3, 0, { cn with win := [dn, blankChunk 1 0] }, dn, by decide +kernel⟩,
   ⟨(((po [{ cn with timed := true, win := [dn, blankChunk 1 0] }] base).modBell fun u => { u with now := 9 }).setFld BT_STATUS_SET 1), 3, 0, { cn with timed := true, win := [dn, blankChunk 1 0] }, dn, by decide +kernel⟩,
   ⟨(po [cx] base), 3, 1, cx, (blankChunk 1 0), by decide +kernel⟩⟩

/-- States and operands that meet the hypotheses of `Obligations.TallyCareCompletes`, clause by clause. -/
theorem witness_TallyCareCompletes :
  (∃ (s : State) (f : Frame) (headerOk : Bool) (c : TCtx) (k : TChunk) (x : Nat × TSlot), s.phase ≠ 6 ∧ s.trusted f = true ∧ s.sw.agentWait = [] ∧
    s.ctxOf f = some c ∧ c.fromParent f = true ∧ tChunk f < c.chunks ∧ c.gOf f / c.chunks ∉ c.failedRounds ∧ f.payload.length = c.resultLength ∧
    c.chunk? (c.gOf f) = some k ∧ k.result = none ∧ x ∈ c.slotsNo ∧ c.reaches x.2 (c.gOf f) = true ∧ x.2.isModule = false ∧ s.regBit SW_FENCE x.2.port =
    false) ∧
  (∃ (s : State) (f : Frame) (c : TCtx) (headerOk : Bool), s.phase ≠ 6 ∧ s.trusted f = true ∧ s.sw.agentWait = [] ∧ s.ctxOf f = some c) ∧
  (∃ (s : State) (f : Frame) (c : TCtx) (x : TSlot) (k : TChunk) (r : TRecv), s.phase ≠ 6 ∧ s.trusted f = true ∧ s.sw.agentWait = [] ∧ s.ctxOf f =
    some c ∧ c.slot? (tSlot f) = some x ∧ c.chunk? (c.gOf f) = some k ∧ k.recvs.find? (fun r => r.slot == tSlot f && !r.done) = some r ∧ s.fromSlot x f
    = true ∧ tChunk f < c.chunks ∧ f.payload.length = 1 ∧ byteAt f.payload 0 = 0 ∧ (∃ y ∈ k.recvs, y.slot ≠ tSlot f ∧ y.done = false)) ∧
  (∃ (s : State) (f : Frame) (c : TCtx) (x : TSlot) (k : TChunk) (r : TRecv), s.phase ≠ 6 ∧ s.trusted f = true ∧ s.sw.agentWait = [] ∧ s.ctxOf f =
    some c ∧ c.slot? (tSlot f) = some x ∧ c.chunk? (c.gOf f) = some k ∧ k.recvs.find? (fun r => r.slot == tSlot f && !r.done) = some r ∧ s.fromSlot x f
    = true ∧ tChunk f < c.chunks ∧ f.payload.length = 1 ∧ byteAt f.payload 0 = 0 ∧ k.result.isSome = true ∧ (∀ y ∈ k.recvs, y.slot = tSlot f ∨ y.done =
    true) ∧ c.failedRounds = [] ∧ c.gOf f < c.limit) ∧
  (∃ (s : State) (f : Frame) (c : TCtx) (x : TSlot) (k : TChunk) (r : TRecv) (b : List Byte) (fl : Nat), Calm s ∧ s.phase ≠ 6 ∧ s.trusted f = true ∧
    s.ctxOf f = some c ∧ c.slot? (tSlot f) = some x ∧ c.chunk? (c.gOf f) = some k ∧ k.recvs.find? (fun r => r.slot == tSlot f && !r.done) = some r ∧
    s.fromSlot x f = true ∧ tChunk f < c.chunks ∧ f.payload.length = 1 ∧ byteAt f.payload 0 ≠ 0 ∧ r.resends < s.fld TL_CTRL_RESEND_MAX ∧ x.isModule =
    false ∧ Reachable s x.port ∧ k.result = some (b, fl)) ∧
  (∃ (s : State) (ctx g slot : Nat) (c : TCtx) (x : TSlot) (k : TChunk) (r : TRecv) (b : List Byte) (fl : Nat), Calm s ∧ s.ctxAt? ctx = some c ∧
    c.slot? slot = some x ∧ c.chunk? g = some k ∧ k.recvs.find? (fun r => r.slot == slot && !r.done) = some r ∧ r.sentAt + s.usOf TL_CTRL_ACK_WAIT ≤
    s.free ∧ r.resends < s.fld TL_CTRL_RESEND_MAX ∧ x.isModule = false ∧ Reachable s x.port ∧ k.result = some (b, fl)) ∧
  (∃ (s : State) (f : Frame) (c : TCtx), s.phase ≠ 6 ∧ s.trusted f = true ∧ s.sw.agentWait = [] ∧ s.ctxOf f = some c ∧ c.fromParent f = true ∧
    f.payload.length = 12 ∧ leAt f.payload 0 6 = 0) ∧
  (∃ (s : State) (f : Frame), s.phase ≠ 6 ∧ s.trusted f = true ∧ s.sw.agentWait = [] ∧ s.ctxOf f = none ∧ s.contributes f = true ∧ f.payload.length =
    12 ∧ f.srcPort = 0xF1 ∧ f.srcCoord ≠ s.coord) ∧
  (∃ (s : State) (f : Frame) (k : Kept), Calm s ∧ RouteTo s f.srcCoord ∧ s.phase ≠ 6 ∧ s.trusted f = true ∧ s.ctxOf f = none ∧ f.srcPort = 0xF1 ∧ k ∈
    s.tally.kept ∧ k.party = f.party ∧ k.id = tId f ∧ k.slot = tSlot f ∧ k.coord = f.srcCoord ∧ k.round % 256 = tRound f ∧ k.chunk = tChunk f) ∧
  (∃ (s : State) (f : Frame) (c : TCtx) (k : TChunk) (x : Nat × List Byte), Calm s ∧ RouteTo s c.parent ∧ s.phase ≠ 6 ∧ s.trusted f = true ∧ s.ctxOf f
    = some c ∧ c.fromParent f = true ∧ c.chunk? (c.gOf f) = some k ∧ k.stepped = true ∧ k.g < c.parentLimit ∧ tChunk f < c.chunks ∧ x ∈ c.partial_ k) ∧
  (∃ (s : State) (f : Frame), s.phase ≠ 6 ∧ s.trusted f = true ∧ s.sw.agentWait = [] ∧ s.ctxOf f = none ∧ s.contributes f = false ∧ f.srcPort = 0xF1) ∧
  (∃ (s : State) (f : Frame) (c : TCtx) (x : Nat × TSlot), Calm s ∧ s.phase ≠ 6 ∧ s.trusted f = true ∧ s.ctxOf f = some c ∧ c.fromParent f = true ∧
    f.payload.length = 8 ∧ 1 ≤ byteAt f.payload 0 ∧ byteAt f.payload 0 ≤ 5 ∧ c.round ≤ leAt f.payload 2 2 ∧ leAt f.payload 2 2 < c.rounds ∧ leAt
    f.payload 2 2 ∉ c.failedRounds ∧ x ∈ c.slotsNo ∧ x.2.isModule = false ∧ Reachable s x.2.port) ∧
  (∃ (s : State) (f : Frame), s.phase ≠ 6 ∧ s.trusted f = true ∧ s.sw.agentWait = [] ∧ s.ctxOf f = none ∧ s.contributes f = true ∧ f.payload.length =
    8 ∧ 1 ≤ byteAt f.payload 0 ∧ byteAt f.payload 0 ≤ 5) ∧
  (∃ (s : State) (ctx : Nat) (c : TCtx) (k : TChunk) (x y : Nat × TSlot), Calm s ∧ s.ctxAt? ctx = some c ∧ c.op ≠ 10 ∧ c.win = [k] ∧ x ∈ c.slotsNo ∧
    x.2.isModule = false ∧ s.regBit SW_FENCE x.2.port = true ∧ c.expects x.2 k.g = true ∧ c.tookAll k x.1 x.2 = false ∧ c.round ≤ k.g / c.chunks ∧ k.g /
    c.chunks < c.rounds ∧ k.g / c.chunks ∉ c.failedRounds ∧ y ∈ c.slotsNo ∧ y.2.isModule = false ∧ Reachable s y.2.port) ∧
  (∃ (s : State) (ctx : Nat) (c : TCtx) (x : TSlot), s.ctxAt? ctx = some c ∧ c.op = 10 ∧ c.round ∉ c.failedRounds ∧ c.round < c.rounds ∧ x ∈ c.slots ∧
    x.contrib = true ∧ x.isModule = false ∧ s.regBit SW_FENCE x.port = true) ∧
  (∃ (s : State) (ctx reason g unit : Nat) (c : TCtx), s.ctxAt? ctx = some c ∧ 1 ≤ reason ∧ reason ≤ 3 ∧ c.round * c.chunks ≤ g ∧ g < c.limit ∧ g /
    c.chunks ∉ c.failedRounds ∧ s.severity 0x060 0x0C < 4 ∧ s.severity (0x061 + unit % 24) 0x07 < 4) ∧
  (∃ (s : State) (ctx g slot : Nat) (c : TCtx) (x : TSlot) (k : TChunk) (st : Nat), Calm s ∧ s.ctxAt? ctx = some c ∧ c.op ≠ 10 ∧ c.slot? slot = some x
    ∧ c.chunk? g = some k ∧ c.timerStart k = some st ∧ k.resends = [] ∧ c.expects x g = true ∧ c.tookAll k slot x = false ∧ st + s.usOf
    TL_CTRL_RESEND_WAIT ≤ s.free ∧ 0 < s.fld TL_CTRL_RESEND_MAX ∧ x.isModule = false ∧ Reachable s x.port) ∧
  (∃ (s : State) (ctx g slot last : Nat) (c : TCtx) (x : TSlot), Calm s ∧ s.ctxAt? ctx = some c ∧ c.op = 10 ∧ c.slot? slot = some x ∧ x.contrib = true
    ∧ c.round ∉ c.failedRounds ∧ c.heardAt = some last ∧ last + s.usOf TL_CTRL_RESEND_WAIT ≤ s.free ∧ c.asks < s.fld TL_CTRL_RESEND_MAX ∧ x.isModule =
    false ∧ Reachable s x.port) ∧
  (∃ (s : State) (f : Frame) (c : TCtx) (x : TSlot), s.phase ≠ 6 ∧ s.trusted f = true ∧ s.sw.agentWait = [] ∧ s.ctxOf f = some c ∧ c.op = 10 ∧ c.inFmt
    = 0 ∧ c.slots.find? (fun y => y.contrib && s.fromSlot y f) = some x ∧ f.address / 2 ^ 12 % 4096 < c.members ∧ f.address / 2 ^ 45 = 0 ∧
    f.payload.length % 4 = 0 ∧ c.dests.find? (fun y => y.member == f.address / 2 ^ 12 % 4096) = none ∧ (c.dests.filter (·.lastSeen)).length < c.members) :=
  ⟨⟨(po [cw cn dn] base), (ff 0x51 (0x123 + 4 * 2 ^ 35) pay base), true, (cw cn dn), dn, (1, slotE 9), by decide +kernel⟩,
   ⟨(po [cw cn dn] (nb base)), (ff 0x51 (0x123 + 4 * 2 ^ 35) pay base), (cw cn dn), true, by decide +kernel⟩,
   ⟨(po [cw cx kr] base), (fr 0x52 0x123 [0] base), (cw cx kr), (slotE 7), kr, ⟨0, 0, 0, false⟩, by decide +kernel⟩,
   ⟨(po [cw cx kd] base), (fr 0x52 0x123 [0] base), (cw cx kd), (slotE 7), kd, ⟨0, 0, 0, false⟩, by decide +kernel⟩,
   ⟨((po [cw cx kr] base).setFld TL_CTRL_RESEND_MAX 3), (fr 0x52 0x123 [1] base), (cw cx kr), (slotE 7), kr, ⟨0, 0, 0, false⟩, [1, 2], 4, by decide +kernel⟩,
   ⟨(((po [cw cx kr] base).setFld TL_CTRL_RESEND_MAX 3).modBell fun u => { u with free := 800000000 }), 3, 0, 1, (cw cx kr), (slotE 9), kr, ⟨1, 0, 0, false⟩, [1, 2], 4, by decide +kernel⟩,
   ⟨(po [cw cn dn] (nb base)), (ff 0x53 (0x123 + 4 * 2 ^ 35) (zeroBytes 6 ++ natLE 2 1 ++ natLE 4 1) base), (cw cn dn), by decide +kernel⟩,
   ⟨(wk [kp, { kp with chunk := 1, sent := false }, { kp with slot := 3 }] base), (ff 0x53 (0x123 + 4 * 2 ^ 35) (natLE 2 0 ++ natLE 4 1 ++ natLE 2 1 ++ natLE 4 1) base), by decide +kernel⟩,
   ⟨((c78 base).modTally fun t => { t with kept := [{ kp with sent := false }, { kp with slot := 3 }] }), (ff 0x54 (0x123 + 4 * 2 ^ 35) [] base), { kp with sent := false }, by decide +kernel⟩,
   ⟨(tr (po [cw { cn with parentLimit := 5 } { dn with stepped := true }] base)), (ff 0x54 (0x123 + 4 * 2 ^ 35) [] base), (cw { cn with parentLimit := 5 } { dn with stepped := true }), { dn with stepped := true }, ((cw cn dn).partial_ { dn with stepped := true }).head!, by decide +kernel⟩,
   ⟨(wk [kp] base), (ff 0x54 (0x124 + 4 * 2 ^ 35) [] base), by decide +kernel⟩,
   ⟨(po [cw cn dn] (nb base)), (ff 0x55 (0x123 + 4 * 2 ^ 35) ([2, 0, 1, 0, 0, 0, 0, 0]) base), (cw cn dn), (0, slotE 7), by decide +kernel⟩,
   ⟨(wk [kp, { kp with chunk := 1, sent := false, core := none }, { kp with slot := 3 }] base), (ff 0x55 (0x123 + 4 * 2 ^ 35) [1, 0, 0, 0, 0, 0, 0, 0] base), by decide +kernel⟩,
   ⟨((po [cf] base).setReg SW_FENCE 0x100), 3, cf, kx, (0, slotE 8), (1, slotE 9), by decide +kernel⟩,
   ⟨((po [{ cd with slots := [slotE 8] }] base).setReg SW_FENCE 0x100), 3, { cd with slots := [slotE 8] }, (slotE 8), by decide +kernel⟩,
   ⟨((msg (po [cx] base)).setReg (WATCH_SEV 0x62) 0), 3, 2, 1, 25, cx, by decide +kernel⟩,
   ⟨(((po [{ cx with firsts := [(0, 0)], win := [kx] }] base).setFld TL_CTRL_RESEND_MAX 3).modBell fun u => { u with free := 800000000 }), 3, 0, 0, { cx with firsts := [(0, 0)], win := [kx] }, (slotE 7), kx, 0, by decide +kernel⟩,
   ⟨(((po [{ cd with heardAt := some 0 }] base).setFld TL_CTRL_RESEND_MAX 3).modBell fun u => { u with free := 800000000 }), 3, 0, 0, 0, { cd with heardAt := some 0 }, (slotE 7), by decide +kernel⟩,
   ⟨(po [cd] base), (fr 0x57 (0x123 + 2 * 2 ^ 12 + 1 * 2 ^ 24) (zeroBytes 16) base), cd, (slotE 7), by decide +kernel⟩⟩

end Sys2Proof.Tests.Tally
end

