-- ==== Sys2Proof/Tests/WitnessTwins.lean ====
section
/-! SUPPORT. For each statement of the group Twins: a state and operands that meet the hypotheses of every clause. -/

-- One proof at a time: in the package as one text, proofs run side by side would only wait for one another.
set_option Elab.async false

namespace Sys2Proof.Tests.Twins

open Sys2Proof Sys2Proof.Machine

/-- The state the witnesses start from. -/
def base : State := State.reset

def prt (p : Nat) (b : State) : State := ((((((b.setReg (LN_PORT_W0 p) (refPortWord p)).setFld (LN_PORT_W2_STATE p) 2).setFld (LN_PORT_W2_V1 p) 0).setFld (LN_PORT_W2_TX_STATE p) 0).setReg (LN_PORT_W3 p) 0).setReg SW_FENCE 0)
def rk (b : State) : State := (b.setReg (SW_PARTY 5) (placed 1 63 63 ||| placed 1 57 42 ||| placed 6 60 58)).setReg (SW_RANK 0) (placed 1 63 63 ||| placed b.coord 18 8)
def crd : List Byte := [0, 0, 0, 0, 0, 0] ++ natLE 2 3 ++ natLE 3 2 ++ [0] ++ zeroBytes 20
def sy (n : Nat) : Stay := { freeStay with state := n, party := 5, gen := 3, tokens := 9, ownerRank := 7, twinCoord := 1 }
def inn (b : State) : State := ((((((prt 64 (prt 7 (rk (((b.setReg DV_STATE (placed 4 3 0)).setReg DV_COORD (placed 3 14 11)).setReg (SW_DEAD 0) 0)))).setReg MEM_STATUS 0).setReg ST_CTRL 1).setReg ST_ADMIT 0).setReg ST_STATUS (placed 90000 63 40)).modSw fun w => { w with threaded := true }).modStays fun u => { u with counted := true, nodeMark := 7 }
def st (i : Nat) (e : Stay) (c : List Byte) (b : State) : State := ((inn b).modStays fun u => { u with table := [(i, e)] }).modMem fun m => { m with bytes := sparseWrite 0 m.bytes (cardAt i) c }
def fr (kind addr : Nat) (p : List Byte) (b : State) : Frame := { blankFrame with kind := kind, vc := 0, party := 5, srcCoord := 0, srcPort := 7, address := addr, payload := p, srcRank := 7, tag := 33 }
def ff (kind addr : Nat) (p : List Byte) : Frame := { blankFrame with kind := kind, vc := 0, party := 5, srcCoord := 1, srcPort := 0xF0, address := addr, payload := p, srcRank := 7, tag := 33 }
def mb (a : Nat) (bs : List Byte) (b : State) : State := b.modMem fun m => { m with bytes := sparseWrite 0 m.bytes a bs }
def h2 : Nat := 2 + 3 * 2 ^ 18
def ap (start count fmt : Nat) (d : List Byte) : List Byte := padTo 32 (natLE 3 start ++ natLE 2 count ++ [0, 0, 1] ++ natLE 1 fmt) ++ d
def mv (kind stage : Nat) (b : State) : Move := ⟨2, .request (fr 0x24 h2 [] b), kind, false, false, 1, 77, stage, 0, 33, 4, 2⟩
def wm (m : Move) (b : State) : State := b.modStays fun u => { u with moves := [m] }
def q1 (b : State) : State := (b.setReg (MB_QCFG 1) 0xFFFFFFFFFFFFFFFF).setReg (MB_QTAIL 1) 0 |>.setReg (MB_QHEAD 1) 0
def pgd (b : State) : State := mb (ledgerAt 70000) [1] (mb (9 * 256) (natLE 4 70000) b)
def ar : Arriving := ⟨2, 0, 80000, false⟩
def wa (b : State) : State := b.modStays fun u => { u with arriving := [ar] }
def low (b : State) : State := (b.setReg ST_STATUS (placed 100 63 40)).setReg ST_EVICT (placed 1 63 63 ||| placed 2 31 16 ||| 1)
def fk (n : Nat) : List Byte := natLE 3 n ++ [0, 0] ++ [1] ++ [0, 0] ++ natLE 3 1 ++ [0] ++ zeroBytes 20
def bk (b : State) : State := b.modStays fun u => { u with waiting := [⟨2, .request (ff 0x30 (2 + 2 ^ 18) (ap 9 0 1 [])), ff 0x30 (2 + 2 ^ 18) (ap 9 0 1 []), some 0, none, none, false⟩] }
def mi (op : Nat) (rep : Option (Nat × List Byte)) (b : State) : Mirroring := ⟨33, 2, op, .request (fr 0x21 h2 [] b), rep, false, none, 1, 0⟩
def wi (m : Mirroring) (b : State) : State := (b.modStays fun u => { u with mirrors := [m] }).setReg (WATCH_SEV 0x80) 0

/-- States and operands that meet the hypotheses of `Obligations.ParksComplete`, clause by clause. -/
theorem witness_ParksComplete :
  (∃ (s : State) (m : Move) (f : Frame) (i off head : Nat), Calm s ∧ Answerable s f ∧ s.move? i = some m ∧ m.kind = 1 ∧ m.evict = false ∧ m.asker =
    .request f ∧ (s.stay i).inflight = 0 ∧ (s.stay i).tokens = 0 ∧ (s.stay i).root = 0 ∧ s.phase ≠ 6 ∧ s.ringPlace 1 = some (off, head) ∧ s.canNotify =
    true ∧ CardClean s i ∧ s.stays.waiting = [] ∧ s.stackLost (roomStack (s.fld ST_STABLE_BASE + off)) = false) ∧
  (∃ (s : State) (m : Move) (f : Frame) (i : Nat), Calm s ∧ Answerable s f ∧ s.move? i = some m ∧ m.kind = 1 ∧ m.evict = false ∧ m.asker = .request f
    ∧ (s.stay i).inflight = 0 ∧ s.phase ≠ 6 ∧ s.fld ST_STABLE_ROOMS = 0 ∧ s.stays.waiting = [] ∧ CardClean s i) ∧
  (∃ (s : State) (m : Move) (i : Nat) (rooms : List Nat), Calm s ∧ RouteTo s m.peer ∧ s.move? i = some m ∧ m.kind = 2 ∧ m.stage = 0 ∧ (s.stay
    i).inflight = 0 ∧ s.phase ≠ 6 ∧ CardClean s i ∧ (State.roomsOf (List.range ((s.card i).pages (s.stay i).tokens)) s i).1 = some rooms) ∧
  (∃ (s : State) (f : Frame) (i : Nat), InnPeer s f ∧ f.payload.length = 44 ∧ cardValid (f.payload.take 32) none = true ∧ leAt f.payload 36 4 =
    (cardOf (f.payload.take 32)).pages (leAt f.payload 32 4) ∧ s.freeIndex = some i ∧ (s.stay i).booked = 0 ∧ s.admits { freeStay with state := 8 }
    (leAt f.payload 36 4) = true) ∧
  (∃ (s : State) (f : Frame), InnPeer s f ∧ f.payload.length ≠ 44) ∧
  (∃ (s : State) (f : Frame) (m : Move) (room : Nat), Calm s ∧ RouteTo s f.srcCoord ∧ s.trusted f = true ∧ s.phase ≠ 6 ∧ s.stays.moves.find? (fun m =>
    m.kind == 2 && m.stage == 1 && m.peer == f.srcCoord && m.tag == f.tag) = some m ∧ byteAt f.payload 0 = 0 ∧ 0 < m.pages ∧ s.mem.merge = [] ∧
    (s.pageRoom m.index 0).1 = some room ∧ room ≠ 0 ∧ s.stackLost (roomStack room) = false ∧ (∀ e ∈ s.mem.poison, e.1 / 1024 ≠ room)) ∧
  (∃ (s : State) (f g : Frame) (m : Move), Calm s ∧ Answerable s g ∧ s.trusted f = true ∧ s.phase ≠ 6 ∧ s.stays.moves.find? (fun m => m.kind == 2 &&
    m.stage == 1 && m.peer == f.srcCoord && m.tag == f.tag) = some m ∧ byteAt f.payload 0 ≠ 0 ∧ m.evict = false ∧ m.asker = .request g ∧ s.stays.waiting
    = []) ∧
  (∃ (s : State) (f : Frame) (i : Nat) (a : Arriving), s.phase ≠ 6 ∧ s.trusted f = true ∧ f.address % 2 ^ 18 = i ∧ CardClean s i ∧ f.poison = [] ∧
    s.takesPages (s.card i) i f.srcCoord (bitsOf f.address 41 18) = true ∧ f.payload.length = 4096 ∧ bitsOf f.address 45 42 < 15 ∧
    s.stays.arriving.find? (fun a => a.index == i && a.page == bitsOf f.address 41 18) = some a ∧ s.stackLost (roomStack a.room) = false) ∧
  (∃ (s : State) (f : Frame) (i : Nat) (a : Arriving), InnPeer s f ∧ f.address % 2 ^ 18 = i ∧ (s.stay i).state = 8 ∧ (s.stay i).twinCoord = f.srcCoord
    ∧ bitsOf f.address 41 18 < (s.card i).pages (s.stay i).tokens ∧ f.payload.length = 4096 ∧ bitsOf f.address 45 42 = 15 ∧ s.poisoned (cardAt i / 64) =
    false ∧ f.poison = [] ∧ s.stays.arriving.find? (fun a => a.index == i && a.page == bitsOf f.address 41 18) = some a ∧ a.mend = false ∧ a.index = i ∧
    a.page = bitsOf f.address 41 18 ∧ a.room < 2 ^ 24 ∧ s.stays.moves = [] ∧ (s.stay i).depth = 0 ∧ 0 < (s.stay i).root ∧ (s.stay i).root < 4194304 ∧
    bitsOf f.address 41 18 < 64 ∧ (∀ e ∈ s.mem.poison, e.1 / 4 ≠ (s.stay i).root)) ∧
  (∃ (s : State) (f : Frame) (m : Move), s.trusted f = true ∧ s.phase ≠ 6 ∧ s.stays.moves.find? (fun m => (m.kind == 2 || m.kind == 4) && m.stage == 2
    && m.peer == f.srcCoord && m.tag == f.tag && m.far == f.address % 2 ^ 18 && m.page == bitsOf f.address 41 18) = some m ∧ byteAt f.payload 0 = 0 ∧
    m.page + 1 < m.pages ∧ (s.pageRoom m.index m.page).1 = some 0) ∧
  (∃ (s : State) (f g : Frame) (m : Move), Calm s ∧ Answerable s g ∧ s.trusted f = true ∧ s.phase ≠ 6 ∧ s.stays.moves.find? (fun m => (m.kind == 2 ||
    m.kind == 4) && m.stage == 2 && m.peer == f.srcCoord && m.tag == f.tag && m.far == f.address % 2 ^ 18 && m.page == bitsOf f.address 41 18) = some m
    ∧ m.kind = 2 ∧ m.evict = false ∧ m.asker = .request g ∧ byteAt f.payload 0 = 0 ∧ m.pages ≤ m.page + 1 ∧ (s.stay m.index).root = 0 ∧ s.stays.waiting
    = []) :=
  ⟨⟨((q1 (wm (mv 1 0 base) (st 2 { sy 1 with tokens := 0 } crd base))).setReg ST_STABLE (placed 10 47 24 ||| 40000)).setReg ST_STABLE_HEAD 3 |>.setReg ST_STABLE_TAIL 3, (mv 1 0 base), (fr 0x24 h2 [] base), 2, 3, 4, by decide +kernel⟩,
   ⟨((wm (mv 1 0 base) (st 2 { sy 1 with tokens := 0 } crd base)).setReg ST_STABLE 40000), (mv 1 0 base), (fr 0x24 h2 [] base), 2, by decide +kernel⟩,
   ⟨(wm (mv 2 0 base) (st 2 (sy 1) crd base)), (mv 2 0 base), 2, [0], by decide +kernel⟩,
   ⟨(inn base), (ff 0x32 0 (crd ++ natLE 4 9 ++ natLE 4 1 ++ natLE 4 77)), 0, by decide +kernel⟩,
   ⟨(inn base), (ff 0x32 0 []), by decide +kernel⟩,
   ⟨(wm (mv 2 1 base) (mb (70000 * 65536 + 5000) [1, 2, 3] (pgd (st 2 { sy 2 with root := 9 } crd base)))), (ff 0x33 0 (padTo 32 ([0, 0, 0, 0] ++ natLE 4 99))), (mv 2 1 base), 70000, by decide +kernel⟩,
   ⟨(wm (mv 2 1 base) (st 2 (sy 2) crd base)), (ff 0x33 0 (padTo 32 [4])), (fr 0x24 h2 [] base), (mv 2 1 base), by decide +kernel⟩,
   ⟨(wa (st 2 (sy 8) crd base)), (ff 0x34 (2 + 3 * 2 ^ 42) (List.range 4096 |>.map (BitVec.ofNat 8))), 2, ar, by decide +kernel⟩,
   ⟨(wa (st 2 { sy 8 with root := 9 } crd base)), (ff 0x34 (2 + 15 * 2 ^ 42) (List.range 4096 |>.map (BitVec.ofNat 8))), 2, ar, by decide +kernel⟩,
   ⟨(wm (mv 2 2 base) (st 2 { sy 2 with tokens := 300 } crd base)), (ff 0x35 77 [0]), (mv 2 2 base), by decide +kernel⟩,
   ⟨(wm { mv 2 2 base with pages := 1 } (st 2 (sy 2) crd base)), (ff 0x35 77 [0]), (fr 0x24 h2 [] base), { mv 2 2 base with pages := 1 }, by decide +kernel⟩⟩

/-- States and operands that meet the hypotheses of `Obligations.RecallsComplete`, clause by clause. -/
theorem witness_RecallsComplete :
  (∃ (s : State) (f : Frame) (i : Nat), InnPeer s f ∧ s.guestOf f = some i ∧ s.moving i = false ∧ 0 < (s.card i).pages (s.stay i).tokens ∧ s.poisoned
    (cardAt i / 64) = false ∧ (s.stay i).root = 0) ∧
  (∃ (s : State) (f : Frame), InnPeer s f ∧ s.guestOf f = none) ∧
  (∃ (s : State) (f : Frame) (i : Nat), InnPeer s f ∧ s.guestOf f = some i ∧ (s.readChart i).1.clean = true) ∧
  (∃ (s : State) (f : Frame) (r : Nat), InnPeer s f ∧ (s.stay (f.address % 2 ^ 18)).twinCoord = f.srcCoord ∧ (s.stay (f.address % 2 ^ 18)).party =
    f.party ∧ (s.stay (f.address % 2 ^ 18)).lends = true ∧ (s.pageRoom (f.address % 2 ^ 18) (bitsOf f.address 44 21)).1 = some r ∧ r ≠ 0 ∧ s.roomBad r =
    false ∧ (∀ e ∈ s.mem.poison, e.1 / 1024 ≠ r)) ∧
  (∃ (s : State) (f : Frame) (m : Move), s.trusted f = true ∧ s.phase ≠ 6 ∧ byteAt f.payload 0 = 0 ∧ bitsOf f.address 20 18 = 0 ∧ s.stays.moves.find?
    (fun m => m.kind == 3 && m.stage == 1 && m.peer == f.srcCoord && m.tag == f.tag) = some m ∧ 0 < m.pages) ∧
  (∃ (s : State) (f g : Frame) (m : Move), Calm s ∧ Answerable s g ∧ s.trusted f = true ∧ s.phase ≠ 6 ∧ byteAt f.payload 0 ≠ 0 ∧ bitsOf f.address 20
    18 = 0 ∧ s.stays.moves.find? (fun m => m.kind == 3 && m.stage == 1 && m.peer == f.srcCoord && m.tag == f.tag) = some m ∧ m.asker = .request g ∧
    s.stays.waiting = []) ∧
  (∃ (s : State), s.flag ST_EVICT_ENABLE = false) ∧
  (∃ (s : State) (i : Nat), s.flag ST_EVICT_ENABLE = true ∧ s.stays.counted = true ∧ s.phase ≠ 6 ∧ s.margin < 256 * s.fld ST_EVICT_LOW ∧ (∀ m ∈
    s.stays.moves, m.evict = false) ∧ 256 * s.fld ST_EVICT_LOW ≤ 256 * s.fld ST_EVICT_HIGH ∧ s.evictChoice = some i ∧ CardClean s i ∧ (s.card i).evictTo
    = 0 ∧ (s.stay i).root = 0) ∧
  (∃ (s : State) (i : Nat), s.flag ST_EVICT_ENABLE = true ∧ s.stays.counted = true ∧ s.phase ≠ 6 ∧ s.margin < 256 * s.fld ST_EVICT_LOW ∧ (∀ m ∈
    s.stays.moves, m.evict = false) ∧ 256 * s.fld ST_EVICT_LOW ≤ 256 * s.fld ST_EVICT_HIGH ∧ s.evictChoice = some i ∧ CardClean s i ∧ (s.card i).evictTo
    = 1) ∧
  (∃ (s : State), s.flag ST_EVICT_ENABLE = true ∧ s.stays.counted = true ∧ s.phase ≠ 6 ∧ s.margin < 256 * s.fld ST_EVICT_LOW ∧ 256 * s.fld
    ST_EVICT_LOW ≤ 256 * s.fld ST_EVICT_HIGH ∧ (∃ m ∈ s.stays.moves, m.evict = true)) :=
  ⟨⟨(st 2 (sy 8) crd base), (ff 0x36 2 []), 2, by decide +kernel⟩,
   ⟨(st 2 (sy 8) crd base), (ff 0x36 3 []), by decide +kernel⟩,
   ⟨(pgd (st 2 { sy 8 with root := 9 } crd base)), (ff 0x36 (2 + 2 ^ 18) []), 2, by decide +kernel⟩,
   ⟨(mb (70000 * 65536 + 5000) [1, 2, 3] (pgd (st 2 { sy 7 with root := 9, twinIndex := 12 } crd base))), (ff 0x36 (2 + 2 * 2 ^ 18) []), 70000, by decide +kernel⟩,
   ⟨(wm (mv 3 1 base) (st 2 (sy 5) crd base)), (ff 0x37 77 [0]), (mv 3 1 base), by decide +kernel⟩,
   ⟨(wm (mv 3 1 base) (st 2 (sy 5) crd base)), (ff 0x37 77 [1]), (fr 0x24 h2 [] base), (mv 3 1 base), by decide +kernel⟩,
   ⟨(base.setFld ST_EVICT_ENABLE 0), by decide +kernel⟩,
   ⟨(low (st 2 (sy 1) crd base)), 2, by decide +kernel⟩,
   ⟨(low (st 2 (sy 1) (crd.set 5 8) base)), 2, by decide +kernel⟩,
   ⟨(low (wm { mv 1 0 base with evict := true } (st 2 (sy 1) (crd.set 5 8) base))), by decide +kernel⟩⟩

/-- States and operands that meet the hypotheses of `Obligations.TwinsComplete`, clause by clause. -/
theorem witness_TwinsComplete :
  (∃ (s : State) (f : Frame) (i : Nat), InnPeer s f ∧ f.payload.length = 36 ∧ cardValid (f.payload.take 32) none = true ∧ s.freeIndex = some i ∧
    (s.stay i).booked = 0 ∧ s.poisoned (cardAt i / 64) = false ∧ s.admits { freeStay with state := 7, priority := (cardOf (f.payload.take 32)).priority
    } ((cardOf (f.payload.take 32)).pages (cardOf (f.payload.take 32)).reserve) = true) ∧
  (∃ (s : State) (f : Frame), InnPeer s f ∧ f.payload.length ≠ 36) ∧
  (∃ (s : State) (f : Frame) (i : Nat), InnPeer s f ∧ f.address % 2 ^ 18 = i ∧ bitsOf f.address 20 18 = 1 ∧ (s.stay i).state = 7 ∧ (s.stay
    i).twinCoord = f.srcCoord ∧ (s.stay i).party = f.party ∧ s.blocked i = false ∧ s.poisoned (cardAt i / 64) = false ∧ (s.card i).appendOk f.payload
    (s.stay i).tokens true = true ∧ (appendDocket f.payload).count = 0 ∧ (s.stay i).tokens ≤ (appendDocket f.payload).start) ∧
  (∃ (s : State) (f : Frame) (i j : Nat), InnPeer s f ∧ f.payload.length = 40 ∧ leAt f.payload 32 4 % 2 ^ 18 = i ∧ bitsOf f.address 20 18 = 2 ∧
    (s.stay i).state = 7 ∧ (s.stay i).twinCoord = f.srcCoord ∧ (s.stay i).party = f.party ∧ s.blocked i = false ∧ s.poisoned (cardAt i / 64) = false ∧
    forkReserved (f.payload.take 32) = true ∧ leAt f.payload 0 3 = 0 ∧ cardValid (forkCard (s.peek (cardAt i) 32) (f.payload.take 32)) none = true ∧
    s.freeIndex = some j ∧ (s.stay j).booked = 0 ∧ s.admits { freeStay with state := 7, priority := (cardOf (forkCard (s.peek (cardAt i) 32)
    (f.payload.take 32))).priority } ((cardOf (forkCard (s.peek (cardAt i) 32) (f.payload.take 32))).pages (cardOf (forkCard (s.peek (cardAt i) 32)
    (f.payload.take 32))).reserve) = true) ∧
  (∃ (s : State) (f : Frame) (i : Nat), InnPeer s f ∧ f.address % 2 ^ 18 = i ∧ bitsOf f.address 20 18 = 3 ∧ (s.stay i).state = 7 ∧ (s.stay
    i).twinCoord = f.srcCoord ∧ (s.stay i).party = f.party ∧ s.blocked i = false ∧ (s.readChart i).1.clean = true) ∧
  (∃ (s : State) (f : Frame) (i : Nat), InnPeer s f ∧ f.address % 2 ^ 18 = i ∧ bitsOf f.address 20 18 = 3 ∧ (s.stay i).state = 7 ∧ (s.stay
    i).twinCoord = f.srcCoord ∧ (s.stay i).party = f.party ∧ s.blocked i = true) ∧
  (∃ (s : State) (f : Frame) (i r : Nat), InnPeer s f ∧ f.address % 2 ^ 18 = i ∧ bitsOf f.address 20 18 = 4 ∧ (s.stay i).state = 7 ∧ (s.stay
    i).twinCoord = f.srcCoord ∧ (s.stay i).party = f.party ∧ s.blocked i = false ∧ s.poisoned (cardAt i / 64) = false ∧ f.poison = [] ∧ f.payload.length
    = 4096 ∧ bitsOf f.address 48 45 < 15 ∧ (s.pageRoom i (bitsOf f.address 44 21)).1 = some r ∧ r ≠ 0 ∧ s.ledgerOf r = (1, false)) ∧
  (∃ (s : State) (f : Frame) (i r : Nat), InnPeer s f ∧ f.address % 2 ^ 18 = i ∧ bitsOf f.address 20 18 = 4 ∧ (s.stay i).state = 7 ∧ (s.stay
    i).twinCoord = f.srcCoord ∧ (s.stay i).party = f.party ∧ s.blocked i = false ∧ s.poisoned (cardAt i / 64) = false ∧ f.poison = [] ∧ f.payload.length
    = 4096 ∧ bitsOf f.address 48 45 = 15 ∧ (s.pageRoom i (bitsOf f.address 44 21)).1 = some r ∧ r ≠ 0 ∧ s.ledgerOf r = (1, false)) ∧
  (∃ (s : State) (f g : Frame) (m : Mirroring) (docket : List Byte), Calm s ∧ Answerable s g ∧ s.trusted f = true ∧ s.phase ≠ 6 ∧
    s.stays.mirrors.find? (fun m => m.tag == f.tag && m.twin == f.srcCoord) = some m ∧ byteAt f.payload 0 = 0 ∧ m.op = 1 ∧ m.asker = .request g ∧
    m.reply = some (0x29, docket)) ∧
  (∃ (s : State) (f g : Frame) (m : Mirroring), Calm s ∧ Answerable s g ∧ s.trusted f = true ∧ s.phase ≠ 6 ∧ s.stays.mirrors.find? (fun m => m.tag ==
    f.tag && m.twin == f.srcCoord) = some m ∧ byteAt f.payload 0 = 0 ∧ m.op = 0 ∧ m.asker = .request g ∧ m.reply = some (0x28, []) ∧ m.copy = none) ∧
  (∃ (s : State) (f g : Frame) (m : Mirroring) (docket : List Byte), Calm s ∧ Answerable s g ∧ s.trusted f = true ∧ s.phase ≠ 6 ∧
    s.stays.mirrors.find? (fun m => m.tag == f.tag && m.twin == f.srcCoord) = some m ∧ byteAt f.payload 0 ≠ 0 ∧ m.op = 1 ∧ m.asker = .request g ∧
    m.reply = some (0x29, docket) ∧ (s.stay m.index).twinValid = true ∧ (s.stay m.index).twinCoord = m.twin ∧ s.severity 0x080 0x18 < 4) ∧
  (∃ (s : State) (g : Frame) (i : Nat) (m : Mirroring) (docket : List Byte), Calm s ∧ Answerable s g ∧ s.stays.mirrors.find? (fun m => m.index == i) =
    some m ∧ m.at_ + s.usOf ST_CTRL_MIRROR_WAIT ≤ s.free ∧ s.phase ≠ 6 ∧ m.op = 1 ∧ m.asker = .request g ∧ m.reply = some (0x29, docket) ∧ (s.stay
    i).twinValid = true ∧ (s.stay i).twinCoord = m.twin ∧ s.severity 0x080 0x18 < 4) ∧
  (∃ (s : State) (i : Nat) (m : Mirroring), s.stays.mirrors.find? (fun m => m.index == i) = some m ∧ (s.free < m.at_ + s.usOf ST_CTRL_MIRROR_WAIT ∨
    s.phase = 6)) ∧
  (∃ (s : State) (value i : Nat), s.flag ST_TAKEOVER_STATUS_BUSY = false ∧ value.testBit 61 = false ∧ value.testBit 62 = false ∧ (s.stay i).state = 7
    ∧ (s.stay i).twinCoord = bitsOf value 28 18) ∧
  (∃ (s : State) (value i : Nat), s.flag ST_TAKEOVER_STATUS_BUSY = false ∧ value.testBit 61 = false ∧ value.testBit 62 = false ∧ ((s.stay i).state ≠ 7
    ∨ (s.stay i).twinCoord ≠ bitsOf value 28 18)) ∧
  (∃ (s : State) (value : Nat), s.flag ST_TAKEOVER_STATUS_BUSY = true) ∧
  (∃ (s : State), s.flag ST_TAKEOVER_STATUS_BUSY = true) ∧
  (∃ (s : State) (value : Nat), Calm s ∧ (s.stay (bitsOf value 17 0)).state = 1 ∧ (s.stay (bitsOf value 17 0)).twinValid = false ∧ RouteTo s (bitsOf
    value 28 18) ∧ CardClean s (bitsOf value 17 0)) :=
  ⟨⟨(inn base), (ff 0x30 0 (crd ++ natLE 4 h2)), 0, by decide +kernel⟩,
   ⟨(inn base), (ff 0x30 0 (crd)), by decide +kernel⟩,
   ⟨(st 2 (sy 7) crd base), (ff 0x30 (2 + 2 ^ 18) (ap 9 0 1 [])), 2, by decide +kernel⟩,
   ⟨(st 2 (sy 7) crd base), (ff 0x30 (2 * 2 ^ 18) (fk 0 ++ natLE 4 2 ++ natLE 4 78)), 2, 0, by decide +kernel⟩,
   ⟨(pgd (st 2 { sy 7 with root := 9 } crd base)), (ff 0x30 (2 + 3 * 2 ^ 18) []), 2, by decide +kernel⟩,
   ⟨(bk (pgd (st 2 { sy 7 with root := 9 } crd base))), (ff 0x30 (2 + 3 * 2 ^ 18) []), 2, by decide +kernel⟩,
   ⟨(pgd (st 2 { sy 7 with root := 9 } crd base)), (ff 0x30 (2 + 4 * 2 ^ 18 + 3 * 2 ^ 45) (List.range 4096 |>.map (BitVec.ofNat 8))), 2, 70000, by decide +kernel⟩,
   ⟨(pgd (st 2 { sy 7 with root := 9 } crd base)), (ff 0x30 (2 + 4 * 2 ^ 18 + 15 * 2 ^ 45) (List.range 4096 |>.map (BitVec.ofNat 8))), 2, 70000, by decide +kernel⟩,
   ⟨(wi (mi 1 (some (0x29, [1, 2, 3, 4])) base) (st 2 (sy 1) crd base)), (ff 0x31 0 [0]), (fr 0x21 h2 [] base), (mi 1 (some (0x29, [1, 2, 3, 4])) base), [1, 2, 3, 4], by decide +kernel⟩,
   ⟨(wi (mi 0 (some (0x28, [])) base) (st 2 (sy 1) crd base)), (ff 0x31 0 ([0, 0, 0, 0] ++ natLE 4 0x7654321)), (fr 0x21 h2 [] base), (mi 0 (some (0x28, [])) base), by decide +kernel⟩,
   ⟨(wi (mi 1 (some (0x29, [1, 2, 3, 4])) base) (st 2 { sy 1 with twinValid := true } crd base)), (ff 0x31 0 [4]), (fr 0x21 h2 [] base), (mi 1 (some (0x29, [1, 2, 3, 4])) base), [1, 2, 3, 4], by decide +kernel⟩,
   ⟨((wi (mi 1 (some (0x29, [1, 2, 3, 4])) base) (st 2 { sy 1 with twinValid := true } crd base)).modBell fun u => { u with free := 8000 * 65536 }), (fr 0x21 h2 [] base), 2, (mi 1 (some (0x29, [1, 2, 3, 4])) base), [1, 2, 3, 4], by decide +kernel⟩,
   ⟨((wi { mi 1 none base with at_ := 1 } (st 2 { sy 1 with twinValid := true } crd base)).modBell fun u => { u with free := 0 }), 2, { mi 1 none base with at_ := 1 }, by decide +kernel⟩,
   ⟨((st 2 { sy 7 with twinCoord := 5 } crd base).setReg ST_TAKEOVER_STATUS 0), (2 ^ 63 + 5 * 2 ^ 18), 2, by decide +kernel⟩,
   ⟨((st 2 { sy 7 with twinCoord := 6 } crd base).setReg ST_TAKEOVER_STATUS 0), (2 ^ 63 + 5 * 2 ^ 18), 2, by decide +kernel⟩,
   ⟨(base.setFld ST_TAKEOVER_STATUS_BUSY 1), 5, by decide +kernel⟩,
   ⟨((base.setFld ST_TAKEOVER_STATUS_BUSY 1).modStays fun u => { u with taken := 5 }), by decide +kernel⟩,
   ⟨(st 2 (sy 1) crd base), (2 ^ 63 + 1 * 2 ^ 18 + 2), by decide +kernel⟩⟩

end Sys2Proof.Tests.Twins
end

