-- ==== Sys2Proof/Tests/WitnessUnits.lean ====
section
/-! SUPPORT. For each statement of the group Units: a state and operands that meet the hypotheses of every clause. -/

-- One proof at a time: in the package as one text, proofs run side by side would only wait for one another.
set_option Elab.async false

namespace Sys2Proof.Tests.Units

open Sys2Proof Sys2Proof.Machine

/-- The state the witnesses start from. -/
def base : State := State.reset

def dsc (la fmt rows cols : Nat) : Nat × Nat := (la + fmt * 2 ^ 48, (rows - 1) + (cols - 1) * 2 ^ 16)
def bk : StoreBank := { bankReset with targets := [5 + 77 * 2 ^ 11 + 9 * 2 ^ 23], descs := [dsc 0 0 1 8, dsc 10 0 1 8, dsc 20 0 1 8, dsc 30 0 1 8, dsc 40 1 1 32, dsc 60 1 8 32, dsc 100 0 1 1, dsc 110 11 1 288, dsc 130 0 8 1, dsc 140 0 1 1] }
def wd (op d a bb lo : Nat) : Nat := op * 2 ^ 56 + d * 2 ^ 21 + a * 2 ^ 11 + bb * 2 + lo
def qw (w x : Nat) : Queued := ⟨w, x, [1, 2, 3, 4, 5, 1, 6, 8, 9, 10, 11, 12, 13, 14, 15, 16], 3, 0⟩
def fdat : List Byte := (List.range 64).map (fun i => if i % 4 = 3 then 0x3F + BitVec.ofNat 8 (i / 4 % 3) else BitVec.ofNat 8 (7 * i))
def un (u : Nat) (q : Queued) (l : Launch) (b : State) : State :=
  (((b.setReg DV_STATE (placed 4 3 0)).setReg (CL_QUAR 1) 0).setReg (CL_DUP 1) 0).modCore 5 fun k => { k with banks := [bk, bk], launch := some l, queues := (List.replicate 5 []).set (u - 1) [q, q], buf := sparseWrite 0 [] 320 fdat }
def emt : Launch := { (default : Launch) with empty := true }
def wk : Launch := { (default : Launch) with slot := 3, bph := 3, kvHeads := 2, rooms := [70000, 70001, 70002, 70003, 70004, 70005] }
def rw : Nat := 0x10 * 2 ^ 56 + 1 * 2 ^ 21 + 1 * 2 ^ 17 + 2 * 2 ^ 11 + 3
def mw : Nat := wd 0x20 0 4 5 0
def prt (p : Nat) (b : State) : State := ((((((b.setReg (LN_PORT_W0 p) (refPortWord p)).setFld (LN_PORT_W2_STATE p) 2).setFld (LN_PORT_W2_V1 p) 0).setFld (LN_PORT_W2_TX_STATE p) 0).setReg (LN_PORT_W3 p) 0).setReg SW_FENCE 0)
def rk (b : State) : State := ((b.setReg (SW_PARTY 5) (placed 1 63 63 ||| placed 1 57 42 ||| placed 6 60 58)).setReg (SW_RANK 0) (placed 1 63 63 ||| placed b.coord 18 8)).modSw fun w => { w with threaded := true }
def atd (b : State) : Attend := { (default : Attend) with index := 2, qHeads := 1, dim := 8, frame := { blankFrame with srcCoord := b.coord, srcPort := 7, tag := 33, party := 5 } }
def bn : Binding := ⟨5, 7, 4, 640⟩
def bs (b : State) : State := b.modCore 5 fun k => { k with slots := k.slots.set 3 { slotReset with bound := true } }
def ow : Nat := 0x51 * 2 ^ 56 + 1 * 2 ^ 21 + 2 * 2 ^ 18 + 5
def pw : Nat := 0x52 * 2 ^ 56 + 1 * 2 ^ 21 + 2 * 2 ^ 11 + 3 * 2 ^ 7 + 2 * 2 ^ 3 + 5

set_option maxRecDepth 100000 in
/-- States and operands that meet the hypotheses of `Obligations.UnitsComplete`, clause by clause. -/
theorem witness_UnitsComplete :
  (∃ (s : State) (c u : Nat) (q : Queued), CoreThere s c ∧ 1 ≤ u ∧ u ≤ 5 ∧ (s.core c).running.getD (u - 1) none = some q ∧ (s.core c).mayEnd u q =
    true ∧ opcode q.word ≠ 0x10 ∧ (s.core c).oldWork = false) ∧
  (∃ (s : State) (c : Nat) (q : Queued), Issues s c 1 0x10 q ∧ (s.core c).work.empty = true ∧ (s.ext c q (opD q.word)).rows = 1 ∧ (s.ext c q (opD
    q.word)).inRegion = true) ∧
  (∃ (s : State) (c room : Nat) (q : Queued), Issues s c 1 0x10 q ∧ (s.core c).work.empty = false ∧ ringEntry q ≤ (s.core c).work.lo + 1007 ∧
    ringEntry q < (s.core c).work.roomCount ∧ (if ringEntry q < (s.core c).work.lo then (s.core c).work.rooms.getD (ringEntry q) 0 else leAt
    (s.localRead c (docketAt (s.core c).work.slot + 64 + 4 * (ringEntry q % 1008)) 3) 0 3) = room ∧ room ≠ 0 ∧ s.roomBad room = false ∧ s.mem.merge = []
    ∧ (∀ x ∈ s.mem.poison, x.1 / 1024 ≠ room) ∧ (s.ext c q (opD q.word)).rows = 1 ∧ (s.ext c q (opD q.word)).inRegion = true ∧ 32 * bitsOf q.word 10 0 +
    (s.ext c q (opD q.word)).len ≤ 65536) ∧
  (∃ (s : State) (c : Nat) (q : Queued), Issues s c 1 0x11 q ∧ (s.ext c q (opD q.word)).rows = 1 ∧ (s.ext c q (opD q.word)).inRegion = true ∧
    (s.readBytes c (s.ext c q (opA q.word))).length = (s.ext c q (opD q.word)).len) ∧
  (∃ (s : State) (c : Nat) (q : Queued) (ea eb : Extent) (a b sa sb : List (List Nat)), Issues s c 2 0x20 q ∧ (s.ext c q (opD q.word)).rows = 1 ∧
    (s.ext c q (opD q.word)).inRegion = true ∧ s.readOperand c ((s.core c).bank q) q.xs (opA q.word) = (ea, a, sa) ∧ s.readOperand c ((s.core c).bank q)
    q.xs (opB q.word) = (eb, b, sb) ∧ ea.rows = 1 ∧ eb.rows = (s.ext c q (opD q.word)).cols ∧ q.word.testBit 0 = false) ∧
  (∃ (s : State) (c : Nat) (q : Queued), Issues s c 3 0x3B q ∧ (s.ext c q (opD q.word)).rows = 1 ∧ (s.ext c q (opD q.word)).inRegion = true ∧ (s.ext c
    q (opD q.word)).len = 288 ∧ (s.core c).hists.length = 4 ∧ ((s.core c).hists.getD (bitsOf q.ext 8 7) histReset).bins.length = 64) ∧
  (∃ (s : State) (c : Nat) (q : Queued), Issues s c 4 0x40 q ∧ (s.ext c q (opD q.word)).rows = 1 ∧ (s.ext c q (opD q.word)).inRegion = true ∧
    q.word.testBit 0 = false ∧ (s.ext c q (opA q.word)).cols = 1 ∧ (s.ext c q (opA q.word)).rows = (s.ext c q (opD q.word)).cols) ∧
  (∃ (s : State) (c : Nat) (q : Queued) (a : Attend), Issues s c 5 0x50 q ∧ Calm s ∧ (s.core c).work.empty = false ∧ (s.core c).work.attend = some a ∧
    (s.core c).work.slot < (s.core c).slots.length ∧ (s.core c).work.bound = false ∧ handoffOk ((s.core c).bank q) q a = true ∧ (cardOf a.card).tally =
    none ∧ 0 < ((s.records c q).flatMap id).length ∧ ((s.records c q).flatMap id).length ≤ 4096 ∧ a.frame.srcCoord = s.coord ∧ Reachable s
    a.frame.srcPort) ∧
  (∃ (s : State) (c p : Nat) (q : Queued) (b : Binding), Issues s c 5 0x51 q ∧ Calm s ∧ (s.core c).work.empty = false ∧ (s.core c).work.binding = some
    b ∧ (s.core c).work.bound = true ∧ b.mask.testBit (bitsOf q.word 20 18) = true ∧ 0 < (s.readBytes c (s.ext c q (opD q.word))).length ∧ (s.readBytes
    c (s.ext c q (opD q.word))).length ≤ 4096 ∧ s.translate b.party b.rank = .ok (s.coord, p) ∧ Reachable s p) ∧
  (∃ (s : State) (c : Nat) (q : Queued) (b : Binding), Issues s c 5 0x52 q ∧ (s.core c).work.empty = false ∧ (s.core c).work.binding = some b ∧
    (s.core c).work.bound = true ∧ s.heldBytes c + (s.ext c q (opD q.word)).rows * (s.ext c q (opD q.word)).len ≤ 131072) ∧
  (∃ (s : State) (c : Nat) (q : Queued), Issues s c 5 0x53 q) ∧
  (∃ (s : State) (c : Nat) (l : Launch), CoreThere s c ∧ (s.core c).stuck = true ∧ (s.core c).launch = some l ∧ l.abandoned = false ∧ l.attend = none
    ∧ l.binding = none ∧ s.severity (0xA0 + c) 0x0B < 4) ∧
  (∃ (s : State) (c : Nat), (s.core c).stuck = false) :=
  ⟨⟨((un 4 (qw 0 0) wk base).modCore 5 fun k => { k with running := [none, none, some (qw (wd 0x30 0 1 2 0 + 5 * 2 ^ 31) 0), none, none] }), 5, 3, (qw (wd 0x30 0 1 2 0 + 5 * 2 ^ 31) 0), by decide +kernel⟩,
   ⟨(un 1 (qw (wd 0x10 1 0 0 0) 0) emt base), 5, (qw (wd 0x10 1 0 0 0) 0), by decide +kernel⟩,
   ⟨(((un 1 (qw rw 0) wk base).setReg MEM_STATUS 0).localWrite 5 (docketAt 3 + 64 + 16) (natLE 4 70004)).modMem (fun m => { m with bytes := sparseWrite 0 m.bytes (70004 * 65536 + 96) (List.replicate 30 9) }), 5, 70004, (qw rw 0), by decide +kernel⟩,
   ⟨(un 1 (qw (wd 0x11 0 1 0 0) 0) wk base), 5, (qw (wd 0x11 0 1 0 0) 0), by decide +kernel⟩,
   ⟨(un 2 (qw mw 0) wk base), 5, (qw mw 0), ((un 2 (qw mw 0) wk base).readOperand 5 bk (qw mw 0).xs 4).1, ((un 2 (qw mw 0) wk base).readOperand 5 bk (qw mw 0).xs 5).1, ((un 2 (qw mw 0) wk base).readOperand 5 bk (qw mw 0).xs 4).2.1, ((un 2 (qw mw 0) wk base).readOperand 5 bk (qw mw 0).xs 5).2.1, ((un 2 (qw mw 0) wk base).readOperand 5 bk (qw mw 0).xs 4).2.2, ((un 2 (qw mw 0) wk base).readOperand 5 bk (qw mw 0).xs 5).2.2, by decide +kernel⟩,
   ⟨((un 3 (qw (wd 0x3B 7 0 0 0) (2 * 2 ^ 7 + 0xF8 * 2 ^ 32)) wk base).modCore 5 fun k => { k with engUfl := 3, engOfl := 4 }), 5, (qw (wd 0x3B 7 0 0 0) (2 * 2 ^ 7 + 0xF8 * 2 ^ 32)), by decide +kernel⟩,
   ⟨(un 4 (qw (wd 0x40 0 8 0 0) 0) wk base), 5, (qw (wd 0x40 0 8 0 0) 0), by decide +kernel⟩,
   ⟨((prt 7 (un 5 (qw (wd 0x50 6 9 1 0) 0) { wk with attend := some (atd base) } base)).modStays fun u => { u with table := [(2, { freeStay with state := 1, inflight := 4 })] }), 5, (qw (wd 0x50 6 9 1 0) 0), (atd base), by decide +kernel⟩,
   ⟨(bs (rk (prt 7 (un 5 (qw ow 0) { wk with binding := some bn, bound := true } base)))), 5, 7, (qw ow 0), bn, by decide +kernel⟩,
   ⟨(bs (un 5 (qw pw 0) { wk with binding := some bn, bound := true } base)), 5, (qw pw 0), bn, by decide +kernel⟩,
   ⟨(bs (un 5 (qw (wd 0x53 0 0 0 0) 0) { wk with binding := some bn, bound := true } base)), 5, (qw (wd 0x53 0 0 0 0) 0), by decide +kernel⟩,
   ⟨((un 5 (qw (wd 0x53 0 0 0 0 + 4 * 2 ^ 47) 0) wk base).setReg (WATCH_SEV 0xA5) 0), 5, wk, by decide +kernel⟩,
   ⟨base, 5, by decide +kernel⟩⟩

/-- States and operands that meet the hypotheses of `Obligations.VectorsComplete`, clause by clause. -/
theorem witness_VectorsComplete :
  (∃ (s : State) (c : Nat) (q : Queued), Issues s c 3 0x30 q ∧ RowOut s c q) ∧
  (∃ (s : State) (c : Nat) (q : Queued), Issues s c 3 0x31 q ∧ RowOut s c q) ∧
  (∃ (s : State) (c : Nat) (q : Queued), Issues s c 3 0x32 q ∧ RowOut s c q) ∧
  (∃ (s : State) (c : Nat) (q : Queued), Issues s c 3 0x33 q ∧ RowOut s c q) ∧
  (∃ (s : State) (c : Nat) (q : Queued), Issues s c 3 0x34 q ∧ RowOut s c q) ∧
  (∃ (s : State) (c : Nat) (q : Queued), Issues s c 3 0x35 q ∧ RowOut s c q) ∧
  (∃ (s : State) (c : Nat) (q : Queued), Issues s c 3 0x36 q ∧ RowOut s c q) ∧
  (∃ (s : State) (c : Nat) (q : Queued), Issues s c 3 0x37 q ∧ RowOut s c q) ∧
  (∃ (s : State) (c : Nat) (q : Queued), Issues s c 3 0x38 q ∧ RowOut s c q) ∧
  (∃ (s : State) (c : Nat) (q : Queued), Issues s c 3 0x39 q ∧ RowOut s c q ∧ (s.ext c q (opD q.word)).cols = 1 ∧ (s.ext c q (opA q.word)).rows = 1) ∧
  (∃ (s : State) (c : Nat) (q : Queued), Issues s c 3 0x3A q ∧ RowOut s c q) :=
  ⟨⟨(un 3 (qw (wd 0x30 0 1 2 0) 0) wk base), 5, (qw (wd 0x30 0 1 2 0) 0), by decide +kernel⟩,
   ⟨(un 3 (qw (wd 0x31 0 1 2 0) (2 * 2 ^ 10)) wk base), 5, (qw (wd 0x31 0 1 2 0) (2 * 2 ^ 10)), by decide +kernel⟩,
   ⟨(un 3 (qw (wd 0x32 0 1 2 0) (3 * 2 ^ 10 + 0x40400000 * 2 ^ 32 + 3 * 2 ^ 22)) wk base), 5, (qw (wd 0x32 0 1 2 0) (3 * 2 ^ 10 + 0x40400000 * 2 ^ 32 + 3 * 2 ^ 22)), by decide +kernel⟩,
   ⟨(un 3 (qw (wd 0x33 0 1 2 0) (1 * 2 ^ 10)) wk base), 5, (qw (wd 0x33 0 1 2 0) (1 * 2 ^ 10)), by decide +kernel⟩,
   ⟨(un 3 (qw (wd 0x34 0 1 2 0) 0) wk base), 5, (qw (wd 0x34 0 1 2 0) 0), by decide +kernel⟩,
   ⟨(un 3 (qw (wd 0x35 0 1 2 0) (1 * 2 ^ 14 + 3 * 2 ^ 12 + 0x40400000 * 2 ^ 32)) wk base), 5, (qw (wd 0x35 0 1 2 0) (1 * 2 ^ 14 + 3 * 2 ^ 12 + 0x40400000 * 2 ^ 32)), by decide +kernel⟩,
   ⟨(un 3 (qw (wd 0x36 0 1 2 0) 0) wk base), 5, (qw (wd 0x36 0 1 2 0) 0), by decide +kernel⟩,
   ⟨(un 3 (qw (wd 0x37 0 1 2 0) 0) wk base), 5, (qw (wd 0x37 0 1 2 0) 0), by decide +kernel⟩,
   ⟨(un 3 (qw (wd 0x38 0 1 2 0) 0) wk base), 5, (qw (wd 0x38 0 1 2 0) 0), by decide +kernel⟩,
   ⟨(un 3 (qw (wd 0x39 6 1 2 0) 0) wk base), 5, (qw (wd 0x39 6 1 2 0) 0), by decide +kernel⟩,
   ⟨(un 3 (qw (wd 0x3A 0 1 2 0) (4 * 2 ^ 18)) wk base), 5, (qw (wd 0x3A 0 1 2 0) (4 * 2 ^ 18)), by decide +kernel⟩⟩

end Sys2Proof.Tests.Units
end

