-- ==== Sys2Proof/Tests/WitnessWhole.lean ====
section
/-! SUPPORT. For each statement of the group Whole: a state and operands that meet the hypotheses of every clause. -/

-- One proof at a time: in the package as one text, proofs run side by side would only wait for one another.
set_option Elab.async false

namespace Sys2Proof.Tests.Whole

open Sys2Proof Sys2Proof.Machine

/-- The state the witnesses start from. -/
def base : State := State.reset

def hd (b : State) : State := (b.setReg (SW_OWNER_STAT 82) (placed 90 39 20 ||| placed 70 19 0)).setReg (SW_OWNER 82) (placed 5000 39 20 ||| 100)
def fz (b : State) : State := { (b.setReg DV_STATE (placed 7 3 0)).setReg PH_STOP_STATUS 0 with pending := [] }
def bt (b : State) : State := (b.setReg BT_STATUS 1).setFld BT_STATUS_SET 1 |>.modBell fun u => { u with now := 5000 }

/-- States and operands that meet the hypotheses of `Obligations.OnlyPowerCycleLeavesFatalPhase`, clause by clause. -/
theorem witness_OnlyPowerCycleLeavesFatalPhase :
  (∃ (s t : State), s.phase = 7 ∧ s.fld PH_STOP_STATUS_STATE < 2 ∧ step s = .next t) :=
  ⟨fz base, (fz base).tick, by decide +kernel, by decide +kernel, rfl⟩

/-- States and operands that meet the hypotheses of `Obligations.BellTimeNeverDecreases`, clause by clause. -/
theorem witness_BellTimeNeverDecreases :
  (∃ (s t : State), s.bellSet = true ∧ s.now + 1 < 2 ^ 64 ∧ (∀ d ∈ s.bell.parent, (s.now : Int) + (s.dir d).offset / 65536 < 2 ^ 64) ∧ step s = .next
    t) :=
  ⟨bt base, (bt base).tick, by decide +kernel, by decide +kernel, by simp [bt, base, State.reset, bellReset, State.setFld, State.setReg, State.modBell], rfl⟩

/-- States and operands that meet the hypotheses of `Obligations.PoolAccountIsKept`, clause by clause. -/
theorem witness_PoolAccountIsKept :
  (∃ (s : State) (o k : Nat), o ≤ detourOwner ∧ s.ownerUsed o + k < 2 ^ 20) ∧
  (∃ (s : State) (o k : Nat), o ≤ detourOwner ∧ s.ownerHeld o + k < 2 ^ 20) ∧
  (∃ (s : State) (o k : Nat), o ≤ detourOwner ∧ k ≤ s.ownerHeld o ∧ s.ownerUsed o + k < 2 ^ 20) ∧
  (∃ (s : State) (o k : Nat) (chain : List Nat), o ≤ detourOwner ∧ k ≤ s.ownerUsed o) ∧
  (∃ (s : State) (o : Nat), o ≤ detourOwner) ∧
  (∃ (s : State) (n value : Nat), Calm s) :=
  ⟨⟨(hd base), 82, 40, by decide +kernel⟩,
   ⟨(hd base), 82, 40, by decide +kernel⟩,
   ⟨(hd base), 82, 40, by decide +kernel⟩,
   ⟨(hd base), 82, 40, [5, 6], by decide +kernel⟩,
   ⟨(hd base), 82, by decide +kernel⟩,
   ⟨(hd base), 82, 300, by decide +kernel⟩⟩

end Sys2Proof.Tests.Whole
end

