-- ==== Sys2Proof/Tests/WitnessWindows.lean ====
section
/-! SUPPORT. For each statement of the group Windows: a state and operands that meet the hypotheses of every clause. -/

-- One proof at a time: in the package as one text, proofs run side by side would only wait for one another.
set_option Elab.async false

namespace Sys2Proof.Tests.Windows

open Sys2Proof Sys2Proof.Machine

/-- The state the witnesses start from. -/
def base : State := State.reset

def acc (w c : Nat) (b : State) : State := b.modSw fun x => { x with access := [⟨w, c⟩, ⟨0, 7⟩] }
def cf (p : Nat) (b : State) : State := (b.setFld BT_STATUS_SET 1).modSw fun x => { x with curfew := [(curfewKey p 0 0, 63 + 100 * 256), (curfewKey p 0 1, 63 + 256 * 900), (curfewKey p 0 1024, BitVec.ofNat 64 (1000 * 2^32 + 2)), (curfewKey p 1 0, 63 + 256 * 256), (curfewKey p 1 1024, BitVec.ofNat 64 (256 * 2^32 + 1))] }

/-- States and operands that meet the hypotheses of `Obligations.WindowsAndCurfewsComplete`, clause by clause. -/
theorem witness_WindowsAndCurfewsComplete :
  (∃ (s : State) (value : Nat), s.flag SW_TBL_STATUS_DONE = true ∧ bitsOf value 63 60 = 0 ∧ bitsOf value 13 0 ≤ 1024 ∧ value < 2 ^ 64) ∧
  (∃ (s : State) (value : Nat), s.flag SW_TBL_STATUS_DONE = true ∧ bitsOf value 63 60 = 1 ∧ value < 2 ^ 64) ∧
  (∃ (s : State) (value : Nat), s.flag TL_TBL_STATUS_DONE = true ∧ bitsOf value 12 0 ≤ 6143) ∧
  (∃ (s : State) (value : Nat), s.flag ST_TBL_STATUS_DONE = true) ∧
  (∃ (s : State) (ctrl : Nat) (rest : List TableAccess), s.sw.access = ⟨0, ctrl⟩ :: rest ∧ bitsOf ctrl 63 60 = 0 ∧ ctrl.testBit 59 = false) ∧
  (∃ (s : State) (ctrl : Nat) (rest : List TableAccess), s.sw.access = ⟨0, ctrl⟩ :: rest ∧ bitsOf ctrl 63 60 = 0 ∧ ctrl.testBit 59 = true ∧ bitsOf
    ctrl 36 36 = s.fld (SW_CURFEW_CTL_ACTIVE_BANK (bitsOf ctrl 47 40)) ∧ s.flag (SW_CURFEW_CTL_IN_FORCE (bitsOf ctrl 47 40)) = true) ∧
  (∃ (s : State) (ctrl : Nat) (rest : List TableAccess), s.sw.access = ⟨0, ctrl⟩ :: rest ∧ bitsOf ctrl 63 60 = 1 ∧ ctrl.testBit 59 = true) ∧
  (∃ (s : State) (ctrl : Nat) (rest : List TableAccess), s.sw.access = ⟨1, ctrl⟩ :: rest ∧ s.ctxAt? (bitsOf ctrl 12 0) = none) ∧
  (∃ (s : State) (ctrl : Nat) (rest : List TableAccess), s.sw.access = ⟨2, ctrl⟩ :: rest) ∧
  (∃ (s : State) (port tick : Nat), port < 256 ∧ s.curfewPending port = false ∧ s.bellSet = true ∧ s.now + 8000 ≤ tick ∧ s.shadowBad port = false ∧
    tick < 2 ^ 64) ∧
  (∃ (s : State) (port tick : Nat), port < 256 ∧ s.curfewPending port = true) ∧
  (∃ (s : State) (port : Nat), port < 256 ∧ s.curfewPending port = true ∧ s.bellSet = true ∧ s.now + 8000 ≤ s.fld (SW_CURFEW_TICK_SWITCH_TICK port)) ∧
  (∃ (s : State) (port : Nat), port < 256 ∧ s.curfewPending port = true ∧ s.bellSet = true ∧ scEdge (s.fld (SW_CURFEW_TICK_SWITCH_TICK port)) ≤ s.now) ∧
  (∃ (s : State) (port : Nat), port < 256 ∧ s.inForce port = true) ∧
  (∃ (s : State) (ctrl : Nat) (rest : List TableAccess), s.sw.access = ⟨0, ctrl⟩ :: rest ∧ bitsOf ctrl 63 60 = 0 ∧ ctrl.testBit 59 = true ∧ (if bitsOf
    ctrl 36 36 = s.fld (SW_CURFEW_CTL_ACTIVE_BANK (bitsOf ctrl 47 40)) then s.flag (SW_CURFEW_CTL_IN_FORCE (bitsOf ctrl 47 40)) = false else
    s.curfewPending (bitsOf ctrl 47 40) = false) ∧ ((bitsOf ctrl 13 0 < 1024 ∧ bitsOf (s.reg (SW_TBL_DATA 0)).toNat 39 8 ≠ 0) ∨ (bitsOf ctrl 13 0 = 1024
    ∧ bitsOf (s.reg (SW_TBL_DATA 0)).toNat 63 32 ≠ 0 ∧ 1 ≤ bitsOf (s.reg (SW_TBL_DATA 0)).toNat 10 0 ∧ bitsOf (s.reg (SW_TBL_DATA 0)).toNat 10 0 ≤
    1024))) ∧
  (∃ (s : State) (ctrl : Nat) (rest : List TableAccess), s.sw.access = ⟨0, ctrl⟩ :: rest ∧ bitsOf ctrl 63 60 = 0 ∧ ctrl.testBit 59 = true ∧ bitsOf
    ctrl 36 36 ≠ s.fld (SW_CURFEW_CTL_ACTIVE_BANK (bitsOf ctrl 47 40)) ∧ s.curfewPending (bitsOf ctrl 47 40) = true) :=
  ⟨⟨(base.setFld SW_TBL_STATUS_DONE 1), (2^59 + 5 * 2^40 + 1024), by decide +kernel⟩,
   ⟨(base.setFld SW_TBL_STATUS_DONE 1), (2^60 + 16383), by decide +kernel⟩,
   ⟨(base.setFld TL_TBL_STATUS_DONE 1), (6143 + 2^20), by decide +kernel⟩,
   ⟨(base.setFld ST_TBL_STATUS_DONE 1), (2^18-1), by decide +kernel⟩,
   ⟨(acc 0 (5 * 2^40 + 2^36 + 3) (cf 5 base)), (5 * 2^40 + 2^36 + 3), [⟨0,7⟩], by decide +kernel⟩,
   ⟨(acc 0 (5 * 2^40 + 2^36 + 3 + 2^59) ((((cf 5 base).setFld (SW_CURFEW_CTL_ACTIVE_BANK 5) 1).setFld (SW_CURFEW_CTL_IN_FORCE 5) 1))), (5 * 2^40 + 2^36 + 3 + 2^59), [⟨0,7⟩], by decide +kernel⟩,
   ⟨(acc 0 (2^60 + 2^59 + 16383) (base.setReg (SW_TBL_DATA 0) (-1))), (2^60 + 2^59 + 16383), [⟨0,7⟩], by decide +kernel⟩,
   ⟨(acc 1 6143 base), 6143, [⟨0,7⟩], by decide +kernel⟩,
   ⟨(acc 2 5 (base.modStays fun u => { u with table := [(5, ⟨4,5,6,3,7,8,9,10,11,12,true,13,14,15,16,2,none⟩)] })), 5, [⟨0,7⟩], by decide +kernel⟩,
   ⟨(((cf 255 base).setFld (SW_CURFEW_CTL_PENDING 255) 0)), 255, (base.now + 8000), by decide +kernel⟩,
   ⟨(((cf 255 base).setFld (SW_CURFEW_CTL_PENDING 255) 1)), 255, (base.now + 8000), by decide +kernel⟩,
   ⟨((((cf 5 base).setFld (SW_CURFEW_CTL_PENDING 5) 1)).setReg (SW_CURFEW_TICK 5) (BitVec.ofNat 64 (base.now + 8000))), 5, by decide +kernel⟩,
   ⟨((((cf 5 base).setFld (SW_CURFEW_CTL_PENDING 5) 1)).setReg (SW_CURFEW_TICK 5) 0), 5, by decide +kernel⟩,
   ⟨((((cf 5 base).setFld (SW_CURFEW_CTL_IN_FORCE 5) 1)).setFld (SW_CURFEW_CTL_ACTIVE_BANK 5) 0), 5, by decide +kernel⟩,
   ⟨(acc 0 (5 * 2^40 + 2^36 + 3 + 2^59) ((((cf 5 base).setFld (SW_CURFEW_CTL_ACTIVE_BANK 5) 0).setFld (SW_CURFEW_CTL_PENDING 5) 0).setReg (SW_TBL_DATA 0) (-1))), (5 * 2^40 + 2^36 + 3 + 2^59), [⟨0,7⟩], by decide +kernel⟩,
   ⟨(acc 0 (5 * 2^40 + 2^36 + 3 + 2^59) ((((cf 5 base).setFld (SW_CURFEW_CTL_ACTIVE_BANK 5) 0).setFld (SW_CURFEW_CTL_PENDING 5) 1).setReg (SW_TBL_DATA 0) (-1))), (5 * 2^40 + 2^36 + 3 + 2^59), [⟨0,7⟩], by decide +kernel⟩⟩

end Sys2Proof.Tests.Windows
end

section
/-! PROOF. O52: what a read and a write do at an offset with no register (R28). Every array and every single register that the model
treats apart has a row of the register map, so that an offset without a row meets none of them. -/

namespace Sys2Proof.Machine
open Sys2Proof

/-! ### Where a register stands (R27, R28) -/

theorem regRow_eq_none_iff {off : Nat} : regRow? off = none ↔ ∀ r ∈ regRows, r.has (regHome off) = false := by
  simp [regRow?, List.find?_eq_none]

theorem ne_of_regRow_eq_none {off c : Nat} (h : regRow? off = none) (hc : (regRow? c).isSome = true) : off ≠ c := by
  rintro rfl
  simp [h] at hc

/-- Outside clusters 1 to 5 an offset is its own home. -/
theorem regHome_of_outside {off : Nat} (h : off < 0x880000 ∨ 0xB00000 ≤ off) : regHome off = off :=
  if_neg (by omega)

/-- A register of cluster `k` has its home in cluster 0. -/
theorem regHome_of_cluster {off k : Nat} (hlo : 0x800000 ≤ off) (hhi : off < 0x880000) (hk : k < 6) :
    regHome (off + 0x80000 * k) = off := by
  unfold regHome
  split <;> omega

/-- Word `j` of register `i` of a row. -/
theorem RegRow.has_word {r : RegRow} {i j : Nat} (hi : i < r.count) (hj : j < r.words) (hw : 8 * r.words ≤ r.stride) :
    r.has (r.base + r.stride * i + 8 * j) = true := by
  have hlt : 8 * j < r.stride := by omega
  have hsub : r.base + r.stride * i + 8 * j - r.base = 8 * j + r.stride * i := by omega
  have hdiv : (8 * j + r.stride * i) / r.stride = i := by
    rw [Nat.add_mul_div_left _ _ (by omega), Nat.div_eq_of_lt hlt, Nat.zero_add]
  have hmod : (8 * j + r.stride * i) % r.stride = 8 * j := by
    rw [Nat.add_mul_mod_self_left, Nat.mod_eq_of_lt hlt]
  simp only [RegRow.has, hsub, hdiv, hmod, Bool.and_eq_true, decide_eq_true_eq]
  omega

theorem eq_of_arrayIndex {base stride count off n : Nat} (h : arrayIndex base stride count off = some n) :
    off = base + stride * n ∧ n < count := by
  unfold arrayIndex at h
  split at h
  · next hin =>
    obtain ⟨hlo, hmod, hlt⟩ := hin
    obtain rfl := Option.some.inj h
    have := Nat.mul_div_cancel' (Nat.dvd_of_mod_eq_zero hmod)
    omega
  · cases h

/-- The registers of an array are those of one row of the register map. -/
abbrev ArrayHasRow (base stride count : Nat) : Prop :=
  ∃ r ∈ regRows, r.base = base ∧ r.stride = stride ∧ r.count = count ∧ 1 ≤ r.words ∧ 8 * r.words ≤ r.stride

/-- An array with a row of its own, outside clusters 1 to 5. -/
abbrev PlainArray (base stride count : Nat) : Prop :=
  ArrayHasRow base stride count ∧ (base + stride * count < 0x880000 ∨ 0xB00000 ≤ base)

/-- An array with a row of its own in cluster 0, and so in each cluster (R27). -/
abbrev ClusterArray (base stride count : Nat) : Prop :=
  ArrayHasRow base stride count ∧ 0x800000 ≤ base ∧ base + stride * count < 0x880000

/-- A register whose home is a register of an array is assigned. -/
theorem regRow_ne_none_of_arrayHasRow {base stride count off n : Nat} (ha : ArrayHasRow base stride count) (hn : n < count)
    (hoff : regHome off = base + stride * n) : regRow? off ≠ none := by
  obtain ⟨r, hr, rfl, rfl, rfl, hpos, hw⟩ := ha
  intro h
  have hno : r.has (regHome off) = false := regRow_eq_none_iff.1 h r hr
  rw [hoff] at hno
  simpa [hno] using RegRow.has_word hn hpos hw

theorem arrayIndex_eq_none {base stride count off : Nat} (h : regRow? off = none) (ha : PlainArray base stride count) :
    arrayIndex base stride count off = none := by
  obtain ⟨hrow, hout⟩ := ha
  refine Option.eq_none_iff_forall_ne_some.2 fun n hn => ?_
  obtain ⟨rfl, hlt⟩ := eq_of_arrayIndex hn
  have hle : stride * n ≤ stride * count := Nat.mul_le_mul_left _ hlt.le
  exact regRow_ne_none_of_arrayHasRow hrow hlt (regHome_of_outside (by omega)) h

/-- The copy of a cluster's array in cluster `k` holds no unassigned offset. -/
theorem arrayIndex_cluster_eq_none {base stride count off k : Nat} (h : regRow? off = none) (hk : k < 6) (ha : ClusterArray base stride count) :
    arrayIndex (base + 0x80000 * k) stride count off = none := by
  obtain ⟨hrow, hlo, hhi⟩ := ha
  refine Option.eq_none_iff_forall_ne_some.2 fun n hn => ?_
  obtain ⟨rfl, hlt⟩ := eq_of_arrayIndex hn
  have hle : stride * n ≤ stride * count := Nat.mul_le_mul_left _ hlt.le
  refine regRow_ne_none_of_arrayHasRow hrow hlt ?_ h
  rw [Nat.add_right_comm]
  exact regHome_of_cluster (by omega) (by omega) hk

theorem clusterIndex_eq_none {base stride count off : Nat} (h : regRow? off = none) (ha : ClusterArray base stride count) :
    clusterIndex base stride count off = none := by
  unfold clusterIndex
  dsimp only
  split
  · next hin => rw [arrayIndex_cluster_eq_none h hin.2 ha]; rfl
  · rfl

/-- A register that stands once in each cluster is assigned in all six. -/
theorem ne_clusterReg {base off k : Nat} (h : regRow? off = none) (hk : k < 6) (ha : ClusterArray base 8 1) : off ≠ base + 0x80000 * k := by
  obtain ⟨hrow, hlo, hhi⟩ := ha
  rintro rfl
  exact regRow_ne_none_of_arrayHasRow hrow Nat.zero_lt_one (regHome_of_cluster hlo (by omega) hk) h

theorem clusterRegIndex_eq_none {base off : Nat} (h : regRow? off = none) (ha : ClusterArray base 8 1) : arrayIndex base 0x80000 6 off = none := by
  refine Option.eq_none_iff_forall_ne_some.2 fun k hk => ?_
  obtain ⟨hoff, hlt⟩ := eq_of_arrayIndex hk
  exact ne_clusterReg h hlt ha hoff

/-- In an array numbered as if each group had `per` words, where the group's row has fewer, the unassigned numbers are those past the row's words. -/
theorem words_le_of_arrayIndex {base per words count off n : Nat} (h : regRow? off = none)
    (hrow : ∃ r ∈ regRows, r.base = base ∧ r.stride = 8 * per ∧ r.count = count ∧ r.words = words) (hle : words ≤ per)
    (hout : base + 8 * (per * count) < 0x880000) (hn : arrayIndex base 8 (per * count) off = some n) : words ≤ n % per := by
  obtain ⟨r, hr, rfl, hstride, rfl, rfl⟩ := hrow
  obtain ⟨hoff, hlt⟩ := eq_of_arrayIndex hn
  by_contra hc
  have hhas : r.has (r.base + r.stride * (n / per) + 8 * (n % per)) = true :=
    RegRow.has_word (Nat.div_lt_of_lt_mul hlt) (by omega) (by omega)
  have hhome : regHome off = r.base + r.stride * (n / per) + 8 * (n % per) := by
    rw [regHome_of_outside (by omega), hstride, hoff, Nat.mul_assoc, Nat.add_assoc, ← Nat.mul_add, Nat.div_add_mod]
  rw [← hhome, regRow_eq_none_iff.1 h r hr] at hhas
  cases hhas

/-- An unassigned number of the packet buffer's owners stands for no class (R28, R150). -/
theorem no_class_of_ownerIndex {off n : Nat} (h : regRow? off = none) (hn : arrayIndex (SW_OWNER 0) 8 4096 off = some n) :
    12 ≤ n % 16 :=
  words_le_of_arrayIndex (count := 256) h (by decide +kernel) (by decide) (by decide) hn

/-- An unassigned number of the scheduling entries stands for no class (R28, R151). -/
theorem no_class_of_egressIndex {off m : Nat} (h : regRow? off = none) (hm : arrayIndex (SW_EGRESS 0) 8 2048 off = some m) :
    6 ≤ m % 8 :=
  words_le_of_arrayIndex (count := 256) h (by decide +kernel) (by decide) (by decide) hm

/-! ### Reads (R28) -/

theorem State.shown_eq_zero (s : State) {off : Nat} (h : regRow? off = none) : s.shown off = 0 := by
  simp [State.shown, h]

theorem State.readWord_eq_zero (s : State) {off : Nat} (h : regRow? off = none) : s.readWord off = 0 := by
  have hnow : off ≠ BT_NOW := ne_of_regRow_eq_none h (by decide +kernel)
  have hmb : off ≠ CXL_MB_STATUS := ne_of_regRow_eq_none h (by decide +kernel)
  have hbg : off ≠ CXL_BG_STATUS := ne_of_regRow_eq_none h (by decide +kernel)
  have hpba : off ≠ MSIX_PBA := ne_of_regRow_eq_none h (by decide +kernel)
  have hscrub : off ≠ MEM_SCRUB_STATUS := ne_of_regRow_eq_none h (by decide +kernel)
  by_cases hcl : CL_STATUS 0 ≤ off ∧ off < CL_STATUS 6
  · have hk : (off - CL_STATUS 0) / 0x80000 < 6 := by simp only [CL_STATUS] at *; omega
    have hstatus : ∀ k < 6, off ≠ CL_STATUS k := fun k hk => ne_clusterReg h hk (by decide +kernel)
    have hslot : ∀ k < 6, arrayIndex (CL_SLOT k 0) 8 64 off = none := fun k hk =>
      arrayIndex_cluster_eq_none (base := 0x800100) h hk (by decide +kernel)
    simp only [State.readWord, hnow, hmb, hbg, hpba, hscrub, hcl, hstatus _ hk, hslot _ hk, s.shown_eq_zero h, or_self, and_self, if_false, if_true]
  · simp only [State.readWord, hnow, hmb, hbg, hpba, hscrub, hcl, s.shown_eq_zero h, or_self, if_false]

theorem execReadReg_of_regRow_eq_none {s : State} {off : Nat} (h : regRow? off = none) (halign : off % 8 = 0) (hlt : off < 2 ^ 26)
    (hon : s.mctpOn = true) : execReadReg off s = .next (s.mctpReply 0x25 0 (zeroBytes 8)) := by
  have hbytes : natLE 8 0 = zeroBytes 8 := by decide
  have hok : ¬ (off % 8 ≠ 0 ∨ 2 ^ 26 ≤ off) := by omega
  rw [execReadReg, if_neg (by simp [hon]), if_neg hok, s.readWord_eq_zero h]
  simp [hbytes]

/-! ### Writes (R28) -/

/-- An outcome that discards a write: the next state differs in no part but the register file, and every register of it reads as before. -/
def Discards (s : State) (o : Host.Outcome State Fault Refusal) : Prop :=
  ∃ t, o = .next t ∧ t = { s with regs := t.regs } ∧ ∀ a, t.reg a = s.reg a

theorem Discards.stay (s : State) : Discards s (.next s) := ⟨s, rfl, rfl, fun _ => rfl⟩

/-- Setting a register to what it holds discards the write: no bit of it rises (R13). -/
theorem discards_setReg_same (s : State) (off : Nat) : Discards s (.next (s.setReg off (s.reg off))) := by
  refine ⟨_, rfl, ?_, fun a => ?_⟩
  · have hrose : s.noteRise off (s.reg off &&& ~~~(s.reg off)) = s.rose := if_pos (by simp)
    simp only [State.setReg, hrose]
  · rw [State.reg_setReg]
    split
    · next ha => rw [ha]
    · rfl

theorem discards_writePlain (s : State) {off : Nat} (value : Nat) (h : regRow? off = none) : Discards s (.next (s.writePlain off value)) := by
  have hw : s.written off value = s.reg off := by simp [State.written, h]
  rw [State.writePlain, hw]
  exact discards_setReg_same s off

/-- The offsets of the registers alone at theirs whose write does more than R11 says. -/
def singleOffsets : List Nat :=
  [SW_FENCE, DV_ITIN_CTRL, DV_ITIN_ACT_TICK, WATCH_INJECT, SW_SACRIFICE, SW_TBL_CTRL, SW_TBL_DATA 0, SW_TBL_DATA 1, TL_TBL_CTRL, ST_CTRL, ST_EVICT,
   ST_STABLE, ST_INBOUND, ST_TAKEOVER, ST_REMIRROR, ST_TBL_CTRL, MEM_THERM, MEM_SCRUB_CTRL, MEM_REPAIR_CTRL, BT_CTRL, BT_ROOT, BT_RUN_START,
   BT_RUN_END, PH_INPUT_CTRL, PH_CAP, PH_CLOCK, PH_STOP_CTRL, PH_STOP_TICK, PH_STOP_CFG, PH_RESTORE_CTRL, PH_PROOF_CTRL]

theorem singleOffsets_assigned : ∀ c ∈ singleOffsets, (regRow? c).isSome = true := by decide +kernel

theorem State.writeSingle_eq_none (s : State) {off : Nat} (value : Nat) (hoff : off ∉ singleOffsets) : s.writeSingle off value = none := by
  simp only [singleOffsets, List.mem_cons, not_or, List.not_mem_nil, not_false_eq_true, and_true] at hoff
  simp only [State.writeSingle, hoff, or_self, if_false]

/-- Among the switch's arrays only the owners' and the scheduling entries reach beyond the assigned offsets, and a write there does nothing. -/
theorem State.writeSwitchArray_stays (s : State) {off : Nat} (value : Nat) (h : regRow? off = none) :
    ∀ o ∈ s.writeSwitchArray off value, o = .next s := by
  have hctl : arrayIndex (SW_CURFEW_CTL 0) 32 256 off = none := arrayIndex_eq_none h (by decide +kernel)
  have htick : arrayIndex (SW_CURFEW_TICK 0) 32 256 off = none := arrayIndex_eq_none h (by decide +kernel)
  have hdead : arrayIndex (SW_DEAD 0) 8 32 off = none := arrayIndex_eq_none h (by decide +kernel)
  have hrank : arrayIndex (SW_RANK 0) 8 32768 off = none := arrayIndex_eq_none h (by decide +kernel)
  have hparty : arrayIndex (SW_PARTY 0) 8 4096 off = none := arrayIndex_eq_none h (by decide +kernel)
  have hstream : arrayIndex (SW_STREAM 0) 8 65536 off = none := arrayIndex_eq_none h (by decide +kernel)
  intro o ho
  simp only [State.writeSwitchArray, hctl, htick, hdead, hrank, hparty, hstream, Option.map_none, Option.none_or, Option.or_none] at ho
  cases howner : arrayIndex (SW_OWNER 0) 8 4096 off with
  | some n =>
    simp only [howner, Option.map_some, Option.some_or, Option.mem_some_iff] at ho
    rw [← ho, execOwnerMinWrite, if_pos (.inr (no_class_of_ownerIndex h howner))]
  | none =>
    simp only [howner, Option.map_none, Option.none_or, Option.mem_map] at ho
    obtain ⟨m, hm, rfl⟩ := ho
    rw [if_neg (by have := no_class_of_egressIndex h hm; omega)]

theorem State.writeArray_stays (s : State) {off : Nat} (value : Nat) (h : regRow? off = none) :
    ∀ o ∈ s.writeArray off value, o = .next s := by
  have hpool : arrayIndex (TL_POOL 0) 8 4096 off = none := arrayIndex_eq_none h (by decide +kernel)
  have hctrl : arrayIndex (CL_CTRL 0) 0x80000 6 off = none := clusterRegIndex_eq_none h (by decide +kernel)
  have hquar : arrayIndex (CL_QUAR 0) 0x80000 6 off = none := clusterRegIndex_eq_none h (by decide +kernel)
  have hport : arrayIndex (LN_PORT_W1 0) 0x40 256 off = none := arrayIndex_eq_none h (by decide +kernel)
  have hwake : arrayIndex (LN_PORT_W3 0) 0x40 256 off = none := arrayIndex_eq_none h (by decide +kernel)
  have hwin : arrayIndex (MB_WINDOW 0) 8 16 off = none := arrayIndex_eq_none h (by decide +kernel)
  have hcfg : arrayIndex (MB_QCFG 0) 0x20 2 off = none := arrayIndex_eq_none h (by decide +kernel)
  have hhead : arrayIndex (MB_QHEAD 0) 0x20 2 off = none := arrayIndex_eq_none h (by decide +kernel)
  have hmsix : arrayIndex (MSIX_CTL 0) 16 4 off = none := arrayIndex_eq_none h (by decide +kernel)
  simp only [State.writeArray, hpool, hctrl, hquar, hport, hwake, hwin, hcfg, hhead, hmsix, Option.map_none, Option.or_none]
  exact s.writeSwitchArray_stays value h

theorem isWord0_eq_false {off : Nat} (h : regRow? off = none) : isWord0 off = false := by
  have hpol : arrayIndex (SW_POL_W0 0) 16 512 off = none := arrayIndex_eq_none h (by decide +kernel)
  have hvlan : arrayIndex (SW_VLAN_W0 0) 16 4096 off = none := arrayIndex_eq_none h (by decide +kernel)
  have hbind : clusterIndex (CL_BIND_W0 0 0) 16 64 off = none := clusterIndex_eq_none h (by decide +kernel)
  simp [isWord0, hpol, hvlan, hbind]

theorem discards_store (s : State) {off : Nat} (value : Nat) (h : regRow? off = none) : Discards s (s.store off value) := by
  have hsingle : s.writeSingle off value = none :=
    s.writeSingle_eq_none value fun hm => ne_of_regRow_eq_none h (singleOffsets_assigned off hm) rfl
  have hpol : arrayIndex (SW_POL_W1 0) 16 512 off = none := arrayIndex_eq_none h (by decide +kernel)
  have hvlan : arrayIndex (SW_VLAN_W1 0) 16 4096 off = none := arrayIndex_eq_none h (by decide +kernel)
  have hbind : clusterIndex (CL_BIND_W1 0 0) 16 64 off = none := clusterIndex_eq_none h (by decide +kernel)
  cases harray : s.writeArray off value with
  | some o =>
    simp only [State.store, hsingle, harray, s.writeArray_stays value h o harray]
    exact .stay s
  | none =>
    simp only [State.store, hsingle, harray, isWord0_eq_false h, hpol, hvlan, hbind, Option.isSome_none, Bool.or_self, Bool.false_eq_true, if_false]
    exact discards_writePlain s value h

theorem State.storeHigh_eq_none (s : State) {off : Nat} (value : Nat) (h : regRow? off = none) : s.storeHigh off value = none := by
  have hclock : off ≠ PH_CLOCK := ne_of_regRow_eq_none h (by decide +kernel)
  have htl : off ≠ TL_TBL_CTRL := ne_of_regRow_eq_none h (by decide +kernel)
  have hst : off ≠ ST_TBL_CTRL := ne_of_regRow_eq_none h (by decide +kernel)
  have hctrl : arrayIndex (CL_CTRL 0) 0x80000 6 off = none := clusterRegIndex_eq_none h (by decide +kernel)
  have hport : arrayIndex (LN_PORT_W1 0) 0x40 256 off = none := arrayIndex_eq_none h (by decide +kernel)
  simp [State.storeHigh, hclock, htl, hst, hctrl, hport]

theorem State.storeLow_eq_none (s : State) {off : Nat} (value : Nat) (h : regRow? off = none) : s.storeLow off value = none := by
  have hcfg : arrayIndex (MB_QCFG 0) 0x20 2 off = none := arrayIndex_eq_none h (by decide +kernel)
  have hstream : arrayIndex (SW_STREAM 0) 8 65536 off = none := arrayIndex_eq_none h (by decide +kernel)
  simp [State.storeLow, hcfg, hstream]

/-- A write of 4 or 8 bytes within the word of an unassigned offset is discarded. -/
theorem discards_storeAt (s : State) {off : Nat} (size value : Nat) (h : regRow? (off - off % 8) = none) :
    Discards s (s.storeAt off size value) := by
  unfold State.storeAt
  split
  · exact .stay s
  · simp only [s.storeHigh_eq_none _ h, s.storeLow_eq_none _ h, ite_self, Option.getD_none]
    exact discards_store s _ h

theorem discards_registerWrite (s : State) {off : Nat} (size value : Nat) (h : regRow? (off - off % 8) = none) :
    Discards s (exec (.registerWrite off size value) s) := by
  change Discards s (if s.writable off then s.storeAt off size value else .next s)
  split
  · exact discards_storeAt s size value h
  · exact .stay s

theorem Discards.completes {s : State} {c : Instr} (h : Discards s (exec c s)) : Completes c s (fun t => t = { s with regs := t.regs }) := by
  obtain ⟨t, hexec, ht, -⟩ := h
  exact ⟨t, hexec, ht⟩

theorem Discards.onlyRegs {s : State} {o : Host.Outcome State Fault Refusal} (h : Discards s o) : OnlyRegs [] s o := by
  obtain ⟨t, rfl, -, hreg⟩ := h
  rintro _ ⟨⟩ a -
  exact hreg a

/-- Settles O52: no special read and no special write of the model takes an offset without a register, but for the owners and
scheduling entries that stand for no class, and those do nothing. -/
theorem unassignedOffsets : Obligations.UnassignedOffsets := by
  unfold Obligations.UnassignedOffsets
  refine ⟨fun s off h _ _ _ _ => s.readWord_eq_zero h,
    fun s off h halign hlt _ _ hon => ⟨_, execReadReg_of_regRow_eq_none h halign hlt hon, rfl⟩,
    fun s off value h halign _ _ _ => ?_, fun s off value h halign _ _ _ => ?_, fun s off half value h halign _ _ _ hhalf => ?_⟩
  · exact (discards_registerWrite s 8 value (by rwa [halign])).completes
  · exact (discards_registerWrite s 8 value (by rwa [halign])).onlyRegs
  · have hhome : off + half - (off + half) % 8 = off := by
      simp only [List.mem_cons, List.not_mem_nil, or_false] at hhalf
      omega
    have hdiscards := discards_registerWrite s 4 value (hhome.symm ▸ h)
    exact ⟨hdiscards.completes, hdiscards.onlyRegs⟩

end Sys2Proof.Machine
end

section
/-! PROOF. O53: the window accumulator (R170, R171). Each contribution moves A by less than 2^119, so that 256 of them stay inside
the 128 bits. -/

namespace Sys2Proof.Machine
open Sys2Proof

/-! ### One addition (R171) -/

theorem clampInt_128 (i : Int) : clampInt 128 i =
    if (2 : Int) ^ 127 - 1 < i then ((2 : Int) ^ 127 - 1, true)
    else if i < -(2 : Int) ^ 127 then (-(2 : Int) ^ 127, true) else (i, false) :=
  rfl

theorem winAdd_eq (a b : Int) : winAdd a b =
    if (2 : Int) ^ 127 - 1 < a + b then ((2 : Int) ^ 127 - 1, flOvf)
    else if a + b < -(2 : Int) ^ 127 then (-(2 : Int) ^ 127, flOvf) else (a + b, 0) := by
  rw [winAdd, clampInt_128]
  split_ifs <;> rfl

theorem winAdd_of_within {a b : Int} (hlo : -(2 : Int) ^ 127 ≤ a + b) (hhi : a + b ≤ (2 : Int) ^ 127 - 1) :
    winAdd a b = (a + b, 0) := by
  rw [winAdd_eq, if_neg (by omega), if_neg (by omega)]

theorem winAdd_of_above {a b : Int} (h : (2 : Int) ^ 127 - 1 < a + b) : winAdd a b = ((2 : Int) ^ 127 - 1, flOvf) := by
  rw [winAdd_eq, if_pos h]

theorem winAdd_of_below {a b : Int} (h : a + b < -(2 : Int) ^ 127) : winAdd a b = (-(2 : Int) ^ 127, flOvf) := by
  rw [winAdd_eq, if_neg (by omega), if_pos h]

/-! ### One contribution (R170 to R172) -/

@[simp] theorem testBit_orFlag (a b i : Nat) : (orFlag a b).testBit i = (a.testBit i || b.testBit i) :=
  Nat.testBit_or a b i

theorem testBit_ovf_satTrunc (sat trunc : Bool) :
    ((if sat then flSat else 0) + (if trunc then flTrunc else 0)).testBit 4 = false := by
  cases sat <;> cases trunc <;> rfl

/-- A contribution either leaves A and sets a flag other than OVF, or adds an integer below 2^119 in magnitude and sets, beside what
the addition sets, flags other than OVF (bit 4, R153). -/
theorem winTake_cases (floor a : Int) (fl : Nat) (v : FVal) :
    (∃ x, x.testBit 4 = false ∧ winTake floor a fl v = (a, orFlag fl x)) ∨
    ∃ (k : Int) (x : Nat), |k| ≤ 2 ^ 119 - 1 ∧ x.testBit 4 = false ∧
      winTake floor a fl v = ((winAdd a k).1, orFlag (orFlag fl (winAdd a k).2) x) := by
  cases v with
  | nan => exact .inl ⟨flNan, rfl, rfl⟩
  | inf n => exact .inl ⟨if n then flNinf else flPinf, by cases n <;> rfl, rfl⟩
  | fin n m e =>
    refine .inr ⟨_, _, ?_, ?_, rfl⟩
    · rw [apply_ite abs, abs_neg, ite_self, Nat.abs_cast]
      simp only [decide_eq_true_eq]
      generalize (if floor ≤ e then m * 2 ^ (e - floor).toNat else m / 2 ^ (floor - e).toNat) = k
      split <;> omega
    · exact testBit_ovf_satTrunc _ _

/-! ### A run of contributions (R171) -/

/-- A lane after at most `n` contributions since it was cleared: A is within `n` of the largest, and OVF is clear. -/
def LaneWithin (n : Nat) (lane : Int × Nat) : Prop :=
  |lane.1| ≤ n * (2 ^ 119 - 1) ∧ lane.2.testBit 4 = false

theorem laneWithin_zero : LaneWithin 0 (0, 0) := by
  simp [LaneWithin]

theorem laneWithin_winTake {n : Nat} {lane : Int × Nat} (h : LaneWithin n lane) (hn : n < 256) (floor : Int) (v : FVal) :
    LaneWithin (n + 1) (winTake floor lane.1 lane.2 v) := by
  obtain ⟨hsum, hovf⟩ := h
  rw [abs_le] at hsum
  obtain ⟨x, hx, heq⟩ | ⟨k, x, hk, hx, heq⟩ := winTake_cases floor lane.1 lane.2 v <;> rw [heq]
  · exact ⟨abs_le.2 (by push_cast; omega), by simp [hovf, hx]⟩
  · rw [abs_le] at hk
    rw [winAdd_of_within (by omega) (by omega)]
    exact ⟨abs_le.2 (by push_cast; omega), by simp [hovf, hx]⟩

theorem laneWithin_foldl_winTake (floor : Int) (vs : List FVal) {n : Nat} {lane : Int × Nat} (h : LaneWithin n lane)
    (hlen : n + vs.length ≤ 256) : LaneWithin (n + vs.length) (vs.foldl (fun p v => winTake floor p.1 p.2 v) lane) := by
  induction vs generalizing n lane with
  | nil => exact h
  | cons v vs ih =>
    rw [List.length_cons] at hlen ⊢
    rw [List.foldl_cons, show n + (vs.length + 1) = n + 1 + vs.length by omega]
    exact ih (laneWithin_winTake h (by omega) floor v) (by omega)

/-- Settles O53: one addition by its three ranges, and a run of contributions by induction on the run, with A bounded by the number
taken. -/
theorem accumulatorSaturates : Obligations.AccumulatorSaturates := by
  unfold Obligations.AccumulatorSaturates
  refine ⟨fun _ _ => winAdd_of_within, fun _ _ => winAdd_of_above, fun _ _ => winAdd_of_below, fun floor vs hlen => ?_⟩
  have hlane := laneWithin_foldl_winTake floor vs laneWithin_zero (by omega)
  exact hlane.2

end Sys2Proof.Machine
end

section
/-! PROOF. O54: what the three kinds of write do to a poisoned pair (R343). A whole-pair write and the zeroing of a room take the
pair off the list of poisoned pairs; a partial write only enters the write-merge buffer, and its entry leaves without its bytes. -/

namespace Sys2Proof.Machine
open Sys2Proof

/-! ### The three commands -/

theorem exec_pairWrite (pair : Nat) (data : List Byte) (s : State) : exec (.pairWrite pair data) s = execPairWrite pair data s := rfl

theorem exec_memwrptl (offset : Nat) (data : List Byte) (s : State) : exec (.memwrptl offset data) s = execMemwrptl offset data s := rfl

theorem exec_mergeHoldExpiry (pair : Nat) (errs : List (Nat × Nat)) (s : State) :
    exec (.mergeHoldExpiry pair errs) s = execMergeHoldExpiry pair s errs :=
  rfl

/-! ### What the operations over the pool leave as it was -/

@[simp] theorem State.modMem_mem (s : State) (g : MemUnit → MemUnit) : (s.modMem g).mem = g s.mem := rfl

theorem State.poisoned_eq_of_poison_eq {s t : State} (h : t.mem.poison = s.mem.poison) (p : Nat) : t.poisoned p = s.poisoned p := by
  rw [State.poisoned, h, State.poisoned]

@[simp] theorem State.stackLost_transferred (s : State) (st st' : Nat) : (s.transferred st).stackLost st' = s.stackLost st' := rfl

@[simp] theorem State.transferred_poison (s : State) (st : Nat) : (s.transferred st).mem.poison = s.mem.poison := rfl

@[simp] theorem State.transferred_merge (s : State) (st : Nat) : (s.transferred st).mem.merge = s.mem.merge := rfl

/-! ### Whole-pair writes and zeroing -/

/-- Where no merge entry holds a byte of a pair, its bytes are found as they are stored. -/
theorem State.peek_pair (s : State) {p : Nat} (h : ∀ e ∈ s.mem.merge, e.pair ≠ p) : s.peek (64 * p) 64 = s.pairBytes p := by
  rw [State.peek, State.pairBytes, sparseRead]
  refine List.map_congr_left fun i hi => ?_
  have hpair : (64 * p + i) / 64 = p := by
    rw [List.mem_range] at hi
    omega
  have hnone : s.mem.merge.find? (fun e => e.pair == (64 * p + i) / 64 && e.mask.testBit ((64 * p + i) % 64)) = none := by
    rw [List.find?_eq_none, hpair]
    intro e he
    simp [h e he]
  simp only [hnone]

theorem State.poisoned_putPair (s : State) {p : Nat} (data : List Byte) (hup : s.stackLost (pairStack p) = false) :
    (s.putPair p data).poisoned p = false := by
  rw [State.putPair, if_neg (by simp [hup])]
  exact sparseGet_erase_same

theorem State.peek_putPair (s : State) {p : Nat} {data : List Byte} (hup : s.stackLost (pairStack p) = false) (hlen : data.length = 64) :
    (s.putPair p data).peek (64 * p) 64 = data := by
  have hpad : padTo 64 data = data := by simp [padTo, hlen]
  rw [State.putPair, if_neg (by simp [hup]), State.peek_pair, State.pairBytes, hpad]
  · rw [State.modMem_mem, ← hlen]
    exact sparseRead_write_same
  · intro e he
    simpa using (List.mem_filter.1 he).2

theorem State.poisoned_zeroRoom (s : State) {room pair : Nat} (hup : s.stackLost (roomStack room) = false) (hroom : pair / 1024 = room) :
    (s.zeroRoom room).poisoned pair = false := by
  rw [State.zeroRoom, if_neg (by simp [hup])]
  refine sparseGet_of_not_mem fun e he hkey => ?_
  have hother := (List.mem_filter.1 he).2
  simp [hkey, hroom] at hother

/-! ### A merge entry leaves the buffer -/

theorem State.openEntry_mem (s : State) (e : MergeEntry) :
    (s.openEntry e).mem = { s.mem with merge := s.mem.merge.filter (fun x => x.pair != e.pair) } := by
  unfold State.openEntry
  dsimp only
  split <;> rfl

theorem State.poisoned_openEntry (s : State) (e : MergeEntry) (p : Nat) : (s.openEntry e).poisoned p = s.poisoned p :=
  State.poisoned_eq_of_poison_eq (by rw [s.openEntry_mem]) p

theorem State.mergeIn_of_poisoned {s : State} {e : MergeEntry} (h : s.poisoned e.pair = true) : s.mergeIn e = s :=
  if_pos (by simp [h])

theorem State.mergeIn_poison (s : State) (e : MergeEntry) : (s.mergeIn e).mem.poison = s.mem.poison := by
  unfold State.mergeIn
  split <;> rfl

theorem State.flushEntry_poison (s : State) (e : MergeEntry) : (s.flushEntry e).mem.poison = s.mem.poison := by
  rw [State.flushEntry, State.mergeIn_poison, State.openEntry_mem]

/-- The entry of a poisoned pair leaves the buffer, and nothing else happens to the memory: its bytes are discarded. -/
theorem State.flushEntry_of_poisoned {s : State} {e : MergeEntry} (h : s.poisoned e.pair = true) : s.flushEntry e = s.openEntry e :=
  State.mergeIn_of_poisoned ((s.poisoned_openEntry e e.pair).trans h)

theorem State.flushWith_nil (s : State) (e : MergeEntry) : s.flushWith e [] = s.flushEntry e := by
  simp only [State.flushWith, State.flushEntry, State.decoded, ite_self]

theorem execMergeHoldExpiry_of_expired {s : State} {pair : Nat} {e : MergeEntry} (errs : List (Nat × Nat))
    (hfind : s.mem.merge.find? (fun e => e.pair == pair) = some e) (hat : e.at_ + 128 * s.fld MEM_MERGE_CTRL_HOLD ≤ s.free) :
    execMergeHoldExpiry pair s errs = .next (s.flushWith e errs) := by
  simp only [execMergeHoldExpiry, hfind, if_pos hat]

/-! ### A partial write enters the buffer -/

/-- A partial write to a pair without an entry makes one, and at most flushes another for it: no pair is poisoned or cleared. -/
theorem State.mergeWrite_poison {s : State} {p : Nat} (off : Nat) (data : List Byte)
    (hnone : s.mem.merge.find? (fun e => e.pair == p) = none) : (s.mergeWrite p off data).mem.poison = s.mem.poison := by
  unfold State.mergeWrite
  simp only [hnone]
  split
  · rfl
  · rw [State.modMem_mem]
    split
    · rfl
    · split
      · exact s.flushEntry_poison _
      · rfl

theorem State.poolWriteFuel_nil (n : Nat) (s : State) (a : Nat) : State.poolWriteFuel n s a [] = s := by
  cases n <;> rfl

/-- Bytes that start in a pair and end before its last byte go to the merge buffer in one piece. -/
theorem State.poolWrite_inside_pair (s : State) {a : Nat} {bs : List Byte} (hne : bs ≠ []) (hlen : bs.length < 64 - a % 64) :
    s.poolWrite a bs = (s.transferred (a / 2 ^ 37 % 8)).mergeWrite (a / 64) (a % 64) bs := by
  obtain ⟨n, hn⟩ := Nat.exists_eq_succ_of_ne_zero (mt List.length_eq_zero_iff.1 hne)
  have hpart : bs.take (64 - a % 64) = bs := List.take_of_length_le hlen.le
  rw [State.poolWrite, hn, State.poolWriteFuel]
  simp only [hpart, List.drop_length, State.poolWriteFuel_nil]
  rw [if_neg (by simpa using hne), if_neg (by omega)]

theorem State.target_mod {s : State} {w a : Nat} (h : s.target w = some a) : a % 65536 = w % 65536 := by
  simp only [State.target, State.windowAt, Option.ite_none_right_eq_some, Option.some.injEq] at h
  obtain ⟨-, -, rfl⟩ := h
  omega

/-- A partial write of the host either does nothing to the memory or is one piece that enters the merge buffer (R430). -/
theorem execMemwrptl_inside_pair {s : State} {w a : Nat} {data : List Byte} (htarget : s.target w = some a) (hlen : data.length < 64 - w % 64) :
    execMemwrptl w data s = .next s ∨
    execMemwrptl w data s = .next ((s.transferred (a / 2 ^ 37 % 8)).mergeWrite (a / 64) (a % 64) data) := by
  have hoff : a % 64 = w % 64 := by
    have := State.target_mod htarget
    omega
  unfold execMemwrptl
  split
  next => exact .inl rfl
  next hserved =>
    have hne : data ≠ [] := fun h => hserved (.inr (.inr (by simp [h])))
    right
    simp only [htarget]
    rw [List.take_of_length_le hlen.le, s.poolWrite_inside_pair hne (by omega)]

/-! ### The writes to a poisoned pair, by command (R343) -/

theorem completes_pairWrite {s : State} {pair : Nat} {data : List Byte} (hpair : pair < 2 ^ 34) (hup : s.stackLost (pairStack pair) = false)
    (hlen : data.length = 64) : Completes (.pairWrite pair data) s (fun t => t.poisoned pair = false ∧ t.peek (64 * pair) 64 = data) := by
  have hup' : (s.transferred (pairStack pair)).stackLost (pairStack pair) = false := by rw [State.stackLost_transferred, hup]
  refine ⟨(s.transferred (pairStack pair)).putPair pair data, ?_, State.poisoned_putPair _ data hup', State.peek_putPair _ hup' hlen⟩
  rw [exec_pairWrite, execPairWrite, if_neg (by omega)]

theorem completes_memwrptl_of_poisoned {s : State} {w a : Nat} {data : List Byte} (htarget : s.target w = some a)
    (hpoisoned : s.poisoned (a / 64) = true) (hlen : data.length < 64 - w % 64) (hmerge : s.mem.merge = []) :
    Completes (.memwrptl w data) s (fun t => t.poisoned (a / 64) = true) := by
  obtain h | h := execMemwrptl_inside_pair htarget hlen
  · exact ⟨s, h, hpoisoned⟩
  · refine ⟨_, h, (State.poisoned_eq_of_poison_eq ?_ _).trans hpoisoned⟩
    rw [State.mergeWrite_poison _ _ (by simp [hmerge]), State.transferred_poison]

theorem completes_mergeHoldExpiry_of_poisoned {s : State} {e : MergeEntry} (hmerge : s.mem.merge = [e]) (hpoisoned : s.poisoned e.pair = true)
    (hat : e.at_ + 128 * s.fld MEM_MERGE_CTRL_HOLD ≤ s.free) : Completes (.mergeHoldExpiry e.pair []) s (fun t =>
      t.poisoned e.pair = true ∧ t.mem.bytes = s.mem.bytes ∧ t.mem.merge = []) := by
  refine ⟨s.openEntry e, ?_, (s.poisoned_openEntry e _).trans hpoisoned, by rw [s.openEntry_mem], by simp [s.openEntry_mem, hmerge]⟩
  rw [exec_mergeHoldExpiry, execMergeHoldExpiry_of_expired [] (by simp [hmerge]) hat, State.flushWith_nil,
    State.flushEntry_of_poisoned hpoisoned]

/-- Settles O54, by one lemma for each kind of write. -/
theorem poisonAndWrites : Obligations.PoisonAndWrites := by
  unfold Obligations.PoisonAndWrites
  refine ⟨fun s pair data => completes_pairWrite, fun s room pair => s.poisoned_zeroRoom,
    fun s w a data _ => completes_memwrptl_of_poisoned, fun s pair e hmerge hpair hpoisoned hat => ?_⟩
  subst hpair
  exact completes_mergeHoldExpiry_of_poisoned hmerge hpoisoned hat

end Sys2Proof.Machine
end

section
/-! PROOF. O55: the severity of a message (R397). The message enters the watch's queue with the class R397 gives it, and nothing that its
class sets off takes a message out again; a write of WATCH_SEVs is a plain write of its two fields. -/

namespace Sys2Proof.Machine
open Sys2Proof

/-! ### The two commands -/

theorem exec_faultMessage (source kind address : Nat) (s : State) :
    exec (.faultMessage source kind address) s = execFaultMessage source kind address s :=
  rfl

theorem exec_registerWrite (off size value : Nat) (s : State) :
    exec (.registerWrite off size value) s = execRegisterWrite off size value s :=
  rfl

/-! ### A message enters the queue (R392) -/

@[simp] theorem State.modWatch_watch (s : State) (g : WatchQ → WatchQ) : (s.modWatch g).watch = g s.watch := rfl

/-- A message that enters takes its place among those queued, which all stay. -/
theorem State.enterWatch_perm (s : State) (m : Word) :
    List.Perm (s.enterWatch m).watch.queue ((m, s.acceptTick) :: s.watch.queue) := by
  simp only [State.enterWatch, State.modWatch_watch, List.splitAt_eq, List.span_eq_takeWhile_dropWhile]
  rw [List.append_assoc _ [_], List.singleton_append]
  refine List.perm_middle.trans (.of_eq ?_)
  rw [List.append_assoc, List.takeWhile_append_dropWhile, List.take_append_drop]

/-- A message the watch takes enters the queue where there is room, and is counted where there is none. -/
theorem State.accept_queue (s : State) (source kind sev address : Nat) :
    if s.watch.queue.length < 512 then
      ∃ tick, List.Perm (s.accept source kind sev address).watch.queue ((faultWord source kind sev address, tick) :: s.watch.queue)
    else (s.accept source kind sev address).watch.queue = s.watch.queue := by
  unfold State.accept
  extract_lets s1 s2
  have hwatch : s2.watch = s.watch := by
    simp only [s2, s1, State.setFld_watch]
    split <;> rfl
  rw [← hwatch]
  split
  · exact ⟨_, s2.enterWatch_perm _⟩
  · rw [State.raise_watch, State.count_watch]

theorem State.mem_accept {s : State} (hroom : s.watch.queue.length < 512) (source kind sev address : Nat) :
    ∃ m ∈ (s.accept source kind sev address).watch.queue, m.1 = faultWord source kind sev address := by
  have h := s.accept_queue source kind sev address
  rw [if_pos hroom] at h
  obtain ⟨tick, hperm⟩ := h
  exact ⟨_, hperm.mem_iff.2 List.mem_cons_self, rfl⟩

theorem State.queue_subset_accept (s : State) (source kind sev address : Nat) :
    s.watch.queue ⊆ (s.accept source kind sev address).watch.queue := by
  have h := s.accept_queue source kind sev address
  split at h
  · obtain ⟨tick, hperm⟩ := h
    exact fun m hm => hperm.mem_iff.2 (List.mem_cons_of_mem _ hm)
  · rw [h]
    exact List.Subset.refl _

/-! ### No message leaves by what the fatal classes set off (R398, R399) -/

theorem Within.queue_eq {ps : List Part} {s t : State} (h : Within ps s t) (hp : .watch ∉ ps) : t.watch.queue = s.watch.queue :=
  congrArg WatchQ.queue (h.same .watch hp)

theorem State.queue_subset_stopServing (s : State) : s.watch.queue ⊆ s.stopServing.watch.queue := by
  rw [State.stopServing, within_failAll.queue_eq (by decide), State.abandonStop]
  split
  · exact List.Subset.refl _
  · have hstop : ((s.stopResult 5).setReg PH_STOP_END (BitVec.ofNat 64 s.now)).watch.queue = s.watch.queue :=
      within_stopResult.queue_eq (by decide)
    rw [← hstop]
    exact State.queue_subset_accept _ _ _ _ _

theorem State.queue_subset_halt (s : State) : s.watch.queue ⊆ s.halt.watch.queue := by
  unfold State.halt
  split_ifs
  · exact List.Subset.refl _
  · exact List.Subset.refl _
  · simpa using (s.setPhase 8).queue_subset_stopServing

/-- What FATAL_POWER_CYCLE does to one port (R399). -/
def State.freezePort (s : State) (p : Nat) : State :=
  if s.fld (LN_PORT_W2_STATE p) = 0 then s
  else
    let down := if s.portUp p then ((s.leaveUp p).setFld (LN_PORT_W2_STATE p) 6).dropQueued p true else s.setFld (LN_PORT_W2_STATE p) 6
    (down.setFld (LN_PORT_W2_STAGE p) 0).restLanes p

theorem State.freeze_eq (s : State) : s.freeze =
    if s.phase = 0 ∨ s.phase = 7 then s
    else ((List.range 256).foldl State.freezePort
      (if s.phase = 8 then s.setPhase 7 else (s.setPhase 7).stopServing)).setFld LN_STATUS_PORTS_UP 0 :=
  rfl

theorem within_freezePort {s : State} {p : Nat} : Within [.regs, .sw, .lanes, .out] s (s.freezePort p) := by
  unfold State.freezePort
  extract_lets down
  split
  · exact .refl _ _
  · have hdown : Within [.regs, .sw, .lanes, .out] s down := by
      unfold down
      split
      · exact within_dropQueued.andThen (by decide) (within_setFld.andThen (by decide) (within_leaveUp.andThen (by decide) (.refl _ _)))
      · exact within_setFld.mono (by decide)
    exact within_restLanes.andThen (by decide) (within_setFld.andThen (by decide) hdown)

theorem State.queue_subset_freeze (s : State) : s.watch.queue ⊆ s.freeze.watch.queue := by
  rw [State.freeze_eq]
  split
  · exact List.Subset.refl _
  · rw [State.setFld_watch, (Within.foldl (fun _ _ => within_freezePort) _ (.refl _ _)).queue_eq (by decide)]
    split
    · simp
    · simpa using (s.setPhase 7).queue_subset_stopServing

/-- Every message queued, the fault's own among them, stays through the fault. -/
theorem State.queue_accept_subset_fault (s : State) (source kind address : Nat) :
    (s.accept source kind (s.severity source kind) address).watch.queue ⊆ (s.fault source kind address).watch.queue := by
  unfold State.fault
  dsimp only
  split_ifs
  · exact State.queue_subset_freeze _
  · exact State.queue_subset_halt _
  · exact List.Subset.refl _

/-! ### The class of a message (R397) -/

theorem State.severity_congr {s t : State} {source : Nat} (h : t.reg (WATCH_SEV source) = s.reg (WATCH_SEV source)) (kind : Nat) :
    t.severity source kind = s.severity source kind := by
  have hflag : t.flag (WATCH_SEV_OVERRIDE source) = s.flag (WATCH_SEV_OVERRIDE source) := by simp only [State.flag, State.fld, WATCH_SEV_OVERRIDE, h]
  have hfld : t.fld (WATCH_SEV_SEV source) = s.fld (WATCH_SEV_SEV source) := by simp only [State.fld, WATCH_SEV_SEV, h]
  unfold State.severity
  rw [hflag, hfld]

/-- A listed message is a fault from a state whose queue and classes are those of now: at most a counter has moved (R392). -/
theorem exec_faultMessage_of_listed {s : State} {source kind address : Nat} (hsource : sourceListed source = true)
    (hkind : faultKindListed kind = true) (haddr : address < 2 ^ 40) :
    ∃ u : State, exec (.faultMessage source kind address) s = .next (u.fault source kind address).retryAgents ∧ u.watch = s.watch ∧
      u.severity source kind = s.severity source kind := by
  refine ⟨if source = 0x060 ∧ kind = 0x05 then s.count (TL_CNT 10) else s, ?_, ?_, ?_⟩
  · rw [exec_faultMessage, execFaultMessage, hsource, hkind, Nat.mod_eq_of_lt haddr]
    rfl
  · split <;> rfl
  · split
    · next h =>
      obtain ⟨rfl, rfl⟩ := h
      exact State.severity_congr (s.reg_count_other (by decide)) _
    · rfl

/-- A block's message enters the queue with the class that R397 gives it, and stays there. -/
theorem completes_faultMessage {s : State} {source kind address : Nat} (hsource : sourceListed source = true) (hkind : faultKindListed kind = true)
    (haddr : address < 2 ^ 40) (hroom : s.watch.queue.length < 512) : Completes (.faultMessage source kind address) s (fun t =>
      ∃ m ∈ t.watch.queue, m.1 = faultWord source kind (s.severity source kind) address) := by
  obtain ⟨u, hexec, hwatch, hsev⟩ := exec_faultMessage_of_listed (s := s) hsource hkind haddr
  obtain ⟨m, hm, hword⟩ := State.mem_accept (s := u) (by rwa [hwatch]) source kind (u.severity source kind) address
  refine ⟨_, hexec, m, ?_, by rw [hword, hsev]⟩
  rw [within_retryAgents.queue_eq (by decide)]
  exact u.queue_accept_subset_fault source kind address hm

/-- A message's word shows the class it was given (R391). -/
theorem bitsOf_faultWord {sev : Nat} (hsev : sev < 8) (source kind address : Nat) :
    bitsOf (faultWord source kind sev address).toNat 47 45 = sev := by
  refine Nat.eq_of_testBit_eq fun i => ?_
  rw [bitsOf_testBit, ← BitVec.getLsbD, faultWord]
  simp only [BitVec.getLsbD_or, placed_getLsbD]
  by_cases hi : i < 3
  · have hsrc : ¬ 54 ≤ 45 + i := by omega
    have hkind : ¬ 48 ≤ 45 + i := by omega
    have haddr : ¬ 45 + i < 40 := by omega
    have hword : 45 + i < 64 := by omega
    simp [hsrc, hkind, hword, hi, haddr]
  · have hbit : sev.testBit i = false := Nat.testBit_lt_two_pow (hsev.trans_le (Nat.pow_le_pow_right (n := 2) (i := 3) (by decide) (by omega)))
    simp [hi, hbit]

/-! ### A write below the switch's registers -/

theorem arrayIndex_eq_none_below_switch {base off : Nat} (h : off < 0x200000) (stride count : Nat) (hbase : 0x200000 ≤ base) :
    arrayIndex base stride count off = none :=
  if_neg (by omega)

theorem clusterIndex_eq_none_of_lt {off : Nat} (h : off < 0x800000) (base stride count : Nat) : clusterIndex base stride count off = none :=
  if_neg (by omega)

/-- In the blocks below the switch (R27) only a single register's write can do more than R11 says. -/
theorem State.writeArray_eq_none_below_switch (s : State) {off : Nat} (value : Nat) (h : off < 0x200000) : s.writeArray off value = none := by
  simp only [State.writeArray, State.writeSwitchArray, arrayIndex_eq_none_below_switch h, SW_CURFEW_CTL, SW_CURFEW_TICK, SW_OWNER, SW_EGRESS, SW_DEAD, SW_RANK,
    SW_PARTY, SW_STREAM, TL_POOL, CL_CTRL, CL_QUAR, LN_PORT_W1, LN_PORT_W3, MB_WINDOW, MB_QCFG, MB_QHEAD, MSIX_CTL, Nat.reduceMul, Nat.reduceAdd,
    Nat.reduceLeDiff, Option.map_none, Option.or_none]

theorem State.store_eq_writePlain_below_switch (s : State) {off : Nat} (value : Nat) (h : off < 0x200000) (hsingle : off ∉ singleOffsets) :
    s.store off value = .next (s.writePlain off value) := by
  have hcluster : ∀ base stride count : Nat, clusterIndex base stride count off = none :=
    clusterIndex_eq_none_of_lt (h.trans (by decide))
  simp only [State.store, s.writeSingle_eq_none value hsingle, s.writeArray_eq_none_below_switch value h, isWord0, arrayIndex_eq_none_below_switch h,
    hcluster, SW_POL_W0, SW_POL_W1, SW_VLAN_W0, SW_VLAN_W1, Nat.reduceMul, Nat.reduceAdd, Nat.reduceLeDiff, Option.isSome_none, Bool.or_self,
    Bool.false_eq_true, if_false]

theorem State.writePlain_mod (s : State) (off value : Nat) : s.writePlain off (value % 2 ^ 64) = s.writePlain off value := by
  have hword : BitVec.ofNat 64 (value % 2 ^ 64) = BitVec.ofNat 64 value := BitVec.eq_of_toNat_eq (by simp)
  simp only [State.writePlain, State.written, hword]

theorem exec_registerWrite_below_switch {s : State} {off : Nat} (value : Nat) (hs : Writable s) (halign : off % 8 = 0) (hoff : off < 0x200000)
    (hsingle : off ∉ singleOffsets) : exec (.registerWrite off 8 value) s = .next (s.writePlain off value) := by
  obtain ⟨hclosed, hphase⟩ := hs
  have hwritable : s.writable off = true := by simp [State.writable, hclosed, hphase]
  have hvalue : s.valueOf off 8 value = value % 2 ^ 64 := by simp [State.valueOf, State.wholeValue]
  rw [exec_registerWrite, execRegisterWrite, if_pos hwritable, State.storeAt, if_neg (by omega)]
  simp only [halign, Nat.sub_zero, if_true, Option.getD_none, hvalue]
  rw [s.store_eq_writePlain_below_switch _ hoff hsingle, s.writePlain_mod]

/-! ### A write of WATCH_SEVs -/

/-- The row of the register map that holds WATCH_SEVs. -/
def watchSevRow : RegRow := ⟨0x00101000, 8, 1024, 1, [⟨3, 3, .rw, 0, []⟩, ⟨2, 0, .rw, 0, [(0, 5)]⟩]⟩

theorem watchSev_not_single {source : Nat} (h : source < 1024) : WATCH_SEV source ∉ singleOffsets := by
  have hapart : ∀ c ∈ singleOffsets, c < WATCH_SEV 0 ∨ WATCH_SEV 1024 ≤ c := by decide
  intro hmem
  have := hapart _ hmem
  simp only [WATCH_SEV] at this
  omega

theorem regRow_watchSev {source : Nat} (h : source < 1024) : regRow? (WATCH_SEV source) = some watchSevRow := by
  have hhome : regHome (WATCH_SEV source) = WATCH_SEV source := regHome_of_outside (by simp only [WATCH_SEV]; omega)
  have hhas : watchSevRow.has (WATCH_SEV source) = true := RegRow.has_word (r := watchSevRow) (j := 0) h (by decide) (by decide)
  have hrows : regRows = regRows.take 15 ++ watchSevRow :: regRows.drop 16 := by decide +kernel
  rw [regRow?, hhome, hrows, find_row_skip _ _ _ (WATCH_SEV 0) (by decide +kernel) (by simp only [WATCH_SEV]; omega), List.find?_cons, hhas]

theorem bitsOf_ofNat {hi : Nat} (h : hi < 64) (v lo : Nat) : bitsOf (BitVec.ofNat 64 v).toNat hi lo = bitsOf v hi lo := by
  refine Nat.eq_of_testBit_eq fun i => ?_
  rw [bitsOf_testBit, bitsOf_testBit, ← BitVec.getLsbD, BitVec.getLsbD_ofNat]
  by_cases hi' : i < hi + 1 - lo
  · have hword : lo + i < 64 := by omega
    simp [hword]
  · simp [hi']

theorem bitsOf_self (v i : Nat) : bitsOf v i i = (v.testBit i).toNat := by
  rw [bitsOf, Nat.add_sub_cancel_left, pow_one, Nat.toNat_testBit]

/-- A write of a class that is assigned sets OVERRIDE and SEV (R11, R15). -/
theorem State.written_watchSev (s : State) {source value : Nat} (h : source < 1024) (hsev : bitsOf value 2 0 ≤ 5) :
    s.written (WATCH_SEV source) value = putFld (putFld (s.reg (WATCH_SEV source)) 3 3 (bitsOf value 3 3)) 2 0 (bitsOf value 2 0) := by
  have hover : bitsOf (BitVec.ofNat 64 value).toNat 3 3 = bitsOf value 3 3 := bitsOf_ofNat (by decide) _ _
  have hclass : bitsOf (BitVec.ofNat 64 value).toNat 2 0 = bitsOf value 2 0 := bitsOf_ofNat (by decide) _ _
  simp only [State.written, regRow_watchSev h, watchSevRow, writeFields, List.foldl_cons, List.foldl_nil, hover, hclass]
  exact if_pos (by simpa [FieldRow.ok] using hsev)

theorem State.severity_setReg (s : State) (source kind : Nat) (w : Word) : (s.setReg (WATCH_SEV source) w).severity source kind =
    if kindSeverity kind = 5 then 5 else if bitsOf w.toNat 3 3 != 0 then bitsOf w.toNat 2 0 else kindSeverity kind := by
  have hover : (s.setReg (WATCH_SEV source) w).fld (WATCH_SEV_OVERRIDE source) = bitsOf w.toNat 3 3 := s.fld_setReg_same w (WATCH_SEV_OVERRIDE source)
  have hclass : (s.setReg (WATCH_SEV source) w).fld (WATCH_SEV_SEV source) = bitsOf w.toNat 2 0 := s.fld_setReg_same w (WATCH_SEV_SEV source)
  unfold State.severity
  rw [State.flag, hover, hclass]

theorem State.severity_writePlain (s : State) {source value : Nat} (h : source < 1024) (hsev : bitsOf value 2 0 ≤ 5) (kind : Nat) :
    (s.writePlain (WATCH_SEV source) value).severity source kind =
      if kindSeverity kind = 5 then 5 else if value.testBit 3 then bitsOf value 2 0 else kindSeverity kind := by
  have hclass : bitsOf value 2 0 % 2 ^ 3 = bitsOf value 2 0 := Nat.mod_eq_of_lt (bitsOf_lt value 2 0)
  have hover : ((value.testBit 3).toNat % 2 ^ 1 != 0) = value.testBit 3 := by cases value.testBit 3 <;> rfl
  rw [State.writePlain, State.severity_setReg, s.written_watchSev h hsev, bitsOf_putFld_same _ _ _ _ (by decide),
    bitsOf_putFld_other _ _ _ _ _ _ (by decide) (by decide), bitsOf_putFld_same _ _ _ _ (by decide), bitsOf_self, hclass, hover]

theorem completes_registerWrite_watchSev {s : State} {source value : Nat} (hs : Writable s) (h : source < 1024) (hsev : bitsOf value 2 0 ≤ 5)
    (kind : Nat) : Completes (.registerWrite (WATCH_SEV source) 8 value) s (fun t =>
      t.severity source kind = (if kindSeverity kind = 5 then 5 else if value.testBit 3 then bitsOf value 2 0 else kindSeverity kind) ∧
      t.watch = s.watch) :=
  ⟨_, exec_registerWrite_below_switch value hs (by simp only [WATCH_SEV]; omega) (by simp only [WATCH_SEV]; omega) (watchSev_not_single h),
    s.severity_writePlain h hsev kind, rfl⟩

/-- Settles O55: a message's class is `State.severity`, which a write of WATCH_SEVs sets, and the message stays queued through what the class
sets off. -/
theorem messageSeverity : Obligations.MessageSeverity := by
  unfold Obligations.MessageSeverity
  exact ⟨fun s source kind address => completes_faultMessage,
    fun s source kind value hs h hsev => completes_registerWrite_watchSev hs h hsev kind,
    fun source kind sev address hsev => bitsOf_faultWord hsev source kind address⟩

end Sys2Proof.Machine
end

section
/-! PROOF. O57: a write of MB_QCFGq (R433). The word written takes ENABLE and, where it is valid, LOG2_ENTRIES (R15); the notices that a
started queue then takes move no register but TAIL of queue 1. -/

namespace Sys2Proof.Machine
open Sys2Proof

theorem exec_queueConfigWrite (q value : Nat) (s : State) : exec (.queueConfigWrite q value) s = execQueueConfigWrite q value s := rfl

/-! ### The word that a write of MB_QCFGq leaves (R11, R15) -/

/-- The row of the register map that holds MB_QCFGq. -/
def queueConfigRow : RegRow := ⟨0x01A10108, 32, 2, 1, [⟨63, 63, .rw, 0, []⟩, ⟨3, 0, .rw, 4, [(4, 15)]⟩]⟩

theorem regRow_queueConfig : ∀ q < 2, regRow? (MB_QCFG q) = some queueConfigRow := by decide +kernel

theorem State.written_queueConfig (s : State) {q : Nat} (hq : q < 2) (value : Nat) : s.written (MB_QCFG q) value =
    if 4 ≤ bitsOf value 3 0 then putFld (putFld (s.reg (MB_QCFG q)) 63 63 (bitsOf value 63 63)) 3 0 (bitsOf value 3 0)
    else putFld (s.reg (MB_QCFG q)) 63 63 (bitsOf value 63 63) := by
  have henable : bitsOf (BitVec.ofNat 64 value).toNat 63 63 = bitsOf value 63 63 := bitsOf_ofNat (by decide) _ _
  have hlog : bitsOf (BitVec.ofNat 64 value).toNat 3 0 = bitsOf value 3 0 := bitsOf_ofNat (by decide) _ _
  have hle : bitsOf value 3 0 ≤ 15 := Nat.le_of_lt_succ (bitsOf_lt value 3 0)
  simp only [State.written, regRow_queueConfig q hq, queueConfigRow, writeFields, List.foldl_cons, List.foldl_nil, henable, hlog]
  simp [FieldRow.ok, hle]

theorem State.enable_written_queueConfig (s : State) {q : Nat} (hq : q < 2) (value : Nat) :
    bitsOf (s.written (MB_QCFG q) value).toNat 63 63 = (value.testBit 63).toNat := by
  have hput : bitsOf (putFld (s.reg (MB_QCFG q)) 63 63 (bitsOf value 63 63)).toNat 63 63 = (value.testBit 63).toNat := by
    rw [bitsOf_putFld_same _ _ _ _ (by decide), Nat.mod_eq_of_lt (bitsOf_lt value 63 63), bitsOf_self]
  rw [s.written_queueConfig hq]
  split
  · rw [bitsOf_putFld_other _ _ _ _ _ _ (by decide) (by decide), hput]
  · exact hput

/-- A reserved LOG2_ENTRIES leaves the field as it was (R15). -/
theorem State.log2Entries_written_queueConfig (s : State) {q : Nat} (hq : q < 2) (value : Nat) :
    bitsOf (s.written (MB_QCFG q) value).toNat 3 0 =
      if 4 ≤ bitsOf value 3 0 then bitsOf value 3 0 else s.fld (MB_QCFG_LOG2_ENTRIES q) := by
  rw [s.written_queueConfig hq]
  split
  · rw [bitsOf_putFld_same _ _ _ _ (by decide), Nat.mod_eq_of_lt (bitsOf_lt value 3 0)]
  · exact bitsOf_putFld_other _ _ _ _ _ _ (by decide) (by decide)

theorem State.enable_writePlain_queueConfig (s : State) {q : Nat} (hq : q < 2) (value : Nat) :
    (s.writePlain (MB_QCFG q) value).fld (MB_QCFG_ENABLE q) = (value.testBit 63).toNat :=
  (s.fld_setReg_same _ (MB_QCFG_ENABLE q)).trans (s.enable_written_queueConfig hq value)

/-! ### Held notices written (R434) -/

theorem State.qVector_reg (s : State) (q o : Nat) : (s.qVector q).reg o = s.reg o :=
  State.reg_congr (within_qVector.same .regs (by decide)).1 o

theorem State.reg_qWrite_other (s : State) {q o : Nat} (entry : List Byte) (h : o ≠ MB_QTAIL q) : (s.qWrite q entry).reg o = s.reg o := by
  unfold State.qWrite
  extract_lets tail tag at_ s1 next s2
  have htail : s2.reg o = s.reg o := s1.reg_setFld_other _ _ h
  rw [State.qVector_reg, ← htail]
  split <;> rfl

theorem State.reg_flushNotices_other (s : State) {o : Nat} (h : o ≠ MB_QTAIL 1) : s.flushNotices.reg o = s.reg o := by
  refine State.reg_foldl (fun x n _ => ?_) s
  split
  · exact x.reg_qWrite_other n h
  · rfl

theorem State.flushNotices_of_nil {s : State} (h : s.stays.notices = []) : s.flushNotices = s := by
  rw [State.flushNotices, h, List.foldl_nil]

theorem State.fld_flushNotices {s : State} {f : Fld} (h : f.off ≠ MB_QTAIL 1 ∨ s.stays.notices = []) : s.flushNotices.fld f = s.fld f := by
  obtain h | h := h
  · rw [State.fld, s.reg_flushNotices_other h, State.fld]
  · rw [State.flushNotices_of_nil h]

/-! ### The command's outcomes (R433) -/

/-- A queue as it starts: TAIL and HEAD at 0, the phase tag of the first round. -/
def State.restartQueue (s : State) (q : Nat) : State :=
  ((s.setFld (MB_QTAIL_TAIL q) 0).setFld (MB_QHEAD_HEAD q) 0).modHost (fun h => { h with tags := modifyAt (fun _ => true) q h.tags })

theorem execQueueConfigWrite_of_refused {s : State} {q value : Nat} (hq : q < 2) (hon : s.flag (MB_QCFG_ENABLE q) = true)
    (hvalid : 4 ≤ bitsOf value 3 0) (hne : bitsOf value 3 0 ≠ s.fld (MB_QCFG_LOG2_ENTRIES q)) :
    execQueueConfigWrite q value s = .next (s.raise MB_ERR_QUEUE_REFUSED) := by
  have hlog : bitsOf (s.written (MB_QCFG q) value).toNat 3 0 = bitsOf value 3 0 := by
    rw [s.log2Entries_written_queueConfig hq, if_pos hvalid]
  rw [execQueueConfigWrite, if_neg (by omega)]
  exact if_pos ⟨hon, hlog ▸ hne⟩

theorem execQueueConfigWrite_of_accepted {s : State} {q value : Nat} (hq : q < 2)
    (hok : s.flag (MB_QCFG_ENABLE q) = false ∨ bitsOf value 3 0 = s.fld (MB_QCFG_LOG2_ENTRIES q)) :
    execQueueConfigWrite q value s = .next (if value.testBit 63 then ((s.writePlain (MB_QCFG q) value).restartQueue q).flushNotices
      else s.writePlain (MB_QCFG q) value) := by
  have hkept : ¬(s.flag (MB_QCFG_ENABLE q) = true ∧
      bitsOf (s.written (MB_QCFG q) value).toNat 3 0 ≠ s.fld (MB_QCFG_LOG2_ENTRIES q)) := by
    rw [s.log2Entries_written_queueConfig hq]
    obtain hoff | hsame := hok
    · simp [hoff]
    · simp [hsame]
  rw [execQueueConfigWrite, if_neg (by omega)]
  refine (if_neg hkept).trans ?_
  cases value.testBit 63 <;> rfl

/-! ### A queue started, refused a change, stopped -/

theorem State.fld_restartQueue (s : State) (q : Nat) :
    (s.restartQueue q).fld (MB_QTAIL_TAIL q) = 0 ∧ (s.restartQueue q).fld (MB_QHEAD_HEAD q) = 0 ∧
      (s.restartQueue q).fld (MB_QCFG_ENABLE q) = s.fld (MB_QCFG_ENABLE q) := by
  have hhead : MB_QTAIL q ≠ MB_QHEAD q := by simp only [MB_QTAIL, MB_QHEAD]; omega
  have hcfg : MB_QCFG q ≠ MB_QHEAD q ∧ MB_QCFG q ≠ MB_QTAIL q := by simp only [MB_QCFG, MB_QTAIL, MB_QHEAD]; omega
  refine ⟨?_, ?_, ?_⟩ <;> rw [State.restartQueue, State.modHost_fld]
  · rw [State.fld_setFld_off _ _ _ _ hhead, State.fld_setFld_same _ _ _ (by simp [MB_QTAIL_TAIL]), Nat.zero_mod]
  · rw [State.fld_setFld_same _ _ _ (by simp [MB_QHEAD_HEAD]), Nat.zero_mod]
  · rw [State.fld_setFld_off _ _ _ _ hcfg.1, State.fld_setFld_off _ _ _ _ hcfg.2]

theorem completes_queueConfigWrite_start {s : State} {q value : Nat} (hq : q < 2) (hnotices : q = 0 ∨ s.stays.notices = [])
    (hbit : value.testBit 63 = true) (hok : s.flag (MB_QCFG_ENABLE q) = false ∨ bitsOf value 3 0 = s.fld (MB_QCFG_LOG2_ENTRIES q)) :
    Completes (.queueConfigWrite q value) s (fun t =>
      t.fld (MB_QCFG_ENABLE q) = 1 ∧ t.fld (MB_QTAIL_TAIL q) = 0 ∧ t.fld (MB_QHEAD_HEAD q) = 0) := by
  have hflush : ∀ f : Fld, (q = 0 → f.off ≠ MB_QTAIL 1) → ((s.writePlain (MB_QCFG q) value).restartQueue q).flushNotices.fld f =
      ((s.writePlain (MB_QCFG q) value).restartQueue q).fld f :=
    fun f hf => State.fld_flushNotices (hnotices.imp hf id)
  obtain ⟨htail, hhead, henable⟩ := (s.writePlain (MB_QCFG q) value).fld_restartQueue q
  refine ⟨_, by rw [exec_queueConfigWrite, execQueueConfigWrite_of_accepted hq hok, if_pos hbit], ?_, ?_, ?_⟩
  · rw [hflush _ (by rintro rfl; decide), henable, s.enable_writePlain_queueConfig hq, hbit, Bool.toNat_true]
  · rw [hflush _ (by rintro rfl; decide), htail]
  · rw [hflush _ (by rintro rfl; decide), hhead]

theorem completes_queueConfigWrite_refused {s : State} {q value : Nat} (hq : q < 2) (hon : s.flag (MB_QCFG_ENABLE q) = true)
    (hvalid : 4 ≤ bitsOf value 3 0) (hne : bitsOf value 3 0 ≠ s.fld (MB_QCFG_LOG2_ENTRIES q)) :
    Completes (.queueConfigWrite q value) s (fun t => t.fld MB_ERR_QUEUE_REFUSED = 1 ∧ t.reg (MB_QCFG q) = s.reg (MB_QCFG q) ∧
      t.host = s.host ∧ t.out = s.out) := by
  have hoff : MB_QCFG q ≠ MB_ERR := by simp only [MB_QCFG, MB_ERR]; omega
  exact ⟨_, execQueueConfigWrite_of_refused hq hon hvalid hne, s.fld_raise_same _ (by decide), s.reg_raise_other _ hoff,
    s.raise_host _, s.raise_out _⟩

theorem State.qReady_of_disabled {s : State} {q : Nat} (h : s.fld (MB_QCFG_ENABLE q) = 0) : s.qReady q = false := by
  simp [State.qReady, State.flag, h]

theorem completes_queueConfigWrite_stop {s : State} {q value : Nat} (hq : q < 2) (hbit : value.testBit 63 = false)
    (hsame : bitsOf value 3 0 = s.fld (MB_QCFG_LOG2_ENTRIES q)) : Completes (.queueConfigWrite q value) s (fun t =>
      t.fld (MB_QCFG_ENABLE q) = 0 ∧ t.qReady q = false ∧ t.out = s.out) := by
  have henable : (s.writePlain (MB_QCFG q) value).fld (MB_QCFG_ENABLE q) = 0 := by
    rw [s.enable_writePlain_queueConfig hq, hbit, Bool.toNat_false]
  refine ⟨_, ?_, henable, State.qReady_of_disabled henable, s.setReg_out _ _⟩
  rw [exec_queueConfigWrite, execQueueConfigWrite_of_accepted hq (.inr hsame), if_neg (by simp [hbit])]

/-- Settles O57, by one lemma for each sentence of R433. -/
theorem queueConfiguration : Obligations.QueueConfiguration := by
  unfold Obligations.QueueConfiguration
  exact ⟨fun _ _ _ => completes_queueConfigWrite_start, fun _ _ _ => completes_queueConfigWrite_refused,
    fun _ _ _ => completes_queueConfigWrite_stop⟩

end Sys2Proof.Machine
end

section
/-! PROOF. O5, O6, O7, O44, O45, O46: every command answers a next state, and which parts of the state it may change. There is one lemma for each
command, which peels the operations that its meaning is made of, outermost first, down to the state it began in. -/

-- Proofs are checked one at a time: side by side they would only wait for one another.
set_option Elab.async false

namespace Sys2Proof.Machine
open Sys2Proof

/-- The outcome is a next state, which lies within the parts. -/
def Answers (ps : List Part) (s : State) (o : Host.Outcome State Fault Refusal) : Prop := ∃ t, o = .next t ∧ Within ps s t

section
variable {ps qs : List Part} {s t : State} {o : Host.Outcome State Fault Refusal}

theorem Answers.of_next (h : Within ps s t) : Answers ps s (.next t) := ⟨t, rfl, h⟩

theorem Answers.stay : Answers ps s (.next s) := .of_next (.refl _ _)

theorem Answers.of_ends (h : Ends ps s (.next t)) : Answers ps s (.next t) := .of_next (h t rfl)

theorem Answers.ends (h : Answers ps s o) : Ends ps s o := by
  obtain ⟨t, rfl, ht⟩ := h
  exact Ends.of_next ht

theorem Answers.mono (h : Answers qs s o) (hq : ∀ p ∈ qs, p ∈ ps) : Answers ps s o := by
  obtain ⟨t, rfl, ht⟩ := h
  exact .of_next (ht.mono hq)

theorem Answers.andThen (h : Answers qs t o) (hq : ∀ p ∈ qs, p ∈ ps) (k : Within ps s t) : Answers ps s o := by
  obtain ⟨u, rfl, hu⟩ := h
  exact .of_next (hu.andThen hq k)

end

/-! ### Commands that an agent or a responder takes -/

theorem answers_serve {ps : List Part} {s : State} {f : Frame} {act : State → State}
    (hp : ∀ p ∈ [Part.regs, .power, .watch, .sw, .lanes, .tally, .health, .host, .out], p ∈ ps) (ha : ∀ x, Within ps x (act x)) :
    Answers ps s (s.serve f act) :=
  .of_ends (within_serve hp ha)

theorem answers_serveAny {ps : List Part} {s : State} {f : Frame} {act : State → State} (hp : ∀ p ∈ [Part.regs, .sw], p ∈ ps)
    (ha : ∀ x, Within ps x (act x)) : Answers ps s (s.serveAny f act) :=
  .of_ends (within_serveAny hp ha)

theorem answers_tallyServe {ps : List Part} {s : State} {f : Frame} {act : State → State}
    (hp : ∀ p ∈ [Part.regs, .power, .watch, .sw, .lanes, .tally, .health, .host, .out], p ∈ ps) (ha : ∀ x, Within ps x (act x)) :
    Answers ps s (s.tallyServe f act) := by
  unfold State.tallyServe
  split
  · exact .stay
  · exact answers_serve hp ha

theorem answers_innServe {ps : List Part} {s : State} {f : Frame} {act : State → State}
    (hp : ∀ p ∈ [Part.regs, .power, .watch, .sw, .lanes, .tally, .health, .host, .out], p ∈ ps) (ha : ∀ x, Within ps x (act x)) :
    Answers ps s (s.innServe f act) := by
  unfold State.innServe
  split
  · exact .stay
  · exact answers_serve hp ha

theorem answers_roomRequest {ps : List Part} {s : State} {f : Frame}
    (hp : ∀ p ∈ [Part.regs, .power, .watch, .sw, .lanes, .tally, .mem, .stays, .health, .host, .out], p ∈ ps) : Answers ps s (s.roomRequest f) := by
  unfold State.roomRequest
  split
  · exact .stay
  · exact (answers_innServe (by decide) fun _ => within_takeRequest.mono (by decide)).mono hp

theorem answers_command {ps : List Part} {s : State} {opcode : Nat} {act : State → State} (hp : Part.out ∈ ps) (ha : ∀ x, Within ps x (act x)) :
    Answers ps s (s.command opcode act) := by
  unfold State.command
  split
  · exact .stay
  · split
    · exact .of_next (within_reply.mono (by simpa using hp))
    · exact .of_next (ha s)

theorem answers_spdmAsk {ps : List Part} {s : State} {act : State → State} (ha : ∀ x, Within ps x (act x)) : Answers ps s (s.spdmAsk act) := by
  unfold State.spdmAsk
  split
  · exact .of_next (ha s)
  · exact .stay

theorem answers_spdmEarly {ps : List Part} {s : State} {act : State → State} (hp : Part.out ∈ ps) (ha : ∀ x, Within ps x (act x)) :
    Answers ps s (s.spdmEarly act) :=
  answers_spdmAsk fun x => by
    split
    · exact within_spdmError.mono (by simpa using hp)
    · exact ha x

theorem answers_spdmChosen {ps : List Part} {s : State} {act : State → State} (hp : Part.out ∈ ps) (ha : ∀ x, Within ps x (act x)) :
    Answers ps s (s.spdmChosen act) :=
  answers_spdmAsk fun x => by
    split
    · exact ha x
    · exact within_spdmError.mono (by simpa using hp)

theorem answers_execFrameIngress {s : State} {port : Nat} {f : Frame} :
    Answers [.regs, .power, .watch, .sw, .lanes, .tally, .health, .host, .out] s (execFrameIngress port f s) := by
  unfold execFrameIngress
  repeat' first
    | with_reducible exact Within.refl _ _
    | with_reducible apply Answers.of_next
    | (with_reducible apply Within.andThen within_countRx; · decide)
    | (with_reducible apply Within.andThen within_ingress; · decide)
    | split

theorem answers_execFrameTailReceived {s : State} {port : Nat} {sealOk : Bool} :
    Answers [.regs, .power, .bell, .watch, .sw, .lanes, .tally, .health, .host, .out] s (execFrameTailReceived port sealOk s) := by
  unfold execFrameTailReceived
  repeat' first
    | with_reducible exact Within.refl _ _
    | with_reducible apply Answers.of_next
    | (with_reducible apply Within.andThen within_rxEnd; · decide)
    | (with_reducible apply Within.andThen within_sendStatus; · decide)
    | (with_reducible apply Within.andThen within_tailGood; · decide)
    | (with_reducible apply Within.andThen within_tailBad; · decide)
    | (with_reducible apply Within.andThen within_retryAgents; · decide)
    | split

theorem answers_execSpoil {s : State} {port : Nat} : Answers [.regs, .sw, .lanes, .out] s (execSpoil port s) := by
  unfold execSpoil
  repeat' first
    | with_reducible exact Within.refl _ _
    | with_reducible apply Answers.of_next
    | (with_reducible apply Within.andThen within_rxEnd; · decide)
    | (with_reducible apply Within.andThen within_count; · decide)
    | (with_reducible apply Within.andThen within_sendStatus; · decide)
    | (with_reducible apply Within.andThen within_detourLost; · decide)
    | (with_reducible apply Within.andThen within_killFrame; · decide)
    | (with_reducible apply Within.andThen within_retryAgents; · decide)
    | split

theorem answers_execEgressSelect {s : State} {port : Nat} : Answers [.regs, .sw, .lanes, .tally, .out] s (execEgressSelect port s) := by
  unfold execEgressSelect
  repeat' first
    | with_reducible exact Within.refl _ _
    | with_reducible apply Answers.of_next
    | (with_reducible apply Within.andThen within_egressSelect; · decide)
    | (with_reducible apply Within.andThen within_retryAgents; · decide)
    | split

theorem answers_execStreamCloseRelease {s : State} {stream : Nat} : Answers [.regs, .sw] s (execStreamCloseRelease stream s) := by
  unfold execStreamCloseRelease
  repeat' first
    | with_reducible exact Within.refl _ _
    | with_reducible apply Answers.of_next
    | (with_reducible apply Within.andThen within_modSw; · decide)
    | (with_reducible apply Within.andThen within_touchSinks; · decide)
    | (with_reducible apply Within.andThen within_setFld; · decide)
    | (with_reducible apply Within.andThen within_showHeld; · decide)
    | (with_reducible apply Within.andThen within_streamNotice; · decide)
    | (with_reducible refine Within.foldl (fun _ _ => ?_) _ ?_)
    | split

theorem answers_execStreamHoldExpiry {s : State} {stream : Nat} :
    Answers [.regs, .power, .watch, .sw, .lanes, .tally, .health, .host, .out] s (execStreamHoldExpiry stream s) := by
  unfold execStreamHoldExpiry
  repeat' first
    | with_reducible exact Within.refl _ _
    | with_reducible apply Answers.of_next
    | (with_reducible apply Within.andThen within_killFrame; · decide)
    | (with_reducible apply Within.andThen within_raise; · decide)
    | (with_reducible apply Within.andThen within_streamNotice; · decide)
    | (with_reducible apply Within.andThen within_fault; · decide)
    | split

theorem answers_execSinkLimitExpiry {s : State} {port vc : Nat} :
    Answers [.regs, .power, .watch, .sw, .lanes, .tally, .health, .host, .out] s (execSinkLimitExpiry port vc s) := by
  unfold execSinkLimitExpiry
  repeat' first
    | with_reducible exact Within.refl _ _
    | with_reducible apply Answers.of_next
    | (with_reducible apply Within.andThen within_touchSinks; · decide)
    | (with_reducible apply Within.andThen within_setRegBit; · decide)
    | (with_reducible apply Within.andThen within_dropFencedResults; · decide)
    | (with_reducible apply Within.andThen within_fault; · decide)
    | split
    | dsimp only

theorem answers_execMcastHoldExpiry {s : State} {port : Nat} : Answers [.regs, .sw] s (execMcastHoldExpiry port s) := by
  unfold execMcastHoldExpiry
  repeat' first
    | with_reducible exact Within.refl _ _
    | with_reducible apply Answers.of_next
    | (with_reducible apply Within.andThen within_dropCopy; · decide)
    | (with_reducible apply Within.andThen within_count; · decide)
    | (with_reducible apply Within.andThen within_reap; · decide)
    | (with_reducible apply Within.andThen within_retryAgents; · decide)
    | split

theorem answers_execCreditTopup {s : State} {port : Nat} : Answers [.regs, .sw, .lanes, .out] s (execCreditTopup port s) := by
  unfold execCreditTopup
  repeat' first
    | with_reducible exact Within.refl _ _
    | with_reducible apply Answers.of_next
    | (with_reducible apply Within.andThen within_topUp; · decide)
    | (with_reducible apply Within.andThen within_sendStatus; · decide)
    | (with_reducible refine Within.foldl (fun _ _ => ?_) _ ?_)
    | split

theorem answers_execSacrificeStageUpdate {s : State} : Answers [.regs] s (execSacrificeStageUpdate s) := by
  unfold execSacrificeStageUpdate
  repeat' first
    | with_reducible exact Within.refl _ _
    | with_reducible apply Answers.of_next
    | (with_reducible apply Within.andThen within_setFld; · decide)
    | split

theorem answers_execVacancyThreadDone {s : State} : Answers [.regs, .sw, .tally] s (execVacancyThreadDone s) := by
  unfold execVacancyThreadDone
  repeat' first
    | with_reducible exact Within.refl _ _
    | with_reducible apply Answers.of_next
    | (with_reducible apply Within.andThen within_modSw; · decide)
    | (with_reducible apply Within.andThen within_modTally; · decide)
    | (with_reducible apply Within.andThen within_showPool; · decide)
    | (with_reducible apply Within.andThen within_setFld; · decide)
    | split

theorem answers_execBufferSramUe {s : State} {place : BufferUe} {word : Nat} :
    Answers [.regs, .power, .watch, .sw, .lanes, .tally, .health, .host, .out] s (execBufferSramUe place s word) := by
  unfold execBufferSramUe
  repeat' first
    | with_reducible exact Within.refl _ _
    | with_reducible apply Answers.of_next
    | (with_reducible apply Within.andThen within_loseItem; · decide)
    | (with_reducible apply Within.andThen within_fault; · decide)
    | (with_reducible apply Within.andThen within_retryAgents; · decide)
    | (with_reducible apply Within.andThen within_detourLost; · decide)
    | (with_reducible apply Within.andThen within_killFrame; · decide)
    | (with_reducible apply Within.andThen within_stopBanks; · decide)
    | (with_reducible apply Within.andThen within_loseCopy; · decide)
    | (with_reducible refine Within.foldl (fun _ _ => ?_) _ ?_)
    | split

theorem answers_execBankRebuildDone {s : State} {bank : Nat} :
    Answers [.regs, .power, .watch, .sw, .lanes, .tally, .health, .host, .out] s (execBankRebuildDone bank s) := by
  unfold execBankRebuildDone
  repeat' first
    | with_reducible exact Within.refl _ _
    | with_reducible apply Answers.of_next
    | (with_reducible apply Within.andThen within_modSw; · decide)
    | (with_reducible apply Within.andThen within_freeCells; · decide)
    | (with_reducible apply Within.andThen within_raise; · decide)
    | (with_reducible apply Within.andThen within_fault; · decide)
    | (with_reducible apply Within.andThen within_retryAgents; · decide)
    | (with_reducible refine Within.foldl (fun _ _ => ?_) _ ?_)
    | split

theorem answers_execTrunkIdent {s : State} {port : Nat} {f : Frame} :
    Answers [.regs, .power, .watch, .sw, .lanes, .tally, .health, .host, .out] s (execTrunkIdent port f s) := by
  unfold execTrunkIdent
  repeat' first
    | with_reducible exact Within.refl _ _
    | with_reducible apply Answers.of_next
    | (with_reducible apply Within.andThen within_takeAgent; · decide)
    | (with_reducible apply Within.andThen within_modSw; · decide)
    | (with_reducible apply Within.andThen within_holdDown; · decide)
    | (with_reducible apply Within.andThen within_fault; · decide)
    | split
    | dsimp only

theorem answers_execBridgeFrame {s : State} {port : Nat} {eth : List Byte} {fcsOk : Bool} :
    Answers [.regs, .sw, .lanes, .tally, .out] s (execBridgeFrame port eth fcsOk s) := by
  unfold execBridgeFrame
  repeat' first
    | with_reducible exact Within.refl _ _
    | with_reducible apply Answers.of_next
    | (with_reducible apply Within.andThen within_bridgeIn; · decide)
    | (with_reducible apply Within.andThen within_bridgeCarried; · decide)
    | (with_reducible apply Within.andThen within_retryAgents; · decide)
    | split

theorem answers_execSyncInterval {s : State} {tA : Nat} :
    Answers [.regs, .power, .bell, .watch, .sw, .lanes, .tally, .health, .host, .out] s (execSyncInterval tA s) := by
  unfold execSyncInterval
  repeat' first
    | with_reducible exact Within.refl _ _
    | with_reducible apply Answers.of_next
    | (with_reducible apply Within.andThen within_modBell; · decide)
    | (with_reducible apply Within.andThen within_setLock; · decide)
    | (with_reducible apply Within.andThen within_sendDir; · decide)
    | (with_reducible apply Within.andThen within_showHops; · decide)
    | split

theorem answers_execSync {s : State} {dir : Nat} {f : Frame} {tB tC : Nat} : Answers [.regs, .bell, .sw] s (execSync dir f tB tC s) := by
  unfold execSync
  repeat' first
    | with_reducible exact Within.refl _ _
    | with_reducible apply Answers.of_next
    | (with_reducible apply Within.andThen within_takeAgent; · decide)
    | (with_reducible apply Within.andThen within_timingDrop; · decide)
    | (with_reducible apply Within.andThen within_modDir; · decide)
    | (with_reducible apply Within.andThen within_sendDir; · decide)
    | split
    | dsimp only

theorem answers_execSyncReply {s : State} {dir : Nat} {f : Frame} {tD : Nat} :
    Answers [.regs, .power, .bell, .watch, .sw, .lanes, .tally, .health, .host, .out] s (execSyncReply dir f tD s) := by
  unfold execSyncReply
  repeat' first
    | with_reducible exact Within.refl _ _
    | with_reducible apply Answers.of_next
    | (with_reducible apply Within.andThen within_takeAgent; · decide)
    | (with_reducible apply Within.andThen within_timingDrop; · decide)
    | (with_reducible apply Within.andThen within_takeHops; · decide)
    | (with_reducible apply Within.andThen within_modDir; · decide)
    | (with_reducible apply Within.andThen within_modBell; · decide)
    | (with_reducible apply Within.andThen within_setFld; · decide)
    | (with_reducible apply Within.andThen within_trySet; · decide)
    | (with_reducible apply Within.andThen within_lockStep; · decide)
    | split
    | dsimp only

theorem answers_execRootAnnounceSend {s : State} : Answers [.regs, .sw] s (execRootAnnounceSend s) := by
  unfold execRootAnnounceSend
  repeat' first
    | with_reducible exact Within.refl _ _
    | with_reducible apply Answers.of_next
    | (with_reducible apply Within.andThen within_sendDir; · decide)
    | (with_reducible refine Within.foldl (fun _ _ => ?_) _ ?_)
    | split

theorem answers_execRootAnnounce {s : State} {dir : Nat} {f : Frame} {tR : Nat} :
    Answers [.regs, .power, .bell, .watch, .sw, .lanes, .tally, .health, .host, .out] s (execRootAnnounce dir f tR s) := by
  unfold execRootAnnounce
  repeat' first
    | with_reducible exact Within.refl _ _
    | with_reducible apply Answers.of_next
    | (with_reducible apply Within.andThen within_takeAgent; · decide)
    | (with_reducible apply Within.andThen within_timingDrop; · decide)
    | (with_reducible apply Within.andThen within_takeHops; · decide)
    | (with_reducible apply Within.andThen within_modDir; · decide)
    | (with_reducible apply Within.andThen within_setReg; · decide)
    | (with_reducible apply Within.andThen within_setLock; · decide)
    | (with_reducible apply Within.andThen within_trySet; · decide)
    | split
    | dsimp only

theorem answers_execRootWaitEnd {s : State} : Answers [.regs, .bell] s (execRootWaitEnd s) := by
  unfold execRootWaitEnd
  repeat' first
    | with_reducible exact Within.refl _ _
    | with_reducible apply Answers.of_next
    | (with_reducible apply Within.andThen within_modBell; · decide)
    | (with_reducible apply Within.andThen within_trySet; · decide)
    | (with_reducible apply Within.andThen within_raise; · decide)
    | (with_reducible apply Within.andThen within_setFld; · decide)
    | split

theorem answers_execHoldLimitExpiry {s : State} :
    Answers [.regs, .power, .bell, .watch, .sw, .lanes, .tally, .health, .host, .out] s (execHoldLimitExpiry s) := by
  unfold execHoldLimitExpiry
  repeat' first
    | with_reducible exact Within.refl _ _
    | with_reducible apply Answers.of_next
    | (with_reducible apply Within.andThen within_setLock; · decide)
    | split

theorem answers_execChoiceWindowWrite {s : State} {isEnd : Bool} {tick : Nat} : Answers [.regs] s (execChoiceWindowWrite isEnd tick s) := by
  unfold execChoiceWindowWrite
  split
  · exact .of_next within_raise
  · split
    · exact .of_next within_setReg
    · exact .of_next (within_windowArmed.andThen (by decide) within_setReg)

theorem answers_execChoiceWindowOpen {s : State} : Answers [.regs] s (execChoiceWindowOpen s) := by
  unfold execChoiceWindowOpen
  repeat' first
    | with_reducible exact Within.refl _ _
    | with_reducible apply Answers.of_next
    | (with_reducible apply Within.andThen within_openWindow; · decide)
    | split

theorem answers_execPtpMessage {s : State} {port msgType taiNs : Nat} {eth : List Byte} :
    Answers [.regs, .bell, .sw, .lanes, .tally, .out, .free] s (execPtpMessage port msgType taiNs eth s) := by
  unfold execPtpMessage
  repeat' first
    | with_reducible exact Within.refl _ _
    | with_reducible apply Answers.of_next
    | (with_reducible apply Within.andThen within_sentEth; · decide)
    | (with_reducible apply Within.andThen within_nextFree; · decide)
    | (with_reducible apply Within.andThen within_raise; · decide)
    | (with_reducible apply Within.andThen within_setReg; · decide)
    | (with_reducible apply Within.andThen within_modBell; · decide)
    | (with_reducible apply Within.andThen within_bridgeIn; · decide)
    | split
    | dsimp only

theorem answers_execIslandOutOfMuster {s : State} {island : Nat} :
    Answers [.regs, .power, .watch, .sw, .lanes, .tally, .health, .host, .out] s (execIslandOutOfMuster island s) := by
  unfold execIslandOutOfMuster
  repeat' first
    | with_reducible exact Within.refl _ _
    | with_reducible apply Answers.of_next
    | (with_reducible apply Within.andThen within_setRegBit; · decide)
    | (with_reducible apply Within.andThen within_setFld; · decide)
    | (with_reducible apply Within.andThen within_choice; · decide)
    | (with_reducible apply Within.andThen within_fault; · decide)
    | split

theorem answers_execRemusterDone {s : State} {island : Nat} : Answers [.regs, .sw] s (execRemusterDone island s) := by
  unfold execRemusterDone
  repeat' first
    | with_reducible exact Within.refl _ _
    | with_reducible apply Answers.of_next
    | (with_reducible apply Within.andThen within_setRegBit; · decide)
    | (with_reducible apply Within.andThen within_setFld; · decide)
    | (with_reducible apply Within.andThen within_retryAgents; · decide)
    | split

theorem answers_execPortStageDone {s : State} {port : Nat} {found : StageFinding} :
    Answers [.regs, .power, .bell, .watch, .sw, .lanes, .tally, .health, .host, .out, .free] s (execPortStageDone port found s) := by
  unfold execPortStageDone
  repeat' first
    | with_reducible exact Within.refl _ _
    | with_reducible apply Answers.of_next
    | (with_reducible apply Within.andThen within_endEth; · decide)
    | (with_reducible apply Within.andThen within_endStage; · decide)
    | (with_reducible apply Within.andThen within_sentCtrl; · decide)
    | split

theorem answers_execPortStageTimeout {s : State} {port : Nat} {found : StageFinding} :
    Answers [.regs, .power, .bell, .watch, .sw, .lanes, .tally, .health, .host, .out, .free] s (execPortStageTimeout port found s) := by
  unfold execPortStageTimeout
  repeat' first
    | with_reducible exact Within.refl _ _
    | with_reducible apply Answers.of_next
    | (with_reducible apply Within.andThen within_endEth; · decide)
    | (with_reducible apply Within.andThen within_endStage; · decide)
    | split

theorem answers_execDetectRetry {s : State} {port : Nat} {partnerFound : Bool} : Answers [.regs, .lanes] s (execDetectRetry port partnerFound s) := by
  unfold execDetectRetry
  repeat' first
    | with_reducible exact Within.refl _ _
    | with_reducible apply Answers.of_next
    | (with_reducible apply Within.andThen within_startBringup; · decide)
    | (with_reducible apply Within.andThen within_modPort; · decide)
    | split
    | dsimp only

theorem answers_execLaneForm {s : State} {port mask : Nat} : Answers [.lanes] s (execLaneForm port mask s) := by
  unfold execLaneForm
  repeat' first
    | with_reducible exact Within.refl _ _
    | with_reducible apply Answers.of_next
    | (with_reducible apply Within.andThen within_modPort; · decide)
    | split

theorem answers_execBringupDeadline {s : State} : Answers [.regs, .power, .bell, .out] s (execBringupDeadline s) := by
  unfold execBringupDeadline
  repeat' first
    | with_reducible exact Within.refl _ _
    | with_reducible apply Answers.of_next
    | (with_reducible apply Within.andThen within_linksDone; · decide)
    | split

theorem answers_execStatus {s : State} {port : Nat} {credits : List Nat} {detour ackSeq : Nat} :
    Answers [.sw, .lanes] s (execStatus port credits detour ackSeq s) := by
  unfold execStatus
  repeat' first
    | with_reducible exact Within.refl _ _
    | with_reducible apply Answers.of_next
    | (with_reducible apply Within.andThen within_takeCredit; · decide)
    | (with_reducible apply Within.andThen within_takeDetour; · decide)
    | (with_reducible apply Within.andThen within_takeAck; · decide)
    | (with_reducible refine Within.foldl (fun _ _ => ?_) _ ?_)
    | split
    | dsimp only

theorem answers_execCodewordUncorrectable {s : State} {port : Nat} {numbered : Bool} :
    Answers [.regs, .power, .bell, .watch, .sw, .lanes, .tally, .health, .host, .out] s (execCodewordUncorrectable port numbered s) := by
  unfold execCodewordUncorrectable
  repeat' first
    | with_reducible exact Within.refl _ _
    | with_reducible apply Answers.of_next
    | (with_reducible apply Within.andThen within_count; · decide)
    | (with_reducible apply Within.andThen within_modPort; · decide)
    | (with_reducible apply Within.andThen within_abortRx; · decide)
    | (with_reducible apply Within.andThen within_requestReplay; · decide)
    | (with_reducible apply Within.andThen within_retryAgents; · decide)
    | split
    | dsimp only

theorem answers_execReplayReq {s : State} {port resumeSeq resumeSlot : Nat} :
    Answers [.regs, .power, .bell, .watch, .sw, .lanes, .tally, .health, .host, .out] s (execReplayReq port resumeSeq resumeSlot s) := by
  unfold execReplayReq
  repeat' first
    | with_reducible exact Within.refl _ _
    | with_reducible apply Answers.of_next
    | (with_reducible apply Within.andThen within_modPort; · decide)
    | (with_reducible apply Within.andThen within_replayFrom; · decide)
    | (with_reducible apply Within.andThen within_portDown; · decide)
    | (with_reducible apply Within.andThen within_setFld; · decide)
    | split
    | dsimp only

theorem answers_execReplayStart {s : State} {port seq : Nat} : Answers [.lanes] s (execReplayStart port seq s) := by
  unfold execReplayStart
  repeat' first
    | with_reducible exact Within.refl _ _
    | with_reducible apply Answers.of_next
    | (with_reducible apply Within.andThen within_modPort; · decide)
    | split
    | dsimp only

theorem answers_execReplayReqRepeat {s : State} {port : Nat} :
    Answers [.regs, .power, .bell, .watch, .sw, .lanes, .tally, .health, .host, .out] s (execReplayReqRepeat port s) := by
  unfold execReplayReqRepeat
  repeat' first
    | with_reducible exact Within.refl _ _
    | with_reducible apply Answers.of_next
    | (with_reducible apply Within.andThen within_requestReplay; · decide)
    | split

theorem answers_execAckWaitExpiry {s : State} {port : Nat} : Answers [.regs, .lanes, .out] s (execAckWaitExpiry port s) := by
  unfold execAckWaitExpiry
  repeat' first
    | with_reducible exact Within.refl _ _
    | with_reducible apply Answers.of_next
    | (with_reducible apply Within.andThen within_replayFrom; · decide)
    | split
    | dsimp only

theorem answers_execSerWindowEnd {s : State} {port : Nat} {corrected : List Nat} :
    Answers [.regs, .power, .bell, .watch, .sw, .lanes, .tally, .health, .host, .out, .free] s (execSerWindowEnd port corrected s) := by
  unfold execSerWindowEnd
  repeat' first
    | with_reducible exact Within.refl _ _
    | with_reducible apply Answers.of_next
    | (with_reducible apply Within.andThen within_countBy; · decide)
    | (with_reducible apply Within.andThen within_setFld; · decide)
    | (with_reducible apply Within.andThen within_nextFree; · decide)
    | (with_reducible apply Within.andThen within_modPort; · decide)
    | (with_reducible apply Within.andThen within_loseLanes; · decide)
    | (with_reducible apply Within.andThen within_retryAgents; · decide)
    | (with_reducible refine Within.foldl (fun _ _ => ?_) _ ?_)
    | split
    | dsimp only

theorem answers_execLaneSignalLoss {s : State} {port lane : Nat} :
    Answers [.regs, .power, .bell, .watch, .sw, .lanes, .tally, .health, .host, .out] s (execLaneSignalLoss port lane s) := by
  unfold execLaneSignalLoss
  repeat' first
    | with_reducible exact Within.refl _ _
    | with_reducible apply Answers.of_next
    | (with_reducible apply Within.andThen within_loseLanes; · decide)
    | (with_reducible apply Within.andThen within_retryAgents; · decide)
    | split

theorem answers_execLaneNarrow {s : State} {port mask : Nat} :
    Answers [.regs, .power, .bell, .watch, .sw, .lanes, .tally, .health, .host, .out] s (execLaneNarrow port mask s) := by
  unfold execLaneNarrow
  repeat' first
    | with_reducible exact Within.refl _ _
    | with_reducible apply Answers.of_next
    | (with_reducible apply Within.andThen within_modPort; · decide)
    | (with_reducible apply Within.andThen within_portDown; · decide)
    | (with_reducible apply Within.andThen within_wakeBoth; · decide)
    | (with_reducible apply Within.andThen within_dealAgain; · decide)
    | split
    | dsimp only

theorem answers_execNarrowDone {s : State} {port : Nat} :
    Answers [.regs, .power, .bell, .watch, .sw, .lanes, .tally, .health, .host, .out] s (execNarrowDone port s) := by
  unfold execNarrowDone
  repeat' first
    | with_reducible exact Within.refl _ _
    | with_reducible apply Answers.of_next
    | (with_reducible apply Within.andThen within_modPort; · decide)
    | (with_reducible apply Within.andThen within_setFld; · decide)
    | (with_reducible apply Within.andThen within_portFault; · decide)
    | (with_reducible apply Within.andThen within_replayFrom; · decide)
    | (with_reducible apply Within.andThen within_portDown; · decide)
    | split
    | dsimp only

theorem answers_execTileFail {s : State} {tile : Nat} :
    Answers [.regs, .power, .bell, .watch, .sw, .lanes, .tally, .health, .host, .out] s (execTileFail tile s) := by
  unfold execTileFail
  repeat' first
    | with_reducible exact Within.refl _ _
    | with_reducible apply Answers.of_next
    | (with_reducible apply Within.andThen within_failTile; · decide)

theorem answers_execTileCalibrationDone {s : State} {tile : Nat} : Answers [.regs] s (execTileCalibrationDone tile s) := by
  unfold execTileCalibrationDone
  repeat' first
    | with_reducible exact Within.refl _ _
    | with_reducible apply Answers.of_next
    | (with_reducible apply Within.andThen within_setRegBit; · decide)
    | split

theorem answers_execQuietRequest {s : State} {port : Nat} : Answers [.regs] s (execQuietRequest port s) := by
  unfold execQuietRequest
  repeat' first
    | with_reducible exact Within.refl _ _
    | with_reducible apply Answers.of_next
    | (with_reducible apply Within.andThen within_setFld; · decide)
    | (with_reducible apply Within.andThen within_laneRefuse; · decide)
    | split

theorem answers_execSleepRequest {s : State} {port : Nat} : Answers [.regs] s (execSleepRequest port s) := by
  unfold execSleepRequest
  repeat' first
    | with_reducible exact Within.refl _ _
    | with_reducible apply Answers.of_next
    | (with_reducible apply Within.andThen within_setFld; · decide)
    | (with_reducible apply Within.andThen within_laneRefuse; · decide)
    | split

theorem answers_execActiveRequest {s : State} {port : Nat} : Answers [.regs, .lanes] s (execActiveRequest port s) := by
  unfold execActiveRequest
  repeat' first
    | with_reducible exact Within.refl _ _
    | with_reducible apply Answers.of_next
    | (with_reducible apply Within.andThen within_setFld; · decide)
    | (with_reducible apply Within.andThen within_startWake; · decide)
    | split

theorem answers_execPowerStateEntry {s : State} {port : Nat} : Answers [.regs, .lanes, .out] s (execPowerStateEntry port s) := by
  unfold execPowerStateEntry
  repeat' first
    | with_reducible exact Within.refl _ _
    | with_reducible apply Answers.of_next
    | (with_reducible apply Within.andThen within_sendStatus; · decide)
    | (with_reducible apply Within.andThen within_sentCtrl; · decide)
    | (with_reducible apply Within.andThen within_setFld; · decide)
    | split
    | dsimp only

theorem answers_execWakeTrigger {s : State} {port : Nat} : Answers [.lanes, .out] s (execWakeTrigger port s) := by
  unfold execWakeTrigger
  repeat' first
    | with_reducible exact Within.refl _ _
    | with_reducible apply Answers.of_next
    | (with_reducible apply Within.andThen within_startWake; · decide)
    | (with_reducible apply Within.andThen within_sentCtrl; · decide)
    | split

theorem answers_execLanePower {s : State} {port state tick : Nat} : Answers [.regs, .lanes] s (execLanePower port state tick s) := by
  unfold execLanePower
  repeat' first
    | with_reducible exact Within.refl _ _
    | with_reducible apply Answers.of_next
    | (with_reducible apply Within.andThen within_setFld; · decide)
    | (with_reducible apply Within.andThen within_modPort; · decide)
    | split

theorem answers_execLaneWake {s : State} {port : Nat} : Answers [.lanes] s (execLaneWake port s) := by
  unfold execLaneWake
  repeat' first
    | with_reducible exact Within.refl _ _
    | with_reducible apply Answers.of_next
    | (with_reducible apply Within.andThen within_startWake; · decide)
    | split

theorem answers_execLaneDown {s : State} {port : Nat} : Answers [.regs, .power, .bell, .sw, .lanes, .out] s (execLaneDown port s) := by
  unfold execLaneDown
  repeat' first
    | with_reducible exact Within.refl _ _
    | with_reducible apply Answers.of_next
    | (with_reducible apply Within.andThen within_leaveUp; · decide)
    | (with_reducible apply Within.andThen within_restPort; · decide)
    | (with_reducible apply Within.andThen within_dropQueued; · decide)
    | (with_reducible apply Within.andThen within_showPorts; · decide)
    | (with_reducible apply Within.andThen within_retryAgents; · decide)
    | split

theorem answers_execWakeTickWrite {s : State} {port tick : Nat} : Answers [.regs] s (execWakeTickWrite port tick s) := by
  unfold execWakeTickWrite
  repeat' first
    | with_reducible exact Within.refl _ _
    | with_reducible apply Answers.of_next
    | (with_reducible apply Within.andThen within_setReg; · decide)
    | (with_reducible apply Within.andThen within_laneRefuse; · decide)
    | split
    | dsimp only

theorem answers_execWakeTickReached {s : State} {port : Nat} : Answers [.regs, .lanes] s (execWakeTickReached port s) := by
  unfold execWakeTickReached
  repeat' first
    | with_reducible exact Within.refl _ _
    | with_reducible apply Answers.of_next
    | (with_reducible apply Within.andThen within_wakeDue; · decide)

theorem answers_execWakeDone {s : State} {port : Nat} {receive : Bool} :
    Answers [.regs, .power, .bell, .watch, .sw, .lanes, .tally, .health, .host, .out] s (execWakeDone port receive s) := by
  unfold execWakeDone
  repeat' first
    | with_reducible exact Within.refl _ _
    | with_reducible apply Answers.of_next
    | (with_reducible apply Within.andThen within_setFld; · decide)
    | (with_reducible apply Within.andThen within_modPort; · decide)
    | (with_reducible apply Within.andThen within_choice; · decide)
    | (with_reducible apply Within.andThen within_narrowAwake; · decide)
    | (with_reducible apply Within.andThen within_sentCtrl; · decide)
    | split
    | dsimp only

theorem answers_execShutDown {s : State} {port : Nat} : Answers [.regs, .power, .bell, .sw, .lanes, .out] s (execShutDown port s) := by
  unfold execShutDown
  repeat' first
    | with_reducible exact Within.refl _ _
    | with_reducible apply Answers.of_next
    | (with_reducible apply Within.andThen within_setFld; · decide)
    | (with_reducible apply Within.andThen within_shutPort; · decide)
    | (with_reducible apply Within.andThen within_retryAgents; · decide)
    | split

theorem answers_execShutdownDone {s : State} {port : Nat} : Answers [.regs, .power, .bell, .lanes, .out] s (execShutdownDone port s) := by
  unfold execShutdownDone
  repeat' first
    | with_reducible exact Within.refl _ _
    | with_reducible apply Answers.of_next
    | (with_reducible apply Within.andThen within_sentCtrl; · decide)
    | (with_reducible apply Within.andThen within_leaveLink; · decide)
    | (with_reducible apply Within.andThen within_restPort; · decide)
    | (with_reducible apply Within.andThen within_modPort; · decide)
    | (with_reducible apply Within.andThen within_setFld; · decide)
    | (with_reducible apply Within.andThen within_showLanes; · decide)
    | (with_reducible apply Within.andThen within_startBringup; · decide)
    | (with_reducible apply Within.andThen within_showPorts; · decide)
    | (with_reducible refine Within.foldl (fun _ _ => ?_) _ ?_)
    | split
    | dsimp only

theorem answers_execEnable {s : State} {port : Nat} : Answers [.regs, .power, .bell, .lanes, .out] s (execEnable port s) := by
  unfold execEnable
  repeat' first
    | with_reducible exact Within.refl _ _
    | with_reducible apply Answers.of_next
    | (with_reducible apply Within.andThen within_setFld; · decide)
    | (with_reducible apply Within.andThen within_startBringup; · decide)
    | (with_reducible apply Within.andThen within_showPorts; · decide)
    | split

theorem answers_execRetrain {s : State} {port : Nat} : Answers [.regs, .power, .bell, .sw, .lanes, .out] s (execRetrain port s) := by
  unfold execRetrain
  repeat' first
    | with_reducible exact Within.refl _ _
    | with_reducible apply Answers.of_next
    | (with_reducible apply Within.andThen within_setFld; · decide)
    | (with_reducible apply Within.andThen within_shutPort; · decide)
    | (with_reducible apply Within.andThen within_retryAgents; · decide)
    | split

theorem answers_execPairRead {s : State} {pair : Nat} {errs : List (Nat × Nat)} :
    Answers [.regs, .power, .watch, .sw, .lanes, .tally, .mem, .health, .host, .out] s (execPairRead pair errs s) := by
  unfold execPairRead
  repeat' first
    | with_reducible exact Within.refl _ _
    | with_reducible apply Answers.of_next
    | (with_reducible apply Within.andThen within_transferred; · decide)
    | (with_reducible apply Within.andThen within_flushWith; · decide)
    | (with_reducible apply Within.andThen within_touchPair; · decide)
    | (with_reducible apply Within.andThen within_firmwareRead; · decide)
    | (with_reducible apply Within.andThen within_decoded; · decide)
    | split
    | dsimp only

theorem answers_execPairWrite {s : State} {pair : Nat} {data : List Byte} : Answers [.mem] s (execPairWrite pair data s) := by
  unfold execPairWrite
  repeat' first
    | with_reducible exact Within.refl _ _
    | with_reducible apply Answers.of_next
    | (with_reducible apply Within.andThen within_transferred; · decide)
    | (with_reducible apply Within.andThen within_putPair; · decide)
    | split

theorem answers_execMergeHoldExpiry {s : State} {pair : Nat} {errs : List (Nat × Nat)} :
    Answers [.regs, .power, .watch, .sw, .lanes, .tally, .mem, .health, .host, .out] s (execMergeHoldExpiry pair s errs) := by
  unfold execMergeHoldExpiry
  repeat' first
    | with_reducible exact Within.refl _ _
    | with_reducible apply Answers.of_next
    | (with_reducible apply Within.andThen within_flushWith; · decide)
    | split

theorem answers_execInterfaceCrcFail {s : State} {stack : Nat} :
    Answers [.regs, .power, .watch, .sw, .lanes, .tally, .mem, .health, .host, .out] s (execInterfaceCrcFail stack s) := by
  unfold execInterfaceCrcFail
  repeat' first
    | with_reducible exact Within.refl _ _
    | with_reducible apply Answers.of_next
    | (with_reducible apply Within.andThen within_memCount; · decide)
    | (with_reducible refine Within.andThen (within_modMem' ?_) (by decide) ?_; · exact fun _ => ⟨rfl, rfl⟩)
    | (with_reducible apply Within.andThen within_fault; · decide)
    | (with_reducible apply Within.andThen within_loseStack; · decide)
    | split
    | dsimp only

theorem answers_execStackDown {s : State} {stack : Nat} :
    Answers [.regs, .power, .watch, .sw, .lanes, .tally, .health, .host, .out] s (execStackDown stack s) := by
  unfold execStackDown
  repeat' first
    | with_reducible exact Within.refl _ _
    | with_reducible apply Answers.of_next
    | (with_reducible apply Within.andThen within_loseStack; · decide)

theorem answers_execThermalReport {s : State} {stack temp : Nat} :
    Answers [.regs, .power, .watch, .sw, .lanes, .tally, .health, .host, .out] s (execThermalReport stack temp s) := by
  unfold execThermalReport
  repeat' first
    | with_reducible exact Within.refl _ _
    | with_reducible apply Answers.of_next
    | (with_reducible apply Within.andThen within_setFld; · decide)
    | (with_reducible apply Within.andThen within_applyLevel; · decide)
    | split

theorem answers_execThermThresholdWrite {s : State} {value : Nat} : Answers [.regs] s (execThermThresholdWrite value s) := by
  unfold execThermThresholdWrite
  repeat' first
    | with_reducible exact Within.refl _ _
    | with_reducible apply Answers.of_next
    | (with_reducible apply Within.andThen within_writePlain; · decide)
    | (with_reducible apply Within.andThen within_raise; · decide)
    | split
    | dsimp only

theorem answers_execScrubGo {s : State} {value : Nat} : Answers [.regs, .mem] s (execScrubGo value s) := by
  unfold execScrubGo
  repeat' first
    | with_reducible exact Within.refl _ _
    | with_reducible apply Answers.of_next
    | (with_reducible apply Within.andThen within_raise; · decide)
    | (with_reducible apply Within.andThen within_writePlain; · decide)
    | (with_reducible apply Within.andThen within_setReg; · decide)
    | (with_reducible apply Within.andThen within_setFld; · decide)
    | (with_reducible refine Within.andThen (within_modMem' ?_) (by decide) ?_; · exact fun _ => ⟨rfl, rfl⟩)
    | (with_reducible refine Within.foldl (fun _ _ => ?_) _ ?_)
    | split

theorem answers_execScrubStop {s : State} : Answers [.regs] s (execScrubStop s) := by
  unfold execScrubStop
  repeat' first
    | with_reducible exact Within.refl _ _
    | with_reducible apply Answers.of_next
    | (with_reducible apply Within.andThen within_raise; · decide)
    | split

theorem answers_execScrubDone {s : State} {corrected : List (Nat × Nat)} {uncorrectable rows : List Nat} :
    Answers [.regs, .power, .watch, .sw, .lanes, .tally, .mem, .health, .host, .out, .free] s (execScrubDone corrected uncorrectable s rows) := by
  unfold execScrubDone
  repeat' first
    | with_reducible exact Within.refl _ _
    | with_reducible apply Answers.of_next
    | (with_reducible apply Within.andThen within_flushEntry; · decide)
    | (with_reducible apply Within.andThen within_memCount; · decide)
    | (with_reducible apply Within.andThen within_findings; · decide)
    | (with_reducible apply Within.andThen within_setReg; · decide)
    | (with_reducible apply Within.andThen within_setFld; · decide)
    | (with_reducible refine Within.andThen (within_modMem' ?_) (by decide) ?_; · exact fun _ => ⟨rfl, rfl⟩)
    | (with_reducible apply Within.andThen within_nextFree; · decide)
    | (with_reducible refine Within.foldl (fun _ _ => ?_) _ ?_)
    | split

theorem answers_execRepairRow {s : State} {value : Nat} : Answers [.regs, .mem] s (execRepairRow value s) := by
  unfold execRepairRow
  repeat' first
    | with_reducible exact Within.refl _ _
    | with_reducible apply Answers.of_next
    | (with_reducible apply Within.andThen within_repairGo; · decide)

theorem answers_execRetireRoom {s : State} {value : Nat} : Answers [.regs, .mem] s (execRetireRoom value s) := by
  unfold execRetireRoom
  repeat' first
    | with_reducible exact Within.refl _ _
    | with_reducible apply Answers.of_next
    | (with_reducible apply Within.andThen within_repairGo; · decide)

theorem answers_execRetireBank {s : State} {value : Nat} : Answers [.regs, .mem] s (execRetireBank value s) := by
  unfold execRetireBank
  repeat' first
    | with_reducible exact Within.refl _ _
    | with_reducible apply Answers.of_next
    | (with_reducible apply Within.andThen within_repairGo; · decide)

theorem answers_execReleaseRoom {s : State} {value : Nat} : Answers [.regs, .mem] s (execReleaseRoom value s) := by
  unfold execReleaseRoom
  repeat' first
    | with_reducible exact Within.refl _ _
    | with_reducible apply Answers.of_next
    | (with_reducible apply Within.andThen within_repairGo; · decide)

theorem Within.snd_ite {α : Type} {ps : List Part} {s : State} {c : Prop} [Decidable c] {a b : α × State} (ha : Within ps s a.2) (hb : Within ps s b.2) :
    Within ps s (if c then a else b).2 := by
  split
  · exact ha
  · exact hb

theorem answers_execRepairDone {s : State} {corrected : List (Nat × Nat)} {uncorrectable : List Nat} :
    Answers [.regs, .power, .watch, .sw, .lanes, .tally, .mem, .stays, .health, .host, .out] s (execRepairDone s corrected uncorrectable) := by
  unfold execRepairDone
  split
  · exact .stay
  · extract_lets op
    split
    next res s1 h =>
    have hs1 : Within [.regs, .power, .watch, .sw, .lanes, .tally, .mem, .stays, .health, .host, .out] s s1 := by
      refine Within.of_snd h (.snd_ite (within_doRepairRow.mono (by decide)) <| .snd_ite ?_ <| .snd_ite ?_ <|
        .snd_ite (within_doRelease.mono (by decide)) (.refl _ _))
      · refine .snd_ite (.refl _ _) <| .snd_ite (.refl _ _) ?_
        exact within_recordLedger.andThen (by decide) (within_poisonRoom.mono (by decide))
      · refine .snd_ite (.refl _ _) <| .snd_ite (.refl _ _) ?_
        exact within_recordLedger.andThen (by decide) (Within.foldl (fun _ _ => within_poisonRoom.mono (by decide)) _ (.refl _ _))
    refine .of_next (within_setFld.andThen (by decide) (within_setFld.andThen (by decide) (Within.andThen (within_modMem' ?_) (by decide) hs1)))
    exact fun _ => ⟨rfl, rfl⟩

theorem answers_execWarmReset {s : State} :
    Answers [.regs, .power, .bell, .watch, .sw, .lanes, .tally, .mem, .stays, .clusters, .health, .host, .out] s (execWarmReset s) := by
  unfold execWarmReset
  repeat' first
    | with_reducible exact Within.refl _ _
    | with_reducible apply Answers.of_next
    | (with_reducible apply Within.andThen within_warm; · decide)
    | (with_reducible apply Within.andThen within_modPower; · decide)
    | split

theorem answers_execPowerCycle {s : State} :
    Answers [.regs, .power, .bell, .watch, .sw, .lanes, .tally, .mem, .stays, .clusters, .health, .host, .out] s (execPowerCycle s) := by
  unfold execPowerCycle
  repeat' first
    | with_reducible exact Within.refl _ _
    | with_reducible apply Answers.of_next
    | (with_reducible apply Within.andThen within_cycle; · decide)

theorem answers_execPowerOff {s : State} :
    Answers [.regs, .power, .bell, .watch, .sw, .lanes, .tally, .mem, .stays, .clusters, .health, .host, .out] s (execPowerOff s) := by
  unfold execPowerOff
  repeat' first
    | with_reducible exact Within.refl _ _
    | with_reducible apply Answers.of_next
    | (with_reducible apply Within.andThen within_inputRemoved; · decide)
    | split

theorem answers_execRailsDischarged {s : State} : Answers [.power] s (execRailsDischarged s) := by
  unfold execRailsDischarged
  repeat' first
    | with_reducible exact Within.refl _ _
    | with_reducible apply Answers.of_next
    | (with_reducible apply Within.andThen within_modPower; · decide)

theorem answers_execInputSwitchClose {s : State} : Answers [.regs, .power, .host, .out] s (execInputSwitchClose s) := by
  unfold execInputSwitchClose
  repeat' first
    | with_reducible exact Within.refl _ _
    | with_reducible apply Answers.of_next
    | (with_reducible apply Within.andThen within_modPower; · decide)
    | (with_reducible apply Within.andThen within_modHost; · decide)
    | (with_reducible apply Within.andThen within_showCap; · decide)
    | (with_reducible apply Within.andThen within_setPhase; · decide)
    | split

theorem answers_execInputLow {s : State} {vin : Nat} : Answers [.regs, .power] s (execInputLow vin s) := by
  unfold execInputLow
  repeat' first
    | with_reducible exact Within.refl _ _
    | with_reducible apply Answers.of_next
    | (with_reducible apply Within.andThen within_seeInput; · decide)
    | (with_reducible apply Within.andThen within_inputEvent; · decide)
    | (with_reducible apply Within.andThen within_modPower; · decide)
    | (with_reducible apply Within.andThen within_showCap; · decide)
    | split

theorem answers_execInputRecovered {s : State} {vin : Nat} : Answers [.regs, .power] s (execInputRecovered vin s) := by
  unfold execInputRecovered
  repeat' first
    | with_reducible exact Within.refl _ _
    | with_reducible apply Answers.of_next
    | (with_reducible apply Within.andThen within_seeInput; · decide)
    | (with_reducible apply Within.andThen within_modPower; · decide)
    | (with_reducible apply Within.andThen within_showCap; · decide)
    | split

theorem answers_execUndervoltage {s : State} {vin : Nat} :
    Answers [.regs, .power, .bell, .watch, .sw, .lanes, .tally, .mem, .stays, .clusters, .health, .host, .out] s (execUndervoltage vin s) := by
  unfold execUndervoltage
  repeat' first
    | with_reducible exact Within.refl _ _
    | with_reducible apply Answers.of_next
    | (with_reducible apply Within.andThen within_inputLost; · decide)
    | (with_reducible apply Within.andThen within_inputEvent; · decide)
    | split

theorem answers_execSurge {s : State} {vin : Nat} : Answers [.regs, .power] s (execSurge vin s) := by
  unfold execSurge
  repeat' first
    | with_reducible exact Within.refl _ _
    | with_reducible apply Answers.of_next
    | (with_reducible apply Within.andThen within_inputEvent; · decide)
    | split

theorem answers_execOvervoltage {s : State} {vin : Nat} :
    Answers [.regs, .power, .bell, .watch, .sw, .lanes, .tally, .mem, .stays, .clusters, .health, .host, .out] s (execOvervoltage vin s) := by
  unfold execOvervoltage
  repeat' first
    | with_reducible exact Within.refl _ _
    | with_reducible apply Answers.of_next
    | (with_reducible apply Within.andThen within_cold; · decide)
    | (with_reducible apply Within.andThen within_inputEvent; · decide)
    | split

theorem answers_execReverse {s : State} {vin : Nat} : Answers [.regs, .power] s (execReverse vin s) := by
  unfold execReverse
  repeat' first
    | with_reducible exact Within.refl _ _
    | with_reducible apply Answers.of_next
    | (with_reducible apply Within.andThen within_inputEvent; · decide)
    | split

theorem answers_execOvercurrent {s : State} :
    Answers [.regs, .power, .bell, .watch, .sw, .lanes, .tally, .mem, .stays, .clusters, .health, .host, .out] s (execOvercurrent s) := by
  unfold execOvercurrent
  repeat' first
    | with_reducible exact Within.refl _ _
    | with_reducible apply Answers.of_next
    | (with_reducible apply Within.andThen within_cold; · decide)
    | (with_reducible apply Within.andThen within_raise; · decide)
    | (with_reducible apply Within.andThen within_modPower; · decide)
    | split

theorem answers_execRetry {s : State} : Answers [.power] s (execRetry s) := by
  unfold execRetry
  repeat' first
    | with_reducible exact Within.refl _ _
    | with_reducible apply Answers.of_next
    | (with_reducible apply Within.andThen within_modPower; · decide)

theorem answers_execPowerStageFail {s : State} {stage : Nat} :
    Answers [.regs, .power, .bell, .watch, .sw, .lanes, .tally, .mem, .stays, .clusters, .health, .host, .out] s (execPowerStageFail stage s) := by
  unfold execPowerStageFail
  repeat' first
    | with_reducible exact Within.refl _ _
    | with_reducible apply Answers.of_next
    | (with_reducible apply Within.andThen within_cycle; · decide)
    | (with_reducible apply Within.andThen within_fault; · decide)
    | (with_reducible apply Within.andThen within_loseStack; · decide)
    | (with_reducible apply Within.andThen within_failTile; · decide)
    | (with_reducible apply Within.andThen within_cold; · decide)
    | (with_reducible refine Within.foldl (fun _ _ => ?_) _ ?_)
    | split

theorem answers_execRailsStable {s : State} : Answers [.regs, .power, .out] s (execRailsStable s) := by
  unfold execRailsStable
  repeat' first
    | with_reducible exact Within.refl _ _
    | with_reducible apply Answers.of_next
    | (with_reducible apply Within.andThen within_setPhase; · decide)
    | split

theorem answers_execStackFillDone {s : State} {stack : Nat} : Answers [.regs, .power, .mem, .host, .out] s (execStackFillDone stack s) := by
  unfold execStackFillDone
  split
  · exact .stay
  · have hfill : Within [.regs, .power, .mem, .host, .out] s (State.modMem s (fun m => { m with
        bytes := m.bytes.filter (fun e => e.1 / 2 ^ 37 != stack), poison := m.poison.filter (fun e => e.1 / 2 ^ 31 != stack),
        merge := m.merge.filter (fun e => pairStack e.pair != stack) })) :=
      (within_modMem fun hwf => by
        simp only [Memory.wf, Bool.and_eq_true] at hwf ⊢
        exact ⟨sparseWf_filter hwf.1, sparseWf_filter hwf.2⟩).mono (by decide)
    have hshown := within_raise (f := MEM_STACK_FILLED stack) |>.andThen (by decide) (within_setRegBit (o := DV_STATE) (i := 32 + stack) (b := true)
      |>.andThen (by decide) (Within.foldl (fun _ e => within_setReg (o := MEM_CE e) (v := 0) |>.mono (by decide)) (ceEntries stack) hfill))
    extract_lets s1 s2 s3 s4
    split
    · exact .of_next (within_showReady.andThen (by decide) (within_setPhase.andThen (by decide) (within_modHost.andThen (by decide)
        (within_modPower.andThen (by decide) hshown))))
    · exact .of_next hshown

theorem answers_execFillLate {s : State} {stack : Nat} :
    Answers [.regs, .power, .watch, .sw, .lanes, .tally, .health, .host, .out] s (execFillLate stack s) := by
  unfold execFillLate
  repeat' first
    | with_reducible exact Within.refl _ _
    | with_reducible apply Answers.of_next
    | (with_reducible apply Within.andThen within_setRegBit; · decide)
    | (with_reducible apply Within.andThen within_fault; · decide)
    | split

theorem answers_execMusterMark {s : State} : Answers [.power] s (execMusterMark s) := by
  unfold execMusterMark
  repeat' first
    | with_reducible exact Within.refl _ _
    | with_reducible apply Answers.of_next
    | (with_reducible apply Within.andThen within_modPower; · decide)
    | split

theorem answers_execMusterCheck {s : State} {failing crossings : List Nat} :
    Answers [.regs, .power, .bell, .watch, .sw, .lanes, .tally, .mem, .health, .host, .out] s (execMusterCheck failing s crossings) := by
  unfold execMusterCheck
  repeat' first
    | with_reducible exact Within.refl _ _
    | with_reducible apply Answers.of_next
    | (with_reducible apply Within.andThen within_crossingFails; · decide)
    | (with_reducible apply Within.andThen within_modPower; · decide)
    | (with_reducible apply Within.andThen within_applyRetirements; · decide)
    | (with_reducible apply Within.andThen within_enterLinks; · decide)
    | (with_reducible apply Within.andThen within_fault; · decide)
    | (with_reducible refine Within.foldl (fun _ _ => ?_) _ ?_)
    | split
    | dsimp only

theorem answers_execSetCoord {s : State} {coord sizeX1 sizeY1 sizeZ1 : Nat} :
    Answers [.regs, .out] s (execSetCoord coord sizeX1 sizeY1 sizeZ1 s) := by
  unfold execSetCoord
  repeat' first
    | with_reducible exact Within.refl _ _
    | with_reducible apply Answers.of_next
    | (with_reducible apply Within.andThen within_mctpReply; · decide)
    | (with_reducible apply Within.andThen within_raise; · decide)
    | (with_reducible apply Within.andThen within_setFld; · decide)
    | (with_reducible apply Within.andThen within_refreshRoot; · decide)
    | split

theorem answers_execSetRoot {s : State} {coord ptpPort source : Nat} : Answers [.regs, .out] s (execSetRoot coord ptpPort source s) := by
  unfold execSetRoot
  repeat' first
    | with_reducible exact Within.refl _ _
    | with_reducible apply Answers.of_next
    | (with_reducible apply Within.andThen within_mctpReply; · decide)
    | (with_reducible apply Within.andThen within_setFld; · decide)
    | (with_reducible apply Within.andThen within_refreshRoot; · decide)
    | split

theorem answers_execMctpUnknownCommand {s : State} {code : Nat} : Answers [.out] s (execMctpUnknownCommand code s) := by
  unfold execMctpUnknownCommand
  repeat' first
    | with_reducible exact Within.refl _ _
    | with_reducible apply Answers.of_next
    | (with_reducible apply Within.andThen within_mctpReply; · decide)
    | split

theorem answers_execAuxSupplyApplied {s : State} : Answers [.regs, .power, .host] s (execAuxSupplyApplied s) := by
  unfold execAuxSupplyApplied
  repeat' first
    | with_reducible exact Within.refl _ _
    | with_reducible apply Answers.of_next
    | (with_reducible apply Within.andThen within_modPower; · decide)
    | (with_reducible apply Within.andThen within_modHost; · decide)
    | (with_reducible apply Within.andThen within_showFlash; · decide)
    | split

theorem answers_execCapModeWrite {s : State} {value : Nat} : Answers [.regs] s (execCapModeWrite value s) := by
  unfold execCapModeWrite
  repeat' first
    | with_reducible exact Within.refl _ _
    | with_reducible apply Answers.of_next
    | (with_reducible apply Within.andThen within_writePlain; · decide)
    | (with_reducible apply Within.andThen within_showCap; · decide)

theorem answers_execPowerMeasure {s : State} {block power pin iin vin : Nat} :
    Answers [.regs, .power, .watch, .sw, .lanes, .tally, .health, .host, .out] s (execPowerMeasure block power pin iin vin s) := by
  unfold execPowerMeasure
  repeat' first
    | with_reducible exact Within.refl _ _
    | with_reducible apply Answers.of_next
    | (with_reducible apply Within.andThen within_setFld; · decide)
    | (with_reducible apply Within.andThen within_seeInput; · decide)
    | (with_reducible apply Within.andThen within_modPower; · decide)
    | (with_reducible apply Within.andThen within_powerStep; · decide)
    | split
    | dsimp only

theorem answers_execClockWrite {s : State} {value : Nat} : Answers [.regs, .power] s (execClockWrite value s) := by
  unfold execClockWrite
  repeat' first
    | with_reducible exact Within.refl _ _
    | with_reducible apply Answers.of_next
    | (with_reducible apply Within.andThen within_setFld; · decide)
    | (with_reducible apply Within.andThen within_raise; · decide)
    | (with_reducible apply Within.andThen within_modPower; · decide)
    | split
    | dsimp only

theorem answers_execClockChange {s : State} : Answers [.regs, .power] s (execClockChange s) := by
  unfold execClockChange
  repeat' first
    | with_reducible exact Within.refl _ _
    | with_reducible apply Answers.of_next
    | (with_reducible apply Within.andThen within_setFld; · decide)
    | (with_reducible apply Within.andThen within_choice; · decide)
    | (with_reducible apply Within.andThen within_modPower; · decide)
    | (with_reducible refine Within.foldl (fun _ _ => ?_) _ ?_)
    | split

theorem answers_execHubThermalReport {s : State} {inlet outlet hubMax island : Nat} :
    Answers [.regs, .power, .bell, .watch, .sw, .lanes, .tally, .mem, .stays, .clusters, .health, .host, .out] s (execHubThermalReport inlet outlet hubMax island s) := by
  unfold execHubThermalReport
  repeat' first
    | with_reducible exact Within.refl _ _
    | with_reducible apply Answers.of_next
    | (with_reducible apply Within.andThen within_setFld; · decide)
    | (with_reducible apply Within.andThen within_fault; · decide)
    | (with_reducible apply Within.andThen within_modPower; · decide)
    | (with_reducible apply Within.andThen within_cold; · decide)
    | (with_reducible apply Within.andThen within_raise; · decide)
    | split

theorem answers_execRankEntryWrite {s : State} {n value : Nat} : Answers [.regs, .sw] s (execRankEntryWrite n value s) := by
  unfold execRankEntryWrite
  repeat' first
    | with_reducible exact Within.refl _ _
    | with_reducible apply Answers.of_next
    | (with_reducible apply Within.andThen within_raise; · decide)
    | (with_reducible apply Within.andThen within_keepEntry; · decide)
    | (with_reducible apply Within.andThen within_writePlain; · decide)
    | split
    | dsimp only

theorem answers_execPartyEntryWrite {s : State} {p value : Nat} : Answers [.regs, .sw] s (execPartyEntryWrite p value s) := by
  unfold execPartyEntryWrite
  repeat' first
    | with_reducible exact Within.refl _ _
    | with_reducible apply Answers.of_next
    | (with_reducible apply Within.andThen within_keepEntry; · decide)
    | (with_reducible apply Within.andThen within_writePlain; · decide)
    | split
    | dsimp only

theorem answers_execStreamEntryWrite {s : State} {n value : Nat} : Answers [.regs] s (execStreamEntryWrite n value s) := by
  unfold execStreamEntryWrite
  repeat' first
    | with_reducible exact Within.refl _ _
    | with_reducible apply Answers.of_next
    | (with_reducible apply Within.andThen within_raise; · decide)
    | (with_reducible apply Within.andThen within_writePlain; · decide)
    | (with_reducible apply Within.andThen within_setFld; · decide)
    | split

theorem answers_execOwnerMinWrite {s : State} {n value : Nat} : Answers [.regs, .sw] s (execOwnerMinWrite n value s) := by
  unfold execOwnerMinWrite
  repeat' first
    | with_reducible exact Within.refl _ _
    | with_reducible apply Answers.of_next
    | (with_reducible apply Within.andThen within_raise; · decide)
    | (with_reducible apply Within.andThen within_writePlain; · decide)
    | (with_reducible apply Within.andThen within_modSw; · decide)
    | (with_reducible apply Within.andThen within_setFld; · decide)
    | (with_reducible apply Within.andThen within_showPool; · decide)
    | (with_reducible apply Within.andThen within_retryAgents; · decide)
    | split
    | dsimp only

theorem answers_execSacrificeThresholdWrite {s : State} {value : Nat} : Answers [.regs] s (execSacrificeThresholdWrite value s) := by
  unfold execSacrificeThresholdWrite
  repeat' first
    | with_reducible exact Within.refl _ _
    | with_reducible apply Answers.of_next
    | (with_reducible apply Within.andThen within_writePlain; · decide)
    | (with_reducible apply Within.andThen within_raise; · decide)
    | split
    | dsimp only

theorem answers_execTallyPoolMinWrite {s : State} {p value : Nat} : Answers [.regs, .tally] s (execTallyPoolMinWrite p value s) := by
  unfold execTallyPoolMinWrite
  repeat' first
    | with_reducible exact Within.refl _ _
    | with_reducible apply Answers.of_next
    | (with_reducible apply Within.andThen within_raise; · decide)
    | (with_reducible apply Within.andThen within_writePlain; · decide)
    | (with_reducible apply Within.andThen within_modTally; · decide)
    | (with_reducible apply Within.andThen within_setFld; · decide)
    | split
    | dsimp only

theorem answers_execSwTableRead {s : State} {value : Nat} : Answers [.regs, .sw] s (execSwTableRead value s) := by
  unfold execSwTableRead
  repeat' first
    | with_reducible exact Within.refl _ _
    | with_reducible apply Answers.of_next
    | (with_reducible apply Within.andThen within_swTable; · decide)

theorem answers_execSwTableWrite {s : State} {value : Nat} : Answers [.regs, .sw] s (execSwTableWrite value s) := by
  unfold execSwTableWrite
  repeat' first
    | with_reducible exact Within.refl _ _
    | with_reducible apply Answers.of_next
    | (with_reducible apply Within.andThen within_swTable; · decide)

theorem answers_execTlTableRead {s : State} {value : Nat} : Answers [.regs, .sw] s (execTlTableRead value s) := by
  unfold execTlTableRead
  repeat' first
    | with_reducible exact Within.refl _ _
    | with_reducible apply Answers.of_next
    | (with_reducible apply Within.andThen within_startAccess; · decide)
    | split

theorem answers_execStTableRead {s : State} {value : Nat} : Answers [.regs, .sw] s (execStTableRead value s) := by
  unfold execStTableRead
  repeat' first
    | with_reducible exact Within.refl _ _
    | with_reducible apply Answers.of_next
    | (with_reducible apply Within.andThen within_startAccess; · decide)
    | split

theorem answers_execTableAccessDone {s : State} {window : Nat} : Answers [.regs, .sw] s (execTableAccessDone window s) := by
  unfold execTableAccessDone
  repeat' first
    | with_reducible exact Within.refl _ _
    | with_reducible apply Answers.of_next
    | (with_reducible apply Within.andThen within_modSw; · decide)
    | (with_reducible apply Within.andThen within_endSwAccess; · decide)
    | (with_reducible apply Within.andThen within_setReg; · decide)
    | (with_reducible apply Within.andThen within_endTlAccess; · decide)
    | (with_reducible apply Within.andThen within_endStAccess; · decide)
    | split

theorem answers_execCurfewSwitchArm {s : State} {port tick : Nat} : Answers [.regs] s (execCurfewSwitchArm port tick s) := by
  unfold execCurfewSwitchArm
  repeat' first
    | with_reducible exact Within.refl _ _
    | with_reducible apply Answers.of_next
    | (with_reducible apply Within.andThen within_armCurfew; · decide)

theorem answers_execCurfewCancel {s : State} {port : Nat} : Answers [.regs] s (execCurfewCancel port s) := by
  unfold execCurfewCancel
  repeat' first
    | with_reducible exact Within.refl _ _
    | with_reducible apply Answers.of_next
    | (with_reducible apply Within.andThen within_cancelCurfew; · decide)

theorem answers_execCurfewSwitchover {s : State} {port : Nat} : Answers [.regs, .sw] s (execCurfewSwitchover port s) := by
  unfold execCurfewSwitchover
  repeat' first
    | with_reducible exact Within.refl _ _
    | with_reducible apply Answers.of_next
    | (with_reducible apply Within.andThen within_switchDue; · decide)

theorem answers_execCurfewEntryAdvance {s : State} {port : Nat} : Answers [.regs, .sw] s (execCurfewEntryAdvance port s) := by
  unfold execCurfewEntryAdvance
  repeat' first
    | with_reducible exact Within.refl _ _
    | with_reducible apply Answers.of_next
    | (with_reducible apply Within.andThen within_touchShapersWith; · decide)
    | (with_reducible apply Within.andThen within_setFld; · decide)
    | split

theorem answers_execClaim {s : State} {f : Frame} : Answers [.regs, .power, .watch, .sw, .lanes, .tally, .health, .host, .out] s (execClaim f s) := by
  unfold execClaim
  repeat' first
    | with_reducible exact Within.refl _ _
    | (with_reducible refine answers_tallyServe (by decide) fun _ => ?_)
    | (with_reducible apply Within.andThen within_count; · decide)
    | (with_reducible apply Within.andThen within_tallyReply; · decide)
    | (with_reducible apply Within.andThen within_tpTake; · decide)
    | (with_reducible apply Within.andThen within_modTally; · decide)
    | (with_reducible apply Within.andThen within_tpMove; · decide)
    | (with_reducible apply Within.andThen within_setFld; · decide)
    | split
    | dsimp only

theorem answers_execRelease {s : State} {f : Frame} :
    Answers [.regs, .power, .watch, .sw, .lanes, .tally, .health, .host, .out] s (execRelease f s) := by
  unfold execRelease
  repeat' first
    | with_reducible exact Within.refl _ _
    | (with_reducible refine answers_tallyServe (by decide) fun _ => ?_)
    | (with_reducible apply Within.andThen within_tallyReply; · decide)
    | (with_reducible apply Within.andThen within_sendComplete; · decide)
    | (with_reducible apply Within.andThen within_endCtx; · decide)
    | split

theorem answers_execTallyUnlistedKind {s : State} {f : Frame} :
    Answers [.regs, .power, .watch, .sw, .lanes, .tally, .health, .host, .out] s (execTallyUnlistedKind f s) := by
  unfold execTallyUnlistedKind
  repeat' first
    | with_reducible exact Within.refl _ _
    | (with_reducible refine answers_tallyServe (by decide) fun _ => ?_)
    | (with_reducible apply Within.andThen within_dropSlot; · decide)
    | split

theorem answers_execOperand {s : State} {f : Frame} :
    Answers [.regs, .power, .watch, .sw, .lanes, .tally, .health, .host, .out] s (execOperand f s) := by
  unfold execOperand
  repeat' first
    | with_reducible exact Within.refl _ _
    | (with_reducible refine answers_tallyServe (by decide) fun _ => ?_)
    | (with_reducible apply Within.andThen within_noTally; · decide)
    | (with_reducible apply Within.andThen within_dropSlot; · decide)
    | (with_reducible apply Within.andThen within_count; · decide)
    | (with_reducible apply Within.andThen within_takePart; · decide)
    | split
    | dsimp only

theorem answers_execTallyStep {s : State} {ctx g : Nat} : Answers [.regs, .sw, .tally] s (execTallyStep ctx g s) := by
  unfold execTallyStep
  repeat' first
    | with_reducible exact Within.refl _ _
    | with_reducible apply Answers.of_next
    | (with_reducible apply Within.andThen within_tallyStep; · decide)

theorem answers_execResult {s : State} {f : Frame} {sealOk headerOk : Bool} :
    Answers [.regs, .power, .watch, .sw, .lanes, .tally, .health, .host, .out] s (execResult f sealOk headerOk s) := by
  unfold execResult
  repeat' first
    | with_reducible exact Within.refl _ _
    | (with_reducible refine answers_tallyServe (by decide) fun _ => ?_)
    | (with_reducible apply Within.andThen within_noTally; · decide)
    | (with_reducible apply Within.andThen within_ackResult; · decide)
    | (with_reducible apply Within.andThen within_putCtx; · decide)
    | (with_reducible apply Within.andThen within_distribute; · decide)
    | split
    | dsimp only

theorem answers_execAck {s : State} {f : Frame} : Answers [.regs, .power, .watch, .sw, .lanes, .tally, .health, .host, .out] s (execAck f s) := by
  unfold execAck
  repeat' first
    | with_reducible exact Within.refl _ _
    | (with_reducible refine answers_tallyServe (by decide) fun _ => ?_)
    | (with_reducible apply Within.andThen within_noTally; · decide)
    | (with_reducible apply Within.andThen within_recvDone; · decide)
    | (with_reducible apply Within.andThen within_resendResult; · decide)
    | split

theorem answers_execResultAckTimeout {s : State} {ctx g slot : Nat} : Answers [.regs, .sw, .tally] s (execResultAckTimeout ctx g slot s) := by
  unfold execResultAckTimeout
  repeat' first
    | with_reducible exact Within.refl _ _
    | with_reducible apply Answers.of_next
    | (with_reducible apply Within.andThen within_resendResult; · decide)
    | (with_reducible apply Within.andThen within_retryAgents; · decide)
    | split

theorem answers_execCredit {s : State} {f : Frame} :
    Answers [.regs, .power, .watch, .sw, .lanes, .tally, .stays, .health, .host, .out] s (execCredit f s) := by
  unfold execCredit
  repeat' first
    | with_reducible exact Within.refl _ _
    | (with_reducible refine answers_tallyServe (by decide) fun _ => ?_)
    | (with_reducible apply Within.andThen within_sendPartial; · decide)
    | (with_reducible apply Within.andThen within_putCtx; · decide)
    | (with_reducible apply Within.andThen within_advance; · decide)
    | (with_reducible apply Within.andThen within_creditKept; · decide)
    | (with_reducible apply Within.andThen within_noTally; · decide)
    | (with_reducible refine Within.foldl (fun _ _ => ?_) _ ?_)
    | split
    | dsimp only

theorem answers_execResend {s : State} {f : Frame} :
    Answers [.regs, .power, .watch, .sw, .lanes, .tally, .health, .host, .out] s (execResend f s) := by
  unfold execResend
  repeat' first
    | with_reducible exact Within.refl _ _
    | (with_reducible refine answers_tallyServe (by decide) fun _ => ?_)
    | (with_reducible apply Within.andThen within_sendKept; · decide)
    | (with_reducible apply Within.andThen within_modTally; · decide)
    | (with_reducible apply Within.andThen within_sendPartial; · decide)
    | (with_reducible apply Within.andThen within_noTally; · decide)
    | (with_reducible refine Within.foldl (fun _ _ => ?_) _ ?_)
    | split

theorem answers_execContribResendTimeout {s : State} {ctx g slot : Nat} : Answers [.regs, .sw, .tally] s (execContribResendTimeout ctx g slot s) := by
  unfold execContribResendTimeout
  repeat' first
    | with_reducible exact Within.refl _ _
    | with_reducible apply Answers.of_next
    | (with_reducible apply Within.andThen within_dispatchSilent; · decide)
    | (with_reducible apply Within.andThen within_retryAgents; · decide)
    | (with_reducible apply Within.andThen within_failRound; · decide)
    | (with_reducible apply Within.andThen within_putCtx; · decide)
    | (with_reducible apply Within.andThen within_count; · decide)
    | (with_reducible apply Within.andThen within_toSlot; · decide)
    | split

theorem answers_execFenceSeen {s : State} {ctx : Nat} : Answers [.regs, .sw, .tally] s (execFenceSeen ctx s) := by
  unfold execFenceSeen
  repeat' first
    | with_reducible exact Within.refl _ _
    | with_reducible apply Answers.of_next
    | (with_reducible apply Within.andThen within_failRound; · decide)
    | (with_reducible apply Within.andThen within_retryAgents; · decide)
    | split
    | dsimp only

theorem answers_execFail {s : State} {f : Frame} : Answers [.regs, .power, .watch, .sw, .lanes, .tally, .health, .host, .out] s (execFail f s) := by
  unfold execFail
  repeat' first
    | with_reducible exact Within.refl _ _
    | (with_reducible refine answers_tallyServe (by decide) fun _ => ?_)
    | (with_reducible apply Within.andThen within_noTally; · decide)
    | (with_reducible apply Within.andThen within_dropSlot; · decide)
    | (with_reducible apply Within.andThen within_dropHold; · decide)
    | (with_reducible apply Within.andThen within_failRound; · decide)
    | split

theorem answers_execTallyCorruption {s : State} {ctx reason g unit : Nat} :
    Answers [.regs, .power, .watch, .sw, .lanes, .tally, .health, .host, .out] s (execTallyCorruption ctx reason g s unit) := by
  unfold execTallyCorruption
  repeat' first
    | with_reducible exact Within.refl _ _
    | with_reducible apply Answers.of_next
    | (with_reducible apply Within.andThen within_count; · decide)
    | (with_reducible apply Within.andThen within_fault; · decide)
    | (with_reducible apply Within.andThen within_failRound; · decide)
    | (with_reducible apply Within.andThen within_retryAgents; · decide)
    | split
    | dsimp only

theorem answers_execDispatch {s : State} {f : Frame} :
    Answers [.regs, .power, .watch, .sw, .lanes, .tally, .health, .host, .out] s (execDispatch f s) := by
  unfold execDispatch
  repeat' first
    | with_reducible exact Within.refl _ _
    | (with_reducible refine answers_tallyServe (by decide) fun _ => ?_)
    | (with_reducible apply Within.andThen within_noTally; · decide)
    | (with_reducible apply Within.andThen within_dropSlot; · decide)
    | (with_reducible apply Within.andThen within_count; · decide)
    | (with_reducible apply Within.andThen within_countBy; · decide)
    | (with_reducible apply Within.andThen within_putCtx; · decide)
    | (with_reducible apply Within.andThen within_dispatchOut; · decide)
    | (with_reducible apply Within.andThen within_advance; · decide)
    | (with_reducible refine Within.foldl (fun _ _ => ?_) _ ?_)
    | split
    | dsimp only

theorem answers_execOpen {s : State} {f : Frame} :
    Answers [.regs, .power, .watch, .sw, .lanes, .tally, .mem, .stays, .health, .host, .out] s (execOpen f s) := by
  unfold execOpen
  split
  · exact .stay
  · refine answers_innServe (by decide) fun x => ?_
    split
    · exact within_refuse.mono (by decide)
    · split
      · next h => exact (Served.done_of h within_openStay).mono (by decide)
      · next h => exact within_refuse.andThen (by decide) ((Served.refused_of h within_openStay).mono (by decide))
      · next h => exact (Served.waits_of h within_openStay).mono (by decide)

theorem answers_execAppend {s : State} {f : Frame} :
    Answers [.regs, .power, .watch, .sw, .lanes, .tally, .mem, .stays, .health, .host, .out] s (execAppend f s) := by
  unfold execAppend
  repeat' first
    | (with_reducible exact answers_roomRequest (by decide))

theorem answers_execAppendResume {s : State} {index : Nat} : Answers [.regs, .sw, .mem, .stays, .free] s (execAppendResume index s) := by
  unfold execAppendResume
  repeat' first
    | with_reducible exact Within.refl _ _
    | with_reducible apply Answers.of_next
    | (with_reducible apply Within.andThen within_drainStay; · decide)
    | (with_reducible apply Within.andThen within_retryAgents; · decide)
    | split

theorem answers_execAttend {s : State} {f : Frame} :
    Answers [.regs, .power, .watch, .sw, .lanes, .tally, .mem, .stays, .health, .host, .out] s (execAttend f s) := by
  unfold execAttend
  repeat' first
    | with_reducible exact Answers.stay
    | with_reducible exact Within.refl _ _
    | (with_reducible refine answers_innServe (by decide) fun _ => ?_)
    | (with_reducible refine Within.andThen (within_modStays ?_) (by decide) ?_; · exact fun _ => rfl)
    | (with_reducible apply Within.andThen within_queryDone; · decide)
    | split
    | dsimp only

theorem answers_execAssembleWaitExpiry {s : State} {srcCoord srcPort tag : Nat} :
    Answers [.regs, .sw, .mem, .stays] s (execAssembleWaitExpiry srcCoord srcPort tag s) := by
  unfold execAssembleWaitExpiry
  repeat' first
    | with_reducible exact Within.refl _ _
    | with_reducible apply Answers.of_next
    | (with_reducible refine Within.andThen (within_modStays ?_) (by decide) ?_; · exact fun _ => rfl)
    | (with_reducible apply Within.andThen within_refuse; · decide)
    | (with_reducible apply Within.andThen within_retryAgents; · decide)
    | split

theorem answers_execFork {s : State} {f : Frame} :
    Answers [.regs, .power, .watch, .sw, .lanes, .tally, .mem, .stays, .health, .host, .out] s (execFork f s) := by
  unfold execFork
  repeat' first
    | (with_reducible exact answers_roomRequest (by decide))

theorem answers_execPark {s : State} {f : Frame} :
    Answers [.regs, .power, .watch, .sw, .lanes, .tally, .mem, .stays, .health, .host, .out] s (execPark f s) := by
  unfold execPark
  repeat' first
    | (with_reducible exact answers_roomRequest (by decide))

theorem answers_execUnpark {s : State} {f : Frame} :
    Answers [.regs, .power, .watch, .sw, .lanes, .tally, .mem, .stays, .health, .host, .out] s (execUnpark f s) := by
  unfold execUnpark
  repeat' first
    | (with_reducible exact answers_roomRequest (by decide))

theorem answers_execClose {s : State} {f : Frame} :
    Answers [.regs, .power, .watch, .sw, .lanes, .tally, .mem, .stays, .health, .host, .out] s (execClose f s) := by
  unfold execClose
  repeat' first
    | (with_reducible exact answers_roomRequest (by decide))

theorem answers_execCloseComplete {s : State} {index : Nat} : Answers [.regs, .sw, .mem, .stays, .free] s (execCloseComplete index s) := by
  unfold execCloseComplete
  repeat' first
    | with_reducible exact Within.refl _ _
    | with_reducible apply Answers.of_next
    | (with_reducible refine Within.andThen (within_modStays ?_) (by decide) ?_; · exact fun _ => rfl)
    | (with_reducible apply Within.andThen within_closeChart; · decide)
    | (with_reducible apply Within.andThen within_modStay; · decide)
    | (with_reducible apply Within.andThen within_refuse; · decide)
    | (with_reducible apply Within.andThen within_drainStay; · decide)
    | (with_reducible apply Within.andThen within_retryAgents; · decide)
    | (with_reducible apply Within.andThen within_mirrorClose; · decide)
    | (with_reducible apply Within.andThen within_freshTag; · decide)
    | (with_reducible apply Within.andThen within_toInn; · decide)
    | (with_reducible apply Within.andThen within_freeEntry; · decide)
    | (with_reducible apply Within.andThen within_answer; · decide)
    | (with_reducible refine Within.of_snd (by assumption) ?_)
    | split
    | dsimp only

theorem answers_execRoomUnlistedKind {s : State} {f : Frame} :
    Answers [.regs, .power, .watch, .sw, .lanes, .tally, .health, .host, .out] s (execRoomUnlistedKind f s) := by
  unfold execRoomUnlistedKind
  repeat' first
    | with_reducible exact Within.refl _ _
    | (with_reducible refine answers_innServe (by decide) fun _ => ?_)
    | (with_reducible apply Within.andThen within_count; · decide)
    | split

theorem answers_execEvictThresholdWrite {s : State} {value : Nat} : Answers [.regs] s (execEvictThresholdWrite value s) := by
  unfold execEvictThresholdWrite
  repeat' first
    | with_reducible exact Within.refl _ _
    | with_reducible apply Answers.of_next
    | (with_reducible apply Within.andThen within_raise; · decide)
    | (with_reducible apply Within.andThen within_writePlain; · decide)
    | split
    | dsimp only

theorem answers_execAreaWrite {s : State} {inbound : Bool} {value : Nat} : Answers [.regs] s (execAreaWrite inbound value s) := by
  unfold execAreaWrite
  repeat' first
    | with_reducible exact Within.refl _ _
    | with_reducible apply Answers.of_next
    | (with_reducible apply Within.andThen within_raise; · decide)
    | (with_reducible apply Within.andThen within_writePlain; · decide)
    | (with_reducible apply Within.andThen within_recount; · decide)
    | split

theorem answers_execParkToHost {s : State} {index : Nat} : Answers [.regs, .sw, .mem, .stays, .host, .out, .free] s (execParkToHost index s) := by
  unfold execParkToHost
  repeat' first
    | with_reducible exact Within.refl _ _
    | with_reducible apply Answers.of_next
    | (with_reducible apply Within.andThen within_readCard; · decide)
    | (with_reducible apply Within.andThen within_parkFails; · decide)
    | (with_reducible apply Within.andThen within_retryAgents; · decide)
    | (with_reducible apply Within.andThen within_roomsOf; · decide)
    | (with_reducible apply Within.andThen within_zeroRoom; · decide)
    | (with_reducible apply Within.andThen within_poolWrite; · decide)
    | (with_reducible apply Within.andThen within_copyRoom; · decide)
    | (with_reducible apply Within.andThen within_dropChart; · decide)
    | (with_reducible apply Within.andThen within_modStay; · decide)
    | (with_reducible apply Within.andThen within_setFld; · decide)
    | (with_reducible apply Within.andThen within_notify; · decide)
    | (with_reducible apply Within.andThen within_count; · decide)
    | (with_reducible apply Within.andThen within_setMove; · decide)
    | (with_reducible apply Within.andThen within_answer; · decide)
    | (with_reducible apply Within.andThen within_drainStay; · decide)
    | (with_reducible refine Within.foldl (fun _ _ => ?_) _ ?_)
    | (with_reducible refine Within.of_snd (by assumption) ?_)
    | split
    | dsimp only

theorem answers_execParkToPeer {s : State} {index : Nat} : Answers [.regs, .sw, .mem, .stays, .free] s (execParkToPeer index s) := by
  unfold execParkToPeer
  repeat' first
    | with_reducible exact Within.refl _ _
    | with_reducible apply Answers.of_next
    | (with_reducible apply Within.andThen within_readCard; · decide)
    | (with_reducible apply Within.andThen within_parkFails; · decide)
    | (with_reducible apply Within.andThen within_retryAgents; · decide)
    | (with_reducible apply Within.andThen within_roomsOf; · decide)
    | (with_reducible apply Within.andThen within_freshTag; · decide)
    | (with_reducible apply Within.andThen within_setMove; · decide)
    | (with_reducible apply Within.andThen within_modStay; · decide)
    | (with_reducible apply Within.andThen within_toInn; · decide)
    | (with_reducible refine Within.of_snd (by assumption) ?_)
    | split
    | dsimp only

theorem answers_execLodgeBook {s : State} {f : Frame} :
    Answers [.regs, .power, .watch, .sw, .lanes, .tally, .mem, .stays, .health, .host, .out] s (execLodgeBook f s) := by
  unfold execLodgeBook
  repeat' first
    | with_reducible exact Within.refl _ _
    | (with_reducible refine answers_innServe (by decide) fun _ => ?_)
    | (with_reducible apply Within.andThen within_answer; · decide)
    | (with_reducible apply Within.andThen within_setStay; · decide)
    | (with_reducible refine Within.andThen (within_book (by assumption)) (by decide) ?_)
    | (with_reducible apply Within.andThen within_porterWrite; · decide)
    | split
    | dsimp only

theorem answers_execLodgeBooked {s : State} {f : Frame} :
    Answers [.regs, .power, .watch, .sw, .lanes, .tally, .mem, .stays, .health, .host, .out, .free] s (execLodgeBooked f s) := by
  unfold execLodgeBooked
  repeat' first
    | with_reducible exact Within.refl _ _
    | (with_reducible refine answers_innServe (by decide) fun _ => ?_)
    | (with_reducible apply Within.andThen within_parkFails; · decide)
    | (with_reducible apply Within.andThen within_setMove; · decide)
    | (with_reducible apply Within.andThen within_peerParked; · decide)
    | (with_reducible apply Within.andThen within_sendPageOf; · decide)
    | split

/-- The parts that a LODGE frame may change. -/
def lodgeParts : List Part := [.regs, .power, .watch, .sw, .lanes, .tally, .mem, .stays, .health, .host, .out, .free]

theorem answers_execLodge {s : State} {f : Frame} :
    Answers [.regs, .power, .watch, .sw, .lanes, .tally, .mem, .stays, .health, .host, .out, .free] s (execLodge f s) := by
  unfold execLodge
  refine answers_innServe (by decide) fun x => ?_
  extract_lets i page k ack
  have hack : ∀ (t : State) n, Within lodgeParts t (ack t n) := fun _ _ => within_answer.mono (by decide)
  split
  · next h =>
    have hcard : Within lodgeParts x _ := (Within.of_snd h within_readCard).mono (by decide)
    split
    · exact (hack _ _).andThen (by decide) hcard
    · exact hcard
  · next c s1 h =>
    have hcard : Within lodgeParts x s1 := (Within.of_snd h within_readCard).mono (by decide)
    split
    · split
      · exact (hack _ _).andThen (by decide) hcard
      · exact hcard
    · split
      · split
        · exact (hack _ _).andThen (by decide) hcard
        · exact hcard
      · extract_lets mend start
        have hstart : ∀ a t, start = some (a, t) → Within lodgeParts x t := by
          intro a t h
          unfold start at h
          split at h
          · cases h
            exact hcard
          · split at h
            · cases h
            · split at h
              · cases h
              · next halloc =>
                cases h
                exact Within.andThen (within_modStays fun _ => rfl) (by decide) ((within_alloc halloc).andThen (by decide) hcard)
        have hfails : Within lodgeParts x (if mend = true ∧ k = 0 then s1.mendFails i page 4 else s1) := by
          split
          · exact within_mendFails.andThen (by decide) hcard
          · exact hcard
        generalize start = o at hstart
        cases o with
        | none =>
          dsimp only
          split
          · exact (hack _ _).andThen (by decide) hfails
          · exact hfails
        | some taken =>
          have hpiece := within_writePiece (a := taken.1.room * 65536 + 4096 * k) (data := f.payload) (bad := f.poison) |>.andThen
            (by decide) (hstart taken.1 taken.2 rfl)
          have hlast := (hack _ 0).andThen (by decide) (within_pageArrived (a := taken.1) |>.andThen (by decide) hpiece)
          dsimp only
          split
          · exact hpiece
          · split
            · exact hlast
            · exact within_nextPage.andThen (by decide) hlast

theorem answers_execLodgeAck {s : State} {f : Frame} :
    Answers [.regs, .power, .watch, .sw, .lanes, .tally, .mem, .stays, .health, .host, .out, .free] s (execLodgeAck f s) := by
  unfold execLodgeAck
  repeat' first
    | with_reducible exact Within.refl _ _
    | (with_reducible refine answers_innServe (by decide) fun _ => ?_)
    | (with_reducible apply Within.andThen within_pageAcked; · decide)
    | split

theorem answers_execRecallReturn {s : State} {f : Frame} :
    Answers [.regs, .power, .watch, .sw, .lanes, .tally, .mem, .stays, .health, .host, .out] s (execRecallReturn f s) := by
  unfold execRecallReturn
  repeat' first
    | with_reducible exact Within.refl _ _
    | (with_reducible refine answers_innServe (by decide) fun _ => ?_)
    | (with_reducible apply Within.andThen within_recalled; · decide)
    | (with_reducible apply Within.andThen within_readCard; · decide)
    | (with_reducible apply Within.andThen within_roomsOf; · decide)
    | (with_reducible apply Within.andThen within_freeEntry; · decide)
    | (with_reducible refine Within.andThen (within_modStays ?_) (by decide) ?_; · exact fun _ => rfl)
    | (with_reducible apply Within.andThen within_sendPageOf; · decide)
    | (with_reducible refine Within.of_snd (by assumption) ?_)
    | split
    | dsimp only

theorem answers_execRecallDiscard {s : State} {f : Frame} :
    Answers [.regs, .power, .watch, .sw, .lanes, .tally, .mem, .stays, .health, .host, .out] s (execRecallDiscard f s) := by
  unfold execRecallDiscard
  repeat' first
    | with_reducible exact Within.refl _ _
    | (with_reducible refine answers_innServe (by decide) fun _ => ?_)
    | (with_reducible apply Within.andThen within_recalled; · decide)
    | (with_reducible apply Within.andThen within_closeChart; · decide)
    | (with_reducible apply Within.andThen within_setMove; · decide)
    | (with_reducible apply Within.andThen within_dropArriving; · decide)
    | (with_reducible apply Within.andThen within_freeEntry; · decide)
    | (with_reducible refine Within.of_snd (by assumption) ?_)
    | split

theorem answers_execRecallPage {s : State} {f : Frame} :
    Answers [.regs, .power, .watch, .sw, .lanes, .tally, .mem, .stays, .health, .host, .out] s (execRecallPage f s) := by
  unfold execRecallPage
  repeat' first
    | with_reducible exact Within.refl _ _
    | (with_reducible refine answers_innServe (by decide) fun _ => ?_)
    | (with_reducible apply Within.andThen within_recalled; · decide)
    | (with_reducible apply Within.andThen within_pageRoom; · decide)
    | (with_reducible apply Within.andThen within_readLedgers; · decide)
    | (with_reducible apply Within.andThen within_sendPage; · decide)
    | (with_reducible refine Within.of_snd (by assumption) ?_)
    | split
    | dsimp only

theorem answers_execRecalled {s : State} {f : Frame} :
    Answers [.regs, .power, .watch, .sw, .lanes, .tally, .mem, .stays, .health, .host, .out, .free] s (execRecalled f s) := by
  unfold execRecalled
  repeat' first
    | with_reducible exact Within.refl _ _
    | (with_reducible refine answers_innServe (by decide) fun _ => ?_)
    | (with_reducible apply Within.andThen within_lostAway; · decide)
    | (with_reducible apply Within.andThen within_setMove; · decide)
    | (with_reducible apply Within.andThen within_returned; · decide)
    | (with_reducible apply Within.andThen within_mendFails; · decide)
    | split
    | dsimp only

theorem answers_execEviction {s : State} : Answers [.regs, .mem, .stays] s (execEviction s) := by
  unfold execEviction
  repeat' first
    | with_reducible exact Within.refl _ _
    | with_reducible apply Answers.of_next
    | (with_reducible refine Within.andThen (within_modStays ?_) (by decide) ?_; · exact fun _ => rfl)
    | (with_reducible apply Within.andThen within_readCard; · decide)
    | (with_reducible apply Within.andThen within_evictDrop; · decide)
    | (with_reducible apply Within.andThen within_modStay; · decide)
    | (with_reducible refine Within.of_snd (by assumption) ?_)
    | split
    | dsimp only

theorem answers_execMirrorAck {s : State} {f : Frame} :
    Answers [.regs, .power, .watch, .sw, .lanes, .tally, .mem, .stays, .health, .host, .out, .free] s (execMirrorAck f s) := by
  unfold execMirrorAck
  repeat' first
    | with_reducible exact Within.refl _ _
    | (with_reducible refine answers_innServe (by decide) fun _ => ?_)
    | (with_reducible apply Within.andThen within_mirrorEnds; · decide)
    | split

theorem answers_execMirrorWaitExpiry {s : State} {index : Nat} :
    Answers [.regs, .power, .watch, .sw, .lanes, .tally, .mem, .stays, .health, .host, .out, .free] s (execMirrorWaitExpiry index s) := by
  unfold execMirrorWaitExpiry
  repeat' first
    | with_reducible exact Within.refl _ _
    | with_reducible apply Answers.of_next
    | (with_reducible apply Within.andThen within_mirrorEnds; · decide)
    | (with_reducible apply Within.andThen within_retryAgents; · decide)
    | split

theorem answers_execRemirror {s : State} {value : Nat} : Answers [.regs, .sw, .mem, .stays] s (execRemirror value s) := by
  unfold execRemirror
  repeat' first
    | with_reducible exact Within.refl _ _
    | with_reducible apply Answers.of_next
    | (with_reducible apply Within.andThen within_writePlain; · decide)
    | (with_reducible apply Within.andThen within_readCard; · decide)
    | (with_reducible apply Within.andThen within_raise; · decide)
    | (with_reducible apply Within.andThen within_retryAgents; · decide)
    | (with_reducible apply Within.andThen within_mirror; · decide)
    | (with_reducible refine Within.of_snd (by assumption) ?_)
    | split
    | dsimp only

theorem answers_execMirrorOpen {s : State} {f : Frame} :
    Answers [.regs, .power, .watch, .sw, .lanes, .tally, .mem, .stays, .health, .host, .out] s (execMirrorOpen f s) := by
  unfold execMirrorOpen
  repeat' first
    | with_reducible exact Within.refl _ _
    | (with_reducible refine answers_innServe (by decide) fun _ => ?_)
    | (with_reducible apply Within.andThen within_mirrorAnswer; · decide)
    | (with_reducible refine Within.andThen (within_takeEntry (by assumption)) (by decide) ?_)
    | (with_reducible apply Within.andThen within_homeOf; · decide)
    | (with_reducible apply Within.andThen within_answer; · decide)
    | split
    | dsimp only

theorem answers_execMirrorAppend {s : State} {f : Frame} :
    Answers [.regs, .power, .watch, .sw, .lanes, .tally, .mem, .stays, .health, .host, .out, .free] s (execMirrorAppend f s) := by
  unfold execMirrorAppend
  repeat' first
    | with_reducible exact Within.refl _ _
    | (with_reducible refine answers_innServe (by decide) fun _ => ?_)
    | (with_reducible apply Within.andThen within_takeMirror; · decide)

theorem answers_execMirrorFork {s : State} {f : Frame} :
    Answers [.regs, .power, .watch, .sw, .lanes, .tally, .mem, .stays, .health, .host, .out, .free] s (execMirrorFork f s) := by
  unfold execMirrorFork
  repeat' first
    | with_reducible exact Within.refl _ _
    | (with_reducible refine answers_innServe (by decide) fun _ => ?_)
    | (with_reducible apply Within.andThen within_takeMirror; · decide)

theorem answers_execMirrorClose {s : State} {f : Frame} :
    Answers [.regs, .power, .watch, .sw, .lanes, .tally, .mem, .stays, .health, .host, .out, .free] s (execMirrorClose f s) := by
  unfold execMirrorClose
  repeat' first
    | with_reducible exact Within.refl _ _
    | (with_reducible refine answers_innServe (by decide) fun _ => ?_)
    | (with_reducible apply Within.andThen within_takeMirror; · decide)

theorem answers_execMirrorRoomcopy {s : State} {f : Frame} :
    Answers [.regs, .power, .watch, .sw, .lanes, .tally, .mem, .stays, .health, .host, .out, .free] s (execMirrorRoomcopy f s) := by
  unfold execMirrorRoomcopy
  repeat' first
    | with_reducible exact Within.refl _ _
    | (with_reducible refine answers_innServe (by decide) fun _ => ?_)
    | (with_reducible apply Within.andThen within_takeMirror; · decide)

theorem answers_execTakeoverGo {s : State} {value : Nat} : Answers [.regs, .sw, .mem, .stays] s (execTakeoverGo value s) := by
  unfold execTakeoverGo
  repeat' first
    | with_reducible exact Within.refl _ _
    | with_reducible apply Answers.of_next
    | (with_reducible apply Within.andThen within_writePlain; · decide)
    | (with_reducible apply Within.andThen within_takeOver; · decide)
    | (with_reducible apply Within.andThen within_raise; · decide)
    | (with_reducible refine Within.andThen (within_modStays ?_) (by decide) ?_; · exact fun _ => rfl)
    | (with_reducible apply Within.andThen within_retryAgents; · decide)
    | (with_reducible refine Within.foldl (fun _ _ => ?_) _ ?_)
    | split

theorem answers_execTakeoverDone {s : State} : Answers [.regs] s (execTakeoverDone s) := by
  unfold execTakeoverDone
  repeat' first
    | with_reducible exact Within.refl _ _
    | with_reducible apply Answers.of_next
    | (with_reducible apply Within.andThen within_setFld; · decide)
    | split

theorem answers_execLaunchFiring {s : State} {core : Nat} :
    Answers [.regs, .power, .watch, .sw, .lanes, .tally, .mem, .stays, .clusters, .health, .host, .out] s (execLaunchFiring core s) := by
  unfold execLaunchFiring
  repeat' first
    | with_reducible exact Within.refl _ _
    | with_reducible apply Answers.of_next
    | (with_reducible apply Within.andThen within_launchFiring; · decide)

theorem answers_execContFiring {s : State} {core : Nat} :
    Answers [.regs, .power, .watch, .sw, .lanes, .tally, .mem, .stays, .clusters, .health, .host, .out] s (execContFiring core s) := by
  unfold execContFiring
  repeat' first
    | with_reducible exact Within.refl _ _
    | with_reducible apply Answers.of_next
    | (with_reducible apply Within.andThen within_contFiring; · decide)

theorem answers_execWakeFiring {s : State} {core : Nat} : Answers [.regs, .sw, .tally, .mem, .stays, .clusters] s (execWakeFiring core s) := by
  unfold execWakeFiring
  repeat' first
    | with_reducible exact Within.refl _ _
    | with_reducible apply Answers.of_next
    | (with_reducible apply Within.andThen within_wakeFiring; · decide)

theorem answers_execFinalRelease {s : State} {core : Nat} : Answers [.regs, .sw, .mem, .stays, .clusters] s (execFinalRelease core s) := by
  unfold execFinalRelease
  repeat' first
    | with_reducible exact Within.refl _ _
    | with_reducible apply Answers.of_next
    | (with_reducible apply Within.andThen within_release; · decide)
    | (with_reducible apply Within.andThen within_retryAgents; · decide)

theorem answers_execEndBundle {s : State} {core : Nat} :
    Answers [.regs, .power, .watch, .sw, .lanes, .tally, .mem, .stays, .clusters, .health, .host, .out] s (execEndBundle core s) := by
  unfold execEndBundle
  repeat' first
    | with_reducible exact Within.refl _ _
    | with_reducible apply Answers.of_next
    | (with_reducible refine within_sequence (by decide) fun _ _ => ?_)
    | (with_reducible refine Within.andThen (within_modCore ?_) (by decide) ?_; · exact fun _ => ⟨rfl, rfl⟩)
    | (with_reducible apply Within.andThen within_settleOld; · decide)

theorem answers_execSetx {s : State} {core : Nat} :
    Answers [.regs, .power, .watch, .sw, .lanes, .tally, .mem, .stays, .clusters, .health, .host, .out] s (execSetx core s) := by
  unfold execSetx
  repeat' first
    | with_reducible exact Within.refl _ _
    | with_reducible apply Answers.of_next
    | (with_reducible refine within_sequence (by decide) fun _ _ => ?_)
    | (with_reducible refine Within.andThen (within_modCore ?_) (by decide) ?_; · exact fun _ => ⟨rfl, rfl⟩)

theorem answers_execMadx {s : State} {core : Nat} :
    Answers [.regs, .power, .watch, .sw, .lanes, .tally, .mem, .stays, .clusters, .health, .host, .out] s (execMadx core s) := by
  unfold execMadx
  repeat' first
    | with_reducible exact Within.refl _ _
    | with_reducible apply Answers.of_next
    | (with_reducible refine within_sequence (by decide) fun _ _ => ?_)
    | (with_reducible refine Within.andThen (within_modCore ?_) (by decide) ?_; · exact fun _ => ⟨rfl, rfl⟩)

theorem answers_execBell {s : State} {core : Nat} :
    Answers [.regs, .power, .watch, .sw, .lanes, .tally, .mem, .stays, .clusters, .health, .host, .out] s (execBell core s) := by
  unfold execBell
  repeat' first
    | with_reducible exact Within.refl _ _
    | with_reducible apply Answers.of_next
    | (with_reducible refine within_sequence (by decide) fun _ _ => ?_)
    | (with_reducible refine Within.andThen (within_modCore ?_) (by decide) ?_; · exact fun _ => ⟨rfl, rfl⟩)
    | (with_reducible apply Within.andThen within_choice; · decide)
    | split
    | dsimp only

theorem answers_execBellTickReached {s : State} {core : Nat} :
    Answers [.regs, .power, .watch, .sw, .lanes, .tally, .mem, .stays, .clusters, .health, .host, .out] s (execBellTickReached core s) := by
  unfold execBellTickReached
  repeat' first
    | with_reducible exact Within.refl _ _
    | with_reducible apply Answers.of_next
    | (with_reducible refine Within.andThen (within_modCore ?_) (by decide) ?_; · exact fun _ => ⟨rfl, rfl⟩)
    | (with_reducible apply Within.andThen within_dispatch; · decide)
    | split

theorem answers_execFence {s : State} {core : Nat} :
    Answers [.regs, .power, .watch, .sw, .lanes, .tally, .mem, .stays, .clusters, .health, .host, .out, .free] s (execFence core s) := by
  unfold execFence
  repeat' first
    | with_reducible exact Within.refl _ _
    | with_reducible apply Answers.of_next
    | (with_reducible refine within_sequence (by decide) fun _ _ => ?_)
    | (with_reducible refine Within.andThen (within_modCore ?_) (by decide) ?_; · exact fun _ => ⟨rfl, rfl⟩)
    | split

theorem answers_execFenceDrained {s : State} {core : Nat} :
    Answers [.regs, .power, .watch, .sw, .lanes, .tally, .mem, .stays, .clusters, .health, .host, .out, .free] s (execFenceDrained core s) := by
  unfold execFenceDrained
  repeat' first
    | with_reducible exact Within.refl _ _
    | with_reducible apply Answers.of_next
    | (with_reducible refine Within.andThen (within_modCore ?_) (by decide) ?_; · exact fun _ => ⟨rfl, rfl⟩)
    | (with_reducible apply Within.andThen within_dispatch; · decide)
    | split

theorem answers_execDispatchResume {s : State} {core : Nat} :
    Answers [.regs, .power, .watch, .sw, .lanes, .tally, .mem, .stays, .clusters, .health, .host, .out] s (execDispatchResume core s) := by
  unfold execDispatchResume
  repeat' first
    | with_reducible exact Within.refl _ _
    | with_reducible apply Answers.of_next
    | (with_reducible refine Within.andThen (within_modCore ?_) (by decide) ?_; · exact fun _ => ⟨rfl, rfl⟩)
    | (with_reducible apply Within.andThen within_dispatch; · decide)
    | split

theorem answers_execCoreEnableWrite {s : State} {cluster value : Nat} : Answers [.regs] s (execCoreEnableWrite cluster value s) := by
  unfold execCoreEnableWrite
  repeat' first
    | with_reducible exact Within.refl _ _
    | with_reducible apply Answers.of_next
    | (with_reducible apply Within.andThen within_writePlain; · decide)
    | (with_reducible apply Within.andThen within_setRegBit; · decide)
    | (with_reducible refine Within.foldl (fun _ _ => ?_) _ ?_)
    | split
    | dsimp only

theorem answers_execQuarantineClear {s : State} {cluster value : Nat} : Answers [.regs, .clusters] s (execQuarantineClear cluster value s) := by
  unfold execQuarantineClear
  repeat' first
    | with_reducible exact Within.refl _ _
    | with_reducible apply Answers.of_next
    | (with_reducible refine Within.andThen (within_modCore ?_) (by decide) ?_; · exact fun _ => ⟨rfl, rfl⟩)
    | (with_reducible apply Within.andThen within_setRegBit; · decide)
    | (with_reducible refine Within.foldl (fun _ _ => ?_) _ ?_)
    | split
    | dsimp only

theorem answers_execDupMismatch {s : State} {core : Nat} :
    Answers [.regs, .power, .watch, .sw, .lanes, .tally, .stays, .clusters, .health, .host, .out] s (execDupMismatch core s) := by
  unfold execDupMismatch
  repeat' first
    | with_reducible exact Within.refl _ _
    | with_reducible apply Answers.of_next
    | (with_reducible apply Within.andThen within_meetCheck; · decide)

theorem answers_execDupThirdRunDone {s : State} {core : Nat} {outcome : DupOutcome} :
    Answers [.regs, .power, .watch, .sw, .lanes, .tally, .stays, .clusters, .health, .host, .out] s (execDupThirdRunDone core outcome s) := by
  unfold execDupThirdRunDone
  repeat' first
    | with_reducible exact Within.refl _ _
    | with_reducible apply Answers.of_next
    | (with_reducible refine Within.andThen (within_modCore ?_) (by decide) ?_; · exact fun _ => ⟨rfl, rfl⟩)
    | (with_reducible apply Within.andThen within_clCount; · decide)
    | (with_reducible apply Within.andThen within_fault; · decide)
    | (with_reducible apply Within.andThen within_noMajority; · decide)
    | split

theorem answers_execResidueFail {s : State} {core : Nat} {rerunOk : Bool} :
    Answers [.regs, .power, .watch, .sw, .lanes, .tally, .stays, .clusters, .health, .host, .out] s (execResidueFail core rerunOk s) := by
  unfold execResidueFail
  repeat' first
    | with_reducible exact Within.refl _ _
    | with_reducible apply Answers.of_next
    | (with_reducible apply Within.andThen within_meetCheck; · decide)

theorem answers_execRoomld {s : State} {core : Nat} :
    Answers [.regs, .power, .watch, .sw, .lanes, .tally, .mem, .stays, .clusters, .health, .host, .out, .free] s (execRoomld core s) := by
  unfold execRoomld
  repeat' first
    | with_reducible exact Within.refl _ _
    | with_reducible apply Answers.of_next
    | (with_reducible refine within_issue (by decide) fun _ _ => ?_)
    | (with_reducible refine within_faultOr (by decide) fun _ => ?_)
    | (with_reducible apply Within.andThen within_loadRoom; · decide)
    | (with_reducible apply Within.andThen within_retryAgents; · decide)

theorem answers_execLcopy {s : State} {core : Nat} : Answers [.regs, .sw, .tally, .clusters, .free] s (execLcopy core s) := by
  unfold execLcopy
  repeat' first
    | with_reducible exact Within.refl _ _
    | with_reducible apply Answers.of_next
    | (with_reducible refine within_issue (by decide) fun _ _ => ?_)
    | (with_reducible apply Within.andThen within_writeBytes; · decide)

theorem answers_execMma {s : State} {core : Nat} : Answers [.regs, .sw, .tally, .clusters, .free] s (execMma core s) := by
  unfold execMma
  repeat' first
    | with_reducible exact Within.refl _ _
    | with_reducible apply Answers.of_next
    | (with_reducible refine within_issue (by decide) fun _ _ => ?_)
    | (with_reducible apply Within.andThen within_multiply; · decide)

theorem answers_execVadd {s : State} {core : Nat} : Answers [.regs, .sw, .tally, .clusters, .free] s (execVadd core s) := by
  unfold execVadd
  repeat' first
    | with_reducible exact Within.refl _ _
    | with_reducible apply Answers.of_next
    | (with_reducible apply Within.andThen within_vector; · decide)

theorem answers_execVmul {s : State} {core : Nat} : Answers [.regs, .sw, .tally, .clusters, .free] s (execVmul core s) := by
  unfold execVmul
  repeat' first
    | with_reducible exact Within.refl _ _
    | with_reducible apply Answers.of_next
    | (with_reducible apply Within.andThen within_vector; · decide)

theorem answers_execVfma {s : State} {core : Nat} : Answers [.regs, .sw, .tally, .clusters, .free] s (execVfma core s) := by
  unfold execVfma
  repeat' first
    | with_reducible exact Within.refl _ _
    | with_reducible apply Answers.of_next
    | (with_reducible apply Within.andThen within_vector; · decide)

theorem answers_execVmax {s : State} {core : Nat} : Answers [.regs, .sw, .tally, .clusters, .free] s (execVmax core s) := by
  unfold execVmax
  repeat' first
    | with_reducible exact Within.refl _ _
    | with_reducible apply Answers.of_next
    | (with_reducible apply Within.andThen within_vector; · decide)

theorem answers_execVmin {s : State} {core : Nat} : Answers [.regs, .sw, .tally, .clusters, .free] s (execVmin core s) := by
  unfold execVmin
  repeat' first
    | with_reducible exact Within.refl _ _
    | with_reducible apply Answers.of_next
    | (with_reducible apply Within.andThen within_vector; · decide)

theorem answers_execVsel {s : State} {core : Nat} : Answers [.regs, .sw, .tally, .clusters, .free] s (execVsel core s) := by
  unfold execVsel
  repeat' first
    | with_reducible exact Within.refl _ _
    | with_reducible apply Answers.of_next
    | (with_reducible apply Within.andThen within_vector; · decide)

theorem answers_execVexp {s : State} {core : Nat} : Answers [.regs, .sw, .tally, .clusters, .free] s (execVexp core s) := by
  unfold execVexp
  repeat' first
    | with_reducible exact Within.refl _ _
    | with_reducible apply Answers.of_next
    | (with_reducible apply Within.andThen within_vector; · decide)

theorem answers_execVrcp {s : State} {core : Nat} : Answers [.regs, .sw, .tally, .clusters, .free] s (execVrcp core s) := by
  unfold execVrcp
  repeat' first
    | with_reducible exact Within.refl _ _
    | with_reducible apply Answers.of_next
    | (with_reducible apply Within.andThen within_vector; · decide)

theorem answers_execVcvt {s : State} {core : Nat} : Answers [.regs, .sw, .tally, .clusters, .free] s (execVcvt core s) := by
  unfold execVcvt
  repeat' first
    | with_reducible exact Within.refl _ _
    | with_reducible apply Answers.of_next
    | (with_reducible apply Within.andThen within_vector; · decide)

theorem answers_execVred {s : State} {core : Nat} : Answers [.regs, .sw, .tally, .clusters, .free] s (execVred core s) := by
  unfold execVred
  repeat' first
    | with_reducible exact Within.refl _ _
    | with_reducible apply Answers.of_next
    | (with_reducible apply Within.andThen within_vector; · decide)

theorem answers_execVmask {s : State} {core : Nat} : Answers [.regs, .sw, .tally, .clusters, .free] s (execVmask core s) := by
  unfold execVmask
  repeat' first
    | with_reducible exact Within.refl _ _
    | with_reducible apply Answers.of_next
    | (with_reducible apply Within.andThen within_vector; · decide)

theorem answers_execHistout {s : State} {core : Nat} : Answers [.regs, .sw, .tally, .clusters, .free] s (execHistout core s) := by
  unfold execHistout
  repeat' first
    | with_reducible exact Within.refl _ _
    | with_reducible apply Answers.of_next
    | (with_reducible refine within_issue (by decide) fun _ _ => ?_)
    | (with_reducible apply Within.andThen within_histogramOut; · decide)

theorem answers_execXpose {s : State} {core : Nat} : Answers [.regs, .sw, .tally, .clusters, .free] s (execXpose core s) := by
  unfold execXpose
  repeat' first
    | with_reducible exact Within.refl _ _
    | with_reducible apply Answers.of_next
    | (with_reducible refine within_issue (by decide) fun _ _ => ?_)
    | (with_reducible apply Within.andThen within_turnBank; · decide)
    | (with_reducible apply Within.andThen within_writeCodes; · decide)
    | (with_reducible apply Within.andThen within_numFlags; · decide)
    | split
    | dsimp only

theorem answers_execHandoff {s : State} {core : Nat} :
    Answers [.regs, .power, .watch, .sw, .lanes, .tally, .mem, .stays, .clusters, .health, .host, .out, .free] s (execHandoff core s) := by
  unfold execHandoff
  repeat' first
    | with_reducible exact Within.refl _ _
    | with_reducible apply Answers.of_next
    | (with_reducible refine within_issue (by decide) fun _ _ => ?_)
    | (with_reducible refine within_faultOr (by decide) fun _ => ?_)
    | (with_reducible apply Within.andThen within_handoff; · decide)
    | (with_reducible apply Within.andThen within_retryAgents; · decide)
    | split

theorem answers_execOutbox {s : State} {core : Nat} :
    Answers [.regs, .power, .watch, .sw, .lanes, .tally, .mem, .stays, .clusters, .health, .host, .out, .free] s (execOutbox core s) := by
  unfold execOutbox
  repeat' first
    | with_reducible exact Within.refl _ _
    | with_reducible apply Answers.of_next
    | (with_reducible refine within_issue (by decide) fun _ _ => ?_)
    | (with_reducible refine within_faultOr (by decide) fun _ => ?_)
    | (with_reducible apply Within.andThen within_sendStream; · decide)
    | (with_reducible apply Within.andThen within_retryAgents; · decide)
    | split

theorem answers_execOperandInstruction {s : State} {core : Nat} :
    Answers [.regs, .power, .watch, .sw, .lanes, .tally, .mem, .stays, .clusters, .health, .host, .out, .free] s (execOperandInstruction core s) := by
  unfold execOperandInstruction
  repeat' first
    | with_reducible exact Within.refl _ _
    | with_reducible apply Answers.of_next
    | (with_reducible refine within_issue (by decide) fun _ _ => ?_)
    | (with_reducible refine within_faultOr (by decide) fun _ => ?_)
    | (with_reducible apply Within.andThen within_sendOperand; · decide)
    | (with_reducible apply Within.andThen within_retryAgents; · decide)
    | split

theorem answers_execRecv {s : State} {core : Nat} : Answers [.regs, .sw, .tally, .clusters, .free] s (execRecv core s) := by
  unfold execRecv
  repeat' first
    | with_reducible exact Within.refl _ _
    | with_reducible apply Answers.of_next
    | (with_reducible refine within_issue (by decide) fun _ _ => ?_)

theorem Core.post_memories (k : Core) (w : Nat) : (k.post w).buf = k.buf ∧ (k.post w).turn = k.turn := by
  unfold Core.post
  dsimp only
  split <;> exact ⟨rfl, rfl⟩

theorem answers_execInstructionComplete {s : State} {core unit : Nat} :
    Answers [.regs, .sw, .mem, .stays, .clusters] s (execInstructionComplete core unit s) := by
  unfold execInstructionComplete
  dsimp only
  split
  · exact .stay
  · next q _ =>
    split
    · exact .stay
    · refine .of_next (within_settleOld.andThen (by decide) (within_numFlags.andThen (by decide) ?_))
      refine Within.andThen (within_modCore fun k => ⟨(k.post_memories q.word).1, (k.post_memories q.word).2⟩) (by decide) ?_
      · split
        · exact within_nameEntry.mono (by decide)
        · exact .refl _ _

theorem answers_execProgramFault {s : State} {core code : Nat} :
    Answers [.regs, .power, .watch, .sw, .lanes, .tally, .mem, .stays, .clusters, .health, .host, .out] s (execProgramFault core code s) := by
  unfold execProgramFault
  repeat' first
    | with_reducible exact Within.refl _ _
    | with_reducible apply Answers.of_next
    | (with_reducible apply Within.andThen within_progFault; · decide)
    | (with_reducible apply Within.andThen within_retryAgents; · decide)
    | split

theorem answers_execAttendPlace {s : State} {pos : Nat} : Answers [.regs, .sw, .mem, .stays, .clusters] s (execAttendPlace pos s) := by
  unfold execAttendPlace
  repeat' first
    | with_reducible exact Within.refl _ _
    | with_reducible apply Answers.of_next
    | (with_reducible refine Within.andThen (within_modStays ?_) (by decide) ?_; · exact fun _ => rfl)
    | (with_reducible apply Within.andThen within_refuseAttend; · decide)
    | (with_reducible apply Within.andThen within_retryAgents; · decide)
    | (with_reducible apply Within.andThen within_placeIn; · decide)
    | split
    | dsimp only

theorem answers_execBindWrite {s : State} {cluster n value : Nat} : Answers [.regs, .sw, .clusters] s (execBindWrite cluster n value s) := by
  unfold execBindWrite
  repeat' first
    | with_reducible exact Within.refl _ _
    | with_reducible apply Answers.of_next
    | (with_reducible apply Within.andThen within_modSw; · decide)
    | (with_reducible apply Within.andThen within_raise; · decide)
    | (with_reducible apply Within.andThen within_setReg; · decide)
    | (with_reducible apply Within.andThen within_modSlot; · decide)
    | split
    | dsimp only

theorem answers_execInbox {s : State} {f : Frame} :
    Answers [.regs, .power, .watch, .sw, .lanes, .tally, .clusters, .health, .host, .out, .free] s (execInbox f s) := by
  unfold execInbox
  repeat' first
    | with_reducible exact Within.refl _ _
    | (with_reducible refine answers_serve (by decide) fun _ => ?_)
    | (with_reducible apply Within.andThen within_count; · decide)
    | (with_reducible apply Within.andThen within_inboxWrite; · decide)
    | (with_reducible refine Within.andThen (within_modCore ?_) (by decide) ?_; · exact fun _ => ⟨rfl, rfl⟩)
    | (with_reducible refine Within.foldl (fun _ _ => ?_) _ ?_)
    | split
    | dsimp only

theorem answers_execVerify {s : State} : Answers [.regs, .clusters, .host] s (execVerify s) := by
  unfold execVerify
  repeat' first
    | with_reducible exact Within.refl _ _
    | with_reducible apply Answers.of_next
    | (with_reducible apply Within.andThen within_raise; · decide)
    | (with_reducible apply Within.andThen within_setFld; · decide)
    | (with_reducible refine Within.andThen (within_modClusters ?_) (by decide) ?_; · exact fun _ => ⟨rfl, rfl⟩)
    | (with_reducible apply Within.andThen within_modHost; · decide)
    | split

theorem answers_execVerifyDone {s : State} : Answers [.regs, .clusters, .host] s (execVerifyDone s) := by
  unfold execVerifyDone
  repeat' first
    | with_reducible exact Within.refl _ _
    | with_reducible apply Answers.of_next
    | (with_reducible apply Within.andThen within_setFld; · decide)
    | (with_reducible apply Within.andThen within_modHost; · decide)
    | (with_reducible apply Within.andThen within_loadShadows; · decide)
    | (with_reducible apply Within.andThen within_raise; · decide)
    | (with_reducible refine Within.andThen (within_modClusters ?_) (by decide) ?_; · exact fun _ => ⟨rfl, rfl⟩)
    | (with_reducible apply Within.andThen within_setReg; · decide)
    | (with_reducible apply Within.andThen within_measure; · decide)
    | split

theorem answers_execActivationArm {s : State} {tick : Nat} : Answers [.regs, .sw, .clusters] s (execActivationArm tick s) := by
  unfold execActivationArm
  repeat' first
    | with_reducible exact Within.refl _ _
    | with_reducible apply Answers.of_next
    | (with_reducible apply Within.andThen within_setFld; · decide)
    | (with_reducible apply Within.andThen within_itinRefuse; · decide)
    | (with_reducible apply Within.andThen within_setReg; · decide)
    | (with_reducible apply Within.andThen within_raise; · decide)
    | (with_reducible refine Within.andThen (within_modClusters ?_) (by decide) ?_; · exact fun _ => ⟨rfl, rfl⟩)
    | (with_reducible apply Within.andThen within_armList; · decide)
    | (with_reducible refine Within.foldl (fun _ _ => ?_) _ ?_)
    | split
    | dsimp only

theorem answers_execActivationCancel {s : State} : Answers [.regs, .clusters] s (execActivationCancel s) := by
  unfold execActivationCancel
  repeat' first
    | with_reducible exact Within.refl _ _
    | with_reducible apply Answers.of_next
    | (with_reducible apply Within.andThen within_itinRefuse; · decide)
    | (with_reducible apply Within.andThen within_setFld; · decide)
    | (with_reducible refine Within.andThen (within_modClusters ?_) (by decide) ?_; · exact fun _ => ⟨rfl, rfl⟩)
    | (with_reducible apply Within.andThen within_cancelCurfew; · decide)
    | (with_reducible refine Within.foldl (fun _ _ => ?_) _ ?_)
    | split

theorem answers_execImageActivation {s : State} : Answers [.regs, .sw, .mem, .stays, .clusters, .health, .host, .free] s (execImageActivation s) := by
  unfold execImageActivation
  repeat' first
    | with_reducible exact Within.refl _ _
    | with_reducible apply Answers.of_next
    | (with_reducible apply Within.andThen within_activate; · decide)

theorem answers_execFaultMessage {s : State} {source kind address : Nat} :
    Answers [.regs, .power, .watch, .sw, .lanes, .tally, .health, .host, .out] s (execFaultMessage source kind address s) := by
  unfold execFaultMessage
  repeat' first
    | with_reducible exact Within.refl _ _
    | with_reducible apply Answers.of_next
    | (with_reducible apply Within.andThen within_count; · decide)
    | (with_reducible apply Within.andThen within_fault; · decide)
    | (with_reducible apply Within.andThen within_retryAgents; · decide)
    | split

theorem answers_execRingEntry {s : State} : Answers [.regs, .watch, .host, .out] s (execRingEntry s) := by
  unfold execRingEntry
  repeat' first
    | with_reducible exact Within.refl _ _
    | with_reducible apply Answers.of_next
    | (with_reducible apply Within.andThen within_modWatch; · decide)
    | (with_reducible apply Within.andThen within_setReg; · decide)
    | (with_reducible apply Within.andThen within_setFld; · decide)
    | (with_reducible apply Within.andThen within_noticeHost; · decide)
    | (with_reducible apply Within.andThen within_sentMctp; · decide)
    | split
    | dsimp only

theorem answers_execInject {s : State} {value : Nat} :
    Answers [.regs, .power, .watch, .sw, .lanes, .tally, .health, .host, .out] s (execInject value s) := by
  unfold execInject
  repeat' first
    | with_reducible exact Within.refl _ _
    | with_reducible apply Answers.of_next
    | (with_reducible apply Within.andThen within_writePlain; · decide)
    | (with_reducible apply Within.andThen within_raise; · decide)
    | (with_reducible apply Within.andThen within_fault; · decide)
    | split
    | dsimp only

theorem answers_execProofGo {s : State} {value : Nat} : Answers [.regs, .clusters] s (execProofGo value s) := by
  unfold execProofGo
  repeat' first
    | with_reducible exact Within.refl _ _
    | with_reducible apply Answers.of_next
    | (with_reducible apply Within.andThen within_writePlain; · decide)
    | (with_reducible apply Within.andThen within_startProof; · decide)
    | (with_reducible apply Within.andThen within_raise; · decide)
    | (with_reducible refine Within.foldl (fun _ _ => ?_) _ ?_)
    | split
    | dsimp only

theorem answers_execProofAutoStart {s : State} {core : Nat} : Answers [.regs, .clusters] s (execProofAutoStart core s) := by
  unfold execProofAutoStart
  repeat' first
    | with_reducible exact Within.refl _ _
    | with_reducible apply Answers.of_next
    | (with_reducible apply Within.andThen within_startProof; · decide)
    | split
    | dsimp only

theorem answers_execProofSuiteDone {s : State} {core : Nat} {failing : Option Nat} :
    Answers [.regs, .power, .watch, .sw, .lanes, .tally, .clusters, .health, .host, .out] s (execProofSuiteDone core failing s) := by
  unfold execProofSuiteDone
  repeat' first
    | with_reducible exact Within.refl _ _
    | with_reducible apply Answers.of_next
    | (with_reducible refine Within.andThen (within_modCore ?_) (by decide) ?_; · exact fun _ => ⟨rfl, rfl⟩)
    | (with_reducible apply Within.andThen within_setFld; · decide)
    | (with_reducible apply Within.andThen within_fault; · decide)
    | (with_reducible apply Within.andThen within_setRegBit; · decide)
    | split
    | dsimp only

theorem answers_execHealthEval {s : State} {ages : List Nat} {eyeLoss : Nat} {wear : List (Nat × Nat)} :
    Answers [.regs, .power, .watch, .sw, .lanes, .tally, .health, .host, .out] s (execHealthEval ages eyeLoss wear s) := by
  unfold execHealthEval
  repeat' first
    | with_reducible exact Within.refl _ _
    | with_reducible apply Answers.of_next
    | (with_reducible apply Within.andThen within_setFld; · decide)
    | (with_reducible apply Within.andThen within_modHost; · decide)
    | (with_reducible apply Within.andThen within_modHealth; · decide)
    | (with_reducible apply Within.andThen within_judgeRisk; · decide)
    | (with_reducible refine Within.foldl (fun _ _ => ?_) _ ?_)
    | split

theorem answers_execRiskHistoryAppend {s : State} : Answers [.regs, .host] s (execRiskHistoryAppend s) := by
  unfold execRiskHistoryAppend
  repeat' first
    | with_reducible exact Within.refl _ _
    | with_reducible apply Answers.of_next
    | (with_reducible apply Within.andThen within_modHost; · decide)
    | (with_reducible apply Within.andThen within_setFld; · decide)

theorem answers_execStopoverGo {s : State} : Answers [.regs, .power, .watch, .sw, .lanes, .tally, .health, .host, .out] s (execStopoverGo s) := by
  unfold execStopoverGo
  repeat' first
    | with_reducible exact Within.refl _ _
    | with_reducible apply Answers.of_next
    | (with_reducible apply Within.andThen within_stopRefused; · decide)
    | (with_reducible apply Within.andThen within_startStop; · decide)
    | split

theorem answers_execStopTickArm {s : State} {tick : Nat} : Answers [.regs, .health] s (execStopTickArm tick s) := by
  unfold execStopTickArm
  repeat' first
    | with_reducible exact Within.refl _ _
    | with_reducible apply Answers.of_next
    | (with_reducible apply Within.andThen within_raise; · decide)
    | (with_reducible apply Within.andThen within_setReg; · decide)
    | (with_reducible apply Within.andThen within_modHealth; · decide)
    | (with_reducible apply Within.andThen within_setFld; · decide)
    | split

theorem answers_execStopoverCancel {s : State} : Answers [.regs, .health] s (execStopoverCancel s) := by
  unfold execStopoverCancel
  repeat' first
    | with_reducible exact Within.refl _ _
    | with_reducible apply Answers.of_next
    | (with_reducible apply Within.andThen within_raise; · decide)
    | (with_reducible apply Within.andThen within_modHealth; · decide)
    | (with_reducible apply Within.andThen within_setFld; · decide)
    | split

theorem answers_execStopTickReached {s : State} :
    Answers [.regs, .power, .watch, .sw, .lanes, .tally, .health, .host, .out] s (execStopTickReached s) := by
  unfold execStopTickReached
  repeat' first
    | with_reducible exact Within.refl _ _
    | with_reducible apply Answers.of_next
    | (with_reducible apply Within.andThen within_modHealth; · decide)
    | (with_reducible apply Within.andThen within_stopRefused; · decide)
    | (with_reducible apply Within.andThen within_setFld; · decide)
    | (with_reducible apply Within.andThen within_startStop; · decide)
    | split
    | dsimp only

theorem answers_execQuiesceDone {s : State} {busy : List (Nat × Nat)} : Answers [.regs, .health] s (execQuiesceDone s busy) := by
  unfold execQuiesceDone
  repeat' first
    | with_reducible exact Within.refl _ _
    | with_reducible apply Answers.of_next
    | (with_reducible apply Within.andThen within_setFld; · decide)
    | (with_reducible apply Within.andThen within_modHealth; · decide)
    | split

theorem answers_execCaptureDone {s : State} :
    Answers [.regs, .power, .watch, .sw, .lanes, .tally, .mem, .stays, .clusters, .health, .host, .out] s (execCaptureDone s) := by
  unfold execCaptureDone
  repeat' first
    | with_reducible exact Within.refl _ _
    | with_reducible apply Answers.of_next
    | (with_reducible apply Within.andThen within_poolWrite; · decide)
    | (with_reducible apply Within.andThen within_modHealth; · decide)
    | (with_reducible apply Within.andThen within_stopEnds; · decide)
    | (with_reducible apply Within.andThen within_retryAgents; · decide)
    | (with_reducible apply Within.andThen within_setFld; · decide)
    | (with_reducible apply Within.andThen within_sendSnapshot; · decide)
    | split
    | dsimp only

theorem answers_execStopoverTimeout {s : State} :
    Answers [.regs, .power, .watch, .sw, .lanes, .tally, .stays, .clusters, .health, .host, .out] s (execStopoverTimeout s) := by
  unfold execStopoverTimeout
  repeat' first
    | with_reducible exact Within.refl _ _
    | with_reducible apply Answers.of_next
    | (with_reducible apply Within.andThen within_stopEnds; · decide)
    | (with_reducible apply Within.andThen within_retryAgents; · decide)
    | split

theorem answers_execSnapPut {s : State} {f : Frame} : Answers [.regs, .sw, .mem, .health] s (execSnapPut f s) := by
  unfold execSnapPut
  repeat' first
    | with_reducible exact Within.refl _ _
    | (with_reducible refine answers_serveAny (by decide) fun _ => ?_)
    | (with_reducible apply Within.andThen within_snapAck; · decide)
    | (with_reducible apply Within.andThen within_modHealth; · decide)
    | (with_reducible apply Within.andThen within_poolWrite; · decide)
    | split

theorem answers_execSnapDone {s : State} {f : Frame} : Answers [.regs, .sw, .health] s (execSnapDone f s) := by
  unfold execSnapDone
  repeat' first
    | with_reducible exact Within.refl _ _
    | (with_reducible refine answers_serveAny (by decide) fun _ => ?_)
    | (with_reducible apply Within.andThen within_snapAck; · decide)
    | (with_reducible apply Within.andThen within_modHealth; · decide)
    | split

theorem answers_execSnapConfirm {s : State} {f : Frame} : Answers [.regs, .sw, .health] s (execSnapConfirm f s) := by
  unfold execSnapConfirm
  repeat' first
    | with_reducible exact Within.refl _ _
    | (with_reducible refine answers_serveAny (by decide) fun _ => ?_)
    | (with_reducible apply Within.andThen within_snapAck; · decide)
    | (with_reducible apply Within.andThen within_modHealth; · decide)
    | (with_reducible apply Within.andThen within_raise; · decide)
    | split

theorem answers_execSnapGet {s : State} {f : Frame} : Answers [.regs, .sw, .mem] s (execSnapGet f s) := by
  unfold execSnapGet
  repeat' first
    | with_reducible exact Within.refl _ _
    | (with_reducible refine answers_serveAny (by decide) fun _ => ?_)
    | (with_reducible apply Within.andThen within_snapAck; · decide)
    | (with_reducible apply Within.andThen within_snapData; · decide)
    | (with_reducible apply Within.andThen within_poolRead; · decide)
    | (with_reducible refine Within.of_snd (by assumption) ?_)
    | split

theorem answers_execRestoreGo {s : State} {value : Nat} :
    Answers [.regs, .power, .watch, .sw, .lanes, .tally, .health, .host, .out] s (execRestoreGo value s) := by
  unfold execRestoreGo
  repeat' first
    | with_reducible exact Within.refl _ _
    | with_reducible apply Answers.of_next
    | (with_reducible apply Within.andThen within_writePlain; · decide)
    | (with_reducible apply Within.andThen within_raise; · decide)
    | (with_reducible apply Within.andThen within_restoreEnds; · decide)
    | (with_reducible apply Within.andThen within_setFld; · decide)
    | (with_reducible apply Within.andThen within_modHealth; · decide)
    | (with_reducible apply Within.andThen within_toStop; · decide)
    | split
    | dsimp only

theorem answers_execSnapData {s : State} {f : Frame} :
    Answers [.regs, .power, .watch, .sw, .lanes, .tally, .mem, .stays, .health, .host, .out] s (execSnapData f s) := by
  unfold execSnapData
  repeat' first
    | with_reducible exact Within.refl _ _
    | (with_reducible refine answers_serveAny (by decide) fun _ => ?_)
    | (with_reducible apply Within.andThen within_answerReady; · decide)
    | (with_reducible apply Within.andThen within_takeRecord; · decide)
    | (with_reducible apply Within.andThen within_modHealth; · decide)
    | (with_reducible apply Within.andThen within_judgeCopy; · decide)
    | split
    | dsimp only

theorem answers_execSnapAck {s : State} {f : Frame} :
    Answers [.regs, .power, .watch, .sw, .lanes, .tally, .stays, .clusters, .health, .host, .out] s (execSnapAck f s) := by
  unfold execSnapAck
  repeat' first
    | with_reducible exact Within.refl _ _
    | (with_reducible refine answers_serveAny (by decide) fun _ => ?_)
    | (with_reducible apply Within.andThen within_answerReady; · decide)
    | (with_reducible apply Within.andThen within_restoreEnds; · decide)
    | (with_reducible apply Within.andThen within_stopEnds; · decide)
    | (with_reducible apply Within.andThen within_toStop; · decide)
    | split

theorem answers_execRestoreDone {s : State} : Answers [.regs, .power, .watch, .sw, .lanes, .tally, .health, .host, .out] s (execRestoreDone s) := by
  unfold execRestoreDone
  repeat' first
    | with_reducible exact Within.refl _ _
    | with_reducible apply Answers.of_next
    | (with_reducible apply Within.andThen within_restoreEnds; · decide)
    | split

theorem answers_execError {s : State} {f : Frame} :
    Answers [.regs, .power, .watch, .sw, .lanes, .tally, .stays, .clusters, .health, .host, .out] s (execError f s) := by
  unfold execError
  repeat' first
    | with_reducible exact Within.refl _ _
    | (with_reducible refine answers_serveAny (by decide) fun _ => ?_)
    | (with_reducible apply Within.andThen within_partnerFails; · decide)
    | split

theorem answers_execCxlLinkUp {s : State} {rate width : Nat} : Answers [.regs, .stays, .host, .out] s (execCxlLinkUp rate width s) := by
  unfold execCxlLinkUp
  repeat' first
    | with_reducible exact Within.refl _ _
    | with_reducible apply Answers.of_next
    | (with_reducible apply Within.andThen within_setFld; · decide)
    | (with_reducible apply Within.andThen within_flushNotices; · decide)
    | split

theorem answers_execCxlLinkDown {s : State} : Answers [.regs] s (execCxlLinkDown s) := by
  unfold execCxlLinkDown
  repeat' first
    | with_reducible exact Within.refl _ _
    | with_reducible apply Answers.of_next
    | (with_reducible apply Within.andThen within_setFld; · decide)

theorem answers_execMemrd {s : State} {offset : Nat} : Answers [.regs, .mem, .out, .free] s (execMemrd offset s) := by
  unfold execMemrd
  repeat' first
    | with_reducible exact Within.refl _ _
    | with_reducible apply Answers.of_next
    | (with_reducible apply Within.andThen within_takeFree; · decide)
    | (with_reducible apply Within.andThen within_memData; · decide)
    | (with_reducible apply Within.andThen within_unmapped; · decide)
    | (with_reducible apply Within.andThen within_poolRead; · decide)
    | (with_reducible apply Within.andThen within_count; · decide)
    | (with_reducible refine Within.of_snd (by assumption) ?_)
    | split
    | dsimp only

theorem answers_execMemwr {s : State} {offset : Nat} {data : List Byte} {poison : Bool} :
    Answers [.regs, .mem] s (execMemwr offset data poison s) := by
  unfold execMemwr
  repeat' first
    | with_reducible exact Within.refl _ _
    | with_reducible apply Answers.of_next
    | (with_reducible apply Within.andThen within_unmapped; · decide)
    | (with_reducible apply Within.andThen within_transferred; · decide)
    | (with_reducible apply Within.andThen within_putPoison; · decide)
    | (with_reducible apply Within.andThen within_putPair; · decide)
    | split

theorem answers_execMemwrptl {s : State} {offset : Nat} {data : List Byte} : Answers [.regs, .mem] s (execMemwrptl offset data s) := by
  unfold execMemwrptl
  repeat' first
    | with_reducible exact Within.refl _ _
    | with_reducible apply Answers.of_next
    | (with_reducible apply Within.andThen within_unmapped; · decide)
    | (with_reducible apply Within.andThen within_poolWrite; · decide)
    | split

theorem answers_execWindowWrite {s : State} {window value : Nat} : Answers [.regs] s (execWindowWrite window value s) := by
  unfold execWindowWrite
  repeat' first
    | with_reducible exact Within.refl _ _
    | with_reducible apply Answers.of_next
    | (with_reducible apply Within.andThen within_raise; · decide)
    | (with_reducible apply Within.andThen within_writePlain; · decide)
    | split
    | dsimp only

theorem answers_execQueueConfigWrite {s : State} {q value : Nat} : Answers [.regs, .stays, .host, .out] s (execQueueConfigWrite q value s) := by
  unfold execQueueConfigWrite
  repeat' first
    | with_reducible exact Within.refl _ _
    | with_reducible apply Answers.of_next
    | (with_reducible apply Within.andThen within_raise; · decide)
    | (with_reducible apply Within.andThen within_writePlain; · decide)
    | (with_reducible apply Within.andThen within_setFld; · decide)
    | (with_reducible apply Within.andThen within_modHost; · decide)
    | (with_reducible apply Within.andThen within_flushNotices; · decide)
    | split
    | dsimp only

theorem answers_execMsixHoldoffExpiry {s : State} {q : Nat} : Answers [.host, .out] s (execMsixHoldoffExpiry q s) := by
  unfold execMsixHoldoffExpiry
  repeat' first
    | with_reducible exact Within.refl _ _
    | with_reducible apply Answers.of_next
    | (with_reducible apply Within.andThen within_modHost; · decide)
    | (with_reducible apply Within.andThen within_msix; · decide)
    | split

theorem answers_execFunctionLevelReset {s : State} : Answers [.regs, .host, .out] s (execFunctionLevelReset s) := by
  unfold execFunctionLevelReset
  repeat' first
    | with_reducible exact Within.refl _ _
    | with_reducible apply Answers.of_next
    | (with_reducible apply Within.andThen within_flr; · decide)
    | (with_reducible apply Within.andThen within_modHost; · decide)
    | split

theorem answers_execGetEventRecords {s : State} {payload : List Byte} : Answers [.out] s (execGetEventRecords payload s) := by
  unfold execGetEventRecords
  repeat' first
    | with_reducible exact Within.refl _ _
    | (with_reducible refine answers_command (by decide) fun _ => ?_)
    | (with_reducible apply Within.andThen within_reply; · decide)
    | split

theorem answers_execClearEventRecords {s : State} {payload : List Byte} : Answers [.out] s (execClearEventRecords payload s) := by
  unfold execClearEventRecords
  repeat' first
    | with_reducible exact Within.refl _ _
    | (with_reducible refine answers_command (by decide) fun _ => ?_)
    | (with_reducible apply Within.andThen within_reply; · decide)
    | split

theorem answers_execGetSupportedLogs {s : State} {payload : List Byte} : Answers [.out] s (execGetSupportedLogs payload s) := by
  unfold execGetSupportedLogs
  repeat' first
    | with_reducible exact Within.refl _ _
    | (with_reducible refine answers_command (by decide) fun _ => ?_)
    | (with_reducible apply Within.andThen within_reply; · decide)
    | split

theorem answers_execGetLog {s : State} {payload : List Byte} : Answers [.out] s (execGetLog payload s) := by
  unfold execGetLog
  repeat' first
    | with_reducible exact Within.refl _ _
    | (with_reducible refine answers_command (by decide) fun _ => ?_)
    | (with_reducible apply Within.andThen within_reply; · decide)
    | split

theorem answers_execIdentifyMemoryDevice {s : State} {payload : List Byte} : Answers [.out] s (execIdentifyMemoryDevice payload s) := by
  unfold execIdentifyMemoryDevice
  repeat' first
    | with_reducible exact Within.refl _ _
    | (with_reducible refine answers_command (by decide) fun _ => ?_)
    | (with_reducible apply Within.andThen within_reply; · decide)
    | split

theorem answers_execGetPoisonList {s : State} {payload : List Byte} : Answers [.out] s (execGetPoisonList payload s) := by
  unfold execGetPoisonList
  repeat' first
    | with_reducible exact Within.refl _ _
    | (with_reducible refine answers_command (by decide) fun _ => ?_)
    | (with_reducible apply Within.andThen within_reply; · decide)
    | split

theorem answers_execMailboxUnsupported {s : State} {opcode : Nat} : Answers [.out] s (execMailboxUnsupported opcode s) := by
  unfold execMailboxUnsupported
  repeat' first
    | with_reducible exact Answers.stay
    | with_reducible exact Within.refl _ _
    | (with_reducible refine answers_command (by decide) fun _ => ?_)
    | (with_reducible apply Within.andThen within_reply; · decide)
    | split

theorem answers_execReset {s : State} {payload : List Byte} : Answers [.power, .health, .host, .out] s (execReset payload s) := by
  unfold execReset
  repeat' first
    | with_reducible exact Within.refl _ _
    | with_reducible apply Answers.of_next
    | (with_reducible apply Within.andThen within_reply; · decide)
    | (with_reducible apply Within.andThen within_modHost; · decide)
    | (with_reducible apply Within.andThen within_modHealth; · decide)
    | (with_reducible apply Within.andThen within_modPower; · decide)
    | split

theorem answers_execGetLogEntries {s : State} {payload : List Byte} : Answers [.out] s (execGetLogEntries payload s) := by
  unfold execGetLogEntries
  repeat' first
    | with_reducible exact Within.refl _ _
    | with_reducible apply Answers.of_next
    | (with_reducible apply Within.andThen within_reply; · decide)
    | split

theorem answers_execStageItinerary {s : State} {payload : List Byte} : Answers [.host, .out] s (execStageItinerary payload s) := by
  unfold execStageItinerary
  repeat' first
    | with_reducible exact Within.refl _ _
    | (with_reducible refine answers_command (by decide) fun _ => ?_)
    | (with_reducible apply Within.andThen within_reply; · decide)
    | (with_reducible apply Within.andThen within_background; · decide)
    | split

theorem answers_execStageComponent {s : State} {payload : List Byte} : Answers [.host, .out] s (execStageComponent payload s) := by
  unfold execStageComponent
  repeat' first
    | with_reducible exact Within.refl _ _
    | (with_reducible refine answers_command (by decide) fun _ => ?_)
    | (with_reducible apply Within.andThen within_reply; · decide)
    | (with_reducible apply Within.andThen within_background; · decide)
    | split

theorem answers_execUpdateComponent {s : State} {payload : List Byte} : Answers [.regs, .mem, .host, .out] s (execUpdateComponent payload s) := by
  unfold execUpdateComponent
  repeat' first
    | with_reducible exact Within.refl _ _
    | (with_reducible refine answers_command (by decide) fun _ => ?_)
    | (with_reducible apply Within.andThen within_reply; · decide)
    | (with_reducible apply Within.andThen within_failing; · decide)
    | (with_reducible apply Within.andThen within_poolRead; · decide)
    | (with_reducible apply Within.andThen within_writing; · decide)
    | (with_reducible refine Within.of_snd (by assumption) ?_)
    | split
    | dsimp only

theorem answers_execCommit {s : State} {payload : List Byte} : Answers [.host, .out] s (execCommit payload s) := by
  unfold execCommit
  repeat' first
    | with_reducible exact Within.refl _ _
    | (with_reducible refine answers_command (by decide) fun _ => ?_)
    | (with_reducible apply Within.andThen within_reply; · decide)
    | (with_reducible apply Within.andThen within_commitOne; · decide)
    | (with_reducible refine Within.foldl (fun _ _ => ?_) _ ?_)
    | split

theorem answers_execStopover {s : State} {payload : List Byte} :
    Answers [.regs, .power, .watch, .sw, .lanes, .tally, .health, .host, .out] s (execStopover payload s) := by
  unfold execStopover
  repeat' first
    | with_reducible exact Within.refl _ _
    | (with_reducible refine answers_command (by decide) fun _ => ?_)
    | (with_reducible apply Within.andThen within_reply; · decide)
    | (with_reducible apply Within.andThen within_background; · decide)
    | (with_reducible apply Within.andThen within_modHealth; · decide)
    | (with_reducible apply Within.andThen within_startStop; · decide)
    | split

theorem answers_execReadSnapshot {s : State} {payload : List Byte} : Answers [.regs, .sw, .mem, .host, .out] s (execReadSnapshot payload s) := by
  unfold execReadSnapshot
  repeat' first
    | with_reducible exact Within.refl _ _
    | (with_reducible refine answers_command (by decide) fun _ => ?_)
    | (with_reducible apply Within.andThen within_reply; · decide)
    | (with_reducible apply Within.andThen within_poolRead; · decide)
    | (with_reducible apply Within.andThen within_background; · decide)
    | (with_reducible apply Within.andThen within_toStop; · decide)
    | (with_reducible refine Within.of_snd (by assumption) ?_)
    | split
    | dsimp only

theorem answers_execGetNonce {s : State} {payload : List Byte} : Answers [.host, .out, .free] s (execGetNonce payload s) := by
  unfold execGetNonce
  repeat' first
    | with_reducible exact Within.refl _ _
    | (with_reducible refine answers_command (by decide) fun _ => ?_)
    | (with_reducible apply Within.andThen within_reply; · decide)
    | (with_reducible apply Within.andThen within_takeFree; · decide)
    | (with_reducible apply Within.andThen within_modHost; · decide)
    | split

theorem answers_execOwnerSet {s : State} {payload : List Byte} : Answers [.host, .out] s (execOwnerSet payload s) := by
  unfold execOwnerSet
  repeat' first
    | with_reducible exact Within.refl _ _
    | (with_reducible refine answers_command (by decide) fun _ => ?_)
    | (with_reducible apply Within.andThen within_reply; · decide)
    | (with_reducible apply Within.andThen within_modHost; · decide)
    | (with_reducible apply Within.andThen within_failing; · decide)
    | (with_reducible apply Within.andThen within_writing; · decide)
    | split
    | dsimp only

theorem answers_service {s : State} {payload : List Byte} {op : Nat} {w : FlashWrite} : Answers [.host, .out] s (s.service payload op w) := by
  unfold State.service
  refine answers_command (by decide) fun x => ?_
  repeat' first
    | with_reducible exact Within.refl _ _
    | (with_reducible apply Within.andThen within_reply; · decide)
    | (with_reducible apply Within.andThen within_failing; · decide)
    | (with_reducible apply Within.andThen within_writing; · decide)
    | (with_reducible apply Within.andThen within_modHost; · decide)
    | split

theorem answers_execServiceClearLedger {s : State} {payload : List Byte} : Answers [.host, .out] s (execServiceClearLedger payload s) := by
  exact answers_service

theorem answers_execServiceClearOwner {s : State} {payload : List Byte} : Answers [.host, .out] s (execServiceClearOwner payload s) := by
  exact answers_service

theorem answers_execBackgroundCommandDone {s : State} : Answers [.regs, .mem, .host, .out] s (execBackgroundCommandDone s) := by
  unfold execBackgroundCommandDone
  repeat' first
    | with_reducible exact Within.refl _ _
    | with_reducible apply Answers.of_next
    | (with_reducible apply Within.andThen within_modHost; · decide)
    | (with_reducible apply Within.andThen within_stage; · decide)
    | (with_reducible apply Within.andThen within_replyDone; · decide)
    | (with_reducible apply Within.andThen within_modOut; · decide)
    | split

theorem answers_execFlashWriteDone {s : State} :
    Answers [.regs, .power, .bell, .watch, .sw, .lanes, .tally, .mem, .stays, .clusters, .health, .host, .out] s (execFlashWriteDone s) := by
  unfold execFlashWriteDone
  split
  · exact .stay
  · dsimp only
    repeat' first
      | with_reducible apply Answers.of_next
      | (with_reducible apply Within.andThen within_warm; · decide)
      | (with_reducible apply Within.andThen within_flr; · decide)
      | (with_reducible apply Within.andThen within_modPower; · decide)
      | (with_reducible apply Within.andThen within_modHost; · decide)
      | (with_reducible apply Within.andThen within_written?; · decide)
      | with_reducible exact Within.refl _ _
      | split

theorem answers_execBootStageDone {s : State} :
    Answers [.regs, .power, .watch, .sw, .lanes, .tally, .mem, .health, .host, .out] s (execBootStageDone s) := by
  unfold execBootStageDone
  split
  · exact .stay
  · split
    · exact .of_next (within_stageFailed.mono (by decide))
    · split
      · next h => exact .of_next (within_stageFailed.andThen (by decide) ((Within.of_thd h within_bootAll).mono (by decide)))
      · next h => exact .of_next (within_stagePassed.andThen (by decide) ((Within.of_thd h within_bootAll).mono (by decide)))
  · split
    · next h => exact .of_next (within_stageFailed.andThen (by decide) ((Within.of_thd h within_bootAll).mono (by decide)))
    · next h =>
      exact .of_next (within_stagePassed.andThen (by decide) (within_measure.andThen (by decide) (within_bootComponent.andThen (by decide)
        ((Within.of_thd h within_bootAll).mono (by decide)))))
  · split
    · exact .stay
    · exact .of_next (within_stagePassed.andThen (by decide) (within_loadLedger.andThen (by decide) (within_applyConfig.mono (by decide))))
  · split
    · next h => exact .of_next (within_stageFailed.andThen (by decide) ((Within.of_thd h within_bootAll).mono (by decide)))
    · next h =>
      exact .of_next (within_stagePassed.andThen (by decide) (within_loadFirmware.andThen (by decide) (within_loadFirmware.andThen (by decide)
        ((Within.of_thd h within_bootAll).mono (by decide)))))

theorem answers_execRecoverWrite {s : State} {slotB : Bool} {piece : Nat} {data : List Byte} :
    Answers [.host, .out] s (execRecoverWrite slotB piece data s) := by
  unfold execRecoverWrite
  repeat' first
    | with_reducible exact Within.refl _ _
    | with_reducible apply Answers.of_next
    | (with_reducible apply Within.andThen within_mctpReply; · decide)
    | (with_reducible apply Within.andThen within_modHost; · decide)
    | split

theorem answers_execGetVersion {s : State} : Answers [.host, .out] s (execGetVersion s) := by
  unfold execGetVersion
  repeat' first
    | with_reducible exact Within.refl _ _
    | (with_reducible refine answers_spdmAsk fun _ => ?_)
    | (with_reducible apply Within.andThen within_modHost; · decide)
    | (with_reducible apply Within.andThen within_spdm; · decide)

theorem answers_execGetCapabilities {s : State} : Answers [.out] s (execGetCapabilities s) := by
  unfold execGetCapabilities
  repeat' first
    | with_reducible exact Within.refl _ _
    | (with_reducible refine answers_spdmEarly (by decide) fun _ => ?_)
    | (with_reducible apply Within.andThen within_spdm; · decide)

theorem answers_execNegotiateAlgorithms {s : State} {mldsa shake256 : Bool} : Answers [.host, .out] s (execNegotiateAlgorithms mldsa s shake256) := by
  unfold execNegotiateAlgorithms
  repeat' first
    | with_reducible exact Within.refl _ _
    | (with_reducible refine answers_spdmEarly (by decide) fun _ => ?_)
    | (with_reducible apply Within.andThen within_modHost; · decide)
    | (with_reducible apply Within.andThen within_spdm; · decide)

theorem answers_execGetDigests {s : State} : Answers [.out] s (execGetDigests s) := by
  unfold execGetDigests
  repeat' first
    | with_reducible exact Within.refl _ _
    | (with_reducible refine answers_spdmChosen (by decide) fun _ => ?_)
    | (with_reducible apply Within.andThen within_spdm; · decide)

theorem answers_execGetCertificate {s : State} {slot offset length : Nat} : Answers [.out] s (execGetCertificate slot offset length s) := by
  unfold execGetCertificate
  repeat' first
    | with_reducible exact Within.refl _ _
    | (with_reducible refine answers_spdmChosen (by decide) fun _ => ?_)
    | (with_reducible apply Within.andThen within_spdmError; · decide)
    | (with_reducible apply Within.andThen within_spdm; · decide)
    | split

theorem answers_execChallenge {s : State} {slot : Nat} {nonce : List Byte} : Answers [.out] s (execChallenge slot nonce s) := by
  unfold execChallenge
  repeat' first
    | with_reducible exact Within.refl _ _
    | (with_reducible refine answers_spdmChosen (by decide) fun _ => ?_)
    | (with_reducible apply Within.andThen within_spdmError; · decide)
    | (with_reducible apply Within.andThen within_spdm; · decide)
    | split

theorem answers_execGetMeasurements {s : State} {block : Nat} {nonce : List Byte} : Answers [.out] s (execGetMeasurements block nonce s) := by
  unfold execGetMeasurements
  repeat' first
    | with_reducible exact Within.refl _ _
    | (with_reducible refine answers_spdmChosen (by decide) fun _ => ?_)
    | (with_reducible apply Within.andThen within_spdmError; · decide)
    | (with_reducible apply Within.andThen within_spdm; · decide)
    | split

theorem answers_execSpdmUnsupportedRequest {s : State} {code : Nat} : Answers [.out] s (execSpdmUnsupportedRequest code s) := by
  unfold execSpdmUnsupportedRequest
  repeat' first
    | with_reducible exact Within.refl _ _
    | (with_reducible refine answers_spdmEarly (by decide) fun _ => ?_)
    | (with_reducible apply Within.andThen within_spdm; · decide)

theorem answers_execDoeDiscovery {s : State} {index : Nat} : Answers [.out] s (execDoeDiscovery index s) := by
  unfold execDoeDiscovery
  repeat' first
    | with_reducible exact Within.refl _ _
    | (with_reducible refine answers_spdmAsk fun _ => ?_)
    | (with_reducible apply Within.andThen within_doe; · decide)

theorem answers_execCdatTableAccess {s : State} : Answers [.out] s (execCdatTableAccess s) := by
  unfold execCdatTableAccess
  repeat' first
    | with_reducible exact Within.refl _ _
    | (with_reducible refine answers_spdmAsk fun _ => ?_)
    | (with_reducible apply Within.andThen within_doe; · decide)

theorem answers_execReadReg {s : State} {offset : Nat} : Answers [.out] s (execReadReg offset s) := by
  unfold execReadReg
  repeat' first
    | with_reducible exact Within.refl _ _
    | with_reducible apply Answers.of_next
    | (with_reducible apply Within.andThen within_mctpReply; · decide)
    | split

theorem within_runTimed {s : State} {a : TimedAct} :
    Within [.regs, .power, .watch, .sw, .lanes, .tally, .mem, .stays, .clusters, .health, .host, .out, .free] s (s.runTimed a) := by
  cases a with
  | activate => exact within_activate.mono (by decide)
  | fire c =>
    simp only [State.runTimed]
    split
    · exact within_contFiring.mono (by decide)
    · split
      · exact within_wakeFiring.mono (by decide)
      · exact within_launchFiring.mono (by decide)
  | tally i g => exact within_tallyStep.mono (by decide)
  | curfew p => exact within_switchDue.mono (by decide)
  | wake p => exact within_wakeDue.mono (by decide)

theorem within_fireSkipped {n : Nat} {s : State} :
    Within [.regs, .power, .watch, .sw, .lanes, .tally, .mem, .stays, .clusters, .health, .host, .out, .free] s (State.fireSkipped n s) := by
  induction n generalizing s with
  | zero => exact .refl _ _
  | succ n ih =>
    rw [State.fireSkipped]
    split
    · exact .refl _ _
    · exact ih.andThen (fun _ h => h) within_runTimed

theorem answers_execForceStep {s : State} :
    Answers [.regs, .power, .bell, .watch, .sw, .lanes, .tally, .mem, .stays, .clusters, .health, .host, .out, .free] s (execForceStep s) := by
  unfold execForceStep
  extract_lets refused
  have hrefused : Answers [.regs, .power, .bell, .watch, .sw, .lanes, .tally, .mem, .stays, .clusters, .health, .host, .out, .free] s refused :=
    .of_next (within_raise.mono (by decide))
  split
  · exact hrefused
  · dsimp only
    split
    · exact hrefused
    · exact .of_next (within_fireSkipped.andThen (by decide) (within_choice.andThen (by decide) (within_modBell.mono (by decide))))

theorem answers_execTwoWordEntryWrite {s : State} {offset value : Nat} :
    Answers [.regs, .sw, .clusters] s (execTwoWordEntryWrite offset value s) := by
  unfold execTwoWordEntryWrite
  repeat' first
    | with_reducible exact Within.refl _ _
    | with_reducible apply Answers.of_next
    | (with_reducible apply Within.andThen within_writePolicer; · decide)
    | (with_reducible apply Within.andThen within_writePair; · decide)
    | (with_reducible exact answers_execBindWrite.mono (by decide))
    | split

/-! ### Writes by offset -/

/-- Every part of the state. -/
def allParts : List Part := [.regs, .power, .bell, .watch, .sw, .lanes, .tally, .mem, .stays, .clusters, .health, .host, .out, .free]

theorem mem_allParts (p : Part) : p ∈ allParts := by cases p <;> decide

theorem Answers.all {ps : List Part} {s : State} {o : Host.Outcome State Fault Refusal} (h : Answers ps s o) : Answers allParts s o :=
  h.mono fun p _ => mem_allParts p

/-- Every outcome that a choice may give answers. -/
def AnswersIf (s : State) (o : Option (Host.Outcome State Fault Refusal)) : Prop := ∀ x ∈ o, Answers allParts s x

theorem AnswersIf.none {s : State} : AnswersIf s none := by
  rintro x ⟨⟩

theorem AnswersIf.some {s : State} {o : Host.Outcome State Fault Refusal} (h : Answers allParts s o) : AnswersIf s (some o) := by
  rintro x ⟨⟩
  exact h

theorem AnswersIf.map {s : State} {o : Option Nat} {g : Nat → Host.Outcome State Fault Refusal} (h : ∀ n, Answers allParts s (g n)) :
    AnswersIf s (o.map g) := by
  cases o with
  | none => exact .none
  | some n => exact .some (h n)

theorem AnswersIf.or {s : State} {o o' : Option (Host.Outcome State Fault Refusal)} (h : AnswersIf s o) (h' : AnswersIf s o') :
    AnswersIf s (o.or o') := by
  cases o with
  | none => exact h'
  | some _ => exact h

theorem AnswersIf.getD {s : State} {o : Option (Host.Outcome State Fault Refusal)} {x : Host.Outcome State Fault Refusal} (h : AnswersIf s o)
    (hx : Answers allParts s x) : Answers allParts s (o.getD x) := by
  cases o with
  | none => exact hx
  | some y => exact h y rfl

theorem answers_thenDo {ps : List Part} {s : State} {o : Host.Outcome State Fault Refusal} {f : State → Host.Outcome State Fault Refusal}
    (ho : Answers ps s o) (hf : ∀ x, Answers ps x (f x)) : Answers ps s (thenDo o f) := by
  obtain ⟨t, rfl, ht⟩ := ho
  exact (hf t).andThen (fun _ h => h) ht

theorem Answers.ite {ps : List Part} {s : State} {o o' : Host.Outcome State Fault Refusal} {c : Prop} [Decidable c] (h : Answers ps s o)
    (h' : Answers ps s o') : Answers ps s (if c then o else o') := by
  split
  · exact h
  · exact h'

theorem answers_plain {s : State} {off value : Nat} : Answers allParts s (.next (s.writePlain off value)) := (Answers.of_next within_writePlain).all

theorem answers_writeRepair {s : State} {value : Nat} : Answers allParts s (s.writeRepair value) := by
  unfold State.writeRepair
  exact answers_plain.ite (answers_execRepairRow.all.ite (answers_execRetireRoom.all.ite (answers_execRetireBank.all.ite
    (answers_execReleaseRoom.all.ite (Answers.of_next within_repairGo).all))))

theorem answers_writePort {s : State} {p value : Nat} : Answers allParts s (s.writePort p value) := by
  unfold State.writePort
  refine answers_thenDo (answers_execEnable.all.ite (answers_execShutDown.all.ite .stay)) fun _ => ?_
  refine answers_thenDo (Answers.stay.ite (answers_execQuietRequest.all.ite (answers_execSleepRequest.all.ite (answers_execActiveRequest.all.ite .stay))))
    fun _ => ?_
  exact answers_execRetrain.all.ite .stay

theorem AnswersIf.ite {s : State} {o o' : Option (Host.Outcome State Fault Refusal)} {c : Prop} [Decidable c] (h : AnswersIf s o)
    (h' : AnswersIf s o') : AnswersIf s (if c then o else o') := by
  split
  · exact h
  · exact h'

theorem answersIf_writeSingle {s : State} {off value : Nat} : AnswersIf s (s.writeSingle off value) := by
  unfold State.writeSingle
  refine .ite (.some (Answers.of_next (ps := [.regs, .sw, .tally]) (within_dropFencedResults.andThen (by decide) (within_writePlain.mono (by decide)))).all) ?_
  refine .ite (.some (answers_thenDo (answers_execActivationCancel.all.ite .stay) fun _ => answers_execVerify.all.ite .stay)) ?_
  refine .ite (.some answers_execActivationArm.all) <| .ite (.some answers_execInject.all) <| .ite (.some answers_execSacrificeThresholdWrite.all) ?_
  refine .ite (.some (answers_execSwTableWrite.all.ite answers_execSwTableRead.all)) ?_
  refine .ite (.some (Answers.of_next (Within.mono (qs := [.regs]) (fun p _ => mem_allParts p) ?_))) ?_
  · split
    · exact within_writePlain
    · exact .refl _ _
  refine .ite (.some answers_execTlTableRead.all) <| .ite (.some (Answers.of_next within_writeStCtrl).all) <| .ite (.some answers_execEvictThresholdWrite.all) ?_
  refine .ite (.some answers_execAreaWrite.all) <| .ite (.some answers_execAreaWrite.all) <| .ite (.some answers_execTakeoverGo.all) ?_
  refine .ite (.some answers_execRemirror.all) <| .ite (.some answers_execStTableRead.all) <| .ite (.some answers_execThermThresholdWrite.all) ?_
  refine .ite (.some (answers_execScrubGo.all.ite (answers_thenDo (answers_execScrubStop.all.ite .stay) fun _ => answers_plain))) ?_
  refine .ite (.some answers_writeRepair) <| .ite (.some ?_) ?_
  · exact .ite (answers_execForceStep.andThen (fun p _ => mem_allParts p) (within_writePlain.mono fun p _ => mem_allParts p)) answers_plain
  refine .ite (.some (Answers.of_next (Within.mono (qs := [.regs]) (fun p _ => mem_allParts p) ?_))) ?_
  · split
    · exact .refl _ _
    · exact within_refreshRoot.andThen (by decide) within_writePlain
  refine .ite (.some answers_execChoiceWindowWrite.all) <| .ite (.some answers_execChoiceWindowWrite.all) ?_
  refine .ite (.some (answers_execRetry.all.ite .stay)) <| .ite (.some answers_execCapModeWrite.all) <| .ite (.some answers_execClockWrite.all) ?_
  refine .ite (.some (answers_thenDo (answers_execStopoverCancel.all.ite .stay) fun _ => answers_execStopoverGo.all.ite .stay)) ?_
  refine .ite (.some answers_execStopTickArm.all) <| .ite (.some (Answers.of_next (ps := [.regs]) ?_).all) ?_
  · split
    · exact within_raise
    · exact within_writePlain
  exact .ite (.some answers_execRestoreGo.all) <| .ite (.some answers_execProofGo.all) .none

theorem answersIf_writeSwitchArray {s : State} {off value : Nat} : AnswersIf s (s.writeSwitchArray off value) := by
  unfold State.writeSwitchArray
  refine .or (.map fun _ => answers_execCurfewCancel.all.ite .stay) <| .or (.map fun _ => answers_execCurfewSwitchArm.all) ?_
  refine .or (.map fun _ => answers_execOwnerMinWrite.all) <| .or (.map fun _ => (Answers.of_next (ps := [.regs, .sw]) ?_).all) ?_
  · split
    · exact within_writeEgress
    · exact .refl _ _
  refine .or (.map fun _ => (Answers.of_next within_writeDead).all) <| .or (.map fun _ => answers_execRankEntryWrite.all) ?_
  exact .or (.map fun _ => answers_execPartyEntryWrite.all) (.map fun _ => answers_execStreamEntryWrite.all)

theorem answersIf_writeArray {s : State} {off value : Nat} : AnswersIf s (s.writeArray off value) := by
  unfold State.writeArray
  refine .or answersIf_writeSwitchArray <| .or (.map fun _ => answers_execTallyPoolMinWrite.all) <| .or (.map fun _ => answers_execCoreEnableWrite.all) ?_
  refine .or (.map fun _ => answers_execQuarantineClear.all) <| .or (.map fun _ => answers_writePort) <| .or (.map fun _ => answers_execWakeTickWrite.all) ?_
  refine .or (.map fun _ => answers_execWindowWrite.all) <| .or (.map fun _ => answers_execQueueConfigWrite.all) <| .or (.map fun _ => ?_) (.map fun _ => ?_)
  · exact (Answers.of_next (ps := [.regs, .stays, .host, .out]) (within_flushNotices.andThen (by decide) (within_writePlain.mono (by decide)))).all
  · exact (Answers.of_next within_writeVector).all

theorem answers_store {s : State} {off value : Nat} : Answers allParts s (s.store off value) := by
  unfold State.store
  split
  · next h => exact answersIf_writeSingle _ h
  · split
    · next h => exact answersIf_writeArray _ h
    · exact (Answers.of_next within_holdWord0).all.ite (answers_execTwoWordEntryWrite.all.ite answers_plain)

theorem answersIf_storeHigh {s : State} {off value : Nat} : AnswersIf s (s.storeHigh off value) := by
  unfold State.storeHigh
  exact .ite (.some .stay) (.or (.map fun _ => answers_plain) (.map fun _ => answers_execRetrain.all.ite .stay))

theorem answersIf_storeLow {s : State} {off value : Nat} : AnswersIf s (s.storeLow off value) := by
  unfold State.storeLow
  exact .or (.map fun _ => (Answers.of_next within_raise).all.ite answers_plain) (.map fun _ => .stay)

theorem answers_storeAt {s : State} {off size value : Nat} : Answers allParts s (s.storeAt off size value) := by
  unfold State.storeAt
  exact Answers.stay.ite ((AnswersIf.none.ite (answersIf_storeHigh.ite answersIf_storeLow)).getD answers_store)

theorem answers_writeRegs {is : List Nat} {s : State} {off : Nat} {p : List Byte} : Answers allParts s (State.writeRegs is s off p) := by
  induction is generalizing s with
  | nil => exact .stay
  | cons i is ih => exact answers_thenDo answers_storeAt fun _ => ih

theorem answers_rackWrite {s : State} {f : Frame} {ack : Nat → State → State} (ha : ∀ n x, Within allParts x (ack n x)) :
    Answers allParts s (s.rackWrite f ack) := by
  unfold State.rackWrite
  dsimp only
  split
  · exact .of_next ((ha _ _).andThen (fun _ h => h) (within_poolWrite.mono (by decide)))
  · exact answers_thenDo (answers_storeAt.ite answers_writeRegs) fun x => .of_next (ha _ x)
  · exact (Answers.of_next within_rackRefuse).all

theorem answers_execRegisterWrite {s : State} {offset size value : Nat} :
    Answers [.regs, .power, .bell, .watch, .sw, .lanes, .tally, .mem, .stays, .clusters, .health, .host, .out, .free] s (execRegisterWrite offset size value s) := by
  unfold execRegisterWrite
  split
  · exact answers_storeAt
  · exact .stay

theorem answers_execRead {s : State} {f : Frame} : Answers [.regs, .sw, .mem] s (execRead f s) := by
  unfold execRead
  repeat' first
    | with_reducible exact Within.refl _ _
    | (with_reducible refine answers_serveAny (by decide) fun _ => ?_)
    | (with_reducible apply Within.andThen within_agentSend; · decide)
    | (with_reducible apply Within.andThen within_poolRead; · decide)
    | (with_reducible apply Within.andThen within_rackRefuse; · decide)
    | (with_reducible refine Within.of_snd (by assumption) ?_)
    | split
    | dsimp only

theorem answers_execWrite {s : State} {f : Frame} :
    Answers [.regs, .power, .bell, .watch, .sw, .lanes, .tally, .mem, .stays, .clusters, .health, .host, .out, .free] s (execWrite f s) := by
  unfold execWrite
  exact answers_thenDo ((answers_rackWrite fun _ _ => within_agentSend.mono (by decide)).andThen (fun _ h => h) (within_takeAgent.mono (by decide)))
    fun _ => .of_next (within_retryAgents.mono (by decide))

theorem answers_execWritePosted {s : State} {f : Frame} :
    Answers [.regs, .power, .bell, .watch, .sw, .lanes, .tally, .mem, .stays, .clusters, .health, .host, .out, .free] s (execWritePosted f s) := by
  unfold execWritePosted
  exact answers_thenDo ((answers_rackWrite fun _ _ => .refl _ _).andThen (fun _ h => h) (within_takeAgent.mono (by decide)))
    fun _ => .of_next (within_retryAgents.mono (by decide))

/-! ### Every command -/

/-- Each command answers a next state within the parts that its own statement names. -/
theorem exec_answers (c : Instr) (s : State) : ∃ ps, Answers ps s (exec c s) :=
  match c with
  | .warmReset => ⟨_, answers_execWarmReset⟩
  | .powerCycle => ⟨_, answers_execPowerCycle⟩
  | .powerOff => ⟨_, answers_execPowerOff⟩
  | .railsDischarged => ⟨_, answers_execRailsDischarged⟩
  | .inputSwitchClose => ⟨_, answers_execInputSwitchClose⟩
  | .inputLow .. => ⟨_, answers_execInputLow⟩
  | .inputRecovered .. => ⟨_, answers_execInputRecovered⟩
  | .undervoltage .. => ⟨_, answers_execUndervoltage⟩
  | .surge .. => ⟨_, answers_execSurge⟩
  | .overvoltage .. => ⟨_, answers_execOvervoltage⟩
  | .reverse .. => ⟨_, answers_execReverse⟩
  | .overcurrent => ⟨_, answers_execOvercurrent⟩
  | .retry => ⟨_, answers_execRetry⟩
  | .powerStageFail .. => ⟨_, answers_execPowerStageFail⟩
  | .railsStable => ⟨_, answers_execRailsStable⟩
  | .vacancyThreadDone => ⟨_, answers_execVacancyThreadDone⟩
  | .stackFillDone .. => ⟨_, answers_execStackFillDone⟩
  | .fillLate .. => ⟨_, answers_execFillLate⟩
  | .musterMark => ⟨_, answers_execMusterMark⟩
  | .musterCheck .. => ⟨_, answers_execMusterCheck⟩
  | .islandOutOfMuster .. => ⟨_, answers_execIslandOutOfMuster⟩
  | .remusterDone .. => ⟨_, answers_execRemusterDone⟩
  | .bringupDeadline => ⟨_, answers_execBringupDeadline⟩
  | .setCoord .. => ⟨_, answers_execSetCoord⟩
  | .setRoot .. => ⟨_, answers_execSetRoot⟩
  | .readReg .. => ⟨_, answers_execReadReg⟩
  | .recoverWrite .. => ⟨_, answers_execRecoverWrite⟩
  | .mctpUnknownCommand .. => ⟨_, answers_execMctpUnknownCommand⟩
  | .registerWrite .. => ⟨_, answers_execRegisterWrite⟩
  | .syncInterval .. => ⟨_, answers_execSyncInterval⟩
  | .sync .. => ⟨_, answers_execSync⟩
  | .syncReply .. => ⟨_, answers_execSyncReply⟩
  | .rootAnnounceSend => ⟨_, answers_execRootAnnounceSend⟩
  | .rootAnnounce .. => ⟨_, answers_execRootAnnounce⟩
  | .rootWaitEnd => ⟨_, answers_execRootWaitEnd⟩
  | .holdLimitExpiry => ⟨_, answers_execHoldLimitExpiry⟩
  | .forceStep => ⟨_, answers_execForceStep⟩
  | .choiceWindowWrite .. => ⟨_, answers_execChoiceWindowWrite⟩
  | .choiceWindowOpen => ⟨_, answers_execChoiceWindowOpen⟩
  | .ptpMessage .. => ⟨_, answers_execPtpMessage⟩
  | .trunkIdent .. => ⟨_, answers_execTrunkIdent⟩
  | .frameIngress .. => ⟨_, answers_execFrameIngress⟩
  | .frameTailReceived .. => ⟨_, answers_execFrameTailReceived⟩
  | .egressSelect .. => ⟨_, answers_execEgressSelect⟩
  | .spoil .. => ⟨_, answers_execSpoil⟩
  | .bridgeFrame .. => ⟨_, answers_execBridgeFrame⟩
  | .read .. => ⟨_, answers_execRead⟩
  | .write .. => ⟨_, answers_execWrite⟩
  | .writePosted .. => ⟨_, answers_execWritePosted⟩
  | .streamCloseRelease .. => ⟨_, answers_execStreamCloseRelease⟩
  | .streamHoldExpiry .. => ⟨_, answers_execStreamHoldExpiry⟩
  | .sinkLimitExpiry .. => ⟨_, answers_execSinkLimitExpiry⟩
  | .mcastHoldExpiry .. => ⟨_, answers_execMcastHoldExpiry⟩
  | .creditTopup .. => ⟨_, answers_execCreditTopup⟩
  | .sacrificeStageUpdate => ⟨_, answers_execSacrificeStageUpdate⟩
  | .bufferSramUe .. => ⟨_, answers_execBufferSramUe⟩
  | .bankRebuildDone .. => ⟨_, answers_execBankRebuildDone⟩
  | .rankEntryWrite .. => ⟨_, answers_execRankEntryWrite⟩
  | .partyEntryWrite .. => ⟨_, answers_execPartyEntryWrite⟩
  | .streamEntryWrite .. => ⟨_, answers_execStreamEntryWrite⟩
  | .ownerMinWrite .. => ⟨_, answers_execOwnerMinWrite⟩
  | .sacrificeThresholdWrite .. => ⟨_, answers_execSacrificeThresholdWrite⟩
  | .twoWordEntryWrite .. => ⟨_, answers_execTwoWordEntryWrite⟩
  | .swTableRead .. => ⟨_, answers_execSwTableRead⟩
  | .swTableWrite .. => ⟨_, answers_execSwTableWrite⟩
  | .tlTableRead .. => ⟨_, answers_execTlTableRead⟩
  | .stTableRead .. => ⟨_, answers_execStTableRead⟩
  | .tableAccessDone .. => ⟨_, answers_execTableAccessDone⟩
  | .curfewSwitchArm .. => ⟨_, answers_execCurfewSwitchArm⟩
  | .curfewCancel .. => ⟨_, answers_execCurfewCancel⟩
  | .curfewSwitchover .. => ⟨_, answers_execCurfewSwitchover⟩
  | .curfewEntryAdvance .. => ⟨_, answers_execCurfewEntryAdvance⟩
  | .fenceSeen .. => ⟨_, answers_execFenceSeen⟩
  | .claim .. => ⟨_, answers_execClaim⟩
  | .release .. => ⟨_, answers_execRelease⟩
  | .tallyUnlistedKind .. => ⟨_, answers_execTallyUnlistedKind⟩
  | .operand .. => ⟨_, answers_execOperand⟩
  | .tallyStep .. => ⟨_, answers_execTallyStep⟩
  | .result .. => ⟨_, answers_execResult⟩
  | .ack .. => ⟨_, answers_execAck⟩
  | .credit .. => ⟨_, answers_execCredit⟩
  | .resend .. => ⟨_, answers_execResend⟩
  | .fail .. => ⟨_, answers_execFail⟩
  | .dispatch .. => ⟨_, answers_execDispatch⟩
  | .resultAckTimeout .. => ⟨_, answers_execResultAckTimeout⟩
  | .contribResendTimeout .. => ⟨_, answers_execContribResendTimeout⟩
  | .tallyCorruption .. => ⟨_, answers_execTallyCorruption⟩
  | .tallyPoolMinWrite .. => ⟨_, answers_execTallyPoolMinWrite⟩
  | .open .. => ⟨_, answers_execOpen⟩
  | .append .. => ⟨_, answers_execAppend⟩
  | .appendResume .. => ⟨_, answers_execAppendResume⟩
  | .attend .. => ⟨_, answers_execAttend⟩
  | .assembleWaitExpiry .. => ⟨_, answers_execAssembleWaitExpiry⟩
  | .attendPlace .. => ⟨_, answers_execAttendPlace⟩
  | .fork .. => ⟨_, answers_execFork⟩
  | .park .. => ⟨_, answers_execPark⟩
  | .parkToHost .. => ⟨_, answers_execParkToHost⟩
  | .parkToPeer .. => ⟨_, answers_execParkToPeer⟩
  | .unpark .. => ⟨_, answers_execUnpark⟩
  | .close .. => ⟨_, answers_execClose⟩
  | .closeComplete .. => ⟨_, answers_execCloseComplete⟩
  | .roomUnlistedKind .. => ⟨_, answers_execRoomUnlistedKind⟩
  | .mirrorOpen .. => ⟨_, answers_execMirrorOpen⟩
  | .mirrorAppend .. => ⟨_, answers_execMirrorAppend⟩
  | .mirrorFork .. => ⟨_, answers_execMirrorFork⟩
  | .mirrorClose .. => ⟨_, answers_execMirrorClose⟩
  | .mirrorRoomcopy .. => ⟨_, answers_execMirrorRoomcopy⟩
  | .mirrorAck .. => ⟨_, answers_execMirrorAck⟩
  | .mirrorWaitExpiry .. => ⟨_, answers_execMirrorWaitExpiry⟩
  | .lodgeBook .. => ⟨_, answers_execLodgeBook⟩
  | .lodgeBooked .. => ⟨_, answers_execLodgeBooked⟩
  | .lodge .. => ⟨_, answers_execLodge⟩
  | .lodgeAck .. => ⟨_, answers_execLodgeAck⟩
  | .recallReturn .. => ⟨_, answers_execRecallReturn⟩
  | .recallDiscard .. => ⟨_, answers_execRecallDiscard⟩
  | .recallPage .. => ⟨_, answers_execRecallPage⟩
  | .recalled .. => ⟨_, answers_execRecalled⟩
  | .eviction => ⟨_, answers_execEviction⟩
  | .takeoverGo .. => ⟨_, answers_execTakeoverGo⟩
  | .takeoverDone => ⟨_, answers_execTakeoverDone⟩
  | .remirror .. => ⟨_, answers_execRemirror⟩
  | .evictThresholdWrite .. => ⟨_, answers_execEvictThresholdWrite⟩
  | .areaWrite .. => ⟨_, answers_execAreaWrite⟩
  | .bindWrite .. => ⟨_, answers_execBindWrite⟩
  | .inbox .. => ⟨_, answers_execInbox⟩
  | .coreEnableWrite .. => ⟨_, answers_execCoreEnableWrite⟩
  | .quarantineClear .. => ⟨_, answers_execQuarantineClear⟩
  | .dupMismatch .. => ⟨_, answers_execDupMismatch⟩
  | .dupThirdRunDone .. => ⟨_, answers_execDupThirdRunDone⟩
  | .residueFail .. => ⟨_, answers_execResidueFail⟩
  | .launchFiring .. => ⟨_, answers_execLaunchFiring⟩
  | .contFiring .. => ⟨_, answers_execContFiring⟩
  | .wakeFiring .. => ⟨_, answers_execWakeFiring⟩
  | .finalRelease .. => ⟨_, answers_execFinalRelease⟩
  | .dispatchResume .. => ⟨_, answers_execDispatchResume⟩
  | .instructionComplete .. => ⟨_, answers_execInstructionComplete⟩
  | .endBundle .. => ⟨_, answers_execEndBundle⟩
  | .setx .. => ⟨_, answers_execSetx⟩
  | .madx .. => ⟨_, answers_execMadx⟩
  | .bell .. => ⟨_, answers_execBell⟩
  | .bellTickReached .. => ⟨_, answers_execBellTickReached⟩
  | .fence .. => ⟨_, answers_execFence⟩
  | .fenceDrained .. => ⟨_, answers_execFenceDrained⟩
  | .roomld .. => ⟨_, answers_execRoomld⟩
  | .lcopy .. => ⟨_, answers_execLcopy⟩
  | .mma .. => ⟨_, answers_execMma⟩
  | .vadd .. => ⟨_, answers_execVadd⟩
  | .vmul .. => ⟨_, answers_execVmul⟩
  | .vfma .. => ⟨_, answers_execVfma⟩
  | .vmax .. => ⟨_, answers_execVmax⟩
  | .vmin .. => ⟨_, answers_execVmin⟩
  | .vsel .. => ⟨_, answers_execVsel⟩
  | .vexp .. => ⟨_, answers_execVexp⟩
  | .vrcp .. => ⟨_, answers_execVrcp⟩
  | .vcvt .. => ⟨_, answers_execVcvt⟩
  | .vred .. => ⟨_, answers_execVred⟩
  | .vmask .. => ⟨_, answers_execVmask⟩
  | .histout .. => ⟨_, answers_execHistout⟩
  | .xpose .. => ⟨_, answers_execXpose⟩
  | .handoff .. => ⟨_, answers_execHandoff⟩
  | .outbox .. => ⟨_, answers_execOutbox⟩
  | .operandInstruction .. => ⟨_, answers_execOperandInstruction⟩
  | .recv .. => ⟨_, answers_execRecv⟩
  | .programFault .. => ⟨_, answers_execProgramFault⟩
  | .verify => ⟨_, answers_execVerify⟩
  | .verifyDone => ⟨_, answers_execVerifyDone⟩
  | .activationArm .. => ⟨_, answers_execActivationArm⟩
  | .activationCancel => ⟨_, answers_execActivationCancel⟩
  | .imageActivation => ⟨_, answers_execImageActivation⟩
  | .pairRead .. => ⟨_, answers_execPairRead⟩
  | .pairWrite .. => ⟨_, answers_execPairWrite⟩
  | .mergeHoldExpiry .. => ⟨_, answers_execMergeHoldExpiry⟩
  | .interfaceCrcFail .. => ⟨_, answers_execInterfaceCrcFail⟩
  | .thermalReport .. => ⟨_, answers_execThermalReport⟩
  | .thermThresholdWrite .. => ⟨_, answers_execThermThresholdWrite⟩
  | .scrubGo .. => ⟨_, answers_execScrubGo⟩
  | .scrubStop => ⟨_, answers_execScrubStop⟩
  | .scrubDone .. => ⟨_, answers_execScrubDone⟩
  | .repairRow .. => ⟨_, answers_execRepairRow⟩
  | .retireRoom .. => ⟨_, answers_execRetireRoom⟩
  | .retireBank .. => ⟨_, answers_execRetireBank⟩
  | .releaseRoom .. => ⟨_, answers_execReleaseRoom⟩
  | .repairDone .. => ⟨_, answers_execRepairDone⟩
  | .stackDown .. => ⟨_, answers_execStackDown⟩
  | .portStageDone .. => ⟨_, answers_execPortStageDone⟩
  | .portStageTimeout .. => ⟨_, answers_execPortStageTimeout⟩
  | .detectRetry .. => ⟨_, answers_execDetectRetry⟩
  | .status .. => ⟨_, answers_execStatus⟩
  | .codewordUncorrectable .. => ⟨_, answers_execCodewordUncorrectable⟩
  | .replayReq .. => ⟨_, answers_execReplayReq⟩
  | .replayStart .. => ⟨_, answers_execReplayStart⟩
  | .replayReqRepeat .. => ⟨_, answers_execReplayReqRepeat⟩
  | .ackWaitExpiry .. => ⟨_, answers_execAckWaitExpiry⟩
  | .serWindowEnd .. => ⟨_, answers_execSerWindowEnd⟩
  | .laneSignalLoss .. => ⟨_, answers_execLaneSignalLoss⟩
  | .laneForm .. => ⟨_, answers_execLaneForm⟩
  | .laneNarrow .. => ⟨_, answers_execLaneNarrow⟩
  | .narrowDone .. => ⟨_, answers_execNarrowDone⟩
  | .tileFail .. => ⟨_, answers_execTileFail⟩
  | .lanePower .. => ⟨_, answers_execLanePower⟩
  | .laneWake .. => ⟨_, answers_execLaneWake⟩
  | .laneDown .. => ⟨_, answers_execLaneDown⟩
  | .quietRequest .. => ⟨_, answers_execQuietRequest⟩
  | .sleepRequest .. => ⟨_, answers_execSleepRequest⟩
  | .activeRequest .. => ⟨_, answers_execActiveRequest⟩
  | .powerStateEntry .. => ⟨_, answers_execPowerStateEntry⟩
  | .wakeTrigger .. => ⟨_, answers_execWakeTrigger⟩
  | .wakeTickWrite .. => ⟨_, answers_execWakeTickWrite⟩
  | .wakeTickReached .. => ⟨_, answers_execWakeTickReached⟩
  | .wakeDone .. => ⟨_, answers_execWakeDone⟩
  | .shutDown .. => ⟨_, answers_execShutDown⟩
  | .shutdownDone .. => ⟨_, answers_execShutdownDone⟩
  | .enable .. => ⟨_, answers_execEnable⟩
  | .retrain .. => ⟨_, answers_execRetrain⟩
  | .faultMessage .. => ⟨_, answers_execFaultMessage⟩
  | .ringEntry => ⟨_, answers_execRingEntry⟩
  | .inject .. => ⟨_, answers_execInject⟩
  | .proofGo .. => ⟨_, answers_execProofGo⟩
  | .proofAutoStart .. => ⟨_, answers_execProofAutoStart⟩
  | .proofSuiteDone .. => ⟨_, answers_execProofSuiteDone⟩
  | .healthEval .. => ⟨_, answers_execHealthEval⟩
  | .riskHistoryAppend => ⟨_, answers_execRiskHistoryAppend⟩
  | .stopoverGo => ⟨_, answers_execStopoverGo⟩
  | .stopTickArm .. => ⟨_, answers_execStopTickArm⟩
  | .stopoverCancel => ⟨_, answers_execStopoverCancel⟩
  | .stopTickReached => ⟨_, answers_execStopTickReached⟩
  | .quiesceDone .. => ⟨_, answers_execQuiesceDone⟩
  | .captureDone => ⟨_, answers_execCaptureDone⟩
  | .stopoverTimeout => ⟨_, answers_execStopoverTimeout⟩
  | .snapPut .. => ⟨_, answers_execSnapPut⟩
  | .snapDone .. => ⟨_, answers_execSnapDone⟩
  | .snapConfirm .. => ⟨_, answers_execSnapConfirm⟩
  | .snapGet .. => ⟨_, answers_execSnapGet⟩
  | .snapData .. => ⟨_, answers_execSnapData⟩
  | .snapAck .. => ⟨_, answers_execSnapAck⟩
  | .restoreGo .. => ⟨_, answers_execRestoreGo⟩
  | .restoreDone => ⟨_, answers_execRestoreDone⟩
  | .cxlLinkUp .. => ⟨_, answers_execCxlLinkUp⟩
  | .cxlLinkDown => ⟨_, answers_execCxlLinkDown⟩
  | .memrd .. => ⟨_, answers_execMemrd⟩
  | .memwr .. => ⟨_, answers_execMemwr⟩
  | .memwrptl .. => ⟨_, answers_execMemwrptl⟩
  | .windowWrite .. => ⟨_, answers_execWindowWrite⟩
  | .queueConfigWrite .. => ⟨_, answers_execQueueConfigWrite⟩
  | .msixHoldoffExpiry .. => ⟨_, answers_execMsixHoldoffExpiry⟩
  | .functionLevelReset => ⟨_, answers_execFunctionLevelReset⟩
  | .getEventRecords .. => ⟨_, answers_execGetEventRecords⟩
  | .clearEventRecords .. => ⟨_, answers_execClearEventRecords⟩
  | .getSupportedLogs .. => ⟨_, answers_execGetSupportedLogs⟩
  | .getLog .. => ⟨_, answers_execGetLog⟩
  | .identifyMemoryDevice .. => ⟨_, answers_execIdentifyMemoryDevice⟩
  | .getPoisonList .. => ⟨_, answers_execGetPoisonList⟩
  | .mailboxUnsupported .. => ⟨_, answers_execMailboxUnsupported⟩
  | .reset .. => ⟨_, answers_execReset⟩
  | .stageItinerary .. => ⟨_, answers_execStageItinerary⟩
  | .stageComponent .. => ⟨_, answers_execStageComponent⟩
  | .updateComponent .. => ⟨_, answers_execUpdateComponent⟩
  | .commit .. => ⟨_, answers_execCommit⟩
  | .getLogEntries .. => ⟨_, answers_execGetLogEntries⟩
  | .stopover .. => ⟨_, answers_execStopover⟩
  | .readSnapshot .. => ⟨_, answers_execReadSnapshot⟩
  | .getNonce .. => ⟨_, answers_execGetNonce⟩
  | .ownerSet .. => ⟨_, answers_execOwnerSet⟩
  | .serviceClearLedger .. => ⟨_, answers_execServiceClearLedger⟩
  | .serviceClearOwner .. => ⟨_, answers_execServiceClearOwner⟩
  | .backgroundCommandDone => ⟨_, answers_execBackgroundCommandDone⟩
  | .flashWriteDone => ⟨_, answers_execFlashWriteDone⟩
  | .bootStageDone => ⟨_, answers_execBootStageDone⟩
  | .getVersion => ⟨_, answers_execGetVersion⟩
  | .getCapabilities => ⟨_, answers_execGetCapabilities⟩
  | .negotiateAlgorithms .. => ⟨_, answers_execNegotiateAlgorithms⟩
  | .getDigests => ⟨_, answers_execGetDigests⟩
  | .getCertificate .. => ⟨_, answers_execGetCertificate⟩
  | .challenge .. => ⟨_, answers_execChallenge⟩
  | .getMeasurements .. => ⟨_, answers_execGetMeasurements⟩
  | .spdmUnsupportedRequest .. => ⟨_, answers_execSpdmUnsupportedRequest⟩
  | .doeDiscovery .. => ⟨_, answers_execDoeDiscovery⟩
  | .cdatTableAccess => ⟨_, answers_execCdatTableAccess⟩
  | .capModeWrite .. => ⟨_, answers_execCapModeWrite⟩
  | .powerMeasure .. => ⟨_, answers_execPowerMeasure⟩
  | .clockWrite .. => ⟨_, answers_execClockWrite⟩
  | .clockChange => ⟨_, answers_execClockChange⟩
  | .hubThermalReport .. => ⟨_, answers_execHubThermalReport⟩
  | .auxSupplyApplied => ⟨_, answers_execAuxSupplyApplied⟩
  | .tileCalibrationDone .. => ⟨_, answers_execTileCalibrationDone⟩
  | .error .. => ⟨_, answers_execError⟩

/-- Settles O5: each command's meaning ends in a next state on every path. -/
theorem everyCommandAnswers : Obligations.EveryCommandAnswers := by
  unfold Obligations.EveryCommandAnswers
  intro c s
  obtain ⟨ps, t, ht, -⟩ := exec_answers c s
  exact ⟨t, ht⟩

theorem within_of_exec {c : Instr} {s t : State} (h : exec c s = .next t) : ∃ ps, Within ps s t := by
  obtain ⟨ps, u, hu, hw⟩ := exec_answers c s
  rw [h] at hu
  cases hu
  exact ⟨ps, hw⟩

/-- A step takes the front command off the queue and stays within some parts, none of them the queue. -/
theorem within_of_step {s t : State} (h : step s = .next t) : ∃ ps, Within ps { s with pending := s.pending.tail } t := by
  unfold step at h
  split at h
  · next hp =>
    cases h
    have hs : { s with pending := s.pending.tail } = s := by
      rw [hp, List.tail_nil, ← hp]
    rw [hs]
    exact ⟨_, within_tick⟩
  · next c rest hp =>
    rw [hp]
    exact within_of_exec h

/-- Settles O6, from what each command and the tick keep. -/
theorem stepKeepsCanonicalForm : Obligations.StepKeepsCanonicalForm := by
  unfold Obligations.StepKeepsCanonicalForm
  intro s t hs h
  obtain ⟨ps, hw⟩ := within_of_step h
  exact hw.canon { hs with }

/-- Settles O7, since no command and no tick changes the rest of the queue. -/
theorem stepTakesOneCommand : Obligations.StepTakesOneCommand := by
  unfold Obligations.StepTakesOneCommand
  intro s t h
  obtain ⟨ps, hw⟩ := within_of_step h
  exact hw.pending

/-- Settles O44, by one lemma for each command. -/
theorem powerTimeAndSwitchParts : Obligations.PowerTimeAndSwitchParts := by
  unfold Obligations.PowerTimeAndSwitchParts
  exact ⟨fun _ => answers_execWarmReset.ends, fun _ => answers_execPowerCycle.ends, fun _ => answers_execPowerOff.ends,
    fun _ => answers_execRailsDischarged.ends, fun _ => answers_execInputSwitchClose.ends, fun _ _ => answers_execInputLow.ends,
    fun _ _ => answers_execInputRecovered.ends, fun _ _ => answers_execUndervoltage.ends, fun _ _ => answers_execSurge.ends,
    fun _ _ => answers_execOvervoltage.ends, fun _ _ => answers_execReverse.ends, fun _ => answers_execOvercurrent.ends,
    fun _ => answers_execRetry.ends, fun _ _ => answers_execPowerStageFail.ends, fun _ => answers_execRailsStable.ends,
    fun _ => answers_execVacancyThreadDone.ends, fun _ _ => answers_execStackFillDone.ends, fun _ _ => answers_execFillLate.ends,
    fun _ => answers_execMusterMark.ends, fun _ _ _ => answers_execMusterCheck.ends, fun _ _ => answers_execIslandOutOfMuster.ends,
    fun _ _ => answers_execRemusterDone.ends, fun _ => answers_execBringupDeadline.ends, fun _ _ _ _ _ => answers_execSetCoord.ends,
    fun _ _ _ _ => answers_execSetRoot.ends, fun _ _ => answers_execReadReg.ends, fun _ _ _ _ => answers_execRecoverWrite.ends,
    fun _ _ => answers_execMctpUnknownCommand.ends, fun _ _ _ _ => answers_execRegisterWrite.ends, fun _ _ => answers_execSyncInterval.ends,
    fun _ _ _ _ _ => answers_execSync.ends, fun _ _ _ _ => answers_execSyncReply.ends, fun _ => answers_execRootAnnounceSend.ends,
    fun _ _ _ _ => answers_execRootAnnounce.ends, fun _ => answers_execRootWaitEnd.ends, fun _ => answers_execHoldLimitExpiry.ends,
    fun _ => answers_execForceStep.ends, fun _ _ _ => answers_execChoiceWindowWrite.ends, fun _ => answers_execChoiceWindowOpen.ends,
    fun _ _ _ _ _ => answers_execPtpMessage.ends, fun _ _ => answers_execCapModeWrite.ends, fun _ _ _ _ _ _ => answers_execPowerMeasure.ends,
    fun _ _ => answers_execClockWrite.ends, fun _ => answers_execClockChange.ends, fun _ _ _ _ _ => answers_execHubThermalReport.ends,
    fun _ => answers_execAuxSupplyApplied.ends, fun _ _ => answers_execTileCalibrationDone.ends, fun _ _ _ => answers_execTrunkIdent.ends,
    fun _ _ _ => answers_execFrameIngress.ends, fun _ _ _ => answers_execFrameTailReceived.ends, fun _ _ => answers_execEgressSelect.ends,
    fun _ _ => answers_execSpoil.ends, fun _ _ _ _ => answers_execBridgeFrame.ends, fun _ _ => answers_execRead.ends,
    fun _ _ => answers_execWrite.ends, fun _ _ => answers_execWritePosted.ends, fun _ _ => answers_execStreamCloseRelease.ends,
    fun _ _ => answers_execStreamHoldExpiry.ends, fun _ _ _ => answers_execSinkLimitExpiry.ends, fun _ _ => answers_execMcastHoldExpiry.ends,
    fun _ _ => answers_execCreditTopup.ends, fun _ => answers_execSacrificeStageUpdate.ends, fun _ _ _ => answers_execBufferSramUe.ends,
    fun _ _ => answers_execBankRebuildDone.ends, fun _ _ _ => answers_execRankEntryWrite.ends, fun _ _ _ => answers_execPartyEntryWrite.ends,
    fun _ _ _ => answers_execStreamEntryWrite.ends, fun _ _ _ => answers_execOwnerMinWrite.ends,
    fun _ _ => answers_execSacrificeThresholdWrite.ends, fun _ _ _ => answers_execTwoWordEntryWrite.ends, fun _ _ => answers_execSwTableRead.ends,
    fun _ _ => answers_execSwTableWrite.ends, fun _ _ => answers_execTlTableRead.ends, fun _ _ => answers_execStTableRead.ends,
    fun _ _ => answers_execTableAccessDone.ends, fun _ _ _ => answers_execCurfewSwitchArm.ends, fun _ _ => answers_execCurfewCancel.ends,
    fun _ _ => answers_execCurfewSwitchover.ends, fun _ _ => answers_execCurfewEntryAdvance.ends⟩

/-- Settles O45, by one lemma for each command. -/
theorem tallyStayAndCoreParts : Obligations.TallyStayAndCoreParts := by
  unfold Obligations.TallyStayAndCoreParts
  exact ⟨fun _ _ => answers_execFenceSeen.ends, fun _ _ => answers_execClaim.ends, fun _ _ => answers_execRelease.ends,
    fun _ _ => answers_execTallyUnlistedKind.ends, fun _ _ => answers_execOperand.ends, fun _ _ _ => answers_execTallyStep.ends,
    fun _ _ _ _ => answers_execResult.ends, fun _ _ => answers_execAck.ends, fun _ _ => answers_execCredit.ends,
    fun _ _ => answers_execResend.ends, fun _ _ => answers_execFail.ends, fun _ _ => answers_execDispatch.ends,
    fun _ _ _ _ => answers_execResultAckTimeout.ends, fun _ _ _ _ => answers_execContribResendTimeout.ends,
    fun _ _ _ _ _ => answers_execTallyCorruption.ends, fun _ _ _ => answers_execTallyPoolMinWrite.ends, fun _ _ => answers_execOpen.ends,
    fun _ _ => answers_execAppend.ends, fun _ _ => answers_execAppendResume.ends, fun _ _ => answers_execAttend.ends,
    fun _ _ _ _ => answers_execAssembleWaitExpiry.ends, fun _ _ => answers_execAttendPlace.ends, fun _ _ => answers_execFork.ends,
    fun _ _ => answers_execPark.ends, fun _ _ => answers_execParkToHost.ends, fun _ _ => answers_execParkToPeer.ends,
    fun _ _ => answers_execUnpark.ends, fun _ _ => answers_execClose.ends, fun _ _ => answers_execCloseComplete.ends,
    fun _ _ => answers_execRoomUnlistedKind.ends, fun _ _ => answers_execMirrorOpen.ends, fun _ _ => answers_execMirrorAppend.ends,
    fun _ _ => answers_execMirrorFork.ends, fun _ _ => answers_execMirrorClose.ends, fun _ _ => answers_execMirrorRoomcopy.ends,
    fun _ _ => answers_execMirrorAck.ends, fun _ _ => answers_execMirrorWaitExpiry.ends, fun _ _ => answers_execLodgeBook.ends,
    fun _ _ => answers_execLodgeBooked.ends, fun _ _ => answers_execLodge.ends, fun _ _ => answers_execLodgeAck.ends,
    fun _ _ => answers_execRecallReturn.ends, fun _ _ => answers_execRecallDiscard.ends, fun _ _ => answers_execRecallPage.ends,
    fun _ _ => answers_execRecalled.ends, fun _ => answers_execEviction.ends, fun _ _ => answers_execTakeoverGo.ends,
    fun _ => answers_execTakeoverDone.ends, fun _ _ => answers_execRemirror.ends, fun _ _ => answers_execEvictThresholdWrite.ends,
    fun _ _ _ => answers_execAreaWrite.ends, fun _ _ _ _ => answers_execBindWrite.ends, fun _ _ => answers_execInbox.ends,
    fun _ _ _ => answers_execCoreEnableWrite.ends, fun _ _ _ => answers_execQuarantineClear.ends, fun _ _ => answers_execDupMismatch.ends,
    fun _ _ _ => answers_execDupThirdRunDone.ends, fun _ _ _ => answers_execResidueFail.ends, fun _ _ => answers_execLaunchFiring.ends,
    fun _ _ => answers_execContFiring.ends, fun _ _ => answers_execWakeFiring.ends, fun _ _ => answers_execFinalRelease.ends,
    fun _ _ => answers_execDispatchResume.ends, fun _ _ _ => answers_execInstructionComplete.ends, fun _ _ => answers_execEndBundle.ends,
    fun _ _ => answers_execSetx.ends, fun _ _ => answers_execMadx.ends, fun _ _ => answers_execBell.ends,
    fun _ _ => answers_execBellTickReached.ends, fun _ _ => answers_execFence.ends, fun _ _ => answers_execFenceDrained.ends,
    fun _ _ => answers_execRoomld.ends, fun _ _ => answers_execLcopy.ends, fun _ _ => answers_execMma.ends, fun _ _ => answers_execVadd.ends,
    fun _ _ => answers_execVmul.ends, fun _ _ => answers_execVfma.ends, fun _ _ => answers_execVmax.ends, fun _ _ => answers_execVmin.ends,
    fun _ _ => answers_execVsel.ends, fun _ _ => answers_execVexp.ends, fun _ _ => answers_execVrcp.ends, fun _ _ => answers_execVcvt.ends,
    fun _ _ => answers_execVred.ends, fun _ _ => answers_execVmask.ends, fun _ _ => answers_execHistout.ends, fun _ _ => answers_execXpose.ends,
    fun _ _ => answers_execHandoff.ends, fun _ _ => answers_execOutbox.ends, fun _ _ => answers_execOperandInstruction.ends,
    fun _ _ => answers_execRecv.ends, fun _ _ _ => answers_execProgramFault.ends, fun _ => answers_execVerify.ends,
    fun _ => answers_execVerifyDone.ends, fun _ _ => answers_execActivationArm.ends, fun _ => answers_execActivationCancel.ends,
    fun _ => answers_execImageActivation.ends⟩

/-- Settles O46, by one lemma for each command. -/
theorem poolPortAndHostParts : Obligations.PoolPortAndHostParts := by
  unfold Obligations.PoolPortAndHostParts
  exact ⟨fun _ _ _ => answers_execPairRead.ends, fun _ _ _ => answers_execPairWrite.ends, fun _ _ _ => answers_execMergeHoldExpiry.ends,
    fun _ _ => answers_execInterfaceCrcFail.ends, fun _ _ _ => answers_execThermalReport.ends, fun _ _ => answers_execThermThresholdWrite.ends,
    fun _ _ => answers_execScrubGo.ends, fun _ => answers_execScrubStop.ends, fun _ _ _ _ => answers_execScrubDone.ends,
    fun _ _ => answers_execRepairRow.ends, fun _ _ => answers_execRetireRoom.ends, fun _ _ => answers_execRetireBank.ends,
    fun _ _ => answers_execReleaseRoom.ends, fun _ _ _ => answers_execRepairDone.ends, fun _ _ => answers_execStackDown.ends,
    fun _ _ _ => answers_execPortStageDone.ends, fun _ _ _ => answers_execPortStageTimeout.ends, fun _ _ _ => answers_execDetectRetry.ends,
    fun _ _ _ _ _ => answers_execStatus.ends, fun _ _ _ => answers_execCodewordUncorrectable.ends, fun _ _ _ _ => answers_execReplayReq.ends,
    fun _ _ _ => answers_execReplayStart.ends, fun _ _ => answers_execReplayReqRepeat.ends, fun _ _ => answers_execAckWaitExpiry.ends,
    fun _ _ _ => answers_execSerWindowEnd.ends, fun _ _ _ => answers_execLaneSignalLoss.ends, fun _ _ _ => answers_execLaneForm.ends,
    fun _ _ _ => answers_execLaneNarrow.ends, fun _ _ => answers_execNarrowDone.ends, fun _ _ => answers_execTileFail.ends,
    fun _ _ _ _ => answers_execLanePower.ends, fun _ _ => answers_execLaneWake.ends, fun _ _ => answers_execLaneDown.ends,
    fun _ _ => answers_execQuietRequest.ends, fun _ _ => answers_execSleepRequest.ends, fun _ _ => answers_execActiveRequest.ends,
    fun _ _ => answers_execPowerStateEntry.ends, fun _ _ => answers_execWakeTrigger.ends, fun _ _ _ => answers_execWakeTickWrite.ends,
    fun _ _ => answers_execWakeTickReached.ends, fun _ _ _ => answers_execWakeDone.ends, fun _ _ => answers_execShutDown.ends,
    fun _ _ => answers_execShutdownDone.ends, fun _ _ => answers_execEnable.ends, fun _ _ => answers_execRetrain.ends,
    fun _ _ _ _ => answers_execFaultMessage.ends, fun _ => answers_execRingEntry.ends, fun _ _ => answers_execInject.ends,
    fun _ _ => answers_execProofGo.ends, fun _ _ => answers_execProofAutoStart.ends, fun _ _ _ => answers_execProofSuiteDone.ends,
    fun _ _ _ _ => answers_execHealthEval.ends, fun _ => answers_execRiskHistoryAppend.ends, fun _ => answers_execStopoverGo.ends,
    fun _ _ => answers_execStopTickArm.ends, fun _ => answers_execStopoverCancel.ends, fun _ => answers_execStopTickReached.ends,
    fun _ _ => answers_execQuiesceDone.ends, fun _ => answers_execCaptureDone.ends, fun _ => answers_execStopoverTimeout.ends,
    fun _ _ => answers_execSnapPut.ends, fun _ _ => answers_execSnapDone.ends, fun _ _ => answers_execSnapConfirm.ends,
    fun _ _ => answers_execSnapGet.ends, fun _ _ => answers_execSnapData.ends, fun _ _ => answers_execSnapAck.ends,
    fun _ _ => answers_execRestoreGo.ends, fun _ => answers_execRestoreDone.ends, fun _ _ _ => answers_execCxlLinkUp.ends,
    fun _ => answers_execCxlLinkDown.ends, fun _ _ => answers_execMemrd.ends, fun _ _ _ _ => answers_execMemwr.ends,
    fun _ _ _ => answers_execMemwrptl.ends, fun _ _ _ => answers_execWindowWrite.ends, fun _ _ _ => answers_execQueueConfigWrite.ends,
    fun _ _ => answers_execMsixHoldoffExpiry.ends, fun _ => answers_execFunctionLevelReset.ends, fun _ _ => answers_execGetEventRecords.ends,
    fun _ _ => answers_execClearEventRecords.ends, fun _ _ => answers_execGetSupportedLogs.ends, fun _ _ => answers_execGetLog.ends,
    fun _ _ => answers_execIdentifyMemoryDevice.ends, fun _ _ => answers_execGetPoisonList.ends, fun _ _ => answers_execMailboxUnsupported.ends,
    fun _ _ => answers_execReset.ends, fun _ _ => answers_execStageItinerary.ends, fun _ _ => answers_execStageComponent.ends,
    fun _ _ => answers_execUpdateComponent.ends, fun _ _ => answers_execCommit.ends, fun _ _ => answers_execGetLogEntries.ends,
    fun _ _ => answers_execStopover.ends, fun _ _ => answers_execReadSnapshot.ends, fun _ _ => answers_execGetNonce.ends,
    fun _ _ => answers_execOwnerSet.ends, fun _ _ => answers_execServiceClearLedger.ends, fun _ _ => answers_execServiceClearOwner.ends,
    fun _ => answers_execBackgroundCommandDone.ends, fun _ => answers_execFlashWriteDone.ends, fun _ => answers_execBootStageDone.ends,
    fun _ => answers_execGetVersion.ends, fun _ => answers_execGetCapabilities.ends, fun _ _ _ => answers_execNegotiateAlgorithms.ends,
    fun _ => answers_execGetDigests.ends, fun _ _ _ _ => answers_execGetCertificate.ends, fun _ _ _ => answers_execChallenge.ends,
    fun _ _ _ => answers_execGetMeasurements.ends, fun _ _ => answers_execSpdmUnsupportedRequest.ends, fun _ _ => answers_execDoeDiscovery.ends,
    fun _ => answers_execCdatTableAccess.ends, fun _ _ => answers_execError.ends⟩

end Sys2Proof.Machine
end

section
/-! PROOF. O1 to O4: what a step is, and the state after reset. -/

-- Proofs are checked one at a time: side by side they would only wait for one another.
set_option Elab.async false

namespace Sys2Proof.Machine
open Sys2Proof

theorem step_of_cons {s : State} {c : Instr} {rest : List Instr} (h : s.pending = c :: rest) : step s = exec c { s with pending := rest } := by
  rw [step, h]

theorem step_of_nil {s : State} (h : s.pending = []) : step s = .next s.tick := by
  rw [step, h]

/-- Settles O1. -/
theorem stepRunsTheFront : Obligations.StepRunsTheFront := by
  unfold Obligations.StepRunsTheFront
  exact fun _ _ _ => step_of_cons

/-! ### A bell tick -/

theorem State.countTick_eq (s : State) : s.countTick =
    { s with bell := { s.bell with free := s.bell.free + 1, now := if s.bellSet then (s.bell.now + 1) % 2 ^ 64 else s.bell.now } } :=
  rfl

theorem State.dueReset_of_early {s : State} (h : ∀ t ∈ s.power.resetDue, s.free < t) : s.dueReset = s := by
  unfold State.dueReset
  cases hdue : s.power.resetDue with
  | none => rfl
  | some t => exact if_pos (h t hdue)

theorem State.dueReset_of_due {s : State} {t : Nat} (hdue : s.power.resetDue = some t) (ht : t ≤ s.free) : s.dueReset =
    if s.host.writing.isEmpty then s.warm else s.modPower (fun w => { w with resetDue := none, resetOwed := true }) := by
  simp only [State.dueReset, hdue]
  exact if_neg (by omega)

/-! ### A warm reset (R12, R30, R443) -/

/-- What every part but PHASE holds after a warm reset. -/
theorem State.warm_parts (s : State) : s.warm.host.stage = some 0 ∧ s.warm.power.resetDue = none ∧ s.warm.bell = bellReset ∧
    s.warm.sw = switchReset ∧ s.warm.lanes = [] ∧ s.warm.tally = tallyReset ∧ s.warm.mem = memReset ∧ s.warm.stays = staysReset ∧
    s.warm.clusters = clustersReset ∧ s.warm.health = healthReset ∧ s.warm.host.flash = s.host.flash ∧
    s.warm.power.switchClosed = s.power.switchClosed := by
  simp [State.warm, State.modPower]

/-- Settles O2: the tick, and the reset that comes due with it. -/
theorem emptyQueueTicks : Obligations.EmptyQueueTicks := by
  unfold Obligations.EmptyQueueTicks
  refine ⟨fun s hp hearly => ?_, fun s t hp hdue ht hwriting => ?_, fun s t hp hdue ht hwriting => ?_⟩ <;> rw [step_of_nil hp]
  · rw [State.tick, State.dueReset_of_early (s := s.countTick) hearly, State.countTick_eq]
  · have htick : s.tick = s.countTick.warm := by
      rw [State.tick, State.dueReset_of_due (s := s.countTick) hdue ht, if_pos (by simpa [State.countTick] using hwriting)]
    obtain ⟨hstage, hdue', hbell, hsw, hlanes, -, hmem, -, hclusters, -, hflash, -⟩ := s.countTick.warm_parts
    exact ⟨_, rfl, by rw [htick, phase_warm]; rfl, by rw [htick, hstage], by rw [htick, hdue'], by rw [htick, hbell], by rw [htick, hsw],
      by rw [htick, hlanes], by rw [htick, hmem], by rw [htick, hclusters], by rw [htick, hflash]; rfl⟩
  · have htick : s.tick = s.countTick.modPower (fun w => { w with resetDue := none, resetOwed := true }) := by
      rw [State.tick, State.dueReset_of_due (s := s.countTick) hdue ht, if_neg (by simpa [State.countTick] using hwriting)]
    exact ⟨_, rfl, by rw [htick]; rfl, by rw [htick]; rfl, by rw [htick]; rfl⟩

/-! ### The state after reset -/

/-- Settles O3. -/
theorem resetIsCanonical : Obligations.ResetIsCanonical := by
  unfold Obligations.ResetIsCanonical
  exact ⟨canon_reset, rfl⟩

/-- Settles O4: the fields named are read from the register map's reset values. -/
theorem resetValues : Obligations.ResetValues := by
  unfold Obligations.ResetValues
  decide +kernel

end Sys2Proof.Machine
end

section
/-! PROOF. O58 and O59 fail. Both quantify over every state, and in each a number that some part of the state holds, and that no operation bounds
when it uses it, makes an array's register fall on a register of another block: a power stage of the wear record on PH_STOP_STATUS, a tally's
party on BT_STATUS. -/

-- Proofs are checked one at a time: side by side they would only wait for one another.
set_option Elab.async false

namespace Sys2Proof.Machine
open Sys2Proof

/-- The state that a step leads to. -/
def stepped (s : State) : State :=
  match step s with
  | .next t => t
  | _ => s

theorem step_eq_stepped {s : State} {c : Instr} {rest : List Instr} (h : s.pending = c :: rest) : step s = .next (stepped s) := by
  obtain ⟨t, ht⟩ := everyCommandAnswers c { s with pending := rest }
  rw [← step_of_cons h] at ht
  rw [stepped, ht]

/-! ### O58: the wear record of stage 0x10043 -/

/-- PHASE 0x7 without the auxiliary supply, which is applied; flash holds wear of a stage whose register is PH_STOP_STATUS. -/
def strayWear : State :=
  { State.reset with
    regs := [(DV_STATE, 7)]
    host := { hostReset with flash := { flashReset with wear := [(0x10043, 0, 2 ^ 29)] } }
    pending := [.auxSupplyApplied] }

theorem PH_STAGE_stray : PH_STAGE 0x10043 = PH_STOP_STATUS := rfl

theorem strayWear_starts : strayWear.phase = 7 ∧ strayWear.fld PH_STOP_STATUS_STATE < 2 := by decide +kernel

theorem strayWear_ends : (stepped strayWear).fld PH_STOP_STATUS_STATE = 2 := by decide +kernel

/-- Refutes O58: AUX_SUPPLY_APPLIED shows the wear that flash holds (R471), and a record of a stage that does not exist sets
PH_STOP_STATUS.STATE. -/
theorem not_onlyPowerCycleLeavesFatalPhase : ¬ Obligations.OnlyPowerCycleLeavesFatalPhase := by
  unfold Obligations.OnlyPowerCycleLeavesFatalPhase
  intro h
  obtain ⟨hphase, hstop⟩ := strayWear_starts
  obtain ⟨-, hidle⟩ | ⟨rest, hcycle | hfail⟩ := h strayWear (stepped strayWear) hphase hstop (step_eq_stepped rfl)
  · rw [strayWear_ends] at hidle
    exact absurd hidle (by decide)
  · cases hcycle
  · cases hfail

/-! ### O59: a tally of party 0x27EE01 -/

/-- A tally in its only round, whose party's register in the pool is BT_STATUS. -/
def strayTally : TCtx := { (default : TCtx) with party := 0x27EE01, frames := 26, root := true, rounds := 1, chunks := 1 }

/-- An announce of time 0 from a neighbour that is not LOCKED. -/
def unlockedAnnounce : Frame := { (default : Frame) with payload := [3, 0, 0, 0] ++ zeroBytes 28 }

/-- Bell time 5,000 under a LOCKED parent, whose announce is the next command. The loss of lock is made FATAL_RESET (R397), so that every tally
fails: the stray one's frames are taken off BT_STATUS, which clears SET and sets ROOT. -/
def strayParty : State :=
  { State.reset with
    regs := [(DV_STATE, 5), (WATCH_SEV 0x300, 12), (BT_STATUS, 41)]
    bell := { bellReset with
      now := 5000, parent := some 0, rootWaitAt := some 0, rootFrom := some 0, dirs := [{ (default : DirInfo) with exchAt := some 0 }] }
    tally := { tallyReset with ctxs := [strayTally] }
    pending := [.rootAnnounce 0 unlockedAnnounce 0] }

theorem TL_POOL_STAT_stray : TL_POOL_STAT strayTally.party = BT_STATUS := rfl

theorem strayParty_starts : strayParty.bellSet = true ∧ strayParty.now = 5000 := by decide +kernel

theorem strayParty_ends : (stepped strayParty).bellSet = true ∧ (stepped strayParty).now = 32 := by decide +kernel

/-- Refutes O59: with SET cleared and ROOT set on the way, the same command sets bell time anew from the announce (R45), to 32. -/
theorem not_bellTimeNeverDecreases : ¬ Obligations.BellTimeNeverDecreases := by
  unfold Obligations.BellTimeNeverDecreases
  intro h
  obtain ⟨hset, hnow⟩ := strayParty_starts
  obtain ⟨hset', hnow'⟩ := strayParty_ends
  have hparent : ∀ d ∈ strayParty.bell.parent, (strayParty.now : Int) + (strayParty.dir d).offset / 65536 < 2 ^ 64 := by
    decide +kernel
  have hend := h strayParty (stepped strayParty) hset (by rw [hnow]; decide) hparent (step_eq_stepped rfl)
  rw [hset', hnow, hnow'] at hend
  exact absurd hend (by decide)

end Sys2Proof.Machine
end

section
/-! PROOF. O8, O9, O10, O11, O13, O15, O16, O20, O21 and O25 fail, each at one clause. Every clause quantifies over every state that meets its
hypotheses, so a state that no run reaches counts too. O10 and O25 lack a condition that the command has; at the others the fault that the clause
promises stops the module, for its source's class is set to a reset in WATCH_SEV (R397), and what stops with it undoes what the clause states. -/

-- Proofs are checked one at a time: side by side they would only wait for one another.
set_option Elab.async false

namespace Sys2Proof.Machine
open Sys2Proof

/-- The state that a command leads to. -/
def after (c : Instr) (s : State) : State :=
  match exec c s with
  | .next t => t
  | _ => s

theorem Completes.after {c : Instr} {s : State} {P : State → Prop} (h : Completes c s P) : P (after c s) := by
  obtain ⟨t, ht, hP⟩ := h
  rw [Machine.after, ht]
  exact hP

/-- A tally of no members in its only round, with `frames` frames of the party whose pool register would lie at `off`. Ending it takes the frames off
bits 12:0 of that register, and one context off bits 28:16. -/
def tallyOver (off frames : Nat) : TCtx :=
  { (default : TCtx) with party := (off - TL_POOL_STAT 0) / 8, frames := frames, root := true, rounds := 1, chunks := 1 }

/-- A module whose faults of source `source` are FATAL_RESET (R397, R398), with a tally over the register `off`. -/
def resetting (source off frames : Nat) (regs : List (Nat × Word)) : State :=
  { State.reset with
    regs := (WATCH_SEV source, 12) :: regs
    tally := { tallyReset with ctxs := [tallyOver off frames] } }

/-! ### O8 and O11: the loss of stack 0 stops the module, and the tally over MEM_STATUS clears the stack's bit -/

/-- A module in service with its switch closed, whose stack faults stop it. -/
def stackFaultResets : State :=
  { resetting 0x100 MEM_STATUS (2 ^ 8) [(DV_STATE, 5)] with power := { powerReset with auxOn := true, switchClosed := true } }

theorem stackFaultResets_starts : stackFaultResets.stackLost 0 = false := by decide +kernel

theorem stackFaultResets_powerStage : (after (.powerStageFail 6) stackFaultResets).stackLost 0 = false := by decide +kernel

theorem stackFaultResets_stackDown : (after (.stackDown 0) stackFaultResets).stackLost 0 = false := by decide +kernel

/-- Refutes O8: the failure of power stage 6 takes stack 0 down, but its fault stops the module, and with it the tally over MEM_STATUS. -/
theorem not_powerInputCompletes : ¬ Obligations.PowerInputCompletes := by
  unfold Obligations.PowerInputCompletes
  rintro ⟨-, -, -, -, -, -, -, -, -, -, -, -, -, -, -, hstack, -⟩
  have hlost := (hstack stackFaultResets 6 0 rfl rfl (by decide) (.inl rfl)).after
  rw [stackFaultResets_powerStage] at hlost
  cases hlost

/-- Refutes O11: so it is when STACK_DOWN takes stack 0 down. -/
theorem not_memoryCompletes : ¬ Obligations.MemoryCompletes := by
  unfold Obligations.MemoryCompletes
  rintro ⟨-, -, -, -, -, -, -, hdown, -⟩
  obtain ⟨hlost, -⟩ := (hdown stackFaultResets 0 (by decide) stackFaultResets_starts).after
  rw [stackFaultResets_stackDown] at hlost
  cases hlost

/-! ### O9: a late fill, likewise -/

/-- A module in PHASE 0x2 for 60 ms, stack 0 not filled, whose stack faults stop it. -/
def lateFillResets : State :=
  { resetting 0x100 MEM_STATUS (2 ^ 8) [(DV_STATE, 2)] with bell := { bellReset with free := 60000 * ticksPerUs } }

theorem lateFillResets_starts : lateFillResets.phase = 2 ∧ lateFillResets.regBit DV_STATE 32 = false ∧
    lateFillResets.regBit MEM_STATUS 16 = false := by decide +kernel

theorem lateFillResets_ends : (after (.fillLate 0) lateFillResets).regBit MEM_STATUS 16 = false := by decide +kernel

/-- Refutes O9: FILL_LATE sets the stack's bit of MEM_STATUS, and the tally over it, stopped by the fault, clears it. -/
theorem not_startUpCompletes : ¬ Obligations.StartUpCompletes := by
  unfold Obligations.StartUpCompletes
  rintro ⟨-, -, -, -, hlate, -⟩
  obtain ⟨hphase, hempty, hclear⟩ := lateFillResets_starts
  obtain ⟨hset, -⟩ := (hlate lateFillResets 0 hphase (by decide) hempty hclear (by decide)).after
  rw [Nat.add_zero, lateFillResets_ends] at hset
  cases hset

/-! ### O10: the steward is not answered before boot stage 0 has passed -/

/-- The auxiliary supply has just been applied: boot stage 0 runs. -/
def bootStageZero : State :=
  { State.reset with power := { powerReset with auxOn := true }, host := { hostReset with stage := some 0 } }

theorem bootStageZero_ends : (after (.setCoord 0 0 0 0) bootStageZero).fld DV_COORD_VALID = 0 := by decide +kernel

/-- Refutes O10: with the auxiliary supply present SET_COORD has no effect while boot stage 0 runs (log entry 157), a condition that the clause
does not name. -/
theorem not_stewardAndLimitsComplete : ¬ Obligations.StewardAndLimitsComplete := by
  unfold Obligations.StewardAndLimitsComplete
  rintro ⟨hcoord, -⟩
  obtain ⟨hvalid, -⟩ := (hcoord bootStageZero 0 0 0 0 rfl (by decide) (by decide) (by decide) (by decide) (by decide) (by decide) (by decide)
    (by decide)).after
  rw [bootStageZero_ends] at hvalid
  cases hvalid

/-! ### O13: the loss of lock stops the module, and the tally over BT_STATUS changes LOCK -/

/-- A LOCKED module whose last three exchanges had no answer, nor has the present one, and whose faults of source 0x300 stop it. -/
def lockLossResets : State :=
  { resetting 0x300 BT_STATUS 2 [(DV_STATE, 5), (DV_COORD, 2 ^ 31), (BT_STATUS, 9)] with
    bell := { bellReset with
      missed := 3, answered := false, parent := some 0, dirs := [{ (default : DirInfo) with exchAt := some 0 }] } }

theorem lockLossResets_starts : lockLossResets.phase = 5 ∧ lockLossResets.fld DV_COORD_VALID = 1 ∧ lockLossResets.isRoot = false ∧
    lockLossResets.bellSet = true ∧ lockLossResets.fld BT_STATUS_LOCK = 1 := by decide +kernel

theorem lockLossResets_ends : (after (.syncInterval 0) lockLossResets).fld BT_STATUS_LOCK = 0 := by decide +kernel

/-- Refutes O13: the fourth exchange without an answer sets LOCK to HOLDOVER, whose fault stops the tally over BT_STATUS: LOCK reads 0. -/
theorem not_bellTimeCompletes : ¬ Obligations.BellTimeCompletes := by
  unfold Obligations.BellTimeCompletes
  rintro ⟨hsync, -⟩
  obtain ⟨hphase, hvalid, hroot, hset, hlocked⟩ := lockLossResets_starts
  obtain ⟨-, -, -, -, hlock⟩ := (hsync lockLossResets 0 0 (by rw [hphase]; decide) hvalid hroot rfl).after
  rw [lockLossResets_ends, if_pos ⟨hset, hlocked, rfl, by decide⟩] at hlock
  cases hlock

/-! ### O15: a tile's failure stops the module, and the tally over LN_STATUS clears the tile's bit -/

/-- A module in service whose tile faults stop it. -/
def tileFaultResets : State := resetting 0x180 LN_STATUS 1 [(DV_STATE, 5)]

theorem tileFaultResets_ends : (after (.tileFail 0) tileFaultResets).regBit LN_STATUS 0 = false := by decide +kernel

/-- Refutes O15 at TILE_FAIL. -/
theorem not_bringUpCompletes : ¬ Obligations.BringUpCompletes := by
  unfold Obligations.BringUpCompletes
  rintro ⟨-, -, -, -, -, -, -, -, -, -, -, -, htile, -⟩
  obtain ⟨hfailed, -⟩ := (htile tileFaultResets 0 (by decide)).after
  rw [tileFaultResets_ends] at hfailed
  cases hfailed

/-! ### O16: a closing packet of a stream whose entry would lie on a port's register -/

/-- Port 0 is up and receives a frame, held as the last of the stream whose entry would lie at the port's count of uncorrectable codewords, which
has its bit 61 set. -/
def strayStream : State :=
  { State.reset with
    regs := [(LN_PORT_W0 0, 2 ^ 52), (LN_PORT_W2 0, 2 ^ 61), (LN_PORT_W6 0, 2 ^ 61)]
    sw := { switchReset with
      nextId := 1, rx := [(0, 0)], closers := [(0, 0, 0)], copies := [{ (default : Copy) with out := 1, held := true }]
      descs := [{ (default : Desc) with frame := { (default : Frame) with stream := (LN_PORT_W6 0 - SW_STREAM 0) / 8 } }] } }

theorem strayStream_starts : strayStream.portUp 0 = true ∧ strayStream.portKind 0 = 1 ∧ strayStream.fld LN_CTRL_RETRY_MAX = 8 ∧
    strayStream.reg (LN_PORT_W6 0) = 0x2000000000000000 := by decide +kernel

theorem strayStream_ends : (after (.codewordUncorrectable 0 true) strayStream).reg (LN_PORT_W6 0) = 1 := by decide +kernel

/-- Refutes O16: giving the frame up shows that its stream holds no packet back, in bit 61 of the count. -/
theorem not_linkCompletes : ¬ Obligations.LinkCompletes := by
  unfold Obligations.LinkCompletes
  rintro ⟨-, -, -, hlost, -⟩
  obtain ⟨hup, hkind, hmax, hreg⟩ := strayStream_starts
  obtain ⟨hcount, -⟩ := (hlost strayStream 0 (by decide) hup (by rw [hkind]; decide) rfl rfl (by rw [hmax]; decide)).after
  rw [strayStream_ends, hreg] at hcount
  exact absurd hcount (by decide)

/-! ### O20: a broken stream stops the module, and the stream's other closing packet goes with it -/

/-- Two closing packets of stream 0 are held beyond STREAM_HOLD, the second at port 0, which is up; a broken stream freezes the module. -/
def brokenStreamFreezes : State :=
  { State.reset with
    regs := [(DV_STATE, 5), (WATCH_SEV 0x040, 13), (LN_PORT_W2 0, 2 ^ 61)]
    bell := { bellReset with free := 10000000000 }
    sw := { switchReset with
      nextId := 2, closers := [(0, 0, 0), (0, 1, 0)], descs := [default, { (default : Desc) with id := 1 }]
      copies := [{ (default : Copy) with out := 1 }, { (default : Copy) with desc := 1, held := true }] } }

theorem brokenStreamFreezes_starts : brokenStreamFreezes.closer 0
    (fun _ at_ => decide (at_ + ticksPerUs * brokenStreamFreezes.fld SW_ROUTE_CTRL_STREAM_HOLD ≤ brokenStreamFreezes.free)) = some default := by
  decide +kernel

theorem brokenStreamFreezes_ends : (after (.streamHoldExpiry 0) brokenStreamFreezes).fld (SW_STREAM_HELD 0) = 0 := by decide +kernel

/-- Refutes O20: the clause keeps HELD for the second packet, which the freeze has dropped (R398). -/
theorem not_framesComplete : ¬ Obligations.FramesComplete := by
  unfold Obligations.FramesComplete
  rintro ⟨-, -, -, -, -, -, -, hexpiry⟩
  obtain ⟨-, -, -, hheld, -⟩ := (hexpiry brokenStreamFreezes 0 default (by decide) rfl brokenStreamFreezes_starts (by decide) (by decide)
    (by decide)).after
  rw [brokenStreamFreezes_ends] at hheld
  exact absurd hheld (by decide)

/-! ### O21: a lost frame of an agent's queue stops the module, and the FAIL of a tally joins the queue -/

/-- The agent's frame that is lost. -/
def lostItem : AgentItem := default

/-- A tally whose parent is this module's own tally agent. -/
def ownChild : TCtx := { (default : TCtx) with rounds := 1, chunks := 1 }

/-- A module in service whose faults of the packet buffer stop it. -/
def bufferFaultResets : State :=
  { State.reset with
    regs := [(DV_STATE, 5), (WATCH_SEV 0x041, 12)]
    sw := { switchReset with threaded := true, nextId := 1, agentQ := [lostItem] }
    tally := { tallyReset with ctxs := [ownChild] } }

theorem bufferFaultResets_ends : (after (.bufferSramUe (.frameBytes 0) 0) bufferFaultResets).sw.agentQ ≠ [] := by decide +kernel

/-- Refutes O21: the tallies that stop send FAIL to their parents, here to the tally agent, whose queue is then not what the lost frame left. -/
theorem not_switchCareCompletes : ¬ Obligations.SwitchCareCompletes := by
  unfold Obligations.SwitchCareCompletes
  rintro ⟨-, -, -, -, -, -, hitem, -⟩
  obtain ⟨hqueue, -⟩ := (hitem bufferFaultResets lostItem 0 (by decide) rfl (fun _ hc => by cases hc)).after
  exact bufferFaultResets_ends (hqueue.trans (by decide))

/-! ### O25: an OPEN stays in its queue while its engine holds 256 requests -/

/-- The frame of an OPEN, from port 0. -/
def plainOpen : Frame := default

/-- The room service is off, and engine 0 holds 256 requests. -/
def fullEngine : State :=
  { State.reset with
    regs := [(LN_PORT_W0 0, 2 ^ 52), (LN_PORT_W2 0, 2 ^ 61)]
    sw := { switchReset with agentQ := [{ (default : AgentItem) with inPort := 64, frame := plainOpen }] }
    stays := { staysReset with waiting := List.replicate 256 ⟨0, .nobody, plainOpen, none, none, none, false⟩ } }

theorem fullEngine_starts : Answerable fullEngine plainOpen ∧ fullEngine.phase = 0 ∧ fullEngine.flag ST_CTRL_ENABLE = false := by decide +kernel

theorem fullEngine_calm : Calm fullEngine := ⟨rfl, fun _ hc => by cases hc⟩

theorem fullEngine_ends : fullEngine.reg (ST_REFUSED 4) = 0 ∧ (after (.open plainOpen) fullEngine).reg (ST_REFUSED 4) = 0 := by decide +kernel

/-- Refutes O25: the clause that refuses an OPEN of a closed service does not ask that its engine has room (R233). -/
theorem not_staysComplete : ¬ Obligations.StaysComplete := by
  unfold Obligations.StaysComplete
  rintro ⟨-, hclosed, -⟩
  obtain ⟨hanswer, hphase, hoff⟩ := fullEngine_starts
  obtain ⟨hbefore, hafter⟩ := fullEngine_ends
  obtain ⟨-, hcount, -⟩ := (hclosed fullEngine plainOpen fullEngine_calm hanswer (by rw [hphase]; decide) hoff).after
  rw [hbefore, hafter] at hcount
  exact absurd hcount (by decide)

end Sys2Proof.Machine
end

section
/-! PROOF. O37 and O41 fail, each at a clause that promises a frame but does not ask that no copy in the switch is bound for an agent. A copy of the
number that the next frame's descriptor gets, bound for an agent, hands that frame to the agent at once, so it stands neither in the switch nor at the
agent that sent it. No run makes such a copy: the clauses quantify over every state that meets their hypotheses. -/

-- Proofs are checked one at a time: side by side they would only wait for one another.
set_option Elab.async false

namespace Sys2Proof.Machine
open Sys2Proof

/-- A module in service with one trunk, to the module at 1, which is its stopover partner; a copy for the innkeeper names the descriptor that comes
next. -/
def strayCopy : State :=
  { State.reset with
    regs := [(DV_STATE, 5), (DV_COORD, 2 ^ 11), (LN_PORT_W0 64, 2 ^ 53), (LN_PORT_W2 64, 2 ^ 61), (PH_STOP_CFG, 0x801), (MB_LINK_STATUS, 1)]
    sw := { switchReset with threaded := true, nextId := 1, copies := [{ (default : Copy) with desc := 1, vc := 4, out := 257 }] } }

theorem strayCopy_routes : RouteTo strayCopy 1 :=
  ⟨by decide +kernel, by decide +kernel, by decide +kernel, 0, by decide +kernel, by decide +kernel⟩

theorem strayCopy_restores : strayCopy.flag PH_RESTORE_STATUS_BUSY = false ∧ strayCopy.phase = 5 ∧ strayCopy.flag ST_CTRL_ENABLE = false ∧
    strayCopy.fld ST_USE_STAYS_USED = 0 ∧ strayCopy.stackLost 0 = false := by decide +kernel

theorem strayCopy_hasPartner : strayCopy.linkUp = true ∧ strayCopy.fld PH_STOP_STATUS_STATE = 0 ∧ strayCopy.flag PH_STOP_CFG_PARTNER_VALID = true ∧
    strayCopy.fld PH_STOP_CFG_PARTNER = 1 := by decide +kernel

/-- No frame stands in the switch, and none waits at an agent. -/
abbrev NoFrames (s : State) : Prop := s.sw.descs.map (·.frame) ++ s.sw.agentWait.map (·.2.1) = []

theorem not_sent_of_noFrames {s : State} {P : Frame → Bool} (h : NoFrames s) : ¬ Sent s P := by
  rintro ⟨f, hf, -⟩
  rw [h] at hf
  cases hf

theorem strayCopy_restoreGo : NoFrames (after (.restoreGo (2 ^ 63 + 1)) strayCopy) := by decide +kernel

/-- Refutes O37: RESTORE_GO asks the module at 1 for the copy's header, and the innkeeper's stray copy takes the SNAP_GET. -/
theorem not_stopoverCompletes : ¬ Obligations.StopoverCompletes := by
  unfold Obligations.StopoverCompletes
  rintro ⟨-, -, -, -, -, -, -, -, -, -, -, -, -, hrestore, -⟩
  obtain ⟨hidle, hphase, hclosed, hempty, hstack⟩ := strayCopy_restores
  have hfrom : bitsOf (2 ^ 63 + 1) 10 0 = 1 := by decide
  have hroute : RouteTo strayCopy (bitsOf (2 ^ 63 + 1) 10 0) := hfrom ▸ strayCopy_routes
  have hends := (hrestore strayCopy (2 ^ 63 + 1) (by decide) hidle hphase hclosed hempty hstack rfl hroute).after
  obtain ⟨-, -, -, -, hsent⟩ := hends
  exact not_sent_of_noFrames strayCopy_restoreGo hsent

theorem strayCopy_readSnapshot : NoFrames (after (.readSnapshot (1 :: natLE 3 0)) strayCopy) := by decide +kernel

/-- Refutes O41: so it goes with the SNAP_GET that READ_SNAPSHOT sends to the partner. -/
theorem not_mailboxUpdatesComplete : ¬ Obligations.MailboxUpdatesComplete := by
  unfold Obligations.MailboxUpdatesComplete
  rintro ⟨-, -, -, -, -, -, -, -, hread, -⟩
  obtain ⟨hlink, hstate, hvalid, hpartner⟩ := strayCopy_hasPartner
  obtain ⟨-, -, hsent⟩ := (hread strayCopy 0 ⟨hlink, rfl⟩ (by rw [hstate]; decide) strayCopy_restores.1 (by decide) hvalid rfl
    (hpartner ▸ strayCopy_routes)).after
  exact not_sent_of_noFrames strayCopy_readSnapshot hsent

end Sys2Proof.Machine
end

section
/-! PROOF. O43: SPDM requests, DOE discovery and the CDAT complete with their answer. -/

-- Proofs are checked one at a time: side by side they would only wait for one another.
set_option Elab.async false

namespace Sys2Proof.Machine
open Sys2Proof

section
variable {c : Instr} {s : State} {act : State → State} {P : State → Prop}

/-! ### A request by the three ways in: at any time, before the selection, after it (R447) -/

theorem completes_spdmAsk (hc : exec c s = s.spdmAsk act) (hup : s.linkUp = true) (hP : P (act s)) : Completes c s P :=
  ⟨act s, by rw [hc, State.spdmAsk, if_pos hup], hP⟩

theorem completes_spdmAsk_down (hc : exec c s = s.spdmAsk act) (hdown : s.linkUp = false) : Completes c s (fun t => t = s) :=
  ⟨s, by rw [hc, State.spdmAsk, if_neg (by simp [hdown])], rfl⟩

theorem completes_spdmEarly (hc : exec c s = s.spdmEarly act) (hup : s.linkUp = true) (hsel : s.host.selected ≠ some false) (hP : P (act s)) :
    Completes c s P :=
  completes_spdmAsk hc hup (by simpa only [if_neg hsel] using hP)

theorem completes_spdmEarly_unselected (hc : exec c s = s.spdmEarly act) (hup : s.linkUp = true) (hsel : s.host.selected = some false)
    (hP : P (s.spdmError 4)) : Completes c s P :=
  completes_spdmAsk hc hup (by simpa only [if_pos hsel] using hP)

theorem completes_spdmChosen (hc : exec c s = s.spdmChosen act) (hup : s.linkUp = true) (hsel : s.host.selected = some true) (hP : P (act s)) :
    Completes c s P :=
  completes_spdmAsk hc hup (by simpa only [if_pos hsel] using hP)

theorem completes_spdmChosen_unselected (hc : exec c s = s.spdmChosen act) (hup : s.linkUp = true) (hsel : s.host.selected ≠ some true)
    (hP : P (s.spdmError 4)) : Completes c s P :=
  completes_spdmAsk hc hup (by simpa only [if_neg hsel] using hP)

end

/-- The blocks that a request for measurements names (R448). -/
def measuredBlocks (b : Nat) : List Nat := if b = 0xFF then [1, 2, 3, 4, 5, 6, 7, 8] else [b]

/-- What GET_MEASUREMENTS signs: the blocks that it names, and the nonce (R448). -/
def State.measurements (s : State) (b : Nat) (nonce : List Byte) : List Byte :=
  (measuredBlocks b).flatMap (fun b => natLE 1 b ++ s.blockDigest b) ++ nonce

/-! ### How each request comes in -/

section
variable (s : State)

theorem exec_getVersion : exec .getVersion s = s.spdmAsk (fun s =>
    (s.modHost (fun h => { h with selected := none })).spdm 0x04 0 0 (natLE 2 0x1300)) := rfl

theorem exec_getCapabilities : exec .getCapabilities s = s.spdmEarly (fun s =>
    s.spdm 0x61 0 0 (natLE 4 0x36 ++ natLE 4 65536 ++ natLE 4 65536)) := rfl

theorem exec_negotiateAlgorithms (m x : Bool) : exec (.negotiateAlgorithms m x) s = s.spdmEarly (fun s =>
    (s.modHost (fun h => { h with selected := some (m || x) })).spdm 0x63 0 0
      ((if m then natLE 2 1 else []) ++ (if x then natLE 2 2 else []))) := rfl

theorem exec_getDigests : exec .getDigests s = s.spdmChosen (fun s => s.spdm 0x01 0 1 (shake 64 s.chain)) := rfl

theorem exec_getCertificate (slot off n : Nat) : exec (.getCertificate slot off n) s = s.spdmChosen (fun s =>
    if slot ≠ 0 ∨ s.chain.length < off then s.spdmError 1
    else s.spdm 0x02 0 0 (natLE 4 ((s.chain.drop off).take n).length ++
      natLE 4 (s.chain.length - off - ((s.chain.drop off).take n).length) ++ (s.chain.drop off).take n)) := rfl

theorem exec_challenge (slot : Nat) (nonce : List Byte) : exec (.challenge slot nonce) s = s.spdmChosen (fun s =>
    if slot ≠ 0 then s.spdmError 1
    else s.spdm 0x03 0 1 (shake 64 s.chain ++ padTo 32 nonce ++ s.aliasSign (shake 64 s.chain ++ padTo 32 nonce))) := rfl

theorem exec_getMeasurements (b : Nat) (nonce : List Byte) : exec (.getMeasurements b nonce) s = s.spdmChosen (fun s =>
    if b = 0 ∨ (8 < b ∧ b ≠ 0xFF) then s.spdmError 1
    else s.spdm 0x60 0 0 (s.measurements b (padTo 32 nonce) ++ s.aliasSign (s.measurements b (padTo 32 nonce)))) := rfl

theorem exec_spdmUnsupportedRequest (code : Nat) : exec (.spdmUnsupportedRequest code) s = s.spdmEarly (fun s => s.spdm 0x7F 7 code []) := rfl

theorem exec_doeDiscovery (i : Nat) : exec (.doeDiscovery i) s = execDoeDiscovery i s := rfl

theorem exec_cdatTableAccess : exec .cdatTableAccess s = s.spdmAsk (fun s =>
    s.doe (natLE 8 0 ++ natLE 8 (2 ^ 36) ++ natLE 4 300 ++ natLE 4 300 ++ natLE 4 56 ++ natLE 4 56)) := rfl

end

theorem padTo_of_length {n : Nat} {b : List Byte} (h : b.length = n) : padTo n b = b := by simp [padTo, ← h]

theorem completes_getMeasurements {s : State} {b : Nat} {nonce : List Byte} (hup : s.linkUp = true) (hsel : s.host.selected = some true)
    (hb : ¬(b = 0 ∨ (8 < b ∧ b ≠ 0xFF))) (hn : nonce.length = 32) :
    Completes (.getMeasurements b nonce) s (fun t =>
      Responds s t 0x60 0 0 (s.measurements b nonce ++ s.aliasSign (s.measurements b nonce))) := by
  refine completes_spdmChosen (exec_getMeasurements ..) hup hsel ?_
  simp only [if_neg hb, padTo_of_length hn]
  exact rfl

theorem blockDigest_of_active {s : State} {im : Image} (h : s.clusters.active = some im) : s.blockDigest 7 = padTo 64 im.digest := by
  simp [State.blockDigest, h]

theorem blockDigest_of_measured {s : State} {c : Nat} {d : List Byte} (hc : c < 7) (h : s.host.measured = [(c, d)]) : s.blockDigest c = d := by
  rw [State.blockDigest, if_neg (by omega), if_neg (by omega), h]
  simp

/-- Settles O43. -/
theorem attestationCompletes : Obligations.AttestationCompletes := by
  unfold Obligations.AttestationCompletes
  refine ⟨?version, ?capabilities, ?algorithms, ?none, ?unselected, ?early, ?digests, ?certificate, ?emptySlot, ?challenge, ?emptyChallenge, ?block,
    ?blocks, ?noBlock, fun _ _ => blockDigest_of_active, fun _ _ _ => blockDigest_of_measured, ?unsupported, ?doe0, ?doe1, ?doe2, ?cdat, ?down⟩
  case version => exact fun s hup => completes_spdmAsk (exec_getVersion s) hup ⟨rfl, rfl⟩
  case capabilities => exact fun s hup hsel => completes_spdmEarly (exec_getCapabilities s) hup hsel ⟨rfl, rfl⟩
  case algorithms => exact fun s m x hup hsel => completes_spdmEarly (exec_negotiateAlgorithms s m x) hup hsel ⟨rfl, rfl⟩
  case none => exact fun s hup hsel => completes_spdmEarly (exec_negotiateAlgorithms s false false) hup hsel ⟨rfl, rfl⟩
  case unselected =>
    intro s b slot off n nonce c hup hsel hc
    simp only [List.mem_cons, List.not_mem_nil, or_false] at hc
    obtain rfl | rfl | rfl | rfl := hc
    · exact completes_spdmChosen_unselected (exec_getDigests s) hup hsel ⟨rfl, rfl, rfl⟩
    · exact completes_spdmChosen_unselected (exec_getCertificate s ..) hup hsel ⟨rfl, rfl, rfl⟩
    · exact completes_spdmChosen_unselected (exec_challenge s ..) hup hsel ⟨rfl, rfl, rfl⟩
    · exact completes_spdmChosen_unselected (exec_getMeasurements s ..) hup hsel ⟨rfl, rfl, rfl⟩
  case early =>
    intro s m x code c hup hsel hc
    simp only [List.mem_cons, List.not_mem_nil, or_false] at hc
    obtain rfl | rfl | rfl := hc
    · exact completes_spdmEarly_unselected (exec_getCapabilities s) hup hsel ⟨rfl, rfl, rfl⟩
    · exact completes_spdmEarly_unselected (exec_negotiateAlgorithms s ..) hup hsel ⟨rfl, rfl, rfl⟩
    · exact completes_spdmEarly_unselected (exec_spdmUnsupportedRequest s ..) hup hsel ⟨rfl, rfl, rfl⟩
  case digests => exact fun s hup hsel => completes_spdmChosen (exec_getDigests s) hup hsel ⟨rfl, rfl⟩
  case certificate =>
    intro s off n hup hsel
    refine completes_spdmChosen (exec_getCertificate s ..) hup hsel ?_
    by_cases hoff : s.chain.length < off
    · simp only [hoff, or_true, if_true]
      rfl
    · simp only [hoff, or_false, ne_eq, not_true, if_false, List.length_take, List.length_drop]
      rfl
  case emptySlot =>
    intro s slot off n hup hsel hslot
    refine completes_spdmChosen (exec_getCertificate s ..) hup hsel ?_
    simp only [hslot, ne_eq, not_false_eq_true, true_or, if_true]
    rfl
  case challenge =>
    intro s nonce hup hsel hn
    refine completes_spdmChosen (exec_challenge s ..) hup hsel ?_
    simp only [ne_eq, not_true, if_false, padTo_of_length hn]
    rfl
  case emptyChallenge =>
    intro s slot nonce hup hsel hslot
    refine completes_spdmChosen (exec_challenge s ..) hup hsel ?_
    simp only [hslot, ne_eq, not_false_eq_true, if_true]
    rfl
  case block =>
    intro s b nonce hup hsel h1 h8 hn
    have h := completes_getMeasurements (b := b) hup hsel (by omega) hn
    simpa [State.measurements, measuredBlocks, show b ≠ 0xFF by omega] using h
  case blocks => exact fun s nonce hup hsel hn => completes_getMeasurements hup hsel (by omega) hn
  case noBlock =>
    intro s b nonce hup hsel hb
    refine completes_spdmChosen (exec_getMeasurements s ..) hup hsel ?_
    simp only [if_pos hb]
    rfl
  case unsupported => exact fun s code hup hsel => completes_spdmEarly (exec_spdmUnsupportedRequest s code) hup hsel ⟨rfl, rfl⟩
  case doe0 => exact fun s hup => completes_spdmAsk (exec_doeDiscovery s 0) hup rfl
  case doe1 => exact fun s hup => completes_spdmAsk (exec_doeDiscovery s 1) hup rfl
  case doe2 => exact fun s hup => completes_spdmAsk (exec_doeDiscovery s 2) hup rfl
  case cdat => exact fun s hup => completes_spdmAsk (exec_cdatTableAccess s) hup rfl
  case down =>
    intro s i n nonce c hdown hc
    simp only [List.mem_cons, List.not_mem_nil, or_false] at hc
    obtain rfl | rfl | rfl | rfl | rfl | rfl | rfl | rfl | rfl | rfl := hc
    · exact completes_spdmAsk_down (exec_getVersion s) hdown
    · exact completes_spdmAsk_down (exec_getCapabilities s) hdown
    · exact completes_spdmAsk_down (exec_negotiateAlgorithms s ..) hdown
    · exact completes_spdmAsk_down (exec_getDigests s) hdown
    · exact completes_spdmAsk_down (exec_getCertificate s ..) hdown
    · exact completes_spdmAsk_down (exec_challenge s ..) hdown
    · exact completes_spdmAsk_down (exec_getMeasurements s ..) hdown
    · exact completes_spdmAsk_down (exec_spdmUnsupportedRequest s ..) hdown
    · exact completes_spdmAsk_down (exec_doeDiscovery s i) hdown
    · exact completes_spdmAsk_down (exec_cdatTableAccess s) hdown

end Sys2Proof.Machine
end

section
/-! PROOF. O42: background commands and flash writes end with their effect. The answers of the mailbox that this and O40 share stand here. -/

-- Proofs are checked one at a time: side by side they would only wait for one another.
set_option Elab.async false

namespace Sys2Proof.Machine
open Sys2Proof

/-! ### The mailbox answers (R435, R436) -/

theorem State.msix_up {s : State} (hup : s.linkUp = true) (v : Nat) : s.msix v =
    s.modOut (fun o => if s.flag (MSIX_CTL_MASK v) then { o with pba := o.pba.filter (· != v) ++ [v] } else { o with msix := o.msix ++ [v] }) :=
  if_pos hup

/-- An entry in the mailbox's record and a message of vector 0, in a state whose registers and whose messages are those of `s`. -/
theorem answered_msix {s u : State} {opcode code : Nat} {payload : List Byte} (hup : s.linkUp = true) (hregs : u.regs = s.regs)
    (hmsix : u.out.msix = s.out.msix) (hbox : u.out.mailbox = s.out.mailbox ++ [(opcode, code, payload)]) :
    Answered s (u.msix 0) opcode code payload := by
  have hup' : u.linkUp = true := by rw [← hup, State.linkUp, State.linkUp, State.fld_congr hregs]
  have hmask : u.flag (MSIX_CTL_MASK 0) = s.flag (MSIX_CTL_MASK 0) := by rw [State.flag, State.flag, State.fld_congr hregs]
  rw [State.msix_up hup', hmask]
  cases hm : s.flag (MSIX_CTL_MASK 0) <;> simp [Answered, Signalled, State.modOut, hbox, hmsix, hm]

theorem answered_reply {s : State} (hup : s.linkUp = true) (opcode code : Nat) (payload : List Byte) :
    Answered s (s.reply opcode code payload) opcode code payload :=
  answered_msix hup rfl rfl rfl

@[simp] theorem State.reply_regs (s : State) (opcode code : Nat) (payload : List Byte) : (s.reply opcode code payload).regs = s.regs := by
  simp [State.reply]

@[simp] theorem State.reply_host (s : State) (opcode code : Nat) (payload : List Byte) : (s.reply opcode code payload).host = s.host := by
  simp [State.reply]

@[simp] theorem State.reply_mem (s : State) (opcode code : Nat) (payload : List Byte) : (s.reply opcode code payload).mem = s.mem := by
  simp [State.reply]

@[simp] theorem State.replyDone_regs (s : State) (opcode code : Nat) (payload : List Byte) :
    (s.replyDone opcode code payload).regs = s.regs := by
  simp [State.replyDone]

@[simp] theorem State.replyDone_mem (s : State) (opcode code : Nat) (payload : List Byte) : (s.replyDone opcode code payload).mem = s.mem := by
  simp [State.replyDone]

@[simp] theorem State.replyDone_host (s : State) (opcode code : Nat) (payload : List Byte) :
    (s.replyDone opcode code payload).host = { s.host with bgDone := some (opcode, code) } := by
  simp [State.replyDone]
  rfl

/-! ### The end of a background command -/

theorem exec_backgroundCommandDone (s : State) : exec .backgroundCommandDone s = execBackgroundCommandDone s := rfl

theorem exec_flashWriteDone (s : State) : exec .flashWriteDone s = execFlashWriteDone s := rfl

theorem completes_backgroundCommandDone {s : State} {b : Background} (hup : s.linkUp = true) (hb : s.host.background = some b)
    (hready : b.ready = true) (hreport : b.report = true) (hitin : b.opcode ≠ 0xC010) (hcomp : b.opcode ≠ 0xC011) :
    Completes .backgroundCommandDone s (fun t => Answered s t b.opcode b.code b.payload ∧ t.host.background = none ∧
      t.host.bgDone = some (b.opcode, b.code) ∧ t.regs = s.regs) := by
  refine ⟨(s.modHost (fun h => { h with background := none })).replyDone b.opcode b.code b.payload, ?_, answered_msix hup rfl rfl rfl, ?_, ?_, ?_⟩
  · simp [exec_backgroundCommandDone, execBackgroundCommandDone, hb, hready, hreport, hitin, hcomp]
  all_goals simp [State.modHost]

theorem completes_backgroundCommandDone_of_unready {s : State} {b : Background} (hb : s.host.background = some b) (hready : b.ready = false) :
    Completes .backgroundCommandDone s (fun t => t = s) :=
  ⟨s, by simp [exec_backgroundCommandDone, execBackgroundCommandDone, hb, hready], rfl⟩

/-! ### The end of a flash write -/

/-- Commands that wait for a flash write are ready to report (R436, R450). -/
def State.flashReady (s : State) : State :=
  s.modHost (fun h => { h with background := h.background.map (fun b =>
    if [0xC012, 0xC041, 0xC042].contains b.opcode then { b with ready := true } else b) })

/-- The state after a flash write that no reset waits for. -/
theorem exec_flashWriteDone_free {s : State} {w : FlashWrite} {rest : List FlashWrite} (hw : s.host.writing = w :: rest)
    (hreset : ((s.modHost (fun h => { h with writing := rest })).written? w).power.resetOwed = false)
    (hflr : ((s.modHost (fun h => { h with writing := rest })).written? w).host.flrOwed = false) :
    exec .flashWriteDone s = .next ((s.modHost (fun h => { h with writing := rest })).written? w).flashReady := by
  rw [exec_flashWriteDone, execFlashWriteDone]
  simp only [hw]
  generalize (s.modHost (fun h => { h with writing := rest })).written? w = u at hreset hflr
  cases rest with
  | nil => simp [State.flashReady, hreset, hflr, State.modHost]
  | cons _ _ => rfl

theorem Flash.image_putImage (f : Flash) (c : Nat) (slotB : Bool) (data : List Byte) : (f.putImage c slotB data).image c slotB = data := by
  have hnone : (f.images.filter (fun i => i.1 != c || i.2.1 != slotB)).find? (fun i => i.1 == c && i.2.1 == slotB) = none := by
    rw [List.find?_eq_none]
    intro i hi
    have := (List.mem_filter.1 hi).2
    grind
  simp [Flash.image, Flash.putImage, List.find?_append, hnone]

theorem completes_flashWriteDone_component {s : State} {c : Nat} {slotB : Bool} {data : List Byte} {rest : List FlashWrite}
    (hw : s.host.writing = .component c slotB data :: rest) (hreset : s.power.resetOwed = false) (hflr : s.host.flrOwed = false) :
    Completes .flashWriteDone s (fun t => t.host.writing = rest ∧ t.host.flash.image c slotB = data ∧
      t.host.flash.trial.contains c = true ∧ t.host.flash.activeB = s.host.flash.activeB ∧
      (∀ b ∈ s.host.background, b.opcode = 0xC012 → t.host.background = some { b with ready := true })) := by
  refine ⟨_, exec_flashWriteDone_free hw hreset hflr, rfl, s.host.flash.image_putImage c slotB data, ?_, rfl, ?_⟩
  · simp [State.flashReady, State.written?, State.modHost]
  · intro b hb hop
    simp [State.flashReady, State.written?, State.modHost, Option.mem_def.1 hb, hop]

/-- The two writes of the owner record: what is held, and that OWNER_SET shows it. -/
theorem completes_flashWriteDone_owner {s : State} {key : Option (List Byte)} {rest : List FlashWrite}
    (hw : s.host.writing = .owner key :: rest) (hreset : s.power.resetOwed = false) (hflr : s.host.flrOwed = false) :
    Completes .flashWriteDone s (fun t => t.host.writing = rest ∧ t.host.flash.owner = key ∧
      t.fld MB_BOOT_STATUS_OWNER_SET = if key.isSome then 1 else 0) := by
  cases key with
  | none => exact ⟨_, exec_flashWriteDone_free hw hreset hflr, rfl, rfl, State.fld_setFld_same _ _ _ (by decide)⟩
  | some k => exact ⟨_, exec_flashWriteDone_free hw hreset hflr, rfl, rfl, State.fld_setFld_same _ _ _ (by decide)⟩

theorem completes_flashWriteDone_ledger {s : State} {entries : List Nat} {rest : List FlashWrite} (hw : s.host.writing = .ledger entries :: rest)
    (hlen : entries.length < 4096) (hreset : s.power.resetOwed = false) (hflr : s.host.flrOwed = false) :
    Completes .flashWriteDone s (fun t => t.host.writing = rest ∧ t.host.flash.ledger = entries ∧
      t.fld MEM_REPAIR_STATUS_LEDGER_USED = entries.length) := by
  refine ⟨_, exec_flashWriteDone_free hw hreset hflr, rfl, rfl, (State.fld_setFld_same _ _ _ (by decide)).trans (Nat.mod_eq_of_lt ?_)⟩
  show entries.length < 2 ^ 16
  omega

/-- Settles O42. -/
theorem backgroundEndsComplete : Obligations.BackgroundEndsComplete := by
  unfold Obligations.BackgroundEndsComplete
  exact ⟨fun _ _ => completes_backgroundCommandDone, fun _ _ => completes_backgroundCommandDone_of_unready,
    fun _ _ _ _ _ => completes_flashWriteDone_component, fun _ _ _ => completes_flashWriteDone_owner,
    fun _ _ => completes_flashWriteDone_owner,
    fun _ _ _ _ _ _ hw hreset hflr => ⟨_, exec_flashWriteDone_free hw hreset hflr, rfl, rfl, rfl⟩,
    fun _ _ _ => completes_flashWriteDone_ledger⟩

end Sys2Proof.Machine
end

section
/-! SUPPORT. The pool is a memory: where no pair has two merge entries and none waits for a pair that is poisoned or whose stack is down, what a byte
reads as changes at a write of it alone, whatever the write-merge buffer does (R335, R342, R343). -/

-- Proofs are checked one at a time: side by side they would only wait for one another.
set_option Elab.async false

namespace Sys2Proof.Machine
open Sys2Proof

/-! ### The byte at an address -/

/-- A byte of the pool as an access finds it: out of the pair's merge entry, or as it is stored. -/
def State.byte (s : State) (b : Nat) : Byte :=
  match s.mem.merge.find? (fun e => e.pair == b / 64 && e.mask.testBit (b % 64)) with
  | some e => e.data.getD (b % 64) 0
  | none => sparseGet 0 s.mem.bytes b

theorem State.peek_eq_map_byte (s : State) (a n : Nat) : s.peek a n = (List.range n).map (fun i => s.byte (a + i)) := rfl

theorem State.length_peek (s : State) (a n : Nat) : (s.peek a n).length = n := by simp [State.peek_eq_map_byte]

theorem State.getElem?_peek (s : State) {a n i : Nat} (h : i < n) : (s.peek a n)[i]? = some (s.byte (a + i)) := by
  simp [State.peek_eq_map_byte, h]

theorem State.peek_one (s : State) (b : Nat) : s.peek b 1 = [s.byte b] := by simp [State.peek_eq_map_byte]

theorem State.byte_congr {s t : State} (h : t.mem = s.mem) (b : Nat) : t.byte b = s.byte b := by rw [State.byte, h, State.byte]

theorem State.peek_congr_mem {s t : State} (h : t.mem = s.mem) (a n : Nat) : t.peek a n = s.peek a n := by rw [State.peek, h, State.peek]

theorem State.peek_eq_of_byte {s t : State} {a n : Nat} (h : ∀ i < n, t.byte (a + i) = s.byte (a + i)) : t.peek a n = s.peek a n := by
  rw [State.peek_eq_map_byte, State.peek_eq_map_byte]
  exact List.map_congr_left (fun i hi => h i (List.mem_range.1 hi))

/-! ### A sound pool -/

/-- A pair takes writes and answers reads: its stack is up and it is not poisoned. -/
def State.PairGood (s : State) (p : Nat) : Prop := s.stackLost (pairStack p) = false ∧ s.poisoned p = false

/-- No pair has two merge entries, and none has one that its pair does not take. -/
structure Sound (s : State) : Prop where
  nodup : (s.mem.merge.map (·.pair)).Nodup
  good : ∀ e ∈ s.mem.merge, s.PairGood e.pair

theorem Sound.of_nil {s : State} (h : s.mem.merge = []) : Sound s := ⟨by simp [h], by simp [h]⟩

theorem PoolClean.sound {s : State} (h : PoolClean s) : Sound s := .of_nil h.2.2

theorem pairStack_lt (p : Nat) : pairStack p < 8 := Nat.mod_lt _ (by decide)

theorem PoolClean.pairGood {s : State} (h : PoolClean s) (p : Nat) : s.PairGood p :=
  ⟨h.1 _ (pairStack_lt p), by simp [State.poisoned, h.2.1]⟩

/-- The same pairs are poisoned and the same stacks down. -/
structure SameGood (s t : State) : Prop where
  poisoned : ∀ p, t.poisoned p = s.poisoned p
  status : t.reg MEM_STATUS = s.reg MEM_STATUS

section
variable {s t u : State}

theorem SameGood.refl (s : State) : SameGood s s := ⟨fun _ => rfl, rfl⟩

theorem SameGood.trans (h : SameGood s t) (h' : SameGood t u) : SameGood s u :=
  ⟨fun p => (h'.poisoned p).trans (h.poisoned p), h'.status.trans h.status⟩

theorem SameGood.stackLost (h : SameGood s t) (n : Nat) : t.stackLost n = s.stackLost n := by
  rw [State.stackLost, State.regBit, h.status, State.stackLost, State.regBit]

theorem SameGood.pairGood (h : SameGood s t) (p : Nat) : t.PairGood p ↔ s.PairGood p := by
  rw [State.PairGood, h.stackLost, h.poisoned, State.PairGood]

theorem SameGood.of_mem (hpoison : t.mem.poison = s.mem.poison) (hstatus : t.reg MEM_STATUS = s.reg MEM_STATUS) : SameGood s t :=
  ⟨fun p => by rw [State.poisoned, hpoison, State.poisoned], hstatus⟩

end

/-- Every byte reads as before, and the pool stays sound. -/
structure SamePool (s t : State) : Prop where
  sound : Sound t
  byte : ∀ b, t.byte b = s.byte b
  same : SameGood s t

theorem SamePool.refl {s : State} (h : Sound s) : SamePool s s := ⟨h, fun _ => rfl, .refl s⟩

theorem SamePool.trans {s t u : State} (h : SamePool s t) (h' : SamePool t u) : SamePool s u :=
  ⟨h'.sound, fun b => (h'.byte b).trans (h.byte b), h.same.trans h'.same⟩

theorem SamePool.peek {s t : State} (h : SamePool s t) (a n : Nat) : t.peek a n = s.peek a n := State.peek_eq_of_byte (fun _ _ => h.byte _)

theorem Sound.congr {s t : State} (h : Sound s) (hmem : t.mem = s.mem) (hup : t.reg MEM_STATUS = s.reg MEM_STATUS) : Sound t :=
  ⟨by rw [hmem]; exact h.nodup, fun e he => ((SameGood.of_mem (by rw [hmem]) hup).pairGood _).2 (h.good e (hmem ▸ he))⟩

theorem SamePool.of_mem {s t : State} (h : Sound s) (hmem : t.mem = s.mem) (hup : t.reg MEM_STATUS = s.reg MEM_STATUS) : SamePool s t :=
  ⟨h.congr hmem hup, State.byte_congr hmem, .of_mem (by rw [hmem]) hup⟩

/-- A change of the memory alone leaves the pool sound where it poisons no pair and gives none a second entry. -/
theorem Sound.modMem {s : State} {g : MemUnit → MemUnit} (hnodup : ((g s.mem).merge.map (·.pair)).Nodup)
    (hgood : ∀ e ∈ (g s.mem).merge, (s.modMem g).PairGood e.pair) : Sound (s.modMem g) := ⟨hnodup, hgood⟩

theorem memStackCnt_ne_memStatus (n i : Nat) : MEM_STATUS ≠ MEM_STACK_CNT n i := by unfold MEM_STATUS MEM_STACK_CNT; omega

theorem Sound.memCount {s : State} (h : Sound s) (st i : Nat) : SamePool s (s.memCount st i) :=
  .of_mem h rfl (s.reg_count_other (memStackCnt_ne_memStatus st i))

theorem Sound.countBy {s : State} (h : Sound s) (st i n : Nat) : SamePool s (s.countBy (MEM_STACK_CNT st i) n) :=
  .of_mem h rfl (s.reg_countBy_other n (memStackCnt_ne_memStatus st i))

theorem Sound.transferred {s : State} (h : Sound s) (st : Nat) : SamePool s (s.transferred st) := ⟨⟨h.nodup, h.good⟩, fun _ => rfl, .of_mem rfl rfl⟩

/-- The merge entry of a pair. -/
def State.entry (s : State) (p : Nat) : Option MergeEntry := s.mem.merge.find? (fun e => e.pair == p)

theorem State.pair_of_entry {s : State} {p : Nat} {e : MergeEntry} (h : s.entry p = some e) : e.pair = p := by
  simpa using List.find?_some h

/-- A list with distinct keys: a find by key and a further test looks at one element. -/
theorem find?_and_of_nodup {l : List MergeEntry} (h : (l.map (·.pair)).Nodup) (p : Nat) (q : MergeEntry → Bool) :
    l.find? (fun e => e.pair == p && q e) = (l.find? (fun e => e.pair == p)).filter q := by
  induction l with
  | nil => rfl
  | cons e l ih =>
    obtain ⟨hmem, htail⟩ := List.nodup_cons.1 h
    by_cases hp : e.pair = p
    · cases hq : q e with
      | true => simp [Option.filter, hp, hq]
      | false =>
        have hnone : l.find? (fun e => e.pair == p && q e) = none := by
          rw [List.find?_eq_none]
          intro x hx
          have : x.pair ≠ p := fun h => hmem (List.mem_map.2 ⟨x, hx, h.trans hp.symm⟩)
          simp [this]
        simp [Option.filter, hp, hq, hnone]
    · simp only [List.find?_cons, beq_eq_false_iff_ne.2 hp, Bool.false_and, ih htail]

theorem Sound.byte_eq {s : State} (h : Sound s) (b : Nat) : s.byte b =
    match s.entry (b / 64) with
    | some e => if e.mask.testBit (b % 64) then e.data.getD (b % 64) 0 else sparseGet 0 s.mem.bytes b
    | none => sparseGet 0 s.mem.bytes b := by
  rw [State.byte, find?_and_of_nodup h.nodup (b / 64) (fun e => e.mask.testBit (b % 64)), State.entry]
  cases s.mem.merge.find? (fun e => e.pair == b / 64) with
  | none => rfl
  | some e => cases hm : e.mask.testBit (b % 64) <;> simp [Option.filter, hm]

theorem find?_filter_pair (l : List MergeEntry) (p q : Nat) :
    (l.filter (fun x => x.pair != p)).find? (fun x => x.pair == q) = if q = p then none else l.find? (fun x => x.pair == q) := by
  rw [List.find?_filter]
  by_cases h : q = p
  · rw [if_pos h, List.find?_eq_none]
    intro x _
    grind
  · rw [if_neg h]
    congr 1
    funext x
    grind

theorem find?_filter_pair_and (l : List MergeEntry) (p q : Nat) (f : MergeEntry → Bool) :
    (l.filter (fun x => x.pair != p)).find? (fun x => x.pair == q && f x) = if q = p then none else l.find? (fun x => x.pair == q && f x) := by
  rw [List.find?_filter]
  by_cases h : q = p
  · rw [if_pos h, List.find?_eq_none]
    intro x _
    grind
  · rw [if_neg h]
    congr 1
    funext x
    grind

theorem Sound.nodup_filter {s : State} (h : Sound s) (p : MergeEntry → Bool) : ((s.mem.merge.filter p).map (·.pair)).Nodup :=
  h.nodup.sublist (List.filter_sublist.map _)

theorem State.mem_of_entry {s : State} {p : Nat} {e : MergeEntry} (h : s.entry p = some e) : e ∈ s.mem.merge := List.mem_of_find?_eq_some h

theorem Sound.entry_of_mem {s : State} (h : Sound s) {e : MergeEntry} (he : e ∈ s.mem.merge) : s.entry e.pair = some e := by
  cases hfind : s.entry e.pair with
  | none => simpa using List.find?_eq_none.1 hfind e he
  | some x => exact congrArg some (List.inj_on_of_nodup_map h.nodup (s.mem_of_entry hfind) he (s.pair_of_entry hfind))

/-! ### An entry leaves the buffer -/

theorem State.openEntry_same (s : State) (e : MergeEntry) : SameGood s (s.openEntry e) := by
  have hcount : ∀ (x : State) (st i : Nat), (x.memCount st i).reg MEM_STATUS = x.reg MEM_STATUS := fun x st i =>
    x.reg_count_other (memStackCnt_ne_memStatus st i)
  refine .of_mem (by rw [s.openEntry_mem]) ?_
  unfold State.openEntry
  dsimp only
  split
  · rw [hcount, hcount]
    rfl
  · rw [hcount]
    rfl

theorem Sound.openEntry {s : State} (h : Sound s) (e : MergeEntry) : Sound (s.openEntry e) := by
  refine ⟨?_, fun x hx => ((s.openEntry_same e).pairGood _).2 (h.good x ?_)⟩
  · rw [s.openEntry_mem]
    exact h.nodup_filter _
  · rw [s.openEntry_mem] at hx
    exact List.mem_of_mem_filter hx

theorem State.mergeIn_good {s : State} {e : MergeEntry} (h : s.PairGood e.pair) :
    s.mergeIn e = s.modMem (fun m => { m with bytes := sparseWrite 0 m.bytes (64 * e.pair) (mergeData (s.pairBytes e.pair) e.data e.mask) }) := by
  rw [State.mergeIn, h.1, h.2]
  rfl

theorem Sound.flushEntry_mem {s : State} (h : Sound s) {e : MergeEntry} (he : e ∈ s.mem.merge) : (s.flushEntry e).mem = { s.mem with
    merge := s.mem.merge.filter (fun x => x.pair != e.pair)
    bytes := sparseWrite 0 s.mem.bytes (64 * e.pair) (mergeData (s.pairBytes e.pair) e.data e.mask) } := by
  rw [State.flushEntry, State.mergeIn_good (((s.openEntry_same e).pairGood _).2 (h.good e he)), State.modMem_mem, State.pairBytes, s.openEntry_mem]
  rfl

theorem Sound.flushEntry {s : State} (h : Sound s) {e : MergeEntry} (he : e ∈ s.mem.merge) : Sound (s.flushEntry e) ∧ SameGood s (s.flushEntry e) := by
  have hopen := h.openEntry e
  rw [State.flushEntry, State.mergeIn_good (((s.openEntry_same e).pairGood _).2 (h.good e he))]
  exact ⟨⟨hopen.nodup, hopen.good⟩, (s.openEntry_same e).trans (.of_mem rfl rfl)⟩

theorem length_mergeData (old new : List Byte) (mask : Nat) : (mergeData old new mask).length = 64 := by simp [mergeData]

theorem getD_mergeData (old new : List Byte) (mask : Nat) {i : Nat} (h : i < 64) :
    (mergeData old new mask).getD i 0 = if mask.testBit i then new.getD i 0 else old.getD i 0 := by
  simp [mergeData, List.getD_eq_getElem?_getD, h]

/-- A byte of a map into which the bytes of a pair were written. -/
theorem sparseGet_writePair {m : List (Nat × Byte)} {p : Nat} {l : List Byte} (hl : l.length = 64) (b : Nat) :
    sparseGet 0 (sparseWrite 0 m (64 * p) l) b = if b / 64 = p then l.getD (b % 64) 0 else sparseGet 0 m b := by
  by_cases h : b / 64 = p
  · have hi : b % 64 < l.length := by omega
    have hb : b = 64 * p + b % 64 := by omega
    rw [if_pos h]
    conv_lhs => rw [hb]
    rw [sparseGet_write_inside hi, List.getD_eq_getElem _ _ hi]
  · rw [if_neg h, sparseGet_write_other (by omega)]

theorem State.getD_pairBytes (s : State) {p i : Nat} (h : i < 64) : (s.pairBytes p).getD i 0 = sparseGet 0 s.mem.bytes (64 * p + i) := by
  simp [State.pairBytes, sparseRead, List.getD_eq_getElem?_getD, h]

theorem Sound.byte_flushEntry {s : State} (h : Sound s) {e : MergeEntry} (he : e ∈ s.mem.merge) (b : Nat) : (s.flushEntry e).byte b = s.byte b := by
  have hmod : b % 64 < 64 := Nat.mod_lt _ (by decide)
  rw [(h.flushEntry he).1.byte_eq, h.byte_eq, State.entry, h.flushEntry_mem he]
  simp only [find?_filter_pair, sparseGet_writePair (length_mergeData _ _ _)]
  by_cases hb : b / 64 = e.pair
  · have haddr : 64 * e.pair + b % 64 = b := by omega
    simp only [hb, if_true, h.entry_of_mem he, getD_mergeData _ _ _ hmod, s.getD_pairBytes hmod, haddr]
  · simp only [hb, if_false]
    rfl

theorem Sound.flushed {s : State} (h : Sound s) {e : MergeEntry} (he : e ∈ s.mem.merge) : SamePool s (s.flushEntry e) :=
  ⟨(h.flushEntry he).1, h.byte_flushEntry he, (h.flushEntry he).2⟩

theorem Sound.settle {s : State} (h : Sound s) (p : Nat) : SamePool s (s.settle p) := by
  unfold State.settle
  split
  next e he => exact h.flushed (s.mem_of_entry he)
  next => exact .refl h

theorem Sound.entry_settle {s : State} (h : Sound s) (p q : Nat) : (s.settle p).entry q = if q = p then none else s.entry q := by
  unfold State.settle
  split
  next e he => rw [State.entry, h.flushEntry_mem (s.mem_of_entry he), State.pair_of_entry he, find?_filter_pair, State.entry]
  next hnone =>
    split
    next hq => rw [hq]; exact hnone
    next => rfl

/-! ### Reads -/

theorem Sound.touchPair {s : State} (h : Sound s) (p : Nat) : SamePool s (s.touchPair p) ∧
    ∀ q, (s.touchPair p).entry q = if q = p then none else s.entry q := by
  have ht := h.transferred (pairStack p)
  have hsettled := ht.trans (ht.sound.settle p)
  have hentry : ∀ q, ((s.transferred (pairStack p)).settle p).entry q = if q = p then none else s.entry q := ht.sound.entry_settle p
  rw [State.touchPair]
  split
  · exact ⟨hsettled.trans (hsettled.sound.memCount _ _), hentry⟩
  · exact ⟨hsettled, hentry⟩

/-- Reads of pairs, one after the other: the bytes stay, and no entry of theirs stays in the buffer. -/
theorem Sound.touchPairs {s : State} (h : Sound s) (ps : List Nat) : SamePool s (ps.foldl State.touchPair s) ∧
    ∀ q, (ps.foldl State.touchPair s).entry q = if q ∈ ps then none else s.entry q := by
  induction ps generalizing s with
  | nil => exact ⟨.refl h, fun _ => rfl⟩
  | cons p ps ih =>
    obtain ⟨hone, hentry1⟩ := h.touchPair p
    obtain ⟨hrest, hentry⟩ := ih hone.sound
    rw [List.foldl_cons]
    refine ⟨hone.trans hrest, fun q => ?_⟩
    rw [hentry, hentry1]
    by_cases hq : q = p <;> by_cases hps : q ∈ ps <;> simp [hq, hps]

theorem mem_pairsOf {a n p : Nat} (hn : n ≠ 0) : p ∈ pairsOf a n ↔ a / 64 ≤ p ∧ p ≤ (a + n - 1) / 64 := by
  rw [pairsOf, if_neg hn]
  simp only [List.mem_map, List.mem_range]
  constructor
  · rintro ⟨i, hi, rfl⟩
    omega
  · rintro ⟨h1, h2⟩
    exact ⟨p - a / 64, by omega, by omega⟩

/-- A read leaves every byte as it was. -/
theorem Sound.poolRead_same {s : State} (h : Sound s) (a n : Nat) : SamePool s (s.poolRead a n).2 := by
  have hpairs := (h.touchPairs (pairsOf a n)).1
  rw [State.poolRead]
  split <;> exact hpairs

/-- What a read of good pairs answers. -/
theorem Sound.poolRead {s : State} (h : Sound s) {a n : Nat} (hgood : ∀ p ∈ pairsOf a n, s.PairGood p) : (s.poolRead a n).1 = some (s.peek a n) := by
  obtain ⟨hsame, hentry⟩ := h.touchPairs (pairsOf a n)
  have hclean : (pairsOf a n).any (fun p => ((pairsOf a n).foldl State.touchPair s).stackLost (pairStack p) ||
      ((pairsOf a n).foldl State.touchPair s).poisoned p) = false := by
    rw [List.any_eq_false]
    intro p hp
    obtain ⟨hup, hclean⟩ := hgood p hp
    rw [hsame.same.stackLost, hsame.same.poisoned, hup, hclean]
    decide
  rw [State.poolRead]
  simp only [hclean, Bool.false_eq_true, if_false]
  refine congrArg some ?_
  rw [State.peek_eq_map_byte, sparseRead]
  refine List.map_congr_left fun i hi => ?_
  have hin : (a + i) / 64 ∈ pairsOf a n := by
    have := List.mem_range.1 hi
    rw [mem_pairsOf (by omega)]
    omega
  rw [← hsame.byte, hsame.sound.byte_eq, hentry, if_pos hin]

/-- A read that meets a pair which does not answer. -/
theorem Sound.poolRead_bad {s : State} (h : Sound s) {a n p : Nat} (hp : p ∈ pairsOf a n) (hbad : ¬ s.PairGood p) : (s.poolRead a n).1 = none := by
  have hsame := (h.touchPairs (pairsOf a n)).1.same
  have hany : (pairsOf a n).any (fun p => ((pairsOf a n).foldl State.touchPair s).stackLost (pairStack p) ||
      ((pairsOf a n).foldl State.touchPair s).poisoned p) = true := by
    refine List.any_eq_true.2 ⟨p, hp, ?_⟩
    rw [hsame.stackLost, hsame.poisoned, Bool.or_eq_true]
    by_contra hno
    rw [not_or, Bool.not_eq_true, Bool.not_eq_true] at hno
    exact hbad hno
  rw [State.poolRead]
  simp only [hany, if_true]

/-! ### Writes -/

/-- Adding a power of two at a bit that is 0 carries nowhere. -/
theorem testBit_add_two_pow {v i : Nat} (h : v.testBit i = false) (j : Nat) : (v + 2 ^ i).testBit j = (v.testBit j || decide (j = i)) := by
  rcases Nat.lt_trichotomy j i with hj | rfl | hj
  · rw [Nat.add_comm, Nat.testBit_two_pow_add_gt hj]
    simp [hj.ne]
  · rw [Nat.add_comm, Nat.testBit_two_pow_add_eq]
    simp [h]
  · have hlow : v / 2 ^ i % 2 = 0 := by
      rw [Nat.testBit_eq_decide_div_mod_eq] at h
      simp at h
      omega
    have hhigh : (v + 2 ^ i) / 2 ^ (i + 1) = v / 2 ^ (i + 1) := by
      rw [Nat.pow_succ, ← Nat.div_div_eq_div_mul, ← Nat.div_div_eq_div_mul, Nat.add_div_right _ (Nat.two_pow_pos i)]
      omega
    obtain ⟨k, rfl⟩ := Nat.exists_eq_add_of_lt hj
    have hbits := congrArg (fun x => x.testBit k) hhigh
    simp only [Nat.testBit_div_two_pow] at hbits
    rw [show i + k + 1 = k + (i + 1) by omega, hbits, decide_eq_false (by omega), Bool.or_false]

theorem testBit_setBitOf (v i j : Nat) : (setBitOf v i).testBit j = (v.testBit j || decide (j = i)) := by
  unfold setBitOf
  by_cases h : v.testBit i = true
  · rw [if_pos h]
    by_cases hj : j = i <;> simp [hj, h]
  · rw [if_neg h, testBit_add_two_pow (by simpa using h)]

/-- The mask of `n` bytes from byte `off` on. -/
theorem testBit_foldl_setBitOf (off n m j : Nat) : ((List.range n).foldl (fun m i => setBitOf m (off + i)) m).testBit j =
    (m.testBit j || (decide (off ≤ j) && decide (j < off + n))) := by
  induction n with
  | zero => simp
  | succ n ih =>
    rw [List.range_succ, List.foldl_append, List.foldl_cons, List.foldl_nil, testBit_setBitOf, ih]
    grind

theorem getD_spliceBytes {off : Nat} {data : List Byte} (h : off + data.length ≤ 64) {i : Nat} (hi : i < data.length) :
    (spliceBytes (zeroBytes 64) off data).getD (off + i) 0 = data.getD i 0 := by
  have hoff : ((zeroBytes 64).take off).length = off := by simp [zeroBytes]; omega
  have htake : data.take ((zeroBytes 64).length - off) = data := List.take_of_length_le (by simp [zeroBytes]; omega)
  simp only [List.getD_eq_getElem?_getD, spliceBytes, htake, List.append_assoc]
  rw [List.getElem?_append_right (by omega), hoff, Nat.add_sub_cancel_left, List.getElem?_append_left hi]

/-- What a write of the bytes `bs` at `a` leaves of a memory. -/
def overlay (old : Nat → Byte) (a : Nat) (bs : List Byte) (b : Nat) : Byte := if a ≤ b ∧ b < a + bs.length then bs.getD (b - a) 0 else old b

theorem overlay_nil (old : Nat → Byte) (a b : Nat) : overlay old a [] b = old b := if_neg (by simp)

/-- A write of two pieces, the one behind the other. -/
theorem overlay_overlay (old : Nat → Byte) (a : Nat) (bs cs : List Byte) (b : Nat) :
    overlay (overlay old a bs) (a + bs.length) cs b = overlay old a (bs ++ cs) b := by
  unfold overlay
  simp only [List.length_append, List.getD_eq_getElem?_getD, List.getElem?_append]
  by_cases h1 : a ≤ b ∧ b < a + bs.length
  · rw [if_neg (by omega), if_pos h1, if_pos (by omega), if_pos (by omega)]
  · by_cases h2 : a + bs.length ≤ b ∧ b < a + bs.length + cs.length
    · rw [if_pos h2, if_pos (by omega), if_neg (by omega), Nat.sub_add_eq]
    · rw [if_neg h2, if_neg h1, if_neg (by omega)]

/-- `t` holds the bytes of `s` with `bs` written at `a`, and is sound. -/
structure Overlaid (s t : State) (a : Nat) (bs : List Byte) : Prop where
  sound : Sound t
  byte : ∀ b, t.byte b = overlay s.byte a bs b
  same : SameGood s t

theorem SamePool.overlaid {s t : State} (h : SamePool s t) (a : Nat) : Overlaid s t a [] :=
  ⟨h.sound, fun b => (h.byte b).trans (overlay_nil _ _ _).symm, h.same⟩

theorem SamePool.thenOverlaid {s t u : State} {a : Nat} {bs : List Byte} (h : SamePool s t) (h' : Overlaid t u a bs) : Overlaid s u a bs :=
  ⟨h'.sound, fun b => by rw [h'.byte, overlay, overlay, h.byte], h.same.trans h'.same⟩

theorem State.poisoned_putPair_other (s : State) {p q : Nat} (data : List Byte) (h : q ≠ p) : (s.putPair p data).poisoned q = s.poisoned q := by
  rw [State.putPair]
  split
  · rfl
  · exact sparseGet_erase_other h

theorem State.putPair_up {s : State} {p : Nat} (hup : s.stackLost (pairStack p) = false) (data : List Byte) : s.putPair p data =
    s.modMem (fun m => { m with
      bytes := sparseWrite 0 m.bytes (64 * p) (padTo 64 data)
      poison := sparseErase m.poison p
      merge := m.merge.filter (fun e => e.pair != p) }) := by
  rw [State.putPair, hup]
  rfl

/-- A whole-pair write needs no more than its stack. -/
theorem State.byte_putPair (s : State) {p : Nat} (hup : s.stackLost (pairStack p) = false) {data : List Byte} (hlen : data.length = 64) (b : Nat) :
    (s.putPair p data).byte b = overlay s.byte (64 * p) data b := by
  rw [State.putPair_up hup, State.byte, State.modMem_mem]
  dsimp only
  rw [find?_filter_pair_and, padTo_of_length hlen, sparseGet_writePair hlen]
  unfold overlay
  by_cases hb : b / 64 = p
  · rw [if_pos hb, if_pos hb, if_pos (by omega), show b - 64 * p = b % 64 by omega]
  · rw [if_neg hb, if_neg hb, if_neg (by omega)]
    rfl

theorem Sound.putPair {s : State} (h : Sound s) {p : Nat} (hgood : s.PairGood p) {data : List Byte} (hlen : data.length = 64) :
    Overlaid s (s.putPair p data) (64 * p) data := by
  have hpoison : ∀ q, (s.putPair p data).poisoned q = s.poisoned q := by
    intro q
    by_cases hq : q = p
    · rw [hq, s.poisoned_putPair data hgood.1, hgood.2]
    · exact s.poisoned_putPair_other data hq
  have hstatus : (s.putPair p data).reg MEM_STATUS = s.reg MEM_STATUS := by rw [State.putPair_up hgood.1]; rfl
  refine ⟨?_, s.byte_putPair hgood.1 hlen, hpoison, hstatus⟩
  refine ⟨?_, fun e he => ((SameGood.mk hpoison hstatus).pairGood _).2 (h.good e ?_)⟩
  · rw [State.putPair_up hgood.1]
    exact h.nodup_filter _
  · rw [State.putPair_up hgood.1] at he
    exact List.mem_of_mem_filter he

/-- The mask of a partial write. -/
def writeMask (off n : Nat) : Nat := (List.range n).foldl (fun m i => setBitOf m (off + i)) 0

theorem testBit_writeMask (off n j : Nat) : (writeMask off n).testBit j = (decide (off ≤ j) && decide (j < off + n)) := by
  rw [writeMask, testBit_foldl_setBitOf]
  simp

/-- The line of a partial write, where its mask is set. -/
theorem getD_line {p off : Nat} {data : List Byte} (h : off + data.length ≤ 64) {b : Nat} (hb : b / 64 = p)
    (hin : 64 * p + off ≤ b ∧ b < 64 * p + off + data.length) :
    (spliceBytes (zeroBytes 64) off data).getD (b % 64) 0 = data.getD (b - (64 * p + off)) 0 := by
  have hi : b % 64 = off + (b - (64 * p + off)) := by omega
  rw [hi, getD_spliceBytes h (by omega)]

theorem testBit_writeMask_of_pair {p off n b : Nat} (hb : b / 64 = p) :
    (writeMask off n).testBit (b % 64) = decide (64 * p + off ≤ b ∧ b < 64 * p + off + n) := by
  rw [testBit_writeMask, ← Bool.decide_and]
  congr 1
  apply propext
  omega

/-- A pair's entry after a partial write: the new bytes over the old ones. -/
theorem getD_mergeData_line {p off : Nat} {data old : List Byte} (h : off + data.length ≤ 64) {b : Nat} (hb : b / 64 = p) :
    (mergeData old (spliceBytes (zeroBytes 64) off data) (writeMask off data.length)).getD (b % 64) 0 =
      overlay (fun b => old.getD (b % 64) 0) (64 * p + off) data b := by
  rw [getD_mergeData _ _ _ (Nat.mod_lt _ (by decide)), testBit_writeMask_of_pair hb, overlay]
  by_cases hin : 64 * p + off ≤ b ∧ b < 64 * p + off + data.length
  · rw [if_pos hin, if_pos (by simpa using hin), getD_line h hb hin]
  · rw [if_neg hin, if_neg (by simpa using hin)]

theorem overlay_of_outside {old : Nat → Byte} {a : Nat} {bs : List Byte} {b : Nat} (h : b < a ∨ a + bs.length ≤ b) : overlay old a bs b = old b :=
  if_neg (by omega)

/-- A partial write that meets its pair's entry, and completes it or not. -/
theorem Sound.byte_mergeWrite_some {s : State} (h : Sound s) {p off : Nat} {data : List Byte} {e : MergeEntry} (he : s.entry p = some e)
    (hgood : s.PairGood p) (hlen : off + data.length ≤ 64) : Overlaid s (s.mergeWrite p off data) (64 * p + off) data := by
  have hpair := s.pair_of_entry he
  have heq : s.mergeWrite p off data =
      if writeMask off data.length ||| e.mask = 2 ^ 64 - 1 then
        s.putPair p (mergeData e.data (spliceBytes (zeroBytes 64) off data) (writeMask off data.length))
      else s.modMem (fun m => { m with merge := m.merge.map (fun x => if x.pair = p then { x with
        mask := writeMask off data.length ||| e.mask
        data := mergeData e.data (spliceBytes (zeroBytes 64) off data) (writeMask off data.length) } else x) }) := by
    have he' : s.mem.merge.find? (fun e => e.pair == p) = some e := he
    rw [State.mergeWrite, if_neg (by simp [hgood.1])]
    simp only [he']
    rfl
  have hold : ∀ b, b / 64 = p → s.byte b = if e.mask.testBit (b % 64) then e.data.getD (b % 64) 0 else sparseGet 0 s.mem.bytes b := by
    intro b hb
    rw [h.byte_eq, hb, he]
  rw [heq]
  split
  next hfull =>
    have hput := h.putPair hgood (length_mergeData e.data (spliceBytes (zeroBytes 64) off data) (writeMask off data.length))
    refine ⟨hput.sound, fun b => ?_, hput.same⟩
    rw [hput.byte]
    by_cases hb : b / 64 = p
    · have hbit : (writeMask off data.length ||| e.mask).testBit (b % 64) = true := by
        rw [hfull, testBit_ones]
        simp
        omega
      rw [overlay, if_pos (by rw [length_mergeData]; omega), show b - 64 * p = b % 64 by omega, getD_mergeData_line hlen hb]
      by_cases hin : 64 * p + off ≤ b ∧ b < 64 * p + off + data.length
      · rw [overlay, overlay, if_pos hin, if_pos hin]
      · rw [Nat.testBit_or, testBit_writeMask_of_pair hb, decide_eq_false hin, Bool.false_or] at hbit
        rw [overlay_of_outside (by omega), overlay_of_outside (by omega), hold b hb, if_pos hbit]
    · rw [overlay_of_outside (by rw [length_mergeData]; omega), overlay_of_outside (by omega)]
  next =>
    set s1 := s.modMem _ with hs1
    have hmap : ∀ q, s1.entry q = (s.entry q).map (fun x => if x.pair = p then { x with
        mask := writeMask off data.length ||| e.mask
        data := mergeData e.data (spliceBytes (zeroBytes 64) off data) (writeMask off data.length) } else x) := by
      intro q
      rw [State.entry, hs1, State.modMem_mem, List.find?_map, State.entry]
      congr 2
      funext x
      simp only [Function.comp]
      split <;> rfl
    have hsame : SameGood s s1 := .of_mem rfl rfl
    have hkeys : ∀ x : MergeEntry, (if x.pair = p then { x with
        mask := writeMask off data.length ||| e.mask
        data := mergeData e.data (spliceBytes (zeroBytes 64) off data) (writeMask off data.length) } else x).pair = x.pair := by
      intro x
      split <;> rfl
    have hsound : Sound s1 := by
      refine ⟨?_, fun x hx => (hsame.pairGood _).2 ?_⟩
      · rw [hs1, State.modMem_mem, List.map_map]
        rw [show (fun x : MergeEntry => x.pair) ∘ _ = fun x => x.pair from funext hkeys]
        exact h.nodup
      · obtain ⟨y, hy, rfl⟩ := List.mem_map.1 hx
        rw [hkeys]
        exact h.good y hy
    refine ⟨hsound, fun b => ?_, hsame⟩
    rw [hsound.byte_eq, hmap]
    by_cases hb : b / 64 = p
    · rw [hb, he, Option.map_some, if_pos hpair]
      simp only [Nat.testBit_or, testBit_writeMask_of_pair hb, getD_mergeData_line hlen hb]
      by_cases hin : 64 * p + off ≤ b ∧ b < 64 * p + off + data.length
      · rw [decide_eq_true hin, Bool.true_or, if_pos rfl, overlay, overlay, if_pos hin, if_pos hin]
      · rw [decide_eq_false hin, Bool.false_or, overlay_of_outside (by omega), overlay_of_outside (by omega), hold b hb]
        rfl
    · rw [overlay_of_outside (by omega), h.byte_eq]
      cases hq : s.entry (b / 64) with
      | none => rfl
      | some x =>
        have hx : x.pair ≠ p := by rw [s.pair_of_entry hq]; exact hb
        simp only [Option.map_some, if_neg hx]
        rfl

/-- A new entry for a pair that has none. -/
theorem Sound.byte_newEntry {s : State} (h : Sound s) {p off : Nat} {data : List Byte} (hnone : s.entry p = none) (hgood : s.PairGood p)
    (hlen : off + data.length ≤ 64) (at_ : Nat) {t : State} (ht : t = s.modMem (fun m => { m with
      merge := m.merge ++ [⟨p, writeMask off data.length, spliceBytes (zeroBytes 64) off data, at_⟩] })) :
    Overlaid s t (64 * p + off) data := by
  have hsame : SameGood s t := by rw [ht]; exact .of_mem rfl rfl
  have hsound : Sound t := by
    refine ⟨?_, fun e he => (hsame.pairGood _).2 ?_⟩
    · rw [ht, State.modMem_mem, List.map_append, List.nodup_append]
      refine ⟨h.nodup, by simp, ?_⟩
      intro x hx y hy
      obtain ⟨e, he, rfl⟩ := List.mem_map.1 hx
      obtain rfl : y = p := by simpa using hy
      have := List.find?_eq_none.1 hnone e he
      simpa using this
    · rw [ht, State.modMem_mem, List.mem_append, List.mem_singleton] at he
      rcases he with he | rfl
      · exact h.good e he
      · exact hgood
  refine ⟨hsound, fun b => ?_, hsame⟩
  have hentry : ∀ q, t.entry q = (s.entry q).or (if p = q then some ⟨p, writeMask off data.length, spliceBytes (zeroBytes 64) off data, at_⟩
      else none) := by
    intro q
    rw [State.entry, ht, State.modMem_mem, List.find?_append, State.entry, List.find?_singleton]
    simp
  rw [hsound.byte_eq, hentry]
  by_cases hb : b / 64 = p
  · rw [hb, hnone, Option.none_or, if_pos rfl]
    simp only [testBit_writeMask_of_pair hb]
    by_cases hin : 64 * p + off ≤ b ∧ b < 64 * p + off + data.length
    · rw [decide_eq_true hin, if_pos rfl, getD_line hlen hb hin, overlay, if_pos hin]
    · rw [decide_eq_false hin, overlay_of_outside (by omega), h.byte_eq, hb, hnone, ht]
      rfl
  · rw [if_neg (Ne.symm hb), Option.or_none, overlay_of_outside (by omega), h.byte_eq, ht]
    rfl

theorem Sound.mergeWrite {s : State} (h : Sound s) {p off : Nat} {data : List Byte} (hgood : s.PairGood p) (hlen : off + data.length ≤ 64) :
    Overlaid s (s.mergeWrite p off data) (64 * p + off) data := by
  cases he : s.entry p with
  | some e => exact h.byte_mergeWrite_some he hgood hlen
  | none =>
    have he' : s.mem.merge.find? (fun e => e.pair == p) = none := he
    have heq : ∃ s1, s.mergeWrite p off data = s1.modMem (fun m => { m with
        merge := m.merge ++ [⟨p, writeMask off data.length, spliceBytes (zeroBytes 64) off data, s1.free⟩] }) ∧
        SamePool s s1 ∧ s1.entry p = none := by
      rw [State.mergeWrite, if_neg (by simp [hgood.1])]
      simp only [he']
      split
      next => exact ⟨s, rfl, .refl h, he⟩
      next =>
        split
        next old hold =>
          have hmem : old ∈ s.mem.merge := (List.mem_filter.1 (List.mem_of_mem_head? hold)).1
          refine ⟨s.flushEntry old, rfl, h.flushed hmem, ?_⟩
          rw [State.entry, h.flushEntry_mem hmem, find?_filter_pair]
          split
          · rfl
          · exact he
        next => exact ⟨s, rfl, .refl h, he⟩
    obtain ⟨s1, hs1, hsame, hnone⟩ := heq
    exact hsame.thenOverlaid (hsame.sound.byte_newEntry hnone ((hsame.same.pairGood p).2 hgood) hlen s1.free hs1)

/-- Two writes, the one behind the other. -/
theorem Overlaid.append {s t u : State} {a : Nat} {bs cs : List Byte} (h : Overlaid s t a bs) (h' : Overlaid t u (a + bs.length) cs) :
    Overlaid s u a (bs ++ cs) :=
  ⟨h'.sound, fun b => by rw [h'.byte, funext h.byte, overlay_overlay], h.same.trans h'.same⟩

theorem Sound.poolWriteFuel {n : Nat} {s : State} (h : Sound s) {a : Nat} {bs : List Byte} (hgood : ∀ p ∈ pairsOf a bs.length, s.PairGood p)
    (hn : bs.length ≤ n) : Overlaid s (State.poolWriteFuel n s a bs) a bs := by
  induction n generalizing s a bs with
  | zero =>
    obtain rfl : bs = [] := List.length_eq_zero_iff.1 (by omega)
    exact (SamePool.refl h).overlaid a
  | succ n ih =>
    rw [State.poolWriteFuel]
    by_cases hbs : bs = []
    · subst hbs
      exact (SamePool.refl h).overlaid a
    · have hpos : 0 < bs.length := List.length_pos_iff.2 hbs
      have hpart : (bs.take (64 - a % 64)).length = min (64 - a % 64) bs.length := List.length_take
      have haddr : 64 * (a / 64) + a % 64 = a := Nat.div_add_mod a 64
      have hfirst : s.PairGood (a / 64) := hgood _ ((mem_pairsOf (by omega)).2 (by omega))
      rw [if_neg (by simpa using hbs)]
      set s1 := if (bs.take (64 - a % 64)).length = 64 then s.putPair (a / 64) (bs.take (64 - a % 64))
        else s.mergeWrite (a / 64) (a % 64) (bs.take (64 - a % 64)) with hs1
      have hone : Overlaid s s1 a (bs.take (64 - a % 64)) := by
        rw [hs1]
        split
        next h64 =>
          have := h.putPair hfirst h64
          rwa [show 64 * (a / 64) = a by omega] at this
        next =>
          have := h.mergeWrite (off := a % 64) (data := bs.take (64 - a % 64)) hfirst (by omega)
          rwa [haddr] at this
      have hrest := ih hone.sound (a := a + (bs.take (64 - a % 64)).length) (bs := bs.drop (bs.take (64 - a % 64)).length) (fun p hp =>
        (hone.same.pairGood p).2 (hgood p (by
          by_cases hlen : (bs.drop (bs.take (64 - a % 64)).length).length = 0
          · rw [hlen] at hp
            simp [pairsOf] at hp
          · rw [mem_pairsOf hlen, List.length_drop] at hp
            rw [List.length_drop] at hlen
            rw [mem_pairsOf (by omega)]
            omega))) (by rw [List.length_drop]; omega)
      have hboth := hone.append hrest
      have hwhole : bs.take (64 - a % 64) ++ bs.drop (bs.take (64 - a % 64)).length = bs := by
        rw [hpart]
        rcases Nat.le_total (64 - a % 64) bs.length with hle | hle
        · rw [Nat.min_eq_left hle, List.take_append_drop]
        · rw [Nat.min_eq_right hle, List.drop_length, List.take_of_length_le hle, List.append_nil]
      rwa [hwhole] at hboth

/-- A write to good pairs changes the bytes it writes and no other. -/
theorem Sound.poolWrite {s : State} (h : Sound s) {a : Nat} {bs : List Byte} (hgood : ∀ p ∈ pairsOf a bs.length, s.PairGood p) :
    Overlaid s (s.poolWrite a bs) a bs := by
  have ht := h.transferred (a / 2 ^ 37 % 8)
  exact ht.thenOverlaid (ht.sound.poolWriteFuel (fun p hp => (ht.same.pairGood p).2 (hgood p hp)) (le_refl _))

theorem peek_of_overlay {s t : State} {a n : Nat} {bs : List Byte} (hlen : bs.length = n) (h : ∀ b, t.byte b = overlay s.byte a bs b) :
    t.peek a n = bs := by
  apply List.ext_getElem?
  intro i
  by_cases hi : i < n
  · rw [t.getElem?_peek hi, h, overlay, if_pos (by omega), Nat.add_sub_cancel_left, List.getD_eq_getElem _ _ (by omega),
      List.getElem?_eq_getElem (by omega)]
  · rw [List.getElem?_eq_none (by rw [t.length_peek]; omega), List.getElem?_eq_none (by omega)]

theorem Overlaid.peek_same {s t : State} {a : Nat} {bs : List Byte} (h : Overlaid s t a bs) : t.peek a bs.length = bs := peek_of_overlay rfl h.byte

theorem Overlaid.peek_other {s t : State} {a c n : Nat} {bs : List Byte} (h : Overlaid s t a bs) (hout : c + n ≤ a ∨ a + bs.length ≤ c) :
    t.peek c n = s.peek c n := State.peek_eq_of_byte fun i hi => by rw [h.byte, overlay_of_outside (by omega)]

end Sys2Proof.Machine
end

section
/-! PROOF. O40: the mailbox's standard commands, its logs and staging complete with their answer. -/

-- Proofs are checked one at a time: side by side they would only wait for one another.
set_option Elab.async false

namespace Sys2Proof.Machine
open Sys2Proof

/-! ### Little-endian numbers (R7) -/

theorem length_natLE (k v : Nat) : (natLE k v).length = k := by
  induction k generalizing v with
  | zero => rfl
  | succ k ih => rw [natLE, List.length_cons, ih]

theorem leNat_natLE (k v : Nat) : leNat (natLE k v) = v % 256 ^ k := by
  induction k generalizing v with
  | zero => simp [natLE, leNat, Nat.mod_one]
  | succ k ih =>
    rw [natLE, leNat, ih, BitVec.toNat_ofNat, show 256 ^ (k + 1) = 256 * 256 ^ k from Nat.pow_succ', Nat.mod_mul]

theorem leAt_append_natLE {a b : List Byte} {off k v : Nat} (hoff : a.length = off) (hv : v < 256 ^ k) :
    leAt (a ++ natLE k v ++ b) off k = v := by
  rw [leAt, List.append_assoc, List.drop_left' hoff, List.take_left' (length_natLE k v), leNat_natLE, Nat.mod_eq_of_lt hv]

/-! ### Commands that take the mailbox (R436) -/

theorem command_free {s : State} (h : MailboxFree s) (opcode : Nat) (act : State → State) : s.command opcode act = .next (act s) := by
  obtain ⟨hup, hbg⟩ := h
  simp [State.command, hup, hbg]

theorem command_busy {s : State} {b : Background} (hup : s.linkUp = true) (hb : s.host.background = some b) (opcode : Nat) (act : State → State) :
    s.command opcode act = .next (s.reply opcode rcBusy []) := by
  simp [State.command, hup, hb]

theorem command_down {s : State} (hdown : s.linkUp = false) (opcode : Nat) (act : State → State) : s.command opcode act = .next s := by
  simp [State.command, hdown]

/-- The commands that a background command keeps out, with their opcodes. -/
noncomputable def mailboxCommands (p : List Byte) : List (Instr × Nat) :=
  [(.getEventRecords p, 0x0100), (.clearEventRecords p, 0x0101), (.getSupportedLogs p, 0x0400), (.getLog p, 0x0401),
    (.identifyMemoryDevice p, 0x4000), (.getPoisonList p, 0x4300), (.mailboxUnsupported 0x0200, 0x0200), (.stageItinerary p, 0xC010),
    (.stageComponent p, 0xC011), (.updateComponent p, 0xC012), (.commit p, 0xC013), (.stopover p, 0xC030), (.readSnapshot p, 0xC031),
    (.getNonce p, 0xC040), (.ownerSet p, 0xC041), (.serviceClearLedger p, 0xC042), (.serviceClearOwner p, 0xC042)]

theorem exec_mailboxUnsupported {opcode : Nat} (h : opcodes.contains opcode = false) (s : State) :
    exec (.mailboxUnsupported opcode) s = s.command opcode (fun s => s.reply opcode rcUnsupported []) :=
  if_neg (by rw [h]; decide)

theorem exec_mailboxCommand {s : State} {p : List Byte} {c : Instr × Nat} (hc : c ∈ mailboxCommands p) :
    ∃ act, exec c.1 s = s.command c.2 act := by
  simp only [mailboxCommands, List.mem_cons, List.not_mem_nil, or_false] at hc
  obtain rfl | rfl | rfl | rfl | rfl | rfl | rfl | rfl | rfl | rfl | rfl | rfl | rfl | rfl | rfl | rfl | rfl := hc
  · exact ⟨_, (rfl : execGetEventRecords p s = _)⟩
  · exact ⟨_, (rfl : execClearEventRecords p s = _)⟩
  · exact ⟨_, (rfl : execGetSupportedLogs p s = _)⟩
  · exact ⟨_, (rfl : execGetLog p s = _)⟩
  · exact ⟨_, (rfl : execIdentifyMemoryDevice p s = _)⟩
  · exact ⟨_, (rfl : execGetPoisonList p s = _)⟩
  · exact ⟨_, exec_mailboxUnsupported (by decide) s⟩
  · exact ⟨_, (rfl : execStageItinerary p s = _)⟩
  · exact ⟨_, (rfl : execStageComponent p s = _)⟩
  · exact ⟨_, (rfl : execUpdateComponent p s = _)⟩
  · exact ⟨_, (rfl : execCommit p s = _)⟩
  · exact ⟨_, (rfl : execStopover p s = _)⟩
  · exact ⟨_, (rfl : execReadSnapshot p s = _)⟩
  · exact ⟨_, (rfl : execGetNonce p s = _)⟩
  · exact ⟨_, (rfl : execOwnerSet p s = _)⟩
  · exact ⟨_, (rfl : s.service p 1 (.ledger []) = _)⟩
  · exact ⟨_, (rfl : s.service p 2 (.owner none) = _)⟩

theorem completes_mailboxCommand_busy {s : State} {p : List Byte} {b : Background} {c : Instr × Nat} (hup : s.linkUp = true)
    (hb : s.host.background = some b) (hc : c ∈ mailboxCommands p) :
    Completes c.1 s (fun t => Answered s t c.2 6 [] ∧ t.host = s.host ∧ t.regs = s.regs) := by
  obtain ⟨act, hact⟩ := exec_mailboxCommand (s := s) hc
  exact ⟨_, hact.trans (command_busy hup hb _ _), answered_reply hup _ _ _, s.reply_host _ _ _, s.reply_regs _ _ _⟩

theorem exec_mailboxCommand_down {s : State} {p : List Byte} {c : Instr × Nat} (hdown : s.linkUp = false) (hc : c ∈ mailboxCommands p) :
    exec c.1 s = .next s := by
  obtain ⟨act, hact⟩ := exec_mailboxCommand (s := s) hc
  exact hact.trans (command_down hdown _ _)

theorem completes_mailbox_down {s : State} {p : List Byte} {c : Instr} (hdown : s.linkUp = false)
    (hc : c ∈ (mailboxCommands p).map (·.1) ∨ c = .reset p ∨ c = .getLogEntries p) : Completes c s (fun t => t = s) := by
  obtain hc | rfl | rfl := hc
  · obtain ⟨x, hx, rfl⟩ := List.mem_map.1 hc
    exact ⟨s, exec_mailboxCommand_down hdown hx, rfl⟩
  · exact ⟨s, (if_pos (by simp [hdown]) : execReset p s = _), rfl⟩
  · exact ⟨s, (if_pos (by simp [hdown]) : execGetLogEntries p s = _), rfl⟩

/-! ### The commands that answer at once -/

theorem completes_reply {s : State} {c : Instr} {opcode code : Nat} {payload : List Byte} {P : State → Prop} (hup : s.linkUp = true)
    (hc : exec c s = .next (s.reply opcode code payload))
    (hP : Answered s (s.reply opcode code payload) opcode code payload → P (s.reply opcode code payload)) : Completes c s P :=
  ⟨_, hc, hP (answered_reply hup _ _ _)⟩

theorem length_effectsLog : effectsLog.length = 68 := rfl

theorem exec_getEventRecords (p : List Byte) (s : State) : exec (.getEventRecords p) s = execGetEventRecords p s := rfl
theorem exec_clearEventRecords (p : List Byte) (s : State) : exec (.clearEventRecords p) s = execClearEventRecords p s := rfl
theorem exec_getSupportedLogs (p : List Byte) (s : State) : exec (.getSupportedLogs p) s = execGetSupportedLogs p s := rfl
theorem exec_getLog (p : List Byte) (s : State) : exec (.getLog p) s = execGetLog p s := rfl
theorem exec_identifyMemoryDevice (p : List Byte) (s : State) : exec (.identifyMemoryDevice p) s = execIdentifyMemoryDevice p s := rfl
theorem exec_getPoisonList (p : List Byte) (s : State) : exec (.getPoisonList p) s = execGetPoisonList p s := rfl
theorem exec_reset (p : List Byte) (s : State) : exec (.reset p) s = execReset p s := rfl
theorem exec_getLogEntries (p : List Byte) (s : State) : exec (.getLogEntries p) s = execGetLogEntries p s := rfl
theorem exec_stageItinerary (p : List Byte) (s : State) : exec (.stageItinerary p) s = execStageItinerary p s := rfl
theorem exec_stageComponent (p : List Byte) (s : State) : exec (.stageComponent p) s = execStageComponent p s := rfl

/-- A request for a part of the Command Effects Log: its length, the log that it names, and the part. -/
theorem getLogRequest (off n : Nat) (hoff : off < 2 ^ 32) (hn : n < 2 ^ 32) : (celId ++ natLE 4 off ++ natLE 4 n).length = 24 ∧
    (celId ++ natLE 4 off ++ natLE 4 n).take 16 = celId ∧ leAt (celId ++ natLE 4 off ++ natLE 4 n) 16 4 = off ∧
    leAt (celId ++ natLE 4 off ++ natLE 4 n) 20 4 = n := by
  refine ⟨by simp [length_natLE, celId], by rw [List.append_assoc]; exact List.take_left' rfl, leAt_append_natLE rfl hoff, ?_⟩
  have h := leAt_append_natLE (a := celId ++ natLE 4 off) (b := []) (off := 20) (k := 4) (v := n) (by simp [length_natLE, celId]) hn
  rwa [List.append_nil] at h

theorem completes_getLog {s : State} {off n : Nat} (h : MailboxFree s) (hlen : off + n ≤ 68) :
    Completes (.getLog (celId ++ natLE 4 off ++ natLE 4 n)) s (fun t => Answered s t 0x0401 0 ((effectsLog.drop off).take n)) := by
  obtain ⟨hlen24, hid, hfrom, hcount⟩ := getLogRequest off n (by omega) (by omega)
  refine completes_reply h.1 ?_ id
  rw [exec_getLog, execGetLog, command_free h]
  simp only [hlen24, hid, hfrom, hcount, length_effectsLog]
  rw [if_neg (by simp; omega)]
  rfl

theorem completes_getLog_invalid {s : State} {p : List Byte} (h : MailboxFree s) (hp : p.length ≠ 24 ∨ p.take 16 ≠ celId) :
    Completes (.getLog p) s (fun t => Answered s t 0x0401 2 []) := by
  refine completes_reply h.1 ?_ id
  rw [exec_getLog, execGetLog, command_free h]
  rw [if_pos (by tauto)]
  rfl

theorem completes_getPoisonList {s : State} {p : List Byte} (h : MailboxFree s) (hp : p.length = 16) :
    Completes (.getPoisonList p) s (fun t =>
      ∃ hits ∈ [s.poisonList.filter (fun w => decide (leAt p 0 8 ≤ w ∧ w < leAt p 0 8 + 64 * leAt p 8 8))],
        Answered s t 0x4300 0 (natLE 10 (if 1022 < hits.length then 1 else 0) ++ natLE 2 (min 1022 hits.length) ++ zeroBytes 20 ++
          (hits.take 1022).flatMap (fun w => natLE 8 (w / 64 * 64) ++ natLE 4 1 ++ zeroBytes 4))) := by
  refine completes_reply h.1 ?_ (fun ha => ⟨_, List.mem_singleton_self _, ha⟩)
  have hmore : ∀ n : Nat, (min 1022 n < n) = (1022 < n) := fun n => propext (by omega)
  rw [exec_getPoisonList, execGetPoisonList, command_free h]
  simp only [hp, ne_eq, not_true, if_false, List.length_take, hmore]
  rfl

theorem mem_poisonList {s : State} {i w : Nat} (hi : i < 4096) (hue : bitsOf (s.reg (WATCH_RING_MSG i)).toNat 53 48 = 0x22)
    (hw : s.windowOf (bitsOf (s.reg (WATCH_RING_MSG i)).toNat 39 0) = some w) : w ∈ s.poisonList := by
  rw [State.poisonList, List.mem_filterMap]
  refine ⟨i, List.mem_range.2 hi, ?_⟩
  simp only [hue, if_true, hw]

theorem exec_reset_up {s : State} (hup : s.linkUp = true) : exec (.reset []) s =
    .next ((((s.reply 0xC000 rcSuccess []).modHost (fun h => { h with background := none })).modHealth (fun h => { h with stopMailbox := false })).modPower
      (fun w => { w with resetDue := some (s.free + 1000 * ticksPerUs) })) := by
  rw [exec_reset, execReset, if_neg (by simp [hup]), if_neg (by simp)]

theorem completes_reset {s : State} (hup : s.linkUp = true) : Completes (.reset []) s (fun t => Answered s t 0xC000 0 [] ∧
    t.host.background = none ∧ t.host.writing = s.host.writing ∧ t.power.resetDue = some (s.free + 1000 * ticksPerUs) ∧ t.regs = s.regs) :=
  ⟨_, exec_reset_up hup, answered_reply hup _ _ _, rfl, congrArg (·.writing) (s.reply_host _ _ _), rfl, s.reply_regs _ _ _⟩

theorem completes_getLogEntries {s : State} {start n : Nat} (hup : s.linkUp = true) (hn : n ≤ 170) (hstart : start < 2 ^ 32) :
    Completes (.getLogEntries (natLE 4 start ++ natLE 2 n)) s (fun t =>
      Answered s t 0xC020 0 (((s.host.log.drop start).take n).flatMap logBytes) ∧ t.host = s.host) := by
  have hlen : (natLE 4 start ++ natLE 2 n).length = 6 := by simp [length_natLE]
  have hfrom : leAt (natLE 4 start ++ natLE 2 n) 0 4 = start := leAt_append_natLE (a := []) rfl hstart
  have hcount : leAt (natLE 4 start ++ natLE 2 n) 4 2 = n := by
    have h := leAt_append_natLE (a := natLE 4 start) (b := []) (off := 4) (k := 2) (v := n) (length_natLE _ _) (by omega)
    rwa [List.append_nil] at h
  refine completes_reply hup ?_ (fun ha => ⟨ha, s.reply_host _ _ _⟩)
  rw [exec_getLogEntries, execGetLogEntries, if_neg (by simp [hup]), hlen, hfrom, hcount, if_neg (by omega)]
  rfl

/-! ### Staging (R437) -/

/-- A command that starts in the background has answered Background (R436). -/
theorem completes_background {s : State} {c : Instr} {opcode code : Nat} {arg payload : List Byte} {ready : Bool} (hup : s.linkUp = true)
    (hc : exec c s = .next (s.background opcode arg code payload ready)) : Completes c s (fun t => Answered s t opcode 1 [] ∧
      t.host.background = some ⟨opcode, arg, code, payload, ready, true⟩ ∧ t.mem = s.mem) :=
  ⟨_, hc, answered_reply hup _ _ _, rfl, s.reply_mem _ _ _⟩

theorem exec_stageItinerary_free {s : State} {p : List Byte} (h : MailboxFree s) (hbusy : s.flag DV_ITIN_STATUS_BUSY = false)
    (hpending : s.flag DV_ITIN_STATUS_PENDING = false) : exec (.stageItinerary p) s =
      .next (if s.sourceOk p then s.background 0xC010 p rcSuccess [] true else s.reply 0xC010 rcInvalid []) := by
  rw [exec_stageItinerary, execStageItinerary, command_free h]
  simp [hbusy, hpending]
  cases s.sourceOk p <;> rfl

theorem exec_stageComponent_free {s : State} {p : List Byte} (h : MailboxFree s) (hupdating : s.updating = false) (hsource : s.sourceOk p = true) :
    exec (.stageComponent p) s = .next (s.background 0xC011 p rcSuccess [] true) := by
  rw [exec_stageComponent, execStageComponent, command_free h]
  simp [hupdating, hsource]

/-- A read of the window within one room. -/
theorem windowRead_room {s : State} (h : PoolClean s) {k w n a : Nat} (hn : 1 ≤ n) (hroom : w % 65536 + n ≤ 65536) (ha : s.windowAt w = some a) :
    (State.windowRead (k + 2) s w n).1 = some (s.peek a n) ∧ (State.windowRead (k + 2) s w n).2 = (s.poolRead a n).2 := by
  have hread := h.sound.poolRead (a := a) (n := n) fun p _ => h.pairGood p
  have hpiece : min n (65536 - w % 65536) = n := by omega
  rw [State.windowRead]
  simp only [if_neg (show ¬ n = 0 by omega), hpiece, ha]
  rcases hr : s.poolRead a n with ⟨b, s1⟩
  rw [hr] at hread
  obtain rfl : b = some (s.peek a n) := hread
  simp [State.windowRead]

/-! ### Registers that accesses to the pool count in (R357) -/

/-- An offset that is not one of the counts of reads that returned poison or of merged writes. -/
def OffPool (o : Nat) : Prop := ∀ st < 8, o ≠ MEM_STACK_CNT st 3 ∧ o ≠ MEM_STACK_CNT st 8

section
variable {s : State} {o : Nat}

theorem offPool_of_notMem (h : o ∉ (List.range 8).flatMap (fun st => [MEM_STACK_CNT st 3, MEM_STACK_CNT st 8])) : OffPool o := by
  intro st hst
  refine ⟨fun he => h ?_, fun he => h ?_⟩ <;> exact List.mem_flatMap.2 ⟨st, List.mem_range.2 hst, by simp [he]⟩

theorem offPool_of_lt (h : o < MEM_STATUS) : OffPool o := by
  intro st _
  unfold MEM_STACK_CNT
  unfold MEM_STATUS at h
  omega

theorem offPool_of_gt (h : 0x00C20000 ≤ o) : OffPool o := by
  intro st _
  unfold MEM_STACK_CNT
  omega

variable (ho : OffPool o)
include ho

theorem State.reg_openEntry (e : MergeEntry) : (s.openEntry e).reg o = s.reg o := by
  obtain ⟨h3, h8⟩ := ho _ (pairStack_lt e.pair)
  rw [State.openEntry]
  split
  · rw [State.memCount, State.reg_count_other _ h8, State.memCount, State.reg_count_other _ h3]
    rfl
  · rw [State.memCount, State.reg_count_other _ h3]
    rfl

theorem State.reg_flushEntry (e : MergeEntry) : (s.flushEntry e).reg o = s.reg o := by
  rw [State.flushEntry, State.mergeIn]
  split
  · exact s.reg_openEntry ho e
  · exact s.reg_openEntry ho e

theorem State.reg_settle (p : Nat) : (s.settle p).reg o = s.reg o := by
  rw [State.settle]
  split
  · exact s.reg_flushEntry ho _
  · rfl

theorem State.reg_touchPair (p : Nat) : (s.touchPair p).reg o = s.reg o := by
  have h := State.reg_settle (s := s.transferred (pairStack p)) ho p
  rw [State.touchPair]
  split
  · rw [State.memCount, State.reg_count_other _ (ho _ (pairStack_lt p)).2, h]
    rfl
  · exact h

theorem State.reg_poolRead (a n : Nat) : (s.poolRead a n).2.reg o = s.reg o := by
  have h : ((pairsOf a n).foldl State.touchPair s).reg o = s.reg o := State.reg_foldl (fun x p _ => x.reg_touchPair ho p) s
  rw [State.poolRead]
  split <;> exact h

omit ho in
theorem State.reg_putPair (p : Nat) (data : List Byte) : (s.putPair p data).reg o = s.reg o := by
  rw [State.putPair]
  split <;> rfl

theorem State.reg_mergeWrite (p off : Nat) (data : List Byte) : (s.mergeWrite p off data).reg o = s.reg o := by
  rw [State.mergeWrite]
  split
  next => rfl
  next =>
    dsimp only
    split
    next =>
      split
      · exact State.reg_putPair _ _
      · rfl
    next =>
      rw [State.modMem_reg]
      split
      · rfl
      · split
        · exact State.reg_flushEntry ho _
        · rfl

theorem State.reg_poolWriteFuel (n a : Nat) (bs : List Byte) : (State.poolWriteFuel n s a bs).reg o = s.reg o := by
  induction n generalizing s a bs with
  | zero => rfl
  | succ n ih =>
    rw [State.poolWriteFuel]
    split
    next => rfl
    next =>
      rw [ih]
      split
      · exact State.reg_putPair _ _
      · exact State.reg_mergeWrite ho _ _ _

theorem State.reg_poolWrite (a : Nat) (bs : List Byte) : (s.poolWrite a bs).reg o = s.reg o :=
  (State.reg_poolWriteFuel ho _ a bs).trans rfl

end

/-! ### The end of a staging command -/

theorem answered_msix_of_regs {s u : State} {opcode code : Nat} {payload : List Byte} (hup : s.linkUp = true)
    (hlink : u.reg MB_LINK_STATUS = s.reg MB_LINK_STATUS) (hmask : u.reg (MSIX_CTL 0) = s.reg (MSIX_CTL 0))
    (hmsix : u.out.msix = s.out.msix) (hbox : u.out.mailbox = s.out.mailbox ++ [(opcode, code, payload)]) :
    Answered s (u.msix 0) opcode code payload := by
  have hup' : u.linkUp = true := by
    rw [← hup, State.linkUp, State.linkUp, State.fld, State.fld]
    exact congrArg (fun w => bitsOf w.toNat _ _ != 0) hlink
  have hmask' : u.flag (MSIX_CTL_MASK 0) = s.flag (MSIX_CTL_MASK 0) := by
    rw [State.flag, State.flag, State.fld, State.fld]
    exact congrArg (fun w => bitsOf w.toNat _ _ != 0) hmask
  rw [State.msix_up hup', hmask']
  cases hm : s.flag (MSIX_CTL_MASK 0) <;> simp [Answered, Signalled, State.modOut, hbox, hmsix, hm]

/-- The note that a staging copy of an itinerary leaves: how long it is (R437). -/
def State.noteStaged (s : State) (l : Option Nat) : State := s.modHost (fun h => { h with stagedLen := l })

theorem stage_room {s : State} (hs : PoolClean s) {b : Background} {w n a : Nat} (hop : b.opcode = 0xC010) (harg : b.arg = natLE 8 w ++ natLE 4 n)
    (hw : w < 2 ^ 36) (hn : 1 ≤ n) (hroom : w % 65536 + n ≤ 65536) (ha : s.windowAt w = some a) :
    s.stage b = (((s.poolRead a n).2.poolWrite itinStaging (s.peek a n)).noteStaged (some n)).replyDone 0xC010 rcSuccess [] := by
  have hfrom : leAt b.arg 0 8 = w := by rw [harg]; exact leAt_append_natLE (a := []) rfl (by omega)
  have hlen : leAt b.arg 8 4 = n := by
    have h := leAt_append_natLE (a := natLE 8 w) (b := []) (off := 8) (k := 4) (v := n) (length_natLE _ _) (by omega)
    rw [List.append_nil] at h
    rw [harg, h]
  obtain ⟨hbytes, hstate⟩ := windowRead_room hs (k := n / 65536) hn hroom ha
  rw [State.stage]
  simp only [hfrom, hlen, hop, BEq.rfl, if_true]
  rcases hr : State.windowRead (n / 65536 + 2) s w n with ⟨bytes, s1⟩
  rw [hr] at hbytes hstate
  obtain rfl : bytes = some (s.peek a n) := hbytes
  obtain rfl : s1 = (s.poolRead a n).2 := hstate
  rfl

/-- The end of a staging command, from the state `u` that the copy leaves. -/
theorem staged_answers {s u : State} {n : Nat} (hup : s.linkUp = true) (hreg : ∀ o, OffPool o → u.reg o = s.reg o)
    (hhost : u.host = { s.host with background := none }) (hout : u.out = s.out) :
    Answered s ((u.noteStaged (some n)).replyDone 0xC010 rcSuccess []) 0xC010 0 [] ∧
    ((u.noteStaged (some n)).replyDone 0xC010 rcSuccess []).host.background = none ∧
    ((u.noteStaged (some n)).replyDone 0xC010 rcSuccess []).host.stagedLen = some n := by
  refine ⟨answered_msix_of_regs hup (hreg _ (offPool_of_gt (by decide))) (hreg _ (offPool_of_gt (by decide))) (congrArg (·.msix) hout)
    (congrArg (fun o : Output => o.mailbox ++ [(0xC010, 0, [])]) hout), ?_, ?_⟩
  · rw [State.replyDone_host]
    exact congrArg (·.background) hhost
  · rw [State.replyDone_host]
    rfl

theorem completes_stageItinerary_done {s : State} {b : Background} {w n a : Nat} (hup : s.linkUp = true) (hb : s.host.background = some b)
    (hready : b.ready = true) (hreport : b.report = true) (hop : b.opcode = 0xC010) (harg : b.arg = natLE 8 w ++ natLE 4 n) (hw : w < 2 ^ 36)
    (hn : 1 ≤ n) (hroom : w % 65536 + n ≤ 65536) (ha : s.windowAt w = some a) (hs : PoolClean s) :
    Completes .backgroundCommandDone s (fun t => Answered s t 0xC010 0 [] ∧ t.host.background = none ∧ t.host.stagedLen = some n ∧
      t.peek itinStaging n = s.peek a n) := by
  obtain ⟨s1, hs1⟩ : ∃ s1, s1 = s.modHost (fun h => { h with background := none }) := ⟨_, rfl⟩
  obtain ⟨u, hu⟩ : ∃ u, u = (s1.poolRead a n).2.poolWrite itinStaging (s1.peek a n) := ⟨_, rfl⟩
  have hclean : PoolClean s1 := by rw [hs1]; exact hs
  have hwithin : Within [.regs, .mem] s1 u := by rw [hu]; exact within_poolWrite.andThen (fun _ h => h) within_poolRead
  have hreg : ∀ o, OffPool o → u.reg o = s.reg o := by
    intro o ho
    rw [hu, State.reg_poolWrite ho, State.reg_poolRead ho, hs1, State.modHost_reg]
  obtain ⟨hanswer, hbg, hlen⟩ := staged_answers (n := n) hup hreg ((hwithin.same .host (by decide)).trans (by rw [hs1]; rfl))
    ((hwithin.same .out (by decide)).trans (by rw [hs1]; rfl))
  have hread := hclean.sound.poolRead_same a n
  have hwrite := hread.sound.poolWrite (a := itinStaging) (bs := s1.peek a n) fun p _ => (hread.same.pairGood p).2 (hclean.pairGood p)
  refine ⟨(u.noteStaged (some n)).replyDone 0xC010 rcSuccess [], ?_, hanswer, hbg, hlen, ?_⟩
  · rw [exec_backgroundCommandDone, execBackgroundCommandDone, hb]
    simp only [hready, hreport, hop, true_or, if_true, Bool.not_true, Bool.false_eq_true, if_false, ← hs1]
    rw [stage_room hclean hop harg hw hn hroom (by rw [hs1]; exact ha), ← hu]
  · rw [State.peek_congr_mem (State.replyDone_mem _ _ _ _)]
    rw [← hu] at hwrite
    refine (peek_of_overlay (s1.length_peek a n) hwrite.byte).trans ?_
    rw [hs1]
    rfl

/-- Settles O40. -/
theorem mailboxCompletes : Obligations.MailboxCompletes := by
  unfold Obligations.MailboxCompletes
  refine ⟨fun s p b c hup hb hc => completes_mailboxCommand_busy hup hb hc, ?down, ?events, ?clear, ?logs, fun s off n => completes_getLog,
    fun s p => completes_getLog_invalid, ?identify, fun s p => completes_getPoisonList, fun s i w => mem_poisonList, ?unsupported,
    fun s => completes_reset, fun s start n => completes_getLogEntries, ?itinerary, ?itineraryInvalid, ?component,
    fun s b w n a => completes_stageItinerary_done⟩
  case down =>
    intro s p c hdown hc
    refine completes_mailbox_down (p := p) hdown ?_
    simp only [mailboxCommands, List.map_cons, List.map_nil, List.mem_cons, List.not_mem_nil, or_false] at hc ⊢
    tauto
  case events =>
    intro s p h hp
    refine completes_reply h.1 ?_ (fun ha => ⟨ha, s.reply_regs _ _ _⟩)
    rw [exec_getEventRecords, execGetEventRecords, command_free h, if_neg (by omega)]
    rfl
  case clear =>
    intro s p h hp
    refine completes_reply h.1 ?_ (fun ha => ⟨ha, s.reply_regs _ _ _⟩)
    rw [exec_clearEventRecords, execClearEventRecords, command_free h, if_neg (by omega)]
    rfl
  case logs =>
    intro s h
    refine completes_reply h.1 ?_ id
    rw [exec_getSupportedLogs, execGetSupportedLogs, command_free h]
    rfl
  case identify =>
    intro s h
    refine completes_reply h.1 ?_ (fun ha => ⟨ha, s.reply_host _ _ _⟩)
    rw [exec_identifyMemoryDevice, execIdentifyMemoryDevice, command_free h]
    rfl
  case unsupported =>
    intro s opcode h hop
    refine completes_reply h.1 ?_ (fun ha => ⟨ha, s.reply_host _ _ _⟩)
    rw [exec_mailboxUnsupported hop, command_free h]
    rfl
  case itinerary =>
    intro s p h hbusy hpending hsource
    refine completes_background h.1 ?_
    rw [exec_stageItinerary_free h hbusy hpending, if_pos hsource]
    rfl
  case itineraryInvalid =>
    intro s p h hbusy hpending hsource
    refine completes_reply h.1 ?_ (fun ha => ⟨ha, s.reply_host _ _ _⟩)
    rw [exec_stageItinerary_free h hbusy hpending, if_neg (by simp [hsource])]
    rfl
  case component =>
    intro s p h hupdating hsource
    exact completes_background h.1 (exec_stageComponent_free h hupdating hsource)

end Sys2Proof.Machine
end

section
/-! SUPPORT. The registers that frames of the module's agents touch: those of the switch's own block and the counts of the choice window. Every other
register keeps its value while agents send, take and try again (R79, R113, R118). -/

-- Proofs are checked one at a time: side by side they would only wait for one another.
set_option Elab.async false

namespace Sys2Proof.Machine
open Sys2Proof

/-! ### A register outside a set -/

/-- An operation that a part's frame shows to leave the registers alone. -/
theorem Within.reg {ps : List Part} {s t : State} (h : Within ps s t) (hp : Part.regs ∉ ps) (o : Nat) : t.reg o = s.reg o :=
  State.reg_congr (h.same .regs hp).1 o

theorem State.fld_eq_of_reg {s t : State} {f : Fld} (h : t.reg f.off = s.reg f.off) : t.fld f = s.fld f := by rw [State.fld, h, State.fld]

theorem State.flag_eq_of_reg {s t : State} {f : Fld} (h : t.reg f.off = s.reg f.off) : t.flag f = s.flag f := by
  rw [State.flag, State.fld_eq_of_reg h, State.flag]

/-- The choice window's counts (R58). -/
def choiceRegs : List Nat := [BT_CHOICE, BT_CHOICE_FIRST] ++ (List.range 8).map BT_CHOICE_KIND

theorem mem_choiceRegs {o : Nat} : o ∈ choiceRegs ↔ BT_CHOICE ≤ o ∧ o < BT_CHOICE_KIND 8 ∧ o % 8 = 0 := by
  simp only [choiceRegs, List.cons_append, List.nil_append, List.mem_cons, List.mem_map, List.mem_range, BT_CHOICE, BT_CHOICE_FIRST, BT_CHOICE_KIND]
  constructor
  · rintro (h | h | ⟨k, hk, h⟩) <;> omega
  · intro h
    by_cases hkind : o < BT_CHOICE_KIND 0
    · unfold BT_CHOICE_KIND at hkind
      omega
    · refine .inr (.inr ⟨(o - BT_CHOICE_KIND 0) / 8, ?_⟩)
      unfold BT_CHOICE_KIND at hkind ⊢
      omega

/-- Not one of the choice window's counts (R58). -/
def OffChoice (o : Nat) : Prop := o ∉ choiceRegs

/-- Neither in the switch's block nor one of the choice window's counts. -/
def OffCore (o : Nat) : Prop := (o < 0x00200000 ∨ 0x00400000 ≤ o) ∧ OffChoice o

theorem offChoice_of_lt {o : Nat} (h : o < BT_CHOICE) : OffChoice o := fun ho => absurd (mem_choiceRegs.1 ho).1 (Nat.not_le_of_lt h)

theorem offChoice_above {o : Nat} (h : BT_CHOICE_KIND 8 ≤ o) : OffChoice o := fun ho => absurd h (Nat.not_le_of_lt (mem_choiceRegs.1 ho).2.1)

theorem offCore_of_lt {o : Nat} (h : o < 0x00200000) : OffCore o := ⟨.inl h, offChoice_of_lt (lt_of_lt_of_le h (by decide))⟩

theorem offCore_between {o : Nat} (h1 : 0x00400000 ≤ o) (h2 : o < BT_CHOICE) : OffCore o := ⟨.inr h1, offChoice_of_lt h2⟩

theorem offCore_above {o : Nat} (h : BT_CHOICE_KIND 8 ≤ o) : OffCore o := ⟨.inr (le_trans (by decide) h), offChoice_above h⟩

/-! ### A frame is queued in four steps (R115, R125) -/

/-- The shapers of the ports that a frame goes to are brought to the present tick. -/
def State.shapersTouched (s : State) (dests : List Dest) : State :=
  dests.foldl (fun s d => if d.out < 256 then s.touchShapers d.out else s) s

/-- The frame is stored under the number `id`, in the cells of the claim in hand. -/
def State.stored (s : State) (f : Frame) (inPort owner cells : Nat) (whole : Bool) (eth : Option (List Byte)) (id : Nat) : State :=
  s.modSw (fun w => { w with nextId := id + 1, hand := [], descs := w.descs ++ [⟨id, f, inPort, owner, cells, w.hand, whole, eth⟩] })

/-- Its copies are queued; one that cannot be is counted. -/
def State.copiesQueued (s : State) (f : Frame) (id cells : Nat) (dests : List Dest) (held : Bool) : State :=
  dests.foldl (fun s d => match (if decide (2 ≤ dests.length) || f.destKind == 2 then s.copyBar (decide (2 ≤ dests.length)) d else none) with
    | some ctr => s.count ctr
    | none => s.addCopy id f.vc cells (decide (2 ≤ dests.length)) (held && decide (d.out < 64)) d) s

/-- The ports' waits for credit are noted. -/
def State.sinksTouched (s : State) (dests : List Dest) : State :=
  dests.foldl (fun s d => if d.out < 256 then s.touchSinks d.out else s) s

theorem State.enqueue_eq (s : State) (f : Frame) (inPort owner cells : Nat) (whole : Bool) (eth : Option (List Byte)) (dests : List Dest) (held : Bool) :
    s.enqueue f inPort owner cells whole eth dests held =
      if whole then ((((s.shapersTouched dests).stored f inPort owner cells whole eth s.sw.nextId).copiesQueued f s.sw.nextId cells dests
        held).sinksTouched dests).reap s.sw.nextId
      else (((s.shapersTouched dests).stored f inPort owner cells whole eth s.sw.nextId).copiesQueued f s.sw.nextId cells dests held).sinksTouched
        dests := rfl

section
variable {s : State} {o : Nat}

/-! ### The choice window -/

section
variable (ho : OffChoice o)
include ho

theorem OffChoice.ne_choice : o ≠ BT_CHOICE := fun h => ho (h ▸ .head _)

theorem OffChoice.ne_first : o ≠ BT_CHOICE_FIRST := fun h => ho (h ▸ .tail _ (.head _))

theorem OffChoice.ne_kind {k : Nat} (hk : k < 8) : o ≠ BT_CHOICE_KIND k := fun h =>
  ho (h ▸ .tail _ (.tail _ (List.mem_map_of_mem (List.mem_range.2 hk))))

theorem State.reg_countChoice {k : Nat} (hk : k < 8) : (s.countChoice k).reg o = s.reg o := by
  have h1 : ∀ v, (s.setFld BT_CHOICE_TOTAL v).reg o = s.reg o := fun v => State.reg_setFld_other _ _ _ ho.ne_choice
  rw [State.countChoice]
  split
  next =>
    dsimp only
    rw [State.reg_setReg_other _ _ (ho.ne_kind hk), State.reg_setFld_other _ _ _ ho.ne_choice]
    split
    next => rfl
    next =>
      rw [State.reg_setReg_other _ _ ho.ne_first, State.reg_setFld_other _ _ _ ho.ne_choice, State.reg_raise_other _ _ ho.ne_choice]
  next => rfl

theorem State.reg_openWindow : s.openWindow.reg o = s.reg o := by
  have hkinds : ∀ u : State, ((List.range 8).foldl (fun s k => s.setReg (BT_CHOICE_KIND k) 0) u).reg o = u.reg o := fun u =>
    State.reg_foldl (fun x k hk => x.reg_setReg_other _ (ho.ne_kind (List.mem_range.1 hk))) u
  have hclear : ((List.range 8).foldl (fun s k => s.setReg (BT_CHOICE_KIND k) 0) ((s.setReg BT_CHOICE 0).setReg BT_CHOICE_FIRST 0)).reg o =
      s.reg o := by
    rw [hkinds, State.reg_setReg_other _ _ ho.ne_first, State.reg_setReg_other _ _ ho.ne_choice]
  rw [State.openWindow]
  split
  · exact hclear
  · exact (State.reg_countChoice ho (by decide)).trans hclear

theorem State.reg_choice {k : Nat} (hk : k < 8) : (s.choice k).reg o = s.reg o := by
  rw [State.choice, State.reg_countChoice ho hk]
  split
  · exact State.reg_openWindow ho
  · rfl

end

/-! ### The pool's counts -/

section
variable (ho : o < 0x00200000 ∨ 0x00400000 ≤ o)
include ho

theorem ne_ownerStat (w : Nat) : o ≠ ownerStat w := by
  unfold ownerStat SW_OWNER_STAT SW_AGENT_STAT
  split <;> omega

theorem ne_qlen {p c sub : Nat} (hp : p < 256) : o ≠ SW_QLEN (portOwner p c sub) := by
  unfold SW_QLEN portOwner
  omega

theorem ne_of_switchBlock {d : Nat} (hd : 0x00200000 ≤ d ∧ d < 0x00400000) : o ≠ d := by omega

theorem State.reg_showPool : s.showPool.reg o = s.reg o := s.reg_setFld_other _ _ (ne_of_switchBlock ho (by decide))

theorem State.reg_moveShared (w c c' : Nat) : (s.moveShared w c c').reg o = s.reg o := by
  rw [State.moveShared, State.reg_showPool ho]
  rfl

theorem State.reg_takeCells (w k : Nat) : (s.takeCells w k).reg o = s.reg o := by
  rw [State.takeCells, State.yieldCells, State.modSw_reg, State.reg_moveShared ho, State.reg_setFld_other _ _ _ (ne_ownerStat ho w)]

theorem State.reg_freeCells (w k : Nat) (chain : List Nat) : (s.freeCells w k chain).reg o = s.reg o := by
  rw [State.freeCells, State.modSw_reg, State.reg_moveShared ho, State.reg_setFld_other _ _ _ (ne_ownerStat ho w)]

theorem State.reg_releaseCells (w p k : Nat) (chain : List Nat) : (s.releaseCells w p k chain).reg o = s.reg o := by
  rw [State.releaseCells]
  split
  · rw [within_detourBack.reg (by decide), State.reg_freeCells ho]
  · exact State.reg_freeCells ho w k chain

theorem State.reg_takeAgent (f : Frame) : (s.takeAgent f).reg o = s.reg o := by
  rw [State.takeAgent]
  split
  · rfl
  · exact (State.reg_releaseCells ho _ _ _ _).trans rfl

/-! ### Frames are queued -/

theorem State.reg_qlenAdd (p c sub k : Nat) : (s.qlenAdd p c sub k).reg o = s.reg o := by
  rw [State.qlenAdd]
  split
  next hp => exact s.reg_setFld_other _ _ (ne_qlen ho hp)
  next => rfl

theorem State.reg_addCopy (id vc cells : Nat) (mcast held : Bool) (d : Dest) : (s.addCopy id vc cells mcast held d).reg o = s.reg o := by
  rw [State.addCopy, State.reg_qlenAdd ho]
  rfl

theorem State.reg_copyBar {many : Bool} {d : Dest} {ctr : Nat} {u : State} (h : u.copyBar many d = some ctr) :
    (s.count ctr).reg o = s.reg o := by
  refine s.reg_count_other (ne_of_switchBlock ho ?_)
  unfold State.copyBar at h
  split_ifs at h <;> cases h <;> decide

theorem State.reg_reap (id : Nat) : (s.reap id).reg o = s.reg o := by
  rw [State.reap]
  split
  · rfl
  · split
    · rfl
    · exact State.reg_releaseCells ho _ _ _ _

omit ho in
theorem State.reg_shapersTouched (dests : List Dest) : (s.shapersTouched dests).reg o = s.reg o := by
  refine State.reg_foldl (fun x d _ => ?_) s
  split
  · exact within_touchShapers.reg (by decide) o
  · rfl

omit ho in
theorem State.reg_sinksTouched (dests : List Dest) : (s.sinksTouched dests).reg o = s.reg o := by
  refine State.reg_foldl (fun x d _ => ?_) s
  split
  · exact within_touchSinks.reg (by decide) o
  · rfl

theorem State.reg_copiesQueued (f : Frame) (id cells : Nat) (dests : List Dest) (held : Bool) :
    (s.copiesQueued f id cells dests held).reg o = s.reg o := by
  refine State.reg_foldl (fun x d _ => ?_) s
  split
  next ctr hctr =>
    split at hctr
    · exact State.reg_copyBar ho hctr
    · cases hctr
  next => exact State.reg_addCopy ho _ _ _ _ _ _

theorem State.reg_enqueue (f : Frame) (inPort owner cells : Nat) (whole : Bool) (eth : Option (List Byte)) (dests : List Dest) (held : Bool) :
    (s.enqueue f inPort owner cells whole eth dests held).reg o = s.reg o := by
  have h : (((((s.shapersTouched dests).stored f inPort owner cells whole eth s.sw.nextId).copiesQueued f s.sw.nextId cells dests held).sinksTouched
      dests)).reg o = s.reg o := by
    rw [State.reg_sinksTouched, State.reg_copiesQueued ho]
    exact State.reg_shapersTouched dests
  rw [State.enqueue_eq]
  cases whole with
  | true => exact (State.reg_reap ho _).trans h
  | false => exact h

omit ho in
theorem State.reg_handOverAll : s.handOverAll.reg o = s.reg o := within_handOverAll.reg (by decide) o

end

/-! ### The counter of a frame that is dropped -/

theorem localFate_ne_drop (f : Frame) (p ctr : Nat) : s.localFate f p ≠ .drop ctr := by
  unfold State.localFate
  split_ifs <;> try exact Fate.noConfusion
  split <;> exact Fate.noConfusion

theorem startAxis_ne_drop (f : Frame) (dst a ctr : Nat) (t : State) : s.startAxis f dst a ≠ (.drop ctr, t) := by
  unfold State.startAxis
  dsimp only
  split <;> simp

theorem waystation_ne_drop (f : Frame) (dst b ctr : Nat) (t : State) : s.waystation f dst b ≠ (.drop ctr, t) := by
  unfold State.waystation
  dsimp only
  split
  · simp
  · split <;> split <;> simp

theorem routeStart_ne_drop (f : Frame) (dst : Nat) (again : Bool) (ctr : Nat) (t : State) : s.routeStart f dst again ≠ (.drop ctr, t) := by
  unfold State.routeStart
  dsimp only
  split
  next =>
    split
    · exact fun h => localFate_ne_drop f _ ctr (Prod.mk.inj h).1
    · unfold State.openSend
      split
      · split <;> simp
      · simp
  next =>
    split
    · exact fun h => localFate_ne_drop f _ ctr (Prod.mk.inj h).1
    · split
      · simp
      · split
        · exact startAxis_ne_drop f _ _ ctr t
        · split
          · simp
          · exact waystation_ne_drop f _ _ ctr t

/-- Only a coach drops an agent's frame with a counter of its own, and always with the same (R94). -/
theorem agentFate_drop {f : Frame} {ctr : Nat} {t : State} (h : s.agentFate f = (.drop ctr, t)) : ctr = SW_DROP_RANK := by
  unfold State.agentFate at h
  split at h
  next =>
    split at h
    · simp at h
    · exact absurd h (routeStart_ne_drop _ _ _ ctr t)
  next =>
    split at h
    next =>
      have hfate := (Prod.mk.inj h).1
      unfold State.coachFate at hfate
      simp only at hfate
      split at hfate
      · exact (Fate.drop.inj hfate).symm
      · split at hfate <;> cases hfate
    next => exact absurd h (routeStart_ne_drop _ _ _ ctr t)

/-! ### Agents send, and try again -/

section
variable (ho : OffCore o)
include ho

theorem State.reg_pickPort (f : Frame) (a : Nat) (dirs : List Bool) (dlOf : Bool → Nat) : (s.pickPort f a dirs dlOf).2.reg o = s.reg o := by
  have hchoice : ∀ n : Nat, (if 2 ≤ n then s.choice 0 else s).reg o = s.reg o := by
    intro n
    split
    · exact State.reg_choice ho.2 (by decide)
    · rfl
  rw [State.pickPort]
  split
  next => rfl
  next =>
    split
    next =>
      dsimp only
      split
      · exact hchoice _
      · exact hchoice _
    next => rfl

theorem State.reg_startAxis (f : Frame) (dst a : Nat) : (s.startAxis f dst a).2.reg o = s.reg o := by
  have h := State.reg_pickPort (s := s) ho f a (s.openDirs s.coord dst a true) (fun d => if s.crosses s.coord a d then 1 else 0)
  rw [State.startAxis]
  dsimp only
  split
  next heq => rw [heq] at h; exact h
  next heq => rw [heq] at h; exact h

theorem State.reg_waystation (f : Frame) (dst b : Nat) : (s.waystation f dst b).2.reg o = s.reg o := by
  have h := State.reg_pickPort (s := s) ho f b (s.openDirs s.coord dst b true) (fun d => if s.crosses s.coord b d then 1 else 0)
  rw [State.waystation]
  dsimp only
  split
  next heq => rw [heq] at h; exact h
  next heq =>
    rw [heq] at h
    split
    · split <;> exact h
    · split <;> exact h

theorem State.reg_routeStart (f : Frame) (dst : Nat) (again : Bool) : (s.routeStart f dst again).2.reg o = s.reg o := by
  rw [State.routeStart]
  split
  · rfl
  · split
    · rfl
    · split
      · rfl
      · split
        · exact State.reg_startAxis ho _ _ _
        · split
          · rfl
          · exact State.reg_waystation ho _ _ _

theorem State.reg_agentFate (f : Frame) : (s.agentFate f).2.reg o = s.reg o := by
  rw [State.agentFate]
  split
  · split
    · rfl
    · exact State.reg_routeStart ho _ _ _
  · split
    · rfl
    · exact State.reg_routeStart ho _ _ _

theorem State.reg_agentPlace (a : Nat) (f : Frame) (places : List Dest) : (s.agentPlace a f places).reg o = s.reg o := by
  have hfate : (if places.isEmpty then s.agentFate f else (.go places, s)).2.reg o = s.reg o := by
    split
    · exact State.reg_agentFate ho f
    · rfl
  rw [State.agentPlace]
  split
  next dests s' heq =>
    rw [heq] at hfate
    split
    · exact hfate
    · dsimp only
      split
      · rw [State.reg_handOverAll, State.reg_enqueue ho.1, State.reg_takeCells ho.1]
        exact hfate
      · exact hfate
  next st s' heq =>
    rw [heq] at hfate
    have hctr : 0x00200000 ≤ refusalCounter st ∧ refusalCounter st < 0x00400000 := by
      unfold refusalCounter
      split_ifs <;> decide
    exact (State.reg_count_other _ (ne_of_switchBlock ho.1 hctr)).trans hfate
  next ctr s' heq =>
    have hctr : 0x00200000 ≤ ctr ∧ ctr < 0x00400000 := by
      split at heq
      · rw [agentFate_drop heq]
        decide
      · cases heq
    rw [heq] at hfate
    exact (State.reg_count_other _ (ne_of_switchBlock ho.1 hctr)).trans hfate
  next s' heq =>
    rw [heq] at hfate
    exact hfate

theorem State.reg_agentSend (a : Nat) (f : Frame) : (s.agentSend a f).reg o = s.reg o := State.reg_agentPlace ho _ _ _

theorem State.reg_retryAgents : s.retryAgents.reg o = s.reg o := by
  rw [State.retryAgents]
  exact State.reg_handOverAll.trans (State.reg_foldl (fun x y _ => State.reg_agentPlace ho _ _ _) _)

end

end

end Sys2Proof.Machine
end

section
/-! PROOF. O51 fails at its last clause, that reserved bits read 0: the pending-bit array shows a bit for each vector number that pends, and the clause
quantifies over every state, one with a vector beyond the four of the table among them. -/

-- Proofs are checked one at a time: side by side they would only wait for one another.
set_option Elab.async false

namespace Sys2Proof.Machine
open Sys2Proof

/-- A module whose vector 40 pends. -/
def strayVector : State := { State.reset with out := { State.reset.out with pba := [40] } }

/-- The row of the pending-bit array (R435): one bit for each of four vectors. -/
def pbaRow : RegRow := ⟨MSIX_PBA, 8, 1, 1, [⟨3, 0, .ro, 0, []⟩]⟩

theorem regRow_pba : regRow? MSIX_PBA = some pbaRow := by decide +kernel

theorem strayVector_reads : (strayVector.readWord MSIX_PBA).toNat.testBit 40 = true := by decide +kernel

/-- Refutes O51. -/
theorem not_plainWritesFollowTheirFields : ¬ Obligations.PlainWritesFollowTheirFields := by
  unfold Obligations.PlainWritesFollowTheirFields
  rintro ⟨-, -, hreserved⟩
  have hzero := hreserved strayVector MSIX_PBA 40 pbaRow regRow_pba (by decide) (by decide)
  rw [strayVector_reads] at hzero
  cases hzero

end Sys2Proof.Machine
end

section
/-! PROOF. O14 and O26: the choice window, and the controls of the stays service. What a plain write leaves in a field stands here too. -/

-- Proofs are checked one at a time: side by side they would only wait for one another.
set_option Elab.async false

namespace Sys2Proof.Machine
open Sys2Proof

/-! ### A field after a plain write (R11, R15) -/

/-- Fields of one register that share no bit, all within a word. -/
def FieldsApart (fs : List FieldRow) : Prop := (∀ f ∈ fs, f.hi < 64) ∧ fs.Pairwise (fun f g => g.hi < f.lo ∨ f.hi < g.lo)

theorem fieldsApart_of_row {off : Nat} {r : RegRow} (h : regRow? off = some r) : FieldsApart r.fields := by
  have hall : regRows.all (fun r => decide ((∀ f ∈ r.fields, f.hi < 64) ∧ r.fields.Pairwise (fun f g => g.hi < f.lo ∨ f.hi < g.lo))) = true := by
    decide +kernel
  simpa [FieldsApart] using List.all_eq_true.1 hall r (List.mem_of_find?_eq_some h)

/-- What a write makes of one field of a word. -/
def writeField (old new fresh : Word) (w : Word) (f : FieldRow) : Word :=
  match f.acc with
  | .ro => w
  | .wo => w
  | .rw => if f.ok (bitsOf new.toNat f.hi f.lo) then putFld w f.hi f.lo (bitsOf new.toNat f.hi f.lo) else w
  | .w1c => putFld w f.hi f.lo (clearMask (bitsOf old.toNat f.hi f.lo) (bitsOf (new &&& ~~~fresh).toNat f.hi f.lo) (f.hi + 1 - f.lo))
  | .rs => putFld w f.hi f.lo (clearMask (bitsOf old.toNat f.hi f.lo) (bitsOf (new &&& ~~~fresh).toNat f.hi f.lo) (f.hi + 1 - f.lo))

theorem writeFields_eq_foldl (fs : List FieldRow) (old new fresh : Word) :
    writeFields fs old new fresh = fs.foldl (writeField old new fresh) old := rfl

theorem bitsOf_writeField_other (old new fresh w : Word) {f : FieldRow} {hi lo : Nat} (h : hi < f.lo ∨ f.hi < lo) (h64 : hi < 64) :
    bitsOf (writeField old new fresh w f).toNat hi lo = bitsOf w.toNat hi lo := by
  unfold writeField
  split
  · rfl
  · rfl
  · split
    · exact bitsOf_putFld_other _ _ _ _ _ _ h h64
    · rfl
  · exact bitsOf_putFld_other _ _ _ _ _ _ h h64
  · exact bitsOf_putFld_other _ _ _ _ _ _ h h64

theorem bitsOf_foldl_writeField_other (old new fresh : Word) {fs : List FieldRow} {hi lo : Nat} (h : ∀ f ∈ fs, hi < f.lo ∨ f.hi < lo) (h64 : hi < 64)
    (w : Word) : bitsOf (fs.foldl (writeField old new fresh) w).toNat hi lo = bitsOf w.toNat hi lo := by
  induction fs generalizing w with
  | nil => rfl
  | cons f fs ih =>
    rw [List.foldl_cons, ih (fun g hg => h g (by simp [hg])), bitsOf_writeField_other _ _ _ _ (h f (by simp)) h64]

/-- A field that shares no bit with the rest of its register holds what the write makes of it alone. -/
theorem bitsOf_writeFields {fs : List FieldRow} (hfs : FieldsApart fs) (old new fresh : Word) {f : FieldRow} (hf : f ∈ fs) :
    bitsOf (writeFields fs old new fresh).toNat f.hi f.lo = bitsOf (writeField old new fresh old f).toNat f.hi f.lo := by
  obtain ⟨as, bs, rfl⟩ := List.append_of_mem hf
  obtain ⟨h64, hpair⟩ := hfs
  obtain ⟨-, hcons, has⟩ := List.pairwise_append.1 hpair
  obtain ⟨hbs, -⟩ := List.pairwise_cons.1 hcons
  have hlt : f.hi < 64 := h64 f hf
  rw [writeFields_eq_foldl, List.foldl_append, List.foldl_cons,
    bitsOf_foldl_writeField_other _ _ _ (fun g hg => (hbs g hg).symm) hlt]
  have hpre : bitsOf (as.foldl (writeField old new fresh) old).toNat f.hi f.lo = bitsOf old.toNat f.hi f.lo :=
    bitsOf_foldl_writeField_other _ _ _ (fun g hg => has g hg f (by simp)) hlt old
  unfold writeField
  split
  · exact hpre
  · exact hpre
  · split
    · rw [bitsOf_putFld_same _ _ _ _ hlt, bitsOf_putFld_same _ _ _ _ hlt]
    · exact hpre
  · rw [bitsOf_putFld_same _ _ _ _ hlt, bitsOf_putFld_same _ _ _ _ hlt]
  · rw [bitsOf_putFld_same _ _ _ _ hlt, bitsOf_putFld_same _ _ _ _ hlt]

/-- An RW field without reserved values holds the value written. -/
theorem State.bitsOf_written (s : State) {off value : Nat} {r : RegRow} {hi lo reset : Nat} (hrow : regRow? off = some r)
    (hf : (⟨hi, lo, .rw, reset, []⟩ : FieldRow) ∈ r.fields) : bitsOf (s.written off value).toNat hi lo = bitsOf value hi lo := by
  have hfs := fieldsApart_of_row hrow
  have hlt : hi < 64 := hfs.1 _ hf
  have hok : (⟨hi, lo, .rw, reset, []⟩ : FieldRow).ok (bitsOf (BitVec.ofNat 64 value).toNat hi lo) = true := rfl
  rw [State.written, hrow]
  refine (bitsOf_writeFields hfs _ _ _ hf).trans ?_
  simp only [writeField, hok, if_true]
  rw [bitsOf_putFld_same _ _ _ _ hlt, bitsOf_ofNat hlt, Nat.mod_eq_of_lt (bitsOf_lt _ _ _)]

theorem State.fld_writePlain (s : State) {F : Fld} {value : Nat} {r : RegRow} {reset : Nat} (hrow : regRow? F.off = some r)
    (hf : (⟨F.hi, F.lo, .rw, reset, []⟩ : FieldRow) ∈ r.fields) : (s.writePlain F.off value).fld F = bitsOf value F.hi F.lo := by
  rw [State.writePlain, State.fld_setReg_same, s.bitsOf_written hrow hf]

theorem State.reg_writePlain_other (s : State) {off o : Nat} (value : Nat) (h : o ≠ off) : (s.writePlain off value).reg o = s.reg o :=
  s.reg_setReg_other _ h

/-! ### O14: the choice window (R47, R55, R58) -/

theorem exec_choiceWindowWrite (isEnd : Bool) (tick : Nat) (s : State) :
    exec (.choiceWindowWrite isEnd tick) s = execChoiceWindowWrite isEnd tick s := rfl

theorem exec_choiceWindowOpen (s : State) : exec .choiceWindowOpen s = .next (if s.windowDue then s.openWindow else s) := rfl

theorem tickAhead_of_le {s : State} {tick : Nat} (hset : s.bellSet = true) (h : s.now + 8000 ≤ tick) : s.tickAhead tick = true := by
  simp [State.tickAhead, hset, h]

theorem tickAhead_eq_false {s : State} {tick : Nat} (h : s.bellSet = false ∨ tick < s.now + 8000) : s.tickAhead tick = false := by
  rcases h with h | h
  · simp [State.tickAhead, h]
  · simp [State.tickAhead]
    omega

/-- The window's counts cleared. -/
def State.windowCleared (s : State) : State :=
  { (List.range 8).foldl (fun s k => s.setReg (BT_CHOICE_KIND k) 0) ((s.setReg BT_CHOICE 0).setReg BT_CHOICE_FIRST 0) with windowArmed := false }

theorem State.openWindow_eq (s : State) : s.openWindow =
    if s.windowCleared.fld BT_STATUS_LOCK = 1 then s.windowCleared else s.windowCleared.countChoice 6 := rfl

theorem State.reg_windowCleared (s : State) (o : Nat) : s.windowCleared.reg o =
    if BT_CHOICE ≤ o ∧ o < BT_CHOICE_KIND 8 ∧ o % 8 = 0 then 0 else s.reg o := by
  have hstep : ∀ (n : Nat) (u : State), ((List.range n).foldl (fun s k => s.setReg (BT_CHOICE_KIND k) 0) u).reg o =
      if BT_CHOICE_KIND 0 ≤ o ∧ o < BT_CHOICE_KIND n ∧ o % 8 = 0 then 0 else u.reg o := by
    intro n u
    induction n with
    | zero => simp; omega
    | succ n ih =>
      rw [List.range_succ, List.foldl_append, List.foldl_cons, List.foldl_nil, State.reg_setReg, ih]
      unfold BT_CHOICE_KIND
      grind
  refine (hstep 8 _).trans ?_
  rw [State.reg_setReg, State.reg_setReg]
  unfold BT_CHOICE_KIND BT_CHOICE_FIRST BT_CHOICE
  grind

theorem State.reg_windowCleared_off (s : State) {o : Nat} (ho : OffChoice o) : s.windowCleared.reg o = s.reg o := by
  rw [s.reg_windowCleared, if_neg (fun h => ho (mem_choiceRegs.2 h))]

theorem completes_windowRefused {s : State} {isEnd : Bool} {tick : Nat} (h : s.bellSet = false ∨ tick < s.now + 8000) :
    Completes (.choiceWindowWrite isEnd tick) s (fun t =>
      t.fld BT_TIMED_ERR_WINDOW_REFUSED = 1 ∧ t.reg BT_RUN_START = s.reg BT_RUN_START ∧ t.reg BT_RUN_END = s.reg BT_RUN_END) := by
  refine ⟨s.raise BT_TIMED_ERR_WINDOW_REFUSED, ?_, s.fld_raise_same _ (by decide), s.reg_raise_other _ (by decide), s.reg_raise_other _ (by decide)⟩
  rw [exec_choiceWindowWrite, execChoiceWindowWrite, tickAhead_eq_false h]
  rfl

theorem completes_windowBound {s : State} {isEnd : Bool} {tick : Nat} (hset : s.bellSet = true) (h : s.now + 8000 ≤ tick) {P : State → Prop}
    (hP : P (if isEnd then s.setReg BT_RUN_END (BitVec.ofNat 64 tick)
      else { s.setReg BT_RUN_START (BitVec.ofNat 64 tick) with windowArmed := true })) : Completes (.choiceWindowWrite isEnd tick) s P := by
  refine ⟨_, ?_, hP⟩
  rw [exec_choiceWindowWrite, execChoiceWindowWrite, tickAhead_of_le hset h]
  cases isEnd <;> rfl

theorem windowDue_of {s : State} (harmed : s.windowArmed = true) (hset : s.bellSet = true) (hdue : (s.reg BT_RUN_START).toNat ≤ s.now) :
    s.windowDue = true := by
  simp [State.windowDue, harmed, hset, hdue]

theorem windowCleared_lock (s : State) : s.windowCleared.fld BT_STATUS_LOCK = s.fld BT_STATUS_LOCK :=
  State.fld_eq_of_reg (s.reg_windowCleared_off (offChoice_of_lt (by decide)))

theorem State.windowCleared_bell (s : State) : s.windowCleared.bell = s.bell := rfl

/-- The opening of a window while the state is not LOCKED counts as the first event, of kind 6 (R57, R58). -/
theorem countChoice_windowCleared {s : State} (hstart : (s.reg BT_RUN_START).toNat ≤ s.now) (hend : s.now < (s.reg BT_RUN_END).toNat) :
    (s.windowCleared.countChoice 6).fld BT_CHOICE_TOTAL = 1 ∧ (s.windowCleared.countChoice 6).fld BT_CHOICE_FIRST_KIND = 6 ∧
    (s.windowCleared.countChoice 6).reg BT_CHOICE_FIRST = BitVec.ofNat 64 s.now ∧ (s.windowCleared.countChoice 6).reg (BT_CHOICE_KIND 6) = 1 := by
  have hnow : s.windowCleared.now = s.now := rfl
  have hcleared : s.windowCleared.reg BT_CHOICE = 0 := by rw [s.reg_windowCleared, if_pos (by decide)]
  have hkind : s.windowCleared.reg (BT_CHOICE_KIND 6) = 0 := by rw [s.reg_windowCleared, if_pos (by decide)]
  have hany : s.windowCleared.flag BT_CHOICE_ANY = false := by
    rw [State.flag, State.fld]
    show (bitsOf (s.windowCleared.reg BT_CHOICE).toNat 63 63 != 0) = false
    rw [hcleared]
    decide
  have htotal : s.windowCleared.fld BT_CHOICE_TOTAL = 0 := by
    show bitsOf (s.windowCleared.reg BT_CHOICE).toNat 47 0 = 0
    rw [hcleared]
    decide
  have hwithin : (s.windowCleared.reg BT_RUN_START).toNat ≤ s.windowCleared.now ∧
      s.windowCleared.now < (s.windowCleared.reg BT_RUN_END).toNat := by
    rw [s.reg_windowCleared_off (offChoice_of_lt (by decide)), s.reg_windowCleared_off (offChoice_of_lt (by decide)), hnow]
    exact ⟨hstart, hend⟩
  generalize s.windowCleared = u at hnow hkind hany htotal hwithin
  rw [State.countChoice, if_pos hwithin]
  simp only [hany, Bool.false_eq_true, if_false, hnow]
  refine ⟨?_, ?_, ?_, ?_⟩
  · rw [State.fld_setReg_off _ _ _ _ (by decide), State.fld_setFld_same _ _ _ (by decide), State.fld_setReg_off _ _ _ _ (by decide),
      State.fld_setFld_apart _ _ _ _ (by decide), State.fld_raise_apart _ _ _ (by decide), htotal]
    decide
  · rw [State.fld_setReg_off _ _ _ _ (by decide), State.fld_setFld_apart _ _ _ _ (by decide), State.fld_setReg_off _ _ _ _ (by decide),
      State.fld_setFld_same _ _ _ (by decide)]
    decide
  · rw [State.reg_setReg_other _ _ (by decide), State.reg_setFld_other _ _ _ (by decide), State.reg_setReg_same]
  · rw [State.reg_setReg_same, State.reg_setFld_other _ _ _ (by decide), State.reg_setReg_other _ _ (by decide),
      State.reg_setFld_other _ _ _ (by decide), State.reg_raise_other _ _ (by decide), hkind]
    decide

/-- Settles O14. -/
theorem choiceWindowCompletes : Obligations.ChoiceWindowCompletes := by
  unfold Obligations.ChoiceWindowCompletes
  refine ⟨?start, ?end_, fun s isEnd tick => completes_windowRefused, ?locked, ?unlocked⟩
  case start =>
    intro s tick hset h
    exact completes_windowBound hset h ⟨s.reg_setReg_same _ _, rfl, rfl, s.reg_setReg_other _ (by decide)⟩
  case end_ =>
    intro s tick hset h
    exact completes_windowBound hset h ⟨s.reg_setReg_same _ _, rfl, s.reg_setReg_other _ (by decide)⟩
  case locked =>
    intro s harmed hset hdue hlock
    refine ⟨s.windowCleared, ?_, ?_, ?_, ?_, rfl, rfl⟩
    · rw [exec_choiceWindowOpen, if_pos (windowDue_of harmed hset hdue), s.openWindow_eq, windowCleared_lock, if_pos hlock]
    · rw [s.reg_windowCleared, if_pos (by decide)]
    · rw [s.reg_windowCleared, if_pos (by decide)]
    · intro k hk
      rw [s.reg_windowCleared, if_pos]
      unfold BT_CHOICE BT_CHOICE_KIND
      omega
  case unlocked =>
    intro s harmed hset hdue hend hlock
    refine ⟨s.windowCleared.countChoice 6, ?_, countChoice_windowCleared hdue hend⟩
    rw [exec_choiceWindowOpen, if_pos (windowDue_of harmed hset hdue), s.openWindow_eq, windowCleared_lock, if_neg hlock]

/-! ### O26: the controls of the stays service (R211, R224, R234) -/

theorem exec_roomUnlistedKind (f : Frame) (s : State) : exec (.roomUnlistedKind f) s = execRoomUnlistedKind f s := rfl

theorem exec_evictThresholdWrite (value : Nat) (s : State) : exec (.evictThresholdWrite value) s = execEvictThresholdWrite value s := rfl

theorem exec_areaWrite (inbound : Bool) (value : Nat) (s : State) : exec (.areaWrite inbound value) s = execAreaWrite inbound value s := rfl

/-- What a request of the room service comes to where its sender passes the source check. -/
theorem innServe_trusted {s : State} {f : Frame} (hphase : s.phase ≠ 6) (htrust : s.trusted f = true) (act : State → State) :
    s.innServe f act = .next (act (s.takeAgent f)).retryAgents := by
  rw [State.innServe, if_neg hphase, State.serve]
  simp only [htrust, if_true]

theorem completes_roomUnlistedKind {s : State} {f : Frame} (hphase : s.phase ≠ 6) (htrust : s.trusted f = true)
    (hkind : f.kind ∈ [0x27, 0x38, 0x39, 0x3A, 0x3B, 0x3C, 0x3D, 0x3E, 0x3F]) :
    Completes (.roomUnlistedKind f) s (fun t => t.reg (ST_CNT 11) = s.reg (ST_CNT 11) + 1 ∧ t.stays = s.stays) := by
  have hcore : OffCore (ST_CNT 11) := offCore_between (by decide) (by decide)
  have hrange : 0x20 ≤ f.kind ∧ f.kind ≤ 0x3F := by
    simp only [List.mem_cons, List.not_mem_nil, or_false] at hkind
    omega
  refine ⟨((s.takeAgent f).count (ST_CNT 11)).retryAgents, ?_, ?_, ?_⟩
  · rw [exec_roomUnlistedKind, execRoomUnlistedKind, innServe_trusted hphase htrust, if_pos]
    simpa [hrange] using hkind
  · rw [State.reg_retryAgents hcore, State.reg_count_same, State.reg_takeAgent hcore.1]
  · exact (within_retryAgents.same .stays (by decide)).trans (within_takeAgent.same .stays (by decide))

/-- The rows of ST_EVICT and of the two areas (R224, R234). -/
def evictRow : RegRow := ⟨ST_EVICT, 8, 1, 1, [⟨63, 63, .rw, 0, []⟩, ⟨31, 16, .rw, 256, []⟩, ⟨15, 0, .rw, 128, []⟩]⟩

theorem regRow_evict : regRow? ST_EVICT = some evictRow := by decide +kernel

/-- See `evictRow`. -/
def stableRow : RegRow := ⟨ST_STABLE, 8, 1, 1, [⟨47, 24, .rw, 0, []⟩, ⟨23, 0, .rw, 0, []⟩]⟩

theorem regRow_stable : regRow? ST_STABLE = some stableRow := by decide +kernel

/-- See `evictRow`. -/
def inboundRow : RegRow := ⟨ST_INBOUND, 8, 1, 1, [⟨47, 24, .rw, 0, []⟩, ⟨23, 0, .rw, 0, []⟩]⟩

theorem regRow_inbound : regRow? ST_INBOUND = some inboundRow := by decide +kernel

theorem State.reg_recount (s : State) {o : Nat} (h : o ≠ ST_STATUS) : s.recount.reg o = s.reg o := by
  rw [State.recount]
  split
  · exact s.reg_setFld_other _ _ h
  · rfl

theorem exec_evictThresholdWrite_eq (s : State) (value : Nat) : exec (.evictThresholdWrite value) s =
    .next (if bitsOf value 31 16 ≤ bitsOf value 15 0 then s.raise ST_ERR_EVICT_ORDER else s.writePlain ST_EVICT value) := by
  have hhigh : bitsOf (s.written ST_EVICT value).toNat 31 16 = bitsOf value 31 16 := s.bitsOf_written regRow_evict (reset := 256) (by decide)
  have hlow : bitsOf (s.written ST_EVICT value).toNat 15 0 = bitsOf value 15 0 := s.bitsOf_written regRow_evict (reset := 128) (by decide)
  rw [exec_evictThresholdWrite, execEvictThresholdWrite]
  simp only [hhigh, hlow]
  split <;> rfl

theorem exec_areaWrite_off {s : State} (h : s.flag ST_CTRL_ENABLE = false) (inbound : Bool) (value : Nat) : exec (.areaWrite inbound value) s =
    .next ((s.writePlain (if inbound then ST_INBOUND else ST_STABLE) value).recount) :=
  if_neg (by simp [h])

/-- Settles O26. -/
theorem stayControlsComplete : Obligations.StayControlsComplete := by
  unfold Obligations.StayControlsComplete
  refine ⟨fun s f => completes_roomUnlistedKind, ?evict, ?order, ?busy, ?inbound, ?stable⟩
  case evict =>
    intro s value h
    refine ⟨s.writePlain ST_EVICT value, by rw [exec_evictThresholdWrite_eq, if_neg (by omega)], ?_, ?_, ?_, s.reg_writePlain_other _ (by decide)⟩
    · exact s.fld_writePlain (F := ST_EVICT_HIGH) regRow_evict (reset := 256) (by decide)
    · exact s.fld_writePlain (F := ST_EVICT_LOW) regRow_evict (reset := 128) (by decide)
    · exact s.fld_writePlain (F := ST_EVICT_ENABLE) regRow_evict (reset := 0) (by decide)
  case order =>
    intro s value h
    exact ⟨s.raise ST_ERR_EVICT_ORDER, by rw [exec_evictThresholdWrite_eq, if_pos h], s.reg_raise_other _ (by decide),
      s.fld_raise_same _ (by decide)⟩
  case busy =>
    intro s inbound value h
    refine ⟨s.raise ST_ERR_AREA_BUSY, ?_, s.reg_raise_other _ (by decide), s.reg_raise_other _ (by decide), s.fld_raise_same _ (by decide)⟩
    rw [exec_areaWrite, execAreaWrite, if_pos h]
  case inbound =>
    intro s value h
    have hreg : ∀ o, o ≠ ST_STATUS → (s.writePlain ST_INBOUND value).recount.reg o = (s.writePlain ST_INBOUND value).reg o :=
      fun o => State.reg_recount _
    refine ⟨_, exec_areaWrite_off h true value, ?_, ?_, (hreg _ (by decide)).trans (s.reg_writePlain_other _ (by decide))⟩
    · exact (State.fld_eq_of_reg (hreg _ (by decide))).trans (s.fld_writePlain (F := ST_INBOUND_BASE) regRow_inbound (reset := 0) (by decide))
    · exact (State.fld_eq_of_reg (hreg _ (by decide))).trans (s.fld_writePlain (F := ST_INBOUND_ROOMS) regRow_inbound (reset := 0) (by decide))
  case stable =>
    intro s value h
    have hreg : ∀ o, o ≠ ST_STATUS → (s.writePlain ST_STABLE value).recount.reg o = (s.writePlain ST_STABLE value).reg o :=
      fun o => State.reg_recount _
    refine ⟨_, exec_areaWrite_off h false value, ?_, ?_, (hreg _ (by decide)).trans (s.reg_writePlain_other _ (by decide))⟩
    · exact (State.fld_eq_of_reg (hreg _ (by decide))).trans (s.fld_writePlain (F := ST_STABLE_BASE) regRow_stable (reset := 0) (by decide))
    · exact (State.fld_eq_of_reg (hreg _ (by decide))).trans (s.fld_writePlain (F := ST_STABLE_ROOMS) regRow_stable (reset := 0) (by decide))

end Sys2Proof.Machine
end

section
/-! PROOF. O60: the account of the packet buffer. An operation on an owner changes what that owner has reserved or claimed, and the shared part by as
much the other way. -/

-- Proofs are checked one at a time: side by side they would only wait for one another.
set_option Elab.async false

namespace Sys2Proof.Machine
open Sys2Proof

/-! ### Agents of a calm module -/

/-- Where no frame waits and none is bound for an agent, trying again changes nothing. -/
theorem Calm.retryAgents {s : State} (h : Calm s) : s.retryAgents = s := by
  obtain ⟨hwait, hcopies⟩ := h
  have hclear : s.modSw (fun w => { w with agentWait := [] }) = s := by
    rcases s with ⟨⟩
    simp only [State.modSw] at hwait ⊢
    rw [← hwait]
  have hnone : ∀ v, s.sw.copies.filter (fun c => decide (256 ≤ c.out ∧ c.out < 300) && c.vc == v) = [] := by
    intro v
    rw [List.filter_eq_nil_iff]
    intro c hc
    have := hcopies c hc
    simp
    omega
  simp only [State.retryAgents, hwait, List.foldl_nil, hclear, State.handOverAll, hnone, List.flatMap_cons, List.flatMap_nil, List.append_nil]

theorem Calm.congr {s t : State} (h : Calm s) (hwait : t.sw.agentWait = s.sw.agentWait) (hcopies : t.sw.copies = s.sw.copies) : Calm t :=
  ⟨hwait.trans h.1, fun c hc => h.2 c (hcopies ▸ hc)⟩

/-! ### Owners' registers -/

/-- No two owners share a state register. -/
theorem ownerStat_ne {o w : Nat} (ho : o ≤ detourOwner) (hw : w ≤ detourOwner) (h : w ≠ o) : ownerStat w ≠ ownerStat o := by
  unfold ownerStat SW_OWNER_STAT SW_AGENT_STAT
  unfold detourOwner at ho hw
  split <;> split <;> omega

theorem ownerReg_ne_ownerStat (o : Nat) {w : Nat} (hw : w ≤ detourOwner) : ownerReg w ≠ ownerStat o := by
  have hle : w ≤ 4200 := hw
  unfold ownerReg ownerStat detourOwner SW_OWNER SW_OWNER_STAT SW_DETOUR_OWNER SW_AGENT_OWNER SW_AGENT_STAT
  split <;> split <;> (try split) <;> omega

theorem ownerReg_ne {o w : Nat} (ho : o < 4096) (hw : w ≤ detourOwner) (h : w ≠ o) : ownerReg w ≠ ownerReg o := by
  have hle : w ≤ 4200 := hw
  unfold ownerReg SW_OWNER SW_DETOUR_OWNER SW_AGENT_OWNER detourOwner
  rw [if_pos ho]
  split
  · omega
  · split <;> omega

theorem ownerStat_ne_poolStatus (o : Nat) : ownerStat o ≠ SW_POOL_STATUS := by
  unfold ownerStat SW_OWNER_STAT SW_AGENT_STAT SW_POOL_STATUS
  split <;> omega

theorem ownerReg_ne_poolStatus (o : Nat) : ownerReg o ≠ SW_POOL_STATUS := by
  unfold ownerReg SW_OWNER SW_DETOUR_OWNER SW_AGENT_OWNER SW_POOL_STATUS
  split
  · omega
  · split <;> omega

/-- What an owner has reserved or claimed, whichever is more. -/
def State.share (s : State) (o : Nat) : Nat := max (s.ownerMin o) (s.ownerClaimed o)

theorem State.poolAccount_eq (s : State) :
    s.poolAccount = s.sw.sharedFree + ((List.range (detourOwner + 1)).map (fun o => ((s.share o : Nat) : Int))).sum := rfl

/-- Two sums over a range that differ at one place. -/
theorem sum_map_range_of_ne {n o : Nat} {f g : Nat → Int} (ho : o < n) (h : ∀ w < n, w ≠ o → g w = f w) :
    ((List.range n).map g).sum = ((List.range n).map f).sum + g o - f o := by
  induction n with
  | zero => omega
  | succ n ih =>
    simp only [List.range_succ, List.map_append, List.map_cons, List.map_nil, List.sum_append, List.sum_cons, List.sum_nil, add_zero]
    by_cases hn : o = n
    · have hsame : (List.range n).map g = (List.range n).map f :=
        List.map_congr_left fun w hw => h w (by have := List.mem_range.1 hw; omega) (by have := List.mem_range.1 hw; omega)
      rw [hsame, hn]
      ring
    · rw [ih (by omega) (fun w hw => h w (by omega)), h n (by omega) (Ne.symm hn)]
      ring

theorem State.share_eq_of_reg {s t : State} {w : Nat} (hreg : t.reg (ownerReg w) = s.reg (ownerReg w))
    (hstat : t.reg (ownerStat w) = s.reg (ownerStat w)) : t.share w = s.share w := by
  simp only [State.share, State.ownerMin, State.ownerClaimed, State.ownerUsed, State.ownerHeld]
  rw [State.fld_eq_of_reg (f := ⟨ownerReg w, 19, 0⟩) hreg, State.fld_eq_of_reg (f := ⟨ownerStat w, 19, 0⟩) hstat,
    State.fld_eq_of_reg (f := ⟨ownerStat w, 39, 20⟩) hstat]

/-- The account is kept where one owner's share changes and the shared part by as much the other way. -/
theorem poolAccount_of_share {s t : State} {o : Nat} (ho : o ≤ detourOwner) (hother : ∀ w ≤ detourOwner, w ≠ o → t.share w = s.share w)
    (hfree : t.sw.sharedFree = s.sw.sharedFree + (s.share o : Nat) - (t.share o : Nat)) : t.poolAccount = s.poolAccount := by
  rw [State.poolAccount_eq, State.poolAccount_eq, hfree,
    sum_map_range_of_ne (f := fun o => ((s.share o : Nat) : Int)) (g := fun o => ((t.share o : Nat) : Int)) (o := o) (by omega)
      (fun w hw hne => by rw [hother w (by omega) hne])]
  ring

/-! ### Operations on an owner's counts -/

/-- An operation that changes of the owners' registers only the counts of `o`. -/
structure OnlyCounts (o : Nat) (s t : State) : Prop where
  ownerReg : ∀ w ≤ detourOwner, t.reg (ownerReg w) = s.reg (ownerReg w)
  ownerStat : ∀ w ≤ detourOwner, w ≠ o → t.reg (ownerStat w) = s.reg (ownerStat w)

theorem OnlyCounts.share {o : Nat} {s t : State} (h : OnlyCounts o s t) {w : Nat} (hw : w ≤ detourOwner) (hne : w ≠ o) : t.share w = s.share w :=
  State.share_eq_of_reg (h.ownerReg w hw) (h.ownerStat w hw hne)

theorem OnlyCounts.ownerMin {o : Nat} {s t : State} (h : OnlyCounts o s t) (ho : o ≤ detourOwner) : t.ownerMin o = s.ownerMin o :=
  State.fld_eq_of_reg (f := ⟨Machine.ownerReg o, 19, 0⟩) (h.ownerReg o ho)

theorem onlyCounts_setFld (s : State) {o hi lo : Nat} (ho : o ≤ detourOwner) (v : Nat) : OnlyCounts o s (s.setFld ⟨ownerStat o, hi, lo⟩ v) :=
  ⟨fun _ hw => s.reg_setFld_other _ _ (ownerReg_ne_ownerStat o hw), fun _ hw hne => s.reg_setFld_other _ _ (ownerStat_ne ho hw hne)⟩

theorem OnlyCounts.trans {o : Nat} {s t u : State} (h : OnlyCounts o s t) (k : OnlyCounts o t u) : OnlyCounts o s u :=
  ⟨fun w hw => (k.ownerReg w hw).trans (h.ownerReg w hw), fun w hw hne => (k.ownerStat w hw hne).trans (h.ownerStat w hw hne)⟩

theorem OnlyCounts.modSw {o : Nat} {s t : State} (h : OnlyCounts o s t) (g : Switch → Switch) : OnlyCounts o s (t.modSw g) :=
  ⟨h.ownerReg, h.ownerStat⟩

theorem State.reg_moveShared_owner (s : State) {d : Nat} (w c c' : Nat) (h : d ≠ SW_POOL_STATUS) : (s.moveShared w c c').reg d = s.reg d :=
  State.reg_setFld_other _ _ _ h

theorem onlyCounts_moveShared (s : State) (o c c' : Nat) : OnlyCounts o s (s.moveShared o c c') :=
  ⟨fun w _ => s.reg_moveShared_owner _ _ _ (ownerReg_ne_poolStatus w), fun w _ _ => s.reg_moveShared_owner _ _ _ (ownerStat_ne_poolStatus w)⟩

theorem State.fld_moveShared_stat (s : State) {o hi lo : Nat} (c c' : Nat) :
    (s.moveShared o c c').fld ⟨ownerStat o, hi, lo⟩ = s.fld ⟨ownerStat o, hi, lo⟩ :=
  State.fld_eq_of_reg (s.reg_moveShared_owner _ _ _ (ownerStat_ne_poolStatus o))

theorem State.moveShared_sharedFree (s : State) (o c c' : Nat) :
    (s.moveShared o c c').sw.sharedFree = s.sw.sharedFree + (max (s.ownerMin o) c : Nat) - (max (s.ownerMin o) c' : Nat) := rfl

/-- USED and HELD of an owner lie beside each other in its state register. -/
theorem State.used_setHeld (s : State) (o v : Nat) : (s.setFld ⟨ownerStat o, 39, 20⟩ v).ownerUsed o = s.ownerUsed o :=
  s.fld_setFld_bits _ _ _ (.inl (show 19 < 20 by decide)) (show 19 < 64 by decide)

theorem State.held_setUsed (s : State) (o v : Nat) : (s.setFld ⟨ownerStat o, 19, 0⟩ v).ownerHeld o = s.ownerHeld o :=
  s.fld_setFld_bits _ _ _ (.inr (show 19 < 20 by decide)) (show 39 < 64 by decide)

theorem State.used_setUsed (s : State) (o v : Nat) : (s.setFld ⟨ownerStat o, 19, 0⟩ v).ownerUsed o = v % 2 ^ 20 :=
  s.fld_setFld_same _ _ (show 19 < 64 by decide)

theorem State.held_setHeld (s : State) (o v : Nat) : (s.setFld ⟨ownerStat o, 39, 20⟩ v).ownerHeld o = v % 2 ^ 20 :=
  s.fld_setFld_same _ _ (show 39 < 64 by decide)

theorem State.ownerUsed_lt (s : State) (o : Nat) : s.ownerUsed o < 2 ^ 20 := s.fld_lt ⟨ownerStat o, 19, 0⟩

theorem State.ownerHeld_lt (s : State) (o : Nat) : s.ownerHeld o < 2 ^ 20 := s.fld_lt ⟨ownerStat o, 39, 20⟩

/-- A new count of an owner, shown by the shared part: what the settings of a count have in common. -/
theorem poolAccount_moveShared {s u t : State} {o c' : Nat} (ho : o ≤ detourOwner) (hu : OnlyCounts o s u) (hsw : u.sw = s.sw)
    (hc : u.ownerClaimed o = c') (hregs : t.regs = (u.moveShared o (s.ownerClaimed o) c').regs)
    (hfree : t.sw.sharedFree = (u.moveShared o (s.ownerClaimed o) c').sw.sharedFree) :
    t.poolAccount = s.poolAccount ∧ t.ownerUsed o = u.ownerUsed o ∧ t.ownerHeld o = u.ownerHeld o := by
  have hcounts : OnlyCounts o s t := by
    obtain ⟨hreg, hstat⟩ := hu.trans (onlyCounts_moveShared u o (s.ownerClaimed o) c')
    exact ⟨fun w hw => (State.reg_congr hregs _).trans (hreg w hw), fun w hw hne => (State.reg_congr hregs _).trans (hstat w hw hne)⟩
  have hused : t.ownerUsed o = u.ownerUsed o := (State.fld_congr hregs _).trans (u.fld_moveShared_stat _ _)
  have hheld : t.ownerHeld o = u.ownerHeld o := (State.fld_congr hregs _).trans (u.fld_moveShared_stat _ _)
  refine ⟨poolAccount_of_share ho (fun w hw hne => hcounts.share hw hne) ?_, hused, hheld⟩
  have hshare : t.share o = max (s.ownerMin o) c' := by
    rw [State.share, hcounts.ownerMin ho, State.ownerClaimed, hused, hheld, ← hc, State.ownerClaimed]
  rw [hshare, State.share, hfree, State.moveShared_sharedFree, hsw, hu.ownerMin ho]

theorem takeCells_account {s : State} {o k : Nat} (ho : o ≤ detourOwner) (hfit : s.ownerUsed o + k < 2 ^ 20) :
    (s.takeCells o k).poolAccount = s.poolAccount ∧ (s.takeCells o k).ownerUsed o = s.ownerUsed o + k ∧
    (s.takeCells o k).fld SW_POOL_STATUS_SHARED_FREE = (s.takeCells o k).sw.sharedFree.toNat % 2 ^ 20 := by
  have hused : (s.setFld ⟨ownerStat o, 19, 0⟩ (s.ownerUsed o + k)).ownerUsed o = s.ownerUsed o + k := by
    rw [s.used_setUsed, Nat.mod_eq_of_lt hfit]
  obtain ⟨hacc, hu, -⟩ := poolAccount_moveShared (s := s) (u := s.setFld ⟨ownerStat o, 19, 0⟩ (s.ownerUsed o + k)) (t := s.takeCells o k)
    (c' := s.ownerClaimed o + k) ho (onlyCounts_setFld s ho _) rfl
    (by rw [State.ownerClaimed, hused, s.held_setUsed, State.ownerClaimed]; omega) rfl rfl
  exact ⟨hacc, hu.trans hused, State.fld_setFld_same _ _ _ (by decide)⟩

theorem holdCells_account {s : State} {o k : Nat} (ho : o ≤ detourOwner) (hfit : s.ownerHeld o + k < 2 ^ 20) :
    (s.holdCells o k).poolAccount = s.poolAccount ∧ (s.holdCells o k).ownerHeld o = s.ownerHeld o + k := by
  have hheld : (s.setFld ⟨ownerStat o, 39, 20⟩ (s.ownerHeld o + k)).ownerHeld o = s.ownerHeld o + k := by
    rw [s.held_setHeld, Nat.mod_eq_of_lt hfit]
  obtain ⟨hacc, -, hh⟩ := poolAccount_moveShared (s := s) (u := s.setFld ⟨ownerStat o, 39, 20⟩ (s.ownerHeld o + k)) (t := s.holdCells o k)
    (c' := s.ownerClaimed o + k) ho (onlyCounts_setFld s ho _) rfl
    (by rw [State.ownerClaimed, hheld, s.used_setHeld, State.ownerClaimed]; omega) rfl rfl
  exact ⟨hacc, hh.trans hheld⟩

theorem freeCells_account {s : State} {o k : Nat} (chain : List Nat) (ho : o ≤ detourOwner) (hk : k ≤ s.ownerUsed o) :
    (s.freeCells o k chain).poolAccount = s.poolAccount ∧ (s.freeCells o k chain).ownerUsed o = s.ownerUsed o - k := by
  have hused : (s.setFld ⟨ownerStat o, 19, 0⟩ (s.ownerUsed o - k)).ownerUsed o = s.ownerUsed o - k := by
    rw [s.used_setUsed, Nat.mod_eq_of_lt (lt_of_le_of_lt (Nat.sub_le _ _) (s.ownerUsed_lt o))]
  obtain ⟨hacc, hu, -⟩ := poolAccount_moveShared (s := s) (u := s.setFld ⟨ownerStat o, 19, 0⟩ (s.ownerUsed o - k)) (t := s.freeCells o k chain)
    (c' := s.ownerClaimed o - k) ho (onlyCounts_setFld s ho _) rfl
    (by rw [State.ownerClaimed, hused, s.held_setUsed, State.ownerClaimed]; omega) rfl rfl
  exact ⟨hacc, hu.trans hused⟩

theorem dropHeld_account {s : State} {o : Nat} (ho : o ≤ detourOwner) :
    (s.dropHeld o).poolAccount = s.poolAccount ∧ (s.dropHeld o).ownerHeld o = 0 := by
  have hheld : (s.setFld ⟨ownerStat o, 39, 20⟩ 0).ownerHeld o = 0 := s.held_setHeld o 0
  obtain ⟨hacc, -, hh⟩ := poolAccount_moveShared (s := s) (u := s.setFld ⟨ownerStat o, 39, 20⟩ 0) (t := s.dropHeld o)
    (c' := s.ownerClaimed o - s.ownerHeld o) ho (onlyCounts_setFld s ho _) rfl
    (by rw [State.ownerClaimed, hheld, s.used_setHeld, State.ownerClaimed]; omega) rfl rfl
  exact ⟨hacc, hh.trans hheld⟩

/-- Cells claimed for credit become used cells: nothing else moves. -/
theorem fillCells_account {s : State} {o k : Nat} (ho : o ≤ detourOwner) (hk : k ≤ s.ownerHeld o) (hfit : s.ownerUsed o + k < 2 ^ 20) :
    (s.fillCells o k).poolAccount = s.poolAccount ∧ (s.fillCells o k).ownerUsed o = s.ownerUsed o + k ∧
    (s.fillCells o k).ownerHeld o = s.ownerHeld o - k := by
  obtain ⟨u, hu⟩ : ∃ u, u = s.setFld ⟨ownerStat o, 39, 20⟩ (s.ownerHeld o - k) := ⟨_, rfl⟩
  have hregs : (s.fillCells o k).regs = (u.setFld ⟨ownerStat o, 19, 0⟩ (s.ownerUsed o + k)).regs := by rw [hu]; rfl
  have hused : (s.fillCells o k).ownerUsed o = s.ownerUsed o + k := by
    refine (State.fld_congr hregs _).trans ((u.used_setUsed o (s.ownerUsed o + k)).trans ?_)
    rw [Nat.mod_eq_of_lt hfit]
  have hheld : (s.fillCells o k).ownerHeld o = s.ownerHeld o - k := by
    refine (State.fld_congr hregs _).trans ((u.held_setUsed o (s.ownerUsed o + k)).trans ?_)
    rw [hu, s.held_setHeld, Nat.mod_eq_of_lt (lt_of_le_of_lt (Nat.sub_le _ _) (s.ownerHeld_lt o))]
  have hcounts : OnlyCounts o s (s.fillCells o k) := by
    obtain ⟨hreg, hstat⟩ : OnlyCounts o s (u.setFld ⟨ownerStat o, 19, 0⟩ (s.ownerUsed o + k)) :=
      (hu ▸ onlyCounts_setFld s ho _ : OnlyCounts o s u).trans (onlyCounts_setFld u ho _)
    exact ⟨fun w hw => (State.reg_congr hregs _).trans (hreg w hw), fun w hw hne => (State.reg_congr hregs _).trans (hstat w hw hne)⟩
  refine ⟨poolAccount_of_share ho (fun w hw hne => hcounts.share hw hne) ?_, hused, hheld⟩
  have hshare : (s.fillCells o k).share o = s.share o := by
    rw [State.share, State.share, hcounts.ownerMin ho, State.ownerClaimed, hused, hheld, State.ownerClaimed]
    congr 1
    omega
  rw [hshare, Int.add_sub_cancel]
  rfl

/-! ### A new MIN -/

theorem exec_ownerMinWrite (n value : Nat) (s : State) : exec (.ownerMinWrite n value) s = execOwnerMinWrite n value s := rfl

/-- The state that a new MIN leaves before the agents try again: the register written, the whole increase reserved (R123, R473). -/
def State.minWritten (s : State) (n value sum : Nat) : State :=
  ((((s.writePlain (SW_OWNER n) value).modSw (fun w => { w with
    resvSum := sum,
    sharedFree := w.sharedFree + (max (s.ownerMin n) (s.ownerClaimed n) : Nat) -
      (max (bitsOf (s.written (SW_OWNER n) value).toNat 19 0) (s.ownerClaimed n) : Nat) })).setFld SW_POOL_STATUS_RESV_SUM sum).showPool)

theorem State.reg_minWritten (s : State) {n value sum o : Nat} (hpool : o ≠ SW_POOL_STATUS) (h : o ≠ SW_OWNER n) :
    (s.minWritten n value sum).reg o = s.reg o := by
  rw [State.minWritten, State.showPool, State.reg_setFld_other _ _ _ hpool, State.reg_setFld_other _ _ _ hpool, State.modSw_reg,
    s.reg_writePlain_other _ h]

theorem State.reg_minWritten_owner (s : State) {n : Nat} (value sum : Nat) (hn : n < 4096) :
    (s.minWritten n value sum).reg (SW_OWNER n) = s.written (SW_OWNER n) value := by
  have hpool : SW_OWNER n ≠ SW_POOL_STATUS := by
    unfold SW_OWNER SW_POOL_STATUS
    omega
  rw [State.minWritten, State.showPool, State.reg_setFld_other _ _ _ hpool, State.reg_setFld_other _ _ _ hpool, State.modSw_reg, State.writePlain,
    State.reg_setReg_same]

theorem ownerReg_port {n : Nat} (hn : n < 4096) : ownerReg n = SW_OWNER n := if_pos hn

theorem ownerStat_ne_owner {n : Nat} (hn : n < 4096) (w : Nat) : ownerStat w ≠ SW_OWNER n := by
  have h := ownerReg_ne_ownerStat w (w := n) (by unfold detourOwner; omega)
  rw [ownerReg_port hn] at h
  exact Ne.symm h

theorem minWritten_account {s : State} {n value sum : Nat} (hn : n < 4096) : (s.minWritten n value sum).poolAccount = s.poolAccount := by
  have hle : n ≤ detourOwner := by
    unfold detourOwner
    omega
  have hmin : (s.minWritten n value sum).ownerMin n = bitsOf (s.written (SW_OWNER n) value).toNat 19 0 := by
    rw [State.ownerMin, ownerReg_port hn, State.fld, s.reg_minWritten_owner _ _ hn]
  have hstat : ∀ w, (s.minWritten n value sum).reg (ownerStat w) = s.reg (ownerStat w) := fun w =>
    s.reg_minWritten (ownerStat_ne_poolStatus w) (ownerStat_ne_owner hn w)
  refine poolAccount_of_share hle (fun w hw hne => State.share_eq_of_reg ?_ (hstat w)) ?_
  · have := ownerReg_ne hn hw hne
    rw [ownerReg_port hn] at this
    exact s.reg_minWritten (ownerReg_ne_poolStatus w) this
  · have hclaimed : (s.minWritten n value sum).ownerClaimed n = s.ownerClaimed n := by
      rw [State.ownerClaimed, State.ownerClaimed, State.ownerUsed, State.ownerUsed, State.ownerHeld, State.ownerHeld,
        State.fld_eq_of_reg (f := ⟨ownerStat n, 19, 0⟩) (hstat n), State.fld_eq_of_reg (f := ⟨ownerStat n, 39, 20⟩) (hstat n)]
    rw [State.share, State.share, hmin, hclaimed]
    rfl

/-- What a write of MIN comes to, by its three outcomes. -/
theorem exec_ownerMinWrite_cases (s : State) (n value : Nat) : exec (.ownerMinWrite n value) s =
    if 4096 ≤ n ∨ 12 ≤ n % 16 then .next s
    else if 524288 < s.sw.resvSum - s.ownerMin n + bitsOf (s.written (SW_OWNER n) value).toNat 19 0 then .next (s.raise SW_POOL_ERR_MIN_SUM)
    else .next (s.minWritten n value (s.sw.resvSum - s.ownerMin n + bitsOf (s.written (SW_OWNER n) value).toNat 19 0)).retryAgents := rfl

theorem raise_account {s : State} {f : Fld} (hf : f.off = SW_POOL_ERR) : (s.raise f).poolAccount = s.poolAccount := by
  have hreg : ∀ o, o ≠ SW_POOL_ERR → (s.raise f).reg o = s.reg o := fun o ho => s.reg_raise_other f (hf ▸ ho)
  have hshare : ∀ w ≤ detourOwner, (s.raise f).share w = s.share w := by
    intro w hw
    refine State.share_eq_of_reg (hreg _ ?_) (hreg _ ?_)
    · unfold ownerReg SW_OWNER SW_DETOUR_OWNER SW_AGENT_OWNER SW_POOL_ERR
      split
      · omega
      · split <;> omega
    · unfold ownerStat SW_OWNER_STAT SW_AGENT_STAT SW_POOL_ERR
      split <;> omega
  refine poolAccount_of_share (o := 0) (Nat.zero_le _) (fun w hw _ => hshare w hw) ?_
  rw [hshare 0 (Nat.zero_le _), Int.add_sub_cancel]
  rfl

theorem completes_ownerMinWrite_account {s : State} (n value : Nat) (h : Calm s) :
    Completes (.ownerMinWrite n value) s (fun t => t.poolAccount = s.poolAccount) := by
  have hcases := exec_ownerMinWrite_cases s n value
  split at hcases
  next => exact ⟨s, hcases, rfl⟩
  next hn =>
    split at hcases
    next => exact ⟨_, hcases, raise_account rfl⟩
    next =>
      have hcalm : Calm (s.minWritten n value (s.sw.resvSum - s.ownerMin n + bitsOf (s.written (SW_OWNER n) value).toNat 19 0)) := h.congr rfl rfl
      rw [hcalm.retryAgents] at hcases
      exact ⟨_, hcases, minWritten_account (by omega)⟩

/-! ### The account at reset -/

/-- The word that a row's fields read at reset. -/
def RegRow.resetWord (r : RegRow) : Word := r.fields.foldl (fun a f => a ||| placed f.reset f.hi f.lo) 0

/-- A row of the ports' owners, or one that lies elsewhere. -/
def RegRow.clearAtReset (r : RegRow) : Prop := 0 < r.stride ∧ (r.base < 0x218000 → 0x208000 < r.base + r.count * r.stride →
  r.base ≠ 0x01010000 ∧ r.base ≠ 0x01010008 ∧ r.base ≠ 0x01C00100 ∧ bitsOf r.resetWord.toNat 39 0 = 0)

theorem regRows_clearAtReset : ∀ r ∈ regRows, r.clearAtReset := by
  have h : regRows.all (fun r => decide (0 < r.stride ∧ (r.base < 0x218000 → 0x208000 < r.base + r.count * r.stride →
      r.base ≠ 0x01010000 ∧ r.base ≠ 0x01010008 ∧ r.base ≠ 0x01C00100 ∧ bitsOf r.resetWord.toNat 39 0 = 0))) = true := by decide +kernel
  exact fun r hr => by
    have hr' := List.all_eq_true.1 h r hr
    rw [decide_eq_true_iff] at hr'
    exact hr'

/-- The owners' registers of ports read 0 in every count at reset. -/
theorem reset_port_counts {off : Nat} (hlo : 0x208000 ≤ off) (hhi : off < 0x218000) : bitsOf (State.reset.reg off).toNat 39 0 = 0 := by
  have hreset : State.reset.reg off = regReset off := rfl
  rw [hreset, regReset]
  cases hrow : regRow? off with
  | none => simp [bitsOf]
  | some r =>
    obtain ⟨hstride, hclear⟩ := regRows_clearAtReset r (List.mem_of_find?_eq_some hrow)
    have hhas : r.has off = true := by
      have h := List.find?_some hrow
      rwa [regHome_of_outside (by omega)] at h
    have hend : off < r.base + r.count * r.stride := by
      by_contra hge
      rw [r.has_of_end off hstride (by omega)] at hhas
      cases hhas
    have hbase : r.base ≤ off := by
      simp only [RegRow.has, Bool.and_eq_true, decide_eq_true_eq] at hhas
      omega
    obtain ⟨h1, h2, h3, hzero⟩ := hclear (by omega) (by omega)
    simp only [h1, h2, h3, if_false]
    exact hzero

theorem bitsOf_zero_of_wider {v : Nat} (h : bitsOf v 39 0 = 0) : bitsOf v 19 0 = 0 ∧ bitsOf v 39 20 = 0 := by
  unfold bitsOf at h ⊢
  omega

theorem reset_share_port {o : Nat} (ho : o < 4096) : State.reset.share o = 0 := by
  have hmin := reset_port_counts (off := SW_OWNER o) (by unfold SW_OWNER; omega) (by unfold SW_OWNER; omega)
  have hstat := reset_port_counts (off := SW_OWNER_STAT o) (by unfold SW_OWNER_STAT; omega) (by unfold SW_OWNER_STAT; omega)
  have hreg : ownerStat o = SW_OWNER_STAT o := if_pos ho
  simp only [State.share, State.ownerMin, State.ownerClaimed, State.ownerUsed, State.ownerHeld, State.fld, ownerReg_port ho, hreg,
    bitsOf_zero_of_wider hmin, bitsOf_zero_of_wider hstat, Nat.max_self, Nat.add_zero]

theorem reset_share_agents : ((List.range 105).map (fun m => ((State.reset.share (4096 + m) : Nat) : Int))).sum = 6936 := by decide +kernel

/-- At reset the agents and the detour store have their reservations, and the ports have none. -/
theorem reset_account : State.reset.poolAccount = 524288 := by
  have hports : ∀ x ∈ (List.range 4096).map (fun o => ((State.reset.share o : Nat) : Int)), x = 0 := by
    intro x hx
    obtain ⟨o, ho, rfl⟩ := List.mem_map.1 hx
    have hlt := List.mem_range.1 ho
    rw [reset_share_port hlt]
    rfl
  have hfree : State.reset.sw.sharedFree = 517352 := by decide +kernel
  rw [State.poolAccount_eq, show detourOwner + 1 = 4096 + 105 from rfl, List.range_add, List.map_append, List.sum_append,
    List.sum_eq_zero hports, List.map_map, hfree]
  exact congrArg (fun x : Int => 517352 + (0 + x)) reset_share_agents

/-- Settles O60. -/
theorem poolAccountIsKept : Obligations.PoolAccountIsKept := by
  unfold Obligations.PoolAccountIsKept
  exact ⟨fun _ _ _ => takeCells_account, fun _ _ _ => holdCells_account, fun _ _ _ => fillCells_account, fun _ _ _ chain => freeCells_account chain,
    fun _ _ => dropHeld_account, fun _ n value => completes_ownerMinWrite_account n value, reset_account⟩

end Sys2Proof.Machine
end

section
/-! PROOF. O56: the first-error bits (R400). A message of CONTAINED or graver sets its source's bit, nothing that the fatal classes do clears one,
both resets keep them as RS fields, and a register write clears those written 1. -/

-- Proofs are checked one at a time: side by side they would only wait for one another.
set_option Elab.async false

namespace Sys2Proof.Machine
open Sys2Proof

/-! ### Single bits of a number -/

theorem testBit_clearBitOf (v i j : Nat) : (clearBitOf v i).testBit j = (v.testBit j && j != i) := by
  unfold clearBitOf
  split
  · next h =>
    obtain ⟨u, rfl⟩ := Nat.exists_eq_add_of_le' (Nat.ge_two_pow_of_testBit h)
    have hclear : u.testBit i = false := by
      rw [Nat.add_comm, Nat.testBit_two_pow_add_eq] at h
      simpa using h
    rw [Nat.add_sub_cancel, testBit_add_two_pow hclear]
    by_cases hj : j = i <;> simp [hj, hclear]
  · next h => by_cases hj : j = i <;> simp [hj, h]

theorem testBit_putBitOf (v i j : Nat) (b : Bool) : (putBitOf v i b).testBit j = if j = i then b else v.testBit j := by
  unfold putBitOf
  split
  · next hb => rw [testBit_setBitOf]; by_cases hj : j = i <;> simp [hj, hb]
  · next hb => rw [testBit_clearBitOf]; by_cases hj : j = i <;> simp [hj, hb]

theorem testBit_clearMask (v m n j : Nat) : (clearMask v m n).testBit j = (v.testBit j && !(decide (j < n) && m.testBit j)) := by
  induction n with
  | zero => simp [clearMask]
  | succ n ih =>
    have hstep : clearMask v m (n + 1) = if m.testBit n then clearBitOf (clearMask v m n) n else clearMask v m n := by
      simp only [clearMask, List.range_succ, List.foldl_append, List.foldl_cons, List.foldl_nil]
    rw [hstep]
    by_cases hj : j = n
    · subst hj
      cases hm : m.testBit j <;> simp [ih, hm, testBit_clearBitOf]
    · have hlt : (j < n + 1) = (j < n) := by simp; omega
      simp only [hlt]
      split
      · simp [testBit_clearBitOf, ih, hj]
      · exact ih

/-- A register's bit after one of its bits is set or cleared. -/
theorem State.regBit_setRegBit (s : State) (off i j : Nat) (b : Bool) (hj : j < 64) :
    (s.setRegBit off i b).regBit off j = if j = i then b else s.regBit off j := by
  have hreg : (s.setRegBit off i b).reg off = BitVec.ofNat 64 (putBitOf (s.reg off).toNat i b) := s.reg_setReg_same off _
  rw [State.regBit, hreg, ← BitVec.getLsbD, BitVec.getLsbD_ofNat, testBit_putBitOf]
  simp [hj, State.regBit]

theorem State.regBit_eq_of_reg {s t : State} {off : Nat} (h : t.reg off = s.reg off) (i : Nat) : t.regBit off i = s.regBit off i := by
  rw [State.regBit, h, State.regBit]

/-! ### A message that the watch accepts (R392, R400) -/

/-- The offsets of the first-error bits. -/
abbrev FirstOff (o : Nat) : Prop := WATCH_FIRST 0 ≤ o ∧ o < WATCH_FIRST 16

theorem firstOff (k : Nat) (hk : k < 16) : FirstOff (WATCH_FIRST k) := by simp only [FirstOff, WATCH_FIRST]; omega

/-- The registers of the blocks from the switch on, and the few named, hold no first-error bit. -/
theorem FirstOff.ne {o d : Nat} (h : FirstOff o) (hd : d < WATCH_FIRST 0 ∨ WATCH_FIRST 16 ≤ d) : o ≠ d := by
  obtain ⟨hlo, hhi⟩ := h
  omega

/-- Of the first-error bits a message moves at most its source's. -/
theorem State.reg_accept_first (s : State) (source kind sev address : Nat) {o : Nat} (ho : FirstOff o) :
    (s.accept source kind sev address).reg o =
      (if 2 ≤ sev then s.setRegBit (WATCH_FIRST (source / 64 % 16)) (source % 64) true else s).reg o := by
  unfold State.accept
  extract_lets s1 s2
  have hs2 : s2.reg o = s1.reg o := s1.reg_setFld_other _ _ (ho.ne (by decide))
  have hs3 : (if s2.watch.queue.length < 512 then s2.enterWatch (faultWord source kind sev address)
      else (s2.count WATCH_LOST).raise WATCH_ERR_RING_LOST).reg o = s2.reg o := by
    split
    · rfl
    · rw [State.reg_raise_other _ _ (ho.ne (by decide)), State.reg_count_other _ (ho.ne (by decide))]
  exact hs3.trans hs2

theorem State.regBit_accept_first (s : State) {source sev n : Nat} (hsource : source < 1024) (hn : n < 1024) (hsev : 2 ≤ sev) (kind address : Nat) :
    (s.accept source kind sev address).regBit (WATCH_FIRST (n / 64)) (n % 64) = (n == source || s.regBit (WATCH_FIRST (n / 64)) (n % 64)) := by
  have hreg := s.reg_accept_first source kind sev address (firstOff (n / 64) (by omega))
  rw [if_pos hsev, show source / 64 % 16 = source / 64 by omega] at hreg
  rw [State.regBit_eq_of_reg hreg]
  by_cases hword : n / 64 = source / 64
  · rw [hword, State.regBit_setRegBit _ _ _ _ _ (by omega)]
    by_cases heq : n = source
    · simp [heq]
    · have hbit : n % 64 ≠ source % 64 := by omega
      simp [heq, hbit]
  · have hne : WATCH_FIRST (n / 64) ≠ WATCH_FIRST (source / 64) := by simp only [WATCH_FIRST]; omega
    have heq : n ≠ source := by rintro rfl; exact hword rfl
    rw [State.regBit_eq_of_reg (s.reg_setRegBit_other _ _ hne)]
    simp [heq]

theorem State.reg_accept_first_minor (s : State) {sev : Nat} (hsev : sev < 2) (source kind address : Nat) {o : Nat} (ho : FirstOff o) :
    (s.accept source kind sev address).reg o = s.reg o := by
  rw [s.reg_accept_first _ _ _ _ ho, if_neg (by omega)]

/-! ### What the fatal classes set off clears no first-error bit (R398, R399) -/

/-- Every first-error bit of `s` stands in `t`. -/
def FirstKept (s t : State) : Prop := ∀ n < 1024, s.regBit (WATCH_FIRST (n / 64)) (n % 64) = true → t.regBit (WATCH_FIRST (n / 64)) (n % 64) = true

theorem FirstKept.trans {s t u : State} (h1 : FirstKept s t) (h2 : FirstKept t u) : FirstKept s u := fun n hn h => h2 n hn (h1 n hn h)

theorem FirstKept.of_reg {s t : State} (h : ∀ o, FirstOff o → t.reg o = s.reg o) : FirstKept s t := by
  intro n hn hbit
  rwa [State.regBit_eq_of_reg (h _ (firstOff _ (by omega)))]

theorem FirstKept.accept (s : State) {source : Nat} (hsource : source < 1024) (kind sev address : Nat) : FirstKept s (s.accept source kind sev address) := by
  by_cases hsev : 2 ≤ sev
  · intro n hn hbit
    rw [s.regBit_accept_first hsource hn hsev, hbit, Bool.or_true]
  · exact .of_reg fun o ho => s.reg_accept_first_minor (by omega) _ _ _ ho

theorem FirstKept.setPhase (s : State) (p : Nat) : FirstKept s (s.setPhase p) := .of_reg fun o ho => s.reg_setPhase_other p o (ho.ne (by decide))

theorem State.reg_stopResult (s : State) (result : Nat) {o : Nat} (h : o ≠ PH_STOP_STATUS) : (s.stopResult result).reg o = s.reg o := by
  have hanswer : ∀ t : State, (t.stopAnswer result).reg o = t.reg o := fun t => by unfold State.stopAnswer; split <;> rfl
  rw [State.stopResult, hanswer, State.reg_setFld_other _ _ _ h, State.reg_setFld_other _ _ _ h]

/-- With no tally open only a stopover ends as the module stops serving. -/
theorem State.stopServing_of_idle {s : State} (hctxs : s.tally.ctxs = []) : s.stopServing = s.abandonStop := by
  have htally : s.abandonStop.tally = s.tally := within_abandonStop.same .tally (by decide)
  rw [State.stopServing, State.failAll, htally, hctxs, List.foldl_nil]

theorem FirstKept.abandonStop (s : State) : FirstKept s s.abandonStop := by
  unfold State.abandonStop
  split
  · exact fun _ _ h => h
  · refine FirstKept.trans (.of_reg fun o ho => ?_) (.accept _ (by decide) _ _ _)
    rw [State.reg_setReg_other _ _ (ho.ne (by decide)), s.reg_stopResult _ (ho.ne (by decide))]

theorem FirstKept.halt {s : State} (hctxs : s.tally.ctxs = []) : FirstKept s s.halt := by
  unfold State.halt
  split
  · exact fun _ _ h => h
  · split
    · exact fun _ _ h => h
    · exact (FirstKept.setPhase s 8).trans (by
        rw [State.stopServing_of_idle (by rwa [State.setPhase_tally])]
        exact .abandonStop _)

/-- No port is up. -/
def PortsDown (s : State) : Prop := ∀ p < 256, s.portUp p = false

theorem PortsDown.of_reg {s t : State} (h : PortsDown s) (hreg : ∀ p < 256, t.reg (LN_PORT_W2 p) = s.reg (LN_PORT_W2 p)) : PortsDown t := by
  intro p hp
  have hstate : t.fld (LN_PORT_W2_STATE p) = s.fld (LN_PORT_W2_STATE p) := State.fld_eq_of_reg (hreg p hp)
  rw [State.portUp, hstate]
  exact h p hp

/-- What lies below the ports' registers, the first-error bits among them, and the state words of the ports. -/
theorem State.reg_restLanes (s : State) (p : Nat) {o : Nat} (h : o < LN_LANE_W0 0) : (s.restLanes p).reg o = s.reg o := by
  refine State.reg_foldl (fun x k _ => State.reg_setFld_other _ _ _ ?_) s
  have hoff : (LN_LANE_W0_STATE (x.laneNo p k)).off = LN_LANE_W0 0 + 64 * x.laneNo p k := by simp only [LN_LANE_W0_STATE, LN_LANE_W0]
  omega

/-- A port that is not up is put down with no more than its own state word and its lanes moved. -/
theorem State.reg_freezePort {s : State} {p o : Nat} (hdown : s.portUp p = false) (ho : o < LN_LANE_W0 0) (hne : o ≠ LN_PORT_W2 p) :
    (s.freezePort p).reg o = s.reg o := by
  unfold State.freezePort
  rw [hdown]
  split
  · rfl
  · simp only [Bool.false_eq_true, if_false]
    rw [State.reg_restLanes _ _ ho, State.reg_setFld_other _ _ _ hne, State.reg_setFld_other _ _ _ hne]

theorem State.portUp_freezePort {s : State} {p : Nat} (hp : p < 256) (hdown : s.portUp p = false) : (s.freezePort p).portUp p = false := by
  unfold State.freezePort
  rw [hdown]
  split
  · exact hdown
  · simp only [Bool.false_eq_true, if_false]
    have hoff : LN_PORT_W2 p < LN_LANE_W0 0 := by simp only [LN_PORT_W2, LN_LANE_W0]; omega
    have hstate : ((((s.setFld (LN_PORT_W2_STATE p) 6).setFld (LN_PORT_W2_STAGE p) 0).restLanes p).fld (LN_PORT_W2_STATE p)) = 6 := by
      rw [State.fld_eq_of_reg (State.reg_restLanes _ p hoff), State.fld_setFld_apart _ _ _ _ (by simp [Fld.apart, LN_PORT_W2_STATE, LN_PORT_W2_STAGE]),
        State.fld_setFld_same _ _ _ (by simp [LN_PORT_W2_STATE])]
      rfl
    simp [State.portUp, hstate]

theorem PortsDown.freezePort {s : State} (h : PortsDown s) {p : Nat} (hp : p < 256) : PortsDown (s.freezePort p) := by
  intro q hq
  by_cases hqp : q = p
  · subst hqp
    exact State.portUp_freezePort hq (h q hq)
  · have hreg : (s.freezePort p).reg (LN_PORT_W2 q) = s.reg (LN_PORT_W2 q) :=
      State.reg_freezePort (h p hp) (by simp only [LN_PORT_W2, LN_LANE_W0]; omega) (by simp only [LN_PORT_W2]; omega)
    have hstate : (s.freezePort p).fld (LN_PORT_W2_STATE q) = s.fld (LN_PORT_W2_STATE q) := State.fld_eq_of_reg hreg
    rw [State.portUp, hstate]
    exact h q hq

theorem FirstKept.freezePorts {s : State} (hdown : PortsDown s) {ps : List Nat} (hps : ∀ p ∈ ps, p < 256) : FirstKept s (ps.foldl State.freezePort s) := by
  induction ps generalizing s with
  | nil => exact fun _ _ h => h
  | cons p ps ih =>
    have hp : p < 256 := hps p (by simp)
    refine FirstKept.trans (.of_reg fun o ho => ?_) (ih (hdown.freezePort hp) (fun q hq => hps q (by simp [hq])))
    have hbelow : o < LN_PORT_W2 0 := lt_of_lt_of_le ho.2 (by decide)
    exact State.reg_freezePort (hdown p hp) (lt_of_lt_of_le hbelow (by decide)) (by simp only [LN_PORT_W2] at hbelow ⊢; omega)

/-- A message moves no register outside the watch's block. -/
theorem State.reg_accept_off (s : State) (source kind sev address : Nat) {o : Nat} (ho : WATCH_FIRST 16 ≤ o) :
    (s.accept source kind sev address).reg o = s.reg o := by
  have hoff : ∀ {d : Nat}, d < WATCH_FIRST 16 → o ≠ d := by omega
  unfold State.accept
  extract_lets s1 s2
  have hs1 : s1.reg o = s.reg o := by
    unfold s1
    split
    · exact s.reg_setRegBit_other _ _ (hoff (by simp only [WATCH_FIRST]; omega))
    · rfl
  have hs2 : s2.reg o = s1.reg o := s1.reg_setFld_other _ _ (hoff (by decide))
  rw [← hs1, ← hs2]
  split
  · rfl
  · rw [State.reg_raise_other _ _ (hoff (by decide)), State.reg_count_other _ (hoff (by decide))]

theorem State.reg_abandonStop_ports (s : State) {o : Nat} (ho : LN_PORT_W2 0 ≤ o ∧ o < LN_LANE_W0 0) : s.abandonStop.reg o = s.reg o := by
  have hoff : ∀ {d : Nat}, LN_LANE_W0 0 ≤ d → o ≠ d := by omega
  unfold State.abandonStop
  split
  · rfl
  · rw [State.reg_accept_off _ _ _ _ _ (le_trans (by decide) ho.1), State.reg_setReg_other _ _ (hoff (by decide)),
      s.reg_stopResult _ (hoff (by decide))]

theorem FirstKept.freeze {s : State} (hctxs : s.tally.ctxs = []) (hdown : PortsDown s) : FirstKept s s.freeze := by
  have hports : ∀ t : State, PortsDown t → FirstKept s t → FirstKept s (((List.range 256).foldl State.freezePort t).setFld LN_STATUS_PORTS_UP 0) :=
    fun t ht hkept => (hkept.trans (.freezePorts ht fun p hp => List.mem_range.1 hp)).trans
      (.of_reg fun o ho => State.reg_setFld_other _ _ _ (ho.ne (by decide)))
  have hw2 : ∀ p < 256, LN_PORT_W2 0 ≤ LN_PORT_W2 p ∧ LN_PORT_W2 p < LN_LANE_W0 0 := by
    intro p hp
    simp only [LN_PORT_W2, LN_LANE_W0]
    omega
  have hphase : PortsDown (s.setPhase 7) := hdown.of_reg fun p hp => s.reg_setPhase_other 7 _ (by simp only [LN_PORT_W2, DV_STATE]; omega)
  have hstop : (s.setPhase 7).stopServing = (s.setPhase 7).abandonStop := State.stopServing_of_idle (by rwa [State.setPhase_tally])
  rw [State.freeze_eq]
  split
  · exact fun _ _ h => h
  · split
    · exact hports _ hphase (.setPhase s 7)
    · rw [hstop]
      exact hports _ (hphase.of_reg fun p hp => State.reg_abandonStop_ports _ (hw2 p hp)) ((FirstKept.setPhase s 7).trans (.abandonStop _))

/-! ### FAULT_MESSAGE (R392, R400) -/

/-- The state in which a block's message reaches the watch: a tally's own error is counted first. -/
def State.relayed (s : State) (source kind : Nat) : State := if source = 0x060 ∧ kind = 0x05 then s.count (TL_CNT 10) else s

theorem exec_faultMessage_eq (s : State) (source kind address : Nat) : exec (.faultMessage source kind address) s =
    .next (if sourceListed source && faultKindListed kind then ((s.relayed source kind).fault source kind (address % 2 ^ 40)).retryAgents else s) := rfl

theorem State.exec_faultMessage_listed (s : State) {source kind : Nat} (hsource : sourceListed source = true) (hkind : faultKindListed kind = true)
    (address : Nat) : exec (.faultMessage source kind address) s =
      .next ((s.relayed source kind).fault source kind (address % 2 ^ 40)).retryAgents := by
  rw [exec_faultMessage_eq, hsource, hkind]
  rfl

theorem sourceListed_lt {source : Nat} (h : sourceListed source = true) : source < 1024 := by
  simp only [sourceListed, Bool.or_eq_true, decide_eq_true_eq, beq_iff_eq] at h
  omega

theorem State.reg_relayed_below (s : State) (source kind : Nat) {o : Nat} (h : o < TL_CNT 10) : (s.relayed source kind).reg o = s.reg o := by
  unfold State.relayed
  split
  · exact State.reg_count_other _ h.ne
  · rfl

theorem State.relayed_tally (s : State) (source kind : Nat) : (s.relayed source kind).tally = s.tally := by
  unfold State.relayed
  split <;> rfl

theorem State.severity_relayed (s : State) (source kind : Nat) : (s.relayed source kind).severity source kind = s.severity source kind := by
  unfold State.relayed
  split
  · next h =>
    obtain ⟨rfl, rfl⟩ := h
    exact State.severity_congr (s.reg_count_other (by decide)) _
  · rfl

theorem PortsDown.relayed {s : State} (h : PortsDown s) (source kind : Nat) : PortsDown (s.relayed source kind) := by
  refine h.of_reg fun p _ => ?_
  unfold State.relayed
  split
  · exact State.reg_count_other _ (by simp only [LN_PORT_W2, TL_CNT]; omega)
  · rfl

theorem State.regBit_relayed_first (s : State) (source kind : Nat) {n : Nat} (hn : n < 1024) :
    (s.relayed source kind).regBit (WATCH_FIRST (n / 64)) (n % 64) = s.regBit (WATCH_FIRST (n / 64)) (n % 64) :=
  State.regBit_eq_of_reg (s.reg_relayed_below source kind (lt_trans (firstOff (n / 64) (by omega)).2 (by decide))) _

theorem State.reg_retryAgents_first (s : State) {o : Nat} (ho : FirstOff o) : s.retryAgents.reg o = s.reg o :=
  State.reg_retryAgents (offCore_of_lt (lt_trans ho.2 (by decide)))

/-- A message of the two classes between sets the bit of its source and no other. -/
theorem completes_faultMessage_bits {s : State} {source kind : Nat} (address : Nat) (hsource : sourceListed source = true)
    (hkind : faultKindListed kind = true) (hlo : 2 ≤ s.severity source kind) (hhi : s.severity source kind < 4) :
    Completes (.faultMessage source kind address) s (fun t => t.regBit (WATCH_FIRST (source / 64)) (source % 64) = true ∧
      ∀ n < 1024, n ≠ source → t.regBit (WATCH_FIRST (n / 64)) (n % 64) = s.regBit (WATCH_FIRST (n / 64)) (n % 64)) := by
  have hlt := sourceListed_lt hsource
  have hfault : ∀ a, (s.relayed source kind).fault source kind a = (s.relayed source kind).accept source kind (s.severity source kind) a := by
    intro a
    rw [State.fault, s.severity_relayed, if_neg (by omega), if_neg (by omega)]
  have hbit : ∀ n < 1024, (((s.relayed source kind).fault source kind (address % 2 ^ 40)).retryAgents).regBit (WATCH_FIRST (n / 64)) (n % 64) =
      (n == source || s.regBit (WATCH_FIRST (n / 64)) (n % 64)) := by
    intro n hn
    rw [State.regBit_eq_of_reg (State.reg_retryAgents_first _ (firstOff (n / 64) (by omega))), hfault, State.regBit_accept_first _ hlt hn hlo,
      s.regBit_relayed_first _ _ hn]
  refine ⟨_, s.exec_faultMessage_listed hsource hkind address, ?_, fun n hn hne => ?_⟩
  · rw [hbit source hlt, beq_self_eq_true, Bool.true_or]
  · rw [hbit n hn, beq_false_of_ne hne, Bool.false_or]

theorem completes_faultMessage_minor {s : State} {source kind : Nat} (address : Nat) (hsev : s.severity source kind < 2) :
    Completes (.faultMessage source kind address) s (fun t => ∀ k < 16, t.reg (WATCH_FIRST k) = s.reg (WATCH_FIRST k)) := by
  refine ⟨_, exec_faultMessage_eq s source kind address, fun k hk => ?_⟩
  split
  · rw [State.reg_retryAgents_first _ (firstOff k hk), State.fault, s.severity_relayed, if_neg (by omega), if_neg (by omega),
      State.reg_accept_first_minor _ hsev _ _ _ (firstOff k hk), s.reg_relayed_below _ _ (lt_trans (firstOff k hk).2 (by decide))]
  · rfl

/-- What a fatal class sets off keeps the bit that its message has set. -/
theorem completes_faultMessage_fatal {s : State} {source kind : Nat} (address : Nat) (hsource : sourceListed source = true)
    (hkind : faultKindListed kind = true) (hsev : 2 ≤ s.severity source kind)
    (hkept : ∀ a, FirstKept ((s.relayed source kind).accept source kind (s.severity source kind) a) ((s.relayed source kind).fault source kind a)) :
    Completes (.faultMessage source kind address) s (fun t => t.regBit (WATCH_FIRST (source / 64)) (source % 64) = true) := by
  have hlt := sourceListed_lt hsource
  refine ⟨_, s.exec_faultMessage_listed hsource hkind address, ?_⟩
  dsimp only
  rw [State.regBit_eq_of_reg (State.reg_retryAgents_first _ (firstOff (source / 64) (by omega)))]
  refine hkept _ source hlt ?_
  rw [State.regBit_accept_first _ hlt hlt hsev, beq_self_eq_true, Bool.true_or]

/-! ### Resets keep an RS field (R11, R12) -/

/-- The one row of the first-error bits. -/
def watchFirstRow : RegRow := ⟨0x00100100, 8, 16, 1, [⟨63, 0, .rs, 0, []⟩]⟩

theorem regRow_watchFirst : ∀ k < 16, regRow? (WATCH_FIRST k) = some watchFirstRow := by decide +kernel

theorem regReset_watchFirst : ∀ k < 16, regReset (WATCH_FIRST k) = 0 := by decide +kernel

theorem putFld_whole (w : Word) (v : Nat) : putFld w 63 0 v = BitVec.ofNat 64 v := by
  refine BitVec.eq_of_getLsbD_eq fun i hi => ?_
  rw [putFld_getLsbD _ _ _ _ _ hi, BitVec.getLsbD_ofNat]
  simp [hi]

theorem bitsOf_whole (w : Word) : bitsOf w.toNat 63 0 = w.toNat := by
  have := w.isLt
  unfold bitsOf
  omega

/-- In a map of rising keys, an entry kept under its key is what the key reads as. -/
theorem sparseGet_filterMap {α : Type} [DecidableEq α] {d : α} {m : List (Nat × α)} {g : Nat × α → Option (Nat × α)} {k : Nat}
    (hrise : keysRise m = true) (hkey : ∀ e e', g e = some e' → e'.1 = e.1) (hsame : ∀ v, g (k, v) = if v = d then none else some (k, v)) :
    sparseGet d (m.filterMap g) k = sparseGet d m k := by
  rw [keysRise_iff_pairwise] at hrise
  induction m with
  | nil => rfl
  | cons e m ih =>
    obtain ⟨hfirst, hrest⟩ := List.pairwise_cons.1 hrise
    obtain ⟨j, v⟩ := e
    by_cases hj : j = k
    · subst hj
      by_cases hv : v = d
      · have hnone : g (j, v) = none := by rw [hsame, if_pos hv]
        rw [List.filterMap_cons_none hnone, ih hrest, sparseGet_of_not_mem (fun e he => (hfirst e he).ne')]
        simp [sparseGet, hv]
      · have hsome : g (j, v) = some (j, v) := by rw [hsame, if_neg hv]
        rw [List.filterMap_cons_some hsome]
        simp [sparseGet]
    · have hskip : sparseGet d ((j, v) :: m) k = sparseGet d m k := by simp [sparseGet, hj]
      cases hg : g (j, v) with
      | none => rw [List.filterMap_cons_none hg, ih hrest, hskip]
      | some e' =>
        have hne : e'.1 ≠ k := by rw [hkey _ _ hg]; exact hj
        rw [List.filterMap_cons_some hg, hskip, ← ih hrest]
        simp [sparseGet, hne]

theorem State.sticky_watchFirst {s : State} (hcanon : Canon s) {k : Nat} (hk : k < 16) :
    sparseGet (regReset (WATCH_FIRST k)) s.stickyRegs (WATCH_FIRST k) = s.reg (WATCH_FIRST k) := by
  refine sparseGet_filterMap (sparseWf_iff.1 hcanon.regs).1 (fun e e' h => ?_) (fun v => ?_)
  · split at h
    · cases h
    · dsimp only at h
      split at h
      · cases h
      · cases h
        rfl
  · simp only [regRow_watchFirst k hk, regReset_watchFirst k hk, watchFirstRow, List.foldl_cons, List.foldl_nil, if_true, putFld_whole, bitsOf_whole,
      BitVec.ofNat_toNat, BitVec.setWidth_eq]

/-- What the module shows of flash and of the power cap lies outside the watch. -/
theorem State.reg_showFlash_first (s : State) {o : Nat} (ho : FirstOff o) : s.showFlash.reg o = s.reg o := by
  have hstage : ∀ n, o ≠ PH_STAGE n := fun n => ho.ne (.inr (by simp only [WATCH_FIRST, PH_STAGE]; omega))
  unfold State.showFlash
  dsimp only
  rw [State.reg_foldl (fun x a _ => by rw [State.reg_setFld_other _ _ _ (hstage a.1), State.reg_setFld_other _ _ _ (hstage a.1)]),
    State.reg_setFld_other _ _ _ (ho.ne (by decide)), State.reg_setFld_other _ _ _ (ho.ne (by decide))]

theorem State.reg_showCap_first (s : State) {o : Nat} (ho : FirstOff o) : s.showCap.reg o = s.reg o := by
  have hblock : ∀ n, o ≠ PH_BLOCK n := fun n => ho.ne (.inr (by simp only [WATCH_FIRST, PH_BLOCK]; omega))
  unfold State.showCap
  dsimp only
  rw [State.reg_foldl (fun x b _ => State.reg_setFld_other _ _ _ (hblock b)), State.reg_setFld_other _ _ _ (ho.ne (by decide))]

theorem Canon.setPhase {s : State} (h : Canon s) (p : Nat) : Canon (s.setPhase p) := within_setPhase.canon h

theorem State.reg_resetTo_first {s : State} (hcanon : Canon s) (p : Nat) (host : HostUnit) {k : Nat} (hk : k < 16) :
    (s.resetTo p host).reg (WATCH_FIRST k) = s.reg (WATCH_FIRST k) := by
  unfold State.resetTo
  dsimp only
  rw [State.reg_showFlash_first _ (firstOff k hk), State.reg_setFld_other _ _ _ ((firstOff k hk).ne (by decide))]
  exact State.sticky_watchFirst hcanon hk

theorem State.reg_warm_first {s : State} (hcanon : Canon s) {k : Nat} (hk : k < 16) : s.warm.reg (WATCH_FIRST k) = s.reg (WATCH_FIRST k) := by
  unfold State.warm
  dsimp only
  rw [State.reg_showCap_first _ (firstOff k hk), State.modPower_reg, State.reg_resetTo_first (hcanon.setPhase _) _ _ hk,
    s.reg_setPhase_other _ _ ((firstOff k hk).ne (by decide))]

theorem State.reg_cold_first {s : State} (hcanon : Canon s) {k : Nat} (hk : k < 16) : s.cold.reg (WATCH_FIRST k) = s.reg (WATCH_FIRST k) := by
  unfold State.cold
  dsimp only
  rw [State.reg_showCap_first _ (firstOff k hk), State.modPower_reg, State.reg_resetTo_first (hcanon.setPhase _) _ _ hk,
    s.reg_setPhase_other _ _ ((firstOff k hk).ne (by decide))]

theorem exec_warmReset_idle {s : State} (haux : s.power.auxOn = true) (hwriting : s.host.writing = []) : exec .warmReset s = .next s.warm := by
  show execWarmReset s = _
  simp [execWarmReset, haux, hwriting]

theorem exec_powerOff_on {s : State} (haux : s.power.auxOn = true) : exec .powerOff s = .next s.inputRemoved := if_pos haux

theorem State.reg_inputRemoved_first {s : State} (hcanon : Canon s) {k : Nat} (hk : k < 16) :
    s.inputRemoved.reg (WATCH_FIRST k) = s.reg (WATCH_FIRST k) := by
  unfold State.inputRemoved State.inputLost
  split
  · exact State.reg_cold_first (within_modPower.canon hcanon) hk
  · rfl

/-! ### A write of first-error bits (R13) -/

theorem watchFirst_not_single : ∀ k < 16, WATCH_FIRST k ∉ singleOffsets := by decide +kernel

theorem regBit_writePlain_first (s : State) (value : Nat) {k i : Nat} (hk : k < 16) (hi : i < 64) :
    (s.writePlain (WATCH_FIRST k) value).regBit (WATCH_FIRST k) i =
      (s.regBit (WATCH_FIRST k) i && !(value.testBit i && !(s.roseAt (WATCH_FIRST k)).toNat.testBit i)) := by
  have hwritten : s.written (WATCH_FIRST k) value = BitVec.ofNat 64 (clearMask (s.reg (WATCH_FIRST k)).toNat
      (BitVec.ofNat 64 value &&& ~~~s.roseAt (WATCH_FIRST k)).toNat 64) := by
    simp only [State.written, regRow_watchFirst k hk, watchFirstRow, writeFields, List.foldl_cons, List.foldl_nil, putFld_whole, bitsOf_whole]
  have hreg : (s.writePlain (WATCH_FIRST k) value).reg (WATCH_FIRST k) = s.written (WATCH_FIRST k) value := s.reg_setReg_same _ _
  rw [State.regBit, hreg, hwritten, ← BitVec.getLsbD, BitVec.getLsbD_ofNat, testBit_clearMask, ← BitVec.getLsbD, ← BitVec.getLsbD,
    BitVec.getLsbD_and, BitVec.getLsbD_ofNat, BitVec.getLsbD_not]
  simp only [hi, decide_true, Bool.true_and]
  rfl

theorem completes_registerWrite_first {s : State} {k value : Nat} (hs : Writable s) (hk : k < 16) :
    Completes (.registerWrite (WATCH_FIRST k) 8 value) s (fun t => ∀ i < 64, t.regBit (WATCH_FIRST k) i =
      (s.regBit (WATCH_FIRST k) i && !(value.testBit i && !(s.roseAt (WATCH_FIRST k)).toNat.testBit i))) :=
  ⟨_, exec_registerWrite_below_switch value hs (by simp only [WATCH_FIRST]; omega) (by simp only [WATCH_FIRST]; omega) (watchFirst_not_single k hk),
    fun _ hi => regBit_writePlain_first s value hk hi⟩

/-- Settles O56, by one lemma for each way that a first-error bit is set, kept or cleared. -/
theorem firstErrorBits : Obligations.FirstErrorBits := by
  unfold Obligations.FirstErrorBits
  refine ⟨fun s source kind address hsource hkind hlo hhi _ => completes_faultMessage_bits address hsource hkind hlo hhi,
    fun s source kind address hsev _ => completes_faultMessage_minor address hsev,
    fun s k hcanon hk haux hwriting => ⟨_, exec_warmReset_idle haux hwriting, State.reg_warm_first hcanon hk⟩,
    fun s k hcanon hk haux => ⟨_, exec_powerOff_on haux, State.reg_inputRemoved_first hcanon hk⟩,
    fun s k value hs hk => completes_registerWrite_first hs hk,
    fun s source kind address hsource hkind hsev hctxs => ?_,
    fun s source kind address hsource hkind hsev hctxs hdown => ?_⟩
  · refine completes_faultMessage_fatal address hsource hkind (by omega) fun a => ?_
    have hfault : (s.relayed source kind).fault source kind a = ((s.relayed source kind).accept source kind (s.severity source kind) a).halt := by
      rw [State.fault, s.severity_relayed, hsev]
      rfl
    rw [hfault]
    exact .halt (by rw [within_accept.same .tally (by decide), s.relayed_tally, hctxs])
  · refine completes_faultMessage_fatal address hsource hkind (by omega) fun a => ?_
    have hfault : (s.relayed source kind).fault source kind a = ((s.relayed source kind).accept source kind (s.severity source kind) a).freeze := by
      rw [State.fault, s.severity_relayed, hsev]
      rfl
    have hports : PortsDown ((s.relayed source kind).accept source kind (s.severity source kind) a) :=
      (PortsDown.relayed hdown source kind).of_reg fun p _ => State.reg_accept_off _ _ _ _ _ (by simp only [WATCH_FIRST, LN_PORT_W2]; omega)
    rw [hfault]
    exact .freeze (by rw [within_accept.same .tally (by decide), s.relayed_tally, hctxs]) hports

end Sys2Proof.Machine
end

section
/-! PROOF. O17: quiet and sleep (R380 to R383). -/

-- Proofs are checked one at a time: side by side they would only wait for one another.
set_option Elab.async false

namespace Sys2Proof.Machine
open Sys2Proof

/-! ### What the commands are -/

theorem State.fld_setFld_fits (s : State) {f : Fld} {v : Nat} (h : f.hi < 64) (hv : v < 2 ^ (f.hi + 1 - f.lo)) : (s.setFld f v).fld f = v := by
  rw [State.fld_setFld_same _ _ _ h, Nat.mod_eq_of_lt hv]

theorem State.port_modPort (s : State) (p : Nat) (g : PortCtl → PortCtl) : (s.modPort p g).port p = g (s.port p) := sparseGet_set_same

theorem State.port_eq_of_lanes {s t : State} (h : t.lanes = s.lanes) (p : Nat) : t.port p = s.port p := by rw [State.port, h, State.port]

theorem exec_quietRequest_port {s : State} {p : Nat} (hp : p < 256) : exec (.quietRequest p) s = .next (if s.portKind p = 0 ∨ s.canRest p
    then s.setFld (LN_PORT_W1_TX_REQ p) 1 else s.laneRefuse LN_ERR_REQ_REFUSED p) := by
  show execQuietRequest p s = _
  rw [execQuietRequest, if_neg (by omega)]
  split <;> rfl

theorem exec_sleepRequest_port {s : State} {p : Nat} (hp : p < 256) (hrest : s.canRest p = true) : exec (.sleepRequest p) s = .next
    (if s.carriesTiming p then s.laneRefuse LN_ERR_SLEEP_REFUSED p else s.setFld (LN_PORT_W1_TX_REQ p) 2) := by
  have hkind : s.portKind p ≠ 0 := by
    intro h
    simp [State.canRest, h] at hrest
  show execSleepRequest p s = _
  rw [execSleepRequest, if_neg (by omega), if_neg hkind, hrest]
  simp only [Bool.not_true, Bool.false_eq_true, if_false]
  split <;> rfl

theorem exec_activeRequest_port {s : State} {p : Nat} (hp : p < 256) :
    exec (.activeRequest p) s = .next ((s.setFld (LN_PORT_W1_TX_REQ p) 0).startWake p) := if_neg (by omega)

theorem exec_wakeTickWrite_port {s : State} {p tick : Nat} (hp : p < 256) (hkind : s.portKind p ≠ 0) : exec (.wakeTickWrite p tick) s = .next
    (if tick = 0 ∨ (s.bellSet ∧ s.now + wakeTicks (max (s.fld (LN_PORT_W2_TX_STATE p)) (s.fld (LN_PORT_W1_TX_REQ p))) + 8000 ≤ tick)
      then s.setReg (LN_PORT_W3 p) (BitVec.ofNat 64 tick) else s.laneRefuse LN_ERR_WAKE_REFUSED p) := by
  show execWakeTickWrite p tick s = _
  rw [execWakeTickWrite, if_neg (by omega), if_neg hkind]
  dsimp only
  split <;> rfl

/-! ### Refusals of the lanes block (R388) -/

theorem State.reg_laneRefuse_other (s : State) (f : Fld) (p : Nat) {o : Nat} (hf : f.off = LN_ERR) (h : o ≠ LN_ERR) :
    (s.laneRefuse f p).reg o = s.reg o := by
  rw [State.laneRefuse, State.reg_setFld_other _ _ _ h, State.reg_raise_other _ _ (hf ▸ h)]

theorem State.fld_laneRefuse (s : State) {f : Fld} {p : Nat} (hp : p < 256) (hone : f.hi = f.lo) (hlow : f.hi < 8) :
    (s.laneRefuse f p).fld f = 1 ∧ (s.laneRefuse f p).fld LN_ERR_PORT = p := by
  refine ⟨?_, State.fld_setFld_fits _ (by decide) hp⟩
  rw [State.laneRefuse, State.fld_setFld_apart _ _ _ _ (.inr ⟨by omega, .inl hlow⟩), State.fld_raise_same _ _ (by omega), hone, Nat.add_sub_cancel_left]
  rfl

/-! ### A direction that wakes (R382) -/

theorem State.startWake_asleep {s : State} {p : Nat} (hstate : s.fld (LN_PORT_W2_TX_STATE p) ≠ 0) (hwaking : (s.port p).txWaking = none) :
    ((s.startWake p).port p).txWaking = some s.free ∧ (s.startWake p).regs = s.regs := by
  rw [State.startWake, if_neg hstate, State.port_modPort, hwaking]
  exact ⟨rfl, rfl⟩

theorem State.narrowAwake_of_none {s : State} {p : Nat} (h : (s.port p).narrowDue = none) : s.narrowAwake p = s := by rw [State.narrowAwake, h]

theorem w1_ne_w2 (p q : Nat) : LN_PORT_W1 p ≠ LN_PORT_W2 q := by simp only [LN_PORT_W1, LN_PORT_W2]; omega

theorem completes_activeRequest {s : State} {p : Nat} (hp : p < 256) (hstate : s.fld (LN_PORT_W2_TX_STATE p) ≠ 0) (hwaking : (s.port p).txWaking = none) :
    Completes (.activeRequest p) s (fun t => t.fld (LN_PORT_W1_TX_REQ p) = 0 ∧ (t.port p).txWaking = some s.free) := by
  have hasleep : (s.setFld (LN_PORT_W1_TX_REQ p) 0).fld (LN_PORT_W2_TX_STATE p) ≠ 0 := by
    rw [State.fld_setFld_off _ _ _ _ (w1_ne_w2 p p).symm]
    exact hstate
  obtain ⟨hport, hregs⟩ := State.startWake_asleep hasleep hwaking
  refine ⟨_, exec_activeRequest_port hp, ?_, hport⟩
  rw [State.fld_congr hregs, State.fld_setFld_fits _ (by simp [LN_PORT_W1_TX_REQ]) (by simp [LN_PORT_W1_TX_REQ])]

theorem completes_wakeTrigger_asleep {s : State} {p : Nat} (hup : s.portUp p = true) (hwanted : s.wakeWanted p = true)
    (hstate : s.fld (LN_PORT_W2_TX_STATE p) ≠ 0) (hwaking : (s.port p).txWaking = none) :
    Completes (.wakeTrigger p) s (fun t => (t.port p).txWaking = some s.free ∧ t.regs = s.regs) := by
  refine ⟨s.startWake p, ?_, State.startWake_asleep hstate hwaking⟩
  show execWakeTrigger p s = _
  rw [execWakeTrigger, if_neg (by simp [hup, hwanted]), if_pos hstate]

theorem completes_wakeTrigger_awake {s : State} {p : Nat} (hup : s.portUp p = true) (hwanted : s.wakeWanted p = true)
    (htx : s.fld (LN_PORT_W2_TX_STATE p) = 0) (hrx : s.fld (LN_PORT_W2_RX_STATE p) ≠ 0) :
    Completes (.wakeTrigger p) s (fun t => t.out = { s.out with ctrl := s.out.ctrl ++ [(p, (CtrlBlock.lane 3 (s.port p).usable 0 0).bytes)] }) := by
  refine ⟨s.sentCtrl p (.lane 3 (s.port p).usable 0 0), ?_, rfl⟩
  show execWakeTrigger p s = _
  rw [execWakeTrigger, if_neg (by simp [hup, hwanted]), if_neg (not_not.2 htx), if_pos hrx]

theorem completes_laneWake {s : State} {p : Nat} (hup : s.portUp p = true) (hstate : s.fld (LN_PORT_W2_TX_STATE p) ≠ 0)
    (hwaking : (s.port p).txWaking = none) : Completes (.laneWake p) s (fun t => (t.port p).txWaking = some s.free ∧ t.regs = s.regs) :=
  ⟨s.startWake p, if_pos hup, State.startWake_asleep hstate hwaking⟩

theorem completes_wakeTickReached {s : State} {p : Nat} (hup : s.portUp p = true) (htick : (s.reg (LN_PORT_W3 p)).toNat ≠ 0)
    (hstate : s.fld (LN_PORT_W2_TX_STATE p) ≠ 0) (hset : s.bellSet = true)
    (hdue : (s.reg (LN_PORT_W3 p)).toNat ≤ s.now + wakeTicks (s.fld (LN_PORT_W2_TX_STATE p))) (hnow : s.now ≤ (s.reg (LN_PORT_W3 p)).toNat)
    (hskip : s.skippedTick (s.reg (LN_PORT_W3 p)).toNat = false) (hwaking : (s.port p).txWaking = none) :
    Completes (.wakeTickReached p) s (fun t => (t.port p).txWaking = some s.free ∧ t.regs = s.regs) := by
  refine ⟨s.startWake p, ?_, State.startWake_asleep hstate hwaking⟩
  show Host.Outcome.next (s.wakeDue p) = _
  rw [State.wakeDue]
  rw [if_neg (by simp [hskip]), if_pos ⟨hup, htick, hstate, hset, hdue, hnow⟩]

/-! ### A state entered, a notice received (R380, R381) -/

theorem canRest_kind {s : State} {p : Nat} (h : s.canRest p = true) : [1, 2, 4].contains (s.portKind p) = true := by
  simp only [State.canRest, Bool.and_eq_true, List.contains_eq_mem, List.mem_cons, List.not_mem_nil, or_false, decide_eq_true_eq] at h ⊢
  omega

/-- A port up whose transmit direction is active states its credit and acknowledgements. -/
theorem State.sendStatus_active {s : State} {p : Nat} (hup : s.portUp p = true) (hkind : [1, 2, 4].contains (s.portKind p) = true)
    (htx : s.fld (LN_PORT_W2_TX_STATE p) = 0) : s.sendStatus p =
      (s.sentCtrl p (s.statusBlock p)).modPort p (fun c => { c with ackSent := s.ackSeq p, credSent := s.creditSums p }) := by
  have hstate : s.fld (LN_PORT_W2_STATE p) = 2 := by
    simp only [State.portUp, Bool.and_eq_true, beq_iff_eq] at hup
    exact hup.2
  rw [State.sendStatus, hkind, hstate, htx]
  rfl

theorem completes_powerStateEntry {s : State} {p : Nat} (hup : s.portUp p = true) (hrest : s.canRest p = true)
    (hreq : s.fld (LN_PORT_W1_TX_REQ p) = 1 ∨ s.fld (LN_PORT_W1_TX_REQ p) = 2) (htx : s.fld (LN_PORT_W2_TX_STATE p) = 0) (hphase : s.phase ≠ 6)
    (hstore : (s.port p).store = []) (hnarrow : (s.port p).narrowing = none) (hdue : (s.port p).narrowDue = none) (hwoke : (s.port p).wokeAt = none)
    (hcopies : ∀ x ∈ s.sw.copies, x.out ≠ p) : Completes (.powerStateEntry p) s (fun t =>
      t.fld (LN_PORT_W2_TX_STATE p) = s.fld (LN_PORT_W1_TX_REQ p) ∧ t.out = { s.out with ctrl := s.out.ctrl ++ [(p, (s.statusBlock p).bytes),
        (p, (CtrlBlock.lane 2 (s.port p).usable (s.fld (LN_PORT_W1_TX_REQ p))
          (if s.bellSet = true ∧ s.now < (s.reg (LN_PORT_W3 p)).toNat then (s.reg (LN_PORT_W3 p)).toNat else 0)).bytes)] }) := by
  have hany : s.sw.copies.any (fun x => x.out == p) = false := by simpa using hcopies
  have hbit : (s.fld (LN_PORT_W1_TX_REQ p) == 1 || s.fld (LN_PORT_W1_TX_REQ p) == 2) = true := by simpa using hreq
  refine ⟨_, if_pos ?_, ?_, ?_⟩
  · simp [hup, hrest, hbit, htx, hphase, hstore, hnarrow, hdue, hwoke, hany]
  · have hfits : s.fld (LN_PORT_W1_TX_REQ p) < 4 := by omega
    exact State.fld_setFld_fits _ (by simp [LN_PORT_W2_TX_STATE]) (by simpa [LN_PORT_W2_TX_STATE] using hfits)
  · rw [State.setFld_out, State.sendStatus_active hup (canRest_kind hrest) htx]
    simp [State.sentCtrl, State.modOut]

theorem completes_lanePower {s : State} {p state : Nat} (tick : Nat) (hup : s.portUp p = true) (hkind : s.portKind p ∈ [1, 2, 4])
    (hv1 : s.flag (LN_PORT_W2_V1 p) = false) (hstate : state ≤ 2) : Completes (.lanePower p state tick) s (fun t =>
      t.fld (LN_PORT_W2_RX_STATE p) = state ∧ t.port p = { s.port p with rxTick := if s.bellSet = true ∧ s.now < tick then tick else 0 }) := by
  refine ⟨_, if_pos ⟨hup, by simpa using hkind, by simp [hv1], hstate⟩, ?_, ?_⟩
  · rw [State.modPort_fld, State.fld_setFld_fits _ (by simp [LN_PORT_W2_RX_STATE]) (by simp [LN_PORT_W2_RX_STATE]; omega)]
  · rw [State.port_modPort, State.port_eq_of_lanes (s.setFld_lanes _ _)]

/-! ### A direction is awake again (R380, R382, R383) -/

theorem w2_ne_w7 (p q : Nat) : LN_PORT_W2 p ≠ LN_PORT_W7 q := by simp only [LN_PORT_W2, LN_PORT_W7]; omega

/-- The transmit direction of a port awake, its wake counted. -/
def State.txAwake (s : State) (p : Nat) : State :=
  let s1 := (s.setFld (LN_PORT_W2_TX_STATE p) 0).modPort p (fun c => { c with txWaking := none, wokeAt := some s.free })
  s1.setFld (LN_PORT_W7_WAKES p) (s1.fld (LN_PORT_W7_WAKES p) + 1)

theorem State.port_txAwake (s : State) (p : Nat) : (s.txAwake p).port p = { s.port p with txWaking := none, wokeAt := some s.free } := by
  unfold State.txAwake
  dsimp only
  rw [State.port_eq_of_lanes (State.setFld_lanes _ _ _), State.port_modPort, State.port_eq_of_lanes (s.setFld_lanes _ _)]

theorem State.fld_txAwake (s : State) (p : Nat) : (s.txAwake p).fld (LN_PORT_W2_TX_STATE p) = 0 ∧
    (s.txAwake p).fld (LN_PORT_W7_WAKES p) = (s.fld (LN_PORT_W7_WAKES p) + 1) % 2 ^ 32 := by
  unfold State.txAwake
  dsimp only
  constructor
  · rw [State.fld_setFld_off _ _ _ _ (w2_ne_w7 p p), State.modPort_fld, State.fld_setFld_fits _ (by simp [LN_PORT_W2_TX_STATE]) (by simp)]
  · rw [State.fld_setFld_same _ _ _ (by simp [LN_PORT_W7_WAKES]), State.modPort_fld, State.fld_setFld_off _ _ _ _ (w2_ne_w7 p p).symm]
    rfl

theorem completes_wakeDone_tx {s : State} {p w : Nat} (hup : s.portUp p = true) (hdue : (s.port p).narrowDue = none)
    (hwaking : (s.port p).txWaking = some w) (htime : w + wakeTicks (s.fld (LN_PORT_W2_TX_STATE p)) ≤ s.free) : Completes (.wakeDone p false) s (fun t =>
      t.fld (LN_PORT_W2_TX_STATE p) = 0 ∧ (t.port p).txWaking = none ∧ (t.port p).wokeAt = some s.free ∧
      t.fld (LN_PORT_W7_WAKES p) = (s.fld (LN_PORT_W7_WAKES p) + 1) % 2 ^ 32) := by
  obtain ⟨u, hu, hregs, hlanes⟩ : ∃ u : State, u = (if (s.txAwake p).fld (LN_PORT_W2_RX_STATE p) = 0 then s.txAwake p
      else (s.txAwake p).sentCtrl p (.lane 3 ((s.txAwake p).port p).usable 0 0)) ∧ u.regs = (s.txAwake p).regs ∧ u.lanes = (s.txAwake p).lanes := by
    refine ⟨_, rfl, ?_, ?_⟩ <;> split <;> rfl
  have hport : u.port p = { s.port p with txWaking := none, wokeAt := some s.free } := by rw [State.port_eq_of_lanes hlanes, s.port_txAwake]
  have hexec : exec (.wakeDone p false) s = .next u := by
    show execWakeDone p false s = _
    rw [execWakeDone, if_neg (by simp [hup]), if_neg (by simp), hwaking]
    dsimp only
    rw [if_neg (by omega)]
    exact congrArg Host.Outcome.next ((congrArg (fun x : State => x.narrowAwake p) hu.symm).trans (State.narrowAwake_of_none (by rw [hport]; exact hdue)))
  obtain ⟨hstate, hwakes⟩ := s.fld_txAwake p
  exact ⟨u, hexec, by rw [State.fld_congr hregs, hstate], by rw [hport], by rw [hport], by rw [State.fld_congr hregs, hwakes]⟩

/-- The receive direction of a port awake. -/
def State.rxAwake (s : State) (p : Nat) : State := (s.setFld (LN_PORT_W2_RX_STATE p) 0).modPort p (fun c => { c with rxTick := 0 })

theorem exec_wakeDone (p : Nat) (receive : Bool) (s : State) : exec (.wakeDone p receive) s = execWakeDone p receive s := rfl

theorem execWakeDone_rx {s : State} {p : Nat} (hup : s.portUp p = true) (hrx : s.fld (LN_PORT_W2_RX_STATE p) ≠ 0) :
    ∃ u, execWakeDone p true s = .next (u.narrowAwake p) ∧ (u = s.rxAwake p ∨ u = (s.rxAwake p).choice 4) := by
  rw [execWakeDone, if_neg (by simp [hup]), if_pos rfl]
  dsimp only
  rw [if_neg hrx]
  split
  · exact ⟨_, rfl, .inr rfl⟩
  · exact ⟨_, rfl, .inl rfl⟩

theorem completes_wakeDone_rx {s : State} {p : Nat} (hp : p < 256) (hup : s.portUp p = true) (hdue : (s.port p).narrowDue = none)
    (hrx : s.fld (LN_PORT_W2_RX_STATE p) ≠ 0) : Completes (.wakeDone p true) s (fun t =>
      t.fld (LN_PORT_W2_RX_STATE p) = 0 ∧ (t.port p).rxTick = 0 ∧ t.port p = { s.port p with rxTick := 0 }) := by
  obtain ⟨u, hexec, hu⟩ := execWakeDone_rx hup hrx
  have hoff : OffChoice (LN_PORT_W2 p) := offChoice_of_lt (by simp only [LN_PORT_W2, BT_CHOICE]; omega)
  have hreg : u.reg (LN_PORT_W2 p) = (s.rxAwake p).reg (LN_PORT_W2 p) := by
    obtain rfl | rfl := hu
    · rfl
    · exact State.reg_choice hoff (by decide)
  have hlanes : u.lanes = (s.rxAwake p).lanes := by
    obtain rfl | rfl := hu
    · rfl
    · exact within_choice.same .lanes (by decide)
  have hport : u.port p = { s.port p with rxTick := 0 } := by
    rw [State.port_eq_of_lanes hlanes, State.rxAwake, State.port_modPort, State.port_eq_of_lanes (s.setFld_lanes _ _)]
  rw [State.narrowAwake_of_none (by rw [hport]; exact hdue)] at hexec
  refine ⟨u, (exec_wakeDone p true s).trans hexec, ?_, by rw [hport], hport⟩
  rw [State.fld_eq_of_reg (f := LN_PORT_W2_RX_STATE p) hreg, State.rxAwake, State.modPort_fld, State.fld_setFld_fits _ (by simp [LN_PORT_W2_RX_STATE]) (by simp)]

/-- Settles O17, by one lemma for each command and outcome. -/
theorem powerStatesComplete : Obligations.PowerStatesComplete := by
  unfold Obligations.PowerStatesComplete
  refine ⟨fun s p hp hrest => ?_, fun s p hp hrest htiming => ?_, fun s p hp hrest htiming => ?_, fun s p hp hkind hrest => ?_,
    fun s p hp _ hstate hwaking => completes_activeRequest hp hstate hwaking,
    fun s p _ hup hrest hreq htx hphase hstore hnarrow hdue hwoke hcopies =>
      completes_powerStateEntry hup hrest hreq htx hphase hstore hnarrow hdue hwoke hcopies,
    fun s p _ hup hwanted hstate hwaking => completes_wakeTrigger_asleep hup hwanted hstate hwaking,
    fun s p _ hup hwanted htx hrx => completes_wakeTrigger_awake hup hwanted htx hrx,
    fun s p state tick _ hup hkind hv1 hstate => completes_lanePower tick hup hkind hv1 hstate,
    fun s p _ hup hstate hwaking => completes_laneWake hup hstate hwaking,
    fun s p tick hp hkind hset htick hahead => ?_, fun s p tick hp hkind htick hnear => ?_,
    fun s p _ hup htick hstate hset hdue hnow hskip hwaking => completes_wakeTickReached hup htick hstate hset hdue hnow hskip hwaking,
    fun s p w _ hup hdue hwaking htime => completes_wakeDone_tx hup hdue hwaking htime,
    fun s p hp hup hdue hrx => completes_wakeDone_rx hp hup hdue hrx⟩
  · refine ⟨_, (exec_quietRequest_port hp).trans (congrArg _ (if_pos (.inr hrest))), State.fld_setFld_fits _ ?_ ?_, s.setFld_lanes _ _⟩ <;>
      simp [LN_PORT_W1_TX_REQ]
  · refine ⟨_, (exec_sleepRequest_port hp hrest).trans (congrArg _ (if_neg (by simp [htiming]))), State.fld_setFld_fits _ ?_ ?_, s.setFld_lanes _ _⟩ <;>
      simp [LN_PORT_W1_TX_REQ]
  · obtain ⟨hbit, hport⟩ := s.fld_laneRefuse (f := LN_ERR_SLEEP_REFUSED) hp rfl (by decide)
    exact ⟨_, (exec_sleepRequest_port hp hrest).trans (congrArg _ (if_pos htiming)), hbit, hport,
      s.reg_laneRefuse_other _ _ rfl (by simp only [LN_PORT_W1, LN_ERR]; omega)⟩
  · obtain ⟨hbit, hport⟩ := s.fld_laneRefuse (f := LN_ERR_REQ_REFUSED) hp rfl (by decide)
    exact ⟨_, (exec_quietRequest_port hp).trans (congrArg _ (if_neg (by simp [hkind, hrest]))), hbit, hport,
      s.reg_laneRefuse_other _ _ rfl (by simp only [LN_PORT_W1, LN_ERR]; omega)⟩
  · refine ⟨_, (exec_wakeTickWrite_port hp hkind).trans (congrArg _ (if_pos (.inr ⟨hset, hahead⟩))), ?_, rfl⟩
    rw [State.reg_setReg_same, BitVec.toNat_ofNat, Nat.mod_eq_of_lt htick]
  · obtain ⟨hbit, hport⟩ := s.fld_laneRefuse (f := LN_ERR_WAKE_REFUSED) hp rfl (by decide)
    have hrefused : ¬(tick = 0 ∨ (s.bellSet = true ∧
        s.now + wakeTicks (max (s.fld (LN_PORT_W2_TX_STATE p)) (s.fld (LN_PORT_W1_TX_REQ p))) + 8000 ≤ tick)) := by
      rintro (h | ⟨hset, hle⟩)
      · exact htick h
      · obtain hoff | hlt := hnear
        · rw [hoff] at hset
          cases hset
        · omega
    exact ⟨_, (exec_wakeTickWrite_port hp hkind).trans (congrArg _ (if_neg hrefused)),
      s.reg_laneRefuse_other _ _ rfl (by simp only [LN_PORT_W3, LN_ERR]; omega), hbit, hport⟩

end Sys2Proof.Machine
end

section
/-! SUPPORT. The register map: no offset belongs to two of its rows, so a row that has an offset is the offset's row. What a write leaves in a field that
has reserved values stands here too. -/

-- Proofs are checked one at a time: side by side they would only wait for one another.
set_option Elab.async false

namespace Sys2Proof.Machine
open Sys2Proof

/-- The end of a row's last word. -/
def RegRow.stop (r : RegRow) : Nat := r.base + (r.count - 1) * r.stride + 8 * r.words

/-- No word belongs to both rows: one ends before the other begins, or they share a stride, and the one's words lie behind the other's. -/
def RegRow.apart (q r : RegRow) : Bool :=
  decide (q.stop ≤ r.base) || decide (r.stop ≤ q.base) ||
  (q.stride == r.stride && decide (q.base ≤ r.base ∧ 8 * q.words ≤ (r.base - q.base) % q.stride ∧ (r.base - q.base) % q.stride + 8 * r.words ≤ q.stride)) ||
  (q.stride == r.stride && decide (r.base ≤ q.base ∧ 8 * r.words ≤ (q.base - r.base) % q.stride ∧ (q.base - r.base) % q.stride + 8 * q.words ≤ q.stride))

theorem RegRow.has_iff {r : RegRow} {off : Nat} : r.has off = true ↔
    r.base ≤ off ∧ (off - r.base) / r.stride < r.count ∧ (off - r.base) % r.stride < 8 * r.words ∧ (off - r.base) % r.stride % 8 = 0 := by
  simp only [RegRow.has, Bool.and_eq_true, decide_eq_true_eq, and_assoc]

theorem RegRow.lt_stop_of_has {r : RegRow} {off : Nat} (h : r.has off = true) : off < r.stop := by
  obtain ⟨hle, hindex, hword, -⟩ := RegRow.has_iff.1 h
  have hsplit := Nat.div_add_mod (off - r.base) r.stride
  have hmul : r.stride * ((off - r.base) / r.stride) ≤ (r.count - 1) * r.stride := by
    rw [Nat.mul_comm]
    exact Nat.mul_le_mul_right _ (by omega)
  unfold RegRow.stop
  omega

/-- Of two rows of one stride, the words of the second lie behind those of the first. -/
theorem RegRow.not_has_of_behind {q r : RegRow} {off : Nat} (hstride : q.stride = r.stride) (hbase : q.base ≤ r.base)
    (hlo : 8 * q.words ≤ (r.base - q.base) % q.stride) (hhi : (r.base - q.base) % q.stride + 8 * r.words ≤ q.stride) (hr : r.has off = true) :
    q.has off = false := by
  obtain ⟨hle, -, hword, -⟩ := RegRow.has_iff.1 hr
  rw [← hstride] at hword
  have hsum : off - q.base = (r.base - q.base) + (off - r.base) := by omega
  have hmod : (off - q.base) % q.stride = (r.base - q.base) % q.stride + (off - r.base) % q.stride := by
    rw [hsum, Nat.add_mod, Nat.mod_eq_of_lt (by omega)]
  by_contra hq
  obtain ⟨-, -, hqword, -⟩ := RegRow.has_iff.1 (by simpa using hq : q.has off = true)
  omega

theorem RegRow.not_has_of_apart {q r : RegRow} {off : Nat} (hapart : q.apart r = true) (h : r.has off = true) : q.has off = false := by
  simp only [RegRow.apart, Bool.or_eq_true, Bool.and_eq_true, decide_eq_true_eq, beq_iff_eq] at hapart
  by_contra hq
  replace hq : q.has off = true := by simpa using hq
  have hstop := RegRow.lt_stop_of_has h
  have hqstop := RegRow.lt_stop_of_has hq
  have hbase := (RegRow.has_iff.1 h).1
  have hqbase := (RegRow.has_iff.1 hq).1
  obtain ((hbefore | hafter) | ⟨hstride, hle, hlo, hhi⟩) | ⟨hstride, hle, hlo, hhi⟩ := hapart
  · omega
  · omega
  · rw [RegRow.not_has_of_behind hstride hle hlo hhi h] at hq
    cases hq
  · rw [RegRow.not_has_of_behind hstride.symm hle (hstride ▸ hlo) (hstride ▸ hhi) hq] at h
    cases h

theorem regRows_apart {q r : RegRow} (hq : q ∈ regRows) (hr : r ∈ regRows) : q = r ∨ q.apart r = true := by
  have hall : regRows.all (fun q => regRows.all (fun r => q.apart r || q == r)) = true := by decide +kernel
  have := List.all_eq_true.1 (List.all_eq_true.1 hall q hq) r hr
  rw [Bool.or_eq_true, beq_iff_eq] at this
  exact this.symm

/-- A row that has an offset is the offset's row. -/
theorem regRow_of_has {r : RegRow} {off : Nat} (hr : r ∈ regRows) (hhas : r.has off = true) (hout : off < 0x880000 ∨ 0xB00000 ≤ off) :
    regRow? off = some r := by
  rw [regRow?, regHome_of_outside hout]
  cases hfind : regRows.find? (fun q => q.has off) with
  | none =>
    have := List.find?_eq_none.1 hfind r hr
    exact absurd hhas this
  | some q =>
    have hq := List.mem_of_find?_eq_some hfind
    have hqhas : q.has off = true := List.find?_some (p := fun q : RegRow => q.has off) hfind
    obtain rfl | hapart := regRows_apart hq hr
    · rfl
    · rw [RegRow.not_has_of_apart hapart hhas] at hqhas
      cases hqhas

/-- The row of the `i`-th register of an array outside the clusters. -/
theorem regRow_array {r : RegRow} (hr : r ∈ regRows) (hwords : 1 ≤ r.words ∧ 8 * r.words ≤ r.stride)
    (hout : r.base + r.stride * r.count ≤ 0x880000 ∨ 0xB00000 ≤ r.base) {i : Nat} (hi : i < r.count) {off : Nat} (hoff : off = r.base + r.stride * i) :
    regRow? off = some r := by
  subst hoff
  have hlt : r.stride * i < r.stride * r.count := Nat.mul_lt_mul_of_pos_left hi (by omega)
  exact regRow_of_has hr (RegRow.has_word (j := 0) hi hwords.1 hwords.2) (by omega)

/-- An RW field takes a value that is not reserved. -/
theorem State.bitsOf_written_ok (s : State) {off value : Nat} {r : RegRow} {f : FieldRow} (hrow : regRow? off = some r) (hf : f ∈ r.fields)
    (hacc : f.acc = .rw) (hok : f.ok (bitsOf value f.hi f.lo) = true) : bitsOf (s.written off value).toNat f.hi f.lo = bitsOf value f.hi f.lo := by
  have hfs := fieldsApart_of_row hrow
  have hlt : f.hi < 64 := hfs.1 _ hf
  rw [State.written, hrow]
  refine (bitsOf_writeFields hfs _ _ _ hf).trans ?_
  simp only [writeField, hacc, bitsOf_ofNat hlt, hok, if_true]
  rw [bitsOf_putFld_same _ _ _ _ hlt, Nat.mod_eq_of_lt (bitsOf_lt _ _ _)]

/-- A RO or WO field is not written. -/
theorem State.bitsOf_written_ro (s : State) {off : Nat} (value : Nat) {r : RegRow} {f : FieldRow} (hrow : regRow? off = some r) (hf : f ∈ r.fields)
    (hacc : f.acc = .ro ∨ f.acc = .wo) : bitsOf (s.written off value).toNat f.hi f.lo = bitsOf (s.reg off).toNat f.hi f.lo := by
  rw [State.written, hrow]
  refine (bitsOf_writeFields (fieldsApart_of_row hrow) _ _ _ hf).trans ?_
  obtain hacc | hacc := hacc <;> simp only [writeField, hacc]

theorem State.reg_writePlain_same (s : State) (off value : Nat) : (s.writePlain off value).reg off = s.written off value := s.reg_setReg_same _ _

theorem State.fldAt_writePlain (s : State) {off value : Nat} {r : RegRow} {hi lo reset : Nat} (hrow : regRow? off = some r)
    (hf : (⟨hi, lo, .rw, reset, []⟩ : FieldRow) ∈ r.fields) : (s.writePlain off value).fld ⟨off, hi, lo⟩ = bitsOf value hi lo := by
  rw [State.fld, s.reg_writePlain_same]
  exact s.bitsOf_written hrow hf

/-- A register of one RW field holds the value written. -/
theorem State.written_whole (s : State) {off : Nat} {r : RegRow} {reset : Nat} (value : Nat) (hrow : regRow? off = some r)
    (hf : r.fields = [⟨63, 0, .rw, reset, []⟩]) : s.written off value = BitVec.ofNat 64 value := by
  have hbits := bitsOf_whole (BitVec.ofNat 64 value)
  have hok : ∀ v, (⟨63, 0, .rw, reset, []⟩ : FieldRow).ok v = true := fun _ => rfl
  simp only [State.written, hrow, hf, writeFields, List.foldl_cons, List.foldl_nil, hok, if_true, putFld_whole, hbits, BitVec.ofNat_toNat, BitVec.setWidth_eq]

end Sys2Proof.Machine
end

section
/-! PROOF. O18: writes of the checked entries of the tables (R76, R93, R123, R127, R130, R139, R156, R473). -/

-- Proofs are checked one at a time: side by side they would only wait for one another.
set_option Elab.async false

namespace Sys2Proof.Machine
open Sys2Proof

/-! ### The rows of the entries -/

/-- The row of SW_RANKn. -/
def rankRow : RegRow := ⟨0x00300000, 8, 32768, 1, [⟨63, 63, .rw, 0, []⟩, ⟨62, 62, .rw, 0, []⟩, ⟨18, 8, .rw, 0, []⟩, ⟨7, 0, .rw, 0, []⟩]⟩

/-- The row of SW_PARTYp. -/
def partyRow : RegRow := ⟨0x00340000, 8, 4096, 1, [⟨63, 63, .rw, 0, []⟩, ⟨62, 61, .rw, 0, [(0, 1)]⟩, ⟨60, 58, .rw, 0, [(0, 6)]⟩,
  ⟨57, 42, .rw, 0, [(1, 32768)]⟩, ⟨41, 27, .rw, 0, []⟩]⟩

/-- The row of SW_STREAMn. -/
def streamRow : RegRow := ⟨0x00380000, 8, 65536, 1, [⟨63, 63, .rw, 0, []⟩, ⟨62, 62, .ro, 0, []⟩, ⟨61, 61, .ro, 0, []⟩, ⟨60, 49, .rw, 0, []⟩,
  ⟨48, 32, .rw, 0, []⟩, ⟨31, 16, .ro, 0, []⟩, ⟨15, 0, .ro, 0, []⟩]⟩

/-- The row of SW_OWNERo. -/
def ownerRow : RegRow := ⟨0x00208000, 128, 256, 12, [⟨42, 40, .rw, 4, []⟩, ⟨39, 20, .rw, 0, []⟩, ⟨19, 0, .rw, 0, [(0, 0), (17, 524287)]⟩]⟩

/-- The row of SW_SACRIFICE. -/
def sacrificeRow : RegRow := ⟨0x00200008, 8, 1, 1, [⟨58, 56, .rw, 2, []⟩, ⟨55, 42, .rw, 0x40, []⟩, ⟨41, 28, .rw, 0x80, []⟩, ⟨27, 14, .rw, 0x100, []⟩,
  ⟨13, 0, .rw, 0x200, []⟩]⟩

/-- The row of TL_POOLp. -/
def tallyPoolRow : RegRow := ⟨0x00401000, 8, 4096, 1, [⟨42, 40, .rw, 4, []⟩, ⟨39, 20, .rw, 0, []⟩, ⟨19, 0, .rw, 0, []⟩]⟩

/-- The row of word 0 of SW_VLANv. -/
def vlan0Row : RegRow := ⟨0x00230000, 16, 4096, 1, [⟨63, 0, .rw, 0, []⟩]⟩

/-- The row of word 1 of SW_VLANv. -/
def vlan1Row : RegRow := ⟨0x00230008, 16, 4096, 1, [⟨63, 63, .rw, 0, []⟩, ⟨16, 16, .rw, 0, []⟩, ⟨15, 0, .rw, 0, []⟩]⟩

/-- The row of word 0 of SW_POLm. -/
def policer0Row : RegRow := ⟨0x00202000, 16, 512, 1, [⟨63, 63, .rw, 0, []⟩, ⟨62, 62, .rw, 0, []⟩, ⟨35, 16, .rw, 0, [(4132, 1048575)]⟩, ⟨15, 0, .rw, 0, []⟩]⟩

/-- The row of word 1 of SW_POLm. -/
def policer1Row : RegRow := ⟨0x00202008, 16, 512, 1, [⟨35, 16, .rw, 0, [(4132, 1048575)]⟩, ⟨15, 0, .rw, 0, []⟩]⟩

theorem regRow_rank {n : Nat} (hn : n < 32768) : regRow? (SW_RANK n) = some rankRow :=
  regRow_array (by decide +kernel) (by decide) (by decide) hn rfl

theorem regRow_partyEntry {p : Nat} (hp : p < 4096) : regRow? (SW_PARTY p) = some partyRow :=
  regRow_array (by decide +kernel) (by decide) (by decide) hp rfl

theorem regRow_stream {n : Nat} (hn : n < 65536) : regRow? (SW_STREAM n) = some streamRow :=
  regRow_array (by decide +kernel) (by decide) (by decide) hn rfl

theorem regRow_sacrifice : regRow? SW_SACRIFICE = some sacrificeRow := by decide +kernel

theorem regRow_tallyPool {p : Nat} (hp : p < 4096) : regRow? (TL_POOL p) = some tallyPoolRow :=
  regRow_array (by decide +kernel) (by decide) (by decide) hp rfl

theorem regRow_vlan0 {v : Nat} (hv : v < 4096) : regRow? (SW_VLAN_W0 v) = some vlan0Row :=
  regRow_array (by decide +kernel) (by decide) (by decide) hv rfl

theorem regRow_vlan1 {v : Nat} (hv : v < 4096) : regRow? (SW_VLAN_W1 v) = some vlan1Row :=
  regRow_array (by decide +kernel) (by decide) (by decide) hv rfl

theorem regRow_policer0 {m : Nat} (hm : m < 512) : regRow? (SW_POL_W0 m) = some policer0Row :=
  regRow_array (by decide +kernel) (by decide) (by decide) hm rfl

theorem regRow_policer1 {m : Nat} (hm : m < 512) : regRow? (SW_POL_W1 m) = some policer1Row :=
  regRow_array (by decide +kernel) (by decide) (by decide) hm rfl

theorem regRow_owner {n : Nat} (hn : n < 4096) (hclass : n % 16 < 12) : regRow? (SW_OWNER n) = some ownerRow := by
  have hoff : SW_OWNER n = ownerRow.base + ownerRow.stride * (n / 16) + 8 * (n % 16) := by
    simp only [SW_OWNER, ownerRow]
    omega
  rw [hoff]
  refine regRow_of_has (by decide +kernel) (RegRow.has_word (by simp only [ownerRow]; omega) hclass (by decide)) ?_
  simp only [ownerRow]
  omega

/-! ### Rank and party entries (R76, R78) -/

theorem exec_rankEntryWrite {n : Nat} (hn : n < 32768) (value : Nat) (s : State) : exec (.rankEntryWrite n value) s = .next
    (if (List.range 4096).any (fun p => s.flag (SW_PARTY_VALID p) && decide (s.fld (SW_PARTY_BASE p) ≤ n) &&
        decide (n < s.fld (SW_PARTY_BASE p) + s.fld (SW_PARTY_GROUPS p)) && decide (64 < bitsOf value 7 0 + 2 ^ s.fld (SW_PARTY_GROUP_SHIFT p)))
      then s.raise SW_TABLE_ERR_RANK_RANGE else (s.keepEntry (SW_RANK n)).writePlain (SW_RANK n) value) := by
  have hport : bitsOf (s.written (SW_RANK n) value).toNat 7 0 = bitsOf value 7 0 := s.bitsOf_written (reset := 0) (regRow_rank hn) (by decide)
  show execRankEntryWrite n value s = _
  rw [execRankEntryWrite, if_neg (by omega), hport]
  dsimp only
  split <;> rfl

theorem completes_rankEntryWrite {s : State} {n value : Nat} (hn : n < 32768)
    (hok : ∀ p < 4096, s.flag (SW_PARTY_VALID p) = false ∨ n < s.fld (SW_PARTY_BASE p) ∨
      s.fld (SW_PARTY_BASE p) + s.fld (SW_PARTY_GROUPS p) ≤ n ∨ bitsOf value 7 0 + 2 ^ s.fld (SW_PARTY_GROUP_SHIFT p) ≤ 64) :
    Completes (.rankEntryWrite n value) s (fun t => t.fld (SW_RANK_VALID n) = bitsOf value 63 63 ∧ t.fld (SW_RANK_FENCED n) = bitsOf value 62 62 ∧
      t.fld (SW_RANK_COORD n) = bitsOf value 18 8 ∧ t.fld (SW_RANK_FIRST_PORT n) = bitsOf value 7 0) := by
  have hrow := regRow_rank hn
  refine ⟨_, (exec_rankEntryWrite hn value s).trans (congrArg _ (if_neg ?_)), State.fldAt_writePlain _ hrow (reset := 0) (by decide),
    State.fldAt_writePlain _ hrow (reset := 0) (by decide), State.fldAt_writePlain _ hrow (reset := 0) (by decide),
    State.fldAt_writePlain _ hrow (reset := 0) (by decide)⟩
  simp only [List.any_eq_true, List.mem_range, Bool.and_eq_true, decide_eq_true_eq, not_exists]
  rintro p ⟨hp, ⟨⟨hvalid, hbase⟩, hgroups⟩, hport⟩
  obtain h | h | h | h := hok p hp
  · rw [h] at hvalid
    cases hvalid
  all_goals omega

theorem completes_rankEntryWrite_refused {s : State} {n value p : Nat} (hn : n < 32768) (hp : p < 4096) (hvalid : s.flag (SW_PARTY_VALID p) = true)
    (hbase : s.fld (SW_PARTY_BASE p) ≤ n) (hgroups : n < s.fld (SW_PARTY_BASE p) + s.fld (SW_PARTY_GROUPS p))
    (hport : 64 < bitsOf value 7 0 + 2 ^ s.fld (SW_PARTY_GROUP_SHIFT p)) : Completes (.rankEntryWrite n value) s (fun t =>
      t.fld SW_TABLE_ERR_RANK_RANGE = 1 ∧ t.reg (SW_RANK n) = s.reg (SW_RANK n)) := by
  refine ⟨_, (exec_rankEntryWrite hn value s).trans (congrArg _ (if_pos ?_)), State.fld_raise_same _ _ (by decide),
    State.reg_raise_other _ _ (by simp only [SW_RANK, SW_TABLE_ERR_RANK_RANGE, SW_TABLE_ERR]; omega)⟩
  simp only [List.any_eq_true, List.mem_range, Bool.and_eq_true, decide_eq_true_eq]
  exact ⟨p, hp, ⟨⟨hvalid, hbase⟩, hgroups⟩, hport⟩

theorem completes_partyEntryWrite {s : State} {p value : Nat} (hp : p < 4096) (hend : bitsOf value 41 27 + bitsOf value 57 42 ≤ 32768)
    (hspray : bitsOf value 62 61 ≤ 1) (hshift : bitsOf value 60 58 ≤ 6) (hgroups : 1 ≤ bitsOf value 57 42) :
    Completes (.partyEntryWrite p value) s (fun t => t.fld (SW_PARTY_VALID p) = bitsOf value 63 63 ∧
      t.fld (SW_PARTY_BASE p) = bitsOf value 41 27 ∧ t.fld (SW_PARTY_GROUPS p) = bitsOf value 57 42 ∧
      t.fld (SW_PARTY_GROUP_SHIFT p) = bitsOf value 60 58 ∧ t.fld (SW_PARTY_SPRAY p) = bitsOf value 62 61) := by
  have hwritten : ∀ (u : State) (f : FieldRow), f ∈ partyRow.fields → bitsOf (u.written (SW_PARTY p) value).toNat f.hi f.lo = bitsOf value f.hi f.lo := by
    intro u f hf
    have hok : f.acc = .rw ∧ f.ok (bitsOf value f.hi f.lo) = true := by
      simp only [partyRow, List.mem_cons, List.not_mem_nil, or_false] at hf
      obtain rfl | rfl | rfl | rfl | rfl := hf
      all_goals simp [FieldRow.ok]
      all_goals omega
    exact u.bitsOf_written_ok (regRow_partyEntry hp) hf hok.1 hok.2
  have hfield : ∀ (F : Fld) (f : FieldRow), f ∈ partyRow.fields → F = ⟨SW_PARTY p, f.hi, f.lo⟩ →
      ((s.keepEntry (SW_PARTY p)).writePlain (SW_PARTY p) value).fld F = bitsOf value F.hi F.lo := by
    rintro F f hf rfl
    rw [State.fld, State.reg_writePlain_same]
    exact hwritten _ f hf
  refine ⟨_, ?_, hfield _ ⟨63, 63, .rw, 0, []⟩ (by decide) rfl, hfield _ ⟨41, 27, .rw, 0, []⟩ (by decide) rfl,
    hfield _ ⟨57, 42, .rw, 0, [(1, 32768)]⟩ (by decide) rfl, hfield _ ⟨60, 58, .rw, 0, [(0, 6)]⟩ (by decide) rfl,
    hfield _ ⟨62, 61, .rw, 0, [(0, 1)]⟩ (by decide) rfl⟩
  show execPartyEntryWrite p value s = _
  have hbase := hwritten s ⟨41, 27, .rw, 0, []⟩ (by decide)
  have hsize := hwritten s ⟨57, 42, .rw, 0, [(1, 32768)]⟩ (by decide)
  rw [execPartyEntryWrite, if_neg (by omega)]
  dsimp only at hbase hsize
  exact if_neg (by rw [hbase, hsize]; omega)

/-! ### Stream entries (R93) -/

theorem completes_streamEntryWrite {s : State} {n value : Nat} (hn : n < 65536) (hheld : s.flag (SW_STREAM_HELD n) = false) :
    Completes (.streamEntryWrite n value) s (fun t => t.fld (SW_STREAM_VALID n) = bitsOf value 63 63 ∧ t.fld (SW_STREAM_PARTY n) = bitsOf value 60 49 ∧
      t.fld (SW_STREAM_SRC_RANK n) = bitsOf value 48 32 ∧ t.fld (SW_STREAM_BROKEN n) = 0 ∧ t.fld (SW_STREAM_HELD n) = 0 ∧
      t.fld (SW_STREAM_COUNT0 n) = 0 ∧ t.fld (SW_STREAM_COUNT1 n) = 0) := by
  have hexec : exec (.streamEntryWrite n value) s = .next ((((s.writePlain (SW_STREAM n) value).setFld (SW_STREAM_BROKEN n) 0).setFld
      (SW_STREAM_COUNT1 n) 0).setFld (SW_STREAM_COUNT0 n) 0) := by
    show execStreamEntryWrite n value s = _
    rw [execStreamEntryWrite, if_neg (by omega), hheld]
    rfl
  have hkept : ∀ F : Fld, F.off = SW_STREAM n → 32 ≤ F.lo → F.hi < 62 ∨ (62 < F.lo ∧ F.hi < 64) → ((((s.writePlain (SW_STREAM n) value).setFld
      (SW_STREAM_BROKEN n) 0).setFld (SW_STREAM_COUNT1 n) 0).setFld (SW_STREAM_COUNT0 n) 0).fld F = (s.writePlain (SW_STREAM n) value).fld F := by
    intro F hoff hlo hhi
    rw [State.fld_setFld_apart, State.fld_setFld_apart, State.fld_setFld_apart]
    all_goals simp only [Fld.apart, SW_STREAM_BROKEN, SW_STREAM_COUNT1, SW_STREAM_COUNT0]
    all_goals omega
  have hrow := regRow_stream hn
  refine ⟨_, hexec, ?_, ?_, ?_, ?_, ?_, State.fld_setFld_same _ _ _ (by simp [SW_STREAM_COUNT0]), ?_⟩
  · rw [hkept _ rfl (by simp [SW_STREAM_VALID]) (by simp [SW_STREAM_VALID])]
    exact State.fldAt_writePlain _ hrow (reset := 0) (by decide)
  · rw [hkept _ rfl (by simp [SW_STREAM_PARTY]) (by simp [SW_STREAM_PARTY])]
    exact State.fldAt_writePlain _ hrow (reset := 0) (by decide)
  · rw [hkept _ rfl (by simp [SW_STREAM_SRC_RANK]) (by simp [SW_STREAM_SRC_RANK])]
    exact State.fldAt_writePlain _ hrow (reset := 0) (by decide)
  · rw [State.fld_setFld_apart, State.fld_setFld_apart, State.fld_setFld_same]
    all_goals simp [Fld.apart, SW_STREAM_BROKEN, SW_STREAM_COUNT1, SW_STREAM_COUNT0]
  · have hzero : s.fld (SW_STREAM_HELD n) = 0 := by simpa [State.flag] using hheld
    rw [hkept _ rfl (by simp [SW_STREAM_HELD]) (by simp [SW_STREAM_HELD]), ← hzero, State.fld]
    exact (congrArg (fun w : Word => bitsOf w.toNat 61 61) (s.reg_writePlain_same _ _)).trans
      (s.bitsOf_written_ro value (f := ⟨61, 61, .ro, 0, []⟩) hrow (by decide) (.inl rfl))
  · rw [State.fld_setFld_apart, State.fld_setFld_same]
    all_goals simp [Fld.apart, SW_STREAM_COUNT1, SW_STREAM_COUNT0]

theorem completes_streamEntryWrite_held {s : State} {n value : Nat} (hn : n < 65536) (hheld : s.flag (SW_STREAM_HELD n) = true) :
    Completes (.streamEntryWrite n value) s (fun t => t.fld SW_TABLE_ERR_STREAM_BUSY = 1 ∧ t.reg (SW_STREAM n) = s.reg (SW_STREAM n)) := by
  refine ⟨s.raise SW_TABLE_ERR_STREAM_BUSY, ?_, State.fld_raise_same _ _ (by decide),
    State.reg_raise_other _ _ (by simp only [SW_STREAM, SW_TABLE_ERR_STREAM_BUSY, SW_TABLE_ERR]; omega)⟩
  show execStreamEntryWrite n value s = _
  rw [execStreamEntryWrite, if_neg (by omega), if_pos hheld]

/-! ### MIN of an owner of packet buffers (R123, R473) -/

theorem State.written_min (s : State) {n value : Nat} (hn : n < 4096) (hclass : n % 16 < 12) (hvalue : value % 2 ^ 20 = 0 ∨ 17 ≤ value % 2 ^ 20)
    (hlt : value % 2 ^ 20 < 524288) : bitsOf (s.written (SW_OWNER n) value).toNat 19 0 = value % 2 ^ 20 := by
  have hbits : bitsOf value 19 0 = value % 2 ^ 20 := by simp [bitsOf]
  rw [← hbits]
  refine s.bitsOf_written_ok (f := ⟨19, 0, .rw, 0, [(0, 0), (17, 524287)]⟩) (regRow_owner hn hclass) (by decide) rfl ?_
  simp only [FieldRow.ok, hbits]
  simp
  omega

theorem completes_ownerMinWrite {s : State} {n value : Nat} (hn : n < 4096) (hclass : n % 16 < 12) (hvalue : value % 2 ^ 20 = 0 ∨ 17 ≤ value % 2 ^ 20)
    (hlt : value % 2 ^ 20 < 524288) (hsum : s.sw.resvSum - s.ownerMin n + value % 2 ^ 20 ≤ 524288) (hcalm : Calm s) :
    Completes (.ownerMinWrite n value) s (fun t => t.ownerMin n = value % 2 ^ 20 ∧
      t.sw = { s.sw with resvSum := s.sw.resvSum - s.ownerMin n + value % 2 ^ 20, sharedFree := s.sw.sharedFree +
        (max (s.ownerMin n) (s.ownerClaimed n) : Nat) - (max (value % 2 ^ 20) (s.ownerClaimed n) : Nat) } ∧
      t.fld SW_POOL_STATUS_RESV_SUM = s.sw.resvSum - s.ownerMin n + value % 2 ^ 20 ∧
      t.fld SW_POOL_STATUS_SHARED_FREE = t.sw.sharedFree.toNat % 2 ^ 20) := by
  have hmin := s.written_min hn hclass hvalue hlt
  have hcases := exec_ownerMinWrite_cases s n value
  rw [if_neg (by omega), hmin, if_neg (by omega), (hcalm.congr rfl rfl : Calm (s.minWritten n value _)).retryAgents] at hcases
  refine ⟨_, hcases, ?_, ?_, ?_, ?_⟩
  · rw [State.ownerMin, ownerReg_port hn, State.fld, s.reg_minWritten_owner _ _ hn, hmin]
  · rw [State.minWritten, hmin]
    rfl
  · rw [State.minWritten, State.showPool, State.fld_setFld_apart _ _ _ _ (by decide), State.fld_setFld_fits _ (by decide)]
    exact lt_of_le_of_lt hsum (by decide)
  · rw [State.minWritten, State.showPool, State.fld_setFld_same _ _ _ (by decide)]
    rfl

theorem completes_ownerMinWrite_refused {s : State} {n value : Nat} (hn : n < 4096) (hclass : n % 16 < 12) (hvalue : 17 ≤ value % 2 ^ 20)
    (hlt : value % 2 ^ 20 < 524288) (hsum : 524288 < s.sw.resvSum - s.ownerMin n + value % 2 ^ 20) :
    Completes (.ownerMinWrite n value) s (fun t => t.fld SW_POOL_ERR_MIN_SUM = 1 ∧ t.reg (SW_OWNER n) = s.reg (SW_OWNER n) ∧ t.sw = s.sw) := by
  have hcases := exec_ownerMinWrite_cases s n value
  rw [if_neg (by omega), s.written_min hn hclass (.inr hvalue) hlt, if_pos hsum] at hcases
  exact ⟨_, hcases, State.fld_raise_same _ _ (by decide),
    State.reg_raise_other _ _ (by simp only [SW_OWNER, SW_POOL_ERR_MIN_SUM, SW_POOL_ERR]; omega), s.raise_sw _⟩

/-! ### The thresholds of sacrifice (R139) -/

theorem exec_sacrificeThresholdWrite (s : State) (value : Nat) : exec (.sacrificeThresholdWrite value) s = .next
    (if bitsOf value 55 42 < bitsOf value 41 28 ∧ bitsOf value 41 28 < bitsOf value 27 14 ∧ bitsOf value 27 14 < bitsOf value 13 0
      then s.writePlain SW_SACRIFICE value else s.raise SW_POOL_ERR_ORDER) := by
  have hfield : ∀ {hi lo reset : Nat}, (⟨hi, lo, .rw, reset, []⟩ : FieldRow) ∈ sacrificeRow.fields →
      bitsOf (s.written SW_SACRIFICE value).toNat hi lo = bitsOf value hi lo := fun hf => s.bitsOf_written regRow_sacrifice hf
  show execSacrificeThresholdWrite value s = _
  rw [execSacrificeThresholdWrite, hfield (reset := 0x40) (hi := 55) (lo := 42) (by decide), hfield (reset := 0x80) (hi := 41) (lo := 28) (by decide),
    hfield (reset := 0x100) (hi := 27) (lo := 14) (by decide), hfield (reset := 0x200) (hi := 13) (lo := 0) (by decide)]
  split <;> rfl

/-! ### MIN of a party of the tally engine (R156, R473) -/

theorem written_tallyPool (s : State) {p : Nat} (hp : p < 4096) (value : Nat) : bitsOf (s.written (TL_POOL p) value).toNat 19 0 = value % 2 ^ 20 := by
  rw [s.bitsOf_written (reset := 0) (regRow_tallyPool hp) (by decide), bitsOf, pow_zero, Nat.div_one]

/-- The state that a new MIN of a party leaves: the register written, and the frames it reserves no longer shared. -/
def State.tallyMinWritten (s : State) (p value sum : Nat) (free : Int) : State :=
  ((((s.writePlain (TL_POOL p) value).modTally (fun t => { t with sharedFree := free })).setFld TL_STATUS_RESV_SUM sum).setFld
    TL_STATUS_SHARED_FREE free.toNat)

theorem exec_tallyPoolMinWrite {p : Nat} (hp : p < 4096) (value : Nat) (s : State) : exec (.tallyPoolMinWrite p value) s = .next
    (if 6144 < s.fld TL_STATUS_RESV_SUM - s.tpMin p + value % 2 ^ 20 then s.raise TL_ERR_MIN_SUM
      else s.tallyMinWritten p value (s.fld TL_STATUS_RESV_SUM - s.tpMin p + value % 2 ^ 20)
        (s.tally.sharedFree + (max (s.tpMin p) (s.tpClaimed p) : Nat) - (max (value % 2 ^ 20) (s.tpClaimed p) : Nat))) := by
  show execTallyPoolMinWrite p value s = _
  rw [execTallyPoolMinWrite, if_neg (by omega), written_tallyPool s hp]
  dsimp only
  split <;> rfl

theorem completes_tallyPoolMinWrite {s : State} {p value : Nat} (hp : p < 4096) (hsum : s.fld TL_STATUS_RESV_SUM - s.tpMin p + value % 2 ^ 20 ≤ 6144) :
    Completes (.tallyPoolMinWrite p value) s (fun t => t.tpMin p = value % 2 ^ 20 ∧
      t.fld TL_STATUS_RESV_SUM = s.fld TL_STATUS_RESV_SUM - s.tpMin p + value % 2 ^ 20 ∧
      t.tally = { s.tally with sharedFree := s.tally.sharedFree + (max (s.tpMin p) (s.tpClaimed p) : Nat) -
        (max (value % 2 ^ 20) (s.tpClaimed p) : Nat) }) := by
  have hne : TL_POOL p ≠ TL_STATUS := by simp only [TL_POOL, TL_STATUS]; omega
  refine ⟨_, (exec_tallyPoolMinWrite hp value s).trans (congrArg _ (if_neg (by omega))), ?_, ?_, rfl⟩
  · rw [State.tpMin, State.tallyMinWritten, State.fld_setFld_off _ _ _ _ hne, State.fld_setFld_off _ _ _ _ hne, State.modTally_fld, State.fld, TL_POOL_MIN,
      State.reg_writePlain_same]
    exact written_tallyPool s hp value
  · rw [State.tallyMinWritten, State.fld_setFld_apart _ _ _ _ (by decide), State.fld_setFld_fits _ (by decide)]
    exact lt_of_le_of_lt hsum (by decide)

theorem completes_tallyPoolMinWrite_refused {s : State} {p value : Nat} (hp : p < 4096)
    (hsum : 6144 < s.fld TL_STATUS_RESV_SUM - s.tpMin p + value % 2 ^ 20) : Completes (.tallyPoolMinWrite p value) s (fun t =>
      t.fld TL_ERR_MIN_SUM = 1 ∧ t.reg (TL_POOL p) = s.reg (TL_POOL p) ∧ t.tally = s.tally) := by
  exact ⟨_, (exec_tallyPoolMinWrite hp value s).trans (congrArg _ (if_pos hsum)), State.fld_raise_same _ _ (by decide),
    State.reg_raise_other _ _ (by simp only [TL_POOL, TL_ERR_MIN_SUM, TL_ERR]; omega), s.raise_tally _⟩

/-! ### Two-word entries (R127, R130) -/

theorem arrayIndex_of {base stride count n : Nat} (hs : 0 < stride) (hn : n < count) : arrayIndex base stride count (base + stride * n) = some n := by
  have hsub : base + stride * n - base = stride * n := by omega
  rw [arrayIndex, if_pos ⟨Nat.le_add_right _ _, by rw [hsub, Nat.mul_mod_right], by rwa [hsub, Nat.mul_div_cancel_left _ hs]⟩, hsub,
    Nat.mul_div_cancel_left _ hs]

theorem exec_twoWordEntryWrite_policer {m : Nat} (hm : m < 512) (value : Nat) (s : State) :
    exec (.twoWordEntryWrite (SW_POL_W1 m) value) s = .next (s.writePolicer m value) := by
  have hindex : arrayIndex (SW_POL_W1 0) 16 512 (SW_POL_W1 m) = some m := arrayIndex_of (by decide) hm
  show execTwoWordEntryWrite _ _ _ = _
  rw [execTwoWordEntryWrite, hindex]

theorem exec_twoWordEntryWrite_vlan {v : Nat} (hv : v < 4096) (value : Nat) (s : State) :
    exec (.twoWordEntryWrite (SW_VLAN_W1 v) value) s = .next (s.writePair (SW_VLAN_W0 v) (SW_VLAN_W1 v) value) := by
  have hnone : arrayIndex (SW_POL_W1 0) 16 512 (SW_VLAN_W1 v) = none := if_neg (by simp only [SW_POL_W1, SW_VLAN_W1]; omega)
  have hindex : arrayIndex (SW_VLAN_W1 0) 16 4096 (SW_VLAN_W1 v) = some v := arrayIndex_of (by decide) hv
  show execTwoWordEntryWrite _ _ _ = _
  rw [execTwoWordEntryWrite, hnone, hindex]

/-- Word 0 of an entry takes its fields from the word held, and word 1 those of the value written. -/
theorem State.writePair_eq {s : State} {off0 off1 value : Nat} {w0 : Word} (hheld : sparseGet (s.reg off0) s.sw.held0 off0 = w0) :
    s.writePair off0 off1 value =
      ((s.modSw (fun w => { w with held0 := sparseErase w.held0 off0 })).writePlain off0 w0.toNat).writePlain off1 value := by
  rw [State.writePair, hheld]

theorem completes_twoWordEntryWrite_vlan {s : State} {v value : Nat} {w0 : Word} (hv : v < 4096)
    (hheld : sparseGet (s.reg (SW_VLAN_W0 v)) s.sw.held0 (SW_VLAN_W0 v) = w0) :
    Completes (.twoWordEntryWrite (SW_VLAN_W1 v) value) s (fun t => t.reg (SW_VLAN_W0 v) = w0 ∧ t.fld (SW_VLAN_W1_VALID v) = bitsOf value 63 63 ∧
      t.fld (SW_VLAN_W1_FLOOD v) = bitsOf value 16 16 ∧ t.fld (SW_VLAN_W1_ETH_MEMBERS v) = bitsOf value 15 0 ∧
      t.sw = { s.sw with held0 := sparseErase s.sw.held0 (SW_VLAN_W0 v) }) := by
  have hrow := regRow_vlan1 hv
  have hne : SW_VLAN_W0 v ≠ SW_VLAN_W1 v := by simp only [SW_VLAN_W0, SW_VLAN_W1]; omega
  refine ⟨_, (exec_twoWordEntryWrite_vlan hv value s).trans (congrArg _ (State.writePair_eq hheld)), ?_,
    State.fldAt_writePlain _ hrow (reset := 0) (by decide), State.fldAt_writePlain _ hrow (reset := 0) (by decide),
    State.fldAt_writePlain _ hrow (reset := 0) (by decide), rfl⟩
  rw [State.reg_writePlain_other _ _ hne, State.reg_writePlain_same, State.written_whole _ _ (regRow_vlan0 hv) rfl, BitVec.ofNat_toNat, BitVec.setWidth_eq]

/-- An idle policer's entry written with its bit set: both words take effect, and its buckets are full (R127). -/
theorem completes_twoWordEntryWrite_policer {s : State} {m value : Nat} {w0 : Word} (hm : m < 512)
    (hheld : sparseGet (s.reg (SW_POL_W0 m)) s.sw.held0 (SW_POL_W0 m) = w0) (hwas : s.flag (SW_POL_W0_ENABLE m) = false)
    (henable : w0.toNat.testBit 63 = true) (hcbs : 4132 ≤ bitsOf w0.toNat 35 16) (hpbs : 4132 ≤ bitsOf value 35 16) :
    Completes (.twoWordEntryWrite (SW_POL_W1 m) value) s (fun t =>
      t.fld (SW_POL_W0_ENABLE m) = 1 ∧ t.fld (SW_POL_W0_CIR m) = bitsOf w0.toNat 15 0 ∧ t.fld (SW_POL_W1_PIR m) = bitsOf value 15 0 ∧
      sparseGet default t.sw.policers m = ⟨640 * bitsOf w0.toNat 35 16, 640 * bitsOf value 35 16, s.free⟩) := by
  obtain ⟨u, hu⟩ : ∃ u, u = s.writePair (SW_POL_W0 m) (SW_POL_W1 m) value := ⟨_, rfl⟩
  have hrow0 := regRow_policer0 hm
  have hrow1 := regRow_policer1 hm
  have hne : ∀ {hi lo}, (⟨SW_POL_W0 m, hi, lo⟩ : Fld).off ≠ SW_POL_W1 m := by
    intro hi lo
    simp only [SW_POL_W0, SW_POL_W1]
    omega
  have hword0 : ∀ {hi lo : Nat}, u.fld ⟨SW_POL_W0 m, hi, lo⟩ =
      bitsOf ((s.modSw (fun w => { w with held0 := sparseErase w.held0 (SW_POL_W0 m) })).written (SW_POL_W0 m) w0.toNat).toNat hi lo := by
    intro hi lo
    rw [hu, State.writePair_eq hheld, State.fld, State.reg_writePlain_other _ _ hne]
    exact congrArg (fun w : Word => bitsOf w.toNat hi lo) (State.reg_writePlain_same _ _ _)
  have hword1 : ∀ {hi lo : Nat}, ∃ x : State, u.fld ⟨SW_POL_W1 m, hi, lo⟩ = bitsOf (x.written (SW_POL_W1 m) value).toNat hi lo := by
    intro hi lo
    rw [hu, State.writePair_eq hheld]
    exact ⟨_, congrArg (fun w : Word => bitsOf w.toNat hi lo) (State.reg_writePlain_same _ _ _)⟩
  have hon : u.fld (SW_POL_W0_ENABLE m) = 1 := by
    refine hword0.trans ((State.bitsOf_written _ hrow0 (reset := 0) (by decide)).trans ?_)
    rw [bitsOf_self, henable, Bool.toNat_true]
  have hcir : u.fld (SW_POL_W0_CIR m) = bitsOf w0.toNat 15 0 := hword0.trans (State.bitsOf_written _ hrow0 (reset := 0) (by decide))
  have hburst : ∀ v, 4132 ≤ bitsOf v 35 16 → (⟨35, 16, .rw, 0, [(4132, 1048575)]⟩ : FieldRow).ok (bitsOf v 35 16) = true := by
    intro v hv
    have hlt : bitsOf v 35 16 < 2 ^ 20 := bitsOf_lt v 35 16
    simp [FieldRow.ok]
    omega
  have hcbsu : u.fld (SW_POL_W0_CBS m) = bitsOf w0.toNat 35 16 :=
    hword0.trans (State.bitsOf_written_ok _ (f := ⟨35, 16, .rw, 0, [(4132, 1048575)]⟩) hrow0 (by decide) rfl (hburst _ hcbs))
  have hpbsu : u.fld (SW_POL_W1_PBS m) = bitsOf value 35 16 := by
    obtain ⟨x, hx⟩ := hword1 (hi := 35) (lo := 16)
    exact hx.trans (State.bitsOf_written_ok _ (f := ⟨35, 16, .rw, 0, [(4132, 1048575)]⟩) hrow1 (by decide) rfl (hburst _ hpbs))
  have hpir : u.fld (SW_POL_W1_PIR m) = bitsOf value 15 0 := by
    obtain ⟨x, hx⟩ := hword1 (hi := 15) (lo := 0)
    exact hx.trans (State.bitsOf_written _ hrow1 (reset := 0) (by decide))
  have hfree : u.free = s.free := by
    rw [hu]
    rfl
  have hwrite : s.writePolicer m value = u.modSw (fun w => { w with
      policers := sparseInsert m ⟨640 * u.fld (SW_POL_W0_CBS m), 640 * u.fld (SW_POL_W1_PBS m), u.free⟩ (sparseErase w.policers m) }) := by
    rw [State.writePolicer, hwas]
    simp only [Bool.false_eq_true, if_false, Bool.not_false, Bool.true_and, ← hu]
    exact if_pos (by simp [State.flag, hon])
  refine ⟨_, (exec_twoWordEntryWrite_policer hm value s).trans (congrArg _ hwrite), hon, hcir, hpir, ?_⟩
  rw [← hcbsu, ← hpbsu, ← hfree]
  exact sparseGet_insert_same (fun e he => by simpa using (List.mem_filter.1 he).2)

/-- Settles O18, by one lemma for each table and outcome. -/
theorem entryWritesComplete : Obligations.EntryWritesComplete := by
  unfold Obligations.EntryWritesComplete
  refine ⟨fun s n value hn hok => completes_rankEntryWrite hn hok,
    fun s n value p hn hp hvalid hbase hgroups hport => completes_rankEntryWrite_refused hn hp hvalid hbase hgroups hport,
    fun s p value hp hend hspray hshift hgroups => completes_partyEntryWrite hp hend hspray hshift hgroups,
    fun s n value hn hheld => completes_streamEntryWrite hn hheld,
    fun s n value hn hheld => completes_streamEntryWrite_held hn hheld,
    fun s n value hn hclass hvalue hlt hsum hwait hcopies => completes_ownerMinWrite hn hclass hvalue hlt hsum ⟨hwait, hcopies⟩,
    fun s n value hn hclass hvalue hlt hsum => completes_ownerMinWrite_refused hn hclass hvalue hlt hsum,
    fun s value h1 h2 h3 => ⟨_, (exec_sacrificeThresholdWrite s value).trans (congrArg _ (if_pos ⟨h1, h2, h3⟩)), ?_, ?_, ?_, ?_⟩,
    fun s value hbad => ⟨_, (exec_sacrificeThresholdWrite s value).trans (congrArg _ (if_neg hbad)), State.fld_raise_same _ _ (by decide),
      State.reg_raise_other _ _ (by decide)⟩,
    fun s p value hp hsum => completes_tallyPoolMinWrite hp hsum,
    fun s p value hp _ hsum => completes_tallyPoolMinWrite_refused hp hsum,
    fun s v value w0 hv hheld => completes_twoWordEntryWrite_vlan hv hheld,
    fun s m value w0 hm hheld hwas henable hcbs hpbs => completes_twoWordEntryWrite_policer hm hheld hwas henable hcbs hpbs⟩
  · exact State.fldAt_writePlain _ regRow_sacrifice (reset := 0x200) (by decide)
  · exact State.fldAt_writePlain _ regRow_sacrifice (reset := 0x100) (by decide)
  · exact State.fldAt_writePlain _ regRow_sacrifice (reset := 0x80) (by decide)
  · exact State.fldAt_writePlain _ regRow_sacrifice (reset := 0x40) (by decide)

end Sys2Proof.Machine
end

section
/-! PROOF. O19: the table windows and the curfew lists (R134 to R137, R144, R148, R152, R196, R234, R476). -/

-- Proofs are checked one at a time: side by side they would only wait for one another.
set_option Elab.async false

namespace Sys2Proof.Machine
open Sys2Proof

/-! ### An access starts (R144, R196, R234, R476) -/

/-- The row of SW_TBL_CTRL. -/
def tableCtrlRow : RegRow := ⟨0x00200028, 8, 1, 1, [⟨63, 60, .rw, 0, []⟩, ⟨59, 59, .rw, 0, []⟩, ⟨47, 40, .rw, 0, []⟩, ⟨36, 36, .rw, 0, []⟩,
  ⟨13, 0, .rw, 0, []⟩]⟩

theorem regRow_tableCtrl : regRow? SW_TBL_CTRL = some tableCtrlRow := by decide +kernel

/-- The row of TL_TBL_CTRL. -/
def tallyCtrlRow : RegRow := ⟨0x00400018, 8, 1, 1, [⟨12, 0, .rw, 0, []⟩]⟩

theorem regRow_tallyCtrl : regRow? TL_TBL_CTRL = some tallyCtrlRow := by decide +kernel

/-- The row of ST_TBL_CTRL. -/
def stayCtrlRow : RegRow := ⟨0x00600068, 8, 1, 1, [⟨17, 0, .rw, 0, []⟩]⟩

theorem regRow_stayCtrl : regRow? ST_TBL_CTRL = some stayCtrlRow := by decide +kernel

/-- An access that starts shows its control word, and DONE at 0. -/
theorem State.fld_startAccess (s : State) {window ctrl done off value hi lo reset : Nat} {r : RegRow} (hrow : regRow? off = some r)
    (hf : (⟨hi, lo, .rw, reset, []⟩ : FieldRow) ∈ r.fields) (hne : off ≠ done) :
    (s.startAccess window ctrl done off value).fld ⟨off, hi, lo⟩ = bitsOf value hi lo ∧
      (s.startAccess window ctrl done off value).fld ⟨done, 0, 0⟩ = 0 := by
  refine ⟨?_, ?_⟩
  · rw [State.startAccess, State.modSw_fld, State.fld_setReg_off _ _ _ _ hne, s.fldAt_writePlain hrow hf]
  · rw [State.startAccess, State.modSw_fld, State.fld, State.reg_setReg_same]
    simp [bitsOf]

theorem bitsOf_putBitOf_same (v i : Nat) (b : Bool) : bitsOf (putBitOf v i b) i i = b.toNat := by
  rw [bitsOf_self, testBit_putBitOf, if_pos rfl]

theorem bitsOf_putBitOf_other {v i hi lo : Nat} (h : hi < i ∨ i < lo) (b : Bool) : bitsOf (putBitOf v i b) hi lo = bitsOf v hi lo := by
  refine Nat.eq_of_testBit_eq fun j => ?_
  rw [bitsOf_testBit, bitsOf_testBit, testBit_putBitOf]
  by_cases hj : j < hi + 1 - lo
  · rw [if_neg (by omega)]
  · simp [hj]

theorem swTable_of_done {s : State} {value : Nat} (hdone : s.flag SW_TBL_STATUS_DONE = true) (htable : bitsOf value 63 60 < 2)
    (hindex : bitsOf value 63 60 = 0 → bitsOf value 13 0 ≤ 1024) (write : Bool) :
    s.swTable value write = s.startAccess 0 (putBitOf value 59 write) SW_TBL_STATUS SW_TBL_CTRL (putBitOf value 59 write) := by
  rw [State.swTable]
  refine if_neg ?_
  simp only [hdone, Bool.not_true, Bool.false_eq_true, false_or]
  omega

theorem completes_swTableRead {s : State} {value : Nat} (hdone : s.flag SW_TBL_STATUS_DONE = true) (htable : bitsOf value 63 60 = 0)
    (hindex : bitsOf value 13 0 ≤ 1024) : Completes (.swTableRead value) s (fun t => t.fld SW_TBL_STATUS_DONE = 0 ∧ t.fld SW_TBL_CTRL_WRITE = 0 ∧
      t.sw = { s.sw with access := s.sw.access ++ [⟨0, putBitOf value 59 false⟩] }) := by
  obtain ⟨hwrite, hstatus⟩ := s.fld_startAccess (window := 0) (ctrl := putBitOf value 59 false) (done := SW_TBL_STATUS) (value := putBitOf value 59 false)
    (hi := 59) (lo := 59) (reset := 0) regRow_tableCtrl (by decide) (by decide)
  exact ⟨_, congrArg Host.Outcome.next (swTable_of_done hdone (by omega) (fun _ => hindex) false), hstatus,
    hwrite.trans (bitsOf_putBitOf_same _ _ _), rfl⟩

theorem completes_swTableWrite {s : State} {value : Nat} (hdone : s.flag SW_TBL_STATUS_DONE = true) (htable : bitsOf value 63 60 = 1) :
    Completes (.swTableWrite value) s (fun t => t.fld SW_TBL_STATUS_DONE = 0 ∧ t.fld SW_TBL_CTRL_WRITE = 1 ∧
      t.fld SW_TBL_CTRL_INDEX = bitsOf value 13 0 ∧ t.sw = { s.sw with access := s.sw.access ++ [⟨0, putBitOf value 59 true⟩] }) := by
  obtain ⟨hwrite, hstatus⟩ := s.fld_startAccess (window := 0) (ctrl := putBitOf value 59 true) (done := SW_TBL_STATUS) (value := putBitOf value 59 true)
    (hi := 59) (lo := 59) (reset := 0) regRow_tableCtrl (by decide) (by decide)
  obtain ⟨hindex, -⟩ := s.fld_startAccess (window := 0) (ctrl := putBitOf value 59 true) (done := SW_TBL_STATUS) (value := putBitOf value 59 true)
    (hi := 13) (lo := 0) (reset := 0) regRow_tableCtrl (by decide) (by decide)
  exact ⟨_, congrArg Host.Outcome.next (swTable_of_done hdone (by omega) (by omega) true), hstatus, hwrite.trans (bitsOf_putBitOf_same _ _ _),
    hindex.trans (bitsOf_putBitOf_other (by decide) _), rfl⟩

theorem completes_tlTableRead {s : State} {value : Nat} (hdone : s.flag TL_TBL_STATUS_DONE = true) (hindex : bitsOf value 12 0 ≤ 6143) :
    Completes (.tlTableRead value) s (fun t => t.fld TL_TBL_STATUS_DONE = 0 ∧ t.fld TL_TBL_CTRL_INDEX = bitsOf value 12 0 ∧
      t.sw = { s.sw with access := s.sw.access ++ [⟨1, value⟩] }) := by
  obtain ⟨hfield, hstatus⟩ := s.fld_startAccess (window := 1) (ctrl := value) (done := TL_TBL_STATUS) (value := value) (hi := 12) (lo := 0) (reset := 0)
    regRow_tallyCtrl (by decide) (by decide)
  exact ⟨_, if_neg (by simp only [hdone, Bool.not_true, Bool.false_eq_true, false_or]; omega), hstatus, hfield, rfl⟩

theorem completes_stTableRead {s : State} {value : Nat} (hdone : s.flag ST_TBL_STATUS_DONE = true) :
    Completes (.stTableRead value) s (fun t => t.fld ST_TBL_STATUS_DONE = 0 ∧ t.fld ST_TBL_CTRL_INDEX = bitsOf value 17 0 ∧
      t.sw = { s.sw with access := s.sw.access ++ [⟨2, value⟩] }) := by
  obtain ⟨hfield, hstatus⟩ := s.fld_startAccess (window := 2) (ctrl := value) (done := ST_TBL_STATUS) (value := value) (hi := 17) (lo := 0) (reset := 0)
    regRow_stayCtrl (by decide) (by decide)
  exact ⟨_, if_neg (by simp [hdone]), hstatus, hfield, rfl⟩

/-! ### An access ends (R476) -/

/-- The state without the first access. -/
def State.endAccess (s : State) (rest : List TableAccess) : State := s.modSw (fun w => { w with access := rest })

theorem exec_tableAccessDone_sw {s u : State} {ctrl : Nat} {rest : List TableAccess} (h : s.sw.access = ⟨0, ctrl⟩ :: rest)
    (hend : (s.endAccess rest).endSwAccess ctrl = u) : exec (.tableAccessDone 0) s = .next (u.setReg SW_TBL_STATUS 1) := by
  subst hend
  show execTableAccessDone 0 s = _
  rw [execTableAccessDone, h]
  rfl

theorem exec_tableAccessDone_tl {s u : State} {ctrl : Nat} {rest : List TableAccess} (h : s.sw.access = ⟨1, ctrl⟩ :: rest)
    (hend : (s.endAccess rest).endTlAccess (bitsOf ctrl 12 0) = u) : exec (.tableAccessDone 1) s = .next (u.setReg TL_TBL_STATUS 1) := by
  subst hend
  show execTableAccessDone 1 s = _
  rw [execTableAccessDone, h]
  rfl

theorem exec_tableAccessDone_st {s u : State} {ctrl : Nat} {rest : List TableAccess} (h : s.sw.access = ⟨2, ctrl⟩ :: rest)
    (hend : (s.endAccess rest).endStAccess (bitsOf ctrl 17 0) = u) : exec (.tableAccessDone 2) s = .next (u.setReg ST_TBL_STATUS 1) := by
  subst hend
  show execTableAccessDone 2 s = _
  rw [execTableAccessDone, h]
  rfl

theorem State.done_setReg (s : State) (o : Nat) : (s.setReg o 1).fld ⟨o, 0, 0⟩ = 1 := by
  rw [State.fld, State.reg_setReg_same]
  simp [bitsOf]

theorem State.fld_curfewErr (s : State) {f : Fld} {p : Nat} (hp : p < 256) (hone : f.hi = f.lo) (hlow : f.hi < 8) :
    (s.curfewErr f p).fld f = 1 ∧ (s.curfewErr f p).fld SW_CURFEW_ERR_PORT = p := by
  refine ⟨?_, State.fld_setFld_fits _ (by decide) hp⟩
  rw [State.curfewErr, State.fld_setFld_apart _ _ _ _ (.inr ⟨by omega, .inl hlow⟩), State.fld_raise_same _ _ (by omega), hone, Nat.add_sub_cancel_left]
  rfl

theorem port_of_ctrl (ctrl : Nat) : bitsOf ctrl 47 40 < 256 := bitsOf_lt ctrl 47 40

/-- A curfew bank in use, or about to be, is not written: the error names the port. -/
theorem completes_tableAccessDone_busy {s : State} {ctrl : Nat} {rest : List TableAccess} (hacc : s.sw.access = ⟨0, ctrl⟩ :: rest)
    (htable : bitsOf ctrl 63 60 = 0) (hwrite : ctrl.testBit 59 = true)
    (hbusy : (if bitsOf ctrl 36 36 != s.fld (SW_CURFEW_CTL_ACTIVE_BANK (bitsOf ctrl 47 40)) then s.curfewPending (bitsOf ctrl 47 40)
      else s.flag (SW_CURFEW_CTL_IN_FORCE (bitsOf ctrl 47 40))) = true) :
    Completes (.tableAccessDone 0) s (fun t => t.fld SW_TBL_STATUS_DONE = 1 ∧ t.fld SW_CURFEW_ERR_BUSY = 1 ∧
      t.fld SW_CURFEW_ERR_PORT = bitsOf ctrl 47 40 ∧ t.sw.curfew = s.sw.curfew) := by
  have hend : (s.endAccess rest).endSwAccess ctrl = (s.endAccess rest).curfewErr SW_CURFEW_ERR_BUSY (bitsOf ctrl 47 40) := by
    rw [State.endSwAccess, hwrite]
    dsimp only
    rw [if_pos htable, if_pos rfl]
    exact if_pos hbusy
  obtain ⟨hbit, hport⟩ := (s.endAccess rest).fld_curfewErr (f := SW_CURFEW_ERR_BUSY) (port_of_ctrl ctrl) rfl (by decide)
  refine ⟨_, exec_tableAccessDone_sw hacc hend, State.done_setReg _ _, ?_, ?_, rfl⟩
  · rw [State.fld_setReg_off _ _ _ _ (by decide), hbit]
  · rw [State.fld_setReg_off _ _ _ _ (by decide), hport]

/-- A curfew word without reserved values is stored as it is written. -/
theorem curfewStore_valid {i : Nat} {old new : Word} (h : (i < 1024 ∧ bitsOf new.toNat 39 8 ≠ 0) ∨
    (i = 1024 ∧ bitsOf new.toNat 63 32 ≠ 0 ∧ 1 ≤ bitsOf new.toNat 10 0 ∧ bitsOf new.toNat 10 0 ≤ 1024)) :
    curfewStore i old new = new &&& BitVec.ofNat 64 (curfewMask i) := by
  have hmasked : ∀ hi lo m : Nat, hi < 64 → (∀ j < hi + 1 - lo, m.testBit (lo + j) = true) →
      bitsOf (new &&& BitVec.ofNat 64 m).toNat hi lo = bitsOf new.toNat hi lo := by
    intro hi lo m hhi hm
    refine Nat.eq_of_testBit_eq fun j => ?_
    rw [bitsOf_testBit, bitsOf_testBit, ← BitVec.getLsbD, ← BitVec.getLsbD, BitVec.getLsbD_and, BitVec.getLsbD_ofNat]
    by_cases hj : j < hi + 1 - lo
    · have hword : lo + j < 64 := by omega
      simp [hm j hj, hword]
    · simp [hj]
  obtain ⟨hi, hlen⟩ | ⟨rfl, hcycle, hlo, hhi⟩ := h
  · have hentry : bitsOf (new &&& BitVec.ofNat 64 (curfewMask i)).toNat 39 8 = bitsOf new.toNat 39 8 := by
      rw [curfewMask, if_neg (by omega)]
      exact hmasked 39 8 _ (by decide) (by decide)
    simp only [curfewStore, if_neg (show i ≠ 1024 by omega), hentry, bne_iff_ne, ne_eq, hlen, not_false_eq_true, if_true]
  · have hcyclem : bitsOf (new &&& BitVec.ofNat 64 (curfewMask 1024)).toNat 63 32 = bitsOf new.toNat 63 32 :=
      hmasked 63 32 _ (by decide) (by decide)
    have hlenm : bitsOf (new &&& BitVec.ofNat 64 (curfewMask 1024)).toNat 10 0 = bitsOf new.toNat 10 0 := hmasked 10 0 _ (by decide) (by decide)
    simp only [curfewStore, if_true, hcyclem, hlenm, bne_iff_ne, ne_eq, hcycle, not_false_eq_true, hlo, hhi, decide_true, Bool.and_self]

theorem completes_tableAccessDone_curfew {s : State} {ctrl : Nat} {rest : List TableAccess} (hacc : s.sw.access = ⟨0, ctrl⟩ :: rest)
    (htable : bitsOf ctrl 63 60 = 0) (hwrite : ctrl.testBit 59 = true)
    (hfree : if bitsOf ctrl 36 36 = s.fld (SW_CURFEW_CTL_ACTIVE_BANK (bitsOf ctrl 47 40)) then s.flag (SW_CURFEW_CTL_IN_FORCE (bitsOf ctrl 47 40)) = false
      else s.curfewPending (bitsOf ctrl 47 40) = false)
    (hvalid : (bitsOf ctrl 13 0 < 1024 ∧ bitsOf (s.reg (SW_TBL_DATA 0)).toNat 39 8 ≠ 0) ∨ (bitsOf ctrl 13 0 = 1024 ∧
      bitsOf (s.reg (SW_TBL_DATA 0)).toNat 63 32 ≠ 0 ∧ 1 ≤ bitsOf (s.reg (SW_TBL_DATA 0)).toNat 10 0 ∧ bitsOf (s.reg (SW_TBL_DATA 0)).toNat 10 0 ≤ 1024)) :
    Completes (.tableAccessDone 0) s (fun t => t.fld SW_TBL_STATUS_DONE = 1 ∧ t.sw = { s.sw with access := rest, curfew := t.sw.curfew } ∧
      sparseGet 0 t.sw.curfew (curfewKey (bitsOf ctrl 47 40) (bitsOf ctrl 36 36) (bitsOf ctrl 13 0)) =
        s.reg (SW_TBL_DATA 0) &&& BitVec.ofNat 64 (curfewMask (bitsOf ctrl 13 0))) := by
  have hnot : ¬(if bitsOf ctrl 36 36 != s.fld (SW_CURFEW_CTL_ACTIVE_BANK (bitsOf ctrl 47 40)) then s.curfewPending (bitsOf ctrl 47 40)
      else s.flag (SW_CURFEW_CTL_IN_FORCE (bitsOf ctrl 47 40))) = true := by
    by_cases hbank : bitsOf ctrl 36 36 = s.fld (SW_CURFEW_CTL_ACTIVE_BANK (bitsOf ctrl 47 40))
    · rw [if_pos hbank] at hfree
      simp [hbank, hfree]
    · rw [if_neg hbank] at hfree
      simp [hbank, hfree]
  have hend : (s.endAccess rest).endSwAccess ctrl = (s.endAccess rest).modSw (fun w => { w with
      curfew := sparseSet 0 w.curfew (curfewKey (bitsOf ctrl 47 40) (bitsOf ctrl 36 36) (bitsOf ctrl 13 0))
        (curfewStore (bitsOf ctrl 13 0) (sparseGet 0 w.curfew (curfewKey (bitsOf ctrl 47 40) (bitsOf ctrl 36 36) (bitsOf ctrl 13 0)))
          (s.reg (SW_TBL_DATA 0))) }) := by
    rw [State.endSwAccess, hwrite]
    dsimp only
    rw [if_pos htable, if_pos rfl]
    exact if_neg hnot
  refine ⟨_, exec_tableAccessDone_sw hacc hend, State.done_setReg _ _, rfl, ?_⟩
  rw [← curfewStore_valid (old := sparseGet 0 s.sw.curfew (curfewKey (bitsOf ctrl 47 40) (bitsOf ctrl 36 36) (bitsOf ctrl 13 0))) hvalid]
  exact sparseGet_set_same

theorem completes_tableAccessDone_read {s : State} {ctrl : Nat} {rest : List TableAccess} (hacc : s.sw.access = ⟨0, ctrl⟩ :: rest)
    (htable : bitsOf ctrl 63 60 = 0) (hread : ctrl.testBit 59 = false) : Completes (.tableAccessDone 0) s (fun t =>
      t.fld SW_TBL_STATUS_DONE = 1 ∧ t.sw = { s.sw with access := rest } ∧
      t.reg (SW_TBL_DATA 0) = sparseGet 0 s.sw.curfew (curfewKey (bitsOf ctrl 47 40) (bitsOf ctrl 36 36) (bitsOf ctrl 13 0))) := by
  have hend : (s.endAccess rest).endSwAccess ctrl = (s.endAccess rest).setReg (SW_TBL_DATA 0)
      (sparseGet 0 s.sw.curfew (curfewKey (bitsOf ctrl 47 40) (bitsOf ctrl 36 36) (bitsOf ctrl 13 0))) := by
    rw [State.endSwAccess, hread]
    dsimp only
    rw [if_pos htable]
    rfl
  refine ⟨_, exec_tableAccessDone_sw hacc hend, State.done_setReg _ _, rfl, ?_⟩
  rw [State.reg_setReg_other _ _ (by decide), State.reg_setReg_same]

theorem completes_tableAccessDone_mac {s : State} {ctrl : Nat} {rest : List TableAccess} (hacc : s.sw.access = ⟨0, ctrl⟩ :: rest)
    (htable : bitsOf ctrl 63 60 = 1) (hwrite : ctrl.testBit 59 = true) : Completes (.tableAccessDone 0) s (fun t => t.fld SW_TBL_STATUS_DONE = 1 ∧
      sparseGet 0 t.sw.mac (2 * bitsOf ctrl 13 0) = s.reg (SW_TBL_DATA 0) &&& 0x8FFFFFFFFFFFFFFF ∧
      sparseGet 0 t.sw.mac (2 * bitsOf ctrl 13 0 + 1) = s.reg (SW_TBL_DATA 1) &&& 0x80000000000000FF) := by
  have hend : (s.endAccess rest).endSwAccess ctrl = (s.endAccess rest).modSw (fun w => { w with
      mac := sparseSet 0 (sparseSet 0 w.mac (2 * bitsOf ctrl 13 0) (s.reg (SW_TBL_DATA 0) &&& 0x8FFFFFFFFFFFFFFF)) (2 * bitsOf ctrl 13 0 + 1)
        (s.reg (SW_TBL_DATA 1) &&& 0x80000000000000FF) }) := by
    rw [State.endSwAccess, hwrite]
    dsimp only
    rw [if_neg (by omega), if_pos rfl]
    rfl
  refine ⟨_, exec_tableAccessDone_sw hacc hend, State.done_setReg _ _, ?_, sparseGet_set_same⟩
  exact (sparseGet_set_other (by omega)).trans sparseGet_set_same

theorem completes_tableAccessDone_tl {s : State} {ctrl : Nat} {rest : List TableAccess} (hacc : s.sw.access = ⟨1, ctrl⟩ :: rest)
    (hfree : s.ctxAt? (bitsOf ctrl 12 0) = none) : Completes (.tableAccessDone 1) s (fun t =>
      t.fld TL_TBL_STATUS_DONE = 1 ∧ t.reg TL_TBL_DATA0 = 0 ∧ t.reg TL_TBL_DATA1 = 0) := by
  have hend : (s.endAccess rest).endTlAccess (bitsOf ctrl 12 0) = ((s.endAccess rest).setReg TL_TBL_DATA0 0).setReg TL_TBL_DATA1 0 := by
    have hnone : (s.endAccess rest).ctxAt? (bitsOf ctrl 12 0) = none := hfree
    rw [State.endTlAccess, hnone]
  refine ⟨_, exec_tableAccessDone_tl hacc hend, State.done_setReg _ _, ?_, ?_⟩
  · rw [State.reg_setReg_other _ _ (by decide), State.reg_setReg_other _ _ (by decide), State.reg_setReg_same]
  · rw [State.reg_setReg_other _ _ (by decide), State.reg_setReg_same]

/-- A read of a stay leaves its four words in the data registers. -/
theorem State.reg_endStAccess (s : State) (i : Nat) : (List.range 4).map (fun k => (s.endStAccess i).reg (ST_TBL_DATA k)) = stayWords (s.stay i) := by
  obtain ⟨a, b, c, d, hwords⟩ : ∃ a b c d, stayWords (s.stay i) = [a, b, c, d] := ⟨_, _, _, _, rfl⟩
  rw [State.endStAccess, hwords]
  simp only [List.zipIdx_cons, List.zipIdx_nil, List.foldl_cons, List.foldl_nil, List.range_succ, List.range_zero, List.nil_append, List.cons_append,
    List.map_cons, List.map_nil, ST_TBL_DATA, Nat.reduceMul, Nat.reduceAdd]
  simp [State.reg_setReg_other]

theorem completes_tableAccessDone_st {s : State} {ctrl : Nat} {rest : List TableAccess} (hacc : s.sw.access = ⟨2, ctrl⟩ :: rest) :
    Completes (.tableAccessDone 2) s (fun t => t.fld ST_TBL_STATUS_DONE = 1 ∧
      (List.range 4).map (fun i => t.reg (ST_TBL_DATA i)) = stayWords (s.stay (bitsOf ctrl 17 0))) := by
  refine ⟨_, exec_tableAccessDone_st hacc rfl, State.done_setReg _ _, ?_⟩
  have hkept : ∀ k ∈ List.range 4, (((s.endAccess rest).endStAccess (bitsOf ctrl 17 0)).setReg ST_TBL_STATUS 1).reg (ST_TBL_DATA k) =
      ((s.endAccess rest).endStAccess (bitsOf ctrl 17 0)).reg (ST_TBL_DATA k) := fun k _ =>
    State.reg_setReg_other _ _ (by simp only [ST_TBL_DATA, ST_TBL_STATUS]; omega)
  rw [List.map_congr_left hkept]
  exact (s.endAccess rest).reg_endStAccess (bitsOf ctrl 17 0)

/-! ### Curfew lists (R136, R137, R148) -/

theorem ctl_apart {p q : Nat} : SW_CURFEW_CTL p ≠ SW_CURFEW_TICK q ∧ SW_CURFEW_CTL p ≠ SW_CURFEW_RUN q ∧ SW_CURFEW_TICK p ≠ SW_CURFEW_RUN q := by
  simp only [SW_CURFEW_CTL, SW_CURFEW_TICK, SW_CURFEW_RUN]
  omega

theorem completes_curfewSwitchArm {s : State} {port tick : Nat} (hport : port < 256) (hpending : s.curfewPending port = false) (hset : s.bellSet = true)
    (hahead : s.now + 8000 ≤ tick) (hshadow : s.shadowBad port = false) (htick : tick < 2 ^ 64) : Completes (.curfewSwitchArm port tick) s (fun t =>
      t.fld (SW_CURFEW_CTL_PENDING port) = 1 ∧ t.fld (SW_CURFEW_TICK_SWITCH_TICK port) = tick ∧ t.sw = s.sw) := by
  have harm : s.armCurfew port tick = (s.setReg (SW_CURFEW_TICK port) (BitVec.ofNat 64 tick)).raise (SW_CURFEW_CTL_PENDING port) := by
    rw [State.armCurfew, if_neg (by omega), if_neg (by simp [hpending])]
    exact if_pos ⟨tickAhead_of_le hset hahead, by simp [hshadow]⟩
  refine ⟨_, congrArg Host.Outcome.next harm, State.fld_raise_same _ _ (by simp [SW_CURFEW_CTL_PENDING]), ?_, State.raise_sw _ _⟩
  rw [State.fld_raise_apart _ _ _ (.inl ctl_apart.1.symm), State.fld, SW_CURFEW_TICK_SWITCH_TICK, State.reg_setReg_same, bitsOf_whole, BitVec.toNat_ofNat,
    Nat.mod_eq_of_lt htick]

theorem completes_curfewSwitchArm_busy {s : State} {port tick : Nat} (hport : port < 256) (hpending : s.curfewPending port = true) :
    Completes (.curfewSwitchArm port tick) s (fun t => t.fld SW_CURFEW_ERR_BUSY = 1 ∧ t.fld SW_CURFEW_ERR_PORT = port ∧
      t.reg (SW_CURFEW_TICK port) = s.reg (SW_CURFEW_TICK port)) := by
  have harm : s.armCurfew port tick = s.curfewErr SW_CURFEW_ERR_BUSY port := by
    rw [State.armCurfew, if_neg (by omega), if_pos hpending]
  have hne : SW_CURFEW_TICK port ≠ SW_CURFEW_ERR := by simp only [SW_CURFEW_TICK, SW_CURFEW_ERR]; omega
  obtain ⟨hbit, herr⟩ := s.fld_curfewErr (f := SW_CURFEW_ERR_BUSY) hport rfl (by decide)
  refine ⟨_, congrArg Host.Outcome.next harm, hbit, herr, ?_⟩
  rw [State.curfewErr, State.reg_setFld_other _ _ _ hne, State.reg_raise_other _ _ hne]

theorem completes_curfewCancel {s : State} {port : Nat} (hport : port < 256) (hpending : s.curfewPending port = true) (hset : s.bellSet = true)
    (hahead : s.now + 8000 ≤ s.fld (SW_CURFEW_TICK_SWITCH_TICK port)) : Completes (.curfewCancel port) s (fun t =>
      t.fld (SW_CURFEW_CTL_PENDING port) = 0 ∧ t.fld (SW_CURFEW_CTL_ACTIVE_BANK port) = s.fld (SW_CURFEW_CTL_ACTIVE_BANK port) ∧ t.sw = s.sw) := by
  have hcancel : s.cancelCurfew port = s.setFld (SW_CURFEW_CTL_PENDING port) 0 := by
    rw [State.cancelCurfew, if_neg (by simp [hpending]; omega), if_pos (tickAhead_of_le hset hahead)]
  refine ⟨_, congrArg Host.Outcome.next hcancel, State.fld_setFld_fits _ (by simp [SW_CURFEW_CTL_PENDING]) (by simp [SW_CURFEW_CTL_PENDING]), ?_,
    State.setFld_sw _ _ _⟩
  exact State.fld_setFld_apart _ _ _ _ (by simp [Fld.apart, SW_CURFEW_CTL_PENDING, SW_CURFEW_CTL_ACTIVE_BANK])

/-- What a switchover leaves: the other bank in force from its tick on, its list at entry 0 (R136). -/
theorem State.fld_switchover (s : State) (p : Nat) :
    (s.switchover p).fld (SW_CURFEW_CTL_ACTIVE_BANK p) = 1 - s.fld (SW_CURFEW_CTL_ACTIVE_BANK p) ∧ (s.switchover p).fld (SW_CURFEW_CTL_IN_FORCE p) = 1 ∧
      (s.switchover p).fld (SW_CURFEW_CTL_PENDING p) = 0 ∧ (s.switchover p).reg (SW_CURFEW_RUN p) = 0 ∧
      sparseGet 0 (s.switchover p).sw.curfewStart p = s.fld (SW_CURFEW_TICK_SWITCH_TICK p) := by
  have hbank : (s.touchShapersWith p (s.gatesShown p)).fld (SW_CURFEW_CTL_ACTIVE_BANK p) = s.fld (SW_CURFEW_CTL_ACTIVE_BANK p) :=
    State.fld_eq_of_reg (within_touchShapersWith.reg (by decide) _)
  have hrun : ∀ f : Fld, f.off = SW_CURFEW_CTL p → f.off ≠ SW_CURFEW_RUN p := fun f hf => hf ▸ ctl_apart.2.1
  unfold State.switchover
  dsimp only
  rw [hbank]
  refine ⟨?_, ?_, ?_, ?_, sparseGet_set_same⟩
  · rw [State.modSw_fld, State.fld_setReg_off _ _ _ _ (hrun _ rfl), State.fld_setFld_apart, State.fld_raise_apart, State.fld_setFld_fits]
    all_goals simp [Fld.apart, SW_CURFEW_CTL_PENDING, SW_CURFEW_CTL_ACTIVE_BANK, SW_CURFEW_CTL_IN_FORCE]
  · rw [State.modSw_fld, State.fld_setReg_off _ _ _ _ (hrun _ rfl), State.fld_setFld_apart, State.fld_raise_same]
    all_goals simp [Fld.apart, SW_CURFEW_CTL_PENDING, SW_CURFEW_CTL_IN_FORCE]
  · rw [State.modSw_fld, State.fld_setReg_off _ _ _ _ (hrun _ rfl), State.fld_setFld_fits]
    all_goals simp [SW_CURFEW_CTL_PENDING]
  · rw [State.modSw_reg, State.reg_setReg_same]

theorem completes_curfewSwitchover {s : State} {port : Nat} (hport : port < 256) (hpending : s.curfewPending port = true) (hset : s.bellSet = true)
    (hdue : scEdge (s.fld (SW_CURFEW_TICK_SWITCH_TICK port)) ≤ s.now) : Completes (.curfewSwitchover port) s (fun t =>
      t.fld (SW_CURFEW_CTL_ACTIVE_BANK port) = 1 - s.fld (SW_CURFEW_CTL_ACTIVE_BANK port) ∧ t.fld (SW_CURFEW_CTL_IN_FORCE port) = 1 ∧
      t.fld (SW_CURFEW_CTL_PENDING port) = 0 ∧ t.reg (SW_CURFEW_RUN port) = 0 ∧
      sparseGet 0 t.sw.curfewStart port = s.fld (SW_CURFEW_TICK_SWITCH_TICK port)) := by
  obtain ⟨u, hu⟩ : ∃ u, u = if s.skippedTick (s.fld (SW_CURFEW_TICK_SWITCH_TICK port)) then s.choice 5 else s := ⟨_, rfl⟩
  have hreg : ∀ o, OffChoice o → u.reg o = s.reg o := by
    intro o ho
    rw [hu]
    split
    · exact State.reg_choice ho (by decide)
    · rfl
  have hbank : u.fld (SW_CURFEW_CTL_ACTIVE_BANK port) = s.fld (SW_CURFEW_CTL_ACTIVE_BANK port) :=
    State.fld_eq_of_reg (f := SW_CURFEW_CTL_ACTIVE_BANK port) (hreg _ (offChoice_of_lt (by simp only [SW_CURFEW_CTL_ACTIVE_BANK, SW_CURFEW_CTL, BT_CHOICE]; omega)))
  have htick : u.fld (SW_CURFEW_TICK_SWITCH_TICK port) = s.fld (SW_CURFEW_TICK_SWITCH_TICK port) :=
    State.fld_eq_of_reg (f := SW_CURFEW_TICK_SWITCH_TICK port) (hreg _ (offChoice_of_lt (by simp only [SW_CURFEW_TICK_SWITCH_TICK, SW_CURFEW_TICK, BT_CHOICE]; omega)))
  have hexec : exec (.curfewSwitchover port) s = .next (u.switchover port) := by
    show Host.Outcome.next (s.switchDue port) = _
    rw [State.switchDue]
    rw [if_pos ⟨hport, hpending, hset, .inl hdue⟩, hu]
  obtain ⟨h1, h2, h3, h4, h5⟩ := u.fld_switchover port
  exact ⟨_, hexec, by rw [h1, hbank], h2, h3, h4, by rw [h5, htick]⟩

theorem completes_curfewEntryAdvance {s : State} {port : Nat} (hport : port < 256) (hforce : s.inForce port = true) :
    Completes (.curfewEntryAdvance port) s (fun t => t.fld (SW_CURFEW_RUN_ENTRY port) =
        s.entryIndex port (s.fld (SW_CURFEW_CTL_ACTIVE_BANK port)) (sparseGet 0 s.sw.curfewStart port) s.now % 2 ^ 10 ∧
      t.fld (SW_CURFEW_RUN_CYCLES port) =
        (s.now - sparseGet 0 s.sw.curfewStart port) / s.curfewCycle port (s.fld (SW_CURFEW_CTL_ACTIVE_BANK port)) % 2 ^ 32) := by
  refine ⟨_, if_neg (by simp [hforce]; omega), ?_, State.fld_setFld_same _ _ _ (by simp [SW_CURFEW_RUN_CYCLES])⟩
  rw [State.fld_setFld_apart, State.fld_setFld_same]
  all_goals simp [Fld.apart, SW_CURFEW_RUN_ENTRY, SW_CURFEW_RUN_CYCLES]

/-- Settles O19, by one lemma for each command and outcome. -/
theorem windowsAndCurfewsComplete : Obligations.WindowsAndCurfewsComplete := by
  unfold Obligations.WindowsAndCurfewsComplete
  refine ⟨fun s value hdone htable hindex _ => completes_swTableRead hdone htable hindex,
    fun s value hdone htable _ => completes_swTableWrite hdone htable,
    fun s value hdone hindex => completes_tlTableRead hdone hindex,
    fun s value hdone => completes_stTableRead hdone,
    fun s ctrl rest hacc htable hread => completes_tableAccessDone_read hacc htable hread,
    fun s ctrl rest hacc htable hwrite hbank hforce => completes_tableAccessDone_busy hacc htable hwrite (by simp [hbank, hforce]),
    fun s ctrl rest hacc htable hwrite => completes_tableAccessDone_mac hacc htable hwrite,
    fun s ctrl rest hacc hfree => completes_tableAccessDone_tl hacc hfree,
    fun s ctrl rest hacc => completes_tableAccessDone_st hacc,
    fun s port tick hport hpending hset hahead hshadow htick => completes_curfewSwitchArm hport hpending hset hahead hshadow htick,
    fun s port tick hport hpending => completes_curfewSwitchArm_busy hport hpending,
    fun s port hport hpending hset hahead => completes_curfewCancel hport hpending hset hahead,
    fun s port hport hpending hset hdue => completes_curfewSwitchover hport hpending hset hdue,
    fun s port hport hforce => completes_curfewEntryAdvance hport hforce,
    fun s ctrl rest hacc htable hwrite hfree hvalid => completes_tableAccessDone_curfew hacc htable hwrite hfree hvalid,
    fun s ctrl rest hacc htable hwrite hbank hpending => completes_tableAccessDone_busy hacc htable hwrite (by simp [hbank, hpending])⟩

end Sys2Proof.Machine
end

section
/-! PROOF. O12: sweeps, repairs and retirements of the pool (R347 to R352). -/

-- Proofs are checked one at a time: side by side they would only wait for one another.
set_option Elab.async false

namespace Sys2Proof.Machine
open Sys2Proof

/-- A bit of an RW field without reserved values is the bit written. -/
theorem State.testBit_written (s : State) {off value : Nat} {r : RegRow} {hi lo reset i : Nat} (hrow : regRow? off = some r)
    (hf : (⟨hi, lo, .rw, reset, []⟩ : FieldRow) ∈ r.fields) (hlo : lo ≤ i) (hhi : i ≤ hi) :
    (s.written off value).toNat.testBit i = value.testBit i := by
  obtain ⟨j, rfl⟩ := Nat.exists_eq_add_of_le hlo
  have h := congrArg (fun v => Nat.testBit v j) (s.bitsOf_written (value := value) hrow hf)
  have hj : j < hi + 1 - lo := by omega
  simpa [bitsOf_testBit, hj] using h

/-! ### A sweep starts and is stopped (R347) -/

/-- The row of MEM_SCRUB_CTRL. -/
def scrubCtrlRow : RegRow := ⟨0x00C00020, 8, 1, 1, [⟨63, 63, .wo, 0, []⟩, ⟨62, 62, .wo, 0, []⟩, ⟨54, 48, .rw, 1, [(1, 113)]⟩,
  ⟨47, 24, .rw, 0xFFFFFF, []⟩, ⟨23, 0, .rw, 0, []⟩]⟩

theorem regRow_scrubCtrl : regRow? MEM_SCRUB_CTRL = some scrubCtrlRow := by decide +kernel

theorem exec_scrubGo (value : Nat) (s : State) : exec (.scrubGo value) s = execScrubGo value s := rfl

/-- The registers as a sweep starts: its range, BUSY and NEXT_ROOM. -/
def State.sweepShown (s : State) (value : Nat) : State :=
  ((((s.writePlain MEM_SCRUB_CTRL value).setReg MEM_SCRUB_STATUS 0).raise MEM_SCRUB_STATUS_BUSY).setFld MEM_SCRUB_STATUS_NEXT_ROOM
    ((s.writePlain MEM_SCRUB_CTRL value).fld MEM_SCRUB_CTRL_FIRST_ROOM))

theorem scrub_range (s : State) (value : Nat) : (s.writePlain MEM_SCRUB_CTRL value).fld MEM_SCRUB_CTRL_FIRST_ROOM = value % 2 ^ 24 ∧
    (s.writePlain MEM_SCRUB_CTRL value).fld MEM_SCRUB_CTRL_LAST_ROOM = bitsOf value 47 24 := by
  refine ⟨(State.fldAt_writePlain _ regRow_scrubCtrl (reset := 0) (by decide)).trans ?_,
    State.fldAt_writePlain _ regRow_scrubCtrl (reset := 0xFFFFFF) (by decide)⟩
  rw [bitsOf, pow_zero, Nat.div_one]

/-- The sums of a sweep. -/
def State.sumsCleared (s : State) : State := (List.range 6).foldl (fun s i => s.setReg (MEM_SCRUB_SUM i) 0) s

theorem State.reg_sumsCleared (s : State) {o : Nat} (h : o < MEM_SCRUB_SUM 0) : s.sumsCleared.reg o = s.reg o :=
  State.reg_foldl (fun x i _ => State.reg_setReg_other _ _ (by simp only [MEM_SCRUB_SUM] at h ⊢; omega)) s

theorem completes_scrubGo {s : State} {value : Nat} (hidle : s.flag MEM_SCRUB_STATUS_BUSY = false) : Completes (.scrubGo value) s (fun t =>
    t.fld MEM_SCRUB_STATUS_BUSY = 1 ∧ t.fld MEM_SCRUB_STATUS_STOPPED = 0 ∧ t.fld MEM_SCRUB_CTRL_FIRST_ROOM = value % 2 ^ 24 ∧
    t.fld MEM_SCRUB_CTRL_LAST_ROOM = bitsOf value 47 24 ∧ t.fld MEM_SCRUB_STATUS_NEXT_ROOM = value % 2 ^ 24 ∧
    t.reg (MEM_SCRUB_SUM 4) = BitVec.ofNat 64 s.now ∧
    t.mem = { s.mem with sweep := some (value % 2 ^ 24, bitsOf value 47 24, (List.range 8).filter (fun st => !s.stackLost st)) }) := by
  obtain ⟨hfirst, hlast⟩ := scrub_range s value
  have hexec : exec (.scrubGo value) s = .next (((s.sweepShown value).sumsCleared.modMem (fun m => { m with
      sweep := some (value % 2 ^ 24, bitsOf value 47 24,
        (List.range 8).filter (fun st => !s.stackLost st)) })).setReg (MEM_SCRUB_SUM 4) (BitVec.ofNat 64 s.now)) := by
    rw [exec_scrubGo, execScrubGo, if_neg (by simp [hidle])]
    dsimp only
    rw [hlast]
    rw [← hfirst]
    rfl
  have hkept : ∀ f : Fld, f.off < MEM_SCRUB_SUM 0 → (((s.sweepShown value).sumsCleared.modMem (fun m => { m with
      sweep := some (value % 2 ^ 24, bitsOf value 47 24,
        (List.range 8).filter (fun st => !s.stackLost st)) })).setReg (MEM_SCRUB_SUM 4) (BitVec.ofNat 64 s.now)).fld f =
      (s.sweepShown value).fld f := by
    intro f hf
    have hne : f.off ≠ MEM_SCRUB_SUM 4 := by simp only [MEM_SCRUB_SUM] at hf ⊢; omega
    rw [State.fld_setReg_off _ _ _ _ hne, State.modMem_fld]
    exact State.fld_eq_of_reg (State.reg_sumsCleared _ hf)
  refine ⟨_, hexec, ?_, ?_, ?_, ?_, ?_, State.reg_setReg_same _ _ _, ?_⟩
  · rw [hkept _ (by decide), State.sweepShown, State.fld_setFld_apart _ _ _ _ (by decide), State.fld_raise_same _ _ (by decide)]
    rfl
  · rw [hkept _ (by decide), State.sweepShown, State.fld_setFld_apart _ _ _ _ (by decide), State.fld_raise_apart _ _ _ (by decide), State.fld]
    exact congrArg (fun w : Word => bitsOf w.toNat 62 62) (State.reg_setReg_same _ _ _)
  · rw [hkept _ (by decide), State.sweepShown, State.fld_setFld_off _ _ _ _ (by decide), State.fld_raise_apart _ _ _ (by decide),
      State.fld_setReg_off _ _ _ _ (by decide), hfirst]
  · rw [hkept _ (by decide), State.sweepShown, State.fld_setFld_off _ _ _ _ (by decide), State.fld_raise_apart _ _ _ (by decide),
      State.fld_setReg_off _ _ _ _ (by decide), hlast]
  · rw [hkept _ (by decide), State.sweepShown, State.fld_setFld_fits _ (by decide), hfirst]
    rw [hfirst]
    exact Nat.mod_lt _ (by decide)
  · rfl

theorem completes_scrubGo_busy {s : State} {value : Nat} (hbusy : s.flag MEM_SCRUB_STATUS_BUSY = true) : Completes (.scrubGo value) s (fun t =>
    t.fld MEM_ERR_SCRUB_BUSY = 1 ∧ t.reg MEM_SCRUB_CTRL = s.reg MEM_SCRUB_CTRL ∧ t.mem = s.mem) :=
  ⟨_, if_pos hbusy, State.fld_raise_same _ _ (by decide), State.reg_raise_other _ _ (by decide), s.raise_mem _⟩

theorem completes_scrubStop {s : State} (hbusy : s.flag MEM_SCRUB_STATUS_BUSY = true) : Completes .scrubStop s (fun t =>
    t.fld MEM_SCRUB_STATUS_STOPPED = 1 ∧ t.fld MEM_SCRUB_STATUS_BUSY = 1 ∧ t.mem = s.mem) := by
  have hone : s.fld MEM_SCRUB_STATUS_BUSY = 1 := by
    have hlt : s.fld MEM_SCRUB_STATUS_BUSY < 2 := bitsOf_lt _ 63 63
    have hne : s.fld MEM_SCRUB_STATUS_BUSY ≠ 0 := by simpa [State.flag] using hbusy
    omega
  exact ⟨_, if_pos hbusy, State.fld_raise_same _ _ (by decide), (State.fld_raise_apart _ _ _ (by decide)).trans hone, s.raise_mem _⟩

/-! ### A sweep ends (R347, R348) -/

/-- A pair that a sweep of the rooms `first` to `last` has read. -/
def State.swept (s : State) (first last : Nat) (up rows : List Nat) (p : Nat) : Bool :=
  decide ((pairRoom p - (rangeIn first last (pairStack p)).1) * 32 + p % 1024 / 32 < s.rowsSwept first last up rows (pairStack p)) &&
    decide (first ≤ pairRoom p) && !s.stackLost (pairStack p)

/-- The stacks that hold a room of a range. -/
def partsOf (first last : Nat) : List Nat := (List.range 8).filter (fun st => decide (0 < (rangeIn first last st).2))

/-- The state after a sweep's own reads: merge entries written, pairs that read as poison counted. -/
def State.sweepRead (s : State) (read : Nat → Bool) : State :=
  (((s.mem.merge.filter (fun e => read e.pair)).foldl State.flushEntry s).mem.poison.filter (fun e => read e.1)).foldl
    (fun s e => s.memCount (pairStack e.1) 8) ((s.mem.merge.filter (fun e => read e.pair)).foldl State.flushEntry s)

/-- The first rooms that a sweep has left unread. -/
def State.roomsLeft (s : State) (first last : Nat) (up rows : List Nat) : List Nat :=
  ((partsOf first last).filter (fun st => decide (s.rowsSwept first last up rows st < 32 * (rangeIn first last st).2))).map
    (fun st => (rangeIn first last st).1 + s.rowsSwept first last up rows st / 32)

/-- The sums and the status that a sweep ends with, from the state after its findings. -/
def State.sweepShownDone (s : State) (read fixed bad made skipped : Nat) : State :=
  (((((((s.setReg (MEM_SCRUB_SUM 0) (BitVec.ofNat 64 read)).setReg (MEM_SCRUB_SUM 1) (BitVec.ofNat 64 fixed)).setReg (MEM_SCRUB_SUM 2)
    (BitVec.ofNat 64 bad)).setReg (MEM_SCRUB_SUM 3) (BitVec.ofNat 64 made)).setReg (MEM_SCRUB_SUM 5) (BitVec.ofNat 64 s.now)).setFld
    MEM_SCRUB_STATUS_BUSY 0).modMem (fun m => { m with sweep := none })).setFld MEM_SCRUB_STATUS_SKIPPED skipped

/-- NEXT_ROOM as a sweep ends: the lowest room left, or a free value. -/
def State.sweepNext (s : State) (left : List Nat) (free : Nat) : State :=
  match left.min? with
  | some r => s.setFld MEM_SCRUB_STATUS_NEXT_ROOM r
  | none => (s.setFld MEM_SCRUB_STATUS_NEXT_ROOM (Config.freeWord free).toNat).nextFree

/-- The state in which a sweep ends. -/
def State.sweepDone (s : State) (first last : Nat) (up : List Nat) (fixed : List (Nat × Nat)) (bad rows : List Nat) : State :=
  let found := (s.sweepRead (s.swept first last up rows)).findings fixed bad
  ((found.2).sweepShownDone (32 * ((partsOf first last).map (s.rowsSwept first last up rows)).foldl (· + ·) 0) fixed.length
    (bad.filter (fun p => !(s.sweepRead (s.swept first last up rows)).poisoned p)).length found.1
    (if (partsOf first last).any (fun st => !up.contains st || s.stackLost st) then 1 else 0)).sweepNext (s.roomsLeft first last up rows) found.2.freeCtr

theorem exec_scrubDone {s : State} {first last : Nat} {up : List Nat} (hsweep : s.mem.sweep = some (first, last, up))
    (corrected : List (Nat × Nat)) (uncorrectable rows : List Nat) : exec (.scrubDone corrected uncorrectable rows) s =
      .next (s.sweepDone first last up (corrected.filter (fun c => s.swept first last up rows c.1)) (uncorrectable.filter (s.swept first last up rows)) rows) := by
  show execScrubDone corrected uncorrectable s rows = _
  rw [execScrubDone, hsweep]
  rfl

theorem State.sweepNext_eq (s : State) (left : List Nat) (free : Nat) : ∃ r, (s.sweepNext left free).regs = (s.setFld MEM_SCRUB_STATUS_NEXT_ROOM r).regs ∧
    (s.sweepNext left free).mem = s.mem := by
  unfold State.sweepNext
  split
  · exact ⟨_, rfl, rfl⟩
  · exact ⟨_, rfl, rfl⟩

/-- What the registers say of a sweep that has ended. -/
theorem State.sweepShownDone_regs (s : State) (read fixed bad made skipped : Nat) (left : List Nat) (free : Nat) :
    ((s.sweepShownDone read fixed bad made skipped).sweepNext left free).fld MEM_SCRUB_STATUS_BUSY = 0 ∧
    ((s.sweepShownDone read fixed bad made skipped).sweepNext left free).fld MEM_SCRUB_STATUS_SKIPPED = skipped % 2 ∧
    ((s.sweepShownDone read fixed bad made skipped).sweepNext left free).reg (MEM_SCRUB_SUM 0) = BitVec.ofNat 64 read ∧
    ((s.sweepShownDone read fixed bad made skipped).sweepNext left free).reg (MEM_SCRUB_SUM 1) = BitVec.ofNat 64 fixed ∧
    ((s.sweepShownDone read fixed bad made skipped).sweepNext left free).reg (MEM_SCRUB_SUM 2) = BitVec.ofNat 64 bad ∧
    ((s.sweepShownDone read fixed bad made skipped).sweepNext left free).reg (MEM_SCRUB_SUM 5) = BitVec.ofNat 64 s.now ∧
    ((s.sweepShownDone read fixed bad made skipped).sweepNext left free).mem.sweep = none := by
  obtain ⟨r, hregs, hmem⟩ := (s.sweepShownDone read fixed bad made skipped).sweepNext_eq left free
  have hsum : ∀ i, MEM_SCRUB_SUM i ≠ MEM_SCRUB_STATUS := by
    intro i
    simp only [MEM_SCRUB_SUM, MEM_SCRUB_STATUS]
    omega
  have hset : ∀ i < 6, ((s.sweepShownDone read fixed bad made skipped).sweepNext left free).reg (MEM_SCRUB_SUM i) =
      ((((((s.setReg (MEM_SCRUB_SUM 0) (BitVec.ofNat 64 read)).setReg (MEM_SCRUB_SUM 1) (BitVec.ofNat 64 fixed)).setReg (MEM_SCRUB_SUM 2)
        (BitVec.ofNat 64 bad)).setReg (MEM_SCRUB_SUM 3) (BitVec.ofNat 64 made)).setReg (MEM_SCRUB_SUM 5) (BitVec.ofNat 64 s.now))).reg (MEM_SCRUB_SUM i) := by
    intro i _
    rw [State.reg_congr hregs, State.reg_setFld_other _ _ _ (hsum i), State.sweepShownDone, State.reg_setFld_other _ _ _ (hsum i), State.modMem_reg,
      State.reg_setFld_other _ _ _ (hsum i)]
  refine ⟨?_, ?_, ?_, ?_, ?_, ?_, by rw [hmem]; rfl⟩
  · rw [State.fld_congr hregs, State.fld_setFld_apart _ _ _ _ (by decide), State.sweepShownDone, State.fld_setFld_apart _ _ _ _ (by decide),
      State.modMem_fld, State.fld_setFld_fits _ (by decide) (by decide)]
  · rw [State.fld_congr hregs, State.fld_setFld_apart _ _ _ _ (by decide), State.sweepShownDone, State.fld_setFld_same _ _ _ (by decide)]
    rfl
  · rw [hset 0 (by decide), State.reg_setReg_other _ _ (by decide), State.reg_setReg_other _ _ (by decide), State.reg_setReg_other _ _ (by decide),
      State.reg_setReg_other _ _ (by decide), State.reg_setReg_same]
  · rw [hset 1 (by decide), State.reg_setReg_other _ _ (by decide), State.reg_setReg_other _ _ (by decide), State.reg_setReg_other _ _ (by decide),
      State.reg_setReg_same]
  · rw [hset 2 (by decide), State.reg_setReg_other _ _ (by decide), State.reg_setReg_other _ _ (by decide), State.reg_setReg_same]
  · rw [hset 5 (by decide), State.reg_setReg_same]

theorem State.sweepRead_bell (s : State) (read : Nat → Bool) : (s.sweepRead read).bell = s.bell :=
  (Within.foldl (fun _ _ => within_memCount.mono (ps := [.regs, .mem]) (by decide)) _
    (Within.foldl (fun _ _ => within_flushEntry) _ (.refl _ _))).same .bell (by decide)

theorem State.now_findings (s : State) (read : Nat → Bool) (fixed : List (Nat × Nat)) (bad : List Nat) : ((s.sweepRead read).findings fixed bad).2.now = s.now :=
  congrArg BellUnit.now ((within_findings.same .bell (by decide)).trans (s.sweepRead_bell read))

theorem completes_scrubDone {s : State} {first last : Nat} {up : List Nat} (hsweep : s.mem.sweep = some (first, last, up))
    (corrected : List (Nat × Nat)) (uncorrectable rows : List Nat) : Completes (.scrubDone corrected uncorrectable rows) s (fun t =>
      t.fld MEM_SCRUB_STATUS_BUSY = 0 ∧ t.mem.sweep = none ∧ t.reg (MEM_SCRUB_SUM 5) = BitVec.ofNat 64 s.now ∧
      t.reg (MEM_SCRUB_SUM 0) = BitVec.ofNat 64 (32 * (((List.range 8).filter (fun st => decide (0 < (rangeIn first last st).2))).map
        (s.rowsSwept first last up rows)).sum)) := by
  refine ⟨_, exec_scrubDone hsweep corrected uncorrectable rows, ?_⟩
  unfold State.sweepDone
  dsimp only
  obtain ⟨hbusy, -, hread, -, -, hnow, hmem⟩ := State.sweepShownDone_regs ((s.sweepRead (s.swept first last up rows)).findings
    (corrected.filter (fun c => s.swept first last up rows c.1)) (uncorrectable.filter (s.swept first last up rows))).2 _ _ _ _ _ _ _
  refine ⟨hbusy, hmem, ?_, ?_⟩
  · rw [hnow, State.now_findings]
  · rw [hread, ← List.sum_eq_foldl]
    rfl

theorem part_has {first last r n : Nat} (hn : 0 < n) (hfirst : first ≤ r) (hlast : r ≤ last) :
    r - max first (r / n * n) < min (last + 1) ((r / n + 1) * n) - max first (r / n * n) := by
  have hlo : r / n * n ≤ r := Nat.div_mul_le_self _ _
  have hhi : r < (r / n + 1) * n := by
    rw [Nat.mul_comm]
    exact Nat.lt_mul_div_succ r hn
  generalize r / n * n = a at hlo ⊢
  generalize (r / n + 1) * n = b at hhi ⊢
  omega

/-- A room of the range lies in the part that its stack reads. -/
theorem rangeIn_has {first last r : Nat} (hfirst : first ≤ r) (hlast : r ≤ last) :
    r - (rangeIn first last (r / 2 ^ 21)).1 < (rangeIn first last (r / 2 ^ 21)).2 := part_has (Nat.two_pow_pos 21) hfirst hlast

/-- A pair of the range is read by a sweep that was not stopped, where no stack is down. -/
theorem swept_of_range {s : State} {first last pair : Nat} (rows : List Nat) (hstopped : s.flag MEM_SCRUB_STATUS_STOPPED = false)
    (hup : ∀ st < 8, s.stackLost st = false) (hfirst : first ≤ pairRoom pair) (hlast : pairRoom pair ≤ last) (hroom : pairRoom pair < 2 ^ 24) :
    s.swept first last (List.range 8) rows pair = true := by
  have hst : pairStack pair < 8 := Nat.mod_lt _ (by decide)
  have hstack : pairStack pair = pairRoom pair / 2 ^ 21 := by
    have hdiv : pair / 1024 / 2 ^ 21 = pair / 2 ^ 31 := by rw [Nat.div_div_eq_div_mul, show 1024 * 2 ^ 21 = 2 ^ 31 by norm_num]
    rw [pairStack, pairRoom, hdiv, Nat.mod_eq_of_lt]
    rw [← hdiv]
    exact Nat.div_lt_of_lt_mul hroom
  have hall : s.rowsSwept first last (List.range 8) rows (pairStack pair) = 32 * (rangeIn first last (pairStack pair)).2 := by
    have hmem : (List.range 8).contains (pairStack pair) = true := by simpa using hst
    simp only [State.rowsSwept, hmem, hstopped, hup _ hst, Bool.not_true, Bool.false_eq_true, if_false, Bool.or_self]
  have hin : pairRoom pair - (rangeIn first last (pairStack pair)).1 < (rangeIn first last (pairStack pair)).2 := by
    rw [hstack]
    exact rangeIn_has hfirst hlast
  have hlt : (pairRoom pair - (rangeIn first last (pairStack pair)).1) * 32 + pair % 1024 / 32 < 32 * (rangeIn first last (pairStack pair)).2 := by
    omega
  simp only [State.swept, hall, hlt, hfirst, hup _ hst, decide_true, Bool.not_false, Bool.and_self]

theorem completes_scrubDone_one {s : State} {pair symbol : Nat} {rows : List Nat} {first last : Nat} (hsweep : s.mem.sweep = some (first, last, List.range 8))
    (hstopped : s.flag MEM_SCRUB_STATUS_STOPPED = false) (hup : ∀ st < 8, s.stackLost st = false) (hfirst : first ≤ pairRoom pair)
    (hlast : pairRoom pair ≤ last) (hroom : pairRoom pair < 2 ^ 24) : Completes (.scrubDone [(pair, symbol)] [] rows) s (fun t =>
      t.reg (MEM_SCRUB_SUM 1) = 1 ∧ t.reg (MEM_SCRUB_SUM 2) = 0 ∧ t.fld MEM_SCRUB_STATUS_SKIPPED = 0 ∧ t.fld MEM_SCRUB_STATUS_BUSY = 0) := by
  have hread := swept_of_range rows hstopped hup hfirst hlast hroom
  have hfixed : [(pair, symbol)].filter (fun c => s.swept first last (List.range 8) rows c.1) = [(pair, symbol)] := by simp [hread]
  have hskip : (partsOf first last).any (fun st => !(List.range 8).contains st || s.stackLost st) = false := by
    simp only [partsOf, List.any_eq_false, List.mem_filter, List.mem_range]
    rintro st ⟨hst, -⟩
    simp [hst, hup st hst]
  refine ⟨_, exec_scrubDone hsweep _ _ rows, ?_⟩
  unfold State.sweepDone
  rw [hfixed, hskip]
  dsimp only
  obtain ⟨hbusy, hskipped, -, hsum1, hsum2, -, -⟩ := State.sweepShownDone_regs ((s.sweepRead (s.swept first last (List.range 8) rows)).findings
    [(pair, symbol)] []).2 _ _ _ _ _ _ _
  exact ⟨hsum1, hsum2, hskipped, hbusy⟩

/-! ### A repair or a retirement starts (R349) -/

/-- The row of MEM_REPAIR_CTRL. -/
def repairCtrlRow : RegRow := ⟨0x00C00060, 8, 1, 1, [⟨63, 63, .wo, 0, []⟩, ⟨62, 60, .rw, 0, [(0, 3)]⟩, ⟨59, 57, .rw, 0, []⟩, ⟨56, 51, .rw, 0, []⟩,
  ⟨50, 45, .rw, 0, []⟩, ⟨44, 31, .rw, 0, []⟩, ⟨23, 0, .rw, 0, []⟩]⟩

theorem regRow_repairCtrl : regRow? MEM_REPAIR_CTRL = some repairCtrlRow := by decide +kernel

/-- The control word of the operation that a write starts: its own operation, and the place written. -/
def State.repairWord (s : State) (value op : Nat) : Nat :=
  ((((s.writePlain MEM_REPAIR_CTRL value).raise MEM_REPAIR_STATUS_BUSY).setFld MEM_REPAIR_CTRL_OP op).reg MEM_REPAIR_CTRL).toNat

theorem bitsOf_repairWord (s : State) (value : Nat) {op : Nat} (hop : op < 8) : bitsOf (s.repairWord value op) 62 60 = op :=
  State.fld_setFld_fits _ (f := MEM_REPAIR_CTRL_OP) (by decide) hop

theorem bitsOf_repairWord_place (s : State) (value op : Nat) {hi lo : Nat} (h : hi < 60)
    (hf : ∀ i, lo ≤ i → i ≤ hi → ∃ f ∈ repairCtrlRow.fields, f.acc = .rw ∧ f.valid = [] ∧ f.lo ≤ i ∧ i ≤ f.hi) :
    bitsOf (s.repairWord value op) hi lo = bitsOf value hi lo := by
  have hword : bitsOf (s.repairWord value op) hi lo = bitsOf (s.written MEM_REPAIR_CTRL value).toNat hi lo := by
    refine (State.fld_setFld_apart _ MEM_REPAIR_CTRL_OP ⟨MEM_REPAIR_CTRL, hi, lo⟩ op (.inr ⟨by dsimp only; omega, .inl h⟩)).trans ?_
    rw [State.fld_raise_apart _ _ _ (.inl (by decide : MEM_REPAIR_CTRL ≠ MEM_REPAIR_STATUS)), State.fld]
    exact congrArg (fun w : Word => bitsOf w.toNat hi lo) (State.reg_writePlain_same _ _ _)
  rw [hword]
  refine Nat.eq_of_testBit_eq fun j => ?_
  rw [bitsOf_testBit, bitsOf_testBit]
  by_cases hj : j < hi + 1 - lo
  · obtain ⟨⟨fhi, flo, acc, reset, valid⟩, hmem, rfl, rfl, hlo, hhi⟩ := hf (lo + j) (by omega) (by omega)
    rw [s.testBit_written regRow_repairCtrl hmem hlo hhi]
  · simp [hj]

theorem repairGo_idle {s : State} (hidle : s.flag MEM_REPAIR_STATUS_BUSY = false) (value op : Nat) : (s.repairGo value op).fld MEM_REPAIR_STATUS_BUSY = 1 ∧
    (s.repairGo value op).mem.repair = some (s.repairWord value op) := by
  have hgo : s.repairGo value op = ((s.writePlain MEM_REPAIR_CTRL value).raise MEM_REPAIR_STATUS_BUSY).modMem (fun m => { m with
      repair := some (s.repairWord value op) }) := by
    rw [State.repairGo, if_neg (by simp [hidle])]
    rfl
  rw [hgo]
  exact ⟨(State.modMem_fld _ _ _).trans (State.fld_raise_same _ _ (by decide)), rfl⟩

theorem repairCtrl_covers (lo hi : Nat) (h : (24 ≤ lo → 31 ≤ lo) ∧ hi < 60 ∧ (lo < 24 → hi < 24)) :
    ∀ i, lo ≤ i → i ≤ hi → ∃ f ∈ repairCtrlRow.fields, f.acc = .rw ∧ f.valid = [] ∧ f.lo ≤ i ∧ i ≤ f.hi := by
  intro i hlo hhi
  have hplace : ∀ i < 60, 31 ≤ i ∨ i < 24 → ∃ f ∈ repairCtrlRow.fields, f.acc = .rw ∧ f.valid = [] ∧ f.lo ≤ i ∧ i ≤ f.hi := by decide
  exact hplace i (by omega) (by omega)

theorem completes_repairGo_busy {s : State} (hbusy : s.flag MEM_REPAIR_STATUS_BUSY = true) (value : Nat) : Completes (.repairRow value) s (fun t =>
    t.fld MEM_ERR_REPAIR_BUSY = 1 ∧ t.mem = s.mem) := by
  have hgo : s.repairGo value 0 = s.raise MEM_ERR_REPAIR_BUSY := if_pos hbusy
  exact ⟨_, congrArg Host.Outcome.next hgo, State.fld_raise_same _ _ (by decide), s.raise_mem _⟩

/-! ### A repair or a retirement ends (R349 to R351) -/

/-- The state with the operation ended and its result shown. -/
def State.repairEnded (s : State) (result : Nat) : State :=
  ((s.modMem (fun m => { m with repair := none })).setFld MEM_REPAIR_STATUS_BUSY 0).setFld MEM_REPAIR_STATUS_RESULT result

theorem State.fld_repairEnded (s : State) {result : Nat} (h : result < 256) : (s.repairEnded result).fld MEM_REPAIR_STATUS_RESULT = result ∧
    (s.repairEnded result).fld MEM_REPAIR_STATUS_BUSY = 0 ∧ (s.repairEnded result).mem.repair = none := by
  refine ⟨State.fld_setFld_fits _ (by decide) h, ?_, rfl⟩
  rw [State.repairEnded, State.fld_setFld_apart _ _ _ _ (by decide), State.fld_setFld_fits _ (by decide) (by decide)]

/-- What the operation of a control word comes to: its result, and the state before it is shown. -/
def State.repairOutcome (s : State) (w : Nat) (corrected : List (Nat × Nat)) (uncorrectable : List Nat) : Nat × State :=
  if bitsOf w 62 60 = 0 then s.doRepairRow w corrected uncorrectable
  else if bitsOf w 62 60 = 1 then
    if bitsOf w 23 0 < 32768 then (5, s) else if s.ledgerFull then (3, s)
    else (0, (s.poisonRoom (bitsOf w 23 0)).recordLedger (2 * 2 ^ 60 + bitsOf w 23 0))
  else if bitsOf w 62 60 = 2 then
    if s.ledgerFull then (3, s) else if s.stackLost (bitsOf w 59 57) then (4, s)
    else (0, ((bankRooms (bitsOf w 59 57) (bitsOf w 56 51) (bitsOf w 50 45)).foldl State.poisonRoom s).recordLedger
      (3 * 2 ^ 60 + bitsOf w 59 45 * 2 ^ 45))
  else if bitsOf w 62 60 = 3 then s.doRelease (bitsOf w 23 0)
  else (6, s)

theorem exec_repairDone {s : State} {w : Nat} (hrepair : s.mem.repair = some w) (corrected : List (Nat × Nat)) (uncorrectable : List Nat) :
    exec (.repairDone corrected uncorrectable) s =
      .next ((s.repairOutcome w corrected uncorrectable).2.repairEnded (s.repairOutcome w corrected uncorrectable).1) := by
  show execRepairDone s corrected uncorrectable = _
  rw [execRepairDone, hrepair]
  rfl

theorem doRepairRow_result (s : State) (w : Nat) (corrected : List (Nat × Nat)) (uncorrectable : List Nat) :
    (s.doRepairRow w corrected uncorrectable).1 ≤ 6 := by
  unfold State.doRepairRow
  dsimp only
  split
  · exact Nat.le_of_ble_eq_true rfl
  · split
    · exact Nat.le_of_ble_eq_true rfl
    · split
      · exact Nat.le_of_ble_eq_true rfl
      · split <;> exact Nat.le_of_ble_eq_true rfl

theorem doRelease_result (s : State) (r : Nat) : (s.doRelease r).1 ≤ 6 := by
  unfold State.doRelease
  dsimp only
  split
  · exact Nat.le_of_ble_eq_true rfl
  · split
    · exact Nat.le_of_ble_eq_true rfl
    · split
      · exact Nat.le_of_ble_eq_true rfl
      · split <;> exact Nat.le_of_ble_eq_true rfl

theorem repairOutcome_result (s : State) (w : Nat) (corrected : List (Nat × Nat)) (uncorrectable : List Nat) :
    (s.repairOutcome w corrected uncorrectable).1 ≤ 6 := by
  unfold State.repairOutcome
  split
  · exact doRepairRow_result s w corrected uncorrectable
  · split
    · split
      · exact Nat.le_of_ble_eq_true rfl
      · split <;> exact Nat.le_of_ble_eq_true rfl
    · split
      · split
        · exact Nat.le_of_ble_eq_true rfl
        · split <;> exact Nat.le_of_ble_eq_true rfl
      · split
        · exact doRelease_result s _
        · exact Nat.le_of_ble_eq_true rfl

theorem completes_repairDone {s : State} {w : Nat} (hrepair : s.mem.repair = some w) (corrected : List (Nat × Nat)) (uncorrectable : List Nat) :
    Completes (.repairDone corrected uncorrectable) s (fun t => t.mem.repair = none ∧ t.fld MEM_REPAIR_STATUS_BUSY = 0 ∧
      t.fld MEM_REPAIR_STATUS_RESULT ≤ 6) := by
  have hle := repairOutcome_result s w corrected uncorrectable
  obtain ⟨hresult, hbusy, hnone⟩ := (s.repairOutcome w corrected uncorrectable).2.fld_repairEnded (lt_of_le_of_lt hle (by decide))
  exact ⟨_, exec_repairDone hrepair _ _, hnone, hbusy, by rw [hresult]; exact hle⟩

theorem State.recordLedger_ledger (s : State) (e : Nat) : (s.recordLedger e).host.flash.ledger = s.host.flash.ledger ++ [e] := rfl

theorem completes_retireRoom_done {s : State} {room : Nat} (hrepair : s.mem.repair = some (2 ^ 60 + room)) (hlo : 32768 ≤ room) (hhi : room < 2 ^ 24)
    (hledger : s.host.flash.ledger.length < 4096) (corrected : List (Nat × Nat)) (uncorrectable : List Nat) :
    Completes (.repairDone corrected uncorrectable) s (fun t => t.fld MEM_REPAIR_STATUS_RESULT = 0 ∧ t.fld MEM_REPAIR_STATUS_BUSY = 0 ∧
      t.mem.repair = none ∧ t.host.flash.ledger = s.host.flash.ledger ++ [2 * 2 ^ 60 + room]) := by
  have hop : bitsOf (2 ^ 60 + room) 62 60 = 1 := by
    unfold bitsOf
    omega
  have hroom : bitsOf (2 ^ 60 + room) 23 0 = room := by
    unfold bitsOf
    omega
  have hfull : s.ledgerFull = false := by simpa [State.ledgerFull] using hledger
  have hout : s.repairOutcome (2 ^ 60 + room) corrected uncorrectable = (0, (s.poisonRoom room).recordLedger (2 * 2 ^ 60 + room)) := by
    unfold State.repairOutcome
    rw [hop, hroom, hfull, if_neg (by decide), if_pos rfl, if_neg (by omega), if_neg (by decide)]
  have hexec := exec_repairDone hrepair corrected uncorrectable
  rw [hout] at hexec
  obtain ⟨hresult, hbusy, hnone⟩ := ((s.poisonRoom room).recordLedger (2 * 2 ^ 60 + room)).fld_repairEnded (result := 0) (by decide)
  have hhost : (s.poisonRoom room).host = s.host := within_poisonRoom.same .host (by decide)
  refine ⟨_, hexec, hresult, hbusy, hnone, ?_⟩
  rw [← hhost]
  rfl

/-! ### A row repair (R350) -/

theorem State.flushEntry_remaps (s : State) (e : MergeEntry) : (s.flushEntry e).mem.remaps = s.mem.remaps := by
  have hopen : (s.openEntry e).mem.remaps = s.mem.remaps := by
    unfold State.openEntry
    dsimp only
    split <;> rfl
  have hmerge : ∀ u : State, (u.mergeIn e).mem.remaps = u.mem.remaps := by
    intro u
    unfold State.mergeIn
    split <;> rfl
  rw [State.flushEntry, hmerge, hopen]

theorem State.touchPair_remaps (s : State) (p : Nat) : (s.touchPair p).mem.remaps = s.mem.remaps := by
  have hsettle : ((s.transferred (pairStack p)).settle p).mem.remaps = s.mem.remaps := by
    unfold State.settle
    split
    · exact State.flushEntry_remaps _ _
    · rfl
  unfold State.touchPair
  dsimp only
  split <;> exact hsettle

theorem State.remapped_congr {s t : State} (h : t.mem.remaps = s.mem.remaps) (st pc bank row : Nat) :
    t.remapped st pc bank row = s.remapped st pc bank row := by rw [State.remapped, h, State.remapped]

theorem State.remapRow_mem (s : State) (st pc bank row k : Nat) :
    (s.remapRow st pc bank row k).mem.remaps = ⟨st, pc, bank, row, k, s.remapped st pc bank row + 1⟩ :: s.mem.remaps ∧
      (s.remapRow st pc bank row k).host = s.host := by
  refine ⟨?_, within_remapRow.same .host (by decide)⟩
  unfold State.remapRow
  dsimp only
  have hfold : ∀ (l : List Nat) (u : State) (n : Nat), (l.foldl (fun s e => s.setFld (MEM_CE_REPAIRS e) n) u).mem = u.mem := by
    intro l
    induction l with
    | nil => exact fun _ _ => rfl
    | cons e l ih => exact fun u n => (ih _ n).trans (u.setFld_mem _ _)
  rw [hfold]
  rfl

theorem remapped_cons (s : State) (st pc bank row k n : Nat) (rest : List Remap) (h : s.mem.remaps = ⟨st, pc, bank, row, k, n⟩ :: rest) :
    s.remapped st pc bank row = n := by
  simp [State.remapped, h]

theorem rowWord_fields {st pc bank row : Nat} (hst : st < 8) (hpc : pc < 64) (hbank : bank < 64) (hrow : row < 2 ^ 14) :
    bitsOf (st * 2 ^ 57 + pc * 2 ^ 51 + bank * 2 ^ 45 + row * 2 ^ 31) 62 60 = 0 ∧ bitsOf (st * 2 ^ 57 + pc * 2 ^ 51 + bank * 2 ^ 45 + row * 2 ^ 31) 59 57 = st ∧
    bitsOf (st * 2 ^ 57 + pc * 2 ^ 51 + bank * 2 ^ 45 + row * 2 ^ 31) 56 51 = pc ∧ bitsOf (st * 2 ^ 57 + pc * 2 ^ 51 + bank * 2 ^ 45 + row * 2 ^ 31) 50 45 = bank ∧
    bitsOf (st * 2 ^ 57 + pc * 2 ^ 51 + bank * 2 ^ 45 + row * 2 ^ 31) 44 31 = row := by
  unfold bitsOf
  omega

/-- The entry of the ledger for a row repair with spare row 0. -/
def rowEntry (st pc bank row : Nat) : Nat := 2 ^ 60 + st * 2 ^ 57 + pc * 2 ^ 51 + bank * 2 ^ 45 + row * 2 ^ 31

theorem findings_none (s : State) : (s.findings [] []).2 = s := rfl

theorem repairOutcome_row {s : State} {w st pc bank row : Nat} (hop : bitsOf w 62 60 = 0) (hst : bitsOf w 59 57 = st) (hpc : bitsOf w 56 51 = pc)
    (hbank : bitsOf w 50 45 = bank) (hrow : bitsOf w 44 31 = row) (hup : s.stackLost st = false) (hremap : s.remapped st pc bank row < 2)
    (hspare : s.sparesUsed st pc bank = []) (hfull : s.ledgerFull = false) : s.repairOutcome w [] [] =
      (0, (((rowPairs st pc bank row).foldl State.touchPair s).remapRow st pc bank row 0).recordLedger (rowEntry st pc bank row)) := by
  have hspare0 : s.spare? st pc bank = some 0 := by
    rw [State.spare?, hspare]
    rfl
  rw [State.repairOutcome, if_pos hop, State.doRepairRow]
  dsimp only
  rw [hst, hpc, hbank, hrow, if_neg (by omega), hspare0]
  dsimp only
  rw [hfull, hup, if_neg (by decide), if_neg (by decide), List.filter_nil, List.filter_nil, findings_none, Nat.zero_mul, Nat.add_zero, rowEntry]

theorem touchPairs_remaps (l : List Nat) : ∀ s : State, (l.foldl State.touchPair s).mem.remaps = s.mem.remaps := by
  induction l with
  | nil => exact fun _ => rfl
  | cons p l ih => exact fun s => (ih (s.touchPair p)).trans (s.touchPair_remaps p)

theorem State.repairRecorded_remaps (s : State) (e result : Nat) : ((s.recordLedger e).repairEnded result).mem.remaps = s.mem.remaps := by
  rw [State.repairEnded, State.setFld_mem, State.setFld_mem]
  rfl

theorem completes_repairRow_word {s : State} {w st pc bank row : Nat} (hrepair : s.mem.repair = some w) (hop : bitsOf w 62 60 = 0)
    (hst : bitsOf w 59 57 = st) (hpc : bitsOf w 56 51 = pc) (hbank : bitsOf w 50 45 = bank) (hrow : bitsOf w 44 31 = row)
    (hup : s.stackLost st = false) (hremap : s.remapped st pc bank row < 2) (hspare : s.sparesUsed st pc bank = [])
    (hledger : s.host.flash.ledger.length < 4096) : Completes (.repairDone [] []) s (fun t =>
      t.fld MEM_REPAIR_STATUS_RESULT = 0 ∧ t.fld MEM_REPAIR_STATUS_BUSY = 0 ∧ t.mem.repair = none ∧
      t.remapped st pc bank row = s.remapped st pc bank row + 1 ∧
      t.host.flash.ledger = s.host.flash.ledger ++ [rowEntry st pc bank row]) := by
  have hfull : s.ledgerFull = false := by simpa [State.ledgerFull] using hledger
  have hexec := exec_repairDone hrepair [] []
  rw [repairOutcome_row hop hst hpc hbank hrow hup hremap hspare hfull] at hexec
  dsimp only at hexec
  have hremaps := touchPairs_remaps (rowPairs st pc bank row) s
  have hhost : ((rowPairs st pc bank row).foldl State.touchPair s).host = s.host :=
    (Within.foldl (fun _ _ => within_touchPair) _ (.refl _ _)).same .host (by decide)
  generalize (rowPairs st pc bank row).foldl State.touchPair s = u at hexec hremaps hhost
  generalize rowEntry st pc bank row = e at hexec ⊢
  obtain ⟨hmem, hkept⟩ := u.remapRow_mem st pc bank row 0
  generalize u.remapRow st pc bank row 0 = v at hexec hmem hkept
  obtain ⟨hresult, hbusy, hnone⟩ := (v.recordLedger e).fld_repairEnded (result := 0) (by decide)
  refine ⟨_, hexec, hresult, hbusy, hnone, ?_, ?_⟩
  · rw [State.remapped_congr (State.repairRecorded_remaps v e 0), ← State.remapped_congr hremaps]
    exact remapped_cons v st pc bank row 0 _ u.mem.remaps hmem
  · rw [← hhost, ← hkept]
    rfl

theorem completes_repairRow_done {s : State} {st pc bank row : Nat} (hrepair : s.mem.repair = some (st * 2 ^ 57 + pc * 2 ^ 51 + bank * 2 ^ 45 + row * 2 ^ 31))
    (hst : st < 8) (hpc : pc < 64) (hbank : bank < 64) (hrow : row < 2 ^ 14) (hup : s.stackLost st = false) (hremap : s.remapped st pc bank row < 2)
    (hspare : s.sparesUsed st pc bank = []) (hledger : s.host.flash.ledger.length < 4096) : Completes (.repairDone [] []) s (fun t =>
      t.fld MEM_REPAIR_STATUS_RESULT = 0 ∧ t.fld MEM_REPAIR_STATUS_BUSY = 0 ∧ t.mem.repair = none ∧
      t.remapped st pc bank row = s.remapped st pc bank row + 1 ∧
      t.host.flash.ledger = s.host.flash.ledger ++ [rowEntry st pc bank row]) := by
  obtain ⟨hop, hst', hpc', hbank', hrow'⟩ := rowWord_fields hst hpc hbank hrow
  exact completes_repairRow_word hrepair hop hst' hpc' hbank' hrow' hup hremap hspare hledger

/-- Settles O12, by one lemma for each command and outcome. -/
theorem maintenanceCompletes : Obligations.MaintenanceCompletes := by
  unfold Obligations.MaintenanceCompletes
  have hgo : ∀ {s : State} (value : Nat) {op : Nat} {c : Instr}, op < 8 → exec c s = .next (s.repairGo value op) →
      s.flag MEM_REPAIR_STATUS_BUSY = false → ∀ {α : Type} {g : Nat → α} {x : α}, g (s.repairWord value op) = x →
      Completes c s (fun t => t.fld MEM_REPAIR_STATUS_BUSY = 1 ∧ t.mem.repair.map g = some x) := by
    intro s value op c _ hexec hidle α g x hx
    obtain ⟨hbusy, hword⟩ := repairGo_idle hidle value op
    exact ⟨_, hexec, hbusy, by rw [hword, Option.map_some, hx]⟩
  refine ⟨fun s value hidle => completes_scrubGo hidle, fun s value hbusy => completes_scrubGo_busy hbusy, fun s hbusy => completes_scrubStop hbusy,
    fun s corrected uncorrectable rows first last up hsweep => completes_scrubDone hsweep corrected uncorrectable rows,
    fun s pair symbol rows first last hsweep hstopped hup hfirst hlast hroom => completes_scrubDone_one hsweep hstopped hup hfirst hlast hroom,
    fun s value hidle => hgo value (by decide : 0 < 8) rfl hidle ?_, fun s value hidle => hgo value (by decide : 1 < 8) rfl hidle ?_,
    fun s value hidle => hgo value (by decide : 2 < 8) rfl hidle ?_, fun s value hidle => hgo value (by decide : 3 < 8) rfl hidle ?_,
    fun s value hbusy => completes_repairGo_busy hbusy value,
    fun s corrected uncorrectable room hrepair hlo hhi hledger => completes_retireRoom_done hrepair hlo hhi hledger corrected uncorrectable,
    fun s st pc bank row hrepair hst hpc hbank hrow hup hremap hspare hledger =>
      completes_repairRow_done hrepair hst hpc hbank hrow hup hremap hspare hledger,
    fun s corrected uncorrectable w hrepair => completes_repairDone hrepair corrected uncorrectable⟩
  all_goals rw [bitsOf_repairWord _ _ (by decide)]
  · rw [bitsOf_repairWord_place _ _ _ (by decide) (repairCtrl_covers 57 59 (by decide)), bitsOf_repairWord_place _ _ _ (by decide) (repairCtrl_covers 51 56 (by decide)),
      bitsOf_repairWord_place _ _ _ (by decide) (repairCtrl_covers 45 50 (by decide)), bitsOf_repairWord_place _ _ _ (by decide) (repairCtrl_covers 31 44 (by decide))]
  · rw [bitsOf_repairWord_place _ _ _ (by decide) (repairCtrl_covers 0 23 (by decide)), bitsOf, pow_zero, Nat.div_one]
  · rw [bitsOf_repairWord_place _ _ _ (by decide) (repairCtrl_covers 45 59 (by decide))]
  · rw [bitsOf_repairWord_place _ _ _ (by decide) (repairCtrl_covers 0 23 (by decide)), bitsOf, pow_zero, Nat.div_one]

end Sys2Proof.Machine
end

section
/-! PROOF. O35: itinerary images are verified, armed, cancelled and come into force (R301 to R303). -/

-- Proofs are checked one at a time: side by side they would only wait for one another.
set_option Elab.async false

namespace Sys2Proof.Machine
open Sys2Proof

/-! ### Elements of a list changed at one place, and of a list with its places -/

theorem foldl_keeps {α β γ : Type} {g : β → α → β} {f : β → γ} (h : ∀ b a, f (g b a) = f b) (l : List α) (b : β) : f (l.foldl g b) = f b := by
  induction l generalizing b with
  | nil => rfl
  | cons a l ih => exact (ih (g b a)).trans (h b a)

theorem modifyAt_eq_modify {α : Type} (f : α → α) (i : Nat) (l : List α) : modifyAt f i l = l.modify i f := by
  induction l generalizing i with
  | nil => cases i <;> rfl
  | cons a l ih =>
    cases i with
    | zero => rfl
    | succ i => rw [modifyAt, ih, List.modify_succ_cons]

theorem map_modifyAt {α β : Type} {g : α → β} {f : α → α} (h : ∀ a, g (f a) = g a) (i : Nat) (l : List α) : (modifyAt f i l).map g = l.map g := by
  induction l generalizing i with
  | nil => cases i <;> rfl
  | cons a l ih =>
    cases i with
    | zero => simp [modifyAt, h]
    | succ i => simp [modifyAt, ih]

theorem getD_modifyAt {α : Type} (f : α → α) (i j : Nat) (l : List α) (d : α) :
    (modifyAt f i l).getD j d = if i = j ∧ j < l.length then f (l.getD j d) else l.getD j d := by
  rw [modifyAt_eq_modify, List.getD_eq_getElem?_getD, List.getD_eq_getElem?_getD, List.getElem?_modify]
  by_cases hj : j < l.length
  · rw [List.getElem?_eq_getElem hj]
    by_cases hi : i = j <;> simp [hi, hj]
  · rw [List.getElem?_eq_none (by omega)]
    simp [hj]

theorem getD_zipIdx_map {α β : Type} (g : α × Nat → β) (l : List α) {i : Nat} (h : i < l.length) (a : α) (b : β) :
    (l.zipIdx.map g).getD i b = g (l.getD i a, i) := by
  simp [List.getD_eq_getElem?_getD, h]

/-! ### A check of an image (R301) -/

theorem completes_verify {s : State} (hbusy : s.flag DV_ITIN_STATUS_BUSY = false) (hpending : s.flag DV_ITIN_STATUS_PENDING = false)
    (hold : s.clusters.cores.any (·.oldWork) = false) : Completes .verify s (fun t =>
      t.fld DV_ITIN_STATUS_BUSY = 1 ∧ t.fld DV_ITIN_STATUS_STAGED_OK = 0 ∧ t.clusters.staged = none ∧
      t.host.verifying = some s.verdict ∧ t.clusters.cores = s.clusters.cores ∧ t.clusters.active = s.clusters.active) := by
  refine ⟨(((s.raise DV_ITIN_STATUS_BUSY).setFld DV_ITIN_STATUS_STAGED_OK 0).modClusters (fun u => { u with staged := none })).modHost
    (fun h => { h with verifying := some s.verdict }), ?_, ?_, ?_, rfl, rfl, rfl, rfl⟩
  · show execVerify s = _
    rw [execVerify, if_neg (by simp [hbusy, hpending, hold])]
  · exact (State.fld_setFld_apart _ _ _ _ (by decide)).trans (State.fld_raise_same _ _ (by decide))
  · exact State.fld_setFld_fits _ (by decide) (by decide)

theorem completes_verify_busy {s : State} (h : s.flag DV_ITIN_STATUS_BUSY = true ∨ s.flag DV_ITIN_STATUS_PENDING = true) :
    Completes .verify s (fun t => t.fld DV_ITIN_ERR_BUSY = 1 ∧ t.host = s.host ∧ t.clusters = s.clusters) := by
  refine ⟨s.raise DV_ITIN_ERR_BUSY, ?_, State.fld_raise_same _ _ (by decide), rfl, rfl⟩
  show execVerify s = _
  rw [execVerify, if_pos (h.imp_right .inl)]

/-! ### The check ends -/

/-- The state with the check ended and the banks of core sections that passed in the shadow banks. -/
def State.checked (s : State) (banks : List StoreBank) : State :=
  ((s.setFld DV_ITIN_STATUS_BUSY 0).modHost (fun h => { h with verifying := none })).loadShadows banks

theorem exec_verifyDone_fails {s : State} {code : Nat} {banks : List StoreBank} (h : s.host.verifying = some (.fails code banks)) :
    exec .verifyDone s = .next (((s.checked banks).setFld DV_ITIN_STATUS_LAST_ERR code).raise DV_ITIN_ERR_VERIFY_FAIL) := by
  show execVerifyDone s = _
  rw [execVerifyDone, h]
  rfl

theorem exec_verifyDone_passes {s : State} {im : Image} {banks : List StoreBank} (h : s.host.verifying = some (.passes im banks)) :
    exec .verifyDone s = .next (((((s.checked banks).modClusters (fun u => { u with staged := some im })).raise DV_ITIN_STATUS_STAGED_OK).setReg
      DV_ITIN_STAGED_ID (BitVec.ofNat 64 im.id)).measure 7 im.digest im.id) := by
  show execVerifyDone s = _
  rw [execVerifyDone, h]
  rfl

theorem State.fld_checked_busy (s : State) (banks : List StoreBank) : (s.checked banks).fld DV_ITIN_STATUS_BUSY = 0 :=
  State.fld_setFld_fits s (f := DV_ITIN_STATUS_BUSY) (by decide) (by decide)

theorem Core.getD_loadShadow {k : Core} (h : k.banks.length = 2 ∧ k.front < 2) (b : StoreBank) :
    (k.loadShadow b).banks.getD (1 - k.front) bankReset = b ∧
      (k.loadShadow b).banks.getD k.front bankReset = k.banks.getD k.front bankReset := by
  obtain ⟨hlen, hfront⟩ := h
  rw [Core.loadShadow, getD_modifyAt, getD_modifyAt, if_pos (by omega), if_neg (by omega)]
  exact ⟨rfl, rfl⟩

/-- Each core's shadow bank takes its section, and its bank in force stands. -/
theorem State.core_checked {s : State} {banks : List StoreBank} (hlen : banks.length = s.clusters.cores.length)
    (hcores : ∀ k ∈ s.clusters.cores, k.banks.length = 2 ∧ k.front < 2) {c : Nat} (hc : c < s.clusters.cores.length) :
    ((s.checked banks).core c).banks.getD (1 - (s.core c).front) bankReset = banks.getD c bankReset ∧
      ((s.checked banks).core c).banks.getD (s.core c).front bankReset = (s.core c).banks.getD (s.core c).front bankReset := by
  have hcore : (s.checked banks).core c = (s.core c).loadShadow (banks.getD c bankReset) := by
    have hb : banks[c]? = some (banks.getD c bankReset) := by
      rw [List.getElem?_eq_getElem (hlen ▸ hc), List.getD_eq_getElem _ _ (hlen ▸ hc)]
    refine (getD_zipIdx_map _ _ hc coreReset coreReset).trans ?_
    dsimp only
    rw [hb]
    rfl
  rw [hcore]
  refine Core.getD_loadShadow (hcores _ ?_) _
  rw [State.core, List.getD_eq_getElem _ _ hc]
  exact List.getElem_mem hc

theorem State.loadShadows_nil (s : State) : (s.loadShadows []).clusters = s.clusters := by
  have hmap : s.clusters.cores.zipIdx.map (fun x => match ([] : List StoreBank)[x.2]? with
      | some b => x.1.loadShadow b
      | none => x.1) = s.clusters.cores := by simp
  exact congrArg (fun l => { s.clusters with cores := l }) hmap

theorem completes_verifyDone_fails {s : State} {code : Nat} {banks : List StoreBank} (h : s.host.verifying = some (.fails code banks)) (hcode : code < 256) :
    Completes .verifyDone s (fun t => t.fld DV_ITIN_STATUS_BUSY = 0 ∧ t.fld DV_ITIN_STATUS_LAST_ERR = code ∧ t.fld DV_ITIN_ERR_VERIFY_FAIL = 1 ∧
      t.host.verifying = none ∧ t.clusters = (s.checked banks).clusters) := by
  refine ⟨_, exec_verifyDone_fails h, ?_, ?_, State.fld_raise_same _ _ (by decide), rfl, rfl⟩
  · exact (State.fld_raise_apart _ _ _ (by decide)).trans ((State.fld_setFld_apart _ _ _ _ (by decide)).trans (s.fld_checked_busy banks))
  · exact (State.fld_raise_apart _ _ _ (by decide)).trans (State.fld_setFld_fits _ (by decide) hcode)

theorem completes_verifyDone_passes {s : State} {im : Image} {banks : List StoreBank} (h : s.host.verifying = some (.passes im banks)) :
    Completes .verifyDone s (fun t => t.fld DV_ITIN_STATUS_BUSY = 0 ∧ t.fld DV_ITIN_STATUS_STAGED_OK = 1 ∧
      t.reg DV_ITIN_STAGED_ID = BitVec.ofNat 64 im.id ∧ t.clusters = { (s.checked banks).clusters with staged := some im }) := by
  refine ⟨_, exec_verifyDone_passes h, ?_⟩
  generalize hu : ((s.checked banks).modClusters (fun u => { u with staged := some im })).raise DV_ITIN_STATUS_STAGED_OK = u
  have hin : Within [.host] (u.setReg DV_ITIN_STAGED_ID (BitVec.ofNat 64 im.id)) ((u.setReg DV_ITIN_STAGED_ID (BitVec.ofNat 64 im.id)).measure 7 im.digest im.id) :=
    within_measure
  have hreg := hin.reg (by decide)
  have hset : ∀ f : Fld, f.off ≠ DV_ITIN_STAGED_ID → ((u.setReg DV_ITIN_STAGED_ID (BitVec.ofNat 64 im.id)).measure 7 im.digest im.id).fld f = u.fld f :=
    fun f hf => (State.fld_eq_of_reg (f := f) (hreg _)).trans (State.fld_setReg_off _ _ _ _ hf)
  refine ⟨?_, ?_, ?_, ?_⟩
  · rw [hset _ (by decide), ← hu]
    exact (State.fld_raise_apart _ _ _ (by decide)).trans (s.fld_checked_busy banks)
  · rw [hset _ (by decide), ← hu]
    exact State.fld_raise_same _ _ (by decide)
  · rw [hreg]
    exact State.reg_setReg_same _ _ _
  · rw [hin.same .clusters (by decide), ← hu]
    rfl

/-! ### Activation is armed and cancelled (R302) -/

theorem armCode_near {s : State} {tick : Nat} (h : s.bellSet = false ∨ tick < s.now + 8000) : s.armCode tick = 0x10 :=
  if_pos (by rw [tickAhead_eq_false h]; rfl)

theorem armCode_off {s : State} {tick : Nat} (h : s.tickAhead tick = true) (hmod : tick % 32 ≠ 0) : s.armCode tick = 0x11 := by
  rw [State.armCode, if_neg (by simp [h]), if_pos hmod]

theorem armCode_unstaged {s : State} {tick : Nat} (h : s.tickAhead tick = true) (hmod : tick % 32 = 0) (hok : s.flag DV_ITIN_STATUS_STAGED_OK = false) :
    s.armCode tick = 0x12 := by
  rw [State.armCode, if_neg (by simp [h]), if_neg (by simp [hmod]), if_pos (by simp [hok])]

theorem armCode_lt (s : State) (tick : Nat) : s.armCode tick < 256 := by
  unfold State.armCode
  split
  · decide
  split
  · decide
  split
  · decide
  split
  · decide
  split <;> decide

theorem completes_activationArm {s : State} {im : Image} {tick : Nat} (hcode : s.armCode tick = 0) (hstaged : s.clusters.staged = some im)
    (hcurfews : im.curfews = []) (htick : tick < 2 ^ 64) : Completes (.activationArm tick) s (fun t => t.fld DV_ITIN_STATUS_PENDING = 1 ∧
      t.fld DV_ITIN_ACT_TICK_TICK = tick ∧ t.clusters.armed = some tick ∧ t.clusters.staged = some im ∧ t.sw = s.sw) := by
  refine ⟨((s.setReg DV_ITIN_ACT_TICK (BitVec.ofNat 64 tick)).raise DV_ITIN_STATUS_PENDING).modClusters (fun u => { u with armed := some tick }), ?_,
    State.fld_raise_same _ _ (by decide), ?_, rfl, hstaged, rfl⟩
  · show execActivationArm tick s = _
    rw [execActivationArm]
    dsimp only
    rw [if_neg (by simp [hcode]), hstaged, Option.map_some, Option.getD_some, hcurfews, List.foldl_nil]
  · refine (State.fld_raise_apart _ _ _ (by decide)).trans ?_
    rw [State.fld, DV_ITIN_ACT_TICK_TICK, State.reg_setReg_same, bitsOf_whole, BitVec.toNat_ofNat, Nat.mod_eq_of_lt htick]

theorem completes_activationArm_refused {s : State} {tick : Nat} (hcode : s.armCode tick ≠ 0) : Completes (.activationArm tick) s (fun t =>
    t.fld DV_ITIN_STATUS_LAST_ERR = s.armCode tick ∧ t.fld DV_ITIN_ERR_REFUSED = 1 ∧ t.clusters = s.clusters ∧
    t.reg DV_ITIN_ACT_TICK = s.reg DV_ITIN_ACT_TICK) := by
  refine ⟨(s.setFld DV_ITIN_STATUS_LAST_ERR (s.armCode tick)).itinRefuse, ?_, ?_, State.fld_raise_same _ _ (by decide), rfl, ?_⟩
  · show execActivationArm tick s = _
    rw [execActivationArm]
    exact if_pos hcode
  · exact (State.fld_raise_apart _ _ _ (by decide)).trans (State.fld_setFld_fits _ (by decide) (armCode_lt s tick))
  · exact (State.reg_raise_other _ _ (by decide)).trans (State.reg_setFld_other _ _ _ (by decide))

theorem completes_activationCancel {s : State} {im : Image} {tick : Nat} (harmed : s.clusters.armed = some tick) (hahead : s.tickAhead tick = true)
    (hstaged : s.clusters.staged = some im) (hcurfews : im.curfews = []) : Completes .activationCancel s (fun t => t.fld DV_ITIN_STATUS_PENDING = 0 ∧
      t.clusters.armed = none ∧ t.clusters.staged = some im) := by
  refine ⟨(s.setFld DV_ITIN_STATUS_PENDING 0).modClusters (fun u => { u with armed := none }), ?_,
    State.fld_setFld_fits s (f := DV_ITIN_STATUS_PENDING) (by decide) (by decide), rfl, hstaged⟩
  show execActivationCancel s = _
  rw [execActivationCancel, harmed]
  dsimp only
  rw [if_neg (by simp [hahead]), hstaged, Option.map_some, Option.getD_some, hcurfews, List.foldl_nil]

theorem completes_activationCancel_late {s : State} {tick : Nat} (harmed : s.clusters.armed = some tick) (hahead : s.tickAhead tick = false) :
    Completes .activationCancel s (fun t => t.fld DV_ITIN_ERR_REFUSED = 1 ∧ t.clusters = s.clusters) := by
  refine ⟨s.itinRefuse, ?_, State.fld_raise_same _ _ (by decide), rfl⟩
  show execActivationCancel s = _
  rw [execActivationCancel, harmed]
  dsimp only
  rw [if_pos (by simp [hahead])]

/-! ### The image comes into force (R303) -/

/-- No core has a launch or work of a former image. -/
def Unlaunched (s : State) : Prop := ∀ k ∈ s.clusters.cores, k.oldWork = false ∧ k.launch = none

theorem Unlaunched.core {s : State} (h : Unlaunched s) (c : Nat) : (s.core c).oldWork = false ∧ (s.core c).launch = none := by
  rw [State.core, List.getD_eq_getElem?_getD]
  cases hc : s.clusters.cores[c]? with
  | none => exact ⟨rfl, rfl⟩
  | some k => exact h k (List.mem_of_getElem? hc)

theorem State.map_modCore {α : Type} {g : Core → α} {f : Core → Core} (s : State) (h : ∀ k, g (f k) = g k) (c : Nat) :
    (s.modCore c f).clusters.cores.map g = s.clusters.cores.map g := map_modifyAt h _ _

theorem Unlaunched.modCore {s : State} (h : Unlaunched s) {f : Core → Core}
    (hf : ∀ k : Core, k.oldWork = false ∧ k.launch = none → (f k).oldWork = false ∧ (f k).launch = none) (c : Nat) : Unlaunched (s.modCore c f) := by
  intro k hk
  rcases mem_modifyAt hk with hk | ⟨y, hy, rfl⟩
  · exact h k hk
  · exact hf y (h y hy)

theorem Unlaunched.modSlot {s : State} (h : Unlaunched s) (c n : Nat) (g : Slot → Slot) : Unlaunched (s.modSlot c n g) :=
  h.modCore (f := fun k => { k with slots := modifyAt g n k.slots }) (fun _ hk => hk) c

theorem State.map_modSlot (s : State) (c n : Nat) (g : Slot → Slot) :
    (s.modSlot c n g).clusters.cores.map (·.front) = s.clusters.cores.map (·.front) :=
  s.map_modCore (f := fun k => { k with slots := modifyAt g n k.slots }) (fun _ => rfl) c

theorem State.applyEnable_clusters (s : State) (c : Nat) : (s.applyEnable c).clusters = s.clusters := by
  unfold State.applyEnable
  dsimp only
  split <;> rfl

/-- The work of a core ends: it has no launch, no flags and no former work. -/
def Core.workEnded (k : Core) : Core := { k with launch := none, flags := 0, oldWork := false, gated := k.flags.testBit 36 }

/-- Where no core has a launch, the release of one after a FINAL firing touches its slot and its flags alone. -/
theorem Unlaunched.release {s : State} (h : Unlaunched s) (c : Nat) : Unlaunched (s.release c) ∧
    (s.release c).clusters.cores.map (·.front) = s.clusters.cores.map (·.front) := by
  have hwork : (s.core c).work.bound = false := by
    rw [Core.work, (h.core c).2]
    rfl
  have hend : ∀ u : State, Unlaunched u → Unlaunched ((u.modCore c Core.workEnded).applyEnable c) ∧
      ((u.modCore c Core.workEnded).applyEnable c).clusters.cores.map (·.front) = u.clusters.cores.map (·.front) := by
    intro u hu
    rw [Unlaunched, State.applyEnable_clusters]
    exact ⟨hu.modCore (fun _ _ => ⟨rfl, rfl⟩) c, u.map_modCore (f := Core.workEnded) (fun _ => rfl) c⟩
  unfold State.release
  dsimp only
  split
  · exact ⟨h, rfl⟩
  rw [hwork, if_neg Bool.false_ne_true]
  split
  · obtain ⟨hun, hfront⟩ := hend (s.modSlot c ((s.core c).xs.getD 0 0) (fun x => { x with phase := 0, work := none })) (h.modSlot c _ _)
    exact ⟨hun, hfront.trans (State.map_modSlot s c _ _)⟩
  · exact hend s h

theorem Unlaunched.settleCore {s : State} (h : Unlaunched s) (c : Nat) : Unlaunched (s.settleCore c) ∧
    (s.settleCore c).clusters.cores.map (·.front) = s.clusters.cores.map (·.front) := by
  have hrelease := h.release c
  have hold : s.settleCore c = s.release c := by
    rw [State.settleCore, State.settleOld]
    dsimp only
    exact if_pos (by rw [(hrelease.1.core c).1]; rfl)
  rw [hold]
  exact hrelease

/-- The state with every core settled. -/
def State.coresSettled (s : State) : State := (List.range 24).foldl (fun s c => s.settleCore c) s

/-- The state with the image in force in the cores, and the ATTENDs that its coming into force returns queued again. -/
def State.renewed (s : State) (im : Image) (t : Nat) : State :=
  (s.requeue (s.clusters.cores.flatMap Core.returned)).modClusters (fun u => { u with
    base := t, active := some im, staged := none, armed := none, cores := u.cores.zipIdx.map (fun x => x.1.renew x.2 im.slots) })

/-- The state with every binding undone, and the dockets of slots bound before or now cleared. -/
def State.bindingsCleared (s : State) (im : Image) (old : List Core) : State :=
  (List.range 384).foldl (fun s i =>
    let c := i / 16
    let n := i % 16
    let was := ((old.getD c coreReset).slots.getD n slotReset).bound
    let s' := s.setFld (CL_BIND_W0_VALID (c / 4) (i % 64)) 0
    if was || (slotEntry? im.slots c n).testBit 19 then s'.clearDocket c n else s') s

/-- The state with the clusters' share of duplicates and the status of activation shown. -/
def State.activationShown (s : State) (im : Image) : State :=
  ((((((List.range 6).foldl (fun s k => s.setFld (CL_DUP_FRACTION k) im.dup) s).setFld DV_ITIN_STATUS_PENDING 0).setFld DV_ITIN_STATUS_STAGED_OK
    0).raise DV_ITIN_STATUS_ACTIVE).setReg DV_ITIN_ACTIVE_ID (BitVec.ofNat 64 im.id))

/-- The state with each core's first firing shown and the image measured. -/
def State.firingsShown (s : State) (im : Image) : State :=
  (((List.range 24).foldl (fun s c => s.showFiring c (((s.core c).inForce.entries[0]?).getD (0, 0))) s).measure 7 im.digest im.id).modHost
    (fun h => { h with measured := h.measured.filter (fun m => m.1 != 7) ++ [(7, im.digest)] })

theorem exec_imageActivation_due {s : State} {im : Image} {tick : Nat} (harmed : s.clusters.armed = some tick) (hstaged : s.clusters.staged = some im)
    (hset : s.bellSet = true) (hdue : tick ≤ s.now) : exec .imageActivation s =
      .next ((((s.coresSettled.renewed im tick).bindingsCleared im s.coresSettled.clusters.cores).activationShown im).firingsShown im).retryAgents := by
  show Host.Outcome.next s.activate = _
  rw [State.activate, harmed, hstaged]
  dsimp only
  rw [if_neg (by simp [hset, hdue])]
  rfl

theorem State.coresSettled_unlaunched {s : State} (h : Unlaunched s) :
    s.coresSettled.clusters.cores.map (·.front) = s.clusters.cores.map (·.front) := by
  have hall : ∀ (l : List Nat) (u : State), Unlaunched u → Unlaunched (l.foldl (fun s c => s.settleCore c) u) ∧
      (l.foldl (fun s c => s.settleCore c) u).clusters.cores.map (·.front) = u.clusters.cores.map (·.front) := by
    intro l
    induction l with
    | nil => exact fun u hu => ⟨hu, rfl⟩
    | cons c l ih =>
      intro u hu
      obtain ⟨hnext, hfront⟩ := hu.settleCore c
      obtain ⟨hlast, hfronts⟩ := ih _ hnext
      exact ⟨hlast, hfronts.trans hfront⟩
  exact (hall _ s h).2

/-- What shows of the itinerary in the clusters: the image in force, what is staged and armed, and each core's place in it. -/
def itinerarySight (u : Clusters) : Nat × Option Image × Option Image × Option Nat × List (Nat × Nat × Nat × Nat × Nat) :=
  (u.base, u.active, u.staged, u.armed, u.cores.map (fun k => (k.front, k.entry, k.rep, k.pass, k.lnum)))

theorem itinerarySight_localWrite (s : State) (c a : Nat) (bs : List Byte) : itinerarySight (s.localWrite c a bs).clusters = itinerarySight s.clusters := by
  unfold State.localWrite
  split
  · exact congrArg (fun p => (s.clusters.base, s.clusters.active, s.clusters.staged, s.clusters.armed, p)) (s.map_modCore (f := fun k => { k with buf := sparseWrite 0 k.buf a bs }) (fun _ => rfl) c)
  · rfl

theorem itinerarySight_bindingsCleared (s : State) (im : Image) (old : List Core) :
    itinerarySight (s.bindingsCleared im old).clusters = itinerarySight s.clusters := by
  refine foldl_keeps (f := fun u : State => itinerarySight u.clusters) (fun u i => ?_) _ s
  dsimp only
  split
  · exact itinerarySight_localWrite _ _ _ _
  · rfl

theorem State.activationShown_clusters (s : State) (im : Image) : (s.activationShown im).clusters = s.clusters := by
  rw [State.activationShown, State.setReg_clusters, State.raise_clusters, State.setFld_clusters, State.setFld_clusters]
  exact foldl_keeps (fun u k => u.setFld_clusters _ _) _ s

theorem State.reg_showFiring (s : State) (c : Nat) (e : Nat × Nat) {o : Nat} (ho : o < 0x00800000) : (s.showFiring c e).reg o = s.reg o := by
  rw [State.showFiring, State.reg_setReg_other _ _ (by unfold CL_CORE_W1; omega), State.reg_setReg_other _ _ (by unfold CL_CORE_W0; omega)]

theorem State.firingsShown_within (s : State) (im : Image) : Within [.regs, .host] s (s.firingsShown im) :=
  within_modHost.andThen (by decide) (within_measure.andThen (by decide)
    (Within.foldl (fun _ _ => within_showFiring.mono (by decide)) _ (.refl _ _)))

theorem State.reg_firingsShown (s : State) (im : Image) {o : Nat} (ho : o < 0x00800000) : (s.firingsShown im).reg o = s.reg o := by
  rw [State.firingsShown, State.modHost_reg, within_measure.reg (by decide)]
  exact foldl_keeps (f := fun u : State => u.reg o) (fun u c => u.reg_showFiring c _ ho) _ s

/-- Each core's place under a new image: its other bank, and the first entry. -/
theorem itinerarySight_renewed (s : State) (im : Image) (t : Nat) : itinerarySight (s.renewed im t).clusters =
    (t, some im, none, none, (s.clusters.cores.map (·.front)).map (fun f => (1 - f, 0, 0, 0, 0))) := by
  have hmap : ∀ l : List Core, (l.zipIdx.map (fun x => x.1.renew x.2 im.slots)).map (fun k => (k.front, k.entry, k.rep, k.pass, k.lnum)) =
      (l.map (·.front)).map (fun f => (1 - f, 0, 0, 0, 0)) := by
    intro l
    apply List.ext_getElem
    · simp
    · intro i h1 h2
      simp [Core.renew]
  exact congrArg (fun p => (t, some im, none, none, p)) (hmap s.clusters.cores)

theorem completes_imageActivation {s : State} {im : Image} {tick : Nat} (harmed : s.clusters.armed = some tick) (hstaged : s.clusters.staged = some im)
    (hset : s.bellSet = true) (hdue : tick ≤ s.now) (hlen : s.clusters.cores.length = 24) (hidle : Unlaunched s) :
    Completes .imageActivation s (fun t => t.clusters.active = some im ∧ t.clusters.base = tick ∧ t.clusters.staged = none ∧ t.clusters.armed = none ∧
      t.fld DV_ITIN_STATUS_PENDING = 0 ∧ t.fld DV_ITIN_STATUS_STAGED_OK = 0 ∧ t.fld DV_ITIN_STATUS_ACTIVE = 1 ∧
      t.reg DV_ITIN_ACTIVE_ID = BitVec.ofNat 64 im.id ∧
      ∀ c < 24, (t.core c).front = 1 - (s.core c).front ∧ (t.core c).entry = 0 ∧ (t.core c).rep = 0 ∧ (t.core c).pass = 0 ∧ (t.core c).lnum = 0) := by
  refine ⟨_, exec_imageActivation_due harmed hstaged hset hdue, ?_⟩
  have hsight : itinerarySight ((s.coresSettled.renewed im tick).bindingsCleared im s.coresSettled.clusters.cores).clusters =
      (tick, some im, none, none, (s.clusters.cores.map (·.front)).map (fun f => (1 - f, 0, 0, 0, 0))) := by
    rw [itinerarySight_bindingsCleared, itinerarySight_renewed, State.coresSettled_unlaunched hidle]
  generalize (s.coresSettled.renewed im tick).bindingsCleared im s.coresSettled.clusters.cores = u at hsight ⊢
  have hreg : ∀ o, OffCore o → o < 0x00800000 → ((u.activationShown im).firingsShown im).retryAgents.reg o = (u.activationShown im).reg o :=
    fun o hoff ho => (State.reg_retryAgents hoff).trans (State.reg_firingsShown _ _ ho)
  have hfld : ∀ f : Fld, OffCore f.off → f.off < 0x00800000 → ((u.activationShown im).firingsShown im).retryAgents.fld f = (u.activationShown im).fld f :=
    fun f hoff ho => State.fld_eq_of_reg (hreg _ hoff ho)
  have hclusters : ((u.activationShown im).firingsShown im).retryAgents.clusters = u.clusters :=
    (within_retryAgents.same .clusters (by decide)).trans (((State.firingsShown_within _ im).same .clusters (by decide)).trans
      (u.activationShown_clusters im))
  have hoff : OffCore DV_ITIN_STATUS := offCore_of_lt (by decide)
  obtain ⟨hbase, hactive, hstaged', harmed', hcores⟩ : u.clusters.base = tick ∧ u.clusters.active = some im ∧ u.clusters.staged = none ∧
      u.clusters.armed = none ∧ u.clusters.cores.map (fun k => (k.front, k.entry, k.rep, k.pass, k.lnum)) =
        (s.clusters.cores.map (·.front)).map (fun f => (1 - f, 0, 0, 0, 0)) := by
    simpa [itinerarySight] using hsight
  refine ⟨by rw [hclusters, hactive], by rw [hclusters, hbase], by rw [hclusters, hstaged'], by rw [hclusters, harmed'], ?_, ?_, ?_, ?_, ?_⟩
  · rw [hfld _ hoff (by decide), State.activationShown, State.fld_setReg_off _ _ _ _ (by decide), State.fld_raise_apart _ _ _ (by decide),
      State.fld_setFld_apart _ _ _ _ (by decide)]
    exact State.fld_setFld_fits _ (by decide) (by decide)
  · rw [hfld _ hoff (by decide), State.activationShown, State.fld_setReg_off _ _ _ _ (by decide), State.fld_raise_apart _ _ _ (by decide)]
    exact State.fld_setFld_fits _ (by decide) (by decide)
  · rw [hfld _ hoff (by decide), State.activationShown, State.fld_setReg_off _ _ _ _ (by decide)]
    exact State.fld_raise_same _ _ (by decide)
  · rw [hreg _ (offCore_of_lt (by decide)) (by decide), State.activationShown]
    exact State.reg_setReg_same _ _ _
  · intro c hc
    have hlen' : u.clusters.cores.length = 24 := by simpa [hlen] using congrArg List.length hcores
    have hat := congrArg (fun l => l[c]?) hcores
    rw [State.core, State.core, hclusters]
    simp only [List.getElem?_map, List.getElem?_eq_getElem (hlen' ▸ hc), List.getElem?_eq_getElem (hlen ▸ hc), Option.map_some, Option.some.injEq,
      Prod.mk.injEq] at hat
    rw [List.getD_eq_getElem _ _ (hlen' ▸ hc), List.getD_eq_getElem _ _ (hlen ▸ hc)]
    exact hat

theorem exec_imageActivation_early {s : State} {tick : Nat} (harmed : s.clusters.armed = some tick) (hearly : s.now < tick) :
    exec .imageActivation s = .next s := by
  show Host.Outcome.next s.activate = _
  rw [State.activate, harmed]
  cases s.clusters.staged with
  | none => rfl
  | some im => exact congrArg _ (if_pos (.inr hearly))

/-- Settles O35, by one lemma for each command and outcome. -/
theorem imagesComplete : Obligations.ImagesComplete := by
  unfold Obligations.ImagesComplete
  refine ⟨fun s hbusy hpending hold => completes_verify hbusy hpending hold, fun s h => completes_verify_busy h, fun s code h hcode => ?_,
    fun s code banks h hcode hlen hcores => ?_, fun s im banks h hlen hcores => ?_,
    fun s im tick hcode hstaged hcurfews htick => completes_activationArm hcode hstaged hcurfews htick,
    fun s tick hcode => completes_activationArm_refused hcode, fun s tick h => armCode_near h, fun s tick h hmod => armCode_off h hmod,
    fun s tick h hmod hok => armCode_unstaged h hmod hok,
    fun s im tick harmed hahead hstaged hcurfews => completes_activationCancel harmed hahead hstaged hcurfews,
    fun s tick harmed hahead => completes_activationCancel_late harmed hahead,
    fun s im tick harmed hstaged hset hdue hlen _ hidle =>
      completes_imageActivation harmed hstaged hset hdue hlen (fun k hk => ⟨(hidle k hk).1, (hidle k hk).2.1⟩),
    fun s tick harmed hearly => ⟨s, exec_imageActivation_early harmed hearly, rfl⟩⟩
  · obtain ⟨t, hexec, hbusy, herr, hfail, hnone, hclusters⟩ := completes_verifyDone_fails h hcode
    exact ⟨t, hexec, hbusy, herr, hfail, hnone, hclusters.trans (State.loadShadows_nil _)⟩
  · obtain ⟨t, hexec, -, herr, hfail, -, hclusters⟩ := completes_verifyDone_fails h hcode
    refine ⟨t, hexec, herr, hfail, by rw [hclusters]; rfl, by rw [hclusters]; rfl, fun c hc => ?_⟩
    rw [State.core, hclusters]
    exact State.core_checked hlen hcores hc
  · obtain ⟨t, hexec, hbusy, hok, hid, hclusters⟩ := completes_verifyDone_passes h
    refine ⟨t, hexec, hbusy, hok, hid, by rw [hclusters], by rw [hclusters]; rfl, fun c hc => ?_⟩
    rw [State.core, hclusters]
    exact State.core_checked hlen hcores hc

end Sys2Proof.Machine
end

section
/-! PROOF. O47: the commands of power, bell time, stopover, health and itineraries change only the registers named. The rules for what one operation may
change stand first. -/

-- Proofs are checked one at a time: side by side they would only wait for one another.
set_option Elab.async false

namespace Sys2Proof.Machine
open Sys2Proof

/-! ### Registers changed at the offsets listed alone -/

/-- `t` has the registers of `s` but for those at the offsets listed. -/
structure RegsIn (offs : List Nat) (s t : State) : Prop where
  reg : ∀ a, a ∉ offs → t.reg a = s.reg a

/-- An outcome that, where it is a next state, changes no register but those at the offsets listed. -/
structure RegsOut (offs : List Nat) (s : State) (o : Host.Outcome State Fault Refusal) : Prop where
  keeps : OnlyRegs offs s o

theorem RegsOut.next {offs : List Nat} {s u : State} (h : RegsIn offs s u) : RegsOut offs s (.next u) := by
  refine ⟨fun t hnext => ?_⟩
  obtain rfl : u = t := by injection hnext
  exact h.reg

/-- The registers that show the power cap. -/
def capRegs : List Nat := PH_CAP :: (List.range 14).map PH_BLOCK

section
variable {offs : List Nat} {s t : State}

theorem RegsIn.refl : RegsIn offs s s := ⟨fun _ _ => rfl⟩

theorem RegsIn.trans {u : State} (h : RegsIn offs s t) (h' : RegsIn offs t u) : RegsIn offs s u :=
  ⟨fun a ha => (h'.reg a ha).trans (h.reg a ha)⟩

theorem RegsIn.mono {offs' : List Nat} (hsub : ∀ o ∈ offs', o ∈ offs) (h : RegsIn offs' s t) : RegsIn offs s t :=
  ⟨fun a ha => h.reg a (fun h' => ha (hsub a h'))⟩

theorem RegsIn.within {ps : List Part} {u : State} (hp : Part.regs ∉ ps) (hw : Within ps t u) (h : RegsIn offs s t) : RegsIn offs s u :=
  ⟨fun a ha => (hw.reg hp a).trans (h.reg a ha)⟩

variable (h : RegsIn offs s t)
include h

theorem RegsIn.setRegOf {o : Nat} {v : Word} (ho : o ∈ offs) : RegsIn offs s (t.setReg o v) :=
  ⟨fun a ha => (t.reg_setReg_other v (fun he => ha (by rw [he]; exact ho))).trans (h.reg a ha)⟩

theorem RegsIn.setReg {o : Nat} {v : Word} (i : Nat := 0) (ho : offs[i]? = some o := by rfl) : RegsIn offs s (t.setReg o v) :=
  h.setRegOf (List.mem_of_getElem? ho)

theorem RegsIn.setFldOf {f : Fld} {v : Nat} (ho : f.off ∈ offs) : RegsIn offs s (t.setFld f v) :=
  ⟨fun a ha => (t.reg_setFld_other f v (fun he => ha (by rw [he]; exact ho))).trans (h.reg a ha)⟩

theorem RegsIn.setFld {f : Fld} {v : Nat} (i : Nat := 0) (ho : offs[i]? = some f.off := by rfl) : RegsIn offs s (t.setFld f v) :=
  h.setFldOf (List.mem_of_getElem? ho)

theorem RegsIn.raiseOf {f : Fld} (ho : f.off ∈ offs) : RegsIn offs s (t.raise f) :=
  ⟨fun a ha => (t.reg_raise_other f (fun he => ha (by rw [he]; exact ho))).trans (h.reg a ha)⟩

theorem RegsIn.raise {f : Fld} (i : Nat := 0) (ho : offs[i]? = some f.off := by rfl) : RegsIn offs s (t.raise f) :=
  h.raiseOf (List.mem_of_getElem? ho)

theorem RegsIn.setRegBit {o n : Nat} {b : Bool} (i : Nat := 0) (ho : offs[i]? = some o := by rfl) : RegsIn offs s (t.setRegBit o n b) :=
  ⟨fun a ha => (t.reg_setRegBit_other n b (fun he => ha (by rw [he]; exact List.mem_of_getElem? ho))).trans (h.reg a ha)⟩

theorem RegsIn.count {o : Nat} (i : Nat := 0) (ho : offs[i]? = some o := by rfl) : RegsIn offs s (t.count o) := h.setReg i ho

theorem RegsIn.writePlain {o value : Nat} (i : Nat := 0) (ho : offs[i]? = some o := by rfl) : RegsIn offs s (t.writePlain o value) := h.setReg i ho

theorem RegsIn.foldl {α : Type} {g : State → α → State} {l : List α} (hstep : ∀ u, ∀ x ∈ l, RegsIn offs s u → RegsIn offs s (g u x)) :
    RegsIn offs s (l.foldl g t) := by
  induction l generalizing t with
  | nil => exact h
  | cons x l ih => exact ih (hstep t x (.head _) h) (fun u y hy => hstep u y (.tail _ hy))

theorem RegsIn.modOut {g : Output → Output} : RegsIn offs s (t.modOut g) := ⟨h.reg⟩

theorem RegsIn.modPower {g : Power → Power} : RegsIn offs s (t.modPower g) := ⟨h.reg⟩

theorem RegsIn.modBell {g : BellUnit → BellUnit} : RegsIn offs s (t.modBell g) := ⟨h.reg⟩

theorem RegsIn.modSw {g : Switch → Switch} : RegsIn offs s (t.modSw g) := ⟨h.reg⟩

theorem RegsIn.modTally {g : Tally → Tally} : RegsIn offs s (t.modTally g) := ⟨h.reg⟩

theorem RegsIn.modMem {g : MemUnit → MemUnit} : RegsIn offs s (t.modMem g) := ⟨h.reg⟩

theorem RegsIn.modStays {g : StayUnit → StayUnit} : RegsIn offs s (t.modStays g) := ⟨h.reg⟩

theorem RegsIn.modClusters {g : Clusters → Clusters} : RegsIn offs s (t.modClusters g) := ⟨h.reg⟩

theorem RegsIn.modHealth {g : Health → Health} : RegsIn offs s (t.modHealth g) := ⟨h.reg⟩

theorem RegsIn.modHost {g : HostUnit → HostUnit} : RegsIn offs s (t.modHost g) := ⟨h.reg⟩

theorem RegsIn.modPort {p : Nat} {g : PortCtl → PortCtl} : RegsIn offs s (t.modPort p g) := ⟨h.reg⟩

theorem RegsIn.modCore {c : Nat} {g : Core → Core} : RegsIn offs s (t.modCore c g) := ⟨h.reg⟩

theorem RegsIn.mctpReply {cmd code : Nat} {rest : List Byte} : RegsIn offs s (t.mctpReply cmd code rest) := ⟨h.reg⟩

theorem RegsIn.setPhase {p : Nat} (i : Nat := 0) (ho : offs[i]? = some DV_STATE := by rfl) : RegsIn offs s (t.setPhase p) :=
  ⟨fun a ha => (t.reg_setPhase_other p a (fun he => ha (by rw [he]; exact List.mem_of_getElem? ho))).trans (h.reg a ha)⟩

theorem RegsIn.showCap (hcap : ∀ o ∈ capRegs, o ∈ offs := by decide) : RegsIn offs s t.showCap :=
  (h.setFldOf (f := PH_CAP_MODE_IN_FORCE) (hcap _ (.head _))).foldl (fun _ b hb hu => hu.setFldOf (f := PH_BLOCK_LIMIT b)
    (hcap _ (.tail _ (List.mem_map_of_mem (f := PH_BLOCK) hb))))

theorem RegsIn.choice {k : Nat} (hk : k < 8 := by decide) (hc : ∀ o ∈ choiceRegs, o ∈ offs := by decide) : RegsIn offs s (t.choice k) :=
  ⟨fun a ha => (State.reg_choice (fun h' => ha (hc a h')) hk).trans (h.reg a ha)⟩

theorem RegsIn.openWindow (hc : ∀ o ∈ choiceRegs, o ∈ offs := by decide) : RegsIn offs s t.openWindow :=
  ⟨fun a ha => (State.reg_openWindow (fun h' => ha (hc a h'))).trans (h.reg a ha)⟩

end

/-! ### The power input (R30, R443, R452 to R456) -/

theorem onlyRegs_inputSwitchClose (s : State) : OnlyRegs (DV_STATE :: capRegs) s (exec .inputSwitchClose s) := by
  refine RegsOut.keeps (o := execInputSwitchClose s) ?_
  unfold execInputSwitchClose
  split
  · exact .next (.setPhase (.showCap (.modHost (.modPower .refl)))
     )
  · exact .next .refl

theorem RegsIn.seeInput {offs : List Nat} {s t : State} {vin ago : Nat} (h : RegsIn offs s t) (i : Nat := 0)
    (ho : offs[i]? = some PH_INPUT := by rfl) : RegsIn offs s (t.seeInput vin ago) := by
  unfold State.seeInput
  exact .modPower (h.setFld i ho)

theorem RegsIn.inputEvent {offs : List Nat} {s t : State} {f : Fld} {vin : Nat} (h : RegsIn offs s t) (ho : offs[0]? = some PH_INPUT := by rfl)
    (hf : offs[1]? = some f.off := by rfl) : RegsIn offs s (t.inputEvent f vin) := (h.raise 1 hf).seeInput 0 ho

theorem onlyRegs_inputLow (s : State) (vin : Nat) : OnlyRegs ([PH_INPUT, PH_INPUT_EVENT] ++ capRegs) s (exec (.inputLow vin) s) := by
  refine RegsOut.keeps (o := execInputLow vin s) ?_
  unfold execInputLow
  split
  · exact .next .refl
  split
  · exact .next (.seeInput .refl)
  · exact .next (.showCap (.modPower (.inputEvent .refl)))

theorem onlyRegs_inputRecovered (s : State) (vin : Nat) : OnlyRegs ([PH_INPUT] ++ capRegs) s (exec (.inputRecovered vin) s) := by
  refine RegsOut.keeps (o := execInputRecovered vin s) ?_
  unfold execInputRecovered
  split
  · exact .next .refl
  · exact .next (.showCap (.modPower (.seeInput .refl)))

theorem onlyRegs_surge (s : State) (vin : Nat) : OnlyRegs [PH_INPUT, PH_INPUT_EVENT] s (exec (.surge vin) s) := by
  refine RegsOut.keeps (o := execSurge vin s) ?_
  unfold execSurge
  split
  · exact .next .refl
  · exact .next (.inputEvent .refl)

theorem onlyRegs_reverse (s : State) (vin : Nat) : OnlyRegs [PH_INPUT, PH_INPUT_EVENT] s (exec (.reverse vin) s) := by
  refine RegsOut.keeps (o := execReverse vin s) ?_
  unfold execReverse
  split
  · exact .next .refl
  · exact .next (.inputEvent .refl)

theorem onlyRegs_capModeWrite (s : State) (value : Nat) : OnlyRegs capRegs s (exec (.capModeWrite value) s) := by
  refine RegsOut.keeps ?_
  exact .next (.showCap (.writePlain .refl))

theorem onlyRegs_clockWrite (s : State) (value : Nat) : OnlyRegs [PH_CLOCK] s (exec (.clockWrite value) s) := by
  refine RegsOut.keeps (o := execClockWrite value s) ?_
  unfold execClockWrite
  dsimp only
  split
  · exact .next .refl
  · exact .next (.modPower (.raise (.setFld .refl)))

theorem onlyRegs_clockChange (s : State) : OnlyRegs (PH_CLOCK :: choiceRegs) s (exec .clockChange s) := by
  refine RegsOut.keeps (o := execClockChange s) ?_
  unfold execClockChange
  split
  · exact .next .refl
  split
  · exact .next .refl
  · exact .next (.foldl (.modPower (.setFld (.setFld .refl)))
      (fun _ _ _ hu => hu.choice))

/-! ### Start-up and bell time (R29, R38, R39, R46, R47, R50, R58) -/

theorem onlyRegs_railsStable (s : State) : OnlyRegs [DV_STATE] s (exec .railsStable s) := by
  refine RegsOut.keeps (o := execRailsStable s) ?_
  unfold execRailsStable
  split
  · exact .next (.setPhase .refl)
  · exact .next .refl

theorem onlyRegs_tileCalibrationDone (s : State) (tile : Nat) : OnlyRegs [DV_STATE] s (exec (.tileCalibrationDone tile) s) := by
  refine RegsOut.keeps (o := execTileCalibrationDone tile s) ?_
  unfold execTileCalibrationDone
  split
  · exact .next .refl
  · exact .next (.setRegBit .refl)

theorem onlyRegs_vacancyThreadDone (s : State) : OnlyRegs [SW_POOL_STATUS, TL_STATUS] s (exec .vacancyThreadDone s) := by
  refine RegsOut.keeps (o := execVacancyThreadDone s) ?_
  unfold execVacancyThreadDone
  split
  · exact .next (.setFld (.setFld (.setFld (.modTally (.modSw .refl)))) 1)
  · exact .next .refl

/-- The state with an island back in the muster, before agents try again. -/
def State.islandBack (s : State) (i : Nat) : State :=
  (s.setRegBit BT_MUSTER_OUT i false).setFld BT_STATUS_ISLANDS_OUT (s.fld BT_STATUS_ISLANDS_OUT - 1)

theorem exec_remusterDone (s : State) (i : Nat) : exec (.remusterDone i) s =
    .next (if s.regBit BT_MUSTER_OUT i then (s.islandBack i).retryAgents else s) := by
  show execRemusterDone i s = _
  unfold execRemusterDone
  split <;> rfl

theorem regsIn_islandBack (s : State) (i : Nat) : RegsIn [BT_MUSTER_OUT, BT_STATUS] s (s.islandBack i) :=
  RegsIn.setFld (f := BT_STATUS_ISLANDS_OUT) (.setRegBit .refl) 1

theorem onlyRegs_remusterDone {s : State} (hcalm : Calm s) (i : Nat) : OnlyRegs [BT_MUSTER_OUT, BT_STATUS] s (exec (.remusterDone i) s) := by
  rw [exec_remusterDone]
  refine RegsOut.keeps ?_
  split
  · rw [Calm.retryAgents (s := s.islandBack i) (hcalm.congr rfl rfl)]
    exact .next (regsIn_islandBack s i)
  · exact .next .refl

theorem onlyBlocks_remusterDone (s : State) (i : Nat) :
    OnlyBlocks [(0x00200000, 0x00400000)] ([BT_MUSTER_OUT, BT_STATUS] ++ choiceRegs) s (exec (.remusterDone i) s) := by
  rw [exec_remusterDone]
  intro t hnext a hblock ha
  obtain rfl : (if s.regBit BT_MUSTER_OUT i then (s.islandBack i).retryAgents else s) = t := by injection hnext
  rw [List.mem_append, not_or] at ha
  split
  · exact (State.reg_retryAgents ⟨hblock _ (List.mem_singleton_self _), ha.2⟩).trans ((regsIn_islandBack s i).reg a ha.1)
  · rfl

theorem onlyRegs_setCoord (s : State) (c x y z : Nat) : OnlyRegs [DV_COORD, BT_STATUS] s (exec (.setCoord c x y z) s) := by
  refine RegsOut.keeps (o := execSetCoord c x y z s) ?_
  unfold execSetCoord
  split
  · exact .next .refl
  split
  · exact .next (.mctpReply .refl)
  split
  · exact .next (.mctpReply .refl)
  · exact .next (.mctpReply (.setFld (.setFld (.setFld (.setFld (.setFld (.raise .refl))))
     ) 1))

theorem onlyRegs_setRoot (s : State) (c p src : Nat) : OnlyRegs [BT_ROOT, BT_STATUS] s (exec (.setRoot c p src) s) := by
  refine RegsOut.keeps (o := execSetRoot c p src s) ?_
  unfold execSetRoot
  split
  · exact .next .refl
  split
  · exact .next (.mctpReply .refl)
  split
  · exact .next (.mctpReply .refl)
  · exact .next (.mctpReply (.setFld (.setFld (.setFld (.setFld (.setFld (.setFld .refl))))
     ) 1))

theorem onlyRegs_choiceWindowWrite_start (s : State) (tick : Nat) : OnlyRegs [BT_RUN_START, BT_TIMED_ERR] s (exec (.choiceWindowWrite false tick) s) := by
  refine RegsOut.keeps (o := execChoiceWindowWrite false tick s) ?_
  unfold execChoiceWindowWrite
  split
  · exact .next (.raise .refl 1)
  · have hset : RegsIn [BT_RUN_START, BT_TIMED_ERR] s (s.setReg BT_RUN_START (BitVec.ofNat 64 tick)) := .setReg .refl
    exact .next (u := { s.setReg BT_RUN_START (BitVec.ofNat 64 tick) with windowArmed := true }) ⟨hset.reg⟩

theorem onlyRegs_choiceWindowWrite_end (s : State) (tick : Nat) : OnlyRegs [BT_RUN_END, BT_TIMED_ERR] s (exec (.choiceWindowWrite true tick) s) := by
  refine RegsOut.keeps (o := execChoiceWindowWrite true tick s) ?_
  unfold execChoiceWindowWrite
  split
  · exact .next (.raise .refl 1)
  · exact .next (u := s.setReg BT_RUN_END (BitVec.ofNat 64 tick)) (.setReg .refl)

theorem onlyRegs_choiceWindowOpen (s : State) : OnlyRegs choiceRegs s (exec .choiceWindowOpen s) := by
  rw [exec_choiceWindowOpen]
  refine RegsOut.keeps ?_
  split
  · exact .next (.openWindow .refl)
  · exact .next .refl

/-! ### The forced step (R46) -/

theorem onlyRegs_forceStep_refused {s : State} (h : s.bell.parent = none ∨ s.isRoot = true ∨ s.bellSet = false) :
    OnlyRegs [BT_TIMED_ERR] s (exec .forceStep s) := by
  refine RegsOut.keeps (o := execForceStep s) ?_
  have hrefused : RegsOut [BT_TIMED_ERR] s (.next (s.raise BT_TIMED_ERR_STEP_REFUSED)) := .next (.raise .refl)
  unfold execForceStep
  dsimp only
  split
  · exact hrefused
  next d hd =>
    rw [if_pos]
    · exact hrefused
    · rcases h with h | h | h
      · rw [h] at hd
        contradiction
      · exact .inr (.inl h)
      · exact .inl (by simp [h])

/-- No image is in force or armed, and no tally is claimed: of the timed actions only curfew switchovers and wakes are left. -/
def NoImage (s : State) : Prop := s.clusters.active = none ∧ s.clusters.armed = none ∧ s.tally.ctxs = []

theorem State.localWrite_active (s : State) (c a : Nat) (bs : List Byte) : (s.localWrite c a bs).clusters.active = s.clusters.active := by
  unfold State.localWrite
  split <;> rfl

theorem State.settleCore_active (s : State) (c : Nat) : (s.settleCore c).clusters.active = s.clusters.active := by
  have hrelease : (s.release c).clusters.active = s.clusters.active := by
    unfold State.release
    dsimp only
    split
    · rfl
    rw [State.applyEnable_clusters]
    have happend : ∀ l, (s.prefillAppend c l).clusters.active = s.clusters.active := fun l =>
      congrArg Clusters.active (within_prefillAppend.same .clusters (by decide))
    have hcleared : ∀ (bound append : Bool) (l : Launch) (n : Nat),
        (if bound then (if append then s.prefillAppend c l else s).clearDocket c n else s).clusters.active = s.clusters.active := by
      intro bound append l n
      split
      · rw [State.clearDocket, State.localWrite_active]
        split
        · exact happend l
        · rfl
      · rfl
    split <;> exact hcleared _ _ _ _
  have hold : ∀ u : State, (u.settleOld c).clusters.active = u.clusters.active := by
    intro u
    unfold State.settleOld
    dsimp only
    split
    · rfl
    rw [State.applyEnable_clusters]
    split <;> rfl
  rw [State.settleCore, hold, hrelease]

theorem nextFiring_none {s : State} (h : s.clusters.active = none) (c kind : Nat) : s.nextFiring c kind = none := by
  unfold State.nextFiring
  dsimp only
  split
  · rfl
  · rw [if_neg (by simp [h])]

theorem mem_of_firstTimed {l : List (Nat × TimedAct)} {x : Nat × TimedAct} (h : firstTimed l = some x) : x ∈ l := by
  induction l with
  | nil => contradiction
  | cons y l ih =>
    rw [firstTimed] at h
    split at h
    · rw [Option.some.inj h]
      exact .head _
    · split at h
      next z hz _ =>
        exact .tail _ (ih (hz.trans h))
      · rw [Option.some.inj h]
        exact .head _

theorem NoImage.skippedActs {s : State} (h : NoImage s) {x : Nat × TimedAct} (hx : x ∈ s.skippedActs) :
    ∃ p < 256, x.2 = .curfew p ∨ x.2 = .wake p := by
  obtain ⟨hactive, harmed, hctxs⟩ := h
  have hfire : ∀ c, s.firingNow c = none := by
    intro c
    rw [State.firingNow, nextFiring_none hactive, nextFiring_none ((s.settleCore_active c).trans hactive), nextFiring_none ((s.settleCore_active c).trans hactive)]
  rw [State.skippedActs, List.mem_filter] at hx
  simp only [harmed, hctxs, hfire, List.flatMap_nil, List.nil_append, Option.map_none, List.filterMap_none, List.mem_append, List.mem_map,
    List.mem_filter, List.mem_range] at hx
  obtain ⟨⟨p, ⟨hp, -⟩, rfl⟩ | ⟨p, ⟨hp, -⟩, rfl⟩, -⟩ := hx
  · exact ⟨p, hp, .inl rfl⟩
  · exact ⟨p, hp, .inr rfl⟩

/-- The registers of the ports' curfews. -/
def curfewRegs : List Nat := (List.range 256).flatMap (fun p => [SW_CURFEW_CTL p, SW_CURFEW_RUN p])

theorem ctl_mem_curfewRegs {p : Nat} (h : p < 256) : SW_CURFEW_CTL p ∈ curfewRegs := List.mem_flatMap.2 ⟨p, List.mem_range.2 h, .head _⟩

theorem run_mem_curfewRegs {p : Nat} (h : p < 256) : SW_CURFEW_RUN p ∈ curfewRegs := List.mem_flatMap.2 ⟨p, List.mem_range.2 h, .tail _ (.head _)⟩

theorem RegsIn.switchover {offs : List Nat} {s t : State} {p : Nat} (h : RegsIn offs s t) (hctl : SW_CURFEW_CTL p ∈ offs) (hrun : SW_CURFEW_RUN p ∈ offs) :
    RegsIn offs s (t.switchover p) := by
  unfold State.switchover
  refine .modSw (.setRegOf (.setFldOf (.raiseOf (.setFldOf (h.within (by decide) within_touchShapersWith) ?_) ?_) ?_) hrun)
  all_goals exact hctl

theorem RegsIn.switchDue {offs : List Nat} {s t : State} {p : Nat} (h : RegsIn offs s t) (hc : ∀ o ∈ choiceRegs, o ∈ offs) (hctl : SW_CURFEW_CTL p ∈ offs)
    (hrun : SW_CURFEW_RUN p ∈ offs) : RegsIn offs s (t.switchDue p) := by
  unfold State.switchDue
  dsimp only
  split
  · split
    · exact (h.choice (by decide) hc).switchover hctl hrun
    · exact h.switchover hctl hrun
  · exact h

theorem RegsIn.wakeDue {offs : List Nat} {s t : State} {p : Nat} (h : RegsIn offs s t) (hc : ∀ o ∈ choiceRegs, o ∈ offs) : RegsIn offs s (t.wakeDue p) := by
  unfold State.wakeDue
  dsimp only
  split
  · exact (h.choice (by decide) hc).within (by decide) within_startWake
  split
  · exact h.within (by decide) within_startWake
  · exact h

theorem NoImage.within {ps : List Part} {s t : State} (h : NoImage s) (hw : Within ps s t) (hclusters : Part.clusters ∉ ps) (htally : Part.tally ∉ ps) :
    NoImage t := by
  have h1 : t.clusters = s.clusters := hw.same .clusters hclusters
  have h2 : t.tally = s.tally := hw.same .tally htally
  rwa [NoImage, h1, h2]

/-- The registers that a forced step may change where no image is in force. -/
def stepRegs : List Nat := [BT_TIMED_ERR] ++ choiceRegs ++ curfewRegs

theorem choice_mem_stepRegs : ∀ o ∈ choiceRegs, o ∈ stepRegs := fun _ ho => .tail _ (List.mem_append_left _ ho)

theorem curfew_mem_stepRegs {o : Nat} (ho : o ∈ curfewRegs) : o ∈ stepRegs := .tail _ (List.mem_append_right _ ho)

theorem NoImage.runTimed {s t : State} (h : NoImage t) (hreg : RegsIn stepRegs s t) {act : TimedAct} {p : Nat} (hp : p < 256)
    (hact : act = .curfew p ∨ act = .wake p) : NoImage (t.runTimed act) ∧ RegsIn stepRegs s (t.runTimed act) := by
  rcases hact with rfl | rfl
  · exact ⟨h.within within_switchDue (by decide) (by decide), hreg.switchDue choice_mem_stepRegs (curfew_mem_stepRegs (ctl_mem_curfewRegs hp))
      (curfew_mem_stepRegs (run_mem_curfewRegs hp))⟩
  · exact ⟨h.within within_wakeDue (by decide) (by decide), hreg.wakeDue choice_mem_stepRegs⟩

theorem NoImage.fireSkipped {s : State} (n : Nat) {t : State} (h : NoImage t) (hreg : RegsIn stepRegs s t) : RegsIn stepRegs s (State.fireSkipped n t) := by
  induction n generalizing t with
  | zero => exact hreg
  | succ n ih =>
    rw [State.fireSkipped]
    split
    · exact hreg
    next x hx =>
      obtain ⟨p, hp, hact⟩ := h.skippedActs (mem_of_firstTimed hx)
      obtain ⟨hnext, hregs⟩ := h.runTimed hreg hp hact
      exact ih hnext hregs

theorem onlyRegs_forceStep {s : State} (h : NoImage s) : OnlyRegs stepRegs s (exec .forceStep s) := by
  refine RegsOut.keeps (o := execForceStep s) ?_
  have hrefused : RegsOut stepRegs s (.next (s.raise BT_TIMED_ERR_STEP_REFUSED)) := .next (.raise .refl)
  unfold execForceStep
  dsimp only
  split
  · exact hrefused
  split
  · exact hrefused
  · refine .next (NoImage.fireSkipped _ ?_ (.choice (.modBell .refl) (by decide) choice_mem_stepRegs))
    exact NoImage.within (s := s.modBell _) h within_choice (by decide) (by decide)

/-! ### Stopover, proof suites, health and images (R301, R407 to R412) -/

theorem onlyRegs_quiesceDone (s : State) (busy : List (Nat × Nat)) : OnlyRegs [PH_STOP_STATUS] s (exec (.quiesceDone busy) s) := by
  refine RegsOut.keeps (o := execQuiesceDone s busy) ?_
  unfold execQuiesceDone
  split
  · exact .next (.modHealth (.setFld .refl))
  · exact .next .refl

theorem onlyRegs_stopTickArm (s : State) (tick : Nat) : OnlyRegs [PH_ERR, PH_STOP_STATUS, PH_STOP_TICK] s (exec (.stopTickArm tick) s) := by
  refine RegsOut.keeps (o := execStopTickArm tick s) ?_
  unfold execStopTickArm
  split
  · exact .next (.raise .refl)
  have hset : RegsIn [PH_ERR, PH_STOP_STATUS, PH_STOP_TICK] s ((s.setReg PH_STOP_TICK (BitVec.ofNat 64 tick)).modHealth (fun h => { h with stopArmed := true })) :=
    .modHealth (.setReg .refl 2)
  refine .next ?_
  split
  · exact hset.setFld 1
  · exact hset

theorem onlyRegs_stopoverCancel (s : State) : OnlyRegs [PH_ERR, PH_STOP_STATUS] s (exec .stopoverCancel s) := by
  refine RegsOut.keeps (o := execStopoverCancel s) ?_
  unfold execStopoverCancel
  split
  · exact .next .refl
  split
  · exact .next (.raise .refl)
  refine .next ?_
  split
  · exact .setFld (.modHealth .refl) 1
  · exact .modHealth .refl

theorem onlyRegs_proofGo (s : State) (value : Nat) : OnlyRegs [PH_ERR, PH_PROOF_CTRL, PH_PROOF_STATUS] s (exec (.proofGo value) s) := by
  refine RegsOut.keeps (o := execProofGo value s) ?_
  have hwrite : RegsIn [PH_ERR, PH_PROOF_CTRL, PH_PROOF_STATUS] s (s.writePlain PH_PROOF_CTRL value) := .writePlain .refl 1
  unfold execProofGo
  dsimp only
  split
  · exact .next hwrite
  split
  · exact .next (hwrite.foldl (fun _ _ _ hu => .raise (.modCore hu) 2))
  · exact .next (hwrite.raise)

theorem onlyRegs_proofAutoStart (s : State) (core : Nat) : OnlyRegs [PH_PROOF_STATUS] s (exec (.proofAutoStart core) s) := by
  refine RegsOut.keeps (o := execProofAutoStart core s) ?_
  unfold execProofAutoStart
  dsimp only
  split
  · exact .next (.raise (.modCore .refl))
  · exact .next .refl

theorem onlyRegs_riskHistoryAppend (s : State) : OnlyRegs [PH_HEALTH] s (exec .riskHistoryAppend s) := by
  refine RegsOut.keeps ?_
  exact .next (.setFld (.modHost .refl))

theorem onlyRegs_verify (s : State) : OnlyRegs [DV_ITIN_ERR, DV_ITIN_STATUS] s (exec .verify s) := by
  refine RegsOut.keeps (o := execVerify s) ?_
  unfold execVerify
  split
  · exact .next (.raise .refl)
  · exact .next (.modHost (.modClusters (.setFld (.raise .refl 1) 1)))

theorem onlyRegs_verifyDone (s : State) : OnlyRegs [DV_ITIN_ERR, DV_ITIN_STATUS, DV_ITIN_STAGED_ID] s (exec .verifyDone s) := by
  have hchecked : ∀ banks, RegsIn [DV_ITIN_ERR, DV_ITIN_STATUS, DV_ITIN_STAGED_ID] s (s.checked banks) := by
    intro banks
    unfold State.checked State.loadShadows
    exact .modClusters (.modHost (.setFld .refl 1))
  refine RegsOut.keeps ?_
  cases hv : s.host.verifying with
  | none =>
    show RegsOut _ s (execVerifyDone s)
    rw [execVerifyDone, hv]
    exact .next .refl
  | some v =>
    cases v with
    | fails code banks =>
      rw [exec_verifyDone_fails hv]
      exact .next (((hchecked banks).setFld 1).raise)
    | passes im banks =>
      rw [exec_verifyDone_passes hv]
      exact .next (.within (by decide) within_measure
        ((((hchecked banks).modClusters).raise 1).setReg 2))

/-- Settles O47, by one lemma for each command. -/
theorem controlKeepsRegisters : Obligations.ControlKeepsRegisters := by
  unfold Obligations.ControlKeepsRegisters
  exact ⟨onlyRegs_inputSwitchClose, onlyRegs_inputLow, onlyRegs_inputRecovered, onlyRegs_surge, onlyRegs_reverse, onlyRegs_railsStable,
    onlyRegs_tileCalibrationDone, onlyRegs_vacancyThreadDone, fun s i hcalm => onlyRegs_remusterDone hcalm i, onlyBlocks_remusterDone, onlyRegs_setCoord,
    onlyRegs_setRoot, fun s h => onlyRegs_forceStep_refused h, fun s hactive harmed hctxs => onlyRegs_forceStep ⟨hactive, harmed, hctxs⟩,
    onlyRegs_choiceWindowWrite_start, onlyRegs_choiceWindowWrite_end, onlyRegs_choiceWindowOpen,
    onlyRegs_capModeWrite, onlyRegs_clockWrite, onlyRegs_clockChange, onlyRegs_quiesceDone, onlyRegs_stopTickArm, onlyRegs_stopoverCancel,
    onlyRegs_proofGo, onlyRegs_proofAutoStart, onlyRegs_riskHistoryAppend, onlyRegs_verify, onlyRegs_verifyDone⟩

end Sys2Proof.Machine
end

section
/-! PROOF. O48: writes of table entries, windows, curfews, maintenance, ports and the host attach change only the registers named. -/

-- Proofs are checked one at a time: side by side they would only wait for one another.
set_option Elab.async false

namespace Sys2Proof.Machine
open Sys2Proof

/-! ### The switch's tables, windows and curfews -/

theorem onlyRegs_rankEntryWrite (s : State) (n value : Nat) : OnlyRegs [SW_RANK n, SW_TABLE_ERR] s (exec (.rankEntryWrite n value) s) := by
  refine RegsOut.keeps (o := execRankEntryWrite n value s) ?_
  unfold execRankEntryWrite
  split
  · exact .next .refl
  dsimp only
  split
  · exact .next (.raise .refl 1)
  · exact .next (.writePlain (.within (by decide) within_keepEntry .refl))

theorem onlyRegs_partyEntryWrite (s : State) (p value : Nat) : OnlyRegs [SW_PARTY p] s (exec (.partyEntryWrite p value) s) := by
  refine RegsOut.keeps (o := execPartyEntryWrite p value s) ?_
  unfold execPartyEntryWrite
  split
  · exact .next .refl
  dsimp only
  split
  · exact .next .refl
  · exact .next (.writePlain (.within (by decide) within_keepEntry .refl))

theorem onlyRegs_streamEntryWrite (s : State) (n value : Nat) : OnlyRegs [SW_STREAM n, SW_TABLE_ERR] s (exec (.streamEntryWrite n value) s) := by
  refine RegsOut.keeps (o := execStreamEntryWrite n value s) ?_
  unfold execStreamEntryWrite
  split
  · exact .next .refl
  split
  · exact .next (.raise .refl 1)
  · exact .next (.setFld (.setFld (.setFld (.writePlain .refl))))

theorem onlyRegs_sacrificeThresholdWrite (s : State) (value : Nat) : OnlyRegs [SW_SACRIFICE, SW_POOL_ERR] s (exec (.sacrificeThresholdWrite value) s) := by
  refine RegsOut.keeps (o := execSacrificeThresholdWrite value s) ?_
  unfold execSacrificeThresholdWrite
  dsimp only
  split
  · exact .next (.writePlain .refl)
  · exact .next (.raise .refl 1)

theorem onlyRegs_sacrificeStageUpdate (s : State) : OnlyRegs [SW_POOL_STATUS] s (exec .sacrificeStageUpdate s) := by
  refine RegsOut.keeps (o := execSacrificeStageUpdate s) ?_
  unfold execSacrificeStageUpdate
  split
  · exact .next (.setFld .refl)
  · exact .next .refl

theorem onlyRegs_tallyPoolMinWrite (s : State) (p value : Nat) : OnlyRegs [TL_POOL p, TL_ERR, TL_STATUS] s (exec (.tallyPoolMinWrite p value) s) := by
  refine RegsOut.keeps (o := execTallyPoolMinWrite p value s) ?_
  unfold execTallyPoolMinWrite
  split
  · exact .next .refl
  dsimp only
  split
  · exact .next (.raise .refl 1)
  · exact .next (.setFld (.setFld (.modTally (.writePlain .refl)) 2) 2)

theorem RegsIn.startAccess {offs : List Nat} {s t : State} {window ctrl done off value : Nat} (h : RegsIn offs s t) (hoff : offs[0]? = some off := by rfl)
    (hdone : offs[1]? = some done := by rfl) : RegsIn offs s (t.startAccess window ctrl done off value) := by
  unfold State.startAccess
  exact .modSw (.setReg (.writePlain h 0 hoff) 1 hdone)

theorem regsIn_swTable (s : State) (value : Nat) (write : Bool) : RegsIn [SW_TBL_CTRL, SW_TBL_STATUS] s (s.swTable value write) := by
  unfold State.swTable
  dsimp only
  split
  · exact .refl
  · exact .startAccess .refl

theorem onlyRegs_swTableRead (s : State) (value : Nat) : OnlyRegs [SW_TBL_CTRL, SW_TBL_STATUS] s (exec (.swTableRead value) s) :=
  (RegsOut.next (regsIn_swTable s value false)).keeps

theorem onlyRegs_swTableWrite (s : State) (value : Nat) : OnlyRegs [SW_TBL_CTRL, SW_TBL_STATUS] s (exec (.swTableWrite value) s) :=
  (RegsOut.next (regsIn_swTable s value true)).keeps

theorem onlyRegs_tlTableRead (s : State) (value : Nat) : OnlyRegs [TL_TBL_CTRL, TL_TBL_STATUS] s (exec (.tlTableRead value) s) := by
  refine RegsOut.keeps (o := execTlTableRead value s) ?_
  unfold execTlTableRead
  split
  · exact .next .refl
  · exact .next (.startAccess .refl)

theorem onlyRegs_stTableRead (s : State) (value : Nat) : OnlyRegs [ST_TBL_CTRL, ST_TBL_STATUS] s (exec (.stTableRead value) s) := by
  refine RegsOut.keeps (o := execStTableRead value s) ?_
  unfold execStTableRead
  split
  · exact .next .refl
  · exact .next (.startAccess .refl)

theorem RegsIn.curfewErr {offs : List Nat} {s t : State} {f : Fld} {p : Nat} (h : RegsIn offs s t) (hf : f.off ∈ offs) (herr : SW_CURFEW_ERR ∈ offs) :
    RegsIn offs s (t.curfewErr f p) := by
  unfold State.curfewErr
  exact .setFldOf (.raiseOf h hf) herr

theorem onlyRegs_curfewSwitchArm (s : State) (port tick : Nat) :
    OnlyRegs [SW_CURFEW_CTL port, SW_CURFEW_TICK port, SW_CURFEW_ERR] s (exec (.curfewSwitchArm port tick) s) := by
  refine RegsOut.keeps (o := execCurfewSwitchArm port tick s) (.next ?_)
  have herr : SW_CURFEW_ERR ∈ [SW_CURFEW_CTL port, SW_CURFEW_TICK port, SW_CURFEW_ERR] := .tail _ (.tail _ (.head _))
  unfold State.armCurfew
  split
  · exact .refl
  split
  · exact .curfewErr .refl herr herr
  split
  · exact .raise (.setReg .refl 1)
  have hrefused : RegsIn [SW_CURFEW_CTL port, SW_CURFEW_TICK port, SW_CURFEW_ERR] s
      (if s.tickAhead tick then s else s.curfewErr SW_CURFEW_ERR_REFUSED port) := by
    split
    · exact .refl
    · exact .curfewErr .refl herr herr
  dsimp only
  split
  · exact .curfewErr hrefused herr herr
  · exact hrefused

theorem onlyRegs_curfewCancel (s : State) (port : Nat) : OnlyRegs [SW_CURFEW_CTL port, SW_CURFEW_ERR] s (exec (.curfewCancel port) s) := by
  refine RegsOut.keeps (o := execCurfewCancel port s) (.next ?_)
  have herr : SW_CURFEW_ERR ∈ [SW_CURFEW_CTL port, SW_CURFEW_ERR] := .tail _ (.head _)
  unfold State.cancelCurfew
  split
  · exact .refl
  split
  · exact .setFld .refl
  · exact .curfewErr .refl herr herr

theorem onlyRegs_curfewSwitchover (s : State) (port : Nat) :
    OnlyRegs ([SW_CURFEW_CTL port, SW_CURFEW_RUN port] ++ choiceRegs) s (exec (.curfewSwitchover port) s) :=
  (RegsOut.next (RegsIn.refl.switchDue (fun _ ho => .tail _ (.tail _ ho)) (.head _) (.tail _ (.head _)))).keeps

theorem onlyRegs_curfewEntryAdvance (s : State) (port : Nat) : OnlyRegs [SW_CURFEW_RUN port] s (exec (.curfewEntryAdvance port) s) := by
  refine RegsOut.keeps (o := execCurfewEntryAdvance port s) ?_
  unfold execCurfewEntryAdvance
  split
  · exact .next .refl
  · exact .next (.setFld (.setFld (.within (by decide) within_touchShapersWith .refl)))

/-! ### The stays service and the clusters -/

theorem onlyRegs_evictThresholdWrite (s : State) (value : Nat) : OnlyRegs [ST_EVICT, ST_ERR] s (exec (.evictThresholdWrite value) s) := by
  refine RegsOut.keeps (o := execEvictThresholdWrite value s) ?_
  unfold execEvictThresholdWrite
  dsimp only
  split
  · exact .next (.raise .refl 1)
  · exact .next (.writePlain .refl)

theorem RegsIn.recount {offs : List Nat} {s t : State} (h : RegsIn offs s t) (ho : ST_STATUS ∈ offs) : RegsIn offs s t.recount :=
  ⟨fun a ha => (t.reg_recount (fun he => ha (by rw [he]; exact ho))).trans (h.reg a ha)⟩

theorem onlyRegs_areaWrite_inbound (s : State) (value : Nat) : OnlyRegs [ST_INBOUND, ST_STATUS, ST_ERR] s (exec (.areaWrite true value) s) := by
  refine RegsOut.keeps (o := execAreaWrite true value s) ?_
  unfold execAreaWrite
  split
  · exact .next (.raise .refl 2)
  · exact .next (.recount (.writePlain .refl) (.tail _ (.head _)))

theorem onlyRegs_areaWrite_stable (s : State) (value : Nat) : OnlyRegs [ST_STABLE, ST_STATUS, ST_ERR] s (exec (.areaWrite false value) s) := by
  refine RegsOut.keeps (o := execAreaWrite false value s) ?_
  unfold execAreaWrite
  split
  · exact .next (.raise .refl 2)
  · exact .next (.recount (.writePlain .refl) (.tail _ (.head _)))

theorem onlyRegs_takeoverDone (s : State) : OnlyRegs [ST_TAKEOVER_STATUS] s (exec .takeoverDone s) := by
  refine RegsOut.keeps (o := execTakeoverDone s) ?_
  unfold execTakeoverDone
  split
  · exact .next (.setFld (.setFld .refl))
  · exact .next .refl

theorem onlyRegs_bindWrite (s : State) (k n value : Nat) : OnlyRegs [CL_BIND_W0 k n, CL_BIND_W1 k n, CL_ERR k] s (exec (.bindWrite k n value) s) := by
  refine RegsOut.keeps (o := execBindWrite k n value s) ?_
  unfold execBindWrite
  split
  · exact .next .refl
  dsimp only
  split
  · exact .next (.raise (.modSw .refl) 2)
  · exact .next (.modCore (.setReg (.setReg (.modSw .refl)) 1))

theorem onlyRegs_coreEnableWrite (s : State) (k value : Nat) : OnlyRegs [CL_CTRL k, CL_STATUS k] s (exec (.coreEnableWrite k value) s) := by
  refine RegsOut.keeps (o := execCoreEnableWrite k value s) ?_
  unfold execCoreEnableWrite
  split
  · exact .next .refl
  refine .next (.foldl (.writePlain .refl) (fun u m _ hu => ?_))
  dsimp only
  split
  · exact hu.setRegBit 1
  split
  · exact (hu.setRegBit 0).setRegBit 1
  · exact hu

theorem onlyRegs_quarantineClear (s : State) (k value : Nat) : OnlyRegs [CL_QUAR k] s (exec (.quarantineClear k value) s) := by
  refine RegsOut.keeps (o := execQuarantineClear k value s) ?_
  unfold execQuarantineClear
  split
  · exact .next .refl
  refine .next (.foldl .refl (fun u m _ hu => ?_))
  dsimp only
  split
  · exact hu
  split
  · exact hu.modCore
  · exact hu.setRegBit

/-! ### The stacks of the pool -/

theorem onlyRegs_thermThresholdWrite (s : State) (value : Nat) : OnlyRegs [MEM_THERM, MEM_ERR] s (exec (.thermThresholdWrite value) s) := by
  refine RegsOut.keeps (o := execThermThresholdWrite value s) ?_
  unfold execThermThresholdWrite
  dsimp only
  split
  · exact .next (.writePlain .refl)
  · exact .next (.raise .refl 1)

theorem onlyRegs_scrubGo (s : State) (value : Nat) :
    OnlyRegs ([MEM_SCRUB_CTRL, MEM_SCRUB_STATUS, MEM_ERR] ++ (List.range 6).map MEM_SCRUB_SUM) s (exec (.scrubGo value) s) := by
  refine RegsOut.keeps (o := execScrubGo value s) ?_
  unfold execScrubGo
  split
  · exact .next (.raise .refl 2)
  · refine .next (.setReg (.modMem (.foldl (.setFld (.raise (.setReg (.writePlain .refl) 1) 1) 1) (fun u i hi hu => ?_))) 7)
    exact hu.setRegOf (List.mem_append_right _ (List.mem_map_of_mem hi))

theorem onlyRegs_scrubStop (s : State) : OnlyRegs [MEM_SCRUB_STATUS] s (exec .scrubStop s) := by
  refine RegsOut.keeps (o := execScrubStop s) ?_
  unfold execScrubStop
  split
  · exact .next (.raise .refl)
  · exact .next .refl

theorem onlyRegs_repairGo {s : State} {c : Instr} {value op : Nat} (hexec : exec c s = .next (s.repairGo value op)) :
    OnlyRegs [MEM_REPAIR_CTRL, MEM_REPAIR_STATUS, MEM_ERR] s (exec c s) := by
  rw [hexec]
  refine RegsOut.keeps (.next ?_)
  unfold State.repairGo
  split
  · exact .raise .refl 2
  · exact .modMem (.raise (.writePlain .refl) 1)

theorem onlyRegs_mergeHoldExpiry (s : State) (pair : Nat) :
    OnlyRegs [MEM_STACK_CNT (pairStack pair) 3, MEM_STACK_CNT (pairStack pair) 8] s (exec (.mergeHoldExpiry pair []) s) := by
  refine RegsOut.keeps (o := execMergeHoldExpiry pair s []) ?_
  unfold execMergeHoldExpiry
  split
  next e he =>
    have hpair : e.pair = pair := by simpa using List.find?_some he
    have hopen : RegsIn [MEM_STACK_CNT (pairStack pair) 3, MEM_STACK_CNT (pairStack pair) 8] s (s.openEntry e) := by
      unfold State.openEntry State.memCount
      rw [hpair]
      dsimp only
      split
      · exact .count (.count (.modMem .refl)) 1
      · exact .count (.modMem .refl)
    split
    · refine .next ?_
      unfold State.flushWith State.decoded State.mergeIn
      simp only [ite_self]
      split
      · exact hopen
      · exact hopen.modMem
    · exact .next .refl
  · exact .next .refl

/-! ### The ports -/

theorem onlyRegs_quietRequest (s : State) (port : Nat) : OnlyRegs [LN_PORT_W1 port, LN_ERR] s (exec (.quietRequest port) s) := by
  refine RegsOut.keeps (o := execQuietRequest port s) ?_
  unfold execQuietRequest State.laneRefuse
  split
  · exact .next .refl
  split
  · exact .next (.setFld .refl)
  · exact .next (.setFld (.raise .refl 1) 1)

theorem onlyRegs_sleepRequest (s : State) (port : Nat) : OnlyRegs [LN_PORT_W1 port, LN_ERR] s (exec (.sleepRequest port) s) := by
  refine RegsOut.keeps (o := execSleepRequest port s) ?_
  unfold execSleepRequest State.laneRefuse
  split
  · exact .next .refl
  split
  · exact .next (.setFld .refl)
  split
  · exact .next (.setFld (.raise .refl 1) 1)
  split
  · exact .next (.setFld (.raise .refl 1) 1)
  · exact .next (.setFld .refl)

theorem onlyRegs_activeRequest (s : State) (port : Nat) : OnlyRegs [LN_PORT_W1 port] s (exec (.activeRequest port) s) := by
  refine RegsOut.keeps (o := execActiveRequest port s) ?_
  unfold execActiveRequest
  split
  · exact .next .refl
  · exact .next (.within (by decide) within_startWake (.setFld .refl))

theorem onlyRegs_wakeTickWrite (s : State) (port tick : Nat) : OnlyRegs [LN_PORT_W3 port, LN_ERR] s (exec (.wakeTickWrite port tick) s) := by
  refine RegsOut.keeps (o := execWakeTickWrite port tick s) ?_
  unfold execWakeTickWrite State.laneRefuse
  split
  · exact .next .refl
  split
  · exact .next (.setReg .refl)
  dsimp only
  split
  · exact .next (.setReg .refl)
  · exact .next (.setFld (.raise .refl 1) 1)

theorem RegsOut.ite {offs : List Nat} {s : State} {c : Prop} [Decidable c] {o o' : Host.Outcome State Fault Refusal} (h : RegsOut offs s o)
    (h' : RegsOut offs s o') : RegsOut offs s (if c then o else o') := by
  split
  · exact h
  · exact h'

theorem onlyRegs_powerStateEntry (s : State) (port : Nat) : OnlyRegs [LN_PORT_W2 port] s (exec (.powerStateEntry port) s) := by
  refine RegsOut.keeps (o := execPowerStateEntry port s) ?_
  unfold execPowerStateEntry
  exact .ite (.next (.setFld (.within (by decide) within_sentCtrl (.within (by decide) within_sendStatus .refl)))) (.next .refl)

theorem onlyRegs_lanePower (s : State) (port st tick : Nat) : OnlyRegs [LN_PORT_W2 port] s (exec (.lanePower port st tick) s) := by
  refine RegsOut.keeps (o := execLanePower port st tick s) ?_
  unfold execLanePower
  split
  · exact .next (.modPort (.setFld .refl))
  · exact .next .refl

theorem State.narrowAwake_undue {s : State} {p : Nat} (h : (s.port p).narrowDue = none) : s.narrowAwake p = s := by
  rw [State.narrowAwake, h]

/-- Where no narrowing of the port is due, what follows a wake changes nothing. -/
theorem RegsIn.narrowAwake {offs : List Nat} {s t : State} {p : Nat} (h : RegsIn offs s t) (hdue : (t.port p).narrowDue = none) :
    RegsIn offs s (t.narrowAwake p) := by rwa [State.narrowAwake_undue hdue]

theorem onlyRegs_wakeDone_receive {s : State} {port : Nat} (h : (s.port port).narrowDue = none) :
    OnlyRegs (LN_PORT_W2 port :: choiceRegs) s (exec (.wakeDone port true) s) := by
  refine RegsOut.keeps (o := execWakeDone port true s) ?_
  unfold execWakeDone
  split
  · exact .next .refl
  rw [if_pos rfl]
  dsimp only
  split
  · exact .next .refl
  have hset : RegsIn (LN_PORT_W2 port :: choiceRegs) s ((s.setFld (LN_PORT_W2_RX_STATE port) 0).modPort port (fun c => { c with rxTick := 0 })) :=
    .modPort (.setFld .refl)
  have hport : ((s.setFld (LN_PORT_W2_RX_STATE port) 0).modPort port (fun c => { c with rxTick := 0 })).port port = { s.port port with rxTick := 0 } :=
    State.port_modPort _ _ _
  generalize (s.setFld (LN_PORT_W2_RX_STATE port) 0).modPort port (fun c => { c with rxTick := 0 }) = u at hset hport
  split
  · refine .next (.narrowAwake (hset.choice (by decide) (fun _ ho => .tail _ ho)) ?_)
    rw [State.port_eq_of_lanes (within_choice.same .lanes (by decide)), hport, h]
  · refine .next (.narrowAwake hset ?_)
    rw [hport, h]

theorem onlyRegs_wakeDone_transmit {s : State} {port : Nat} (h : (s.port port).narrowDue = none) :
    OnlyRegs [LN_PORT_W2 port, LN_PORT_W7 port] s (exec (.wakeDone port false) s) := by
  refine RegsOut.keeps (o := execWakeDone port false s) ?_
  unfold execWakeDone
  split
  · exact .next .refl
  rw [if_neg Bool.false_ne_true]
  split
  · exact .next .refl
  split
  · exact .next .refl
  dsimp only
  have hport := State.port_modPort (s.setFld (LN_PORT_W2_TX_STATE port) 0) port (fun c => { c with txWaking := none, wokeAt := some s.free })
  have hset : RegsIn [LN_PORT_W2 port, LN_PORT_W7 port] s ((s.setFld (LN_PORT_W2_TX_STATE port) 0).modPort port (fun c =>
    { c with txWaking := none, wokeAt := some s.free })) := .modPort (.setFld .refl)
  generalize (s.setFld (LN_PORT_W2_TX_STATE port) 0).modPort port (fun c => { c with txWaking := none, wokeAt := some s.free }) = u at hset hport
  have hdue : ∀ v : State, v.lanes = u.lanes → (v.port port).narrowDue = none := by
    intro v hv
    rw [State.port_eq_of_lanes hv, hport, State.port_eq_of_lanes (s.setFld_lanes _ _), h]
  split
  · exact .next (.narrowAwake (.setFld hset 1) (hdue _ rfl))
  · exact .next (.narrowAwake (.within (by decide) within_sentCtrl (.setFld hset 1)) (hdue _ rfl))

theorem RegsIn.sentFrame {offs : List Nat} {s t : State} {p : Nat} {f : Frame} {b : Bool} (h : RegsIn offs s t) : RegsIn offs s (t.sentFrame p f b) := ⟨h.reg⟩

theorem onlyRegs_ackWaitExpiry (s : State) (port : Nat) : OnlyRegs (LN_PORT_W4 port :: choiceRegs) s (exec (.ackWaitExpiry port) s) := by
  refine RegsOut.keeps (o := execAckWaitExpiry port s) ?_
  unfold execAckWaitExpiry
  dsimp only
  split
  · refine .next ?_
    unfold State.replayFrom
    exact .modPort (.foldl (.within (by decide) within_sentCtrl (.choice (.count .refl) (by decide) (fun _ ho => .tail _ ho)))
      (fun _ _ _ hu => hu.sentFrame))
  · exact .next .refl

/-! ### The host attach -/

theorem onlyRegs_windowWrite (s : State) (i value : Nat) : OnlyRegs [MB_WINDOW i, MB_ERR] s (exec (.windowWrite i value) s) := by
  refine RegsOut.keeps (o := execWindowWrite i value s) ?_
  unfold execWindowWrite
  split
  · exact .next .refl
  dsimp only
  split
  · exact .next (.raise .refl 1)
  · exact .next (.writePlain .refl)

theorem RegsIn.qWrite {offs : List Nat} {s t : State} {q : Nat} {entry : List Byte} (h : RegsIn offs s t) (ho : MB_QTAIL q ∈ offs) :
    RegsIn offs s (t.qWrite q entry) := by
  unfold State.qWrite
  refine .within (by decide) within_qVector ?_
  have hset : RegsIn offs s ((t.modOut (fun o => { o with hostMem := o.hostMem ++ [(t.fld (MB_QBASE_ADDR q) * 4096 + 32 * t.fld (MB_QTAIL_TAIL q),
      padTo 31 entry ++ [if t.host.tags.getD q true then 1 else 0])] })).setFld (MB_QTAIL_TAIL q) ((t.fld (MB_QTAIL_TAIL q) + 1) % t.qSize q)) :=
    .setFldOf (.modOut h) ho
  split
  · exact hset.modHost
  · exact hset

theorem RegsIn.flushNotices {offs : List Nat} {s t : State} (h : RegsIn offs s t) (ho : MB_QTAIL 1 ∈ offs) : RegsIn offs s t.flushNotices := by
  unfold State.flushNotices
  refine h.foldl (fun u n _ hu => ?_)
  split
  · exact .modStays (hu.qWrite ho)
  · exact hu

theorem onlyRegs_queueConfigWrite (s : State) (q value : Nat) :
    OnlyRegs [MB_QCFG q, MB_QHEAD q, MB_QTAIL q, MB_QTAIL 1, MB_ERR] s (exec (.queueConfigWrite q value) s) := by
  refine RegsOut.keeps (o := execQueueConfigWrite q value s) ?_
  unfold execQueueConfigWrite
  split
  · exact .next .refl
  dsimp only
  split
  · exact .next (.raise .refl 4)
  split
  · exact .next (.writePlain .refl)
  · exact .next (.flushNotices (.modHost (.setFld (.setFld (.writePlain .refl) 2) 1)) (.tail _ (.tail _ (.tail _ (.head _)))))

theorem onlyRegs_functionLevelReset (s : State) : OnlyRegs ((List.range 2).map MB_QCFG ++ (List.range 16).map MB_WINDOW) s (exec .functionLevelReset s) := by
  refine RegsOut.keeps (o := execFunctionLevelReset s) ?_
  unfold execFunctionLevelReset
  split
  · exact .next .refl
  split
  · refine .next ?_
    unfold State.flr
    refine .modOut (.modHost (.foldl (.foldl .refl (fun u q hq hu => ?_)) (fun u i hi hu => ?_)))
    · exact hu.setRegOf (List.mem_append_left _ (List.mem_map_of_mem hq))
    · exact hu.setRegOf (List.mem_append_right _ (List.mem_map_of_mem hi))
  · exact .next (.modHost .refl)

theorem onlyRegs_cxlLinkUp (s : State) (rate width : Nat) : OnlyRegs [MB_LINK_STATUS, MB_QTAIL 1] s (exec (.cxlLinkUp rate width) s) := by
  refine RegsOut.keeps (o := execCxlLinkUp rate width s) ?_
  unfold execCxlLinkUp
  split
  · exact .next .refl
  · exact .next (.flushNotices (.setFld (.setFld .refl)) (.tail _ (.head _)))

theorem onlyRegs_cxlLinkDown (s : State) : OnlyRegs [MB_LINK_STATUS] s (exec .cxlLinkDown s) := by
  refine RegsOut.keeps (o := execCxlLinkDown s) ?_
  unfold execCxlLinkDown
  exact .next (.setFld (.setFld .refl))

/-- The registers that a read of the window may change: the counts of reads outside it and of poison, and of merged writes. -/
def memrdRegs : List Nat := [MB_UNMAPPED, MB_POISON_RD] ++ (List.range 8).flatMap (fun st => [MEM_STACK_CNT st 3, MEM_STACK_CNT st 8])

theorem RegsIn.poolRead {s t : State} (h : RegsIn memrdRegs s t) (a n : Nat) : RegsIn memrdRegs s (t.poolRead a n).2 :=
  ⟨fun o ho => (State.reg_poolRead (offPool_of_notMem (fun hm => ho (List.mem_append_right _ hm))) a n).trans (h.reg o ho)⟩

theorem onlyRegs_memrd (s : State) (w : Nat) : OnlyRegs memrdRegs s (exec (.memrd w) s) := by
  refine RegsOut.keeps (o := execMemrd w s) ?_
  have hbad : ∀ u : State, RegsIn memrdRegs s u → RegsIn memrdRegs s ((u.takeFree 64).2.memData (w / 64 * 64) (u.takeFree 64).1 true) :=
    fun u hu => .within (by decide) within_memData (.within (by decide) within_takeFree hu)
  unfold execMemrd
  split
  · exact .next .refl
  dsimp only
  split
  · exact .next (hbad _ (.count .refl))
  next a ha =>
    have hread : RegsIn memrdRegs s (s.poolRead a 64).2 := RegsIn.refl.poolRead a 64
    split
    next u hu =>
      rw [hu] at hread
      exact .next (hbad _ (hread.count 1))
    next b u hu =>
      rw [hu] at hread
      exact .next (.within (by decide) within_memData hread)

/-- Settles O48, by one lemma for each command. -/
theorem writesKeepRegisters : Obligations.WritesKeepRegisters := by
  unfold Obligations.WritesKeepRegisters
  exact ⟨onlyRegs_rankEntryWrite, onlyRegs_partyEntryWrite, onlyRegs_streamEntryWrite, onlyRegs_sacrificeThresholdWrite, onlyRegs_sacrificeStageUpdate,
    onlyRegs_tallyPoolMinWrite, onlyRegs_swTableRead, onlyRegs_swTableWrite, onlyRegs_tlTableRead, onlyRegs_stTableRead, onlyRegs_curfewSwitchArm,
    onlyRegs_curfewCancel, onlyRegs_curfewSwitchover, onlyRegs_curfewEntryAdvance, onlyRegs_evictThresholdWrite, onlyRegs_areaWrite_inbound,
    onlyRegs_areaWrite_stable, onlyRegs_takeoverDone, onlyRegs_bindWrite, onlyRegs_coreEnableWrite, onlyRegs_quarantineClear,
    onlyRegs_thermThresholdWrite, onlyRegs_scrubGo, onlyRegs_scrubStop, fun _ _ => onlyRegs_repairGo rfl, fun _ _ => onlyRegs_repairGo rfl,
    fun _ _ => onlyRegs_repairGo rfl, fun _ _ => onlyRegs_repairGo rfl, onlyRegs_mergeHoldExpiry, onlyRegs_quietRequest, onlyRegs_sleepRequest,
    onlyRegs_activeRequest, onlyRegs_wakeTickWrite, onlyRegs_powerStateEntry, onlyRegs_lanePower, fun _ _ h => onlyRegs_wakeDone_receive h,
    fun _ _ h => onlyRegs_wakeDone_transmit h, onlyRegs_ackWaitExpiry, onlyRegs_windowWrite, onlyRegs_queueConfigWrite, onlyRegs_functionLevelReset,
    onlyRegs_cxlLinkUp, onlyRegs_cxlLinkDown, onlyRegs_memrd⟩

end Sys2Proof.Machine
end

section
/-! PROOF. O49: instructions of the vector pipes, the multiply engine, the transposer and the local and receiving streams change no register of another
block. -/

-- Proofs are checked one at a time: side by side they would only wait for one another.
set_option Elab.async false

namespace Sys2Proof.Machine
open Sys2Proof

/-- The offsets of a cluster's block (R267). -/
def clusterOffs (k : Nat) : List Nat := (List.range 0x80000).map (fun i => 0x80000 * (16 + k) + i)

theorem mem_clusterOffs {k o : Nat} : o ∈ clusterOffs k ↔ o / 0x80000 = 16 + k := by
  rw [clusterOffs, List.mem_map]
  constructor
  · rintro ⟨i, hi, rfl⟩
    rw [List.mem_range] at hi
    omega
  · intro h
    exact ⟨o % 0x80000, List.mem_range.2 (Nat.mod_lt _ (by omega)), by omega⟩

theorem cnt_mem_clusterOffs {k n : Nat} (hn : n < 64) : CL_CNT k n ∈ clusterOffs k := by
  rw [mem_clusterOffs, CL_CNT]
  omega

theorem numFlags_mem_clusterOffs {k n : Nat} (hn : n < 4) : CL_NUMFLAGS k n ∈ clusterOffs k := by
  rw [mem_clusterOffs, CL_NUMFLAGS]
  omega

theorem scaleEvents_mem_clusterOffs {k n : Nat} (hn : n < 4) : CL_SCALE_EVENTS k n ∈ clusterOffs k := by
  rw [mem_clusterOffs, CL_SCALE_EVENTS]
  omega

theorem mem_others {t : State} {c u : Nat} {o : Nat × Queued} (ho : o ∈ t.others c u) : o.1 / 4 = c / 4 := by
  obtain ⟨m, hm, ho⟩ := List.mem_flatMap.1 ho
  rw [List.mem_range] at hm
  dsimp only at ho
  split at ho
  · contradiction
  obtain ⟨r, -, hr⟩ := List.mem_filterMap.1 ho
  obtain ⟨q, -, rfl⟩ := Option.map_eq_some_iff.1 hr
  show (c / 4 * 4 + m) / 4 = c / 4
  omega

theorem partnerOf_cluster {c : Nat} (hc : c < 24) : partnerOf c 1 / 4 = c / 4 := by
  have hall : ∀ c < 24, partnerOf c 1 / 4 = c / 4 := by decide
  exact hall c hc

theorem RegsIn.ite {offs : List Nat} {s t u : State} {c : Prop} [Decidable c] (ht : RegsIn offs s t) (hu : RegsIn offs s u) :
    RegsIn offs s (if c then t else u) := by
  split
  · exact ht
  · exact hu

section
variable {k : Nat} {s t : State} (h : RegsIn (clusterOffs k) s t)
include h

theorem RegsIn.numFlags {c fl : Nat} (hc : c / 4 = k) : RegsIn (clusterOffs k) s (t.numFlags c fl) := by
  have hset : RegsIn (clusterOffs k) s (t.setReg (CL_NUMFLAGS (c / 4) (c % 4)) (t.reg (CL_NUMFLAGS (c / 4) (c % 4)) ||| BitVec.ofNat 64 fl)) :=
    h.setRegOf (hc ▸ numFlags_mem_clusterOffs (Nat.mod_lt _ (by decide)))
  exact ⟨hset.reg⟩

theorem RegsIn.scaleEvents {f : Fld} {c n : Nat} (hc : c / 4 = k) (hf : f.off = CL_SCALE_EVENTS (c / 4) (c % 4)) :
    RegsIn (clusterOffs k) s (t.scaleEvents f n) :=
  h.setFldOf (by rw [hf, ← hc]; exact scaleEvents_mem_clusterOffs (Nat.mod_lt _ (by decide)))

theorem RegsIn.clCount {c i : Nat} (hc : c / 4 = k) (hi : i < 64) : RegsIn (clusterOffs k) s (t.clCount c i) :=
  h.setRegOf (hc ▸ cnt_mem_clusterOffs hi)

/-- What a running instruction of the cluster has gathered of unordered bytes counts in the cluster's own block. -/
theorem RegsIn.unsureCounts {c : Nat} {q : Queued} (hc : c / 4 = k) : RegsIn (clusterOffs k) s (t.unsureCounts c q) := by
  have hfree : ∀ {u : State} {w : Nat}, RegsIn (clusterOffs k) s u → RegsIn (clusterOffs k) s (u.freeNumber w).2 :=
    fun hu => hu.within (by decide) within_freeNumber
  have hevents : CL_SCALE_EVENTS (c / 4) (c % 4) ∈ clusterOffs k := hc ▸ scaleEvents_mem_clusterOffs (Nat.mod_lt _ (by decide))
  have hflags : RegsIn (clusterOffs k) s (if opcode q.word = 0x20 ∨ isVector (opcode q.word) ∨ opcode q.word = 0x40 then
      (t.freeNumber 7).2.numFlags c (t.freeNumber 7).1 else (t.freeNumber 7).2) := by
    split
    · exact (hfree h).numFlags hc
    · exact hfree h
  unfold State.unsureCounts
  dsimp only
  split
  · refine .setFldOf (.setFldOf (.modCore (hfree (hfree hflags))) ?_) ?_ <;> exact hevents
  split
  · exact .modCore (.within (by decide) within_skipFree hflags)
  · exact hflags

theorem RegsIn.unsure {o : Nat × Queued} {xs : List (Nat × Nat)} (ho : o.1 / 4 = k) : RegsIn (clusterOffs k) s (t.unsure o xs) := by
  unfold State.unsure
  split
  · exact h
  split
  · exact h.within (by decide) within_unsureSend
  · exact .unsureCounts (h.within (by decide) within_freeSpans) ho

theorem RegsIn.clashes {c u : Nat} {r w : List (Nat × Nat)} (hc : c / 4 = k) : RegsIn (clusterOffs k) s (t.clashes c u r w).2.2 := by
  have hall : ∀ (l : List (Nat × Queued)), (∀ o ∈ l, o.1 / 4 = k) → ∀ acc : List (Nat × Nat) × List (Nat × Nat) × State, RegsIn (clusterOffs k) s acc.2.2 →
      RegsIn (clusterOffs k) s (l.foldl (fun acc o =>
        let ko := t.core o.1
        (acc.1 ++ spansShared r (globalSpans o.1 (ko.writeExtents o.2)), acc.2.1 ++ spansShared w (globalSpans o.1 (ko.writeExtents o.2)),
          acc.2.2.unsure o (spansShared w (globalSpans o.1 (ko.readExtents o.2))))) acc).2.2 := by
    intro l
    induction l with
    | nil => exact fun _ acc hacc => hacc
    | cons o l ih => exact fun hl acc hacc => ih (fun x hx => hl x (.tail _ hx)) _ (hacc.unsure (hl o (.head _)))
  exact hall _ (fun o ho => (mem_others ho).trans hc) _ h

theorem RegsIn.onFree {c : Nat} {rd w : List (Nat × Nat)} {act : State → State}
    (hact : ∀ u, RegsIn (clusterOffs k) s u → RegsIn (clusterOffs k) s (act u)) : RegsIn (clusterOffs k) s (t.onFree c rd w act) := by
  unfold State.onFree
  split
  · exact hact _ h
  refine .foldl (hact _ (h.within (by decide) within_freeSpans)) (fun u x _ hu => .foldl hu (fun v i _ hv => ?_))
  split
  · exact hv.within (by decide) within_localWrite
  · exact hv

/-- An instruction that issues changes the registers that its action changes, and its cluster's counts. -/
theorem RegsIn.issue {c u op : Nat} {ready : Queued → Bool} {act : Queued → State → State} (hc : c / 4 = k)
    (hact : ∀ q v, RegsIn (clusterOffs k) s v → RegsIn (clusterOffs k) s (act q v)) : RegsIn (clusterOffs k) s (t.issue c u op ready act) := by
  unfold State.issue
  split
  · exact h
  next q _ =>
    have hstalled : RegsIn (clusterOffs k) s ((t.modCore c (fun k => { k with
        queues := modifyAt List.tail (u - 1) k.queues, running := modifyAt (fun _ => some q) (u - 1) k.running })).stalled c) :=
      .within (by decide) within_nextFree (.setRegOf (.modCore h) (hc ▸ cnt_mem_clusterOffs (by decide)))
    dsimp only
    split
    · exact hstalled
    · exact .within (by decide) within_freeSpans (.onFree (.clashes hstalled hc) (hact q))

/-! ### The actions -/

theorem RegsIn.countPlaces {c acc : Nat} {ps : List Place} (hc : c / 4 = k) : RegsIn (clusterOffs k) s (t.countPlaces c acc ps) := by
  unfold State.countPlaces
  exact .numFlags (.modCore h) hc

theorem RegsIn.writeResults {c : Nat} {q : Queued} {rows : List (List Nat)} (hc : c / 4 = k) : RegsIn (clusterOffs k) s (t.writeResults c q rows) := by
  have hcodes : ∀ (u : State) (e : Extent) (x : List (List Nat)), RegsIn (clusterOffs k) s u → RegsIn (clusterOffs k) s (u.writeCodes c e x) :=
    fun u e x hu => hu.within (by decide) within_writeCodes
  unfold State.writeResults
  extract_lets kc b d cv flat enc se
  split
  next s1 fl ps heq =>
    have hs1 : RegsIn (clusterOffs k) s s1 := by
      split at heq
      · obtain ⟨rfl, -⟩ := Prod.mk.inj heq
        exact hcodes _ _ _ (hcodes _ _ _ h)
      · obtain ⟨rfl, -⟩ := Prod.mk.inj heq
        exact hcodes _ _ _ h
    dsimp only
    split
    · exact .countPlaces (hs1.numFlags hc) hc
    · exact hs1.numFlags hc

theorem RegsIn.vectorEffect {c : Nat} {q : Queued} (hc : c / 4 = k) : RegsIn (clusterOffs k) s (t.vectorEffect c q) := by
  unfold State.vectorEffect
  exact .writeResults (.numFlags h hc) hc

theorem RegsIn.histogramOut {c : Nat} {q : Queued} (hc : c / 4 = k) : RegsIn (clusterOffs k) s (t.histogramOut c q) := by
  unfold State.histogramOut
  exact .modCore (.numFlags (.within (by decide) within_writeBytes h) hc)

theorem RegsIn.multiply {c : Nat} {q : Queued} (hcore : c < 24) (hc : c / 4 = k) : RegsIn (clusterOffs k) s (t.multiply c q) := by
  unfold State.multiply
  have hcopied : ∀ bytes, RegsIn (clusterOffs k) s (if t.duplicated c q then t.copyOperands c bytes else t) := by
    intro bytes
    split
    · exact h.within (by decide) within_copyOperands
    · exact h
  have hevents : ∀ (u : State) (ufl ofl : Nat), RegsIn (clusterOffs k) s u →
      RegsIn (clusterOffs k) s ((u.scaleEvents (CL_SCALE_EVENTS_UFL (c / 4) (c % 4)) ufl).scaleEvents (CL_SCALE_EVENTS_OFL (c / 4) (c % 4)) ofl) :=
    fun u ufl ofl hu => RegsIn.scaleEvents (f := CL_SCALE_EVENTS_OFL (c / 4) (c % 4)) (hu.scaleEvents (f := CL_SCALE_EVENTS_UFL (c / 4) (c % 4)) hc rfl) hc rfl
  refine .ite (.numFlags (.clCount (i := 4) ?_ hc (by decide)) ((partnerOf_cluster hcore).trans hc)) ?_ <;>
    exact hevents _ _ _ (.modCore (.numFlags (.within (by decide) within_writeCodes (hcopied _)) hc))

theorem RegsIn.turnBank {c n : Nat} : RegsIn (clusterOffs k) s (t.turnBank c n) := h.within (by decide) within_turnBank

end

theorem regsIn_vector (s : State) (c op : Nat) : RegsIn (clusterOffs (c / 4)) s (s.vector c op) := by
  unfold State.vector
  exact RegsIn.refl.issue rfl (fun q v hv => hv.vectorEffect rfl)

theorem regsIn_xpose (s : State) (c : Nat) : RegsOut (clusterOffs (c / 4)) s (exec (.xpose c) s) := by
  show RegsOut _ s (execXpose c s)
  unfold execXpose
  refine .next (RegsIn.refl.issue rfl (fun q v hv => ?_))
  dsimp only
  split
  · exact .numFlags (.within (by decide) within_writeCodes hv.turnBank) rfl
  · exact .within (by decide) within_writeCodes hv.turnBank

/-- Settles O49: the registers that each of these instructions may change lie in its own cluster's block. -/
theorem unitsKeepOtherBlocks : Obligations.UnitsKeepOtherBlocks := by
  unfold Obligations.UnitsKeepOtherBlocks
  intro s t core a c hcore hc hexec ha
  have hkeeps : RegsOut (clusterOffs (core / 4)) s (exec c s) := by
    simp only [List.mem_cons, List.not_mem_nil, or_false] at hc
    rcases hc with rfl | rfl | rfl | rfl | rfl | rfl | rfl | rfl | rfl | rfl | rfl | rfl | rfl | rfl | rfl | rfl
    iterate 11 exact .next (regsIn_vector s core _)
    · exact .next (RegsIn.refl.issue rfl (fun q v hv => hv.multiply hcore rfl))
    · exact .next (RegsIn.refl.issue rfl (fun q v hv => hv.histogramOut rfl))
    · exact regsIn_xpose s core
    · exact .next (RegsIn.refl.issue rfl (fun q v hv => hv.within (by decide) within_writeBytes))
    · exact .next (RegsIn.refl.issue rfl (fun q v hv => hv))
  exact hkeeps.keeps t hexec a (fun hm => ha (mem_clusterOffs.1 hm))

end Sys2Proof.Machine
end

section
/-! PROOF. O34: each vector instruction issues and writes the FP32 element that its rule gives (R285, R286, R315, R316). What an instruction does as it
issues, and what a write to local space leaves there, stand first. -/

-- Proofs are checked one at a time: side by side they would only wait for one another.
set_option Elab.async false

namespace Sys2Proof.Machine
open Sys2Proof

/-! ### Cores and local space -/

theorem State.core_modCore (s : State) (c d : Nat) (f : Core → Core) :
    (s.modCore c f).core d = if c = d ∧ d < s.clusters.cores.length then f (s.core d) else s.core d := getD_modifyAt _ _ _ _ _

theorem State.core_modCore_same {s : State} {c : Nat} (hc : c < s.clusters.cores.length) (f : Core → Core) : (s.modCore c f).core c = f (s.core c) := by
  rw [State.core_modCore, if_pos ⟨rfl, hc⟩]

theorem State.core_modCore_other {s : State} {c d : Nat} (h : c ≠ d) (f : Core → Core) : (s.modCore c f).core d = s.core d := by
  rw [State.core_modCore, if_neg (fun hcd => h hcd.1)]

theorem State.core_eq_of_clusters {s t : State} (h : t.clusters = s.clusters) (c : Nat) : t.core c = s.core c := by rw [State.core, h, State.core]

theorem State.localRead_of_clusters {s t : State} (h : t.clusters = s.clusters) (c a n : Nat) : t.localRead c a n = s.localRead c a n := by
  rw [State.localRead, State.core_eq_of_clusters h, h, State.localRead]

/-- Bytes written to a core's local space are read there. -/
theorem State.localRead_localWrite {s : State} {c : Nat} (hc : c < s.clusters.cores.length) (hk : c / 4 < s.clusters.shared.length) (a : Nat)
    (bs : List Byte) : (s.localWrite c a bs).localRead c a bs.length = bs := by
  unfold State.localRead State.localWrite
  split
  · rw [State.core_modCore_same hc]
    exact sparseRead_write_same
  · show sparseRead 0 ((modifyAt _ (c / 4) s.clusters.shared).getD (c / 4) []) _ _ = _
    rw [getD_modifyAt, if_pos ⟨rfl, hk⟩]
    exact sparseRead_write_same

theorem State.queues_localWrite (s : State) (c a : Nat) (bs : List Byte) (d : Nat) : ((s.localWrite c a bs).core d).queues = (s.core d).queues := by
  unfold State.localWrite
  split
  · rw [State.core_modCore]
    split <;> rfl
  · rfl

theorem State.running_localWrite (s : State) (c a : Nat) (bs : List Byte) (d : Nat) : ((s.localWrite c a bs).core d).running = (s.core d).running := by
  unfold State.localWrite
  split
  · rw [State.core_modCore]
    split <;> rfl
  · rfl

theorem modifyAt_length {α : Type} (f : α → α) (i : Nat) (l : List α) : (modifyAt f i l).length = l.length := by
  rw [modifyAt_eq_modify, List.length_modify]

theorem natLE_length (n v : Nat) : (natLE n v).length = n := by
  induction n generalizing v with
  | zero => rfl
  | succ n ih => rw [natLE, List.length_cons, ih]

theorem pack_length (f : Nat) (codes : List Nat) : (pack f codes).length = rowBytes f codes.length := natLE_length _ _

/-! ### An instruction issues (R275, R280) -/

/-- The state as an instruction issues, before it acts: it has left its queue and runs. -/
def State.issued (s : State) (c u : Nat) (q : Queued) : State :=
  (s.modCore c (fun k => { k with queues := modifyAt List.tail (u - 1) k.queues, running := modifyAt (fun _ => some q) (u - 1) k.running })).stalled c

theorem State.issued_clusters (s : State) (c u : Nat) (q : Queued) : (s.issued c u q).clusters = (s.modCore c (fun k => { k with
    queues := modifyAt List.tail (u - 1) k.queues, running := modifyAt (fun _ => some q) (u - 1) k.running })).clusters := rfl

theorem State.core_issued (s : State) {c : Nat} (hc : c < s.clusters.cores.length) (u : Nat) (q : Queued) : (s.issued c u q).core c = { s.core c with
    queues := modifyAt List.tail (u - 1) (s.core c).queues, running := modifyAt (fun _ => some q) (u - 1) (s.core c).running } :=
  State.core_modCore_same hc _

theorem State.core_issued_other (s : State) {c d : Nat} (h : c ≠ d) (u : Nat) (q : Queued) : (s.issued c u q).core d = s.core d :=
  State.core_modCore_other h _

theorem State.localRead_issued (s : State) (c u : Nat) (q : Queued) (a n : Nat) : (s.issued c u q).localRead c a n = s.localRead c a n := by
  have hbuf : ((s.issued c u q).core c).buf = (s.core c).buf := by
    have h := s.core_modCore c c (fun k => { k with
      queues := modifyAt List.tail (u - 1) k.queues, running := modifyAt (fun _ => some q) (u - 1) k.running })
    refine (congrArg Core.buf h).trans ?_
    split <;> rfl
  rw [State.localRead, hbuf]
  rfl

theorem filter_zipIdx_modifyAt {α : Type} (f : α → α) (i n : Nat) (l : List α) :
    ((modifyAt f i l).zipIdx n).filter (fun r => !(r.2 + 1 == n + i + 1)) = (l.zipIdx n).filter (fun r => !(r.2 + 1 == n + i + 1)) := by
  induction l generalizing i n with
  | nil => cases i <;> rfl
  | cons a l ih =>
    cases i with
    | zero => simp [modifyAt]
    | succ i =>
      rw [modifyAt, List.zipIdx_cons, List.zipIdx_cons, List.filter_cons, List.filter_cons]
      have hih := ih i (n + 1)
      rw [show n + 1 + i + 1 = n + (i + 1) + 1 by omega] at hih
      rw [hih]

/-- What runs beside the unit is not changed by the issue. -/
theorem State.others_issued (s : State) (c : Nat) {u : Nat} (hu : 1 ≤ u) (q : Queued) : (s.issued c u q).others c u = s.others c u := by
  unfold State.others
  congr 1
  funext m
  dsimp only
  by_cases hd : c = c / 4 * 4 + m
  · rw [← hd]
    have hcore := s.core_modCore c c (fun k => { k with
      queues := modifyAt List.tail (u - 1) k.queues, running := modifyAt (fun _ => some q) (u - 1) k.running })
    have hwork : ((s.issued c u q).core c).work = (s.core c).work := by
      refine (congrArg Core.work hcore).trans ?_
      split <;> rfl
    have hrun : ((s.issued c u q).core c).running = (s.core c).running ∨
        ((s.issued c u q).core c).running = modifyAt (fun _ => some q) (u - 1) (s.core c).running := by
      rw [show ((s.issued c u q).core c).running = _ from congrArg Core.running hcore]
      split
      · exact .inr rfl
      · exact .inl rfl
    rw [hwork]
    rcases hrun with hrun | hrun
    · rw [hrun]
    · have hfilter := filter_zipIdx_modifyAt (fun _ => some q) (u - 1) 0 (s.core c).running
      rw [show 0 + (u - 1) + 1 = u by omega] at hfilter
      simp only [hrun, beq_self_eq_true, Bool.true_and, hfilter]
  · rw [s.core_issued_other hd]

theorem mayIssue_of_issues {s : State} {c u op : Nat} {q : Queued} (h : Issues s c u op q) {ready : Queued → Bool} (hready : ready q = true) :
    s.mayIssue c u op ready = some q := by
  obtain ⟨-, hhead, hop, hidle, hphase, -, hwaits, -⟩ := h
  rw [State.mayIssue, hhead]
  dsimp only
  rw [hidle, if_neg (by simp [hop, hphase, hwaits, hready])]

/-- An instruction that may issue acts on the state in which it has left its queue. -/
theorem State.issue_of_issues {s : State} {c u op : Nat} {q : Queued} (h : Issues s c u op q) (hu : 1 ≤ u) {ready : Queued → Bool}
    (hready : ready q = true) (act : Queued → State → State) : s.issue c u op ready act = act q (s.issued c u q) := by
  have hmay := mayIssue_of_issues h hready
  obtain ⟨-, -, -, -, -, habandoned, -, hothers⟩ := h
  rw [State.issue, hmay]
  dsimp only
  rw [habandoned, if_neg Bool.false_ne_true, State.clashes]
  rw [show (s.modCore c (fun k => { k with queues := modifyAt List.tail (u - 1) k.queues, running := modifyAt (fun _ => some q) (u - 1) k.running })).stalled c =
    s.issued c u q from rfl, s.others_issued c hu, hothers]
  rfl

theorem unit_of_head {k : Core} {u : Nat} {q : Queued} (hlen : k.queues.length = 5) (h : k.head u = some q) : u - 1 < 5 := by
  rw [Core.head] at h
  by_contra hu
  rw [List.getD_eq_default _ _ (by omega)] at h
  contradiction

theorem runs_issued {s : State} {c u op : Nat} {q : Queued} (h : Issues s c u op q) {t : State} (hq : (t.core c).queues = ((s.issued c u q).core c).queues)
    (hr : (t.core c).running = ((s.issued c u q).core c).running) : Runs s t c u q := by
  obtain ⟨⟨hc, hlen, -, hqueues, hrunning⟩, hhead, -⟩ := h
  have hu := unit_of_head hqueues hhead
  rw [Runs, hq, hr, s.core_issued (hlen ▸ hc)]
  dsimp only
  rw [getD_modifyAt, getD_modifyAt, if_pos ⟨rfl, by omega⟩, if_pos ⟨rfl, by omega⟩]
  exact ⟨rfl, rfl⟩

/-! ### The vector unit (R285, R286) -/

/-- The rows of a vector instruction's result. -/
def State.vectorRows (s : State) (c : Nat) (q : Queued) : List (List Nat) :=
  let op := opcode q.word
  let bv := (if takesB op ∧ bitsOf q.ext 11 10 ≠ 3 then s.vectorOperand c ((s.core c).bank q) q (opB q.word) else ([], 0)).1
  let cv := (if takesC op ∧ bitsOf q.ext 13 12 ≠ 3 then s.vectorOperand c ((s.core c).bank q) q (bitsOf q.ext 31 22) else ([], 0)).1
  let av := s.operandOf c q (opA q.word)
  let pos := q.xs.getD (bitsOf q.ext 21 18) 0
  if op = 0x39 then av.map (fun r => [reduceRow (bitsOf q.ext 17 14) r])
  else (List.range (s.ext c q (opD q.word)).rows).map (fun r => (List.range (s.ext c q (opD q.word)).cols).map (fun j =>
    vectorElem op (bitsOf q.ext 17 14) (!decide (q.xs.getD 5 0 ≤ pos + j ∧ pos + j < q.xs.getD 6 0)) (cell av r j)
      (modeElem (bitsOf q.ext 11 10) (bitsOf q.ext 63 32) bv r j) (modeElem (bitsOf q.ext 13 12) (bitsOf q.ext 63 32) cv r j)))

theorem State.vectorEffect_eq (s : State) (c : Nat) (q : Queued) : ∃ fl, s.vectorEffect c q = (s.numFlags c fl).writeResults c q (s.vectorRows c q) :=
  ⟨_, rfl⟩

/-- A row written as FP32 and not gathered in a histogram. -/
theorem State.writeResults_row {s : State} {c : Nat} {q : Queued} (hfmt : (s.ext c q (opD q.word)).fmt = 0) (hhist : q.ext.testBit 9 = false)
    (row : List Nat) : ∃ fl, s.writeResults c q [row] =
      (s.localWrite c ((s.ext c q (opD q.word)).row 0) (pack 0 (row.map (fun x => (convert32 0 x).1)))).numFlags c fl := by
  have hmx : isMx 0 = false := rfl
  have hwrite : ∀ codes, s.writeCodes c (s.ext c q (opD q.word)) [codes] = s.localWrite c ((s.ext c q (opD q.word)).row 0) (pack 0 codes) := by
    intro codes
    rw [State.writeCodes, hfmt]
    rfl
  rw [State.ext] at hfmt hwrite ⊢
  simp only [State.writeResults, hfmt, hhist, hmx, Bool.false_and, Bool.false_eq_true, if_false, List.map_cons, List.map_nil, hwrite, List.map_map,
    Function.comp_def]
  exact ⟨_, rfl⟩

/-- A vector instruction that issues writes its one row of FP32 results. -/
theorem completes_vector {s : State} {c op : Nat} {q : Queued} {i : Instr} (hexec : exec i s = .next (s.vector c op)) (h : Issues s c 3 op q)
    (hout : RowOut s c q) {g : Nat → Nat} (hrows : s.vectorRows c q = [(List.range (s.ext c q (opD q.word)).cols).map g]) :
    Completes i s (fun t => Runs s t c 3 q ∧ Wrote s t c q g) := by
  obtain ⟨hfmt, -, -, hhist⟩ := hout
  have hthere := h.1
  obtain ⟨hc, hcores, hshared, -, -⟩ := hthere
  obtain ⟨u, hu⟩ : ∃ u, u = s.issued c 3 q := ⟨_, rfl⟩
  have hcore : u.core c = { s.core c with
      queues := modifyAt List.tail 2 (s.core c).queues, running := modifyAt (fun _ => some q) 2 (s.core c).running } := by
    rw [hu]
    exact s.core_issued (hcores ▸ hc) 3 q
  have hread : ∀ a n, u.localRead c a n = s.localRead c a n := fun a n => by rw [hu, s.localRead_issued]
  have hext : ∀ d, u.ext c q d = s.ext c q d := by
    intro d
    rw [State.ext, hcore]
    rfl
  have hcodes : ∀ e, u.readCodes c e = s.readCodes c e := by
    intro e
    simp only [State.readCodes, hread]
  have hoperand : ∀ b d, u.vectorOperand c b q d = s.vectorOperand c b q d := by
    intro b d
    simp only [State.vectorOperand, State.readOperand, hcodes]
  have hbank : (u.core c).bank q = (s.core c).bank q := by
    rw [hcore]
    rfl
  have hsame : u.vectorRows c q = s.vectorRows c q := by
    simp only [State.vectorRows, State.operandOf, hbank, hext, hoperand]
  obtain ⟨fl, heffect⟩ := u.vectorEffect_eq c q
  have hfmt' : ((u.numFlags c fl).ext c q (opD q.word)).fmt = 0 := (congrArg Extent.fmt (hext _)).trans hfmt
  obtain ⟨fl', hresult⟩ := (u.numFlags c fl).writeResults_row hfmt' hhist ((List.range (s.ext c q (opD q.word)).cols).map g)
  have hd : (u.numFlags c fl).ext c q (opD q.word) = s.ext c q (opD q.word) := hext _
  rw [hd] at hresult
  have hdone : s.vector c op = ((u.numFlags c fl).localWrite c ((s.ext c q (opD q.word)).row 0)
      (pack 0 (((List.range (s.ext c q (opD q.word)).cols).map g).map (fun x => (convert32 0 x).1)))).numFlags c fl' := by
    rw [State.vector, State.issue_of_issues h (by decide) rfl, ← hu, heffect, hsame, hrows, hresult]
  rw [hdone] at hexec
  refine ⟨_, hexec, runs_issued h ?_ ?_, ?_⟩
  · rw [← hu]
    exact State.queues_localWrite _ _ _ _ _
  · rw [← hu]
    exact State.running_localWrite _ _ _ _ _
  · have hulen : (u.numFlags c fl).clusters.cores.length = 24 := by
      rw [hu]
      exact (modifyAt_length _ _ _).trans hcores
    have hushared : (u.numFlags c fl).clusters.shared.length = 6 := by
      rw [hu]
      exact hshared
    have hlen : (s.ext c q (opD q.word)).len = (pack 0 (((List.range (s.ext c q (opD q.word)).cols).map g).map (fun x => (convert32 0 x).1))).length := by
      rw [pack_length, Extent.len, hfmt, List.length_map, List.length_map, List.length_range]
    have hread' := State.localRead_localWrite (s := u.numFlags c fl) (c := c) (by omega) (by omega) ((s.ext c q (opD q.word)).row 0)
      (pack 0 (((List.range (s.ext c q (opD q.word)).cols).map g).map (fun x => (convert32 0 x).1)))
    rw [Wrote, hlen]
    refine (State.localRead_of_clusters rfl _ _ _).trans (hread'.trans ?_)
    rw [List.map_map]
    rfl

/-- The row that an instruction of one row of results writes, element by element. -/
theorem vectorRows_of_elem {s : State} {c op : Nat} {q : Queued} (hop : opcode q.word = op) (hred : op ≠ 0x39) (hout : RowOut s c q) {g : Nat → Nat}
    (hg : ∀ j, vectorElem op (bitsOf q.ext 17 14)
      (!decide (q.xs.getD 5 0 ≤ q.xs.getD (bitsOf q.ext 21 18) 0 + j ∧ q.xs.getD (bitsOf q.ext 21 18) 0 + j < q.xs.getD 6 0))
      (cell (s.operandOf c q (opA q.word)) 0 j)
      (if takesB op then s.elemB c q j else modeElem (bitsOf q.ext 11 10) (bitsOf q.ext 63 32) [] 0 j)
      (if takesC op then s.elemC c q j else modeElem (bitsOf q.ext 13 12) (bitsOf q.ext 63 32) [] 0 j) = g j) :
    s.vectorRows c q = [(List.range (s.ext c q (opD q.word)).cols).map g] := by
  obtain ⟨-, hrows, -⟩ := hout
  have hB : ∀ j, modeElem (bitsOf q.ext 11 10) (bitsOf q.ext 63 32)
      (if takesB op ∧ bitsOf q.ext 11 10 ≠ 3 then s.vectorOperand c ((s.core c).bank q) q (opB q.word) else ([], 0)).1 0 j =
      if takesB op then s.elemB c q j else modeElem (bitsOf q.ext 11 10) (bitsOf q.ext 63 32) [] 0 j := by
    intro j
    by_cases hB : takesB op = true <;> by_cases h3 : bitsOf q.ext 11 10 = 3 <;> simp [hB, h3, State.elemB, State.operandOf]
  have hC : ∀ j, modeElem (bitsOf q.ext 13 12) (bitsOf q.ext 63 32)
      (if takesC op ∧ bitsOf q.ext 13 12 ≠ 3 then s.vectorOperand c ((s.core c).bank q) q (bitsOf q.ext 31 22) else ([], 0)).1 0 j =
      if takesC op then s.elemC c q j else modeElem (bitsOf q.ext 13 12) (bitsOf q.ext 63 32) [] 0 j := by
    intro j
    by_cases hC : takesC op = true <;> by_cases h3 : bitsOf q.ext 13 12 = 3 <;> simp [hC, h3, State.elemC, State.operandOf]
  rw [State.vectorRows]
  rw [hop, if_neg hred, hrows, List.range_one, List.map_cons, List.map_nil]
  congr 1
  refine List.map_congr_left (fun j _ => ?_)
  rw [hB, hC, hg]

theorem operandOf_rows (s : State) (c : Nat) (q : Queued) (d : Nat) : (s.operandOf c q d).length = (s.ext c q d).rows := by
  simp [State.operandOf, State.vectorOperand, State.readOperand, widenAll, State.readCodes, State.ext]

theorem vectorRows_reduce {s : State} {c : Nat} {q : Queued} (hop : opcode q.word = 0x39) (hcols : (s.ext c q (opD q.word)).cols = 1)
    (hrows : (s.ext c q (opA q.word)).rows = 1) : s.vectorRows c q =
      [(List.range (s.ext c q (opD q.word)).cols).map (fun _ => reduceRow (bitsOf q.ext 17 14) ((s.operandOf c q (opA q.word)).getD 0 []))] := by
  have hlen := (operandOf_rows s c q (opA q.word)).trans hrows
  obtain ⟨r, hr⟩ := List.length_eq_one_iff.1 hlen
  rw [State.vectorRows]
  rw [if_pos hop, hr, hcols]
  rfl

/-- Settles O34: each instruction's row is the one that its rule gives. -/
theorem vectorsComplete : Obligations.VectorsComplete := by
  unfold Obligations.VectorsComplete
  have hone : ∀ {s : State} {c op : Nat} {q : Queued} {i : Instr} {g : Nat → Nat}, exec i s = .next (s.vector c op) → op ≠ 0x39 → Issues s c 3 op q →
      RowOut s c q → (∀ j, vectorElem op (bitsOf q.ext 17 14)
        (!decide (q.xs.getD 5 0 ≤ q.xs.getD (bitsOf q.ext 21 18) 0 + j ∧ q.xs.getD (bitsOf q.ext 21 18) 0 + j < q.xs.getD 6 0))
        (cell (s.operandOf c q (opA q.word)) 0 j)
        (if takesB op then s.elemB c q j else modeElem (bitsOf q.ext 11 10) (bitsOf q.ext 63 32) [] 0 j)
        (if takesC op then s.elemC c q j else modeElem (bitsOf q.ext 13 12) (bitsOf q.ext 63 32) [] 0 j) = g j) →
      Completes i s (fun t => Runs s t c 3 q ∧ Wrote s t c q g) :=
    fun hexec hred h hout hg => completes_vector hexec h hout (vectorRows_of_elem h.2.2.1 hred hout hg)
  refine ⟨fun s c q h hout => hone rfl (by decide) h hout (fun j => rfl), fun s c q h hout => hone rfl (by decide) h hout (fun j => rfl),
    fun s c q h hout => hone rfl (by decide) h hout (fun j => rfl), fun s c q h hout => hone rfl (by decide) h hout (fun j => rfl),
    fun s c q h hout => hone rfl (by decide) h hout (fun j => rfl), fun s c q h hout => hone rfl (by decide) h hout (fun j => rfl),
    fun s c q h hout => hone rfl (by decide) h hout (fun j => rfl), fun s c q h hout => hone rfl (by decide) h hout (fun j => rfl),
    fun s c q h hout => hone rfl (by decide) h hout (fun j => rfl),
    fun s c q h hout hcols hrows => completes_vector rfl h hout (vectorRows_reduce h.2.2.1 hcols hrows),
    fun s c q h hout => hone rfl (by decide) h hout (fun j => ?_)⟩
  by_cases hlive : q.xs.getD 5 0 ≤ q.xs.getD (bitsOf q.ext 21 18) 0 + j ∧ q.xs.getD (bitsOf q.ext 21 18) 0 + j < q.xs.getD 6 0
  · rw [if_pos hlive, decide_eq_true hlive]
    rfl
  · rw [if_neg hlive, decide_eq_false hlive]
    rfl

end Sys2Proof.Machine
end

section
/-! SUPPORT. What a message to the watch leaves: the message in the queue with a time not before now, whatever its class sets off (R391, R392, R400),
and the registers outside the watch where its class is not a fatal one. -/

-- Proofs are checked one at a time: side by side they would only wait for one another.
set_option Elab.async false

namespace Sys2Proof.Machine
open Sys2Proof

/-! ### The message stands in the queue -/

theorem State.now_eq_of_bell {s t : State} (h : t.bell = s.bell) : t.now = s.now := congrArg BellUnit.now h

/-- The first-error bit and the worst class as a message leaves them (R397, R400). -/
def State.marked (s : State) (source sev : Nat) : State :=
  (if 2 ≤ sev then s.setRegBit (WATCH_FIRST (source / 64 % 16)) (source % 64) true else s).setFld WATCH_STATUS_WORST
    (max sev ((if 2 ≤ sev then s.setRegBit (WATCH_FIRST (source / 64 % 16)) (source % 64) true else s).fld WATCH_STATUS_WORST))

theorem State.accept_eq (s : State) (source kind sev address : Nat) : s.accept source kind sev address =
    if (s.marked source sev).watch.queue.length < 512 then (s.marked source sev).enterWatch (faultWord source kind sev address)
    else ((s.marked source sev).count WATCH_LOST).raise WATCH_ERR_RING_LOST := rfl

theorem within_marked (s : State) (source sev : Nat) : Within [.regs] s (s.marked source sev) := by
  unfold State.marked
  split
  · exact within_setFld.andThen (by decide) (within_setRegBit.mono (by decide))
  · exact within_setFld

theorem State.marked_watch (s : State) (source sev : Nat) : (s.marked source sev).watch = s.watch := (within_marked s source sev).same .watch (by decide)

theorem State.marked_bell (s : State) (source sev : Nat) : (s.marked source sev).bell = s.bell := (within_marked s source sev).same .bell (by decide)

theorem State.reg_marked_other (s : State) (source sev : Nat) {o : Nat} (hstatus : o ≠ WATCH_STATUS) (hfirst : ¬ FirstOff o) :
    (s.marked source sev).reg o = s.reg o := by
  rw [State.marked, State.reg_setFld_other _ _ _ hstatus]
  split
  · exact s.reg_setRegBit_other _ _ fun h => hfirst (h ▸ firstOff _ (Nat.mod_lt _ (by decide)))
  · rfl

theorem State.fld_marked_worst (s : State) (source : Nat) {sev : Nat} (hsev : sev < 8) :
    (s.marked source sev).fld WATCH_STATUS_WORST = max sev (s.fld WATCH_STATUS_WORST) := by
  have hbit : (if 2 ≤ sev then s.setRegBit (WATCH_FIRST (source / 64 % 16)) (source % 64) true else s).fld WATCH_STATUS_WORST =
      s.fld WATCH_STATUS_WORST := by
    split
    · exact State.fld_eq_of_reg (s.reg_setRegBit_other _ _ (by simp only [WATCH_FIRST, WATCH_STATUS_WORST, WATCH_STATUS]; omega))
    · rfl
  have hold : s.fld WATCH_STATUS_WORST < 2 ^ 3 := s.fld_lt _
  rw [State.marked, hbit]
  exact State.fld_setFld_fits _ (by decide) (Nat.max_lt.2 ⟨hsev, hold⟩)

theorem State.mem_accept_ahead {s : State} (hroom : s.watch.queue.length < 512) (source kind sev address : Nat) :
    ∃ m ∈ (s.accept source kind sev address).watch.queue, m.1 = faultWord source kind sev address ∧ s.now ≤ m.2 := by
  rw [State.accept_eq, s.marked_watch, if_pos hroom]
  refine ⟨_, ((s.marked source sev).enterWatch_perm _).mem_iff.2 (by rw [s.marked_watch]; exact List.mem_cons_self), rfl, ?_⟩
  rw [← State.now_eq_of_bell (s.marked_bell source sev)]
  exact Nat.le_add_right _ _

theorem told_fault (s : State) (source kind address : Nat) : Told s (s.fault source kind address) source kind address := fun hroom => by
  obtain ⟨m, hm, hword, htime⟩ := State.mem_accept_ahead hroom source kind (s.severity source kind) address
  exact ⟨m, s.queue_accept_subset_fault source kind address hm, hword, htime⟩

/-- A fault from a state whose watch, time and classes are those of `s` tells the watch what it tells from `s`. -/
theorem Told.of_fault {s u t : State} {source kind address : Nat} (hwatch : u.watch = s.watch) (hbell : u.bell = s.bell)
    (hsev : u.severity source kind = s.severity source kind) (ht : t.watch = (u.fault source kind address).watch) :
    Told s t source kind address := by
  have h := told_fault u source kind address
  rwa [Told, hwatch, hsev, State.now_eq_of_bell hbell, ← ht] at h

/-! ### Messages of no fatal class -/

theorem State.fault_of_minor {s : State} {source kind : Nat} (h : s.severity source kind < 4) (address : Nat) :
    s.fault source kind address = s.accept source kind (s.severity source kind) address := by
  rw [State.fault, if_neg (by omega), if_neg (by omega)]

/-- A message moves no register but the watch's status and first-error bits. -/
theorem State.reg_accept_other (s : State) (source kind sev address : Nat) {o : Nat} (ho : o < WATCH_CTRL + 8 ∨ WATCH_FIRST 16 ≤ o) :
    (s.accept source kind sev address).reg o = s.reg o := by
  rcases ho with ho | ho
  · have hoff : ∀ {d : Nat}, WATCH_CTRL + 8 ≤ d → o ≠ d := by omega
    unfold State.accept
    extract_lets s1 s2
    have hs1 : s1.reg o = s.reg o := by
      unfold s1
      split
      · exact s.reg_setRegBit_other _ _ (hoff (by simp only [WATCH_FIRST, WATCH_CTRL]; omega))
      · rfl
    have hs2 : s2.reg o = s1.reg o := s1.reg_setFld_other _ _ (hoff (by decide))
    rw [← hs1, ← hs2]
    split
    · rfl
    · rw [State.reg_raise_other _ _ (hoff (by decide)), State.reg_count_other _ (hoff (by decide))]
  · exact s.reg_accept_off _ _ _ _ ho

theorem State.reg_fault_minor {s : State} {source kind : Nat} (h : s.severity source kind < 4) (address : Nat) {o : Nat}
    (ho : o < WATCH_CTRL + 8 ∨ WATCH_FIRST 16 ≤ o) : (s.fault source kind address).reg o = s.reg o := by
  rw [State.fault_of_minor h, State.reg_accept_other _ _ _ _ _ ho]

theorem within_fault_minor {s : State} {source kind : Nat} (h : s.severity source kind < 4) (address : Nat) :
    Within [.regs, .watch] s (s.fault source kind address) := by
  rw [State.fault_of_minor h]
  exact within_accept

end Sys2Proof.Machine
end

section
/-! PROOF. O36: the watch and its ring, proof suites and the risk (R391 to R402, R407 to R410). -/

-- Proofs are checked one at a time: side by side they would only wait for one another.
set_option Elab.async false

namespace Sys2Proof.Machine
open Sys2Proof

/-! ### A block's message (R391, R392, R398 to R400) -/

theorem State.fld_accept_worst (s : State) {sev : Nat} (hsev : sev < 8) (source kind address : Nat) :
    (s.accept source kind sev address).fld WATCH_STATUS_WORST = max sev (s.fld WATCH_STATUS_WORST) := by
  rw [State.accept_eq, ← s.fld_marked_worst source hsev]
  split
  · rfl
  · rw [State.fld_raise_apart _ _ _ (by decide), State.fld_count_off _ _ _ (by decide)]

/-- A message that finds the queue full is counted as lost (R392). -/
theorem State.accept_full {s : State} (hfull : 512 ≤ s.watch.queue.length) (source kind sev address : Nat) :
    (s.accept source kind sev address).watch = s.watch ∧ (s.accept source kind sev address).reg WATCH_LOST = s.reg WATCH_LOST + 1 ∧
      (s.accept source kind sev address).fld WATCH_ERR_RING_LOST = 1 := by
  have hwatch := s.marked_watch source sev
  rw [State.accept_eq, if_neg (by rw [hwatch]; omega)]
  refine ⟨hwatch, ?_, State.fld_raise_same _ _ (by decide)⟩
  rw [State.reg_raise_other _ _ (by decide), ← s.reg_marked_other source sev (by decide) (by decide)]
  exact State.reg_count_same _ _

theorem within_relayed (s : State) (source kind : Nat) : Within [.regs] s (s.relayed source kind) := by
  unfold State.relayed
  split
  · exact within_count
  · exact .refl _ _

theorem told_faultMessage (s : State) (source kind address : Nat) :
    Told s (((s.relayed source kind).fault source kind address).retryAgents) source kind address :=
  Told.of_fault ((within_relayed s source kind).same .watch (by decide)) ((within_relayed s source kind).same .bell (by decide))
    (s.severity_relayed source kind) (within_retryAgents.same .watch (by decide))

theorem exec_faultMessage_fault {s : State} {source kind address : Nat} (hsource : sourceListed source = true) (hkind : faultKindListed kind = true)
    (haddr : address < 2 ^ 40) : exec (.faultMessage source kind address) s =
      .next ((s.relayed source kind).fault source kind address).retryAgents := by
  rw [s.exec_faultMessage_listed hsource hkind, Nat.mod_eq_of_lt haddr]

/-- No tally's error moves a register other than its own count. -/
theorem State.reg_relayed_other (s : State) (source kind : Nat) {o : Nat} (h : o ≠ TL_CNT 10) : (s.relayed source kind).reg o = s.reg o := by
  unfold State.relayed
  split
  · exact State.reg_count_other _ h
  · rfl

theorem State.fault_relayed_minor {s : State} {source kind : Nat} (h : s.severity source kind < 4) (address : Nat) :
    (s.relayed source kind).fault source kind address = (s.relayed source kind).accept source kind (s.severity source kind) address := by
  rw [State.fault_of_minor (by rwa [s.severity_relayed]), s.severity_relayed]

theorem completes_faultMessage_minorClass {s : State} {source kind address : Nat} (hsource : sourceListed source = true)
    (hkind : faultKindListed kind = true) (haddr : address < 2 ^ 40) (hsev : s.severity source kind < 4) :
    Completes (.faultMessage source kind address) s (fun t => Told s t source kind address ∧
      s.severity source kind ≤ t.fld WATCH_STATUS_WORST ∧ s.fld WATCH_STATUS_WORST ≤ t.fld WATCH_STATUS_WORST ∧
      (2 ≤ s.severity source kind → t.regBit (WATCH_FIRST (source / 64)) (source % 64) = true) ∧
      (512 ≤ s.watch.queue.length → t.watch = s.watch ∧ t.reg WATCH_LOST = s.reg WATCH_LOST + 1 ∧ t.fld WATCH_ERR_RING_LOST = 1)) := by
  have hlow : ∀ {o : Nat}, o < 0x00200000 → (((s.relayed source kind).fault source kind address).retryAgents).reg o =
      ((s.relayed source kind).accept source kind (s.severity source kind) address).reg o := fun ho =>
    (State.reg_retryAgents (offCore_of_lt ho)).trans (by rw [State.fault_relayed_minor hsev])
  have hworst : (((s.relayed source kind).fault source kind address).retryAgents).fld WATCH_STATUS_WORST =
      max (s.severity source kind) (s.fld WATCH_STATUS_WORST) := by
    rw [State.fld_eq_of_reg (hlow (by decide)), State.fld_accept_worst _ (by omega),
      State.fld_eq_of_reg (f := WATCH_STATUS_WORST) (s.reg_relayed_other source kind (by decide))]
  refine ⟨_, exec_faultMessage_fault hsource hkind haddr, told_faultMessage s source kind address, ?_, ?_, fun htwo => ?_, fun hfull => ?_⟩
  · rw [hworst]
    exact Nat.le_max_left _ _
  · rw [hworst]
    exact Nat.le_max_right _ _
  · obtain ⟨t, hexec, hbit, -⟩ := completes_faultMessage_bits address hsource hkind htwo hsev
    rw [exec_faultMessage_fault hsource hkind haddr] at hexec
    cases hexec
    exact hbit
  · have hrel : (s.relayed source kind).watch = s.watch := (within_relayed s source kind).same .watch (by decide)
    obtain ⟨hwatch, hlost, hraised⟩ := State.accept_full (s := s.relayed source kind) (by rwa [hrel]) source kind (s.severity source kind) address
    refine ⟨?_, ?_, ?_⟩
    · rw [within_retryAgents.same .watch (by decide), State.fault_relayed_minor hsev, hwatch, hrel]
    · rw [hlow (by decide), hlost, s.reg_relayed_other source kind (by decide)]
    · rw [State.fld_eq_of_reg (hlow (by decide)), hraised]

/-- A part of the message's way that no class but the fatal ones goes on. -/
theorem State.phase_retried (t : State) : t.retryAgents.phase = t.phase :=
  State.fld_eq_of_reg (f := DV_STATE_PHASE) (State.reg_retryAgents (offCore_of_lt (by decide)))

theorem State.abandonStop_of_idle {s : State} (h : s.fld PH_STOP_STATUS_STATE < 2) : s.abandonStop = s := if_pos h

theorem State.phase_halt {s : State} (h0 : s.phase ≠ 0) (h7 : s.phase ≠ 7) (h8 : s.phase ≠ 8) (hstop : s.fld PH_STOP_STATUS_STATE < 2)
    (hctxs : s.tally.ctxs = []) : s.halt.phase = 8 := by
  have hserve : (s.setPhase 8).stopServing = s.setPhase 8 := by
    rw [State.stopServing_of_idle (by rwa [State.setPhase_tally]),
      State.abandonStop_of_idle (by rwa [State.fld_setPhase_apart _ _ _ (by decide)])]
  rw [State.halt, if_neg (by omega), if_neg h8, hserve]
  exact s.phase_setPhase 8 (by decide)

theorem State.freezePorts_of_empty {s : State} (hports : ∀ p < 256, s.fld (LN_PORT_W2_STATE p) = 0) {l : List Nat} (hl : ∀ p ∈ l, p < 256) :
    l.foldl State.freezePort s = s := by
  induction l with
  | nil => rfl
  | cons p l ih =>
    rw [List.foldl_cons, State.freezePort, if_pos (hports p (hl p (.head _)))]
    exact ih fun q hq => hl q (.tail _ hq)

theorem State.phase_freeze {s : State} (h0 : s.phase ≠ 0) (h7 : s.phase ≠ 7) (hstop : s.fld PH_STOP_STATUS_STATE < 2) (hctxs : s.tally.ctxs = [])
    (hports : ∀ p < 256, s.fld (LN_PORT_W2_STATE p) = 0) : s.freeze.phase = 7 := by
  have hserve : (if s.phase = 8 then s.setPhase 7 else (s.setPhase 7).stopServing) = s.setPhase 7 := by
    rw [State.stopServing_of_idle (by rwa [State.setPhase_tally]),
      State.abandonStop_of_idle (by rwa [State.fld_setPhase_apart _ _ _ (by decide)]), ite_self]
  have hempty : ∀ p < 256, (s.setPhase 7).fld (LN_PORT_W2_STATE p) = 0 := fun p hp =>
    (State.fld_eq_of_reg (f := LN_PORT_W2_STATE p) (s.reg_setPhase_other 7 _ (by simp only [LN_PORT_W2_STATE, LN_PORT_W2, DV_STATE]; omega))).trans
      (hports p hp)
  rw [State.freeze_eq, if_neg (by omega), hserve, State.freezePorts_of_empty hempty fun p hp => List.mem_range.1 hp,
    State.phase_setFld _ _ _ (by decide)]
  exact s.phase_setPhase 7 (by decide)

/-- What a fatal class finds after its message is what stood before it. -/
theorem State.fld_accepted (s : State) (source kind sev address : Nat) {f : Fld} (ho : f.off < WATCH_CTRL + 8 ∨ WATCH_FIRST 16 ≤ f.off)
    (hne : f.off ≠ TL_CNT 10) : ((s.relayed source kind).accept source kind sev address).fld f = s.fld f :=
  (State.fld_eq_of_reg (State.reg_accept_other _ _ _ _ _ ho)).trans (State.fld_eq_of_reg (s.reg_relayed_other source kind hne))

theorem State.tally_accepted (s : State) (source kind sev address : Nat) : ((s.relayed source kind).accept source kind sev address).tally = s.tally :=
  (within_accept.same .tally (by decide)).trans (s.relayed_tally source kind)

theorem completes_faultMessage_halt {s : State} {source kind address : Nat} (hsource : sourceListed source = true) (hkind : faultKindListed kind = true)
    (haddr : address < 2 ^ 40) (hsev : s.severity source kind = 4) (h0 : s.phase ≠ 0) (h7 : s.phase ≠ 7) (h8 : s.phase ≠ 8)
    (hstop : s.fld PH_STOP_STATUS_STATE < 2) (hctxs : s.tally.ctxs = []) :
    Completes (.faultMessage source kind address) s (fun t => Told s t source kind address ∧ t.phase = 8) := by
  refine ⟨_, exec_faultMessage_fault hsource hkind haddr, told_faultMessage s source kind address, ?_⟩
  have hphase : ((s.relayed source kind).accept source kind 4 address).phase = s.phase :=
    s.fld_accepted source kind 4 address (f := DV_STATE_PHASE) (by decide) (by decide)
  rw [State.phase_retried, State.fault, s.severity_relayed, hsev]
  refine State.phase_halt (by rwa [hphase]) (by rwa [hphase]) (by rwa [hphase]) ?_ (by rwa [s.tally_accepted])
  rwa [s.fld_accepted _ _ _ _ (by decide) (by decide)]

theorem completes_faultMessage_freeze {s : State} {source kind address : Nat} (hsource : sourceListed source = true) (hkind : faultKindListed kind = true)
    (haddr : address < 2 ^ 40) (hsev : s.severity source kind = 5) (h0 : s.phase ≠ 0) (h7 : s.phase ≠ 7)
    (hstop : s.fld PH_STOP_STATUS_STATE < 2) (hports : ∀ p < 256, s.fld (LN_PORT_W2_STATE p) = 0) (hctxs : s.tally.ctxs = []) :
    Completes (.faultMessage source kind address) s (fun t => Told s t source kind address ∧ t.phase = 7) := by
  refine ⟨_, exec_faultMessage_fault hsource hkind haddr, told_faultMessage s source kind address, ?_⟩
  have hphase : ((s.relayed source kind).accept source kind 5 address).phase = s.phase :=
    s.fld_accepted source kind 5 address (f := DV_STATE_PHASE) (by decide) (by decide)
  rw [State.phase_retried, State.fault, s.severity_relayed, hsev]
  refine State.phase_freeze (by rwa [hphase]) (by rwa [hphase]) ?_ (by rwa [s.tally_accepted]) fun p hp => ?_
  · rwa [s.fld_accepted _ _ _ _ (by decide) (by decide)]
  · rw [s.fld_accepted _ _ _ _ (by simp only [LN_PORT_W2_STATE, LN_PORT_W2, WATCH_FIRST]; omega)
      (by simp only [LN_PORT_W2_STATE, LN_PORT_W2, TL_CNT]; omega)]
    exact hports p hp

theorem completes_faultMessage_unlisted {s : State} {source kind : Nat} (address : Nat) (h : sourceListed source = false ∨ faultKindListed kind = false) :
    Completes (.faultMessage source kind address) s (fun t => t = s) := by
  refine ⟨_, exec_faultMessage_eq s source kind address, if_neg ?_⟩
  rcases h with h | h <;> simp [h]

/-- A tally's own error is counted, and told (R188, R392). -/
theorem completes_faultMessage_tally {s : State} (address : Nat) (hsev : s.severity 0x060 0x05 < 4) :
    Completes (.faultMessage 0x060 0x05 address) s (fun t =>
      t.reg (TL_CNT 10) = s.reg (TL_CNT 10) + 1 ∧ Told s t 0x060 0x05 (address % 2 ^ 40)) := by
  refine ⟨_, s.exec_faultMessage_listed (by decide) (by decide) address, ?_, told_faultMessage s _ _ _⟩
  rw [State.reg_retryAgents (offCore_between (by decide) (by decide)), State.fault_relayed_minor hsev,
    State.reg_accept_other _ _ _ _ _ (.inr (by decide))]
  exact State.reg_count_same _ _

/-! ### The edge at which a message is accepted (R392) -/

theorem le_scEdge (t : Nat) : t ≤ scEdge t := by
  have hedges : ∀ r < 32, r ≤ ceilDiv (32 * ceilDiv (5 * r) 32) 5 := by decide
  have h := hedges (t % 32) (Nat.mod_lt _ (by decide))
  unfold scEdge
  omega

/-- From one edge to the next it is at most 7 ticks. -/
theorem scEdge_next (t : Nat) : scEdge (scEdge t + 1) ≤ scEdge t + 7 := by
  have hedges : ∀ r < 32, scEdge (ceilDiv (32 * ceilDiv (5 * r) 32) 5 + 1) ≤ ceilDiv (32 * ceilDiv (5 * r) 32) 5 + 7 := by decide
  have hperiod : ∀ n k : Nat, scEdge (n * 32 + k) = n * 32 + scEdge k := by
    intro n k
    have hmod : (n * 32 + k) % 32 = k % 32 := by omega
    unfold scEdge
    rw [hmod]
    omega
  have h := hedges (t % 32) (Nat.mod_lt _ (by decide))
  have ht : scEdge t = t / 32 * 32 + ceilDiv (32 * ceilDiv (5 * (t % 32)) 32) 5 := rfl
  rw [ht, Nat.add_assoc, hperiod]
  omega

theorem State.acceptEdge_of_taken {s : State} (hedge : s.watch.edge = s.edgeFrom s.free) (htaken : s.watch.taken = 4) :
    s.acceptEdge.2 = 0 ∧ s.watch.edge < s.acceptEdge.1 ∧ s.acceptEdge.1 ≤ s.watch.edge + 7 := by
  have haccept : s.acceptEdge = (s.edgeFrom (s.watch.edge + 1), 0) := by
    rw [State.acceptEdge, if_neg (by omega), if_neg (by omega)]
  have hfirst : s.watch.edge = s.free + scEdge s.now - s.now := by
    rw [hedge, State.edgeFrom, Nat.sub_self, Nat.add_zero]
  have hahead := le_scEdge s.now
  have hlater := le_scEdge (scEdge s.now + 1)
  have hnext := scEdge_next s.now
  have hgap : s.now + (s.watch.edge + 1 - s.free) = scEdge s.now + 1 := by omega
  rw [haccept]
  refine ⟨rfl, ?_, ?_⟩
  · show s.watch.edge < s.edgeFrom (s.watch.edge + 1)
    rw [State.edgeFrom, hgap]
    omega
  · show s.edgeFrom (s.watch.edge + 1) ≤ s.watch.edge + 7
    rw [State.edgeFrom, hgap]
    omega

/-- A message that follows another at the same edge stands behind those of no higher source (R392). -/
theorem State.enterWatch_second {s : State} {m : Word × Nat} (hwatch : s.watch = { queue := [m], edge := s.edgeFrom s.free, taken := 1 }) (w : Word) :
    (s.enterWatch w).watch.queue = (if bitsOf m.1.toNat 63 54 ≤ bitsOf w.toNat 63 54 then [m, (w, s.acceptTick)] else [(w, s.acceptTick), m]) ∧
      (s.enterWatch w).watch.taken = 2 := by
  have haccept : s.acceptEdge = (s.watch.edge, 1) := by
    rw [State.acceptEdge, hwatch, if_neg (by dsimp only; omega), if_pos (by dsimp only; omega)]
  unfold State.enterWatch
  rw [haccept, hwatch]
  dsimp only
  by_cases h : bitsOf m.1.toNat 63 54 ≤ bitsOf w.toNat 63 54
  · simp [h, List.span_eq_takeWhile_dropWhile, State.modWatch]
  · simp [h, List.span_eq_takeWhile_dropWhile, State.modWatch]

theorem bitsOf_faultWord_source {source : Nat} (h : source < 1024) (kind sev address : Nat) :
    bitsOf (faultWord source kind sev address).toNat 63 54 = source := by
  refine Nat.eq_of_testBit_eq fun i => ?_
  rw [bitsOf_testBit, ← BitVec.getLsbD, faultWord]
  simp only [BitVec.getLsbD_or, placed_getLsbD]
  by_cases hi : i < 10
  · have hkind : ¬ 54 + i - 48 < 6 := by omega
    have hsev : ¬ 54 + i - 45 < 3 := by omega
    have haddr : ¬ 54 + i < 40 := by omega
    have hword : 54 + i < 64 := by omega
    simp [hkind, hsev, hword, hi, haddr]
  · have hbit : source.testBit i = false := Nat.testBit_lt_two_pow (h.trans_le (Nat.pow_le_pow_right (n := 2) (i := 10) (by decide) (by omega)))
    simp [hi, hbit]

theorem completes_faultMessage_second {s : State} {m : Word × Nat} {source kind address : Nat} (hsource : sourceListed source = true)
    (hkind : faultKindListed kind = true) (haddr : address < 2 ^ 40) (hsev : s.severity source kind < 4)
    (hwatch : s.watch = { queue := [m], edge := s.edgeFrom s.free, taken := 1 }) :
    Completes (.faultMessage source kind address) s (fun t =>
      t.watch.queue = (if bitsOf m.1.toNat 63 54 ≤ source then [m, (faultWord source kind (s.severity source kind) address, s.acceptTick)]
        else [(faultWord source kind (s.severity source kind) address, s.acceptTick), m]) ∧ t.watch.taken = 2) := by
  refine ⟨_, exec_faultMessage_fault hsource hkind haddr, ?_⟩
  have hw : Within [.regs] s ((s.relayed source kind).marked source (s.severity source kind)) :=
    (within_marked _ _ _).andThen (by decide) (within_relayed s source kind)
  have hwatch2 := hw.same .watch (by decide)
  have hbell := hw.same .bell (by decide)
  dsimp only
  rw [within_retryAgents.same .watch (by decide), State.fault_relayed_minor hsev, State.accept_eq]
  generalize (s.relayed source kind).marked source (s.severity source kind) = u at hwatch2 hbell ⊢
  have hnow : u.now = s.now := State.now_eq_of_bell hbell
  have hfree : u.free = s.free := congrArg BellUnit.free hbell
  have hedge : u.edgeFrom u.free = s.edgeFrom s.free := by
    simp only [State.edgeFrom, hnow, hfree]
  have htick : u.acceptTick = s.acceptTick := by
    unfold State.acceptTick State.acceptEdge State.edgeFrom
    rw [hnow, hfree, hwatch2]
  have h := State.enterWatch_second (s := u) (m := m) (by rw [hwatch2, hedge, hwatch]) (faultWord source kind (s.severity source kind) address)
  rw [bitsOf_faultWord_source (sourceListed_lt hsource), htick] at h
  rwa [if_pos (by rw [hwatch2, hwatch]; show 1 < 512; decide)]

/-! ### The ring (R393, R394, R396) -/

/-- The state in which the message at the queue's front stands in the ring. -/
def State.ringed (s : State) (m : Word × Nat) (rest : List (Word × Nat)) : State :=
  ((((s.modWatch (fun q => { q with queue := rest })).setReg (WATCH_RING_MSG (s.fld WATCH_STATUS_HEAD)) m.1).setReg
    (WATCH_RING_TICK (s.fld WATCH_STATUS_HEAD)) (BitVec.ofNat 64 m.2)).setFld WATCH_STATUS_HEAD ((s.fld WATCH_STATUS_HEAD + 1) % 4096)).setFld
    WATCH_STATUS_TOTAL ((s.fld WATCH_STATUS_TOTAL + 1) % 2 ^ 48)

theorem exec_ringEntry {s : State} {m : Word × Nat} {rest : List (Word × Nat)} (h : s.watch.queue = m :: rest) : exec .ringEntry s =
    if bitsOf m.1.toNat 47 45 < (s.ringed m rest).fld WATCH_CTRL_NOTIFY_MIN then .next (s.ringed m rest)
    else .next (((s.ringed m rest).noticeHost m (s.fld WATCH_STATUS_TOTAL)).sentMctp (0x22 :: ringBytes m)) := by
  show execRingEntry s = _
  rw [execRingEntry, h]
  rfl

theorem State.reg_ringed_other (s : State) (m : Word × Nat) (rest : List (Word × Nat)) {o : Nat} (hstatus : o ≠ WATCH_STATUS)
    (hring : o < WATCH_RING_MSG 0 ∨ WATCH_RING_MSG 4096 ≤ o) : (s.ringed m rest).reg o = s.reg o := by
  have hhead : s.fld WATCH_STATUS_HEAD < 4096 := s.fld_lt WATCH_STATUS_HEAD
  have hmsg : o ≠ WATCH_RING_MSG (s.fld WATCH_STATUS_HEAD) := by
    unfold WATCH_RING_MSG at hring ⊢
    omega
  have htick : o ≠ WATCH_RING_TICK (s.fld WATCH_STATUS_HEAD) := by
    unfold WATCH_RING_MSG at hring
    unfold WATCH_RING_TICK
    omega
  rw [State.ringed, State.reg_setFld_other _ _ _ hstatus, State.reg_setFld_other _ _ _ hstatus, State.reg_setReg_other _ _ htick,
    State.reg_setReg_other _ _ hmsg]
  rfl

theorem State.fld_ringed_other (s : State) (m : Word × Nat) (rest : List (Word × Nat)) {f : Fld} (hstatus : f.off ≠ WATCH_STATUS)
    (hring : f.off < WATCH_RING_MSG 0 ∨ WATCH_RING_MSG 4096 ≤ f.off) : (s.ringed m rest).fld f = s.fld f :=
  State.fld_eq_of_reg (s.reg_ringed_other m rest hstatus hring)

/-- The ring's entry holds the message and its time, and the counts have moved on. -/
theorem State.ringed_entry (s : State) (m : Word × Nat) (rest : List (Word × Nat)) :
    (s.ringed m rest).reg (WATCH_RING_MSG (s.fld WATCH_STATUS_HEAD)) = m.1 ∧
    (s.ringed m rest).reg (WATCH_RING_TICK (s.fld WATCH_STATUS_HEAD)) = BitVec.ofNat 64 m.2 ∧
    (s.ringed m rest).fld WATCH_STATUS_HEAD = (s.fld WATCH_STATUS_HEAD + 1) % 4096 ∧
    (s.ringed m rest).fld WATCH_STATUS_TOTAL = (s.fld WATCH_STATUS_TOTAL + 1) % 2 ^ 48 := by
  have hmsg : ∀ n, WATCH_RING_MSG n ≠ WATCH_STATUS := fun n => by unfold WATCH_RING_MSG WATCH_STATUS; omega
  have htick : ∀ n, WATCH_RING_TICK n ≠ WATCH_STATUS := fun n => by unfold WATCH_RING_TICK WATCH_STATUS; omega
  refine ⟨?_, ?_, ?_, ?_⟩
  · rw [State.ringed, State.reg_setFld_other _ _ _ (hmsg _), State.reg_setFld_other _ _ _ (hmsg _),
      State.reg_setReg_other _ _ (by unfold WATCH_RING_MSG WATCH_RING_TICK; omega), State.reg_setReg_same]
  · rw [State.ringed, State.reg_setFld_other _ _ _ (htick _), State.reg_setFld_other _ _ _ (htick _), State.reg_setReg_same]
  · rw [State.ringed, State.fld_setFld_apart _ _ _ _ (by decide)]
    exact State.fld_setFld_fits _ (by decide) (Nat.mod_lt _ (by decide))
  · exact State.fld_setFld_fits _ (by decide) (Nat.mod_lt _ (by decide))

theorem ringBytes_length (m : Word × Nat) : (ringBytes m).length = 16 := by
  rw [ringBytes, List.length_append, natLE_length, natLE_length]

theorem completes_ringEntry_quiet {s : State} {m : Word × Nat} {rest : List (Word × Nat)} (h : s.watch.queue = m :: rest)
    (hmin : bitsOf m.1.toNat 47 45 < s.fld WATCH_CTRL_NOTIFY_MIN) :
    Completes .ringEntry s (fun t => t.watch.queue = rest ∧ t.reg (WATCH_RING_MSG (s.fld WATCH_STATUS_HEAD)) = m.1 ∧
      t.reg (WATCH_RING_TICK (s.fld WATCH_STATUS_HEAD)) = BitVec.ofNat 64 m.2 ∧ t.fld WATCH_STATUS_HEAD = (s.fld WATCH_STATUS_HEAD + 1) % 4096 ∧
      t.fld WATCH_STATUS_TOTAL = (s.fld WATCH_STATUS_TOTAL + 1) % 2 ^ 48 ∧ t.out = s.out) := by
  obtain ⟨hmsg, htick, hhead, htotal⟩ := s.ringed_entry m rest
  refine ⟨s.ringed m rest, ?_, rfl, hmsg, htick, hhead, htotal, rfl⟩
  rw [exec_ringEntry h, s.fld_ringed_other m rest (by decide) (by decide), if_pos hmin]

theorem exec_ringEntry_notice {s : State} {m : Word × Nat} {rest : List (Word × Nat)} (h : s.watch.queue = m :: rest)
    (hmin : s.fld WATCH_CTRL_NOTIFY_MIN ≤ bitsOf m.1.toNat 47 45) :
    exec .ringEntry s = .next (((s.ringed m rest).noticeHost m (s.fld WATCH_STATUS_TOTAL)).sentMctp (0x22 :: ringBytes m)) := by
  rw [exec_ringEntry h, s.fld_ringed_other m rest (by decide) (by decide), if_neg (by omega)]

theorem State.linkUp_ringed (s : State) (m : Word × Nat) (rest : List (Word × Nat)) : (s.ringed m rest).linkUp = s.linkUp := by
  rw [State.linkUp, s.fld_ringed_other m rest (by decide) (by decide), State.linkUp]

theorem completes_ringEntry_steward {s : State} {m : Word × Nat} {rest : List (Word × Nat)} (h : s.watch.queue = m :: rest)
    (hmin : s.fld WATCH_CTRL_NOTIFY_MIN ≤ bitsOf m.1.toNat 47 45) (hlink : s.linkUp = false) :
    Completes .ringEntry s (fun t => t.watch.queue = rest ∧ t.reg (WATCH_RING_MSG (s.fld WATCH_STATUS_HEAD)) = m.1 ∧
      t.out.mctp = s.out.mctp ++ [0x22 :: ringBytes m] ∧ t.out.hostMem = s.out.hostMem) := by
  have hnotice : (s.ringed m rest).noticeHost m (s.fld WATCH_STATUS_TOTAL) = s.ringed m rest := by
    rw [State.noticeHost, s.linkUp_ringed, hlink]
    rfl
  refine ⟨_, exec_ringEntry_notice h hmin, ?_⟩
  rw [hnotice]
  exact ⟨rfl, (s.ringed_entry m rest).1, rfl, rfl⟩

theorem State.out_msix (s : State) (v : Nat) : (s.msix v).out.hostMem = s.out.hostMem ∧ (s.msix v).out.mctp = s.out.mctp := by
  have hsent : ∀ o : Output, (if s.flag (MSIX_CTL_MASK v) then { o with pba := o.pba.filter (· != v) ++ [v] } else { o with msix := o.msix ++ [v] }).hostMem =
      o.hostMem ∧ (if s.flag (MSIX_CTL_MASK v) then { o with pba := o.pba.filter (· != v) ++ [v] } else { o with msix := o.msix ++ [v] }).mctp =
      o.mctp := fun o => by split <;> exact ⟨rfl, rfl⟩
  unfold State.msix
  split
  · exact hsent s.out
  · exact ⟨rfl, rfl⟩

theorem State.out_qVector (s : State) (q : Nat) : (s.qVector q).out.hostMem = s.out.hostMem ∧ (s.qVector q).out.mctp = s.out.mctp := by
  unfold State.qVector
  split
  · exact s.out_msix _
  · split
    · exact s.out_msix _
    · exact ⟨rfl, rfl⟩

/-- A queue's entry goes to its place in host memory, the last byte the tag (R433). -/
theorem State.out_qWrite (s : State) (q : Nat) (entry : List Byte) :
    (s.qWrite q entry).out.hostMem = s.out.hostMem ++ [(s.fld (MB_QBASE_ADDR q) * 4096 + 32 * s.fld (MB_QTAIL_TAIL q),
      padTo 31 entry ++ [if s.host.tags.getD q true then 1 else 0])] ∧
    (s.qWrite q entry).out.mctp = s.out.mctp := by
  unfold State.qWrite
  extract_lets tail tag at_ s1 next s2
  have hs2 : (if next = 0 then s2.modHost (fun h => { h with tags := modifyAt (fun b => !b) q h.tags }) else s2).out = s1.out := by
    split <;> rfl
  obtain ⟨hmem, hmctp⟩ := State.out_qVector (if next = 0 then s2.modHost (fun h => { h with tags := modifyAt (fun b => !b) q h.tags }) else s2) q
  rw [hmem, hmctp, hs2]
  exact ⟨rfl, rfl⟩

theorem State.qReady_ringed (s : State) (m : Word × Nat) (rest : List (Word × Nat)) : (s.ringed m rest).qReady 0 = s.qReady 0 := by
  have hsize : (s.ringed m rest).qSize 0 = s.qSize 0 := by rw [State.qSize, s.fld_ringed_other m rest (by decide) (by decide), State.qSize]
  have hused : (s.ringed m rest).qUsed 0 = s.qUsed 0 := by
    rw [State.qUsed, s.fld_ringed_other m rest (by decide) (by decide), s.fld_ringed_other m rest (by decide) (by decide), hsize, State.qUsed]
  rw [State.qReady, State.flag, s.fld_ringed_other m rest (by decide) (by decide), s.linkUp_ringed, hsize, hused, State.qReady, State.flag]

theorem completes_ringEntry_host {s : State} {m : Word × Nat} {rest : List (Word × Nat)} (h : s.watch.queue = m :: rest)
    (hmin : s.fld WATCH_CTRL_NOTIFY_MIN ≤ bitsOf m.1.toNat 47 45) (hready : s.qReady 0 = true) :
    Completes .ringEntry s (fun t => t.watch.queue = rest ∧ t.out.mctp = s.out.mctp ++ [0x22 :: ringBytes m] ∧
      t.out.hostMem.map (·.1) = s.out.hostMem.map (·.1) ++ [s.fld (MB_QBASE_ADDR 0) * 4096 + 32 * s.fld (MB_QTAIL_TAIL 0)] ∧
      t.out.hostMem.map (·.2.take 24) = s.out.hostMem.map (·.2.take 24) ++ [ringBytes m ++ natLE 8 (s.fld WATCH_STATUS_TOTAL)]) := by
  have hlink : s.linkUp = true := by
    rw [State.qReady, Bool.and_eq_true, Bool.and_eq_true] at hready
    exact hready.1.2
  have hnotice : (s.ringed m rest).noticeHost m (s.fld WATCH_STATUS_TOTAL) =
      (s.ringed m rest).qWrite 0 (ringBytes m ++ natLE 8 (s.fld WATCH_STATUS_TOTAL)) := by
    rw [State.noticeHost, s.linkUp_ringed, hlink, s.qReady_ringed, hready]
    rfl
  have hlen : (ringBytes m ++ natLE 8 (s.fld WATCH_STATUS_TOTAL)).length = 24 := by
    rw [List.length_append, ringBytes_length, natLE_length]
  obtain ⟨hmem, hmctp⟩ := (s.ringed m rest).out_qWrite 0 (ringBytes m ++ natLE 8 (s.fld WATCH_STATUS_TOTAL))
  refine ⟨_, exec_ringEntry_notice h hmin, ?_⟩
  rw [hnotice]
  refine ⟨?_, ?_, ?_, ?_⟩
  · exact congrArg WatchQ.queue (within_qWrite.same .watch (by decide))
  · exact congrArg (· ++ [0x22 :: ringBytes m]) hmctp
  · refine (congrArg (List.map (·.1)) hmem).trans ?_
    rw [List.map_append, List.map_singleton, s.fld_ringed_other m rest (by decide) (by decide), s.fld_ringed_other m rest (by decide) (by decide)]
    rfl
  · refine (congrArg (List.map (·.2.take 24)) hmem).trans ?_
    rw [List.map_append, List.map_singleton]
    have htake : ∀ tag : Byte, (padTo 31 (ringBytes m ++ natLE 8 (s.fld WATCH_STATUS_TOTAL)) ++ [tag]).take 24 =
        ringBytes m ++ natLE 8 (s.fld WATCH_STATUS_TOTAL) := fun tag => by
      rw [padTo, List.append_assoc, List.take_of_length_le (l := ringBytes m ++ _) (by omega), List.take_left' hlen]
    exact congrArg (_ ++ [·]) (htake _)

/-! ### Injected messages (R407) -/

theorem completes_inject {s : State} {value : Nat} (hgo : value.testBit 63 = true) (hsev : s.severity 0x3FE (bitsOf value 53 48) < 4) :
    Completes (.inject value) s (fun t => Told s t 0x3FE (bitsOf value 53 48) (bitsOf value 39 0)) := by
  refine ⟨(s.writePlain WATCH_INJECT value).fault 0x3FE (bitsOf value 53 48) (bitsOf value 39 0), ?_,
    Told.of_fault (u := s.writePlain WATCH_INJECT value) rfl rfl ?_ rfl⟩
  · show execInject value s = _
    rw [execInject, hgo, if_neg (by decide), if_neg (by omega)]
  · exact State.severity_congr (State.reg_setReg_other _ _ (by decide)) _

theorem completes_inject_refused {s : State} {value : Nat} (hgo : value.testBit 63 = true) (hsev : 4 ≤ s.severity 0x3FE (bitsOf value 53 48)) :
    Completes (.inject value) s (fun t => t.fld WATCH_ERR_INJECT_REFUSED = 1 ∧ t.watch = s.watch ∧ t.phase = s.phase) := by
  refine ⟨s.raise WATCH_ERR_INJECT_REFUSED, ?_, State.fld_raise_same _ _ (by decide), rfl, State.phase_raise _ _ (by decide)⟩
  show execInject value s = _
  rw [execInject, hgo, if_neg (by decide), if_pos hsev]

/-! ### Proof suites (R408 to R410) -/

theorem State.reg_startProof (s : State) (c : Nat) {o : Nat} (h : o ≠ PH_PROOF_STATUS) : (s.startProof c).reg o = s.reg o :=
  State.reg_raise_other _ _ h

theorem State.busy_startProof (s : State) (c : Nat) : (s.startProof c).fld PH_PROOF_STATUS_BUSY = 1 := State.fld_raise_same _ _ (by decide)

theorem State.clusters_startProof (s : State) (c : Nat) : (s.startProof c).clusters = (s.modCore c (fun k => { k with proof := true })).clusters := rfl

theorem State.proof_startProof {s : State} {c d : Nat} (hd : d < s.clusters.cores.length) :
    ((s.startProof c).core d).proof = ((s.core d).proof || d == c) := by
  have hcore : (s.startProof c).core d = (s.modCore c (fun k => { k with proof := true })).core d :=
    State.core_eq_of_clusters (s.clusters_startProof c) d
  rw [hcore, State.core_modCore]
  by_cases h : c = d
  · simp [h, hd]
  · simp [h, Ne.symm h]

/-- Suites started on a list of cores. -/
theorem State.startProofs {cores : List Nat} {s : State} (hcores : s.clusters.cores.length = 24) :
    (cores ≠ [] → (cores.foldl State.startProof s).fld PH_PROOF_STATUS_BUSY = 1) ∧
    ∀ d < 24, ((cores.foldl State.startProof s).core d).proof = ((s.core d).proof || cores.contains d) := by
  induction cores generalizing s with
  | nil => exact ⟨fun h => absurd rfl h, fun d _ => by simp⟩
  | cons c cores ih =>
    have hlen : (s.startProof c).clusters.cores.length = 24 := by
      rw [s.clusters_startProof]
      exact (modifyAt_length _ _ _).trans hcores
    obtain ⟨hbusy, hproof⟩ := ih hlen
    rw [List.foldl_cons]
    refine ⟨fun _ => ?_, fun d hd => ?_⟩
    · by_cases hnil : cores = []
      · rw [hnil]
        exact s.busy_startProof c
      · exact hbusy hnil
    · rw [hproof d hd, State.proof_startProof (by omega), List.contains_cons, Bool.or_assoc]

theorem exec_proofGo {s : State} {value : Nat} (hgo : value.testBit 63 = true) : exec (.proofGo value) s =
    if (onesOf (bitsOf value 23 0) 24).all s.proofable then
      .next ((onesOf (bitsOf value 23 0) 24).foldl State.startProof (s.writePlain PH_PROOF_CTRL value))
    else .next ((s.writePlain PH_PROOF_CTRL value).raise PH_ERR_PROOF_REFUSED) := by
  show execProofGo value s = _
  rw [execProofGo, hgo]
  rfl

theorem mem_onesOf {v n i : Nat} : i ∈ onesOf v n ↔ i < n ∧ v.testBit i = true := by
  rw [onesOf, List.mem_filter, List.mem_range]

theorem testBit_bitsOf_low {v hi i : Nat} (h : i ≤ hi) : (bitsOf v hi 0).testBit i = v.testBit i := by
  rw [bitsOf_testBit, Nat.zero_add]
  simp only [Bool.and_eq_right_iff_imp]
  exact fun _ => by simpa using by omega

theorem mem_onesOf_cores {value c : Nat} : c ∈ onesOf (bitsOf value 23 0) 24 ↔ c < 24 ∧ value.testBit c = true := by
  rw [mem_onesOf]
  exact and_congr_right fun hc => by rw [testBit_bitsOf_low (by omega)]

theorem onesOf_ne_nil {v n : Nat} (h0 : v ≠ 0) (hlt : v < 2 ^ n) : onesOf v n ≠ [] := by
  obtain ⟨i, hi⟩ := Nat.exists_testBit_of_ne_zero h0
  have hin : i < n := by
    by_contra hn
    rw [Nat.testBit_lt_two_pow (hlt.trans_le (Nat.pow_le_pow_right (by decide) (by omega)))] at hi
    cases hi
  exact List.ne_nil_of_mem (mem_onesOf.2 ⟨hin, hi⟩)

theorem completes_proofGo {s : State} {value : Nat} (hlen : s.clusters.cores.length = 24) (hgo : value.testBit 63 = true) (hsome : bitsOf value 23 0 ≠ 0)
    (hable : ∀ c < 24, value.testBit c = true → s.proofable c = true) :
    Completes (.proofGo value) s (fun t => t.fld PH_PROOF_STATUS_BUSY = 1 ∧
      ∀ c < 24, (t.core c).proof = ((s.core c).proof || value.testBit c)) := by
  have hall : (onesOf (bitsOf value 23 0) 24).all s.proofable = true :=
    List.all_eq_true.2 fun c hc => hable c (mem_onesOf_cores.1 hc).1 (mem_onesOf_cores.1 hc).2
  obtain ⟨hbusy, hproof⟩ := State.startProofs (cores := onesOf (bitsOf value 23 0) 24) (s := s.writePlain PH_PROOF_CTRL value) hlen
  refine ⟨_, by rw [exec_proofGo hgo, if_pos hall], hbusy (onesOf_ne_nil hsome (bitsOf_lt value 23 0)), fun c hc => ?_⟩
  rw [hproof c hc]
  congr 1
  rw [Bool.eq_iff_iff, List.contains_iff_mem, mem_onesOf_cores]
  exact and_iff_right hc

theorem completes_proofGo_refused {s : State} {value c : Nat} (hgo : value.testBit 63 = true) (hc : c < 24) (hbit : value.testBit c = true)
    (hable : s.proofable c = false) :
    Completes (.proofGo value) s (fun t => t.fld PH_ERR_PROOF_REFUSED = 1 ∧ t.clusters = s.clusters) := by
  have hall : ¬ (onesOf (bitsOf value 23 0) 24).all s.proofable = true := fun h => by
    have := List.all_eq_true.1 h c (mem_onesOf_cores.2 ⟨hc, hbit⟩)
    rw [hable] at this
    cases this
  exact ⟨(s.writePlain PH_PROOF_CTRL value).raise PH_ERR_PROOF_REFUSED, by rw [exec_proofGo hgo, if_neg hall], State.fld_raise_same _ _ (by decide), rfl⟩

theorem completes_proofAutoStart {s : State} {c : Nat} (hc : c < 24) (hlen : s.clusters.cores.length = 24) (hrun : s.flag PH_PROOF_CTRL_AUTO_RUN = true)
    (hquar : s.quarantined c = true) (hidle : (s.core c).idle = true) (hproof : (s.core c).proof = false) (hproofed : (s.core c).proofed = false)
    (hready : s.proofReady = true) :
    Completes (.proofAutoStart c) s (fun t => (t.core c).proof = true ∧ t.fld PH_PROOF_STATUS_BUSY = 1) := by
  refine ⟨s.startProof c, ?_, ?_, s.busy_startProof c⟩
  · show execProofAutoStart c s = _
    rw [execProofAutoStart]
    exact if_pos (by simp [hc, hrun, hquar, hidle, hproof, hproofed, hready])
  · rw [State.proof_startProof (by omega), beq_self_eq_true, Bool.or_true]

theorem completes_proofAutoStart_none {s : State} {c : Nat}
    (h : s.flag PH_PROOF_CTRL_AUTO_RUN = false ∨ s.quarantined c = false ∨ (s.core c).proofed = true) :
    Completes (.proofAutoStart c) s (fun t => t = s) := by
  refine ⟨s, ?_, rfl⟩
  show execProofAutoStart c s = _
  rw [execProofAutoStart]
  exact if_neg (by rcases h with h | h | h <;> simp [h])

/-! #### The end of a suite -/

/-- The state in which a core's suite has ended with its verdict. -/
def State.suiteEnded (s : State) (c : Nat) (pass : Bool) : State :=
  let s1 := s.modCore c (fun k => { k with proof := false, proofed := true, quarHeld := false })
  let s2 := (s1.setFld PH_PROOF_STATUS_PASS (putBitOf (s1.fld PH_PROOF_STATUS_PASS) c pass)).setFld PH_PROOF_STATUS_FAIL
    (putBitOf (s1.fld PH_PROOF_STATUS_FAIL) c (!pass))
  s2.setFld PH_PROOF_STATUS_BUSY (if s2.clusters.cores.any (·.proof) then 1 else 0)

theorem exec_proofSuiteDone_pass {s : State} {c : Nat} (h : (s.core c).proof = true) : exec (.proofSuiteDone c none) s = .next
    (if (s.core c).quarHeld || (s.suiteEnded c true).flag PH_PROOF_CTRL_AUTO_RETURN then
      (s.suiteEnded c true).setRegBit (CL_QUAR (c / 4)) (c % 4) false else s.suiteEnded c true) := by
  show execProofSuiteDone c none s = _
  rw [execProofSuiteDone, h]
  rfl

theorem exec_proofSuiteDone_fail {s : State} {c : Nat} (h : (s.core c).proof = true) (failing : Nat) : exec (.proofSuiteDone c (some failing)) s = .next
    (if (s.core c).quarHeld then ((s.suiteEnded c false).fault (0xA0 + c) 0x0A failing).setRegBit (CL_QUAR (c / 4)) (c % 4) false
      else (s.suiteEnded c false).fault (0xA0 + c) 0x0A failing) := by
  show execProofSuiteDone c (some failing) s = _
  rw [execProofSuiteDone, h]
  dsimp only [Option.isNone]
  rw [Bool.false_and, Bool.or_false]
  rfl

theorem putBitOf_lt {v i n : Nat} (b : Bool) (hv : v < 2 ^ n) (hi : i < n) : putBitOf v i b < 2 ^ n := by
  refine Nat.lt_pow_two_of_testBit _ fun j hj => ?_
  rw [testBit_putBitOf, if_neg (by omega)]
  exact Nat.testBit_lt_two_pow (hv.trans_le (Nat.pow_le_pow_right (by decide) hj))

theorem State.suiteEnded_core {s : State} {c : Nat} (hc : c < 24) (hlen : s.clusters.cores.length = 24) (pass : Bool) :
    ((s.suiteEnded c pass).core c).proof = false ∧ ((s.suiteEnded c pass).core c).proofed = true := by
  have hcore : (s.suiteEnded c pass).core c = { s.core c with proof := false, proofed := true, quarHeld := false } :=
    (State.core_eq_of_clusters rfl c).trans (State.core_modCore_same (by omega) _)
  rw [hcore]
  exact ⟨rfl, rfl⟩

theorem State.suiteEnded_verdict (s : State) {c : Nat} (hc : c < 24) (pass : Bool) :
    ((s.suiteEnded c pass).fld PH_PROOF_STATUS_PASS).testBit c = pass ∧ ((s.suiteEnded c pass).fld PH_PROOF_STATUS_FAIL).testBit c = !pass := by
  constructor
  · rw [State.suiteEnded, State.fld_setFld_apart _ _ _ _ (by decide), State.fld_setFld_apart _ _ _ _ (by decide),
      State.fld_setFld_fits _ (by decide) (putBitOf_lt _ (State.fld_lt _ _) hc), testBit_putBitOf, if_pos rfl]
  · rw [State.suiteEnded, State.fld_setFld_apart _ _ _ _ (by decide),
      State.fld_setFld_fits _ (by decide) (putBitOf_lt _ (State.fld_lt _ _) hc), testBit_putBitOf, if_pos rfl]

theorem State.reg_suiteEnded (s : State) (c : Nat) (pass : Bool) {o : Nat} (h : o ≠ PH_PROOF_STATUS) : (s.suiteEnded c pass).reg o = s.reg o := by
  rw [State.suiteEnded]
  rw [State.reg_setFld_other _ _ _ h, State.reg_setFld_other _ _ _ h, State.reg_setFld_other _ _ _ h]
  rfl

theorem quar_ne_proofStatus (c : Nat) : PH_PROOF_STATUS ≠ CL_QUAR (c / 4) := by
  unfold PH_PROOF_STATUS CL_QUAR
  omega

theorem completes_proofSuiteDone_pass {s : State} {c : Nat} (hc : c < 24) (hlen : s.clusters.cores.length = 24) (hproof : (s.core c).proof = true) :
    Completes (.proofSuiteDone c none) s (fun t =>
      (t.core c).proof = false ∧ (t.core c).proofed = true ∧ (t.fld PH_PROOF_STATUS_PASS).testBit c = true ∧
      (t.fld PH_PROOF_STATUS_FAIL).testBit c = false ∧
      (s.flag PH_PROOF_CTRL_AUTO_RETURN = true → t.regBit (CL_QUAR (c / 4)) (c % 4) = false)) := by
  obtain ⟨hnone, hdone⟩ := State.suiteEnded_core hc hlen true
  obtain ⟨hpass, hfail⟩ := s.suiteEnded_verdict hc true
  have hreturn : (s.suiteEnded c true).flag PH_PROOF_CTRL_AUTO_RETURN = s.flag PH_PROOF_CTRL_AUTO_RETURN :=
    State.flag_eq_of_reg (f := PH_PROOF_CTRL_AUTO_RETURN) (s.reg_suiteEnded c true (by decide))
  have hends : ∀ t : State, t.clusters = (s.suiteEnded c true).clusters → t.reg PH_PROOF_STATUS = (s.suiteEnded c true).reg PH_PROOF_STATUS →
      (t.core c).proof = false ∧ (t.core c).proofed = true ∧ (t.fld PH_PROOF_STATUS_PASS).testBit c = true ∧
        (t.fld PH_PROOF_STATUS_FAIL).testBit c = false := by
    intro t htclusters htstatus
    rw [State.core_eq_of_clusters htclusters, State.fld_eq_of_reg (f := PH_PROOF_STATUS_PASS) htstatus,
      State.fld_eq_of_reg (f := PH_PROOF_STATUS_FAIL) htstatus]
    exact ⟨hnone, hdone, hpass, hfail⟩
  have hexec := exec_proofSuiteDone_pass hproof
  rw [hreturn] at hexec
  by_cases h : ((s.core c).quarHeld || s.flag PH_PROOF_CTRL_AUTO_RETURN) = true
  · rw [if_pos h] at hexec
    obtain ⟨h1, h2, h3, h4⟩ := hends ((s.suiteEnded c true).setRegBit (CL_QUAR (c / 4)) (c % 4) false) (within_setRegBit.same .clusters (by decide))
      (State.reg_setRegBit_other _ (c % 4) false (quar_ne_proofStatus c))
    refine ⟨_, hexec, h1, h2, h3, h4, fun _ => ?_⟩
    rw [State.regBit_setRegBit _ _ _ _ _ (by omega), if_pos rfl]
  · rw [if_neg h] at hexec
    refine ⟨_, hexec, hnone, hdone, hpass, hfail, fun hauto => absurd ?_ h⟩
    rw [hauto, Bool.or_true]

theorem completes_proofSuiteDone_fail {s : State} {c : Nat} (failing : Nat) (hc : c < 24) (hlen : s.clusters.cores.length = 24)
    (hproof : (s.core c).proof = true) (hsev : s.severity (0xA0 + c) 0x0A < 4) :
    Completes (.proofSuiteDone c (some failing)) s (fun t => (t.core c).proof = false ∧ (t.fld PH_PROOF_STATUS_PASS).testBit c = false ∧
      (t.fld PH_PROOF_STATUS_FAIL).testBit c = true ∧ Told s t (0xA0 + c) 0x0A failing) := by
  have hsame : (s.suiteEnded c false).severity (0xA0 + c) 0x0A = s.severity (0xA0 + c) 0x0A :=
    State.severity_congr (s.reg_suiteEnded c false (by unfold WATCH_SEV PH_PROOF_STATUS; omega)) _
  have hclusters : ((s.suiteEnded c false).fault (0xA0 + c) 0x0A failing).clusters = (s.suiteEnded c false).clusters :=
    within_fault.same .clusters (by decide)
  have hstatus : ((s.suiteEnded c false).fault (0xA0 + c) 0x0A failing).reg PH_PROOF_STATUS = (s.suiteEnded c false).reg PH_PROOF_STATUS :=
    State.reg_fault_minor (by rwa [hsame]) _ (.inr (by decide))
  have hnone := (State.suiteEnded_core hc hlen false).1
  obtain ⟨hpass, hfail⟩ := s.suiteEnded_verdict hc false
  have hends : ∀ t : State, t.clusters = ((s.suiteEnded c false).fault (0xA0 + c) 0x0A failing).clusters →
      t.watch = ((s.suiteEnded c false).fault (0xA0 + c) 0x0A failing).watch →
      t.reg PH_PROOF_STATUS = ((s.suiteEnded c false).fault (0xA0 + c) 0x0A failing).reg PH_PROOF_STATUS →
      (t.core c).proof = false ∧ (t.fld PH_PROOF_STATUS_PASS).testBit c = false ∧
        (t.fld PH_PROOF_STATUS_FAIL).testBit c = true ∧ Told s t (0xA0 + c) 0x0A failing := by
    intro t htclusters htwatch htstatus
    have hshown := htstatus.trans hstatus
    refine ⟨?_, ?_, ?_, Told.of_fault (u := s.suiteEnded c false) rfl rfl hsame htwatch⟩
    · rwa [State.core_eq_of_clusters (htclusters.trans hclusters)]
    · rwa [State.fld_eq_of_reg (f := PH_PROOF_STATUS_PASS) hshown]
    · rwa [State.fld_eq_of_reg (f := PH_PROOF_STATUS_FAIL) hshown]
  refine ⟨_, exec_proofSuiteDone_fail hproof failing, ?_⟩
  split
  · exact hends _ (within_setRegBit.same .clusters (by decide)) (within_setRegBit.same .watch (by decide)) (State.reg_setRegBit_other _ _ _ (quar_ne_proofStatus c))
  · exact hends _ rfl rfl rfl

/-! ### The risk (R401, R402) -/

/-- The islands' ages as they are shown. -/
def State.aged (s : State) (ages : List Nat) : State :=
  ages.zipIdx.foldl (fun s a => if a.2 < 56 then s.setFld (PH_ISLAND_AGE_DELTA a.2) a.1 else s) s

/-- The state with its four scores and the risk shown, where no stage's wear is reported. -/
def State.scoresShown (s : State) (ro eye ce pwr : Nat) : State :=
  (((((s.modHost (fun h => { h with flash := { h.flash with wear := [] } })).setFld PH_HEALTH_S_RO ro).setFld PH_HEALTH_S_SERDES eye).setFld
    PH_HEALTH_S_CE ce).setFld PH_HEALTH_S_PWR pwr).setFld PH_HEALTH_RISK (max (max ro eye) (max ce pwr))

/-- The state with its scores shown and the corrected counts kept. -/
def State.scored (s : State) (ro eye ce pwr : Nat) : State :=
  (s.scoresShown ro eye ce pwr).modHealth (fun h => { h with corrected := (s.scoresShown ro eye ce pwr).keptCounts ++
    [((s.scoresShown ro eye ce pwr).free, (s.scoresShown ro eye ce pwr).correctedNow)] })

/-- The rate at which words were corrected, the worst stack's (R401). -/
def State.correctedRate (s : State) : Nat := largest ((s.correctedNow.zip s.correctedThen).map (fun p => p.1 - p.2))

theorem exec_healthEval (s : State) (ages : List Nat) (eyeLoss : Nat) : ∃ ce, ce ≤ 255 ∧ exec (.healthEval ages eyeLoss []) s =
    .next (((s.aged ages).scored (score (largest (ages.take 56)) 1 (100 * (s.aged ages).fld PH_HEALTH_CTRL_RO_LIMIT))
      (score eyeLoss 1 ((s.aged ages).fld PH_HEALTH_CTRL_EYE_LOSS)) ce 0).judgeRisk
        (max (max (score (largest (ages.take 56)) 1 (100 * (s.aged ages).fld PH_HEALTH_CTRL_RO_LIMIT))
          (score eyeLoss 1 ((s.aged ages).fld PH_HEALTH_CTRL_EYE_LOSS))) (max ce 0))) :=
  ⟨score ((s.aged ages).modHost (fun h => { h with flash := { h.flash with wear := [] } })).correctedRate 1
    (1024 * (s.aged ages).fld PH_HEALTH_CTRL_CE_LIMIT), Nat.min_le_left _ _, rfl⟩

theorem State.reg_scored (s : State) (ro eye ce pwr : Nat) {o : Nat} (h : o ≠ PH_HEALTH) : (s.scored ro eye ce pwr).reg o = s.reg o := by
  rw [State.scored, State.modHealth_reg, State.scoresShown, State.reg_setFld_other _ _ _ h, State.reg_setFld_other _ _ _ h,
    State.reg_setFld_other _ _ _ h, State.reg_setFld_other _ _ _ h, State.reg_setFld_other _ _ _ h, State.modHost_reg]

/-- What the four scores and the risk read. -/
theorem State.fld_scored (s : State) {ro eye ce pwr : Nat} (hro : ro ≤ 255) (heye : eye ≤ 255) (hce : ce ≤ 255) (hpwr : pwr ≤ 255) :
    (s.scored ro eye ce pwr).fld PH_HEALTH_S_RO = ro ∧ (s.scored ro eye ce pwr).fld PH_HEALTH_S_SERDES = eye ∧
    (s.scored ro eye ce pwr).fld PH_HEALTH_S_CE = ce ∧ (s.scored ro eye ce pwr).fld PH_HEALTH_S_PWR = pwr ∧
    (s.scored ro eye ce pwr).fld PH_HEALTH_RISK = max (max ro eye) (max ce pwr) := by
  have hshown : ∀ f, (s.scored ro eye ce pwr).fld f = (s.scoresShown ro eye ce pwr).fld f := fun f => by rw [State.scored, State.modHealth_fld]
  rw [hshown, hshown, hshown, hshown, hshown, State.scoresShown]
  refine ⟨?_, ?_, ?_, ?_, ?_⟩
  · rw [State.fld_setFld_apart _ _ _ _ (by decide), State.fld_setFld_apart _ _ _ _ (by decide), State.fld_setFld_apart _ _ _ _ (by decide),
      State.fld_setFld_apart _ _ _ _ (by decide)]
    exact State.fld_setFld_fits _ (by decide) (Nat.lt_succ_of_le hro)
  · rw [State.fld_setFld_apart _ _ _ _ (by decide), State.fld_setFld_apart _ _ _ _ (by decide), State.fld_setFld_apart _ _ _ _ (by decide)]
    exact State.fld_setFld_fits _ (by decide) (Nat.lt_succ_of_le heye)
  · rw [State.fld_setFld_apart _ _ _ _ (by decide), State.fld_setFld_apart _ _ _ _ (by decide)]
    exact State.fld_setFld_fits _ (by decide) (Nat.lt_succ_of_le hce)
  · rw [State.fld_setFld_apart _ _ _ _ (by decide)]
    exact State.fld_setFld_fits _ (by decide) (Nat.lt_succ_of_le hpwr)
  · exact State.fld_setFld_fits _ (by decide) (Nat.lt_succ_of_le (Nat.max_le.2 ⟨Nat.max_le.2 ⟨hro, heye⟩, Nat.max_le.2 ⟨hce, hpwr⟩⟩))

theorem within_scoresShown (s : State) (ro eye ce pwr : Nat) : Within [.regs, .host] s (s.scoresShown ro eye ce pwr) :=
  within_setFld.andThen (by decide) (within_setFld.andThen (by decide) (within_setFld.andThen (by decide)
    (within_setFld.andThen (by decide) (within_setFld.andThen (by decide) (within_modHost.mono (by decide))))))

theorem within_scored (s : State) (ro eye ce pwr : Nat) : Within [.regs, .health, .host] s (s.scored ro eye ce pwr) :=
  within_modHealth.andThen (by decide) ((within_scoresShown s ro eye ce pwr).mono (by decide))

theorem State.health_modHealth (s : State) (g : Health → Health) : (s.modHealth g).health = g s.health := rfl

theorem State.crossed_scored (s : State) (ro eye ce pwr : Nat) : (s.scored ro eye ce pwr).health.crossed = s.health.crossed :=
  (show (s.scored ro eye ce pwr).health.crossed = (s.scoresShown ro eye ce pwr).health.crossed by rw [State.scored, State.health_modHealth]).trans
    (congrArg Health.crossed ((within_scoresShown s ro eye ce pwr).same .health (by decide)))

theorem within_aged (s : State) (ages : List Nat) : Within [.regs] s (s.aged ages) := by
  refine Within.foldl (fun x a => ?_) _ (.refl _ _)
  split
  · exact within_setFld
  · exact .refl _ _

theorem State.reg_aged (s : State) (ages : List Nat) {o : Nat} (h : o < PH_ISLAND_AGE 0 ∨ PH_ISLAND_AGE 56 ≤ o) : (s.aged ages).reg o = s.reg o := by
  refine State.reg_foldl (fun x a _ => ?_) s
  split
  next ha => exact State.reg_setFld_other _ _ _ (by unfold PH_ISLAND_AGE_DELTA PH_ISLAND_AGE; unfold PH_ISLAND_AGE at h; dsimp only; omega)
  next => rfl

/-- Each island shows the age reported for it. -/
theorem State.fld_aged_from (s : State) {ages : List Nat} {n : Nat} (hlen : n + ages.length ≤ 56) (hages : ∀ a ∈ ages, a < 2 ^ 20) (i : Nat) :
    ((ages.zipIdx n).foldl (fun s a => if a.2 < 56 then s.setFld (PH_ISLAND_AGE_DELTA a.2) a.1 else s) s).fld (PH_ISLAND_AGE_DELTA i) =
      if n ≤ i ∧ i < n + ages.length then ages.getD (i - n) 0 else s.fld (PH_ISLAND_AGE_DELTA i) := by
  induction ages generalizing s n with
  | nil => rw [if_neg (by simp)]; rfl
  | cons a ages ih =>
    rw [List.length_cons] at hlen
    rw [List.zipIdx_cons, List.foldl_cons, if_pos (by omega), ih _ (by omega) (fun b hb => hages b (.tail _ hb)), List.length_cons]
    by_cases hi : i = n
    · subst hi
      rw [if_neg (by omega), if_pos (by omega), Nat.sub_self]
      exact State.fld_setFld_fits _ (by decide : 19 < 64) (hages a (.head _))
    · have hold : (s.setFld (PH_ISLAND_AGE_DELTA n) a).fld (PH_ISLAND_AGE_DELTA i) = s.fld (PH_ISLAND_AGE_DELTA i) :=
        State.fld_setFld_off _ _ _ _ (by unfold PH_ISLAND_AGE_DELTA PH_ISLAND_AGE; dsimp only; omega)
      rw [hold]
      by_cases hin : n + 1 ≤ i ∧ i < n + 1 + ages.length
      · rw [if_pos hin, if_pos (by omega), show i - n = i - (n + 1) + 1 by omega, List.getD_cons_succ]
      · rw [if_neg hin, if_neg (by omega)]

theorem State.fld_aged (s : State) {ages : List Nat} (hlen : ages.length ≤ 56) (hages : ∀ a ∈ ages, a < 2 ^ 20) {i : Nat} (hi : i < ages.length) :
    (s.aged ages).fld (PH_ISLAND_AGE_DELTA i) = ages.getD i 0 := by
  rw [State.aged, s.fld_aged_from (by omega) hages, if_pos (by omega), Nat.sub_zero]

/-- The state in which the risk's crossing is noted. -/
def State.riskCrossed (s : State) : State := s.modHealth (fun h => { h with crossed := true })

/-- Without AUTO_STOP a risk at the limit is told once, and one below it by the hysteresis may cross it again (R402). -/
theorem State.judgeRisk_manual {s : State} {risk : Nat} (hauto : s.flag PH_HEALTH_CTRL_AUTO_STOP = false) (hsev : s.severity 0x301 0x38 < 4) :
    (∀ o, o < WATCH_CTRL + 8 ∨ WATCH_FIRST 16 ≤ o → (s.judgeRisk risk).reg o = s.reg o) ∧
    (s.fld PH_HEALTH_CTRL_STOP_RISK ≤ risk → s.health.crossed = false →
      (s.judgeRisk risk).health.crossed = true ∧ Told s (s.judgeRisk risk) 0x301 0x38 risk) ∧
    (risk + s.fld PH_HEALTH_CTRL_HYST < s.fld PH_HEALTH_CTRL_STOP_RISK → (s.judgeRisk risk).health.crossed = false) := by
  have hflag : (s.riskCrossed.fault 0x301 0x38 risk).flag PH_HEALTH_CTRL_AUTO_STOP = false := by
    rw [State.flag_eq_of_reg (f := PH_HEALTH_CTRL_AUTO_STOP) (State.reg_fault_minor (s := s.riskCrossed) hsev risk (.inr (by decide)))]
    exact hauto
  have hwithin := within_fault_minor (s := s.riskCrossed) hsev risk
  have hover : s.fld PH_HEALTH_CTRL_STOP_RISK ≤ risk → s.health.crossed = false → s.judgeRisk risk = s.riskCrossed.fault 0x301 0x38 risk := by
    intro hlimit hcrossed
    rw [State.judgeRisk, if_pos hlimit, hcrossed, if_neg Bool.false_ne_true]
    exact if_neg (by
      show ¬ ((s.riskCrossed.fault 0x301 0x38 risk).flag PH_HEALTH_CTRL_AUTO_STOP = true ∧ _)
      rw [hflag]
      exact fun h => Bool.false_ne_true h.1)
  refine ⟨fun o ho => ?_, fun hlimit hcrossed => ?_, fun hlow => ?_⟩
  · by_cases hlimit : s.fld PH_HEALTH_CTRL_STOP_RISK ≤ risk
    · cases hcrossed : s.health.crossed with
      | false => exact (congrArg (State.reg · o) (hover hlimit hcrossed)).trans (State.reg_fault_minor (s := s.riskCrossed) hsev risk ho)
      | true => rw [State.judgeRisk, if_pos hlimit, if_pos hcrossed]
    · rw [State.judgeRisk, if_neg hlimit]
      split <;> rfl
  · rw [hover hlimit hcrossed]
    refine ⟨congrArg Health.crossed (hwithin.same .health (by decide)), Told.of_fault (u := s.riskCrossed) rfl rfl rfl rfl⟩
  · rw [State.judgeRisk, if_neg (by omega), if_pos hlow]
    rfl

theorem completes_healthEval {s : State} {ages : List Nat} (eyeLoss : Nat) (hlen : ages.length ≤ 56) (hages : ∀ a ∈ ages, a < 2 ^ 20)
    (hauto : s.flag PH_HEALTH_CTRL_AUTO_STOP = false) (hsev : s.severity 0x301 0x38 < 4) :
    Completes (.healthEval ages eyeLoss []) s (fun t =>
      t.fld PH_HEALTH_S_RO = min 255 (255 * ages.foldl max 0 / (100 * s.fld PH_HEALTH_CTRL_RO_LIMIT)) ∧
      t.fld PH_HEALTH_S_SERDES = min 255 (255 * eyeLoss / s.fld PH_HEALTH_CTRL_EYE_LOSS) ∧ t.fld PH_HEALTH_S_PWR = 0 ∧
      t.fld PH_HEALTH_RISK = max (max (t.fld PH_HEALTH_S_RO) (t.fld PH_HEALTH_S_SERDES)) (max (t.fld PH_HEALTH_S_CE) (t.fld PH_HEALTH_S_PWR)) ∧
      (s.fld PH_HEALTH_CTRL_STOP_RISK ≤ t.fld PH_HEALTH_RISK → s.health.crossed = false →
        t.health.crossed = true ∧ Told s t 0x301 0x38 (t.fld PH_HEALTH_RISK)) ∧
      (t.fld PH_HEALTH_RISK + s.fld PH_HEALTH_CTRL_HYST < s.fld PH_HEALTH_CTRL_STOP_RISK → t.health.crossed = false) ∧
      ∀ i < ages.length, t.fld (PH_ISLAND_AGE_DELTA i) = ages.getD i 0) := by
  have haged : ∀ f : Fld, f.off = PH_HEALTH_CTRL → (s.aged ages).fld f = s.fld f := fun f hf =>
    State.fld_eq_of_reg (f := f) (s.reg_aged ages (by rw [hf]; decide))
  obtain ⟨ce, hce, hexec⟩ := exec_healthEval s ages eyeLoss
  rw [List.take_of_length_le hlen, haged _ rfl, haged _ rfl] at hexec
  generalize hro : score (largest ages) 1 (100 * s.fld PH_HEALTH_CTRL_RO_LIMIT) = ro at hexec
  generalize heye : score eyeLoss 1 (s.fld PH_HEALTH_CTRL_EYE_LOSS) = eye at hexec
  have hrole : ro ≤ 255 := hro ▸ Nat.min_le_left _ _
  have heyele : eye ≤ 255 := heye ▸ Nat.min_le_left _ _
  obtain ⟨hfro, hfeye, hfce, hfpwr, hfrisk⟩ := (s.aged ages).fld_scored hrole heyele hce (Nat.zero_le 255)
  have hctrl : ∀ f : Fld, f.off = PH_HEALTH_CTRL → ((s.aged ages).scored ro eye ce 0).fld f = s.fld f := fun f hf =>
    (State.fld_eq_of_reg (f := f) (State.reg_scored _ _ _ _ _ (by rw [hf]; decide))).trans (haged f hf)
  have hsame : ((s.aged ages).scored ro eye ce 0).severity 0x301 0x38 = s.severity 0x301 0x38 :=
    State.severity_congr ((State.reg_scored _ _ _ _ _ (by decide)).trans (s.reg_aged ages (by decide))) _
  have hscored : Within [.regs, .health, .host] s ((s.aged ages).scored ro eye ce 0) := (within_scored _ _ _ _ _).andThen (by decide)
    ((within_aged s ages).mono (by decide))
  have hage : ∀ i < ages.length, ((s.aged ages).scored ro eye ce 0).fld (PH_ISLAND_AGE_DELTA i) = ages.getD i 0 := fun i hi =>
    (State.fld_eq_of_reg (f := PH_ISLAND_AGE_DELTA i) (State.reg_scored _ _ _ _ _ (by
      simp only [PH_ISLAND_AGE_DELTA, PH_ISLAND_AGE, PH_HEALTH]; omega))).trans (s.fld_aged hlen hages hi)
  have hcrossed : ((s.aged ages).scored ro eye ce 0).health.crossed = s.health.crossed :=
    ((s.aged ages).crossed_scored ro eye ce 0).trans (congrArg Health.crossed ((within_aged s ages).same .health (by decide)))
  generalize (s.aged ages).scored ro eye ce 0 = u at hexec hfro hfeye hfce hfpwr hfrisk hctrl hsame hscored hage hcrossed
  obtain ⟨hreg, hover, hunder⟩ := State.judgeRisk_manual (s := u) (risk := max (max ro eye) (max ce 0))
    (by rw [State.flag, hctrl _ rfl]; exact hauto) (by rwa [hsame])
  have hkept : ∀ f : Fld, WATCH_FIRST 16 ≤ f.off → (u.judgeRisk (max (max ro eye) (max ce 0))).fld f = u.fld f := fun f hf =>
    State.fld_eq_of_reg (hreg _ (.inr hf))
  rw [hctrl _ rfl] at hover
  rw [hctrl _ rfl, hctrl _ rfl] at hunder
  refine ⟨_, hexec, ?_, ?_, ?_, ?_, ?_, ?_, fun i hi => ?_⟩
  · rw [hkept _ (by decide), hfro, ← hro, score, Nat.one_mul, largest]
  · rw [hkept _ (by decide), hfeye, ← heye, score, Nat.one_mul]
  · rw [hkept _ (by decide), hfpwr]
  · rw [hkept _ (by decide), hkept _ (by decide), hkept _ (by decide), hkept _ (by decide), hkept _ (by decide), hfro, hfeye, hfce, hfpwr, hfrisk]
  · rw [hkept _ (by decide), hfrisk]
    intro hlimit hnot
    obtain ⟨hnoted, htold⟩ := hover hlimit (hcrossed.trans hnot)
    refine ⟨hnoted, ?_⟩
    rwa [Told, hscored.same .watch (by decide), hsame, State.now_eq_of_bell (hscored.same .bell (by decide))] at htold
  · rw [hkept _ (by decide), hfrisk]
    exact hunder
  · rw [hkept _ (by simp only [PH_ISLAND_AGE_DELTA, PH_ISLAND_AGE, WATCH_FIRST]; omega), hage i hi]

/-- The state in which a stopover has started (R411). -/
def State.stopStarted (s : State) : State :=
  ((((s.setPhase 6).setFld PH_STOP_STATUS_SEQ ((s.fld PH_STOP_STATUS_SEQ + 1) % 2 ^ 32)).setFld PH_STOP_STATUS_STATE 2).setReg PH_STOP_START
    (BitVec.ofNat 64 s.now)).modHealth (fun h => { h with stopAt := s.free })

theorem State.startStop_serving {s : State} (hphase : s.phase = 5) (hlost : s.stackLost 0 = false) : s.startStop = s.stopStarted := by
  rw [State.startStop, if_neg (by rw [hphase, hlost]; decide), State.stopStarted]

theorem State.stopStarted_shown (s : State) : s.stopStarted.phase = 6 ∧ s.stopStarted.fld PH_STOP_STATUS_STATE = 2 ∧
    s.stopStarted.fld PH_STOP_STATUS_SEQ = (s.fld PH_STOP_STATUS_SEQ + 1) % 2 ^ 32 := by
  refine ⟨?_, ?_, ?_⟩
  · rw [State.stopStarted, State.phase_modHealth, State.phase_setReg _ _ _ (by decide), State.phase_setFld _ _ _ (by decide),
      State.phase_setFld _ _ _ (by decide)]
    exact s.phase_setPhase 6 (by decide)
  · rw [State.stopStarted, State.modHealth_fld, State.fld_setReg_off _ _ _ _ (by decide)]
    exact State.fld_setFld_fits _ (by decide) (by decide)
  · rw [State.stopStarted, State.modHealth_fld, State.fld_setReg_off _ _ _ _ (by decide), State.fld_setFld_apart _ _ _ _ (by decide)]
    exact State.fld_setFld_fits _ (by decide) (Nat.mod_lt _ (by decide))

theorem State.fld_stopStarted_other (s : State) {f : Fld} (hphase : f.off ≠ DV_STATE) (hstatus : f.off ≠ PH_STOP_STATUS) (hstart : f.off ≠ PH_STOP_START) :
    s.stopStarted.fld f = s.fld f := by
  refine State.fld_eq_of_reg ?_
  rw [State.stopStarted, State.modHealth_reg, State.reg_setReg_other _ _ hstart, State.reg_setFld_other _ _ _ hstatus,
    State.reg_setFld_other _ _ _ hstatus, State.reg_setPhase_other _ _ _ hphase]

/-- With AUTO_STOP a risk that crosses the limit starts a stopover (R402, R411). -/
theorem State.judgeRisk_auto {s : State} {risk : Nat} (hauto : s.flag PH_HEALTH_CTRL_AUTO_STOP = true) (hsev : s.severity 0x301 0x38 < 4)
    (hlimit : s.fld PH_HEALTH_CTRL_STOP_RISK ≤ risk) (hcrossed : s.health.crossed = false) (hphase : s.phase = 5) (hlost : s.stackLost 0 = false)
    (hstate : s.fld PH_STOP_STATUS_STATE < 2) :
    (s.judgeRisk risk).fld PH_HEALTH_RISK = s.fld PH_HEALTH_RISK ∧ (s.judgeRisk risk).phase = 6 ∧
    (s.judgeRisk risk).fld PH_STOP_STATUS_STATE = 2 ∧ (s.judgeRisk risk).fld PH_STOP_STATUS_SEQ = (s.fld PH_STOP_STATUS_SEQ + 1) % 2 ^ 32 := by
  have hreg : ∀ o, o < WATCH_CTRL + 8 ∨ WATCH_FIRST 16 ≤ o → (s.riskCrossed.fault 0x301 0x38 risk).reg o = s.reg o := fun o ho =>
    State.reg_fault_minor (s := s.riskCrossed) hsev risk ho
  have hfld : ∀ f : Fld, f.off < WATCH_CTRL + 8 ∨ WATCH_FIRST 16 ≤ f.off → (s.riskCrossed.fault 0x301 0x38 risk).fld f = s.fld f := fun f hf =>
    State.fld_eq_of_reg (hreg _ hf)
  have hmem : (s.riskCrossed.fault 0x301 0x38 risk).stackLost 0 = s.stackLost 0 :=
    State.regBit_eq_of_reg (hreg MEM_STATUS (.inr (by decide))) _
  have hphase1 : (s.riskCrossed.fault 0x301 0x38 risk).phase = 5 := (hfld DV_STATE_PHASE (by decide)).trans hphase
  have hjudge : s.judgeRisk risk = (s.riskCrossed.fault 0x301 0x38 risk).startStop := by
    rw [State.judgeRisk, if_pos hlimit, hcrossed, if_neg Bool.false_ne_true]
    refine if_pos ⟨?_, ?_⟩
    · exact (State.flag_eq_of_reg (f := PH_HEALTH_CTRL_AUTO_STOP) (hreg _ (.inr (by decide)))).trans hauto
    · exact (hfld PH_STOP_STATUS_STATE (.inr (by decide))).trans_lt hstate
  have hseq := hfld PH_STOP_STATUS_SEQ (.inr (by decide))
  have hrisk := hfld PH_HEALTH_RISK (.inr (by decide))
  rw [hjudge]
  generalize s.riskCrossed.fault 0x301 0x38 risk = u at hphase1 hmem hseq hrisk
  obtain ⟨h1, h2, h3⟩ := u.stopStarted_shown
  rw [State.startStop_serving hphase1 (hmem.trans hlost), u.fld_stopStarted_other (by decide) (by decide) (by decide), hrisk, ← hseq]
  exact ⟨rfl, h1, h2, h3⟩

theorem completes_healthEval_autoStop {s : State} {eyeLoss : Nat} (hpos : 0 < s.fld PH_HEALTH_CTRL_EYE_LOSS)
    (hloss : s.fld PH_HEALTH_CTRL_EYE_LOSS ≤ eyeLoss) (hauto : s.flag PH_HEALTH_CTRL_AUTO_STOP = true) (hsev : s.severity 0x301 0x38 < 4)
    (hcrossed : s.health.crossed = false) (hphase : s.phase = 5) (hlost : s.stackLost 0 = false) (hstate : s.fld PH_STOP_STATUS_STATE < 2) :
    Completes (.healthEval [] eyeLoss []) s (fun t => t.fld PH_HEALTH_RISK = 255 ∧ t.phase = 6 ∧ t.fld PH_STOP_STATUS_STATE = 2 ∧
      t.fld PH_STOP_STATUS_SEQ = (s.fld PH_STOP_STATUS_SEQ + 1) % 2 ^ 32) := by
  obtain ⟨ce, hce, hexec⟩ := exec_healthEval s [] eyeLoss
  rw [show s.aged [] = s from rfl] at hexec
  have heye : score eyeLoss 1 (s.fld PH_HEALTH_CTRL_EYE_LOSS) = 255 := by
    rw [score, Nat.one_mul, Nat.min_eq_left ((Nat.le_div_iff_mul_le hpos).2 (Nat.mul_le_mul_left 255 hloss))]
  have hro : score (largest (([] : List Nat).take 56)) 1 (100 * s.fld PH_HEALTH_CTRL_RO_LIMIT) = 0 := by
    rw [List.take_nil, largest, List.foldl_nil, score, Nat.mul_zero, Nat.zero_div, Nat.min_zero]
  have hmax : max (max 0 255) (max ce 0) = 255 := by omega
  rw [hro, heye, hmax] at hexec
  have hrisk := (s.fld_scored (Nat.zero_le 255) (le_refl 255) hce (Nat.zero_le 255)).2.2.2.2
  rw [hmax] at hrisk
  have hother : ∀ o, o ≠ PH_HEALTH → (s.scored 0 255 ce 0).reg o = s.reg o := fun o ho => s.reg_scored _ _ _ _ ho
  have hcrossed' := (s.crossed_scored 0 255 ce 0).trans hcrossed
  generalize s.scored 0 255 ce 0 = u at hexec hrisk hother hcrossed'
  have hfld : ∀ f : Fld, f.off ≠ PH_HEALTH → u.fld f = s.fld f := fun f hf => State.fld_eq_of_reg (hother _ hf)
  have hlimit : s.fld PH_HEALTH_CTRL_STOP_RISK < 2 ^ 8 := s.fld_lt _
  obtain ⟨h1, h2, h3, h4⟩ := State.judgeRisk_auto (s := u) (risk := 255)
    (by rw [State.flag, hfld _ (by decide)]; exact hauto) (by rwa [State.severity_congr (hother _ (by decide))])
    (by rw [hfld _ (by decide)]; omega) hcrossed' ((hfld DV_STATE_PHASE (by decide)).trans hphase)
    ((State.regBit_eq_of_reg (hother MEM_STATUS (by decide)) _).trans hlost) (by rwa [hfld _ (by decide)])
  exact ⟨_, hexec, h1.trans hrisk, h2, h3, h4.trans (by rw [hfld _ (by decide)])⟩

/-! ### The risk's history (R402) -/

theorem eolDays_short {h : List Nat} (hlen : h.length < 7) : eolDays h = 0xFFFF := if_pos (.inl hlen)

theorem exec_riskHistoryAppend (s : State) : exec .riskHistoryAppend s =
    .next ((s.modHost (fun u => { u with flash := { u.flash with
      history := (s.host.flash.history ++ [s.fld PH_HEALTH_RISK]).drop ((s.host.flash.history ++ [s.fld PH_HEALTH_RISK]).length - 30) } })).setFld
        PH_HEALTH_EOL_DAYS (eolDays ((s.host.flash.history ++ [s.fld PH_HEALTH_RISK]).drop
          ((s.host.flash.history ++ [s.fld PH_HEALTH_RISK]).length - 30)))) := rfl

theorem completes_riskHistoryAppend_short {s : State} (hlen : s.host.flash.history.length < 6) :
    Completes .riskHistoryAppend s (fun t =>
      t.host.flash.history = s.host.flash.history ++ [s.fld PH_HEALTH_RISK] ∧ t.fld PH_HEALTH_EOL_DAYS = 0xFFFF) := by
  have hdrop : (s.host.flash.history ++ [s.fld PH_HEALTH_RISK]).drop ((s.host.flash.history ++ [s.fld PH_HEALTH_RISK]).length - 30) =
      s.host.flash.history ++ [s.fld PH_HEALTH_RISK] := by
    rw [List.length_append, List.length_singleton, show s.host.flash.history.length + 1 - 30 = 0 by omega, List.drop_zero]
  have hexec := exec_riskHistoryAppend s
  rw [hdrop, eolDays_short (by rw [List.length_append, List.length_singleton]; omega)] at hexec
  exact ⟨_, hexec, rfl, State.fld_setFld_fits _ (by decide) (by decide)⟩

theorem completes_riskHistoryAppend_full {s : State} (hlen : s.host.flash.history.length = 30) :
    Completes .riskHistoryAppend s (fun t =>
      t.host.flash.history = s.host.flash.history.tail ++ [s.fld PH_HEALTH_RISK] ∧ t.fld PH_HEALTH_RISK = s.fld PH_HEALTH_RISK) := by
  have hdrop : (s.host.flash.history ++ [s.fld PH_HEALTH_RISK]).drop ((s.host.flash.history ++ [s.fld PH_HEALTH_RISK]).length - 30) =
      s.host.flash.history.tail ++ [s.fld PH_HEALTH_RISK] := by
    rw [List.length_append, List.length_singleton, hlen, List.drop_append_of_le_length (by omega), List.drop_one]
  have hexec := exec_riskHistoryAppend s
  rw [hdrop] at hexec
  exact ⟨_, hexec, rfl, State.fld_setFld_apart _ _ _ _ (by decide)⟩

/-- Settles O36, by one lemma for each way that a message, the ring, a proof suite and the risk go. -/
theorem watchCompletes : Obligations.WatchCompletes := by
  unfold Obligations.WatchCompletes
  exact ⟨fun s source kind address hsource hkind haddr hsev _ => completes_faultMessage_minorClass hsource hkind haddr hsev,
    fun s source kind address hsource hkind haddr hsev h0 h7 h8 hstop hctxs _ =>
      completes_faultMessage_halt hsource hkind haddr hsev h0 h7 h8 hstop hctxs,
    fun s source kind address hsource hkind haddr hsev h0 h7 hstop hports hctxs _ =>
      completes_faultMessage_freeze hsource hkind haddr hsev h0 h7 hstop hports hctxs,
    fun s source kind address h => completes_faultMessage_unlisted address h,
    fun s address hsev => completes_faultMessage_tally address hsev,
    fun s m rest h hmin => completes_ringEntry_quiet h hmin,
    fun s m rest h hmin hlink => completes_ringEntry_steward h hmin hlink,
    fun s m rest h hmin hready => completes_ringEntry_host h hmin hready,
    fun s value hgo hsev => completes_inject hgo hsev,
    fun s value hgo hsev => completes_inject_refused hgo hsev,
    fun s value hlen hgo hsome hable => completes_proofGo hlen hgo hsome hable,
    fun s value c hgo hc hbit hable => completes_proofGo_refused hgo hc hbit hable,
    fun s c hc hlen hrun hquar hidle hproof hproofed hready => completes_proofAutoStart hc hlen hrun hquar hidle hproof hproofed hready,
    fun s c h => completes_proofAutoStart_none h,
    fun s c hc hlen hproof => completes_proofSuiteDone_pass hc hlen hproof,
    fun s c failing hc hlen hproof hsev => completes_proofSuiteDone_fail failing hc hlen hproof hsev,
    fun s ages eyeLoss hlen hages _ _ hauto hsev => completes_healthEval eyeLoss hlen hages hauto hsev,
    fun s eyeLoss hpos hloss hauto hsev hcrossed hphase hlost hstate =>
      completes_healthEval_autoStop hpos hloss hauto hsev hcrossed hphase hlost hstate,
    fun s hlen => completes_riskHistoryAppend_short hlen,
    fun s hlen => completes_riskHistoryAppend_full hlen,
    fun s m source kind address hsource hkind haddr hsev _ hwatch => completes_faultMessage_second hsource hkind haddr hsev hwatch,
    fun s hedge htaken => State.acceptEdge_of_taken hedge htaken⟩

end Sys2Proof.Machine
end

section
/-! PROOF. O39: the CXL link, the window onto the pool, the queues' configuration and Function Level Reset (R425, R428 to R435, R438). -/

-- Proofs are checked one at a time: side by side they would only wait for one another.
set_option Elab.async false

namespace Sys2Proof.Machine
open Sys2Proof

/-! ### The CXL link (R425, R434) -/

/-- The link's status as it comes up. -/
def State.linked (s : State) (rate width : Nat) : State := (s.setFld MB_LINK_STATUS_RATE rate).setFld MB_LINK_STATUS_WIDTH width

theorem exec_cxlLinkUp {s : State} {rate width : Nat} (hclosed : s.power.switchClosed = true) (hlo : 1 ≤ rate) (hhi : rate ≤ 4)
    (hwidth : [1, 2, 4, 8].contains width = true) : exec (.cxlLinkUp rate width) s = .next (s.linked rate width).flushNotices := by
  show execCxlLinkUp rate width s = _
  rw [execCxlLinkUp, hclosed, hwidth, decide_eq_true ⟨hlo, hhi⟩]
  rfl

theorem width_lt {width : Nat} (h : [1, 2, 4, 8].contains width = true) : width < 16 := by
  simp only [List.contains_cons, List.contains_nil, Bool.or_false, Bool.or_eq_true, beq_iff_eq] at h
  omega

theorem State.fld_linked (s : State) {rate width : Nat} (hrate : rate ≤ 4) (hwidth : width < 16) :
    (s.linked rate width).fld MB_LINK_STATUS_RATE = rate ∧ (s.linked rate width).fld MB_LINK_STATUS_WIDTH = width := by
  constructor
  · rw [State.linked, State.fld_setFld_apart _ _ _ _ (by decide)]
    exact State.fld_setFld_fits _ (by decide) (by omega : rate < 2 ^ 4)
  · exact State.fld_setFld_fits _ (by decide) (by omega : width < 2 ^ 4)

theorem State.reg_linked_other (s : State) (rate width : Nat) {o : Nat} (h : o ≠ MB_LINK_STATUS) : (s.linked rate width).reg o = s.reg o := by
  rw [State.linked, State.reg_setFld_other _ _ _ h, State.reg_setFld_other _ _ _ h]

theorem State.linkUp_linked (s : State) {rate width : Nat} (hlo : 1 ≤ rate) (hhi : rate ≤ 4) (hwidth : width < 16) :
    (s.linked rate width).linkUp = true := by
  rw [State.linkUp, (s.fld_linked hhi hwidth).1, bne_iff_ne]
  omega

theorem completes_cxlLinkUp {s : State} {rate width : Nat} (hclosed : s.power.switchClosed = true) (hlo : 1 ≤ rate) (hhi : rate ≤ 4)
    (hwidth : [1, 2, 4, 8].contains width = true) (hnone : s.stays.notices = []) :
    Completes (.cxlLinkUp rate width) s (fun t => t.fld MB_LINK_STATUS_RATE = rate ∧ t.fld MB_LINK_STATUS_WIDTH = width ∧ t.linkUp = true ∧
      t.out = s.out ∧ t.stays = s.stays) := by
  obtain ⟨hrate, hshown⟩ := s.fld_linked hhi (width_lt hwidth)
  refine ⟨s.linked rate width, ?_, hrate, hshown, s.linkUp_linked hlo hhi (width_lt hwidth), rfl, rfl⟩
  rw [exec_cxlLinkUp hclosed hlo hhi hwidth, State.flushNotices_of_nil (s := s.linked rate width) hnone]

theorem State.flushNotices_of_one {s : State} {n : List Byte} (h : s.stays.notices = [n]) (hready : s.qReady 1 = true) :
    s.flushNotices = (s.qWrite 1 n).modStays (fun u => { u with notices := u.notices.tail }) := by
  rw [State.flushNotices, h, List.foldl_cons, List.foldl_nil, if_pos ⟨by rw [h]; rfl, hready⟩]

theorem State.fld_qWrite_tail (s : State) {q : Nat} (entry : List Byte) :
    (s.qWrite q entry).fld (MB_QTAIL_TAIL q) = (s.fld (MB_QTAIL_TAIL q) + 1) % s.qSize q := by
  have hsize : s.qSize q ≤ 2 ^ 15 := Nat.pow_le_pow_right (by decide) (Nat.le_of_lt_succ (s.fld_lt (MB_QCFG_LOG2_ENTRIES q)))
  have hpos : 0 < s.qSize q := Nat.two_pow_pos _
  have hlt : (s.fld (MB_QTAIL_TAIL q) + 1) % s.qSize q < 2 ^ 16 := (Nat.mod_lt _ hpos).trans_le (hsize.trans (by decide))
  unfold State.qWrite
  extract_lets tail tag at_ s1 next s2
  have hs2 : s2.fld (MB_QTAIL_TAIL q) = (s.fld (MB_QTAIL_TAIL q) + 1) % s.qSize q := State.fld_setFld_fits (f := MB_QTAIL_TAIL q) s1 (by decide : 15 < 64) hlt
  rw [State.fld, State.qVector_reg, ← State.fld, ← hs2]
  split <;> rfl

theorem completes_cxlLinkUp_notice {s : State} {rate width : Nat} {n : List Byte} (hclosed : s.power.switchClosed = true) (hlo : 1 ≤ rate) (hhi : rate ≤ 4)
    (hwidth : [1, 2, 4, 8].contains width = true) (hone : s.stays.notices = [n]) (hon : s.flag (MB_QCFG_ENABLE 1) = true)
    (hroom : s.qUsed 1 + 1 < s.qSize 1) :
    Completes (.cxlLinkUp rate width) s (fun t =>
      t.stays.notices = [] ∧ t.fld (MB_QTAIL_TAIL 1) = (s.fld (MB_QTAIL_TAIL 1) + 1) % s.qSize 1 ∧
      t.out.hostMem = s.out.hostMem ++ [(s.fld (MB_QBASE_ADDR 1) * 4096 + 32 * s.fld (MB_QTAIL_TAIL 1),
        padTo 31 n ++ [if s.host.tags.getD 1 true then 1 else 0])]) := by
  have hlink := s.linkUp_linked hlo hhi (width_lt hwidth)
  have hother : ∀ f : Fld, f.off ≠ MB_LINK_STATUS → (s.linked rate width).fld f = s.fld f := fun f hf =>
    State.fld_eq_of_reg (s.reg_linked_other rate width hf)
  have hhost : (s.linked rate width).host = s.host := rfl
  have hout : (s.linked rate width).out = s.out := rfl
  have hexec := exec_cxlLinkUp hclosed hlo hhi hwidth
  have hone' : (s.linked rate width).stays.notices = [n] := hone
  generalize s.linked rate width = u at hlink hother hhost hout hexec hone'
  have hsize : u.qSize 1 = s.qSize 1 := by rw [State.qSize, hother _ (by decide), State.qSize]
  have hused : u.qUsed 1 = s.qUsed 1 := by rw [State.qUsed, hother _ (by decide), hother _ (by decide), hsize, State.qUsed]
  have hready : u.qReady 1 = true := by
    rw [State.qReady, State.flag, hother _ (by decide), hlink, hused, hsize, decide_eq_true hroom, Bool.and_true, Bool.and_true]
    exact hon
  rw [State.flushNotices_of_one hone' hready] at hexec
  refine ⟨_, hexec, ?_, ?_, ?_⟩
  · show (u.qWrite 1 n).stays.notices.tail = []
    rw [within_qWrite.same .stays (by decide), hone']
    rfl
  · rw [State.modStays_fld, State.fld_qWrite_tail, hother _ (by decide), hsize]
  · refine ((u.out_qWrite 1 n).1).trans ?_
    rw [hout, hhost, hother _ (by decide), hother _ (by decide)]

theorem completes_cxlLinkDown (s : State) :
    Completes .cxlLinkDown s (fun t => t.linkUp = false ∧ t.fld MB_LINK_STATUS_WIDTH = 0 ∧ t.stays = s.stays ∧ t.mem = s.mem) := by
  obtain ⟨hrate, hwidth⟩ := s.fld_linked (rate := 0) (width := 0) (by decide) (by decide)
  refine ⟨s.linked 0 0, rfl, ?_, hwidth, rfl, rfl⟩
  rw [State.linkUp, hrate]
  rfl

/-! ### The window onto the pool (R428 to R430) -/

/-- An address of the window read or written by pairs lies at a pair's first byte. -/
theorem State.target_aligned {s : State} {w a : Nat} (h : s.target (w / 64 * 64) = some a) : a = 64 * (a / 64) := by
  have := State.target_mod h
  omega

theorem pairsOf_pair (p : Nat) : pairsOf (64 * p) 64 = [p] := by
  have hcount : (64 * p + 64 - 1) / 64 - 64 * p / 64 + 1 = 1 := by omega
  rw [pairsOf, if_neg (by decide), hcount, show 64 * p / 64 = p by omega]
  rfl

/-- With nothing in the write-merge buffer an access to a pair only counts what returns as poison. -/
theorem State.touchPair_settled {s : State} (hmerge : s.mem.merge = []) (p : Nat) : s.touchPair p =
    if s.stackLost (pairStack p) || s.poisoned p then (s.transferred (pairStack p)).memCount (pairStack p) 8 else s.transferred (pairStack p) := by
  have hsettle : (s.transferred (pairStack p)).settle p = s.transferred (pairStack p) := by
    rw [State.settle, State.transferred_merge, hmerge]
    rfl
  rw [State.touchPair, hsettle]
  rfl

/-- The state that a read of a pair leaves, whether it answers or not, where nothing waits in the write-merge buffer. -/
theorem State.touchPair_keeps {s : State} (hmerge : s.mem.merge = []) (p : Nat) : (s.touchPair p).mem.bytes = s.mem.bytes ∧
    (s.touchPair p).mem.poison = s.mem.poison ∧ (s.touchPair p).mem.merge = [] := by
  rw [State.touchPair_settled hmerge]
  split
  · exact ⟨rfl, rfl, hmerge⟩
  · exact ⟨rfl, rfl, hmerge⟩

theorem State.poolRead_pair {s : State} (hmerge : s.mem.merge = []) (p : Nat) : s.poolRead (64 * p) 64 =
    (if s.stackLost (pairStack p) || s.poisoned p then none else some (s.peek (64 * p) 64), s.touchPair p) := by
  have hsame := ((Sound.of_nil hmerge).touchPairs [p]).1.same
  have hbad : ([p].any (fun q => (([p].foldl State.touchPair s).stackLost (pairStack q) || ([p].foldl State.touchPair s).poisoned q))) =
      (s.stackLost (pairStack p) || s.poisoned p) := by
    rw [List.any_cons, List.any_nil, Bool.or_false, hsame.stackLost, hsame.poisoned]
  rw [State.poolRead, pairsOf_pair, hbad, List.foldl_cons, List.foldl_nil, s.peek_pair (by simp [hmerge]), State.pairBytes]
  split
  · rfl
  · rw [(State.touchPair_keeps hmerge p).1]

theorem exec_memrd_unmapped {s : State} {w : Nat} (hlink : s.linkUp = true) (hheld : s.windowHeld w = false) (htarget : s.target (w / 64 * 64) = none) :
    exec (.memrd w) s = .next ((s.unmapped.takeFree 64).2.memData (w / 64 * 64) (s.unmapped.takeFree 64).1 true) := by
  show execMemrd w s = _
  rw [execMemrd, hlink, hheld]
  simp only [Bool.not_true, Bool.or_false, Bool.false_eq_true, if_false, htarget]

theorem exec_memrd_poison {s s1 : State} {w a : Nat} (hlink : s.linkUp = true) (hheld : s.windowHeld w = false) (htarget : s.target (w / 64 * 64) = some a)
    (hread : s.poolRead a 64 = (none, s1)) : exec (.memrd w) s =
      .next (((s1.count MB_POISON_RD).takeFree 64).2.memData (w / 64 * 64) ((s1.count MB_POISON_RD).takeFree 64).1 true) := by
  show execMemrd w s = _
  rw [execMemrd, hlink, hheld]
  simp only [Bool.not_true, Bool.or_false, Bool.false_eq_true, if_false, htarget, hread]

theorem exec_memrd_good {s s1 : State} {w a : Nat} {b : List Byte} (hlink : s.linkUp = true) (hheld : s.windowHeld w = false)
    (htarget : s.target (w / 64 * 64) = some a) (hread : s.poolRead a 64 = (some b, s1)) : exec (.memrd w) s = .next (s1.memData (w / 64 * 64) b false) := by
  show execMemrd w s = _
  rw [execMemrd, hlink, hheld]
  simp only [Bool.not_true, Bool.or_false, Bool.false_eq_true, if_false, htarget, hread]

theorem completes_memrd {s : State} {w a : Nat} (hlink : s.linkUp = true) (hheld : s.windowHeld w = false) (htarget : s.target (w / 64 * 64) = some a)
    (hmerge : s.mem.merge = []) (hup : s.stackLost (pairStack (a / 64)) = false) (hclean : s.poisoned (a / 64) = false) :
    Completes (.memrd w) s (fun t =>
      t.out.memData = s.out.memData ++ [(w / 64 * 64, s.peek a 64, false)] ∧ t.mem.bytes = s.mem.bytes ∧ t.mem.poison = s.mem.poison ∧
      t.mem.merge = [] ∧ t.regs = s.regs) := by
  have hread := State.poolRead_pair hmerge (a / 64)
  rw [← State.target_aligned htarget, hup, hclean, Bool.or_false, if_neg Bool.false_ne_true, State.touchPair_settled hmerge, hup, hclean] at hread
  exact ⟨(s.transferred (pairStack (a / 64))).memData (w / 64 * 64) (s.peek a 64) false, exec_memrd_good hlink hheld htarget hread, rfl, rfl, rfl, hmerge, rfl⟩

theorem completes_memrd_poison {s : State} {w a : Nat} (hlink : s.linkUp = true) (hheld : s.windowHeld w = false)
    (htarget : s.target (w / 64 * 64) = some a) (hmerge : s.mem.merge = [])
    (hbad : s.stackLost (pairStack (a / 64)) = true ∨ s.poisoned (a / 64) = true) :
    Completes (.memrd w) s (fun t =>
      t.out.memData.map (fun m => (m.1, m.2.2)) = s.out.memData.map (fun m => (m.1, m.2.2)) ++ [(w / 64 * 64, true)] ∧
      t.reg MB_POISON_RD = s.reg MB_POISON_RD + 1 ∧ t.mem.bytes = s.mem.bytes ∧ t.mem.poison = s.mem.poison ∧ t.mem.merge = []) := by
  have hread := State.poolRead_pair hmerge (a / 64)
  rw [← State.target_aligned htarget, Bool.or_eq_true_iff.2 hbad, if_pos rfl] at hread
  obtain ⟨hbytes, hpoison, hnone⟩ := State.touchPair_keeps hmerge (a / 64)
  have hreg : (s.touchPair (a / 64)).reg MB_POISON_RD = s.reg MB_POISON_RD := State.reg_touchPair (offPool_of_gt (by decide)) _
  have hout : (s.touchPair (a / 64)).out = s.out := within_touchPair.same .out (by decide)
  refine ⟨(((s.touchPair (a / 64)).count MB_POISON_RD).takeFree 64).2.memData (w / 64 * 64) (((s.touchPair (a / 64)).count MB_POISON_RD).takeFree 64).1 true,
    exec_memrd_poison hlink hheld htarget hread, ?_, ?_, hbytes, hpoison, hnone⟩
  · show List.map _ ((s.touchPair (a / 64)).out.memData ++ [_]) = _
    rw [hout, List.map_append]
    rfl
  · rw [← hreg]
    exact State.reg_count_same _ _

theorem completes_memrd_unmapped {s : State} {w : Nat} (hlink : s.linkUp = true) (hheld : s.windowHeld w = false) (htarget : s.target (w / 64 * 64) = none) :
    Completes (.memrd w) s (fun t =>
      t.out.memData.map (fun m => (m.1, m.2.2)) = s.out.memData.map (fun m => (m.1, m.2.2)) ++ [(w / 64 * 64, true)] ∧
      t.reg MB_UNMAPPED = s.reg MB_UNMAPPED + 1 ∧ t.mem = s.mem) := by
  refine ⟨(s.unmapped.takeFree 64).2.memData (w / 64 * 64) (s.unmapped.takeFree 64).1 true, exec_memrd_unmapped hlink hheld htarget, ?_,
    s.reg_count_same _, rfl⟩
  · show List.map _ (s.out.memData ++ [_]) = _
    rw [List.map_append]
    rfl

theorem exec_memwr_unmapped {s : State} {w : Nat} (data : List Byte) (poison : Bool) (hlink : s.linkUp = true) (hheld : s.windowHeld w = false)
    (htarget : s.target (w / 64 * 64) = none) : exec (.memwr w data poison) s = .next s.unmapped := by
  show execMemwr w data poison s = _
  rw [execMemwr, hlink, hheld, htarget]
  rfl

theorem exec_memwr_mapped {s : State} {w a : Nat} (data : List Byte) (poison : Bool) (hlink : s.linkUp = true) (hheld : s.windowHeld w = false)
    (htarget : s.target (w / 64 * 64) = some a) : exec (.memwr w data poison) s =
      .next (if poison then (s.transferred (pairStack (a / 64))).putPoison (a / 64)
        else (s.transferred (pairStack (a / 64))).putPair (a / 64) (padTo 64 data)) := by
  show execMemwr w data poison s = _
  rw [execMemwr, hlink, hheld, htarget]
  rfl

/-- The bytes outside a pair read as before a write of the whole pair. -/
theorem State.peek_putPair_other (s : State) {p : Nat} {data : List Byte} (hlen : data.length = 64) {b : Nat} (hb : b / 64 ≠ p) :
    (s.putPair p data).peek b 1 = s.peek b 1 := by
  rw [State.peek_one, State.peek_one]
  cases hup : s.stackLost (pairStack p) with
  | true => rw [State.putPair, hup]; rfl
  | false => rw [s.byte_putPair hup hlen, overlay_of_outside (by omega)]

theorem State.peek_putPair_target {s u : State} {w a : Nat} {data : List Byte} (htarget : s.target (w / 64 * 64) = some a)
    (hup : u.stackLost (pairStack (a / 64)) = false) (hlen : data.length = 64) : (u.putPair (a / 64) data).peek a 64 = data := by
  have h := State.peek_putPair u hup hlen
  rwa [← State.target_aligned htarget] at h

theorem completes_memwr {s : State} {w a : Nat} {data : List Byte} (hlink : s.linkUp = true) (hheld : s.windowHeld w = false)
    (htarget : s.target (w / 64 * 64) = some a) (hlen : data.length = 64) (hup : s.stackLost (pairStack (a / 64)) = false) :
    Completes (.memwr w data false) s (fun t =>
      t.peek a 64 = data ∧ t.poisoned (a / 64) = false ∧ t.regs = s.regs ∧ ∀ b, b / 64 ≠ a / 64 → t.peek b 1 = s.peek b 1) := by
  have hup' : (s.transferred (pairStack (a / 64))).stackLost (pairStack (a / 64)) = false := hup
  refine ⟨(s.transferred (pairStack (a / 64))).putPair (a / 64) data, ?_, ?_, State.poisoned_putPair _ data hup', ?_, fun b hb => ?_⟩
  · rw [exec_memwr_mapped _ _ hlink hheld htarget, padTo_of_length hlen]
    rfl
  · exact State.peek_putPair_target htarget hup' hlen
  · rw [State.putPair_up hup', State.modMem_regs]
    rfl
  · exact State.peek_putPair_other _ hlen hb

theorem State.putPoison_up {s : State} {p : Nat} (hup : s.stackLost (pairStack p) = false) : s.putPoison p = s.modMem (fun m => { m with
    bytes := sparseWrite 0 m.bytes (64 * p) (zeroBytes 64)
    poison := sparseSet false m.poison p true
    merge := m.merge.filter (fun e => e.pair != p) }) := by
  rw [State.putPoison, hup]
  rfl

theorem zeroBytes_length (n : Nat) : (zeroBytes n).length = n := List.length_replicate

/-- A poisoned write stores zeros as a whole-pair write of them does. -/
theorem State.byte_putPoison (s : State) (p b : Nat) : (s.putPoison p).byte b = (s.putPair p (zeroBytes 64)).byte b := by
  have hpad : padTo 64 (zeroBytes 64) = zeroBytes 64 := padTo_of_length (zeroBytes_length 64)
  cases hup : s.stackLost (pairStack p) with
  | true => rw [State.putPoison, State.putPair, hup]; rfl
  | false => rw [State.putPoison_up hup, State.putPair_up hup, hpad]; rfl

theorem State.poisoned_putPoison {s : State} {p : Nat} (hup : s.stackLost (pairStack p) = false) : (s.putPoison p).poisoned p = true := by
  rw [State.putPoison_up hup, State.poisoned, State.modMem_mem]
  dsimp only
  exact sparseGet_set_same

theorem completes_memwr_poison {s : State} {w a : Nat} (data : List Byte) (hlink : s.linkUp = true) (hheld : s.windowHeld w = false)
    (htarget : s.target (w / 64 * 64) = some a) (hup : s.stackLost (pairStack (a / 64)) = false) :
    Completes (.memwr w data true) s (fun t => t.peek a 64 = zeroBytes 64 ∧ t.poisoned (a / 64) = true ∧ t.regs = s.regs ∧
      ∀ b, b / 64 ≠ a / 64 → t.peek b 1 = s.peek b 1) := by
  have hup' : (s.transferred (pairStack (a / 64))).stackLost (pairStack (a / 64)) = false := hup
  have hbyte : ∀ b n, ((s.transferred (pairStack (a / 64))).putPoison (a / 64)).peek b n =
      ((s.transferred (pairStack (a / 64))).putPair (a / 64) (zeroBytes 64)).peek b n := fun b n =>
    State.peek_eq_of_byte fun i _ => State.byte_putPoison _ _ _
  refine ⟨(s.transferred (pairStack (a / 64))).putPoison (a / 64), ?_, ?_, ?_, ?_, fun b hb => ?_⟩
  · exact exec_memwr_mapped _ _ hlink hheld htarget
  · rw [hbyte]
    exact State.peek_putPair_target htarget hup' (zeroBytes_length 64)
  · exact State.poisoned_putPoison hup'
  · rw [State.putPoison_up hup', State.modMem_regs]
    rfl
  · rw [hbyte]
    exact State.peek_putPair_other _ (zeroBytes_length 64) hb

theorem completes_memwr_unmapped {s : State} {w : Nat} (data : List Byte) (poison : Bool) (hlink : s.linkUp = true) (hheld : s.windowHeld w = false)
    (htarget : s.target (w / 64 * 64) = none) :
    Completes (.memwr w data poison) s (fun t => t.reg MB_UNMAPPED = s.reg MB_UNMAPPED + 1 ∧ t.mem = s.mem) := by
  exact ⟨s.unmapped, exec_memwr_unmapped _ _ hlink hheld htarget, s.reg_count_same _, rfl⟩

theorem exec_memwrptl_unmapped {s : State} {w : Nat} {data : List Byte} (hlink : s.linkUp = true) (hheld : s.windowHeld w = false) (hne : data ≠ [])
    (htarget : s.target w = none) : exec (.memwrptl w data) s = .next s.unmapped := by
  have hempty : data.isEmpty = false := by simpa using hne
  rw [exec_memwrptl, execMemwrptl, if_neg (by simp [hlink, hheld, hempty]), htarget]

theorem exec_memwrptl_mapped {s : State} {w a : Nat} {data : List Byte} (hlink : s.linkUp = true) (hheld : s.windowHeld w = false) (hne : data ≠ [])
    (htarget : s.target w = some a) : exec (.memwrptl w data) s = .next (s.poolWrite a (data.take (64 - w % 64))) := by
  have hempty : data.isEmpty = false := by simpa using hne
  rw [exec_memwrptl, execMemwrptl, if_neg (by simp [hlink, hheld, hempty]), htarget]

/-- Bytes that lie within a pair are one write of the pair, or one piece for its merge entry. -/
theorem State.poolWrite_within_pair (s : State) {a : Nat} {bs : List Byte} (hne : bs ≠ []) (hlen : bs.length ≤ 64 - a % 64) :
    s.poolWrite a bs = if bs.length = 64 then (s.transferred (pairStack (a / 64))).putPair (a / 64) bs
      else (s.transferred (pairStack (a / 64))).mergeWrite (a / 64) (a % 64) bs := by
  obtain ⟨n, hn⟩ := Nat.exists_eq_succ_of_ne_zero (mt List.length_eq_zero_iff.1 hne)
  have hpart : bs.take (64 - a % 64) = bs := List.take_of_length_le hlen
  have hstack : a / 2 ^ 37 % 8 = pairStack (a / 64) := by
    rw [pairStack]
    omega
  rw [State.poolWrite, hn, State.poolWriteFuel, hstack]
  simp only [hpart, List.drop_length, State.poolWriteFuel_nil]
  rw [if_neg (by simpa using hne), hn]

theorem State.mergeWrite_first {s : State} (hmerge : s.mem.merge = []) {p : Nat} (hup : s.stackLost (pairStack p) = false) (off : Nat) (data : List Byte) :
    s.mergeWrite p off data = s.modMem (fun m => { m with
      merge := m.merge ++ [⟨p, writeMask off data.length, spliceBytes (zeroBytes 64) off data, s.free⟩] }) := by
  rw [State.mergeWrite, if_neg (by simp [hup])]
  simp only [hmerge]
  rfl

/-- A first partial write of a pair is what its bytes read as, whether the pair is poisoned or not. -/
theorem State.byte_mergeWrite_first {s : State} (hmerge : s.mem.merge = []) {p off : Nat} (hup : s.stackLost (pairStack p) = false) {data : List Byte}
    (hlen : off + data.length ≤ 64) (b : Nat) : (s.mergeWrite p off data).byte b = overlay s.byte (64 * p + off) data b := by
  have hold : s.byte b = sparseGet 0 s.mem.bytes b := by simp [State.byte, hmerge]
  rw [State.mergeWrite_first hmerge hup, State.byte, State.modMem_mem]
  simp only [hmerge, List.nil_append, List.find?_singleton]
  by_cases hin : 64 * p + off ≤ b ∧ b < 64 * p + off + data.length
  · have hb : b / 64 = p := by omega
    rw [testBit_writeMask_of_pair hb, decide_eq_true hin, hb, beq_self_eq_true, overlay, if_pos hin]
    exact getD_line hlen hb hin
  · have hmiss : (p == b / 64 && (writeMask off data.length).testBit (b % 64)) = false := by
      by_cases hb : b / 64 = p
      · rw [testBit_writeMask_of_pair hb, decide_eq_false hin, Bool.and_false]
      · rw [beq_false_of_ne (Ne.symm hb), Bool.false_and]
    rw [hmiss, overlay_of_outside (by omega), hold]
    rfl

/-- Bytes written within one pair that has no merge entry, none other having one. -/
theorem State.poolWrite_first {s : State} (hmerge : s.mem.merge = []) {a : Nat} {bs : List Byte} (hne : bs ≠ []) (hlen : bs.length ≤ 64 - a % 64)
    (hup : s.stackLost (pairStack (a / 64)) = false) : (∀ b, (s.poolWrite a bs).byte b = overlay s.byte a bs b) ∧ (s.poolWrite a bs).regs = s.regs ∧
      (s.poolWrite a bs).out = s.out := by
  have hup' : (s.transferred (pairStack (a / 64))).stackLost (pairStack (a / 64)) = false := hup
  have haddr : 64 * (a / 64) + a % 64 = a := Nat.div_add_mod a 64
  rw [s.poolWrite_within_pair hne hlen]
  split
  next h64 =>
    refine ⟨fun b => ?_, ?_, within_putPair.same .out (by decide)⟩
    · rw [State.byte_putPair _ hup' h64, show 64 * (a / 64) = a by omega]
      rfl
    · rw [State.putPair_up hup', State.modMem_regs]
      rfl
  next =>
    refine ⟨fun b => ?_, ?_, within_mergeWrite.same .out (by decide)⟩
    · rw [State.byte_mergeWrite_first (s := s.transferred (pairStack (a / 64))) hmerge hup' (by omega), haddr]
      rfl
    · rw [State.mergeWrite_first (s := s.transferred (pairStack (a / 64))) hmerge hup', State.modMem_regs]
      rfl

theorem completes_memwrptl {s : State} {w a : Nat} {data : List Byte} (hlink : s.linkUp = true) (hheld : s.windowHeld w = false)
    (htarget : s.target w = some a) (hne : data ≠ []) (hlen : data.length ≤ 64 - w % 64) (hmerge : s.mem.merge = [])
    (hup : s.stackLost (pairStack (a / 64)) = false) :
    Completes (.memwrptl w data) s (fun t => t.peek a data.length = data ∧ t.regs = s.regs ∧
      (∀ b, b < a ∨ a + data.length ≤ b → t.peek b 1 = s.peek b 1) ∧ t.out = s.out) := by
  have hmod := State.target_mod htarget
  obtain ⟨hbyte, hregs, hout⟩ := State.poolWrite_first hmerge hne (by omega : data.length ≤ 64 - a % 64) hup
  refine ⟨s.poolWrite a data, ?_, peek_of_overlay rfl hbyte, hregs, fun b hb => ?_, hout⟩
  · rw [exec_memwrptl_mapped hlink hheld hne htarget, List.take_of_length_le hlen]
  · rw [State.peek_one, State.peek_one, hbyte, overlay_of_outside hb]

theorem completes_memwrptl_unmapped {s : State} {w : Nat} {data : List Byte} (hlink : s.linkUp = true) (hheld : s.windowHeld w = false)
    (htarget : s.target w = none) (hne : data ≠ []) :
    Completes (.memwrptl w data) s (fun t => t.reg MB_UNMAPPED = s.reg MB_UNMAPPED + 1 ∧ t.mem = s.mem) := by
  exact ⟨s.unmapped, exec_memwrptl_unmapped hlink hheld hne htarget, s.reg_count_same _, rfl⟩

/-! ### An aperture's range (R428) -/

/-- The row of the register map that holds MB_WINDOWi. -/
def windowRow : RegRow := ⟨0x01A10000, 8, 16, 1, [⟨63, 63, .rw, 0, []⟩, ⟨23, 0, .rw, 0, []⟩]⟩

theorem regRow_window : ∀ i < 16, regRow? (MB_WINDOW i) = some windowRow := by decide +kernel

theorem window_ne {i j : Nat} (h : j ≠ i) : MB_WINDOW j ≠ MB_WINDOW i := by
  unfold MB_WINDOW
  omega

theorem window_ne_err {i : Nat} (h : i < 16) : MB_WINDOW i ≠ MB_ERR := by
  unfold MB_WINDOW MB_ERR
  omega

theorem exec_windowWrite_eq {i : Nat} (value : Nat) (s : State) (hi : i < 16) : exec (.windowWrite i value) s =
    if s.flag ST_CTRL_ENABLE ∨ (value.testBit 63 ∧ (bitsOf value 23 0 < 32768 ∨ 16777216 < bitsOf value 23 0 + 65536)) then
      .next (s.raise MB_ERR_WINDOW_REFUSED)
    else .next (s.writePlain (MB_WINDOW i) value) :=
  if_neg (by omega)

theorem completes_windowWrite {s : State} {i value : Nat} (hi : i < 16) (hoff : s.flag ST_CTRL_ENABLE = false)
    (hrange : value.testBit 63 = false ∨ (32768 ≤ bitsOf value 23 0 ∧ bitsOf value 23 0 + 65536 ≤ 16777216)) :
    Completes (.windowWrite i value) s (fun t =>
      t.fld (MB_WINDOW_EN i) = bitsOf value 63 63 ∧ t.fld (MB_WINDOW_BASE i) = bitsOf value 23 0 ∧ t.reg MB_ERR = s.reg MB_ERR ∧
      ∀ j < 16, j ≠ i → t.reg (MB_WINDOW j) = s.reg (MB_WINDOW j)) := by
  have hok : ¬ (s.flag ST_CTRL_ENABLE = true ∨ (value.testBit 63 = true ∧ (bitsOf value 23 0 < 32768 ∨ 16777216 < bitsOf value 23 0 + 65536))) := by
    rw [hoff]
    rintro (h | ⟨hen, hbad⟩)
    · cases h
    · rw [hen] at hrange
      simp only [Bool.true_eq_false, false_or] at hrange
      omega
  refine ⟨s.writePlain (MB_WINDOW i) value, by rw [exec_windowWrite_eq value s hi, if_neg hok], ?_, ?_,
    s.reg_writePlain_other value (window_ne_err hi).symm, fun j _ hj => s.reg_writePlain_other value (window_ne hj)⟩
  · exact s.fld_writePlain (F := MB_WINDOW_EN i) (regRow_window i hi) (reset := 0) (.head _)
  · exact s.fld_writePlain (F := MB_WINDOW_BASE i) (regRow_window i hi) (reset := 0) (.tail _ (.head _))

theorem completes_windowWrite_refused {s : State} {i value : Nat} (hi : i < 16) (hbad : s.flag ST_CTRL_ENABLE = true ∨
    (value.testBit 63 = true ∧ (bitsOf value 23 0 < 32768 ∨ 16777216 < bitsOf value 23 0 + 65536))) :
    Completes (.windowWrite i value) s (fun t => t.fld MB_ERR_WINDOW_REFUSED = 1 ∧ ∀ j < 16, t.reg (MB_WINDOW j) = s.reg (MB_WINDOW j)) :=
  ⟨s.raise MB_ERR_WINDOW_REFUSED, by rw [exec_windowWrite_eq value s hi, if_pos hbad], s.fld_raise_same _ (by decide),
    fun j hj => s.reg_raise_other _ (window_ne_err hj)⟩

/-! ### The queues' configuration (R433) -/

theorem qcfg_ne (p q : Nat) : (p ≠ q → MB_QCFG p ≠ MB_QCFG q) ∧ MB_QCFG p ≠ MB_QTAIL q ∧ MB_QCFG p ≠ MB_QHEAD q := by
  unfold MB_QCFG MB_QTAIL MB_QHEAD
  omega

theorem State.reg_restartQueue_other (s : State) {q o : Nat} (htail : o ≠ MB_QTAIL q) (hhead : o ≠ MB_QHEAD q) : (s.restartQueue q).reg o = s.reg o := by
  rw [State.restartQueue, State.modHost_reg, State.reg_setFld_other _ _ _ hhead, State.reg_setFld_other _ _ _ htail]

theorem completes_queueConfigWrite_starts {s : State} {q value : Nat} (hq : q < 2) (hoff : s.flag (MB_QCFG_ENABLE q) = false)
    (hvalid : 4 ≤ bitsOf value 3 0) (hnotices : s.stays.notices = []) (hbit : value.testBit 63 = true) :
    Completes (.queueConfigWrite q value) s (fun t => t.fld (MB_QCFG_ENABLE q) = 1 ∧ t.fld (MB_QCFG_LOG2_ENTRIES q) = bitsOf value 3 0 ∧
      t.fld (MB_QTAIL_TAIL q) = 0 ∧ t.fld (MB_QHEAD_HEAD q) = 0 ∧ (∀ p < 2, p ≠ q → t.reg (MB_QCFG p) = s.reg (MB_QCFG p))) := by
  have hnone : ((s.writePlain (MB_QCFG q) value).restartQueue q).stays.notices = [] := hnotices
  obtain ⟨htail, hhead, henable⟩ := (s.writePlain (MB_QCFG q) value).fld_restartQueue q
  have hcfg : ∀ p < 2, ((s.writePlain (MB_QCFG q) value).restartQueue q).reg (MB_QCFG p) = (s.writePlain (MB_QCFG q) value).reg (MB_QCFG p) :=
    fun p hp => State.reg_restartQueue_other _ (qcfg_ne p q).2.1 (qcfg_ne p q).2.2
  refine ⟨(s.writePlain (MB_QCFG q) value).restartQueue q, ?_, ?_, ?_, htail, hhead, fun p hp hne => ?_⟩
  · rw [exec_queueConfigWrite, execQueueConfigWrite_of_accepted hq (.inl hoff), if_pos hbit, State.flushNotices_of_nil hnone]
  · rw [henable, s.enable_writePlain_queueConfig hq, hbit, Bool.toNat_true]
  · refine (State.fld_eq_of_reg (f := MB_QCFG_LOG2_ENTRIES q) (hcfg q hq)).trans ((s.fld_setReg_same _ (MB_QCFG_LOG2_ENTRIES q)).trans ?_)
    exact (s.log2Entries_written_queueConfig hq value).trans (if_pos hvalid)
  · rw [hcfg p hp, s.reg_writePlain_other value ((qcfg_ne p q).1 hne)]

theorem completes_queueConfigWrite_stops {s : State} {q value : Nat} (hq : q < 2) (hbit : value.testBit 63 = false)
    (hsame : bitsOf value 3 0 = s.fld (MB_QCFG_LOG2_ENTRIES q)) : Completes (.queueConfigWrite q value) s (fun t =>
      t.fld (MB_QCFG_ENABLE q) = 0 ∧ t.reg (MB_QTAIL q) = s.reg (MB_QTAIL q) ∧ t.reg (MB_QHEAD q) = s.reg (MB_QHEAD q) ∧ t.reg MB_ERR = s.reg MB_ERR) := by
  have herr : MB_ERR ≠ MB_QCFG q := by
    unfold MB_QCFG MB_ERR
    omega
  refine ⟨s.writePlain (MB_QCFG q) value, ?_, ?_, s.reg_writePlain_other value (qcfg_ne q q).2.1.symm,
    s.reg_writePlain_other value (qcfg_ne q q).2.2.symm, s.reg_writePlain_other value herr⟩
  · rw [exec_queueConfigWrite, execQueueConfigWrite_of_accepted hq (.inr hsame), if_neg (by simp [hbit])]
  · rw [s.enable_writePlain_queueConfig hq, hbit, Bool.toNat_false]

theorem completes_queueConfigWrite_keeps {s : State} {q value : Nat} (hq : q < 2) (hon : s.flag (MB_QCFG_ENABLE q) = true)
    (hvalid : 4 ≤ bitsOf value 3 0) (hne : bitsOf value 3 0 ≠ s.fld (MB_QCFG_LOG2_ENTRIES q)) :
    Completes (.queueConfigWrite q value) s (fun t => t.fld MB_ERR_QUEUE_REFUSED = 1 ∧ t.reg (MB_QCFG q) = s.reg (MB_QCFG q) ∧
      t.reg (MB_QTAIL q) = s.reg (MB_QTAIL q)) := by
  have hoff : MB_QCFG q ≠ MB_ERR ∧ MB_QTAIL q ≠ MB_ERR := by
    unfold MB_QCFG MB_QTAIL MB_ERR
    omega
  exact ⟨s.raise MB_ERR_QUEUE_REFUSED, execQueueConfigWrite_of_refused hq hon hvalid hne, s.fld_raise_same _ (by decide),
    s.reg_raise_other _ hoff.1, s.reg_raise_other _ hoff.2⟩

/-! ### A vector's hold-off ends (R435) -/

/-- The hold-off of queue `q` has ended: its owed message is sent, or it is over. -/
def State.heldOff (s : State) (q : Nat) (next : Option Nat) : State :=
  s.modHost (fun h => { h with holdoff := modifyAt (fun _ => next) q h.holdoff, owedVector := modifyAt (fun _ => false) q h.owedVector })

theorem exec_msixHoldoffExpiry_due {s : State} {q at_ : Nat} (hheld : s.host.holdoff.getD q none = some at_) (hdue : at_ + ticksPerUs ≤ s.free) :
    exec (.msixHoldoffExpiry q) s = .next (if s.host.owedVector.getD q false then (s.heldOff q (some s.free)).msix (1 + q) else s.heldOff q none) := by
  show execMsixHoldoffExpiry q s = _
  rw [execMsixHoldoffExpiry, hheld]
  refine (if_neg (by omega)).trans ?_
  cases s.host.owedVector.getD q false <;> rfl

theorem signalled_msix {s u : State} (hup : s.linkUp = true) (hregs : u.regs = s.regs) (hmsix : u.out.msix = s.out.msix) (v : Nat) :
    Signalled s (u.msix v) v := by
  have hup' : u.linkUp = true := by rw [← hup, State.linkUp, State.linkUp, State.fld_congr hregs]
  have hmask : u.flag (MSIX_CTL_MASK v) = s.flag (MSIX_CTL_MASK v) := by rw [State.flag, State.flag, State.fld_congr hregs]
  rw [State.msix_up hup', hmask]
  cases hm : s.flag (MSIX_CTL_MASK v) <;> simp [Signalled, State.modOut, hmsix, hm]

theorem completes_msixHoldoffExpiry {s : State} {q at_ : Nat} (hq : q < 2) (hlen : s.host.holdoff.length = 2) (hlen' : s.host.owedVector.length = 2)
    (hheld : s.host.holdoff.getD q none = some at_) (hdue : at_ + ticksPerUs ≤ s.free) (howed : s.host.owedVector.getD q false = true)
    (hlink : s.linkUp = true) : Completes (.msixHoldoffExpiry q) s (fun t =>
      Signalled s t (1 + q) ∧ t.host.owedVector.getD q false = false ∧ t.host.holdoff.getD q none = some s.free) := by
  have hhost : ((s.heldOff q (some s.free)).msix (1 + q)).host = (s.heldOff q (some s.free)).host := within_msix.same .host (by decide)
  refine ⟨(s.heldOff q (some s.free)).msix (1 + q), ?_, signalled_msix (u := s.heldOff q (some s.free)) hlink rfl rfl _, ?_, ?_⟩
  · rw [exec_msixHoldoffExpiry_due hheld hdue, howed, if_pos rfl]
  · rw [hhost]
    show (modifyAt _ q s.host.owedVector).getD q false = false
    rw [getD_modifyAt, if_pos ⟨rfl, by omega⟩]
  · rw [hhost]
    show (modifyAt _ q s.host.holdoff).getD q none = some s.free
    rw [getD_modifyAt, if_pos ⟨rfl, by omega⟩]

theorem completes_msixHoldoffExpiry_quiet {s : State} {q at_ : Nat} (hq : q < 2) (hlen : s.host.holdoff.length = 2)
    (hheld : s.host.holdoff.getD q none = some at_) (hdue : at_ + ticksPerUs ≤ s.free) (howed : s.host.owedVector.getD q false = false) :
    Completes (.msixHoldoffExpiry q) s (fun t => t.out = s.out ∧ t.host.holdoff.getD q none = none) := by
  refine ⟨s.heldOff q none, ?_, rfl, ?_⟩
  · rw [exec_msixHoldoffExpiry_due hheld hdue, howed, if_neg Bool.false_ne_true]
  · show (modifyAt _ q s.host.holdoff).getD q none = none
    rw [getD_modifyAt, if_pos ⟨rfl, by omega⟩]

/-! ### Function Level Reset (R438) -/

/-- Registers that are set to what they read after reset. -/
def State.resetRegs (s : State) (offs : List Nat) : State := offs.foldl (fun s o => s.setReg o (regReset o)) s

theorem State.reg_resetRegs (s : State) (offs : List Nat) (o : Nat) : (s.resetRegs offs).reg o = if o ∈ offs then regReset o else s.reg o := by
  induction offs generalizing s with
  | nil => rfl
  | cons a offs ih =>
    rw [State.resetRegs, List.foldl_cons, ← State.resetRegs, ih]
    by_cases hin : o ∈ offs
    · rw [if_pos hin, if_pos (List.mem_cons_of_mem a hin)]
    · rw [if_neg hin]
      by_cases ha : o = a
      · rw [ha, State.reg_setReg_same, if_pos List.mem_cons_self]
      · rw [State.reg_setReg_other _ _ ha, if_neg (by simp [ha, hin])]

/-- The registers that a Function Level Reset resets. -/
def flrRegs : List Nat := (List.range 2).map MB_QCFG ++ (List.range 16).map MB_WINDOW

theorem State.flr_eq (s : State) : s.flr = ((s.resetRegs flrRegs).modHost (fun h => { h with
    background := h.background.map (fun b => { b with report := false })
    bgDone := none
    flrOwed := false })).modOut (fun o => { o with mbCode := 0 }) := by
  rw [State.resetRegs, flrRegs, List.foldl_append, List.foldl_map, List.foldl_map]
  rfl

theorem within_resetRegs {s : State} {offs : List Nat} : Within [.regs] s (s.resetRegs offs) :=
  Within.foldl (fun _ _ => within_setReg) _ (.refl _ _)

theorem State.flr_host (s : State) : s.flr.host = { s.host with
    background := s.host.background.map (fun b => { b with report := false })
    bgDone := none
    flrOwed := false } := by
  have hhost : (s.resetRegs flrRegs).host = s.host := within_resetRegs.same .host (by decide)
  rw [State.flr_eq, State.modOut_host, ← hhost]
  rfl

theorem State.flr_part (s : State) : s.flr.mem = s.mem ∧ s.flr.stays = s.stays ∧ s.flr.clusters = s.clusters := by
  rw [State.flr_eq, State.modOut_mem, State.modOut_stays, State.modOut_clusters, State.modHost_mem, State.modHost_stays, State.modHost_clusters]
  exact ⟨within_resetRegs.same .mem (by decide), within_resetRegs.same .stays (by decide), within_resetRegs.same .clusters (by decide)⟩

theorem flag_flr (s : State) {f : Fld} (hin : f.off ∈ flrRegs) (hreset : bitsOf (regReset f.off).toNat f.hi f.lo = 0) : s.flr.flag f = false := by
  rw [State.flr_eq, State.flag, State.modOut_fld, State.modHost_fld, State.fld, State.reg_resetRegs, if_pos hin, hreset]
  rfl

theorem enable_regReset : (∀ q < 2, bitsOf (regReset (MB_QCFG q)).toNat 63 63 = 0) ∧ ∀ i < 16, bitsOf (regReset (MB_WINDOW i)).toNat 63 63 = 0 := by
  decide +kernel

theorem completes_functionLevelReset {s : State} (hlink : s.linkUp = true) (hidle : s.host.writing = []) : Completes .functionLevelReset s (fun t =>
    (∀ q < 2, t.flag (MB_QCFG_ENABLE q) = false) ∧ (∀ i < 16, t.flag (MB_WINDOW_EN i) = false) ∧
    t.host.background = s.host.background.map (fun b => { b with report := false }) ∧ t.mem = s.mem ∧ t.stays = s.stays ∧ t.clusters = s.clusters) := by
  refine ⟨s.flr, ?_, fun q hq => ?_, fun i hi => ?_, by rw [State.flr_host], s.flr_part⟩
  · show execFunctionLevelReset s = _
    rw [execFunctionLevelReset, hlink, hidle]
    rfl
  · exact flag_flr s (List.mem_append_left _ (List.mem_map_of_mem (List.mem_range.2 hq))) (enable_regReset.1 q hq)
  · exact flag_flr s (List.mem_append_right _ (List.mem_map_of_mem (List.mem_range.2 hi))) (enable_regReset.2 i hi)

theorem completes_functionLevelReset_owed {s : State} (hlink : s.linkUp = true) (hbusy : s.host.writing ≠ []) : Completes .functionLevelReset s (fun t =>
    t.host.flrOwed = true ∧ t.host.background = s.host.background ∧ t.regs = s.regs) := by
  refine ⟨s.modHost (fun h => { h with flrOwed := true }), ?_, rfl, rfl, rfl⟩
  have hsome : s.host.writing.isEmpty = false := by simpa using hbusy
  show execFunctionLevelReset s = _
  rw [execFunctionLevelReset, hlink, hsome]
  rfl

/-- Settles O39, by one lemma for each sentence. -/
theorem attachCompletes : Obligations.AttachCompletes := by
  unfold Obligations.AttachCompletes
  exact ⟨fun _ _ _ => completes_cxlLinkUp, fun _ _ _ _ => completes_cxlLinkUp_notice, completes_cxlLinkDown, fun _ _ _ => completes_memrd,
    fun _ _ _ => completes_memrd_poison, fun _ _ => completes_memrd_unmapped, fun _ _ _ _ => completes_memwr,
    fun _ _ _ data => completes_memwr_poison data, fun _ _ data poison => completes_memwr_unmapped data poison, fun _ _ _ _ => completes_memwrptl,
    fun _ _ _ => completes_memwrptl_unmapped, fun _ _ _ => completes_windowWrite, fun _ _ _ => completes_windowWrite_refused,
    fun _ _ _ => completes_queueConfigWrite_starts, fun _ _ _ => completes_queueConfigWrite_stops, fun _ _ _ => completes_queueConfigWrite_keeps,
    fun _ _ _ => completes_msixHoldoffExpiry, fun _ _ _ => completes_msixHoldoffExpiry_quiet, fun _ => completes_functionLevelReset,
    fun _ => completes_functionLevelReset_owed⟩

end Sys2Proof.Machine
end

section
/-! PROOF. O32: firings of the itineraries, the words of the sequencer and the ends of their holds (R275 to R277, R281, R282, R290 to R294). -/

-- Proofs are checked one at a time: side by side they would only wait for one another.
set_option Elab.async false

namespace Sys2Proof.Machine
open Sys2Proof

/-! ### Dispatch that stops at once (R275) -/

theorem State.dispatch_of_idle {s : State} {c : Nat} (h : (s.core c).pc = none) : s.dispatch c = s := by
  rw [State.dispatch, State.dispatchWords]
  simp only [h]

theorem State.dispatchWords_of_stops {s : State} {c p : Nat} (hpc : (s.core c).pc = some p) (hstop : StopsAt (s.core c) (s.core c).runBank p) (n : Nat) :
    State.dispatchWords n s c = s := by
  cases n with
  | zero => rfl
  | succ n =>
    rw [State.dispatchWords]
    simp only [hpc]
    exact if_pos (.inr (.inr (.inl hstop)))

theorem State.dispatch_of_stops {s : State} {c p : Nat} (hpc : (s.core c).pc = some p) (hstop : StopsAt (s.core c) (s.core c).runBank p) :
    s.dispatch c = s := State.dispatchWords_of_stops hpc hstop _

theorem State.dispatch_of_held {s : State} {c : Nat} (h : (s.core c).hold ≠ .none) : s.dispatch c = s := by
  rw [State.dispatch, State.dispatchWords]
  cases hpc : (s.core c).pc with
  | none => rfl
  | some p => exact if_pos (.inl h)

/-! ### A word of the sequencer (R281, R282) -/

/-- A core as the word at its dispatch point acts: dispatch has gone past it, and its chit is posted. -/
def Core.past (k : Core) (w : Nat) : Core := ({ k with pc := k.pc.map (· + 1) } : Core).post w

theorem Core.past_eq (k : Core) (w : Nat) : k.past w = { k with pc := k.pc.map (· + 1), chits := (k.post w).chits } := by
  unfold Core.past Core.post
  dsimp only
  split <;> rfl

/-- What is known at a word of the sequencer. -/
theorem AtWord.facts {s : State} {c op w : Nat} (h : AtWord s c op w) : c < s.clusters.cores.length ∧ s.atWord c = some w ∧ opcode w = op ∧
    (s.core c).oldWork = false ∧ (s.core c).hold = .none ∧ ∃ p, (s.core c).pc = some p ∧ StopsAt (s.core c) (s.core c).runBank (p + 1) := by
  obtain ⟨⟨hc, hlen, -⟩, hat, hop, hold, hstop⟩ := h
  refine ⟨by omega, hat, hop, hold, ?_⟩
  rw [State.atWord] at hat
  split at hat
  · cases hat
  next hgo =>
    obtain ⟨p, hp, -⟩ := Option.map_eq_some_iff.1 hat
    exact ⟨by_contra fun hh => hgo (.inl hh), p, hp, hstop p hp⟩

theorem State.sequence_eq {s : State} {c op w : Nat} (h : AtWord s c op w) (act : Nat → State → State) :
    s.sequence c op act = (act w (s.modCore c (fun k => k.past w))).dispatch c := by
  obtain ⟨-, hat, hop, -⟩ := h.facts
  rw [State.sequence, hat]
  dsimp only
  rw [if_neg (by simp [hop])]
  rfl

theorem State.core_past {s : State} {c op w : Nat} (h : AtWord s c op w) : (s.modCore c (fun k => k.past w)).core c = (s.core c).past w :=
  State.core_modCore_same h.facts.1 _

/-- A word that changes its core alone, and neither its dispatch point nor its program: dispatch goes on to the sequencer's next word and stops. -/
theorem completes_word {s : State} {c op w : Nat} {i : Instr} {act : Nat → State → State} (hexec : exec i s = .next (s.sequence c op act))
    (h : AtWord s c op w) (f : Core → Core) (hact : (act w (s.modCore c (fun k => k.past w))).core c = f ((s.core c).past w))
    (hf : ∀ k : Core, (f k).pc = k.pc ∧ (f k).runBank = k.runBank ∧ (f k).banks = k.banks) {P : State → Prop}
    (hP : ∀ t : State, t.core c = f ((s.core c).past w) → P t) : Completes i s P := by
  obtain ⟨hc, hat, hop, -, hhold, p, hp, hstop⟩ := h.facts
  refine ⟨act w (s.modCore c (fun k => k.past w)), ?_, hP _ hact⟩
  obtain ⟨hpc, hrun, hbanks⟩ := hf ((s.core c).past w)
  rw [hexec, State.sequence_eq h, State.dispatch_of_stops (p := p + 1)]
  · rw [hact, hpc, Core.past_eq, hp]
    rfl
  · rw [hact, StopsAt, hbanks, hrun, Core.past_eq]
    exact hstop

theorem modifyAt_const {α : Type} (v : α) (i : Nat) (l : List α) : modifyAt (fun _ => v) i l = l.set i v := by
  rw [modifyAt_eq_modify, List.modify_eq_set_getElem?]
  cases h : l[i]? with
  | some x => rfl
  | none =>
    rw [List.getElem?_eq_none_iff] at h
    rw [List.set_eq_of_length_le h]
    rfl

theorem State.length_modCore (s : State) (c : Nat) (f : Core → Core) : (s.modCore c f).clusters.cores.length = s.clusters.cores.length :=
  modifyAt_length _ _ _

/-- A word that changes its core by `f`. -/
theorem State.core_word {s : State} {c op w : Nat} (h : AtWord s c op w) (f : Core → Core) :
    ((s.modCore c (fun k => k.past w)).modCore c f).core c = f ((s.core c).past w) := by
  rw [State.core_modCore_same (by rw [State.length_modCore]; exact h.facts.1), State.core_past h]

theorem completes_setx {s : State} {c w : Nat} (h : AtWord s c 0x02 w) : Completes (.setx c) s (fun t =>
    (t.core c).xs = (s.core c).xs.set (bitsOf w 30 27) (bitsOf w 26 0) ∧ (t.core c).pc = (s.core c).pc.map (· + 1) ∧
    (t.core c).chits = ((s.core c).post w).chits) := by
  refine completes_word (i := .setx c) rfl h (fun k => { k with xs := modifyAt (fun _ => bitsOf w 26 0) (bitsOf w 30 27) k.xs })
    (State.core_word h _) (fun _ => ⟨rfl, rfl, rfl⟩) (fun t ht => ?_)
  rw [ht, Core.past_eq]
  exact ⟨modifyAt_const _ _ _, rfl, rfl⟩

theorem completes_madx {s : State} {c w : Nat} (h : AtWord s c 0x03 w) : Completes (.madx c) s (fun t =>
    (t.core c).xs = (s.core c).xs.set (bitsOf w 30 27)
      (((s.core c).xs.getD (bitsOf w 26 23) 0 * bitsOf w 15 0 + (s.core c).xs.getD (bitsOf w 22 19) 0) % 2 ^ 32) ∧
    (t.core c).pc = (s.core c).pc.map (· + 1)) := by
  refine completes_word (i := .madx c) rfl h (fun k => { k with
    xs := modifyAt (fun _ => (k.xs.getD (bitsOf w 26 23) 0 * bitsOf w 15 0 + k.xs.getD (bitsOf w 22 19) 0) % 2 ^ 32) (bitsOf w 30 27) k.xs })
    (State.core_word h _) (fun _ => ⟨rfl, rfl, rfl⟩) (fun t ht => ?_)
  rw [ht, Core.past_eq]
  exact ⟨modifyAt_const _ _ _, rfl⟩

/-- What BELL does once dispatch has gone past it (R282). -/
def State.bellActs (s : State) (c w : Nat) : State :=
  if s.now < (s.core c).fired + bitsOf w 26 0 then s.modCore c (fun k => { k with hold := .untilTick ((s.core c).fired + bitsOf w 26 0) })
  else if (s.core c).fired + bitsOf w 26 0 < s.now then s.choice 5 else s

theorem exec_bell (s : State) (c : Nat) : exec (.bell c) s = .next (s.sequence c 0x04 (fun w s => s.bellActs c w)) := rfl

theorem State.core_choice (s : State) (k c : Nat) : (s.choice k).core c = s.core c := State.core_eq_of_clusters (within_choice.same .clusters (by decide)) c

theorem completes_bell_ahead {s : State} {c w : Nat} (h : AtWord s c 0x04 w) (hahead : s.now < (s.core c).fired + bitsOf w 26 0) :
    Completes (.bell c) s (fun t => (t.core c).hold = .untilTick ((s.core c).fired + bitsOf w 26 0) ∧ (t.core c).pc = (s.core c).pc.map (· + 1)) := by
  have hfired : ((s.modCore c (fun k => k.past w)).core c).fired = (s.core c).fired := by rw [State.core_past h, Core.past_eq]
  refine completes_word (exec_bell s c) h (fun k => { k with hold := .untilTick ((s.core c).fired + bitsOf w 26 0) }) ?_ (fun _ => ⟨rfl, rfl, rfl⟩)
    (fun t ht => ?_)
  · rw [State.bellActs, hfired, if_pos (show (s.modCore c (fun k => k.past w)).now < _ from hahead), State.core_word h]
  · rw [ht, Core.past_eq]
    exact ⟨rfl, rfl⟩

theorem completes_bell_passed {s : State} {c w : Nat} (h : AtWord s c 0x04 w) (hpassed : (s.core c).fired + bitsOf w 26 0 ≤ s.now) :
    Completes (.bell c) s (fun t => (t.core c).hold = .none ∧ (t.core c).pc = (s.core c).pc.map (· + 1)) := by
  have hfired : ((s.modCore c (fun k => k.past w)).core c).fired = (s.core c).fired := by rw [State.core_past h, Core.past_eq]
  have hnow : (s.modCore c (fun k => k.past w)).now = s.now := rfl
  obtain ⟨-, -, -, -, hhold, -⟩ := h.facts
  refine completes_word (exec_bell s c) h id ?_ (fun _ => ⟨rfl, rfl, rfl⟩) (fun t ht => ?_)
  · rw [State.bellActs, hfired, hnow, if_neg (by omega)]
    split
    · rw [State.core_choice, State.core_past h, id]
    · rw [State.core_past h, id]
  · rw [ht, id, Core.past_eq]
    exact ⟨hhold, rfl⟩

/-- What FENCE does once dispatch has gone past it (R281). -/
def State.fenceActs (s : State) (c : Nat) : State := if (s.core c).idle then s else s.modCore c (fun k => { k with hold := .drain })

theorem exec_fence (s : State) (c : Nat) : exec (.fence c) s = .next (s.sequence c 0x05 (fun _ s => s.fenceActs c)) := rfl

theorem Core.idle_past (k : Core) (w : Nat) : (k.past w).idle = k.idle := by
  rw [Core.past_eq]
  rfl

theorem completes_fence_idle {s : State} {c w : Nat} (h : AtWord s c 0x05 w) (hidle : (s.core c).idle = true) : Completes (.fence c) s (fun t =>
    (t.core c).hold = .none ∧ (t.core c).pc = (s.core c).pc.map (· + 1)) := by
  obtain ⟨-, -, -, -, hhold, -⟩ := h.facts
  refine completes_word (exec_fence s c) h id ?_ (fun _ => ⟨rfl, rfl, rfl⟩) (fun t ht => ?_)
  · rw [State.fenceActs, State.core_past h, Core.idle_past, hidle, if_pos rfl, State.core_past h, id]
  · rw [ht, id, Core.past_eq]
    exact ⟨hhold, rfl⟩

theorem completes_fence_drain {s : State} {c w : Nat} (h : AtWord s c 0x05 w) (hidle : (s.core c).idle = false) : Completes (.fence c) s (fun t =>
    (t.core c).hold = .drain ∧ (t.core c).pc = (s.core c).pc.map (· + 1)) := by
  refine completes_word (exec_fence s c) h (fun k => { k with hold := .drain }) ?_ (fun _ => ⟨rfl, rfl, rfl⟩) (fun t ht => ?_)
  · rw [State.fenceActs, State.core_past h, Core.idle_past, hidle, if_neg Bool.false_ne_true, State.core_word h]
  · rw [ht, Core.past_eq]
    exact ⟨rfl, rfl⟩

/-- END of the image in force: nothing of a former one is left to end. -/
theorem State.settleOld_of_new {s : State} {c : Nat} (h : (s.core c).oldWork = false) : s.settleOld c = s := by
  rw [State.settleOld]
  exact if_pos (by simp [h])

theorem completes_endBundle {s : State} {c w : Nat} (h : AtWord s c 0x01 w) :
    Completes (.endBundle c) s (fun t => (t.core c).pc = none ∧ (t.core c).chits = ((s.core c).post w).chits) := by
  have hcore := State.core_word h (fun k => { k with pc := none })
  have hold : ({ (s.core c).past w with pc := none } : Core).oldWork = false := by
    rw [Core.past_eq]
    exact h.facts.2.2.2.1
  refine ⟨(s.modCore c (fun k => k.past w)).modCore c (fun k => { k with pc := none }), ?_, ?_⟩
  · show Host.Outcome.next ((s.sequence c 0x01 _).settleOld c) = _
    rw [State.sequence_eq h, State.dispatch_of_idle (by rw [hcore]), State.settleOld_of_new (by rw [hcore]; exact hold)]
  · beta_reduce
    rw [hcore, Core.past_eq]
    exact ⟨rfl, rfl⟩

/-! ### Holds end (R275, R281, R282) -/

/-- Dispatch is held no more. -/
def State.unheld (s : State) (c : Nat) : State := s.modCore c (fun k => { k with hold := .none })

theorem State.core_unheld {s : State} {c : Nat} (hc : c < s.clusters.cores.length) : (s.unheld c).core c = { s.core c with hold := .none } :=
  State.core_modCore_same hc _

theorem CoreThere.lt {s : State} {c : Nat} (h : CoreThere s c) : c < s.clusters.cores.length := by
  obtain ⟨hc, hlen, -⟩ := h
  omega

theorem completes_bellTickReached {s : State} {c tick : Nat} (h : CoreThere s c) (hhold : (s.core c).hold = .untilTick tick) (hdue : tick ≤ s.now)
    (hphase : s.phase ≠ 6) (hpc : (s.core c).pc = none) : Completes (.bellTickReached c) s (fun t => (t.core c).hold = .none ∧ t.regs = s.regs) := by
  have hcore := State.core_unheld h.lt
  refine ⟨s.unheld c, ?_, by rw [hcore], rfl⟩
  show execBellTickReached c s = _
  rw [execBellTickReached, hhold]
  dsimp only
  rw [if_pos ⟨hdue, hphase⟩]
  exact congrArg Host.Outcome.next (State.dispatch_of_idle (s := s.unheld c) (by rw [hcore]; exact hpc))

theorem completes_fenceDrained {s : State} {c : Nat} (h : CoreThere s c) (hhold : (s.core c).hold = .drain) (hidle : (s.core c).idle = true)
    (hphase : s.phase ≠ 6) (hpc : (s.core c).pc = none) : Completes (.fenceDrained c) s (fun t => (t.core c).hold = .none ∧ t.regs = s.regs) := by
  have hcore := State.core_unheld h.lt
  refine ⟨s.unheld c, ?_, by rw [hcore], rfl⟩
  show execFenceDrained c s = _
  rw [execFenceDrained, if_pos ⟨hhold, hidle, hphase⟩]
  exact congrArg Host.Outcome.next (State.dispatch_of_idle (s := s.unheld c) (by rw [hcore]; exact hpc))

/-- A word of one length is dispatched into its unit's queue, and the next is the sequencer's. -/
theorem State.dispatch_one {s : State} {c p u : Nat} (hc : c < s.clusters.cores.length) (hpc : (s.core c).pc = some p) (hhold : (s.core c).hold = .none)
    (hphase : s.phase ≠ 6) {w : Nat} (hw : ((s.core c).banks.getD (s.core c).runBank bankReset).words.getD p 0 = w) (hu : bitsOf w 55 52 = u)
    (hlo : 1 ≤ u) (hhi : u ≤ 5) (hthree : u ≠ 3) (hroom : ((s.core c).queues.getD (u - 1) []).length < 256)
    (hstop : StopsAt (s.core c) (s.core c).runBank (p + 1)) (hfault : (s.core c).dispatchFault ((s.core c).banks.getD (s.core c).runBank bankReset)
      ⟨w, 0, (s.core c).xs, (s.core c).products, (s.core c).runBank⟩ = none) :
    s.dispatch c = s.modCore c (fun k => k.push ⟨w, 0, (s.core c).xs, (s.core c).products, (s.core c).runBank⟩ u 1) := by
  have hcore := State.core_modCore_same hc (fun k => k.push ⟨w, 0, (s.core c).xs, (s.core c).products, (s.core c).runBank⟩ u 1)
  rw [State.dispatch, State.dispatchWords]
  simp only [hpc, hw, hu]
  rw [if_neg (by simp [hhold, hphase]; omega), if_neg (by omega), if_neg hthree, if_neg hthree, hfault]
  refine State.dispatchWords_of_stops (p := p + 1) ?_ ?_ _
  · rw [hcore, Core.push, hpc]
    rfl
  · rw [hcore]
    exact hstop

theorem completes_dispatchResume {s : State} {c p u w : Nat} (h : CoreThere s c) (hhold : (s.core c).hold = .queueFull) (hphase : s.phase ≠ 6)
    (hpc : (s.core c).pc = some p) (hw : ((s.core c).banks.getD (s.core c).runBank bankReset).words.getD p 0 = w) (hu : bitsOf w 55 52 = u)
    (hlo : 1 ≤ u) (hhi : u ≤ 5) (hthree : u ≠ 3) (hroom : ((s.core c).queues.getD (u - 1) []).length < 256)
    (hstop : StopsAt (s.core c) (s.core c).runBank (p + 1)) (hfault : (s.core c).dispatchFault ((s.core c).banks.getD (s.core c).runBank bankReset)
      ⟨w, 0, (s.core c).xs, (s.core c).products, (s.core c).runBank⟩ = none) :
    Completes (.dispatchResume c) s (fun t => (t.core c).hold = .none ∧ (t.core c).pc = some (p + 1) ∧
      (t.core c).queues.getD (u - 1) [] = (s.core c).queues.getD (u - 1) [] ++ [⟨w, 0, (s.core c).xs, (s.core c).products, (s.core c).runBank⟩]) := by
  have hcore := State.core_unheld h.lt
  have hlt : c < (s.unheld c).clusters.cores.length := (s.length_modCore c _).symm ▸ h.lt
  obtain ⟨-, -, -, hqueues, -⟩ := h
  have hnext : (s.unheld c).dispatch c = (s.unheld c).modCore c (fun k => k.push ⟨w, 0, (s.core c).xs, (s.core c).products, (s.core c).runBank⟩ u 1) := by
    have hone := State.dispatch_one (s := s.unheld c) (p := p) (u := u) (w := w) hlt (by rw [hcore]; exact hpc) (by rw [hcore]) hphase (by rw [hcore]; exact hw)
      hu hlo hhi hthree (by rw [hcore]; exact hroom) (by rw [hcore]; exact hstop) (by rw [hcore]; exact hfault)
    rw [hcore] at hone
    exact hone
  refine ⟨(s.unheld c).dispatch c, ?_, ?_⟩
  · show execDispatchResume c s = _
    rw [execDispatchResume, if_pos ⟨hhold, hphase⟩]
    rfl
  · beta_reduce
    rw [hnext, State.core_modCore_same hlt, hcore, Core.push, hpc]
    refine ⟨rfl, rfl, ?_⟩
    show (modifyAt _ (u - 1) (s.core c).queues).getD (u - 1) [] = _
    rw [getD_modifyAt, if_pos ⟨rfl, by omega⟩]

/-! ### A firing in its steps (R290, R291) -/

theorem State.settleCore_of_settled {s : State} {c : Nat} (hfinal : (s.core c).finalDue = false) (hold : (s.core c).oldWork = false) :
    s.settleCore c = s := by
  have hrelease : s.release c = s := by
    rw [State.release]
    exact if_pos (by simp [hfinal])
  rw [State.settleCore, hrelease, State.settleOld_of_new hold]

theorem kind_of_nextFiring {s : State} {c kind tick : Nat} {e : Nat × Nat} (h : s.nextFiring c kind = some (e, tick)) : e.2.testBit kind = true := by
  rw [State.nextFiring] at h
  dsimp only at h
  split at h
  · cases h
  · simp only [Option.ite_none_right_eq_some, Option.some.injEq, Prod.mk.injEq] at h
    obtain ⟨hfires, rfl, -⟩ := h
    exact hfires.1

theorem Core.advance_keeps (k : Core) (e : Nat × Nat) : (k.advance e).lnum = k.lnum + 1 ∧ (k.advance e).launch = k.launch ∧ (k.advance e).slots = k.slots ∧
    (k.advance e).banks = k.banks ∧ (k.advance e).front = k.front ∧ (k.advance e).pc = k.pc := by
  unfold Core.advance
  split
  · exact ⟨rfl, rfl, rfl, rfl, rfl, rfl⟩
  · split
    · exact ⟨rfl, rfl, rfl, rfl, rfl, rfl⟩
    · exact ⟨rfl, rfl, rfl, rfl, rfl, rfl⟩

theorem State.core_showFiring (s : State) (c : Nat) (e : Nat × Nat) (d : Nat) : (s.showFiring c e).core d = s.core d :=
  State.core_eq_of_clusters (within_showFiring.same .clusters (by decide)) d

theorem State.reg_showFiring_other (s : State) {c o : Nat} (e : Nat × Nat) (h0 : o ≠ CL_CORE_W0 (c / 4) (c % 4)) (h1 : o ≠ CL_CORE_W1 (c / 4) (c % 4)) :
    (s.showFiring c e).reg o = s.reg o := by
  rw [State.showFiring, State.reg_setReg_other _ _ h1, State.reg_setReg_other _ _ h0]

theorem State.core_countLate {s : State} {c : Nat} (hc : c < s.clusters.cores.length) (t : Nat) :
    ∃ b, (s.countLate c t).core c = { s.core c with lateOn := b } := by
  unfold State.countLate
  split
  · have hlen : c < (s.choice 5).clusters.cores.length := by rwa [within_choice.same .clusters (by decide)]
    exact ⟨true, by rw [State.core_modCore_same hlen, State.core_choice]⟩
  · exact ⟨(s.core c).lateOn, rfl⟩

theorem State.length_countLate (s : State) (c t : Nat) : (s.countLate c t).clusters.cores.length = s.clusters.cores.length := by
  unfold State.countLate
  split
  · rw [State.length_modCore, within_choice.same .clusters (by decide)]
  · rfl

theorem State.shared_countLate (s : State) (c t : Nat) : (s.countLate c t).clusters.shared = s.clusters.shared := by
  unfold State.countLate
  split
  · show (s.choice 5).clusters.shared = _
    rw [within_choice.same .clusters (by decide)]
  · rfl

theorem State.reg_countLate (s : State) (c t : Nat) {o : Nat} (ho : OffChoice o) : (s.countLate c t).reg o = s.reg o := by
  unfold State.countLate
  split
  · exact State.reg_choice ho (by decide)
  · rfl

theorem State.phase_countLate (s : State) (c t : Nat) : (s.countLate c t).phase = s.phase :=
  State.fld_eq_of_reg (f := DV_STATE_PHASE) (s.reg_countLate c t (offChoice_of_lt (by decide)))

theorem State.halted_countLate (s : State) (c t : Nat) : (s.countLate c t).halted = s.halted := by
  rw [State.halted, State.phase_countLate, State.halted]

theorem State.core_wakeGated {s : State} {c : Nat} (hc : c < s.clusters.cores.length) : (s.wakeGated c).core c = { s.core c with gated := false } := by
  unfold State.wakeGated
  split
  · have hlen : c < (s.choice 4).clusters.cores.length := by rwa [within_choice.same .clusters (by decide)]
    rw [State.core_modCore_same hlen, State.core_choice]
  next hgated =>
    have hfalse : (s.core c).gated = false := by simpa using hgated
    rw [← hfalse]

theorem State.length_wakeGated (s : State) (c : Nat) : (s.wakeGated c).clusters.cores.length = s.clusters.cores.length := by
  unfold State.wakeGated
  split
  · rw [State.length_modCore, within_choice.same .clusters (by decide)]
  · rfl

theorem State.reg_wakeGated (s : State) (c : Nat) {o : Nat} (ho : OffChoice o) : (s.wakeGated c).reg o = s.reg o := by
  unfold State.wakeGated
  split
  · exact State.reg_choice ho (by decide)
  · rfl

/-- A core as it starts the bundle of an entry's firing. -/
def Core.started (k : Core) (last : Bool) (e : Nat × Nat) (t : Nat) : Core := { (k.advance e) with
  xs := k.xsFor e k.work
  fired := t
  flags := if last then e.2 else clearBitOf (clearBitOf e.2 34) 36
  products := 0
  runBank := k.front
  pc := some (entBundle e) }

/-- A bundle that starts with a word of the sequencer is dispatched no further. -/
theorem State.startBundle_eq {s : State} {c : Nat} (hc : c < s.clusters.cores.length) {e : Nat × Nat} (hstop : StopsAt (s.core c) (s.core c).front (entBundle e))
    (t : Nat) : s.startBundle c e t =
      ((s.wakeGated c).showFiring c e).modCore c (fun k => k.started ((s.core c).rep == entRepeat e) e t) := by
  have hlen : c < ((s.wakeGated c).showFiring c e).clusters.cores.length := by
    rw [within_showFiring.same .clusters (by decide), State.length_wakeGated]
    exact hc
  have hcore := State.core_modCore_same hlen (fun k => k.started ((s.core c).rep == entRepeat e) e t)
  rw [State.core_showFiring, State.core_wakeGated hc] at hcore
  rw [State.startBundle]
  refine State.dispatch_of_stops (p := entBundle e) ?_ ?_
  · exact congrArg Core.pc hcore
  · obtain ⟨-, -, -, hbanks, -⟩ := ({ s.core c with gated := false } : Core).advance_keeps e
    refine (congrArg (fun k : Core => bitsOf ((k.banks.getD k.runBank bankReset).words.getD (entBundle e) 0) 55 52) hcore).trans ?_
    show bitsOf ((((({ s.core c with gated := false } : Core).advance e).banks).getD _ bankReset).words.getD _ 0) 55 52 = 0
    rw [hbanks]
    exact hstop

/-- What a firing that starts its bundle shows. -/
theorem State.core_startBundle {s : State} {c : Nat} (hc : c < s.clusters.cores.length) {e : Nat × Nat}
    (hstop : StopsAt (s.core c) (s.core c).front (entBundle e)) (t : Nat) :
    ((s.startBundle c e t).core c).pc = some (entBundle e) ∧ ((s.startBundle c e t).core c).fired = t ∧
    ((s.startBundle c e t).core c).launch = (s.core c).launch ∧ ((s.startBundle c e t).core c).lnum = (s.core c).lnum + 1 ∧
    ((s.startBundle c e t).core c).slots = (s.core c).slots := by
  have hlen : c < ((s.wakeGated c).showFiring c e).clusters.cores.length := by
    rw [within_showFiring.same .clusters (by decide), State.length_wakeGated]
    exact hc
  rw [State.startBundle_eq hc hstop, State.core_modCore_same hlen, State.core_showFiring, State.core_wakeGated hc]
  obtain ⟨hlnum, hlaunch, hslots, -⟩ := ({ s.core c with gated := false } : Core).advance_keeps e
  exact ⟨rfl, rfl, hlaunch, hlnum, hslots⟩

theorem State.core_retryAgents (s : State) (c : Nat) : s.retryAgents.core c = s.core c :=
  State.core_eq_of_clusters (within_retryAgents.same .clusters (by decide)) c

/-! ### Launches, continuations and wakes (R293, R294) -/

theorem byteAt_localRead (s : State) (c a : Nat) {n : Nat} (hn : 0 < n) : byteAt (s.localRead c a n) 0 = byteAt (s.localRead c a 1) 0 := by
  unfold State.localRead sparseRead
  obtain ⟨m, rfl⟩ := Nat.exists_eq_succ_of_ne_zero hn.ne'
  split <;> simp [byteAt, List.range_succ_eq_map]

theorem State.latchDynamic_eq {s : State} {c n : Nat} {a : Attend} (hphase : ((s.core c).slots.getD n slotReset).phase = 1)
    (hwork : ((s.core c).slots.getD n slotReset).work = some a) (hvalid : s.docketValid c n = true) :
    ∃ l : Launch, s.latchDynamic c n = (l, s.modSlot c n (fun x => { x with phase := 2 })) ∧ l.attend = some a ∧ l.rooms = a.rooms ∧ l.empty = false := by
  have hbyte : byteAt (s.localRead c (docketAt n) 64) 0 = 1 := by
    rw [byteAt_localRead _ _ _ (by decide)]
    simpa [State.docketValid] using hvalid
  rw [State.latchDynamic, hwork]
  dsimp only
  rw [if_neg (not_or.2 ⟨not_not.2 hphase, not_not.2 hbyte⟩)]
  exact ⟨_, rfl, rfl, rfl, rfl⟩

theorem State.latch_placed {s : State} {c n : Nat} {a : Attend} (hbound : ((s.core c).slots.getD n slotReset).bound = false) (hon : s.coreOn c = true)
    (hhalt : s.halted = false) (hphase : ((s.core c).slots.getD n slotReset).phase = 1) (hwork : ((s.core c).slots.getD n slotReset).work = some a)
    (hvalid : s.docketValid c n = true) (t : Nat) : ∃ l : Launch, l.attend = some a ∧ l.rooms = a.rooms ∧
      s.latch c n t = ((s.modSlot c n (fun x => { x with phase := 2 })).clCount c 0).modCore c (fun k => { k with
        launch := some l, chits := List.replicate 32 0, xs := k.xs.take 10 ++ List.replicate 6 0 }) := by
  obtain ⟨l, heq, hattend, hrooms, hempty⟩ := State.latchDynamic_eq hphase hwork hvalid
  refine ⟨{ l with bound := false, tick := t }, hattend, hrooms, ?_⟩
  rw [State.latch]
  simp only [hbound, Bool.false_eq_true, if_false, hon, hhalt, Bool.not_true, or_self, heq, hempty]

theorem cnt_ne (k i : Nat) (hi : i < 16) (m : Nat) : CL_CNT k i ≠ CL_CORE_W0 k m ∧ CL_CNT k i ≠ CL_CORE_W1 k m := by
  unfold CL_CNT CL_CORE_W0 CL_CORE_W1
  omega

theorem offCore_cnt {c i : Nat} (hc : c < 24) (hi : i < 16) : OffCore (CL_CNT (c / 4) i) := by
  refine offCore_between ?_ ?_
  · unfold CL_CNT
    omega
  · unfold CL_CNT BT_CHOICE
    omega

theorem offChoice_ctrl {c : Nat} (hc : c < 24) : OffChoice (CL_CTRL (c / 4)) := by
  refine offChoice_of_lt ?_
  unfold CL_CTRL BT_CHOICE
  omega

theorem State.reg_startBundle {s : State} {c : Nat} (hc : c < s.clusters.cores.length) {e : Nat × Nat}
    (hstop : StopsAt (s.core c) (s.core c).front (entBundle e)) (t : Nat) {o : Nat} (ho : OffChoice o) (h0 : o ≠ CL_CORE_W0 (c / 4) (c % 4))
    (h1 : o ≠ CL_CORE_W1 (c / 4) (c % 4)) : (s.startBundle c e t).reg o = s.reg o := by
  rw [State.startBundle_eq hc hstop, State.modCore_reg, State.reg_showFiring_other _ _ h0 h1, State.reg_wakeGated _ _ ho]

theorem completes_launchFiring {s : State} {c tick : Nat} {e : Nat × Nat} {a : Attend} (h : CoreThere s c) (hfinal : (s.core c).finalDue = false)
    (hold : (s.core c).oldWork = false) (hfires : s.nextFiring c 32 = some (e, tick)) (hquar : s.quarantined c = false) (hidle : (s.core c).idle = true)
    (hon : s.coreOn c = true) (hhalt : s.halted = false) (hrep : (s.core c).rep = 0) (hbound : ((s.core c).slots.getD (entSlot e) slotReset).bound = false)
    (hphase : ((s.core c).slots.getD (entSlot e) slotReset).phase = 1) (hwork : ((s.core c).slots.getD (entSlot e) slotReset).work = some a)
    (hvalid : s.docketValid c (entSlot e) = true) (hstop : StopsAt (s.core c) (s.core c).front (entBundle e)) : Completes (.launchFiring c) s (fun t =>
      (t.core c).pc = some (entBundle e) ∧ (t.core c).fired = tick ∧ (t.core c).lnum = (s.core c).lnum + 1 ∧
      (t.core c).launch.map (·.attend) = some (some a) ∧ (t.core c).launch.map (·.rooms) = some a.rooms ∧
      ((t.core c).slots.getD (entSlot e) slotReset).phase = 2 ∧ t.reg (CL_CNT (c / 4) 0) = s.reg (CL_CNT (c / 4) 0) + 1) := by
  obtain ⟨b, hlate⟩ := State.core_countLate h.lt tick
  have hlen := s.length_countLate c tick
  have hcnt := offCore_cnt h.1 (show 0 < 16 by decide)
  have hon' : (s.countLate c tick).coreOn c = true := by
    rw [State.coreOn, State.regBit, s.reg_countLate c tick (offChoice_ctrl h.1)]
    exact hon
  have hvalid' : (s.countLate c tick).docketValid c (entSlot e) = true := by
    rw [State.docketValid, State.localRead, hlate, s.shared_countLate]
    exact hvalid
  have hslots : ((s.countLate c tick).core c).slots = (s.core c).slots := by rw [hlate]
  obtain ⟨l, hattend, hrooms, hlatch⟩ := State.latch_placed (s := s.countLate c tick) (c := c) (n := entSlot e) (a := a) (by rw [hslots]; exact hbound) hon'
    ((s.halted_countLate c tick).trans hhalt) (by rw [hslots]; exact hphase) (by rw [hslots]; exact hwork) hvalid' tick
  have hlen1 : c < ((s.countLate c tick).modSlot c (entSlot e) (fun x => { x with phase := 2 })).clusters.cores.length := by
    rw [State.modSlot, State.length_modCore, hlen]
    exact h.lt
  have hlatched : ((s.countLate c tick).latch c (entSlot e) tick).core c = { s.core c with
      lateOn := b
      slots := modifyAt (fun x => { x with phase := 2 }) (entSlot e) (s.core c).slots
      launch := some l
      chits := List.replicate 32 0
      xs := (s.core c).xs.take 10 ++ List.replicate 6 0 } := by
    rw [hlatch, State.core_modCore_same (s := ((s.countLate c tick).modSlot c (entSlot e) _).clCount c 0) hlen1]
    have hslot : ((s.countLate c tick).modSlot c (entSlot e) (fun x => { x with phase := 2 })).core c = { s.core c with
        lateOn := b
        slots := modifyAt (fun x => { x with phase := 2 }) (entSlot e) (s.core c).slots } := by
      rw [State.modSlot, State.core_modCore_same (by rw [hlen]; exact h.lt), hlate]
    exact congrArg (fun k : Core => { k with
      launch := some l, chits := List.replicate 32 0, xs := k.xs.take 10 ++ List.replicate 6 0 }) hslot
  have hlenL : c < ((s.countLate c tick).latch c (entSlot e) tick).clusters.cores.length := by
    rw [hlatch, State.length_modCore]
    exact hlen1
  have hstopL : StopsAt (((s.countLate c tick).latch c (entSlot e) tick).core c) (((s.countLate c tick).latch c (entSlot e) tick).core c).front (entBundle e) := by
    rw [hlatched]
    exact hstop
  refine ⟨(((s.countLate c tick).latch c (entSlot e) tick).startBundle c e tick).retryAgents, ?_, ?_⟩
  · show Host.Outcome.next (s.launchFiring c) = _
    rw [State.launchFiring, State.settleCore_of_settled hfinal hold]
    simp only [hfires, hquar, hidle]
    rw [hlate, if_pos hrep]
    rfl
  · obtain ⟨hpc, hfired, hlaunch, hlnum, hslotsL⟩ := State.core_startBundle hlenL hstopL tick
    rw [State.core_retryAgents, hpc, hfired, hlaunch, hlnum, hslotsL, State.reg_retryAgents hcnt,
      State.reg_startBundle hlenL hstopL tick hcnt.2 (cnt_ne (c / 4) 0 (by decide) (c % 4)).1 (cnt_ne (c / 4) 0 (by decide) (c % 4)).2, hlatched, hlatch]
    refine ⟨rfl, rfl, rfl, congrArg some hattend, congrArg some hrooms, ?_, ?_⟩
    · have hin : entSlot e < (s.core c).slots.length := by
        by_contra hout
        rw [List.getD_eq_default _ _ (by omega)] at hphase
        cases hphase
      show ((modifyAt _ (entSlot e) (s.core c).slots).getD (entSlot e) slotReset).phase = 2
      rw [getD_modifyAt, if_pos ⟨rfl, hin⟩]
    · rw [State.modCore_reg, State.clCount, State.reg_count_same, State.modSlot_reg, s.reg_countLate c tick hcnt.2]

theorem State.launch_takeBinding (s : State) (c n t d : Nat) : ((s.takeBinding c n t).core d).launch = (s.core d).launch ∧
    ((s.takeBinding c n t).core d).lnum = (s.core d).lnum := by
  rw [State.takeBinding, State.modSlot, State.core_modCore]
  split <;> exact ⟨rfl, rfl⟩

theorem State.reg_takeBinding (s : State) (c n t o : Nat) : (s.takeBinding c n t).reg o = s.reg o := rfl

theorem State.launch_clearDocket (s : State) (c n d : Nat) : ((s.clearDocket c n).core d).launch = (s.core d).launch ∧
    ((s.clearDocket c n).core d).lnum = (s.core d).lnum := by
  unfold State.clearDocket State.localWrite
  split
  · rw [State.core_modCore]
    split <;> exact ⟨rfl, rfl⟩
  · exact ⟨rfl, rfl⟩

theorem State.reg_clearDocket (s : State) (c n o : Nat) : (s.clearDocket c n).reg o = s.reg o := within_clearDocket.reg (by decide) o

/-- What a quarantined core does at a LAUNCH firing, before its docket is cleared and the sequencer goes on. -/
def State.skipped (s : State) (c : Nat) (e : Nat × Nat) (t : Nat) : State :=
  (if ((s.core c).slots.getD (entSlot e) slotReset).bound then ((s.showFiring c e).clCount c 1).takeBinding c (entSlot e) t
    else (s.showFiring c e).clCount c 1).clCount c 0

theorem State.skipFiring_launch {s : State} {c tick : Nat} {e : Nat × Nat} (hkind : e.2.testBit 32 = true) (hrep : (s.core c).rep = 0) :
    s.skipFiring c e tick = (if ((s.core c).slots.getD (entSlot e) slotReset).bound ∧ e.2.testBit 34 ∧ (s.core c).rep = entRepeat e then
      (s.skipped c e tick).clearDocket c (entSlot e) else s.skipped c e tick).modCore c (fun k => k.advance e) := by
  rw [State.skipFiring]
  simp only [hkind, hrep]
  rfl

theorem State.clusters_clCount (s : State) (c i : Nat) : (s.clCount c i).clusters = s.clusters := within_clCount.same .clusters (by decide)

theorem State.core_skipped (s : State) (c : Nat) (e : Nat × Nat) (t : Nat) : ((s.skipped c e t).core c).launch = (s.core c).launch ∧
    ((s.skipped c e t).core c).lnum = (s.core c).lnum ∧ (s.skipped c e t).clusters.cores.length = s.clusters.cores.length := by
  have hclusters : ((s.showFiring c e).clCount c 1).clusters = s.clusters := by
    rw [State.clusters_clCount, within_showFiring.same .clusters (by decide)]
  unfold State.skipped
  rw [State.core_eq_of_clusters (State.clusters_clCount _ c 0), State.clusters_clCount]
  split
  · obtain ⟨hlaunch, hlnum⟩ := ((s.showFiring c e).clCount c 1).launch_takeBinding c (entSlot e) t c
    rw [State.core_eq_of_clusters hclusters] at hlaunch hlnum
    refine ⟨hlaunch, hlnum, ?_⟩
    rw [State.takeBinding, State.modSlot, State.length_modCore, hclusters]
  · rw [State.core_eq_of_clusters hclusters, hclusters]
    exact ⟨rfl, rfl, rfl⟩

theorem State.reg_skipped (s : State) {c : Nat} (e : Nat × Nat) (t : Nat) :
    (s.skipped c e t).reg (CL_CNT (c / 4) 0) = s.reg (CL_CNT (c / 4) 0) + 1 ∧ (s.skipped c e t).reg (CL_CNT (c / 4) 1) = s.reg (CL_CNT (c / 4) 1) + 1 := by
  have hne : CL_CNT (c / 4) 0 ≠ CL_CNT (c / 4) 1 := by
    unfold CL_CNT
    omega
  have hshown : ∀ i < 2, (s.showFiring c e).reg (CL_CNT (c / 4) i) = s.reg (CL_CNT (c / 4) i) := fun i hi =>
    s.reg_showFiring_other e (cnt_ne (c / 4) i (by omega) (c % 4)).1 (cnt_ne (c / 4) i (by omega) (c % 4)).2
  have hone : ∀ o, (if ((s.core c).slots.getD (entSlot e) slotReset).bound then ((s.showFiring c e).clCount c 1).takeBinding c (entSlot e) t
      else (s.showFiring c e).clCount c 1).reg o = ((s.showFiring c e).clCount c 1).reg o := by
    intro o
    split
    · exact State.reg_takeBinding _ _ _ _ _
    · rfl
  constructor
  · rw [State.skipped, State.clCount, State.reg_count_same, hone, State.clCount, State.reg_count_other _ hne, hshown 0 (by decide)]
  · rw [State.skipped, State.clCount, State.reg_count_other _ hne.symm, hone, State.clCount, State.reg_count_same, hshown 1 (by decide)]

theorem completes_launchFiring_quarantined {s : State} {c tick : Nat} {e : Nat × Nat} (h : CoreThere s c) (hfinal : (s.core c).finalDue = false)
    (hold : (s.core c).oldWork = false) (hfires : s.nextFiring c 32 = some (e, tick)) (hquar : s.quarantined c = true) (hrep : (s.core c).rep = 0) :
    Completes (.launchFiring c) s (fun t =>
      (t.core c).launch = (s.core c).launch ∧ (t.core c).lnum = (s.core c).lnum + 1 ∧ t.reg (CL_CNT (c / 4) 0) = s.reg (CL_CNT (c / 4) 0) + 1 ∧
      t.reg (CL_CNT (c / 4) 1) = s.reg (CL_CNT (c / 4) 1) + 1) := by
  refine ⟨s.skipFiring c e tick, ?_, ?_⟩
  · show Host.Outcome.next (s.launchFiring c) = _
    rw [State.launchFiring, State.settleCore_of_settled hfinal hold]
    simp only [hfires, hquar]
    rfl
  obtain ⟨hlaunch, hlnum, hlen⟩ := s.core_skipped c e tick
  obtain ⟨hzero, hone⟩ := s.reg_skipped (c := c) e tick
  rw [State.skipFiring_launch (kind_of_nextFiring hfires) hrep]
  generalize s.skipped c e tick = u at hlaunch hlnum hlen hzero hone
  have hend : ∀ v : State, (v.core c).launch = (s.core c).launch → (v.core c).lnum = (s.core c).lnum → c < v.clusters.cores.length →
      ((v.modCore c (fun k => k.advance e)).core c).launch = (s.core c).launch ∧ ((v.modCore c (fun k => k.advance e)).core c).lnum = (s.core c).lnum + 1 := by
    intro v hv hv' hlt
    obtain ⟨hadvlnum, hadvlaunch, -⟩ := (v.core c).advance_keeps e
    rw [State.core_modCore_same hlt, hadvlnum, hadvlaunch]
    exact ⟨hv, by rw [hv']⟩
  split
  · obtain ⟨hdl, hdn⟩ := u.launch_clearDocket c (entSlot e) c
    have hdlen : c < (u.clearDocket c (entSlot e)).clusters.cores.length := by
      unfold State.clearDocket State.localWrite
      split
      · rw [State.length_modCore, hlen]
        exact h.lt
      · rw [show (u.modClusters _).clusters.cores = u.clusters.cores from rfl, hlen]
        exact h.lt
    obtain ⟨h1, h2⟩ := hend _ (hdl.trans hlaunch) (hdn.trans hlnum) hdlen
    exact ⟨h1, h2, by rw [State.modCore_reg, State.reg_clearDocket, hzero], by rw [State.modCore_reg, State.reg_clearDocket, hone]⟩
  · obtain ⟨h1, h2⟩ := hend u hlaunch hlnum (by rw [hlen]; exact h.lt)
    exact ⟨h1, h2, hzero, hone⟩

theorem State.core_emptyHalted {s : State} {c : Nat} (hc : c < s.clusters.cores.length) : (s.emptyHalted c).core c = { s.core c with
    launch := if s.halted then (s.core c).launch.map (fun l => { l with empty := true }) else (s.core c).launch } := by
  unfold State.emptyHalted
  split
  · exact State.core_modCore_same hc _
  · rfl

/-- A CONT firing starts its bundle on the launch that is there, an empty one in a halted module. -/
theorem completes_contFiring_any {s : State} {c tick : Nat} {e : Nat × Nat} (h : CoreThere s c) (hfires : s.nextFiring c 33 = some (e, tick))
    (hquar : s.quarantined c = false) (hstop : StopsAt (s.core c) (s.core c).front (entBundle e)) : Completes (.contFiring c) s (fun t =>
      (t.core c).pc = some (entBundle e) ∧ (t.core c).fired = tick ∧
      (t.core c).launch = (if s.halted then (s.core c).launch.map (fun l => { l with empty := true }) else (s.core c).launch) ∧
      (t.core c).lnum = (s.core c).lnum + 1) := by
  obtain ⟨b, hlate⟩ := State.core_countLate h.lt tick
  have hlen : c < (s.countLate c tick).clusters.cores.length := (s.length_countLate c tick).symm ▸ h.lt
  have hcore := State.core_emptyHalted hlen
  rw [hlate, s.halted_countLate] at hcore
  have hlen' : c < ((s.countLate c tick).emptyHalted c).clusters.cores.length := by
    unfold State.emptyHalted
    split
    · rw [State.modLaunch, State.length_modCore]
      exact hlen
    · exact hlen
  have hstop' : StopsAt (((s.countLate c tick).emptyHalted c).core c) (((s.countLate c tick).emptyHalted c).core c).front (entBundle e) := by
    rw [hcore]
    exact hstop
  obtain ⟨hpc, hfired, hlaunch, hlnum, -⟩ := State.core_startBundle hlen' hstop' tick
  refine ⟨(((s.countLate c tick).emptyHalted c).startBundle c e tick).retryAgents, ?_, ?_⟩
  · show Host.Outcome.next (s.contFiring c) = _
    rw [State.contFiring]
    simp only [hfires, hquar]
    rfl
  · beta_reduce
    rw [State.core_retryAgents, hpc, hfired, hlaunch, hlnum, hcore]
    exact ⟨rfl, rfl, rfl, rfl⟩

theorem completes_contFiring {s : State} {c tick : Nat} {e : Nat × Nat} (h : CoreThere s c) (hfires : s.nextFiring c 33 = some (e, tick))
    (hquar : s.quarantined c = false) (hhalt : s.halted = false) (hstop : StopsAt (s.core c) (s.core c).front (entBundle e)) :
    Completes (.contFiring c) s (fun t => (t.core c).pc = some (entBundle e) ∧ (t.core c).fired = tick ∧ (t.core c).launch = (s.core c).launch ∧
      (t.core c).lnum = (s.core c).lnum + 1) := by
  obtain ⟨t, ht, hpc, hfired, hlaunch, hlnum⟩ := completes_contFiring_any h hfires hquar hstop
  rw [hhalt] at hlaunch
  exact ⟨t, ht, hpc, hfired, hlaunch, hlnum⟩

theorem completes_contFiring_halted {s : State} {c tick : Nat} {e : Nat × Nat} (h : CoreThere s c) (hfires : s.nextFiring c 33 = some (e, tick))
    (hquar : s.quarantined c = false) (hphase : s.phase = 8) (hstop : StopsAt (s.core c) (s.core c).front (entBundle e)) :
    Completes (.contFiring c) s (fun t => (t.core c).pc = some (entBundle e) ∧
      (t.core c).launch = (s.core c).launch.map (fun l => { l with empty := true }) ∧ (t.core c).lnum = (s.core c).lnum + 1) := by
  obtain ⟨t, ht, hpc, -, hlaunch, hlnum⟩ := completes_contFiring_any h hfires hquar hstop
  have hhalt : s.halted = true := by simp [State.halted, hphase]
  rw [hhalt, if_pos rfl] at hlaunch
  exact ⟨t, ht, hpc, hlaunch, hlnum⟩

theorem completes_wakeFiring {s : State} {c tick : Nat} {e : Nat × Nat} (h : CoreThere s c) (hfinal : (s.core c).finalDue = false)
    (hold : (s.core c).oldWork = false) (hfires : s.nextFiring c 35 = some (e, tick)) (hquar : s.quarantined c = false) :
    Completes (.wakeFiring c) s (fun t => (t.core c).gated = false ∧ (t.core c).lnum = (s.core c).lnum + 1 ∧ (t.core c).pc = (s.core c).pc) := by
  obtain ⟨b, hlate⟩ := State.core_countLate h.lt tick
  have hlen : c < ((s.countLate c tick).showFiring c e).clusters.cores.length := by
    rw [within_showFiring.same .clusters (by decide), State.length_countLate]
    exact h.lt
  refine ⟨((s.countLate c tick).showFiring c e).modCore c (fun k => { (k.advance e) with gated := false }), ?_, ?_⟩
  · show Host.Outcome.next (s.wakeFiring c) = _
    rw [State.wakeFiring, State.settleCore_of_settled hfinal hold]
    simp only [hfires, hquar]
    rfl
  · beta_reduce
    rw [State.core_modCore_same hlen, State.core_showFiring, hlate]
    obtain ⟨hlnum, -, -, -, -, hpc⟩ := ({ s.core c with lateOn := b } : Core).advance_keeps e
    exact ⟨rfl, hlnum, hpc⟩

/-! ### The release after a FINAL firing (R293, R294) -/

theorem State.core_applyEnable (s : State) (c d : Nat) : (s.applyEnable c).core d = s.core d :=
  State.core_eq_of_clusters (within_applyEnable.same .clusters (by decide)) d

/-- The docket of a bound slot is cleared as its launch ends, a prefill's positions appended first: the core keeps its slots and its flags. -/
def State.unbound (s : State) (c : Nat) : State :=
  if (s.core c).work.bound then
    (if !(s.core c).work.empty && !(s.core c).work.abandoned && (s.core c).work.mode == 0 then s.prefillAppend c (s.core c).work else s).clearDocket c
      ((s.core c).xs.getD 0 0)
  else s

theorem State.core_unbound (s : State) (c : Nat) : ((s.unbound c).core c).slots = (s.core c).slots ∧ ((s.unbound c).core c).flags = (s.core c).flags ∧
    (s.unbound c).clusters.cores.length = s.clusters.cores.length := by
  have hclear : ∀ u : State, u.clusters = s.clusters → ((u.clearDocket c ((s.core c).xs.getD 0 0)).core c).slots = (s.core c).slots ∧
      ((u.clearDocket c ((s.core c).xs.getD 0 0)).core c).flags = (s.core c).flags ∧
      (u.clearDocket c ((s.core c).xs.getD 0 0)).clusters.cores.length = s.clusters.cores.length := by
    intro u hu
    rw [← State.core_eq_of_clusters hu, ← hu]
    unfold State.clearDocket State.localWrite
    split
    · rw [State.core_modCore, State.length_modCore]
      split <;> exact ⟨rfl, rfl, rfl⟩
    · exact ⟨rfl, rfl, rfl⟩
  unfold State.unbound
  split
  · refine hclear _ ?_
    split
    · exact within_prefillAppend.same .clusters (by decide)
    · rfl
  · exact ⟨rfl, rfl, rfl⟩

theorem State.release_due {s : State} {c : Nat} (h : (s.core c).finalDue = true) : s.release c =
    ((if 2 ≤ ((s.core c).slots.getD ((s.core c).xs.getD 0 0) slotReset).phase then
        (s.unbound c).modSlot c ((s.core c).xs.getD 0 0) (fun x => { x with phase := 0, work := none }) else s.unbound c).modCore c Core.workEnded).applyEnable c := by
  rw [State.release]
  refine (if_neg (by simp [h])).trans ?_
  rfl

theorem completes_finalRelease {s : State} {c : Nat} (h : CoreThere s c) (hdue : (s.core c).finalDue = true) : Completes (.finalRelease c) s (fun t =>
    (t.core c).launch = none ∧ (t.core c).gated = (s.core c).flags.testBit 36 ∧
      ((t.core c).slots.getD ((s.core c).xs.getD 0 0) slotReset).phase < 2) := by
  obtain ⟨hslots, hflags, hlen⟩ := s.core_unbound c
  have hlt : c < (s.unbound c).clusters.cores.length := hlen ▸ h.lt
  refine ⟨(s.release c).retryAgents, rfl, ?_⟩
  beta_reduce
  rw [State.core_retryAgents, State.release_due hdue, State.core_applyEnable]
  split
  next hphase =>
    have hin : (s.core c).xs.getD 0 0 < (s.core c).slots.length := by
      by_contra hout
      rw [List.getD_eq_default _ _ (by omega)] at hphase
      exact absurd hphase (by decide)
    rw [State.core_modCore_same (by rw [State.modSlot, State.length_modCore]; exact hlt), State.modSlot, State.core_modCore_same hlt]
    refine ⟨rfl, congrArg (fun n : Nat => n.testBit 36) hflags, ?_⟩
    show ((modifyAt _ _ ((s.unbound c).core c).slots).getD _ slotReset).phase < 2
    rw [hslots, getD_modifyAt, if_pos ⟨rfl, hin⟩]
    exact Nat.zero_lt_two
  next hphase =>
    rw [State.core_modCore_same hlt]
    refine ⟨rfl, congrArg (fun n : Nat => n.testBit 36) hflags, ?_⟩
    show (((s.unbound c).core c).slots.getD _ slotReset).phase < 2
    rw [hslots]
    omega

theorem completes_finalRelease_early {s : State} {c : Nat} (hcalm : Calm s) (h : (s.core c).finalDue = false) :
    Completes (.finalRelease c) s (fun t => t = s) := by
  have hrelease : s.release c = s := by
    rw [State.release]
    exact if_pos (by simp [h])
  refine ⟨(s.release c).retryAgents, rfl, ?_⟩
  rw [hrelease, hcalm.retryAgents]

/-- Settles O32, by one lemma for each sentence. -/
theorem sequencersComplete : Obligations.SequencersComplete := by
  unfold Obligations.SequencersComplete
  exact ⟨fun _ _ _ _ _ => completes_launchFiring, fun _ _ _ _ => completes_launchFiring_quarantined, fun _ _ _ _ => completes_contFiring,
    fun _ _ _ _ => completes_contFiring_halted, fun _ _ _ _ => completes_wakeFiring, fun _ _ h hdue _ => completes_finalRelease h hdue,
    fun _ _ => completes_finalRelease_early, fun _ _ _ => completes_endBundle, fun _ _ _ h _ => completes_setx h, fun _ _ _ h _ => completes_madx h,
    fun _ _ _ => completes_bell_ahead, fun _ _ _ => completes_bell_passed, fun _ _ _ => completes_bellTickReached, fun _ _ _ => completes_fence_idle,
    fun _ _ _ => completes_fence_drain, fun _ _ => completes_fenceDrained, fun _ _ _ _ _ => completes_dispatchResume⟩

end Sys2Proof.Machine
end

section
/-! PROOF. O31: placing of work, binding of slots and their inboxes, enables, quarantine and the checks of products (R246 to R248, R253 to R255, R262
to R265, R404 to R406, R408). -/

-- Proofs are checked one at a time: side by side they would only wait for one another.
set_option Elab.async false

namespace Sys2Proof.Machine
open Sys2Proof

/-! ### Placement (R247, R248) -/

theorem mem_of_earliest {l : List (Nat × Nat × Nat)} {x : Nat × Nat × Nat} (h : earliest l = some x) : x ∈ l := by
  induction l generalizing x with
  | nil => cases h
  | cons y l ih =>
    rw [earliest] at h
    split at h
    · obtain rfl := Option.some.inj h
      exact List.mem_cons_self
    next z hz =>
      split at h
      · obtain rfl := Option.some.inj h
        exact List.mem_cons_of_mem _ (ih hz)
      · obtain rfl := Option.some.inj h
        exact List.mem_cons_self

/-- A free slot is one of its core's. -/
theorem State.slot_of_free {s : State} {program cls tick c n : Nat} (h : (tick, c, n) ∈ s.freeSlots program cls) : n < (s.core c).slots.length := by
  obtain ⟨d, -, hd⟩ := List.mem_flatMap.1 h
  split at hd
  · cases hd
  · obtain ⟨x, hx, hsome⟩ := List.mem_filterMap.1 hd
    split at hsome
    · split at hsome
      · obtain ⟨-, rfl, rfl⟩ : _ = tick ∧ d = c ∧ x.2 = n := by simpa using hsome
        have := List.mem_zipIdx (List.mem_filter.1 hx).1
        omega
      · cases hsome
    · cases hsome

/-- Bytes written behind others of a core's operand buffer, or into its cluster's shared area, leave them alone. -/
theorem State.localRead_localWrite_behind (s : State) {c a n b : Nat} (bs : List Byte) (ha : a < bufferBytes) (hb : a + n ≤ b) :
    (s.localWrite c b bs).localRead c a n = s.localRead c a n := by
  unfold State.localRead State.localWrite
  rw [if_pos ha, if_pos ha]
  split
  · rw [State.core_modCore]
    split
    · refine List.map_congr_left fun i hi => sparseGet_write_other (.inl ?_)
      rw [List.mem_range] at hi
      omega
    · rfl
  · rfl

theorem State.slots_localWrite (s : State) (c a : Nat) (bs : List Byte) (d : Nat) : ((s.localWrite c a bs).core d).slots = (s.core d).slots := by
  unfold State.localWrite
  split
  · rw [State.core_modCore]
    split <;> rfl
  · rfl

theorem State.length_localWrite (s : State) (c a : Nat) (bs : List Byte) : (s.localWrite c a bs).clusters.cores.length = s.clusters.cores.length := by
  unfold State.localWrite
  split
  · exact s.length_modCore c _
  · rfl

/-- Writes behind the bytes of a core that a property speaks of, which leave its slots alone. -/
structure Behind (c a n : Nat) (s t : State) : Prop where
  bytes : t.localRead c a n = s.localRead c a n
  slots : (t.core c).slots = (s.core c).slots
  length : t.clusters.cores.length = s.clusters.cores.length

theorem Behind.refl (c a n : Nat) (s : State) : Behind c a n s s := ⟨rfl, rfl, rfl⟩

theorem Behind.localWrite {c a n : Nat} {s t : State} (h : Behind c a n s t) {b : Nat} (bs : List Byte) (ha : a < bufferBytes) (hb : a + n ≤ b) :
    Behind c a n s (t.localWrite c b bs) :=
  ⟨(t.localRead_localWrite_behind bs ha hb).trans h.bytes, (t.slots_localWrite c b bs c).trans h.slots, (t.length_localWrite c b bs).trans h.length⟩

theorem Behind.foldl {α : Type} {c a n : Nat} {s : State} {g : State → α → State} (hg : ∀ t x, Behind c a n s t → Behind c a n s (g t x)) (l : List α) {t : State}
    (h : Behind c a n s t) : Behind c a n s (l.foldl g t) := by
  induction l generalizing t with
  | nil => exact h
  | cons x l ih => exact ih (hg t x h)

/-- Everything a placement writes but the query lies behind it. -/
theorem State.placeIn_eq (s : State) (a : Attend) (c n : Nat) (hn : n < 16) (hlen : a.query.length ≤ 65536) :
    ∃ t, s.placeIn a c n = t.modSlot c n (fun x => { x with phase := 1, work := some a }) ∧
      Behind c (slotAt n) a.query.length (s.localWrite c (slotAt n) a.query) t := by
  have hslot : slotAt n < bufferBytes := by
    unfold slotAt bufferBytes
    omega
  refine ⟨_, rfl, ?_⟩
  refine .foldl (fun t i ht => ht.localWrite _ hslot (by unfold docketAt; omega)) _ ?_
  refine .localWrite (.localWrite (.localWrite (.localWrite (.refl _ _ _ _) _ hslot ?_) _ hslot ?_) _ hslot ?_) _ hslot ?_
  · omega
  · omega
  · omega
  · unfold docketAt
    omega

theorem completes_attendPlace {s : State} {a : Attend} {p : Program} {k tick c n : Nat} (hfirst : s.stays.placing[0]? = some a) (hphase : s.phase ≠ 6)
    (hhalt : s.halted = false) (hbell : s.bellSet = true) (hprog : s.programOf (cardOf a.card) = some p) (hcls : classFor p a.rooms.length = some k)
    (hfree : earliest (s.freeSlots p.number k) = some (tick, c, n)) (hn : n < 16) (hthere : CoreThere s c) (hlen : a.query.length ≤ 65536) :
    Completes (.attendPlace 0) s (fun t =>
      t.stays.placing = s.stays.placing.eraseIdx 0 ∧ ((t.core c).slots.getD n slotReset).phase = 1 ∧ ((t.core c).slots.getD n slotReset).work = some a ∧
      t.localRead c (slotAt n) a.query.length = a.query) := by
  obtain ⟨t, heq, hbehind⟩ := State.placeIn_eq (s.modStays (fun u => { u with placing := u.placing.eraseIdx 0 })) a c n hn hlen
  have hslot := State.slot_of_free (mem_of_earliest hfree)
  have hcores : t.clusters.cores.length = s.clusters.cores.length := hbehind.length.trans (State.length_localWrite _ _ _ _)
  have hlt : c < t.clusters.cores.length := hcores ▸ hthere.lt
  have hslots : (t.core c).slots = (s.core c).slots := hbehind.slots.trans (State.slots_localWrite _ _ _ _ _)
  refine ⟨(s.modStays (fun u => { u with placing := u.placing.eraseIdx 0 })).placeIn a c n, ?_, ?_, ?_, ?_, ?_⟩
  · show execAttendPlace 0 s = _
    rw [execAttendPlace]
    simp only [hfirst, hprog, hcls, hfree]
    rw [if_neg (by simp [hphase, hhalt, hbell]), if_neg (by simp)]
  · rw [within_placeIn.same .stays (by decide)]
    rfl
  · rw [heq, State.modSlot, State.core_modCore_same hlt]
    show ((modifyAt _ n (t.core c).slots).getD n slotReset).phase = 1
    rw [getD_modifyAt, if_pos ⟨rfl, hslots ▸ hslot⟩]
  · rw [heq, State.modSlot, State.core_modCore_same hlt]
    show ((modifyAt _ n (t.core c).slots).getD n slotReset).work = some a
    rw [getD_modifyAt, if_pos ⟨rfl, hslots ▸ hslot⟩]
  · have hread : ∀ f : Slot → Slot, (t.modSlot c n f).localRead c (slotAt n) a.query.length = t.localRead c (slotAt n) a.query.length := by
      intro f
      unfold State.localRead
      rw [State.modSlot, State.core_modCore_same hlt]
      rfl
    rw [heq, hread, hbehind.bytes]
    obtain ⟨hc, hlen24, hshared, -⟩ := hthere
    exact State.localRead_localWrite (s := s.modStays _) (show c < s.clusters.cores.length by omega) (show c / 4 < s.clusters.shared.length by omega) _ _

theorem completes_attendPlace_none {s : State} {pos : Nat} (h : s.stays.placing[pos]? = none) : Completes (.attendPlace pos) s (fun t => t = s) := by
  refine ⟨s, ?_, rfl⟩
  show execAttendPlace pos s = _
  rw [execAttendPlace, h]

/-! ### Binding and inbox (R253, R254) -/

theorem execBindWrite_eq (s : State) {cl n : Nat} (hcl : cl < 6) (hn : n < 64) (value : Nat) : exec (.bindWrite cl n value) s =
    if ((s.core (4 * cl + n / 16)).slots.getD (n % 16) slotReset).bound = false ∨
        bitsOf (sparseGet (s.reg (CL_BIND_W0 cl n)) s.sw.held0 (CL_BIND_W0 cl n)).toNat 33 0 ≠ 0 ∨ bitsOf value 55 50 ≠ 0 then
      .next ((s.modSw (fun w => { w with held0 := sparseErase w.held0 (CL_BIND_W0 cl n) })).raise (CL_ERR_BIND_REFUSED cl))
    else .next ((((s.modSw (fun w => { w with held0 := sparseErase w.held0 (CL_BIND_W0 cl n) })).setReg (CL_BIND_W0 cl n)
        (BitVec.ofNat 64 (sparseGet (s.reg (CL_BIND_W0 cl n)) s.sw.held0 (CL_BIND_W0 cl n)).toNat)).setReg (CL_BIND_W1 cl n) (BitVec.ofNat 64 value)).modSlot
          (4 * cl + n / 16) (n % 16) (fun x => { x with bindNext := x.bindNext ++
            [((sparseGet (s.reg (CL_BIND_W0 cl n)) s.sw.held0 (CL_BIND_W0 cl n)).toNat.testBit 63,
              { party := bitsOf (sparseGet (s.reg (CL_BIND_W0 cl n)) s.sw.held0 (CL_BIND_W0 cl n)).toNat 62 51,
                rank := bitsOf (sparseGet (s.reg (CL_BIND_W0 cl n)) s.sw.held0 (CL_BIND_W0 cl n)).toNat 50 34
                mask := bitsOf value 63 56, base := bitsOf value 49 0 }, s.now)] })) := by
  show execBindWrite cl n value s = _
  rw [execBindWrite, if_neg (by omega)]
  simp only [Bool.not_eq_eq_eq_not, Bool.not_true]

theorem completes_bindWrite {s : State} {cl n value w0 : Nat} (hcl : cl < 6) (hn : n < 64)
    (hw0 : (sparseGet (s.reg (CL_BIND_W0 cl n)) s.sw.held0 (CL_BIND_W0 cl n)).toNat = w0) (hreserved : bitsOf w0 33 0 = 0) (hreserved' : bitsOf value 55 50 = 0)
    (hbound : ((s.core (4 * cl + n / 16)).slots.getD (n % 16) slotReset).bound = true) (hlen : s.clusters.cores.length = 24) :
    Completes (.bindWrite cl n value) s (fun t =>
      ((t.core (4 * cl + n / 16)).slots.getD (n % 16) slotReset).bindNext = ((s.core (4 * cl + n / 16)).slots.getD (n % 16) slotReset).bindNext ++
        [(w0.testBit 63, { party := bitsOf w0 62 51, rank := bitsOf w0 50 34, mask := bitsOf value 63 56, base := bitsOf value 49 0 }, s.now)] ∧
      t.reg (CL_BIND_W0 cl n) = BitVec.ofNat 64 w0 ∧ t.reg (CL_BIND_W1 cl n) = BitVec.ofNat 64 value) := by
  have hne : CL_BIND_W0 cl n ≠ CL_BIND_W1 cl n := by
    unfold CL_BIND_W0 CL_BIND_W1
    omega
  have hin : n % 16 < (s.core (4 * cl + n / 16)).slots.length := by
    by_contra hout
    rw [List.getD_eq_default _ _ (by omega)] at hbound
    cases hbound
  have hc : 4 * cl + n / 16 < s.clusters.cores.length := by omega
  refine ⟨_, by rw [execBindWrite_eq s hcl hn, hw0, if_neg (by rw [hbound]; simp [hreserved, hreserved'])], ?_, ?_, ?_⟩
  · rw [State.modSlot, State.core_modCore_same (by exact hc)]
    show ((modifyAt _ (n % 16) (s.core _).slots).getD (n % 16) slotReset).bindNext = _
    rw [getD_modifyAt, if_pos ⟨rfl, hin⟩]
  · rw [State.modSlot_reg, State.reg_setReg_other _ _ hne, State.reg_setReg_same]
  · rw [State.modSlot_reg, State.reg_setReg_same]

theorem completes_bindWrite_refused {s : State} {cl n : Nat} (value : Nat) (hcl : cl < 6) (hn : n < 64)
    (hbound : ((s.core (4 * cl + n / 16)).slots.getD (n % 16) slotReset).bound = false) :
    Completes (.bindWrite cl n value) s (fun t => t.clusters = s.clusters ∧ t.fld (CL_ERR_BIND_REFUSED cl) = 1) :=
  ⟨(s.modSw (fun w => { w with held0 := sparseErase w.held0 (CL_BIND_W0 cl n) })).raise (CL_ERR_BIND_REFUSED cl),
    by rw [execBindWrite_eq s hcl hn, if_pos (.inl hbound)], State.raise_clusters _ _, State.fld_raise_same _ _ (show 0 < 64 by decide)⟩

/-- An input within its slot's area lies there in one piece. -/
theorem inboxPlace_area {c n off len : Nat} (h : off + len ≤ 204800) : inboxPlace c n off len = some (if len = 0 then [] else [(slotAt n + off, 0, len)]) := by
  unfold inboxPlace
  dsimp only
  rw [if_neg (by omega), Nat.min_eq_left (by omega : len ≤ 204800 - off), Nat.sub_self]
  by_cases hlen : len = 0
  · simp [hlen]
  · simp [hlen]

theorem State.inboxWrite_alone {s : State} {c : Nat} (h : s.others c 0 = []) (a : Nat) (bs : List Byte) : s.inboxWrite c a bs = s.localWrite c a bs := by
  rw [State.inboxWrite, State.clashes, h]
  rfl

/-- Bytes written to a core's operand buffer leave its launch, and what it runs, as they are. -/
theorem State.launch_localWrite (s : State) (c a : Nat) (bs : List Byte) (d : Nat) : ((s.localWrite c a bs).core d).launch = (s.core d).launch ∧
    ((s.localWrite c a bs).core d).oldWork = (s.core d).oldWork := by
  unfold State.localWrite
  split
  · rw [State.core_modCore]
    split <;> exact ⟨rfl, rfl⟩
  · exact ⟨rfl, rfl⟩

/-- The launch that an input counts in. -/
def Launch.tookInput (l : Launch) (old : Bool) (n len : Nat) : Launch := if l.slot = n ∧ l.bound ∧ !old then { l with inbox := l.inbox + len } else l

theorem exec_inbox_trusted {s : State} {f : Frame} (ht : s.trusted f = true) (hkind : f.kind = 0x18) (hlo : 0xE0 ≤ f.dstPort) (hhi : f.dstPort ≤ 0xE5) {x : Slot}
    (hx : (s.core (4 * (f.dstPort - 0xE0) + bitsOf f.address 1 0)).slots.getD (bitsOf f.address 5 2) slotReset = x) :
    (x.bound = false → exec (.inbox f) s = .next (((s.takeAgent f).count (CL_CNT (f.dstPort - 0xE0) 9)).retryAgents)) ∧
    (x.bound = true → x.takesParty f.party = true → bitsOf f.address 49 28 = 0 → ∀ ps, inboxPlace (4 * (f.dstPort - 0xE0) + bitsOf f.address 1 0)
      (bitsOf f.address 5 2) (bitsOf f.address 27 6) f.payload.length = some ps → exec (.inbox f) s = .next
        (((ps.foldl (fun s p => s.inboxWrite (4 * (f.dstPort - 0xE0) + bitsOf f.address 1 0) p.1 ((f.payload.drop p.2.1).take p.2.2)) (s.takeAgent f)).modCore
          (4 * (f.dstPort - 0xE0) + bitsOf f.address 1 0) (fun k => { k with launch := k.launch.map (fun l =>
            l.tookInput k.oldWork (bitsOf f.address 5 2) f.payload.length) })).retryAgents)) := by
  have hcore : ∀ d, (s.takeAgent f).core d = s.core d := State.core_eq_of_clusters (within_takeAgent.same .clusters (by decide))
  constructor
  · intro hbound
    show execInbox f s = _
    rw [execInbox, State.serve, ht, if_pos rfl]
    dsimp only
    rw [hcore, hx, if_neg (by omega), if_pos (by simp [hbound])]
  · intro hbound hparty hhigh ps hps
    show execInbox f s = _
    rw [execInbox, State.serve, ht, if_pos rfl]
    dsimp only
    rw [hcore, hx, if_neg (by omega), if_neg (by simp [hbound, hparty, hhigh]), hps]
    rfl

theorem completes_inbox_unbound {s : State} {f : Frame} (ht : s.trusted f = true) (hkind : f.kind = 0x18) (hlo : 0xE0 ≤ f.dstPort) (hhi : f.dstPort ≤ 0xE5)
    (hbound : ((s.core (4 * (f.dstPort - 0xE0) + bitsOf f.address 1 0)).slots.getD (bitsOf f.address 5 2) slotReset).bound = false) :
    Completes (.inbox f) s (fun t => t.reg (CL_CNT (f.dstPort - 0xE0) 9) = s.reg (CL_CNT (f.dstPort - 0xE0) 9) + 1 ∧ t.clusters = s.clusters) := by
  have hoff : OffCore (CL_CNT (f.dstPort - 0xE0) 9) := by
    refine offCore_between ?_ ?_
    · unfold CL_CNT
      omega
    · unfold CL_CNT BT_CHOICE
      omega
  refine ⟨_, (exec_inbox_trusted ht hkind hlo hhi rfl).1 hbound, ?_, ?_⟩
  · rw [State.reg_retryAgents hoff, State.reg_count_same, State.reg_takeAgent hoff.1]
  · rw [within_retryAgents.same .clusters (by decide), State.count_clusters, within_takeAgent.same .clusters (by decide)]

theorem State.others_congr {s t : State} (h : t.clusters = s.clusters) (c u : Nat) : t.others c u = s.others c u := by
  unfold State.others
  simp only [State.core_eq_of_clusters h]

theorem completes_inbox {s : State} {f : Frame} {c n off : Nat} (ht : s.trusted f = true) (hkind : f.kind = 0x18) (hlo : 0xE0 ≤ f.dstPort)
    (hhi : f.dstPort ≤ 0xE5) (hc : c = 4 * (f.dstPort - 0xE0) + bitsOf f.address 1 0) (hn : n = bitsOf f.address 5 2) (hoff : off = bitsOf f.address 27 6)
    (hthere : CoreThere s c) (hbound : ((s.core c).slots.getD n slotReset).bound = true) (hparty : ((s.core c).slots.getD n slotReset).takesParty f.party = true)
    (hhigh : bitsOf f.address 49 28 = 0) (hlen : off + f.payload.length ≤ 204800) (halone : s.others c 0 = []) :
    Completes (.inbox f) s (fun t => t.localRead c (slotAt n + off) f.payload.length = f.payload ∧
      (t.core c).launch = (s.core c).launch.map (fun l =>
        if l.slot = n ∧ l.bound = true ∧ (s.core c).oldWork = false then { l with inbox := l.inbox + f.payload.length } else l)) := by
  subst hc hn hoff
  have hclusters : (s.takeAgent f).clusters = s.clusters := within_takeAgent.same .clusters (by decide)
  generalize hw : (s.takeAgent f).localWrite (4 * (f.dstPort - 0xE0) + bitsOf f.address 1 0) (slotAt (bitsOf f.address 5 2) + bitsOf f.address 27 6) f.payload = w
  have hwlen : w.clusters.cores.length = s.clusters.cores.length := by rw [← hw, State.length_localWrite, hclusters]
  have hread : w.localRead (4 * (f.dstPort - 0xE0) + bitsOf f.address 1 0) (slotAt (bitsOf f.address 5 2) + bitsOf f.address 27 6) f.payload.length = f.payload := by
    obtain ⟨hc, hlen24, hshared, -⟩ := hthere
    rw [← hw]
    exact State.localRead_localWrite (by rw [hclusters]; omega) (by rw [hclusters]; omega) _ _
  obtain ⟨hlaunch, hold⟩ := (s.takeAgent f).launch_localWrite (4 * (f.dstPort - 0xE0) + bitsOf f.address 1 0)
    (slotAt (bitsOf f.address 5 2) + bitsOf f.address 27 6) f.payload (4 * (f.dstPort - 0xE0) + bitsOf f.address 1 0)
  rw [hw, State.core_eq_of_clusters hclusters] at hlaunch hold
  have hall : (if f.payload.length = 0 then [] else [(slotAt (bitsOf f.address 5 2) + bitsOf f.address 27 6, 0, f.payload.length)]).foldl
      (fun s p => s.inboxWrite (4 * (f.dstPort - 0xE0) + bitsOf f.address 1 0) p.1 ((f.payload.drop p.2.1).take p.2.2)) (s.takeAgent f) =
        if f.payload.length = 0 then s.takeAgent f else w := by
    split
    · rfl
    · rw [List.foldl_cons, List.foldl_nil, List.drop_zero, List.take_length, State.inboxWrite_alone (by rw [State.others_congr hclusters, halone]), hw]
  refine ⟨_, (exec_inbox_trusted ht hkind hlo hhi rfl).2 hbound hparty hhigh _ (inboxPlace_area hlen), ?_⟩
  rw [hall]
  have hend : ∀ v : State, v.clusters.cores.length = s.clusters.cores.length →
      (v.core (4 * (f.dstPort - 0xE0) + bitsOf f.address 1 0)).launch = (s.core (4 * (f.dstPort - 0xE0) + bitsOf f.address 1 0)).launch →
      (v.core (4 * (f.dstPort - 0xE0) + bitsOf f.address 1 0)).oldWork = (s.core (4 * (f.dstPort - 0xE0) + bitsOf f.address 1 0)).oldWork →
      ((v.modCore (4 * (f.dstPort - 0xE0) + bitsOf f.address 1 0) (fun k => { k with launch := k.launch.map (fun l =>
        l.tookInput k.oldWork (bitsOf f.address 5 2) f.payload.length) })).retryAgents.core (4 * (f.dstPort - 0xE0) + bitsOf f.address 1 0)).launch =
        (s.core (4 * (f.dstPort - 0xE0) + bitsOf f.address 1 0)).launch.map (fun l => if l.slot = bitsOf f.address 5 2 ∧ l.bound = true ∧
          (s.core (4 * (f.dstPort - 0xE0) + bitsOf f.address 1 0)).oldWork = false then { l with inbox := l.inbox + f.payload.length } else l) := by
    intro v hv hvl hvo
    rw [State.core_retryAgents, State.core_modCore_same (by rw [hv]; exact hthere.lt)]
    dsimp only
    rw [hvl, hvo]
    simp only [Launch.tookInput, Bool.not_eq_true']
  split
  next hzero =>
    have hnil : f.payload = [] := List.length_eq_zero_iff.1 hzero
    refine ⟨?_, hend _ (by rw [hclusters]) (by rw [State.core_eq_of_clusters hclusters]) (by rw [State.core_eq_of_clusters hclusters])⟩
    rw [hnil]
    unfold State.localRead
    split <;> rfl
  · refine ⟨?_, hend w hwlen hlaunch hold⟩
    rw [State.localRead_of_clusters (within_retryAgents.same .clusters (by decide))]
    refine Eq.trans ?_ hread
    unfold State.localRead
    rw [State.core_modCore_same (by rw [hwlen]; exact hthere.lt)]
    rfl

/-! ### Enables and the clearing of quarantine (R264, R265, R408) -/

/-- A fold over numbers in which one of them turns what held before into what holds after, and the others keep both. -/
theorem foldl_range_at {α : Type} {g : α → Nat → α} {Q P : α → Prop} {j n : Nat} (hj : j < n) (hQ : ∀ x m, m ≠ j → Q x → Q (g x m))
    (hturn : ∀ x, Q x → P (g x j)) (hP : ∀ x m, m ≠ j → P x → P (g x m)) {x : α} (h : Q x) : P ((List.range n).foldl g x) := by
  have hbefore : ∀ m ≤ j, Q ((List.range m).foldl g x) := by
    intro m
    induction m with
    | zero => exact fun _ => h
    | succ m ih =>
      intro hm
      rw [List.range_succ, List.foldl_append]
      exact hQ _ m (by omega) (ih (by omega))
  induction n with
  | zero => omega
  | succ n ih =>
    rw [List.range_succ, List.foldl_append]
    rcases Nat.lt_or_eq_of_le (Nat.le_of_lt_succ hj) with hlt | rfl
    · exact hP _ n (by omega) (ih hlt)
    · exact hturn _ (hbefore j (le_refl _))

theorem regRow_ctrl : ∀ k < 6, ∃ r, regRow? (CL_CTRL k) = some r ∧ (⟨3, 0, .rw, 0xF, []⟩ : FieldRow) ∈ r.fields := by
  intro k hk
  have h : ∀ k < 6, (regRow? (CL_CTRL k)).map (·.fields) = some [⟨47, 32, .rw, 0x320, [(1, 65535)]⟩, ⟨3, 0, .rw, 0xF, []⟩] := by decide +kernel
  obtain ⟨r, hr, hfields⟩ := Option.map_eq_some_iff.1 (h k hk)
  exact ⟨r, hr, hfields ▸ .tail _ (.head _)⟩

theorem State.regBit_writeCtrl (s : State) {cl m : Nat} (hcl : cl < 6) (hm : m < 4) (value : Nat) :
    (s.writePlain (CL_CTRL cl) value).regBit (CL_CTRL cl) m = value.testBit m := by
  obtain ⟨r, hrow, hf⟩ := regRow_ctrl cl hcl
  have hbits := s.bitsOf_written (value := value) hrow hf
  rw [State.regBit, State.writePlain, State.reg_setReg_same, ← testBit_bitsOf_low (show m ≤ 3 by omega), hbits, testBit_bitsOf_low (by omega)]

theorem ctrl_ne_status (cl : Nat) : CL_CTRL cl ≠ CL_STATUS cl := by
  unfold CL_CTRL CL_STATUS
  omega

theorem State.regBit_setRegBit_off (s : State) {off o : Nat} (h : o ≠ off) (i j : Nat) (b : Bool) : (s.setRegBit off i b).regBit o j = s.regBit o j :=
  State.regBit_eq_of_reg (s.reg_setRegBit_other i b h) j

/-- What a write of CL_CTRL does for core `m` of its cluster once the register is written. -/
def State.enableCore (cl value : Nat) (old : Word) (s : State) (m : Nat) : State :=
  if !value.testBit m then s.setRegBit (CL_STATUS cl) (12 + m) false
  else if !old.toNat.testBit m ∧ (s.core (4 * cl + m)).runs then (s.setRegBit (CL_CTRL cl) m false).setRegBit (CL_STATUS cl) (12 + m) true
  else s

theorem exec_coreEnableWrite (s : State) {cl : Nat} (hcl : cl < 6) (value : Nat) : exec (.coreEnableWrite cl value) s =
    .next ((List.range 4).foldl (State.enableCore cl value (s.reg (CL_CTRL cl))) (s.writePlain (CL_CTRL cl) value)) :=
  if_neg (by omega)

/-- A core's part of the write touches its own enable and its own mark alone, and no core. -/
theorem State.enableCore_other (s : State) {cl value j m : Nat} (old : Word) (h : m ≠ j) (hj : j < 4) :
    (s.enableCore cl value old m).regBit (CL_CTRL cl) j = s.regBit (CL_CTRL cl) j ∧
    (s.enableCore cl value old m).regBit (CL_STATUS cl) (12 + j) = s.regBit (CL_STATUS cl) (12 + j) ∧
    (s.enableCore cl value old m).clusters = s.clusters := by
  have hj1 : j < 64 := by omega
  have hj2 : 12 + j < 64 := by omega
  unfold State.enableCore
  split
  · rw [State.regBit_setRegBit_off _ (ctrl_ne_status cl), State.regBit_setRegBit _ _ _ _ _ hj2, if_neg (by omega)]
    exact ⟨rfl, rfl, within_setRegBit.same .clusters (by decide)⟩
  · split
    · rw [State.regBit_setRegBit_off _ (ctrl_ne_status cl), State.regBit_setRegBit _ _ _ _ _ hj1, State.regBit_setRegBit _ _ _ _ _ hj2, if_neg h.symm,
        if_neg (by omega), State.regBit_setRegBit_off _ (ctrl_ne_status cl).symm]
      exact ⟨rfl, rfl, (within_setRegBit.same .clusters (by decide)).trans (within_setRegBit.same .clusters (by decide))⟩
    · exact ⟨rfl, rfl, rfl⟩

theorem four_mul_add {cl m : Nat} (hm : m < 4) : (4 * cl + m) / 4 = cl ∧ (4 * cl + m) % 4 = m := by omega

theorem State.coreOn_at (s : State) {cl m : Nat} (hm : m < 4) : s.coreOn (4 * cl + m) = s.regBit (CL_CTRL cl) m := by
  rw [State.coreOn, (four_mul_add hm).1, (four_mul_add hm).2]

theorem completes_coreEnableWrite_on {s : State} {cl m value : Nat} (hcl : cl < 6) (hm : m < 4) (hbit : value.testBit m = true)
    (hruns : (s.core (4 * cl + m)).runs = false) : Completes (.coreEnableWrite cl value) s (fun t => t.coreOn (4 * cl + m) = true) := by
  refine ⟨_, exec_coreEnableWrite s hcl value, ?_⟩
  beta_reduce
  rw [State.coreOn_at _ hm]
  refine foldl_range_at (Q := fun x : State => x.regBit (CL_CTRL cl) m = true ∧ x.clusters = s.clusters) (P := fun x : State => x.regBit (CL_CTRL cl) m = true)
    hm (fun x i hi hx => ?_) (fun x hx => ?_) (fun x i hi hx => ?_) ⟨(s.regBit_writeCtrl hcl hm value).trans hbit, rfl⟩
  · obtain ⟨hctrl, -, hclusters⟩ := x.enableCore_other (cl := cl) (value := value) (s.reg (CL_CTRL cl)) hi hm
    exact ⟨hctrl.trans hx.1, hclusters.trans hx.2⟩
  · rw [State.enableCore, hbit, if_neg (by decide), State.core_eq_of_clusters hx.2, hruns, if_neg (by simp)]
    exact hx.1
  · exact (x.enableCore_other (s.reg (CL_CTRL cl)) hi hm).1.trans hx

theorem completes_coreEnableWrite_held {s : State} {cl m value : Nat} (hcl : cl < 6) (hm : m < 4) (hbit : value.testBit m = true)
    (hoff : s.coreOn (4 * cl + m) = false) (hruns : (s.core (4 * cl + m)).runs = true) : Completes (.coreEnableWrite cl value) s (fun t =>
      t.coreOn (4 * cl + m) = false ∧ t.regBit (CL_STATUS cl) (12 + m) = true) := by
  rw [State.coreOn_at _ hm] at hoff
  refine ⟨_, exec_coreEnableWrite s hcl value, ?_⟩
  beta_reduce
  rw [State.coreOn_at _ hm]
  refine foldl_range_at (Q := fun x : State => x.clusters = s.clusters)
    (P := fun x : State => x.regBit (CL_CTRL cl) m = false ∧ x.regBit (CL_STATUS cl) (12 + m) = true)
    hm (fun x i hi hx => ?_) (fun x hx => ?_) (fun x i hi hx => ?_) rfl
  · exact (x.enableCore_other (s.reg (CL_CTRL cl)) hi hm).2.2.trans hx
  · rw [State.regBit] at hoff
    rw [State.enableCore, hbit, if_neg (by decide), State.core_eq_of_clusters hx, hruns, hoff, if_pos (by decide),
      State.regBit_setRegBit_off _ (ctrl_ne_status cl), State.regBit_setRegBit _ _ _ _ _ (by omega), State.regBit_setRegBit _ _ _ _ _ (by omega),
      if_pos rfl, if_pos rfl]
    exact ⟨rfl, rfl⟩
  · obtain ⟨hctrl, hstatus, -⟩ := x.enableCore_other (cl := cl) (value := value) (s.reg (CL_CTRL cl)) hi hm
    exact ⟨hctrl.trans hx.1, hstatus.trans hx.2⟩

theorem completes_coreEnableWrite_off {s : State} {cl m value : Nat} (hcl : cl < 6) (hm : m < 4) (hbit : value.testBit m = false) :
    Completes (.coreEnableWrite cl value) s (fun t => t.coreOn (4 * cl + m) = false ∧ t.regBit (CL_STATUS cl) (12 + m) = false) := by
  refine ⟨_, exec_coreEnableWrite s hcl value, ?_⟩
  beta_reduce
  rw [State.coreOn_at _ hm]
  refine foldl_range_at (Q := fun x : State => x.regBit (CL_CTRL cl) m = false)
    (P := fun x : State => x.regBit (CL_CTRL cl) m = false ∧ x.regBit (CL_STATUS cl) (12 + m) = false)
    hm (fun x i hi hx => ?_) (fun x hx => ?_) (fun x i hi hx => ?_) ((s.regBit_writeCtrl hcl hm value).trans hbit)
  · exact (x.enableCore_other (s.reg (CL_CTRL cl)) hi hm).1.trans hx
  · rw [State.enableCore, hbit, if_pos (by decide), State.regBit_setRegBit_off _ (ctrl_ne_status cl), State.regBit_setRegBit _ _ _ _ _ (by omega), if_pos rfl]
    exact ⟨hx, rfl⟩
  · obtain ⟨hctrl, hstatus, -⟩ := x.enableCore_other (cl := cl) (value := value) (s.reg (CL_CTRL cl)) hi hm
    exact ⟨hctrl.trans hx.1, hstatus.trans hx.2⟩

/-- What a write of CL_QUAR does for core `m` of its cluster. -/
def State.unquarantine (cl value : Nat) (s : State) (m : Nat) : State :=
  if !value.testBit m ∨ !s.quarantined (4 * cl + m) ∨ (s.roseAt (CL_QUAR cl)).toNat.testBit m then s
  else if (s.core (4 * cl + m)).proof then s.modCore (4 * cl + m) (fun k => { k with quarHeld := true })
  else s.setRegBit (CL_QUAR cl) m false

theorem exec_quarantineClear (s : State) {cl : Nat} (hcl : cl < 6) (value : Nat) : exec (.quarantineClear cl value) s =
    .next ((List.range 4).foldl (State.unquarantine cl value) s) :=
  if_neg (by omega)

/-- A bit that is cleared is none that hardware sets. -/
theorem State.roseAt_clearBit (s : State) (off i : Nat) : (s.setRegBit off i false).roseAt off = s.roseAt off := by
  have hrisen : BitVec.ofNat 64 (putBitOf (s.reg off).toNat i false) &&& ~~~(s.reg off) = 0 := by
    apply BitVec.eq_of_getElem_eq
    intro j hj
    rw [BitVec.getElem_and, BitVec.getElem_not, ← BitVec.getLsbD_eq_getElem, BitVec.getLsbD_ofNat, testBit_putBitOf, ← BitVec.getLsbD_eq_getElem]
    split
    · simp
    · rw [← BitVec.getLsbD]
      simp
  have hset : s.noteRise off (BitVec.ofNat 64 (putBitOf (s.reg off).toNat i false) &&& ~~~(s.reg off)) = s.rose := by
    rw [State.noteRise, if_pos hrisen]
  have hrose : (s.setRegBit off i false).rose = s.rose := hset
  rw [State.roseAt, hrose]
  rfl

theorem State.quarantined_at (s : State) {cl m : Nat} (hm : m < 4) : s.quarantined (4 * cl + m) = s.regBit (CL_QUAR cl) m := by
  rw [State.quarantined, (four_mul_add hm).1, (four_mul_add hm).2]

theorem State.unquarantine_other (s : State) {cl value j m : Nat} (h : m ≠ j) (hj : j < 4) :
    (s.unquarantine cl value m).regBit (CL_QUAR cl) j = s.regBit (CL_QUAR cl) j ∧ (s.unquarantine cl value m).roseAt (CL_QUAR cl) = s.roseAt (CL_QUAR cl) ∧
    ((s.unquarantine cl value m).core (4 * cl + j)).proof = (s.core (4 * cl + j)).proof := by
  unfold State.unquarantine
  split
  · exact ⟨rfl, rfl, rfl⟩
  · split
    · exact ⟨rfl, rfl, by rw [State.core_modCore_other (by omega)]⟩
    · rw [State.regBit_setRegBit _ _ _ _ _ (by omega), if_neg h.symm, State.roseAt_clearBit]
      exact ⟨rfl, rfl, rfl⟩

theorem completes_quarantineClear {s : State} {cl m value : Nat} (hcl : cl < 6) (hm : m < 4) (hbit : value.testBit m = true)
    (hproof : (s.core (4 * cl + m)).proof = false) (hrose : (s.roseAt (CL_QUAR cl)).toNat.testBit m = false) :
    Completes (.quarantineClear cl value) s (fun t => t.quarantined (4 * cl + m) = false) := by
  refine ⟨_, exec_quarantineClear s hcl value, ?_⟩
  beta_reduce
  rw [State.quarantined_at _ hm]
  refine foldl_range_at (Q := fun x : State => x.roseAt (CL_QUAR cl) = s.roseAt (CL_QUAR cl) ∧ (x.core (4 * cl + m)).proof = false)
    (P := fun x : State => x.regBit (CL_QUAR cl) m = false) hm (fun x i hi hx => ?_) (fun x hx => ?_) (fun x i hi hx => ?_) ⟨rfl, hproof⟩
  · obtain ⟨-, hr, hp⟩ := x.unquarantine_other (cl := cl) (value := value) hi hm
    exact ⟨hr.trans hx.1, hp.trans hx.2⟩
  · rw [State.unquarantine, hbit, hx.1, hrose, hx.2, State.quarantined_at _ hm]
    cases hq : x.regBit (CL_QUAR cl) m with
    | false => rw [if_pos (by simp), hq]
    | true => rw [if_neg (by simp), if_neg (by simp), State.regBit_setRegBit _ _ _ _ _ (by omega), if_pos rfl]
  · exact (x.unquarantine_other hi hm).1.trans hx

theorem completes_quarantineClear_risen {s : State} {cl m value : Nat} (hcl : cl < 6) (hm : m < 4) (hquar : s.quarantined (4 * cl + m) = true)
    (hrose : (s.roseAt (CL_QUAR cl)).toNat.testBit m = true) :
    Completes (.quarantineClear cl value) s (fun t => t.quarantined (4 * cl + m) = true) := by
  rw [State.quarantined_at _ hm] at hquar
  refine ⟨_, exec_quarantineClear s hcl value, ?_⟩
  beta_reduce
  rw [State.quarantined_at _ hm]
  refine foldl_range_at (Q := fun x : State => x.regBit (CL_QUAR cl) m = true ∧ x.roseAt (CL_QUAR cl) = s.roseAt (CL_QUAR cl))
    (P := fun x : State => x.regBit (CL_QUAR cl) m = true) hm (fun x i hi hx => ?_) (fun x hx => ?_) (fun x i hi hx => ?_) ⟨hquar, rfl⟩
  · obtain ⟨hb, hr, -⟩ := x.unquarantine_other (cl := cl) (value := value) hi hm
    exact ⟨hb.trans hx.1, hr.trans hx.2⟩
  · rw [State.unquarantine, hx.2, if_pos (.inr (.inr hrose))]
    exact hx.1
  · exact (x.unquarantine_other hi hm).1.trans hx

/-! ### Quarantine (R263, R404) -/

/-- The registers that the quarantine of a core of cluster `k` may write. -/
def quarRegs (k : Nat) : List Nat := [CL_QUAR k, CL_CTRL k, CL_STATUS k]

theorem State.reg_applyEnable_other (s : State) {c o : Nat} (h1 : o ≠ CL_CTRL (c / 4)) (h2 : o ≠ CL_STATUS (c / 4)) : (s.applyEnable c).reg o = s.reg o := by
  unfold State.applyEnable
  dsimp only
  split
  · rw [State.reg_setRegBit_other _ _ _ h2, State.reg_setRegBit_other _ _ _ h1]
  · rfl

/-- A quarantine sets its core's bit, ends what the core does, and lets a held enable act. -/
theorem State.reg_quarantine (s : State) {c o : Nat} (h1 : o ≠ CL_CTRL (c / 4)) (h2 : o ≠ CL_STATUS (c / 4)) : (s.quarantine c).reg o =
    if s.quarantined c then s.reg o else (s.setRegBit (CL_QUAR (c / 4)) (c % 4) true).reg o := by
  unfold State.quarantine
  split
  · rfl
  · dsimp only
    rw [State.reg_applyEnable_other _ h1 h2, State.modCore_reg, State.reg_foldl (fun x n _ => x.reg_clearDocket c n o), within_requeue.reg (by decide)]

theorem State.reg_quarantine_other (s : State) {c o : Nat} (h : o ∉ quarRegs (c / 4)) : (s.quarantine c).reg o = s.reg o := by
  obtain ⟨h0, h1, h2⟩ : o ≠ CL_QUAR (c / 4) ∧ o ≠ CL_CTRL (c / 4) ∧ o ≠ CL_STATUS (c / 4) := by simpa [quarRegs] using h
  rw [State.reg_quarantine _ h1 h2, State.reg_setRegBit_other _ _ _ h0, ite_self]

theorem quar_ne (k j : Nat) : CL_QUAR j ≠ CL_CTRL k ∧ CL_QUAR j ≠ CL_STATUS k := by
  unfold CL_QUAR CL_CTRL CL_STATUS
  omega

theorem State.quarantined_quarantine (s : State) (c : Nat) : (s.quarantine c).quarantined c = true := by
  have hreg := s.reg_quarantine (quar_ne (c / 4) (c / 4)).1 (quar_ne (c / 4) (c / 4)).2
  rw [State.quarantined, State.regBit, hreg]
  split
  next h => exact h
  next =>
    have hbit := s.regBit_setRegBit (CL_QUAR (c / 4)) (c % 4) (c % 4) true (by omega)
    rwa [if_pos rfl] at hbit

/-- A core in quarantine stays there as another is put there. -/
theorem State.quarantined_of_quarantine (s : State) {c d : Nat} (h : s.quarantined d = true) : (s.quarantine c).quarantined d = true := by
  have hreg := s.reg_quarantine (quar_ne (c / 4) (d / 4)).1 (quar_ne (c / 4) (d / 4)).2
  rw [State.quarantined, State.regBit, hreg]
  split
  · exact h
  · by_cases hk : d / 4 = c / 4
    · rw [hk]
      have hbit := s.regBit_setRegBit (CL_QUAR (c / 4)) (c % 4) (d % 4) true (by omega)
      rw [State.regBit] at hbit
      rw [hbit]
      split
      · rfl
      · rw [← hk]
        exact h
    · have hne : CL_QUAR (d / 4) ≠ CL_QUAR (c / 4) := by
        unfold CL_QUAR
        omega
      rw [State.reg_setRegBit_other _ _ _ hne]
      exact h

/-! ### Checks of products (R262, R263, R404, R405) -/

theorem cnt_not_quar (k i : Nat) : CL_CNT k i ∉ quarRegs k := by
  have hne : CL_CNT k i ≠ CL_QUAR k ∧ CL_CNT k i ≠ CL_CTRL k ∧ CL_CNT k i ≠ CL_STATUS k := by
    unfold CL_CNT CL_QUAR CL_CTRL CL_STATUS
    omega
  simpa [quarRegs] using hne

theorem partner_facts : ∀ c < 24, partnerOf c 1 / 4 = c / 4 ∧ partnerOf c 1 ≠ c := by decide

/-- Registers from the clusters' blocks on lie behind those of the watch. -/
theorem ahead_of_watch {o : Nat} (h : 0x00800000 ≤ o) : o < WATCH_CTRL + 8 ∨ WATCH_FIRST 16 ≤ o := by
  unfold WATCH_CTRL WATCH_FIRST
  omega

theorem cnt_ge (k i : Nat) : 0x00800000 ≤ CL_CNT k i := by
  unfold CL_CNT
  omega

theorem watchSev_ne_cl {o : Nat} (h : 0x00800000 ≤ o) {source : Nat} (hsource : source < 1024) : WATCH_SEV source ≠ o := by
  unfold WATCH_SEV
  omega

theorem State.severity_clCount (s : State) (c i : Nat) {source : Nat} (hsource : source < 1024) (kind : Nat) :
    (s.clCount c i).severity source kind = s.severity source kind :=
  State.severity_congr (s.reg_count_other (watchSev_ne_cl (cnt_ge _ _) hsource)) kind

theorem State.severity_fault_minor {s : State} {source kind : Nat} (h : s.severity source kind < 4) (address : Nat) (source' kind' : Nat) :
    (s.fault source kind address).severity source' kind' = s.severity source' kind' := by
  refine State.severity_congr (State.reg_fault_minor h address ?_) kind'
  unfold WATCH_SEV WATCH_FIRST WATCH_CTRL
  omega

theorem source_lt {c : Nat} (hc : c < 24) : 0xA0 + c < 1024 ∧ 0xA0 + partnerOf c 1 < 1024 := by
  have hpartner : ∀ c < 24, partnerOf c 1 < 24 := by decide
  have := hpartner c hc
  omega

/-- No two tiles agree: both cores are in quarantine, the count is one up, and the watch knows (R263, R405). -/
theorem State.noMajority_shows {s : State} {c : Nat} (hc : c < 24) (p : Nat) (hsev : s.severity (0xA0 + c) 0x09 < 4)
    (hsev' : s.severity (0xA0 + partnerOf c 1) 0x09 < 4) : (s.noMajority c p).quarantined c = true ∧ (s.noMajority c p).quarantined (partnerOf c 1) = true ∧
      (∀ i, (s.noMajority c p).reg (CL_CNT (c / 4) i) = (s.clCount c 7).reg (CL_CNT (c / 4) i)) ∧ Told s (s.noMajority c p) (0xA0 + c) 0x09 p := by
  obtain ⟨hsame, -⟩ := partner_facts c hc
  obtain ⟨hsrc, hsrc'⟩ := source_lt hc
  have h1 : (s.clCount c 7).severity (0xA0 + c) 0x09 < 4 := by rwa [s.severity_clCount c 7 hsrc]
  have h2 : ((s.clCount c 7).fault (0xA0 + c) 0x09 p).severity (0xA0 + partnerOf c 1) 0x09 < 4 := by
    rwa [State.severity_fault_minor h1, s.severity_clCount c 7 hsrc']
  have hcnt : ∀ i, CL_CNT (c / 4) i < WATCH_CTRL + 8 ∨ WATCH_FIRST 16 ≤ CL_CNT (c / 4) i := fun i => ahead_of_watch (cnt_ge _ _)
  refine ⟨State.quarantined_of_quarantine _ (State.quarantined_quarantine _ _), State.quarantined_quarantine _ _, fun i => ?_, ?_⟩
  · rw [State.noMajority, State.reg_quarantine_other _ (by rw [hsame]; exact cnt_not_quar _ _), State.reg_quarantine_other _ (cnt_not_quar _ _),
      State.reg_fault_minor h2 _ (hcnt i), State.reg_fault_minor h1 _ (hcnt i)]
  · have htold := told_fault (s.clCount c 7) (0xA0 + c) 0x09 p
    rw [Told, s.severity_clCount c 7 hsrc, State.now_eq_of_bell (within_clCount.same .bell (by decide)), within_clCount.same .watch (by decide)] at htold
    intro hroom
    obtain ⟨m, hm, hword, htime⟩ := htold hroom
    have hwatch : (s.noMajority c p).watch = (((s.clCount c 7).fault (0xA0 + c) 0x09 p).fault (0xA0 + partnerOf c 1) 0x09 p).watch :=
      (within_quarantine.same .watch (by decide)).trans (within_quarantine.same .watch (by decide))
    rw [hwatch]
    exact ⟨m, State.queue_accept_subset_fault _ _ _ _ (State.queue_subset_accept _ _ _ _ _ hm), hword, htime⟩

theorem State.core_localWrite (s : State) (c a : Nat) (bs : List Byte) (d : Nat) : ∃ b, (s.localWrite c a bs).core d = { s.core d with buf := b } := by
  unfold State.localWrite
  split
  · rw [State.core_modCore]
    split
    · exact ⟨_, rfl⟩
    · exact ⟨(s.core d).buf, rfl⟩
  · exact ⟨(s.core d).buf, rfl⟩

/-- A product run on another core passes through local space and sets flags there: nothing else of a core changes. -/
theorem State.core_runOn (s : State) (c d e : Nat) : ∃ b, (s.runOn c d).core e = { s.core e with buf := b } := by
  rw [State.runOn, State.core_eq_of_clusters (within_numFlags.same .clusters (by decide))]
  unfold State.copyOperands
  dsimp only
  split
  · exact ⟨(s.core e).buf, rfl⟩
  · exact State.core_localWrite _ _ _ _ _

theorem State.length_runOn (s : State) (c d : Nat) : (s.runOn c d).clusters.cores.length = s.clusters.cores.length := by
  rw [State.runOn, within_numFlags.same .clusters (by decide)]
  unfold State.copyOperands
  dsimp only
  split
  · rfl
  · exact State.length_localWrite _ _ _ _

theorem State.reg_runOn_other (s : State) (c : Nat) {d o : Nat} (h : o ≠ CL_NUMFLAGS (d / 4) (d % 4)) : (s.runOn c d).reg o = s.reg o :=
  (State.reg_setReg_other _ _ h).trans (within_copyOperands.reg (by decide) o)

theorem cnt_ne_numflags (k i d : Nat) (hi : i < 256) : CL_CNT k i ≠ CL_NUMFLAGS (d / 4) (d % 4) := by
  unfold CL_CNT CL_NUMFLAGS
  omega

theorem exec_dupMismatch (s : State) (c : Nat) : exec (.dupMismatch c) s = .next (s.meetCheck c none) := rfl

theorem exec_residueFail (s : State) (c : Nat) (ok : Bool) : exec (.residueFail c ok) s = .next (s.meetCheck c (some ok)) := rfl

theorem State.meetCheck_served {s : State} (h : s.phase ≠ 6) (c : Nat) (x : Option Bool) : s.meetCheck c x = s.failedCheck c x := if_pos h

/-- The tiles of a duplicated product differ, which nothing has told of yet. -/
theorem State.tilesDiffer_eq {s : State} {c : Nat} {q : Queued} (hrun : (s.core c).runningMma = some q) (hdup : s.duplicated c q = true)
    (hhold : (s.core c).dupHold = none) (hgoes : (s.core c).work.abandoned = false) : s.tilesDiffer c =
      if s.quarantined (partnerOf c 2) ∧ s.quarantined (partnerOf c 3) then (s.clCount c 5).noMajority c q.product
      else ((s.clCount c 5).runOn c (if s.quarantined (partnerOf c 2) then partnerOf c 3 else partnerOf c 2)).modCore c (fun k => { k with
        dupHold := some q.product }) := by
  rw [State.tilesDiffer, hrun]
  dsimp only
  rw [if_neg (by simp [hdup, hhold, hgoes])]

theorem completes_dupMismatch_third {s : State} {c : Nat} {q : Queued} (h : CoreThere s c) (hrun : (s.core c).runningMma = some q)
    (hdup : s.duplicated c q = true) (hhold : (s.core c).dupHold = none) (hgoes : (s.core c).work.abandoned = false) (hphase : s.phase ≠ 6)
    (hthird : s.quarantined (partnerOf c 2) = false ∨ s.quarantined (partnerOf c 3) = false) :
    Completes (.dupMismatch c) s (fun t => (t.core c).dupHold = some q.product ∧ t.reg (CL_CNT (c / 4) 5) = s.reg (CL_CNT (c / 4) 5) + 1) := by
  refine ⟨_, by rw [exec_dupMismatch, State.meetCheck_served hphase, State.failedCheck, State.tilesDiffer_eq hrun hdup hhold hgoes, if_neg (by
    rintro ⟨h2, h3⟩
    rw [h2, h3] at hthird
    simp at hthird)], ?_, ?_⟩
  · rw [State.core_modCore_same (by rw [State.length_runOn, State.clusters_clCount]; exact h.lt)]
  · rw [State.modCore_reg, State.reg_runOn_other _ _ (cnt_ne_numflags _ _ _ (by decide))]
    exact s.reg_count_same _

theorem completes_dupMismatch_noMajority {s : State} {c : Nat} {q : Queued} (h : CoreThere s c) (hrun : (s.core c).runningMma = some q)
    (hdup : s.duplicated c q = true) (hhold : (s.core c).dupHold = none) (hgoes : (s.core c).work.abandoned = false) (hphase : s.phase ≠ 6)
    (h2 : s.quarantined (partnerOf c 2) = true) (h3 : s.quarantined (partnerOf c 3) = true) (hsev : s.severity (0xA0 + c) 0x09 < 4)
    (hsev' : s.severity (0xA0 + partnerOf c 1) 0x09 < 4) : Completes (.dupMismatch c) s (fun t =>
      t.quarantined c = true ∧ t.quarantined (partnerOf c 1) = true ∧ t.reg (CL_CNT (c / 4) 5) = s.reg (CL_CNT (c / 4) 5) + 1 ∧
      t.reg (CL_CNT (c / 4) 7) = s.reg (CL_CNT (c / 4) 7) + 1 ∧ Told s t (0xA0 + c) 0x09 q.product) := by
  obtain ⟨hsrc, hsrc'⟩ := source_lt h.1
  have hne : CL_CNT (c / 4) 5 ≠ CL_CNT (c / 4) 7 := by
    unfold CL_CNT
    omega
  obtain ⟨hq, hq', hcnt, htold⟩ := State.noMajority_shows (s := s.clCount c 5) h.1 q.product (by rwa [s.severity_clCount c 5 hsrc])
    (by rwa [s.severity_clCount c 5 hsrc'])
  refine ⟨(s.clCount c 5).noMajority c q.product, ?_, hq, hq', ?_, ?_, ?_⟩
  · rw [exec_dupMismatch, State.meetCheck_served hphase, State.failedCheck, State.tilesDiffer_eq hrun hdup hhold hgoes, if_pos ⟨h2, h3⟩]
  · rw [hcnt, State.clCount, State.reg_count_other _ hne]
    exact s.reg_count_same _
  · rw [hcnt, State.clCount, State.reg_count_same]
    exact congrArg (· + 1) (s.reg_count_other hne.symm)
  · rwa [Told, within_clCount.same .watch (by decide), s.severity_clCount c 5 hsrc, State.now_eq_of_bell (within_clCount.same .bell (by decide))] at htold

/-- In a stopover a failed check is kept for after it (R419). -/
theorem completes_check_kept {s : State} {c : Nat} {q : Queued} {i : Instr} {x : Option Bool} (hexec : exec i s = .next (s.meetCheck c x)) (h : CoreThere s c)
    (hrun : (s.core c).runningMma = some q) (hphase : s.phase = 6) :
    Completes i s (fun t => (t.core c).checks = (s.core c).checks ++ [x] ∧ t.regs = s.regs) := by
  refine ⟨s.modCore c (fun k => { k with checks := k.checks ++ [x] }), ?_, ?_, rfl⟩
  · rw [hexec, State.meetCheck, if_neg (by simp [hphase]), hrun, Option.isSome_some, if_pos rfl]
  · rw [State.core_modCore_same h.lt]

/-- The third run of a product ends, and agrees with one tile: the hold ends, the count is one up, and the watch knows of the other core. -/
theorem completes_dupThirdRun {s : State} {c d p : Nat} {i : Instr} (h : CoreThere s c) (hd : 0xA0 + d < 1024) (hsev : s.severity (0xA0 + d) 0x08 < 4)
    (hexec : exec i s = .next (((s.modCore c (fun k => { k with dupHold := none })).clCount c 6).fault (0xA0 + d) 0x08 p)) :
    Completes i s (fun t => (t.core c).dupHold = none ∧ t.reg (CL_CNT (c / 4) 6) = s.reg (CL_CNT (c / 4) 6) + 1 ∧ Told s t (0xA0 + d) 0x08 p) := by
  have hsame : ((s.modCore c (fun k => { k with dupHold := none })).clCount c 6).severity (0xA0 + d) 0x08 = s.severity (0xA0 + d) 0x08 :=
    State.severity_clCount (s.modCore c _) c 6 hd 0x08
  refine ⟨_, hexec, ?_, ?_, Told.of_fault ?_ ?_ hsame rfl⟩
  · rw [State.core_eq_of_clusters ((within_fault_minor (by rwa [hsame]) p).same .clusters (by decide)), State.core_eq_of_clusters (State.clusters_clCount _ c 6),
      State.core_modCore_same h.lt]
  · rw [State.reg_fault_minor (by rwa [hsame]) p (ahead_of_watch (cnt_ge _ _)), State.clCount, State.reg_count_same, State.modCore_reg]
  · exact within_clCount.same .watch (by decide)
  · exact within_clCount.same .bell (by decide)

theorem execDupThirdRunDone_held {s : State} {c p : Nat} (hhold : (s.core c).dupHold = some p) :
    exec (.dupThirdRunDone c .originalAgrees) s =
      .next (((s.modCore c (fun k => { k with dupHold := none })).clCount c 6).fault (0xA0 + partnerOf c 1) 0x08 p) ∧
    exec (.dupThirdRunDone c .duplicateAgrees) s = .next (((s.modCore c (fun k => { k with dupHold := none })).clCount c 6).fault (0xA0 + c) 0x08 p) ∧
    exec (.dupThirdRunDone c .noMajority) s = .next ((s.modCore c (fun k => { k with dupHold := none })).noMajority c p) := by
  refine ⟨?_, ?_, ?_⟩
  · show execDupThirdRunDone c .originalAgrees s = _
    rw [execDupThirdRunDone, hhold]
  · show execDupThirdRunDone c .duplicateAgrees s = _
    rw [execDupThirdRunDone, hhold]
  · show execDupThirdRunDone c .noMajority s = _
    rw [execDupThirdRunDone, hhold]

theorem completes_dupThirdRun_noMajority {s : State} {c p : Nat} (h : CoreThere s c) (hhold : (s.core c).dupHold = some p)
    (hsev : s.severity (0xA0 + c) 0x09 < 4) (hsev' : s.severity (0xA0 + partnerOf c 1) 0x09 < 4) :
    Completes (.dupThirdRunDone c .noMajority) s (fun t => t.quarantined c = true ∧ t.quarantined (partnerOf c 1) = true ∧
      t.reg (CL_CNT (c / 4) 7) = s.reg (CL_CNT (c / 4) 7) + 1 ∧ Told s t (0xA0 + c) 0x09 p) := by
  obtain ⟨hq, hq', hcnt, htold⟩ := State.noMajority_shows (s := s.modCore c (fun k => { k with dupHold := none })) h.1 p hsev hsev'
  refine ⟨_, (execDupThirdRunDone_held hhold).2.2, hq, hq', ?_, htold⟩
  rw [hcnt, State.clCount, State.reg_count_same, State.modCore_reg]

/-- A failed residue check as the watch hears of it, before its product runs elsewhere (R404). -/
def State.residueTold (s : State) (c : Nat) (q : Queued) : State :=
  ((s.count (PH_RESIDUE c)).modCore c (fun k => { k with residueAt := some s.free })).fault (0xA0 + c) 0x07 q.product

/-- The product runs on the partner, where that core may run it. -/
def State.residueRun (s : State) (c : Nat) (q : Queued) : State :=
  if s.quarantined (partnerOf c 1) then s.residueTold c q else (s.residueTold c q).runOn c (partnerOf c 1)

theorem State.residueFails_eq {s : State} {c : Nat} {q : Queued} (hrun : (s.core c).runningMma = some q) (ok : Bool) :
    (ok = false → s.residueFails c ok = (s.residueRun c q).quarantine c) ∧
    (ok = true → s.quarantined (partnerOf c 1) = false → (s.core c).residueAt = none → s.residueFails c ok = s.residueRun c q) := by
  constructor
  · rintro rfl
    rw [State.residueFails, hrun]
    dsimp only
    rw [if_pos (by simp)]
    rfl
  · rintro rfl hpartner hfirst
    rw [State.residueFails, hrun, hfirst]
    dsimp only
    rw [hpartner, if_neg (by decide), if_neg (by decide), State.residueRun, hpartner]
    rfl

theorem residue_ge (c : Nat) : 0x00800000 ≤ PH_RESIDUE c := by
  unfold PH_RESIDUE
  omega

theorem residue_ne_numflags (c : Nat) {d : Nat} (hd : d < 24) : PH_RESIDUE c ≠ CL_NUMFLAGS (d / 4) (d % 4) := by
  unfold PH_RESIDUE CL_NUMFLAGS
  omega

theorem residue_ne_quar {c : Nat} (hc : c < 24) : PH_RESIDUE c ∉ quarRegs (c / 4) ∧ CL_QUAR (c / 4) ≠ PH_RESIDUE c := by
  have hne : PH_RESIDUE c ≠ CL_QUAR (c / 4) ∧ PH_RESIDUE c ≠ CL_CTRL (c / 4) ∧ PH_RESIDUE c ≠ CL_STATUS (c / 4) := by
    unfold PH_RESIDUE CL_QUAR CL_CTRL CL_STATUS
    omega
  exact ⟨by simpa [quarRegs] using hne, hne.1.symm⟩

theorem State.severity_residue {s : State} {c : Nat} (hc : c < 24) :
    ((s.count (PH_RESIDUE c)).modCore c (fun k => { k with residueAt := some s.free })).severity (0xA0 + c) 0x07 = s.severity (0xA0 + c) 0x07 :=
  State.severity_congr (s := s) (t := (s.count (PH_RESIDUE c)).modCore c _) (s.reg_count_other (watchSev_ne_cl (residue_ge c) (source_lt hc).1)) 0x07

theorem State.residueRun_shows {s : State} {c : Nat} (h : CoreThere s c) (q : Queued) (hsev : s.severity (0xA0 + c) 0x07 < 4) :
    ((s.residueRun c q).core c).residueAt = some s.free ∧ (s.residueRun c q).reg (PH_RESIDUE c) = s.reg (PH_RESIDUE c) + 1 ∧
    (s.residueRun c q).quarantined c = s.quarantined c ∧ Told s (s.residueRun c q) (0xA0 + c) 0x07 q.product := by
  have hsev' : ((s.count (PH_RESIDUE c)).modCore c (fun k => { k with residueAt := some s.free })).severity (0xA0 + c) 0x07 < 4 := by
    rwa [State.severity_residue h.1]
  have hpartner : partnerOf c 1 < 24 := by
    have hall : ∀ c < 24, partnerOf c 1 < 24 := by decide
    exact hall c h.1
  have hcore : ((s.residueTold c q).core c).residueAt = some s.free := by
    rw [State.residueTold, State.core_eq_of_clusters ((within_fault_minor hsev' _).same .clusters (by decide)),
      State.core_modCore_same (by rw [State.count_clusters]; exact h.lt)]
  have hreg : ∀ o, 0x00800000 ≤ o → (s.residueTold c q).reg o = (s.count (PH_RESIDUE c)).reg o := fun o ho =>
    (State.reg_fault_minor hsev' _ (ahead_of_watch ho)).trans (State.modCore_reg _ _ _ _)
  have hrun : ∀ o, 0x00800000 ≤ o → o ≠ CL_NUMFLAGS (partnerOf c 1 / 4) (partnerOf c 1 % 4) → (s.residueRun c q).reg o = (s.count (PH_RESIDUE c)).reg o := by
    intro o ho hne
    unfold State.residueRun
    split
    · exact hreg o ho
    · rw [State.reg_runOn_other _ _ hne, hreg o ho]
  have hquarFlags : CL_QUAR (c / 4) ≠ CL_NUMFLAGS (partnerOf c 1 / 4) (partnerOf c 1 % 4) := by
    unfold CL_QUAR CL_NUMFLAGS
    omega
  have hquarGe : 0x00800000 ≤ CL_QUAR (c / 4) := by
    unfold CL_QUAR
    omega
  refine ⟨?_, ?_, ?_, Told.of_fault ?_ ?_ (State.severity_residue h.1) ?_⟩
  · unfold State.residueRun
    split
    · exact hcore
    · obtain ⟨b, hb⟩ := (s.residueTold c q).core_runOn c (partnerOf c 1) c
      rw [hb]
      exact hcore
  · rw [hrun _ (residue_ge c) (residue_ne_numflags c hpartner), State.reg_count_same]
  · exact State.regBit_eq_of_reg ((hrun _ hquarGe hquarFlags).trans (s.reg_count_other (residue_ne_quar h.1).2)) _
  · exact State.count_watch s (PH_RESIDUE c)
  · exact State.count_bell s (PH_RESIDUE c)
  · unfold State.residueRun
    split
    · rfl
    · exact within_runOn.same .watch (by decide)

theorem completes_residueFail_quarantine {s : State} {c : Nat} {q : Queued} (h : CoreThere s c) (hrun : (s.core c).runningMma = some q)
    (hsev : s.severity (0xA0 + c) 0x07 < 4) (hphase : s.phase ≠ 6) : Completes (.residueFail c false) s (fun t =>
      t.quarantined c = true ∧ t.reg (PH_RESIDUE c) = s.reg (PH_RESIDUE c) + 1 ∧ Told s t (0xA0 + c) 0x07 q.product) := by
  obtain ⟨-, hreg, -, htold⟩ := State.residueRun_shows h q hsev
  refine ⟨(s.residueRun c q).quarantine c, ?_, State.quarantined_quarantine _ _, ?_, ?_⟩
  · rw [exec_residueFail, State.meetCheck_served hphase, State.failedCheck, (State.residueFails_eq hrun false).1 rfl]
  · rw [State.reg_quarantine_other _ (residue_ne_quar h.1).1, hreg]
  · rwa [Told, within_quarantine.same .watch (by decide)]

theorem completes_residueFail_first {s : State} {c : Nat} {q : Queued} (h : CoreThere s c) (hrun : (s.core c).runningMma = some q)
    (hsev : s.severity (0xA0 + c) 0x07 < 4) (hphase : s.phase ≠ 6) (hquar : s.quarantined c = false) (hpartner : s.quarantined (partnerOf c 1) = false)
    (hfirst : (s.core c).residueAt = none) : Completes (.residueFail c true) s (fun t =>
      t.quarantined c = false ∧ (t.core c).residueAt = some s.free ∧ t.reg (PH_RESIDUE c) = s.reg (PH_RESIDUE c) + 1) := by
  obtain ⟨hat, hreg, hsame, -⟩ := State.residueRun_shows h q hsev
  refine ⟨s.residueRun c q, ?_, hsame.trans hquar, hat, hreg⟩
  rw [exec_residueFail, State.meetCheck_served hphase, State.failedCheck, (State.residueFails_eq hrun true).2 rfl hpartner hfirst]

/-- Settles O31, by one lemma for each sentence. -/
theorem coreCareCompletes : Obligations.CoreCareCompletes := by
  unfold Obligations.CoreCareCompletes
  exact ⟨fun _ _ _ _ _ _ _ => completes_attendPlace, fun _ _ => completes_attendPlace_none, fun _ _ _ _ _ => completes_bindWrite,
    fun _ _ _ value => completes_bindWrite_refused value, fun _ _ _ _ _ => completes_inbox, fun _ _ => completes_inbox_unbound,
    fun _ _ _ _ => completes_coreEnableWrite_on, fun _ _ _ _ => completes_coreEnableWrite_held, fun _ _ _ _ => completes_coreEnableWrite_off,
    fun _ _ _ _ => completes_quarantineClear, fun _ _ _ => completes_dupMismatch_third, fun _ _ _ => completes_dupMismatch_noMajority,
    fun s c _ h hrun => completes_check_kept (exec_dupMismatch s c) h hrun,
    fun _ _ _ h hhold hsev => completes_dupThirdRun h (source_lt h.1).2 hsev (execDupThirdRunDone_held hhold).1,
    fun _ _ _ h hhold hsev => completes_dupThirdRun h (source_lt h.1).1 hsev (execDupThirdRunDone_held hhold).2.1,
    fun _ _ _ => completes_dupThirdRun_noMajority, fun _ _ _ => completes_residueFail_quarantine, fun _ _ _ => completes_residueFail_first,
    fun s c ok _ h hrun => completes_check_kept (exec_residueFail s c ok) h hrun,
    fun _ _ _ _ hcl hm _ hquar hrose => completes_quarantineClear_risen hcl hm hquar hrose⟩

end Sys2Proof.Machine
end

section
/-! PROOF. O33 fails at the clause of OUTBOX. What becomes of agents' frames while the packet buffer's lists are not threaded stands first: each
waits at its agent as it was sent. -/

-- Proofs are checked one at a time: side by side they would only wait for one another.
set_option Elab.async false

namespace Sys2Proof.Machine
open Sys2Proof

/-! ### Frames sent before the lists are threaded wait (R117) -/

/-- The frames in the switch, and those that wait at an agent. -/
def State.frames (s : State) : List Frame := s.sw.descs.map (·.frame) ++ s.sw.agentWait.map (·.2.1)

/-- The packet buffer's lists are not threaded, and every frame in the switch or at an agent satisfies `P`. -/
def Unthreaded (P : Frame → Prop) (s : State) : Prop := s.sw.threaded = false ∧ ∀ f ∈ s.frames, P f

section
variable {P : Frame → Prop} {s : State}

theorem Unthreaded.of_parts (h : Unthreaded P s) {t : State} (hthreaded : t.sw.threaded = s.sw.threaded) (hdescs : t.sw.descs = s.sw.descs)
    (hwait : t.sw.agentWait = s.sw.agentWait) : Unthreaded P t := by
  rw [Unthreaded, State.frames, hthreaded, hdescs, hwait]
  exact h

theorem Unthreaded.of_sw (h : Unthreaded P s) {t : State} (hsw : t.sw = s.sw) : Unthreaded P t := by
  rw [Unthreaded, State.frames, hsw]
  exact h

theorem Unthreaded.pickPort (h : Unthreaded P s) (f : Frame) (a : Nat) (dirs : List Bool) (dlOf : Bool → Nat) :
    Unthreaded P (s.pickPort f a dirs dlOf).2 := by
  have hchoice : ∀ n : Nat, Unthreaded P (if 2 ≤ n then s.choice 0 else s) := by
    intro n
    split
    · exact h.of_sw (within_choice.same .sw (by decide))
    · exact h
  rw [State.pickPort]
  split
  next => exact h
  next =>
    split
    next =>
      dsimp only
      split
      · exact (hchoice _).of_parts rfl rfl rfl
      · exact hchoice _
    next => exact h

theorem Unthreaded.startAxis (h : Unthreaded P s) (f : Frame) (dst a : Nat) : Unthreaded P (s.startAxis f dst a).2 := by
  have hpick := h.pickPort f a (s.openDirs s.coord dst a true) (fun d => if s.crosses s.coord a d then 1 else 0)
  rw [State.startAxis]
  dsimp only
  split
  next heq => rw [heq] at hpick; exact hpick
  next heq => rw [heq] at hpick; exact hpick

theorem Unthreaded.waystation (h : Unthreaded P s) (f : Frame) (dst b : Nat) : Unthreaded P (s.waystation f dst b).2 := by
  have hpick := h.pickPort f b (s.openDirs s.coord dst b true) (fun d => if s.crosses s.coord b d then 1 else 0)
  rw [State.waystation]
  dsimp only
  split
  next heq => rw [heq] at hpick; exact hpick
  next heq =>
    rw [heq] at hpick
    split
    · split <;> exact hpick
    · split <;> exact hpick

theorem Unthreaded.routeStart (h : Unthreaded P s) (f : Frame) (dst : Nat) (again : Bool) : Unthreaded P (s.routeStart f dst again).2 := by
  rw [State.routeStart]
  split
  · exact h
  · split
    · exact h
    · split
      · exact h
      · split
        · exact h.startAxis _ _ _
        · split
          · exact h
          · exact h.waystation _ _ _

theorem Unthreaded.agentFate (h : Unthreaded P s) (f : Frame) : Unthreaded P (s.agentFate f).2 := by
  rw [State.agentFate]
  split
  · split
    · exact h
    · exact h.routeStart _ _ _
  · split
    · exact h
    · exact h.routeStart _ _ _

theorem claimOk_unthreaded (h : s.sw.threaded = false) (o k : Nat) : s.claimOk o k = false := by
  rw [State.claimOk, h, Bool.and_false, Bool.false_and]

theorem Unthreaded.agentPlace (h : Unthreaded P s) (a : Nat) {f : Frame} (hf : P f) (places : List Dest) : Unthreaded P (s.agentPlace a f places) := by
  have hfate : Unthreaded P (if places.isEmpty then s.agentFate f else (.go places, s)).2 := by
    split
    · exact h.agentFate f
    · exact h
  rw [State.agentPlace]
  split
  next dests s' heq =>
    rw [heq] at hfate
    split
    · exact hfate
    · rw [if_neg (by rw [claimOk_unthreaded hfate.1]; exact Bool.false_ne_true)]
      refine ⟨hfate.1, fun g hg => ?_⟩
      change g ∈ _ ++ List.map _ (_ ++ [_]) at hg
      rw [List.map_append, ← List.append_assoc, List.mem_append] at hg
      rcases hg with hg | hg
      · exact hfate.2 g hg
      · rw [List.mem_singleton.mp hg]
        exact hf
  next heq => rw [heq] at hfate; exact hfate.of_sw rfl
  next heq => rw [heq] at hfate; exact hfate.of_sw rfl
  next heq => rw [heq] at hfate; exact hfate

theorem Unthreaded.handOver (h : Unthreaded P s) (c : Copy) : Unthreaded P (s.handOver c) := by
  rw [State.handOver]
  split
  · exact h
  · refine ⟨h.1, fun g hg => h.2 g ?_⟩
    rw [State.frames, List.mem_append, List.mem_map] at hg ⊢
    rcases hg with ⟨d, hd, rfl⟩ | hg
    · exact .inl ⟨d, List.mem_of_mem_filter hd, rfl⟩
    · exact .inr hg

theorem Unthreaded.handOverAll (h : Unthreaded P s) : Unthreaded P s.handOverAll := by
  rw [State.handOverAll]
  refine List.foldlRecOn _ _ h fun t ht c _ => ?_
  split
  · exact ht.handOver c
  · exact ht

theorem Unthreaded.retryAgents (h : Unthreaded P s) : Unthreaded P s.retryAgents := by
  have hwaiting : ∀ x ∈ s.sw.agentWait, P x.2.1 := fun x hx => h.2 _ (List.mem_append_right _ (List.mem_map_of_mem hx))
  rw [State.retryAgents]
  refine Unthreaded.handOverAll (List.foldlRecOn _ _ ⟨h.1, fun f hf => ?_⟩ fun t ht x hx => ht.agentPlace _ (hwaiting x hx) _)
  change f ∈ _ ++ [] at hf
  rw [List.append_nil] at hf
  exact h.2 f (List.mem_append_left _ hf)

theorem Unthreaded.sendStream (h : Unthreaded (·.dstPort = 0) s) (c : Nat) (q : Queued) : Unthreaded (·.dstPort = 0) (s.sendStream c q) := by
  rw [State.sendStream]
  split
  · exact h
  · split
    · exact h
    · exact List.foldlRecOn _ _ h fun t ht _ _ => ht.agentPlace _ rfl _

end

/-! ### O33: an outbox frame that waits at its agent for cells bears no port yet -/

/-- OUTBOX of four bytes, stream 0. -/
def outboxWord : Queued := ⟨0x51 * 2 ^ 56, 0, List.replicate 16 0, 0, 0⟩

/-- Rank 0 of party 0, whose streams all go out. -/
def outboxBinding : Binding := ⟨0, 0, 1, 0⟩

/-- Core 0 works for a bound slot, with an OUTBOX at the head of its send unit's queue. Rank 0 of party 0 is port 1 of this module, which is up; the
packet buffer's lists are not threaded yet (R117), so no frame finds cells. -/
def outboxWaits : State :=
  { State.reset with
    regs := [(SW_PARTY 0, 2 ^ 63 + 2 ^ 42), (SW_RANK 0, 2 ^ 63 + 1), (LN_PORT_W0 1, 2 ^ 52), (LN_PORT_W2 1, 2 ^ 61)]
    clusters := { clustersReset with
      cores := { coreReset with
        queues := [[], [], [], [], [outboxWord]]
        launch := some { (default : Launch) with bound := true, binding := some outboxBinding } } :: List.replicate 23 coreReset } }

theorem outboxWaits_issues : Issues outboxWaits 0 5 0x51 outboxWord :=
  ⟨by decide +kernel, by decide +kernel, by decide +kernel, by decide +kernel, by decide +kernel, by decide +kernel, by decide +kernel, by decide +kernel⟩

theorem outboxWaits_starts : 0 < (outboxWaits.readBytes 0 (outboxWaits.ext 0 outboxWord (opD outboxWord.word))).length ∧
    (outboxWaits.readBytes 0 (outboxWaits.ext 0 outboxWord (opD outboxWord.word))).length ≤ 4096 := by decide +kernel

theorem outboxWaits_route : outboxWaits.translate 0 0 = .ok (outboxWaits.coord, 1) := by decide +kernel

theorem outboxWaits_reaches : Reachable outboxWaits 1 := by decide +kernel

/-- No frame is addressed to a port once the OUTBOX has sent its own. -/
theorem outboxWaits_ends : Unthreaded (·.dstPort = 0) (after (.outbox 0) outboxWaits) := by
  have hstart : Unthreaded (·.dstPort = 0) (outboxWaits.issued 0 5 outboxWord) := ⟨rfl, fun _ hf => by cases hf⟩
  show Unthreaded _ (State.retryAgents _)
  rw [State.issue_of_issues outboxWaits_issues (by decide) rfl]
  refine Unthreaded.retryAgents ?_
  rw [State.faultOr]
  split
  next code heq => cases heq
  next =>
    split
    · exact hstart
    · exact hstart.sendStream _ _

/-- Refutes O33: a frame to a party's rank is given its destination port as it is placed in the packet buffer. The frame of an OUTBOX that finds no
cells waits at the agent as it was sent, so no frame names port 1. -/
theorem not_unitsComplete : ¬ Obligations.UnitsComplete := by
  unfold Obligations.UnitsComplete
  rintro ⟨-, -, -, -, -, -, -, -, houtbox, -⟩
  obtain ⟨hbytes, hfit⟩ := outboxWaits_starts
  obtain ⟨-, f, hf, hsent⟩ := (houtbox outboxWaits 0 1 outboxWord outboxBinding outboxWaits_issues ⟨rfl, fun _ hc => by cases hc⟩ rfl rfl rfl rfl
    hbytes hfit outboxWaits_route outboxWaits_reaches).after
  have hport := outboxWaits_ends.2 f hf
  simp only [Bool.and_eq_true, beq_iff_eq] at hport hsent
  obtain ⟨⟨⟨-, hdst⟩, -⟩, -⟩ := hsent
  omega

end Sys2Proof.Machine
end

section
/-! PROOF. O23 fails at the clause of a root tally's step. -/

-- Proofs are checked one at a time: side by side they would only wait for one another.
set_option Elab.async false

namespace Sys2Proof.Machine
open Sys2Proof

/-! ### O23: the frame of a result that also goes to a slot whose port is an agent's queue -/

/-- A slot that contributes and receives at port 1, and one that receives where the queue of agent 1 stands, at port 257. -/
def castSlot : TSlot := { (default : TSlot) with port := 1, contrib := true, receives := true }

/-- The second of a context's slots; see `castSlot`. -/
def strayedSlot : TSlot := { (default : TSlot) with port := 257, receives := true }

/-- The only chunk of a PASS context, with its contribution taken. -/
def castChunk : TChunk := { blankChunk 0 0 with recs := [(0, [])], taken := [(0, 0)] }

/-- A root context of one round of one chunk, whose result goes to both slots. -/
def castCtx : TCtx :=
  { (default : TCtx) with op := 9, root := true, rounds := 1, chunks := 1, window := 1, slots := [castSlot, strayedSlot], win := [castChunk] }

/-- A module with that context, port 1 up, and the packet buffer's lists threaded. -/
def castStrays : State :=
  { State.reset with
    regs := [(LN_PORT_W0 1, 2 ^ 52), (LN_PORT_W2 1, 2 ^ 61)]
    sw := { switchReset with threaded := true }
    tally := { tallyReset with ctxs := [castCtx] } }

theorem castStrays_reaches : Reachable castStrays 1 := by decide +kernel

theorem castStrays_ends : (after (.tallyStep 0 0) castStrays).sw.descs = [] ∧ (after (.tallyStep 0 0) castStrays).sw.agentWait = [] := by decide +kernel

/-- Refutes O23: the result is one frame in the packet buffer with a copy for each slot. The agent at the second slot's place takes the frame as it
is queued, and its descriptor with it, so the first slot's copy stands without a frame. -/
theorem not_tallyCompletes : ¬ Obligations.TallyCompletes := by
  unfold Obligations.TallyCompletes
  rintro ⟨-, -, -, -, -, -, -, -, -, hstep, -⟩
  obtain ⟨hdescs, hwait⟩ := castStrays_ends
  obtain ⟨-, hresult⟩ := (hstep castStrays 0 0 castCtx castChunk (0, castSlot) ⟨rfl, fun _ hc => by cases hc⟩ rfl rfl (by decide) rfl (by decide) rfl
    rfl (by decide) (by decide) rfl castStrays_reaches (by decide)).after
  rcases hresult with ⟨d, hd, -⟩ | ⟨w, hw, -⟩
  · rw [hdescs] at hd
    cases hd
  · rw [hwait] at hw
    cases hw

end Sys2Proof.Machine
end

section
/-! SUPPORT. Which bytes of the pool an operation may change, where every stack is up and no pair is poisoned (R335, R342, R343). -/

-- Proofs are checked one at a time: side by side they would only wait for one another.
set_option Elab.async false

namespace Sys2Proof.Machine
open Sys2Proof

/-! ### The poison list -/

theorem State.poison_settle (s : State) (p : Nat) : (s.settle p).mem.poison = s.mem.poison := by
  rw [State.settle]
  split
  next => exact s.flushEntry_poison _
  next => rfl

theorem State.poison_touchPair (s : State) (p : Nat) : (s.touchPair p).mem.poison = s.mem.poison := by
  rw [State.touchPair]
  split
  · exact (State.poison_settle _ p)
  · exact (State.poison_settle _ p)

theorem State.poison_touchPairs (s : State) (ps : List Nat) : (ps.foldl State.touchPair s).mem.poison = s.mem.poison := by
  induction ps generalizing s with
  | nil => rfl
  | cons p ps ih => exact (ih _).trans (s.poison_touchPair p)

/-- A read adds and removes no poison. -/
theorem State.poison_poolRead (s : State) (a n : Nat) : (s.poolRead a n).2.mem.poison = s.mem.poison := by
  rw [State.poolRead]
  split
  · exact s.poison_touchPairs _
  · exact s.poison_touchPairs _

theorem State.noPoison_putPair {s : State} (h : s.mem.poison = []) (p : Nat) (data : List Byte) : (s.putPair p data).mem.poison = [] := by
  rw [State.putPair]
  split
  · exact h
  · rw [State.modMem_mem, h]
    rfl

theorem State.noPoison_mergeWrite {s : State} (h : s.mem.poison = []) (p off : Nat) (data : List Byte) : (s.mergeWrite p off data).mem.poison = [] := by
  unfold State.mergeWrite
  split
  next => exact h
  next =>
  dsimp only
  split
  next =>
    split
    · exact State.noPoison_putPair h _ _
    · exact h
  next =>
    split
    next => exact h
    next =>
      split
      next => exact (s.flushEntry_poison _).trans h
      next => exact h

theorem State.noPoison_poolWriteFuel {s : State} (h : s.mem.poison = []) (n a : Nat) (bs : List Byte) :
    (State.poolWriteFuel n s a bs).mem.poison = [] := by
  induction n generalizing s a bs with
  | zero => exact h
  | succ n ih =>
    rw [State.poolWriteFuel]
    split
    next => exact h
    next =>
      refine ih ?_ _ _
      split
      · exact State.noPoison_putPair h _ _
      · exact State.noPoison_mergeWrite h _ _ _

/-- Where no pair is poisoned, none is after a write. -/
theorem State.noPoison_poolWrite {s : State} (h : s.mem.poison = []) (a : Nat) (bs : List Byte) : (s.poolWrite a bs).mem.poison = [] :=
  State.noPoison_poolWriteFuel (s := s.transferred (a / 2 ^ 37 % 8)) h _ _ _

/-! ### What an operation stores -/

/-- The pool is sound, every stack is up and no pair is poisoned. -/
structure Healthy (s : State) : Prop where
  sound : Sound s
  up : ∀ n < 8, s.stackLost n = false
  clean : s.mem.poison = []

theorem Healthy.good {s : State} (h : Healthy s) (p : Nat) : s.PairGood p :=
  ⟨h.up _ (pairStack_lt p), by rw [State.poisoned, h.clean]; rfl⟩

theorem PoolClean.healthy {s : State} (h : PoolClean s) : Healthy s := ⟨PoolClean.sound h, h.1, h.2.1⟩

/-- From a healthy pool to a healthy one; no byte outside `R` reads otherwise than before. -/
def Stores (R : Nat → Prop) (s t : State) : Prop := Healthy s → Healthy t ∧ ∀ b, ¬ R b → t.byte b = s.byte b

/-- The `n` bytes from address `a` on. -/
def Bytes (a n b : Nat) : Prop := a ≤ b ∧ b < a + n

section
variable {R : Nat → Prop} {s t u : State}

theorem Stores.refl (R : Nat → Prop) (s : State) : Stores R s s := fun h => ⟨h, fun _ _ => rfl⟩

theorem Stores.trans (h : Stores R s t) (h' : Stores R t u) : Stores R s u := fun hs =>
  ⟨(h' (h hs).1).1, fun b hb => ((h' (h hs).1).2 b hb).trans ((h hs).2 b hb)⟩

theorem Stores.mono {Q : Nat → Prop} (h : Stores Q s t) (hQ : ∀ b, Q b → R b) : Stores R s t := fun hs =>
  ⟨(h hs).1, fun b hb => (h hs).2 b fun hq => hb (hQ b hq)⟩

theorem SamePool.stores (h : Sound s → SamePool s t) (hpoison : t.mem.poison = s.mem.poison) : Stores R s t := fun hs =>
  ⟨⟨(h hs.sound).sound, fun n hn => ((h hs.sound).same.stackLost n).trans (hs.up n hn), hpoison.trans hs.clean⟩, fun b _ => (h hs.sound).byte b⟩

/-- What leaves the memory and the stacks' state alone stores nothing. -/
theorem Stores.of_mem (hmem : t.mem = s.mem) (hup : ∀ n < 8, t.stackLost n = s.stackLost n) : Stores R s t := fun hs => by
  have hgood : ∀ p, t.PairGood p := fun p => ⟨by rw [hup _ (pairStack_lt p)]; exact (hs.good p).1, by rw [State.poisoned, hmem]; exact (hs.good p).2⟩
  exact ⟨⟨⟨by rw [hmem]; exact hs.sound.nodup, fun e _ => hgood e.pair⟩, fun n hn => (hup n hn).trans (hs.up n hn), by rw [hmem]; exact hs.clean⟩,
    fun b _ => State.byte_congr hmem b⟩

theorem Stores.of_status (hmem : t.mem = s.mem) (hup : t.reg MEM_STATUS = s.reg MEM_STATUS) : Stores R s t :=
  SamePool.stores (fun h => .of_mem h hmem hup) (by rw [hmem])

/-- One step after another over a list. -/
theorem Stores.foldl {α : Type} {f : State → α → State} (l : List α) (h : ∀ x ∈ l, ∀ s, Stores R s (f s x)) (s : State) : Stores R s (l.foldl f s) := by
  induction l generalizing s with
  | nil => exact .refl R s
  | cons x l ih => exact (h x (by simp) s).trans (ih (fun y hy => h y (by simp [hy])) _)

theorem Stores.peek (h : Stores R s t) (hs : Healthy s) (hmem : u.mem = t.mem) {b : Nat} (hb : ¬ R b) : u.peek b 1 = s.peek b 1 := by
  rw [State.peek_one, State.peek_one, State.byte_congr hmem, (h hs).2 b hb]

theorem Stores.poolRead (s : State) (a n : Nat) : Stores R s (s.poolRead a n).2 := SamePool.stores (fun h => h.poolRead_same a n) (s.poison_poolRead a n)

theorem Stores.poolWrite (s : State) (a : Nat) (bs : List Byte) (hR : ∀ b, Bytes a bs.length b → R b) : Stores R s (s.poolWrite a bs) := fun hs => by
  have h := hs.sound.poolWrite (a := a) (bs := bs) fun p _ => hs.good p
  refine ⟨⟨h.sound, fun n hn => (h.same.stackLost n).trans (hs.up n hn), State.noPoison_poolWrite hs.clean _ _⟩, fun b hb => ?_⟩
  have hout : ¬ Bytes a bs.length b := fun hb' => hb (hR b hb')
  rw [Bytes] at hout
  rw [h.byte, overlay_of_outside (by omega)]

theorem Stores.countBy (s : State) (st i n : Nat) : Stores R s (s.countBy (MEM_STACK_CNT st i) n) := SamePool.stores (fun h => h.countBy st i n) rfl

theorem Stores.porterRead (s : State) (a n : Nat) : Stores R s (s.porterRead a n).2 := (Stores.countBy s _ _ _).trans (Stores.poolRead _ _ _)

theorem Stores.porterWrite (s : State) (a : Nat) (bs : List Byte) (hR : ∀ b, Bytes a bs.length b → R b) : Stores R s (s.porterWrite a bs) :=
  (Stores.countBy s _ _ _).trans (Stores.poolWrite _ _ _ hR)

/-- A change of registers alone, where the stacks' state is not among them. -/
theorem Stores.setFld (s : State) {f : Fld} (v : Nat) (h : f.off ≠ MEM_STATUS) : Stores R s (s.setFld f v) :=
  .of_status rfl (s.reg_setFld_other f v h.symm)

theorem Stores.count (s : State) {o : Nat} (h : o ≠ MEM_STATUS) : Stores R s (s.count o) := .of_status rfl (s.reg_count_other h.symm)

theorem Stores.takeAgent (s : State) (f : Frame) : Stores R s (s.takeAgent f) :=
  .of_status (within_takeAgent.same .mem (by decide)) (State.reg_takeAgent (o := MEM_STATUS) (.inr (by decide)) f)

end

/-- Every end of the command leaves the bytes alone that `P` names: so does the one it comes to. -/
theorem completes_of_all {c : Instr} {s : State} {P : State → Prop} (h : ∀ t, exec c s = .next t → P t) : Completes c s P := by
  obtain ⟨t, ht⟩ := everyCommandAnswers c s
  exact ⟨t, ht, h t ht⟩

end Sys2Proof.Machine
end

section
/-! PROOF. O50: a command that stores to the pool leaves the other bytes alone (R204, R217, R225, R226, R230, R335, R343, R413, R415, R430, R437, R475). -/

-- Proofs are checked one at a time: side by side they would only wait for one another.
set_option Elab.async false

namespace Sys2Proof.Machine
open Sys2Proof

/-! ### Pairs and merge entries -/

theorem length_padTo (n : Nat) (b : List Byte) : (padTo n b).length = n := by
  simp only [padTo, List.length_append, List.length_take, List.length_replicate]
  omega

/-- A write of a pair takes 64 bytes, whatever the length of the data. -/
theorem State.peek_putPair_apart (s : State) {p : Nat} (data : List Byte) {b : Nat} (hb : b / 64 ≠ p) : (s.putPair p data).peek b 1 = s.peek b 1 := by
  have hpad : s.putPair p data = s.putPair p (padTo 64 data) := by
    rw [State.putPair, State.putPair, padTo_of_length (length_padTo 64 data)]
  rw [hpad]
  exact s.peek_putPair_other (length_padTo 64 data) hb

theorem bytes_pairWrite (s : State) (pair : Nat) (data : List Byte) :
    Completes (.pairWrite pair data) s (fun t => ∀ b, b / 64 ≠ pair → t.peek b 1 = s.peek b 1) := by
  have hexec : exec (.pairWrite pair data) s = if 2 ^ 34 ≤ pair then .next s else .next ((s.transferred (pairStack pair)).putPair pair data) := rfl
  by_cases hbig : 2 ^ 34 ≤ pair
  · exact ⟨s, by rw [hexec, if_pos hbig], fun b _ => rfl⟩
  · exact ⟨(s.transferred (pairStack pair)).putPair pair data, by rw [hexec, if_neg hbig], fun b hb => State.peek_putPair_apart _ data hb⟩

theorem bytes_mergeHoldExpiry {s : State} {pair : Nat} {e : MergeEntry} (hone : s.mem.merge = [e]) (hpair : e.pair = pair)
    (hclean : s.poisoned pair = false) (hup : s.stackLost (pairStack pair) = false) :
    Completes (.mergeHoldExpiry pair []) s (fun t => ∀ b, t.peek b 1 = s.peek b 1) := by
  have hmem : e ∈ s.mem.merge := by simp [hone]
  have hsound : Sound s := ⟨by simp [hone], fun x hx => by
    obtain rfl : x = e := by simpa [hone] using hx
    rw [hpair]
    exact ⟨hup, hclean⟩⟩
  have hexec : exec (.mergeHoldExpiry pair []) s = if e.at_ + 128 * s.fld MEM_MERGE_CTRL_HOLD ≤ s.free then .next (s.flushEntry e) else .next s := by
    show execMergeHoldExpiry pair s [] = _
    rw [execMergeHoldExpiry, hone, List.find?_cons_of_pos (by simpa using hpair), ← s.flushWith_nil e]
  by_cases hdue : e.at_ + 128 * s.fld MEM_MERGE_CTRL_HOLD ≤ s.free
  · exact ⟨s.flushEntry e, by rw [hexec, if_pos hdue], fun b => (hsound.flushed hmem).peek b 1⟩
  · exact ⟨s, by rw [hexec, if_neg hdue], fun b => rfl⟩

/-! ### The host's window (R430) -/

theorem bytes_memwr (s : State) (w : Nat) (data : List Byte) (poison : Bool) : Completes (.memwr w data poison) s (fun t =>
    ∀ b, (∀ a, s.target (w / 64 * 64) = some a → b / 64 ≠ a / 64) → t.peek b 1 = s.peek b 1) := by
  by_cases hserved : s.linkUp = true ∧ s.windowHeld w = false
  · obtain ⟨hlink, hheld⟩ := hserved
    cases htarget : s.target (w / 64 * 64) with
    | none => exact ⟨s.unmapped, exec_memwr_unmapped data poison hlink hheld htarget, fun b _ => State.peek_congr_mem rfl b 1⟩
    | some a =>
      refine ⟨_, exec_memwr_mapped data poison hlink hheld htarget, fun b hb => ?_⟩
      have hpair : b / 64 ≠ a / 64 := hb a rfl
      cases poison with
      | false => exact State.peek_putPair_apart _ (padTo 64 data) hpair
      | true =>
        have hzero : ((s.transferred (pairStack (a / 64))).putPoison (a / 64)).peek b 1 =
            ((s.transferred (pairStack (a / 64))).putPair (a / 64) (zeroBytes 64)).peek b 1 := State.peek_eq_of_byte fun i _ => State.byte_putPoison _ _ _
        exact hzero.trans (State.peek_putPair_apart _ (zeroBytes 64) hpair)
  · refine ⟨s, ?_, fun b _ => rfl⟩
    show execMemwr w data poison s = _
    rw [execMemwr, if_pos (by grind)]

theorem bytes_memwrptl {s : State} (w : Nat) (data : List Byte) (hs : Healthy s) : Completes (.memwrptl w data) s (fun t =>
    ∀ b, (∀ a, s.target w = some a → b < a ∨ a + min data.length (64 - w % 64) ≤ b) → t.peek b 1 = s.peek b 1) := by
  by_cases hserved : s.linkUp = true ∧ s.windowHeld w = false ∧ data ≠ []
  · obtain ⟨hlink, hheld, hne⟩ := hserved
    cases htarget : s.target w with
    | none => exact ⟨s.unmapped, exec_memwrptl_unmapped hlink hheld hne htarget, fun b _ => State.peek_congr_mem rfl b 1⟩
    | some a =>
      refine ⟨_, exec_memwrptl_mapped hlink hheld hne htarget, fun b hb => ?_⟩
      have hout := hb a rfl
      refine (Stores.poolWrite s a (data.take (64 - w % 64)) fun _ h => h).peek hs rfl ?_
      rw [Bytes, List.length_take]
      omega
  · refine ⟨s, ?_, fun b _ => rfl⟩
    show execMemwrptl w data s = _
    rw [execMemwrptl, if_pos (by grind)]

theorem bytes_memrd {s : State} (w : Nat) (hs : Healthy s) : Completes (.memrd w) s (fun t => ∀ b, t.peek b 1 = s.peek b 1) := by
  by_cases hserved : s.linkUp = true ∧ s.windowHeld w = false
  · obtain ⟨hlink, hheld⟩ := hserved
    cases htarget : s.target (w / 64 * 64) with
    | none => exact ⟨_, exec_memrd_unmapped hlink hheld htarget, fun b => State.peek_congr_mem rfl b 1⟩
    | some a =>
      have hread : ∀ b, (s.poolRead a 64).2.peek b 1 = s.peek b 1 := fun b => (hs.sound.poolRead_same a 64).peek b 1
      generalize hr : s.poolRead a 64 = r at hread
      obtain ⟨o, s1⟩ := r
      cases o with
      | none => exact ⟨_, exec_memrd_poison hlink hheld htarget hr, fun b => (State.peek_congr_mem rfl b 1).trans (hread b)⟩
      | some bytes => exact ⟨_, exec_memrd_good hlink hheld htarget hr, fun b => (State.peek_congr_mem rfl b 1).trans (hread b)⟩
  · refine ⟨s, ?_, fun b => rfl⟩
    show execMemrd w s = _
    rw [execMemrd, if_pos (by grind)]

/-! ### Memory operations of the fabric (R475) -/

/-- Where an operation is on the pool, a change of the registers can only forbid it: it does not become one on another region. -/
theorem State.rackCheck_pool {s : State} {p : Nat} {f : Frame} (h : s.rackCheck p f = some 0) (t : State) :
    t.rackCheck p f = some 0 ∨ t.rackCheck p f = none := by
  unfold State.rackCheck at h ⊢
  dsimp only at h ⊢
  cases hr : rackRegion f.address with
  | none => simp [hr] at h
  | some r =>
    by_cases hr0 : r = 0
    · subst hr0
      simp only [reduceIte]
      split_ifs <;> simp
    · simp only [hr, if_neg hr0] at h
      split_ifs at h with h1 h2 h3 h4 h5 <;> simp_all

theorem bytes_rackWrite {s : State} {f : Frame} (hs : Healthy s) (hpool : s.rackCheck f.srcPort f = some 0) {ack : Nat → State → State}
    (hack : ∀ n x, (ack n x).mem = x.mem) {t : State} (ht : thenDo ((s.takeAgent f).rackWrite f ack) (fun s => .next s.retryAgents) = .next t)
    {b : Nat} (hb : b < f.address ∨ f.address + f.payload.length ≤ b) : t.peek b 1 = s.peek b 1 := by
  have htake : (s.takeAgent f).mem = s.mem := within_takeAgent.same .mem (by decide)
  have hretry : ∀ x : State, x.retryAgents.mem = x.mem := fun x => within_retryAgents.same .mem (by decide)
  rcases State.rackCheck_pool hpool (s.takeAgent f) with hcheck | hcheck
  · simp only [State.rackWrite, hcheck, thenDo, Host.Outcome.next.injEq] at ht
    rw [← ht]
    refine ((Stores.takeAgent s f).trans (Stores.poolWrite _ f.address f.payload fun _ h => h)).peek hs ?_ (by rw [Bytes]; omega)
    rw [hretry, hack]
  · simp only [State.rackWrite, hcheck, thenDo, Host.Outcome.next.injEq] at ht
    rw [← ht]
    refine State.peek_congr_mem ?_ b 1
    rw [hretry, within_rackRefuse.same .mem (by decide), htake]

theorem bytes_writePosted {s : State} {f : Frame} (hs : Healthy s) (hpool : s.rackCheck f.srcPort f = some 0) : Completes (.writePosted f) s (fun t =>
    ∀ b, b < f.address ∨ f.address + f.payload.length ≤ b → t.peek b 1 = s.peek b 1) :=
  completes_of_all fun _ ht _ hb => bytes_rackWrite hs hpool (fun _ _ => rfl) ht hb

theorem bytes_write {s : State} {f : Frame} (hs : Healthy s) (hpool : s.rackCheck f.srcPort f = some 0) : Completes (.write f) s (fun t =>
    ∀ b, b < f.address ∨ f.address + f.payload.length ≤ b → t.peek b 1 = s.peek b 1) :=
  completes_of_all fun _ ht _ hb => bytes_rackWrite hs hpool (fun _ _ => within_agentSend.same .mem (by decide)) ht hb

theorem bytes_read {s : State} {f : Frame} (hs : Healthy s) (hpool : s.rackCheck f.srcPort f = some 0) :
    Completes (.read f) s (fun t => ∀ b, t.peek b 1 = s.peek b 1) := by
  have htake : (s.takeAgent f).mem = s.mem := within_takeAgent.same .mem (by decide)
  have hretry : ∀ x : State, x.retryAgents.mem = x.mem := fun x => within_retryAgents.same .mem (by decide)
  have hsend : ∀ (x : State) (a : Nat) (g : Frame), (x.agentSend a g).mem = x.mem := fun x a g => within_agentSend.same .mem (by decide)
  refine completes_of_all fun t ht b => ?_
  have hexec : execRead f s = .next t := ht
  simp only [execRead, State.serveAny, Host.Outcome.next.injEq] at hexec
  rw [← hexec]
  rcases State.rackCheck_pool hpool (s.takeAgent f) with hcheck | hcheck
  · simp only [hcheck]
    have hstores : Stores (fun _ => False) s ((s.takeAgent f).poolRead f.address (opLength f)).2 := (Stores.takeAgent s f).trans (Stores.poolRead _ _ _)
    generalize (s.takeAgent f).poolRead f.address (opLength f) = r at hstores
    obtain ⟨o, s1⟩ := r
    cases o with
    | none => exact hstores.peek hs (by rw [hretry, hsend]) id
    | some bytes => exact hstores.peek hs (by rw [hretry, hsend]) id
  · simp only [hcheck]
    refine State.peek_congr_mem ?_ b 1
    rw [hretry, within_rackRefuse.same .mem (by decide), htake]

/-! ### Snapshots (R413, R415) -/

theorem bytes_snapPut {s : State} (f : Frame) (hs : Healthy s) : Completes (.snapPut f) s (fun t =>
    ∀ b, b < segmentAt (2 + s.guestBank) (frameSeg f) ∨ segmentAt (2 + s.guestBank) (frameSeg f) + 4096 ≤ b → t.peek b 1 = s.peek b 1) := by
  have hretry : ∀ x : State, x.retryAgents.mem = x.mem := fun x => within_retryAgents.same .mem (by decide)
  have hack : ∀ (x : State) (n : Nat) (l : List Byte), (x.snapAck f n l).mem = x.mem := fun x n l => within_snapAck.same .mem (by decide)
  have htake : (s.takeAgent f).mem = s.mem := within_takeAgent.same .mem (by decide)
  have hhealth : (s.takeAgent f).health = s.health := within_takeAgent.same .health (by decide)
  refine completes_of_all fun t ht b hb => ?_
  have hexec : execSnapPut f s = .next t := ht
  simp only [execSnapPut, State.serveAny, Host.Outcome.next.injEq] at hexec
  rw [← hexec]
  split
  next => exact State.peek_congr_mem (by rw [hretry, hack, htake]) b 1
  next =>
  split
  next => exact State.peek_congr_mem (by rw [hretry, hack, htake]) b 1
  next hlen =>
    have hlen' : f.payload.length = 4096 := by omega
    set s1 := (s.takeAgent f).modHealth _ with hs1
    have hbank : s1.guestBank = s.guestBank := by
      rw [State.guestBank, State.guestBank, ← hhealth]
      rfl
    have hstores : Stores (Bytes (segmentAt (2 + s1.guestBank) (frameSeg f)) 4096) s (s1.poolWrite (segmentAt (2 + s1.guestBank) (frameSeg f)) f.payload) :=
      ((Stores.takeAgent s f).trans (.of_status (t := s1) rfl rfl)).trans (Stores.poolWrite _ _ _ fun b h => by rwa [hlen'] at h)
    refine hstores.peek hs (by rw [hretry, hack]) ?_
    rw [hbank, Bytes]
    omega

theorem bytes_captureDone {s : State} (hs : Healthy s) : Completes .captureDone s (fun t =>
    ∀ b, b < segmentAt s.writeBank 0 ∨ segmentAt s.writeBank 0 + s.snapshot.length ≤ b → t.peek b 1 = s.peek b 1) := by
  have hretry : ∀ x : State, x.retryAgents.mem = x.mem := fun x => within_retryAgents.same .mem (by decide)
  have hends : ∀ (x : State) (n : Nat), (x.stopEnds n).mem = x.mem := fun x n => within_stopEnds.same .mem (by decide)
  have hsend : ∀ (x : State) (p q : Nat) (l : List Byte), (x.sendSnapshot p q l).mem = x.mem := fun x p q l => within_sendSnapshot.same .mem (by decide)
  refine completes_of_all fun t ht b hb => ?_
  have hexec : execCaptureDone s = .next t := ht
  rw [execCaptureDone] at hexec
  have hstores := Stores.poolWrite s (segmentAt s.writeBank 0) s.snapshot fun _ h => h
  have hout : ¬ Bytes (segmentAt s.writeBank 0) s.snapshot.length b := by rw [Bytes]; omega
  generalize s.snapshot = bytes at hexec hstores hout
  dsimp only at hexec
  split_ifs at hexec <;> rw [← Host.Outcome.next.inj hexec]
  · exact hstores.peek hs (by rw [hretry, hends, State.modHealth_mem]) hout
  · exact hstores.peek hs (by rw [hsend, State.setFld_mem, State.modHealth_mem]) hout
  · exact hstores.peek hs (by rw [hretry, hends, State.modHealth_mem]) hout

/-! ### Staging (R437) -/

theorem length_poolRead {s : State} {a n : Nat} {bytes : List Byte} (h : (s.poolRead a n).1 = some bytes) : bytes.length = n := by
  rw [State.poolRead] at h
  split_ifs at h
  rw [← Option.some.inj h]
  simp [sparseRead]

theorem Stores.windowRead {R : Nat → Prop} (k : Nat) (s : State) (w n : Nat) : Stores R s (State.windowRead k s w n).2 ∧
    ∀ bytes, (State.windowRead k s w n).1 = some bytes → bytes.length = n := by
  induction k generalizing s w n with
  | zero =>
    refine ⟨.refl R s, fun bytes h => ?_⟩
    rw [State.windowRead] at h
    split_ifs at h with h0
    rw [← Option.some.inj h, h0]
    rfl
  | succ k ih =>
    rw [State.windowRead]
    split
    next h0 => exact ⟨.refl R s, fun bytes h => by rw [← Option.some.inj h, h0]; rfl⟩
    next h0 =>
    dsimp only
    split
    next => exact ⟨.refl R s, fun bytes h => by cases h⟩
    next a _ =>
    have hread := Stores.poolRead (R := R) s a (min n (65536 - w % 65536))
    split
    next s1 hr => rw [hr] at hread; exact ⟨hread, fun bytes h => by cases h⟩
    next b s1 hr =>
    rw [hr] at hread
    obtain ⟨hrest, hlen⟩ := ih s1 (w + min n (65536 - w % 65536)) (n - min n (65536 - w % 65536))
    split
    next s2 hr2 => rw [hr2] at hrest; exact ⟨hread.trans hrest, fun bytes h => by cases h⟩
    next bs s2 hr2 =>
      rw [hr2] at hrest hlen
      refine ⟨hread.trans hrest, fun bytes h => ?_⟩
      have hb : b.length = min n (65536 - w % 65536) := length_poolRead (by rw [hr])
      rw [← Option.some.inj h, List.length_append, hb, hlen bs rfl]
      omega


theorem State.mem_replyDone (s : State) (opcode code : Nat) (p : List Byte) : (s.replyDone opcode code p).mem = s.mem :=
  within_replyDone.same .mem (by decide)

theorem Stores.stage {R : Nat → Prop} (s : State) (g : Background)
    (hR : ∀ b, Bytes (if g.opcode = 0xC010 then itinStaging else componentStaging) (leAt g.arg 8 4) b → R b) : Stores R s (s.stage g) := by
  have hreply : ∀ (x : State) (code : Nat) (p : List Byte), Stores R x (x.replyDone g.opcode code p) := fun x code p =>
    .of_status (x.mem_replyDone _ _ _) (within_replyDone.reg (by decide) _)
  have hnote : ∀ (x : State) (h : HostUnit → HostUnit), Stores R x (x.modHost h) := fun x h => .of_status rfl rfl
  obtain ⟨hread, hlen⟩ := Stores.windowRead (R := R) (leAt g.arg 8 4 / 65536 + 2) s (leAt g.arg 0 8) (leAt g.arg 8 4)
  rw [State.stage]
  dsimp only
  split
  next s1 hr =>
    rw [hr] at hread
    exact hread.trans ((hnote _ _).trans (hreply _ _ _))
  next bytes s1 hr =>
    rw [hr] at hread hlen
    refine hread.trans ((Stores.poolWrite _ _ bytes fun b hb => hR b ?_).trans ((hnote _ _).trans (hreply _ _ _)))
    rw [hlen bytes rfl] at hb
    simpa only [beq_iff_eq] using hb

theorem bytes_backgroundCommandDone {s : State} {g : Background} (hg : s.host.background = some g) (hs : Healthy s) :
    Completes .backgroundCommandDone s (fun t =>
      ∀ b, (g.opcode = 0xC010 → b < itinStaging ∨ itinStaging + leAt g.arg 8 4 ≤ b) →
        (g.opcode = 0xC011 → b < componentStaging ∨ componentStaging + leAt g.arg 8 4 ≤ b) → t.peek b 1 = s.peek b 1) := by
  refine completes_of_all fun t ht b hitin hcomp => ?_
  have hexec : execBackgroundCommandDone s = .next t := ht
  simp only [execBackgroundCommandDone, hg] at hexec
  split at hexec
  next => rw [← Host.Outcome.next.inj hexec]
  next =>
  have hlast : ∀ x : State, (if g.report then x else (x.modHost (fun h => { h with bgDone := s.host.bgDone })).modOut (fun _ => s.out)).mem = x.mem := by
    intro x
    split <;> rfl
  rw [← Host.Outcome.next.inj hexec]
  have hstores : Stores (fun b => g.opcode = 0xC010 ∧ Bytes itinStaging (leAt g.arg 8 4) b ∨ g.opcode = 0xC011 ∧ Bytes componentStaging (leAt g.arg 8 4) b) s
      (if g.opcode = 0xC010 ∨ g.opcode = 0xC011 then (s.modHost (fun h => { h with background := none })).stage g
        else (s.modHost (fun h => { h with background := none })).replyDone g.opcode g.code g.payload) := by
    split
    next hop =>
      refine Stores.trans (t := s.modHost (fun h => { h with background := none })) (.of_status rfl rfl) (Stores.stage _ g fun b hb => ?_)
      by_cases hitin : g.opcode = 0xC010
      · exact .inl ⟨hitin, by rwa [if_pos hitin] at hb⟩
      · exact .inr ⟨hop.resolve_left hitin, by rwa [if_neg hitin] at hb⟩
    next => exact .of_status (State.mem_replyDone _ _ _ _) (within_replyDone.reg (by decide) _)
  refine hstores.peek hs (hlast _) ?_
  simp only [Bytes]
  omega

end Sys2Proof.Machine
end

section
/-! SUPPORT. What the stays service reads of the pool (R206, R214, R333 to R335): a card, a chart, a ledger read the same where the same bytes stand,
and reading them changes no byte and no stay. -/

-- Proofs are checked one at a time: side by side they would only wait for one another.
set_option Elab.async false

namespace Sys2Proof.Machine
open Sys2Proof

/-- Every byte of the pool reads in `t` as in `s`, and every stay's chart stands where it stood. -/
structure ReadsAs (s t : State) : Prop where
  sound : Sound s
  pool : SamePool s t
  poison : t.mem.poison = s.mem.poison
  root : ∀ i, (t.stay i).root = (s.stay i).root
  depth : ∀ i, (t.stay i).depth = (s.stay i).depth

section
variable {s t u : State}

theorem ReadsAs.refl (h : Sound s) : ReadsAs s s := ⟨h, .refl h, rfl, fun _ => rfl, fun _ => rfl⟩

theorem ReadsAs.trans (h : ReadsAs s t) (h' : ReadsAs t u) : ReadsAs s u := ⟨h.sound, h.pool.trans h'.pool, h'.poison.trans h.poison,
  fun i => (h'.root i).trans (h.root i), fun i => (h'.depth i).trans (h.depth i)⟩

theorem ReadsAs.of_pool (h : Sound s) (hpool : SamePool s t) (hpoison : t.mem.poison = s.mem.poison) (hstays : t.stays = s.stays) : ReadsAs s t :=
  ⟨h, hpool, hpoison, fun i => by rw [State.stay, hstays, State.stay], fun i => by rw [State.stay, hstays, State.stay]⟩

theorem ReadsAs.of_mem (h : Sound s) (hmem : t.mem = s.mem) (hup : t.reg MEM_STATUS = s.reg MEM_STATUS) (hstays : t.stays = s.stays) : ReadsAs s t :=
  .of_pool h (.of_mem h hmem hup) (by rw [hmem]) hstays

theorem ReadsAs.peek (h : ReadsAs s t) (a n : Nat) : t.peek a n = s.peek a n := h.pool.peek a n

theorem ReadsAs.card (h : ReadsAs s t) (i : Nat) : t.card i = s.card i := by rw [State.card, h.peek, State.card]

theorem ReadsAs.poisoned (h : ReadsAs s t) (p : Nat) : t.poisoned p = s.poisoned p := h.pool.same.poisoned p

theorem ReadsAs.stackLost (h : ReadsAs s t) (n : Nat) : t.stackLost n = s.stackLost n := h.pool.same.stackLost n

theorem ReadsAs.ledgerOf (h : ReadsAs s t) (r : Nat) : t.ledgerOf r = s.ledgerOf r := by
  simp only [State.ledgerOf, h.peek, h.poisoned, h.stackLost]

theorem ReadsAs.roomBad (h : ReadsAs s t) (r : Nat) : t.roomBad r = s.roomBad r := by rw [State.roomBad, h.ledgerOf, State.roomBad]

end

/-- `f` answers the same from every state that reads the same, and leaves one. -/
def Reads {α : Type} (f : State → α × State) : Prop := ∀ s t, ReadsAs s t → (f t).1 = (f s).1 ∧ ReadsAs s (f t).2

section
variable {α β : Type} {f : State → α × State}

theorem Reads.answer (hf : Reads f) {s t : State} (h : ReadsAs s t) : (f t).1 = (f s).1 := (hf s t h).1

theorem Reads.after (hf : Reads f) {s t : State} (h : ReadsAs s t) : ReadsAs s (f t).2 := (hf s t h).2

theorem Reads.pure (a : α) : Reads (fun s => (a, s)) := fun _ _ h => ⟨rfl, h⟩

/-- An answer that the bytes and the stays alone determine. -/
theorem Reads.of_readsAs {g : State → α} (hg : ∀ s t, ReadsAs s t → g t = g s) : Reads (fun s => (g s, s)) := fun s t h => ⟨hg s t h, h⟩

/-- Both reads leave states that read the same. -/
theorem Reads.both (hf : Reads f) {s t : State} (h : ReadsAs s t) : ReadsAs (f s).2 (f t).2 := by
  have h0 := hf.after (.refl h.sound)
  have h1 := hf.after h
  exact ⟨h0.pool.sound, ⟨h1.pool.sound, fun b => (h1.pool.byte b).trans (h0.pool.byte b).symm,
    ⟨fun p => (h1.poisoned p).trans (h0.poisoned p).symm, h1.pool.same.status.trans h0.pool.same.status.symm⟩⟩,
    h1.poison.trans h0.poison.symm, fun i => (h1.root i).trans (h0.root i).symm, fun i => (h1.depth i).trans (h0.depth i).symm⟩

theorem Reads.bind (hf : Reads f) (g : α → State → β × State) (hg : ∀ a, Reads (g a)) : Reads (fun s => g (f s).1 (f s).2) := fun s t h => by
  dsimp only
  rw [hf.answer h]
  exact ⟨(hg _).answer (hf.both h), (hf.after (.refl h.sound)).trans ((hg _).after (hf.both h))⟩

/-- A choice that the stays alone decide. -/
theorem Reads.ite {p : State → Prop} [∀ s, Decidable (p s)] {g : State → α × State} (hp : ∀ s t, ReadsAs s t → (p t ↔ p s)) (hf : Reads f) (hg : Reads g) :
    Reads (fun s => if p s then f s else g s) := fun s t h => by
  by_cases hc : p s
  · simp only [if_pos hc, if_pos ((hp s t h).2 hc)]
    exact hf s t h
  · simp only [if_neg hc, if_neg (mt (hp s t h).1 hc)]
    exact hg s t h

end

/-! ### Reads of the pool -/

theorem SamePool.poolRead_eq {s t : State} (hs : Sound s) (h : SamePool s t) (a n : Nat) : (t.poolRead a n).1 = (s.poolRead a n).1 := by
  by_cases hgood : ∀ p ∈ pairsOf a n, s.PairGood p
  · rw [hs.poolRead hgood, h.sound.poolRead fun p hp => (h.same.pairGood p).2 (hgood p hp), h.peek]
  · push Not at hgood
    obtain ⟨p, hp, hbad⟩ := hgood
    rw [hs.poolRead_bad hp hbad, h.sound.poolRead_bad hp (mt (h.same.pairGood p).1 hbad)]

theorem reads_poolRead (a n : Nat) : Reads (fun s => s.poolRead a n) := fun _ t h =>
  ⟨h.pool.poolRead_eq h.sound a n, h.trans (.of_pool h.pool.sound (h.pool.sound.poolRead_same a n) (t.poison_poolRead a n)
    (within_poolRead.same .stays (by decide)))⟩

theorem reads_porterRead (a n : Nat) : Reads (fun s => s.porterRead a n) := fun s t h => by
  have hcount : ∀ x : State, Sound x → ReadsAs x (x.countBy (MEM_STACK_CNT (a / 2 ^ 37 % 8) 5) ((a + n - 1) / 32 - a / 32 + 1)) := fun x hx =>
    .of_pool hx (hx.countBy _ _ _) rfl rfl
  have hs := hcount s h.sound
  have ht := h.trans (hcount t h.pool.sound)
  exact ⟨((reads_poolRead a n).answer ht).trans ((reads_poolRead a n).answer hs).symm, (reads_poolRead a n).after ht⟩

/-- A read of good pairs answers the bytes. -/
theorem porterRead_good {s : State} (hs : Sound s) {a n : Nat} (hgood : ∀ p ∈ pairsOf a n, s.PairGood p) : (s.porterRead a n).1 = some (s.peek a n) := by
  have hcount := hs.countBy (a / 2 ^ 37 % 8) 5 ((a + n - 1) / 32 - a / 32 + 1)
  rw [State.porterRead]
  exact (hcount.sound.poolRead fun p hp => (hcount.same.pairGood p).2 (hgood p hp)).trans (congrArg some (hcount.peek a n))

theorem State.readCard_eq (s : State) (i : Nat) : s.readCard i = ((s.porterRead (cardAt i) 32).1.map cardOf, (s.porterRead (cardAt i) 32).2) := rfl

theorem reads_readCard (i : Nat) : Reads (fun s => s.readCard i) := fun s t h => by
  simp only [State.readCard_eq]
  exact ⟨by rw [(reads_porterRead (cardAt i) 32).answer h], (reads_porterRead (cardAt i) 32).after h⟩

theorem cardAt_pairs (i : Nat) : pairsOf (cardAt i) 32 = [cardAt i / 64] := by
  have hcount : (cardAt i + 32 - 1) / 64 - cardAt i / 64 + 1 = 1 := by
    unfold cardAt
    omega
  rw [pairsOf, if_neg (by decide), hcount]
  rfl

theorem readCard_good {s : State} (hs : Sound s) {i : Nat} (hgood : s.PairGood (cardAt i / 64)) : (s.readCard i).1 = some (s.card i) := by
  rw [State.readCard_eq, porterRead_good hs (by simpa [cardAt_pairs] using hgood)]
  rfl

/-! ### Charts -/

theorem State.nodeEntry_eq (s : State) (node i : Nat) : s.nodeEntry node i =
    ((s.porterRead (node * 256 + 4 * i) 4).1.map (fun b => leNat b % 2 ^ 24), (s.porterRead (node * 256 + 4 * i) 4).2) := by
  rw [State.nodeEntry]
  split
  next h => rw [h]; rfl
  next h => rw [h]; rfl

theorem reads_nodeEntry (node i : Nat) : Reads (fun s => s.nodeEntry node i) := fun s t h => by
  simp only [State.nodeEntry_eq]
  exact ⟨by rw [(reads_porterRead _ 4).answer h], (reads_porterRead _ 4).after h⟩

theorem reads_chartWalk (k node page : Nat) : Reads (fun s => State.chartWalk k s node page) := by
  induction k generalizing node with
  | zero => exact .pure _
  | succ k ih =>
    have hbind := (reads_nodeEntry node (page / 64 ^ k % 64)).bind
      (fun (o : Option Nat) s => o.elim (none, s) (fun e => if k = 0 ∨ e = 0 then (some e, s) else State.chartWalk k s e page)) fun o => by
        cases o with
        | none => exact .pure _
        | some e => exact .ite (fun _ _ _ => Iff.rfl) (.pure _) (ih e)
    refine cast (congrArg Reads (funext fun s => ?_)) hbind
    rw [State.chartWalk]
    split
    next h => rw [h]; rfl
    next h => rw [h]; rfl

theorem reads_pageRoom (i page : Nat) : Reads (fun s => s.pageRoom i page) := fun s t h => by
  simp only [State.pageRoom, h.root, h.depth]
  split
  · exact ⟨rfl, h⟩
  · exact reads_chartWalk _ _ _ s t h

/-- A chart's entry among many, as one answer and a state. -/
def State.sectorRead (s : State) (seen : List Nat) (node i : Nat) : (Option Nat × List Nat) × State :=
  (((s.sectorEntry seen node i).1, (s.sectorEntry seen node i).2.1), (s.sectorEntry seen node i).2.2)

theorem reads_sectorRead (seen : List Nat) (node i : Nat) : Reads (fun s => s.sectorRead seen node i) := by
  intro s t h
  dsimp only [State.sectorRead, State.sectorEntry]
  split
  next => exact ⟨by rw [h.peek], h⟩
  next =>
    obtain ⟨hans, hafter⟩ := reads_porterRead ((node * 256 + 4 * i) / 32 * 32) 32 s t h
    dsimp only at hans hafter
    generalize t.porterRead ((node * 256 + 4 * i) / 32 * 32) 32 = x at hans hafter
    generalize s.porterRead ((node * 256 + 4 * i) / 32 * 32) 32 = y at hans
    obtain ⟨_ | b, x⟩ := x <;> obtain ⟨_ | c, y⟩ := y <;> simp_all

/-- As `State.sectorRead`, of a whole chart. -/
def State.chartSeen (s : State) (k : Nat) (seen : List Nat) (node page : Nat) : (Option Nat × List Nat) × State :=
  (((State.chartRead k s seen node page).1, (State.chartRead k s seen node page).2.1), (State.chartRead k s seen node page).2.2)

theorem reads_chartSeen (k : Nat) (seen : List Nat) (node page : Nat) : Reads (fun s => s.chartSeen k seen node page) := by
  induction k generalizing node seen with
  | zero => exact fun _ _ h => ⟨rfl, h⟩
  | succ k ih =>
    have hbind := (reads_sectorRead seen node (page / 64 ^ k % 64)).bind
      (fun (o : Option Nat × List Nat) s => o.1.elim (o, s) (fun e => if k = 0 ∨ e = 0 then (o, s) else s.chartSeen k o.2 e page)) fun o => by
        obtain ⟨_ | e, seen1⟩ := o
        · exact .pure _
        · exact .ite (fun _ _ _ => Iff.rfl) (.pure _) (ih seen1 e)
    refine cast (congrArg Reads (funext fun s => ?_)) hbind
    simp only [State.chartSeen, State.sectorRead, State.chartRead]
    rcases s.sectorEntry seen node (page / 64 ^ k % 64) with ⟨_ | e, seen1, s1⟩
    · rfl
    · simp only [Option.elim_some]
      split <;> rfl

theorem reads_roomsFrom (ps : List Nat) (seen : List Nat) (i : Nat) : Reads (fun s => State.roomsFrom ps s seen i) := by
  induction ps generalizing seen with
  | nil => exact .pure _
  | cons p ps ih =>
    have hfirst : Reads (fun s => if (s.stay i).root = 0 ∨ 64 ^ ((s.stay i).depth + 1) ≤ p then ((some 0, seen), s)
        else s.chartSeen ((s.stay i).depth + 1) seen (s.stay i).root p) := fun s t h => by
      simp only [h.root, h.depth]
      split
      · exact ⟨rfl, h⟩
      · exact reads_chartSeen _ _ _ _ s t h
    have hbind := hfirst.bind
      (fun (o : Option Nat × List Nat) s => o.1.elim (none, s) (fun r =>
        ((State.roomsFrom ps s o.2 i).1.map (r :: ·), (State.roomsFrom ps s o.2 i).2))) fun o => by
        obtain ⟨_ | r, seen1⟩ := o
        · exact .pure _
        · exact fun s t h => ⟨congrArg (Option.map (r :: ·)) ((ih seen1).answer h), (ih seen1).after h⟩
    refine cast (congrArg Reads (funext fun s => ?_)) hbind
    rw [State.roomsFrom]
    have hsplit : (if (s.stay i).root = 0 ∨ 64 ^ ((s.stay i).depth + 1) ≤ p then ((some 0, seen), s)
        else s.chartSeen ((s.stay i).depth + 1) seen (s.stay i).root p) = (fun x => ((x.1, x.2.1), x.2.2))
          (if (s.stay i).root = 0 ∨ 64 ^ ((s.stay i).depth + 1) ≤ p then (some 0, seen, s)
            else State.chartRead ((s.stay i).depth + 1) s seen (s.stay i).root p) := by
      split <;> rfl
    rw [hsplit]
    generalize (if (s.stay i).root = 0 ∨ 64 ^ ((s.stay i).depth + 1) ≤ p then (some 0, seen, s)
      else State.chartRead ((s.stay i).depth + 1) s seen (s.stay i).root p) = x
    obtain ⟨_ | r, seen1, s1⟩ := x
    · rfl
    · dsimp only [Option.elim_some]
      rcases State.roomsFrom ps s1 seen1 i with ⟨_ | rs, s2⟩ <;> rfl

theorem reads_roomsOf (ps : List Nat) (i : Nat) : Reads (fun s => State.roomsOf ps s i) := reads_roomsFrom ps [] i

/-! ### Whole charts and ledgers -/

/-- One read after another over a list, an answer carried along. -/
theorem Reads.foldl {α γ : Type} {g : α → γ → State → α × State} (hg : ∀ a x, Reads (g a x)) (l : List γ) (a : α) :
    Reads (fun s => l.foldl (fun acc x => g acc.1 x acc.2) (a, s)) := by
  induction l generalizing a with
  | nil => exact .pure a
  | cons x l ih => exact (hg a x).bind (fun b s => l.foldl (fun acc x => g acc.1 x acc.2) (b, s)) ih

/-- The entries of a chart node, as one answer and a state. -/
def State.nodeRead (s : State) (node : Nat) : (List Nat × Bool) × State := (((s.nodeEntries node).1, (s.nodeEntries node).2.1), (s.nodeEntries node).2.2)

theorem reads_nodeRead (node : Nat) : Reads (fun s => s.nodeRead node) := by
  have hquarter : ∀ (a : List Nat × Bool) (q : Nat), Reads (fun s => ((s.porterRead (node * 256 + 64 * q) 64).1.elim (a.1, false)
      (fun b => (a.1 ++ ((List.range 16).map (fun i => leAt b (4 * i) 4 % 2 ^ 24)).filter (· != 0), a.2)), (s.porterRead (node * 256 + 64 * q) 64).2)) :=
    fun a q s t h => ⟨by dsimp only; rw [(reads_porterRead _ 64).answer h], (reads_porterRead _ 64).after h⟩
  refine cast (congrArg Reads (funext fun s => ?_)) (Reads.foldl hquarter (List.range 4) ([], true))
  rw [State.nodeRead, State.nodeEntries]
  refine List.foldl_hom (init := ([], true, s)) (fun x : List Nat × Bool × State => ((x.1, x.2.1), x.2.2)) fun x q => ?_
  dsimp only
  rcases x.2.2.porterRead (node * 256 + 64 * q) 64 with ⟨_ | b, s1⟩ <;> rfl

theorem reads_chartNodes (k node : Nat) : Reads (fun s => State.chartNodes k s node) := by
  induction k generalizing node with
  | zero => exact .pure _
  | succ k ih =>
    have hchild : ∀ (a : ChartFound) (c : Nat), Reads (fun s => ((⟨a.nodes ++ (State.chartNodes k s c).1.nodes, a.rooms ++ (State.chartNodes k s c).1.rooms,
        a.clean && (State.chartNodes k s c).1.clean⟩ : ChartFound), (State.chartNodes k s c).2)) := fun a c s t h =>
      ⟨by dsimp only; rw [(ih c).answer h], (ih c).after h⟩
    have hbind := (reads_nodeRead node).bind
      (fun (o : List Nat × Bool) s => if k = 0 then ((⟨[node], o.1, o.2⟩ : ChartFound), s) else o.1.foldl (fun (acc : ChartFound × State) c =>
        (⟨acc.1.nodes ++ (State.chartNodes k acc.2 c).1.nodes, acc.1.rooms ++ (State.chartNodes k acc.2 c).1.rooms,
          acc.1.clean && (State.chartNodes k acc.2 c).1.clean⟩, (State.chartNodes k acc.2 c).2)) (⟨[node], [], o.2⟩, s)) fun o =>
        .ite (fun _ _ _ => Iff.rfl) (.pure _) (Reads.foldl hchild o.1 _)
    exact hbind

theorem reads_readChart (i : Nat) : Reads (fun s => s.readChart i) := fun s t h => by
  simp only [State.readChart, h.root, h.depth]
  split
  · exact ⟨rfl, h⟩
  · exact reads_chartNodes _ _ s t h

theorem ReadsAs.readLedgers {s t : State} (h : ReadsAs s t) (rs : List Nat) : ReadsAs s (t.readLedgers rs) := by
  rw [State.readLedgers]
  generalize (((rs.filter (· != 0)).map (fun r => ledgerAt r / 32)).eraseDups) = l
  induction l generalizing t with
  | nil => exact h
  | cons a l ih => exact ih ((reads_porterRead (32 * a) 32).after h)

end Sys2Proof.Machine
end

section
/-! SUPPORT. Entries of the stays table, and the turn that a request gets (R211 to R213). -/

-- Proofs are checked one at a time: side by side they would only wait for one another.
set_option Elab.async false

namespace Sys2Proof.Machine
open Sys2Proof

/-! ### Entries of the table -/

theorem State.stays_setStay (s : State) (i : Nat) (e : Stay) :
    (s.setStay i e).stays = { s.stays with table := sparseSet freeStay s.stays.table i e } := rfl

theorem State.stay_setStay_same (s : State) (i : Nat) (e : Stay) : (s.setStay i e).stay i = e := sparseGet_set_same

theorem State.stay_setStay_other (s : State) {i j : Nat} (e : Stay) (h : j ≠ i) : (s.setStay i e).stay j = s.stay j := sparseGet_set_other h

theorem State.stay_modStay_same (s : State) (i : Nat) (g : Stay → Stay) : (s.modStay i g).stay i = g (s.stay i) := s.stay_setStay_same i _

theorem State.stay_modStay_other (s : State) {i j : Nat} (g : Stay → Stay) (h : j ≠ i) : (s.modStay i g).stay j = s.stay j := s.stay_setStay_other _ h

theorem State.mem_setStay (s : State) (i : Nat) (e : Stay) : (s.setStay i e).mem = s.mem := rfl

theorem State.reg_setStay (s : State) (i : Nat) (e : Stay) {o : Nat} (h : o ≠ ST_STATUS ∧ o ≠ ST_USE) : (s.setStay i e).reg o = s.reg o := by
  rw [State.setStay]
  rw [State.reg_setFld_other _ _ _ h.2, State.reg_setFld_other _ _ _ h.1, State.modStays_reg]

theorem State.reg_modStay (s : State) (i : Nat) (g : Stay → Stay) {o : Nat} (h : o ≠ ST_STATUS ∧ o ≠ ST_USE) : (s.modStay i g).reg o = s.reg o :=
  s.reg_setStay i _ h

theorem State.stay_modStays (s : State) (g : StayUnit → StayUnit) (h : ∀ u, (g u).table = u.table) (i : Nat) : (s.modStays g).stay i = s.stay i := by
  show sparseGet freeStay (g s.stays).table i = _
  rw [h]
  rfl

/-! ### What a request leaves -/

/-- The state that a request comes to, however it ends. -/
def Served.state : Served → State
  | .done s => s
  | .refused s _ => s
  | .waits s _ => s

theorem mem_retryAgents (s : State) : s.retryAgents.mem = s.mem := within_retryAgents.same .mem (by decide)

theorem mem_answer (s : State) (a : Asker) (kind : Nat) (d : List Byte) : (s.answer a kind d).mem = s.mem := within_answer.same .mem (by decide)

theorem mem_refuse (s : State) (a : Asker) (kind status : Nat) : (s.refuse a kind status).mem = s.mem := within_refuse.same .mem (by decide)

theorem mem_takeAgent (s : State) (f : Frame) : (s.takeAgent f).mem = s.mem := within_takeAgent.same .mem (by decide)

theorem mem_mendOr (s : State) (i page : Nat) : (s.mendOr i page).state.mem = s.mem := by
  have h := within_mendOr (s := s) (i := i) (page := page)
  cases hv : s.mendOr i page <;> rw [hv] at h <;> exact Within.same h .mem (by decide)

/-- Where an innkeeper's frame leaves the memory: as it was, or as its action leaves it. -/
theorem mem_innServe {s t : State} {f : Frame} {act : State → State} (h : s.innServe f act = .next t) :
    t.mem = s.mem ∨ t.mem = (act (s.takeAgent f)).mem := by
  rw [State.innServe] at h
  split at h
  next => rw [← Host.Outcome.next.inj h]; exact .inl rfl
  next =>
    rw [State.serve] at h
    rw [← Host.Outcome.next.inj h, mem_retryAgents]
    split
    next => exact .inr rfl
    next => exact .inl ((within_fault.same .mem (by decide)).trans (mem_takeAgent s f))

theorem ReadsAs.takeAgent {s : State} (h : Sound s) (f : Frame) : ReadsAs s (s.takeAgent f) :=
  .of_mem h (mem_takeAgent s f) (State.reg_takeAgent (o := MEM_STATUS) (.inr (by decide)) f) (within_takeAgent.same .stays (by decide))

theorem ReadsAs.modStay {s t : State} (h : ReadsAs s t) (i : Nat) {g : Stay → Stay} (hg : ∀ e, (g e).root = e.root ∧ (g e).depth = e.depth) :
    ReadsAs s (t.modStay i g) := by
  refine h.trans ⟨h.pool.sound, .of_mem h.pool.sound rfl (t.reg_modStay i g (by decide)), rfl, fun j => ?_, fun j => ?_⟩
  · by_cases hj : j = i
    · rw [hj, State.stay_modStay_same, (hg _).1]
    · rw [State.stay_modStay_other _ _ hj]
  · by_cases hj : j = i
    · rw [hj, State.stay_modStay_same, (hg _).2]
    · rw [State.stay_modStay_other _ _ hj]

theorem ReadsAs.stamp {s t : State} (h : ReadsAs s t) (i : Nat) : ReadsAs s (t.stamp i) := by
  rw [State.stamp]
  exact h.modStay i fun _ => ⟨rfl, rfl⟩

theorem ReadsAs.stores {R : Nat → Prop} {s t : State} (h : ReadsAs s t) : Stores R s t := SamePool.stores (fun _ => h.pool) h.poison

theorem ReadsAs.healthy {s t : State} (h : ReadsAs s t) (hs : Healthy s) : Healthy t := (h.stores (R := fun _ => False) hs).1

/-! ### A request in its turn (R212, R213) -/

/-- The state in which a request on a stay is judged: its frame is taken, and its stay has been used. -/
def State.turn (s : State) (f : Frame) : State := (s.takeAgent f).stamp (f.address % 2 ^ 18)

section
variable {s : State} {f : Frame} {i : Nat}

theorem State.stays_takeAgent (s : State) (f : Frame) : (s.takeAgent f).stays = s.stays := within_takeAgent.same .stays (by decide)

theorem State.stay_takeAgent (s : State) (f : Frame) (j : Nat) : (s.takeAgent f).stay j = s.stay j := by
  rw [State.stay, State.stays_takeAgent, State.stay]

theorem State.now_takeAgent (s : State) (f : Frame) : (s.takeAgent f).now = s.now := by
  rw [State.now, within_takeAgent.same .bell (by decide), State.now]

theorem State.stays_turn (s : State) (f : Frame) : (s.turn f).stays = (s.stamp (f.address % 2 ^ 18)).stays := by
  simp only [State.turn, State.stamp, State.modStay, State.stays_setStay, State.stay_takeAgent, State.stays_takeAgent, State.now_takeAgent]

theorem State.stay_turn_same (s : State) (f : Frame) :
    (s.turn f).stay (f.address % 2 ^ 18) = { s.stay (f.address % 2 ^ 18) with lastUse := bitsOf s.now 43 28 } := by
  rw [State.turn, State.stamp, State.stay_modStay_same, State.stay_takeAgent, State.now_takeAgent]

theorem State.stay_turn_other (s : State) (f : Frame) {j : Nat} (h : j ≠ f.address % 2 ^ 18) : (s.turn f).stay j = s.stay j := by
  rw [State.turn, State.stamp, State.stay_modStay_other _ _ h, State.stay_takeAgent]

theorem State.reg_turn (s : State) (f : Frame) {o : Nat} (ho : o < 0x00200000 ∨ 0x00400000 ≤ o) (h : o ≠ ST_STATUS ∧ o ≠ ST_USE) :
    (s.turn f).reg o = s.reg o := by
  rw [State.turn, State.stamp, State.reg_modStay _ _ _ h, State.reg_takeAgent ho]

theorem State.mem_turn (s : State) (f : Frame) : (s.turn f).mem = s.mem :=
  (within_stamp.same .mem (by decide)).trans (mem_takeAgent s f)

theorem ReadsAs.turn (h : Sound s) (f : Frame) : ReadsAs s (s.turn f) := (ReadsAs.takeAgent h f).stamp _

theorem InTurn.sound (h : InTurn s f i) : Sound s := .of_nil h.1.2.2.2.2.2.2

/-- What a request finds that is not refused before its kind is looked at. -/
structure Judged (x : State) (f : Frame) : Prop where
  opened : x.closedTo f.kind = none
  docket : docketOk f = true
  gen : bitsOf f.address 31 18 = (x.stay (f.address % 2 ^ 18)).gen
  party : (x.stay (f.address % 2 ^ 18)).party = f.party

theorem State.closedTo_turn (s : State) (f : Frame) (k : Nat) : (s.turn f).closedTo k = s.closedTo k := by
  have hreg : ∀ o, (o < 0x00200000 ∨ 0x00400000 ≤ o) ∧ o ≠ ST_STATUS ∧ o ≠ ST_USE → (s.turn f).reg o = s.reg o := fun o h => s.reg_turn f h.1 h.2
  have hopen : (s.turn f).flag ST_CTRL_ENABLE = s.flag ST_CTRL_ENABLE := State.flag_eq_of_reg (f := ST_CTRL_ENABLE) (hreg _ (by decide))
  have hphase : (s.turn f).phase = s.phase := State.fld_eq_of_reg (f := DV_STATE_PHASE) (hreg _ (by decide))
  have hup : (s.turn f).stackLost 0 = s.stackLost 0 := by
    rw [State.stackLost, State.regBit, hreg _ (by decide), State.stackLost, State.regBit]
  rw [State.closedTo, State.halted, hopen, hphase, hup, State.closedTo, State.halted]

theorem InTurn.judged (h : InTurn s f i) : Judged (s.turn f) f := by
  obtain ⟨⟨-, -, -, hrun, hopen, hup, -⟩, rfl, -, -, -, hdocket, hgen, hparty, -⟩ := h
  refine ⟨?_, hdocket, ?_, ?_⟩
  · rw [State.closedTo_turn, State.closedTo, hopen, hrun, hup]
    simp
  · rw [State.stay_turn_same]
    exact hgen
  · rw [State.stay_turn_same]
    exact hparty

/-- How a request that is taken at once ends: its turn, the answer to a refusal, and what waits at the agents. -/
theorem InTurn.takeRequest (h : InTurn s f i) (hrule : stateRule (s.stay i).state f.kind ≠ .refuse 1) :
    s.roomRequest f = .next (((s.takeAgent f).takeRequest (.request f) f).retryAgents) ∧
    (if (s.takeAgent f).names f then (s.takeAgent f).stamp (f.address % 2 ^ 18) else s.takeAgent f) = s.turn f ∧ (s.turn f).blocked (f.address % 2 ^ 18) = false := by
  obtain ⟨⟨-, ⟨-, -, -, -, -, htrust⟩, hphase, -⟩, rfl, hfull, hblocked, -, -, hgen, hparty, -⟩ := h
  refine ⟨?_, if_pos ?_, ?_⟩
  · rw [State.roomRequest, hfull, if_neg Bool.false_ne_true, State.innServe, if_neg hphase, State.serve, htrust, if_pos rfl]
  · simp only [State.names, State.stay_takeAgent, Bool.and_eq_true, beq_iff_eq, bne_iff_ne, ne_eq]
    exact ⟨⟨hgen, hrule⟩, hparty⟩
  · rw [State.blocked, State.stays_turn]
    exact hblocked

section
variable {t : State} (h : InTurn s f i) (hrule : stateRule (s.stay i).state f.kind ≠ .refuse 1)
include h hrule

theorem InTurn.done (hreq : (s.turn f).request (.request f) f = .done t) : s.roomRequest f = .next t.retryAgents := by
  obtain ⟨hexec, hturn, hblocked⟩ := h.takeRequest hrule
  rw [hexec, State.takeRequest]
  simp only [hturn, hblocked, Bool.false_eq_true, if_false, hreq]

theorem InTurn.refused {n : Nat} (hreq : (s.turn f).request (.request f) f = .refused t n) :
    s.roomRequest f = .next (t.refuse (.request f) f.kind n).retryAgents := by
  obtain ⟨hexec, hturn, hblocked⟩ := h.takeRequest hrule
  rw [hexec, State.takeRequest]
  simp only [hturn, hblocked, Bool.false_eq_true, if_false, hreq]

theorem InTurn.waits {m : Option Nat} (hreq : (s.turn f).request (.request f) f = .waits t m) :
    s.roomRequest f = .next (t.wait i (.request f) f m).retryAgents := by
  obtain ⟨hexec, hturn, hblocked⟩ := h.takeRequest hrule
  obtain ⟨-, rfl, -⟩ := h
  rw [hexec, State.takeRequest]
  simp only [hturn, hblocked, Bool.false_eq_true, if_false, hreq]

end

/-- What a request does by its kind, its card read (R213). -/
def State.byKind (s : State) (i state : Nat) (c : Card) (a : Asker) (f : Frame) : Served :=
  if f.kind ≠ 0x22 ∧ f.kind ≠ 0x25 ∧ s.remirroring i then .waits s none
  else if f.kind = 0x21 then s.append i c a f.payload
  else if f.kind = 0x22 then s.attend i c f
  else if f.kind = 0x23 then s.fork i f
  else if f.kind = 0x24 then s.park i c a f.payload
  else if f.kind = 0x25 then (if state = 3 then s.unparkHost i c a f.payload else s.unparkPeer i c a)
  else if s.moving i then .waits s none
  else .done (s.closeStay i a f)

/-- A request that its stay's state lets be performed, its card read. -/
theorem Judged.perform {x : State} (h : Judged x f) (a : Asker) {c : Card} (hrule : stateRule (x.stay (f.address % 2 ^ 18)).state f.kind = .perform)
    (hcard : (x.readCard (f.address % 2 ^ 18)).1 = some c) :
    x.request a f = (x.readCard (f.address % 2 ^ 18)).2.byKind (f.address % 2 ^ 18) (x.stay (f.address % 2 ^ 18)).state c a f := by
  rw [State.request]
  simp only [h.opened, h.docket, h.gen, hrule, h.party]
  generalize x.readCard (f.address % 2 ^ 18) = r at hcard
  obtain ⟨o, s1⟩ := r
  dsimp only at hcard
  subst hcard
  simp [State.byKind]

end

/-! ### Charts in a healthy pool -/

theorem leAt_peek (s : State) {a off n k : Nat} (h : off + k ≤ n) : leAt (s.peek a n) off k = leNat (s.peek (a + off) k) := by
  have hsub : ((s.peek a n).drop off).take k = s.peek (a + off) k := by
    apply List.ext_getElem?
    intro j
    by_cases hj : j < k
    · rw [List.getElem?_take_of_lt hj, List.getElem?_drop, s.getElem?_peek (by omega), s.getElem?_peek hj, Nat.add_assoc]
    · rw [List.getElem?_eq_none (by rw [List.length_take]; omega), List.getElem?_eq_none (by rw [s.length_peek]; omega)]
  rw [leAt, hsub]

theorem Healthy.nodeEntry {s : State} (h : Healthy s) (node i : Nat) : (s.nodeEntry node i).1 = some (leNat (s.peek (node * 256 + 4 * i) 4) % 2 ^ 24) := by
  rw [State.nodeEntry_eq, porterRead_good h.sound fun p _ => h.good p]
  rfl

theorem Healthy.sectorRead {s : State} (h : Healthy s) (seen : List Nat) (node i : Nat) :
    (s.sectorRead seen node i).1.1 = some (leNat (s.peek (node * 256 + 4 * i) 4) % 2 ^ 24) := by
  dsimp only [State.sectorRead, State.sectorEntry]
  split
  next => rfl
  next =>
    have hread := porterRead_good h.sound (a := (node * 256 + 4 * i) / 32 * 32) (n := 32) fun p _ => h.good p
    generalize s.porterRead ((node * 256 + 4 * i) / 32 * 32) 32 = r at hread
    obtain ⟨_ | b, s1⟩ := r
    · cases hread
    · obtain rfl : b = s.peek ((node * 256 + 4 * i) / 32 * 32) 32 := Option.some.inj hread
      dsimp only
      rw [leAt_peek s (by omega)]
      congr 4
      omega

/-- Sector by sector or entry by entry: a healthy chart gives the same room. -/
theorem Healthy.chartSeen {s : State} (h : Healthy s) (k : Nat) (seen : List Nat) (node page : Nat) :
    (s.chartSeen k seen node page).1.1 = (State.chartWalk k s node page).1 := by
  induction k generalizing s seen node with
  | zero => rfl
  | succ k ih =>
    have hsector := h.sectorRead seen node (page / 64 ^ k % 64)
    have hentry := h.nodeEntry node (page / 64 ^ k % 64)
    have hs := (reads_sectorRead seen node (page / 64 ^ k % 64)).after (.refl h.sound)
    have hn := (reads_nodeEntry node (page / 64 ^ k % 64)).after (.refl h.sound)
    simp only [State.sectorRead] at hsector hs
    simp only [State.chartSeen, State.chartRead, State.chartWalk]
    generalize s.sectorEntry seen node (page / 64 ^ k % 64) = x at hsector hs
    generalize s.nodeEntry node (page / 64 ^ k % 64) = y at hentry hn
    obtain ⟨o, seen1, s1⟩ := x
    obtain ⟨o', s2⟩ := y
    dsimp only at hsector hentry hs hn
    subst hsector hentry
    dsimp only
    split
    next => rfl
    next =>
      have hwalk := (reads_chartWalk k (leNat (s.peek (node * 256 + 4 * (page / 64 ^ k % 64)) 4) % 2 ^ 24) page)
      exact (ih (hs.healthy h) seen1 _).trans ((hwalk.answer hs).trans (hwalk.answer hn).symm)

/-- One page's room, looked up among pages or alone. -/
theorem Healthy.roomsOf_one {s : State} (h : Healthy s) {i page room : Nat} (hroom : (s.pageRoom i page).1 = some room) :
    (State.roomsOf [page] s i).1 = some [room] := by
  rw [State.pageRoom] at hroom
  rw [State.roomsOf, State.roomsFrom]
  split at hroom
  next hc =>
    obtain rfl : 0 = room := Option.some.inj hroom
    rw [if_pos hc]
    rfl
  next hc =>
    rw [← h.chartSeen _ []] at hroom
    rw [if_neg hc]
    simp only [State.chartSeen] at hroom
    generalize State.chartRead ((s.stay i).depth + 1) s [] (s.stay i).root page = x at hroom
    obtain ⟨o, seen1, s1⟩ := x
    dsimp only at hroom
    subst hroom
    rfl

end Sys2Proof.Machine
end

section
/-! PROOF. O50, requests on stays: APPEND, LODGE, the mirrored operations and a park to the host (R204, R217, R225, R226, R230). -/

-- Proofs are checked one at a time: side by side they would only wait for one another.
set_option Elab.async false

namespace Sys2Proof.Machine
open Sys2Proof

/-! ### APPEND of one vector (R217, R218) -/

/-- The page that one vector of an APPEND lies in. -/
def appendPage (c : Card) (d : AppendDocket) : Nat := d.start / c.tpr * c.lk + d.layer * c.kvHeads + d.first

/-- The bytes of one vector's keys and values in a room. -/
def VectorBytes (c : Card) (d : AppendDocket) (room b : Nat) : Prop :=
  ∃ half < 2, Bytes (room * 65536 + half * c.tpr * c.elem + d.start % c.tpr * c.elem) c.elem b

/-- Keys and values that are stored as they come. -/
theorem Stores.writeHead {R : Nat → Prop} (s : State) {c : Card} (hkv : c.kv = 0) (room t : Nat) (data : List Byte)
    (hR : ∀ half < 2, ∀ b, Bytes (room * 65536 + half * c.tpr * c.elem + t * c.elem) c.elem b → R b) (hlen : data.length ≤ 2 * c.elem) :
    Stores R s (s.writeHead c room t 1 data).2.2 := by
  have helem : c.elem = 2 * c.d := by rw [Card.elem, if_pos hkv]
  have hscale : c.scale = 0 := by rw [Card.scale, if_pos hkv]
  have hconvert : ∀ v, c.convert 1 v = (v, [], false, false) := fun v => by rw [Card.convert, if_pos hkv, if_pos rfl]
  have hput : ∀ (x : State) (half : Nat) (v : List Byte), half < 2 → v.length ≤ c.elem →
      Stores R x (x.poolWrite (room * 65536 + half * c.tpr * c.elem + t * c.elem) v) := fun x half v hhalf hv =>
    Stores.poolWrite _ _ _ fun b hb => hR half hhalf b ⟨hb.1, by have := hb.2; omega⟩
  rw [State.writeHead]
  simp only [hconvert, hscale, if_true, Nat.reduceEqDiff, if_false]
  refine (hput s 0 _ (by omega) ?_).trans (hput _ 1 _ (by omega) ?_)
  · rw [List.length_take]
    omega
  · rw [List.length_drop]
    omega

theorem appendOk_length {c : Card} {p : List Byte} {tokens : Nat} {replay : Bool} (h : c.appendOk p tokens replay = true) :
    p.length = 32 + (appendDocket p).count * (appendDocket p).heads * c.perHead (appendDocket p).fmt := by
  simp only [Card.appendOk, Bool.and_eq_true, beq_iff_eq] at h
  exact h.1.1.1.1.2

theorem countBy_core_stores {R : Nat → Prop} (s : State) (i k n : Nat) (hk : k < 16) : Stores R s (s.countBy (CL_CNT (i % 6) k) n) :=
  .of_status rfl (s.reg_countBy_other n (by unfold CL_CNT MEM_STATUS; omega))

theorem modStay_stores {R : Nat → Prop} (s : State) (i : Nat) (g : Stay → Stay) : Stores R s (s.modStay i g) :=
  .of_status (s.mem_setStay i _) (s.reg_modStay i g (by decide))

/-- An APPEND of one vector to a room of its stay alone: it ends early with nothing stored, or stores the vector. -/
theorem appendCore_vector {x : State} {i room : Nat} {c : Card} {p : List Byte} (hx : Healthy x) (hok : c.appendOk p (x.stay i).tokens false = true)
    (hcount : (appendDocket p).count = 1) (hheads : (appendDocket p).heads = 1) (hfmt : (appendDocket p).fmt = 1) (hkv : c.kv = 0)
    (hroom : (x.pageRoom i (appendPage c (appendDocket p))).1 = some room) (hne : room ≠ 0) (hledger : x.ledgerOf room = (1, false)) :
    (∃ v y, x.appendCore i c p false = .error v ∧ Stores (VectorBytes c (appendDocket p) room) x y ∧ v.state.mem = y.mem) ∨
    ∃ n y, x.appendCore i c p false = .ok (n, y) ∧ Stores (VectorBytes c (appendDocket p) room) x y := by
  have hpages : (List.range ((appendDocket p).start / c.tpr + 1 - (appendDocket p).start / c.tpr)).flatMap (fun k => (List.range 1).map (fun h =>
      ((appendDocket p).start / c.tpr + k) * c.lk + (appendDocket p).layer * c.kvHeads + (appendDocket p).first + h)) =
      [appendPage c (appendDocket p)] := by
    rw [Nat.add_sub_cancel_left]
    simp [appendPage]
  have hrooms := hx.roomsOf_one hroom
  have hread := (reads_roomsOf [appendPage c (appendDocket p)] i).after (.refl hx.sound)
  rw [State.appendCore]
  simp only [hok, hcount, hheads, Nat.add_sub_cancel, hpages, Bool.not_true, Bool.false_eq_true, if_false, one_ne_zero]
  generalize State.roomsOf [appendPage c (appendDocket p)] x i = r at hrooms hread
  obtain ⟨o, s0⟩ := r
  dsimp only at hrooms hread
  subst hrooms
  have hledgers := hread.readLedgers [room]
  dsimp only
  generalize s0.readLedgers [room] = s1 at hledgers
  have hgood : s1.roomBad room = false := by rw [hledgers.roomBad, State.roomBad, hledger, Bool.and_false]
  have hone : (s1.ledgerOf room).1 = 1 := by rw [hledgers.ledgerOf, hledger]
  split
  next => exact .inl ⟨_, s1, rfl, hledgers.stores, rfl⟩
  next =>
  simp only [List.zip_cons_cons, List.zip_nil_left, List.find?_cons, hgood, List.find?_nil, List.filter_cons, hone, beq_false_of_ne hne, lt_irrefl,
    decide_false, Bool.or_false, Bool.false_eq_true, if_false, List.filter_nil, State.appendRooms]
  have hplace : (s1.pageRoom i (appendPage c (appendDocket p))).1 = some room := ((reads_pageRoom i _).answer hledgers).trans hroom
  refine .inr ⟨_, _, rfl, ?_⟩
  have hcells : ((List.range 1).flatMap (fun t => (List.range 1).map (fun h => ((appendDocket p).start + t, h)))).zipIdx =
      [(((appendDocket p).start, 0), 0)] := rfl
  have hkey : (appendPage c (appendDocket p) == (appendDocket p).start / c.tpr * c.lk + (appendDocket p).layer * c.kvHeads + (appendDocket p).first + 0) = true :=
    beq_self_eq_true _
  simp only [hcells, List.foldl_cons, List.foldl_nil, hfmt, hplace, List.map_cons, List.map_nil, Option.getD_some, List.find?_cons, hkey, Option.map_some]
  have hwrite := Stores.writeHead (R := VectorBytes c (appendDocket p) room) s1 hkv room ((appendDocket p).start % c.tpr)
    (((p.drop 32).drop (0 * c.perHead 1)).take (c.perHead 1)) (fun half hhalf b hb => ⟨half, hhalf, hb⟩) (by
      have helem : c.elem = 2 * c.d := by rw [Card.elem, if_pos hkv]
      have hper : c.perHead 1 = 4 * c.d := by rw [Card.perHead, if_neg (by decide)]
      rw [List.length_take]
      omega)
  exact (hledgers.stores.trans hwrite).trans ((countBy_core_stores _ i 3 _ (by decide)).trans (modStay_stores _ i _))

theorem mem_append {x : State} {i : Nat} {c : Card} {a : Asker} {p : List Byte} :
    (∀ v, x.appendCore i c p false = .error v → (x.append i c a p).state.mem = v.state.mem) ∧
    ∀ n y, x.appendCore i c p false = .ok (n, y) → (x.append i c a p).state.mem = y.mem := by
  have hanswer : ∀ (u : State) (d : List Byte), (u.answer a 0x29 d).mem = u.mem := fun u d => mem_answer u a 0x29 d
  have hmirror : ∀ (u : State) (e : Stay) (r : Option (Nat × List Byte)), (u.mirror i e.twinCoord e.twinIndex 1 p a r false none).mem = u.mem :=
    fun u e r => within_mirror.same .mem (by decide)
  refine ⟨fun v h => ?_, fun n y h => ?_⟩
  · unfold State.append
    generalize x.appendCore i c p false = r at h ⊢
    subst h
    rfl
  · have hcount : (y.count (ST_CNT 1)).mem = y.mem := rfl
    unfold State.append
    generalize x.appendCore i c p false = r at h ⊢
    subst h
    dsimp only
    generalize y.count (ST_CNT 1) = u at hcount
    split
    · exact (hmirror _ _ _).trans hcount
    · exact (hanswer _ _).trans hcount

theorem InTurn.mem {s t : State} {f : Frame} {i : Nat} (h : InTurn s f i) (hrule : stateRule (s.stay i).state f.kind ≠ .refuse 1)
    (ht : s.roomRequest f = .next t) : t.mem = ((s.turn f).request (.request f) f).state.mem := by
  cases hv : (s.turn f).request (.request f) f with
  | done u =>
    rw [h.done hrule hv] at ht
    rw [← Host.Outcome.next.inj ht, mem_retryAgents]
    rfl
  | refused u n =>
    rw [h.refused hrule hv] at ht
    rw [← Host.Outcome.next.inj ht, mem_retryAgents, mem_refuse]
    rfl
  | waits u m =>
    rw [h.waits hrule hv] at ht
    rw [← Host.Outcome.next.inj ht, mem_retryAgents]
    rfl

theorem State.remirroring_congr {s t : State} (h : t.stays.mirrors = s.stays.mirrors) (i : Nat) : t.remirroring i = s.remirroring i := by
  rw [State.remirroring, h, State.remirroring]

/-- The card that a request in its turn finds, and the state in which its kind is looked at. -/
theorem InTurn.card {s : State} {f : Frame} {i : Nat} (h : InTurn s f i) : ((s.turn f).readCard i).1 = some (s.card i) ∧
    ReadsAs s ((s.turn f).readCard i).2 ∧ ((s.turn f).readCard i).2.stays = (s.turn f).stays ∧ ((s.turn f).readCard i).2.remirroring i = false := by
  have hturn := ReadsAs.turn h.sound f
  have hstays : ((s.turn f).readCard i).2.stays = (s.turn f).stays := within_readCard.same .stays (by decide)
  have hup : s.stackLost (pairStack (cardAt i / 64)) = false := by
    obtain ⟨⟨-, -, -, -, -, hup, -⟩, rfl, -⟩ := h
    have hlt : f.address % 2 ^ 18 < 2 ^ 18 := Nat.mod_lt _ (by decide)
    have hzero : pairStack (cardAt (f.address % 2 ^ 18) / 64) = 0 := by
      unfold pairStack cardAt
      omega
    rw [hzero]
    exact hup
  obtain ⟨-, -, -, -, hmirrors, -, -, -, hclean⟩ := h
  refine ⟨?_, (reads_readCard i).after hturn, hstays, ?_⟩
  · rw [(reads_readCard i).answer hturn]
    exact readCard_good hturn.sound ⟨hup, hclean⟩
  · rw [State.remirroring_congr (s := s) (by rw [hstays, State.stays_turn]; rfl)]
    exact hmirrors

theorem bytes_append {s : State} {f : Frame} {i room : Nat} (h : InTurn s f i) (hs : Healthy s) (hkind : f.kind = 0x21) (hstate : (s.stay i).state = 1)
    (hok : (s.card i).appendOk f.payload (s.stay i).tokens false = true) (hcount : (appendDocket f.payload).count = 1)
    (hheads : (appendDocket f.payload).heads = 1) (hfmt : (appendDocket f.payload).fmt = 1) (hkv : (s.card i).kv = 0) (hne : room ≠ 0)
    (hledger : s.ledgerOf room = (1, false)) (hroom : (s.pageRoom i (appendPage (s.card i) (appendDocket f.payload))).1 = some room) :
    Completes (.append f) s (fun t => ∀ b, ¬ VectorBytes (s.card i) (appendDocket f.payload) room b → t.peek b 1 = s.peek b 1) := by
  refine completes_of_all fun t ht b hb => ?_
  have hi : f.address % 2 ^ 18 = i := h.2.1
  have hrule : stateRule (s.stay i).state f.kind = .perform := by rw [hstate, hkind]; rfl
  have hmem := h.mem (by rw [hrule]; decide) ht
  obtain ⟨hcard, hreads, hstays, hmirrors⟩ := h.card
  have hstay : (s.turn f).stay i = { s.stay i with lastUse := bitsOf s.now 43 28 } := by rw [← hi]; exact s.stay_turn_same f
  have hreq := h.judged.perform (.request f) (c := s.card i) (by rw [hi, hstay]; exact hrule) (by rw [hi]; exact hcard)
  have hkinds : ∀ (x : State) (state : Nat), x.remirroring i = false →
      x.byKind i state (s.card i) (.request f) f = x.append i (s.card i) (.request f) f.payload := fun x state hm => by
    rw [State.byKind, hm, if_neg (by simp), if_pos hkind]
  rw [hreq, hi, hkinds _ _ hmirrors] at hmem
  generalize ((s.turn f).readCard i).2 = x at hreads hstays hmem
  have hx : (x.stay i).tokens = (s.stay i).tokens := by rw [State.stay, hstays, ← State.stay, hstay]
  obtain ⟨herror, hdone⟩ := mem_append (x := x) (i := i) (c := s.card i) (a := .request f) (p := f.payload)
  rcases appendCore_vector (hreads.healthy hs) (by rw [hx]; exact hok) hcount hheads hfmt hkv
    (((reads_pageRoom i _).answer hreads).trans hroom) hne ((hreads.ledgerOf room).trans hledger) with ⟨v, y, hv, hstores, hvmem⟩ | ⟨n, y, hv, hstores⟩
  · exact (hreads.stores.trans hstores).peek hs (by rw [hmem, herror v hv, hvmem]) hb
  · exact (hreads.stores.trans hstores).peek hs (by rw [hmem, hdone n y hv]) hb

/-! ### Pages that arrive (R226, R230) -/

theorem State.writePiece_clean (s : State) (a : Nat) (data : List Byte) : s.writePiece a data [] = s.poolWrite a data := rfl

theorem bytes_lodge {s : State} {f : Frame} {a : Arriving} (hs : Healthy s) (hpoison : f.poison = []) (hlen : f.payload.length = 4096)
    (hpiece : bitsOf f.address 45 42 < 15)
    (hfind : s.stays.arriving.find? (fun a => a.index == f.address % 2 ^ 18 && a.page == bitsOf f.address 41 18) = some a) :
    Completes (.lodge f) s (fun t => ∀ b, b < a.room * 65536 + 4096 * bitsOf f.address 45 42 ∨
      a.room * 65536 + 4096 * bitsOf f.address 45 42 + 4096 ≤ b → t.peek b 1 = s.peek b 1) := by
  refine completes_of_all fun t ht b hb => ?_
  have hexec : execLodge f s = .next t := ht
  rcases mem_innServe hexec with hmem | hmem
  · exact State.peek_congr_mem hmem b 1
  have hstores : Stores (Bytes (a.room * 65536 + 4096 * bitsOf f.address 45 42) 4096) s ((s.takeAgent f).readCard (f.address % 2 ^ 18)).2 :=
    ((reads_readCard _).after (ReadsAs.takeAgent hs.sound f)).stores
  have hstays : ((s.takeAgent f).readCard (f.address % 2 ^ 18)).2.stays = s.stays :=
    (within_readCard.same .stays (by decide)).trans (s.stays_takeAgent f)
  have hk : bitsOf f.address 45 42 ≠ 15 := by omega
  dsimp only at hmem
  generalize (s.takeAgent f).readCard (f.address % 2 ^ 18) = r at hmem hstores hstays
  obtain ⟨o, x⟩ := r
  dsimp only at hstores hstays
  have hout : ¬ Bytes (a.room * 65536 + 4096 * bitsOf f.address 45 42) 4096 b := by rw [Bytes]; omega
  cases o with
  | none => exact hstores.peek hs (by rw [hmem]; simp only [if_neg hk]) hout
  | some c =>
    simp only [hstays, hfind, if_neg hk, hlen, hpoison, State.writePiece_clean, ne_eq, not_true_eq_false, if_false] at hmem
    split at hmem
    next => exact hstores.peek hs hmem hout
    next => exact (hstores.trans (Stores.poolWrite _ _ _ fun b h => by rwa [hlen] at h)).peek hs hmem hout

/-! ### Operations of a twin's home (R229, R230) -/

/-- The frame that a MIRROR operation is served as is the frame itself, where it names that operation. -/
theorem mirrorFrame_self {f : Frame} {op : Nat} (h : bitsOf f.address 20 18 = op) :
    { f with address := f.address % 2 ^ 18 + op * 2 ^ 18 + f.address / 2 ^ 21 * 2 ^ 21 } = f := by
  have haddr : f.address % 2 ^ 18 + op * 2 ^ 18 + f.address / 2 ^ 21 * 2 ^ 21 = f.address := by
    rw [bitsOf] at h
    omega
  rw [haddr]

theorem mem_takeMirror (x : State) {op : Nat} {f : Frame} (h : bitsOf f.address 20 18 = op) :
    (x.takeMirror op f).mem = x.mem ∨ (x.takeMirror op f).mem = (x.mirrored f).state.mem := by
  unfold State.takeMirror
  rw [mirrorFrame_self h]
  dsimp only
  split
  next => exact .inl rfl
  next =>
    generalize x.mirrored f = v
    cases v with
    | done u => exact .inr rfl
    | refused u n => exact .inr (mem_answer u (.request f) 0x31 [BitVec.ofNat 8 n])
    | waits u m => exact .inr rfl

/-- Whatever a MIRROR operation stores lies in `R`: so does what its frame stores. -/
theorem bytes_takeMirror {R : Nat → Prop} {s : State} (hs : Healthy s) {op : Nat} {f : Frame} (hop : bitsOf f.address 20 18 = op) {y : State}
    (hy : Stores R (s.takeAgent f) y) (hmem : ((s.takeAgent f).mirrored f).state.mem = y.mem ∨ ((s.takeAgent f).mirrored f).state.mem = s.mem)
    {t : State} (ht : s.innServe f (fun s => s.takeMirror op f) = .next t) {b : Nat} (hb : ¬ R b) : t.peek b 1 = s.peek b 1 := by
  rcases mem_innServe ht with h | h
  · exact State.peek_congr_mem h b 1
  · rcases mem_takeMirror (s.takeAgent f) hop with h' | h'
    · exact State.peek_congr_mem (h.trans (h'.trans (mem_takeAgent s f))) b 1
    · rcases hmem with hm | hm
      · exact ((Stores.takeAgent s f).trans hy).peek hs (h.trans (h'.trans hm)) hb
      · exact State.peek_congr_mem (h.trans (h'.trans hm)) b 1

/-- How a MIRROR operation on an entry is served, or refused with nothing stored. -/
theorem mem_mirrored (x : State) {f : Frame} {op : Nat} (h : bitsOf f.address 20 18 = op) (h2 : op ≠ 2) : (x.mirrored f).state.mem = x.mem ∨
    ((op = 1 → x.mirrored f = x.replay (f.address % 2 ^ 18) f) ∧ (op = 4 → x.mirrored f = x.replayCopy (f.address % 2 ^ 18) f) ∧
      (op = 3 → (x.mirrored f).state.mem = (x.closeChart (f.address % 2 ^ 18)).2.mem)) := by
  have hindex : ∀ n, x.mirrorEntry f = .ok n → n = f.address % 2 ^ 18 := by
    intro n hn
    rw [State.mirrorEntry, mirrorIndex, h, if_neg h2] at hn
    split at hn
    next => cases hn
    next =>
      split_ifs at hn
      exact (Except.ok.inj hn).symm
  unfold State.mirrored
  dsimp only
  rw [h, if_neg (fun hc => h2 hc.1)]
  generalize hentry : x.mirrorEntry f = e
  cases e with
  | error n =>
    dsimp only
    split
    next => exact .inl rfl
    next => exact .inl rfl
  | ok n =>
    rw [hindex n hentry]
    dsimp only
    refine .inr ⟨fun ho => ?_, fun ho => ?_, fun ho => ?_⟩
    · rw [if_pos ho]
    · rw [if_neg (by omega), if_neg (by omega), if_neg (by omega)]
    · rw [if_neg (by omega), if_neg (by omega), if_pos ho]
      generalize x.closeChart (f.address % 2 ^ 18) = r
      obtain ⟨_ | k, s1⟩ := r
      · rfl
      · exact (mem_answer _ (.request f) 0x31 [BitVec.ofNat 8 0]).trans (within_freeEntry.same .mem (by decide))

theorem bytes_mirrorAppend {s : State} {f : Frame} (hs : Healthy s) (hop : bitsOf f.address 20 18 = 1)
    (hcount : (appendDocket f.payload).count = 0) (htokens : (s.stay (f.address % 2 ^ 18)).tokens ≤ (appendDocket f.payload).start) :
    Completes (.mirrorAppend f) s (fun t => ∀ b, t.peek b 1 = s.peek b 1) := by
  refine completes_of_all fun t ht b => ?_
  have hread := (reads_readCard (f.address % 2 ^ 18)).after (ReadsAs.refl (ReadsAs.takeAgent hs.sound f).pool.sound)
  have hstay : ((s.takeAgent f).readCard (f.address % 2 ^ 18)).2.stay (f.address % 2 ^ 18) = s.stay (f.address % 2 ^ 18) := by
    rw [State.stay, within_readCard.same .stays (by decide), ← State.stay, State.stay_takeAgent]
  refine bytes_takeMirror (R := fun _ => False) hs hop hread.stores ?_ ht id
  rcases mem_mirrored (s.takeAgent f) hop (by decide) with h | ⟨h, -, -⟩
  · exact .inr (h.trans (mem_takeAgent s f))
  rw [h rfl]
  refine .inl ?_
  unfold State.replay
  generalize (s.takeAgent f).readCard (f.address % 2 ^ 18) = r at hstay
  obtain ⟨_ | c, x⟩ := r
  · rfl
  dsimp only at hstay ⊢
  have hcore : ∀ v, x.appendCore (f.address % 2 ^ 18) c f.payload true = v → v = .error (.refused x 6) ∨ v = .ok (0, x) := by
    rintro v rfl
    rw [State.appendCore]
    dsimp only
    rw [if_pos hcount, hstay, if_pos htokens]
    split
    · exact .inl rfl
    · exact .inr rfl
  rcases hcore _ rfl with hv | hv
  · generalize x.appendCore (f.address % 2 ^ 18) c f.payload true = v at hv ⊢
    subst hv
    rfl
  · generalize x.appendCore (f.address % 2 ^ 18) c f.payload true = v at hv ⊢
    subst hv
    exact mem_answer _ (.request f) 0x31 [BitVec.ofNat 8 0]

/-- A page's room that its stay has alone is written where it stands. -/
theorem copyTarget_alone {s : State} {c : Card} {i page r : Nat} (hs : Sound s) (hroom : (s.pageRoom i page).1 = some r) (hne : r ≠ 0)
    (hledger : s.ledgerOf r = (1, false)) : (s.copyTarget c i page).1 = some r ∧ ReadsAs s (s.copyTarget c i page).2 := by
  have hread := (reads_pageRoom i page).after (.refl hs)
  unfold State.copyTarget
  generalize s.pageRoom i page = p at hroom hread
  obtain ⟨o, s0⟩ := p
  dsimp only at hroom hread
  subst hroom
  have hledgers := hread.readLedgers [r]
  dsimp only
  rw [if_pos ⟨hne, by rw [hledgers.ledgerOf, hledger]⟩]
  exact ⟨rfl, hledgers⟩

theorem bytes_mirrorRoomcopy {s : State} {f : Frame} {r : Nat} (hs : Healthy s) (hop : bitsOf f.address 20 18 = 4) (hpoison : f.poison = [])
    (hlen : f.payload.length = 4096) (hpiece : bitsOf f.address 48 45 < 15)
    (hroom : (s.pageRoom (f.address % 2 ^ 18) (bitsOf f.address 44 21)).1 = some r) (hne : r ≠ 0) (hledger : s.ledgerOf r = (1, false)) :
    Completes (.mirrorRoomcopy f) s (fun t => ∀ b, b < r * 65536 + 4096 * bitsOf f.address 48 45 ∨
      r * 65536 + 4096 * bitsOf f.address 48 45 + 4096 ≤ b → t.peek b 1 = s.peek b 1) := by
  refine completes_of_all fun t ht b hb => ?_
  have hout : ¬ Bytes (r * 65536 + 4096 * bitsOf f.address 48 45) 4096 b := by rw [Bytes]; omega
  have hk : bitsOf f.address 48 45 ≠ 15 := by omega
  have htake := ReadsAs.takeAgent hs.sound f
  have hstores : ∃ y, Stores (Bytes (r * 65536 + 4096 * bitsOf f.address 48 45) 4096) (s.takeAgent f) y ∧
      ((s.takeAgent f).replayCopy (f.address % 2 ^ 18) f).state.mem = y.mem := by
    have hcard := (reads_readCard (f.address % 2 ^ 18)).after (ReadsAs.refl htake.pool.sound)
    have hread := (reads_readCard (f.address % 2 ^ 18)).after htake
    unfold State.replayCopy
    simp only [hlen, if_neg hk, ne_eq, not_true_eq_false, if_false]
    generalize (s.takeAgent f).readCard (f.address % 2 ^ 18) = p at hcard hread
    obtain ⟨_ | c, x⟩ := p
    · exact ⟨x, hcard.stores, rfl⟩
    dsimp only at hcard hread ⊢
    obtain ⟨htarget, hcopy⟩ := copyTarget_alone (c := c) hread.pool.sound (((reads_pageRoom _ _).answer hread).trans hroom) hne
      ((hread.ledgerOf r).trans hledger)
    generalize x.copyTarget c (f.address % 2 ^ 18) (bitsOf f.address 44 21) = q at htarget hcopy
    obtain ⟨o, y⟩ := q
    dsimp only at htarget hcopy
    subst htarget
    refine ⟨y.poolWrite (r * 65536 + 4096 * bitsOf f.address 48 45) f.payload,
      (hcard.stores.trans hcopy.stores).trans (Stores.poolWrite _ _ _ fun b h => by rwa [hlen] at h), ?_⟩
    dsimp only
    rw [if_pos hk, hpoison, State.writePiece_clean]
    rfl
  obtain ⟨y, hy, hmem⟩ := hstores
  refine bytes_takeMirror hs hop hy ?_ ht hout
  rcases mem_mirrored (s.takeAgent f) hop (by decide) with h | ⟨-, h, -⟩
  · exact .inr (h.trans (mem_takeAgent s f))
  · exact .inl (by rw [h rfl, hmem])

end Sys2Proof.Machine
end

section
/-! PROOF. O50, charts given up and rooms copied: MIRROR CLOSE and the park to the host (R217, R223, R225). -/

-- Proofs are checked one at a time: side by side they would only wait for one another.
set_option Elab.async false

namespace Sys2Proof.Machine
open Sys2Proof

/-! ### Charts given up (R223) -/

/-- The ledgers, and the first bytes of every room, where the list of vacant rooms runs. -/
def LowOrHead (b : Nat) : Prop := b < 2 ^ 31 ∨ b % 65536 < 4

theorem Stores.heldRooms {R : Nat → Prop} (s : State) (v : Nat) : Stores R s (s.setFld MEM_STATUS_HELD_ROOMS v) := by
  refine .of_mem rfl fun n hn => ?_
  have hbit : ∀ x : State, (x.stackLost n).toNat = x.fld ⟨MEM_STATUS, 8 + n, 8 + n⟩ := fun x => (bitsOf_self _ _).symm
  have hfld := s.fld_setFld_bits MEM_STATUS_HELD_ROOMS ⟨MEM_STATUS, 8 + n, 8 + n⟩ v (.inl (by show 8 + n < 40; omega)) (by show 8 + n < 64; omega)
  rw [← hbit, ← hbit] at hfld
  revert hfld
  cases (s.setFld MEM_STATUS_HELD_ROOMS v).stackLost n <;> cases s.stackLost n <;> decide

theorem Stores.vacate (s : State) (r : Nat) : Stores LowOrHead s (s.vacate r) := by
  have hfree : ∀ x : State, Stores LowOrHead x (x.freeRoomsBy 1) := fun x => by
    rw [State.freeRoomsBy]
    split
    · exact Stores.setFld x _ (by decide)
    · exact .refl _ x
  rw [State.vacate]
  split_ifs
  · exact Stores.heldRooms s _
  · exact .refl _ s
  · have hlist : ∀ (x : State) (g : StayUnit → StayUnit), Stores LowOrHead x (x.modStays g) := fun x g => .of_status rfl rfl
    rw [State.pushVacant]
    refine (Stores.poolWrite s (r * 65536) _ fun b hb => .inr ?_).trans ((hlist _ _).trans (hfree _))
    rw [length_natLE, Bytes] at hb
    omega

section
variable {r : Nat} (hr : r < 2 ^ 24)
include hr

theorem Stores.setLedger (s : State) (refs : Nat) (poison : Bool) : Stores LowOrHead s (s.setLedger r refs poison) := by
  refine (Stores.porterRead s _ _).trans (Stores.porterWrite _ _ _ fun b hb => .inl ?_)
  rw [length_natLE, Bytes, ledgerAt] at hb
  omega

theorem Stores.dropRef (s : State) : Stores LowOrHead s (s.dropRef r) := by
  rw [State.dropRef]
  dsimp only
  split_ifs
  · exact .refl _ s
  · exact (Stores.setLedger hr s _ _).trans (Stores.vacate _ r)
  · exact Stores.setLedger hr s _ _

end

theorem Stores.freeChart (s : State) (i : Nat) {f : ChartFound} (hrooms : ∀ r ∈ f.rooms, r < 2 ^ 24) : Stores LowOrHead s (s.freeChart i f) := by
  have hrefs := Stores.foldl f.rooms (fun r hr x => Stores.dropRef (hrooms r hr) x) s
  have hnodes : ∀ x : State, Stores LowOrHead x (x.modStays (fun u => { u with nodeFree := f.nodes ++ u.nodeFree })) := fun x => .of_status rfl rfl
  have hcount : ∀ (x : State) (v : Nat), Stores LowOrHead x (x.setFld ST_USE_NODES_FREE v) := fun x v => Stores.setFld x v (by decide)
  rw [State.freeChart]
  generalize f.rooms.foldl State.dropRef s = x at hrefs
  exact hrefs.trans ((hnodes x).trans ((hcount _ _).trans (modStay_stores _ i _)))

/-- A chart's entries have 24 bits. -/
theorem nodeEntries_lt (s : State) (node : Nat) : ∀ r ∈ (s.nodeEntries node).1, r < 2 ^ 24 := by
  rw [State.nodeEntries]
  refine List.foldlRecOn (List.range 4) _ (motive := fun acc : List Nat × Bool × State => ∀ r ∈ acc.1, r < 2 ^ 24) (by simp) fun acc hacc q _ => ?_
  split
  next =>
    intro r hr
    rcases List.mem_append.1 hr with hr | hr
    · exact hacc r hr
    · obtain ⟨i, -, rfl⟩ := List.mem_map.1 (List.mem_filter.1 hr).1
      exact Nat.mod_lt _ (by decide)
  next => exact hacc

theorem chartNodes_lt (k : Nat) (s : State) (node : Nat) : ∀ r ∈ (State.chartNodes k s node).1.rooms, r < 2 ^ 24 := by
  induction k generalizing s node with
  | zero => simp [State.chartNodes]
  | succ k ih =>
    have hentries := nodeEntries_lt s node
    rw [State.chartNodes]
    generalize s.nodeEntries node = x at hentries
    obtain ⟨es, good, s1⟩ := x
    dsimp only at hentries ⊢
    split
    next => exact hentries
    next =>
      refine List.foldlRecOn es _ (motive := fun acc : ChartFound × State => ∀ r ∈ acc.1.rooms, r < 2 ^ 24) (by simp) fun acc hacc c _ => ?_
      intro r hr
      rcases List.mem_append.1 hr with hr | hr
      · exact hacc r hr
      · exact ih _ _ r hr

theorem readChart_lt (s : State) (i : Nat) : ∀ r ∈ (s.readChart i).1.rooms, r < 2 ^ 24 := by
  rw [State.readChart]
  split
  · simp
  · exact chartNodes_lt _ _ _

theorem Stores.readChart {s : State} (hs : Healthy s) (i : Nat) {R : Nat → Prop} : Stores R s (s.readChart i).2 :=
  ((reads_readChart i).after (.refl hs.sound)).stores

theorem Stores.dropChart {s : State} (hs : Healthy s) (i : Nat) : Stores LowOrHead s (s.dropChart i).2 :=
  (Stores.readChart hs i).trans (Stores.freeChart _ i (readChart_lt s i))

theorem Stores.closeChart {s : State} (hs : Healthy s) (i : Nat) : Stores LowOrHead s (s.closeChart i).2 := by
  have hread := Stores.readChart (R := LowOrHead) hs i
  have hrooms := readChart_lt s i
  unfold State.closeChart
  generalize s.readChart i = r at hread hrooms
  obtain ⟨f, x⟩ := r
  dsimp only at hread hrooms ⊢
  split
  · exact hread.trans (Stores.freeChart x i hrooms)
  · exact hread

theorem bytes_mirrorClose {s : State} {f : Frame} (hs : Healthy s) (hop : bitsOf f.address 20 18 = 3) :
    Completes (.mirrorClose f) s (fun t => ∀ b, 2 ^ 31 ≤ b → 4 ≤ b % 65536 → t.peek b 1 = s.peek b 1) := by
  refine completes_of_all fun t ht b hlow hhead => ?_
  have hclose := Stores.closeChart (Stores.takeAgent (R := LowOrHead) s f hs).1 (f.address % 2 ^ 18)
  refine bytes_takeMirror hs hop hclose ?_ ht (by rw [LowOrHead]; omega)
  rcases mem_mirrored (s.takeAgent f) hop (by decide) with h | ⟨-, -, h⟩
  · exact .inr (h.trans (mem_takeAgent s f))
  · exact .inl (h rfl)

/-! ### A twin's entry (R230) -/

theorem State.freeIndex_congr {s t : State} (h : t.stays = s.stays) : t.freeIndex = s.freeIndex := by
  simp only [State.freeIndex, State.stay, h]

/-- An entry taken: its card is all that is stored. -/
theorem Stores.takeEntry {x y : State} {state party rank rooms i : Nat} {card : List Byte} (hlen : card.length = 32)
    (h : x.takeEntry state party rank card rooms = .ok (i, y)) : x.freeIndex = some i ∧ Stores (Bytes (cardAt i) 32) x y := by
  have hset : ∀ (x : State) (i : Nat) (e : Stay), Stores (Bytes (cardAt i) 32) x (x.setStay i e) := fun x i e =>
    .of_status (x.mem_setStay i e) (x.reg_setStay i e (by decide))
  rw [State.takeEntry] at h
  cases hfree : x.freeIndex with
  | none => rw [hfree] at h; cases h
  | some j =>
    rw [hfree] at h
    dsimp only at h
    generalize hs1 : x.setStay j _ = s1 at h
    have h1 : Stores (Bytes (cardAt j) 32) x s1 := hs1 ▸ hset x j _
    cases hbook : s1.book j rooms with
    | none => rw [hbook] at h; cases h
    | some s2 =>
      rw [hbook] at h
      obtain ⟨rfl, rfl⟩ := Prod.mk.inj (Except.ok.inj h)
      have h2 : Stores (Bytes (cardAt j) 32) s1 s2 := by
        rw [State.book] at hbook
        split_ifs at hbook
        rw [← Option.some.inj hbook]
        exact modStay_stores s1 j _
      exact ⟨rfl, (h1.trans h2).trans (Stores.porterWrite s2 _ _ fun b hb => by rwa [hlen] at hb)⟩

theorem bytes_mirrorOpen {s : State} {f : Frame} {i : Nat} (hs : Healthy s) (hlen : f.payload.length = 36) (hfree : s.freeIndex = some i) :
    Completes (.mirrorOpen f) s (fun t => ∀ b, b < cardAt i ∨ cardAt i + 32 ≤ b → t.peek b 1 = s.peek b 1) := by
  refine completes_of_all fun t ht b hb => ?_
  have hout : ¬ Bytes (cardAt i) 32 b := by rw [Bytes]; omega
  have hexec : execMirrorOpen f s = .next t := ht
  have hfree' : (s.takeAgent f).freeIndex = some i := (State.freeIndex_congr (s.stays_takeAgent f)).trans hfree
  have htake := mem_takeAgent s f
  have hstores := Stores.takeAgent (R := Bytes (cardAt i) 32) s f
  have hrefused : ∀ (x : State) (n : Nat), (x.mirrorAnswer f n).mem = x.mem := fun x n => mem_answer x (.request f) 0x31 [BitVec.ofNat 8 n]
  rcases mem_innServe hexec with hmem | hmem
  · exact State.peek_congr_mem hmem b 1
  dsimp only at hmem
  generalize s.takeAgent f = x at hmem hfree' htake hstores
  split at hmem
  next => exact State.peek_congr_mem (by rw [hmem, hrefused, htake]) b 1
  next =>
  split at hmem
  next => exact State.peek_congr_mem (by rw [hmem, hrefused, htake]) b 1
  next =>
  have hcard : (f.payload.take 32).length = 32 := by rw [List.length_take]; omega
  have hentry := fun j y => Stores.takeEntry (x := x) (state := 7) (party := f.party) (rank := f.srcRank)
    (rooms := (cardOf (f.payload.take 32)).pages (cardOf (f.payload.take 32)).reserve) (i := j) (y := y) hcard
  generalize x.takeEntry 7 f.party f.srcRank (f.payload.take 32) ((cardOf (f.payload.take 32)).pages (cardOf (f.payload.take 32)).reserve) = v at hmem hentry
  cases v with
  | error n => exact State.peek_congr_mem (hmem.trans ((hrefused x n).trans htake)) b 1
  | ok p =>
    obtain ⟨j, y⟩ := p
    obtain ⟨hj, hy⟩ := hentry j y rfl
    obtain rfl : j = i := Option.some.inj (hj.symm.trans hfree')
    refine (hstores.trans hy).peek hs (hmem.trans ?_) hout
    dsimp only
    rw [mem_answer, State.homeOf, within_modStay.same .mem (by decide)]

/-! ### Rooms zeroed and copied (R225) -/

theorem Stores.zeroRoom {R : Nat → Prop} (s : State) (r : Nat) (hR : ∀ b, b / 65536 = r → R b) : Stores R s (s.zeroRoom r) := by
  rw [State.zeroRoom]
  split
  next => exact .refl R s
  next =>
  intro hs
  have hclean : (s.mem.poison.filter (fun e => e.1 / 1024 != r)) = [] := by rw [hs.clean]; rfl
  refine ⟨⟨Sound.modMem (hs.sound.nodup_filter _) fun e he => hs.good e.pair |>.imp id fun _ => ?_, hs.up, hclean⟩, fun b hb => ?_⟩
  · rw [State.poisoned, State.modMem_mem]
    dsimp only
    rw [hclean]
    rfl
  · have hne : b / 65536 ≠ r := fun h => hb (hR b h)
    have hpair : b / 64 / 1024 ≠ r := by omega
    rw [State.byte, State.modMem_mem, State.byte]
    dsimp only
    rw [List.find?_filter, sparseGet_filter (fun w => by simpa using hne)]
    congr 2
    funext e
    by_cases he : e.pair = b / 64
    · simp [he, hpair]
    · simp [he]

theorem Stores.settleRoom {R : Nat → Prop} (s : State) (r : Nat) : Stores R s (s.settleRoom r) := by
  have hpoison : ∀ (l : List MergeEntry) (x : State), (l.foldl State.flushEntry x).mem.poison = x.mem.poison := by
    intro l
    induction l with
    | nil => exact fun _ => rfl
    | cons e l ih => exact fun x => (ih _).trans (x.flushEntry_poison e)
  have hfold : ∀ (l : List MergeEntry) (x : State), Sound x → (l.map (·.pair)).Nodup → (∀ e ∈ l, e ∈ x.mem.merge) → SamePool x (l.foldl State.flushEntry x) := by
    intro l
    induction l with
    | nil => exact fun x hx _ _ => .refl hx
    | cons e l ih =>
      intro x hx hnodup hmem
      obtain ⟨hne, htail⟩ := List.nodup_cons.1 hnodup
      have hflush := hx.flushed (hmem e (by simp))
      refine hflush.trans (ih _ hflush.sound htail fun y hy => ?_)
      rw [hx.flushEntry_mem (hmem e (by simp))]
      refine List.mem_filter.2 ⟨hmem y (by simp [hy]), ?_⟩
      have : y.pair ≠ e.pair := fun h => hne (List.mem_map.2 ⟨y, hy, h⟩)
      simpa using this
  rw [State.settleRoom]
  exact SamePool.stores (fun h => hfold _ s h (h.nodup_filter _) fun e he => List.mem_of_mem_filter he) (hpoison _ s)

/-- A room copied: the room it is copied to is all that is stored. -/
theorem Stores.copyRoom {R : Nat → Prop} (s : State) (src dst : Nat) (hR : ∀ b, b / 65536 = dst → R b) : Stores R s (s.copyRoom src dst) := by
  have hset : ∀ (l : List (Nat × Byte)) (m : List (Nat × Byte)) (b : Nat), b / 65536 ≠ dst → (∀ e ∈ l, e.1 / 65536 = dst) →
      sparseGet 0 (l.foldl (fun m e => sparseSet 0 m e.1 e.2) m) b = sparseGet 0 m b := by
    intro l
    induction l with
    | nil => exact fun _ _ _ _ => rfl
    | cons e l ih =>
      intro m b hb hl
      rw [List.foldl_cons, ih _ b hb fun x hx => hl x (by simp [hx])]
      exact sparseGet_set_other fun h => hb (h ▸ hl e (by simp))
  have hsettled : Stores R s (((s.transferred (roomStack src)).transferred (roomStack dst)).settleRoom src) :=
    Stores.trans (SamePool.stores (fun h => (h.transferred _).trans ((h.transferred _).sound.transferred _)) rfl) (Stores.settleRoom _ src)
  intro hs
  refine (hsettled.trans (fun hx => ?_)) hs
  rw [State.copyRoom]
  generalize ((s.transferred (roomStack src)).transferred (roomStack dst)).settleRoom src = x at hx
  have hbad : x.roomPoison src = [] := by
    rw [State.roomPoison, hx.up (roomStack src) (Nat.mod_lt _ (by decide)), hx.clean]
    rfl
  rw [hbad]
  simp only [List.isEmpty_nil, Bool.true_or, if_true, List.length_nil, List.contains_nil, Bool.not_false, Bool.and_true, List.foldl_nil]
  have hcount := Stores.countBy (R := R) x (roomStack src) 8 0
  generalize x.countBy (MEM_STACK_CNT (roomStack src) 8) 0 = y at hcount
  refine ((hcount.trans (Stores.zeroRoom y dst hR)).trans ?_) hx
  generalize y.zeroRoom dst = z
  split
  next => exact .refl R z
  next =>
    intro hz
    refine ⟨⟨⟨hz.sound.nodup, hz.sound.good⟩, hz.up, hz.clean⟩, fun b hb => ?_⟩
    have hne : b / 65536 ≠ dst := fun h => hb (hR b h)
    rw [State.byte, State.modMem_mem, State.byte]
    dsimp only
    rw [hset _ _ b hne]
    intro e he
    obtain ⟨w, -, rfl⟩ := List.mem_map.1 he
    dsimp only
    omega

/-! ### The park to the host (R225) -/

/-- The rooms of the stable area that an image takes, and what `LowOrHead` names. -/
def ImageBytes (base pages b : Nat) : Prop := LowOrHead b ∨ base ≤ b / 65536 ∧ b / 65536 ≤ base + pages

theorem length_imageHeader (s : State) (i n : Nat) : (s.imageHeader i n).length = 56 := by
  simp [State.imageHeader, length_natLE, State.length_peek, zeroBytes_length]

/-- The rooms of an image written: a header, and every page copied or left zero. -/
theorem Stores.image (s : State) (base : Nat) (header : List Byte) (hlen : header.length ≤ 65536) (rooms : List Nat) :
    Stores (ImageBytes base rooms.length) s (rooms.zipIdx.foldl (fun s x => if x.1 = 0 then s.zeroRoom (base + 1 + x.2) else s.copyRoom x.1 (base + 1 + x.2))
      ((s.zeroRoom base).poolWrite (base * 65536) header)) := by
  have hzero := Stores.zeroRoom (R := ImageBytes base rooms.length) s base fun b hb => .inr (by omega)
  have hheader := Stores.poolWrite (R := ImageBytes base rooms.length) (s.zeroRoom base) (base * 65536) header fun b hb => .inr (by
    obtain ⟨hlo, hhi⟩ := hb
    omega)
  refine (hzero.trans hheader).trans (Stores.foldl _ (fun x hx y => ?_) _)
  have hlt : x.2 < rooms.length := by
    have := List.mem_zipIdx hx
    omega
  split
  · exact Stores.zeroRoom y _ fun b hb => .inr (by omega)
  · exact Stores.copyRoom y _ _ fun b hb => .inr (by omega)

theorem State.stays_image (s : State) (base : Nat) (header : List Byte) (rooms : List Nat) :
    (rooms.zipIdx.foldl (fun s x => if x.1 = 0 then s.zeroRoom (base + 1 + x.2) else s.copyRoom x.1 (base + 1 + x.2))
      ((s.zeroRoom base).poolWrite (base * 65536) header)).stays = s.stays := by
  have hfold : ∀ (l : List (Nat × Nat)) (x : State), (l.foldl (fun s x => if x.1 = 0 then s.zeroRoom (base + 1 + x.2)
      else s.copyRoom x.1 (base + 1 + x.2)) x).stays = x.stays := by
    intro l
    induction l with
    | nil => exact fun _ => rfl
    | cons y l ih =>
      intro x
      rw [List.foldl_cons, ih]
      split
      · exact within_zeroRoom.same .stays (by decide)
      · exact within_copyRoom.same .stays (by decide)
  rw [hfold, within_poolWrite.same .stays (by decide), within_zeroRoom.same .stays (by decide)]

/-! Nothing that waits begins to wait, or stops waiting, in what a park does to the pool. -/

theorem State.waiting_dropRef (s : State) (r : Nat) : (s.dropRef r).stays.waiting = s.stays.waiting := by
  have hledger : ∀ (x : State) (refs : Nat) (p : Bool), (x.setLedger r refs p).stays = x.stays := fun x refs p =>
    within_setLedger.same .stays (by decide)
  have hvacate : ∀ x : State, (x.vacate r).stays.waiting = x.stays.waiting := by
    intro x
    have hfree : ∀ y : State, (y.freeRoomsBy 1).stays = y.stays := fun y => by
      rw [State.freeRoomsBy]
      split <;> rfl
    rw [State.vacate]
    split_ifs
    · rfl
    · rfl
    · rw [State.pushVacant, hfree]
      show (x.poolWrite (r * 65536) _).stays.waiting = _
      rw [within_poolWrite.same .stays (by decide)]
  rw [State.dropRef]
  split_ifs
  · rfl
  · rw [hvacate, hledger]
  · rw [hledger]

theorem State.waiting_dropChart (s : State) (i : Nat) : (s.dropChart i).2.stays.waiting = s.stays.waiting := by
  have hrefs : ∀ (l : List Nat) (x : State), (l.foldl State.dropRef x).stays.waiting = x.stays.waiting := by
    intro l
    induction l with
    | nil => exact fun _ => rfl
    | cons r l ih => exact fun x => (ih _).trans (x.waiting_dropRef r)
  have hread : (s.readChart i).2.stays = s.stays := within_readChart.same .stays (by decide)
  show ((s.readChart i).2.freeChart i (s.readChart i).1).stays.waiting = _
  rw [← hread]
  exact hrefs _ _

theorem State.waiting_notify (s : State) (n : List Byte) : (s.notify n).stays.waiting = s.stays.waiting := by
  have hflush : ∀ (l : List (List Byte)) (x : State), (l.foldl (fun s n => if s.stays.notices.head? = some n ∧ s.qReady 1 then
      (s.qWrite 1 n).modStays (fun u => { u with notices := u.notices.tail }) else s) x).stays.waiting = x.stays.waiting := by
    intro l
    induction l with
    | nil => exact fun _ => rfl
    | cons n l ih =>
      intro x
      rw [List.foldl_cons, ih]
      split
      · show (x.qWrite 1 n).stays.waiting = _
        rw [within_qWrite.same .stays (by decide)]
      · rfl
  exact hflush _ _

theorem State.drainStay_of_nil {s : State} (h : s.stays.waiting = []) (i : Nat) : s.drainStay i = s := by
  rw [State.drainStay, h, List.length_nil, State.drain, h]
  rfl

/-- A park that cannot be done: the stay's chart is given up, or nothing is stored. -/
theorem mem_parkFails {s x : State} {R : Nat → Prop} (hR : ∀ b, LowOrHead b → R b) (hx : Healthy x) (hread : Stores R s x) (hwait : x.stays.waiting = []) (m : Move) (hkind : m.kind = 1) (status : Nat) :
    ∃ y, Stores R s y ∧ ((x.parkFails m status).retryAgents).mem = y.mem := by
  rw [mem_retryAgents, State.parkFails]
  split
  next =>
    rw [if_neg (by omega), State.evictDrop]
    exact ⟨(x.dropChart m.index).2, hread.trans ((Stores.dropChart hx m.index).mono hR), rfl⟩
  next =>
    have hrefused : ∀ y : State, y.stays.waiting = [] → (y.refuse m.asker 0x24 status).stays.waiting = [] := fun y hy => by
      rw [within_refuse.same .stays (by decide)]
      exact hy
    rw [State.drainStay_of_nil (hrefused ((x.setMove m.index none).modStay m.index (fun e => { e with state := 1 })) hwait), mem_refuse]
    exact ⟨x, hread, rfl⟩

theorem roomsFrom_length (ps : List Nat) (s : State) (seen : List Nat) (i : Nat) : ∀ rooms, (State.roomsFrom ps s seen i).1 = some rooms →
    rooms.length = ps.length := by
  induction ps generalizing s seen with
  | nil =>
    intro rooms h
    rw [State.roomsFrom] at h
    rw [← Option.some.inj h]
  | cons p ps ih =>
    intro rooms h
    rw [State.roomsFrom] at h
    generalize (if (s.stay i).root = 0 ∨ 64 ^ ((s.stay i).depth + 1) ≤ p then (some 0, seen, s)
      else State.chartRead ((s.stay i).depth + 1) s seen (s.stay i).root p) = x at h
    obtain ⟨_ | r, seen1, s1⟩ := x
    · cases h
    · have hrest := ih s1 seen1
      dsimp only at h
      generalize State.roomsFrom ps s1 seen1 i = y at h hrest
      obtain ⟨_ | rs, s2⟩ := y
      · cases h
      · rw [← Option.some.inj h, List.length_cons, hrest rs rfl, List.length_cons]

theorem bytes_parkToHost {s : State} {i off head : Nat} (hs : Healthy s) (hwait : s.stays.waiting = [])
    (hplace : s.ringPlace ((s.card i).pages (s.stay i).tokens + 1) = some (off, head)) : Completes (.parkToHost i) s (fun t =>
      ∀ b, ¬ ImageBytes (s.fld ST_STABLE_BASE + off) ((s.card i).pages (s.stay i).tokens) b → t.peek b 1 = s.peek b 1) := by
  refine completes_of_all fun t ht b hb => ?_
  have hexec : execParkToHost i s = .next t := ht
  suffices h : ∃ y, Stores (ImageBytes (s.fld ST_STABLE_BASE + off) ((s.card i).pages (s.stay i).tokens)) s y ∧ t.mem = y.mem by
    obtain ⟨y, hy, hmem⟩ := h
    exact hy.peek hs hmem hb
  have hR : ∀ b, LowOrHead b → ImageBytes (s.fld ST_STABLE_BASE + off) ((s.card i).pages (s.stay i).tokens) b := fun _ h => .inl h
  unfold execParkToHost at hexec
  cases hmove : s.move? i with
  | none =>
    rw [hmove] at hexec
    exact ⟨s, .refl _ s, by rw [← Host.Outcome.next.inj hexec]⟩
  | some m =>
  rw [hmove] at hexec
  dsimp only at hexec
  split at hexec
  next => exact ⟨s, .refl _ s, by rw [← Host.Outcome.next.inj hexec]⟩
  next hstart =>
  have hkind : m.kind = 1 := by omega
  have hcard := readCard_good hs.sound (hs.good (cardAt i / 64))
  have hread0 := (reads_readCard i).after (.refl hs.sound)
  have hstays0 : (s.readCard i).2.stays = s.stays := within_readCard.same .stays (by decide)
  generalize s.readCard i = r at hexec hcard hread0 hstays0
  obtain ⟨o, s0⟩ := r
  dsimp only at hcard hread0 hstays0
  subst hcard
  dsimp only at hexec
  rw [hplace] at hexec
  dsimp only at hexec
  split at hexec
  next =>
    rw [← Host.Outcome.next.inj hexec]
    exact mem_parkFails hR (hread0.healthy hs) hread0.stores (by rw [hstays0, hwait]) m hkind 0x0C
  next =>
  have hread1 := (reads_roomsOf (List.range ((s.card i).pages (s.stay i).tokens)) i).after hread0
  have hlen1 := roomsFrom_length (List.range ((s.card i).pages (s.stay i).tokens)) s0 [] i
  have hstays1 : (State.roomsOf (List.range ((s.card i).pages (s.stay i).tokens)) s0 i).2.stays = s.stays :=
    (within_roomsOf.same .stays (by decide)).trans hstays0
  rw [← State.roomsOf] at hlen1
  generalize State.roomsOf (List.range ((s.card i).pages (s.stay i).tokens)) s0 i = q at hexec hread1 hlen1 hstays1
  obtain ⟨o, s1⟩ := q
  dsimp only at hread1 hlen1 hstays1
  cases o with
  | none =>
    rw [← Host.Outcome.next.inj hexec]
    exact mem_parkFails hR (hread1.healthy hs) hread1.stores (by rw [hstays1, hwait]) m hkind 7
  | some rooms =>
  have hrooms : rooms.length = (s.card i).pages (s.stay i).tokens := (hlen1 rooms rfl).trans List.length_range
  dsimp only at hexec
  have himage := Stores.image s1 (s.fld ST_STABLE_BASE + off) (s.imageHeader i ((s.card i).pages (s.stay i).tokens))
    (by rw [length_imageHeader]; decide) rooms
  rw [hrooms] at himage
  have hstays := State.stays_image s1 (s.fld ST_STABLE_BASE + off) (s.imageHeader i ((s.card i).pages (s.stay i).tokens)) rooms
  generalize rooms.zipIdx.foldl (fun s x => _) _ = z at hexec himage hstays
  have hz : Healthy z := ((hread1.stores (R := fun _ => True)).trans (himage.mono fun _ _ => trivial) hs).1
  have hwaits : (z.dropChart i).2.stays.waiting = [] := by rw [State.waiting_dropChart, hstays, hstays1, hwait]
  refine ⟨(z.dropChart i).2, (hread1.stores.trans himage).trans ((Stores.dropChart hz i).mono hR), ?_⟩
  generalize z.dropChart i = d at hexec hwaits ⊢
  obtain ⟨k, u⟩ := d
  dsimp only at hexec hwaits ⊢
  rw [← Host.Outcome.next.inj hexec, mem_retryAgents]
  have hend : ∀ (v : State) (docket : List Byte), v.stays.waiting = [] → v.mem = u.mem →
      (((v.setMove i none).answer m.asker 0x2C docket).drainStay i).mem = u.mem := fun v docket hv hmem => by
    have hanswered : ((v.setMove i none).answer m.asker 0x2C docket).stays.waiting = [] := by
      rw [within_answer.same .stays (by decide)]
      exact hv
    rw [State.drainStay_of_nil hanswered, mem_answer]
    exact hmem
  have hnoted : ∀ (v : State) (n : List Byte), v.stays.waiting = [] → v.mem = u.mem → (v.notify n).stays.waiting = [] ∧ (v.notify n).mem = u.mem :=
    fun v n hv hmem => ⟨by rw [State.waiting_notify, hv], (within_notify.same .mem (by decide)).trans hmem⟩
  have hparked : ((u.modStay i (fun e => { e with state := 3 })).setFld ST_STABLE_HEAD_HEAD head).stays.waiting = [] ∧
      ((u.modStay i (fun e => { e with state := 3 })).setFld ST_STABLE_HEAD_HEAD head).mem = u.mem := ⟨hwaits, rfl⟩
  generalize (u.modStay i (fun e => { e with state := 3 })).setFld ST_STABLE_HEAD_HEAD head = v at hparked ⊢
  generalize hnote : v.notify _ = w
  have hnotice : w.stays.waiting = [] ∧ w.mem = u.mem := hnote ▸ hnoted v _ hparked.1 hparked.2
  split
  · exact hend ((w.count (ST_CNT 4)).count (ST_CNT 7)) _ hnotice.1 hnotice.2
  · exact hend (w.count (ST_CNT 4)) _ hnotice.1 hnotice.2

/-! ### O50 -/

/-- Settles O50. The pool is a memory (`Sound`, `Overlaid`): each command's stores are followed to the address its form gives, and what it does besides
leaves the memory alone. -/
theorem storesKeepOtherBytes : Obligations.StoresKeepOtherBytes := by
  unfold Obligations.StoresKeepOtherBytes
  refine ⟨bytes_pairWrite, bytes_memwr, fun s w data hs => bytes_memwrptl w data (PoolClean.healthy hs), fun s w hs => bytes_memrd w (PoolClean.healthy hs),
    fun s f hs hpool _ => bytes_writePosted (PoolClean.healthy hs) hpool, fun s f hs hpool _ => bytes_write (PoolClean.healthy hs) hpool,
    fun s f hs hpool _ => bytes_read (PoolClean.healthy hs) hpool, fun s f hs _ => bytes_snapPut f (PoolClean.healthy hs),
    fun s pair e hone hpair hclean hup => bytes_mergeHoldExpiry hone hpair hclean hup, fun s hs => bytes_captureDone (PoolClean.healthy hs),
    fun s g hg hs => bytes_backgroundCommandDone hg (PoolClean.healthy hs), ?_, ?_, ?_, ?_, ?_, ?_, ?_⟩
  · intro s f i room hturn hs hkind hstate hok hcount hheads hfmt hkv _ _ _ hne hledger hroom
    obtain ⟨t, ht, hbytes⟩ := bytes_append hturn (PoolClean.healthy hs) hkind hstate hok hcount hheads hfmt hkv hne hledger hroom
    refine ⟨t, ht, fun b hb => hbytes b ?_⟩
    rintro ⟨half, hhalf, hlo, hhi⟩
    obtain ⟨a, ha, hout⟩ := hb half hhalf
    rw [List.mem_singleton] at ha
    omega
  · intro s f i a hphase htrust hi hs hpoison _ hlen hpiece hfind
    subst hi
    exact bytes_lodge (PoolClean.healthy hs) hpoison hlen hpiece hfind
  · intro s f i _ hs hlen _ hfree
    exact bytes_mirrorOpen (PoolClean.healthy hs) hlen hfree
  · intro s f i _ hs hi hop _ _ _ _ _ hcount htokens
    subst hi
    exact bytes_mirrorAppend (PoolClean.healthy hs) hop hcount htokens
  · intro s f i r _ hs hi hop _ _ _ _ hpoison hlen hpiece hroom hne hledger
    subst hi
    exact bytes_mirrorRoomcopy (PoolClean.healthy hs) hop hpoison hlen hpiece hroom hne hledger
  · intro s f i _ hs hi hop _ _ _ _
    exact bytes_mirrorClose (PoolClean.healthy hs) hop
  · intro s i off head hs hwait hplace
    obtain ⟨t, ht, hbytes⟩ := bytes_parkToHost (PoolClean.healthy hs) hwait hplace
    refine ⟨t, ht, fun b hlow hhead hout => hbytes b ?_⟩
    rintro ((hlow' | hhead') | himage) <;> omega

end Sys2Proof.Machine
end

section
/-! SUPPORT. Frames that the module's agents post stay posted: once a frame of an agent stands in the switch with a copy bound for a port, or waits at
its agent for cells, nothing that later commands' operations send, take or try again removes it (R79, R113, R118, R125). -/

-- Proofs are checked one at a time: side by side they would only wait for one another.
set_option Elab.async false

namespace Sys2Proof.Machine
open Sys2Proof

/-! ### What a route is read from -/

/-- The registers that an agent's route, a port's state and an endpoint's permissions are read from (R64, R69, R86, R96, R98). -/
def RouteReg (o : Nat) : Prop :=
  o = DV_COORD ∨ (0x00360000 ≤ o ∧ o ≤ 0x00360100) ∨ (0x00360200 ≤ o ∧ o < 0x00400000) ∨ (0x01010000 ≤ o ∧ o < 0x01014000)

theorem routeReg_coord : RouteReg DV_COORD := .inl rfl

theorem routeReg_fence : RouteReg SW_FENCE := .inr (.inl (by decide))

theorem routeReg_dead {c : Nat} (hc : c < 2048) : RouteReg (SW_DEAD (c / 64)) := .inr (.inl (by unfold SW_DEAD; omega))

theorem routeReg_port0 {p : Nat} (hp : p < 256) : RouteReg (LN_PORT_W0 p) := .inr (.inr (.inr (by unfold LN_PORT_W0; omega)))

theorem routeReg_port2 {p : Nat} (hp : p < 256) : RouteReg (LN_PORT_W2 p) := .inr (.inr (.inr (by unfold LN_PORT_W2; omega)))

theorem routeReg_perm {p : Nat} (hp : p < 64) : RouteReg (SW_EP_PERM p) := .inr (.inr (.inl (by unfold SW_EP_PERM; omega)))

theorem RouteReg.offChoice {o : Nat} (h : RouteReg o) : OffChoice o := by
  refine offChoice_of_lt ?_
  unfold RouteReg DV_COORD at h
  unfold BT_CHOICE
  omega

theorem RouteReg.ne_drop {o ctr : Nat} (h : RouteReg o) (hc : (0x00200000 ≤ ctr ∧ ctr < 0x00360000) ∨ (0x00360108 ≤ ctr ∧ ctr < 0x00360200)) :
    o ≠ ctr := by
  unfold RouteReg DV_COORD at h
  omega

theorem RouteReg.ne_ownerStat {o : Nat} (h : RouteReg o) (w : Nat) : o ≠ ownerStat w := by
  refine h.ne_drop (.inl ?_)
  unfold ownerStat SW_OWNER_STAT SW_AGENT_STAT
  split <;> omega

theorem RouteReg.ne_qlen {o : Nat} (h : RouteReg o) {p c sub : Nat} (hp : p < 256) : o ≠ SW_QLEN (portOwner p c sub) := by
  refine h.ne_drop (.inl ?_)
  unfold SW_QLEN portOwner
  omega

theorem RouteReg.ne_refusal {o : Nat} (h : RouteReg o) (st : Nat) : o ≠ refusalCounter st := by
  refine h.ne_drop (.inr ?_)
  unfold refusalCounter
  split_ifs <;> decide

/-! ### Operations that leave the frames in the switch alone -/

/-- Same frames, copies and waiting frames, and the same routes. -/
structure Quiet (s t : State) : Prop where
  reg : ∀ o, RouteReg o → t.reg o = s.reg o
  cables : t.sw.miscabled = s.sw.miscabled
  nextId : t.sw.nextId = s.sw.nextId
  descs : t.sw.descs = s.sw.descs
  copies : t.sw.copies = s.sw.copies
  waits : t.sw.agentWait = s.sw.agentWait

namespace Quiet

variable {s t u : State}

theorem refl (s : State) : Quiet s s := ⟨fun _ _ => rfl, rfl, rfl, rfl, rfl, rfl⟩

theorem trans (h : Quiet s t) (k : Quiet t u) : Quiet s u :=
  ⟨fun o ho => (k.reg o ho).trans (h.reg o ho), k.cables.trans h.cables, k.nextId.trans h.nextId, k.descs.trans h.descs, k.copies.trans h.copies,
    k.waits.trans h.waits⟩

theorem of_sw (h : t.sw = s.sw) (hr : ∀ o, RouteReg o → t.reg o = s.reg o) : Quiet s t := ⟨hr, by rw [h], by rw [h], by rw [h], by rw [h], by rw [h]⟩

theorem of_within {ps : List Part} (h : Within ps s t) (hsw : Part.sw ∉ ps) (hregs : Part.regs ∉ ps) : Quiet s t :=
  of_sw (h.same .sw hsw) fun o _ => h.reg hregs o

theorem of_regs {ps : List Part} (h : Within ps s t) (hsw : Part.sw ∉ ps) (hr : ∀ o, RouteReg o → t.reg o = s.reg o) : Quiet s t :=
  of_sw (h.same .sw hsw) hr

theorem foldl {α : Type} {g : State → α → State} (l : List α) (h : ∀ x, ∀ a ∈ l, Quiet x (g x a)) (s : State) : Quiet s (l.foldl g s) :=
  List.foldlRecOn l g (motive := fun x => Quiet s x) (refl s) fun x hx a ha => hx.trans (h x a ha)

theorem calm (h : Quiet s t) (hc : Calm s) : Calm t := hc.congr h.waits h.copies

/-- A change of the switch beside its frames. -/
theorem modSw (f : Switch → Switch) (h : (f s.sw).miscabled = s.sw.miscabled ∧ (f s.sw).nextId = s.sw.nextId ∧ (f s.sw).descs = s.sw.descs ∧
    (f s.sw).copies = s.sw.copies ∧ (f s.sw).agentWait = s.sw.agentWait) : Quiet s (s.modSw f) :=
  ⟨fun _ _ => rfl, h.1, h.2.1, h.2.2.1, h.2.2.2.1, h.2.2.2.2⟩

theorem setFld {f : Fld} (hf : ¬RouteReg f.off) (v : Nat) : Quiet s (s.setFld f v) :=
  of_sw rfl fun _ ho => s.reg_setFld_other _ _ fun e => hf (e ▸ ho)

theorem setReg {o : Nat} (ho : ¬RouteReg o) (v : Word) : Quiet s (s.setReg o v) :=
  of_sw rfl fun _ hp => s.reg_setReg_other _ fun e => ho (e ▸ hp)

theorem count {o : Nat} (ho : ¬RouteReg o) : Quiet s (s.count o) := of_sw rfl fun _ hp => s.reg_count_other fun e => ho (e ▸ hp)

theorem raise {f : Fld} (hf : ¬RouteReg f.off) : Quiet s (s.raise f) := of_sw rfl fun _ ho => s.reg_raise_other _ fun e => hf (e ▸ ho)

theorem showPool : Quiet s s.showPool := setFld (fun h => h.ne_drop (.inl (by decide)) rfl) _

theorem moveShared (w c c' : Nat) : Quiet s (s.moveShared w c c') :=
  trans (t := s.modSw (fun x => { x with sharedFree := x.sharedFree + (max (s.ownerMin w) c : Nat) - (max (s.ownerMin w) c' : Nat),
                                         claimed := x.claimed + c' - c })) ⟨fun _ _ => rfl, rfl, rfl, rfl, rfl, rfl⟩ showPool

theorem ownerUsed (w v : Nat) : Quiet s (s.setFld ⟨ownerStat w, 19, 0⟩ v) := setFld (fun h => h.ne_ownerStat w rfl) v

theorem takeCells (w k : Nat) : Quiet s (s.takeCells w k) :=
  ((ownerUsed w _).trans (moveShared w _ _)).trans ⟨fun _ _ => rfl, rfl, rfl, rfl, rfl, rfl⟩

theorem freeCells (w k : Nat) (chain : List Nat) : Quiet s (s.freeCells w k chain) :=
  ((ownerUsed w _).trans (moveShared w _ _)).trans ⟨fun _ _ => rfl, rfl, rfl, rfl, rfl, rfl⟩

theorem detourBack (p : Nat) : Quiet s (s.detourBack p) := by
  rw [State.detourBack]
  split
  · exact ⟨fun _ _ => rfl, rfl, rfl, rfl, rfl, rfl⟩
  · exact refl s

theorem releaseCells (w p k : Nat) (chain : List Nat) : Quiet s (s.releaseCells w p k chain) := by
  rw [State.releaseCells]
  split
  · exact (freeCells w k chain).trans (detourBack p)
  · exact freeCells w k chain

theorem takeAgent (f : Frame) : Quiet s (s.takeAgent f) := by
  rw [State.takeAgent]
  split
  next => exact refl s
  next i rest _ => exact (modSw (s := s) (fun w => { w with agentQ := rest }) ⟨rfl, rfl, rfl, rfl, rfl⟩).trans (releaseCells _ _ _ _)

theorem touchShapers (p : Nat) : Quiet s (s.touchShapers p) := by
  unfold State.touchShapers State.touchShapersWith
  refine foldl _ (fun x c _ => ?_) s
  split
  · exact ⟨fun _ _ => rfl, rfl, rfl, rfl, rfl, rfl⟩
  · exact refl x

theorem touchSinks (p : Nat) : Quiet s (s.touchSinks p) := by
  unfold State.touchSinks
  split
  · exact refl s
  · refine foldl _ (fun x c _ => ?_) s
    dsimp only
    split
    · split
      · exact refl x
      · exact ⟨fun _ _ => rfl, rfl, rfl, rfl, rfl, rfl⟩
    · exact ⟨fun _ _ => rfl, rfl, rfl, rfl, rfl, rfl⟩

theorem shapersTouched (dests : List Dest) : Quiet s (s.shapersTouched dests) := by
  refine foldl dests (fun x d _ => ?_) s
  split
  · exact touchShapers _
  · exact refl x

theorem sinksTouched (dests : List Dest) : Quiet s (s.sinksTouched dests) := by
  refine foldl dests (fun x d _ => ?_) s
  split
  · exact touchSinks _
  · exact refl x

theorem qlenAdd (p c sub k : Nat) : Quiet s (s.qlenAdd p c sub k) := by
  rw [State.qlenAdd]
  split
  next hp => exact setFld (fun h => h.ne_qlen hp rfl) _
  next => exact refl s

theorem choice {k : Nat} (hk : k < 8) : Quiet s (s.choice k) :=
  of_regs within_choice (by decide) fun _ ho => State.reg_choice ho.offChoice hk

theorem pickPort (f : Frame) (a : Nat) (dirs : List Bool) (dlOf : Bool → Nat) : Quiet s (s.pickPort f a dirs dlOf).2 := by
  have hchoice : ∀ n : Nat, Quiet s (if 2 ≤ n then s.choice 0 else s) := by
    intro n
    split
    · exact choice (by decide)
    · exact refl s
  rw [State.pickPort]
  split
  · exact refl s
  · split
    · dsimp only
      split
      · exact (hchoice _).trans ⟨fun _ _ => rfl, rfl, rfl, rfl, rfl, rfl⟩
      · exact hchoice _
    · exact refl s

theorem startAxis (f : Frame) (dst a : Nat) : Quiet s (s.startAxis f dst a).2 := by
  have h := pickPort (s := s) f a (s.openDirs s.coord dst a true) (fun d => if s.crosses s.coord a d then 1 else 0)
  rw [State.startAxis]
  dsimp only
  split
  next heq => rw [heq] at h; exact h
  next heq => rw [heq] at h; exact h

theorem waystation (f : Frame) (dst b : Nat) : Quiet s (s.waystation f dst b).2 := by
  have h := pickPort (s := s) f b (s.openDirs s.coord dst b true) (fun d => if s.crosses s.coord b d then 1 else 0)
  rw [State.waystation]
  dsimp only
  split
  next heq => rw [heq] at h; exact h
  next heq =>
    rw [heq] at h
    split
    · split <;> exact h
    · split <;> exact h

theorem routeStart (f : Frame) (dst : Nat) (again : Bool) : Quiet s (s.routeStart f dst again).2 := by
  rw [State.routeStart]
  split
  · exact refl s
  · split
    · exact refl s
    · split
      · exact refl s
      · split
        · exact startAxis _ _ _
        · split
          · exact refl s
          · exact waystation _ _ _

theorem agentFate (f : Frame) : Quiet s (s.agentFate f).2 := by
  rw [State.agentFate]
  split
  · split
    · exact refl s
    · exact routeStart _ _ _
  · split
    · exact refl s
    · exact routeStart _ _ _

end Quiet

end Sys2Proof.Machine
end

section
/-! SUPPORT. Frames that the module's agents post stay posted, continued: where a frame goes, how it is placed, and what placing, handing over and
trying again keep (R79, R81, R86, R96, R118, R125). -/

-- Proofs are checked one at a time: side by side they would only wait for one another.
set_option Elab.async false

namespace Sys2Proof.Machine
open Sys2Proof

/-! ### Same routes -/

/-- Two states between which no agent's route differs. -/
structure Routes (s t : State) : Prop where
  reg : ∀ o, RouteReg o → t.reg o = s.reg o
  cables : t.sw.miscabled = s.sw.miscabled

namespace Routes

variable {s t u : State}

theorem refl (s : State) : Routes s s := ⟨fun _ _ => rfl, rfl⟩

theorem trans (h : Routes s t) (k : Routes t u) : Routes s u := ⟨fun o ho => (k.reg o ho).trans (h.reg o ho), k.cables.trans h.cables⟩

theorem fld (h : Routes s t) {f : Fld} (hf : RouteReg f.off) : t.fld f = s.fld f := State.fld_eq_of_reg (h.reg _ hf)

theorem flag (h : Routes s t) {f : Fld} (hf : RouteReg f.off) : t.flag f = s.flag f := State.flag_eq_of_reg (h.reg _ hf)

theorem coord (h : Routes s t) : t.coord = s.coord := h.fld routeReg_coord

theorem fence (h : Routes s t) (p : Nat) : t.regBit SW_FENCE p = s.regBit SW_FENCE p := by
  rw [State.regBit, h.reg _ routeReg_fence, State.regBit]

theorem dead (h : Routes s t) {c : Nat} (hc : c < 2048) : t.dead c = s.dead c := by
  rw [State.dead, State.regBit, h.reg _ (routeReg_dead hc), State.dead, State.regBit]

theorem portKind (h : Routes s t) (p : Nat) : t.portKind p = s.portKind p := by
  unfold State.portKind
  split
  next hp => exact h.fld (routeReg_port0 hp)
  next => rfl

theorem portUp (h : Routes s t) (p : Nat) : t.portUp p = s.portUp p := by
  unfold State.portUp
  by_cases hp : p < 256
  · rw [h.fld (f := LN_PORT_W2_STATE p) (routeReg_port2 hp)]
  · simp [hp]

theorem bundlePorts (h : Routes s t) (b : Nat) : t.bundlePorts b = s.bundlePorts b := by
  unfold State.bundlePorts
  simp only [h.portKind, h.portUp]

theorem bundleUp (h : Routes s t) (b : Nat) : t.bundleUp b = s.bundleUp b := by
  rw [State.bundleUp, h.bundlePorts, h.cables, State.bundleUp]

theorem axisSize (h : Routes s t) (a : Nat) : t.axisSize a = s.axisSize a := by
  unfold State.axisSize
  rw [h.fld (f := DV_COORD_SIZE_X_M1) routeReg_coord, h.fld (f := DV_COORD_SIZE_Y_M1) routeReg_coord,
    h.fld (f := DV_COORD_SIZE_Z_M1) routeReg_coord]

theorem hops (h : Routes s t) (c dst a : Nat) : t.hops c dst a = s.hops c dst a := by rw [State.hops, h.axisSize, State.hops]

theorem alongAxis (h : Routes s t) (c dst a : Nat) : t.alongAxis c dst a = s.alongAxis c dst a := by
  rw [State.alongAxis, h.hops, h.axisSize, State.alongAxis]

theorem axesTo (h : Routes s t) (c dst : Nat) : t.axesTo c dst = s.axesTo c dst := by
  unfold State.axesTo
  simp only [h.hops]

theorem firstAxis (h : Routes s t) (c dst : Nat) : t.firstAxis c dst = s.firstAxis c dst := by rw [State.firstAxis, h.axesTo, State.firstAxis]

theorem landing (h : Routes s t) (c dst : Nat) : t.landing c dst = s.landing c dst := by
  unfold State.landing
  simp only [h.axesTo, h.alongAxis]

theorem turnsOf (h : Routes s t) (c dst : Nat) : t.turnsOf c dst = s.turnsOf c dst := by
  unfold State.turnsOf
  simp only [h.axesTo, h.alongAxis]

theorem between (h : Routes s t) (c a : Nat) (plus : Bool) (d : Nat) : t.between c a plus d = s.between c a plus d := by
  rw [State.between, h.axisSize, State.between]

end Routes

theorem Quiet.routes {s t : State} (h : Quiet s t) : Routes s t := ⟨h.reg, h.cables⟩

theorem coord_lt (s : State) : s.coord < 2048 := s.fld_lt DV_COORD_COORD

theorem axisSize_pos (s : State) (a : Nat) : 0 < s.axisSize a := Nat.succ_pos _

theorem axisSize_le (s : State) (a : Nat) : s.axisSize a ≤ 16 := by
  have hx : s.fld DV_COORD_SIZE_X_M1 < 16 := s.fld_lt DV_COORD_SIZE_X_M1
  have hy : s.fld DV_COORD_SIZE_Y_M1 < 16 := s.fld_lt DV_COORD_SIZE_Y_M1
  have hz : s.fld DV_COORD_SIZE_Z_M1 < 8 := s.fld_lt DV_COORD_SIZE_Z_M1
  unfold State.axisSize
  split_ifs <;> omega

theorem axisSize_z_le (s : State) {a : Nat} (h0 : a ≠ 0) (h1 : a ≠ 1) : s.axisSize a ≤ 8 := by
  have hz : s.fld DV_COORD_SIZE_Z_M1 < 8 := s.fld_lt DV_COORD_SIZE_Z_M1
  rw [State.axisSize, if_neg h0, if_neg h1]
  omega

/-- A module on an axis of the torus has a coordinate of 11 bits. -/
theorem withAxis_lt (s : State) {c : Nat} (hc : c < 2048) (a v : Nat) : withAxis c a (v % s.axisSize a) < 2048 := by
  have hv : v % s.axisSize a < s.axisSize a := Nat.mod_lt _ (axisSize_pos s a)
  have h16 := axisSize_le s a
  unfold withAxis coordAxis
  by_cases h0 : a = 0
  · simp only [h0, if_true] at hv h16 ⊢
    omega
  · by_cases h1 : a = 1
    · simp only [h1, if_true, if_neg (by decide : ¬(1 : Nat) = 0)] at hv h16 ⊢
      omega
    · have h8 := axisSize_z_le s h0 h1
      simp only [h0, h1, if_false, if_neg (by decide : ¬(2 : Nat) = 0), if_neg (by decide : ¬(2 : Nat) = 1)]
      omega

theorem landing_lt (s : State) {c : Nat} (hc : c < 2048) (dst : Nat) : s.landing c dst < 2048 := by
  unfold State.landing
  exact List.foldlRecOn _ _ (motive := fun m : Nat => m < 2048) hc fun m hm a _ => withAxis_lt s hm a _

theorem Routes.segDead {s t : State} (h : Routes s t) {c : Nat} (hc : c < 2048) (a : Nat) (plus : Bool) (d : Nat) :
    t.segDead c a plus d = s.segDead c a plus d := by
  have hmem : ∀ m ∈ s.between c a plus d, t.dead m = s.dead m := by
    intro m hm
    obtain ⟨i, -, rfl⟩ := List.mem_map.1 hm
    exact h.dead (withAxis_lt s hc a _)
  unfold State.segDead
  rw [h.between, Bool.eq_iff_iff, List.any_eq_true, List.any_eq_true]
  exact exists_congr fun m => and_congr_right fun hm => by rw [hmem m hm]

theorem Routes.openDirs {s t : State} (h : Routes s t) {c : Nat} (hc : c < 2048) (dst a : Nat) (own : Bool) :
    t.openDirs c dst a own = s.openDirs c dst a own := by
  unfold State.openDirs
  simp only [h.hops, h.segDead hc, h.bundleUp]

/-! ### Frames that find their way -/

/-- An agent's frame to one place that it reaches: an endpoint port of this module, or another module on one axis (R81, R86, R96). -/
def Goes (s : State) (f : Frame) : Prop :=
  f.destKind = 3 ∧ ((f.dstCoord = s.coord ∧ f.kind ≠ 0x60 ∧ f.kind ≠ 0x72 ∧ Reachable s f.dstPort) ∨ (RouteTo s f.dstCoord ∧ f.spray ≠ 2))

theorem Reachable.routes {s t : State} {p : Nat} (h : Reachable s p) (hr : Routes s t) : Reachable t p := by
  obtain ⟨hp, hkind, hup, hfence⟩ := h
  exact ⟨hp, (hr.portKind p).trans hkind, (hr.portUp p).trans hup, (hr.fence p).trans hfence⟩

theorem RouteTo.routes {s t : State} {c : Nat} (h : RouteTo s c) (hr : Routes s t) : RouteTo t c := by
  obtain ⟨hopen, hdead, hturns, a, ha, hdirs⟩ := h
  have hc := hr.coord
  refine ⟨(hr.flag routeReg_coord).trans hopen, ?_, ?_, a, ?_, ?_⟩
  · rw [hc, hr.landing, hr.dead (landing_lt s (coord_lt s) c)]
    exact hdead
  · rw [hc, hr.turnsOf]
    exact hturns
  · rw [hc, hr.firstAxis]
    exact ha
  · rw [hc, hr.openDirs (coord_lt s)]
    exact hdirs

theorem Goes.routes {s t : State} {f : Frame} (h : Goes s f) (hr : Routes s t) : Goes t f := by
  obtain ⟨hkind, ⟨hdst, h60, h72, hport⟩ | ⟨hroute, hspray⟩⟩ := h
  · exact ⟨hkind, .inl ⟨hdst.trans hr.coord.symm, h60, h72, Reachable.routes hport hr⟩⟩
  · exact ⟨hkind, .inr ⟨RouteTo.routes hroute hr, hspray⟩⟩

theorem hops_self (s : State) (c a : Nat) : (s.hops c c a).1 = 0 := by
  have h : coordAxis c a + 16 * s.axisSize a - coordAxis c a = 16 * s.axisSize a := by omega
  simp [State.hops, h]

theorem firstAxis_self (s : State) (c : Nat) : s.firstAxis c c = none := by
  simp [State.firstAxis, State.axesTo, hops_self]

theorem firstAxis_le {s : State} {c dst a : Nat} (h : s.firstAxis c dst = some a) : a ≤ 2 := by
  have hmem : a ∈ s.axesTo c dst := List.mem_of_mem_head? (by rw [← State.firstAxis, h]; rfl)
  have h012 := (List.mem_filter.1 hmem).1
  simp at h012
  omega

theorem localFate_reachable {s : State} {f : Frame} (h60 : f.kind ≠ 0x60) (h72 : f.kind ≠ 0x72) {p : Nat} (hp : Reachable s p) :
    s.localFate f p = .go [⟨p, 0, 0, 3, false, p, none⟩] := by
  obtain ⟨hlt, hkind, hup, hfence⟩ := hp
  have hff : p ≠ 0xFF := by omega
  rw [State.localFate, if_neg (by simp [h60, h72]), if_neg (by simp [hff]), if_pos hlt, hfence, if_neg Bool.false_ne_true, if_pos ⟨hkind, hup⟩]

/-- The directions taken, the shorter one first, of those that are free (R81). -/
def dirsOf (dp dm : Nat) (okP okM : Bool) : List Bool :=
  if dp < dm then (if okP then [true] else if okM then [false] else [])
  else if dm < dp then (if okM then [false] else if okP then [true] else [])
  else (if okP then [true] else []) ++ (if okM then [false] else [])

theorem openDirs_eq (s : State) (c dst a : Nat) (own : Bool) :
    s.openDirs c dst a own = dirsOf (s.hops c dst a).1 (s.hops c dst a).2
      (!s.segDead c a true (s.hops c dst a).1 && (!own || s.bundleUp (bundleNo a true)))
      (!s.segDead c a false (s.hops c dst a).2 && (!own || s.bundleUp (bundleNo a false))) := rfl

theorem dirsOf_free {dp dm : Nat} {okP okM : Bool} : ∀ d ∈ dirsOf dp dm okP okM, (bif d then okP else okM) = true := by
  unfold dirsOf
  cases okP <;> cases okM <;> simp

theorem dirsOf_cases (dp dm : Nat) (okP okM : Bool) :
    dirsOf dp dm okP okM = [] ∨ (∃ d, dirsOf dp dm okP okM = [d]) ∨ dirsOf dp dm okP okM = [true, false] := by
  unfold dirsOf
  cases okP <;> cases okM <;> split_ifs <;> simp

/-- Every open direction's bundle is up. -/
theorem openDirs_up {s : State} {c dst a : Nat} : ∀ d ∈ s.openDirs c dst a true, s.bundleUp (bundleNo a d) = true := by
  intro d hd
  rw [openDirs_eq] at hd
  have h := dirsOf_free d hd
  cases d with
  | true => simpa using (Bool.and_eq_true_iff.1 h).2
  | false => simpa using (Bool.and_eq_true_iff.1 h).2

theorem bundlePorts_lt {s : State} {b p : Nat} (hb : b ≤ 5) (h : p ∈ s.bundlePorts b) : p < 256 := by
  obtain ⟨j, hj, rfl⟩ := List.mem_map.1 (List.mem_filter.1 h).1
  have := List.mem_range.1 hj
  omega

theorem portByLane_mem {ws : List (Nat × Nat)} (h : ws ≠ []) (x : Nat) : portByLane ws x ∈ ws.map (·.1) := by
  induction ws generalizing x with
  | nil => exact absurd rfl h
  | cons w ws ih =>
    obtain ⟨p, k⟩ := w
    cases ws with
    | nil => simp [portByLane]
    | cons w' ws' =>
      rw [portByLane]
      · split
        · simp
        · exact List.mem_cons_of_mem _ (ih (by simp) _)
      · simp

/-- The trunk port of a direction that a frame takes which is not adaptive (R84). -/
def State.trunkIn (s : State) (f : Frame) (a : Nat) (d : Bool) : Nat :=
  let ws := (s.bundlePorts (bundleNo a d)).map (fun p => (p, s.portLanes p))
  if f.spray = 1 then portByLane ws (s.routeHash f % 2 ^ 24 % ws.foldl (fun t x => t + x.2) 0) else (s.bundlePorts (bundleNo a d)).headD 0

theorem trunkIn_mem {s : State} {f : Frame} {a : Nat} {d : Bool} (h : s.bundlePorts (bundleNo a d) ≠ []) :
    s.trunkIn f a d ∈ s.bundlePorts (bundleNo a d) := by
  unfold State.trunkIn
  dsimp only
  split
  · have hmem := fun x => portByLane_mem (ws := (s.bundlePorts (bundleNo a d)).map (fun p => (p, s.portLanes p))) (by simpa using h) x
    simpa [List.map_map, Function.comp_def] using hmem _
  · cases hl : s.bundlePorts (bundleNo a d) with
    | nil => exact absurd hl h
    | cons p ps => simp

theorem bundlePorts_ne_nil {s : State} {b : Nat} (h : s.bundleUp b = true) : s.bundlePorts b ≠ [] := by
  unfold State.bundleUp at h
  simp only [Bool.and_eq_true, Bool.not_eq_true', List.isEmpty_eq_false_iff] at h
  exact h.1

/-- Out of open directions a frame that is not adaptive is given a trunk port of one of them. -/
theorem pickPort_up {s : State} {f : Frame} {a : Nat} {dirs : List Bool} {dlOf : Bool → Nat} (hspray : f.spray ≠ 2)
    (hdirs : (∃ d, dirs = [d]) ∨ dirs = [true, false]) (hup : ∀ d ∈ dirs, s.bundleUp (bundleNo a d) = true) :
    ∃ d p, p ∈ s.bundlePorts (bundleNo a d) ∧ s.pickPort f a dirs dlOf = (some (d, p), s) := by
  have htaken : ∀ d ∈ dirs, (if (s.bundlePorts (bundleNo a d)).isEmpty then none else some (d, s.trunkIn f a d), s) =
      (some (d, s.trunkIn f a d), s) := by
    intro d hd
    rw [if_neg (by simpa using bundlePorts_ne_nil (hup d hd))]
  obtain ⟨d, rfl⟩ | rfl := hdirs
  · refine ⟨d, s.trunkIn f a d, trunkIn_mem (bundlePorts_ne_nil (hup d (by simp))), ?_⟩
    rw [State.pickPort, if_neg (by simp), if_neg hspray]
    exact htaken d (by simp)
  · have hboth : ∀ d : Bool, d ∈ [true, false] := by decide
    generalize hd : (if f.spray = 1 then decide (s.routeHash f < 2 ^ 31) else true) = d
    refine ⟨d, s.trunkIn f a d, trunkIn_mem (bundlePorts_ne_nil (hup d (hboth d))), ?_⟩
    rw [State.pickPort, if_neg (by simp), if_neg hspray]
    dsimp only
    rw [hd]
    exact htaken d (hboth d)

/-- The fate of a frame that finds its way is one place at a port. -/
theorem Goes.fate {s : State} {f : Frame} (h : Goes s f) : ∃ d : Dest, d.out < 256 ∧ s.agentFate f = (.go [d], s) := by
  obtain ⟨hkind, h⟩ := h
  have hstart : s.agentFate f = s.routeStart f f.dstCoord := by
    rw [State.agentFate, if_neg (by omega), if_neg (by omega)]
  rw [hstart, State.routeStart]
  obtain ⟨hdst, h60, h72, hport⟩ | ⟨⟨hopen, hdead, hturns, a, ha, hdirs⟩, hspray⟩ := h
  · refine ⟨⟨f.dstPort, 0, 0, 3, false, f.dstPort, none⟩, by obtain ⟨hp, -⟩ := hport; exact lt_trans hp (by decide), ?_⟩
    have hlocal := localFate_reachable (f := f) h60 h72 hport
    rw [hdst, firstAxis_self]
    split
    · rw [if_pos rfl, hlocal]
    · exact congrArg (·, s) hlocal
  · have hcases : (∃ d, s.openDirs s.coord f.dstCoord a true = [d]) ∨ s.openDirs s.coord f.dstCoord a true = [true, false] :=
      (dirsOf_cases _ _ _ _).resolve_left hdirs
    obtain ⟨d, p, hp, hpick⟩ := pickPort_up (dlOf := fun d => if s.crosses s.coord a d then 1 else 0) hspray hcases
      openDirs_up
    have hb : bundleNo a d ≤ 5 := by
      have := firstAxis_le ha
      unfold bundleNo
      split <;> omega
    refine ⟨⟨p, if s.crosses s.coord a d then 1 else 0, if s.crosses s.coord a d then 1 else 0, a, false, f.dstPort, none⟩, bundlePorts_lt hb hp, ?_⟩
    rw [hopen, if_neg Bool.false_ne_true, ha]
    dsimp only
    rw [if_neg (by simp [hdead, hdirs, State.turnsOpen, hturns]), hturns, List.find?_nil, State.startAxis, hpick]

end Sys2Proof.Machine
end

section
/-! SUPPORT. Frames that the module's agents post stay posted, continued: what placing, handing over and trying again keep (R79, R113, R118,
R125). -/

-- Proofs are checked one at a time: side by side they would only wait for one another.
set_option Elab.async false

namespace Sys2Proof.Machine
open Sys2Proof

/-! ### Frames that stand -/

/-- A copy bound for an agent is numbered below the next frame. -/
def Numbered (s : State) : Prop := ∀ c ∈ s.sw.copies, 256 ≤ c.out → c.desc < s.sw.nextId

theorem Calm.numbered {s : State} (h : Calm s) : Numbered s := fun c hc hout => absurd (h.2 c hc) (by omega)

/-- The frame stands in the switch under the number `n`, with a copy, and every copy of it is bound for a port. -/
structure StandsAs (s : State) (f : Frame) (n : Nat) : Prop where
  desc : ∃ d ∈ s.sw.descs, d.frame = f ∧ d.id = n
  below : n < s.sw.nextId
  copy : ∃ c ∈ s.sw.copies, c.desc = n
  ports : ∀ c ∈ s.sw.copies, c.desc = n → c.out < 256

/-- The frame stands in the switch, or waits at an agent to go its way. -/
def Posted (s : State) (f : Frame) : Prop := (∃ n, StandsAs s f n) ∨ (Goes s f ∧ ∃ a, (a, f, []) ∈ s.sw.agentWait)

theorem Posted.sent {s : State} {f : Frame} (h : Posted s f) {P : Frame → Bool} (hP : P f = true) : Sent s P := by
  obtain ⟨n, ⟨d, hd, rfl, -⟩, -, -, -⟩ | ⟨-, a, ha⟩ := h
  · exact ⟨d.frame, List.mem_append_left _ (List.mem_map_of_mem hd), hP⟩
  · exact ⟨f, List.mem_append_right _ (List.mem_map_of_mem (f := fun w : Nat × Frame × List Dest => w.2.1) ha), hP⟩

/-- No frame that stands or waits is lost between two states, and no route differs. -/
structure Keeps (s t : State) : Prop where
  routes : Routes s t
  numbered : Numbered s → Numbered t
  stands : ∀ f n, StandsAs s f n → StandsAs t f n
  waits : ∀ w ∈ s.sw.agentWait, w ∈ t.sw.agentWait

/-- Every posted frame is posted still, and no route differs. -/
structure Carries (s t : State) : Prop where
  routes : Routes s t
  numbered : Numbered s → Numbered t
  posted : Numbered s → ∀ f, Posted s f → Posted t f

theorem Quiet.standsAs {s t : State} (h : Quiet s t) {f : Frame} {n : Nat} (hf : StandsAs s f n) : StandsAs t f n := by
  obtain ⟨hdesc, hbelow, hcopy, hports⟩ := hf
  exact ⟨by rwa [h.descs], by rwa [h.nextId], by rwa [h.copies], by rwa [h.copies]⟩

theorem Quiet.keeps {s t : State} (h : Quiet s t) : Keeps s t :=
  ⟨h.routes, fun hn => by unfold Numbered; rwa [h.copies, h.nextId], fun _ _ hf => h.standsAs hf, fun w hw => h.waits ▸ hw⟩

namespace Keeps

variable {s t u : State}

theorem refl (s : State) : Keeps s s := (Quiet.refl s).keeps

theorem trans (h : Keeps s t) (k : Keeps t u) : Keeps s u :=
  ⟨h.routes.trans k.routes, fun hn => k.numbered (h.numbered hn), fun f n hf => k.stands f n (h.stands f n hf), fun w hw => k.waits w (h.waits w hw)⟩

theorem foldl {α : Type} {g : State → α → State} (l : List α) (h : ∀ x, ∀ a ∈ l, Keeps x (g x a)) (s : State) : Keeps s (l.foldl g s) :=
  List.foldlRecOn l g (motive := fun x => Keeps s x) (refl s) fun x hx a ha => hx.trans (h x a ha)

theorem posted (h : Keeps s t) {f : Frame} (hf : Posted s f) : Posted t f := by
  obtain ⟨n, hn⟩ | ⟨hgoes, a, ha⟩ := hf
  · exact .inl ⟨n, h.stands f n hn⟩
  · exact .inr ⟨hgoes.routes h.routes, a, h.waits _ ha⟩

theorem carries (h : Keeps s t) : Carries s t := ⟨h.routes, h.numbered, fun _ _ hf => h.posted hf⟩

end Keeps

namespace Carries

variable {s t u : State}

theorem refl (s : State) : Carries s s := (Keeps.refl s).carries

theorem trans (h : Carries s t) (k : Carries t u) : Carries s u :=
  ⟨h.routes.trans k.routes, fun hn => k.numbered (h.numbered hn), fun hn f hf => k.posted (h.numbered hn) f (h.posted hn f hf)⟩

theorem foldl {α : Type} {g : State → α → State} (l : List α) (h : ∀ x, ∀ a ∈ l, Carries x (g x a)) (s : State) : Carries s (l.foldl g s) :=
  List.foldlRecOn l g (motive := fun x => Carries s x) (refl s) fun x hx a ha => hx.trans (h x a ha)

end Carries

theorem Quiet.carries {s t : State} (h : Quiet s t) : Carries s t := h.keeps.carries

/-! ### A frame is enqueued -/

/-- Copies are added to the switch. -/
def State.addCopies (s : State) (l : List Copy) : State := s.modSw (fun w => { w with copies := w.copies ++ l })

theorem Quiet.addCopies {s t : State} (h : Quiet s t) (l : List Copy) : Quiet (s.addCopies l) (t.addCopies l) :=
  ⟨h.reg, h.cables, h.nextId, h.descs, congrArg (· ++ l) h.copies, h.waits⟩

theorem addCopies_append (s : State) (l m : List Copy) : (s.addCopies l).addCopies m = s.addCopies (l ++ m) := by
  simp only [State.addCopies, State.modSw, List.append_assoc]

/-- The copy that `addCopy` makes. -/
def State.copyFor (s : State) (id vc : Nat) (mcast held : Bool) (d : Dest) : Copy :=
  ⟨id, d.out, vc, d.sub, d.dl, d.dim, d.detour, d.dstPort, s.free, s.queueClear d.out vc d.sub, false, mcast, held, d.slot⟩

theorem addCopy_eq (s : State) (id vc cells : Nat) (mcast held : Bool) (d : Dest) :
    s.addCopy id vc cells mcast held d = (s.addCopies [s.copyFor id vc mcast held d]).qlenAdd d.out vc d.sub cells := rfl

theorem Quiet.copyBar {s : State} {many : Bool} {d : Dest} {ctr : Nat} {u : State} (h : u.copyBar many d = some ctr) : Quiet s (s.count ctr) := by
  refine Quiet.count fun hr => hr.ne_drop (ctr := ctr) ?_ rfl
  unfold State.copyBar at h
  split_ifs at h <;> cases h <;> decide

/-- Queueing copies adds copies of one frame, and leaves everything else of the frames in the switch alone. -/
theorem copiesQueued_quiet (f : Frame) (id cells : Nat) (held : Bool) (dests : List Dest) (s : State) :
    ∃ l : List Copy, (∀ c ∈ l, c.desc = id) ∧ Quiet (s.addCopies l) (s.copiesQueued f id cells dests held) := by
  refine List.foldlRecOn dests _ (motive := fun x : State => ∃ l : List Copy, (∀ c ∈ l, c.desc = id) ∧ Quiet (s.addCopies l) x)
    ⟨[], by simp, ⟨fun _ _ => rfl, rfl, rfl, rfl, (List.append_nil _).symm, rfl⟩⟩ fun x ⟨l, hl, hx⟩ d _ => ?_
  split
  next ctr hctr =>
    refine ⟨l, hl, hx.trans ?_⟩
    split at hctr
    · exact Quiet.copyBar hctr
    · cases hctr
  next =>
    refine ⟨l ++ [x.copyFor id f.vc (decide (2 ≤ dests.length)) (held && decide (d.out < 64)) d], ?_, ?_⟩
    · intro c hc
      obtain hc | hc := List.mem_append.1 hc
      · exact hl c hc
      · rw [List.mem_singleton.1 hc]
        rfl
    · rw [← addCopies_append, addCopy_eq]
      exact (hx.addCopies _).trans (Quiet.qlenAdd _ _ _ _)

/-- A frame to one place has one copy. -/
theorem copiesQueued_one {s : State} {f : Frame} {id cells : Nat} {held : Bool} {d : Dest} (hkind : f.destKind ≠ 2) :
    s.copiesQueued f id cells [d] held = s.addCopy id f.vc cells false (held && decide (d.out < 64)) d := by
  simp [State.copiesQueued, hkind]

/-- The switch with a frame under the next number and copies of it. -/
def State.framed (s : State) (d : Desc) (l : List Copy) : State :=
  s.modSw (fun w => { w with nextId := s.sw.nextId + 1, descs := w.descs ++ [d], copies := w.copies ++ l })

theorem framed_keeps {s : State} {d : Desc} {l : List Copy} (hl : ∀ c ∈ l, c.desc = s.sw.nextId) : Keeps s (s.framed d l) := by
  refine ⟨⟨fun _ _ => rfl, rfl⟩, ?_, ?_, fun w hw => hw⟩
  · intro hn c hc hout
    refine Nat.lt_succ_iff.2 ?_
    obtain hc | hc := List.mem_append.1 hc
    · exact le_of_lt (hn c hc hout)
    · exact le_of_eq (hl c hc)
  · rintro f n ⟨⟨x, hx, hxf, hxn⟩, hbelow, ⟨c, hc, hcn⟩, hports⟩
    refine ⟨⟨x, List.mem_append_left _ hx, hxf, hxn⟩, Nat.lt_succ_of_lt hbelow, ⟨c, List.mem_append_left _ hc, hcn⟩, ?_⟩
    intro y hy hyn
    obtain hy | hy := List.mem_append.1 hy
    · exact hports y hy hyn
    · have := hl y hy
      omega

/-- A frame to a port that is placed in the switch stands there. -/
theorem framed_stands {s : State} (hn : Numbered s) {d : Desc} (hd : d.id = s.sw.nextId) {c : Copy} (hc : c.desc = s.sw.nextId) (hout : c.out < 256) :
    StandsAs (s.framed d [c]) d.frame s.sw.nextId := by
  refine ⟨⟨d, List.mem_append_right _ (List.mem_singleton_self d), rfl, hd⟩, Nat.lt_succ_self _,
    ⟨c, List.mem_append_right _ (List.mem_singleton_self c), hc⟩, ?_⟩
  intro y hy hyn
  obtain hy | hy := List.mem_append.1 hy
  · by_contra hge
    have := hn y hy (by omega)
    omega
  · rw [List.mem_singleton.1 hy]
    exact hout

theorem Keeps.reap {s : State} (id : Nat) : Keeps s (s.reap id) := by
  rw [State.reap]
  split
  next => exact Keeps.refl s
  next hnone =>
    split
    next => exact Keeps.refl s
    next d _ =>
      refine (Quiet.releaseCells d.owner d.inPort d.cells d.chain).keeps.trans ?_
      have hcopies := (Quiet.releaseCells (s := s) d.owner d.inPort d.cells d.chain).copies
      generalize s.releaseCells d.owner d.inPort d.cells d.chain = x at hcopies ⊢
      refine ⟨⟨fun _ _ => rfl, rfl⟩, fun hn => hn, ?_, fun w hw => hw⟩
      rintro f n ⟨⟨y, hy, hyf, hyn⟩, hbelow, ⟨c, hc, hcn⟩, hports⟩
      refine ⟨⟨y, List.mem_filter.2 ⟨hy, ?_⟩, hyf, hyn⟩, hbelow, ⟨c, hc, hcn⟩, hports⟩
      simp only [Bool.or_eq_true, List.any_eq_true, beq_iff_eq, not_or, not_exists, not_and] at hnone
      have hne := hnone.1 c (hcopies ▸ hc)
      simp only [bne_iff_ne, ne_eq]
      rw [hyn, ← hcn]
      exact hne

/-- Enqueueing a frame adds it under the next number, with copies of it. -/
theorem enqueue_framed (s : State) (f : Frame) (inPort owner cells : Nat) (eth : Option (List Byte)) (dests : List Dest) (held : Bool) :
    ∃ (d : Desc) (l : List Copy) (x : State), (d.frame = f ∧ d.id = s.sw.nextId) ∧ (∀ c ∈ l, c.desc = s.sw.nextId) ∧ Quiet (s.framed d l) x ∧
      s.enqueue f inPort owner cells true eth dests held = x.reap s.sw.nextId ∧
      (f.destKind ≠ 2 → ∀ p, dests = [p] → ∃ c, l = [c] ∧ c.out = p.out) := by
  have hshape := Quiet.shapersTouched (s := s) dests
  have hq : ∀ y : State, Quiet s y → ∃ d : Desc, (d.frame = f ∧ d.id = s.sw.nextId) ∧
      ∀ l, Quiet (s.framed d l) ((y.stored f inPort owner cells true eth s.sw.nextId).addCopies l) := by
    intro y hy
    exact ⟨⟨s.sw.nextId, f, inPort, owner, cells, y.sw.hand, true, eth⟩, ⟨rfl, rfl⟩, fun l =>
      ⟨hy.reg, hy.cables, rfl, congrArg (· ++ _) hy.descs, congrArg (· ++ l) hy.copies, hy.waits⟩⟩
  obtain ⟨d, hd, hstored⟩ := hq _ hshape
  by_cases hone : f.destKind ≠ 2 ∧ ∃ p, dests = [p]
  · obtain ⟨hkind, p, rfl⟩ := hone
    generalize hy : (s.shapersTouched [p]).stored f inPort owner cells true eth s.sw.nextId = y at hstored
    refine ⟨d, [y.copyFor s.sw.nextId f.vc false (held && decide (p.out < 64)) p],
      (y.copiesQueued f s.sw.nextId cells [p] held).sinksTouched [p], hd, ?_, ?_, by rw [State.enqueue_eq, if_pos rfl, hy], fun _ p' hp' => ⟨_, rfl, ?_⟩⟩
    · intro c hc
      rw [List.mem_singleton.1 hc]
      rfl
    · refine Quiet.trans ?_ (Quiet.sinksTouched [p])
      rw [copiesQueued_one hkind, addCopy_eq]
      exact (hstored _).trans (Quiet.qlenAdd _ _ _ _)
    · obtain rfl : p = p' := by simpa using hp'
      rfl
  · obtain ⟨l, hl, hqueued⟩ := copiesQueued_quiet f s.sw.nextId cells held dests
      ((s.shapersTouched dests).stored f inPort owner cells true eth s.sw.nextId)
    exact ⟨d, l, _, hd, hl, ((hstored l).trans hqueued).trans (Quiet.sinksTouched dests), by rw [State.enqueue_eq, if_pos rfl],
      fun hkind p hp => absurd ⟨hkind, p, hp⟩ hone⟩

theorem Keeps.enqueue {s : State} (f : Frame) (inPort owner cells : Nat) (eth : Option (List Byte)) (dests : List Dest) (held : Bool) :
    Keeps s (s.enqueue f inPort owner cells true eth dests held) := by
  obtain ⟨d, l, x, -, hl, hx, he, -⟩ := enqueue_framed s f inPort owner cells eth dests held
  rw [he]
  exact ((framed_keeps hl).trans hx.keeps).trans (Keeps.reap _)

theorem enqueue_stands {s : State} (hn : Numbered s) {f : Frame} (hkind : f.destKind ≠ 2) {p : Dest} (hp : p.out < 256) (inPort owner cells : Nat)
    (eth : Option (List Byte)) (held : Bool) : Posted (s.enqueue f inPort owner cells true eth [p] held) f := by
  obtain ⟨d, l, x, ⟨rfl, hid⟩, hl, hx, he, hone⟩ := enqueue_framed s f inPort owner cells eth [p] held
  obtain ⟨c, rfl, hc⟩ := hone hkind p rfl
  rw [he]
  exact .inl ⟨_, (Keeps.reap _).stands _ _ (hx.standsAs (framed_stands hn hid (hl c (by simp)) (by omega)))⟩

/-! ### Agents take frames over -/

theorem handOver_keeps {s : State} {c : Copy} {f : Frame} {n : Nat} (hne : c.desc ≠ n) (h : StandsAs s f n) : StandsAs (s.handOver c) f n := by
  rw [State.handOver]
  split
  next => exact h
  next d hd =>
    obtain ⟨⟨x, hx, hxf, hxn⟩, hbelow, ⟨y, hy, hyn⟩, hports⟩ := h
    have hid : d.id = c.desc := by simpa using List.find?_some hd
    refine ⟨⟨x, List.mem_filter.2 ⟨hx, ?_⟩, hxf, hxn⟩, hbelow, ⟨y, ?_, hyn⟩, fun z hz => hports z (List.mem_of_mem_erase hz)⟩
    · simp only [bne_iff_ne, ne_eq]
      rw [hxn, hid]
      exact fun e => hne e.symm
    · exact (List.mem_erase_of_ne (fun e => hne (by rw [← e, hyn]))).2 hy

theorem handOver_rest (s : State) (c : Copy) : (∀ o, (s.handOver c).reg o = s.reg o) ∧ (s.handOver c).sw.miscabled = s.sw.miscabled ∧
    (s.handOver c).sw.agentWait = s.sw.agentWait ∧ (Numbered s → Numbered (s.handOver c)) := by
  rw [State.handOver]
  split
  · exact ⟨fun _ => rfl, rfl, rfl, id⟩
  · exact ⟨fun _ => rfl, rfl, rfl, fun hn y hy hout => hn y (List.mem_of_mem_erase hy) hout⟩

/-- Only copies bound for agents are handed over. -/
theorem Keeps.handOvers {s : State} {l : List Copy} (hl : ∀ f n, StandsAs s f n → ∀ c ∈ l, c.desc ≠ n) :
    Keeps s (l.foldl (fun s c => if s.agentTakes c then s.handOver c else s) s) := by
  have hrest : ∀ x : State, Routes s x ∧ (Numbered s → Numbered x) ∧ x.sw.agentWait = s.sw.agentWait → ∀ c : Copy,
      Routes s (x.handOver c) ∧ (Numbered s → Numbered (x.handOver c)) ∧ (x.handOver c).sw.agentWait = s.sw.agentWait := by
    rintro x ⟨hr, hn, hw⟩ c
    obtain ⟨hreg, hcables, hwaits, hnum⟩ := handOver_rest x c
    exact ⟨hr.trans ⟨fun o _ => hreg o, hcables⟩, fun h => hnum (hn h), hwaits.trans hw⟩
  have h := List.foldlRecOn l (fun (x : State) c => if x.agentTakes c then x.handOver c else x)
    (motive := fun x : State => (Routes s x ∧ (Numbered s → Numbered x) ∧ x.sw.agentWait = s.sw.agentWait) ∧ ∀ f n, StandsAs s f n → StandsAs x f n)
    ⟨⟨Routes.refl s, id, rfl⟩, fun _ _ hf => hf⟩ fun x ⟨hx, hstands⟩ c hc => by
      split
      · exact ⟨hrest x hx c, fun f n hf => handOver_keeps (hl f n hf c hc) (hstands f n hf)⟩
      · exact ⟨hx, hstands⟩
  obtain ⟨⟨hr, hn, hw⟩, hstands⟩ := h
  exact ⟨hr, hn, hstands, fun w hmem => hw ▸ hmem⟩

theorem Keeps.handOverAll {s : State} : Keeps s s.handOverAll := by
  refine Keeps.handOvers fun f n hf c hc hcn => ?_
  obtain ⟨v, -, hc⟩ := List.mem_flatMap.1 hc
  obtain ⟨hmem, hout⟩ := List.mem_filter.1 hc
  have := hf.ports c hmem hcn
  simp at hout
  omega

/-! ### Agents place frames, and try again -/

theorem Keeps.waitMore {s : State} (w : Nat × Frame × List Dest) : Keeps s (s.modSw (fun x => { x with agentWait := x.agentWait ++ [w] })) :=
  ⟨⟨fun _ _ => rfl, rfl⟩, fun hn => hn, fun _ _ hf => ⟨hf.desc, hf.below, hf.copy, hf.ports⟩, fun _ hw => List.mem_append_left _ hw⟩

/-- What an agent's frame to given places does. -/
def State.placed (s : State) (a : Nat) (f : Frame) (places dests : List Dest) : State :=
  if s.claimOk (agentOwner a f.vc) (frameCells f) then ((s.takeCells (agentOwner a f.vc) (frameCells f)).enqueue (s.addressed f) (256 + a)
    (agentOwner a f.vc) (frameCells f) true none dests false).handOverAll
  else s.modSw (fun w => { w with agentWait := w.agentWait ++ [(a, f, places)] })

theorem Keeps.placed {s : State} (a : Nat) (f : Frame) (places dests : List Dest) : Keeps s (s.placed a f places dests) := by
  rw [State.placed]
  split
  · exact ((Quiet.takeCells _ _).keeps.trans (Keeps.enqueue _ _ _ _ _ _ _)).trans Keeps.handOverAll
  · exact Keeps.waitMore _

theorem Keeps.agentPlace {s : State} (a : Nat) (f : Frame) (places : List Dest) : Keeps s (s.agentPlace a f places) := by
  have hfate : Quiet s (if places.isEmpty then s.agentFate f else (.go places, s)).2 := by
    split
    · exact Quiet.agentFate f
    · exact Quiet.refl s
  rw [State.agentPlace]
  split
  next dests s' heq =>
    rw [heq] at hfate
    dsimp only
    split
    · exact hfate.keeps
    · exact hfate.keeps.trans (Keeps.placed a f places dests)
  next st s' heq =>
    rw [heq] at hfate
    exact hfate.keeps.trans (Quiet.count fun hr => hr.ne_refusal st rfl).keeps
  next ctr s' heq =>
    have hctr : ctr = SW_DROP_RANK := by
      split at heq
      · exact agentFate_drop heq
      · cases heq
    rw [heq] at hfate
    exact hfate.keeps.trans (Quiet.count fun hr => hr.ne_drop (.inr (by rw [hctr]; decide)) rfl).keeps
  next s' heq =>
    rw [heq] at hfate
    exact hfate.keeps

/-- A frame that finds its way is posted. -/
theorem Goes.agentPlace {s : State} {f : Frame} (h : Goes s f) (hn : Numbered s) (a : Nat) : Posted (s.agentPlace a f []) f := by
  obtain ⟨d, hd, hfate⟩ := h.fate
  have hkind : f.destKind ≠ 2 := by rw [h.1]; decide
  have haddr : ∀ x : State, x.addressed f = f := fun x => by rw [State.addressed, if_neg (by rw [h.1]; decide)]
  have hplaced : s.agentPlace a f [] = s.placed a f [] [d] := by
    simp only [State.agentPlace, List.isEmpty_nil, if_true, hfate, List.isEmpty_cons, Bool.false_eq_true, if_false, State.placed]
  rw [hplaced, State.placed]
  split
  · rw [haddr]
    exact Keeps.handOverAll.posted (enqueue_stands ((Quiet.takeCells _ _).keeps.numbered hn) hkind hd _ _ _ _ _)
  · exact .inr ⟨h.routes ⟨fun _ _ => rfl, rfl⟩, a, List.mem_append_right _ (List.mem_singleton_self _)⟩

/-- No frame waits at an agent. -/
def State.noWaits (s : State) : State := s.modSw (fun w => { w with agentWait := [] })

theorem retryAgents_eq (s : State) :
    s.retryAgents = (s.sw.agentWait.foldl (fun s y => s.agentPlace y.1 y.2.1 y.2.2) s.noWaits).handOverAll := rfl

/-- Trying the waiting frames again loses none that finds its way. -/
theorem Carries.retryAgents {s : State} : Carries s s.retryAgents := by
  have hfold : ∀ (l : List (Nat × Frame × List Dest)) (x : State),
      Keeps x (l.foldl (fun s y => s.agentPlace y.1 y.2.1 y.2.2) x) := fun l x => Keeps.foldl l (fun y w _ => Keeps.agentPlace _ _ _) x
  have hposts : ∀ (l : List (Nat × Frame × List Dest)) (x : State) (a : Nat) (f : Frame), (a, f, []) ∈ l → Goes x f → Numbered x →
      Posted (l.foldl (fun s y => s.agentPlace y.1 y.2.1 y.2.2) x) f := by
    intro l
    induction l with
    | nil => simp
    | cons w l ih =>
      intro x a f hmem hgoes hn
      obtain rfl | hmem := List.mem_cons.1 hmem
      · exact (hfold l _).posted (hgoes.agentPlace hn a)
      · have hk : Keeps x (x.agentPlace w.1 w.2.1 w.2.2) := Keeps.agentPlace _ _ _
        exact ih _ a f hmem (hgoes.routes hk.routes) (hk.numbered hn)
  have hcleared : ∀ f n, StandsAs s f n → StandsAs s.noWaits f n := fun _ _ hf => ⟨hf.desc, hf.below, hf.copy, hf.ports⟩
  have hr : Routes s s.noWaits := ⟨fun _ _ => rfl, rfl⟩
  have hk := hfold s.sw.agentWait s.noWaits
  have hall := Keeps.handOverAll (s := s.sw.agentWait.foldl (fun s y => s.agentPlace y.1 y.2.1 y.2.2) s.noWaits)
  rw [retryAgents_eq]
  refine ⟨(hr.trans hk.routes).trans hall.routes, fun hn => hall.numbered (hk.numbered hn), ?_⟩
  rintro hn f (⟨n, hf⟩ | ⟨hgoes, a, ha⟩)
  · exact hall.posted (hk.posted (.inl ⟨n, hcleared f n hf⟩))
  · exact hall.posted (hposts _ _ a f ha (hgoes.routes hr) hn)

/-! ### Agents send -/

/-- The frame as an agent sends it (R80, R85). -/
def State.asSent (s : State) (a : Nat) (f : Frame) : Frame :=
  { f with srcCoord := s.coord, srcPort := portOfAgent a, dl := 0, dim := 3, detour := false, colour := 0,
           spray := s.sprayOf { f with srcCoord := s.coord, srcPort := portOfAgent a, dl := 0, dim := 3, detour := false, colour := 0 } }

theorem agentSend_eq (s : State) (a : Nat) (f : Frame) : s.agentSend a f = s.agentPlace a (s.asSent a f) [] := rfl

theorem Keeps.agentSend {s : State} (a : Nat) (f : Frame) : Keeps s (s.agentSend a f) := Keeps.agentPlace _ _ _

theorem Keeps.agentCast {s : State} (a : Nat) (f : Frame) (places : List Dest) : Keeps s (s.agentCast a f places) := Keeps.agentPlace _ _ _

theorem sprayOf_ne_two {s : State} {f : Frame} (h : f.destKind = 3) : s.sprayOf f ≠ 2 := by
  rw [State.sprayOf, if_neg (by omega)]
  split
  · decide
  · rw [if_pos (by omega)]
    decide

/-- A frame that an agent sends to an endpoint port of this module that it reaches is posted. -/
theorem posted_local {s : State} (hn : Numbered s) (a : Nat) {f : Frame} (hkind : f.destKind = 3) (hdst : f.dstCoord = s.coord) (h60 : f.kind ≠ 0x60)
    (h72 : f.kind ≠ 0x72) (hport : Reachable s f.dstPort) : Posted (s.agentSend a f) (s.asSent a f) :=
  Goes.agentPlace (f := s.asSent a f) ⟨hkind, .inl ⟨hdst, h60, h72, hport⟩⟩ hn a

/-- A frame that an agent sends to another module on one axis is posted. -/
theorem posted_away {s : State} (hn : Numbered s) (a : Nat) {f : Frame} (hkind : f.destKind = 3) (hdst : RouteTo s f.dstCoord) :
    Posted (s.agentSend a f) (s.asSent a f) :=
  Goes.agentPlace (f := s.asSent a f) ⟨hkind, .inr ⟨hdst, sprayOf_ne_two hkind⟩⟩ hn a

/-- A reply to an endpoint port of this module is posted. -/
theorem posted_reply {s : State} (hn : Numbered s) (a : Nat) {f : Frame} {kind : Nat} {p : List Byte} (hdst : f.srcCoord = s.coord)
    (hport : Reachable s f.srcPort) (h60 : kind ≠ 0x60) (h72 : kind ≠ 0x72) :
    Posted (s.agentSend a (replyTo f kind p)) (s.asSent a (replyTo f kind p)) :=
  posted_local hn a (f := replyTo f kind p) rfl hdst h60 h72 hport

end Sys2Proof.Machine
end

section
/-! PROOF. O22, the register writes: a write that no rule gives a further effect is the plain write, whose fields follow the register map. -/

-- Proofs are checked one at a time: side by side they would only wait for one another.
set_option Elab.async false

namespace Sys2Proof.Machine
open Sys2Proof

/-! ### Register writes (R11, R13, R14) -/

theorem store_routeCtrl (s : State) (v : Nat) : s.store SW_ROUTE_CTRL v = .next (s.writePlain SW_ROUTE_CTRL v) := rfl

theorem storeHigh_routeCtrl (s : State) (v : Nat) : s.storeHigh SW_ROUTE_CTRL v = none := rfl

theorem store_inputEvent (s : State) (v : Nat) : s.store PH_INPUT_EVENT v = .next (s.writePlain PH_INPUT_EVENT v) := rfl

theorem store_state (s : State) (v : Nat) : s.store DV_STATE v = .next (s.writePlain DV_STATE v) := rfl

theorem Writable.writable {s : State} (h : Writable s) (off : Nat) : s.writable off = true := by
  obtain ⟨hclosed, hphase⟩ := h
  simp [State.writable, hclosed, hphase]

/-- A write of a whole register that no rule gives a further effect. -/
theorem storeAt_plain {s : State} {off : Nat} (value : Nat) (halign : off % 8 = 0) (hoff : off < 2 ^ 26)
    (hstore : ∀ v, s.store off v = .next (s.writePlain off v)) : s.storeAt off 8 value = .next (s.writePlain off value) := by
  have hvalue : s.valueOf off 8 value = value % 2 ^ 64 := by simp [State.valueOf, State.wholeValue]
  rw [State.storeAt, if_neg (by omega)]
  simp only [halign, Nat.sub_zero, if_true, Option.getD_none, hvalue, hstore, s.writePlain_mod]

theorem exec_registerWrite_plain {s : State} {off : Nat} (value : Nat) (hs : Writable s) (halign : off % 8 = 0) (hoff : off < 2 ^ 26)
    (hstore : ∀ v, s.store off v = .next (s.writePlain off v)) : exec (.registerWrite off 8 value) s = .next (s.writePlain off value) := by
  rw [exec_registerWrite, execRegisterWrite, if_pos (Writable.writable hs off), storeAt_plain value halign hoff hstore]

/-- The row of the route control (R107). -/
def routeCtrlRow : RegRow := ⟨0x00360108, 8, 1, 1, [⟨63, 56, .rw, 0x0A, []⟩, ⟨47, 32, .rw, 0x64, [(1, 65535)]⟩, ⟨31, 0, .rw, 0, []⟩]⟩

theorem regRow_routeCtrl : regRow? SW_ROUTE_CTRL = some routeCtrlRow := by decide +kernel

/-- The hold of closing packets takes the value written, which is not reserved (R15). -/
theorem fld_writePlain_streamHold {s : State} {value : Nat} (h : 1 ≤ bitsOf value 47 32) :
    (s.writePlain SW_ROUTE_CTRL value).fld SW_ROUTE_CTRL_STREAM_HOLD = bitsOf value 47 32 := by
  have hf : (⟨47, 32, .rw, 0x64, [(1, 65535)]⟩ : FieldRow) ∈ routeCtrlRow.fields := by decide
  have hlt : bitsOf value 47 32 < 65536 := bitsOf_lt value 47 32
  have hok : (⟨47, 32, .rw, 0x64, [(1, 65535)]⟩ : FieldRow).ok (bitsOf (BitVec.ofNat 64 value).toNat 47 32) = true := by
    rw [bitsOf_ofNat (by decide)]
    simp only [FieldRow.ok, List.isEmpty_cons, List.any_cons, List.any_nil]
    simp
    omega
  have hreg : (s.writePlain SW_ROUTE_CTRL value).fld SW_ROUTE_CTRL_STREAM_HOLD = bitsOf (s.written SW_ROUTE_CTRL value).toNat 47 32 :=
    s.fld_setReg_same _ _
  rw [hreg, State.written, regRow_routeCtrl]
  refine (bitsOf_writeFields (fieldsApart_of_row regRow_routeCtrl) _ _ _ hf).trans ?_
  simp only [writeField, hok, if_true]
  rw [bitsOf_putFld_same _ _ _ _ (by decide), bitsOf_ofNat (by decide), Nat.mod_eq_of_lt (bitsOf_lt _ _ _)]

theorem completes_routeCtrl {s : State} {value : Nat} (hs : Writable s) (h : 1 ≤ bitsOf value 47 32) :
    Completes (.registerWrite SW_ROUTE_CTRL 8 value) s (fun t =>
      t.fld SW_ROUTE_CTRL_HASH_SEED = bitsOf value 31 0 ∧ t.fld SW_ROUTE_CTRL_STREAM_HOLD = bitsOf value 47 32 ∧
      t.fld SW_ROUTE_CTRL_SINK_LIMIT = bitsOf value 63 56 ∧ t.sw = s.sw) :=
  ⟨_, exec_registerWrite_plain value hs (by decide) (by decide) (store_routeCtrl s),
    s.fld_writePlain (F := SW_ROUTE_CTRL_HASH_SEED) (reset := 0) regRow_routeCtrl (by decide), fld_writePlain_streamHold h,
    s.fld_writePlain (F := SW_ROUTE_CTRL_SINK_LIMIT) (reset := 0x0A) regRow_routeCtrl (by decide), rfl⟩

theorem home_routeCtrl : SW_ROUTE_CTRL + 4 - (SW_ROUTE_CTRL + 4) % 8 = SW_ROUTE_CTRL := by decide

/-- What a write of the high half makes of the route control: the low half keeps its RW field (R14). -/
theorem valueOf_routeCtrl_high (s : State) (value : Nat) : ∃ low, low < 2 ^ 32 ∧ bitsOf low 31 0 = s.fld SW_ROUTE_CTRL_HASH_SEED ∧
    s.valueOf (SW_ROUTE_CTRL + 4) 4 value = low + value % 2 ^ 32 * 2 ^ 32 := by
  have hword : isWord0 SW_ROUTE_CTRL = false := by decide +kernel
  have hwhole : s.valueOf (SW_ROUTE_CTRL + 4) 4 value = s.wholeValue (SW_ROUTE_CTRL + 4) 4 value := by
    rw [State.valueOf, home_routeCtrl, hword, if_neg Bool.false_ne_true]
  obtain ⟨keep, hkeep, heq⟩ : ∃ keep : Word, bitsOf keep.toNat 31 0 = s.fld SW_ROUTE_CTRL_HASH_SEED ∧
      s.wholeValue (SW_ROUTE_CTRL + 4) 4 value = keep.toNat % 2 ^ 32 + value % 2 ^ 32 * 2 ^ 32 := by
    refine ⟨routeCtrlRow.fields.foldl (fun (w : Word) f =>
      if f.acc = .rw then putFld w f.hi f.lo (bitsOf (s.reg SW_ROUTE_CTRL).toNat f.hi f.lo) else w) 0, ?_, ?_⟩
    · simp only [routeCtrlRow, List.foldl_cons, List.foldl_nil, if_true]
      rw [bitsOf_putFld_same _ _ _ _ (by decide), Nat.mod_eq_of_lt (bitsOf_lt _ _ _)]
      rfl
    · rw [State.wholeValue, if_neg (by decide), home_routeCtrl]
      dsimp only
      rw [regRow_routeCtrl, if_neg (by decide)]
  exact ⟨_, Nat.mod_lt keep.toNat (by decide), by rw [← hkeep]; simp [bitsOf], hwhole.trans heq⟩

theorem bitsOf_high {low value hi lo : Nat} (hlow : low < 2 ^ 32) (hhi : hi < 32) :
    bitsOf (low + value % 2 ^ 32 * 2 ^ 32) (hi + 32) (lo + 32) = bitsOf value hi lo := by
  refine Nat.eq_of_testBit_eq fun i => ?_
  rw [bitsOf_testBit, bitsOf_testBit]
  have hbit : (low + value % 2 ^ 32 * 2 ^ 32).testBit (lo + 32 + i) = (value % 2 ^ 32).testBit (lo + i) := by
    rw [Nat.add_comm low, Nat.mul_comm, Nat.testBit_two_pow_mul_add _ hlow, if_neg (by omega)]
    congr 1
    omega
  rw [hbit, Nat.testBit_mod_two_pow]
  by_cases hi' : i < hi + 1 - lo
  · have hword : lo + i < 32 := by omega
    simp [hi', hword]
  · simp [hi']

theorem completes_routeCtrl_high {s : State} {value : Nat} (hs : Writable s) (h : 1 ≤ bitsOf value 15 0) :
    Completes (.registerWrite (SW_ROUTE_CTRL + 4) 4 value) s (fun t =>
      t.fld SW_ROUTE_CTRL_HASH_SEED = s.fld SW_ROUTE_CTRL_HASH_SEED ∧ t.fld SW_ROUTE_CTRL_STREAM_HOLD = bitsOf value 15 0 ∧
      t.fld SW_ROUTE_CTRL_SINK_LIMIT = bitsOf value 31 24) := by
  obtain ⟨low, hlow, hseed, hvalue⟩ := valueOf_routeCtrl_high s value
  have hhold : bitsOf (low + value % 2 ^ 32 * 2 ^ 32) 47 32 = bitsOf value 15 0 := bitsOf_high (hi := 15) (lo := 0) hlow (by decide)
  have hlimit : bitsOf (low + value % 2 ^ 32 * 2 ^ 32) 63 56 = bitsOf value 31 24 := bitsOf_high (hi := 31) (lo := 24) hlow (by decide)
  have hkeep : bitsOf (low + value % 2 ^ 32 * 2 ^ 32) 31 0 = bitsOf low 31 0 := by simp [bitsOf]
  have hexec : exec (.registerWrite (SW_ROUTE_CTRL + 4) 4 value) s = .next (s.writePlain SW_ROUTE_CTRL (low + value % 2 ^ 32 * 2 ^ 32)) := by
    rw [exec_registerWrite, execRegisterWrite, if_pos (Writable.writable hs _), State.storeAt, if_neg (by decide), hvalue]
    dsimp only
    rw [home_routeCtrl, if_neg (by decide), if_pos (by decide), storeHigh_routeCtrl, Option.getD_none, store_routeCtrl]
  exact ⟨_, hexec, (s.fld_writePlain (F := SW_ROUTE_CTRL_HASH_SEED) (reset := 0) regRow_routeCtrl (by decide)).trans (hkeep.trans hseed),
    (fld_writePlain_streamHold (by rw [hhold]; exact h)).trans hhold,
    (s.fld_writePlain (F := SW_ROUTE_CTRL_SINK_LIMIT) (reset := 0x0A) regRow_routeCtrl (by decide)).trans hlimit⟩

/-- The row of the input's events (R471). -/
def inputEventRow : RegRow :=
  ⟨0x01C00008, 8, 1, 1, [⟨5, 5, .rs, 0, []⟩, ⟨4, 4, .rs, 0, []⟩, ⟨3, 3, .rs, 0, []⟩, ⟨2, 2, .rs, 0, []⟩, ⟨1, 1, .rs, 0, []⟩, ⟨0, 0, .rs, 0, []⟩]⟩

theorem regRow_inputEvent : regRow? PH_INPUT_EVENT = some inputEventRow := by decide +kernel

/-- An event's bit after a write: cleared by a 1, but for one that hardware set in the same cycle (R13). -/
theorem fld_writePlain_event {s : State} {value i : Nat} (hi : i < 64) (hf : (⟨i, i, .rs, 0, []⟩ : FieldRow) ∈ inputEventRow.fields) :
    (s.writePlain PH_INPUT_EVENT value).fld ⟨PH_INPUT_EVENT, i, i⟩ =
      if value.testBit i && !(s.roseAt PH_INPUT_EVENT).getLsbD i then 0 else s.fld ⟨PH_INPUT_EVENT, i, i⟩ := by
  have hreg : (s.writePlain PH_INPUT_EVENT value).fld ⟨PH_INPUT_EVENT, i, i⟩ = bitsOf (s.written PH_INPUT_EVENT value).toNat i i :=
    s.fld_setReg_same _ _
  have hmask : (bitsOf (BitVec.ofNat 64 value &&& ~~~s.roseAt PH_INPUT_EVENT).toNat i i).testBit 0 =
      (value.testBit i && !(s.roseAt PH_INPUT_EVENT).getLsbD i) := by
    rw [bitsOf_testBit, ← BitVec.getLsbD, BitVec.getLsbD_and, BitVec.getLsbD_ofNat, BitVec.getLsbD_not]
    simp [hi]
  rw [hreg, State.written, regRow_inputEvent]
  refine (bitsOf_writeFields (fieldsApart_of_row regRow_inputEvent) _ _ _ hf).trans ?_
  simp only [writeField]
  rw [bitsOf_putFld_same _ _ _ _ hi, State.fld]
  refine Nat.eq_of_testBit_eq fun j => ?_
  have hold := bitsOf_testBit (s.reg PH_INPUT_EVENT).toNat i i j
  rw [Nat.testBit_mod_two_pow, testBit_clearMask]
  cases j with
  | zero =>
    rw [hmask]
    split
    next h => simp [h]
    next h => simp [h]
  | succ j =>
    have hzero : (bitsOf (s.reg PH_INPUT_EVENT).toNat i i).testBit (j + 1) = false := by
      rw [hold]
      simp
    rw [apply_ite (fun v : Nat => v.testBit (j + 1)), hzero]
    simp

theorem completes_inputEvent {s : State} {value : Nat} (hs : Writable s) (h0 : value.testBit 0 = true) (h1 : value.testBit 1 = false) :
    Completes (.registerWrite PH_INPUT_EVENT 8 value) s (fun t =>
      t.fld PH_INPUT_EVENT_UV = (if (s.roseAt PH_INPUT_EVENT).getLsbD 0 then s.fld PH_INPUT_EVENT_UV else 0) ∧
      t.fld PH_INPUT_EVENT_OV = s.fld PH_INPUT_EVENT_OV) := by
  refine ⟨_, exec_registerWrite_plain value hs (by decide) (by decide) (store_inputEvent s), ?_, ?_⟩
  · refine (fld_writePlain_event (i := 0) (by decide) (by decide)).trans ?_
    rw [h0]
    cases (s.roseAt PH_INPUT_EVENT).getLsbD 0 <;> rfl
  · refine (fld_writePlain_event (i := 1) (by decide) (by decide)).trans ?_
    rw [h1]
    rfl

theorem regRow_state : regRow? DV_STATE = some ⟨0x00000008, 8, 1, 1, [⟨39, 32, .ro, 0, []⟩, ⟨27, 24, .ro, 0, []⟩, ⟨3, 0, .ro, 0, []⟩]⟩ := by
  decide +kernel

theorem completes_writeState (s : State) (value : Nat) :
    Completes (.registerWrite DV_STATE 8 value) s (fun t => t.reg DV_STATE = s.reg DV_STATE) := by
  have hwritten : s.written DV_STATE value = s.reg DV_STATE := by
    rw [State.written, regRow_state]
    rfl
  by_cases hw : s.writable DV_STATE = true
  · refine ⟨s.writePlain DV_STATE value, ?_, (s.reg_setReg_same _ _).trans hwritten⟩
    rw [exec_registerWrite, execRegisterWrite, if_pos hw, storeAt_plain value (by decide) (by decide) (store_state s)]
  · exact ⟨s, by rw [exec_registerWrite, execRegisterWrite, if_neg hw], rfl⟩

theorem completes_writeNothing {s : State} {off size value : Nat} (h : (size ≠ 4 ∧ size ≠ 8) ∨ off % size ≠ 0 ∨ 2 ^ 26 ≤ off ∨ s.phase = 7 ∨
    s.power.switchClosed = false ∧ s.power.auxOn = false) : Completes (.registerWrite off size value) s (fun t => t = s) := by
  refine ⟨s, ?_, rfl⟩
  rw [exec_registerWrite, execRegisterWrite]
  by_cases hw : s.writable off = true
  · have hbad : (size ≠ 4 ∧ size ≠ 8) ∨ off % size ≠ 0 ∨ 2 ^ 26 ≤ off := by
      obtain h | h | h | h | ⟨h, h'⟩ := h
      · exact .inl h
      · exact .inr (.inl h)
      · exact .inr (.inr h)
      · simp [State.writable, h] at hw
      · simp [State.writable, h, h'] at hw
    rw [if_pos hw, State.storeAt, if_pos hbad]
  · rw [if_neg hw]

end Sys2Proof.Machine
end

section
/-! PROOF. O22: register accesses and memory operations of the fabric complete. A memory operation acts on the pool or the registers, and its answer is
posted. -/

-- Proofs are checked one at a time: side by side they would only wait for one another.
set_option Elab.async false

namespace Sys2Proof.Machine
open Sys2Proof

/-! ### Accesses to the pool leave the frames in the switch alone -/

theorem RouteReg.offPool {o : Nat} (h : RouteReg o) : OffPool o := by
  unfold RouteReg DV_COORD at h
  by_cases hlt : o < MEM_STATUS
  · exact offPool_of_lt hlt
  · refine offPool_of_gt ?_
    unfold MEM_STATUS at hlt
    omega

theorem Quiet.poolRead {s : State} (a n : Nat) : Quiet s (s.poolRead a n).2 :=
  .of_regs within_poolRead (by decide) fun _ ho => State.reg_poolRead ho.offPool a n

theorem Quiet.poolWrite {s : State} (a : Nat) (bs : List Byte) : Quiet s (s.poolWrite a bs) :=
  .of_regs within_poolWrite (by decide) fun _ ho => State.reg_poolWrite ho.offPool a bs

/-! ### What a memory operation is judged by (R71, R475) -/

section
variable {s : State} {o : Nat} (hstat : ∀ w, o ≠ ownerStat w) (hpool : o ≠ SW_POOL_STATUS)
include hstat hpool

theorem State.reg_freeCells_off (w k : Nat) (chain : List Nat) : (s.freeCells w k chain).reg o = s.reg o := by
  rw [State.freeCells, State.modSw_reg, State.moveShared]
  refine (State.reg_setFld_other _ SW_POOL_STATUS_SHARED_FREE _ hpool).trans ?_
  exact State.reg_setFld_other _ ⟨ownerStat w, 19, 0⟩ _ (hstat w)

theorem State.reg_releaseCells_off (w p k : Nat) (chain : List Nat) : (s.releaseCells w p k chain).reg o = s.reg o := by
  rw [State.releaseCells]
  split
  · rw [within_detourBack.reg (by decide), State.reg_freeCells_off hstat hpool]
  · exact State.reg_freeCells_off hstat hpool w k chain

/-- Taking a frame changes no register but those that count cells. -/
theorem State.reg_takeAgent_off (f : Frame) : (s.takeAgent f).reg o = s.reg o := by
  rw [State.takeAgent]
  split
  · rfl
  · exact (State.reg_releaseCells_off hstat hpool _ _ _ _).trans rfl

end

/-- Above the counts of cells taking a frame changes no register. -/
theorem State.reg_takeAgent_above {s : State} {o : Nat} (h : 0x00300000 ≤ o) (f : Frame) : (s.takeAgent f).reg o = s.reg o := by
  refine State.reg_takeAgent_off (fun w => ?_) ?_ f
  · unfold ownerStat SW_OWNER_STAT SW_AGENT_STAT
    split <;> omega
  · unfold SW_POOL_STATUS
    omega

theorem State.rackCheck_congr {s t : State} (h : ∀ p, t.reg (SW_EP_PERM p) = s.reg (SW_EP_PERM p)) (p : Nat) (f : Frame) :
    t.rackCheck p f = s.rackCheck p f := by
  have hread : t.flag (SW_EP_PERM_POOL_READ p) = s.flag (SW_EP_PERM_POOL_READ p) := State.flag_eq_of_reg (f := SW_EP_PERM_POOL_READ p) (h p)
  have hwrite : t.flag (SW_EP_PERM_POOL_WRITE p) = s.flag (SW_EP_PERM_POOL_WRITE p) := State.flag_eq_of_reg (f := SW_EP_PERM_POOL_WRITE p) (h p)
  have hregs : t.flag (SW_EP_PERM_REG_READ p) = s.flag (SW_EP_PERM_REG_READ p) := State.flag_eq_of_reg (f := SW_EP_PERM_REG_READ p) (h p)
  have hregw : t.flag (SW_EP_PERM_REG_WRITE p) = s.flag (SW_EP_PERM_REG_WRITE p) := State.flag_eq_of_reg (f := SW_EP_PERM_REG_WRITE p) (h p)
  have hwindow : ∀ n, t.fld (SW_EP_PERM_WINDOW_SIZE n) = s.fld (SW_EP_PERM_WINDOW_SIZE n) := fun n =>
    State.fld_eq_of_reg (f := SW_EP_PERM_WINDOW_SIZE n) (h n)
  unfold State.rackCheck
  simp only [hread, hwrite, hregs, hregw, hwindow]

theorem State.rackCheck_takeAgent (s : State) (g : Frame) (p : Nat) (f : Frame) : (s.takeAgent g).rackCheck p f = s.rackCheck p f :=
  State.rackCheck_congr (fun p => State.reg_takeAgent_above (by unfold SW_EP_PERM; omega) g) p f

theorem State.readWord_eq_shown (s : State) {off : Nat} (h : off < 0x00200000) : s.readWord off = s.shown off := by
  have hnow : off ≠ BT_NOW := by unfold BT_NOW; omega
  have hhost : ¬(off = CXL_MB_STATUS ∨ off = CXL_BG_STATUS ∨ off = MSIX_PBA) := by unfold CXL_MB_STATUS CXL_BG_STATUS MSIX_PBA; omega
  have hscrub : off ≠ MEM_SCRUB_STATUS := by unfold MEM_SCRUB_STATUS; omega
  have hcluster : ¬(CL_STATUS 0 ≤ off ∧ off < CL_STATUS 6) := by unfold CL_STATUS; omega
  rw [State.readWord, if_neg hnow, if_neg hhost, if_neg hscrub, if_neg hcluster]

theorem State.readWord_congr {s t : State} {off : Nat} (h : off < 0x00200000) (hreg : t.reg off = s.reg off) : t.readWord off = s.readWord off := by
  rw [t.readWord_eq_shown h, s.readWord_eq_shown h]
  unfold State.shown
  rw [hreg]

/-! ### An agent's answer (R80, R475) -/

/-- The sender of the frame is an endpoint port of this module that is up and not fenced. -/
structure Local (s : State) (f : Frame) : Prop where
  here : f.srcCoord = s.coord
  port : Reachable s f.srcPort

theorem Local.routes {s t : State} {f : Frame} (h : Local s f) (hr : Routes s t) : Local t f :=
  ⟨h.here.trans hr.coord.symm, Reachable.routes h.port hr⟩

/-- An answer to a local sender stands in the switch, or waits, after the waiting frames are tried again. -/
theorem sent_reply_retried {s x : State} (hc : Calm s) (hx : Carries s x) {f : Frame} (hf : Local s f) (a kind : Nat) (p : List Byte)
    (h60 : kind ≠ 0x60) (h72 : kind ≠ 0x72) {P : Frame → Bool} (hP : ∀ n, P ((n : State).asSent a (replyTo f kind p)) = true) :
    Sent ((x.agentSend a (replyTo f kind p)).retryAgents) P := by
  have hlocal := hf.routes hx.routes
  have hnum := hx.numbered (Calm.numbered hc)
  have hposted := posted_reply hnum a (p := p) hlocal.here hlocal.port h60 h72
  exact (Carries.retryAgents.posted ((Keeps.agentSend a _).numbered hnum) _ hposted).sent (hP x)

/-! ### READ (R72, R342, R475) -/

theorem exec_read (f : Frame) (s : State) : exec (.read f) s = execRead f s := rfl

theorem exec_read_pool {s : State} {f : Frame} {b : List Byte} (hcheck : s.rackCheck f.srcPort f = some 0)
    (hread : ((s.takeAgent f).poolRead f.address (opLength f)).1 = some b) : exec (.read f) s =
      .next ((((s.takeAgent f).poolRead f.address (opLength f)).2.agentSend 9 (replyTo f 0x08 b)).retryAgents) := by
  rw [exec_read, execRead, State.serveAny]
  dsimp only
  rw [State.rackCheck_takeAgent, hcheck]
  generalize (s.takeAgent f).poolRead f.address (opLength f) = r at hread
  obtain ⟨o, x⟩ := r
  obtain rfl : o = some b := hread
  rfl

theorem exec_read_poison {s : State} {f : Frame} (hcheck : s.rackCheck f.srcPort f = some 0)
    (hread : ((s.takeAgent f).poolRead f.address (opLength f)).1 = none) : exec (.read f) s =
      .next ((((s.takeAgent f).poolRead f.address (opLength f)).2.agentSend 9 (replyTo f 0x0F [5])).retryAgents) := by
  rw [exec_read, execRead, State.serveAny]
  dsimp only
  rw [State.rackCheck_takeAgent, hcheck]
  generalize (s.takeAgent f).poolRead f.address (opLength f) = r at hread
  obtain ⟨o, x⟩ := r
  obtain rfl : o = none := hread
  rfl

theorem exec_read_regs {s : State} {f : Frame} (hcheck : s.rackCheck f.srcPort f = some 1) : exec (.read f) s =
    .next (((s.takeAgent f).agentSend 10 (replyTo f 0x08 ((s.takeAgent f).readRegs (f.address - 2 ^ 40) (opLength f)))).retryAgents) := by
  rw [exec_read, execRead, State.serveAny]
  dsimp only
  rw [State.rackCheck_takeAgent, hcheck]
  rfl

/-- With nothing in the write-merge buffer a read of clean pairs takes the bytes as they lie, and only ends runs of failures. -/
theorem touchPair_empty {s : State} {p : Nat} (hmerge : s.mem.merge = []) (hgood : s.PairGood p) : s.touchPair p = s.transferred (pairStack p) := by
  have hsettle : (s.transferred (pairStack p)).settle p = s.transferred (pairStack p) := by
    have hm : (s.transferred (pairStack p)).mem.merge = [] := hmerge
    rw [State.settle, hm]
    rfl
  have hbad : ((s.transferred (pairStack p)).stackLost (pairStack p) || (s.transferred (pairStack p)).poisoned p) = false := by
    obtain ⟨hlost, hpoison⟩ := hgood
    exact Bool.or_eq_false_iff.2 ⟨hlost, hpoison⟩
  rw [State.touchPair, hsettle, hbad]
  rfl

theorem touchPairs_empty {s : State} {ps : List Nat} (hmerge : s.mem.merge = []) (hgood : ∀ p ∈ ps, s.PairGood p) :
    ∃ runs, ps.foldl State.touchPair s = s.modMem (fun m => { m with crcRuns := runs }) := by
  refine List.foldlRecOn ps State.touchPair (motive := fun x => ∃ runs, x = s.modMem (fun m => { m with crcRuns := runs })) ⟨s.mem.crcRuns, rfl⟩ ?_
  rintro x ⟨runs, rfl⟩ p hp
  exact ⟨_, touchPair_empty (s := s.modMem (fun m => { m with crcRuns := runs })) hmerge (hgood p hp)⟩

theorem poolRead_empty {s : State} {a n : Nat} (hmerge : s.mem.merge = []) (hgood : ∀ p ∈ pairsOf a n, s.PairGood p) :
    ∃ runs, s.poolRead a n = (some (sparseRead 0 s.mem.bytes a n), s.modMem (fun m => { m with crcRuns := runs })) := by
  obtain ⟨runs, hruns⟩ := touchPairs_empty hmerge hgood
  refine ⟨runs, ?_⟩
  have hnone : (pairsOf a n).any (fun p => (s.modMem (fun m => { m with crcRuns := runs })).stackLost (pairStack p) ||
      (s.modMem (fun m => { m with crcRuns := runs })).poisoned p) = false := by
    rw [List.any_eq_false]
    intro p hp
    obtain ⟨hlost, hpoison⟩ := hgood p hp
    exact Bool.eq_false_iff.1 (Bool.or_eq_false_iff.2 ⟨hlost, hpoison⟩)
  rw [State.poolRead, hruns, hnone]
  rfl

/-- A poisoned pair is read as poison. -/
theorem poolRead_poisoned {s : State} {a n q : Nat} (hq : q ∈ pairsOf a n) (hpoison : s.poisoned q = true) : (s.poolRead a n).1 = none := by
  have hkept : ((pairsOf a n).foldl State.touchPair s).poisoned q = true := by
    rw [State.poisoned, s.poison_touchPairs]
    exact hpoison
  have hany : (pairsOf a n).any (fun p => ((pairsOf a n).foldl State.touchPair s).stackLost (pairStack p) ||
      ((pairsOf a n).foldl State.touchPair s).poisoned p) = true := List.any_eq_true.2 ⟨q, hq, by rw [hkept, Bool.or_true]⟩
  rw [State.poolRead, hany]
  rfl

theorem opLength_read {f : Frame} (h : f.kind = 0x01) : opLength f = leAt f.payload 0 2 := if_pos h

theorem mem_agentSend (s : State) (a : Nat) (f : Frame) : (s.agentSend a f).mem = s.mem := within_agentSend.same .mem (by decide)

theorem pairGood_takeAgent {s : State} (g : Frame) {p : Nat} (h : s.PairGood p) : (s.takeAgent g).PairGood p := by
  obtain ⟨hlost, hpoison⟩ := h
  constructor
  · rw [State.stackLost, State.regBit, State.reg_takeAgent_above (by decide)]
    exact hlost
  · rw [State.poisoned, mem_takeAgent]
    exact hpoison

theorem completes_read {s : State} {f : Frame} (hc : Calm s) (hf : Local s f) (hkind : f.kind = 0x01) (hcheck : s.rackCheck f.srcPort f = some 0)
    (hmerge : s.mem.merge = []) (hgood : ∀ q ∈ pairsOf f.address (leAt f.payload 0 2), s.PairGood q) : Completes (.read f) s (fun t =>
      Sent t (fun g => g.kind == 0x08 && g.tag == f.tag && g.dstPort == f.srcPort &&
        g.payload == sparseRead 0 s.mem.bytes f.address (leAt f.payload 0 2)) ∧ t.mem = { s.mem with crcRuns := t.mem.crcRuns }) := by
  obtain ⟨runs, hread⟩ := poolRead_empty (s := s.takeAgent f) (a := f.address) (n := opLength f) (by rw [mem_takeAgent]; exact hmerge)
    (by rw [opLength_read hkind]; exact fun p hp => pairGood_takeAgent f (hgood p hp))
  have hbytes : ((s.takeAgent f).poolRead f.address (opLength f)).1 = some (sparseRead 0 s.mem.bytes f.address (leAt f.payload 0 2)) := by
    rw [hread, mem_takeAgent, opLength_read hkind]
  refine ⟨_, exec_read_pool hcheck hbytes, ?_, ?_⟩
  · exact sent_reply_retried hc ((Quiet.takeAgent f).trans (Quiet.poolRead _ _)).carries hf 9 0x08 _ (by decide) (by decide)
      fun n => by simp [State.asSent, replyTo]
  · rw [mem_retryAgents, mem_agentSend, hread]
    show { (s.takeAgent f).mem with crcRuns := runs } = _
    rw [mem_takeAgent]
    rfl

theorem completes_read_poison {s : State} {f : Frame} (hc : Calm s) (hf : Local s f) (hkind : f.kind = 0x01)
    (hcheck : s.rackCheck f.srcPort f = some 0) (hbad : ∃ q ∈ pairsOf f.address (leAt f.payload 0 2), s.poisoned q = true) :
    Completes (.read f) s (fun t => Sent t (fun g => g.kind == 0x0F && g.tag == f.tag && g.dstPort == f.srcPort && g.payload == [5])) := by
  obtain ⟨q, hq, hpoison⟩ := hbad
  have hread : ((s.takeAgent f).poolRead f.address (opLength f)).1 = none := by
    refine poolRead_poisoned (q := q) (by rw [opLength_read hkind]; exact hq) ?_
    rw [State.poisoned, mem_takeAgent]
    exact hpoison
  refine ⟨_, exec_read_poison hcheck hread, ?_⟩
  exact sent_reply_retried hc ((Quiet.takeAgent f).trans (Quiet.poolRead _ _)).carries hf 9 0x0F _ (by decide) (by decide)
    fun n => by simp [State.asSent, replyTo]

theorem completes_read_reg {s : State} {f : Frame} (hc : Calm s) (hf : Local s f) (hkind : f.kind = 0x01) (hcheck : s.rackCheck f.srcPort f = some 1)
    (hlen : leAt f.payload 0 2 = 8) (haddr : f.address < 2 ^ 40 + 0x00200000) : Completes (.read f) s (fun t =>
      Sent t (fun g => g.kind == 0x08 && g.tag == f.tag && g.dstPort == f.srcPort && g.payload == natLE 8 (s.readWord (f.address - 2 ^ 40)).toNat) ∧
      t.mem = s.mem) := by
  have hoff : f.address - 2 ^ 40 < 0x00200000 := by omega
  have hword : (s.takeAgent f).readRegs (f.address - 2 ^ 40) (opLength f) = natLE 8 (s.readWord (f.address - 2 ^ 40)).toNat := by
    have h8 : opLength f = 8 := (opLength_read hkind).trans hlen
    rw [State.readRegs, h8, if_neg (by decide), ← State.readWord_congr hoff (State.reg_takeAgent (.inl hoff) f)]
    simp
  refine ⟨_, exec_read_regs hcheck, ?_, by rw [mem_retryAgents, mem_agentSend, mem_takeAgent]⟩
  rw [hword]
  exact sent_reply_retried hc (Quiet.takeAgent f).carries hf 10 0x08 _ (by decide) (by decide) fun n => by simp [State.asSent, replyTo]

/-! ### WRITE and WRITE_POSTED (R475) -/

theorem exec_write_pool {s : State} {f : Frame} (hcheck : s.rackCheck f.srcPort f = some 0) : exec (.write f) s =
    .next (((((s.takeAgent f).poolWrite f.address f.payload)).agentSend 9 (replyTo f 0x09 [])).retryAgents) := by
  show execWrite f s = _
  rw [execWrite, State.rackWrite]
  dsimp only
  rw [State.rackCheck_takeAgent, hcheck]
  rfl

theorem exec_writePosted_pool {s : State} {f : Frame} (hcheck : s.rackCheck f.srcPort f = some 0) : exec (.writePosted f) s =
    .next (((s.takeAgent f).poolWrite f.address f.payload).retryAgents) := by
  show execWritePosted f s = _
  rw [execWritePosted, State.rackWrite]
  dsimp only
  rw [State.rackCheck_takeAgent, hcheck]
  rfl

theorem exec_writePosted_refused {s : State} {f : Frame} (hkind : f.kind = 0x03) (hcheck : s.rackCheck f.srcPort f = none) :
    exec (.writePosted f) s = .next (((s.takeAgent f).count SW_DROP_RACK).retryAgents) := by
  show execWritePosted f s = _
  rw [execWritePosted, State.rackWrite]
  dsimp only
  rw [State.rackCheck_takeAgent, hcheck]
  dsimp only
  rw [State.rackRefuse, if_pos hkind]
  rfl

/-- A write of one whole pair. -/
theorem poolWrite_pair {s : State} {a : Nat} {bs : List Byte} (halign : a % 64 = 0) (hlen : bs.length = 64) :
    s.poolWrite a bs = (s.transferred (a / 2 ^ 37 % 8)).putPair (a / 64) bs := by
  have htake : bs.take 64 = bs := List.take_of_length_le (by omega)
  have hdrop : bs.drop 64 = [] := List.drop_of_length_le (by omega)
  have hne : bs.isEmpty = false := by
    cases bs with
    | nil => cases hlen
    | cons => rfl
  have hrest : ∀ n (x : State) b, State.poolWriteFuel n x b [] = x := by
    intro n x b
    cases n with
    | zero => rfl
    | succ n => rfl
  rw [State.poolWrite, hlen, State.poolWriteFuel]
  simp only [hne, Bool.false_eq_true, if_false, halign, Nat.sub_zero, htake, hlen, if_true, hdrop, hrest]

/-- The pair written holds the bytes, and is clean. -/
theorem putPair_reads {s : State} {p : Nat} {bs : List Byte} (hup : s.stackLost (pairStack p) = false) (hlen : bs.length = 64) :
    (s.putPair p bs).pairBytes p = bs ∧ (s.putPair p bs).poisoned p = false := by
  rw [State.putPair_up hup]
  constructor
  · show sparseRead 0 (sparseWrite 0 s.mem.bytes (64 * p) (padTo 64 bs)) (64 * p) 64 = bs
    rw [padTo_of_length hlen]
    conv_lhs => rw [← hlen]
    exact sparseRead_write_same
  · exact sparseGet_erase_same

theorem poolWrite_reads {s : State} {f : Frame} (halign : f.address % 64 = 0) (hlen : f.payload.length = 64)
    (hup : s.stackLost (pairStack (f.address / 64)) = false) : ((s.takeAgent f).poolWrite f.address f.payload).pairBytes (f.address / 64) = f.payload ∧
      ((s.takeAgent f).poolWrite f.address f.payload).poisoned (f.address / 64) = false := by
  have htaken : ((s.takeAgent f).transferred (f.address / 2 ^ 37 % 8)).stackLost (pairStack (f.address / 64)) = false := by
    show (s.takeAgent f).stackLost _ = false
    rw [State.stackLost, State.regBit, State.reg_takeAgent_above (by decide)]
    exact hup
  rw [poolWrite_pair halign hlen]
  exact putPair_reads htaken hlen

theorem pairBytes_congr {s t : State} (h : t.mem = s.mem) (p : Nat) : t.pairBytes p = s.pairBytes p := by rw [State.pairBytes, h, State.pairBytes]

theorem poisoned_congr {s t : State} (h : t.mem = s.mem) (p : Nat) : t.poisoned p = s.poisoned p := by rw [State.poisoned, h, State.poisoned]

theorem completes_write {s : State} {f : Frame} (hc : Calm s) (hf : Local s f) (hcheck : s.rackCheck f.srcPort f = some 0) (halign : f.address % 64 = 0)
    (hlen : f.payload.length = 64) (hup : s.stackLost (pairStack (f.address / 64)) = false) : Completes (.write f) s (fun t =>
      t.pairBytes (f.address / 64) = f.payload ∧ t.poisoned (f.address / 64) = false ∧
      Sent t (fun g => g.kind == 0x09 && g.tag == f.tag && g.dstPort == f.srcPort)) := by
  have hmem : ∀ x : State, ((x.agentSend 9 (replyTo f 0x09 [])).retryAgents).mem = x.mem := fun x => by rw [mem_retryAgents, mem_agentSend]
  obtain ⟨hbytes, hpoison⟩ := poolWrite_reads halign hlen hup
  refine ⟨_, exec_write_pool hcheck, (pairBytes_congr (hmem _) _).trans hbytes, (poisoned_congr (hmem _) _).trans hpoison, ?_⟩
  exact sent_reply_retried hc ((Quiet.takeAgent f).trans (Quiet.poolWrite _ _)).carries hf 9 0x09 _ (by decide) (by decide)
    fun n => by simp [State.asSent, replyTo]

theorem completes_writePosted {s : State} {f : Frame} (hcheck : s.rackCheck f.srcPort f = some 0) (halign : f.address % 64 = 0)
    (hlen : f.payload.length = 64) (hup : s.stackLost (pairStack (f.address / 64)) = false) : Completes (.writePosted f) s (fun t =>
      t.pairBytes (f.address / 64) = f.payload ∧ t.poisoned (f.address / 64) = false) := by
  obtain ⟨hbytes, hpoison⟩ := poolWrite_reads halign hlen hup
  exact ⟨_, exec_writePosted_pool hcheck, (pairBytes_congr (mem_retryAgents _) _).trans hbytes, (poisoned_congr (mem_retryAgents _) _).trans hpoison⟩

theorem completes_writePosted_refused {s : State} {f : Frame} (hkind : f.kind = 0x03) (hcheck : s.rackCheck f.srcPort f = none)
    (hwait : s.sw.agentWait = []) : Completes (.writePosted f) s (fun t =>
      t.reg SW_DROP_RACK = s.reg SW_DROP_RACK + 1 ∧ t.mem = s.mem ∧ t.out = s.out) := by
  have hnone : ((s.takeAgent f).count SW_DROP_RACK).sw.agentWait = [] := (Quiet.takeAgent f).waits.trans hwait
  have hretry : ∀ x : State, x.sw.agentWait = [] → x.retryAgents = x.noWaits.handOverAll := by
    intro x hx
    rw [retryAgents_eq, hx]
    rfl
  refine ⟨_, exec_writePosted_refused hkind hcheck, ?_, ?_, ?_⟩
  · rw [hretry _ hnone, State.reg_handOverAll]
    show ((s.takeAgent f).count SW_DROP_RACK).reg SW_DROP_RACK = _
    rw [State.reg_count_same, State.reg_takeAgent_above (by decide)]
  · rw [mem_retryAgents]
    exact mem_takeAgent s f
  · rw [within_retryAgents.same .out (by decide)]
    exact within_takeAgent.same .out (by decide)

/-- Settles O22: the register writes by the register map, the memory operations by what the pool and the registers hold and the answer that is
posted. -/
theorem accessCompletes : Obligations.AccessCompletes := by
  unfold Obligations.AccessCompletes
  exact ⟨fun s value hs h => completes_routeCtrl hs h,
    fun s value hs h => completes_routeCtrl_high hs h,
    fun s value hs h0 h1 => completes_inputEvent hs h0 h1,
    completes_writeState,
    fun s off size value h => completes_writeNothing h,
    fun s f hc hhere hport hk hup hfence hkind hcheck hmerge hgood =>
      completes_read hc ⟨hhere, hport, hk, hup, hfence⟩ hkind hcheck hmerge fun q hq => ⟨(hgood q hq).2, (hgood q hq).1⟩,
    fun s f hc hhere hport hk hup hfence hkind hcheck hbad => completes_read_poison hc ⟨hhere, hport, hk, hup, hfence⟩ hkind hcheck hbad,
    fun s f hc hhere hport hk hup hfence hkind hcheck hlen haddr => completes_read_reg hc ⟨hhere, hport, hk, hup, hfence⟩ hkind hcheck hlen haddr,
    fun s f hc hhere hport hk hup hfence _ hcheck halign hlen hlost =>
      completes_write hc ⟨hhere, hport, hk, hup, hfence⟩ hcheck halign hlen hlost,
    fun s f _ hcheck halign hlen hlost => completes_writePosted hcheck halign hlen hlost,
    fun s f hkind hcheck hwait => completes_writePosted_refused hkind hcheck hwait⟩

end Sys2Proof.Machine
end

section
/-! SUPPORT. What a command's answer needs: it is posted, wherever the asking module lies; frames sent one after another are all posted; and what an
agent reads of the state is untouched while it takes the request (R80, R81, R113). -/

-- Proofs are checked one at a time: side by side they would only wait for one another.
set_option Elab.async false

namespace Sys2Proof.Machine
open Sys2Proof

/-! ### Answers -/

/-- An answer to a local sender. -/
theorem replied_local {s x : State} (hc : Calm s) (hx : Carries s x) {f : Frame} (hf : Local s f) (a kind : Nat) (p : List Byte) (h60 : kind ≠ 0x60)
    (h72 : kind ≠ 0x72) : Replied ((x.agentSend a (replyTo f kind p)).retryAgents) f kind p :=
  sent_reply_retried hc hx hf a kind p h60 h72 fun n => by simp [State.asSent, replyTo]

/-- A frame to another module on one axis stands in the switch, or waits, after the waiting frames are tried again. -/
theorem sent_away_retried {s x : State} (hc : Calm s) (hx : Carries s x) {f : Frame} (hkind : f.destKind = 3) (hroute : RouteTo s f.dstCoord) (a : Nat)
    {P : Frame → Bool} (hP : ∀ n : State, P (n.asSent a f) = true) : Sent ((x.agentSend a f).retryAgents) P := by
  have hnum := hx.numbered (Calm.numbered hc)
  exact (Carries.retryAgents.posted ((Keeps.agentSend a f).numbered hnum) _ (posted_away hnum a hkind (RouteTo.routes hroute hx.routes))).sent (hP x)

/-- An answer to another module on one axis. -/
theorem replied_away {s x : State} (hc : Calm s) (hx : Carries s x) {f : Frame} (hroute : RouteTo s f.srcCoord) (a kind : Nat) (p : List Byte) :
    Replied ((x.agentSend a (replyTo f kind p)).retryAgents) f kind p :=
  sent_away_retried hc hx (f := replyTo f kind p) rfl hroute a fun n => by simp [State.asSent, replyTo]

/-- Of operations one after another that lose no posted frame, what one posts stays posted. -/
theorem posted_foldl {α : Type} {g : State → α → State} {l : List α} {a : α} (ha : a ∈ l) {s : State} (hn : Numbered s)
    (hkeep : ∀ x, ∀ b ∈ l, Keeps x (g x b)) {Q : Frame → Prop} (hpost : ∀ x, Routes s x → Numbered x → ∃ f, Q f ∧ Posted (g x a) f) :
    ∃ f, Q f ∧ Posted (l.foldl g s) f := by
  obtain ⟨as, bs, rfl⟩ := List.append_of_mem ha
  have hpre : Keeps s (as.foldl g s) := Keeps.foldl as (fun x b hb => hkeep x b (by simp [hb])) s
  obtain ⟨f, hf, hposted⟩ := hpost _ hpre.routes (hpre.numbered hn)
  refine ⟨f, hf, ?_⟩
  rw [List.foldl_append, List.foldl_cons]
  exact (Keeps.foldl bs (fun x b hb => hkeep x b (by simp [hb])) _).posted hposted

/-! ### Parts beside the switch -/

theorem Quiet.modHealth {s : State} (g : Health → Health) : Quiet s (s.modHealth g) := .of_sw rfl fun _ _ => rfl

theorem Quiet.modHost {s : State} (g : HostUnit → HostUnit) : Quiet s (s.modHost g) := .of_sw rfl fun _ _ => rfl

theorem Quiet.modStays {s : State} (g : StayUnit → StayUnit) : Quiet s (s.modStays g) := .of_sw rfl fun _ _ => rfl

theorem Quiet.modTally {s : State} (g : Tally → Tally) : Quiet s (s.modTally g) := .of_sw rfl fun _ _ => rfl

/-! ### A request is taken -/

theorem health_takeAgent (s : State) (f : Frame) : (s.takeAgent f).health = s.health := within_takeAgent.same .health (by decide)

theorem host_takeAgent (s : State) (f : Frame) : (s.takeAgent f).host = s.host := within_takeAgent.same .host (by decide)

theorem health_retryAgents (s : State) : s.retryAgents.health = s.health := within_retryAgents.same .health (by decide)

theorem host_retryAgents (s : State) : s.retryAgents.host = s.host := within_retryAgents.same .host (by decide)

theorem health_agentSend (s : State) (a : Nat) (f : Frame) : (s.agentSend a f).health = s.health := within_agentSend.same .health (by decide)

theorem host_agentSend (s : State) (a : Nat) (f : Frame) : (s.agentSend a f).host = s.host := within_agentSend.same .host (by decide)

/-- A field above the counts of cells reads the same after a request is taken. -/
theorem fld_takeAgent (s : State) (f : Frame) {F : Fld} (h : 0x00300000 ≤ F.off) : (s.takeAgent f).fld F = s.fld F :=
  State.fld_eq_of_reg (State.reg_takeAgent_above h f)

theorem flag_takeAgent (s : State) (f : Frame) {F : Fld} (h : 0x00300000 ≤ F.off) : (s.takeAgent f).flag F = s.flag F :=
  State.flag_eq_of_reg (State.reg_takeAgent_above h f)

theorem stackLost_takeAgent (s : State) (f : Frame) (n : Nat) : (s.takeAgent f).stackLost n = s.stackLost n := by
  rw [State.stackLost, State.regBit, State.reg_takeAgent_above (by decide), State.stackLost, State.regBit]

/-! ### A write of whole pairs -/

/-- A write of whole pairs needs no more than its stacks. -/
theorem byte_poolWrite_pairs {s : State} {a : Nat} {bs : List Byte} (halign : a % 64 = 0) (hlen : bs.length % 64 = 0)
    (hup : ∀ p, a / 64 ≤ p → 64 * p < a + bs.length → s.stackLost (pairStack p) = false) (b : Nat) : (s.poolWrite a bs).byte b = overlay s.byte a bs b := by
  have hfuel : ∀ (n : Nat) (x : State) (a : Nat) (bs : List Byte), bs.length ≤ n → a % 64 = 0 → bs.length % 64 = 0 →
      (∀ p, a / 64 ≤ p → 64 * p < a + bs.length → x.stackLost (pairStack p) = false) →
      (State.poolWriteFuel n x a bs).byte b = overlay x.byte a bs b := by
    intro n
    induction n with
    | zero =>
      intro x a bs hn _ _ _
      rw [List.length_eq_zero_iff.1 (by omega : bs.length = 0), overlay_nil]
      rfl
    | succ n ih =>
      intro x a bs hn ha hl hx
      rw [State.poolWriteFuel]
      split
      next hempty =>
        rw [List.isEmpty_iff.1 hempty, overlay_nil]
      next hne =>
        have h64 : 64 ≤ bs.length := by
          have : bs.length ≠ 0 := fun h => hne (by simp [List.length_eq_zero_iff.1 h])
          omega
        have hpart : (bs.take 64).length = 64 := by simp; omega
        have hstack := hx (a / 64) (le_refl _) (by omega)
        have hput : ∀ c, (x.putPair (a / 64) (bs.take 64)).byte c = overlay x.byte a (bs.take 64) c := by
          intro c
          rw [State.byte_putPair x hstack hpart c, show 64 * (a / 64) = a by omega]
        simp only [ha, Nat.sub_zero, hpart, if_true]
        rw [ih _ _ _ (by simp; omega) (by omega) (by simp; omega) fun p hp hlt => by
          rw [State.stackLost, State.regBit, State.reg_putPair]
          rw [List.length_drop] at hlt
          exact hx p (by omega) (by omega)]
        rw [funext hput]
        conv_rhs => rw [← List.take_append_drop 64 bs]
        rw [← overlay_overlay, hpart]
  exact hfuel _ (s.transferred _) a bs le_rfl halign hlen hup

theorem peek_poolWrite_pairs {s : State} {a : Nat} {bs : List Byte} (halign : a % 64 = 0) (hlen : bs.length % 64 = 0)
    (hup : ∀ p, a / 64 ≤ p → 64 * p < a + bs.length → s.stackLost (pairStack p) = false) : (s.poolWrite a bs).peek a bs.length = bs :=
  peek_of_overlay rfl (byte_poolWrite_pairs halign hlen hup)

end Sys2Proof.Machine
end

section
/-! PROOF. O38, the frames of a snapshot kept for a guest and of a copy fetched back (R414, R415, R420). -/

-- Proofs are checked one at a time: side by side they would only wait for one another.
set_option Elab.async false

namespace Sys2Proof.Machine
open Sys2Proof

/-! ### An answer of the stopover agent -/

/-- The request is judged as it came: taking it changes nothing that the judgement reads. -/
theorem fromGuest_takeAgent (s : State) (f g : Frame) : (s.takeAgent g).fromGuest f = s.fromGuest f := by
  rw [State.fromGuest, flag_takeAgent s g (by decide), fld_takeAgent s g (by decide), State.fromGuest]

theorem guestBank_congr {s t : State} (h : t.health.guest = s.health.guest) : t.guestBank = s.guestBank := by
  rw [State.guestBank, h, State.guestBank]

theorem awaitsSegment_takeAgent (s : State) (f g : Frame) : (s.takeAgent g).awaitsSegment f = s.awaitsSegment f := by
  rw [State.awaitsSegment, host_takeAgent, fld_takeAgent s g (by decide), State.awaitsSegment]

theorem health_snapAck (s : State) (f : Frame) (n : Nat) (d : List Byte) : (s.snapAck f n d).health = s.health := health_agentSend s 2 _

theorem mem_snapAck (s : State) (f : Frame) (n : Nat) (d : List Byte) : (s.snapAck f n d).mem = s.mem := mem_agentSend s 2 _

section
variable {s x : State} {f : Frame} (hc : Calm s) (hx : Carries s x) (hroute : RouteTo s f.srcCoord)
include hc hx hroute

theorem replied_snapAck (status : Nat) : Replied ((x.snapAck f status []).retryAgents) f 0x1F [BitVec.ofNat 8 status] :=
  replied_away hc hx hroute 2 0x1F _

theorem replied_snapAck_digest (status : Nat) {d : List Byte} (hd : d.isEmpty = false) :
    Replied ((x.snapAck f status d).retryAgents) f 0x1F (padTo 8 [BitVec.ofNat 8 status] ++ d) := by
  rw [State.snapAck, hd]
  exact replied_away hc hx hroute 2 0x1F _

theorem replied_snapData (p : List Byte) : Replied ((x.snapData f p).retryAgents) f 0x1E p := replied_away hc hx hroute 2 0x1E p

end

/-- A refusal changes nothing but the switch. -/
theorem completes_snapRefused {s : State} {c : Instr} {f : Frame} {status : Nat} (hc : Calm s) (hroute : RouteTo s f.srcCoord)
    (hexec : exec c s = .next (((s.takeAgent f).snapAck f status []).retryAgents)) :
    Completes c s (fun t => t.health = s.health ∧ t.mem = s.mem ∧ Replied t f 0x1F [BitVec.ofNat 8 status]) :=
  ⟨_, hexec, by rw [health_retryAgents, health_snapAck, health_takeAgent], by rw [mem_retryAgents, mem_snapAck, mem_takeAgent],
    replied_snapAck hc (Quiet.takeAgent f).carries hroute status⟩

/-! ### SNAP_PUT (R414) -/

theorem exec_snapPut (f : Frame) (s : State) : exec (.snapPut f) s = execSnapPut f s := rfl

theorem exec_snapPut_stranger {s : State} {f : Frame} (h : s.fromGuest f = false) :
    exec (.snapPut f) s = .next (((s.takeAgent f).snapAck f 1 []).retryAgents) := by
  rw [exec_snapPut, execSnapPut, State.serveAny, if_pos (by rw [fromGuest_takeAgent, h]; rfl)]

theorem exec_snapPut_malformed {s : State} {f : Frame} (h : s.fromGuest f = true) (hlen : f.payload.length ≠ 4096) :
    exec (.snapPut f) s = .next (((s.takeAgent f).snapAck f 3 []).retryAgents) := by
  rw [exec_snapPut, execSnapPut, State.serveAny, if_neg (by rw [fromGuest_takeAgent, h]; decide), if_pos (.inl hlen)]

/-- The guest's piece is kept among those of its snapshot. -/
def State.guestPiece (s : State) (f : Frame) (segs : List (Nat × List Byte)) : State :=
  s.modHealth (fun h => { h with guestSeq := frameSeq f, guestSegs := segs ++ [(frameSeg f, f.payload)], guestDigest := none })

theorem health_guestPiece (s : State) (f : Frame) (segs : List (Nat × List Byte)) : (s.guestPiece f segs).health = { s.health with
    guestSeq := frameSeq f, guestSegs := segs ++ [(frameSeg f, f.payload)], guestDigest := none } := rfl

theorem Quiet.guestPiece {s : State} (f : Frame) (segs : List (Nat × List Byte)) : Quiet s (s.guestPiece f segs) := Quiet.modHealth _

theorem exec_snapPut_taken {s : State} {f : Frame} (h : s.fromGuest f = true) (hlen : f.payload.length = 4096) (hseg : frameSeg f < 0x7FFF)
    (hseq : s.health.guestSeq = frameSeq f) (hdigest : s.health.guestDigest = none) : exec (.snapPut f) s =
      .next ((((((s.takeAgent f).guestPiece f (s.health.guestSegs.filter (fun x => x.1 != frameSeg f))).poolWrite
        (segmentAt (2 + s.guestBank) (frameSeg f)) f.payload)).snapAck f 0 []).retryAgents) := by
  have hfresh : ((s.takeAgent f).health.guestSeq != frameSeq f || (s.takeAgent f).health.guestDigest.isSome) = false := by
    rw [health_takeAgent, hseq, hdigest]
    simp
  have hbank : ∀ segs, ((s.takeAgent f).guestPiece f segs).guestBank = s.guestBank := fun segs =>
    guestBank_congr (by rw [health_guestPiece, health_takeAgent])
  rw [exec_snapPut, execSnapPut, State.serveAny, if_neg (by rw [fromGuest_takeAgent, h]; decide), if_neg (by omega)]
  dsimp only
  rw [hfresh, if_neg Bool.false_ne_true, health_takeAgent]
  rw [← hbank (s.health.guestSegs.filter (fun x => x.1 != frameSeg f))]
  rfl

theorem completes_snapPut {s : State} {f : Frame} (hc : Calm s) (hroute : RouteTo s f.srcCoord) (h : s.fromGuest f = true)
    (hlen : f.payload.length = 4096) (hseg : frameSeg f < 0x7FFF) (hseq : s.health.guestSeq = frameSeq f) (hdigest : s.health.guestDigest = none)
    (hup : ∀ n < 8, s.stackLost n = false) : Completes (.snapPut f) s (fun t =>
      t.peek (segmentAt (2 + s.guestBank) (frameSeg f)) 4096 = f.payload ∧
      t.health.guestSegs = s.health.guestSegs.filter (fun x => x.1 != frameSeg f) ++ [(frameSeg f, f.payload)] ∧ Replied t f 0x1F [0]) := by
  have hmem : ∀ x : State, ((x.snapAck f 0 []).retryAgents).mem = x.mem := fun x => by rw [mem_retryAgents, mem_snapAck]
  have halign : segmentAt (2 + s.guestBank) (frameSeg f) % 64 = 0 := by
    unfold segmentAt
    omega
  have hkept : ∀ segs, ∀ n < 8, ((s.takeAgent f).guestPiece f segs).stackLost n = false := fun segs n hn =>
    (stackLost_takeAgent s f n).trans (hup n hn)
  have hread := fun segs => peek_poolWrite_pairs (bs := f.payload) halign (by omega) fun p _ _ => hkept segs _ (pairStack_lt p)
  simp only [hlen] at hread
  refine ⟨_, exec_snapPut_taken h hlen hseg hseq hdigest, (State.peek_congr_mem (hmem _) _ _).trans (hread _), ?_, ?_⟩
  · rw [health_retryAgents, health_snapAck, within_poolWrite.same .health (by decide), health_guestPiece]
  · refine replied_snapAck hc ?_ hroute 0
    exact (((Quiet.takeAgent f).trans (Quiet.guestPiece f _)).trans (Quiet.poolWrite _ _)).carries

/-! ### SNAP_DONE and SNAP_CONFIRM (R415) -/

theorem exec_snapDone_good {s : State} {f : Frame} {bytes : List Byte} (h : s.fromGuest f = true) (hlen : f.payload.length = 8)
    (hseq : s.health.guestSeq = frameSeq f) (hall : gather s.health.guestSegs (leNat f.payload) = some bytes) : exec (.snapDone f) s =
      .next ((((s.takeAgent f).modHealth (fun h => { h with guestDigest := some (bytes.length, shake 64 bytes) })).snapAck f 0
        (shake 64 bytes)).retryAgents) := by
  show execSnapDone f s = _
  rw [execSnapDone, State.serveAny, if_neg (by rw [fromGuest_takeAgent, h]; decide), if_neg (by rw [health_takeAgent]; simp [hlen, hseq]),
    health_takeAgent, hall]

theorem exec_snapDone_incomplete {s : State} {f : Frame} (h : s.fromGuest f = true) (hall : gather s.health.guestSegs (leNat f.payload) = none) :
    exec (.snapDone f) s = .next (((s.takeAgent f).snapAck f 3 []).retryAgents) := by
  show execSnapDone f s = _
  rw [execSnapDone, State.serveAny, if_neg (by rw [fromGuest_takeAgent, h]; decide), health_takeAgent, hall]
  split <;> rfl

theorem completes_snapDone {s : State} {f : Frame} {bytes : List Byte} (hc : Calm s) (hroute : RouteTo s f.srcCoord) (h : s.fromGuest f = true)
    (hlen : f.payload.length = 8) (hseq : s.health.guestSeq = frameSeq f) (hall : gather s.health.guestSegs (leNat f.payload) = some bytes) :
    Completes (.snapDone f) s (fun t =>
      t.health.guestDigest = some (bytes.length, shake 64 bytes) ∧ t.health.guestSegs = s.health.guestSegs ∧
      Replied t f 0x1F (padTo 8 [0] ++ shake 64 bytes)) := by
  refine ⟨_, exec_snapDone_good h hlen hseq hall, ?_, ?_, ?_⟩
  · rw [health_retryAgents, health_snapAck]
    rfl
  · rw [health_retryAgents, health_snapAck]
    show (s.takeAgent f).health.guestSegs = _
    rw [health_takeAgent]
  · refine replied_snapAck_digest hc ?_ hroute 0 rfl
    exact ((Quiet.takeAgent f).trans (Quiet.modHealth _)).carries

theorem exec_snapConfirm_judged {s : State} {f : Frame} {len : Nat} {d : List Byte} (h : s.fromGuest f = true) (hlen : f.payload.length = 64)
    (hseq : s.health.guestSeq = frameSeq f) (hdigest : s.health.guestDigest = some (len, d)) : exec (.snapConfirm f) s =
      .next ((if f.payload = d then
          ((((s.takeAgent f).modHealth (fun h => { h with guestSegs := [], guestDigest := none })).modHealth (fun h => { h with
            guest := some (s.guestBank, frameSeq f, len, d,
              captureTime (((s.health.guestSegs.find? (fun x => x.1 == 0)).map (·.2)).getD [])) })).raise PH_STOP_STATUS_GUEST_HELD).snapAck f 0 []
        else ((s.takeAgent f).modHealth (fun h => { h with guestSegs := [], guestDigest := none })).snapAck f 2 []).retryAgents) := by
  show execSnapConfirm f s = _
  have hbank : (s.takeAgent f).guestBank = s.guestBank := guestBank_congr (congrArg Health.guest (health_takeAgent s f))
  rw [execSnapConfirm, State.serveAny, if_neg (by rw [fromGuest_takeAgent, h]; decide), health_takeAgent, hdigest]
  dsimp only
  rw [if_neg (by simp [hlen, hseq]), hbank]

theorem not_routeReg_stopStatus : ¬RouteReg PH_STOP_STATUS := by
  unfold RouteReg
  decide

theorem completes_snapConfirm {s : State} {f : Frame} {len : Nat} (hc : Calm s) (hroute : RouteTo s f.srcCoord) (h : s.fromGuest f = true)
    (hlen : f.payload.length = 64) (hseq : s.health.guestSeq = frameSeq f) (hdigest : s.health.guestDigest = some (len, f.payload)) :
    Completes (.snapConfirm f) s (fun t =>
      t.health.guest.map (fun g => (g.1, g.2.1, g.2.2.1, g.2.2.2.1)) = some (s.guestBank, frameSeq f, len, f.payload) ∧ t.health.guestDigest = none ∧
      t.fld PH_STOP_STATUS_GUEST_HELD = 1 ∧ Replied t f 0x1F [0]) := by
  refine ⟨_, (exec_snapConfirm_judged h hlen hseq hdigest).trans (by rw [if_pos rfl]), ?_, ?_, ?_, ?_⟩
  · rw [health_retryAgents, health_snapAck]
    rfl
  · rw [health_retryAgents, health_snapAck]
    rfl
  · have hoff : OffCore PH_STOP_STATUS := offCore_above (by decide)
    rw [State.fld_eq_of_reg (f := PH_STOP_STATUS_GUEST_HELD) (State.reg_retryAgents hoff), State.snapAck,
      State.fld_eq_of_reg (f := PH_STOP_STATUS_GUEST_HELD) (State.reg_agentSend hoff _ _), State.fld_raise_same _ _ (by decide)]
    rfl
  · refine replied_snapAck hc ?_ hroute 0
    exact (((Quiet.takeAgent f).trans (Quiet.modHealth _)).trans ((Quiet.modHealth _).trans (Quiet.raise not_routeReg_stopStatus))).carries

theorem completes_snapConfirm_other {s : State} {f : Frame} {len : Nat} {d : List Byte} (hc : Calm s) (hroute : RouteTo s f.srcCoord)
    (h : s.fromGuest f = true) (hlen : f.payload.length = 64) (hseq : s.health.guestSeq = frameSeq f) (hdigest : s.health.guestDigest = some (len, d))
    (hne : f.payload ≠ d) : Completes (.snapConfirm f) s (fun t =>
      t.health.guest = s.health.guest ∧ t.health.guestDigest = none ∧ Replied t f 0x1F [2]) := by
  refine ⟨_, (exec_snapConfirm_judged h hlen hseq hdigest).trans (by rw [if_neg hne]), ?_, ?_, ?_⟩
  · rw [health_retryAgents, health_snapAck]
    show (s.takeAgent f).health.guest = _
    rw [health_takeAgent]
  · rw [health_retryAgents, health_snapAck]
    rfl
  · refine replied_snapAck hc ?_ hroute 2
    exact ((Quiet.takeAgent f).trans (Quiet.modHealth _)).carries

/-! ### SNAP_GET (R417) -/

theorem exec_snapGet_header {s : State} {f : Frame} {bank seq len at_ : Nat} {d : List Byte} (h : s.fromGuest f = true) (hempty : f.payload = [])
    (hguest : s.health.guest = some (bank, seq, len, d, at_)) (hseg : frameSeg f = 0x7FFF) : exec (.snapGet f) s =
      .next (((s.takeAgent f).snapData f (natLE 4 seq ++ natLE 8 len ++ d ++ natLE 8 at_)).retryAgents) := by
  show execSnapGet f s = _
  rw [execSnapGet, State.serveAny, if_neg (by rw [fromGuest_takeAgent, h]; decide), if_neg (by simp [hempty]), health_takeAgent, hguest]
  dsimp only
  rw [if_pos hseg]

theorem exec_snapGet_piece {s : State} {f : Frame} {bank seq len at_ : Nat} {d b : List Byte} (h : s.fromGuest f = true) (hempty : f.payload = [])
    (hguest : s.health.guest = some (bank, seq, len, d, at_)) (hlt : frameSeg f < segments len) (hseg : frameSeg f ≠ 0x7FFF)
    (hread : ((s.takeAgent f).poolRead (segmentAt (2 + bank) (frameSeg f)) 4096).1 = some b) : exec (.snapGet f) s =
      .next ((((s.takeAgent f).poolRead (segmentAt (2 + bank) (frameSeg f)) 4096).2.snapData f b).retryAgents) := by
  show execSnapGet f s = _
  rw [execSnapGet, State.serveAny, if_neg (by rw [fromGuest_takeAgent, h]; decide), if_neg (by simp [hempty]), health_takeAgent, hguest]
  dsimp only
  rw [if_neg hseg, if_neg (by omega)]
  generalize (s.takeAgent f).poolRead (segmentAt (2 + bank) (frameSeg f)) 4096 = r at hread
  obtain ⟨o, x⟩ := r
  obtain rfl : o = some b := hread
  rfl

theorem exec_snapGet_none {s : State} {f : Frame} (h : s.fromGuest f = true) (hempty : f.payload = []) (hguest : s.health.guest = none) :
    exec (.snapGet f) s = .next (((s.takeAgent f).snapAck f 2 []).retryAgents) := by
  show execSnapGet f s = _
  rw [execSnapGet, State.serveAny, if_neg (by rw [fromGuest_takeAgent, h]; decide), if_neg (by simp [hempty]), health_takeAgent, hguest]

theorem completes_snapGet_header {s : State} {f : Frame} {bank seq len at_ : Nat} {d : List Byte} (hc : Calm s) (hroute : RouteTo s f.srcCoord)
    (h : s.fromGuest f = true) (hempty : f.payload = []) (hguest : s.health.guest = some (bank, seq, len, d, at_)) (hseg : frameSeg f = 0x7FFF) :
    Completes (.snapGet f) s (fun t => Replied t f 0x1E (natLE 4 seq ++ natLE 8 len ++ d ++ natLE 8 at_) ∧ t.health = s.health) :=
  ⟨_, exec_snapGet_header h hempty hguest hseg, replied_snapData hc (Quiet.takeAgent f).carries hroute _,
    by rw [health_retryAgents, State.snapData, health_agentSend, health_takeAgent]⟩

theorem completes_snapGet_piece {s : State} {f : Frame} {bank seq len at_ : Nat} {d : List Byte} (hc : Calm s) (hroute : RouteTo s f.srcCoord)
    (h : s.fromGuest f = true) (hempty : f.payload = []) (hguest : s.health.guest = some (bank, seq, len, d, at_)) (hlt : frameSeg f < segments len)
    (hseg : frameSeg f ≠ 0x7FFF) (hs : Healthy s) :
    Completes (.snapGet f) s (fun t => Replied t f 0x1E (s.peek (segmentAt (2 + bank) (frameSeg f)) 4096) ∧ t.health = s.health) := by
  have hread : ((s.takeAgent f).poolRead (segmentAt (2 + bank) (frameSeg f)) 4096).1 = some (s.peek (segmentAt (2 + bank) (frameSeg f)) 4096) := by
    have hsound : Sound (s.takeAgent f) := hs.sound.congr (mem_takeAgent s f) (State.reg_takeAgent_above (by decide) f)
    rw [hsound.poolRead fun p _ => pairGood_takeAgent f (hs.good p), State.peek_congr_mem (mem_takeAgent s f)]
  refine ⟨_, exec_snapGet_piece h hempty hguest hlt hseg hread, ?_, ?_⟩
  · exact replied_snapData hc ((Quiet.takeAgent f).trans (Quiet.poolRead _ _)).carries hroute _
  · rw [health_retryAgents, State.snapData, health_agentSend, within_poolRead.same .health (by decide), health_takeAgent]

/-! ### SNAP_DATA (R417, R420) -/

theorem exec_snapData_ready {s : State} {f : Frame} (h : s.awaitsSegment f = true) (hlen : f.payload.length = 4096) :
    exec (.snapData f) s = .next (((s.takeAgent f).answerReady 0 f.payload).retryAgents) := by
  show execSnapData f s = _
  rw [execSnapData, State.serveAny, if_pos (by rw [awaitsSegment_takeAgent, h]), if_pos hlen]

theorem completes_snapData_ready {s : State} {f : Frame} {b : Background} (hc : Calm s) (hb : s.host.background = some b) (hop : b.opcode = 0xC031)
    (hready : b.ready = false) (hsrc : f.srcCoord = s.fld PH_STOP_CFG_PARTNER) (hlen : f.payload.length = 4096) : Completes (.snapData f) s (fun t =>
      t.host.background = some { b with code := 0, payload := f.payload, ready := true } ∧ t.health = s.health) := by
  have hawaits : s.awaitsSegment f = true := by simp [State.awaitsSegment, hb, hop, hready, hsrc]
  have hcalm : Calm ((s.takeAgent f).answerReady 0 f.payload) := (Quiet.takeAgent f).calm hc
  refine ⟨_, exec_snapData_ready hawaits hlen, ?_, ?_⟩
  · rw [Calm.retryAgents hcalm]
    show ((s.takeAgent f).host.background).map _ = _
    rw [host_takeAgent, hb]
    rfl
  · rw [Calm.retryAgents hcalm]
    exact health_takeAgent s f

section
variable {s : State} {f : Frame} (hawaits : s.awaitsSegment f = false) (hbusy : s.flag PH_RESTORE_STATUS_BUSY = true)
  (hrest : s.health.restored = false) (hfrom : f.srcCoord = s.fld PH_RESTORE_CTRL_FROM)
include hawaits hbusy hrest hfrom

theorem exec_snapData_record (hrec : s.health.record = none) (hseg : frameSeg f = 0x7FFF) (hlen : f.payload.length = 84) :
    exec (.snapData f) s = .next (((s.takeAgent f).takeRecord f.payload).retryAgents) := by
  show execSnapData f s = _
  have hgo : ¬((!(s.takeAgent f).flag PH_RESTORE_STATUS_BUSY) = true ∨ (s.takeAgent f).health.restored = true ∨
      f.srcCoord ≠ (s.takeAgent f).fld PH_RESTORE_CTRL_FROM) := by
    rw [flag_takeAgent s f (by decide), fld_takeAgent s f (by decide), health_takeAgent]
    simp [hbusy, hrest, hfrom]
  rw [execSnapData, State.serveAny, if_neg (by rw [awaitsSegment_takeAgent, hawaits]; decide), if_neg hgo, health_takeAgent, hrec]
  dsimp only
  rw [if_pos ⟨hseg, hlen⟩]

/-- A piece of the copy joins those that came before. -/
theorem exec_snapData_piece {len at_ : Nat} {d : List Byte} (hrec : s.health.record = some (frameSeq f, len, d, at_)) (hlt : frameSeg f < segments len)
    (hlen : f.payload.length = 4096) (hmore : s.health.segs.length + 1 < segments len) : exec (.snapData f) s =
      .next (((s.takeAgent f).modHealth (fun h => { h with
        segs := h.segs.filter (fun x => x.1 != frameSeg f) ++ [(frameSeg f, f.payload)] })).retryAgents) := by
  show execSnapData f s = _
  have hgo : ¬((!(s.takeAgent f).flag PH_RESTORE_STATUS_BUSY) = true ∨ (s.takeAgent f).health.restored = true ∨
      f.srcCoord ≠ (s.takeAgent f).fld PH_RESTORE_CTRL_FROM) := by
    rw [flag_takeAgent s f (by decide), fld_takeAgent s f (by decide), health_takeAgent]
    simp [hbusy, hrest, hfrom]
  have hfew : ((s.takeAgent f).modHealth (fun h => { h with
      segs := h.segs.filter (fun x => x.1 != frameSeg f) ++ [(frameSeg f, f.payload)] })).health.segs.length < segments len := by
    have hle := List.length_filter_le (fun x : Nat × List Byte => x.1 != frameSeg f) s.health.segs
    show ((s.takeAgent f).health.segs.filter (fun x => x.1 != frameSeg f) ++ [(frameSeg f, f.payload)]).length < _
    rw [health_takeAgent, List.length_append, List.length_singleton]
    omega
  rw [execSnapData, State.serveAny, if_neg (by rw [awaitsSegment_takeAgent, hawaits]; decide), if_neg hgo, health_takeAgent, hrec]
  dsimp only
  rw [if_neg (by omega), if_pos hfew]

theorem completes_snapData_piece {len at_ : Nat} {d : List Byte} (hc : Calm s) (hrec : s.health.record = some (frameSeq f, len, d, at_))
    (hlt : frameSeg f < segments len) (hlen : f.payload.length = 4096) (hmore : s.health.segs.length + 1 < segments len) :
    Completes (.snapData f) s (fun t => t.health.segs = s.health.segs.filter (fun x => x.1 != frameSeg f) ++ [(frameSeg f, f.payload)] ∧
      t.fld PH_RESTORE_STATUS_BUSY = 1) := by
  have hcalm : Calm ((s.takeAgent f).modHealth (fun h => { h with
      segs := h.segs.filter (fun x => x.1 != frameSeg f) ++ [(frameSeg f, f.payload)] })) := (Quiet.takeAgent f).calm hc
  refine ⟨_, exec_snapData_piece hawaits hbusy hrest hfrom hrec hlt hlen hmore, ?_, ?_⟩
  · rw [Calm.retryAgents hcalm]
    show (s.takeAgent f).health.segs.filter _ ++ _ = _
    rw [health_takeAgent]
  · rw [Calm.retryAgents hcalm]
    have hone : s.fld PH_RESTORE_STATUS_BUSY < 2 := s.fld_lt PH_RESTORE_STATUS_BUSY
    have hset : s.fld PH_RESTORE_STATUS_BUSY ≠ 0 := by simpa [State.flag] using hbusy
    exact (fld_takeAgent s f (F := PH_RESTORE_STATUS_BUSY) (by decide)).trans (by omega)

end

/-- To a module on one axis the stopover agent's frames leave. -/
theorem unreachable_of_routeTo {s : State} {c : Nat} (h : RouteTo s c) : s.unreachable c = false := by
  obtain ⟨d, -, hfate⟩ := Goes.fate (s := s) (f := { blankFrame with
    kind := 0x1D, vc := 0, destKind := 3, dstCoord := c, dstPort := 0xF2, srcCoord := s.coord, srcPort := 0xF2 }) ⟨rfl, .inr ⟨h, show (0 : Nat) ≠ 2 by decide⟩⟩
  rw [State.unreachable, hfate]

theorem Keeps.toStop {s : State} (c k i q : Nat) (p : List Byte) : Keeps s (s.toStop c k i q p) := Keeps.agentSend _ _

theorem health_toStop (s : State) (c k i q : Nat) (p : List Byte) : (s.toStop c k i q p).health = s.health := health_agentSend _ _ _

theorem reg_toStop {s : State} {o : Nat} (ho : OffCore o) (c k i q : Nat) (p : List Byte) : (s.toStop c k i q p).reg o = s.reg o :=
  State.reg_agentSend ho _ _

/-- The register that names where the copy comes from keeps its value while the pieces are asked for. -/
theorem foldl_toStop_from {c : Nat} (k q : Nat) (p : List Byte) (l : List Nat) {s : State} (h : s.fld PH_RESTORE_CTRL_FROM = c) :
    l.foldl (fun x i => x.toStop (x.fld PH_RESTORE_CTRL_FROM) k i q p) s = l.foldl (fun x i => x.toStop c k i q p) s := by
  induction l generalizing s with
  | nil => rfl
  | cons i l ih =>
    rw [List.foldl_cons, List.foldl_cons, h, ih]
    exact (State.fld_eq_of_reg (f := PH_RESTORE_CTRL_FROM) (reg_toStop (offCore_above (by decide)) _ _ _ _ _)).trans h

/-- The copy's header is kept, and its pieces are asked for. -/
theorem takeRecord_eq {s : State} {p : List Byte} {c : Nat} (hstop : s.host.flash.stop = none) (hfrom : s.fld PH_RESTORE_CTRL_FROM = c)
    (hroute : RouteTo s c) :
    s.takeRecord p = (List.range (segments (leAt p 4 8))).foldl (fun x i => x.toStop c 0x1D i (leAt p 0 4) [])
      (s.modHealth (fun h => { h with record := some (leAt p 0 4, leAt p 4 8, (p.drop 12).take 64, leAt p 76 8) })) := by
  rw [State.takeRecord]
  dsimp only
  rw [hstop, hfrom, unreachable_of_routeTo hroute, if_neg Bool.false_ne_true, if_neg Bool.false_ne_true]
  exact foldl_toStop_from _ _ _ _ hfrom

/-- A frame to the stopover agent of a module on one axis is posted. -/
theorem posted_toStop {s : State} (hn : Numbered s) {c : Nat} (hroute : RouteTo s c) (k i q : Nat) (p : List Byte) :
    ∃ g : Frame, (g.kind = k ∧ g.dstCoord = c ∧ g.dstPort = 0xF2 ∧ g.address = i + q * 2 ^ 15 ∧ g.payload = p) ∧ Posted (s.toStop c k i q p) g :=
  ⟨_, ⟨rfl, rfl, rfl, rfl, rfl⟩, posted_away hn 2 (f := { blankFrame with
    kind := k, vc := 0, destKind := 3, dstCoord := c, dstPort := 0xF2, address := i + q * 2 ^ 15, payload := p }) rfl hroute⟩

theorem completes_snapData_record {s : State} {f : Frame} (hc : Calm s) (hroute : RouteTo s f.srcCoord) (hawaits : s.awaitsSegment f = false)
    (hbusy : s.flag PH_RESTORE_STATUS_BUSY = true) (hrest : s.health.restored = false) (hfrom : f.srcCoord = s.fld PH_RESTORE_CTRL_FROM)
    (hrec : s.health.record = none) (hseg : frameSeg f = 0x7FFF) (hlen : f.payload.length = 84) (hstop : s.host.flash.stop = none) :
    Completes (.snapData f) s (fun t =>
      t.health.record = some (leAt f.payload 0 4, leAt f.payload 4 8, (f.payload.drop 12).take 64, leAt f.payload 76 8) ∧
      ∀ i < segments (leAt f.payload 4 8), Sent t (fun g => g.kind == 0x1D && g.dstCoord == f.srcCoord && g.dstPort == 0xF2 &&
        g.address == i + leAt f.payload 0 4 * 2 ^ 15)) := by
  have hctrl : (s.takeAgent f).fld PH_RESTORE_CTRL_FROM = f.srcCoord := (fld_takeAgent s f (by decide)).trans hfrom.symm
  have hrecord := takeRecord_eq (s := s.takeAgent f) (p := f.payload) (by rw [host_takeAgent]; exact hstop) hctrl
    (RouteTo.routes hroute (Quiet.takeAgent f).routes)
  refine ⟨_, exec_snapData_record hawaits hbusy hrest hfrom hrec hseg hlen, ?_, fun i hi => ?_⟩
  · rw [health_retryAgents, hrecord]
    exact List.foldlRecOn _ _ (motive := fun x : State => x.health.record = _) rfl fun x hx i _ => by rw [health_toStop, hx]
  · have hkept := ((Quiet.takeAgent f).trans (Quiet.modHealth (s := s.takeAgent f) (fun h => { h with
      record := some (leAt f.payload 0 4, leAt f.payload 4 8, (f.payload.drop 12).take 64, leAt f.payload 76 8) }))).keeps
    rw [hrecord]
    generalize (s.takeAgent f).modHealth _ = y at hkept ⊢
    have hkeep : ∀ x : State, ∀ j ∈ List.range (segments (leAt f.payload 4 8)), Keeps x (x.toStop f.srcCoord 0x1D j (leAt f.payload 0 4) []) :=
      fun x j _ => Keeps.toStop _ _ _ _ _
    have hnum := hkept.numbered (Calm.numbered hc)
    obtain ⟨g, ⟨hkind, hdst, hport, haddr, -⟩, hposted⟩ := posted_foldl (List.mem_range.2 hi) hnum hkeep fun x hr hn =>
      posted_toStop hn (RouteTo.routes hroute (hkept.routes.trans hr)) 0x1D i (leAt f.payload 0 4) []
    have hlast := (Keeps.foldl _ hkeep y).numbered hnum
    exact (Carries.retryAgents.posted hlast g hposted).sent (by simp [hkind, hdst, hport, haddr])

end Sys2Proof.Machine
end

section
/-! PROOF. O38: the frames of the stopover agents complete with their effect. A stopover ends in phase 5 with its result; the credits that tallies
owed are sent then, which loses no frame. -/

-- Proofs are checked one at a time: side by side they would only wait for one another.
set_option Elab.async false

namespace Sys2Proof.Machine
open Sys2Proof

/-! ### Credits owed (R187) -/

theorem Keeps.creditTo {s : State} (c : TCtx) (x : Nat × TSlot) : Keeps s (s.creditTo c x) := Keeps.agentSend _ _

theorem Quiet.putCtx {s : State} (c : TCtx) : Quiet s (s.putCtx c) := Quiet.modTally _

theorem State.reg_putCtx (s : State) (c : TCtx) (o : Nat) : (s.putCtx c).reg o = s.reg o := rfl

theorem State.reg_creditTo {s : State} {o : Nat} (ho : OffCore o) (c : TCtx) (x : Nat × TSlot) : (s.creditTo c x).reg o = s.reg o :=
  State.reg_agentSend ho _ _

/-- The credits noted as sent touch tallies alone. -/
theorem credited_quiet (s : State) (c : TCtx) (x : Nat × TSlot) :
    Quiet s (match s.ctxAt? c.idx with
      | some c' => s.putCtx { c' with credited := sparseInsert x.1 c.limit (sparseErase c'.credited x.1) }
      | none => s) := by
  split
  · exact Quiet.putCtx _
  · exact Quiet.refl s

theorem Keeps.sendCredits {s : State} (c : TCtx) (last : Bool) : Keeps s (s.sendCredits c last) := by
  rw [State.sendCredits]
  split
  · exact Keeps.refl s
  · split
    · split
      · exact (Quiet.putCtx _).keeps
      · exact Keeps.refl s
    · exact (Keeps.foldl _ (fun x y _ => Keeps.creditTo c y) s).trans (Keeps.foldl _ (fun x y _ => (credited_quiet x c y).keeps) _)

theorem State.reg_sendCredits {s : State} {o : Nat} (ho : OffCore o) (c : TCtx) (last : Bool) : (s.sendCredits c last).reg o = s.reg o := by
  rw [State.sendCredits]
  split
  · rfl
  · split
    · split <;> rfl
    · refine (State.reg_foldl (fun x y _ => ?_) _).trans (State.reg_foldl (fun x y _ => State.reg_creditTo ho c y) s)
      split <;> rfl

theorem Keeps.resumeCredits {s : State} : Keeps s s.resumeCredits := by
  rw [State.resumeCredits]
  refine Keeps.trans ?_ (Keeps.foldl _ (fun x c _ => (Quiet.putCtx _).keeps.trans (Keeps.sendCredits _ _)) _)
  exact (Quiet.modTally _).keeps.trans (Keeps.foldl _ (fun x c _ => Keeps.foldl _ (fun y z _ => Keeps.creditTo c z) x) _)

theorem State.reg_resumeCredits {s : State} {o : Nat} (ho : OffCore o) : s.resumeCredits.reg o = s.reg o := by
  rw [State.resumeCredits]
  refine (State.reg_foldl (fun x c _ => (State.reg_sendCredits (s := x.putCtx { c with creditDue := false }) ho _ _).trans rfl) _).trans ?_
  exact State.reg_foldl (fun x c _ => State.reg_foldl (fun y z _ => State.reg_creditTo ho c z) x) _

/-! ### No check waits (R408) -/

theorem modifyAt_self {α : Type} {f : α → α} {l : List α} (h : ∀ a ∈ l, f a = a) (i : Nat) : modifyAt f i l = l := by
  rw [modifyAt_eq_modify]
  refine List.ext_getElem (by simp) fun j hj hj' => ?_
  rw [List.getElem_modify]
  split
  · exact h _ (List.getElem_mem hj')
  · rfl

/-- Where no core keeps a check back, none is handled at the end of a stopover. -/
theorem heldChecks_of_none {s : State} (h : ∀ k ∈ s.clusters.cores, k.checks = []) : s.heldChecks = s := by
  have hcore : ∀ c, (s.core c).checks = [] := by
    intro c
    rw [State.core, List.getD_eq_getElem?_getD]
    cases hc : s.clusters.cores[c]? with
    | none => rfl
    | some k => exact h k (List.mem_of_getElem? hc)
  have hclear : ∀ c, s.modCore c (fun k => { k with checks := [] }) = s := by
    intro c
    have hsame : modifyAt (fun k : Core => { k with checks := [] }) c s.clusters.cores = s.clusters.cores :=
      modifyAt_self (fun k hk => by rw [← h k hk]) c
    rw [State.modCore, State.modClusters, hsame]
  rw [State.heldChecks]
  refine List.foldlRecOn _ _ (motive := fun x : State => x = s) rfl fun x hx c _ => ?_
  rw [hx, hcore, hclear]
  rfl

/-! ### A stopover ends (R417) -/

/-- The module back in service after a stopover, with its result. -/
def State.stopped (s : State) (r : Nat) : State :=
  (((s.stopResult r).setPhase 5).resumeCredits).setReg PH_STOP_END (BitVec.ofNat 64 s.now)

theorem within_stopped (s : State) (r : Nat) : Within [.regs, .power, .sw, .tally, .health, .host, .out] s (s.stopped r) :=
  within_setReg.andThen (by decide) (within_resumeCredits.andThen (by decide) (within_setPhase.andThen (by decide)
    (within_stopResult.mono (by decide))))

theorem stopAnswer_reg (s : State) (r o : Nat) : (s.stopAnswer r).reg o = s.reg o := within_stopAnswer.reg (by decide) o

theorem stopResult_reg_other (s : State) (r : Nat) {o : Nat} (ho : o ≠ PH_STOP_STATUS) : (s.stopResult r).reg o = s.reg o := by
  rw [State.stopResult, stopAnswer_reg, State.reg_setFld_other _ _ _ ho, State.reg_setFld_other _ _ _ ho]

theorem reg_stopped_other (s : State) (r : Nat) {o : Nat} (ho : OffCore o) (hstatus : o ≠ PH_STOP_STATUS) (hstate : o ≠ DV_STATE)
    (hend : o ≠ PH_STOP_END) : (s.stopped r).reg o = s.reg o := by
  rw [State.stopped, State.reg_setReg_other _ _ hend, State.reg_resumeCredits ho, State.reg_setPhase_other _ _ _ hstate,
    stopResult_reg_other s r hstatus]

theorem reg_stopped_end (s : State) (r : Nat) : (s.stopped r).reg PH_STOP_END = BitVec.ofNat 64 s.now := State.reg_setReg_same _ _ _

theorem phase_stopped (s : State) (r : Nat) : (s.stopped r).phase = 5 := by
  rw [State.phase, State.stopped, State.fld_setReg_off _ _ _ _ (by decide),
    State.fld_eq_of_reg (f := DV_STATE_PHASE) (State.reg_resumeCredits (offCore_of_lt (by decide)))]
  exact State.phase_setPhase _ 5 (by decide)

/-- The stopover's status as its end leaves it. -/
theorem reg_stopped_status (s : State) (r : Nat) : (s.stopped r).reg PH_STOP_STATUS = (s.stopResult r).reg PH_STOP_STATUS := by
  rw [State.stopped, State.reg_setReg_other _ _ (by decide), State.reg_resumeCredits (offCore_above (by decide)),
    State.reg_setPhase_other _ _ _ (by decide)]

theorem fld_stopped_state {s : State} (r : Nat) (harmed : s.health.stopArmed = false) : (s.stopped r).fld PH_STOP_STATUS_STATE = 0 := by
  rw [State.fld_eq_of_reg (f := PH_STOP_STATUS_STATE) (reg_stopped_status s r), State.stopResult,
    State.fld_eq_of_reg (f := PH_STOP_STATUS_STATE) (stopAnswer_reg _ r _), State.fld_setFld_apart _ _ _ _ (by decide), harmed,
    State.fld_setFld_same _ _ _ (by decide)]
  rfl

theorem fld_stopped_result (s : State) {r : Nat} (hr : r < 16) : (s.stopped r).fld PH_STOP_STATUS_RESULT = r := by
  rw [State.fld_eq_of_reg (f := PH_STOP_STATUS_RESULT) (reg_stopped_status s r), State.stopResult,
    State.fld_eq_of_reg (f := PH_STOP_STATUS_RESULT) (stopAnswer_reg _ r _)]
  exact State.fld_setFld_fits _ (by decide) hr

/-- A field of the status that the end of a stopover does not set. -/
theorem fld_stopped_apart (s : State) (r : Nat) {F : Fld} (hoff : F.off = PH_STOP_STATUS) (hstate : PH_STOP_STATUS_STATE.apart F)
    (hresult : PH_STOP_STATUS_RESULT.apart F) : (s.stopped r).fld F = s.fld F := by
  have hreg : (s.stopped r).reg F.off = (s.stopResult r).reg F.off := by rw [hoff, reg_stopped_status]
  rw [State.fld_eq_of_reg hreg, State.stopResult, State.fld_eq_of_reg (f := F) (stopAnswer_reg _ r _), State.fld_setFld_apart _ _ _ _ hresult, State.fld_setFld_apart _ _ _ _ hstate]

theorem not_routeReg_stopEnd : ¬RouteReg PH_STOP_END := by
  unfold RouteReg
  decide

theorem not_routeReg_state : ¬RouteReg DV_STATE := by
  unfold RouteReg
  decide

theorem Quiet.setPhase {s : State} (p : Nat) : Quiet s (s.setPhase p) :=
  .of_regs within_setPhase (by decide) fun _ ho => s.reg_setPhase_other p _ fun e => not_routeReg_state (e ▸ ho)

theorem Quiet.stopResult {s : State} (r : Nat) : Quiet s (s.stopResult r) :=
  .of_regs within_stopResult (by decide) fun _ ho => stopResult_reg_other s r fun e => not_routeReg_stopStatus (e ▸ ho)

theorem Keeps.stopped {s : State} (r : Nat) : Keeps s (s.stopped r) :=
  (((Quiet.stopResult r).trans (Quiet.setPhase 5)).keeps.trans Keeps.resumeCredits).trans (Quiet.setReg not_routeReg_stopEnd _).keeps

section
variable {s : State} (hchecks : ∀ k ∈ s.clusters.cores, k.checks = [])
include hchecks

theorem heldChecks_stopped (r : Nat) : ((s.stopResult r).setPhase 5).resumeCredits.heldChecks = ((s.stopResult r).setPhase 5).resumeCredits := by
  refine heldChecks_of_none ?_
  have hwithin : Within [.regs, .power, .sw, .tally, .health, .host, .out] s (((s.stopResult r).setPhase 5).resumeCredits) :=
    within_resumeCredits.andThen (by decide) (within_setPhase.andThen (by decide) (within_stopResult.mono (by decide)))
  have hclusters : ((s.stopResult r).setPhase 5).resumeCredits.clusters = s.clusters := hwithin.same .clusters (by decide)
  rw [hclusters]
  exact hchecks

theorem stopEnds_failed {r : Nat} (hr : r ≠ 0) : s.stopEnds r = (s.stopped r).fault 0x302 0x39 r := by
  rw [State.stopEnds]
  dsimp only
  rw [if_pos hr, heldChecks_stopped hchecks]
  rfl

end

theorem severity_stopped (s : State) (r source kind : Nat) (h : source < 1024) : (s.stopped r).severity source kind = s.severity source kind := by
  refine State.severity_congr (reg_stopped_other s r (offCore_of_lt ?_) ?_ ?_ ?_) kind
  · unfold WATCH_SEV
    omega
  · unfold WATCH_SEV PH_STOP_STATUS
    omega
  · unfold WATCH_SEV DV_STATE
    omega
  · unfold WATCH_SEV PH_STOP_END
    omega

theorem leNat_lt (l : List Byte) : leNat l < 256 ^ l.length := by
  induction l with
  | nil => decide
  | cons b l ih =>
    have hb : b.toNat < 256 := b.isLt
    rw [leNat, List.length_cons, Nat.pow_succ]
    omega

theorem leAt_lt (l : List Byte) (off n : Nat) : leAt l off n < 256 ^ n :=
  lt_of_lt_of_le (leNat_lt _) (Nat.pow_le_pow_right (by decide) (by simp))

/-- The words of the digest after a stopover that ended well. -/
def State.digestShown (s : State) : State :=
  (List.range 8).foldl (fun s w => s.setReg (PH_STOP_DIGEST w) (BitVec.ofNat 64 (leAt s.health.snapDigest (8 * w) 8))) s

theorem digestShown_health (s : State) : s.digestShown.health = s.health :=
  List.foldlRecOn _ _ (motive := fun x : State => x.health = s.health) rfl fun _ hx _ _ => hx

theorem reg_digestShown_other (s : State) {o : Nat} (ho : ∀ w < 8, o ≠ PH_STOP_DIGEST w) : s.digestShown.reg o = s.reg o :=
  State.reg_foldl (fun x w hw => x.reg_setReg_other _ (ho w (List.mem_range.1 hw))) s

theorem fld_digestShown (s : State) {w : Nat} (hw : w < 8) : s.digestShown.fld (PH_STOP_DIGEST_DIGEST w) = leAt s.health.snapDigest (8 * w) 8 := by
  have hfold : ∀ n : Nat, w < n → ((List.range n).foldl (fun s w => s.setReg (PH_STOP_DIGEST w)
      (BitVec.ofNat 64 (leAt s.health.snapDigest (8 * w) 8))) s).reg (PH_STOP_DIGEST w) = BitVec.ofNat 64 (leAt s.health.snapDigest (8 * w) 8) ∧
      ((List.range n).foldl (fun s w => s.setReg (PH_STOP_DIGEST w) (BitVec.ofNat 64 (leAt s.health.snapDigest (8 * w) 8))) s).health = s.health := by
    intro n
    induction n with
    | zero => simp
    | succ n ih =>
      intro hn
      have hhealth : ((List.range n).foldl (fun s w => s.setReg (PH_STOP_DIGEST w)
          (BitVec.ofNat 64 (leAt s.health.snapDigest (8 * w) 8))) s).health = s.health :=
        List.foldlRecOn _ _ (motive := fun x : State => x.health = s.health) rfl fun _ hx _ _ => hx
      rw [List.range_succ, List.foldl_append, List.foldl_cons, List.foldl_nil]
      refine ⟨?_, hhealth⟩
      by_cases he : w = n
      · rw [he, State.reg_setReg_same, hhealth]
      · rw [State.reg_setReg_other _ _ (by unfold PH_STOP_DIGEST; omega), (ih (by omega)).1]
  have hreg : s.digestShown.reg (PH_STOP_DIGEST w) = BitVec.ofNat 64 (leAt s.health.snapDigest (8 * w) 8) := (hfold 8 hw).1
  have hlt : leAt s.health.snapDigest (8 * w) 8 < 256 ^ 8 := leAt_lt _ _ _
  show bitsOf (s.digestShown.reg (PH_STOP_DIGEST w)).toNat 63 0 = _
  rw [hreg, bitsOf_ofNat (by decide)]
  simp only [bitsOf]
  omega

/-- What a stopover that ended well shows. -/
def State.stopShown (s : State) : State := (((s.stopped 0).raise PH_STOP_STATUS_CONFIRMED).setFld PH_STOP_STATUS_BANK s.writeBank).digestShown

/-- A stopover that ends well keeps the bank, the digest and a record to be written. -/
theorem stopEnds_done {s : State} (hchecks : ∀ k ∈ s.clusters.cores, k.checks = []) :
    s.stopEnds 0 = s.stopShown.modHost (fun h => { h with writing := h.writing ++
      [.stopRecord (s.stopShown.fld PH_STOP_STATUS_SEQ) s.stopShown.health.snapDigest (s.writeBank == 1) (s.stopShown.fld PH_STOP_CFG_PARTNER)] }) := by
  rw [State.stopEnds]
  dsimp only
  rw [if_neg (by decide), heldChecks_stopped hchecks]
  rfl

theorem Quiet.digestShown {s : State} : Quiet s s.digestShown := by
  have hdigest : ∀ w < 8, ¬RouteReg (PH_STOP_DIGEST w) := by
    intro w hw
    unfold RouteReg DV_COORD PH_STOP_DIGEST
    omega
  have hstep : ∀ x : State, ∀ w ∈ List.range 8, ∀ v, Quiet x (x.setReg (PH_STOP_DIGEST w) v) := fun x w hw v =>
    Quiet.setReg (hdigest w (List.mem_range.1 hw)) v
  unfold State.digestShown
  exact Quiet.foldl _ (fun x w hw => hstep x w hw _) s

theorem Keeps.stopShown {s : State} : Keeps s s.stopShown := by
  refine (Keeps.stopped 0).trans (Quiet.keeps ?_)
  exact ((Quiet.raise not_routeReg_stopStatus).trans (Quiet.setFld not_routeReg_stopStatus _)).trans Quiet.digestShown

/-- A register that the end of a stopover does not set. -/
theorem reg_stopShown_other (s : State) {o : Nat} (hdigest : ∀ w < 8, o ≠ PH_STOP_DIGEST w) (hstatus : o ≠ PH_STOP_STATUS) :
    s.stopShown.reg o = (s.stopped 0).reg o := by
  rw [State.stopShown, reg_digestShown_other _ hdigest, State.reg_setFld_other _ _ _ hstatus, State.reg_raise_other _ _ hstatus]

theorem fld_stopShown_status (s : State) {F : Fld} (hoff : F.off = PH_STOP_STATUS) :
    s.stopShown.fld F = (((s.stopped 0).raise PH_STOP_STATUS_CONFIRMED).setFld PH_STOP_STATUS_BANK s.writeBank).fld F := by
  refine State.fld_eq_of_reg (reg_digestShown_other _ fun w _ => ?_)
  rw [hoff]
  unfold PH_STOP_STATUS PH_STOP_DIGEST
  omega

theorem stopAnswer_idle {s : State} (h : s.health.stopMailbox = false) (r : Nat) : s.stopAnswer r = s := by rw [State.stopAnswer, h]; rfl

section
variable {s : State} (hmail : s.health.stopMailbox = false)
include hmail

theorem health_stopped (r : Nat) : (s.stopped r).health = s.health := by
  show (((s.stopResult r).setPhase 5).resumeCredits).health = _
  rw [within_resumeCredits.same .health (by decide), within_setPhase.same .health (by decide), State.stopResult]
  exact (congrArg State.health (stopAnswer_idle (by exact hmail) r)).trans rfl

theorem host_stopped (r : Nat) : (s.stopped r).host = s.host := by
  show (((s.stopResult r).setPhase 5).resumeCredits).host = _
  rw [within_resumeCredits.same .host (by decide), within_setPhase.same .host (by decide), State.stopResult]
  exact (congrArg State.host (stopAnswer_idle (by exact hmail) r)).trans rfl

theorem health_stopShown : s.stopShown.health = s.health := by
  rw [State.stopShown, digestShown_health]
  exact health_stopped hmail 0

theorem host_stopShown : s.stopShown.host = s.host := by
  have h : ∀ x : State, x.digestShown.host = x.host := fun x =>
    List.foldlRecOn _ _ (motive := fun y : State => y.host = x.host) rfl fun _ hy _ _ => hy
  rw [State.stopShown, h]
  exact host_stopped hmail 0

end

theorem writeBank_lt (s : State) : s.writeBank < 2 := by
  unfold State.writeBank
  split <;> omega

theorem fld_stopShown_state {s : State} (harmed : s.health.stopArmed = false) : s.stopShown.fld PH_STOP_STATUS_STATE = 0 := by
  rw [fld_stopShown_status s rfl, State.fld_setFld_apart _ _ _ _ (by decide), State.fld_raise_apart _ _ _ (by decide), fld_stopped_state 0 harmed]

theorem fld_stopShown_result (s : State) : s.stopShown.fld PH_STOP_STATUS_RESULT = 0 := by
  rw [fld_stopShown_status s rfl, State.fld_setFld_apart _ _ _ _ (by decide), State.fld_raise_apart _ _ _ (by decide),
    fld_stopped_result s (by decide)]

theorem fld_stopShown_confirmed (s : State) : s.stopShown.fld PH_STOP_STATUS_CONFIRMED = 1 := by
  rw [fld_stopShown_status s rfl, State.fld_setFld_apart _ _ _ _ (by decide), State.fld_raise_same _ _ (by decide)]
  rfl

theorem fld_stopShown_bank (s : State) : s.stopShown.fld PH_STOP_STATUS_BANK = s.writeBank := by
  rw [fld_stopShown_status s rfl]
  exact State.fld_setFld_fits _ (by decide) (writeBank_lt s)

theorem fld_stopShown_seq (s : State) : s.stopShown.fld PH_STOP_STATUS_SEQ = s.fld PH_STOP_STATUS_SEQ := by
  rw [fld_stopShown_status s rfl, State.fld_setFld_apart _ _ _ _ (by decide), State.fld_raise_apart _ _ _ (by decide),
    fld_stopped_apart s 0 rfl (by decide) (by decide)]

theorem fld_stopShown_partner (s : State) : s.stopShown.fld PH_STOP_CFG_PARTNER = s.fld PH_STOP_CFG_PARTNER := by
  refine (State.fld_eq_of_reg (f := PH_STOP_CFG_PARTNER) (reg_stopShown_other s (fun w _ => ?_) (by decide))).trans
    (State.fld_eq_of_reg (reg_stopped_other s 0 (offCore_above (by decide)) (by decide) (by decide) (by decide)))
  show PH_STOP_CFG ≠ _
  unfold PH_STOP_CFG PH_STOP_DIGEST
  omega

theorem phase_stopShown (s : State) : s.stopShown.phase = 5 := by
  refine (State.fld_eq_of_reg (f := DV_STATE_PHASE) (reg_stopShown_other s (fun w _ => ?_) (by decide))).trans (phase_stopped s 0)
  show DV_STATE ≠ _
  unfold DV_STATE PH_STOP_DIGEST
  omega

theorem end_stopShown (s : State) : s.stopShown.reg PH_STOP_END = BitVec.ofNat 64 s.now := by
  refine (reg_stopShown_other s (fun w _ => ?_) (by decide)).trans (reg_stopped_end s 0)
  unfold PH_STOP_END PH_STOP_DIGEST
  omega

end Sys2Proof.Machine
end

section
/-! PROOF. O38: SNAP_ACK and ERROR end a stopover or a restore, and the obligation is settled (R415, R417). -/

-- Proofs are checked one at a time: side by side they would only wait for one another.
set_option Elab.async false

namespace Sys2Proof.Machine
open Sys2Proof

/-! ### The end of a stopover in a report (R397, R417) -/

/-- A stopover that fails reports it, in the state that `s` is but for the frames of the switch. -/
theorem stopFailed_tells {s y : State} (hy : Within [.regs, .sw] s y) (hsev : y.severity 0x302 0x39 = s.severity 0x302 0x39)
    (hminor : s.severity 0x302 0x39 < 4) (harmed : s.health.stopArmed = false) (hchecks : ∀ k ∈ s.clusters.cores, k.checks = []) :
    (y.stopEnds 2).retryAgents.phase = 5 ∧ (y.stopEnds 2).retryAgents.fld PH_STOP_STATUS_STATE = 0 ∧
      (y.stopEnds 2).retryAgents.fld PH_STOP_STATUS_RESULT = 2 ∧ Told s (y.stopEnds 2).retryAgents 0x302 0x39 2 := by
  have hclusters : y.clusters = s.clusters := hy.same .clusters (by decide)
  have hhealth : y.health = s.health := hy.same .health (by decide)
  have hstop := stopEnds_failed (s := y) (by rw [hclusters]; exact hchecks) (r := 2) (by decide)
  have hsame : (y.stopped 2).severity 0x302 0x39 = s.severity 0x302 0x39 := (severity_stopped y 2 0x302 0x39 (by decide)).trans hsev
  have hreg : ∀ o, OffCore o → o < WATCH_CTRL + 8 ∨ WATCH_FIRST 16 ≤ o → (y.stopEnds 2).retryAgents.reg o = (y.stopped 2).reg o := by
    intro o ho hwatch
    rw [State.reg_retryAgents ho, hstop, State.reg_fault_minor (by rw [hsame]; exact hminor) _ hwatch]
  have hstatus := hreg PH_STOP_STATUS (offCore_above (by decide)) (.inr (by decide))
  refine ⟨?_, ?_, ?_, ?_⟩
  · exact (State.fld_eq_of_reg (f := DV_STATE_PHASE) (hreg DV_STATE (offCore_of_lt (by decide)) (.inl (by decide)))).trans (phase_stopped y 2)
  · exact (State.fld_eq_of_reg (f := PH_STOP_STATUS_STATE) hstatus).trans (fld_stopped_state 2 (by rw [hhealth]; exact harmed))
  · exact (State.fld_eq_of_reg (f := PH_STOP_STATUS_RESULT) hstatus).trans (fld_stopped_result y (by decide))
  · refine Told.of_fault (u := y.stopped 2) ?_ ?_ hsame ?_
    · rw [(within_stopped y 2).same .watch (by decide), hy.same .watch (by decide)]
    · rw [(within_stopped y 2).same .bell (by decide), hy.same .bell (by decide)]
    · rw [within_retryAgents.same .watch (by decide), hstop]

theorem severity_takeAgent (s : State) (f : Frame) (source kind : Nat) (h : source < 1024) :
    (s.takeAgent f).severity source kind = s.severity source kind :=
  State.severity_congr (State.reg_takeAgent (.inl (by unfold WATCH_SEV; omega)) f) kind

/-! ### SNAP_ACK (R415, R417) -/

section
variable {s : State} {f : Frame} (hawaits : s.awaitsSegment f = false) (hidle : s.flag PH_RESTORE_STATUS_BUSY = false)
  (hstate : s.fld PH_STOP_STATUS_STATE = 4) (hsrc : f.srcCoord = s.fld PH_STOP_CFG_PARTNER) (hseq : frameSeq f = s.fld PH_STOP_STATUS_SEQ)
include hawaits hidle hstate hsrc hseq

theorem exec_snapAck_failed (hbad : byteAt f.payload 0 ≠ 0) : exec (.snapAck f) s = .next (((s.takeAgent f).stopEnds 2).retryAgents) := by
  show execSnapAck f s = _
  have hgo : ¬((s.takeAgent f).fld PH_STOP_STATUS_STATE ≠ 4 ∨ f.srcCoord ≠ (s.takeAgent f).fld PH_STOP_CFG_PARTNER ∨
      frameSeq f ≠ (s.takeAgent f).fld PH_STOP_STATUS_SEQ) := by
    rw [fld_takeAgent s f (by decide), fld_takeAgent s f (by decide), fld_takeAgent s f (by decide)]
    simp [hstate, ← hsrc, hseq]
  rw [execSnapAck, State.serveAny, if_neg (by rw [awaitsSegment_takeAgent, hawaits]; decide),
    if_neg (by rw [flag_takeAgent s f (by decide), hidle]; simp), if_neg hgo, if_pos hbad]

theorem exec_snapAck_confirmed (hgood : byteAt f.payload 0 = 0) (hlen : 72 ≤ f.payload.length)
    (hdigest : (f.payload.drop 8).take 64 = s.health.snapDigest) : exec (.snapAck f) s =
      .next ((((s.takeAgent f).toStop f.srcCoord 0x1C 0 (s.fld PH_STOP_STATUS_SEQ) s.health.snapDigest).stopEnds 0).retryAgents) := by
  show execSnapAck f s = _
  have hgo : ¬((s.takeAgent f).fld PH_STOP_STATUS_STATE ≠ 4 ∨ f.srcCoord ≠ (s.takeAgent f).fld PH_STOP_CFG_PARTNER ∨
      frameSeq f ≠ (s.takeAgent f).fld PH_STOP_STATUS_SEQ) := by
    rw [fld_takeAgent s f (by decide), fld_takeAgent s f (by decide), fld_takeAgent s f (by decide)]
    simp [hstate, ← hsrc, hseq]
  rw [execSnapAck, State.serveAny, if_neg (by rw [awaitsSegment_takeAgent, hawaits]; decide),
    if_neg (by rw [flag_takeAgent s f (by decide), hidle]; simp), if_neg hgo, if_neg (by simp [hgood]), if_neg (by omega)]
  dsimp only
  rw [health_toStop, health_takeAgent, hdigest, if_pos rfl, fld_takeAgent s f (by decide), fld_takeAgent s f (by decide), ← hsrc]

theorem completes_snapAck_failed (hbad : byteAt f.payload 0 ≠ 0) (harmed : s.health.stopArmed = false)
    (hchecks : ∀ k ∈ s.clusters.cores, k.checks = []) (hminor : s.severity 0x302 0x39 < 4) : Completes (.snapAck f) s (fun t =>
      t.phase = 5 ∧ t.fld PH_STOP_STATUS_STATE = 0 ∧ t.fld PH_STOP_STATUS_RESULT = 2 ∧ Told s t 0x302 0x39 2) :=
  ⟨_, exec_snapAck_failed hawaits hidle hstate hsrc hseq hbad,
    stopFailed_tells within_takeAgent (severity_takeAgent s f _ _ (by decide)) hminor harmed hchecks⟩

theorem completes_snapAck_confirmed (hc : Calm s) (hroute : RouteTo s f.srcCoord) (hgood : byteAt f.payload 0 = 0) (hlen : 72 ≤ f.payload.length)
    (hdigest : (f.payload.drop 8).take 64 = s.health.snapDigest) (harmed : s.health.stopArmed = false) (hmail : s.health.stopMailbox = false)
    (hchecks : ∀ k ∈ s.clusters.cores, k.checks = []) : Completes (.snapAck f) s (fun t =>
      t.phase = 5 ∧ t.fld PH_STOP_STATUS_STATE = 0 ∧ t.fld PH_STOP_STATUS_RESULT = 0 ∧ t.fld PH_STOP_STATUS_CONFIRMED = 1 ∧
      t.fld PH_STOP_STATUS_BANK = s.writeBank ∧ t.reg PH_STOP_END = BitVec.ofNat 64 s.now ∧
      (∀ w < 8, t.fld (PH_STOP_DIGEST_DIGEST w) = leAt s.health.snapDigest (8 * w) 8) ∧
      t.host.writing = s.host.writing ++ [.stopRecord (s.fld PH_STOP_STATUS_SEQ) s.health.snapDigest (s.writeBank == 1) f.srcCoord] ∧
      Sent t (fun g => g.kind == 0x1C && g.dstCoord == f.srcCoord && g.dstPort == 0xF2 && g.payload == s.health.snapDigest)) := by
  have hexec := exec_snapAck_confirmed hawaits hidle hstate hsrc hseq hgood hlen hdigest
  have hnum := (Quiet.takeAgent f).keeps.numbered (Calm.numbered hc)
  obtain ⟨g, ⟨hkind, hdst, hport, -, hpay⟩, hposted⟩ := posted_toStop hnum (RouteTo.routes hroute (Quiet.takeAgent f).routes) 0x1C 0
    (s.fld PH_STOP_STATUS_SEQ) s.health.snapDigest
  have hy : Within [.regs, .sw] s ((s.takeAgent f).toStop f.srcCoord 0x1C 0 (s.fld PH_STOP_STATUS_SEQ) s.health.snapDigest) :=
    within_toStop.andThen (by decide) within_takeAgent
  have hyreg : ∀ o, OffCore o → 0x00300000 ≤ o →
      ((s.takeAgent f).toStop f.srcCoord 0x1C 0 (s.fld PH_STOP_STATUS_SEQ) s.health.snapDigest).reg o = s.reg o := fun o ho hge =>
    (reg_toStop ho _ _ _ _ _).trans (State.reg_takeAgent_above hge f)
  have hynum := (Keeps.toStop (s := s.takeAgent f) f.srcCoord 0x1C 0 (s.fld PH_STOP_STATUS_SEQ) s.health.snapDigest).numbered hnum
  generalize (s.takeAgent f).toStop f.srcCoord 0x1C 0 (s.fld PH_STOP_STATUS_SEQ) s.health.snapDigest = y at hexec hposted hy hyreg hynum
  have hclusters : y.clusters = s.clusters := hy.same .clusters (by decide)
  have hhealth : y.health = s.health := hy.same .health (by decide)
  have hhost : y.host = s.host := hy.same .host (by decide)
  have hnow : y.now = s.now := State.now_eq_of_bell (hy.same .bell (by decide))
  have hystatus := hyreg PH_STOP_STATUS (offCore_above (by decide)) (by decide)
  have hbank : y.writeBank = s.writeBank := by
    rw [State.writeBank, State.flag_eq_of_reg (f := PH_STOP_STATUS_CONFIRMED) hystatus, State.fld_eq_of_reg (f := PH_STOP_STATUS_BANK) hystatus,
      State.writeBank]
  have hymail : y.health.stopMailbox = false := by rw [hhealth, hmail]
  have hdone := stopEnds_done (s := y) (by rw [hclusters]; exact hchecks)
  have hkeep : Keeps y (y.stopEnds 0) := by
    rw [hdone]
    exact Keeps.stopShown.trans (Quiet.modHost _).keeps
  have hreg : ∀ o, OffCore o → (y.stopEnds 0).retryAgents.reg o = y.stopShown.reg o := by
    intro o ho
    rw [State.reg_retryAgents ho, hdone, State.modHost_reg]
  have hstatus := hreg PH_STOP_STATUS (offCore_above (by decide))
  refine ⟨_, hexec, ?_, ?_, ?_, ?_, ?_, ?_, fun w hw => ?_, ?_, ?_⟩
  · exact (State.fld_eq_of_reg (f := DV_STATE_PHASE) (hreg DV_STATE (offCore_of_lt (by decide)))).trans (phase_stopShown y)
  · exact (State.fld_eq_of_reg (f := PH_STOP_STATUS_STATE) hstatus).trans (fld_stopShown_state (by rw [hhealth, harmed]))
  · exact (State.fld_eq_of_reg (f := PH_STOP_STATUS_RESULT) hstatus).trans (fld_stopShown_result y)
  · exact (State.fld_eq_of_reg (f := PH_STOP_STATUS_CONFIRMED) hstatus).trans (fld_stopShown_confirmed y)
  · exact (State.fld_eq_of_reg (f := PH_STOP_STATUS_BANK) hstatus).trans ((fld_stopShown_bank y).trans hbank)
  · rw [hreg PH_STOP_END (offCore_above (by decide)), end_stopShown, hnow]
  · have hoff : OffCore (PH_STOP_DIGEST w) := offCore_above (by unfold BT_CHOICE_KIND PH_STOP_DIGEST; omega)
    rw [State.fld_eq_of_reg (f := PH_STOP_DIGEST_DIGEST w) (hreg _ hoff)]
    refine (fld_digestShown _ hw).trans ?_
    show leAt (y.stopped 0).health.snapDigest _ _ = _
    rw [health_stopped hymail, hhealth]
  · rw [host_retryAgents, hdone]
    show y.stopShown.host.writing ++ [.stopRecord _ _ _ _] = _
    rw [host_stopShown hymail, health_stopShown hymail, hhost, hhealth, hbank, fld_stopShown_seq, fld_stopShown_partner,
      State.fld_eq_of_reg (f := PH_STOP_STATUS_SEQ) hystatus,
      State.fld_eq_of_reg (f := PH_STOP_CFG_PARTNER) (hyreg PH_STOP_CFG (offCore_above (by decide)) (by decide)), hsrc]
  · exact (Carries.retryAgents.posted (hkeep.numbered hynum) _ (hkeep.posted hposted)).sent (by simp [hkind, hdst, hport, hpay])

end

/-! ### ERROR (R415, R420) -/

theorem exec_error_elsewhere {s : State} {f : Frame} (hport : f.dstPort ≠ 0xF2) : exec (.error f) s = .next ((s.takeAgent f).retryAgents) := by
  show execError f s = _
  rw [execError, State.serveAny, if_neg hport]

section
variable {s : State} {f : Frame} (hport : f.dstPort = 0xF2) (hawaits : s.awaitsSegment f = false)
include hport hawaits

theorem exec_error_stopover (hidle : s.flag PH_RESTORE_STATUS_BUSY = false) (hstate : s.fld PH_STOP_STATUS_STATE = 4) :
    exec (.error f) s = .next (((s.takeAgent f).stopEnds 2).retryAgents) := by
  show execError f s = _
  rw [execError, State.serveAny, if_pos hport, State.partnerFails, if_neg (by rw [awaitsSegment_takeAgent, hawaits]; decide),
    if_neg (by rw [flag_takeAgent s f (by decide), hidle]; simp), if_pos (by rw [fld_takeAgent s f (by decide), hstate])]

theorem exec_error_restore (hbusy : s.flag PH_RESTORE_STATUS_BUSY = true) (hrest : s.health.restored = false) :
    exec (.error f) s = .next (((s.takeAgent f).restoreEnds 2).retryAgents) := by
  show execError f s = _
  rw [execError, State.serveAny, if_pos hport, State.partnerFails, if_neg (by rw [awaitsSegment_takeAgent, hawaits]; decide),
    if_pos (by rw [flag_takeAgent s f (by decide), health_takeAgent, hbusy, hrest]; simp)]

theorem completes_error_stopover (hidle : s.flag PH_RESTORE_STATUS_BUSY = false) (hstate : s.fld PH_STOP_STATUS_STATE = 4)
    (harmed : s.health.stopArmed = false) (hchecks : ∀ k ∈ s.clusters.cores, k.checks = []) (hminor : s.severity 0x302 0x39 < 4) :
    Completes (.error f) s (fun t =>
      t.phase = 5 ∧ t.fld PH_STOP_STATUS_STATE = 0 ∧ t.fld PH_STOP_STATUS_RESULT = 2 ∧ Told s t 0x302 0x39 2) :=
  ⟨_, exec_error_stopover hport hawaits hidle hstate,
    stopFailed_tells within_takeAgent (severity_takeAgent s f _ _ (by decide)) hminor harmed hchecks⟩

/-- The restore that its module breaks off. -/
def State.restoreBroken (s : State) : State :=
  ((s.setFld PH_RESTORE_STATUS_BUSY 0).setFld PH_RESTORE_STATUS_RESULT 2).modHealth (fun h => { h with
    record := none, segs := [], restored := false, restoring := [] })

omit hport hawaits in
theorem restoreEnds_eq (s : State) : s.restoreEnds 2 = s.restoreBroken.fault 0x302 0x3A 2 := rfl

theorem completes_error_restore (hbusy : s.flag PH_RESTORE_STATUS_BUSY = true) (hrest : s.health.restored = false)
    (hminor : s.severity 0x302 0x3A < 4) : Completes (.error f) s (fun t =>
      t.fld PH_RESTORE_STATUS_BUSY = 0 ∧ t.fld PH_RESTORE_STATUS_RESULT = 2 ∧ Told s t 0x302 0x3A 2) := by
  have hsev : (s.takeAgent f).restoreBroken.severity 0x302 0x3A = s.severity 0x302 0x3A :=
    (State.severity_congr (by
      show (((s.takeAgent f).setFld PH_RESTORE_STATUS_BUSY 0).setFld PH_RESTORE_STATUS_RESULT 2).reg _ = _
      rw [State.reg_setFld_other _ _ _ (by decide), State.reg_setFld_other _ _ _ (by decide)]) _).trans
    (severity_takeAgent s f _ _ (by decide))
  have hreg : (((s.takeAgent f).restoreEnds 2).retryAgents).reg PH_RESTORE_STATUS = (s.takeAgent f).restoreBroken.reg PH_RESTORE_STATUS := by
    rw [State.reg_retryAgents (offCore_above (by decide)), restoreEnds_eq, State.reg_fault_minor (by rw [hsev]; exact hminor) _ (.inr (by decide))]
  refine ⟨_, exec_error_restore hport hawaits hbusy hrest, ?_, ?_, ?_⟩
  · refine (State.fld_eq_of_reg (f := PH_RESTORE_STATUS_BUSY) hreg).trans ?_
    show (((s.takeAgent f).setFld PH_RESTORE_STATUS_BUSY 0).setFld PH_RESTORE_STATUS_RESULT 2).fld PH_RESTORE_STATUS_BUSY = 0
    rw [State.fld_setFld_apart _ _ _ _ (by decide), State.fld_setFld_same _ _ _ (by decide)]
    rfl
  · refine (State.fld_eq_of_reg (f := PH_RESTORE_STATUS_RESULT) hreg).trans ?_
    exact State.fld_setFld_fits _ (by decide) (by decide)
  · refine Told.of_fault (u := (s.takeAgent f).restoreBroken) (within_takeAgent.same .watch (by decide)) (within_takeAgent.same .bell (by decide)) hsev ?_
    rw [within_retryAgents.same .watch (by decide), restoreEnds_eq]

end

theorem completes_error_elsewhere {s : State} {f : Frame} (hport : f.dstPort ≠ 0xF2) :
    Completes (.error f) s (fun t => t.stays = s.stays ∧ t.health = s.health ∧ t.host = s.host) :=
  ⟨_, exec_error_elsewhere hport, by rw [within_retryAgents.same .stays (by decide), within_takeAgent.same .stays (by decide)],
    by rw [health_retryAgents, health_takeAgent], by rw [host_retryAgents, host_takeAgent]⟩

/-- Settles O38, frame by frame. -/
theorem snapshotFramesComplete : Obligations.SnapshotFramesComplete := by
  have hguest : ∀ {s : State} {f : Frame}, s.flag PH_STOP_CFG_GUEST_VALID = true → f.srcCoord = s.fld PH_STOP_CFG_GUEST → s.fromGuest f = true := by
    intro s f hvalid hsrc
    simp [State.fromGuest, hvalid, hsrc]
  unfold Obligations.SnapshotFramesComplete
  exact ⟨fun s f hc hroute hvalid hsrc hlen hseg hseq hdigest _ hup =>
      completes_snapPut hc hroute (hguest hvalid hsrc) hlen hseg hseq hdigest hup,
    fun s f hc hroute h => completes_snapRefused (status := 1) hc hroute (exec_snapPut_stranger h),
    fun s f hc hroute h hlen => completes_snapRefused (status := 3) hc hroute (exec_snapPut_malformed h hlen),
    fun s f bytes hc hroute h hlen hseq hall => completes_snapDone hc hroute h hlen hseq hall,
    fun s f hc hroute h _ hall => (completes_snapRefused (status := 3) hc hroute (exec_snapDone_incomplete h hall)).imp fun _ ⟨he, hh, _, hr⟩ => ⟨he, hh, hr⟩,
    fun s f len hc hroute h hlen hseq hdigest => completes_snapConfirm hc hroute h hlen hseq hdigest,
    fun s f len d hc hroute h hlen hseq hdigest hne => completes_snapConfirm_other hc hroute h hlen hseq hdigest hne,
    fun s f bank seq len at_ d hc hroute h hempty hg hseg => completes_snapGet_header hc hroute h hempty hg hseg,
    fun s f bank seq len at_ d hc hroute h hempty hg hlt hseg hmerge hpoison hup =>
      completes_snapGet_piece hc hroute h hempty hg hlt hseg ⟨Sound.of_nil hmerge, hup, hpoison⟩,
    fun s f hc hroute h hempty hg => (completes_snapRefused (status := 2) hc hroute (exec_snapGet_none h hempty hg)).imp
      fun _ ⟨he, hh, _, hr⟩ => ⟨he, hr, hh⟩,
    fun s f hc hroute ha hbusy hrest hfrom hrec hseg hlen hstop => completes_snapData_record hc hroute ha hbusy hrest hfrom hrec hseg hlen hstop,
    fun s f len at_ d hc ha hbusy hrest hfrom hrec hlt hlen hmore => completes_snapData_piece ha hbusy hrest hfrom hc hrec hlt hlen hmore,
    fun s f b hc hb hop hready hsrc hlen => completes_snapData_ready hc hb hop hready hsrc hlen,
    fun s f hc hroute ha hidle hstate hsrc hseq hgood hlen hdigest harmed hmail hchecks =>
      completes_snapAck_confirmed ha hidle hstate hsrc hseq hc hroute hgood hlen hdigest harmed hmail hchecks,
    fun s f _ ha hidle hstate hsrc hseq hbad harmed hchecks hsev => completes_snapAck_failed ha hidle hstate hsrc hseq hbad harmed hchecks hsev,
    fun s f _ hport ha hidle hstate harmed hchecks hsev => completes_error_stopover hport ha hidle hstate harmed hchecks hsev,
    fun s f _ hport ha hbusy hrest hsev => completes_error_restore hport ha hbusy hrest hsev,
    fun s f _ hport => completes_error_elsewhere hport⟩

end Sys2Proof.Machine
end

section
/-! SUPPORT. The tally engine: contexts and chunks as they are found and put back, what its frames leave alone, and how a request on a tally is
taken (R159, R166, R182). -/

-- Proofs are checked one at a time: side by side they would only wait for one another.
set_option Elab.async false

namespace Sys2Proof.Machine
open Sys2Proof

/-! ### Chunks of a context -/

theorem TCtx.g_of_chunk? {c : TCtx} {g : Nat} {k : TChunk} (h : c.chunk? g = some k) : k.g = g := by
  simpa using List.find?_some h

theorem TCtx.chunk?_congr {c d : TCtx} (h : d.win = c.win) (g : Nat) : d.chunk? g = c.chunk? g := by rw [TCtx.chunk?, h, TCtx.chunk?]

/-- A chunk put back is the one found. -/
theorem TCtx.chunk?_putChunk {c : TCtx} {g : Nat} {k k1 : TChunk} (h : c.chunk? g = some k) (hg : k1.g = g) : (c.putChunk k1).chunk? g = some k1 := by
  have hfind : ∀ l : List TChunk, l.find? (fun x => x.g == g) = some k →
      (l.map (fun x => if x.g = k1.g then k1 else x)).find? (fun x => x.g == g) = some k1 := by
    intro l
    induction l with
    | nil => simp
    | cons y l ih =>
      intro hl
      by_cases hy : y.g = g
      · simp [hy, hg]
      · rw [List.find?_cons_of_neg (by simpa using hy)] at hl
        rw [List.map_cons, if_neg (by rwa [hg]), List.find?_cons_of_neg (by simpa using hy), ih hl]
  exact hfind c.win h

/-- Without its chunk a window holds none of its number. -/
theorem TCtx.chunk?_filtered {c : TCtx} {g : Nat} (h : ∀ k ∈ c.win, k.g ≠ g) : c.chunk? g = none :=
  List.find?_eq_none.2 fun k hk => by simpa using h k hk

/-! ### Contexts -/

theorem State.ctxAt?_congr {s t : State} (h : t.tally = s.tally) (i : Nat) : t.ctxAt? i = s.ctxAt? i := by rw [State.ctxAt?, h, State.ctxAt?]

theorem State.ctxOf_congr {s t : State} (h : t.tally = s.tally) (f : Frame) : t.ctxOf f = s.ctxOf f := by
  rw [State.ctxOf, State.ctx?, h, State.ctxOf, State.ctx?]

theorem State.idx_of_ctxAt? {s : State} {i : Nat} {c : TCtx} (h : s.ctxAt? i = some c) : c.idx = i := by
  simpa using List.find?_some h

theorem State.mem_of_ctxAt? {s : State} {i : Nat} {c : TCtx} (h : s.ctxAt? i = some c) : c ∈ s.tally.ctxs := List.mem_of_find?_eq_some h

theorem State.mem_of_ctxOf {s : State} {f : Frame} {c : TCtx} (h : s.ctxOf f = some c) : c ∈ s.tally.ctxs := List.mem_of_find?_eq_some h

/-- A context put back in the place of one is the one found there. -/
theorem State.ctxAt?_putCtx {s : State} {b c : TCtx} (hb : b ∈ s.tally.ctxs) (hidx : b.idx = c.idx) : (s.putCtx c).ctxAt? c.idx = some c := by
  have hfind : ∀ l : List TCtx, b ∈ l → (l.map (fun x => if x.idx = c.idx then c else x)).find? (fun x => x.idx == c.idx) = some c := by
    intro l
    induction l with
    | nil => simp
    | cons y l ih =>
      intro hl
      by_cases hy : y.idx = c.idx
      · simp [hy]
      · have hne : b ≠ y := fun e => hy (e ▸ hidx)
        rw [List.map_cons, if_neg hy, List.find?_cons_of_neg (by simpa using hy), ih ((List.mem_cons.1 hl).resolve_left hne)]
  exact hfind s.tally.ctxs hb

/-- Whatever stood in its place, a context put back is the only one found there. -/
theorem State.of_ctxAt?_putCtx {s : State} {c d : TCtx} (h : (s.putCtx c).ctxAt? c.idx = some d) : d = c := by
  obtain ⟨x, hx, rfl⟩ := List.mem_map.1 (State.mem_of_ctxAt? h)
  split
  · rfl
  · next hne => exact absurd (by simpa [hne] using State.idx_of_ctxAt? h) hne

/-! ### What the engine's frames leave alone -/

theorem tally_takeAgent (s : State) (f : Frame) : (s.takeAgent f).tally = s.tally := within_takeAgent.same .tally (by decide)

theorem tally_retryAgents (s : State) : s.retryAgents.tally = s.tally := within_retryAgents.same .tally (by decide)

theorem tally_toSlot (s : State) (c : TCtx) (kind i : Nat) (x : TSlot) (g part tag : Nat) (p : List Byte) :
    (s.toSlot c kind i x g part tag p).tally = s.tally := within_toSlot.same .tally (by decide)

theorem tally_toParent (s : State) (c : TCtx) (kind g part : Nat) (p : List Byte) : (s.toParent c kind g part p).tally = s.tally :=
  within_toParent.same .tally (by decide)

theorem tally_sendComplete (s : State) (c : TCtx) (r status : Nat) : (s.sendComplete c r status).tally = s.tally :=
  within_sendComplete.same .tally (by decide)

theorem State.reg_toSlot {s : State} {o : Nat} (ho : OffCore o) (c : TCtx) (kind i : Nat) (x : TSlot) (g part tag : Nat) (p : List Byte) :
    (s.toSlot c kind i x g part tag p).reg o = s.reg o := State.reg_agentSend ho _ _

theorem State.reg_toParent {s : State} {o : Nat} (ho : OffCore o) (c : TCtx) (kind g part : Nat) (p : List Byte) :
    (s.toParent c kind g part p).reg o = s.reg o := State.reg_agentSend ho _ _

theorem Keeps.toSlot {s : State} (c : TCtx) (kind i : Nat) (x : TSlot) (g part tag : Nat) (p : List Byte) : Keeps s (s.toSlot c kind i x g part tag p) :=
  Keeps.agentSend _ _

theorem Keeps.toParent {s : State} (c : TCtx) (kind g part : Nat) (p : List Byte) : Keeps s (s.toParent c kind g part p) := Keeps.agentSend _ _

/-- The engine's counters are neither registers of the switch nor of the choice window. -/
theorem offCore_tlCnt {n : Nat} (h : n < 4096) : OffCore (TL_CNT n) := offCore_between (by unfold TL_CNT; omega) (by unfold TL_CNT BT_CHOICE; omega)

theorem not_routeReg_tlCnt {n : Nat} (h : n < 4096) : ¬RouteReg (TL_CNT n) := by
  unfold RouteReg TL_CNT DV_COORD
  omega

/-! ### A frame to a slot -/

/-- A frame that the engine sends to an endpoint slot. -/
structure ToEndpoint (s : State) (kind port : Nat) (p : List Byte) (f : Frame) : Prop where
  kind : f.kind = kind
  dest : f.destKind = 3
  coord : f.dstCoord = s.coord
  port : f.dstPort = port
  payload : f.payload = p

theorem ToEndpoint.routes {s t : State} {kind port : Nat} {p : List Byte} {f : Frame} (h : ToEndpoint s kind port p f) (hr : Routes s t) :
    ToEndpoint t kind port p f := ⟨h.kind, h.dest, h.coord.trans hr.coord.symm, h.port, h.payload⟩

theorem ToEndpoint.of_routes {s t : State} {kind port : Nat} {p : List Byte} {f : Frame} (h : ToEndpoint t kind port p f) (hr : Routes s t) :
    ToEndpoint s kind port p f := ⟨h.kind, h.dest, h.coord.trans hr.coord, h.port, h.payload⟩

/-- What is sent to an endpoint slot that is up is posted. -/
theorem posted_toSlot {s : State} (hn : Numbered s) (c : TCtx) {kind : Nat} (i : Nat) {x : TSlot} (hx : x.isModule = false) (hport : Reachable s x.port)
    (g part tag : Nat) (p : List Byte) (h60 : kind ≠ 0x60) (h72 : kind ≠ 0x72) :
    ∃ f, ToEndpoint s kind x.port p f ∧ Posted (s.toSlot c kind i x g part tag p) f := by
  have hplace : s.slotPlace x = (s.coord, x.port) := if_neg (by simp [hx])
  rw [State.toSlot, hplace]
  exact ⟨_, ⟨rfl, rfl, rfl, rfl, rfl⟩, posted_local hn 1 rfl rfl h60 h72 hport⟩

theorem ToEndpoint.sent {s t : State} {kind port : Nat} {p : List Byte} {f : Frame} (h : ToEndpoint s kind port p f) (ht : Posted t f) :
    Sent t (fun g => g.kind == kind && g.dstPort == port && g.payload == p) := ht.sent (by simp [h.kind, h.port, h.payload])

theorem ToEndpoint.sent_kind {s t : State} {kind port : Nat} {p : List Byte} {f : Frame} (h : ToEndpoint s kind port p f) (ht : Posted t f) :
    Sent t (fun g => g.kind == kind && g.dstPort == port) := ht.sent (by simp [h.kind, h.port])

/-! ### A request on a tally -/

/-- Outside a stopover the engine takes a trusted request at once. -/
theorem tallyServe_trusted {s : State} {f : Frame} (h6 : s.phase ≠ 6) (ht : s.trusted f = true) (act : State → State) :
    s.tallyServe f act = .next ((act (s.takeAgent f)).retryAgents) := by
  rw [State.tallyServe, if_neg h6, State.serve, if_pos ht]

/-- A command that ends with the waiting frames tried again ends with the tally as it left it. -/
theorem Completes.of_tally {c : Instr} {s t : State} {P : Tally → Prop} (h : exec c s = .next t.retryAgents) (hP : P t.tally) :
    Completes c s (fun u => P u.tally) := ⟨_, h, show P t.retryAgents.tally by rwa [tally_retryAgents]⟩

end Sys2Proof.Machine
end

section
/-! SUPPORT. The tally engine, continued: how a window moves on, and what the close of its rounds keeps of contexts, counters and posted frames (R166,
R182, R189, R193). -/

-- Proofs are checked one at a time: side by side they would only wait for one another.
set_option Elab.async false

namespace Sys2Proof.Machine
open Sys2Proof

/-! ### The window moves on -/

/-- The chunks that a window gains lie past its limit, in rounds that have not failed. -/
theorem TCtx.mem_openTo {c : TCtx} {o at_ : Nat} {k : TChunk} (h : k ∈ (c.openTo o at_).win) :
    k ∈ c.win ∨ (k.g / c.chunks ∉ c.failedRounds ∧ c.limit ≤ k.g) := by
  rw [TCtx.openTo] at h
  obtain h | h := List.mem_append.1 h
  · exact .inl (List.mem_filter.1 h).1
  · obtain ⟨hmem, hfail⟩ := List.mem_filter.1 h
    obtain ⟨i, -, rfl⟩ := List.mem_map.1 hmem
    exact .inr ⟨by simpa using hfail, by simp [blankChunk]; omega⟩

/-- A window without a chunk has its limit no lower after it opens there. -/
theorem TCtx.limit_le_openTo (c : TCtx) (at_ : Nat) : c.limit ≤ (c.openTo c.limit at_).limit := by
  simp only [TCtx.openTo, TCtx.limit]
  omega

/-- With no round failed a window that still holds a chunk opens at its oldest, and holds that one. -/
theorem TCtx.openTo_nonempty {c : TCtx} {k : TChunk} {l : List TChunk} (h : c.win = k :: l) (at_ : Nat) : (c.openTo k.g at_).win.isEmpty = false := by
  simp [TCtx.openTo, h]

/-- A context's window beside the bounds that move with it. -/
structure SameRounds (c d : TCtx) : Prop where
  idx : d.idx = c.idx
  chunks : d.chunks = c.chunks
  failed : d.failedRounds = c.failedRounds

/-- Where a window opens as it moves on: at its oldest chunk, or past the round of that one if it has failed. -/
def TCtx.opensAt (c : TCtx) : Nat :=
  if c.failedRounds.contains ((c.win.head?.map (·.g)).getD c.limit / c.chunks) then ((c.win.head?.map (·.g)).getD c.limit / c.chunks + 1) * c.chunks
  else (c.win.head?.map (·.g)).getD c.limit

theorem TCtx.slide_succ (n : Nat) (c : TCtx) (at_ : Nat) :
    TCtx.slide (n + 1) c at_ = if (c.openTo c.opensAt at_).win.isEmpty && decide (c.opensAt < c.rounds * c.chunks) then
      TCtx.slide n (c.openTo c.opensAt at_) at_ else c.openTo c.opensAt at_ := rfl

theorem TCtx.opensAt_sound {c : TCtx} (h : c.failedRounds = []) : c.opensAt = (c.win.head?.map (·.g)).getD c.limit := by
  simp [TCtx.opensAt, h]

theorem TCtx.slide_rounds (n : Nat) (c : TCtx) (at_ : Nat) : SameRounds c (TCtx.slide n c at_) := by
  induction n generalizing c with
  | zero => exact ⟨rfl, rfl, rfl⟩
  | succ n ih =>
    rw [TCtx.slide_succ]
    split
    · obtain ⟨hidx, hchunks, hfailed⟩ := ih (c.openTo c.opensAt at_)
      exact ⟨hidx, hchunks, hfailed⟩
    · exact ⟨rfl, rfl, rfl⟩

/-- What a window gains as it moves on lies in rounds that have not failed. -/
theorem TCtx.mem_slide {n : Nat} {c : TCtx} {at_ : Nat} {k : TChunk} (h : k ∈ (TCtx.slide n c at_).win) :
    k ∈ c.win ∨ k.g / c.chunks ∉ c.failedRounds := by
  induction n generalizing c with
  | zero => exact .inl h
  | succ n ih =>
    rw [TCtx.slide_succ] at h
    split at h
    · obtain h | h := ih h
      · exact (TCtx.mem_openTo h).imp_right And.left
      · exact .inr h
    · exact (TCtx.mem_openTo h).imp_right And.left

/-- With no round failed, what a window gains lies past its limit. -/
theorem TCtx.mem_slide_limit {n : Nat} {c : TCtx} {at_ : Nat} {k : TChunk} (hfail : c.failedRounds = []) (h : k ∈ (TCtx.slide n c at_).win) :
    k ∈ c.win ∨ c.limit ≤ k.g := by
  induction n generalizing c with
  | zero => exact .inl h
  | succ n ih =>
    rw [TCtx.slide_succ, TCtx.opensAt_sound hfail] at h
    split at h
    case isFalse => exact (TCtx.mem_openTo h).imp_right And.right
    case isTrue hempty =>
      cases hwin : c.win with
      | nil =>
        rw [hwin] at h
        obtain h | h := ih (c := c.openTo c.limit at_) hfail h
        · exact hwin ▸ (TCtx.mem_openTo h).imp_right And.right
        · exact .inr ((c.limit_le_openTo at_).trans h)
      | cons y l =>
        rw [hwin, List.head?_cons, Option.map_some, Option.getD_some, TCtx.openTo_nonempty hwin] at hempty
        simp at hempty

theorem TCtx.settle_rounds (c : TCtx) (at_ : Nat) : SameRounds c (c.settle at_) := by
  rw [TCtx.settle]
  split
  · exact ⟨rfl, rfl, rfl⟩
  · exact TCtx.slide_rounds _ _ _

theorem TCtx.mem_settle {c : TCtx} {at_ : Nat} {k : TChunk} (h : k ∈ (c.settle at_).win) : k ∈ c.win ∨ k.g / c.chunks ∉ c.failedRounds := by
  rw [TCtx.settle] at h
  split at h
  · exact .inl h
  · exact TCtx.mem_slide h

theorem TCtx.mem_settle_limit {c : TCtx} {at_ : Nat} {k : TChunk} (hfail : c.failedRounds = []) (h : k ∈ (c.settle at_).win) :
    k ∈ c.win ∨ c.limit ≤ k.g := by
  rw [TCtx.settle] at h
  split at h
  · exact .inl h
  · exact TCtx.mem_slide_limit hfail h

/-! ### What a context's place holds as rounds close -/

/-- A context with the window of another. -/
structure SameWindow (c d : TCtx) : Prop where
  rounds : SameRounds c d
  win : d.win = c.win

/-- Whatever context stands in the place of `c` has its window. -/
def WindowHeld (c : TCtx) (s : State) : Prop := ∀ d, s.ctxAt? c.idx = some d → SameWindow c d

theorem WindowHeld.congr {c : TCtx} {s t : State} (h : WindowHeld c s) (ht : t.tally = s.tally) : WindowHeld c t := fun d hd =>
  h d (State.ctxAt?_congr ht c.idx ▸ hd)

theorem windowHeld_putCtx {c d : TCtx} (h : SameWindow c d) (s : State) : WindowHeld c (s.putCtx d) := fun e he => by
  rw [← h.rounds.idx] at he
  exact State.of_ctxAt?_putCtx he ▸ h

theorem WindowHeld.sendCredits {c d : TCtx} {s : State} (h : WindowHeld c s) (hd : SameWindow c d) (last : Bool) : WindowHeld c (s.sendCredits d last) := by
  rw [State.sendCredits]
  split
  · exact h
  · split
    · split
      · exact windowHeld_putCtx (by exact ⟨⟨hd.rounds.idx, hd.rounds.chunks, hd.rounds.failed⟩, hd.win⟩) s
      · exact h
    · refine List.foldlRecOn _ _ (motive := WindowHeld c) ?_ fun x hx a _ => ?_
      · exact List.foldlRecOn _ _ (motive := WindowHeld c) h fun x hx a _ => hx.congr (tally_toSlot _ _ _ _ _ _ _ _ _)
      · split
        next e he =>
          obtain ⟨⟨hidx, hchunks, hfailed⟩, hwin⟩ := hx e (hd.rounds.idx ▸ he)
          exact windowHeld_putCtx (by exact ⟨⟨hidx, hchunks, hfailed⟩, hwin⟩) x
        next => exact hx

/-- A context that has ended stands nowhere. -/
theorem State.ctxAt?_endCtx (s : State) (c : TCtx) : (s.endCtx c).ctxAt? c.idx = none := by
  refine List.find?_eq_none.2 fun x hx => ?_
  have hmem : x ∈ s.tally.ctxs.filter (fun x => x.idx != c.idx) := hx
  simpa using (List.mem_filter.1 hmem).2

theorem WindowHeld.endCtx {c d : TCtx} (s : State) (hidx : d.idx = c.idx) : WindowHeld c (s.endCtx d) := fun e he => by
  rw [← hidx, State.ctxAt?_endCtx] at he
  cases he

theorem WindowHeld.closeRounds {c : TCtx} (n : Nat) {s : State} (h : WindowHeld c s) : WindowHeld c (State.closeRounds n s c.idx) := by
  induction n generalizing s with
  | zero => exact h
  | succ n ih =>
    rw [State.closeRounds]
    split
    next => exact h
    next d hd =>
      obtain ⟨⟨hidx, hchunks, hfailed⟩, hwin⟩ := h d hd
      split
      · exact h
      · dsimp only
        generalize (if d.failedRounds.contains d.round then s else s.sendComplete d d.round 0) = s1
        split
        · exact WindowHeld.endCtx _ hidx
        · exact ih (windowHeld_putCtx (by exact ⟨⟨hidx, hchunks, hfailed⟩, hwin⟩) _)

/-- After a window has moved on, what stands in the context's place has the window it moved to. -/
theorem windowHeld_advance (s : State) (c : TCtx) (forced : Bool) : WindowHeld (c.settle s.free) (s.advance c forced) := by
  rw [State.advance]
  dsimp only
  have hsame : SameWindow (c.settle s.free) { c.settle s.free with
      doneTicks := (c.settle s.free).doneTicks.filter (fun x => decide ((c.settle s.free).oldest ≤ x.1 + 1)) } := ⟨⟨rfl, rfl, rfl⟩, rfl⟩
  rw [← (c.settle_rounds s.free).idx]
  exact ((windowHeld_putCtx hsame s).sendCredits hsame _).closeRounds _

end Sys2Proof.Machine
end

section
/-! SUPPORT. The tally engine, continued: the close of rounds loses no frame posted to an endpoint of this module, and what a failed round sends and
leaves (R159, R166, R182, R193). -/

-- Proofs are checked one at a time: side by side they would only wait for one another.
set_option Elab.async false

namespace Sys2Proof.Machine
open Sys2Proof

/-! ### The end of a context -/

/-- What an agent's frame to an endpoint of this module goes by is the same. -/
structure SameEnds (s t : State) : Prop where
  coord : t.coord = s.coord
  fence : ∀ p, t.regBit SW_FENCE p = s.regBit SW_FENCE p
  kind : ∀ p, t.portKind p = s.portKind p
  up : ∀ p, t.portUp p = s.portUp p

theorem SameEnds.trans {s t u : State} (h : SameEnds s t) (k : SameEnds t u) : SameEnds s u :=
  ⟨k.coord.trans h.coord, fun p => (k.fence p).trans (h.fence p), fun p => (k.kind p).trans (h.kind p), fun p => (k.up p).trans (h.up p)⟩

theorem SameEnds.reachable {s t : State} (h : SameEnds s t) {p : Nat} (hp : Reachable s p) : Reachable t p := by
  obtain ⟨hlt, hkind, hup, hfence⟩ := hp
  exact ⟨hlt, (h.kind p).trans hkind, (h.up p).trans hup, (h.fence p).trans hfence⟩

/-- A field from the tally block on that lies low in its register is none of them. -/
theorem sameEnds_setFld (s : State) {F : Fld} (hoff : 0x00400000 ≤ F.off) (hhi : F.hi < 52) (v : Nat) : SameEnds s (s.setFld F v) := by
  refine ⟨State.fld_eq_of_reg (s.reg_setFld_other _ _ ?_), fun p => ?_, fun p => ?_, fun p => ?_⟩
  · show DV_COORD ≠ F.off
    unfold DV_COORD
    omega
  · rw [State.regBit, s.reg_setFld_other _ _ (by unfold SW_FENCE; omega), State.regBit]
  · unfold State.portKind
    rw [s.fld_setFld_bits F (LN_PORT_W0_KIND p) v (.inr hhi) (show 55 < 64 by decide)]
  · unfold State.portUp
    rw [s.fld_setFld_bits F (LN_PORT_W2_STATE p) v (.inr (hhi.trans (by decide : (52 : Nat) < 60))) (show 63 < 64 by decide)]

theorem sameEnds_tpMove (s : State) (p c' : Nat) : SameEnds s (s.tpMove p c') := by
  rw [State.tpMove]
  refine .trans (.trans ?_ (sameEnds_setFld _ ?_ (show 12 < 52 by decide) _)) (sameEnds_setFld _ (by decide) (by decide) _)
  · exact ⟨rfl, fun _ => rfl, fun _ => rfl, fun _ => rfl⟩
  · exact Nat.le_add_right_of_le (by decide : (0x00400000 : Nat) ≤ 0x00409000)

theorem sameEnds_endCtx (s : State) (c : TCtx) : SameEnds s (s.endCtx c) := by
  rw [State.endCtx]
  refine .trans (.trans (.trans ?_ (sameEnds_tpMove _ _ _)) (sameEnds_setFld _ (by decide) (by decide) _)) (sameEnds_setFld _ ?_ (show 28 < 52 by decide) _)
  · exact ⟨rfl, fun _ => rfl, fun _ => rfl, fun _ => rfl⟩
  · exact Nat.le_add_right_of_le (by decide : (0x00400000 : Nat) ≤ 0x00409000)

/-- A frame to an endpoint, of a kind that no agent takes, with a port that is up. -/
structure Bound (s : State) (f : Frame) : Prop where
  dest : f.destKind = 3
  coord : f.dstCoord = s.coord
  notCurfew : f.kind ≠ 0x60
  notSnapshot : f.kind ≠ 0x72
  port : Reachable s f.dstPort

theorem Bound.routes {s t : State} {f : Frame} (h : Bound s f) (hr : Routes s t) : Bound t f :=
  ⟨h.dest, h.coord.trans hr.coord.symm, h.notCurfew, h.notSnapshot, h.port.routes hr⟩

theorem ToEndpoint.bound {s : State} {kind port : Nat} {p : List Byte} {f : Frame} (h : ToEndpoint s kind port p f) (h60 : kind ≠ 0x60)
    (h72 : kind ≠ 0x72) (hport : Reachable s port) : Bound s f :=
  ⟨h.dest, h.coord, h.kind ▸ h60, h.kind ▸ h72, h.port ▸ hport⟩

/-- The end of a context loses no posted frame to an endpoint. -/
theorem Posted.endCtx {s : State} {f : Frame} (h : Posted s f) (hf : Bound s f) (c : TCtx) : Posted (s.endCtx c) f := by
  have hsw : (s.endCtx c).sw = s.sw := within_endCtx.same .sw (by decide)
  obtain ⟨n, hdesc, hbelow, hcopy, hports⟩ | ⟨-, a, ha⟩ := h
  · exact .inl ⟨n, by rwa [hsw], by rwa [hsw], by rwa [hsw], by rwa [hsw]⟩
  · have hends := sameEnds_endCtx s c
    exact .inr ⟨⟨hf.dest, .inl ⟨hf.coord.trans hends.coord.symm, hf.notCurfew, hf.notSnapshot, hends.reachable hf.port⟩⟩, a, by rwa [hsw]⟩

theorem Numbered.endCtx {s : State} (h : Numbered s) (c : TCtx) : Numbered (s.endCtx c) := by
  have hsw : (s.endCtx c).sw = s.sw := within_endCtx.same .sw (by decide)
  rwa [Numbered, hsw]

/-! ### Rounds close -/

/-- The records of a round's end lose no frame. -/
theorem Keeps.sendComplete {s : State} (c : TCtx) (r status : Nat) : Keeps s (s.sendComplete c r status) := by
  rw [State.sendComplete]
  refine Keeps.foldl _ (fun y x _ => ?_) s
  split
  · exact Keeps.refl y
  · dsimp only
    split
    · exact (Keeps.toSlot _ _ _ _ _ _ _ _).trans (Keeps.foldl _ (fun z p _ => Keeps.toSlot _ _ _ _ _ _ _ _) _)
    · exact Keeps.toSlot _ _ _ _ _ _ _ _

/-- A round's end is told to each endpoint slot that is up. -/
theorem posted_sendComplete {s : State} (hn : Numbered s) {c : TCtx} (r status : Nat) {x : Nat × TSlot} (hx : x ∈ c.slotsNo)
    (hmodule : x.2.isModule = false) (hport : Reachable s x.2.port) :
    ∃ f, ToEndpoint s 0x56 x.2.port (c.record r status) f ∧ Posted (s.sendComplete c r status) f := by
  rw [State.sendComplete]
  refine posted_foldl hx hn (fun y z _ => ?_) fun y hr hny => ?_
  · dsimp only
    repeat' split
    · exact Keeps.refl y
    · exact (Keeps.toSlot _ _ _ _ _ _ _ _).trans (Keeps.foldl _ (fun w p _ => Keeps.toSlot _ _ _ _ _ _ _ _) _)
    · exact Keeps.toSlot _ _ _ _ _ _ _ _
  · obtain ⟨f, hf, hposted⟩ := posted_toSlot hny c x.1 hmodule (hport.routes hr) (r * c.chunks) 0 0 (c.record r status) (by decide : 0x56 ≠ 0x60)
      (by decide)
    refine ⟨f, hf.of_routes hr, ?_⟩
    rw [if_neg (by simp [hmodule])]
    dsimp only
    split
    · exact (Keeps.foldl _ (fun w p _ => Keeps.toSlot _ _ _ _ _ _ _ _) _).posted hposted
    · exact hposted

theorem Posted.closeRounds (n : Nat) {s : State} {f : Frame} (h : Posted s f) (hf : Bound s f) (hn : Numbered s) (i : Nat) :
    Posted (State.closeRounds n s i) f ∧ Numbered (State.closeRounds n s i) := by
  induction n generalizing s with
  | zero => exact ⟨h, hn⟩
  | succ n ih =>
    rw [State.closeRounds]
    split
    next => exact ⟨h, hn⟩
    next d _ =>
      split
      · exact ⟨h, hn⟩
      · have hk : Keeps s (if d.failedRounds.contains d.round then s else s.sendComplete d d.round 0) := by
          split
          · exact Keeps.refl s
          · exact Keeps.sendComplete _ _ _
        dsimp only
        generalize (if d.failedRounds.contains d.round then s else s.sendComplete d d.round 0) = s1 at hk
        split
        · split
          · have howed : Keeps s (s1.modTally fun t => { t with owed := t.owed ++ [d] }) := hk.trans (Quiet.modTally _).keeps
            exact ⟨(howed.posted h).endCtx (hf.routes howed.routes) d, (howed.numbered hn).endCtx d⟩
          · exact ⟨(hk.posted h).endCtx (hf.routes hk.routes) d, (hk.numbered hn).endCtx d⟩
        · have hput : ∀ e, Keeps s (s1.putCtx e) := fun e => hk.trans (Quiet.putCtx e).keeps
          exact ih ((hput _).posted h) (hf.routes (hput _).routes) ((hput _).numbered hn)

theorem Posted.advance {s : State} {f : Frame} (h : Posted s f) (hf : Bound s f) (hn : Numbered s) (c : TCtx) (forced : Bool) :
    Posted (s.advance c forced) f ∧ Numbered (s.advance c forced) := by
  rw [State.advance]
  dsimp only
  generalize { c.settle s.free with doneTicks := (c.settle s.free).doneTicks.filter (fun x => decide ((c.settle s.free).oldest ≤ x.1 + 1)) } = d
  have hk : ∀ b, Keeps s ((s.putCtx d).sendCredits d b) := fun b => (Quiet.putCtx _).keeps.trans (Keeps.sendCredits _ _)
  exact ((hk _).posted h).closeRounds _ (hf.routes (hk _).routes) ((hk _).numbered hn) _

/-! ### Counters of the engine -/

section
variable {s : State} {n : Nat} (hn : n < 256)
include hn

theorem cnt_setFld {F : Fld} (h : F.off = TL_STATUS ∨ 0x00409000 ≤ F.off) (v : Nat) : (s.setFld F v).reg (TL_CNT n) = s.reg (TL_CNT n) := by
  refine s.reg_setFld_other _ _ ?_
  unfold TL_CNT
  unfold TL_STATUS at h
  omega

theorem cnt_endCtx (c : TCtx) : (s.endCtx c).reg (TL_CNT n) = s.reg (TL_CNT n) := by
  have hstat : ∀ p, 0x00409000 ≤ TL_POOL_STAT p := fun p => Nat.le_add_right _ _
  rw [State.endCtx, cnt_setFld hn (.inr (hstat _)), cnt_setFld hn (.inl rfl), State.tpMove,
    cnt_setFld hn (.inl rfl), cnt_setFld hn (.inr (hstat _))]
  rfl

theorem cnt_sendComplete (c : TCtx) (r status : Nat) : (s.sendComplete c r status).reg (TL_CNT n) = s.reg (TL_CNT n) := by
  have ho : OffCore (TL_CNT n) := offCore_tlCnt (by omega)
  rw [State.sendComplete]
  refine State.reg_foldl (fun y x _ => ?_) s
  split
  · rfl
  · dsimp only
    split
    · exact (State.reg_foldl (fun z p _ => State.reg_toSlot ho _ _ _ _ _ _ _ _) _).trans (State.reg_toSlot ho _ _ _ _ _ _ _ _)
    · exact State.reg_toSlot ho _ _ _ _ _ _ _ _

theorem cnt_closeRounds (m : Nat) (i : Nat) : (State.closeRounds m s i).reg (TL_CNT n) = s.reg (TL_CNT n) := by
  induction m generalizing s with
  | zero => rfl
  | succ m ih =>
    rw [State.closeRounds]
    split
    next => rfl
    next d _ =>
      split
      · rfl
      · have hs1 : (if d.failedRounds.contains d.round then s else s.sendComplete d d.round 0).reg (TL_CNT n) = s.reg (TL_CNT n) := by
          split
          · rfl
          · exact cnt_sendComplete hn _ _ _
        dsimp only
        generalize (if d.failedRounds.contains d.round then s else s.sendComplete d d.round 0) = s1 at hs1
        rw [← hs1]
        split
        · rw [cnt_endCtx hn]
          split <;> rfl
        · exact ih

theorem cnt_advance (c : TCtx) (forced : Bool) : (s.advance c forced).reg (TL_CNT n) = s.reg (TL_CNT n) := by
  rw [State.advance]
  dsimp only
  rw [cnt_closeRounds hn, State.reg_sendCredits (offCore_tlCnt (by omega)), State.reg_putCtx]

end

/-! ### A round fails -/

/-- The frames that tell of a failed round. -/
def State.failTold (s : State) (c : TCtx) (r reason chunk : Nat) (fromSlot : Option Nat) (fromParent : Bool) : State :=
  let s1 := c.slotsNo.foldl (fun s x => if fromSlot = some x.1 then s else
    s.toSlot c 0x55 x.1 x.2 (r * c.chunks + chunk % c.chunks) 0 0 (failPayload reason r chunk)) s
  if c.root || fromParent then s1 else s1.toParent c 0x55 (r * c.chunks + chunk % c.chunks) 0 (failPayload reason r chunk)

/-- A context without the chunks of a failed round. -/
def TCtx.failed (c : TCtx) (r : Nat) : TCtx :=
  { c with win := c.win.filter (fun k => k.g / c.chunks != r), failedRounds := c.failedRounds ++ [r] }

theorem failRound_eq {s : State} {c : TCtx} {r : Nat} (hr : c.round ≤ r) (hlt : r < c.rounds) (hnew : r ∉ c.failedRounds) (reason chunk : Nat)
    (fromSlot : Option Nat) (fromParent : Bool) :
    s.failRound c r reason chunk fromSlot fromParent =
      (((s.failTold c r reason chunk fromSlot fromParent).putCtx (c.failed r)).sendComplete (c.failed r) r (failStatus reason)).advance
        (c.failed r) true := by
  rw [State.failRound, if_neg (not_or.2 ⟨by omega, not_or.2 ⟨by omega, by simpa using hnew⟩⟩)]
  rfl

theorem Keeps.failTold {s : State} (c : TCtx) (r reason chunk : Nat) (fromSlot : Option Nat) (fromParent : Bool) :
    Keeps s (s.failTold c r reason chunk fromSlot fromParent) := by
  have hslots := Keeps.foldl c.slotsNo (g := fun s x => if fromSlot = some x.1 then s else
    s.toSlot c 0x55 x.1 x.2 (r * c.chunks + chunk % c.chunks) 0 0 (failPayload reason r chunk)) (fun y x _ => by
      split
      · exact Keeps.refl y
      · exact Keeps.toSlot _ _ _ _ _ _ _ _) s
  rw [State.failTold]
  split
  · exact hslots
  · exact hslots.trans (Keeps.toParent _ _ _ _ _)

theorem cnt_failTold {s : State} {n : Nat} (hn : n < 256) (c : TCtx) (r reason chunk : Nat) (fromSlot : Option Nat) (fromParent : Bool) :
    (s.failTold c r reason chunk fromSlot fromParent).reg (TL_CNT n) = s.reg (TL_CNT n) := by
  have ho : OffCore (TL_CNT n) := offCore_tlCnt (by omega)
  have hslots := State.reg_foldl (l := c.slotsNo) (o := TL_CNT n) (g := fun s x => if fromSlot = some x.1 then s else
    s.toSlot c 0x55 x.1 x.2 (r * c.chunks + chunk % c.chunks) 0 0 (failPayload reason r chunk)) (fun y x _ => by
      split
      · rfl
      · exact State.reg_toSlot ho _ _ _ _ _ _ _ _) s
  rw [State.failTold]
  split
  · exact hslots
  · exact (State.reg_toParent ho _ _ _ _ _).trans hslots

section
variable {s : State} {c : TCtx} {r : Nat} (hr : c.round ≤ r) (hlt : r < c.rounds) (hnew : r ∉ c.failedRounds) (reason chunk : Nat)
  (fromSlot : Option Nat) (fromParent : Bool)
include hr hlt hnew

/-- A failed round is told to each endpoint slot that is up; the frame is posted still when the waiting ones have been tried again. -/
theorem posted_failRound (hn : Numbered s) {x : Nat × TSlot} (hx : x ∈ c.slotsNo) (hmodule : x.2.isModule = false) (hport : Reachable s x.2.port) :
    ∃ f, ToEndpoint s 0x56 x.2.port (c.record r (failStatus reason)) f ∧ Posted ((s.failRound c r reason chunk fromSlot fromParent).retryAgents) f := by
  have hk : Keeps s ((s.failTold c r reason chunk fromSlot fromParent).putCtx (c.failed r)) :=
    (Keeps.failTold c r reason chunk fromSlot fromParent).trans (Quiet.putCtx _).keeps
  rw [failRound_eq hr hlt hnew]
  obtain ⟨f, hf, hposted⟩ := posted_sendComplete (hk.numbered hn) (c := c.failed r) r (failStatus reason) hx hmodule (hport.routes hk.routes)
  have hto : ToEndpoint s 0x56 x.2.port (c.record r (failStatus reason)) f := hf.of_routes hk.routes
  have hsent := hk.trans (Keeps.sendComplete (c.failed r) r (failStatus reason))
  obtain ⟨hadvanced, hnum⟩ := hposted.advance ((hto.bound (by decide) (by decide) hport).routes hsent.routes) (hsent.numbered hn) (c.failed r) true
  exact ⟨f, hto, Carries.retryAgents.posted hnum f hadvanced⟩

/-- What stands in a context's place after its round has failed has the round as failed, and no chunk of it. -/
theorem failRound_window {d : TCtx} (h : (s.failRound c r reason chunk fromSlot fromParent).ctxAt? c.idx = some d) :
    r ∈ d.failedRounds ∧ ∀ k ∈ d.win, k.g / c.chunks ≠ r := by
  rw [failRound_eq hr hlt hnew] at h
  generalize ((s.failTold c r reason chunk fromSlot fromParent).putCtx (c.failed r)).sendComplete (c.failed r) r (failStatus reason) = u at h
  obtain ⟨hidx, hchunks, hfailed⟩ := (c.failed r).settle_rounds u.free
  have hmem : r ∈ (c.failed r).failedRounds := by simp [TCtx.failed]
  obtain ⟨⟨-, -, hdfailed⟩, hdwin⟩ := windowHeld_advance u (c.failed r) true d (by rw [hidx]; exact h)
  refine ⟨by rwa [hdfailed, hfailed], fun k hk => ?_⟩
  rw [hdwin] at hk
  obtain hk | hk := TCtx.mem_settle hk
  · simpa using (List.mem_filter.1 hk).2
  · exact fun e => hk (e ▸ hmem)

theorem cnt_failRound {n : Nat} (hn : n < 256) : (s.failRound c r reason chunk fromSlot fromParent).reg (TL_CNT n) = s.reg (TL_CNT n) := by
  rw [failRound_eq hr hlt hnew, cnt_advance hn, cnt_sendComplete hn, State.reg_putCtx, cnt_failTold hn]

end

end Sys2Proof.Machine
end

section
/-! PROOF. O24: results, acknowledgements, credit, resends, failures and dispatch of the tally engine complete with their effect. -/

-- Proofs are checked one at a time: side by side they would only wait for one another.
set_option Elab.async false

namespace Sys2Proof.Machine
open Sys2Proof

/-! ### A result (R183, R184) -/

/-- Where a receiving slot's acknowledgement is awaited, no chunk is freed. -/
theorem freeIfDone_awaited {s : State} {idx g : Nat} {c : TCtx} {k : TChunk} (hc : s.ctxAt? idx = some c) (hk : c.chunk? g = some k)
    (hr : ∃ r ∈ k.recvs, r.done = false) : s.freeIfDone idx g = s := by
  obtain ⟨r, hmem, hdone⟩ := hr
  have hall : k.recvs.all (·.done) = false := List.all_eq_false.2 ⟨r, hmem, by simp [hdone]⟩
  simp [State.freeIfDone, hc, hk, hall]

/-- A chunk put back with an acknowledgement awaited stays. -/
theorem chunk_of_put {s x : State} {b c : TCtx} {g : Nat} {k : TChunk} (hb : b ∈ s.tally.ctxs) (hidx : c.idx = b.idx)
    (hx : x.tally = (s.putCtx c).tally) (hk : c.chunk? g = some k) (hr : ∃ r ∈ k.recvs, r.done = false) :
    ((x.freeIfDone b.idx g).ctxAt? b.idx).bind (·.chunk? g) = some k := by
  have hc : x.ctxAt? b.idx = some c := hidx ▸ (State.ctxAt?_congr hx c.idx).trans (State.ctxAt?_putCtx hb hidx.symm)
  rw [freeIfDone_awaited hc hk hr, hc, Option.bind_some, hk]

/-- The acknowledgements that a result sent to the slots `rs` awaits; those of fenced ports are taken as missed (R190). -/
def State.awaits (s : State) (rs : List (Nat × TSlot)) : List TRecv :=
  rs.map (fun x => ⟨x.1, 0, s.free, !x.2.isModule && s.regBit SW_FENCE x.2.port⟩)

/-- A result that one slot with an open port is to receive leaves its chunk in place, with the result. -/
theorem distribute_chunk {s : State} {idx g : Nat} {c : TCtx} {k : TChunk} {x : Nat × TSlot} (hc : s.ctxAt? idx = some c) (hk : c.chunk? g = some k)
    (hx : x ∈ c.slotsNo) (hreach : c.reaches x.2 g = true) (hopen : s.regBit SW_FENCE x.2.port = false) :
    ((s.distribute idx g).ctxAt? idx).bind (·.chunk? g) = some { k with recvs := s.awaits (c.slotsNo.filter (fun x => c.reaches x.2 g)) } := by
  have hidx : c.idx = idx := State.idx_of_ctxAt? hc
  have hg : k.g = g := TCtx.g_of_chunk? hk
  have hawait : ∃ r ∈ s.awaits (c.slotsNo.filter (fun x => c.reaches x.2 g)), r.done = false :=
    ⟨_, List.mem_map_of_mem (List.mem_filter.2 ⟨hx, hreach⟩), by simp [hopen]⟩
  have hchunk := c.chunk?_putChunk hk (k1 := { k with recvs := s.awaits (c.slotsNo.filter (fun x => c.reaches x.2 g)) }) hg
  rw [State.distribute, hc]
  dsimp only
  rw [hk]
  dsimp only
  rw [← hidx]
  generalize hd : TCtx.modStat (TCtx.putChunk c _) _ _ = d
  refine chunk_of_put (State.mem_of_ctxAt? hc) (c := d) (by rw [← hd]; rfl) ?_ (by rw [← hd]; exact hchunk) hawait
  have hsent : ∀ (l : List (Nat × TSlot)) (y : TChunk), (l.foldl (fun u z => u.sendResult d y z.1 z.2) (s.putCtx d)).tally = (s.putCtx d).tally :=
    fun l y => (Within.foldl (fun _ _ => within_sendResult) _ (Within.refl _ _)).same .tally (by decide)
  split
  · exact (within_castResult.same .tally (by decide)).trans (hsent _ _)
  · exact hsent _ _

/-- A good result of the parent is taken into its chunk and sent on. -/
theorem exec_result_taken {s : State} {f : Frame} {c : TCtx} {k : TChunk} (h6 : s.phase ≠ 6) (ht : s.trusted f = true) (hc : s.ctxOf f = some c)
    (hparent : c.fromParent f = true) (hchunk : tChunk f < c.chunks) (hfail : c.gOf f / c.chunks ∉ c.failedRounds)
    (hlen : f.payload.length = c.resultLength) (hk : c.chunk? (c.gOf f) = some k) (hnew : k.result = none) (headerOk : Bool) :
    exec (.result f true headerOk) s = .next (((((s.takeAgent f).ackResult c (c.gOf f) false).putCtx
      (c.putChunk { k with result := some (f.payload, f.tag % 64) })).distribute c.idx (c.gOf f)).retryAgents) := by
  have hcond : ¬((!c.fromParent f) = true ∨ c.chunks ≤ tChunk f ∨ c.failedRounds.contains (c.gOf f / c.chunks) = true) := by
    simp [hparent, hchunk, hfail]
  show execResult f true headerOk s = _
  rw [execResult, tallyServe_trusted h6 ht, (State.ctxOf_congr (tally_takeAgent s f) f).trans hc]
  dsimp only
  rw [if_neg hcond, if_neg (by decide), if_neg (by simp [hlen]), hk]
  dsimp only
  rw [if_neg (by simp [hnew])]

theorem completes_result_taken {s : State} {f : Frame} {c : TCtx} {k : TChunk} {x : Nat × TSlot} (h6 : s.phase ≠ 6) (ht : s.trusted f = true)
    (hc : s.ctxOf f = some c) (hparent : c.fromParent f = true) (hchunk : tChunk f < c.chunks) (hfail : c.gOf f / c.chunks ∉ c.failedRounds)
    (hlen : f.payload.length = c.resultLength) (hk : c.chunk? (c.gOf f) = some k) (hnew : k.result = none) (hx : x ∈ c.slotsNo)
    (hreach : c.reaches x.2 (c.gOf f) = true) (hopen : s.regBit SW_FENCE x.2.port = false) (headerOk : Bool) :
    Completes (.result f true headerOk) s (fun t =>
      ((t.ctxAt? c.idx).bind (·.chunk? (c.gOf f))).map (·.result) = some (some (f.payload, f.tag % 64))) := by
  refine ⟨_, exec_result_taken h6 ht hc hparent hchunk hfail hlen hk hnew headerOk, ?_⟩
  have hg0 : k.g = c.gOf f := TCtx.g_of_chunk? hk
  generalize hk1 : { k with result := some (f.payload, f.tag % 64) } = k1
  have hg : k1.g = c.gOf f := by rw [← hk1]; exact hg0
  have hroutes : Routes s ((s.takeAgent f).ackResult c (c.gOf f) false) := ((Quiet.takeAgent f).keeps.trans (Keeps.toParent _ _ _ _ _)).routes
  have htally : ((s.takeAgent f).ackResult c (c.gOf f) false).tally = s.tally := (tally_toParent _ _ _ _ _ _).trans (tally_takeAgent s f)
  generalize (s.takeAgent f).ackResult c (c.gOf f) false = u at hroutes htally
  have hput : (u.putCtx (c.putChunk k1)).ctxAt? c.idx = some (c.putChunk k1) :=
    State.ctxAt?_putCtx (b := c) (c := c.putChunk k1) (htally ▸ State.mem_of_ctxOf hc) rfl
  beta_reduce
  rw [State.ctxAt?_congr (tally_retryAgents _),
    distribute_chunk hput (TCtx.chunk?_putChunk hk hg) (x := x) hx hreach ((hroutes.fence _).trans hopen), ← hk1]
  rfl

theorem completes_result_spoiled {s : State} {f : Frame} {c : TCtx} (h6 : s.phase ≠ 6) (ht : s.trusted f = true) (hc : s.ctxOf f = some c)
    (headerOk : Bool) : Completes (.result f false headerOk) s (fun t => t.tally = s.tally) := by
  have hacked : ∀ u : State, (u.ackResult c (c.gOf f) true).tally = u.tally := fun u => tally_toParent _ _ _ _ _ _
  have hexec : exec (.result f false headerOk) s = execResult f false headerOk s := rfl
  rw [execResult, tallyServe_trusted h6 ht, (State.ctxOf_congr (tally_takeAgent s f) f).trans hc] at hexec
  refine ⟨_, hexec, (tally_retryAgents _).trans (Eq.trans ?_ (tally_takeAgent s f))⟩
  dsimp only
  rw [if_pos (by decide : (!false) = true)]
  repeat' split
  · rfl
  · exact hacked _
  · rfl

/-! ### An acknowledgement (R184, R190) -/

/-- What the acknowledgement of a slot is judged by. -/
structure AckOf (s : State) (f : Frame) (c : TCtx) (x : TSlot) (k : TChunk) (r : TRecv) : Prop where
  phase : s.phase ≠ 6
  trusted : s.trusted f = true
  ctx : s.ctxOf f = some c
  slot : c.slot? (tSlot f) = some x
  chunk : c.chunk? (c.gOf f) = some k
  recv : k.recvs.find? (fun r => r.slot == tSlot f && !r.done) = some r
  sender : s.fromSlot x f = true
  below : tChunk f < c.chunks
  length : f.payload.length = 1

section
variable {s : State} {f : Frame} {c : TCtx} {x : TSlot} {k : TChunk} {r : TRecv} (h : AckOf s f c x k r)
include h

theorem AckOf.recv_slot : r.slot = tSlot f := by
  have hr := List.find?_some h.recv
  simp only [Bool.and_eq_true, beq_iff_eq] at hr
  exact hr.1

theorem AckOf.recv_waits : r ∈ k.recvs ∧ r.done = false := by
  have hr := List.find?_some h.recv
  simp only [Bool.and_eq_true, Bool.not_eq_true'] at hr
  exact ⟨List.mem_of_find?_eq_some h.recv, hr.2⟩

theorem AckOf.exec_eq : exec (.ack f) s = .next ((if byteAt f.payload 0 = 0 then (s.takeAgent f).recvDone c k r.slot false
    else (s.takeAgent f).resendResult c k r x).retryAgents) := by
  have hfrom : (s.takeAgent f).fromSlot x f = true := by
    rw [State.fromSlot, (Quiet.takeAgent f).routes.coord]
    exact h.sender
  have hempty : f.payload.isEmpty = false := by
    rw [List.isEmpty_eq_false_iff_exists_mem]
    exact List.exists_mem_of_length_pos (by rw [h.length]; decide)
  have hcond : ¬((!(s.takeAgent f).fromSlot x f) = true ∨ f.payload.isEmpty = true ∨ c.chunks ≤ tChunk f) := by
    simp [hfrom, hempty, h.below]
  show execAck f s = _
  rw [execAck, tallyServe_trusted h.phase h.trusted, (State.ctxOf_congr (tally_takeAgent s f) f).trans h.ctx]
  dsimp only
  rw [h.slot, h.chunk]
  dsimp only
  rw [h.recv]
  dsimp only
  rw [if_neg hcond]

end

/-- The acknowledgement of a slot is noted on its chunk. -/
def TChunk.acked (k : TChunk) (slot : Nat) : TChunk :=
  { k with recvs := k.recvs.map (fun r => if r.slot = slot then { r with done := true } else r) }

/-- The context with the acknowledgement of a slot noted, and the slot as missed if it is. -/
def TCtx.ackNoted (c : TCtx) (k : TChunk) (slot : Nat) (missed : Bool) : TCtx :=
  (c.putChunk (k.acked slot)).modStat (k.g / c.chunks) (fun t => { t with
    missed := if missed && !t.missed.contains slot then t.missed ++ [slot] else t.missed })

theorem recvDone_eq (s : State) (c : TCtx) (k : TChunk) (slot : Nat) (missed : Bool) :
    s.recvDone c k slot missed = (s.putCtx (c.ackNoted k slot missed)).freeIfDone c.idx k.g := rfl

theorem TCtx.chunk?_ackNoted {c : TCtx} {g : Nat} {k : TChunk} (h : c.chunk? g = some k) (slot : Nat) (missed : Bool) :
    (c.ackNoted k slot missed).chunk? g = some (k.acked slot) :=
  TCtx.chunk?_putChunk h (k1 := k.acked slot) (show k.g = g from TCtx.g_of_chunk? h)

/-- A slot that has not acknowledged yet keeps the chunk. -/
theorem completes_ack_awaited {s : State} {f : Frame} {c : TCtx} {x : TSlot} {k : TChunk} {r : TRecv} (h : AckOf s f c x k r)
    (hgood : byteAt f.payload 0 = 0) (hother : ∃ y ∈ k.recvs, y.slot ≠ tSlot f ∧ y.done = false) :
    Completes (.ack f) s (fun t => (t.ctxAt? c.idx).bind (·.chunk? (c.gOf f)) = some (k.acked (tSlot f))) := by
  obtain ⟨y, hy, hslot, hdone⟩ := hother
  refine ⟨_, h.exec_eq, ?_⟩
  beta_reduce
  rw [if_pos hgood, State.ctxAt?_congr (tally_retryAgents _), recvDone_eq, h.recv_slot, TCtx.g_of_chunk? h.chunk]
  exact chunk_of_put (s := s.takeAgent f) (b := c) (c := c.ackNoted k (tSlot f) false) ((tally_takeAgent s f).symm ▸ State.mem_of_ctxOf h.ctx) rfl rfl
    (TCtx.chunk?_ackNoted h.chunk _ _) ⟨y, List.mem_map.2 ⟨y, hy, if_neg hslot⟩, hdone⟩

/-- The last acknowledgement frees the chunk of a result. -/
theorem freeIfDone_done {s : State} {idx g : Nat} {c : TCtx} {k : TChunk} (hc : s.ctxAt? idx = some c) (hk : c.chunk? g = some k)
    (hres : k.result.isSome = true) (hall : ∀ r ∈ k.recvs, r.done = true) : s.freeIfDone idx g = s.freeChunk c g := by
  have hall' : k.recvs.all (·.done) = true := List.all_eq_true.2 hall
  simp [State.freeIfDone, hc, hk, hres, hall']

/-- With no round failed, a chunk below the limit that is freed is gone. -/
theorem freeChunk_gone {s : State} {c : TCtx} {g : Nat} (hfail : c.failedRounds = []) (hlim : g < c.limit) :
    ((s.freeChunk c g).ctxAt? c.idx).bind (·.chunk? g) = none := by
  generalize hd : { c with win := c.win.filter (fun k => k.g != g) } = d
  have hheld : WindowHeld (d.settle s.free) (s.freeChunk c g) := by
    rw [State.freeChunk, hd]
    exact windowHeld_advance s d false
  have hidx : (d.settle s.free).idx = c.idx := (d.settle_rounds s.free).idx.trans (by rw [← hd])
  cases he : (s.freeChunk c g).ctxAt? c.idx with
  | none => rfl
  | some e =>
    refine TCtx.chunk?_filtered fun k hk => ?_
    rw [(hheld e (by rw [hidx, he])).win] at hk
    obtain hk | hk := TCtx.mem_settle_limit (by rw [← hd]; exact hfail) hk
    · rw [← hd] at hk
      simpa using (List.mem_filter.1 hk).2
    · have hsame : d.limit = c.limit := by rw [← hd]; rfl
      omega

theorem completes_ack_last {s : State} {f : Frame} {c : TCtx} {x : TSlot} {k : TChunk} {r : TRecv} (h : AckOf s f c x k r)
    (hgood : byteAt f.payload 0 = 0) (hres : k.result.isSome = true) (hall : ∀ y ∈ k.recvs, y.slot = tSlot f ∨ y.done = true)
    (hfail : c.failedRounds = []) (hlim : c.gOf f < c.limit) :
    Completes (.ack f) s (fun t => (t.ctxAt? c.idx).bind (·.chunk? (c.gOf f)) = none) := by
  refine ⟨_, h.exec_eq, ?_⟩
  beta_reduce
  rw [if_pos hgood, State.ctxAt?_congr (tally_retryAgents _), recvDone_eq, h.recv_slot, TCtx.g_of_chunk? h.chunk]
  have hput : ((s.takeAgent f).putCtx (c.ackNoted k (tSlot f) false)).ctxAt? c.idx = some (c.ackNoted k (tSlot f) false) :=
    State.ctxAt?_putCtx (b := c) (c := c.ackNoted k (tSlot f) false) ((tally_takeAgent s f).symm ▸ State.mem_of_ctxOf h.ctx) rfl
  rw [freeIfDone_done hput (TCtx.chunk?_ackNoted h.chunk _ _) hres]
  · exact freeChunk_gone (c := c.ackNoted k (tSlot f) false) hfail hlim
  · intro r hr
    obtain ⟨y, hy, rfl⟩ := List.mem_map.1 hr
    split
    · rfl
    · next hne => exact (hall y hy).resolve_left hne

/-! ### A result is sent again (R190) -/

/-- A result that a slot with an open port lacks goes to it again. -/
theorem resendResult_sent {s x : State} (hs : Calm s) (hx : Carries s x) (hcnt : x.reg (TL_CNT 8) = s.reg (TL_CNT 8))
    (hmax : x.fld TL_CTRL_RESEND_MAX = s.fld TL_CTRL_RESEND_MAX) (c : TCtx) {k : TChunk} {r : TRecv} {y : TSlot}
    (hleft : r.resends < s.fld TL_CTRL_RESEND_MAX) (hy : y.isModule = false) (hport : Reachable s y.port) {b : List Byte} {fl : Nat}
    (hres : k.result = some (b, fl)) :
    ((x.resendResult c k r y).retryAgents).reg (TL_CNT 8) = s.reg (TL_CNT 8) + 1 ∧
    Sent ((x.resendResult c k r y).retryAgents) (fun h => h.kind == 0x51 && h.dstPort == y.port && h.payload == b) := by
  have ho : OffCore (TL_CNT 8) := offCore_tlCnt (by decide)
  have hfence : x.regBit SW_FENCE y.port = false := (hx.routes.fence _).trans hport.2.2.2
  have hcond : ¬(x.fld TL_CTRL_RESEND_MAX ≤ r.resends ∨ (!y.isModule) = true ∧ x.regBit SW_FENCE y.port = true) := by
    simp [hfence, hmax, hleft]
  rw [State.resendResult, if_neg hcond]
  dsimp only
  generalize hd : TCtx.modStat (TCtx.putChunk c _) _ _ = d
  rw [State.sendResult, hres]
  dsimp only
  have hq : Quiet x ((x.putCtx d).count (TL_CNT 8)) := (Quiet.putCtx d).trans (Quiet.count (not_routeReg_tlCnt (by decide)))
  have hcarry := hx.trans hq.carries
  constructor
  · rw [State.reg_retryAgents ho, State.reg_toSlot ho, State.reg_count_same, State.reg_putCtx, hcnt]
  · obtain ⟨f, hf, hposted⟩ := posted_toSlot (hcarry.numbered (Calm.numbered hs)) d r.slot hy (hport.routes hcarry.routes) k.g 0 (fl % 64) b
      (by decide : 0x51 ≠ 0x60) (by decide)
    exact hf.sent (Carries.retryAgents.posted ((Keeps.toSlot _ _ _ _ _ _ _ _).numbered (hcarry.numbered (Calm.numbered hs))) _ hposted)

theorem completes_ack_bad {s : State} {f : Frame} {c : TCtx} {x : TSlot} {k : TChunk} {r : TRecv} {b : List Byte} {fl : Nat} (hs : Calm s)
    (h : AckOf s f c x k r) (hbad : byteAt f.payload 0 ≠ 0) (hleft : r.resends < s.fld TL_CTRL_RESEND_MAX) (hx : x.isModule = false)
    (hport : Reachable s x.port) (hres : k.result = some (b, fl)) :
    Completes (.ack f) s (fun t => t.reg (TL_CNT 8) = s.reg (TL_CNT 8) + 1 ∧
      Sent t (fun h => h.kind == 0x51 && h.dstPort == x.port && h.payload == b)) := by
  refine ⟨_, h.exec_eq, ?_⟩
  rw [if_neg hbad]
  exact resendResult_sent hs (Quiet.takeAgent f).carries (State.reg_takeAgent (offCore_tlCnt (n := 8) (by decide)).1 f)
    (fld_takeAgent s f (by decide)) c hleft hx hport hres

theorem completes_resultAckTimeout {s : State} {ctx g slot : Nat} {c : TCtx} {x : TSlot} {k : TChunk} {r : TRecv} {b : List Byte} {fl : Nat}
    (hs : Calm s) (hc : s.ctxAt? ctx = some c) (hslot : c.slot? slot = some x) (hk : c.chunk? g = some k)
    (hr : k.recvs.find? (fun r => r.slot == slot && !r.done) = some r) (hdue : r.sentAt + s.usOf TL_CTRL_ACK_WAIT ≤ s.free)
    (hleft : r.resends < s.fld TL_CTRL_RESEND_MAX) (hx : x.isModule = false) (hport : Reachable s x.port) (hres : k.result = some (b, fl)) :
    Completes (.resultAckTimeout ctx g slot) s (fun t => t.reg (TL_CNT 8) = s.reg (TL_CNT 8) + 1 ∧
      Sent t (fun h => h.kind == 0x51 && h.dstPort == x.port && h.payload == b)) := by
  have hexec : exec (.resultAckTimeout ctx g slot) s = .next ((s.resendResult c k r x).retryAgents) := by
    show execResultAckTimeout ctx g slot s = _
    rw [execResultAckTimeout, hc]
    dsimp only
    rw [hslot, hk]
    dsimp only
    rw [hr]
    dsimp only
    rw [if_pos hdue]
  exact ⟨_, hexec, resendResult_sent hs (Carries.refl s) rfl rfl c hleft hx hport hres⟩

end Sys2Proof.Machine
end

section
/-! PROOF. O24, continued: credit, resends and failed rounds (R166, R168, R187, R188, R191, R193). -/

-- Proofs are checked one at a time: side by side they would only wait for one another.
set_option Elab.async false

namespace Sys2Proof.Machine
open Sys2Proof

/-! ### Credit (R166) -/

theorem leNat_take_eq_zero {l : List Byte} (h : leNat l = 0) (n : Nat) : leNat (l.take n) = 0 := by
  induction l generalizing n with
  | nil => simpa using h
  | cons b l ih =>
    simp only [leNat] at h
    cases n with
    | zero => rfl
    | succ n =>
      simp only [List.take_succ_cons, leNat]
      rw [ih (by omega) n]
      omega

theorem leNat_drop_eq_zero {l : List Byte} (h : leNat l = 0) (n : Nat) : leNat (l.drop n) = 0 := by
  induction l generalizing n with
  | nil => simpa using h
  | cons b l ih =>
    cases n with
    | zero => exact h
    | succ n =>
      simp only [leNat] at h
      exact ih (by omega) n

/-- A field within one that reads zero reads zero. -/
theorem leAt_eq_zero {l : List Byte} {n a b : Nat} (h : leAt l 0 n = 0) (hab : a + b ≤ n) : leAt l a b = 0 := by
  have hpart : (l.drop a).take b = (((l.drop 0).take n).drop a).take b := by
    rw [List.drop_zero, List.drop_take, List.take_take, Nat.min_eq_left (by omega)]
  rw [leAt, hpart]
  exact leNat_take_eq_zero (leNat_drop_eq_zero h a) b

theorem tally_sendPartial (s : State) (c : TCtx) (k : TChunk) : (s.sendPartial c k).tally = s.tally :=
  (Within.foldl (fun _ _ => within_toParent) _ (Within.refl [.regs, .sw] s)).same .tally (by decide)

/-- A parent's credit raises the limit up to which chunks are sent to it. -/
theorem completes_credit_parent {s : State} {f : Frame} {c : TCtx} (h6 : s.phase ≠ 6) (ht : s.trusted f = true) (hc : s.ctxOf f = some c)
    (hparent : c.fromParent f = true) (hlen : f.payload.length = 12) (hnone : leAt f.payload 0 6 = 0) :
    Completes (.credit f) s (fun t => (t.ctxAt? c.idx).map (·.parentLimit) =
      some (max c.parentLimit (leAt f.payload 6 2 * c.chunks + leAt f.payload 8 4))) := by
  have hport : f.srcPort = 0xF1 := by
    rw [TCtx.fromParent] at hparent
    simp only [Bool.and_eq_true, beq_iff_eq] at hparent
    exact hparent.2
  have htaken : leAt f.payload 0 2 * c.chunks + leAt f.payload 2 4 = 0 := by
    rw [leAt_eq_zero hnone (by decide : 0 + 2 ≤ 6), leAt_eq_zero hnone (by decide : 2 + 4 ≤ 6)]
    omega
  have hexec : exec (.credit f) s = execCredit f s := rfl
  rw [execCredit, tallyServe_trusted h6 ht, (State.ctxOf_congr (tally_takeAgent s f) f).trans hc, if_neg (by simp [hlen, hport])] at hexec
  refine ⟨_, hexec, ?_⟩
  dsimp only
  rw [if_pos hparent, htaken, if_neg (by simp), State.ctxAt?_congr (tally_retryAgents _)]
  have hsent : ∀ (d : TCtx) (l : List TChunk), (l.foldl (fun s k => s.sendPartial d k) ((s.takeAgent f).putCtx d)).tally =
      ((s.takeAgent f).putCtx d).tally := fun d l =>
    List.foldlRecOn l _ (motive := fun u : State => u.tally = ((s.takeAgent f).putCtx d).tally) rfl fun u hu k _ => (tally_sendPartial u d k).trans hu
  have hput : ∀ (d : TCtx) (m : Nat), d.idx = c.idx → d.parentLimit = m → (((s.takeAgent f).putCtx d).ctxAt? c.idx).map (·.parentLimit) = some m :=
    fun d m hidx hm => by
      rw [← hidx, State.ctxAt?_putCtx (b := c) ((tally_takeAgent s f).symm ▸ State.mem_of_ctxOf hc) hidx.symm, Option.map_some, hm]
  rw [State.ctxAt?_congr (hsent _ _)]
  exact hput _ _ rfl rfl

theorem tally_sendKept (s : State) (k : Kept) : (s.sendKept k).tally = s.tally := within_agentSend.same .tally (by decide)

theorem tally_endWork (s : State) (w : Nat × Nat) : (s.endWork w).tally = s.tally := by
  rw [State.endWork]
  split <;> rfl

/-- The contributions that a credit to this module's agent of the slot leaves. -/
def Tally.leftKept (t : Tally) (f : Frame) : List Kept :=
  t.kept.filter (fun k => !(k.party == f.party && k.id == tId f && k.slot == tSlot f && k.coord == f.srcCoord && k.sent &&
    beforePoint k.round k.chunk (leAt f.payload 0 2) (leAt f.payload 2 4)))

/-- A limit of the slot that a credit names. -/
def limitOf (f : Frame) (l : SendLimit) : Bool := l.party == f.party && l.id == tId f && l.coord == f.srcCoord && l.slot == tSlot f

/-- What a credit of another module's tally leaves of the limits, and of what is kept but for what it has sent meanwhile. -/
theorem creditKept_tally {s : State} {f : Frame} (haway : f.srcCoord ≠ s.coord) :
    (s.creditKept f (leAt f.payload 0 2) (leAt f.payload 2 4) (leAt f.payload 6 2) (leAt f.payload 8 4)).tally.limits =
      s.tally.limits.filter (fun l => !limitOf f l) ++ [⟨f.party, tId f, f.srcCoord, tSlot f, leAt f.payload 6 2, leAt f.payload 8 4⟩] ∧
    (s.creditKept f (leAt f.payload 0 2) (leAt f.payload 2 4) (leAt f.payload 6 2) (leAt f.payload 8 4)).tally.kept.map
      (fun k => { k with sent := false }) = (s.tally.leftKept f).map (fun k => { k with sent := false }) := by
  have hended : (f.srcCoord == s.coord && (s.ctxOf f).isNone) = false := by simp [haway]
  rw [State.creditKept]
  dsimp only
  rw [hended, if_neg (by decide)]
  generalize hu : s.modTally _ = u
  have hlimits : u.tally.limits = s.tally.limits.filter (fun l => !limitOf f l) ++
    [⟨f.party, tId f, f.srcCoord, tSlot f, leAt f.payload 6 2, leAt f.payload 8 4⟩] := by rw [← hu]; rfl
  have hkept : u.tally.kept = s.tally.leftKept f := by rw [← hu]; rfl
  have hwork : ∀ l : List (Nat × Nat), (l.foldl State.endWork u).tally = u.tally := fun l =>
    List.foldlRecOn l _ (motive := fun x : State => x.tally = u.tally) rfl fun x hx w _ => (tally_endWork x w).trans hx
  have hsent : ∀ (l : List Kept) (x : State), (l.foldl State.sendKept x).tally = x.tally := fun l x =>
    List.foldlRecOn l _ (motive := fun y : State => y.tally = x.tally) rfl fun y hy k _ => (tally_sendKept y k).trans hy
  rw [hsent]
  generalize hv : List.foldl State.endWork u _ = v
  have hvt : v.tally = u.tally := by rw [← hv, hwork]
  constructor
  · show v.tally.limits = _
    rw [hvt, hlimits]
  · show (v.tally.kept.map _).map _ = _
    rw [hvt, hkept, List.map_map]
    refine List.map_congr_left fun k _ => ?_
    simp only [Function.comp]
    split <;> rfl

theorem completes_credit_kept {s : State} {f : Frame} (h6 : s.phase ≠ 6) (ht : s.trusted f = true) (hc : s.ctxOf f = none)
    (hcontrib : s.contributes f = true) (hlen : f.payload.length = 12) (hport : f.srcPort = 0xF1) (haway : f.srcCoord ≠ s.coord) :
    Completes (.credit f) s (fun t => t.tally.limits.filter (fun l => l.party == f.party && l.id == tId f && l.coord == f.srcCoord &&
        l.slot == tSlot f) = [⟨f.party, tId f, f.srcCoord, tSlot f, leAt f.payload 6 2, leAt f.payload 8 4⟩] ∧
      t.tally.kept.map (fun k => { k with sent := false }) = (s.tally.leftKept f).map (fun k => { k with sent := false })) := by
  have htally : (s.takeAgent f).tally = s.tally := tally_takeAgent s f
  have hcontrib' : (s.takeAgent f).contributes f = true := by rw [State.contributes, htally]; exact hcontrib
  have hexec : exec (.credit f) s = execCredit f s := rfl
  rw [execCredit, tallyServe_trusted h6 ht, (State.ctxOf_congr htally f).trans hc, if_neg (by simp [hlen, hport])] at hexec
  dsimp only at hexec
  rw [if_pos hcontrib'] at hexec
  obtain ⟨hlimits, hkept⟩ := creditKept_tally (s := s.takeAgent f) (f := f) (by rwa [(Quiet.takeAgent f).routes.coord])
  refine ⟨_, hexec, ?_, ?_⟩
  · rw [tally_retryAgents, hlimits, List.filter_append, List.filter_filter]
    simp [limitOf]
  · rw [tally_retryAgents, hkept, htally]

end Sys2Proof.Machine
end

section
/-! PROOF. O24, continued: resends and failed rounds (R168, R188, R191, R193). -/

-- Proofs are checked one at a time: side by side they would only wait for one another.
set_option Elab.async false

namespace Sys2Proof.Machine
open Sys2Proof

/-! ### Resends (R168, R188) -/

theorem Keeps.sendKept {s : State} (k : Kept) : Keeps s (s.sendKept k) := Keeps.agentSend _ _

/-- What a contributing agent sends to another module's tally is posted. -/
theorem posted_sendKept {s : State} (hn : Numbered s) {k : Kept} (hroute : RouteTo s k.coord) :
    ∃ f : Frame, (f.kind = 0x50 ∧ f.dstCoord = k.coord ∧ f.dstPort = 0xF1 ∧ f.party = k.party ∧ f.payload = k.payload) ∧ Posted (s.sendKept k) f :=
  ⟨_, ⟨rfl, rfl, rfl, rfl, rfl⟩, posted_away hn _ rfl hroute⟩

theorem posted_toParent {s : State} (hn : Numbered s) {c : TCtx} (hroute : RouteTo s c.parent) (kind g part : Nat) (p : List Byte) :
    ∃ f : Frame, (f.kind = kind ∧ f.dstCoord = c.parent ∧ f.dstPort = 0xF1 ∧ f.party = c.party ∧ f.payload = p) ∧
      Posted (s.toParent c kind g part p) f :=
  ⟨_, ⟨rfl, rfl, rfl, rfl, rfl⟩, posted_away hn _ rfl hroute⟩

/-- A kept contribution that a RESEND names. -/
def keptNamed (f : Frame) (k : Kept) : Bool :=
  k.party == f.party && k.id == tId f && k.slot == tSlot f && k.coord == f.srcCoord && k.round % 256 == tRound f && k.chunk == tChunk f

/-- The kept contributions that a RESEND names are noted as sent. -/
def State.keptResent (s : State) (f : Frame) : State :=
  s.modTally (fun t => { t with kept := t.kept.map (fun k => if keptNamed f k then { k with sent := true } else k) })

theorem exec_resend_kept {s : State} {f : Frame} (h6 : s.phase ≠ 6) (ht : s.trusted f = true) (hc : s.ctxOf f = none) (hport : f.srcPort = 0xF1)
    (hcontrib : s.contributes f = true) :
    exec (.resend f) s = .next ((((s.takeAgent f).tally.kept.filter (keptNamed f)).foldl State.sendKept ((s.takeAgent f).keptResent f)).retryAgents) := by
  have hcontrib' : (s.takeAgent f).contributes f = true := by rw [State.contributes, tally_takeAgent]; exact hcontrib
  show execResend f s = _
  rw [execResend, tallyServe_trusted h6 ht, (State.ctxOf_congr (tally_takeAgent s f) f).trans hc, if_neg (by simp [hport])]
  dsimp only
  rw [if_pos hcontrib']
  rfl

theorem completes_resend_kept {s : State} {f : Frame} {k : Kept} (hs : Calm s) (hroute : RouteTo s f.srcCoord) (h6 : s.phase ≠ 6)
    (ht : s.trusted f = true) (hc : s.ctxOf f = none) (hport : f.srcPort = 0xF1) (hk : k ∈ s.tally.kept) (hparty : k.party = f.party)
    (hid : k.id = tId f) (hslot : k.slot = tSlot f) (hcoord : k.coord = f.srcCoord) (hround : k.round % 256 = tRound f) (hchunk : k.chunk = tChunk f) :
    Completes (.resend f) s (fun t => { k with sent := true } ∈ t.tally.kept ∧
      Sent t (fun g => g.kind == 0x50 && g.dstCoord == f.srcCoord && g.dstPort == 0xF1 && g.party == f.party && g.payload == k.payload)) := by
  have hnamed : keptNamed f k = true := by simp [keptNamed, hparty, hid, hslot, hcoord, hround, hchunk]
  have hcontrib : s.contributes f = true := by
    rw [State.contributes, Bool.or_eq_true]
    exact .inl (List.any_eq_true.2 ⟨k, hk, by simp [hparty, hid]⟩)
  have hq : Quiet s ((s.takeAgent f).keptResent f) := (Quiet.takeAgent f).trans (Quiet.modTally _)
  have hmem : { k with sent := true } ∈ ((s.takeAgent f).keptResent f).tally.kept := by
    show _ ∈ (s.takeAgent f).tally.kept.map _
    rw [tally_takeAgent]
    exact List.mem_map.2 ⟨k, hk, if_pos hnamed⟩
  refine ⟨_, exec_resend_kept h6 ht hc hport hcontrib, ?_, ?_⟩
  · rw [tally_retryAgents]
    exact List.foldlRecOn _ _ (motive := fun x : State => _ ∈ x.tally.kept) hmem fun x hx a _ => (tally_sendKept x a).symm ▸ hx
  · have hnum := hq.keeps.numbered (Calm.numbered hs)
    have hin : k ∈ (s.takeAgent f).tally.kept.filter (keptNamed f) := List.mem_filter.2 ⟨(tally_takeAgent s f).symm ▸ hk, hnamed⟩
    obtain ⟨g, ⟨hgkind, hgcoord, hgport, hgparty, hgpayload⟩, hposted⟩ := posted_foldl (g := State.sendKept) hin hnum (fun x b _ => Keeps.sendKept b)
      fun x hr hx => posted_sendKept hx (k := k) (RouteTo.routes (hcoord.symm ▸ hroute) (hq.keeps.routes.trans hr))
    have hnumbered := (Keeps.foldl (g := State.sendKept) ((s.takeAgent f).tally.kept.filter (keptNamed f)) (fun x b _ => Keeps.sendKept b) _).numbered hnum
    exact (Carries.retryAgents.posted hnumbered g hposted).sent (by simp [hgkind, hgcoord, hgport, hgparty, hgpayload, hcoord, hparty])

theorem completes_resend_partial {s : State} {f : Frame} {c : TCtx} {k : TChunk} {x : Nat × List Byte} (hs : Calm s) (hroute : RouteTo s c.parent)
    (h6 : s.phase ≠ 6) (ht : s.trusted f = true) (hc : s.ctxOf f = some c) (hparent : c.fromParent f = true) (hk : c.chunk? (c.gOf f) = some k)
    (hstep : k.stepped = true) (hlim : k.g < c.parentLimit) (hbelow : tChunk f < c.chunks) (hx : x ∈ c.partial_ k) :
    Completes (.resend f) s (fun t => t.tally = s.tally ∧
      Sent t (fun g => g.kind == 0x50 && g.dstCoord == c.parent && g.dstPort == 0xF1 && g.party == c.party && g.payload == x.2)) := by
  have hport : f.srcPort = 0xF1 := by
    rw [TCtx.fromParent] at hparent
    simp only [Bool.and_eq_true, beq_iff_eq] at hparent
    exact hparent.2
  have hexec : exec (.resend f) s = .next (((s.takeAgent f).sendPartial c k).retryAgents) := by
    show execResend f s = _
    rw [execResend, tallyServe_trusted h6 ht, (State.ctxOf_congr (tally_takeAgent s f) f).trans hc, if_neg (by simp [hport])]
    dsimp only
    rw [if_pos hparent, hk]
    dsimp only
    rw [if_pos ⟨hstep, hlim, hbelow⟩]
  refine ⟨_, hexec, ?_, ?_⟩
  · rw [tally_retryAgents, tally_sendPartial, tally_takeAgent]
  · have hq : Quiet s (s.takeAgent f) := Quiet.takeAgent f
    have hnum := hq.keeps.numbered (Calm.numbered hs)
    rw [State.sendPartial]
    generalize c.partial_ k = parts at hx ⊢
    have hkeeps : ∀ (y : State), ∀ b ∈ parts, Keeps y (y.toParent c 0x50 k.g b.1 b.2) := fun y b _ => Keeps.toParent c 0x50 k.g b.1 b.2
    have hpost := posted_foldl (g := fun (s : State) (y : Nat × List Byte) => s.toParent c 0x50 k.g y.1 y.2) hx hnum hkeeps
      (Q := fun g => g.kind = 0x50 ∧ g.dstCoord = c.parent ∧ g.dstPort = 0xF1 ∧ g.party = c.party ∧ g.payload = x.2)
      (fun y hr hy => posted_toParent hy (RouteTo.routes hroute (hq.keeps.routes.trans hr)) 0x50 k.g x.1 x.2)
    obtain ⟨g, ⟨hgkind, hgcoord, hgport, hgparty, hgpayload⟩, hposted⟩ := hpost
    have hnumbered := (Keeps.foldl parts hkeeps (s.takeAgent f)).numbered hnum
    exact (Carries.retryAgents.posted hnumbered g hposted).sent (by simp [hgkind, hgcoord, hgport, hgparty, hgpayload])

theorem completes_resend_none {s : State} {f : Frame} (h6 : s.phase ≠ 6) (ht : s.trusted f = true) (hc : s.ctxOf f = none)
    (hcontrib : s.contributes f = false) (hport : f.srcPort = 0xF1) :
    Completes (.resend f) s (fun t => t.tally = s.tally ∧ t.reg (TL_CNT 3) = s.reg (TL_CNT 3) + 1) := by
  have ho : OffCore (TL_CNT 3) := offCore_tlCnt (by decide)
  have hcontrib' : (s.takeAgent f).contributes f = false := by rw [State.contributes, tally_takeAgent]; exact hcontrib
  have hexec : exec (.resend f) s = .next (((s.takeAgent f).count (TL_CNT 3)).retryAgents) := by
    show execResend f s = _
    rw [execResend, tallyServe_trusted h6 ht, (State.ctxOf_congr (tally_takeAgent s f) f).trans hc, if_neg (by simp [hport])]
    dsimp only
    rw [hcontrib', if_neg (by decide), State.noTally]
  refine ⟨_, hexec, ?_, ?_⟩
  · rw [tally_retryAgents]
    exact tally_takeAgent s f
  · rw [State.reg_retryAgents ho, State.reg_count_same, State.reg_takeAgent ho.1]

/-! ### A round fails (R193) -/

theorem failBad_eq_false {f : Frame} (hlen : f.payload.length = 8) (hlow : 1 ≤ byteAt f.payload 0) (hhigh : byteAt f.payload 0 ≤ 5) :
    failBad f = false := by
  simp [failBad, hlen]
  omega

theorem completes_fail_parent {s : State} {f : Frame} {c : TCtx} {x : Nat × TSlot} (hs : Calm s) (h6 : s.phase ≠ 6) (ht : s.trusted f = true)
    (hc : s.ctxOf f = some c) (hparent : c.fromParent f = true) (hgood : failBad f = false) (hround : c.round ≤ leAt f.payload 2 2)
    (hlt : leAt f.payload 2 2 < c.rounds) (hnew : leAt f.payload 2 2 ∉ c.failedRounds) (hx : x ∈ c.slotsNo) (hmodule : x.2.isModule = false)
    (hport : Reachable s x.2.port) :
    Completes (.fail f) s (fun t =>
      (∀ d ∈ t.ctxAt? c.idx, leAt f.payload 2 2 ∈ d.failedRounds ∧ ∀ k ∈ d.win, k.g / c.chunks ≠ leAt f.payload 2 2) ∧
      Sent t (fun h => h.kind == 0x56 && h.dstPort == x.2.port && h.payload == c.record (leAt f.payload 2 2) (failStatus (byteAt f.payload 0)))) := by
  have hexec : exec (.fail f) s = .next ((((s.takeAgent f).dropHold f).failRound c (leAt f.payload 2 2) (byteAt f.payload 0)
      (bitsOf (leAt f.payload 4 4) 20 0) none true).retryAgents) := by
    show execFail f s = _
    rw [execFail, tallyServe_trusted h6 ht, (State.ctxOf_congr (tally_takeAgent s f) f).trans hc]
    dsimp only
    rw [hgood, if_neg (by decide), if_pos hparent]
  have hq : Quiet s ((s.takeAgent f).dropHold f) := (Quiet.takeAgent f).trans (Quiet.modTally _)
  refine ⟨_, hexec, fun d hd => ?_, ?_⟩
  · rw [State.ctxAt?_congr (tally_retryAgents _)] at hd
    exact failRound_window hround hlt hnew _ _ _ _ hd
  · obtain ⟨g, hg, hposted⟩ := posted_failRound hround hlt hnew (byteAt f.payload 0) (bitsOf (leAt f.payload 4 4) 20 0) none true
      (hq.keeps.numbered (Calm.numbered hs)) hx hmodule (hport.routes hq.routes)
    exact hg.sent hposted

theorem completes_fail_held {s : State} {f : Frame} (h6 : s.phase ≠ 6) (ht : s.trusted f = true) (hc : s.ctxOf f = none)
    (hcontrib : s.contributes f = true) (hgood : failBad f = false) :
    Completes (.fail f) s (fun t =>
      (∀ k ∈ t.tally.kept, ¬(k.core.isSome = true ∧ k.party = f.party ∧ k.id = tId f ∧ k.coord = f.srcCoord ∧ k.round % 256 = leAt f.payload 2 2 % 256)) ∧
      ∀ k ∈ s.tally.kept, k.core = none → k ∈ t.tally.kept) := by
  have hcontrib' : (s.takeAgent f).contributes f = true := by rw [State.contributes, tally_takeAgent]; exact hcontrib
  have hexec : exec (.fail f) s = .next (((s.takeAgent f).dropHold f).retryAgents) := by
    show execFail f s = _
    rw [execFail, tallyServe_trusted h6 ht, (State.ctxOf_congr (tally_takeAgent s f) f).trans hc]
    dsimp only
    rw [hcontrib', if_neg (by decide), hgood, if_neg (by decide)]
  have hkept : ((s.takeAgent f).dropHold f).retryAgents.tally.kept = s.tally.kept.filter (fun k =>
      !(k.core.isSome && k.party == f.party && k.id == tId f && k.coord == f.srcCoord && k.round % 256 == leAt f.payload 2 2 % 256)) := by
    rw [tally_retryAgents, ← tally_takeAgent s f]
    rfl
  refine ⟨_, hexec, fun k hk => ?_, fun k hk hcore => ?_⟩
  · rw [hkept] at hk
    rintro ⟨hcore, hparty, hid, hcoord, hround⟩
    simpa [hcore, hparty, hid, hcoord, hround] using (List.mem_filter.1 hk).2
  · rw [hkept]
    exact List.mem_filter.2 ⟨hk, by simp [hcore]⟩

/-! ### A fenced port (R191) -/

/-- A chunk that a fenced port owes a contribution to fails its round. -/
theorem completes_fenceSeen_owed {s : State} {ctx : Nat} {c : TCtx} {k : TChunk} {x y : Nat × TSlot} (hs : Calm s) (hc : s.ctxAt? ctx = some c)
    (hop : c.op ≠ 10) (hwin : c.win = [k]) (hx : x ∈ c.slotsNo) (hxm : x.2.isModule = false) (hfence : s.regBit SW_FENCE x.2.port = true)
    (hexp : c.expects x.2 k.g = true) (howes : c.tookAll k x.1 x.2 = false) (hround : c.round ≤ k.g / c.chunks) (hlt : k.g / c.chunks < c.rounds)
    (hnew : k.g / c.chunks ∉ c.failedRounds) (hy : y ∈ c.slotsNo) (hym : y.2.isModule = false) (hport : Reachable s y.2.port) :
    Completes (.fenceSeen ctx) s (fun t => (∀ d ∈ t.ctxAt? ctx, k.g / c.chunks ∈ d.failedRounds ∧ k ∉ d.win) ∧
      Sent t (fun h => h.kind == 0x56 && h.dstPort == y.2.port && h.payload == c.record (k.g / c.chunks) 4)) := by
  have hidx : c.idx = ctx := State.idx_of_ctxAt? hc
  have howed : c.win.find? (fun k => c.slotsNo.any (fun x => !x.2.isModule && s.regBit SW_FENCE x.2.port && c.expects x.2 k.g &&
      !c.tookAll k x.1 x.2)) = some k := by
    rw [hwin, List.find?_singleton, if_pos (List.any_eq_true.2 ⟨x, hx, by simp [hxm, hfence, hexp, howes]⟩)]
  have hexec : exec (.fenceSeen ctx) s = .next ((s.failRound c (k.g / c.chunks) 5 (k.g % c.chunks) none false).retryAgents) := by
    show execFenceSeen ctx s = _
    rw [execFenceSeen, hc]
    dsimp only
    rw [if_neg (by simp [TCtx.dispatching, hop]), howed]
  refine ⟨_, hexec, fun d hd => ?_, ?_⟩
  · rw [State.ctxAt?_congr (tally_retryAgents _), ← hidx] at hd
    obtain ⟨hfailed, hgone⟩ := failRound_window hround hlt hnew _ _ _ _ hd
    exact ⟨hfailed, fun hk => hgone k hk rfl⟩
  · obtain ⟨g, hg, hposted⟩ := posted_failRound hround hlt hnew 5 (k.g % c.chunks) none false (Calm.numbered hs) hy hym hport
    exact hg.sent hposted

theorem completes_fenceSeen_dispatch {s : State} {ctx : Nat} {c : TCtx} {x : TSlot} (hc : s.ctxAt? ctx = some c) (hop : c.op = 10)
    (hnew : c.round ∉ c.failedRounds) (hlt : c.round < c.rounds) (hx : x ∈ c.slots) (hcontrib : x.contrib = true) (hxm : x.isModule = false)
    (hfence : s.regBit SW_FENCE x.port = true) : Completes (.fenceSeen ctx) s (fun t => ∀ d ∈ t.ctxAt? ctx, c.round ∈ d.failedRounds) := by
  have hidx : c.idx = ctx := State.idx_of_ctxAt? hc
  have hany : c.slots.any (fun t => t.contrib && !t.isModule && s.regBit SW_FENCE t.port) = true :=
    List.any_eq_true.2 ⟨x, hx, by simp [hcontrib, hxm, hfence]⟩
  have hexec : exec (.fenceSeen ctx) s = .next ((s.failRound c c.round 5 0 none false).retryAgents) := by
    show execFenceSeen ctx s = _
    rw [execFenceSeen, hc]
    dsimp only
    rw [hany, if_pos (by simp [TCtx.dispatching, hop, hnew])]
  refine ⟨_, hexec, fun d hd => ?_⟩
  rw [State.ctxAt?_congr (tally_retryAgents _), ← hidx] at hd
  exact (failRound_window le_rfl hlt hnew _ _ _ _ hd).1

end Sys2Proof.Machine
end

section
/-! PROOF. O24, continued: corruption, contributions that are late, and dispatch (R157, R191 to R193, R288). -/

-- Proofs are checked one at a time: side by side they would only wait for one another.
set_option Elab.async false

namespace Sys2Proof.Machine
open Sys2Proof

/-! ### Corruption (R157, R192) -/

/-- What the watch has been told it holds after a further message of no fatal class. -/
theorem Told.fault_minor {s t : State} {source kind address : Nat} (h : Told s t source kind address) {source' kind' : Nat}
    (hsev : t.severity source' kind' < 4) (address' : Nat) : Told s (t.fault source' kind' address') source kind address := fun hroom => by
  obtain ⟨m, hm, hword, htime⟩ := h hroom
  rw [State.fault_of_minor hsev]
  exact ⟨m, t.queue_subset_accept source' kind' _ address' hm, hword, htime⟩

theorem Told.congr_watch {s t u : State} {source kind address : Nat} (h : Told s t source kind address) (hu : u.watch = t.watch) :
    Told s u source kind address := by rwa [Told, hu]

/-- The messages of a corruption: the reduction unit's where its residue differs, and the tally store's (R157, R192). -/
def State.corruptionTold (s : State) (reason unit place : Nat) : State :=
  (if reason = 1 then (s.count (TL_CNT 9)).fault (0x061 + unit % 24) 0x07 place else s.count (TL_CNT 9)).fault 0x060 0x0C place

section
variable {s : State} {unit : Nat} (hstore : s.severity 0x060 0x0C < 4) (hunit : s.severity (0x061 + unit % 24) 0x07 < 4)

theorem severity_corrupted (s : State) {source : Nat} (h : source < 1024) (kind : Nat) : (s.count (TL_CNT 9)).severity source kind = s.severity source kind :=
  State.severity_congr (s.reg_count_other (by unfold WATCH_SEV TL_CNT; omega)) kind

theorem told_after_count {s : State} {source : Nat} (h : source < 1024) (kind place : Nat) :
    Told s ((s.count (TL_CNT 9)).fault source kind place) source kind place :=
  Told.of_fault (u := s.count (TL_CNT 9)) (within_count.same .watch (by decide)) (within_count.same .bell (by decide)) (severity_corrupted s h kind) rfl

include hstore hunit

theorem within_corruptionTold (reason place : Nat) : Within [.regs, .watch] s (s.corruptionTold reason unit place) := by
  have hcount : Within [.regs, .watch] s (s.count (TL_CNT 9)) := Within.mono (by decide) within_count
  have hstore' : (s.count (TL_CNT 9)).severity 0x060 0x0C < 4 := by rwa [severity_corrupted s (by decide)]
  have hunit' : (s.count (TL_CNT 9)).severity (0x061 + unit % 24) 0x07 < 4 := by rwa [severity_corrupted s (by omega)]
  rw [State.corruptionTold]
  split
  · exact (within_fault_minor (by rwa [State.severity_fault_minor hunit']) _).andThen (fun _ h => h)
      ((within_fault_minor hunit' _).andThen (fun _ h => h) hcount)
  · exact (within_fault_minor hstore' _).andThen (fun _ h => h) hcount

theorem cnt_corruptionTold (reason place : Nat) : (s.corruptionTold reason unit place).reg (TL_CNT 9) = s.reg (TL_CNT 9) + 1 := by
  have hlow : TL_CNT 9 < WATCH_CTRL + 8 ∨ WATCH_FIRST 16 ≤ TL_CNT 9 := by decide
  have hstore' : (s.count (TL_CNT 9)).severity 0x060 0x0C < 4 := by rwa [severity_corrupted s (by decide)]
  have hunit' : (s.count (TL_CNT 9)).severity (0x061 + unit % 24) 0x07 < 4 := by rwa [severity_corrupted s (by omega)]
  rw [State.corruptionTold]
  split
  · rw [State.reg_fault_minor (by rwa [State.severity_fault_minor hunit']) _ hlow, State.reg_fault_minor hunit' _ hlow, State.reg_count_same]
  · rw [State.reg_fault_minor hstore' _ hlow, State.reg_count_same]

theorem told_corruption_unit (place : Nat) : Told s (s.corruptionTold 1 unit place) (0x061 + unit % 24) 0x07 place := by
  have hunit' : (s.count (TL_CNT 9)).severity (0x061 + unit % 24) 0x07 < 4 := by rwa [severity_corrupted s (by omega)]
  have hstore' : (s.count (TL_CNT 9)).severity 0x060 0x0C < 4 := by rwa [severity_corrupted s (by decide)]
  rw [State.corruptionTold, if_pos rfl]
  exact (told_after_count (by omega) _ place).fault_minor (by rwa [State.severity_fault_minor hunit']) _

omit hstore hunit in
theorem told_corruption_store {reason : Nat} (h : reason ≠ 1) (place : Nat) : Told s (s.corruptionTold reason unit place) 0x060 0x0C place := by
  rw [State.corruptionTold, if_neg h]
  exact told_after_count (by decide) _ place

end

theorem completes_tallyCorruption {s : State} {ctx reason g unit : Nat} {c : TCtx} (hc : s.ctxAt? ctx = some c) (hlow : 1 ≤ reason) (hhigh : reason ≤ 3)
    (hround : c.round * c.chunks ≤ g) (hlim : g < c.limit) (hnew : g / c.chunks ∉ c.failedRounds) (hstore : s.severity 0x060 0x0C < 4)
    (hunit : s.severity (0x061 + unit % 24) 0x07 < 4) :
    Completes (.tallyCorruption ctx reason g unit) s (fun t =>
      (∀ d ∈ t.ctxAt? ctx, g / c.chunks ∈ d.failedRounds) ∧ t.reg (TL_CNT 9) = s.reg (TL_CNT 9) + 1 ∧
      (reason = 1 → Told s t (0x061 + unit % 24) 0x07 (c.id + c.party * 2 ^ 12)) ∧
      (reason ≠ 1 → Told s t 0x060 0x0C (c.id + c.party * 2 ^ 12))) := by
  have hidx : c.idx = ctx := State.idx_of_ctxAt? hc
  have htotal : g < c.rounds * c.chunks := lt_of_lt_of_le hlim (Nat.min_le_right _ _)
  have hpos : 0 < c.chunks := Nat.pos_of_ne_zero fun e => by simp [e] at htotal
  have hr : c.round ≤ g / c.chunks := (Nat.le_div_iff_mul_le hpos).2 hround
  have hlt : g / c.chunks < c.rounds := (Nat.div_lt_iff_lt_mul hpos).2 htotal
  have hwithin := within_corruptionTold hstore hunit reason (c.id + c.party * 2 ^ 12)
  have hcnt := cnt_corruptionTold hstore hunit reason (c.id + c.party * 2 ^ 12)
  have hexec : exec (.tallyCorruption ctx reason g unit) s = .next (((s.corruptionTold reason unit (c.id + c.party * 2 ^ 12)).failRound c (g / c.chunks)
      reason (g % c.chunks) none false).retryAgents) := by
    have hcond : ¬(reason < 1 ∨ 3 < reason ∨ c.failedRounds.contains (g / c.chunks) = true ∨ g < c.round * c.chunks ∨ c.limit ≤ g) := by
      simp [hnew]
      omega
    show execTallyCorruption ctx reason g s unit = _
    rw [execTallyCorruption, hc]
    dsimp only
    rw [if_neg hcond]
    have hfound : (s.corruptionTold reason unit (c.id + c.party * 2 ^ 12)).ctxAt? ctx = some c :=
      (State.ctxAt?_congr (hwithin.same .tally (by decide)) ctx).trans hc
    rw [State.corruptionTold] at hfound ⊢
    rw [hfound]
  have hwatch : ((s.corruptionTold reason unit (c.id + c.party * 2 ^ 12)).failRound c (g / c.chunks) reason (g % c.chunks) none false).retryAgents.watch =
      (s.corruptionTold reason unit (c.id + c.party * 2 ^ 12)).watch :=
    (within_retryAgents.same .watch (by decide)).trans (within_failRound.same .watch (by decide))
  refine ⟨_, hexec, fun d hd => ?_, ?_, fun h1 => ?_, fun h1 => ?_⟩
  · rw [State.ctxAt?_congr (tally_retryAgents _), ← hidx] at hd
    exact (failRound_window hr hlt hnew _ _ _ _ hd).1
  · rw [State.reg_retryAgents (offCore_tlCnt (by decide)), cnt_failRound hr hlt hnew _ _ _ _ (by decide), hcnt]
  · subst h1
    exact (told_corruption_unit hstore hunit _).congr_watch hwatch
  · exact (told_corruption_store h1 _).congr_watch hwatch

/-! ### Contributions that are late (R191) -/

/-- A frame that asks a slot to send again. -/
theorem sent_asked {s x : State} (hs : Calm s) (hx : Carries s x) (c : TCtx) (i : Nat) {y : TSlot} (hy : y.isModule = false) (hport : Reachable s y.port)
    (g : Nat) : Sent ((x.toSlot c 0x54 i y g 0 0 []).retryAgents) (fun h => h.kind == 0x54 && h.dstPort == y.port) := by
  have hnum := hx.numbered (Calm.numbered hs)
  obtain ⟨f, hf, hposted⟩ := posted_toSlot hnum c i hy (hport.routes hx.routes) g 0 0 [] (by decide : 0x54 ≠ 0x60) (by decide)
  exact hf.sent_kind (Carries.retryAgents.posted ((Keeps.toSlot _ _ _ _ _ _ _ _).numbered hnum) _ hposted)

/-- The chunk with its first RESEND to a slot noted. -/
def TChunk.asked (k : TChunk) (slot at_ : Nat) : TChunk := { k with resends := [(slot, 1, at_)] }

/-- The context with its first RESEND of a chunk to a slot noted. -/
def TCtx.asked (c : TCtx) (k : TChunk) (slot g at_ : Nat) : TCtx :=
  (c.putChunk (k.asked slot at_)).modStat (g / c.chunks) (fun x => { x with resent := x.resent + 1 })

theorem completes_contribResend {s : State} {ctx g slot : Nat} {c : TCtx} {x : TSlot} {k : TChunk} {st : Nat} (hs : Calm s) (hc : s.ctxAt? ctx = some c)
    (hop : c.op ≠ 10) (hslot : c.slot? slot = some x) (hk : c.chunk? g = some k) (hst : c.timerStart k = some st) (hnone : k.resends = [])
    (hexp : c.expects x g = true) (howes : c.tookAll k slot x = false) (hdue : st + s.usOf TL_CTRL_RESEND_WAIT ≤ s.free)
    (hmax : 0 < s.fld TL_CTRL_RESEND_MAX) (hx : x.isModule = false) (hport : Reachable s x.port) :
    Completes (.contribResendTimeout ctx g slot) s (fun t =>
      t.reg (TL_CNT 7) = s.reg (TL_CNT 7) + 1 ∧ ((t.ctxAt? ctx).bind (·.chunk? g)).map (·.resends) = some [(slot, 1, s.free)] ∧
      Sent t (fun h => h.kind == 0x54 && h.dstPort == x.port)) := by
  have hidx : c.idx = ctx := State.idx_of_ctxAt? hc
  have hg : k.g = g := TCtx.g_of_chunk? hk
  have hcond : ¬((!c.expects x g) = true ∨ c.tookAll k slot x = true ∨ s.free < st + s.usOf TL_CTRL_RESEND_WAIT) := by
    simp [hexp, howes]
    omega
  have hexec : exec (.contribResendTimeout ctx g slot) s = .next ((((s.putCtx (c.asked k slot g s.free)).count (TL_CNT 7)).toSlot (c.asked k slot g s.free)
      0x54 slot x g 0 0 []).retryAgents) := by
    show execContribResendTimeout ctx g slot s = _
    rw [execContribResendTimeout, hc]
    dsimp only
    rw [if_neg hop, hslot, hk]
    dsimp only
    rw [hst, hnone]
    exact (if_neg hcond).trans (if_neg (Nat.not_le_of_lt hmax))
  have ho : OffCore (TL_CNT 7) := offCore_tlCnt (by decide)
  have hq : Quiet s ((s.putCtx (c.asked k slot g s.free)).count (TL_CNT 7)) := (Quiet.putCtx _).trans (Quiet.count (not_routeReg_tlCnt (by decide)))
  refine ⟨_, hexec, ?_, ?_, sent_asked hs hq.carries _ _ hx hport g⟩
  · rw [State.reg_retryAgents ho, State.reg_toSlot ho, State.reg_count_same, State.reg_putCtx]
  · have hput : (s.putCtx (c.asked k slot g s.free)).ctxAt? ctx = some (c.asked k slot g s.free) :=
      hidx ▸ State.ctxAt?_putCtx (b := c) (c := c.asked k slot g s.free) (State.mem_of_ctxAt? hc) rfl
    have hfound : (c.asked k slot g s.free).chunk? g = some (k.asked slot s.free) := TCtx.chunk?_putChunk hk (k1 := k.asked slot s.free) hg
    rw [State.ctxAt?_congr (tally_retryAgents _), State.ctxAt?_congr (tally_toSlot _ _ _ _ _ _ _ _ _)]
    show (((s.putCtx (c.asked k slot g s.free)).ctxAt? ctx).bind (·.chunk? g)).map (·.resends) = _
    rw [hput, Option.bind_some, hfound]
    rfl

theorem completes_dispatchAsked {s : State} {ctx g slot last : Nat} {c : TCtx} {x : TSlot} (hs : Calm s) (hc : s.ctxAt? ctx = some c) (hop : c.op = 10)
    (hslot : c.slot? slot = some x) (hcontrib : x.contrib = true) (hnew : c.round ∉ c.failedRounds) (hheard : c.heardAt = some last)
    (hdue : last + s.usOf TL_CTRL_RESEND_WAIT ≤ s.free) (hleft : c.asks < s.fld TL_CTRL_RESEND_MAX) (hx : x.isModule = false)
    (hport : Reachable s x.port) :
    Completes (.contribResendTimeout ctx g slot) s (fun t => t.reg (TL_CNT 7) = s.reg (TL_CNT 7) + 1 ∧
      Sent t (fun h => h.kind == 0x54 && h.dstPort == x.port)) := by
  have hcond : ¬((!x.contrib) = true ∨ (!c.dispatching) = true ∨ s.free < last + s.usOf TL_CTRL_RESEND_WAIT) := by
    simp [hcontrib, TCtx.dispatching, hop, hnew]
    omega
  have hexec : exec (.contribResendTimeout ctx g slot) s = .next ((s.dispatchSilent c slot x).retryAgents) := by
    show execContribResendTimeout ctx g slot s = _
    rw [execContribResendTimeout, hc]
    dsimp only
    rw [if_pos hop, hslot]
  have ho : OffCore (TL_CNT 7) := offCore_tlCnt (by decide)
  refine ⟨_, hexec, ?_⟩
  rw [State.dispatchSilent, hheard]
  dsimp only
  rw [if_neg hcond, if_neg (by omega)]
  generalize hd : TCtx.modStat _ _ _ = d
  have hq : Quiet s ((s.putCtx d).count (TL_CNT 7)) := (Quiet.putCtx _).trans (Quiet.count (not_routeReg_tlCnt (by decide)))
  refine ⟨?_, sent_asked hs hq.carries _ _ hx hport _⟩
  rw [State.reg_retryAgents ho, State.reg_toSlot ho, State.reg_count_same, State.reg_putCtx]

end Sys2Proof.Machine
end

section
/-! PROOF. O24, concluded: dispatch, and the statement (R288). -/

-- Proofs are checked one at a time: side by side they would only wait for one another.
set_option Elab.async false

namespace Sys2Proof.Machine
open Sys2Proof

/-! ### Dispatch (R288) -/

/-- What the first frame of a member's rows, and not its last, leaves of the member's count: `n` rows came, and room was for those up to `cap`. -/
def firstRows (c : TCtx) (f : Frame) : TDest :=
  ⟨f.address / 2 ^ 12 % 4096, min (f.payload.length / 4) (c.cap - f.address / 2 ^ 24 % 2 ^ 21),
    f.payload.length / 4 - min (f.payload.length / 4) (c.cap - f.address / 2 ^ 24 % 2 ^ 21), false⟩

/-- The context with a member's first rows counted. -/
def TCtx.rowsFrom (c : TCtx) (f : Frame) (at_ : Nat) : TCtx :=
  { c with dests := c.dests.filter (fun x => x.member != f.address / 2 ^ 12 % 4096) ++ [firstRows c f], asks := 0, heardAt := some at_ }

theorem fromSlot_takeAgent (s : State) (g f : Frame) (x : TSlot) : (s.takeAgent g).fromSlot x f = s.fromSlot x f := by
  rw [State.fromSlot, (Quiet.takeAgent g).routes.coord, State.fromSlot]

/-- A member that had no rows yet is counted once. -/
theorem TCtx.dests_rowsFrom {c : TCtx} {f : Frame} (hnew : c.dests.find? (fun y => y.member == f.address / 2 ^ 12 % 4096) = none) (at_ : Nat) :
    (c.rowsFrom f at_).dests = c.dests ++ [firstRows c f] := by
  have hother : ∀ y ∈ c.dests, (y.member != f.address / 2 ^ 12 % 4096) = true := fun y hy => by
    simpa using List.find?_eq_none.1 hnew y hy
  rw [TCtx.rowsFrom, List.filter_eq_self.2 hother]

/-- The frames that carry a member's rows on change neither contexts nor counters. -/
theorem foldl_dispatchOut {s x : State} {o : Nat} (ho : OffCore o) {α : Type} {g : State → α → State} (l : List α)
    (hg : ∀ u a, ∃ c p d off last b, g u a = State.dispatchOut u c p d off last b) (hx : x.tally = s.tally ∧ x.reg o = s.reg o) :
    (l.foldl g x).tally = s.tally ∧ (l.foldl g x).reg o = s.reg o := by
  refine List.foldlRecOn l g (motive := fun u : State => u.tally = s.tally ∧ u.reg o = s.reg o) hx fun u hu a _ => ?_
  obtain ⟨c, p, d, off, last, b, h⟩ := hg u a
  rw [h]
  exact ⟨(within_agentSend.same .tally (by decide)).trans hu.1, (State.reg_agentSend ho _ _).trans hu.2⟩

theorem completes_dispatch {s : State} {f : Frame} {c : TCtx} {x : TSlot} (h6 : s.phase ≠ 6) (ht : s.trusted f = true) (hc : s.ctxOf f = some c)
    (hop : c.op = 10) (hfmt : c.inFmt = 0) (hslot : c.slots.find? (fun y => y.contrib && s.fromSlot y f) = some x)
    (hmember : f.address / 2 ^ 12 % 4096 < c.members) (htop : f.address / 2 ^ 45 = 0) (hrows : f.payload.length % 4 = 0)
    (hnew : c.dests.find? (fun y => y.member == f.address / 2 ^ 12 % 4096) = none) (hopen : (c.dests.filter (·.lastSeen)).length < c.members) :
    Completes (.dispatch f) s (fun t =>
      ((t.ctxAt? c.idx).bind (fun d => d.dests.find? (fun y => y.member == f.address / 2 ^ 12 % 4096))) = some (firstRows c f) ∧
      t.reg (TL_CNT 12) = s.reg (TL_CNT 12) + BitVec.ofNat 64 (firstRows c f).dropped) := by
  have ho : OffCore (TL_CNT 12) := offCore_tlCnt (by decide)
  have hd : bitsOf f.address 23 12 = f.address / 2 ^ 12 % 4096 := rfl
  have hoff : bitsOf f.address 44 24 = f.address / 2 ^ 24 % 2 ^ 21 := rfl
  have hlast : f.address.testBit 45 = false := by
    rw [Nat.testBit_eq_decide_div_mod_eq, htop]
    rfl
  have hflags : bitsOf f.address 49 46 = 0 := by
    have hhalf : f.address / 2 ^ 46 = f.address / 2 ^ 45 / 2 := (Nat.div_div_eq_div_mul _ _ 2).symm
    rw [bitsOf, hhalf, htop]
    rfl
  have hcond : ¬(c.op ≠ 10 ∨ c.members ≤ f.address / 2 ^ 12 % 4096 ∨ f.payload.length % 4 ≠ 0 ∨ bitsOf f.address 49 46 ≠ 0) := by
    rw [hflags]
    omega
  have hseen : ¬c.members ≤ ((c.rowsFrom f (s.takeAgent f).free).dests.filter (·.lastSeen)).length := by
    rw [TCtx.dests_rowsFrom hnew, List.filter_append]
    simpa [firstRows] using hopen
  have hexec : exec (.dispatch f) s = execDispatch f s := rfl
  have hwidth : [4, 2, 2, 1, 1, 4, 8].getD c.inFmt 1 = 4 := by rw [hfmt]; rfl
  simp only [execDispatch, tallyServe_trusted h6 ht, (State.ctxOf_congr (tally_takeAgent s f) f).trans hc, fromSlot_takeAgent, hslot, hd, hoff,
    hlast, hwidth, hnew, Option.getD_none, Nat.zero_add, Bool.false_eq_true, false_and, if_false, hcond] at hexec
  refine ⟨_, hexec.trans (congrArg (fun u : State => Host.Outcome.next u.retryAgents) (if_neg hseen)), ?_⟩
  beta_reduce
  rw [State.ctxAt?_congr (tally_retryAgents _), State.reg_retryAgents ho]
  generalize hu : List.foldl _ _ _ = u
  obtain ⟨htally, hreg⟩ : u.tally = (((s.takeAgent f).countBy (TL_CNT 12) (firstRows c f).dropped).putCtx (c.rowsFrom f (s.takeAgent f).free)).tally ∧
      u.reg (TL_CNT 12) = (((s.takeAgent f).countBy (TL_CNT 12) (firstRows c f).dropped).putCtx (c.rowsFrom f (s.takeAgent f).free)).reg (TL_CNT 12) := by
    rw [← hu]
    exact foldl_dispatchOut ho _ (fun _ _ => ⟨_, _, _, _, _, _, rfl⟩) ⟨rfl, rfl⟩
  constructor
  · rw [State.ctxAt?_congr htally]
    have hput : (((s.takeAgent f).countBy (TL_CNT 12) (firstRows c f).dropped).putCtx (c.rowsFrom f (s.takeAgent f).free)).ctxAt? c.idx =
        some (c.rowsFrom f (s.takeAgent f).free) :=
      State.ctxAt?_putCtx (b := c) (c := c.rowsFrom f (s.takeAgent f).free) ((tally_takeAgent s f).symm ▸ State.mem_of_ctxOf hc) rfl
    rw [hput, Option.bind_some, TCtx.dests_rowsFrom hnew, List.find?_append, hnew]
    simp [firstRows]
  · rw [hreg, State.reg_putCtx, State.countBy, State.reg_setReg_same, State.reg_takeAgent ho.1]

/-- Settles O24: results, acknowledgements, credit, resends, failures and dispatch complete with their effect. -/
theorem tallyCareCompletes : Obligations.TallyCareCompletes := by
  unfold Obligations.TallyCareCompletes
  refine ⟨?result, ?spoiled, ?acked, ?last, ?bad, ?timeout, ?credit, ?kept, ?resendKept, ?resendPartial, ?resendNone, ?fail, ?held, ?owed, ?dispatchFence,
    ?corruption, ?late, ?asked, ?rows⟩
  case result =>
    intro s f headerOk c k x h6 ht _ hc hparent hchunk hfail hlen hk hnew hx hreach _ hopen
    exact completes_result_taken h6 ht hc hparent hchunk hfail hlen hk hnew hx hreach hopen headerOk
  case spoiled =>
    intro s f c headerOk h6 ht _ hc
    exact completes_result_spoiled h6 ht hc headerOk
  case acked =>
    intro s f c x k r h6 ht _ hc hslot hk hr hfrom hbelow hlen hgood hother
    exact completes_ack_awaited ⟨h6, ht, hc, hslot, hk, hr, hfrom, hbelow, hlen⟩ hgood hother
  case last =>
    intro s f c x k r h6 ht _ hc hslot hk hr hfrom hbelow hlen hgood hres hall hfail hlim
    exact completes_ack_last ⟨h6, ht, hc, hslot, hk, hr, hfrom, hbelow, hlen⟩ hgood hres hall hfail hlim
  case bad =>
    intro s f c x k r b fl hs h6 ht hc hslot hk hr hfrom hbelow hlen hbad hleft hx hport hres
    exact completes_ack_bad hs ⟨h6, ht, hc, hslot, hk, hr, hfrom, hbelow, hlen⟩ hbad hleft hx hport hres
  case timeout =>
    intro s ctx g slot c x k r b fl hs hc hslot hk hr hdue hleft hx hport hres
    exact completes_resultAckTimeout hs hc hslot hk hr hdue hleft hx hport hres
  case credit =>
    intro s f c h6 ht _ hc hparent hlen hnone
    exact completes_credit_parent h6 ht hc hparent hlen hnone
  case kept =>
    intro s f h6 ht _ hc hcontrib hlen hport haway
    exact completes_credit_kept h6 ht hc hcontrib hlen hport haway
  case resendKept =>
    intro s f k hs hroute h6 ht hc hport hk hparty hid hslot hcoord hround hchunk
    exact completes_resend_kept hs hroute h6 ht hc hport hk hparty hid hslot hcoord hround hchunk
  case resendPartial =>
    intro s f c k x hs hroute h6 ht hc hparent hk hstep hlim hbelow hx
    exact completes_resend_partial hs hroute h6 ht hc hparent hk hstep hlim hbelow hx
  case resendNone =>
    intro s f h6 ht _ hc hcontrib hport
    exact completes_resend_none h6 ht hc hcontrib hport
  case fail =>
    intro s f c x hs h6 ht hc hparent hlen hlow hhigh hround hlt hnew hx hmodule hport
    exact completes_fail_parent hs h6 ht hc hparent (failBad_eq_false hlen hlow hhigh) hround hlt hnew hx hmodule hport
  case held =>
    intro s f h6 ht _ hc hcontrib hlen hlow hhigh
    exact completes_fail_held h6 ht hc hcontrib (failBad_eq_false hlen hlow hhigh)
  case owed =>
    intro s ctx c k x y hs hc hop hwin hx hxm hfence hexp howes hround hlt hnew hy hym hport
    exact completes_fenceSeen_owed hs hc hop hwin hx hxm hfence hexp howes hround hlt hnew hy hym hport
  case dispatchFence =>
    intro s ctx c x hc hop hnew hlt hx hcontrib hxm hfence
    exact completes_fenceSeen_dispatch hc hop hnew hlt hx hcontrib hxm hfence
  case corruption =>
    intro s ctx reason g unit c hc hlow hhigh hround hlim hnew hstore hunit
    exact completes_tallyCorruption hc hlow hhigh hround hlim hnew hstore hunit
  case late =>
    intro s ctx g slot c x k st hs hc hop hslot hk hst hnone hexp howes hdue hmax hx hport
    exact completes_contribResend hs hc hop hslot hk hst hnone hexp howes hdue hmax hx hport
  case asked =>
    intro s ctx g slot last c x hs hc hop hslot hcontrib hnew hheard hdue hleft hx hport
    exact completes_dispatchAsked hs hc hop hslot hcontrib hnew hheard hdue hleft hx hport
  case rows =>
    intro s f c x h6 ht _ hc hop hfmt hslot hmember htop hrows hnew hopen
    exact completes_dispatch h6 ht hc hop hfmt hslot hmember htop hrows hnew hopen

end Sys2Proof.Machine
end

section
/-! SUPPORT. What operations on rooms, charts and cards leave alone: the switch, the registers of other blocks, the lists of the room service, and
what an entry of the stay table says beside its chart and its booking (R199 to R209). -/

-- Proofs are checked one at a time: side by side they would only wait for one another.
set_option Elab.async false

namespace Sys2Proof.Machine
open Sys2Proof

/-! ### Upkeep of rooms and charts -/

/-- The registers that operations on rooms, charts and cards count in: the stays' totals, and the clusters' and the pool's counters. -/
def InnReg (o : Nat) : Prop := o = ST_STATUS ∨ o = ST_USE ∨ (0x00800000 ≤ o ∧ o < 0x00C20000)

theorem innReg_stackCnt {st i : Nat} (hst : st < 8) (hi : i < 16) : InnReg (MEM_STACK_CNT st i) := by
  unfold InnReg MEM_STACK_CNT
  omega

theorem innReg_status : InnReg ST_STATUS := .inl rfl

theorem innReg_use : InnReg ST_USE := .inr (.inl rfl)

theorem innReg_memStatus : InnReg MEM_STATUS := .inr (.inr (by decide))

theorem OffPool.of_inn {o : Nat} (h : ¬InnReg o) : OffPool o := fun _ hst =>
  ⟨fun e => h (e ▸ innReg_stackCnt hst (by decide)), fun e => h (e ▸ innReg_stackCnt hst (by decide))⟩

theorem RouteReg.not_inn {o : Nat} (h : RouteReg o) : ¬InnReg o := by
  unfold RouteReg DV_COORD at h
  unfold InnReg ST_STATUS ST_USE
  omega

/-- What an entry says beside its chart and its booking. -/
def Stay.lasting (e : Stay) : Stay := { e with root := 0, depth := 0, rooms := 0, booked := 0 }

theorem Stay.lasting_chart (e : Stay) (root depth : Nat) : ({ e with root := root, depth := depth } : Stay).lasting = e.lasting := rfl

/-- The room service beside its table, its vacancy lists and its chart nodes. -/
def StayUnit.lasting (u : StayUnit) : StayUnit := { u with table := [], vac := [], fresh := [], early := [], nodeFree := [], nodeMark := 0 }

/-- `t` is `s` after operations on rooms, charts and cards. -/
structure Upkeep (s t : State) : Prop where
  sw : t.sw = s.sw
  reg : ∀ o, ¬InnReg o → t.reg o = s.reg o
  unit : t.stays.lasting = s.stays.lasting
  stay : ∀ j, (t.stay j).lasting = (s.stay j).lasting

namespace Upkeep

variable {s t u : State}

theorem refl (s : State) : Upkeep s s := ⟨rfl, fun _ _ => rfl, rfl, fun _ => rfl⟩

theorem trans (h : Upkeep s t) (k : Upkeep t u) : Upkeep s u :=
  ⟨k.sw.trans h.sw, fun o ho => (k.reg o ho).trans (h.reg o ho), k.unit.trans h.unit, fun j => (k.stay j).trans (h.stay j)⟩

theorem quiet (h : Upkeep s t) : Quiet s t := .of_sw h.sw fun o ho => h.reg o ho.not_inn

theorem fld (h : Upkeep s t) {f : Fld} (hf : ¬InnReg f.off) : t.fld f = s.fld f := State.fld_eq_of_reg (h.reg _ hf)

theorem flag (h : Upkeep s t) {f : Fld} (hf : ¬InnReg f.off) : t.flag f = s.flag f := State.flag_eq_of_reg (h.reg _ hf)

theorem waiting (h : Upkeep s t) : t.stays.waiting = s.stays.waiting := show t.stays.lasting.waiting = _ by rw [h.unit]; rfl

theorem moves (h : Upkeep s t) : t.stays.moves = s.stays.moves := show t.stays.lasting.moves = _ by rw [h.unit]; rfl

theorem mirrors (h : Upkeep s t) : t.stays.mirrors = s.stays.mirrors := show t.stays.lasting.mirrors = _ by rw [h.unit]; rfl

theorem arriving (h : Upkeep s t) : t.stays.arriving = s.stays.arriving := show t.stays.lasting.arriving = _ by rw [h.unit]; rfl

theorem mirrorSeq (h : Upkeep s t) : t.stays.mirrorSeq = s.stays.mirrorSeq := show t.stays.lasting.mirrorSeq = _ by rw [h.unit]; rfl

theorem state (h : Upkeep s t) (j : Nat) : (t.stay j).state = (s.stay j).state := show (t.stay j).lasting.state = _ by rw [h.stay]; rfl

theorem gen (h : Upkeep s t) (j : Nat) : (t.stay j).gen = (s.stay j).gen := show (t.stay j).lasting.gen = _ by rw [h.stay]; rfl

theorem party (h : Upkeep s t) (j : Nat) : (t.stay j).party = (s.stay j).party := show (t.stay j).lasting.party = _ by rw [h.stay]; rfl

theorem tokens (h : Upkeep s t) (j : Nat) : (t.stay j).tokens = (s.stay j).tokens := show (t.stay j).lasting.tokens = _ by rw [h.stay]; rfl

theorem ownerRank (h : Upkeep s t) (j : Nat) : (t.stay j).ownerRank = (s.stay j).ownerRank := show (t.stay j).lasting.ownerRank = _ by rw [h.stay]; rfl

theorem move? (h : Upkeep s t) (i : Nat) : t.move? i = s.move? i := by rw [State.move?, h.moves, State.move?]

theorem handleOf (h : Upkeep s t) (i : Nat) : t.handleOf i = s.handleOf i := by rw [State.handleOf, h.gen, State.handleOf]

theorem foldl {α : Type} {g : State → α → State} (l : List α) (h : ∀ x, ∀ a ∈ l, Upkeep x (g x a)) (s : State) : Upkeep s (l.foldl g s) :=
  List.foldlRecOn l g (motive := fun x => Upkeep s x) (refl s) fun x hx a ha => hx.trans (h x a ha)

theorem of_stays (hsw : t.sw = s.sw) (hreg : ∀ o, ¬InnReg o → t.reg o = s.reg o) (hstays : t.stays = s.stays) : Upkeep s t :=
  ⟨hsw, hreg, by rw [hstays], fun j => by rw [State.stay, hstays, State.stay]⟩

/-- An operation within the registers and the pool, that counts only where it may. -/
theorem of_within {ps : List Part} (h : Within ps s t) (hsw : Part.sw ∉ ps) (hstays : Part.stays ∉ ps) (hreg : ∀ o, ¬InnReg o → t.reg o = s.reg o) :
    Upkeep s t := of_stays (h.same .sw hsw) hreg (h.same .stays hstays)

theorem of_snd {α : Type} {p : α × State} {a : α} (h : p = (a, t)) (k : Upkeep s p.2) : Upkeep s t := by
  subst h
  exact k

theorem of_thd {α β : Type} {p : α × β × State} {a : α} {b : β} (h : p = (a, b, t)) (k : Upkeep s p.2.2) : Upkeep s t := by
  subst h
  exact k

theorem setFld {f : Fld} (hf : InnReg f.off) (v : Nat) : Upkeep s (s.setFld f v) :=
  of_stays rfl (fun _ ho => s.reg_setFld_other _ _ fun e => ho (e ▸ hf)) rfl

theorem nodesFree (v : Nat) : Upkeep s (s.setFld ST_USE_NODES_FREE v) := setFld (f := ST_USE_NODES_FREE) innReg_use v

theorem heldRooms (v : Nat) : Upkeep s (s.setFld MEM_STATUS_HELD_ROOMS v) := setFld (f := MEM_STATUS_HELD_ROOMS) innReg_memStatus v

theorem countBy {o : Nat} (ho : InnReg o) (n : Nat) : Upkeep s (s.countBy o n) :=
  of_stays rfl (fun _ hp => s.reg_countBy_other n fun e => hp (e ▸ ho)) rfl

theorem modMem (g : MemUnit → MemUnit) : Upkeep s (s.modMem g) := of_stays rfl (fun _ _ => rfl) rfl

/-- A change of the room service that leaves its table and its lists alone. -/
theorem modStays (g : StayUnit → StayUnit) (htable : ∀ u, (g u).table = u.table) (hunit : ∀ u, (g u).lasting = u.lasting) : Upkeep s (s.modStays g) :=
  ⟨rfl, fun _ _ => rfl, hunit _, fun j => by rw [s.stay_modStays g htable]⟩

/-- An entry is put back, its chart and its booking changed. -/
theorem setStay (i : Nat) {e : Stay} (h : e.lasting = (s.stay i).lasting) : Upkeep s (s.setStay i e) := by
  refine ⟨rfl, fun o ho => s.reg_setStay i e ⟨fun e => ho (.inl e), fun e => ho (.inr (.inl e))⟩, by rw [State.stays_setStay]; rfl, fun j => ?_⟩
  by_cases hj : j = i
  · rw [hj, State.stay_setStay_same, h]
  · rw [State.stay_setStay_other _ _ hj]

theorem modStay (i : Nat) {g : Stay → Stay} (h : ∀ e, (g e).lasting = e.lasting) : Upkeep s (s.modStay i g) := setStay i (h _)

/-! ### The pool -/

theorem poolRead (a n : Nat) : Upkeep s (s.poolRead a n).2 :=
  of_within within_poolRead (by decide) (by decide) fun _ ho => State.reg_poolRead (.of_inn ho) a n

theorem poolWrite (a : Nat) (bs : List Byte) : Upkeep s (s.poolWrite a bs) :=
  of_within within_poolWrite (by decide) (by decide) fun _ ho => State.reg_poolWrite (.of_inn ho) a bs

theorem porterRead (a n : Nat) : Upkeep s (s.porterRead a n).2 :=
  (countBy (innReg_stackCnt (Nat.mod_lt _ (by decide)) (by decide)) _).trans (poolRead a n)

theorem porterWrite (a : Nat) (bs : List Byte) : Upkeep s (s.porterWrite a bs) :=
  (countBy (innReg_stackCnt (Nat.mod_lt _ (by decide)) (by decide)) _).trans (poolWrite a bs)

theorem readLedgers (rs : List Nat) : Upkeep s (s.readLedgers rs) := foldl _ (fun _ _ _ => porterRead _ _) s

theorem readLedger (r : Nat) : Upkeep s (s.readLedger r).2 := porterRead _ _

theorem setLedger (r refs : Nat) (poison : Bool) : Upkeep s (s.setLedger r refs poison) := (porterRead _ _).trans (porterWrite _ _)

theorem addRef (r : Nat) : Upkeep s (s.addRef r) := setLedger _ _ _

theorem readCard (i : Nat) : Upkeep s (s.readCard i).2 := porterRead _ _

theorem freeRoomsBy (d : Int) : Upkeep s (s.freeRoomsBy d) := by
  rw [State.freeRoomsBy]
  split
  · exact setFld (f := ST_STATUS_FREE_ROOMS) innReg_status _
  · exact refl s

/-- A room heads its stack's vacancy list. -/
theorem listed (r : Nat) : Upkeep s (s.modStays (fun u => { u with vac := modifyAt (fun _ => r) (roomStack r) u.vac })) :=
  modStays _ (fun _ => rfl) fun _ => rfl

theorem vacate (r : Nat) : Upkeep s (s.vacate r) := by
  rw [State.vacate]
  split_ifs
  · exact heldRooms _
  · exact refl s
  · rw [State.pushVacant]
    exact ((poolWrite _ _).trans (listed r)).trans (freeRoomsBy 1)

theorem dropRef (r : Nat) : Upkeep s (s.dropRef r) := by
  rw [State.dropRef]
  dsimp only
  split_ifs
  · exact refl s
  · exact (setLedger _ _ _).trans (vacate r)
  · exact setLedger _ _ _

theorem poisonRoom (r : Nat) : Upkeep s (s.poisonRoom r) := by
  rw [State.poisonRoom]
  dsimp only
  split_ifs
  · exact porterRead _ _
  · exact refl s
  · exact (setLedger _ _ _).trans (heldRooms _)
  · exact ((setLedger _ _ _).trans (heldRooms _)).trans (freeRoomsBy _)
  · exact setLedger _ _ _

theorem zeroRoom (r : Nat) : Upkeep s (s.zeroRoom r) := by
  rw [State.zeroRoom]
  split
  · exact refl s
  · exact modMem _

theorem flushEntry (e : MergeEntry) : Upkeep s (s.flushEntry e) :=
  of_within within_flushEntry (by decide) (by decide) fun _ ho => State.reg_flushEntry (.of_inn ho) e

theorem touchPair (p : Nat) : Upkeep s (s.touchPair p) :=
  of_within within_touchPair (by decide) (by decide) fun _ ho => State.reg_touchPair (.of_inn ho) p

theorem copyRoom (src dst : Nat) : Upkeep s (s.copyRoom src dst) := by
  have hsettle : ∀ x : State, Upkeep x (x.settleRoom src) := fun x => foldl _ (fun _ _ _ => flushEntry _) x
  have h1 : Upkeep s (((s.transferred (roomStack src)).transferred (roomStack dst)).settleRoom src) :=
    ((modMem _).trans (modMem _)).trans (hsettle _)
  rw [State.copyRoom]
  generalize ((s.transferred (roomStack src)).transferred (roomStack dst)).settleRoom src = x at h1 ⊢
  have hst : roomStack src < 8 := Nat.mod_lt _ (by decide)
  have h2 := (h1.trans (countBy (innReg_stackCnt hst (by decide : 8 < 16)) (x.roomPoison src).length)).trans (zeroRoom dst)
  generalize (x.countBy (MEM_STACK_CNT (roomStack src) 8) (x.roomPoison src).length).zeroRoom dst = y at h2 ⊢
  have h3 : ∀ z : State, Upkeep s z → Upkeep s (if (x.roomPoison src).isEmpty || z.stackLost (roomStack src) then z else z.poisonRoom src) := by
    intro z hz
    split
    · exact hz
    · exact hz.trans (poisonRoom _)
  apply h3
  split
  · exact h2
  · exact h2.trans (modMem _)

theorem writePiece (a : Nat) (data : List Byte) (bad : List Nat) : Upkeep s (s.writePiece a data bad) :=
  (poolWrite a data).trans (foldl _ (fun _ _ _ => modMem _) _)

/-! ### Charts read -/

theorem nodeEntry (node i : Nat) : Upkeep s (s.nodeEntry node i).2 := by
  rw [State.nodeEntry_eq]
  exact porterRead _ _

theorem chartWalk (k node page : Nat) : Upkeep s (State.chartWalk k s node page).2 := by
  induction k generalizing s node with
  | zero => exact refl s
  | succ k ih =>
    rw [State.chartWalk]
    split
    next heq => exact of_snd heq (nodeEntry _ _)
    next heq =>
      split
      · exact of_snd heq (nodeEntry _ _)
      · exact (of_snd heq (nodeEntry _ _)).trans (ih _)

theorem pageRoom (i page : Nat) : Upkeep s (s.pageRoom i page).2 := by
  rw [State.pageRoom]
  split
  · exact refl s
  · exact chartWalk _ _ _

theorem sectorEntry (seen : List Nat) (node i : Nat) : Upkeep s (s.sectorEntry seen node i).2.2 := by
  rw [State.sectorEntry]
  split
  · exact refl s
  · split
    all_goals
      next heq => exact of_snd heq (porterRead _ _)

theorem chartRead (k : Nat) (seen : List Nat) (node page : Nat) : Upkeep s (State.chartRead k s seen node page).2.2 := by
  induction k generalizing s seen node with
  | zero => exact refl s
  | succ k ih =>
    rw [State.chartRead]
    split
    next heq => exact of_thd heq (sectorEntry _ _ _)
    next heq =>
      split
      · exact of_thd heq (sectorEntry _ _ _)
      · exact (of_thd heq (sectorEntry _ _ _)).trans (ih _ _)

theorem roomsFrom (ps seen : List Nat) (i : Nat) : Upkeep s (State.roomsFrom ps s seen i).2 := by
  induction ps generalizing s seen with
  | nil => exact refl s
  | cons p ps ih =>
    have hread : Upkeep s (if (s.stay i).root = 0 ∨ 64 ^ ((s.stay i).depth + 1) ≤ p then (some 0, seen, s)
        else State.chartRead ((s.stay i).depth + 1) s seen (s.stay i).root p).2.2 := by
      split
      · exact refl s
      · exact chartRead _ _ _ _
    rw [State.roomsFrom]
    split
    next heq => exact of_thd heq hread
    next heq =>
      have h1 := of_thd heq hread
      split
      all_goals
        next hrest => exact h1.trans (of_snd hrest (ih _))

theorem roomsOf (ps : List Nat) (i : Nat) : Upkeep s (State.roomsOf ps s i).2 := roomsFrom _ _ _

theorem nodeEntries (node : Nat) : Upkeep s (s.nodeEntries node).2.2 := by
  rw [State.nodeEntries]
  refine List.foldlRecOn (List.range 4) _ (motive := fun x : List Nat × Bool × State => Upkeep s x.2.2) (refl s) fun x hx q _ => ?_
  split
  all_goals
    next heq => exact hx.trans (of_snd heq (porterRead _ _))

theorem chartNodes (k node : Nat) : Upkeep s (State.chartNodes k s node).2 := by
  induction k generalizing s node with
  | zero => exact refl s
  | succ k ih =>
    rw [State.chartNodes]
    dsimp only
    split
    · exact nodeEntries _
    · exact List.foldlRecOn _ _ (motive := fun x : ChartFound × State => Upkeep s x.2) (nodeEntries _) fun x hx c _ => hx.trans (ih _)

theorem readChart (i : Nat) : Upkeep s (s.readChart i).2 := by
  rw [State.readChart]
  split
  · exact refl s
  · exact chartNodes _ _

/-! ### Charts changed -/

/-- Nodes join the free ones. -/
theorem nodesFreed (nodes : List Nat) : Upkeep s (s.modStays (fun u => { u with nodeFree := nodes ++ u.nodeFree })) :=
  modStays _ (fun _ => rfl) fun _ => rfl

/-- The entry of a chart that is gone. -/
theorem chartGone (i : Nat) : Upkeep s (s.modStay i (fun e => { e with root := 0, depth := 0, rooms := 0 })) := modStay i fun _ => rfl

theorem freeChart (i : Nat) (f : ChartFound) : Upkeep s (s.freeChart i f) := by
  rw [State.freeChart]
  exact (((foldl f.rooms (fun x r _ => dropRef (s := x) r) s).trans (nodesFreed f.nodes)).trans (nodesFree _)).trans (chartGone i)

theorem dropChart (i : Nat) : Upkeep s (s.dropChart i).2 := (readChart i).trans (freeChart i _)

theorem closeChart (i : Nat) : Upkeep s (s.closeChart i).2 := by
  rw [State.closeChart]
  dsimp only
  split
  · exact (readChart i).trans (freeChart i _)
  · exact readChart i

theorem takeNode {n : Nat} (h : s.takeNode = some (n, t)) : Upkeep s t := by
  rw [State.takeNode] at h
  split at h
  · cases h
    refine .trans ?_ (nodesFree _)
    refine .trans ?_ (porterWrite _ _)
    exact modStays _ (fun _ => rfl) fun _ => rfl
  · split at h
    · cases h
      refine .trans ?_ (nodesFree _)
      exact modStays _ (fun _ => rfl) fun _ => rfl
    · cases h

theorem chartPut {k node page room : Nat} {b : Bool} (h : State.chartPut k s node page room = some (b, t)) : Upkeep s t := by
  induction k generalizing s node with
  | zero => simp [State.chartPut] at h
  | succ k ih =>
    rw [State.chartPut] at h
    split at h
    next => cases h
    next heq =>
      have h1 := of_snd heq (nodeEntry _ _)
      split at h
      · cases h
        exact h1.trans (porterWrite _ _)
      · split at h
        · split at h
          next => cases h
          next hn => exact ((h1.trans (takeNode hn)).trans (porterWrite _ _)).trans (ih h)
        · exact h1.trans (ih h)

theorem growChart {n i page : Nat} (h : State.growChart n s i page = some t) : Upkeep s t := by
  induction n generalizing s with
  | zero => exact Option.some.inj h ▸ refl s
  | succ n ih =>
    rw [State.growChart] at h
    split at h
    · exact Option.some.inj h ▸ refl s
    · split at h
      · exact (setStay i ((s.stay i).lasting_chart (s.stay i).root ((s.stay i).depth + 1))).trans (ih h)
      · split at h
        next => cases h
        next r s1 hn =>
          have h1 := (takeNode hn).trans (porterWrite (r * 256) (natLE 4 (s.stay i).root))
          exact (h1.trans (setStay i (((s.stay i).lasting_chart r _).trans (h1.stay i).symm))).trans (ih h)

theorem roomMore (i : Nat) : Upkeep s (s.modStay i (fun e => { e with rooms := e.rooms + 1 })) := modStay i fun _ => rfl

theorem roomLess (i : Nat) : Upkeep s (s.modStay i (fun e => { e with rooms := e.rooms - 1 })) := modStay i fun _ => rfl

/-- A chart gets its root. -/
theorem rooted {i r : Nat} (h : s.takeNode = some (r, t)) : Upkeep s (t.setStay i { s.stay i with root := r }) :=
  (takeNode h).trans (setStay i (((s.stay i).lasting_chart r (s.stay i).depth).trans ((takeNode h).stay i).symm))

theorem setPage {i page room : Nat} (h : s.setPage i page room = some t) : Upkeep s t := by
  rw [State.setPage] at h
  split at h
  next => cases h
  next s1 hg =>
    have h1 := growChart hg
    dsimp only at h
    split at h
    next => cases h
    next s2 h2 =>
      have h12 : Upkeep s s2 := by
        split at h2
        · cases h2
          exact h1
        · split at h2
          next => cases h2
          next hn => exact Option.some.inj h2 ▸ h1.trans (rooted hn)
      split at h
      next => cases h
      next s3 hp =>
        have h3 := h12.trans (chartPut hp)
        rw [← Option.some.inj h]
        split
        · exact h3.trans (roomMore i)
        · exact h3

theorem dropPage (i page : Nat) : Upkeep s (s.dropPage i page) := by
  rw [State.dropPage]
  split
  next heq =>
    have h1 := of_snd heq (pageRoom _ _)
    split
    · exact h1
    · split
      next => exact h1
      next hp => exact ((h1.trans (chartPut hp)).trans (roomLess i)).trans (dropRef _)
  next heq => exact of_snd heq (pageRoom _ _)

end Upkeep

end Sys2Proof.Machine
end

section
/-! SUPPORT. What the innkeeper's requests have in common: its answers are posted, whatever it sends afterwards; the pieces of a page are posted; and
the moves of stays as they are put back (R199, R212, R226). -/

-- Proofs are checked one at a time: side by side they would only wait for one another.
set_option Elab.async false

namespace Sys2Proof.Machine
open Sys2Proof

/-! ### The room service beside what is sent -/

theorem stays_agentSend (s : State) (a : Nat) (f : Frame) : (s.agentSend a f).stays = s.stays := within_agentSend.same .stays (by decide)

theorem stays_retryAgents (s : State) : s.retryAgents.stays = s.stays := within_retryAgents.same .stays (by decide)

theorem stays_answer (s : State) (a : Asker) (kind : Nat) (d : List Byte) : (s.answer a kind d).stays = s.stays := within_answer.same .stays (by decide)

theorem stays_refuse (s : State) (a : Asker) (kind status : Nat) : (s.refuse a kind status).stays = s.stays := within_refuse.same .stays (by decide)

theorem stays_toInn (s : State) (c kind party rank addr tag : Nat) (p : List Byte) : (s.toInn c kind party rank addr tag p).stays = s.stays :=
  stays_agentSend s 0 _

theorem State.stay_congr {s t : State} (h : t.stays = s.stays) (i : Nat) : t.stay i = s.stay i := by rw [State.stay, h, State.stay]

theorem State.move?_congr {s t : State} (h : t.stays.moves = s.stays.moves) (i : Nat) : t.move? i = s.move? i := by rw [State.move?, h, State.move?]

theorem State.handleOf_congr {s t : State} {i : Nat} (h : (t.stay i).gen = (s.stay i).gen) : t.handleOf i = s.handleOf i := by
  rw [State.handleOf, h, State.handleOf]

theorem State.stay_retryAgents (s : State) (i : Nat) : s.retryAgents.stay i = s.stay i := State.stay_congr (stays_retryAgents s) i

theorem State.stay_answer (s : State) (a : Asker) (kind : Nat) (d : List Byte) (i : Nat) : (s.answer a kind d).stay i = s.stay i :=
  State.stay_congr (stays_answer s a kind d) i

theorem State.stay_refuse (s : State) (a : Asker) (kind status i : Nat) : (s.refuse a kind status).stay i = s.stay i :=
  State.stay_congr (stays_refuse s a kind status) i

theorem State.stay_toInn (s : State) (c kind party rank addr tag : Nat) (p : List Byte) (i : Nat) :
    (s.toInn c kind party rank addr tag p).stay i = s.stay i := State.stay_congr (stays_toInn s c kind party rank addr tag p) i

/-- The stays' counters lie beside the switch, the choice window, the pool's counters and the stays' totals. -/
theorem offCore_stCnt {n : Nat} (h : n < 32) : OffCore (ST_CNT n) := offCore_between (by unfold ST_CNT; omega) (by unfold ST_CNT BT_CHOICE; omega)

theorem not_innReg_stCnt {n : Nat} (h : n < 32) : ¬InnReg (ST_CNT n) := by
  unfold InnReg ST_CNT ST_STATUS ST_USE
  omega

theorem not_innReg_low {o : Nat} (h : o < 0x00600000) : ¬InnReg o := by
  unfold InnReg ST_STATUS ST_USE
  omega

theorem not_routeReg_stCnt {n : Nat} (h : n < 32) : ¬RouteReg (ST_CNT n) := by
  unfold RouteReg ST_CNT DV_COORD
  omega

theorem not_routeReg_refused (n : Nat) (h : n < 256) : ¬RouteReg (ST_REFUSED n) := by
  unfold RouteReg ST_REFUSED DV_COORD
  omega

theorem Quiet.stCnt {s : State} {n : Nat} (h : n < 32) : Quiet s (s.count (ST_CNT n)) := .count (not_routeReg_stCnt h)

theorem Quiet.setStay {s : State} (i : Nat) (e : Stay) : Quiet s (s.setStay i e) :=
  .of_sw rfl fun _ ho => s.reg_setStay i e ⟨fun h => ho.not_inn (h ▸ innReg_status), fun h => ho.not_inn (h ▸ innReg_use)⟩

theorem Quiet.modStay {s : State} (i : Nat) (g : Stay → Stay) : Quiet s (s.modStay i g) := .setStay i _

theorem Quiet.freeEntry {s : State} (i : Nat) : Quiet s (s.freeEntry i) := .setStay i _

theorem Quiet.setMove {s : State} (i : Nat) (m : Option Move) : Quiet s (s.setMove i m) := .modStays _

/-! ### Moves put back -/

theorem State.stay_setMove (s : State) (i : Nat) (m : Option Move) (j : Nat) : (s.setMove i m).stay j = s.stay j := s.stay_modStays _ (fun _ => rfl) j

theorem State.waiting_setMove (s : State) (i : Nat) (m : Option Move) : (s.setMove i m).stays.waiting = s.stays.waiting := rfl

theorem State.move?_setMove_none (s : State) (i : Nat) : (s.setMove i none).move? i = none := by
  rw [State.move?, List.find?_eq_none]
  intro m hm
  have h := (List.mem_filter.1 hm).2
  simpa using h

/-- A move put back in the place of one is the one found there. -/
theorem State.move?_setMove_some {s : State} {m n : Move} (hm : m ∈ s.stays.moves) (hn : n.index = m.index) :
    (s.setMove m.index (some n)).move? m.index = some n := by
  have hfind : ∀ l : List Move, m ∈ l → (l.map (fun x => if x.index = m.index then n else x)).find? (fun x => x.index == m.index) = some n := by
    intro l
    induction l with
    | nil => intro h; cases h
    | cons x l ih =>
      intro h
      rw [List.map_cons]
      by_cases hx : x.index = m.index
      · rw [if_pos hx, List.find?_cons_of_pos (by simp [hn])]
      · rw [if_neg hx, List.find?_cons_of_neg (by simpa using hx)]
        obtain rfl | h := List.mem_cons.1 h
        · exact absurd rfl hx
        · exact ih h
  exact hfind _ hm

/-! ### What opens the room service -/

theorem State.closedTo_takeAgent (s : State) (f : Frame) (k : Nat) : (s.takeAgent f).closedTo k = s.closedTo k := by
  have hphase : (s.takeAgent f).phase = s.phase := State.fld_eq_of_reg (f := DV_STATE_PHASE) (State.reg_takeAgent (by decide) f)
  rw [State.closedTo, State.halted, hphase, flag_takeAgent s f (by decide), stackLost_takeAgent, State.closedTo, State.halted]

theorem State.closedTo_none {s : State} (hrun : s.halted = false) (hopen : s.flag ST_CTRL_ENABLE = true) (hup : s.stackLost 0 = false) (k : Nat) :
    s.closedTo k = none := by
  rw [State.closedTo, hopen, hrun, hup]
  simp

section
variable {s : State} {f : Frame} (h : InnPeer s f)
include h

theorem InnPeer.opened (k : Nat) : (s.takeAgent f).closedTo k = none := by
  obtain ⟨-, -, -, -, hrun, hopen, hup, -⟩ := h
  rw [State.closedTo_takeAgent, State.closedTo_none hrun hopen hup]

theorem InnPeer.serve (act : State → State) : s.innServe f act = .next (act (s.takeAgent f)).retryAgents := by
  obtain ⟨-, -, htrust, hphase, -⟩ := h
  exact innServe_trusted hphase htrust act

theorem InnPeer.sound : Sound s := .of_nil h.2.2.2.2.2.2.2

end

/-! ### Answers -/

/-- An answer to the frame finds its way: its sender is an endpoint of this module that is reached, or a module on one axis. -/
def Reaches (s : State) (f : Frame) : Prop := Local s f ∨ RouteTo s f.srcCoord

theorem Answerable.reaches {s : State} {f : Frame} (h : Answerable s f) : Reaches s f := by
  obtain ⟨hcoord, hlt, hkind, hup, hfence, -⟩ := h
  exact .inl ⟨hcoord, hlt, hkind, hup, hfence⟩

theorem InnPeer.reaches {s : State} {f : Frame} (h : InnPeer s f) : Reaches s f := .inr h.2.1

theorem Keeps.answer {s : State} (a : Asker) (kind : Nat) (d : List Byte) : Keeps s (s.answer a kind d) := by
  cases a with
  | nobody => exact Keeps.refl s
  | request f => exact Keeps.agentSend 0 _
  | bound party rank base => exact Keeps.agentSend 0 _

theorem Keeps.refuse {s : State} (a : Asker) (kind : Nat) {status : Nat} (h : status ≤ 256) : Keeps s (s.refuse a kind status) := by
  rw [State.refuse]
  split
  · exact Keeps.answer _ _ _
  · exact (Quiet.count (not_routeReg_refused _ (by omega))).keeps.trans (Keeps.answer _ _ _)

theorem Keeps.toInn {s : State} (c kind party rank addr tag : Nat) (p : List Byte) : Keeps s (s.toInn c kind party rank addr tag p) := Keeps.agentSend 0 _

/-- An answer is posted, and stands or waits however the state goes on. -/
theorem replied_after {s x y : State} (hc : Calm s) {f : Frame} (hf : Reaches s f) (hx : Carries s x) (kind : Nat) (d : List Byte)
    (hy : Carries (x.answer (.request f) kind d) y) (h60 : kind ≠ 0x60 := by decide) (h72 : kind ≠ 0x72 := by decide) :
    Replied y.retryAgents f kind (padTo 32 d) := by
  have hnum := hx.numbered (Calm.numbered hc)
  have hposted : Posted (x.agentSend 0 (replyTo f kind (padTo 32 d))) (x.asSent 0 (replyTo f kind (padTo 32 d))) := by
    obtain hlocal | hroute := hf
    · have hlocal := hlocal.routes hx.routes
      exact posted_reply hnum 0 hlocal.here hlocal.port h60 h72
    · exact posted_away hnum 0 (f := replyTo f kind (padTo 32 d)) rfl (RouteTo.routes hroute hx.routes)
  have hnum1 := (Keeps.agentSend 0 (replyTo f kind (padTo 32 d))).numbered hnum
  exact (Carries.retryAgents.posted (hy.numbered hnum1) _ (hy.posted hnum1 _ hposted)).sent (by simp [State.asSent, replyTo])

/-- A refusal is posted (R212). -/
theorem refused_after {s x y : State} (hc : Calm s) {f : Frame} (hf : Reaches s f) (hx : Carries s x) {kind status : Nat} (hkind : kind ≠ 0x30)
    (hstatus : status ≤ 256) (hy : Carries (x.refuse (.request f) kind status) y) :
    Replied y.retryAgents f 0x2F (padTo 32 [BitVec.ofNat 8 status, BitVec.ofNat 8 kind]) := by
  rw [State.refuse, if_neg hkind] at hy
  exact replied_after hc hf (hx.trans (Quiet.count (not_routeReg_refused _ (by omega))).carries) 0x2F _ hy

/-! ### Pages sent -/

theorem Upkeep.readPiece {s : State} (a : Nat) : Upkeep s (s.readPiece a).2.2 := Upkeep.foldl _ (fun _ _ _ => Upkeep.touchPair _) s

theorem Upkeep.pieceOf {s : State} (room : Option Nat) (k : Nat) : Upkeep s (s.pieceOf room k).2.2 := by
  unfold State.pieceOf
  split
  · exact Upkeep.refl s
  · exact Upkeep.refl s
  · dsimp only
    split
    · exact Upkeep.readPiece _
    · exact (Upkeep.readPiece _).trans (Upkeep.poisonRoom _)

theorem ReadsAs.agentSend {s t : State} (h : ReadsAs s t) (a : Nat) (f : Frame) : ReadsAs s (t.agentSend a f) :=
  h.trans (.of_mem h.pool.sound (mem_agentSend t a f) (State.reg_agentSend (offCore_between (by decide) (by decide)) a f) (stays_agentSend t a f))

/-- A piece of a page as a LODGE frame. -/
def pieceFrame (c far page tag party k : Nat) (b : List Byte) (bad : List Nat) : Frame :=
  { blankFrame with kind := 0x34, vc := 0, destKind := 3, party := party, dstCoord := c, dstPort := 0xF0,
                    address := far + page * 2 ^ 18 + k * 2 ^ 42, tag := tag, payload := b, poison := bad }

theorem State.sendPage_eq (s : State) (c far page : Nat) (room : Option Nat) (tag party : Nat) :
    s.sendPage c far page room tag party = (List.range 16).foldl (fun (x : State) k => (x.pieceOf room k).2.2.agentSend 0
      (pieceFrame c far page tag party k (x.pieceOf room k).1 (x.pieceOf room k).2.1)) s := rfl

theorem Keeps.sendPiece {s : State} (c far page : Nat) (room : Option Nat) (tag party k : Nat) : Keeps s ((s.pieceOf room k).2.2.agentSend 0
    (pieceFrame c far page tag party k (s.pieceOf room k).1 (s.pieceOf room k).2.1)) :=
  (Upkeep.pieceOf room k).quiet.keeps.trans (Keeps.agentSend 0 _)

theorem Keeps.sendPage {s : State} (c far page : Nat) (room : Option Nat) (tag party : Nat) : Keeps s (s.sendPage c far page room tag party) := by
  rw [State.sendPage_eq]
  exact Keeps.foldl _ (fun _ k _ => Keeps.sendPiece c far page room tag party k) s

theorem stays_sendPage (s : State) (c far page : Nat) (room : Option Nat) (tag party : Nat) : (s.sendPage c far page room tag party).stays = s.stays :=
  within_sendPage.same .stays (by decide)

/-- The pieces of a page that reads the same throughout are posted. -/
theorem posted_page {s : State} (hn : Numbered s) (hs : Sound s) {c : Nat} (hroute : RouteTo s c) (far page : Nat) {room : Option Nat} (tag party : Nat)
    {bytes : Nat → List Byte} (hread : ∀ x k, k < 16 → ReadsAs s x → (x.pieceOf room k).1 = bytes k ∧ ReadsAs x (x.pieceOf room k).2.2) :
    ∀ k < 16, ∃ g : Frame, (g.kind = 0x34 ∧ g.dstCoord = c ∧ g.dstPort = 0xF0 ∧ g.address = far + page * 2 ^ 18 + k * 2 ^ 42 ∧ g.payload = bytes k) ∧
      Posted (s.sendPage c far page room tag party) g := by
  intro k hk
  obtain ⟨as, bs, hsplit⟩ := List.append_of_mem (List.mem_range.2 hk)
  have hlt : ∀ j ∈ as, j < 16 := fun j hj => List.mem_range.1 (hsplit ▸ List.mem_append_left _ hj)
  rw [State.sendPage_eq, hsplit, List.foldl_append, List.foldl_cons]
  have hpre := List.foldlRecOn as (fun (x : State) k => (x.pieceOf room k).2.2.agentSend 0
    (pieceFrame c far page tag party k (x.pieceOf room k).1 (x.pieceOf room k).2.1)) (motive := fun x : State => Keeps s x ∧ ReadsAs s x)
    ⟨Keeps.refl s, .refl hs⟩ fun x hx j hj => ⟨hx.1.trans (Keeps.sendPiece c far page room tag party j),
      (hx.2.trans (hread x j (hlt j hj) hx.2).2).agentSend 0 _⟩
  generalize as.foldl (fun (x : State) k => (x.pieceOf room k).2.2.agentSend 0
    (pieceFrame c far page tag party k (x.pieceOf room k).1 (x.pieceOf room k).2.1)) s = x at hpre ⊢
  obtain ⟨hkeep, hreads⟩ := hpre
  have hpiece := (Upkeep.pieceOf (s := x) room k).quiet.keeps
  have hposted := posted_away (hpiece.numbered (hkeep.numbered hn)) 0
    (f := pieceFrame c far page tag party k (x.pieceOf room k).1 (x.pieceOf room k).2.1) rfl
    (RouteTo.routes hroute (hkeep.trans hpiece).routes)
  refine ⟨_, ?_, (Keeps.foldl bs (fun x j _ => Keeps.sendPiece c far page room tag party j) _).posted hposted⟩
  rw [(hread x k hk hreads).1]
  exact ⟨rfl, rfl, rfl, rfl, rfl⟩

/-- The page stands in the switch or waits, after the waiting frames are tried again. -/
theorem pageSent_of_posted {t u : State} (hn : Numbered t) (hu : Carries t u) {c far page : Nat} {bytes : Nat → List Byte}
    (h : ∀ k < 16, ∃ g : Frame, (g.kind = 0x34 ∧ g.dstCoord = c ∧ g.dstPort = 0xF0 ∧ g.address = far + page * 2 ^ 18 + k * 2 ^ 42 ∧ g.payload = bytes k) ∧
      Posted t g) : PageSent u c far page bytes := by
  intro k hk
  obtain ⟨g, ⟨hkind, hdst, hport, haddr, hbytes⟩, hposted⟩ := h k hk
  exact (hu.posted hn g hposted).sent (by simp [hkind, hdst, hport, haddr, hbytes])

/-- A page without a room is sent as zeros. -/
theorem piece_absent (s x : State) (k : Nat) (_ : k < 16) (h : ReadsAs s x) : (x.pieceOf (some 0) k).1 = zeroBytes 4096 ∧
    ReadsAs x (x.pieceOf (some 0) k).2.2 := ⟨rfl, .refl h.pool.sound⟩

end Sys2Proof.Machine
end

section
/-! PROOF. O29, recalls as the module that holds the stay meets them: a guest returned or given up, and one page of it asked for (R227, R233). -/

-- Proofs are checked one at a time: side by side they would only wait for one another.
set_option Elab.async false

namespace Sys2Proof.Machine
open Sys2Proof

/-! ### Cards and charts as a peer's frame finds them -/

theorem pairStack_cardAt {i : Nat} (h : i < 2 ^ 18) : pairStack (cardAt i / 64) = 0 := by
  unfold pairStack cardAt
  omega

/-- A card that can be read is read whatever reads the pool has seen. -/
theorem ReadsAs.readCard {s t : State} (h : ReadsAs s t) {i : Nat} (hup : s.stackLost (pairStack (cardAt i / 64)) = false)
    (hclean : s.poisoned (cardAt i / 64) = false) : t.readCard i = (some (s.card i), (t.readCard i).2) ∧ ReadsAs s (t.readCard i).2 := by
  refine ⟨Prod.ext ?_ rfl, (reads_readCard i).after h⟩
  rw [(reads_readCard i).answer h]
  exact readCard_good h.sound ⟨hup, hclean⟩

theorem InnPeer.up {s : State} {f : Frame} (h : InnPeer s f) {i : Nat} (hi : i < 2 ^ 18) : s.stackLost (pairStack (cardAt i / 64)) = false := by
  obtain ⟨-, -, -, -, -, -, hup, -⟩ := h
  rw [pairStack_cardAt hi, hup]

theorem InnPeer.taken {s : State} {f : Frame} (h : InnPeer s f) : ReadsAs s (s.takeAgent f) := .takeAgent h.sound f

theorem stays_readCard (s : State) (i : Nat) : (s.readCard i).2.stays = s.stays := within_readCard.same .stays (by decide)

theorem stays_readChart (s : State) (i : Nat) : (s.readChart i).2.stays = s.stays := within_readChart.same .stays (by decide)

theorem stays_pageRoom (s : State) (i page : Nat) : (s.pageRoom i page).2.stays = s.stays := within_pageRoom.same .stays (by decide)

theorem stays_readLedgers (s : State) (rs : List Nat) : (s.readLedgers rs).stays = s.stays := within_readLedgers.same .stays (by decide)

theorem State.pageRoom_absent {s : State} {i : Nat} (h : (s.stay i).root = 0) (page : Nat) : s.pageRoom i page = (some 0, s) := if_pos (.inl h)

theorem State.roomsFrom_absent {s : State} {i : Nat} (h : (s.stay i).root = 0) (ps seen : List Nat) :
    State.roomsFrom ps s seen i = (some (ps.map fun _ => 0), s) := by
  induction ps with
  | nil => rfl
  | cons p ps ih =>
    rw [State.roomsFrom]
    simp only [h, true_or, if_true, ih]
    rfl

theorem State.roomsOf_absent {s : State} {i : Nat} (h : (s.stay i).root = 0) (ps : List Nat) : State.roomsOf ps s i = (some (ps.map fun _ => 0), s) :=
  State.roomsFrom_absent h ps []

theorem State.readChart_absent {s : State} {i : Nat} (h : (s.stay i).root = 0) : s.readChart i = (⟨[], [], true⟩, s) := if_pos h

/-- A chart that is read clean is freed. -/
theorem State.closeChart_clean {s : State} {i : Nat} (h : (s.readChart i).1.clean = true) :
    s.closeChart i = (some (s.readChart i).1.rooms.length, (s.readChart i).2.freeChart i (s.readChart i).1) := by
  have hread : ((s.readChart i).1.clean || (s.readChart i).2.stackLost 0) = true := by rw [h]; rfl
  exact if_pos hread

theorem State.stay_freeEntry (s : State) (i : Nat) : (s.freeEntry i).stay i = { freeStay with gen := ((s.stay i).gen + 1) % 16384 } :=
  s.stay_setStay_same i _

/-! ### A guest's pages -/

theorem State.guestOf_congr {s t : State} (h : t.stays = s.stays) (f : Frame) : t.guestOf f = s.guestOf f := by
  rw [State.guestOf, State.stay_congr h, State.guestOf]

theorem State.moving_congr {s t : State} (h : t.stays = s.stays) (i : Nat) : t.moving i = s.moving i := by rw [State.moving, h, State.moving]

/-- The guest that a frame names is the entry of its ADDRESS. -/
theorem State.index_of_guestOf {s : State} {f : Frame} {i : Nat} (h : s.guestOf f = some i) : i < 2 ^ 18 := by
  rw [State.guestOf] at h
  split at h
  · cases h
    exact Nat.mod_lt _ (by decide)
  · cases h

/-- A move joins the others. -/
def State.moveTaken (s : State) (m : Move) : State := s.modStays (fun u => { u with moves := u.moves ++ [m] })

theorem State.stay_moveTaken (s : State) (m : Move) (i : Nat) : (s.moveTaken m).stay i = s.stay i := s.stay_modStays _ (fun _ => rfl) i

theorem Quiet.moveTaken {s : State} (m : Move) : Quiet s (s.moveTaken m) := Quiet.modStays _

theorem State.moves_moveTaken (s : State) (m : Move) : (s.moveTaken m).stays.moves = s.stays.moves ++ [m] := rfl

theorem ReadsAs.of_table {s t u : State} (h : ReadsAs s t) (hmem : u.mem = t.mem) (hup : u.reg MEM_STATUS = t.reg MEM_STATUS)
    (hstay : ∀ i, u.stay i = t.stay i) : ReadsAs s u :=
  h.trans ⟨h.pool.sound, .of_mem h.pool.sound hmem hup, by rw [hmem], fun i => by rw [hstay], fun i => by rw [hstay]⟩

theorem ReadsAs.moveTaken {s t : State} (h : ReadsAs s t) (m : Move) : ReadsAs s (t.moveTaken m) := h.of_table rfl rfl fun i => t.stay_moveTaken m i

/-- A guest's return: its card has been read, its move joins the others, and its first page goes out. -/
def State.guestReturns (s : State) (f : Frame) (i pages : Nat) : State :=
  (((s.takeAgent f).readCard i).2.recalled f 0).moveTaken
    ⟨i, .nobody, 4, false, false, f.srcCoord, (s.stay i).twinIndex, 2, 0, f.tag, (s.stay i).rooms, pages⟩

theorem exec_recallReturn (f : Frame) (s : State) : exec (.recallReturn f) s = execRecallReturn f s := rfl

theorem exec_recallReturn_page {s : State} {f : Frame} {i : Nat} (h : InnPeer s f) (hg : s.guestOf f = some i) (hm : s.moving i = false)
    (hpages : 0 < (s.card i).pages (s.stay i).tokens) (hclean : s.poisoned (cardAt i / 64) = false) (hroot : (s.stay i).root = 0) :
    exec (.recallReturn f) s = .next ((s.guestReturns f i ((s.card i).pages (s.stay i).tokens)).sendPage f.srcCoord (s.stay i).twinIndex 0 (some 0) f.tag
      (s.stay i).party).retryAgents := by
  obtain ⟨hcard, -⟩ := h.taken.readCard (h.up (State.index_of_guestOf hg)) hclean
  have hx : (((s.takeAgent f).readCard i).2.stay i).root = 0 := by
    rw [State.stay_congr (stays_readCard _ i), State.stay_takeAgent, hroot]
  have hy : ((s.guestReturns f i ((s.card i).pages (s.stay i).tokens)).stay i).root = 0 := by
    rw [State.guestReturns, State.stay_moveTaken, State.recalled, State.stay_answer, hx]
  rw [exec_recallReturn, execRecallReturn, h.serve]
  simp only [h.opened, State.guestOf_congr (s.stays_takeAgent f), hg, State.moving_congr (s.stays_takeAgent f), hm, Bool.false_eq_true, if_false]
  rw [hcard]
  simp only [State.stay_takeAgent, State.roomsOf_absent hx, if_neg (Nat.pos_iff_ne_zero.1 hpages)]
  rw [State.sendPageOf, ← State.moveTaken, ← State.guestReturns, State.pageRoom_absent hy]

theorem completes_recallReturn {s : State} {f : Frame} {i : Nat} (h : InnPeer s f) (hg : s.guestOf f = some i) (hm : s.moving i = false)
    (hpages : 0 < (s.card i).pages (s.stay i).tokens) (hclean : s.poisoned (cardAt i / 64) = false) (hroot : (s.stay i).root = 0) :
    Completes (.recallReturn f) s (fun t =>
      t.stays.moves = s.stays.moves ++ [⟨i, .nobody, 4, false, false, f.srcCoord, (s.stay i).twinIndex, 2, 0, f.tag, (s.stay i).rooms,
        (s.card i).pages (s.stay i).tokens⟩] ∧
      Replied t f 0x37 (padTo 32 [0]) ∧ PageSent t f.srcCoord (s.stay i).twinIndex 0 (fun _ => zeroBytes 4096)) := by
  obtain ⟨-, hread⟩ := h.taken.readCard (h.up (State.index_of_guestOf hg)) hclean
  have hx : Carries s ((s.takeAgent f).readCard i).2 := ((Quiet.takeAgent f).trans (Upkeep.readCard i).quiet).carries
  have hstays : ((s.takeAgent f).readCard i).2.stays = s.stays := (stays_readCard _ i).trans (s.stays_takeAgent f)
  refine ⟨_, exec_recallReturn_page h hg hm hpages hclean hroot, ?_, ?_, ?_⟩
  · rw [stays_retryAgents, stays_sendPage, State.guestReturns, State.moves_moveTaken, State.recalled, stays_answer, hstays]
  · refine replied_after h.1 h.reaches hx 0x37 [0] (.trans ?_ (Keeps.sendPage _ _ _ _ _ _).carries)
    exact (Quiet.moveTaken _).carries
  · have hstart : Keeps ((s.takeAgent f).readCard i).2 (s.guestReturns f i ((s.card i).pages (s.stay i).tokens)) :=
      (Keeps.answer (.request f) 0x37 [0]).trans (Quiet.moveTaken _).keeps
    have hnum := hstart.numbered (hx.numbered (Calm.numbered h.1))
    have hreads : ReadsAs s (s.guestReturns f i ((s.card i).pages (s.stay i).tokens)) := (hread.agentSend 0 _).moveTaken _
    refine pageSent_of_posted ((Keeps.sendPage _ _ _ _ _ _).numbered hnum) Carries.retryAgents (posted_page hnum hreads.pool.sound
      (RouteTo.routes h.2.1 (hx.routes.trans hstart.routes)) _ 0 f.tag (s.stay i).party fun x k hk hxk => piece_absent _ x k hk hxk)

theorem completes_recallReturn_stranger {s : State} {f : Frame} (h : InnPeer s f) (hg : s.guestOf f = none) : Completes (.recallReturn f) s (fun t =>
    t.stays = s.stays ∧ Replied t f 0x37 (padTo 32 [1])) := by
  have hexec : exec (.recallReturn f) s = .next ((s.takeAgent f).recalled f 1).retryAgents := by
    rw [exec_recallReturn, execRecallReturn, h.serve]
    simp only [h.opened, State.guestOf_congr (s.stays_takeAgent f), hg]
  refine ⟨_, hexec, ?_, replied_after h.1 h.reaches (Quiet.takeAgent f).carries 0x37 [1] (Carries.refl _)⟩
  rw [stays_retryAgents, State.recalled, stays_answer, State.stays_takeAgent]

/-! ### A guest given up -/

/-- The rooms of pages that were arriving are given back as upkeep, once they are off the list. -/
theorem Upkeep.dropArriving (s : State) (i : Nat) :
    Upkeep (s.modStays (fun u => { u with arriving := u.arriving.filter (fun a => a.index != i) })) (s.dropArriving i) :=
  Upkeep.foldl _ (fun _ _ _ => Upkeep.dropRef _) _

theorem Quiet.dropArriving (s : State) (i : Nat) : Quiet s (s.dropArriving i) := (Quiet.modStays _).trans (Upkeep.dropArriving s i).quiet

theorem State.gen_dropArriving (s : State) (i j : Nat) : ((s.dropArriving i).stay j).gen = (s.stay j).gen := by
  rw [(Upkeep.dropArriving s i).gen]
  exact congrArg Stay.gen (s.stay_modStays _ (fun _ => rfl) j)

theorem State.move?_dropArriving (s : State) (i j : Nat) : (s.dropArriving i).move? j = s.move? j := (Upkeep.dropArriving s i).move? j

theorem State.move?_setStay (s : State) (i : Nat) (e : Stay) (j : Nat) : (s.setStay i e).move? j = s.move? j := by
  rw [State.move?, State.stays_setStay, State.move?]

/-- What is left of a guest that is given up, before the answer. -/
def State.guestGone (s : State) (f : Frame) (i : Nat) : State :=
  ((((s.takeAgent f).closeChart i).2.setMove i none).dropArriving i).freeEntry i

theorem exec_recallDiscard (f : Frame) (s : State) : exec (.recallDiscard f) s = execRecallDiscard f s := rfl

theorem completes_recallDiscard {s : State} {f : Frame} {i : Nat} (h : InnPeer s f) (hg : s.guestOf f = some i)
    (hclean : (s.readChart i).1.clean = true) : Completes (.recallDiscard f) s (fun t =>
    t.stay i = { freeStay with gen := ((s.stay i).gen + 1) % 16384 } ∧ t.move? i = none ∧ Replied t f 0x37 (padTo 32 [0])) := by
  have hread : ((s.takeAgent f).readChart i).1.clean = true := by rw [(reads_readChart i).answer h.taken, hclean]
  have hexec : exec (.recallDiscard f) s = .next ((s.guestGone f i).recalled f 0).retryAgents := by
    rw [exec_recallDiscard, execRecallDiscard, h.serve]
    simp only [h.opened, State.guestOf_congr (s.stays_takeAgent f), hg]
    rw [State.guestGone, State.closeChart_clean hread]
  have hquiet : Quiet s (s.guestGone f i) := ((((Quiet.takeAgent f).trans (Upkeep.closeChart i).quiet).trans (Quiet.setMove i none)).trans
    (Quiet.dropArriving _ i)).trans (Quiet.freeEntry i)
  refine ⟨_, hexec, ?_, ?_, replied_after h.1 h.reaches hquiet.carries 0x37 [0] (Carries.refl _)⟩
  · rw [State.stay_retryAgents, State.recalled, State.stay_answer, State.guestGone, State.stay_freeEntry, State.gen_dropArriving, State.stay_setMove,
      (Upkeep.closeChart i).gen, State.stay_takeAgent]
  · rw [State.move?_congr (congrArg _ (stays_retryAgents _)), State.recalled, State.move?_congr (congrArg _ (stays_answer _ _ _ _)), State.guestGone,
      State.freeEntry, State.move?_setStay, State.move?_dropArriving, State.move?_setMove_none]

end Sys2Proof.Machine
end

section
/-! PROOF. O29, the rest: one page of a stay asked for, what a recall is answered, and evictions (R227, R228). -/

-- Proofs are checked one at a time: side by side they would only wait for one another.
set_option Elab.async false

namespace Sys2Proof.Machine
open Sys2Proof

/-! ### A clean page sent -/

/-- Bytes by pairs are the bytes. -/
theorem flatMap_pairs {α : Type} (g : Nat → α) (n : Nat) : (List.range n).flatMap (fun k => (List.range 64).map (fun i => g (64 * k + i))) =
    (List.range (64 * n)).map g := by
  induction n with
  | zero => rfl
  | succ n ih =>
    rw [List.range_succ (n := n), List.flatMap_append, ih, Nat.mul_succ, List.range_add, List.map_append, List.map_map]
    simp

/-- A pair that the merge buffer does not hold reads as it is stored. -/
theorem Sound.pairBytes_settled {s : State} (h : Sound s) {p : Nat} (hp : s.entry p = none) :
    s.pairBytes p = (List.range 64).map (fun i => s.byte (64 * p + i)) := by
  rw [State.pairBytes, sparseRead]
  refine List.map_congr_left fun i hi => ?_
  have hlt := List.mem_range.1 hi
  have hpair : (64 * p + i) / 64 = p := by omega
  rw [h.byte_eq, hpair, hp]

/-- 4,096 bytes of good pairs are read as they are, and none is marked. -/
theorem Sound.readPiece {s : State} (h : Sound s) {a : Nat} (ha : a % 64 = 0) (hgood : ∀ p ∈ pairsOf a 4096, s.PairGood p) :
    (s.readPiece a).1 = s.peek a 4096 ∧ (s.readPiece a).2.1 = [] ∧ ReadsAs s (s.readPiece a).2.2 := by
  obtain ⟨hsame, hentry⟩ := h.touchPairs (pairsOf a 4096)
  have hmem : ∀ k < 64, a / 64 + k ∈ pairsOf a 4096 := fun k hk => (mem_pairsOf (by decide)).2 (by omega)
  have hbad : (List.range 64).filter (fun k => ((pairsOf a 4096).foldl State.touchPair s).stackLost (pairStack (a / 64 + k)) ||
      ((pairsOf a 4096).foldl State.touchPair s).poisoned (a / 64 + k)) = [] := by
    refine List.filter_eq_nil_iff.2 fun k hk => ?_
    obtain ⟨hup, hclean⟩ := hgood _ (hmem k (List.mem_range.1 hk))
    rw [hsame.same.stackLost, hsame.same.poisoned, hup, hclean]
    decide
  have hstays : (s.readPiece a).2.2.stays = s.stays := within_readPiece.same .stays (by decide)
  have hbytes : (List.range 64).flatMap (fun k => ((pairsOf a 4096).foldl State.touchPair s).pairBytes (a / 64 + k)) = s.peek a 4096 := by
    rw [State.peek_eq_map_byte, ← flatMap_pairs (fun i => s.byte (a + i)) 64]
    refine List.flatMap_congr fun k hk => ?_
    have hnone : ((pairsOf a 4096).foldl State.touchPair s).entry (a / 64 + k) = none := by rw [hentry, if_pos (hmem k (List.mem_range.1 hk))]
    rw [hsame.sound.pairBytes_settled hnone]
    refine List.map_congr_left fun i _ => ?_
    have haddr : 64 * (a / 64 + k) + i = a + (64 * k + i) := by omega
    rw [hsame.byte, haddr]
  refine ⟨?_, hbad, .of_pool h hsame (s.poison_touchPairs _) hstays⟩
  rw [State.readPiece]
  simp only [hbad, List.contains_nil, Bool.false_eq_true, if_false, hbytes]

theorem State.pieceOf_room (x : State) {r : Nat} (hr : r ≠ 0) (k : Nat) : x.pieceOf (some r) k =
    ((x.readPiece (r * 65536 + 4096 * k)).1, (x.readPiece (r * 65536 + 4096 * k)).2.1,
      if (x.readPiece (r * 65536 + 4096 * k)).2.1.isEmpty || (x.readPiece (r * 65536 + 4096 * k)).2.2.stackLost (roomStack r)
      then (x.readPiece (r * 65536 + 4096 * k)).2.2 else (x.readPiece (r * 65536 + 4096 * k)).2.2.poisonRoom r) := by
  unfold State.pieceOf
  split
  next heq => cases heq
  next heq => exact absurd (Option.some.inj heq) hr
  next heq =>
    cases heq
    rfl

/-- A piece of a room whose pairs are good is sent as it is. -/
theorem piece_clean {s x : State} {r : Nat} (hr : r ≠ 0) (hgood : ∀ p, p / 1024 = r → s.PairGood p) (k : Nat) (hk : k < 16) (h : ReadsAs s x) :
    (x.pieceOf (some r) k).1 = s.peek (r * 65536 + 4096 * k) 4096 ∧ ReadsAs x (x.pieceOf (some r) k).2.2 := by
  have hpairs : ∀ p ∈ pairsOf (r * 65536 + 4096 * k) 4096, x.PairGood p := by
    intro p hp
    have hp := (mem_pairsOf (by decide)).1 hp
    exact (h.pool.same.pairGood p).2 (hgood p (by omega))
  obtain ⟨hbytes, hnone, hreads⟩ := h.pool.sound.readPiece (a := r * 65536 + 4096 * k) (by omega) hpairs
  have hafter : (x.pieceOf (some r) k).2.2 = (x.readPiece (r * 65536 + 4096 * k)).2.2 := by
    rw [x.pieceOf_room hr, hnone]
    rfl
  refine ⟨?_, hafter ▸ hreads⟩
  rw [x.pieceOf_room hr]
  exact hbytes.trans (h.peek _ _)

/-- A room that is not bad, and that no poisoned pair lies in, has good pairs only. -/
theorem State.goodRoom {s : State} {r : Nat} (hr : r ≠ 0) (hbad : s.roomBad r = false) (hclean : ∀ e ∈ s.mem.poison, e.1 / 1024 ≠ r) :
    ∀ p, p / 1024 = r → s.PairGood p := by
  intro p hp
  have hup : s.stackLost (roomStack r) = false := by
    simp only [State.roomBad, State.ledgerOf, Bool.and_eq_false_iff, bne_eq_false_iff_eq, Bool.or_eq_false_iff] at hbad
    tauto
  refine ⟨?_, ?_⟩
  · have hstack : pairStack p = roomStack r := by
      unfold pairStack roomStack
      omega
    rw [hstack, hup]
  · exact sparseGet_of_not_mem fun e he heq => hclean e he (by rw [heq, hp])

/-! ### RECALL of a page (R227, R233) -/

theorem exec_recallPage (f : Frame) (s : State) : exec (.recallPage f) s = execRecallPage f s := rfl

theorem completes_recallPage {s : State} {f : Frame} {r : Nat} (h : InnPeer s f) (hcoord : (s.stay (f.address % 2 ^ 18)).twinCoord = f.srcCoord)
    (hparty : (s.stay (f.address % 2 ^ 18)).party = f.party) (hlends : (s.stay (f.address % 2 ^ 18)).lends = true)
    (hroom : (s.pageRoom (f.address % 2 ^ 18) (bitsOf f.address 44 21)).1 = some r) (hr : r ≠ 0) (hbad : s.roomBad r = false)
    (hclean : ∀ e ∈ s.mem.poison, e.1 / 1024 ≠ r) : Completes (.recallPage f) s (fun t => t.stays = s.stays ∧ Replied t f 0x37 (padTo 32 [0]) ∧
      PageSent t f.srcCoord (s.stay (f.address % 2 ^ 18)).twinIndex (bitsOf f.address 44 21) (fun k => s.peek (r * 65536 + 4096 * k) 4096)) := by
  generalize hi : f.address % 2 ^ 18 = i at hcoord hparty hlends hroom
  generalize hpage : bitsOf f.address 44 21 = page at hroom
  have hreads := reads_pageRoom i page
  have hfound : (s.takeAgent f).pageRoom i page = (some r, ((s.takeAgent f).pageRoom i page).2) := Prod.ext ((hreads.answer h.taken).trans hroom) rfl
  have hread : ReadsAs s (((s.takeAgent f).pageRoom i page).2.readLedgers [r]) := (hreads.after h.taken).readLedgers [r]
  have hup : Upkeep (s.takeAgent f) (((s.takeAgent f).pageRoom i page).2.readLedgers [r]) := (Upkeep.pageRoom i page).trans (Upkeep.readLedgers [r])
  have hstays : (((s.takeAgent f).pageRoom i page).2.readLedgers [r]).stays = s.stays :=
    (stays_readLedgers _ _).trans ((stays_pageRoom _ i page).trans (s.stays_takeAgent f))
  have hexec : exec (.recallPage f) s = .next (((((s.takeAgent f).pageRoom i page).2.readLedgers [r]).recalled f 0).sendPage f.srcCoord
      (s.stay i).twinIndex page (some r) f.tag (s.stay i).party).retryAgents := by
    rw [exec_recallPage, execRecallPage, h.serve]
    simp only [h.opened, hi, hpage, State.stay_takeAgent, hcoord, hparty, hlends, ne_eq, not_true_eq_false, Bool.not_true, Bool.false_eq_true,
      or_self, if_false]
    rw [hfound]
    simp only [hread.roomBad, hbad, Bool.false_eq_true, if_false]
  generalize ((s.takeAgent f).pageRoom i page).2.readLedgers [r] = x at hread hup hstays hexec
  have hx : Carries s x := ((Quiet.takeAgent f).trans hup.quiet).carries
  have hnum := (Keeps.answer (.request f) 0x37 [0]).numbered (hx.numbered (Calm.numbered h.1))
  have hreply : ReadsAs s (x.recalled f 0) := hread.agentSend 0 _
  refine ⟨_, hexec, ?_, ?_, ?_⟩
  · rw [stays_retryAgents, stays_sendPage, State.recalled, stays_answer, hstays]
  · exact replied_after h.1 h.reaches hx 0x37 [0] (Keeps.sendPage _ _ _ _ _ _).carries
  · refine pageSent_of_posted ((Keeps.sendPage _ _ _ _ _ _).numbered hnum) Carries.retryAgents (posted_page hnum hreply.pool.sound
      (RouteTo.routes h.2.1 (hx.routes.trans (Keeps.answer (.request f) 0x37 [0]).routes)) _ page f.tag (s.stay i).party fun y k hk hy => ?_)
    obtain ⟨hbytes, hafter⟩ := piece_clean hr (State.goodRoom hr hbad hclean) k hk (hreply.trans hy)
    exact ⟨hbytes, hafter⟩

/-! ### RECALLED (R227) -/

theorem exec_recalled (f : Frame) (s : State) : exec (.recalled f) s = execRecalled f s := rfl

section
variable {s : State} {f : Frame} {m : Move} (htrust : s.trusted f = true) (hphase : s.phase ≠ 6) (hop : bitsOf f.address 20 18 = 0)
  (hm : s.stays.moves.find? (fun m => m.kind == 3 && m.stage == 1 && m.peer == f.srcCoord && m.tag == f.tag) = some m)
include htrust hphase hop hm

theorem completes_recalled (hok : byteAt f.payload 0 = 0) (hpages : 0 < m.pages) : Completes (.recalled f) s (fun t =>
    t.move? m.index = some { m with stage := 2 }) := by
  have hexec : exec (.recalled f) s = .next ((s.takeAgent f).setMove m.index (some { m with stage := 2 })).retryAgents := by
    rw [exec_recalled, execRecalled, innServe_trusted hphase htrust]
    simp only [hop, if_true, State.stays_takeAgent, hm, hok, ne_eq, not_true_eq_false, if_false, Nat.pos_iff_ne_zero.1 hpages]
  have hmem : m ∈ (s.takeAgent f).stays.moves := by
    rw [State.stays_takeAgent]
    exact List.mem_of_find?_eq_some hm
  exact ⟨_, hexec, (State.move?_congr (congrArg _ (stays_retryAgents _)) _).trans (State.move?_setMove_some hmem rfl)⟩

end

/-- A stay whose rooms cannot be brought back, before its requester hears of it. -/
def State.strayed (s : State) (i : Nat) : State :=
  ((((s.setMove i none).dropChart i).2.modStay i (fun e => { e with state := 9, booked := 0, loc := 0 })).dropArriving i).modHealth
    (fun h => { h with restoring := h.restoring.filter (· != i) })

theorem Quiet.strayed (s : State) (i : Nat) : Quiet s (s.strayed i) :=
  ((((Quiet.setMove i none).trans (Upkeep.dropChart i).quiet).trans (Quiet.modStay i _)).trans (Quiet.dropArriving _ i)).trans (Quiet.modHealth _)

theorem State.state_dropArriving (s : State) (i j : Nat) : ((s.dropArriving i).stay j).state = (s.stay j).state := by
  rw [(Upkeep.dropArriving s i).state]
  exact congrArg Stay.state (s.stay_modStays _ (fun _ => rfl) j)

theorem State.waiting_dropArriving (s : State) (i : Nat) : (s.dropArriving i).stays.waiting = s.stays.waiting := (Upkeep.dropArriving s i).waiting

theorem State.waiting_modStay (s : State) (i : Nat) (g : Stay → Stay) : (s.modStay i g).stays.waiting = s.stays.waiting := by
  rw [State.modStay, State.stays_setStay]

theorem State.state_strayed (s : State) (i : Nat) : ((s.strayed i).stay i).state = 9 := by
  refine (State.state_dropArriving _ i i).trans ?_
  rw [State.stay_modStay_same]

theorem State.move?_strayed (s : State) (i : Nat) : (s.strayed i).move? i = none := by
  refine (State.move?_dropArriving _ i i).trans ?_
  rw [State.modStay, State.move?_setStay, (Upkeep.dropChart i).move?, State.move?_setMove_none]

theorem State.waiting_strayed (s : State) (i : Nat) : (s.strayed i).stays.waiting = s.stays.waiting := by
  refine (State.waiting_dropArriving _ i).trans ?_
  rw [State.waiting_modStay, (Upkeep.dropChart i).waiting, State.waiting_setMove]

theorem completes_recalled_lost {s : State} {f g : Frame} {m : Move} (hc : Calm s) (hg : Answerable s g) (htrust : s.trusted f = true) (hphase : s.phase ≠ 6)
    (hbad : byteAt f.payload 0 ≠ 0) (hop : bitsOf f.address 20 18 = 0)
    (hm : s.stays.moves.find? (fun m => m.kind == 3 && m.stage == 1 && m.peer == f.srcCoord && m.tag == f.tag) = some m)
    (hasker : m.asker = .request g) (hwait : s.stays.waiting = []) : Completes (.recalled f) s (fun t => (t.stay m.index).state = 9 ∧
      t.move? m.index = none ∧ Replied t g 0x2F (padTo 32 [0x0A, 0x25])) := by
  have hkind : m.kind = 3 := by
    have h := List.find?_some hm
    simp only [Bool.and_eq_true, beq_iff_eq] at h
    exact h.1.1.1
  have hnone : (((s.takeAgent f).strayed m.index).refuse (.request g) 0x25 0x0A).stays.waiting = [] := by
    rw [stays_refuse, State.waiting_strayed, State.stays_takeAgent, hwait]
  have hexec : exec (.recalled f) s = .next ((((s.takeAgent f).strayed m.index).refuse (.request g) 0x25 0x0A)).retryAgents := by
    rw [exec_recalled, execRecalled, innServe_trusted hphase htrust]
    simp only [hop, if_true, State.stays_takeAgent, hm, hbad, ne_eq, not_false_eq_true, State.lostAway, hkind, hasker]
    rw [← State.strayed, State.drainStay_of_nil hnone]
  refine ⟨_, hexec, ?_, ?_, ?_⟩
  · rw [State.stay_retryAgents, State.stay_refuse, State.state_strayed]
  · rw [State.move?_congr (congrArg _ (stays_retryAgents _)), State.move?_congr (congrArg _ (stays_refuse _ _ _ _)), State.move?_strayed]
  · exact refused_after hc hg.reaches ((Quiet.takeAgent f).trans (Quiet.strayed _ _)).carries (by decide) (by decide) (Carries.refl _)

/-! ### Evictions (R228) -/

theorem exec_eviction (s : State) : exec .eviction s = execEviction s := rfl

/-- The service begins to evict. -/
def State.evicts (s : State) : State := s.modStays (fun u => { u with evicting := true })

theorem completes_eviction_off {s : State} (h : s.flag ST_EVICT_ENABLE = false) : Completes .eviction s (fun t =>
    t.stays = { s.stays with evicting := false } ∧ t.mem = s.mem) := by
  refine ⟨s.modStays (fun u => { u with evicting := false }), ?_, rfl, rfl⟩
  rw [exec_eviction, execEviction]
  simp [h]

section
variable {s : State} (hopen : s.flag ST_EVICT_ENABLE = true) (hcounted : s.stays.counted = true) (hphase : s.phase ≠ 6)
  (hlow : s.margin < 256 * s.fld ST_EVICT_LOW) (horder : 256 * s.fld ST_EVICT_LOW ≤ 256 * s.fld ST_EVICT_HIGH)
include hopen hcounted hphase hlow horder

theorem exec_eviction_waits (hbusy : ∃ m ∈ s.stays.moves, m.evict = true) : exec .eviction s = .next s.evicts := by
  have hany : s.stays.moves.any (·.evict) = true := List.any_eq_true.2 hbusy
  have hhigh : ¬256 * s.fld ST_EVICT_HIGH ≤ s.margin := by omega
  have hlow' : ¬256 * s.fld ST_EVICT_LOW ≤ s.margin := by omega
  rw [exec_eviction, execEviction]
  simp only [hopen, hcounted, hphase, hhigh, hlow', hany, Bool.not_true, Bool.false_eq_true, or_self, false_and, if_false, if_true]
  rfl

theorem completes_eviction_waits (hbusy : ∃ m ∈ s.stays.moves, m.evict = true) : Completes .eviction s (fun t =>
    t.stays = { s.stays with evicting := true } ∧ t.mem = s.mem) := ⟨_, exec_eviction_waits hopen hcounted hphase hlow horder hbusy, rfl, rfl⟩

end

end Sys2Proof.Machine
end

section
/-! PROOF. O29, the stay that is evicted, and the statement (R225, R227, R228). -/

-- Proofs are checked one at a time: side by side they would only wait for one another.
set_option Elab.async false

namespace Sys2Proof.Machine
open Sys2Proof

/-! ### A stay is evicted (R228) -/

theorem ReadsAs.evicts {s : State} (h : Sound s) : ReadsAs s s.evicts := (ReadsAs.refl h).of_table rfl rfl fun _ => rfl

/-- The park of an evicted stay is taken up. -/
def State.evictParks (s : State) (i kind peer : Nat) (thenHost : Bool) : State :=
  (s.modStay i (fun e => { e with state := 2 })).moveTaken ⟨i, .nobody, kind, true, thenHost, peer, 0, 0, 0, 0, 0, 0⟩

theorem State.stay_count (s : State) (o i : Nat) : (s.count o).stay i = s.stay i := rfl

theorem State.stay_evictDrop (s : State) (i : Nat) : (s.evictDrop i).stay i = { (s.dropChart i).2.stay i with state := 9, booked := 0 } := by
  rw [State.evictDrop, State.stay_setMove, State.stay_count, State.stay_modStay_same]

theorem State.reg_setMove (s : State) (i : Nat) (m : Option Move) (o : Nat) : (s.setMove i m).reg o = s.reg o := rfl

theorem State.reg_evictDrop (s : State) (i : Nat) : (s.evictDrop i).reg (ST_CNT 8) = s.reg (ST_CNT 8) + 1 := by
  rw [State.evictDrop, State.reg_setMove, State.reg_count_same, State.reg_modStay _ _ _ (by decide), (Upkeep.dropChart i).reg _ (not_innReg_stCnt (by decide))]

section
variable {s : State} {i : Nat} (hopen : s.flag ST_EVICT_ENABLE = true) (hcounted : s.stays.counted = true) (hphase : s.phase ≠ 6)
  (hlow : s.margin < 256 * s.fld ST_EVICT_LOW) (hfree : ∀ m ∈ s.stays.moves, m.evict = false)
  (horder : 256 * s.fld ST_EVICT_LOW ≤ 256 * s.fld ST_EVICT_HIGH) (hchoice : s.evictChoice = some i) (hcard : CardClean s i)
include hopen hcounted hphase hlow hfree horder hchoice hcard

/-- The stay chosen goes where its card says. -/
theorem exec_eviction_chosen : exec .eviction s = .next (if (s.card i).evictTo = 0 then (s.evicts.readCard i).2.evictDrop i
    else if (s.card i).evictTo = 1 then (s.evicts.readCard i).2.evictParks i 1 0 false
    else (s.card i).peer.elim (if (s.card i).evictTo = 3 then (s.evicts.readCard i).2.evictParks i 1 0 false else (s.evicts.readCard i).2.evictDrop i)
      fun p => (s.evicts.readCard i).2.evictParks i 2 p ((s.card i).evictTo == 3)) := by
  have hany : s.stays.moves.any (·.evict) = false := List.any_eq_false.2 fun m hm => by rw [hfree m hm]; decide
  have hhigh : ¬256 * s.fld ST_EVICT_HIGH ≤ s.margin := by omega
  have hlow' : ¬256 * s.fld ST_EVICT_LOW ≤ s.margin := by omega
  have hchoice' : s.evicts.evictChoice = some i := hchoice
  obtain ⟨hread, -⟩ := (ReadsAs.evicts (Sound.of_nil hcard.1)).readCard hcard.2.1 hcard.2.2
  rw [exec_eviction, execEviction]
  simp only [hopen, hcounted, hphase, hhigh, hlow', hany, Bool.not_true, Bool.false_eq_true, or_self, false_and, if_false]
  rw [← State.evicts, hchoice']
  dsimp only
  rw [hread]
  dsimp only
  split_ifs
  · rfl
  · rfl
  · cases (s.card i).peer <;> rfl
  · cases (s.card i).peer <;> rfl

theorem completes_eviction_drop (hto : (s.card i).evictTo = 0) : Completes .eviction s (fun t =>
    (t.stay i).state = 9 ∧ (t.stay i).booked = 0 ∧ t.reg (ST_CNT 8) = s.reg (ST_CNT 8) + 1) := by
  have hexec := exec_eviction_chosen hopen hcounted hphase hlow hfree horder hchoice hcard
  rw [if_pos hto] at hexec
  refine ⟨_, hexec, ?_, ?_, ?_⟩
  · rw [State.stay_evictDrop]
  · rw [State.stay_evictDrop]
  · rw [State.reg_evictDrop, (Upkeep.readCard i).reg _ (not_innReg_stCnt (by decide))]
    rfl

theorem completes_eviction_park (hto : (s.card i).evictTo = 1) : Completes .eviction s (fun t =>
    (t.stay i).state = 2 ∧ t.stays.moves = s.stays.moves ++ [⟨i, .nobody, 1, true, false, 0, 0, 0, 0, 0, 0, 0⟩]) := by
  have hexec := exec_eviction_chosen hopen hcounted hphase hlow hfree horder hchoice hcard
  rw [if_neg (by rw [hto]; decide), if_pos hto] at hexec
  refine ⟨_, hexec, ?_, ?_⟩
  · rw [State.evictParks, State.stay_moveTaken, State.stay_modStay_same]
  · rw [State.evictParks, State.moves_moveTaken, State.modStay, State.stays_setStay, stays_readCard]
    rfl

end

/-- Settles O29: each command of recalls and evictions comes to a request of the innkeeper whose state the rules of the pool, of charts and of moves
give, and whose answer and pages are posted. -/
theorem recallsComplete : Obligations.RecallsComplete := by
  unfold Obligations.RecallsComplete
  exact ⟨fun _ _ _ h hg hm hp hc hr => completes_recallReturn h hg hm hp hc hr, fun _ _ h hg => completes_recallReturn_stranger h hg,
    fun _ _ _ h hg hc => completes_recallDiscard h hg hc,
    fun _ _ _ h hcoord hparty hlends hroom hr hbad hclean => completes_recallPage h hcoord hparty hlends hroom hr hbad hclean,
    fun _ _ _ ht hphase hok hop hm hpages => completes_recalled ht hphase hop hm hok hpages,
    fun _ _ _ _ hc hg ht hphase hbad hop hm ha hw => completes_recalled_lost hc hg ht hphase hbad hop hm ha hw,
    fun _ h => completes_eviction_off h,
    fun _ _ ho hn hp hl hf hord hch hcard hto _ => completes_eviction_drop ho hn hp hl hf hord hch hcard hto,
    fun _ _ ho hn hp hl hf hord hch hcard hto => completes_eviction_park ho hn hp hl hf hord hch hcard hto,
    fun _ ho hn hp hl hord hb => completes_eviction_waits ho hn hp hl hord hb⟩

end Sys2Proof.Machine
end

section
/-! SUPPORT. An entry of the stay table taken with its card, a room written by pieces, and a MIRROR operation on the entry it names (R201, R209, R214,
R229, R230). -/

-- Proofs are checked one at a time: side by side they would only wait for one another.
set_option Elab.async false

namespace Sys2Proof.Machine
open Sys2Proof

/-! ### An entry is taken -/

/-- The entry as it is taken, before its booking. -/
def State.newEntry (s : State) (i state party rank : Nat) (card : List Byte) : Stay :=
  { freeStay with state := state, party := party, gen := (s.stay i).gen, ownerRank := rank, lastUse := bitsOf s.now 43 28,
                  priority := (cardOf card).priority }

/-- The entry taken, its rooms booked and its card written. -/
def State.entryTaken (s : State) (i state party rank rooms : Nat) (card : List Byte) : State :=
  ((s.setStay i (s.newEntry i state party rank card)).modStay i (fun e => { e with booked := e.booked + rooms })).porterWrite (cardAt i) card

section
variable (s : State) (i state party rank rooms : Nat) (card : List Byte)

theorem State.stays_porterWrite (a : Nat) (bs : List Byte) : (s.porterWrite a bs).stays = s.stays := within_porterWrite.same .stays (by decide)

theorem State.stay_entryTaken : (s.entryTaken i state party rank rooms card).stay i = { s.newEntry i state party rank card with booked := rooms } := by
  rw [State.entryTaken, State.stay_congr (State.stays_porterWrite _ _ _), State.stay_modStay_same, State.stay_setStay_same, State.newEntry]
  simp [freeStay]

theorem State.stay_entryTaken_other {j : Nat} (h : j ≠ i) : (s.entryTaken i state party rank rooms card).stay j = s.stay j := by
  rw [State.entryTaken, State.stay_congr (State.stays_porterWrite _ _ _), State.stay_modStay_other _ _ h, State.stay_setStay_other _ _ h]

theorem State.reg_entryTaken {o : Nat} (h : ¬InnReg o) : (s.entryTaken i state party rank rooms card).reg o = s.reg o := by
  have hout : o ≠ ST_STATUS ∧ o ≠ ST_USE := ⟨fun e => h (.inl e), fun e => h (.inr (.inl e))⟩
  rw [State.entryTaken, (Upkeep.porterWrite _ _).reg _ h, State.reg_modStay _ _ _ hout, State.reg_setStay _ _ _ hout]

theorem Quiet.entryTaken : Quiet s (s.entryTaken i state party rank rooms card) :=
  ((Quiet.setStay i _).trans (Quiet.modStay i _)).trans (Upkeep.porterWrite _ _).quiet

end

/-- An entry that books nothing changes no booking of the others. -/
theorem State.booked_setStay {s : State} {i : Nat} {e : Stay} (hold : (s.stay i).booked = 0) (hnew : e.booked = 0) :
    (s.setStay i e).fld ST_STATUS_BOOKED_TOTAL = s.fld ST_STATUS_BOOKED_TOTAL := by
  rw [State.setStay, hold, hnew]
  refine (State.fld_setFld_off _ ST_USE_STAYS_USED ST_STATUS_BOOKED_TOTAL _ (by decide)).trans ?_
  exact State.fld_setFld_fits _ (by decide) (s.fld_lt ST_STATUS_BOOKED_TOTAL)

theorem State.freeRooms_setStay (s : State) (i : Nat) (e : Stay) : (s.setStay i e).fld ST_STATUS_FREE_ROOMS = s.fld ST_STATUS_FREE_ROOMS := by
  rw [State.setStay]
  refine (State.fld_setFld_off _ ST_USE_STAYS_USED ST_STATUS_FREE_ROOMS _ (by decide)).trans ?_
  exact State.fld_setFld_bits _ ST_STATUS_BOOKED_TOTAL ST_STATUS_FREE_ROOMS _ (by decide) (by decide)

/-- Whether rooms are admitted depends on the entry's state and priority, and on the registers of admission and of rooms. -/
theorem State.admits_congr {s t : State} {e d : Stay} (hstate : d.state = e.state) (hpriority : d.priority = e.priority)
    (hadmit : t.reg ST_ADMIT = s.reg ST_ADMIT) (hfree : t.fld ST_STATUS_FREE_ROOMS = s.fld ST_STATUS_FREE_ROOMS)
    (hbooked : t.fld ST_STATUS_BOOKED_TOTAL = s.fld ST_STATUS_BOOKED_TOTAL) (k : Nat) : t.admits d k = s.admits e k := by
  have hfld : ∀ f : Fld, f.off = ST_ADMIT → t.fld f = s.fld f := fun f hf => State.fld_eq_of_reg (by rw [hf, hadmit])
  rw [State.admits, State.floor, hstate, hpriority, hfree, hbooked, hfld ST_ADMIT_GUEST_FLOOR rfl, hfld ST_ADMIT_FLOOR0 rfl, hfld ST_ADMIT_FLOOR1 rfl,
    hfld ST_ADMIT_FLOOR2 rfl, State.admits, State.floor]

/-- A free entry is taken where its rooms are admitted. -/
theorem State.takeEntry_ok {s : State} {i state rooms : Nat} {card : List Byte} (party rank : Nat) (hfree : s.freeIndex = some i)
    (hbooked : (s.stay i).booked = 0) (hadmits : s.admits { freeStay with state := state, priority := (cardOf card).priority } rooms = true) :
    s.takeEntry state party rank card rooms = .ok (i, s.entryTaken i state party rank rooms card) := by
  have hadmits' : (s.setStay i (s.newEntry i state party rank card)).admits ((s.setStay i (s.newEntry i state party rank card)).stay i) rooms = true := by
    rw [State.stay_setStay_same, ← hadmits]
    exact State.admits_congr rfl rfl (State.reg_setStay _ _ _ (by decide)) (State.freeRooms_setStay _ _ _) (State.booked_setStay hbooked rfl) _
  rw [State.takeEntry, hfree]
  dsimp only
  rw [← State.newEntry, State.book, hadmits', if_pos rfl]
  rfl

theorem State.lt_of_freeIndex {s : State} {i : Nat} (h : s.freeIndex = some i) : i < 2 ^ 18 := by
  have hmem := List.mem_range.1 (List.mem_of_find?_eq_some h)
  omega

/-- The card of an entry that was taken is read as it was written. -/
theorem State.card_entryTaken {s : State} (h : Sound s) {i : Nat} (hup : s.stackLost (pairStack (cardAt i / 64)) = false)
    (hclean : s.poisoned (cardAt i / 64) = false) (state party rank rooms : Nat) {card : List Byte} (hlen : card.length = 32) :
    (s.entryTaken i state party rank rooms card).peek (cardAt i) 32 = card := by
  have hset : ∀ (x : State) (e : Stay), Sound x → SamePool x (x.setStay i e) := fun x e hx =>
    .of_mem hx (x.mem_setStay i e) (x.reg_setStay i e (by decide))
  have h1 := hset s (s.newEntry i state party rank card) h
  have h2 := h1.trans (hset _ { (s.setStay i (s.newEntry i state party rank card)).stay i with
    booked := ((s.setStay i (s.newEntry i state party rank card)).stay i).booked + rooms } h1.sound)
  have h3 := h2.trans (h2.sound.countBy (cardAt i / 2 ^ 37 % 8) 6 ((cardAt i + card.length - 1) / 32 - cardAt i / 32 + 1))
  have hgood : ∀ p ∈ pairsOf (cardAt i) card.length, s.PairGood p := by
    rw [hlen, cardAt_pairs]
    intro p hp
    rw [List.mem_singleton.1 hp]
    exact ⟨hup, hclean⟩
  have hwrite := (h3.sound.poolWrite (a := cardAt i) (bs := card) fun p hp => (h3.same.pairGood p).2 (hgood p hp)).peek_same
  exact (congrArg ((s.entryTaken i state party rank rooms card).peek (cardAt i)) hlen.symm).trans hwrite

/-! ### A room written by pieces -/

/-- A piece of a room of a stack that is up is read as it was written. -/
theorem State.peek_writePiece {s : State} {r k : Nat} (hk : k < 16) (hup : s.stackLost (roomStack r) = false) {data : List Byte}
    (hlen : data.length = 4096) : (s.writePiece (r * 65536 + 4096 * k) data []).peek (r * 65536 + 4096 * k) 4096 = data := by
  have h := peek_poolWrite_pairs (s := s) (a := r * 65536 + 4096 * k) (bs := data) (by omega) (by omega) fun p hp hlt => by
    have hstack : pairStack p = roomStack r := by
      unfold pairStack roomStack
      omega
    rw [hstack, hup]
  rwa [hlen] at h

theorem stays_writePiece (s : State) (a : Nat) (data : List Byte) (bad : List Nat) : (s.writePiece a data bad).stays = s.stays :=
  within_writePiece.same .stays (by decide)

theorem stays_copyTarget_alone {s : State} {c : Card} {i page r : Nat} (hs : Sound s) (hroom : (s.pageRoom i page).1 = some r) (hne : r ≠ 0)
    (hledger : s.ledgerOf r = (1, false)) : s.copyTarget c i page = (some r, (s.pageRoom i page).2.readLedgers [r]) := by
  have hread := ((reads_pageRoom i page).after (.refl hs)).readLedgers [r]
  have hfound : s.pageRoom i page = (some r, (s.pageRoom i page).2) := Prod.ext hroom rfl
  rw [State.copyTarget, hfound]
  dsimp only
  rw [if_pos ⟨hne, by rw [hread.ledgerOf, hledger]⟩]

theorem State.up_of_ledgerOf {s : State} {r n : Nat} (h : s.ledgerOf r = (n, false)) : s.stackLost (roomStack r) = false := by
  have h2 := congrArg Prod.snd h
  simp only [State.ledgerOf, Bool.or_eq_false_iff] at h2
  exact h2.1.2

/-! ### A MIRROR operation -/

/-- A MIRROR operation names the entry of its twin. -/
structure Mirrors (s : State) (f : Frame) (op i : Nat) : Prop where
  peer : InnPeer s f
  op : bitsOf f.address 20 18 = op
  index : mirrorIndex f = i
  state : (s.stay i).state = 7
  coord : (s.stay i).twinCoord = f.srcCoord
  party : (s.stay i).party = f.party

theorem mirrorIndex_address {f : Frame} {op i : Nat} (hi : f.address % 2 ^ 18 = i) (hop : bitsOf f.address 20 18 = op) (h2 : op ≠ 2) : mirrorIndex f = i := by
  rw [mirrorIndex, hop, if_neg h2, hi]

section
variable {s : State} {f : Frame} {op i : Nat} (h : Mirrors s f op i)
include h

theorem Mirrors.index_lt : i < 2 ^ 18 := by
  rw [← h.index, mirrorIndex]
  split <;> exact Nat.mod_lt _ (by decide)

theorem Mirrors.entry : (s.takeAgent f).mirrorEntry f = .ok i := by
  rw [State.mirrorEntry, h.peer.opened, h.index]
  simp only [State.stay_takeAgent, h.state, h.coord, h.party, and_self, if_true]

theorem Mirrors.mirrored (hlen : op = 2 → f.payload.length = 40) : (s.takeAgent f).mirrored f =
    if op = 1 then (s.takeAgent f).replay i f
    else if op = 2 then (s.takeAgent f).replayFork i f
    else if op = 3 then ((s.takeAgent f).closeChart i).1.elim (.refused ((s.takeAgent f).closeChart i).2 7)
      (fun _ => .done ((((s.takeAgent f).closeChart i).2.freeEntry i).mirrorAnswer f 0))
    else (s.takeAgent f).replayCopy i f := by
  unfold State.mirrored
  simp only [h.op, h.entry]
  rw [if_neg fun hc => hc.2 (hlen hc.1)]
  generalize (s.takeAgent f).closeChart i = r
  obtain ⟨_ | n, x⟩ := r <;> rfl

/-- A MIRROR operation that is served at once. -/
theorem Mirrors.done (hblocked : s.blocked i = false) {y : State} (hy : (s.takeAgent f).mirrored f = .done y) :
    s.innServe f (fun s => s.takeMirror op f) = .next y.retryAgents := by
  have hblocked' : (s.takeAgent f).blocked i = false := by rw [State.blocked, State.stays_takeAgent, ← State.blocked, hblocked]
  rw [h.peer.serve, State.takeMirror, mirrorFrame_self h.op]
  simp only [h.index, hblocked', Bool.false_eq_true, false_and, if_false, hy]

/-- A MIRROR operation behind what waits at its entry. -/
theorem Mirrors.waits (hblocked : s.blocked i = true) :
    s.innServe f (fun s => s.takeMirror op f) = .next ((s.takeAgent f).wait i (.request f) f none).retryAgents := by
  have hblocked' : (s.takeAgent f).blocked i = true := by rw [State.blocked, State.stays_takeAgent, ← State.blocked, hblocked]
  have hok : ((s.takeAgent f).mirrorEntry f).isOk = true := by rw [h.entry]; rfl
  rw [h.peer.serve, State.takeMirror, mirrorFrame_self h.op]
  simp only [h.index, hblocked', hok, and_self, if_true]

theorem Mirrors.card (hclean : s.poisoned (cardAt i / 64) = false) : (s.takeAgent f).readCard i = (some (s.card i), ((s.takeAgent f).readCard i).2) ∧
    ReadsAs s ((s.takeAgent f).readCard i).2 := h.peer.taken.readCard (h.peer.up h.index_lt) hclean

end

theorem mirrorAnswer_eq (s : State) (f : Frame) (n : Nat) : s.mirrorAnswer f n = s.answer (.request f) 0x31 [BitVec.ofNat 8 n] := rfl

theorem stays_mirrorAnswer (s : State) (f : Frame) (n : Nat) : (s.mirrorAnswer f n).stays = s.stays := stays_answer s _ _ _

end Sys2Proof.Machine
end

section
/-! PROOF. O30, twins at the twin: a MIRROR entry opened, fed, forked, closed, and a page copied to it (R229, R230). -/

-- Proofs are checked one at a time: side by side they would only wait for one another.
set_option Elab.async false

namespace Sys2Proof.Machine
open Sys2Proof

/-! ### MIRROR OPEN (R230) -/

theorem State.stay_homeOf (s : State) (i : Nat) (f : Frame) (handle : Nat) : (s.homeOf i f handle).stay i =
    { s.stay i with twinValid := true, twinCoord := f.srcCoord, twinIndex := handle % 2 ^ 18 } := s.stay_modStay_same i _

theorem State.handleOf_homeOf (s : State) (i : Nat) (f : Frame) (handle : Nat) : (s.homeOf i f handle).handleOf i = s.handleOf i :=
  State.handleOf_congr (by rw [State.stay_homeOf])

theorem State.mem_homeOf (s : State) (i : Nat) (f : Frame) (handle : Nat) : (s.homeOf i f handle).mem = s.mem := s.mem_setStay i _

theorem Quiet.homeOf (s : State) (i : Nat) (f : Frame) (handle : Nat) : Quiet s (s.homeOf i f handle) := Quiet.modStay i _

theorem exec_mirrorOpen (f : Frame) (s : State) : exec (.mirrorOpen f) s = execMirrorOpen f s := rfl

theorem completes_mirrorOpen_malformed {s : State} {f : Frame} (h : InnPeer s f) (hlen : f.payload.length ≠ 36) : Completes (.mirrorOpen f) s (fun t =>
    t.stays = s.stays ∧ Replied t f 0x31 (padTo 32 [6])) := by
  have hexec : exec (.mirrorOpen f) s = .next ((s.takeAgent f).mirrorAnswer f 6).retryAgents := by
    rw [exec_mirrorOpen, execMirrorOpen, h.serve, h.opened]
    simp only [hlen, ne_eq, not_false_eq_true, true_or, if_true]
  refine ⟨_, hexec, ?_, replied_after h.1 h.reaches (Quiet.takeAgent f).carries 0x31 [6] (Carries.refl _)⟩
  rw [stays_retryAgents, stays_mirrorAnswer, State.stays_takeAgent]

/-- A MIRROR entry is opened: taken, and its home noted. -/
def State.mirrorOpened (s : State) (f : Frame) (i : Nat) : State :=
  ((s.takeAgent f).entryTaken i 7 f.party f.srcRank ((cardOf (f.payload.take 32)).pages (cardOf (f.payload.take 32)).reserve) (f.payload.take 32)).homeOf i f
    (leAt f.payload 32 4)

section
variable {s : State} {f : Frame} {i : Nat}

theorem State.stay_mirrorOpened (s : State) (f : Frame) (i : Nat) : (s.mirrorOpened f i).stay i =
    { (s.takeAgent f).newEntry i 7 f.party f.srcRank (f.payload.take 32) with
        booked := (cardOf (f.payload.take 32)).pages (cardOf (f.payload.take 32)).reserve, twinValid := true, twinCoord := f.srcCoord,
        twinIndex := leAt f.payload 32 4 % 2 ^ 18 } := by
  rw [State.mirrorOpened, State.stay_homeOf, State.stay_entryTaken]

theorem State.handleOf_mirrorOpened (s : State) (f : Frame) (i : Nat) : (s.mirrorOpened f i).handleOf i = i + (s.stay i).gen * 2 ^ 18 := by
  rw [State.handleOf, State.stay_mirrorOpened, State.newEntry, State.stay_takeAgent]

theorem completes_mirrorOpen (h : InnPeer s f) (hlen : f.payload.length = 36) (hcard : cardValid (f.payload.take 32) none = true)
    (hfree : s.freeIndex = some i) (hbooked : (s.stay i).booked = 0) (hclean : s.poisoned (cardAt i / 64) = false)
    (hadmits : s.admits { freeStay with state := 7, priority := (cardOf (f.payload.take 32)).priority }
      ((cardOf (f.payload.take 32)).pages (cardOf (f.payload.take 32)).reserve) = true) : Completes (.mirrorOpen f) s (fun t =>
      (t.stay i).state = 7 ∧ (t.stay i).party = f.party ∧ (t.stay i).twinCoord = f.srcCoord ∧ (t.stay i).twinIndex = leAt f.payload 32 4 % 2 ^ 18 ∧
      t.peek (cardAt i) 32 = f.payload.take 32 ∧ Replied t f 0x31 (padTo 32 ([0, 0, 0, 0] ++ natLE 4 (i + (s.stay i).gen * 2 ^ 18)))) := by
  have hfree' : (s.takeAgent f).freeIndex = some i := (State.freeIndex_congr (s.stays_takeAgent f)).trans hfree
  have htaken := State.takeEntry_ok (s := s.takeAgent f) (state := 7) f.party f.srcRank hfree' (by rw [State.stay_takeAgent, hbooked])
    ((State.admits_congr rfl rfl (State.reg_takeAgent (by decide) f) (fld_takeAgent s f (by decide)) (fld_takeAgent s f (by decide)) _).trans hadmits)
  have hexec : exec (.mirrorOpen f) s = .next ((s.mirrorOpened f i).answer (.request f) 0x31 ([0, 0, 0, 0] ++
      natLE 4 (i + (s.stay i).gen * 2 ^ 18))).retryAgents := by
    rw [exec_mirrorOpen, execMirrorOpen, h.serve, h.opened]
    simp only [hlen, hcard, ne_eq, not_true_eq_false, Bool.not_true, Bool.false_eq_true, or_self, if_false]
    rw [htaken]
    dsimp only
    rw [← State.mirrorOpened, State.handleOf_mirrorOpened]
  have hquiet : Quiet s (s.mirrorOpened f i) := ((Quiet.takeAgent f).trans (Quiet.entryTaken _ _ _ _ _ _ _)).trans (Quiet.homeOf _ _ _ _)
  have hlen32 : (f.payload.take 32).length = 32 := by rw [List.length_take]; omega
  have hup := h.up (State.lt_of_freeIndex hfree)
  refine ⟨_, hexec, ?_, ?_, ?_, ?_, ?_, replied_after h.1 h.reaches hquiet.carries 0x31 _ (Carries.refl _)⟩
  · rw [State.stay_retryAgents, State.stay_answer, State.stay_mirrorOpened]
    rfl
  · rw [State.stay_retryAgents, State.stay_answer, State.stay_mirrorOpened]
    rfl
  · rw [State.stay_retryAgents, State.stay_answer, State.stay_mirrorOpened]
  · rw [State.stay_retryAgents, State.stay_answer, State.stay_mirrorOpened]
  · rw [State.peek_congr_mem (mem_retryAgents _), State.peek_congr_mem (mem_answer _ _ _ _), State.mirrorOpened,
      State.peek_congr_mem (State.mem_homeOf _ _ _ _)]
    exact State.card_entryTaken h.taken.pool.sound ((h.taken.stackLost _).trans hup) ((h.taken.poisoned _).trans hclean) _ _ _ _ hlen32

end

/-! ### MIRROR APPEND, CLOSE and ROOMCOPY (R230) -/

theorem exec_mirrorAppend (f : Frame) (s : State) : exec (.mirrorAppend f) s = s.innServe f (fun s => s.takeMirror 1 f) := rfl

theorem exec_mirrorFork (f : Frame) (s : State) : exec (.mirrorFork f) s = s.innServe f (fun s => s.takeMirror 2 f) := rfl

theorem exec_mirrorClose (f : Frame) (s : State) : exec (.mirrorClose f) s = s.innServe f (fun s => s.takeMirror 3 f) := rfl

theorem exec_mirrorRoomcopy (f : Frame) (s : State) : exec (.mirrorRoomcopy f) s = s.innServe f (fun s => s.takeMirror 4 f) := rfl

/-- An APPEND of no position that truncates nothing changes nothing. -/
theorem State.appendCore_empty {s : State} {i : Nat} {c : Card} {p : List Byte} (hok : c.appendOk p (s.stay i).tokens true = true)
    (hcount : (appendDocket p).count = 0) (htokens : (s.stay i).tokens ≤ (appendDocket p).start) : s.appendCore i c p true = .ok (0, s) := by
  rw [State.appendCore]
  dsimp only
  rw [hok, if_neg (by decide), if_pos hcount, if_pos htokens]

theorem completes_mirrorAppend {s : State} {f : Frame} {i : Nat} (h : Mirrors s f 1 i) (hblocked : s.blocked i = false)
    (hclean : s.poisoned (cardAt i / 64) = false) (hok : (s.card i).appendOk f.payload (s.stay i).tokens true = true)
    (hcount : (appendDocket f.payload).count = 0) (htokens : (s.stay i).tokens ≤ (appendDocket f.payload).start) : Completes (.mirrorAppend f) s (fun t =>
      t.stay i = s.stay i ∧ t.reg (ST_CNT 1) = s.reg (ST_CNT 1) + 1 ∧ Replied t f 0x31 (padTo 32 [0])) := by
  obtain ⟨hcard, -⟩ := h.card hclean
  have hup : Upkeep (s.takeAgent f) ((s.takeAgent f).readCard i).2 := Upkeep.readCard i
  have hstay : ((s.takeAgent f).readCard i).2.stay i = s.stay i := (State.stay_congr (stays_readCard _ i) i).trans (s.stay_takeAgent f i)
  have hmirrored : (s.takeAgent f).mirrored f = .done ((((s.takeAgent f).readCard i).2.count (ST_CNT 1)).mirrorAnswer f 0) := by
    rw [h.mirrored (fun hc => absurd hc (by decide)), if_pos rfl, State.replay, hcard]
    dsimp only
    rw [State.appendCore_empty (by rw [hstay, hok]) hcount (by rw [hstay]; exact htokens)]
  refine ⟨_, (exec_mirrorAppend f s).trans (h.done hblocked hmirrored), ?_, ?_, ?_⟩
  · rw [State.stay_retryAgents, mirrorAnswer_eq, State.stay_answer, State.stay_count, hstay]
  · rw [State.reg_retryAgents (offCore_stCnt (by decide)), mirrorAnswer_eq, State.answer, State.reg_agentSend (offCore_stCnt (by decide)),
      State.reg_count_same, hup.reg _ (not_innReg_stCnt (by decide)), State.reg_takeAgent (by decide)]
  · exact replied_after h.peer.1 h.peer.reaches (((Quiet.takeAgent f).trans hup.quiet).trans (Quiet.stCnt (by decide))).carries 0x31 [0] (Carries.refl _)

theorem completes_mirrorClose {s : State} {f : Frame} {i : Nat} (h : Mirrors s f 3 i) (hblocked : s.blocked i = false)
    (hclean : (s.readChart i).1.clean = true) : Completes (.mirrorClose f) s (fun t => t.stay i = { freeStay with gen := ((s.stay i).gen + 1) % 16384 } ∧
      Replied t f 0x31 (padTo 32 [0])) := by
  have hread : ((s.takeAgent f).readChart i).1.clean = true := by rw [(reads_readChart i).answer h.peer.taken, hclean]
  have hmirrored : (s.takeAgent f).mirrored f = .done ((((s.takeAgent f).closeChart i).2.freeEntry i).mirrorAnswer f 0) := by
    rw [h.mirrored (fun hc => absurd hc (by decide)), if_neg (by decide), if_neg (by decide), if_pos rfl, State.closeChart_clean hread]
    rfl
  refine ⟨_, (exec_mirrorClose f s).trans (h.done hblocked hmirrored), ?_, ?_⟩
  · rw [State.stay_retryAgents, mirrorAnswer_eq, State.stay_answer, State.stay_freeEntry, (Upkeep.closeChart i).gen, State.stay_takeAgent]
  · exact replied_after h.peer.1 h.peer.reaches (((Quiet.takeAgent f).trans (Upkeep.closeChart i).quiet).trans (Quiet.freeEntry i)).carries 0x31 [0]
      (Carries.refl _)

theorem State.stays_wait (s : State) (i : Nat) (a : Asker) (f : Frame) (mend : Option Nat) :
    (s.wait i a f mend).stays = { s.stays with waiting := s.stays.waiting ++ [⟨i, a, f, mend, none, none, false⟩] } := rfl

theorem completes_mirrorClose_waits {s : State} {f : Frame} {i : Nat} (h : Mirrors s f 3 i) (hblocked : s.blocked i = true) :
    Completes (.mirrorClose f) s (fun t => t.stay i = s.stay i ∧
      t.stays.waiting = s.stays.waiting ++ [⟨i, .request f, f, none, none, none, false⟩]) := by
  refine ⟨_, (exec_mirrorClose f s).trans (h.waits hblocked), ?_, ?_⟩
  · rw [State.stay_retryAgents]
    exact s.stay_takeAgent f i
  · rw [stays_retryAgents, State.stays_wait, State.stays_takeAgent]

/-- A piece of a copied page written where the page's room stands. -/
def State.pieceCopied (s : State) (f : Frame) (i r : Nat) : State :=
  ((((s.takeAgent f).readCard i).2.pageRoom i (bitsOf f.address 44 21)).2.readLedgers [r]).writePiece (r * 65536 + 4096 * bitsOf f.address 48 45) f.payload []

section
variable {s : State} {f : Frame} {i r : Nat} (h : Mirrors s f 4 i) (hblocked : s.blocked i = false) (hclean : s.poisoned (cardAt i / 64) = false)
  (hpoison : f.poison = []) (hlen : f.payload.length = 4096) (hroom : (s.pageRoom i (bitsOf f.address 44 21)).1 = some r) (hr : r ≠ 0)
  (hledger : s.ledgerOf r = (1, false))

theorem stays_pieceCopied (s : State) (f : Frame) (i r : Nat) : (s.pieceCopied f i r).stays = s.stays := by
  rw [State.pieceCopied, stays_writePiece, stays_readLedgers, stays_pageRoom, stays_readCard, State.stays_takeAgent]

theorem Quiet.pieceCopied (s : State) (f : Frame) (i r : Nat) : Quiet s (s.pieceCopied f i r) :=
  (Quiet.takeAgent f).trans ((((Upkeep.readCard i).trans (Upkeep.pageRoom i _)).trans (Upkeep.readLedgers [r])).trans (Upkeep.writePiece _ _ _)).quiet

include h hclean hlen hledger in
theorem peek_pieceCopied (hk : bitsOf f.address 48 45 < 16) : (s.pieceCopied f i r).peek (r * 65536 + 4096 * bitsOf f.address 48 45) 4096 = f.payload := by
  have hread := (h.card hclean).2
  have hreads := ((reads_pageRoom i (bitsOf f.address 44 21)).after hread).readLedgers [r]
  exact State.peek_writePiece hk ((hreads.stackLost _).trans (State.up_of_ledgerOf hledger)) hlen

include h hclean hpoison hlen hroom hr hledger

theorem mirrored_roomcopy : (s.takeAgent f).mirrored f = if bitsOf f.address 48 45 ≠ 15 then .done (s.pieceCopied f i r) else
    .done (((s.pieceCopied f i r).nextFree.modStay i (fun e => { e with tokens := max e.tokens (bitsOf f.address 44 21 / (s.card i).lk * (s.card i).tpr + 1 +
      (Config.freeWord (s.pieceCopied f i r).freeCtr).toNat % (s.card i).tpr) })).mirrorAnswer f 0) := by
  obtain ⟨hcard, hread⟩ := h.card hclean
  rw [h.mirrored (fun hc => absurd hc (by decide)), if_neg (by decide), if_neg (by decide), if_neg (by decide), State.replayCopy, hcard]
  simp only [hlen, ne_eq, not_true_eq_false, if_false]
  rw [stays_copyTarget_alone hread.pool.sound (((reads_pageRoom i _).answer hread).trans hroom) hr ((hread.ledgerOf r).trans hledger), hpoison]
  dsimp only
  rw [← State.pieceCopied]

include hblocked

theorem completes_mirrorRoomcopy (hk : bitsOf f.address 48 45 < 15) : Completes (.mirrorRoomcopy f) s (fun t =>
    t.peek (r * 65536 + 4096 * bitsOf f.address 48 45) 4096 = f.payload ∧ t.stays = s.stays) := by
  have hmirrored := mirrored_roomcopy h hclean hpoison hlen hroom hr hledger
  rw [if_pos (by omega)] at hmirrored
  refine ⟨_, (exec_mirrorRoomcopy f s).trans (h.done hblocked hmirrored), ?_, ?_⟩
  · rw [State.peek_congr_mem (mem_retryAgents _)]
    exact peek_pieceCopied h hclean hlen hledger (by omega)
  · rw [stays_retryAgents, stays_pieceCopied]

theorem completes_mirrorRoomcopy_last (hk : bitsOf f.address 48 45 = 15) : Completes (.mirrorRoomcopy f) s (fun t =>
    t.peek (r * 65536 + 4096 * 15) 4096 = f.payload ∧ (s.stay i).tokens ≤ (t.stay i).tokens ∧ Replied t f 0x31 (padTo 32 [0])) := by
  have hmirrored := mirrored_roomcopy h hclean hpoison hlen hroom hr hledger
  rw [if_neg (by omega)] at hmirrored
  have hstay : (s.pieceCopied f i r).nextFree.stay i = s.stay i := State.stay_congr (stays_pieceCopied s f i r) i
  refine ⟨_, (exec_mirrorRoomcopy f s).trans (h.done hblocked hmirrored), ?_, ?_, ?_⟩
  · rw [State.peek_congr_mem (mem_retryAgents _), mirrorAnswer_eq, State.peek_congr_mem (mem_answer _ _ _ _)]
    have hpeek := peek_pieceCopied h hclean hlen hledger (by omega)
    rwa [hk] at hpeek
  · rw [State.stay_retryAgents, mirrorAnswer_eq, State.stay_answer, State.stay_modStay_same, hstay]
    exact le_max_left _ _
  · refine replied_after h.peer.1 h.peer.reaches (.trans (Quiet.pieceCopied s f i r).carries ?_) 0x31 [0] (Carries.refl _)
    have hnext : Quiet (s.pieceCopied f i r) (s.pieceCopied f i r).nextFree := .of_sw rfl fun _ _ => rfl
    refine (hnext.trans ?_).carries
    exact Quiet.modStay i _

end

end Sys2Proof.Machine
end

section
/-! PROOF. O30, continued: MIRROR FORK at the twin, and what the home hears of its twin (R222, R230, R231). -/

-- Proofs are checked one at a time: side by side they would only wait for one another.
set_option Elab.async false

namespace Sys2Proof.Machine
open Sys2Proof

/-! ### A new stay that shares pages (R222) -/

theorem leAt_take {p : List Byte} {n off k : Nat} (h : off + k ≤ n) : leAt (p.take n) off k = leAt p off k := by
  rw [leAt, leAt, List.drop_take, List.take_take, Nat.min_eq_left (by omega)]

theorem Card.pages_zero (c : Card) : c.pages 0 = 0 := by
  have hceil : ∀ n, ceilDiv 0 n = 0 := by
    intro n
    rw [ceilDiv, Nat.zero_add]
    cases n with
    | zero => rfl
    | succ n => exact Nat.div_eq_of_lt (by omega)
  rw [Card.pages, hceil, Nat.zero_mul]

/-- The entry of a FORK, taken with the card that its docket makes of the source's. -/
def State.forkTaken (s : State) (src i state party rank : Nat) (p : List Byte) : State :=
  s.entryTaken i state party rank ((cardOf (forkCard (s.peek (cardAt src) 32) p)).pages (cardOf (forkCard (s.peek (cardAt src) 32) p)).reserve)
    (forkCard (s.peek (cardAt src) 32) p)

/-- A FORK whose pages are shared succeeds. -/
theorem State.forkCore_ok {s y : State} {src state party rank i : Nat} {p : List Byte} {own : Option Nat} (hreserved : forkReserved p = true)
    (htokens : leAt p 0 3 ≤ (s.stay src).tokens) (hcard : cardValid (forkCard (s.peek (cardAt src) 32) p) own = true) (hfree : s.freeIndex = some i)
    (hbooked : (s.stay i).booked = 0)
    (hadmits : s.admits { freeStay with state := state, priority := (cardOf (forkCard (s.peek (cardAt src) 32) p)).priority }
      ((cardOf (forkCard (s.peek (cardAt src) 32) p)).pages (cardOf (forkCard (s.peek (cardAt src) 32) p)).reserve) = true)
    (hshare : State.sharePages (List.range ((cardOf (forkCard (s.peek (cardAt src) 32) p)).pages (leAt p 0 3))) (s.forkTaken src i state party rank p) src i =
      (none, y)) :
    s.forkCore src state party rank p own = .ok (i, cardOf (forkCard (s.peek (cardAt src) 32) p), y.modStay i (fun e => { e with tokens := leAt p 0 3 })) := by
  rw [State.forkCore]
  simp only [hreserved, hcard, Nat.not_lt.2 htokens, Bool.not_true, Bool.false_eq_true, or_self, if_false]
  rw [State.takeEntry_ok party rank hfree hbooked hadmits]
  dsimp only
  rw [← State.forkTaken, hshare]

/-- A FORK of no position shares no page. -/
theorem State.forkCore_empty {s : State} {src state party rank i : Nat} {p : List Byte} {own : Option Nat} (hreserved : forkReserved p = true)
    (hcount : leAt p 0 3 = 0) (hcard : cardValid (forkCard (s.peek (cardAt src) 32) p) own = true) (hfree : s.freeIndex = some i)
    (hbooked : (s.stay i).booked = 0)
    (hadmits : s.admits { freeStay with state := state, priority := (cardOf (forkCard (s.peek (cardAt src) 32) p)).priority }
      ((cardOf (forkCard (s.peek (cardAt src) 32) p)).pages (cardOf (forkCard (s.peek (cardAt src) 32) p)).reserve) = true) :
    s.forkCore src state party rank p own = .ok (i, cardOf (forkCard (s.peek (cardAt src) 32) p),
      (s.forkTaken src i state party rank p).modStay i (fun e => { e with tokens := leAt p 0 3 })) :=
  State.forkCore_ok hreserved (by omega) hcard hfree hbooked hadmits (by rw [hcount, Card.pages_zero]; rfl)

/-- A read through the porter path moves no register below the pool's own. -/
theorem State.reg_porterRead (s : State) (a n : Nat) {o : Nat} (h : o < MEM_STATUS) : (s.porterRead a n).2.reg o = s.reg o := by
  rw [State.porterRead, State.reg_poolRead (offPool_of_lt h), State.reg_countBy_other]
  unfold MEM_STACK_CNT
  unfold MEM_STATUS at h
  omega

theorem State.admits_readCard (s : State) (i : Nat) (e : Stay) (k : Nat) : (s.readCard i).2.admits e k = s.admits e k := by
  have hreg : ∀ o < MEM_STATUS, (s.readCard i).2.reg o = s.reg o := fun o ho => s.reg_porterRead _ _ ho
  exact State.admits_congr rfl rfl (hreg _ (by decide)) (State.fld_eq_of_reg (f := ST_STATUS_FREE_ROOMS) (hreg _ (by decide)))
    (State.fld_eq_of_reg (f := ST_STATUS_BOOKED_TOTAL) (hreg _ (by decide))) k

/-! ### MIRROR FORK (R230) -/

/-- A MIRROR entry forked from another. -/
def State.mirrorForked (s : State) (f : Frame) (i j : Nat) : State :=
  ((((s.takeAgent f).readCard i).2.forkTaken i j 7 f.party f.srcRank (f.payload.take 32)).modStay j
    (fun e => { e with tokens := leAt (f.payload.take 32) 0 3 })).homeOf j f (leAt f.payload 36 4)

theorem State.stay_mirrorForked (s : State) (f : Frame) (i j : Nat) : ∃ card rooms, (s.mirrorForked f i j).stay j =
    { ((s.takeAgent f).readCard i).2.newEntry j 7 f.party f.srcRank card with
        booked := rooms, tokens := leAt (f.payload.take 32) 0 3, twinValid := true, twinCoord := f.srcCoord,
        twinIndex := leAt f.payload 36 4 % 2 ^ 18 } :=
  ⟨_, _, by rw [State.mirrorForked, State.stay_homeOf, State.stay_modStay_same, State.forkTaken, State.stay_entryTaken]⟩

theorem State.handleOf_mirrorForked (s : State) (f : Frame) (i j : Nat) : (s.mirrorForked f i j).handleOf j = j + (s.stay j).gen * 2 ^ 18 := by
  obtain ⟨card, rooms, hstay⟩ := s.stay_mirrorForked f i j
  rw [State.handleOf, hstay, State.newEntry, State.stay_congr (stays_readCard _ i), State.stay_takeAgent]

theorem completes_mirrorFork {s : State} {f : Frame} {i j : Nat} (h : Mirrors s f 2 i) (hlen : f.payload.length = 40) (hblocked : s.blocked i = false)
    (hclean : s.poisoned (cardAt i / 64) = false) (hreserved : forkReserved (f.payload.take 32) = true) (hcount : leAt f.payload 0 3 = 0)
    (hcard : cardValid (forkCard (s.peek (cardAt i) 32) (f.payload.take 32)) none = true) (hfree : s.freeIndex = some j) (hbooked : (s.stay j).booked = 0)
    (hadmits : s.admits { freeStay with state := 7, priority := (cardOf (forkCard (s.peek (cardAt i) 32) (f.payload.take 32))).priority }
      ((cardOf (forkCard (s.peek (cardAt i) 32) (f.payload.take 32))).pages (cardOf (forkCard (s.peek (cardAt i) 32) (f.payload.take 32))).reserve) = true) :
    Completes (.mirrorFork f) s (fun t => (t.stay j).state = 7 ∧ (t.stay j).twinCoord = f.srcCoord ∧ (t.stay j).twinIndex = leAt f.payload 36 4 % 2 ^ 18 ∧
      Replied t f 0x31 (padTo 32 ([0, 0, 0, 0] ++ natLE 4 (j + (s.stay j).gen * 2 ^ 18)))) := by
  obtain ⟨hread, hreads⟩ := h.card hclean
  have hup : Upkeep (s.takeAgent f) ((s.takeAgent f).readCard i).2 := Upkeep.readCard i
  have hstays : ((s.takeAgent f).readCard i).2.stays = s.stays := (stays_readCard _ i).trans (s.stays_takeAgent f)
  have hadmits' : ∀ e k, ((s.takeAgent f).readCard i).2.admits e k = s.admits e k := fun e k =>
    (State.admits_readCard _ i e k).trans (State.admits_congr rfl rfl (State.reg_takeAgent (by decide) f) (fld_takeAgent s f (by decide))
      (fld_takeAgent s f (by decide)) k)
  have hfork := State.forkCore_empty (s := ((s.takeAgent f).readCard i).2) (src := i) (state := 7) (party := f.party) (rank := f.srcRank) (i := j)
    (own := none) hreserved ((leAt_take (by decide)).trans hcount) (by rw [hreads.peek, hcard]) ((State.freeIndex_congr hstays).trans hfree)
    (by rw [State.stay_congr hstays, hbooked]) (by rw [hreads.peek, hadmits', hadmits])
  have hmirrored : (s.takeAgent f).mirrored f = .done ((s.mirrorForked f i j).answer (.request f) 0x31 ([0, 0, 0, 0] ++
      natLE 4 (j + (s.stay j).gen * 2 ^ 18))) := by
    rw [h.mirrored (fun _ => hlen), if_neg (by decide), if_pos rfl, State.replayFork, hread]
    dsimp only
    rw [hfork]
    dsimp only
    rw [← State.mirrorForked, State.handleOf_mirrorForked]
  have hquiet : Quiet s (s.mirrorForked f i j) := ((((Quiet.takeAgent f).trans hup.quiet).trans (Quiet.entryTaken _ _ _ _ _ _ _)).trans
    (Quiet.modStay j _)).trans (Quiet.homeOf _ _ _ _)
  obtain ⟨card, rooms, hstay⟩ := s.stay_mirrorForked f i j
  refine ⟨_, (exec_mirrorFork f s).trans (h.done hblocked hmirrored), ?_, ?_, ?_, replied_after h.peer.1 h.peer.reaches hquiet.carries 0x31 _ (Carries.refl _)⟩
  · rw [State.stay_retryAgents, State.stay_answer, hstay]
    rfl
  · rw [State.stay_retryAgents, State.stay_answer, hstay]
  · rw [State.stay_retryAgents, State.stay_answer, hstay]

/-! ### MIRROR_ACK (R230, R231) -/

/-- A mirrored operation is off the list. -/
def State.mirrorGone (s : State) (m : Mirroring) : State := s.modStays (fun u => { u with mirrors := u.mirrors.filter (fun x => x != m) })

theorem State.mirrors_mirrorGone (s : State) (m : Mirroring) : m ∉ (s.mirrorGone m).stays.mirrors := by
  intro h
  have h2 := (List.mem_filter.1 h).2
  simp at h2

theorem State.stay_mirrorGone (s : State) (m : Mirroring) (i : Nat) : (s.mirrorGone m).stay i = s.stay i := s.stay_modStays _ (fun _ => rfl) i

theorem State.table_mirrorGone (s : State) (m : Mirroring) : (s.mirrorGone m).stays.table = s.stays.table := rfl

theorem Quiet.mirrorGone (s : State) (m : Mirroring) : Quiet s (s.mirrorGone m) := Quiet.modStays _

theorem exec_mirrorAck (f : Frame) (s : State) : exec (.mirrorAck f) s = execMirrorAck f s := rfl

theorem exec_mirrorAck_found {s : State} {f : Frame} {m : Mirroring} (htrust : s.trusted f = true) (hphase : s.phase ≠ 6)
    (hm : s.stays.mirrors.find? (fun m => m.tag == f.tag && m.twin == f.srcCoord) = some m) : exec (.mirrorAck f) s =
    .next ((s.takeAgent f).mirrorEnds m (byteAt f.payload 0) (leAt f.payload 4 4)).retryAgents := by
  rw [exec_mirrorAck, execMirrorAck, innServe_trusted hphase htrust]
  simp only [State.stays_takeAgent, hm]

/-- An APPENDED reply, mirrored or not. -/
theorem State.mirrorReply_append {s : State} {m : Mirroring} {docket : List Byte} (hm : m.reply = some (0x29, docket)) (good : Bool) :
    s.mirrorReply m good = s.answer m.asker 0x29 (if good then docket else spliceBytes docket 3 [BitVec.ofNat 8 (byteAt docket 3 + 1)]) := by
  rw [State.mirrorReply, hm]
  rfl

theorem State.mirrorEnds_append {s : State} {m : Mirroring} {docket : List Byte} (hop : m.op = 1) (hm : m.reply = some (0x29, docket)) (handle : Nat) :
    s.mirrorEnds m 0 handle = (s.mirrorGone m).answer m.asker 0x29 docket := by
  rw [State.mirrorEnds]
  dsimp only
  rw [if_pos hop, if_pos rfl, State.mirrorReply_append hm]
  rfl

theorem completes_mirrorAck_append {s : State} {f g : Frame} {m : Mirroring} {docket : List Byte} (hc : Calm s) (hg : Answerable s g)
    (htrust : s.trusted f = true) (hphase : s.phase ≠ 6) (hm : s.stays.mirrors.find? (fun m => m.tag == f.tag && m.twin == f.srcCoord) = some m)
    (hok : byteAt f.payload 0 = 0) (hop : m.op = 1) (hasker : m.asker = .request g) (hreply : m.reply = some (0x29, docket)) :
    Completes (.mirrorAck f) s (fun t => m ∉ t.stays.mirrors ∧ t.stays.table = s.stays.table ∧ Replied t g 0x29 (padTo 32 docket)) := by
  have hexec := exec_mirrorAck_found htrust hphase hm
  rw [hok, State.mirrorEnds_append hop hreply, hasker] at hexec
  refine ⟨_, hexec, ?_, ?_, replied_after hc hg.reaches ((Quiet.takeAgent f).trans (Quiet.mirrorGone _ m)).carries 0x29 docket (Carries.refl _)⟩
  · rw [stays_retryAgents, stays_answer]
    exact State.mirrors_mirrorGone _ m
  · rw [stays_retryAgents, stays_answer, State.table_mirrorGone, State.stays_takeAgent]

/-- A stay whose twin is open. -/
def State.twinned (s : State) (m : Mirroring) (handle : Nat) : State :=
  (s.mirrorGone m).modStay m.index (fun e => { e with twinValid := true, twinCoord := m.twin, twinIndex := handle % 2 ^ 18 })

theorem State.stay_twinned (s : State) (m : Mirroring) (handle : Nat) : (s.twinned m handle).stay m.index =
    { s.stay m.index with twinValid := true, twinCoord := m.twin, twinIndex := handle % 2 ^ 18 } := by
  rw [State.twinned, State.stay_modStay_same, State.stay_mirrorGone]

theorem State.reg_twinned (s : State) (m : Mirroring) (handle : Nat) {o : Nat} (h : o ≠ ST_STATUS ∧ o ≠ ST_USE) :
    (s.twinned m handle).reg o = s.reg o := State.reg_modStay _ _ _ h

theorem State.mirrors_setStay (s : State) (i : Nat) (e : Stay) : (s.setStay i e).stays.mirrors = s.stays.mirrors := by rw [State.stays_setStay]

theorem State.stays_count (s : State) (o : Nat) : (s.count o).stays = s.stays := rfl

theorem State.mirrors_twinned (s : State) (m : Mirroring) (handle : Nat) : m ∉ (s.twinned m handle).stays.mirrors := by
  rw [State.twinned, State.modStay, State.mirrors_setStay]
  exact State.mirrors_mirrorGone s m

theorem Quiet.twinned (s : State) (m : Mirroring) (handle : Nat) : Quiet s (s.twinned m handle) := (Quiet.mirrorGone s m).trans (Quiet.modStay _ _)

theorem leAt_natLE {n v : Nat} (h : v < 256 ^ n) : leAt (natLE n v) 0 n = v := by
  have hlen : (natLE n v).length ≤ n := (length_natLE n v).le
  rw [leAt, List.drop_zero, List.take_of_length_le hlen, leNat_natLE, Nat.mod_eq_of_lt h]

/-- An OPENED reply of a stay that its twin has taken. -/
theorem State.mirrorReply_opened {s : State} {m : Mirroring} {docket : List Byte} (hm : m.reply = some (0x28, docket)) :
    s.mirrorReply m true = s.granted m.index m.asker 0x28 (leAt docket 0 4) (s.stay m.index).twinValid := by
  rw [State.mirrorReply, hm]
  rfl

theorem State.mirrorEnds_opened {s : State} {m : Mirroring} {handle : Nat} (hop : m.op = 0) (hreply : m.reply = some (0x28, [])) (hcopy : m.copy = none)
    (hhandle : handle < 256 ^ 4) : s.mirrorEnds m 0 handle =
      ((s.twinned m handle).count (ST_CNT 0)).answer m.asker 0x28 (openedDocket (s.handleOf m.index) handle true) := by
  have htwin : ((s.twinned m handle).stay m.index).twinValid = true := by rw [State.stay_twinned]
  have hnum : (s.twinned m handle).handleOf m.index = s.handleOf m.index := by
    rw [State.handleOf, State.stay_twinned, State.handleOf]
  rw [State.mirrorEnds]
  dsimp only
  rw [if_neg (by omega), if_neg (by decide), if_neg (by omega), hcopy]
  dsimp only
  rw [← State.mirrorGone, ← State.twinned, State.mirrorReply_opened (docket := natLE 4 handle) (by rw [hreply]; rfl), leAt_natLE hhandle]
  dsimp only
  rw [htwin, State.granted, hnum]

theorem completes_mirrorAck_opened {s : State} {f g : Frame} {m : Mirroring} (hc : Calm s) (hg : Answerable s g)
    (htrust : s.trusted f = true) (hphase : s.phase ≠ 6) (hm : s.stays.mirrors.find? (fun m => m.tag == f.tag && m.twin == f.srcCoord) = some m)
    (hok : byteAt f.payload 0 = 0) (hop : m.op = 0) (hasker : m.asker = .request g) (hreply : m.reply = some (0x28, [])) (hcopy : m.copy = none) :
    Completes (.mirrorAck f) s (fun t => (t.stay m.index).twinValid = true ∧ (t.stay m.index).twinCoord = f.srcCoord ∧
      (t.stay m.index).twinIndex = leAt f.payload 4 4 % 2 ^ 18 ∧ t.reg (ST_CNT 0) = s.reg (ST_CNT 0) + 1 ∧ m ∉ t.stays.mirrors ∧
      Replied t g 0x28 (padTo 32 (openedDocket (s.handleOf m.index) (leAt f.payload 4 4) true))) := by
  have htwin : m.twin = f.srcCoord := by
    have h := List.find?_some hm
    simp only [Bool.and_eq_true, beq_iff_eq] at h
    exact h.2
  have hexec := exec_mirrorAck_found htrust hphase hm
  rw [hok, State.mirrorEnds_opened hop hreply hcopy (leAt_lt _ 4 4), hasker, State.handleOf_congr (congrArg Stay.gen (s.stay_takeAgent f m.index))] at hexec
  have hquiet : Quiet s (((s.takeAgent f).twinned m (leAt f.payload 4 4)).count (ST_CNT 0)) :=
    ((Quiet.takeAgent f).trans (Quiet.twinned _ _ _)).trans (Quiet.stCnt (by decide))
  refine ⟨_, hexec, ?_, ?_, ?_, ?_, ?_, replied_after hc hg.reaches hquiet.carries 0x28 _ (Carries.refl _)⟩
  · rw [State.stay_retryAgents, State.stay_answer, State.stay_count, State.stay_twinned]
  · rw [State.stay_retryAgents, State.stay_answer, State.stay_count, State.stay_twinned]
    exact htwin
  · rw [State.stay_retryAgents, State.stay_answer, State.stay_count, State.stay_twinned]
  · rw [State.reg_retryAgents (offCore_stCnt (by decide)), State.answer, State.reg_agentSend (offCore_stCnt (by decide)), State.reg_count_same,
      State.reg_twinned _ _ _ (by decide), State.reg_takeAgent (offCore_stCnt (by decide)).1]
  · rw [stays_retryAgents, stays_answer, State.stays_count]
    exact State.mirrors_twinned _ m _

end Sys2Proof.Machine
end

section
/-! PROOF. O30, continued: a twin given up (R231). -/

-- Proofs are checked one at a time: side by side they would only wait for one another.
set_option Elab.async false

namespace Sys2Proof.Machine
open Sys2Proof

theorem Quiet.fault_minor {s : State} {source kind : Nat} (h : s.severity source kind < 4) (address : Nat) : Quiet s (s.fault source kind address) :=
  .of_regs (within_fault_minor h address) (by decide) fun o ho => State.reg_fault_minor h address (by
    unfold RouteReg DV_COORD at ho
    unfold WATCH_FIRST WATCH_CTRL
    omega)

/-! ### MIRROR CLOSE sent to a twin (R231) -/

/-- The next tag of a mirrored operation is taken. -/
def State.tagTaken (s : State) : State := s.modStays (fun u => { u with mirrorSeq := u.mirrorSeq + 1 })

theorem Quiet.tagTaken (s : State) : Quiet s s.tagTaken := Quiet.modStays _

theorem State.stay_tagTaken (s : State) (i : Nat) : s.tagTaken.stay i = s.stay i := s.stay_modStays _ (fun _ => rfl) i

theorem State.mirrorClose_eq (s : State) (i : Nat) : s.mirrorClose i = s.tagTaken.toInn (s.stay i).twinCoord 0x30 (s.stay i).party (s.stay i).ownerRank
    ((s.stay i).twinIndex + 3 * 2 ^ 18) (s.stays.mirrorSeq % 16384) [] := rfl

theorem Keeps.mirrorClose {s : State} (i : Nat) : Keeps s (s.mirrorClose i) := by
  rw [State.mirrorClose_eq]
  exact (Quiet.tagTaken s).keeps.trans (Keeps.toInn _ _ _ _ _ _ _)

theorem State.reg_mirrorClose (s : State) (i : Nat) {o : Nat} (h : OffCore o) : (s.mirrorClose i).reg o = s.reg o := by
  rw [State.mirrorClose_eq, State.toInn, State.reg_agentSend h]
  rfl

theorem State.stay_mirrorClose (s : State) (i j : Nat) : (s.mirrorClose i).stay j = s.stay j := by
  rw [State.mirrorClose_eq, State.stay_toInn, State.stay_tagTaken]

theorem State.mirrors_mirrorClose (s : State) (i : Nat) : (s.mirrorClose i).stays.mirrors = s.stays.mirrors := by
  rw [State.mirrorClose_eq, stays_toInn]
  rfl

/-- A stay whose twin is given up, before the watch is told. -/
def State.twinCast (s : State) (i : Nat) : State := ((s.mirrorClose i).modStay i (fun e => { e with twinValid := false })).count (ST_CNT 9)

theorem Keeps.twinCast (s : State) (i : Nat) : Keeps s (s.twinCast i) :=
  (Keeps.mirrorClose i).trans ((Quiet.modStay i _).trans (Quiet.stCnt (by decide))).keeps

theorem State.reg_twinCast (s : State) (i : Nat) {o : Nat} (h : OffCore o) (hinn : o ≠ ST_STATUS ∧ o ≠ ST_USE) (hcnt : o ≠ ST_CNT 9) :
    (s.twinCast i).reg o = s.reg o := by
  rw [State.twinCast, State.reg_count_other _ hcnt, State.reg_modStay _ _ _ hinn, State.reg_mirrorClose _ _ h]

theorem State.cnt_twinCast (s : State) (i : Nat) : (s.twinCast i).reg (ST_CNT 9) = s.reg (ST_CNT 9) + 1 := by
  rw [State.twinCast, State.reg_count_same, State.reg_modStay _ _ _ (by decide), State.reg_mirrorClose _ _ (offCore_stCnt (by decide))]

theorem State.stay_twinCast (s : State) (i : Nat) : (s.twinCast i).stay i = { s.stay i with twinValid := false } := by
  rw [State.twinCast, State.stay_count, State.stay_modStay_same, State.stay_mirrorClose]

theorem State.mirrors_twinCast (s : State) (i : Nat) : (s.twinCast i).stays.mirrors = s.stays.mirrors := by
  rw [State.twinCast, State.stays_count, State.modStay, State.mirrors_setStay, State.mirrors_mirrorClose]

theorem within_twinCast (s : State) (i : Nat) : Within [.regs, .sw, .stays] s (s.twinCast i) :=
  within_count.andThen (by decide) (within_modStay.andThen (by decide) within_mirrorClose)

theorem State.twinLost_eq {s : State} {i : Nat} (h : (s.stay i).twinValid = true) : s.twinLost i = (s.twinCast i).fault 0x080 0x18 i := by
  rw [State.twinLost, if_pos h, ← State.twinCast]

/-! ### A mirrored APPEND that fails (R231) -/

/-- The docket of an APPENDED whose twin did not follow. -/
def strayDocket (docket : List Byte) : List Byte := spliceBytes docket 3 [BitVec.ofNat 8 (byteAt docket 3 + 1)]

theorem State.mirrorEnds_lost {s : State} {m : Mirroring} {docket : List Byte} {status : Nat} (hstatus : status ≠ 0) (hop : m.op = 1)
    (hreply : m.reply = some (0x29, docket)) (hvalid : (s.stay m.index).twinValid = true) (htwin : (s.stay m.index).twinCoord = m.twin) (handle : Nat) :
    s.mirrorEnds m status handle = (((s.mirrorGone m).twinCast m.index).fault 0x080 0x18 m.index).answer m.asker 0x29 (strayDocket docket) := by
  have hvalid' : ((s.mirrorGone m).stay m.index).twinValid = true := by rwa [State.stay_mirrorGone]
  have htwin' : ((s.mirrorGone m).stay m.index).twinCoord = m.twin := by rwa [State.stay_mirrorGone]
  rw [State.mirrorEnds]
  dsimp only
  rw [if_pos hop, if_neg hstatus, ← State.mirrorGone, if_pos ⟨hvalid', htwin'⟩, State.mirrorReply_append hreply, State.twinLost_eq hvalid', strayDocket]
  rfl

section
variable {s u : State} {g : Frame} {m : Mirroring} {docket : List Byte} (hsev : u.severity 0x080 0x18 < 4)
include hsev

omit hsev in
theorem severity_twinCast : ((u.mirrorGone m).twinCast m.index).severity 0x080 0x18 = u.severity 0x080 0x18 :=
  State.severity_congr (State.reg_twinCast _ _ (offCore_of_lt (by decide)) (by decide) (by decide)) 0x18

theorem State.reg_lost {o : Nat} (ho : o < WATCH_CTRL + 8 ∨ WATCH_FIRST 16 ≤ o) :
    (((u.mirrorGone m).twinCast m.index).fault 0x080 0x18 m.index).reg o = ((u.mirrorGone m).twinCast m.index).reg o :=
  State.reg_fault_minor (by rwa [severity_twinCast]) _ ho

theorem State.stays_lost : (((u.mirrorGone m).twinCast m.index).fault 0x080 0x18 m.index).stays = ((u.mirrorGone m).twinCast m.index).stays :=
  (within_fault_minor (by rwa [severity_twinCast]) _).same .stays (by decide)

/-- What a twin given up leaves: its stay has none, the count and the watch know of it, and the asker is told that the twin did not follow. -/
theorem lost_effect (hc : Calm s) (hg : Answerable s g) (hu : Quiet s u) :
    m ∉ ((((u.mirrorGone m).twinCast m.index).fault 0x080 0x18 m.index).answer (.request g) 0x29 (strayDocket docket)).retryAgents.stays.mirrors ∧
    (((((u.mirrorGone m).twinCast m.index).fault 0x080 0x18 m.index).answer (.request g) 0x29 (strayDocket docket)).retryAgents.stay m.index).twinValid = false ∧
    ((((u.mirrorGone m).twinCast m.index).fault 0x080 0x18 m.index).answer (.request g) 0x29 (strayDocket docket)).retryAgents.reg (ST_CNT 9) =
      u.reg (ST_CNT 9) + 1 ∧
    Replied ((((u.mirrorGone m).twinCast m.index).fault 0x080 0x18 m.index).answer (.request g) 0x29 (strayDocket docket)).retryAgents g 0x29
      (padTo 32 (strayDocket docket)) := by
  have hkeeps : Carries s (((u.mirrorGone m).twinCast m.index).fault 0x080 0x18 m.index) :=
    ((hu.trans (Quiet.mirrorGone u m)).keeps.trans ((Keeps.twinCast _ m.index).trans
      (Quiet.fault_minor (by rwa [severity_twinCast]) m.index).keeps)).carries
  refine ⟨?_, ?_, ?_, replied_after hc hg.reaches hkeeps 0x29 _ (Carries.refl _)⟩
  · rw [stays_retryAgents, stays_answer, State.stays_lost hsev, State.mirrors_twinCast]
    exact State.mirrors_mirrorGone u m
  · rw [State.stay_retryAgents, State.stay_answer, State.stay_congr (State.stays_lost hsev), State.stay_twinCast]
  · rw [State.reg_retryAgents (offCore_stCnt (by decide)), State.answer, State.reg_agentSend (offCore_stCnt (by decide)), State.reg_lost hsev (by decide),
      State.cnt_twinCast]
    rfl

end

theorem completes_mirrorAck_lost {s : State} {f g : Frame} {m : Mirroring} {docket : List Byte} (hc : Calm s) (hg : Answerable s g)
    (htrust : s.trusted f = true) (hphase : s.phase ≠ 6) (hm : s.stays.mirrors.find? (fun m => m.tag == f.tag && m.twin == f.srcCoord) = some m)
    (hbad : byteAt f.payload 0 ≠ 0) (hop : m.op = 1) (hasker : m.asker = .request g) (hreply : m.reply = some (0x29, docket))
    (hvalid : (s.stay m.index).twinValid = true) (htwin : (s.stay m.index).twinCoord = m.twin) (hsev : s.severity 0x080 0x18 < 4) :
    Completes (.mirrorAck f) s (fun t => (t.stay m.index).twinValid = false ∧ t.reg (ST_CNT 9) = s.reg (ST_CNT 9) + 1 ∧ Told s t 0x080 0x18 m.index ∧
      Replied t g 0x29 (padTo 32 (spliceBytes docket 3 [BitVec.ofNat 8 (byteAt docket 3 + 1)]))) := by
  have hsev' : (s.takeAgent f).severity 0x080 0x18 < 4 := by rwa [severity_takeAgent _ _ _ _ (by decide)]
  have hexec := exec_mirrorAck_found htrust hphase hm
  rw [State.mirrorEnds_lost hbad hop hreply (by rwa [State.stay_takeAgent]) (by rwa [State.stay_takeAgent]), hasker] at hexec
  obtain ⟨-, hoff, hcnt, hreplied⟩ := lost_effect (docket := docket) (m := m) hsev' hc hg (Quiet.takeAgent f)
  refine ⟨_, hexec, hoff, ?_, ?_, hreplied⟩
  · rw [hcnt, State.reg_takeAgent (offCore_stCnt (by decide)).1]
  · have hcast := within_twinCast ((s.takeAgent f).mirrorGone m) m.index
    refine Told.congr_watch (Told.of_fault (u := ((s.takeAgent f).mirrorGone m).twinCast m.index) ?_ ?_ ?_ rfl)
      ((within_retryAgents.same .watch (by decide)).trans (within_answer.same .watch (by decide)))
    · exact (hcast.same .watch (by decide)).trans (within_takeAgent.same .watch (by decide))
    · exact (hcast.same .bell (by decide)).trans (within_takeAgent.same .bell (by decide))
    · rw [severity_twinCast, severity_takeAgent _ _ _ _ (by decide)]

/-! ### MIRROR_WAIT_EXPIRY (R231) -/

theorem exec_mirrorWaitExpiry (i : Nat) (s : State) : exec (.mirrorWaitExpiry i) s = execMirrorWaitExpiry i s := rfl

theorem completes_mirrorWaitExpiry {s : State} {g : Frame} {i : Nat} {m : Mirroring} {docket : List Byte} (hc : Calm s) (hg : Answerable s g)
    (hm : s.stays.mirrors.find? (fun m => m.index == i) = some m) (hlate : m.at_ + s.usOf ST_CTRL_MIRROR_WAIT ≤ s.free) (hphase : s.phase ≠ 6) (hop : m.op = 1)
    (hasker : m.asker = .request g) (hreply : m.reply = some (0x29, docket)) (hvalid : (s.stay i).twinValid = true) (htwin : (s.stay i).twinCoord = m.twin)
    (hsev : s.severity 0x080 0x18 < 4) : Completes (.mirrorWaitExpiry i) s (fun t =>
      m ∉ t.stays.mirrors ∧ (t.stay i).twinValid = false ∧ t.reg (ST_CNT 9) = s.reg (ST_CNT 9) + 1 ∧
      Replied t g 0x29 (padTo 32 (spliceBytes docket 3 [BitVec.ofNat 8 (byteAt docket 3 + 1)]))) := by
  obtain rfl : m.index = i := by simpa using List.find?_some hm
  have hexec : exec (.mirrorWaitExpiry m.index) s = .next (s.mirrorEnds m 8 0).retryAgents := by
    rw [exec_mirrorWaitExpiry, execMirrorWaitExpiry, hm]
    dsimp only
    rw [if_pos ⟨hlate, hphase⟩]
  rw [State.mirrorEnds_lost (by decide) hop hreply hvalid htwin, hasker] at hexec
  exact ⟨_, hexec, lost_effect hsev hc hg (Quiet.refl s)⟩

theorem completes_mirrorWaitExpiry_early {s : State} {i : Nat} {m : Mirroring} (hm : s.stays.mirrors.find? (fun m => m.index == i) = some m)
    (h : s.free < m.at_ + s.usOf ST_CTRL_MIRROR_WAIT ∨ s.phase = 6) : Completes (.mirrorWaitExpiry i) s (fun t => t = s) := by
  refine ⟨s, ?_, rfl⟩
  rw [exec_mirrorWaitExpiry, execMirrorWaitExpiry, hm]
  dsimp only
  rw [if_neg (by omega)]

end Sys2Proof.Machine
end

section
/-! PROOF. O30: the takeover, a new twin, and the statement (R231, R232). -/

-- Proofs are checked one at a time: side by side they would only wait for one another.
set_option Elab.async false

namespace Sys2Proof.Machine
open Sys2Proof

/-! ### References dropped leave the table (R204) -/

theorem State.table_dropRef (s : State) (r : Nat) : (s.dropRef r).stays.table = s.stays.table := by
  have hledger : ∀ (x : State) (refs : Nat) (p : Bool), (x.setLedger r refs p).stays = x.stays := fun x refs p =>
    within_setLedger.same .stays (by decide)
  have hvacate : ∀ x : State, (x.vacate r).stays.table = x.stays.table := by
    intro x
    have hfree : ∀ y : State, (y.freeRoomsBy 1).stays = y.stays := fun y => by
      rw [State.freeRoomsBy]
      split <;> rfl
    have hwrite : ∀ bs : List Byte, (x.poolWrite (r * 65536) bs).stays = x.stays := fun bs => within_poolWrite.same .stays (by decide)
    rw [State.vacate]
    split_ifs
    · rfl
    · rfl
    · rw [State.pushVacant, hfree]
      show (x.poolWrite (r * 65536) _).stays.table = _
      rw [hwrite]
  rw [State.dropRef]
  split_ifs
  · rfl
  · rw [hvacate, hledger]
  · rw [hledger]

theorem State.stay_dropArriving (s : State) (i j : Nat) : (s.dropArriving i).stay j = s.stay j := by
  have hfold : ∀ (l : List Arriving) (x : State), (l.foldl (fun s a => s.dropRef a.room) x).stay j = x.stay j := by
    intro l
    induction l with
    | nil => exact fun _ => rfl
    | cons a l ih => exact fun x => (ih _).trans (congrArg (sparseGet freeStay · j) (x.table_dropRef a.room))
  rw [State.dropArriving, hfold]
  exact s.stay_modStays _ (fun _ => rfl) j

/-! ### One stay is taken over (R232) -/

/-- A MIRROR entry that has become a home. -/
def Stay.homed (e : Stay) : Stay := { e with state := 1, twinValid := false, oldHome := some e.twinCoord }

theorem Stay.homed_homed (e : Stay) : e.homed.homed = e.homed := rfl

/-- A stay taken over, its waiting copies answered and its page on the way dropped. -/
def State.unhomed (s : State) (i : Nat) : State :=
  ((s.stays.waiting.filter (fun w => w.index == i && w.frame.kind == 0x30)).foldl (fun s w => s.mirrorAnswer w.frame 0x0B)
    (s.modStays (fun u => { u with waiting := u.waiting.filter (fun w => !(w.index == i && w.frame.kind == 0x30)) }))).dropArriving i

theorem State.stay_unhomed (s : State) (i j : Nat) : (s.unhomed i).stay j = s.stay j := by
  have hfold : ∀ (l : List Waiting) (x : State), (l.foldl (fun s w => s.mirrorAnswer w.frame 0x0B) x).stay j = x.stay j := by
    intro l
    induction l with
    | nil => exact fun _ => rfl
    | cons w l ih => exact fun x => (ih _).trans (State.stay_congr (stays_mirrorAnswer x w.frame 0x0B) j)
  rw [State.unhomed, State.stay_dropArriving, hfold]
  exact s.stay_modStays _ (fun _ => rfl) j

theorem State.reg_unhomed (s : State) (i : Nat) {o : Nat} (h : OffCore o) (hinn : ¬InnReg o) : (s.unhomed i).reg o = s.reg o := by
  rw [State.unhomed, (Upkeep.dropArriving _ i).reg _ hinn]
  exact State.reg_foldl (fun x w _ => by rw [mirrorAnswer_eq, State.answer, State.reg_agentSend h]) _

theorem State.takeOver_keep {s : State} (h : s.flag ST_TAKEOVER_DISCARD = false) (i : Nat) : s.takeOver i = (s.unhomed i).modStay i Stay.homed := by
  have hflag : (s.unhomed i).flag ST_TAKEOVER_DISCARD = false := by
    rw [State.flag_eq_of_reg (s.reg_unhomed i (offCore_between (by decide) (by decide)) (by unfold InnReg; decide)), h]
  rw [State.takeOver]
  dsimp only
  rw [← State.unhomed, hflag]
  rfl

theorem State.reg_takeOver {s : State} (hkeep : s.flag ST_TAKEOVER_DISCARD = false) (i : Nat) {o : Nat} (h : OffCore o) (hinn : ¬InnReg o)
    (hst : o ≠ ST_STATUS ∧ o ≠ ST_USE) : (s.takeOver i).reg o = s.reg o := by
  rw [State.takeOver_keep hkeep, State.reg_modStay _ _ _ hst, State.reg_unhomed _ _ h hinn]

theorem State.stay_takeOver {s : State} (hkeep : s.flag ST_TAKEOVER_DISCARD = false) (i j : Nat) :
    (s.takeOver i).stay j = if j = i then (s.stay j).homed else s.stay j := by
  rw [State.takeOver_keep hkeep]
  split
  case isTrue h => rw [h, State.stay_modStay_same, State.stay_unhomed]
  case isFalse h => rw [State.modStay, State.stay_setStay_other _ _ h, State.stay_unhomed]

/-- Stays taken over one after another: each hit becomes a home, once or more. -/
theorem State.stay_takeOvers (hits : List Nat) {s : State} (hkeep : s.flag ST_TAKEOVER_DISCARD = false) (j : Nat) :
    (hits.foldl State.takeOver s).stay j = if j ∈ hits then (s.stay j).homed else s.stay j := by
  induction hits generalizing s with
  | nil => rfl
  | cons i l ih =>
    have hkeep' : (s.takeOver i).flag ST_TAKEOVER_DISCARD = false := by
      rw [State.flag_eq_of_reg (State.reg_takeOver hkeep i (offCore_between (by decide) (by decide)) (by unfold InnReg; decide) (by decide)), hkeep]
    rw [List.foldl_cons, ih hkeep', State.stay_takeOver hkeep]
    by_cases hi : j = i
    · simp [hi, Stay.homed_homed]
    · simp [hi]

/-! ### TAKEOVER_GO and TAKEOVER_DONE (R232) -/

theorem exec_takeoverGo (value : Nat) (s : State) : exec (.takeoverGo value) s = execTakeoverGo value s := rfl

theorem exec_takeoverDone (s : State) : exec .takeoverDone s = execTakeoverDone s := rfl

/-- The row of ST_TAKEOVER (R232). -/
def takeoverRow : RegRow := ⟨ST_TAKEOVER, 8, 1, 1, [⟨63, 63, .wo, 0, []⟩, ⟨62, 62, .rw, 0, []⟩, ⟨61, 61, .rw, 0, []⟩, ⟨28, 18, .rw, 0, []⟩,
  ⟨17, 0, .rw, 0, []⟩]⟩

theorem regRow_takeover : regRow? ST_TAKEOVER = some takeoverRow := by decide +kernel

/-- The row of ST_REMIRROR (R231). -/
def remirrorRow : RegRow := ⟨ST_REMIRROR, 8, 1, 1, [⟨63, 63, .wo, 0, []⟩, ⟨28, 18, .rw, 0, []⟩, ⟨17, 0, .rw, 0, []⟩]⟩

theorem regRow_remirror : regRow? ST_REMIRROR = some remirrorRow := by decide +kernel

/-- The stays that a takeover of whole homes finds. -/
def State.takeHits (s : State) (home : Nat) : List Nat :=
  (s.stays.table.map (·.1)).filter (fun i => (s.stay i).state == 7 && (s.stay i).twinCoord == home)

theorem State.mem_takeHits {s : State} {home i : Nat} : i ∈ s.takeHits home ↔ (s.stay i).state = 7 ∧ (s.stay i).twinCoord = home := by
  rw [State.takeHits, List.mem_filter]
  simp only [Bool.and_eq_true, beq_iff_eq, and_iff_right_iff_imp]
  rintro ⟨hstate, -⟩
  by_contra habsent
  have hfree : s.stay i = freeStay := sparseGet_of_not_mem fun e he h => habsent (List.mem_map.2 ⟨e, he, h⟩)
  rw [hfree] at hstate
  exact absurd hstate (by decide)

section
variable {s : State} {value : Nat} (hidle : s.flag ST_TAKEOVER_STATUS_BUSY = false) (hkeep : value.testBit 61 = false) (hall : value.testBit 62 = false)
include hidle hkeep hall

/-- What a takeover of a whole home leaves of each stay. -/
theorem takeoverGo_effect : ∃ t, exec (.takeoverGo value) s = .next t ∧ t.flag ST_TAKEOVER_STATUS_BUSY = true ∧
    ∀ i, t.stay i = if (s.stay i).state = 7 ∧ (s.stay i).twinCoord = bitsOf value 28 18 then (s.stay i).homed else s.stay i := by
  have hdiscard : (s.writePlain ST_TAKEOVER value).flag ST_TAKEOVER_DISCARD = false := by
    have hfld : (s.writePlain ST_TAKEOVER value).fld ST_TAKEOVER_DISCARD = bitsOf value 61 61 :=
      s.fld_writePlain (F := ST_TAKEOVER_DISCARD) regRow_takeover (reset := 0) (by decide)
    rw [State.flag, hfld, bitsOf_self, hkeep]
    rfl
  have hone : (s.writePlain ST_TAKEOVER value).flag ST_TAKEOVER_ONE = false := by
    have hfld : (s.writePlain ST_TAKEOVER value).fld ST_TAKEOVER_ONE = bitsOf value 62 62 :=
      s.fld_writePlain (F := ST_TAKEOVER_ONE) regRow_takeover (reset := 0) (by decide)
    rw [State.flag, hfld, bitsOf_self, hall]
    rfl
  have hhome : (s.writePlain ST_TAKEOVER value).fld ST_TAKEOVER_HOME = bitsOf value 28 18 :=
    s.fld_writePlain (F := ST_TAKEOVER_HOME) regRow_takeover (reset := 0) (by decide)
  have hstay : ∀ i, (s.writePlain ST_TAKEOVER value).stay i = s.stay i := fun _ => rfl
  refine ⟨((((s.takeHits (bitsOf value 28 18)).foldl State.takeOver (s.writePlain ST_TAKEOVER value)).raise ST_TAKEOVER_STATUS_BUSY).modStays
    (fun u => { u with taken := (s.takeHits (bitsOf value 28 18)).length })).retryAgents, ?_, ?_, fun i => ?_⟩
  · rw [exec_takeoverGo, execTakeoverGo, if_neg (by rw [hidle]; decide)]
    simp only [hone, hhome, hstay, Bool.false_eq_true, if_false]
    rfl
  · rw [State.flag, State.fld_eq_of_reg (State.reg_retryAgents (offCore_between (by decide) (by decide)))]
    exact congrArg (· != 0) (State.fld_raise_same _ ST_TAKEOVER_STATUS_BUSY (by decide))
  · rw [State.stay_retryAgents]
    refine (State.stay_modStays _ _ (fun _ => rfl) i).trans ((State.stay_takeOvers _ hdiscard i).trans ?_)
    simp only [State.mem_takeHits, hstay]

theorem completes_takeoverGo_hit {i : Nat} (hstate : (s.stay i).state = 7) (hhome : (s.stay i).twinCoord = bitsOf value 28 18) :
    Completes (.takeoverGo value) s (fun t => t.stay i = { s.stay i with state := 1, twinValid := false, oldHome := some (s.stay i).twinCoord } ∧
      t.flag ST_TAKEOVER_STATUS_BUSY = true) := by
  obtain ⟨t, hexec, hbusy, hstay⟩ := takeoverGo_effect hidle hkeep hall
  exact ⟨t, hexec, (hstay i).trans (if_pos ⟨hstate, hhome⟩), hbusy⟩

theorem completes_takeoverGo_other {i : Nat} (h : (s.stay i).state ≠ 7 ∨ (s.stay i).twinCoord ≠ bitsOf value 28 18) :
    Completes (.takeoverGo value) s (fun t => t.stay i = s.stay i ∧ t.flag ST_TAKEOVER_STATUS_BUSY = true) := by
  obtain ⟨t, hexec, hbusy, hstay⟩ := takeoverGo_effect hidle hkeep hall
  exact ⟨t, hexec, (hstay i).trans (if_neg fun hc => h.elim (· hc.1) (· hc.2)), hbusy⟩

end

theorem completes_takeoverGo_busy {s : State} (h : s.flag ST_TAKEOVER_STATUS_BUSY = true) (value : Nat) :
    Completes (.takeoverGo value) s (fun t => t = s) :=
  ⟨s, (exec_takeoverGo value s).trans (if_pos h), rfl⟩

theorem completes_takeoverDone {s : State} (h : s.flag ST_TAKEOVER_STATUS_BUSY = true) : Completes .takeoverDone s (fun t =>
    t.flag ST_TAKEOVER_STATUS_BUSY = false ∧ t.fld ST_TAKEOVER_STATUS_DONE = s.stays.taken % 2 ^ 19) := by
  refine ⟨_, (exec_takeoverDone s).trans (if_pos h), ?_, State.fld_setFld_same _ _ _ (by decide)⟩
  rw [State.flag, State.fld_setFld_apart _ _ _ _ (by decide), State.fld_setFld_same _ _ _ (by decide)]
  rfl

/-! ### REMIRROR (R231) -/

/-- A mirrored operation is on the list, its tag taken. -/
def State.mirrorListed (s : State) (m : Mirroring) : State := s.tagTaken.modStays (fun u => { u with mirrors := u.mirrors ++ [m] })

theorem Quiet.mirrorListed (s : State) (m : Mirroring) : Quiet s (s.mirrorListed m) := (Quiet.tagTaken s).trans (Quiet.modStays _)

theorem State.mirrors_mirrorListed (s : State) (m : Mirroring) : (s.mirrorListed m).stays.mirrors = s.stays.mirrors ++ [m] := rfl

theorem State.mirror_eq (s : State) (i twin twinIndex op : Nat) (payload : List Byte) (a : Asker) (reply : Option (Nat × List Byte)) (must : Bool)
    (copy : Option Nat) : s.mirror i twin twinIndex op payload a reply must copy =
      (s.mirrorListed ⟨s.stays.mirrorSeq % 16384, i, op, a, reply, must, copy, twin, s.free⟩).toInn twin 0x30 (s.stay i).party (s.stay i).ownerRank
        (twinIndex + op * 2 ^ 18) (s.stays.mirrorSeq % 16384) payload := rfl

theorem exec_remirror (value : Nat) (s : State) : exec (.remirror value) s = execRemirror value s := rfl

theorem completes_remirror {s : State} {value : Nat} (hc : Calm s) (hstate : (s.stay (bitsOf value 17 0)).state = 1)
    (hnone : (s.stay (bitsOf value 17 0)).twinValid = false) (hroute : RouteTo s (bitsOf value 28 18)) (hcard : CardClean s (bitsOf value 17 0)) :
    Completes (.remirror value) s (fun t =>
      t.stays.mirrors = s.stays.mirrors ++ [⟨s.stays.mirrorSeq % 16384, bitsOf value 17 0, 0, .nobody, none, false, some 0, bitsOf value 28 18, s.free⟩] ∧
      Sent t (fun g => g.kind == 0x30 && g.dstCoord == bitsOf value 28 18 && g.dstPort == 0xF0 &&
        g.payload == s.peek (cardAt (bitsOf value 17 0)) 32 ++ natLE 4 (s.handleOf (bitsOf value 17 0)))) := by
  have hindex : (s.writePlain ST_REMIRROR value).fld ST_REMIRROR_INDEX = bitsOf value 17 0 :=
    s.fld_writePlain (F := ST_REMIRROR_INDEX) regRow_remirror (reset := 0) (by decide)
  have htwin : (s.writePlain ST_REMIRROR value).fld ST_REMIRROR_TWIN = bitsOf value 28 18 :=
    s.fld_writePlain (F := ST_REMIRROR_TWIN) regRow_remirror (reset := 0) (by decide)
  have hcoord : (s.writePlain ST_REMIRROR value).coord = s.coord := State.fld_eq_of_reg (s.reg_writePlain_other value (by decide))
  have hoff : bitsOf value 28 18 ≠ s.coord := by
    intro h
    obtain ⟨-, -, -, a, ha, -⟩ := hroute
    rw [h, firstAxis_self] at ha
    exact absurd ha (by simp)
  have hquiet : Quiet s (s.writePlain ST_REMIRROR value) := Quiet.setReg (by unfold RouteReg; decide) _
  have hwritten : ReadsAs s (s.writePlain ST_REMIRROR value) :=
    .of_mem (.of_nil hcard.1) rfl (s.reg_writePlain_other value (by decide)) rfl
  generalize hi : bitsOf value 17 0 = i at *
  generalize bitsOf value 28 18 = twin at *
  obtain ⟨hread, hreads⟩ := hwritten.readCard hcard.2.1 hcard.2.2
  have hstays : ((s.writePlain ST_REMIRROR value).readCard i).2.stays = s.stays := stays_readCard _ i
  have hexec : exec (.remirror value) s = .next ((((s.writePlain ST_REMIRROR value).readCard i).2.mirror i twin 0 0
      (s.peek (cardAt i) 32 ++ natLE 4 (s.handleOf i)) .nobody none false (some 0)).retryAgents) := by
    rw [exec_remirror, execRemirror, hindex, htwin, hcoord, if_neg (by
      rintro (h | h | h)
      · exact h hstate
      · exact Bool.false_ne_true (hnone.symm.trans h)
      · exact hoff h), hread]
    dsimp only
    rw [hreads.peek, State.handleOf_congr (congrArg Stay.gen (State.stay_congr hstays i))]
  have hup : Upkeep (s.writePlain ST_REMIRROR value) ((s.writePlain ST_REMIRROR value).readCard i).2 := Upkeep.readCard i
  have hfree : ((s.writePlain ST_REMIRROR value).readCard i).2.free = s.free := congrArg BellUnit.free (within_readCard.same .bell (by decide))
  rw [State.mirror_eq] at hexec
  refine ⟨_, hexec, ?_, ?_⟩
  · rw [stays_retryAgents, stays_toInn, State.mirrors_mirrorListed, hstays, hfree]
  · rw [State.toInn]
    refine sent_away_retried hc ((hquiet.trans hup.quiet).trans (Quiet.mirrorListed _ _)).carries (f := _) ?_ ?_ 0 (fun n => ?_)
    · rfl
    · exact hroute
    · simp only [State.asSent, beq_self_eq_true, Bool.and_self]

/-- Settles O30: the commands of twins by kind, over what an innkeeper's frame from a peer and a mirrored operation's end do. -/
theorem twinsComplete : Obligations.TwinsComplete := by
  unfold Obligations.TwinsComplete
  exact ⟨
    fun _ _ _ h hlen hcard hfree hbooked hclean hadmits => completes_mirrorOpen h hlen hcard hfree hbooked hclean hadmits,
    fun _ _ h hlen => completes_mirrorOpen_malformed h hlen,
    fun _ _ _ h hi hop hstate hcoord hparty hblocked hclean hok hcount htokens =>
      completes_mirrorAppend ⟨h, hop, mirrorIndex_address hi hop (by decide), hstate, hcoord, hparty⟩ hblocked hclean hok hcount htokens,
    fun _ f _ _ h hlen hi hop hstate hcoord hparty hblocked hclean hreserved hcount hcard hfree hbooked hadmits =>
      completes_mirrorFork ⟨h, hop, by rw [mirrorIndex, if_pos hop, hi], hstate, hcoord, hparty⟩ hlen hblocked hclean hreserved hcount hcard hfree hbooked hadmits,
    fun _ _ _ h hi hop hstate hcoord hparty hblocked hclean =>
      completes_mirrorClose ⟨h, hop, mirrorIndex_address hi hop (by decide), hstate, hcoord, hparty⟩ hblocked hclean,
    fun _ _ _ h hi hop hstate hcoord hparty hblocked =>
      completes_mirrorClose_waits ⟨h, hop, mirrorIndex_address hi hop (by decide), hstate, hcoord, hparty⟩ hblocked,
    fun _ _ _ _ h hi hop hstate hcoord hparty hblocked hclean hpoison hlen hk hroom hr hledger =>
      completes_mirrorRoomcopy ⟨h, hop, mirrorIndex_address hi hop (by decide), hstate, hcoord, hparty⟩ hblocked hclean hpoison hlen hroom hr hledger hk,
    fun _ _ _ _ h hi hop hstate hcoord hparty hblocked hclean hpoison hlen hk hroom hr hledger =>
      completes_mirrorRoomcopy_last ⟨h, hop, mirrorIndex_address hi hop (by decide), hstate, hcoord, hparty⟩ hblocked hclean hpoison hlen hroom hr hledger hk,
    fun _ _ _ _ _ hc hg htrust hphase hm hok hop hasker hreply => completes_mirrorAck_append hc hg htrust hphase hm hok hop hasker hreply,
    fun _ _ _ _ hc hg htrust hphase hm hok hop hasker hreply hcopy => completes_mirrorAck_opened hc hg htrust hphase hm hok hop hasker hreply hcopy,
    fun _ _ _ _ _ hc hg htrust hphase hm hbad hop hasker hreply hvalid htwin hsev =>
      completes_mirrorAck_lost hc hg htrust hphase hm hbad hop hasker hreply hvalid htwin hsev,
    fun _ _ _ _ _ hc hg hm hlate hphase hop hasker hreply hvalid htwin hsev =>
      completes_mirrorWaitExpiry hc hg hm hlate hphase hop hasker hreply hvalid htwin hsev,
    fun _ _ _ hm h => completes_mirrorWaitExpiry_early hm h,
    fun _ _ _ hidle hkeep hall hstate hhome => completes_takeoverGo_hit hidle hkeep hall hstate hhome,
    fun _ _ _ hidle hkeep hall h => completes_takeoverGo_other hidle hkeep hall h,
    fun _ value h => completes_takeoverGo_busy h value,
    fun _ h => completes_takeoverDone h,
    fun _ _ hc hstate hnone hroute hcard => completes_remirror hc hstate hnone hroute hcard⟩

end Sys2Proof.Machine
end

section
/-! PROOF. O28, parks as the module that holds the stay begins them: to the host and to a peer (R225, R226, R434). -/

-- Proofs are checked one at a time: side by side they would only wait for one another.
set_option Elab.async false

namespace Sys2Proof.Machine
open Sys2Proof

/-! ### A pool without merge entries is read as it is (R335) -/

/-- What the pool stores is the same, and the write-merge buffer is empty. -/
def Still (s t : State) : Prop := t.mem.bytes = s.mem.bytes ∧ t.mem.poison = s.mem.poison ∧ t.mem.merge = []

theorem State.settle_of_nil {s : State} (h : s.mem.merge = []) (p : Nat) : s.settle p = s := by
  rw [State.settle, h]
  rfl

theorem Still.touchPair {s t : State} (h : Still s t) (p : Nat) : Still s (t.touchPair p) := by
  have hsettle : (t.transferred (pairStack p)).settle p = t.transferred (pairStack p) := State.settle_of_nil (s := t.transferred (pairStack p)) h.2.2 p
  rw [State.touchPair, hsettle]
  split
  · exact h
  · exact h

theorem Still.poolRead {s t : State} (h : Still s t) (a n : Nat) : Still s (t.poolRead a n).2 := by
  have hpairs : Still s ((pairsOf a n).foldl State.touchPair t) :=
    List.foldlRecOn (pairsOf a n) State.touchPair (motive := Still s) h fun _ hx p _ => hx.touchPair p
  rw [State.poolRead]
  split
  · exact hpairs
  · exact hpairs

theorem still_readCard {s : State} (h : s.mem.merge = []) (i : Nat) : Still s (s.readCard i).2 :=
  Still.poolRead (t := s.countBy _ _) ⟨rfl, rfl, h⟩ _ _

/-! ### A park that is refused (R225, R226) -/

theorem State.move?_index {s : State} {i : Nat} {m : Move} (h : s.move? i = some m) : m.index = i := by simpa using List.find?_some h

theorem State.mem_of_move? {s : State} {i : Nat} {m : Move} (h : s.move? i = some m) : m ∈ s.stays.moves := List.mem_of_find?_eq_some h

/-- The move has ended and the stay serves on. -/
def State.stayedOpen (s : State) (i : Nat) : State := (s.setMove i none).modStay i (fun e => { e with state := 1 })

theorem Quiet.stayedOpen (s : State) (i : Nat) : Quiet s (s.stayedOpen i) := (Quiet.setMove i none).trans (Quiet.modStay i _)

theorem State.state_stayedOpen (s : State) (i : Nat) : ((s.stayedOpen i).stay i).state = 1 := by rw [State.stayedOpen, State.stay_modStay_same]

theorem State.move?_modStay (s : State) (i : Nat) (g : Stay → Stay) (j : Nat) : (s.modStay i g).move? j = s.move? j := State.move?_setStay s i _ j

theorem State.move?_stayedOpen (s : State) (i : Nat) : (s.stayedOpen i).move? i = none := by
  rw [State.stayedOpen, State.move?_modStay, State.move?_setMove_none]

theorem State.waiting_stayedOpen (s : State) (i : Nat) : (s.stayedOpen i).stays.waiting = s.stays.waiting := by
  rw [State.stayedOpen, State.waiting_modStay, State.waiting_setMove]

theorem State.parkFails_refused {s : State} {m : Move} (hevict : m.evict = false) (hwait : s.stays.waiting = []) (status : Nat) :
    s.parkFails m status = (s.stayedOpen m.index).refuse m.asker 0x24 status := by
  have hnone : ((s.stayedOpen m.index).refuse m.asker 0x24 status).stays.waiting = [] := by
    rw [stays_refuse, State.waiting_stayedOpen, hwait]
  rw [State.parkFails, hevict, if_neg (by decide), ← State.stayedOpen, State.drainStay_of_nil hnone]

/-- What a park refused leaves. -/
theorem parkFails_effect {s x : State} {m : Move} {g : Frame} (hc : Calm s) (hg : Answerable s g) (hx : Carries s x) (hevict : m.evict = false)
    (hasker : m.asker = .request g) (hwait : x.stays.waiting = []) : ((x.parkFails m 0x0C).retryAgents.stay m.index).state = 1 ∧
      (x.parkFails m 0x0C).retryAgents.move? m.index = none ∧ Replied (x.parkFails m 0x0C).retryAgents g 0x2F (padTo 32 [0x0C, 0x24]) := by
  rw [State.parkFails_refused hevict hwait, hasker]
  refine ⟨?_, ?_, refused_after hc hg.reaches (hx.trans (Quiet.stayedOpen x _).carries) (by decide) (by decide) (Carries.refl _)⟩
  · rw [State.stay_retryAgents, State.stay_refuse, State.state_stayedOpen]
  · rw [State.move?_congr (congrArg _ (stays_retryAgents _)), State.move?_congr (congrArg _ (stays_refuse _ _ _ _)), State.move?_stayedOpen]

/-! ### PARK_TO_HOST (R225) -/

theorem exec_parkToHost (i : Nat) (s : State) : exec (.parkToHost i) s = execParkToHost i s := rfl

theorem CardClean.read {s : State} {i : Nat} (h : CardClean s i) : s.readCard i = (some (s.card i), (s.readCard i).2) ∧ ReadsAs s (s.readCard i).2 :=
  (ReadsAs.refl (.of_nil h.1)).readCard h.2.1 h.2.2

theorem completes_parkToHost_refused {s : State} {m : Move} {f : Frame} {i : Nat} (hc : Calm s) (hg : Answerable s f) (hm : s.move? i = some m)
    (hkind : m.kind = 1) (hevict : m.evict = false) (hasker : m.asker = .request f) (hidle : (s.stay i).inflight = 0) (hphase : s.phase ≠ 6)
    (hring : s.fld ST_STABLE_ROOMS = 0) (hwait : s.stays.waiting = []) (hcard : CardClean s i) : Completes (.parkToHost i) s (fun t =>
      (t.stay i).state = 1 ∧ t.move? i = none ∧ t.mem.bytes = s.mem.bytes ∧ t.mem.poison = s.mem.poison ∧ Replied t f 0x2F (padTo 32 [0x0C, 0x24])) := by
  obtain ⟨hread, -⟩ := hcard.read
  obtain ⟨hbytes, hpoison, -⟩ := still_readCard hcard.1 i
  obtain rfl := State.move?_index hm
  have hplace : ∀ n, s.ringPlace n = none := fun n => by rw [State.ringPlace, hring, if_pos (.inl rfl)]
  have hexec : exec (.parkToHost m.index) s = .next (((s.readCard m.index).2.parkFails m 0x0C).retryAgents) := by
    rw [exec_parkToHost, execParkToHost, hm]
    dsimp only
    rw [if_neg (by omega), hread]
    dsimp only
    rw [hplace]
  have hwait' : (s.readCard m.index).2.stays.waiting = [] := by rw [stays_readCard, hwait]
  obtain ⟨hstate, hmove, hreply⟩ := parkFails_effect hc hg (Upkeep.readCard m.index).quiet.carries hevict hasker hwait'
  have hmem : ((s.readCard m.index).2.parkFails m 0x0C).retryAgents.mem = (s.readCard m.index).2.mem := by
    rw [mem_retryAgents, State.parkFails_refused hevict hwait', mem_refuse]
    rfl
  exact ⟨_, hexec, hstate, hmove, by rw [hmem, hbytes], by rw [hmem, hpoison], hreply⟩

/-- A notice goes out or waits: nothing but the held notices differs in the room service. -/
theorem State.stays_notify (s : State) (n : List Byte) : ∃ l, (s.notify n).stays = { s.stays with notices := l } := by
  have hflush : ∀ (l : List (List Byte)) (x : State), ∃ k, (l.foldl (fun s n => if s.stays.notices.head? = some n ∧ s.qReady 1 then
      (s.qWrite 1 n).modStays (fun u => { u with notices := u.notices.tail }) else s) x).stays = { x.stays with notices := k } := by
    intro l
    induction l with
    | nil => exact fun x => ⟨x.stays.notices, rfl⟩
    | cons n l ih =>
      intro x
      obtain ⟨k, hk⟩ := ih (if x.stays.notices.head? = some n ∧ x.qReady 1 then (x.qWrite 1 n).modStays (fun u => { u with notices := u.notices.tail }) else x)
      refine ⟨k, ?_⟩
      rw [List.foldl_cons, hk]
      split
      · have hwrite : (x.qWrite 1 n).stays = x.stays := within_qWrite.same .stays (by decide)
        rw [← hwrite]
        rfl
      · rfl
  exact hflush _ _

theorem State.reg_notify (s : State) (n : List Byte) {o : Nat} (h : o ≠ MB_QTAIL 1) : (s.notify n).reg o = s.reg o :=
  (RegsIn.flushNotices (offs := [MB_QTAIL 1]) (.modStays .refl) (.head _)).reg o (by simpa using h)

theorem Quiet.notify (s : State) (n : List Byte) : Quiet s (s.notify n) :=
  .of_regs within_notify (by decide) fun o ho => s.reg_notify n (by
    unfold RouteReg DV_COORD at ho
    unfold MB_QTAIL
    omega)

theorem State.stay_notify (s : State) (n : List Byte) (i : Nat) : (s.notify n).stay i = s.stay i := by
  obtain ⟨l, hl⟩ := s.stays_notify n
  rw [State.stay, hl]
  rfl

/-- The image of a stay is written: its first room zeroed, its header put there. -/
def State.imaged (s : State) (base : Nat) (header : List Byte) : State := (s.zeroRoom base).poolWrite (base * 65536) header

theorem Upkeep.imaged (s : State) (base : Nat) (header : List Byte) : Upkeep s (s.imaged base header) :=
  (Upkeep.zeroRoom base).trans (Upkeep.poolWrite _ _)

theorem stays_imaged (s : State) (base : Nat) (header : List Byte) : (s.imaged base header).stays = s.stays :=
  (within_poolWrite.same .stays (by decide)).trans (within_zeroRoom.same .stays (by decide))

/-- A header in a room whose stack is up reads as written. -/
theorem State.peek_imaged {s : State} (h : Sound s) {base : Nat} (hup : s.stackLost (roomStack base) = false) {header : List Byte}
    (hpos : header.length ≤ 65536) : (s.imaged base header).peek (base * 65536) header.length = header := by
  have hzero : s.zeroRoom base = s.modMem (fun m => { m with
      bytes := m.bytes.filter (fun e => e.1 / 65536 != base)
      poison := m.poison.filter (fun e => e.1 / 1024 != base)
      merge := m.merge.filter (fun e => e.pair / 1024 != base) }) := by
    rw [State.zeroRoom, hup, if_neg (by decide)]
  have hclean : ∀ p, p / 1024 = base → (s.zeroRoom base).poisoned p = false := by
    intro p hp
    rw [hzero]
    refine sparseGet_of_not_mem fun e he heq => ?_
    have h := (List.mem_filter.1 he).2
    rw [heq, hp] at h
    simp at h
  have hpoison : ∀ p, s.poisoned p = false → (s.zeroRoom base).poisoned p = false := by
    intro p hp
    by_cases hroom : p / 1024 = base
    · exact hclean p hroom
    · rw [hzero]
      exact (sparseGet_filter (by simpa using hroom)).trans hp
  have hlost : ∀ n, (s.zeroRoom base).stackLost n = s.stackLost n := fun n => by rw [hzero]; rfl
  have hsound : Sound (s.zeroRoom base) := by
    refine ⟨?_, fun e he => ?_⟩
    · rw [hzero]
      exact h.nodup_filter _
    · have hmem : e ∈ s.mem.merge := by
        rw [hzero] at he
        exact List.mem_of_mem_filter he
      obtain ⟨hstack, hgood⟩ := h.good e hmem
      exact ⟨(hlost _).trans hstack, hpoison _ hgood⟩
  refine (hsound.poolWrite fun p hp => ?_).peek_same
  have hroom : p / 1024 = base := by
    obtain h0 | h0 := Nat.eq_zero_or_pos header.length
    · rw [h0] at hp
      exact absurd hp (by simp [pairsOf])
    · have := (mem_pairsOf (by omega)).1 hp
      omega
  have hstack : pairStack p = roomStack base := by
    unfold pairStack roomStack
    omega
  exact ⟨by rw [hlost, hstack, hup], hclean p hroom⟩

/-- A stay without a chart gives up none. -/
theorem State.dropChart_absent {s : State} {i : Nat} (h : (s.stay i).root = 0) : s.dropChart i = (0, s.freeChart i ⟨[], [], true⟩) := by
  rw [State.dropChart, State.readChart_absent h]
  rfl

theorem State.mem_dropChart_absent {s : State} {i : Nat} (h : (s.stay i).root = 0) : (s.dropChart i).2.mem = s.mem := by
  rw [State.dropChart_absent h]
  rfl

/-- The stay is parked to the host: its state, the ring's head, the notice and the count. -/
def State.hostParked (s : State) (i head : Nat) (notice : List Byte) : State :=
  (((((s.modStay i (fun e => { e with state := 3 })).setFld ST_STABLE_HEAD_HEAD head).notify notice).count (ST_CNT 4)).setMove i none)

theorem Quiet.hostParked (s : State) (i head : Nat) (notice : List Byte) : Quiet s (s.hostParked i head notice) := by
  have hhead : ¬RouteReg ST_STABLE_HEAD_HEAD.off := by
    unfold RouteReg DV_COORD
    decide
  exact ((((Quiet.modStay i _).trans (Quiet.setFld hhead _)).trans (Quiet.notify _ _)).trans (Quiet.stCnt (by decide))).trans (Quiet.setMove _ _)

theorem State.stay_setFld (s : State) (F : Fld) (v i : Nat) : (s.setFld F v).stay i = s.stay i := rfl

theorem State.stays_setFld (s : State) (F : Fld) (v : Nat) : (s.setFld F v).stays = s.stays := rfl

theorem State.state_hostParked (s : State) (i head : Nat) (notice : List Byte) : ((s.hostParked i head notice).stay i).state = 3 := by
  rw [State.hostParked, State.stay_setMove, State.stay_count, State.stay_notify, State.stay_setFld, State.stay_modStay_same]

theorem State.head_hostParked (s : State) (i head : Nat) (notice : List Byte) : (s.hostParked i head notice).fld ST_STABLE_HEAD_HEAD = head % 2 ^ 24 := by
  have hreg : (s.hostParked i head notice).reg ST_STABLE_HEAD_HEAD.off =
      ((s.modStay i (fun e => { e with state := 3 })).setFld ST_STABLE_HEAD_HEAD head).reg ST_STABLE_HEAD_HEAD.off := by
    rw [State.hostParked, State.reg_setMove, State.reg_count_other _ (by decide), State.reg_notify _ _ (by decide)]
  rw [State.fld_eq_of_reg hreg, State.fld_setFld_same _ _ _ (by decide)]
  rfl

theorem State.cnt_hostParked (s : State) (i head : Nat) (notice : List Byte) : (s.hostParked i head notice).reg (ST_CNT 4) = s.reg (ST_CNT 4) + 1 := by
  rw [State.hostParked, State.reg_setMove, State.reg_count_same, State.reg_notify _ _ (by decide), State.reg_setFld_other _ _ _ (by decide),
    State.reg_modStay _ _ _ (by decide)]

theorem State.mem_hostParked (s : State) (i head : Nat) (notice : List Byte) : (s.hostParked i head notice).mem = s.mem :=
  (within_notify (s := (s.modStay i (fun e => { e with state := 3 })).setFld ST_STABLE_HEAD_HEAD head)).same .mem (by decide)

theorem State.waiting_hostParked (s : State) (i head : Nat) (notice : List Byte) : (s.hostParked i head notice).stays.waiting = s.stays.waiting := by
  rw [State.hostParked, State.waiting_setMove, State.stays_count, State.waiting_notify, State.stays_setFld, State.waiting_modStay]

section
variable {s : State} {m : Move} {f : Frame} {i off head : Nat} (hc : Calm s) (hg : Answerable s f) (hm : s.move? i = some m) (hkind : m.kind = 1)
  (hevict : m.evict = false) (hasker : m.asker = .request f) (hidle : (s.stay i).inflight = 0) (htokens : (s.stay i).tokens = 0) (hroot : (s.stay i).root = 0)
  (hphase : s.phase ≠ 6) (hplace : s.ringPlace 1 = some (off, head)) (hnotify : s.canNotify = true) (hcard : CardClean s i) (hwait : s.stays.waiting = [])
include hm hkind hevict hasker hidle htokens hroot hphase hplace hnotify hcard hwait

theorem exec_parkToHost_empty : ∃ notice, exec (.parkToHost i) s = .next
    (((((s.readCard i).2.imaged (s.fld ST_STABLE_BASE + off) (s.imageHeader i 0)).dropChart i).2.hostParked i head notice).answer (.request f) 0x2C
      (natLE 1 1 ++ natLE 3 0)).retryAgents := by
  obtain ⟨hread, -⟩ := hcard.read
  have hnone : (State.roomsOf (List.range 0) (s.readCard i).2 i) = (some [], (s.readCard i).2) := rfl
  have hup := Upkeep.imaged (s.readCard i).2 (s.fld ST_STABLE_BASE + off) (s.imageHeader i 0)
  have hrooms : (((s.readCard i).2.imaged (s.fld ST_STABLE_BASE + off) (s.imageHeader i 0)).stay i).root = 0 := by
    rw [State.stay_congr (stays_imaged _ _ _), State.stay_congr (stays_readCard s i), hroot]
  refine ⟨natLE 4 (s.handleOf i) ++ natLE 2 (s.stay i).party ++ natLE 3 (s.stay i).ownerRank ++ natLE 3 off ++ natLE 3 (0 + 1) ++
    natLE 3 (s.stay i).tokens, ?_⟩
  have hquiet : ∀ x : State, x.stays.waiting = [] → (x.answer (.request f) 0x2C (natLE 1 1 ++ natLE 3 0)).drainStay i =
      x.answer (.request f) 0x2C (natLE 1 1 ++ natLE 3 0) := fun x hx => State.drainStay_of_nil (by rw [stays_answer, hx]) i
  rw [exec_parkToHost, execParkToHost, hm]
  dsimp only
  rw [if_neg (by omega), hread]
  dsimp only
  rw [htokens, Card.pages_zero, hplace]
  dsimp only
  rw [hnotify, if_neg (by decide), hnone]
  dsimp only
  rw [List.zipIdx_nil, List.foldl_nil, ← State.imaged, State.dropChart_absent hrooms, hevict, if_neg (by decide), hasker, ← State.hostParked, hquiet]
  rw [State.waiting_hostParked, ← State.dropChart_absent hrooms, (Upkeep.dropChart i).waiting, hup.waiting, stays_readCard, hwait]

include hc hg

theorem completes_parkToHost (hup : s.stackLost (roomStack (s.fld ST_STABLE_BASE + off)) = false) : Completes (.parkToHost i) s (fun t =>
      (t.stay i).state = 3 ∧ t.fld ST_STABLE_HEAD_HEAD = head % 2 ^ 24 ∧ t.peek ((s.fld ST_STABLE_BASE + off) * 65536) 56 = s.imageHeader i 0 ∧
      t.move? i = none ∧ t.reg (ST_CNT 4) = s.reg (ST_CNT 4) + 1 ∧ Replied t f 0x2C (padTo 32 (natLE 1 1 ++ natLE 3 0))) := by
  obtain ⟨notice, hexec⟩ := exec_parkToHost_empty hm hkind hevict hasker hidle htokens hroot hphase hplace hnotify hcard hwait
  obtain ⟨-, hread⟩ := hcard.read
  have hpeek := State.peek_imaged hread.pool.sound ((hread.stackLost _).trans hup) (header := s.imageHeader i 0) (by rw [length_imageHeader]; decide)
  rw [length_imageHeader] at hpeek
  have hroot' : (((s.readCard i).2.imaged (s.fld ST_STABLE_BASE + off) (s.imageHeader i 0)).stay i).root = 0 := by
    rw [State.stay_congr (stays_imaged _ _ _), State.stay_congr (stays_readCard s i), hroot]
  have himage : Upkeep s (((s.readCard i).2.imaged (s.fld ST_STABLE_BASE + off) (s.imageHeader i 0)).dropChart i).2 :=
    ((Upkeep.readCard i).trans (Upkeep.imaged _ _ _)).trans (Upkeep.dropChart i)
  have hmem : (((s.readCard i).2.imaged (s.fld ST_STABLE_BASE + off) (s.imageHeader i 0)).dropChart i).2.mem =
      ((s.readCard i).2.imaged (s.fld ST_STABLE_BASE + off) (s.imageHeader i 0)).mem := State.mem_dropChart_absent hroot'
  generalize ((((s.readCard i).2.imaged (s.fld ST_STABLE_BASE + off) (s.imageHeader i 0)).dropChart i).2 : State) = x at hexec himage hmem
  have hoff : OffCore ST_STABLE_HEAD_HEAD.off := offCore_between (by decide) (by decide)
  refine ⟨_, hexec, ?_, ?_, ?_, ?_, ?_, replied_after hc hg.reaches (himage.quiet.trans (Quiet.hostParked x i head notice)).carries 0x2C _ (Carries.refl _)⟩
  · rw [State.stay_retryAgents, State.stay_answer, State.state_hostParked]
  · rw [State.fld_eq_of_reg (State.reg_retryAgents hoff), State.answer, State.fld_eq_of_reg (State.reg_agentSend hoff _ _), State.head_hostParked]
  · rw [State.peek_congr_mem (mem_retryAgents _), State.peek_congr_mem (mem_answer _ _ _ _), State.peek_congr_mem (State.mem_hostParked _ _ _ _),
      State.peek_congr_mem hmem, hpeek]
  · rw [State.move?_congr (congrArg _ (stays_retryAgents _)), State.move?_congr (congrArg _ (stays_answer _ _ _ _)), State.hostParked,
      State.move?_setMove_none]
  · rw [State.reg_retryAgents (offCore_stCnt (by decide)), State.answer, State.reg_agentSend (offCore_stCnt (by decide)), State.cnt_hostParked,
      himage.reg _ (not_innReg_stCnt (by decide))]

end

/-! ### PARK_TO_PEER (R226) -/

theorem exec_parkToPeer (i : Nat) (s : State) : exec (.parkToPeer i) s = execParkToPeer i s := rfl

/-- A room is booked at the peer: the stay's move notes it, and the stay is parking. -/
def State.booking (s : State) (i : Nat) (m : Move) : State := (s.tagTaken.setMove i (some m)).modStay i (fun e => { e with state := 2 })

theorem Quiet.booking (s : State) (i : Nat) (m : Move) : Quiet s (s.booking i m) := ((Quiet.tagTaken s).trans (Quiet.setMove i _)).trans (Quiet.modStay i _)

theorem completes_parkToPeer {s : State} {m : Move} {i : Nat} {rooms : List Nat} (hc : Calm s) (hroute : RouteTo s m.peer) (hm : s.move? i = some m)
    (hkind : m.kind = 2) (hstage : m.stage = 0) (hidle : (s.stay i).inflight = 0) (hphase : s.phase ≠ 6) (hcard : CardClean s i)
    (hrooms : (State.roomsOf (List.range ((s.card i).pages (s.stay i).tokens)) s i).1 = some rooms) :
    Completes (.parkToPeer i) s (fun t => (t.stay i).state = 2 ∧
      t.move? i = some { m with stage := 1, tag := s.stays.mirrorSeq % 16384, rooms := (s.stay i).rooms,
                                   pages := (s.card i).pages (s.stay i).tokens } ∧
      Sent t (fun g => g.kind == 0x32 && g.dstCoord == m.peer && g.dstPort == 0xF0 && g.party == (s.stay i).party &&
        g.payload == s.peek (cardAt i) 32 ++ natLE 4 (s.stay i).tokens ++ natLE 4 ((s.card i).pages (s.stay i).tokens) ++ natLE 4 (s.handleOf i))) := by
  obtain ⟨hread, hreads⟩ := hcard.read
  obtain rfl := State.move?_index hm
  generalize hn : (s.card m.index).pages (s.stay m.index).tokens = n at hrooms ⊢
  have hfound : State.roomsOf (List.range n) (s.readCard m.index).2 m.index = (some rooms, (State.roomsOf (List.range n) (s.readCard m.index).2 m.index).2) :=
    Prod.ext (((reads_roomsOf _ _).answer hreads).trans hrooms) rfl
  have hstays : (State.roomsOf (List.range n) (s.readCard m.index).2 m.index).2.stays = s.stays :=
    (within_roomsOf.same .stays (by decide)).trans (stays_readCard s m.index)
  have hup : Upkeep s (State.roomsOf (List.range n) (s.readCard m.index).2 m.index).2 := (Upkeep.readCard m.index).trans (Upkeep.roomsOf _ _)
  generalize (State.roomsOf (List.range n) (s.readCard m.index).2 m.index).2 = x at hfound hstays hup
  have hexec : exec (.parkToPeer m.index) s = .next ((x.booking m.index { m with
      stage := 1
      tag := s.stays.mirrorSeq % 16384
      rooms := (s.stay m.index).rooms
      pages := n }).toInn m.peer 0x32 (s.stay m.index).party (s.stay m.index).ownerRank 0 (s.stays.mirrorSeq % 16384)
      (s.peek (cardAt m.index) 32 ++ natLE 4 (s.stay m.index).tokens ++ natLE 4 n ++ natLE 4 (s.handleOf m.index))).retryAgents := by
    rw [exec_parkToPeer, execParkToPeer, hm]
    dsimp only
    rw [if_neg (by omega), hread]
    dsimp only
    rw [hn, hfound]
    dsimp only
    rw [← hstays]
    rfl
  refine ⟨_, hexec, ?_, ?_, ?_⟩
  · rw [State.stay_retryAgents, State.stay_toInn, State.booking, State.stay_modStay_same]
  · rw [State.move?_congr (congrArg _ (stays_retryAgents _)), State.move?_congr (congrArg _ (stays_toInn _ _ _ _ _ _ _ _)), State.booking, State.move?_modStay]
    refine State.move?_setMove_some ?_ rfl
    show m ∈ x.stays.moves
    rw [hstays]
    exact State.mem_of_move? hm
  · rw [State.toInn]
    refine sent_away_retried hc (hup.quiet.trans (Quiet.booking _ _ _)).carries (f := _) ?_ ?_ 0 (fun n => ?_)
    · rfl
    · exact hroute
    · simp only [State.asSent, beq_self_eq_true, Bool.and_self]

end Sys2Proof.Machine
end

section
/-! PROOF. O28, continued: guests booked, and pages that go to a peer (R226). -/

-- Proofs are checked one at a time: side by side they would only wait for one another.
set_option Elab.async false

namespace Sys2Proof.Machine
open Sys2Proof

/-! ### LODGE_BOOK (R226) -/

theorem exec_lodgeBook (f : Frame) (s : State) : exec (.lodgeBook f) s = execLodgeBook f s := rfl

theorem completes_lodgeBook_malformed {s : State} {f : Frame} (h : InnPeer s f) (hlen : f.payload.length ≠ 44) : Completes (.lodgeBook f) s (fun t =>
    t.stays = s.stays ∧ Replied t f 0x33 (padTo 32 [6])) := by
  have hexec : exec (.lodgeBook f) s = .next ((s.takeAgent f).answer (.request f) 0x33 [6]).retryAgents := by
    rw [exec_lodgeBook, execLodgeBook, h.serve]
    simp only [h.opened, hlen, ne_eq, not_false_eq_true, true_or, if_true]
    rfl
  refine ⟨_, hexec, ?_, replied_after h.1 h.reaches (Quiet.takeAgent f).carries 0x33 [6] (Carries.refl _)⟩
  rw [stays_retryAgents, stays_answer, State.stays_takeAgent]

/-- The entry of a guest, before its booking. -/
def State.guestEntry (s : State) (f : Frame) (i : Nat) : Stay :=
  { freeStay with
    state := 8, party := f.party, gen := (s.stay i).gen, tokens := leAt f.payload 32 4, ownerRank := f.srcRank, twinCoord := f.srcCoord,
    twinIndex := leAt f.payload 40 4 % 2 ^ 18, lastUse := bitsOf s.now 43 28, priority := (cardOf (f.payload.take 32)).priority }

/-- A guest's entry taken, its rooms booked. -/
def State.guestBooked (s : State) (f : Frame) (i : Nat) : State :=
  (s.setStay i (s.guestEntry f i)).modStay i (fun e => { e with booked := e.booked + leAt f.payload 36 4 })

theorem State.stay_guestBooked (s : State) (f : Frame) (i : Nat) : (s.guestBooked f i).stay i = { s.guestEntry f i with booked := leAt f.payload 36 4 } := by
  rw [State.guestBooked, State.stay_modStay_same, State.stay_setStay_same, State.guestEntry]
  simp [freeStay]

theorem State.book_guest {s : State} {f : Frame} {i : Nat} (hbooked : (s.stay i).booked = 0)
    (hadmits : s.admits { freeStay with state := 8 } (leAt f.payload 36 4) = true) :
    (s.setStay i (s.guestEntry f i)).book i (leAt f.payload 36 4) = some (s.guestBooked f i) := by
  have hfloor : ∀ e : Stay, e.state = 8 → s.admits e (leAt f.payload 36 4) = true := by
    intro e he
    rw [← hadmits, State.admits, State.floor, if_pos he, State.admits, State.floor, if_pos rfl]
  have hadmits' : (s.setStay i (s.guestEntry f i)).admits ((s.setStay i (s.guestEntry f i)).stay i) (leAt f.payload 36 4) = true := by
    rw [State.stay_setStay_same, ← hfloor (s.guestEntry f i) rfl]
    exact State.admits_congr rfl rfl (State.reg_setStay _ _ _ (by decide)) (State.freeRooms_setStay _ _ _) (State.booked_setStay hbooked rfl) _
  rw [State.book, hadmits', if_pos rfl]
  rfl

theorem completes_lodgeBook {s : State} {f : Frame} {i : Nat} (h : InnPeer s f) (hlen : f.payload.length = 44) (hcard : cardValid (f.payload.take 32) none = true)
    (hpages : leAt f.payload 36 4 = (cardOf (f.payload.take 32)).pages (leAt f.payload 32 4)) (hfree : s.freeIndex = some i)
    (hbooked : (s.stay i).booked = 0) (hadmits : s.admits { freeStay with state := 8 } (leAt f.payload 36 4) = true) : Completes (.lodgeBook f) s (fun t =>
      t.stay i = { freeStay with
        state := 8, party := f.party, gen := (s.stay i).gen, tokens := leAt f.payload 32 4, ownerRank := f.srcRank, twinCoord := f.srcCoord,
        twinIndex := leAt f.payload 40 4 % 2 ^ 18, lastUse := bitsOf s.now 43 28, priority := (cardOf (f.payload.take 32)).priority,
        booked := leAt f.payload 36 4 } ∧
      Replied t f 0x33 (padTo 32 ([0, 0, 0, 0] ++ natLE 4 (i + (s.stay i).gen * 2 ^ 18)))) := by
  have hfree' : (s.takeAgent f).freeIndex = some i := (State.freeIndex_congr (s.stays_takeAgent f)).trans hfree
  have hnow : (s.takeAgent f).now = s.now := State.now_eq_of_bell (within_takeAgent.same .bell (by decide))
  have hbook := State.book_guest (s := s.takeAgent f) (f := f) (i := i) (by rw [State.stay_takeAgent, hbooked])
    ((State.admits_congr rfl rfl (State.reg_takeAgent (by decide) f) (fld_takeAgent s f (by decide)) (fld_takeAgent s f (by decide)) _).trans hadmits)
  have hhandle : ((s.takeAgent f).guestBooked f i).handleOf i = i + (s.stay i).gen * 2 ^ 18 := by
    rw [State.handleOf, State.stay_guestBooked, State.guestEntry, State.stay_takeAgent]
  have hexec : exec (.lodgeBook f) s = .next ((((s.takeAgent f).guestBooked f i).porterWrite (cardAt i) (f.payload.take 32)).answer (.request f) 0x33
      ([0, 0, 0, 0] ++ natLE 4 (i + (s.stay i).gen * 2 ^ 18))).retryAgents := by
    rw [exec_lodgeBook, execLodgeBook, h.serve]
    simp only [h.opened, hlen, hcard, ← hpages, ne_eq, not_true_eq_false, Bool.not_true, Bool.false_eq_true, or_self, if_false]
    rw [hfree']
    dsimp only
    rw [← State.guestEntry, hbook]
    dsimp only
    rw [hhandle]
  have hquiet : Quiet s (((s.takeAgent f).guestBooked f i).porterWrite (cardAt i) (f.payload.take 32)) :=
    (((Quiet.takeAgent f).trans (Quiet.setStay i _)).trans (Quiet.modStay i _)).trans (Upkeep.porterWrite _ _).quiet
  refine ⟨_, hexec, ?_, replied_after h.1 h.reaches hquiet.carries 0x33 _ (Carries.refl _)⟩
  rw [State.stay_retryAgents, State.stay_answer, State.stay_congr (State.stays_porterWrite _ _ _), State.stay_guestBooked, State.guestEntry,
    State.stay_takeAgent, hnow]

/-! ### LODGE_BOOKED (R226) -/

theorem stays_sendPageOf (s : State) (i c far page tag party : Nat) : (s.sendPageOf i c far page tag party).stays = s.stays :=
  within_sendPageOf.same .stays (by decide)

theorem exec_lodgeBooked (f : Frame) (s : State) : exec (.lodgeBooked f) s = execLodgeBooked f s := rfl

section
variable {s : State} {f : Frame} {m : Move} (htrust : s.trusted f = true) (hphase : s.phase ≠ 6)
  (hm : s.stays.moves.find? (fun m => m.kind == 2 && m.stage == 1 && m.peer == f.srcCoord && m.tag == f.tag) = some m)
include htrust hphase hm

theorem completes_lodgeBooked_refused {g : Frame} (hc : Calm s) (hg : Answerable s g) (hbad : byteAt f.payload 0 ≠ 0) (hevict : m.evict = false)
    (hasker : m.asker = .request g) (hwait : s.stays.waiting = []) : Completes (.lodgeBooked f) s (fun t =>
      (t.stay m.index).state = 1 ∧ t.move? m.index = none ∧ Replied t g 0x2F (padTo 32 [0x0C, 0x24])) := by
  have hexec : exec (.lodgeBooked f) s = .next ((s.takeAgent f).parkFails m 0x0C).retryAgents := by
    rw [exec_lodgeBooked, execLodgeBooked, innServe_trusted hphase htrust]
    simp only [State.stays_takeAgent, hm, hbad, ne_eq, not_false_eq_true, if_true]
  exact ⟨_, hexec, parkFails_effect hc hg (Quiet.takeAgent f).carries hevict hasker (by rw [State.stays_takeAgent, hwait])⟩

theorem completes_lodgeBooked {room : Nat} (hc : Calm s) (hroute : RouteTo s f.srcCoord) (hok : byteAt f.payload 0 = 0) (hpages : 0 < m.pages)
    (hmerge : s.mem.merge = []) (hroom : (s.pageRoom m.index 0).1 = some room) (hr : room ≠ 0) (hup : s.stackLost (roomStack room) = false)
    (hclean : ∀ e ∈ s.mem.poison, e.1 / 1024 ≠ room) : Completes (.lodgeBooked f) s (fun t =>
      t.move? m.index = some { m with far := leAt f.payload 4 4 % 2 ^ 18, stage := 2, page := 0 } ∧
      PageSent t f.srcCoord (leAt f.payload 4 4 % 2 ^ 18) 0 (fun k => s.peek (room * 65536 + 4096 * k) 4096)) := by
  have hpeer : m.peer = f.srcCoord := by
    have h := List.find?_some hm
    simp only [Bool.and_eq_true, beq_iff_eq] at h
    exact h.1.2
  generalize hn : ({ m with
    far := leAt f.payload 4 4 % 2 ^ 18
    stage := 2
    page := 0 } : Move) = n
  have hindex : n.index = m.index := by rw [← hn]
  have hexec : exec (.lodgeBooked f) s = .next (((s.takeAgent f).setMove m.index (some n)).sendPageOf m.index m.peer (leAt f.payload 4 4 % 2 ^ 18) 0 m.tag
      (s.stay m.index).party).retryAgents := by
    rw [exec_lodgeBooked, execLodgeBooked, innServe_trusted hphase htrust]
    simp only [State.stays_takeAgent, hm, hok, ne_eq, not_true_eq_false, if_false, if_neg (Nat.pos_iff_ne_zero.1 hpages), State.stay_takeAgent, hn]
  have hreads : ReadsAs s ((s.takeAgent f).setMove m.index (some n)) :=
    (ReadsAs.takeAgent (.of_nil hmerge) f).of_table rfl rfl fun j => State.stay_setMove _ _ _ j
  have hquiet : Quiet s ((s.takeAgent f).setMove m.index (some n)) := (Quiet.takeAgent f).trans (Quiet.setMove _ _)
  have hmoved : ((s.takeAgent f).setMove m.index (some n)).move? m.index = some n :=
    State.move?_setMove_some (by rw [State.stays_takeAgent]; exact List.mem_of_find?_eq_some hm) hindex
  generalize (s.takeAgent f).setMove m.index (some n) = x at hexec hreads hquiet hmoved
  have hfound : x.pageRoom m.index 0 = (some room, (x.pageRoom m.index 0).2) := Prod.ext (((reads_pageRoom _ _).answer hreads).trans hroom) rfl
  have hreads' := (reads_pageRoom m.index 0).after hreads
  have hcarries := (hquiet.trans (Upkeep.pageRoom m.index 0).quiet).carries
  have hstays : (x.pageRoom m.index 0).2.stays = x.stays := stays_pageRoom x _ _
  rw [State.sendPageOf, hfound] at hexec
  dsimp only at hexec
  generalize (x.pageRoom m.index 0).2 = y at hexec hreads' hcarries hstays
  have hnum := hcarries.numbered (Calm.numbered hc)
  have hgood : ∀ p, p / 1024 = room → s.PairGood p := fun p hp => by
    have hstack : pairStack p = roomStack room := by
      unfold pairStack roomStack
      omega
    exact ⟨by rw [hstack, hup], sparseGet_of_not_mem fun e he heq => hclean e he (by rw [heq, hp])⟩
  refine ⟨_, hexec, ?_, ?_⟩
  · rw [State.move?_congr (congrArg _ (stays_retryAgents _)), State.move?_congr (congrArg _ (stays_sendPage _ _ _ _ _ _ _)),
      State.move?_congr (congrArg _ hstays), hmoved]
  · rw [hpeer]
    exact pageSent_of_posted ((Keeps.sendPage _ _ _ _ _ _).numbered hnum) Carries.retryAgents (posted_page hnum hreads'.pool.sound
      (RouteTo.routes hroute hcarries.routes) _ 0 m.tag (s.stay m.index).party fun z k hk hz => piece_clean hr hgood k hk (hreads'.trans hz))

end

/-! ### LODGE_ACK (R226) -/

theorem exec_lodgeAck (f : Frame) (s : State) : exec (.lodgeAck f) s = execLodgeAck f s := rfl

section
variable {s : State} {f : Frame} {m : Move} (htrust : s.trusted f = true) (hphase : s.phase ≠ 6)
  (hm : s.stays.moves.find? (fun m => (m.kind == 2 || m.kind == 4) && m.stage == 2 && m.peer == f.srcCoord && m.tag == f.tag &&
    m.far == f.address % 2 ^ 18 && m.page == bitsOf f.address 41 18) = some m) (hok : byteAt f.payload 0 = 0)
include htrust hphase hm hok

theorem exec_lodgeAck_found : exec (.lodgeAck f) s = .next ((s.takeAgent f).pageAcked m).retryAgents := by
  rw [exec_lodgeAck, execLodgeAck, innServe_trusted hphase htrust]
  simp only [State.stays_takeAgent, hm, hok, if_true]

theorem completes_lodgeAck_next (hmore : m.page + 1 < m.pages) : Completes (.lodgeAck f) s (fun t => t.move? m.index = some { m with page := m.page + 1 }) := by
  have hexec := exec_lodgeAck_found htrust hphase hm hok
  rw [State.pageAcked, if_pos hmore] at hexec
  have hmem : m ∈ ((s.takeAgent f).dropPage m.index m.page).stays.moves := by
    rw [(Upkeep.dropPage m.index m.page).moves, State.stays_takeAgent]
    exact List.mem_of_find?_eq_some hm
  refine ⟨_, hexec, ?_⟩
  dsimp only
  rw [State.move?_congr (congrArg _ (stays_retryAgents _)), State.move?_congr (congrArg _ (stays_sendPageOf _ _ _ _ _ _ _))]
  exact State.move?_setMove_some hmem rfl

end

/-- A stay has gone to its peer whole. -/
def State.peerHolds (s : State) (m : Move) : State :=
  (((s.dropChart m.index).2.modStay m.index (fun e => { e with state := 4, loc := m.peer * 2 ^ 18 + m.far })).count (ST_CNT 5)).setMove m.index none

theorem State.peerParked_eq {s : State} {m : Move} (hevict : m.evict = false) (hwait : s.stays.waiting = []) :
    s.peerParked m = (s.peerHolds m).answer m.asker 0x2C (natLE 1 2 ++ natLE 3 m.rooms) := by
  have hnone : ((s.peerHolds m).answer m.asker 0x2C (natLE 1 2 ++ natLE 3 m.rooms)).stays.waiting = [] := by
    rw [stays_answer, State.peerHolds, State.waiting_setMove, State.stays_count, State.waiting_modStay, (Upkeep.dropChart m.index).waiting, hwait]
  rw [State.peerParked, hevict, if_neg (by decide), ← State.peerHolds, State.drainStay_of_nil hnone]

theorem State.stay_peerHolds (s : State) (m : Move) : (s.peerHolds m).stay m.index =
    { (s.dropChart m.index).2.stay m.index with state := 4, loc := m.peer * 2 ^ 18 + m.far } := by
  rw [State.peerHolds, State.stay_setMove, State.stay_count, State.stay_modStay_same]

theorem Quiet.peerHolds (s : State) (m : Move) : Quiet s (s.peerHolds m) :=
  (((Upkeep.dropChart m.index).quiet.trans (Quiet.modStay m.index _)).trans (Quiet.stCnt (by decide))).trans (Quiet.setMove _ _)

theorem completes_lodgeAck_last {s : State} {f g : Frame} {m : Move} (hc : Calm s) (hg : Answerable s g) (htrust : s.trusted f = true) (hphase : s.phase ≠ 6)
    (hm : s.stays.moves.find? (fun m => (m.kind == 2 || m.kind == 4) && m.stage == 2 && m.peer == f.srcCoord && m.tag == f.tag &&
      m.far == f.address % 2 ^ 18 && m.page == bitsOf f.address 41 18) = some m) (hkind : m.kind = 2) (hevict : m.evict = false)
    (hasker : m.asker = .request g) (hok : byteAt f.payload 0 = 0) (hlast : m.pages ≤ m.page + 1) (hwait : s.stays.waiting = []) :
    Completes (.lodgeAck f) s (fun t => (t.stay m.index).state = 4 ∧ (t.stay m.index).loc = m.peer * 2 ^ 18 + m.far ∧ t.move? m.index = none ∧
      t.reg (ST_CNT 5) = s.reg (ST_CNT 5) + 1 ∧ Replied t g 0x2C (padTo 32 (natLE 1 2 ++ natLE 3 m.rooms))) := by
  have hexec := exec_lodgeAck_found htrust hphase hm hok
  have hup : Upkeep (s.takeAgent f) ((s.takeAgent f).dropPage m.index m.page) := Upkeep.dropPage m.index m.page
  rw [State.pageAcked, if_neg (by omega), if_pos hkind, State.peerParked_eq hevict (by rw [hup.waiting, State.stays_takeAgent, hwait]), hasker] at hexec
  generalize (s.takeAgent f).dropPage m.index m.page = x at hexec hup
  refine ⟨_, hexec, ?_, ?_, ?_, ?_, replied_after hc hg.reaches (((Quiet.takeAgent f).trans hup.quiet).trans (Quiet.peerHolds x m)).carries 0x2C _
    (Carries.refl _)⟩
  · rw [State.stay_retryAgents, State.stay_answer, State.stay_peerHolds]
  · rw [State.stay_retryAgents, State.stay_answer, State.stay_peerHolds]
  · rw [State.move?_congr (congrArg _ (stays_retryAgents _)), State.move?_congr (congrArg _ (stays_answer _ _ _ _)), State.peerHolds,
      State.move?_setMove_none]
  · rw [State.reg_retryAgents (offCore_stCnt (by decide)), State.answer, State.reg_agentSend (offCore_stCnt (by decide)), State.peerHolds, State.reg_setMove,
      State.reg_count_same, State.reg_modStay _ _ _ (by decide), (Upkeep.dropChart m.index).reg _ (not_innReg_stCnt (by decide)),
      hup.reg _ (not_innReg_stCnt (by decide)), State.reg_takeAgent (offCore_stCnt (by decide)).1]

end Sys2Proof.Machine
end

section
/-! PROOF. O28: pages that arrive at a guest, and the statement (R226). -/

-- Proofs are checked one at a time: side by side they would only wait for one another.
set_option Elab.async false

namespace Sys2Proof.Machine
open Sys2Proof

/-! ### A chart of one node (R218) -/

/-- The bytes of a node's entry. -/
def nodeSlot (node page : Nat) : Nat := node * 256 + 4 * page

/-- The pair that a node's entry lies in. -/
def nodePair (node page : Nat) : Nat := node * 4 + page / 16

theorem pairsOf_nodeSlot {node page p : Nat} (hp : p ∈ pairsOf (nodeSlot node page) 4) : p = nodePair node page := by
  have := (mem_pairsOf (by decide)).1 hp
  unfold nodeSlot at this
  unfold nodePair
  omega

section
variable {s : State} {node page : Nat} (hs : Sound s) (hgood : s.PairGood (nodePair node page))
include hs hgood

theorem Sound.nodeEntry : s.nodeEntry node page = (some (leNat (s.peek (nodeSlot node page) 4) % 2 ^ 24), (s.nodeEntry node page).2) := by
  refine Prod.ext ?_ rfl
  rw [State.nodeEntry_eq, ← nodeSlot, porterRead_good hs fun p hp => pairsOf_nodeSlot hp ▸ hgood]
  rfl

/-- What a page's room is in a chart of one node. -/
theorem Sound.pageRoom_leaf {i : Nat} (hroot : (s.stay i).root = node) (hnode : 0 < node) (hdepth : (s.stay i).depth = 0) (hpage : page < 64) :
    (s.pageRoom i page).1 = some (leNat (s.peek (nodeSlot node page) 4) % 2 ^ 24) := by
  have hplace : page / 64 ^ 0 % 64 = page := by rw [pow_zero, Nat.div_one, Nat.mod_eq_of_lt hpage]
  have hin : ¬(node = 0 ∨ 64 ^ (0 + 1) ≤ page) := by omega
  rw [State.pageRoom, hroot, hdepth, if_neg hin, State.chartWalk, hplace, hs.nodeEntry hgood]
  rfl

/-- An entry of a chart of one node is put. -/
theorem Sound.chartPut_leaf (hpage : page < 64) (room : Nat) : State.chartPut 1 s node page room =
    some (leNat (s.peek (nodeSlot node page) 4) % 2 ^ 24 == 0, (s.nodeEntry node page).2.porterWrite (nodeSlot node page) (natLE 4 room)) := by
  have hplace : page / 64 ^ 0 % 64 = page := by rw [pow_zero, Nat.div_one, Nat.mod_eq_of_lt hpage]
  rw [State.chartPut, hplace, hs.nodeEntry hgood]
  rfl

/-- What an entry put reads as. -/
theorem Sound.entry_put (room : Nat) :
    Sound ((s.nodeEntry node page).2.porterWrite (nodeSlot node page) (natLE 4 room)) ∧
    ((s.nodeEntry node page).2.porterWrite (nodeSlot node page) (natLE 4 room)).peek (nodeSlot node page) 4 = natLE 4 room ∧
    SameGood s ((s.nodeEntry node page).2.porterWrite (nodeSlot node page) (natLE 4 room)) := by
  have hread := (reads_nodeEntry node page).after (.refl hs)
  have hcount := hread.pool.sound.countBy (nodeSlot node page / 2 ^ 37 % 8) 6 ((nodeSlot node page + (natLE 4 room).length - 1) / 32 -
    nodeSlot node page / 32 + 1)
  have hwrite := hcount.sound.poolWrite (a := nodeSlot node page) (bs := natLE 4 room) fun p hp => by
    rw [length_natLE] at hp
    exact (hcount.same.pairGood p).2 ((hread.pool.same.pairGood p).2 (pairsOf_nodeSlot hp ▸ hgood))
  have hpeek := hwrite.peek_same
  rw [length_natLE] at hpeek
  exact ⟨hwrite.sound, hpeek, hread.pool.same.trans (hcount.same.trans hwrite.same)⟩

/-- A page is entered in a chart of one node. -/
theorem Sound.setPage_leaf {i : Nat} (hroot : (s.stay i).root = node) (hnode : 0 < node) (hdepth : (s.stay i).depth = 0) (hpage : page < 64) {room : Nat}
    (hroom : room < 2 ^ 24) : ∃ t, s.setPage i page room = some t ∧ Sound t ∧ SameGood s t ∧ (t.pageRoom i page).1 = some room := by
  obtain ⟨hsound, hpeek, hsame⟩ := hs.entry_put hgood room
  have hgrow : State.growChart 4 s i page = some s := by
    rw [State.growChart, hdepth, if_pos (by omega)]
  have hstay : ((s.nodeEntry node page).2.porterWrite (nodeSlot node page) (natLE 4 room)).stay i = s.stay i :=
    State.stay_congr ((State.stays_porterWrite _ _ _).trans (within_nodeEntry.same .stays (by decide))) i
  have hput := hs.chartPut_leaf hgood hpage room
  generalize (s.nodeEntry node page).2.porterWrite (nodeSlot node page) (natLE 4 room) = x at hsound hpeek hsame hstay hput
  have hentry : leNat (natLE 4 room) % 2 ^ 24 = room := by rw [leNat_natLE, Nat.mod_eq_of_lt (lt_trans hroom (by decide)), Nat.mod_eq_of_lt hroom]
  have hset : s.setPage i page room = some (if (leNat (s.peek (nodeSlot node page) 4) % 2 ^ 24 == 0) = true
      then x.modStay i (fun e => { e with rooms := e.rooms + 1 }) else x) := by
    rw [State.setPage, hgrow]
    dsimp only
    rw [hroot, if_pos (by omega)]
    dsimp only
    rw [hdepth, hroot, hput]
  refine ⟨_, hset, ?_⟩
  split
  · have hmem : (x.modStay i (fun e => { e with rooms := e.rooms + 1 })).mem = x.mem := x.mem_setStay i _
    have hlike : SamePool x (x.modStay i (fun e => { e with rooms := e.rooms + 1 })) := .of_mem hsound hmem (x.reg_modStay i _ (by decide))
    refine ⟨hlike.sound, hsame.trans hlike.same, ?_⟩
    rw [hlike.sound.pageRoom_leaf (((hsame.trans hlike.same).pairGood _).2 hgood) (node := node) (by rw [State.stay_modStay_same, hstay, hroot]) hnode
      (by rw [State.stay_modStay_same, hstay, hdepth]) hpage, hlike.peek, hpeek, hentry]
  · refine ⟨hsound, hsame, ?_⟩
    rw [hsound.pageRoom_leaf ((hsame.pairGood _).2 hgood) (node := node) (by rw [hstay, hroot]) hnode (by rw [hstay, hdepth]) hpage, hpeek, hentry]

end

/-! ### A piece written over a buffer that is empty -/

/-- The buffer stays empty, no pair is poisoned anew, and the stacks are as they were. -/
structure Plainly (s t : State) : Prop where
  merge : t.mem.merge = []
  clean : ∀ p, s.poisoned p = false → t.poisoned p = false
  lost : ∀ n, t.stackLost n = s.stackLost n

theorem Plainly.good {s t : State} (h : Plainly s t) {p : Nat} (hp : s.PairGood p) : t.PairGood p := ⟨(h.lost _).trans hp.1, h.clean p hp.2⟩

theorem Plainly.putPair {s t : State} (h : Plainly s t) (p : Nat) (d : List Byte) : Plainly s (t.putPair p d) := by
  rw [State.putPair]
  split
  · exact h
  · refine ⟨?_, fun q hq => ?_, h.lost⟩
    · show t.mem.merge.filter _ = []
      rw [h.merge, List.filter_nil]
    · show sparseGet false (sparseErase t.mem.poison p) q = false
      by_cases hpq : q = p
      · rw [hpq, sparseGet_erase_same]
      · rw [sparseGet_erase_other hpq]
        exact h.clean q hq

theorem Plainly.poolWrite {s : State} (h : s.mem.merge = []) {a : Nat} {bs : List Byte} (halign : a % 64 = 0) (hlen : bs.length % 64 = 0) :
    Plainly s (s.poolWrite a bs) := by
  have hfuel : ∀ (n : Nat) (x : State) (a : Nat) (bs : List Byte), Plainly s x → a % 64 = 0 → bs.length % 64 = 0 →
      Plainly s (State.poolWriteFuel n x a bs) := by
    intro n
    induction n with
    | zero => exact fun x _ _ hx _ _ => hx
    | succ n ih =>
      intro x a bs hx ha hl
      rw [State.poolWriteFuel]
      split
      · exact hx
      next hne =>
        have hpart : (bs.take 64).length = 64 := by
          have : bs.length ≠ 0 := fun h => hne (by simp [List.length_eq_zero_iff.1 h])
          simp
          omega
        simp only [ha, Nat.sub_zero, hpart, if_true]
        exact ih _ _ _ (hx.putPair _ _) (by omega) (by rw [List.length_drop]; omega)
  exact hfuel _ (s.transferred _) a bs ⟨h, fun _ hp => hp, fun _ => rfl⟩ halign hlen

/-! ### LODGE (R226) -/

theorem exec_lodge (f : Frame) (s : State) : exec (.lodge f) s = execLodge f s := rfl

theorem State.takesPages_congr {s t : State} (h : t.stays = s.stays) (c : Card) (i coord page : Nat) : t.takesPages c i coord page = s.takesPages c i coord page := by
  rw [State.takesPages, State.stay_congr h, State.move?_congr (congrArg _ h), h, State.takesPages]

section
variable {s : State} {f : Frame} {i : Nat} {a : Arriving} (htrust : s.trusted f = true) (hphase : s.phase ≠ 6) (hi : f.address % 2 ^ 18 = i)
  (hcard : CardClean s i) (hpoison : f.poison = []) (htakes : s.takesPages (s.card i) i f.srcCoord (bitsOf f.address 41 18) = true)
  (hlen : f.payload.length = 4096)
  (hfind : s.stays.arriving.find? (fun a => a.index == i && a.page == bitsOf f.address 41 18) = some a)

/-- The piece is written where the page's room stands. -/
def State.lodged (s : State) (f : Frame) (i : Nat) (a : Arriving) : State :=
  ((s.takeAgent f).readCard i).2.writePiece (a.room * 65536 + 4096 * bitsOf f.address 45 42) f.payload []

theorem stays_lodged (s : State) (f : Frame) (i : Nat) (a : Arriving) : (s.lodged f i a).stays = s.stays :=
  (stays_writePiece _ _ _ _).trans ((stays_readCard _ i).trans (s.stays_takeAgent f))

theorem Upkeep.lodged (s : State) (f : Frame) (i : Nat) (a : Arriving) : Upkeep (s.takeAgent f) (s.lodged f i a) :=
  (Upkeep.readCard i).trans (Upkeep.writePiece _ _ _)

include htrust hphase hi hcard hpoison htakes hlen hfind

theorem exec_lodge_found : exec (.lodge f) s = .next (if bitsOf f.address 45 42 ≠ 15 then s.lodged f i a else
    if a.mend then ((s.lodged f i a).pageArrived a).answer (.request f) 0x35 [0]
    else (((s.lodged f i a).pageArrived a).answer (.request f) 0x35 [0]).nextPage i).retryAgents := by
  obtain ⟨hread, -⟩ := (ReadsAs.takeAgent (.of_nil hcard.1) f).readCard hcard.2.1 hcard.2.2
  have hstays : ((s.takeAgent f).readCard i).2.stays = s.stays := (stays_readCard _ i).trans (s.stays_takeAgent f)
  rw [exec_lodge, execLodge, innServe_trusted hphase htrust]
  dsimp only
  rw [hi, hread]
  dsimp only
  rw [State.takesPages_congr hstays, htakes, hstays, hfind, hpoison]
  simp only [Bool.not_true, Bool.false_eq_true, if_false, hlen, ne_eq, not_true_eq_false]
  rfl

theorem completes_lodge (hk : bitsOf f.address 45 42 < 15) (hup : s.stackLost (roomStack a.room) = false) : Completes (.lodge f) s (fun t =>
    t.peek (a.room * 65536 + 4096 * bitsOf f.address 45 42) 4096 = f.payload ∧ t.stays = s.stays) := by
  have hexec := exec_lodge_found htrust hphase hi hcard hpoison htakes hlen hfind
  obtain ⟨-, hreads⟩ := (ReadsAs.takeAgent (.of_nil hcard.1) f).readCard hcard.2.1 hcard.2.2
  rw [if_pos (by omega)] at hexec
  refine ⟨_, hexec, ?_, ?_⟩
  · rw [State.peek_congr_mem (mem_retryAgents _)]
    exact State.peek_writePiece (by omega) ((hreads.stackLost _).trans hup) hlen
  · rw [stays_retryAgents, stays_lodged]

end

/-- The pair of an entry in the charts' part of the pool. -/
theorem nodePair_good {s : State} {node page : Nat} (hup : s.stackLost 0 = false) (hlow : node < 4194304) (hpage : page < 64)
    (hclean : ∀ e ∈ s.mem.poison, e.1 / 4 ≠ node) : s.PairGood (nodePair node page) := by
  have hstack : pairStack (nodePair node page) = 0 := by
    unfold pairStack nodePair
    omega
  refine ⟨by rw [hstack, hup], sparseGet_of_not_mem fun e he heq => hclean e he ?_⟩
  rw [heq, nodePair]
  omega

/-- A piece written spoils no pair, and leaves the buffer empty. -/
theorem lodged_good {s : State} {f : Frame} {i p : Nat} (a : Arriving) (hmerge : s.mem.merge = []) (hlen : f.payload.length = 4096) (hp : s.PairGood p) :
    Sound (s.lodged f i a) ∧ (s.lodged f i a).PairGood p := by
  have hreads : ReadsAs s ((s.takeAgent f).readCard i).2 := (reads_readCard i).after (.takeAgent (.of_nil hmerge) f)
  have hstill := still_readCard (s := s.takeAgent f) (by rw [mem_takeAgent, hmerge]) i
  have hplain : Plainly ((s.takeAgent f).readCard i).2 (s.lodged f i a) := Plainly.poolWrite hstill.2.2 (by omega) (by rw [hlen])
  exact ⟨.of_nil hplain.merge, hplain.good ((hreads.pool.same.pairGood p).2 hp)⟩

/-- The page is no longer on its way. -/
def State.pageHere (s : State) (a : Arriving) : State := s.modStays (fun u => { u with arriving := u.arriving.filter (fun x => x != a) })

theorem State.stay_pageHere (s : State) (a : Arriving) (i : Nat) : (s.pageHere a).stay i = s.stay i := s.stay_modStays _ (fun _ => rfl) i

theorem Quiet.pageHere (s : State) (a : Arriving) : Quiet s (s.pageHere a) := Quiet.modStays _

theorem State.arriving_pageHere (s : State) (a : Arriving) : a ∉ (s.pageHere a).stays.arriving := by
  intro h
  have h2 := (List.mem_filter.1 h).2
  simp at h2

theorem State.moves_pageHere (s : State) (a : Arriving) : (s.pageHere a).stays.moves = s.stays.moves := rfl

theorem State.move?_nil {s : State} (h : s.stays.moves = []) (i : Nat) : s.move? i = none := by
  rw [State.move?, h]
  rfl

/-- A page that has arrived whole at a guest is entered in its chart. -/
theorem State.pageArrived_guest {s t : State} {a : Arriving} (hmend : a.mend = false) (hmoves : s.stays.moves = [])
    (hset : (s.pageHere a).setPage a.index a.page a.room = some t) : s.pageArrived a = t := by
  rw [State.pageArrived, hmend, if_neg (by decide), ← State.pageHere, State.move?_nil (s := s.pageHere a) hmoves, hset]
  rfl

theorem State.nextPage_nil {s : State} (h : s.stays.moves = []) (i : Nat) : s.nextPage i = s := by
  rw [State.nextPage, State.move?_nil h]

theorem completes_lodge_last {s : State} {f : Frame} {i : Nat} {a : Arriving} (h : InnPeer s f) (hi : f.address % 2 ^ 18 = i) (hstate : (s.stay i).state = 8)
    (hcoord : (s.stay i).twinCoord = f.srcCoord) (hpage : bitsOf f.address 41 18 < (s.card i).pages (s.stay i).tokens) (hlen : f.payload.length = 4096)
    (hk : bitsOf f.address 45 42 = 15) (hclean : s.poisoned (cardAt i / 64) = false) (hpoison : f.poison = [])
    (hfind : s.stays.arriving.find? (fun a => a.index == i && a.page == bitsOf f.address 41 18) = some a) (hmend : a.mend = false) (haindex : a.index = i)
    (hapage : a.page = bitsOf f.address 41 18) (hroom : a.room < 2 ^ 24) (hmoves : s.stays.moves = []) (hdepth : (s.stay i).depth = 0)
    (hroot : 0 < (s.stay i).root) (hlow : (s.stay i).root < 4194304) (h64 : bitsOf f.address 41 18 < 64)
    (hchart : ∀ e ∈ s.mem.poison, e.1 / 4 ≠ (s.stay i).root) : Completes (.lodge f) s (fun t =>
      (t.pageRoom i (bitsOf f.address 41 18)).1 = some a.room ∧ a ∉ t.stays.arriving ∧ Replied t f 0x35 (padTo 32 [0])) := by
  have hcard : CardClean s i := ⟨h.2.2.2.2.2.2.2, h.up (by omega), hclean⟩
  have htakes : s.takesPages (s.card i) i f.srcCoord (bitsOf f.address 41 18) = true := by simp [State.takesPages, hstate, hcoord, hpage]
  have hexec := exec_lodge_found h.2.2.1 h.2.2.2.1 hi hcard hpoison htakes hlen hfind
  rw [if_neg (by omega), hmend, if_neg (by decide)] at hexec
  obtain ⟨hsound, hgood⟩ := lodged_good (f := f) (i := i) a hcard.1 hlen (nodePair_good h.2.2.2.2.2.2.1 hlow h64 hchart)
  have hstays := stays_lodged s f i a
  have hup := Upkeep.lodged s f i a
  generalize s.lodged f i a = x at hexec hsound hgood hstays hup
  have hlike : SamePool x (x.pageHere a) := .of_mem hsound rfl rfl
  have hstay : (x.pageHere a).stay i = s.stay i := (x.stay_pageHere a i).trans (State.stay_congr hstays i)
  obtain ⟨t, hset, hsound', -, hpageRoom⟩ := hlike.sound.setPage_leaf ((hlike.same.pairGood _).2 hgood) (i := i) (by rw [hstay]) hroot (by rw [hstay, hdepth])
    h64 hroom
  have hkept := Upkeep.setPage hset
  have hmoves' : x.stays.moves = [] := by rw [hstays, hmoves]
  have htmoves : t.stays.moves = [] := by rw [hkept.moves, State.moves_pageHere, hmoves']
  rw [State.pageArrived_guest hmend hmoves' (by rw [haindex, hapage, hset]), State.nextPage_nil (by rw [stays_answer, htmoves])] at hexec
  have hanswer : ReadsAs t (t.answer (.request f) 0x35 [0]) := (ReadsAs.refl hsound').agentSend 0 _
  have hretry : ReadsAs t (t.answer (.request f) 0x35 [0]).retryAgents := hanswer.trans (.of_mem hanswer.pool.sound (mem_retryAgents _)
    (State.reg_retryAgents (offCore_between (by decide) (by decide))) (stays_retryAgents _))
  refine ⟨_, hexec, ?_, ?_, ?_⟩
  · rw [(reads_pageRoom _ _).answer hretry, hpageRoom]
  · rw [stays_retryAgents, stays_answer, hkept.arriving]
    exact x.arriving_pageHere a
  · exact replied_after h.1 h.reaches (((Quiet.takeAgent f).trans hup.quiet).trans ((Quiet.pageHere x a).trans hkept.quiet)).carries 0x35 [0] (Carries.refl _)

/-- Settles O28: parks as the home, the peer and the guest meet them, over what an innkeeper's frame does. -/
theorem parksComplete : Obligations.ParksComplete := by
  unfold Obligations.ParksComplete
  exact ⟨
    fun _ _ _ _ _ _ hc hg hm hkind hevict hasker hidle htokens hroot hphase hplace hnotify hcard hwait hup =>
      completes_parkToHost hc hg hm hkind hevict hasker hidle htokens hroot hphase hplace hnotify hcard hwait hup,
    fun _ _ _ _ hc hg hm hkind hevict hasker hidle hphase hring hwait hcard =>
      completes_parkToHost_refused hc hg hm hkind hevict hasker hidle hphase hring hwait hcard,
    fun _ _ _ _ hc hroute hm hkind hstage hidle hphase hcard hrooms => completes_parkToPeer hc hroute hm hkind hstage hidle hphase hcard hrooms,
    fun _ _ _ h hlen hcard hpages hfree hbooked hadmits => completes_lodgeBook h hlen hcard hpages hfree hbooked hadmits,
    fun _ _ h hlen => completes_lodgeBook_malformed h hlen,
    fun _ _ _ _ hc hroute htrust hphase hm hok hpages hmerge hroom hr hup hclean =>
      completes_lodgeBooked htrust hphase hm hc hroute hok hpages hmerge hroom hr hup hclean,
    fun _ _ _ _ hc hg htrust hphase hm hbad hevict hasker hwait => completes_lodgeBooked_refused htrust hphase hm hc hg hbad hevict hasker hwait,
    fun _ _ _ _ hphase htrust hi hcard hpoison htakes hlen hk hfind hup =>
      completes_lodge htrust hphase hi hcard hpoison htakes hlen hfind hk hup,
    fun _ _ _ _ h hi hstate hcoord hpage hlen hk hclean hpoison hfind hmend haindex hapage hroom hmoves hdepth hroot hlow h64 hchart =>
      completes_lodge_last h hi hstate hcoord hpage hlen hk hclean hpoison hfind hmend haindex hapage hroom hmoves hdepth hroot hlow h64 hchart,
    fun _ _ _ htrust hphase hm hok hmore _ => completes_lodgeAck_next htrust hphase hm hok hmore,
    fun _ _ _ _ hc hg htrust hphase hm hkind hevict hasker hok hlast _ hwait =>
      completes_lodgeAck_last hc hg htrust hphase hm hkind hevict hasker hok hlast hwait⟩

end Sys2Proof.Machine
end

section
/-! PROOF. O27, requests in their turn: parks asked for, stays brought back, and closes (R213, R223, R225, R227). -/

-- Proofs are checked one at a time: side by side they would only wait for one another.
set_option Elab.async false

namespace Sys2Proof.Machine
open Sys2Proof

/-! ### A request whose card is read (R213) -/

theorem exec_fork (f : Frame) (s : State) : exec (.fork f) s = s.roomRequest f := rfl

theorem exec_park (f : Frame) (s : State) : exec (.park f) s = s.roomRequest f := rfl

theorem exec_unpark (f : Frame) (s : State) : exec (.unpark f) s = s.roomRequest f := rfl

theorem exec_close (f : Frame) (s : State) : exec (.close f) s = s.roomRequest f := rfl

/-- The state in which a request's kind is looked at: its turn has come, and its stay's card is read. -/
def State.asked (s : State) (f : Frame) : State := ((s.turn f).readCard (f.address % 2 ^ 18)).2

section
variable {s : State} {f : Frame} {i : Nat}

theorem Quiet.turn (s : State) (f : Frame) : Quiet s (s.turn f) := by
  rw [State.turn, State.stamp]
  exact (Quiet.takeAgent f).trans (Quiet.modStay _ _)

theorem Upkeep.asked (s : State) (f : Frame) : Upkeep (s.turn f) (s.asked f) := Upkeep.readCard _

theorem Quiet.asked (s : State) (f : Frame) : Quiet s (s.asked f) := (Quiet.turn s f).trans (Upkeep.asked s f).quiet

theorem stays_asked (s : State) (f : Frame) : (s.asked f).stays = (s.stamp (f.address % 2 ^ 18)).stays := (stays_readCard _ _).trans (s.stays_turn f)

theorem State.stay_asked (s : State) (f : Frame) : (s.asked f).stay (f.address % 2 ^ 18) =
    { s.stay (f.address % 2 ^ 18) with lastUse := bitsOf s.now 43 28 } := (State.stay_congr (stays_readCard _ _) _).trans (s.stay_turn_same f)

theorem State.handleOf_asked (s : State) (f : Frame) : (s.asked f).handleOf (f.address % 2 ^ 18) = s.handleOf (f.address % 2 ^ 18) :=
  State.handleOf_congr (by rw [State.stay_asked])

theorem State.moves_stamp (s : State) (i : Nat) : (s.stamp i).stays.moves = s.stays.moves := by rw [State.stamp, State.modStay, State.stays_setStay]

theorem State.waiting_stamp (s : State) (i : Nat) : (s.stamp i).stays.waiting = s.stays.waiting := by rw [State.stamp, State.waiting_modStay]

theorem State.mirrorSeq_stamp (s : State) (i : Nat) : (s.stamp i).stays.mirrorSeq = s.stays.mirrorSeq := by rw [State.stamp, State.modStay, State.stays_setStay]

theorem State.moving_asked (s : State) (f : Frame) (i : Nat) : (s.asked f).moving i = s.moving i := by
  rw [State.moving, stays_asked, State.moves_stamp, State.moving]

theorem State.reg_asked (s : State) (f : Frame) {o : Nat} (ho : o < 0x00200000 ∨ 0x00400000 ≤ o) (hinn : ¬InnReg o) : (s.asked f).reg o = s.reg o :=
  ((Upkeep.asked s f).reg o hinn).trans (s.reg_turn f ho ⟨fun e => hinn (.inl e), fun e => hinn (.inr (.inl e))⟩)

theorem still_asked (h : s.mem.merge = []) (f : Frame) : Still s (s.asked f) := by
  have hturn := s.mem_turn f
  obtain ⟨hbytes, hpoison, hmerge⟩ := still_readCard (s := s.turn f) (by rw [hturn, h]) (f.address % 2 ^ 18)
  exact ⟨hbytes.trans (by rw [hturn]), hpoison.trans (by rw [hturn]), hmerge⟩

theorem InTurn.reads (h : InTurn s f i) : ReadsAs s (s.asked f) := (reads_readCard _).after (.turn h.sound f)

theorem InTurn.index (h : InTurn s f i) : f.address % 2 ^ 18 = i := h.2.1

theorem InTurn.answerable (h : InTurn s f i) : Answerable s f := h.1.2.1

theorem InTurn.calm (h : InTurn s f i) : Calm s := h.1.1

theorem InTurn.perform (h : InTurn s f i) (hrule : stateRule (s.stay i).state f.kind = .perform) :
    (s.turn f).request (.request f) f = (s.asked f).byKind i (s.stay i).state (s.card i) (.request f) f := by
  obtain ⟨hcard, -⟩ := h.card
  have hjudged := h.judged
  obtain rfl := h.index
  have hstate : ((s.turn f).stay (f.address % 2 ^ 18)).state = (s.stay (f.address % 2 ^ 18)).state := by rw [State.stay_turn_same]
  rw [hjudged.perform (.request f) (by rw [hstate, hrule]) hcard, hstate]
  rfl

theorem InTurn.remirroring (h : InTurn s f i) : (s.asked f).remirroring i = false := by
  obtain ⟨-, -, -, hmirrors⟩ := h.card
  obtain rfl := h.index
  exact hmirrors

/-! ### PARK (R225, R226) -/

section
variable (h : InTurn s f i) (hkind : f.kind = 0x24) (hstate : (s.stay i).state = 1) (hmoving : s.moving i = false)
include h hkind hstate hmoving

omit hmoving in
theorem InTurn.park_request : (s.turn f).request (.request f) f = (s.asked f).park i (s.card i) (.request f) f.payload := by
  rw [h.perform (by rw [hstate, hkind]; rfl), State.byKind, h.remirroring]
  simp only [hkind]
  rfl

theorem completes_park_host (hhost : byteAt f.payload 0 = 1) : Completes (.park f) s (fun t =>
    t.stays.moves = s.stays.moves ++ [⟨i, .request f, 1, false, false, 0, 0, 0, 0, 0, 0, 0⟩] ∧
    (t.stay i).state = 1 ∧ t.mem.bytes = s.mem.bytes ∧ t.mem.poison = s.mem.poison) := by
  have hreq : (s.turn f).request (.request f) f = .done ((s.asked f).moveTaken ⟨i, .request f, 1, false, false, 0, 0, 0, 0, 0, 0, 0⟩) := by
    rw [h.park_request hkind hstate, State.park]
    simp only [State.moving_asked, hmoving, hhost, Bool.false_eq_true, if_false, if_true]
    rfl
  obtain ⟨hbytes, hpoison, -⟩ := still_asked h.1.2.2.2.2.2.2 f
  have hmem : (((s.asked f).moveTaken ⟨i, .request f, 1, false, false, 0, 0, 0, 0, 0, 0, 0⟩).retryAgents).mem = (s.asked f).mem := mem_retryAgents _
  refine ⟨_, (exec_park f s).trans (h.done (by rw [hstate, hkind]; decide) hreq), ?_, ?_, by rw [hmem, hbytes], by rw [hmem, hpoison]⟩
  · rw [stays_retryAgents, State.moves_moveTaken, stays_asked, State.moves_stamp]
  · obtain rfl := h.index
    rw [State.stay_retryAgents, State.stay_moveTaken, State.stay_asked, hstate]

theorem completes_park_nowhere (hpeer : byteAt f.payload 0 = 2) (hnamed : leAt f.payload 12 2 = 0) (hnone : (s.card i).peer = none) :
    Completes (.park f) s (fun t => t.stays = (s.stamp i).stays ∧ Replied t f 0x2F (padTo 32 [0x0C, 0x24])) := by
  have hreq : (s.turn f).request (.request f) f = .refused (s.asked f) 0x0C := by
    have hinvalid : validCoord 0 = none := by decide
    rw [h.park_request hkind hstate, State.park]
    simp only [State.moving_asked, hmoving, hpeer, hnamed, hnone, hinvalid, Bool.false_eq_true, if_false, Option.orElse]
    rfl
  refine ⟨_, (exec_park f s).trans (h.refused (by rw [hstate, hkind]; decide) hreq), ?_, ?_⟩
  · rw [stays_retryAgents, stays_refuse, stays_asked, h.index]
  · rw [hkind]
    exact refused_after h.calm h.answerable.reaches (Quiet.asked s f).carries (by decide) (by decide) (Carries.refl _)

end

/-! ### UNPARK (R225, R227) -/

theorem completes_unpark_open (h : InTurn s f i) (hkind : f.kind = 0x25) (hstate : (s.stay i).state = 1) (hmoving : s.moving i = false) :
    Completes (.unpark f) s (fun t => t.stays = (s.stamp i).stays ∧ Replied t f 0x2D (padTo 32 (natLE 3 (s.stay i).tokens ++ natLE 3 0))) := by
  have hjudged := h.judged
  have hreq : (s.turn f).request (.request f) f = .done ((s.turn f).answer (.request f) 0x2D (natLE 3 (s.stay i).tokens ++ natLE 3 0)) := by
    obtain rfl := h.index
    have hmoving' : (s.turn f).moving (f.address % 2 ^ 18) = false := by rw [State.moving, State.stays_turn, State.moves_stamp, ← State.moving, hmoving]
    rw [State.request]
    simp only [hjudged.opened, hjudged.docket, hjudged.gen, hjudged.party]
    have hrule : stateRule 1 0x25 = .atOnce := rfl
    simp only [State.stay_turn_same, hstate, hkind, hmoving', hrule, ne_eq, not_true_eq_false, reduceCtorEq, or_self, Bool.not_true, Bool.false_eq_true,
      if_false, if_true]
  refine ⟨_, (exec_unpark f s).trans (h.done (by rw [hstate, hkind]; decide) hreq), ?_, ?_⟩
  · rw [stays_retryAgents, stays_answer, State.stays_turn, h.index]
  · exact replied_after h.calm h.answerable.reaches (Quiet.turn s f).carries 0x2D _ (Carries.refl _)

/-- An entry put back with its booking unchanged leaves the total. -/
theorem State.bookedTotal_setStay {s : State} {i : Nat} {e : Stay} (h : e.booked = (s.stay i).booked) :
    (s.setStay i e).fld ST_STATUS_BOOKED_TOTAL = s.fld ST_STATUS_BOOKED_TOTAL := by
  rw [State.setStay, h, Nat.add_sub_cancel]
  refine (State.fld_setFld_off _ ST_USE_STAYS_USED ST_STATUS_BOOKED_TOTAL _ (by decide)).trans ?_
  exact State.fld_setFld_fits _ (by decide) (s.fld_lt ST_STATUS_BOOKED_TOTAL)

/-- What is admitted in a request's turn is what was admitted before it. -/
theorem State.admits_asked (s : State) (f : Frame) (e : Stay) (k : Nat) : (s.asked f).admits e k = s.admits e k := by
  have hturn : (s.turn f).admits e k = s.admits e k := by
    rw [State.turn, State.stamp]
    refine (State.admits_congr (s := s.takeAgent f) (e := e) rfl rfl (State.reg_modStay _ _ _ (by decide)) (State.freeRooms_setStay _ _ _)
      (State.bookedTotal_setStay rfl) k).trans ?_
    exact State.admits_congr rfl rfl (State.reg_takeAgent (by decide) f) (fld_takeAgent s f (by decide)) (fld_takeAgent s f (by decide)) k
  exact (State.admits_readCard _ _ e k).trans hturn

/-- The stay's rooms are booked, its move is on the list, and it is coming back. -/
def State.comingBack (s : State) (i pages : Nat) (m : Move) : State :=
  (((s.modStay i (fun e => { e with booked := e.booked + pages })).tagTaken).moveTaken m).modStay i (fun e => { e with state := 5 })

theorem State.stay_comingBack (s : State) (i pages : Nat) (m : Move) : (s.comingBack i pages m).stay i =
    { s.stay i with booked := (s.stay i).booked + pages, state := 5 } := by
  rw [State.comingBack, State.stay_modStay_same, State.stay_moveTaken, State.stay_tagTaken, State.stay_modStay_same]

theorem State.moves_modStay (s : State) (i : Nat) (g : Stay → Stay) : (s.modStay i g).stays.moves = s.stays.moves := by
  rw [State.modStay, State.stays_setStay]

theorem State.mirrorSeq_modStay (s : State) (i : Nat) (g : Stay → Stay) : (s.modStay i g).stays.mirrorSeq = s.stays.mirrorSeq := by
  rw [State.modStay, State.stays_setStay]

theorem State.moves_tagTaken (s : State) : s.tagTaken.stays.moves = s.stays.moves := rfl

theorem State.moves_comingBack (s : State) (i pages : Nat) (m : Move) : (s.comingBack i pages m).stays.moves = s.stays.moves ++ [m] := by
  rw [State.comingBack, State.moves_modStay, State.moves_moveTaken, State.moves_tagTaken, State.moves_modStay]

theorem completes_unpark_peer (h : InTurn s f i) (hkind : f.kind = 0x25) (hstate : (s.stay i).state = 4)
    (hadmits : s.admits (s.stay i) ((s.card i).pages (s.stay i).tokens) = true) : Completes (.unpark f) s (fun t => (t.stay i).state = 5 ∧
      (t.stay i).booked = (s.stay i).booked + (s.card i).pages (s.stay i).tokens ∧
      t.stays.moves = s.stays.moves ++ [⟨i, .request f, 3, false, false, (s.stay i).loc / 2 ^ 18, (s.stay i).loc % 2 ^ 18, 1, 0, s.stays.mirrorSeq % 16384, 0,
        (s.card i).pages (s.stay i).tokens⟩]) := by
  have hindex := h.index
  have hstay : (s.asked f).stay i = { s.stay i with lastUse := bitsOf s.now 43 28 } := hindex ▸ s.stay_asked f
  have hstays : (s.asked f).stays = (s.stamp i).stays := hindex ▸ stays_asked s f
  have hreq0 : (s.turn f).request (.request f) f = (s.asked f).unparkPeer i (s.card i) (.request f) := by
    rw [h.perform (by rw [hstate, hkind]; rfl), State.byKind, hstate]
    simp only [hkind]
    rfl
  have hadmits' : (s.asked f).admits ((s.asked f).stay i) ((s.card i).pages (s.stay i).tokens) = true := by
    rw [State.admits_asked, ← hadmits, hstay]
    rfl
  have hmoves : (s.asked f).stays.moves = s.stays.moves := by rw [hstays, State.moves_stamp]
  have hseq : (s.asked f).stays.mirrorSeq = s.stays.mirrorSeq := by rw [hstays, State.mirrorSeq_stamp]
  generalize s.asked f = x at hstay hreq0 hadmits' hmoves hseq
  have htokens : (x.stay i).tokens = (s.stay i).tokens := by rw [hstay]
  have hloc : (x.stay i).loc = (s.stay i).loc := by rw [hstay]
  have hbooked : (x.stay i).booked = (s.stay i).booked := by rw [hstay]
  have hreq : (s.turn f).request (.request f) f = .done ((x.comingBack i ((s.card i).pages (s.stay i).tokens) ⟨i, .request f, 3, false, false,
      (s.stay i).loc / 2 ^ 18, (s.stay i).loc % 2 ^ 18, 1, 0, s.stays.mirrorSeq % 16384, 0, (s.card i).pages (s.stay i).tokens⟩).toInn
      ((s.stay i).loc / 2 ^ 18) 0x36 (x.stay i).party (x.stay i).ownerRank ((s.stay i).loc % 2 ^ 18) (s.stays.mirrorSeq % 16384) []) := by
    rw [hreq0, State.unparkPeer, htokens, State.book, hadmits', if_pos rfl, ← hloc, ← hseq, ← State.mirrorSeq_modStay x i]
    rfl
  refine ⟨_, (exec_unpark f s).trans (h.done (by rw [hstate, hkind]; decide) hreq), ?_, ?_, ?_⟩
  · rw [State.stay_retryAgents, State.stay_toInn, State.stay_comingBack]
  · rw [State.stay_retryAgents, State.stay_toInn, State.stay_comingBack, hbooked]
  · rw [stays_retryAgents, stays_toInn, State.moves_comingBack, hmoves]

/-! ### CLOSE (R223) -/

section
variable (h : InTurn s f i) (hkind : f.kind = 0x26)
include h hkind

theorem InTurn.close_request (hrule : stateRule (s.stay i).state 0x26 = .perform) (hmoving : s.moving i = false) :
    (s.turn f).request (.request f) f = .done ((s.asked f).closeStay i (.request f) f) := by
  rw [h.perform (by rw [hkind, hrule]), State.byKind, h.remirroring]
  simp only [hkind, State.moving_asked, hmoving]
  rfl

theorem completes_close_waits (hstate : (s.stay i).state = 1) (hmoving : s.moving i = false) : Completes (.close f) s (fun t =>
    (t.stay i).state = 6 ∧ t.stays.waiting = s.stays.waiting ++ [⟨i, .request f, f, none, none, none, true⟩]) := by
  have hstay : ((s.asked f).stay i).state = 1 := by
    obtain rfl := h.index
    rw [State.stay_asked, hstate]
  have hwaiting : (s.asked f).stays.waiting = s.stays.waiting := by rw [stays_asked, State.waiting_stamp]
  have hclose : (s.asked f).closeStay i (.request f) f = ((s.asked f).modStay i (fun e => { e with state := 6 })).modStays (fun u => { u with
      waiting := u.waiting ++ [⟨i, .request f, f, none, none, none, true⟩] }) := by
    rw [State.closeStay, hstay]
    rfl
  refine ⟨_, (exec_close f s).trans (h.done (by rw [hstate, hkind]; decide) (h.close_request hkind (by rw [hstate]; rfl) hmoving)), ?_, ?_⟩
  · rw [State.stay_retryAgents, hclose]
    refine (congrArg Stay.state (State.stay_modStays ((s.asked f).modStay i (fun e => { e with state := 6 })) _ (fun _ => rfl) i)).trans ?_
    rw [State.stay_modStay_same]
  · rw [stays_retryAgents, hclose]
    show (((s.asked f).modStay i (fun e => { e with state := 6 })).stays.waiting ++ _) = _
    rw [State.waiting_modStay, hwaiting]

theorem completes_close_evicted (hstate : (s.stay i).state = 9) (htwin : (s.stay i).twinValid = false) (hmoving : s.moving i = false) :
    Completes (.close f) s (fun t => t.stay i = { freeStay with gen := ((s.stay i).gen + 1) % 16384 } ∧ Replied t f 0x2E (padTo 32 [0, 0, 0])) := by
  have hstay : (s.asked f).stay i = { s.stay i with lastUse := bitsOf s.now 43 28 } := by
    obtain rfl := h.index
    exact s.stay_asked f
  have hclose : (s.asked f).closeStay i (.request f) f = ((s.asked f).freeEntry i).answer (.request f) 0x2E [0, 0, 0] := by
    rw [State.closeStay, hstay]
    simp only [hstate, htwin]
    rfl
  refine ⟨_, (exec_close f s).trans (h.done (by rw [hstate, hkind]; decide) (h.close_request hkind (by rw [hstate]; rfl) hmoving)), ?_, ?_⟩
  · rw [State.stay_retryAgents, hclose, State.stay_answer, State.stay_freeEntry, hstay]
  · rw [hclose]
    exact replied_after h.calm h.answerable.reaches ((Quiet.asked s f).trans (Quiet.freeEntry i)).carries 0x2E [0, 0, 0] (Carries.refl _)

end

end

end Sys2Proof.Machine
end

section
/-! PROOF. O27, continued: a stay of no page comes back from the host (R225). -/

-- Proofs are checked one at a time: side by side they would only wait for one another.
set_option Elab.async false

namespace Sys2Proof.Machine
open Sys2Proof

theorem State.take_peek (s : State) (a : Nat) {n k : Nat} (h : k ≤ n) : (s.peek a n).take k = s.peek a k := by
  rw [State.peek_eq_map_byte, State.peek_eq_map_byte, ← List.map_take, List.take_range, Nat.min_eq_left h]

/-- What a read of a pair finds in the image of a stay of no page. -/
theorem image_header {s : State} {a i handle : Nat} (h : s.peek a 44 = s.peek (cardAt i) 32 ++ natLE 4 0 ++ natLE 4 0 ++ natLE 4 handle) (hlt : handle < 256 ^ 4) :
    (s.peek a 64).take 32 = s.peek (cardAt i) 32 ∧ leAt (s.peek a 64) 32 4 = 0 ∧ leAt (s.peek a 64) 40 4 = handle := by
  have hcard : (s.peek (cardAt i) 32).length = 32 := s.length_peek _ _
  have hhead : ∀ off, off + 4 ≤ 44 → leAt (s.peek a 64) off 4 = leAt (s.peek a 44) off 4 := fun off hoff => by
    rw [leAt_peek s (by omega), leAt_peek s hoff]
  refine ⟨?_, ?_, ?_⟩
  · rw [s.take_peek a (by decide), ← s.take_peek a (k := 32) (n := 44) (by decide), h, List.append_assoc, List.append_assoc, List.take_left' hcard]
  · rw [hhead 32 (by decide), h, List.append_assoc _ (natLE 4 0) (natLE 4 handle), leAt_append_natLE hcard (by decide)]
  · rw [hhead 40 (by decide), h, ← List.append_nil (_ ++ natLE 4 handle), leAt_append_natLE (by simp [hcard, length_natLE]) hlt]

theorem State.admits_poolRead (s : State) (a n : Nat) (e : Stay) (k : Nat) : (s.poolRead a n).2.admits e k = s.admits e k := by
  have hreg : ∀ o < MEM_STATUS, (s.poolRead a n).2.reg o = s.reg o := fun o ho => State.reg_poolRead (offPool_of_lt ho) a n
  exact State.admits_congr rfl rfl (hreg _ (by decide)) (State.fld_eq_of_reg (f := ST_STATUS_FREE_ROOMS) (hreg _ (by decide)))
    (State.fld_eq_of_reg (f := ST_STATUS_BOOKED_TOTAL) (hreg _ (by decide))) k

/-- A stay of no page is open again. -/
def State.cameBack (s : State) (i : Nat) : State :=
  ((s.modStay i (fun e => { e with booked := e.booked + 0 })).modStay i (fun e => { e with state := 1 })).count (ST_CNT 6)

theorem State.state_cameBack (s : State) (i : Nat) : ((s.cameBack i).stay i).state = 1 := by
  rw [State.cameBack, State.stay_count, State.stay_modStay_same]

theorem State.cnt_cameBack (s : State) (i : Nat) : (s.cameBack i).reg (ST_CNT 6) = s.reg (ST_CNT 6) + 1 := by
  rw [State.cameBack, State.reg_count_same, State.reg_modStay _ _ _ (by decide), State.reg_modStay _ _ _ (by decide)]

theorem Quiet.cameBack (s : State) (i : Nat) : Quiet s (s.cameBack i) :=
  ((Quiet.modStay i _).trans (Quiet.modStay i _)).trans (Quiet.stCnt (by decide))

theorem completes_unpark_host {s : State} {f : Frame} {i : Nat} (h : InTurn s f i) (hkind : f.kind = 0x25) (hstate : (s.stay i).state = 3)
    (htokens : (s.stay i).tokens = 0) (hoff : leAt f.payload 0 3 < s.fld ST_INBOUND_ROOMS)
    (hup : s.stackLost (pairStack ((s.fld ST_INBOUND_BASE + leAt f.payload 0 3) * 1024)) = false)
    (hclean : s.poisoned ((s.fld ST_INBOUND_BASE + leAt f.payload 0 3) * 1024) = false)
    (himage : s.peek ((s.fld ST_INBOUND_BASE + leAt f.payload 0 3) * 65536) 44 = s.peek (cardAt i) 32 ++ natLE 4 0 ++ natLE 4 0 ++ natLE 4 (s.handleOf i))
    (hadmits : s.admits (s.stay i) 0 = true) (hhandle : s.handleOf i < 256 ^ 4) : Completes (.unpark f) s (fun t => (t.stay i).state = 1 ∧
      t.reg (ST_CNT 6) = s.reg (ST_CNT 6) + 1 ∧ Replied t f 0x2D (padTo 32 (natLE 3 0 ++ natLE 3 0))) := by
  have hreq0 : (s.turn f).request (.request f) f = (s.asked f).unparkHost i (s.card i) (.request f) f.payload := by
    rw [h.perform (by rw [hstate, hkind]; rfl), State.byKind, hstate]
    simp only [hkind]
    rfl
  have hreads := h.reads
  have hstay : (s.asked f).stay i = { s.stay i with lastUse := bitsOf s.now 43 28 } := h.index ▸ s.stay_asked f
  have hhandle' : (s.asked f).handleOf i = s.handleOf i := h.index ▸ s.handleOf_asked f
  have hbase : (s.asked f).fld ST_INBOUND_BASE = s.fld ST_INBOUND_BASE := State.fld_eq_of_reg (s.reg_asked f (by decide) (by unfold InnReg; decide))
  have hrooms : (s.asked f).fld ST_INBOUND_ROOMS = s.fld ST_INBOUND_ROOMS := State.fld_eq_of_reg (s.reg_asked f (by decide) (by unfold InnReg; decide))
  have hquiet := Quiet.asked s f
  have hcnt : (s.asked f).reg (ST_CNT 6) = s.reg (ST_CNT 6) := s.reg_asked f (.inr (by decide)) (not_innReg_stCnt (by decide))
  have hadmits' : (s.asked f).admits (s.stay i) 0 = true := (s.admits_asked f _ _).trans hadmits
  generalize s.asked f = x at *
  generalize hroom : s.fld ST_INBOUND_BASE + leAt f.payload 0 3 = room at *
  have hgood : ∀ p ∈ pairsOf (room * 65536) 64, x.PairGood p := by
    intro p hp
    have hp := (mem_pairsOf (by decide)).1 hp
    obtain rfl : p = room * 1024 := by omega
    exact (hreads.pool.same.pairGood _).2 ⟨hup, hclean⟩
  have hread : x.poolRead (room * 65536) 64 = (some (s.peek (room * 65536) 64), (x.poolRead (room * 65536) 64).2) :=
    Prod.ext ((hreads.pool.sound.poolRead hgood).trans (congrArg some (hreads.peek _ _))) rfl
  obtain ⟨hhead, hzero, hown⟩ := image_header himage hhandle
  have hafter : Upkeep x (x.poolRead (room * 65536) 64).2 := Upkeep.poolRead _ _
  have hstays : (x.poolRead (room * 65536) 64).2.stays = x.stays := within_poolRead.same .stays (by decide)
  have hbook : (x.poolRead (room * 65536) 64).2.book i 0 = some ((x.poolRead (room * 65536) 64).2.modStay i (fun e => { e with booked := e.booked + 0 })) := by
    rw [State.book, State.stay_congr hstays, State.admits_poolRead]
    exact if_pos (by rw [hstay]; exact hadmits')
  have hreq : (s.turn f).request (.request f) f = .done (((x.poolRead (room * 65536) 64).2.cameBack i).answer (.request f) 0x2D (natLE 3 0 ++ natLE 3 0)) := by
    have hin : ¬s.fld ST_INBOUND_ROOMS < leAt f.payload 0 3 + 0 + 1 := by omega
    have htok : (x.stay i).tokens = 0 := by rw [hstay, htokens]
    rw [hreq0, State.unparkHost, htok, Card.pages_zero, hrooms, if_neg hin, hbase, hroom, hread]
    dsimp only
    rw [hhead, hzero, hown, hreads.peek, hhandle', if_neg (by simp), hbook]
    rfl
  refine ⟨_, (exec_unpark f s).trans (h.done (by rw [hstate, hkind]; decide) hreq), ?_, ?_, ?_⟩
  · rw [State.stay_retryAgents, State.stay_answer, State.state_cameBack]
  · rw [State.reg_retryAgents (offCore_stCnt (by decide)), State.answer, State.reg_agentSend (offCore_stCnt (by decide)), State.cnt_cameBack,
      hafter.reg _ (not_innReg_stCnt (by decide)), hcnt]
  · exact replied_after h.calm h.answerable.reaches ((hquiet.trans hafter.quiet).trans (Quiet.cameBack _ i)).carries 0x2D _ (Carries.refl _)

end Sys2Proof.Machine
end

section
/-! PROOF. O27, continued: stays are forked, one page shared (R222). -/

-- Proofs are checked one at a time: side by side they would only wait for one another.
set_option Elab.async false

namespace Sys2Proof.Machine
open Sys2Proof

/-! ### The entry that a new stay takes (R214) -/

/-- The first free entry is below the table's bound, and no entry before it is free. -/
theorem State.freeIndex_iff {s : State} {j : Nat} : s.freeIndex = some j ↔ j < 262144 ∧ (s.stay j).state = 0 ∧ ∀ k < j, (s.stay k).state ≠ 0 := by
  rw [State.freeIndex, List.find?_range_eq_some]
  simp only [beq_iff_eq, List.mem_range, Bool.not_eq_eq_eq_not, Bool.not_true, beq_eq_false_iff_ne, ne_eq]
  refine ⟨fun ⟨hfree, hlt, hfirst⟩ => ⟨by omega, hfree, hfirst⟩, fun ⟨hlt, hfree, hfirst⟩ => ⟨hfree, ?_, hfirst⟩⟩
  have hkeys : List.range j ⊆ s.stays.table.map (·.1) := by
    intro k hk
    by_contra habsent
    have hnone : s.stay k = freeStay := sparseGet_of_not_mem fun e he h => habsent (List.mem_map.2 ⟨e, he, h⟩)
    exact hfirst k (List.mem_range.1 hk) (by rw [hnone]; rfl)
  have hlen := (List.subperm_of_subset List.nodup_range hkeys).length_le
  rw [List.length_range, List.length_map] at hlen
  omega

theorem State.freeIndex_of_state {s t : State} (h : ∀ k, (t.stay k).state = (s.stay k).state) {j : Nat} (hs : s.freeIndex = some j) : t.freeIndex = some j := by
  rw [State.freeIndex_iff] at hs ⊢
  simpa only [h] using hs

theorem State.stay_asked_other (s : State) (f : Frame) {j : Nat} (h : j ≠ f.address % 2 ^ 18) : (s.asked f).stay j = s.stay j :=
  (State.stay_congr (stays_readCard _ _) _).trans (s.stay_turn_other f h)

theorem State.state_asked (s : State) (f : Frame) (j : Nat) : ((s.asked f).stay j).state = (s.stay j).state := by
  by_cases h : j = f.address % 2 ^ 18
  · rw [h, State.stay_asked]
  · rw [State.stay_asked_other s f h]

/-! ### FORK (R222) -/

section
variable {s : State} {f : Frame} {i j : Nat}

theorem InTurn.fork_request (h : InTurn s f i) (hkind : f.kind = 0x23) (hstate : (s.stay i).state = 1) :
    (s.turn f).request (.request f) f = (s.asked f).fork i f := by
  rw [h.perform (by rw [hstate, hkind]; rfl), State.byKind, h.remirroring]
  simp only [hkind]
  rfl

theorem State.coord_asked (s : State) (f : Frame) : (s.asked f).coord = s.coord :=
  State.fld_eq_of_reg (s.reg_asked f (by decide) (by unfold InnReg; decide))

/-- A stay forked is opened: its count and its answer. -/
theorem State.fork_done {x y : State} {c : Card} (hcore : x.forkCore i 1 f.party f.srcRank f.payload (some x.coord) = .ok (j, c, y)) (htwin : c.twin = none) :
    x.fork i f = .done ((y.count (ST_CNT 0)).answer (.request f) 0x2B (openedDocket (y.handleOf j) 0 false)) := by
  rw [State.fork, hcore]
  dsimp only
  rw [htwin, if_neg (by simp), State.openDone, htwin]
  rfl

section
variable (h : InTurn s f i) (hkind : f.kind = 0x23) (hstate : (s.stay i).state = 1) (hreserved : forkReserved f.payload = true)
  (hcard : cardValid (forkCard (s.peek (cardAt i) 32) f.payload) (some s.coord) = true)
  (htwin : (cardOf (forkCard (s.peek (cardAt i) 32) f.payload)).twin = none) (hfree : s.freeIndex = some j) (hbooked : (s.stay j).booked = 0)
  (hadmits : s.admits { freeStay with state := 1, priority := (cardOf (forkCard (s.peek (cardAt i) 32) f.payload)).priority }
    ((cardOf (forkCard (s.peek (cardAt i) 32) f.payload)).pages (cardOf (forkCard (s.peek (cardAt i) 32) f.payload)).reserve) = true)
include h hstate hfree

theorem InTurn.ne_free : j ≠ i := by
  rintro rfl
  have hj := (State.freeIndex_iff.1 hfree).2.1
  omega

theorem InTurn.stay_free : (s.asked f).stay j = s.stay j := State.stay_asked_other s f (h.index ▸ h.ne_free hstate hfree)

include hkind hreserved hcard htwin hbooked hadmits

/-- A FORK whose pages are shared is answered. -/
theorem InTurn.fork_shared {y : State} (htokens : leAt f.payload 0 3 ≤ (s.stay i).tokens)
    (hshare : State.sharePages (List.range ((cardOf (forkCard (s.peek (cardAt i) 32) f.payload)).pages (leAt f.payload 0 3)))
      ((s.asked f).forkTaken i j 1 f.party f.srcRank f.payload) i j = (none, y)) :
    exec (.fork f) s = .next (((y.modStay j (fun e => { e with tokens := leAt f.payload 0 3 })).count (ST_CNT 0)).answer (.request f) 0x2B
      (openedDocket ((y.modStay j (fun e => { e with tokens := leAt f.payload 0 3 })).handleOf j) 0 false)).retryAgents := by
  have hpeek := h.reads.peek (cardAt i) 32
  have hcore := State.forkCore_ok (s := s.asked f) (y := y) (src := i) (state := 1) (party := f.party) (rank := f.srcRank) (i := j) (p := f.payload)
    (own := some (s.asked f).coord) hreserved (by rw [h.index.symm, State.stay_asked, h.index]; exact htokens) (by rw [hpeek, State.coord_asked, hcard])
    (State.freeIndex_of_state (s.state_asked f) hfree) (by rw [h.stay_free hstate hfree, hbooked]) (by rw [hpeek, State.admits_asked, hadmits])
    (by rw [hpeek]; exact hshare)
  rw [hpeek] at hcore
  exact (exec_fork f s).trans (h.done (by rw [hstate, hkind]; decide) ((h.fork_request hkind hstate).trans (State.fork_done hcore htwin)))

end

end

end Sys2Proof.Machine
end

section
/-! PROOF. O27, continued: what a FORK leaves of the new stay, its pages and its rooms (R204, R218, R222). -/

-- Proofs are checked one at a time: side by side they would only wait for one another.
set_option Elab.async false

namespace Sys2Proof.Machine
open Sys2Proof

/-! ### Writes of the porter, one after another -/

/-- A write through the porter path, where its pairs are good. -/
theorem Sound.porterWrite {s : State} (h : Sound s) {a : Nat} {bs : List Byte} (hgood : ∀ p ∈ pairsOf a bs.length, s.PairGood p) :
    Overlaid s (s.porterWrite a bs) a bs := by
  have hcount := h.countBy (a / 2 ^ 37 % 8) 6 ((a + bs.length - 1) / 32 - a / 32 + 1)
  exact hcount.thenOverlaid (hcount.sound.poolWrite fun p hp => (hcount.same.pairGood p).2 (hgood p hp))

/-- A write in one pair. -/
theorem pairsOf_within {a n p : Nat} (h : a % 64 + n ≤ 64) (hp : p ∈ pairsOf a n) : p = a / 64 := by
  obtain rfl | hn := Nat.eq_zero_or_pos n
  · exact absurd hp (by simp [pairsOf])
  · have := (mem_pairsOf (by omega)).1 hp
    omega

theorem SamePool.setStay {s : State} (h : Sound s) (i : Nat) (e : Stay) : SamePool s (s.setStay i e) :=
  .of_mem h (s.mem_setStay i e) (s.reg_setStay i e (by decide))

theorem SamePool.modStay {s : State} (h : Sound s) (i : Nat) (g : Stay → Stay) : SamePool s (s.modStay i g) := .setStay h i _

/-- A new entry's card is all that is written. -/
theorem Sound.entryTaken {s : State} (h : Sound s) {i : Nat} (hgood : s.PairGood (cardAt i / 64)) (state party rank rooms : Nat) {card : List Byte}
    (hlen : card.length = 32) : Overlaid s (s.entryTaken i state party rank rooms card) (cardAt i) card := by
  have h1 := SamePool.setStay h i (s.newEntry i state party rank card)
  have h2 := h1.trans (SamePool.modStay h1.sound i (fun e => { e with booked := e.booked + rooms }))
  refine h2.thenOverlaid (h2.sound.porterWrite fun p hp => (h2.same.pairGood p).2 ?_)
  rw [hlen, cardAt_pairs] at hp
  rwa [List.mem_singleton.1 hp]

/-- A node's entry that is written after it was read. -/
theorem Sound.overlaid_entry {s : State} {node page : Nat} (hs : Sound s) (hgood : s.PairGood (nodePair node page)) (room : Nat) :
    Overlaid s ((s.nodeEntry node page).2.porterWrite (nodeSlot node page) (natLE 4 room)) (nodeSlot node page) (natLE 4 room) := by
  have hread := (reads_nodeEntry node page).after (.refl hs)
  refine hread.pool.thenOverlaid (hread.pool.sound.porterWrite fun p hp => (hread.pool.same.pairGood p).2 ?_)
  rw [length_natLE] at hp
  exact pairsOf_nodeSlot hp ▸ hgood

/-! ### A room referred to once more (R204) -/

/-- A room's ledger entry can be written. -/
def State.LedgerGood (s : State) (r : Nat) : Prop := s.PairGood (ledgerAt r / 64)

theorem State.ledgerGood_of_clean {s : State} {r : Nat} (hr : r < 2 ^ 24) (h : (s.ledgerOf r).2 = false) : s.LedgerGood r := by
  have hstack : pairStack (ledgerAt r / 64) = 0 := by
    unfold pairStack ledgerAt
    omega
  simp only [State.ledgerOf, Bool.or_eq_false_iff] at h
  obtain ⟨⟨⟨-, hclean⟩, -⟩, hup⟩ := h
  exact ⟨by rw [hstack, hup], hclean⟩

theorem pairsOf_ledger {r p : Nat} (hp : p ∈ pairsOf (ledgerAt r) 4) : p = ledgerAt r / 64 :=
  pairsOf_within (by unfold ledgerAt; omega) hp

theorem Sound.setLedger {s : State} (hs : Sound s) {r : Nat} (hgood : s.LedgerGood r) (refs : Nat) :
    Overlaid s (s.setLedger r refs false) (ledgerAt r) (natLE 4 refs) := by
  have hread : SamePool s (s.porterRead (ledgerAt r) 4).2 := by
    have hcount := hs.countBy (ledgerAt r / 2 ^ 37 % 8) 5 ((ledgerAt r + 4 - 1) / 32 - ledgerAt r / 32 + 1)
    exact hcount.trans (hcount.sound.poolRead_same _ _)
  refine hread.thenOverlaid (hread.sound.porterWrite fun p hp => (hread.same.pairGood p).2 ?_)
  rw [length_natLE] at hp
  exact pairsOf_ledger hp ▸ hgood

theorem Sound.addRef {s : State} (hs : Sound s) {r : Nat} (hgood : s.LedgerGood r) (hclean : (s.ledgerOf r).2 = false) :
    Overlaid s (s.addRef r) (ledgerAt r) (natLE 4 ((s.ledgerOf r).1 + 1)) := by
  have hbit : (leNat (s.peek (ledgerAt r) 4)).testBit 16 = false := by
    simp only [State.ledgerOf, Bool.or_eq_false_iff] at hclean
    exact hclean.1.1.1
  have h := hs.setLedger hgood ((s.ledgerOf r).1 + 1)
  rw [State.addRef, hbit]
  exact h

/-- What a room's ledger entry says depends on its bytes and on the stacks. -/
theorem State.ledgerOf_congr {s t : State} (hsame : SameGood s t) {r : Nat} (hpeek : t.peek (ledgerAt r) 4 = s.peek (ledgerAt r) 4) :
    t.ledgerOf r = s.ledgerOf r := by
  rw [State.ledgerOf, hpeek, hsame.poisoned, hsame.stackLost, hsame.stackLost, State.ledgerOf]

/-! ### A chart's first node (R218) -/

/-- A node not used before is a new stay's chart. -/
def State.rooted (s : State) (i : Nat) : State :=
  ((s.modStays (fun u => { u with nodeMark := u.nodeMark + 1 })).setFld ST_USE_NODES_FREE (s.fld ST_USE_NODES_FREE - 1)).setStay i
    { s.stay i with root := s.stays.nodeMark }

theorem State.stay_rooted (s : State) (i : Nat) : (s.rooted i).stay i = { s.stay i with root := s.stays.nodeMark } := by
  rw [State.rooted, State.stay_setStay_same]

theorem SamePool.rooted {s : State} (h : Sound s) (i : Nat) : SamePool s (s.rooted i) := by
  have huse : SamePool s ((s.modStays (fun u => { u with nodeMark := u.nodeMark + 1 })).setFld ST_USE_NODES_FREE (s.fld ST_USE_NODES_FREE - 1)) :=
    .of_mem h rfl (State.reg_setFld_other _ ST_USE_NODES_FREE _ (by decide))
  exact huse.trans (.setStay huse.sound i _)

/-- The first page of a stay without a chart is entered in a node not used before. -/
theorem Sound.setPage_new {s : State} (hs : Sound s) {i : Nat} (hroot : (s.stay i).root = 0) (hdepth : (s.stay i).depth = 0) (hlist : s.stays.nodeFree = [])
    (hmark : s.stays.nodeMark < 4194304) (hgood : s.PairGood (nodePair s.stays.nodeMark 0))
    (hzero : leNat (s.peek (nodeSlot s.stays.nodeMark 0) 4) = 0) (room : Nat) :
    ∃ t, s.setPage i 0 room = some t ∧ Overlaid s t (nodeSlot s.stays.nodeMark 0) (natLE 4 room) ∧
      t.stay i = { s.stay i with root := s.stays.nodeMark, rooms := (s.stay i).rooms + 1 } := by
  have hgrow : State.growChart 4 s i 0 = some s := by
    rw [State.growChart, hdepth, if_pos (by decide)]
  have hnode : s.takeNode = some (s.stays.nodeMark, (s.modStays (fun u => { u with nodeMark := u.nodeMark + 1 })).setFld ST_USE_NODES_FREE
      (s.fld ST_USE_NODES_FREE - 1)) := by
    rw [State.takeNode, hlist]
    exact if_pos hmark
  have hrooted := SamePool.rooted hs i
  have hgood' := (hrooted.same.pairGood _).2 hgood
  have hput := hrooted.sound.chartPut_leaf hgood' (page := 0) (by decide) room
  rw [hrooted.peek, hzero] at hput
  have hover := hrooted.thenOverlaid (hrooted.sound.overlaid_entry hgood' room)
  have hstay : (((s.rooted i).nodeEntry s.stays.nodeMark 0).2.porterWrite (nodeSlot s.stays.nodeMark 0) (natLE 4 room)).stay i =
      { s.stay i with root := s.stays.nodeMark } :=
    (State.stay_congr ((State.stays_porterWrite _ _ _).trans (within_nodeEntry.same .stays (by decide))) i).trans (s.stay_rooted i)
  generalize ((s.rooted i).nodeEntry s.stays.nodeMark 0).2.porterWrite (nodeSlot s.stays.nodeMark 0) (natLE 4 room) = x at hput hover hstay
  have hset : s.setPage i 0 room = some (x.modStay i (fun e => { e with rooms := e.rooms + 1 })) := by
    rw [State.setPage, hgrow]
    dsimp only
    rw [hroot, if_neg (by decide), hnode]
    dsimp only
    rw [← State.rooted, State.stay_rooted, hdepth, hput]
    rfl
  have hlast := SamePool.modStay hover.sound i (fun e => { e with rooms := e.rooms + 1 })
  refine ⟨_, hset, ⟨hlast.sound, fun b => (hlast.byte b).trans (hover.byte b), hover.same.trans hlast.same⟩, ?_⟩
  rw [State.stay_modStay_same, hstay]

end Sys2Proof.Machine
end

section
/-! PROOF. O27, continued: FORK of no page and of one page (R222). -/

-- Proofs are checked one at a time: side by side they would only wait for one another.
set_option Elab.async false

namespace Sys2Proof.Machine
open Sys2Proof

theorem length_spliceBytes {bs new : List Byte} {off : Nat} (h : off + new.length ≤ bs.length) : (spliceBytes bs off new).length = bs.length := by
  simp only [spliceBytes, List.length_append, List.length_take, List.length_drop]
  omega

theorem length_forkCard {src p : List Byte} (h : src.length = 32) : (forkCard src p).length = 32 := by
  have hfirst : (spliceBytes src 5 [p.getD 5 0]).length = 32 := by rw [length_spliceBytes (by rw [h, List.length_singleton]; decide), h]
  have hsecond : (spliceBytes (spliceBytes src 5 [p.getD 5 0]) 8 ((p.drop 8).take 3)).length = 32 := by
    rw [length_spliceBytes (by rw [hfirst, List.length_take]; omega), hfirst]
  rw [forkCard, length_spliceBytes (by rw [hsecond, List.length_take]; omega), hsecond]

/-! ### What the new entry is -/

theorem State.stay_forkTaken (s : State) (i j state party rank : Nat) (p : List Byte) : ∃ rooms, (s.forkTaken i j state party rank p).stay j =
    { s.newEntry j state party rank (forkCard (s.peek (cardAt i) 32) p) with booked := rooms } :=
  ⟨_, State.stay_entryTaken _ _ _ _ _ _ _⟩

theorem Quiet.forkTaken (s : State) (i j state party rank : Nat) (p : List Byte) : Quiet s (s.forkTaken i j state party rank p) := Quiet.entryTaken _ _ _ _ _ _ _

theorem Sound.forkTaken {s : State} (h : Sound s) {i j : Nat} (hgood : s.PairGood (cardAt j / 64)) (state party rank : Nat) (p : List Byte) :
    Overlaid s (s.forkTaken i j state party rank p) (cardAt j) (forkCard (s.peek (cardAt i) 32) p) :=
  h.entryTaken hgood state party rank _ (length_forkCard (s.length_peek _ _))

theorem State.nodes_forkTaken (s : State) (i j state party rank : Nat) (p : List Byte) :
    (s.forkTaken i j state party rank p).stays.nodeFree = s.stays.nodeFree ∧ (s.forkTaken i j state party rank p).stays.nodeMark = s.stays.nodeMark := by
  rw [State.forkTaken, State.entryTaken, State.stays_porterWrite, State.modStay, State.stays_setStay, State.stays_setStay]
  exact ⟨rfl, rfl⟩

theorem State.nodes_asked (s : State) (f : Frame) : (s.asked f).stays.nodeFree = s.stays.nodeFree ∧ (s.asked f).stays.nodeMark = s.stays.nodeMark := by
  rw [stays_asked, State.stamp, State.modStay, State.stays_setStay]
  exact ⟨rfl, rfl⟩

section
variable {s : State} {f : Frame} {i j : Nat} (h : InTurn s f i) (hkind : f.kind = 0x23) (hstate : (s.stay i).state = 1)
  (hreserved : forkReserved f.payload = true)
  (hcard : cardValid (forkCard (s.peek (cardAt i) 32) f.payload) (some s.coord) = true)
  (htwin : (cardOf (forkCard (s.peek (cardAt i) 32) f.payload)).twin = none) (hfree : s.freeIndex = some j) (hbooked : (s.stay j).booked = 0)
  (hclean : s.poisoned (cardAt j / 64) = false)
  (hadmits : s.admits { freeStay with state := 1, priority := (cardOf (forkCard (s.peek (cardAt i) 32) f.payload)).priority }
    ((cardOf (forkCard (s.peek (cardAt i) 32) f.payload)).pages (cardOf (forkCard (s.peek (cardAt i) 32) f.payload)).reserve) = true)

include h hfree hclean

theorem InTurn.newCard_good : (s.asked f).PairGood (cardAt j / 64) := by
  have hup : s.stackLost 0 = false := h.1.2.2.2.2.2.1
  exact (h.reads.pool.same.pairGood _).2 ⟨by rw [pairStack_cardAt (State.lt_of_freeIndex hfree), hup], hclean⟩

theorem InTurn.card_forked : Overlaid (s.asked f) ((s.asked f).forkTaken i j 1 f.party f.srcRank f.payload) (cardAt j)
    (forkCard (s.peek (cardAt i) 32) f.payload) := by
  have hover := h.reads.pool.sound.forkTaken (i := i) (h.newCard_good hfree hclean) 1 f.party f.srcRank f.payload
  rwa [h.reads.peek] at hover

include hkind hstate hreserved hcard htwin hbooked hadmits

theorem completes_fork_empty (hcount : leAt f.payload 0 3 = 0) : Completes (.fork f) s (fun t => (t.stay j).state = 1 ∧ (t.stay j).party = f.party ∧
      (t.stay j).tokens = 0 ∧ (t.stay j).root = 0 ∧ t.peek (cardAt j) 32 = forkCard (s.peek (cardAt i) 32) f.payload ∧
      t.reg (ST_CNT 0) = s.reg (ST_CNT 0) + 1 ∧ Replied t f 0x2B (padTo 32 (openedDocket (j + (s.stay j).gen * 2 ^ 18) 0 false))) := by
  have hexec := h.fork_shared hkind hstate hreserved hcard htwin hfree hbooked hadmits
    (y := (s.asked f).forkTaken i j 1 f.party f.srcRank f.payload) (by omega) (by rw [hcount, Card.pages_zero]; rfl)
  obtain ⟨rooms, hstay⟩ := (s.asked f).stay_forkTaken i j 1 f.party f.srcRank f.payload
  have hpeek := (h.card_forked hfree hclean).peek_same
  rw [length_forkCard (s.length_peek _ _)] at hpeek
  have hquiet := (Quiet.asked s f).trans (Quiet.forkTaken (s.asked f) i j 1 f.party f.srcRank f.payload)
  have hreg : ((s.asked f).forkTaken i j 1 f.party f.srcRank f.payload).reg (ST_CNT 0) = s.reg (ST_CNT 0) :=
    (State.reg_entryTaken _ _ _ _ _ _ _ (not_innReg_stCnt (by decide))).trans (s.reg_asked f (.inr (by decide)) (not_innReg_stCnt (by decide)))
  generalize (s.asked f).forkTaken i j 1 f.party f.srcRank f.payload = y at hexec hstay hpeek hquiet hreg
  have hz : (y.modStay j (fun e => { e with tokens := leAt f.payload 0 3 })).stay j = { y.stay j with tokens := leAt f.payload 0 3 } := State.stay_modStay_same _ _ _
  have hhandle : (y.modStay j (fun e => { e with tokens := leAt f.payload 0 3 })).handleOf j = j + (s.stay j).gen * 2 ^ 18 := by
    rw [State.handleOf, hz, hstay, State.newEntry, h.stay_free hstate hfree]
  rw [hhandle] at hexec
  refine ⟨_, hexec, ?_, ?_, ?_, ?_, ?_, ?_, replied_after h.calm h.answerable.reaches
    ((hquiet.trans (Quiet.modStay j _)).trans (Quiet.stCnt (by decide))).carries 0x2B _ (Carries.refl _)⟩
  · rw [State.stay_retryAgents, State.stay_answer, State.stay_count, hz, hstay]
    rfl
  · rw [State.stay_retryAgents, State.stay_answer, State.stay_count, hz, hstay]
    rfl
  · rw [State.stay_retryAgents, State.stay_answer, State.stay_count, hz, hcount]
  · rw [State.stay_retryAgents, State.stay_answer, State.stay_count, hz, hstay]
    rfl
  · rw [State.peek_congr_mem (mem_retryAgents _), State.peek_congr_mem (mem_answer _ _ _ _)]
    exact hpeek
  · rw [State.reg_retryAgents (offCore_stCnt (by decide)), State.answer, State.reg_agentSend (offCore_stCnt (by decide)), State.reg_count_same,
      State.reg_modStay _ _ _ (by decide), hreg]

end

/-! ### FORK of one page -/

theorem Sound.porterRead_bad {s : State} (h : Sound s) {a n p : Nat} (hp : p ∈ pairsOf a n) (hbad : ¬ s.PairGood p) : (s.porterRead a n).1 = none := by
  have hcount := h.countBy (a / 2 ^ 37 % 8) 5 ((a + n - 1) / 32 - a / 32 + 1)
  exact hcount.sound.poolRead_bad hp fun hgood => hbad ((hcount.same.pairGood p).1 hgood)

/-- A node that gives a page's room can be read. -/
theorem Sound.nodeGood_of_pageRoom {s : State} (hs : Sound s) {i r : Nat} (hroot : 0 < (s.stay i).root) (hdepth : (s.stay i).depth = 0)
    (h : (s.pageRoom i 0).1 = some r) : s.PairGood (nodePair (s.stay i).root 0) := by
  by_contra hbad
  have hpair : nodePair (s.stay i).root 0 ∈ pairsOf ((s.stay i).root * 256 + 4 * 0) 4 := (mem_pairsOf (by decide)).2 (by unfold nodePair; omega)
  have hnone : s.nodeEntry (s.stay i).root 0 = (none, (s.nodeEntry (s.stay i).root 0).2) := by
    refine Prod.ext ?_ rfl
    rw [State.nodeEntry_eq, hs.porterRead_bad hpair hbad]
    rfl
  have hin : ¬((s.stay i).root = 0 ∨ 64 ^ (0 + 1) ≤ 0) := by omega
  rw [State.pageRoom, hdepth, if_neg hin, State.chartWalk, Nat.zero_div, Nat.zero_mod, hnone] at h
  cases h

/-- One page is shared: the new stay's chart takes it, and its room has one reference more. -/
theorem State.sharePages_one {s x t : State} {i j r : Nat} (hroom : s.pageRoom i 0 = (some r, x)) (hr : r ≠ 0) (hrefs : (x.ledgerOf r).1 < 65535)
    (hset : x.setPage j 0 r = some t) : State.sharePages (List.range 1) s i j = (none, t.addRef r) := by
  rw [List.range_one, State.sharePages, hroom]
  dsimp only
  rw [if_neg hr, if_neg (by omega), hset]
  rfl

end Sys2Proof.Machine
end

section
/-! PROOF. O27, continued: FORK of one page, shared with its source (R204, R222). -/

-- Proofs are checked one at a time: side by side they would only wait for one another.
set_option Elab.async false

namespace Sys2Proof.Machine
open Sys2Proof

/-- A node's first entry lies below the ledger and below the cards. -/
theorem nodeSlot_low {node : Nat} (h : node < 4194304) : nodeSlot node 0 + 4 ≤ 24576 * 65536 := by
  unfold nodeSlot
  omega

theorem nodeSlot_first (node : Nat) : nodeSlot node 0 = node * 256 := by
  unfold nodeSlot
  omega

theorem nodePair_up {s : State} {node : Nat} (h : node < 4194304) (hup : s.stackLost 0 = false) (hclean : s.poisoned (node * 256 / 64) = false) :
    s.PairGood (nodePair node 0) := by
  have hpair : nodePair node 0 = node * 256 / 64 := by
    unfold nodePair
    omega
  have hstack : pairStack (node * 256 / 64) = 0 := by
    unfold pairStack
    omega
  exact ⟨by rw [hpair, hstack, hup], by rw [hpair, hclean]⟩

/-- A stay with a page has a chart. -/
theorem State.root_pos_of_pageRoom {s : State} {i r : Nat} (hroom : (s.pageRoom i 0).1 = some r) (hr : r ≠ 0) : 0 < (s.stay i).root := by
  refine Nat.pos_of_ne_zero fun hzero => hr ?_
  rw [State.pageRoom_absent hzero] at hroom
  exact (Option.some.inj hroom).symm

section
variable {x : State} {i j r : Nat}

/-- One page of a stay that has a chart is shared with one that has none yet. -/
theorem Sound.share_one (hx : Sound x) (hroom : (x.pageRoom i 0).1 = some r) (hr : r ≠ 0)
    (hbound : r < 2 ^ 24) (hrefs : (x.ledgerOf r).1 < 65535) (hclean : (x.ledgerOf r).2 = false) (hjroot : (x.stay j).root = 0)
    (hjdepth : (x.stay j).depth = 0) (hjrooms : (x.stay j).rooms = 0) (hlist : x.stays.nodeFree = []) (hpos : 0 < x.stays.nodeMark)
    (hmark : x.stays.nodeMark < 4194304) (hgood : x.PairGood (nodePair x.stays.nodeMark 0)) (hzero : leNat (x.peek (nodeSlot x.stays.nodeMark 0) 4) = 0) :
    ∃ t, State.sharePages (List.range 1) x i j = (none, t) ∧ Sound t ∧ Quiet x t ∧ (t.pageRoom j 0).1 = some r ∧
      (t.ledgerOf r).1 = (x.ledgerOf r).1 + 1 ∧ t.stay j = { x.stay j with root := x.stays.nodeMark, rooms := 1 } := by
  have hread := (reads_pageRoom i 0).after (.refl hx)
  have hup := (Upkeep.pageRoom (s := x) i 0).quiet
  have hstays := stays_pageRoom x i 0
  have hfound : x.pageRoom i 0 = (some r, (x.pageRoom i 0).2) := Prod.ext hroom rfl
  generalize (x.pageRoom i 0).2 = x1 at hread hup hstays hfound
  have hstay : x1.stay j = x.stay j := State.stay_congr hstays j
  have hled := hread.ledgerOf r
  obtain ⟨y, hset, hover, hyj⟩ := hread.pool.sound.setPage_new (i := j) (by rw [hstay, hjroot]) (by rw [hstay, hjdepth]) (by rw [hstays, hlist])
    (by rw [hstays]; exact hmark) ((hread.pool.same.pairGood _).2 (by rw [hstays]; exact hgood)) (by rw [hread.peek, hstays, hzero]) r
  rw [hstays] at hover hyj
  have hlow := nodeSlot_low hmark
  have hyled : y.ledgerOf r = x.ledgerOf r := (State.ledgerOf_congr hover.same (hover.peek_other (.inr (by
    rw [length_natLE]
    unfold ledgerAt
    omega)))).trans hled
  have hadd := hover.sound.addRef (r := r) (State.ledgerGood_of_clean hbound (by rw [hyled, hclean])) (by rw [hyled, hclean])
  have htstay : (y.addRef r).stay j = { x.stay j with root := x.stays.nodeMark, rooms := 1 } := by
    rw [State.stay_congr (within_addRef.same .stays (by decide)), hyj, hstay, hjrooms]
  have hentry : (y.addRef r).peek (nodeSlot x.stays.nodeMark 0) 4 = natLE 4 r := by
    rw [hadd.peek_other (.inl (by unfold ledgerAt; omega))]
    have := hover.peek_same
    rwa [length_natLE] at this
  have hcount : leNat ((y.addRef r).peek (ledgerAt r) 4) % 65536 = (x.ledgerOf r).1 + 1 := by
    have := hadd.peek_same
    rw [length_natLE] at this
    rw [this, leNat_natLE, hyled]
    omega
  refine ⟨_, State.sharePages_one hfound hr (by rw [hled]; exact hrefs) hset, hadd.sound, (hup.trans (Upkeep.setPage hset).quiet).trans (Upkeep.addRef r).quiet, ?_,
    hcount, htstay⟩
  have hnode : (y.addRef r).PairGood (nodePair x.stays.nodeMark 0) :=
    (hadd.same.pairGood _).2 ((hover.same.pairGood _).2 ((hread.pool.same.pairGood _).2 hgood))
  rw [hadd.sound.pageRoom_leaf hnode (by rw [htstay]) hpos (by rw [htstay, hjdepth]) (by decide), hentry, leNat_natLE,
    Nat.mod_eq_of_lt (show r < 256 ^ 4 by omega), Nat.mod_eq_of_lt hbound]

end

section
variable {s : State} {f : Frame} {i j r : Nat} (h : InTurn s f i) (hkind : f.kind = 0x23) (hstate : (s.stay i).state = 1)
  (hreserved : forkReserved f.payload = true) (htokens : leAt f.payload 0 3 ≤ (s.stay i).tokens)
  (hpages : (cardOf (forkCard (s.peek (cardAt i) 32) f.payload)).pages (leAt f.payload 0 3) = 1)
  (hcard : cardValid (forkCard (s.peek (cardAt i) 32) f.payload) (some s.coord) = true)
  (htwin : (cardOf (forkCard (s.peek (cardAt i) 32) f.payload)).twin = none) (hfree : s.freeIndex = some j) (hbooked : (s.stay j).booked = 0)
  (hclean : s.poisoned (cardAt j / 64) = false)
  (hadmits : s.admits { freeStay with state := 1, priority := (cardOf (forkCard (s.peek (cardAt i) 32) f.payload)).priority }
    ((cardOf (forkCard (s.peek (cardAt i) 32) f.payload)).pages (cardOf (forkCard (s.peek (cardAt i) 32) f.payload)).reserve) = true)
  (hdepth : (s.stay i).depth = 0) (hroot : (s.stay i).root < s.stays.nodeMark) (hroom : (s.pageRoom i 0).1 = some r) (hr : r ≠ 0)
  (hrefs : (s.ledgerOf r).1 < 65535) (hledger : (s.ledgerOf r).2 = false) (hlist : s.stays.nodeFree = []) (hpos : 0 < s.stays.nodeMark)
  (hmark : s.stays.nodeMark < 4194304) (hnode : s.poisoned (s.stays.nodeMark * 256 / 64) = false)
  (hzero : leNat (s.peek (s.stays.nodeMark * 256) 4) = 0)

include h hstate hfree hclean hdepth hroot hroom hr hrefs hledger hlist hpos hmark hnode hzero

/-- The page that a FORK shares is entered for the new stay. -/
theorem InTurn.page_forked : ∃ t, State.sharePages (List.range 1) ((s.asked f).forkTaken i j 1 f.party f.srcRank f.payload) i j = (none, t) ∧ Sound t ∧
    Quiet s t ∧ (t.pageRoom j 0).1 = some r ∧ (t.ledgerOf r).1 = (s.ledgerOf r).1 + 1 ∧ (t.stay j).rooms = 1 ∧ (t.stay j).gen = (s.stay j).gen := by
  have hup : s.stackLost 0 = false := h.1.2.2.2.2.2.1
  have hpositive := State.root_pos_of_pageRoom hroom hr
  have hsource := h.sound.nodeGood_of_pageRoom hpositive hdepth hroom
  have hvalue := h.sound.pageRoom_leaf hsource rfl hpositive hdepth (page := 0) (by decide)
  have hbound : r < 2 ^ 24 := by
    rw [hroom] at hvalue
    rw [Option.some.inj hvalue]
    exact Nat.mod_lt _ (by decide)
  have hover := h.card_forked hfree hclean
  have hquiet := (Quiet.asked s f).trans (Quiet.forkTaken (s.asked f) i j 1 f.party f.srcRank f.payload)
  have hnodes := (s.asked f).nodes_forkTaken i j 1 f.party f.srcRank f.payload
  have hi : ((s.asked f).forkTaken i j 1 f.party f.srcRank f.payload).stay i = (s.asked f).stay i :=
    State.stay_entryTaken_other _ _ _ _ _ _ _ (h.ne_free hstate hfree).symm
  obtain ⟨rooms, hj⟩ := (s.asked f).stay_forkTaken i j 1 f.party f.srcRank f.payload
  generalize (s.asked f).forkTaken i j 1 f.party f.srcRank f.payload = x at hover hquiet hnodes hi hj ⊢
  rw [(s.nodes_asked f).1, (s.nodes_asked f).2] at hnodes
  obtain ⟨hfreeNodes, hnextNode⟩ := hnodes
  have hlen := length_forkCard (p := f.payload) (s.length_peek (cardAt i) 32)
  have hbelow : ∀ node < 4194304, x.peek (nodeSlot node 0) 4 = s.peek (nodeSlot node 0) 4 := fun node hnode =>
    (hover.peek_other (.inl ((nodeSlot_low hnode).trans (by unfold cardAt; omega)))).trans (h.reads.peek _ _)
  have hsame : SameGood s x := h.reads.pool.same.trans hover.same
  have hled : x.ledgerOf r = s.ledgerOf r := State.ledgerOf_congr hsame
    ((hover.peek_other (.inl (by unfold ledgerAt cardAt; omega))).trans (h.reads.peek _ _))
  have hxroot : (x.stay i).root = (s.stay i).root := by rw [hi, h.reads.root]
  have hxdepth : (x.stay i).depth = 0 := by rw [hi, h.reads.depth, hdepth]
  have hxroom : (x.pageRoom i 0).1 = some r := by
    rw [hover.sound.pageRoom_leaf ((hsame.pairGood _).2 hsource) hxroot hpositive hxdepth (by decide), hbelow _ (by omega), ← hvalue, hroom]
  obtain ⟨t, hshare, hsound, hkept, hpage, hcount, hstay⟩ := hover.sound.share_one (j := j) hxroom hr hbound
    (by rw [hled]; exact hrefs) (by rw [hled]; exact hledger) (by rw [hj]; rfl) (by rw [hj]; rfl) (by rw [hj]; rfl) (by rw [hfreeNodes, hlist])
    (by rw [hnextNode]; exact hpos) (by rw [hnextNode]; exact hmark) (by rw [hnextNode]; exact (hsame.pairGood _).2 (nodePair_up hmark hup hnode))
    (by rw [hnextNode, hbelow _ hmark, nodeSlot_first]; exact hzero)
  refine ⟨t, hshare, hsound, hquiet.trans hkept, hpage, by rw [hcount, hled], by rw [hstay], ?_⟩
  rw [hstay, hj, State.newEntry, h.stay_free hstate hfree]

include hkind hreserved htokens hpages hcard htwin hbooked hadmits

theorem completes_fork_shared : Completes (.fork f) s (fun t => (t.stay j).tokens = leAt f.payload 0 3 ∧ (t.stay j).rooms = 1 ∧
      (t.pageRoom j 0).1 = some r ∧ (t.ledgerOf r).1 = (s.ledgerOf r).1 + 1 ∧
      Replied t f 0x2B (padTo 32 (openedDocket (j + (s.stay j).gen * 2 ^ 18) 0 false))) := by
  obtain ⟨y, hshare, hsound, hquiet, hpage, hcount, hrooms, hgen⟩ := h.page_forked hstate hfree hclean hdepth hroot hroom hr hrefs hledger hlist hpos hmark
    hnode hzero
  have hexec := h.fork_shared hkind hstate hreserved hcard htwin hfree hbooked hadmits (y := y) htokens (by rw [hpages]; exact hshare)
  have hz : (y.modStay j (fun e => { e with tokens := leAt f.payload 0 3 })).stay j = { y.stay j with tokens := leAt f.payload 0 3 } :=
    State.stay_modStay_same _ _ _
  have hhandle : (y.modStay j (fun e => { e with tokens := leAt f.payload 0 3 })).handleOf j = j + (s.stay j).gen * 2 ^ 18 := by
    rw [State.handleOf, hz, hgen]
  have hreads : ReadsAs y (y.modStay j (fun e => { e with tokens := leAt f.payload 0 3 })) := (ReadsAs.refl hsound).modStay j fun _ => ⟨rfl, rfl⟩
  have hcarries := (hquiet.trans (Quiet.modStay j (fun e => { e with tokens := leAt f.payload 0 3 }))).trans (Quiet.stCnt (n := 0) (by decide))
  rw [hhandle] at hexec
  generalize y.modStay j (fun e => { e with tokens := leAt f.payload 0 3 }) = z at hexec hz hreads hcarries
  have hcounted : ReadsAs y (z.count (ST_CNT 0)) := hreads.of_table (within_count.same .mem (by decide)) (z.reg_count_other (by decide))
    (z.stay_count _)
  have hanswer : ReadsAs y ((z.count (ST_CNT 0)).answer (.request f) 0x2B (openedDocket (j + (s.stay j).gen * 2 ^ 18) 0 false)) := by
    rw [State.answer]
    exact hcounted.agentSend 0 _
  have hlast := hanswer.of_table (mem_retryAgents _) (State.reg_retryAgents (offCore_between (by decide) (by decide))) (State.stay_retryAgents _)
  refine ⟨_, hexec, ?_, ?_, ((reads_pageRoom j 0).answer hlast).trans hpage, by rw [hlast.ledgerOf, hcount],
    replied_after h.calm h.answerable.reaches hcarries.carries 0x2B _ (Carries.refl _)⟩
  · rw [State.stay_retryAgents, State.stay_answer, State.stay_count, hz]
  · rw [State.stay_retryAgents, State.stay_answer, State.stay_count, hz, hrooms]

end

end Sys2Proof.Machine
end

section
/-! PROOF. O27, continued: a CLOSE comes to its end (R222, R223). -/

-- Proofs are checked one at a time: side by side they would only wait for one another.
set_option Elab.async false

namespace Sys2Proof.Machine
open Sys2Proof

/-! ### Reading a chart leaves the room service out of account -/

/-- What a read gives, and the room service changed after it. -/
def andStays {α : Type} (g : StayUnit → StayUnit) (x : α × State) : α × State := (x.1, x.2.modStays g)

section
variable (s : State) (g : StayUnit → StayUnit)

theorem State.memCount_modStays (st i : Nat) : (s.modStays g).memCount st i = (s.memCount st i).modStays g := rfl

theorem State.stackLost_modStays (n : Nat) : (s.modStays g).stackLost n = s.stackLost n := rfl

theorem State.poisoned_modStays (p : Nat) : (s.modStays g).poisoned p = s.poisoned p := rfl

/-- An access that finds its pair lost or poisoned is counted. -/
theorem State.lossCounted_modStays (p : Nat) :
    (if (s.modStays g).stackLost (pairStack p) || (s.modStays g).poisoned p then (s.modStays g).memCount (pairStack p) 8 else s.modStays g) =
      (if s.stackLost (pairStack p) || s.poisoned p then s.memCount (pairStack p) 8 else s).modStays g := by
  rw [apply_ite (State.modStays · g)]
  rfl

theorem State.modMem_modStays (h : MemUnit → MemUnit) : (s.modStays g).modMem h = (s.modMem h).modStays g := rfl

theorem State.openEntry_modStays (e : MergeEntry) : (s.modStays g).openEntry e = (s.openEntry e).modStays g := by
  rw [State.openEntry, State.openEntry, State.modMem_modStays, State.memCount_modStays]
  exact State.lossCounted_modStays _ g _

theorem State.mergeIn_modStays (e : MergeEntry) : (s.modStays g).mergeIn e = (s.mergeIn e).modStays g := by
  rw [State.mergeIn, State.mergeIn, apply_ite (State.modStays · g)]
  rfl

theorem State.settle_modStays (p : Nat) : (s.modStays g).settle p = (s.settle p).modStays g := by
  have hmerge : (s.modStays g).mem.merge = s.mem.merge := rfl
  rw [State.settle, State.settle, hmerge]
  cases s.mem.merge.find? (fun e => e.pair == p) with
  | none => rfl
  | some e => exact (congrArg (State.mergeIn · e) (s.openEntry_modStays g e)).trans (State.mergeIn_modStays _ g e)

theorem State.touchPair_modStays (p : Nat) : (s.modStays g).touchPair p = (s.touchPair p).modStays g := by
  have hsettle : ((s.modStays g).transferred (pairStack p)).settle p = ((s.transferred (pairStack p)).settle p).modStays g :=
    (s.transferred (pairStack p)).settle_modStays g p
  rw [State.touchPair, State.touchPair, hsettle]
  rw [apply_ite (State.modStays · g)]
  rfl

theorem State.poolRead_modStays (a n : Nat) : (s.modStays g).poolRead a n = andStays g (s.poolRead a n) := by
  have hpairs : (pairsOf a n).foldl State.touchPair (s.modStays g) = ((pairsOf a n).foldl State.touchPair s).modStays g :=
    List.foldl_hom (State.modStays · g) fun x p => x.touchPair_modStays g p
  rw [State.poolRead, State.poolRead, hpairs]
  rw [apply_ite (andStays g)]
  rfl

theorem State.porterRead_modStays (a n : Nat) : (s.modStays g).porterRead a n = andStays g (s.porterRead a n) :=
  (s.countBy (MEM_STACK_CNT (a / 2 ^ 37 % 8) 5) ((a + n - 1) / 32 - a / 32 + 1)).poolRead_modStays g a n

/-- What a node's read gives, and the room service changed after it. -/
def nodeStays (g : StayUnit → StayUnit) (x : List Nat × Bool × State) : List Nat × Bool × State := (x.1, andStays g x.2)

theorem State.nodeEntries_modStays (node : Nat) : (s.modStays g).nodeEntries node = nodeStays g (s.nodeEntries node) := by
  rw [State.nodeEntries, State.nodeEntries]
  refine List.foldl_hom (init := ([], true, s)) (nodeStays g) fun x q => ?_
  dsimp only [nodeStays, andStays]
  rw [State.porterRead_modStays]
  rcases x.2.2.porterRead (node * 256 + 64 * q) 64 with ⟨_ | b, s1⟩ <;> rfl

end

theorem State.chartNodes_modStays (g : StayUnit → StayUnit) (k node : Nat) (s : State) :
    State.chartNodes k (s.modStays g) node = andStays g (State.chartNodes k s node) := by
  induction k generalizing node s with
  | zero => rfl
  | succ k ih =>
    rw [State.chartNodes, State.chartNodes, State.nodeEntries_modStays]
    rcases s.nodeEntries node with ⟨es, good, x⟩
    dsimp only [nodeStays, andStays]
    split
    · rfl
    · refine List.foldl_hom (init := ((⟨[node], [], good⟩ : ChartFound), x)) (andStays g) fun acc c => ?_
      dsimp only [andStays]
      rw [ih]
      rfl

/-- A chart reads the same where the room service beside its table differs. -/
theorem State.readChart_modStays (s : State) {g : StayUnit → StayUnit} (hg : ∀ u, (g u).table = u.table) (i : Nat) :
    (s.modStays g).readChart i = andStays g (s.readChart i) := by
  rw [State.readChart, State.readChart, s.stay_modStays g hg]
  split
  · rfl
  · exact State.chartNodes_modStays g _ _ s

/-! ### The end of a CLOSE -/

/-- A stay's chart is given up. -/
def State.chartGone (s : State) (i : Nat) : State := (s.readChart i).2.freeChart i (s.readChart i).1

/-- No request waits any more. -/
def State.unwaited (s : State) : State := s.modStays (fun u => { u with waiting := [] })

/-- A CLOSE's end for a stay whose chart reads, no other request waiting. -/
def State.closeEnds (s : State) (i : Nat) (a : Asker) (n : Nat) : State :=
  ((if (s.stay i).twinValid then s.mirrorClose i else s).freeEntry i).answer a 0x2E (natLE 3 n)

theorem State.upkeep_chartGone (s : State) (i : Nat) : Upkeep s (s.chartGone i) := (Upkeep.readChart i).trans (Upkeep.freeChart i _)

theorem State.stay_unwaited (s : State) (i : Nat) : s.unwaited.stay i = s.stay i := s.stay_modStays _ (fun _ => rfl) i

theorem Upkeep.twinValid {s t : State} (h : Upkeep s t) (j : Nat) : (t.stay j).twinValid = (s.stay j).twinValid :=
  show (t.stay j).lasting.twinValid = _ by rw [h.stay]; rfl

theorem State.waiting_mirrorClose (s : State) (i : Nat) : (s.mirrorClose i).stays.waiting = s.stays.waiting := by
  rw [State.mirrorClose_eq, stays_toInn]
  rfl

theorem State.waiting_closeEnds (s : State) (i : Nat) (a : Asker) (n : Nat) : (s.closeEnds i a n).stays.waiting = s.stays.waiting := by
  rw [State.closeEnds, stays_answer, State.freeEntry, State.stays_setStay]
  split
  · exact s.waiting_mirrorClose i
  · rfl

theorem exec_closeComplete (i : Nat) (s : State) : exec (.closeComplete i) s = execCloseComplete i s := rfl

theorem exec_closeComplete_clean {s : State} {i : Nat} (hstate : (s.stay i).state = 6) (hidle : (s.stay i).inflight = 0) (hphase : s.phase ≠ 6)
    {who : Option Waiting} (hwho : s.stays.waiting.find? (fun w => w.index == i && w.closing) = who) (hguest : who.bind (·.guest) = none)
    (hrest : s.stays.waiting.filter (fun w => !(w.index == i && w.closing)) = []) (hclean : (s.readChart i).1.clean = true) :
    exec (.closeComplete i) s = .next ((s.unwaited.chartGone i).closeEnds i ((who.map (·.asker)).getD .nobody) (s.readChart i).1.rooms.length).retryAgents := by
  have hread := s.readChart_modStays (g := fun u => { u with waiting := [] }) (fun _ => rfl) i
  have hunwaited : s.modStays (fun u => { u with waiting := u.waiting.filter (fun w => !(w.index == i && w.closing)) }) = s.unwaited := by
    rw [State.unwaited, State.modStays, hrest, State.modStays]
  have hclose := State.closeChart_clean (s := s.unwaited) (i := i) (by rw [State.unwaited, hread]; exact hclean)
  have hin : ¬((s.stay i).state ≠ 6 ∨ (s.stay i).inflight ≠ 0 ∨ s.phase = 6) := by
    rintro (h | h | h)
    exacts [h hstate, h hidle, hphase h]
  have hup := State.upkeep_chartGone s.unwaited i
  have htwin : ((s.unwaited.chartGone i).stay i).twinValid = (s.stay i).twinValid := by
    rw [hup.twinValid, State.stay_unwaited]
  rw [exec_closeComplete, execCloseComplete]
  dsimp only
  rw [if_neg hin, hwho, hunwaited, hclose]
  dsimp only
  rw [hguest, ← State.chartGone, ← htwin]
  dsimp only
  rw [← State.closeEnds, State.drainStay_of_nil (by rw [State.waiting_closeEnds, hup.waiting, State.unwaited]; rfl), State.unwaited, hread]
  rfl

theorem completes_closeComplete_other {s : State} {i : Nat} (h : (s.stay i).state ≠ 6) : Completes (.closeComplete i) s (fun t => t = s) :=
  ⟨s, (exec_closeComplete i s).trans (if_pos (.inl h)), rfl⟩

theorem completes_closeComplete {s : State} {f : Frame} {i : Nat} (hc : Calm s) (hf : Answerable s f) (hstate : (s.stay i).state = 6)
    (hidle : (s.stay i).inflight = 0) (hphase : s.phase ≠ 6) (htwin : (s.stay i).twinValid = false)
    (hwaiting : s.stays.waiting = [⟨i, .request f, f, none, none, none, true⟩]) (hclean : (s.readChart i).1.clean = true) :
    Completes (.closeComplete i) s (fun t => t.stay i = { freeStay with gen := ((s.stay i).gen + 1) % 16384 } ∧ t.stays.waiting = [] ∧
      Replied t f 0x2E (padTo 32 (natLE 3 (s.readChart i).1.rooms.length))) := by
  have hmine : ((⟨i, .request f, f, none, none, none, true⟩ : Waiting).index == i && true) = true := by rw [Bool.and_true, beq_self_eq_true]
  have hexec := exec_closeComplete_clean (who := some ⟨i, .request f, f, none, none, none, true⟩) hstate hidle hphase
    (by rw [hwaiting]; exact List.find?_cons_of_pos hmine) rfl (by rw [hwaiting]; exact List.filter_cons_of_neg (by rw [hmine]; decide)) hclean
  have hup := State.upkeep_chartGone s.unwaited i
  refine ⟨_, hexec, ?_, ?_, ?_⟩
  · rw [State.stay_retryAgents, State.closeEnds, State.stay_answer, State.stay_freeEntry, hup.twinValid, State.stay_unwaited, htwin,
      if_neg Bool.false_ne_true, hup.gen, State.stay_unwaited]
  · rw [stays_retryAgents, State.waiting_closeEnds, hup.waiting]
    rfl
  · rw [State.closeEnds, hup.twinValid, State.stay_unwaited, htwin, if_neg Bool.false_ne_true]
    exact replied_after hc hf.reaches (((Quiet.modStays _).trans hup.quiet).trans (Quiet.freeEntry i)).carries 0x2E _ (Carries.refl _)

end Sys2Proof.Machine
end

section
/-! PROOF. O27, the room that a CLOSE frees, and the statement (R204, R222 to R227). -/

-- Proofs are checked one at a time: side by side they would only wait for one another.
set_option Elab.async false

namespace Sys2Proof.Machine
open Sys2Proof

/-! ### A chart read in a pool without merge entries -/

theorem Still.porterRead {s t : State} (h : Still s t) (a n : Nat) : Still s (t.porterRead a n).2 := Still.poolRead (t := t.countBy _ _) h a n

theorem Still.nodeEntries {s t : State} (h : Still s t) (node : Nat) : Still s (t.nodeEntries node).2.2 := by
  rw [State.nodeEntries]
  refine List.foldlRecOn (List.range 4) _ (motive := fun x : List Nat × Bool × State => Still s x.2.2) h fun x hx q _ => ?_
  have hread := hx.porterRead (node * 256 + 64 * q) 64
  generalize x.2.2.porterRead (node * 256 + 64 * q) 64 = z at hread ⊢
  rcases z with ⟨_ | b, y⟩
  · exact hread
  · exact hread

theorem Still.chartNodes {s : State} (k : Nat) : ∀ {t : State}, Still s t → ∀ node, Still s (State.chartNodes k t node).2 := by
  induction k with
  | zero => exact fun h _ => h
  | succ k ih =>
    intro t h node
    rw [State.chartNodes]
    dsimp only
    split
    · exact h.nodeEntries node
    · exact List.foldlRecOn _ _ (motive := fun x : ChartFound × State => Still s x.2) (h.nodeEntries node) fun x hx c _ => ih hx c

theorem still_readChart {s : State} (h : s.mem.merge = []) (i : Nat) : Still s (s.readChart i).2 := by
  have hs : Still s s := ⟨rfl, rfl, h⟩
  rw [State.readChart]
  split
  · exact hs
  · exact hs.chartNodes _ _

/-! ### A short write stands in the write-merge buffer (R335) -/

/-- Entries of one pair, one at most, join the buffer, and nothing else of the pool changes. -/
def Joined (p : Nat) (m n : MemUnit) : Prop :=
  n.bytes = m.bytes ∧ n.poison = m.poison ∧ ∃ es : List MergeEntry, (∀ e ∈ es, e.pair = p) ∧ es.length ≤ 1 ∧ n.merge = m.merge ++ es

theorem State.joined_mergeWrite {s : State} {p : Nat} (hlen : s.mem.merge.length < 64) (hnone : s.mem.merge.find? (fun e => e.pair == p) = none) (off : Nat)
    (data : List Byte) : Joined p s.mem (s.mergeWrite p off data).mem := by
  have hfew : (s.mem.merge.filter (fun e => pairStack e.pair == pairStack p)).length < 64 := (List.length_filter_le _ _).trans_lt hlen
  rw [State.mergeWrite]
  split
  · exact ⟨rfl, rfl, [], by simp, by simp, (List.append_nil _).symm⟩
  · rw [hnone]
    dsimp only
    rw [if_pos hfew]
    exact ⟨rfl, rfl, _, fun e he => by rw [List.mem_singleton.1 he], le_rfl, rfl⟩

/-- A write of less than a pair within one pair. -/
theorem State.poolWrite_short {s : State} {a : Nat} {bs : List Byte} (hne : bs ≠ []) (hpair : a % 64 + bs.length ≤ 64) (hlen : bs.length ≠ 64) :
    s.poolWrite a bs = (s.transferred (a / 2 ^ 37 % 8)).mergeWrite (a / 64) (a % 64) bs := by
  have hpart : bs.take (64 - a % 64) = bs := List.take_of_length_le (by omega)
  obtain ⟨n, hn⟩ := Nat.exists_eq_succ_of_ne_zero (List.length_pos_of_ne_nil hne).ne'
  have hempty : ¬(bs.isEmpty = true) := by rwa [List.isEmpty_iff]
  rw [State.poolWrite, hn, State.poolWriteFuel, if_neg hempty]
  dsimp only
  rw [hpart, if_neg hlen, List.drop_length]
  cases n with
  | zero => rfl
  | succ n => rfl

theorem State.joined_poolWrite {s : State} {a : Nat} {bs : List Byte} (hne : bs ≠ []) (hpair : a % 64 + bs.length ≤ 64) (hshort : bs.length ≠ 64)
    (hlen : s.mem.merge.length < 64) (hnone : s.mem.merge.find? (fun e => e.pair == a / 64) = none) : Joined (a / 64) s.mem (s.poolWrite a bs).mem := by
  rw [State.poolWrite_short hne hpair hshort]
  exact State.joined_mergeWrite (s := s.transferred _) hlen hnone _ _

theorem State.joined_porterWrite {s : State} {a : Nat} {bs : List Byte} (hne : bs ≠ []) (hpair : a % 64 + bs.length ≤ 64) (hshort : bs.length ≠ 64)
    (hlen : s.mem.merge.length < 64) (hnone : s.mem.merge.find? (fun e => e.pair == a / 64) = none) : Joined (a / 64) s.mem (s.porterWrite a bs).mem :=
  State.joined_poolWrite (s := s.countBy _ _) hne hpair hshort hlen hnone

/-- The bytes of other pairs read as before. -/
theorem Joined.peek {p : Nat} {s t : State} (h : Joined p s.mem t.mem) {a n : Nat} (hout : ∀ k < n, (a + k) / 64 ≠ p) : t.peek a n = s.peek a n := by
  obtain ⟨hbytes, -, es, hpair, -, hmerge⟩ := h
  rw [State.peek, State.peek, hbytes, hmerge]
  refine List.map_congr_left fun k hk => ?_
  have hnone : es.find? (fun e => e.pair == (a + k) / 64 && e.mask.testBit ((a + k) % 64)) = none := List.find?_eq_none.2 fun e he => by
    rw [hpair e he, Bool.and_eq_true, beq_iff_eq]
    exact fun hp => hout k (List.mem_range.1 hk) hp.1.symm
  dsimp only
  rw [List.find?_append, hnone, Option.or_none]

/-! ### A room's last reference goes (R204) -/

/-- A room joins its stack's vacant rooms. -/
theorem State.vac_pushVacant {s : State} {r : Nat} (h : s.stays.vac.length = 8) : (s.pushVacant r).stays.vac.getD (roomStack r) 0 = r := by
  have hwrite : ∀ bs, (s.poolWrite (r * 65536) bs).stays = s.stays := fun bs => within_poolWrite.same .stays (by decide)
  have hstack : roomStack r < s.stays.vac.length := by
    rw [h, roomStack]
    exact Nat.mod_lt _ (by decide)
  have hvac : (s.pushVacant r).stays.vac = modifyAt (fun _ => r) (roomStack r) s.stays.vac := by
    rw [State.pushVacant, within_freeRoomsBy.same .stays (by decide), State.modStays, hwrite]
  rw [hvac, getD_modifyAt, if_pos ⟨rfl, hstack⟩]

theorem State.peek_pushVacant {s : State} {r : Nat} (hfew : s.mem.merge.length < 64) (hpair : ∀ e ∈ s.mem.merge, e.pair = ledgerAt r / 64) :
    (s.pushVacant r).peek (ledgerAt r) 4 = s.peek (ledgerAt r) 4 := by
  have hapart : ledgerAt r / 64 ≠ r * 65536 / 64 := by
    unfold ledgerAt
    omega
  have hnone : s.mem.merge.find? (fun e => e.pair == r * 65536 / 64) = none := List.find?_eq_none.2 fun e he => by
    rw [hpair e he, beq_iff_eq]
    exact hapart
  have hjoined := State.joined_poolWrite (s := s) (a := r * 65536) (bs := natLE 4 (s.stays.vac.getD (roomStack r) 0))
    (List.ne_nil_of_length_pos (by rw [length_natLE]; decide)) (by rw [length_natLE]; omega)
    (by rw [length_natLE]; decide) hfew hnone
  have hmem : (s.pushVacant r).mem = (s.poolWrite (r * 65536) (natLE 4 (s.stays.vac.getD (roomStack r) 0))).mem := by
    rw [State.pushVacant, within_freeRoomsBy.same .mem (by decide)]
    rfl
  rw [State.peek_congr_mem hmem]
  exact hjoined.peek fun k hk => by
    unfold ledgerAt at hapart ⊢
    omega

/-- A room's only reference is dropped: its ledger entry is zero, and it is vacant. -/
theorem State.dropRef_last {s : State} {r : Nat} (hmerge : s.mem.merge = []) (hr : r < 2 ^ 24) (hledger : s.ledgerOf r = (1, false))
    (hvac : s.stays.vac.length = 8) :
    leNat ((s.dropRef r).peek (ledgerAt r) 4) % 65536 = 0 ∧ (s.dropRef r).stays.vac.getD (roomStack r) 0 = r := by
  have hover := (Sound.of_nil hmerge).setLedger (State.ledgerGood_of_clean hr (by rw [hledger])) 0
  have hread : Still s (s.porterRead (ledgerAt r) 4).2 := Still.porterRead ⟨rfl, rfl, hmerge⟩ _ _
  have hjoined : Joined (ledgerAt r / 64) (s.porterRead (ledgerAt r) 4).2.mem (s.setLedger r 0 false).mem :=
    State.joined_porterWrite (List.ne_nil_of_length_pos (by rw [length_natLE]; decide)) (by rw [length_natLE]; unfold ledgerAt; omega)
      (by rw [length_natLE]; decide) (by rw [hread.2.2]; decide) (by rw [hread.2.2]; rfl)
  obtain ⟨-, -, es, hpair, hone, hentries⟩ := hjoined
  rw [hread.2.2, List.nil_append] at hentries
  have hstays : (s.setLedger r 0 false).stays = s.stays := within_setLedger.same .stays (by decide)
  have hzero : leNat ((s.setLedger r 0 false).peek (ledgerAt r) 4) = 0 := by
    have hpeek := hover.peek_same
    rw [length_natLE] at hpeek
    rw [hpeek, leNat_natLE]
    rfl
  have hclean : ((s.setLedger r 0 false).ledgerOf r).2 = false := by
    have hbefore : (s.ledgerOf r).2 = false := by rw [hledger]
    simp only [State.ledgerOf, Bool.or_eq_false_iff] at hbefore ⊢
    obtain ⟨⟨⟨-, hpoison⟩, hroom⟩, hup⟩ := hbefore
    rw [hzero, hover.same.poisoned, hover.same.stackLost, hover.same.stackLost]
    exact ⟨⟨⟨Nat.zero_testBit 16, hpoison⟩, hroom⟩, hup⟩
  have hone : leNat (s.peek (ledgerAt r) 4) % 65536 = 1 := congrArg Prod.fst hledger
  have hbit : (leNat (s.peek (ledgerAt r) 4)).testBit 16 = false := by
    have hbefore : (s.ledgerOf r).2 = false := by rw [hledger]
    simp only [State.ledgerOf, Bool.or_eq_false_iff] at hbefore
    exact hbefore.1.1.1
  have hdrop : s.dropRef r = (s.setLedger r 0 false).pushVacant r := by
    rw [State.dropRef, hone, if_neg Nat.one_ne_zero, if_pos rfl, hbit, Nat.sub_self, State.vacate, hzero, if_neg (by simp), hclean, if_neg Bool.false_ne_true]
  rw [hdrop]
  refine ⟨?_, State.vac_pushVacant (by rw [hstays, hvac])⟩
  rw [State.peek_pushVacant (by rw [hentries]; omega) (by rwa [hentries]), hzero]

/-! ### The close of a stay of one room -/

theorem State.vac_mirrorClose (s : State) (i : Nat) : (s.mirrorClose i).stays.vac = s.stays.vac := by
  rw [State.mirrorClose_eq, stays_toInn]
  rfl

theorem State.vac_closeEnds (s : State) (i : Nat) (a : Asker) (n : Nat) : (s.closeEnds i a n).stays.vac = s.stays.vac := by
  rw [State.closeEnds, stays_answer, State.freeEntry, State.stays_setStay]
  split
  · exact s.vac_mirrorClose i
  · rfl

theorem State.mem_closeEnds (s : State) (i : Nat) (a : Asker) (n : Nat) : (s.closeEnds i a n).mem = s.mem := by
  rw [State.closeEnds, mem_answer, State.freeEntry, State.mem_setStay]
  split
  · exact within_mirrorClose.same .mem (by decide)
  · rfl

theorem State.ledgerOf_count (s : State) (r : Nat) : (s.ledgerOf r).1 = leNat (s.peek (ledgerAt r) 4) % 65536 := rfl

/-- What giving up a chart leaves beside its references. -/
theorem State.freeChart_rooms (s : State) (i : Nat) (f : ChartFound) :
    (s.freeChart i f).mem = (f.rooms.foldl State.dropRef s).mem ∧ (s.freeChart i f).stays.vac = (f.rooms.foldl State.dropRef s).stays.vac := by
  rw [State.freeChart, State.modStay, State.mem_setStay, State.stays_setStay]
  exact ⟨rfl, rfl⟩

theorem completes_closeComplete_room {s : State} {i r : Nat} {ns : List Nat} (hstate : (s.stay i).state = 6) (hidle : (s.stay i).inflight = 0)
    (hphase : s.phase ≠ 6) (hwaiting : s.stays.waiting = []) (hmerge : s.mem.merge = []) (hchart : (s.readChart i).1 = ⟨ns, [r], true⟩)
    (hledger : s.ledgerOf r = (1, false)) (hvac : s.stays.vac.length = 8) :
    Completes (.closeComplete i) s (fun t => (t.ledgerOf r).1 = 0 ∧ t.stays.vac.getD (roomStack r) 0 = r) := by
  have hexec := exec_closeComplete_clean (who := none) hstate hidle hphase (by rw [hwaiting]; rfl) rfl (by rw [hwaiting]; rfl) (by rw [hchart])
  have hbound : r < 2 ^ 24 := readChart_lt s i r (by rw [hchart]; exact List.mem_singleton_self r)
  have hsound := Sound.of_nil hmerge
  have hunwaited : ReadsAs s s.unwaited := (ReadsAs.refl hsound).of_table rfl rfl s.stay_unwaited
  have hread := (reads_readChart i).after hunwaited
  have hanswer : (s.unwaited.readChart i).1 = ⟨ns, [r], true⟩ := ((reads_readChart i).answer hunwaited).trans hchart
  have hstill := still_readChart (s := s.unwaited) hmerge i
  obtain ⟨hcount, hlisted⟩ := State.dropRef_last hstill.2.2 hbound ((hread.ledgerOf r).trans hledger) (by rw [stays_readChart]; exact hvac)
  obtain ⟨hmem, hlist⟩ := (s.unwaited.readChart i).2.freeChart_rooms i ⟨ns, [r], true⟩
  rw [List.foldl_cons, List.foldl_nil] at hmem hlist
  refine ⟨_, hexec, ?_, ?_⟩
  · rw [State.ledgerOf_count, State.peek_congr_mem ((mem_retryAgents _).trans (State.mem_closeEnds _ _ _ _)), State.chartGone, hanswer,
      State.peek_congr_mem hmem, hcount]
  · rw [stays_retryAgents, State.vac_closeEnds, State.chartGone, hanswer, hlist, hlisted]

/-- Settles O27: every request over what it does in its turn, and the end of a CLOSE over what giving up a chart leaves. -/
theorem stayEndsComplete : Obligations.StayEndsComplete := by
  unfold Obligations.StayEndsComplete
  have hwide : (2 : Nat) ^ 32 = 256 ^ 4 := by norm_num
  exact ⟨
    fun _ _ _ _ h hkind hstate hreserved hcount hcard htwin hfree hbooked hclean hadmits =>
      completes_fork_empty h hkind hstate hreserved hcard htwin hfree hbooked hclean hadmits hcount,
    fun _ _ _ _ _ h hkind hstate hreserved htokens hpages hcard htwin hfree hbooked hclean hadmits hdepth hroot hroom hr hrefs hledger hlist hpos hmark hnode
        hzero =>
      completes_fork_shared h hkind hstate hreserved htokens hpages hcard htwin hfree hbooked hclean hadmits hdepth hroot hroom hr hrefs hledger hlist hpos
        hmark hnode hzero,
    fun _ _ _ h hkind hstate hmoving hhost => completes_park_host h hkind hstate hmoving hhost,
    fun _ _ _ h hkind hstate hmoving hpeer hnamed hnone => completes_park_nowhere h hkind hstate hmoving hpeer hnamed hnone,
    fun _ _ _ h hkind hstate hmoving => completes_unpark_open h hkind hstate hmoving,
    fun _ _ _ h hkind hstate _ htokens hoff hup hclean himage hadmits hhandle =>
      completes_unpark_host h hkind hstate htokens hoff hup hclean himage hadmits (hwide ▸ hhandle),
    fun _ _ _ h hkind hstate _ hadmits => completes_unpark_peer h hkind hstate hadmits,
    fun _ _ _ h hkind hstate hmoving => completes_close_waits h hkind hstate hmoving,
    fun _ _ _ h hkind hstate htwin hmoving => completes_close_evicted h hkind hstate htwin hmoving,
    fun _ _ _ hc hf hstate hidle hphase htwin _ hwaiting hclean => completes_closeComplete hc hf hstate hidle hphase htwin hwaiting hclean,
    fun _ _ _ _ hstate hidle hphase hwaiting hmerge hchart hledger hvac =>
      completes_closeComplete_room hstate hidle hphase hwaiting hmerge hchart hledger hvac,
    fun _ _ h => completes_closeComplete_other h⟩

end Sys2Proof.Machine
end
